-- ==== Sys2Proof/Word.lean ====
section
/-! DEFINITION. The words and bytes of the part and their plainest arithmetic (R92, R100). -/

namespace Sys2Proof

/-- A 32-bit register or memory word. -/
abbrev Word := BitVec 32

/-- A byte of memory. -/
abbrev Byte := BitVec 8

/-- A 64-bit time or count: cluster time, epoch, trace pointers. -/
abbrev DWord := BitVec 64

end Sys2Proof
end

