-- ==== Sys2Proof/Machine/RegMap.lean ====
section
/-! DEFINITION. The register map of the part, written from the register tables of spec/ (R89, R90, R119 to R121,
R145, R170, R171, R190, R214, R240, R272, R296, R297, R315, R316, R348, R349, R371, R372, R396, R398, R399, R424 to R426,
R428, R466, R467).  One `Field` per field of a table, named BLOCK_REGISTER_FIELD, and one `RegDef` per register. -/

namespace Sys2Proof

/-- The register blocks of R93 and R94.  `tgt` is the SPI target (index 0) and the I2C target (index 1). -/
inductive Block where
  | pmu | rtc | mpu | d2d | die | part | dpe | dsw | tt | mf | tcpd | pwr | adc | ent | gov | chord | tat | trc | bbc | ic | sys | qspi | fc | log | cal | mbx | tgt
deriving DecidableEq, Repr

/-- The Type column of a register table (R98). -/
inductive Access where
  | ro | rw | wo
deriving DecidableEq, Repr

/-- The Applies column of a register table (R101); `none` stands for the dash of an RO field. -/
inductive Applies where
  | none | f | m | p | t | i
deriving DecidableEq, Repr

/-- The class of a field for the collision rules (R99); `command` is a WO field. -/
inductive FieldClass where
  | status | command | counter | software | hwChange
deriving DecidableEq, Repr

/-- One field of a register: `id` is 32 times the register's number plus the field's lowest bit, so it names the
field; `reset` is its reset value (R98). -/
structure Field where
  id : Nat
  lo : Nat
  width : Nat
  reset : Nat
  access : Access
  applies : Applies
  paired : Bool
  cls : FieldClass
deriving DecidableEq, Repr

/-- Where a register lies: `n1` copies `s1` bytes apart, each of `n2` words `s2` bytes apart; the first copy has
index `first`.  `base` is the address in the normal view. -/
structure Place where
  base : Nat
  n1 : Nat
  s1 : Nat
  n2 : Nat
  s2 : Nat
  first : Nat
deriving DecidableEq, Repr

/-- One register of the map. -/
structure RegDef where
  reg : Nat
  blk : Block
  places : List Place
  fields : List Field
deriving DecidableEq, Repr

namespace F

/-! PMU_STAGE (R89), file 03. -/
def PMU_STAGE_HOLD : Field := ⟨0, 0, 1, 0, .rw, .i, false, .software⟩
/-! PMU_DOMCTL (R89), file 03. -/
def PMU_DOMCTL_PORTS : Field := ⟨39, 7, 4, 0, .rw, .i, false, .software⟩
def PMU_DOMCTL_UPLINK : Field := ⟨38, 6, 1, 0, .rw, .i, false, .software⟩
def PMU_DOMCTL_TRACE : Field := ⟨37, 5, 1, 0, .rw, .i, false, .software⟩
def PMU_DOMCTL_CHORD : Field := ⟨36, 4, 1, 0, .rw, .i, false, .software⟩
def PMU_DOMCTL_SERVICE : Field := ⟨35, 3, 1, 0, .rw, .i, false, .software⟩
def PMU_DOMCTL_FABRIC : Field := ⟨34, 2, 1, 0, .rw, .i, false, .software⟩
def PMU_DOMCTL_BOOT : Field := ⟨33, 1, 1, 1, .ro, .none, false, .status⟩
def PMU_DOMCTL_AON : Field := ⟨32, 0, 1, 1, .ro, .none, false, .status⟩
/-! PMU_DOMSTAT (R89), file 03. -/
def PMU_DOMSTAT_CHANGING : Field := ⟨80, 16, 11, 0, .ro, .none, false, .status⟩
def PMU_DOMSTAT_ON : Field := ⟨64, 0, 11, 3, .ro, .none, false, .status⟩
/-! PMU_RAILSTAT (R89), file 03. -/
def PMU_RAILSTAT_RAIL_EN : Field := ⟨109, 13, 3, 3, .ro, .none, false, .status⟩
def PMU_RAILSTAT_DB_ACTIVE : Field := ⟨108, 12, 1, 0, .ro, .none, false, .status⟩
def PMU_RAILSTAT_VBAT_OK : Field := ⟨107, 11, 1, 0, .ro, .none, false, .status⟩
def PMU_RAILSTAT_VCONN_OK : Field := ⟨106, 10, 1, 0, .ro, .none, false, .status⟩
def PMU_RAILSTAT_VIO_OK : Field := ⟨100, 4, 6, 0, .ro, .none, false, .status⟩
def PMU_RAILSTAT_VDD33_OK : Field := ⟨99, 3, 1, 0, .ro, .none, false, .status⟩
def PMU_RAILSTAT_VDD18_OK : Field := ⟨98, 2, 1, 0, .ro, .none, false, .status⟩
def PMU_RAILSTAT_VCORE_OK : Field := ⟨97, 1, 1, 0, .ro, .none, false, .status⟩
def PMU_RAILSTAT_BOOT_OK : Field := ⟨96, 0, 1, 0, .ro, .none, false, .status⟩
/-! PMU_RAILCTL (R89), file 03. -/
def PMU_RAILCTL_EN2 : Field := ⟨128, 0, 1, 0, .rw, .i, false, .software⟩
/-! PMU_CLKCTL (R89), file 03. -/
def PMU_CLKCTL_AUTO : Field := ⟨161, 1, 1, 1, .rw, .i, false, .software⟩
def PMU_CLKCTL_REFSEL : Field := ⟨160, 0, 1, 0, .rw, .i, false, .software⟩
/-! PMU_CLKSTAT (R89), file 03. -/
def PMU_CLKSTAT_THROTTLE : Field := ⟨197, 5, 2, 0, .ro, .none, false, .status⟩
def PMU_CLKSTAT_RTCXO_OK : Field := ⟨196, 4, 1, 0, .ro, .none, false, .status⟩
def PMU_CLKSTAT_PLL_LOCK : Field := ⟨195, 3, 1, 0, .ro, .none, false, .status⟩
def PMU_CLKSTAT_REF_ACTIVE : Field := ⟨194, 2, 1, 0, .ro, .none, false, .status⟩
def PMU_CLKSTAT_REC_OK : Field := ⟨193, 1, 1, 0, .ro, .none, false, .status⟩
def PMU_CLKSTAT_XO_OK : Field := ⟨192, 0, 1, 0, .ro, .none, false, .status⟩
/-! PMU_RESET_CAUSE (R89), file 03. -/
def PMU_RESET_CAUSE_SEEN : Field := ⟨240, 16, 11, 0, .ro, .none, false, .status⟩
def PMU_RESET_CAUSE_CHANNEL : Field := ⟨232, 8, 4, 0, .ro, .none, false, .status⟩
def PMU_RESET_CAUSE_CAUSE : Field := ⟨224, 0, 5, 1, .ro, .none, false, .status⟩
/-! PMU_COLLIDE (R89), file 03. -/
def PMU_COLLIDE_COUNT : Field := ⟨256, 0, 16, 0, .rw, .i, false, .counter⟩
/-! RTC_STAGE (R90), file 03. -/
def RTC_STAGE_HOLD : Field := ⟨288, 0, 1, 0, .rw, .i, false, .software⟩
/-! RTC_STATUS (R90), file 03. -/
def RTC_STATUS_ALARM_ARMED : Field := ⟨323, 3, 1, 0, .ro, .none, false, .status⟩
def RTC_STATUS_EPOCH_TRACK : Field := ⟨322, 2, 1, 0, .ro, .none, false, .status⟩
def RTC_STATUS_VBAT_LOW : Field := ⟨321, 1, 1, 0, .ro, .none, false, .status⟩
def RTC_STATUS_RTC_VALID : Field := ⟨320, 0, 1, 0, .ro, .none, false, .status⟩
/-! RTC_SNAP (R90), file 03. -/
def RTC_SNAP_SEL : Field := ⟨354, 2, 1, 0, .rw, .i, false, .software⟩
def RTC_SNAP_VALID : Field := ⟨353, 1, 1, 0, .ro, .none, false, .status⟩
def RTC_SNAP_REQ : Field := ⟨352, 0, 1, 0, .wo, .i, false, .command⟩
/-! RTC_SNAP_LO (R90), file 03. -/
def RTC_SNAP_LO_VALUE : Field := ⟨384, 0, 32, 0, .ro, .none, false, .status⟩
/-! RTC_SNAP_HI (R90), file 03. -/
def RTC_SNAP_HI_VALUE : Field := ⟨416, 0, 32, 0, .ro, .none, false, .status⟩
/-! RTC_ALARM_LO (R90), file 03. -/
def RTC_ALARM_LO_ALARM_LO : Field := ⟨448, 0, 32, 0, .rw, .i, true, .software⟩
/-! RTC_ALARM_HI (R90), file 03. -/
def RTC_ALARM_HI_ARM : Field := ⟨496, 16, 1, 0, .rw, .i, true, .hwChange⟩
def RTC_ALARM_HI_ALARM_HI : Field := ⟨480, 0, 16, 0, .rw, .i, true, .software⟩
/-! RTC_EPOCH_LO (R90), file 03. -/
def RTC_EPOCH_LO_EPOCH : Field := ⟨512, 0, 32, 0, .rw, .i, true, .hwChange⟩
/-! RTC_EPOCH_HI (R90), file 03. -/
def RTC_EPOCH_HI_EPOCH : Field := ⟨544, 0, 32, 0, .rw, .i, true, .hwChange⟩
/-! RTC_TRIM (R90), file 03. -/
def RTC_TRIM_TRIM : Field := ⟨576, 0, 16, 0, .rw, .i, false, .software⟩
/-! RTC_COLLIDE (R90), file 03. -/
def RTC_COLLIDE_COUNT : Field := ⟨608, 0, 16, 0, .rw, .i, false, .counter⟩
/-! MPU_STAGE (R119), file 04. -/
def MPU_STAGE_HOLD : Field := ⟨640, 0, 1, 0, .rw, .i, false, .software⟩
/-! MPU_FREEZE (R119), file 04. -/
def MPU_FREEZE_FROZEN : Field := ⟨672, 0, 11, 0, .ro, .none, false, .status⟩
/-! MPU_THAW (R119), file 04. -/
def MPU_THAW_THAW : Field := ⟨704, 0, 11, 0, .wo, .i, false, .command⟩
/-! MPU_VIOL_ADDR (R119), file 04. -/
def MPU_VIOL_ADDR_ADDR : Field := ⟨736, 0, 32, 0, .ro, .none, false, .status⟩
/-! MPU_VIOL_INFO (R119), file 04. -/
def MPU_VIOL_INFO_VALID : Field := ⟨777, 9, 1, 0, .ro, .none, false, .status⟩
def MPU_VIOL_INFO_WIDTH : Field := ⟨775, 7, 2, 0, .ro, .none, false, .status⟩
def MPU_VIOL_INFO_ACCESS : Field := ⟨774, 6, 1, 0, .ro, .none, false, .status⟩
def MPU_VIOL_INFO_REASON : Field := ⟨772, 4, 2, 0, .ro, .none, false, .status⟩
def MPU_VIOL_INFO_MASTER : Field := ⟨768, 0, 4, 0, .ro, .none, false, .status⟩
/-! MPU_VIOL_COUNT (R119), file 04. -/
def MPU_VIOL_COUNT_COUNT : Field := ⟨800, 0, 16, 0, .rw, .i, false, .counter⟩
/-! MPU_COLLIDE (R119), file 04. -/
def MPU_COLLIDE_COUNT : Field := ⟨832, 0, 16, 0, .rw, .i, false, .counter⟩
/-! MPU_WBASE (R119), file 04. -/
def MPU_WBASE_BASE : Field := ⟨876, 12, 20, 0, .rw, .i, true, .software⟩
/-! MPU_WLIMIT (R119), file 04. -/
def MPU_WLIMIT_LIMIT : Field := ⟨908, 12, 20, 0, .rw, .i, true, .software⟩
/-! MPU_WATTR (R119), file 04. -/
def MPU_WATTR_LOCK : Field := ⟨932, 4, 1, 0, .rw, .i, true, .software⟩
def MPU_WATTR_EN : Field := ⟨931, 3, 1, 0, .rw, .i, true, .software⟩
def MPU_WATTR_X : Field := ⟨930, 2, 1, 0, .rw, .i, true, .software⟩
def MPU_WATTR_W : Field := ⟨929, 1, 1, 0, .rw, .i, true, .software⟩
def MPU_WATTR_R : Field := ⟨928, 0, 1, 0, .rw, .i, true, .software⟩
/-! D2D_STAGE (R120), file 04. -/
def D2D_STAGE_HOLD : Field := ⟨960, 0, 1, 0, .rw, .i, false, .software⟩
/-! D2D_COLLIDE (R120), file 04. -/
def D2D_COLLIDE_COUNT : Field := ⟨992, 0, 16, 0, .rw, .i, false, .counter⟩
/-! D2D_LSTAT (R120), file 04. -/
def D2D_LSTAT_STATE : Field := ⟨1024, 0, 3, 0, .ro, .none, false, .status⟩
/-! D2D_LCNT0 (R120), file 04. -/
def D2D_LCNT0_LOSSES : Field := ⟨1072, 16, 16, 0, .rw, .i, false, .counter⟩
def D2D_LCNT0_RETRIES : Field := ⟨1056, 0, 16, 0, .rw, .i, false, .counter⟩
/-! D2D_LCNT1 (R120), file 04. -/
def D2D_LCNT1_DUPFAIL : Field := ⟨1104, 16, 16, 0, .rw, .i, false, .counter⟩
def D2D_LCNT1_TRAINS : Field := ⟨1088, 0, 16, 0, .rw, .i, false, .counter⟩
/-! DIE_STAGE (R121), file 04. -/
def DIE_STAGE_HOLD : Field := ⟨1120, 0, 1, 0, .rw, .i, false, .software⟩
/-! DIE_COLLIDE (R121), file 04. -/
def DIE_COLLIDE_COUNT : Field := ⟨1152, 0, 16, 0, .rw, .i, false, .counter⟩
/-! DIE_STAT (R121), file 04. -/
def DIE_STAT_TDIE : Field := ⟨1200, 16, 16, 0, .ro, .none, false, .status⟩
def DIE_STAT_D2DUP : Field := ⟨1186, 2, 1, 0, .ro, .none, false, .status⟩
def DIE_STAT_SHUTDOWN : Field := ⟨1185, 1, 1, 0, .ro, .none, false, .status⟩
def DIE_STAT_HOT : Field := ⟨1184, 0, 1, 0, .ro, .none, false, .status⟩
/-! DIE_REV (R121), file 04. -/
def DIE_REV_INDEX : Field := ⟨1232, 16, 4, 0, .ro, .none, false, .status⟩
def DIE_REV_STEP : Field := ⟨1224, 8, 8, 177, .ro, .none, false, .status⟩
def DIE_REV_TYPE : Field := ⟨1216, 0, 8, 0, .ro, .none, false, .status⟩
/-! DIE_CNT (R121), file 04. -/
def DIE_CNT_SHUTDOWNS : Field := ⟨1264, 16, 16, 0, .rw, .i, false, .counter⟩
def DIE_CNT_HOTS : Field := ⟨1248, 0, 16, 0, .rw, .i, false, .counter⟩
/-! PART_STAGE (R145), file 05. -/
def PART_STAGE_HOLD : Field := ⟨1280, 0, 1, 0, .rw, .i, false, .software⟩
/-! PART_PCTL (R145), file 05. -/
def PART_PCTL_ACCEPT : Field := ⟨1320, 8, 4, 0, .rw, .i, false, .software⟩
def PART_PCTL_VBUS_HOLD : Field := ⟨1313, 1, 1, 0, .rw, .f, false, .software⟩
def PART_PCTL_PULLUP : Field := ⟨1312, 0, 1, 0, .rw, .i, false, .software⟩
/-! PART_PSTAT (R145), file 05. -/
def PART_PSTAT_ADDR : Field := ⟨1352, 8, 7, 0, .ro, .none, false, .status⟩
def PART_PSTAT_DBOP : Field := ⟨1351, 7, 1, 0, .ro, .none, false, .status⟩
def PART_PSTAT_LPWR_LOST : Field := ⟨1350, 6, 1, 0, .ro, .none, false, .status⟩
def PART_PSTAT_TTALT : Field := ⟨1349, 5, 1, 0, .ro, .none, false, .status⟩
def PART_PSTAT_SUSPENDED : Field := ⟨1348, 4, 1, 0, .ro, .none, false, .status⟩
def PART_PSTAT_CONFIGURED : Field := ⟨1347, 3, 1, 0, .ro, .none, false, .status⟩
def PART_PSTAT_SPEED : Field := ⟨1346, 2, 1, 0, .ro, .none, false, .status⟩
def PART_PSTAT_ATTACHED : Field := ⟨1345, 1, 1, 0, .ro, .none, false, .status⟩
def PART_PSTAT_HOST : Field := ⟨1344, 0, 1, 0, .ro, .none, false, .status⟩
/-! PART_PCNT (R145), file 05. -/
def PART_PCNT_DETACHES : Field := ⟨1392, 16, 16, 0, .rw, .i, false, .counter⟩
def PART_PCNT_UPRESETS : Field := ⟨1376, 0, 16, 0, .rw, .i, false, .counter⟩
/-! PART_FRAME (R145), file 05. -/
def PART_FRAME_UFRAME : Field := ⟨1419, 11, 3, 0, .ro, .none, false, .status⟩
def PART_FRAME_FRAME : Field := ⟨1408, 0, 11, 0, .ro, .none, false, .status⟩
/-! PART_ASSIGN (R145), file 05. -/
def PART_ASSIGN_PORT0 : Field := ⟨1440, 0, 4, 15, .rw, .f, false, .hwChange⟩
def PART_ASSIGN_PORT1 : Field := ⟨1444, 4, 4, 15, .rw, .f, false, .hwChange⟩
def PART_ASSIGN_PORT2 : Field := ⟨1448, 8, 4, 15, .rw, .f, false, .hwChange⟩
def PART_ASSIGN_PORT3 : Field := ⟨1452, 12, 4, 15, .rw, .f, false, .hwChange⟩
def PART_ASSIGN_PORT4 : Field := ⟨1456, 16, 4, 15, .rw, .f, false, .hwChange⟩
def PART_ASSIGN_PORT5 : Field := ⟨1460, 20, 4, 15, .rw, .f, false, .hwChange⟩
def PART_ASSIGN_PORT6 : Field := ⟨1464, 24, 4, 15, .rw, .f, false, .hwChange⟩
def PART_ASSIGN_PORT7 : Field := ⟨1468, 28, 4, 15, .rw, .f, false, .hwChange⟩
/-! PART_HOSTPWR (R145), file 05. -/
def PART_HOSTPWR_PWR : Field := ⟨1472, 0, 32, 0, .ro, .none, false, .status⟩
/-! PART_MIGMASK (R145), file 05. -/
def PART_MIGMASK_MASK : Field := ⟨1504, 0, 32, 0, .rw, .i, false, .software⟩
/-! PART_MIGCTL (R145), file 05. -/
def PART_MIGCTL_GO : Field := ⟨1567, 31, 1, 0, .wo, .i, false, .command⟩
def PART_MIGCTL_TIMEOUT : Field := ⟨1544, 8, 8, 10, .rw, .i, false, .software⟩
def PART_MIGCTL_KEEPALIVE : Field := ⟨1538, 2, 1, 1, .rw, .i, false, .software⟩
def PART_MIGCTL_DEST : Field := ⟨1536, 0, 2, 0, .rw, .i, false, .software⟩
/-! PART_MIGBUSY (R145), file 05. -/
def PART_MIGBUSY_BUSY : Field := ⟨1568, 0, 32, 0, .ro, .none, false, .status⟩
/-! PART_MIGCNT (R145), file 05. -/
def PART_MIGCNT_ABORTED : Field := ⟨1616, 16, 16, 0, .rw, .i, false, .counter⟩
def PART_MIGCNT_DONE : Field := ⟨1600, 0, 16, 0, .rw, .i, false, .counter⟩
/-! PART_MIGREFUSE (R145), file 05. -/
def PART_MIGREFUSE_COUNT : Field := ⟨1632, 0, 16, 0, .rw, .i, false, .counter⟩
/-! PART_COLLIDE (R145), file 05. -/
def PART_COLLIDE_COUNT : Field := ⟨1664, 0, 16, 0, .rw, .i, false, .counter⟩
/-! DPE_STAGE (R170), file 06. -/
def DPE_STAGE_HOLD : Field := ⟨1696, 0, 1, 0, .rw, .i, false, .software⟩
/-! DPE_COLLIDE (R170), file 06. -/
def DPE_COLLIDE_COUNT : Field := ⟨1728, 0, 16, 0, .rw, .i, false, .counter⟩
/-! DPE_STATE (R170), file 06. -/
def DPE_STATE_PREV : Field := ⟨1776, 16, 4, 0, .ro, .none, false, .status⟩
def DPE_STATE_PART : Field := ⟨1772, 12, 4, 15, .ro, .none, false, .status⟩
def DPE_STATE_LOGPWR : Field := ⟨1771, 11, 1, 0, .ro, .none, false, .status⟩
def DPE_STATE_QUAR_FAULT : Field := ⟨1770, 10, 1, 0, .ro, .none, false, .status⟩
def DPE_STATE_ISO_CAUSE : Field := ⟨1768, 8, 2, 0, .ro, .none, false, .status⟩
def DPE_STATE_SWCLOSED : Field := ⟨1767, 7, 1, 0, .ro, .none, false, .status⟩
def DPE_STATE_DEV : Field := ⟨1766, 6, 1, 0, .ro, .none, false, .status⟩
def DPE_STATE_SPEED : Field := ⟨1764, 4, 2, 0, .ro, .none, false, .status⟩
def DPE_STATE_STATE : Field := ⟨1760, 0, 4, 0, .ro, .none, false, .status⟩
/-! DPE_PORTSTAT (R170), file 06. -/
def DPE_PORTSTAT_CHANGE : Field := ⟨1808, 16, 16, 0, .ro, .none, false, .status⟩
def DPE_PORTSTAT_STATUS : Field := ⟨1792, 0, 16, 0, .ro, .none, false, .status⟩
/-! DPE_CTL (R170), file 06. -/
def DPE_CTL_LPM_EN : Field := ⟨1826, 2, 1, 1, .rw, .f, false, .software⟩
def DPE_CTL_QUAR : Field := ⟨1825, 1, 1, 0, .rw, .f, false, .hwChange⟩
def DPE_CTL_ISOLATE : Field := ⟨1824, 0, 1, 0, .rw, .f, false, .hwChange⟩
/-! DPE_TIMING (R170), file 06. -/
def DPE_TIMING_RSMLEN : Field := ⟨1864, 8, 8, 20, .rw, .f, false, .software⟩
def DPE_TIMING_RSTLEN : Field := ⟨1856, 0, 8, 12, .rw, .f, false, .software⟩
/-! DPE_GLITCH_CFG (R170), file 06. -/
def DPE_GLITCH_CFG_LEN : Field := ⟨1904, 16, 16, 0, .rw, .i, true, .software⟩
def DPE_GLITCH_CFG_COUNT : Field := ⟨1892, 4, 4, 0, .rw, .i, true, .software⟩
def DPE_GLITCH_CFG_MIDPKT : Field := ⟨1891, 3, 1, 0, .rw, .i, true, .software⟩
def DPE_GLITCH_CFG_UNIT : Field := ⟨1890, 2, 1, 0, .rw, .i, true, .software⟩
def DPE_GLITCH_CFG_TYPE : Field := ⟨1888, 0, 2, 0, .rw, .i, true, .software⟩
/-! DPE_GLITCH_GAP (R170), file 06. -/
def DPE_GLITCH_GAP_GAP : Field := ⟨1920, 0, 24, 0, .rw, .i, true, .software⟩
/-! DPE_GLITCH_CTL (R170), file 06. -/
def DPE_GLITCH_CTL_WIN : Field := ⟨1960, 8, 8, 100, .rw, .i, false, .software⟩
def DPE_GLITCH_CTL_ARMED : Field := ⟨1954, 2, 1, 0, .ro, .none, false, .status⟩
def DPE_GLITCH_CTL_BUSY : Field := ⟨1953, 1, 1, 0, .ro, .none, false, .status⟩
def DPE_GLITCH_CTL_GO : Field := ⟨1952, 0, 1, 0, .wo, .i, false, .command⟩
/-! DPE_LPM (R170), file 06. -/
def DPE_LPM_ADDR : Field := ⟨1992, 8, 7, 0, .ro, .none, false, .status⟩
def DPE_LPM_RWE : Field := ⟨1988, 4, 1, 0, .ro, .none, false, .status⟩
def DPE_LPM_BESL : Field := ⟨1984, 0, 4, 0, .ro, .none, false, .status⟩
/-! DPE_CNT0 (R170), file 06. -/
def DPE_CNT0_DISCONNECTS : Field := ⟨2032, 16, 16, 0, .rw, .i, false, .counter⟩
def DPE_CNT0_CONNECTS : Field := ⟨2016, 0, 16, 0, .rw, .i, false, .counter⟩
/-! DPE_CNT1 (R170), file 06. -/
def DPE_CNT1_DISABLES : Field := ⟨2064, 16, 16, 0, .rw, .i, false, .counter⟩
def DPE_CNT1_RESETS : Field := ⟨2048, 0, 16, 0, .rw, .i, false, .counter⟩
/-! DPE_CNT2 (R170), file 06. -/
def DPE_CNT2_ABSORBED : Field := ⟨2096, 16, 16, 0, .rw, .i, false, .counter⟩
def DPE_CNT2_REMWAKES : Field := ⟨2080, 0, 16, 0, .rw, .i, false, .counter⟩
/-! DPE_CNT3 (R170), file 06. -/
def DPE_CNT3_GSUPPR : Field := ⟨2128, 16, 16, 0, .rw, .i, false, .counter⟩
def DPE_CNT3_GLITCHES : Field := ⟨2112, 0, 16, 0, .rw, .i, false, .counter⟩
/-! DPE_CNT4 (R170), file 06. -/
def DPE_CNT4_QREFUSE : Field := ⟨2160, 16, 16, 0, .rw, .i, false, .counter⟩
def DPE_CNT4_ISOLATIONS : Field := ⟨2144, 0, 16, 0, .rw, .i, false, .counter⟩
/-! DSW_STAGE (R171), file 06. -/
def DSW_STAGE_HOLD : Field := ⟨2176, 0, 1, 0, .rw, .i, false, .software⟩
/-! DSW_COLLIDE (R171), file 06. -/
def DSW_COLLIDE_COUNT : Field := ⟨2208, 0, 16, 0, .rw, .i, false, .counter⟩
/-! DSW_OVCFG (R171), file 06. -/
def DSW_OVCFG_OV_REL : Field := ⟨2248, 8, 8, 10, .rw, .i, false, .software⟩
def DSW_OVCFG_OV_AUTO : Field := ⟨2240, 0, 1, 1, .rw, .i, false, .software⟩
/-! DSW_PSTAT (R171), file 06. -/
def DSW_PSTAT_STBUSY : Field := ⟨2276, 4, 1, 0, .ro, .none, false, .status⟩
def DSW_PSTAT_QUAR : Field := ⟨2275, 3, 1, 0, .ro, .none, false, .status⟩
def DSW_PSTAT_OVHOLD : Field := ⟨2274, 2, 1, 0, .ro, .none, false, .status⟩
def DSW_PSTAT_OVLIVE : Field := ⟨2273, 1, 1, 0, .ro, .none, false, .status⟩
def DSW_PSTAT_SW : Field := ⟨2272, 0, 1, 0, .ro, .none, false, .status⟩
/-! DSW_PCTL (R171), file 06. -/
def DSW_PCTL_TESTS : Field := ⟨2306, 2, 3, 7, .rw, .i, false, .software⟩
def DSW_PCTL_STGO : Field := ⟨2305, 1, 1, 0, .wo, .i, false, .command⟩
def DSW_PCTL_REARM : Field := ⟨2304, 0, 1, 0, .wo, .i, false, .command⟩
/-! DSW_STRES (R171), file 06. -/
def DSW_STRES_RON : Field := ⟨2352, 16, 8, 0, .ro, .none, false, .status⟩
def DSW_STRES_LOOP_FAIL : Field := ⟨2342, 6, 3, 0, .ro, .none, false, .status⟩
def DSW_STRES_FUSE : Field := ⟨2340, 4, 2, 0, .ro, .none, false, .status⟩
def DSW_STRES_ISO : Field := ⟨2338, 2, 2, 0, .ro, .none, false, .status⟩
def DSW_STRES_LOOP : Field := ⟨2336, 0, 2, 0, .ro, .none, false, .status⟩
/-! DSW_STMEAS (R171), file 06. -/
def DSW_STMEAS_LEAK : Field := ⟨2384, 16, 8, 0, .ro, .none, false, .status⟩
def DSW_STMEAS_FTRIP_T : Field := ⟨2376, 8, 8, 0, .ro, .none, false, .status⟩
def DSW_STMEAS_ILIM_ERR : Field := ⟨2368, 0, 8, 0, .ro, .none, false, .status⟩
/-! DSW_PCNT (R171), file 06. -/
def DSW_PCNT_STRUNS : Field := ⟨2416, 16, 16, 0, .rw, .i, false, .counter⟩
def DSW_PCNT_OVTRIPS : Field := ⟨2400, 0, 16, 0, .rw, .i, false, .counter⟩
/-! TT_STAGE (R190), file 07. -/
def TT_STAGE_HOLD : Field := ⟨2432, 0, 1, 0, .rw, .i, false, .software⟩
/-! TT_COLLIDE (R190), file 07. -/
def TT_COLLIDE_COUNT : Field := ⟨2464, 0, 16, 0, .rw, .i, false, .counter⟩
/-! TT_POOL (R190), file 07. -/
def TT_POOL_RESERVED : Field := ⟨2512, 16, 11, 0, .ro, .none, false, .status⟩
def TT_POOL_FREE : Field := ⟨2496, 0, 11, 1024, .ro, .none, false, .status⟩
/-! TT_POOLUSE (R190), file 07. -/
def TT_POOLUSE_PUSE : Field := ⟨2544, 16, 11, 0, .ro, .none, false, .status⟩
def TT_POOLUSE_NPUSE : Field := ⟨2528, 0, 11, 0, .ro, .none, false, .status⟩
/-! TT_POOLCNT (R190), file 07. -/
def TT_POOLCNT_REJECTS : Field := ⟨2576, 16, 16, 0, .rw, .i, false, .counter⟩
def TT_POOLCNT_EMPTY : Field := ⟨2560, 0, 16, 0, .rw, .i, false, .counter⟩
/-! TT_POOLLOW (R190), file 07. -/
def TT_POOLLOW_LOW : Field := ⟨2592, 0, 11, 1024, .rw, .i, false, .hwChange⟩
/-! TT_ECC (R190), file 07. -/
def TT_ECC_UNCORR : Field := ⟨2640, 16, 16, 0, .rw, .i, false, .counter⟩
def TT_ECC_CORR : Field := ⟨2624, 0, 16, 0, .rw, .i, false, .counter⟩
/-! TT_BADSPLIT (R190), file 07. -/
def TT_BADSPLIT_COUNT : Field := ⟨2656, 0, 16, 0, .rw, .i, false, .counter⟩
/-! TT_ALLOC (R190), file 07. -/
def TT_ALLOC_PMAX : Field := ⟨2704, 16, 6, 62, .rw, .i, true, .hwChange⟩
def TT_ALLOC_PRES : Field := ⟨2696, 8, 6, 0, .rw, .i, true, .hwChange⟩
def TT_ALLOC_NPBUF : Field := ⟨2688, 0, 5, 2, .rw, .i, true, .hwChange⟩
/-! TT_PSTAT (R190), file 07. -/
def TT_PSTAT_WIRE : Field := ⟨2737, 17, 1, 0, .ro, .none, false, .status⟩
def TT_PSTAT_STOPPED : Field := ⟨2736, 16, 1, 0, .ro, .none, false, .status⟩
def TT_PSTAT_PUSE : Field := ⟨2728, 8, 7, 0, .ro, .none, false, .status⟩
def TT_PSTAT_NPUSE : Field := ⟨2720, 0, 5, 0, .ro, .none, false, .status⟩
/-! TT_PPEAK (R190), file 07. -/
def TT_PPEAK_NPPEAK : Field := ⟨2768, 16, 5, 0, .rw, .i, false, .hwChange⟩
def TT_PPEAK_PPEAK : Field := ⟨2752, 0, 7, 0, .rw, .i, false, .hwChange⟩
/-! TT_PCNT0 (R190), file 07. -/
def TT_PCNT0_PREFUSE : Field := ⟨2800, 16, 16, 0, .rw, .i, false, .counter⟩
def TT_PCNT0_NREFUSE : Field := ⟨2784, 0, 16, 0, .rw, .i, false, .counter⟩
/-! TT_PCNT1 (R190), file 07. -/
def TT_PCNT1_ABANDON : Field := ⟨2832, 16, 16, 0, .rw, .i, false, .counter⟩
def TT_PCNT1_CLEARS : Field := ⟨2816, 0, 16, 0, .rw, .i, false, .counter⟩
/-! TT_PCNT2 (R190), file 07. -/
def TT_PCNT2_ERRS : Field := ⟨2864, 16, 16, 0, .rw, .i, false, .counter⟩
def TT_PCNT2_DONE : Field := ⟨2848, 0, 16, 0, .rw, .i, false, .counter⟩
/-! MF_STAGE (R214), file 08. -/
def MF_STAGE_HOLD : Field := ⟨2880, 0, 1, 0, .rw, .i, false, .software⟩
/-! MF_COLLIDE (R214), file 08. -/
def MF_COLLIDE_COUNT : Field := ⟨2912, 0, 16, 0, .rw, .i, false, .counter⟩
/-! MF_CTL (R214), file 08. -/
def MF_CTL_SOFMODE : Field := ⟨2960, 16, 2, 0, .rw, .i, false, .software⟩
def MF_CTL_NOTEN : Field := ⟨2952, 8, 7, 3, .rw, .i, false, .software⟩
def MF_CTL_CONNECT : Field := ⟨2944, 0, 1, 0, .rw, .f, false, .software⟩
/-! MF_STAT (R214), file 08. -/
def MF_STAT_ADDR : Field := ⟨2985, 9, 7, 0, .ro, .none, false, .status⟩
def MF_STAT_DESC_BAD : Field := ⟨2984, 8, 1, 1, .ro, .none, false, .status⟩
def MF_STAT_RWE : Field := ⟨2983, 7, 1, 0, .ro, .none, false, .status⟩
def MF_STAT_CONFIGURED : Field := ⟨2982, 6, 1, 0, .ro, .none, false, .status⟩
def MF_STAT_SPEED : Field := ⟨2981, 5, 1, 0, .ro, .none, false, .status⟩
def MF_STAT_NOTPEND : Field := ⟨2980, 4, 1, 0, .ro, .none, false, .status⟩
def MF_STAT_PSTATE : Field := ⟨2976, 0, 4, 0, .ro, .none, false, .status⟩
/-! MF_SOFIDX (R214), file 08. -/
def MF_SOFIDX_SOFS : Field := ⟨3024, 16, 16, 0, .rw, .i, false, .counter⟩
def MF_SOFIDX_NEXT : Field := ⟨3008, 0, 6, 0, .ro, .none, false, .status⟩
/-! MF_CNT0 (R214), file 08. -/
def MF_CNT0_FRAMEDROP : Field := ⟨3056, 16, 16, 0, .rw, .i, false, .counter⟩
def MF_CNT0_FRAMES : Field := ⟨3040, 0, 16, 0, .rw, .i, false, .counter⟩
/-! MF_CNT1 (R214), file 08. -/
def MF_CNT1_NOTDROP : Field := ⟨3088, 16, 16, 0, .rw, .i, false, .counter⟩
def MF_CNT1_NOTICES : Field := ⟨3072, 0, 16, 0, .rw, .i, false, .counter⟩
/-! MF_CNT2 (R214), file 08. -/
def MF_CNT2_ABSORBED : Field := ⟨3128, 24, 8, 0, .rw, .i, false, .counter⟩
def MF_CNT2_CTLABORT : Field := ⟨3120, 16, 8, 0, .rw, .i, false, .counter⟩
def MF_CNT2_RESETS : Field := ⟨3104, 0, 16, 0, .rw, .i, false, .counter⟩
/-! MF_CNT3 (R214), file 08. -/
def MF_CNT3_NYETS : Field := ⟨3152, 16, 16, 0, .rw, .i, false, .counter⟩
def MF_CNT3_RESPDROP : Field := ⟨3136, 0, 16, 0, .rw, .i, false, .counter⟩
/-! MF_EPD (R214), file 08. -/
def MF_EPD_DBL : Field := ⟨3196, 28, 1, 0, .rw, .i, true, .software⟩
def MF_EPD_SIZE : Field := ⟨3184, 16, 12, 0, .rw, .i, true, .software⟩
def MF_EPD_START : Field := ⟨3168, 0, 11, 0, .rw, .i, true, .software⟩
/-! TCPD_STAGE (R240), file 09. -/
def TCPD_STAGE_HOLD : Field := ⟨3200, 0, 1, 0, .rw, .i, false, .software⟩
/-! TCPD_COLLIDE (R240), file 09. -/
def TCPD_COLLIDE_COUNT : Field := ⟨3232, 0, 16, 0, .rw, .i, false, .counter⟩
/-! TCPD_CCCFG (R240), file 09. -/
def TCPD_CCCFG_DISC_EN : Field := ⟨3274, 10, 1, 1, .rw, .m, false, .software⟩
def TCPD_CCCFG_VCONN_EN : Field := ⟨3273, 9, 1, 1, .rw, .m, false, .software⟩
def TCPD_CCCFG_DEBUG_EN : Field := ⟨3272, 8, 1, 1, .rw, .m, false, .software⟩
def TCPD_CCCFG_AUDIO_EN : Field := ⟨3271, 7, 1, 1, .rw, .m, false, .software⟩
def TCPD_CCCFG_RPLVL : Field := ⟨3268, 4, 2, 2, .rw, .m, false, .software⟩
def TCPD_CCCFG_ROLE : Field := ⟨3265, 1, 2, 0, .rw, .m, false, .software⟩
def TCPD_CCCFG_CCEN : Field := ⟨3264, 0, 1, 0, .rw, .i, false, .hwChange⟩
/-! TCPD_CCTIM (R240), file 09. -/
def TCPD_CCTIM_DCSRC : Field := ⟨3320, 24, 7, 50, .rw, .m, false, .software⟩
def TCPD_CCTIM_TDRP : Field := ⟨3312, 16, 8, 75, .rw, .m, false, .software⟩
def TCPD_CCTIM_TPDDB : Field := ⟨3304, 8, 8, 15, .rw, .m, false, .software⟩
def TCPD_CCTIM_TCCDB : Field := ⟨3296, 0, 8, 150, .rw, .m, false, .software⟩
/-! TCPD_CCSTAT (R240), file 09. -/
def TCPD_CCSTAT_DISCAUSE : Field := ⟨3352, 24, 4, 1, .ro, .none, false, .status⟩
def TCPD_CCSTAT_SINKCLAIM : Field := ⟨3351, 23, 1, 0, .ro, .none, false, .status⟩
def TCPD_CCSTAT_SINKBLOCK : Field := ⟨3350, 22, 1, 0, .ro, .none, false, .status⟩
def TCPD_CCSTAT_VSAFE0 : Field := ⟨3349, 21, 1, 1, .ro, .none, false, .status⟩
def TCPD_CCSTAT_CONTRACT : Field := ⟨3348, 20, 1, 0, .ro, .none, false, .status⟩
def TCPD_CCSTAT_RPOUT : Field := ⟨3346, 18, 2, 0, .ro, .none, false, .status⟩
def TCPD_CCSTAT_RPSEEN : Field := ⟨3344, 16, 2, 0, .ro, .none, false, .status⟩
def TCPD_CCSTAT_ACC : Field := ⟨3342, 14, 2, 0, .ro, .none, false, .status⟩
def TCPD_CCSTAT_CABLE_RA : Field := ⟨3341, 13, 1, 0, .ro, .none, false, .status⟩
def TCPD_CCSTAT_POLARITY : Field := ⟨3340, 12, 1, 0, .ro, .none, false, .status⟩
def TCPD_CCSTAT_CC2 : Field := ⟨3337, 9, 3, 0, .ro, .none, false, .status⟩
def TCPD_CCSTAT_CC1 : Field := ⟨3334, 6, 3, 0, .ro, .none, false, .status⟩
def TCPD_CCSTAT_STATE : Field := ⟨3328, 0, 4, 0, .ro, .none, false, .status⟩
/-! TCPD_CTL (R240), file 09. -/
def TCPD_CTL_DISCGO : Field := ⟨3362, 2, 1, 0, .wo, .i, false, .command⟩
def TCPD_CTL_VCREARM : Field := ⟨3360, 0, 1, 0, .wo, .i, false, .command⟩
/-! TCPD_VCSTAT (R240), file 09. -/
def TCPD_VCSTAT_VCCUR : Field := ⟨3408, 16, 10, 0, .ro, .none, false, .status⟩
def TCPD_VCSTAT_VCREV : Field := ⟨3395, 3, 1, 0, .ro, .none, false, .status⟩
def TCPD_VCSTAT_VCFAULT : Field := ⟨3394, 2, 1, 0, .ro, .none, false, .status⟩
def TCPD_VCSTAT_VCPIN : Field := ⟨3393, 1, 1, 0, .ro, .none, false, .status⟩
def TCPD_VCSTAT_VCON : Field := ⟨3392, 0, 1, 0, .ro, .none, false, .status⟩
/-! TCPD_CABLE (R240), file 09. -/
def TCPD_CABLE_VID : Field := ⟨3440, 16, 16, 0, .ro, .none, false, .status⟩
def TCPD_CABLE_CEILEPR : Field := ⟨3435, 11, 1, 0, .ro, .none, false, .status⟩
def TCPD_CABLE_CEIL5A : Field := ⟨3434, 10, 1, 0, .ro, .none, false, .status⟩
def TCPD_CABLE_NOMARK : Field := ⟨3433, 9, 1, 0, .ro, .none, false, .status⟩
def TCPD_CABLE_EPR : Field := ⟨3432, 8, 1, 0, .ro, .none, false, .status⟩
def TCPD_CABLE_VMAX : Field := ⟨3430, 6, 2, 0, .ro, .none, false, .status⟩
def TCPD_CABLE_ICAB : Field := ⟨3428, 4, 2, 0, .ro, .none, false, .status⟩
def TCPD_CABLE_SOP2 : Field := ⟨3427, 3, 1, 0, .ro, .none, false, .status⟩
def TCPD_CABLE_ACTIVE : Field := ⟨3426, 2, 1, 0, .ro, .none, false, .status⟩
def TCPD_CABLE_BUSY : Field := ⟨3425, 1, 1, 0, .ro, .none, false, .status⟩
def TCPD_CABLE_VALID : Field := ⟨3424, 0, 1, 0, .ro, .none, false, .status⟩
/-! TCPD_CABLEVDO (R240), file 09. -/
def TCPD_CABLEVDO_VDO : Field := ⟨3456, 0, 32, 0, .ro, .none, false, .status⟩
/-! TCPD_CNT0 (R240), file 09. -/
def TCPD_CNT0_DETACHES : Field := ⟨3504, 16, 16, 0, .rw, .i, false, .counter⟩
def TCPD_CNT0_ATTACHES : Field := ⟨3488, 0, 16, 0, .rw, .i, false, .counter⟩
/-! TCPD_CNT1 (R240), file 09. -/
def TCPD_CNT1_CCOVTRIPS : Field := ⟨3536, 16, 16, 0, .rw, .i, false, .counter⟩
def TCPD_CNT1_VCTRIPS : Field := ⟨3520, 0, 16, 0, .rw, .i, false, .counter⟩
/-! TCPD_CNT2 (R240), file 09. -/
def TCPD_CNT2_DISCFAIL : Field := ⟨3568, 16, 16, 0, .rw, .i, false, .counter⟩
def TCPD_CNT2_DISCOK : Field := ⟨3552, 0, 16, 0, .rw, .i, false, .counter⟩
/-! TCPD_CNT3 (R240), file 09. -/
def TCPD_CNT3_RPCAPS : Field := ⟨3600, 16, 16, 0, .rw, .i, false, .counter⟩
def TCPD_CNT3_ACCESSORIES : Field := ⟨3584, 0, 16, 0, .rw, .i, false, .counter⟩
/-! TCPD_PDCFG (R272), file 10. -/
def TCPD_PDCFG_PROFILE : Field := ⟨3632, 16, 3, 0, .rw, .m, false, .hwChange⟩
def TCPD_PDCFG_EPR_EN : Field := ⟨3625, 9, 1, 1, .rw, .m, false, .software⟩
def TCPD_PDCFG_PPS_EN : Field := ⟨3624, 8, 1, 1, .rw, .m, false, .software⟩
def TCPD_PDCFG_PRS_EN : Field := ⟨3619, 3, 1, 0, .rw, .m, false, .software⟩
def TCPD_PDCFG_VCS_EN : Field := ⟨3618, 2, 1, 1, .rw, .m, false, .software⟩
def TCPD_PDCFG_PD_EN : Field := ⟨3616, 0, 1, 1, .rw, .m, false, .software⟩
/-! TCPD_PDSTAT (R272), file 10. -/
def TCPD_PDSTAT_HOLD : Field := ⟨3663, 15, 1, 0, .ro, .none, false, .status⟩
def TCPD_PDSTAT_AMS : Field := ⟨3662, 14, 1, 0, .ro, .none, false, .status⟩
def TCPD_PDSTAT_HRST : Field := ⟨3661, 13, 1, 0, .ro, .none, false, .status⟩
def TCPD_PDSTAT_SWAP : Field := ⟨3660, 12, 1, 0, .ro, .none, false, .status⟩
def TCPD_PDSTAT_FEED48 : Field := ⟨3659, 11, 1, 0, .ro, .none, false, .status⟩
def TCPD_PDSTAT_EPRMODE : Field := ⟨3658, 10, 1, 0, .ro, .none, false, .status⟩
def TCPD_PDSTAT_PTYPE : Field := ⟨3656, 8, 2, 0, .ro, .none, false, .status⟩
def TCPD_PDSTAT_REV : Field := ⟨3654, 6, 2, 0, .ro, .none, false, .status⟩
def TCPD_PDSTAT_VCSRC : Field := ⟨3653, 5, 1, 0, .ro, .none, false, .status⟩
def TCPD_PDSTAT_DROLE : Field := ⟨3652, 4, 1, 0, .ro, .none, false, .status⟩
def TCPD_PDSTAT_PROLE : Field := ⟨3651, 3, 1, 0, .ro, .none, false, .status⟩
/-! TCPD_CONTRACT (R272), file 10. -/
def TCPD_CONTRACT_OBJPOS : Field := ⟨3708, 28, 4, 0, .ro, .none, false, .status⟩
def TCPD_CONTRACT_VOLT : Field := ⟨3696, 16, 12, 0, .ro, .none, false, .status⟩
def TCPD_CONTRACT_CURR : Field := ⟨3680, 0, 10, 0, .ro, .none, false, .status⟩
/-! TCPD_GRANT (R272), file 10. -/
def TCPD_GRANT_PCAP : Field := ⟨3736, 24, 8, 0, .ro, .none, false, .status⟩
def TCPD_GRANT_GRANT : Field := ⟨3712, 0, 16, 0, .ro, .none, false, .status⟩
/-! TCPD_TXCTL (R272), file 10. -/
def TCPD_TXCTL_EXT : Field := ⟨3760, 16, 1, 0, .rw, .i, false, .software⟩
def TCPD_TXCTL_LEN : Field := ⟨3752, 8, 8, 0, .rw, .i, false, .software⟩
def TCPD_TXCTL_SOP : Field := ⟨3748, 4, 3, 0, .rw, .i, false, .software⟩
def TCPD_TXCTL_RESULT : Field := ⟨3746, 2, 2, 0, .ro, .none, false, .status⟩
def TCPD_TXCTL_BUSY : Field := ⟨3745, 1, 1, 0, .ro, .none, false, .status⟩
def TCPD_TXCTL_GO : Field := ⟨3744, 0, 1, 0, .wo, .i, false, .command⟩
/-! TCPD_TXHDR (R272), file 10. -/
def TCPD_TXHDR_EXTHDR : Field := ⟨3792, 16, 16, 0, .rw, .i, false, .software⟩
def TCPD_TXHDR_HDR : Field := ⟨3776, 0, 16, 0, .rw, .i, false, .software⟩
/-! TCPD_RXSTAT (R272), file 10. -/
def TCPD_RXSTAT_RELEASE : Field := ⟨3839, 31, 1, 0, .wo, .i, false, .command⟩
def TCPD_RXSTAT_EXT : Field := ⟨3824, 16, 1, 0, .ro, .none, false, .status⟩
def TCPD_RXSTAT_LEN : Field := ⟨3816, 8, 8, 0, .ro, .none, false, .status⟩
def TCPD_RXSTAT_SOP : Field := ⟨3809, 1, 3, 0, .ro, .none, false, .status⟩
def TCPD_RXSTAT_FULL : Field := ⟨3808, 0, 1, 0, .ro, .none, false, .status⟩
/-! TCPD_RXHDR (R272), file 10. -/
def TCPD_RXHDR_EXTHDR : Field := ⟨3856, 16, 16, 0, .ro, .none, false, .status⟩
def TCPD_RXHDR_HDR : Field := ⟨3840, 0, 16, 0, .ro, .none, false, .status⟩
/-! TCPD_SINKCFG (R272), file 10. -/
def TCPD_SINKCFG_PDMAX : Field := ⟨3898, 26, 6, 10, .rw, .p, false, .software⟩
def TCPD_SINKCFG_ISET_B : Field := ⟨3888, 16, 8, 0, .rw, .p, true, .software⟩
def TCPD_SINKCFG_ISET_A : Field := ⟨3880, 8, 8, 0, .rw, .p, true, .software⟩
def TCPD_SINKCFG_SEL : Field := ⟨3874, 2, 1, 0, .rw, .p, false, .hwChange⟩
def TCPD_SINKCFG_MODE : Field := ⟨3873, 1, 1, 0, .rw, .p, true, .software⟩
/-! TCPD_SINKSTAT (R272), file 10. -/
def TCPD_SINKSTAT_IMEAS : Field := ⟨3920, 16, 16, 0, .ro, .none, false, .status⟩
def TCPD_SINKSTAT_PDLIM : Field := ⟨3905, 1, 1, 0, .ro, .none, false, .status⟩
def TCPD_SINKSTAT_SKGON : Field := ⟨3904, 0, 1, 0, .ro, .none, false, .status⟩
/-! TCPD_PDCNT0 (R272), file 10. -/
def TCPD_PDCNT0_WAITS : Field := ⟨3952, 16, 16, 0, .rw, .i, false, .counter⟩
def TCPD_PDCNT0_CONTRACTS : Field := ⟨3936, 0, 16, 0, .rw, .i, false, .counter⟩
/-! TCPD_PDCNT1 (R272), file 10. -/
def TCPD_PDCNT1_HRESETS : Field := ⟨3984, 16, 16, 0, .rw, .i, false, .counter⟩
def TCPD_PDCNT1_SRESETS : Field := ⟨3968, 0, 16, 0, .rw, .i, false, .counter⟩
/-! TCPD_PDCNT2 (R272), file 10. -/
def TCPD_PDCNT2_PRSWAPS : Field := ⟨4016, 16, 16, 0, .rw, .i, false, .counter⟩
def TCPD_PDCNT2_VCSWAPS : Field := ⟨4000, 0, 16, 0, .rw, .i, false, .counter⟩
/-! TCPD_PDCNT3 (R272), file 10. -/
def TCPD_PDCNT3_TXFAIL : Field := ⟨4048, 16, 16, 0, .rw, .i, false, .counter⟩
def TCPD_PDCNT3_RXBUSY : Field := ⟨4032, 0, 16, 0, .rw, .i, false, .counter⟩
/-! TCPD_PDCNT4 (R272), file 10. -/
def TCPD_PDCNT4_REJECTS : Field := ⟨4080, 16, 16, 0, .rw, .i, false, .counter⟩
def TCPD_PDCNT4_EPRENTRY : Field := ⟨4064, 0, 16, 0, .rw, .i, false, .counter⟩
/-! TCPD_TXBUF (R272), file 10. -/
def TCPD_TXBUF_DATA : Field := ⟨4096, 0, 32, 0, .rw, .i, false, .software⟩
/-! TCPD_RXBUF (R272), file 10. -/
def TCPD_RXBUF_DATA : Field := ⟨4128, 0, 32, 0, .ro, .none, false, .status⟩
/-! PWR_STAGE (R296), file 11. -/
def PWR_STAGE_HOLD : Field := ⟨4160, 0, 1, 0, .rw, .i, false, .software⟩
/-! PWR_COLLIDE (R296), file 11. -/
def PWR_COLLIDE_COUNT : Field := ⟨4192, 0, 16, 0, .rw, .i, false, .counter⟩
/-! PWR_BCFG (R296), file 11. -/
def PWR_BCFG_PSKIP : Field := ⟨4232, 8, 1, 1, .rw, .p, false, .software⟩
def PWR_BCFG_FSW : Field := ⟨4224, 0, 8, 50, .rw, .p, false, .software⟩
/-! PWR_CSTAT (R296), file 11. -/
def PWR_CSTAT_VBRD_OV : Field := ⟨4265, 9, 1, 0, .ro, .none, false, .status⟩
def PWR_CSTAT_VBRD_UV : Field := ⟨4264, 8, 1, 0, .ro, .none, false, .status⟩
def PWR_CSTAT_FSWNOW : Field := ⟨4256, 0, 8, 50, .ro, .none, false, .status⟩
/-! PWR_VSET (R296), file 11. -/
def PWR_VSET_SLEW : Field := ⟨4312, 24, 8, 5, .rw, .p, false, .software⟩
def PWR_VSET_TSETTLE : Field := ⟨4304, 16, 8, 10, .rw, .p, false, .software⟩
def PWR_VSET_VSET : Field := ⟨4288, 0, 13, 500, .rw, .p, false, .software⟩
/-! PWR_LIM (R296), file 11. -/
def PWR_LIM_IRAMP : Field := ⟨4336, 16, 8, 40, .rw, .p, true, .software⟩
def PWR_LIM_IMARGIN : Field := ⟨4332, 12, 4, 2, .rw, .p, true, .software⟩
def PWR_LIM_ILIM : Field := ⟨4320, 0, 8, 150, .rw, .p, true, .software⟩
/-! PWR_TIM (R296), file 11. -/
def PWR_TIM_RSLEW : Field := ⟨4380, 28, 4, 4, .rw, .p, true, .software⟩
def PWR_TIM_TQUAL : Field := ⟨4372, 20, 8, 10, .rw, .p, true, .software⟩
def PWR_TIM_TFLT : Field := ⟨4352, 0, 9, 80, .rw, .p, true, .software⟩
/-! PWR_RETRY (R296), file 11. -/
def PWR_RETRY_RDLY : Field := ⟨4392, 8, 8, 10, .rw, .p, false, .software⟩
def PWR_RETRY_RETRY : Field := ⟨4384, 0, 3, 3, .rw, .p, false, .software⟩
/-! PWR_THCFG (R296), file 11. -/
def PWR_THCFG_RON : Field := ⟨4440, 24, 8, 60, .rw, .p, false, .software⟩
def PWR_THCFG_TTRIP : Field := ⟨4432, 16, 8, 150, .rw, .p, false, .software⟩
def PWR_THCFG_TSRC : Field := ⟨4416, 0, 1, 0, .rw, .p, false, .software⟩
/-! PWR_THP0 (R296), file 11. -/
def PWR_THP0_RCA : Field := ⟨4464, 16, 16, 2000, .rw, .p, true, .software⟩
def PWR_THP0_RJC : Field := ⟨4448, 0, 16, 800, .rw, .p, true, .software⟩
/-! PWR_THP1 (R296), file 11. -/
def PWR_THP1_TAUC : Field := ⟨4496, 16, 16, 500, .rw, .p, true, .software⟩
def PWR_THP1_TAUJ : Field := ⟨4480, 0, 16, 200, .rw, .p, true, .software⟩
/-! PWR_NTC (R296), file 11. -/
def PWR_NTC_B : Field := ⟨4528, 16, 16, 3435, .rw, .p, false, .software⟩
def PWR_NTC_RNOM : Field := ⟨4512, 0, 16, 1000, .rw, .p, false, .software⟩
/-! PWR_COMP (R296), file 11. -/
def PWR_COMP_KD : Field := ⟨4560, 16, 8, 96, .rw, .p, false, .software⟩
def PWR_COMP_KI : Field := ⟨4552, 8, 8, 32, .rw, .p, false, .software⟩
def PWR_COMP_KP : Field := ⟨4544, 0, 8, 48, .rw, .p, false, .software⟩
/-! PWR_PCTL (R296), file 11. -/
def PWR_PCTL_CLRLATCH : Field := ⟨4578, 2, 1, 0, .wo, .i, false, .command⟩
def PWR_PCTL_VOFF : Field := ⟨4576, 0, 1, 0, .rw, .i, false, .hwChange⟩
/-! PWR_PSTAT (R296), file 11. -/
def PWR_PSTAT_CAUSE : Field := ⟨4636, 28, 4, 0, .ro, .none, false, .status⟩
def PWR_PSTAT_DURRAMP : Field := ⟨4635, 27, 1, 0, .ro, .none, false, .status⟩
def PWR_PSTAT_RETRYLEFT : Field := ⟨4632, 24, 3, 3, .ro, .none, false, .status⟩
def PWR_PSTAT_OVLDX : Field := ⟨4631, 23, 1, 0, .ro, .none, false, .status⟩
def PWR_PSTAT_CL : Field := ⟨4630, 22, 1, 0, .ro, .none, false, .status⟩
def PWR_PSTAT_DROPOUT : Field := ⟨4629, 21, 1, 0, .ro, .none, false, .status⟩
def PWR_PSTAT_LIMIT : Field := ⟨4628, 20, 1, 0, .ro, .none, false, .status⟩
def PWR_PSTAT_PG : Field := ⟨4627, 19, 1, 0, .ro, .none, false, .status⟩
def PWR_PSTAT_GATEON : Field := ⟨4626, 18, 1, 0, .ro, .none, false, .status⟩
def PWR_PSTAT_STATE : Field := ⟨4608, 0, 4, 0, .ro, .none, false, .status⟩
/-! PWR_LEVELS (R296), file 11. -/
def PWR_LEVELS_ICLAMP : Field := ⟨4664, 24, 8, 150, .ro, .none, false, .status⟩
def PWR_LEVELS_IFT : Field := ⟨4656, 16, 8, 10, .ro, .none, false, .status⟩
def PWR_LEVELS_IPK : Field := ⟨4648, 8, 8, 15, .ro, .none, false, .status⟩
def PWR_LEVELS_ILIM_EFF : Field := ⟨4640, 0, 8, 10, .ro, .none, false, .status⟩
/-! PWR_CNT0 (R296), file 11. -/
def PWR_CNT0_LIMTRIPS : Field := ⟨4688, 16, 16, 0, .rw, .i, false, .counter⟩
def PWR_CNT0_FASTTRIPS : Field := ⟨4672, 0, 16, 0, .rw, .i, false, .counter⟩
/-! PWR_CNT1 (R296), file 11. -/
def PWR_CNT1_THTRIPS : Field := ⟨4720, 16, 16, 0, .rw, .i, false, .counter⟩
def PWR_CNT1_OTHERTRIPS : Field := ⟨4704, 0, 16, 0, .rw, .i, false, .counter⟩
/-! PWR_CNT2 (R296), file 11. -/
def PWR_CNT2_RETRIES : Field := ⟨4752, 16, 16, 0, .rw, .i, false, .counter⟩
def PWR_CNT2_LATCHES : Field := ⟨4736, 0, 16, 0, .rw, .i, false, .counter⟩
/-! PWR_CNT3 (R296), file 11. -/
def PWR_CNT3_OVLDEXH : Field := ⟨4784, 16, 16, 0, .rw, .i, false, .counter⟩
def PWR_CNT3_LREFUSE : Field := ⟨4768, 0, 16, 0, .rw, .i, false, .counter⟩
/-! ADC_STAGE (R297), file 11. -/
def ADC_STAGE_HOLD : Field := ⟨4800, 0, 1, 0, .rw, .i, false, .software⟩
/-! ADC_COLLIDE (R297), file 11. -/
def ADC_COLLIDE_COUNT : Field := ⟨4832, 0, 16, 0, .rw, .i, false, .counter⟩
/-! ADC_SNAP (R297), file 11. -/
def ADC_SNAP_SEL : Field := ⟨4866, 2, 4, 0, .rw, .i, false, .software⟩
def ADC_SNAP_VALID : Field := ⟨4865, 1, 1, 0, .ro, .none, false, .status⟩
def ADC_SNAP_REQ : Field := ⟨4864, 0, 1, 0, .wo, .i, false, .command⟩
/-! ADC_SNAP_LO (R297), file 11. -/
def ADC_SNAP_LO_VALUE : Field := ⟨4896, 0, 32, 0, .ro, .none, false, .status⟩
/-! ADC_SNAP_HI (R297), file 11. -/
def ADC_SNAP_HI_VALUE : Field := ⟨4928, 0, 32, 0, .ro, .none, false, .status⟩
/-! ADC_BRD (R297), file 11. -/
def ADC_BRD_TDIE : Field := ⟨4976, 16, 16, 0, .ro, .none, false, .status⟩
def ADC_BRD_VBRD : Field := ⟨4960, 0, 16, 0, .ro, .none, false, .status⟩
/-! ADC_PCFG (R297), file 11. -/
def ADC_PCFG_RSHUNT : Field := ⟨4992, 0, 8, 100, .rw, .p, false, .software⟩
/-! ADC_PV (R297), file 11. -/
def ADC_PV_VOUT : Field := ⟨5040, 16, 16, 0, .ro, .none, false, .status⟩
def ADC_PV_VBUS : Field := ⟨5024, 0, 16, 0, .ro, .none, false, .status⟩
/-! ADC_PI (R297), file 11. -/
def ADC_PI_IPEAK : Field := ⟨5072, 16, 16, 0, .rw, .i, false, .hwChange⟩
def ADC_PI_IBUS : Field := ⟨5056, 0, 16, 0, .ro, .none, false, .status⟩
/-! ADC_PT (R297), file 11. -/
def ADC_PT_TCASE : Field := ⟨5104, 16, 16, 0, .ro, .none, false, .status⟩
def ADC_PT_TEST : Field := ⟨5088, 0, 16, 0, .ro, .none, false, .status⟩
/-! ADC_POVL (R297), file 11. -/
def ADC_POVL_OVLDSUM : Field := ⟨5120, 0, 14, 0, .ro, .none, false, .status⟩
/-! ADC_PPWR (R297), file 11. -/
def ADC_PPWR_PFET : Field := ⟨5168, 16, 16, 0, .ro, .none, false, .status⟩
def ADC_PPWR_POUT : Field := ⟨5152, 0, 16, 0, .ro, .none, false, .status⟩
/-! ENT_STAGE (R315), file 12. -/
def ENT_STAGE_HOLD : Field := ⟨5184, 0, 1, 0, .rw, .i, false, .software⟩
/-! ENT_COLLIDE (R315), file 12. -/
def ENT_COLLIDE_COUNT : Field := ⟨5216, 0, 16, 0, .rw, .i, false, .counter⟩
/-! ENT_HSCFG (R315), file 12. -/
def ENT_HSCFG_HSIRAMP : Field := ⟨5272, 24, 8, 10, .rw, .p, true, .software⟩
def ENT_HSCFG_HSILIM : Field := ⟨5256, 8, 8, 80, .rw, .p, true, .software⟩
def ENT_HSCFG_RSHUNT : Field := ⟨5248, 0, 8, 50, .rw, .p, true, .software⟩
/-! ENT_HSTIM (R315), file 12. -/
def ENT_HSTIM_HSSLEW : Field := ⟨5308, 28, 4, 10, .rw, .p, true, .software⟩
def ENT_HSTIM_HSQUAL : Field := ⟨5300, 20, 8, 20, .rw, .p, true, .software⟩
def ENT_HSTIM_HSTFLT : Field := ⟨5280, 0, 9, 100, .rw, .p, true, .software⟩
/-! ENT_HSRETRY (R315), file 12. -/
def ENT_HSRETRY_RDLY : Field := ⟨5320, 8, 8, 10, .rw, .p, false, .software⟩
def ENT_HSRETRY_RETRY : Field := ⟨5312, 0, 3, 3, .rw, .p, false, .software⟩
/-! ENT_HSTH (R315), file 12. -/
def ENT_HSTH_RON : Field := ⟨5368, 24, 8, 10, .rw, .p, false, .software⟩
def ENT_HSTH_TTRIP : Field := ⟨5360, 16, 8, 150, .rw, .p, false, .software⟩
def ENT_HSTH_TSRC : Field := ⟨5344, 0, 1, 0, .rw, .p, false, .software⟩
/-! ENT_HSTHP0 (R315), file 12. -/
def ENT_HSTHP0_RCA : Field := ⟨5392, 16, 16, 1000, .rw, .p, true, .software⟩
def ENT_HSTHP0_RJC : Field := ⟨5376, 0, 16, 400, .rw, .p, true, .software⟩
/-! ENT_HSTHP1 (R315), file 12. -/
def ENT_HSTHP1_TAUC : Field := ⟨5424, 16, 16, 1000, .rw, .p, true, .software⟩
def ENT_HSTHP1_TAUJ : Field := ⟨5408, 0, 16, 500, .rw, .p, true, .software⟩
/-! ENT_HSNTC (R315), file 12. -/
def ENT_HSNTC_B : Field := ⟨5456, 16, 16, 3435, .rw, .p, false, .software⟩
def ENT_HSNTC_RNOM : Field := ⟨5440, 0, 16, 1000, .rw, .p, false, .software⟩
/-! ENT_SURGE (R315), file 12. -/
def ENT_SURGE_VSURGE : Field := ⟨5488, 16, 10, 610, .rw, .p, false, .software⟩
def ENT_SURGE_VCLAMP : Field := ⟨5472, 0, 10, 600, .rw, .p, false, .software⟩
/-! ENT_HCTL (R315), file 12. -/
def ENT_HCTL_CLRLATCH : Field := ⟨5507, 3, 1, 0, .wo, .i, false, .command⟩
def ENT_HCTL_HSOFF : Field := ⟨5506, 2, 1, 0, .rw, .i, false, .software⟩
def ENT_HCTL_FOFF_B : Field := ⟨5505, 1, 1, 0, .rw, .i, false, .software⟩
def ENT_HCTL_FOFF_A : Field := ⟨5504, 0, 1, 0, .rw, .i, false, .software⟩
/-! ENT_HSTAT (R315), file 12. -/
def ENT_HSTAT_CAUSE : Field := ⟨5564, 28, 4, 0, .ro, .none, false, .status⟩
def ENT_HSTAT_RETRYLEFT : Field := ⟨5560, 24, 3, 3, .ro, .none, false, .status⟩
def ENT_HSTAT_CLAMP : Field := ⟨5559, 23, 1, 0, .ro, .none, false, .status⟩
def ENT_HSTAT_LIMIT : Field := ⟨5558, 22, 1, 0, .ro, .none, false, .status⟩
def ENT_HSTAT_GATEON : Field := ⟨5557, 21, 1, 0, .ro, .none, false, .status⟩
def ENT_HSTAT_PG_BRD : Field := ⟨5556, 20, 1, 0, .ro, .none, false, .status⟩
def ENT_HSTAT_SEAT_B : Field := ⟨5555, 19, 1, 0, .ro, .none, false, .status⟩
def ENT_HSTAT_SEAT_A : Field := ⟨5554, 18, 1, 0, .ro, .none, false, .status⟩
def ENT_HSTAT_STATE : Field := ⟨5536, 0, 4, 0, .ro, .none, false, .status⟩
/-! ENT_FSTAT (R315), file 12. -/
def ENT_FSTAT_UV : Field := ⟨5577, 9, 1, 0, .ro, .none, false, .status⟩
def ENT_FSTAT_SURGE : Field := ⟨5576, 8, 1, 0, .ro, .none, false, .status⟩
def ENT_FSTAT_B_REV : Field := ⟨5574, 6, 1, 0, .ro, .none, false, .status⟩
def ENT_FSTAT_B_COND : Field := ⟨5573, 5, 1, 0, .ro, .none, false, .status⟩
def ENT_FSTAT_B_PRES : Field := ⟨5572, 4, 1, 0, .ro, .none, false, .status⟩
def ENT_FSTAT_A_REV : Field := ⟨5570, 2, 1, 0, .ro, .none, false, .status⟩
def ENT_FSTAT_A_COND : Field := ⟨5569, 1, 1, 0, .ro, .none, false, .status⟩
def ENT_FSTAT_A_PRES : Field := ⟨5568, 0, 1, 0, .ro, .none, false, .status⟩
/-! ENT_FV (R315), file 12. -/
def ENT_FV_FEED_B : Field := ⟨5616, 16, 16, 0, .ro, .none, false, .status⟩
def ENT_FV_FEED_A : Field := ⟨5600, 0, 16, 0, .ro, .none, false, .status⟩
/-! ENT_BV (R315), file 12. -/
def ENT_BV_HS_OUT : Field := ⟨5648, 16, 16, 0, .ro, .none, false, .status⟩
def ENT_BV_VIN_OR : Field := ⟨5632, 0, 16, 0, .ro, .none, false, .status⟩
/-! ENT_HSM (R315), file 12. -/
def ENT_HSM_TEST : Field := ⟨5680, 16, 16, 0, .ro, .none, false, .status⟩
def ENT_HSM_IHS : Field := ⟨5664, 0, 16, 0, .ro, .none, false, .status⟩
/-! ENT_CNT0 (R315), file 12. -/
def ENT_CNT0_RETRIES : Field := ⟨5712, 16, 16, 0, .rw, .i, false, .counter⟩
def ENT_CNT0_HSFAULTS : Field := ⟨5696, 0, 16, 0, .rw, .i, false, .counter⟩
/-! ENT_CNT1 (R315), file 12. -/
def ENT_CNT1_SEATLOSS : Field := ⟨5744, 16, 16, 0, .rw, .i, false, .counter⟩
def ENT_CNT1_REVOFFS : Field := ⟨5728, 0, 16, 0, .rw, .i, false, .counter⟩
/-! ENT_CNT2 (R315), file 12. -/
def ENT_CNT2_LREFUSE : Field := ⟨5776, 16, 16, 0, .rw, .i, false, .counter⟩
def ENT_CNT2_LATCHES : Field := ⟨5760, 0, 16, 0, .rw, .i, false, .counter⟩
/-! GOV_STAGE (R316), file 12. -/
def GOV_STAGE_HOLD : Field := ⟨5792, 0, 1, 0, .rw, .i, false, .software⟩
/-! GOV_COLLIDE (R316), file 12. -/
def GOV_COLLIDE_COUNT : Field := ⟨5824, 0, 16, 0, .rw, .i, false, .counter⟩
/-! GOV_SNAP (R316), file 12. -/
def GOV_SNAP_SEL : Field := ⟨5858, 2, 1, 0, .rw, .i, false, .software⟩
def GOV_SNAP_VALID : Field := ⟨5857, 1, 1, 0, .ro, .none, false, .status⟩
def GOV_SNAP_REQ : Field := ⟨5856, 0, 1, 0, .wo, .i, false, .command⟩
/-! GOV_SNAP_LO (R316), file 12. -/
def GOV_SNAP_LO_VALUE : Field := ⟨5888, 0, 32, 0, .ro, .none, false, .status⟩
/-! GOV_SNAP_HI (R316), file 12. -/
def GOV_SNAP_HI_VALUE : Field := ⟨5920, 0, 32, 0, .ro, .none, false, .status⟩
/-! GOV_BUDGET (R316), file 12. -/
def GOV_BUDGET_SHEDW : Field := ⟨5968, 16, 8, 15, .rw, .p, false, .software⟩
def GOV_BUDGET_BUDGET : Field := ⟨5952, 0, 14, 3240, .rw, .p, false, .software⟩
/-! GOV_SAG (R316), file 12. -/
def GOV_SAG_SAGRENEG : Field := ⟨6008, 24, 8, 5, .rw, .p, true, .software⟩
def GOV_SAG_SAGREL : Field := ⟨6000, 16, 8, 2, .rw, .p, true, .software⟩
def GOV_SAG_VSAG : Field := ⟨5984, 0, 9, 440, .rw, .p, true, .software⟩
/-! GOV_FOLD (R316), file 12. -/
def GOV_FOLD_FOLD3 : Field := ⟨6040, 24, 5, 8, .rw, .p, true, .software⟩
def GOV_FOLD_FOLD2 : Field := ⟨6032, 16, 5, 12, .rw, .p, true, .software⟩
def GOV_FOLD_FOLD1 : Field := ⟨6024, 8, 5, 14, .rw, .p, true, .software⟩
def GOV_FOLD_FOLD0 : Field := ⟨6016, 0, 5, 16, .rw, .p, true, .software⟩
/-! GOV_PRIO0 (R316), file 12. -/
def GOV_PRIO0_CLASS0 : Field := ⟨6048, 0, 2, 2, .rw, .p, false, .software⟩
def GOV_PRIO0_CLASS1 : Field := ⟨6050, 2, 2, 2, .rw, .p, false, .software⟩
def GOV_PRIO0_CLASS2 : Field := ⟨6052, 4, 2, 2, .rw, .p, false, .software⟩
def GOV_PRIO0_CLASS3 : Field := ⟨6054, 6, 2, 2, .rw, .p, false, .software⟩
def GOV_PRIO0_CLASS4 : Field := ⟨6056, 8, 2, 2, .rw, .p, false, .software⟩
def GOV_PRIO0_CLASS5 : Field := ⟨6058, 10, 2, 2, .rw, .p, false, .software⟩
def GOV_PRIO0_CLASS6 : Field := ⟨6060, 12, 2, 2, .rw, .p, false, .software⟩
def GOV_PRIO0_CLASS7 : Field := ⟨6062, 14, 2, 2, .rw, .p, false, .software⟩
def GOV_PRIO0_CLASS8 : Field := ⟨6064, 16, 2, 2, .rw, .p, false, .software⟩
def GOV_PRIO0_CLASS9 : Field := ⟨6066, 18, 2, 2, .rw, .p, false, .software⟩
def GOV_PRIO0_CLASS10 : Field := ⟨6068, 20, 2, 2, .rw, .p, false, .software⟩
def GOV_PRIO0_CLASS11 : Field := ⟨6070, 22, 2, 2, .rw, .p, false, .software⟩
def GOV_PRIO0_CLASS12 : Field := ⟨6072, 24, 2, 2, .rw, .p, false, .software⟩
def GOV_PRIO0_CLASS13 : Field := ⟨6074, 26, 2, 2, .rw, .p, false, .software⟩
def GOV_PRIO0_CLASS14 : Field := ⟨6076, 28, 2, 2, .rw, .p, false, .software⟩
def GOV_PRIO0_CLASS15 : Field := ⟨6078, 30, 2, 2, .rw, .p, false, .software⟩
/-! GOV_PRIO1 (R316), file 12. -/
def GOV_PRIO1_CLASS0 : Field := ⟨6080, 0, 2, 2, .rw, .p, false, .software⟩
def GOV_PRIO1_CLASS1 : Field := ⟨6082, 2, 2, 2, .rw, .p, false, .software⟩
def GOV_PRIO1_CLASS2 : Field := ⟨6084, 4, 2, 2, .rw, .p, false, .software⟩
def GOV_PRIO1_CLASS3 : Field := ⟨6086, 6, 2, 2, .rw, .p, false, .software⟩
def GOV_PRIO1_CLASS4 : Field := ⟨6088, 8, 2, 2, .rw, .p, false, .software⟩
def GOV_PRIO1_CLASS5 : Field := ⟨6090, 10, 2, 2, .rw, .p, false, .software⟩
def GOV_PRIO1_CLASS6 : Field := ⟨6092, 12, 2, 2, .rw, .p, false, .software⟩
def GOV_PRIO1_CLASS7 : Field := ⟨6094, 14, 2, 2, .rw, .p, false, .software⟩
def GOV_PRIO1_CLASS8 : Field := ⟨6096, 16, 2, 2, .rw, .p, false, .software⟩
def GOV_PRIO1_CLASS9 : Field := ⟨6098, 18, 2, 2, .rw, .p, false, .software⟩
def GOV_PRIO1_CLASS10 : Field := ⟨6100, 20, 2, 2, .rw, .p, false, .software⟩
def GOV_PRIO1_CLASS11 : Field := ⟨6102, 22, 2, 2, .rw, .p, false, .software⟩
def GOV_PRIO1_CLASS12 : Field := ⟨6104, 24, 2, 2, .rw, .p, false, .software⟩
def GOV_PRIO1_CLASS13 : Field := ⟨6106, 26, 2, 2, .rw, .p, false, .software⟩
def GOV_PRIO1_CLASS14 : Field := ⟨6108, 28, 2, 2, .rw, .p, false, .software⟩
def GOV_PRIO1_CLASS15 : Field := ⟨6110, 30, 2, 2, .rw, .p, false, .software⟩
/-! GOV_STAT (R316), file 12. -/
def GOV_STAT_BURSTMS : Field := ⟨6128, 16, 16, 0, .ro, .none, false, .status⟩
def GOV_STAT_BRDOFF : Field := ⟨6115, 3, 1, 1, .ro, .none, false, .status⟩
def GOV_STAT_SHEDDING : Field := ⟨6114, 2, 1, 0, .ro, .none, false, .status⟩
def GOV_STAT_SAG : Field := ⟨6113, 1, 1, 0, .ro, .none, false, .status⟩
def GOV_STAT_FEED48 : Field := ⟨6112, 0, 1, 0, .ro, .none, false, .status⟩
/-! GOV_PBRD (R316), file 12. -/
def GOV_PBRD_PALLOC : Field := ⟨6160, 16, 16, 0, .ro, .none, false, .status⟩
def GOV_PBRD_PBRD : Field := ⟨6144, 0, 16, 0, .ro, .none, false, .status⟩
/-! GOV_SHED (R316), file 12. -/
def GOV_SHED_PORTS : Field := ⟨6176, 0, 32, 0, .ro, .none, false, .status⟩
/-! GOV_BRDOFF (R316), file 12. -/
def GOV_BRDOFF_PORTS : Field := ⟨6208, 0, 32, 0, .ro, .none, false, .status⟩
/-! GOV_CNT0 (R316), file 12. -/
def GOV_CNT0_SAGS : Field := ⟨6256, 16, 16, 0, .rw, .i, false, .counter⟩
def GOV_CNT0_SURGES : Field := ⟨6240, 0, 16, 0, .rw, .i, false, .counter⟩
/-! GOV_CNT1 (R316), file 12. -/
def GOV_CNT1_SWAPS : Field := ⟨6288, 16, 16, 0, .rw, .i, false, .counter⟩
def GOV_CNT1_SHEDS : Field := ⟨6272, 0, 16, 0, .rw, .i, false, .counter⟩
/-! GOV_CNT2 (R316), file 12. -/
def GOV_CNT2_BURSTS : Field := ⟨6320, 16, 16, 0, .rw, .i, false, .counter⟩
def GOV_CNT2_PGLOSS : Field := ⟨6304, 0, 16, 0, .rw, .i, false, .counter⟩
/-! GOV_SAGMIN (R316), file 12. -/
def GOV_SAGMIN_SAGMS : Field := ⟨6352, 16, 16, 0, .ro, .none, false, .status⟩
def GOV_SAGMIN_VMIN : Field := ⟨6336, 0, 16, 0, .ro, .none, false, .status⟩
/-! GOV_RESV (R316), file 12. -/
def GOV_RESV_RESV : Field := ⟨6368, 0, 16, 0, .ro, .none, false, .status⟩
/-! CHORD_STAGE (R348), file 13. -/
def CHORD_STAGE_HOLD : Field := ⟨6400, 0, 1, 0, .rw, .i, false, .software⟩
/-! CHORD_COLLIDE (R348), file 13. -/
def CHORD_COLLIDE_COUNT : Field := ⟨6432, 0, 16, 0, .rw, .i, false, .counter⟩
/-! CHORD_SNAP (R348), file 13. -/
def CHORD_SNAP_SEL : Field := ⟨6466, 2, 2, 0, .rw, .i, false, .software⟩
def CHORD_SNAP_VALID : Field := ⟨6465, 1, 1, 0, .ro, .none, false, .status⟩
def CHORD_SNAP_REQ : Field := ⟨6464, 0, 1, 0, .wo, .i, false, .command⟩
/-! CHORD_SNAP_LO (R348), file 13. -/
def CHORD_SNAP_LO_VALUE : Field := ⟨6496, 0, 32, 0, .ro, .none, false, .status⟩
/-! CHORD_SNAP_HI (R348), file 13. -/
def CHORD_SNAP_HI_VALUE : Field := ⟨6528, 0, 32, 0, .ro, .none, false, .status⟩
/-! CHORD_CFG (R348), file 13. -/
def CHORD_CFG_STEPTHR : Field := ⟨6576, 16, 16, 1000, .rw, .t, false, .software⟩
def CHORD_CFG_HOLDMAX : Field := ⟨6568, 8, 8, 20, .rw, .t, false, .software⟩
def CHORD_CFG_RANGEMODE : Field := ⟨6563, 3, 1, 0, .rw, .i, false, .software⟩
def CHORD_CFG_REVERT : Field := ⟨6562, 2, 1, 0, .rw, .i, false, .software⟩
def CHORD_CFG_AUTOFAIL : Field := ⟨6561, 1, 1, 1, .rw, .i, false, .software⟩
def CHORD_CFG_APEX : Field := ⟨6560, 0, 1, 0, .ro, .none, false, .status⟩
/-! CHORD_STAT (R348), file 13. -/
def CHORD_STAT_ADDR : Field := ⟨6608, 16, 16, 0, .ro, .none, false, .status⟩
def CHORD_STAT_DEPTH : Field := ⟨6598, 6, 4, 0, .ro, .none, false, .status⟩
def CHORD_STAT_ADDRESSED : Field := ⟨6597, 5, 1, 0, .ro, .none, false, .status⟩
def CHORD_STAT_ACTIVEUP : Field := ⟨6596, 4, 1, 0, .ro, .none, false, .status⟩
def CHORD_STAT_HOLDOVER : Field := ⟨6595, 3, 1, 0, .ro, .none, false, .status⟩
def CHORD_STAT_SYNC : Field := ⟨6592, 0, 2, 0, .ro, .none, false, .status⟩
/-! CHORD_RANGE (R348), file 13. -/
def CHORD_RANGE_HI : Field := ⟨6640, 16, 16, 0, .ro, .none, false, .status⟩
def CHORD_RANGE_LO : Field := ⟨6624, 0, 16, 0, .ro, .none, false, .status⟩
/-! CHORD_DNRANGE (R348), file 13. -/
def CHORD_DNRANGE_DNHI : Field := ⟨6672, 16, 16, 0, .rw, .i, false, .hwChange⟩
def CHORD_DNRANGE_DNLO : Field := ⟨6656, 0, 16, 65535, .rw, .i, false, .hwChange⟩
/-! CHORD_PPS (R348), file 13. -/
def CHORD_PPS_PERIOD : Field := ⟨6704, 16, 10, 1000, .rw, .t, false, .software⟩
def CHORD_PPS_EN : Field := ⟨6688, 0, 1, 0, .rw, .t, false, .software⟩
/-! CHORD_CMDTMO (R348), file 13. -/
def CHORD_CMDTMO_CMDTMO : Field := ⟨6720, 0, 16, 1000, .rw, .i, false, .software⟩
/-! CHORD_CNT0 (R348), file 13. -/
def CHORD_CNT0_FAILOVERS : Field := ⟨6768, 16, 16, 0, .rw, .i, false, .counter⟩
def CHORD_CNT0_STEPS : Field := ⟨6752, 0, 16, 0, .rw, .i, false, .counter⟩
/-! CHORD_CNT1 (R348), file 13. -/
def CHORD_CNT1_LATERESP : Field := ⟨6800, 16, 16, 0, .rw, .i, false, .counter⟩
def CHORD_CNT1_NOROUTE : Field := ⟨6784, 0, 16, 0, .rw, .i, false, .counter⟩
/-! CHORD_ADOPTA (R348), file 13. -/
def CHORD_ADOPTA_HI : Field := ⟨6832, 16, 16, 0, .ro, .none, false, .status⟩
def CHORD_ADOPTA_LO : Field := ⟨6816, 0, 16, 0, .ro, .none, false, .status⟩
/-! CHORD_ADOPTB (R348), file 13. -/
def CHORD_ADOPTB_VALID : Field := ⟨6879, 31, 1, 0, .ro, .none, false, .status⟩
def CHORD_ADOPTB_LINK : Field := ⟨6848, 0, 3, 0, .ro, .none, false, .status⟩
/-! CHORD_LSTAT (R348), file 13. -/
def CHORD_LSTAT_PEERADDR : Field := ⟨6896, 16, 16, 0, .ro, .none, false, .status⟩
def CHORD_LSTAT_PEERDEPTH : Field := ⟨6892, 12, 4, 0, .ro, .none, false, .status⟩
def CHORD_LSTAT_PEERSYNC : Field := ⟨6890, 10, 2, 0, .ro, .none, false, .status⟩
def CHORD_LSTAT_REFUSE : Field := ⟨6884, 4, 4, 0, .ro, .none, false, .status⟩
def CHORD_LSTAT_STATE : Field := ⟨6880, 0, 3, 0, .ro, .none, false, .status⟩
/-! CHORD_LCTL (R348), file 13. -/
def CHORD_LCTL_ASYM : Field := ⟨6928, 16, 16, 0, .rw, .t, false, .software⟩
def CHORD_LCTL_EN : Field := ⟨6912, 0, 1, 1, .rw, .i, false, .software⟩
/-! CHORD_LRTT (R348), file 13. -/
def CHORD_LRTT_VALUE : Field := ⟨6944, 0, 32, 0, .ro, .none, false, .status⟩
/-! CHORD_LOFFS (R348), file 13. -/
def CHORD_LOFFS_VALUE : Field := ⟨6976, 0, 32, 0, .ro, .none, false, .status⟩
/-! CHORD_LCNT0 (R348), file 13. -/
def CHORD_LCNT0_SYMERR : Field := ⟨7024, 16, 16, 0, .rw, .i, false, .counter⟩
def CHORD_LCNT0_DROPS : Field := ⟨7008, 0, 16, 0, .rw, .i, false, .counter⟩
/-! CHORD_LCNT1 (R348), file 13. -/
def CHORD_LCNT1_CMDRX : Field := ⟨7056, 16, 16, 0, .rw, .i, false, .counter⟩
def CHORD_LCNT1_CMDTX : Field := ⟨7040, 0, 16, 0, .rw, .i, false, .counter⟩
/-! TAT_STAGE (R349), file 13. -/
def TAT_STAGE_HOLD : Field := ⟨7072, 0, 1, 0, .rw, .i, false, .software⟩
/-! TAT_COLLIDE (R349), file 13. -/
def TAT_COLLIDE_COUNT : Field := ⟨7104, 0, 16, 0, .rw, .i, false, .counter⟩
/-! TAT_CFG (R349), file 13. -/
def TAT_CFG_LEAD : Field := ⟨7144, 8, 8, 20, .rw, .i, false, .software⟩
def TAT_CFG_TRACEMARK : Field := ⟨7136, 0, 1, 1, .rw, .i, false, .software⟩
/-! TAT_STAT (R349), file 13. -/
def TAT_STAT_BUSY : Field := ⟨7199, 31, 1, 0, .ro, .none, false, .status⟩
def TAT_STAT_EMPTY : Field := ⟨7193, 25, 1, 1, .ro, .none, false, .status⟩
def TAT_STAT_NEXT : Field := ⟨7184, 16, 9, 0, .ro, .none, false, .status⟩
def TAT_STAT_USED : Field := ⟨7168, 0, 10, 0, .ro, .none, false, .status⟩
/-! TAT_NEW (R349), file 13. -/
def TAT_NEW_WORD : Field := ⟨7200, 0, 32, 0, .rw, .i, false, .software⟩
/-! TAT_CMD (R349), file 13. -/
def TAT_CMD_CANCEL : Field := ⟨7263, 31, 1, 0, .wo, .i, false, .command⟩
def TAT_CMD_ADD : Field := ⟨7262, 30, 1, 0, .wo, .i, false, .command⟩
def TAT_CMD_INDEX : Field := ⟨7232, 0, 9, 0, .rw, .i, false, .software⟩
/-! TAT_RESULT (R349), file 13. -/
def TAT_RESULT_RESULT : Field := ⟨7276, 12, 4, 0, .ro, .none, false, .status⟩
def TAT_RESULT_INDEX : Field := ⟨7264, 0, 9, 0, .ro, .none, false, .status⟩
/-! TAT_RDSEL (R349), file 13. -/
def TAT_RDSEL_INDEX : Field := ⟨7296, 0, 9, 0, .rw, .i, false, .software⟩
/-! TAT_RD (R349), file 13. -/
def TAT_RD_WORD : Field := ⟨7328, 0, 32, 0, .ro, .none, false, .status⟩
/-! TAT_IRQVAL (R349), file 13. -/
def TAT_IRQVAL_INDEX : Field := ⟨7376, 16, 9, 0, .ro, .none, false, .status⟩
def TAT_IRQVAL_VALUE : Field := ⟨7360, 0, 16, 0, .ro, .none, false, .status⟩
/-! TAT_CNT0 (R349), file 13. -/
def TAT_CNT0_SUPPR : Field := ⟨7408, 16, 16, 0, .rw, .i, false, .counter⟩
def TAT_CNT0_LAUNCHES : Field := ⟨7392, 0, 16, 0, .rw, .i, false, .counter⟩
/-! TAT_CNT1 (R349), file 13. -/
def TAT_CNT1_REFUSED : Field := ⟨7440, 16, 16, 0, .rw, .i, false, .counter⟩
def TAT_CNT1_CANCELS : Field := ⟨7424, 0, 16, 0, .rw, .i, false, .counter⟩
/-! TAT_CNT2 (R349), file 13. -/
def TAT_CNT2_LATE : Field := ⟨7472, 16, 16, 0, .rw, .i, false, .counter⟩
def TAT_CNT2_DEFERRED : Field := ⟨7456, 0, 16, 0, .rw, .i, false, .counter⟩
/-! TRC_STAGE (R371), file 14. -/
def TRC_STAGE_HOLD : Field := ⟨7488, 0, 1, 0, .rw, .i, false, .software⟩
/-! TRC_COLLIDE (R371), file 14. -/
def TRC_COLLIDE_COUNT : Field := ⟨7520, 0, 16, 0, .rw, .i, false, .counter⟩
/-! TRC_SNAP (R371), file 14. -/
def TRC_SNAP_SEL : Field := ⟨7554, 2, 2, 0, .rw, .i, false, .software⟩
def TRC_SNAP_VALID : Field := ⟨7553, 1, 1, 0, .ro, .none, false, .status⟩
def TRC_SNAP_REQ : Field := ⟨7552, 0, 1, 0, .wo, .i, false, .command⟩
/-! TRC_SNAP_LO (R371), file 14. -/
def TRC_SNAP_LO_VALUE : Field := ⟨7584, 0, 32, 0, .ro, .none, false, .status⟩
/-! TRC_SNAP_HI (R371), file 14. -/
def TRC_SNAP_HI_VALUE : Field := ⟨7616, 0, 32, 0, .ro, .none, false, .status⟩
/-! TRC_CFG (R371), file 14. -/
def TRC_CFG_SNAPLEN : Field := ⟨7656, 8, 7, 65, .rw, .i, false, .software⟩
def TRC_CFG_MODE : Field := ⟨7649, 1, 1, 0, .rw, .i, false, .software⟩
def TRC_CFG_MEM : Field := ⟨7648, 0, 1, 1, .rw, .i, false, .software⟩
/-! TRC_CTL (R371), file 14. -/
def TRC_CTL_CLEAR : Field := ⟨7683, 3, 1, 0, .wo, .i, false, .command⟩
def TRC_CTL_TRIG : Field := ⟨7682, 2, 1, 0, .wo, .i, false, .command⟩
def TRC_CTL_STOP : Field := ⟨7681, 1, 1, 0, .wo, .i, false, .command⟩
def TRC_CTL_START : Field := ⟨7680, 0, 1, 0, .wo, .i, false, .command⟩
/-! TRC_STAT (R371), file 14. -/
def TRC_STAT_MEMSIZE : Field := ⟨7718, 6, 2, 0, .ro, .none, false, .status⟩
def TRC_STAT_DROPPING : Field := ⟨7717, 5, 1, 0, .ro, .none, false, .status⟩
def TRC_STAT_FULL : Field := ⟨7716, 4, 1, 0, .ro, .none, false, .status⟩
def TRC_STAT_TRIGGERED : Field := ⟨7715, 3, 1, 0, .ro, .none, false, .status⟩
def TRC_STAT_STATE : Field := ⟨7712, 0, 3, 1, .ro, .none, false, .status⟩
/-! TRC_PORTS (R371), file 14. -/
def TRC_PORTS_PORTS : Field := ⟨7744, 0, 32, 4294967295, .rw, .i, true, .software⟩
/-! TRC_TAPS (R371), file 14. -/
def TRC_TAPS_PIDCLS : Field := ⟨7784, 8, 5, 29, .rw, .i, true, .software⟩
def TRC_TAPS_MF : Field := ⟨7782, 6, 1, 0, .rw, .i, true, .software⟩
def TRC_TAPS_UNATTR : Field := ⟨7781, 5, 1, 1, .rw, .i, true, .software⟩
def TRC_TAPS_TT : Field := ⟨7780, 4, 1, 1, .rw, .i, true, .software⟩
def TRC_TAPS_REP : Field := ⟨7776, 0, 4, 15, .rw, .i, true, .software⟩
/-! TRC_AMATCH (R371), file 14. -/
def TRC_AMATCH_EN : Field := ⟨7823, 15, 1, 0, .rw, .i, true, .software⟩
def TRC_AMATCH_EPANY : Field := ⟨7819, 11, 1, 0, .rw, .i, true, .software⟩
def TRC_AMATCH_EP : Field := ⟨7815, 7, 4, 0, .rw, .i, true, .software⟩
def TRC_AMATCH_ADDR : Field := ⟨7808, 0, 7, 0, .rw, .i, true, .software⟩
/-! TRC_TRIG (R371), file 14. -/
def TRC_TRIG_POST : Field := ⟨7856, 16, 16, 0, .rw, .i, false, .software⟩
def TRC_TRIG_MARKEN : Field := ⟨7841, 1, 1, 0, .rw, .i, false, .software⟩
def TRC_TRIG_FAULTEN : Field := ⟨7840, 0, 1, 0, .rw, .i, false, .software⟩
/-! TRC_TRIGF (R371), file 14. -/
def TRC_TRIGF_FMASK : Field := ⟨7888, 16, 16, 65535, .rw, .i, false, .software⟩
def TRC_TRIGF_FID : Field := ⟨7872, 0, 16, 0, .rw, .i, false, .software⟩
/-! TRC_TRIGV (R371), file 14. -/
def TRC_TRIGV_VALUE : Field := ⟨7904, 0, 32, 0, .rw, .i, false, .software⟩
/-! TRC_EXP (R371), file 14. -/
def TRC_EXP_DEST : Field := ⟨7936, 0, 3, 0, .rw, .i, false, .software⟩
/-! TRC_WPAGE (R371), file 14. -/
def TRC_WPAGE_PAGE : Field := ⟨7968, 0, 3, 0, .rw, .i, false, .software⟩
/-! TRC_MARK (R371), file 14. -/
def TRC_MARK_VALUE : Field := ⟨8000, 0, 32, 0, .wo, .i, false, .command⟩
/-! TRC_ECC (R371), file 14. -/
def TRC_ECC_UNCORR : Field := ⟨8048, 16, 16, 0, .rw, .i, false, .counter⟩
def TRC_ECC_CORR : Field := ⟨8032, 0, 16, 0, .rw, .i, false, .counter⟩
/-! TRC_CNT0 (R371), file 14. -/
def TRC_CNT0_DROPS : Field := ⟨8080, 16, 16, 0, .rw, .i, false, .counter⟩
def TRC_CNT0_TRIGS : Field := ⟨8064, 0, 16, 0, .rw, .i, false, .counter⟩
/-! TRC_CNT1 (R371), file 14. -/
def TRC_CNT1_TRIGIGN : Field := ⟨8112, 16, 16, 0, .rw, .i, false, .counter⟩
def TRC_CNT1_STARTS : Field := ⟨8096, 0, 16, 0, .rw, .i, false, .counter⟩
/-! TRC_CNT2 (R371), file 14. -/
def TRC_CNT2_LOSTEXP : Field := ⟨8144, 16, 16, 0, .rw, .i, false, .counter⟩
def TRC_CNT2_SKIPPED : Field := ⟨8128, 0, 16, 0, .rw, .i, false, .counter⟩
/-! BBC_STAGE (R372), file 14. -/
def BBC_STAGE_HOLD : Field := ⟨8160, 0, 1, 0, .rw, .i, false, .software⟩
/-! BBC_COLLIDE (R372), file 14. -/
def BBC_COLLIDE_COUNT : Field := ⟨8192, 0, 16, 0, .rw, .i, false, .counter⟩
/-! BBC_SCRUB (R372), file 14. -/
def BBC_SCRUB_SCRUBINT : Field := ⟨8224, 0, 16, 200, .rw, .i, false, .software⟩
/-! BBC_SCRUBPOS (R372), file 14. -/
def BBC_SCRUBPOS_POS : Field := ⟨8256, 0, 24, 0, .ro, .none, false, .status⟩
/-! BBC_ECC0 (R372), file 14. -/
def BBC_ECC0_CORR2 : Field := ⟨8304, 16, 16, 0, .rw, .i, false, .counter⟩
def BBC_ECC0_CORR1 : Field := ⟨8288, 0, 16, 0, .rw, .i, false, .counter⟩
/-! BBC_ECC1 (R372), file 14. -/
def BBC_ECC1_PASSES : Field := ⟨8336, 16, 16, 0, .rw, .i, false, .counter⟩
def BBC_ECC1_UNCORR : Field := ⟨8320, 0, 16, 0, .rw, .i, false, .counter⟩
/-! BBC_ERRADDR (R372), file 14. -/
def BBC_ERRADDR_VALID : Field := ⟨8383, 31, 1, 0, .ro, .none, false, .status⟩
def BBC_ERRADDR_ADDR : Field := ⟨8355, 3, 27, 0, .ro, .none, false, .status⟩
/-! BBC_STAT (R372), file 14. -/
def BBC_STAT_READY : Field := ⟨8384, 0, 1, 0, .ro, .none, false, .status⟩
/-! IC_SRC (R396), file 15. -/
def IC_SRC_MOD : Field := ⟨8424, 8, 8, 0, .rw, .i, false, .software⟩
def IC_SRC_TARGET : Field := ⟨8420, 4, 3, 0, .rw, .i, false, .software⟩
def IC_SRC_PRIO : Field := ⟨8416, 0, 4, 0, .rw, .i, false, .software⟩
/-! IC_PEND (R396), file 15. -/
def IC_PEND_PEND : Field := ⟨8448, 0, 32, 0, .rw, .i, false, .hwChange⟩
/-! IC_EN (R396), file 15. -/
def IC_EN_EN : Field := ⟨8480, 0, 32, 0, .rw, .i, false, .software⟩
/-! IC_LINE (R396), file 15. -/
def IC_LINE_LINE : Field := ⟨8512, 0, 32, 0, .ro, .none, false, .status⟩
/-! IC_THRESH (R396), file 15. -/
def IC_THRESH_THRESH : Field := ⟨8544, 0, 4, 0, .rw, .i, false, .software⟩
/-! IC_LVL (R396), file 15. -/
def IC_LVL_NULL : Field := ⟨8592, 16, 1, 0, .ro, .none, false, .status⟩
def IC_LVL_ENTRY : Field := ⟨8588, 12, 4, 0, .ro, .none, false, .status⟩
def IC_LVL_WFI : Field := ⟨8584, 8, 1, 0, .ro, .none, false, .status⟩
def IC_LVL_DEPTH : Field := ⟨8580, 4, 4, 0, .ro, .none, false, .status⟩
def IC_LVL_CURLVL : Field := ⟨8576, 0, 4, 0, .ro, .none, false, .status⟩
/-! IC_COMPLETE (R396), file 15. -/
def IC_COMPLETE_LEVEL : Field := ⟨8608, 0, 4, 0, .wo, .i, false, .command⟩
/-! IC_STACK0 (R396), file 15. -/
def IC_STACK0_SLOT0 : Field := ⟨8640, 0, 4, 0, .ro, .none, false, .status⟩
def IC_STACK0_SLOT1 : Field := ⟨8644, 4, 4, 0, .ro, .none, false, .status⟩
def IC_STACK0_SLOT2 : Field := ⟨8648, 8, 4, 0, .ro, .none, false, .status⟩
def IC_STACK0_SLOT3 : Field := ⟨8652, 12, 4, 0, .ro, .none, false, .status⟩
def IC_STACK0_SLOT4 : Field := ⟨8656, 16, 4, 0, .ro, .none, false, .status⟩
def IC_STACK0_SLOT5 : Field := ⟨8660, 20, 4, 0, .ro, .none, false, .status⟩
def IC_STACK0_SLOT6 : Field := ⟨8664, 24, 4, 0, .ro, .none, false, .status⟩
def IC_STACK0_SLOT7 : Field := ⟨8668, 28, 4, 0, .ro, .none, false, .status⟩
/-! IC_STACK1 (R396), file 15. -/
def IC_STACK1_SLOT0 : Field := ⟨8672, 0, 4, 0, .ro, .none, false, .status⟩
def IC_STACK1_SLOT1 : Field := ⟨8676, 4, 4, 0, .ro, .none, false, .status⟩
def IC_STACK1_SLOT2 : Field := ⟨8680, 8, 4, 0, .ro, .none, false, .status⟩
def IC_STACK1_SLOT3 : Field := ⟨8684, 12, 4, 0, .ro, .none, false, .status⟩
def IC_STACK1_SLOT4 : Field := ⟨8688, 16, 4, 0, .ro, .none, false, .status⟩
def IC_STACK1_SLOT5 : Field := ⟨8692, 20, 4, 0, .ro, .none, false, .status⟩
def IC_STACK1_SLOT6 : Field := ⟨8696, 24, 4, 0, .ro, .none, false, .status⟩
/-! IC_TIMER (R396), file 15. -/
def IC_TIMER_COUNT : Field := ⟨8704, 0, 32, 0, .rw, .i, false, .hwChange⟩
/-! IC_KICK (R396), file 15. -/
def IC_KICK_REMAIN : Field := ⟨8752, 16, 16, 0, .ro, .none, false, .status⟩
def IC_KICK_KICK : Field := ⟨8736, 0, 1, 0, .wo, .i, false, .command⟩
/-! IC_CNT (R396), file 15. -/
def IC_CNT_STKERR : Field := ⟨8784, 16, 16, 0, .rw, .i, false, .counter⟩
def IC_CNT_NULLENT : Field := ⟨8768, 0, 16, 0, .rw, .i, false, .counter⟩
/-! IC_CORECTL (R396), file 15. -/
def IC_CORECTL_WDTMO : Field := ⟨8816, 16, 16, 0, .rw, .i, false, .software⟩
def IC_CORECTL_RUNNING : Field := ⟨8801, 1, 1, 0, .ro, .none, false, .status⟩
def IC_CORECTL_RESET : Field := ⟨8800, 0, 1, 1, .rw, .i, false, .hwChange⟩
/-! SYS_STAGE (R398), file 15. -/
def SYS_STAGE_HOLD : Field := ⟨8832, 0, 1, 0, .rw, .i, false, .software⟩
/-! SYS_COLLIDE (R398), file 15. -/
def SYS_COLLIDE_COUNT : Field := ⟨8864, 0, 16, 0, .rw, .i, false, .counter⟩
/-! SYS_ID (R398), file 15. -/
def SYS_ID_PART : Field := ⟨8912, 16, 16, 12864, .ro, .none, false, .status⟩
def SYS_ID_STEP : Field := ⟨8904, 8, 8, 177, .ro, .none, false, .status⟩
def SYS_ID_DIES : Field := ⟨8896, 0, 8, 0, .ro, .none, false, .status⟩
/-! SYS_STRAP (R398), file 15. -/
def SYS_STRAP_UNSTABLE : Field := ⟨8944, 16, 7, 0, .ro, .none, false, .status⟩
def SYS_STRAP_STRAPS : Field := ⟨8928, 0, 7, 0, .ro, .none, false, .status⟩
/-! SYS_BOOT (R398), file 15. -/
def SYS_BOOT_BOOT_STATUS : Field := ⟨8960, 0, 3, 0, .rw, .i, false, .software⟩
/-! SYS_FWREL (R398), file 15. -/
def SYS_FWREL_RELEASE : Field := ⟨8992, 0, 32, 0, .rw, .i, false, .software⟩
/-! SYS_SERIAL0 (R398), file 15. -/
def SYS_SERIAL0_SERIAL : Field := ⟨9024, 0, 32, 0, .ro, .none, false, .status⟩
/-! SYS_SERIAL1 (R398), file 15. -/
def SYS_SERIAL1_SERIAL : Field := ⟨9056, 0, 32, 0, .ro, .none, false, .status⟩
/-! SYS_DMASRC (R398), file 15. -/
def SYS_DMASRC_ADDR : Field := ⟨9090, 2, 30, 0, .rw, .i, false, .software⟩
/-! SYS_DMADST (R398), file 15. -/
def SYS_DMADST_ADDR : Field := ⟨9122, 2, 30, 0, .rw, .i, false, .software⟩
/-! SYS_DMALEN (R398), file 15. -/
def SYS_DMALEN_WORDS : Field := ⟨9152, 0, 24, 0, .rw, .i, false, .software⟩
/-! SYS_DMACTL (R398), file 15. -/
def SYS_DMACTL_GO : Field := ⟨9215, 31, 1, 0, .wo, .i, false, .command⟩
def SYS_DMACTL_STOP : Field := ⟨9214, 30, 1, 0, .wo, .i, false, .command⟩
/-! SYS_DMASTAT (R398), file 15. -/
def SYS_DMASTAT_REMAIN : Field := ⟨9224, 8, 24, 0, .ro, .none, false, .status⟩
def SYS_DMASTAT_FROZEN : Field := ⟨9217, 1, 1, 0, .ro, .none, false, .status⟩
def SYS_DMASTAT_BUSY : Field := ⟨9216, 0, 1, 0, .ro, .none, false, .status⟩
/-! SYS_DMACNT0 (R398), file 15. -/
def SYS_DMACNT0_STOPS : Field := ⟨9264, 16, 16, 0, .rw, .i, false, .counter⟩
def SYS_DMACNT0_DONE : Field := ⟨9248, 0, 16, 0, .rw, .i, false, .counter⟩
/-! SYS_DMACNT1 (R398), file 15. -/
def SYS_DMACNT1_ABSENTS : Field := ⟨9296, 16, 16, 0, .rw, .i, false, .counter⟩
def SYS_DMACNT1_IGNORED : Field := ⟨9280, 0, 16, 0, .rw, .i, false, .counter⟩
/-! QSPI_STAGE (R399), file 15. -/
def QSPI_STAGE_HOLD : Field := ⟨9312, 0, 1, 0, .rw, .i, false, .software⟩
/-! QSPI_COLLIDE (R399), file 15. -/
def QSPI_COLLIDE_COUNT : Field := ⟨9344, 0, 16, 0, .rw, .i, false, .counter⟩
/-! QSPI_CFG (R399), file 15. -/
def QSPI_CFG_SAMPLE : Field := ⟨9384, 8, 3, 0, .ro, .none, false, .status⟩
def QSPI_CFG_RATE : Field := ⟨9376, 0, 2, 0, .rw, .i, false, .software⟩
/-! QSPI_STAT (R399), file 15. -/
def QSPI_STAT_SIZE : Field := ⟨9411, 3, 5, 0, .ro, .none, false, .status⟩
def QSPI_STAT_SFDPOK : Field := ⟨9410, 2, 1, 0, .ro, .none, false, .status⟩
def QSPI_STAT_OPBUSY : Field := ⟨9409, 1, 1, 0, .ro, .none, false, .status⟩
def QSPI_STAT_HBUSY : Field := ⟨9408, 0, 1, 0, .ro, .none, false, .status⟩
/-! QSPI_HSTART (R399), file 15. -/
def QSPI_HSTART_VALUE : Field := ⟨9440, 0, 26, 0, .rw, .i, false, .software⟩
/-! QSPI_HLEN (R399), file 15. -/
def QSPI_HLEN_VALUE : Field := ⟨9472, 0, 26, 0, .rw, .i, false, .software⟩
/-! QSPI_HCTL (R399), file 15. -/
def QSPI_HCTL_START : Field := ⟨9535, 31, 1, 0, .wo, .i, false, .command⟩
def QSPI_HCTL_HRESULT : Field := ⟨9505, 1, 2, 0, .ro, .none, false, .status⟩
/-! QSPI_HASH (R399), file 15. -/
def QSPI_HASH_DIGEST : Field := ⟨9536, 0, 32, 0, .ro, .none, false, .status⟩
/-! QSPI_OPADDR (R399), file 15. -/
def QSPI_OPADDR_ADDR : Field := ⟨9568, 0, 26, 0, .rw, .i, false, .software⟩
/-! QSPI_OPCTL (R399), file 15. -/
def QSPI_OPCTL_GO : Field := ⟨9631, 31, 1, 0, .wo, .i, false, .command⟩
def QSPI_OPCTL_LEN : Field := ⟨9616, 16, 9, 0, .rw, .i, false, .software⟩
def QSPI_OPCTL_OP : Field := ⟨9600, 0, 3, 0, .rw, .i, false, .software⟩
/-! QSPI_OPRES (R399), file 15. -/
def QSPI_OPRES_RESULT : Field := ⟨9632, 0, 2, 0, .ro, .none, false, .status⟩
/-! QSPI_CNT (R399), file 15. -/
def QSPI_CNT_FAILS : Field := ⟨9680, 16, 16, 0, .rw, .i, false, .counter⟩
def QSPI_CNT_OPS : Field := ⟨9664, 0, 16, 0, .rw, .i, false, .counter⟩
/-! QSPI_PBUF (R399), file 15. -/
def QSPI_PBUF_DATA : Field := ⟨9696, 0, 32, 4294967295, .rw, .i, false, .software⟩
/-! FC_STAGE (R424), file 16. -/
def FC_STAGE_HOLD : Field := ⟨9728, 0, 1, 0, .rw, .i, false, .software⟩
/-! FC_COLLIDE (R424), file 16. -/
def FC_COLLIDE_COUNT : Field := ⟨9760, 0, 16, 0, .rw, .i, false, .counter⟩
/-! FC_SEL (R424), file 16. -/
def FC_SEL_DEFINED : Field := ⟨9809, 17, 1, 0, .ro, .none, false, .status⟩
def FC_SEL_ALL : Field := ⟨9808, 16, 1, 0, .rw, .i, false, .software⟩
def FC_SEL_ID : Field := ⟨9792, 0, 16, 0, .rw, .i, false, .software⟩
/-! FC_SCFG (R424), file 16. -/
def FC_SCFG_LOCKED : Field := ⟨9855, 31, 1, 0, .ro, .none, false, .status⟩
def FC_SCFG_INJCOUNT : Field := ⟨9852, 28, 1, 0, .rw, .i, false, .software⟩
def FC_SCFG_REACT : Field := ⟨9848, 24, 3, 0, .rw, .i, false, .software⟩
def FC_SCFG_WINDOW : Field := ⟨9832, 8, 16, 1000, .rw, .i, false, .software⟩
def FC_SCFG_N : Field := ⟨9824, 0, 8, 1, .rw, .i, false, .software⟩
/-! FC_SSTAT (R424), file 16. -/
def FC_SSTAT_COUNT : Field := ⟨9872, 16, 8, 0, .ro, .none, false, .status⟩
def FC_SSTAT_DOMOFF : Field := ⟨9860, 4, 1, 0, .ro, .none, false, .status⟩
def FC_SSTAT_WIRE : Field := ⟨9859, 3, 1, 0, .ro, .none, false, .status⟩
def FC_SSTAT_CAUSE : Field := ⟨9858, 2, 1, 0, .ro, .none, false, .status⟩
def FC_SSTAT_STATE : Field := ⟨9856, 0, 2, 0, .ro, .none, false, .status⟩
/-! FC_SCNT (R424), file 16. -/
def FC_SCNT_INJECTED : Field := ⟨9904, 16, 16, 0, .rw, .i, false, .counter⟩
def FC_SCNT_EVENTS : Field := ⟨9888, 0, 16, 0, .rw, .i, false, .counter⟩
/-! FC_CLR (R424), file 16. -/
def FC_CLR_GO : Field := ⟨9951, 31, 1, 0, .wo, .i, false, .command⟩
def FC_CLR_ID : Field := ⟨9920, 0, 16, 0, .wo, .i, false, .command⟩
/-! FC_INJ (R424), file 16. -/
def FC_INJ_GO : Field := ⟨9983, 31, 1, 0, .wo, .i, false, .command⟩
def FC_INJ_MODE : Field := ⟨9968, 16, 2, 0, .wo, .i, false, .command⟩
def FC_INJ_ID : Field := ⟨9952, 0, 16, 0, .wo, .i, false, .command⟩
/-! FC_RESULT (R424), file 16. -/
def FC_RESULT_ID : Field := ⟨10000, 16, 16, 0, .ro, .none, false, .status⟩
def FC_RESULT_RESULT : Field := ⟨9984, 0, 4, 0, .ro, .none, false, .status⟩
/-! FC_SUM (R424), file 16. -/
def FC_SUM_LASTSEV : Field := ⟨10032, 16, 16, 0, .ro, .none, false, .status⟩
def FC_SUM_SEVERE : Field := ⟨10016, 0, 10, 0, .ro, .none, false, .status⟩
/-! FC_ST (R424), file 16. -/
def FC_ST_FAILID : Field := ⟨10064, 16, 16, 0, .ro, .none, false, .status⟩
def FC_ST_RESULT : Field := ⟨10052, 4, 2, 0, .ro, .none, false, .status⟩
def FC_ST_BUSY : Field := ⟨10049, 1, 1, 0, .ro, .none, false, .status⟩
def FC_ST_GO : Field := ⟨10048, 0, 1, 0, .wo, .i, false, .command⟩
/-! FC_CNT0 (R424), file 16. -/
def FC_CNT0_INJECTED : Field := ⟨10096, 16, 16, 0, .rw, .i, false, .counter⟩
def FC_CNT0_EVENTS : Field := ⟨10080, 0, 16, 0, .rw, .i, false, .counter⟩
/-! FC_CNT1 (R424), file 16. -/
def FC_CNT1_WIREFAULTS : Field := ⟨10128, 16, 16, 0, .rw, .i, false, .counter⟩
def FC_CNT1_EXPECTED : Field := ⟨10112, 0, 16, 0, .rw, .i, false, .counter⟩
/-! FC_CNT2 (R424), file 16. -/
def FC_CNT2_CLRREFUSE : Field := ⟨10160, 16, 16, 0, .rw, .i, false, .counter⟩
def FC_CNT2_STFAILS : Field := ⟨10144, 0, 16, 0, .rw, .i, false, .counter⟩
/-! LOG_STAGE (R425), file 16. -/
def LOG_STAGE_HOLD : Field := ⟨10176, 0, 1, 0, .rw, .i, false, .software⟩
/-! LOG_COLLIDE (R425), file 16. -/
def LOG_COLLIDE_COUNT : Field := ⟨10208, 0, 16, 0, .rw, .i, false, .counter⟩
/-! LOG_CFG (R425), file 16. -/
def LOG_CFG_EN : Field := ⟨10240, 0, 1, 0, .rw, .i, false, .software⟩
/-! LOG_WR (R425), file 16. -/
def LOG_WR_SEQ : Field := ⟨10272, 0, 32, 0, .rw, .i, false, .hwChange⟩
/-! LOG_STAT (R425), file 16. -/
def LOG_STAT_SUBBUSY : Field := ⟨10312, 8, 1, 0, .ro, .none, false, .status⟩
def LOG_STAT_QUEUE : Field := ⟨10304, 0, 7, 0, .ro, .none, false, .status⟩
/-! LOG_CNT (R425), file 16. -/
def LOG_CNT_DROPS : Field := ⟨10352, 16, 16, 0, .rw, .i, false, .counter⟩
def LOG_CNT_SUBMITS : Field := ⟨10336, 0, 16, 0, .rw, .i, false, .counter⟩
/-! LOG_SUB (R425), file 16. -/
def LOG_SUB_WORD : Field := ⟨10368, 0, 32, 0, .rw, .i, false, .software⟩
/-! LOG_SUBCTL (R425), file 16. -/
def LOG_SUBCTL_GO : Field := ⟨10431, 31, 1, 0, .wo, .i, false, .command⟩
/-! CAL_STAGE (R426), file 16. -/
def CAL_STAGE_HOLD : Field := ⟨10432, 0, 1, 0, .rw, .i, false, .software⟩
/-! CAL_COLLIDE (R426), file 16. -/
def CAL_COLLIDE_COUNT : Field := ⟨10464, 0, 16, 0, .rw, .i, false, .counter⟩
/-! CAL_STAT (R426), file 16. -/
def CAL_STAT_STAGED : Field := ⟨10502, 6, 1, 0, .ro, .none, false, .status⟩
def CAL_STAT_ORIGIN : Field := ⟨10501, 5, 1, 0, .ro, .none, false, .status⟩
def CAL_STAT_EXPORTED : Field := ⟨10500, 4, 1, 0, .ro, .none, false, .status⟩
def CAL_STAT_COMMIT : Field := ⟨10499, 3, 1, 0, .ro, .none, false, .status⟩
def CAL_STAT_NVMOK : Field := ⟨10498, 2, 1, 0, .ro, .none, false, .status⟩
def CAL_STAT_DEFAULTS : Field := ⟨10497, 1, 1, 0, .ro, .none, false, .status⟩
def CAL_STAT_LOADED : Field := ⟨10496, 0, 1, 0, .ro, .none, false, .status⟩
/-! CAL_GEN (R426), file 16. -/
def CAL_GEN_VALUE : Field := ⟨10528, 0, 32, 0, .ro, .none, false, .status⟩
/-! CAL_CRC (R426), file 16. -/
def CAL_CRC_VALUE : Field := ⟨10560, 0, 32, 0, .ro, .none, false, .status⟩
/-! CAL_DATA (R426), file 16. -/
def CAL_DATA_DATA : Field := ⟨10592, 0, 32, 0, .ro, .none, false, .status⟩
/-! CAL_NVMADDR (R428), file 16. -/
def CAL_NVMADDR_ROW : Field := ⟨10632, 8, 11, 0, .rw, .i, false, .software⟩
/-! CAL_NVMCTL (R428), file 16. -/
def CAL_NVMCTL_GO : Field := ⟨10687, 31, 1, 0, .wo, .i, false, .command⟩
def CAL_NVMCTL_OP : Field := ⟨10656, 0, 2, 0, .rw, .i, false, .software⟩
/-! CAL_NVMSTAT (R428), file 16. -/
def CAL_NVMSTAT_RESULT : Field := ⟨10689, 1, 2, 0, .ro, .none, false, .status⟩
def CAL_NVMSTAT_BUSY : Field := ⟨10688, 0, 1, 0, .ro, .none, false, .status⟩
/-! CAL_NVMCNT (R428), file 16. -/
def CAL_NVMCNT_FAILS : Field := ⟨10736, 16, 16, 0, .rw, .i, false, .counter⟩
def CAL_NVMCNT_OPS : Field := ⟨10720, 0, 16, 0, .rw, .i, false, .counter⟩
/-! CAL_NVMBUF (R428), file 16. -/
def CAL_NVMBUF_DATA : Field := ⟨10752, 0, 32, 4294967295, .rw, .i, false, .software⟩
/-! MBX_STAGE (R466), file 17. -/
def MBX_STAGE_HOLD : Field := ⟨10784, 0, 1, 0, .rw, .i, false, .software⟩
/-! MBX_COLLIDE (R466), file 17. -/
def MBX_COLLIDE_COUNT : Field := ⟨10816, 0, 16, 0, .rw, .i, false, .counter⟩
/-! MBX_CTL (R466), file 17. -/
def MBX_CTL_BCNOTEN : Field := ⟨10856, 8, 7, 3, .rw, .i, false, .software⟩
/-! MBX_BCSTAT (R466), file 17. -/
def MBX_BCSTAT_IRQ : Field := ⟨10888, 8, 1, 0, .ro, .none, false, .status⟩
def MBX_BCSTAT_NOTQ : Field := ⟨10880, 0, 6, 0, .ro, .none, false, .status⟩
/-! MBX_BCCNT (R466), file 17. -/
def MBX_BCCNT_NOTDROP : Field := ⟨10928, 16, 16, 0, .rw, .i, false, .counter⟩
def MBX_BCCNT_NOTICES : Field := ⟨10912, 0, 16, 0, .rw, .i, false, .counter⟩
/-! MBX_CHORDQ (R466), file 17. -/
def MBX_CHORDQ_OUTSTANDING : Field := ⟨10944, 0, 5, 0, .ro, .none, false, .status⟩
/-! MBX_CHSTAT (R466), file 17. -/
def MBX_CHSTAT_RESPQ : Field := ⟨11000, 24, 3, 0, .ro, .none, false, .status⟩
def MBX_CHSTAT_INQ : Field := ⟨10992, 16, 5, 0, .ro, .none, false, .status⟩
def MBX_CHSTAT_EXEC : Field := ⟨10976, 0, 1, 0, .ro, .none, false, .status⟩
/-! MBX_CHCNT0 (R466), file 17. -/
def MBX_CHCNT0_CRCERR : Field := ⟨11024, 16, 16, 0, .rw, .i, false, .counter⟩
def MBX_CHCNT0_FRAMES : Field := ⟨11008, 0, 16, 0, .rw, .i, false, .counter⟩
/-! MBX_CHCNT1 (R466), file 17. -/
def MBX_CHCNT1_BUSYHW : Field := ⟨11056, 16, 16, 0, .rw, .i, false, .counter⟩
def MBX_CHCNT1_DENIED : Field := ⟨11040, 0, 16, 0, .rw, .i, false, .counter⟩
/-! MBX_LREQ (R466), file 17. -/
def MBX_LREQ_OFFSET : Field := ⟨11074, 2, 17, 0, .rw, .i, false, .software⟩
/-! MBX_LRSP (R466), file 17. -/
def MBX_LRSP_OFFSET : Field := ⟨11106, 2, 17, 0, .rw, .i, false, .software⟩
/-! MBX_LCTL (R466), file 17. -/
def MBX_LCTL_GO : Field := ⟨11167, 31, 1, 0, .wo, .i, false, .command⟩
def MBX_LCTL_ACK : Field := ⟨11166, 30, 1, 0, .wo, .i, false, .command⟩
def MBX_LCTL_RSPREADY : Field := ⟨11137, 1, 1, 0, .ro, .none, false, .status⟩
def MBX_LCTL_BUSY : Field := ⟨11136, 0, 1, 0, .ro, .none, false, .status⟩
/-! TGT_STAGE (R467), file 17. -/
def TGT_STAGE_HOLD : Field := ⟨11168, 0, 1, 0, .rw, .i, false, .software⟩
/-! TGT_COLLIDE (R467), file 17. -/
def TGT_COLLIDE_COUNT : Field := ⟨11200, 0, 16, 0, .rw, .i, false, .counter⟩
/-! TGT_STAT (R467), file 17. -/
def TGT_STAT_ADDR : Field := ⟨11240, 8, 7, 0, .ro, .none, false, .status⟩
def TGT_STAT_ACTIVE : Field := ⟨11239, 7, 1, 0, .ro, .none, false, .status⟩
def TGT_STAT_RESPQ : Field := ⟨11236, 4, 3, 0, .ro, .none, false, .status⟩
def TGT_STAT_INFREE : Field := ⟨11232, 0, 3, 0, .ro, .none, false, .status⟩
/-! TGT_CNT0 (R467), file 17. -/
def TGT_CNT0_BADOPS : Field := ⟨11280, 16, 16, 0, .rw, .i, false, .counter⟩
def TGT_CNT0_TRANS : Field := ⟨11264, 0, 16, 0, .rw, .i, false, .counter⟩
/-! TGT_CNT1 (R467), file 17. -/
def TGT_CNT1_CUTREADS : Field := ⟨11312, 16, 16, 0, .rw, .i, false, .counter⟩
def TGT_CNT1_SHORTWR : Field := ⟨11296, 0, 16, 0, .rw, .i, false, .counter⟩

end F

namespace RegMap

/-- The registers of block PMU. -/
def pmuRegs : List RegDef := [
  ⟨0, .pmu, [⟨0x40004000, 1, 0x0, 1, 0x0, 0⟩], [F.PMU_STAGE_HOLD]⟩,
  ⟨1, .pmu, [⟨0x40004004, 1, 0x0, 1, 0x0, 0⟩], [F.PMU_DOMCTL_PORTS, F.PMU_DOMCTL_UPLINK, F.PMU_DOMCTL_TRACE, F.PMU_DOMCTL_CHORD, F.PMU_DOMCTL_SERVICE, F.PMU_DOMCTL_FABRIC, F.PMU_DOMCTL_BOOT, F.PMU_DOMCTL_AON]⟩,
  ⟨2, .pmu, [⟨0x40004008, 1, 0x0, 1, 0x0, 0⟩], [F.PMU_DOMSTAT_CHANGING, F.PMU_DOMSTAT_ON]⟩,
  ⟨3, .pmu, [⟨0x4000400C, 1, 0x0, 1, 0x0, 0⟩], [F.PMU_RAILSTAT_RAIL_EN, F.PMU_RAILSTAT_DB_ACTIVE, F.PMU_RAILSTAT_VBAT_OK, F.PMU_RAILSTAT_VCONN_OK, F.PMU_RAILSTAT_VIO_OK, F.PMU_RAILSTAT_VDD33_OK, F.PMU_RAILSTAT_VDD18_OK, F.PMU_RAILSTAT_VCORE_OK, F.PMU_RAILSTAT_BOOT_OK]⟩,
  ⟨4, .pmu, [⟨0x40004010, 1, 0x0, 1, 0x0, 0⟩], [F.PMU_RAILCTL_EN2]⟩,
  ⟨5, .pmu, [⟨0x40004014, 1, 0x0, 1, 0x0, 0⟩], [F.PMU_CLKCTL_AUTO, F.PMU_CLKCTL_REFSEL]⟩,
  ⟨6, .pmu, [⟨0x40004018, 1, 0x0, 1, 0x0, 0⟩], [F.PMU_CLKSTAT_THROTTLE, F.PMU_CLKSTAT_RTCXO_OK, F.PMU_CLKSTAT_PLL_LOCK, F.PMU_CLKSTAT_REF_ACTIVE, F.PMU_CLKSTAT_REC_OK, F.PMU_CLKSTAT_XO_OK]⟩,
  ⟨7, .pmu, [⟨0x40004020, 1, 0x0, 1, 0x0, 0⟩], [F.PMU_RESET_CAUSE_SEEN, F.PMU_RESET_CAUSE_CHANNEL, F.PMU_RESET_CAUSE_CAUSE]⟩,
  ⟨8, .pmu, [⟨0x40004024, 1, 0x0, 1, 0x0, 0⟩], [F.PMU_COLLIDE_COUNT]⟩]

/-- The registers of block RTC. -/
def rtcRegs : List RegDef := [
  ⟨9, .rtc, [⟨0x40008000, 1, 0x0, 1, 0x0, 0⟩], [F.RTC_STAGE_HOLD]⟩,
  ⟨10, .rtc, [⟨0x40008004, 1, 0x0, 1, 0x0, 0⟩], [F.RTC_STATUS_ALARM_ARMED, F.RTC_STATUS_EPOCH_TRACK, F.RTC_STATUS_VBAT_LOW, F.RTC_STATUS_RTC_VALID]⟩,
  ⟨11, .rtc, [⟨0x40008008, 1, 0x0, 1, 0x0, 0⟩], [F.RTC_SNAP_SEL, F.RTC_SNAP_VALID, F.RTC_SNAP_REQ]⟩,
  ⟨12, .rtc, [⟨0x4000800C, 1, 0x0, 1, 0x0, 0⟩], [F.RTC_SNAP_LO_VALUE]⟩,
  ⟨13, .rtc, [⟨0x40008010, 1, 0x0, 1, 0x0, 0⟩], [F.RTC_SNAP_HI_VALUE]⟩,
  ⟨14, .rtc, [⟨0x40008014, 1, 0x0, 1, 0x0, 0⟩], [F.RTC_ALARM_LO_ALARM_LO]⟩,
  ⟨15, .rtc, [⟨0x40008018, 1, 0x0, 1, 0x0, 0⟩], [F.RTC_ALARM_HI_ARM, F.RTC_ALARM_HI_ALARM_HI]⟩,
  ⟨16, .rtc, [⟨0x4000801C, 1, 0x0, 1, 0x0, 0⟩], [F.RTC_EPOCH_LO_EPOCH]⟩,
  ⟨17, .rtc, [⟨0x40008020, 1, 0x0, 1, 0x0, 0⟩], [F.RTC_EPOCH_HI_EPOCH]⟩,
  ⟨18, .rtc, [⟨0x40008024, 1, 0x0, 1, 0x0, 0⟩], [F.RTC_TRIM_TRIM]⟩,
  ⟨19, .rtc, [⟨0x40008028, 1, 0x0, 1, 0x0, 0⟩], [F.RTC_COLLIDE_COUNT]⟩]

/-- The registers of block MPU. -/
def mpuRegs : List RegDef := [
  ⟨20, .mpu, [⟨0x4000C000, 1, 0x0, 1, 0x0, 0⟩], [F.MPU_STAGE_HOLD]⟩,
  ⟨21, .mpu, [⟨0x4000C004, 1, 0x0, 1, 0x0, 0⟩], [F.MPU_FREEZE_FROZEN]⟩,
  ⟨22, .mpu, [⟨0x4000C008, 1, 0x0, 1, 0x0, 0⟩], [F.MPU_THAW_THAW]⟩,
  ⟨23, .mpu, [⟨0x4000C00C, 1, 0x0, 1, 0x0, 0⟩], [F.MPU_VIOL_ADDR_ADDR]⟩,
  ⟨24, .mpu, [⟨0x4000C010, 1, 0x0, 1, 0x0, 0⟩], [F.MPU_VIOL_INFO_VALID, F.MPU_VIOL_INFO_WIDTH, F.MPU_VIOL_INFO_ACCESS, F.MPU_VIOL_INFO_REASON, F.MPU_VIOL_INFO_MASTER]⟩,
  ⟨25, .mpu, [⟨0x4000C014, 1, 0x0, 1, 0x0, 0⟩], [F.MPU_VIOL_COUNT_COUNT]⟩,
  ⟨26, .mpu, [⟨0x4000C018, 1, 0x0, 1, 0x0, 0⟩], [F.MPU_COLLIDE_COUNT]⟩,
  ⟨27, .mpu, [⟨0x4000C100, 11, 0x100, 16, 0x10, 0⟩], [F.MPU_WBASE_BASE]⟩,
  ⟨28, .mpu, [⟨0x4000C104, 11, 0x100, 16, 0x10, 0⟩], [F.MPU_WLIMIT_LIMIT]⟩,
  ⟨29, .mpu, [⟨0x4000C108, 11, 0x100, 16, 0x10, 0⟩], [F.MPU_WATTR_LOCK, F.MPU_WATTR_EN, F.MPU_WATTR_X, F.MPU_WATTR_W, F.MPU_WATTR_R]⟩]

/-- The registers of block D2D. -/
def d2dRegs : List RegDef := [
  ⟨30, .d2d, [⟨0x40080000, 1, 0x0, 1, 0x0, 0⟩], [F.D2D_STAGE_HOLD]⟩,
  ⟨31, .d2d, [⟨0x40080004, 1, 0x0, 1, 0x0, 0⟩], [F.D2D_COLLIDE_COUNT]⟩,
  ⟨32, .d2d, [⟨0x40080110, 7, 0x10, 1, 0x0, 1⟩], [F.D2D_LSTAT_STATE]⟩,
  ⟨33, .d2d, [⟨0x40080114, 7, 0x10, 1, 0x0, 1⟩], [F.D2D_LCNT0_LOSSES, F.D2D_LCNT0_RETRIES]⟩,
  ⟨34, .d2d, [⟨0x40080118, 7, 0x10, 1, 0x0, 1⟩], [F.D2D_LCNT1_DUPFAIL, F.D2D_LCNT1_TRAINS]⟩]

/-- The registers of block DIE. -/
def dieRegs : List RegDef := [
  ⟨35, .die, [⟨0x50050000, 4, 0x1000000, 1, 0x0, 0⟩, ⟨0x58050000, 1, 0x0, 1, 0x0, 4⟩], [F.DIE_STAGE_HOLD]⟩,
  ⟨36, .die, [⟨0x50050004, 4, 0x1000000, 1, 0x0, 0⟩, ⟨0x58050004, 1, 0x0, 1, 0x0, 4⟩], [F.DIE_COLLIDE_COUNT]⟩,
  ⟨37, .die, [⟨0x50050008, 4, 0x1000000, 1, 0x0, 0⟩, ⟨0x58050008, 1, 0x0, 1, 0x0, 4⟩], [F.DIE_STAT_TDIE, F.DIE_STAT_D2DUP, F.DIE_STAT_SHUTDOWN, F.DIE_STAT_HOT]⟩,
  ⟨38, .die, [⟨0x5005000C, 4, 0x1000000, 1, 0x0, 0⟩, ⟨0x5805000C, 1, 0x0, 1, 0x0, 4⟩], [F.DIE_REV_INDEX, F.DIE_REV_STEP, F.DIE_REV_TYPE]⟩,
  ⟨39, .die, [⟨0x50050010, 4, 0x1000000, 1, 0x0, 0⟩, ⟨0x58050010, 1, 0x0, 1, 0x0, 4⟩], [F.DIE_CNT_SHUTDOWNS, F.DIE_CNT_HOTS]⟩]

/-- The registers of block PART. -/
def partRegs : List RegDef := [
  ⟨40, .part, [⟨0x40020000, 1, 0x0, 1, 0x0, 0⟩], [F.PART_STAGE_HOLD]⟩,
  ⟨41, .part, [⟨0x40020010, 4, 0x10, 1, 0x0, 0⟩], [F.PART_PCTL_ACCEPT, F.PART_PCTL_VBUS_HOLD, F.PART_PCTL_PULLUP]⟩,
  ⟨42, .part, [⟨0x40020014, 4, 0x10, 1, 0x0, 0⟩], [F.PART_PSTAT_ADDR, F.PART_PSTAT_DBOP, F.PART_PSTAT_LPWR_LOST, F.PART_PSTAT_TTALT, F.PART_PSTAT_SUSPENDED, F.PART_PSTAT_CONFIGURED, F.PART_PSTAT_SPEED, F.PART_PSTAT_ATTACHED, F.PART_PSTAT_HOST]⟩,
  ⟨43, .part, [⟨0x40020018, 4, 0x10, 1, 0x0, 0⟩], [F.PART_PCNT_DETACHES, F.PART_PCNT_UPRESETS]⟩,
  ⟨44, .part, [⟨0x4002001C, 4, 0x10, 1, 0x0, 0⟩], [F.PART_FRAME_UFRAME, F.PART_FRAME_FRAME]⟩,
  ⟨45, .part, [⟨0x40020100, 4, 0x4, 1, 0x0, 0⟩], [F.PART_ASSIGN_PORT0, F.PART_ASSIGN_PORT1, F.PART_ASSIGN_PORT2, F.PART_ASSIGN_PORT3, F.PART_ASSIGN_PORT4, F.PART_ASSIGN_PORT5, F.PART_ASSIGN_PORT6, F.PART_ASSIGN_PORT7]⟩,
  ⟨46, .part, [⟨0x40020110, 4, 0x4, 1, 0x0, 0⟩], [F.PART_HOSTPWR_PWR]⟩,
  ⟨47, .part, [⟨0x40020120, 1, 0x0, 1, 0x0, 0⟩], [F.PART_MIGMASK_MASK]⟩,
  ⟨48, .part, [⟨0x40020124, 1, 0x0, 1, 0x0, 0⟩], [F.PART_MIGCTL_GO, F.PART_MIGCTL_TIMEOUT, F.PART_MIGCTL_KEEPALIVE, F.PART_MIGCTL_DEST]⟩,
  ⟨49, .part, [⟨0x40020128, 1, 0x0, 1, 0x0, 0⟩], [F.PART_MIGBUSY_BUSY]⟩,
  ⟨50, .part, [⟨0x4002012C, 1, 0x0, 1, 0x0, 0⟩], [F.PART_MIGCNT_ABORTED, F.PART_MIGCNT_DONE]⟩,
  ⟨51, .part, [⟨0x40020130, 1, 0x0, 1, 0x0, 0⟩], [F.PART_MIGREFUSE_COUNT]⟩,
  ⟨52, .part, [⟨0x40020134, 1, 0x0, 1, 0x0, 0⟩], [F.PART_COLLIDE_COUNT]⟩]

/-- The registers of block DPE. -/
def dpeRegs : List RegDef := [
  ⟨53, .dpe, [⟨0x40030000, 1, 0x0, 1, 0x0, 0⟩], [F.DPE_STAGE_HOLD]⟩,
  ⟨54, .dpe, [⟨0x40030004, 1, 0x0, 1, 0x0, 0⟩], [F.DPE_COLLIDE_COUNT]⟩,
  ⟨55, .dpe, [⟨0x40030008, 32, 0x80, 1, 0x0, 1⟩], [F.DPE_STATE_PREV, F.DPE_STATE_PART, F.DPE_STATE_LOGPWR, F.DPE_STATE_QUAR_FAULT, F.DPE_STATE_ISO_CAUSE, F.DPE_STATE_SWCLOSED, F.DPE_STATE_DEV, F.DPE_STATE_SPEED, F.DPE_STATE_STATE]⟩,
  ⟨56, .dpe, [⟨0x4003000C, 32, 0x80, 1, 0x0, 1⟩], [F.DPE_PORTSTAT_CHANGE, F.DPE_PORTSTAT_STATUS]⟩,
  ⟨57, .dpe, [⟨0x40030010, 32, 0x80, 1, 0x0, 1⟩], [F.DPE_CTL_LPM_EN, F.DPE_CTL_QUAR, F.DPE_CTL_ISOLATE]⟩,
  ⟨58, .dpe, [⟨0x40030014, 32, 0x80, 1, 0x0, 1⟩], [F.DPE_TIMING_RSMLEN, F.DPE_TIMING_RSTLEN]⟩,
  ⟨59, .dpe, [⟨0x40030018, 32, 0x80, 1, 0x0, 1⟩], [F.DPE_GLITCH_CFG_LEN, F.DPE_GLITCH_CFG_COUNT, F.DPE_GLITCH_CFG_MIDPKT, F.DPE_GLITCH_CFG_UNIT, F.DPE_GLITCH_CFG_TYPE]⟩,
  ⟨60, .dpe, [⟨0x4003001C, 32, 0x80, 1, 0x0, 1⟩], [F.DPE_GLITCH_GAP_GAP]⟩,
  ⟨61, .dpe, [⟨0x40030020, 32, 0x80, 1, 0x0, 1⟩], [F.DPE_GLITCH_CTL_WIN, F.DPE_GLITCH_CTL_ARMED, F.DPE_GLITCH_CTL_BUSY, F.DPE_GLITCH_CTL_GO]⟩,
  ⟨62, .dpe, [⟨0x40030024, 32, 0x80, 1, 0x0, 1⟩], [F.DPE_LPM_ADDR, F.DPE_LPM_RWE, F.DPE_LPM_BESL]⟩,
  ⟨63, .dpe, [⟨0x40030028, 32, 0x80, 1, 0x0, 1⟩], [F.DPE_CNT0_DISCONNECTS, F.DPE_CNT0_CONNECTS]⟩,
  ⟨64, .dpe, [⟨0x4003002C, 32, 0x80, 1, 0x0, 1⟩], [F.DPE_CNT1_DISABLES, F.DPE_CNT1_RESETS]⟩,
  ⟨65, .dpe, [⟨0x40030030, 32, 0x80, 1, 0x0, 1⟩], [F.DPE_CNT2_ABSORBED, F.DPE_CNT2_REMWAKES]⟩,
  ⟨66, .dpe, [⟨0x40030034, 32, 0x80, 1, 0x0, 1⟩], [F.DPE_CNT3_GSUPPR, F.DPE_CNT3_GLITCHES]⟩,
  ⟨67, .dpe, [⟨0x40030038, 32, 0x80, 1, 0x0, 1⟩], [F.DPE_CNT4_QREFUSE, F.DPE_CNT4_ISOLATIONS]⟩]

/-- The registers of block DSW. -/
def dswRegs : List RegDef := [
  ⟨68, .dsw, [⟨0x50030000, 4, 0x1000000, 1, 0x0, 0⟩], [F.DSW_STAGE_HOLD]⟩,
  ⟨69, .dsw, [⟨0x50030004, 4, 0x1000000, 1, 0x0, 0⟩], [F.DSW_COLLIDE_COUNT]⟩,
  ⟨70, .dsw, [⟨0x50030008, 4, 0x1000000, 1, 0x0, 0⟩], [F.DSW_OVCFG_OV_REL, F.DSW_OVCFG_OV_AUTO]⟩,
  ⟨71, .dsw, [⟨0x50030100, 4, 0x1000000, 8, 0x20, 1⟩], [F.DSW_PSTAT_STBUSY, F.DSW_PSTAT_QUAR, F.DSW_PSTAT_OVHOLD, F.DSW_PSTAT_OVLIVE, F.DSW_PSTAT_SW]⟩,
  ⟨72, .dsw, [⟨0x50030104, 4, 0x1000000, 8, 0x20, 1⟩], [F.DSW_PCTL_TESTS, F.DSW_PCTL_STGO, F.DSW_PCTL_REARM]⟩,
  ⟨73, .dsw, [⟨0x50030108, 4, 0x1000000, 8, 0x20, 1⟩], [F.DSW_STRES_RON, F.DSW_STRES_LOOP_FAIL, F.DSW_STRES_FUSE, F.DSW_STRES_ISO, F.DSW_STRES_LOOP]⟩,
  ⟨74, .dsw, [⟨0x5003010C, 4, 0x1000000, 8, 0x20, 1⟩], [F.DSW_STMEAS_LEAK, F.DSW_STMEAS_FTRIP_T, F.DSW_STMEAS_ILIM_ERR]⟩,
  ⟨75, .dsw, [⟨0x50030110, 4, 0x1000000, 8, 0x20, 1⟩], [F.DSW_PCNT_STRUNS, F.DSW_PCNT_OVTRIPS]⟩]

/-- The registers of block TT. -/
def ttRegs : List RegDef := [
  ⟨76, .tt, [⟨0x40040000, 1, 0x0, 1, 0x0, 0⟩], [F.TT_STAGE_HOLD]⟩,
  ⟨77, .tt, [⟨0x40040004, 1, 0x0, 1, 0x0, 0⟩], [F.TT_COLLIDE_COUNT]⟩,
  ⟨78, .tt, [⟨0x40040008, 1, 0x0, 1, 0x0, 0⟩], [F.TT_POOL_RESERVED, F.TT_POOL_FREE]⟩,
  ⟨79, .tt, [⟨0x4004000C, 1, 0x0, 1, 0x0, 0⟩], [F.TT_POOLUSE_PUSE, F.TT_POOLUSE_NPUSE]⟩,
  ⟨80, .tt, [⟨0x40040010, 1, 0x0, 1, 0x0, 0⟩], [F.TT_POOLCNT_REJECTS, F.TT_POOLCNT_EMPTY]⟩,
  ⟨81, .tt, [⟨0x40040014, 1, 0x0, 1, 0x0, 0⟩], [F.TT_POOLLOW_LOW]⟩,
  ⟨82, .tt, [⟨0x40040018, 1, 0x0, 1, 0x0, 0⟩], [F.TT_ECC_UNCORR, F.TT_ECC_CORR]⟩,
  ⟨83, .tt, [⟨0x40040020, 4, 0x4, 1, 0x0, 0⟩], [F.TT_BADSPLIT_COUNT]⟩,
  ⟨84, .tt, [⟨0x40040100, 32, 0x20, 1, 0x0, 1⟩], [F.TT_ALLOC_PMAX, F.TT_ALLOC_PRES, F.TT_ALLOC_NPBUF]⟩,
  ⟨85, .tt, [⟨0x40040104, 32, 0x20, 1, 0x0, 1⟩], [F.TT_PSTAT_WIRE, F.TT_PSTAT_STOPPED, F.TT_PSTAT_PUSE, F.TT_PSTAT_NPUSE]⟩,
  ⟨86, .tt, [⟨0x40040108, 32, 0x20, 1, 0x0, 1⟩], [F.TT_PPEAK_NPPEAK, F.TT_PPEAK_PPEAK]⟩,
  ⟨87, .tt, [⟨0x4004010C, 32, 0x20, 1, 0x0, 1⟩], [F.TT_PCNT0_PREFUSE, F.TT_PCNT0_NREFUSE]⟩,
  ⟨88, .tt, [⟨0x40040110, 32, 0x20, 1, 0x0, 1⟩], [F.TT_PCNT1_ABANDON, F.TT_PCNT1_CLEARS]⟩,
  ⟨89, .tt, [⟨0x40040114, 32, 0x20, 1, 0x0, 1⟩], [F.TT_PCNT2_ERRS, F.TT_PCNT2_DONE]⟩]

/-- The registers of block MF. -/
def mfRegs : List RegDef := [
  ⟨90, .mf, [⟨0x40050000, 1, 0x0, 1, 0x0, 0⟩], [F.MF_STAGE_HOLD]⟩,
  ⟨91, .mf, [⟨0x40050004, 1, 0x0, 1, 0x0, 0⟩], [F.MF_COLLIDE_COUNT]⟩,
  ⟨92, .mf, [⟨0x40050010, 4, 0x20, 1, 0x0, 0⟩], [F.MF_CTL_SOFMODE, F.MF_CTL_NOTEN, F.MF_CTL_CONNECT]⟩,
  ⟨93, .mf, [⟨0x40050014, 4, 0x20, 1, 0x0, 0⟩], [F.MF_STAT_ADDR, F.MF_STAT_DESC_BAD, F.MF_STAT_RWE, F.MF_STAT_CONFIGURED, F.MF_STAT_SPEED, F.MF_STAT_NOTPEND, F.MF_STAT_PSTATE]⟩,
  ⟨94, .mf, [⟨0x40050018, 4, 0x20, 1, 0x0, 0⟩], [F.MF_SOFIDX_SOFS, F.MF_SOFIDX_NEXT]⟩,
  ⟨95, .mf, [⟨0x4005001C, 4, 0x20, 1, 0x0, 0⟩], [F.MF_CNT0_FRAMEDROP, F.MF_CNT0_FRAMES]⟩,
  ⟨96, .mf, [⟨0x40050020, 4, 0x20, 1, 0x0, 0⟩], [F.MF_CNT1_NOTDROP, F.MF_CNT1_NOTICES]⟩,
  ⟨97, .mf, [⟨0x40050024, 4, 0x20, 1, 0x0, 0⟩], [F.MF_CNT2_ABSORBED, F.MF_CNT2_CTLABORT, F.MF_CNT2_RESETS]⟩,
  ⟨98, .mf, [⟨0x40050028, 4, 0x20, 1, 0x0, 0⟩], [F.MF_CNT3_NYETS, F.MF_CNT3_RESPDROP]⟩,
  ⟨99, .mf, [⟨0x40050100, 4, 0x20, 5, 0x4, 0⟩], [F.MF_EPD_DBL, F.MF_EPD_SIZE, F.MF_EPD_START]⟩]

/-- The registers of block TCPD. -/
def tcpdRegs : List RegDef := [
  ⟨100, .tcpd, [⟨0x50000000, 4, 0x1000000, 1, 0x0, 0⟩, ⟨0x58000000, 1, 0x0, 1, 0x0, 4⟩], [F.TCPD_STAGE_HOLD]⟩,
  ⟨101, .tcpd, [⟨0x50000004, 4, 0x1000000, 1, 0x0, 0⟩, ⟨0x58000004, 1, 0x0, 1, 0x0, 4⟩], [F.TCPD_COLLIDE_COUNT]⟩,
  ⟨102, .tcpd, [⟨0x50000008, 4, 0x1000000, 8, 0x200, 1⟩, ⟨0x50050208, 1, 0x0, 1, 0x0, 33⟩, ⟨0x58000008, 3, 0x200, 1, 0x0, 34⟩], [F.TCPD_CCCFG_DISC_EN, F.TCPD_CCCFG_VCONN_EN, F.TCPD_CCCFG_DEBUG_EN, F.TCPD_CCCFG_AUDIO_EN, F.TCPD_CCCFG_RPLVL, F.TCPD_CCCFG_ROLE, F.TCPD_CCCFG_CCEN]⟩,
  ⟨103, .tcpd, [⟨0x5000000C, 4, 0x1000000, 8, 0x200, 1⟩, ⟨0x5005020C, 1, 0x0, 1, 0x0, 33⟩, ⟨0x5800000C, 3, 0x200, 1, 0x0, 34⟩], [F.TCPD_CCTIM_DCSRC, F.TCPD_CCTIM_TDRP, F.TCPD_CCTIM_TPDDB, F.TCPD_CCTIM_TCCDB]⟩,
  ⟨104, .tcpd, [⟨0x50000010, 4, 0x1000000, 8, 0x200, 1⟩, ⟨0x50050210, 1, 0x0, 1, 0x0, 33⟩, ⟨0x58000010, 3, 0x200, 1, 0x0, 34⟩], [F.TCPD_CCSTAT_DISCAUSE, F.TCPD_CCSTAT_SINKCLAIM, F.TCPD_CCSTAT_SINKBLOCK, F.TCPD_CCSTAT_VSAFE0, F.TCPD_CCSTAT_CONTRACT, F.TCPD_CCSTAT_RPOUT, F.TCPD_CCSTAT_RPSEEN, F.TCPD_CCSTAT_ACC, F.TCPD_CCSTAT_CABLE_RA, F.TCPD_CCSTAT_POLARITY, F.TCPD_CCSTAT_CC2, F.TCPD_CCSTAT_CC1, F.TCPD_CCSTAT_STATE]⟩,
  ⟨105, .tcpd, [⟨0x50000014, 4, 0x1000000, 8, 0x200, 1⟩, ⟨0x50050214, 1, 0x0, 1, 0x0, 33⟩, ⟨0x58000014, 3, 0x200, 1, 0x0, 34⟩], [F.TCPD_CTL_DISCGO, F.TCPD_CTL_VCREARM]⟩,
  ⟨106, .tcpd, [⟨0x50000018, 4, 0x1000000, 8, 0x200, 1⟩, ⟨0x50050218, 1, 0x0, 1, 0x0, 33⟩, ⟨0x58000018, 3, 0x200, 1, 0x0, 34⟩], [F.TCPD_VCSTAT_VCCUR, F.TCPD_VCSTAT_VCREV, F.TCPD_VCSTAT_VCFAULT, F.TCPD_VCSTAT_VCPIN, F.TCPD_VCSTAT_VCON]⟩,
  ⟨107, .tcpd, [⟨0x5000001C, 4, 0x1000000, 8, 0x200, 1⟩, ⟨0x5005021C, 1, 0x0, 1, 0x0, 33⟩, ⟨0x5800001C, 3, 0x200, 1, 0x0, 34⟩], [F.TCPD_CABLE_VID, F.TCPD_CABLE_CEILEPR, F.TCPD_CABLE_CEIL5A, F.TCPD_CABLE_NOMARK, F.TCPD_CABLE_EPR, F.TCPD_CABLE_VMAX, F.TCPD_CABLE_ICAB, F.TCPD_CABLE_SOP2, F.TCPD_CABLE_ACTIVE, F.TCPD_CABLE_BUSY, F.TCPD_CABLE_VALID]⟩,
  ⟨108, .tcpd, [⟨0x50000020, 4, 0x1000000, 8, 0x200, 1⟩, ⟨0x50050220, 1, 0x0, 1, 0x0, 33⟩, ⟨0x58000020, 3, 0x200, 1, 0x0, 34⟩], [F.TCPD_CABLEVDO_VDO]⟩,
  ⟨109, .tcpd, [⟨0x50000024, 4, 0x1000000, 8, 0x200, 1⟩, ⟨0x50050224, 1, 0x0, 1, 0x0, 33⟩, ⟨0x58000024, 3, 0x200, 1, 0x0, 34⟩], [F.TCPD_CNT0_DETACHES, F.TCPD_CNT0_ATTACHES]⟩,
  ⟨110, .tcpd, [⟨0x50000028, 4, 0x1000000, 8, 0x200, 1⟩, ⟨0x50050228, 1, 0x0, 1, 0x0, 33⟩, ⟨0x58000028, 3, 0x200, 1, 0x0, 34⟩], [F.TCPD_CNT1_CCOVTRIPS, F.TCPD_CNT1_VCTRIPS]⟩,
  ⟨111, .tcpd, [⟨0x5000002C, 4, 0x1000000, 8, 0x200, 1⟩, ⟨0x5005022C, 1, 0x0, 1, 0x0, 33⟩, ⟨0x5800002C, 3, 0x200, 1, 0x0, 34⟩], [F.TCPD_CNT2_DISCFAIL, F.TCPD_CNT2_DISCOK]⟩,
  ⟨112, .tcpd, [⟨0x50000030, 4, 0x1000000, 8, 0x200, 1⟩, ⟨0x50050230, 1, 0x0, 1, 0x0, 33⟩, ⟨0x58000030, 3, 0x200, 1, 0x0, 34⟩], [F.TCPD_CNT3_RPCAPS, F.TCPD_CNT3_ACCESSORIES]⟩,
  ⟨113, .tcpd, [⟨0x50000080, 4, 0x1000000, 8, 0x200, 1⟩, ⟨0x50050280, 1, 0x0, 1, 0x0, 33⟩, ⟨0x58000080, 3, 0x200, 1, 0x0, 34⟩], [F.TCPD_PDCFG_PROFILE, F.TCPD_PDCFG_EPR_EN, F.TCPD_PDCFG_PPS_EN, F.TCPD_PDCFG_PRS_EN, F.TCPD_PDCFG_VCS_EN, F.TCPD_PDCFG_PD_EN]⟩,
  ⟨114, .tcpd, [⟨0x50000084, 4, 0x1000000, 8, 0x200, 1⟩, ⟨0x50050284, 1, 0x0, 1, 0x0, 33⟩, ⟨0x58000084, 3, 0x200, 1, 0x0, 34⟩], [F.TCPD_PDSTAT_HOLD, F.TCPD_PDSTAT_AMS, F.TCPD_PDSTAT_HRST, F.TCPD_PDSTAT_SWAP, F.TCPD_PDSTAT_FEED48, F.TCPD_PDSTAT_EPRMODE, F.TCPD_PDSTAT_PTYPE, F.TCPD_PDSTAT_REV, F.TCPD_PDSTAT_VCSRC, F.TCPD_PDSTAT_DROLE, F.TCPD_PDSTAT_PROLE]⟩,
  ⟨115, .tcpd, [⟨0x50000088, 4, 0x1000000, 8, 0x200, 1⟩, ⟨0x50050288, 1, 0x0, 1, 0x0, 33⟩, ⟨0x58000088, 3, 0x200, 1, 0x0, 34⟩], [F.TCPD_CONTRACT_OBJPOS, F.TCPD_CONTRACT_VOLT, F.TCPD_CONTRACT_CURR]⟩,
  ⟨116, .tcpd, [⟨0x5000008C, 4, 0x1000000, 8, 0x200, 1⟩, ⟨0x5005028C, 1, 0x0, 1, 0x0, 33⟩, ⟨0x5800008C, 3, 0x200, 1, 0x0, 34⟩], [F.TCPD_GRANT_PCAP, F.TCPD_GRANT_GRANT]⟩,
  ⟨117, .tcpd, [⟨0x50000090, 4, 0x1000000, 8, 0x200, 1⟩, ⟨0x50050290, 1, 0x0, 1, 0x0, 33⟩, ⟨0x58000090, 3, 0x200, 1, 0x0, 34⟩], [F.TCPD_TXCTL_EXT, F.TCPD_TXCTL_LEN, F.TCPD_TXCTL_SOP, F.TCPD_TXCTL_RESULT, F.TCPD_TXCTL_BUSY, F.TCPD_TXCTL_GO]⟩,
  ⟨118, .tcpd, [⟨0x50000094, 4, 0x1000000, 8, 0x200, 1⟩, ⟨0x50050294, 1, 0x0, 1, 0x0, 33⟩, ⟨0x58000094, 3, 0x200, 1, 0x0, 34⟩], [F.TCPD_TXHDR_EXTHDR, F.TCPD_TXHDR_HDR]⟩,
  ⟨119, .tcpd, [⟨0x50000098, 4, 0x1000000, 8, 0x200, 1⟩, ⟨0x50050298, 1, 0x0, 1, 0x0, 33⟩, ⟨0x58000098, 3, 0x200, 1, 0x0, 34⟩], [F.TCPD_RXSTAT_RELEASE, F.TCPD_RXSTAT_EXT, F.TCPD_RXSTAT_LEN, F.TCPD_RXSTAT_SOP, F.TCPD_RXSTAT_FULL]⟩,
  ⟨120, .tcpd, [⟨0x5000009C, 4, 0x1000000, 8, 0x200, 1⟩, ⟨0x5005029C, 1, 0x0, 1, 0x0, 33⟩, ⟨0x5800009C, 3, 0x200, 1, 0x0, 34⟩], [F.TCPD_RXHDR_EXTHDR, F.TCPD_RXHDR_HDR]⟩,
  ⟨121, .tcpd, [⟨0x500000A0, 4, 0x1000000, 8, 0x200, 1⟩, ⟨0x500502A0, 1, 0x0, 1, 0x0, 33⟩, ⟨0x580000A0, 3, 0x200, 1, 0x0, 34⟩], [F.TCPD_SINKCFG_PDMAX, F.TCPD_SINKCFG_ISET_B, F.TCPD_SINKCFG_ISET_A, F.TCPD_SINKCFG_SEL, F.TCPD_SINKCFG_MODE]⟩,
  ⟨122, .tcpd, [⟨0x500000A4, 4, 0x1000000, 8, 0x200, 1⟩, ⟨0x500502A4, 1, 0x0, 1, 0x0, 33⟩, ⟨0x580000A4, 3, 0x200, 1, 0x0, 34⟩], [F.TCPD_SINKSTAT_IMEAS, F.TCPD_SINKSTAT_PDLIM, F.TCPD_SINKSTAT_SKGON]⟩,
  ⟨123, .tcpd, [⟨0x500000A8, 4, 0x1000000, 8, 0x200, 1⟩, ⟨0x500502A8, 1, 0x0, 1, 0x0, 33⟩, ⟨0x580000A8, 3, 0x200, 1, 0x0, 34⟩], [F.TCPD_PDCNT0_WAITS, F.TCPD_PDCNT0_CONTRACTS]⟩,
  ⟨124, .tcpd, [⟨0x500000AC, 4, 0x1000000, 8, 0x200, 1⟩, ⟨0x500502AC, 1, 0x0, 1, 0x0, 33⟩, ⟨0x580000AC, 3, 0x200, 1, 0x0, 34⟩], [F.TCPD_PDCNT1_HRESETS, F.TCPD_PDCNT1_SRESETS]⟩,
  ⟨125, .tcpd, [⟨0x500000B0, 4, 0x1000000, 8, 0x200, 1⟩, ⟨0x500502B0, 1, 0x0, 1, 0x0, 33⟩, ⟨0x580000B0, 3, 0x200, 1, 0x0, 34⟩], [F.TCPD_PDCNT2_PRSWAPS, F.TCPD_PDCNT2_VCSWAPS]⟩,
  ⟨126, .tcpd, [⟨0x500000B4, 4, 0x1000000, 8, 0x200, 1⟩, ⟨0x500502B4, 1, 0x0, 1, 0x0, 33⟩, ⟨0x580000B4, 3, 0x200, 1, 0x0, 34⟩], [F.TCPD_PDCNT3_TXFAIL, F.TCPD_PDCNT3_RXBUSY]⟩,
  ⟨127, .tcpd, [⟨0x500000B8, 4, 0x1000000, 8, 0x200, 1⟩, ⟨0x500502B8, 1, 0x0, 1, 0x0, 33⟩, ⟨0x580000B8, 3, 0x200, 1, 0x0, 34⟩], [F.TCPD_PDCNT4_REJECTS, F.TCPD_PDCNT4_EPRENTRY]⟩,
  ⟨128, .tcpd, [⟨0x50000100, 8, 0x200, 32, 0x4, 32⟩, ⟨0x51000100, 8, 0x200, 32, 0x4, 288⟩, ⟨0x52000100, 8, 0x200, 32, 0x4, 544⟩, ⟨0x53000100, 8, 0x200, 32, 0x4, 800⟩, ⟨0x50050300, 1, 0x0, 32, 0x4, 1056⟩, ⟨0x58000100, 3, 0x200, 32, 0x4, 1088⟩], [F.TCPD_TXBUF_DATA]⟩,
  ⟨129, .tcpd, [⟨0x50000180, 8, 0x200, 32, 0x4, 32⟩, ⟨0x51000180, 8, 0x200, 32, 0x4, 288⟩, ⟨0x52000180, 8, 0x200, 32, 0x4, 544⟩, ⟨0x53000180, 8, 0x200, 32, 0x4, 800⟩, ⟨0x50050380, 1, 0x0, 32, 0x4, 1056⟩, ⟨0x58000180, 3, 0x200, 32, 0x4, 1088⟩], [F.TCPD_RXBUF_DATA]⟩]

/-- The registers of block PWR. -/
def pwrRegs : List RegDef := [
  ⟨130, .pwr, [⟨0x50010000, 4, 0x1000000, 1, 0x0, 0⟩], [F.PWR_STAGE_HOLD]⟩,
  ⟨131, .pwr, [⟨0x50010004, 4, 0x1000000, 1, 0x0, 0⟩], [F.PWR_COLLIDE_COUNT]⟩,
  ⟨132, .pwr, [⟨0x50010008, 4, 0x1000000, 1, 0x0, 0⟩], [F.PWR_BCFG_PSKIP, F.PWR_BCFG_FSW]⟩,
  ⟨133, .pwr, [⟨0x5001000C, 4, 0x1000000, 1, 0x0, 0⟩], [F.PWR_CSTAT_VBRD_OV, F.PWR_CSTAT_VBRD_UV, F.PWR_CSTAT_FSWNOW]⟩,
  ⟨134, .pwr, [⟨0x50010100, 4, 0x1000000, 8, 0x40, 1⟩], [F.PWR_VSET_SLEW, F.PWR_VSET_TSETTLE, F.PWR_VSET_VSET]⟩,
  ⟨135, .pwr, [⟨0x50010104, 4, 0x1000000, 8, 0x40, 1⟩], [F.PWR_LIM_IRAMP, F.PWR_LIM_IMARGIN, F.PWR_LIM_ILIM]⟩,
  ⟨136, .pwr, [⟨0x50010108, 4, 0x1000000, 8, 0x40, 1⟩], [F.PWR_TIM_RSLEW, F.PWR_TIM_TQUAL, F.PWR_TIM_TFLT]⟩,
  ⟨137, .pwr, [⟨0x5001010C, 4, 0x1000000, 8, 0x40, 1⟩], [F.PWR_RETRY_RDLY, F.PWR_RETRY_RETRY]⟩,
  ⟨138, .pwr, [⟨0x50010110, 4, 0x1000000, 8, 0x40, 1⟩], [F.PWR_THCFG_RON, F.PWR_THCFG_TTRIP, F.PWR_THCFG_TSRC]⟩,
  ⟨139, .pwr, [⟨0x50010114, 4, 0x1000000, 8, 0x40, 1⟩], [F.PWR_THP0_RCA, F.PWR_THP0_RJC]⟩,
  ⟨140, .pwr, [⟨0x50010118, 4, 0x1000000, 8, 0x40, 1⟩], [F.PWR_THP1_TAUC, F.PWR_THP1_TAUJ]⟩,
  ⟨141, .pwr, [⟨0x5001011C, 4, 0x1000000, 8, 0x40, 1⟩], [F.PWR_NTC_B, F.PWR_NTC_RNOM]⟩,
  ⟨142, .pwr, [⟨0x50010120, 4, 0x1000000, 8, 0x40, 1⟩], [F.PWR_COMP_KD, F.PWR_COMP_KI, F.PWR_COMP_KP]⟩,
  ⟨143, .pwr, [⟨0x50010124, 4, 0x1000000, 8, 0x40, 1⟩], [F.PWR_PCTL_CLRLATCH, F.PWR_PCTL_VOFF]⟩,
  ⟨144, .pwr, [⟨0x50010128, 4, 0x1000000, 8, 0x40, 1⟩], [F.PWR_PSTAT_CAUSE, F.PWR_PSTAT_DURRAMP, F.PWR_PSTAT_RETRYLEFT, F.PWR_PSTAT_OVLDX, F.PWR_PSTAT_CL, F.PWR_PSTAT_DROPOUT, F.PWR_PSTAT_LIMIT, F.PWR_PSTAT_PG, F.PWR_PSTAT_GATEON, F.PWR_PSTAT_STATE]⟩,
  ⟨145, .pwr, [⟨0x5001012C, 4, 0x1000000, 8, 0x40, 1⟩], [F.PWR_LEVELS_ICLAMP, F.PWR_LEVELS_IFT, F.PWR_LEVELS_IPK, F.PWR_LEVELS_ILIM_EFF]⟩,
  ⟨146, .pwr, [⟨0x50010130, 4, 0x1000000, 8, 0x40, 1⟩], [F.PWR_CNT0_LIMTRIPS, F.PWR_CNT0_FASTTRIPS]⟩,
  ⟨147, .pwr, [⟨0x50010134, 4, 0x1000000, 8, 0x40, 1⟩], [F.PWR_CNT1_THTRIPS, F.PWR_CNT1_OTHERTRIPS]⟩,
  ⟨148, .pwr, [⟨0x50010138, 4, 0x1000000, 8, 0x40, 1⟩], [F.PWR_CNT2_RETRIES, F.PWR_CNT2_LATCHES]⟩,
  ⟨149, .pwr, [⟨0x5001013C, 4, 0x1000000, 8, 0x40, 1⟩], [F.PWR_CNT3_OVLDEXH, F.PWR_CNT3_LREFUSE]⟩]

/-- The registers of block ADC. -/
def adcRegs : List RegDef := [
  ⟨150, .adc, [⟨0x50040000, 4, 0x1000000, 1, 0x0, 0⟩], [F.ADC_STAGE_HOLD]⟩,
  ⟨151, .adc, [⟨0x50040004, 4, 0x1000000, 1, 0x0, 0⟩], [F.ADC_COLLIDE_COUNT]⟩,
  ⟨152, .adc, [⟨0x50040008, 4, 0x1000000, 1, 0x0, 0⟩], [F.ADC_SNAP_SEL, F.ADC_SNAP_VALID, F.ADC_SNAP_REQ]⟩,
  ⟨153, .adc, [⟨0x5004000C, 4, 0x1000000, 1, 0x0, 0⟩], [F.ADC_SNAP_LO_VALUE]⟩,
  ⟨154, .adc, [⟨0x50040010, 4, 0x1000000, 1, 0x0, 0⟩], [F.ADC_SNAP_HI_VALUE]⟩,
  ⟨155, .adc, [⟨0x50040014, 4, 0x1000000, 1, 0x0, 0⟩], [F.ADC_BRD_TDIE, F.ADC_BRD_VBRD]⟩,
  ⟨156, .adc, [⟨0x50040100, 4, 0x1000000, 8, 0x20, 1⟩], [F.ADC_PCFG_RSHUNT]⟩,
  ⟨157, .adc, [⟨0x50040104, 4, 0x1000000, 8, 0x20, 1⟩], [F.ADC_PV_VOUT, F.ADC_PV_VBUS]⟩,
  ⟨158, .adc, [⟨0x50040108, 4, 0x1000000, 8, 0x20, 1⟩], [F.ADC_PI_IPEAK, F.ADC_PI_IBUS]⟩,
  ⟨159, .adc, [⟨0x5004010C, 4, 0x1000000, 8, 0x20, 1⟩], [F.ADC_PT_TCASE, F.ADC_PT_TEST]⟩,
  ⟨160, .adc, [⟨0x50040110, 4, 0x1000000, 8, 0x20, 1⟩], [F.ADC_POVL_OVLDSUM]⟩,
  ⟨161, .adc, [⟨0x50040114, 4, 0x1000000, 8, 0x20, 1⟩], [F.ADC_PPWR_PFET, F.ADC_PPWR_POUT]⟩]

/-- The registers of block ENT. -/
def entRegs : List RegDef := [
  ⟨162, .ent, [⟨0x50020000, 1, 0x0, 1, 0x0, 0⟩], [F.ENT_STAGE_HOLD]⟩,
  ⟨163, .ent, [⟨0x50020004, 1, 0x0, 1, 0x0, 0⟩], [F.ENT_COLLIDE_COUNT]⟩,
  ⟨164, .ent, [⟨0x50020008, 1, 0x0, 1, 0x0, 0⟩], [F.ENT_HSCFG_HSIRAMP, F.ENT_HSCFG_HSILIM, F.ENT_HSCFG_RSHUNT]⟩,
  ⟨165, .ent, [⟨0x5002000C, 1, 0x0, 1, 0x0, 0⟩], [F.ENT_HSTIM_HSSLEW, F.ENT_HSTIM_HSQUAL, F.ENT_HSTIM_HSTFLT]⟩,
  ⟨166, .ent, [⟨0x50020010, 1, 0x0, 1, 0x0, 0⟩], [F.ENT_HSRETRY_RDLY, F.ENT_HSRETRY_RETRY]⟩,
  ⟨167, .ent, [⟨0x50020014, 1, 0x0, 1, 0x0, 0⟩], [F.ENT_HSTH_RON, F.ENT_HSTH_TTRIP, F.ENT_HSTH_TSRC]⟩,
  ⟨168, .ent, [⟨0x50020018, 1, 0x0, 1, 0x0, 0⟩], [F.ENT_HSTHP0_RCA, F.ENT_HSTHP0_RJC]⟩,
  ⟨169, .ent, [⟨0x5002001C, 1, 0x0, 1, 0x0, 0⟩], [F.ENT_HSTHP1_TAUC, F.ENT_HSTHP1_TAUJ]⟩,
  ⟨170, .ent, [⟨0x50020020, 1, 0x0, 1, 0x0, 0⟩], [F.ENT_HSNTC_B, F.ENT_HSNTC_RNOM]⟩,
  ⟨171, .ent, [⟨0x50020024, 1, 0x0, 1, 0x0, 0⟩], [F.ENT_SURGE_VSURGE, F.ENT_SURGE_VCLAMP]⟩,
  ⟨172, .ent, [⟨0x50020028, 1, 0x0, 1, 0x0, 0⟩], [F.ENT_HCTL_CLRLATCH, F.ENT_HCTL_HSOFF, F.ENT_HCTL_FOFF_B, F.ENT_HCTL_FOFF_A]⟩,
  ⟨173, .ent, [⟨0x5002002C, 1, 0x0, 1, 0x0, 0⟩], [F.ENT_HSTAT_CAUSE, F.ENT_HSTAT_RETRYLEFT, F.ENT_HSTAT_CLAMP, F.ENT_HSTAT_LIMIT, F.ENT_HSTAT_GATEON, F.ENT_HSTAT_PG_BRD, F.ENT_HSTAT_SEAT_B, F.ENT_HSTAT_SEAT_A, F.ENT_HSTAT_STATE]⟩,
  ⟨174, .ent, [⟨0x50020030, 1, 0x0, 1, 0x0, 0⟩], [F.ENT_FSTAT_UV, F.ENT_FSTAT_SURGE, F.ENT_FSTAT_B_REV, F.ENT_FSTAT_B_COND, F.ENT_FSTAT_B_PRES, F.ENT_FSTAT_A_REV, F.ENT_FSTAT_A_COND, F.ENT_FSTAT_A_PRES]⟩,
  ⟨175, .ent, [⟨0x50020034, 1, 0x0, 1, 0x0, 0⟩], [F.ENT_FV_FEED_B, F.ENT_FV_FEED_A]⟩,
  ⟨176, .ent, [⟨0x50020038, 1, 0x0, 1, 0x0, 0⟩], [F.ENT_BV_HS_OUT, F.ENT_BV_VIN_OR]⟩,
  ⟨177, .ent, [⟨0x5002003C, 1, 0x0, 1, 0x0, 0⟩], [F.ENT_HSM_TEST, F.ENT_HSM_IHS]⟩,
  ⟨178, .ent, [⟨0x50020040, 1, 0x0, 1, 0x0, 0⟩], [F.ENT_CNT0_RETRIES, F.ENT_CNT0_HSFAULTS]⟩,
  ⟨179, .ent, [⟨0x50020044, 1, 0x0, 1, 0x0, 0⟩], [F.ENT_CNT1_SEATLOSS, F.ENT_CNT1_REVOFFS]⟩,
  ⟨180, .ent, [⟨0x50020048, 1, 0x0, 1, 0x0, 0⟩], [F.ENT_CNT2_LREFUSE, F.ENT_CNT2_LATCHES]⟩]

/-- The registers of block GOV. -/
def govRegs : List RegDef := [
  ⟨181, .gov, [⟨0x400C0000, 1, 0x0, 1, 0x0, 0⟩], [F.GOV_STAGE_HOLD]⟩,
  ⟨182, .gov, [⟨0x400C0004, 1, 0x0, 1, 0x0, 0⟩], [F.GOV_COLLIDE_COUNT]⟩,
  ⟨183, .gov, [⟨0x400C0008, 1, 0x0, 1, 0x0, 0⟩], [F.GOV_SNAP_SEL, F.GOV_SNAP_VALID, F.GOV_SNAP_REQ]⟩,
  ⟨184, .gov, [⟨0x400C000C, 1, 0x0, 1, 0x0, 0⟩], [F.GOV_SNAP_LO_VALUE]⟩,
  ⟨185, .gov, [⟨0x400C0010, 1, 0x0, 1, 0x0, 0⟩], [F.GOV_SNAP_HI_VALUE]⟩,
  ⟨186, .gov, [⟨0x400C0014, 1, 0x0, 1, 0x0, 0⟩], [F.GOV_BUDGET_SHEDW, F.GOV_BUDGET_BUDGET]⟩,
  ⟨187, .gov, [⟨0x400C0018, 1, 0x0, 1, 0x0, 0⟩], [F.GOV_SAG_SAGRENEG, F.GOV_SAG_SAGREL, F.GOV_SAG_VSAG]⟩,
  ⟨188, .gov, [⟨0x400C001C, 1, 0x0, 1, 0x0, 0⟩], [F.GOV_FOLD_FOLD3, F.GOV_FOLD_FOLD2, F.GOV_FOLD_FOLD1, F.GOV_FOLD_FOLD0]⟩,
  ⟨189, .gov, [⟨0x400C0020, 1, 0x0, 1, 0x0, 0⟩], [F.GOV_PRIO0_CLASS0, F.GOV_PRIO0_CLASS1, F.GOV_PRIO0_CLASS2, F.GOV_PRIO0_CLASS3, F.GOV_PRIO0_CLASS4, F.GOV_PRIO0_CLASS5, F.GOV_PRIO0_CLASS6, F.GOV_PRIO0_CLASS7, F.GOV_PRIO0_CLASS8, F.GOV_PRIO0_CLASS9, F.GOV_PRIO0_CLASS10, F.GOV_PRIO0_CLASS11, F.GOV_PRIO0_CLASS12, F.GOV_PRIO0_CLASS13, F.GOV_PRIO0_CLASS14, F.GOV_PRIO0_CLASS15]⟩,
  ⟨190, .gov, [⟨0x400C0024, 1, 0x0, 1, 0x0, 0⟩], [F.GOV_PRIO1_CLASS0, F.GOV_PRIO1_CLASS1, F.GOV_PRIO1_CLASS2, F.GOV_PRIO1_CLASS3, F.GOV_PRIO1_CLASS4, F.GOV_PRIO1_CLASS5, F.GOV_PRIO1_CLASS6, F.GOV_PRIO1_CLASS7, F.GOV_PRIO1_CLASS8, F.GOV_PRIO1_CLASS9, F.GOV_PRIO1_CLASS10, F.GOV_PRIO1_CLASS11, F.GOV_PRIO1_CLASS12, F.GOV_PRIO1_CLASS13, F.GOV_PRIO1_CLASS14, F.GOV_PRIO1_CLASS15]⟩,
  ⟨191, .gov, [⟨0x400C0028, 1, 0x0, 1, 0x0, 0⟩], [F.GOV_STAT_BURSTMS, F.GOV_STAT_BRDOFF, F.GOV_STAT_SHEDDING, F.GOV_STAT_SAG, F.GOV_STAT_FEED48]⟩,
  ⟨192, .gov, [⟨0x400C002C, 1, 0x0, 1, 0x0, 0⟩], [F.GOV_PBRD_PALLOC, F.GOV_PBRD_PBRD]⟩,
  ⟨193, .gov, [⟨0x400C0030, 1, 0x0, 1, 0x0, 0⟩], [F.GOV_SHED_PORTS]⟩,
  ⟨194, .gov, [⟨0x400C0034, 1, 0x0, 1, 0x0, 0⟩], [F.GOV_BRDOFF_PORTS]⟩,
  ⟨195, .gov, [⟨0x400C0038, 1, 0x0, 1, 0x0, 0⟩], [F.GOV_CNT0_SAGS, F.GOV_CNT0_SURGES]⟩,
  ⟨196, .gov, [⟨0x400C003C, 1, 0x0, 1, 0x0, 0⟩], [F.GOV_CNT1_SWAPS, F.GOV_CNT1_SHEDS]⟩,
  ⟨197, .gov, [⟨0x400C0040, 1, 0x0, 1, 0x0, 0⟩], [F.GOV_CNT2_BURSTS, F.GOV_CNT2_PGLOSS]⟩,
  ⟨198, .gov, [⟨0x400C0044, 1, 0x0, 1, 0x0, 0⟩], [F.GOV_SAGMIN_SAGMS, F.GOV_SAGMIN_VMIN]⟩,
  ⟨199, .gov, [⟨0x400C0048, 1, 0x0, 1, 0x0, 0⟩], [F.GOV_RESV_RESV]⟩]

/-- The registers of block CHORD. -/
def chordRegs : List RegDef := [
  ⟨200, .chord, [⟨0x40060000, 1, 0x0, 1, 0x0, 0⟩], [F.CHORD_STAGE_HOLD]⟩,
  ⟨201, .chord, [⟨0x40060004, 1, 0x0, 1, 0x0, 0⟩], [F.CHORD_COLLIDE_COUNT]⟩,
  ⟨202, .chord, [⟨0x40060008, 1, 0x0, 1, 0x0, 0⟩], [F.CHORD_SNAP_SEL, F.CHORD_SNAP_VALID, F.CHORD_SNAP_REQ]⟩,
  ⟨203, .chord, [⟨0x4006000C, 1, 0x0, 1, 0x0, 0⟩], [F.CHORD_SNAP_LO_VALUE]⟩,
  ⟨204, .chord, [⟨0x40060010, 1, 0x0, 1, 0x0, 0⟩], [F.CHORD_SNAP_HI_VALUE]⟩,
  ⟨205, .chord, [⟨0x40060014, 1, 0x0, 1, 0x0, 0⟩], [F.CHORD_CFG_STEPTHR, F.CHORD_CFG_HOLDMAX, F.CHORD_CFG_RANGEMODE, F.CHORD_CFG_REVERT, F.CHORD_CFG_AUTOFAIL, F.CHORD_CFG_APEX]⟩,
  ⟨206, .chord, [⟨0x40060018, 1, 0x0, 1, 0x0, 0⟩], [F.CHORD_STAT_ADDR, F.CHORD_STAT_DEPTH, F.CHORD_STAT_ADDRESSED, F.CHORD_STAT_ACTIVEUP, F.CHORD_STAT_HOLDOVER, F.CHORD_STAT_SYNC]⟩,
  ⟨207, .chord, [⟨0x4006001C, 1, 0x0, 1, 0x0, 0⟩], [F.CHORD_RANGE_HI, F.CHORD_RANGE_LO]⟩,
  ⟨208, .chord, [⟨0x40060020, 4, 0x4, 1, 0x0, 0⟩], [F.CHORD_DNRANGE_DNHI, F.CHORD_DNRANGE_DNLO]⟩,
  ⟨209, .chord, [⟨0x40060030, 1, 0x0, 1, 0x0, 0⟩], [F.CHORD_PPS_PERIOD, F.CHORD_PPS_EN]⟩,
  ⟨210, .chord, [⟨0x40060034, 1, 0x0, 1, 0x0, 0⟩], [F.CHORD_CMDTMO_CMDTMO]⟩,
  ⟨211, .chord, [⟨0x40060038, 1, 0x0, 1, 0x0, 0⟩], [F.CHORD_CNT0_FAILOVERS, F.CHORD_CNT0_STEPS]⟩,
  ⟨212, .chord, [⟨0x4006003C, 1, 0x0, 1, 0x0, 0⟩], [F.CHORD_CNT1_LATERESP, F.CHORD_CNT1_NOROUTE]⟩,
  ⟨213, .chord, [⟨0x40060080, 16, 0x8, 1, 0x0, 0⟩], [F.CHORD_ADOPTA_HI, F.CHORD_ADOPTA_LO]⟩,
  ⟨214, .chord, [⟨0x40060084, 16, 0x8, 1, 0x0, 0⟩], [F.CHORD_ADOPTB_VALID, F.CHORD_ADOPTB_LINK]⟩,
  ⟨215, .chord, [⟨0x40060100, 6, 0x20, 1, 0x0, 0⟩], [F.CHORD_LSTAT_PEERADDR, F.CHORD_LSTAT_PEERDEPTH, F.CHORD_LSTAT_PEERSYNC, F.CHORD_LSTAT_REFUSE, F.CHORD_LSTAT_STATE]⟩,
  ⟨216, .chord, [⟨0x40060104, 6, 0x20, 1, 0x0, 0⟩], [F.CHORD_LCTL_ASYM, F.CHORD_LCTL_EN]⟩,
  ⟨217, .chord, [⟨0x40060108, 6, 0x20, 1, 0x0, 0⟩], [F.CHORD_LRTT_VALUE]⟩,
  ⟨218, .chord, [⟨0x4006010C, 6, 0x20, 1, 0x0, 0⟩], [F.CHORD_LOFFS_VALUE]⟩,
  ⟨219, .chord, [⟨0x40060110, 6, 0x20, 1, 0x0, 0⟩], [F.CHORD_LCNT0_SYMERR, F.CHORD_LCNT0_DROPS]⟩,
  ⟨220, .chord, [⟨0x40060114, 6, 0x20, 1, 0x0, 0⟩], [F.CHORD_LCNT1_CMDRX, F.CHORD_LCNT1_CMDTX]⟩]

/-- The registers of block TAT. -/
def tatRegs : List RegDef := [
  ⟨221, .tat, [⟨0x40064000, 1, 0x0, 1, 0x0, 0⟩], [F.TAT_STAGE_HOLD]⟩,
  ⟨222, .tat, [⟨0x40064004, 1, 0x0, 1, 0x0, 0⟩], [F.TAT_COLLIDE_COUNT]⟩,
  ⟨223, .tat, [⟨0x40064008, 1, 0x0, 1, 0x0, 0⟩], [F.TAT_CFG_LEAD, F.TAT_CFG_TRACEMARK]⟩,
  ⟨224, .tat, [⟨0x4006400C, 1, 0x0, 1, 0x0, 0⟩], [F.TAT_STAT_BUSY, F.TAT_STAT_EMPTY, F.TAT_STAT_NEXT, F.TAT_STAT_USED]⟩,
  ⟨225, .tat, [⟨0x40064010, 1, 0x0, 7, 0x4, 0⟩], [F.TAT_NEW_WORD]⟩,
  ⟨226, .tat, [⟨0x4006402C, 1, 0x0, 1, 0x0, 0⟩], [F.TAT_CMD_CANCEL, F.TAT_CMD_ADD, F.TAT_CMD_INDEX]⟩,
  ⟨227, .tat, [⟨0x40064030, 1, 0x0, 1, 0x0, 0⟩], [F.TAT_RESULT_RESULT, F.TAT_RESULT_INDEX]⟩,
  ⟨228, .tat, [⟨0x40064034, 1, 0x0, 1, 0x0, 0⟩], [F.TAT_RDSEL_INDEX]⟩,
  ⟨229, .tat, [⟨0x40064038, 1, 0x0, 8, 0x4, 0⟩], [F.TAT_RD_WORD]⟩,
  ⟨230, .tat, [⟨0x40064058, 5, 0x4, 1, 0x0, 0⟩], [F.TAT_IRQVAL_INDEX, F.TAT_IRQVAL_VALUE]⟩,
  ⟨231, .tat, [⟨0x4006406C, 1, 0x0, 1, 0x0, 0⟩], [F.TAT_CNT0_SUPPR, F.TAT_CNT0_LAUNCHES]⟩,
  ⟨232, .tat, [⟨0x40064070, 1, 0x0, 1, 0x0, 0⟩], [F.TAT_CNT1_REFUSED, F.TAT_CNT1_CANCELS]⟩,
  ⟨233, .tat, [⟨0x40064074, 1, 0x0, 1, 0x0, 0⟩], [F.TAT_CNT2_LATE, F.TAT_CNT2_DEFERRED]⟩]

/-- The registers of block TRC. -/
def trcRegs : List RegDef := [
  ⟨234, .trc, [⟨0x40070000, 1, 0x0, 1, 0x0, 0⟩], [F.TRC_STAGE_HOLD]⟩,
  ⟨235, .trc, [⟨0x40070004, 1, 0x0, 1, 0x0, 0⟩], [F.TRC_COLLIDE_COUNT]⟩,
  ⟨236, .trc, [⟨0x40070008, 1, 0x0, 1, 0x0, 0⟩], [F.TRC_SNAP_SEL, F.TRC_SNAP_VALID, F.TRC_SNAP_REQ]⟩,
  ⟨237, .trc, [⟨0x4007000C, 1, 0x0, 1, 0x0, 0⟩], [F.TRC_SNAP_LO_VALUE]⟩,
  ⟨238, .trc, [⟨0x40070010, 1, 0x0, 1, 0x0, 0⟩], [F.TRC_SNAP_HI_VALUE]⟩,
  ⟨239, .trc, [⟨0x40070014, 1, 0x0, 1, 0x0, 0⟩], [F.TRC_CFG_SNAPLEN, F.TRC_CFG_MODE, F.TRC_CFG_MEM]⟩,
  ⟨240, .trc, [⟨0x40070018, 1, 0x0, 1, 0x0, 0⟩], [F.TRC_CTL_CLEAR, F.TRC_CTL_TRIG, F.TRC_CTL_STOP, F.TRC_CTL_START]⟩,
  ⟨241, .trc, [⟨0x4007001C, 1, 0x0, 1, 0x0, 0⟩], [F.TRC_STAT_MEMSIZE, F.TRC_STAT_DROPPING, F.TRC_STAT_FULL, F.TRC_STAT_TRIGGERED, F.TRC_STAT_STATE]⟩,
  ⟨242, .trc, [⟨0x40070020, 1, 0x0, 1, 0x0, 0⟩], [F.TRC_PORTS_PORTS]⟩,
  ⟨243, .trc, [⟨0x40070024, 1, 0x0, 1, 0x0, 0⟩], [F.TRC_TAPS_PIDCLS, F.TRC_TAPS_MF, F.TRC_TAPS_UNATTR, F.TRC_TAPS_TT, F.TRC_TAPS_REP]⟩,
  ⟨244, .trc, [⟨0x40070028, 8, 0x4, 1, 0x0, 0⟩], [F.TRC_AMATCH_EN, F.TRC_AMATCH_EPANY, F.TRC_AMATCH_EP, F.TRC_AMATCH_ADDR]⟩,
  ⟨245, .trc, [⟨0x40070048, 1, 0x0, 1, 0x0, 0⟩], [F.TRC_TRIG_POST, F.TRC_TRIG_MARKEN, F.TRC_TRIG_FAULTEN]⟩,
  ⟨246, .trc, [⟨0x4007004C, 1, 0x0, 1, 0x0, 0⟩], [F.TRC_TRIGF_FMASK, F.TRC_TRIGF_FID]⟩,
  ⟨247, .trc, [⟨0x40070050, 1, 0x0, 1, 0x0, 0⟩], [F.TRC_TRIGV_VALUE]⟩,
  ⟨248, .trc, [⟨0x40070054, 1, 0x0, 1, 0x0, 0⟩], [F.TRC_EXP_DEST]⟩,
  ⟨249, .trc, [⟨0x40070058, 1, 0x0, 1, 0x0, 0⟩], [F.TRC_WPAGE_PAGE]⟩,
  ⟨250, .trc, [⟨0x4007005C, 1, 0x0, 1, 0x0, 0⟩], [F.TRC_MARK_VALUE]⟩,
  ⟨251, .trc, [⟨0x40070060, 1, 0x0, 1, 0x0, 0⟩], [F.TRC_ECC_UNCORR, F.TRC_ECC_CORR]⟩,
  ⟨252, .trc, [⟨0x40070064, 1, 0x0, 1, 0x0, 0⟩], [F.TRC_CNT0_DROPS, F.TRC_CNT0_TRIGS]⟩,
  ⟨253, .trc, [⟨0x40070068, 1, 0x0, 1, 0x0, 0⟩], [F.TRC_CNT1_TRIGIGN, F.TRC_CNT1_STARTS]⟩,
  ⟨254, .trc, [⟨0x4007006C, 1, 0x0, 1, 0x0, 0⟩], [F.TRC_CNT2_LOSTEXP, F.TRC_CNT2_SKIPPED]⟩]

/-- The registers of block BBC. -/
def bbcRegs : List RegDef := [
  ⟨255, .bbc, [⟨0x5C000000, 2, 0x10000, 1, 0x0, 0⟩], [F.BBC_STAGE_HOLD]⟩,
  ⟨256, .bbc, [⟨0x5C000004, 2, 0x10000, 1, 0x0, 0⟩], [F.BBC_COLLIDE_COUNT]⟩,
  ⟨257, .bbc, [⟨0x5C000008, 2, 0x10000, 1, 0x0, 0⟩], [F.BBC_SCRUB_SCRUBINT]⟩,
  ⟨258, .bbc, [⟨0x5C00000C, 2, 0x10000, 1, 0x0, 0⟩], [F.BBC_SCRUBPOS_POS]⟩,
  ⟨259, .bbc, [⟨0x5C000010, 2, 0x10000, 1, 0x0, 0⟩], [F.BBC_ECC0_CORR2, F.BBC_ECC0_CORR1]⟩,
  ⟨260, .bbc, [⟨0x5C000014, 2, 0x10000, 1, 0x0, 0⟩], [F.BBC_ECC1_PASSES, F.BBC_ECC1_UNCORR]⟩,
  ⟨261, .bbc, [⟨0x5C000018, 2, 0x10000, 1, 0x0, 0⟩], [F.BBC_ERRADDR_VALID, F.BBC_ERRADDR_ADDR]⟩,
  ⟨262, .bbc, [⟨0x5C00001C, 2, 0x10000, 1, 0x0, 0⟩], [F.BBC_STAT_READY]⟩]

/-- The registers of block IC. -/
def icRegs : List RegDef := [
  ⟨263, .ic, [⟨0x48000000, 256, 0x4, 1, 0x0, 0⟩], [F.IC_SRC_MOD, F.IC_SRC_TARGET, F.IC_SRC_PRIO]⟩,
  ⟨264, .ic, [⟨0x48001000, 8, 0x4, 1, 0x0, 0⟩], [F.IC_PEND_PEND]⟩,
  ⟨265, .ic, [⟨0x48002000, 8, 0x4, 1, 0x0, 0⟩], [F.IC_EN_EN]⟩,
  ⟨266, .ic, [⟨0x48002020, 8, 0x4, 1, 0x0, 0⟩], [F.IC_LINE_LINE]⟩,
  ⟨267, .ic, [⟨0x48004000, 5, 0x1000, 1, 0x0, 0⟩], [F.IC_THRESH_THRESH]⟩,
  ⟨268, .ic, [⟨0x48004004, 5, 0x1000, 1, 0x0, 0⟩], [F.IC_LVL_NULL, F.IC_LVL_ENTRY, F.IC_LVL_WFI, F.IC_LVL_DEPTH, F.IC_LVL_CURLVL]⟩,
  ⟨269, .ic, [⟨0x48004008, 5, 0x1000, 1, 0x0, 0⟩], [F.IC_COMPLETE_LEVEL]⟩,
  ⟨270, .ic, [⟨0x4800400C, 5, 0x1000, 1, 0x0, 0⟩], [F.IC_STACK0_SLOT0, F.IC_STACK0_SLOT1, F.IC_STACK0_SLOT2, F.IC_STACK0_SLOT3, F.IC_STACK0_SLOT4, F.IC_STACK0_SLOT5, F.IC_STACK0_SLOT6, F.IC_STACK0_SLOT7]⟩,
  ⟨271, .ic, [⟨0x48004010, 5, 0x1000, 1, 0x0, 0⟩], [F.IC_STACK1_SLOT0, F.IC_STACK1_SLOT1, F.IC_STACK1_SLOT2, F.IC_STACK1_SLOT3, F.IC_STACK1_SLOT4, F.IC_STACK1_SLOT5, F.IC_STACK1_SLOT6]⟩,
  ⟨272, .ic, [⟨0x48004014, 5, 0x1000, 1, 0x0, 0⟩], [F.IC_TIMER_COUNT]⟩,
  ⟨273, .ic, [⟨0x48004018, 5, 0x1000, 1, 0x0, 0⟩], [F.IC_KICK_REMAIN, F.IC_KICK_KICK]⟩,
  ⟨274, .ic, [⟨0x4800401C, 5, 0x1000, 1, 0x0, 0⟩], [F.IC_CNT_STKERR, F.IC_CNT_NULLENT]⟩,
  ⟨275, .ic, [⟨0x48004100, 5, 0x4, 1, 0x0, 0⟩], [F.IC_CORECTL_WDTMO, F.IC_CORECTL_RUNNING, F.IC_CORECTL_RESET]⟩]

/-- The registers of block SYS. -/
def sysRegs : List RegDef := [
  ⟨276, .sys, [⟨0x40000000, 1, 0x0, 1, 0x0, 0⟩], [F.SYS_STAGE_HOLD]⟩,
  ⟨277, .sys, [⟨0x40000004, 1, 0x0, 1, 0x0, 0⟩], [F.SYS_COLLIDE_COUNT]⟩,
  ⟨278, .sys, [⟨0x40000008, 1, 0x0, 1, 0x0, 0⟩], [F.SYS_ID_PART, F.SYS_ID_STEP, F.SYS_ID_DIES]⟩,
  ⟨279, .sys, [⟨0x4000000C, 1, 0x0, 1, 0x0, 0⟩], [F.SYS_STRAP_UNSTABLE, F.SYS_STRAP_STRAPS]⟩,
  ⟨280, .sys, [⟨0x40000010, 1, 0x0, 1, 0x0, 0⟩], [F.SYS_BOOT_BOOT_STATUS]⟩,
  ⟨281, .sys, [⟨0x40000014, 1, 0x0, 1, 0x0, 0⟩], [F.SYS_FWREL_RELEASE]⟩,
  ⟨282, .sys, [⟨0x40000018, 1, 0x0, 1, 0x0, 0⟩], [F.SYS_SERIAL0_SERIAL]⟩,
  ⟨283, .sys, [⟨0x4000001C, 1, 0x0, 1, 0x0, 0⟩], [F.SYS_SERIAL1_SERIAL]⟩,
  ⟨284, .sys, [⟨0x40000100, 4, 0x20, 1, 0x0, 0⟩], [F.SYS_DMASRC_ADDR]⟩,
  ⟨285, .sys, [⟨0x40000104, 4, 0x20, 1, 0x0, 0⟩], [F.SYS_DMADST_ADDR]⟩,
  ⟨286, .sys, [⟨0x40000108, 4, 0x20, 1, 0x0, 0⟩], [F.SYS_DMALEN_WORDS]⟩,
  ⟨287, .sys, [⟨0x4000010C, 4, 0x20, 1, 0x0, 0⟩], [F.SYS_DMACTL_GO, F.SYS_DMACTL_STOP]⟩,
  ⟨288, .sys, [⟨0x40000110, 4, 0x20, 1, 0x0, 0⟩], [F.SYS_DMASTAT_REMAIN, F.SYS_DMASTAT_FROZEN, F.SYS_DMASTAT_BUSY]⟩,
  ⟨289, .sys, [⟨0x40000114, 4, 0x20, 1, 0x0, 0⟩], [F.SYS_DMACNT0_STOPS, F.SYS_DMACNT0_DONE]⟩,
  ⟨290, .sys, [⟨0x40000118, 4, 0x20, 1, 0x0, 0⟩], [F.SYS_DMACNT1_ABSENTS, F.SYS_DMACNT1_IGNORED]⟩]

/-- The registers of block QSPI. -/
def qspiRegs : List RegDef := [
  ⟨291, .qspi, [⟨0x400A0000, 1, 0x0, 1, 0x0, 0⟩], [F.QSPI_STAGE_HOLD]⟩,
  ⟨292, .qspi, [⟨0x400A0004, 1, 0x0, 1, 0x0, 0⟩], [F.QSPI_COLLIDE_COUNT]⟩,
  ⟨293, .qspi, [⟨0x400A0008, 1, 0x0, 1, 0x0, 0⟩], [F.QSPI_CFG_SAMPLE, F.QSPI_CFG_RATE]⟩,
  ⟨294, .qspi, [⟨0x400A000C, 1, 0x0, 1, 0x0, 0⟩], [F.QSPI_STAT_SIZE, F.QSPI_STAT_SFDPOK, F.QSPI_STAT_OPBUSY, F.QSPI_STAT_HBUSY]⟩,
  ⟨295, .qspi, [⟨0x400A0010, 1, 0x0, 1, 0x0, 0⟩], [F.QSPI_HSTART_VALUE]⟩,
  ⟨296, .qspi, [⟨0x400A0014, 1, 0x0, 1, 0x0, 0⟩], [F.QSPI_HLEN_VALUE]⟩,
  ⟨297, .qspi, [⟨0x400A0018, 1, 0x0, 1, 0x0, 0⟩], [F.QSPI_HCTL_START, F.QSPI_HCTL_HRESULT]⟩,
  ⟨298, .qspi, [⟨0x400A0020, 1, 0x0, 8, 0x4, 0⟩], [F.QSPI_HASH_DIGEST]⟩,
  ⟨299, .qspi, [⟨0x400A0040, 1, 0x0, 1, 0x0, 0⟩], [F.QSPI_OPADDR_ADDR]⟩,
  ⟨300, .qspi, [⟨0x400A0044, 1, 0x0, 1, 0x0, 0⟩], [F.QSPI_OPCTL_GO, F.QSPI_OPCTL_LEN, F.QSPI_OPCTL_OP]⟩,
  ⟨301, .qspi, [⟨0x400A0048, 1, 0x0, 1, 0x0, 0⟩], [F.QSPI_OPRES_RESULT]⟩,
  ⟨302, .qspi, [⟨0x400A004C, 1, 0x0, 1, 0x0, 0⟩], [F.QSPI_CNT_FAILS, F.QSPI_CNT_OPS]⟩,
  ⟨303, .qspi, [⟨0x400A0100, 1, 0x0, 64, 0x4, 0⟩], [F.QSPI_PBUF_DATA]⟩]

/-- The registers of block FC. -/
def fcRegs : List RegDef := [
  ⟨304, .fc, [⟨0x40010000, 1, 0x0, 1, 0x0, 0⟩], [F.FC_STAGE_HOLD]⟩,
  ⟨305, .fc, [⟨0x40010004, 1, 0x0, 1, 0x0, 0⟩], [F.FC_COLLIDE_COUNT]⟩,
  ⟨306, .fc, [⟨0x40010008, 1, 0x0, 1, 0x0, 0⟩], [F.FC_SEL_DEFINED, F.FC_SEL_ALL, F.FC_SEL_ID]⟩,
  ⟨307, .fc, [⟨0x4001000C, 1, 0x0, 1, 0x0, 0⟩], [F.FC_SCFG_LOCKED, F.FC_SCFG_INJCOUNT, F.FC_SCFG_REACT, F.FC_SCFG_WINDOW, F.FC_SCFG_N]⟩,
  ⟨308, .fc, [⟨0x40010010, 1, 0x0, 1, 0x0, 0⟩], [F.FC_SSTAT_COUNT, F.FC_SSTAT_DOMOFF, F.FC_SSTAT_WIRE, F.FC_SSTAT_CAUSE, F.FC_SSTAT_STATE]⟩,
  ⟨309, .fc, [⟨0x40010014, 1, 0x0, 1, 0x0, 0⟩], [F.FC_SCNT_INJECTED, F.FC_SCNT_EVENTS]⟩,
  ⟨310, .fc, [⟨0x40010018, 1, 0x0, 1, 0x0, 0⟩], [F.FC_CLR_GO, F.FC_CLR_ID]⟩,
  ⟨311, .fc, [⟨0x4001001C, 1, 0x0, 1, 0x0, 0⟩], [F.FC_INJ_GO, F.FC_INJ_MODE, F.FC_INJ_ID]⟩,
  ⟨312, .fc, [⟨0x40010020, 1, 0x0, 1, 0x0, 0⟩], [F.FC_RESULT_ID, F.FC_RESULT_RESULT]⟩,
  ⟨313, .fc, [⟨0x40010024, 1, 0x0, 1, 0x0, 0⟩], [F.FC_SUM_LASTSEV, F.FC_SUM_SEVERE]⟩,
  ⟨314, .fc, [⟨0x40010028, 1, 0x0, 1, 0x0, 0⟩], [F.FC_ST_FAILID, F.FC_ST_RESULT, F.FC_ST_BUSY, F.FC_ST_GO]⟩,
  ⟨315, .fc, [⟨0x4001002C, 1, 0x0, 1, 0x0, 0⟩], [F.FC_CNT0_INJECTED, F.FC_CNT0_EVENTS]⟩,
  ⟨316, .fc, [⟨0x40010030, 1, 0x0, 1, 0x0, 0⟩], [F.FC_CNT1_WIREFAULTS, F.FC_CNT1_EXPECTED]⟩,
  ⟨317, .fc, [⟨0x40010034, 1, 0x0, 1, 0x0, 0⟩], [F.FC_CNT2_CLRREFUSE, F.FC_CNT2_STFAILS]⟩]

/-- The registers of block LOG. -/
def logRegs : List RegDef := [
  ⟨318, .log, [⟨0x40014000, 1, 0x0, 1, 0x0, 0⟩], [F.LOG_STAGE_HOLD]⟩,
  ⟨319, .log, [⟨0x40014004, 1, 0x0, 1, 0x0, 0⟩], [F.LOG_COLLIDE_COUNT]⟩,
  ⟨320, .log, [⟨0x40014008, 1, 0x0, 1, 0x0, 0⟩], [F.LOG_CFG_EN]⟩,
  ⟨321, .log, [⟨0x4001400C, 1, 0x0, 1, 0x0, 0⟩], [F.LOG_WR_SEQ]⟩,
  ⟨322, .log, [⟨0x40014010, 1, 0x0, 1, 0x0, 0⟩], [F.LOG_STAT_SUBBUSY, F.LOG_STAT_QUEUE]⟩,
  ⟨323, .log, [⟨0x40014014, 1, 0x0, 1, 0x0, 0⟩], [F.LOG_CNT_DROPS, F.LOG_CNT_SUBMITS]⟩,
  ⟨324, .log, [⟨0x40014020, 1, 0x0, 5, 0x4, 0⟩], [F.LOG_SUB_WORD]⟩,
  ⟨325, .log, [⟨0x40014034, 1, 0x0, 1, 0x0, 0⟩], [F.LOG_SUBCTL_GO]⟩]

/-- The registers of block CAL. -/
def calRegs : List RegDef := [
  ⟨326, .cal, [⟨0x40090000, 1, 0x0, 1, 0x0, 0⟩], [F.CAL_STAGE_HOLD]⟩,
  ⟨327, .cal, [⟨0x40090004, 1, 0x0, 1, 0x0, 0⟩], [F.CAL_COLLIDE_COUNT]⟩,
  ⟨328, .cal, [⟨0x40090008, 1, 0x0, 1, 0x0, 0⟩], [F.CAL_STAT_STAGED, F.CAL_STAT_ORIGIN, F.CAL_STAT_EXPORTED, F.CAL_STAT_COMMIT, F.CAL_STAT_NVMOK, F.CAL_STAT_DEFAULTS, F.CAL_STAT_LOADED]⟩,
  ⟨329, .cal, [⟨0x4009000C, 1, 0x0, 1, 0x0, 0⟩], [F.CAL_GEN_VALUE]⟩,
  ⟨330, .cal, [⟨0x40090010, 1, 0x0, 1, 0x0, 0⟩], [F.CAL_CRC_VALUE]⟩,
  ⟨331, .cal, [⟨0x40090800, 1, 0x0, 300, 0x4, 0⟩], [F.CAL_DATA_DATA]⟩,
  ⟨332, .cal, [⟨0x40090100, 1, 0x0, 1, 0x0, 0⟩], [F.CAL_NVMADDR_ROW]⟩,
  ⟨333, .cal, [⟨0x40090104, 1, 0x0, 1, 0x0, 0⟩], [F.CAL_NVMCTL_GO, F.CAL_NVMCTL_OP]⟩,
  ⟨334, .cal, [⟨0x40090108, 1, 0x0, 1, 0x0, 0⟩], [F.CAL_NVMSTAT_RESULT, F.CAL_NVMSTAT_BUSY]⟩,
  ⟨335, .cal, [⟨0x4009010C, 1, 0x0, 1, 0x0, 0⟩], [F.CAL_NVMCNT_FAILS, F.CAL_NVMCNT_OPS]⟩,
  ⟨336, .cal, [⟨0x40090200, 1, 0x0, 64, 0x4, 0⟩], [F.CAL_NVMBUF_DATA]⟩]

/-- The registers of block MBX. -/
def mbxRegs : List RegDef := [
  ⟨337, .mbx, [⟨0x40018000, 1, 0x0, 1, 0x0, 0⟩], [F.MBX_STAGE_HOLD]⟩,
  ⟨338, .mbx, [⟨0x40018004, 1, 0x0, 1, 0x0, 0⟩], [F.MBX_COLLIDE_COUNT]⟩,
  ⟨339, .mbx, [⟨0x40018008, 1, 0x0, 1, 0x0, 0⟩], [F.MBX_CTL_BCNOTEN]⟩,
  ⟨340, .mbx, [⟨0x4001800C, 1, 0x0, 1, 0x0, 0⟩], [F.MBX_BCSTAT_IRQ, F.MBX_BCSTAT_NOTQ]⟩,
  ⟨341, .mbx, [⟨0x40018010, 1, 0x0, 1, 0x0, 0⟩], [F.MBX_BCCNT_NOTDROP, F.MBX_BCCNT_NOTICES]⟩,
  ⟨342, .mbx, [⟨0x40018014, 1, 0x0, 1, 0x0, 0⟩], [F.MBX_CHORDQ_OUTSTANDING]⟩,
  ⟨343, .mbx, [⟨0x40018020, 8, 0x10, 1, 0x0, 0⟩], [F.MBX_CHSTAT_RESPQ, F.MBX_CHSTAT_INQ, F.MBX_CHSTAT_EXEC]⟩,
  ⟨344, .mbx, [⟨0x40018024, 8, 0x10, 1, 0x0, 0⟩], [F.MBX_CHCNT0_CRCERR, F.MBX_CHCNT0_FRAMES]⟩,
  ⟨345, .mbx, [⟨0x40018028, 8, 0x10, 1, 0x0, 0⟩], [F.MBX_CHCNT1_BUSYHW, F.MBX_CHCNT1_DENIED]⟩,
  ⟨346, .mbx, [⟨0x40018800, 1, 0x0, 1, 0x0, 0⟩], [F.MBX_LREQ_OFFSET]⟩,
  ⟨347, .mbx, [⟨0x40018804, 1, 0x0, 1, 0x0, 0⟩], [F.MBX_LRSP_OFFSET]⟩,
  ⟨348, .mbx, [⟨0x40018808, 1, 0x0, 1, 0x0, 0⟩], [F.MBX_LCTL_GO, F.MBX_LCTL_ACK, F.MBX_LCTL_RSPREADY, F.MBX_LCTL_BUSY]⟩]

/-- The registers of block TGT. -/
def tgtRegs : List RegDef := [
  ⟨349, .tgt, [⟨0x400B0000, 2, 0x4000, 1, 0x0, 0⟩], [F.TGT_STAGE_HOLD]⟩,
  ⟨350, .tgt, [⟨0x400B0004, 2, 0x4000, 1, 0x0, 0⟩], [F.TGT_COLLIDE_COUNT]⟩,
  ⟨351, .tgt, [⟨0x400B0008, 2, 0x4000, 1, 0x0, 0⟩], [F.TGT_STAT_ADDR, F.TGT_STAT_ACTIVE, F.TGT_STAT_RESPQ, F.TGT_STAT_INFREE]⟩,
  ⟨352, .tgt, [⟨0x400B000C, 2, 0x4000, 1, 0x0, 0⟩], [F.TGT_CNT0_BADOPS, F.TGT_CNT0_TRANS]⟩,
  ⟨353, .tgt, [⟨0x400B0010, 2, 0x4000, 1, 0x0, 0⟩], [F.TGT_CNT1_CUTREADS, F.TGT_CNT1_SHORTWR]⟩]

/-- The registers of one block. -/
def ofBlock : Block → List RegDef
  | .pmu => pmuRegs
  | .rtc => rtcRegs
  | .mpu => mpuRegs
  | .d2d => d2dRegs
  | .die => dieRegs
  | .part => partRegs
  | .dpe => dpeRegs
  | .dsw => dswRegs
  | .tt => ttRegs
  | .mf => mfRegs
  | .tcpd => tcpdRegs
  | .pwr => pwrRegs
  | .adc => adcRegs
  | .ent => entRegs
  | .gov => govRegs
  | .chord => chordRegs
  | .tat => tatRegs
  | .trc => trcRegs
  | .bbc => bbcRegs
  | .ic => icRegs
  | .sys => sysRegs
  | .qspi => qspiRegs
  | .fc => fcRegs
  | .log => logRegs
  | .cal => calRegs
  | .mbx => mbxRegs
  | .tgt => tgtRegs

/-- Every block. -/
def blocks : List Block := [.pmu, .rtc, .mpu, .d2d, .die, .part, .dpe, .dsw, .tt, .mf, .tcpd, .pwr, .adc, .ent, .gov, .chord, .tat, .trc, .bbc, .ic, .sys, .qspi, .fc, .log, .cal, .mbx, .tgt]

/-- Every register of the part. -/
def all : List RegDef := blocks.flatMap ofBlock

end RegMap

end Sys2Proof
end

