-- ==== Sys2Proof/Machine/TypesCmd.lean ====
section
/-! DEFINITION. The types of the commands' operands: fixed sets of names and small records that the outside supplies. -/

namespace Sys2Proof.Machine

/-- The boundary of R101 at which staged writes apply. -/
inductive Boundary where
  | f | m | p | t
deriving DecidableEq, Repr

/-- A hardware change that reaches a register field on the same clock edge as a software write (R108). -/
structure HwChange where
  fieldId : Nat
  index : Nat
  value : Nat
deriving DecidableEq, Repr

/-- The handshake of a device to a token (USB 2.0). -/
inductive Handshake where
  | ack | nyet | stall | timeout
deriving DecidableEq, Repr

/-- What a self-test measured (R164): failed loopback speeds (bit 0 LS, 1 FS, 2 HS), leakage in 10 nA, on-resistance in
0.1 Ω, signed limit error in 0.5 %, fast-trip response in 4 ns, an external pull-up found as the switch closes; and the
step that has ended: 2 loopback, 3 leakage (the switch closes), 4 on-resistance (it opens), 5 fuse injection, which ends
the self-test. -/
structure SelfTest where
  loopFail : Nat
  leak : Nat
  ron : Nat
  ilimErr : Int
  ftrip : Nat
  pullUp : Bool
  upTo : Nat
deriving DecidableEq, Repr

/-- What the Currant samples of one port in one control period (R286, R297), before calibration: the shunt voltage in µV,
positive for current out of the port; Pnn_VOUT, Pnn_VBUS and VBRD in 10 mV; die temperature in 0.1 °C; the NTC resistance in
10 Ω, none while Pnn_TEMP is outside its range; the resistive drop of the converter's path in 10 mV (R277); the current in mA
that the load would draw (R279); SINKBUS in 10 mV (R262).  For the hot-swap, port 0, the voltages are VIN_OR, HS_OUT, FEED_A and,
as `sinkBus`, FEED_B, and the seating pins are low or not (R300, R303). -/
structure PortSample where
  shunt : Int
  vout : Nat
  vbus : Nat
  vbrd : Nat
  tdie : Int
  ntc : Option Nat
  pathDrop : Nat
  demand : Nat
  sinkBus : Nat
  seatA : Bool
  seatB : Bool
deriving DecidableEq, Repr

/-- The same readings with calibration applied (R297): current in mA, voltages in 10 mV, temperature in 0.1 °C. -/
structure Measured where
  i : Int
  vout : Nat
  vbus : Nat
  vbrd : Nat
  sinkBus : Nat
  tdie : Int
deriving DecidableEq, Repr

/-- The kinds of access of a master (R113). -/
inductive Acc where
  | load | store | fetch
deriving DecidableEq, Repr, Inhabited

/-- The alias views of R95. -/
inductive AliasView where
  | set | clr | tgl
deriving DecidableEq, Repr

end Sys2Proof.Machine
end

