-- ==== Sys2Proof/Machine/TypesPort.lean ====
section
/-! DEFINITION. Plain records of a port's Type-C, Power Delivery and power stage state outside its registers, and of the
feed entry and the governor (R215 to R316). -/

namespace Sys2Proof.Machine

/-- A Type-C port (R215 to R237) where it is no register field. -/
structure CcPort where
  /-- VBUS as last measured, in 10 mV. -/
  vbus : Nat
  /-- Attempts of the cable discovery under way (R230). -/
  attempts : Nat
  /-- An attempt waits for its answer (R220, R230). -/
  discWait : Bool
  /-- The HOSTOFF cause stood since the port entered Disabled (R291). -/
  hostOff : Bool
  /-- The port attached as sink by Type-C, not by a swap (R223). -/
  attachedSink : Bool
deriving DecidableEq, Repr, Inhabited

/-- A Power Delivery message that a port sends (R247). -/
inductive PdMsg where
  | accept | reject | wait | psRdy | softReset | notSupported | hardReset | cableReset | prSwap | vconnSwap
  | getSourceCap | getSinkCap | keepAliveAck | vdmNak | sourceCapsExt | status | ppsStatus | bistAccepted
  /-- Product type PDUSB hub, as DFP or as UFP, with VID and PID. -/
  | identityAck (upstream : Bool) (vid pid : Nat)
  | manufacturerInfo (vid pid : Nat) (text : List Nat)
  | revision (bcd : Nat)
  /-- Managed capability port: maximum, present and reported PDP in W. -/
  | sourceInfo (maxPdp presentPdp reportedPdp : Nat)
  /-- The chunk protocol of extended messages (R243): a request for chunk `n`, and chunk `n` of a message of `size` bytes. -/
  | chunkRequest (sop typ n : Nat)
  | chunk (sop typ size n : Nat) (bytes : List Nat)
  | sourceCaps (objects : List Nat)
  | eprSourceCaps (objects : List (Nat × Nat))
  | sinkCaps (objects : List Nat)
  | request (object : Nat)
  | eprMode (action data : Nat)
  | discoverIdentity (sop : Nat)
  | alert (overTemperature : Bool)
  | raw (sop header extHeader : Nat) (ext : Bool) (bytes : List Nat)
deriving DecidableEq, Repr, Inhabited

/-- A contract accepted and not yet in force (R253, R255, R262): object position, voltage in mV, current in 10 mA, power
in 10 mW, contract type (R272), EPR Mode Capable. -/
structure Offer where
  pos : Nat
  volt : Nat
  curr : Nat
  power : Nat
  ptype : Nat
  eprCapable : Bool
deriving DecidableEq, Repr, Inhabited

/-- Where a role swap stands (R261, R263, R264). -/
inductive Swap where
  /-- None under way. -/
  | none
  /-- The part has sent PR_Swap or VCONN_Swap and waits for the answer. -/
  | prSent | vconnSent
  /-- Source to sink: accepted, source off, sink presented, partner's source on. -/
  | toSinkAccepted | toSinkOff | toSinkWait | toSinkRequest
  /-- Sink to source: accepted, source starting. -/
  | toSourceAccepted | toSourceOn
  /-- VCONN: the partner is to become VCONN source; the part has turned VCONN on and is to send its PS_RDY. -/
  | vconnGive | vconnTaking
deriving DecidableEq, Repr, Inhabited

/-- What a partner asked of a port whose core runs an owner image, which has to answer it (R246). -/
inductive PdAsk where
  | none
  | request (epr : Bool) (pos volt curr : Nat) (eprCapable : Bool)
  | prSwap (rivals : List Nat)
  | vconnSwap (trips : Bool)
  | drSwap
deriving DecidableEq, Repr, Inhabited

/-- An AMS that the part began, apart from an offer and a swap, and whose answer it waits for (R220, R241, R247): Soft_Reset,
Discover Identity on SOP, a message of an owner's image. -/
inductive PdOwn where
  | none | softReset | identity | image
deriving DecidableEq, Repr, Inhabited

/-- How a swap that the part sent ended (R452). -/
inductive SwapEnd where
  | pending | done | reject | wait | silent | hardReset
deriving DecidableEq, Repr, Inhabited

/-- A policy engine and its protocol layer (R241 to R272) where it is no register field. -/
structure PdPort where
  /-- Messages sent in the latest event of the port, oldest first. -/
  out : List PdMsg
  /-- Objects of the last Source_Capabilities and EPR_Source_Capabilities sent on this connection: position, object. -/
  offered : List (Nat × Nat)
  offeredEpr : List (Nat × Nat)
  /-- PD heard on this attach; silence since the last Hard Reset. -/
  heard : Bool
  silent : Bool
  /-- Hard Resets sent since the attach or the last contract; Source_Capabilities attempts without GoodCRC. -/
  hardResets : Nat
  attempts : Nat
  /-- No PD until detach (R252). -/
  noPd : Bool
  /-- Capabilities sent with GoodCRC and no Request yet. -/
  awaiting : Bool
  /-- The last answer to a Request was Wait (R254). -/
  lastWait : Bool
  accepted : Option Offer
  /-- The contract in force: voltage in mV and whether its request carried EPR Mode Capable. -/
  volt : Nat
  eprCapable : Bool
  /-- EPR entry is acknowledged and being judged; the part is leaving EPR mode. -/
  eprPending : Bool
  eprLeaving : Bool
  swap : Swap
  /-- The swap was asked for by a command, and its outcome. -/
  swapEnd : SwapEnd
  /-- Step of R266 reached, 0 for none. -/
  hardStep : Nat
  /-- New capabilities are due at the end of the exchange under way (R267, R269). -/
  capsDue : Bool
  /-- Alert to send after the next explicit contract: over-temperature or not (R290). -/
  alertDue : Option Bool
  /-- Discover Identity was sent on SOP. -/
  identitySent : Bool
  /-- Retries of the message in TCPD_TXBUF; a PS_RDY held back (R246). -/
  retries : Nat
  heldReady : Bool
  /-- The sink's own request last sent, and whether the source accepted it (R262). -/
  sinkOffer : Option Offer
  sinkAccepted : Bool
  /-- The partner's sink capabilities, as last received. -/
  partnerSink : Option (List Nat)
  /-- The source capabilities of the partner, as last received. -/
  partnerSource : List Nat
  /-- Get_Sink_Cap of a command (R452): 0 none, 1 sent, 2 answered, 3 Not_Supported, 4 no answer. -/
  query : Nat
  /-- The AMS under way was begun by the part (R220). -/
  ownAms : Bool
  /-- The next MessageID to send, and the last received plus one, for SOP, SOP′ and SOP″ (R241). -/
  txIds : List Nat
  rxIds : List Nat
  /-- An extended message being assembled: SOP, header, size, bytes so far; one being sent whose chunks the partner may ask
  for: SOP, type and bytes (R243). -/
  rxExt : Option (Nat × Nat × Nat × List Nat)
  txExt : Option (Nat × Nat × List Nat)
  ask : PdAsk
  own : PdOwn
  /-- The capabilities last sent were due because PCAP fell below the grant, and no valid request has come since (R255). -/
  trimmed : Bool
deriving DecidableEq, Repr, Inhabited

/-- A power stage (R273 to R294) where it is no register field. -/
structure PwrPort where
  /-- VSET_EFF in 10 mV, and the setpoint that moves toward it, in mV (R274, R278). -/
  vset : Nat
  setpoint : Nat
  /-- The output from which a transition in dropout is judged, in 10 mV (R278). -/
  settleRef : Nat
  /-- The compensator in volts, its duty, and the part of a switching period that has run, in 1/25 (R274). -/
  u : Rat
  e1 : Rat
  e2 : Rat
  duty : Rat
  phase : Nat
  /-- Both buck gates are held low by a fault, or in SINK (R33, R284, R285). -/
  gatesLow : Bool
  /-- The discharge sink on VBUS is on (R288). -/
  dischOn : Bool
  /-- The current in mA at which Pnn_SKG holds the switch in REGULATE (R262). -/
  sinkTarget : Nat
  /-- The off interval of a Hard Reset or swap; the source step of a swap to source. -/
  offInterval : Bool
  swapOn : Bool
  /-- The discharge under way has raised its timeout (R285, R485). -/
  dischOver : Bool
  /-- A data line is at or above 3.8 V (R156). -/
  lineHigh : Bool
  /-- Turned off by a D2D loss, until firmware restores it (R19). -/
  d2dOff : Bool
  /-- The nodes of the thermal model in °C, and that they have started at the die's temperature (R286). -/
  tj : Rat
  tc : Rat
  started : Bool
  /-- The fault timer in control periods, and the periods without limit counted toward its next decrement (R283). -/
  timer : Nat
  calm : Nat
  /-- Overload time in 4 µs: the current bin of 1 ms and the 49 before it, and the control periods of the current bin
  (R282). -/
  bins : List Nat
  binTick : Nat
  /-- Pnn_TEMP stands outside its range with TSRC = 1 (R285). -/
  ntcBad : Bool
  /-- CT before which a staggered VBUS on begins no SOFTSTART (R293). -/
  notBefore : Nat
  /-- Energy as source and as sink, in 40 pJ. -/
  delivered : Nat
  taken : Nat
deriving DecidableEq, Repr, Inhabited

/-- The governor's account of a port (R307 to R311): the Rp grant and the explicit grant in 10 mW, PCAP held by sag or
shedding in W, the clamps of sag and shedding in 50 mA. -/
structure GovPort where
  rpGrant : Nat
  grant : Nat
  sagHold : Option Nat
  shedHold : Option Nat
  /-- What launched entries reserved for the port and have not spent: entry index and power in 10 mW (R342). -/
  credits : List (Nat × Nat)
  sagClamp : Option Nat
  shedClamp : Option Nat
deriving DecidableEq, Repr, Inhabited

/-- The governor's hardware where it is no register field. -/
structure GovHw where
  /-- Consecutive averages above 1.25 × BUDGET; milliseconds of the current eight not above BUDGET; milliseconds at or below
  0.8 × BUDGET. -/
  overs : Nat
  under : Nat
  calm : Nat
  /-- The lowest VIN_OR of the sag under way, in 10 mV, and its duration in ms. -/
  sagMin : Nat
  sagMs : Nat
  /-- Energy through the hot-swap since part reset, and what all ports delivered as source, in 40 pJ. -/
  energy : Nat
  delivered : Nat
  /-- VIN_OR × IHS summed over the control periods of the current 1 ms, in 10 µW, and their number (R307). -/
  acc : Nat
  ticks : Nat
deriving DecidableEq, Repr, Inhabited

/-- The feed entry where it is no register field. -/
structure EntHw where
  /-- Both seating pins are low, and no loss has acted since; seating has qualified (R300). -/
  bothLow : Bool
  seated : Bool
  /-- A surge is under way (R305). -/
  surging : Bool
  /-- Highest VIN_OR of the surge under way, in 10 mV. -/
  surgePeak : Nat
  /-- PG_BRD has risen since its last fall was acted on (R306). -/
  pgRose : Bool
  /-- HS_TEMP stands outside its range with TSRC = 1 (R303). -/
  ntcBad : Bool
  /-- The nodes of the hot-swap MOSFET's thermal model in °C, and that they have started at the die's temperature (R303). -/
  tj : Rat
  tc : Rat
  started : Bool
  /-- The hot-swap's fault timer in control periods, and the periods without limit counted toward its next decrement
  (R303). -/
  timer : Nat
  calm : Nat
deriving DecidableEq, Repr, Inhabited

end Sys2Proof.Machine
end

