-- ==== Sys2Proof/Machine/TypesTrc.lean ====
section
/-! DEFINITION. Plain records of trace capture (R350 to R369). -/

namespace Sys2Proof.Machine

/-- A packet at a tap (R350, R354): CT of its SYNC field; the tap (0 repeater, 1 translator) and its partition; toward the
host; speed 0 LS, 1 FS, 2 HS; PID byte through CRC after NRZI decoding, and the bytes on the wire; address and endpoint of
its token; the port it came from or whose translator it passed, and the port field of its split; a port answered a token;
CRC, physical error, overlapped by a glitch pulse; the buffer has room (R359). -/
structure TapPacket where
  ct : Nat
  tap : Nat
  part : Nat
  toHost : Bool
  speed : Nat
  bytes : List Nat
  wireLen : Nat
  addr : Nat
  ep : Nat
  port : Nat
  splitPort : Option Nat
  answers : Bool
  crcErr : Bool
  phyErr : Bool
  glitch : Bool
  room : Bool
deriving DecidableEq, Repr, Inhabited

/-- The filter group of R356: TRC_PORTS, the repeater taps, TT, UNATTR, MF, PIDCLS, and per TRC_AMATCH EN, EPANY, EP, ADDR. -/
structure FilterGroup where
  ports : Nat
  rep : Nat
  tt : Bool
  unattr : Bool
  mf : Bool
  pidCls : Nat
  matches' : List (Bool × Bool × Nat × Nat)
deriving DecidableEq, Repr, Inhabited

/-- A transfer of whole records of the stream (R209, R365): its bytes, the count after it, the LOST records in it, the records
passed over, and CT and SYNC of the last record in it. -/
structure Transfer where
  bytes : List Nat
  next : Nat
  losts : Nat
  skipped : Nat
  ct : Nat
  sync : Nat
deriving DecidableEq, Repr, Inhabited

/-- A record of the last mailbox answer (R367): its length, the count after it, CT and SYNC, and whether it is a LOST record. -/
structure StreamMark where
  len : Nat
  next : Nat
  ct : Nat
  sync : Nat
  lost : Bool
deriving DecidableEq, Repr, Inhabited

/-- The last stop of capture (R357, R369): where its run began, CT, SYNC and cause of its STOP record, CT and SYNC of the
record before that one, and whether it is the last record written. -/
structure TraceHalt where
  since : Nat
  ct : Nat
  sync : Nat
  cause : Nat
  lastCt : Nat
  lastSync : Nat
  atEnd : Bool
deriving DecidableEq, Repr, Inhabited

/-- The trace engine where it is no register field: the byte counts of R361; records dropped and not yet written in a DROP
record, with the CT and SYNC of the first; CT and SYNC of the last record written and exported; bytes that OLDEST passed RD by and
no LOST record has told; bytes of the last mailbox read; uncorrectable words by byte count; device address to port per
partition (128 k + address), and the port of the partition whose reset completed most recently. -/
structure TraceHw where
  wr : Nat
  rd : Nat
  oldest : Nat
  trigPos : Nat
  dropped : Nat
  dropCt : Nat
  dropSync : Nat
  lastCt : Nat
  lastSync : Nat
  exportCt : Nat
  exportSync : Nat
  lost : Nat
  /-- A mailbox stream (R367): bytes of the first record not yet passed that the requester already keeps, those last sent, the
  records they are of, and RD when they were sent. -/
  cut : Nat
  sent : Nat
  marks : List StreamMark
  sentFrom : Nat
  /-- The EP4 transfer that an instance is sending (R209). -/
  placed : Option (Nat × Transfer)
  bad : List Nat
  ports : List (Nat × Nat)
  lastReset : List (Nat × Nat)
  /-- CT at which capture started last (R350). -/
  startCt : Nat
  /-- Filter groups that were replaced while capture ran, newest first, each with the CT at which it ended (R369). -/
  oldFilters : List (Nat × FilterGroup)
  /-- SYNC states that were left while capture ran, newest first, each with the CT at which it ended (R353). -/
  oldSyncs : List (Nat × Nat)
  /-- The last stop, for the packets that were under way (R357). -/
  halted : Option TraceHalt
  /-- The capture buffer has no room (R359). -/
  full : Bool
  /-- CT of the trigger taken last (R369). -/
  trigCt : Option Nat
deriving DecidableEq, Repr, Inhabited

/-- CT steps to `ct` (R324): what is known by CT of packets under way is carried over the step (log entry 158). -/
def TraceHw.stepped (t : TraceHw) (ct : Nat) : TraceHw :=
  { t with
    startCt := min t.startCt ct, oldFilters := [], oldSyncs := [], trigCt := none
    halted := t.halted.map (fun q => { q with since := min q.since ct, ct := max q.ct ct }) }

end Sys2Proof.Machine
end

