-- ==== Sys2Proof/Machine/TypesUsb.lean ====
section
/-! DEFINITION. Plain records of the state outside the registers: partitions, migrations, port engines, translators and
the management function (R122 to R214). -/

namespace Sys2Proof.Machine

/-- The answer a partition last gave on its bus: to a hub request, a split token, an endpoint packet. -/
inductive BusAnswer where
  | none
  | ack
  | nak
  | nyet
  | stall
  | err
  | data (toggle : Nat) (bytes : List Nat)
  | mdata (bytes : List Nat)
deriving DecidableEq, Repr, Inhabited

/-- The endpoint type of a split. -/
inductive SplitType where
  | control | iso | bulk | interrupt
deriving DecidableEq, Repr, Inhabited

/-- A host's request that acts at the next F boundary of its partition: on a port (R128, R148, R193), on translators
(R186), or the hub's alternate setting (R173). -/
inductive HubReq where
  | power (port : Nat) (on : Bool)
  | reset (port : Nat)
  | suspend (port : Nat)
  | resume (port : Nat)
  | disable (port : Nat)
  | exitL1 (port : Nat)
  | test (port selector : Nat)
  | ttBuffer (ttPort addr ep : Nat) (dirIn : Bool) (typ : SplitType)
  | ttReset (ttPort : Nat)
  | ttStop (ttPort : Nat)
  | ttState (ttPort flags len : Nat)
  | alternate (alt : Nat)
deriving DecidableEq, Repr, Inhabited

/-- A hub partition (R122 to R136) where it is no register field. -/
structure Partition where
  /-- DEVICE_REMOTE_WAKEUP and C_HUB_LOCAL_POWER of the hub. -/
  remoteWake : Bool
  localPowerChange : Bool
  /-- U port VBUS at or above 4.0 V and the port attached as a sink (R123). -/
  hostVbus : Bool
  /-- Ports whose change bit was left pending by a migration out (R128): bit p − 1. -/
  leftChange : Nat
  /-- The host's resume K is under way (R151, R153). -/
  resuming : Bool
  /-- The partition signals resume upstream (R148, Restart_S and Restart_E). -/
  wakeUp : Bool
  /-- Port 33: logical power, wPortChange. -/
  power33 : Bool
  change33 : Nat
  /-- Requests accepted that act at the next F boundary, oldest first (R148). -/
  requests : List HubReq
  /-- The host's resume K arrived since the last F boundary (R153). -/
  freshK : Bool
  answer : BusAnswer
deriving DecidableEq, Repr, Inhabited

/-- A keep-alive on the wire of a migrating port (R139): an SOF packet with its frame number, or a low-speed EOP. -/
inductive KeepAlive where
  | none
  | sof (frame : Nat)
  | eop
deriving DecidableEq, Repr, Inhabited

/-- A migration of one port (R138). -/
structure Migration where
  active : Bool
  source : Nat
  dest : Nat
  /-- The keep-alive flag of the request, and whether keep-alive runs. -/
  wantKeepalive : Bool
  keepalive : Bool
  /-- Keep-alive SOFs or EOPs sent, and the latest. -/
  sent : Nat
  last : KeepAlive
  timeout : Nat
  /-- The last step of R138 reached, 1 to 5. -/
  step : Nat
deriving DecidableEq, Repr, Inhabited

/-- An SE0 burst under way or an armed chirp corruption (R165 to R168). -/
structure Glitch where
  typ : Nat
  unit : Nat
  midpkt : Bool
  len : Nat
  gap : Nat
  /-- Pulses still to drive. -/
  left : Nat
  /-- CT up to which an armed chirp corruption acts (R167). -/
  upTo : Nat
deriving DecidableEq, Repr, Inhabited

/-- A port engine (R146 to R168) where it is no register field. -/
structure DpePort where
  /-- The port is in its 10 µs switch settle time (R149). -/
  settling : Bool
  /-- A device's chirp K was accepted in this reset (R149). -/
  chirped : Bool
  /-- The Resuming state was entered from L1 (R148). -/
  fromL1 : Bool
  /-- The chirp of this reset is corrupted: 0 no, 2 dropped, 3 truncated (R165). -/
  corrupt : Nat
  glitch : Glitch
  /-- The self-test under way: the tests selected, and the step of R164 it has reached: 2 loopback, 3 leakage, 4
  on-resistance with the switch closed, 5 fuse injection. -/
  stTests : Nat
  stStep : Nat
  /-- CT up to which SE0 is no disconnect, for a glitch pulse (R166). -/
  quietTo : Nat
  /-- The packet being driven in Transmit is the host's resume (R151). -/
  driving : Bool
  /-- The test selector of R154. -/
  testMode : Nat
  /-- The port entered Quarantined since the last F boundary of its partition (R153). -/
  quarFresh : Bool
deriving DecidableEq, Repr, Inhabited

/-- Where a split transaction of a context stands (R179 to R183). -/
inductive SplitState where
  | queued | onWire | done | busError | abandoned
deriving DecidableEq, Repr, Inhabited

/-- A split context of the pool (R175 to R183). -/
structure Context where
  port : Nat
  addr : Nat
  ep : Nat
  /-- IN from the device's view of the host. -/
  dirIn : Bool
  typ : SplitType
  /-- Drawn from the shared part, not from the port's reservation (R177). -/
  shared : Bool
  st : SplitState
  /-- Order of arrival (R179), and the slot of the pool that holds it (R175, R188). -/
  arrival : Nat
  slot : Nat
  /-- Microframe it is due in, counted by its partition (R181). -/
  due : Nat
  /-- The device's answer: 0 ACK, 1 NAK, 2 STALL, 3 DATA0, 4 DATA1. -/
  result : Nat
  /-- Bytes of the transaction not yet returned, or to send; how many of a packet still on the wire were returned (R183). -/
  bytes : List Nat
  given : Nat
  /-- The bytes already returned by the last answered complete-split (R183, a repeat gets the same). -/
  answered : Option BusAnswer
deriving DecidableEq, Repr, Inhabited

/-- The translators as a whole (R175 to R178, R188): contexts held, order of arrival, the partition that won the last
tie and whether its start-split is still to take the context, and the transactions that a memory error ended and whose
complete-split is still to come. -/
structure Pool where
  contexts : List Context
  arrivals : Nat
  lastWinner : Nat
  tieOpen : Bool
  lost : List Context
deriving DecidableEq, Repr, Inhabited

/-- What a translator did on its port's wire: SOFs with the last frame number and low-speed keep-alive EOPs (R172), ACKs
sent to IN data and packets cut where the line was taken (R185), packets cut with an invalid CRC (R188). -/
structure TtPort where
  sofs : Nat
  frame : Nat
  eops : Nat
  acks : Nat
  cuts : Nat
  badCrcs : Nat
deriving DecidableEq, Repr, Inhabited

/-- A notice (R204). -/
structure Notice where
  typ : Nat
  sync : Nat
  afterDrop : Bool
  nseq : Nat
  ct : Nat
  data : Nat
deriving DecidableEq, Repr, Inhabited

/-- A notice queue with its overflow handling (R207). -/
structure NoticeQ where
  items : List Notice
  /-- Notices carried by the EP3 packet in flight. -/
  inflight : Nat
  /-- Dropped since the last OVERFLOW notice. -/
  dropped : Nat
  /-- The next notice queued carries FLAGS bit 2. -/
  flagNext : Bool
  nseq : Nat
deriving DecidableEq, Repr, Inhabited

/-- The stage of a control transfer on EP0 (R195, R196). -/
inductive ControlStage where
  | idle | waitFirmware | dataReady | status
deriving DecidableEq, Repr, Inhabited

/-- A management function instance (R191 to R214) where it is no register field. -/
structure MfInst where
  control : ControlStage
  /-- Pending SET_ADDRESS or SET_CONFIGURATION value, applied at its status stage (R196). -/
  wantAddr : Option Nat
  wantCfg : Option Nat
  /-- The GET_DESCRIPTOR that firmware serves: its wValue and wLength; its data in the EP0 buffer. -/
  wantValue : Nat
  wantLength : Nat
  ep0 : List Nat
  /-- Halted endpoints 1 to 4, data toggles. -/
  halts : List Nat
  toggles : Nat
  /-- EP1: the bytes of the transfer being received, the complete frames in the halves, the size of the transfer so far. -/
  part : List Nat
  partLen : Nat
  /-- The transfer ended with a short packet and is not dealt with yet; its frame was handed on whole before its end. -/
  ended : Bool
  tail : Bool
  frames : List (List Nat)
  /-- EP2: responses placed and not yet acknowledged. -/
  responses : List (List Nat)
  /-- The half of EP1 that its oldest frame lies in, and the half of EP2 that its oldest response lies in (R197). -/
  outHalf : Nat
  inHalf : Nat
  /-- The half of EP3 of the next packet, and of EP4 of the next transfer. -/
  ep3Half : Nat
  ep4Half : Nat
  /-- Responses that wait in the mailbox block for a free half of EP2. -/
  waiting : List (List Nat)
  notices : NoticeQ
  /-- A wake is being signalled (R208). -/
  waking : Bool
  answer : BusAnswer
deriving DecidableEq, Repr, Inhabited

end Sys2Proof.Machine
end

