-- ==== Sys2Proof/Syntax.lean ====
section
/-! DEFINITION. The commands of the block: one constructor per row of spec/opcode_table.json, in the order of the table.
No row of the table gives operands or bits: the operands are what the outside supplies to the event (log entry 1).
An operand with a default (`:= …`) may be left out where a term is written; the command then carries the default. -/

namespace Sys2Proof

open Sys2Proof.Machine

/-- The commands of the block. -/
inductive Instr where
  /-- POWER_ON (R72). BOOT rails become valid with AON freshly supplied and SYS_RST_N high; the part resets with cause POWER_ON and runs the boot sequence. -/
  | powerOn (dies : Nat) (samples : List Nat) (testEn : Bool) (vbatLow : Bool)
  /-- FIRMWARE_START (R72). System firmware finishes loading, its signature is verified, and it starts on core 0; a failure halts the ROM or loads recovery. -/
  | firmwareStart (ok : Bool) (recoveryOk : Bool)
  /-- PIN_RESET (R68). SYS_RST_N held low for at least 10 µs causes a part reset with cause PIN. -/
  | pinReset
  /-- BROWNOUT (R54). A BOOT rail becomes invalid while AON stays supplied, causing a BROWNOUT part reset. -/
  | brownout (rail : Nat)
  /-- DEAD_BATTERY_BOOT (R78). U0_VBUS rises above 4.0 V with no valid BOOT rails and no Dormant, so the dead-battery chain starts the island. -/
  | deadBatteryBoot (dies : Nat) (rp : Nat) (samples : List Nat) (testEn : Bool)
  /-- DEAD_BATTERY_HANDOVER (R79). The BOOT rails become valid while DB_ACTIVE is 1; the island moves to the rails without a reset. -/
  | deadBatteryHandover
  /-- DEAD_BATTERY_LOSS (R79). U0_VBUS falls below 4.0 V before handover, and everything except AON is lost. -/
  | deadBatteryLoss (vbatHolds : Bool)
  /-- DORMANT_ENTRY_STEP (R81). The Dormant entry sequence advances once every PORTS domain reads off: hot-swap off, RAIL_EN2, RAIL_EN1 and RAIL_EN0 lowered. -/
  | dormantEntryStep (vbatHolds : Bool)
  /-- RTC_ALARM_REACHED (R82). The RTC count reaches the armed alarm; in Dormant the rails are raised and the part boots with DORMANT_WAKE, otherwise the RTC alarm interrupt source is raised. -/
  | rtcAlarmReached
  /-- VBAT_LOSS (R84). VBAT falls below 1.55 V; the RTC stops, RTC_VALID is lost and the RAIL_EN outputs go high-impedance. -/
  | vbatLoss
  /-- REFERENCE_LOST (R64). The active PLL reference stops for 2 µs; the PLL switches to the other reference or holds its frequency. -/
  | referenceLost
  /-- CLOCK_LOSS (R64). No reference returns within the 10 µs hold, and the part resets with cause CLOCK_LOSS. -/
  | clockLoss
  /-- PLL_LOCK (R63). The PLL locks to its reference after reset. -/
  | pllLock
  /-- RECOVERED_REFERENCE_SWITCH (R63). With AUTO set, a Vertex moves its PLL to the recovered reference once its up-link locks. -/
  | recoveredReferenceSwitch
  /-- THROTTLE_STAGE_CHANGE (R67). The Quince junction temperature crosses 115 °C, 120 °C or 110 °C for 1 s, changing the throttle stage. -/
  | throttleStageChange (stage : Nat)
  /-- THERMAL_RESET (R67). Quince Tj reaches 125 °C, and the part resets with cause THERMAL. -/
  | thermalReset
  /-- CURRANT_DIE_TEMP_STAGE (R484). A Currant or Sloe die crosses its HOT or SHUTDOWN threshold or releases it; fuses go off at SHUTDOWN. -/
  | currantDieTempStage (d : Nat) (stage : Nat) (tdie : Int)
  /-- DOMAIN_SWITCH_ON (R65). A domain whose request bit is set and whose parent is on completes its switch-on time. -/
  | domainSwitchOn (d : Nat)
  /-- DOMAIN_SWITCH_OFF (R485). A domain switch-off completes once its conditions are met and its children read off. -/
  | domainSwitchOff (d : Nat)
  /-- D2D_FRAME_RESEND (R120). A D2D frame fails its CRC and is resent; RETRIES increments. -/
  | d2dFrameResend (d : Nat) (dup : Bool)
  /-- D2D_LINK_LOST (R120). A D2D link passes no good frame for 1 µs and reads LOST. -/
  | d2dLinkLost (d : Nat)
  /-- D2D_LINK_RETRAINED (R120). A lost D2D link retrains and reads UP; LOSSES increments. -/
  | d2dLinkRetrained (d : Nat)
  /-- D2D_LOSS_1MS (R19). A Currant loses its D2D link for more than 1 ms and turns off all its ports' fuses, discharges VBUS and opens the switches. -/
  | d2dLoss1ms (d : Nat)
  /-- ABSENT_BLOCK_ACCESS (R111). An access inside the windows decodes to an absent or unpowered block; it reads 0, the write is discarded and it is counted. -/
  | absentBlockAccess (m : Nat) (a : Nat) (n : Nat) (k : Acc)
  /-- VIOLATION (R115). An access fails an MPU check; a master from 1 to 10 is frozen and the violation is recorded. -/
  | violation (m : Nat) (a : Nat) (n : Nat) (k : Acc)
  /-- CORE0_VIOLATION (R117). A violation by core 0 causes a part reset with cause CORE0_VIOLATION. -/
  | core0Violation (a : Nat) (n : Nat) (k : Acc)
  /-- THAW (R116). A write of 1 to an MPU_THAW bit thaws the master; its frozen access completes as an absent-block access. -/
  | thaw (mask : Nat)
  /-- REGISTER_WRITE (R98). A write to a register field with no behaviour of its own is staged under its Applies code. -/
  | registerWrite (m : Nat) (a : Nat) (n : Nat) (data : Nat) (hw : List HwChange)
  /-- ALIAS_WRITE (R96). An atomic SET, CLR or TGL view write modifies only the bits that are 1 in the data. -/
  | aliasWrite (v : AliasView) (m : Nat) (a : Nat) (n : Nat) (data : Nat) (hw : List HwChange)
  /-- STAGED_WRITE_APPLY (R101). At an F, M, P or T boundary, pending staged writes apply and collisions are resolved. -/
  | stagedWriteApply (b : Boundary) (k : Nat) (hw : List HwChange)
  /-- HOLD_RELEASE (R105). HOLD changes from 1 to 0; paired I fields apply on that edge and other held fields apply at their next boundary. -/
  | holdRelease (blk : Block) (j : Nat) (hw : List HwChange)
  /-- SNAP_REQ (R110). A write of REQ = 1 to a snapshot register requests a capture of the selected value. -/
  | snapReq (k : Nat) (sel : Nat)
  /-- SNAP_CAPTURE (R110). The selected value is captured at its capture moment, such as an RTC edge or a control period, and VALID sets. -/
  | snapCapture (k : Nat)
  /-- SNAP_HI_READ (R110). A read that includes a lane of BLOCK_SNAP_HI clears VALID. -/
  | snapHiRead (k : Nat)
  /-- EPOCH_TRACK_UPDATE (R86). While SYNC is LOCKED, AON rewrites RTC_EPOCH at every RTC edge. -/
  | epochTrackUpdate
  /-- UPSTREAM_BUS_RESET (R135). A bus reset is received on Uk, and the partition and its ports are handled as an upstream event under VBUS_HOLD. -/
  | upstreamBusReset (k : Nat)
  /-- UPSTREAM_DETACH (R135). Partition Pk ceases to have a host or its pull-up is removed, which is an upstream event. -/
  | upstreamDetach (k : Nat)
  /-- HOST_PRESENCE_CHANGE (R133). The host conditions of a partition change, and the pull-up is applied or removed within 10 µs. -/
  | hostPresenceChange (k : Nat) (vbus : Bool)
  /-- HS_CHIRP_HANDSHAKE (R124). The upstream host completes or fails the HS chirp at reset, which sets the partition to HS or FS. -/
  | hsChirpHandshake (k : Nat) (completed : Bool)
  /-- PARTITION_SUSPEND (R151). The host suspends its partition, and the ports are held in their states. -/
  | partitionSuspend (k : Nat)
  /-- HOST_RESUME (R151). The host's resume K arrives on a suspended partition and is driven to every Enabled port. -/
  | hostResume (k : Nat)
  /-- SOF_RECEIVED (R210). A partition receives an SOF with a valid CRC; it is stamped with CT and recorded by SOFMODE. -/
  | sofReceived (k : Nat) (frame : Nat) (uframe : Nat)
  /-- GET_PORT_STATUS (R128). A host GetPortStatus returns the port's state, or zeros for an other port. -/
  | getPortStatus (k : Nat) (p : Nat)
  /-- SET_PORT_POWER (R128). A host SetPortFeature(PORT_POWER) records logical power and powers the port as VBUS_HOLD gives. -/
  | setPortPower (k : Nat) (p : Nat)
  /-- CLEAR_PORT_POWER (R148). A host ClearPortFeature(PORT_POWER) clears logical power and takes the port to Powered-off. -/
  | clearPortPower (k : Nat) (p : Nat)
  /-- SET_PORT_RESET (R148). A host SetPortFeature(PORT_RESET) starts the reset drive on the port. -/
  | setPortReset (k : Nat) (p : Nat)
  /-- SET_PORT_SUSPEND (R148). A host SetPortFeature(PORT_SUSPEND) suspends an enabled or L1 port. -/
  | setPortSuspend (k : Nat) (p : Nat)
  /-- CLEAR_PORT_SUSPEND (R148). A host ClearPortFeature(PORT_SUSPEND) starts a resume drive on the port. -/
  | clearPortSuspend (k : Nat) (p : Nat)
  /-- CLEAR_PORT_ENABLE (R148). A host ClearPortFeature(PORT_ENABLE) takes an enabled port to Disabled. -/
  | clearPortEnable (k : Nat) (p : Nat)
  /-- SET_PORT_TEST (R154). A host SetPortFeature(PORT_TEST) is accepted under the test conditions or answered with STALL. -/
  | setPortTest (k : Nat) (p : Nat) (selector : Nat)
  /-- PORT_INDICATOR_REQUEST (R128). A host Set or ClearPortFeature(PORT_INDICATOR) is answered with STALL. -/
  | portIndicatorRequest (k : Nat)
  /-- CLEAR_PORT_CHANGE (R128). A host request clears a port change bit. -/
  | clearPortChange (k : Nat) (p : Nat) (b : Nat)
  /-- SET_AND_TEST_PORT_L1 (R152). A host SetAndTestPortFeature(PORT_L1) sends an LPM token and returns the device's handshake. -/
  | setAndTestPortL1 (k : Nat) (p : Nat) (besl : Nat) (addr : Nat) (rwe : Bool) (h : Handshake)
  /-- CLEAR_PORT_L1 (R148). A host ClearPortFeature(PORT_L1) starts a resume from L1. -/
  | clearPortL1 (k : Nat) (p : Nat)
  /-- CLEAR_TT_BUFFER (R186). A host ClearTTBuffer releases the matching non-periodic context. -/
  | clearTtBuffer (k : Nat) (ttPort : Nat) (addr : Nat) (ep : Nat) (dirIn : Bool) (typ : SplitType)
  /-- RESET_TT (R186). A host ResetTT releases every context of the translator and ends any stop. -/
  | resetTt (k : Nat) (ttPort : Nat)
  /-- STOP_TT (R186). A host StopTT stops the translator after the transaction on the wire. -/
  | stopTt (k : Nat) (ttPort : Nat)
  /-- GET_TT_STATE (R187). A host GetTTState returns the translator's state bytes or STALL. -/
  | getTtState (k : Nat) (ttPort : Nat) (flags : Nat) (len : Nat)
  /-- SET_INTERFACE_ALT (R173). A host SetInterface changes the alternate setting and clears every translator of the partition. -/
  | setInterfaceAlt (k : Nat) (alt : Nat)
  /-- DEVICE_CONNECT (R148). D+ or D− stays above the connect threshold for TDCNN, and the port enters Disabled with its speed set. -/
  | deviceConnect (p : Nat) (low : Bool)
  /-- DEVICE_DISCONNECT (R149). A disconnect is detected by SE0 for 2.5 µs or by the HS envelope, and the port enters Disconnected. -/
  | deviceDisconnect (p : Nat)
  /-- RESET_DRIVE_END (R148). RSTLEN elapses and the port leaves Resetting for Enabled. -/
  | resetDriveEnd (p : Nat) (completed : Bool)
  /-- CHIRP_DEVICE_K (R149). A device chirp K is received during reset, and the hub answers with K-J pairs. -/
  | chirpDeviceK (p : Nat) (microseconds : Nat)
  /-- BABBLE_OR_LOA (R148). Babble or loss of activity at EOF2 disables an enabled port. -/
  | babbleOrLoa (p : Nat)
  /-- LPM_ACK (R152). A device ACKs an LPM token, and the port enters L1 with DPE_LPM updated. -/
  | lpmAck (p : Nat) (besl : Nat) (addr : Nat) (rwe : Bool)
  /-- DEVICE_REMOTE_WAKE (R148). A device K for TWAKE on a suspended, enabled or L1 port leads to Resuming, Restart_S or Restart_E. -/
  | deviceRemoteWake (p : Nat) (hostToo : Bool)
  /-- RESUME_DRIVE_END (R148). RSMLEN or the L1 resume time elapses, and the port sends an EOR. -/
  | resumeDriveEnd (p : Nat)
  /-- EOR_SENT (R148). The LS EOP ending a resume is sent, and the port returns to Enabled. -/
  | eorSent (p : Nat)
  /-- HOST_RESUME_END (R148). The host's resume ends at Uk, and the ports in Restart_S or Restart_E proceed. -/
  | hostResumeEnd (k : Nat)
  /-- PACKET_TRANSMIT (R148). A packet or upstream resume is driven onto an enabled port through Transmit. -/
  | packetTransmit (p : Nat) (eop : Bool)
  /-- SWITCH_SETTLE_END (R149). 10 µs after the isolation switch closes, connect detection starts. -/
  | switchSettleEnd (p : Nat)
  /-- ISOLATION_CAUSE_CHANGE (R159). An isolation cause arises or the last one is removed, and the port enters or leaves Isolated. -/
  | isolationCauseChange (p : Nat)
  /-- DATA_OV_TRIP (R156). D+ or D− crosses the cut-off threshold; the switch opens within 50 ns and the port is isolated. -/
  | dataOvTrip (p : Nat)
  /-- DATA_OV_RELEASE (R156). Both lines have stayed below 3.8 V for OV_REL, and OVHOLD clears under OV_AUTO. -/
  | dataOvRelease (p : Nat) (stage : Nat)
  /-- DSW_REARM (R156). A write of DSW_PCTL.REARM releases OVHOLD when both lines are below 3.8 V. -/
  | dswRearm (p : Nat)
  /-- DPE_ISOLATE_WRITE (R159). A write of DPE_CTL.ISOLATE sets or clears the REQ isolation cause at the next F boundary. -/
  | dpeIsolateWrite (p : Nat) (b : Bool)
  /-- DPE_QUAR_SET (R161). A write of DPE_CTL.QUAR = 1 quarantines the port at the next F boundary. -/
  | dpeQuarSet (p : Nat)
  /-- DPE_QUAR_RELEASE (R162). A write of DPE_CTL.QUAR = 0 releases the quarantine, or is refused. -/
  | dpeQuarRelease (p : Nat)
  /-- DSW_STGO (R164). A write of DSW_PCTL.STGO starts the quarantine self-test when its conditions hold. -/
  | dswStgo (p : Nat)
  /-- SELFTEST_END (R164). The self-test completes, with results final, STBUSY cleared and STRUNS incremented. -/
  | selftestEnd (p : Nat) (m : SelfTest)
  /-- GLITCH_GO (R167). A write of DPE_GLITCH_CTL.GO starts an SE0 burst or arms a chirp corruption, or it is suppressed. -/
  | glitchGo (p : Nat)
  /-- GLITCH_PULSE_DUE (R166). An SE0 glitch pulse falls due and is driven, or waits for a packet's EOP. -/
  | glitchPulseDue (p : Nat) (inPacket : Bool)
  /-- CHIRP_ARM_EXPIRY (R167). No reset occurs within the WIN window, so ARMED clears and the expiry is logged. -/
  | chirpArmExpiry (p : Nat)
  /-- ASSIGN_WRITE (R145). A write of a PART_ASSIGN nibble assigns or unassigns a port at the next boundary. -/
  | assignWrite (p : Nat) (v : Nat)
  /-- HARD_MOVE (R132). A PART_ASSIGN write that moves a port between partitions disconnects it at the source and connects it at the destination. -/
  | hardMove (p : Nat) (v : Nat)
  /-- MIGCTL_GO (R137). A write of PART_MIGCTL.GO starts the migration of the masked ports to DEST. -/
  | migctlGo
  /-- MIGRATION_SOURCE_BOUNDARY (R138). At the next source boundary the port enters Migrating, the translator is cleared and keep-alive starts. -/
  | migrationSourceBoundary (p : Nat)
  /-- MIGRATION_DEST_BOUNDARY (R138). At the first destination boundary the assignment changes, and the destination sees a connect or the migration completes. -/
  | migrationDestBoundary (p : Nat)
  /-- KEEPALIVE_SOF (R139). During migration the port engine sends a keep-alive SOF or EOP at its interval. -/
  | keepaliveSof (p : Nat)
  /-- MIGRATION_DEST_RESET (R138). The destination host's port reset stops keep-alive, and the migration completes at the end of the reset. -/
  | migrationDestReset (p : Nat)
  /-- MIGRATION_TIMEOUT (R138). TIMEOUT passes after step 3 without a reset, and the migration completes with the port Disabled. -/
  | migrationTimeout (p : Nat)
  /-- MIGRATION_ABORT (R141). A destination detach before step 3 or a quarantine or latch reaction aborts the migration. -/
  | migrationAbort (p : Nat) (cause : Nat)
  /-- TT_FRAME_START (R172). At each frame start, a translator sends an FS SOF or an LS keep-alive on its port. -/
  | ttFrameStart (p : Nat)
  /-- SSPLIT_NONPERIODIC (R180). A non-periodic start-split is ACKed with a context allocated, or NAKed. -/
  | ssplitNonperiodic (k : Nat) (p : Nat) (addr : Nat) (ep : Nat) (dirIn : Bool) (control : Bool) (bytes : List Nat)
  /-- CSPLIT_NONPERIODIC (R180). A non-periodic complete-split returns NYET, the device's result or NAK. -/
  | csplitNonperiodic (k : Nat) (p : Nat) (addr : Nat) (ep : Nat) (dirIn : Bool) (control : Bool)
  /-- SSPLIT_PERIODIC (R181). A periodic start-split takes a context or is refused, without a handshake. -/
  | ssplitPeriodic (k : Nat) (p : Nat) (addr : Nat) (ep : Nat) (dirIn : Bool) (iso : Bool) (more : Bool) (due : Nat) (bytes : List Nat) (rivals : List Nat)
  /-- CSPLIT_PERIODIC (R183). A periodic complete-split is answered by its context's state. -/
  | csplitPeriodic (k : Nat) (p : Nat) (addr : Nat) (ep : Nat) (dirIn : Bool) (iso : Bool) (again : Bool) (came : List Nat)
  /-- BAD_SPLIT (R174). A split token naming a port that cannot serve gets no handshake, and TT_BADSPLIT counts it. -/
  | badSplit (k : Nat) (p : Nat)
  /-- TT_TRANSACTION_START (R179). A translator starts the next FS or LS transaction on its port by the scheduling rules. -/
  | ttTransactionStart (p : Nat) (uframe : Nat) (beforeEof1 : Bool) (npFits : Bool) (corrected : Nat)
  /-- TT_TRANSACTION_END (R179). An FS or LS transaction on the port's wire ends, and its result is stored. -/
  | ttTransactionEnd (p : Nat) (result : Nat) (bytes : List Nat) (busError : Bool)
  /-- PERIODIC_CONTEXT_RELEASE (R181). A periodic context is released at the end of its last complete-split microframe. -/
  | periodicContextRelease (p : Nat) (addr : Nat) (ep : Nat) (dirIn : Bool) (iso : Bool)
  /-- PERIODIC_ABANDON (R182). A periodic transaction that has not started by the end of microframe Y+1 is abandoned. -/
  | periodicAbandon (p : Nat) (addr : Nat) (ep : Nat) (dirIn : Bool) (iso : Bool)
  /-- POOL_UNCORRECTABLE (R188). An uncorrectable error in a split context ends its transaction as a bus error and releases the context. -/
  | poolUncorrectable (n : Nat)
  /-- PORT33_CONNECT_APPLY (R193). MF_CTL.CONNECT applies with valid descriptors, and port 33 connects or disconnects. -/
  | port33ConnectApply (k : Nat) (connect : Bool)
  /-- PORT33_RESET_END (R193). The 10 ms reset of port 33 elapses, and the instance is Enabled. -/
  | port33ResetEnd (k : Nat)
  /-- PORT33_RESUME_END (R193). The 20 ms resume of port 33 elapses, or the host's resume ends, and port 33 returns to Enabled. -/
  | port33ResumeEnd (k : Nat)
  /-- PORT33_REMOTE_WAKE (R208). Suspended port 33 with remote wake enabled and a queued notice signals a remote wake. -/
  | port33RemoteWake (k : Nat) (hostToo : Bool)
  /-- MF_EP0_SETUP (R195). A SETUP on EP0 of an instance is served by hardware, by firmware for GET_DESCRIPTOR, or with STALL. -/
  | mfEp0Setup (k : Nat) (requestType : Nat) (request : Nat) (value : Nat) (index : Nat) (length : Nat) (done : Bool)
  /-- GET_DESCRIPTOR_READY (R195). System firmware places GET_DESCRIPTOR data in the EP0 buffer, and the data stage proceeds. -/
  | getDescriptorReady (k : Nat) (done : Bool)
  /-- CONTROL_ABANDON (R196). A control transfer is abandoned by a reset, CONNECT 0 or a new SETUP. -/
  | controlAbandon (k : Nat)
  /-- EP1_OUT_PACKET (R200). An OUT data packet on EP1 is answered ACK, NYET or NAK by room. -/
  | ep1OutPacket (k : Nat) (bytes : List Nat) (badCrc : Bool) (toggleError : Bool)
  /-- EP1_PING (R200). An HS PING on EP1 is answered ACK or NAK by room. -/
  | ep1Ping (k : Nat)
  /-- EP1_FRAME_COMPLETE (R201). A bulk OUT transfer ends; a whole frame is handed to the mailbox block, or it is discarded for a wrong length. -/
  | ep1FrameComplete (k : Nat)
  /-- EP2_RESPONSE_SENT (R202). The host ACKs the last packet of a response transfer on EP2, and the half frees. -/
  | ep2ResponseSent (k : Nat)
  /-- EP3_NOTICE_PACKET (R207). An EP3 packet of notices is ACKed, and those notices leave the queue. -/
  | ep3NoticePacket (k : Nat) (n : Nat) (acked : Bool)
  /-- NOTICE_RAISED (R206). A notice is queued to each instance that should receive it, or is dropped with an OVERFLOW to follow. -/
  | noticeRaised (typ : Nat) (data : Nat)
  /-- EP4_TRANSFER_ACK (R209). The last packet of an EP4 trace transfer is ACKed, and the export pointer advances. -/
  | ep4TransferAck (k : Nat) (one : Nat) (two : Nat) (acked : Bool := true)
  /-- CC_SAMPLE (R223). Every 100 µs the CC pins are sampled, and new attach conditions start debounces or enter AttachWait. -/
  | ccSample (p : Nat) (cc1 : Nat) (cc2 : Nat) (vbus : Nat) (current : Nat) (vin : Nat) (rivals : List Nat)
  /-- TCCDEBOUNCE_EXPIRY (R223). A condition has held for tCCDebounce, and the port attaches as source or sink or as an accessory, or an audio accessory detaches. -/
  | tccdebounceExpiry (p : Nat)
  /-- TPDDEBOUNCE_EXPIRY (R223). A detach or no-attach condition has held for tPDDebounce, and the port detaches or returns to Unattached. -/
  | tpddebounceExpiry (p : Nat)
  /-- DRP_TOGGLE (R223). A DRP port's share of tDRP elapses, and it toggles between source and sink presentation. -/
  | drpToggle (p : Nat)
  /-- SINK_VBUS_LOSS (R223). VBUS falls below 3.67 V in Attached.SNK with no swap, and the sink detaches. -/
  | sinkVbusLoss (p : Nat) (vbus : Nat)
  /-- ERROR_RECOVERY_END (R223). tErrorRecovery elapses with VBUS below 0.8 V, and the port returns to Unattached. -/
  | errorRecoveryEnd (p : Nat)
  /-- DISABLED_CAUSE_ARISES (R222). A Disabled cause arises, and the port enters Disabled, removing Rp, VCONN, contract and VBUS. -/
  | disabledCauseArises (p : Nat) (bit : Nat)
  /-- DISABLED_EXIT (R222). The last Disabled cause clears with VBUS below 0.8 V, and the port goes to Unattached. -/
  | disabledExit (p : Nat)
  /-- RP_REEVALUATE (R219). The Rp level is re-evaluated against governor grants at Unattached.SRC entry, contract end or freed budget. -/
  | rpReevaluate (p : Nat)
  /-- CC_OV_TRIP (R226). A CC pin crosses 6.0 V; the Currant disconnects the front end, turns off VBUS and enters CCOVHold. -/
  | ccOvTrip (p : Nat)
  /-- CC_OV_RELEASE (R226). Both CC pins have stayed below 5.5 V for 10 ms, and the port leaves CCOVHold. -/
  | ccOvRelease (p : Nat)
  /-- VCONN_TRIP (R227). VCONN current exceeds a trip level for its time; VCONN turns off, VCFAULT sets and identity clears. -/
  | vconnTrip (p : Nat)
  /-- VCONN_APPLY (R229). VCONN is applied on attach, or when VCONN_IN becomes valid later with Ra present. -/
  | vconnApply (p : Nat)
  /-- VCREARM_WRITE (R227). A write of TCPD_CTL.VCREARM releases VCFAULT. -/
  | vcrearmWrite (p : Nat)
  /-- DISCOVERY_ATTEMPT (R230). Cable discovery sends Discover Identity on SOP' every 45 ms up to 20 attempts, setting NOMARK after three. -/
  | discoveryAttempt (p : Nat) (answered : Bool)
  /-- DISCGO_WRITE (R230). A write of TCPD_CTL.DISCGO restarts cable discovery and clears NOMARK. -/
  | discgoWrite (p : Nat)
  /-- DISCOVER_IDENTITY_ACK (R231). A Discover Identity ACK on SOP' is decoded into the cable identity and ceilings. -/
  | discoverIdentityAck (p : Nat) (idHeader : Nat) (vdo : Nat) (sop2 : Bool)
  /-- PD_TRANSMIT (R241). A write of TCPD_TXCTL.GO sends the message or reset on the chosen SOP. -/
  | pdTransmit (p : Nat) (outcome : Nat)
  /-- GOODCRC_TIMEOUT (R241). No GoodCRC arrives within tReceive, and the protocol layer retries or reports retries exhausted. -/
  | goodcrcTimeout (p : Nat) (good : Bool := false)
  /-- PD_MESSAGE_RECEIVED (R247). A PD message is received whole and answered by the policy or the hold responder. -/
  | pdMessageReceived (p : Nat) (sop : Nat) (hdr : Nat) (extHdr : Nat) (ext : Bool) (bytes : List Nat)
  /-- RX_RELEASE (R272). A write of TCPD_RXSTAT.RELEASE frees the receive buffer. -/
  | rxRelease (p : Nat)
  /-- SOURCE_CAPABILITIES_SEND (R252). The policy sends Source_Capabilities trimmed by R250. -/
  | sourceCapabilitiesSend (p : Nat) (good : Bool)
  /-- SOURCE_CAP_REPEAT (R252). tTypeCSendSourceCap passes without GoodCRC, and capabilities are repeated up to nCapsCount. -/
  | sourceCapRepeat (p : Nat) (good : Bool)
  /-- SENDER_RESPONSE_TIMEOUT (R252). tSenderResponse passes with no answer, and the part sends Hard Reset. -/
  | senderResponseTimeout (p : Nat)
  /-- REQUEST (R253). A Request or EPR_Request is evaluated and answered Reject, Soft_Reset, Wait or Accept. -/
  | request (p : Nat) (epr : Bool) (pos : Nat) (volt : Nat) (curr : Nat) (eprCapable : Bool) (rev : Nat)
  /-- BUDGET_FREED_OFFER (R254). Budget frees for a port whose last answer was Wait, and the policy sends new capabilities within 100 ms. -/
  | budgetFreedOffer (p : Nat)
  /-- TRANSITION_PS_RDY (R255). The power stage reports the transition complete, PS_RDY is sent, and the contract and grant change. -/
  | transitionPsRdy (p : Nat)
  /-- PPS_TIMEOUT (R256). tPPSTimeout passes with no Request under a PPS contract, and the part sends Hard Reset. -/
  | ppsTimeout (p : Nat)
  /-- EPR_MODE_ENTER (R257). EPR_Mode (Enter) from the sink is acknowledged and followed by Enter Succeeded or Enter Failed. -/
  | eprModeEnter (p : Nat)
  /-- EPR_ENTRY_CHECK (R257). The EPR entry conditions are judged after discovery ends or 50 ms after Enter Acknowledged. -/
  | eprEntryCheck (p : Nat)
  /-- EPR_KEEPALIVE (R258). EPR_KeepAlive is answered and restarts tSourceEPRKeepAlive. -/
  | eprKeepalive (p : Nat)
  /-- EPR_KEEPALIVE_TIMEOUT (R258). tSourceEPRKeepAlive expires in EPR mode, and the part sends Hard Reset. -/
  | eprKeepaliveTimeout (p : Nat)
  /-- EPR_MODE_EXIT (R258). The sink or the part leaves EPR mode with SPR capabilities. -/
  | eprModeExit (p : Nat) (bySink : Bool)
  /-- PR_SWAP_RECEIVED (R260). A PR_Swap is answered Reject, Wait or Accept with the sink claim taken. -/
  | prSwapReceived (p : Nat) (rivals : List Nat) (rev : Nat)
  /-- SWAP_SOURCE_OFF (R261). 30 ms after the Accept GoodCRC, the fuse turns off and VBUS discharges. -/
  | swapSourceOff (p : Nat)
  /-- SWAP_VSAFE0 (R261). VBUS falls below 0.8 V during a swap, so Rd replaces Rp and PS_RDY is sent. -/
  | swapVsafe0 (p : Nat)
  /-- SWAP_PARTNER_PS_RDY (R261). The partner's PS_RDY arrives during a swap, and the new role proceeds. -/
  | swapPartnerPsRdy (p : Nat)
  /-- SWAP_TIMEOUT (R261). A swap step misses its limit, and the part sends Hard Reset. -/
  | swapTimeout (p : Nat)
  /-- SINK_TO_SOURCE_VSAFE5 (R263). vSafe5V is reached in a sink-to-source swap; the claim is released and PS_RDY and capabilities follow. -/
  | sinkToSourceVsafe5 (p : Nat)
  /-- VCONN_SWAP_RECEIVED (R264). A VCONN_Swap is answered and VCONN is moved. -/
  | vconnSwapReceived (p : Nat) (trips : Bool) (rev : Nat)
  /-- DR_SWAP_RECEIVED (R259). A DR_Swap is always answered Reject. -/
  | drSwapReceived (p : Nat) (rev : Nat)
  /-- HARD_RESET (R266). A Hard Reset sent or received resets the protocol layer, returns roles to default and cycles VBUS. -/
  | hardReset (p : Nat) (sent : Bool)
  /-- HARD_RESET_VBUS_OFF (R266). 30 ms after the Hard Reset, the fuse turns off and VBUS discharges. -/
  | hardResetVbusOff (p : Nat)
  /-- HARD_RESET_RECOVER (R266). 800 ms after vSafe0V, VBUS turns on again, or the port enters ErrorRecovery when VBUS never reached 0.8 V. -/
  | hardResetRecover (p : Nat)
  /-- NO_RESPONSE_TIMEOUT (R252). tNoResponse passes after a Hard Reset, which leads to another Hard Reset, ErrorRecovery or idle vSafe5V. -/
  | noResponseTimeout (p : Nat)
  /-- HOLD_RESPONDER_START (R244). The policy engine stops, and the hold responder takes over the port. -/
  | holdResponderStart (p : Nat)
  /-- POLICY_ENGINE_START (R244). The policy engine starts again and adopts the contract in force, or starts offering capabilities. -/
  | policyEngineStart (p : Nat)
  /-- FEED48_CHANGE (R251). VIN_OR has stayed at or above 53.0 V for 1 s, or falls below it for 10 µs, which changes FEED48. -/
  | feed48Change (vin : Nat)
  /-- VBUS_REQUEST (R287). A VBUS request stands in OFF with VBUS below 0.8 V, and SOFTSTART begins at the next P boundary plus stagger. -/
  | vbusRequest (p : Nat)
  /-- SOFTSTART_DONE (R287). VOUT reaches VSET_EFF after the drive is charged, and the stage enters RAMP. -/
  | softstartDone (p : Nat)
  /-- GATE_FULLY_ON (R287). The fuse VGS rises above 9 V, and the stage enters QUAL. -/
  | gateFullyOn (p : Nat)
  /-- TQUAL_COMPLETE (R289). LIMIT has stayed 0 for TQUAL, so the stage enters ON and power-good rises. -/
  | tqualComplete (p : Nat)
  /-- LIMIT_ENGAGE (R283). The current reaches the active level, the gate regulates, and ON falls to QUAL. -/
  | limitEngage (p : Nat) (i : Int)
  /-- FAULT_TIMER_EXPIRY (R283). The fault timer reaches TFLT, and the port takes a limit-timer fault. -/
  | faultTimerExpiry (p : Nat)
  /-- FAST_TRIP (R284). The shunt current crosses IFT or 15 A; the fuse turns off by the fast path and a fault is taken. -/
  | fastTrip (p : Nat) (i : Int := 0)
  /-- OVERLOAD_EXHAUSTED (R282). OVLDSUM reaches 10 ms in 50 ms, and the active level falls from IPK to ILIM_EFF. -/
  | overloadExhausted (p : Nat)
  /-- VBUS_OVERVOLTAGE (R285). VBUS exceeds its over-voltage threshold for its filter time, and a fast turn-off fault is taken. -/
  | vbusOvervoltage (p : Nat) (v : Nat := 0)
  /-- REVERSE_CURRENT (R285). Reverse current exceeds its threshold for 10 µs in a source state, and a fault is taken. -/
  | reverseCurrent (p : Nat) (i : Nat := 0)
  /-- BUCK_PEAK_FAULT (R285). 16 consecutive switching periods at the cycle-by-cycle limit cause a buck peak fault. -/
  | buckPeakFault (p : Nat)
  /-- VSET_CHANGE (R278). VSET_EFF changes in ON or TRANSITION, and the setpoint ramps at SLEW. -/
  | vsetChange (p : Nat)
  /-- TRANSITION_COMPLETE (R278). The output stays in band for TSETTLE, so the stage enters ON and reports completion. -/
  | transitionComplete (p : Nat)
  /-- TRANSITION_TIMEOUT (R278). A transition fails to complete in time, and a transition-timeout fault is taken. -/
  | transitionTimeout (p : Nat)
  /-- PPS_UNDERVOLTAGE (R279). VBUS stays below 3.0 V under the PPS current loop for TFLT, and a fault is taken. -/
  | ppsUndervoltage (p : Nat)
  /-- FET_THERMAL_TRIP (R286). The FET temperature estimate reaches TTRIP, and a thermal fault is taken. -/
  | fetThermalTrip (p : Nat)
  /-- NTC_FAULT (R285). Pnn_TEMP stays below 0.05 V or above 3.10 V for 1 ms with TSRC = 1. -/
  | ntcFault (p : Nat) (short : Bool)
  /-- THERMAL_MODEL_UPDATE (R286). Each control period the two-node thermal model updates its estimate. -/
  | thermalModelUpdate (p : Nat) (x : PortSample)
  /-- RETRY_START (R290). The RETRYWAIT end conditions are met with a VBUS request standing, and SOFTSTART begins. -/
  | retryStart (p : Nat)
  /-- RETRY_RELOAD (R290). The port stays in ON for 1 s without a fault, and RETRYLEFT is reloaded. -/
  | retryReload (p : Nat)
  /-- DISCHARGE_DONE (R287). VBUS falls below 0.8 V in DISCHARGE, and the stage enters OFF. -/
  | dischargeDone (p : Nat)
  /-- DISCHARGE_TIMEOUT (R285). VBUS is still at or above 0.8 V 650 ms after discharge began. -/
  | dischargeTimeout (p : Nat)
  /-- CLRLATCH (R291). A write of PWR_PCTL.CLRLATCH clears LATCHED, or is refused while a latching source stands. -/
  | clrlatch (p : Nat)
  /-- VOFF_WRITE (R287). A write of PWR_PCTL.VOFF sets or clears an off-cause of the port. -/
  | voffWrite (p : Nat) (b : Bool)
  /-- SINK_ENTRY (R262). At PS_RDY of an explicit sink contract the stage enters SINK and Pnn_SKG is driven. -/
  | sinkEntry (p : Nat)
  /-- SINK_FAULT (R292). A fault in SINK turns off the fuse and SKG, releases the claim and sends Hard Reset. -/
  | sinkFault (p : Nat) (cause : Nat)
  /-- VBRD_UV_OV (R285). VBRD n passes its under-voltage or over-voltage thresholds, and the bucks pause or resume. -/
  | vbrdUvOv (n : Nat) (uv : Bool) (start : Bool)
  /-- FSW_STEP (R277). Each control period the switching frequency moves 10 kHz toward a new FSW. -/
  | fswStep (n : Nat)
  /-- FEED_REVERSE_OFF (R298). VIN_OR rises more than 10 mV above a feed, and its ideal-diode gate is pulled off within 300 ns. -/
  | feedReverseOff (k : Nat)
  /-- FEED_PRESENCE_CHANGE (R299). A feed crosses 38.0 V or 36.0 V, or its conduction changes; a feed swap is counted and logged. -/
  | feedPresenceChange (k : Nat) (volt : Nat) (vinOr : Nat) (conducting : Bool)
  /-- SEAT_QUALIFIED (R300). Both seating pins have been low for 50 ms, and the hot-swap ramp starts when VIN_OR permits. -/
  | seatQualified (vinOr : Nat)
  /-- SEAT_LOSS (R300). A seating pin goes high for 5 µs, and the hot-swap MOSFET is turned off at once. -/
  | seatLoss (aLow : Bool) (bLow : Bool)
  /-- HS_GATE_ON (R302). The hot-swap VGS rises above 9 V, and the controller enters QUAL. -/
  | hsGateOn
  /-- HS_QUAL_DONE (R302). The hot-swap LIMIT has stayed 0 for HSQUAL, so the controller enters ON and PG_BRD rises. -/
  | hsQualDone
  /-- HS_LIMIT_ENGAGE (R303). The hot-swap current reaches HSILIM, and ON falls to QUAL with PG_BRD low. -/
  | hsLimitEngage (i : Nat)
  /-- HS_FAULT (R304). A hot-swap fault timer, fast trip, surge timer or thermal trip turns off the gate and retries or latches. -/
  | hsFault (cause : Nat) (i : Nat := 0)
  /-- HS_RETRY (R302). RDLY passes and the hot-swap MOSFET is cool, so the controller ramps again. -/
  | hsRetry
  /-- HS_UNDERVOLTAGE (R302). VIN_OR stays below 36.0 V for 100 µs, and the controller enters UVWAIT. -/
  | hsUndervoltage (vinOr : Nat)
  /-- HS_UV_RECOVER (R302). VIN_OR stays at or above 38.0 V for 50 ms, and the controller leaves UVWAIT for RAMP. -/
  | hsUvRecover (vinOr : Nat)
  /-- SURGE (R305). VIN_OR exceeds VSURGE for 1 µs in ON, and the controller clamps HS_OUT. -/
  | surge (vinOr : Nat)
  /-- SURGE_END (R305). VIN_OR stays below VCLAMP for 100 µs, and the clamp returns to ON with a log record. -/
  | surgeEnd (vinOr : Nat) (micros : Nat := 0)
  /-- HS_CLRLATCH (R304). A write of ENT_HCTL.CLRLATCH clears the hot-swap latch, or is refused while the MOSFET is hot. -/
  | hsClrlatch
  /-- HS_RETRY_RELOAD (R304). After 10 s in ON without a fault, the hot-swap RETRYLEFT is reloaded. -/
  | hsRetryReload
  /-- ENT_HCTL_WRITE (R298). A write of FOFF_A, FOFF_B or HSOFF holds a feed gate or the hot-swap off. -/
  | entHctlWrite (foffA : Bool) (foffB : Bool) (hsoff : Bool)
  /-- PG_BRD_FALL (R306). PG_BRD falls; the governor sets VOFF on the ports, records them and sets BRDOFF. -/
  | pgBrdFall
  /-- BRDOFF_PORT_RELEASE (R306). After PG_BRD rises, the recorded ports have VOFF cleared one each 1 ms. -/
  | brdoffPortRelease
  /-- SAG_START (R309). VIN_OR stays below VSAG for 10 µs, and the governor folds back ICLAMP on the active ports. -/
  | sagStart (vinOr : Nat)
  /-- SAG_RENEGOTIATE (R310). A sag lasts SAGRENEG, and PCAP is folded for renegotiation. -/
  | sagRenegotiate
  /-- SAG_END (R310). VIN_OR stays at or above VSAG + 1.0 V for SAGREL, so the sag ends and the clamps release. -/
  | sagEnd (vmin : Nat) (ms : Nat)
  /-- PBRD_AVERAGE (R311). Each 1 ms the board power average updates BURSTMS and may start shedding. -/
  | pbrdAverage (rest : Nat)
  /-- SHED_VICTIM (R311). While shedding, one victim port is clamped to SHEDW each 1 ms. -/
  | shedVictim
  /-- SHED_RELEASE (R311). After 5 s at or below 0.8 × BUDGET, one shed port is released each 100 ms. -/
  | shedRelease
  /-- RESERVATION_RELEASE (R342). The unspent reservation of a launched entry is released 100 ms after launch. -/
  | reservationRelease (i : Nat)
  /-- CHORD_SIGNAL_DETECT (R321). A signal appears on a Chord link, and the link enters TRAIN. -/
  | chordSignalDetect (l : Nat)
  /-- CHORD_TRAINED (R321). Symbol and word lock are reached, and the link enters IDENT. -/
  | chordTrained (l : Nat)
  /-- CHORD_IDENT (R318). An IDENT frame is judged, and the parent is accepted or refused with a reason. -/
  | chordIdent (l : Nat) (peerApex : Bool) (peerUp : Bool) (peerHold : Bool) (depth : Nat) (sync : Nat) (addr : Nat) (lo : Nat) (hi : Nat)
  /-- CHORD_IDENT_RETRY (R318). A refused link retries identification after 1 s. -/
  | chordIdentRetry (l : Nat)
  /-- CHORD_MEASURE_DONE (R321). 64 delay exchanges complete, and the link enters UP or STANDBY. -/
  | chordMeasureDone (l : Nat)
  /-- CHORD_LINK_FAIL (R321). A Chord link fails by signal loss, missing markers, symbol errors or EN = 0, and goes DOWN. -/
  | chordLinkFail (l : Nat) (cause : Nat)
  /-- MARKER (R321). A parent sends, or a child receives, a marker at each CT multiple of 960 ticks, which is a T boundary. -/
  | marker (l : Nat) (sync : Nat) (depth : Nat) (ct : Nat) (localCt : Nat) (peerHold : Bool)
  /-- DELAY_EXCHANGE (R322). Every 125 µs a DREQ and DRESP exchange timestamps the link, and RTT and offset are averaged. -/
  | delayExchange (l : Nat) (t1 : Int) (t2 : Int) (t3 : Int) (t4 : Int)
  /-- CT_CORRECTION (R324). A Vertex slews its CT toward its parent's, or steps it when the offset exceeds STEPTHR. -/
  | ctCorrection
  /-- CHORD_LOCK (R325). The lock conditions hold for 1 ms, and the Vertex becomes LOCKED. -/
  | chordLock
  /-- APEX_LOCK (R88). The Apex becomes LOCKED 1 ms after PLL lock without a step. -/
  | apexLock
  /-- HOLDOVER_START (R327). The active up-link fails, and the Vertex runs on in holdover. -/
  | holdoverStart
  /-- HOLDMAX_EXPIRY (R327). Holdover passes HOLDMAX, and SYNC becomes ESTIMATED. -/
  | holdmaxExpiry
  /-- FAILOVER (R329). A Vertex makes its alternate up-link active, sends ADOPT and ends holdover. -/
  | failover
  /-- REVERT (R330). With REVERT set, the primary has been in STANDBY for 10 s, and the unit returns to it. -/
  | revert
  /-- ADOPT_FRAME (R329). An ADOPT frame installs an adoption entry and is forwarded up to the common ancestor. -/
  | adoptFrame (l : Nat) (lo : Nat) (hi : Nat) (hops : Nat)
  /-- RELEASE_FRAME (R329). A RELEASE frame removes adoption entries along its path. -/
  | releaseFrame (l : Nat) (lo : Nat) (hi : Nat)
  /-- RANGE_CHANGE (R319). A unit's own range changes; in AUTO its down-link ranges are rewritten. -/
  | rangeChange (lo : Nat) (hi : Nat)
  /-- CHORD_CMD_FRAME (R320). A command frame arrives on a link and is delivered, routed down, routed up or answered NOROUTE. -/
  | chordCmdFrame (l : Nat) (id : Nat) (mode : Nat) (dest : Nat) (hops : Nat) (bytes : List Nat)
  /-- CHORD_ACCEPT_TIMEOUT (R333). No ACCEPTED arrives within 10 ms, or NOROUTE arrives, and the command completes UNIT_ABSENT. -/
  | chordAcceptTimeout (id : Nat)
  /-- CHORD_CMD_TIMEOUT (R333). No response arrives within CHORD_CMDTMO after ACCEPTED, and the command completes TIMEOUT. -/
  | chordCmdTimeout (id : Nat)
  /-- CHORD_RESPONSE (R333). A Chord response reaches the Apex and is placed, or is discarded as late. -/
  | chordResponse (l : Nat) (id : Nat) (bytes : List Nat)
  /-- BROADCAST_MERGE (R334). A unit's wait for its down-links ends, and it sends one merged response upward. -/
  | broadcastMerge (id : Nat)
  /-- CT_PPS_EDGE (R331). CT reaches a multiple of PERIOD, and CT_PPS rises for 100 µs. -/
  | ctPpsEdge
  /-- TAT_ADD (R336). A write of TAT_CMD.ADD checks the new entry and arms it with its reservation and interlocks, or refuses it. -/
  | tatAdd
  /-- TAT_CANCEL (R345). A write of TAT_CMD.CANCEL frees an ARMED entry more than LEAD ahead, or gives NOT_ARMED. -/
  | tatCancel
  /-- TAT_QUEUE_LOAD (R337). Entries due within 20 µs are loaded into the 16-slot launch queue. -/
  | tatQueueLoad
  /-- TAT_LAUNCH (R337). Local CT reaches an entry's CT, and the entry is launched and dispatched, or suppressed by its SYNC condition. -/
  | tatLaunch
  /-- TAT_LATE_LAUNCH (R341). A forward CT step passes entries, which launch late with LATEOK or are suppressed. -/
  | tatLateLaunch
  /-- MASK_WINDOW_END (R343). An entry's expected-event window ends on a port. -/
  | maskWindowEnd (i : Nat) (p : Nat)
  /-- ENTRY_FREE (R345). A launched entry becomes FREE once its mask window and reservation release time end. -/
  | entryFree (i : Nat)
  /-- PACKET_CAPTURE (R354). A packet ends at a tap while capture runs, and it is filtered and written as a record or dropped. -/
  | packetCapture (x : TapPacket)
  /-- DROP_RECORD_WRITE (R359). Room returns, and a DROP record is written ahead of the next record. -/
  | dropRecordWrite
  /-- TRACE_TRIGGER (R358). A trigger from software, a mark match or a fault event is taken in RUN, writing a TRIGGER record. -/
  | traceTrigger (cause : Nat := 1) (id : Nat := 0) (value : Nat := 0)
  /-- POST_TRIGGER_DONE (R357). WR − TRIGPOS reaches POST × 64 KiB, and capture stops with cause 2. -/
  | postTriggerDone
  /-- TRACE_MEMORY_FULL (R361). Memory becomes full in STOPFULL mode, and capture stops with cause 3. -/
  | traceMemoryFull (payload : Nat := 0)
  /-- TRC_START (R357). A write of TRC_CTL.START starts capture with a START record. -/
  | trcStart
  /-- TRC_STOP (R357). A write of TRC_CTL.STOP stops capture with a STOP record. -/
  | trcStop
  /-- TRC_TRIG (R358). A write of TRC_CTL.TRIG is a software trigger. -/
  | trcTrig
  /-- TRC_CLEAR (R357). A write of TRC_CTL.CLEAR in IDLE or STOPPED resets the pointers. -/
  | trcClear
  /-- TRC_MARK_WRITE (R355). A write of TRC_MARK adds a MARK record in RUN or POST. -/
  | trcMarkWrite (value : Nat)
  /-- SCRUB_TICK (R364). Every SCRUBINT µs a Bilberry scrubs one 64-byte group. -/
  | scrubTick (k : Nat) (one : Nat) (two : Nat) (deferred : Bool)
  /-- TRACE_UNCORRECTABLE (R363). A trace memory word cannot be corrected, and it is handled by where it lies and raises a memory fault event. -/
  | traceUncorrectable (k : Nat) (addr : Nat) (count : Option Nat)
  /-- FAULT_EVENT (R405). A fault source event reaches the collector and is counted, logged and may bring the source to FAULT. -/
  | faultEvent
  /-- FAULT_WINDOW_CLOSE (R405). A source's window closes with COUNT below N, and it returns to OK. -/
  | faultWindowClose (id : Nat)
  /-- WIRE_FAULT (R404). The rails of a source stay equal longer than 100 ns, which is counted as a WIRE event. -/
  | wireFault (id : Nat)
  /-- FC_CLR (R407). A write of FC_CLR clears a source from FAULT, or is refused. -/
  | fcClr (id : Nat) (coincides : Bool)
  /-- FC_INJ_EVENT (R409). A write of FC_INJ with MODE 0 injects one event into a source. -/
  | fcInjEvent (id : Nat) (coincides : Bool)
  /-- FC_INJ_WIRE (R409). A write of FC_INJ with MODE 1 forces equal rails for 1 µs, giving a wire fault. -/
  | fcInjWire (id : Nat)
  /-- FC_SCFG_WRITE (R412). A write of FC_SCFG sets a source's threshold, window and reaction and returns a MINOR source to OK. -/
  | fcScfgWrite (n : Nat) (w : Nat) (react : Nat) (inj : Bool)
  /-- FC_SELFTEST_GO (R411). A write of FC_ST.GO starts the fault collector self-test. -/
  | fcSelftestGo
  /-- FC_SELFTEST_END (R411). The self-test finishes every source, setting RESULT and raising an FC event on failure. -/
  | fcSelftestEnd (failed : List Nat)
  /-- LOG_RECORD_WRITE (R416). The LOG hardware writes a queued record into the ring, or drops it when the queue is full. -/
  | logRecordWrite
  /-- LOG_SUBMIT (R417). A write of LOG_SUBCTL.GO queues a firmware record stamped with CT. -/
  | logSubmit
  /-- INTERRUPT_EDGE (R385). A source's edge latch catches a rising edge, and its pending bit sets. -/
  | interruptEdge (n : Nat) (pins : Nat)
  /-- INTERRUPT_ENTRY (R387). A core takes an eligible interrupt, which pushes its level and sets CURLVL, or is a null entry. -/
  | interruptEntry (c : Nat) (pc : Nat) (mie : Bool)
  /-- IC_COMPLETE (R388). A write of IC_COMPLETE pops the level stack, or is a stack fault. -/
  | icComplete (c : Nat) (level : Nat)
  /-- MODERATION_EXPIRY (R391). A pending source's moderation delay passes, or its core enters WFI, and the source becomes eligible. -/
  | moderationExpiry (n : Nat) (wfi : Bool)
  /-- IC_TIMER_WRITE (R396). A write of IC_TIMER loads the core's countdown. -/
  | icTimerWrite (c : Nat) (count : Nat)
  /-- IC_TIMER_ZERO (R396). IC_TIMER counts down to 0 and raises source 162 + c. -/
  | icTimerZero (c : Nat)
  /-- IC_KICK (R396). A write of IC_KICK reloads the core's watchdog. -/
  | icKick (c : Nat)
  /-- WATCHDOG_HALF (R384). A core's watchdog reaches half its time and raises source 167 + c. -/
  | watchdogHalf (c : Nat)
  /-- WATCHDOG_EXPIRY (R373). A watchdog expires: core 0 resets the part, and a service core takes a SERVICE_CORE reset. -/
  | watchdogExpiry (c : Nat)
  /-- TRAP_STACK_OVERFLOW (R374). A seventeenth trap is not taken; the core halts and raises its trap-overflow source. -/
  | trapStackOverflow (c : Nat)
  /-- TCM_UNCORRECTABLE (R373). An uncorrectable TCM word gives an access fault and raises the core's TCM fault source. -/
  | tcmUncorrectable (c : Nat) (pc : Nat) (a : Nat) (fetch : Bool) (mie : Bool)
  /-- CORECTL_RESET_WRITE (R383). A write of IC_CORECTL.RESET holds a service core in reset or releases it. -/
  | corectlResetWrite (c : Nat) (hold : Bool)
  /-- SERVICE_CORE_RESET (R383). A service core is reset alone, clearing its stacks and interrupt state, and its ports enter the hold responder. -/
  | serviceCoreReset (c : Nat) (why : Nat)
  /-- POLICY_IMAGE_LOAD (R381). DMA loads a policy image into staging, core 0 checks it, and the core is released to its loader. -/
  | policyImageLoad (c : Nat)
  /-- LOADER_GO (R381). The ROM loader sees GO = 1 and jumps to the image entry. -/
  | loaderGo (c : Nat)
  /-- LOADER_HALT (R382). The ROM loader finds a bad descriptor, halts and logs, and core 0 reloads the vendor policy. -/
  | loaderHalt (c : Nat)
  /-- DMA_GO (R397). A write of SYS_DMACTL.GO starts a DMA transfer, or is ignored while the channel is busy. -/
  | dmaGo (d : Nat)
  /-- DMA_STOP (R397). A write of SYS_DMACTL.STOP stops a transfer after the word under way. -/
  | dmaStop (d : Nat) (words : Nat)
  /-- DMA_END (R397). A DMA transfer finishes its last word and raises source 172 + d. -/
  | dmaEnd (d : Nat)
  /-- QSPI_HASH_START (R399). A write of QSPI_HCTL.START arms the SHA-256 over a flash range. -/
  | qspiHashStart
  /-- QSPI_HASH_END (R399). The hashed range is read completely or out of order, and HRESULT is set. -/
  | qspiHashEnd (ok : Bool)
  /-- QSPI_ERASE_SECTOR (R399). QSPI_OPCTL.GO with OP 1 erases a 4 KiB flash sector. -/
  | qspiEraseSector
  /-- QSPI_ERASE_BLOCK (R399). QSPI_OPCTL.GO with OP 2 erases a 64 KiB flash block. -/
  | qspiEraseBlock
  /-- QSPI_PROGRAM (R399). QSPI_OPCTL.GO with OP 3 programs a page from QSPI_PBUF. -/
  | qspiProgram
  /-- QSPI_OP_END (R399). A flash operation ends with read-back verification and raises source 27. -/
  | qspiOpEnd (good : Bool)
  /-- NVM_ERASE (R427). CAL_NVMCTL.GO with OP 1 erases an NVM sector, or is refused on the factory sector. -/
  | nvmErase
  /-- NVM_PROGRAM (R427). CAL_NVMCTL.GO with OP 2 programs an NVM row from CAL_NVMBUF. -/
  | nvmProgram
  /-- NVM_OP_END (R427). An NVM operation ends with read-back and raises source 28. -/
  | nvmOpEnd (good : Bool)
  /-- CAL_COMMIT_END (R422). A calibration commit finishes programming and read-back, and loads the shadow or clears NVMOK. -/
  | calCommitEnd (good : Bool)
  /-- SPI_WRITE (R432). An SPI WRITE transaction delivers one frame to channel 0, or it is discarded or turned away busy. -/
  | spiWrite (bytes : List Nat)
  /-- SPI_STATUS (R432). An SPI STATUS transaction returns INFREE, RESPQ and the first response's LEN. -/
  | spiStatus
  /-- SPI_READ (R432). An SPI READ returns the first waiting response and removes it when complete. -/
  | spiRead (n : Nat)
  /-- SPI_BAD_OPCODE (R432). An SPI transaction with an undefined opcode does nothing and is counted. -/
  | spiBadOpcode (opcode : Nat)
  /-- I2C_WRITE (R433). An I2C WRITE delivers one frame to channel 1. -/
  | i2cWrite (bytes : List Nat)
  /-- I2C_STATUS (R433). An I2C STATUS read returns the channel's status bytes. -/
  | i2cStatus
  /-- I2C_READ (R433). An I2C READ returns the first waiting response. -/
  | i2cRead (n : Nat)
  /-- LOCAL_MAILBOX_GO (R435). A write of MBX_LCTL.GO sends a service core's frame through its local mailbox. -/
  | localMailboxGo (c : Nat)
  /-- LOCAL_MAILBOX_ACK (R435). A write of MBX_LCTL.ACK releases the local response and clears RSPREADY. -/
  | localMailboxAck (c : Nat)
  /-- COMMAND_START (R430). A held frame of a channel starts once the previous frame completed and response space exists. -/
  | commandStart (ch : Nat)
  /-- PORT_LOCK_RELEASE (R430). A command naming a port completes, and a waiting command of another channel on that port starts. -/
  | portLockRelease (ch : Nat)
  /-- SYS_INFO (R447). The command returns the 64-byte identity and status record. -/
  | sysInfo (ch : Nat)
  /-- SYS_RESET (R446). The command causes a part reset with cause MAILBOX 1 ms after its response. -/
  | sysReset (ch : Nat)
  /-- SYS_DORMANT (R80). The command arms the RTC alarm and starts the Dormant entry sequence, or is refused. -/
  | sysDormant (ch : Nat)
  /-- SYS_DOMAIN (R446). The command queues domain switching requests. -/
  | sysDomain (ch : Nat)
  /-- SYS_PART (R446). The command reads or writes a partition's PULLUP, VBUS_HOLD, ACCEPT, CONNECT, SOFMODE and NOTEN. -/
  | sysPart (ch : Nat)
  /-- SYS_NOTICES (R446). The command returns and removes board controller notices, optionally setting BCNOTEN. -/
  | sysNotices (ch : Nat)
  /-- SYS_THAW (R116). The command thaws a frozen master. -/
  | sysThaw (ch : Nat)
  /-- SYS_FW_BEGIN (R448). The command opens a flash write session and erases the region. -/
  | sysFwBegin (ch : Nat) (good : Bool)
  /-- SYS_FW_DATA (R448). The command writes the next bytes of an open flash session. -/
  | sysFwData (ch : Nat) (good : Bool)
  /-- SYS_FW_END (R448). The command closes the session and returns the image check result. -/
  | sysFwEnd (ch : Nat) (ok : Bool)
  /-- SYS_FW_STATUS (R448). The command returns the state of the flash session. -/
  | sysFwStatus (ch : Nat)
  /-- SYS_CFG_SAVE (R446). The command saves the selected configuration areas to NVM. -/
  | sysCfgSave (ch : Nat) (good : Bool)
  /-- PORT_STATUS (R451). The command returns a 32-byte status record per port. -/
  | portStatus (ch : Nat)
  /-- PORT_ASSIGN (R450). The command moves ports between unassigned and a partition. -/
  | portAssign (ch : Nat)
  /-- PORT_MIGRATE (R137). The command requests migration of ports to a destination and completes at acceptance. -/
  | portMigrate (ch : Nat)
  /-- PORT_ISOLATE (R159). The command sets the REQ isolation cause on ports. -/
  | portIsolate (ch : Nat)
  /-- PORT_RESTORE (R159). The command clears the REQ isolation cause on ports. -/
  | portRestore (ch : Nat)
  /-- PORT_QUARANTINE (R161). The command quarantines ports. -/
  | portQuarantine (ch : Nat)
  /-- PORT_QUARANTINE_RELEASE (R162). The command with the RELEASE flag releases a quarantine, or is refused with STATE. -/
  | portQuarantineRelease (ch : Nat)
  /-- PORT_SELFTEST (R164). The command starts the selected self-tests on quarantined ports. -/
  | portSelftest (ch : Nat)
  /-- PORT_SELFTEST_RESULTS (R450). The command with OPT[0] = 1 reads the self-test results. -/
  | portSelftestResults (ch : Nat)
  /-- PORT_GLITCH (R450). The command writes the glitch parameters under HOLD and starts a glitch. -/
  | portGlitch (ch : Nat)
  /-- PORT_VBUS (R293). The command sets or clears VOFF on ports. -/
  | portVbus (ch : Nat)
  /-- PORT_LATCHCLR (R291). The command clears a port's latch, or is refused. -/
  | portLatchclr (ch : Nat)
  /-- PORT_CC (R450). The command writes TCPD_CCCFG bits and may request ErrorRecovery, DISCGO, VCREARM or HOSTCLR. -/
  | portCc (ch : Nat)
  /-- PORT_CFG (R450). The command writes RSTLEN, RSMLEN and LPM_EN of ports. -/
  | portCfg (ch : Nat)
  /-- PORT_TTALLOC (R176). The command applies a TT allocation as one group under HOLD. -/
  | portTtalloc (ch : Nat)
  /-- PD_STATUS (R452). The command returns the PD status registers of ports. -/
  | pdStatus (ch : Nat)
  /-- PD_STATUS_QUERY (R452). The command sends Get_Sink_Cap and returns the partner's sink objects. -/
  | pdStatusQuery (ch : Nat)
  /-- PD_CFG (R452). The command writes TCPD_PDCFG bits of ports. -/
  | pdCfg (ch : Nat)
  /-- PD_PROFILE_READ (R452). The command returns an offer profile. -/
  | pdProfileRead (ch : Nat)
  /-- PD_PROFILE_WRITE (R453). The command writes an offer profile, or is refused with BAD_ARG. -/
  | pdProfileWrite (ch : Nat)
  /-- PD_SWAP_PR (R260). The command sends PR_Swap and completes when the swap ends. -/
  | pdSwapPr (ch : Nat)
  /-- PD_SWAP_VCONN (R264). The command sends VCONN_Swap and completes when the swap ends. -/
  | pdSwapVconn (ch : Nat)
  /-- PD_RESET_SOFT (R452). The command sends Soft_Reset. -/
  | pdResetSoft (ch : Nat)
  /-- PD_RESET_HARD (R266). The command sends Hard Reset. -/
  | pdResetHard (ch : Nat)
  /-- PD_RESET_CABLE (R452). The command sends Cable Reset while the part is VCONN source. -/
  | pdResetCable (ch : Nat)
  /-- PD_SINKCFG (R452). The command writes TCPD_SINKCFG under HOLD. -/
  | pdSinkcfg (ch : Nat)
  /-- PD_SLOT (R245). The command selects a core's policy image and may restart the core or save the selection. -/
  | pdSlot (ch : Nat) (good : Bool)
  /-- PWR_STATUS (R454). The command returns the governor and feed entry status. -/
  | pwrStatus (ch : Nat)
  /-- PWR_GOVCFG (R454). The command writes BUDGET, sag and fold settings under HOLD. -/
  | pwrGovcfg (ch : Nat)
  /-- PWR_PRIO (R454). The command writes the port priority classes. -/
  | pwrPrio (ch : Nat)
  /-- PWR_PORTCFG (R454). The command writes the limits, timers, retries and thermal trip of ports under HOLD. -/
  | pwrPortcfg (ch : Nat)
  /-- PWR_FEEDCTL (R454). The command writes the feed and hot-swap controls and may clear the latch. -/
  | pwrFeedctl (ch : Nat)
  /-- PWR_ENERGY (R454). The command returns the energy counters. -/
  | pwrEnergy (ch : Nat)
  /-- TIME_GET (R455). The command returns CT, SYNC, RTC count and epoch. -/
  | timeGet (ch : Nat)
  /-- TIME_SET (R456). The command sets or steps CT at the next marker and rewrites the epoch. -/
  | timeSet (ch : Nat)
  /-- TIME_ADD (R336). The command adds a timed action entry. -/
  | timeAdd (ch : Nat)
  /-- TIME_CANCEL (R345). The command cancels a timed action entry. -/
  | timeCancel (ch : Nat)
  /-- TIME_LIST (R455). The command returns timed action entries. -/
  | timeList (ch : Nat)
  /-- TIME_SOF (R455). The command returns SOF-to-CT ring entries. -/
  | timeSof (ch : Nat)
  /-- TRACE_STATUS (R458). The command returns the trace status and pointers. -/
  | traceStatus (ch : Nat)
  /-- TRACE_CFG (R458). The command writes the trace configuration and filters. -/
  | traceCfg (ch : Nat)
  /-- TRACE_CTL_START (R357). The command starts capture. -/
  | traceCtlStart (ch : Nat)
  /-- TRACE_CTL_STOP (R357). The command stops capture. -/
  | traceCtlStop (ch : Nat)
  /-- TRACE_CTL_TRIG (R358). The command gives a software trigger. -/
  | traceCtlTrig (ch : Nat)
  /-- TRACE_CTL_CLEAR (R357). The command clears the trace pointers. -/
  | traceCtlClear (ch : Nat)
  /-- TRACE_CTL_MARK (R355). The command writes a MARK record. -/
  | traceCtlMark (ch : Nat)
  /-- TRACE_READ (R367). The command advances RD by KEEP and returns stream bytes. -/
  | traceRead (ch : Nat) (one : Nat) (two : Nat)
  /-- FAULT_STATUS (R459). The command returns one source's configuration, state and counts. -/
  | faultStatus (ch : Nat)
  /-- FAULT_STATUS_LIST (R459). The command returns FC_SUM, FC_ST and the IDs in FAULT. -/
  | faultStatusList (ch : Nat)
  /-- FAULT_CFG (R459). The command writes a source's threshold, window and reaction. -/
  | faultCfg (ch : Nat)
  /-- FAULT_CLEAR (R407). The command clears sources from FAULT. -/
  | faultClear (ch : Nat)
  /-- FAULT_INJECT (R409). The command injects an event or wire fault. -/
  | faultInject (ch : Nat)
  /-- FAULT_SELFTEST (R411). The command starts the fault collector self-test. -/
  | faultSelftest (ch : Nat)
  /-- FAULT_SUMMARY (R418). The command returns the 32-byte log summary. -/
  | faultSummary (ch : Nat)
  /-- FAULT_LOG (R459). The command returns consistent log records from a SEQ. -/
  | faultLog (ch : Nat)
  /-- CAL_EXPORT (R422). The command returns a part of the calibration set. -/
  | calExport (ch : Nat)
  /-- CAL_WRITE (R422). The command stages a part of a new calibration set. -/
  | calWrite (ch : Nat)
  /-- CAL_WRITE_COMMIT (R422). The command with COMMIT starts programming the staged calibration set. -/
  | calWriteCommit (ch : Nat)
  /-- REG_READ (R461). The command reads consecutive registers through the passthrough agent. -/
  | regRead (ch : Nat)
  /-- REG_WRITE (R461). The command writes registers through the passthrough agent, optionally under HOLD. -/
  | regWrite (ch : Nat)
  /-- CHORD_STATUS (R463). The command returns the Chord status and link registers. -/
  | chordStatus (ch : Nat)
  /-- CHORD_CFG (R463). The command writes the Chord configuration, ranges, PPS and timeout. -/
  | chordCfg (ch : Nat)
  /-- CHORD_LINK (R463). The command enables a link and sets its ASYM. -/
  | chordLink (ch : Nat)
  /-- CHORD_GATHER_READ (R463). The command returns summaries from the gather buffer. -/
  | chordGatherRead (ch : Nat)
  /-- GATHER (R334). A gather frame collects the log summaries of a subtree in LIST or MERGE mode. -/
  | gather (ch : Nat)
  /-- BOOT_RAILS_VALID (R54). The BOOT rails become valid again while AON stays supplied, after a brownout or after the alarm raised the RAIL_EN outputs, and the boot runs with cause BROWNOUT or DORMANT_WAKE. -/
  | bootRailsValid (samples : List Nat) (testEn : Bool)
  /-- SYS_RST_N_RELEASE (R44). SYS_RST_N returns high after a pin reset, which triggers strap sampling and the boot. -/
  | sysRstNRelease (samples : List Nat) (testEn : Bool)
  /-- RAIL_EN_STEP (R59). AON's sequencer raises RAIL_EN1 1 ms after RAIL_EN0, and ends the 20 ms RAIL_EN0 hold of an alarm reached during Dormant entry. -/
  | railEnStep
  /-- THERMAL_RESET_RELEASE (R67). Quince Tj falls below 110 °C after a thermal reset, and the part leaves reset and boots. -/
  | thermalResetRelease
  /-- REFERENCE_RETURN (R64). A PLL reference returns within the 10 µs hold, and the PLL takes it up without a reset. -/
  | referenceReturn (viaLink : Bool)
  /-- RAIL_MONITOR_CHANGE (R53). VCONN_IN or VIO5 becomes valid or invalid, or VBAT crosses 1.90 V, which changes PMU_RAILSTAT and raises interrupt source 17. -/
  | railMonitorChange (which : Nat) (ok : Bool)
  /-- D2D_LINK_TRAINED (R120). A D2D link finishes its first training after its domain comes on and reads UP, and TRAINS increments. -/
  | d2dLinkTrained (d : Nat)
  /-- HUB_DEVICE_REQUEST (R125). A host's standard request to its hub partition, such as SET_ADDRESS, SET_CONFIGURATION, SET or CLEAR_FEATURE(DEVICE_REMOTE_WAKEUP) or a hub change clear, sets the partition's address, configuration and features. -/
  | hubDeviceRequest (k : Nat) (requestType : Nat) (request : Nat) (value : Nat) (length : Nat)
  /-- SINK_REQUEST_RETRY (R262). As sink, the part sends its Request again tSinkRequest after the source answered Wait. -/
  | sinkRequestRetry (p : Nat)
  /-- OVLDX_CLEAR (R282). OVLDSUM falls below 2,500 as old bins age out, so OVLDX clears and the active level returns to IPK. -/
  | ovldxClear (p : Nat)
  /-- SRAM_UNCORRECTABLE (R401). A shared SRAM word outside the split-context pool and the trace ring cannot be corrected, and SRAM index 0 raises an event whose factory reaction is reset part. -/
  | sramUncorrectable (a : Nat)
  /-- WIRE_FAULT_END (R404). The rails of a source differ again after a wire fault, so CAUSE falls and events of the source are seen again. -/
  | wireFaultEnd (id : Nat)
  /-- MRET (R374). A core executes mret, which pops mepc, mcause and MPIE from its trap stack. -/
  | mret (c : Nat)
  /-- SYNCHRONOUS_EXCEPTION (R374). A core takes a synchronous exception, which pushes its trap stack and clears MIE. -/
  | synchronousException (c : Nat) (pc : Nat) (cause : Nat) (mie : Bool)
deriving DecidableEq, Repr

end Sys2Proof
end

