-- ==== Sys2Proof/Decode.lean ====
section
/-! DEFINITION. The command that a word spells.  No row of the opcode table of this block has bits, so no word spells
one; the frames of its mailbox are decoded in Machine/MbxOps.lean, its register accesses in Machine/RegOps.lean. -/

namespace Sys2Proof

/-- The command that a word of the opcode table's bits spells: none, since no row gives bits (log entry 1). -/
def decodeTableWord (_nbits _w : Nat) : Option Instr := none

end Sys2Proof
end

