-- ==== Sys2Proof/Config.lean ====
section
/-! DEFINITION. What an implementation fixes, and the free values: constants with no body, so that no proof can see
what they are.  A meaning applies `freeNat` to the counter `State.free`, which each draw advances (log
entry 3). -/

namespace Sys2Proof.Config

/-- A fresh number that the spec leaves open (log entry 3). -/
opaque freeNat : Nat → Nat

/-- The SHA-256 digest of a byte string, as one number; the spec names the function and does not define it (R399; log
entry 9). -/
opaque sha256 : List Byte → Nat

/-- Whether an image's signature verifies under a key of the key table (R379); the spec names ECDSA and does not define
it (log entry 9). -/
opaque signatureOk : (keyIndex : Nat) → (image : List Byte) → Bool

/-- The natural logarithm scaled to 1/1,000,000, of a ratio of two numbers, for the NTC equation of R285 (log entry 9). -/
opaque lnMicro : (num den : Nat) → Int

/-- Where in the flash the vendor policy image lies, as a section of the system firmware image; the spec gives no place
(R377; log entry 22). -/
opaque vendorImage : Nat

/-- Where the 512 KiB body of the system firmware image begins in its region of the flash; the spec gives its header no length
(R72, R377; log entry 151). -/
opaque systemBody : Nat

/-- Log2 of the size in bytes of the flash that the board fits, at least 25 (R399, R476; log entry 26). -/
opaque flashSize : Nat

/-- The number by which a log record or command answer names a case that the spec lists without numbering it: the rule
and the place in its list (log entry 23). -/
opaque caseCode : (rule place : Nat) → Nat

end Sys2Proof.Config
end

