-- ==== Sys2Proof/Machine/Store.lean ====
section
/-! DEFINITION. Canonical finite maps as plain data: strictly rising keys, and no entry equal to what an unlisted key
holds.  Registers, memory and every table kept per port, link, core or source are such maps. -/

namespace Sys2Proof.Machine

/-- The order of the keys of a map: numbers by size, pairs lexicographically. -/
def slotLt (a b : Nat × Nat) : Bool :=
  decide (a.1 < b.1) || (decide (a.1 = b.1) && decide (a.2 < b.2))

/-- The value a map holds at a key, `d` where the key is not listed. -/
def look {κ α : Type} [DecidableEq κ] (d : α) (k : κ) : List (κ × α) → α
  | [] => d
  | e :: r => if e.1 = k then e.2 else look d k r

/-- Remove a key. -/
def erase {κ α : Type} [DecidableEq κ] (k : κ) : List (κ × α) → List (κ × α)
  | [] => []
  | e :: r => if e.1 = k then erase k r else e :: erase k r

/-- Put a value at its place in the order of the keys. -/
def place {κ α : Type} [DecidableEq κ] (lt : κ → κ → Bool) (k : κ) (v : α) : List (κ × α) → List (κ × α)
  | [] => [(k, v)]
  | e :: r => if e.1 = k then (k, v) :: r else if lt k e.1 then (k, v) :: e :: r else e :: place lt k v r

/-- Store a value: the entry goes away when the value is what the unlisted key holds. -/
def store {κ α : Type} [DecidableEq κ] [DecidableEq α] (lt : κ → κ → Bool) (d : α) (k : κ) (v : α)
    (l : List (κ × α)) : List (κ × α) :=
  if v = d then erase k l else place lt k v l

/-- The keys rise strictly. -/
def rising {κ α : Type} (lt : κ → κ → Bool) : List (κ × α) → Bool
  | [] => true
  | [_] => true
  | e :: e' :: r => lt e.1 e'.1 && rising lt (e' :: r)

/-- A table kept per number (a port, a link, a core, a source). -/
abbrev Tbl (α : Type) := List (Nat × α)

/-- The order of table keys. -/
def natLt (a b : Nat) : Bool := decide (a < b)

/-- The record of number `k`. -/
def Tbl.at {α : Type} [Inhabited α] (t : Tbl α) (k : Nat) : α := look default k t

/-- Replace the record of number `k`. -/
def Tbl.put {α : Type} [Inhabited α] [DecidableEq α] (t : Tbl α) (k : Nat) (v : α) : Tbl α :=
  store natLt default k v t

/-- Change the record of number `k`. -/
def Tbl.upd {α : Type} [Inhabited α] [DecidableEq α] (t : Tbl α) (k : Nat) (f : α → α) : Tbl α :=
  t.put k (f (t.at k))

end Sys2Proof.Machine
end

