-- ==== Sys2Proof/Machine/TypesMbx.lean ====
section
/-! DEFINITION. Plain records of the mailbox (R429 to R467): frames, and what each channel holds.  Channels 0 to 6 are
numbered as R429 gives; channel 7 of core c is number 6 + c. -/

namespace Sys2Proof.Machine

/-- A frame with its header fields (R436); the payload as bytes. -/
structure Frame where
  code : Nat
  seq : Nat
  flags : Nat
  target : Nat
  status : Nat
  retry : Nat
  payload : List Nat
deriving DecidableEq, Repr, Inhabited

/-- A channel of the mailbox. -/
structure Channel where
  /-- Frames held before execution, as bytes, oldest first. -/
  frames : List (List Nat)
  /-- The command under way, and the ports it runs on (R430). -/
  running : Option Frame
  ports : List Nat
  /-- A SERVICE_CORE reset overtook the command taken from a local mailbox: its response is discarded (R435). -/
  orphan : Bool
  /-- How far a command has come that waits on something outside the part. -/
  stage : Nat
  /-- Responses placed and not read yet, oldest first; finished responses that wait for space (R430). -/
  responses : List Frame
  finished : List Frame
  /-- What the target last sent on MISO or SDA (R432, R433). -/
  sent : List Nat
deriving DecidableEq, Repr, Inhabited

end Sys2Proof.Machine
end

