-- ==== Sys2Proof/Machine/TypesChord.lean ====
section
/-! DEFINITION. Plain records of the Chord controller and the timed action table (R317 to R346, R444, R445). -/

namespace Sys2Proof.Machine

/-- What the Chord controller sends on a link (R81, R321, R329, R332 to R334). -/
inductive ChordOut where
  | marker (link sync depth ct : Nat)
  | ident (link : Nat) (apex : Bool) (depth sync addr lo hi : Nat)
  | dreq (link : Nat)
  | dresp (link : Nat)
  | adopt (link lo hi hops : Nat)
  | release (link lo hi : Nat)
  | cmd (link id mode dest hops : Nat) (frame : Frame)
  | accepted (link id : Nat)
  | noroute (link id : Nat)
  | response (link id : Nat) (frame : Frame)
  | leave (link : Nat)
deriving DecidableEq, Repr, Inhabited

/-- A Chord link (R321 to R324) where it is no register field: RTT and offset of the last exchanges in 1/16 tick, newest
first; the range that the parent offers; the parent is in holdover; the offset in ticks that the first marker after
MEASURE showed. -/
structure ChordLink where
  rtts : List Int
  offs : List Int
  offered : Nat × Nat
  peerHold : Bool
  firstOffset : Option Int
deriving DecidableEq, Repr, Inhabited

/-- A command that the Apex has sent and that is not complete (R333), with the channel its response goes to. -/
structure ChordCmd where
  id : Nat
  channel : Nat
  frame : Frame
  accepted : Bool
deriving DecidableEq, Repr, Inhabited

/-- A frame that waits in the Chord channel, or runs (R333, R444): its frame ID, delivery mode, and the link it came on
(6 for the Apex's own). -/
structure ChordIn where
  id : Nat
  mode : Nat
  link : Nat
deriving DecidableEq, Repr, Inhabited

/-- A subtree broadcast or gather that waits for its down-links (R334, R445). -/
structure ChordMerge where
  id : Nat
  mode : Nat
  merge : Bool
  link : Nat
  frame : Frame
  waiting : List Nat
  ownDone : Bool
  reached : Nat
  oks : Nat
  others : Nat
  lowAddr : Nat
  lowStatus : Nat
  lowRetry : Nat
  late : Nat
  summary : List Nat
deriving DecidableEq, Repr, Inhabited

/-- The Chord controller where it is no register field. -/
structure ChordHw where
  /-- An up-link has been active since the last part reset; an up-link is chosen as active and whether it is in use. -/
  everActive : Bool
  chosen : Bool
  active : Bool
  /-- CT has made its first step to the fabric; the unit has been LOCKED to its parent; the correction that slews. -/
  stepped : Bool
  locked : Bool
  slew : Int
  /-- CT at which the holdover began. -/
  holdSince : Option Nat
  lastStepCt : Nat
  lastStep : Int
  /-- What TIME_SET asks for at the next marker (R456): a signed step, or the value of CT. -/
  timeSet : Option (Bool × Nat)
  /-- CT of the last rising edge of CT_PPS, none since the ball was last held low (R331). -/
  ppsCt : Option Nat
  out : List ChordOut
  nextId : Nat
  sent : List ChordCmd
  inbox : List ChordIn
  merges : List ChordMerge
  /-- Frames whose merge this unit has closed: merged responses that come for them later are late (R334). -/
  closed : List Nat
  /-- Summaries stored in the gather buffer, and lost (R334). -/
  gathered : Nat
  gatherLost : Nat
deriving DecidableEq, Repr, Inhabited

/-- An entry of the timed action table (R335): words 0 to 6; STATE; the power reserved in 10 mW, and each port's share;
order of acceptance; ports whose action waits for the end of a mailbox command (R140, R235); loaded into the launch queue;
ports it launched on, ports whose mask window is open, ports whose window opens at an actuation still to come (R339,
R343); the reservation is not released; the mailbox channel that added it. -/
structure TatEntry where
  words : List Nat
  st : Nat
  resv : Nat
  shares : List (Nat × Nat)
  order : Nat
  later : List Nat
  loaded : Bool
  ports : Nat
  window : Nat
  awaited : Nat
  held : Bool
  channel : Option Nat
deriving DecidableEq, Repr, Inhabited

end Sys2Proof.Machine
end

