-- ==== Sys2Proof/Machine/TypesFault.lean ====
section
/-! DEFINITION. Plain records of the fault collector and the event log (R400 to R418). -/

namespace Sys2Proof.Machine

/-- The state of a fault source (R405). -/
inductive FcState where
  | ok | minor | fault
deriving DecidableEq, Repr, Inhabited

/-- A fault source (R405 to R412).  `written` says that FC_SCFG was written since part reset; until then N is 1, the
window 1,000 ms and the reaction 0 (R406).  `next` holds N, window, reaction and INJCOUNT written while the source is in
FAULT, which apply after the clear (R412). -/
structure FcSource where
  written : Bool
  n : Nat
  window : Nat
  react : Nat
  injCount : Bool
  next : Option (Nat × Nat × Nat × Bool)
  st : FcState
  count : Nat
  events : Nat
  injected : Nat
  wire : Bool
deriving DecidableEq, Repr, Inhabited

/-- An event on its way from a source to the collector (R404), with its two detail words (R415). -/
structure Raised where
  id : Nat
  word0 : Nat
  word1 : Nat
deriving DecidableEq, Repr, Inhabited

/-- The fault collector (R400 to R412) where it is no register field. -/
structure Collector where
  sources : List (Nat × FcSource)
  raised : List Raised
  /-- CT of the latest entry to FAULT (R418). -/
  lastCt : Nat
deriving DecidableEq, Repr, Inhabited

/-- A log record before it is written (R414): `data` are bytes 16 onward. -/
structure LogRec where
  ct : Nat
  sync : Nat
  id : Nat
  kind : Nat
  flags : Nat
  data : List Nat
deriving DecidableEq, Repr, Inhabited

/-- The log hardware (R413 to R417): the queue of 64, how many of its first entries were submitted by firmware with
EN = 0, and whether a record was dropped since the last one written. -/
structure LogHw where
  queue : List LogRec
  ahead : Nat
  loss : Bool
deriving DecidableEq, Repr, Inhabited

end Sys2Proof.Machine
end

