-- ==== Sys2Proof/Machine/TypesCore.lean ====
section
/-! DEFINITION. Plain records of the cores, the interrupt controller, DMA, the QSPI host, the NVM controller, the
calibration set under way and the flash write session (R373 to R399, R419 to R428, R448). -/

namespace Sys2Proof.Machine

/-- Where a service core stands in its load (R381, R382). -/
inductive CoreStage where
  /-- Held in reset or not loaded. -/
  | off
  /-- The ROM loader copies the body and waits for GO. -/
  | loading
  /-- The image runs. -/
  | running
  /-- The ROM loader halted, or a trap overflow halted the core. -/
  | halted
deriving DecidableEq, Repr, Inhabited

/-- A core where it is no register field: mstatus.MIE and MPIE, mepc, mcause; the trap stack, newest first; the level
stack of the interrupt controller, newest first; the watchdog was started by a KICK; the image selected (0 vendor, 1 + s
owner slot s), the one being loaded or run, the last check result
(R379), and whether it was reloaded with the vendor policy after a halt of its loader (R382). -/
structure CoreHw where
  mie : Bool
  mpie : Bool
  mepc : Nat
  mcause : Nat
  traps : List (Nat × Nat × Bool)
  levels : List Nat
  watch : Bool
  stage : CoreStage
  selected : Nat
  image : Nat
  checked : Nat
  reloaded : Bool
deriving DecidableEq, Repr, Inhabited

/-- A DMA transfer under way (R397): its next source and destination word; the load of the next word was frozen and has
returned 0 at a thaw (R116). -/
structure DmaHw where
  src : Nat
  dst : Nat
  zero : Bool
deriving DecidableEq, Repr, Inhabited

/-- The QSPI host (R399): the armed hash range, the operation under way (1 sector, 2 block, 3 program) with its offset and
length. -/
structure QspiHw where
  hashFrom : Nat
  hashLen : Nat
  op : Nat
  addr : Nat
  len : Nat
deriving DecidableEq, Repr, Inhabited

/-- The NVM controller (R427): the operation under way and its row, and the rows programmed since their sector's last
erase. -/
structure NvmHw where
  op : Nat
  row : Nat
  programmed : List Nat
deriving DecidableEq, Repr, Inhabited

/-- The calibration set (R422): the two staged parts, the two parts exported, and the set that a commit programs. -/
structure CalHw where
  part0 : List Nat
  part1 : List Nat
  out0 : Bool
  out1 : Bool
  commit : List Nat
deriving DecidableEq, Repr, Inhabited

/-- The open SYS_FW session (R448): the channel, the region, its size and the bytes written. -/
structure FwSession where
  chan : Nat
  region : Nat
  size : Nat
  written : Nat
deriving DecidableEq, Repr, Inhabited

/-- What SYS_CFG_SAVE keeps beside register fields (R446): the areas saved, the offer profiles, the policy selections (0
vendor, 1 + s owner slot s) and the fault sources with their settings. -/
structure NvmSaved where
  areas : Nat
  profiles : Tbl (List Nat)
  policy : Tbl Nat
  faults : Tbl FcSource
deriving DecidableEq, Repr, Inhabited

/-- The service hardware where it is no register field: sources whose moderation delay has passed (R391), DMA, QSPI, NVM,
calibration, the flash session, and the generation and contents of the NVM configuration (R427, R446). -/
structure SysHw where
  ready : List Nat
  dma : List (Nat × DmaHw)
  qspi : QspiHw
  nvm : NvmHw
  cal : CalHw
  session : Option FwSession
  cfgGen : Nat
  saved : NvmSaved
deriving DecidableEq, Repr, Inhabited

end Sys2Proof.Machine
end

