-- ==== Sys2Proof/Machine/TypesSys.lean ====
section
/-! DEFINITION. Plain records of the state outside the registers: supplies, boot, domains, snapshots, frozen masters
(R53 to R121). -/

namespace Sys2Proof.Machine

/-- How far the boot has come (R72, R73, R77): off, boot ROM running, ROM waiting for an image, ROM halted, system
firmware running. -/
inductive BootStage where
  | off | rom | waitImage | halted | firmware
deriving DecidableEq, Repr, Inhabited

/-- The stage of Dormant (R81 to R83): awake; domains switching off (steps 1 to 4); hot-swap gate and RAIL_EN2 low (step
5); RAIL_EN1 low (step 6); RAIL_EN0 low (step 7); waking. -/
inductive Dormancy where
  | awake | entering | gateOff | railsFalling | asleep | waking
deriving DecidableEq, Repr, Inhabited

/-- Supplies, resets, boot, domains (R53 to R88). -/
structure Power where
  /-- AON is supplied (R55, R84). -/
  aon : Bool
  /-- SYS_RST_N is high. -/
  rstN : Bool
  /-- Quince Tj has reached 125 °C and has not fallen below 110 °C since (R67). -/
  hot : Bool
  /-- The straps are to be sampled before the next boot (R46), and TEST_EN at the last sampling (R40). -/
  sample : Bool
  testEn : Bool
  boot : BootStage
  /-- The dies fitted to the package (R9), as detected at step 4 of R72. -/
  dies : Nat
  dormancy : Dormancy
  /-- The alarm was reached during Dormant entry and is held (R83). -/
  alarmHeld : Bool
  /-- RAIL_EN2 was raised and the PORTS domains requested (R72, step 13). -/
  portsAsked : Bool
  /-- Pull-ups and connects of the boot are applied (R72, steps 14 and 15). -/
  broughtUp : Bool
  /-- The Rp code that the host presents on U0 (R218), and the limit of the chain's draw from U0_VBUS in mA, 0 while the
  chain does not supply the island (R77). -/
  hostRp : Nat
  inLimit : Nat
  /-- The levels of the inputs GPIO0 to GPIO7, as last seen (R41, R384). -/
  gpio : Nat
  /-- Domains that came on, each with its CT: its fault sources are evaluated 10 µs later (R404). -/
  onSince : List (Nat × Nat)
  /-- A recovery image was written whole over the interface that STRAP_BOOT names (R43, R73), and to which region of the
  flash (R448). -/
  imageIn : Bool
  imageAt : Nat
  /-- The D2D links of Currants that have been lost for more than 1 ms (R19). -/
  d2dLong : List Nat
  /-- The PLL holds its last frequency after a loss of both references (R64). -/
  refHold : Bool
  /-- A SYS_RESET waits for its 1 ms: the channel that sent it (R446). -/
  resetPending : Option Nat
  /-- Ticks since the reset cause that PMU_RESET_CAUSE holds arose (R71). -/
  resetAge : Nat
  /-- The 48-bit RTC count, and the part of an RTC tick gathered so far in units of 1 of `rtcUnit` (R85, R90). -/
  rtcCount : Nat
  rtcPart : Nat
  /-- The unit was LOCKED at some time since AON came up (R87, first Chord lock). -/
  everLocked : Bool
deriving DecidableEq, Repr, Inhabited

/-- A held 64-bit snapshot (R110): the value last captured, whether a capture is pending, and of what. -/
structure Snap where
  value : Nat
  pending : Bool
  sel : Nat
deriving DecidableEq, Repr, Inhabited

/-- An access held by a frozen master (R115, R116). -/
structure FrozenAccess where
  addr : Nat
  store : Bool
deriving DecidableEq, Repr, Inhabited

end Sys2Proof.Machine
end

