-- ==== Sys2Proof/Machine/State.lean ====
section
/-! DEFINITION. The state of the block: every register field in one canonical file, memory as bytes, and, as typed
records, the state that the spec gives the machine outside its registers; the queue of waiting commands; the faults and
refusals; the state after reset. -/

namespace Sys2Proof.Machine

/-- The file of register fields: key (field id, index), value of the field.  An unlisted field holds its reset value. -/
abbrev RegFile := List ((Nat × Nat) × Nat)

/-- A write not applied yet (R101 to R103): the field, its index and the value written. -/
structure Staged where
  field : Field
  index : Nat
  value : Nat
deriving DecidableEq, Repr

/-- The state of the block. -/
structure State where
  /-- Commands that wait, first in first out (the block's convention, log entry 1). -/
  pending : List Instr
  regs : RegFile
  staged : List Staged
  /-- Memory bytes that differ from what an unlisted address reads as: shared SRAM, TCMs, NVM, flash, trace memory. -/
  mem : List Host.Cell
  /-- Cluster time, 64 bits (R85). -/
  ct : Nat
  power : Power
  /-- Configuration that SYS_CFG_SAVE stored in NVM, and system firmware's copy in shared SRAM (R104, R134). -/
  nvmCfg : RegFile
  fwCopy : RegFile
  /-- Snapshots of RTC (0), GOV (1), CHORD (2), TRC (3) and ADC of Currant n (4 + n) (R110). -/
  snaps : Tbl Snap
  frozen : Tbl FrozenAccess
  parts : Tbl Partition
  migs : Tbl Migration
  dpe : Tbl DpePort
  pool : Pool
  tt : Tbl TtPort
  mf : Tbl MfInst
  cc : Tbl CcPort
  pd : Tbl PdPort
  /-- Offer profiles 0 to 7: the objects of positions 1 onward, encoded as the PD specification gives (R249). -/
  profiles : Tbl (List Nat)
  pwr : Tbl PwrPort
  gov : Tbl GovPort
  govHw : GovHw
  ent : EntHw
  /-- The board controller's notice queue (R434). -/
  bcq : NoticeQ
  chord : ChordHw
  links : Tbl ChordLink
  /-- The timed action table, and how many entries were accepted since part reset (R335, R337). -/
  tat : Tbl TatEntry
  tatOrder : Nat
  /-- Writes of TAT_CMD that are being processed while TAT_STAT.BUSY reads 1, oldest first: true for an ADD. -/
  tatOps : List Bool
  trc : TraceHw
  /-- The mailbox channels (R429). -/
  mbx : Tbl Channel
  cores : Tbl CoreHw
  hw : SysHw
  fc : Collector
  log : LogHw
  /-- The number of free values drawn (the model's own field, log entry 3). -/
  free : Nat
deriving DecidableEq, Repr

/-- The part right after reset: every register at its reset value, memory with nothing listed, nothing queued, the boot
not begun; POWER_ON begins it (log entries 4 to 7). -/
def State.reset : State where
  pending := []
  regs := []
  staged := []
  mem := []
  ct := 0
  power := { (default : Power) with rstN := true }
  nvmCfg := []
  fwCopy := []
  snaps := []
  frozen := []
  parts := []
  migs := []
  dpe := []
  pool := default
  tt := []
  mf := []
  cc := []
  pd := []
  profiles := []
  pwr := []
  gov := []
  govHw := default
  ent := default
  bcq := default
  chord := default
  links := []
  tat := []
  tatOrder := 0
  tatOps := []
  trc := default
  mbx := []
  cores := []
  hw := default
  fc := default
  log := default
  free := 0

/-- What stops the machine: only a store, or its application, whose result the spec calls unpredictable; every other row has its effect in every
state. -/
inductive Fault where
  /-- Raised by REGISTER_WRITE, ALIAS_WRITE, REG_WRITE, DMA_STOP and DMA_END on a store whose result the spec calls
  unpredictable under this rule, and by STAGED_WRITE_APPLY and PORT33_CONNECT_APPLY where such a write applies (log entry 10).  Safe: the model stops where hardware goes on in a way no rule gives. -/
  | unpredictable (rule : Nat)
deriving DecidableEq, Repr

/-- Why a command is refused. -/
inductive Refusal where
  /-- The command has no meaning in the model yet.  Raised by exec's own arms only.  Safe. -/
  | notModelled (mnemonic : String)
deriving DecidableEq, Repr

end Sys2Proof.Machine
end

