-- ==== Sys2Proof/Machine/Ops.lean ====
section
/-! DEFINITION. The named operations over register fields, memory, interrupts, the log, notices and fault events that
every family of commands shares. -/

namespace Sys2Proof.Machine

/-! ### Bytes -/

/-- The `n` lowest bytes of a number, little-endian (R100). -/
def le : Nat → Nat → List Nat
  | 0, _ => []
  | n + 1, v => v % 256 :: le n (v / 256)

/-- The number that little-endian bytes spell. -/
def ofLe : List Nat → Nat
  | [] => 0
  | b :: r => b % 256 + 256 * ofLe r

/-- A number with bit `b` set to `v`. -/
def withBit (x b : Nat) (v : Bool) : Nat :=
  x % 2 ^ b + (if v then 2 ^ b else 0) + 2 ^ (b + 1) * (x / 2 ^ (b + 1))

/-- The value of a bit as 0 or 1. -/
def bit01 (b : Bool) : Nat := if b then 1 else 0

/-- A signed number in `w` bits of two's complement. -/
def ofInt (w : Nat) (x : Int) : Nat := (x % (2 ^ w : Int)).toNat

/-- The signed number that `w` bits spell. -/
def toInt (w x : Nat) : Int := if x % 2 ^ w < 2 ^ (w - 1) then (x % 2 ^ w : Nat) else (x % 2 ^ w : Nat) - (2 ^ w : Nat)

/-- A value kept within bounds. -/
def clamp (lo hi x : Nat) : Nat := if x < lo then lo else if hi < x then hi else x

/-! ### Register fields -/

/-- The reset value of a field of copy `i`: the table's, except where it depends on the copy (R119, R121, R238, R272, R396). -/
def resetAt (f : Field) (i : Nat) : Nat :=
  if f.id = F.MPU_WLIMIT_LIMIT.id then (if i = 0 then 0xFFFFF else 0)
  else if f.id = F.MPU_WATTR_EN.id ∨ f.id = F.MPU_WATTR_X.id ∨ f.id = F.MPU_WATTR_W.id ∨ f.id = F.MPU_WATTR_R.id then
    (if i = 0 then 1 else 0)
  else if f.id = F.IC_CORECTL_WDTMO.id then (if i = 0 then 1000 else 0)
  else if f.id = F.IC_CORECTL_RUNNING.id then (if i = 0 then 1 else 0)
  else if f.id = F.IC_CORECTL_RESET.id then (if i = 0 then 0 else 1)
  else if f.id = F.TCPD_CCCFG_CCEN.id then (if 33 ≤ i then 1 else 0)
  else if f.id = F.TCPD_CCCFG_ROLE.id then (if 33 ≤ i then 2 else 0)
  else if f.id = F.TCPD_CCCFG_RPLVL.id then (if 33 ≤ i then 0 else 2)
  else if f.id = F.TCPD_CCCFG_AUDIO_EN.id ∨ f.id = F.TCPD_CCCFG_DEBUG_EN.id ∨ f.id = F.TCPD_CCCFG_VCONN_EN.id
      ∨ f.id = F.TCPD_CCCFG_DISC_EN.id ∨ f.id = F.TCPD_CCSTAT_DISCAUSE.id ∨ f.id = F.TCPD_PDCFG_EPR_EN.id
      ∨ f.id = F.TCPD_PDCFG_PPS_EN.id ∨ f.id = F.TCPD_PDCFG_VCS_EN.id then
    (if 33 ≤ i then 0 else 1)
  else if f.id = F.TCPD_SINKCFG_PDMAX.id then (if 33 ≤ i then 0 else 10)
  else if f.id = F.DIE_REV_INDEX.id then (if i < 4 then i else 0)
  else if f.id = F.DIE_REV_TYPE.id then (if i < 4 then 1 else 2)
  else f.reset

/-- The value of a field of copy `i` (R98, R103: the applied value). -/
def State.fld (s : State) (f : Field) (i : Nat) : Nat := look (resetAt f i) (f.id, i) s.regs

/-- Set a field of copy `i`; what does not fit the field's width is cut off. -/
def State.setFld (s : State) (f : Field) (i v : Nat) : State :=
  { s with regs := store slotLt (resetAt f i) (f.id, i) (v % 2 ^ f.width) s.regs }

/-- A one-bit field read as a truth value. -/
def State.on (s : State) (f : Field) (i : Nat) : Bool := decide (s.fld f i ≠ 0)

/-- Set a one-bit field. -/
def State.put (s : State) (f : Field) (i : Nat) (b : Bool) : State := s.setFld f i (bit01 b)

/-- Bit `b` of a field. -/
def State.bit (s : State) (f : Field) (i b : Nat) : Bool := (s.fld f i).testBit b

/-- Set bit `b` of a field. -/
def State.putBit (s : State) (f : Field) (i b : Nat) (v : Bool) : State := s.setFld f i (withBit (s.fld f i) b v)

/-- Add to a counter, which wraps to 0 past its maximum (R99). -/
def State.add (s : State) (f : Field) (i n : Nat) : State := s.setFld f i (s.fld f i + n)

/-- Add 1 to a counter (R99). -/
def State.incr (s : State) (f : Field) (i : Nat) : State := s.add f i 1

/-- A 64-bit value held in two registers. -/
def State.fld64 (s : State) (lo hi : Field) (i : Nat) : Nat := s.fld lo i + 2 ^ 32 * s.fld hi i

/-- Set a 64-bit value held in two registers. -/
def State.setFld64 (s : State) (lo hi : Field) (i v : Nat) : State :=
  (s.setFld lo i (v % 2 ^ 32)).setFld hi i (v / 2 ^ 32)

/-- Apply `f` to the state when `b` holds. -/
def State.when (s : State) (b : Bool) (f : State → State) : State := if b then f s else s

/-- Apply `f` for each number of a list, in order. -/
def State.each (s : State) (l : List Nat) (f : State → Nat → State) : State := l.foldl f s

/-! ### Memory (R92) -/

/-- What an address that is not listed reads as: the factory idVendor and idProduct (R125, R427), erased NVM and flash and the
TCM of core 0 0xFF, every other memory 0 (log entry 7). -/
def unlisted (a : Nat) : Byte :=
  if a = 0x08000008 then 0x4E else if a = 0x08000009 then 0x2F else if a = 0x0800000A then 0x40 else if a = 0x0800000B then 0x32
  else if (0x08000000 ≤ a ∧ a < 0x08080000) ∨ (0x30000000 ≤ a ∧ a < 0x34000000)
    ∨ (0x100000000 ≤ a ∧ a < 0x100100000) then 0xFF else 0

/-- Where the byte at offset `o` of core `c`'s TCM is kept (R92: each core reaches only its own). -/
def tcmAddr (c o : Nat) : Nat := 0x100000000 + c * 0x100000 + o

/-- Where the byte at offset `o` of the Bilberry trace memory is kept (R360). -/
def bilberryAddr (o : Nat) : Nat := 0x200000000 + o

/-- Read one byte of memory. -/
def readByte (m : List Host.Cell) (a : Nat) : Byte := look (unlisted a) a m

/-- Write one byte of memory; writing what an unlisted address reads as removes the entry. -/
def writeByte (m : List Host.Cell) (a : Nat) (v : Byte) : List Host.Cell := store natLt (unlisted a) a v m

/-- The canonical form of memory: addresses rise strictly, and no entry holds what an unlisted address reads as. -/
def Memory.wf (m : List Host.Cell) : Bool := rising natLt m && m.all (fun e => decide (e.2 ≠ unlisted e.1))

/-- Read one byte as a number. -/
def State.byte (s : State) (a : Nat) : Nat := (readByte s.mem a).toNat

/-- Write bytes from an address on. -/
def State.writeBytes (s : State) (a : Nat) : List Nat → State
  | [] => s
  | b :: r => State.writeBytes { s with mem := writeByte s.mem a (BitVec.ofNat 8 b) } (a + 1) r

/-- Read `n` bytes from an address on. -/
def State.readBytes (s : State) (a n : Nat) : List Nat := (List.range n).map (fun j => s.byte (a + j))

/-- Read a 32-bit word, little-endian. -/
def State.word (s : State) (a : Nat) : Nat := ofLe (s.readBytes a 4)

/-- Write a 32-bit word, little-endian. -/
def State.writeWord (s : State) (a v : Nat) : State := s.writeBytes a (le 4 v)

/-! ### Dies, ports and domains -/

/-- The Currant of port `p` (R94). -/
def currant (p : Nat) : Nat := (p - 1) / 8

/-- The place of port `p` on its Currant. -/
def place8 (p : Nat) : Nat := (p - 1) % 8

/-- The ports of Currant `n`. -/
def portsOf (n : Nat) : List Nat := (List.range 8).map (fun k => 8 * n + k + 1)

/-- Ports 1 to 32. -/
def allPorts : List Nat := (List.range 32).map (· + 1)

/-- The ports that a 32-bit mask names, bit p − 1 for port p, in ascending order. -/
def maskPorts (m : Nat) : List Nat := allPorts.filter (fun p => m.testBit (p - 1))

/-- The DIES mask (R9). -/
def State.dies (s : State) : Nat := s.fld F.SYS_ID_DIES 0

/-- A DIES value that R9 allows. -/
def diesValid (d : Nat) : Bool :=
  (d % 16 == 1 || d % 16 == 3 || d % 16 == 7 || d % 16 == 15) && (!d.testBit 6 || d.testBit 5) && decide (d < 128)

/-- Currant `n` is fitted. -/
def State.currantFitted (s : State) (n : Nat) : Bool := decide (n < 4) && s.dies.testBit n

/-- Port `p` is a fitted downstream port (R6). -/
def State.fitted (s : State) (p : Nat) : Bool := decide (1 ≤ p ∧ p ≤ 32) && s.currantFitted (currant p)

/-- Sloe is fitted (R9). -/
def State.sloe (s : State) : Bool := s.dies.testBit 4

/-- Bilberry `k` is fitted (R9). -/
def State.bilberry (s : State) (k : Nat) : Bool := decide (k < 2) && s.dies.testBit (5 + k)

/-- Partition `k` has an upstream port (R6): P0 always, P1 to P3 with Sloe. -/
def State.hasUpstream (s : State) (k : Nat) : Bool := decide (k = 0) || (decide (k < 4) && s.sloe)

/-- Domain numbers in the order of PMU_DOMCTL: 0 AON, 1 BOOT, 2 FABRIC, 3 SERVICE, 4 CHORD, 5 TRACE, 6 UPLINK, 7 to 10
PORTS0 to PORTS3. -/
def Dom.fabric : Nat := 2
/-- SERVICE. -/
def Dom.service : Nat := 3
/-- CHORD. -/
def Dom.chord : Nat := 4
/-- TRACE. -/
def Dom.trace : Nat := 5
/-- UPLINK. -/
def Dom.uplink : Nat := 6
/-- PORTS of Currant `n`. -/
def Dom.ports (n : Nat) : Nat := 7 + n

/-- Domain `d` reads on (R65). -/
def State.domOn (s : State) (d : Nat) : Bool := s.bit F.PMU_DOMSTAT_ON 0 d

/-- Domain `d` is changing (R485). -/
def State.domChanging (s : State) (d : Nat) : Bool := s.bit F.PMU_DOMSTAT_CHANGING 0 d

/-- The PORTS domain of port `p` is on. -/
def State.portsOn (s : State) (p : Nat) : Bool := s.domOn (Dom.ports (currant p))

/-- The die that domain `d` needs is fitted (R6). -/
def State.domFitted (s : State) (d : Nat) : Bool :=
  if d = Dom.uplink then s.sloe else if 7 ≤ d then s.currantFitted (d - 7) else decide (d < 7)

/-- The parent of a domain (R65). -/
def domParent (d : Nat) : Nat := if d = Dom.trace ∨ d = Dom.uplink then Dom.fabric else if d = 1 then 0 else 1

/-- The children of a domain. -/
def domChildren (d : Nat) : List Nat := if d = Dom.fabric then [Dom.trace, Dom.uplink] else []

/-- The request bit of a domain in PMU_DOMCTL. -/
def State.domRequested (s : State) (d : Nat) : Bool :=
  if d ≤ 1 then true
  else if d = Dom.fabric then s.on F.PMU_DOMCTL_FABRIC 0
  else if d = Dom.service then s.on F.PMU_DOMCTL_SERVICE 0
  else if d = Dom.chord then s.on F.PMU_DOMCTL_CHORD 0
  else if d = Dom.trace then s.on F.PMU_DOMCTL_TRACE 0
  else if d = Dom.uplink then s.on F.PMU_DOMCTL_UPLINK 0
  else s.bit F.PMU_DOMCTL_PORTS 0 (d - 7)

/-- Write the request bit of a domain. -/
def State.setDomRequest (s : State) (d : Nat) (b : Bool) : State :=
  if d ≤ 1 then s
  else if d = Dom.fabric then s.put F.PMU_DOMCTL_FABRIC 0 b
  else if d = Dom.service then s.put F.PMU_DOMCTL_SERVICE 0 b
  else if d = Dom.chord then s.put F.PMU_DOMCTL_CHORD 0 b
  else if d = Dom.trace then s.put F.PMU_DOMCTL_TRACE 0 b
  else if d = Dom.uplink then s.put F.PMU_DOMCTL_UPLINK 0 b
  else s.putBit F.PMU_DOMCTL_PORTS 0 (d - 7) b

/-- The D2D link of Currant `n` is up (R120: state 3). -/
def State.linkUp (s : State) (n : Nat) : Bool := decide (s.fld F.D2D_LSTAT_STATE (n + 1) = 3)

/-! ### Interrupts (R384, R385) -/

/-- An edge of interrupt source `n` sets its pending bit; source 0 never pends and 184 to 255 stay low. -/
def State.irq (s : State) (n : Nat) : State :=
  if 0 < n ∧ n < 184 then s.putBit F.IC_PEND_PEND (n / 32) (n % 32) true else s

/-! ### Log (R413 to R415) -/

/-- The SYNC code of R204: 0 NONE, 1 ESTIMATED, 2 LOCKED. -/
def State.sync (s : State) : Nat := s.fld F.CHORD_STAT_SYNC 0

/-- The ID of a record that names no source: die and block code with index 0x3F (R414). -/
def blockId (die blk : Nat) : Nat := die * 4096 + blk * 64 + 0x3F

/-- Queue a hardware record with a SYNC code; a full queue of 64 drops it (R413). -/
def State.logAs (s : State) (sync ct id kind flags : Nat) (data : List Nat) : State :=
  if s.log.queue.length < 64 then
    { s with log := { s.log with queue := s.log.queue ++ [⟨ct, sync, id, kind, flags, data⟩] } }
  else
    ({ s with log := { s.log with loss := true } }).incr F.LOG_CNT_DROPS 0

/-- Queue a hardware record. -/
def State.logAt (s : State) (ct id kind flags : Nat) (data : List Nat) : State := s.logAs s.sync ct id kind flags data

/-- Queue a hardware record stamped now. -/
def State.logRec (s : State) (id kind : Nat) (data : List Nat) : State := s.logAt s.ct id kind 0 data

/-- A PORT record (R415, kind 0x20); the port engine's block code is 0x0C (log entry 11). -/
def State.logPort (s : State) (p sub cause : Nat) : State :=
  s.logRec (blockId 0 0x0C) 0x20 ([p, sub, 0, 0] ++ le 4 cause)

/-- A POWER record (kind 0x30) of the governor, block code 0x30. -/
def State.logPower (s : State) (sub : Nat) (values : List Nat) : State :=
  s.logRec (blockId 0 0x30) 0x30 ([sub, 0, 0, 0] ++ values)

/-- A TIME record (kind 0x40) of CHORD, block code 0x18. -/
def State.logTime (s : State) (sub : Nat) (values : List Nat) : State :=
  s.logRec (blockId 0 0x18) 0x40 ([sub, 0, 0, 0] ++ values)

/-- A SYSTEM record (kind 0x50) of the PMU, block code 0x01. -/
def State.logSystem (s : State) (sub : Nat) (values : List Nat) : State :=
  s.logRec (blockId 0 0x01) 0x50 ([sub, 0, 0, 0] ++ values)

/-- A record of a happening that the spec says is logged without naming its kind: SYSTEM with SUB 0, under the block's
own ID (log entry 11). -/
def State.logOther (s : State) (die blk : Nat) (values : List Nat) : State :=
  s.logRec (blockId die blk) 0x50 ([0, 0, 0, 0] ++ values)

/-! ### Notices (R204 to R207, R434) -/

/-- Queue the OVERFLOW notice once there is room (R207). -/
def NoticeQ.refill (q : NoticeQ) (ct sync : Nat) : NoticeQ :=
  if 0 < q.dropped ∧ q.items.length < 32 then
    { q with
      items := q.items ++ [⟨0xFF, sync, true, q.nseq, ct, if q.dropped < 2 ^ 32 then q.dropped else 2 ^ 32 - 1⟩]
      nseq := (q.nseq + 1) % 65536, dropped := 0, flagNext := true }
  else q

/-- Queue a notice, or drop it when the queue holds 32 (R207). -/
def NoticeQ.push (q : NoticeQ) (typ ct sync data : Nat) : NoticeQ :=
  let q := q.refill ct sync
  if q.items.length < 32 then
    { q with items := q.items ++ [⟨typ, sync, q.flagNext, q.nseq, ct, data⟩], nseq := (q.nseq + 1) % 65536, flagNext := false }
  else { q with dropped := q.dropped + 1 }

/-- The push finds no room. -/
def NoticeQ.full (q : NoticeQ) : Bool := decide (32 ≤ q.items.length)

/-- The first `n` notices leave the queue (R207). -/
def NoticeQ.pop (q : NoticeQ) (n ct sync : Nat) : NoticeQ :=
  ({ q with items := q.items.drop n, inflight := 0 }).refill ct sync

/-- Change the record of instance `k`. -/
def State.updMf (s : State) (k : Nat) (f : MfInst → MfInst) : State := { s with mf := s.mf.upd k f }

/-- Instance `k` takes notices: port 33 Enabled or Suspended, and configured (R206). -/
def State.takesNotices (s : State) (k : Nat) : Bool :=
  (decide (s.fld F.MF_STAT_PSTATE k = 4) || decide (s.fld F.MF_STAT_PSTATE k = 6)) && s.on F.MF_STAT_CONFIGURED k

/-- NOTEN of instance `k` enables a type (R205); OVERFLOW cannot be disabled. -/
def State.noticeEnabled (s : State) (k typ : Nat) : Bool :=
  decide (typ = 0xFF) || s.bit F.MF_CTL_NOTEN k (typ - 1)

/-- Queue a notice to instance `k` if it takes it (R206, R207); a queued notice asks for a wake (R208). -/
def State.noticeTo (s : State) (k typ data : Nat) : State :=
  if s.takesNotices k && s.noticeEnabled k typ then
    let s' := if ((s.mf.at k).notices.refill s.ct s.sync).full then s.incr F.MF_CNT1_NOTDROP k else s
    (s'.updMf k (fun r => { r with notices := r.notices.push typ s.ct s.sync data })).put F.MF_STAT_NOTPEND k true
  else s

/-- The channel of the target that STRAP_HIF selects: 0 SPI, 1 I2C (R429, R467). -/
def State.hostChannel (s : State) : Nat := if s.on F.TGT_STAT_ACTIVE 1 then 1 else 0

/-- NOTQ and the line BC_IRQ_N follow the notice queue and the responses of the active target (R434, R466). -/
def State.bcRefresh (s : State) : State :=
  (s.setFld F.MBX_BCSTAT_NOTQ 0 s.bcq.items.length).put F.MBX_BCSTAT_IRQ 0
    (!s.bcq.items.isEmpty || !(s.mbx.at s.hostChannel).responses.isEmpty)

/-- Queue a notice to the board controller (R434). -/
def State.noticeBc (s : State) (typ data : Nat) : State :=
  if decide (typ = 0xFF) || s.bit F.MBX_CTL_BCNOTEN 0 (typ - 1) then
    let s' := if (s.bcq.refill s.ct s.sync).full then s.incr F.MBX_BCCNT_NOTDROP 0 else s
    State.bcRefresh { s' with bcq := s.bcq.push typ s.ct s.sync data }
  else s

/-- The partition a port is assigned to, 15 for none: the nibble of PART_ASSIGN (R130). -/
def assignField (p : Nat) : Field :=
  match place8 p with
  | 0 => F.PART_ASSIGN_PORT0 | 1 => F.PART_ASSIGN_PORT1 | 2 => F.PART_ASSIGN_PORT2 | 3 => F.PART_ASSIGN_PORT3
  | 4 => F.PART_ASSIGN_PORT4 | 5 => F.PART_ASSIGN_PORT5 | 6 => F.PART_ASSIGN_PORT6 | _ => F.PART_ASSIGN_PORT7

/-- The partition of port `p`, or 15. -/
def State.partOf (s : State) (p : Nat) : Nat := s.fld (assignField p) (currant p)

/-- The reset of a port of partition `k` completes: address 0 is its until another completes (R351). -/
def State.resetDone (s : State) (k p : Nat) : State :=
  { s with trc := { s.trc with lastReset := store natLt 0 k p s.trc.lastReset } }

/-- The addresses that the trace engine learned for port `p` are cleared (R351). -/
def State.traceForget (s : State) (p : Nat) : State :=
  { s with trc := { s.trc with ports := s.trc.ports.filter (fun e => decide (e.2 ≠ p)) } }

/-- Write the assignment nibble of port `p`. -/
def State.setPart (s : State) (p k : Nat) : State := s.setFld (assignField p) (currant p) k

/-- Raise a notice (R206): PORT notices go to the instance of the port's partition and to instance 0, every other type
but RESPONSE to every instance; the board controller is routed as instance 0 (R434). -/
def State.notice (s : State) (typ data : Nat) : State :=
  let s := if typ = 2 then
      let k := s.partOf (data % 256)
      let s := if k < 4 ∧ k ≠ 0 then s.noticeTo k typ data else s
      s.noticeTo 0 typ data
    else s.each [0, 1, 2, 3] (fun s k => s.noticeTo k typ data)
  s.noticeBc typ data

/-! ### Fault events (R404) -/

/-- The fault source of a Currant port: block code `blk`, index k (R402). -/
def portSource (p blk : Nat) : Nat := (1 + currant p) * 4096 + blk * 64 + place8 p

/-- Change the record of fault source `id`. -/
def State.updFc (s : State) (id : Nat) (f : FcSource → FcSource) : State :=
  { s with fc := { s.fc with sources := Tbl.upd s.fc.sources id f } }

/-- The record of fault source `id`. -/
def State.fcAt (s : State) (id : Nat) : FcSource := Tbl.at s.fc.sources id

/-- The domain that a fault source of die `d` lies in is on, and the die is fitted (R404). -/
def State.dieOn (s : State) (d : Nat) : Bool :=
  if d = 0 then true
  else if d = 1 then s.currantFitted 0
  else if d ≤ 4 then s.currantFitted (d - 1) && s.domOn (Dom.ports (d - 1))
  else if d = 5 then s.sloe && s.domOn Dom.uplink
  else s.bilberry (d - 6) && s.domOn Dom.trace

/-- A source raises an event toward the collector, where FAULT_EVENT counts it; a source in a wire fault is not seen
(R404). -/
def State.raise (s : State) (id w0 w1 : Nat) : State :=
  if (s.fcAt id).wire then s else { s with fc := { s.fc with raised := s.fc.raised ++ [⟨id, w0, w1⟩] } }

/-- A port source raises an event with ADC_PV and ADC_PI as its detail words (R415). -/
def State.raisePort (s : State) (p blk : Nat) : State :=
  s.raise (portSource p blk) (s.fld F.ADC_PV_VBUS p + 65536 * s.fld F.ADC_PV_VOUT p)
    (s.fld F.ADC_PI_IBUS p + 65536 * s.fld F.ADC_PI_IPEAK p)

/-- The ports that running mailbox commands work on (R430). -/
def State.cmdPorts (s : State) : List Nat := s.mbx.flatMap (fun e => e.2.ports)

/-! ### Time (R83, R85) -/

/-- One RTC tick in the units of `Power.rtcPart`: 234,375/8 root-clock ticks of 800,000,000 units each (R85). -/
def rtcUnit : Nat := 234375 * 100000000

/-- The units that the RTC gathers in a root-clock tick: RTC_TRIM corrects its rate by 0.01 ppm each (R90; log entry 150). -/
def State.rtcRate (s : State) : Nat := ((800000000 : Int) + 8 * toInt 16 (s.fld F.RTC_TRIM_TRIM 0)).toNat

/-- The root-clock ticks until the RTC has counted `n` ticks more. -/
def State.untilRtc (s : State) (n : Nat) : Nat := (n * rtcUnit - s.power.rtcPart + (s.rtcRate - 1)) / s.rtcRate

/-- CT runs forward by `n` ticks, and the RTC with it at its trimmed rate (R85, R90). -/
def State.advance (s : State) (n : Nat) : State :=
  let part := s.power.rtcPart + s.rtcRate * n
  { s with
    ct := (s.ct + n) % 2 ^ 64
    power := { s.power with
      rtcPart := part % rtcUnit, rtcCount := (s.power.rtcCount + part / rtcUnit) % 2 ^ 48, resetAge := s.power.resetAge + n } }

/-! ### Stops -/

/-- A command whose result the spec calls unpredictable under rule `r` stops; any other goes on. -/
def orUnpredictable (r : Nat) (t : State) : Host.Outcome State Fault Refusal :=
  if r = 0 then .next t else .fault (.unpredictable r)

/-! ### Free values -/

/-- Draw a fresh number that the spec leaves open (log entry 3). -/
def State.drawNat (s : State) : Nat × State := (Config.freeNat s.free, { s with free := s.free + 1 })

/-- Fresh bytes that the spec leaves open (log entry 3). -/
def State.freeBytes (s : State) (n : Nat) : List Nat × State :=
  ((List.range n).map (fun j => Config.freeNat (s.free + j) % 256), { s with free := s.free + n })

/-- `n` fresh bytes that the spec leaves open stand from address `a` on. -/
def State.writeFree (s : State) (a n : Nat) : State :=
  let (l, s) := s.freeBytes n
  s.writeBytes a l

end Sys2Proof.Machine
end

