-- ==== Sys2Proof/Machine/Flags.lean ====
section
/-! DEFINITION. The state codes of the part's state machines as named states, and the status words computed from
them. -/

namespace Sys2Proof.Machine

/-- The states of a port engine and of port 33 (R146, R193). -/
inductive Dpe where
  | poweredOff | disconnected | disabled | resetting | enabled | transmit | suspended | resuming | sendEor | restartS
  | restartE | l1 | test | isolated | quarantined | migrating
deriving DecidableEq, Repr

/-- The code of a port engine state (R146). -/
def Dpe.code : Dpe → Nat
  | .poweredOff => 0 | .disconnected => 1 | .disabled => 2 | .resetting => 3 | .enabled => 4 | .transmit => 5
  | .suspended => 6 | .resuming => 7 | .sendEor => 8 | .restartS => 9 | .restartE => 10 | .l1 => 11 | .test => 12
  | .isolated => 13 | .quarantined => 14 | .migrating => 15

/-- The states of a Type-C port (R221). -/
inductive Cc where
  | disabled | errorRecovery | unattachedSrc | attachWaitSrc | attachedSrc | unattachedSnk | attachWaitSnk | attachedSnk
  | audioAccessory | debugAccessory | ccOvHold
deriving DecidableEq, Repr

/-- The code of a Type-C state (R221). -/
def Cc.code : Cc → Nat
  | .disabled => 0 | .errorRecovery => 1 | .unattachedSrc => 2 | .attachWaitSrc => 3 | .attachedSrc => 4
  | .unattachedSnk => 5 | .attachWaitSnk => 6 | .attachedSnk => 7 | .audioAccessory => 8 | .debugAccessory => 9
  | .ccOvHold => 10

/-- The states of a power stage (R287). -/
inductive Pwr where
  | off | discharge | softstart | ramp | qual | on | transition | retryWait | latched | sink
deriving DecidableEq, Repr

/-- The code of a power stage state (R287). -/
def Pwr.code : Pwr → Nat
  | .off => 0 | .discharge => 1 | .softstart => 2 | .ramp => 3 | .qual => 4 | .on => 5 | .transition => 6
  | .retryWait => 7 | .latched => 8 | .sink => 9

/-- Port `p`'s engine is in state `d`. -/
def State.dpeIs (s : State) (p : Nat) (d : Dpe) : Bool := decide (s.fld F.DPE_STATE_STATE p = d.code)

/-- Port `p`'s engine is in one of the states listed. -/
def State.dpeIn (s : State) (p : Nat) (l : List Dpe) : Bool := l.any (s.dpeIs p)

/-- Port `p`'s Type-C logic is in state `c`; ports 33 to 36 are U0 to U3. -/
def State.ccIs (s : State) (p : Nat) (c : Cc) : Bool := decide (s.fld F.TCPD_CCSTAT_STATE p = c.code)

/-- Port `p`'s Type-C logic is in one of the states listed. -/
def State.ccIn (s : State) (p : Nat) (l : List Cc) : Bool := l.any (s.ccIs p)

/-- Port `p`'s power stage is in state `d`. -/
def State.pwrIs (s : State) (p : Nat) (d : Pwr) : Bool := decide (s.fld F.PWR_PSTAT_STATE p = d.code)

/-- Port `p`'s power stage is in one of the states listed. -/
def State.pwrIn (s : State) (p : Nat) (l : List Pwr) : Bool := l.any (s.pwrIs p)

/-- The states of codes 0x2 to 0xB, from which a device can disconnect and a port can migrate (R138, R148). -/
def deviceStates : List Dpe :=
  [.disabled, .resetting, .enabled, .transmit, .suspended, .resuming, .sendEor, .restartS, .restartE, .l1]

/-- The logical power that port `p` has in partition `k` (R127). -/
def State.logPwrIn (s : State) (k p : Nat) : Bool := decide (k < 4) && s.bit F.PART_HOSTPWR_PWR k (p - 1)

/-- The logical power of port `p` in the partition that holds it. -/
def State.logPwr (s : State) (p : Nat) : Bool := s.logPwrIn (s.partOf p) p

/-- An isolation cause of port `p` stands: REQ (DPE_CTL.ISOLATE) or OV (DSW_PSTAT.OVHOLD) (R159). -/
def State.isoCause (s : State) (p : Nat) : Bool := s.on F.DPE_CTL_ISOLATE p || s.on F.DSW_PSTAT_OVHOLD p

/-- The quarantine self-test of port `p` is in its on-resistance step, for which the Currant itself closes the switch
(R155, R164). -/
def State.selfTestCloses (s : State) (p : Nat) : Bool :=
  s.on F.DSW_PSTAT_STBUSY p && decide ((s.dpe.at p).stStep = 4) && s.on F.DSW_PSTAT_QUAR p && !s.on F.DSW_PSTAT_OVHOLD p

/-- The isolation switch of port `p` is closed (R32, R155). -/
def State.switchClosed (s : State) (p : Nat) : Bool :=
  s.portsOn p && (s.selfTestCloses p || (s.linkUp (currant p) && s.domOn Dom.fabric && !s.isoCause p
    && (s.dpeIn p (.disconnected :: .test :: .migrating :: deviceStates))))

/-- Between step 2 of its migration and step 3 the port is an other port in the source (R138). -/
def State.midway (s : State) (p : Nat) : Bool := (s.migs.at p).active && decide ((s.migs.at p).step = 2)

/-- Port `p` answers as a port assigned to partition `k`, not as an other port (R128). -/
def State.owns (s : State) (k p : Nat) : Bool :=
  decide (k < 4) && s.fitted p && decide (s.partOf p = k) && !s.midway p

/-- wPortStatus of port `p` as its partition reports it (R146; bit places of USB 2.0, log entry 12).  In Test
PORT_CONNECTION tells whether a device was seen, and Test_Force_Enable enables the port (R154; log entry 130). -/
def State.wPortStatus (s : State) (p : Nat) : Nat :=
  if s.partOf p < 4 ∧ s.portsOn p = true ∧ s.midway p = false then
    let conn := s.dpeIn p (.migrating :: deviceStates) || (s.dpeIs p .test && s.on F.DPE_STATE_DEV p)
    let en := s.dpeIn p [.enabled, .transmit, .suspended, .resuming, .sendEor, .restartS, .restartE, .l1]
      || (s.dpeIs p .test && decide ((s.dpe.at p).testMode = 5))
    let susp := s.dpeIn p [.suspended, .resuming, .sendEor, .restartS]
    let power := if s.dpeIn p [.isolated, .quarantined] then s.logPwr p else !s.dpeIs p .poweredOff
    bit01 conn + 2 * bit01 en + 4 * bit01 susp + 8 * bit01 (s.pwrIs p .latched) + 16 * bit01 (s.dpeIs p .resetting)
      + 32 * bit01 (s.dpeIs p .l1) + 256 * bit01 power
      + 512 * bit01 (conn && decide (s.fld F.DPE_STATE_SPEED p = 1))
      + 1024 * bit01 (en && decide (s.fld F.DPE_STATE_SPEED p = 3)) + 2048 * bit01 (s.dpeIs p .test)
  else 0

/-- PORT_CONNECTION of port `p` reads 1. -/
def State.connected (s : State) (p : Nat) : Bool := (s.wPortStatus p).testBit 0

/-- The bits of wPortChange (USB 2.0, log entry 12). -/
def cConnection : Nat := 0
/-- C_PORT_ENABLE. -/
def cEnable : Nat := 1
/-- C_PORT_SUSPEND. -/
def cSuspend : Nat := 2
/-- C_PORT_OVER_CURRENT. -/
def cOverCurrent : Nat := 3
/-- C_PORT_RESET. -/
def cReset : Nat := 4
/-- C_PORT_L1. -/
def cL1 : Nat := 5

/-- The status fields that follow the engine's state: PART, LOGPWR, ISO_CAUSE, SWCLOSED, wPortStatus and the switch
(R155, R170, R171); with FABRIC off the switch alone. -/
def State.refresh (s : State) (p : Nat) : State :=
  let s := s.put F.DSW_PSTAT_SW p (s.switchClosed p)
  if s.domOn Dom.fabric then
    let s := s.setFld F.DPE_STATE_PART p (s.partOf p)
    let s := s.put F.DPE_STATE_LOGPWR p (s.logPwr p)
    let s := s.setFld F.DPE_STATE_ISO_CAUSE p (bit01 (s.on F.DPE_CTL_ISOLATE p) + 2 * bit01 (s.on F.DSW_PSTAT_OVHOLD p))
    let s := s.put F.DPE_STATE_SWCLOSED p (s.switchClosed p)
    let s := if s.partOf p < 4 then s else s.setFld F.DPE_PORTSTAT_CHANGE p 0
    s.setFld F.DPE_PORTSTAT_STATUS p (s.wPortStatus p)
  else s

/-- Set a change bit of an assigned port (R128). -/
def State.change (s : State) (p b : Nat) : State :=
  if s.partOf p < 4 then s.putBit F.DPE_PORTSTAT_CHANGE p b true else s

end Sys2Proof.Machine
end

