-- ==== Sys2Proof/Machine/PortOps.lean ====
section
/-! DEFINITION. The operations that the Type-C logic, the policy engine, the power stage and the governor share on one
port (R215 to R313). -/

namespace Sys2Proof.Machine

/-! ### Records -/

/-- Change the Type-C record of port `p`. -/
def State.updCc (s : State) (p : Nat) (f : CcPort → CcPort) : State := { s with cc := s.cc.upd p f }

/-- Change the policy record of port `p`. -/
def State.updPd (s : State) (p : Nat) (f : PdPort → PdPort) : State := { s with pd := s.pd.upd p f }

/-- Change the power stage record of port `p`. -/
def State.updPwr (s : State) (p : Nat) (f : PwrPort → PwrPort) : State := { s with pwr := s.pwr.upd p f }

/-- Change the governor's record of port `p`. -/
def State.updGov (s : State) (p : Nat) (f : GovPort → GovPort) : State := { s with gov := s.gov.upd p f }

/-- Port `p` has its Currant fitted and powered. -/
def State.live (s : State) (p : Nat) : Bool := s.fitted p && s.portsOn p

/-- The role of port `p`: 0 SRC, 1 DRP, 2 SNK; ROLE 3 acts as 0 (R216). -/
def State.role (s : State) (p : Nat) : Nat := if s.fld F.TCPD_CCCFG_ROLE p = 3 then 0 else s.fld F.TCPD_CCCFG_ROLE p

/-- VBUS of port `p` is below 0.8 V (R221). -/
def State.vsafe0 (s : State) (p : Nat) : Bool := s.on F.TCPD_CCSTAT_VSAFE0 p

/-- The discharge sink of port `p` is to be on (R278, R288): VBUS at or above 0.8 V with the stage discharging, or more than
3 % above the setpoint of a downward transition. -/
def State.dischWanted (s : State) (p : Nat) : Bool :=
  let r := s.pwr.at p
  (s.pwrIn p [.discharge, .retryWait, .latched] && !s.vsafe0 p)
    || (s.pwrIs p .transition && decide (10 * r.vset < r.setpoint) && decide (103 * r.setpoint < 1000 * (s.cc.at p).vbus))

/-- The discharge sink follows (R288). -/
def State.dischSink (s : State) (p : Nat) : State := s.updPwr p (fun r => { r with dischOn := s.dischWanted p })

/-- VBUS of port `p` is measured, in 10 mV (R297). -/
def State.setVbus (s : State) (p v : Nat) : State :=
  let s := (s.updCc p (fun r => { r with vbus := v })).put F.TCPD_CCSTAT_VSAFE0 p (decide (v < 80))
  if p ≤ 32 then (s.setFld F.ADC_PV_VBUS p v).dischSink p else s

/-- An explicit contract is in force on port `p` (R272). -/
def State.contracted (s : State) (p : Nat) : Bool := decide (s.fld F.TCPD_CONTRACT_OBJPOS p ≠ 0)

/-- Which of SOP, SOP′ and SOP″ a message goes to. -/
def PdMsg.sop : PdMsg → Nat
  | .discoverIdentity n => n
  | .raw n _ _ _ _ => n
  | .chunkRequest n _ _ => n
  | .chunk n _ _ _ _ => n
  | _ => 0

/-- The MessageID counter of SOP `n` moves on (R241). -/
def nextId (l : List Nat) (n : Nat) : List Nat :=
  [0, 1, 2].map (fun i => if i = n then (l.getD i 0 + 1) % 8 else l.getD i 0)

/-- The port sends a message, with the next MessageID of its SOP (R241). -/
def State.send (s : State) (p : Nat) (m : PdMsg) : State :=
  s.updPd p (fun r => { r with out := r.out ++ [m], txIds := nextId r.txIds m.sop })

/-- The port sends an extended message: its first 26 bytes go out, and the chunks after them as the partner asks (R243). -/
def State.sendLong (s : State) (p : Nat) (m : PdMsg) (typ : Nat) (bytes : List Nat) : State :=
  (s.send p m).updPd p (fun r => { r with txExt := if 26 < bytes.length then some (m.sop, typ, bytes) else none })

/-- A new event of the port: nothing sent yet. -/
def State.hush (s : State) (p : Nat) : State := s.updPd p (fun r => { r with out := [] })

/-- The interrupt source of a port's Type-C and protocol layer (R384). -/
def State.ccIrq (s : State) (p : Nat) : State := s.irq (if p ≤ 32 then 31 + p else p - 32)

/-! ### The governor's account (R307, R308) -/

/-- The power that launched entries hold for a port and that is not spent, in 10 mW (R342). -/
def GovPort.credit (g : GovPort) : Nat := (g.credits.map (·.2)).sum

/-- Spend `n` of the power held for a port, first from the entry that launched first (R342). -/
def takeCredit : List (Nat × Nat) → Nat → List (Nat × Nat)
  | [], _ => []
  | e :: r, n => if e.2 ≤ n then takeCredit r (n - e.2) else (e.1, e.2 - n) :: r

/-- The cores run system firmware: grants and accounts are made (R308). -/
def State.firmware (s : State) : Bool := s.power.boot == .firmware

/-- STRAP_BOOT (R43, R447). -/
def State.strapBoot (s : State) : Nat := s.fld F.SYS_STRAP_STRAPS 0 % 4

/-- The boot ROM waits for an image over U0 (R43, R449). -/
def State.romUsb (s : State) : Bool := s.power.boot == .waitImage && decide (s.strapBoot = 3)

/-- Code runs on core 0 that configures FABRIC: system firmware, or the boot ROM for an image over U0. -/
def State.serves (s : State) : Bool := s.firmware || s.romUsb

/-- The power in 10 mW that port `p` counts for in PALLOC (R307). -/
def State.alloc (s : State) (p : Nat) : Nat :=
  if !s.live p || s.ccIs p .disabled || s.pwrIs p .sink || decide (s.role p = 2) then 0
  else
    let g := s.gov.at p
    if g.grant ≠ 0 then g.grant else max 250 g.rpGrant

/-- BUDGET as applied, in W (R316). -/
def State.budget (s : State) : Nat := clamp 1 10000 (s.fld F.GOV_BUDGET_BUDGET 0)

/-- The power that timed actions reserve, in 10 mW: armed entries, and what launched ones have not spent (R307, R342). -/
def State.powerHeld (s : State) : Nat :=
  (s.tat.map (fun e => if e.2.st = 1 then e.2.resv else 0)).sum + (s.gov.map (fun e => e.2.credit)).sum

/-- PALLOC in 10 mW (R307): every port's share and every reservation. -/
def State.palloc (s : State) : Nat := (allPorts.map s.alloc).sum + s.powerHeld

/-- The governor gives port `p` a grant of `w` in 10 mW in place of the earlier one (R253, R306, R307, R313). -/
def State.grantable (s : State) (p w : Nat) : Bool :=
  s.firmware && !s.on F.GOV_STAT_BRDOFF 0 && !s.on F.GOV_STAT_SHEDDING 0
    && decide (s.palloc - s.alloc p - (s.gov.at p).credit + w ≤ 100 * s.budget)

/-- PCAP of port `p` in W by R308, held lower by R310 and R311, when PALLOC is `total`; what a launched entry holds for
the port counts as its own (R269, R342; log entry 18). -/
def State.pcapOf (s : State) (total p : Nat) : Nat :=
  let c := min 240 ((s.alloc p + (s.gov.at p).credit + 100 * s.budget - total) / 100)
  min c (min ((s.gov.at p).sagHold.getD 240) ((s.gov.at p).shedHold.getD 240))

/-- The account follows a change: PALLOC, PCAP of every port, and the pulse of freed budget (R307, R308, R384). -/
def State.govRefresh (s : State) : State :=
  if s.firmware then
    let total := s.palloc
    let old := s.fld F.GOV_PBRD_PALLOC 0
    let s := s.setFld F.GOV_PBRD_PALLOC 0 (total / 100)
    let s := if total / 100 < old then s.irq 12 else s
    s.each allPorts (fun s p => if s.live p then s.setFld F.TCPD_GRANT_PCAP p (s.pcapOf total p) else s)
  else s

/-- The Rp levels of R219: power in 10 mW of level 0, 1 or 2. -/
def rpPower (l : Nat) : Nat := if l = 0 then 250 else if l = 1 then 750 else 1500

/-- RPLVL as applied: 3 acts as 2. -/
def State.rplvl (s : State) (p : Nat) : Nat := min 2 (s.fld F.TCPD_CCCFG_RPLVL p)

/-- The highest level from `l` down that the governor grants (R219). -/
def State.rpGranted (s : State) (p : Nat) : Nat → Nat
  | 0 => 0
  | l + 1 => if s.grantable p (rpPower (l + 1)) then l + 1 else s.rpGranted p l

/-- Evaluate the Rp level of port `p` and present it (R219). -/
def State.rpEvaluate (s : State) (p : Nat) : State :=
  let l := s.rpGranted p (s.rplvl p)
  let s := s.updGov p (fun g => { g with rpGrant := rpPower l })
  let s := s.setFld F.TCPD_CCSTAT_RPOUT p (l + 1)
  (if l < s.rplvl p then s.incr F.TCPD_CNT3_RPCAPS p else s).govRefresh

/-- Present no Rp. -/
def State.rpOff (s : State) (p : Nat) : State :=
  (s.setFld F.TCPD_CCSTAT_RPOUT p 0).updGov p (fun g => { g with rpGrant := 0 })

/-- What entry `i` of the timed action table still reserves, in 10 mW: what it holds while ARMED, and once launched what the
accounts of its ports hold and have not spent (R335, R342). -/
def State.entryHolds (s : State) (i : Nat) : Nat :=
  if (s.tat.at i).st = 1 then (s.tat.at i).resv
  else ((s.gov.map (fun e => ((e.2.credits.filter (fun c => decide (c.1 = i))).map (·.2)).sum)).sum)

/-- Word 7 of entry `i` (R335): STATE, and RESVW in whole W, rounded up (DESIGN CHOICE, log entry 165). -/
def State.word7 (s : State) (i : Nat) : Nat := (s.tat.at i).st + 8 * ((s.entryHolds i + 99) / 100)

/-- The RESV register follows the reservations of armed entries and what launched ones have not spent, and so does word 7 of the
entry that TAT_RD shows (R307, R342, R349). -/
def State.resvRefresh (s : State) : State :=
  (s.setFld F.GOV_RESV_RESV 0 ((s.powerHeld + 99) / 100)).setFld F.TAT_RD_WORD 7 (s.word7 (s.fld F.TAT_RDSEL_INDEX 0))

/-- What timed actions reserved for port `p` is released (R21). -/
def State.shareGone (s : State) (p : Nat) : State :=
  { s with tat := s.tat.map (fun e =>
      let sh := e.2.shares.filter (fun x => x.1 != p)
      (e.1, { e.2 with
        shares := sh, resv := e.2.resv - ((e.2.shares.filter (fun x => x.1 == p)).map (·.2)).sum })) }

/-- A grant is paid first from what a timed action reserved for the port (R269, R342). -/
def State.spendCredit (s : State) (p more : Nat) : State :=
  if (s.gov.at p).credit = 0 then s
  else (s.updGov p (fun g => { g with credits := takeCredit g.credits more })).resvRefresh

/-! ### Current levels (R281) -/

/-- IREF in mA. -/
def State.iref (s : State) (p : Nat) : Nat :=
  if s.contracted p || s.pwrIs p .sink then 10 * s.fld F.TCPD_CONTRACT_CURR p
  else match s.fld F.TCPD_CCSTAT_RPOUT p with
    | 2 => 1500 | 3 => 3000 | _ => 500

/-- ICEIL in mA (R232). -/
def State.iceil (s : State) (p : Nat) : Nat := if s.on F.TCPD_CABLE_CEIL5A p then 5000 else 3000

/-- ILIM_EFF in 50 mA, for a clamp in 50 mA. -/
def State.ilimEff (s : State) (p clampTo : Nat) : Nat :=
  let m := min (min (50 * clamp 10 150 (s.fld F.PWR_LIM_ILIM p)) (s.iref p + 50 * s.fld F.PWR_LIM_IMARGIN p))
    (min (s.iceil p) (50 * clampTo))
  max 10 ((m + 49) / 50)

/-- IRAMP_EFF in mA. -/
def State.irampEff (s : State) (p : Nat) : Nat := min (50 * clamp 10 150 (s.fld F.PWR_LIM_IRAMP p)) (s.iceil p)

/-- ICLAMP in 50 mA: the smaller of the clamps that stand, 7.5 A when none does (R311). -/
def GovPort.clamp (g : GovPort) : Nat := min (g.sagClamp.getD 150) (g.shedClamp.getD 150)

/-- PWR_LEVELS follows (R281). -/
def State.levels (s : State) (p : Nat) : State :=
  if s.live p then
    let c := (s.gov.at p).clamp
    let lim := s.ilimEff p c
    let base := if s.pwrIn p [.softstart, .ramp] then s.irampEff p else 50 * lim
    let s := (s.setFld F.PWR_LEVELS_ICLAMP p c).setFld F.PWR_LEVELS_ILIM_EFF p lim
    let s := s.setFld F.PWR_LEVELS_IPK p (min 150 (75 * lim / 50))
    s.setFld F.PWR_LEVELS_IFT p (min 150 (2 * base / 100))
  else s

/-- The active level of port `p` in mA (R281). -/
def State.activeLevel (s : State) (p : Nat) : Nat :=
  if s.pwrIn p [.softstart, .ramp] then s.irampEff p
  else if s.pwrIs p .qual || (s.pwrIn p [.on, .transition, .sink] && s.on F.PWR_PSTAT_OVLDX p) then
    50 * s.fld F.PWR_LEVELS_ILIM_EFF p
  else 50 * s.fld F.PWR_LEVELS_IPK p

/-- A shunt current of `i` mA, positive out of the port, as a magnitude in the direction of power flow (R281, R292). -/
def State.flow (s : State) (p : Nat) (i : Int) : Nat := if s.pwrIs p .sink then (-i).toNat else i.toNat

/-- The priority class of port `p` (R308). -/
def State.classOf (s : State) (p : Nat) : Nat :=
  let i := (p - 1) % 16
  let f := if p ≤ 16 then F.GOV_PRIO0_CLASS0 else F.GOV_PRIO1_CLASS0
  s.fld { f with id := f.id + 2 * i, lo := 2 * i } 0

/-- FOLD of a class as applied: above 16 acts as 16 (R316). -/
def State.foldOf (s : State) (c : Nat) : Nat :=
  min 16 (s.fld (match c with
    | 0 => F.GOV_FOLD_FOLD0 | 1 => F.GOV_FOLD_FOLD1 | 2 => F.GOV_FOLD_FOLD2 | _ => F.GOV_FOLD_FOLD3) 0)

/-- Port `p` takes the clamp of a sag (R309). -/
def State.sagFold (s : State) (p : Nat) : State :=
  let free := s.ilimEff p 150
  (s.updGov p (fun g => { g with sagClamp := some (max 10 (free * s.foldOf (s.classOf p) / 16)) })).levels p

/-! ### Power stage states (R287) -/

/-- The states from SOFTSTART to TRANSITION. -/
def sourcing : List Pwr := [.softstart, .ramp, .qual, .on, .transition]

/-- The stage enters a state: STATE, power-good, gate, limit, buck gates, discharge sink, and the interrupt.  A gate that
regulates the current is not fully on (R280, R283, R286; log entry 143). -/
def State.setPwr (s : State) (p : Nat) (d : Pwr) : State :=
  let changed := !s.pwrIs p d
  let s := s.setFld F.PWR_PSTAT_STATE p d.code
  let s := s.put F.PWR_PSTAT_PG p (d == .on || d == .transition)
  let s := s.put F.PWR_PSTAT_GATEON p
    ((d == .qual || d == .on || d == .transition || d == .sink) && !s.on F.PWR_PSTAT_LIMIT p)
  let s := if s.pwrIn p [.ramp, .qual, .on, .transition, .sink] then s
    else (s.put F.PWR_PSTAT_LIMIT p false).put F.PWR_PSTAT_CL p false
  let s := (if sourcing.contains d then s else s.put F.PWR_PSTAT_DROPOUT p false).updPwr p (fun r => { r with
    gatesLow := d == .sink || ((d == .retryWait || d == .latched) && r.gatesLow)
    sinkTarget := if d == .sink then r.sinkTarget else 0 })
  let s := s.dischSink p
  (if changed then (s.irq (63 + p)).updPwr p (fun r => { r with dischOver := false }) else s).levels p

/-- The CC logic asks for source VBUS (R287). -/
def State.vbusAsked (s : State) (p : Nat) : Bool :=
  s.ccIn p [.attachedSrc, .debugAccessory] || (s.pwr.at p).swapOn

/-- A VBUS request stands: asked for, and no off-cause (R287). -/
def State.vbusRequest (s : State) (p : Nat) : Bool :=
  s.live p && !s.domChanging (Dom.ports (currant p)) && s.vbusAsked p && !s.on F.PWR_PCTL_VOFF p && !s.on F.DSW_PSTAT_QUAR p && !(s.pwr.at p).offInterval
    && !(s.pwr.at p).d2dOff

/-- The stage follows a withdrawn request (R287): a normal turn-off, or the end of RETRYWAIT. -/
def State.pwrUpdate (s : State) (p : Nat) : State :=
  if s.pwrIn p sourcing && !s.vbusRequest p then s.setPwr p .discharge
  else if s.pwrIs p .retryWait && !s.vbusAsked p && s.vsafe0 p then s.setPwr p .off
  else s.levels p

/-- The output fuse is off and the request gone (R161). -/
def State.vbusOff (s : State) (p : Nat) : State := s.pwrUpdate p

/-- VSET_EFF in 10 mV as R274 computes it. -/
def State.vsetEff (s : State) (p : Nat) : Nat :=
  if s.contracted p || (s.pd.at p).accepted.isSome then
    clamp 330 (if s.on F.TCPD_CABLE_CEILEPR p then 4800 else 2000) (s.fld F.PWR_VSET_VSET p)
  else 500

/-- VSET_EFF is computed anew; in ON a change starts a transition, in which the setpoint moves to it (R274, R278, R287). -/
def State.vsetUpdate (s : State) (p : Nat) : State :=
  let v := s.vsetEff p
  if (s.pwr.at p).vset = v then s
  else
    let ramps := s.pwrIn p [.on, .transition]
    let s := s.updPwr p (fun r => { r with vset := v, setpoint := if ramps then r.setpoint else 10 * v })
    if s.pwrIs p .on then s.setPwr p .transition else s

/-- The sink path of port `p` opens (R262, R263, R266, R267). -/
def State.sinkOpen (s : State) (p : Nat) : State :=
  let s := ((s.put F.TCPD_SINKSTAT_SKGON p false).put F.TCPD_SINKSTAT_PDLIM p false).setFld F.TCPD_SINKSTAT_IMEAS p 0
  if s.pwrIs p .sink then s.setPwr p .off else s

/-! ### VCONN and cable identity (R229, R233) -/

/-- A cable discovery that runs is given up: its conditions have ended (R230). -/
def State.discEnd (s : State) (p : Nat) : State :=
  (s.put F.TCPD_CABLE_BUSY p false).updCc p (fun r => { r with attempts := 0, discWait := false })

/-- VCONN of port `p` goes off, and with it a cable discovery ends (R230). -/
def State.vconnOff (s : State) (p : Nat) : State :=
  (((s.put F.TCPD_VCSTAT_VCON p false).setFld F.TCPD_VCSTAT_VCCUR p 0).put F.TCPD_VCSTAT_VCREV p false).discEnd p

/-- The conditions of R229 for VCONN, the Ra condition apart. -/
def State.vconnAllowed (s : State) (p : Nat) : Bool :=
  s.ccIs p .attachedSrc && s.on F.TCPD_CCCFG_VCONN_EN p && s.on F.PMU_RAILSTAT_VCONN_OK 0
    && !s.on F.TCPD_VCSTAT_VCFAULT p

/-- VCONN goes on, on the pin that is not POLARITY (R227). -/
def State.vconnOn (s : State) (p : Nat) : State :=
  (s.put F.TCPD_VCSTAT_VCON p true).put F.TCPD_VCSTAT_VCPIN p (!s.on F.TCPD_CCSTAT_POLARITY p)

/-- Apply VCONN where R229 permits it. -/
def State.vconnTry (s : State) (p : Nat) : State :=
  if s.vconnAllowed p && s.on F.TCPD_CCSTAT_CABLE_RA p && s.on F.TCPD_PDSTAT_VCSRC p then s.vconnOn p else s

/-- The cable identity is cleared: every TCPD_CABLE field returns to 0 (R233). -/
def State.identityClear (s : State) (p : Nat) : State :=
  let s := if s.on F.TCPD_CABLE_VALID p then s.ccIrq p else s
  let s := ((s.setFld F.TCPD_CABLE_VID p 0).setFld F.TCPD_CABLE_CEILEPR p 0).setFld F.TCPD_CABLE_CEIL5A p 0
  let s := ((s.setFld F.TCPD_CABLE_NOMARK p 0).setFld F.TCPD_CABLE_EPR p 0).setFld F.TCPD_CABLE_VMAX p 0
  let s := ((s.setFld F.TCPD_CABLE_ICAB p 0).setFld F.TCPD_CABLE_SOP2 p 0).setFld F.TCPD_CABLE_ACTIVE p 0
  let s := (s.setFld F.TCPD_CABLE_BUSY p 0).setFld F.TCPD_CABLE_VALID p 0
  s.updCc p (fun r => { r with attempts := 0, discWait := false })

/-! ### Contracts -/

/-- The explicit contract of port `p` ends, and with it what is accepted; Rp is given back to the CC logic while the
partner stays attached (R219, R274). -/
def State.contractEnd (s : State) (p : Nat) : State :=
  let had := s.contracted p
  let s := ((s.setFld F.TCPD_CONTRACT_OBJPOS p 0).setFld F.TCPD_CONTRACT_VOLT p 0).setFld F.TCPD_CONTRACT_CURR p 0
  let s := ((s.setFld F.TCPD_PDSTAT_PTYPE p 0).put F.TCPD_PDSTAT_EPRMODE p false).put F.TCPD_PDSTAT_AMS p false
  let s := (s.put F.TCPD_CCSTAT_CONTRACT p false).setFld F.TCPD_GRANT_GRANT p 0
  let s := s.updPd p (fun r => { r with
    accepted := none, volt := 0, eprCapable := false, eprPending := false, eprLeaving := false, lastWait := false,
    awaiting := false, heldReady := false, sinkOffer := none, sinkAccepted := false, ownAms := false, own := .none,
    trimmed := false })
  let s := s.updGov p (fun g => { g with grant := 0 })
  let s := if had && decide (p ≤ 32) then s.notice 2 (p + 256 * s.fld F.DPE_STATE_STATE p + 0x1000) else s
  let s := if had && s.ccIs p .attachedSrc then s.rpEvaluate p else s.govRefresh
  if p ≤ 32 then (s.vsetUpdate p).levels p else s

/-- What a connection held is forgotten: a detach, Disabled, ErrorRecovery or CC over-voltage (R242, R252, R267). -/
def State.connReset (s : State) (p : Nat) : State :=
  let s := ((s.setFld F.TCPD_PDSTAT_REV p 0).put F.TCPD_PDSTAT_PROLE p false).put F.TCPD_PDSTAT_DROLE p false
  let s := ((s.put F.TCPD_PDSTAT_VCSRC p false).put F.TCPD_PDSTAT_SWAP p false).put F.TCPD_PDSTAT_HRST p false
  let s := s.updPd p (fun r => { r with
    offered := [], offeredEpr := [], heard := false, silent := false, hardResets := 0, attempts := 0, noPd := false,
    swap := .none, swapEnd := if r.swapEnd = .pending then .silent else r.swapEnd, hardStep := 0, alertDue := none,
    identitySent := false, partnerSink := none, query := if r.query = 1 then 4 else r.query, sinkOffer := none
    sinkAccepted := false, capsDue := false, partnerSource := [], ownAms := false, txIds := [], rxIds := []
    rxExt := none, txExt := none, ask := .none, own := .none, trimmed := false })
  let s := s.updPwr p (fun r => { r with offInterval := false, swapOn := false })
  s.updCc p (fun r => { r with attachedSink := false, discWait := false })

/-! ### Type-C states (R221, R223) -/

/-- The Type-C logic enters a state. -/
def State.setCc (s : State) (p : Nat) (c : Cc) : State :=
  if s.ccIs p c then s else (s.setFld F.TCPD_CCSTAT_STATE p c.code).ccIrq p

/-- The front end leaves an attached or waiting state: no Rp, no VCONN, no identity, no contract, no accessory; VBUS
follows. -/
def State.ccLeave (s : State) (p : Nat) (c : Cc) : State :=
  let s := (s.setCc p c).vconnOff p
  let s := ((s.setFld F.TCPD_CCSTAT_ACC p 0).put F.TCPD_CCSTAT_CABLE_RA p false).put F.TCPD_CCSTAT_POLARITY p false
  let s := ((s.rpOff p).identityClear p).contractEnd p
  let s := (s.setFld F.TCPD_CCSTAT_RPSEEN p 0).connReset p
  if p ≤ 32 then ((s.sinkOpen p).pwrUpdate p).govRefresh else s

/-- Another port of the Currant holds the sink path (R217). -/
def State.claimedByOther (s : State) (p : Nat) : Bool :=
  (portsOf (currant p)).any (fun q => q != p && s.on F.TCPD_CCSTAT_SINKCLAIM q)

/-- The port goes to Unattached by its role (R216, R222, R223): as sink where ROLE is 2, or DRP turns to its Rd phase. -/
def State.unattached (s : State) (p : Nat) (snk : Bool) : State :=
  (if snk then (s.setCc p .unattachedSnk).rpOff p else (s.setCc p .unattachedSrc).rpEvaluate p).levels p

/-- The port enters Disabled (R222), the release of a claim apart. -/
def State.disableCore (s : State) (p : Nat) : State :=
  ((s.ccLeave p .disabled).put F.TCPD_VCSTAT_VCFAULT p false).updCc p
    (fun r => { r with hostOff := s.bit F.TCPD_CCSTAT_DISCAUSE p 2 })

/-- A fault source in the fault state with reaction `react` that names port `p`: index k of its Currant, or the die as a
whole (R162, R291, R407). -/
def State.portInFault (s : State) (p react : Nat) : Bool :=
  s.fc.sources.any (fun e =>
    e.2.st == .fault && decide (e.1 / 4096 = 1 + currant p) && decide ((e.1 / 64) % 64 ≠ 0x20)
      && decide (e.2.react = react) && (decide (e.1 % 64 = place8 p) || decide (e.1 % 64 = 63)))

/-- A fault source that keeps a quarantine: of the port, or of its die with the reaction quarantine (R162, R407). -/
def State.quarHeld (s : State) (p : Nat) : Bool :=
  s.portInFault p 1 || s.fc.sources.any (fun e =>
    e.2.st == .fault && decide (e.1 / 4096 = 1 + currant p) && decide ((e.1 / 64) % 64 ≠ 0x20)
      && decide (e.1 % 64 = place8 p))

/-- ErrorRecovery (R223), the release of a claim apart. -/
def State.recoverCore (s : State) (p : Nat) : State := s.ccLeave p .errorRecovery

/-- A clear of LATCHED (R291), the release of a claim apart: the new state, or none when it is refused. -/
def State.clearLatchCore (s : State) (p : Nat) : Option State :=
  if decide (s.fld F.PWR_PSTAT_CAUSE p = 10) && s.portInFault p 2 then none
  else if s.pwrIs p .latched then
    let s := (s.setFld F.PWR_PSTAT_RETRYLEFT p (s.fld F.PWR_RETRY_RETRY p)).setPwr p .off
    let s := (s.logPort p 9 (Config.caseCode 291 1)).refresh p
    some (if s.ccIs p .ccOvHold || decide (s.fld F.TCPD_CCSTAT_DISCAUSE p ≠ 0) then s else s.recoverCore p)
  else some s

/-- A refused clear of a latch (R291). -/
def State.latchRefused (s : State) (p : Nat) : State := (s.incr F.PWR_CNT3_LREFUSE p).logPort p 10 (Config.caseCode 291 2)

/-- The port leaves Disabled (R222); the end of HOSTOFF clears a latch (R291). -/
def State.leaveDisabled (s : State) (p : Nat) : State :=
  let s := s.unattached p (decide (s.role p = 2))
  if (s.cc.at p).hostOff && s.pwrIs p .latched then
    match (s.updCc p (fun r => { r with hostOff := false })).clearLatchCore p with
    | some t => t
    | none => s.latchRefused p
  else s.updCc p (fun r => { r with hostOff := false })

/-- The port leaves Disabled when no cause stands and VBUS is below 0.8 V (R222). -/
def State.tryLeaveDisabled (s : State) (p : Nat) : State :=
  if s.live p && s.ccIs p .disabled && decide (s.fld F.TCPD_CCSTAT_DISCAUSE p = 0) && s.vsafe0 p then s.leaveDisabled p
  else s

/-- SINKBLOCK of every port of Currant `n` follows the claim (R217). -/
def State.sinkBlockUpdate (s : State) (n : Nat) : State :=
  s.each (portsOf n) (fun s p =>
    if s.live p then
      let b := s.claimedByOther p
      let role := s.role p
      let s := (s.put F.TCPD_CCSTAT_SINKBLOCK p b).putBit F.TCPD_CCSTAT_DISCAUSE p 3 (b && decide (role = 2))
      if b && decide (role = 2) then
        (if s.ccIn p [.disabled, .ccOvHold] then s else s.disableCore p)
      else if b && s.ccIs p .unattachedSnk then s.unattached p false
      else s.tryLeaveDisabled p
    else s)

/-- Port `p` claims the sink path of its Currant (R217). -/
def State.takeClaim (s : State) (p : Nat) : State :=
  (s.put F.TCPD_CCSTAT_SINKCLAIM p true).sinkBlockUpdate (currant p)

/-- Port `p` releases the sink path (R217). -/
def State.releaseClaim (s : State) (p : Nat) : State :=
  if s.on F.TCPD_CCSTAT_SINKCLAIM p then (s.put F.TCPD_CCSTAT_SINKCLAIM p false).sinkBlockUpdate (currant p) else s

/-- A clear of LATCHED (R291): the new state, which holds no claim (R217), or none when it is refused. -/
def State.clearLatch (s : State) (p : Nat) : Option State :=
  (s.clearLatchCore p).map (fun t => if t.ccIs p .errorRecovery then t.releaseClaim p else t)

/-- The port enters Disabled (R222). -/
def State.disable (s : State) (p : Nat) : State := (s.disableCore p).releaseClaim p

/-- A Disabled cause arises: bit 0 CCEN, 1 QUAR, 2 HOSTOFF, 3 SINKBLOCK of DISCAUSE (R222). -/
def State.ccDisable (s : State) (p b : Nat) : State :=
  if s.live p then
    let s := s.putBit F.TCPD_CCSTAT_DISCAUSE p b true
    if s.ccIs p .ccOvHold then s
    else if s.ccIs p .disabled then s.updCc p (fun r => { r with hostOff := r.hostOff || decide (b = 2) })
    else s.disable p
  else s

/-- A Disabled cause clears (R222). -/
def State.ccEnableCause (s : State) (p b : Nat) : State :=
  if s.live p then (s.putBit F.TCPD_CCSTAT_DISCAUSE p b false).tryLeaveDisabled p else s

/-- ErrorRecovery is asked for: any state except Disabled and CCOVHold (R223). -/
def State.errorRecovery (s : State) (p : Nat) : State :=
  if s.live p && !s.ccIn p [.disabled, .ccOvHold] then (s.recoverCore p).releaseClaim p else s

/-- The policy engine of port `p` stops for a quarantine, which ends the contract (R161). -/
def State.policyStop (s : State) (p : Nat) : State := (s.contractEnd p).logPort p 8 (Config.caseCode 244 1)

/-! ### Hard Reset (R266) -/

/-- A Hard Reset is sent or received on port `p`.  A downstream port returns to source, one that attached as sink too; an
upstream port returns to sink (log entry 17).  The grant stands until VBUS goes off (R266 step 2). -/
def State.hardReset (s : State) (p : Nat) (sent : Bool) : State :=
  let s := s.incr F.TCPD_PDCNT1_HRESETS p
  let s := if sent then (s.updPd p (fun r => { r with hardResets := r.hardResets + 1 })).send p .hardReset
    else s.updPd p (fun r => { r with heard := true })
  let s := s.updPd p (fun r => { r with
    swap := .none, swapEnd := if r.swapEnd = .pending then .hardReset else r.swapEnd, silent := true, attempts := 0
    offered := [], offeredEpr := [], capsDue := false, txIds := [], rxIds := [], rxExt := none
    txExt := none, ask := .none, own := .none, trimmed := false })
  let s := (s.put F.TCPD_PDSTAT_SWAP p false).setFld F.TCPD_PDSTAT_REV p 0
  let s := if p ≤ 32 then (s.updPwr p (fun r => { r with swapOn := false })).sinkOpen p else s
  let paid := (s.gov.at p).grant
  if 32 < p then s.contractEnd p
  else
    let s := (((s.releaseClaim p).vconnOff p).identityClear p).updCc p (fun r => { r with attachedSink := false })
    let s := if s.ccIs p .attachedSnk then s.setCc p .attachedSrc else s
    let s := (s.put F.TCPD_PDSTAT_PROLE p true).put F.TCPD_PDSTAT_VCSRC p true
    let s := s.contractEnd p
    let s := if s.fld F.TCPD_CCSTAT_RPOUT p = 0 then s.rpEvaluate p else s
    let off := !s.pwrIn p sourcing
    let s := if off then s else (s.updGov p (fun g => { g with grant := paid })).govRefresh
    let s := s.updPd p (fun r => { r with hardStep := if off then (if s.vsafe0 p then 3 else 2) else 1 })
    let s := if off then s.updPwr p (fun r => { r with offInterval := true }) else s
    (s.put F.TCPD_PDSTAT_HRST p true).pwrUpdate p

/-! ### Faults of the power stage (R290 to R292) -/

/-- The counter of a fault's kind (R296). -/
def State.countFault (s : State) (p cause : Nat) : State :=
  if cause = 1 then s.incr F.PWR_CNT0_LIMTRIPS p
  else if cause = 2 then s.incr F.PWR_CNT0_FASTTRIPS p
  else if cause = 3 then s.incr F.PWR_CNT1_THTRIPS p
  else if cause = 10 then s
  else s.incr F.PWR_CNT1_OTHERTRIPS p

/-- The port enters LATCHED (R129, R205, R291). -/
def State.latch (s : State) (p : Nat) : State :=
  let s := ((s.setPwr p .latched).incr F.PWR_CNT2_LATCHES p).refresh p
  (s.change p cOverCurrent).notice 2 (p + 256 * s.fld F.DPE_STATE_STATE p + 0x2000)

/-- A fast trip, an over-voltage and a buck peak fault hold both buck gates low (R284, R285). -/
def gatesDown (cause : Nat) : Bool := decide (cause = 2) || decide (cause = 4) || decide (cause = 6)

/-- A fault in a source state (R290); what was accepted is void, so that the restart is at vSafe5V (R274). -/
def State.portFault (s : State) (p cause : Nat) : State :=
  let s := if cause = 2 then s.put F.PWR_PSTAT_DURRAMP p (s.pwrIn p [.softstart, .ramp]) else s
  let s := s.updPwr p (fun r => { r with gatesLow := gatesDown cause })
  let s := ((s.setFld F.PWR_PSTAT_CAUSE p cause).countFault p cause).raisePort p cause
  let had := s.contracted p
  let left := s.fld F.PWR_PSTAT_RETRYLEFT p
  let s := if left = 0 then s.latch p
    else
      let s := (s.setFld F.PWR_PSTAT_RETRYLEFT p (left - 1)).setPwr p .retryWait
      if cause ≤ 3 then s.updPd p (fun r => { r with alertDue := some (cause == 3) }) else s
  let s := s.irq (63 + p)
  if had then s.hardReset p true else if (s.pd.at p).accepted.isSome then s.contractEnd p else s

/-- A fault in SINK (R292): fuse and SKG off, claim released, Hard Reset sent. -/
def State.sinkFault (s : State) (p cause : Nat) : State :=
  let s := if cause = 2 then s.put F.PWR_PSTAT_DURRAMP p false else s
  let s := ((s.setFld F.PWR_PSTAT_CAUSE p cause).countFault p cause).raisePort p cause
  (((s.sinkOpen p).releaseClaim p).irq (63 + p)).hardReset p true

/-- A protection of R283 to R286 acts on port `p`. -/
def State.protect (s : State) (p cause : Nat) : State :=
  if s.live p && s.pwrIn p sourcing then s.portFault p cause
  else if s.live p && s.pwrIs p .sink then s.sinkFault p cause
  else s

/-- VOFF is set on port `p` as by a VBUS off action (R293): the fuse turns off, the sink path with it, and the contract ends
without a Hard Reset. -/
def State.voffSet (s : State) (p : Nat) : State :=
  if s.live p then (((s.put F.PWR_PCTL_VOFF p true).pwrUpdate p).sinkOpen p).contractEnd p else s

/-- CODE of a timed action's words (R335). -/
def tatCode (w : List Nat) : Nat := w.getD 3 0 % 256

/-- The effect of a launched action of code `c` has come about on port `p`: the window that waited for it opens (R339,
R343). -/
def State.actuated (s : State) (p c : Nat) : State :=
  { s with tat := s.tat.map (fun e =>
      if tatCode e.2.words = c ∧ e.2.awaited.testBit (p - 1) = true then
        (e.1, { e.2 with awaited := withBit e.2.awaited (p - 1) false, window := withBit e.2.window (p - 1) true })
      else e) }

/-- VOFF is cleared on port `p` (R293). -/
def State.voffClear (s : State) (p : Nat) : State :=
  if s.live p then (s.put F.PWR_PCTL_VOFF p false).levels p else s

end Sys2Proof.Machine
end

