-- ==== Sys2Proof/Machine/Tt.lean ====
section
/-! DEFINITION. Transaction translators and the split-context pool (R172 to R190), and the hub class TT requests. -/

namespace Sys2Proof.Machine

/-! ### Allocation and use -/

/-- NPBUF as applied (R176). -/
def State.npbuf (s : State) (p : Nat) : Nat := clamp 2 16 (s.fld F.TT_ALLOC_NPBUF p)

/-- PMAX as applied (R176). -/
def State.pmax (s : State) (p : Nat) : Nat := min (s.fld F.TT_ALLOC_PMAX p) (64 - s.npbuf p)

/-- PRES as applied (R176). -/
def State.pres (s : State) (p : Nat) : Nat := min (s.fld F.TT_ALLOC_PRES p) (s.pmax p)

/-- The total reserved: NPBUF + PRES over the fitted ports (R176). -/
def State.reserved (s : State) : Nat :=
  ((allPorts.filter s.fitted).map (fun p => s.npbuf p + s.pres p)).sum

/-- A periodic context. -/
def Context.periodic (c : Context) : Bool := c.typ == .iso || c.typ == .interrupt

/-- The contexts that port `p` holds. -/
def State.held (s : State) (p : Nat) : List Context := s.pool.contexts.filter (fun c => c.port == p)

/-- Periodic contexts of port `p`. -/
def State.puse (s : State) (p : Nat) : Nat := ((s.held p).filter Context.periodic).length

/-- Non-periodic contexts of port `p`. -/
def State.npuse (s : State) (p : Nat) : Nat := ((s.held p).filter (fun c => !c.periodic)).length

/-- Contexts that port `p` holds from its own reservation above what is now reserved (R177). -/
def State.over (s : State) (p : Nat) : Nat :=
  (((s.held p).filter (fun c => c.periodic && !c.shared)).length - s.pres p) + (s.npuse p - s.npbuf p)

/-- Free contexts in the shared part (R176, R177). -/
def State.sharedFree (s : State) : Nat :=
  1024 - s.reserved - (s.pool.contexts.filter Context.shared).length - ((allPorts.map s.over).sum)

/-- The status fields of the pool and of port `p` follow the contexts held (R190). -/
def State.ttRefresh (s : State) (p : Nat) : State :=
  let s := s.setFld F.TT_PSTAT_PUSE p (s.puse p)
  let s := s.setFld F.TT_PSTAT_NPUSE p (s.npuse p)
  let s := if s.fld F.TT_PPEAK_PPEAK p < s.puse p then s.setFld F.TT_PPEAK_PPEAK p (s.puse p) else s
  let s := if s.fld F.TT_PPEAK_NPPEAK p < s.npuse p then s.setFld F.TT_PPEAK_NPPEAK p (s.npuse p) else s
  let s := s.setFld F.TT_POOLUSE_PUSE 0 (s.pool.contexts.filter Context.periodic).length
  let s := s.setFld F.TT_POOLUSE_NPUSE 0 (s.pool.contexts.filter (fun c => !c.periodic)).length
  let s := s.setFld F.TT_POOL_RESERVED 0 s.reserved
  let s := s.setFld F.TT_POOL_FREE 0 s.sharedFree
  if s.sharedFree < s.fld F.TT_POOLLOW_LOW 0 then s.setFld F.TT_POOLLOW_LOW 0 s.sharedFree else s

/-- Replace the contexts held. -/
def State.setContexts (s : State) (l : List Context) : State := { s with pool := { s.pool with contexts := l } }

/-- Change what is recorded of the wire of port `p`. -/
def State.updTt (s : State) (p : Nat) (f : TtPort → TtPort) : State := { s with tt := s.tt.upd p f }

/-- Clear the translator of port `p`: every context of the port is released and counted (R184).  A packet on the wire runs
to its EOP, and nothing more is sent of its transaction (R185). -/
def State.ttClear (s : State) (p : Nat) : State :=
  let n := (s.held p).length
  let s := { s with pool := { s.pool with
    contexts := s.pool.contexts.filter (fun c => c.port != p), lost := s.pool.lost.filter (fun c => c.port != p) } }
  (s.add F.TT_PCNT1_CLEARS p n).ttRefresh p

/-- Clear the translator of port `p` for an event that drives the line or opens the switch: the packet is cut where the
event takes the line (R185). -/
def State.ttCut (s : State) (p : Nat) : State :=
  let s := s.ttClear p
  if s.on F.TT_PSTAT_WIRE p then (s.put F.TT_PSTAT_WIRE p false).updTt p (fun r => { r with cuts := r.cuts + 1 }) else s

/-- End the stop of port `p`'s translator (R184). -/
def State.ttEndStop (s : State) (p : Nat) : State := s.put F.TT_PSTAT_STOPPED p false

/-- The ports assigned to partition `k`. -/
def State.portsOfPart (s : State) (k : Nat) : List Nat := allPorts.filter (fun p => s.partOf p == k)

/-- Clear every translator of partition `k` and end its stops (R184: upstream event, SetInterface). -/
def State.ttClearPart (s : State) (k : Nat) : State :=
  s.each (s.portsOfPart k) (fun s p => (s.ttClear p).ttEndStop p)

/-- TT_ALLOC of port `p` takes the values that apply in `src` (R176). -/
def State.allocFrom (s src : State) (p : Nat) : State :=
  ((s.setFld F.TT_ALLOC_NPBUF p (src.npbuf p)).setFld F.TT_ALLOC_PRES p (src.pres p)).setFld F.TT_ALLOC_PMAX p (src.pmax p)

/-- The TT_ALLOC group applies, each field clamped (R176): a total above 1,024 restores the values applied in `old`, counts
and is logged. -/
def State.ttAllocApply (s old : State) : State :=
  if s.reserved ≤ 1024 then
    s.each (allPorts.filter s.fitted) (fun t p => (t.allocFrom s p).ttRefresh p)
  else
    let s := s.each (allPorts.filter s.fitted) (fun t p => t.allocFrom old p)
    ((s.incr F.TT_POOLCNT_REJECTS 0).irq 133).logOther 0 0x10 []

/-- The hardware writes bytes into the data area of slot `n`, from its byte `o` on (R175, R188). -/
def State.slotWrite (s : State) (n o : Nat) (bytes : List Nat) : State :=
  s.writeBytes (0x200F8000 + 1056 * (n % 1024) + 32 + o) (bytes.take (1024 - o))

/-- A byte of the pool range as a load finds it (R175): the layout of a held context's 32-byte state area is open (log entry
138); every other byte is memory's. -/
def State.poolByte (s : State) (a : Nat) : Nat :=
  let o := a - 0x200F8000
  match s.pool.contexts.find? (fun c => c.slot == o / 1056) with
  | some c =>
    if o % 1056 < 32 then Config.freeNat (1056 * c.arrival + o % 1056) % 256 else s.byte a
  | none => s.byte a

/-! ### Splits -/

/-- A translator serves port `p` for partition `k` (R172, R174). -/
def State.ttServes (s : State) (k p : Nat) : Bool :=
  decide (1 ≤ p ∧ p ≤ 32) && decide (k < 4) && decide (s.partOf p = k) && s.on F.PART_PSTAT_SPEED k
    && s.dpeIn p [.enabled, .transmit]

/-- The answer of partition `k` on its bus. -/
def State.answer (s : State) (k : Nat) (a : BusAnswer) : State :=
  { s with parts := s.parts.upd k (fun r => { r with answer := a }) }

/-- A split token that nothing serves: no handshake, counted (R174). -/
def State.badSplit (s : State) (k : Nat) : State := (s.incr F.TT_BADSPLIT_COUNT k).answer k .none

/-- Contexts match by device address, endpoint, direction and type on one port (R180). -/
def Context.is (c : Context) (p addr ep : Nat) (dirIn : Bool) (typ : SplitType) : Bool :=
  c.port == p && c.addr == addr && c.ep == ep && c.dirIn == dirIn && c.typ == typ

/-- A context for a split that a translator has just taken (R175). -/
def newContext (p addr ep : Nat) (dirIn : Bool) (typ : SplitType) (due : Nat) (bytes : List Nat) : Context :=
  ⟨p, addr, ep, dirIn, typ, false, .queued, 0, 0, due, 0, bytes, 0, none⟩

/-- The lowest slot of the pool that is free (the rule gives no order of slots, log entry 138). -/
def Pool.freeSlot (q : Pool) : Nat :=
  ((List.range 1024).find? (fun n => !q.contexts.any (fun c => c.slot == n))).getD 1023

/-- Every context of the pool is held, which a reservation raised over shared contexts that are held can bring about; a
draw is then refused (R175; log entry 137). -/
def State.poolFull (s : State) : Bool := decide (1024 ≤ s.pool.contexts.length)

/-- Take a context into the pool (R175); a complete-split still owed for the same endpoint is forgotten (R180). -/
def State.takeContext (s : State) (c : Context) : State :=
  let s := s.slotWrite s.pool.freeSlot 0 c.bytes
  let s := { s with pool := { s.pool with
    contexts := s.pool.contexts ++ [{ c with arrival := s.pool.arrivals, slot := s.pool.freeSlot }]
    arrivals := s.pool.arrivals + 1
    lost := s.pool.lost.filter (fun d => !d.is c.port c.addr c.ep c.dirIn c.typ) } }
  s.ttRefresh c.port

/-- A later piece of an isochronous OUT joins the contexts that match (R181), and the pool. -/
def State.joinPiece (s : State) (p addr ep : Nat) (bytes : List Nat) : State :=
  let l := s.pool.contexts.filter (fun d => d.is p addr ep false .iso)
  let s := l.foldl (fun s d => s.slotWrite d.slot d.bytes.length bytes) s
  s.setContexts (s.pool.contexts.map (fun d =>
    if d.is p addr ep false .iso then { d with bytes := d.bytes ++ bytes } else d))

/-- Release the context of one arrival number. -/
def State.dropContext (s : State) (p n : Nat) : State :=
  (s.setContexts (s.pool.contexts.filter (fun c => c.arrival != n))).ttRefresh p

/-- Change the context of one arrival number. -/
def State.updContext (s : State) (n : Nat) (f : Context → Context) : State :=
  s.setContexts (s.pool.contexts.map (fun c => if c.arrival == n then f c else c))

/-- SSPLIT_NONPERIODIC (R177, R180).  Where the spec gives both answers, for a repeated start-split on a stopped translator
(R180: ACK, a context matches; R186: NAK while stopped), the model's choice is the ACK (DESIGN CHOICE, log entry 138). -/
def execSsplitNonperiodic (k p addr ep : Nat) (dirIn control : Bool) (bytes : List Nat) (s : State) :
    Host.Outcome State Fault Refusal :=
  let typ := if control then SplitType.control else .bulk
  .next <|
    if !s.ttServes k p then s.badSplit k
    else if s.pool.contexts.any (fun c => c.is p addr ep dirIn typ) then s.answer k .ack
    else if s.on F.TT_PSTAT_STOPPED p || decide (s.npbuf p ≤ s.npuse p) || s.poolFull then
      (s.incr F.TT_PCNT0_NREFUSE p).answer k .nak
    else
      (s.takeContext (newContext p addr ep dirIn typ 0 bytes)).answer k .ack

/-- The answer that a finished transaction gives its complete-split (R180, R183). -/
def Context.reply (c : Context) : BusAnswer :=
  if c.result = 0 then .ack else if c.result = 1 then .nak else if c.result = 2 then .stall
  else .data (c.result - 3) c.bytes

/-- CSPLIT_NONPERIODIC (R180, R188). -/
def execCsplitNonperiodic (k p addr ep : Nat) (dirIn control : Bool) (s : State) :
    Host.Outcome State Fault Refusal :=
  let typ := if control then SplitType.control else .bulk
  .next <|
    if !s.ttServes k p then s.badSplit k
    else
      match s.pool.contexts.find? (fun c => c.is p addr ep dirIn typ) with
      | some c =>
        match c.st with
        | .done => ((s.dropContext p c.arrival).incr F.TT_PCNT2_DONE p).answer k c.reply
        | .busError => ((s.dropContext p c.arrival).incr F.TT_PCNT2_ERRS p).answer k .none
        | _ => s.answer k .nyet
      | none =>
        if s.pool.lost.any (fun c => c.is p addr ep dirIn typ) then
          ({ s with pool := { s.pool with lost := s.pool.lost.filter (fun c => !c.is p addr ep dirIn typ) } }).answer
            k .none
        else s.answer k .nak

/-- The partition that wins the last shared context when several ask on one cycle (R178): round robin from the one after
the last winner.  Before any tie was won the model takes partition 0 as the last winner, so that partition 1 is asked first
(DESIGN CHOICE, log entry 138). -/
def tieWinner (last : Nat) (asking : List Nat) : Nat :=
  (([1, 2, 3, 4].map (fun d => (last + d) % 4)).filter asking.contains).headD 0

/-- SSPLIT_PERIODIC (R177, R178, R181): `more` is a later piece of an isochronous OUT that began before; `rivals` are the
partitions that ask for the last free shared context on the same cycle.  The first of them to come decides the tie for
all. -/
def execSsplitPeriodic (k p addr ep : Nat) (dirIn iso more : Bool) (due : Nat) (bytes rivals : List Nat) (s : State) :
    Host.Outcome State Fault Refusal :=
  let typ := if iso then SplitType.iso else .interrupt
  let refuse (s : State) (empty : Bool) : State :=
    let s := s.incr F.TT_PCNT0_PREFUSE p
    if empty then (s.incr F.TT_POOLCNT_EMPTY 0).irq 133 else s
  let c := newContext p addr ep dirIn typ due bytes
  .next <|
    if !s.ttServes k p then s.badSplit k
    else (
      if iso && !dirIn && more then
        if s.on F.TT_PSTAT_STOPPED p then refuse s false
        else s.joinPiece p addr ep bytes
      else if s.on F.TT_PSTAT_STOPPED p then refuse s false
      else if s.pmax p ≤ s.puse p then refuse s false
      else if s.poolFull then refuse s true
      else if ((s.held p).filter (fun d => d.periodic && !d.shared)).length < s.pres p then s.takeContext c
      else if s.sharedFree = 0 then refuse s true
      else if s.sharedFree = 1 ∧ rivals ≠ [] then
        let w := if s.pool.tieOpen && (k :: rivals).contains s.pool.lastWinner then s.pool.lastWinner
          else tieWinner s.pool.lastWinner (k :: rivals)
        let s := { s with pool := { s.pool with lastWinner := w, tieOpen := decide (w ≠ k) } }
        if w = k then s.takeContext { c with shared := true } else refuse s true
      else State.takeContext { s with pool := { s.pool with tieOpen := false } } { c with shared := true }).answer k .none

/-- CSPLIT_PERIODIC (R183): `again` repeats a complete-split that was already answered, with NYET too; `came` are the bytes
that a packet still on the wire has brought and that no complete-split returned yet. -/
def execCsplitPeriodic (k p addr ep : Nat) (dirIn iso again : Bool) (came : List Nat) (s : State) :
    Host.Outcome State Fault Refusal :=
  let typ := if iso then SplitType.iso else .interrupt
  .next <|
    if !s.ttServes k p then s.badSplit k
    else
      match s.pool.contexts.find? (fun c => c.is p addr ep dirIn typ) with
      | none => s.answer k .err
      | some c =>
        match again, c.answered with
        | true, some a => s.answer k a
        | _, _ =>
          let give (s : State) (a : BusAnswer) (rest : List Nat) : State :=
            (s.updContext c.arrival (fun c => { c with answered := some a, bytes := rest })).answer k a
          match c.st with
          | .done =>
            if 3 ≤ c.result then
              if 188 < c.bytes.length then give s (.mdata (c.bytes.take 188)) (c.bytes.drop 188)
              else
                give (s.incr F.TT_PCNT2_DONE p) (.data (if iso then 0 else c.result - 3) c.bytes) []
            else give (s.incr F.TT_PCNT2_DONE p) c.reply []
          | .busError => give (s.incr F.TT_PCNT2_ERRS p) .err []
          | .abandoned => give s .err []
          | .onWire =>
            if dirIn = false ∨ came = [] then give s .nyet c.bytes
            else
              let a := BusAnswer.mdata (came.take 188)
              ((s.slotWrite c.slot c.given came).updContext c.arrival (fun c => { c with
                answered := some a, given := c.given + (came.take 188).length })).answer k a
          | .queued => give s .nyet c.bytes

/-- BAD_SPLIT (R174): a token for partition `k` naming a port that cannot serve. -/
def execBadSplit (k p : Nat) (s : State) : Host.Outcome State Fault Refusal :=
  .next (if decide (k < 4) && !s.ttServes k p then s.badSplit k else s)

/-- TT_FRAME_START (R172): on an FS port the translator sends an SOF with the partition's frame number, on an LS port a
keep-alive EOP. -/
def execTtFrameStart (p : Nat) (s : State) : Host.Outcome State Fault Refusal :=
  let k := s.partOf p
  .next <|
    if s.ttServes k p && !s.on F.PART_PSTAT_SUSPENDED k && decide (s.fld F.DPE_STATE_SPEED p < 3) then
      if s.fld F.DPE_STATE_SPEED p = 1 then s.updTt p (fun r => { r with eops := r.eops + 1 })
      else s.updTt p (fun r => { r with sofs := r.sofs + 1, frame := s.fld F.PART_FRAME_FRAME k })
    else s

/-- The next context that the translator of port `p` starts (R179): periodic contexts due and not past the end of microframe
Y+1 (R182), by microframe and arrival; else the oldest non-periodic one when it fits. -/
def State.nextContext (s : State) (p uframe : Nat) (npFits : Bool) : Option Context :=
  let queued := (s.held p).filter (fun c => c.st == .queued)
  let due := queued.filter (fun c => c.periodic && decide (c.due ≤ uframe ∧ uframe ≤ c.due + 1))
  match due with
  | c :: r =>
    some (r.foldl (fun b c => if c.due < b.due ∨ (c.due = b.due ∧ c.arrival < b.arrival) then c else b) c)
  | [] =>
    if npFits then
      match queued.filter (fun c => !c.periodic) with
      | c :: r => some (r.foldl (fun b c => if c.arrival < b.arrival then c else b) c)
      | [] => none
    else none

/-- TT_TRANSACTION_START (R179, R188): `uframe` is the partition's microframe, `beforeEof1` says that a transaction can end
before EOF1, `npFits` that a non-periodic one can end before the next periodic is due; `corrected` is how many errors in the
pool range shared SRAM has corrected since the last such command. -/
def execTtTransactionStart (p uframe : Nat) (beforeEof1 npFits : Bool) (corrected : Nat) (s : State) :
    Host.Outcome State Fault Refusal :=
  .next <|
    let s := s.add F.TT_ECC_CORR 0 corrected
    if s.ttServes (s.partOf p) p && beforeEof1 && !s.on F.TT_PSTAT_STOPPED p && !s.on F.TT_PSTAT_WIRE p
        && !s.on F.PART_PSTAT_SUSPENDED (s.partOf p) then
      match s.nextContext p uframe npFits with
      | some c => (s.updContext c.arrival (fun c => { c with st := .onWire })).put F.TT_PSTAT_WIRE p true
      | none => s
    else s

/-- TT_TRANSACTION_END (R179, R181): the device answered `result` (0 ACK, 1 NAK, 2 STALL, 3 DATA0, 4 DATA1) with `bytes`,
or the bus failed; IN data that is not isochronous gets an ACK; an isochronous OUT context is released at the end of its
packet.  Of a context that a clear released nothing more is sent (R185). -/
def execTtTransactionEnd (p result : Nat) (bytes : List Nat) (busError : Bool) (s : State) :
    Host.Outcome State Fault Refusal :=
  .next <|
    if s.on F.TT_PSTAT_WIRE p then
      let s := s.put F.TT_PSTAT_WIRE p false
      match (s.held p).find? (fun c => c.st == .onWire) with
      | some c =>
        if c.typ == .iso && !c.dirIn then s.dropContext p c.arrival
        else if busError then s.updContext c.arrival (fun c => { c with st := .busError })
        else
          let s := if c.dirIn && c.typ != .iso && decide (3 ≤ result) then
              s.updTt p (fun r => { r with acks := r.acks + 1 }) else s
          let s := if c.dirIn then s.slotWrite c.slot 0 bytes else s
          s.updContext c.arrival (fun d => { d with st := .done, result := min result 4, bytes := bytes.drop c.given })
      | none => s
    else s

/-- PERIODIC_CONTEXT_RELEASE (R181): the last complete-split microframe of a periodic context has ended. -/
def execPeriodicContextRelease (p addr ep : Nat) (dirIn iso : Bool) (s : State) : Host.Outcome State Fault Refusal :=
  let typ := if iso then SplitType.iso else .interrupt
  .next <|
    match s.pool.contexts.find? (fun c => c.is p addr ep dirIn typ) with
    | some c => s.dropContext p c.arrival
    | none => s

/-- PERIODIC_ABANDON (R182): a queued periodic transaction of the port whose time has passed is abandoned; an isochronous
OUT packet is dropped. -/
def execPeriodicAbandon (p addr ep : Nat) (dirIn iso : Bool) (s : State) : Host.Outcome State Fault Refusal :=
  let typ := if iso then SplitType.iso else .interrupt
  .next <|
    match s.pool.contexts.find? (fun c => c.is p addr ep dirIn typ && c.st == .queued) with
    | some c =>
      let s := s.incr F.TT_PCNT1_ABANDON p
      if iso && !dirIn then s.dropContext p c.arrival
      else s.updContext c.arrival (fun c => { c with st := .abandoned })
    | none => s

/-- POOL_UNCORRECTABLE (R188): the error lies in slot `n` of the pool.  A packet being sent to the device is cut with an
invalid CRC. -/
def execPoolUncorrectable (n : Nat) (s : State) : Host.Outcome State Fault Refusal :=
  .next <|
    let s := ((s.incr F.TT_ECC_UNCORR 0).irq 134).raise 0x0400 (0x200F8000 + 1056 * (n % 1024)) 0
    match s.pool.contexts.find? (fun c => c.slot == n % 1024) with
    | some c =>
      let s := (s.dropContext c.port c.arrival).incr F.TT_PCNT2_ERRS c.port
      let s := if c.st == .onWire && !c.dirIn then
          (s.put F.TT_PSTAT_WIRE c.port false).updTt c.port (fun r => { r with badCrcs := r.badCrcs + 1 }) else s
      if c.periodic then s else { s with pool := { s.pool with lost := s.pool.lost ++ [c] } }
    | none => s

/-! ### Hub class TT requests (R128, R173, R186, R187) -/

/-- The translators a TT request addresses: none with a STALL, or the ports it acts on; an other port (R128) is none of
them. -/
def State.ttTargets (s : State) (k ttPort : Nat) : Option (List Nat) :=
  if s.on F.PART_PSTAT_TTALT k then
    if ttPort = 0 ∨ 33 ≤ ttPort then none
    else if s.owns k ttPort then some [ttPort]
    else some []
  else if ttPort = 1 then some (allPorts.filter (s.owns k)) else none

/-- The state bytes of R187 over the ports addressed. -/
def State.ttStateBytes (s : State) (k : Nat) (l : List Nat) : List Nat :=
  let sum (f : Nat → Nat) : Nat := (l.map f).sum
  le 2 (sum s.npbuf) ++ le 2 (sum s.npuse) ++ le 2 (sum s.pmax) ++ le 2 (sum s.puse)
    ++ le 2 (sum (s.fld F.TT_PCNT0_PREFUSE)) ++ le 2 (sum (s.fld F.TT_PCNT0_NREFUSE))
    ++ le 2 (sum (s.fld F.TT_PCNT2_ERRS))
    ++ [bit01 (l.all (fun p => s.on F.TT_PSTAT_STOPPED p)) + 2 * bit01 (!s.on F.PART_PSTAT_TTALT k), 0]

/-- A TT request acts at the F boundary of partition `k` (R173, R184, R186): ClearTTBuffer on a non-periodic context that
matches, ResetTT, StopTT, GetTTState and the alternate setting.  GetTTState answers no bytes for an other port (R128); a
partition without ports under alternate 0, of which the spec says nothing, answers sums over no port with the stopped flag set
(DESIGN CHOICE, log entry 138). -/
def State.ttRequest (s : State) (k : Nat) (r : HubReq) : State :=
  match r with
  | .ttBuffer tt addr ep dirIn typ =>
    if typ == .iso || typ == .interrupt then s
    else s.each ((s.ttTargets k tt).getD []) (fun s p =>
      match s.pool.contexts.find? (fun c => c.is p addr ep dirIn typ) with
      | some c => (s.dropContext p c.arrival).incr F.TT_PCNT1_CLEARS p
      | none => { s with pool := { s.pool with lost := s.pool.lost.filter (fun c => !c.is p addr ep dirIn typ) } })
  | .ttReset tt => s.each ((s.ttTargets k tt).getD []) (fun s p => (s.ttClear p).ttEndStop p)
  | .ttStop tt => s.each ((s.ttTargets k tt).getD []) (fun s p => s.put F.TT_PSTAT_STOPPED p true)
  | .ttState tt flags len =>
    match s.ttTargets k tt with
    | none => s.answer k .stall
    | some l =>
      if l = [] ∧ s.on F.PART_PSTAT_TTALT k = true then s.answer k (.data 1 [])
      else if flags ≠ 0 ∨ l.all (fun p => s.on F.TT_PSTAT_STOPPED p) = false then s.answer k .stall
      else s.answer k (.data 1 ((s.ttStateBytes k l).take len))
  | .alternate alt =>
    if s.fld F.PART_PSTAT_TTALT k = alt then s else (s.setFld F.PART_PSTAT_TTALT k alt).ttClearPart k
  | _ => s

end Sys2Proof.Machine
end

