-- ==== Sys2Proof/Machine/DpeOps.lean ====
section
/-! DEFINITION. The operations of a port engine that every cause shares: changing state, isolation, quarantine, migration
end, glitches (R146 to R171). -/

namespace Sys2Proof.Machine

/-- Change the record of port engine `p`. -/
def State.updDpe (s : State) (p : Nat) (f : DpePort → DpePort) : State := { s with dpe := s.dpe.upd p f }

/-- Change the record of a migration. -/
def State.updMig (s : State) (p : Nat) (f : Migration → Migration) : State := { s with migs := s.migs.upd p f }

/-- The engine enters a state: PREV, STATE, its interrupt and its PORT notice (R146, R205, R384). -/
def State.setDpe (s : State) (p : Nat) (d : Dpe) : State :=
  if s.dpeIs p d then s.refresh p
  else
    let s := s.setFld F.DPE_STATE_PREV p (s.fld F.DPE_STATE_STATE p)
    let s := s.setFld F.DPE_STATE_STATE p d.code
    let s := if d == .resetting || d == .disconnected || d == .isolated || d == .quarantined || d == .migrating then
      s.traceForget p else s
    ((s.irq (95 + p)).notice 2 (p + 256 * d.code)).refresh p

/-- No device is seen any more. -/
def State.noDevice (s : State) (p : Nat) : State := (s.setFld F.DPE_STATE_SPEED p 0).put F.DPE_STATE_DEV p false

/-- The engine enters Disconnected with the switch closing; detection starts after the settle time (R148, R149). -/
def State.enterDisconnected (s : State) (p : Nat) : State :=
  ((s.noDevice p).updDpe p (fun r => { r with settling := true, chirped := false, fromL1 := false, corrupt := 0 })).setDpe p
    .disconnected

/-- The engine enters Powered-off: the switch opens and the translator is cleared (R148). -/
def State.enterPoweredOff (s : State) (p : Nat) : State :=
  (((s.noDevice p).ttCut p).updDpe p (fun r => { r with
    settling := false, chirped := false, fromL1 := false, corrupt := 0 })).setDpe p .poweredOff

/-- The engine may run: its Currant is on and it is assigned with logical power (R147, R148). -/
def State.mayDetect (s : State) (p : Nat) : Bool :=
  s.fitted p && s.portsOn p && s.domOn Dom.fabric && decide (s.partOf p < 4) && s.logPwr p

/-- Where a port goes that leaves Isolated, Quarantined or Powered-off (R148). -/
def State.leaveHold (s : State) (p : Nat) : State :=
  if s.mayDetect p then s.enterDisconnected p else s.enterPoweredOff p

/-- A Powered-off engine leaves it when logical power is set and no cause holds it (R148). -/
def State.tryPowerUp (s : State) (p : Nat) : State :=
  if s.dpeIs p .poweredOff && s.mayDetect p && !s.isoCause p && !s.on F.DPE_CTL_QUAR p then s.enterDisconnected p
  else s.refresh p

/-- The keep-alive of a migration stops; one whose reset is cut off goes back to step 4, from which a later reset or its
timeout completes it (R138, R141; log entry 131). -/
def State.resetCut (s : State) (p : Nat) : State :=
  s.updMig p (fun r => { r with keepalive := false, step := if r.step = 5 then 4 else r.step })

/-- The engine follows its isolation causes (R148, R159). -/
def State.isoUpdate (s : State) (p : Nat) : State :=
  if s.dpeIs p .quarantined || !s.fitted p || !s.portsOn p || !s.domOn Dom.fabric then s.refresh p
  else if s.isoCause p then
    if s.dpeIs p .isolated then s.refresh p
    else
      let s := if s.connected p then s.change p cConnection else s
      let s := (((s.ttCut p).incr F.DPE_CNT4_ISOLATIONS p).noDevice p).updDpe p (fun r => { r with corrupt := 0 })
      let s := s.resetCut p
      (s.logPort p 4 (bit01 (s.on F.DPE_CTL_ISOLATE p) + 2 * bit01 (s.on F.DSW_PSTAT_OVHOLD p))).setDpe p .isolated
  else if s.dpeIs p .isolated then s.leaveHold p else s.refresh p

/-! ### Migrations (R138, R141) -/

/-- A migration of the port is complete: MIGBUSY clears, DONE counts, it is logged. -/
def State.migDone (s : State) (p : Nat) : State :=
  let s := (s.updMig p (fun _ => default)).putBit F.PART_MIGBUSY_BUSY 0 (p - 1) false
  ((s.incr F.PART_MIGCNT_DONE 0).irq 132).logPort p 1 0

/-- A disconnect that an earlier leave left pending in partition `k` is the port's change bit again (R128). -/
def State.takeBack (s : State) (p k : Nat) : State :=
  if decide (k < 4) && (s.parts.at k).leftChange.testBit (p - 1) then
    { (s.putBit F.DPE_PORTSTAT_CHANGE p cConnection true) with
      parts := s.parts.upd k (fun r => { r with leftChange := withBit r.leftChange (p - 1) false }) }
  else s

/-- A migration of the port is aborted (R141); the number of its cause is log entry 23's.  From step 2 the port is the
source's own again, with the disconnect that its leave left pending. -/
def State.migAbort (s : State) (p cause : Nat) : State :=
  let m := s.migs.at p
  if m.active then
    let s := if m.step = 2 then s.takeBack p (s.partOf p) else s
    let s := (s.updMig p (fun _ => default)).putBit F.PART_MIGBUSY_BUSY 0 (p - 1) false
    ((s.incr F.PART_MIGCNT_ABORTED 0).irq 132).logPort p 2 (Config.caseCode 141 cause)
  else s

/-! ### Quarantine (R161 to R163) -/

/-- What a quarantine does on the Currant (R161): fuse off, Rp removed, sink path released, policy stopped. -/
def State.quarCurrant (s : State) (p : Nat) : State :=
  if s.portsOn p then ((((s.put F.DSW_PSTAT_QUAR p true).vbusOff p).ccDisable p 1).releaseClaim p).policyStop p else s

/-- Entry to Quarantined (R161); with FABRIC off the Currant alone holds it (R163). -/
def State.quarantine (s : State) (p : Nat) (byFault : Bool) : State :=
  if !s.fitted p then s
  else if !s.domOn Dom.fabric then
    if s.portsOn p && !s.on F.DSW_PSTAT_QUAR p then (s.quarCurrant p).logPort p 5 (Config.caseCode 161 1) else s
  else
    let s := s.put F.DPE_CTL_QUAR p true
    let s := if byFault then s.put F.DPE_STATE_QUAR_FAULT p true else s
    if s.dpeIs p .quarantined then (if s.portsOn p then s.put F.DSW_PSTAT_QUAR p true else s)
    else
      let s := if s.connected p then s.change p cConnection else s
      let s := s.quarCurrant p
      let s := ((s.ttCut p).noDevice p).updDpe p (fun r => { r with corrupt := 0, quarFresh := true })
      let s := s.migAbort p 2
      (s.logPort p 5 (Config.caseCode 161 (if byFault then 1 else 2))).setDpe p .quarantined

/-- The fault reaction latch port off (R291, R294): from any state but LATCHED; the migration of the port is aborted
(R141). -/
def State.latchOff (s : State) (p : Nat) : State :=
  if s.live p then
    let had := s.contracted p
    let s := (s.setFld F.PWR_PSTAT_CAUSE p 10).sinkOpen p
    let s := if s.pwrIs p .latched then s else s.latch p
    let s := if had then s.hardReset p true else s
    let s := s.migAbort p 3
    if s.dpeIs p .migrating then s.leaveHold p else s
  else s

/-- Release of a quarantine (R162): the new state, or none when it is refused. -/
def State.quarRelease (s : State) (p : Nat) : Option State :=
  if s.quarHeld p || s.on F.DSW_PSTAT_STBUSY p then none
  else
    let s := ((s.put F.DPE_CTL_QUAR p false).put F.DSW_PSTAT_QUAR p false).put F.DPE_STATE_QUAR_FAULT p false
    let s := (s.ccEnableCause p 1).logPort p 5 (Config.caseCode 162 1)
    if s.dpeIs p .quarantined then
      some (if s.isoCause p && s.portsOn p then (s.incr F.DPE_CNT4_ISOLATIONS p).setDpe p .isolated else s.leaveHold p)
    else some s

/-! ### Glitches (R165 to R168) -/

/-- A burst runs on port `p`, or a chirp corruption is armed or acts on the reset under way (R168). -/
def State.glitchRuns (s : State) (p : Nat) : Bool :=
  s.on F.DPE_GLITCH_CTL_BUSY p || s.on F.DPE_GLITCH_CTL_ARMED p
    || (s.dpeIs p .resetting && decide ((s.dpe.at p).corrupt ≠ 0))

/-- A glitch of port `p` is suppressed (R168): a rank 1 or 2 actor holds it in RETRYWAIT, LATCHED and CCOVHold (R226). -/
def State.glitchBarred (s : State) (p typ : Nat) : Bool :=
  decide (typ % 4 = 0) || s.dpeIn p [.poweredOff, .isolated, .quarantined] || !s.switchClosed p
    || s.glitchRuns p || s.pwrIn p [.retryWait, .latched] || s.ccIs p .ccOvHold

/-- The case of R168 that suppresses a glitch, by its place in the rule's list. -/
def State.glitchCase (s : State) (p typ : Nat) : Nat :=
  if typ % 4 = 0 then 1
  else if s.dpeIn p [.poweredOff, .isolated, .quarantined] || !s.switchClosed p then 2
  else if s.glitchRuns p then 3 else 4

/-- A suppressed glitch counts and is logged (R168). -/
def State.glitchSuppressed (s : State) (p typ : Nat) : State :=
  (s.incr F.DPE_CNT3_GSUPPR p).logPort p 7 (Config.caseCode 168 (s.glitchCase p typ))

/-- Start a glitch, or suppress it (R167, R168).  `cfg` and `gap` are encoded as DPE_GLITCH_CFG and DPE_GLITCH_GAP; `win` is the
chirp corruption window in 10 ms, 0 for the port's own (R339). -/
def State.glitchStart (s : State) (p cfg gap win : Nat) : State :=
  let typ := cfg % 4
  let win := if win = 0 then max 1 (s.fld F.DPE_GLITCH_CTL_WIN p) else win
  if s.glitchBarred p typ then s.glitchSuppressed p typ
  else
    let g : Glitch := ⟨typ, cfg / 4 % 2, cfg.testBit 3, max 1 (cfg / 65536 % 65536), max 1 (gap % 2 ^ 24),
      if typ = 1 then max 1 (cfg / 16 % 16) else 0, s.ct + 9600000 * win⟩
    let s := s.updDpe p (fun r => { r with glitch := g })
    if typ = 1 then s.put F.DPE_GLITCH_CTL_BUSY p true
    else if s.dpeIs p .resetting && !(s.dpe.at p).chirped then s.updDpe p (fun r => { r with corrupt := typ })
    else s.put F.DPE_GLITCH_CTL_ARMED p true

/-- The word of DPE_GLITCH_CFG as its fields stand. -/
def State.glitchCfg (s : State) (p : Nat) : Nat :=
  s.fld F.DPE_GLITCH_CFG_TYPE p + 4 * s.fld F.DPE_GLITCH_CFG_UNIT p + 8 * s.fld F.DPE_GLITCH_CFG_MIDPKT p
    + 16 * s.fld F.DPE_GLITCH_CFG_COUNT p + 65536 * s.fld F.DPE_GLITCH_CFG_LEN p

end Sys2Proof.Machine
end

