-- ==== Sys2Proof/Machine/MfOps.lean ====
section
/-! DEFINITION. The operations of a management function instance and of port 33 (R191 to R208). -/

namespace Sys2Proof.Machine

/-! ### Identity (R125, R194, R427) -/

/-- idVendor or idProduct as the NVM's factory identity holds it at byte `o` of the region after the serial number
(R125, R427; the order of the fields is taken from the rule's own order, log entry 14). -/
def State.identity (s : State) (o : Nat) : List Nat := s.readBytes (0x08000008 + o) 2

/-- The unit serial number, without the zeros that fill its field (R125, R427). -/
def State.serial (s : State) : List Nat := (s.readBytes 0x08000000 8).filter (fun b => decide (b ≠ 0))

/-- The ASCII codes of a text. -/
def ascii (t : String) : List Nat := t.toList.map Char.toNat

/-- A USB string descriptor of ASCII characters (USB 2.0, log entry 12). -/
def stringDesc (l : List Nat) : List Nat := [2 + 2 * l.length, 3] ++ l.flatMap (fun c => [c, 0])

/-- The 16 bytes of a notice (R204). -/
def noticeBytes (n : Notice) : List Nat :=
  [n.typ % 256, n.sync % 4 + 4 * bit01 n.afterDrop] ++ le 2 n.nseq ++ le 8 n.ct ++ le 4 n.data


/-- PSTATE of port 33 of partition `k` (R193), in the codes of R146. -/
def State.p33Is (s : State) (k : Nat) (d : Dpe) : Bool := decide (s.fld F.MF_STAT_PSTATE k = d.code)

/-- Port 33 is in one of the states listed. -/
def State.p33In (s : State) (k : Nat) (l : List Dpe) : Bool := l.any (s.p33Is k)

/-- Set PSTATE of port 33. -/
def State.setP33 (s : State) (k : Nat) (d : Dpe) : State := s.setFld F.MF_STAT_PSTATE k d.code

/-- Set a change bit of port 33 of partition `k`. -/
def State.change33 (s : State) (k b : Nat) : State :=
  { s with parts := s.parts.upd k (fun r => { r with change33 := withBit r.change33 b true }) }

/-- The register index of descriptor `e` of instance `k`. -/
def epd (k e : Nat) : Nat := 5 * k + e

/-- Bytes in a half of endpoint `e` of instance `k` (R197). -/
def State.epHalf (s : State) (k e : Nat) : Nat :=
  s.fld F.MF_EPD_SIZE (epd k e) * (if e ≠ 0 ∧ s.on F.MF_EPD_DBL (epd k e) then 32 else 64)

/-- The halves of endpoint `e` of instance `k` (R197). -/
def State.epHalves (s : State) (k e : Nat) : Nat := if e ≠ 0 ∧ s.on F.MF_EPD_DBL (epd k e) then 2 else 1

/-- The smallest half of endpoint `e`, in bytes (R198). -/
def epMinimum (e : Nat) : Nat := match e with
  | 0 => 64 | 1 => 1536 | 2 => 1088 | 3 => 64 | _ => 512

/-- A descriptor meets the conditions of R198. -/
def State.epGood (s : State) (k e : Nat) : Bool :=
  decide (s.fld F.MF_EPD_START (epd k e) + s.fld F.MF_EPD_SIZE (epd k e) ≤ 2048)
    && (decide (e = 0) || !s.on F.MF_EPD_DBL (epd k e) || decide (s.fld F.MF_EPD_SIZE (epd k e) % 2 = 0))
    && decide (epMinimum e ≤ s.epHalf k e)

/-- The endpoint buffers of instance `k` overlap each other or those of another connected instance (R197, R213). -/
def State.buffersOverlap (s : State) (k : Nat) : Bool :=
  let all := ([0, 1, 2, 3].filter (fun j => j == k || s.on F.MF_CTL_CONNECT j)).flatMap (fun j => [0, 1, 2, 3, 4].map (epd j))
  all.any (fun x => decide (x / 5 = k) && all.any (fun y =>
    let a := s.fld F.MF_EPD_START x
    let b := s.fld F.MF_EPD_START y
    decide (x ≠ y) && decide (a < b + s.fld F.MF_EPD_SIZE y ∧ b < a + s.fld F.MF_EPD_SIZE x)))

/-- An instance connects between `s` and `t` over endpoint buffers that overlap, whose results are unpredictable (R213). -/
def overlapApplied (s t : State) : Bool :=
  [0, 1, 2, 3].any (fun k => t.on F.MF_CTL_CONNECT k && !s.on F.MF_CTL_CONNECT k && t.buffersOverlap k)

/-- The machine goes on from `s` as `t`, but stops where an instance connects over buffers that overlap (R213). -/
def orOverlap (s t : State) : Host.Outcome State Fault Refusal := orUnpredictable (if overlapApplied s t then 213 else 0) t

/-- Where half `h` of endpoint `e` of instance `k` begins (R197). -/
def State.epBase (s : State) (k e h : Nat) : Nat :=
  0x200D8000 + 64 * s.fld F.MF_EPD_START (epd k e) + h % s.epHalves k e * s.epHalf k e

/-- The hardware writes bytes into half `h` of an endpoint's buffer, from its byte `o` on (R197): no byte goes past the half
or past the pool. -/
def State.epWrite (s : State) (k e h o : Nat) (bytes : List Nat) : State :=
  let a := s.epBase k e h + o
  s.writeBytes a (bytes.take (min (s.epHalf k e - o) (0x200F8000 - a)))

/-! ### Frames on EP1 (R201) -/

/-- LEN of a frame whose first 16 bytes have arrived (R201). -/
def frameLen (f : List Nat) : Nat := ofLe ((f.drop 4).take 2)

/-- The transfer on EP1 as far as it has come (R201): a frame whose last byte has arrived goes to the mailbox block whole,
or its header alone, marked oversize, where LEN is above 1,024; a transfer of any other length is dropped at its end.  The
counts are of frames handed on and of frames dropped.  Of a transfer that goes on past a frame already handed on, the frame
is dropped if the mailbox block has not taken it (log entry 139). -/
def MfInst.ep1Next (r : MfInst) : MfInst × Nat × Nat :=
  let clear : MfInst := { r with part := [], partLen := 0, ended := false, tail := false }
  let n := frameLen r.part
  let exact := decide (16 ≤ r.partLen ∧ r.partLen = 16 + n)
  if r.tail then
    if !r.ended then (r, 0, 0) else if exact then (clear, 0, 0) else ({ clear with frames := r.frames.dropLast }, 0, 1)
  else if exact then
    let h := r.part.take 16
    let f := if 1024 < n then h.take 6 ++ [withBit (h.getD 6 0) 5 true] ++ h.drop 7 else r.part
    (if r.ended then { clear with frames := r.frames ++ [f] }
      else { r with frames := r.frames ++ [f], part := h, tail := true }, 1, 0)
  else if r.ended then (clear, 0, 1) else (r, 0, 0)

/-- A notice queue loses what it holds (R203, R207). -/
def NoticeQ.discard (q : NoticeQ) : NoticeQ :=
  { q with items := [], inflight := 0, dropped := q.dropped + q.items.length }

/-- What FABRIC leaves of an instance as it goes off (R203): the complete frames not taken, and the count of notices
dropped. -/
def MfInst.fabricOff (r : MfInst) : MfInst :=
  { (default : MfInst) with
    frames := r.ep1Next.1.frames, outHalf := r.outHalf, inHalf := r.inHalf, ep3Half := r.ep3Half, ep4Half := r.ep4Half,
    notices := r.notices.discard }

/-- A control transfer under way is abandoned (R196). -/
def State.controlAbandon (s : State) (k : Nat) : State :=
  if (s.mf.at k).control = .idle then s
  else
    (s.updMf k (fun r => { r with control := .idle, wantAddr := none, wantCfg := none, ep0 := [] })).incr
      F.MF_CNT2_CTLABORT k

/-- The transfer on EP1 goes on: frames handed on and dropped are counted (R201). -/
def State.ep1End (s : State) (k : Nat) : State :=
  let x := (s.mf.at k).ep1Next
  let s := (s.updMf k (fun _ => x.1)).add F.MF_CNT0_FRAMEDROP k x.2.2
  if x.2.1 = 0 then s else (s.incr F.MF_CNT0_FRAMES k).irq (139 + k)

/-- The EP4 transfer of instance `k` that is not completed ends: its records are sent again (R203, R209). -/
def State.unplace (s : State) (k : Nat) : State :=
  { s with trc := { s.trc with placed := s.trc.placed.filter (fun x => decide (x.1 ≠ k)) } }

/-- What an instance reset and SET_CONFIGURATION(0) share (R203). -/
def State.mfFlush (s : State) (k : Nat) : State :=
  let s := s.ep1End k
  let r := s.mf.at k
  let s := if r.partLen ≠ 0 ∧ r.tail = false then s.incr F.MF_CNT0_FRAMEDROP k else s
  let s := s.add F.MF_CNT3_RESPDROP k (r.responses.length + r.waiting.length)
  let s := s.add F.MF_CNT1_NOTDROP k r.notices.items.length
  let s := s.updMf k (fun r => { r with
    halts := [], toggles := 0, part := [], partLen := 0, ended := false, tail := false, responses := [], waiting := [],
    notices := r.notices.discard })
  let s := ((s.unplace k).put F.MF_STAT_NOTPEND k false).put F.MF_STAT_CONFIGURED k false
  (s.incr F.MF_CNT2_RESETS k).irq (135 + k)

/-- An instance reset (R203). -/
def State.mfReset (s : State) (k : Nat) : State :=
  let s := (s.controlAbandon k).mfFlush k
  let s := (s.setFld F.MF_STAT_ADDR k 0).put F.MF_STAT_RWE k false
  s.updMf k (fun r => { r with waking := false })

/-- Port 33 enters Powered-off, from whichever state, with an instance reset (R193). -/
def State.p33Off (s : State) (k : Nat) : State := (s.mfReset k).setP33 k .poweredOff

/-- Port 33 follows CONNECT and DESC_BAD (R193): `lost` says that CONNECT has just applied 0 over 1 or DESC_BAD become 1,
which resets the instance in whichever state its port is (R203). -/
def State.p33Update (s : State) (k : Nat) (lost : Bool) : State :=
  let ok := s.on F.MF_CTL_CONNECT k && !s.on F.MF_STAT_DESC_BAD k
  if s.p33Is k .disconnected && ok then (s.setP33 k .disabled).change33 k cConnection
  else if s.p33In k [.disabled, .resetting, .enabled, .transmit, .suspended, .resuming] && !ok then
    ((s.mfReset k).setP33 k .disconnected).change33 k cConnection
  else if lost then s.mfReset k
  else s

/-- The descriptors of instance `k` are checked as their group applies (R198). -/
def State.descCheck (s : State) (k : Nat) : State :=
  let bad := !(List.range 5).all (s.epGood k)
  (s.put F.MF_STAT_DESC_BAD k bad).p33Update k (bad && !s.on F.MF_STAT_DESC_BAD k)

/-- The instance is reached by its host (R191): visible and Enabled. -/
def State.mfUp (s : State) (k : Nat) : Bool :=
  decide (k < 4) && s.on F.PART_PSTAT_HOST k && s.on F.PART_PSTAT_ATTACHED k && s.p33Is k .enabled

/-- wPortStatus and wPortChange of port 33 (R193; bit places of USB 2.0, log entry 12). -/
def State.status33 (s : State) (k : Nat) : Nat :=
  let conn := s.p33In k [.disabled, .resetting, .enabled, .suspended, .resuming]
  let en := s.p33In k [.enabled, .suspended, .resuming]
  bit01 conn + 2 * bit01 en + 4 * bit01 (s.p33In k [.suspended, .resuming]) + 16 * bit01 (s.p33Is k .resetting)
    + 256 * bit01 (!s.p33Is k .poweredOff) + 1024 * bit01 (en && s.on F.MF_STAT_SPEED k)

/-- Responses that wait move into free halves of EP2, each with its RESPONSE notice (R202, R206); `fuel` bounds the
moves. -/
def State.ep2Fill (s : State) (k : Nat) : Nat → State
  | 0 => s
  | n + 1 =>
    let r := s.mf.at k
    match r.waiting with
    | [] => s
    | f :: rest =>
      if r.responses.length < s.epHalves k 2 then
        let s := s.epWrite k 2 (r.inHalf + r.responses.length) 0 f
        let s := s.updMf k (fun r => { r with responses := r.responses ++ [f], waiting := rest })
        (s.noticeTo k 1 (ofLe ((f.drop 2).take 2))).ep2Fill k n
      else s

/-- A response for instance `k` is placed, or waits (R202); with FABRIC off there is no endpoint to place it in. -/
def State.ep2Place (s : State) (k : Nat) (f : List Nat) : State :=
  if !s.domOn Dom.fabric then s
  else (s.updMf k (fun r => { r with waiting := r.waiting ++ [f] })).ep2Fill k 2

end Sys2Proof.Machine
end

