-- ==== Sys2Proof/Machine/TraceOps.lean ====
section
/-! DEFINITION. The trace engine's operations: memory, records, capture control, triggers and the export stream (R350 to
R369). -/

namespace Sys2Proof.Machine

/-- Change the trace engine's record. -/
def State.updTrc (s : State) (f : TraceHw → TraceHw) : State := { s with trc := f s.trc }

/-- The engine is powered: TRACE is on (R65). -/
def State.traceOn (s : State) : Bool := s.domOn Dom.trace

/-- Capture is in RUN (2) or POST (3). -/
def State.capturing (s : State) : Bool :=
  s.traceOn && (decide (s.fld F.TRC_STAT_STATE 0 = 2) || decide (s.fld F.TRC_STAT_STATE 0 = 3))

/-- Records go to Bilberry (R361). -/
def State.toBilberry (s : State) : Bool := s.on F.TRC_CFG_MEM 0 && s.bilberry 0

/-- SIZE (R361). -/
def State.traceSize (s : State) : Nat :=
  if s.toBilberry then (if s.bilberry 1 then 2 ^ 31 else 2 ^ 30) else 262144

/-- Where the trace byte of count `c` is kept. -/
def State.traceAddr (s : State) (c : Nat) : Nat :=
  if s.toBilberry then bilberryAddr (c % s.traceSize) else 0x20087000 + c % s.traceSize

/-- Read `n` trace bytes from count `c` on. -/
def State.traceBytes (s : State) (c n : Nat) : List Nat := (List.range n).map (fun j => s.byte (s.traceAddr (c + j)))

/-- A length rounded up to 16 (R353). -/
def up16 (n : Nat) : Nat := (n + 15) / 16 * 16

/-- The bytes of a record: CT, W, payload padded to 16 (R353). -/
def recordBytes (ct sync typ fields : Nat) (payload : List Nat) : List Nat :=
  le 8 ct ++ le 8 (typ + 16 * sync + 64 * payload.length + 2 ^ 17 * fields) ++ payload
    ++ List.replicate (up16 payload.length - payload.length) 0

/-- Bytes that stand between WR and the end of memory (R361): the tail is RD while a stream is set in STOPFULL. -/
def State.traceFree (s : State) : Nat :=
  let t := s.trc
  let tail := if !s.on F.TRC_CFG_MODE 0 && decide (1 ≤ s.fld F.TRC_EXP_DEST 0 ∧ s.fld F.TRC_EXP_DEST 0 ≤ 5) then t.rd
    else t.oldest
  tail + s.traceSize - t.wr

/-- Bytes a record of `n` bytes takes from WR on, PAD included (R353). -/
def State.traceNeed (s : State) (n : Nat) : Nat :=
  let rest := 4096 - s.trc.wr % 4096
  if rest < n then rest + n else n

/-- In WRAP mode OLDEST makes room a whole page at a time, and RD never stays behind it (R361, R365). -/
def State.traceWrap (s : State) (n : Nat) : State :=
  let t := s.trc
  if s.on F.TRC_CFG_MODE 0 && decide (t.oldest + s.traceSize < t.wr + n) then
    let oldest := (t.wr + n - s.traceSize + 4095) / 4096 * 4096
    let first := !s.on F.TRC_STAT_FULL 0
    let s := s.updTrc (fun t => { t with
      oldest := oldest, lost := t.lost + (oldest - t.rd), rd := max t.rd oldest,
      bad := t.bad.filter (fun c => decide (oldest ≤ c)) })
    let s := s.put F.TRC_STAT_FULL 0 true
    if first then (s.notice 5 4).irq 158 else s
  else s

/-- Put bytes at WR. -/
def State.traceRaw (s : State) (bytes : List Nat) : State :=
  let s := s.writeBytes (s.traceAddr s.trc.wr) bytes
  s.updTrc (fun t => { t with wr := t.wr + bytes.length })

/-- Write a record at WR, after a PAD record where it does not fit in the page (R353). -/
def State.tracePut (s : State) (ct sync typ fields : Nat) (payload : List Nat) : State :=
  let bytes := recordBytes ct sync typ fields payload
  let rest := 4096 - s.trc.wr % 4096
  let s := s.traceWrap (s.traceNeed bytes.length)
  let s := if rest < bytes.length then s.traceRaw (recordBytes s.trc.lastCt s.trc.lastSync 6 0 (List.replicate (rest - 16) 0)) else s
  (s.traceRaw bytes).updTrc (fun t => { t with lastCt := ct, lastSync := sync })

/-- A record is dropped whole and counted (R359, R360). -/
def State.traceDrop (s : State) (ct sync : Nat) : State :=
  let first := s.trc.dropped = 0
  let s := (s.updTrc (fun t => { t with
    dropped := t.dropped + 1, dropCt := if first then ct else t.dropCt,
    dropSync := if first then sync else t.dropSync })).incr F.TRC_CNT0_DROPS 0
  let s := s.put F.TRC_STAT_DROPPING 0 true
  if first then s.irq 159 else s

/-- The DROP record is written when room has returned (R359). -/
def State.traceDropRecord (s : State) : State :=
  if s.trc.dropped = 0 then s
  else
    let t := s.trc
    let s := s.tracePut t.dropCt t.dropSync 3 (t.dropped % 2 ^ 32) []
    (s.updTrc (fun t => { t with dropped := 0 })).put F.TRC_STAT_DROPPING 0 false

/-- In STOPFULL mode a record of `n` bytes would leave less than 4 KiB (R361). -/
def State.traceTight (s : State) (n : Nat) : Bool :=
  !s.on F.TRC_CFG_MODE 0 && decide (s.traceFree < s.traceNeed n + 4096)

/-- A record of `n` bytes, after the DROP record that it may owe, does not fit (R361). -/
def State.traceCramped (s : State) (n : Nat) : Bool := s.traceTight (if s.trc.dropped = 0 then n else n + 16)

/-- The STOP record is written in its reserve, after the DROP record that is owed (R357, R359, R360). -/
def State.traceClose (s : State) (q : TraceHalt) : State :=
  let s := s.traceDropRecord
  let s := s.updTrc (fun t => { t with halted := some { q with lastCt := t.lastCt, lastSync := t.lastSync, atEnd := true } })
  s.tracePut q.ct q.sync 5 q.cause []

/-- Capture stops with a cause (R357, R361).  The STOP record is written at once; a packet that had started takes its place
when it ends, and the record follows it (`traceLate`, log entry 158). -/
def State.traceStop (s : State) (cause : Nat) : State :=
  if s.capturing then
    let s := (s.traceClose ⟨s.trc.startCt, s.ct, s.sync, cause, 0, 0, true⟩).setFld F.TRC_STAT_STATE 0 4
    let s := s.updTrc (fun t => { t with full := false })
    let full := decide (cause = 3) && !s.on F.TRC_STAT_FULL 0
    let s := if cause = 3 then s.put F.TRC_STAT_FULL 0 true else s
    (s.notice 5 (2 + 4 * bit01 full)).irq 158
  else s

/-- A record passes the capture buffer: stored, after a pending DROP record, or dropped; in STOPFULL mode one that does not fit
stops capture (R357, R359 to R361). -/
def State.traceRecord (s : State) (room : Bool) (ct sync typ fields : Nat) (payload : List Nat) : State :=
  if s.traceCramped (16 + up16 payload.length) then (s.traceDrop ct sync).traceStop 3
  else if !room then s.traceDrop ct sync
  else (s.traceDropRecord).tracePut ct sync typ fields payload

/-- A record other than a packet's, stamped now: it is dropped while the capture buffer is full (R359). -/
def State.traceNow (s : State) (typ fields : Nat) (payload : List Nat) : State :=
  s.traceRecord (!s.trc.full) s.ct s.sync typ fields payload

/-- The stop that a packet which started at a CT was under way at, for at most the longest packet of 0.8 ms (R352, R357). -/
def State.lateFor (s : State) (ct : Nat) : Option TraceHalt :=
  s.trc.halted.filter (fun q => decide (q.since ≤ ct ∧ ct ≤ q.ct ∧ s.ct < q.ct + 768000))

/-- A packet that was under way at STOP ends: its record is written, or counted, and the STOP record follows it (R357, R369). -/
def State.traceLate (s : State) (q : TraceHalt) (room : Bool) (ct sync fields : Nat) (payload : List Nat) : State :=
  let s := if q.atEnd ∧ s.trc.rd + 16 ≤ s.trc.wr then
      s.updTrc (fun t => { t with wr := t.wr - 16, lastCt := q.lastCt, lastSync := q.lastSync }) else s
  let s := if !room || s.traceCramped (16 + up16 payload.length) then s.traceDrop ct sync
    else (s.traceDropRecord).tracePut ct sync 0 fields payload
  s.traceClose q

/-- With TRACE off a start, mark or trigger is logged as suppressed (R21): its kind 0 start, 1 mark, 2 trigger, and two
values. -/
def State.traceSuppressed (s : State) (kind a b : Nat) : State := s.logOther 0 0x1C (le 4 kind ++ le 4 a ++ le 4 b)

/-- Capture starts with a cause (R357). -/
def State.traceStart (s : State) (cause : Nat) : State :=
  if s.traceOn && !s.capturing then
    let s := (s.updTrc (fun t => { t with
      startCt := s.ct, trigCt := none, halted := t.halted.map (fun q => { q with atEnd := false }) })).setFld
      F.TRC_STAT_STATE 0 2
    let s := (s.put F.TRC_STAT_TRIGGERED 0 false).incr F.TRC_CNT1_STARTS 0
    s.traceNow 4 cause []
  else if !s.traceOn then s.traceSuppressed 0 cause 0
  else s

/-- A trigger arises (R358): cause 0 software, 1 mark match, 2 fault, with its entry index or fault ID; a second one on the
same edge is ignored (R369).  TRIGPOS is WR before the TRIGGER record and what goes before it, a PAD or DROP record
(DESIGN CHOICE, log entry 159). -/
def State.traceTrigger (s : State) (cause id : Nat) : State :=
  if !s.traceOn then s.traceSuppressed 2 cause id
  else if s.fld F.TRC_STAT_STATE 0 = 2 ∧ s.trc.trigCt ≠ some s.ct then
    let at0 := s.trc.wr
    let s := (s.updTrc (fun t => { t with trigCt := some s.ct })).traceNow 2 (cause + 2 ^ 15 * id) []
    let s := (s.put F.TRC_STAT_TRIGGERED 0 true).incr F.TRC_CNT0_TRIGS 0
    let s := if s.fld F.TRC_TRIG_POST 0 = 0 then s
      else
        let s := s.updTrc (fun t => { t with trigPos := at0 })
        if s.capturing then s.setFld F.TRC_STAT_STATE 0 3 else s
    (s.notice 5 1).irq 158
  else s.incr F.TRC_CNT1_TRIGIGN 0

/-- A trace mark action of entry `i` with a matching VALUE is a trigger (R358). -/
def State.markTriggers (s : State) (i value : Nat) : State :=
  if s.on F.TRC_TRIG_MARKEN 0 && decide (s.fld F.TRC_TRIGV_VALUE 0 = value) then
    s.traceTrigger 1 i
  else s

/-- An event of a fault source whose ID matches is a trigger (R358). -/
def State.faultTriggers (s : State) (id : Nat) : State :=
  let fmask := s.fld F.TRC_TRIGF_FMASK 0
  if s.on F.TRC_TRIG_FAULTEN 0 && decide (Nat.land id fmask = Nat.land (s.fld F.TRC_TRIGF_FID 0) fmask) then
    s.traceTrigger 2 id
  else s

/-- A MARK record (R355): entry index or 0x1FF, launch mark, TAG, VALUE, ports launched and suppressed, CODE; with TRACE off it
is logged as suppressed (R21). -/
def State.traceMark (s : State) (entry : Nat) (launch : Bool) (tag value launched suppressed code : Nat) : State :=
  if s.capturing then
    s.traceNow 1 (entry + 2 ^ 9 * bit01 launch + 2 ^ 15 * tag)
      (le 4 value ++ le 4 launched ++ le 4 suppressed ++ [code % 256, 0, 0, 0])
  else if !s.traceOn then s.traceSuppressed 1 entry value
  else s

/-- CLEAR in IDLE or STOPPED resets the pointers (R357). -/
def State.traceClear (s : State) : State :=
  if s.traceOn && !s.capturing then
    let s := s.updTrc (fun t => { t with
      wr := 0, rd := 0, oldest := 0, trigPos := 0, dropped := 0, lost := 0, cut := 0, sent := 0, marks := [], sentFrom := 0,
      placed := none, halted := none, bad := [] })
    ((s.setFld F.TRC_STAT_STATE 0 1).put F.TRC_STAT_FULL 0 false).put F.TRC_STAT_DROPPING 0 false
  else s

/-! ### Filters (R356, R369) -/

/-- The filter group in force. -/
def State.filterGroup (s : State) : FilterGroup where
  ports := s.fld F.TRC_PORTS_PORTS 0
  rep := s.fld F.TRC_TAPS_REP 0
  tt := s.on F.TRC_TAPS_TT 0
  unattr := s.on F.TRC_TAPS_UNATTR 0
  mf := s.on F.TRC_TAPS_MF 0
  pidCls := s.fld F.TRC_TAPS_PIDCLS 0
  matches' := (List.range 8).map (fun i =>
    (s.on F.TRC_AMATCH_EN i, s.on F.TRC_AMATCH_EPANY i, s.fld F.TRC_AMATCH_EP i, s.fld F.TRC_AMATCH_ADDR i))

/-- Packets may be under way whose records capture will write (R350, R357). -/
def State.traceWatches (s : State) : Bool := s.capturing || (s.traceOn && s.trc.halted.isSome)

/-- The group `g` is replaced now: packets under way keep it, for at most the longest packet of 0.8 ms (R352, R369). -/
def State.filterChanged (s : State) (g : FilterGroup) : State :=
  if s.traceWatches && !decide (s.trc.oldFilters.head? = some (s.ct, g)) then
    s.updTrc (fun t => { t with oldFilters := (s.ct, g) :: t.oldFilters.filter (fun e => decide (s.ct < e.1 + 768000)) })
  else s

/-- The filter group that applied when a packet started at a CT (R369). -/
def State.filterAt (s : State) (ct : Nat) : FilterGroup :=
  match (s.trc.oldFilters.filter (fun e => decide (ct < e.1))).getLast? with
  | some e => e.2
  | none => s.filterGroup

/-- The SYNC state is left now: the stamp of a packet under way keeps it (R353). -/
def State.syncLeft (s : State) : State :=
  if s.traceWatches then
    s.updTrc (fun t => { t with oldSyncs := (s.ct, s.sync) :: t.oldSyncs.filter (fun e => decide (s.ct < e.1 + 768000)) })
  else s

/-- SYNC at a CT (R353). -/
def State.syncAt (s : State) (ct : Nat) : Nat :=
  match (s.trc.oldSyncs.filter (fun e => decide (ct < e.1))).getLast? with
  | some e => e.2
  | none => s.sync

/-- The words that a read of the store corrects are counted (R362): with one and with two bits, at byte count `c`. -/
def State.traceFixed (s : State) (c one two : Nat) : State :=
  if s.toBilberry then
    let k := c % s.traceSize / 2 ^ 30
    (s.add F.BBC_ECC0_CORR1 k one).add F.BBC_ECC0_CORR2 k two
  else s.add F.TRC_ECC_CORR 0 (one + two)

/-! ### Export (R363, R365 to R367) -/

/-- What the next record of the stream is: its bytes (none when it is passed over), the count after it, whether a LOST
record stands in its place, whether it was withheld (R366), and CT and SYNC of the last record exported with it. -/
structure ExportItem where
  bytes : List Nat
  next : Nat
  lost : Bool
  withheld : Bool
  ct : Nat
  sync : Nat
deriving DecidableEq, Repr

/-- A word at a count from `c` to `c + n` could not be corrected (R363). -/
def State.traceBad (s : State) (c n : Nat) : Bool := s.trc.bad.any (fun b => decide (c ≤ b + 7 ∧ b < c + n))

/-- A LOST record of `n` bytes skipped (R355). -/
def lostBytes (ct sync n : Nat) : List Nat := recordBytes ct sync 7 (n % 2 ^ 32) []

/-- The record at count `c` as the exporter sends it, with at most `room` bytes, to partition `part` when restricted. -/
def State.exportAt (s : State) (c room lastCt lastSync : Nat) (part : Option Nat) : ExportItem :=
  if s.traceBad c 16 then
    let next := min ((c / 4096 + 1) * 4096) s.trc.wr
    ⟨lostBytes lastCt lastSync (next - c), next, true, false, lastCt, lastSync⟩
  else
    let ct := ofLe (s.traceBytes c 8)
    let w := ofLe (s.traceBytes (c + 8) 8)
    let typ := w % 16
    let cap := w / 64 % 2048
    let next := c + 16 + up16 cap
    let mine := match part with
      | some k => decide (typ ≠ 0) || decide (w / 2 ^ 19 % 4 = k)
      | none => true
    if typ = 6 then ⟨[], next, false, false, lastCt, lastSync⟩
    else if !mine then ⟨[], next, false, true, lastCt, lastSync⟩
    else
      let kept := min cap (room - 16)
      let poison := s.traceBad (c + 16) cap
      let w' := w % 64 + 64 * kept + w / 2 ^ 17 % 2 ^ 46 * 2 ^ 17 + 2 ^ 63 * bit01 poison
      ⟨le 8 ct ++ le 8 w' ++ s.traceBytes (c + 16) kept ++ List.replicate (up16 kept - kept) 0, next, false, false,
        ct, w / 16 % 4⟩

/-- Gather whole records; `fuel` bounds their number. -/
def State.gatherRecords (s : State) (part : Option Nat) (room : Nat) : Nat → Transfer → Transfer
  | 0, t => t
  | fuel + 1, t =>
    if s.trc.wr ≤ t.next then t
    else
      let e := s.exportAt t.next room t.ct t.sync part
      if room < t.bytes.length + e.bytes.length then t
      else s.gatherRecords part room fuel
        ⟨t.bytes ++ e.bytes, e.next, t.losts + bit01 e.lost, t.skipped + bit01 e.withheld, e.ct, e.sync⟩

/-- The LOST record that an overtaken RD owes (R365). -/
def State.owedLost (s : State) : List Nat :=
  if s.trc.lost = 0 then [] else lostBytes s.trc.exportCt s.trc.exportSync s.trc.lost

/-- The next transfer of the stream, after the LOST record that an overtaken RD owes (R365). -/
def State.nextTransfer (s : State) (part : Option Nat) (room : Nat) : Transfer :=
  let t := s.trc
  s.gatherRecords part room (room / 16 + (t.wr - t.rd) / 16 + 1)
    ⟨s.owedLost, t.rd, bit01 (decide (t.lost ≠ 0)), 0, t.exportCt, t.exportSync⟩

/-- The destination has acknowledged a transfer (R365, R366): where OLDEST has passed its end meanwhile, a LOST record is owed
for what lies between (R369). -/
def State.exported (s : State) (x : Transfer) : State :=
  let s := s.updTrc (fun t => { t with
    rd := max t.rd x.next, lost := t.rd - x.next, exportCt := x.ct, exportSync := x.sync,
    cut := 0, sent := 0, marks := [], placed := none })
  (s.add F.TRC_CNT2_LOSTEXP 0 x.losts).add F.TRC_CNT2_SKIPPED 0 x.skipped

end Sys2Proof.Machine
end

