-- ==== Sys2Proof/Machine/Chord.lean ====
section
/-! DEFINITION. Chord links, Chord Time, holdover, failover, ranges and CT_PPS (R317 to R331, R88). -/

namespace Sys2Proof.Machine

/-- Change the Chord controller's record. -/
def State.updChord (s : State) (f : ChordHw → ChordHw) : State := { s with chord := f s.chord }

/-- Change the record of link `l`. -/
def State.updLink (s : State) (l : Nat) (f : ChordLink → ChordLink) : State := { s with links := s.links.upd l f }

/-- CHORD is on (R348). -/
def State.chordOn (s : State) : Bool := s.domOn Dom.chord

/-- The part is the Apex (R317). -/
def State.apex (s : State) : Bool := s.on F.CHORD_CFG_APEX 0

/-- STATE of link `l` (R321). -/
def State.linkState (s : State) (l : Nat) : Nat := s.fld F.CHORD_LSTAT_STATE l

/-- The recovered reference is there while the active up-link of a Vertex is UP; when that link fails under AUTO, the PLL
goes back to the 24 MHz source (R63). -/
def State.recRefresh (s : State) (l st : Nat) : State :=
  if s.apex || decide (2 ≤ l) then s
  else if st = 4 then s.put F.PMU_CLKSTAT_REC_OK 0 true
  else if s.fld F.CHORD_STAT_ACTIVEUP 0 = l then
    let s := s.put F.PMU_CLKSTAT_REC_OK 0 false
    if s.on F.PMU_CLKCTL_AUTO 0 then s.put F.PMU_CLKSTAT_REF_ACTIVE 0 false else s
  else s

/-- Link `l` enters a state; link state changes raise interrupt source 157 (R384). -/
def State.setLink (s : State) (l st : Nat) : State :=
  ((s.setFld F.CHORD_LSTAT_STATE l st).recRefresh l st).irq 157

/-- Something is sent on a link. -/
def State.chordSend (s : State) (m : ChordOut) : State := s.updChord (fun c => { c with out := c.out ++ [m] })

/-- A new event of the controller: nothing sent yet. -/
def State.chordHush (s : State) : State := s.updChord (fun c => { c with out := [] })

/-- The active up-link. -/
def State.activeUp (s : State) : Nat := s.fld F.CHORD_STAT_ACTIVEUP 0

/-- The active up-link is UP and in use. -/
def State.upActive (s : State) : Bool := s.chordOn && !s.apex && s.chord.active && decide (s.linkState s.activeUp = 4)

/-- SYNC changes: a TIME record and a TIME notice (R325). -/
def State.setSync (s : State) (n : Nat) : State :=
  if s.sync = n then s
  else (((s.syncLeft.setFld F.CHORD_STAT_SYNC 0 n).logTime 1 (le 4 n)).notice 7 n).irq 156

/-- The part sends IDENT on link `l`: role, depth, SYNC, address, and on a down-link the range it offers (R321). -/
def State.sendIdent (s : State) (l : Nat) : State :=
  let range := if 2 ≤ l then (s.fld F.CHORD_DNRANGE_DNLO (l - 2), s.fld F.CHORD_DNRANGE_DNHI (l - 2)) else (0xFFFF, 0)
  s.chordSend (.ident l s.apex (s.fld F.CHORD_STAT_DEPTH 0) s.sync (s.fld F.CHORD_STAT_ADDR 0) range.1 range.2)

/-- After a range change the part sends IDENT on its identified links among a list (R321); the peer takes a new range at its
next training alone (R319). -/
def State.identAgain (s : State) (l : List Nat) : State :=
  s.each (l.filter (fun l => s.chordOn && decide (3 ≤ s.linkState l ∧ s.linkState l ≤ 5))) State.sendIdent

/-! ### Ranges (R319) -/

/-- In AUTO the down-link ranges follow the own range (R319). -/
def State.autoRanges (s : State) : State :=
  if s.on F.CHORD_CFG_RANGEMODE 0 then s
  else
    let lo := s.fld F.CHORD_RANGE_LO 0
    let hi := s.fld F.CHORD_RANGE_HI 0
    let q := (hi - lo) / 4
    s.each [0, 1, 2, 3] (fun s d =>
      let a := lo + 1 + d * q
      let b := if d = 3 then hi else lo + (d + 1) * q
      let empty := decide (b < a) || !s.on F.CHORD_STAT_ADDRESSED 0
      (s.setFld F.CHORD_DNRANGE_DNLO d (if empty then 0xFFFF else a)).setFld F.CHORD_DNRANGE_DNHI d (if empty then 0 else b))

/-- The unit's own range becomes `lo` to `hi`; an empty one leaves it unaddressed (R319). -/
def State.setRange (s : State) (lo hi : Nat) : State :=
  let ok := decide (lo ≤ hi)
  let s := (s.setFld F.CHORD_RANGE_LO 0 (if ok then lo else 0)).setFld F.CHORD_RANGE_HI 0 (if ok then hi else 0)
  (((s.setFld F.CHORD_STAT_ADDR 0 (if ok then lo else 0)).put F.CHORD_STAT_ADDRESSED 0 ok).autoRanges).identAgain (List.range 6)

/-- The Apex holds every address, is always addressed, and in AUTO offers its down-links their shares (R319, R348). -/
def State.apexRange (s : State) : State :=
  if s.apex then
    let s := (s.setFld F.CHORD_RANGE_LO 0 0).setFld F.CHORD_RANGE_HI 0 0xFFFF
    ((s.setFld F.CHORD_STAT_ADDR 0 0).put F.CHORD_STAT_ADDRESSED 0 true).autoRanges
  else s

/-- RANGE_CHANGE (R319). -/
def execRangeChange (lo hi : Nat) (s : State) : Host.Outcome State Fault Refusal :=
  .next (if s.apex then s else s.chordHush.setRange (lo % 65536) (hi % 65536))

/-! ### Link states (R318, R321) -/

/-- CHORD_SIGNAL_DETECT (R321): the Apex never uses its up-links (R317). -/
def execChordSignalDetect (l : Nat) (s : State) : Host.Outcome State Fault Refusal :=
  .next <|
    if s.chordOn && decide (l < 6) && s.on F.CHORD_LCTL_EN l && decide (s.linkState l = 0) && !(s.apex && decide (l < 2)) then
      s.setLink l 1
    else s

/-- CHORD_TRAINED (R321). -/
def execChordTrained (l : Nat) (s : State) : Host.Outcome State Fault Refusal :=
  .next (if s.chordOn && decide (s.linkState l = 1) then (s.chordHush.setLink l 2).sendIdent l else s)

/-- The failover conditions of R328 for the parent on link `l`. -/
def State.failoverOk (s : State) (l : Nat) : Bool :=
  decide (s.fld F.CHORD_LSTAT_PEERSYNC l = 2) && !(s.links.at l).peerHold
    && decide (s.fld F.CHORD_LSTAT_PEERDEPTH l ≤ s.fld F.CHORD_STAT_DEPTH 0)
    && decide (s.fld F.CHORD_LSTAT_PEERDEPTH l + 1 ≤ 8)

/-- CHORD_IDENT (R318): the peer's role (Apex, up-link), depth, SYNC, holdover, address and offered range.  The first up-link to
reach MEASURE since the last part reset becomes the active one. -/
def execChordIdent (l : Nat) (peerApex peerUp peerHold : Bool) (depth sync addr lo hi : Nat) (s : State) :
    Host.Outcome State Fault Refusal :=
  .next <|
    if s.chordOn && decide (s.linkState l = 2) && decide (l < 6) then
      let s := (s.setFld F.CHORD_LSTAT_PEERADDR l addr).setFld F.CHORD_LSTAT_PEERDEPTH l depth
      let s := s.setFld F.CHORD_LSTAT_PEERSYNC l sync
      let s := s.updLink l (fun r => { r with offered := (lo % 65536, hi % 65536), peerHold := peerHold })
      let up := decide (l < 2)
      let deep := if up then decide (depth = 8) else decide (s.fld F.CHORD_STAT_DEPTH 0 = 8)
      let role := (peerApex && s.apex) || (peerUp == up)
      let alt := up && decide (l = 1) && s.chord.everActive && !s.failoverOk l
      let reason := if deep then 1 else if role then 2 else if alt then 3 else 0
      let s := s.setFld F.CHORD_LSTAT_REFUSE l reason
      if reason ≠ 0 then s.setLink l 6
      else
        let s := s.updLink l (fun r => { r with rtts := [], offs := [], firstOffset := none })
        let s := if up && !s.chord.chosen then
            (s.updChord (fun c => { c with chosen := true, everActive := true })).setFld F.CHORD_STAT_ACTIVEUP 0 l
          else s
        s.setLink l 3
    else s

/-- CHORD_IDENT_RETRY (R318): identification is tried again; the part sends no IDENT of its own for it, since R321 sends one at
training and after a range change (DESIGN CHOICE, log entry 167). -/
def execChordIdentRetry (l : Nat) (s : State) : Host.Outcome State Fault Refusal :=
  .next (if s.chordOn && decide (s.linkState l = 6) then s.setLink l 2 else s)

/-- The up-link `l` becomes the active one and takes the range that the parent offers (R319). -/
def State.upTaken (s : State) (l : Nat) : State :=
  let s := (s.setFld F.CHORD_STAT_ACTIVEUP 0 l).setFld F.CHORD_STAT_DEPTH 0 (s.fld F.CHORD_LSTAT_PEERDEPTH l + 1)
  let s := s.updChord (fun c => { c with active := true, chosen := true, everActive := true, holdSince := none })
  (s.put F.CHORD_STAT_HOLDOVER 0 false).setRange (s.links.at l).offered.1 (s.links.at l).offered.2

/-- The adoption entry `j` is in use for a link. -/
def State.adoptedOn (s : State) (l j : Nat) : Bool :=
  s.on F.CHORD_ADOPTB_VALID j && decide (s.fld F.CHORD_ADOPTB_LINK j = l)

/-- An adoption entry is removed, and RELEASE goes up unless its range lies within the own range (R329). -/
def State.adoptRemove (s : State) (j : Nat) : State :=
  let lo := s.fld F.CHORD_ADOPTA_LO j
  let hi := s.fld F.CHORD_ADOPTA_HI j
  let s := (s.setFld F.CHORD_ADOPTA_LO j 0).setFld F.CHORD_ADOPTA_HI j 0
  let s := (s.put F.CHORD_ADOPTB_VALID j false).setFld F.CHORD_ADOPTB_LINK j 0
  if (s.fld F.CHORD_RANGE_LO 0 ≤ lo ∧ hi ≤ s.fld F.CHORD_RANGE_HI 0) ∨ !s.upActive then s
  else s.chordSend (.release s.activeUp lo hi)

/-- Link `l` fails (R321): it goes DOWN, its failure counts and raises its fault source; adoptions over it are
released (R329). -/
def State.linkFail (s : State) (l : Nat) : State :=
  if s.linkState l = 0 then s
  else
    let s := ((s.setLink l 0).incr F.CHORD_LCNT0_DROPS l).raise (0x18 * 64 + l) l 0
    let s := (s.setFld F.CHORD_LRTT_VALUE l 0).setFld F.CHORD_LOFFS_VALUE l 0
    let s := s.updLink l (fun r => { r with rtts := [], offs := [], firstOffset := none })
    let s := if l < 2 ∧ s.activeUp = l then s.updChord (fun c => { c with active := false }) else s
    s.each ((List.range 16).filter (s.adoptedOn l)) State.adoptRemove

/-- CHORD_MEASURE_DONE (R321, R328): a Vertex's inactive up-link enters STANDBY; the active one comes UP, after a holdover where it
meets R328, and fails where the depth would pass 8. -/
def execChordMeasureDone (l : Nat) (s : State) : Host.Outcome State Fault Refusal :=
  .next <|
    if s.chordOn && decide (s.linkState l = 3) then
      if 2 ≤ l then s.setLink l 4
      else if s.activeUp = l ∧ !s.chord.active then
        if 8 ≤ s.fld F.CHORD_LSTAT_PEERDEPTH l then s.chordHush.linkFail l
        else if s.on F.CHORD_STAT_HOLDOVER 0 && !s.failoverOk l then s.setLink l 5
        else (s.chordHush.setLink l 4).upTaken l
      else s.setLink l 5
    else s

/-- CHORD_LINK_FAIL (R321): cause 0 loss of signal, 1 three markers missing (up-links), 2 sixteen symbol errors, 3 EN = 0. -/
def execChordLinkFail (l cause : Nat) (s : State) : Host.Outcome State Fault Refusal :=
  .next <|
    if s.chordOn && decide (l < 6) && (decide (cause ≠ 1) || decide (l < 2))
        && (decide (cause ≠ 3) || !s.on F.CHORD_LCTL_EN l) then
      let s := if cause = 2 then s.add F.CHORD_LCNT0_SYMERR l 16 else s
      s.chordHush.linkFail l
    else s

/-- EN of link `l` is written (R321). -/
def State.linkEnable (s : State) (l : Nat) (b : Bool) : State :=
  let s := s.put F.CHORD_LCTL_EN l b
  if b then s else s.linkFail l

/-! ### Markers, delay, corrections (R321 to R325) -/

/-- CT is stepped by a signed number of ticks (R324); the record carries a SYNC code; a CT_PPS pulse keeps its length (R331). -/
def State.ctStep (s : State) (sync : Nat) (n : Int) : State :=
  let ct := ofInt 64 ((s.ct : Int) + n)
  let s := { s with ct := ct, power := { s.power with onSince := [] }, trc := s.trc.stepped ct }
  let s := s.updChord (fun c => { c with
    lastStepCt := s.ct, lastStep := n, slew := 0, ppsCt := c.ppsCt.map (fun x => ofInt 64 ((x : Int) + n)) })
  ((s.incr F.CHORD_CNT0_STEPS 0).logAs sync s.ct (blockId 0 0x18) 0x40 0 ([2, 0, 0, 0] ++ le 8 (ofInt 64 n))).irq 156

/-- The epoch with which R85 gives a value of CT now (R456). -/
def State.epochFor (s : State) (ct : Nat) : Nat := ofInt 64 ((ct : Int) - ((s.power.rtcCount * 234375 / 8 : Nat) : Int))

/-- A Chord marker is due: a TIME_SET accepted before it steps CT, and firmware rewrites the epoch (R456). -/
def State.markerDue (s : State) : State :=
  match s.chord.timeSet with
  | none => s
  | some (signed, v) =>
    let n : Int := if signed then toInt 64 v else ((v % 2 ^ 64 : Nat) : Int) - (s.ct : Int)
    let s := (s.updChord (fun c => { c with timeSet := none })).ctStep s.sync n
    let e := s.epochFor s.ct
    let s := (s.setFld64 F.RTC_EPOCH_LO_EPOCH F.RTC_EPOCH_HI_EPOCH 0 e).put F.RTC_STATUS_RTC_VALID 0 true
    (if s.apex then s else s.setSync 1).logTime 5 (le 8 e)

/-- The average of a list of samples, rounded toward minus infinity (log entry 21). -/
def average (l : List Int) : Int := if l.isEmpty then 0 else l.sum / (l.length : Int)

/-- DELAY_EXCHANGE (R321, R322): as a child the part sends DREQ, and the four timestamps, in 1/4 tick, enter the averages;
as a parent it answers with DRESP. -/
def execDelayExchange (l : Nat) (t1 t2 t3 t4 : Int) (s : State) : Host.Outcome State Fault Refusal :=
  .next <|
    if s.chordOn && decide (l < 2) && (decide (s.linkState l = 3) || decide (s.linkState l = 4) || decide (s.linkState l = 5))
    then
      let asym := toInt 16 (s.fld F.CHORD_LCTL_ASYM l)
      let rtt := 4 * ((t4 - t1) - (t3 - t2))
      let off := (4 * ((t2 - t1) - (t4 - t3)) + asym) / 2
      let s := s.chordHush.chordSend (.dreq l)
      let s := s.updLink l (fun r => { r with rtts := (rtt :: r.rtts).take 64, offs := (off :: r.offs).take 64 })
      (s.setFld F.CHORD_LRTT_VALUE l (ofInt 24 (average (s.links.at l).rtts))).setFld F.CHORD_LOFFS_VALUE l
        (ofInt 32 (average (s.links.at l).offs))
    else if s.chordOn && decide (2 ≤ l ∧ l < 6) && decide (3 ≤ s.linkState l ∧ s.linkState l ≤ 4) then
      s.chordHush.chordSend (.dresp l)
    else s

/-- The parent's markers are ones that the part follows: LOCKED, or ESTIMATED once it has been LOCKED (R318, R325). -/
def State.follows (s : State) (l : Nat) : Bool :=
  decide (s.fld F.CHORD_LSTAT_PEERSYNC l = 2) || (s.chord.locked && decide (s.fld F.CHORD_LSTAT_PEERSYNC l = 1))

/-- The samples and the average of the offset of link `l` start again: CT has stepped by it (R324). -/
def State.offsetsGone (s : State) (l : Nat) : State :=
  (s.updLink l (fun r => { r with offs := [] })).setFld F.CHORD_LOFFS_VALUE l 0

/-- CT_CORRECTION (R88, R318, R324): the first lock is a step whatever its size, and its record carries LOCKED.  A slew moves the
frequency of the PLL, whose edges CT counts. -/
def execCtCorrection (s : State) : Host.Outcome State Fault Refusal :=
  .next <|
    let l := s.activeUp
    if s.upActive && s.follows l then
      if !s.chord.stepped then
        match (s.links.at l).firstOffset with
        | some n => ((s.ctStep 2 n).updChord (fun c => { c with stepped := true })).offsetsGone l
        | none => s
      else
        let off := toInt 32 (s.fld F.CHORD_LOFFS_VALUE l)
        let thr := max 1 (s.fld F.CHORD_CFG_STEPTHR 0)
        if off.natAbs ≤ 16 * thr then s.updChord (fun c => { c with slew := off })
        else (s.ctStep s.sync (off / 16)).offsetsGone l
    else s

/-- CHORD_LOCK (R87, R325). -/
def execChordLock (s : State) : Host.Outcome State Fault Refusal :=
  .next <|
    let l := s.activeUp
    if s.upActive && decide (s.fld F.CHORD_LSTAT_PEERSYNC l = 2) && s.on F.PMU_CLKSTAT_REF_ACTIVE 0 && s.chord.stepped
        && decide ((toInt 32 (s.fld F.CHORD_LOFFS_VALUE l)).natAbs ≤ 128) then
      let s := s.updChord (fun c => { c with locked := true })
      let s := if s.power.everLocked then s
        else { s with power := { s.power with everLocked := true } }.put F.RTC_STATUS_RTC_VALID 0 true
      s.setSync 2
    else s

/-- APEX_LOCK (R88). -/
def execApexLock (s : State) : Host.Outcome State Fault Refusal :=
  .next <|
    if s.apex && s.on F.PMU_CLKSTAT_PLL_LOCK 0 then s.setSync 2 else s

/-! ### Holdover and failover (R327 to R330) -/

/-- HOLDOVER_START (R325, R327): the active up-link has failed, or its parent's markers show NONE. -/
def execHoldoverStart (s : State) : Host.Outcome State Fault Refusal :=
  .next <|
    if s.chordOn && !s.apex && s.chord.everActive && !s.on F.CHORD_STAT_HOLDOVER 0
        && (!s.chord.active || (s.chord.locked && decide (s.fld F.CHORD_LSTAT_PEERSYNC s.activeUp = 0))) then
      let s := s.put F.CHORD_STAT_HOLDOVER 0 true
      let s := if s.on F.PMU_CLKCTL_AUTO 0 then s.put F.PMU_CLKSTAT_REF_ACTIVE 0 false else s
      s.updChord (fun c => { c with holdSince := some s.ct, slew := 0 })
    else s

/-- HOLDMAX_EXPIRY (R327): where the up-link has failed, the next one locks by R325 afresh. -/
def execHoldmaxExpiry (s : State) : Host.Outcome State Fault Refusal :=
  .next <|
    if s.on F.CHORD_STAT_HOLDOVER 0 && decide (s.sync = 2) then
      let s := s.updChord (fun c => { c with locked := c.locked && c.active })
      (s.setSync 1).raise (0x18 * 64 + 8) 0 0
    else s

/-- The other up-link becomes the active one (R329): ADOPT on the new path; a link that is still UP goes to STANDBY. -/
def State.failTo (s : State) (l : Nat) : State :=
  let old := 1 - l
  let s := if s.linkState old = 4 then
      (s.chordSend (.release old (s.fld F.CHORD_RANGE_LO 0) (s.fld F.CHORD_RANGE_HI 0))).setLink old 5 else s
  let s := ((s.setLink l 4).setFld F.CHORD_STAT_ACTIVEUP 0 l).setFld F.CHORD_STAT_DEPTH 0 (s.fld F.CHORD_LSTAT_PEERDEPTH l + 1)
  let s := s.updChord (fun c => { c with active := true, everActive := true, chosen := true, holdSince := none })
  let s := s.put F.CHORD_STAT_HOLDOVER 0 false
  let s := if s.on F.PMU_CLKCTL_AUTO 0 && !s.apex then s.put F.PMU_CLKSTAT_REF_ACTIVE 0 true else s
  let s := if s.on F.CHORD_STAT_ADDRESSED 0 then
      s.chordSend (.adopt l (s.fld F.CHORD_RANGE_LO 0) (s.fld F.CHORD_RANGE_HI 0) 1) else s
  let s := (s.incr F.CHORD_CNT0_FAILOVERS 0).logTime 3 (le 4 l)
  (s.notice 7 (s.sync + 4)).irq 156

/-- Up-link `l` stands by and meets R328. -/
def State.standsBy (s : State) (l : Nat) : Bool := decide (s.linkState l = 5) && s.failoverOk l

/-- FAILOVER (R328, R329): in holdover the other up-link becomes the active one, or the failed one again once it meets R328. -/
def execFailover (s : State) : Host.Outcome State Fault Refusal :=
  .next <|
    let l := 1 - s.activeUp
    if s.chordOn && !s.apex && s.chord.everActive && s.on F.CHORD_STAT_HOLDOVER 0 then
      if s.on F.CHORD_CFG_AUTOFAIL 0 && s.standsBy l then (s.chordHush).failTo l
      else if !s.chord.active && s.standsBy s.activeUp then (s.chordHush.setLink s.activeUp 4).upTaken s.activeUp
      else s
    else s

/-- REVERT (R330): the primary has been in STANDBY for 10 s. -/
def execRevert (s : State) : Host.Outcome State Fault Refusal :=
  .next <|
    if s.chordOn && !s.apex && s.on F.CHORD_CFG_REVERT 0 && decide (s.activeUp = 1) && decide (s.linkState 0 = 5)
        && s.failoverOk 0 then (s.chordHush).failTo 0
    else s

/-- ADOPT_FRAME (R329): from down-link `l`. -/
def execAdoptFrame (l lo hi hops : Nat) (s : State) : Host.Outcome State Fault Refusal :=
  .next <|
    if s.chordOn && decide (2 ≤ l ∧ l < 6) then
      let s := s.chordHush
      let same := (List.range 16).find? (fun j => s.on F.CHORD_ADOPTB_VALID j && decide (s.fld F.CHORD_ADOPTA_LO j = lo)
        && decide (s.fld F.CHORD_ADOPTA_HI j = hi))
      let spare := (List.range 16).find? (fun j => !s.on F.CHORD_ADOPTB_VALID j)
      match same.or spare with
      | none => s.logTime 6 (le 4 l)
      | some j =>
        let s := (s.setFld F.CHORD_ADOPTA_LO j lo).setFld F.CHORD_ADOPTA_HI j hi
        let s := (s.put F.CHORD_ADOPTB_VALID j true).setFld F.CHORD_ADOPTB_LINK j l
        if (s.fld F.CHORD_RANGE_LO 0 ≤ lo ∧ hi ≤ s.fld F.CHORD_RANGE_HI 0) ∨ !s.upActive then s
        else s.chordSend (.adopt s.activeUp lo hi (hops + 1))
    else s

/-- RELEASE_FRAME (R329): from down-link `l`. -/
def execReleaseFrame (l lo hi : Nat) (s : State) : Host.Outcome State Fault Refusal :=
  .next <|
    if s.chordOn && decide (2 ≤ l ∧ l < 6) then
      s.chordHush.each ((List.range 16).filter (fun j =>
        s.adoptedOn l j && decide (s.fld F.CHORD_ADOPTA_LO j = lo) && decide (s.fld F.CHORD_ADOPTA_HI j = hi)))
        State.adoptRemove
    else s

/-- CT_PPS is driven: EN = 1, CHORD on and VIO5 on (R331). -/
def State.ppsDriven (s : State) : Bool := s.chordOn && s.on F.CHORD_PPS_EN 0 && s.bit F.PMU_RAILSTAT_VIO_OK 0 4

/-- The level of CT_PPS: high for 100 µs from its rise while it is driven, else low (R331). -/
def State.ppsLevel (s : State) : Bool :=
  s.ppsDriven && (match s.chord.ppsCt with | some c => decide (c ≤ s.ct ∧ s.ct < c + 96000) | none => false)

/-- CT_PPS is held low where nothing drives it, and what it has risen for is over (R331). -/
def State.ppsSettle (s : State) : State := if s.ppsDriven then s else s.updChord (fun c => { c with ppsCt := none })

/-- CT_PPS_EDGE (R331): CT runs on to the next multiple of PERIOD × 960,000, and CT_PPS rises for 100 µs. -/
def execCtPpsEdge (s : State) : Host.Outcome State Fault Refusal :=
  .next <|
    if s.ppsDriven then
      let period := 960000 * clamp 1 1000 (s.fld F.CHORD_PPS_PERIOD 0)
      let next := if s.ct % period = 0 ∧ s.chord.ppsCt ≠ some s.ct then s.ct else (s.ct / period + 1) * period
      let s := s.advance (next - s.ct)
      s.updChord (fun c => { c with ppsCt := some next })
    else s

end Sys2Proof.Machine
end

