-- ==== Sys2Proof/Machine/PartOps.lean ====
section
/-! DEFINITION. The operations of the hub partitions that every cause shares: presence of a host, upstream events,
assignment and migration (R122 to R145). -/

namespace Sys2Proof.Machine

/-- Change the record of partition `k`. -/
def State.updPart (s : State) (k : Nat) (f : Partition → Partition) : State := { s with parts := s.parts.upd k f }

/-- Partition `k` has its pull-up applied, so a host's request reaches it. -/
def State.hubUp (s : State) (k : Nat) : Bool := decide (k < 4) && s.on F.PART_PSTAT_ATTACHED k

/-! ### Migration (R137 to R141) -/

/-- The reason for which a migration of port `p` to `dest` is refused (R137), 0 for none: 1 port absent or no upstream
port, 2 unassigned or already there, 3 migrating or quarantined, 4 destination without a host. -/
def State.migRefusal (s : State) (p dest : Nat) : Nat :=
  if !s.fitted p || !s.hasUpstream dest then 1
  else if 4 ≤ s.partOf p ∨ s.partOf p = dest then 2
  else if s.dpeIn p [.migrating, .quarantined] || s.bit F.PART_MIGBUSY_BUSY 0 (p - 1) then 3
  else if !s.on F.PART_PSTAT_HOST dest || !s.on F.PART_PSTAT_ATTACHED dest then 4
  else 0

/-- Step 1 of R138: the port is accepted. -/
def State.migStart (s : State) (p dest : Nat) (keep : Bool) (timeout : Nat) : State :=
  (s.putBit F.PART_MIGBUSY_BUSY 0 (p - 1) true).updMig p (fun _ =>
    ⟨true, s.partOf p, dest, keep, false, 0, .none, clamp 1 100 timeout, 1⟩)

/-- A refused migration is logged with its reason, row `reason + 1` of the table of R137; the reason's number is log entry
23's. -/
def State.migRefused (s : State) (p reason : Nat) : State := (s.logPort p 3 (Config.caseCode 137 (reason + 1))).irq 132

/-- An aborted migration of a port that is in Migrating gives the port back to the partition that holds it (R141). -/
def State.migGiveBack (s : State) (p cause : Nat) : State :=
  let s := s.migAbort p cause
  if s.dpeIs p .migrating then s.leaveHold p else s.refresh p

/-! ### Upstream events (R135) -/

/-- What an upstream event of partition `k` does to a migration into it (R141). -/
def State.migUpstream (s : State) (k : Nat) (detach : Bool) (p : Nat) : State :=
  let m := s.migs.at p
  if m.active && decide (m.dest = k) then
    if 3 ≤ m.step then s.migDone p
    else if detach then s.migGiveBack p 1
    else s
  else s

/-- Port `p` comes to partition `k`: a disconnect that an earlier leave left pending there is its change bit again (R128,
R131). -/
def State.handOver (s : State) (p k : Nat) : State :=
  ((s.setPart p k).setFld F.DPE_PORTSTAT_CHANGE p 0).takeBack p k

/-- What an upstream event of partition `k` does to one of its ports (R135, R153). -/
def State.portUpstream (s : State) (k p : Nat) : State :=
  let m := s.migs.at p
  if decide (s.partOf p = k) && s.fitted p && !(m.active && decide (m.source = k)) then
    let s := if s.dpeIn p [.isolated, .quarantined] then s.refresh p else s.enterPoweredOff p
    if s.on F.PART_PCTL_VBUS_HOLD k then s else s.ccDisable p 2
  else s

/-- An upstream event of partition `k` (R135, R141). -/
def State.upstreamEvent (s : State) (k : Nat) (detach : Bool) : State :=
  let s := s.ttClearPart k
  let s := s.each allPorts (fun s p => s.migUpstream k detach p)
  let s := s.setFld F.PART_HOSTPWR_PWR k 0
  let s := s.each allPorts (fun s p => s.portUpstream k p)
  let s := ((s.setFld F.PART_PSTAT_ADDR k 0).put F.PART_PSTAT_CONFIGURED k false).put F.PART_PSTAT_TTALT k false
  let s := s.put F.PART_PSTAT_SUSPENDED k false
  let s := s.updPart k (fun r => { r with
    remoteWake := false, localPowerChange := false, resuming := false, wakeUp := false, power33 := false, requests := []
    freshK := false })
  let s := s.p33Off k
  let s := if detach then (s.put F.PART_PSTAT_SPEED k false).incr F.PART_PCNT_DETACHES k else s.incr F.PART_PCNT_UPRESETS k
  s.irq (128 + k)

/-- The host conditions of partition `k` (R123). -/
def State.hostPresent (s : State) (k : Nat) : Bool :=
  s.hasUpstream k && s.domOn Dom.fabric && (decide (k = 0) || s.domOn Dom.uplink) && s.ccIs (33 + k) .attachedSnk
    && (s.parts.at k).hostVbus

/-- HOST and the pull-up of partition `k` follow their conditions; losing either is a detach (R123, R133, R135). -/
def State.presence (s : State) (k : Nat) : State :=
  let host := s.hostPresent k
  let att := host && s.on F.PART_PCTL_PULLUP k
  let lostHost := s.on F.PART_PSTAT_HOST k && !host
  let lostAtt := s.on F.PART_PSTAT_ATTACHED k && !att
  let changed := lostHost || (!s.on F.PART_PSTAT_HOST k && host) || lostAtt || (!s.on F.PART_PSTAT_ATTACHED k && att)
  let s := (s.put F.PART_PSTAT_HOST k host).put F.PART_PSTAT_ATTACHED k att
  if lostHost || lostAtt then s.upstreamEvent k true else if changed then s.irq (128 + k) else s

/-- LOCAL_POWER of every hub follows PG_BRD (R127). -/
def State.localPower (s : State) : State :=
  let lost := !s.on F.ENT_HSTAT_PG_BRD 0
  if s.domOn Dom.fabric then
    s.each ([0, 1, 2, 3].filter s.hasUpstream) (fun s k =>
      if s.on F.PART_PSTAT_LPWR_LOST k == lost then s
      else (s.put F.PART_PSTAT_LPWR_LOST k lost).updPart k (fun r => { r with localPowerChange := true }))
  else s

/-! ### Assignment (R130 to R132) -/

/-- The value that a write to a PORT nibble stores (R145). -/
def State.assignValue (s : State) (v : Nat) : Nat := if v < 4 ∧ s.hasUpstream v then v else 15

/-- The assignment of port `p` becomes `v` (R130 to R132). -/
def State.assignTo (s : State) (p v : Nat) : State :=
  let old := s.partOf p
  if v = old then s
  else
    let s := if old < 4 ∧ v < 4 then
        let s := if s.connected p then
            s.updPart old (fun r => { r with leftChange := withBit r.leftChange (p - 1) true }) else s
        s.ttClear p
      else s
    let s := s.handOver p v
    if s.dpeIn p [.isolated, .quarantined] then s.refresh p
    else if v = 15 then s.enterPoweredOff p
    else s.leaveHold p

/-- A write of the nibble of port `p` applies (R145).  Where a migration of the port is under way the result is
unpredictable (R144): the value written to is a free one (log entry 13). -/
def State.assign (s : State) (p v : Nat) : State :=
  if !s.fitted p then s
  else if s.bit F.PART_MIGBUSY_BUSY 0 (p - 1) then
    let (n, s) := s.drawNat
    s.assignTo p (s.assignValue (n % 5))
  else s.assignTo p (s.assignValue v)

/-- The device's reset on port `p` begins; a chirp corruption armed acts within its window, and has expired after it (R148, R150,
R167). -/
def State.startReset (s : State) (p : Nat) : State :=
  let g := (s.dpe.at p).glitch
  let armed := s.on F.DPE_GLITCH_CTL_ARMED p
  let acts := armed && decide (s.ct ≤ g.upTo)
  let s := (s.ttCut p).updDpe p (fun r => { r with
    chirped := false, fromL1 := false, driving := false, corrupt := if acts then g.typ else 0 })
  let s := if armed && !acts then s.logOther 0 0x0C [p] else s
  (if armed then s.put F.DPE_GLITCH_CTL_ARMED p false else s).setDpe p .resetting

/-- Port `q` is in Test, or an accepted request puts it there at the next F boundary: the model counts a port as in Test
from the acceptance on (R154; DESIGN CHOICE, log entry 155). -/
def State.testing (s : State) (k q : Nat) : Bool :=
  s.dpeIs q .test || (s.parts.at k).requests.any (fun r => match r with | .test p _ => p == q | _ => false)

/-- Another port of partition `k` is in Test, so a request that changes port `p` gets a STALL (R154; log entry 134). -/
def State.testBlocks (s : State) (k p : Nat) : Bool :=
  !s.testing k p && allPorts.any (fun q => q != p && s.owns k q && s.testing k q)

/-- A request of the host waits for the next F boundary of partition `k` (R148). -/
def State.ask (s : State) (k : Nat) (r : HubReq) : State := s.updPart k (fun e => { e with requests := e.requests ++ [r] })

/-! ### Host requests at their F boundary (R128, R148, R193) -/

/-- Logical power of port `p` in partition `k` is set (R128, R136, R148, R222) or cleared. -/
def State.portPower (s : State) (k p : Nat) (on : Bool) : State :=
  let s := s.putBit F.PART_HOSTPWR_PWR k (p - 1) on
  if !s.owns k p then s
  else if on then (s.ccEnableCause p 2).tryPowerUp p
  else
    let s := if (s.migs.at p).active && decide (3 ≤ (s.migs.at p).step) then s.migDone p else s
    let s := if s.dpeIn p [.isolated, .quarantined] then s.refresh p else s.enterPoweredOff p
    if s.on F.PART_PCTL_VBUS_HOLD k then s else s.ccDisable p 2

/-- SetPortFeature(PORT_RESET) at its boundary (R138, R148, R150, R153): for a port that waits for its migration's reset
it is step 5. -/
def State.portReset (s : State) (p : Nat) : State :=
  let waiting := (s.migs.at p).active && decide ((s.migs.at p).step = 4)
  if s.dpeIn p [.disabled, .enabled, .transmit, .suspended, .l1, .resuming, .sendEor]
      || (waiting && s.dpeIs p .migrating) then
    let s := if waiting then s.updMig p (fun r => { r with step := 5, keepalive := false }) else s
    s.startReset p
  else s

/-- SetPortFeature(PORT_TEST) at its boundary (R154). -/
def State.portTest (s : State) (p selector : Nat) : State :=
  if s.dpeIn p [.disconnected, .disabled, .suspended] then
    let s := s.updDpe p (fun r => { r with testMode := selector })
    (if selector = 5 then s.setFld F.DPE_STATE_SPEED p 3 else s).setDpe p .test
  else s

/-- A request on port 33 at its boundary (R193); endpoints of a disabled port 33 keep their buffers. -/
def State.request33 (s : State) (k : Nat) (r : HubReq) : State :=
  match r with
  | .power _ on =>
    let s := s.updPart k (fun r => { r with power33 := on })
    if !on then s.p33Off k
    else if s.p33Is k .poweredOff then (s.setP33 k .disconnected).p33Update k false else s
  | .reset _ =>
    if s.p33In k [.disabled, .resetting, .enabled, .suspended, .resuming] then (s.mfReset k).setP33 k .resetting else s
  | .suspend _ => if s.p33Is k .enabled then s.setP33 k .suspended else s
  | .resume _ => if s.p33Is k .suspended then s.setP33 k .resuming else s
  | .disable _ =>
    if s.p33In k [.enabled, .suspended, .resuming] then
      (s.setP33 k .disabled).updMf k (fun r => { r with waking := false })
    else s
  | _ => s

/-- A request acts at the F boundary of partition `k` (R148): from Transmit as from Enabled, a suspend once the packet is
over (log entry 132); on another port it has no effect but the record of its power (R128), and on a port quarantined since
the last boundary none (R153). -/
def State.hubRequest (s : State) (k : Nat) (r : HubReq) : State :=
  match r with
  | .power p on =>
    if p = 33 then s.request33 k r
    else if s.owns k p && (s.dpe.at p).quarFresh then s
    else s.portPower k p on
  | .reset p => if p = 33 then s.request33 k r else if s.owns k p then s.portReset p else s
  | .suspend p =>
    if p = 33 then s.request33 k r
    else if !s.owns k p then s
    else if s.dpeIs p .transmit then s.ask k r
    else if s.dpeIn p [.enabled, .l1] then s.setDpe p .suspended else s
  | .resume p =>
    if p = 33 then s.request33 k r
    else if s.owns k p && s.dpeIs p .suspended then
      (s.updDpe p (fun r => { r with fromL1 := false })).setDpe p .resuming
    else s
  | .disable p =>
    if p = 33 then s.request33 k r
    else if s.owns k p && s.dpeIn p [.enabled, .transmit] then s.setDpe p .disabled else s
  | .exitL1 p =>
    if s.owns k p && s.dpeIs p .l1 then (s.updDpe p (fun r => { r with fromL1 := true })).setDpe p .resuming else s
  | .test p selector => if s.owns k p then s.portTest p selector else s
  | .ttBuffer _ _ _ _ _ | .ttReset _ | .ttStop _ | .ttState _ _ _ | .alternate _ => s.ttRequest k r

/-- A new F interval of port `p`: its quarantine meets no request any more (R153). -/
def State.quarSettles (s : State) (p : Nat) : State := s.updDpe p (fun r => { r with quarFresh := false })

/-- The F boundary of partition `k` (R101, R148, R153): the requests that wait act, oldest first. -/
def State.frameBoundary (s : State) (k : Nat) : State :=
  let s := (s.parts.at k).requests.foldl (fun s r => s.hubRequest k r)
    (s.updPart k (fun e => { e with requests := [], freshK := false }))
  s.each (allPorts.filter (fun p => decide (s.partOf p = k) && (s.dpe.at p).quarFresh)) State.quarSettles

end Sys2Proof.Machine
end

