-- ==== Sys2Proof/Machine/TypeC.lean ====
section
/-! DEFINITION. Type-C attach, accessories, VCONN and cable identity (R215 to R240).  Ports 33 to 36 are the sink-only
upstream ports U0 to U3 (R236). -/

namespace Sys2Proof.Machine

/-- The Type-C logic of port `p` is present and powered (R217, R236, R237). -/
def State.ccLive (s : State) (p : Nat) : Bool :=
  if p ≤ 32 then s.live p
  else decide (p ≤ 36) && s.hasUpstream (p - 33) && (decide (p = 33) || s.domOn Dom.uplink)

/-- The pins of port `p` as last sampled: 0 open, 1 Ra, 2 Rd, 4 to 6 Rp. -/
def State.pins (s : State) (p : Nat) : Nat × Nat := (s.fld F.TCPD_CCSTAT_CC1 p, s.fld F.TCPD_CCSTAT_CC2 p)

/-- Rd on exactly one pin. -/
def oneRd (c : Nat × Nat) : Bool := (c.1 == 2) != (c.2 == 2)

/-- Rp on exactly one pin. -/
def oneRp (c : Nat × Nat) : Bool := decide (4 ≤ c.1) != decide (4 ≤ c.2)

/-- The Rp level seen on the pin that has one: 1 default, 2 1.5 A, 3 3.0 A (R240). -/
def rpSeen (c : Nat × Nat) : Nat := if 4 ≤ c.1 then c.1 - 3 else if 4 ≤ c.2 then c.2 - 3 else 0

/-- The pattern that starts an attach as source (R223). -/
def State.attachPattern (s : State) (p : Nat) (c : Nat × Nat) : Bool :=
  oneRd c || (c.1 == 2 && c.2 == 2 && s.on F.TCPD_CCCFG_DEBUG_EN p) || (c.1 == 1 && c.2 == 1 && s.on F.TCPD_CCCFG_AUDIO_EN p)

/-- A change of the upstream port's attach reaches its partition (R123). -/
def State.ccPresence (s : State) (p : Nat) : State := if 33 ≤ p ∧ p ≤ 36 then s.presence (p - 33) else s

/-- Where a port goes that detaches: Unattached.SNK for a DRP whose Rd phase is permitted and for ROLE 2, else
Unattached.SRC (R217, R223); an upstream port always Unattached.SNK. -/
def State.afterDetach (s : State) (p : Nat) (drpSink : Bool) : Bool :=
  decide (32 < p) || decide (s.role p = 2)
    || (decide (s.role p = 1) && drpSink && !s.on F.TCPD_CCSTAT_SINKBLOCK p)

/-- The port leaves an attached or waiting state for Unattached (R223). -/
def State.detach (s : State) (p : Nat) (drpSink counted : Bool) : State :=
  let s := if counted then s.incr F.TCPD_CNT0_DETACHES p else s
  let snk := s.afterDetach p drpSink
  let s := (s.ccLeave p (if snk then .unattachedSnk else .unattachedSrc)).put F.TCPD_VCSTAT_VCFAULT p false
  let s := if p ≤ 32 then (s.releaseClaim p).unattached p snk else s
  s.ccPresence p

/-- The code of a voltage in mV on a pin that presents the Rp level `rp`: 1 Ra, 2 Rd, 0 open (R218). -/
def rpCode (rp mv : Nat) : Nat :=
  let ra := if rp = 3 then 800 else if rp = 2 then 400 else 200
  if mv < ra then 1 else if mv ≤ (if rp = 3 then 2600 else 1600) then 2 else 0

/-- The code of a voltage in mV on a pin that presents Rd: 0 below vRa, then the partner's Rp level (R218). -/
def rdCode (mv : Nat) : Nat := if mv < 200 then 0 else if mv < 660 then 4 else if mv ≤ 1230 then 5 else 6

/-- The states in which the port is, or waits to be, a sink. -/
def snkStates : List Cc := [.unattachedSnk, .attachWaitSnk, .attachedSnk]

/-- What pin CC1, or CC2 with `second`, of port `p` is seen as at a voltage in mV, by what the pin presents (R218, R221); the
pin that carries VCONN keeps what was seen before. -/
def State.ccCode (s : State) (p : Nat) (second : Bool) (mv : Nat) : Nat :=
  if s.on F.TCPD_VCSTAT_VCON p && s.on F.TCPD_VCSTAT_VCPIN p == second then
    s.fld (if second then F.TCPD_CCSTAT_CC2 else F.TCPD_CCSTAT_CC1) p
  else if s.ccIn p [.disabled, .errorRecovery, .ccOvHold] then 0
  else if s.ccIn p snkStates && decide (s.fld F.TCPD_CCSTAT_RPOUT p = 0) then rdCode mv
  else rpCode (s.fld F.TCPD_CCSTAT_RPOUT p) mv

/-- The VCONN switch as sampled (R227): its current in mA, and reverse current blocked where the pin stands above VCONN_IN,
`vin`, by more than 0.3 V.  Above 5.5 V what it reports is open (R239, log entry 142). -/
def State.vconnSample (s : State) (p mv current vin : Nat) : State :=
  if s.on F.TCPD_VCSTAT_VCON p then
    if 5500 < mv then
      let (n, s) := s.drawNat
      let (i, s) := s.drawNat
      (s.put F.TCPD_VCSTAT_VCREV p (n.testBit 0)).setFld F.TCPD_VCSTAT_VCCUR p i
    else (s.put F.TCPD_VCSTAT_VCREV p (decide (vin + 300 < mv))).setFld F.TCPD_VCSTAT_VCCUR p current
  else s

/-- CC_SAMPLE (R217, R218, R223, R227): the pins in mV, VBUS in 10 mV, the VCONN current in mA and VCONN_IN in mV; `rivals`
are ports of the Currant that could claim the sink path on the same cycle. -/
def execCcSample (p cc1 cc2 vbus current vin : Nat) (rivals : List Nat) (s : State) : Host.Outcome State Fault Refusal :=
  .next <|
    if !s.ccLive p then s
    else
      let seen := (s.ccCode p false cc1, s.ccCode p true cc2)
      let s := s.vconnSample p (if s.on F.TCPD_VCSTAT_VCPIN p then cc2 else cc1) current vin
      let s := ((s.setFld F.TCPD_CCSTAT_CC1 p seen.1).setFld F.TCPD_CCSTAT_CC2 p seen.2).setVbus p vbus
      let c := s.pins p
      let s := if s.ccIn p snkStates then s.setFld F.TCPD_CCSTAT_RPSEEN p (rpSeen c)
        else s
      if s.ccIs p .unattachedSrc && s.attachPattern p c then s.setCc p .attachWaitSrc
      else if s.ccIs p .unattachedSnk && oneRp c then
        if 32 < p then s.setCc p .attachWaitSnk
        else if s.claimedByOther p || rivals.any (fun q => decide (q < p) && decide (currant q = currant p)) then s
        else (s.takeClaim p).setCc p .attachWaitSnk
      else s.tryLeaveDisabled p

/-- The port attaches as source (R223, R229). -/
def State.attachSource (s : State) (p : Nat) (c : Nat × Nat) : State :=
  let pol := c.2 == 2
  let s := (s.setCc p .attachedSrc).put F.TCPD_CCSTAT_POLARITY p pol
  let s := (s.put F.TCPD_CCSTAT_CABLE_RA p ((if pol then c.1 else c.2) == 1)).incr F.TCPD_CNT0_ATTACHES p
  let s := ((s.put F.TCPD_PDSTAT_PROLE p true).put F.TCPD_PDSTAT_DROLE p true).put F.TCPD_PDSTAT_VCSRC p true
  (s.vconnTry p).levels p

/-- The port attaches as sink (R223). -/
def State.attachSink (s : State) (p : Nat) (c : Nat × Nat) : State :=
  let s := (s.setCc p .attachedSnk).put F.TCPD_CCSTAT_POLARITY p (decide (4 ≤ c.2))
  let s := (s.setFld F.TCPD_CCSTAT_RPSEEN p (rpSeen c)).incr F.TCPD_CNT0_ATTACHES p
  let s := s.put F.TCPD_PDSTAT_DROLE p (decide (p ≤ 32))
  (s.updCc p (fun r => { r with attachedSink := true })).ccPresence p

/-- TCCDEBOUNCE_EXPIRY (R223): the condition that stands has held for tCCDebounce. -/
def execTccdebounceExpiry (p : Nat) (s : State) : Host.Outcome State Fault Refusal :=
  let c := s.pins p
  .next <|
    if !s.ccLive p then s
    else if s.ccIs p .attachWaitSrc then
      if oneRd c && s.vsafe0 p then s.attachSource p c
      else if c.1 == 2 && c.2 == 2 && s.on F.TCPD_CCCFG_DEBUG_EN p && s.vsafe0 p then
        (((s.setCc p .debugAccessory).setFld F.TCPD_CCSTAT_ACC p 2).incr F.TCPD_CNT3_ACCESSORIES p).levels p
      else if c.1 == 1 && c.2 == 1 && s.on F.TCPD_CCCFG_AUDIO_EN p then
        ((s.setCc p .audioAccessory).setFld F.TCPD_CCSTAT_ACC p 1).incr F.TCPD_CNT3_ACCESSORIES p
      else s
    else if s.ccIs p .attachWaitSnk && oneRp c && decide (400 < (s.cc.at p).vbus) then s.attachSink p c
    else if s.ccIs p .audioAccessory && (c.1 == 0 || c.2 == 0) then s.detach p true true
    else s

/-- TPDDEBOUNCE_EXPIRY (R223). -/
def execTpddebounceExpiry (p : Nat) (s : State) : Host.Outcome State Fault Refusal :=
  let c := s.pins p
  .next <|
    if !s.ccLive p then s
    else if s.ccIs p .attachWaitSrc && c.1 != 2 && c.2 != 2 && !(c.1 == 1 && c.2 == 1) then s.detach p true false
    else if s.ccIs p .attachedSrc && (if s.on F.TCPD_CCSTAT_POLARITY p then c.2 else c.1) == 0
        && (s.pd.at p).swap != .toSinkOff then s.detach p true true
    else if s.ccIs p .debugAccessory && (c.1 == 0 || c.2 == 0) then s.detach p true true
    else if s.ccIs p .attachWaitSnk && decide (c.1 < 4) && decide (c.2 < 4) then s.detach p false false
    else s

/-- DRP_TOGGLE (R217, R223). -/
def execDrpToggle (p : Nat) (s : State) : Host.Outcome State Fault Refusal :=
  .next <|
    if s.live p && decide (s.role p = 1) then
      if s.ccIs p .unattachedSrc && !s.claimedByOther p then s.unattached p true
      else if s.ccIs p .unattachedSnk then s.unattached p false
      else s
    else s

/-- A PR_Swap is under way on port `p`: from the Accept (R223, R261, R263). -/
def State.prSwapping (s : State) (p : Nat) : Bool :=
  [Swap.toSinkAccepted, .toSinkOff, .toSinkWait, .toSinkRequest, .toSourceAccepted, .toSourceOn].contains (s.pd.at p).swap

/-- SINK_VBUS_LOSS (R223, R236): VBUS, in 10 mV, is below 3.67 V. -/
def execSinkVbusLoss (p vbus : Nat) (s : State) : Host.Outcome State Fault Refusal :=
  .next <|
    if s.ccLive p && s.ccIs p .attachedSnk && !s.prSwapping p && decide (vbus < 367) then
      (s.setVbus p vbus).detach p false true
    else s

/-- ERROR_RECOVERY_END (R223). -/
def execErrorRecoveryEnd (p : Nat) (s : State) : Host.Outcome State Fault Refusal :=
  .next <|
    if s.live p && s.ccIs p .errorRecovery && s.vsafe0 p then
      s.unattached p (decide (s.role p = 2))
    else s

/-- CCEN of port `p` is written (R222). -/
def State.setCcen (s : State) (p : Nat) (b : Bool) : State :=
  if s.live p then
    let s := s.put F.TCPD_CCCFG_CCEN p b
    if b then s.ccEnableCause p 0 else s.ccDisable p 0
  else s

/-- DISABLED_CAUSE_ARISES (R222): the cause of a bit of DISCAUSE, where what it stands for holds. -/
def execDisabledCauseArises (p bit : Nat) (s : State) : Host.Outcome State Fault Refusal :=
  .next <|
    match bit with
    | 0 => s.setCcen p false
    | 1 => if s.on F.DSW_PSTAT_QUAR p then s.ccDisable p 1 else s
    | 2 => if s.partOf p < 4 ∧ !s.logPwr p ∧ !s.on F.PART_PCTL_VBUS_HOLD (s.partOf p) then s.ccDisable p 2 else s
    | 3 => if s.claimedByOther p ∧ s.role p = 2 then s.ccDisable p 3 else s
    | _ => s

/-- DISABLED_EXIT (R222, R291). -/
def execDisabledExit (p : Nat) (s : State) : Host.Outcome State Fault Refusal := .next (s.tryLeaveDisabled p)

/-- The Rp level is evaluated anew while the CC logic presents Rp (R219); a debug accessory keeps its level (R225). -/
def State.rpReevaluate (s : State) (p : Nat) : State :=
  if s.live p && !s.contracted p && !s.ccIs p .debugAccessory && decide (s.fld F.TCPD_CCSTAT_RPOUT p ≠ 0) then (s.rpEvaluate p).levels p else s

/-- RP_REEVALUATE (R219). -/
def execRpReevaluate (p : Nat) (s : State) : Host.Outcome State Fault Refusal := .next (s.rpReevaluate p)

/-- CC_OV_TRIP (R226). -/
def execCcOvTrip (p : Nat) (s : State) : Host.Outcome State Fault Refusal :=
  .next <|
    if s.live p then
      let s := (s.incr F.TCPD_CNT1_CCOVTRIPS p).raisePort p 0x11
      if s.ccIs p .ccOvHold then s else (s.ccLeave p .ccOvHold).releaseClaim p
    else s

/-- CC_OV_RELEASE (R226): to Disabled where a cause stands, else to Unattached by role. -/
def execCcOvRelease (p : Nat) (s : State) : Host.Outcome State Fault Refusal :=
  .next <|
    if s.live p && s.ccIs p .ccOvHold then
      if s.fld F.TCPD_CCSTAT_DISCAUSE p ≠ 0 then s.disable p
      else s.unattached p (decide (s.role p = 2))
    else s

/-- VCONN trips: off and held off, counted, raised as a fault, and the cable identity cleared (R227, R233). -/
def State.vconnTripped (s : State) (p : Nat) : State :=
  ((((s.vconnOff p).put F.TCPD_VCSTAT_VCFAULT p true).incr F.TCPD_CNT1_VCTRIPS p).raisePort p 0x12).identityClear p

/-- VCFAULT is released (R227). -/
def State.vcRearm (s : State) (p : Nat) : State :=
  if s.live p then (s.put F.TCPD_VCSTAT_VCFAULT p false).vconnTry p else s

/-- VCREARM_WRITE (R227). -/
def execVcrearmWrite (p : Nat) (s : State) : Host.Outcome State Fault Refusal := .next (s.vcRearm p)

/-! ### Cable discovery (R230, R231) -/

/-- Discovery may run: DISC_EN, VCONN source, VCONN on, PD active (R230). -/
def State.discAllowed (s : State) (p : Nat) : Bool :=
  s.live p && s.on F.TCPD_CCCFG_DISC_EN p && s.on F.TCPD_PDSTAT_VCSRC p && s.on F.TCPD_VCSTAT_VCON p
    && s.on F.TCPD_PDCFG_PD_EN p

/-- An attempt goes unanswered: NOMARK after the third, the end after the twentieth (R230). -/
def State.discMissed (s : State) (p : Nat) : State :=
  let n := (s.cc.at p).attempts + 1
  let s := s.updCc p (fun r => { r with attempts := n, discWait := false })
  let s := if n = 3 then s.put F.TCPD_CABLE_NOMARK p true else s
  if n = 20 then (s.put F.TCPD_CABLE_BUSY p false).incr F.TCPD_CNT2_DISCFAIL p else s

/-- One Discover Identity on SOP′, where discovery runs (R230); `answered` says that an answer arrives within its 30 ms, which
the next event gives.  An attempt still waiting for one has missed it. -/
def State.discAttempt (s : State) (p : Nat) (answered : Bool) : State :=
  let s := if (s.cc.at p).discWait then s.discMissed p else s
  if s.discAllowed p && (!s.on F.TCPD_CABLE_VALID p || s.on F.TCPD_CABLE_BUSY p) && decide ((s.cc.at p).attempts < 20) then
    let s := (((s.hush p).send p (.discoverIdentity 1)).put F.TCPD_CABLE_BUSY p true).updCc p
      (fun r => { r with discWait := true })
    if answered then s else s.discMissed p
  else s

/-- Discovery starts again (R230). -/
def State.discGo (s : State) (p : Nat) : State :=
  if s.live p then
    let s := (s.updCc p (fun r => { r with attempts := 0, discWait := false })).put F.TCPD_CABLE_NOMARK p false
    if s.discAllowed p then s.put F.TCPD_CABLE_BUSY p true else s
  else s

/-- DISCGO_WRITE (R230). -/
def execDiscgoWrite (p : Nat) (s : State) : Host.Outcome State Fault Refusal := .next (s.discGo p)

/-- An ACK of Discover Identity on SOP′ or, with `sop2`, on SOP″ is decoded (R230, R231, R233): the ID Header and the
cable VDO.  An answer of another product type counts as none (R231).  Where capabilities were offered before, the new
ceilings are offered anew (R230, R232). -/
def State.identityAck (s : State) (p idHeader vdo : Nat) (sop2 : Bool) : State :=
  let typ := idHeader / 2 ^ 27 % 8
  if !s.live p || !s.ccIn p [.attachedSrc, .attachedSnk] || !s.on F.TCPD_PDSTAT_VCSRC p
      || s.on F.TCPD_VCSTAT_VCFAULT p then s
  else if sop2 then (if s.on F.TCPD_CABLE_VALID p then s.put F.TCPD_CABLE_SOP2 p true else s)
  else if typ = 3 ∨ typ = 4 then
    let icab := if vdo / 32 % 4 = 2 then 2 else 1
    let vmax := vdo / 512 % 4
    let epr := vdo.testBit 17
    let s := (s.setFld F.TCPD_CABLE_VID p idHeader).put F.TCPD_CABLE_CEIL5A p (icab == 2)
    let s := (s.put F.TCPD_CABLE_CEILEPR p (epr && vmax == 3)).put F.TCPD_CABLE_EPR p epr
    let s := (s.setFld F.TCPD_CABLE_VMAX p vmax).setFld F.TCPD_CABLE_ICAB p icab
    let s := (s.put F.TCPD_CABLE_ACTIVE p (typ == 4)).put F.TCPD_CABLE_BUSY p false
    let s := s.updCc p (fun r => { r with discWait := false })
    let s := s.updPd p (fun r => { r with capsDue := r.capsDue || !r.offered.isEmpty })
    let s := ((s.put F.TCPD_CABLE_VALID p true).setFld F.TCPD_CABLEVDO_VDO p vdo).incr F.TCPD_CNT2_DISCOK p
    let s := s.hush p
    let s := if typ == 4 && vdo.testBit 3 then s.send p (.discoverIdentity 2) else s
    (s.ccIrq p).levels p
  else if (s.cc.at p).discWait then s.discMissed p
  else s

end Sys2Proof.Machine
end

