-- ==== Sys2Proof/Machine/PdOps.lean ====
section
/-! DEFINITION. Power Delivery: offers and their trimming, requests and grants, EPR mode, role swaps, the sink policy,
and the answers of the policy engine and the hold responder (R241 to R270).  The message codes, object layouts and EPR
mode actions are those of the USB Power Delivery specification revision 3.2 (log entry 20). -/

namespace Sys2Proof.Machine

/-! ### Policy engines (R15, R244) -/

/-- The core whose policy runs port `p` (R15). -/
def policyCore (p : Nat) : Nat := if p ≤ 32 then 1 + currant p else 0

/-- The policy engine of port `p` can run: its core runs and is not frozen, and SERVICE is on for cores 1 to 4 (R244). -/
def State.policyRuns (s : State) (p : Nat) : Bool :=
  let c := policyCore p
  s.firmware && s.on F.IC_CORECTL_RUNNING c && !s.bit F.MPU_FREEZE_FROZEN 0 c
    && (if c = 0 then decide ((s.cores.at c).stage ≠ .halted) else s.domOn Dom.service && decide ((s.cores.at c).stage = .running))

/-- The protocol layer of port `p` is powered and active (R215, R272). -/
def State.pdLive (s : State) (p : Nat) : Bool :=
  (if p ≤ 32 then s.live p
    else decide (p ≤ 36) && s.hasUpstream (p - 33) && (decide (p = 33) || s.domOn Dom.uplink))
    && s.on F.TCPD_PDCFG_PD_EN p

/-- The policy engine answers on port `p` (not the hold responder). -/
def State.policyOn (s : State) (p : Nat) : Bool := s.pdLive p && s.policyRuns p && !s.on F.TCPD_PDSTAT_HOLD p

/-- The vendor policy runs port `p`; on a core that runs an owner's image the decisions are that image's (R245 to R247). -/
def State.vendorOn (s : State) (p : Nat) : Bool :=
  s.policyOn p && (decide (policyCore p = 0) || decide ((s.cores.at (policyCore p)).image = 0))

/-- The partner of port `p` can be talked to: attached, and no accessory (R225). -/
def State.pdTalks (s : State) (p : Nat) : Bool := s.pdLive p && s.ccIn p [.attachedSrc, .attachedSnk]

/-- The vendor policy of port `p` may send capabilities as source (R252): attached, vSafe5V or contract on VBUS, no Hard
Reset sequence, not latched, no swap. -/
def State.sourceReady (s : State) (p : Nat) : Bool :=
  decide (p ≤ 32) && s.vendorOn p && s.ccIs p .attachedSrc && s.on F.TCPD_PDSTAT_PROLE p
    && s.pwrIn p [.qual, .on, .transition] && !(s.pd.at p).noPd && decide ((s.pd.at p).hardStep = 0)
    && decide ((s.pd.at p).swap = .none) && (s.pd.at p).accepted.isNone

/-! ### Offers (R249, R250) -/

/-- Kind of a power data object: 0 fixed, 3 augmented; 4 stands for an EPR AVS object, 5 for a zero object. -/
def objKind (w : Nat) : Nat :=
  if w = 0 then 5 else if w / 2 ^ 30 % 4 = 3 then (if w / 2 ^ 28 % 4 = 1 then 4 else 3) else w / 2 ^ 30 % 4

/-- A fixed object of a voltage in 50 mV and a current in 10 mA. -/
def fixedObj (v c : Nat) : Nat := v * 1024 + c
/-- A PPS object: largest and least voltage in 100 mV, current in 50 mA. -/
def ppsObj (hi lo c : Nat) : Nat := 3 * 2 ^ 30 + hi * 2 ^ 17 + lo * 2 ^ 8 + c
/-- An EPR AVS object: largest and least voltage in 100 mV, PDP in W. -/
def avsObj (hi lo pdp : Nat) : Nat := 3 * 2 ^ 30 + 2 ^ 28 + hi * 2 ^ 17 + lo * 2 ^ 8 + pdp

/-- Factory profile 0 (R249). -/
def profile0 : List Nat :=
  [fixedObj 100 300, fixedObj 180 300, fixedObj 300 300, fixedObj 400 500, ppsObj 210 33 100, 0, 0, fixedObj 560 500,
    fixedObj 720 500, fixedObj 960 500, avsObj 480 150 240]

/-- The factory profiles (R249). -/
def factoryProfiles : Tbl (List Nat) :=
  [(0, profile0), (1, profile0.take 4), (2, profile0.take 1), (3, profile0), (4, profile0), (5, profile0), (6, profile0),
    (7, profile0)]

/-- Largest voltage of an object in mV. -/
def objMaxV (w : Nat) : Nat :=
  match objKind w with
  | 0 => w / 1024 % 1024 * 50
  | 3 => w / 2 ^ 17 % 256 * 100
  | _ => w / 2 ^ 17 % 512 * 100

/-- Least voltage of an object in mV. -/
def objMinV (w : Nat) : Nat :=
  match objKind w with
  | 0 => objMaxV w
  | _ => w / 2 ^ 8 % 256 * 100

/-- Largest current of an object at a voltage in mV, in 10 mA: 5 A and the PDP bound an AVS object. -/
def objMaxI (w v : Nat) : Nat :=
  match objKind w with
  | 0 => w % 1024
  | 3 => w % 128 * 5
  | _ => if v = 0 then 0 else min 500 (w % 256 * 100000 / v)

/-- The objects of the profile that port `p` uses. -/
def State.profile (s : State) (p : Nat) : List Nat := s.profiles.at (s.fld F.TCPD_PDCFG_PROFILE p)

/-- A profile holds EPR objects. -/
def holdsEpr (l : List Nat) : Bool := (l.drop 7).any (fun w => decide (w ≠ 0))

/-- The flags of the 5 V object (R249): Dual-Role Power, Unconstrained Power, USB Communications Capable, EPR Mode
Capable. -/
def State.flags5V (s : State) (p : Nat) : Nat :=
  2 ^ 29 * bit01 (s.on F.TCPD_PDCFG_PRS_EN p && decide (s.role p = 1)) + 2 ^ 27 + 2 ^ 26
    + 2 ^ 23 * bit01 (s.on F.TCPD_PDCFG_EPR_EN p && holdsEpr (s.profile p))

/-- The Rp level in force, in 10 mA (R219). -/
def State.rpAmps (s : State) (p : Nat) : Nat := (s.gov.at p).rpGrant / 5

/-- An object trimmed by the ceilings of R250; `first` is position 1. -/
def State.trim (s : State) (p : Nat) (first : Bool) (w : Nat) : Option Nat :=
  let cap := s.fld F.TCPD_GRANT_PCAP p
  let five := s.on F.TCPD_CABLE_CEIL5A p
  let feed := s.on F.TCPD_PDSTAT_FEED48 p
  let v := objMaxV w
  match objKind w with
  | 0 =>
    let c := w % 1024
    let c := if five then c else min 300 c
    let c := if v = 0 then c else min c (cap * 100000 / v)
    if first then some (fixedObj (w / 1024 % 1024) (max c (s.rpAmps p)) + s.flags5V p)
    else if c < 50 ∨ (!feed ∧ 36000 < v) then none
    else some (fixedObj (w / 1024 % 1024) c)
  | 3 =>
    let c := w % 128
    let c := if five then c else min 60 c
    let c := if v = 0 then c else min c (cap * 20000 / v)
    if c < 10 ∨ !s.on F.TCPD_PDCFG_PPS_EN p then none else some (w / 128 * 128 + c)
  | 4 =>
    let hi := if feed then v / 100 else min 360 (v / 100)
    let pdp := min cap (if feed then w % 256 else min 180 (w % 256))
    if hi = 0 ∨ pdp * 100000 / (hi * 100) < 50 then none else some (avsObj hi (w / 2 ^ 8 % 256) pdp)
  | 5 => none
  | _ => some w

/-- SPR objects as they may be offered (R250): fixed objects only to a partner of revision 2.0 (R242). -/
def State.sprTrim (s : State) (p : Nat) (l : List Nat) : List Nat :=
  let l := if s.fld F.TCPD_PDSTAT_REV p = 1 then l.filter (fun w => decide (objKind w = 0)) else l
  match l with
  | [] => []
  | w :: r => (s.trim p true w).toList ++ r.filterMap (s.trim p false)

/-- The SPR objects that the vendor policy offers (R249, R250). -/
def State.sprObjects (s : State) (p : Nat) : List Nat := s.sprTrim p ((s.profile p).take 7)

/-- EPR objects as they may be offered (R250). -/
def State.eprTrim (s : State) (p : Nat) (l : List Nat) : List Nat :=
  if s.on F.TCPD_CABLE_CEILEPR p then l.filterMap (s.trim p false) else []

/-- The EPR objects that the vendor policy offers (R249, R250). -/
def State.eprObjects (s : State) (p : Nat) : List Nat := s.eprTrim p ((s.profile p).drop 7)

/-- Number objects from a position on. -/
def numbered : Nat → List Nat → List (Nat × Nat)
  | _, [] => []
  | n, w :: r => (n, w) :: numbered (n + 1) r

/-- The object at a position of an offer. -/
def objAt (l : List (Nat × Nat)) (pos : Nat) : Option Nat := (l.find? (fun e => e.1 == pos)).map (·.2)

/-- The data of EPR_Source_Capabilities: a zero object at every position below the last that holds none (R249). -/
def eprBytes (l : List (Nat × Nat)) : List Nat :=
  (List.range ((l.map (·.1)).foldl max 0)).flatMap (fun i => le 4 ((objAt l (i + 1)).getD 0))

/-- EPR_Source_Capabilities with these objects goes out, in chunks (R243); none in LATCHED (R291). -/
def State.sendEprCaps (s : State) (p : Nat) (l : List (Nat × Nat)) : State :=
  if s.pwrIs p .latched then s else (s.updPd p (fun r => { r with offeredEpr := l })).sendLong p (.eprSourceCaps l) 17 (eprBytes l)

/-- Source_Capabilities with these objects goes out; none in LATCHED (R291). -/
def State.sendCaps (s : State) (p : Nat) (l : List Nat) : State :=
  if s.pwrIs p .latched then s else (s.updPd p (fun r => { r with offered := numbered 1 l })).send p (.sourceCaps l)

/-- The part must leave EPR mode (R258). -/
def State.eprMustLeave (s : State) (p : Nat) : Bool :=
  s.on F.TCPD_PDSTAT_EPRMODE p && !(s.pd.at p).eprLeaving
    && (!s.on F.TCPD_PDCFG_EPR_EN p || !s.on F.TCPD_CABLE_CEILEPR p || !holdsEpr (s.profile p))

/-- Send Source_Capabilities, or EPR_Source_Capabilities in EPR mode; on the way out of EPR mode these hold the SPR
objects only (R250, R258). -/
def State.offer (s : State) (p : Nat) : State :=
  let spr := s.sprObjects p
  if s.on F.TCPD_PDSTAT_EPRMODE p then
    let s := if s.eprMustLeave p then s.updPd p (fun r => { r with eprLeaving := true }) else s
    s.sendEprCaps p (numbered 1 spr ++ (if (s.pd.at p).eprLeaving then [] else numbered 8 (s.eprObjects p)))
  else s.sendCaps p spr

/-- Capabilities got their GoodCRC: the partner's Request is awaited, in an AMS that the part began (R220, R252). -/
def State.offerGood (s : State) (p : Nat) : State :=
  if s.pwrIs p .latched then s else (s.updPd p (fun r => { r with
    awaiting := true, attempts := 0, heard := true, silent := false, lastWait := false, capsDue := false, ownAms := true })).put
    F.TCPD_PDSTAT_AMS p true

/-- Capabilities are sent; `good` says that their GoodCRC came (R252). -/
def State.offerSent (s : State) (p : Nat) (good : Bool) : State :=
  let s := s.offer p
  if good then s.offerGood p
  else if s.pwrIs p .latched then s
  else
    let n := (s.pd.at p).attempts + 1
    s.updPd p (fun r => { r with attempts := n, noPd := r.noPd || decide (50 ≤ n) })

/-! ### Requests (R253) -/

/-- The objects last offered on the port. -/
def State.lastOffer (s : State) (p : Nat) : List (Nat × Nat) :=
  if s.on F.TCPD_PDSTAT_EPRMODE p then (s.pd.at p).offeredEpr else (s.pd.at p).offered

/-- The contract type of an object (R272). -/
def objType (w : Nat) : Nat := match objKind w with | 0 => 1 | 3 => 2 | _ => 3

/-- Power in 10 mW of a voltage in mV and a current in 10 mA, rounded up. -/
def power10 (v c : Nat) : Nat := (v * c + 999) / 1000

/-- A Reject answer (R272). -/
def State.reject (s : State) (p : Nat) : State := (s.incr F.TCPD_PDCNT4_REJECTS p).send p .reject

/-- The answer to what the part does not support: Reject to revision 2.0 (R242). -/
def State.unsupported (s : State) (p : Nat) : State :=
  if s.fld F.TCPD_PDSTAT_REV p = 1 then s.reject p else s.send p .notSupported

/-- The part begins an AMS whose answer it waits for (R220, R241). -/
def State.ownBegin (s : State) (p : Nat) (o : PdOwn) : State :=
  (s.updPd p (fun r => { r with own := o, ownAms := true })).put F.TCPD_PDSTAT_AMS p true

/-- That AMS ends. -/
def State.ownDone (s : State) (p : Nat) : State :=
  (s.updPd p (fun r => { r with own := .none })).put F.TCPD_PDSTAT_AMS p false

/-- Soft_Reset sent on a protocol error (R247): the partner's Accept is awaited, and the MessageIDs start again (R241). -/
def State.softReset (s : State) (p : Nat) : State :=
  (((s.incr F.TCPD_PDCNT1_SRESETS p).updPd p (fun r => { r with awaiting := false, txIds := [], rxIds := [] })).ownBegin p
    .softReset).send p .softReset

/-- An exchange holds the port that a partner's request does not end: a transition, a swap, a query or another AMS of the
part (R265). -/
def State.amsHeld (s : State) (p : Nat) : Bool :=
  (s.pd.at p).accepted.isSome || (s.pd.at p).swap != .none || decide ((s.pd.at p).query = 1) || (s.pd.at p).own != .none

/-- An AMS of the part is under way (R265). -/
def State.amsOn (s : State) (p : Nat) : Bool := s.on F.TCPD_PDSTAT_AMS p || s.amsHeld p

/-- Wait to a Request; new capabilities may be due after it (R253, R254). -/
def State.waitRequest (s : State) (p : Nat) (due : Bool) : State :=
  let s := (s.incr F.TCPD_PDCNT0_WAITS p).updPd p (fun r => { r with
    lastWait := true, awaiting := false, capsDue := r.capsDue || due })
  (s.put F.TCPD_PDSTAT_AMS p (s.amsHeld p)).send p .wait

/-- The cable ceilings allow a grant (R232). -/
def State.cableAllows (s : State) (p v c : Nat) : Bool :=
  (s.on F.TCPD_CABLE_CEIL5A p || decide (c ≤ 300)) && (s.on F.TCPD_CABLE_CEILEPR p || decide (v ≤ 20000))

/-- A command of the mailbox runs on port `p`: a policy's request waits (R22 rank 5). -/
def State.commandOn (s : State) (p : Nat) : Bool := s.cmdPorts.contains p

/-- Reject to a Request: the contract in force is kept (R253).  It is no valid request, for which trimmed capabilities still
wait (R255). -/
def State.rejectRequest (s : State) (p : Nat) : State :=
  let waits := (s.pd.at p).awaiting && (s.pd.at p).trimmed
  ((s.updPd p (fun r => { r with awaiting := waits, lastWait := false })).put F.TCPD_PDSTAT_AMS p waits).reject p

/-- The part has left EPR mode once the sink's SPR request is complete (R258). -/
def State.eprLeft (s : State) (p pos : Nat) : State :=
  if (s.pd.at p).eprLeaving && decide (pos < 8) then
    ((s.updPd p (fun r => { r with eprLeaving := false })).put F.TCPD_PDSTAT_EPRMODE p false).send p (.eprMode 5 0)
  else s

/-- A Request or EPR_Request is evaluated, first row that applies (R253).  The voltage is in mV and counts for an APDO
only, the current in 10 mA. -/
def State.request (s : State) (p : Nat) (epr : Bool) (pos volt curr : Nat) (eprCapable : Bool) : State :=
  if s.amsHeld p then s.waitRequest p false
  else
    match objAt (s.lastOffer p) pos with
    | none => s.rejectRequest p
    | some w =>
      let v := if objKind w = 0 then objMaxV w else volt
      if objKind w = 5 ∨ v < objMinV w ∨ objMaxV w < v ∨ objMaxI w v < curr then s.rejectRequest p
      else if (epr && !s.on F.TCPD_PDSTAT_EPRMODE p) || (!epr && decide (8 ≤ pos)) then s.softReset p
      else if 100 * s.fld F.TCPD_GRANT_PCAP p < power10 v curr then s.waitRequest p true
      else if s.contracted p ∧ s.fld F.TCPD_CONTRACT_OBJPOS p = pos ∧ (s.pd.at p).volt = v
          ∧ s.fld F.TCPD_CONTRACT_CURR p = curr then
        let s := s.updPd p (fun r => { r with awaiting := false, lastWait := false, trimmed := false, eprCapable := eprCapable })
        (((s.put F.TCPD_PDSTAT_AMS p false).send p .accept).send p .psRdy).eprLeft p pos
      else if s.grantable p (power10 v curr) && s.cableAllows p v curr && !s.commandOn p then
        let w10 := power10 v curr
        let o : Offer := { pos := pos, volt := v, curr := curr, power := w10, ptype := objType w, eprCapable := eprCapable }
        let s := s.spendCredit p (w10 - s.alloc p)
        let s := s.updPd p (fun r => { r with
          accepted := some o, awaiting := false, lastWait := false, trimmed := false })
        let s := s.updGov p (fun g => { g with grant := max g.grant w10 })
        let s := (s.put F.TCPD_PDSTAT_AMS p true).incr F.TCPD_PDCNT0_CONTRACTS p
        ((s.send p .accept).vsetUpdate p).govRefresh
      else s.waitRequest p (!s.contracted p)

/-! ### Contracts at PS_RDY (R255, R262) -/

/-- The contract of an offer comes into force (R220, R255, R272). -/
def State.contractMade (s : State) (p : Nat) (o : Offer) (source : Bool) : State :=
  let s := ((s.setFld F.TCPD_CONTRACT_OBJPOS p o.pos).setFld F.TCPD_CONTRACT_VOLT p (o.volt / 20)).setFld
    F.TCPD_CONTRACT_CURR p o.curr
  let s := ((s.setFld F.TCPD_PDSTAT_PTYPE p o.ptype).put F.TCPD_CCSTAT_CONTRACT p true).put F.TCPD_PDSTAT_AMS p false
  let s := s.updPd p (fun r => { r with
    accepted := none, sinkOffer := none, sinkAccepted := false, volt := o.volt, eprCapable := o.eprCapable, hardResets := 0,
    heldReady := false, silent := false })
  let s := if source then
      ((s.setFld F.TCPD_GRANT_GRANT p o.power).setFld F.TCPD_CCSTAT_RPOUT p 3).updGov p (fun g => { g with grant := o.power })
    else s.incr F.TCPD_PDCNT0_CONTRACTS p
  if p ≤ 32 then ((s.notice 2 (p + 256 * s.fld F.DPE_STATE_STATE p + 0x1000)).govRefresh).levels p else s

/-- The Alert of R290 follows the next explicit contract (R247). -/
def State.afterContract (s : State) (p : Nat) : State :=
  match (s.pd.at p).alertDue with
  | some ot => (s.updPd p (fun r => { r with alertDue := none })).send p (.alert ot)
  | none => s

/-! ### EPR mode (R257, R258) -/

/-- EPR_Mode (Enter) received as source (R257). -/
def State.eprEnter (s : State) (p : Nat) : State :=
  if !s.contracted p || s.on F.TCPD_PDSTAT_EPRMODE p then s.softReset p
  else if !(s.pd.at p).eprCapable then s.send p (.eprMode 4 3)
  else
    let s := (s.send p (.eprMode 2 0)).updPd p (fun r => { r with eprPending := true })
    if s.on F.TCPD_CABLE_VALID p then s else s.discGo p

/-- The EPR entry conditions are judged (R257). -/
def State.eprCheck (s : State) (p : Nat) : State :=
  let s := s.updPd p (fun r => { r with eprPending := false })
  if !s.on F.TCPD_CABLE_VALID p || !s.on F.TCPD_CABLE_CEILEPR p then s.send p (.eprMode 4 1)
  else if !s.on F.TCPD_PDSTAT_VCSRC p then s.send p (.eprMode 4 2)
  else if s.on F.TCPD_PDCFG_EPR_EN p && holdsEpr (s.profile p) then
    (((s.put F.TCPD_PDSTAT_EPRMODE p true).incr F.TCPD_PDCNT4_EPRENTRY p).send p (.eprMode 3 0)).offerSent p true
  else s.send p (.eprMode 4 4)

/-- EPR_Mode (Exit) from the sink (R258). -/
def State.eprExitBySink (s : State) (p : Nat) : State :=
  if s.on F.TCPD_PDSTAT_EPRMODE p then
    if 20000 < (s.pd.at p).volt then s.hardReset p true
    else ((s.put F.TCPD_PDSTAT_EPRMODE p false).updPd p (fun r => { r with eprLeaving := false })).offerSent p true
  else s.softReset p

/-! ### After an event of the port -/

/-- In a contract the protocol layer alone drives Rp: as source 1.5 A, SinkTxNG, through an AMS that the part began and a
cable discovery, else 3.0 A, SinkTxOk (R220, R241). -/
def State.sinkTx (s : State) (p : Nat) : State :=
  if decide (p ≤ 32) && s.contracted p && s.on F.TCPD_PDSTAT_PROLE p && s.ccIs p .attachedSrc then
    s.setFld F.TCPD_CCSTAT_RPOUT p (if (s.pd.at p).ownAms || (s.cc.at p).discWait then 2 else 3)
  else s

/-- As sink in a contract, the part starts an AMS only while the partner shows SinkTxOk (R265). -/
def State.sinkTxOk (s : State) (p : Nat) : Bool :=
  s.on F.TCPD_PDSTAT_PROLE p || !s.contracted p || decide (s.fld F.TCPD_CCSTAT_RPSEEN p = 3)

/-- The vendor policy sends Discover Identity on SOP, once after the first explicit contract (R247), when it may begin an AMS
(R265). -/
def State.identityDue (s : State) (p : Nat) : Bool :=
  s.vendorOn p && decide (p ≤ 32) && s.contracted p && !(s.pd.at p).identitySent && !s.amsOn p && s.sinkTxOk p

/-- What follows an event of port `p`: capabilities that are due go out once no AMS is under way (R253 to R255, R267, R269),
then Discover Identity, and Rp follows. -/
def pdSettle (p : Nat) (s : State) : State :=
  if s.pdLive p then
    let s := if (s.pd.at p).capsDue && s.sourceReady p && !s.amsOn p then (s.offerSent p true).actuated p 7 else s
    let s := if s.identityDue p then
        ((s.updPd p (fun r => { r with identitySent := true })).ownBegin p .identity).send p (.discoverIdentity 0)
      else s
    let s := if s.amsOn p then s else s.updPd p (fun r => { r with ownAms := false })
    s.sinkTx p
  else s

/-- New capabilities are due on port `p`, where the vendor policy has offered some: at once, or after the AMS under way
(R230, R232, R255, R258, R267). -/
def State.offerAnew (s : State) (p : Nat) : State :=
  if s.vendorOn p && !(s.pd.at p).offered.isEmpty then
    pdSettle p ((s.hush p).updPd p (fun r => { r with capsDue := true }))
  else s

/-- The governor has lowered PCAP of port `p` below the grant in force: trimmed capabilities are due (R255, R310, R311). -/
def State.pcapFell (s : State) (p : Nat) : State :=
  if s.contracted p && decide (100 * s.fld F.TCPD_GRANT_PCAP p < (s.gov.at p).grant) then
    (s.updPd p (fun r => { r with trimmed := true })).offerAnew p
  else s

/-! ### Swaps (R260 to R265) -/

/-- The answer to a PR_Swap as source (R260): 0 Accept, 1 Reject, 2 Wait; `rivals` are ports of the Currant that claim on
the same cycle (R267). -/
def State.prSwapAnswer (s : State) (p : Nat) (rivals : List Nat) : Nat :=
  if !s.on F.TCPD_PDCFG_PRS_EN p || decide (s.role p = 0) || s.on F.TCPD_PDSTAT_EPRMODE p then 1
  else if s.claimedByOther p || rivals.any (fun q => decide (q < p) && decide (currant q = currant p)) then 2
  else if s.amsOn p then 2 else 0

/-- The swap from source to sink is agreed (R261 step 1). -/
def State.toSinkAgreed (s : State) (p : Nat) : State :=
  (((s.takeClaim p).put F.TCPD_PDSTAT_SWAP p true).put F.TCPD_PDSTAT_AMS p true).updPd p
    (fun r => { r with swap := .toSinkAccepted })

/-- The swap from sink to source is agreed (R263 step 1). -/
def State.toSourceAgreed (s : State) (p : Nat) : State :=
  let s := (s.sinkOpen p).contractEnd p
  ((s.put F.TCPD_PDSTAT_SWAP p true).put F.TCPD_PDSTAT_AMS p true).updPd p (fun r => { r with swap := .toSourceAccepted })

/-- A PR_Swap is received (R260, R263). -/
def State.prSwap (s : State) (p : Nat) (rivals : List Nat) : State :=
  if s.on F.TCPD_PDSTAT_PROLE p then
    match s.prSwapAnswer p rivals with
    | 0 => (s.toSinkAgreed p).send p .accept
    | 1 => s.reject p
    | _ => s.send p .wait
  else if s.amsOn p then s.send p .wait
  else (s.toSourceAgreed p).send p .accept

/-- A swap ends. -/
def State.swapOver (s : State) (p : Nat) (e : SwapEnd) : State :=
  ((s.updPd p (fun r => { r with swap := .none, swapEnd := if r.swapEnd = .pending then e else r.swapEnd })).put
    F.TCPD_PDSTAT_SWAP p false).put F.TCPD_PDSTAT_AMS p false

/-- The part becomes VCONN source (R264); `trips` says that VCONN trips before its PS_RDY. -/
def State.vconnTake (s : State) (p : Nat) (trips : Bool) : State :=
  let s := (s.put F.TCPD_PDSTAT_VCSRC p true).vconnOn p
  if trips then
    (((s.vconnTripped p).put F.TCPD_PDSTAT_VCSRC p false).swapOver p .hardReset).hardReset p true
  else ((s.send p .psRdy).incr F.TCPD_PDCNT2_VCSWAPS p).swapOver p .done

/-- The partner accepts the part's own VCONN_Swap, in which the part becomes VCONN source: VCONN goes on, and the PS_RDY
follows (R264). -/
def State.vconnTaking (s : State) (p : Nat) : State :=
  (((s.put F.TCPD_PDSTAT_VCSRC p true).vconnOn p).put F.TCPD_PDSTAT_SWAP p true).updPd p (fun r => { r with swap := .vconnTaking })

/-- The part's PS_RDY as the new VCONN source of its own VCONN_Swap (R264). -/
def State.vconnTaken (s : State) (p : Nat) : State :=
  (((s.hush p).send p .psRdy).incr F.TCPD_PDCNT2_VCSWAPS p).swapOver p .done

/-- VCONN_APPLY (R229, R264): VCONN goes on where R229 permits it; in the part's own VCONN_Swap VCONN has come up, and the
part's PS_RDY goes out. -/
def execVconnApply (p : Nat) (s : State) : Host.Outcome State Fault Refusal :=
  .next <|
    if !s.live p then s
    else if (s.pd.at p).swap = .vconnTaking then (if s.on F.TCPD_VCSTAT_VCON p then pdSettle p (s.vconnTaken p) else s)
    else s.vconnTry p

/-- A VCONN_Swap is received (R264, R265). -/
def State.vconnSwap (s : State) (p : Nat) (trips : Bool) : State :=
  if s.amsOn p then s.send p .wait
  else if !s.on F.TCPD_PDCFG_VCS_EN p then s.reject p
  else if s.on F.TCPD_PDSTAT_VCSRC p then
    ((s.put F.TCPD_PDSTAT_SWAP p true).updPd p (fun r => { r with swap := .vconnGive })).send p .accept
  else if s.vconnAllowed p then (s.send p .accept).vconnTake p trips
  else s.reject p

/-- The part sends PR_Swap, where R260 and R263 let it (R260, R452). -/
def State.prSwapSend (s : State) (p : Nat) : Option State :=
  let ok := s.policyOn p && (if s.on F.TCPD_PDSTAT_PROLE p then s.ccIs p .attachedSrc && s.prSwapAnswer p [] == 0
    else s.ccIs p .attachedSnk && !s.amsOn p && s.sinkTxOk p)
  if ok then
    let s := if s.on F.TCPD_PDSTAT_PROLE p then s.takeClaim p else s
    some (((s.put F.TCPD_PDSTAT_AMS p true).updPd p (fun r => { r with
      swap := .prSent, swapEnd := .pending, ownAms := true })).send p .prSwap)
  else none

/-- The part sends VCONN_Swap, where R264 lets it (R264, R452). -/
def State.vconnSwapSend (s : State) (p : Nat) : Option State :=
  if s.policyOn p && s.ccIn p [.attachedSrc, .attachedSnk] && !s.amsOn p && s.on F.TCPD_PDCFG_VCS_EN p
      && (s.on F.TCPD_PDSTAT_VCSRC p || s.vconnAllowed p) && s.sinkTxOk p then
    some (((s.put F.TCPD_PDSTAT_AMS p true).updPd p (fun r => { r with
      swap := .vconnSent, swapEnd := .pending, ownAms := true })).send p .vconnSwap)
  else none

/-- The partner's answer ends the part's own swap, or the swap is abandoned (R260, R265). -/
def State.swapDropped (s : State) (p : Nat) (e : SwapEnd) : State :=
  let s := if s.on F.TCPD_PDSTAT_PROLE p then s.releaseClaim p else s
  s.swapOver p e

/-- The partner's PS_RDY in a swap (R261, R263, R264); the vendor policy asks the new source for its capabilities (R247). -/
def State.swapPsRdy (s : State) (p : Nat) : State :=
  match (s.pd.at p).swap with
  | .toSinkWait =>
    let s := s.updPd p (fun r => { r with swap := .toSinkRequest })
    if s.vendorOn p then s.send p .getSourceCap else s
  | .toSourceAccepted =>
    let s := (s.updPd p (fun r => { r with swap := .toSourceOn, capsDue := false })).updPwr p (fun r => { r with swapOn := true })
    s.rpEvaluate p
  | .vconnGive =>
    (((s.vconnOff p).put F.TCPD_PDSTAT_VCSRC p false).incr F.TCPD_PDCNT2_VCSWAPS p).swapOver p .done
  | _ => s

/-! ### The sink policy (R262, R268) -/

/-- The position and object that the sink policy asks for: the highest fixed object at or below 20 V (R262). -/
def sinkChoice (objs : List Nat) : Option (Nat × Nat) :=
  (numbered 1 objs).foldl (fun best e =>
    if objKind e.2 = 0 ∧ objMaxV e.2 ≤ 20000 then
      match best with
      | some b => if objMaxV b.2 < objMaxV e.2 then some e else best
      | none => some e
    else best) none

/-- The current that U0 to U3 ask for, in 10 mA (R268). -/
def State.upstreamAmps (s : State) : Nat := if s.on F.PMU_RAILSTAT_DB_ACTIVE 0 then 50 else 10

/-- The sink Request of port `p` for an object, at a voltage in mV and a current in 10 mA, goes out (R262). -/
def State.sinkAsk (s : State) (p pos w v c object : Nat) : State :=
  let o : Offer := { pos := pos, volt := v, curr := c, power := power10 v c, ptype := objType w, eprCapable := false }
  ((s.updPd p (fun r => { r with sinkOffer := some o, sinkAccepted := false })).put F.TCPD_PDSTAT_AMS p true).send p
    (.request object)

/-- The largest current that port `p` draws as sink, in 10 mA (R262). -/
def State.sinkAmps (s : State) (p : Nat) : Nat := if s.on F.TCPD_CABLE_CEIL5A p then 500 else 300

/-- The part's sink Request to the objects offered (R262, R268). -/
def State.sinkRequest (s : State) (p : Nat) (objs : List Nat) : State :=
  let choice := if p ≤ 32 then sinkChoice objs else (objs.head?).map (fun w => (1, w))
  match choice with
  | none => s
  | some (pos, w) =>
    let c := if 32 < p then s.upstreamAmps else min (w % 1024) (s.sinkAmps p)
    s.sinkAsk p pos w (objMaxV w) c (pos * 2 ^ 28 + c * 1024 + c)

/-- The source accepts the sink's Request: the sink path opens for the transition (R262). -/
def State.sinkAccept (s : State) (p : Nat) : State :=
  (if p ≤ 32 then s.sinkOpen p else s).updPd p (fun r => { r with sinkAccepted := true })

/-- The source's PS_RDY of the sink contract (R261 step 5, R262). -/
def State.sinkPsRdy (s : State) (p : Nat) (o : Offer) : State :=
  let s := s.contractMade p o false
  let s := if (s.pd.at p).swap = .toSinkRequest then (s.incr F.TCPD_PDCNT2_PRSWAPS p).swapOver p .done else s
  if s.vendorOn p && decide (p ≤ 32) then s.afterContract p else s

end Sys2Proof.Machine
end

