-- ==== Sys2Proof/Machine/PdMsg.lean ====
section
/-! DEFINITION. What the protocol layer does with a message received whole: revision, receive buffer, and the answers of
the hold responder and the policy engines (R241 to R247, R265, R268).  Message codes are those of the USB Power Delivery
specification revision 3.2 (log entry 20). -/

namespace Sys2Proof.Machine

/-- A message as received: header, extended header, whether it is extended, and its data bytes. -/
structure RxMsg where
  sop : Nat
  hdr : Nat
  ext : Bool
  extHdr : Nat
  bytes : List Nat
deriving DecidableEq, Repr

/-- The message type of a header. -/
def RxMsg.typ (m : RxMsg) : Nat := m.hdr % 32

/-- A control message carries no data object and is not extended. -/
def RxMsg.control (m : RxMsg) : Bool := !m.ext && decide (m.hdr / 2 ^ 12 % 8 = 0)

/-- Data object `n` of a message. -/
def RxMsg.object (m : RxMsg) (n : Nat) : Nat := ofLe ((m.bytes.drop (4 * n)).take 4)

/-- The data objects of a message. -/
def RxMsg.objects (m : RxMsg) : List Nat := (List.range (m.bytes.length / 4)).map m.object

/-- The message is put into the receive buffer (R272). -/
def State.rxStore (s : State) (p : Nat) (m : RxMsg) : State :=
  let s := (s.put F.TCPD_RXSTAT_EXT p m.ext).setFld F.TCPD_RXSTAT_LEN p m.bytes.length
  let s := (s.setFld F.TCPD_RXSTAT_SOP p m.sop).put F.TCPD_RXSTAT_FULL p true
  let s := (s.setFld F.TCPD_RXHDR_HDR p m.hdr).setFld F.TCPD_RXHDR_EXTHDR p m.extHdr
  (s.each (List.range ((m.bytes.length + 3) / 4)) (fun s n => s.setFld F.TCPD_RXBUF_DATA (p * 32 + n) (m.object n))).ccIrq p

/-- What a request object asks of the objects last offered: voltage in mV, current in 10 mA (PD, log entry 20). -/
def requestOf (l : List (Nat × Nat)) (rdo : Nat) : Nat × Nat :=
  match (objAt l (rdo / 2 ^ 28 % 16)).map objKind with
  | some 3 => (rdo / 512 % 4096 * 20, rdo % 128 * 5)
  | some 4 => (rdo / 512 % 4096 * 25, rdo % 128 * 5)
  | _ => (0, rdo / 1024 % 1024)

/-! ### The hold responder (R244) -/

/-- A Request or EPR_Request under the hold responder. -/
def State.holdRequest (s : State) (p pos volt curr : Nat) : State :=
  let v := match objAt (s.lastOffer p) pos with
    | some w => if objKind w = 0 then objMaxV w else volt
    | none => volt
  if s.contracted p ∧ s.fld F.TCPD_CONTRACT_OBJPOS p = pos ∧ (s.pd.at p).volt = v ∧ s.fld F.TCPD_CONTRACT_CURR p = curr then
    (s.send p .accept).send p .psRdy
  else (s.incr F.TCPD_PDCNT0_WAITS p).send p .wait

/-- The last capabilities of a kind sent on this connection. -/
def State.holdCaps (s : State) (p : Nat) (epr : Bool) : State :=
  let l := if epr then (s.pd.at p).offeredEpr else (s.pd.at p).offered
  if l.isEmpty then s.unsupported p
  else if epr then s.sendLong p (.eprSourceCaps l) 17 (eprBytes l)
  else s.send p (.sourceCaps (l.map (·.2)))

/-- An answer that exists only as an extended message or in revision 3.x (R242). -/
def State.sendNew (s : State) (p : Nat) (m : PdMsg) : State :=
  if s.fld F.TCPD_PDSTAT_REV p = 1 then s.reject p else s.send p m

/-- The message needs no answer: GoodCRC, Ping, an answer to something, Attention, Alert. -/
def RxMsg.silent (m : RxMsg) : Bool :=
  if m.control then [1, 3, 4, 5, 6, 12, 16].contains m.typ
  else if m.ext then [1, 2, 5, 7, 9, 11, 12, 13, 14, 15, 17, 18].contains m.typ
  else [4, 5, 6, 11, 12].contains m.typ
    || (m.typ == 15 && (m.object 0).testBit 15 && (decide (m.object 0 / 64 % 4 ≠ 0) || decide (m.object 0 % 32 = 6)))

/-- The hold responder answers (R244). -/
def State.holdAnswer (s : State) (p : Nat) (m : RxMsg) : State :=
  if m.silent then s
  else if m.control then
    match m.typ with
    | 7 => s.holdCaps p false
    | 9 => s.reject p
    | 10 | 11 => s.send p .wait
    | 13 =>
      let s := (s.incr F.TCPD_PDCNT1_SRESETS p).send p .accept
      if p ≤ 32 ∧ !(s.pd.at p).offered.isEmpty then s.holdCaps p (s.on F.TCPD_PDSTAT_EPRMODE p) else s
    | _ => s.unsupported p
  else if m.ext then
    if m.typ = 16 ∧ m.object 0 % 256 = 1 then s.holdCaps p true
    else if m.typ = 16 ∧ m.object 0 % 256 = 3 then s.sendNew p .keepAliveAck
    else s.unsupported p
  else if m.typ = 2 ∨ m.typ = 9 then
    let r := requestOf (s.lastOffer p) (m.object 0)
    s.holdRequest p (m.object 0 / 2 ^ 28 % 16) r.1 r.2
  else s.unsupported p

/-! ### The vendor policy (R247) -/

/-- A query of a command has its answer (R452): 2 answered, 3 not supported, 4 none. -/
def State.queryDone (s : State) (p n : Nat) : State :=
  (s.updPd p (fun r => { r with query := n })).put F.TCPD_PDSTAT_AMS p false

/-- Accept, Reject, Wait, Not_Supported or PS_RDY received: within an AMS as that AMS gives, outside one Soft_Reset (R247).  After
the Accept to its own Soft_Reset a source sends its capabilities (log entry 20). -/
def State.answerReceived (s : State) (p typ : Nat) : State :=
  let r := s.pd.at p
  match typ with
  | 3 =>
    if r.swap = .prSent then
      (if s.on F.TCPD_PDSTAT_PROLE p then s.toSinkAgreed p else s.toSourceAgreed p)
    else if r.swap = .vconnSent then
      (if s.on F.TCPD_PDSTAT_VCSRC p then (s.put F.TCPD_PDSTAT_SWAP p true).updPd p (fun r => { r with swap := .vconnGive })
        else s.vconnTaking p)
    else if r.own = .softReset then
      let s := s.ownDone p
      if s.vendorOn p && decide (p ≤ 32) && s.on F.TCPD_PDSTAT_PROLE p then s.offerSent p true else s
    else if r.sinkOffer.isSome ∧ !r.sinkAccepted then s.sinkAccept p
    else s.softReset p
  | 4 =>
    if r.swap = .prSent ∨ r.swap = .vconnSent then s.swapDropped p .reject
    else if r.sinkOffer.isSome ∧ !r.sinkAccepted then
      (s.updPd p (fun r => { r with sinkOffer := none })).put F.TCPD_PDSTAT_AMS p false
    else s.softReset p
  | 12 =>
    if r.swap = .prSent ∨ r.swap = .vconnSent then s.swapDropped p .wait
    else if r.sinkOffer.isSome ∧ !r.sinkAccepted then s.put F.TCPD_PDSTAT_AMS p false
    else s.softReset p
  | 6 =>
    if r.swap = .toSinkWait ∨ r.swap = .toSourceAccepted ∨ r.swap = .vconnGive then s.swapPsRdy p
    else match r.sinkOffer with
      | some o => if r.sinkAccepted then s.sinkPsRdy p o else s.softReset p
      | none => s.softReset p
  | _ =>
    if r.swap = .prSent ∨ r.swap = .vconnSent then s.swapDropped p .reject
    else if r.query = 1 then s.queryDone p 3
    else if r.own = .identity ∨ r.own = .image then s.ownDone p
    else s

/-- The objects of the part's Sink_Capabilities as a downstream port (R262). -/
def sinkCapsObjects : List Nat := [fixedObj 100 300, fixedObj 180 300, fixedObj 300 300, fixedObj 400 500]

/-- Soft_Reset received (R247, R265): Accept, then capabilities as source, after a transition under way; a swap that the part
sent is abandoned. -/
def State.softResetReceived (s : State) (p : Nat) : State :=
  let s := s.incr F.TCPD_PDCNT1_SRESETS p
  let s := if (s.pd.at p).swap = .prSent ∨ (s.pd.at p).swap = .vconnSent then s.swapDropped p .silent else s
  let busy := (s.pd.at p).accepted.isSome
  let s := (s.updPd p (fun r => { r with
    awaiting := false, sinkOffer := none, sinkAccepted := false, own := .none, capsDue := r.capsDue || busy })).put
    F.TCPD_PDSTAT_AMS p busy
  let s := s.send p .accept
  if s.on F.TCPD_PDSTAT_PROLE p && (s.pd.at p).accepted.isNone then s.offerSent p true else s

/-- A control message that the policy of a downstream port answers (R247). -/
def State.policyControl (s : State) (p : Nat) (m : RxMsg) : State :=
  let source := s.on F.TCPD_PDSTAT_PROLE p
  match m.typ with
  | 1 | 5 => s
  | 3 | 4 | 6 | 12 | 16 => s.answerReceived p m.typ
  | 7 =>
    if !source then s.unsupported p
    else if s.on F.TCPD_PDSTAT_EPRMODE p then s.sendCaps p (s.sprObjects p)
    else s.offerSent p true
  | 8 =>
    if s.on F.TCPD_PDCFG_PRS_EN p ∧ s.role p = 1 then s.send p (.sinkCaps sinkCapsObjects)
    else s.unsupported p
  | 9 => s.reject p
  | 10 => s.prSwap p []
  | 11 => s.vconnSwap p false
  | 13 => s.softResetReceived p
  | 17 => s.sendNew p .sourceCapsExt
  | 18 => s.sendNew p .status
  | 20 => if s.fld F.TCPD_PDSTAT_PTYPE p = 2 then s.sendNew p .ppsStatus else s.unsupported p
  | 23 => s.sendNew p (.sourceInfo 240 (s.fld F.TCPD_GRANT_PCAP p) (s.fld F.TCPD_GRANT_PCAP p))
  | 24 => s.sendNew p (.revision 0x32)
  | _ => s.unsupported p

/-- A structured or unstructured VDM on SOP (R247, R268): the identity is the hub's VID and PID. -/
def State.policyVdm (s : State) (p hdr : Nat) : State :=
  if !hdr.testBit 15 then s.unsupported p
  else if hdr / 64 % 4 ≠ 0 then (if (s.pd.at p).own = .identity then s.ownDone p else s)
  else if hdr % 32 = 6 then s
  else if hdr % 32 = 1 then s.send p (.identityAck (decide (32 < p)) (ofLe (s.identity 0)) (ofLe (s.identity 2)))
  else s.send p .vdmNak

/-- A data message that the policy of a downstream port answers (R247). -/
def State.policyData (s : State) (p : Nat) (m : RxMsg) : State :=
  match m.typ with
  | 1 => if s.on F.TCPD_PDSTAT_PROLE p then s.softReset p else s.sinkRequest p m.objects
  | 2 | 9 =>
    if s.on F.TCPD_PDSTAT_PROLE p then
      let r := requestOf (s.lastOffer p) (m.object 0)
      s.request p (m.typ == 9) (m.object 0 / 2 ^ 28 % 16) r.1 r.2 ((m.object 0).testBit 22)
    else s.softReset p
  | 3 =>
    let mode := m.object 0 / 2 ^ 28 % 16
    if (mode = 5 ∨ mode = 8) ∧ s.contracted p ∧ (s.pd.at p).volt = 5000 then s.send p .bistAccepted else s
  | 4 => s.updPd p (fun r => { r with partnerSink := some m.objects })
    |> (fun s => if (s.pd.at p).query = 1 then s.queryDone p 2 else s)
  | 6 => s.logRec (blockId 0 0x0C) 0x20 ([p, 11, 0, 0] ++ le 4 (m.object 0))
  | 10 =>
    if !s.on F.TCPD_PDSTAT_PROLE p || decide (s.fld F.TCPD_PDSTAT_REV p = 1) then s.unsupported p
    else match m.object 0 / 2 ^ 24 % 256 with
      | 1 => s.eprEnter p
      | 5 => s.eprExitBySink p
      | _ => s.softReset p
  | 5 | 11 | 12 => s
  | 15 => s.policyVdm p (m.object 0)
  | _ => s.unsupported p

/-- An extended message that the policy of a downstream port answers (R243, R247). -/
def State.policyExtended (s : State) (p : Nat) (m : RxMsg) : State :=
  match m.typ with
  | 6 => s.sendNew p (.manufacturerInfo (ofLe (s.identity 0)) 0x3240 (ascii "AE3240"))
  | 16 =>
    match m.object 0 % 256 with
    | 1 =>
      if s.on F.TCPD_PDCFG_EPR_EN p && s.on F.TCPD_PDSTAT_PROLE p then
        if s.fld F.TCPD_PDSTAT_REV p = 1 then s.reject p
        else s.sendEprCaps p (numbered 1 (s.sprObjects p) ++ numbered 8 (s.eprObjects p))
      else s.unsupported p
    | 3 => s.sendNew p .keepAliveAck
    | _ => s.unsupported p
  | 3 | 4 | 8 | 10 | 30 => s.unsupported p
  | _ => s

/-- The policy of a downstream port answers (R247). -/
def State.policyAnswer (s : State) (p : Nat) (m : RxMsg) : State :=
  if m.ext then s.policyExtended p m else if m.control then s.policyControl p m else s.policyData p m

/-- The sink policy of U0 to U3 answers (R268). -/
def State.upstreamAnswer (s : State) (p : Nat) (m : RxMsg) : State :=
  if m.ext then s.unsupported p
  else if m.control then
    match m.typ with
    | 1 | 5 => s
    | 3 | 4 | 6 | 12 | 16 => s.answerReceived p m.typ
    | 8 => s.send p (.sinkCaps [fixedObj 100 s.upstreamAmps])
    | 9 | 10 => s.reject p
    | 13 => s.softResetReceived p
    | _ => s.unsupported p
  else
    match m.typ with
    | 1 => s.sinkRequest p m.objects
    | 4 | 5 | 6 | 11 | 12 => s
    | 15 => s.policyVdm p (m.object 0)
    | _ => s.unsupported p

/-- A message on SOP′ or SOP″: an ACK of Discover Identity is decoded (R231). -/
def State.cableMessage (s : State) (p : Nat) (m : RxMsg) : State :=
  let h := m.object 0
  if !m.ext && m.typ == 15 && h.testBit 15 && decide (h / 64 % 4 = 1) && decide (h % 32 = 1) then
    s.identityAck p (m.object 1) (m.object 4) (m.sop == 2)
  else s

/-! ### An owner's policy (R246) -/

/-- What a partner asks of a port whose core runs an owner's image waits for that image's answer. -/
def State.asked (s : State) (p : Nat) (a : PdAsk) : State := (s.updPd p (fun r => { r with ask := a })).ccIrq p

/-- A message for an owner's image: it stands in the receive buffer, and the image answers it (R246, log entry 141).  An
answer to a swap or a Request that the port sent takes its course. -/
def State.ownerReceive (s : State) (p : Nat) (m : RxMsg) : State :=
  let s := if (s.pd.at p).own = .image then s.ownDone p else s
  let r := s.pd.at p
  if m.ext then s
  else if m.control then
    match m.typ with
    | 3 | 4 | 6 | 12 | 16 => if r.swap ≠ .none ∨ r.sinkOffer.isSome ∨ r.query = 1 ∨ r.own ≠ .none then s.answerReceived p m.typ else s
    | 9 => s.asked p .drSwap
    | 10 => s.asked p (.prSwap [])
    | 11 => s.asked p (.vconnSwap false)
    | 13 => s.asked p .none
    | _ => s
  else
    match m.typ with
    | 1 => s.updPd p (fun r => { r with partnerSource := m.objects })
    | 2 | 9 =>
      let q := requestOf (s.lastOffer p) (m.object 0)
      s.asked p (.request (m.typ == 9) (m.object 0 / 2 ^ 28 % 16) q.1 q.2 ((m.object 0).testBit 22))
    | 4 => if r.query = 1 then (s.updPd p (fun r => { r with partnerSink := some m.objects })).queryDone p 2 else s
    | _ => s

/-! ### Reception (R241 to R243) -/

/-- The first message of the partner fixes the revision of the connection (R242). -/
def State.fixRev (s : State) (p rev : Nat) : State :=
  if s.fld F.TCPD_PDSTAT_REV p = 0 then s.setFld F.TCPD_PDSTAT_REV p (if rev % 4 = 2 then 2 else 1) else s

/-- A message of the partner has arrived: PD is heard, and what the port sends next answers it (R242, R252). -/
def State.heard (s : State) (p rev : Nat) : State :=
  ((s.hush p).updPd p (fun r => { r with heard := true, silent := false })).fixRev p rev

/-- A message known by its kind and not by its header, whose MessageID is not known. -/
def State.heardRow (s : State) (p rev : Nat) : State :=
  (s.heard p rev).updPd p (fun r => { r with rxIds := 0 :: r.rxIds.drop 1 })

/-- A message known by its kind reaches port `p` while the receive buffer is free; else it gets no GoodCRC and is counted
(R272). -/
def State.rxOpen (s : State) (p : Nat) (f : State → State) : State :=
  if s.on F.TCPD_RXSTAT_FULL p then (s.hush p).incr F.TCPD_PDCNT3_RXBUSY p else f s

/-- A Hard Reset is received (R266); the buffer of a policy engine that runs tells of it (R272; log entry 164). -/
def State.hardResetHeard (s : State) (p : Nat) : State :=
  let s := s.hush p
  let s := if s.policyOn p then
      (((s.put F.TCPD_RXSTAT_EXT p false).setFld F.TCPD_RXSTAT_LEN p 0).setFld F.TCPD_RXSTAT_SOP p 3).put F.TCPD_RXSTAT_FULL p true
    else s
  s.hardReset p false

/-- The cable ceiling has fallen (R232, R267): the current levels follow, an EPR entry under way fails, and in a contract
capabilities within the new ceiling are due. -/
def State.ceilingFell (s : State) (p : Nat) : State :=
  let s := s.levels p
  let s := if (s.pd.at p).eprPending then
      (s.updPd p (fun r => { r with eprPending := false })).send p (.eprMode 4 1) else s
  if s.contracted p then s.updPd p (fun r => { r with capsDue := r.capsDue || !r.offered.isEmpty }) else s

/-- A Cable Reset is received: while the part is VCONN source the cable identity is cleared (R233, R241). -/
def State.cableResetHeard (s : State) (p : Nat) : State :=
  if s.on F.TCPD_PDSTAT_VCSRC p then ((s.hush p).identityClear p).ceilingFell p else s.hush p

/-- A message that repeats the last MessageID of its SOP is acknowledged and discarded; Soft_Reset never is (R241; the
comparison is that of the PD specification, log entry 20). -/
def State.duplicate (s : State) (p : Nat) (m : RxMsg) : Bool :=
  decide ((s.pd.at p).rxIds.getD m.sop 0 = m.hdr / 512 % 8 + 1) && !(m.control && m.typ == 13)

/-- The MessageID of a message is kept; Soft_Reset starts the counters again (R241). -/
def State.keepId (s : State) (p : Nat) (m : RxMsg) : State :=
  s.updPd p (fun r =>
    let r := if m.control && m.typ == 13 then { r with rxIds := [], txIds := [] } else r
    { r with rxIds := [0, 1, 2].map (fun i => if i = m.sop then m.hdr / 512 % 8 + 1 else r.rxIds.getD i 0) })

/-- A message is complete: the cable's is decoded, the partner's is answered (R231, R244, R246, R247, R268). -/
def State.msgIn (s : State) (p : Nat) (m : RxMsg) : State :=
  if m.sop = 1 ∨ m.sop = 2 then (s.rxStore p m).cableMessage p m
  else if !s.policyOn p then s.holdAnswer p m
  else if !s.vendorOn p then (s.rxStore p m).ownerReceive p m
  else if 32 < p then (s.rxStore p m).upstreamAnswer p m
  else (s.rxStore p m).policyAnswer p m

/-- The partner asks on a SOP for chunk `n` of the message that the port sends; the last one ends it (R243, R272). -/
def State.chunkAsked (s : State) (p sop typ n : Nat) : State :=
  match (s.pd.at p).txExt with
  | some (o, t, b) =>
    if o = sop ∧ t = typ ∧ 26 * n < b.length then
      let s := s.send p (.chunk sop typ b.length n ((b.drop (26 * n)).take 26))
      if b.length ≤ 26 * (n + 1) then
        let s := s.updPd p (fun r => { r with txExt := none })
        if s.on F.TCPD_TXCTL_BUSY p then ((s.put F.TCPD_TXCTL_BUSY p false).setFld F.TCPD_TXCTL_RESULT p 1).ccIrq p else s
      else s
    else s
  | none => s

/-- An extended message arrives in chunks: one unchunked or too long is refused and its data discarded, the next chunk is
asked for, and the whole is delivered (R243).  A chunk that does not follow the last one drops what was assembled. -/
def State.assemble (s : State) (p : Nat) (m : RxMsg) : State :=
  let n := m.extHdr / 2048 % 16
  let size := m.extHdr % 512
  let parted := (s.pd.at p).rxExt
  let s := s.updPd p (fun r => { r with rxExt := none })
  if !m.ext then s.msgIn p m
  else if !m.extHdr.testBit 15 ∨ 128 < size then
    (if m.sop = 0 then s.unsupported p else s.send p (.raw m.sop 16 0 false []))
  else if m.extHdr.testBit 10 then s.chunkAsked p m.sop m.typ n
  else
    let before := match parted with
      | some (o, h, _, b) => if n ≠ 0 ∧ o = m.sop ∧ h % 32 = m.typ then b else []
      | none => []
    let bytes := (before ++ m.bytes).take size
    if n ≠ 0 ∧ before.length ≠ 26 * n then s
    else if size ≤ bytes.length then s.msgIn p { m with bytes := bytes }
    else (s.updPd p (fun r => { r with rxExt := some (m.sop, m.hdr, size, bytes) })).send p
      (.chunkRequest m.sop m.typ (n + 1))

/-- A message is received (R225, R241 to R247, R268, R272). -/
def State.receive (s : State) (p : Nat) (m : RxMsg) : State :=
  if !s.pdTalks p || ((m.sop == 1 || m.sop == 2) && !s.on F.TCPD_PDSTAT_VCSRC p) then s
  else if m.sop = 3 then s.hardResetHeard p
  else if m.sop = 4 then s.cableResetHeard p
  else if s.on F.TCPD_RXSTAT_FULL p then (s.hush p).incr F.TCPD_PDCNT3_RXBUSY p
  else if s.duplicate p m then s.hush p
  else ((if m.sop = 0 then s.heard p (m.hdr / 64) else s.hush p).keepId p m).assemble p m

end Sys2Proof.Machine
end

