-- ==== Sys2Proof/Machine/Pd.lean ====
section
/-! DEFINITION. Power Delivery commands: messages, contracts, EPR mode, swaps, Hard Reset (R241 to R272). -/

namespace Sys2Proof.Machine

/-- The bytes in TCPD_TXBUF (R272). -/
def State.txBytes (s : State) (p : Nat) : List Nat :=
  ((List.range 32).flatMap (fun n => le 4 (s.fld F.TCPD_TXBUF_DATA (p * 32 + n)))).take (min 128 (s.fld F.TCPD_TXCTL_LEN p))

/-- SOP of the message in TCPD_TXBUF: a value above 4 acts as 0 (R272). -/
def State.txSop (s : State) (p : Nat) : Nat := if 4 < s.fld F.TCPD_TXCTL_SOP p then 0 else s.fld F.TCPD_TXCTL_SOP p

/-- The header of the message in TCPD_TXBUF, with the MessageID, role and revision bits that hardware inserts: the power and
data roles on SOP, none on SOP′ and SOP″ (R242, R272; log entry 20). -/
def State.txHeader (s : State) (p : Nat) : Nat :=
  let h := s.fld F.TCPD_TXHDR_HDR p
  let roles := if s.txSop p = 0 then 256 * bit01 (s.on F.TCPD_PDSTAT_PROLE p) + 32 * bit01 (s.on F.TCPD_PDSTAT_DROLE p) else 0
  h / 4096 * 4096 + (s.pd.at p).txIds.getD (s.txSop p) 0 * 512 + roles + (if s.fld F.TCPD_PDSTAT_REV p = 1 then 64 else 128) + h % 32

/-- The message in TCPD_TXBUF as the policy core wrote it (R272), the first 26 bytes of an extended one (R243). -/
def State.txMsg (s : State) (p : Nat) : PdMsg :=
  match s.txSop p with
  | 3 => .hardReset
  | 4 => .cableReset
  | sop =>
    let ext := s.on F.TCPD_TXCTL_EXT p
    .raw sop (s.txHeader p) (s.fld F.TCPD_TXHDR_EXTHDR p) ext (if ext then (s.txBytes p).take 26 else s.txBytes p)

/-- Type, number of data objects and data objects of the message in TCPD_TXBUF. -/
def State.txTyp (s : State) (p : Nat) : Nat := s.fld F.TCPD_TXHDR_HDR p % 32
def State.txControl (s : State) (p : Nat) : Bool := !s.on F.TCPD_TXCTL_EXT p && decide (s.fld F.TCPD_TXHDR_HDR p / 4096 % 8 = 0)
def State.txObjects (s : State) (p : Nat) : List Nat :=
  (List.range ((s.txBytes p).length / 4)).map (fun n => ofLe (((s.txBytes p).drop (4 * n)).take 4))

/-! ### The limits on what a policy sends (R246; log entry 141) -/

/-- The transition to the accepted offer is complete (R255). -/
def State.transitionDone (s : State) (p : Nat) (o : Offer) : Bool :=
  s.pwrIs p .on && decide (s.fld F.PWR_VSET_VSET p = o.volt / 10) && decide ((s.pwr.at p).vset = s.vsetEff p)

/-- PS_RDY of the accepted offer goes out, and the contract comes into force (R255, R258). -/
def State.readySend (s : State) (p : Nat) (o : Offer) : State :=
  let s := ((s.send p .psRdy).contractMade p o true).eprLeft p o.pos
  if s.vendorOn p then s.afterContract p else s

/-- Accept from a policy's image goes out as far as the grants, the claim and the hardware's refusals let it, none where it may
not: a Request is judged as the part itself judges it, a PR_Swap needs the sink path, a VCONN_Swap to the part what R229 asks
for, and a DR_Swap gets Reject (R246, R253, R259).  Whether to accept a swap is the image's own decision (R2). -/
def State.acceptSend (s : State) (p : Nat) : Option State :=
  let t := s.updPd p (fun r => { r with ask := .none })
  match (s.pd.at p).ask with
  | .none => some (s.send p (s.txMsg p))
  | .request epr pos volt curr eprCapable => some (t.request p epr pos volt curr eprCapable)
  | .prSwap rivals =>
    if !s.on F.TCPD_PDSTAT_PROLE p then some ((t.toSourceAgreed p).send p .accept)
    else if s.claimedByOther p || rivals.any (fun q => decide (q < p) && decide (currant q = currant p)) then none
    else some ((t.toSinkAgreed p).send p .accept)
  | .vconnSwap trips =>
    if s.on F.TCPD_PDSTAT_VCSRC p then
      some (((t.put F.TCPD_PDSTAT_SWAP p true).updPd p (fun r => { r with swap := .vconnGive })).send p .accept)
    else if s.vconnAllowed p then some ((t.send p .accept).vconnTake p trips)
    else none
  | .drSwap => some (t.reject p)

/-- Wait or Reject from a policy's image. -/
def State.refuseSend (s : State) (p : Nat) (f : Field) : State :=
  ((s.incr f p).updPd p (fun r => { r with ask := .none, awaiting := false })).send p (s.txMsg p)

/-- Source_Capabilities of a policy's image, trimmed as any offer (R250). -/
def State.capsSend (s : State) (p : Nat) : State := (s.sendCaps p (s.sprTrim p (s.txObjects p))).offerGood p

/-- EPR_Source_Capabilities of a policy's image, trimmed (R250). -/
def State.eprCapsSend (s : State) (p : Nat) : State :=
  let l := s.txObjects p
  (s.sendEprCaps p (numbered 1 (s.sprTrim p (l.take 7)) ++ numbered 8 (s.eprTrim p (l.drop 7)))).offerGood p

/-- The sink Request of a policy's image: an object of the partner's at or below 20 V, within the cable's current; else it is
not sent (R246, R262). -/
def State.requestSend (s : State) (p : Nat) : Option State :=
  let rdo := (s.txObjects p).headD 0
  let l := numbered 1 (s.pd.at p).partnerSource
  let pos := rdo / 2 ^ 28 % 16
  match objAt l pos with
  | none => none
  | some w =>
    let q := requestOf l rdo
    let v := if objKind w = 0 then objMaxV w else q.1
    if 20000 < v ∨ s.sinkAmps p < q.2 then none else some (s.sinkAsk p pos w v q.2 rdo)

/-- EPR_Mode of a policy's image: Enter Succeeded and Exit only where the cable and the contract allow it. -/
def State.eprModeSend (s : State) (p : Nat) : Option State :=
  let action := (s.txObjects p).headD 0 / 2 ^ 24 % 256
  let t := s.send p (s.txMsg p)
  match action with
  | 3 =>
    if s.contracted p && !s.on F.TCPD_PDSTAT_EPRMODE p && s.on F.TCPD_CABLE_CEILEPR p && s.on F.TCPD_PDSTAT_VCSRC p
        && s.on F.TCPD_PDCFG_EPR_EN p then
      some ((t.put F.TCPD_PDSTAT_EPRMODE p true).incr F.TCPD_PDCNT4_EPRENTRY p)
    else none
  | 5 => if 20000 < (s.pd.at p).volt then none else some (t.put F.TCPD_PDSTAT_EPRMODE p false)
  | _ => some t

/-- A message of an owner's image begins an AMS whose answer it waits for: a query, or a structured command (R220, R241). -/
def State.opensAms (s : State) (p : Nat) : Bool :=
  !s.vendorOn p && (
    if s.on F.TCPD_TXCTL_EXT p then [3, 4, 6, 8, 10, 16].contains (s.txTyp p)
    else if s.txControl p then decide (s.txTyp p = 7) || decide (s.txTyp p = 8) || decide (17 ≤ s.txTyp p)
    else
      let o := (s.txObjects p).headD 0
      decide (s.txTyp p = 15) && o.testBit 15 && decide (o / 64 % 4 = 0) && decide (o % 32 ≠ 6))

/-- A message goes out as the image wrote it. -/
def State.plainSend (s : State) (p : Nat) (t : State) : State := if s.opensAms p then t.ownBegin p .image else t

/-- The message in TCPD_TXBUF within the limits of R246; none where it may not be sent. -/
def State.limited (s : State) (p : Nat) : Option State :=
  let plain := s.plainSend p (s.send p (s.txMsg p))
  let source := s.on F.TCPD_PDSTAT_PROLE p
  let long := s.sendLong p (s.txMsg p) (s.txTyp p) (s.txBytes p)
  if s.txSop p ≠ 0 then some (if s.on F.TCPD_TXCTL_EXT p then long else s.send p (s.txMsg p))
  else if s.on F.TCPD_TXCTL_EXT p then
    if s.txTyp p = 17 ∧ source then some (s.eprCapsSend p)
    else some (s.plainSend p long)
  else if s.txControl p then
    match s.txTyp p with
    | 3 => s.acceptSend p
    | 4 => some (s.refuseSend p F.TCPD_PDCNT4_REJECTS)
    | 6 =>
      match (s.pd.at p).accepted with
      | some o => some (s.readySend p o)
      | none => some plain
    | 9 => none
    | 10 => s.prSwapSend p
    | 11 => s.vconnSwapSend p
    | 12 => some (s.refuseSend p F.TCPD_PDCNT0_WAITS)
    | 13 => some (s.softReset p)
    | _ => some plain
  else
    match s.txTyp p with
    | 1 => if source then some (s.capsSend p) else some plain
    | 2 | 9 => if source then some plain else s.requestSend p
    | 10 => if source then s.eprModeSend p else some plain
    | _ => some plain

/-- A PS_RDY that comes before the transition is complete is held back: of a contract, or of the power step of a swap (R246). -/
def State.readyHeld (s : State) (p : Nat) : Bool :=
  s.txControl p && decide (s.txTyp p = 6) && decide (s.txSop p = 0)
    && (match (s.pd.at p).accepted with
      | some o => !s.transitionDone p o
      | none => [Swap.toSinkAccepted, .toSinkOff, .toSourceOn].contains (s.pd.at p).swap)

/-- The PS_RDY of a swap's power step goes out (R261, R263): the vendor policy's, or the one of an owner's image that was held
back; an image that has sent none sends its own. -/
def State.swapReady (s : State) (p : Nat) : State :=
  if s.vendorOn p then s.send p .psRdy
  else if (s.pd.at p).heldReady then
    ((((s.updPd p (fun r => { r with heldReady := false })).put F.TCPD_TXCTL_BUSY p false).setFld F.TCPD_TXCTL_RESULT p 1).send p
      .psRdy).ccIrq p
  else s

/-- A message `t` of the image has its GoodCRC: RESULT tells, or its chunks still go out (R243, R272). -/
def State.txGood (s t : State) (p : Nat) : State :=
  if s.on F.TCPD_TXCTL_EXT p && (t.pd.at p).txExt.isSome then t.put F.TCPD_TXCTL_BUSY p true
  else ((t.put F.TCPD_TXCTL_BUSY p false).setFld F.TCPD_TXCTL_RESULT p 1).ccIrq p

/-- TXCTL.GO sends the message (R225, R241, R246, R272); the outcome is 0 no GoodCRC yet, 1 GoodCRC, 3 discarded by
collision.  SOP′ and SOP″ need the part to be VCONN source.  A message that may not be sent counts as discarded (log entry
141).  A GO while BUSY leaves the result open (R271). -/
def State.transmit (s : State) (p outcome : Nat) : State :=
  if !s.pdTalks p then s
  else if s.on F.TCPD_TXCTL_BUSY p then
    let (n, s) := s.drawNat
    s.setFld F.TCPD_TXCTL_RESULT p n
  else
    let s := (s.hush p).setFld F.TCPD_TXCTL_RESULT p 0
    match s.txMsg p with
    | .hardReset => (s.setFld F.TCPD_TXCTL_RESULT p 1).hardReset p true
    | .cableReset =>
      if s.on F.TCPD_PDSTAT_VCSRC p then (((s.setFld F.TCPD_TXCTL_RESULT p 1).identityClear p).send p .cableReset).ceilingFell p else s
    | _ =>
      if s.txSop p ≠ 0 ∧ !s.on F.TCPD_PDSTAT_VCSRC p then s
      else if s.readyHeld p then (s.updPd p (fun r => { r with heldReady := true })).put F.TCPD_TXCTL_BUSY p true
      else if outcome = 3 then (s.setFld F.TCPD_TXCTL_RESULT p 3).ccIrq p
      else
        match s.limited p with
        | none => (s.setFld F.TCPD_TXCTL_RESULT p 3).ccIrq p
        | some t =>
          if outcome ≠ 1 then (s.put F.TCPD_TXCTL_BUSY p true).updPd p (fun r => { r with retries := 0, out := (t.pd.at p).out })
          else s.txGood t p

/-- PD_TRANSMIT (R241). -/
def execPdTransmit (p outcome : Nat) (s : State) : Host.Outcome State Fault Refusal :=
  .next (pdSettle p (s.transmit p outcome))

/-- GOODCRC_TIMEOUT (R241): up to two retries, then retries exhausted; with `good` the retry that starts now gets its
GoodCRC. -/
def execGoodcrcTimeout (p : Nat) (s : State) (good : Bool := false) : Host.Outcome State Fault Refusal :=
  .next <|
    if s.pdLive p && s.on F.TCPD_TXCTL_BUSY p && !(s.pd.at p).heldReady then
      let n := (s.pd.at p).retries + 1
      if n ≤ 2 then
        match (s.hush p).limited p with
        | some t =>
          if good then pdSettle p (s.txGood (t.updPd p (fun r => { r with retries := 0 })) p)
          else s.updPd p (fun r => { r with retries := n, out := (t.pd.at p).out })
        | none => s.updPd p (fun r => { r with retries := n, out := [] })
      else
        let s := ((s.put F.TCPD_TXCTL_BUSY p false).setFld F.TCPD_TXCTL_RESULT p 2).incr F.TCPD_PDCNT3_TXFAIL p
        (s.updPd p (fun r => { r with retries := 0 })).ccIrq p
    else s

/-- PD_MESSAGE_RECEIVED (R247). -/
def execPdMessageReceived (p sop hdr extHdr : Nat) (ext : Bool) (bytes : List Nat) (s : State) :
    Host.Outcome State Fault Refusal :=
  .next (pdSettle p (s.receive p { sop := sop, hdr := hdr, ext := ext, extHdr := extHdr, bytes := bytes.take 128 }))

/-- A write of RELEASE (R243, R271, R272): the buffer is empty, and what it reads then is open (log entry 3). -/
def State.rxRelease (s : State) (p : Nat) : State :=
  (s.put F.TCPD_RXSTAT_FULL p false).each (List.range 32) (fun s n =>
    let (v, s) := s.drawNat
    s.setFld F.TCPD_RXBUF_DATA (p * 32 + n) v)

/-- RX_RELEASE (R272). -/
def execRxRelease (p : Nat) (s : State) : Host.Outcome State Fault Refusal := .next (s.rxRelease p)

/-- SOURCE_CAPABILITIES_SEND (R252); `good` says that GoodCRC came. -/
def execSourceCapabilitiesSend (p : Nat) (good : Bool) (s : State) : Host.Outcome State Fault Refusal :=
  .next (pdSettle p (if s.sourceReady p then (s.hush p).offerSent p good else s))

/-- SOURCE_CAP_REPEAT (R252). -/
def execSourceCapRepeat (p : Nat) (good : Bool) (s : State) : Host.Outcome State Fault Refusal :=
  .next (pdSettle p
    (if s.sourceReady p && decide (0 < (s.pd.at p).attempts) then (s.hush p).offerSent p good else s))

/-- The wait for a chunk ends: what was assembled is dropped, and so is what was being sent, whose RESULT is open (R243,
log entry 142). -/
def State.chunksDropped (s : State) (p : Nat) : State :=
  let sending := (s.pd.at p).txExt.isSome && s.on F.TCPD_TXCTL_BUSY p
  let s := s.updPd p (fun r => { r with rxExt := none, txExt := none })
  if sending then
    let (n, s) := s.drawNat
    ((s.put F.TCPD_TXCTL_BUSY p false).setFld F.TCPD_TXCTL_RESULT p n).ccIrq p
  else s

/-- SENDER_RESPONSE_TIMEOUT (R248, R252, R255, R260, R262): Hard Reset to a partner that does not answer, also to a source
whose PS_RDY does not come within tPSTransition; a PR_Swap or VCONN_Swap that the part sent is given up, and so is a query;
a chunk is waited for no longer.  A Soft_Reset of the part that gets no Accept is followed by Hard Reset (log entry 20). -/
def execSenderResponseTimeout (p : Nat) (s : State) : Host.Outcome State Fault Refusal :=
  .next <| pdSettle p <|
    let r := s.pd.at p
    if !s.pdTalks p then s
    else if r.rxExt.isSome ∨ r.txExt.isSome then (s.hush p).chunksDropped p
    else if !s.policyOn p then s
    else if r.own = .softReset then (s.hush p).hardReset p true
    else if r.own ≠ .none then (s.hush p).ownDone p
    else if r.query = 1 then (s.hush p).queryDone p 4
    else if r.swap = .prSent ∨ r.swap = .vconnSent then (s.hush p).swapDropped p .silent
    else if s.vendorOn p ∧ (r.awaiting ∨ (r.sinkOffer.isSome ∧ s.on F.TCPD_PDSTAT_AMS p)) then
      ((s.hush p).updPd p (fun r => { r with awaiting := false })).hardReset p true
    else s

/-- REQUEST (R244, R246, R253): voltage in mV (for an APDO), current in 10 mA; `rev` is the revision of its header. -/
def execRequest (p : Nat) (epr : Bool) (pos volt curr : Nat) (eprCapable : Bool) (rev : Nat) (s : State) :
    Host.Outcome State Fault Refusal :=
  .next <| pdSettle p <|
    if s.pdLive p && decide (p ≤ 32) && s.ccIs p .attachedSrc && s.on F.TCPD_PDSTAT_PROLE p then
      s.rxOpen p (fun s =>
        if s.vendorOn p then (s.heardRow p rev).request p epr pos volt curr eprCapable
        else if s.policyOn p then (s.heardRow p rev).asked p (.request epr pos volt curr eprCapable)
        else (s.heardRow p rev).holdRequest p pos volt curr)
    else s

/-- It is the turn of port `p` to be offered freed budget: of the ports whose last answer was Wait, it has the lowest class,
then the lowest number (R308). -/
def State.offerTurn (s : State) (p : Nat) : Bool :=
  s.sourceReady p && (s.pd.at p).lastWait && allPorts.all (fun q =>
    !(s.sourceReady q && (s.pd.at q).lastWait)
      || decide (s.classOf p < s.classOf q) || (decide (s.classOf p = s.classOf q) && decide (p ≤ q)))

/-- BUDGET_FREED_OFFER (R254, R308). -/
def execBudgetFreedOffer (p : Nat) (s : State) : Host.Outcome State Fault Refusal :=
  .next (pdSettle p (if s.offerTurn p then (s.hush p).offerSent p true else s))

/-- TRANSITION_PS_RDY (R246, R255): the stage stands in ON at the accepted voltage, and PS_RDY goes out: the vendor
policy's, or the one of an owner's image that was held back. -/
def execTransitionPsRdy (p : Nat) (s : State) : Host.Outcome State Fault Refusal :=
  .next <| pdSettle p <|
    match (s.pd.at p).accepted with
    | some o =>
      if s.policyOn p && s.transitionDone p o && (s.vendorOn p || (s.pd.at p).heldReady) then
        let s := if (s.pd.at p).heldReady then (s.put F.TCPD_TXCTL_BUSY p false).setFld F.TCPD_TXCTL_RESULT p 1 else s
        (s.hush p).readySend p o
      else s
    | none => s

/-- PPS_TIMEOUT (R256, R244). -/
def execPpsTimeout (p : Nat) (s : State) : Host.Outcome State Fault Refusal :=
  .next <|
    if s.pdLive p && s.on F.TCPD_PDSTAT_PROLE p && decide (s.fld F.TCPD_PDSTAT_PTYPE p = 2) then (s.hush p).hardReset p true
    else s

/-- EPR_MODE_ENTER (R242, R244, R257, R268): as sink, and to the hold responder, it is not supported. -/
def execEprModeEnter (p : Nat) (s : State) : Host.Outcome State Fault Refusal :=
  .next <| pdSettle p <|
    if !s.pdTalks p then s
    else s.rxOpen p (fun s =>
      let s := s.heardRow p 2
      if !s.policyOn p then s.unsupported p
      else if !s.vendorOn p then s.ccIrq p
      else if p ≤ 32 ∧ s.on F.TCPD_PDSTAT_PROLE p ∧ s.fld F.TCPD_PDSTAT_REV p ≠ 1 then s.eprEnter p
      else s.unsupported p)

/-- EPR_ENTRY_CHECK (R257). -/
def execEprEntryCheck (p : Nat) (s : State) : Host.Outcome State Fault Refusal :=
  .next (pdSettle p (if s.vendorOn p && (s.pd.at p).eprPending then (s.hush p).eprCheck p else s))

/-- EPR_KEEPALIVE (R242, R244, R258, R268). -/
def execEprKeepalive (p : Nat) (s : State) : Host.Outcome State Fault Refusal :=
  .next <|
    if s.pdTalks p && decide (p ≤ 32) then s.rxOpen p (fun s =>
      let s := s.heardRow p 2
      if s.policyOn p && !s.vendorOn p then s.ccIrq p else s.sendNew p .keepAliveAck)
    else s

/-- EPR_KEEPALIVE_TIMEOUT (R258, R244). -/
def execEprKeepaliveTimeout (p : Nat) (s : State) : Host.Outcome State Fault Refusal :=
  .next (if s.pdLive p && s.on F.TCPD_PDSTAT_EPRMODE p then (s.hush p).hardReset p true else s)

/-- EPR_MODE_EXIT (R258): by the sink, or by the part where it must leave. -/
def execEprModeExit (p : Nat) (bySink : Bool) (s : State) : Host.Outcome State Fault Refusal :=
  .next <| pdSettle p <|
    if !s.vendorOn p || !s.pdTalks p || decide (32 < p) then s
    else if bySink then s.rxOpen p (fun s => (s.heardRow p 2).eprExitBySink p)
    else if s.eprMustLeave p && s.sourceReady p then (s.hush p).offerSent p true
    else s

/-- PR_SWAP_RECEIVED (R244, R246, R260, R263, R268); `rivals` claim the sink path on the same cycle, `rev` is the revision
of its header. -/
def execPrSwapReceived (p : Nat) (rivals : List Nat) (rev : Nat) (s : State) : Host.Outcome State Fault Refusal :=
  .next <| pdSettle p <|
    if !s.pdTalks p then s
    else s.rxOpen p (fun s =>
      let s := s.heardRow p rev
      if !s.policyOn p then s.send p .wait
      else if 32 < p then s.reject p
      else if s.vendorOn p then s.prSwap p rivals
      else s.asked p (.prSwap rivals))

/-- SWAP_SOURCE_OFF (R261 step 2). -/
def execSwapSourceOff (p : Nat) (s : State) : Host.Outcome State Fault Refusal :=
  .next <|
    if s.live p && decide ((s.pd.at p).swap = .toSinkAccepted) then
      let s := (s.contractEnd p).updPwr p (fun r => { r with offInterval := true })
      ((s.updPd p (fun r => { r with swap := .toSinkOff })).put F.TCPD_PDSTAT_AMS p true).pwrUpdate p
    else s

/-- SWAP_VSAFE0 (R261 step 3). -/
def execSwapVsafe0 (p : Nat) (s : State) : Host.Outcome State Fault Refusal :=
  .next <|
    if s.live p && decide ((s.pd.at p).swap = .toSinkOff) && s.vsafe0 p then
      let s := ((s.rpOff p).setCc p .attachedSnk).put F.TCPD_PDSTAT_PROLE p false
      let s := (s.updPwr p (fun r => { r with offInterval := false })).updPd p (fun r => { r with swap := .toSinkWait })
      ((((s.hush p).updPd p (fun r => { r with capsDue := false })).swapReady p).pwrUpdate p).govRefresh
    else s

/-- SWAP_PARTNER_PS_RDY (R261, R263, R264). -/
def execSwapPartnerPsRdy (p : Nat) (s : State) : Host.Outcome State Fault Refusal :=
  .next (pdSettle p (if s.live p then s.rxOpen p (fun s => (s.hush p).swapPsRdy p) else s))

/-- SWAP_TIMEOUT (R261, R263, R264). -/
def execSwapTimeout (p : Nat) (s : State) : Host.Outcome State Fault Refusal :=
  .next <|
    if s.live p && ((s.pd.at p).swap == .toSinkOff || (s.pd.at p).swap == .toSinkWait || (s.pd.at p).swap == .toSinkRequest
        || (s.pd.at p).swap == .toSourceAccepted || (s.pd.at p).swap == .toSourceOn || (s.pd.at p).swap == .vconnGive) then
      (s.hush p).hardReset p true
    else s

/-- SINK_TO_SOURCE_VSAFE5 (R263 steps 3 and 4). -/
def execSinkToSourceVsafe5 (p : Nat) (s : State) : Host.Outcome State Fault Refusal :=
  .next <|
    if s.live p && decide ((s.pd.at p).swap = .toSourceOn) && s.pwrIn p [.ramp, .qual, .on] then
      let s := ((s.releaseClaim p).setCc p .attachedSrc).put F.TCPD_PDSTAT_PROLE p true
      let s := (s.updPwr p (fun r => { r with swapOn := false })).swapOver p .done
      let s := s.updCc p (fun r => { r with attachedSink := false })
      let s := ((s.incr F.TCPD_PDCNT2_PRSWAPS p).hush p).swapReady p
      if s.vendorOn p then s.offerSent p true else s
    else s

/-- VCONN_SWAP_RECEIVED (R244, R246, R264, R268); `rev` is the revision of its header. -/
def execVconnSwapReceived (p : Nat) (trips : Bool) (rev : Nat) (s : State) : Host.Outcome State Fault Refusal :=
  .next <| pdSettle p <|
    if !s.pdTalks p then s
    else s.rxOpen p (fun s =>
      let s := s.heardRow p rev
      if !s.policyOn p then s.send p .wait
      else if 32 < p then s.unsupported p
      else if s.vendorOn p then s.vconnSwap p trips
      else s.asked p (.vconnSwap trips))

/-- DR_SWAP_RECEIVED (R244, R246, R259, R268); `rev` is the revision of its header.  An owner's image answers it itself, and
its Accept does not stand. -/
def execDrSwapReceived (p rev : Nat) (s : State) : Host.Outcome State Fault Refusal :=
  .next <|
    if s.pdTalks p then s.rxOpen p (fun s =>
      let s := s.heardRow p rev
      if s.policyOn p && !s.vendorOn p then s.asked p .drSwap else s.reject p)
    else s

/-- HARD_RESET (R225, R266). -/
def execHardReset (p : Nat) (sent : Bool) (s : State) : Host.Outcome State Fault Refusal :=
  .next (if s.pdTalks p then (if sent then (s.hush p).hardReset p true else s.hardResetHeard p) else s)

/-- HARD_RESET_VBUS_OFF (R266 step 2): the grant falls to the base reservation. -/
def execHardResetVbusOff (p : Nat) (s : State) : Host.Outcome State Fault Refusal :=
  .next <|
    if s.live p && decide ((s.pd.at p).hardStep = 1) then
      let s := (s.updPd p (fun r => { r with hardStep := 2 })).updGov p (fun g => { g with grant := 0 })
      ((s.updPwr p (fun r => { r with offInterval := true })).pwrUpdate p).govRefresh
    else s

/-- HARD_RESET_RECOVER (R266 steps 3 to 5): VBUS never below 0.8 V leads to ErrorRecovery; a latched port stays off
(R291). -/
def execHardResetRecover (p : Nat) (s : State) : Host.Outcome State Fault Refusal :=
  .next <|
    if s.live p && decide (2 ≤ (s.pd.at p).hardStep) then
      if !s.vsafe0 p then s.errorRecovery p
      else
        let s := (s.updPd p (fun r => { r with hardStep := 0 })).put F.TCPD_PDSTAT_HRST p false
        let s := s.updPwr p (fun r => { r with offInterval := false })
        if s.pwrIs p .latched then s else (s.vconnTry p).levels p
    else s

/-- NO_RESPONSE_TIMEOUT (R252). -/
def execNoResponseTimeout (p : Nat) (s : State) : Host.Outcome State Fault Refusal :=
  .next <|
    if s.vendorOn p && decide (p ≤ 32) && (s.pd.at p).silent then
      if (s.pd.at p).hardResets < 2 then (s.hush p).hardReset p true
      else if (s.pd.at p).heard then s.errorRecovery p
      else s.updPd p (fun r => { r with noPd := true, silent := false })
    else s

/-- The hold responder takes over port `p` (R244): an AMS under way is abandoned (R267), and the contract in force keeps
its voltage and grant. -/
def State.holdStart (s : State) (p : Nat) : State :=
  if s.pdLive p && !s.policyRuns p && !s.on F.TCPD_PDSTAT_HOLD p then
    let dropped := (s.pd.at p).accepted.isSome
    let s := (s.put F.TCPD_PDSTAT_HOLD p true).put F.TCPD_PDSTAT_AMS p false
    let s := s.updPd p (fun r => { r with
      accepted := none, awaiting := false, lastWait := false, eprPending := false, eprLeaving := false, heldReady := false,
      sinkOffer := none, sinkAccepted := false, capsDue := false, ownAms := false, ask := .none,
      query := if r.query = 1 then 4 else r.query, own := .none, trimmed := false })
    let s := s.swapDropped p .silent
    let s := if dropped then
        let s := s.updGov p (fun g => { g with grant := s.fld F.TCPD_GRANT_GRANT p })
        let s := s.setFld F.PWR_VSET_VSET p (if s.contracted p then (s.pd.at p).volt / 10 else 500)
        (s.vsetUpdate p).govRefresh
      else s
    s.logPort p 8 (Config.caseCode 244 1)
  else s

/-- HOLD_RESPONDER_START (R244). -/
def execHoldResponderStart (p : Nat) (s : State) : Host.Outcome State Fault Refusal := .next (s.holdStart p)

/-- POLICY_ENGINE_START (R244): capabilities follow as SOURCE_CAPABILITIES_SEND where no contract is in force. -/
def execPolicyEngineStart (p : Nat) (s : State) : Host.Outcome State Fault Refusal :=
  .next <|
    if s.pdLive p && s.policyRuns p && s.on F.TCPD_PDSTAT_HOLD p then
      ((s.put F.TCPD_PDSTAT_HOLD p false).updPd p (fun r => { r with attempts := 0, noPd := false })).logPort p 8 (Config.caseCode 244 2)
    else s

/-- The governor's feed flag changes (R251); ports in EPR mode are offered their capabilities anew (R258). -/
def State.setFeed48 (s : State) (b : Bool) : State :=
  if s.on F.GOV_STAT_FEED48 0 == b then s
  else
    let s := (s.put F.GOV_STAT_FEED48 0 b).each allPorts (fun s p => if s.live p then s.put F.TCPD_PDSTAT_FEED48 p b else s)
    let s := ((s.notice 6 8).irq 13).logPower 5 (le 4 (bit01 b))
    s.each allPorts (fun s p => if s.live p && s.on F.TCPD_PDSTAT_EPRMODE p then s.offerAnew p else s)

/-- FEED48_CHANGE (R251, R258): VIN_OR in 10 mV at the end of its 1 s or 10 µs. -/
def execFeed48Change (vin : Nat) (s : State) : Host.Outcome State Fault Refusal :=
  .next (s.setFeed48 (decide (5300 ≤ vin)))

/-- SINK_REQUEST_RETRY (R262): the source has answered Wait. -/
def execSinkRequestRetry (p : Nat) (s : State) : Host.Outcome State Fault Refusal :=
  .next <|
    match (s.pd.at p).sinkOffer with
    | some o =>
      if s.vendorOn p && !(s.pd.at p).sinkAccepted && !s.on F.TCPD_PDSTAT_AMS p && s.sinkTxOk p then
        ((s.hush p).put F.TCPD_PDSTAT_AMS p true).send p (.request (o.pos * 2 ^ 28 + o.curr * 1024 + o.curr))
      else s
    | none => s

/-! ### VCONN trips and cable discovery (R227, R230, R231) -/

/-- VCONN_TRIP (R227, R232, R233, R235): a VCONN_Swap in which the part is to give VCONN up ends as for a VCONN source that
fails, with Hard Reset (R264, log entry 142). -/
def execVconnTrip (p : Nat) (s : State) : Host.Outcome State Fault Refusal :=
  .next <|
    if s.live p && s.on F.TCPD_VCSTAT_VCON p then
      let t := (s.hush p).vconnTripped p
      if (s.pd.at p).swap = .vconnSent ∨ (s.pd.at p).swap = .vconnGive ∨ (s.pd.at p).swap = .vconnTaking then t.hardReset p true
      else pdSettle p (t.ceilingFell p)
    else s

/-- DISCOVERY_ATTEMPT (R220, R230): in a contract Rp shows SinkTxNG until the answer or its time. -/
def execDiscoveryAttempt (p : Nat) (answered : Bool) (s : State) : Host.Outcome State Fault Refusal :=
  .next (pdSettle p (s.discAttempt p answered))

/-- DISCOVER_IDENTITY_ACK (R230, R231). -/
def execDiscoverIdentityAck (p idHeader vdo : Nat) (sop2 : Bool) (s : State) : Host.Outcome State Fault Refusal :=
  .next (pdSettle p (s.identityAck p idHeader vdo sop2))

end Sys2Proof.Machine
end

