-- ==== Sys2Proof/Machine/Pwr.lean ====
section
/-! DEFINITION. Port power stage commands: converter, fuse, protections, retries, latch, sink path and the Currant's
converter conditions (R273 to R297). -/

namespace Sys2Proof.Machine

/-- Byte `o` of the calibration shadow (R426). -/
def State.calByte (s : State) (o : Nat) : Nat := s.fld F.CAL_DATA_DATA (o / 4) / 256 ^ (o % 4) % 256

/-- Two bytes of the calibration shadow. -/
def State.calHalf (s : State) (o : Nat) : Nat := s.calByte o + 256 * s.calByte (o + 1)

/-- The stage enters SOFTSTART (R274, R283, R287, R309): VSET_EFF is computed, the fault timer is cleared, and while a sag
stands the port takes its folded limit. -/
def State.softstart (s : State) (p : Nat) : State :=
  let s := (s.actuated p 2).updPwr p (fun r => { r with
    vset := s.vsetEff p, setpoint := 10 * s.vsetEff p, timer := 0, calm := 0, notBefore := 0 })
  let s := if s.on F.GOV_STAT_SAG 0 then s.sagFold p else s
  s.setPwr p .softstart

/-- VBUS_REQUEST (R287), not before the stagger offset of a VBUS on action (R293). -/
def execVbusRequest (p : Nat) (s : State) : Host.Outcome State Fault Refusal :=
  .next <|
    if s.vbusRequest p && s.pwrIs p .off && s.vsafe0 p && !s.on F.DIE_STAT_SHUTDOWN (currant p)
        && decide ((s.pwr.at p).notBefore ≤ s.ct) then s.softstart p
    else s

/-- SOFTSTART_DONE (R287). -/
def execSoftstartDone (p : Nat) (s : State) : Host.Outcome State Fault Refusal :=
  .next (if s.live p && s.pwrIs p .softstart then s.setPwr p .ramp else s)

/-- GATE_FULLY_ON (R287): VBUS has risen. -/
def execGateFullyOn (p : Nat) (s : State) : Host.Outcome State Fault Refusal :=
  .next <|
    if s.live p && s.pwrIs p .ramp then (s.put F.TCPD_CCSTAT_VSAFE0 p false).setPwr p .qual
    else s

/-- TQUAL_COMPLETE (R289): with the limit inactive. -/
def execTqualComplete (p : Nat) (s : State) : Host.Outcome State Fault Refusal :=
  .next (if s.live p && s.pwrIs p .qual && !s.on F.PWR_PSTAT_LIMIT p then s.setPwr p .on else s)

/-- LIMIT_ENGAGE (R281, R283, R287): the shunt would carry `i` mA, positive out of the port.  LIMIT is 1 where that exceeds the
active level, else 0, and the gate is then not, or again, fully on (log entry 143); ON falls to QUAL. -/
def execLimitEngage (p : Nat) (i : Int) (s : State) : Host.Outcome State Fault Refusal :=
  .next <|
    if s.live p && s.pwrIn p [.ramp, .qual, .on, .transition, .sink] then
      let engaged := decide (s.activeLevel p < s.flow p i)
      let s := (s.put F.PWR_PSTAT_LIMIT p engaged).put F.PWR_PSTAT_GATEON p (!engaged && !s.pwrIs p .ramp)
      if engaged && s.pwrIs p .on then s.setPwr p .qual else s
    else s

/-- TTRIP as applied, in 0.1 °C (R286, R296). -/
def State.ttrip (s : State) (p : Nat) : Int := 10 * (clamp 80 150 (s.fld F.PWR_THCFG_TTRIP p) : Nat)

/-- The FET temperature estimate in 0.1 °C. -/
def State.fetTemp (s : State) (p : Nat) : Int := toInt 16 (s.fld F.ADC_PT_TEST p)

/-- FAULT_TIMER_EXPIRY (R283, R294): a thermal fault of the same period wins. -/
def execFaultTimerExpiry (p : Nat) (s : State) : Host.Outcome State Fault Refusal :=
  .next <|
    if s.live p && s.on F.PWR_PSTAT_LIMIT p then
      let s := s.updPwr p (fun r => { r with timer := 25 * clamp 1 500 (s.fld F.PWR_TIM_TFLT p) })
      s.protect p (if s.ttrip p ≤ s.fetTemp p then 3 else 1)
    else s

/-- FAST_TRIP (R284): the shunt current in mA crosses IFT or 15 A, in a state in which the fuse gate is not held off. -/
def execFastTrip (p : Nat) (s : State) (i : Int := 0) : Host.Outcome State Fault Refusal :=
  .next (if decide (100 * s.fld F.PWR_LEVELS_IFT p < i.natAbs) || decide (15000 < i.natAbs) then s.protect p 2 else s)

/-- OVERLOAD_EXHAUSTED (R282). -/
def execOverloadExhausted (p : Nat) (s : State) : Host.Outcome State Fault Refusal :=
  .next <|
    if s.live p && s.pwrIn p [.qual, .on, .transition, .sink] && !s.on F.PWR_PSTAT_OVLDX p then
      let bins := (s.pwr.at p).bins
      let short := 2500 - bins.sum
      let bins := match bins with
        | [] => [short]
        | b :: r => (b + short) :: r
      let s := (s.updPwr p (fun r => { r with bins := bins })).setFld F.ADC_POVL_OVLDSUM p bins.sum
      ((s.put F.PWR_PSTAT_OVLDX p true).incr F.PWR_CNT3_OVLDEXH p).irq (63 + p)
    else s

/-- Bins age out, oldest first, until the sum falls below 10 ms (R282). -/
def ageBins : Nat → List Nat → List Nat
  | 0, l => l
  | n + 1, l => if l.sum < 2500 then l else ageBins n l.dropLast

/-- OVLDX_CLEAR (R282). -/
def execOvldxClear (p : Nat) (s : State) : Host.Outcome State Fault Refusal :=
  .next <|
    if s.live p && s.on F.PWR_PSTAT_OVLDX p then
      let bins := ageBins 50 (s.pwr.at p).bins
      let s := (s.updPwr p (fun r => { r with bins := bins })).setFld F.ADC_POVL_OVLDSUM p bins.sum
      s.put F.PWR_PSTAT_OVLDX p false
    else s

/-- The voltage in mV on which the over-voltage threshold of port `p` rests: the setpoint, in SINK the contract (R285, R292). -/
def State.ovBase (s : State) (p : Nat) : Nat := if s.pwrIs p .sink then (s.pd.at p).volt else (s.pwr.at p).setpoint

/-- VBUS_OVERVOLTAGE (R285): VBUS of `v` in 10 mV has stood above 1.10 × setpoint + 0.5 V, or above 54.0 V. -/
def execVbusOvervoltage (p : Nat) (s : State) (v : Nat := 0) : Host.Outcome State Fault Refusal :=
  .next (if decide (11 * s.ovBase p + 5000 < 100 * v) || decide (5400 < v) then s.protect p 4 else s)

/-- The setpoint of port `p` moves down (R278). -/
def State.downward (s : State) (p : Nat) : Bool :=
  s.pwrIs p .transition && decide (10 * (s.pwr.at p).vset < (s.pwr.at p).setpoint)

/-- REVERSE_CURRENT (R278, R285): in a source state `i` mA have flowed from VBUS toward Pnn_VOUT. -/
def execReverseCurrent (p : Nat) (s : State) (i : Nat := 0) : Host.Outcome State Fault Refusal :=
  .next (if s.pwrIn p sourcing && decide ((if s.downward p then 2000 else 500) < i) then s.protect p 5 else s)

/-- BUCK_PEAK_FAULT (R285). -/
def execBuckPeakFault (p : Nat) (s : State) : Host.Outcome State Fault Refusal :=
  .next (if s.pwrIn p sourcing then s.protect p 6 else s)

/-- VSET_CHANGE (R255, R274, R278): the vendor policy writes VSET for the accepted Request, and VSET_EFF follows. -/
def execVsetChange (p : Nat) (s : State) : Host.Outcome State Fault Refusal :=
  .next <|
    if s.live p then
      let s := match (s.pd.at p).accepted with
        | some o => if s.vendorOn p then s.setFld F.PWR_VSET_VSET p (o.volt / 10) else s
        | none => s
      s.vsetUpdate p
    else s

/-- The sensed output in 10 mV: Pnn_VBUS while the fuse gate is fully on, else Pnn_VOUT (R273). -/
def State.sensed (s : State) (p : Nat) : Nat :=
  if s.on F.PWR_PSTAT_GATEON p then s.fld F.ADC_PV_VBUS p else s.fld F.ADC_PV_VOUT p

/-- `a` and `b` lie within 1 % of `v`. -/
def within1 (v a b : Nat) : Bool := decide (100 * (a - b) ≤ v) && decide (100 * (b - a) ≤ v)

/-- The output of port `p` stands in the band of R278: within 1 % of VSET_EFF, in dropout unchanged by 1 % of it. -/
def State.inBand (s : State) (p : Nat) : Bool :=
  let r := s.pwr.at p
  within1 r.vset (s.sensed p) (if s.on F.PWR_PSTAT_DROPOUT p then r.settleRef else r.vset)

/-- TRANSITION_COMPLETE (R278): TSETTLE has passed in the band with the limit inactive. -/
def execTransitionComplete (p : Nat) (s : State) : Host.Outcome State Fault Refusal :=
  .next (if s.live p && s.pwrIs p .transition && !s.on F.PWR_PSTAT_LIMIT p && s.inBand p then s.setPwr p .on else s)

/-- TRANSITION_TIMEOUT (R278, R285). -/
def execTransitionTimeout (p : Nat) (s : State) : Host.Outcome State Fault Refusal :=
  .next (if s.pwrIs p .transition then s.protect p 7 else s)

/-- PPS_UNDERVOLTAGE (R279): TFLT has passed in current-loop operation with VBUS below 3.0 V. -/
def execPpsUndervoltage (p : Nat) (s : State) : Host.Outcome State Fault Refusal :=
  .next (if s.pwrIn p sourcing && decide (s.fld F.TCPD_PDSTAT_PTYPE p = 2) && s.on F.PWR_PSTAT_CL p
    && decide (s.fld F.ADC_PV_VBUS p < 300) then s.protect p 11 else s)

/-- FET_THERMAL_TRIP (R286): the estimate reaches TTRIP. -/
def execFetThermalTrip (p : Nat) (s : State) : Host.Outcome State Fault Refusal :=
  .next <|
    if s.live p then
      let t := s.ttrip p
      let s := if t ≤ s.fetTemp p then s else
        (s.setFld F.ADC_PT_TEST p (ofInt 16 t)).updPwr p (fun r => { r with tj := max r.tj ((t : Rat) / 10) })
      s.protect p 3
    else s

/-- NTC_FAULT (R285): a short acts as the FET temperature does; open, the model stands in, nothing turns off, and the cause and
the counter are those of the kind.  Port 0 stands for HS_TEMP, whose short is an HS_FAULT of cause 4 (R303). -/
def execNtcFault (p : Nat) (short : Bool) (s : State) : Host.Outcome State Fault Refusal :=
  .next <|
    if p = 0 then (if s.on F.ENT_HSTH_TSRC 0 then { s with ent := { s.ent with ntcBad := true } } else s)
    else if s.live p && s.on F.PWR_THCFG_TSRC p then
      let s := s.updPwr p (fun r => { r with ntcBad := true })
      if short && s.pwrIn p (.sink :: sourcing) then s.protect p 9
      else ((s.setFld F.PWR_PSTAT_CAUSE p 9).countFault p 9).raisePort p 9
    else s

/-! ### What the feed entry and the retries share -/

/-- The feed entry and the governor are supplied: BOOT is (R14, R316). -/
def State.entOn (s : State) : Bool := s.power.aon && s.power.boot != .off && (s.power.dormancy == .awake || s.power.dormancy == .entering)

/-- VSURGE and VCLAMP as applied, in 10 mV (R315). -/
def State.vsurge (s : State) : Nat := 10 * clamp 560 630 (s.fld F.ENT_SURGE_VSURGE 0)

/-- VCLAMP as applied, in 10 mV. -/
def State.vclamp (s : State) : Nat := 10 * clamp 550 600 (s.fld F.ENT_SURGE_VCLAMP 0)

/-- VIN_OR is measured, in 10 mV: the under-voltage and surge flags and the peak of a surge follow (R305, R315). -/
def State.setVin (s : State) (v : Nat) : State :=
  let s := ((s.setFld F.ENT_BV_VIN_OR 0 v).put F.ENT_FSTAT_UV 0 (decide (v < 3600))).put F.ENT_FSTAT_SURGE 0 (decide (s.vsurge < v))
  if s.ent.surging then { s with ent := { s.ent with surgePeak := max s.ent.surgePeak v } } else s

/-! ### Retries, discharge, latch (R287 to R292) -/

/-- The conditions of R290 and R484 for the end of RETRYWAIT, the elapsed times apart. -/
def State.retryReady (s : State) (p : Nat) : Bool :=
  s.pwrIs p .retryWait && s.vbusRequest p && s.vsafe0 p && decide (s.fetTemp p < s.ttrip p - 200)
    && decide ((s.pd.at p).hardStep = 0) && !s.on F.DIE_STAT_SHUTDOWN (currant p)

/-- RETRY_START (R290). -/
def execRetryStart (p : Nat) (s : State) : Host.Outcome State Fault Refusal :=
  .next (if s.retryReady p then (s.incr F.PWR_CNT2_RETRIES p).softstart p else s)

/-- RETRY_RELOAD (R290). -/
def execRetryReload (p : Nat) (s : State) : Host.Outcome State Fault Refusal :=
  .next (if s.live p && s.pwrIs p .on then s.setFld F.PWR_PSTAT_RETRYLEFT p (s.fld F.PWR_RETRY_RETRY p) else s)

/-- What follows VBUS below 0.8 V: VOUT, which the buck has brought to 0 V but after a buck peak fault (R288; log entry 67), the
stage (R287), a Hard Reset (R266) and a Disabled port (R222). -/
def State.dischargeDone (s : State) (p : Nat) : State :=
  let s := s.setVbus p 0
  let s := if (s.pwr.at p).gatesLow && decide (s.fld F.PWR_PSTAT_CAUSE p = 6) then s else s.setFld F.ADC_PV_VOUT p 0
  let s := if s.pwrIs p .discharge then s.setPwr p .off else s.pwrUpdate p
  let s := if (s.pd.at p).hardStep = 2 then s.updPd p (fun r => { r with hardStep := 3 }) else s
  s.tryLeaveDisabled p

/-- DISCHARGE_DONE (R287). -/
def execDischargeDone (p : Nat) (s : State) : Host.Outcome State Fault Refusal :=
  .next (if s.live p && s.pwrIn p [.discharge, .retryWait, .latched, .off] then s.dischargeDone p else s)

/-- VBUS of port `p` is being discharged: by its stage, or because its domain switches off (R33, R285, R287). -/
def State.discharging (s : State) (p : Nat) : Bool :=
  s.pwrIn p [.discharge, .retryWait, .latched] || (s.pwrIs p .off && s.domChanging (Dom.ports (currant p)))

/-- DISCHARGE_TIMEOUT (R285, R485): the state is kept. -/
def execDischargeTimeout (p : Nat) (s : State) : Host.Outcome State Fault Refusal :=
  .next <|
    if s.live p && s.discharging p && !s.vsafe0 p then
      let s := s.updPwr p (fun r => { r with dischOver := true })
      ((((s.setFld F.PWR_PSTAT_CAUSE p 8).countFault p 8).raisePort p 8)).irq (63 + p)
    else s

/-- CLRLATCH is written (R291): the clear, or its refusal. -/
def State.clrLatch (s : State) (p : Nat) : State :=
  if s.live p then
    match s.clearLatch p with
    | some t => t
    | none => s.latchRefused p
  else s

/-- CLRLATCH (R291). -/
def execClrlatch (p : Nat) (s : State) : Host.Outcome State Fault Refusal := .next (s.clrLatch p)

/-- BRDOFF clears together with the last recorded port while PG_BRD is high (R306). -/
def State.brdoffEnd (s : State) : State :=
  if s.on F.ENT_HSTAT_PG_BRD 0 && decide (s.fld F.GOV_BRDOFF_PORTS 0 = 0) then s.put F.GOV_STAT_BRDOFF 0 false else s

/-- VOFF is written (R293, R306): setting it on a recorded port takes the port off the record; the output then turns off
and the contract ends as by a VBUS off action. -/
def State.voffWrite (s : State) (p : Nat) (b : Bool) : State :=
  if s.live p then
    if b then ((s.putBit F.GOV_BRDOFF_PORTS 0 (p - 1) false).brdoffEnd).voffSet p else s.voffClear p
  else s

/-- The governor holds VOFF of port `p` (R306). -/
def State.brdoffHeld (s : State) (p : Nat) : Bool := s.live p && s.bit F.GOV_BRDOFF_PORTS 0 (p - 1)

/-- VOFF_WRITE (R287); VOFF = 0 on a recorded port gives unpredictable results (R314). -/
def execVoffWrite (p : Nat) (b : Bool) (s : State) : Host.Outcome State Fault Refusal :=
  orUnpredictable (if !b && s.brdoffHeld p then 314 else 0) (s.voffWrite p b)

/-- Another port of the Currant has its sink selector on (R34). -/
def State.skgTaken (s : State) (p : Nat) : Bool :=
  (portsOf (currant p)).any (fun q => q != p && s.on F.TCPD_SINKSTAT_SKGON q)

/-- SINK_ENTRY (R33, R34, R246, R262, R287): a sink contract at or below 20 V is in force, no other selector of the Currant
is on, and the Currant's domain does not change. -/
def execSinkEntry (p : Nat) (s : State) : Host.Outcome State Fault Refusal :=
  .next <|
    if s.live p && !s.domChanging (Dom.ports (currant p)) && s.pwrIs p .off && s.ccIs p .attachedSnk && s.contracted p && s.on F.TCPD_CCSTAT_SINKCLAIM p
        && decide ((s.pd.at p).volt ≤ 20000) && !s.skgTaken p then
      (s.put F.TCPD_SINKSTAT_SKGON p true).setPwr p .sink
    else s

/-- SINK_FAULT (R292): a protection acts on the reverse current; the cause as in PWR_PSTAT.CAUSE. -/
def execSinkFault (p cause : Nat) (s : State) : Host.Outcome State Fault Refusal :=
  .next (if s.live p && s.pwrIs p .sink && decide (1 ≤ cause ∧ cause ≤ 4 ∨ cause = 9) then s.sinkFault p cause else s)

/-- VBRD_UV_OV (R285): the under-voltage (`uv`) or over-voltage condition of Currant `n` begins or ends. -/
def execVbrdUvOv (n : Nat) (uv start : Bool) (s : State) : Host.Outcome State Fault Refusal :=
  let f := if uv then F.PWR_CSTAT_VBRD_UV else F.PWR_CSTAT_VBRD_OV
  .next <|
    if s.currantFitted n && s.domOn (Dom.ports n) && s.on f n != start then
      let s := ((s.put f n start).irq (5 + n)).logPower 8 (le 4 n ++ le 4 (bit01 uv) ++ le 4 (bit01 start))
      if start then s.raise ((1 + n) * 4096 + (if uv then 0x30 else 0x31) * 64 + 63) (s.fld F.ADC_BRD_VBRD n) 0 else s
    else s

/-- FSW_STEP (R277): 10 kHz toward FSW. -/
def execFswStep (n : Nat) (s : State) : Host.Outcome State Fault Refusal :=
  .next <|
    if s.currantFitted n && s.domOn (Dom.ports n) then
      let want := clamp 25 80 (s.fld F.PWR_BCFG_FSW n)
      let now := s.fld F.PWR_CSTAT_FSWNOW n
      if now < want then s.setFld F.PWR_CSTAT_FSWNOW n (now + 1)
      else if want < now then s.setFld F.PWR_CSTAT_FSWNOW n (now - 1)
      else s
    else s

end Sys2Proof.Machine
end

