-- ==== Sys2Proof/Machine/Ent.lean ====
section
/-! DEFINITION. Feed entry and hot-swap commands (R298 to R306, R315). -/

namespace Sys2Proof.Machine

/-- The states of the hot-swap controller (R302). -/
inductive Hs where
  | off | seatWait | ramp | qual | on | clamp | retryWait | latched | uvWait
deriving DecidableEq, Repr

/-- The code of a hot-swap state (R302). -/
def Hs.code : Hs → Nat
  | .off => 0 | .seatWait => 1 | .ramp => 2 | .qual => 3 | .on => 4 | .clamp => 5 | .retryWait => 6 | .latched => 7
  | .uvWait => 8

/-- The hot-swap controller is in state `d`. -/
def State.hsIs (s : State) (d : Hs) : Bool := decide (s.fld F.ENT_HSTAT_STATE 0 = d.code)

/-- The hot-swap controller is in one of the states listed. -/
def State.hsIn (s : State) (l : List Hs) : Bool := l.any s.hsIs

/-- The states that drive the gate. -/
def hsDriving : List Hs := [.ramp, .qual, .on, .clamp]

/-- The lowest recorded port is released, and BRDOFF clears with the last (R306). -/
def State.brdoffRelease (s : State) : State :=
  match maskPorts (s.fld F.GOV_BRDOFF_PORTS 0) with
  | [] => s.put F.GOV_STAT_BRDOFF 0 false
  | p :: r =>
    let s := (s.putBit F.GOV_BRDOFF_PORTS 0 (p - 1) false).voffClear p
    if r.isEmpty then s.put F.GOV_STAT_BRDOFF 0 false else s

/-- VOFF is set on the listed fitted ports whose VOFF is 0, and they are recorded (R306). -/
def State.brdoffTake (s : State) (l : List Nat) : State :=
  s.each l (fun s p =>
    if s.live p && !s.on F.PWR_PCTL_VOFF p then (s.voffSet p).putBit F.GOV_BRDOFF_PORTS 0 (p - 1) true else s)

/-- The controller enters a state: GATEON, LIMIT, CLAMP and PG_BRD follow, and the fault timer starts anew with a ramp
(R283, R303); a gate that regulates the current or clamps is not fully on (log entry 143); a rise of PG_BRD releases the first recorded
port (R302, R306). -/
def State.setHs (s : State) (d : Hs) : State :=
  if s.hsIs d then s
  else
    let pg := d == .on || d == .clamp
    let was := s.on F.ENT_HSTAT_PG_BRD 0
    let s := if d == .ramp then { s with ent := { s.ent with timer := 0, calm := 0 } } else s
    let s := (s.setFld F.ENT_HSTAT_STATE 0 d.code).put F.ENT_HSTAT_GATEON 0
      ((d == .qual || d == .on) && !s.on F.ENT_HSTAT_LIMIT 0)
    let s := (s.put F.ENT_HSTAT_CLAMP 0 (d == .clamp)).put F.ENT_HSTAT_PG_BRD 0 pg
    let s := (if d == .qual || d == .on || d == .clamp || d == .ramp then s else s.put F.ENT_HSTAT_LIMIT 0 false).irq 9
    if pg == was then s
    else
      let s := ((s.irq 12).logPower 6 (le 4 (bit01 pg))).localPower
      if pg then { s with ent := { s.ent with pgRose := true } }.brdoffRelease else s

/-- The controller leaves OFF, once both seating pins are low, and SEATWAIT, once seating has qualified, where R302 lets it. -/
def State.hsSeek (s : State) : State :=
  let s := if s.hsIs .off && s.on F.ENT_HSTAT_SEAT_A 0 && s.on F.ENT_HSTAT_SEAT_B 0 && !s.on F.ENT_HCTL_HSOFF 0
    then s.setHs .seatWait else s
  if s.hsIs .seatWait && s.ent.seated && decide (3800 ≤ s.fld F.ENT_BV_VIN_OR 0) then s.setHs .ramp else s

/-- The field of feed `k` (0 for A, 1 for B) given the field of feed A and that of feed B. -/
def feedField (k : Nat) (a b : Field) : Field := if k = 0 then a else b

/-- Feed `k` stops conducting or goes on: a removal from the conducting set is a feed swap (R299). -/
def State.feedConduct (s : State) (k : Nat) (b : Bool) : State :=
  let f := feedField k F.ENT_FSTAT_A_COND F.ENT_FSTAT_B_COND
  let lost := s.on f 0 && !b
  let changed := s.on f 0 != b
  let s := s.put f 0 b
  let s := if changed then s.irq 9 else s
  if lost then
    ((s.incr F.GOV_CNT1_SWAPS 0).logPower 2 (le 4 (s.fld F.ENT_FV_FEED_A 0) ++ le 4 (s.fld F.ENT_FV_FEED_B 0))).notice 6 2
  else s

/-- FEED_REVERSE_OFF (R298). -/
def execFeedReverseOff (k : Nat) (s : State) : Host.Outcome State Fault Refusal :=
  .next <|
    if s.entOn && decide (k < 2) then
      let s := (s.put (feedField k F.ENT_FSTAT_A_REV F.ENT_FSTAT_B_REV) 0 true).incr F.ENT_CNT1_REVOFFS 0
      (s.feedConduct k false).irq 9
    else s

/-- FEED_PRESENCE_CHANGE (R298, R299): the voltage of feed `k` and VIN_OR in 10 mV, and whether its controller regulates
forward or is fully on, present or not; after a reverse turn-off it does so again from 20 mV above VIN_OR. -/
def execFeedPresenceChange (k volt vinOr : Nat) (conducting : Bool) (s : State) : Host.Outcome State Fault Refusal :=
  .next <|
    if s.entOn && decide (k < 2) then
      let f := feedField k F.ENT_FSTAT_A_PRES F.ENT_FSTAT_B_PRES
      let was := s.on f 0
      let pres := if 3800 ≤ volt then true else if volt < 3600 then false else was
      let s := (s.setFld (feedField k F.ENT_FV_FEED_A F.ENT_FV_FEED_B) 0 volt).setVin vinOr
      let s := s.put f 0 pres
      let s := if was == pres then s else s.irq 9
      let held := s.on (feedField k F.ENT_HCTL_FOFF_A F.ENT_HCTL_FOFF_B) 0
      let back := !s.on (feedField k F.ENT_FSTAT_A_REV F.ENT_FSTAT_B_REV) 0 || decide (vinOr + 2 ≤ volt)
      let go := conducting && !held && back
      let s := if go then s.put (feedField k F.ENT_FSTAT_A_REV F.ENT_FSTAT_B_REV) 0 false else s
      (s.feedConduct k go).hsSeek
    else s

/-- SEAT_QUALIFIED (R300, R302): both seating pins have been low for 50 ms; VIN_OR in 10 mV. -/
def execSeatQualified (vinOr : Nat) (s : State) : Host.Outcome State Fault Refusal :=
  .next <|
    if s.entOn then
      let s := (s.put F.ENT_HSTAT_SEAT_A 0 true).put F.ENT_HSTAT_SEAT_B 0 true
      let s := s.setVin vinOr
      { s with ent := { s.ent with bothLow := true, seated := true } }.hsSeek
    else s

/-- SEAT_LOSS (R300): the pins that stay low are named.  The board loses its seat where both pins were low, qualified or not;
another pin that goes high after it changes its SEAT bit alone. -/
def execSeatLoss (aLow bLow : Bool) (s : State) : Host.Outcome State Fault Refusal :=
  .next <|
    if s.entOn && !(aLow && bLow) then
      let s := (s.put F.ENT_HSTAT_SEAT_A 0 aLow).put F.ENT_HSTAT_SEAT_B 0 bLow
      if s.ent.bothLow then
        let s := { s with ent := { s.ent with bothLow := false, seated := false } }
        ((s.setHs .off).incr F.ENT_CNT1_SEATLOSS 0).logPower 7 []
      else s
    else s

/-- HS_GATE_ON (R302). -/
def execHsGateOn (s : State) : Host.Outcome State Fault Refusal := .next (if s.hsIs .ramp then s.setHs .qual else s)

/-- HS_QUAL_DONE (R302). -/
def execHsQualDone (s : State) : Host.Outcome State Fault Refusal :=
  .next (if s.hsIs .qual && !s.on F.ENT_HSTAT_LIMIT 0 then s.setHs .on else s)

/-- HSILIM as applied, in A (R315). -/
def State.hsIlim (s : State) : Nat := max 5 (s.fld F.ENT_HSCFG_HSILIM 0)

/-- The level in mA at which the hot-swap regulates its current: HSIRAMP in RAMP, else HSILIM (R303, R315). -/
def State.hsLevel (s : State) : Nat :=
  if s.hsIs .ramp then 1000 * max 1 (s.fld F.ENT_HSCFG_HSIRAMP 0) else 1000 * s.hsIlim

/-- HSTFLT as applied, in control periods (R315). -/
def State.hsTflt (s : State) : Nat := 25 * clamp 1 500 (s.fld F.ENT_HSTIM_HSTFLT 0)

/-- HS_LIMIT_ENGAGE (R303): the hot-swap would carry `i` mA.  LIMIT is 1 where that exceeds the level of the state, else 0. -/
def execHsLimitEngage (i : Nat) (s : State) : Host.Outcome State Fault Refusal :=
  .next <|
    if s.hsIn hsDriving then
      let engaged := decide (s.hsLevel < i)
      let s := (s.put F.ENT_HSTAT_LIMIT 0 engaged).put F.ENT_HSTAT_GATEON 0 (!engaged && s.hsIn [.qual, .on])
      if engaged && s.hsIs .on then s.setHs .qual else s
    else s

/-- TTRIP of the hot-swap MOSFET as applied, in 0.1 °C (R315, as R286). -/
def State.hsTtrip (s : State) : Int := 10 * (clamp 80 150 (s.fld F.ENT_HSTH_TTRIP 0) : Nat)

/-- The hot-swap temperature estimate in 0.1 °C. -/
def State.hsTemp (s : State) : Int := toInt 16 (s.fld F.ENT_HSM_TEST 0)

/-- A hot-swap fault (R304). -/
def State.hsFault (s : State) (cause : Nat) : State :=
  let s := (s.setFld F.ENT_HSTAT_CAUSE 0 cause).incr F.ENT_CNT0_HSFAULTS 0
  let s := s.raise (4096 + 0x20 * 64 + cause) (s.fld F.ENT_BV_VIN_OR 0) (s.fld F.ENT_HSM_IHS 0)
  let left := s.fld F.ENT_HSTAT_RETRYLEFT 0
  if left = 0 then (s.setHs .latched).incr F.ENT_CNT2_LATCHES 0
  else (s.setFld F.ENT_HSTAT_RETRYLEFT 0 (left - 1)).setHs .retryWait

/-- What cause `cause` of a hot-swap fault needs (R303): a limit outside CLAMP, a current of `i` mA above the smaller of twice HSILIM
and 300 A, TSRC = 1, or CLAMP. -/
def State.hsFaultOk (s : State) (cause i : Nat) : Bool :=
  match cause with
  | 1 => s.on F.ENT_HSTAT_LIMIT 0 && !s.hsIs .clamp
  | 2 => decide (1000 * min (2 * s.hsIlim) 300 < i)
  | 3 => true
  | 4 => s.on F.ENT_HSTH_TSRC 0
  | 5 => s.hsIs .clamp
  | _ => false

/-- What the fault's cause has reached by then: the timer HSTFLT, the estimate TTRIP (R303). -/
def State.hsReached (s : State) (cause : Nat) : State :=
  if cause = 1 ∨ cause = 5 then { s with ent := { s.ent with timer := max s.ent.timer s.hsTflt } }
  else if cause = 3 ∧ s.hsTemp < s.hsTtrip then
    let t := s.hsTtrip
    let s := s.setFld F.ENT_HSM_TEST 0 (ofInt 16 t)
    { s with ent := { s.ent with tj := max s.ent.tj ((t : Rat) / 10) } }
  else s

/-- HS_FAULT (R303, R304): 1 limit timer, 2 fast trip at `i` mA, 3 thermal, 4 NTC short, 5 surge clamp timer. -/
def execHsFault (cause : Nat) (s : State) (i : Nat := 0) : Host.Outcome State Fault Refusal :=
  .next (if s.hsFaultOk cause i && s.hsIn hsDriving then (s.hsReached cause).hsFault cause else s)

/-- HS_RETRY (R302). -/
def execHsRetry (s : State) : Host.Outcome State Fault Refusal :=
  .next <|
    if s.hsIs .retryWait && decide (s.hsTemp < s.hsTtrip - 200) then (s.incr F.ENT_CNT0_RETRIES 0).setHs .ramp else s

/-- HS_UNDERVOLTAGE (R302): VIN_OR in 10 mV. -/
def execHsUndervoltage (vinOr : Nat) (s : State) : Host.Outcome State Fault Refusal :=
  .next <|
    if s.entOn && decide (vinOr < 3600) then
      let s := s.setVin vinOr
      if s.hsIn hsDriving then s.setHs .uvWait else s
    else s

/-- HS_UV_RECOVER (R302): VIN_OR in 10 mV. -/
def execHsUvRecover (vinOr : Nat) (s : State) : Host.Outcome State Fault Refusal :=
  .next <|
    if s.entOn && decide (3800 ≤ vinOr) then
      let s := s.setVin vinOr
      if s.hsIs .uvWait then s.setHs .ramp else s.hsSeek
    else s

/-- SURGE (R305): VIN_OR in 10 mV; in ON the controller clamps, and the gate holds HS_OUT at VCLAMP. -/
def execSurge (vinOr : Nat) (s : State) : Host.Outcome State Fault Refusal :=
  .next <|
    if s.entOn && decide (s.vsurge < vinOr) then
      let s := ({ s with ent := { s.ent with surging := true } }.setVin vinOr).irq 9
      if s.hsIs .on then (s.setHs .clamp).setFld F.ENT_BV_HS_OUT 0 s.vclamp else s
    else s

/-- SURGE_END (R302, R305): the surge lasted so many µs, and VIN_OR in 10 mV has stayed below VCLAMP; with the limit engaged, ON
falls to QUAL. -/
def execSurgeEnd (vinOr : Nat) (s : State) (micros : Nat := 0) : Host.Outcome State Fault Refusal :=
  .next <|
    if s.entOn && s.ent.surging && decide (vinOr < s.vclamp) then
      let s := s.setVin vinOr
      let s := ({ s with ent := { s.ent with surging := false } }.logPower 3 (le 4 s.ent.surgePeak ++ le 4 micros)).incr F.GOV_CNT0_SURGES 0
      let s := { s with ent := { s.ent with surgePeak := 0 } }
      if s.hsIs .clamp then (if s.on F.ENT_HSTAT_LIMIT 0 then (s.setHs .on).setHs .qual else s.setHs .on) else s
    else s

/-- A clear of the hot-swap latch (R304): the new state, or none when refused. -/
def State.hsClear (s : State) : Option State :=
  if s.hsIs .latched then
    if s.hsTtrip - 200 ≤ s.hsTemp then none
    else some (((s.setFld F.ENT_HSTAT_RETRYLEFT 0 (s.fld F.ENT_HSRETRY_RETRY 0)).setHs .off).hsSeek)
  else some s

/-- ENT_HCTL.CLRLATCH is written (R304). -/
def State.hsClrLatch (s : State) : State :=
  match s.hsClear with
  | some t => t
  | none => s.incr F.ENT_CNT2_LREFUSE 0

/-- HS_CLRLATCH (R304). -/
def execHsClrlatch (s : State) : Host.Outcome State Fault Refusal := .next s.hsClrLatch

/-- HS_RETRY_RELOAD (R304). -/
def execHsRetryReload (s : State) : Host.Outcome State Fault Refusal :=
  .next (if s.hsIs .on then s.setFld F.ENT_HSTAT_RETRYLEFT 0 (s.fld F.ENT_HSRETRY_RETRY 0) else s)

/-- FOFF_A, FOFF_B and HSOFF take values (R298, R302). -/
def State.hctl (s : State) (foffA foffB hsoff : Bool) : State :=
  let s := ((s.put F.ENT_HCTL_FOFF_A 0 foffA).put F.ENT_HCTL_FOFF_B 0 foffB).put F.ENT_HCTL_HSOFF 0 hsoff
  let s := if foffA then s.feedConduct 0 false else s
  let s := if foffB then s.feedConduct 1 false else s
  if hsoff then s.setHs .off else s.hsSeek

/-- ENT_HCTL_WRITE (R298). -/
def execEntHctlWrite (foffA foffB hsoff : Bool) (s : State) : Host.Outcome State Fault Refusal :=
  .next (if s.entOn then s.hctl foffA foffB hsoff else s)

/-- PG_BRD_FALL (R306). -/
def execPgBrdFall (s : State) : Host.Outcome State Fault Refusal :=
  .next <|
    if !s.on F.ENT_HSTAT_PG_BRD 0 && s.ent.pgRose then
      let s := { s with ent := { s.ent with pgRose := false } }
      let s := (s.put F.GOV_STAT_BRDOFF 0 true).incr F.GOV_CNT2_PGLOSS 0
      s.brdoffTake allPorts
    else s

/-- BRDOFF_PORT_RELEASE (R306). -/
def execBrdoffPortRelease (s : State) : Host.Outcome State Fault Refusal :=
  .next (if s.on F.ENT_HSTAT_PG_BRD 0 && s.on F.GOV_STAT_BRDOFF 0 then s.brdoffRelease else s)

end Sys2Proof.Machine
end

