-- ==== Sys2Proof/Machine/FaultOps.lean ====
section
/-! DEFINITION. The fault sources: which IDs are defined, their settings, when they are evaluated and when their cause is
live, and what the FC registers show (R400 to R412, R424). -/

namespace Sys2Proof.Machine

/-- The ID of a Quince fault source (R400, R401). -/
def quinceSource (blk i : Nat) : Nat := blk * 64 + i

/-- Die code of a fault ID (R400). -/
def fcDie (id : Nat) : Nat := id / 4096

/-- Block code of a fault ID. -/
def fcBlk (id : Nat) : Nat := id / 64 % 64

/-- Index of a fault ID. -/
def fcIdx (id : Nat) : Nat := id % 64

/-- The block codes of the port sources of a Currant (R402). -/
def portKinds : List Nat := [1, 2, 3, 4, 5, 6, 7, 8, 9, 0xB, 0x10, 0x11, 0x12, 0x13]

/-- A fault ID appears in the tables of R401 to R403. -/
def fcDefined (id : Nat) : Bool :=
  let b := fcBlk id
  let i := fcIdx id
  if 65536 ≤ id then false
  else match fcDie id with
  | 0 => match b with
    | 0x01 | 0x10 => i == 0
    | 0x03 => decide (i ≤ 10)
    | 0x04 => i == 0 || decide (16 ≤ i ∧ i < 24)
    | 0x18 => decide (i ≤ 5) || i == 8
    | 0x20 => decide (1 ≤ i ∧ i ≤ 7)
    | 0x24 | 0x34 => decide (i ≤ 1)
    | 0x38 => decide (i < 24 ∧ i % 8 ≤ 4)
    | _ => false
  | 1 | 2 | 3 | 4 =>
    if portKinds.contains b then decide (i < 8)
    else if b = 0x20 then decide (fcDie id = 1 ∧ 1 ≤ i ∧ i ≤ 5)
    else (b == 0x30 || b == 0x31) && i == 63
  | 6 | 7 => b == 0 && i == 0
  | _ => false

/-- The factory N, window in ms and reaction of a source (R401 to R403). -/
def fcFactory (id : Nat) : Nat × Nat × Nat :=
  let b := fcBlk id
  let i := fcIdx id
  match fcDie id with
  | 0 => match b with
    | 0x04 => if 16 ≤ i then (255, 1000, 0) else (1, 1000, 0)
    | 0x10 => (16, 1000, 0)
    | 0x18 => if i = 8 then (1, 1000, 0) else (4, 10000, 0)
    | 0x34 => if i = 0 then (1, 1000, 6) else (16, 1000, 0)
    | 0x38 => if i = 16 then (4, 1000, 0) else if i % 8 = 0 then (1, 1000, 6)
      else if 16 ≤ i then (4, 1000, 5) else (1, 1000, 5)
    | _ => (1, 1000, 0)
  | 1 | 2 | 3 | 4 => match b with
    | 0x03 | 0x12 => (4, 60000, 0)
    | 0x10 | 0x11 => (3, 10000, 1)
    | 0x09 | 0x13 | 0x20 | 0x30 | 0x31 => (1, 1000, 0)
    | _ => (8, 60000, 0)
  | _ => (16, 1000, 0)

/-- The settings of a source are fixed (R401, R406). -/
def fcLocked (id : Nat) : Bool := id == quinceSource 0x38 0 || id == quinceSource 0x38 8

/-- N of a source (R405, R406, R424). -/
def State.fcN (s : State) (id : Nat) : Nat :=
  if fcLocked id || !(s.fcAt id).written then 1 else (s.fcAt id).n

/-- The window of a source in ms. -/
def State.fcWindow (s : State) (id : Nat) : Nat :=
  if fcLocked id || !(s.fcAt id).written then 1000 else (s.fcAt id).window

/-- The reaction of a source. -/
def State.fcReact (s : State) (id : Nat) : Nat :=
  if fcLocked id then 6 else if (s.fcAt id).written then (s.fcAt id).react else 0

/-- The port that a Currant source names (R402). -/
def fcPort (id : Nat) : Nat := 8 * (fcDie id - 1) + fcIdx id + 1

/-- The domain of a source is on and its die fitted (R404, R407). -/
def State.fcLive (s : State) (id : Nat) : Bool :=
  let b := fcBlk id
  let i := fcIdx id
  match fcDie id with
  | 0 => match b with
    | 0x10 => s.domOn Dom.fabric
    | 0x18 => i == 8 || s.domOn Dom.chord
    | 0x20 => s.dieOn i
    | 0x34 => i == 0 || s.domOn Dom.trace
    | 0x38 => decide (i % 8 = 0) || s.domOn Dom.service
    | _ => true
  | 1 | 2 | 3 | 4 =>
    let n := fcDie id - 1
    s.currantFitted n && (b == 0x20 || s.domOn (Dom.ports n))
  | d => s.dieOn d

/-- The domain of a die that a D2D link reaches. -/
def dieDom (d : Nat) : Nat := if 1 ≤ d ∧ d ≤ 4 then Dom.ports (d - 1) else if d = 5 then Dom.uplink else Dom.trace

/-- The domain of a source, BOOT for one that is always on. -/
def fcDom (id : Nat) : Nat :=
  let i := fcIdx id
  match fcDie id with
  | 0 => match fcBlk id with
    | 0x10 => Dom.fabric
    | 0x18 => if i = 8 then 1 else Dom.chord
    | 0x20 => dieDom i
    | 0x34 => if i = 0 then 1 else Dom.trace
    | 0x38 => if i % 8 = 0 then 1 else Dom.service
    | _ => 1
  | 1 => if fcBlk id = 0x20 then 1 else Dom.ports 0
  | d => dieDom d

/-- The domain of a source has been on for 10 µs (R404). -/
def State.fcSettled (s : State) (id : Nat) : Bool :=
  !s.power.onSince.any (fun e => decide (e.1 = fcDom id ∧ s.ct < e.2 + 9600))

/-- A source is evaluated (R21, R404). -/
def State.fcEvaluated (s : State) (id : Nat) : Bool := fcDefined id && s.fcLive id && s.fcSettled id

/-- The cause of a source stands (R401, R402); a wire fault reads as a standing cause (R404). -/
def State.fcCause (s : State) (id : Nat) : Bool :=
  let b := fcBlk id
  let i := fcIdx id
  (s.fcAt id).wire || (s.fcLive id && match fcDie id with
    | 0 => match b with
      | 0x03 => decide (i ≠ 0) && s.bit F.MPU_FREEZE_FROZEN 0 i
      | 0x18 => if i = 8 then s.on F.CHORD_STAT_HOLDOVER 0 && decide (s.sync = 1)
        else decide (s.fld F.CHORD_LSTAT_STATE i = 0) && s.on F.CHORD_LCTL_EN i
      | 0x20 => decide (s.fld F.D2D_LSTAT_STATE i = 4)
      | 0x24 => if i = 0 then s.on F.CAL_STAT_DEFAULTS 0 else !s.on F.CAL_STAT_NVMOK 0
      | 0x38 => decide (8 ≤ i ∧ i < 16) && (s.cores.at (i - 8)).stage == .halted
      | _ => false
    | 1 | 2 | 3 | 4 =>
      let p := fcPort id
      let held (c : Nat) := s.pwrIn p [.retryWait, .latched] && decide (s.fld F.PWR_PSTAT_CAUSE p = c)
      match b with
      | 0x03 => held 3 || decide (10 * (clamp 80 150 (s.fld F.PWR_THCFG_TTRIP p) - 20 : Int) ≤ s.fetTemp p)
      | 0x08 => s.pwrIn p [.discharge, .retryWait, .latched] && !s.vsafe0 p
      | 0x09 => (s.pwr.at p).ntcBad
      | 0x10 => s.on F.DSW_PSTAT_OVHOLD p
      | 0x11 => s.ccIs p .ccOvHold
      | 0x12 => s.on F.TCPD_VCSTAT_VCFAULT p
      | 0x13 => false
      | 0x20 => s.hsIn [.retryWait, .latched] && decide (s.fld F.ENT_HSTAT_CAUSE 0 = i)
      | 0x30 => s.on F.PWR_CSTAT_VBRD_UV (fcDie id - 1)
      | 0x31 => s.on F.PWR_CSTAT_VBRD_OV (fcDie id - 1)
      | c => held c
    | _ => false)

/-- What a status field shows that follows other state: the FC views of the selected source (R424), the log queue
(R425), the interrupt lines of the level sources (R384), the epoch tracking and the armed alarm (R86, R90). -/
def State.derived (s : State) (f : Field) (i : Nat) : Option Nat :=
  let id := s.fld F.FC_SEL_ID 0
  let r := s.fcAt id
  if f.id = F.FC_SEL_DEFINED.id then some (bit01 (fcDefined id))
  else if f.id = F.FC_SCFG_LOCKED.id then some (bit01 (fcLocked id))
  else if f.id = F.FC_SCFG_INJCOUNT.id then some (bit01 (match r.next with | some x => x.2.2.2 | none => r.injCount))
  else if f.id = F.FC_SCFG_REACT.id then some (match r.next with | some x => x.2.2.1 | none => s.fcReact id)
  else if f.id = F.FC_SCFG_WINDOW.id then some (match r.next with | some x => x.2.1 | none => s.fcWindow id)
  else if f.id = F.FC_SCFG_N.id then some (match r.next with | some x => x.1 | none => s.fcN id)
  else if f.id = F.FC_SSTAT_COUNT.id then some r.count
  else if f.id = F.FC_SSTAT_DOMOFF.id then some (bit01 (fcDefined id && !s.fcLive id))
  else if f.id = F.FC_SSTAT_WIRE.id then some (bit01 r.wire)
  else if f.id = F.FC_SSTAT_CAUSE.id then some (bit01 (fcDefined id && s.fcCause id))
  else if f.id = F.FC_SSTAT_STATE.id then some (match r.st with | .ok => 0 | .minor => 1 | .fault => 2)
  else if f.id = F.FC_SCNT_INJECTED.id then some (r.injected % 65536)
  else if f.id = F.FC_SCNT_EVENTS.id then some (r.events % 65536)
  else if f.id = F.LOG_STAT_QUEUE.id then some (min 64 s.log.queue.length)
  else if f.id = F.RTC_STATUS_EPOCH_TRACK.id then some (bit01 (decide (s.sync = 2)))
  else if f.id = F.RTC_STATUS_ALARM_ARMED.id then some (s.fld F.RTC_ALARM_HI_ARM 0)
  else if f.id = F.IC_LINE_LINE.id then
    some (if i = 0 then 2 ^ 10 * s.fld F.GOV_STAT_SAG 0 + 2 ^ 11 * s.fld F.GOV_STAT_SHEDDING 0
      else if i = 5 then 2 ^ 16 * (s.power.gpio % 256) else 0)
  else none

end Sys2Proof.Machine
end

