-- ==== Sys2Proof/Machine/Reg.lean ====
section
/-! DEFINITION. Register addresses: which block, view and register an address names, what a read returns, and which
access is permitted (R92 to R100, R103, R111 to R114). -/

namespace Sys2Proof.Machine

/-- A block of the map: its die code (R400), its domain and the base of its 16 KiB. -/
structure Home where
  blk : Block
  die : Nat
  dom : Nat
  base : Nat
deriving DecidableEq, Repr

/-- The Quince blocks of R93: base, block, domain. -/
def quinceBlocks : List (Nat × Block × Nat) := [
  (0x40000000, .sys, 1), (0x40004000, .pmu, 1), (0x40008000, .rtc, 0), (0x4000C000, .mpu, 1), (0x40010000, .fc, 1),
  (0x40014000, .log, 1), (0x40018000, .mbx, 1), (0x40020000, .part, 2), (0x40030000, .dpe, 2), (0x40040000, .tt, 2),
  (0x40050000, .mf, 2), (0x40060000, .chord, 1), (0x40064000, .tat, 1), (0x40070000, .trc, 5), (0x40080000, .d2d, 1),
  (0x40090000, .cal, 1), (0x400A0000, .qspi, 1), (0x400B0000, .tgt, 1), (0x400B4000, .tgt, 1), (0x400C0000, .gov, 1)]

/-- The blocks of a Currant (R94) at their offset / 64 KiB: block and whether Currant 0 holds it in BOOT. -/
def currantBlock (n o : Nat) : Option (Block × Nat) :=
  match o with
  | 0 => some (.tcpd, Dom.ports n)
  | 1 => some (.pwr, Dom.ports n)
  | 2 => if n = 0 then some (.ent, 1) else none
  | 3 => some (.dsw, Dom.ports n)
  | 4 => some (.adc, Dom.ports n)
  | 5 => some (.die, if n = 0 then 1 else Dom.ports n)
  | _ => none

/-- The block that an address decodes to (R92 to R94). -/
def homeAt (a : Nat) : Option Home :=
  if 0x40000000 ≤ a ∧ a < 0x400C4000 then
    let b := a / 0x4000 * 0x4000
    (quinceBlocks.find? (fun e => e.1 == b)).map (fun e => ⟨e.2.1, 0, e.2.2, b⟩)
  else if 0x48000000 ≤ a ∧ a < 0x48010000 then some ⟨.ic, 0, 1, 0x48000000⟩
  else if 0x50000000 ≤ a ∧ a < 0x54000000 then
    let n := (a - 0x50000000) / 0x1000000
    let o := a % 0x1000000
    if o % 0x10000 < 0x4000 then (currantBlock n (o / 0x10000)).map (fun e => ⟨e.1, 1 + n, e.2, a / 0x4000 * 0x4000⟩) else none
  else if 0x58000000 ≤ a ∧ a < 0x58004000 then some ⟨.tcpd, 5, Dom.uplink, 0x58000000⟩
  else if 0x58050000 ≤ a ∧ a < 0x58054000 then some ⟨.die, 5, Dom.uplink, 0x58050000⟩
  else if 0x5C000000 ≤ a ∧ a < 0x5C020000 ∧ a % 0x10000 < 0x4000 then
    some ⟨.bbc, 6 + (a - 0x5C000000) / 0x10000, Dom.trace, a / 0x4000 * 0x4000⟩
  else none

/-- The view of R95 that an address is in: 0 normal, 1 SET, 2 CLR, 3 TGL. -/
def viewOf (h : Home) (a : Nat) : Nat := if h.blk = .ic then 0 else (a - h.base) / 0x1000 % 4

/-- The address in the normal view. -/
def normalAddr (h : Home) (a : Nat) : Nat := a - 0x1000 * viewOf h a

/-- The copy of a register that a place puts at an address. -/
def placeCopy (p : Place) (a : Nat) : Option Nat :=
  if a < p.base then none
  else
    let d := a - p.base
    let i := if p.s1 = 0 then 0 else d / p.s1
    let e := if p.s1 = 0 then d else d % p.s1
    let j := if p.s2 = 0 then 0 else e / p.s2
    let z := if p.s2 = 0 then e else e % p.s2
    if i < p.n1 ∧ j < p.n2 ∧ z = 0 then some (p.first + i * p.n2 + j) else none

/-- The copy of a register at an address. -/
def regCopy (r : RegDef) (a : Nat) : Option Nat := r.places.findSome? (fun p => placeCopy p a)

/-- The register and copy at a word address of a block; the window of U0 lies in the DIE block of Currant 0 (R237). -/
def regAt (h : Home) (a : Nat) : Option (RegDef × Nat) :=
  let l := RegMap.ofBlock h.blk ++ (if h.blk = .die then RegMap.tcpdRegs else [])
  l.findSome? (fun r => (regCopy r a).map (fun i => (r, i)))

/-- The register that a field number belongs to. -/
def regDefOf (fid : Nat) : Option RegDef := RegMap.all.find? (fun r => r.reg == fid / 32)

/-- The field of a field number. -/
def fieldOf (fid : Nat) : Option Field := (regDefOf fid).bind (fun r => r.fields.find? (fun f => f.id == fid))

/-- The address of copy `i` at a place. -/
def placeAddr (p : Place) (i : Nat) : Option Nat :=
  if p.first ≤ i ∧ i < p.first + p.n1 * p.n2 then
    some (p.base + (i - p.first) / p.n2 * p.s1 + (i - p.first) % p.n2 * p.s2)
  else none

/-- The address of copy `i` of a register. -/
def regAddr (r : RegDef) (i : Nat) : Option Nat := r.places.findSome? (fun p => placeAddr p i)

/-- The block of R93 and R94 that holds copy `i` of a field. -/
def slotHome (fid i : Nat) : Option Home := ((regDefOf fid).bind (fun r => regAddr r i)).bind homeAt

/-- The domain that holds copy `i` of a field. -/
def slotDom (fid i : Nat) : Nat := ((slotHome fid i).map (·.dom)).getD 1

/-- BLOCK_STAGE.HOLD of a block (R103, R105); the interrupt controller has none (R97). -/
def stageOf : Block → Option Field
  | .pmu => some F.PMU_STAGE_HOLD
  | .rtc => some F.RTC_STAGE_HOLD
  | .mpu => some F.MPU_STAGE_HOLD
  | .d2d => some F.D2D_STAGE_HOLD
  | .die => some F.DIE_STAGE_HOLD
  | .part => some F.PART_STAGE_HOLD
  | .dpe => some F.DPE_STAGE_HOLD
  | .dsw => some F.DSW_STAGE_HOLD
  | .tt => some F.TT_STAGE_HOLD
  | .mf => some F.MF_STAGE_HOLD
  | .tcpd => some F.TCPD_STAGE_HOLD
  | .pwr => some F.PWR_STAGE_HOLD
  | .adc => some F.ADC_STAGE_HOLD
  | .ent => some F.ENT_STAGE_HOLD
  | .gov => some F.GOV_STAGE_HOLD
  | .chord => some F.CHORD_STAGE_HOLD
  | .tat => some F.TAT_STAGE_HOLD
  | .trc => some F.TRC_STAGE_HOLD
  | .bbc => some F.BBC_STAGE_HOLD
  | .sys => some F.SYS_STAGE_HOLD
  | .qspi => some F.QSPI_STAGE_HOLD
  | .fc => some F.FC_STAGE_HOLD
  | .log => some F.LOG_STAGE_HOLD
  | .cal => some F.CAL_STAGE_HOLD
  | .mbx => some F.MBX_STAGE_HOLD
  | .tgt => some F.TGT_STAGE_HOLD
  | .ic => none

/-- BLOCK_COLLIDE.COUNT of a block (R108). -/
def collideOf : Block → Option Field
  | .pmu => some F.PMU_COLLIDE_COUNT
  | .rtc => some F.RTC_COLLIDE_COUNT
  | .mpu => some F.MPU_COLLIDE_COUNT
  | .d2d => some F.D2D_COLLIDE_COUNT
  | .die => some F.DIE_COLLIDE_COUNT
  | .part => some F.PART_COLLIDE_COUNT
  | .dpe => some F.DPE_COLLIDE_COUNT
  | .dsw => some F.DSW_COLLIDE_COUNT
  | .tt => some F.TT_COLLIDE_COUNT
  | .mf => some F.MF_COLLIDE_COUNT
  | .tcpd => some F.TCPD_COLLIDE_COUNT
  | .pwr => some F.PWR_COLLIDE_COUNT
  | .adc => some F.ADC_COLLIDE_COUNT
  | .ent => some F.ENT_COLLIDE_COUNT
  | .gov => some F.GOV_COLLIDE_COUNT
  | .chord => some F.CHORD_COLLIDE_COUNT
  | .tat => some F.TAT_COLLIDE_COUNT
  | .trc => some F.TRC_COLLIDE_COUNT
  | .bbc => some F.BBC_COLLIDE_COUNT
  | .sys => some F.SYS_COLLIDE_COUNT
  | .qspi => some F.QSPI_COLLIDE_COUNT
  | .fc => some F.FC_COLLIDE_COUNT
  | .log => some F.LOG_COLLIDE_COUNT
  | .cal => some F.CAL_COLLIDE_COUNT
  | .mbx => some F.MBX_COLLIDE_COUNT
  | .tgt => some F.TGT_COLLIDE_COUNT
  | .ic => none

/-- The field is some block's HOLD. -/
def isHold (fid : Nat) : Bool :=
  match regDefOf fid with
  | some r => (stageOf r.blk).any (fun f => f.id == fid)
  | none => false

/-- A write of a field that waits, if one does. -/
def State.pendingWrite (s : State) (f : Field) (i : Nat) : Option Nat :=
  (s.staged.find? (fun x => x.field.id == f.id && x.index == i)).map (·.value)

/-- The staged value of a field: the last value written, or the applied value (R103). -/
def State.stagedFld (s : State) (f : Field) (i : Nat) : Nat := (s.pendingWrite f i).getD (s.fld f i)

/-- A field of the per-port windows of DPE and TT. -/
def portWindow (f : Field) : Bool :=
  decide (F.DPE_STATE_STATE.id / 32 ≤ f.id / 32 ∧ f.id / 32 ≤ F.DPE_CNT4_QREFUSE.id / 32)
    || decide (F.TT_ALLOC_PMAX.id / 32 ≤ f.id / 32 ∧ f.id / 32 ≤ F.TT_PCNT2_ERRS.id / 32)

/-- A field of the registers of a partition. -/
def partWindow (f : Field) : Bool :=
  decide (F.PART_PCTL_PULLUP.id / 32 ≤ f.id / 32 ∧ f.id / 32 ≤ F.PART_FRAME_FRAME.id / 32)
    || decide (f.id / 32 = F.PART_HOSTPWR_PWR.id / 32)

/-- A field of a port that is not fitted (R170, R190), or of a partition or management function instance without an
upstream port (R145, R214): it reads its reset value and ignores writes. -/
def State.absentSlot (s : State) (f : Field) (i : Nat) : Bool :=
  (portWindow f && !s.fitted i) || (partWindow f && !s.hasUpstream i)
    || (decide (F.MF_CTL_CONNECT.id / 32 ≤ f.id / 32 ∧ f.id / 32 ≤ F.MF_CNT3_NYETS.id / 32) && !s.hasUpstream i)
    || (decide (f.id / 32 = F.MF_EPD_START.id / 32) && !s.hasUpstream (i / 5))

/-- What a read shows of a field (R98, R103); the link registers read as link down while CHORD is off (R93). -/
def State.shown (s : State) (f : Field) (i : Nat) : Nat :=
  if s.absentSlot f i then resetAt f i
  else match s.derived f i with
  | some v => v
  | none => match f.access with
  | .wo => 0
  | .ro => s.fld f i
  | .rw => if f.cls = .hwChange then s.fld f i else s.stagedFld f i

/-- The word that a register reads as. -/
def State.regWord (s : State) (r : RegDef) (i : Nat) : Nat := (r.fields.map (fun f => 2 ^ f.lo * s.shown f i)).sum

/-- The copy of a register that master `m` reaches: MBX_LREQ, MBX_LRSP and MBX_LCTL are banked by core (R435, R466). -/
def bankOf (m : Nat) (r : RegDef) (i : Nat) : Nat :=
  if r.reg * 32 = F.MBX_LREQ_OFFSET.id / 32 * 32 ∨ r.reg * 32 = F.MBX_LRSP_OFFSET.id / 32 * 32
    ∨ r.reg * 32 = F.MBX_LCTL_BUSY.id / 32 * 32 then (if m ≤ 4 then m else 0) else i

/-- Cores 1 to 4 see of MBX the banked registers alone (R435). -/
def shutTo (m : Nat) (h : Home) (a : Nat) : Bool :=
  h.blk == .mbx && decide (1 ≤ m ∧ m ≤ 4) && !decide (0x800 ≤ normalAddr h a - h.base ∧ normalAddr h a - h.base < 0x900)

/-- The word that a register address reads as to master `m`; offsets that no register occupies read 0 (R95). -/
def State.readReg (s : State) (m a : Nat) : Nat :=
  match homeAt a with
  | some h => if shutTo m h a then 0 else match regAt h (normalAddr h a) with
    | some (r, i) => s.regWord r (bankOf m r i)
    | none => 0
  | none => 0

/-- The word of the register that holds a field, of copy `i`. -/
def State.wordOf (s : State) (f : Field) (i : Nat) : Nat :=
  match RegMap.all.find? (fun r => r.reg == f.id / 32) with
  | some r => s.regWord r i
  | none => 0

/-- The die of a block is absent. -/
def State.dieAbsent (s : State) (d : Nat) : Bool :=
  if d = 0 then false else if d ≤ 4 then !s.currantFitted (d - 1) else if d = 5 then !s.sloe else !s.bilberry (d - 6)

/-- An access to this block is an absent-block access (R111): its die is absent, or its domain is off or changing. -/
def State.homeGone (s : State) (h : Home) : Bool :=
  s.dieAbsent h.die || (decide (2 ≤ h.dom) && (!s.domOn h.dom || s.domChanging h.dom))

/-- A block lies on a die whose D2D link is not UP (R120, R440). -/
def State.linkLost (s : State) (h : Home) : Bool :=
  decide (1 ≤ h.die ∧ h.die ≤ 7) && decide (s.fld F.D2D_LSTAT_STATE h.die ≠ 3)

/-! ### Access checks (R113, R114) -/

/-- An access decodes (R92): the regions and what each permits. -/
def decodes (m a : Nat) (k : Acc) : Bool :=
  let core := decide (m ≤ 4)
  if a < 0x10000 then k != .store
  else if 0x08000000 ≤ a ∧ a < 0x08080000 then k == .load
  else if 0x10000000 ≤ a ∧ a < 0x10080000 then core && (decide (m = 0) || decide (a < 0x10040000))
  else if 0x20000000 ≤ a ∧ a < 0x20200000 then true
  else if 0x30000000 ≤ a ∧ a < 0x34000000 then k != .store
  else if 0x80000000 ≤ a ∧ a < 0x90000000 then k == .load
  else (homeAt a).isSome && k != .fetch

/-- An enabled window of master `m` covers `n` bytes from `a` and grants the access (R113). -/
def State.granted (s : State) (m a n : Nat) (k : Acc) : Bool :=
  (List.range 16).any (fun w =>
    let i := 16 * m + w
    s.on F.MPU_WATTR_EN i && decide (4096 * s.fld F.MPU_WBASE_BASE i ≤ a)
      && decide (a + n ≤ 4096 * s.fld F.MPU_WLIMIT_LIMIT i + 4096)
      && (match k with
        | .load => s.on F.MPU_WATTR_R i
        | .store => s.on F.MPU_WATTR_W i
        | .fetch => decide (m ≤ 4) && s.on F.MPU_WATTR_X i))

/-- Why an access is a violation (R114), as MPU_VIOL_INFO.REASON plus one; 0 when it passes. -/
def State.violates (s : State) (m a n : Nat) (k : Acc) : Nat :=
  if !(n == 1 || n == 2 || n == 4) || decide (a % n ≠ 0) then 2
  else if !decodes m a k then 3
  else if !s.granted m a n k then 1
  else if 0x4000C000 ≤ a ∧ a < 0x40010000 ∧ m ≠ 0 then 4
  else 0

end Sys2Proof.Machine
end

