-- ==== Sys2Proof/Machine/CoreOps.lean ====
section
/-! DEFINITION. What the cores, the interrupt controller, the policy images and the protection windows share (R115, R116,
R373 to R391). -/

namespace Sys2Proof.Machine

/-- Change the record of core `c`. -/
def State.updCore (s : State) (c : Nat) (f : CoreHw → CoreHw) : State := { s with cores := s.cores.upd c f }

/-! ### Interrupt controller (R385 to R391) -/

/-- The stack fields of the interrupt controller, entry 1 first. -/
def stackSlots : List Field :=
  [F.IC_STACK0_SLOT0, F.IC_STACK0_SLOT1, F.IC_STACK0_SLOT2, F.IC_STACK0_SLOT3, F.IC_STACK0_SLOT4, F.IC_STACK0_SLOT5,
    F.IC_STACK0_SLOT6, F.IC_STACK0_SLOT7, F.IC_STACK1_SLOT0, F.IC_STACK1_SLOT1, F.IC_STACK1_SLOT2, F.IC_STACK1_SLOT3,
    F.IC_STACK1_SLOT4, F.IC_STACK1_SLOT5, F.IC_STACK1_SLOT6]

/-- DEPTH and the stack registers show the level stack of core `c`; the slots above DEPTH read 0 (log entry 24). -/
def State.levelShow (s : State) (c : Nat) : State :=
  let l := (s.cores.at c).levels.reverse
  let s := s.setFld F.IC_LVL_DEPTH c l.length
  s.each (List.range 15) (fun s i => s.setFld (stackSlots.getD i F.IC_STACK0_SLOT0) c (l.getD i 0))

/-- Source `n` is pending. -/
def State.irqPending (s : State) (n : Nat) : Bool := s.bit F.IC_PEND_PEND (n / 32) (n % 32)

/-- Source `n` is eligible for core `c` (R386, R391). -/
def State.eligible (s : State) (c n : Nat) : Bool :=
  decide (0 < n ∧ n < 256) && s.irqPending n && s.bit F.IC_EN_EN (n / 32) (n % 32)
    && decide (s.fld F.IC_SRC_TARGET n = c) && decide (s.fld F.IC_THRESH_THRESH c < s.fld F.IC_SRC_PRIO n)
    && decide (s.fld F.IC_LVL_CURLVL c < s.fld F.IC_SRC_PRIO n)
    && (decide (s.fld F.IC_SRC_MOD n = 0) || s.hw.ready.contains n || s.on F.IC_LVL_WFI c)

/-- The highest priority among the sources eligible for core `c`, 0 for none (R387). -/
def State.entryLevel (s : State) (c : Nat) : Nat :=
  (((List.range 256).filter (s.eligible c)).map (s.fld F.IC_SRC_PRIO)).foldl max 0

/-- Moderation delays count only while the bit stands: the sources that no longer pend start afresh (R391). -/
def State.readyRefresh (s : State) : State := { s with hw := { s.hw with ready := s.hw.ready.filter s.irqPending } }

/-- Core `c` executes: out of reset, not frozen, not halted (R115, R374, R382). -/
def State.coreRuns (s : State) (c : Nat) : Bool :=
  decide (c ≤ 4) && s.on F.IC_CORECTL_RUNNING c && !s.bit F.MPU_FREEZE_FROZEN 0 c
    && decide ((s.cores.at c).stage ≠ .halted) && s.power.boot != .off && s.power.boot != .halted

/-! ### Stopping cores (R115, R244, R374, R383) -/

/-- The ports whose policy core `c` runs; core 0 runs the upstream ports, numbers 33 to 36 (R15, R268). -/
def policyPorts (c : Nat) : List Nat := if c = 0 then [33, 34, 35, 36] else portsOf (c - 1)

/-- The hold responders of the ports of core `c` take over (R244). -/
def State.policyStops (s : State) (c : Nat) : State := s.each (policyPorts c) State.holdStart

/-- Core `c` halts with its trap stack full, and its trap-overflow source raises an event (R374). -/
def State.trapOverflow (s : State) (c : Nat) : State :=
  ((s.updCore c (fun r => { r with stage := .halted })).policyStops c).raise (quinceSource 0x38 (8 + c)) 0 0

/-- Core `c` takes a trap at `pc` (R374): an external interrupt leaves MIE as it stood, an exception clears it. -/
def State.trap (s : State) (c pc cause : Nat) (external mie : Bool) : State :=
  if 16 ≤ (s.cores.at c).traps.length then s.trapOverflow c
  else s.updCore c (fun r => { r with
    traps := (r.mepc, r.mcause, r.mpie) :: r.traps
    mepc := pc, mcause := cause, mpie := mie, mie := external && mie })

/-- The start descriptor of service core `c` (R375, R380). -/
def descriptor (c : Nat) : Nat := 0x20040000 + (c - 1) * 0x40

/-- A master is frozen (R115): its bit sets, a DMA channel shows it, and a core's policy engines stop. -/
def State.freeze (s : State) (m : Nat) : State :=
  if 1 ≤ m ∧ m ≤ 10 then
    let s := s.putBit F.MPU_FREEZE_FROZEN 0 m true
    let s := if 5 ≤ m ∧ m ≤ 8 then s.put F.SYS_DMASTAT_FROZEN (m - 5) true else s
    if m ≤ 4 then s.policyStops m else s
  else s

/-- An absent-block access to die `d` is counted on its source (R111). -/
def State.absentAccess (s : State) (d : Nat) : State := (s.irq 19).raise (quinceSource 0x04 (16 + d)) 0 0

/-- Master `m` is no longer frozen, and its access is gone. -/
def State.unfreeze (s : State) (m : Nat) : State :=
  { s.putBit F.MPU_FREEZE_FROZEN 0 m false with frozen := Tbl.put s.frozen m default }

/-- The frozen access of DMA channel `d` has completed (R116, R397): a dropped store ends its word, a load has returned 0,
which the channel goes on to store. -/
def State.dmaThawed (s : State) (d : Nat) (store : Bool) : State :=
  let s := (s.put F.SYS_DMASTAT_FROZEN d false).incr F.SYS_DMACNT1_ABSENTS d
  if store then
    let s := s.setFld F.SYS_DMASTAT_REMAIN d (s.fld F.SYS_DMASTAT_REMAIN d - 1)
    { s with hw := { s.hw with dma := Tbl.upd s.hw.dma d (fun r => ⟨r.src + 4, r.dst + 4, false⟩) } }
  else { s with hw := { s.hw with dma := Tbl.upd s.hw.dma d (fun r => { r with zero := true }) } }

/-- A source whose reaction froze master `m` remains in the fault state: the thaw is refused (R406, R407). -/
def State.freezeHeld (s : State) (m : Nat) : Bool :=
  s.fc.sources.any (fun e => e.2.st == .fault && decide (e.2.react = 4)
    && (decide (e.1 = 0x03 * 64 + m) || (decide (1 ≤ m ∧ m ≤ 4) && decide (e.1 / 64 = 0x38 ∧ e.1 % 8 = m))))

/-- A master is thawed (R116): the frozen access completes as an absent-block access, counted on the source of the die it
decodes to, Quince's where it decodes to none. -/
def State.thaw (s : State) (m : Nat) : State :=
  if 1 ≤ m ∧ m ≤ 10 ∧ s.bit F.MPU_FREEZE_FROZEN 0 m = true ∧ s.freezeHeld m = false then
    let a := Tbl.at s.frozen m
    let s := (s.unfreeze m).absentAccess (((homeAt a.addr).map (·.die)).getD 0)
    if 5 ≤ m ∧ m ≤ 8 ∧ s.on F.SYS_DMASTAT_FROZEN (m - 5) = true then s.dmaThawed (m - 5) a.store else s
  else s

/-- A SERVICE_CORE reset of core `c` (R383); `why` is the place of its cause in the list of R383. -/
def State.serviceReset (s : State) (c why : Nat) : State :=
  if 1 ≤ c ∧ c ≤ 4 then
    let s := ((s.put F.IC_CORECTL_RESET c true).put F.IC_CORECTL_RUNNING c false).put F.IC_LVL_WFI c false
    let s := s.updCore c (fun r => { r with
      mie := false, mpie := false, mepc := 0, mcause := 0, traps := [], levels := [], stage := .off })
    let s := ((s.setFld F.IC_LVL_CURLVL c 0).setFld F.IC_THRESH_THRESH c 0).setFld F.IC_TIMER_COUNT c 0
    let s := (s.levelShow c).unfreeze c
    let s := (s.writeWord (descriptor c) 0).writeWord (descriptor c + 16) 0
    let s := if s.on F.MBX_LCTL_BUSY c then
        { s with mbx := s.mbx.upd (6 + c) (fun r => { r with orphan := true }) }
      else s
    (s.policyStops c).logSystem 5 (le 4 c ++ le 4 (Config.caseCode 383 why))
  else s

/-! ### Protection (R111, R114 to R117) -/

/-- A violation is recorded (R115, R117, R119): master, address, access kind, width in bytes and reason. -/
def State.recordViolation (s : State) (m a n : Nat) (k : Acc) (reason : Nat) : State :=
  let s := s.setFld F.MPU_VIOL_ADDR_ADDR 0 a
  let s := (s.setFld F.MPU_VIOL_INFO_MASTER 0 m).setFld F.MPU_VIOL_INFO_REASON 0 reason
  let s := (s.put F.MPU_VIOL_INFO_ACCESS 0 (k == .store)).put F.MPU_VIOL_INFO_VALID 0 true
  let s := s.setFld F.MPU_VIOL_INFO_WIDTH 0 (if n ≤ 1 then 0 else if n = 2 then 1 else if n = 4 then 2 else 3)
  let s := (s.incr F.MPU_VIOL_COUNT_COUNT 0).irq 18
  s.raise (quinceSource 0x03 m) (s.fld F.MPU_VIOL_ADDR_ADDR 0) (s.wordOf F.MPU_VIOL_INFO_MASTER 0)

/-! ### Policy images (R377 to R382) -/

/-- The flash offset of the image that a selection names: 0 the vendor policy, 1 + t owner slot t (R377). -/
def imageOffset (sel : Nat) : Nat := if sel = 0 then Config.vendorImage else 0x01000000 + (sel - 1) * 0x80000

/-- The address of a flash offset in the window (R377). -/
def flashAddr (o : Nat) : Nat := 0x30000000 + o

/-- Bytes as machine bytes. -/
def toBytes (l : List Nat) : List Byte := l.map (BitVec.ofNat 8)

/-- Owner key `i` is present (R427). -/
def State.keyPresent (s : State) (i : Nat) : Bool :=
  decide (i < 4) && (s.readBytes (0x08001000 + i * 0x40) 64).any (fun b => decide (b ≠ 0xFF))

/-- The version floor of owner slot `t` (R427). -/
def State.versionFloor (s : State) (t : Nat) : Nat := s.word (0x08001100 + 4 * t)

/-- The check of R379 of the image that selection `sel` names; core 0 stands for no particular core. -/
def State.checkImage (s : State) (sel c : Nat) : Nat :=
  let a := flashAddr (imageOffset sel)
  let slot := s.byte (a + 6)
  let key := s.byte (a + 7)
  let size := s.word (a + 12)
  let entry := s.word (a + 16)
  if s.word a ≠ 0x4C504541 ∨ ofLe (s.readBytes (a + 4) 2) ≠ 1 then 1
  else if slot ≠ (if sel = 0 then 0xFF else sel - 1) ∨ (c ≠ 0 ∧ (s.byte (a + 20)).testBit (c - 1) = false) then 2
  else if key ≠ 0xFF ∧ s.keyPresent key = false then 3
  else if size % 4 ≠ 0 ∨ size < 4 ∨ 262144 < size ∨ entry % 2 ≠ 0 ∨ size ≤ entry then 4
  else if Config.signatureOk key (toBytes (s.readBytes a 128)) = false then 5
  else if sel ≠ 0 ∧ s.word (a + 8) < s.versionFloor (sel - 1) then 6
  else if Config.sha256 (toBytes (s.readBytes (a + 256) size)) % 2 ^ 256 ≠ ofLe (s.readBytes (a + 32) 32) then 7
  else 0

/-- The QSPI host shows the digest of a hashed range (R399). -/
def State.showHash (s : State) (o n : Nat) : State :=
  let d := Config.sha256 (toBytes (s.readBytes (flashAddr o) n))
  let s := s.each (List.range 8) (fun s j => s.setFld F.QSPI_HASH_DIGEST j (d / 2 ^ (32 * j)))
  (s.setFld F.QSPI_HCTL_HRESULT 0 1).irq 27

/-- DMA channel 0 reads an image into staging, its header and then its body from the start of staging, and the host
hashes the body (R381; log entry 25). -/
def State.stageImage (s : State) (sel : Nat) : State :=
  let o := imageOffset sel
  let size := s.word (flashAddr o + 12)
  let s := s.writeBytes 0x20000000 (s.readBytes (flashAddr o) 256)
  let s := s.writeBytes 0x20000000 (s.readBytes (flashAddr (o + 256)) size)
  let s := (s.setFld F.SYS_DMASRC_ADDR 0 (flashAddr (o + 256) / 4)).setFld F.SYS_DMADST_ADDR 0 (0x20000000 / 4)
  let s := ((s.setFld F.SYS_DMALEN_WORDS 0 (size / 4)).add F.SYS_DMACNT0_DONE 0 2).irq 172
  ((s.setFld F.QSPI_HSTART_VALUE 0 (o + 256)).setFld F.QSPI_HLEN_VALUE 0 size).showHash (o + 256) size

/-- Core 0 writes the start descriptor of core `c`, GO last (R380), and the core runs its ROM loader (R381). -/
def State.startLoader (s : State) (c sel : Nat) : State :=
  let a := flashAddr (imageOffset sel)
  let d := descriptor c
  let s := ((s.writeWord (d + 4) 0x20000000).writeWord (d + 8) (s.word (a + 12))).writeWord (d + 12) (s.word (a + 16))
  let s := (s.writeWord d 0x53544152).writeWord (d + 16) 1
  ((s.put F.IC_CORECTL_RESET c false).put F.IC_CORECTL_RUNNING c true).updCore c (fun r => { r with
    stage := .loading, image := sel })

/-- One image is loaded and checked for core `c` (R379, R381): whether it passed. -/
def State.tryImage (s : State) (c sel : Nat) : Bool × State :=
  let r := s.checkImage sel c
  let code := if sel = 0 ∧ r ≠ 0 then 8 else r
  let s := if r = 0 ∨ 4 < r then s.stageImage sel else s
  let s := s.logSystem 2 (le 4 c ++ le 4 code)
  if r = 0 then (true, s.startLoader c sel)
  else
    let s := ((s.put F.IC_CORECTL_RESET c true).put F.IC_CORECTL_RUNNING c false).updCore c (fun x => { x with stage := .off })
    (false, (s.writeWord (descriptor c) 0).writeWord (descriptor c + 16) 0)

/-- The load of the selected image of core `c` (R381): a failure starts the vendor policy in its place, and a vendor image
that fails leaves the core in reset (R379). -/
def State.loadImage (s : State) (c sel : Nat) : State :=
  let s := (s.writeWord (descriptor c) 0).writeWord (descriptor c + 16) 0
  let code := s.checkImage sel c
  let x := s.tryImage c sel
  if sel = 0 then x.2.updCore c (fun r => { r with checked := if code = 0 then 0 else 8 })
  else if x.1 then x.2.updCore c (fun r => { r with checked := 0 })
  else
    let y := x.2.tryImage c 0
    y.2.updCore c (fun r => { r with checked := if y.1 then code else 8 })

end Sys2Proof.Machine
end

