-- ==== Sys2Proof/Machine/LogOps.lean ====
section
/-! DEFINITION. The event log: the bytes of a record, writing it to the ring, and records that firmware submits (R413 to
R417). -/

namespace Sys2Proof.Machine

/-- The address of record SEQ `n` in the ring (R413). -/
def logAddr (n : Nat) : Nat := 0x20047000 + n % 8192 * 32

/-- The 32 bytes of a record (R414). -/
def LogRec.bytes (r : LogRec) (seq : Nat) (loss : Bool) : List Nat :=
  le 8 r.ct ++ le 4 seq ++ le 2 r.id ++ [r.kind % 256, r.sync % 4 + r.flags + 64 * bit01 loss]
    ++ (r.data ++ List.replicate 16 0).take 16

/-- The LOG hardware writes the oldest queued record (R413, R416). -/
def State.logWrite (s : State) : State :=
  match s.log.queue with
  | [] => s
  | r :: rest =>
    if s.on F.LOG_CFG_EN 0 then
      let n := s.fld F.LOG_WR_SEQ 0
      let s := (s.writeBytes (logAddr n) (r.bytes n s.log.loss)).setFld F.LOG_WR_SEQ 0 (n + 1)
      let s := { s with log := ⟨rest, s.log.ahead - 1, false⟩ }
      if (n + 1) % 2048 = 0 then s.irq 23 else s
    else s

/-- A record that firmware submits (R413, R417): with EN = 0 it goes ahead of the hardware records, and a full queue drops
its newest hardware record. -/
def State.logSubmit (s : State) (id kind flags : Nat) (data : List Nat) : State :=
  let r : LogRec := ⟨s.ct, s.sync, id, kind, flags, data⟩
  let s := s.incr F.LOG_CNT_SUBMITS 0
  if s.on F.LOG_CFG_EN 0 then s.logAt s.ct id kind flags data
  else
    let q := s.log.queue.take s.log.ahead ++ r :: s.log.queue.drop s.log.ahead
    if q.length ≤ 64 then { s with log := ⟨q, s.log.ahead + 1, s.log.loss⟩ }
    else ({ s with log := ⟨q.take 64, min 64 (s.log.ahead + 1), true⟩ }).incr F.LOG_CNT_DROPS 0

/-- A write of LOG_SUBCTL.GO (R417, R425): SUB0 holds bytes 12 to 15 of the record, SUB1 to SUB4 its data. -/
def State.logSubGo (s : State) : State :=
  let w := s.fld F.LOG_SUB_WORD 0
  let flags := w / 2 ^ 24 % 256
  s.logSubmit (w % 65536) (w / 65536 % 256) (flags / 4 % 16 * 4 + flags / 128 * 128)
    ([1, 2, 3, 4].flatMap (fun j => le 4 (s.fld F.LOG_SUB_WORD j)))

/-- The greatest SEQ of a consistent record whose successor slot does not hold SEQ + 1 (R417), none in an empty ring. -/
def State.lastSeq (s : State) : Option Nat :=
  let good := (List.range 8192).filterMap (fun j =>
    let n := s.word (0x20047000 + j * 32 + 8)
    if n % 8192 = j ∧ n ≠ 0xFFFFFFFF ∧ s.byte (0x20047000 + j * 32 + 14) ≠ 0
        ∧ s.word (0x20047000 + (j + 1) % 8192 * 32 + 8) ≠ (n + 1) % 2 ^ 32 then some n else none)
  good.foldl (fun m n => some (max n (m.getD 0))) none

end Sys2Proof.Machine
end

