-- ==== Sys2Proof/Machine/Dpe.lean ====
section
/-! DEFINITION. The line events of a port engine, its switch, self-test and glitches (R148 to R171). -/

namespace Sys2Proof.Machine

/-- DEVICE_CONNECT (R148, R149): D+ (full speed) or D− (low speed) above the threshold for TDCNN with the switch
closed. -/
def execDeviceConnect (p : Nat) (low : Bool) (s : State) : Host.Outcome State Fault Refusal :=
  .next <|
    if s.dpeIs p .disconnected && s.switchClosed p && !(s.dpe.at p).settling then
      let s := (s.setFld F.DPE_STATE_SPEED p (if low then 1 else 2)).put F.DPE_STATE_DEV p true
      ((s.change p cConnection).incr F.DPE_CNT0_CONNECTS p).setDpe p .disabled
    else s

/-- The port drives its line, or a glitch pulse ended less than 3 µs ago, so that SE0 is no disconnect (R149, R166). -/
def State.se0Ignored (s : State) (p : Nat) : Bool :=
  s.dpeIn p [.resetting, .resuming, .sendEor] || (s.dpeIs p .transmit && (s.dpe.at p).driving)
    || decide (s.ct < (s.dpe.at p).quietTo)

/-- DEVICE_DISCONNECT (R148, R149, R153): not seen while the port drives a reset, a resume or an EOP, nor around a glitch
pulse; a migration goes on (R141).  In Test_Force_Enable the envelope is reported and Test goes on (R154; log entry 130). -/
def execDeviceDisconnect (p : Nat) (s : State) : Host.Outcome State Fault Refusal :=
  .next <|
    if s.se0Ignored p then s
    else if s.dpeIn p [.disabled, .enabled, .transmit, .suspended, .restartS, .restartE, .l1] then
      let s := ((s.change p cConnection).incr F.DPE_CNT0_DISCONNECTS p).ttClear p
      (s.noDevice p).setDpe p .disconnected
    else if s.dpeIs p .migrating then
      let s := (s.noDevice p).updMig p (fun r => { r with keepalive := false })
      if 4 ≤ (s.migs.at p).step then
        ((s.change p cConnection).incr F.DPE_CNT0_DISCONNECTS p).setDpe p .disconnected
      else s
    else if s.dpeIs p .test && decide ((s.dpe.at p).testMode = 5) then
      ((s.change p cConnection).put F.DPE_STATE_DEV p false).refresh p
    else s

/-- RESET_DRIVE_END (R148, R150): `completed` says that the device completed the chirp handshake. -/
def execResetDriveEnd (p : Nat) (completed : Bool) (s : State) : Host.Outcome State Fault Refusal :=
  .next <|
    if s.dpeIs p .resetting then
      let r := s.dpe.at p
      let hs := s.on F.PART_PSTAT_SPEED (s.partOf p) && r.chirped && completed && decide (r.corrupt ≠ 2)
        && decide (s.fld F.DPE_STATE_SPEED p ≠ 1)
      let s := if s.fld F.DPE_STATE_SPEED p = 1 then s else s.setFld F.DPE_STATE_SPEED p (if hs then 3 else 2)
      let s := s.updDpe p (fun r => { r with corrupt := 0, chirped := false })
      let s := ((s.change p cReset).incr F.DPE_CNT1_RESETS p).setDpe p .enabled
      let s := s.resetDone (s.partOf p) p
      if (s.migs.at p).active && decide ((s.migs.at p).step = 5) then s.migDone p else s
    else s

/-- CHIRP_DEVICE_K (R149, R150, R167): a device K of 1.0 to 7.0 ms is accepted at a high-speed partition; a chirp that a
glitch corrupts counts. -/
def execChirpDeviceK (p microseconds : Nat) (s : State) : Host.Outcome State Fault Refusal :=
  .next <|
    if s.dpeIs p .resetting && s.on F.PART_PSTAT_SPEED (s.partOf p) && decide (s.fld F.DPE_STATE_SPEED p ≠ 1)
        && decide (1000 ≤ microseconds ∧ microseconds ≤ 7000) then
      let s := if (s.dpe.at p).corrupt ≠ 0 && !(s.dpe.at p).chirped then s.incr F.DPE_CNT3_GLITCHES p else s
      s.updDpe p (fun r => { r with chirped := true })
    else s

/-- BABBLE_OR_LOA (R148). -/
def execBabbleOrLoa (p : Nat) (s : State) : Host.Outcome State Fault Refusal :=
  .next <|
    if s.dpeIn p [.enabled, .transmit] then
      ((s.change p cEnable).incr F.DPE_CNT1_DISABLES p).setDpe p .disabled
    else s

/-- A device's ACK to an LPM token puts the port in L1 when LPM_EN is 1 (R148, R152). -/
def State.lpmAck (s : State) (p besl addr : Nat) (rwe : Bool) : State :=
  if s.dpeIs p .enabled && s.on F.DPE_CTL_LPM_EN p then
    (((s.setFld F.DPE_LPM_BESL p besl).setFld F.DPE_LPM_ADDR p addr).put F.DPE_LPM_RWE p rwe).setDpe p .l1
  else s

/-- LPM_ACK (R152). -/
def execLpmAck (p besl addr : Nat) (rwe : Bool) (s : State) : Host.Outcome State Fault Refusal :=
  .next (s.lpmAck p besl addr rwe)

/-- A request that waits for the next F boundary. -/
def State.requestWaits (s : State) (p : Nat) (r : HubReq) : Bool := (s.parts.at (s.partOf p)).requests.contains r

/-- A device K while its partition is suspended: the port enters `d`, and the part signals resume upstream unless the
host's resume came first (R148, R153). -/
def State.wakeUp (s : State) (p : Nat) (host : Bool) (d : Dpe) : State :=
  let s := s.updDpe p (fun r => { r with driving := false })
  if host then (s.incr F.DPE_CNT2_ABSORBED p).setDpe p d
  else
    let s := { s with parts := s.parts.upd (s.partOf p) (fun r => { r with wakeUp := true }) }
    (s.incr F.DPE_CNT2_REMWAKES p).setDpe p d

/-- DEVICE_REMOTE_WAKE (R148, R153): `hostToo` says that a host resume K arrived in the same F interval; so does a
HOST_RESUME since the last F boundary.  A request that waits for the boundary absorbs the wake. -/
def execDeviceRemoteWake (p : Nat) (hostToo : Bool) (s : State) : Host.Outcome State Fault Refusal :=
  let k := s.partOf p
  let woken := s.on F.PART_PSTAT_SUSPENDED k && (s.parts.at k).remoteWake
  let host := hostToo || (s.parts.at k).freshK
  .next <|
    if s.dpeIs p .suspended then
      if s.requestWaits p (.resume p) then s.incr F.DPE_CNT2_ABSORBED p
      else if s.on F.PART_PSTAT_SUSPENDED k then (if woken then s.wakeUp p host .restartS else s)
      else ((s.incr F.DPE_CNT2_REMWAKES p).updDpe p (fun r => { r with fromL1 := false })).setDpe p .resuming
    else if woken && (s.dpeIs p .enabled || (s.dpeIs p .transmit && (s.dpe.at p).driving && host)) then
      s.wakeUp p host .restartE
    else if s.dpeIs p .l1 && s.on F.DPE_LPM_RWE p then
      if s.requestWaits p (.exitL1 p) then s.incr F.DPE_CNT2_ABSORBED p
      else
        ((s.incr (if s.on F.PART_PSTAT_SUSPENDED k && host then F.DPE_CNT2_ABSORBED else F.DPE_CNT2_REMWAKES) p).updDpe p
          (fun r => { r with fromL1 := true })).setDpe p .resuming
    else if s.dpeIs p .migrating then s.logOther 0 0x0C [p]
    else s

/-- RESUME_DRIVE_END (R148): the resume K ends and the port sends an EOR. -/
def execResumeDriveEnd (p : Nat) (s : State) : Host.Outcome State Fault Refusal :=
  .next (if s.dpeIs p .resuming then s.setDpe p .sendEor else s)

/-- EOR_SENT (R148). -/
def execEorSent (p : Nat) (s : State) : Host.Outcome State Fault Refusal :=
  .next <|
    if s.dpeIs p .sendEor then
      ((s.change p (if (s.dpe.at p).fromL1 then cL1 else cSuspend)).updDpe p
        (fun r => { r with fromL1 := false })).setDpe p .enabled
    else s

/-- PACKET_TRANSMIT (R148, R151): a packet starts on an enabled port whose partition is not suspended, or its EOP ends
it; the host's resume K ends by HOST_RESUME_END alone. -/
def execPacketTransmit (p : Nat) (eop : Bool) (s : State) : Host.Outcome State Fault Refusal :=
  .next <|
    if eop then (if s.dpeIs p .transmit && !(s.dpe.at p).driving then s.setDpe p .enabled else s)
    else if s.dpeIs p .enabled && !s.on F.PART_PSTAT_SUSPENDED (s.partOf p) then s.setDpe p .transmit else s

/-- SWITCH_SETTLE_END (R149). -/
def execSwitchSettleEnd (p : Nat) (s : State) : Host.Outcome State Fault Refusal :=
  .next (s.updDpe p (fun r => { r with settling := false }))

/-! ### Self-test (R164) -/

/-- A self-test may start on port `p`: Quarantined, VBUS below 0.8 V (10 mV units of ADC_PV), none running. -/
def State.selfTestAllowed (s : State) (p : Nat) : Bool :=
  s.dpeIs p .quarantined && s.portsOn p && decide (s.fld F.ADC_PV_VBUS p < 80) && !s.on F.DSW_PSTAT_STBUSY p

/-- The self-test reaches a step; the switch follows (R155). -/
def State.selfTestStep (s : State) (p n : Nat) : State := (s.updDpe p (fun r => { r with stStep := n })).refresh p

/-- The first step of the self-test from step `n` on whose test is selected: 2 loopback, 3 isolation, 5 fuse injection,
6 the end. -/
def State.selfTestNext (s : State) (p n : Nat) : Nat :=
  let on (j : Nat) : Bool := (s.dpe.at p).stTests.testBit j
  if n ≤ 2 ∧ on 0 = true then 2 else if n ≤ 3 ∧ on 1 = true then 3 else if n ≤ 5 ∧ on 2 = true then 5 else 6

/-- Start the self-test: STBUSY sets, every result reads 0, and the first selected test runs. -/
def State.selfTestStart (s : State) (p : Nat) : State :=
  let s := (s.put F.DSW_PSTAT_STBUSY p true).updDpe p (fun r => { r with stTests := s.fld F.DSW_PCTL_TESTS p })
  let s := ((s.setFld F.DSW_STRES_LOOP p 0).setFld F.DSW_STRES_ISO p 0).setFld F.DSW_STRES_FUSE p 0
  let s := ((s.setFld F.DSW_STRES_LOOP_FAIL p 0).setFld F.DSW_STRES_RON p 0).setFld F.DSW_STMEAS_LEAK p 0
  let s := (s.setFld F.DSW_STMEAS_FTRIP_T p 0).setFld F.DSW_STMEAS_ILIM_ERR p 0
  s.selfTestStep p (s.selfTestNext p 2)

/-- DSW_STGO (R164): acts only when the test may start. -/
def execDswStgo (p : Nat) (s : State) : Host.Outcome State Fault Refusal :=
  .next (if s.selfTestAllowed p then s.selfTestStart p else s)

/-- Pass 1 or fail 2 (R171). -/
def passFail (b : Bool) : Nat := if b then 1 else 2

/-- Step 5 of R164: the self-test is over. -/
def State.selfTestOver (s : State) (p : Nat) : State :=
  let s := ((s.put F.DSW_PSTAT_STBUSY p false).incr F.DSW_PCNT_STRUNS p).selfTestStep p 0
  let res := s.fld F.DSW_STRES_LOOP p + 4 * s.fld F.DSW_STRES_ISO p + 16 * s.fld F.DSW_STRES_FUSE p
    + 64 * s.fld F.DSW_STRES_LOOP_FAIL p + 65536 * s.fld F.DSW_STRES_RON p
  let meas := s.fld F.DSW_STMEAS_ILIM_ERR p + 256 * s.fld F.DSW_STMEAS_FTRIP_T p + 65536 * s.fld F.DSW_STMEAS_LEAK p
  let s := s.logRec (blockId 0 0x0C) 0x20 ([p, 6, 0, 0] ++ le 4 res ++ le 4 meas)
  let failed := s.fld F.DSW_STRES_LOOP p = 2 ∨ s.fld F.DSW_STRES_ISO p = 2 ∨ s.fld F.DSW_STRES_FUSE p = 2
  (if failed then s.raisePort p 0x13 else s).irq (95 + p)

/-- The self-test is over when its step is past the last one. -/
def State.selfTestCheck (s : State) (p : Nat) : State :=
  if 6 ≤ (s.dpe.at p).stStep then s.selfTestOver p else s

/-- The step of the self-test under way ends with what was measured, and the next one starts (R164): each result is set
as its test ends. -/
def State.selfTestAdvance (s : State) (p : Nat) (m : SelfTest) : State :=
  match (s.dpe.at p).stStep with
  | 2 =>
    let s := (s.setFld F.DSW_STRES_LOOP_FAIL p m.loopFail).setFld F.DSW_STRES_LOOP p (passFail (m.loopFail % 8 == 0))
    s.selfTestStep p (s.selfTestNext p 3)
  | 3 =>
    let s := s.setFld F.DSW_STMEAS_LEAK p m.leak
    if m.pullUp then (s.setFld F.DSW_STRES_ISO p 3).selfTestStep p (s.selfTestNext p 5) else s.selfTestStep p 4
  | 4 =>
    let s := (s.setFld F.DSW_STRES_RON p m.ron).setFld F.DSW_STRES_ISO p
      (passFail (decide (s.fld F.DSW_STMEAS_LEAK p ≤ 100 ∧ m.ron ≤ 80)))
    s.selfTestStep p (s.selfTestNext p 5)
  | 5 =>
    let s := ((s.setFld F.DSW_STMEAS_ILIM_ERR p (ofInt 8 m.ilimErr)).setFld F.DSW_STMEAS_FTRIP_T p m.ftrip).setFld
      F.DSW_STRES_FUSE p (passFail (decide (-10 ≤ m.ilimErr ∧ m.ilimErr ≤ 10 ∧ m.ftrip * 4 ≤ 250)))
    s.selfTestStep p 6
  | _ => s

/-- SELFTEST_END (R164): the steps up to `m.upTo` end; with the last the self-test completes. -/
def execSelftestEnd (p : Nat) (m : SelfTest) (s : State) : Host.Outcome State Fault Refusal :=
  .next <|
    if s.on F.DSW_PSTAT_STBUSY p then
      let s := s.each [2, 3, 4, 5] (fun s _ => if (s.dpe.at p).stStep ≤ m.upTo then s.selfTestAdvance p m else s)
      s.selfTestCheck p
    else s

/-- An over-voltage trip ends the test under way and the rest with ABORTED (R164).  Step 5 follows at once, so that the run
counts, is logged and raises its interrupt (DESIGN CHOICE, log entry 153). -/
def State.selfTestAbort (s : State) (p : Nat) : State :=
  if s.on F.DSW_PSTAT_STBUSY p then
    let n := (s.dpe.at p).stStep
    let on (j : Nat) : Bool := (s.dpe.at p).stTests.testBit j
    let s := if n ≤ 2 ∧ on 0 = true then s.setFld F.DSW_STRES_LOOP p 3 else s
    let s := if n ≤ 4 ∧ on 1 = true then s.setFld F.DSW_STRES_ISO p 3 else s
    let s := if n ≤ 5 ∧ on 2 = true then s.setFld F.DSW_STRES_FUSE p 3 else s
    s.selfTestOver p
  else s

/-! ### Switch, cut-off, isolation and quarantine (R155 to R163) -/

/-- ISOLATION_CAUSE_CHANGE (R159): the engine follows the causes that stand. -/
def execIsolationCauseChange (p : Nat) (s : State) : Host.Outcome State Fault Refusal := .next (s.isoUpdate p)

/-- DATA_OV_TRIP (R156, R164): a self-test under way ends, its current test and the rest aborted. -/
def execDataOvTrip (p : Nat) (s : State) : Host.Outcome State Fault Refusal :=
  .next <|
    if s.live p then
      let s := ((s.put F.DSW_PSTAT_OVHOLD p true).put F.DSW_PSTAT_OVLIVE p true).incr F.DSW_PCNT_OVTRIPS p
      let s := s.updPwr p (fun r => { r with lineHigh := true })
      (((s.raisePort p 0x10).irq (95 + p)).selfTestAbort p).isoUpdate p
    else s

/-- DATA_OV_RELEASE (R156, R171): both lines have fallen below the threshold (`stage` 0), below 3.8 V (1), or have stayed
below 3.8 V for OV_REL (2 and above). -/
def execDataOvRelease (p stage : Nat) (s : State) : Host.Outcome State Fault Refusal :=
  .next <|
    if s.live p then
      let s := s.put F.DSW_PSTAT_OVLIVE p false
      let s := if 1 ≤ stage then s.updPwr p (fun r => { r with lineHigh := false }) else s
      if 2 ≤ stage ∧ s.on F.DSW_OVCFG_OV_AUTO (currant p) = true then (s.put F.DSW_PSTAT_OVHOLD p false).isoUpdate p else s
    else s

/-- A write of DSW_PCTL.REARM (R156). -/
def State.rearm (s : State) (p : Nat) : State :=
  if s.live p && !s.on F.DSW_OVCFG_OV_AUTO (currant p) && !(s.pwr.at p).lineHigh then
    (s.put F.DSW_PSTAT_OVHOLD p false).isoUpdate p
  else s

/-- DSW_REARM (R156). -/
def execDswRearm (p : Nat) (s : State) : Host.Outcome State Fault Refusal := .next (s.rearm p)

/-- The REQ isolation cause is set or cleared (R159, R160). -/
def State.isolate (s : State) (p : Nat) (b : Bool) : State :=
  if s.fitted p then (s.put F.DPE_CTL_ISOLATE p b).isoUpdate p else s

/-- DPE_ISOLATE_WRITE (R159). -/
def execDpeIsolateWrite (p : Nat) (b : Bool) (s : State) : Host.Outcome State Fault Refusal := .next (s.isolate p b)

/-- DPE_QUAR_SET (R161). -/
def execDpeQuarSet (p : Nat) (s : State) : Host.Outcome State Fault Refusal := .next (s.quarantine p false)

/-- A write of DPE_CTL.QUAR = 0 (R162): a refused one leaves QUAR at 1 and counts. -/
def State.quarClear (s : State) (p : Nat) : State :=
  if s.fitted p && s.on F.DPE_CTL_QUAR p then
    match s.quarRelease p with
    | some t => t
    | none => s.incr F.DPE_CNT4_QREFUSE p
  else s

/-- DPE_QUAR_RELEASE (R162). -/
def execDpeQuarRelease (p : Nat) (s : State) : Host.Outcome State Fault Refusal := .next (s.quarClear p)

/-! ### Glitch injection -/

/-- GLITCH_GO (R167): the parameters are the registers as they stand. -/
def execGlitchGo (p : Nat) (s : State) : Host.Outcome State Fault Refusal :=
  .next (if s.fitted p then s.glitchStart p (s.glitchCfg p) (s.fld F.DPE_GLITCH_GAP_GAP p) 0 else s)

/-- The length of an SE0 pulse in ticks (R165). -/
def Glitch.ticks (g : Glitch) : Nat := g.len * (if g.unit = 0 then 2 else 960)

/-- GLITCH_PULSE_DUE (R166): `inPacket` says that a packet is on the port's line.  A burst goes on whatever becomes of its
port (DESIGN CHOICE, log entry 154). -/
def execGlitchPulseDue (p : Nat) (inPacket : Bool) (s : State) : Host.Outcome State Fault Refusal :=
  let g := (s.dpe.at p).glitch
  .next <|
    if s.on F.DPE_GLITCH_CTL_BUSY p && decide (0 < g.left) then
      if inPacket && !g.midpkt then s
      else
        let hidden := !g.midpkt && decide (s.fld F.DPE_STATE_SPEED p = 3)
        let s := if hidden then s.incr F.DPE_CNT3_GSUPPR p else s.incr F.DPE_CNT3_GLITCHES p
        let s := s.updDpe p (fun r => { r with
          glitch := { r.glitch with left := r.glitch.left - 1 }, quietTo := if hidden then r.quietTo else s.ct + g.ticks + 2880 })
        if g.left = 1 then ((s.put F.DPE_GLITCH_CTL_BUSY p false).logOther 0 0x0C [p]).irq (95 + p) else s
    else s

/-- CHIRP_ARM_EXPIRY (R167). -/
def execChirpArmExpiry (p : Nat) (s : State) : Host.Outcome State Fault Refusal :=
  .next <|
    if s.on F.DPE_GLITCH_CTL_ARMED p then (s.put F.DPE_GLITCH_CTL_ARMED p false).logOther 0 0x0C [p] else s

end Sys2Proof.Machine
end

