-- ==== Sys2Proof/Machine/Part.lean ====
section
/-! DEFINITION. What the hosts do to their partitions: upstream events, hub requests, assignment and migration (R122 to
R154). -/

namespace Sys2Proof.Machine

/-! ### Upstream -/

/-- UPSTREAM_BUS_RESET (R135). -/
def execUpstreamBusReset (k : Nat) (s : State) : Host.Outcome State Fault Refusal :=
  .next (if s.hubUp k then s.upstreamEvent k false else s)

/-- UPSTREAM_DETACH (R135): U port VBUS is gone. -/
def execUpstreamDetach (k : Nat) (s : State) : Host.Outcome State Fault Refusal :=
  .next (if k < 4 then (s.updPart k (fun r => { r with hostVbus := false })).presence k else s)

/-- HOST_PRESENCE_CHANGE (R123, R133): `vbus` says that VBUS of the upstream port is at or above 4.0 V. -/
def execHostPresenceChange (k : Nat) (vbus : Bool) (s : State) : Host.Outcome State Fault Refusal :=
  .next (if k < 4 then (s.updPart k (fun r => { r with hostVbus := vbus })).presence k else s)

/-- HS_CHIRP_HANDSHAKE (R124). -/
def execHsChirpHandshake (k : Nat) (completed : Bool) (s : State) : Host.Outcome State Fault Refusal :=
  .next (if s.hubUp k then s.put F.PART_PSTAT_SPEED k completed else s)

/-- PARTITION_SUSPEND (R151): every port keeps its state. -/
def execPartitionSuspend (k : Nat) (s : State) : Host.Outcome State Fault Refusal :=
  .next (if s.hubUp k then (s.put F.PART_PSTAT_SUSPENDED k true).irq (128 + k) else s)

/-- HOST_RESUME (R151, R153): the K is driven to every Enabled port and to no other. -/
def execHostResume (k : Nat) (s : State) : Host.Outcome State Fault Refusal :=
  .next <|
    if s.hubUp k && s.on F.PART_PSTAT_SUSPENDED k then
      (s.updPart k (fun r => { r with resuming := true, freshK := true })).each (s.portsOfPart k) (fun s p =>
        if s.dpeIs p .enabled then (s.updDpe p (fun r => { r with driving := true })).setDpe p .transmit else s)
    else s

/-- HOST_RESUME_END (R148, R193). -/
def execHostResumeEnd (k : Nat) (s : State) : Host.Outcome State Fault Refusal :=
  .next <|
    if s.hubUp k && s.on F.PART_PSTAT_SUSPENDED k then
      let s := (s.updPart k (fun r => { r with resuming := false, wakeUp := false })).put F.PART_PSTAT_SUSPENDED k false
      let s := s.each (s.portsOfPart k) (fun s p =>
        if s.dpeIs p .restartS then (s.updDpe p (fun r => { r with fromL1 := false })).setDpe p .resuming
        else if s.dpeIs p .restartE then s.setDpe p .enabled
        else if s.dpeIs p .transmit && (s.dpe.at p).driving then
          (s.updDpe p (fun r => { r with driving := false })).setDpe p .enabled
        else s)
      let s := if s.p33Is k .resuming then (s.setP33 k .enabled).change33 k cSuspend else s
      (s.updMf k (fun r => { r with waking := false })).irq (128 + k)
    else s

/-! ### Hub class requests (R128) -/

/-- GET_PORT_STATUS (R128). -/
def execGetPortStatus (k p : Nat) (s : State) : Host.Outcome State Fault Refusal :=
  .next <|
    if s.hubUp k then
      if p = 33 then s.answer k (.data 1 (le 2 (s.status33 k) ++ le 2 (s.parts.at k).change33))
      else if s.owns k p then s.answer k (.data 1 (le 2 (s.wPortStatus p) ++ le 2 (s.fld F.DPE_PORTSTAT_CHANGE p)))
      else if 1 ≤ p ∧ p ≤ 32 then
        s.answer k (.data 1 ([0, 0] ++ le 2 (bit01 ((s.parts.at k).leftChange.testBit (p - 1)))))
      else s.answer k .stall
    else s

/-- A request that changes a port (R128, R148, R154): it is answered and acts at the next F boundary; a STALL where the
hub has no such port, and while another port is in Test for a port that the request would change. -/
def State.portRequest (s : State) (k p : Nat) (r : HubReq) : State :=
  if s.hubUp k then
    if p = 0 ∨ 33 < p then s.answer k .stall
    else if (p = 33 ∨ s.owns k p = true) ∧ s.testBlocks k p = true then s.answer k .stall
    else (s.ask k r).answer k .ack
  else s

/-- SET_PORT_POWER (R128, R136, R148, R193, R222). -/
def execSetPortPower (k p : Nat) (s : State) : Host.Outcome State Fault Refusal := .next (s.portRequest k p (.power p true))

/-- CLEAR_PORT_POWER (R128, R136, R148, R193, R222). -/
def execClearPortPower (k p : Nat) (s : State) : Host.Outcome State Fault Refusal := .next (s.portRequest k p (.power p false))

/-- SET_PORT_RESET (R138, R148, R150, R153, R193). -/
def execSetPortReset (k p : Nat) (s : State) : Host.Outcome State Fault Refusal := .next (s.portRequest k p (.reset p))

/-- SET_PORT_SUSPEND (R148, R193). -/
def execSetPortSuspend (k p : Nat) (s : State) : Host.Outcome State Fault Refusal := .next (s.portRequest k p (.suspend p))

/-- CLEAR_PORT_SUSPEND (R148, R153, R193). -/
def execClearPortSuspend (k p : Nat) (s : State) : Host.Outcome State Fault Refusal := .next (s.portRequest k p (.resume p))

/-- CLEAR_PORT_ENABLE (R148, R193). -/
def execClearPortEnable (k p : Nat) (s : State) : Host.Outcome State Fault Refusal := .next (s.portRequest k p (.disable p))

/-- The conditions of R154 for a test mode on port `p`; ports in Test are no bar to a second one. -/
def State.testAllowed (s : State) (k p selector : Nat) : Bool :=
  decide (1 ≤ selector ∧ selector ≤ 5) && s.on F.PART_PSTAT_SPEED k
    && s.dpeIn p [.disconnected, .disabled, .suspended]
    && (s.portsOfPart k).all (fun q => q == p || s.dpeIn q [.poweredOff, .disconnected, .disabled, .suspended, .test])

/-- SET_PORT_TEST (R154): selector 1 to 5 is Test_J, Test_K, Test_SE0_NAK, Test_Packet, Test_Force_Enable; the pattern
is driven from the next F boundary. -/
def execSetPortTest (k p selector : Nat) (s : State) : Host.Outcome State Fault Refusal :=
  .next <|
    if s.hubUp k then
      if p = 0 ∨ 33 < p then s.answer k .stall
      else if s.owns k p then
        if s.testAllowed k p selector then (s.ask k (.test p selector)).answer k .ack else s.answer k .stall
      else s.answer k .ack
    else s

/-- PORT_INDICATOR_REQUEST (R128): STALL for every port. -/
def execPortIndicatorRequest (k : Nat) (s : State) : Host.Outcome State Fault Refusal :=
  .next (if s.hubUp k then s.answer k .stall else s)

/-- CLEAR_PORT_CHANGE (R128): `b` is the bit of wPortChange; it acts on an other port too. -/
def execClearPortChange (k p b : Nat) (s : State) : Host.Outcome State Fault Refusal :=
  .next <|
    if s.hubUp k then
      if p = 33 then (s.updPart k (fun r => { r with change33 := withBit r.change33 b false })).answer k .ack
      else if s.owns k p then ((s.putBit F.DPE_PORTSTAT_CHANGE p b false).refresh p).answer k .ack
      else if 1 ≤ p ∧ p ≤ 32 then
        let s := if b = cConnection then
            s.updPart k (fun r => { r with leftChange := withBit r.leftChange (p - 1) false }) else s
        s.answer k .ack
      else s.answer k .stall
    else s

/-- The handshake as an answer on the bus. -/
def Handshake.answer : Handshake → BusAnswer
  | .ack => .ack | .nyet => .nyet | .stall => .stall | .timeout => .none

/-- SET_AND_TEST_PORT_L1 (R128, R152, R193): the device's handshake to the token is returned. -/
def execSetAndTestPortL1 (k p besl addr : Nat) (rwe : Bool) (h : Handshake) (s : State) :
    Host.Outcome State Fault Refusal :=
  .next <|
    if s.hubUp k then
      if p = 33 then s.answer k .stall
      else if s.owns k p then
        if s.testBlocks k p then s.answer k .stall
        else
          let s := if s.dpeIs p .enabled && h == .ack then
              if s.on F.DPE_CTL_LPM_EN p then
                (((s.setFld F.DPE_LPM_BESL p besl).setFld F.DPE_LPM_ADDR p addr).put F.DPE_LPM_RWE p rwe).setDpe p .l1
              else s
            else s
          s.answer k h.answer
      else if 1 ≤ p ∧ p ≤ 32 then s.answer k .ack
      else s.answer k .stall
    else s

/-- CLEAR_PORT_L1 (R148, R153): port 33 is never in L1. -/
def execClearPortL1 (k p : Nat) (s : State) : Host.Outcome State Fault Refusal := .next (s.portRequest k p (.exitL1 p))

/-! ### Hub class TT requests (R128, R173, R186, R187) -/

/-- A TT request waits for the next F boundary, and its status stage completes; a STALL where it addresses no translator
(R186). -/
def State.ttAsk (s : State) (k ttPort : Nat) (r : HubReq) : State :=
  if s.hubUp k then
    if (s.ttTargets k ttPort).isSome then (s.ask k r).answer k .ack else s.answer k .stall
  else s

/-- CLEAR_TT_BUFFER (R184, R186). -/
def execClearTtBuffer (k ttPort addr ep : Nat) (dirIn : Bool) (typ : SplitType) (s : State) :
    Host.Outcome State Fault Refusal :=
  .next (s.ttAsk k ttPort (.ttBuffer ttPort addr ep dirIn typ))

/-- RESET_TT (R184, R186). -/
def execResetTt (k ttPort : Nat) (s : State) : Host.Outcome State Fault Refusal :=
  .next (s.ttAsk k ttPort (.ttReset ttPort))

/-- STOP_TT (R186). -/
def execStopTt (k ttPort : Nat) (s : State) : Host.Outcome State Fault Refusal :=
  .next (s.ttAsk k ttPort (.ttStop ttPort))

/-- GET_TT_STATE (R128, R186, R187): it is judged and answered at the next F boundary; until then its data stage gets NAK
(log entry 157). -/
def execGetTtState (k ttPort flags len : Nat) (s : State) : Host.Outcome State Fault Refusal :=
  .next (if s.hubUp k then (s.ask k (.ttState ttPort flags len)).answer k .nak else s)

/-- SET_INTERFACE_ALT (R173, R184): alternate 1 is present at high speed only (R125); it applies at the next F boundary. -/
def execSetInterfaceAlt (k alt : Nat) (s : State) : Host.Outcome State Fault Refusal :=
  .next <|
    if s.hubUp k then
      if alt = 0 ∨ (alt = 1 ∧ s.on F.PART_PSTAT_SPEED k = true) then (s.ask k (.alternate alt)).answer k .ack
      else s.answer k .stall
    else s

/-! ### The hub as a device (R125 to R127) -/

/-- The hub's strings (R125): 0 the language table (US English), 1 iManufacturer, 2 iProduct, 3 iSerialNumber; none
else (log entry 14). -/
def State.hubString (s : State) (k i : Nat) : Option (List Nat) :=
  match i with
  | 0 => some [4, 3, 0x09, 0x04]
  | 1 => some (stringDesc (ascii "Tilmeune Integrated"))
  | 2 => some (stringDesc (ascii "AE3240 P" ++ [48 + k]))
  | 3 => some (stringDesc (s.serial ++ ascii "-P" ++ [48 + k]))
  | _ => none

/-- The hub's device descriptor (R125); indexes of strings are 1 to 3 (log entry 14). -/
def State.hubDevice (s : State) (k : Nat) : List Nat :=
  [18, 1, 0x10, 0x02, 0x09, 0x00, if s.on F.PART_PSTAT_SPEED k then 2 else 0, 64] ++ s.identity 0 ++ s.identity 2
    ++ [0x10, 0x03, 1, 2, 3, 1]

/-- The status-change bitmap of endpoint 0x81 of partition `k` (R122, R125, R128): bit 0 for the hub, bits 1 to 33 for
the ports. -/
def State.changeBits (s : State) (k : Nat) : Nat :=
  bit01 (s.parts.at k).localPowerChange
    + (allPorts.map (fun p => 2 ^ p * bit01 (if s.owns k p then decide (s.fld F.DPE_PORTSTAT_CHANGE p ≠ 0)
        else (s.parts.at k).leftChange.testBit (p - 1)))).sum
    + 2 ^ 33 * bit01 (decide ((s.parts.at k).change33 ≠ 0))

/-- What an IN token on endpoint 0x81 gets (R125): the five bytes of the bitmap, or NAK while no bit is set. -/
def State.statusEndpoint (s : State) (k : Nat) : BusAnswer :=
  if s.changeBits k = 0 then .nak else .data 0 (le 5 (s.changeBits k))

/-- The hub's interface descriptor of one alternate and its endpoint (R125). -/
def hubInterface (alt protocol interval : Nat) : List Nat :=
  [9, 4, 0, alt, 1, 9, 0, protocol, 0, 7, 5, 0x81, 3, 5, 0, interval]

/-- The hub's configuration descriptor (R125). -/
def State.hubConfig (s : State) (k : Nat) : List Nat :=
  let body := if s.on F.PART_PSTAT_SPEED k then hubInterface 0 1 8 ++ hubInterface 1 2 8 else hubInterface 0 0 0x10
  let db := s.on F.PART_PSTAT_DBOP k
  [9, 2] ++ le 2 (9 + body.length) ++ [1, 1, 0, if db then 0xA0 else 0xE0, if db then 250 else 0] ++ body

/-- The hub descriptor (R126). -/
def hubDescriptor : List Nat := [0x11, 0x29, 0x21, 0x0D, 0x00, 0x32, 0, 0, 0, 0, 0, 2, 0xFF, 0xFF, 0xFF, 0xFF, 0xFF]

/-- The BOS descriptor with its USB 2.0 extension (R125). -/
def hubBos : List Nat := [5, 0x0F, 12, 0, 1, 7, 0x10, 2, 2, 0, 0, 0]

/-- HUB_DEVICE_REQUEST (R77, R125 to R127): the standard requests of USB 2.0 that set the partition's address, configuration
and features, and the clears of hub change bits (log entry 12). -/
def execHubDeviceRequest (k requestType request value length : Nat) (s : State) : Host.Outcome State Fault Refusal :=
  let give (l : List Nat) : State := s.answer k (.data 1 (l.take length))
  .next <|
    if !s.hubUp k then s
    else if requestType = 0x00 ∧ request = 5 then (s.setFld F.PART_PSTAT_ADDR k (value % 128)).answer k .ack
    else if requestType = 0x00 ∧ request = 9 ∧ value ≤ 1 then
      let s := if k = 0 ∧ value = 1 ∧ s.power.inLimit ≠ 0 then { s with power := { s.power with inLimit := 500 } } else s
      (s.setFld F.PART_PSTAT_CONFIGURED k value).answer k .ack
    else if requestType = 0x00 ∧ request = 3 ∧ value = 1 then
      (s.updPart k (fun r => { r with remoteWake := true })).answer k .ack
    else if requestType = 0x00 ∧ request = 1 ∧ value = 1 then
      (s.updPart k (fun r => { r with remoteWake := false })).answer k .ack
    else if requestType = 0x80 ∧ request = 0 then
      give [bit01 (!s.on F.PART_PSTAT_DBOP k) + 2 * bit01 (s.parts.at k).remoteWake, 0]
    else if requestType = 0x80 ∧ request = 8 then give [s.fld F.PART_PSTAT_CONFIGURED k]
    else if requestType = 0x81 ∧ request = 10 then give [s.fld F.PART_PSTAT_TTALT k]
    else if requestType = 0x80 ∧ request = 6 ∧ value = 0x0100 then give (s.hubDevice k)
    else if requestType = 0x80 ∧ request = 6 ∧ value = 0x0200 then give (s.hubConfig k)
    else if requestType = 0x80 ∧ request = 6 ∧ value = 0x0F00 then give hubBos
    else if requestType = 0x80 ∧ request = 6 ∧ value / 256 = 3 then
      match s.hubString k (value % 256) with
      | some l => give l
      | none => s.answer k .stall
    else if requestType = 0xA0 ∧ request = 6 ∧ value = 0x2900 then give hubDescriptor
    else if requestType = 0xA0 ∧ request = 0 then
      give [s.fld F.PART_PSTAT_LPWR_LOST k, 0, bit01 (s.parts.at k).localPowerChange, 0]
    else if requestType = 0x20 ∧ request = 1 ∧ value = 0 then
      (s.updPart k (fun r => { r with localPowerChange := false })).answer k .ack
    else if requestType = 0x20 ∧ request = 1 ∧ value = 1 then s.answer k .ack
    else s.answer k .stall

/-! ### Assignment and migration -/

/-- ASSIGN_WRITE (R130, R131, R145). -/
def execAssignWrite (p v : Nat) (s : State) : Host.Outcome State Fault Refusal := .next (s.assign p v)

/-- HARD_MOVE (R132): from one partition straight to another. -/
def execHardMove (p v : Nat) (s : State) : Host.Outcome State Fault Refusal :=
  .next (if s.partOf p < 4 ∧ s.assignValue v < 4 ∧ s.partOf p ≠ v then s.assign p v else s)

/-- A write of PART_MIGCTL.GO (R137, R145): the ports of MASK, in ascending order. -/
def State.migGo (s : State) : State :=
  let dest := s.fld F.PART_MIGCTL_DEST 0
  s.each (maskPorts (s.fld F.PART_MIGMASK_MASK 0)) (fun s p =>
    let r := s.migRefusal p dest
    if r = 0 then s.migStart p dest (s.on F.PART_MIGCTL_KEEPALIVE 0) (s.fld F.PART_MIGCTL_TIMEOUT 0)
    else (s.incr F.PART_MIGREFUSE_COUNT 0).migRefused p r)

/-- MIGCTL_GO (R137). -/
def execMigctlGo (s : State) : Host.Outcome State Fault Refusal := .next s.migGo

/-- MIGRATION_SOURCE_BOUNDARY (R138 step 2, R139, R141): the source host's waiting requests act first.  A port in Test
keeps its state, as a Powered-off one does (log entry 133). -/
def execMigrationSourceBoundary (p : Nat) (s : State) : Host.Outcome State Fault Refusal :=
  .next <|
    if (s.migs.at p).active && decide ((s.migs.at p).step = 1) then
      let k := s.partOf p
      let s := s.frameBoundary k
      if s.dpeIn p deviceStates then
        let keep := (s.migs.at p).wantKeepalive && s.dpeIn p [.enabled, .transmit]
        let s := if s.connected p then
            s.updPart k (fun r => { r with leftChange := withBit r.leftChange (p - 1) true }) else s
        let s := (s.ttClear p).updDpe p (fun r => { r with driving := false, corrupt := 0 })
        let s := s.updMig p (fun r => { r with step := 2, keepalive := keep })
        (s.setFld F.DPE_PORTSTAT_CHANGE p 0).setDpe p .migrating
      else
        ((s.updMig p (fun r => { r with step := 2 })).setFld F.DPE_PORTSTAT_CHANGE p 0).refresh p
    else s

/-- MIGRATION_DEST_BOUNDARY (R138 steps 3 and 4, R141, R148): the destination's waiting requests act first. -/
def execMigrationDestBoundary (p : Nat) (s : State) : Host.Outcome State Fault Refusal :=
  .next <|
    if (s.migs.at p).active && decide ((s.migs.at p).step = 2) then
      let k := (s.migs.at p).dest
      let s := (s.frameBoundary k).handOver p k
      let s := s.updMig p (fun r => { r with step := 4 })
      if s.dpeIs p .migrating && s.live p && s.logPwr p && s.on F.DPE_STATE_DEV p && !s.isoCause p then
        (s.change p cConnection).refresh p
      else
        let s := s.updMig p (fun r => { r with keepalive := false })
        let s := if s.dpeIn p [.isolated, .quarantined, .test] then s.refresh p
          else if s.live p && s.isoCause p && s.dpeIs p .migrating then s.setDpe p .isolated
          else if s.dpeIs p .disconnected && s.logPwr p then s.refresh p
          else s.leaveHold p
        s.migDone p
    else s

/-- KEEPALIVE_SOF (R139): an SOF packet with the destination's frame number, or an EOP to a low-speed device. -/
def execKeepaliveSof (p : Nat) (s : State) : Host.Outcome State Fault Refusal :=
  let m := s.migs.at p
  .next <|
    if m.active && m.keepalive then
      let k := if s.fld F.DPE_STATE_SPEED p = 1 then .eop else .sof (s.fld F.PART_FRAME_FRAME m.dest)
      s.updMig p (fun r => { r with sent := r.sent + 1, last := k })
    else s

/-- MIGRATION_DEST_RESET (R138 step 5): the destination host's SetPortFeature(PORT_RESET) at its boundary. -/
def execMigrationDestReset (p : Nat) (s : State) : Host.Outcome State Fault Refusal :=
  .next (if (s.migs.at p).active && decide ((s.migs.at p).step = 4) then s.portReset p else s)

/-- MIGRATION_TIMEOUT (R138 step 6′, R148). -/
def execMigrationTimeout (p : Nat) (s : State) : Host.Outcome State Fault Refusal :=
  .next <|
    if (s.migs.at p).active && decide ((s.migs.at p).step = 4) then
      let s := if s.dpeIs p .migrating then s.setDpe p .disabled else s
      s.migDone p
    else s

/-- MIGRATION_ABORT (R141): `cause` is 1 for a detach of the destination before step 3, 2 for a quarantine, 3 for a
latch; the number that the record carries is log entry 23's. -/
def execMigrationAbort (p cause : Nat) (s : State) : Host.Outcome State Fault Refusal :=
  let m := s.migs.at p
  .next <|
    if m.active && ((decide (cause = 1 ∧ m.step < 3) && !s.on F.PART_PSTAT_ATTACHED m.dest)
        || (decide (cause = 2) && s.dpeIs p .quarantined) || (decide (cause = 3) && s.pwrIs p .latched)) then
      s.migGiveBack p cause
    else s

end Sys2Proof.Machine
end

