-- ==== Sys2Proof/Machine/Mf.lean ====
section
/-! DEFINITION. The management function instances: port 33, control transfers, frames, responses, notices and SOF stamps
(R191 to R214). -/

namespace Sys2Proof.Machine

/-! ### Port 33 (R193) -/

/-- PORT33_CONNECT_APPLY (R192, R193): MF_CTL.CONNECT applies; it stops where buffers overlap (R213). -/
def execPort33ConnectApply (k : Nat) (connect : Bool) (s : State) : Host.Outcome State Fault Refusal :=
    if s.hasUpstream k && s.domOn Dom.fabric then
      let t := s.put F.MF_CTL_CONNECT k connect
      orUnpredictable (if overlapApplied s t then 213 else 0) (t.p33Update k (s.on F.MF_CTL_CONNECT k && !connect))
    else .next s

/-- PORT33_RESET_END (R193). -/
def execPort33ResetEnd (k : Nat) (s : State) : Host.Outcome State Fault Refusal :=
  .next <|
    if k < 4 ∧ s.p33Is k .resetting then
      ((s.setP33 k .enabled).put F.MF_STAT_SPEED k (s.on F.PART_PSTAT_SPEED k)).change33 k cReset |>.resetDone k 33
    else s

/-- PORT33_RESUME_END (R193). -/
def execPort33ResumeEnd (k : Nat) (s : State) : Host.Outcome State Fault Refusal :=
  .next <|
    if k < 4 ∧ s.p33Is k .resuming then
      ((s.setP33 k .enabled).change33 k cSuspend).updMf k (fun r => { r with waking := false })
    else s

/-- PORT33_REMOTE_WAKE (R193, R208): `hostToo` says that a host resume arrived in the same interval (R153); so does a
HOST_RESUME since the last F boundary, and a ClearPortFeature(PORT_SUSPEND) that waits for it absorbs the wake.  One wake is
signalled, or absorbed, until the port is Enabled again. -/
def execPort33RemoteWake (k : Nat) (hostToo : Bool) (s : State) : Host.Outcome State Fault Refusal :=
  let r := s.mf.at k
  .next <|
    if k < 4 ∧ s.p33Is k .suspended ∧ s.on F.MF_STAT_RWE k ∧ r.notices.items ≠ [] ∧ r.waking = false then
      let go (s : State) : State := (s.updMf k (fun r => { r with waking := true })).setP33 k .resuming
      if (s.parts.at k).requests.contains (.resume 33) then
        (s.updMf k (fun r => { r with waking := true })).incr F.MF_CNT2_ABSORBED k
      else if s.on F.PART_PSTAT_SUSPENDED k then
        if hostToo || (s.parts.at k).freshK then (go s).incr F.MF_CNT2_ABSORBED k
        else if (s.parts.at k).remoteWake then (go s).updPart k (fun r => { r with wakeUp := true })
        else s
      else go s
    else s

/-! ### Control transfers (R195, R196) -/

/-- Answer a control request with data. -/
def State.mfGive (s : State) (k : Nat) (l : List Nat) : State :=
  s.updMf k (fun r => { r with answer := .data 1 l })

/-- Answer of the instance on its bus. -/
def State.mfAnswer (s : State) (k : Nat) (a : BusAnswer) : State := s.updMf k (fun r => { r with answer := a })

/-- A SET_CONFIGURATION value takes effect (R195, R203). -/
def State.mfConfigure (s : State) (k v : Nat) : State :=
  if v = 0 then s.mfFlush k
  else
    let s := s.put F.MF_STAT_CONFIGURED k true
    let s := s.updMf k (fun r => { r with halts := [], toggles := 0, notices := r.notices.refill s.ct s.sync })
    s.put F.MF_STAT_NOTPEND k (decide ((s.mf.at k).notices.items ≠ []))

/-- The status stage of a control transfer waits for the instance, which answers NAK until then (R196). -/
def State.mfWait (s : State) (k : Nat) : State := s.updMf k (fun r => { r with control := .status, answer := .nak })

/-- A control transfer answered in full: its status stage is open unless it is `done` (R196). -/
def State.mfClose (s : State) (k : Nat) (done : Bool) : State :=
  if done then s else s.updMf k (fun r => { r with control := .status })

/-- The endpoint 1 to 4 of the instance that a wIndex names, 0 for none (R194). -/
def endpointOf (index : Nat) : Nat :=
  if index = 0x01 then 1 else if index = 0x82 then 2 else if index = 0x83 then 3 else if index = 0x84 then 4 else 0

/-- MF_EP0_SETUP (R195, R196): the fields of the SETUP packet, and whether the transfer goes on to the end of its status
stage.  One that does not stays open until it is abandoned, and a SET_ADDRESS or SET_CONFIGURATION then has no effect. -/
def execMfEp0Setup (k requestType request value index length : Nat) (done : Bool) (s : State) :
    Host.Outcome State Fault Refusal :=
  .next <|
    if !s.mfUp k then s
    else
      let s := s.controlAbandon k
      let ep := endpointOf index
      if requestType = 0x00 ∧ request = 5 then
        if done then (s.setFld F.MF_STAT_ADDR k (value % 128)).mfAnswer k .ack
        else (s.updMf k (fun r => { r with wantAddr := some (value % 128) })).mfWait k
      else if requestType = 0x00 ∧ request = 9 ∧ value ≤ 1 then
        if done then (s.mfConfigure k value).mfAnswer k .ack
        else (s.updMf k (fun r => { r with wantCfg := some value })).mfWait k
      else if requestType = 0x00 ∧ (request = 3 ∨ request = 1) ∧ value = 1 then
        ((s.put F.MF_STAT_RWE k (decide (request = 3))).mfAnswer k .ack).mfClose k done
      else if requestType = 0x02 ∧ request = 3 ∧ value = 0 ∧ ep ≠ 0 then
        let s := if ep = 4 then s.unplace k else s
        ((s.updMf k (fun r => { r with halts := (r.halts.filter (· ≠ ep)) ++ [ep] })).mfAnswer k .ack).mfClose k done
      else if requestType = 0x02 ∧ request = 1 ∧ value = 0 ∧ ep ≠ 0 then
        let s := s.updMf k (fun r => { r with
          halts := r.halts.filter (· ≠ ep), toggles := withBit r.toggles ep false })
        (s.mfAnswer k .ack).mfClose k done
      else if requestType = 0x80 ∧ request = 0 then
        (s.mfGive k ([bit01 (!s.on F.PART_PSTAT_DBOP k) + 2 * s.fld F.MF_STAT_RWE k, 0].take length)).mfClose k done
      else if requestType = 0x81 ∧ request = 0 then (s.mfGive k ([0, 0].take length)).mfClose k done
      else if requestType = 0x82 ∧ request = 0 ∧ (ep ≠ 0 ∨ index = 0 ∨ index = 0x80) then
        (s.mfGive k ([bit01 ((s.mf.at k).halts.contains ep), 0].take length)).mfClose k done
      else if requestType = 0x80 ∧ request = 8 then (s.mfGive k ([s.fld F.MF_STAT_CONFIGURED k].take length)).mfClose k done
      else if requestType = 0x81 ∧ request = 10 then (s.mfGive k ([0].take length)).mfClose k done
      else if requestType = 0x01 ∧ request = 11 ∧ value = 0 then (s.mfAnswer k .ack).mfClose k done
      else if requestType = 0x80 ∧ request = 6 then
        (s.updMf k (fun r => { r with
          control := .waitFirmware, wantValue := value, wantLength := length, answer := .nak })).irq (135 + k)
      else s.mfAnswer k .stall

/-! ### Descriptors (R194) -/

/-- The instance's device descriptor; indexes of strings are 1 to 3 (log entry 14). -/
def State.mfDevice (s : State) : List Nat :=
  [18, 1, 0x00, 0x02, 0, 0, 0, 64] ++ s.identity 0 ++ [0x42, 0x32, 0x10, 0x03, 1, 2, 3, 1]

/-- The instance's configuration with its interface and four endpoints. -/
def State.mfConfig (s : State) (k : Nat) : List Nat :=
  let hs := s.on F.MF_STAT_SPEED k
  let bulk (a : Nat) : List Nat := [7, 5, a, 2] ++ le 2 (if hs then 512 else 64) ++ [0]
  [9, 2, 46, 0, 1, 1, 0, if s.on F.PART_PSTAT_DBOP k then 0xA0 else 0xE0, 0, 9, 4, 0, 0, 4, 0xFF, 0x40, 0x01, 0] ++ bulk 0x01
    ++ bulk 0x82 ++ [7, 5, 0x83, 3, 64, 0, if hs then 4 else 1] ++ bulk 0x84

/-- The instance's strings: 0 the language table (US English), 1 iManufacturer, 2 iProduct, 3 iSerialNumber (log entry
14). -/
def State.mfString (s : State) (k i : Nat) : Option (List Nat) :=
  match i with
  | 0 => some [4, 3, 0x09, 0x04]
  | 1 => some (stringDesc (ascii "Tilmeune Integrated"))
  | 2 => some (stringDesc (ascii "AE3240 management P" ++ [48 + k]))
  | 3 => some (stringDesc (s.serial ++ ascii "-P" ++ [48 + k] ++ ascii "-M"))
  | _ => none

/-- The descriptor that a wValue names; none for one that the instance lacks. -/
def State.mfDescriptor (s : State) (k value : Nat) : Option (List Nat) :=
  if value = 0x0100 then some s.mfDevice
  else if value = 0x0200 then some (s.mfConfig k)
  else if value / 256 = 3 then s.mfString k (value % 256)
  else none

/-- GET_DESCRIPTOR_READY (R194, R195): firmware has placed the data, or answers STALL for a descriptor that the instance
lacks; `done` says that the host reads it to the end. -/
def execGetDescriptorReady (k : Nat) (done : Bool) (s : State) : Host.Outcome State Fault Refusal :=
  .next <|
    if k < 4 ∧ (s.mf.at k).control = .waitFirmware then
      match s.mfDescriptor k (s.mf.at k).wantValue with
      | some l =>
        let l := l.take (s.mf.at k).wantLength
        (s.epWrite k 0 0 0 (l.take 64)).updMf k (fun r => { r with
          control := if done then .idle else .dataReady, ep0 := if done then [] else l, answer := .data 1 l })
      | none => s.updMf k (fun r => { r with control := .idle, answer := .stall })
    else s

/-- CONTROL_ABANDON (R196): `cause` is 1 for CONNECT at 0, 2 for a new SETUP, and any other for a reset, which abandons
through the instance reset itself. -/
def execControlAbandon (k : Nat) (s : State) : Host.Outcome State Fault Refusal :=
  .next (if k < 4 then s.controlAbandon k else s)

/-! ### EP1 (R200, R201) -/

/-- wMaxPacketSize of the bulk endpoints (R194). -/
def State.mfPacket (s : State) (k : Nat) : Nat := if s.on F.MF_STAT_SPEED k then 512 else 64

/-- Bytes of the transfer that the half holds: the header alone where LEN is above 1,024. -/
def ep1Stored (r : MfInst) : Nat :=
  if 16 ≤ r.partLen ∧ 1024 < frameLen r.part then 16 else r.part.length

/-- The frame being received has all its bytes. -/
def ep1Whole (r : MfInst) : Bool := decide (16 ≤ r.partLen ∧ 16 + frameLen r.part ≤ r.partLen)

/-- EP1 has room for one packet (R200). -/
def State.ep1Room (s : State) (k : Nat) (r : MfInst) : Bool :=
  if r.tail then decide (r.frames.length < s.epHalves k 1)
    || decide (((r.frames.getLast?.map List.length).getD 0) + s.mfPacket k ≤ s.epHalf k 1)
  else (decide (r.frames.length < s.epHalves k 1) && decide (ep1Stored r + s.mfPacket k ≤ s.epHalf k 1))
    || (ep1Whole r && decide (r.frames.length + 1 < s.epHalves k 1))

/-- The bytes of an EP1 packet that go into the pool (R197, R201): of a frame with LEN above 1,024 the header alone, and none of
a transfer that goes on past its frame. -/
def ep1Kept (r : MfInst) (bytes : List Nat) : List Nat :=
  if r.tail then []
  else if 16 ≤ r.partLen + bytes.length ∧ 1024 < frameLen (r.part ++ bytes) then bytes.take (16 - r.partLen)
  else bytes

/-- EP1_OUT_PACKET (R200, R201): `badCrc` and `toggleError` as USB 2.0 gives (log entry 12). -/
def execEp1OutPacket (k : Nat) (bytes : List Nat) (badCrc toggleError : Bool) (s : State) :
    Host.Outcome State Fault Refusal :=
  .next <|
    if !s.mfUp k || !s.on F.MF_STAT_CONFIGURED k then s
    else if badCrc then s.mfAnswer k .none
    else if (s.mf.at k).halts.contains 1 then s.mfAnswer k .stall
    else if toggleError then s.mfAnswer k .ack
    else
      let s := s.ep1End k
      let r := s.mf.at k
      if s.ep1Room k r then
        let big := decide (16 ≤ r.partLen ∧ 1024 < frameLen r.part)
        let r' : MfInst := { r with
          part := if big || r.tail then r.part else r.part ++ bytes, partLen := r.partLen + bytes.length,
          ended := decide (bytes.length < s.mfPacket k), toggles := withBit r.toggles 1 (!r.toggles.testBit 1) }
        let s := s.epWrite k 1 (r.outHalf + r.frames.length) r.partLen (ep1Kept r bytes)
        let s := s.updMf k (fun _ => r')
        if s.on F.MF_STAT_SPEED k then
          if (s.ep1End k).ep1Room k ((s.ep1End k).mf.at k) then s.mfAnswer k .ack
          else (s.incr F.MF_CNT3_NYETS k).mfAnswer k .nyet
        else s.mfAnswer k .ack
      else s.mfAnswer k .nak

/-- EP1_PING (R200), at high speed. -/
def execEp1Ping (k : Nat) (s : State) : Host.Outcome State Fault Refusal :=
  .next <|
    if s.mfUp k && s.on F.MF_STAT_CONFIGURED k && s.on F.MF_STAT_SPEED k then
      if (s.mf.at k).halts.contains 1 then s.mfAnswer k .stall
      else
        let s := s.ep1End k
        s.mfAnswer k (if s.ep1Room k (s.mf.at k) then .ack else .nak)
    else s

/-- EP1_FRAME_COMPLETE (R201). -/
def execEp1FrameComplete (k : Nat) (s : State) : Host.Outcome State Fault Refusal :=
  .next (if k < 4 then s.ep1End k else s)

/-! ### EP2 and EP3 (R202, R207) -/

/-- The data toggle of endpoint `e` of instance `k`. -/
def State.mfToggle (s : State) (k e : Nat) : Nat := bit01 ((s.mf.at k).toggles.testBit e)

/-- The host has ACKed a whole bulk IN transfer of `n` bytes on endpoint `e` (R195, R209): its packets, the short or empty
one at its end among them, have each turned the toggle. -/
def State.mfTurn (s : State) (k e n : Nat) : State :=
  if (n / s.mfPacket k + 1) % 2 = 0 then s
  else s.updMf k (fun r => { r with toggles := withBit r.toggles e (!r.toggles.testBit e) })

/-- EP2_RESPONSE_SENT (R195, R202): the half is free, and a waiting response moves in. -/
def execEp2ResponseSent (k : Nat) (s : State) : Host.Outcome State Fault Refusal :=
  .next <|
    if s.mfUp k && s.on F.MF_STAT_CONFIGURED k then
      if (s.mf.at k).halts.contains 2 then s.mfAnswer k .stall
      else match (s.mf.at k).responses with
      | [] => s.mfAnswer k .nak
      | f :: rest =>
        let a := BusAnswer.data (s.mfToggle k 2) f
        let s := (s.mfTurn k 2 f.length).updMf k (fun r => { r with responses := rest, inHalf := 1 - r.inHalf, answer := a })
        (s.ep2Fill k 2).irq 148
    else s

/-- EP3_NOTICE_PACKET (R195, R204, R207): a packet of at most `n` notices, oldest first; one that is not ACKed is sent again
with the same notices. -/
def execEp3NoticePacket (k n : Nat) (acked : Bool) (s : State) : Host.Outcome State Fault Refusal :=
  let q := (s.mf.at k).notices
  .next <|
    if s.mfUp k && s.on F.MF_STAT_CONFIGURED k then
      if (s.mf.at k).halts.contains 3 then s.mfAnswer k .stall
      else if q.items = [] then s.mfAnswer k .nak
      else
        let m := if 0 < q.inflight then q.inflight else min (clamp 1 4 n) q.items.length
        let l := (q.items.take m).flatMap noticeBytes
        let s := (s.epWrite k 3 (s.mf.at k).ep3Half 0 l).mfAnswer k (.data (s.mfToggle k 3) l)
        if acked then
          let s := s.updMf k (fun r => { r with
            notices := r.notices.pop m s.ct s.sync, toggles := withBit r.toggles 3 (!r.toggles.testBit 3),
            ep3Half := 1 - r.ep3Half })
          (s.put F.MF_STAT_NOTPEND k (decide ((s.mf.at k).notices.items ≠ []))).add F.MF_CNT1_NOTICES k m
        else s.updMf k (fun r => { r with notices := { r.notices with inflight := m } })
    else s

/-- NOTICE_RAISED (R205, R206): a notice of a type and its data reaches the queues of its routing. -/
def execNoticeRaised (typ data : Nat) (s : State) : Host.Outcome State Fault Refusal :=
  .next (if 2 ≤ typ ∧ typ ≤ 7 then s.notice typ (data % 2 ^ 32) else s)

/-! ### SOF stamps (R210, R211) -/

/-- SOFMODE records this SOF (R210). -/
def sofRecorded (mode frame uframe : Nat) : Bool :=
  match mode with
  | 0 => true
  | 1 => decide (uframe = 0)
  | 2 => decide (uframe = 0 ∧ frame % 16 = 0)
  | _ => false

/-- SOF_RECEIVED (R210, R211): a valid SOF of frame `frame` and microframe `uframe`, stamped with CT as it stands. -/
def execSofReceived (k frame uframe : Nat) (s : State) : Host.Outcome State Fault Refusal :=
  .next <|
    if s.hubUp k && s.on F.PART_PSTAT_HOST k && !s.on F.PART_PSTAT_SUSPENDED k then
      let hs := s.on F.PART_PSTAT_SPEED k
      let u := if hs then uframe % 8 else 0
      let s := (s.setFld F.PART_FRAME_FRAME k frame).setFld F.PART_FRAME_UFRAME k u
      if sofRecorded (s.fld F.MF_CTL_SOFMODE k) (frame % 2048) u then
        let i := s.fld F.MF_SOFIDX_NEXT k
        let a := 0x200D7000 + 0x400 * k + 0x10 * i
        let s := (s.incr F.MF_SOFIDX_SOFS k).setFld F.MF_SOFIDX_NEXT k (i + 1)
        let s := (s.writeWord a (s.ct % 2 ^ 32)).writeWord (a + 4) (s.ct / 2 ^ 32)
        let s := s.writeWord (a + 8) (frame % 2048 + 2048 * u + 16384 * s.sync + 65536 * bit01 hs)
        s.writeWord (a + 12) (65536 * s.fld F.MF_SOFIDX_SOFS k + 1)
      else s
    else s

end Sys2Proof.Machine
end

