-- ==== Sys2Proof/Machine/Trace.lean ====
section
/-! DEFINITION. Trace commands: packet capture, triggers, capture control, scrubbing, memory errors, the EP4 stream (R209,
R350 to R372). -/

namespace Sys2Proof.Machine

/-- The class of a PID byte (R356): 0 token, 1 SOF, 2 data, 3 handshake, 4 special; a failed PID check is special. -/
def pidClass (pid : Nat) : Nat :=
  if pid / 16 % 16 + pid % 16 ≠ 15 then 4
  else match pid % 16 with
    | 1 | 9 | 13 => 0
    | 5 => 1
    | 3 | 11 | 7 | 15 => 2
    | 2 | 10 | 14 | 6 => 3
    | _ => 4

/-- The port that a packet is attributed to (R351). -/
def State.attributed (s : State) (x : TapPacket) : Nat :=
  let pid := x.bytes.headD 0
  if x.tap = 1 then x.port
  else match x.splitPort with
    | some p => p
    | none =>
      if x.toHost then x.port
      else if pidClass pid = 1 then 0
      else if x.addr = 0 then look 0 x.part s.trc.lastReset
      else if x.addr = s.fld F.MF_STAT_ADDR x.part then 33
      else look 0 (128 * x.part + x.addr % 128) s.trc.ports

/-- A filter group keeps a packet (R356). -/
def FilterGroup.keeps (g : FilterGroup) (x : TapPacket) (port : Nat) : Bool :=
  let cls := pidClass (x.bytes.headD 0)
  let tap := if x.tap = 0 then g.rep.testBit x.part else g.tt
  let prt := if port = 0 then g.unattr else if port = 33 then g.mf else g.ports.testBit (port - 1)
  let enabled := g.matches'.filter (fun e => e.1)
  let hit := enabled.any (fun e => decide (e.2.2.2 = x.addr) && (e.2.1 || decide (e.2.2.1 = x.ep)))
  tap && prt && g.pidCls.testBit cls && (enabled.isEmpty || decide (cls = 1 ∨ cls = 4) || hit)

/-- SNAPLEN as applied, in bytes (R354). -/
def State.snapBytes (s : State) : Nat := 16 * min 65 (s.fld F.TRC_CFG_SNAPLEN 0)

/-- The bits of W from bit 17 on of a packet record (R354). -/
def packetFields (x : TapPacket) (port : Nat) : Nat :=
  x.speed % 4 + 2 ^ 2 * (x.part % 4) + 2 ^ 4 * (x.tap % 2) + 2 ^ 5 * bit01 x.toHost + 2 ^ 6 * (port % 64)
    + 2 ^ 12 * (x.bytes.headD 0 % 256) + 2 ^ 20 * (x.addr % 128) + 2 ^ 27 * (x.ep % 16) + 2 ^ 31 * min 2047 x.wireLen
    + 2 ^ 42 * bit01 x.crcErr + 2 ^ 43 * bit01 x.phyErr + 2 ^ 44 * bit01 x.splitPort.isSome + 2 ^ 45 * bit01 x.glitch

/-- PACKET_CAPTURE (R350 to R356, R359): a packet ends at a tap.  The address table learns whether or not capture runs; the
record is written where the packet started while capture ran and the filters in force at its start keep it, after a stop
too. -/
def execPacketCapture (x : TapPacket) (s : State) : Host.Outcome State Fault Refusal :=
  .next <|
    if s.traceOn then
      let s := if x.answers && decide (x.addr ≠ 0) && decide (1 ≤ x.port ∧ x.port ≤ 32) then
          s.updTrc (fun t => { t with ports := store natLt 0 (128 * x.part + x.addr % 128) x.port t.ports })
        else s
      let port := s.attributed x
      let s := s.updTrc (fun t => { t with full := !x.room })
      let fields := packetFields x port
      let payload := x.bytes.take s.snapBytes
      if !(s.filterAt x.ct).keeps x port then s
      else match s.capturing, decide (s.trc.startCt ≤ x.ct), s.lateFor x.ct with
        | true, true, _ => s.traceRecord x.room x.ct (s.syncAt x.ct) 0 fields payload
        | true, false, some _ => s.traceRecord x.room x.ct (s.syncAt x.ct) 0 fields payload
        | false, _, some q => s.traceLate q x.room x.ct (s.syncAt x.ct) fields payload
        | _, _, _ => s
    else s

/-- DROP_RECORD_WRITE (R359). -/
def execDropRecordWrite (s : State) : Host.Outcome State Fault Refusal :=
  .next <|
    if s.capturing then
      let s := s.updTrc (fun t => { t with full := false })
      if s.traceTight 16 then s else s.traceDropRecord
    else s

/-- TRACE_TRIGGER (R358): a trigger of a cause arises, 0 software, 1 the trace mark of entry `id` with the VALUE `value`, 2 an
event of fault source `id`. -/
def execTraceTrigger (s : State) (cause : Nat := 1) (id : Nat := 0) (value : Nat := 0) : Host.Outcome State Fault Refusal :=
  .next (if cause = 0 then s.traceTrigger 0 0 else if cause = 1 then s.markTriggers id value else s.faultTriggers id)

/-- POST_TRIGGER_DONE (R357). -/
def execPostTriggerDone (s : State) : Host.Outcome State Fault Refusal :=
  .next <|
    if s.traceOn && decide (s.fld F.TRC_STAT_STATE 0 = 3)
        && decide (65536 * s.fld F.TRC_TRIG_POST 0 ≤ s.trc.wr - s.trc.trigPos) then s.traceStop 2
    else s

/-- TRACE_MEMORY_FULL (R357, R361): a record with `payload` bytes of payload does not fit; it is dropped and capture
stops. -/
def execTraceMemoryFull (s : State) (payload : Nat := 0) : Host.Outcome State Fault Refusal :=
  .next (if s.capturing && s.traceCramped (16 + up16 payload) then (s.traceDrop s.ct s.sync).traceStop 3 else s)

/-- TRC_START (R357). -/
def execTrcStart (s : State) : Host.Outcome State Fault Refusal := .next (s.traceStart 0)

/-- TRC_STOP (R357). -/
def execTrcStop (s : State) : Host.Outcome State Fault Refusal := .next (s.traceStop 0)

/-- TRC_TRIG (R358). -/
def execTrcTrig (s : State) : Host.Outcome State Fault Refusal := .next (s.traceTrigger 0 0)

/-- TRC_CLEAR (R357). -/
def execTrcClear (s : State) : Host.Outcome State Fault Refusal := .next s.traceClear

/-- TRC_MARK is written (R355); TAG, CODE and the ports of its record are 0 (DESIGN CHOICE, log entry 160). -/
def State.trcMark (s : State) (value : Nat) : State := s.traceMark 0x1FF false 0 value 0 0 0

/-- TRC_MARK_WRITE (R355). -/
def execTrcMarkWrite (value : Nat) (s : State) : Host.Outcome State Fault Refusal := .next (s.trcMark value)

/-- SCRUB_TICK (R362, R364): the words of the group with one and with two bits corrected; a capture write to the group
defers its scrub. -/
def execScrubTick (k one two : Nat) (deferred : Bool) (s : State) : Host.Outcome State Fault Refusal :=
  .next <|
    if s.traceOn && s.bilberry k && s.on F.BBC_STAT_READY k && decide (s.fld F.BBC_SCRUB_SCRUBINT k ≠ 0) && !deferred then
      let s := (s.add F.BBC_ECC0_CORR1 k one).add F.BBC_ECC0_CORR2 k two
      let pos := s.fld F.BBC_SCRUBPOS_POS k
      let s := s.setFld F.BBC_SCRUBPOS_POS k ((pos + 1) % 16777216)
      if pos = 16777215 then s.incr F.BBC_ECC1_PASSES k else s
    else s

/-- TRACE_UNCORRECTABLE (R362, R363): the word at byte `addr` of Bilberry `k`, or of the ring for `k` = 2; `count` is its
byte count in the stream, where a record holds it. -/
def execTraceUncorrectable (k addr : Nat) (count : Option Nat) (s : State) : Host.Outcome State Fault Refusal :=
  .next <|
    if !s.traceOn || !(decide (k = 2) || s.bilberry k) then s
    else
      let s := match count with
        | some c => s.updTrc (fun t => { t with bad := t.bad ++ [c / 8 * 8] })
        | none => s
      if k = 2 then
        ((s.incr F.TRC_ECC_UNCORR 0).irq 25).raise (0x34 * 64 + 1) (0x20087000 + addr) 0
      else
        let s := (s.incr F.BBC_ECC1_UNCORR k).put F.BBC_ERRADDR_VALID k true
        ((s.setFld F.BBC_ERRADDR_ADDR k (addr / 8)).irq (160 + k)).raise ((6 + k) * 4096) addr 0

/-- The partition whose records alone a restricted destination gets (R366). -/
def restrictedTo (k : Nat) : Option Nat := if k = 0 then none else some k

/-- The transfer that EP4 of instance `k` sends (R209): the one it has begun, or the next of the stream, which it then reads
into the half (R197, R362). -/
def State.ep4Fetch (s : State) (k one two : Nat) : Transfer × State :=
  match s.trc.placed.filter (fun x => decide (x.1 = k)) with
  | some x => (x.2, s)
  | none =>
    let x := s.nextTransfer (restrictedTo k) (s.epHalf k 4)
    (x, (s.traceFixed s.trc.rd one two).epWrite k 4 (s.mf.at k).ep4Half 0 x.bytes)

/-- EP4_TRANSFER_ACK (R209, R365): a transfer of whole records, at most one half; with `acked` its last packet is ACKed and the
export pointer advances past it, otherwise the transfer is still under way.  NAK while no stream is directed to it or no
record waits; records that are withheld (R366) and PAD records are no records that wait, and are passed over (DESIGN CHOICE,
log entry 161). The reads corrected `one` words of one bit and `two` of two (R362). -/
def execEp4TransferAck (k one two : Nat) (s : State) (acked : Bool := true) : Host.Outcome State Fault Refusal :=
  .next <|
    if k < 4 ∧ s.on F.MF_STAT_CONFIGURED k ∧ s.p33Is k .enabled then
      if (s.mf.at k).halts.contains 4 then s.updMf k (fun r => { r with answer := .stall })
      else if s.traceOn = false ∨ s.fld F.TRC_EXP_DEST 0 ≠ k + 1 then s.updMf k (fun r => { r with answer := .nak })
      else
        let (x, s) := s.ep4Fetch k one two
        if x.bytes = [] then (if x.next = s.trc.rd then s else s.exported x).updMf k (fun r => { r with answer := .nak })
        else
          let a := BusAnswer.data (s.mfToggle k 4) x.bytes
          let s := if acked then
              ((s.exported x).mfTurn k 4 x.bytes.length).updMf k (fun r => { r with ep4Half := 1 - r.ep4Half })
            else s.updTrc (fun t => { t with placed := some (k, x) })
          s.updMf k (fun r => { r with answer := a })
    else s

end Sys2Proof.Machine
end

