-- ==== Sys2Proof/Machine/Tat.lean ====
section
/-! DEFINITION. The timed action table: acceptance, launch, suppression, mask windows, reservations and the lifetime of
entries (R335 to R346). -/

namespace Sys2Proof.Machine

/-! ### Entries (R335) -/

/-- Word `i` of an entry. -/
def TatEntry.word (e : TatEntry) (i : Nat) : Nat := e.words.getD i 0

/-- The launch CT of an entry's words. -/
def tatCt (w : List Nat) : Nat := w.getD 0 0 + 2 ^ 32 * w.getD 1 0

/-- SYNCREQ. -/
def tatSyncReq (w : List Nat) : Nat := w.getD 3 0 / 256 % 4

/-- LATEOK. -/
def tatLateOk (w : List Nat) : Bool := (w.getD 3 0).testBit 10

/-- MASKW in ms. -/
def tatMaskW (w : List Nat) : Nat := w.getD 3 0 / 65536 % 256

/-- TAG. -/
def tatTag (w : List Nat) : Nat := w.getD 4 0 / 65536 % 65536

/-- The code is a port action (R339). -/
def portAction (c : Nat) : Bool := decide (1 ≤ c ∧ c ≤ 9) || decide (c = 0xE)

/-- The kinds that DEF adds (R339), as bits of MASKSEL (R343). -/
def defaultKinds (c : Nat) : Nat :=
  match c with
  | 1 | 5 => 2 ^ 3 + 2 ^ 6
  | 2 | 9 => 2 ^ 0
  | 7 => 2 ^ 3 + 2 ^ 5
  | _ => 0

/-- The fault kinds that an entry masks (R335, R343). -/
def tatKinds (w : List Nat) : Nat :=
  let sel := w.getD 4 0 % 2 ^ 11
  if (w.getD 4 0).testBit 15 then Nat.lor sel (defaultKinds (tatCode w)) else sel

/-- An event of kind `b` on port `p` is expected (R343). -/
def State.expected (s : State) (p b : Nat) : Bool :=
  s.tat.any (fun e => e.2.window.testBit (p - 1) && (tatKinds e.2.words).testBit b)

/-- Change entry `i`. -/
def State.updTat (s : State) (i : Nat) (f : TatEntry → TatEntry) : State := { s with tat := s.tat.upd i f }

/-- The ARMED entries, with their indexes. -/
def State.armed (s : State) : List (Nat × TatEntry) := s.tat.filter (fun e => decide (e.2.st = 1))

/-- Entry `a` launches before entry `b`: CT order, and acceptance order among equal CTs (R337, R338). -/
def tatBefore (a b : Nat × TatEntry) : Bool :=
  decide (tatCt a.2.words < tatCt b.2.words)
    || (decide (tatCt a.2.words = tatCt b.2.words) && decide (a.2.order < b.2.order))

/-- The entry of a list that launches first. -/
def tatFirst : List (Nat × TatEntry) → Option (Nat × TatEntry)
  | [] => none
  | e :: r => match tatFirst r with
    | some x => if tatBefore x e then some x else some e
    | none => some e

/-- TAT_RD0 to TAT_RD7 show the entry at RDSEL (R349). -/
def State.tatShow (s : State) : State :=
  let e := s.tat.at (s.fld F.TAT_RDSEL_INDEX 0)
  (s.each [0, 1, 2, 3, 4, 5, 6] (fun s i => s.setFld F.TAT_RD_WORD i (e.word i))).setFld F.TAT_RD_WORD 7
    (s.word7 (s.fld F.TAT_RDSEL_INDEX 0))

/-- TAT_STAT, GOV_RESV and the words shown follow the table. -/
def State.tatRefresh (s : State) : State :=
  let s := s.resvRefresh.govRefresh
  let s := (s.put F.TAT_STAT_EMPTY 0 s.armed.isEmpty).setFld F.TAT_STAT_USED 0 s.tat.length
  let s := s.setFld F.TAT_STAT_NEXT 0 (match tatFirst s.armed with | some e => e.1 | none => 0)
  s.tatShow

/-- An ACTION record of an entry (R415); the block code of TAT is 0x19 (log entry 11). -/
def State.logAction (s : State) (i outcome reason : Nat) (ports last : Nat) : State :=
  let w := (s.tat.at i).words
  s.logRec (blockId 0 0x19) 0x10
    (le 2 i ++ [tatCode w, outcome] ++ le 2 (tatTag w) ++ [reason, 0] ++ le 4 ports ++ le 4 last)

/-- Entry `i` becomes FREE. -/
def State.tatErase (s : State) (i : Nat) : State := ({ s with tat := s.tat.put i default }).tatRefresh

/-! ### Adding and cancelling (R336, R342, R345) -/

/-- LEAD as applied, in ticks (R349). -/
def State.lead (s : State) : Nat := 960 * max 20 (s.fld F.TAT_CFG_LEAD 0)

/-- The fitted ports of an entry's mask, ascending. -/
def State.tatPorts (s : State) (w : List Nat) : List Nat := (maskPorts (w.getD 2 0)).filter s.fitted

/-- What an entry reserves for each fitted port of its mask, in 10 mW (R339). -/
def State.tatShares (s : State) (w : List Nat) : List (Nat × Nat) :=
  let resw := w.getD 5 0 / 256 % 256
  match tatCode w with
  | 2 | 6 => (s.tatPorts w).map (fun p => (p, rpPower (s.rplvl p)))
  | 7 => if resw = 0 then [] else (s.tatPorts w).map (fun p => (p, 100 * resw))
  | _ => []

/-- A parameter is outside its range in R339. -/
def tatBadParam (w : List Nat) : Bool :=
  match tatCode w with
  | 7 => decide (240 < w.getD 5 0 / 256 % 256)
  | 0xD => decide (4 < w.getD 5 0 % 8)
  | _ => false

/-- With a CT added, more than 16 ARMED entries would have CTs within one interval of 19,200 ticks (R336). -/
def State.crowded (s : State) (ct : Nat) : Bool :=
  let cts := ct :: s.armed.map (fun e => tatCt e.2.words)
  cts.any (fun a => decide (16 < (cts.filter (fun b => decide (a ≤ b ∧ b < a + 19200))).length))

/-- The lowest index whose entry is FREE. -/
def State.tatFree (s : State) : Option Nat := (List.range 512).find? (fun i => decide ((s.tat.at i).st = 0))

/-- The result code of R336 for the words of a new entry, 0 for OK. -/
def State.tatCheck (s : State) (w : List Nat) : Nat :=
  let c := tatCode w
  let resv := ((s.tatShares w).map (·.2)).sum
  if !(portAction c || decide (0xA ≤ c ∧ c ≤ 0xD)) then 1
  else if tatBadParam w then 2
  else if tatCt w < s.ct + s.lead then 3
  else if s.tatFree = none then 4
  else if s.crowded (tatCt w) then 5
  else if resv ≠ 0 ∧ !(s.firmware && !s.on F.GOV_STAT_BRDOFF 0 && !s.on F.GOV_STAT_SHEDDING 0
      && decide (s.palloc + resv ≤ 100 * s.budget)) then 6
  else 0

/-- The bits of PARAM0 that action `c` names (R339). -/
def paramMask0 (c : Nat) : Nat :=
  match c with
  | 2 => 0x1FF
  | 7 | 0xE => 0xFF07
  | 8 => 0xFFFF00FF
  | 9 => 1
  | 0xC => 0xFFFFFFFF
  | 0xD => 0xFFFF0007
  | _ => 0

/-- Words 0 to 6 as stored: the bits that R335 and R339 name; reserved ones read 0 (R12). -/
def tatWords (w : List Nat) : List Nat :=
  let c := tatCode w
  [w.getD 0 0 % 2 ^ 32, w.getD 1 0 % 2 ^ 32, w.getD 2 0 % 2 ^ 32, Nat.land (w.getD 3 0) 0x00FF07FF,
    Nat.land (w.getD 4 0) 0xFFFF87FF, Nat.land (w.getD 5 0) (paramMask0 c), if c = 8 then w.getD 6 0 % 2 ^ 32 else 0]

/-- An ADD or CANCEL is complete: its result, the index (of a refused ADD 0: DESIGN CHOICE, log entry 166), the interrupt. -/
def State.tatResult (s : State) (r i : Nat) : State :=
  ((s.setFld F.TAT_RESULT_RESULT 0 r).setFld F.TAT_RESULT_INDEX 0 i).irq 155

/-- Add an entry (R336): the entry is ARMED with its reservation, or refused. -/
def State.tatAdd (s : State) (words : List Nat) (channel : Option Nat) : State :=
  let w := tatWords words
  let r := s.tatCheck w
  match s.tatFree with
  | some i =>
    if r = 0 then
      let sh := s.tatShares w
      let total := (sh.map (·.2)).sum
      let e : TatEntry := ⟨w, 1, total, sh, s.tatOrder, [], false, 0, 0, 0, false, channel⟩
      State.tatResult (State.tatRefresh { s with tat := s.tat.put i e, tatOrder := s.tatOrder + 1 }) 0 i
    else (s.incr F.TAT_CNT1_REFUSED 0).tatResult r 0
  | none => (s.incr F.TAT_CNT1_REFUSED 0).tatResult r 0

/-- A write of TAT_CMD starts an ADD or a CANCEL: TAT_STAT.BUSY reads 1 until it is done (R336, R349). -/
def State.tatBegin (s : State) (add : Bool) : State :=
  { s.put F.TAT_STAT_BUSY 0 true with tatOps := s.tatOps ++ [add] }

/-- The ADD or CANCEL that a write started, or that is written now, is done. -/
def State.tatDone (s : State) (add : Bool) : State :=
  let left := s.tatOps.erase add
  { s.put F.TAT_STAT_BUSY 0 (!left.isEmpty) with tatOps := left }

/-- TAT_ADD (R336): the words are TAT_NEW0 to TAT_NEW6. -/
def execTatAdd (s : State) : Host.Outcome State Fault Refusal :=
  .next ((s.tatDone true).tatAdd ((List.range 7).map (s.fld F.TAT_NEW_WORD)) none)

/-- The mask that names a list of ports. -/
def portMask (l : List Nat) : Nat := l.foldl (fun m p => Nat.lor m (2 ^ (p - 1))) 0

/-- The ports that an entry concerns in its records: the fitted ports of a port action's mask (R8, R415). -/
def State.tatMask (s : State) (w : List Nat) : Nat := if portAction (tatCode w) then portMask (s.tatPorts w) else 0

/-- Cancel entry `i` (R345). -/
def State.tatCancel (s : State) (i : Nat) : State :=
  let e := s.tat.at i
  if e.st = 1 ∧ s.ct + s.lead < tatCt e.words then
    (((s.logAction i 6 0 (s.tatMask e.words) 0).incr F.TAT_CNT1_CANCELS 0).tatErase i).tatResult 0 i
  else s.tatResult 7 i

/-- TAT_CANCEL (R345). -/
def execTatCancel (s : State) : Host.Outcome State Fault Refusal :=
  .next ((s.tatDone false).tatCancel (s.fld F.TAT_CMD_INDEX 0))

/-- ARMED entries are discarded and logged (R81, R345). -/
def State.tatDiscard (s : State) : State :=
  s.each (s.armed.map (·.1)) (fun s i => (s.logAction i 5 0 (s.tatMask (s.tat.at i).words) 0).tatErase i)

/-! ### Launching (R337, R338, R340, R341) -/

/-- CT as the last step left it; entries with an earlier CT were passed by the step (R341). -/
def State.passed (s : State) (e : Nat × TatEntry) : Bool :=
  decide (0 < s.chord.lastStep) && decide (tatCt e.2.words < s.chord.lastStepCt)

/-- An entry that the step passed with LATEOK = 0 takes no slot (R338). -/
def State.slotless (s : State) (e : Nat × TatEntry) : Bool := s.passed e && !tatLateOk e.2.words

/-- TAT_QUEUE_LOAD (R337, R338): entries due within 20 µs, into 16 slots. -/
def execTatQueueLoad (s : State) : Host.Outcome State Fault Refusal :=
  .next <|
    let due := s.armed.filter (fun e => !e.2.loaded && !s.slotless e && decide (tatCt e.2.words < s.ct + 19200))
    let room := 16 - (s.armed.filter (fun e => e.2.loaded)).length
    (List.range room).foldl (fun (x : State × List (Nat × TatEntry)) _ =>
      match tatFirst x.2 with
      | some e => (x.1.updTat e.1 (fun r => { r with loaded := true }), x.2.filter (fun a => decide (a.1 ≠ e.1)))
      | none => x) (s, due) |>.1

/-- The part's SYNC meets a SYNCREQ (R335, R341). -/
def State.syncMet (s : State) (req : Nat) : Bool :=
  match req with
  | 0 => true
  | 1 => decide (1 ≤ s.sync)
  | 2 => decide (s.sync = 2)
  | _ => decide (s.sync = 2) && (match s.chord.holdSince with
    | some h => !s.on F.CHORD_STAT_HOLDOVER 0 || decide (s.ct - h ≤ 960000)
    | none => true)

/-- Why a port action is suppressed on port `p` (R340, with the reasons of R415; R457 for an entry of a restricted
channel), 0 for not. -/
def State.suppressed (s : State) (e : TatEntry) (p : Nat) : Nat :=
  let w := e.words
  if s.on F.DPE_STATE_QUAR_FAULT p || (s.pwrIs p .latched && decide (s.fld F.PWR_PSTAT_CAUSE p = 10)) then 1
  else if s.dpeIs p .quarantined then 2
  else if !s.portsOn p then 6
  else if (match e.channel with | some ch => decide (3 ≤ ch ∧ ch ≤ 5 ∧ s.partOf p ≠ ch - 2) | none => false) then 6
  else match tatCode w with
    | 2 => if s.pwrIn p [.retryWait, .latched] then 4 else if s.on F.GOV_STAT_BRDOFF 0 then 5 else 0
    | 7 => if s.policyOn p then 0 else 6
    | 8 => if s.glitchBarred p (w.getD 5 0 % 4) then 6 else 0
    | 9 => if s.pwrIs p .sink && s.on F.TCPD_SINKCFG_MODE p then 0 else 6
    | 0xE => if s.migRefusal p (w.getD 5 0 % 4) = 0 then 0 else 6
    | _ => 0

/-- A load step selects ISET_A or ISET_B, from the next P boundary on (R270). -/
def State.stageSel (s : State) (p : Nat) (b : Bool) : State :=
  { s with staged := s.staged.filter (fun x => !(decide (x.field.id = F.TCPD_SINKCFG_SEL.id) && decide (x.index = p)))
      ++ [⟨F.TCPD_SINKCFG_SEL, p, bit01 b⟩] }

/-- What a suppressed action still does on the port: the counts and records of its block (R137, R168), and SEL of a load
step (R270). -/
def State.suppress (s : State) (w : List Nat) (p : Nat) : State :=
  let s := s.incr F.TAT_CNT0_SUPPR 0
  match tatCode w with
  | 8 => s.glitchSuppressed p (w.getD 5 0 % 4)
  | 9 => if s.live p then s.stageSel p ((w.getD 5 0).testBit 0) else s
  | 0xE =>
    let r := s.migRefusal p (w.getD 5 0 % 4)
    if r = 0 then s else s.migRefused p r
  | _ => s

/-- The share that entry `i` reserved for port `p` comes to the port's account (R342). -/
def State.giveCredit (s : State) (i p : Nat) : State :=
  match (s.tat.at i).shares.find? (fun e => e.1 == p) with
  | some e => s.updGov p (fun g => { g with credits := g.credits ++ [(i, e.2)] })
  | none => s

/-- Run `f` on port `p` and pay what its account grew by from the reservation (R219, R342). -/
def State.paid (s : State) (p : Nat) (f : State → State) : State :=
  let t := f s
  (t.spendCredit p (t.alloc p - s.alloc p)).govRefresh

/-- The CT before which a staggered VBUS on of entry words `w` begins no SOFTSTART on port `p`: its rank among the fitted
ports of the mask times STEP (R293, R339). -/
def State.staggerUntil (s : State) (w : List Nat) (p : Nat) : Nat :=
  if (w.getD 5 0).testBit 8 then s.ct + ((s.tatPorts w).filter (fun q => decide (q < p))).length * (w.getD 5 0 % 256) * 9600
  else 0

/-- Entry `i` acts on port `p` (R339), now. -/
def State.actNow (s : State) (i p : Nat) : State :=
  let w := (s.tat.at i).words
  let p0 := w.getD 5 0
  match tatCode w with
  | 1 => s.voffWrite p true
  | 2 => (s.giveCredit i p).paid p (fun s =>
      let s := (s.voffWrite p false).updPwr p (fun r => { r with notBefore := s.staggerUntil w p })
      if s.fld F.TCPD_CCSTAT_RPOUT p ≠ 0 && !s.contracted p then s.rpEvaluate p else s)
  | 3 => s.isolate p true
  | 4 => s.isolate p false
  | 5 => s.setCcen p false
  | 6 => (s.giveCredit i p).paid p (fun s => s.setCcen p true)
  | 7 =>
    let s := ((s.giveCredit i p).setFld F.TCPD_PDCFG_PROFILE p (p0 % 8)).govRefresh
    if s.amsOn p then
      ((s.updPd p (fun r => { r with capsDue := true })).incr F.TAT_CNT2_DEFERRED 0).logAction i 2 0 (2 ^ (p - 1)) 0
    else if s.sourceReady p then pdSettle p ((s.hush p).offerSent p true) else s
  | 8 => s.glitchStart p p0 (w.getD 6 0 % 2 ^ 24) (w.getD 6 0 / 2 ^ 24)
  | 9 => s.stageSel p (p0.testBit 0)
  | 0xE => s.migStart p (p0 % 4) (p0.testBit 2) (p0 / 256 % 256)
  | _ => s

/-- Entry `i` acts on port `p` (R339): a CC detach or a migration waits for the end of a mailbox command that runs on the
port (R140, R235; log entry 79). -/
def State.actOn (s : State) (i p : Nat) : State :=
  let c := tatCode (s.tat.at i).words
  if (decide (c = 5) || decide (c = 0xE)) && s.cmdPorts.contains p then s.updTat i (fun e => { e with later := e.later ++ [p] })
  else s.actNow i p

/-- The action that waited on port `p` for the end of a command is carried out, or suppressed by what stands now (R340). -/
def State.actLate (s : State) (i p : Nat) : State :=
  let e := s.tat.at i
  let s := s.updTat i (fun e => { e with later := e.later.filter (fun q => decide (q ≠ p)) })
  match s.suppressed e p with
  | 0 => (s.actNow i p).actuated p (tatCode e.words)
  | r => (s.suppress e.words p).logAction i 1 r (2 ^ (p - 1)) 0

/-- Every action that waited for the end of a mailbox command on its port acts (R140, R235). -/
def State.lateActions (s : State) : State :=
  s.tat.foldl (fun s e => s.each (e.2.later.filter (fun p => !s.cmdPorts.contains p)) (fun s p => s.actLate e.1 p)) s

/-- A whole entry is suppressed for a reason: no port is acted on and its reservation is released (R341, R342). -/
def State.tatSuppress (s : State) (i reason : Nat) : State :=
  let w := (s.tat.at i).words
  let l := if portAction (tatCode w) then s.tatPorts w else []
  let s := (s.add F.TAT_CNT0_SUPPR 0 l.length).logAction i 1 reason (portMask l) 0
  ((s.notice 4 (i + 512)).irq 154).tatErase i

/-- The part of an entry that is no port action (R339): trace start, stop and mark, an interrupt to a core. -/
def State.actOther (s : State) (i : Nat) : State :=
  let w := (s.tat.at i).words
  let p0 := w.getD 5 0
  match tatCode w with
  | 0xA => s.traceStart 1
  | 0xB => s.traceStop 1
  | 0xC => (s.traceMark i false (tatTag w) p0 0 0 0xC).markTriggers i p0
  | 0xD =>
    let c := p0 % 8
    ((s.setFld F.TAT_IRQVAL_INDEX c i).setFld F.TAT_IRQVAL_VALUE c (p0 / 65536 % 65536)).irq (149 + c)
  | _ => s

/-- The records of the suppressed ports, one for each reason that occurs (R340, R344). -/
def State.logSuppressed (s : State) (i : Nat) (l : List (Nat × Nat)) : State :=
  s.each [1, 2, 4, 5, 6] (fun s r =>
    let m := portMask ((l.filter (fun e => decide (e.2 = r))).map (·.1))
    if m = 0 then s else s.logAction i 1 r m 0)

/-- The effect of entry `i` on port `p` is still to come after the launch: a SOFTSTART, capabilities held by an AMS, an
action that waits for a command's end (R293, R340). -/
def State.awaits (s : State) (i p : Nat) : Bool :=
  match tatCode (s.tat.at i).words with
  | 2 => s.vbusRequest p && s.pwrIn p [.off, .discharge]
  | 7 => (s.pd.at p).capsDue
  | _ => (s.tat.at i).later.contains p

/-- The windows of launched entry `i` open on the ports where its effect has come about, and wait on the others (R343). -/
def State.openWindows (s : State) (i : Nat) (go : List Nat) : State :=
  s.updTat i (fun e =>
    if tatMaskW e.words = 0 then e
    else { e with
      window := portMask (go.filter (fun p => !s.awaits i p))
      awaited := portMask (go.filter (s.awaits i)) })

/-- Entry `i` launches, `late` ticks after its CT when late (R337 to R344). -/
def State.tatLaunch (s : State) (i : Nat) (late : Option Nat) : State :=
  let w := (s.tat.at i).words
  let c := tatCode w
  if !s.syncMet (tatSyncReq w) then s.tatSuppress i 3
  else if decide (0xA ≤ c ∧ c ≤ 0xC) && !s.traceOn then s.tatSuppress i 6
  else
    let ports := if portAction c then s.tatPorts w else []
    let judged := ports.map (fun p => (p, s.suppressed (s.tat.at i) p))
    let go : List Nat := (judged.filter (fun e => decide (e.2 = 0))).map (·.1)
    let no : List (Nat × Nat) := judged.filter (fun e => decide (e.2 ≠ 0))
    let mask := portMask go
    let supp := portMask (no.map Prod.fst)
    let noop := portAction c && ports.isEmpty
    let s := s.updTat i (fun e => { e with
      st := 2, ports := mask, held := e.shares.any (fun x => go.contains x.1) })
    let s := (s.each go (fun s p => s.actOn i p)).openWindows i go
    let s := s.each (no.map Prod.fst) (fun s p => s.suppress w p)
    let s := s.actOther i
    let s := (s.incr F.TAT_CNT0_LAUNCHES 0).when late.isSome (fun s => s.incr F.TAT_CNT2_LATE 0)
    let s := match late with
      | some n => if noop then s.logAction i 4 0 0 0 else s.logAction i 3 0 mask (min n 0xFFFFFFFF)
      | none => if noop then s.logAction i 4 0 0 0 else s.logAction i 0 0 mask supp
    let s := s.logSuppressed i no
    let s := if s.traceOn && s.on F.TAT_CFG_TRACEMARK 0 then
        s.traceMark i true (tatTag w) 0 mask supp c
      else s
    let s := s.notice 4 (i + 512 * bit01 (decide (mask = 0) && !no.isEmpty))
    (s.irq 154).tatRefresh

/-- TAT_LAUNCH (R337, R338): CT runs to the CT of the entry due first; one that CT has run past launches late. -/
def execTatLaunch (s : State) : Host.Outcome State Fault Refusal :=
  .next <|
    match tatFirst (s.armed.filter (fun e => !s.passed e)) with
    | none => s
    | some e =>
      let ct := tatCt e.2.words
      if s.ct ≤ ct then (s.advance (ct - s.ct)).tatLaunch e.1 none
      else s.tatLaunch e.1 (some (s.ct - ct))

/-- TAT_LATE_LAUNCH (R338, R341): the entries that the step passed with LATEOK = 0 are suppressed, and the first of the
others launches late, one D2D cycle of 4 ticks for each. -/
def execTatLateLaunch (s : State) : Host.Outcome State Fault Refusal :=
  .next <|
    let gone := (s.armed.filter s.slotless).map (·.1)
    let s := s.each gone (fun s i => s.tatSuppress i 0)
    match tatFirst (s.armed.filter s.passed) with
    | none => s
    | some e => (s.tatLaunch e.1 (some (s.ct - tatCt e.2.words))).advance 4

/-- MASK_WINDOW_END (R343): the window of entry `i` ends on port `p`. -/
def execMaskWindowEnd (i p : Nat) (s : State) : Host.Outcome State Fault Refusal :=
  .next (if (s.tat.at i).st = 2 ∧ 1 ≤ p then s.updTat i (fun e => { e with
      window := withBit e.window (p - 1) false, awaited := withBit e.awaited (p - 1) false }) else s)

/-- RESERVATION_RELEASE (R342): what launched entry `i` has not spent is released. -/
def execReservationRelease (i : Nat) (s : State) : Host.Outcome State Fault Refusal :=
  .next <|
    if (s.tat.at i).st = 2 then
      let s := s.updTat i (fun e => { e with held := false, resv := 0 })
      let s := s.each allPorts (fun s p => s.updGov p (fun g => { g with
        credits := g.credits.filter (fun e => decide (e.1 ≠ i)) }))
      s.tatRefresh
    else s

/-- ENTRY_FREE (R345). -/
def execEntryFree (i : Nat) (s : State) : Host.Outcome State Fault Refusal :=
  let e := s.tat.at i
  .next (if decide (e.st = 2) && decide (e.window = 0) && decide (e.awaited = 0) && !e.held && e.later.isEmpty then s.tatErase i else s)

end Sys2Proof.Machine
end

