-- ==== Sys2Proof/Machine/DomOps.lean ====
section
/-! DEFINITION. Power domains: what a domain wants, what switching it off and on does, and what system firmware restores
(R19 to R21, R33, R65, R66, R72, R104, R158, R163, R306, R485). -/

namespace Sys2Proof.Machine

/-! ### Configuration that system firmware restores (R104, R134) -/

/-- The fields, beside those of the software class, that firmware restores as configuration: assignments, isolation
requests, CC enables, off-causes, context allocations, offer profiles and sink selections. -/
def configExtra : List Nat :=
  [F.PART_ASSIGN_PORT0.id, F.PART_ASSIGN_PORT1.id, F.PART_ASSIGN_PORT2.id, F.PART_ASSIGN_PORT3.id,
    F.PART_ASSIGN_PORT4.id, F.PART_ASSIGN_PORT5.id, F.PART_ASSIGN_PORT6.id, F.PART_ASSIGN_PORT7.id,
    F.DPE_CTL_ISOLATE.id, F.TCPD_CCCFG_CCEN.id, F.PWR_PCTL_VOFF.id, F.TT_ALLOC_PMAX.id, F.TT_ALLOC_PRES.id,
    F.TT_ALLOC_NPBUF.id, F.TCPD_PDCFG_PROFILE.id, F.TCPD_SINKCFG_SEL.id]

/-- A field is configuration. -/
def isConfig (fid : Nat) : Bool :=
  match fieldOf fid with
  | some f => configExtra.contains fid || (f.access == .rw && f.cls == .software && !isHold fid)
  | none => false

/-- The pull-ups and connects, which steps 14 and 15 of the boot apply (R72, R134, R192). -/
def lateConfig (fid : Nat) : Bool := fid == F.PART_PCTL_PULLUP.id || fid == F.MF_CTL_CONNECT.id

/-- The configuration as it stands in domain `d` goes into firmware's copy; VOFF that the loss of PG_BRD set is no
configuration (R306). -/
def State.saveConfig (s : State) (d : Nat) : State :=
  let kept := s.fwCopy.filter (fun e => slotDom e.1.1 e.1.2 != d || (lateConfig e.1.1 && !s.power.broughtUp))
  let now := s.regs.filter (fun e => slotDom e.1.1 e.1.2 == d && isConfig e.1.1
    && !(e.1.1 == F.PWR_PCTL_VOFF.id && s.bit F.GOV_BRDOFF_PORTS 0 (e.1.2 - 1)))
  { s with fwCopy := now.foldl (fun l e => place slotLt e.1 e.2 l) kept }

/-- Firmware writes its copy back into domain `d`. -/
def State.restoreConfig (s : State) (d : Nat) : State :=
  (s.fwCopy.filter (fun e => slotDom e.1.1 e.1.2 == d && (!lateConfig e.1.1 || s.power.broughtUp))).foldl
    (fun s e => match fieldOf e.1.1 with
      | some f => if s.absentSlot f e.1.2 then s else s.setFld f e.1.2 e.2
      | none => s) s

/-! ### Requests (R65, R66, R485) -/

/-- Domain `d` is on and switches off. -/
def State.domLeaving (s : State) (d : Nat) : Bool := s.domOn d && s.domChanging d

/-- Domain `d` is to be on: requested, fitted, its parent on and staying, and not held off by throttle stage 2 (R65 to
R67). -/
def State.domWant (s : State) (d : Nat) : Bool :=
  s.domRequested d && s.domFitted d && s.domOn (domParent d) && !s.domLeaving (domParent d)
    && !(decide (d = Dom.trace) && decide (s.fld F.PMU_CLKSTAT_THROTTLE 0 = 2))

/-- A running capture stops without a STOP record (R357). -/
def State.traceHalt (s : State) : State :=
  if s.capturing then ((s.setFld F.TRC_STAT_STATE 0 4).notice 5 2).irq 158 else s

/-- Partition `k` detaches from its host as FABRIC switches off or the part resets (R158). -/
def State.partDetach (s : State) (k : Nat) : State :=
  if s.on F.PART_PSTAT_HOST k || s.on F.PART_PSTAT_ATTACHED k then
    ((s.put F.PART_PSTAT_HOST k false).put F.PART_PSTAT_ATTACHED k false).upstreamEvent k true
  else s

/-- The output of port `p` goes off before its domain does (R33). -/
def State.portLeaves (s : State) (p : Nat) : State :=
  if s.live p then ((s.contractEnd p).sinkOpen p).pwrUpdate p else s

/-- What the switch-off of domain `d` does first (R33, R158, R357). -/
def State.domLeave (s : State) (d : Nat) : State :=
  if d = Dom.fabric then s.each [0, 1, 2, 3] State.partDetach
  else if d = Dom.trace then s.traceHalt
  else if 7 ≤ d then s.each (portsOf (d - 7)) State.portLeaves
  else s

/-- Domain `d` starts to change where its request or its parent asks for it (R65, R66). -/
def State.domTurn (s : State) (d : Nat) : State :=
  if s.domChanging d || s.domWant d == s.domOn d then s
  else
    let s := s.putBit F.PMU_DOMSTAT_CHANGING 0 d true
    if s.domOn d then s.domLeave d else s

/-- Domain `d` and its children follow the requests. -/
def State.domFollow (s : State) (d : Nat) : State := (s.domTurn d).each (domChildren d) State.domTurn

/-- Every domain follows the requests. -/
def State.domsFollow (s : State) : State := s.each [2, 3, 4, 5, 6, 7, 8, 9, 10] State.domFollow

/-! ### Switched off (R65, R104, R485) -/

/-- Domain `d` may read off (R485). -/
def State.domMayEnd (s : State) (d : Nat) : Bool :=
  (domChildren d).all (fun c => !s.domOn c && !s.domChanging c)
    && (decide (d < 7) || (portsOf (d - 7)).all (fun p =>
      !s.pwrIn p (.sink :: sourcing) && (s.vsafe0 p || (s.pwr.at p).dischOver)))

/-- The registers of domain `d` lose their values, and its snapshots are discarded (R104, R110). -/
def State.clearDom (s : State) (d : Nat) : State :=
  { s with
    regs := s.regs.filter (fun e => slotDom e.1.1 e.1.2 != d)
    staged := s.staged.filter (fun x => slotDom x.field.id x.index != d)
    snaps := s.snaps.filter (fun e => !(decide (d = Dom.trace) && decide (e.1 = 3)) && !(decide (7 ≤ d) && decide (e.1 + 3 = d))) }

/-- The D2D link of die `d` takes a state; DIE_STAT.D2DUP follows on Currants and Sloe (R120, R121). -/
def State.setD2d (s : State) (d st : Nat) : State :=
  let s := s.setFld F.D2D_LSTAT_STATE d st
  if 1 ≤ d ∧ d ≤ 5 then s.put F.DIE_STAT_D2DUP (d - 1) (decide (st = 3)) else s

/-- The D2D links of the dies of domain `d`, by fitted die. -/
def State.domLinks (s : State) (d : Nat) : List Nat :=
  if d = Dom.uplink then (if s.sloe then [5] else [])
  else if d = Dom.trace then [0, 1].filterMap (fun k => if s.bilberry k then some (6 + k) else none)
  else if 8 ≤ d then (if s.currantFitted (d - 7) then [d - 6] else [])
  else []

/-- What is left of port `p` when its domain is off: nothing on the Currant, no account, and an engine that is
powered-off unless it is quarantined (R21, R104, R147, R163); a migration goes on, or is complete where the port has
arrived (R141); what timed actions reserved for the port is released (R21). -/
def State.portGone (s : State) (p : Nat) : State :=
  let s := { s with pwr := s.pwr.put p default, cc := s.cc.put p default, pd := s.pd.put p default, gov := s.gov.put p default }
  let s := (s.putBit F.GOV_BRDOFF_PORTS 0 (p - 1) false).shareGone p
  if s.domOn Dom.fabric && s.fitted p then
    let s := s.resetCut p
    let s := if s.on F.DPE_CTL_QUAR p then s.refresh p else s.enterPoweredOff p
    if (s.migs.at p).active && decide (4 ≤ (s.migs.at p).step) then s.migDone p else s
  else s

/-- Whether VBUS stands at each U port is a fact of the outside, which no reset and no domain changes. -/
def keptParts (t : Tbl Partition) : Tbl Partition :=
  (List.range 4).foldl (fun l k => l.put k { (default : Partition) with hostVbus := (t.at k).hostVbus }) []

/-- The rest of what domain `d` loses (R65). -/
def State.domGone (s : State) (d : Nat) : State :=
  if d = Dom.fabric then
    let s := { s with
      parts := keptParts s.parts
      migs := [], dpe := [], pool := default, tt := []
      mf := (List.range 4).foldl (fun t k => t.put k (s.mf.at k).fabricOff) [] }
    s.each allPorts (fun s p =>
      if s.live p then (s.put F.DSW_PSTAT_SW p false).put F.DSW_PSTAT_STBUSY p false else s)
  else if d = Dom.service then
    let s := s.each [1, 2, 3, 4] (fun s c =>
      ((s.put F.IC_CORECTL_RESET c true).put F.IC_CORECTL_RUNNING c false).updCore c (fun r => { r with
        mie := false, mpie := false, mepc := 0, mcause := 0, traps := [], levels := [], stage := .off }))
    let s := s.each [1, 2, 3, 4] (fun s c => (s.setFld F.IC_LVL_CURLVL c 0).levelShow c)
    let s := { s with mem := s.mem.filter (fun e => decide (e.1 < tcmAddr 1 0) || decide (tcmAddr 5 0 ≤ e.1)) }
    s.each [1, 2, 3, 4] State.policyStops
  else if d = Dom.chord then
    let s := s.each [0, 1, 2, 3, 4, 5] (fun s l =>
      let s := if s.linkState l = 0 then s else (s.setLink l 0).updLink l (fun _ => default)
      let s := ((s.setFld F.CHORD_LSTAT_PEERADDR l 0).setFld F.CHORD_LSTAT_PEERDEPTH l 0).setFld F.CHORD_LSTAT_PEERSYNC l 0
      ((s.setFld F.CHORD_LSTAT_REFUSE l 0).setFld F.CHORD_LRTT_VALUE l 0).setFld F.CHORD_LOFFS_VALUE l 0)
    let s := s.updChord (fun c => { c with active := false, locked := false, slew := 0, closed := [], ppsCt := none })
    if !s.apex && decide (s.sync = 2) then s.setSync 1 else s
  else if d = Dom.trace then
    let s := { s with trc := default }
    { s with mem := s.mem.filter (fun e => decide (e.1 < bilberryAddr 0)) }
  else if d = Dom.uplink then
    let s := { s with cc := [34, 35, 36].foldl (fun t p => t.put p default) s.cc
                      pd := [34, 35, 36].foldl (fun t p => t.put p default) s.pd }
    if s.domOn Dom.fabric then s.each [1, 2, 3] State.presence else s
  else if 7 ≤ d then (s.each (portsOf (d - 7)) State.portGone).tatRefresh
  else s

/-- A change of domain `d` is complete: its bits, interrupt source 15 and its SYSTEM record (R384, R415). -/
def State.domSettle (s : State) (d : Nat) (on : Bool) : State :=
  let since : List (Nat × Nat) := s.power.onSince.filter (fun e => decide (e.1 ≠ d))
  let s := { s with power := { s.power with onSince := if on then (d, s.ct) :: since else since } }
  let s := (s.putBit F.PMU_DOMSTAT_ON 0 d on).putBit F.PMU_DOMSTAT_CHANGING 0 d false
  (s.irq 15).logSystem 3 (le 4 (s.fld F.PMU_DOMSTAT_ON 0))

/-- Domain `d` reads off (R485); a request that came meanwhile starts its change back (R66). -/
def State.domEnd (s : State) (d : Nat) : State :=
  let s := if s.firmware then s.saveConfig d else s
  let s := (s.clearDom d).domSettle d false
  let s := s.domGone d
  let s := s.each (s.domLinks d) (fun s l => s.setFld F.D2D_LSTAT_STATE l 1)
  s.domFollow d

/-! ### Switched on (R65, R104, R306) -/

/-- Firmware loads the thermal, RON and NTC fields of port `p` from the shadow (R296, R420, R421). -/
def State.calPort (s : State) (p : Nat) : State :=
  if s.on F.CAL_STAT_LOADED 0 then
    let o := 0x20 + (p - 1) * 0x20
    let s := s.setFld F.PWR_THCFG_RON p (s.calByte (o + 0x0C))
    let s := (s.setFld F.PWR_THP0_RJC p (s.calHalf (o + 0x0E))).setFld F.PWR_THP0_RCA p (s.calHalf (o + 0x10))
    let s := (s.setFld F.PWR_THP1_TAUJ p (s.calHalf (o + 0x12))).setFld F.PWR_THP1_TAUC p (s.calHalf (o + 0x14))
    (s.setFld F.PWR_NTC_B p (s.calHalf (o + 0x16))).setFld F.PWR_NTC_RNOM p (s.calHalf (o + 0x18))
  else s

/-- Port `p` starts with its domain (R72, R104, R163, R244, R306). -/
def State.portStarts (s : State) (p : Nat) : State :=
  if s.live p then
    let s := s.updPwr p (fun r => { r with
      vset := 500, setpoint := 5000, started := false, d2dOff := s.power.d2dLong.contains (currant p + 1) })
    let s := (s.calPort p).setFld F.PWR_PSTAT_RETRYLEFT p (s.fld F.PWR_RETRY_RETRY p)
    let s := s.put F.DSW_PSTAT_QUAR p (s.on F.DPE_CTL_QUAR p)
    let s := if s.on F.DSW_PSTAT_QUAR p then s.putBit F.TCPD_CCSTAT_DISCAUSE p 1 true else s
    let s := (s.put F.TCPD_PDSTAT_FEED48 p (s.on F.GOV_STAT_FEED48 0)).put F.TCPD_PDSTAT_HOLD p (!s.policyRuns p)
    let s := if s.on F.GOV_STAT_BRDOFF 0 then s.brdoffTake [p] else s
    let s := s.levels p
    let s := if s.on F.TCPD_CCCFG_CCEN p then s.ccEnableCause p 0 else s
    if s.domOn Dom.fabric then (s.isoUpdate p).tryPowerUp p else s
  else s

/-- FABRIC is on again (R104, R127, R155, R163, R176, R199). -/
def State.fabricStarts (s : State) : State :=
  let s := s.put F.PART_PSTAT_DBOP 0 (s.on F.PMU_RAILSTAT_DB_ACTIVE 0)
  let s := (s.each ([0, 1, 2, 3].filter s.hasUpstream) State.descCheck).localPower
  let s := s.each allPorts (fun s p =>
    if s.fitted p then
      let s := s.ttRefresh p
      if s.portInFault p 1 then s.quarantine p true
      else if s.live p && s.on F.DSW_PSTAT_QUAR p then (s.put F.DPE_CTL_QUAR p true).setDpe p .quarantined
      else s.isoUpdate p
    else s)
  s.each [0, 1, 2, 3] State.presence

/-- What domain `d` starts with. -/
def State.domStarts (s : State) (d : Nat) : State :=
  let s := s.each (s.domLinks d) (fun s l => s.setD2d l 2)
  if d = Dom.fabric then s.fabricStarts
  else if d = Dom.trace then
    let n := ([0, 1].filter s.bilberry)
    (s.each n (fun s k => s.put F.BBC_STAT_READY k true)).setFld F.TRC_STAT_MEMSIZE 0 n.length
  else if d = Dom.uplink then
    s.each [34, 35, 36] (fun s p => s.setFld F.TCPD_CCSTAT_STATE p Cc.unattachedSnk.code)
  else if 7 ≤ d then (s.each (portsOf (d - 7)) State.portStarts).govRefresh
  else s

/-- Steps 14 and 15 of the boot (R72, R134, R192): once FABRIC and the requested PORTS domains are on, firmware sets
the connects and pull-ups that its configuration marks; in dead-battery operation those of P0 alone (R77), and the boot
ROM those of P0 for an image over U0 (R449). -/
def State.bringUp (s : State) : State :=
  if s.serves && !s.power.broughtUp && s.domOn Dom.fabric
      && (s.power.portsAsked || s.on F.PMU_RAILSTAT_DB_ACTIVE 0 || s.romUsb)
      && ([7, 8, 9, 10].all (fun d => s.domOn d || !s.domRequested d || !s.domFitted d)) then
    let s := { s with power := { s.power with broughtUp := true } }
    let l := s.fwCopy.filter (fun e => lateConfig e.1.1
      && (!s.on F.PMU_RAILSTAT_DB_ACTIVE 0 || decide (e.1.2 = 0)))
    let s := l.foldl (fun s e => match fieldOf e.1.1 with
      | some f => if s.absentSlot f e.1.2 then s else s.setFld f e.1.2 e.2
      | none => s) s
    s.each ([0, 1, 2, 3].filter s.hasUpstream) (fun s k => (s.p33Update k false).presence k)
  else s

/-- Domain `d` reads on (R65, R104): its registers start at their reset values, and its children whose requests stand
start to change. -/
def State.domBegin (s : State) (d : Nat) : State :=
  let s := (s.clearDom d).domSettle d true
  let s := if s.serves then s.restoreConfig d else s
  ((s.domStarts d).domFollow d).bringUp

end Sys2Proof.Machine
end

