-- ==== Sys2Proof/Machine/MbxOps.lean ====
section
/-! DEFINITION. Mailbox frames, their checks and responses, and what every mailbox command shares (R429 to R445). -/

namespace Sys2Proof.Machine

/-! ### Statuses (R440) -/

/-- OK. -/
def Status.ok : Nat := 0
/-- BUSY. -/
def Status.busy : Nat := 1
/-- WAIT. -/
def Status.wait : Nat := 2
/-- BAD_CODE. -/
def Status.badCode : Nat := 0x10
/-- BAD_LEN. -/
def Status.badLen : Nat := 0x11
/-- BAD_ARG. -/
def Status.badArg : Nat := 0x12
/-- DENIED. -/
def Status.denied : Nat := 0x20
/-- STATE. -/
def Status.state : Nat := 0x30
/-- UNIT_ABSENT. -/
def Status.unitAbsent : Nat := 0x40
/-- TIMEOUT. -/
def Status.timeout : Nat := 0x41
/-- HW_FAULT. -/
def Status.hwFault : Nat := 0x50

/-! ### Frames (R436 to R438) -/

/-- One step of the CRC of R438. -/
def crcBit (c : Nat) : Nat := if c.testBit 15 then Nat.xor (2 * c % 65536) 0x1021 else 2 * c % 65536

/-- The CRC-16 of R438 over bytes, from a starting value. -/
def crc16 : List Nat → Nat → Nat
  | [], c => c
  | b :: r, c =>
    let x := Nat.xor c (b % 256 * 256)
    crc16 r (crcBit (crcBit (crcBit (crcBit (crcBit (crcBit (crcBit (crcBit x))))))))

/-- A header field of two bytes. -/
def half (b : List Nat) (o : Nat) : Nat := ofLe ((b.drop o).take 2)

/-- A field of four bytes. -/
def word32 (b : List Nat) (o : Nat) : Nat := ofLe ((b.drop o).take 4)

/-- A field of one byte. -/
def byteAt (b : List Nat) (o : Nat) : Nat := b.getD o 0

/-- LEN of a frame's bytes. -/
def rawLen (b : List Nat) : Nat := half b 4

/-- The frame that bytes spell (R436). -/
def Frame.parse (b : List Nat) : Frame :=
  { code := half b 0, seq := half b 2, flags := half b 6, target := half b 8, status := half b 10, retry := half b 12,
    payload := (b.drop 16).take (rawLen b) }

/-- The CRC of a frame's bytes is right (R438). -/
def crcGood (b : List Nat) : Bool := decide (crc16 ((b.drop 16).take (rawLen b)) (crc16 (b.take 14) 0xFFFF) = half b 14)

/-- The bytes of a frame, with its CRC (R436, R438). -/
def Frame.bytes (f : Frame) : List Nat :=
  let h := le 2 f.code ++ le 2 f.seq ++ le 2 f.payload.length ++ le 2 f.flags ++ le 2 f.target ++ le 2 f.status ++ le 2 f.retry
  h ++ le 2 (crc16 f.payload (crc16 h 0xFFFF)) ++ f.payload

/-- OPT of FLAGS (R437). -/
def Frame.opt (f : Frame) : Nat := f.flags / 256 % 256

/-- MODE of FLAGS. -/
def Frame.mode (f : Frame) : Nat := f.flags / 2 % 4

/-- SELF of FLAGS. -/
def Frame.isSelf (f : Frame) : Bool := f.flags.testBit 4

/-- The response to a frame from this unit (R436, R437): RESP is 1, and neither MERGED nor bit 7 comes back. -/
def State.reply (s : State) (f : Frame) (status retry : Nat) (payload : List Nat) : Frame :=
  ⟨f.code, f.seq, withBit (withBit (withBit f.flags 0 true) 6 false) 7 false, s.fld F.CHORD_STAT_ADDR 0, status, if status = Status.wait then retry else 0,
    payload⟩

/-! ### Channels (R429, R430) -/

/-- Change a channel. -/
def State.updCh (s : State) (ch : Nat) (f : Channel → Channel) : State := { s with mbx := s.mbx.upd ch f }

/-- The index of a channel's registers: the local mailboxes share those of channel 7 (R466). -/
def chReg (ch : Nat) : Nat := min 7 ch

/-- The core of a local channel. -/
def localCore (ch : Nat) : Nat := ch - 6

/-- The instance of a management function channel. -/
def mfChannel (ch : Nat) : Bool := decide (2 ≤ ch ∧ ch ≤ 5)

/-- A channel exists (R429). -/
def State.chExists (s : State) (ch : Nat) : Bool :=
  if ch ≤ 1 then decide (ch = s.hostChannel) else decide (ch ≤ 10)

/-- The frames that a channel holds and has not started. -/
def State.queued (s : State) (ch : Nat) : List (List Nat) :=
  if mfChannel ch then (s.mf.at (ch - 2)).frames else (s.mbx.at ch).frames

/-- The response space of a channel has room (R429, R430). -/
def State.roomToAnswer (s : State) (ch : Nat) : Bool :=
  if mfChannel ch then (s.mf.at (ch - 2)).waiting.isEmpty && decide ((s.mf.at (ch - 2)).responses.length < s.epHalves (ch - 2) 2)
  else if ch = 6 then true
  else if ch ≤ 1 then (s.mbx.at ch).finished.isEmpty && decide ((s.mbx.at ch).responses.length < 4)
  else (s.mbx.at ch).finished.isEmpty && !s.on F.MBX_LCTL_RSPREADY (localCore ch)

/-- The status registers of a channel and of the active target follow (R466, R467). -/
def State.chRefresh (s : State) (ch : Nat) : State :=
  let r := chReg ch
  let n := if mfChannel ch then (s.mf.at (ch - 2)).responses.length
    else if 7 ≤ ch then ([1, 2, 3, 4].filter (s.on F.MBX_LCTL_RSPREADY)).length else (s.mbx.at ch).responses.length
  let inq := if 7 ≤ ch then ([7, 8, 9, 10].map (fun c => (s.queued c).length)).sum else (s.queued ch).length
  let busy := if 7 ≤ ch then [7, 8, 9, 10].any (fun c => (s.mbx.at c).running.isSome) else (s.mbx.at ch).running.isSome
  let s := ((s.setFld F.MBX_CHSTAT_RESPQ r n).setFld F.MBX_CHSTAT_INQ r inq).put F.MBX_CHSTAT_EXEC r busy
  let s := s.setFld F.MBX_CHORDQ_OUTSTANDING 0 s.chord.sent.length
  if ch ≤ 1 then ((s.setFld F.TGT_STAT_RESPQ ch n).setFld F.TGT_STAT_INFREE ch (4 - inq)).bcRefresh else s

/-- Finished responses move into the response space of channel 0 or 1. -/
def State.chFill (s : State) (ch : Nat) : State :=
  s.updCh ch (fun c =>
    let n := 4 - c.responses.length
    { c with responses := c.responses ++ c.finished.take n, finished := c.finished.drop n })

/-- A response of a local mailbox is written to the response area of its core's TCM (R435); one that a SERVICE_CORE reset
overtook is discarded. -/
def State.localPlace (s : State) (ch : Nat) (f : Frame) : State :=
  let c := localCore ch
  if (s.mbx.at ch).orphan then (s.put F.MBX_LCTL_BUSY c false).updCh ch (fun r => { r with orphan := false })
  else if s.on F.MBX_LCTL_BUSY c then
    let s := s.writeBytes (tcmAddr c (4 * s.fld F.MBX_LRSP_OFFSET c)) f.bytes
    ((s.put F.MBX_LCTL_BUSY c false).put F.MBX_LCTL_RSPREADY c true).irq (143 + c)
  else s

/-! ### Chord responses (R333, R334, R445) -/

/-- A unit's answer enters a merge (R334, R445): its address, status and RETRY. -/
def ChordMerge.fold (m : ChordMerge) (addr status retry : Nat) : ChordMerge :=
  let m := { m with reached := m.reached + 1 }
  if status = 0 then { m with oks := m.oks + 1 }
  else
    let first := m.others = 0 || decide (addr < m.lowAddr)
    let m := { m with others := m.others + 1 }
    if first then { m with lowAddr := addr, lowStatus := status, lowRetry := retry } else m

/-- Change the merge of frame ID `id`. -/
def State.updMerge (s : State) (id : Nat) (f : ChordMerge → ChordMerge) : State :=
  s.updChord (fun c => { c with merges := c.merges.map (fun m => if m.id = id then f m else m) })

/-- The command of a Chord frame is answered by this unit (R333, R334). -/
def State.chordPlace (s : State) (f : Frame) : State :=
  match s.chord.inbox with
  | [] => s
  | i :: rest =>
    let s := s.updChord (fun c => { c with inbox := rest })
    if i.mode = 0 then s.chordSend (.response i.link i.id f)
    else s.updMerge i.id (fun m => { (m.fold f.target f.status f.retry) with ownDone := true })

/-- A response is placed on its channel, or waits for space (R430). -/
def State.place (s : State) (ch : Nat) (f : Frame) : State :=
  let s := if f.status = Status.denied then s.incr F.MBX_CHCNT1_DENIED (chReg ch) else s
  let s := if mfChannel ch then s.ep2Place (ch - 2) f.bytes
    else if ch = 6 then s.chordPlace f
    else if 7 ≤ ch then s.localPlace ch f
    else (s.updCh ch (fun c => { c with finished := c.finished ++ [f] })).chFill ch
  s.chRefresh ch

/-- A frame is answered without running (R439). -/
def State.answerFrame (s : State) (ch : Nat) (f : Frame) (status : Nat) : State := s.place ch (s.reply f status 0 [])

/-! ### Rights and lengths (R439, R442) -/

/-- The channel carries owner rights (R429). -/
def ownerChannel (ch : Nat) : Bool := decide (ch ≤ 2) || decide (ch = 6)

/-- The codes of the Rights column (R442), and those that a row states by itself. -/
inductive Rights where
  | a | o | p | b
  /-- Owners and restricted channels, what the restricted may do being judged at check 7. -/
  | noLocal
  /-- Every channel, what others than owners may do being judged at check 7. -/
  | later
deriving DecidableEq, Repr

/-- Rights and required length of a command (R446 to R463), for its OPT and payload; none where CODE is not defined. -/
def codeInfo (code opt : Nat) (pl : List Nat) : Option (Rights × Bool) :=
  let n := pl.length
  match code with
  | 0x0101 => some (.a, n == 0)
  | 0x0102 => some (.o, n == 0)
  | 0x0103 => some (.o, n == 7)
  | 0x0104 => some (.o, n == 4)
  | 0x0105 => some (.noLocal, n == 6)
  | 0x0106 => some (.b, n == 2)
  | 0x0107 => some (.o, n == 1)
  | 0x0108 => some (.o, match opt % 4 with
    | 0 => n == 8
    | 1 => decide (8 ≤ n ∧ n % 4 = 0)
    | _ => n == 0)
  | 0x0109 => some (.o, n == 4)
  | 0x0201 => some (.p, n == 4)
  | 0x0202 => some (.noLocal, n == 5)
  | 0x0203 => some (.noLocal, n == 7)
  | 0x0204 => some (.p, n == 4)
  | 0x0205 => some (.p, n == 4)
  | 0x0206 => some (.p, n == 5)
  | 0x0207 => some (.p, n == if opt.testBit 0 then 4 else 5)
  | 0x0208 => some (.p, n == 13)
  | 0x0209 => some (.p, n == 5)
  | 0x020A => some (.p, n == 4)
  | 0x020B => some (.p, n == 13)
  | 0x020C => some (.p, n == 7)
  | 0x020D => some (.o, decide (4 ≤ n ∧ n ≤ 128 ∧ n % 4 = 0))
  | 0x0301 => some (.p, n == 4)
  | 0x0302 => some (.p, n == 12)
  | 0x0303 => some (if opt.testBit 0 then .o else .a, n == if opt.testBit 0 then 4 + 4 * byteAt pl 1 else 1)
  | 0x0304 => some (.p, n == 2)
  | 0x0305 => some (.p, n == 2)
  | 0x0306 => some (.p, n == 8)
  | 0x0307 => some (.o, n == 3)
  | 0x0401 => some (.a, n == 0)
  | 0x0402 => some (.o, n == 12)
  | 0x0403 => some (.o, n == 8)
  | 0x0404 => some (.o, n == 20)
  | 0x0405 => some (.o, n == 2)
  | 0x0406 => some (.p, n == 4)
  | 0x0501 => some (.a, n == 0)
  | 0x0502 => some (.o, n == 8)
  | 0x0503 => some (.p, n == 28)
  | 0x0504 => some (.p, n == 2)
  | 0x0505 => some (.a, n == 4)
  | 0x0506 => some (.a, n == 2)
  | 0x0601 => some (.a, n == 0)
  | 0x0602 => some (.o, n == 60)
  | 0x0603 => some (.later, n == 8 || (n == 1 && decide (byteAt pl 0 ≠ 4)))
  | 0x0604 => some (.o, n == 4)
  | 0x0701 => some (.a, n == if opt.testBit 0 then 0 else 2)
  | 0x0702 => some (.o, n == 8)
  | 0x0703 => some (.p, decide (4 ≤ n) && n == 4 + 2 * half pl 0)
  | 0x0704 => some (.o, n == 3)
  | 0x0705 => some (.o, n == 0)
  | 0x0706 => some (.a, n == 0)
  | 0x0707 => some (.a, n == 5)
  | 0x0801 => some (.o, n == 0)
  | 0x0802 => some (.o, if opt.testBit 1 then n == 0 else n == if opt.testBit 0 then 176 else 1024)
  | 0x0901 => some (.o, n == 6)
  | 0x0902 => some (.o, decide (4 ≤ n) && n == 4 + 8 * half pl 0)
  | 0x0A01 => some (.a, n == 0)
  | 0x0A02 => some (.o, n == 28)
  | 0x0A03 => some (.o, n == 8)
  | 0x0A04 => some (.o, n == 4)
  | _ => none

/-- Rights admit a channel, judged without the payload (check 5 of R439). -/
def Rights.admits (r : Rights) (ch : Nat) : Bool :=
  match r with
  | .a | .p | .later => true
  | .o => ownerChannel ch
  | .b => decide (ch ≤ 1)
  | .noLocal => decide (ch ≤ 6)

/-- Port `p` is the channel's own (R142, R143, R442). -/
def State.ownPort (s : State) (ch p : Nat) : Bool :=
  if ownerChannel ch then true
  else if ch ≤ 5 then decide (s.partOf p = ch - 2) && !(s.migs.at p).active
  else decide (currant p + 1 = localCore ch)

/-- The status with which a command completes that finds port `p` no longer its channel's own (R143), 0 while it is: STATE
while the port migrates, DENIED otherwise. -/
def State.rightsLost (s : State) (ch p : Nat) : Nat :=
  if s.ownPort ch p then 0 else if (s.migs.at p).active then Status.state else Status.denied

/-- The ports that a command names for the port lock (R430). -/
def framePorts (f : Frame) : List Nat :=
  if (0x0201 ≤ f.code ∧ f.code ≤ 0x020C) ∨ f.code = 0x0301 ∨ f.code = 0x0302 ∨ f.code = 0x0306 ∨ f.code = 0x0404
      ∨ f.code = 0x0406 then maskPorts (word32 f.payload 0)
  else if f.code = 0x0304 ∨ f.code = 0x0305 then [byteAt f.payload 0]
  else if f.code = 0x020D then (List.range (f.payload.length / 4)).map (fun i => byteAt f.payload (4 * i))
  else []

/-! ### Running a command (R430, R439, R441) -/

/-- What a command answers: status, RETRY and payload. -/
structure Reply where
  status : Nat
  retry : Nat
  payload : List Nat
deriving DecidableEq, Repr

/-- A status alone. -/
def Reply.of (status : Nat) : Reply := ⟨status, 0, []⟩

/-- OK with a payload. -/
def Reply.give (payload : List Nat) : Reply := ⟨0, 0, payload⟩

/-- The running command of channel `ch` completes (R430), and the timed actions that waited for its end act (R140, R235). -/
def State.finish (s : State) (ch : Nat) (f : Frame) (r : Reply) : State :=
  let s := (s.updCh ch (fun c => { c with running := none, ports := [], stage := 0 })).lateActions
  s.place ch (s.reply f r.status r.retry (if r.status = 0 ∨ r.payload ≠ [] then r.payload else []))

/-- Run `run` when channel `ch` runs a command of this code and form; without a reply the command goes on. -/
def State.command (s : State) (ch code : Nat) (form : Frame → Bool) (run : State → Frame → State × Option Reply) : State :=
  match (s.mbx.at ch).running with
  | some f =>
    if f.code = code ∧ form f then
      let x := run s f
      match x.2 with
      | some r => x.1.finish ch f r
      | none => x.1
    else s
  | none => s

/-- Every form of a command. -/
def anyForm (_ : Frame) : Bool := true

/-- The rights and arguments of a port mask (checks 7 of R439, R7, R442): the status of a failure, 0 for none. -/
def State.maskFault (s : State) (ch m : Nat) : Nat :=
  let l := maskPorts m
  if l.any (fun p => s.fitted p && !s.ownPort ch p) then Status.denied
  else if l.isEmpty || l.any (fun p => !s.fitted p) then Status.badArg
  else 0

/-- Port `p` can take an action (R441): its domain stands on and its D2D link is UP. -/
def State.portReady (s : State) (p : Nat) : Bool :=
  s.portsOn p && !s.domChanging (Dom.ports (currant p)) && s.linkUp (currant p)

/-- Judge and act on the ports of a mask in ascending order (R441); the statuses by port. -/
def State.eachPort (s : State) (f : State → Nat → Nat × State) : List Nat → State × List (Nat × Nat)
  | [] => (s, [])
  | p :: r =>
    let x := f s p
    let y := x.2.eachPort f r
    (y.1, (p, x.1) :: y.2)

/-- The action of a mask command on a port that can take it; STATE and nothing done on another (R441). -/
def whenReady (act : State → Nat → Nat × State) (s : State) (p : Nat) : Nat × State :=
  if s.portReady p then act s p else (Status.state, s)

/-- The 64-byte result array of R441. -/
def resultArray (l : List (Nat × Nat)) : List Nat := allPorts.flatMap (fun p => le 2 (look 0xFFFF p l))

/-- A mask command that judges each port by itself (R441). -/
def State.maskJudge (s : State) (ch : Nat) (f : Frame) (act : State → Nat → Nat × State) : State × Option Reply :=
  let m := word32 f.payload 0
  let bad := s.maskFault ch m
  if bad ≠ 0 then (s, some (Reply.of bad))
  else
    let x := s.eachPort act (maskPorts m)
    let st := if x.2.any (fun e => decide (e.2 = 0)) then 0 else (x.2.headD (0, 0)).2
    (x.1, some ⟨st, 0, resultArray x.2⟩)

/-- A mask command (R441). -/
def State.maskCommand (s : State) (ch : Nat) (f : Frame) (act : State → Nat → Nat × State) : State × Option Reply :=
  s.maskJudge ch f (whenReady act)

/-! ### Starting a frame (R430, R439, R444, R449) -/

/-- A valid adoption entry covers address `a` (R320, R329). -/
def State.adopts (s : State) (a : Nat) : Bool :=
  (List.range 16).any (fun j => s.on F.CHORD_ADOPTB_VALID j && decide (s.fld F.CHORD_ADOPTA_LO j ≤ a)
    && decide (a ≤ s.fld F.CHORD_ADOPTA_HI j))

/-- Where a Chord command frame for address `a` goes (R320): none for this unit, some link, or 7 for NOROUTE. -/
def State.route (s : State) (a : Nat) : Option Nat :=
  if s.on F.CHORD_STAT_ADDRESSED 0 && decide (s.fld F.CHORD_STAT_ADDR 0 = a) then none
  else
    match (List.range 16).find? (fun j => s.on F.CHORD_ADOPTB_VALID j && decide (s.fld F.CHORD_ADOPTA_LO j ≤ a)
        && decide (a ≤ s.fld F.CHORD_ADOPTA_HI j)) with
    | some j => some (s.fld F.CHORD_ADOPTB_LINK j)
    | none =>
      match [0, 1, 2, 3].find? (fun d => decide (s.linkState (2 + d) = 4) && decide (s.fld F.CHORD_DNRANGE_DNLO d ≤ a)
          && decide (a ≤ s.fld F.CHORD_DNRANGE_DNHI d)) with
      | some d => some (2 + d)
      | none =>
        if s.apex || (s.on F.CHORD_STAT_ADDRESSED 0 && decide (s.fld F.CHORD_RANGE_LO 0 ≤ a)
            && decide (a ≤ s.fld F.CHORD_RANGE_HI 0)) then some 7
        else some s.activeUp

/-- A command frame is sent on a link, and counted. -/
def State.sendCmd (s : State) (l id mode dest hops : Nat) (f : Frame) : State :=
  (s.chordSend (.cmd l id mode dest hops f)).incr F.CHORD_LCNT1_CMDTX l

/-- The down-links that are UP. -/
def State.downLinks (s : State) : List Nat := [2, 3, 4, 5].filter (fun l => decide (s.linkState l = 4))

/-- A subtree frame is taken by this unit: sent on to every down-link and queued for execution (R332, R334). -/
def State.takeSubtree (s : State) (l id mode dest hops : Nat) (f : Frame) : State :=
  let down := s.downLinks
  let m : ChordMerge := { (default : ChordMerge) with
    id := id, mode := mode, merge := f.flags.testBit 3, link := l, frame := f, waiting := down }
  let s := s.updChord (fun c => { c with merges := c.merges ++ [m], closed := c.closed.filter (fun x => decide (x ≠ id)) })
  let s := s.each down (fun s d => s.sendCmd d id mode dest (hops + 1) f)
  if s.chord.inbox.length < 16 then
    ((s.updCh 6 (fun c => { c with frames := c.frames ++ [f.bytes] })).updChord (fun c => { c with
      inbox := c.inbox ++ [⟨id, mode, l⟩] })).irq 31 |>.chRefresh 6
  else s.updMerge id (fun m => { (m.fold (s.fld F.CHORD_STAT_ADDR 0) Status.busy 0) with ownDone := true })

/-- The Apex forwards a frame of channel `ch` over Chord (R332, R333, R444). -/
def State.forward (s : State) (ch : Nat) (f : Frame) : State :=
  if f.mode = 2 ∧ f.code ≠ 0x0706 then s.answerFrame ch f Status.badCode
  else if 16 ≤ s.chord.sent.length then s.answerFrame ch f Status.busy
  else
    let id := s.chord.nextId
    let own := decide (f.mode ≠ 0) && decide (f.target = 0)
    let s := s.updChord (fun c => { c with
      nextId := (id + 1) % 65536, sent := c.sent ++ [⟨id, ch, f, own⟩],
      gathered := if f.mode = 2 then 0 else c.gathered, gatherLost := if f.mode = 2 then 0 else c.gatherLost })
    let s := if own then s.takeSubtree 6 id f.mode 0 0 f
      else match s.route f.target with
        | some l => if l < 6 then s.sendCmd l id f.mode f.target 1 f else s.chordSend (.noroute 6 id)
        | none => s
    s.chRefresh ch

/-- Core 0 serves the mailbox: system firmware or the boot ROM runs, halted or not (R73, R449). -/
def State.mailboxOn (s : State) : Bool := s.power.boot != .off

/-- The channels from which the boot ROM takes frames (R43, R73, R449): the strapped board controller interface; for a
recovery image the SPI target, or U0's instance 0.  With STRAP_BOOT 0b10 and the I2C target strapped the SPI channel does not
exist, so that no image is taken; with 0b11 the strapped host channel stays open beside U0 (DESIGN CHOICE, log entry 156). -/
def State.romTakes (s : State) (ch : Nat) : Bool :=
  if s.power.boot == .waitImage && s.strapBoot == 2 then decide (ch = 0)
  else if s.romUsb then decide (ch = 2) || decide (ch = s.hostChannel)
  else decide (ch = s.hostChannel)

/-- The boot ROM answers a code (R449). -/
def romCode (f : Frame) : Bool :=
  f.code == 0x0101 || f.code == 0x0102 || (f.code == 0x0108 && (decide (f.opt % 4 ≠ 0) || decide (byteAt f.payload 0 ≤ 1)))

/-- Ports of `l` are in use by a running command of another channel (R430). -/
def State.portsTaken (s : State) (ch : Nat) (l : List Nat) : Bool :=
  s.mbx.any (fun e => e.1 != ch && e.2.ports.any (fun p => l.contains p))

/-- The first held frame leaves its channel. -/
def State.takeFrame (s : State) (ch : Nat) : State :=
  if mfChannel ch then s.updMf (ch - 2) (fun r => { r with frames := r.frames.drop 1, outHalf := 1 - r.outHalf })
  else s.updCh ch (fun c => { c with frames := c.frames.drop 1 })

/-- Checks 3 to 6 of R439 for a frame that the unit itself executes: the status of the first that fails, 0 for none. -/
def State.frameFault (s : State) (ch : Nat) (f : Frame) : Nat :=
  if f.mode = 3 then Status.badArg
  else if ch ≠ 6 ∧ !s.apex ∧ !f.isSelf ∧ f.target ≠ s.fld F.CHORD_STAT_ADDR 0 then Status.denied
  else if ch ≠ 6 ∧ s.apex ∧ !ownerChannel ch ∧ !f.isSelf ∧ (f.target ≠ 0 ∨ f.mode ≠ 0) then Status.denied
  else match codeInfo f.code f.opt f.payload with
    | none => Status.badCode
    | some (r, lenOk) =>
      if s.power.dormancy != .awake then Status.busy
      else if s.power.boot != .firmware ∧ !romCode f then Status.state
      else if !r.admits ch then Status.denied
      else if !lenOk then Status.badLen
      else 0

/-- A SYS_CFG_SAVE runs on some channel (R446). -/
def State.saveRuns (s : State) : Bool := s.mbx.any (fun e => e.2.running.any (fun g => decide (g.code = 0x0109)))

/-- A frame is a SYS_CFG_SAVE that meets another channel's save under way (R446). -/
def State.savesNow (s : State) (f : Frame) : Bool := decide (f.code = 0x0109) && s.saveRuns

/-- The first held frame of channel `ch` is checked and starts (R430, R439); once SYS_RESET is accepted it is discarded
instead (R464). -/
def State.startFrame (s : State) (ch : Nat) : State :=
  let c := s.mbx.at ch
  if !s.chExists ch || !s.mailboxOn || (!s.firmware && !s.romTakes ch) || c.running.isSome || !s.roomToAnswer ch then s
  else match s.queued ch with
    | [] => s
    | b :: _ =>
      let f := Frame.parse b
      let t := s.takeFrame ch
      if s.power.resetPending.isSome then t.chRefresh ch
      else if 1024 < rawLen b then t.answerFrame ch { f with flags := withBit f.flags 5 true, payload := [] } Status.badLen
      else if !crcGood b then (t.incr F.MBX_CHCNT0_CRCERR (chReg ch)).chRefresh ch
      else if ch ≤ 2 ∧ s.apex ∧ !f.isSelf ∧ f.mode ≠ 3 ∧ (f.target ≠ 0 ∨ f.mode ≠ 0) then t.forward ch f
      else
        let f := { f with flags := withBit f.flags 5 false }
        let bad := s.frameFault ch f
        if bad ≠ 0 then t.answerFrame ch f bad
        else if s.portsTaken ch (framePorts f) then s
        else
          ((t.updCh ch (fun c => { c with running := some f, ports := framePorts f, stage := bit01 (s.savesNow f) })).incr
            F.MBX_CHCNT0_FRAMES (chReg ch)).chRefresh ch

end Sys2Proof.Machine
end

