-- ==== Sys2Proof/Machine/BootOps.lean ====
section
/-! DEFINITION. Part resets, strap sampling, the boot ROM's steps, calibration at boot and the start of system firmware
(R44 to R46, R64, R68 to R79, R85, R376, R417, R421). -/

namespace Sys2Proof.Machine

/-! ### Operations that a reset cuts (R399, R422, R427) -/

/-- One bit of the CRC-32 of R419. -/
def crc32Bit (c : Nat) : Nat := if c.testBit 0 then Nat.xor (c / 2) 0xEDB88320 else c / 2

/-- The CRC-32 of R419 before its final inversion. -/
def crc32Raw : List Nat → Nat → Nat
  | [], c => c
  | b :: r, c =>
    let x := Nat.xor c (b % 256)
    crc32Raw r (crc32Bit (crc32Bit (crc32Bit (crc32Bit (crc32Bit (crc32Bit (crc32Bit (crc32Bit x))))))))

/-- The CRC-32 of R419. -/
def crc32 (b : List Nat) : Nat := Nat.xor (crc32Raw b 0xFFFFFFFF) 0xFFFFFFFF

/-- Where the calibration set lies in NVM (R419). -/
def calAddr : Nat := 0x0807F000

/-- A commit that a reset cuts leaves a set that fails its CRC (R422); its other bytes are open (log entry 145). -/
def State.cutCommit (s : State) : State :=
  if s.on F.CAL_STAT_COMMIT 0 then
    let (l, s) := s.freeBytes 0x4AC
    s.writeBytes calAddr (l ++ le 4 (Nat.xor (crc32 l) 1))
  else s

/-- A flash or NVM operation that a reset cuts leaves open what it was to write (log entry 145); the factory sector takes
none (R427). -/
def State.cutOps (s : State) : State :=
  let q := s.hw.qspi
  let n := s.hw.nvm
  let s := if s.on F.QSPI_STAT_OPBUSY 0 then s.writeFree (flashAddr q.addr) q.len else s
  let s := if s.on F.CAL_NVMSTAT_BUSY 0 && decide (16 ≤ n.row) then
      (if n.op = 1 then s.writeFree (0x08000000 + n.row / 16 * 4096) 4096 else s.writeFree (0x08000000 + 256 * n.row) 256)
    else s
  s.cutCommit

/-! ### Part reset (R68 to R71, R81, R117) -/

/-- A field keeps its value through a part reset with this cause: the RTC block and PMU_RESET_CAUSE, which lie in AON
(R70, R89, R90; from Dormant only what R81 names), what PMU_RAILSTAT and PMU_CLKSTAT see of the board, the strap word where
it is reused (R46), and the violation record through CORE0_VIOLATION (R117). -/
def keptField (cause fid : Nat) : Bool :=
  let rtc := decide (F.RTC_STAGE_HOLD.id ≤ fid ∧ fid < F.MPU_STAGE_HOLD.id)
  let aon := decide (F.RTC_STATUS_RTC_VALID.id / 32 = fid / 32) || decide (F.RTC_ALARM_LO_ALARM_LO.id ≤ fid ∧ fid < F.RTC_COLLIDE_COUNT.id)
  (if cause = 3 then aon else rtc) || decide (fid / 32 = F.PMU_RESET_CAUSE_CAUSE.id / 32)
    || decide (fid / 32 = F.PMU_RAILSTAT_BOOT_OK.id / 32) || fid == F.PMU_CLKSTAT_RTCXO_OK.id
    || (decide (6 ≤ cause) && decide (fid / 32 = F.SYS_STRAP_STRAPS.id / 32))
    || (decide (cause = 7) && decide (F.MPU_VIOL_ADDR_ADDR.id ≤ fid ∧ fid < F.MPU_COLLIDE_COUNT.id))

/-- Shared SRAM survives a reset with this cause (R68). -/
def keepsSram (cause : Nat) : Bool := cause == 4 || decide (6 ≤ cause ∧ cause ≤ 0xB)

/-- A memory byte survives: NVM and flash always, shared SRAM by cause. -/
def keptByte (cause a : Nat) : Bool :=
  decide (0x08000000 ≤ a ∧ a < 0x08080000) || decide (0x30000000 ≤ a ∧ a < 0x34000000)
    || (keepsSram cause && decide (0x20000000 ≤ a ∧ a < 0x20200000))

/-- The state in which a part reset leaves everything, before the boot; the queue, the free values, what NVM holds and the
facts of the outside stay.  Resets after which the latched strap word is reused keep a sampling that is still due (R46). -/
def State.cleared (s : State) (cause : Nat) : State :=
  let s := s.cutOps
  { State.reset with
    pending := s.pending
    regs := s.regs.filter (fun e => keptField cause e.1.1)
    staged := if cause = 3 then [] else s.staged.filter (fun x =>
      decide (F.RTC_STAGE_HOLD.id ≤ x.field.id ∧ x.field.id < F.MPU_STAGE_HOLD.id))
    mem := s.mem.filter (fun e => keptByte cause e.1)
    power := { (default : Power) with
      aon := true, rstN := s.power.rstN, dies := s.power.dies, rtcCount := s.power.rtcCount
      rtcPart := s.power.rtcPart, everLocked := s.power.everLocked, resetAge := s.power.resetAge, hot := s.power.hot
      testEn := s.power.testEn, sample := s.power.sample || decide (cause < 6), hostRp := s.power.hostRp, gpio := s.power.gpio
      inLimit := s.power.inLimit }
    parts := keptParts s.parts
    nvmCfg := s.nvmCfg
    snaps := if cause = 3 then [] else s.snaps.filter (fun e => decide (e.1 = 0))
    hw := { (default : SysHw) with
      nvm := { (default : NvmHw) with programmed := s.hw.nvm.programmed }, cfgGen := s.hw.cfgGen, saved := s.hw.saved }
    free := s.free }

/-- AON loses all supply (R84, R87): everything but NVM and flash is lost. -/
def State.aonLost (s : State) : State :=
  let s := s.cutOps
  { State.reset with
    pending := s.pending
    mem := s.mem.filter (fun e => keptByte 1 e.1)
    power := { (default : Power) with
      rstN := s.power.rstN, dies := s.power.dies, hot := s.power.hot, hostRp := s.power.hostRp, gpio := s.power.gpio }
    parts := keptParts s.parts
    regs := [((F.PMU_RAILSTAT_RAIL_EN.id, 0), 0)]
    nvmCfg := s.nvmCfg
    hw := { (default : SysHw) with
      nvm := { (default : NvmHw) with programmed := s.hw.nvm.programmed }, cfgGen := s.hw.cfgGen, saved := s.hw.saved }
    free := s.free }

/-- A cause that arises now belongs to the 10 µs of the one recorded last (R71; log entry 31). -/
def State.causesMerge (s : State) : Bool :=
  decide (s.power.resetAge < 9600) && s.power.boot != .firmware && decide (s.fld F.PMU_RESET_CAUSE_SEEN 0 ≠ 0)

/-- PMU_RESET_CAUSE takes a cause (R71, R89): causes of the same 10 µs are all recorded, and the lowest is CAUSE. -/
def State.recordCause (s : State) (cause channel : Nat) : State :=
  let more := s.causesMerge
  let seen := if more then s.fld F.PMU_RESET_CAUSE_SEEN 0 else 0
  let c := if more then min cause (s.fld F.PMU_RESET_CAUSE_CAUSE 0) else cause
  let s := (s.setFld F.PMU_RESET_CAUSE_SEEN 0 (Nat.lor seen (2 ^ (cause - 1)))).setFld F.PMU_RESET_CAUSE_CAUSE 0 c
  let s := if c ≠ 6 then s.setFld F.PMU_RESET_CAUSE_CHANNEL 0 0
    else if cause = 6 then s.setFld F.PMU_RESET_CAUSE_CHANNEL 0 channel
    else s
  if more then s else { s with power := { s.power with resetAge := 0 } }

/-- A part reset up to the point where the boot can begin: RAIL_EN2 is low (R56). -/
def State.resetTo (s : State) (cause channel : Nat) : State :=
  let s := (s.recordCause cause channel).cleared cause
  s.setFld F.PMU_RAILSTAT_RAIL_EN 0 (s.fld F.PMU_RAILSTAT_RAIL_EN 0 % 4)

/-! ### Boot ROM (R44 to R46, R72, R73, R398) -/

/-- A strap is 1 in all four samples (R44, R45). -/
def strapWord (samples : List Nat) : Nat :=
  ((List.range 7).map (fun b =>
    if samples.length = 4 ∧ samples.all (fun w => w.testBit b) = true then 2 ^ b else 0)).sum

/-- A strap's four samples disagree (R45). -/
def strapUnstable (samples : List Nat) : Nat :=
  ((List.range 7).map (fun b =>
    if samples.all (fun w => w.testBit b) || samples.all (fun w => !w.testBit b) then 0 else 2 ^ b)).sum

/-- The Rp code of the host on U0 and the chain's input limit that it sets (R77, R78). -/
def State.readHostRp (s : State) : State :=
  if s.on F.PMU_RAILSTAT_DB_ACTIVE 0 then
    let s := s.setFld F.TCPD_CCSTAT_RPSEEN 33 s.power.hostRp
    { s with power := { s.power with inLimit := if 2 ≤ s.power.hostRp then 500 else 100 } }
  else s

/-- The boot ROM runs steps 2 to 4 of R72 with the strap word latched; it reads the flash's SFDP table (R399, R476; log
entry 26). -/
def State.romStart (s : State) : State :=
  let w := s.fld F.SYS_STRAP_STRAPS 0
  let i2c := w.testBit 2
  let s := (s.put F.TGT_STAT_ACTIVE 0 (!i2c)).put F.TGT_STAT_ACTIVE 1 i2c
  let s := (s.setFld F.TGT_STAT_ADDR 1 (if i2c then 0x48 + w / 8 % 4 else 0)).setFld F.TGT_STAT_INFREE (bit01 i2c) 4
  let s := ((s.put F.CHORD_CFG_APEX 0 (w.testBit 5)).apexRange).put F.PMU_CLKSTAT_XO_OK 0 true
  let s := s.setFld F.TCPD_CCSTAT_STATE 33 Cc.unattachedSnk.code
  let s := ({ s with power := { s.power with boot := .rom } }).readHostRp
  if s.power.testEn then ({ s with power := { s.power with boot := .halted } }).setFld F.SYS_BOOT_BOOT_STATUS 0 4
  else
    let s := s.setFld F.SYS_ID_DIES 0 s.power.dies
    let s := (s.setFld F.SYS_SERIAL0_SERIAL 0 (s.word 0x08000000)).setFld F.SYS_SERIAL1_SERIAL 0 (s.word 0x08000004)
    let s := s.each [1, 2, 3, 4, 5, 6, 7] (fun s d => s.setFld F.D2D_LSTAT_STATE d (if s.dieAbsent d then 0 else 1))
    let (sample, s) := s.drawNat
    let s := (s.setFld F.QSPI_CFG_SAMPLE 0 sample).put F.QSPI_STAT_SFDPOK 0 true
    let s := s.setFld F.QSPI_STAT_SIZE 0 (max 25 (Config.flashSize % 32))
    let s := s.setFld F.QSPI_CFG_RATE 0 (if s.on F.PMU_RAILSTAT_DB_ACTIVE 0 then 1 else 2)
    let s := if s.power.dies.testBit 0 then s.setD2d 1 2 else s
    if diesValid s.power.dies then s
    else ({ s with power := { s.power with boot := .halted } }).setFld F.SYS_BOOT_BOOT_STATUS 0 1

/-- The island is supplied: the BOOT rails are valid, or the dead-battery chain feeds it (R54, R78). -/
def State.bootSupplied (s : State) : Bool := s.on F.PMU_RAILSTAT_BOOT_OK 0 || s.on F.PMU_RAILSTAT_DB_ACTIVE 0

/-- The passive dead-battery Rd stands on U0_CC1 and U0_CC2 (R74): whenever BOOT has no supply, in Dormant too. -/
def State.passiveRd (s : State) : Bool := !s.bootSupplied

/-- The strap trigger of R44 has come: the part is supplied, SYS_RST_N is high and no boot has begun. -/
def State.triggered (s : State) : Bool :=
  s.power.aon && s.bootSupplied && s.power.rstN && s.power.boot == .off && s.power.dormancy == .awake

/-- The straps are sampled at the trigger where a sampling is due (R44, R46). -/
def State.latchStraps (s : State) (samples : List Nat) (testEn : Bool) : State :=
  if s.triggered && s.power.sample then
    let s := { s with power := { s.power with sample := false, testEn := testEn } }
    (s.setFld F.SYS_STRAP_STRAPS 0 (strapWord samples)).setFld F.SYS_STRAP_UNSTABLE 0 (strapUnstable samples)
  else s

/-- The boot ROM starts once the straps are latched, unless the part is held for its temperature (R44, R67). -/
def State.tryBoot (s : State) : State :=
  if s.triggered && !s.power.sample && !s.power.hot then s.romStart else s

/-- A part reset that leaves the BOOT domain supplied and reuses the latched strap word (R46). -/
def State.partReset (s : State) (cause channel : Nat) : State := (s.resetTo cause channel).tryBoot

/-- FAULT_N is low (R39, R73, R407): a fault source stands in the severe state, or the boot ROM halted on an invalid die
mask. -/
def State.faultNLow (s : State) : Bool :=
  s.on F.FC_SUM_SEVERE 0 || (s.power.boot == .halted && decide (s.fld F.SYS_BOOT_BOOT_STATUS 0 = 1))

/-- The BOOT rails are valid (R54). -/
def State.railsValid (s : State) : State :=
  let s := (s.put F.PMU_RAILSTAT_VCORE_OK 0 true).put F.PMU_RAILSTAT_VDD18_OK 0 true
  let s := (s.put F.PMU_RAILSTAT_VDD33_OK 0 true).put F.PMU_RAILSTAT_BOOT_OK 0 true
  let s := s.setFld F.PMU_RAILSTAT_VIO_OK 0 (Nat.lor (s.fld F.PMU_RAILSTAT_VIO_OK 0) 0x2F)
  s.setFld F.PMU_RAILSTAT_RAIL_EN 0 (3 + 4 * s.fld F.PMU_RAILCTL_EN2 0)

/-! ### PLL lock, CT and calibration (R63, R85, R398, R421) -/

/-- CT at the RTC edge with a count (R85). -/
def seedCt (count epoch : Nat) : Nat := (count * 234375 / 8 + epoch) % 2 ^ 64

/-- A calibration set passes its checks (R419, R421). -/
def calGood (b : List Nat) : Bool :=
  decide (b.length = 1200) && decide (word32 b 0 = 0x4C414341) && decide (half b 4 = 1) && decide (half b 6 = 0x04B0)
    && decide (word32 b 0x4AC = crc32 (b.take 0x4AC))

/-- The shadow takes a good set (R421, R426). -/
def State.calTake (s : State) (b : List Nat) : State :=
  let s := s.each (List.range 300) (fun s j => s.setFld F.CAL_DATA_DATA j (word32 b (4 * j)))
  let s := ((s.put F.CAL_STAT_LOADED 0 true).put F.CAL_STAT_DEFAULTS 0 false).put F.CAL_STAT_NVMOK 0 true
  let s := (s.put F.CAL_STAT_ORIGIN 0 (decide (byteAt b 0x0C = 1))).setFld F.CAL_GEN_VALUE 0 (word32 b 8)
  s.setFld F.CAL_CRC_VALUE 0 (word32 b 0x4AC)

/-- The feed entry takes its thermal values from the shadow (R315, R419): RON, RJC, RCA, TAUJ, TAUC, B and RNOM follow the
five gains and offsets. -/
def State.calEntry (s : State) : State :=
  if s.on F.CAL_STAT_LOADED 0 then
    let o := 0x460 + 20
    let s := s.setFld F.ENT_HSTH_RON 0 (s.calByte o)
    let s := (s.setFld F.ENT_HSTHP0_RJC 0 (s.calHalf (o + 2))).setFld F.ENT_HSTHP0_RCA 0 (s.calHalf (o + 4))
    let s := (s.setFld F.ENT_HSTHP1_TAUJ 0 (s.calHalf (o + 6))).setFld F.ENT_HSTHP1_TAUC 0 (s.calHalf (o + 8))
    (s.setFld F.ENT_HSNTC_B 0 (s.calHalf (o + 10))).setFld F.ENT_HSNTC_RNOM 0 (s.calHalf (o + 12))
  else s

/-- Boot step 6 (R72, R421): the calibration set is copied and checked, RTC_TRIM is loaded and the feed entry takes its
values. -/
def State.calBoot (s : State) : State :=
  let b := s.readBytes calAddr 1200
  if calGood b then (s.calTake b).calEntry.setFld F.RTC_TRIM_TRIM 0 (half b 0x4A8)
  else
    let s := (s.put F.CAL_STAT_DEFAULTS 0 true).setFld F.RTC_TRIM_TRIM 0 0
    s.raise (quinceSource 0x24 0) 0 0

/-- CT is seeded at the next RTC edge, and SYNC follows (R85, R325). -/
def State.seed (s : State) : State :=
  let n := (s.power.rtcCount + 1) % 2 ^ 48
  let s := { s with power := { s.power with rtcCount := n, rtcPart := 0 } }
  if s.on F.RTC_STATUS_RTC_VALID 0 then
    { s with ct := seedCt n (s.fld64 F.RTC_EPOCH_LO_EPOCH F.RTC_EPOCH_HI_EPOCH 0) }.setSync 1
  else { s with ct := 0 }.setSync 0

/-- The factory configuration as fields (R134, R176, R192, R199, R206, R434); CC enabled on every port (R72). -/
def factoryCfg : List ((Nat × Nat) × Nat) :=
  (List.range 4).flatMap (fun k =>
    [((F.PART_PCTL_PULLUP.id, k), 1), ((F.MF_CTL_CONNECT.id, k), 1), ((F.MF_CTL_NOTEN.id, k), if k = 0 then 0x7F else 3)]
      ++ [(0, 0, 1, 0), (1, 1, 48, 1), (2, 49, 34, 1), (3, 83, 2, 1), (4, 85, 384, 1)].flatMap (fun e =>
        [((F.MF_EPD_START.id, 5 * k + e.1), k * 512 + e.2.1), ((F.MF_EPD_SIZE.id, 5 * k + e.1), e.2.2.1),
          ((F.MF_EPD_DBL.id, 5 * k + e.1), e.2.2.2)]))
    ++ allPorts.flatMap (fun p =>
      [((F.TT_ALLOC_NPBUF.id, p), 4), ((F.TT_ALLOC_PRES.id, p), 4), ((F.TT_ALLOC_PMAX.id, p), 40),
        ((F.TCPD_CCCFG_CCEN.id, p), 1)])
    ++ [((F.MBX_CTL_BCNOTEN.id, 0), 0x7E)]

/-- The factory carve, pull-up and connect of partition 0, for an image over U0 (R199, R449). -/
def romConfig : RegFile :=
  factoryCfg.filter (fun (e : (Nat × Nat) × Nat) => (e.1.1 == F.PART_PCTL_PULLUP.id || e.1.1 == F.MF_CTL_CONNECT.id) && e.1.2 == 0
    || decide (e.1.1 / 32 = F.MF_EPD_START.id / 32 ∧ e.1.2 < 5))

/-- The boot ROM strapped for recovery over U0 brings up FABRIC and instance 0 under the factory carve (R43, R449). -/
def State.romUsbStart (s : State) : State :=
  if s.romUsb then
    let s := { s with fwCopy := romConfig.foldl (fun m (e : (Nat × Nat) × Nat) => Sys2Proof.Machine.place slotLt e.1 e.2 m) [] }
    (s.setDomRequest Dom.fabric true).domsFollow
  else s

/-- Steps 5 and 6 of R72; a part strapped for recovery then waits for an image (R73). -/
def State.pllLock (s : State) : State :=
  if s.power.boot == .rom && !s.on F.PMU_CLKSTAT_PLL_LOCK 0 then
    let s := ((s.put F.PMU_CLKSTAT_PLL_LOCK 0 true).put F.PMU_CLKSTAT_REF_ACTIVE 0 false).seed
    let s := s.calBoot
    if 2 ≤ s.strapBoot then
      (({ s with power := { s.power with boot := .waitImage } }).setFld F.SYS_BOOT_BOOT_STATUS 0 3).romUsbStart
    else s
  else s

/-! ### System firmware (R72, R134, R176, R192, R199, R206, R249, R376, R406, R417, R434, R446, R462) -/

/-- The NVM area that a field of the configuration belongs to (R446). -/
def areaOf (fid : Nat) : Option Nat :=
  let r := fid / 32
  let regIs (l : List Field) := l.any (fun f => f.id / 32 == r)
  if regIs [F.PART_PCTL_PULLUP, F.MF_CTL_CONNECT] then some 0
  else if regIs [F.PART_ASSIGN_PORT0] then some 1
  else if regIs [F.TT_ALLOC_NPBUF] then some 2
  else if regIs [F.MF_EPD_START] then some 3
  else if regIs [F.TCPD_PDCFG_PROFILE] then some 4
  else if regIs [F.MBX_CTL_BCNOTEN] then some 9
  else match regDefOf fid with
    | some d => if d.blk == .gov || d.blk == .pwr then some 6 else if d.blk == .chord then some 8 else none
    | none => none

/-- The configuration that firmware starts with: the factory's, with the saved areas in their place (R446). -/
def State.startConfig (s : State) : RegFile :=
  let saved (e : (Nat × Nat) × Nat) := (areaOf e.1.1).any (fun a => s.hw.saved.areas.testBit a)
  let l := factoryCfg.filter (fun e => !saved e) ++ s.nvmCfg.filter saved
  l.foldl (fun m e => match fieldOf e.1.1 with
    | some f => store slotLt (resetAt f e.1.2) e.1 e.2 m
    | none => m) []

/-- Every defined fault source, in ID order. -/
def fcAll : List Nat :=
  let quince := [(0x01, [0]), (0x03, List.range 11), (0x04, 0 :: (List.range 8).map (· + 16)), (0x10, [0]),
    (0x18, [0, 1, 2, 3, 4, 5, 8]), (0x20, [1, 2, 3, 4, 5, 6, 7]), (0x24, [0, 1]), (0x34, [0, 1]),
    (0x38, (List.range 3).flatMap (fun j => (List.range 5).map (· + 8 * j)))].flatMap (fun e =>
      e.2.map (quinceSource e.1))
  let currants := [1, 2, 3, 4].flatMap (fun d =>
    (portKinds.flatMap (fun b => (List.range 8).map (fun i => d * 4096 + b * 64 + i)))
      ++ (if d = 1 then [1, 2, 3, 4, 5].map (fun i => 4096 + 0x20 * 64 + i) else [])
      ++ [d * 4096 + 0x30 * 64 + 63, d * 4096 + 0x31 * 64 + 63])
  quince ++ currants ++ [0x6000, 0x7000]

/-- Firmware sets the fault sources (R406): the saved settings, else the factory's. -/
def State.faultConfig (s : State) : State :=
  s.each fcAll (fun s id =>
    let x := if s.hw.saved.areas.testBit 7 && (s.hw.saved.faults.at id).written then
        ((s.hw.saved.faults.at id).n, (s.hw.saved.faults.at id).window, (s.hw.saved.faults.at id).react,
          (s.hw.saved.faults.at id).injCount)
      else ((fcFactory id).1, (fcFactory id).2.1, (fcFactory id).2.2, false)
    s.updFc id (fun r => { r with written := true, n := x.1, window := x.2.1, react := x.2.2.1, injCount := x.2.2.2 }))

/-- A window of R376: first and last address, and the permissions R, W and X as 1, 2 and 4. -/
abbrev Win := Nat × Nat × Nat

/-- The windows of core 0 (R376). -/
def core0Windows : List Win :=
  [(0x00000000, 0x0000FFFF, 5), (0x10000000, 0x1007FFFF, 7), (0x30000000, 0x33FFFFFF, 5), (0x20000000, 0x20086FFF, 3),
    (0x200D8000, 0x200F7FFF, 3), (0x40000000, 0x400C3FFF, 3), (0x48000000, 0x4800FFFF, 3), (0x50000000, 0x53FFFFFF, 3),
    (0x58000000, 0x58053FFF, 3), (0x5C000000, 0x5C013FFF, 3), (0x08000000, 0x0807FFFF, 1), (0x80000000, 0x8FFFFFFF, 1),
    (0x20087000, 0x200D7FFF, 1), (0x200F8000, 0x201FFFFF, 1)]

/-- The windows of service core `c` (R376). -/
def serviceWindows (c : Nat) : List Win :=
  let cur := 0x50000000 + (c - 1) * 0x1000000
  let ic := 0x48004000 + c * 0x1000
  [(0x00000000, 0x0000FFFF, 5), (0x10000000, 0x1003FFFF, 7), (0x40018000, 0x40018FFF, 3), (0x48001000, 0x48001FFF, 3),
    (ic, ic + 0xFFF, 3), (cur, cur + 0x3FFF, 3), (cur + 0x10000, cur + 0x13FFF, 3), (0x20000000, 0x2003FFFF, 1),
    (0x20040000, 0x20040FFF, 1), (0x48000000, 0x48000FFF, 1), (0x48002000, 0x48002FFF, 1),
    (cur + 0x30000, cur + 0x33FFF, 1), (cur + 0x40000, cur + 0x43FFF, 1), (0x400C0000, 0x400C3FFF, 1)]

/-- The windows of the REG passthrough and the Chord remote agent (R462). -/
def agentWindows : List Win :=
  [(0x40000000, 0x40003FFF, 3), (0x40008000, 0x4000BFFF, 3), (0x40010000, 0x4001BFFF, 3), (0x40030000, 0x40083FFF, 3),
    (0x400B0000, 0x400C3FFF, 3), (0x40004000, 0x40007FFF, 1), (0x40020000, 0x40023FFF, 1), (0x40090000, 0x40093FFF, 1),
    (0x50000000, 0x53FFFFFF, 3), (0x58000000, 0x58053FFF, 3), (0x5C000000, 0x5C013FFF, 3)]

/-- The windows of a master (R376, R462). -/
def masterWindows (m : Nat) : List Win :=
  if m = 0 then core0Windows
  else if m ≤ 4 then serviceWindows m
  else if m = 5 then [(0x20000000, 0x2003FFFF, 3), (0x30000000, 0x33FFFFFF, 1)]
  else if m = 9 ∨ m = 10 then agentWindows
  else []

/-- One window of a master is written. -/
def State.setWindow (s : State) (m w : Nat) (x : Option Win) : State :=
  let i := 16 * m + w
  match x with
  | some (a, b, r) =>
    let s := (s.setFld F.MPU_WBASE_BASE i (a / 4096)).setFld F.MPU_WLIMIT_LIMIT i (b / 4096)
    let s := (s.put F.MPU_WATTR_R i (r.testBit 0)).put F.MPU_WATTR_W i (r.testBit 1)
    ((s.put F.MPU_WATTR_X i (r.testBit 2)).put F.MPU_WATTR_EN i true).put F.MPU_WATTR_LOCK i (decide (m = 0))
  | none => s.put F.MPU_WATTR_LOCK i (decide (m = 0))

/-- Firmware sets the windows of every master, and LOCK on those of core 0 (R376). -/
def State.setWindows (s : State) : State :=
  s.each (List.range 11) (fun s m => s.each (List.range 16) (fun s w => s.setWindow m w (masterWindows m)[w]?))

/-- Firmware resumes the log, or starts it anew (R417).  After a core 0 violation a second SYSTEM record carries MPU_VIOL_COUNT, for
which R415 names no byte of the first (R117; DESIGN CHOICE, log entry 168). -/
def State.logStart (s : State) : State :=
  let cause := s.fld F.PMU_RESET_CAUSE_CAUSE 0
  let s := if keepsSram cause then
      match s.lastSeq with
      | some n => s.setFld F.LOG_WR_SEQ 0 (n + 1)
      | none => s
    else { s with mem := s.mem.filter (fun e => decide (e.1 < 0x20047000) || decide (0x20087000 ≤ e.1)) }
  let data := [1, 0, 0, 0, cause, s.fld F.PMU_RESET_CAUSE_CHANNEL 0] ++ le 2 (s.fld F.PMU_RESET_CAUSE_SEEN 0)
    ++ le 4 (s.fld F.MPU_VIOL_ADDR_ADDR 0) ++ le 4 (s.wordOf F.MPU_VIOL_INFO_MASTER 0)
  let s := s.logSubmit (blockId 0 0x01) 0x50 0 data
  let s := if cause = 7 then s.logSubmit (blockId 0 0x03) 0x50 0 ([0, 0, 0, 0] ++ le 4 (s.fld F.MPU_VIOL_COUNT_COUNT 0)) else s
  s.put F.LOG_CFG_EN 0 true

/-- Step 9 of R72: firmware requests FABRIC, SERVICE and CHORD, and UPLINK where Sloe is fitted (log entry 37); in
dead-battery operation FABRIC alone (R77, R78). -/
def State.requestDomains (s : State) : State :=
  let db := s.on F.PMU_RAILSTAT_DB_ACTIVE 0
  let s := s.setDomRequest Dom.fabric true
  let s := if db then s
    else
      let s := (s.setDomRequest Dom.service true).setDomRequest Dom.chord true
      if s.sloe then s.setDomRequest Dom.uplink true else s
  s.domsFollow

/-- The policy image of service core `c` stands in its TCM, or none can (R72, step 10; R379, R382). -/
def State.policyLoaded (s : State) (c : Nat) : Bool :=
  match (s.cores.at c).stage with
  | .running => true
  | .halted => true
  | .loading => false
  | .off => decide ((s.cores.at c).checked ≠ 0)

/-- Step 13 of R72 follows step 10: RAIL_EN2 is raised and the PORTS domains of the fitted Currants are requested. -/
def State.requestPorts (s : State) : State :=
  if s.firmware && !s.power.portsAsked && !s.on F.PMU_RAILSTAT_DB_ACTIVE 0 && [1, 2, 3, 4].all s.policyLoaded then
    let s := { s with power := { s.power with portsAsked := true } }
    let s := s.each [0, 1, 2, 3] (fun s n => if s.currantFitted n then s.setDomRequest (Dom.ports n) true else s)
    (((s.put F.PMU_RAILCTL_EN2 0 true).setFld F.PMU_RAILSTAT_RAIL_EN 0 7).irq 17).domsFollow.bringUp
  else s

/-- Step 7 of R72: the 512 KiB body of the system firmware image in region `r` of the flash is read into core 0's TCM (R377;
log entry 151).  An erased byte of the flash and an unlisted byte of that TCM read alike. -/
def State.systemLoad (s : State) (r : Nat) : State :=
  let b := flashAddr (r * 0x800000 + Config.systemBody)
  let l := s.mem.filter (fun e => decide (b ≤ e.1 ∧ e.1 < b + 0x80000))
  let s := { s with mem := s.mem.filter (fun e => decide (e.1 < tcmAddr 0 0) || decide (tcmAddr 0 0x80000 ≤ e.1)) }
  l.foldl (fun s e => s.writeBytes (tcmAddr 0 (e.1 - b)) [e.2.toNat]) s

/-- System firmware starts on core 0 (R72, step 8 on): `status` is its BOOT_STATUS. -/
def State.firmwareStart (s : State) (status : Nat) : State :=
  let s := { s with power := { s.power with boot := .firmware, broughtUp := false, portsAsked := false } }
  let (build, s) := s.drawNat
  let s := (s.setFld F.SYS_BOOT_BOOT_STATUS 0 status).setFld F.SYS_FWREL_RELEASE 0 (0x03010000 + build % 65536)
  let s := s.logStart
  let s := { s with
    fwCopy := s.startConfig
    profiles := if s.hw.saved.areas.testBit 4 then s.hw.saved.profiles else factoryProfiles
    cores := [1, 2, 3, 4].foldl (fun t c => t.upd c (fun r => { r with
      selected := if s.hw.saved.areas.testBit 5 then s.hw.saved.policy.at c else 0 })) s.cores }
  let s := (s.restoreConfig 1).faultConfig.setWindows
  let s := if s.domOn Dom.fabric then (s.restoreConfig Dom.fabric).each allPorts (fun s p => if s.fitted p then s.ttRefresh p else s)
    else s
  s.requestDomains

/-- Step 8 of R72 as it can end (R73): the image verifies; it does not, and the recovery image verifies; neither. -/
def State.firmwareVerified (s : State) (ok recoveryOk : Bool) : State :=
  if !s.on F.PMU_CLKSTAT_PLL_LOCK 0 then s
  else match s.power.boot with
  | .rom =>
    if ok then (s.systemLoad 0).firmwareStart 0
    else if s.strapBoot = 1 ∧ recoveryOk then (s.systemLoad 1).firmwareStart 3
    else ({ s with power := { s.power with boot := .waitImage } }).setFld F.SYS_BOOT_BOOT_STATUS 0 2
  | .waitImage => if 2 ≤ s.strapBoot ∧ s.power.imageIn = true ∧ ok then (s.systemLoad s.power.imageAt).firmwareStart 3 else s
  | _ => s

end Sys2Proof.Machine
end

