-- ==== Sys2Proof/Machine/Boot.lean ====
section
/-! DEFINITION. Supply, reset, boot and Dormant commands (R44, R53 to R60, R68 to R84). -/

namespace Sys2Proof.Machine

/-- The strap trigger may have come (R44): a due sampling is made, and the boot begins unless something holds the part. -/
def State.bootTry (s : State) (samples : List Nat) (testEn : Bool) : State := (s.latchStraps samples testEn).tryBoot

/-- AON is freshly supplied with the dies fitted (R87, R90): the crystal runs, and VBAT stands above 1.90 V or not. -/
def State.aonFresh (s : State) (dies : Nat) (vbatLow : Bool) : State :=
  let s := s.aonLost
  let s := { s with power := { s.power with aon := true, dies := dies % 128, sample := true } }
  let s := (s.setFld F.PMU_RAILSTAT_RAIL_EN 0 3).put F.PMU_CLKSTAT_RTCXO_OK 0 true
  (s.put F.PMU_RAILSTAT_VBAT_OK 0 (!vbatLow)).put F.RTC_STATUS_VBAT_LOW 0 vbatLow

/-- POWER_ON (R54, R60, R72): the dies fitted, the four strap samples, TEST_EN, and whether VBAT is low. -/
def execPowerOn (dies : Nat) (samples : List Nat) (testEn vbatLow : Bool) (s : State) : Host.Outcome State Fault Refusal :=
  .next (if s.power.aon then s else (((s.aonFresh dies vbatLow).recordCause 1 0).railsValid).bootTry samples testEn)

/-- FIRMWARE_START (R72, R73): whether the image's signature verifies, and whether the recovery image's does. -/
def execFirmwareStart (ok recoveryOk : Bool) (s : State) : Host.Outcome State Fault Refusal :=
  .next (s.firmwareVerified ok recoveryOk)

/-- A cause that arises while a BOOT rail is invalid joins those of the same 10 µs (R71). -/
def State.joinCause (s : State) (cause : Nat) : State :=
  if s.power.dormancy == .awake && s.causesMerge then s.recordCause cause 0 else s

/-- PIN_RESET (R68, R71, R84): a part reset wherever the part is supplied, held in reset or not; while a BOOT rail is
invalid only the cause joins those of the same 10 µs; in Dormant the pin alone changes. -/
def execPinReset (s : State) : Host.Outcome State Fault Refusal :=
  let s := { s with power := { s.power with rstN := false } }
  .next <|
    if !s.power.aon then s
    else if s.bootSupplied then s.resetTo 4 0
    else s.joinCause 4

/-- SYS_RST_N_RELEASE (R44). -/
def execSysRstNRelease (samples : List Nat) (testEn : Bool) (s : State) : Host.Outcome State Fault Refusal :=
  .next (({ s with power := { s.power with rstN := true } }).bootTry samples testEn)

/-- A rail reads valid or not: 0 VCORE, 1 VDD18, 2 VDD33, 2 + k VIOk. -/
def State.setRail (s : State) (rail : Nat) (ok : Bool) : State :=
  match rail with
  | 0 => s.put F.PMU_RAILSTAT_VCORE_OK 0 ok
  | 1 => s.put F.PMU_RAILSTAT_VDD18_OK 0 ok
  | 2 => s.put F.PMU_RAILSTAT_VDD33_OK 0 ok
  | k => (s.putBit F.PMU_RAILSTAT_VIO_OK 0 (k - 3) ok).ppsSettle

/-- The BOOT rails (R54): every rail of `setRail` but VIO5, which is 7. -/
def isBootRail (rail : Nat) : Bool := decide (rail ≤ 8) && decide (rail ≠ 7)

/-- A rail reads valid. -/
def State.railOk (s : State) (rail : Nat) : Bool :=
  match rail with
  | 0 => s.on F.PMU_RAILSTAT_VCORE_OK 0
  | 1 => s.on F.PMU_RAILSTAT_VDD18_OK 0
  | 2 => s.on F.PMU_RAILSTAT_VDD33_OK 0
  | k => s.bit F.PMU_RAILSTAT_VIO_OK 0 (k - 3)

/-- A BOOT rail becomes invalid (R53, R54): its bit falls; the first to fall of valid rails is a brownout, which holds the
part until they are valid again; under the dead-battery chain, and as Dormant entry lowers the rails, no reset follows. -/
def State.railFalls (s : State) (rail : Nat) : State :=
  let all := s.on F.PMU_RAILSTAT_BOOT_OK 0
  let s := ((s.setRail rail false).put F.PMU_RAILSTAT_BOOT_OK 0 false).irq 17
  if all then s.resetTo 5 0 else s

/-- BROWNOUT (R53, R54, R68): a BOOT rail falls. -/
def execBrownout (rail : Nat) (s : State) : Host.Outcome State Fault Refusal :=
  .next (if s.power.aon && isBootRail rail && s.railOk rail then s.railFalls rail else s)

/-- BOOT_RAILS_VALID (R54, R82): after a brownout, or after the alarm raised the RAIL_EN outputs. -/
def execBootRailsValid (samples : List Nat) (testEn : Bool) (s : State) : Host.Outcome State Fault Refusal :=
  .next <|
    if s.power.aon && !s.bootSupplied then
      match s.power.dormancy with
      | .awake => s.railsValid.bootTry samples testEn
      | .waking =>
        if s.fld F.PMU_RAILSTAT_RAIL_EN 0 = 3 then
          let s := { s with power := { s.power with dormancy := .awake, alarmHeld := false, sample := true } }
          ((s.recordCause 3 0).railsValid).bootTry samples testEn
        else s
      | _ => s
    else s

/-- DEAD_BATTERY_BOOT (R74, R76, R77, R78): the dies fitted where AON was without supply, the Rp code of the host on U0, and
the strap samples.  The host sees the passive Rd, so U0_VBUS stands; the chain starts under 100 mA.  AON is out of Dormant
from the alarm's rise of RAIL_EN0 on (R76, R82; log entry 152). -/
def execDeadBatteryBoot (dies rp : Nat) (samples : List Nat) (testEn : Bool) (s : State) : Host.Outcome State Fault Refusal :=
  .next <|
    if s.passiveRd && (s.power.dormancy == .awake || (s.power.dormancy == .waking && s.fld F.PMU_RAILSTAT_RAIL_EN 0 ≠ 0)) then
      let s := if s.power.aon then s else s.aonFresh dies true
      let s := (s.resetTo 2 0).put F.PMU_RAILSTAT_DB_ACTIVE 0 true
      let s := { s with power := { s.power with hostRp := rp, inLimit := 100 } }
      (s.updPart 0 (fun r => { r with hostVbus := true })).bootTry samples testEn
    else s

/-- The state after the hand-over from dead-battery operation (R79). -/
def State.handedOver (s : State) : State :=
  if s.on F.PMU_RAILSTAT_DB_ACTIVE 0 then
    let s := (s.railsValid.put F.PMU_RAILSTAT_DB_ACTIVE 0 false).irq 17
    let s := { s with power := { s.power with inLimit := 0 } }
    let s := if s.domOn Dom.fabric then s.put F.PART_PSTAT_DBOP 0 false else s
    if s.firmware then
      (({ s with power := { s.power with broughtUp := false, portsAsked := false } }).logOther 0 0x01 []).requestDomains.requestPorts
    else s
  else s

/-- DEAD_BATTERY_HANDOVER (R79): without a reset; firmware logs it and continues the bring-up from step 9 of R72. -/
def execDeadBatteryHandover (s : State) : Host.Outcome State Fault Refusal := orOverlap s (s.handedOver)

/-- DEAD_BATTERY_LOSS (R79): the island loses supply; AON is kept where VDD18 or VBAT supplies it (R55, R84). -/
def execDeadBatteryLoss (vbatHolds : Bool) (s : State) : Host.Outcome State Fault Refusal :=
  .next <|
    if s.on F.PMU_RAILSTAT_DB_ACTIVE 0 then
      let s := s.updPart 0 (fun r => { r with hostVbus := false })
      let s := { s with power := { s.power with inLimit := 0 } }
      if vbatHolds || s.on F.PMU_RAILSTAT_VDD18_OK 0 then (s.put F.PMU_RAILSTAT_DB_ACTIVE 0 false).resetTo 5 0 else s.aonLost
    else s

/-- The records that wait are written to the ring. -/
def State.logFlush (s : State) : State := s.each (List.range s.log.queue.length) (fun s _ => s.logWrite)

/-- Step 5 of R81: the hot-swap gate is off and RAIL_EN2 low, and the last record, of Dormant entry (R415), is written. -/
def State.dormantGateOff (s : State) : State :=
  let s := (s.setHs .off).put F.PMU_RAILCTL_EN2 0 false
  let s := ((s.setFld F.PMU_RAILSTAT_RAIL_EN 0 3).irq 17).logSystem 4 []
  ({ s with power := { s.power with dormancy := .gateOff } }).logFlush

/-- Step 6 of R81: RAIL_EN1 falls, and with the BOOT rails, or the dead-battery chain, all that BOOT holds; on a board without
VBAT all supply of AON goes (R60). -/
def State.dormantRailsFall (s : State) (vbatHolds : Bool) : State :=
  if vbatHolds then
    let held := s.power.alarmHeld
    let s := (s.cleared 3).each [1, 2, 3, 4, 5, 6, 7, 8] (fun s r => s.setRail r false)
    let s := ((s.put F.PMU_RAILSTAT_BOOT_OK 0 false).put F.PMU_RAILSTAT_VCONN_OK 0 false).setFld F.PMU_RAILSTAT_RAIL_EN 0 1
    let s := s.put F.PMU_RAILSTAT_DB_ACTIVE 0 false
    { s with power := { s.power with inLimit := 0, dormancy := .railsFalling, alarmHeld := held, resetAge := s.power.resetAge + 960000 } }
  else s.aonLost

/-- Step 7 of R81: RAIL_EN0 falls and the part is in Dormant; a held alarm wakes it at once (R83). -/
def State.dormantFalls (s : State) : State :=
  let s := (s.setRail 0 false).setFld F.PMU_RAILSTAT_RAIL_EN 0 0
  { s with power := { s.power with dormancy := if s.power.alarmHeld then .waking else .asleep } }

/-- DORMANT_ENTRY_STEP (R59, R60, R81): step 5 once every domain but AON and BOOT reads off, then step 6, then step 7. -/
def execDormantEntryStep (vbatHolds : Bool) (s : State) : Host.Outcome State Fault Refusal :=
  .next <|
    match s.power.dormancy with
    | .entering =>
      if [2, 3, 4, 5, 6, 7, 8, 9, 10].all (fun d => !s.domOn d && !s.domChanging d) then s.dormantGateOff else s
    | .gateOff => s.dormantRailsFall vbatHolds
    | .railsFalling => s.dormantFalls
    | _ => s

/-- The alarm count (R90). -/
def State.alarm (s : State) : Nat := s.fld F.RTC_ALARM_LO_ALARM_LO 0 + 2 ^ 32 * s.fld F.RTC_ALARM_HI_ALARM_HI 0

/-- The alarm is reached (R82, R83, R90): asleep, RAIL_EN0 rises. -/
def State.alarmReached (s : State) : State :=
  let s := s.put F.RTC_ALARM_HI_ARM 0 false
  match s.power.dormancy with
  | .asleep =>
    let s := { s with power := { s.power with dormancy := .waking } }
    s.setFld F.PMU_RAILSTAT_RAIL_EN 0 1
  | .entering => ({ s with power := { s.power with alarmHeld := true } }).irq 14
  | .gateOff => ({ s with power := { s.power with alarmHeld := true } }).irq 14
  | .railsFalling => { s with power := { s.power with alarmHeld := true } }
  | .awake => s.irq 14
  | .waking => s

/-- RTC_ALARM_REACHED (R82, R83, R91): time runs on to the alarm's count; a count already passed is never reached. -/
def execRtcAlarmReached (s : State) : Host.Outcome State Fault Refusal :=
  .next <|
    let a := s.alarm
    if s.power.aon && s.on F.RTC_ALARM_HI_ARM 0 && decide (s.power.rtcCount ≤ a) then
      let s := if s.power.dormancy == .asleep then
          let age := s.power.resetAge + s.untilRtc (a - s.power.rtcCount)
          { s with power := { s.power with rtcCount := a, rtcPart := 0, resetAge := age } }
        else s.advance (s.untilRtc (a - s.power.rtcCount))
      s.alarmReached
    else s

/-- RAIL_EN_STEP (R59, R83): the end of the 20 ms hold of RAIL_EN0, then RAIL_EN1 1 ms later; a cause of before Dormant lies
more than 10 µs back (R71). -/
def execRailEnStep (s : State) : Host.Outcome State Fault Refusal :=
  .next <|
    if s.power.dormancy == .waking then
      let s := { s with power := { s.power with resetAge := s.power.resetAge + 960000 } }
      match s.fld F.PMU_RAILSTAT_RAIL_EN 0 with
      | 0 => s.setFld F.PMU_RAILSTAT_RAIL_EN 0 1
      | 1 => s.setFld F.PMU_RAILSTAT_RAIL_EN 0 3
      | _ => s
    else s

/-- VBAT_LOSS (R55, R84): AON loses its supply where it draws from VBAT. -/
def execVbatLoss (s : State) : Host.Outcome State Fault Refusal :=
  .next <|
    if s.power.aon && !s.on F.PMU_RAILSTAT_VDD18_OK 0 && !s.on F.PMU_RAILSTAT_DB_ACTIVE 0 then s.aonLost else s

/-- A BOOT rail other than the last invalid one becomes valid (R53, R54); the last is BOOT_RAILS_VALID or the handover of
R79. -/
def State.railRises (s : State) (rail : Nat) : State :=
  if !s.railOk rail && [0, 1, 2, 3, 4, 5, 6, 8].any (fun r => r != rail && !s.railOk r) then (s.setRail rail true).irq 17
  else s

/-- RAIL_MONITOR_CHANGE (R53, R229): 0 VCONN_IN, 1 VIO5, 2 VBAT against 1.90 V, 3 + r BOOT rail r.  VCONN goes off with its
rail and is applied again with it. -/
def execRailMonitorChange (which : Nat) (ok : Bool) (s : State) : Host.Outcome State Fault Refusal :=
  .next <|
    if s.power.aon then
      match which with
      | 0 =>
        let s := (s.put F.PMU_RAILSTAT_VCONN_OK 0 ok).irq 17
        s.each allPorts (fun s p => if s.live p then (if ok then s.vconnTry p else s.vconnOff p) else s)
      | 1 => ((s.putBit F.PMU_RAILSTAT_VIO_OK 0 4 ok).ppsSettle).irq 17
      | 2 => ((s.put F.PMU_RAILSTAT_VBAT_OK 0 ok).put F.RTC_STATUS_VBAT_LOW 0 (!ok)).irq 17
      | r + 3 =>
        if !isBootRail r then s
        else if ok then s.railRises r
        else if s.railOk r then s.railFalls r
        else s
    else s

/-- THERMAL_RESET (R67, R68, R71): a part reset wherever the part is supplied, held in reset or not; while a BOOT rail is invalid
only the cause joins those of the same 10 µs. -/
def execThermalReset (s : State) : Host.Outcome State Fault Refusal :=
  .next <|
    let s := { s with power := { s.power with hot := true } }
    if !s.power.aon then s else if s.bootSupplied then s.resetTo 0xA 0 else s.joinCause 0xA

/-- THERMAL_RESET_RELEASE (R46, R67): the boot runs on the strap word latched at the trigger, unless something else holds the
part. -/
def execThermalResetRelease (s : State) : Host.Outcome State Fault Refusal :=
  .next (({ s with power := { s.power with hot := false } }).tryBoot)

end Sys2Proof.Machine
end

