-- ==== Sys2Proof/Machine/SvcOps.lean ====
section
/-! DEFINITION. What the DMA channels, the QSPI host, the NVM controller and calibration share (R110, R368, R397, R399,
R421, R422, R427). -/

namespace Sys2Proof.Machine

/-- Change the service hardware. -/
def State.updHw (s : State) (f : SysHw → SysHw) : State := { s with hw := f s.hw }

/-! ### Loads (R92, R368) -/

/-- The address at which a byte of the trace window is kept, none where it reads 0 (R368); past SIZE with MEM = 1 it reads 0 too
(DESIGN CHOICE, log entry 163). -/
def State.traceWindow (s : State) (a : Nat) : Option Nat :=
  let o := s.fld F.TRC_WPAGE_PAGE 0 * 2 ^ 28 + (a - 0x80000000)
  if s.toBilberry then (if o < s.traceSize then some (bilberryAddr o) else none)
  else if o < 0x40000 then some (0x20087000 + o) else none

/-- A byte that master `m` loads: a register lane, a byte of the trace window, its own TCM, or memory (R92, R100). -/
def State.loadByte (s : State) (m a : Nat) : Nat :=
  if (homeAt a).isSome then s.readReg m (a / 4 * 4) / 256 ^ (a % 4) % 256
  else if 0x80000000 ≤ a ∧ a < 0x90000000 then (match s.traceWindow a with | some x => s.byte x | none => 0)
  else if 0x10000000 ≤ a ∧ a < 0x10080000 then s.byte (tcmAddr m (a - 0x10000000))
  else if 0x200F8000 ≤ a ∧ a < 0x20200000 then s.poolByte a
  else s.byte a

/-- The die of the absent block that an access meets (R111, R368). -/
def State.absentAt (s : State) (a : Nat) : Option Nat :=
  match homeAt a with
  | some h => if s.homeGone h then some h.die else none
  | none => if 0x80000000 ≤ a ∧ a < 0x90000000 ∧ s.traceOn = false then some 0 else none

/-- An access meets a block that stands behind a D2D link that is not UP: its die is fitted and its domain on, and it
answers an error (R440). -/
def State.linkLostAt (s : State) (a : Nat) : Bool := (homeAt a).any s.linkLost

/-! ### DMA channels (R397) -/

/-- The transfer of channel `d`. -/
def State.dmaAt (s : State) (d : Nat) : DmaHw := Tbl.at s.hw.dma d

/-- A write of SYS_DMACTL.GO (R397). -/
def State.dmaGo (s : State) (d : Nat) : State :=
  if s.on F.SYS_DMASTAT_BUSY d then s.incr F.SYS_DMACNT1_IGNORED d
  else
    let s := (s.put F.SYS_DMASTAT_BUSY d true).setFld F.SYS_DMASTAT_REMAIN d (max 1 (s.fld F.SYS_DMALEN_WORDS d))
    s.updHw (fun h => { h with dma := Tbl.put h.dma d ⟨4 * s.fld F.SYS_DMASRC_ADDR d, 4 * s.fld F.SYS_DMADST_ADDR d, false⟩ })

/-! ### The QSPI host (R399) -/

/-- The hash ends: with a digest, or by an out-of-order read (R399). -/
def State.hashEnd (s : State) (ok : Bool) : State :=
  let s := s.put F.QSPI_STAT_HBUSY 0 false
  if ok then s.showHash (s.fld F.QSPI_HSTART_VALUE 0) (s.fld F.QSPI_HLEN_VALUE 0)
  else (s.setFld F.QSPI_HCTL_HRESULT 0 2).irq 27

/-- A run of `n` bytes is read from flash offset `o` in ascending order (R399). -/
def State.hashRead (s : State) (o n : Nat) : State :=
  let a := s.fld F.QSPI_HSTART_VALUE 0
  let b := a + s.fld F.QSPI_HLEN_VALUE 0
  let lo := max o a
  let hi := min (o + n) b
  if s.on F.QSPI_STAT_HBUSY 0 && decide (lo < hi) then
    if lo = s.hw.qspi.hashFrom then
      let s := s.updHw (fun h => { h with qspi := { h.qspi with hashFrom := hi } })
      if hi = b then s.hashEnd true else s
    else s.hashEnd false
  else s

/-- A write of QSPI_HCTL.START arms the hash (R399); an empty range ends at once. -/
def State.hashStart (s : State) : State :=
  let a := s.fld F.QSPI_HSTART_VALUE 0
  let n := s.fld F.QSPI_HLEN_VALUE 0
  let s := (s.put F.QSPI_STAT_HBUSY 0 true).setFld F.QSPI_HCTL_HRESULT 0 0
  let s := s.updHw (fun h => { h with qspi := { h.qspi with hashFrom := a, hashLen := n } })
  if n = 0 then s.hashEnd true else s

/-- QSPI_OPCTL.LEN: 0 acts as 256 (R399). -/
def State.qspiLen (s : State) : Nat :=
  let n := s.fld F.QSPI_OPCTL_LEN 0
  if n = 0 then 256 else min 256 n

/-- A write of QSPI_OPCTL.GO with an OP (R399); with one under way the outcome is open (R395). -/
def State.qspiGo (s : State) (op : Nat) : State :=
  if s.on F.QSPI_STAT_OPBUSY 0 then
    let (n, s) := s.drawNat
    s.setFld F.QSPI_OPRES_RESULT 0 n
  else if op = 0 ∨ 3 < op then s
  else
    let a := s.fld F.QSPI_OPADDR_ADDR 0
    let from' := if op = 1 then a / 4096 * 4096 else if op = 2 then a / 65536 * 65536 else a
    let n := if op = 1 then 4096 else if op = 2 then 65536 else s.qspiLen
    if decide (2 ^ s.fld F.QSPI_STAT_SIZE 0 < from' + n) || (decide (op = 3) && decide (256 < a % 256 + n)) then
      ((s.setFld F.QSPI_OPRES_RESULT 0 3).incr F.QSPI_CNT_FAILS 0).irq 27
    else
      (s.put F.QSPI_STAT_OPBUSY 0 true).updHw (fun h => { h with qspi := { h.qspi with op := op, addr := from', len := n } })

/-- Erase `n` bytes from an address: they read 0xFF, which is what NVM and flash read where nothing is listed. -/
def State.eraseBytes (s : State) (a n : Nat) : State :=
  { s with mem := s.mem.filter (fun e => decide (e.1 < a) || decide (a + n ≤ e.1)) }

/-- Program bytes at an address: a bit changes only from 1 to 0 (R427); whether every byte reads back as given. -/
def State.programBytes (s : State) (a : Nat) (data : List Nat) : Bool × State :=
  let now := s.readBytes a data.length
  let new := (now.zip data).map (fun e => Nat.land e.1 e.2)
  (decide (new = data.map (· % 256)), s.writeBytes a new)

/-- The flash operation under way ends (R399): `good` says that the flash did what it was told. -/
def State.qspiEnd (s : State) (good : Bool) : State :=
  if s.on F.QSPI_STAT_OPBUSY 0 then
    let q := s.hw.qspi
    let a := flashAddr q.addr
    let s := s.put F.QSPI_STAT_OPBUSY 0 false
    let (ok, s) := if !good then
        let (l, s) := s.freeBytes q.len
        (false, s.writeBytes a l)
      else if q.op = 3 then
        s.programBytes a (((List.range 64).flatMap (fun j => le 4 (s.fld F.QSPI_PBUF_DATA j))).take q.len)
      else (true, s.eraseBytes a q.len)
    ((s.setFld F.QSPI_OPRES_RESULT 0 (if ok then 1 else 2)).incr (if ok then F.QSPI_CNT_OPS else F.QSPI_CNT_FAILS) 0).irq 27
  else s

/-! ### The NVM controller (R427) -/

/-- A write of CAL_NVMCTL.GO with an OP (R427, R428): ignored while an operation runs, refused on the factory sector. -/
def State.nvmGo (s : State) (op : Nat) : State :=
  let row := s.fld F.CAL_NVMADDR_ROW 0
  if s.on F.CAL_NVMSTAT_BUSY 0 || s.on F.CAL_STAT_COMMIT 0 || decide (op = 0) || decide (3 ≤ op) then s
  else if row < 16 then ((s.setFld F.CAL_NVMSTAT_RESULT 0 2).incr F.CAL_NVMCNT_FAILS 0).irq 28
  else (s.put F.CAL_NVMSTAT_BUSY 0 true).updHw (fun h => { h with nvm := { h.nvm with op := op, row := row } })

/-- The NVM operation under way ends (R427): a row already programmed since its sector's erase takes no second program. -/
def State.nvmEnd (s : State) (good : Bool) : State :=
  if s.on F.CAL_NVMSTAT_BUSY 0 then
    let n := s.hw.nvm
    let a := 0x08000000 + 256 * n.row
    let s := s.put F.CAL_NVMSTAT_BUSY 0 false
    let (ok, s) := if n.row < 16 then (false, s)
      else if !good then
        let (l, s) := s.freeBytes 256
        (false, s.writeBytes a l)
      else if n.op = 1 then
        let s := s.updHw (fun h => { h with nvm := { h.nvm with programmed := h.nvm.programmed.filter (fun r =>
          decide (r / 16 ≠ n.row / 16)) } })
        (true, s.eraseBytes (a / 4096 * 4096) 4096)
      else if n.programmed.contains n.row then (false, s)
      else
        let s := s.updHw (fun h => { h with nvm := { h.nvm with programmed := n.row :: h.nvm.programmed } })
        s.programBytes a ((List.range 64).flatMap (fun j => le 4 (s.fld F.CAL_NVMBUF_DATA j)))
    ((s.setFld F.CAL_NVMSTAT_RESULT 0 (if ok then 1 else 3)).incr (if ok then F.CAL_NVMCNT_OPS else F.CAL_NVMCNT_FAILS) 0).irq
      28
  else s

/-! ### Calibration commit (R422) -/

/-- The part stamps a set that is to be committed: GEN, ORIGIN, CT and CRC (R419, R422). -/
def calStamp (b : List Nat) (gen ct : Nat) : List Nat :=
  let b := b.take 8 ++ le 4 gen ++ [1] ++ (b.drop 0xD).take 3 ++ le 8 ct ++ (b.drop 0x18).take 0x494
  b ++ le 4 (crc32 b)

/-- The commit under way ends (R422): on a good read-back the shadow takes the set, and firmware reloads the thermal group
of every powered port. -/
def State.calCommitEnd (s : State) (good : Bool) : State :=
  if s.on F.CAL_STAT_COMMIT 0 then
    let b := s.hw.cal.commit
    let s := (s.put F.CAL_STAT_COMMIT 0 false).irq 28
    let s := s.eraseBytes calAddr 4096
    if good then
      let s := ((s.writeBytes calAddr b).calTake b).add F.CAL_NVMCNT_OPS 0 6
      let s := s.updHw (fun h => { h with nvm := { h.nvm with
        programmed := [0x7F0, 0x7F1, 0x7F2, 0x7F3, 0x7F4] ++ h.nvm.programmed.filter (fun r => decide (r / 16 ≠ 0x7F)) } })
      s.each allPorts (fun s p => if s.live p then s.calPort p else s)
    else
      let (l, s) := s.freeBytes 1200
      (((s.writeBytes calAddr l).put F.CAL_STAT_NVMOK 0 false).incr F.CAL_NVMCNT_FAILS 0).raise (quinceSource 0x24 1) 0 0
  else s

/-! ### Snapshots (R109, R110) -/

/-- The snapshot fields of a block: 0 RTC, 1 GOV, 2 CHORD, 3 TRC, 4 + n ADC of Currant n: VALID, SEL, LO, HI and copy. -/
def snapFields (k : Nat) : Field × Field × Field × Field × Nat :=
  match k with
  | 0 => (F.RTC_SNAP_VALID, F.RTC_SNAP_SEL, F.RTC_SNAP_LO_VALUE, F.RTC_SNAP_HI_VALUE, 0)
  | 1 => (F.GOV_SNAP_VALID, F.GOV_SNAP_SEL, F.GOV_SNAP_LO_VALUE, F.GOV_SNAP_HI_VALUE, 0)
  | 2 => (F.CHORD_SNAP_VALID, F.CHORD_SNAP_SEL, F.CHORD_SNAP_LO_VALUE, F.CHORD_SNAP_HI_VALUE, 0)
  | 3 => (F.TRC_SNAP_VALID, F.TRC_SNAP_SEL, F.TRC_SNAP_LO_VALUE, F.TRC_SNAP_HI_VALUE, 0)
  | n => (F.ADC_SNAP_VALID, F.ADC_SNAP_SEL, F.ADC_SNAP_LO_VALUE, F.ADC_SNAP_HI_VALUE, n - 4)

/-- The value that SEL names (R90, R297, R316, R348, R371). -/
def State.snapValue (s : State) (k sel : Nat) : Nat :=
  match k with
  | 0 => if sel = 0 then s.power.rtcCount else s.fld64 F.RTC_EPOCH_LO_EPOCH F.RTC_EPOCH_HI_EPOCH 0
  | 1 => (if sel = 0 then s.govHw.energy else s.govHw.delivered) / 25000000
  | 2 => match sel with
    | 1 => s.chord.lastStepCt
    | 2 => ofInt 64 s.chord.lastStep
    | _ => s.ct
  | 3 => match sel with
    | 0 => s.trc.wr
    | 1 => s.trc.rd
    | 2 => s.trc.oldest
    | _ => s.trc.trigPos
  | n =>
    let r := s.pwr.at (8 * (n - 4) + sel / 2 + 1)
    (if sel % 2 = 0 then r.delivered else r.taken) / 25000000

/-- The block of a snapshot is on. -/
def State.snapOn (s : State) (k : Nat) : Bool :=
  if k = 0 then s.power.aon else if k ≤ 2 then true else if k = 3 then s.traceOn
  else decide (k < 8) && s.currantFitted (k - 4) && s.domOn (Dom.ports (k - 4))

/-- The pending capture of a block is made (R110). -/
def State.snapTake (s : State) (k : Nat) : State :=
  let x := Tbl.at s.snaps k
  let f := snapFields k
  let v := s.snapValue k x.sel % 2 ^ 64
  let s := { s with snaps := Tbl.put s.snaps k ⟨v, false, 0⟩ }
  ((s.setFld f.2.2.1 f.2.2.2.2 (v % 2 ^ 32)).setFld f.2.2.2.1 f.2.2.2.2 (v / 2 ^ 32)).put f.1 f.2.2.2.2 true

/-- The snapshot whose HI register lies at an address (R110). -/
def snapHiAt (a : Nat) : Option Nat :=
  match homeAt a with
  | some h => match regAt h (normalAddr h (a / 4 * 4)) with
    | some (r, i) =>
      if r.reg = F.RTC_SNAP_HI_VALUE.id / 32 then some 0
      else if r.reg = F.GOV_SNAP_HI_VALUE.id / 32 then some 1
      else if r.reg = F.CHORD_SNAP_HI_VALUE.id / 32 then some 2
      else if r.reg = F.TRC_SNAP_HI_VALUE.id / 32 then some 3
      else if r.reg = F.ADC_SNAP_HI_VALUE.id / 32 then some (4 + i)
      else none
    | none => none
  | none => none

/-- A read that includes a lane of HI clears VALID (R100, R110). -/
def State.snapRead (s : State) (k : Nat) : State := if s.snapOn k then s.put (snapFields k).1 (snapFields k).2.2.2.2 false else s

/-- A read of the trace window: the word of the store that it corrects is counted (R362); whether the word holds an error is
a free value (log entry 146). -/
def State.windowRead (s : State) (a : Nat) : State :=
  if 0x80000000 ≤ a ∧ a < 0x90000000 ∧ s.traceOn = true ∧ (s.traceWindow a).isSome = true then
    let (n, s) := s.drawNat
    s.traceFixed (s.fld F.TRC_WPAGE_PAGE 0 * 2 ^ 28 + (a - 0x80000000)) (bit01 (n % 3 == 1)) (bit01 (n % 3 == 2))
  else s

/-- What a read of an address makes the part do: only a snapshot's HI register and the trace window do anything (R100,
R362). -/
def State.afterRead (s : State) (a : Nat) : State :=
  match snapHiAt a with
  | some k => s.snapRead k
  | none => s.windowRead a

/-- A write of REQ (R110): CT and the trace pointers are captured on this edge, a request while one is pending merges into
it. -/
def State.snapReq (s : State) (k : Nat) : State :=
  if s.snapOn k && !(Tbl.at s.snaps k).pending then
    let f := snapFields k
    let s := { s with snaps := Tbl.upd s.snaps k (fun x => { x with pending := true, sel := s.fld f.2.1 f.2.2.2.2 }) }
    if k = 2 ∨ k = 3 then s.snapTake k else s
  else s

end Sys2Proof.Machine
end

