-- ==== Sys2Proof/Machine/Clock.lean ====
section
/-! DEFINITION. Clock, temperature, domain, D2D link and protection commands (R19, R63 to R67, R86, R111 to R117, R120,
R484, R485). -/

namespace Sys2Proof.Machine

/-! ### References (R63, R64) -/

/-- PLL_LOCK (R63, R72, R85). -/
def execPllLock (s : State) : Host.Outcome State Fault Refusal := .next s.pllLock

/-- The PLL takes up a reference after the loss of the other (R64): logged, and its fault source raises an event. -/
def State.takeReference (s : State) (viaLink : Bool) : State :=
  let s := { s with power := { s.power with refHold := false } }
  let s := (s.put F.PMU_CLKSTAT_REF_ACTIVE 0 viaLink).logTime 4 (le 4 (bit01 viaLink))
  s.raise (quinceSource 0x01 0) 0 0

/-- REFERENCE_LOST (R64): the PLL moves to the other reference where that is running, else holds its frequency. -/
def execReferenceLost (s : State) : Host.Outcome State Fault Refusal :=
  .next <|
    if s.on F.PMU_CLKSTAT_PLL_LOCK 0 && !s.power.refHold then
      let viaLink := s.on F.PMU_CLKSTAT_REF_ACTIVE 0
      let s := s.put (if viaLink then F.PMU_CLKSTAT_REC_OK else F.PMU_CLKSTAT_XO_OK) 0 false
      if s.on (if viaLink then F.PMU_CLKSTAT_XO_OK else F.PMU_CLKSTAT_REC_OK) 0 then s.takeReference (!viaLink)
      else { s with power := { s.power with refHold := true } }
    else s

/-- REFERENCE_RETURN (R63, R64): the 24 MHz source, or the recovered reference where `viaLink`; an Apex uses the 24 MHz source
alone. -/
def execReferenceReturn (viaLink : Bool) (s : State) : Host.Outcome State Fault Refusal :=
  .next <|
    if s.power.boot != .off && !(viaLink && s.apex) then
      let s := s.put (if viaLink then F.PMU_CLKSTAT_REC_OK else F.PMU_CLKSTAT_XO_OK) 0 true
      if s.power.refHold then s.takeReference viaLink else s
    else s

/-- CLOCK_LOSS (R64): no reference returned within the hold. -/
def execClockLoss (s : State) : Host.Outcome State Fault Refusal :=
  .next (if s.power.refHold then s.partReset 0xB 0 else s)

/-- RECOVERED_REFERENCE_SWITCH (R63): a Vertex under AUTO whose up-link has locked; CT does not step. -/
def execRecoveredReferenceSwitch (s : State) : Host.Outcome State Fault Refusal :=
  .next <|
    if s.on F.PMU_CLKSTAT_PLL_LOCK 0 && s.on F.PMU_CLKCTL_AUTO 0 && !s.apex && s.on F.PMU_CLKSTAT_REC_OK 0 && s.upActive then
      s.put F.PMU_CLKSTAT_REF_ACTIVE 0 true
    else s

/-- EPOCH_TRACK_UPDATE (R85, R86): at the next RTC edge RTC_EPOCH takes what makes R85 give the CT of that edge. -/
def execEpochTrackUpdate (s : State) : Host.Outcome State Fault Refusal :=
  .next <|
    if s.power.aon && decide (s.sync = 2) then
      let s := s.advance (s.untilRtc 1)
      s.setFld64 F.RTC_EPOCH_LO_EPOCH F.RTC_EPOCH_HI_EPOCH 0
        ((s.ct + 2 ^ 64 - s.power.rtcCount * 234375 / 8 % 2 ^ 64) % 2 ^ 64)
    else s

/-! ### Temperatures (R67, R484) -/

/-- THROTTLE_STAGE_CHANGE (R67, R384, R415): stage 2 keeps TRACE off. -/
def execThrottleStageChange (stage : Nat) (s : State) : Host.Outcome State Fault Refusal :=
  .next <|
    if s.power.boot != .off && decide (stage ≤ 2) && decide (stage ≠ s.fld F.PMU_CLKSTAT_THROTTLE 0) then
      (((s.setFld F.PMU_CLKSTAT_THROTTLE 0 stage).irq 16).logPower 9 (le 4 stage)).domFollow Dom.trace
    else s

/-- A port of a Currant at SHUTDOWN (R484): its fuse goes off by the normal path and is held in RETRYWAIT, with no retry
spent and no Hard Reset. -/
def State.hotOff (s : State) (p : Nat) : State :=
  if s.live p && s.pwrIn p sourcing then (s.setPwr p .retryWait).contractEnd p
  else if s.live p && s.pwrIs p .sink then (s.sinkOpen p).contractEnd p
  else s

/-- CURRANT_DIE_TEMP_STAGE (R121, R384, R415, R484): die 0 to 3 a Currant, 4 Sloe; stage 0 normal, 1 HOT, 2 SHUTDOWN; the
die's temperature in 0.1 °C, which TDIE shows.  Sloe has no SHUTDOWN. -/
def execCurrantDieTempStage (d stage : Nat) (tdie : Int) (s : State) : Host.Outcome State Fault Refusal :=
  .next <|
    let stage := if d = 4 then min 1 stage else min 2 stage
    let was := if s.on F.DIE_STAT_SHUTDOWN d then 2 else if s.on F.DIE_STAT_HOT d then 1 else 0
    if decide (d < 5) && s.dieOn (d + 1) && !s.dieAbsent (d + 1) then
      let s := s.setFld F.DIE_STAT_TDIE d (ofInt 16 tdie)
      if stage = was then s
      else
        let s := (s.put F.DIE_STAT_HOT d (decide (1 ≤ stage))).put F.DIE_STAT_SHUTDOWN d (decide (stage = 2))
        let s := if was = 0 then s.incr F.DIE_CNT_HOTS d else s
        let s := if stage = 2 then s.incr F.DIE_CNT_SHUTDOWNS d else s
        let s := s.logPower 10 ([d + 1, stage] ++ le 2 (ofInt 16 tdie))
        if d = 4 then s
        else
          let s := s.irq (5 + d)
          if stage = 2 then s.each (portsOf d) State.hotOff else s
    else s

/-! ### Domains (R65, R485) -/

/-- The state after domain `d` switched on (R65). -/
def State.switchedOn (s : State) (d : Nat) : State :=
  if decide (2 ≤ d ∧ d ≤ 10) && s.domChanging d && !s.domOn d then s.domBegin d else s

/-- DOMAIN_SWITCH_ON (R65). -/
def execDomainSwitchOn (d : Nat) (s : State) : Host.Outcome State Fault Refusal := orOverlap s (s.switchedOn d)

/-- DOMAIN_SWITCH_OFF (R485). -/
def execDomainSwitchOff (d : Nat) (s : State) : Host.Outcome State Fault Refusal :=
  .next (if decide (2 ≤ d ∧ d ≤ 10) && s.domLeaving d && s.domMayEnd d then s.domEnd d else s)

/-! ### D2D links (R19, R120) -/

/-- The ports of the Currant of link `d`. -/
def linkPorts (d : Nat) : List Nat := if 1 ≤ d ∧ d ≤ 4 then portsOf (d - 1) else []

/-- D2D_FRAME_RESEND (R120): `dup` says that both copies of a dispatch frame failed. -/
def execD2dFrameResend (d : Nat) (dup : Bool) (s : State) : Host.Outcome State Fault Refusal :=
  .next <|
    if decide (1 ≤ d ∧ d ≤ 7) && decide (s.fld F.D2D_LSTAT_STATE d = 3) then
      let s := s.incr F.D2D_LCNT0_RETRIES d
      let s := if d ≤ 4 then s.irq (4 + d) else s
      if dup then (s.incr F.D2D_LCNT1_DUPFAIL d).logOther 0 0x20 [d] else s
    else s

/-- D2D_LINK_LOST (R120): no register of the Currant's ports is reached, and their switches no longer carry data. -/
def execD2dLinkLost (d : Nat) (s : State) : Host.Outcome State Fault Refusal :=
  .next <|
    if decide (1 ≤ d ∧ d ≤ 7) && decide (s.fld F.D2D_LSTAT_STATE d = 3) then
      ((s.setD2d d 4).irq 26).each (linkPorts d) (fun s p => if s.live p then s.refresh p else s)
    else s

/-- Firmware restores a port that a D2D loss turned off (R19). -/
def State.d2dBack (s : State) (p : Nat) : State :=
  if s.live p then ((s.updPwr p (fun r => { r with d2dOff := false })).pwrUpdate p).refresh p else s

/-- The record of a Currant's loss longer than 1 ms, which the collector writes when the link is back (R19): an EVENT of the
link's source as it stands (log entry 128). -/
def State.d2dRecord (s : State) (d : Nat) : State :=
  let id := quinceSource 0x20 d
  if s.power.d2dLong.contains d then
    let s := { s with power := { s.power with d2dLong := s.power.d2dLong.filter (· != d) } }
    s.logRec id 1 (le 2 (s.fcAt id).count ++ [match (s.fcAt id).st with | .ok => 0 | .minor => 1 | .fault => 2, (s.fcAt id).react])
  else s

/-- D2D_LINK_RETRAINED (R19, R120): the link is up; ports that its loss turned off stay so until system firmware restores
them.  LOSSES alone counts a link that retrains; TRAINS counts the trainings of a domain that comes on (log entry 129). -/
def execD2dLinkRetrained (d : Nat) (s : State) : Host.Outcome State Fault Refusal :=
  .next <|
    if decide (1 ≤ d ∧ d ≤ 7) && decide (s.fld F.D2D_LSTAT_STATE d = 4) then
      let s := (((s.setD2d d 3).irq 26).incr F.D2D_LCNT0_LOSSES d).d2dRecord d
      s.each (linkPorts d) (fun s p =>
        if s.firmware then s.d2dBack p else if s.live p then s.refresh p else s)
    else s

/-- The Currant turns a port off after a loss of 1 ms, from any state of its stage (R19, R287). -/
def State.d2dGone (s : State) (p : Nat) : State :=
  if s.live p then
    ((((s.updPwr p (fun r => { r with d2dOff := true })).sinkOpen p).setPwr p .off).contractEnd p).refresh p
  else s

/-- D2D_LOSS_1MS (R19, R120, R401). -/
def execD2dLoss1ms (d : Nat) (s : State) : Host.Outcome State Fault Refusal :=
  .next <|
    if decide (1 ≤ d ∧ d ≤ 7) && decide (s.fld F.D2D_LSTAT_STATE d = 4) && !s.power.d2dLong.contains d then
      let s := { s with power := { s.power with d2dLong := if d ≤ 4 then d :: s.power.d2dLong else s.power.d2dLong } }
      (s.raise (quinceSource 0x20 d) 0 0).each (linkPorts d) State.d2dGone
    else s

/-- D2D_LINK_TRAINED (R120). -/
def execD2dLinkTrained (d : Nat) (s : State) : Host.Outcome State Fault Refusal :=
  .next <|
    if decide (1 ≤ d ∧ d ≤ 7) && decide (s.fld F.D2D_LSTAT_STATE d = 2) then
      ((s.setD2d d 3).incr F.D2D_LCNT1_TRAINS d).each (linkPorts d) (fun s p => if s.live p then s.refresh p else s)
    else s

/-! ### Absent blocks and protection (R111, R115 to R117) -/

/-- ABSENT_BLOCK_ACCESS (R111): the access lies in the windows of master `m`, is a load or a store, and decodes to a block
that is not there. -/
def execAbsentBlockAccess (m a n : Nat) (k : Acc) (s : State) : Host.Outcome State Fault Refusal :=
  .next <|
    match s.absentAt a with
    | some die => if decide (m ≤ 10) && decide (s.violates m a n k = 0) then s.absentAccess die else s
    | none => s

/-- A violation of master `m`, 1 to 10 (R115): recorded, and the master is frozen with its access. -/
def State.violation (s : State) (m a n : Nat) (k : Acc) : State :=
  let reason := s.violates m a n k
  if decide (1 ≤ m ∧ m ≤ 10) && decide (reason ≠ 0) && !s.bit F.MPU_FREEZE_FROZEN 0 m then
    let s := (s.recordViolation m a n k (reason - 1)).freeze m
    { s with frozen := Tbl.put s.frozen m ⟨a, k == .store⟩ }
  else s

/-- VIOLATION (R115). -/
def execViolation (m a n : Nat) (k : Acc) (s : State) : Host.Outcome State Fault Refusal := .next (s.violation m a n k)

/-- CORE0_VIOLATION (R117). -/
def execCore0Violation (a n : Nat) (k : Acc) (s : State) : Host.Outcome State Fault Refusal :=
  .next <|
    let reason := s.violates 0 a n k
    if s.coreRuns 0 && decide (reason ≠ 0) then (s.recordViolation 0 a n k (reason - 1)).partReset 7 0 else s

/-- THAW (R116): a write of MPU_THAW with these bits. -/
def execThaw (mask : Nat) (s : State) : Host.Outcome State Fault Refusal :=
  .next (s.each ((List.range 11).filter (fun m => mask.testBit m)) State.thaw)

end Sys2Proof.Machine
end

