-- ==== Sys2Proof/Machine/Cores.lean ====
section
/-! DEFINITION. Core and interrupt controller commands (R373 to R396). -/

namespace Sys2Proof.Machine

/-! ### Interrupts (R385 to R391) -/

/-- INTERRUPT_EDGE (R385): of source `n`, with the GPIO inputs at the levels `pins`; GPIO0 to GPIO3 need VIO5 (R42). -/
def execInterruptEdge (n pins : Nat) (s : State) : Host.Outcome State Fault Refusal :=
  .next <|
    let s := { s with power := { s.power with gpio := pins % 256 } }
    if decide (176 ≤ n ∧ n < 180) && !s.bit F.PMU_RAILSTAT_VIO_OK 0 4 then s else s.irq n

/-- The entry sequence of core `c` (R387): the level, or a null entry. -/
def State.icEntry (s : State) (c : Nat) : State :=
  let l := s.entryLevel c
  if l = 0 then (s.put F.IC_LVL_NULL c true).incr F.IC_CNT_NULLENT c
  else
    let cur := s.fld F.IC_LVL_CURLVL c
    let s := (s.updCore c (fun r => { r with levels := cur :: r.levels })).setFld F.IC_LVL_CURLVL c l
    ((s.setFld F.IC_LVL_ENTRY c l).put F.IC_LVL_NULL c false).levelShow c

/-- INTERRUPT_ENTRY (R374, R387): core `c` at the instruction of `pc`, with mstatus.MIE as `mie`; a full trap stack takes
no trap and no entry. -/
def execInterruptEntry (c pc : Nat) (mie : Bool) (s : State) : Host.Outcome State Fault Refusal :=
  .next <|
    if s.coreRuns c && (mie || s.on F.IC_LVL_WFI c) then
      if 16 ≤ (s.cores.at c).traps.length then s.trapOverflow c
      else ((s.put F.IC_LVL_WFI c false).icEntry c).trap c pc 0x8000000B true mie
    else s

/-- A write of IC_COMPLETE of core `c` (R388). -/
def State.icComplete (s : State) (c level : Nat) : State :=
  match (s.cores.at c).levels with
  | top :: rest =>
    if s.fld F.IC_LVL_CURLVL c = level % 16 then
      ((s.updCore c (fun r => { r with levels := rest })).setFld F.IC_LVL_CURLVL c top).levelShow c
    else (s.incr F.IC_CNT_STKERR c).raise (quinceSource 0x38 (16 + c)) 0 0
  | [] => (s.incr F.IC_CNT_STKERR c).raise (quinceSource 0x38 (16 + c)) 0 0

/-- IC_COMPLETE (R388). -/
def execIcComplete (c level : Nat) (s : State) : Host.Outcome State Fault Refusal :=
  .next (if decide (c ≤ 4) then s.icComplete c level else s)

/-- MODERATION_EXPIRY (R391): the delay of source `n` has passed, or its core, in WFI, makes it eligible. -/
def execModerationExpiry (n : Nat) (wfi : Bool) (s : State) : Host.Outcome State Fault Refusal :=
  .next <|
    if s.irqPending n && decide (n < 256) then
      let c := s.fld F.IC_SRC_TARGET n
      let s := if wfi && s.coreRuns c then s.put F.IC_LVL_WFI c true else s
      if s.hw.ready.contains n || wfi then s else { s with hw := { s.hw with ready := s.hw.ready ++ [n] } }
    else s

/-- IC_TIMER_WRITE (R396). -/
def execIcTimerWrite (c count : Nat) (s : State) : Host.Outcome State Fault Refusal :=
  .next (if decide (c ≤ 4) then s.setFld F.IC_TIMER_COUNT c count else s)

/-- IC_TIMER_ZERO (R384, R396). -/
def execIcTimerZero (c : Nat) (s : State) : Host.Outcome State Fault Refusal :=
  .next <|
    if decide (c ≤ 4) && decide (s.fld F.IC_TIMER_COUNT c ≠ 0) then (s.setFld F.IC_TIMER_COUNT c 0).irq (162 + c) else s

/-! ### Watchdogs (R373, R396) -/

/-- A kick of the watchdog of core `c` (R396): it reloads, and the first kick after a write of WDTMO starts it. -/
def State.kick (s : State) (c : Nat) : State :=
  let w := s.fld F.IC_CORECTL_WDTMO c
  if w = 0 then s else (s.setFld F.IC_KICK_REMAIN c w).updCore c (fun r => { r with watch := true })

/-- IC_KICK (R396). -/
def execIcKick (c : Nat) (s : State) : Host.Outcome State Fault Refusal := .next (if decide (c ≤ 4) then s.kick c else s)

/-- WATCHDOG_HALF (R384). -/
def execWatchdogHalf (c : Nat) (s : State) : Host.Outcome State Fault Refusal :=
  .next <|
    if decide (c ≤ 4) && (s.cores.at c).watch then
      (s.setFld F.IC_KICK_REMAIN c (s.fld F.IC_CORECTL_WDTMO c / 2)).irq (167 + c)
    else s

/-- WATCHDOG_EXPIRY (R68, R373, R383). -/
def execWatchdogExpiry (c : Nat) (s : State) : Host.Outcome State Fault Refusal :=
  .next <|
    if decide (c ≤ 4) && (s.cores.at c).watch then
      if c = 0 then s.partReset 8 0
      else ((s.setFld F.IC_KICK_REMAIN c 0).updCore c (fun r => { r with watch := false })).serviceReset c 2
    else s

/-! ### Traps (R373, R374) -/

/-- TRAP_STACK_OVERFLOW (R374). -/
def execTrapStackOverflow (c : Nat) (s : State) : Host.Outcome State Fault Refusal :=
  .next (if s.coreRuns c && decide (16 ≤ (s.cores.at c).traps.length) then s.trapOverflow c else s)

/-- SYNCHRONOUS_EXCEPTION (R374): at the instruction of `pc`, with this mcause, and MIE as it stood. -/
def execSynchronousException (c pc cause : Nat) (mie : Bool) (s : State) : Host.Outcome State Fault Refusal :=
  .next (if s.coreRuns c then s.trap c pc cause false mie else s)

/-- MRET (R374): mepc, mcause and MPIE come back from the stack, and MIE takes MPIE. -/
def execMret (c : Nat) (s : State) : Host.Outcome State Fault Refusal :=
  .next <|
    if s.coreRuns c then
      match (s.cores.at c).traps with
      | (pc, cause, mpie) :: rest =>
        s.updCore c (fun r => { r with mie := r.mpie, traps := rest, mepc := pc, mcause := cause, mpie := mpie })
      | [] => s
    else s

/-- TCM_UNCORRECTABLE (R373): a fetch or a load of core `c` at `pc` takes an access fault. -/
def execTcmUncorrectable (c pc a : Nat) (fetch mie : Bool) (s : State) : Host.Outcome State Fault Refusal :=
  .next <|
    if s.coreRuns c then (s.trap c pc (if fetch then 1 else 5) false mie).raise (quinceSource 0x38 c) a 0 else s

/-! ### Reset and images (R379 to R383) -/

/-- A write of IC_CORECTL.RESET of core `c` (R383, R396): core 0 ignores it; a released core runs its ROM loader. -/
def State.coreReset (s : State) (c : Nat) (hold : Bool) : State :=
  if 1 ≤ c ∧ c ≤ 4 then
    if hold then s.serviceReset c 0
    else if s.on F.IC_CORECTL_RESET c && s.domOn Dom.service && !s.domChanging Dom.service then
      ((s.put F.IC_CORECTL_RESET c false).put F.IC_CORECTL_RUNNING c true).updCore c (fun r => { r with stage := .loading })
    else s
  else s

/-- CORECTL_RESET_WRITE (R383). -/
def execCorectlResetWrite (c : Nat) (hold : Bool) (s : State) : Host.Outcome State Fault Refusal := .next (s.coreReset c hold)

/-- SERVICE_CORE_RESET (R383): `why` is the cause's place in its list. -/
def execServiceCoreReset (c why : Nat) (s : State) : Host.Outcome State Fault Refusal := .next (s.serviceReset c why)

/-- The state after firmware loaded the selected image of core `c` (R381). -/
def State.imageLoaded (s : State) (c : Nat) : State :=
  if decide (1 ≤ c ∧ c ≤ 4) && s.firmware && s.domOn Dom.service && !s.domChanging Dom.service then
    if (s.cores.at c).stage == .off then
      ((s.updCore c (fun r => { r with reloaded := false })).loadImage c (s.cores.at c).selected).requestPorts
    else s
  else s

/-- POLICY_IMAGE_LOAD (R381): firmware loads the selected image of core `c`. -/
def execPolicyImageLoad (c : Nat) (s : State) : Host.Outcome State Fault Refusal := orOverlap s (s.imageLoaded c)

/-- The start descriptor of core `c` holds what R378 allows (R382). -/
def State.descriptorOk (s : State) (c : Nat) : Bool :=
  let d := descriptor c
  let size := s.word (d + 8)
  let entry := s.word (d + 12)
  decide (s.word d = 0x53544152) && decide (s.word (d + 4) = 0x20000000)
    && decide (size % 4 = 0 ∧ 4 ≤ size ∧ size ≤ 262144) && decide (entry % 2 = 0 ∧ entry < size)

/-- The state after the loader of core `c` ran on GO (R381). -/
def State.loaderGone (s : State) (c : Nat) : State :=
  let d := descriptor c
  if decide (1 ≤ c ∧ c ≤ 4) && s.coreRuns c && (s.cores.at c).stage == .loading && s.descriptorOk c
      && decide (s.word (d + 16) = 1) then
    let s := s.writeBytes (tcmAddr c 0) (s.readBytes (s.word (d + 4)) (s.word (d + 8)))
    (s.updCore c (fun r => { r with stage := .running, mie := false })).requestPorts
  else s

/-- LOADER_GO (R381): the body stands in the core's TCM, and its image runs with MIE 0 and an empty trap stack;
POLICY_ENGINE_START then ends the hold of each of its ports. -/
def execLoaderGo (c : Nat) (s : State) : Host.Outcome State Fault Refusal := orOverlap s (s.loaderGone c)

/-- The state after the loader of core `c` met a bad descriptor (R382). -/
def State.loaderHalted (s : State) (c : Nat) : State :=
  if decide (1 ≤ c ∧ c ≤ 4) && s.coreRuns c && (s.cores.at c).stage == .loading && !s.descriptorOk c then
    let again := !(s.cores.at c).reloaded && s.firmware
    let s := (s.logOther 0 0x38 [c]).updCore c (fun r => { r with stage := .halted, reloaded := true })
    (if again then s.loadImage c 0 else s).requestPorts
  else s

/-- LOADER_HALT (R382): core 0 then reloads the core once, with the vendor policy. -/
def execLoaderHalt (c : Nat) (s : State) : Host.Outcome State Fault Refusal := orOverlap s (s.loaderHalted c)

end Sys2Proof.Machine
end

