-- ==== Sys2Proof/Machine/Gov.lean ====
section
/-! DEFINITION. Governor commands: sag, renegotiation, board power average, shedding (R307 to R313). -/

namespace Sys2Proof.Machine

/-- SHEDW as applied, in W (R316). -/
def State.shedw (s : State) : Nat := max 10 (s.fld F.GOV_BUDGET_SHEDW 0)

/-- SAG_START (R309): VIN_OR in 10 mV has stayed below VSAG for 10 µs. -/
def execSagStart (vinOr : Nat) (s : State) : Host.Outcome State Fault Refusal :=
  .next <|
    if s.entOn && !s.on F.GOV_STAT_SAG 0 && decide (vinOr < 10 * clamp 360 520 (s.fld F.GOV_SAG_VSAG 0)) then
      let s := (s.setVin vinOr).put F.GOV_STAT_SAG 0 true
      let s := { s with govHw := { s.govHw with sagMin := vinOr, sagMs := 0 } }
      let s := ((s.incr F.GOV_CNT0_SAGS 0).irq 10).notice 6 1
      s.each allPorts (fun s p => if s.live p && s.pwrIn p sourcing then s.sagFold p else s)
    else s

/-- SAG_RENEGOTIATE (R255, R310): system firmware lowers PCAP of each folded port, whose policy offers within it. -/
def execSagRenegotiate (s : State) : Host.Outcome State Fault Refusal :=
  .next <|
    if s.on F.GOV_STAT_SAG 0 && s.firmware then
      let folded := allPorts.filter (fun p => (s.gov.at p).sagClamp.isSome)
      let s := (s.each folded (fun s p =>
        let w := max 15 (s.alloc p * s.foldOf (s.classOf p) / 1600)
        s.updGov p (fun g => { g with sagHold := some w }))).govRefresh
      s.each folded State.pcapFell
    else s

/-- SAG_END (R310): the lowest VIN_OR in 10 mV and the duration in ms. -/
def execSagEnd (vmin ms : Nat) (s : State) : Host.Outcome State Fault Refusal :=
  .next <|
    if s.on F.GOV_STAT_SAG 0 then
      let vmin := min s.govHw.sagMin vmin
      let s := { s with govHw := { s.govHw with sagMin := vmin, sagMs := min 65535 ms } }
      let s := (s.put F.GOV_STAT_SAG 0 false).setFld F.GOV_SAGMIN_VMIN 0 vmin
      let s := (s.setFld F.GOV_SAGMIN_SAGMS 0 (min 65535 ms)).logPower 1 (le 4 vmin ++ le 4 ms)
      (s.each allPorts (fun s p =>
        (s.updGov p (fun g => { g with sagClamp := none, sagHold := none })).levels p)).govRefresh
    else s

/-- VIN_OR × IHS in W, averaged over the control periods of the current 1 ms (R307): those HS_SAMPLE gave, and `rest` more
in which both stand as the registers show them; with neither, their present value (log entry 176). -/
def State.boardPower (s : State) (rest : Nat) : Nat :=
  let now := s.fld F.ENT_BV_VIN_OR 0 * s.fld F.ENT_HSM_IHS 0
  let n := s.govHw.ticks + rest
  if n = 0 then now / 10000 else (s.govHw.acc + 10 * now * rest) / (100000 * n)

/-- PBRD_AVERAGE (R307, R311): 1 ms has passed; `rest` of its control periods brought no HS_SAMPLE. -/
def execPbrdAverage (rest : Nat) (s : State) : Host.Outcome State Fault Refusal :=
  .next <|
    if !s.entOn then s
    else
      let b := s.budget
      let w := s.boardPower rest
      let s := s.setFld F.GOV_PBRD_PBRD 0 w
      let g := s.govHw
      let burst := s.fld F.GOV_STAT_BURSTMS 0
      let above := decide (b < w)
      let overs := if 5 * b < 4 * w then g.overs + 1 else 0
      let calm := if 10 * w ≤ 8 * b then g.calm + 1 else 0
      let under := if above then g.under else if 7 ≤ g.under then 0 else g.under + 1
      let burst' := if above then min 65535 (burst + 1) else if 7 ≤ g.under then burst - 1 else burst
      let s := { s with govHw := { g with overs := overs, calm := calm, under := under, acc := 0, ticks := 0 } }
      let s := s.setFld F.GOV_STAT_BURSTMS 0 burst'
      if s.on F.GOV_STAT_SHEDDING 0 then (if above then s else s.put F.GOV_STAT_SHEDDING 0 false)
      else if above && (decide (2000 ≤ burst') || decide (10 ≤ overs)) then
        ((s.put F.GOV_STAT_SHEDDING 0 true).incr F.GOV_CNT2_BURSTS 0).irq 11
      else s

/-- The first port of a list whose class and number win: `better a b` says that `a` goes before `b`. -/
def pick (better : Nat → Nat → Bool) (l : List Nat) : Option Nat :=
  l.foldl (fun best p => match best with | some q => if better p q then some p else best | none => some p) none

/-- Port `p` is shed to SHEDW (R255, R311): its clamp, its bit in GOV_SHED, and its cap while firmware runs. -/
def State.shedPort (s : State) (p : Nat) : State :=
  let w := s.shedw
  let v := if (s.pd.at p).volt = 0 then 5000 else (s.pd.at p).volt
  let s := (s.putBit F.GOV_SHED_PORTS 0 (p - 1) true).incr F.GOV_CNT1_SHEDS 0
  let s := s.updGov p (fun g => { g with
    shedClamp := some (max 10 (w * 20000 / v))
    shedHold := if s.firmware then some w else g.shedHold })
  let s := (s.notice 6 4).logPower 4 (le 4 (s.fld F.GOV_SHED_PORTS 0))
  (s.levels p).govRefresh.pcapFell p

/-- SHED_VICTIM (R311). -/
def execShedVictim (s : State) : Host.Outcome State Fault Refusal :=
  .next <|
    if s.on F.GOV_STAT_SHEDDING 0 then
      let l := allPorts.filter (fun p =>
        s.live p && !s.bit F.GOV_SHED_PORTS 0 (p - 1)
          && decide (100 * s.shedw < max (s.gov.at p).grant (s.gov.at p).rpGrant))
      match pick (fun a b => decide (s.classOf b < s.classOf a) || (decide (s.classOf a = s.classOf b) && decide (b < a))) l with
      | none => s
      | some p => s.shedPort p
    else s

/-- SHED_RELEASE (R311): PBRD has stayed at or below 0.8 × BUDGET for 5 s. -/
def execShedRelease (s : State) : Host.Outcome State Fault Refusal :=
  .next <|
    if !s.on F.GOV_STAT_SHEDDING 0 && decide (5000 ≤ s.govHw.calm) then
      match pick (fun a b => decide (s.classOf a < s.classOf b) || (decide (s.classOf a = s.classOf b) && decide (a < b)))
          (maskPorts (s.fld F.GOV_SHED_PORTS 0)) with
      | none => s
      | some p =>
        let s := s.putBit F.GOV_SHED_PORTS 0 (p - 1) false
        let s := s.updGov p (fun g => { g with shedClamp := none, shedHold := none })
        let s := s.logPower 4 (le 4 (s.fld F.GOV_SHED_PORTS 0))
        (s.levels p).govRefresh
    else s

end Sys2Proof.Machine
end

