-- ==== Sys2Proof/Machine/Fault.lean ====
section
/-! DEFINITION. Fault collector and event log commands (R401, R404 to R417). -/

namespace Sys2Proof.Machine

/-! ### Counting and reactions (R405, R406) -/

/-- A Currant source that names a port, or the eight ports of its die (R402, R406). -/
def fcPorts (id : Nat) : List Nat :=
  if 1 ≤ fcDie id ∧ fcDie id ≤ 4 ∧ fcBlk id ≠ 0x20 then
    (if fcIdx id = 63 then portsOf (fcDie id - 1) else if fcIdx id < 8 then [fcPort id] else [])
  else []

/-- What a reaction aims at (R406): a port mask, a master, a core; none where the source does not name it. -/
def fcTarget (id react : Nat) : Option Nat :=
  let ports := ((fcPorts id).map (fun p => 2 ^ (p - 1))).sum
  let core := if fcDie id = 0 ∧ fcBlk id = 0x38 ∧ 1 ≤ fcIdx id % 8 then some (fcIdx id % 8) else none
  match react with
  | 1 | 2 | 3 => if ports = 0 then none else some ports
  | 4 => if fcDie id = 0 ∧ fcBlk id = 0x03 ∧ 1 ≤ fcIdx id then some (fcIdx id) else core
  | 5 => if 1 ≤ fcDie id ∧ fcDie id ≤ 4 ∧ fcBlk id ≠ 0x20 then some (fcDie id) else core
  | _ => some 0

/-- The reaction of a source runs (R406), after its REACTION record. -/
def State.fcReaction (s : State) (id : Nat) : State :=
  let r := if s.fcReact id = 7 then 0 else s.fcReact id
  match fcTarget id r with
  | none => s.logRec id 0x03 [r, 1]
  | some t =>
    let s := s.logRec id 0x03 ([r, 0, 0, 0] ++ le 4 t)
    match r with
    | 1 => s.each (fcPorts id) (fun s p => s.quarantine p true)
    | 2 => s.each (fcPorts id) State.latchOff
    | 3 => s.each (fcPorts id) (fun s p => if s.live p then s.shedPort p else s)
    | 4 => s.freeze t
    | 5 => s.serviceReset t 1
    | 6 => s.partReset 9 0
    | _ => s

/-- The kind of R343 that a port source belongs to, 11 for none. -/
def fcKind (id : Nat) : Nat :=
  match fcBlk id with
  | 1 => 0 | 2 => 1 | 4 => 2 | 5 => 3 | 6 => 4 | 7 => 5 | 8 => 6 | 0xB => 7 | 0x10 => 8 | 0x11 => 9 | 0x12 => 10
  | _ => 11

/-- A real event of the source is expected (R408). -/
def State.fcExpected (s : State) (id : Nat) : Bool := (fcPorts id).any (fun p => s.expected p (fcKind id))

/-- The EVENT record of a source (R415); `flags` as R414 places them. -/
def State.fcRecord (s : State) (id flags w0 w1 : Nat) : State :=
  let r := s.fcAt id
  let st := match r.st with | .ok => 0 | .minor => 1 | .fault => 2
  s.logAt s.ct id 0x01 flags (le 2 r.count ++ [st, s.fcReact id] ++ le 4 w0 ++ le 4 w1)

/-- A source enters FAULT (R405). -/
def State.fcEnter (s : State) (id before : Nat) : State :=
  let s := (s.irq 20).logRec id 0x02 [1, before]
  let s := (s.setFld F.FC_SUM_LASTSEV 0 id).setFld F.FC_SUM_SEVERE 0 (s.fld F.FC_SUM_SEVERE 0 + 1)
  let s := { s with fc := { s.fc with lastCt := s.ct } }
  (s.notice 3 (id + 65536)).fcReaction id

/-- An event of a source is taken (R405): counted or not, its records, and entry to FAULT. -/
def State.fcCount (s : State) (id flags w0 w1 : Nat) (counts : Bool) : State :=
  let r := s.fcAt id
  let s := ((s.incr F.FC_CNT0_EVENTS 0).irq 21).faultTriggers id
  let s := if counts then s.updFc id (fun r => { r with events := r.events + 1 }) else s
  if counts && r.st != .fault then
    let n := r.count + 1
    let full := decide (s.fcN id ≤ n)
    let s := s.updFc id (fun r => { r with count := n, st := if full then .fault else .minor })
    let s := s.fcRecord id flags w0 w1
    if full then s.fcEnter id (if r.st = .minor then 1 else 0) else s
  else s.fcRecord id flags w0 w1

/-- A real event of a source (R405, R408). -/
def State.fcTake (s : State) (id flags w0 w1 : Nat) : State :=
  if s.fcExpected id then
    let s := (s.incr F.FC_CNT0_EVENTS 0).incr F.FC_CNT1_EXPECTED 0
    (s.updFc id (fun r => { r with events := r.events + 1 })).fcRecord id (flags + 8) w0 w1
  else s.fcCount id flags w0 w1 true

/-- The oldest event on its way reaches the collector; an event of a source that is not evaluated is not seen (R404). -/
def State.fcNext (s : State) (flags : Nat) : State :=
  match s.fc.raised with
  | [] => s
  | e :: rest =>
    let s := { s with fc := { s.fc with raised := rest } }
    if s.fcEvaluated e.id then s.fcTake e.id flags e.word0 e.word1 else s

/-- FAULT_EVENT (R405). -/
def execFaultEvent (s : State) : Host.Outcome State Fault Refusal := .next (s.fcNext 0)

/-- FAULT_WINDOW_CLOSE (R405). -/
def execFaultWindowClose (id : Nat) (s : State) : Host.Outcome State Fault Refusal :=
  .next (if (s.fcAt id).st = .minor then s.updFc id (fun r => { r with count := 0, st := .ok }) else s)

/-- The detail words of a port source, as they stand (R415). -/
def State.fcDetail (s : State) (id : Nat) : Nat × Nat :=
  match fcPorts id with
  | [p] => (s.wordOf F.ADC_PV_VBUS p, s.wordOf F.ADC_PI_IBUS p)
  | _ => (0, 0)

/-- The rails of a source stay equal (R404): a wire fault begins. -/
def State.wireFault (s : State) (id : Nat) : State :=
  ((s.incr F.FC_CNT1_WIREFAULTS 0).irq 22).updFc id (fun r => { r with wire := true })

/-- WIRE_FAULT (R404). -/
def execWireFault (id : Nat) (s : State) : Host.Outcome State Fault Refusal :=
  .next <|
    if s.fcEvaluated id && !(s.fcAt id).wire then
      let d := s.fcDetail id
      (s.wireFault id).fcTake id 16 d.1 d.2
    else s

/-- WIRE_FAULT_END (R404). -/
def execWireFaultEnd (id : Nat) (s : State) : Host.Outcome State Fault Refusal :=
  .next (if (s.fcAt id).wire then s.updFc id (fun r => { r with wire := false }) else s)

/-! ### Clears and settings (R407, R412, R424) -/

/-- FC_RESULT takes the outcome for a source. -/
def State.fcResult (s : State) (id res : Nat) : State := (s.setFld F.FC_RESULT_ID 0 id).setFld F.FC_RESULT_RESULT 0 res

/-- The settings that wait for the clear apply (R412). -/
def FcSource.settle (r : FcSource) : FcSource :=
  match r.next with
  | some (n, w, a, i) => { r with n := n, window := w, react := a, injCount := i, written := true, next := none }
  | none => r

/-- A clear of a source (R407): FC_RESULT says how it ended. -/
def State.fcClear (s : State) (id : Nat) : State :=
  let before := match (s.fcAt id).st with | .ok => 0 | .minor => 1 | .fault => 2
  if !fcDefined id then s.fcResult id 3
  else if !s.fcLive id then ((s.logRec id 0x02 [4, before]).incr F.FC_CNT2_CLRREFUSE 0).fcResult id 2
  else if s.fcCause id then (((s.logRec id 0x02 [3, before]).incr F.FC_CNT2_CLRREFUSE 0).irq 21).fcResult id 1
  else
    let s := s.updFc id (fun r => ({ r with st := .ok, count := 0 } : FcSource).settle)
    let s := (s.logRec id 0x02 [2, before]).fcResult id 0
    if before = 2 then (s.setFld F.FC_SUM_SEVERE 0 (s.fld F.FC_SUM_SEVERE 0 - 1)).notice 3 id else s

/-- A clear that an event of the source meets on the same edge (R412): the event is counted first, and the clear is refused
as with a standing cause. -/
def State.fcClearMet (s : State) (id : Nat) : State :=
  let s := s.fcNext 0
  let before := match (s.fcAt id).st with | .ok => 0 | .minor => 1 | .fault => 2
  (((s.logRec id 0x02 [3, before]).incr F.FC_CNT2_CLRREFUSE 0).irq 21).fcResult id 1

/-- FC_CLR (R407, R412): `coincides` says that the oldest event on its way is one of the same source and arrives on the
same edge. -/
def execFcClr (id : Nat) (coincides : Bool) (s : State) : Host.Outcome State Fault Refusal :=
  .next <|
    let id := id % 65536
    if coincides && s.fcEvaluated id && s.fc.raised.head?.any (fun e => decide (e.id = id)) then s.fcClearMet id
    else s.fcClear id

/-- The settings of one source are written (R406, R412): N and WINDOW of 0 act as 1, a locked source takes INJCOUNT
alone. -/
def State.fcSet (s : State) (id n w react : Nat) (inj : Bool) : State :=
  if fcDefined id then
    let n := if fcLocked id then 1 else max 1 (n % 256)
    let w := if fcLocked id then 1000 else max 1 (w % 65536)
    let react := if fcLocked id then 6 else react % 8
    s.updFc id (fun r =>
      let r := { r with next := some (n, w, react, inj) }
      match r.st with
      | .fault => r
      | .minor => ({ r with st := .ok, count := 0 } : FcSource).settle
      | .ok => r.settle)
  else s

/-- A write of FC_SCFG (R424): the source selected, or indexes 0 to 7 of its block with ALL. -/
def State.fcConfigure (s : State) (id : Nat) (all : Bool) (n w react : Nat) (inj : Bool) : State :=
  if all ∧ fcIdx id < 8 then s.each (List.range 8) (fun s j => s.fcSet (id - fcIdx id + j) n w react inj)
  else s.fcSet id n w react inj

/-- FC_SCFG_WRITE (R406, R412, R424). -/
def execFcScfgWrite (n w react : Nat) (inj : Bool) (s : State) : Host.Outcome State Fault Refusal :=
  .next (s.fcConfigure (s.fld F.FC_SEL_ID 0) (s.on F.FC_SEL_ALL 0) n w react inj)

/-! ### Injection and self-test (R409 to R411) -/

/-- An injection is judged (R409): undefined, not evaluated, or done. -/
def State.fcInjectable (s : State) (id : Nat) : Nat := if !fcDefined id then 3 else if !s.fcEvaluated id then 4 else 0

/-- An injected event is counted as INJECTED and taken with the INJ flag (R409). -/
def State.fcInjected (s : State) (id flags : Nat) : State :=
  let s := (s.updFc id (fun r => { r with injected := r.injected + 1 })).incr F.FC_CNT0_INJECTED 0
  let d := s.fcDetail id
  s.fcCount id (flags + 4) d.1 d.2 (s.fcAt id).injCount

/-- An injection of one event (R409, R410): `coincides` says that the oldest event on its way is one of the same source
and arrives on the same edge. -/
def State.fcInjectEvent (s : State) (id : Nat) (coincides : Bool) : State :=
  let res := s.fcInjectable id
  if res ≠ 0 then s.fcResult id res
  else if (s.fcAt id).wire then
    ((s.updFc id (fun r => { r with injected := r.injected + 1 })).incr F.FC_CNT0_INJECTED 0).fcResult id 0
  else
    let both := coincides && (s.fc.raised.head?.any (fun e => decide (e.id = id)))
    let s := if both then s.fcNext 32 else s
    (s.fcResult id 0).fcInjected id 0

/-- FC_INJ with MODE 0 (R409). -/
def execFcInjEvent (id : Nat) (coincides : Bool) (s : State) : Host.Outcome State Fault Refusal :=
  .next (s.fcInjectEvent (id % 65536) coincides)

/-- An injection of a wire fault (R404, R409). -/
def State.fcInjectWire (s : State) (id : Nat) : State :=
  let res := s.fcInjectable id
  if res ≠ 0 then s.fcResult id res
  else if (s.fcAt id).wire then
    ((s.updFc id (fun r => { r with injected := r.injected + 1 })).incr F.FC_CNT0_INJECTED 0).fcResult id 0
  else ((s.fcResult id 0).wireFault id).fcInjected id 16

/-- FC_INJ with MODE 1 (R409). -/
def execFcInjWire (id : Nat) (s : State) : Host.Outcome State Fault Refusal := .next (s.fcInjectWire (id % 65536))

/-- The self-test starts (R411). -/
def State.fcSelftest (s : State) : State :=
  if s.on F.FC_ST_BUSY 0 then s
  else ((s.put F.FC_ST_BUSY 0 true).setFld F.FC_ST_RESULT 0 0).setFld F.FC_ST_FAILID 0 0

/-- FC_ST.GO (R411). -/
def execFcSelftestGo (s : State) : Host.Outcome State Fault Refusal := .next s.fcSelftest

/-- FC_SELFTEST_END (R411): the sources whose probes did not arrive. -/
def execFcSelftestEnd (failed : List Nat) (s : State) : Host.Outcome State Fault Refusal :=
  .next <|
    if s.on F.FC_ST_BUSY 0 then
      let l := (fcAll.filter s.fcEvaluated).filter failed.contains
      let s := s.put F.FC_ST_BUSY 0 false
      match l with
      | [] => s.setFld F.FC_ST_RESULT 0 1
      | id :: _ =>
        let s := ((s.setFld F.FC_ST_RESULT 0 2).setFld F.FC_ST_FAILID 0 id).add F.FC_CNT2_STFAILS 0 l.length
        s.raise (quinceSource 0x04 0) 0 0
    else s

/-! ### The log (R413, R416, R417) -/

/-- LOG_RECORD_WRITE (R416). -/
def execLogRecordWrite (s : State) : Host.Outcome State Fault Refusal := .next s.logWrite

/-- LOG_SUBCTL.GO (R417). -/
def execLogSubmit (s : State) : Host.Outcome State Fault Refusal := .next s.logSubGo

/-- SRAM_UNCORRECTABLE (R384, R401): at an address outside the split-context pool and the trace ring. -/
def execSramUncorrectable (a : Nat) (s : State) : Host.Outcome State Fault Refusal :=
  .next <|
    if decide (0x20000000 ≤ a ∧ a < 0x200F8000) && !decide (0x20087000 ≤ a ∧ a < 0x200C7000) then
      (s.irq 25).raise (quinceSource 0x34 0) a 0
    else s

end Sys2Proof.Machine
end

