-- ==== Sys2Proof/Machine/MbxChan.lean ====
section
/-! DEFINITION. The mailbox channels: the board controller's targets, the local mailboxes, starting a frame, and command
frames over Chord (R320, R332 to R334, R418, R429 to R435, R443 to R445). -/

namespace Sys2Proof.Machine

/-! ### Board controller targets (R431 to R433) -/

/-- The target of channel `ch` is the selected one and BOOT is up (R429). -/
def State.targetOn (s : State) (ch : Nat) : Bool := decide (ch ≤ 1) && s.power.boot != .off && s.chExists ch

/-- A frame arrives whole at channel 0 or 1 (R431). -/
def State.hostFrame (s : State) (ch : Nat) (b : List Nat) : State :=
  if 4 ≤ (s.queued ch).length then
    let s := s.incr F.MBX_CHCNT1_BUSYHW ch
    if (s.mbx.at ch).responses.length < 4 then
      let f := Frame.parse (b.take 16)
      let r : Frame := ⟨f.code, f.seq, 1, s.fld F.CHORD_STAT_ADDR 0, Status.busy, 0, []⟩
      (s.updCh ch (fun c => { c with responses := c.responses ++ [r] })).chRefresh ch
    else s
  else
    let kept := if 1024 < rawLen b then b.take 16 else b
    ((s.updCh ch (fun c => { c with frames := c.frames ++ [kept] })).irq (29 + ch)).chRefresh ch

/-- A WRITE transaction of `b` bytes after the opcode (R432, R433). -/
def State.targetWrite (s : State) (ch : Nat) (b : List Nat) : State :=
  if s.targetOn ch then
    let s := s.incr F.TGT_CNT0_TRANS ch
    if b.length < 16 ∨ b.length ≠ 16 + rawLen b then
      (s.incr F.TGT_CNT1_SHORTWR ch).incr F.MBX_CHCNT0_CRCERR ch
    else s.hostFrame ch b
  else s

/-- A STATUS transaction (R432). -/
def State.targetStatus (s : State) (ch : Nat) : State :=
  if s.targetOn ch then
    let c := s.mbx.at ch
    let len := match c.responses with
      | f :: _ => f.payload.length
      | [] => 0
    (s.incr F.TGT_CNT0_TRANS ch).updCh ch (fun c => { c with
      sent := [4 - c.frames.length, c.responses.length] ++ le 2 len })
  else s

/-- A READ transaction in which the host takes `n` bytes (R432). -/
def State.targetRead (s : State) (ch n : Nat) : State :=
  if s.targetOn ch then
    let s := s.incr F.TGT_CNT0_TRANS ch
    match (s.mbx.at ch).responses with
    | [] => s.updCh ch (fun c => { c with sent := List.replicate n 0xFF })
    | f :: rest =>
      let b := f.bytes
      let s := s.updCh ch (fun c => { c with sent := b.take n ++ List.replicate (n - b.length) 0xFF })
      if n < b.length then s.incr F.TGT_CNT1_CUTREADS ch
      else
        let s := if 3 ≤ rest.length then s.irq 148 else s
        ((s.updCh ch (fun c => { c with responses := rest })).chFill ch).chRefresh ch
  else s

/-- SPI_WRITE (R432): MISO reads 0x00 meanwhile. -/
def execSpiWrite (bytes : List Nat) (s : State) : Host.Outcome State Fault Refusal :=
  .next (if s.targetOn 0 then (s.targetWrite 0 bytes).updCh 0 (fun c => { c with sent := bytes.map (fun _ => 0) }) else s)

/-- SPI_STATUS (R432). -/
def execSpiStatus (s : State) : Host.Outcome State Fault Refusal := .next (s.targetStatus 0)

/-- SPI_READ (R432): the host takes `n` bytes. -/
def execSpiRead (n : Nat) (s : State) : Host.Outcome State Fault Refusal := .next (s.targetRead 0 n)

/-- SPI_BAD_OPCODE (R432): MISO reads 0xFF and the transaction is counted (R467). -/
def execSpiBadOpcode (opcode : Nat) (s : State) : Host.Outcome State Fault Refusal :=
  .next <|
    if s.targetOn 0 && decide (opcode ≠ 1 ∧ opcode ≠ 3 ∧ opcode ≠ 5) then
      ((s.incr F.TGT_CNT0_TRANS 0).incr F.TGT_CNT0_BADOPS 0).updCh 0 (fun c => { c with sent := [0xFF] })
    else s

/-- I2C_WRITE (R433): a write to the target's address. -/
def execI2cWrite (bytes : List Nat) (s : State) : Host.Outcome State Fault Refusal := .next (s.targetWrite 1 bytes)

/-- I2C_STATUS (R433). -/
def execI2cStatus (s : State) : Host.Outcome State Fault Refusal := .next (s.targetStatus 1)

/-- I2C_READ (R433): the host takes `n` bytes. -/
def execI2cRead (n : Nat) (s : State) : Host.Outcome State Fault Refusal := .next (s.targetRead 1 n)

/-! ### Local mailboxes (R435) -/

/-- A GO of core `c` (R435): the mailbox block copies the frame from the core's TCM. -/
def State.localGo (s : State) (c : Nat) : State :=
  if c = 0 ∨ 4 < c then s
  else if s.on F.MBX_LCTL_BUSY c || s.on F.MBX_LCTL_RSPREADY c then s.incr F.MBX_CHCNT1_BUSYHW 7
  else
    let a := tcmAddr c (4 * s.fld F.MBX_LREQ_OFFSET c)
    let head := s.readBytes a 16
    let b := if 1024 < rawLen head then head else s.readBytes a (16 + rawLen head)
    let s := s.put F.MBX_LCTL_BUSY c true
    ((s.updCh (6 + c) (fun r => { r with frames := r.frames ++ [b] })).irq (143 + c)).chRefresh (6 + c)

/-- LOCAL_MAILBOX_GO (R435). -/
def execLocalMailboxGo (c : Nat) (s : State) : Host.Outcome State Fault Refusal := .next (s.localGo c)

/-- An ACK of core `c` (R435). -/
def State.localAck (s : State) (c : Nat) : State :=
  if 1 ≤ c ∧ c ≤ 4 then (s.put F.MBX_LCTL_RSPREADY c false).chRefresh (6 + c) else s

/-- LOCAL_MAILBOX_ACK (R435). -/
def execLocalMailboxAck (c : Nat) (s : State) : Host.Outcome State Fault Refusal := .next (s.localAck c)

/-! ### Starting frames (R430) -/

/-- COMMAND_START (R430). -/
def execCommandStart (ch : Nat) (s : State) : Host.Outcome State Fault Refusal := .next (s.chordHush.startFrame ch)

/-- PORT_LOCK_RELEASE (R430): a frame of channel `ch` that names ports starts now that no other command holds them. -/
def execPortLockRelease (ch : Nat) (s : State) : Host.Outcome State Fault Refusal :=
  .next <|
    match s.queued ch with
    | b :: _ => if (framePorts (Frame.parse b)).isEmpty then s else s.chordHush.startFrame ch
    | [] => s

/-! ### Command frames over Chord (R320, R332 to R334) -/

/-- A frame is queued for this unit, or answered BUSY (R444). -/
def State.deliver (s : State) (l id : Nat) (f : Frame) : State :=
  let s := s.chordSend (.accepted l id)
  if s.chord.inbox.length < 16 then
    let s := s.updCh 6 (fun c => { c with frames := c.frames ++ [f.bytes] })
    ((s.updChord (fun c => { c with inbox := c.inbox ++ [⟨id, 0, l⟩] })).irq 31).chRefresh 6
  else s.chordSend (.response l id (s.reply f Status.busy 0 []))

/-- A frame goes on by R320. -/
def State.sendOn (s : State) (l id mode dest hops : Nat) (f : Frame) : State :=
  match s.route dest with
  | some 7 => (s.chordSend (.noroute l id)).incr F.CHORD_CNT1_NOROUTE 0
  | some k => s.sendCmd k id mode dest (hops + 1) f
  | none => s.deliver l id f

/-- CHORD_CMD_FRAME (R320, R332): mode 0 unicast, 1 subtree broadcast, 2 gather.  A subtree frame that comes down to its
destination, or from above to a unit below the destination, is taken and sent on down; one for an adopted range goes on. -/
def execChordCmdFrame (l id mode dest hops : Nat) (bytes : List Nat) (s : State) : Host.Outcome State Fault Refusal :=
  .next <|
    if s.chordOn && decide (l < 6) && decide (s.linkState l = 4) then
      let s := (s.chordHush).incr F.CHORD_LCNT1_CMDRX l
      let f := Frame.parse bytes
      let addressed := s.on F.CHORD_STAT_ADDRESSED 0
      let own := addressed && decide (dest = s.fld F.CHORD_STAT_ADDR 0)
      let outside := !addressed || decide (dest < s.fld F.CHORD_RANGE_LO 0) || decide (s.fld F.CHORD_RANGE_HI 0 < dest)
      if mode = 0 then (if addressed then s.sendOn l id mode dest hops f else s)
      else if own then (s.chordSend (.accepted l id)).takeSubtree l id mode dest hops f
      else if l < 2 ∧ outside ∧ !s.adopts dest then s.takeSubtree l id mode dest hops f
      else s.sendOn l id mode dest hops f
    else s

/-- A command that the Apex sent completes with a response (R333). -/
def State.chordComplete (s : State) (c : ChordCmd) (f : Frame) : State :=
  (s.updChord (fun h => { h with
    sent := h.sent.filter (fun x => decide (x.id ≠ c.id)), merges := h.merges.filter (fun m => decide (m.id ≠ c.id)) })).place
    c.channel f

/-- A command that the Apex sent completes with a status of its own (R333). -/
def State.chordGiveUp (s : State) (id status : Nat) (late : Bool) : State :=
  match s.chord.sent.find? (fun c => decide (c.id = id)) with
  | some c => if late || !c.accepted then s.chordComplete c (s.reply c.frame status 0 []) else s
  | none => s

/-- CHORD_ACCEPT_TIMEOUT (R333): no ACCEPTED within 10 ms, or NOROUTE. -/
def execChordAcceptTimeout (id : Nat) (s : State) : Host.Outcome State Fault Refusal :=
  .next (s.chordHush.chordGiveUp id Status.unitAbsent false)

/-- CHORD_CMD_TIMEOUT (R333): ACCEPTED came, and no response within CHORD_CMDTMO. -/
def execChordCmdTimeout (id : Nat) (s : State) : Host.Outcome State Fault Refusal :=
  .next (s.chordHush.chordGiveUp id Status.timeout true)

/-- A sum that saturates. -/
def satSum (bound a b : Nat) : Nat := min bound (a + b)

/-- Two 32-byte log summaries combined (R418). -/
def mergeSummary (a b : List Nat) : List Nat :=
  if a.isEmpty then b
  else if b.isEmpty then a
  else
    let ctOf (x : List Nat) := ofLe ((x.drop 16).take 8)
    let last := if ctOf a < ctOf b then b else a
    let causes := [byteAt a 24, byteAt b 24].filter (· ≠ 0)
    last.take 2 ++ [min (byteAt a 2) (byteAt b 2), satSum 255 (byteAt a 3) (byteAt b 3)]
      ++ le 4 (word32 a 4 + word32 b 4) ++ le 2 (satSum 0xFFFF (half a 8) (half b 8))
      ++ le 2 (satSum 0xFFFF (half a 10) (half b 10)) ++ [satSum 255 (byteAt a 12) (byteAt b 12),
        satSum 255 (byteAt a 13) (byteAt b 13)] ++ (last.drop 14).take 10
      ++ [causes.foldl min (causes.headD 0), satSum 255 (byteAt a 25) (byteAt b 25)] ++ List.replicate 6 0

/-- The response is a merged one (R445). -/
def Frame.isMerged (f : Frame) : Bool := f.flags.testBit 6

/-- A merged response of a down-link enters this unit's merge (R334, R445). -/
def ChordMerge.take (m : ChordMerge) (l : Nat) (f : Frame) : ChordMerge :=
  let p := f.payload
  let others := word32 p 8
  let lower := decide (others ≠ 0) && (decide (m.others = 0) || decide (half p 12 < m.lowAddr))
  { m with
    waiting := m.waiting.filter (fun x => decide (x ≠ l))
    reached := m.reached + word32 p 0, oks := m.oks + word32 p 4, others := m.others + others
    lowAddr := if lower then half p 12 else m.lowAddr, lowStatus := if lower then half p 14 else m.lowStatus
    lowRetry := if lower then f.retry else m.lowRetry, late := m.late + half p 16
    summary := if m.mode = 2 ∧ m.merge then mergeSummary m.summary ((p.drop 20).take 32) else m.summary }

/-- A summary of a LIST gather is kept in the gather buffer, or counted as lost (R334). -/
def State.keepSummary (s : State) (p : List Nat) : State :=
  if s.chord.gathered < 2048 then
    (s.writeBytes (0x200C7000 + 32 * s.chord.gathered) (p.take 32)).updChord (fun c => { c with gathered := c.gathered + 1 })
  else s.updChord (fun c => { c with gatherLost := c.gatherLost + 1 })

/-- The merged payload of R445. -/
def State.mergedPayload (s : State) (m : ChordMerge) : List Nat :=
  le 4 m.reached ++ le 4 m.oks ++ le 4 m.others ++ le 2 (if m.others = 0 then 0 else m.lowAddr)
    ++ le 2 (if m.others = 0 then 0 else m.lowStatus) ++ le 2 (m.late + m.waiting.length) ++ [0, 0]
    ++ (if m.mode = 2 then (if m.merge then m.summary else le 2 s.chord.gathered ++ le 2 s.chord.gatherLost) else [])

/-- The merged response of this unit (R334, R445). -/
def State.mergedResponse (s : State) (m : ChordMerge) : Frame :=
  let f := m.frame
  { f with
    flags := withBit (withBit f.flags 0 true) 6 true, target := s.fld F.CHORD_STAT_ADDR 0
    status := if m.others = 0 then 0 else m.lowStatus
    retry := if m.others ≠ 0 ∧ m.lowStatus = Status.wait then m.lowRetry else 0, payload := s.mergedPayload m }

/-- A merged response comes too late for this unit's merge: it is closed, or waits for that down-link no longer (R334). -/
def State.tooLate (s : State) (id : Nat) : Bool :=
  s.chord.merges.any (fun m => decide (m.id = id)) || (!s.apex && s.chord.closed.contains id)

/-- CHORD_RESPONSE (R333, R334): a response arrives on link `l`; it enters a merge, goes on up, or reaches the Apex, where
it is placed or discarded as late; a merged one that comes after its merge is discarded. -/
def execChordResponse (l id : Nat) (bytes : List Nat) (s : State) : Host.Outcome State Fault Refusal :=
  .next <|
    if s.chordOn && decide (l < 6) && decide (s.linkState l = 4) then
      let s := s.chordHush
      let f := Frame.parse bytes
      if f.isMerged ∧ s.chord.merges.any (fun m => decide (m.id = id) && m.waiting.contains l) then
        s.updMerge id (fun m => m.take l f)
      else if f.isMerged && s.tooLate id then s
      else if !s.apex then s.chordSend (.response s.activeUp id f)
      else match s.chord.sent.find? (fun c => decide (c.id = id)) with
        | none => s.incr F.CHORD_CNT1_LATERESP 0
        | some c =>
          if c.frame.mode = 2 ∧ !c.frame.flags.testBit 3 then
            if f.isMerged then
              s.chordComplete c { f with payload := f.payload.take 20 ++ le 2 s.chord.gathered ++ le 2 s.chord.gatherLost }
            else s.keepSummary f.payload
          else s.chordComplete c f
    else s

/-- BROADCAST_MERGE (R334): this unit has answered, and its wait for its down-links ends. -/
def execBroadcastMerge (id : Nat) (s : State) : Host.Outcome State Fault Refusal :=
  .next <|
    match s.chord.merges.find? (fun m => decide (m.id = id)) with
    | some m =>
      if m.ownDone then
        let s := s.chordHush
        let r := s.mergedResponse m
        let s := s.updChord (fun c => { c with
          merges := c.merges.filter (fun x => decide (x.id ≠ id)), closed := id :: c.closed.filter (fun x => decide (x ≠ id)) })
        if m.link = 6 then
          match s.chord.sent.find? (fun c => decide (c.id = id)) with
          | some c => s.chordComplete c r
          | none => s
        else s.chordSend (.response m.link id r)
      else s
    | none => s

end Sys2Proof.Machine
end

