-- ==== Sys2Proof/Machine/RegOps.lean ====
section
/-! DEFINITION. Writes to registers: lanes and views, staging and HOLD, collisions, and what a written field makes the
part do (R95 to R108). -/

namespace Sys2Proof.Machine

/-! ### Which writes a register takes -/

/-- Fields of an upstream port's window that read fixed values and ignore writes (R238, R272). -/
def fixedUpstream : List Field := [
  F.TCPD_CCCFG_CCEN, F.TCPD_CCCFG_ROLE, F.TCPD_CCCFG_RPLVL, F.TCPD_CCCFG_AUDIO_EN, F.TCPD_CCCFG_DEBUG_EN,
  F.TCPD_CCCFG_VCONN_EN, F.TCPD_CCCFG_DISC_EN, F.TCPD_PDCFG_PROFILE, F.TCPD_PDCFG_EPR_EN, F.TCPD_PDCFG_PPS_EN,
  F.TCPD_PDCFG_PRS_EN, F.TCPD_PDCFG_VCS_EN, F.TCPD_SINKCFG_PDMAX, F.TCPD_SINKCFG_ISET_A, F.TCPD_SINKCFG_ISET_B,
  F.TCPD_SINKCFG_MODE, F.TCPD_SINKCFG_SEL]

/-- A write of this field is ignored: a window of an absent port or partition (R145, R170, R190, R214), a fixed field of an upstream port (R238, R272), a locked protection window (R119), the ranges that AUTO writes (R318), core
0's own RESET and source 0 (R384, R396), the target that STRAP_HIF does not select (R467). -/
def State.ignores (s : State) (f : Field) (i : Nat) : Bool :=
  s.absentSlot f i
    || (decide (33 ≤ i) && fixedUpstream.any (fun x => x.id == f.id))
    || ((f.id == F.MPU_WBASE_BASE.id || f.id == F.MPU_WLIMIT_LIMIT.id || f.id / 32 == F.MPU_WATTR_LOCK.id / 32)
        && s.on F.MPU_WATTR_LOCK i)
    || (f.id / 32 == F.CHORD_DNRANGE_DNLO.id / 32 && !s.on F.CHORD_CFG_RANGEMODE 0)
    || (f.id == F.IC_CORECTL_RESET.id && i == 0)
    || (f.id == F.IC_SRC_PRIO.id && i == 0)
    || ((f.id / 32 == F.TGT_CNT0_BADOPS.id / 32 || f.id / 32 == F.TGT_CNT1_CUTREADS.id / 32) && !s.on F.TGT_STAT_ACTIVE i)

/-- Fields whose new value is set by what the write makes the part do, not by the write itself. -/
def actsItself (f : Field) : Bool :=
  [F.PART_ASSIGN_PORT0, F.PART_ASSIGN_PORT1, F.PART_ASSIGN_PORT2, F.PART_ASSIGN_PORT3, F.PART_ASSIGN_PORT4,
    F.PART_ASSIGN_PORT5, F.PART_ASSIGN_PORT6, F.PART_ASSIGN_PORT7, F.DPE_CTL_QUAR, F.DPE_CTL_ISOLATE, F.TCPD_CCCFG_CCEN,
    F.PWR_PCTL_VOFF, F.CHORD_LCTL_EN, F.IC_CORECTL_RESET, F.FC_SCFG_N, F.FC_SCFG_WINDOW, F.FC_SCFG_REACT,
    F.FC_SCFG_INJCOUNT, F.FC_SCNT_EVENTS, F.FC_SCNT_INJECTED].any (fun x => x.id == f.id)

/-! ### What an applied field makes the part do -/

/-- A role, or VCONN permission, or Rp level of port `p` applies (R215, R216, R219, R229).  That VCONN_EN also acts while
the port stays in Attached.SRC, off at once and on where R229 permits, is the model's choice (DESIGN CHOICE, log entry
140). -/
def State.ccApplied (s : State) (f : Field) (p : Nat) : State :=
  if f.id = F.TCPD_CCCFG_ROLE.id then
    let s := s.sinkBlockUpdate (currant p)
    let snk := decide (s.role p = 2)
    let src := decide (s.role p = 0)
    if s.live p && ((snk && s.ccIs p .unattachedSrc) || (src && s.ccIs p .unattachedSnk)) then s.unattached p snk else s
  else if f.id = F.TCPD_CCCFG_VCONN_EN.id then
    if s.live p then (if s.on F.TCPD_CCCFG_VCONN_EN p then s.vconnTry p else s.vconnOff p) else s
  else if f.id = F.TCPD_CCCFG_DISC_EN.id then (if s.live p && !s.on F.TCPD_CCCFG_DISC_EN p then s.discEnd p else s)
  else if f.id = F.TCPD_CCCFG_RPLVL.id then s.rpReevaluate p
  else s

/-- The CC timers of port `p` apply, each kept within its range (R224). -/
def State.ccTimers (s : State) (p : Nat) : State :=
  let s := s.setFld F.TCPD_CCTIM_TCCDB p (clamp 100 200 (s.fld F.TCPD_CCTIM_TCCDB p))
  let s := s.setFld F.TCPD_CCTIM_TPDDB p (clamp 10 20 (s.fld F.TCPD_CCTIM_TPDDB p))
  let s := s.setFld F.TCPD_CCTIM_TDRP p (clamp 50 100 (s.fld F.TCPD_CCTIM_TDRP p))
  s.setFld F.TCPD_CCTIM_DCSRC p (clamp 30 70 (s.fld F.TCPD_CCTIM_DCSRC p))

/-- VSURGE and VCLAMP as applied, in 0.1 V (R315). -/
def surgeClamped (v : Nat) : Nat := clamp 560 630 v
def clampClamped (v : Nat) : Nat := clamp 550 600 v

/-- The surge levels apply, each kept within its range (R315). -/
def State.surgeLevels (s : State) : State :=
  (s.setFld F.ENT_SURGE_VSURGE 0 (surgeClamped (s.fld F.ENT_SURGE_VSURGE 0))).setFld F.ENT_SURGE_VCLAMP 0
    (clampClamped (s.fld F.ENT_SURGE_VCLAMP 0))

/-- The alarm group applied (R83, R91): an alarm armed for the count that stands is reached. -/
def State.alarmApplied (s : State) : State :=
  if s.on F.RTC_ALARM_HI_ARM 0 && decide (s.alarm = s.power.rtcCount) then s.alarmReached else s

/-- A setting of the fault collector's view is written (R424). -/
def State.fcApplied (s : State) (f : Field) (v : Nat) : State :=
  let id := s.fld F.FC_SEL_ID 0
  let n := if f.id = F.FC_SCFG_N.id then v else s.shown F.FC_SCFG_N 0
  let w := if f.id = F.FC_SCFG_WINDOW.id then v else s.shown F.FC_SCFG_WINDOW 0
  let react := if f.id = F.FC_SCFG_REACT.id then v else s.shown F.FC_SCFG_REACT 0
  let inj := if f.id = F.FC_SCFG_INJCOUNT.id then v else s.shown F.FC_SCFG_INJCOUNT 0
  if f.id = F.FC_SCNT_EVENTS.id then (if fcDefined id then s.updFc id (fun r => { r with events := v }) else s)
  else if f.id = F.FC_SCNT_INJECTED.id then (if fcDefined id then s.updFc id (fun r => { r with injected := v }) else s)
  else s.fcConfigure id (s.on F.FC_SEL_ALL 0) n w react (decide (inj ≠ 0))

/-- The place of a nibble of PART_ASSIGN. -/
def assignIdx (f : Field) : Nat := f.lo / 4

/-- What follows a field of the Quince blocks. -/
def State.quinceApplied (s old : State) (f : Field) (i v : Nat) : State :=
  if f.id / 32 = F.PMU_DOMCTL_PORTS.id / 32 then s.domsFollow
  else if f.id = F.PMU_RAILCTL_EN2.id then
    if s.bit F.PMU_RAILSTAT_RAIL_EN 0 2 == decide (v ≠ 0) then s
    else (s.putBit F.PMU_RAILSTAT_RAIL_EN 0 2 (decide (v ≠ 0))).irq 17
  else if f.id / 32 = F.PMU_CLKCTL_AUTO.id / 32 then
    if s.on F.PMU_CLKCTL_AUTO 0 then s
    else s.put F.PMU_CLKSTAT_REF_ACTIVE 0 (s.on F.PMU_CLKCTL_REFSEL 0 && !s.apex)
  else if f.id = F.RTC_ALARM_HI_ARM.id ∨ f.id = F.RTC_ALARM_HI_ALARM_HI.id ∨ f.id = F.RTC_ALARM_LO_ALARM_LO.id then
    s.alarmApplied
  else if f.id = F.PART_PCTL_PULLUP.id then s.presence i
  else if f.id / 32 = F.PART_ASSIGN_PORT0.id / 32 then s.assign (8 * i + assignIdx f + 1) v
  else if f.id = F.DPE_CTL_ISOLATE.id then s.isolate i (decide (v ≠ 0))
  else if f.id = F.DPE_CTL_QUAR.id then (if v ≠ 0 then s.quarantine i false else s.quarClear i)
  else if f.id / 32 = F.TT_ALLOC_PMAX.id / 32 then s.ttAllocApply old
  else if f.id / 32 = F.TT_PPEAK_PPEAK.id / 32 then s.ttRefresh i
  else if f.id = F.TT_POOLLOW_LOW.id then
    if s.sharedFree < s.fld F.TT_POOLLOW_LOW 0 then s.setFld F.TT_POOLLOW_LOW 0 s.sharedFree else s
  else if f.id = F.MF_CTL_CONNECT.id then s.p33Update i (old.on F.MF_CTL_CONNECT i && decide (v = 0))
  else if f.id / 32 = F.MF_EPD_START.id / 32 then s.descCheck (i / 5)
  else s

/-- What follows a field of the service blocks. -/
def State.serviceApplied (s : State) (f : Field) (i v : Nat) : State :=
  if f.id = F.CHORD_LCTL_EN.id then s.linkEnable i (decide (v ≠ 0))
  else if f.id = F.CHORD_CFG_RANGEMODE.id then (s.chordHush.autoRanges).identAgain [2, 3, 4, 5]
  else if f.id / 32 = F.CHORD_DNRANGE_DNLO.id / 32 then s.chordHush.identAgain [2 + i]
  else if f.id = F.CHORD_PPS_EN.id then s.ppsSettle
  else if f.id = F.TAT_RDSEL_INDEX.id then s.tatShow
  else if f.id = F.IC_PEND_PEND.id then
    (if i = 0 then s.putBit F.IC_PEND_PEND 0 0 false else s).readyRefresh
  else if f.id = F.IC_CORECTL_RESET.id then s.coreReset i (decide (v ≠ 0))
  else if f.id = F.IC_CORECTL_WDTMO.id then s.updCore i (fun r => { r with watch := false })
  else if f.id / 32 = F.FC_SCFG_N.id / 32 ∨ f.id / 32 = F.FC_SCNT_EVENTS.id / 32 then s.fcApplied f v
  else s

/-- What follows a field of a Currant, of Sloe or of the governor. -/
def State.portApplied (s : State) (f : Field) (i v : Nat) : State :=
  if f.id = F.TCPD_CCCFG_CCEN.id then s.setCcen i (decide (v ≠ 0))
  else if f.id / 32 = F.TCPD_CCCFG_ROLE.id / 32 then s.ccApplied f i
  else if f.id / 32 = F.TCPD_CCTIM_TCCDB.id / 32 then s.ccTimers i
  else if f.id / 32 = F.ENT_SURGE_VCLAMP.id / 32 then s.surgeLevels
  else if f.id = F.TCPD_PDCFG_PROFILE.id then s.offerAnew i
  else if f.id = F.TCPD_PDCFG_PD_EN.id then (if s.on F.TCPD_PDCFG_PD_EN i then s else s.discEnd i)
  else if f.id = F.PWR_PCTL_VOFF.id then s.voffWrite i (decide (v ≠ 0))
  else if f.id = F.PWR_VSET_VSET.id then s.vsetUpdate i
  else if f.id / 32 = F.PWR_LIM_ILIM.id / 32 then s.levels i
  else if f.id / 32 = F.ENT_HCTL_HSOFF.id / 32 then
    s.hctl (s.on F.ENT_HCTL_FOFF_A 0) (s.on F.ENT_HCTL_FOFF_B 0) (s.on F.ENT_HCTL_HSOFF 0)
  else if f.id / 32 = F.GOV_BUDGET_BUDGET.id / 32 then s.govRefresh
  else s

/-- What follows the new value of a field; `old` is the state before its group applied. -/
def State.applied (s old : State) (f : Field) (i v : Nat) : State :=
  let filter := decide (f.id / 32 = F.TRC_PORTS_PORTS.id / 32 ∨ f.id / 32 = F.TRC_TAPS_REP.id / 32
    ∨ f.id / 32 = F.TRC_AMATCH_EN.id / 32)
  let s := if filter then s.filterChanged old.filterGroup else s
  ((s.quinceApplied old f i v).serviceApplied f i v).portApplied f i v

/-! ### Applying writes (R101, R105, R108) -/

/-- The block that holds copy `i` of a field counts a collision (R108). -/
def State.collide (s : State) (f : Field) (i : Nat) : State :=
  match slotHome f.id i with
  | some h => match collideOf h.blk with
    | some c => match (regDefOf c.id).bind (fun r => r.places.findSome? (fun p => placeCopy p (p.base % 0x4000 + h.base))) with
      | some j => s.incr c j
      | none => s
    | none => s
  | none => s

/-- The hardware change that reaches a written field on the same edge (R108); a locked unit's epoch always changes (R86). -/
def State.rival (s : State) (hw : List HwChange) (f : Field) (i : Nat) : Option Nat :=
  if s.sync = 2 ∧ (f.id = F.RTC_EPOCH_LO_EPOCH.id ∨ f.id = F.RTC_EPOCH_HI_EPOCH.id) then some (s.fld f i)
  else (hw.find? (fun h => h.fieldId == f.id && h.index == i)).map (·.value)

/-- The software value of a written field stands (R108). -/
def State.wins (s : State) (hw : List HwChange) (x : Staged) : Bool :=
  !s.ignores x.field x.index && (decide (x.field.id = F.IC_PEND_PEND.id)
    || !(decide (x.field.cls = .hwChange) && (s.rival hw x.field x.index).isSome))

/-- One written field takes its value: the hardware's, the written value plus one, or the written value (R108); the
pending bits of edges on the same edge as the write stay 1, and the controller counts no collision (R97, R392). -/
def State.takeWrite (s : State) (hw : List HwChange) (x : Staged) : State :=
  let f := x.field
  match s.rival hw f x.index with
    | some v =>
      if f.id = F.IC_PEND_PEND.id then s.setFld f x.index (Nat.lor x.value v)
      else if f.cls = .hwChange then (s.setFld f x.index v).collide f x.index
      else if f.cls = .counter then s.setFld f x.index (x.value + 1)
      else s.setFld f x.index x.value
    | none => if actsItself f then s else s.setFld f x.index x.value

/-- A written field is no longer pending. -/
def State.unstage (s : State) (x : Staged) : State :=
  { s with staged := s.staged.filter (fun y => !(y.field.id == x.field.id && y.index == x.index)) }

/-- A group of written fields applies on one edge, and what follows from each; which writes are ignored is judged by the
state before the edge, so a group that sets LOCK applies whole (R105, R119). -/
def State.applyAll (s : State) (hw : List HwChange) (l : List Staged) : State :=
  let won := l.filter (s.wins hw)
  let t := l.foldl (fun t x => (if s.ignores x.field x.index then t else t.takeWrite hw x).unstage x) s
  won.foldl (fun t x => t.applied s x.field x.index x.value) t

/-! ### HOLD (R105) -/

/-- The HOLD bit of a block, and its copy. -/
def holdSlot (h : Home) : Option (Field × Nat) :=
  (stageOf h.blk).bind (fun f => ((regDefOf f.id).bind (fun r => regCopy r h.base)).map (fun j => (f, j)))

/-- The block's HOLD reads 1. -/
def State.held' (s : State) (h : Home) : Bool :=
  match holdSlot h with
  | some (f, j) => s.on f j
  | none => false

/-- The held paired I fields of a block apply, with the hardware changes on that edge (R105, R108). -/
def State.holdReleased (s : State) (hw : List HwChange) (h : Home) : State :=
  s.applyAll hw (s.staged.filter (fun x => decide (x.field.applies = .i) && ((slotHome x.field.id x.index).any (·.base == h.base))))

/-! ### One access (R95, R96, R98, R100) -/

/-- The bits of the word at an address that `n` bytes write. -/
def laneMask (a n : Nat) : Nat := (2 ^ (8 * n) - 1) * 2 ^ (8 * (a % 4))

/-- What a field takes from a write through a view: none where the write touches no bit of it (R95, R96). -/
def viewed (view old w mask width : Nat) : Option Nat :=
  let m := mask % 2 ^ width
  let t := Nat.land (w % 2 ^ width) m
  if view = 0 then
    if m = 0 then none else some (Nat.lor t (Nat.land old (Nat.xor m (2 ^ width - 1))))
  else if t = 0 then none
  else some (match view with
    | 1 => Nat.lor old t
    | 2 => Nat.land old (Nat.xor t (2 ^ width - 1))
    | _ => Nat.xor old t)

/-- What a written field keeps in the bits not written: the value written last, or the live one (R96, R100, R103). -/
def State.base (s : State) (f : Field) (i : Nat) : Nat := (s.pendingWrite f i).getD (s.shown f i)

/-- The writable fields of a register that a write touches, with their new values. -/
def State.touched (s : State) (r : RegDef) (i view w mask : Nat) : List Staged :=
  r.fields.filterMap (fun f =>
    if f.access = .rw then
      (viewed view (s.base f i) (w / 2 ^ f.lo) (mask / 2 ^ f.lo) f.width).map (fun v => ⟨f, i, v⟩)
    else none)

/-- A field applies as the write arrives (R101, R105). -/
def atOnce (hold : Bool) (f : Field) : Bool := decide (f.applies = .i) && !(hold && f.paired)

/-- A write to the nibble of a port whose migration is under way has an unpredictable result (R144): what waits is a free
value (log entry 13). -/
def State.openNibble (s : State) (x : Staged) : Staged × State :=
  if x.field.id / 32 = F.PART_ASSIGN_PORT0.id / 32 ∧ s.bit F.PART_MIGBUSY_BUSY 0 (8 * x.index + assignIdx x.field) = true then
    let (n, s) := s.drawNat
    (⟨x.field, x.index, s.assignValue (n % 5)⟩, s)
  else (x, s)

/-- One write waits, in place of an earlier one to the same field (R102). -/
def State.stageOne (s : State) (x : Staged) : State :=
  let (y, s) := s.openNibble x
  { s.unstage y with staged := (s.unstage y).staged ++ [y] }

/-- Writes that wait replace earlier ones to the same fields (R102). -/
def State.stageAll (s : State) (l : List Staged) : State :=
  l.foldl (fun s x => if s.ignores x.field x.index then s else s.stageOne x) s

/-- A 1 written to a WO field acts once (R98): `v` is what the field takes, `w` the whole word. -/
def State.strobe (s : State) (stop : State → Nat → State) (f : Field) (i v w : Nat) : State :=
  if f.id = F.RTC_SNAP_REQ.id then s.snapReq 0
  else if f.id = F.GOV_SNAP_REQ.id then s.snapReq 1
  else if f.id = F.CHORD_SNAP_REQ.id then s.snapReq 2
  else if f.id = F.TRC_SNAP_REQ.id then s.snapReq 3
  else if f.id = F.ADC_SNAP_REQ.id then s.snapReq (4 + i)
  else if f.id = F.MPU_THAW_THAW.id then s.each ((List.range 11).filter (fun m => v.testBit m)) State.thaw
  else if f.id = F.PART_MIGCTL_GO.id then s.migGo
  else if f.id = F.DPE_GLITCH_CTL_GO.id then
    if s.fitted i then s.glitchStart i (s.glitchCfg i) (s.fld F.DPE_GLITCH_GAP_GAP i) 0 else s
  else if f.id = F.DSW_PCTL_STGO.id then (if s.selfTestAllowed i then s.selfTestStart i else s)
  else if f.id = F.DSW_PCTL_REARM.id then s.rearm i
  else if f.id = F.TCPD_CTL_DISCGO.id then s.discGo i
  else if f.id = F.TCPD_CTL_VCREARM.id then s.vcRearm i
  else if f.id = F.TCPD_TXCTL_GO.id then
    let (n, s) := s.drawNat
    s.transmit i (n % 4)
  else if f.id = F.TCPD_RXSTAT_RELEASE.id then s.rxRelease i
  else if f.id = F.PWR_PCTL_CLRLATCH.id then s.clrLatch i
  else if f.id = F.ENT_HCTL_CLRLATCH.id then s.hsClrLatch
  else if f.id = F.TAT_CMD_CANCEL.id then s.tatBegin false
  else if f.id = F.TAT_CMD_ADD.id then s.tatBegin true
  else if f.id = F.TRC_CTL_CLEAR.id then s.traceClear
  else if f.id = F.TRC_CTL_TRIG.id then s.traceTrigger 0 0
  else if f.id = F.TRC_CTL_STOP.id then s.traceStop 0
  else if f.id = F.TRC_CTL_START.id then s.traceStart 0
  else if f.id = F.TRC_MARK_VALUE.id then s.trcMark v
  else if f.id = F.IC_COMPLETE_LEVEL.id then s.icComplete i v
  else if f.id = F.IC_KICK_KICK.id then s.kick i
  else if f.id = F.SYS_DMACTL_GO.id then s.dmaGo i
  else if f.id = F.SYS_DMACTL_STOP.id then stop s i
  else if f.id = F.QSPI_HCTL_START.id then s.hashStart
  else if f.id = F.QSPI_OPCTL_GO.id then s.qspiGo (s.fld F.QSPI_OPCTL_OP 0)
  else if f.id = F.FC_CLR_GO.id then s.fcClear (w % 65536)
  else if f.id = F.FC_INJ_GO.id then
    (if w / 65536 % 4 = 1 then s.fcInjectWire (w % 65536) else s.fcInjectEvent (w % 65536) false)
  else if f.id = F.FC_ST_GO.id then s.fcSelftest
  else if f.id = F.LOG_SUBCTL_GO.id then s.logSubGo
  else if f.id = F.CAL_NVMCTL_GO.id then s.nvmGo (s.fld F.CAL_NVMCTL_OP 0)
  else if f.id = F.MBX_LCTL_GO.id then s.localGo i
  else if f.id = F.MBX_LCTL_ACK.id then s.localAck i
  else s

/-- The WO fields of a register that a write sets act, in the order of their bits (R96, R98); a write of TRC_MARK in the normal
view acts with the value 0 too (R355). -/
def State.strobes (s : State) (stop : State → Nat → State) (r : RegDef) (i view w : Nat) : State :=
  if view = 0 ∨ view = 1 then
    r.fields.reverse.foldl (fun s f =>
      let v := w / 2 ^ f.lo % 2 ^ f.width
      if f.access = .wo ∧ (v ≠ 0 ∨ (view = 0 ∧ f.id = F.TRC_MARK_VALUE.id)) then s.strobe stop f i v w else s) s
  else s

/-- A write of bits `mask` of a register: fields that apply at once, then the WO fields; the rest waits. -/
def State.writeReg (s : State) (stop : State → Nat → State) (hw : List HwChange) (h : Home) (r : RegDef)
    (i view w mask : Nat) : State :=
  let w := Nat.land w mask
  let l := s.touched r i view w mask
  let hold := s.held' h
  let now := l.filter (fun x => atOnce hold x.field)
  let s := (s.stageAll (l.filter (fun x => !atOnce hold x.field))).applyAll hw now
  let s := if hold && !s.held' h then s.holdReleased hw h else s
  s.strobes stop r i view w

/-- A permitted store of master `m` of `n` bytes at `a`: a register, or memory (R92). -/
def State.storeWith (s : State) (stop : State → Nat → State) (hw : List HwChange) (m a n data : Nat) : State :=
  match homeAt a with
  | some h =>
    if shutTo m h a then s
    else match regAt h (normalAddr h (a / 4 * 4)) with
      | some (r, i) => s.writeReg stop hw h r (bankOf m r i) (viewOf h a) (data % 2 ^ (8 * n) * 2 ^ (8 * (a % 4))) (laneMask a n)
      | none => s
  | none =>
    if 0x10000000 ≤ a ∧ a < 0x10080000 then s.writeBytes (tcmAddr m (a - 0x10000000)) (le n data)
    else if 0x20000000 ≤ a ∧ a < 0x20200000 then s.writeBytes a (le n data)
    else s

/-! ### Transfers (R397) -/

/-- A transfer that a DMA channel's own store stops: it copies no further word. -/
def State.dmaHalt (s : State) (d : Nat) : State :=
  if s.on F.SYS_DMASTAT_BUSY d then
    ((s.put F.SYS_DMASTAT_BUSY d false).incr F.SYS_DMACNT0_STOPS d).irq (172 + d)
  else s

/-- The channel's access meets an absent block (R111, R397). -/
def State.dmaAbsent (s : State) (d a : Nat) : State :=
  match s.absentAt a with
  | some die => (s.incr F.SYS_DMACNT1_ABSENTS d).absentAccess die
  | none => s

/-- A channel copies one word; none where an access of it is a violation, which freezes it (R115, R397). -/
def State.dmaWord (s : State) (d : Nat) : Option State :=
  let r := s.dmaAt d
  if (!r.zero && decide (s.violates (5 + d) r.src 4 .load ≠ 0)) || decide (s.violates (5 + d) r.dst 4 .store ≠ 0) then none
  else
    let v := if r.zero || (s.absentAt r.src).isSome then 0
      else ofLe ((List.range 4).map (fun j => s.loadByte (5 + d) (r.src + j)))
    let s := if r.zero then s else if (s.absentAt r.src).isSome then s.dmaAbsent d r.src else s.afterRead r.src
    let s := if !r.zero && decide (0x30000000 ≤ r.src ∧ r.src < 0x34000000) then s.hashRead (r.src - 0x30000000) 4 else s
    let gone := (s.absentAt r.dst).isSome
    let s := if gone then s.dmaAbsent d r.dst else s.storeWith State.dmaHalt [] (5 + d) r.dst 4 v
    let s := s.setFld F.SYS_DMASTAT_REMAIN d (s.fld F.SYS_DMASTAT_REMAIN d - 1)
    some (s.updHw (fun h => { h with dma := Tbl.put h.dma d ⟨r.src + 4, r.dst + 4, false⟩ }))

/-- A channel copies up to `n` words, and stops early at a violation. -/
def State.dmaCopy (s : State) (d : Nat) : Nat → State
  | 0 => s
  | n + 1 =>
    if s.on F.SYS_DMASTAT_BUSY d && !s.on F.SYS_DMASTAT_FROZEN d && decide (s.fld F.SYS_DMASTAT_REMAIN d ≠ 0) then
      match s.dmaWord d with
      | some t => t.dmaCopy d n
      | none =>
        let r := s.dmaAt d
        if !r.zero && decide (s.violates (5 + d) r.src 4 .load ≠ 0) then s.violation (5 + d) r.src 4 .load
        else s.violation (5 + d) r.dst 4 .store
    else s

/-- A write of STOP after `n` more words (R397). -/
def State.dmaStop (s : State) (d n : Nat) : State :=
  if s.on F.SYS_DMASTAT_BUSY d && !s.on F.SYS_DMASTAT_FROZEN d then
    let s := s.dmaCopy d (min n (s.fld F.SYS_DMASTAT_REMAIN d))
    if s.on F.SYS_DMASTAT_FROZEN d then s else s.dmaHalt d
  else s.dmaHalt d

/-- A STOP that a write brings: how many words the channel has copied by then is open (log entry 3). -/
def State.dmaStopFree (s : State) (d : Nat) : State :=
  let (n, s) := s.drawNat
  s.dmaStop d (n % (s.fld F.SYS_DMASTAT_REMAIN d + 1))

/-- A permitted store of master `m`. -/
def State.store (s : State) (hw : List HwChange) (m a n data : Nat) : State := s.storeWith State.dmaStopFree hw m a n data

/-- A store of master `m`: frozen masters make none, a violation stops it, an absent block drops it (R111, R114, R115). -/
def State.masterStore (s : State) (hw : List HwChange) (m a n data : Nat) : State :=
  if 10 < m ∨ s.bit F.MPU_FREEZE_FROZEN 0 m = true then s
  else
    let reason := s.violates m a n .store
    if reason ≠ 0 then
      if m = 0 then (s.recordViolation 0 a n .store (reason - 1)).partReset 7 0 else s.violation m a n .store
    else match s.absentAt a with
      | some die => s.absentAccess die
      | none => s.store hw m a n data

end Sys2Proof.Machine
end

