-- ==== Sys2Proof/Machine/MbxCmd.lean ====
section
/-! DEFINITION. What the mailbox commands share: reading register words for a response, and writing registers on behalf of
the requester (R107, R111, R441, R451). -/

namespace Sys2Proof.Machine

/-- The word of the register that holds a field, as system firmware reads it: 0 where the block is absent, off or out of
reach (R111, R451). -/
def State.readWord (s : State) (f : Field) (i : Nat) : Nat :=
  match slotHome f.id i with
  | some h =>
    if s.homeGone h || s.linkLost h then 0 else s.wordOf f i
  | none => 0

/-- Four bytes of a register. -/
def State.reg4 (s : State) (f : Field) (i : Nat) : List Nat := le 4 (s.readWord f i)

/-- The words of registers, each given by one of its fields and its index. -/
def State.regs4 (s : State) (l : List (Field × Nat)) : List Nat := l.flatMap (fun e => s.reg4 e.1 e.2)

/-- System firmware's reads of these registers: each that meets an absent block is counted on its die (R111). -/
def State.readsCounted (s : State) (l : List (Field × Nat)) : State :=
  s.each (l.filterMap (fun e => ((slotHome e.1.id e.2).filter s.homeGone).map (·.die))) State.absentAccess

/-- The writes that a word with a bit mask makes to the register that holds a field. -/
def State.wordWrites (s : State) (f : Field) (i w mask : Nat) : List Staged :=
  match regDefOf f.id with
  | some r => s.touched r i 0 w mask
  | none => []

/-- System firmware writes fields: those of code I apply at once, the others at their boundary (R101). -/
def State.fwWrite (s : State) (l : List Staged) : State :=
  (s.stageAll (l.filter (fun x => x.field.applies != .i))).applyAll [] (l.filter (fun x => x.field.applies == .i))

/-- System firmware writes fields of one block under its HOLD (R107): HOLD is 0 afterwards. -/
def State.fwGroup (s : State) (l : List Staged) : State :=
  let s := s.fwWrite l
  match l with
  | [] => s
  | x :: _ => match slotHome x.field.id x.index with
    | some h => match holdSlot h with
      | some (f, j) => if s.on f j then (s.put f j false).holdReleased [] h else s
      | none => s
    | none => s

/-- A whole word for a register. -/
def fullWord : Nat := 2 ^ 32 - 1

/-- A domain that a command needs is on and stays on (R440). -/
def State.needs (s : State) (d : Nat) : Bool := s.domOn d && !s.domChanging d

/-- A mask command whose ports also need FABRIC. -/
def State.fabricCommand (s : State) (ch : Nat) (f : Frame) (act : State → Nat → Nat × State) : State × Option Reply :=
  s.maskCommand ch f (fun s p => if s.needs Dom.fabric then act s p else (Status.state, s))

/-- The restricted partition of a channel. -/
def restrictedPart (ch : Nat) : Option Nat := if 3 ≤ ch ∧ ch ≤ 5 then some (ch - 2) else none

/-- A reply that is a status alone, the state unchanged. -/
def State.refuse (s : State) (status : Nat) : State × Option Reply := (s, some (Reply.of status))

/-- OK with a payload, the state unchanged. -/
def State.give (s : State) (payload : List Nat) : State × Option Reply := (s, some (Reply.give payload))

/-- OK with the words of registers, which firmware reads (R111). -/
def State.giveRegs (s : State) (l : List (Field × Nat)) : State × Option Reply := (s.readsCounted l).give (s.regs4 l)

/-- A mask command that answers the words of registers of each port instead of results (R111, R451, R452). -/
def State.maskRead (s : State) (ch : Nat) (f : Frame) (words : Nat → List (Field × Nat)) : State × Option Reply :=
  let m := word32 f.payload 0
  let bad := s.maskFault ch m
  if bad ≠ 0 then s.refuse bad else s.giveRegs ((maskPorts m).flatMap words)

/-- OK without payload in a new state. -/
def State.done (s : State) : State × Option Reply := (s, some (Reply.of 0))

end Sys2Proof.Machine
end

