-- ==== Sys2Proof/Machine/MbxPort.lean ====
section
/-! DEFINITION. The PORT commands of the mailbox (R137, R142, R450, R451). -/

namespace Sys2Proof.Machine

/-! ### Status and assignment -/

/-- The words of a port's PORT_STATUS record (R451). -/
def portWords (p : Nat) : List (Field × Nat) :=
  [F.DPE_STATE_STATE, F.DPE_PORTSTAT_STATUS, F.TCPD_CCSTAT_STATE, F.TCPD_PDSTAT_REV, F.TCPD_CONTRACT_OBJPOS,
    F.PWR_PSTAT_STATE, F.ADC_PV_VBUS, F.ADC_PI_IBUS].map (fun f => (f, p))

/-- PORT_STATUS (R450, R451). -/
def execPortStatus (ch : Nat) (s : State) : Host.Outcome State Fault Refusal :=
  .next (s.command ch 0x0201 anyForm (fun s f => s.maskRead ch f portWords))

/-- The fault of PORT_ASSIGN's partition (R142, R450): a restricted channel only gives ports up. -/
def State.assignFault (s : State) (ch : Nat) (f : Frame) : Nat :=
  let k := byteAt f.payload 4
  let denied := s.maskFault ch (word32 f.payload 0) = Status.denied || ((restrictedPart ch).isSome && decide (k ≠ 0xF))
  if denied then Status.denied
  else if k ≠ 0xF ∧ s.hasUpstream k = false then Status.badArg
  else 0

/-- PORT_ASSIGN on one port: a migrating port, or a move from one partition to another, gives STATE (R132, R450). -/
def State.assignCmd (k : Nat) (s : State) (p : Nat) : Nat × State :=
  let now := s.partOf p
  if s.dpeIs p .migrating || (s.migs.at p).active then (Status.state, s)
  else if now < 4 ∧ k ≠ 0xF ∧ k ≠ now then (Status.state, s)
  else (0, s.fwWrite [⟨assignField p, currant p, k⟩])

/-- PORT_ASSIGN (R130, R450). -/
def execPortAssign (ch : Nat) (s : State) : Host.Outcome State Fault Refusal :=
  .next (s.command ch 0x0202 anyForm (fun s f =>
    let bad := s.assignFault ch f
    if bad ≠ 0 then s.refuse bad else s.fabricCommand ch f (State.assignCmd (byteAt f.payload 4))))

/-- The fault of PORT_MIGRATE's destination (R137, R142): a restricted channel needs its ACCEPT. -/
def State.migrateFault (s : State) (ch : Nat) (f : Frame) : Nat :=
  let dest := byteAt f.payload 4
  let barred := (restrictedPart ch).any (fun j => s.hasUpstream dest && !s.bit F.PART_PCTL_ACCEPT dest j)
  if s.maskFault ch (word32 f.payload 0) = Status.denied ∨ barred = true then Status.denied
  else if s.hasUpstream dest = false then Status.badArg
  else 0

/-- PORT_MIGRATE on one port (R137, R138); every refusal is logged, that of a port or FABRIC that cannot take an action
(R440, R441) as a row after those of the table of R137, whose number is the model's (DESIGN CHOICE, log entry 169). -/
def State.migrateCmd (dest : Nat) (keep : Bool) (timeout : Nat) (s : State) (p : Nat) : Nat × State :=
  let r := if s.needs Dom.fabric && s.portReady p then s.migRefusal p dest else 5
  if r = 0 then (0, s.migStart p dest keep timeout) else (Status.state, s.migRefused p r)

/-- A PORT_MIGRATE refused as a whole is logged for every port it names, by row 1 or 2 of the table of R137. -/
def State.migrateRefused (s : State) (bad : Nat) (f : Frame) : State :=
  s.each (maskPorts (word32 f.payload 0)) (fun s p => s.migRefused p (if bad = Status.denied then 0 else 1))

/-- PORT_MIGRATE (R137, R450). -/
def execPortMigrate (ch : Nat) (s : State) : Host.Outcome State Fault Refusal :=
  .next (s.command ch 0x0203 anyForm (fun s f =>
    let bad := if s.migrateFault ch f ≠ 0 then s.migrateFault ch f else s.maskFault ch (word32 f.payload 0)
    if bad ≠ 0 then (s.migrateRefused bad f).refuse bad
    else s.maskJudge ch f
      (State.migrateCmd (byteAt f.payload 4) ((byteAt f.payload 5).testBit 0) (byteAt f.payload 6))))

/-! ### Isolation, quarantine, self-test, glitches -/

/-- PORT_ISOLATE (R159, R450). -/
def execPortIsolate (ch : Nat) (s : State) : Host.Outcome State Fault Refusal :=
  .next (s.command ch 0x0204 anyForm (fun s f =>
    s.fabricCommand ch f (fun s p => (0, s.fwWrite [⟨F.DPE_CTL_ISOLATE, p, 1⟩]))))

/-- PORT_RESTORE (R159, R450). -/
def execPortRestore (ch : Nat) (s : State) : Host.Outcome State Fault Refusal :=
  .next (s.command ch 0x0205 anyForm (fun s f =>
    s.fabricCommand ch f (fun s p => (0, s.fwWrite [⟨F.DPE_CTL_ISOLATE, p, 0⟩]))))

/-- Whether PORT_QUARANTINE carries RELEASE. -/
def releaseForm (b : Bool) (f : Frame) : Bool := (byteAt f.payload 4).testBit 0 == b

/-- PORT_QUARANTINE (R161, R450). -/
def execPortQuarantine (ch : Nat) (s : State) : Host.Outcome State Fault Refusal :=
  .next (s.command ch 0x0206 (releaseForm false) (fun s f =>
    s.fabricCommand ch f (fun s p => (0, s.fwWrite [⟨F.DPE_CTL_QUAR, p, 1⟩]))))

/-- PORT_QUARANTINE with RELEASE (R162, R450). -/
def execPortQuarantineRelease (ch : Nat) (s : State) : Host.Outcome State Fault Refusal :=
  .next (s.command ch 0x0206 (releaseForm true) (fun s f =>
    s.fabricCommand ch f (fun s p =>
      if s.quarHeld p || s.on F.DSW_PSTAT_STBUSY p then (Status.state, s)
      else (0, s.fwWrite [⟨F.DPE_CTL_QUAR, p, 0⟩]))))

/-- OPT[0] of a frame has a value. -/
def opt0 (b : Bool) (f : Frame) : Bool := f.opt.testBit 0 == b

/-- PORT_SELFTEST (R164, R450). -/
def execPortSelftest (ch : Nat) (s : State) : Host.Outcome State Fault Refusal :=
  .next (s.command ch 0x0207 (opt0 false) (fun s f =>
    s.maskCommand ch f (fun s p =>
      if s.selfTestAllowed p then
        (0, (s.fwWrite [⟨F.DSW_PCTL_TESTS, p, byteAt f.payload 4 % 8⟩]).selfTestStart p)
      else (Status.state, s))))

/-- PORT_SELFTEST with OPT[0] = 1 (R450): the results. -/
def execPortSelftestResults (ch : Nat) (s : State) : Host.Outcome State Fault Refusal :=
  .next (s.command ch 0x0207 (opt0 true) (fun s f =>
    s.maskRead ch f (fun p => [(F.DSW_STRES_LOOP, p), (F.DSW_STMEAS_LEAK, p)])))

/-- PORT_GLITCH on one port (R167, R168, R450). -/
def State.glitchCmd (cfg gap win : Nat) (s : State) (p : Nat) : Nat × State :=
  if s.glitchBarred p cfg then (Status.state, s.glitchStart p cfg gap 0)
  else
    let s := s.fwGroup (s.wordWrites F.DPE_GLITCH_CFG_TYPE p cfg fullWord ++ s.wordWrites F.DPE_GLITCH_GAP_GAP p gap fullWord
      ++ [⟨F.DPE_GLITCH_CTL_WIN, p, win⟩])
    (0, s.glitchStart p cfg gap 0)

/-- PORT_GLITCH (R450). -/
def execPortGlitch (ch : Nat) (s : State) : Host.Outcome State Fault Refusal :=
  .next (s.command ch 0x0208 anyForm (fun s f =>
    s.fabricCommand ch f (State.glitchCmd (word32 f.payload 4) (word32 f.payload 8) (byteAt f.payload 12))))

/-! ### Power, CC and engine settings -/

/-- PORT_VBUS (R293, R450); while BRDOFF = 1 clearing VOFF gives STATE for each port (R306). -/
def execPortVbus (ch : Nat) (s : State) : Host.Outcome State Fault Refusal :=
  .next (s.command ch 0x0209 anyForm (fun s f =>
    let v := byteAt f.payload 4
    if s.maskFault ch (word32 f.payload 0) = 0 ∧ 1 < v then s.refuse Status.badArg
    else s.maskCommand ch f (fun s p =>
      if v = 0 && s.on F.GOV_STAT_BRDOFF 0 then (Status.state, s) else (0, s.fwWrite [⟨F.PWR_PCTL_VOFF, p, v⟩]))))

/-- PORT_LATCHCLR (R291, R450). -/
def execPortLatchclr (ch : Nat) (s : State) : Host.Outcome State Fault Refusal :=
  .next (s.command ch 0x020A anyForm (fun s f =>
    s.maskCommand ch f (fun s p =>
      match s.clearLatch p with
      | some t => (0, t)
      | none => (Status.state, s.latchRefused p))))

/-- PORT_CC on one port (R222, R223, R227, R230, R450). -/
def State.ccCmd (values mask acts : Nat) (s : State) (p : Nat) : Nat × State :=
  if acts.testBit 0 && s.ccIn p [.disabled, .ccOvHold] then (Status.state, s)
  else
    let s := s.fwWrite (s.wordWrites F.TCPD_CCCFG_CCEN p values mask)
    let s := if acts.testBit 0 then s.errorRecovery p else s
    let s := if acts.testBit 1 then s.discGo p else s
    let s := if acts.testBit 2 then s.vcRearm p else s
    (0, if acts.testBit 3 && s.bit F.TCPD_CCSTAT_DISCAUSE p 2 then s.ccEnableCause p 2 else s)

/-- PORT_CC (R450). -/
def execPortCc (ch : Nat) (s : State) : Host.Outcome State Fault Refusal :=
  .next (s.command ch 0x020B anyForm (fun s f =>
    s.maskCommand ch f (State.ccCmd (word32 f.payload 4) (word32 f.payload 8) (byteAt f.payload 12))))

/-- PORT_CFG on one port: a byte of 0xFF keeps its field (R450); a port between step 2 of its migration and completion
gives STATE, in Migrating or not, since the writes are closed to it (R144, R169). -/
def State.portCfgCmd (rst rsm lpm : Nat) (s : State) (p : Nat) : Nat × State :=
  if s.dpeIs p .migrating || ((s.migs.at p).active && decide (2 ≤ (s.migs.at p).step)) then (Status.state, s)
  else
    let l : List (Field × Nat) := [(F.DPE_TIMING_RSTLEN, rst), (F.DPE_TIMING_RSMLEN, rsm), (F.DPE_CTL_LPM_EN, lpm)]
    (0, s.fwWrite ((l.filter (fun e => e.2 != 0xFF)).map (fun e => ⟨e.1, p, e.2⟩)))

/-- PORT_CFG (R450). -/
def execPortCfg (ch : Nat) (s : State) : Host.Outcome State Fault Refusal :=
  .next (s.command ch 0x020C anyForm (fun s f =>
    let lpm := byteAt f.payload 6
    if s.maskFault ch (word32 f.payload 0) = 0 ∧ 1 < lpm ∧ lpm ≠ 0xFF then s.refuse Status.badArg
    else s.fabricCommand ch f (State.portCfgCmd (byteAt f.payload 4) (byteAt f.payload 5) lpm)))

/-- The records of PORT_TTALLOC: port, NPBUF, PRES, PMAX. -/
def ttRecords (b : List Nat) : List (List Nat) := (List.range (b.length / 4)).map (fun i => (b.drop (4 * i)).take 4)

/-- The writes of one record. -/
def ttWrites (r : List Nat) : List Staged :=
  let p := byteAt r 0
  [⟨F.TT_ALLOC_NPBUF, p, byteAt r 1⟩, ⟨F.TT_ALLOC_PRES, p, byteAt r 2⟩, ⟨F.TT_ALLOC_PMAX, p, byteAt r 3⟩]

/-- PORT_TTALLOC (R176, R450). -/
def execPortTtalloc (ch : Nat) (s : State) : Host.Outcome State Fault Refusal :=
  .next (s.command ch 0x020D anyForm (fun s f =>
    let l := ttRecords f.payload
    let good := l.all (fun r => s.fitted (byteAt r 0) && decide (byteAt r 1 ≤ 31 ∧ byteAt r 2 ≤ 63 ∧ byteAt r 3 ≤ 63))
    let writes := l.flatMap ttWrites
    let trial := writes.foldl (fun t x => t.setFld x.field x.index x.value) s
    if !good then s.refuse Status.badArg
    else if !s.needs Dom.fabric then s.refuse Status.state
    else if 1024 < trial.reserved then s.refuse Status.badArg
    else
      let s := s.fwGroup writes
      s.give (le 2 (s.fld F.TT_POOL_RESERVED 0) ++ le 2 (s.fld F.TT_POOL_FREE 0))))

end Sys2Proof.Machine
end

