-- ==== Sys2Proof/Machine/Unpred.lean ====
section
/-! DEFINITION. The stores whose results the spec calls unpredictable (R118, R169, R189, R213, R239, R271, R314, R347,
R370, R395, R423, R465): the rule that lists a store, 0 for none. -/

namespace Sys2Proof.Machine

/-- The ranges of PLAN are wrong (R319, R347, R463): one that is not empty leaves the own range, or two overlap. -/
def State.planBad (s : State) (l : List (Nat × Nat)) : Bool :=
  let l := l.filter (fun e => decide (e.1 ≤ e.2))
  let lo := s.fld F.CHORD_RANGE_LO 0
  let hi := s.fld F.CHORD_RANGE_HI 0
  let apart (a b : Nat × Nat) : Bool := decide (a.2 < b.1) || decide (b.2 < a.1)
  l.any (fun e => decide (e.1 < lo) || decide (hi < e.2)) || !decide (l.Pairwise (fun a b => apart a b = true))

/-! ### Stores to memory (R189, R213, R370, R395, R423, R465) -/

/-- The address lies in a buffer of an enabled endpoint of an instance; core 0 stores to EP0's while it serves a
GET_DESCRIPTOR (R195, R197, R213). -/
def State.inEndpoint (s : State) (m a : Nat) : Bool :=
  decide (0x200D8000 ≤ a ∧ a < 0x200F8000) && [0, 1, 2, 3].any (fun k => s.on F.MF_CTL_CONNECT k && [0, 1, 2, 3, 4].any (fun e =>
    let u := (a - 0x200D8000) / 64
    let b := s.fld F.MF_EPD_START (epd k e)
    decide (b ≤ u ∧ u < b + s.fld F.MF_EPD_SIZE (epd k e)) && !(decide (m = 0) && decide (e = 0) && (s.mf.at k).control == .waitFirmware)))

/-- The length of the command that a core's local mailbox has taken. -/
def State.takenLength (s : State) (ch : Nat) : Nat :=
  match (s.mbx.at ch).running with
  | some f => f.bytes.length
  | none => ((s.queued ch).head?.map List.length).getD 0

/-- The address lies in the request or the response area of a core whose local mailbox is busy (R435, R465). -/
def State.inMailArea (s : State) (m a : Nat) : Bool :=
  decide (1 ≤ m ∧ m ≤ 4) && s.on F.MBX_LCTL_BUSY m && (
    let o := a - 0x10000000
    let req := 4 * s.fld F.MBX_LREQ_OFFSET m
    let rsp := 4 * s.fld F.MBX_LRSP_OFFSET m
    decide (0x10000000 ≤ a) && (decide (req ≤ o ∧ o < req + s.takenLength (6 + m)) || decide (rsp ≤ o ∧ o < rsp + 1040)))

/-- A ROM loader copies from the staging area or reads the start descriptor at the address (R380, R381, R395). -/
def State.inLoad (s : State) (a : Nat) : Bool :=
  [1, 2, 3, 4].any (fun c => decide ((s.cores.at c).stage = .loading)
    && (decide (0x20000000 ≤ a ∧ a < 0x20040000) || decide (descriptor c ≤ a ∧ a < descriptor c + 0x40)))

/-- The rule that calls a store to a byte of memory unpredictable. -/
def State.openByte (s : State) (m a : Nat) : Nat :=
  if 0x20047000 ≤ a ∧ a < 0x20087000 then 423
  else if 0x20087000 ≤ a ∧ a < 0x200C7000 then 370
  else if 0x200D7000 ≤ a ∧ a < 0x200D8000 then 213
  else if s.inEndpoint m a then 213
  else if 0x200F8000 ≤ a ∧ a < 0x20200000 then 189
  else if s.inLoad a then 395
  else if s.inMailArea m a then 465
  else 0

/-! ### Stores to registers -/

/-- The rule that calls a write of `v` to a field of DPE, DSW or MF unpredictable (R169, R213). -/
def State.openQuince (s : State) (f : Field) (i _v : Nat) : Nat :=
  let r := f.id / 32
  if r = F.DPE_GLITCH_CFG_TYPE.id / 32 ∨ r = F.DPE_GLITCH_GAP_GAP.id / 32 then
    (if s.on F.DPE_GLITCH_CTL_BUSY i || s.on F.DPE_GLITCH_CTL_ARMED i then 169 else 0)
  else if r = F.DPE_TIMING_RSTLEN.id / 32 ∨ f.id = F.DPE_CTL_LPM_EN.id then
    (if s.dpeIs i .migrating || ((s.migs.at i).active && decide (2 ≤ (s.migs.at i).step)) then 169 else 0)
  else if f.id = F.DSW_PCTL_TESTS.id then (if s.on F.DSW_PSTAT_STBUSY i then 169 else 0)
  else if r = F.MF_EPD_START.id / 32 then (if s.on F.MF_CTL_CONNECT (i / 5) then 213 else 0)
  else 0

/-- The rule that calls a write of `v` to a field of a Currant or of Sloe unpredictable (R239, R271, R314). -/
def State.openPort (s : State) (m : Nat) (f : Field) (i v : Nat) : Nat :=
  let r := f.id / 32
  let buf := decide (r = F.TCPD_TXBUF_DATA.id / 32) || decide (r = F.TCPD_RXBUF_DATA.id / 32)
  let p := if buf then i / 32 else i
  let message := decide (F.TCPD_PDCFG_PD_EN.id / 32 ≤ r ∧ r ≤ F.TCPD_RXBUF_DATA.id / 32)
  let attach := decide (r = F.TCPD_CCCFG_CCEN.id / 32) || decide (r = F.TCPD_CCTIM_TCCDB.id / 32)
  let tx := decide (r = F.TCPD_TXBUF_DATA.id / 32) || decide (r = F.TCPD_TXHDR_HDR.id / 32) || decide (r = F.TCPD_TXCTL_BUSY.id / 32)
  if (message || attach) && decide (m ≠ policyCore p) && s.policyRuns p then 239
  else if tx && s.on F.TCPD_TXCTL_BUSY p then 271
  else if f.id = F.PWR_PCTL_VOFF.id ∧ v = 0 ∧ s.bit F.GOV_BRDOFF_PORTS 0 (i - 1) then 314
  else 0

/-- The rule that calls a write to a field of the service blocks unpredictable (R347, R370, R395, R423); `hold` is the
block's. -/
def State.openService (s : State) (hold : Bool) (f : Field) (i : Nat) : Nat :=
  let r := f.id / 32
  if r = F.TAT_NEW_WORD.id / 32 ∨ r = F.TAT_CMD_INDEX.id / 32 then (if s.on F.TAT_STAT_BUSY 0 then 347 else 0)
  else if f.id = F.TRC_CFG_MEM.id ∨ f.id = F.TRC_CFG_MODE.id then (if s.capturing then 370 else 0)
  else if f.paired ∧ F.TRC_CFG_MEM.id / 32 ≤ r ∧ r ≤ F.TRC_CNT2_SKIPPED.id / 32 then
    (if s.capturing && !hold then 370 else 0)
  else if r = F.SYS_DMASRC_ADDR.id / 32 ∨ r = F.SYS_DMADST_ADDR.id / 32 ∨ r = F.SYS_DMALEN_WORDS.id / 32 then
    (if s.on F.SYS_DMASTAT_BUSY i then 395 else 0)
  else if r = F.QSPI_PBUF_DATA.id / 32 ∨ r = F.QSPI_OPADDR_ADDR.id / 32 ∨ r = F.QSPI_OPCTL_OP.id / 32 then
    (if s.on F.QSPI_STAT_OPBUSY 0 then 395 else 0)
  else if r = F.LOG_SUB_WORD.id / 32 then (if s.on F.LOG_STAT_SUBBUSY 0 then 423 else 0)
  else if r = F.LOG_WR_SEQ.id / 32 then (if s.on F.LOG_CFG_EN 0 then 423 else 0)
  else 0

/-- The value a field has after the writes of a list. -/
def State.after (s : State) (l : List Staged) (f : Field) (i : Nat) : Nat :=
  ((l.find? (fun x => x.field.id == f.id && x.index == i)).map (·.value)).getD (s.stagedFld f i)

/-- The rule that calls the values that fields have together unpredictable: VCLAMP at or above VSURGE (R314), and the ranges
of PLAN (R347). -/
def State.openTogether (s : State) (l : List Staged) : Nat :=
  let touches (f : Field) : Bool := l.any (fun x => decide (x.field.id / 32 = f.id / 32))
  if touches F.ENT_SURGE_VCLAMP ∧ surgeClamped (s.after l F.ENT_SURGE_VSURGE 0) ≤ clampClamped (s.after l F.ENT_SURGE_VCLAMP 0) then 314
  else if (touches F.CHORD_DNRANGE_DNLO || touches F.CHORD_CFG_RANGEMODE) && decide (s.after l F.CHORD_CFG_RANGEMODE 0 = 1)
      && s.planBad ([0, 1, 2, 3].map (fun d => (s.after l F.CHORD_DNRANGE_DNLO d, s.after l F.CHORD_DNRANGE_DNHI d))) then 347
  else 0

/-- The rule that calls a write of bits `mask` of a register unpredictable. -/
def State.openReg (s : State) (m : Nat) (h : Home) (r : RegDef) (i view w mask : Nat) : Nat :=
  let w := Nat.land w mask
  let l := s.touched r i view w mask
  let acts := if view = 0 ∨ view = 1 then
      (r.fields.filter (fun f => decide (f.access = .wo) && decide (w / 2 ^ f.lo % 2 ^ f.width ≠ 0))).map (fun f => (⟨f, i, 1⟩ : Staged))
    else []
  let one (x : Staged) : Nat :=
    if s.ignores x.field x.index then 0
    else max (s.openQuince x.field x.index x.value)
      (max (s.openPort m x.field x.index x.value) (s.openService (s.held' h) x.field x.index))
  ((l ++ acts).map one).foldl max (s.openTogether l)

/-- The rule that calls a permitted store of master `m` of `n` bytes at `a` unpredictable. -/
def State.openStore (s : State) (m a n data : Nat) : Nat :=
  match homeAt a with
  | some h =>
    if shutTo m h a then 0
    else match regAt h (normalAddr h (a / 4 * 4)) with
      | some (r, i) => s.openReg m h r (bankOf m r i) (viewOf h a) (data % 2 ^ (8 * n) * 2 ^ (8 * (a % 4))) (laneMask a n)
      | none => 0
  | none => ((List.range n).map (fun j => s.openByte m (a + j))).foldl max 0

/-- The rule that a channel's next `n` words meet. -/
def State.openCopy (s : State) (d : Nat) : Nat → Nat
  | 0 => 0
  | n + 1 =>
    if s.on F.SYS_DMASTAT_BUSY d && !s.on F.SYS_DMASTAT_FROZEN d && decide (s.fld F.SYS_DMASTAT_REMAIN d ≠ 0) then
      match s.dmaWord d with
      | some t =>
        let r := s.dmaAt d
        let v := if r.zero || (s.absentAt r.src).isSome then 0
          else ofLe ((List.range 4).map (fun j => s.loadByte (5 + d) (r.src + j)))
        let c := if (s.absentAt r.dst).isSome then 0 else s.openStore (5 + d) r.dst 4 v
        if c = 0 then t.openCopy d n else c
      | none => 0
    else 0

/-- The rule that calls a store of master `m` unpredictable; a store that is not made meets none (R111, R114, R115). -/
def State.openCase (s : State) (m a n data : Nat) : Nat :=
  if 10 < m ∨ s.bit F.MPU_FREEZE_FROZEN 0 m = true ∨ s.violates m a n .store ≠ 0 ∨ (s.absentAt a).isSome then 0
  else s.openStore m a n data

/-- The rule that a list of words written by the agent `m` meets, one after the other. -/
def State.openWrites (s : State) (m : Nat) : List (Nat × Nat) → Nat
  | [] => 0
  | (a, v) :: r =>
    if s.violates m a 4 .store ≠ 0 ∨ (s.absentAt a).isSome ∨ s.linkLostAt a = true then 0
    else if s.openStore m a 4 v ≠ 0 then s.openStore m a 4 v
    else (s.store [] m a 4 v).openWrites m r

end Sys2Proof.Machine
end

