-- ==== Sys2Proof/Machine/MbxFault.lean ====
section
/-! DEFINITION. The FAULT, CAL, REG and CHORD commands of the mailbox, and the gather of summaries (R334, R418, R422, R459
to R463). -/

namespace Sys2Proof.Machine

/-! ### FAULT (R459) -/

/-- A word of the FC view of a source (R424). -/
def State.fcWord (s : State) (id : Nat) (f : Field) : List Nat := le 4 ((s.setFld F.FC_SEL_ID 0 id).wordOf f 0)

/-- FAULT_STATUS of one source (R459): a defined ID is taken though its index is an absent port (log entry 135). -/
def execFaultStatus (ch : Nat) (s : State) : Host.Outcome State Fault Refusal :=
  .next (s.command ch 0x0701 (opt0 false) (fun s f =>
    let id := half f.payload 0
    if !fcDefined id then s.refuse Status.badArg
    else s.give (s.fcWord id F.FC_SCFG_N ++ s.fcWord id F.FC_SSTAT_STATE ++ s.fcWord id F.FC_SCNT_EVENTS)))

/-- The sources in FAULT in ascending order. -/
def State.inFault (s : State) : List Nat := (s.fc.sources.filter (fun e => e.2.st == .fault)).map (·.1)

/-- FAULT_STATUS with OPT[0] = 1 (R459). -/
def execFaultStatusList (ch : Nat) (s : State) : Host.Outcome State Fault Refusal :=
  .next (s.command ch 0x0701 (opt0 true) (fun s _ =>
    s.give (s.reg4 F.FC_SUM_SEVERE 0 ++ s.reg4 F.FC_ST_BUSY 0 ++ (s.inFault.take 508).flatMap (le 2))))

/-- FAULT_CFG (R406, R459): a defined ID is taken though its index is an absent port (log entry 135). -/
def execFaultCfg (ch : Nat) (s : State) : Host.Outcome State Fault Refusal :=
  .next (s.command ch 0x0702 anyForm (fun s f =>
    let id := half f.payload 0
    let w := word32 f.payload 4
    if !fcDefined id then s.refuse Status.badArg
    else (s.fcConfigure id ((byteAt f.payload 2).testBit 0) (w % 256) (w / 256 % 65536) (w / 2 ^ 24 % 8)
      (w.testBit 28)).done))

/-- The IDs of FAULT_CLEAR. -/
def clearIds (b : List Nat) : List Nat := (List.range (half b 0)).map (fun i => half b (4 + 2 * i))

/-- A channel may clear a source (R442, R459): others than owners the port sources of own ports. -/
def State.mayClear (s : State) (ch id : Nat) : Bool :=
  ownerChannel ch || (!(fcPorts id).isEmpty && (fcPorts id).all (fun p => !s.fitted p || s.ownPort ch p))

/-- Clear sources in order; their results. -/
def State.clearEach (s : State) : List Nat → State × List Nat
  | [] => (s, [])
  | id :: r =>
    let t := s.fcClear id
    let y := t.clearEach r
    (y.1, t.fld F.FC_RESULT_RESULT 0 :: y.2)

/-- FAULT_CLEAR (R407, R459). -/
def execFaultClear (ch : Nat) (s : State) : Host.Outcome State Fault Refusal :=
  .next (s.command ch 0x0703 anyForm (fun s f =>
    let l := clearIds f.payload
    if l.any (fun id => fcDefined id && !s.mayClear ch id) then s.refuse Status.denied
    else if l.isEmpty || decide (16 < l.length) || l.any (fun id => !fcDefined id) then s.refuse Status.badArg
    else
      let x := s.clearEach l
      if x.2.all (fun r => decide (r = 0)) then x.1.give (x.2.flatMap (le 2)) else x.1.refuse Status.state))

/-- FAULT_INJECT (R409, R459). -/
def execFaultInject (ch : Nat) (s : State) : Host.Outcome State Fault Refusal :=
  .next (s.command ch 0x0704 anyForm (fun s f =>
    let id := half f.payload 0
    let mode := byteAt f.payload 2
    if 1 < mode then s.refuse Status.badArg
    else
      let t := if mode = 1 then s.fcInjectWire id else s.fcInjectEvent id false
      t.give [t.fld F.FC_RESULT_RESULT 0]))

/-- FAULT_SELFTEST (R411, R459). -/
def execFaultSelftest (ch : Nat) (s : State) : Host.Outcome State Fault Refusal :=
  .next (s.command ch 0x0705 anyForm (fun s _ =>
    if s.on F.FC_ST_BUSY 0 then s.refuse Status.busy else s.fcSelftest.done))

/-- The log summary of this unit (R418). -/
def State.logSummary (s : State) : List Nat :=
  le 2 (s.fld F.CHORD_STAT_ADDR 0) ++ [s.sync % 4, min 255 s.inFault.length] ++ le 4 (s.fld F.LOG_WR_SEQ 0)
    ++ le 2 (s.fld F.FC_CNT0_EVENTS 0) ++ le 2 (s.fld F.TAT_CNT0_SUPPR 0)
    ++ [(allPorts.filter (fun p => s.live p && s.pwrIs p .latched)).length,
      (allPorts.filter (fun p => s.fitted p && s.dpeIs p .quarantined)).length]
    ++ le 2 (s.fld F.FC_SUM_LASTSEV 0) ++ le 8 s.fc.lastCt
    ++ [s.fld F.PMU_RESET_CAUSE_CAUSE 0, min 255 (s.fld F.FC_CNT1_WIREFAULTS 0)] ++ List.replicate 6 0

/-- The running frame of a channel is a gather frame (R334). -/
def gatherForm (b : Bool) (ch : Nat) (f : Frame) : Bool := (ch == 6 && f.mode == 2) == b

/-- FAULT_SUMMARY (R418, R459). -/
def execFaultSummary (ch : Nat) (s : State) : Host.Outcome State Fault Refusal :=
  .next (s.command ch 0x0706 (gatherForm false ch) (fun s _ => s.give s.logSummary))

/-- A gather frame is executed (R334): in MERGE mode the own summary enters the unit's merge; in LIST mode it is kept by
the Apex and sent up by every other unit. -/
def State.gather (s : State) (f : Frame) : State :=
  let own := s.logSummary
  match s.chord.inbox with
  | [] => s
  | i :: _ =>
    if f.flags.testBit 3 then
      let one := own.take 4 ++ le 4 1 ++ own.drop 8
      s.updMerge i.id (fun m => { m with summary := mergeSummary m.summary one })
    else if s.apex then s.keepSummary own
    else s.chordSend (.response i.link i.id (s.reply f 0 0 own))

/-- GATHER (R334, R445). -/
def execGather (ch : Nat) (s : State) : Host.Outcome State Fault Refusal :=
  .next (s.command ch 0x0706 (gatherForm true ch) (fun s f => (s.gather f).give s.logSummary))

/-- The consistent records of the ring from SEQ `n` on, at most `count` (R416). -/
def State.logRecords (s : State) (n count : Nat) : List Nat :=
  let newest := s.fld F.LOG_WR_SEQ 0
  let from' := max n (newest - 8192)
  (List.range count).flatMap (fun j =>
    let m := from' + j
    if m < newest ∧ s.word (logAddr m + 8) = m then s.readBytes (logAddr m) 32 else [])

/-- FAULT_LOG (R416, R459). -/
def execFaultLog (ch : Nat) (s : State) : Host.Outcome State Fault Refusal :=
  .next (s.command ch 0x0707 anyForm (fun s f =>
    let n := byteAt f.payload 4
    if n = 0 ∨ 32 < n then s.refuse Status.badArg else s.give (s.logRecords (word32 f.payload 0) n)))

/-! ### CAL (R422, R460) -/

/-- CAL_EXPORT (R422, R460). -/
def execCalExport (ch : Nat) (s : State) : Host.Outcome State Fault Refusal :=
  .next (s.command ch 0x0801 anyForm (fun s f =>
    let second := f.opt.testBit 0
    let s := s.updHw (fun h => { h with cal := { h.cal with out0 := h.cal.out0 || !second, out1 := h.cal.out1 || second } })
    let s := s.put F.CAL_STAT_EXPORTED 0 (s.hw.cal.out0 && s.hw.cal.out1)
    s.give (if second then s.readBytes (calAddr + 1024) 176 else s.readBytes calAddr 1024)))

/-- Whether CAL_WRITE carries COMMIT. -/
def commitForm (b : Bool) (f : Frame) : Bool := f.opt.testBit 1 == b

/-- CAL_WRITE (R422, R460). -/
def execCalWrite (ch : Nat) (s : State) : Host.Outcome State Fault Refusal :=
  .next (s.command ch 0x0802 (commitForm false) (fun s f =>
    let s := if f.opt.testBit 0 then s.updHw (fun h => { h with cal := { h.cal with part1 := f.payload } })
      else s.updHw (fun h => { h with cal := { h.cal with part0 := f.payload } })
    (s.put F.CAL_STAT_STAGED 0 (decide ((s.hw.cal.part0 ++ s.hw.cal.part1).length = 1200))).done))

/-- A commit is judged (R422): the status, 0 when it starts. -/
def State.commitFault (s : State) (force : Bool) : Nat :=
  if !s.on F.CAL_STAT_STAGED 0 || !calGood (s.hw.cal.part0 ++ s.hw.cal.part1) then Status.badArg
  else if decide (s.byte (calAddr + 0x0C) = 0) && !s.on F.CAL_STAT_EXPORTED 0 && !force then Status.state
  else if s.on F.CAL_STAT_COMMIT 0 then Status.busy
  else 0

/-- CAL_WRITE with COMMIT (R422, R460). -/
def execCalWriteCommit (ch : Nat) (s : State) : Host.Outcome State Fault Refusal :=
  .next (s.command ch 0x0802 (commitForm true) (fun s f =>
    let bad := s.commitFault (f.opt.testBit 2)
    if bad ≠ 0 then s.refuse bad
    else
      let b := calStamp (s.hw.cal.part0 ++ s.hw.cal.part1) ((s.word (calAddr + 8) + 1) % 2 ^ 32) s.ct
      ((s.updHw (fun h => { h with cal := { h.cal with commit := b } })).put F.CAL_STAT_COMMIT 0 true).done))

/-! ### REG (R461) -/

/-- The agent that makes a channel's register accesses (R461). -/
def regAgent (ch : Nat) : Nat := if ch = 6 then 9 else 10

/-- The status of an access that meets an absent die or a domain that is off (R111, R461). -/
def State.absentStatus (s : State) (die : Nat) : Nat := if s.dieAbsent die then Status.badArg else Status.state

/-- `n` words are read from address `a` on; the status of the first failure ends it (R461). -/
def State.regRead (s : State) (m a : Nat) : Nat → State × Nat × List Nat
  | 0 => (s, 0, [])
  | n + 1 =>
    if s.violates m a 4 .load ≠ 0 then (s.violation m a 4 .load, Status.denied, [])
    else match s.absentAt a with
      | some die => (s.absentAccess die, s.absentStatus die, [])
      | none =>
        if s.linkLostAt a then (s, Status.hwFault, []) else
        let b := (List.range 4).map (fun j => s.loadByte m (a + j))
        let x := (s.afterRead a).regRead m (a + 4) n
        (x.1, x.2.1, b ++ x.2.2)

/-- REG_READ (R461). -/
def execRegRead (ch : Nat) (s : State) : Host.Outcome State Fault Refusal :=
  .next (s.command ch 0x0901 anyForm (fun s f =>
    let n := half f.payload 4
    let m := regAgent ch
    if n = 0 ∨ 256 < n then s.refuse Status.badArg
    else if s.bit F.MPU_FREEZE_FROZEN 0 m then s.refuse Status.state
    else
      let x := s.regRead m (word32 f.payload 0) n
      if x.2.1 = 0 then x.1.give x.2.2 else x.1.refuse x.2.1))

/-- The writes of REG_WRITE: address and value. -/
def regPairs (b : List Nat) : List (Nat × Nat) :=
  (List.range (half b 0)).map (fun i => (word32 b (4 + 8 * i), word32 b (8 + 8 * i)))

/-- Words are written in order; the first failure ends it and keeps the writes already made (R461). -/
def State.regWrite (s : State) (m : Nat) : List (Nat × Nat) → State × Nat
  | [] => (s, 0)
  | (a, v) :: r =>
    if s.violates m a 4 .store ≠ 0 then (s.violation m a 4 .store, Status.denied)
    else match s.absentAt a with
      | some die => (s.absentAccess die, s.absentStatus die)
      | none => if s.linkLostAt a then (s, Status.hwFault) else (s.store [] m a 4 v).regWrite m r

/-- The one aliased block that every address lies in (R107, R461). -/
def oneBlock (l : List (Nat × Nat)) : Option Home :=
  match l with
  | [] => none
  | (a, _) :: r => (homeAt a).filter (fun h => (holdSlot h).isSome && r.all (fun e => homeAt e.1 == some h))

/-- The block's HOLD is set while it is reached. -/
def State.setHold (s : State) (h : Home) (b : Bool) : State :=
  if s.homeGone h then s
  else match holdSlot h with
    | some (f, j) => s.put f j b
    | none => s

/-- The writes of a group under the HOLD of its block (R107, R461). -/
def State.regWriteHeld (s : State) (m : Nat) (h : Home) (l : List (Nat × Nat)) : State × Nat :=
  let x := (s.setHold h true).regWrite m l
  ((x.1.setHold h false).holdReleased [] h, x.2)

/-- The rule that calls a write of the REG_WRITE that channel `ch` runs unpredictable (R465). -/
def State.openRegWrite (s : State) (ch : Nat) : Nat :=
  match (s.mbx.at ch).running with
  | none => 0
  | some f =>
    let l := regPairs f.payload
    let m := regAgent ch
    if f.code ≠ 0x0902 ∨ l.isEmpty ∨ 127 < l.length ∨ s.bit F.MPU_FREEZE_FROZEN 0 m = true then 0
    else if f.opt.testBit 0 then
      match oneBlock l with
      | none => 0
      | some h => (s.setHold h true).openWrites m l
    else s.openWrites m l

/-- REG_WRITE (R107, R461, R465). -/
def execRegWrite (ch : Nat) (s : State) : Host.Outcome State Fault Refusal :=
  orUnpredictable (s.openRegWrite ch) (s.command ch 0x0902 anyForm (fun s f =>
    let l := regPairs f.payload
    let m := regAgent ch
    let answer (x : State × Nat) : State × Option Reply := if x.2 = 0 then x.1.give (le 2 l.length) else x.1.refuse x.2
    if l.isEmpty || decide (127 < l.length) then s.refuse Status.badArg
    else if f.opt.testBit 0 then
      match oneBlock l with
      | none => s.refuse Status.badArg
      | some h => if s.bit F.MPU_FREEZE_FROZEN 0 m then s.refuse Status.state else answer (s.regWriteHeld m h l)
    else if s.bit F.MPU_FREEZE_FROZEN 0 m then s.refuse Status.state
    else answer (s.regWrite m l)))

/-! ### CHORD (R463) -/

/-- CHORD_STATUS (R463). -/
def execChordStatus (ch : Nat) (s : State) : Host.Outcome State Fault Refusal :=
  .next (s.command ch 0x0A01 anyForm (fun s _ =>
    s.giveRegs ([(F.CHORD_STAT_SYNC, 0), (F.CHORD_RANGE_LO, 0), (F.CHORD_CFG_APEX, 0)]
      ++ (List.range 6).flatMap (fun l => [(F.CHORD_LSTAT_STATE, l), (F.CHORD_LCTL_EN, l), (F.CHORD_LRTT_VALUE, l),
        (F.CHORD_LOFFS_VALUE, l)]))))

/-- The down-link ranges of CHORD_CFG. -/
def planRanges (b : List Nat) : List (Nat × Nat) :=
  (List.range 4).map (fun d => (half b (4 + 4 * d), half b (6 + 4 * d)))

/-- CHORD_CFG (R319, R463). -/
def execChordCfg (ch : Nat) (s : State) : Host.Outcome State Fault Refusal :=
  .next (s.command ch 0x0A02 anyForm (fun s f =>
    let w := word32 f.payload 0
    let plan := w.testBit 3
    if plan && s.planBad (planRanges f.payload) then s.refuse Status.badArg
    else
      let s := s.fwWrite (s.wordWrites F.CHORD_CFG_AUTOFAIL 0 w fullWord)
      let s := if plan then
          s.fwWrite ((List.range 4).flatMap (fun d =>
            s.wordWrites F.CHORD_DNRANGE_DNLO d (word32 f.payload (4 + 4 * d)) fullWord))
        else s
      (s.fwWrite (s.wordWrites F.CHORD_PPS_EN 0 (word32 f.payload 20) fullWord
        ++ s.wordWrites F.CHORD_CMDTMO_CMDTMO 0 (word32 f.payload 24) fullWord)).done))

/-- CHORD_LINK (R321, R323, R463): ASYM is a signed number of 16 bits. -/
def execChordLink (ch : Nat) (s : State) : Host.Outcome State Fault Refusal :=
  .next (s.command ch 0x0A03 anyForm (fun s f =>
    let l := byteAt f.payload 0
    let asym := toInt 32 (word32 f.payload 4)
    if 5 < l ∨ asym < -32768 ∨ 32767 < asym then s.refuse Status.badArg
    else (s.fwWrite [⟨F.CHORD_LCTL_ASYM, l, ofInt 16 asym⟩, ⟨F.CHORD_LCTL_EN, l, byteAt f.payload 1 % 2⟩]).done))

/-- CHORD_GATHER_READ (R334, R463). -/
def execChordGatherRead (ch : Nat) (s : State) : Host.Outcome State Fault Refusal :=
  .next (s.command ch 0x0A04 anyForm (fun s f =>
    let i := half f.payload 0
    let n := half f.payload 2
    if n = 0 ∨ 31 < n ∨ 2048 < i + n then s.refuse Status.badArg
    else if !s.apex then s.refuse Status.state
    else s.give (le 4 s.chord.gathered ++ s.readBytes (0x200C7000 + 32 * i) (32 * n))))

end Sys2Proof.Machine
end

