-- ==== Sys2Proof/Machine/MbxSys.lean ====
section
/-! DEFINITION. The SYS commands of the mailbox (R446 to R449). -/

namespace Sys2Proof.Machine

/-- The selection of a core in a command: 0xFF vendor, 0 to 3 an owner slot. -/
def selectionByte (n : Nat) : Nat := if n = 0 then 0xFF else n - 1

/-- The record of SYS_INFO (R447). -/
def State.sysInfo (s : State) : List Nat :=
  let flags := s.fld F.PMU_RAILSTAT_DB_ACTIVE 0 + 2 * s.fld F.CHORD_CFG_APEX 0 + 4 * s.fld F.RTC_STATUS_RTC_VALID 0
    + 8 * s.fld F.CAL_STAT_DEFAULTS 0
  le 2 0x3240 ++ [0xB1, s.fld F.SYS_BOOT_BOOT_STATUS 0] ++ le 4 (s.fld F.SYS_FWREL_RELEASE 0) ++ [s.dies, flags]
    ++ le 2 (s.fld F.SYS_STRAP_STRAPS 0) ++ le 2 (s.fld F.SYS_STRAP_UNSTABLE 0) ++ s.readBytes 0x08000008 2
    ++ s.readBytes 0x08000000 8 ++ le 2 (s.fld F.CHORD_STAT_ADDR 0) ++ [s.sync, s.fld F.PMU_RESET_CAUSE_CAUSE 0]
    ++ [1, 2, 3, 4].map (fun c => selectionByte (s.cores.at c).selected)
    ++ [1, 2, 3, 4].map (fun c => (s.cores.at c).checked) ++ le 4 s.hw.cfgGen ++ le 4 (s.fld F.CAL_GEN_VALUE 0)
    ++ List.replicate 20 0

/-- SYS_INFO (R447). -/
def execSysInfo (ch : Nat) (s : State) : Host.Outcome State Fault Refusal :=
  .next (s.command ch 0x0101 anyForm (fun s _ => s.give s.sysInfo))

/-- SYS_RESET (R446): the reset follows 1 ms after the response. -/
def execSysReset (ch : Nat) (s : State) : Host.Outcome State Fault Refusal :=
  .next (s.command ch 0x0102 anyForm (fun s f =>
    if f.opt.testBit 0 then State.done { s with power := { s.power with resetPending := some (chReg ch) } }
    else s.refuse Status.badArg))

/-- Dormant entry begins (R81, steps 1 to 3): the alarm is written and armed, the Chord parent is told, armed entries are
discarded, and every domain but AON and BOOT switches off. -/
def State.dormantBegins (s : State) (wake : Nat) : State :=
  let s := (s.setFld F.RTC_ALARM_LO_ALARM_LO 0 wake).setFld F.RTC_ALARM_HI_ALARM_HI 0 (wake / 2 ^ 32)
  let s := s.put F.RTC_ALARM_HI_ARM 0 true
  let s := { s with power := { s.power with dormancy := .entering, alarmHeld := false } }
  let s := if s.upActive then s.chordHush.chordSend (.leave s.activeUp) else s
  let s := s.tatDiscard
  (s.each [2, 3, 4, 5, 6, 7, 8, 9, 10] (fun s d => s.setDomRequest d false)).domsFollow

/-- SYS_DORMANT (R80, R81). -/
def execSysDormant (ch : Nat) (s : State) : Host.Outcome State Fault Refusal :=
  .next (s.command ch 0x0103 anyForm (fun s f =>
    let wake := ofLe (f.payload.take 6)
    if wake ≤ s.power.rtcCount then s.refuse Status.badArg
    else if s.power.dormancy != .awake then s.refuse Status.busy
    else if !s.on F.RTC_STATUS_RTC_VALID 0 && !(byteAt f.payload 6).testBit 0 then s.refuse Status.state
    else (s.dormantBegins wake).done))

/-- SYS_DOMAIN (R66, R78, R446). -/
def execSysDomain (ch : Nat) (s : State) : Host.Outcome State Fault Refusal :=
  .next (s.command ch 0x0104 anyForm (fun s f =>
    let on := half f.payload 0
    let off := half f.payload 2
    if Nat.lor on off % 4 ≠ 0 ∨ 2048 ≤ Nat.lor on off ∨ Nat.land on off ≠ 0 then s.refuse Status.badArg
    else if s.on F.PMU_RAILSTAT_DB_ACTIVE 0 && decide (Nat.lor on off / 8 ≠ 0) then s.refuse Status.state
    else
      let now := s.fld F.PMU_DOMSTAT_ON 0
      let s := s.each [2, 3, 4, 5, 6, 7, 8, 9, 10] (fun s d =>
        if on.testBit d then s.setDomRequest d true else if off.testBit d then s.setDomRequest d false else s)
      (s.domsFollow, some (Reply.give (le 2 now)))))

/-- The writes of SYS_PART (R446): bit `b` of the WRITE mask takes a field's new value. -/
def partWrites (k : Nat) (p : List Nat) : List Staged :=
  let m := byteAt p 1
  let v := byteAt p 2
  let l : List (Nat × Field × Nat) := [(0, F.PART_PCTL_PULLUP, v % 2), (1, F.PART_PCTL_VBUS_HOLD, v / 2 % 2),
    (2, F.PART_PCTL_ACCEPT, byteAt p 3), (3, F.MF_CTL_CONNECT, v / 8 % 2), (4, F.MF_CTL_SOFMODE, byteAt p 4),
    (5, F.MF_CTL_NOTEN, byteAt p 5)]
  l.filterMap (fun e => if m.testBit e.1 then some ⟨e.2.1, k, e.2.2⟩ else none)

/-- A field of SYS_PART that is written lies outside its range. -/
def partBad (p : List Nat) : Bool :=
  let m := byteAt p 1
  (m.testBit 2 && decide (16 ≤ byteAt p 3)) || (m.testBit 4 && decide (4 ≤ byteAt p 4))
    || (m.testBit 5 && decide (128 ≤ byteAt p 5))

/-- SYS_PART (R446): a restricted channel reads its own partition. -/
def execSysPart (ch : Nat) (s : State) : Host.Outcome State Fault Refusal :=
  .next (s.command ch 0x0105 anyForm (fun s f =>
    let k := byteAt f.payload 0
    if (restrictedPart ch).any (fun j => (decide (j ≠ k) && s.hasUpstream k) || decide (byteAt f.payload 1 ≠ 0)) then
      s.refuse Status.denied
    else if !s.hasUpstream k || partBad f.payload then s.refuse Status.badArg
    else if !s.needs Dom.fabric then s.refuse Status.state
    else
      let s := s.fwWrite (partWrites k f.payload)
      s.give (s.reg4 F.PART_PCTL_PULLUP k ++ s.reg4 F.PART_PSTAT_HOST k ++ s.reg4 F.MF_CTL_CONNECT k
        ++ s.reg4 F.MF_STAT_PSTATE k)))

/-- SYS_NOTICES (R434, R446). -/
def execSysNotices (ch : Nat) (s : State) : Host.Outcome State Fault Refusal :=
  .next (s.command ch 0x0106 anyForm (fun s f =>
    let en := byteAt f.payload 0
    let most := byteAt f.payload 1
    if (128 ≤ en ∧ en ≠ 0xFF) ∨ 32 < most then s.refuse Status.badArg
    else
      let s := if en = 0xFF then s else s.setFld F.MBX_CTL_BCNOTEN 0 en
      let l := s.bcq.items.take most
      let s := (State.bcRefresh { s with bcq := s.bcq.pop l.length s.ct s.sync }).add F.MBX_BCCNT_NOTICES 0 l.length
      s.give (l.flatMap noticeBytes)))

/-- SYS_THAW (R116, R407, R446). -/
def execSysThaw (ch : Nat) (s : State) : Host.Outcome State Fault Refusal :=
  .next (s.command ch 0x0107 anyForm (fun s f =>
    let m := byteAt f.payload 0
    if m = 0 ∨ 10 < m then s.refuse Status.badArg
    else if s.bit F.MPU_FREEZE_FROZEN 0 m && !s.freezeHeld m then (s.thaw m).done
    else s.refuse Status.state))

/-! ### Flash write sessions (R448) -/

/-- Offset in the flash and size of a region of SYS_FW (R377, R448). -/
def fwRegion (r : Nat) : Nat × Nat :=
  if r = 0 then (0, 0x800000) else if r = 1 then (0x800000, 0x800000) else (0x1000000 + (r - 2) * 0x80000, 0x80000)

/-- The open session, changed. -/
def State.setSession (s : State) (x : Option FwSession) : State := s.updHw (fun h => { h with session := x })

/-- The channel's own session. -/
def State.ownSession (s : State) (ch : Nat) : Option FwSession := s.hw.session.filter (fun x => x.chan == ch)

/-- The operation of SYS_FW that OPT names. -/
def fwForm (k : Nat) (f : Frame) : Bool := f.opt % 4 == k

/-- SYS_FW_BEGIN (R448): `good` says that the flash erased the region. -/
def execSysFwBegin (ch : Nat) (good : Bool) (s : State) : Host.Outcome State Fault Refusal :=
  .next (s.command ch 0x0108 (fwForm 0) (fun s f =>
    let r := byteAt f.payload 0
    let x := fwRegion r
    if 5 < r ∨ x.2 < word32 f.payload 4 then s.refuse Status.badArg
    else if s.hw.session.any (fun y => y.chan != ch) then s.refuse Status.busy
    else if good then
      ((s.eraseBytes (flashAddr x.1) x.2).setSession (some ⟨ch, r, word32 f.payload 4, 0⟩)).done
    else (s.setSession none).refuse Status.hwFault))

/-- Flash takes bytes at an address, or fails and leaves them open. -/
def State.flashTake (s : State) (a : Nat) (data : List Nat) (good : Bool) : Bool × State :=
  if good then s.programBytes a data else (false, (s.freeBytes data.length).2.writeBytes a (s.freeBytes data.length).1)

/-- SYS_FW_DATA (R448): `good` says that the flash took the bytes; a program that fails leaves them open. -/
def execSysFwData (ch : Nat) (good : Bool) (s : State) : Host.Outcome State Fault Refusal :=
  .next (s.command ch 0x0108 (fwForm 1) (fun s f =>
    match s.ownSession ch with
    | none => s.refuse Status.state
    | some x =>
      let data := f.payload.drop 4
      if word32 f.payload 0 ≠ x.written ∨ x.size < x.written + data.length then s.refuse Status.badArg
      else
        let a := flashAddr ((fwRegion x.region).1 + x.written)
        let (ok, s) := s.flashTake a data good
        if ok then (s.setSession (some { x with written := x.written + data.length })).done
        else (s.setSession none).refuse Status.hwFault))

/-- SYS_FW_END (R379, R448): `ok` says that the system image in region 0 or 1 passes its checks. -/
def execSysFwEnd (ch : Nat) (ok : Bool) (s : State) : Host.Outcome State Fault Refusal :=
  .next (s.command ch 0x0108 (fwForm 2) (fun s _ =>
    match s.ownSession ch with
    | none => s.refuse Status.state
    | some x =>
      let code := if x.region ≤ 1 then (if ok then 0 else 8) else s.checkImage (x.region - 1) 0
      let s := if x.region ≤ 1 ∧ s.power.boot = .waitImage then { s with power := { s.power with imageIn := ok, imageAt := x.region } } else s
      (s.setSession none).give [code]))

/-- SYS_FW_STATUS (R448). -/
def execSysFwStatus (ch : Nat) (s : State) : Host.Outcome State Fault Refusal :=
  .next (s.command ch 0x0108 (fwForm 3) (fun s _ =>
    match s.hw.session with
    | some x => s.give (le 4 x.written ++ [x.region, 1])
    | none => s.give [0, 0, 0, 0, 0, 0]))

/-! ### Saving the configuration (R446) -/

/-- The configuration in force: firmware's copy with what stands in the domains that are on. -/
def State.configNow (s : State) : RegFile :=
  (s.each ([1, 2, 3, 4, 5, 6, 7, 8, 9, 10].filter s.domOn) State.saveConfig).fwCopy

/-- The areas of a mask are saved in NVM (R446). -/
def State.saveAreas (s : State) (areas : Nat) : State :=
  let inAreas (e : (Nat × Nat) × Nat) := (areaOf e.1.1).any (fun a => areas.testBit a)
  let cfg := (s.configNow.filter inAreas).foldl (fun l e => Sys2Proof.Machine.place slotLt e.1 e.2 l)
    (s.nvmCfg.filter (fun e => !inAreas e))
  let saved := s.hw.saved
  let s := { s with nvmCfg := cfg }
  s.updHw (fun h => { h with
    cfgGen := h.cfgGen + 1
    saved := ⟨Nat.lor saved.areas areas, if areas.testBit 4 then s.profiles else saved.profiles,
      if areas.testBit 5 then [1, 2, 3, 4].map (fun c => (c, (s.cores.at c).selected)) else saved.policy,
      if areas.testBit 7 then s.fc.sources else saved.faults⟩ })

/-- SYS_CFG_SAVE (R446): BUSY where another save ran when it started; `good` says that the read-back is good. -/
def execSysCfgSave (ch : Nat) (good : Bool) (s : State) : Host.Outcome State Fault Refusal :=
  .next (s.command ch 0x0109 anyForm (fun s f =>
    let areas := word32 f.payload 0
    if 1024 ≤ areas then s.refuse Status.badArg
    else if s.on F.CAL_STAT_COMMIT 0 || decide ((s.mbx.at ch).stage = 1) then s.refuse Status.busy
    else if !good then s.refuse Status.hwFault
    else
      let s := s.saveAreas areas
      s.give (le 4 s.hw.cfgGen)))

end Sys2Proof.Machine
end

