-- ==== Sys2Proof/Machine/MbxPd.lean ====
section
/-! DEFINITION. The PD and PWR commands of the mailbox (R452 to R454). -/

namespace Sys2Proof.Machine

/-! ### PD status -/

/-- The words of a port's PD_STATUS record (R452). -/
def pdWords (p : Nat) : List (Field × Nat) :=
  [F.TCPD_PDSTAT_REV, F.TCPD_CONTRACT_OBJPOS, F.TCPD_GRANT_GRANT, F.TCPD_CABLE_VALID, F.TCPD_CABLEVDO_VDO,
    F.TCPD_PDCNT0_WAITS, F.TCPD_PDCNT1_HRESETS, F.TCPD_PDCNT2_PRSWAPS].map (fun f => (f, p))

/-- The PD_STATUS record of a port (R452). -/
def State.pdRecord (s : State) (p : Nat) : List Nat := s.regs4 (pdWords p)

/-- PD_STATUS (R452). -/
def execPdStatus (ch : Nat) (s : State) : Host.Outcome State Fault Refusal :=
  .next (s.command ch 0x0301 (opt0 false) (fun s f => s.maskRead ch f pdWords))

/-- The running command of a channel waits on the partner. -/
def State.waits (s : State) (ch : Nat) : State := s.updCh ch (fun c => { c with stage := 1 })

/-- PD_STATUS with QUERY starts: Get_Sink_Cap goes to the partner, once no AMS is under way (R265, R452). -/
def State.querySend (s : State) (ch : Nat) (f : Frame) : State × Option Reply :=
  let m := word32 f.payload 0
  let bad := s.maskFault ch m
  match maskPorts m with
  | [p] =>
    if bad ≠ 0 then s.refuse bad
    else if !s.portReady p || !s.pdLive p || !s.contracted p || !s.on F.TCPD_PDSTAT_PROLE p then s.refuse Status.state
    else if s.amsOn p then (s, none)
    else
      let s := (((s.hush p).send p .getSinkCap).put F.TCPD_PDSTAT_AMS p true).updPd p
        (fun r => { r with query := 1, ownAms := true })
      ((pdSettle p s).waits ch, none)
  | _ => s.refuse (if bad = Status.denied then bad else Status.badArg)

/-- PD_STATUS with QUERY ends with the partner's answer, or without one (R452). -/
def State.queryEnd (s : State) (p : Nat) : State × Option Reply :=
  let r := s.pd.at p
  let t := s.updPd p (fun r => { r with query := 0 })
  match r.query with
  | 1 => (s, none)
  | 2 =>
    let objs := r.partnerSink.getD []
    t.give (s.pdRecord p ++ le 4 objs.length ++ objs.flatMap (le 4))
  | 3 => t.give (s.pdRecord p ++ le 4 0)
  | _ => t.refuse Status.timeout

/-- PD_STATUS with OPT[0] = 1, QUERY (R143, R452): sends Get_Sink_Cap, and completes once the partner has answered, or
at once where the port is no longer the channel's. -/
def execPdStatusQuery (ch : Nat) (s : State) : Host.Outcome State Fault Refusal :=
  .next (s.command ch 0x0301 (opt0 true) (fun s f =>
    if (s.mbx.at ch).stage = 0 then s.querySend ch f
    else
      let p := (maskPorts (word32 f.payload 0)).headD 0
      if s.rightsLost ch p ≠ 0 then (s.updPd p (fun r => { r with query := 0 })).refuse (s.rightsLost ch p) else s.queryEnd p))

/-- PD_CFG (R452). -/
def execPdCfg (ch : Nat) (s : State) : Host.Outcome State Fault Refusal :=
  .next (s.command ch 0x0302 anyForm (fun s f =>
    s.maskCommand ch f (fun s p =>
      (0, s.fwWrite (s.wordWrites F.TCPD_PDCFG_PD_EN p (word32 f.payload 4) (word32 f.payload 8))))))

/-! ### Offer profiles (R452, R453) -/

/-- PD_PROFILE, reading (R452). -/
def execPdProfileRead (ch : Nat) (s : State) : Host.Outcome State Fault Refusal :=
  .next (s.command ch 0x0303 (opt0 false) (fun s f =>
    let n := byteAt f.payload 0
    if 7 < n then s.refuse Status.badArg
    else
      let l := s.profiles.at n
      s.give ([n, l.length, 0, 0] ++ l.flatMap (le 4))))

/-- An object that R453 refuses at a position. -/
def objectBad (pos w : Nat) : Bool :=
  if w = 0 then false
  else match w / 2 ^ 30 % 4 with
    | 0 => decide (500 < w % 1024) || (decide (pos < 8) && decide (400 < w / 1024 % 1024))
    | 3 => match w / 2 ^ 28 % 4 with
      | 0 => decide (210 < w / 2 ^ 17 % 256) || decide (100 < w % 128)
      | 1 => decide (pos < 8) || decide (240 < w % 256)
      | _ => true
    | _ => true

/-- A profile passes R453; objects from position 1 on. -/
def profileGood (l : List Nat) : Bool :=
  let first := l.headD 0
  decide (first ≠ 0 ∧ first / 2 ^ 30 % 4 = 0 ∧ first / 1024 % 1024 = 100)
    && (numbered 1 l).all (fun e => !objectBad e.1 e.2)
    && decide (l.getD 5 0 = 0 ∧ l.getD 6 0 = 0)

/-- The ports whose profile is `n`. -/
def State.profileUsers (s : State) (n : Nat) : List Nat :=
  allPorts.filter (fun p => s.live p && decide (s.fld F.TCPD_PDCFG_PROFILE p = n))

/-- PD_PROFILE with OPT[0] = 1, writing (R453): the ports that use the profile offer it anew (R267). -/
def execPdProfileWrite (ch : Nat) (s : State) : Host.Outcome State Fault Refusal :=
  .next (s.command ch 0x0303 (opt0 true) (fun s f =>
    let n := byteAt f.payload 0
    let count := byteAt f.payload 1
    let l := (List.range count).map (fun i => word32 f.payload (4 + 4 * i))
    if 7 < n ∨ count = 0 ∨ 11 < count ∨ profileGood l = false then s.refuse Status.badArg
    else
      let s := { s with profiles := s.profiles.put n l }
      (s.each (s.profileUsers n) State.offerAnew).done))

/-! ### Swaps and resets -/

/-- The rights and arguments of a command on one port (R442): the status of a failure, 0 for none. -/
def State.namedFault (s : State) (ch p : Nat) : Nat :=
  if !s.fitted p then Status.badArg else if !s.ownPort ch p then Status.denied else 0

/-- The outcome of a swap as the response gives it (R452). -/
def SwapEnd.code : SwapEnd → Nat
  | .done => 0 | .reject => 1 | .wait => 2 | .silent => 3 | .hardReset => 4 | .pending => 0

/-- A swap of port `p` is sent with `go`, and the command completes when it ends (R452), or at once where the port is no
longer the channel's (R143). -/
def State.swapCmd (s : State) (ch p : Nat) (go : State → Nat → Option State) : State × Option Reply :=
  if (s.mbx.at ch).stage = 0 then
    let bad := s.namedFault ch p
    if bad ≠ 0 then s.refuse bad
    else if s.portReady p then
      match go (s.hush p) p with
      | some t => ((pdSettle p t).waits ch, none)
      | none => s.refuse Status.state
    else s.refuse Status.state
  else if s.rightsLost ch p ≠ 0 then s.refuse (s.rightsLost ch p)
  else if (s.pd.at p).swapEnd = .pending then (s, none)
  else s.give [(s.pd.at p).swapEnd.code]

/-- PD_SWAP with selector 0 (R260, R263, R452). -/
def execPdSwapPr (ch : Nat) (s : State) : Host.Outcome State Fault Refusal :=
  .next (s.command ch 0x0304 (fun f => byteAt f.payload 1 == 0) (fun s f =>
    s.swapCmd ch (byteAt f.payload 0) State.prSwapSend))

/-- PD_SWAP with selector 1 (R264, R452); a greater one is an argument error. -/
def execPdSwapVconn (ch : Nat) (s : State) : Host.Outcome State Fault Refusal :=
  .next (s.command ch 0x0304 (fun f => byteAt f.payload 1 != 0) (fun s f =>
    let bad := s.namedFault ch (byteAt f.payload 0)
    if bad = 0 ∧ 1 < byteAt f.payload 1 then s.refuse Status.badArg
    else s.swapCmd ch (byteAt f.payload 0) State.vconnSwapSend))

/-- A reset signal of PD_RESET (R452): sent on an attached port whose protocol layer is active, STATE otherwise. -/
def State.resetCmd (s : State) (ch p : Nat) (go : State → State) : State × Option Reply :=
  let bad := s.namedFault ch p
  if bad ≠ 0 then s.refuse bad
  else if s.portReady p && s.pdLive p && s.ccIn p [.attachedSrc, .attachedSnk] then (go (s.hush p)).done
  else s.refuse Status.state

/-- PD_RESET with selector 0 (R247, R452). -/
def execPdResetSoft (ch : Nat) (s : State) : Host.Outcome State Fault Refusal :=
  .next (s.command ch 0x0305 (fun f => byteAt f.payload 1 == 0) (fun s f =>
    s.resetCmd ch (byteAt f.payload 0) (fun s => s.softReset (byteAt f.payload 0))))

/-- PD_RESET with selector 1 (R266, R452). -/
def execPdResetHard (ch : Nat) (s : State) : Host.Outcome State Fault Refusal :=
  .next (s.command ch 0x0305 (fun f => byteAt f.payload 1 == 1) (fun s f =>
    s.resetCmd ch (byteAt f.payload 0) (fun s => s.hardReset (byteAt f.payload 0) true)))

/-- PD_RESET with selector 2 (R233, R452): Cable Reset as VCONN source; a greater selector is an argument error. -/
def execPdResetCable (ch : Nat) (s : State) : Host.Outcome State Fault Refusal :=
  .next (s.command ch 0x0305 (fun f => decide (2 ≤ byteAt f.payload 1)) (fun s f =>
    let p := byteAt f.payload 0
    let bad := s.namedFault ch p
    if bad ≠ 0 then s.refuse bad
    else if 2 < byteAt f.payload 1 then s.refuse Status.badArg
    else if s.on F.TCPD_PDSTAT_VCSRC p then s.resetCmd ch p (fun s => pdSettle p (((s.identityClear p).send p .cableReset).ceilingFell p))
    else s.refuse Status.state))

/-! ### Sink settings and policy images -/

/-- PD_SINKCFG (R452). -/
def execPdSinkcfg (ch : Nat) (s : State) : Host.Outcome State Fault Refusal :=
  .next (s.command ch 0x0306 anyForm (fun s f =>
    s.maskCommand ch f (fun s p =>
      (0, s.fwGroup (s.wordWrites F.TCPD_SINKCFG_MODE p (word32 f.payload 4) fullWord)))))

/-- PD_SLOT (R245, R446, R452): the selection holds from the core's next restart, which RESTART makes at once; `good` says
that the save in NVM reads back, and a save that does not leaves the selection as it was. -/
def execPdSlot (ch : Nat) (good : Bool) (s : State) : Host.Outcome State Fault Refusal :=
  .next (s.command ch 0x0307 anyForm (fun s f =>
    let c := byteAt f.payload 0
    let slot := byteAt f.payload 1
    let flags := byteAt f.payload 2
    if c = 0 ∨ 4 < c ∨ (3 < slot ∧ slot ≠ 0xFF) then s.refuse Status.badArg
    else if flags.testBit 0 && !s.needs Dom.service then s.refuse Status.state
    else if flags.testBit 1 && (s.on F.CAL_STAT_COMMIT 0 || s.saveRuns) then s.refuse Status.busy
    else if flags.testBit 1 && !good then s.refuse Status.hwFault
    else
      let s := s.updCore c (fun r => { r with selected := if slot = 0xFF then 0 else slot + 1 })
      let s := if flags.testBit 1 then s.saveAreas 32 else s
      let s := if flags.testBit 0 then s.serviceReset c 3 else s
      s.give [(s.cores.at c).checked]))

/-! ### Power (R454) -/

/-- PWR_STATUS (R440, R454): the feed entry lies behind the link of Currant 0. -/
def execPwrStatus (ch : Nat) (s : State) : Host.Outcome State Fault Refusal :=
  .next (s.command ch 0x0401 anyForm (fun s _ =>
    if !s.linkUp 0 then s.refuse Status.hwFault else
    s.give (s.reg4 F.GOV_STAT_FEED48 0 ++ s.reg4 F.GOV_PBRD_PBRD 0 ++ s.reg4 F.GOV_SHED_PORTS 0
      ++ s.reg4 F.GOV_BRDOFF_PORTS 0 ++ s.reg4 F.GOV_RESV_RESV 0 ++ s.reg4 F.GOV_SAGMIN_VMIN 0
      ++ s.reg4 F.GOV_BUDGET_BUDGET 0 ++ s.reg4 F.ENT_HSTAT_STATE 0 ++ s.reg4 F.ENT_FSTAT_A_PRES 0
      ++ s.reg4 F.ENT_FV_FEED_A 0 ++ s.reg4 F.ENT_BV_VIN_OR 0 ++ s.reg4 F.ENT_HSM_IHS 0)))

/-- PWR_GOVCFG (R454). -/
def execPwrGovcfg (ch : Nat) (s : State) : Host.Outcome State Fault Refusal :=
  .next (s.command ch 0x0402 anyForm (fun s f =>
    (s.fwGroup (s.wordWrites F.GOV_BUDGET_BUDGET 0 (word32 f.payload 0) fullWord
      ++ s.wordWrites F.GOV_SAG_VSAG 0 (word32 f.payload 4) fullWord
      ++ s.wordWrites F.GOV_FOLD_FOLD0 0 (word32 f.payload 8) fullWord)).done))

/-- PWR_PRIO (R454). -/
def execPwrPrio (ch : Nat) (s : State) : Host.Outcome State Fault Refusal :=
  .next (s.command ch 0x0403 anyForm (fun s f =>
    (s.fwWrite (s.wordWrites F.GOV_PRIO0_CLASS0 0 (word32 f.payload 0) fullWord
      ++ s.wordWrites F.GOV_PRIO1_CLASS0 0 (word32 f.payload 4) fullWord)).done))

/-- PWR_PORTCFG (R454): of PWR_THCFG only TTRIP and TSRC are written. -/
def execPwrPortcfg (ch : Nat) (s : State) : Host.Outcome State Fault Refusal :=
  .next (s.command ch 0x0404 anyForm (fun s f =>
    s.maskCommand ch f (fun s p =>
      (0, s.fwGroup (s.wordWrites F.PWR_LIM_ILIM p (word32 f.payload 4) fullWord
        ++ s.wordWrites F.PWR_TIM_TFLT p (word32 f.payload 8) fullWord
        ++ s.wordWrites F.PWR_RETRY_RETRY p (word32 f.payload 12) fullWord
        ++ [⟨F.PWR_THCFG_TTRIP, p, word32 f.payload 16 / 65536 % 256⟩, ⟨F.PWR_THCFG_TSRC, p, word32 f.payload 16 % 2⟩])))))

/-- The writes of PWR_FEEDCTL (R454). -/
def feedWrites (values mask : Nat) : List Staged :=
  let l : List (Nat × Field) := [(0, F.ENT_HCTL_FOFF_A), (1, F.ENT_HCTL_FOFF_B), (2, F.ENT_HCTL_HSOFF)]
  (l.filter (fun e => mask.testBit e.1)).map (fun e => ⟨e.2, 0, bit01 (values.testBit e.1)⟩)

/-- PWR_FEEDCTL (R302, R304, R454). -/
def execPwrFeedctl (ch : Nat) (s : State) : Host.Outcome State Fault Refusal :=
  .next (s.command ch 0x0405 anyForm (fun s f =>
    let values := byteAt f.payload 0
    if !s.entOn then s.refuse Status.state
    else if !s.linkUp 0 then s.refuse Status.hwFault
    else
      let s := s.fwWrite (feedWrites values (byteAt f.payload 1))
      if values.testBit 3 then
        match s.hsClear with
        | some t => t.give (t.reg4 F.ENT_HSTAT_STATE 0)
        | none => s.hsClrLatch.refuse Status.state
      else s.give (s.reg4 F.ENT_HSTAT_STATE 0)))

/-- An energy in mJ as eight bytes, counted in 40 pJ (R297, R316). -/
def energyBytes (n : Nat) : List Nat := le 8 (n / 25000000)

/-- PWR_ENERGY (R297, R316, R454). -/
def execPwrEnergy (ch : Nat) (s : State) : Host.Outcome State Fault Refusal :=
  .next (s.command ch 0x0406 anyForm (fun s f =>
    let bad := s.maskFault ch (word32 f.payload 0)
    if bad ≠ 0 then s.refuse bad
    else s.give (energyBytes s.govHw.energy ++ energyBytes s.govHw.delivered
      ++ (maskPorts (word32 f.payload 0)).flatMap (fun p =>
        energyBytes (s.pwr.at p).delivered ++ energyBytes (s.pwr.at p).taken))))

end Sys2Proof.Machine
end

