-- ==== Sys2Proof/Machine/MbxTime.lean ====
section
/-! DEFINITION. The TIME and TRACE commands of the mailbox (R211, R336, R345, R355, R357, R367, R455 to R458). -/

namespace Sys2Proof.Machine

/-! ### TIME -/

/-- TIME_GET (R455). -/
def execTimeGet (ch : Nat) (s : State) : Host.Outcome State Fault Refusal :=
  .next (s.command ch 0x0501 anyForm (fun s _ =>
    let flags := s.fld F.CHORD_STAT_HOLDOVER 0 + 2 * s.fld F.RTC_STATUS_RTC_VALID 0 + 4 * bit01 s.apex
    s.give (le 8 s.ct ++ [s.sync, flags] ++ le 2 (s.fld F.CHORD_STAT_ADDR 0) ++ le 8 s.power.rtcCount
      ++ le 8 (s.fld64 F.RTC_EPOCH_LO_EPOCH F.RTC_EPOCH_HI_EPOCH 0))))

/-- TIME_SET (R456): accepted, and carried out at the next Chord marker. -/
def execTimeSet (ch : Nat) (s : State) : Host.Outcome State Fault Refusal :=
  .next (s.command ch 0x0502 anyForm (fun s f =>
    if s.upActive then s.refuse Status.state
    else (s.updChord (fun c => { c with timeSet := some (f.opt.testBit 0, ofLe (f.payload.take 8)) })).done))

/-- The words of TIME_ADD. -/
def addWords (b : List Nat) : List Nat := (List.range 7).map (fun i => word32 b (4 * i))

/-- A channel may add an entry (R457): restricted and local channels on their own fitted ports, by code. -/
def State.mayAdd (s : State) (ch : Nat) (w : List Nat) : Bool :=
  let c := tatCode w
  ownerChannel ch || decide (c = 0xC)
    || (decide (7 ≤ ch) && decide (c = 0xD ∧ w.getD 5 0 % 8 = localCore ch))
    || (decide (1 ≤ c ∧ c ≤ 9) && (s.tatPorts w).all (s.ownPort ch))

/-- The mailbox status of a result of R336. -/
def addStatus (r : Nat) : Nat :=
  match r with
  | 0 => 0 | 1 => Status.badCode | 2 => Status.badArg | 3 => Status.state | 4 | 5 => Status.busy | _ => Status.wait

/-- TIME_ADD (R7, R336, R455, R457): a migration to a partition without an upstream port is an argument error. -/
def execTimeAdd (ch : Nat) (s : State) : Host.Outcome State Fault Refusal :=
  .next (s.command ch 0x0503 anyForm (fun s f =>
    let w := addWords f.payload
    if s.mayAdd ch w && decide (tatCode w = 0xE) && !s.hasUpstream (w.getD 5 0 % 4) then s.refuse Status.badArg
    else if s.mayAdd ch w then
      let t := s.tatAdd w (some ch)
      let r := t.fld F.TAT_RESULT_RESULT 0
      let i := t.fld F.TAT_RESULT_INDEX 0
      if r = 0 then t.give (le 2 i ++ [0, 0] ++ le 4 (t.word7 i))
      else (t, some ⟨addStatus r, 100, []⟩)
    else s.refuse Status.denied))

/-- TIME_CANCEL (R345, R455). -/
def execTimeCancel (ch : Nat) (s : State) : Host.Outcome State Fault Refusal :=
  .next (s.command ch 0x0504 anyForm (fun s f =>
    let i := half f.payload 0
    if 511 < i then s.refuse Status.badArg
    else if !ownerChannel ch && decide ((s.tat.at i).channel ≠ some ch) then s.refuse Status.denied
    else
      let t := s.tatCancel i
      if t.fld F.TAT_RESULT_RESULT 0 = 0 then t.give [0] else t.refuse Status.state))

/-- TIME_LIST (R455). -/
def execTimeList (ch : Nat) (s : State) : Host.Outcome State Fault Refusal :=
  .next (s.command ch 0x0505 anyForm (fun s f =>
    let i := half f.payload 0
    let n := half f.payload 2
    if n = 0 ∨ 32 < n ∨ 512 < i + n then s.refuse Status.badArg
    else s.give ((List.range n).flatMap (fun j =>
      let e := s.tat.at (i + j)
      ((List.range 7).flatMap (fun k => le 4 (e.word k))) ++ le 4 (s.word7 (i + j))))))

/-- The address of entry `i` of partition `k`'s ring (R211). -/
def sofAddr (k i : Nat) : Nat := 0x200D7000 + k * 0x400 + i % 64 * 16

/-- The entries of a partition's ring with VALID = 1, newest first (R211). -/
def State.sofEntries (s : State) (k : Nat) : List Nat :=
  let next := s.fld F.MF_SOFIDX_NEXT k
  ((List.range 64).map (fun j => sofAddr k (next + 63 - j))).filter (fun a => decide (s.byte (a + 12) % 2 = 1))

/-- TIME_SOF (R455). -/
def execTimeSof (ch : Nat) (s : State) : Host.Outcome State Fault Refusal :=
  .next (s.command ch 0x0506 anyForm (fun s f =>
    let k := byteAt f.payload 0
    let n := byteAt f.payload 1
    if !s.hasUpstream k || decide (n = 0) || decide (64 < n) then s.refuse Status.badArg
    else s.give (((s.sofEntries k).take n).flatMap (fun a => s.readBytes a 16))))

/-! ### TRACE -/

/-- A TRACE command: STATE while TRACE is off (R458). -/
def State.traceCmd (s : State) (run : State → State × Option Reply) : State × Option Reply :=
  if s.needs Dom.trace then run s else s.refuse Status.state

/-- TRACE_STATUS (R458). -/
def execTraceStatus (ch : Nat) (s : State) : Host.Outcome State Fault Refusal :=
  .next (s.command ch 0x0601 anyForm (fun s _ => s.traceCmd (fun s =>
    s.give (s.reg4 F.TRC_STAT_STATE 0 ++ s.reg4 F.TRC_CFG_MEM 0 ++ s.reg4 F.TRC_EXP_DEST 0 ++ [0, 0, 0, 0]
      ++ le 8 s.trc.wr ++ le 8 s.trc.rd ++ le 8 s.trc.oldest ++ le 8 s.trc.trigPos ++ s.reg4 F.TRC_CNT0_DROPS 0
      ++ s.reg4 F.TRC_CNT1_STARTS 0 ++ s.reg4 F.TRC_CNT2_SKIPPED 0 ++ [0, 0, 0, 0]))))

/-- The writes of TRACE_CFG (R458). -/
def State.traceWrites (s : State) (b : List Nat) : List Staged :=
  let whole (f : Field) (i o : Nat) := s.wordWrites f i (word32 b o) fullWord
  whole F.TRC_CFG_MEM 0 0 ++ whole F.TRC_PORTS_PORTS 0 4 ++ whole F.TRC_TAPS_REP 0 8
    ++ (List.range 8).flatMap (fun i => whole F.TRC_AMATCH_ADDR i (12 + 4 * i)) ++ whole F.TRC_TRIG_FAULTEN 0 44
    ++ whole F.TRC_TRIGF_FID 0 48 ++ whole F.TRC_TRIGV_VALUE 0 52 ++ whole F.TRC_EXP_DEST 0 56

/-- TRACE_CFG (R458). -/
def execTraceCfg (ch : Nat) (s : State) : Host.Outcome State Fault Refusal :=
  .next (s.command ch 0x0602 anyForm (fun s f => s.traceCmd (fun s =>
    if s.capturing then s.refuse Status.state else (s.fwGroup (s.traceWrites f.payload)).done)))

/-- The action byte of TRACE_CTL. -/
def ctlForm (n : Nat) (f : Frame) : Bool := byteAt f.payload 0 == n

/-- A TRACE_CTL action other than MARK: owner channels alone (R458). -/
def State.traceCtl (s : State) (ch : Nat) (run : State → State × Option Reply) : State × Option Reply :=
  if ownerChannel ch then s.traceCmd run else s.refuse Status.denied

/-- TRACE_CTL START (R357). -/
def execTraceCtlStart (ch : Nat) (s : State) : Host.Outcome State Fault Refusal :=
  .next (s.command ch 0x0603 (ctlForm 0) (fun s _ => s.traceCtl ch (fun s => (s.traceStart 0).done)))

/-- TRACE_CTL STOP (R357). -/
def execTraceCtlStop (ch : Nat) (s : State) : Host.Outcome State Fault Refusal :=
  .next (s.command ch 0x0603 (ctlForm 1) (fun s _ => s.traceCtl ch (fun s => (s.traceStop 0).done)))

/-- TRACE_CTL TRIG (R358). -/
def execTraceCtlTrig (ch : Nat) (s : State) : Host.Outcome State Fault Refusal :=
  .next (s.command ch 0x0603 (ctlForm 2) (fun s _ => s.traceCtl ch (fun s => (s.traceTrigger 0 0).done)))

/-- TRACE_CTL CLEAR (R357): STATE in RUN or POST. -/
def execTraceCtlClear (ch : Nat) (s : State) : Host.Outcome State Fault Refusal :=
  .next (s.command ch 0x0603 (ctlForm 3) (fun s _ => s.traceCtl ch (fun s =>
    if s.capturing then s.refuse Status.state else s.traceClear.done)))

/-- TRACE_CTL MARK (R355), for every channel; an action above 4 is an argument error of an owner, and DENIED to others. -/
def execTraceCtlMark (ch : Nat) (s : State) : Host.Outcome State Fault Refusal :=
  .next (s.command ch 0x0603 (fun f => decide (4 ≤ byteAt f.payload 0)) (fun s f =>
    if 4 < byteAt f.payload 0 then s.refuse (if ownerChannel ch then Status.badArg else Status.denied)
    else s.traceCmd (fun s => (s.trcMark (word32 f.payload 4)).done)))

/-! ### The mailbox stream (R367) -/

/-- What a requester that keeps `n` bytes of the records of its last answer has: those it has whole, and its bytes of the next
one (R367). -/
def passMarks : List StreamMark → Nat → List StreamMark × Nat
  | [], _ => ([], 0)
  | m :: r, n => if m.len ≤ n then (m :: (passMarks r (n - m.len)).1, (passMarks r (n - m.len)).2) else ([], n)

/-- RD advances past the records that the requester keeps whole (R365, R367).  Where OLDEST has passed RD since the answer, a
LOST record is owed for what lies between the last of them and RD; the rest of a record cut by the answer is then not sent
(DESIGN CHOICE, log entry 162). -/
def State.streamKeep (s : State) (keep : Nat) : State :=
  let t := s.trc
  let x := passMarks t.marks (t.cut + min keep t.sent)
  let n := (x.1.filter (·.lost)).length
  let s := match x.1.getLast? with
    | some m => s.updTrc (fun t => { t with
        rd := max t.rd m.next, lost := t.rd - m.next, exportCt := m.ct, exportSync := m.sync,
        cut := if m.next < t.rd then 0 else x.2 })
    | none => s.updTrc (fun t => { t with cut := if t.sentFrom < t.rd then 0 else x.2 })
  s.add F.TRC_CNT2_LOSTEXP 0 n

/-- The stream's records from count `c` on, at least `n` bytes of them where there are so many. -/
def State.streamItems (s : State) (c lastCt lastSync n : Nat) : Nat → List ExportItem
  | 0 => []
  | fuel + 1 =>
    if s.trc.wr ≤ c ∨ n = 0 then []
    else
      let e := s.exportAt c 4096 lastCt lastSync none
      e :: s.streamItems e.next e.ct e.sync (n - e.bytes.length) fuel

/-- A mailbox read of the stream (R367): `keep` bytes of the last answer are kept, and up to `most` follow. -/
def State.streamRead (s : State) (keep most : Nat) : State × List Nat :=
  let s := s.streamKeep keep
  let t := s.trc
  let owed := if s.owedLost = [] then [] else [(⟨s.owedLost, t.rd, true, false, t.exportCt, t.exportSync⟩ : ExportItem)]
  let items := owed ++ s.streamItems t.rd t.exportCt t.exportSync (t.cut + most) ((t.wr - t.rd) / 16 + 2)
  let b := ((items.flatMap (·.bytes)).drop t.cut).take most
  (s.updTrc (fun t => { t with
    sent := b.length, sentFrom := t.rd, marks := items.map (fun e => ⟨e.bytes.length, e.next, e.ct, e.sync, e.lost⟩) }), b)

/-- TRACE_READ (R362, R367, R458): the reads corrected `one` words of one bit and `two` of two. -/
def execTraceRead (ch one two : Nat) (s : State) : Host.Outcome State Fault Refusal :=
  .next (s.command ch 0x0604 anyForm (fun s f =>
    let most := half f.payload 2
    if most = 0 ∨ 1024 < most then s.refuse Status.badArg
    else s.traceCmd (fun s =>
      if s.fld F.TRC_EXP_DEST 0 ≠ 5 then s.refuse Status.state
      else
        let x := (s.traceFixed s.trc.rd one two).streamRead (half f.payload 0) most
        x.1.give x.2)))

end Sys2Proof.Machine
end

