-- ==== Sys2Proof/Machine/Marker.lean ====
section
/-! DEFINITION. What happens at each microsecond of CT: writes of code T apply, countdowns and watchdogs step, Chord markers
(R101, R321, R396). -/

namespace Sys2Proof.Machine

/-- The countdown of core `c` at a microsecond (R396). -/
def State.timerTick (s : State) (c : Nat) : State :=
  let n := s.fld F.IC_TIMER_COUNT c
  if n = 0 then s
  else
    let s := s.setFld F.IC_TIMER_COUNT c (n - 1)
    if n = 1 then s.irq (162 + c) else s

/-- CT runs: the PLL is locked and the part is not asleep (R63, R81, R85). -/
def State.ctRuns (s : State) : Bool := s.on F.PMU_CLKSTAT_PLL_LOCK 0 && !(s.power.dormancy == .railsFalling || s.power.dormancy == .asleep || s.power.dormancy == .waking)

/-- A millisecond passes on the watchdog of core `c` (R396). -/
def State.watchTick (s : State) (c : Nat) : State :=
  if (s.cores.at c).watch then s.setFld F.IC_KICK_REMAIN c (s.fld F.IC_KICK_REMAIN c - 1) else s

/-- The writes of code T apply at the Chord marker of each microsecond, whether or not CHORD is on, with the hardware changes
on that edge; a block on HOLD applies nothing (R101, R105, R108). -/
def State.markerWrites (s : State) (hw : List HwChange) : State :=
  s.applyAll hw (s.staged.filter (fun x => decide (x.field.applies = .t) && !(slotHome x.field.id x.index).any s.held'))

/-- A microsecond of CT begins: writes of code T apply (R101), the countdowns step, the watchdogs once in a millisecond
(R396), and a Chord marker is due (R321). -/
def State.microsecond (s : State) (hw : List HwChange) : State :=
  let s := (s.markerWrites hw).each [0, 1, 2, 3, 4] State.timerTick
  (if s.ct % 960000 = 0 then s.each [0, 1, 2, 3, 4] State.watchTick else s).markerDue

/-- CT runs on by `n` ticks to a multiple of 960, where a microsecond begins; it begins none while CT stands (R63, R81). -/
def State.toMicrosecond (s : State) (n : Nat) (hw : List HwChange) : State :=
  if s.ctRuns && decide (0 < n) then (s.advance n).microsecond hw else s

/-- The next Chord marker: the next CT multiple of 960 (R101). -/
def State.nextMarker (s : State) (hw : List HwChange) : State := s.toMicrosecond (960 - s.ct % 960) hw

/-- MARKER (R321, R325, R328): on an up-link, the parent's SYNC, depth, holdover and CT, and the local CT at its arrival; a
unit whose depth would pass 8 treats its up-link as failed. On a down-link CT runs on to its next multiple of 960, and the
part sends its own marker where the link is trained. -/
def execMarker (l sync depth ct localCt : Nat) (peerHold : Bool) (s : State) : Host.Outcome State Fault Refusal :=
  .next <|
    if !s.chordOn || decide (6 ≤ l) then s
    else if 2 ≤ l then
      let s := s.chordHush.toMicrosecond ((960 - s.ct % 960) % 960) []
      let sends := decide (2 ≤ s.linkState l)
      (if sends then s.chordSend (.marker l s.sync (s.fld F.CHORD_STAT_DEPTH 0) s.ct) else s).markerDue
    else if s.linkState l = 4 ∨ s.linkState l = 5 ∨ s.linkState l = 3 then
      let s := (s.setFld F.CHORD_LSTAT_PEERSYNC l sync).setFld F.CHORD_LSTAT_PEERDEPTH l depth
      let delay : Int := (s.fld F.CHORD_LRTT_VALUE l + toInt 16 (s.fld F.CHORD_LCTL_ASYM l)) / 32
      let fresh := s.linkState l ≠ 3 ∧ (s.links.at l).firstOffset = none
      let s := s.updLink l (fun r => { r with
        peerHold := peerHold
        firstOffset := if fresh then some ((ct : Int) + delay - (localCt : Int)) else r.firstOffset })
      if 8 ≤ depth ∧ s.linkState l = 3 ∧ s.activeUp = l then s.chordHush.linkFail l
      else if s.upActive ∧ s.activeUp = l then
        if 8 ≤ depth then s.chordHush.linkFail l
        else
          let s := s.setFld F.CHORD_STAT_DEPTH 0 (depth + 1)
          if s.chord.locked ∧ sync ≠ 0 then
            let s := if s.on F.CHORD_STAT_HOLDOVER 0 then
                (s.put F.CHORD_STAT_HOLDOVER 0 false).updChord (fun c => { c with holdSince := none }) else s
            s.setSync (if sync = 1 then 1 else 2)
          else s
      else s
    else s

end Sys2Proof.Machine
end

