-- ==== Sys2Proof/Machine/Regs.lean ====
section
/-! DEFINITION. Register accesses, staged writes and snapshots as commands (R95 to R110). -/

namespace Sys2Proof.Machine

/-- REGISTER_WRITE (R98): a store of master `m` of `n` bytes at `a`, with the hardware changes on its edge; it stops where
the spec calls its result unpredictable (R118). -/
def execRegisterWrite (m a n data : Nat) (hw : List HwChange) (s : State) : Host.Outcome State Fault Refusal :=
  orUnpredictable (s.openCase m a n data) (s.masterStore hw m a n data)

/-- The distance of a view from the normal one (R95). -/
def AliasView.offset : AliasView → Nat
  | .set => 0x1000
  | .clr => 0x2000
  | .tgl => 0x3000

/-- ALIAS_WRITE (R96): a store through an alias view of the register at the normal address `a`. -/
def execAliasWrite (v : AliasView) (m a n data : Nat) (hw : List HwChange) (s : State) : Host.Outcome State Fault Refusal :=
  orUnpredictable (s.openCase m (a + v.offset) n data) (s.masterStore hw m (a + v.offset) n data)

/-! ### Boundaries (R101) -/

/-- The code of a boundary in the Applies column. -/
def Boundary.code : Boundary → Applies
  | .f => .f
  | .m => .m
  | .p => .p
  | .t => .t

/-- The partition whose microframe a write waits for (R101, R145), 15 for the internal timer's. -/
def State.frameScope (s : State) (x : Staged) : Nat :=
  if x.field.id / 32 = F.PART_ASSIGN_PORT0.id / 32 then
    if s.assignValue x.value < 4 then x.value else s.partOf (8 * x.index + assignIdx x.field + 1)
  else if F.DPE_STATE_STATE.id / 32 ≤ x.field.id / 32 ∧ x.field.id / 32 ≤ F.DPE_CNT4_QREFUSE.id / 32 then s.partOf x.index
  else x.index

/-- The Currant whose power control period a write waits for (R101); those of ENT and GOV are of Currant 0. -/
def powerScope (x : Staged) : Nat :=
  match slotHome x.field.id x.index with
  | some h => h.die - 1
  | none => 0

/-- Scope `k` of a boundary covers a waiting write: a partition, a port, a Currant, or the part. -/
def State.inScope (s : State) (b : Boundary) (k : Nat) (x : Staged) : Bool :=
  decide (x.field.applies = b.code) && (match b with
    | .f => decide (s.frameScope x = k)
    | .m => decide (x.index = k)
    | .p => decide (powerScope x = k)
    | .t => true)

/-- A write changes ROLE of a port in AttachWait.SNK or Attached.SNK, whose results are unpredictable (R239). -/
def State.roleMoved (s : State) (l : List Staged) : Bool :=
  l.any (fun x => decide (x.field.id = F.TCPD_CCCFG_ROLE.id) && decide (x.value ≠ s.fld x.field x.index)
    && s.ccIn x.index [.attachWaitSnk, .attachedSnk])

/-- STAGED_WRITE_APPLY (R101, R105, R108): the boundary of partition, port or Currant `k`, and the hardware changes on its
edge; a block on HOLD applies nothing.  The T boundary is the next CT multiple of 960, to which CT runs on.  At the F boundary of a partition its host's waiting requests act (R148).  It stops
where an instance connects over endpoint buffers that overlap (R213), and where ROLE changes on a port that is or waits to be
a sink (R239). -/
def execStagedWriteApply (b : Boundary) (k : Nat) (hw : List HwChange) (s : State) : Host.Outcome State Fault Refusal :=
  let l := s.staged.filter (fun x => s.inScope b k x && !(slotHome x.field.id x.index).any s.held')
  let t := if b == .t then s.nextMarker hw else s.applyAll hw l
  orUnpredictable (if overlapApplied s t then 213 else if s.roleMoved l then 239 else 0)
    (if b == .f && decide (k < 4) then t.frameBoundary k else t)

/-- HOLD_RELEASE (R105, R108): HOLD of copy `j` of a block goes from 1 to 0, with the hardware changes on that edge. -/
def execHoldRelease (blk : Block) (j : Nat) (hw : List HwChange) (s : State) : Host.Outcome State Fault Refusal :=
  .next <|
    match stageOf blk with
    | some f => match slotHome f.id j with
      | some h => if s.on f j then (s.put f j false).holdReleased hw h else s
      | none => s
    | none => s

/-! ### Snapshots (R110) -/

/-- SNAP_REQ (R110): REQ with SEL, of RTC (0), GOV (1), CHORD (2), TRC (3) or ADC of Currant k − 4. -/
def execSnapReq (k sel : Nat) (s : State) : Host.Outcome State Fault Refusal :=
  .next (if s.snapOn k then (s.setFld (snapFields k).2.1 (snapFields k).2.2.2.2 sel).snapReq k else s)

/-- SNAP_CAPTURE (R110): the capture that is pending; an RTC value is captured at the next RTC edge. -/
def execSnapCapture (k : Nat) (s : State) : Host.Outcome State Fault Refusal :=
  .next <|
    if s.snapOn k && (Tbl.at s.snaps k).pending then
      let s := if k = 0 then s.advance (s.untilRtc 1) else s
      s.snapTake k
    else s

/-- SNAP_HI_READ (R110). -/
def execSnapHiRead (k : Nat) (s : State) : Host.Outcome State Fault Refusal := .next (s.snapRead k)

end Sys2Proof.Machine
end

