-- ==== Sys2Proof/Machine/Sample.lean ====
section
/-! DEFINITION. One control period: what the Currant samples of a port, and the feed entry of the hot-swap, and what follows
(R262, R274, R277 to R279, R281, R282, R286, R297, R303, R305, R307). -/

namespace Sys2Proof.Machine

/-! ### Calibration (R297, R420, R421) -/

/-- A raw reading with the gain and the signed offset at byte `o` of the calibration set, while one is loaded. -/
def State.calibrated (s : State) (o : Nat) (raw : Rat) : Rat :=
  if s.on F.CAL_STAT_LOADED 0 then raw * (s.calHalf o : Nat) / 32768 + (toInt 16 (s.calHalf (o + 2)) : Int) else raw

/-- A voltage in 10 mV, whose offset is in mV; rounded down (log entry 21). -/
def State.calVolt (s : State) (o raw : Nat) : Nat := (s.calibrated o (10 * (raw : Rat)) / 10).floor.toNat

/-- A current in mA, from a shunt voltage in µV and the shunt in Ω; rounded down (log entry 21). -/
def State.calAmps (s : State) (o : Nat) (shunt : Int) (ohm : Rat) : Int := (s.calibrated o ((shunt : Rat) / (1000 * ohm))).floor

/-- RSHUNT of a port in Ω (R297). -/
def State.rshunt (s : State) (p : Nat) : Rat := (clamp 50 250 (s.fld F.ADC_PCFG_RSHUNT p) : Rat) / 50000

/-- RSHUNT of the hot-swap in Ω (R315). -/
def State.hsRshunt (s : State) : Rat := (max 10 (s.fld F.ENT_HSCFG_RSHUNT 0) : Rat) / 100000

/-- A sample of port `p`, corrected by its port record and its Currant record (R420; log entry 40). -/
def State.measured (s : State) (p : Nat) (x : PortSample) : Measured :=
  let o := 0x20 + (p - 1) * 0x20
  let n := 0x420 + currant p * 16
  { i := s.calAmps o x.shunt (s.rshunt p)
    vbus := s.calVolt (o + 4) x.vbus
    vout := s.calVolt (o + 8) x.vout
    vbrd := s.calVolt n x.vbrd
    sinkBus := x.sinkBus
    tdie := if s.on F.CAL_STAT_LOADED 0 then x.tdie + toInt 16 (s.calHalf (n + 4)) else x.tdie }

/-- A sample of the feed entry, corrected by the feed entry record (R420): FEED_A and FEED_B stand as `vbrd` and `sinkBus`. -/
def State.hsMeasured (s : State) (x : PortSample) : Measured :=
  { vbrd := s.calVolt 0x460 x.vbrd
    sinkBus := s.calVolt 0x464 x.sinkBus
    vout := s.calVolt 0x468 x.vout
    vbus := s.calVolt 0x46C x.vbus
    i := s.calAmps 0x470 x.shunt s.hsRshunt
    tdie := x.tdie }

/-! ### Temperature (R286) -/

/-- The power lost in the fuse pair in W (R286). -/
def State.fetPower (s : State) (p : Nat) (x : Measured) : Rat :=
  let i : Rat := (x.i : Rat) / 1000
  let drop : Rat := ((if x.vout < x.vbus then x.vbus - x.vout else x.vout - x.vbus : Nat) : Rat) / 100
  let vds := if s.on F.PWR_PSTAT_GATEON p then i * ((s.fld F.PWR_THCFG_RON p : Rat) / 10000) else drop - i * s.rshunt p
  i * vds

/-- A temperature in 0.1 °C as a signed field, rounded toward minus infinity (log entry 21). -/
def tenths (t : Rat) : Nat := ofInt 16 (t * 10).floor

/-- The NTC temperature of R286 for a resistance in 10 Ω, where the formula has a value. -/
def State.ntcTemp (s : State) (p r : Nat) : Option Rat :=
  let b := s.fld F.PWR_NTC_B p
  let rnom := s.fld F.PWR_NTC_RNOM p
  if b = 0 ∨ rnom = 0 ∨ r = 0 then none
  else
    let inv : Rat := 20 / 5963 + (Config.lnMicro r rnom : Rat) / 1000000 / b
    if inv = 0 then none else some (1 / inv - 5463 / 20)

/-- One period of the two-node model (R286); both nodes start at the die's temperature, and a constant of 0 leaves the node
open (log entry 3). -/
def State.thermalStep (s : State) (p : Nat) (power ta : Rat) : State :=
  let r := s.pwr.at p
  let r := if r.started then r else { r with tj := ta, tc := ta, started := true }
  let rjc : Rat := (s.fld F.PWR_THP0_RJC p : Rat) / 1000
  let rca : Rat := (s.fld F.PWR_THP0_RCA p : Rat) / 100
  let tauj : Rat := (s.fld F.PWR_THP1_TAUJ p : Rat) / 100000
  let tauc : Rat := (s.fld F.PWR_THP1_TAUC p : Rat) / 100
  let dt : Rat := 1 / 250000
  if rjc = 0 ∨ tauj = 0 ∨ tauc = 0 then
    let (a, s) := s.drawNat
    let (b, s) := s.drawNat
    s.updPwr p (fun _ => { r with tj := (a : Rat), tc := (b : Rat) })
  else
    s.updPwr p (fun _ => { r with
      tj := r.tj + dt / tauj * (power * rjc - (r.tj - r.tc))
      tc := r.tc + dt / tauc * ((r.tj - r.tc) * rca / rjc - (r.tc - ta)) })

/-- The NTC temperature of the hot-swap MOSFET, as R286 with ENT_HSNTC (R303). -/
def State.hsNtcTemp (s : State) (r : Nat) : Option Rat :=
  let b := s.fld F.ENT_HSNTC_B 0
  let rnom := s.fld F.ENT_HSNTC_RNOM 0
  if b = 0 ∨ rnom = 0 ∨ r = 0 then none
  else
    let inv : Rat := 20 / 5963 + (Config.lnMicro r rnom : Rat) / 1000000 / b
    if inv = 0 then none else some (1 / inv - 5463 / 20)

/-! ### The hot-swap (R303, R305, R307, R315) -/

/-- The temperature node, the NTC and the fault timer of the hot-swap in one control period (R303): `x.vout` is VIN_OR, `x.vbus`
HS_OUT, `x.i` the HS_ISNS current, and `ntc` the resistance on HS_TEMP. -/
def State.hsThermal (s : State) (x : Measured) (ntc : Option Nat) : State :=
  let i : Rat := (x.i : Rat) / 1000
  let drop : Rat := ((x.vout : Rat) - (x.vbus : Rat)) / 100
  let vds := if s.on F.ENT_HSTAT_GATEON 0 then i * ((s.fld F.ENT_HSTH_RON 0 : Rat) / 10000) else drop
  let power := i * vds
  let ta : Rat := (x.tdie : Rat) / 10
  let rjc : Rat := (s.fld F.ENT_HSTHP0_RJC 0 : Rat) / 1000
  let rca : Rat := (s.fld F.ENT_HSTHP0_RCA 0 : Rat) / 100
  let tauj : Rat := (s.fld F.ENT_HSTHP1_TAUJ 0 : Rat) / 100000
  let tauc : Rat := (s.fld F.ENT_HSTHP1_TAUC 0 : Rat) / 100
  let dt : Rat := 1 / 250000
  let e := if s.ent.started then s.ent else { s.ent with tj := ta, tc := ta, started := true }
  let limit := s.on F.ENT_HSTAT_LIMIT 0 || s.on F.ENT_HSTAT_CLAMP 0
  let e := { e with
    timer := if limit then e.timer + 1 else if 7 ≤ e.calm then e.timer - 1 else e.timer
    calm := if limit then 0 else if 7 ≤ e.calm then 0 else e.calm + 1 }
  let s := if rjc = 0 ∨ tauj = 0 ∨ tauc = 0 then
      let (a, s) := s.drawNat
      let (b, s) := s.drawNat
      { s with ent := { e with tj := (a : Rat), tc := (b : Rat), ntcBad := e.ntcBad && ntc.isNone } }
    else
      { s with ent := { e with
        tj := e.tj + dt / tauj * (power * rjc - (e.tj - e.tc))
        tc := e.tc + dt / tauc * ((e.tj - e.tc) * rca / rjc - (e.tc - ta))
        ntcBad := e.ntcBad && ntc.isNone } }
  if s.on F.ENT_HSTH_TSRC 0 then
    match ntc with
    | none => s.setFld F.ENT_HSM_TEST 0 (tenths s.ent.tj)
    | some r =>
      match s.hsNtcTemp r with
      | some t => s.setFld F.ENT_HSM_TEST 0 (tenths t)
      | none =>
        let (n, s) := s.drawNat
        s.setFld F.ENT_HSM_TEST 0 n
  else s.setFld F.ENT_HSM_TEST 0 (tenths s.ent.tj)

/-- The seating pins as they stand in one control period (R300, R315); a loss acts by SEAT_LOSS. -/
def State.seatPins (s : State) (a b : Bool) : State :=
  let s := (s.put F.ENT_HSTAT_SEAT_A 0 a).put F.ENT_HSTAT_SEAT_B 0 b
  if a && b then { s with ent := { s.ent with bothLow := true } } else s

/-- The feed entry's control period (R303, R305, R307, R315, R316): pins, temperature, energy, power, voltages and current; in
CLAMP the gate holds HS_OUT at VCLAMP. -/
def State.hsSample (s : State) (x : PortSample) : State :=
  let m := s.hsMeasured x
  let out := if s.hsIs .clamp then min m.vbus s.vclamp else m.vbus
  let m := { m with vbus := out }
  let s := (s.seatPins x.seatA x.seatB).hsThermal m x.ntc
  let power := m.vout * m.i.toNat
  let g := s.govHw
  let s := { s with govHw := { g with energy := g.energy + power, acc := g.acc + power, ticks := g.ticks + 1 } }
  let s := (s.setVin m.vout).setFld F.ENT_BV_HS_OUT 0 m.vbus
  let s := (s.setFld F.ENT_FV_FEED_A 0 m.vbrd).setFld F.ENT_FV_FEED_B 0 m.sinkBus
  (s.setFld F.ENT_HSM_IHS 0 (m.i.toNat / 10)).hsSeek

/-! ### The converter (R274, R277, R278) -/

/-- The buck of port `p` runs: in a source state, with its gates held low neither by a fault nor by VBRD (R284, R285, R287). -/
def State.buckRuns (s : State) (p : Nat) : Bool :=
  s.pwrIn p sourcing && !(s.pwr.at p).gatesLow && !s.on F.PWR_CSTAT_VBRD_UV (currant p)

/-- `x` kept between `lo` and `hi`. -/
def clampRat (lo hi x : Rat) : Rat := max lo (min hi x)

/-- One step of the compensator of R274, with error `e` and board voltage `v` in volts and FSW in 10 kHz. -/
def compStep (kp ki kd : Nat) (e v : Rat) (fsw : Nat) (r : PwrPort) : PwrPort :=
  let u := r.u + (kp : Rat) / 64 * (e - r.e1) + (ki : Rat) / 1024 * e + (kd : Rat) / 16 * (e - 2 * r.e1 + r.e2)
  { r with u := u, duty := clampRat ((fsw : Rat) / 2000) (1 - (fsw : Rat) / 1000) (u / v), e2 := r.e1, e1 := e }

/-- So many steps. -/
def compSteps (kp ki kd : Nat) (e v : Rat) (fsw : Nat) : Nat → PwrPort → PwrPort
  | 0, r => r
  | n + 1, r => compSteps kp ki kd e v fsw n (compStep kp ki kd e v fsw r)

/-- The compensator in one control period: one step per switching period, FSW/25 of them; idle, it waits to start from the
present VOUT (R274, R287; log entry 67). -/
def State.compensate (s : State) (p : Nat) (x : Measured) : State :=
  let v := if s.on F.PWR_PSTAT_GATEON p then x.vbus else x.vout
  let fsw := s.fld F.PWR_CSTAT_FSWNOW (currant p)
  if s.buckRuns p then
    let r := s.pwr.at p
    let e : Rat := ((r.vset : Rat) - (v : Rat)) / 100
    let n := r.phase + fsw
    let r := compSteps (s.fld F.PWR_COMP_KP p) (s.fld F.PWR_COMP_KI p) (s.fld F.PWR_COMP_KD p) e ((x.vbrd : Rat) / 100) fsw (n / 25) r
    let (d, s) := s.drawNat
    s.updPwr p (fun _ => { r with phase := n % 25, duty := if x.vbrd = 0 then (d : Rat) else r.duty })
  else s.updPwr p (fun r => { r with u := (x.vout : Rat) / 100, e1 := 0, e2 := 0, duty := 0, phase := 0 })

/-- `x` moved toward `y` by at most `d`. -/
def toward (x y d : Nat) : Nat := if x + d ≤ y then x + d else if y + d ≤ x then x - d else y

/-- The setpoint in one control period: in ON and TRANSITION it moves at SLEW (R278), else it stands at VSET_EFF; and the output
from which a transition in dropout is judged follows one that has left its 1 % band. -/
def State.slew (s : State) (p : Nat) : State :=
  let v := s.sensed p
  let step := 4 * clamp 1 30 (s.fld F.PWR_VSET_SLEW p)
  let ramps := s.pwrIn p [.on, .transition]
  s.updPwr p (fun r => { r with
    setpoint := if ramps then toward r.setpoint (10 * r.vset) step else 10 * r.vset
    settleRef := if within1 r.vset v r.settleRef then r.settleRef else v })

/-- The buck cannot reach VSET_EFF: it lies above VBRD × DMAX less the drop of the path (R277). -/
def State.dropout (s : State) (p vbrd pathDrop : Nat) : Bool :=
  decide (vbrd * (1000 - s.fld F.PWR_CSTAT_FSWNOW (currant p)) < 1000 * ((s.pwr.at p).vset + pathDrop))

/-! ### The sink path (R262) -/

/-- The selected ISET in mA. -/
def State.iset (s : State) (p : Nat) : Nat :=
  50 * min 100 (s.fld (if s.on F.TCPD_SINKCFG_SEL p then F.TCPD_SINKCFG_ISET_B else F.TCPD_SINKCFG_ISET_A) p)

/-- What REGULATE holds in mA before PDMAX: the smaller of the selected ISET and the contract's current. -/
def State.sinkFree (s : State) (p : Nat) : Nat := min (s.iset p) (10 * s.fld F.TCPD_CONTRACT_CURR p)

/-- The largest current in mA that keeps (VOUT − SINKBUS) × current within PDMAX; none where the voltages set no bound. -/
def State.pdMax (s : State) (p : Nat) (x : Measured) : Option Nat :=
  if x.vout ≤ x.sinkBus then none else some (max 1 (s.fld F.TCPD_SINKCFG_PDMAX p) * 100000 / (x.vout - x.sinkBus))

/-- The sink path in one control period: the current measured, and in REGULATE the target and whether PDMAX lowers it. -/
def State.sinkHold (s : State) (p : Nat) (x : Measured) : State :=
  if s.pwrIs p .sink then
    let s := s.setFld F.TCPD_SINKSTAT_IMEAS p (s.flow p x.i)
    if s.on F.TCPD_SINKCFG_MODE p then
      let free := s.sinkFree p
      let held := min free ((s.pdMax p x).getD free)
      (s.updPwr p (fun r => { r with sinkTarget := held })).put F.TCPD_SINKSTAT_PDLIM p (decide (held < free))
    else (s.updPwr p (fun r => { r with sinkTarget := 0 })).put F.TCPD_SINKSTAT_PDLIM p false
  else s

/-! ### The control period of a port -/

/-- Overload time, fault timer and energy of one control period (R282, R283, R297). -/
def State.tally (s : State) (p : Nat) (x : Measured) : State :=
  let above := decide (50 * s.fld F.PWR_LEVELS_ILIM_EFF p < s.flow p x.i) && s.pwrIn p (.sink :: sourcing)
  let src := s.pwrIn p sourcing
  let limit := s.on F.PWR_PSTAT_LIMIT p
  let out := if src then x.vbus * x.i.toNat else 0
  let s := { s with govHw := { s.govHw with delivered := s.govHw.delivered + out } }
  s.updPwr p (fun r =>
    let bins := match r.bins with
      | [] => [bit01 above]
      | b :: l => (b + bit01 above) :: l
    let full := decide (249 ≤ r.binTick)
    { r with
      bins := if full then (0 :: bins).take 50 else bins
      binTick := if full then 0 else r.binTick + 1
      timer := if limit then r.timer + 1 else if 7 ≤ r.calm then r.timer - 1 else r.timer
      calm := if limit then 0 else if 7 ≤ r.calm then 0 else r.calm + 1
      delivered := r.delivered + out
      taken := if src then r.taken else r.taken + x.vbus * (-x.i).toNat })

/-- The readings of one control period come to the ADC registers (R297). -/
def State.readings (s : State) (p : Nat) (x : Measured) (power : Rat) : State :=
  let mag := x.i.natAbs
  let s := s.setFld F.ADC_POVL_OVLDSUM p (s.pwr.at p).bins.sum
  let s := (s.setVbus p x.vbus).setFld F.ADC_PV_VOUT p x.vout
  let s := (s.setFld F.ADC_BRD_VBRD (currant p) x.vbrd).setFld F.ADC_BRD_TDIE (currant p) (ofInt 16 x.tdie)
  let s := s.setFld F.DIE_STAT_TDIE (currant p) (ofInt 16 x.tdie)
  let s := (s.setFld F.ADC_PI_IBUS p (ofInt 16 x.i)).setFld F.ADC_PI_IPEAK p (max (s.fld F.ADC_PI_IPEAK p) mag)
  (s.setFld F.ADC_PPWR_PFET p (power * 100).floor.toNat).setFld F.ADC_PPWR_POUT p (x.vbus * mag / 10000)

/-- The temperature readings of one control period (R286). -/
def State.tempReadings (s : State) (p : Nat) (ntc : Option Nat) : State :=
  let s := s.updPwr p (fun r => { r with ntcBad := r.ntcBad && ntc.isNone })
  if s.on F.PWR_THCFG_TSRC p then
    let s := s.setFld F.ADC_PT_TCASE p 0
    match ntc with
    | none => s.setFld F.ADC_PT_TEST p (tenths (s.pwr.at p).tj)
    | some r =>
      match s.ntcTemp p r with
      | some t => s.setFld F.ADC_PT_TEST p (tenths t)
      | none =>
        let (n, s) := s.drawNat
        s.setFld F.ADC_PT_TEST p n
  else (s.setFld F.ADC_PT_TEST p (tenths (s.pwr.at p).tj)).setFld F.ADC_PT_TCASE p (tenths (s.pwr.at p).tc)

/-- THERMAL_MODEL_UPDATE (R286, R297): what the Currant does each control period with its samples of a port;
port 0 stands for the hot-swap MOSFET (R303). -/
def execThermalModelUpdate (p : Nat) (x : PortSample) (s : State) : Host.Outcome State Fault Refusal :=
  .next <|
    if p = 0 then (if s.entOn then s.hsSample x else s)
    else if !s.live p then s
    else
      let m := s.measured p x
      let power := s.fetPower p m
      let s := ((s.thermalStep p power ((m.tdie : Rat) / 10)).tally p m).readings p m power
      let s := ((s.compensate p m).slew p).sinkHold p m
      let src := s.pwrIn p sourcing
      let s := (s.put F.PWR_PSTAT_DROPOUT p (src && s.dropout p m.vbrd x.pathDrop)).put F.PWR_PSTAT_CL p
        (src && decide (s.fld F.TCPD_PDSTAT_PTYPE p = 2) && decide (10 * s.fld F.TCPD_CONTRACT_CURR p < x.demand))
      (s.tempReadings p x.ntc).levels p

end Sys2Proof.Machine
end

