-- ==== Sys2Proof/Machine/Svc.lean ====
section
/-! DEFINITION. The DMA channels, the QSPI host, the NVM controller and the calibration commit as commands (R397, R399,
R422, R427). -/

namespace Sys2Proof.Machine

/-- DMA_GO (R397). -/
def execDmaGo (d : Nat) (s : State) : Host.Outcome State Fault Refusal := .next (if d < 4 then s.dmaGo d else s)

/-- DMA_STOP (R397): the words copied by then, the one under way included. -/
def execDmaStop (d words : Nat) (s : State) : Host.Outcome State Fault Refusal :=
  orUnpredictable (if d < 4 then s.openCopy d (min words (s.fld F.SYS_DMASTAT_REMAIN d)) else 0)
    (if d < 4 then s.dmaStop d words else s)

/-- DMA_END (R397): the words left are copied; a violation freezes the channel instead. -/
def execDmaEnd (d : Nat) (s : State) : Host.Outcome State Fault Refusal :=
  orUnpredictable (if d < 4 then s.openCopy d (s.fld F.SYS_DMASTAT_REMAIN d) else 0) <|
    if d < 4 ∧ s.on F.SYS_DMASTAT_BUSY d = true ∧ s.on F.SYS_DMASTAT_FROZEN d = false then
      let s := s.dmaCopy d (s.fld F.SYS_DMASTAT_REMAIN d)
      if s.on F.SYS_DMASTAT_BUSY d && !s.on F.SYS_DMASTAT_FROZEN d then
        ((s.put F.SYS_DMASTAT_BUSY d false).incr F.SYS_DMACNT0_DONE d).irq (172 + d)
      else s
    else s

/-- QSPI_HASH_START (R399): START with the range that HSTART and HLEN hold. -/
def execQspiHashStart (s : State) : Host.Outcome State Fault Refusal := .next s.hashStart

/-- QSPI_HASH_END (R399): the range is read whole, or out of order. -/
def execQspiHashEnd (ok : Bool) (s : State) : Host.Outcome State Fault Refusal :=
  .next (if s.on F.QSPI_STAT_HBUSY 0 then s.hashEnd ok else s)

/-- QSPI_ERASE_SECTOR (R399). -/
def execQspiEraseSector (s : State) : Host.Outcome State Fault Refusal := .next (s.qspiGo 1)

/-- QSPI_ERASE_BLOCK (R399). -/
def execQspiEraseBlock (s : State) : Host.Outcome State Fault Refusal := .next (s.qspiGo 2)

/-- QSPI_PROGRAM (R399). -/
def execQspiProgram (s : State) : Host.Outcome State Fault Refusal := .next (s.qspiGo 3)

/-- QSPI_OP_END (R399). -/
def execQspiOpEnd (good : Bool) (s : State) : Host.Outcome State Fault Refusal := .next (s.qspiEnd good)

/-- NVM_ERASE (R427). -/
def execNvmErase (s : State) : Host.Outcome State Fault Refusal := .next (s.nvmGo 1)

/-- NVM_PROGRAM (R427). -/
def execNvmProgram (s : State) : Host.Outcome State Fault Refusal := .next (s.nvmGo 2)

/-- NVM_OP_END (R427). -/
def execNvmOpEnd (good : Bool) (s : State) : Host.Outcome State Fault Refusal := .next (s.nvmEnd good)

/-- CAL_COMMIT_END (R422). -/
def execCalCommitEnd (good : Bool) (s : State) : Host.Outcome State Fault Refusal := .next (s.calCommitEnd good)

end Sys2Proof.Machine
end

