-- ==== Sys2Proof/Machine/Dispatch.lean ====
section
/-! DEFINITION. The meaning of each command: one arm per constructor, each one direct call of its meaning. -/

namespace Sys2Proof.Machine

/-- The effect of a command on everything but the queue. -/
def exec (i : Instr) (s : State) : Host.Outcome State Fault Refusal :=
  match i with
  | .powerOn dies samples testEn vbatLow => Sys2Proof.Machine.execPowerOn dies samples testEn vbatLow s
  | .firmwareStart ok recoveryOk => Sys2Proof.Machine.execFirmwareStart ok recoveryOk s
  | .pinReset => Sys2Proof.Machine.execPinReset s
  | .brownout rail => Sys2Proof.Machine.execBrownout rail s
  | .deadBatteryBoot dies rp samples testEn => Sys2Proof.Machine.execDeadBatteryBoot dies rp samples testEn s
  | .deadBatteryHandover => Sys2Proof.Machine.execDeadBatteryHandover s
  | .deadBatteryLoss vbatHolds => Sys2Proof.Machine.execDeadBatteryLoss vbatHolds s
  | .dormantEntryStep vbatHolds => Sys2Proof.Machine.execDormantEntryStep vbatHolds s
  | .rtcAlarmReached => Sys2Proof.Machine.execRtcAlarmReached s
  | .vbatLoss => Sys2Proof.Machine.execVbatLoss s
  | .referenceLost => Sys2Proof.Machine.execReferenceLost s
  | .clockLoss => Sys2Proof.Machine.execClockLoss s
  | .pllLock => Sys2Proof.Machine.execPllLock s
  | .recoveredReferenceSwitch => Sys2Proof.Machine.execRecoveredReferenceSwitch s
  | .throttleStageChange stage => Sys2Proof.Machine.execThrottleStageChange stage s
  | .thermalReset => Sys2Proof.Machine.execThermalReset s
  | .currantDieTempStage d stage tdie => Sys2Proof.Machine.execCurrantDieTempStage d stage tdie s
  | .domainSwitchOn d => Sys2Proof.Machine.execDomainSwitchOn d s
  | .domainSwitchOff d => Sys2Proof.Machine.execDomainSwitchOff d s
  | .d2dFrameResend d dup => Sys2Proof.Machine.execD2dFrameResend d dup s
  | .d2dLinkLost d => Sys2Proof.Machine.execD2dLinkLost d s
  | .d2dLinkRetrained d => Sys2Proof.Machine.execD2dLinkRetrained d s
  | .d2dLoss1ms d => Sys2Proof.Machine.execD2dLoss1ms d s
  | .absentBlockAccess m a n k => Sys2Proof.Machine.execAbsentBlockAccess m a n k s
  | .violation m a n k => Sys2Proof.Machine.execViolation m a n k s
  | .core0Violation a n k => Sys2Proof.Machine.execCore0Violation a n k s
  | .thaw mask => Sys2Proof.Machine.execThaw mask s
  | .registerWrite m a n data hw => Sys2Proof.Machine.execRegisterWrite m a n data hw s
  | .aliasWrite v m a n data hw => Sys2Proof.Machine.execAliasWrite v m a n data hw s
  | .stagedWriteApply b k hw => Sys2Proof.Machine.execStagedWriteApply b k hw s
  | .holdRelease blk j hw => Sys2Proof.Machine.execHoldRelease blk j hw s
  | .snapReq k sel => Sys2Proof.Machine.execSnapReq k sel s
  | .snapCapture k => Sys2Proof.Machine.execSnapCapture k s
  | .snapHiRead k => Sys2Proof.Machine.execSnapHiRead k s
  | .epochTrackUpdate => Sys2Proof.Machine.execEpochTrackUpdate s
  | .upstreamBusReset k => Sys2Proof.Machine.execUpstreamBusReset k s
  | .upstreamDetach k => Sys2Proof.Machine.execUpstreamDetach k s
  | .hostPresenceChange k vbus => Sys2Proof.Machine.execHostPresenceChange k vbus s
  | .hsChirpHandshake k completed => Sys2Proof.Machine.execHsChirpHandshake k completed s
  | .partitionSuspend k => Sys2Proof.Machine.execPartitionSuspend k s
  | .hostResume k => Sys2Proof.Machine.execHostResume k s
  | .sofReceived k frame uframe => Sys2Proof.Machine.execSofReceived k frame uframe s
  | .getPortStatus k p => Sys2Proof.Machine.execGetPortStatus k p s
  | .setPortPower k p => Sys2Proof.Machine.execSetPortPower k p s
  | .clearPortPower k p => Sys2Proof.Machine.execClearPortPower k p s
  | .setPortReset k p => Sys2Proof.Machine.execSetPortReset k p s
  | .setPortSuspend k p => Sys2Proof.Machine.execSetPortSuspend k p s
  | .clearPortSuspend k p => Sys2Proof.Machine.execClearPortSuspend k p s
  | .clearPortEnable k p => Sys2Proof.Machine.execClearPortEnable k p s
  | .setPortTest k p selector => Sys2Proof.Machine.execSetPortTest k p selector s
  | .portIndicatorRequest k => Sys2Proof.Machine.execPortIndicatorRequest k s
  | .clearPortChange k p b => Sys2Proof.Machine.execClearPortChange k p b s
  | .setAndTestPortL1 k p besl addr rwe h => Sys2Proof.Machine.execSetAndTestPortL1 k p besl addr rwe h s
  | .clearPortL1 k p => Sys2Proof.Machine.execClearPortL1 k p s
  | .clearTtBuffer k ttPort addr ep dirIn typ => Sys2Proof.Machine.execClearTtBuffer k ttPort addr ep dirIn typ s
  | .resetTt k ttPort => Sys2Proof.Machine.execResetTt k ttPort s
  | .stopTt k ttPort => Sys2Proof.Machine.execStopTt k ttPort s
  | .getTtState k ttPort flags len => Sys2Proof.Machine.execGetTtState k ttPort flags len s
  | .setInterfaceAlt k alt => Sys2Proof.Machine.execSetInterfaceAlt k alt s
  | .deviceConnect p low => Sys2Proof.Machine.execDeviceConnect p low s
  | .deviceDisconnect p => Sys2Proof.Machine.execDeviceDisconnect p s
  | .resetDriveEnd p completed => Sys2Proof.Machine.execResetDriveEnd p completed s
  | .chirpDeviceK p microseconds => Sys2Proof.Machine.execChirpDeviceK p microseconds s
  | .babbleOrLoa p => Sys2Proof.Machine.execBabbleOrLoa p s
  | .lpmAck p besl addr rwe => Sys2Proof.Machine.execLpmAck p besl addr rwe s
  | .deviceRemoteWake p hostToo => Sys2Proof.Machine.execDeviceRemoteWake p hostToo s
  | .resumeDriveEnd p => Sys2Proof.Machine.execResumeDriveEnd p s
  | .eorSent p => Sys2Proof.Machine.execEorSent p s
  | .hostResumeEnd k => Sys2Proof.Machine.execHostResumeEnd k s
  | .packetTransmit p eop => Sys2Proof.Machine.execPacketTransmit p eop s
  | .switchSettleEnd p => Sys2Proof.Machine.execSwitchSettleEnd p s
  | .isolationCauseChange p => Sys2Proof.Machine.execIsolationCauseChange p s
  | .dataOvTrip p => Sys2Proof.Machine.execDataOvTrip p s
  | .dataOvRelease p stage => Sys2Proof.Machine.execDataOvRelease p stage s
  | .dswRearm p => Sys2Proof.Machine.execDswRearm p s
  | .dpeIsolateWrite p b => Sys2Proof.Machine.execDpeIsolateWrite p b s
  | .dpeQuarSet p => Sys2Proof.Machine.execDpeQuarSet p s
  | .dpeQuarRelease p => Sys2Proof.Machine.execDpeQuarRelease p s
  | .dswStgo p => Sys2Proof.Machine.execDswStgo p s
  | .selftestEnd p m => Sys2Proof.Machine.execSelftestEnd p m s
  | .glitchGo p => Sys2Proof.Machine.execGlitchGo p s
  | .glitchPulseDue p inPacket => Sys2Proof.Machine.execGlitchPulseDue p inPacket s
  | .chirpArmExpiry p => Sys2Proof.Machine.execChirpArmExpiry p s
  | .assignWrite p v => Sys2Proof.Machine.execAssignWrite p v s
  | .hardMove p v => Sys2Proof.Machine.execHardMove p v s
  | .migctlGo => Sys2Proof.Machine.execMigctlGo s
  | .migrationSourceBoundary p => Sys2Proof.Machine.execMigrationSourceBoundary p s
  | .migrationDestBoundary p => Sys2Proof.Machine.execMigrationDestBoundary p s
  | .keepaliveSof p => Sys2Proof.Machine.execKeepaliveSof p s
  | .migrationDestReset p => Sys2Proof.Machine.execMigrationDestReset p s
  | .migrationTimeout p => Sys2Proof.Machine.execMigrationTimeout p s
  | .migrationAbort p cause => Sys2Proof.Machine.execMigrationAbort p cause s
  | .ttFrameStart p => Sys2Proof.Machine.execTtFrameStart p s
  | .ssplitNonperiodic k p addr ep dirIn control bytes => Sys2Proof.Machine.execSsplitNonperiodic k p addr ep dirIn control bytes s
  | .csplitNonperiodic k p addr ep dirIn control => Sys2Proof.Machine.execCsplitNonperiodic k p addr ep dirIn control s
  | .ssplitPeriodic k p addr ep dirIn iso more due bytes rivals => Sys2Proof.Machine.execSsplitPeriodic k p addr ep dirIn iso more due bytes rivals s
  | .csplitPeriodic k p addr ep dirIn iso again came => Sys2Proof.Machine.execCsplitPeriodic k p addr ep dirIn iso again came s
  | .badSplit k p => Sys2Proof.Machine.execBadSplit k p s
  | .ttTransactionStart p uframe beforeEof1 npFits corrected => Sys2Proof.Machine.execTtTransactionStart p uframe beforeEof1 npFits corrected s
  | .ttTransactionEnd p result bytes busError => Sys2Proof.Machine.execTtTransactionEnd p result bytes busError s
  | .periodicContextRelease p addr ep dirIn iso => Sys2Proof.Machine.execPeriodicContextRelease p addr ep dirIn iso s
  | .periodicAbandon p addr ep dirIn iso => Sys2Proof.Machine.execPeriodicAbandon p addr ep dirIn iso s
  | .poolUncorrectable n => Sys2Proof.Machine.execPoolUncorrectable n s
  | .port33ConnectApply k connect => Sys2Proof.Machine.execPort33ConnectApply k connect s
  | .port33ResetEnd k => Sys2Proof.Machine.execPort33ResetEnd k s
  | .port33ResumeEnd k => Sys2Proof.Machine.execPort33ResumeEnd k s
  | .port33RemoteWake k hostToo => Sys2Proof.Machine.execPort33RemoteWake k hostToo s
  | .mfEp0Setup k requestType request value index length done => Sys2Proof.Machine.execMfEp0Setup k requestType request value index length done s
  | .getDescriptorReady k done => Sys2Proof.Machine.execGetDescriptorReady k done s
  | .controlAbandon k => Sys2Proof.Machine.execControlAbandon k s
  | .ep1OutPacket k bytes badCrc toggleError => Sys2Proof.Machine.execEp1OutPacket k bytes badCrc toggleError s
  | .ep1Ping k => Sys2Proof.Machine.execEp1Ping k s
  | .ep1FrameComplete k => Sys2Proof.Machine.execEp1FrameComplete k s
  | .ep2ResponseSent k => Sys2Proof.Machine.execEp2ResponseSent k s
  | .ep3NoticePacket k n acked => Sys2Proof.Machine.execEp3NoticePacket k n acked s
  | .noticeRaised typ data => Sys2Proof.Machine.execNoticeRaised typ data s
  | .ep4TransferAck k one two acked => Sys2Proof.Machine.execEp4TransferAck k one two s acked
  | .ccSample p cc1 cc2 vbus current vin rivals => Sys2Proof.Machine.execCcSample p cc1 cc2 vbus current vin rivals s
  | .tccdebounceExpiry p => Sys2Proof.Machine.execTccdebounceExpiry p s
  | .tpddebounceExpiry p => Sys2Proof.Machine.execTpddebounceExpiry p s
  | .drpToggle p => Sys2Proof.Machine.execDrpToggle p s
  | .sinkVbusLoss p vbus => Sys2Proof.Machine.execSinkVbusLoss p vbus s
  | .errorRecoveryEnd p => Sys2Proof.Machine.execErrorRecoveryEnd p s
  | .disabledCauseArises p bit => Sys2Proof.Machine.execDisabledCauseArises p bit s
  | .disabledExit p => Sys2Proof.Machine.execDisabledExit p s
  | .rpReevaluate p => Sys2Proof.Machine.execRpReevaluate p s
  | .ccOvTrip p => Sys2Proof.Machine.execCcOvTrip p s
  | .ccOvRelease p => Sys2Proof.Machine.execCcOvRelease p s
  | .vconnTrip p => Sys2Proof.Machine.execVconnTrip p s
  | .vconnApply p => Sys2Proof.Machine.execVconnApply p s
  | .vcrearmWrite p => Sys2Proof.Machine.execVcrearmWrite p s
  | .discoveryAttempt p answered => Sys2Proof.Machine.execDiscoveryAttempt p answered s
  | .discgoWrite p => Sys2Proof.Machine.execDiscgoWrite p s
  | .discoverIdentityAck p idHeader vdo sop2 => Sys2Proof.Machine.execDiscoverIdentityAck p idHeader vdo sop2 s
  | .pdTransmit p outcome => Sys2Proof.Machine.execPdTransmit p outcome s
  | .goodcrcTimeout p good => Sys2Proof.Machine.execGoodcrcTimeout p s good
  | .pdMessageReceived p sop hdr extHdr ext bytes => Sys2Proof.Machine.execPdMessageReceived p sop hdr extHdr ext bytes s
  | .rxRelease p => Sys2Proof.Machine.execRxRelease p s
  | .sourceCapabilitiesSend p good => Sys2Proof.Machine.execSourceCapabilitiesSend p good s
  | .sourceCapRepeat p good => Sys2Proof.Machine.execSourceCapRepeat p good s
  | .senderResponseTimeout p => Sys2Proof.Machine.execSenderResponseTimeout p s
  | .request p epr pos volt curr eprCapable rev => Sys2Proof.Machine.execRequest p epr pos volt curr eprCapable rev s
  | .budgetFreedOffer p => Sys2Proof.Machine.execBudgetFreedOffer p s
  | .transitionPsRdy p => Sys2Proof.Machine.execTransitionPsRdy p s
  | .ppsTimeout p => Sys2Proof.Machine.execPpsTimeout p s
  | .eprModeEnter p => Sys2Proof.Machine.execEprModeEnter p s
  | .eprEntryCheck p => Sys2Proof.Machine.execEprEntryCheck p s
  | .eprKeepalive p => Sys2Proof.Machine.execEprKeepalive p s
  | .eprKeepaliveTimeout p => Sys2Proof.Machine.execEprKeepaliveTimeout p s
  | .eprModeExit p bySink => Sys2Proof.Machine.execEprModeExit p bySink s
  | .prSwapReceived p rivals rev => Sys2Proof.Machine.execPrSwapReceived p rivals rev s
  | .swapSourceOff p => Sys2Proof.Machine.execSwapSourceOff p s
  | .swapVsafe0 p => Sys2Proof.Machine.execSwapVsafe0 p s
  | .swapPartnerPsRdy p => Sys2Proof.Machine.execSwapPartnerPsRdy p s
  | .swapTimeout p => Sys2Proof.Machine.execSwapTimeout p s
  | .sinkToSourceVsafe5 p => Sys2Proof.Machine.execSinkToSourceVsafe5 p s
  | .vconnSwapReceived p trips rev => Sys2Proof.Machine.execVconnSwapReceived p trips rev s
  | .drSwapReceived p rev => Sys2Proof.Machine.execDrSwapReceived p rev s
  | .hardReset p sent => Sys2Proof.Machine.execHardReset p sent s
  | .hardResetVbusOff p => Sys2Proof.Machine.execHardResetVbusOff p s
  | .hardResetRecover p => Sys2Proof.Machine.execHardResetRecover p s
  | .noResponseTimeout p => Sys2Proof.Machine.execNoResponseTimeout p s
  | .holdResponderStart p => Sys2Proof.Machine.execHoldResponderStart p s
  | .policyEngineStart p => Sys2Proof.Machine.execPolicyEngineStart p s
  | .feed48Change vin => Sys2Proof.Machine.execFeed48Change vin s
  | .vbusRequest p => Sys2Proof.Machine.execVbusRequest p s
  | .softstartDone p => Sys2Proof.Machine.execSoftstartDone p s
  | .gateFullyOn p => Sys2Proof.Machine.execGateFullyOn p s
  | .tqualComplete p => Sys2Proof.Machine.execTqualComplete p s
  | .limitEngage p idx => Sys2Proof.Machine.execLimitEngage p idx s
  | .faultTimerExpiry p => Sys2Proof.Machine.execFaultTimerExpiry p s
  | .fastTrip p idx => Sys2Proof.Machine.execFastTrip p s idx
  | .overloadExhausted p => Sys2Proof.Machine.execOverloadExhausted p s
  | .vbusOvervoltage p v => Sys2Proof.Machine.execVbusOvervoltage p s v
  | .reverseCurrent p idx => Sys2Proof.Machine.execReverseCurrent p s idx
  | .buckPeakFault p => Sys2Proof.Machine.execBuckPeakFault p s
  | .vsetChange p => Sys2Proof.Machine.execVsetChange p s
  | .transitionComplete p => Sys2Proof.Machine.execTransitionComplete p s
  | .transitionTimeout p => Sys2Proof.Machine.execTransitionTimeout p s
  | .ppsUndervoltage p => Sys2Proof.Machine.execPpsUndervoltage p s
  | .fetThermalTrip p => Sys2Proof.Machine.execFetThermalTrip p s
  | .ntcFault p short => Sys2Proof.Machine.execNtcFault p short s
  | .thermalModelUpdate p x => Sys2Proof.Machine.execThermalModelUpdate p x s
  | .retryStart p => Sys2Proof.Machine.execRetryStart p s
  | .retryReload p => Sys2Proof.Machine.execRetryReload p s
  | .dischargeDone p => Sys2Proof.Machine.execDischargeDone p s
  | .dischargeTimeout p => Sys2Proof.Machine.execDischargeTimeout p s
  | .clrlatch p => Sys2Proof.Machine.execClrlatch p s
  | .voffWrite p b => Sys2Proof.Machine.execVoffWrite p b s
  | .sinkEntry p => Sys2Proof.Machine.execSinkEntry p s
  | .sinkFault p cause => Sys2Proof.Machine.execSinkFault p cause s
  | .vbrdUvOv n uv start => Sys2Proof.Machine.execVbrdUvOv n uv start s
  | .fswStep n => Sys2Proof.Machine.execFswStep n s
  | .feedReverseOff k => Sys2Proof.Machine.execFeedReverseOff k s
  | .feedPresenceChange k volt vinOr conducting => Sys2Proof.Machine.execFeedPresenceChange k volt vinOr conducting s
  | .seatQualified vinOr => Sys2Proof.Machine.execSeatQualified vinOr s
  | .seatLoss aLow bLow => Sys2Proof.Machine.execSeatLoss aLow bLow s
  | .hsGateOn => Sys2Proof.Machine.execHsGateOn s
  | .hsQualDone => Sys2Proof.Machine.execHsQualDone s
  | .hsLimitEngage idx => Sys2Proof.Machine.execHsLimitEngage idx s
  | .hsFault cause idx => Sys2Proof.Machine.execHsFault cause s idx
  | .hsRetry => Sys2Proof.Machine.execHsRetry s
  | .hsUndervoltage vinOr => Sys2Proof.Machine.execHsUndervoltage vinOr s
  | .hsUvRecover vinOr => Sys2Proof.Machine.execHsUvRecover vinOr s
  | .surge vinOr => Sys2Proof.Machine.execSurge vinOr s
  | .surgeEnd vinOr micros => Sys2Proof.Machine.execSurgeEnd vinOr s micros
  | .hsClrlatch => Sys2Proof.Machine.execHsClrlatch s
  | .hsRetryReload => Sys2Proof.Machine.execHsRetryReload s
  | .entHctlWrite foffA foffB hsoff => Sys2Proof.Machine.execEntHctlWrite foffA foffB hsoff s
  | .pgBrdFall => Sys2Proof.Machine.execPgBrdFall s
  | .brdoffPortRelease => Sys2Proof.Machine.execBrdoffPortRelease s
  | .sagStart vinOr => Sys2Proof.Machine.execSagStart vinOr s
  | .sagRenegotiate => Sys2Proof.Machine.execSagRenegotiate s
  | .sagEnd vmin ms => Sys2Proof.Machine.execSagEnd vmin ms s
  | .pbrdAverage rest => Sys2Proof.Machine.execPbrdAverage rest s
  | .shedVictim => Sys2Proof.Machine.execShedVictim s
  | .shedRelease => Sys2Proof.Machine.execShedRelease s
  | .reservationRelease idx => Sys2Proof.Machine.execReservationRelease idx s
  | .chordSignalDetect l => Sys2Proof.Machine.execChordSignalDetect l s
  | .chordTrained l => Sys2Proof.Machine.execChordTrained l s
  | .chordIdent l peerApex peerUp peerHold depth sync addr lo hi => Sys2Proof.Machine.execChordIdent l peerApex peerUp peerHold depth sync addr lo hi s
  | .chordIdentRetry l => Sys2Proof.Machine.execChordIdentRetry l s
  | .chordMeasureDone l => Sys2Proof.Machine.execChordMeasureDone l s
  | .chordLinkFail l cause => Sys2Proof.Machine.execChordLinkFail l cause s
  | .marker l sync depth ct localCt peerHold => Sys2Proof.Machine.execMarker l sync depth ct localCt peerHold s
  | .delayExchange l t1 t2 t3 t4 => Sys2Proof.Machine.execDelayExchange l t1 t2 t3 t4 s
  | .ctCorrection => Sys2Proof.Machine.execCtCorrection s
  | .chordLock => Sys2Proof.Machine.execChordLock s
  | .apexLock => Sys2Proof.Machine.execApexLock s
  | .holdoverStart => Sys2Proof.Machine.execHoldoverStart s
  | .holdmaxExpiry => Sys2Proof.Machine.execHoldmaxExpiry s
  | .failover => Sys2Proof.Machine.execFailover s
  | .revert => Sys2Proof.Machine.execRevert s
  | .adoptFrame l lo hi hops => Sys2Proof.Machine.execAdoptFrame l lo hi hops s
  | .releaseFrame l lo hi => Sys2Proof.Machine.execReleaseFrame l lo hi s
  | .rangeChange lo hi => Sys2Proof.Machine.execRangeChange lo hi s
  | .chordCmdFrame l id mode dest hops bytes => Sys2Proof.Machine.execChordCmdFrame l id mode dest hops bytes s
  | .chordAcceptTimeout id => Sys2Proof.Machine.execChordAcceptTimeout id s
  | .chordCmdTimeout id => Sys2Proof.Machine.execChordCmdTimeout id s
  | .chordResponse l id bytes => Sys2Proof.Machine.execChordResponse l id bytes s
  | .broadcastMerge id => Sys2Proof.Machine.execBroadcastMerge id s
  | .ctPpsEdge => Sys2Proof.Machine.execCtPpsEdge s
  | .tatAdd => Sys2Proof.Machine.execTatAdd s
  | .tatCancel => Sys2Proof.Machine.execTatCancel s
  | .tatQueueLoad => Sys2Proof.Machine.execTatQueueLoad s
  | .tatLaunch => Sys2Proof.Machine.execTatLaunch s
  | .tatLateLaunch => Sys2Proof.Machine.execTatLateLaunch s
  | .maskWindowEnd idx p => Sys2Proof.Machine.execMaskWindowEnd idx p s
  | .entryFree idx => Sys2Proof.Machine.execEntryFree idx s
  | .packetCapture x => Sys2Proof.Machine.execPacketCapture x s
  | .dropRecordWrite => Sys2Proof.Machine.execDropRecordWrite s
  | .traceTrigger cause id value => Sys2Proof.Machine.execTraceTrigger s cause id value
  | .postTriggerDone => Sys2Proof.Machine.execPostTriggerDone s
  | .traceMemoryFull payload => Sys2Proof.Machine.execTraceMemoryFull s payload
  | .trcStart => Sys2Proof.Machine.execTrcStart s
  | .trcStop => Sys2Proof.Machine.execTrcStop s
  | .trcTrig => Sys2Proof.Machine.execTrcTrig s
  | .trcClear => Sys2Proof.Machine.execTrcClear s
  | .trcMarkWrite value => Sys2Proof.Machine.execTrcMarkWrite value s
  | .scrubTick k one two deferred => Sys2Proof.Machine.execScrubTick k one two deferred s
  | .traceUncorrectable k addr count => Sys2Proof.Machine.execTraceUncorrectable k addr count s
  | .faultEvent => Sys2Proof.Machine.execFaultEvent s
  | .faultWindowClose id => Sys2Proof.Machine.execFaultWindowClose id s
  | .wireFault id => Sys2Proof.Machine.execWireFault id s
  | .fcClr id coincides => Sys2Proof.Machine.execFcClr id coincides s
  | .fcInjEvent id coincides => Sys2Proof.Machine.execFcInjEvent id coincides s
  | .fcInjWire id => Sys2Proof.Machine.execFcInjWire id s
  | .fcScfgWrite n w react inj => Sys2Proof.Machine.execFcScfgWrite n w react inj s
  | .fcSelftestGo => Sys2Proof.Machine.execFcSelftestGo s
  | .fcSelftestEnd failed => Sys2Proof.Machine.execFcSelftestEnd failed s
  | .logRecordWrite => Sys2Proof.Machine.execLogRecordWrite s
  | .logSubmit => Sys2Proof.Machine.execLogSubmit s
  | .interruptEdge n pins => Sys2Proof.Machine.execInterruptEdge n pins s
  | .interruptEntry c pc mie => Sys2Proof.Machine.execInterruptEntry c pc mie s
  | .icComplete c level => Sys2Proof.Machine.execIcComplete c level s
  | .moderationExpiry n wfi => Sys2Proof.Machine.execModerationExpiry n wfi s
  | .icTimerWrite c count => Sys2Proof.Machine.execIcTimerWrite c count s
  | .icTimerZero c => Sys2Proof.Machine.execIcTimerZero c s
  | .icKick c => Sys2Proof.Machine.execIcKick c s
  | .watchdogHalf c => Sys2Proof.Machine.execWatchdogHalf c s
  | .watchdogExpiry c => Sys2Proof.Machine.execWatchdogExpiry c s
  | .trapStackOverflow c => Sys2Proof.Machine.execTrapStackOverflow c s
  | .tcmUncorrectable c pc a fetch mie => Sys2Proof.Machine.execTcmUncorrectable c pc a fetch mie s
  | .corectlResetWrite c hold => Sys2Proof.Machine.execCorectlResetWrite c hold s
  | .serviceCoreReset c why => Sys2Proof.Machine.execServiceCoreReset c why s
  | .policyImageLoad c => Sys2Proof.Machine.execPolicyImageLoad c s
  | .loaderGo c => Sys2Proof.Machine.execLoaderGo c s
  | .loaderHalt c => Sys2Proof.Machine.execLoaderHalt c s
  | .dmaGo d => Sys2Proof.Machine.execDmaGo d s
  | .dmaStop d words => Sys2Proof.Machine.execDmaStop d words s
  | .dmaEnd d => Sys2Proof.Machine.execDmaEnd d s
  | .qspiHashStart => Sys2Proof.Machine.execQspiHashStart s
  | .qspiHashEnd ok => Sys2Proof.Machine.execQspiHashEnd ok s
  | .qspiEraseSector => Sys2Proof.Machine.execQspiEraseSector s
  | .qspiEraseBlock => Sys2Proof.Machine.execQspiEraseBlock s
  | .qspiProgram => Sys2Proof.Machine.execQspiProgram s
  | .qspiOpEnd good => Sys2Proof.Machine.execQspiOpEnd good s
  | .nvmErase => Sys2Proof.Machine.execNvmErase s
  | .nvmProgram => Sys2Proof.Machine.execNvmProgram s
  | .nvmOpEnd good => Sys2Proof.Machine.execNvmOpEnd good s
  | .calCommitEnd good => Sys2Proof.Machine.execCalCommitEnd good s
  | .spiWrite bytes => Sys2Proof.Machine.execSpiWrite bytes s
  | .spiStatus => Sys2Proof.Machine.execSpiStatus s
  | .spiRead n => Sys2Proof.Machine.execSpiRead n s
  | .spiBadOpcode opcode => Sys2Proof.Machine.execSpiBadOpcode opcode s
  | .i2cWrite bytes => Sys2Proof.Machine.execI2cWrite bytes s
  | .i2cStatus => Sys2Proof.Machine.execI2cStatus s
  | .i2cRead n => Sys2Proof.Machine.execI2cRead n s
  | .localMailboxGo c => Sys2Proof.Machine.execLocalMailboxGo c s
  | .localMailboxAck c => Sys2Proof.Machine.execLocalMailboxAck c s
  | .commandStart ch => Sys2Proof.Machine.execCommandStart ch s
  | .portLockRelease ch => Sys2Proof.Machine.execPortLockRelease ch s
  | .sysInfo ch => Sys2Proof.Machine.execSysInfo ch s
  | .sysReset ch => Sys2Proof.Machine.execSysReset ch s
  | .sysDormant ch => Sys2Proof.Machine.execSysDormant ch s
  | .sysDomain ch => Sys2Proof.Machine.execSysDomain ch s
  | .sysPart ch => Sys2Proof.Machine.execSysPart ch s
  | .sysNotices ch => Sys2Proof.Machine.execSysNotices ch s
  | .sysThaw ch => Sys2Proof.Machine.execSysThaw ch s
  | .sysFwBegin ch good => Sys2Proof.Machine.execSysFwBegin ch good s
  | .sysFwData ch good => Sys2Proof.Machine.execSysFwData ch good s
  | .sysFwEnd ch ok => Sys2Proof.Machine.execSysFwEnd ch ok s
  | .sysFwStatus ch => Sys2Proof.Machine.execSysFwStatus ch s
  | .sysCfgSave ch good => Sys2Proof.Machine.execSysCfgSave ch good s
  | .portStatus ch => Sys2Proof.Machine.execPortStatus ch s
  | .portAssign ch => Sys2Proof.Machine.execPortAssign ch s
  | .portMigrate ch => Sys2Proof.Machine.execPortMigrate ch s
  | .portIsolate ch => Sys2Proof.Machine.execPortIsolate ch s
  | .portRestore ch => Sys2Proof.Machine.execPortRestore ch s
  | .portQuarantine ch => Sys2Proof.Machine.execPortQuarantine ch s
  | .portQuarantineRelease ch => Sys2Proof.Machine.execPortQuarantineRelease ch s
  | .portSelftest ch => Sys2Proof.Machine.execPortSelftest ch s
  | .portSelftestResults ch => Sys2Proof.Machine.execPortSelftestResults ch s
  | .portGlitch ch => Sys2Proof.Machine.execPortGlitch ch s
  | .portVbus ch => Sys2Proof.Machine.execPortVbus ch s
  | .portLatchclr ch => Sys2Proof.Machine.execPortLatchclr ch s
  | .portCc ch => Sys2Proof.Machine.execPortCc ch s
  | .portCfg ch => Sys2Proof.Machine.execPortCfg ch s
  | .portTtalloc ch => Sys2Proof.Machine.execPortTtalloc ch s
  | .pdStatus ch => Sys2Proof.Machine.execPdStatus ch s
  | .pdStatusQuery ch => Sys2Proof.Machine.execPdStatusQuery ch s
  | .pdCfg ch => Sys2Proof.Machine.execPdCfg ch s
  | .pdProfileRead ch => Sys2Proof.Machine.execPdProfileRead ch s
  | .pdProfileWrite ch => Sys2Proof.Machine.execPdProfileWrite ch s
  | .pdSwapPr ch => Sys2Proof.Machine.execPdSwapPr ch s
  | .pdSwapVconn ch => Sys2Proof.Machine.execPdSwapVconn ch s
  | .pdResetSoft ch => Sys2Proof.Machine.execPdResetSoft ch s
  | .pdResetHard ch => Sys2Proof.Machine.execPdResetHard ch s
  | .pdResetCable ch => Sys2Proof.Machine.execPdResetCable ch s
  | .pdSinkcfg ch => Sys2Proof.Machine.execPdSinkcfg ch s
  | .pdSlot ch good => Sys2Proof.Machine.execPdSlot ch good s
  | .pwrStatus ch => Sys2Proof.Machine.execPwrStatus ch s
  | .pwrGovcfg ch => Sys2Proof.Machine.execPwrGovcfg ch s
  | .pwrPrio ch => Sys2Proof.Machine.execPwrPrio ch s
  | .pwrPortcfg ch => Sys2Proof.Machine.execPwrPortcfg ch s
  | .pwrFeedctl ch => Sys2Proof.Machine.execPwrFeedctl ch s
  | .pwrEnergy ch => Sys2Proof.Machine.execPwrEnergy ch s
  | .timeGet ch => Sys2Proof.Machine.execTimeGet ch s
  | .timeSet ch => Sys2Proof.Machine.execTimeSet ch s
  | .timeAdd ch => Sys2Proof.Machine.execTimeAdd ch s
  | .timeCancel ch => Sys2Proof.Machine.execTimeCancel ch s
  | .timeList ch => Sys2Proof.Machine.execTimeList ch s
  | .timeSof ch => Sys2Proof.Machine.execTimeSof ch s
  | .traceStatus ch => Sys2Proof.Machine.execTraceStatus ch s
  | .traceCfg ch => Sys2Proof.Machine.execTraceCfg ch s
  | .traceCtlStart ch => Sys2Proof.Machine.execTraceCtlStart ch s
  | .traceCtlStop ch => Sys2Proof.Machine.execTraceCtlStop ch s
  | .traceCtlTrig ch => Sys2Proof.Machine.execTraceCtlTrig ch s
  | .traceCtlClear ch => Sys2Proof.Machine.execTraceCtlClear ch s
  | .traceCtlMark ch => Sys2Proof.Machine.execTraceCtlMark ch s
  | .traceRead ch one two => Sys2Proof.Machine.execTraceRead ch one two s
  | .faultStatus ch => Sys2Proof.Machine.execFaultStatus ch s
  | .faultStatusList ch => Sys2Proof.Machine.execFaultStatusList ch s
  | .faultCfg ch => Sys2Proof.Machine.execFaultCfg ch s
  | .faultClear ch => Sys2Proof.Machine.execFaultClear ch s
  | .faultInject ch => Sys2Proof.Machine.execFaultInject ch s
  | .faultSelftest ch => Sys2Proof.Machine.execFaultSelftest ch s
  | .faultSummary ch => Sys2Proof.Machine.execFaultSummary ch s
  | .faultLog ch => Sys2Proof.Machine.execFaultLog ch s
  | .calExport ch => Sys2Proof.Machine.execCalExport ch s
  | .calWrite ch => Sys2Proof.Machine.execCalWrite ch s
  | .calWriteCommit ch => Sys2Proof.Machine.execCalWriteCommit ch s
  | .regRead ch => Sys2Proof.Machine.execRegRead ch s
  | .regWrite ch => Sys2Proof.Machine.execRegWrite ch s
  | .chordStatus ch => Sys2Proof.Machine.execChordStatus ch s
  | .chordCfg ch => Sys2Proof.Machine.execChordCfg ch s
  | .chordLink ch => Sys2Proof.Machine.execChordLink ch s
  | .chordGatherRead ch => Sys2Proof.Machine.execChordGatherRead ch s
  | .gather ch => Sys2Proof.Machine.execGather ch s
  | .bootRailsValid samples testEn => Sys2Proof.Machine.execBootRailsValid samples testEn s
  | .sysRstNRelease samples testEn => Sys2Proof.Machine.execSysRstNRelease samples testEn s
  | .railEnStep => Sys2Proof.Machine.execRailEnStep s
  | .thermalResetRelease => Sys2Proof.Machine.execThermalResetRelease s
  | .referenceReturn viaLink => Sys2Proof.Machine.execReferenceReturn viaLink s
  | .railMonitorChange which ok => Sys2Proof.Machine.execRailMonitorChange which ok s
  | .d2dLinkTrained d => Sys2Proof.Machine.execD2dLinkTrained d s
  | .hubDeviceRequest k requestType request value length => Sys2Proof.Machine.execHubDeviceRequest k requestType request value length s
  | .sinkRequestRetry p => Sys2Proof.Machine.execSinkRequestRetry p s
  | .ovldxClear p => Sys2Proof.Machine.execOvldxClear p s
  | .sramUncorrectable a => Sys2Proof.Machine.execSramUncorrectable a s
  | .wireFaultEnd id => Sys2Proof.Machine.execWireFaultEnd id s
  | .mret c => Sys2Proof.Machine.execMret c s
  | .synchronousException c pc cause mie => Sys2Proof.Machine.execSynchronousException c pc cause mie s

end Sys2Proof.Machine
end

