-- ==== Sys2Proof/Machine/Idle.lean ====
section
/-! DEFINITION. What the block does of itself when no command waits: one tick of the root clock (log entry 8), or the part
reset that SYS_RESET left due (R446). -/

namespace Sys2Proof.Machine

/-- Time passes in the RTC alone: CT stands (R81, R85). -/
def State.rtcTick (s : State) : State := { s.advance 1 with ct := s.ct }

/-- One tick of the root clock (R83, R85; log entry 8). -/
def State.tick (s : State) : State :=
  if !s.power.aon then s
  else if !s.ctRuns then s.rtcTick
  else
    let s := s.advance 1
    if s.ct % 960 = 0 then s.microsecond [] else s

/-- What an empty queue leaves to the block itself. -/
def State.idle (s : State) : State :=
  match s.power.resetPending with
  | some ch => s.partReset 6 ch
  | none => s.tick

end Sys2Proof.Machine
end

