-- ==== Sys2Proof/Safety.lean ====
section
/-! DEFINITION. The words in which statements speak: the zones of the state (each block's registers, memory, each record),
what it means that a run of operations changed only some of them, and the invariants of the state. -/

namespace Sys2Proof.Machine

/-- The block whose register table lists the register of a field (R93, R94): the fields' numbers rise block by block. -/
def blockOf (id : Nat) : Block :=
  let r := id / 32
  if r ≤ 8 then .pmu
  else if r ≤ 19 then .rtc
  else if r ≤ 29 then .mpu
  else if r ≤ 34 then .d2d
  else if r ≤ 39 then .die
  else if r ≤ 52 then .part
  else if r ≤ 67 then .dpe
  else if r ≤ 75 then .dsw
  else if r ≤ 89 then .tt
  else if r ≤ 99 then .mf
  else if r ≤ 129 then .tcpd
  else if r ≤ 149 then .pwr
  else if r ≤ 161 then .adc
  else if r ≤ 180 then .ent
  else if r ≤ 199 then .gov
  else if r ≤ 220 then .chord
  else if r ≤ 233 then .tat
  else if r ≤ 254 then .trc
  else if r ≤ 262 then .bbc
  else if r ≤ 275 then .ic
  else if r ≤ 290 then .sys
  else if r ≤ 303 then .qspi
  else if r ≤ 317 then .fc
  else if r ≤ 325 then .log
  else if r ≤ 336 then .cal
  else if r ≤ 348 then .mbx
  else .tgt

/-- A zone of the state: the registers of a block, memory, or one of the typed records. -/
inductive Zone where
  | reg (b : Block)
  | mem
  | staged | ct | power | nvmCfg | fwCopy | snaps | frozen | parts | migs | dpe | pool | tt | mf | cc | pd | profiles | pwr | gov | govHw | ent | bcq | chord | links | tat | tatOrder | trc | mbx | cores | hw | fc | log | free | tatOps
deriving DecidableEq, Repr

/-- The states agree in a zone: every field of the block reads the same, every byte reads the same, the record is the
same. -/
def Zone.same (z : Zone) (s t : State) : Prop :=
  match z with
  | .reg b => ∀ f i, blockOf f.id = b → t.fld f i = s.fld f i
  | .mem => ∀ a, readByte t.mem a = readByte s.mem a
  | .staged => t.staged = s.staged
  | .ct => t.ct = s.ct
  | .power => t.power = s.power
  | .nvmCfg => t.nvmCfg = s.nvmCfg
  | .fwCopy => t.fwCopy = s.fwCopy
  | .snaps => t.snaps = s.snaps
  | .frozen => t.frozen = s.frozen
  | .parts => t.parts = s.parts
  | .migs => t.migs = s.migs
  | .dpe => t.dpe = s.dpe
  | .pool => t.pool = s.pool
  | .tt => t.tt = s.tt
  | .mf => t.mf = s.mf
  | .cc => t.cc = s.cc
  | .pd => t.pd = s.pd
  | .profiles => t.profiles = s.profiles
  | .pwr => t.pwr = s.pwr
  | .gov => t.gov = s.gov
  | .govHw => t.govHw = s.govHw
  | .ent => t.ent = s.ent
  | .bcq => t.bcq = s.bcq
  | .chord => t.chord = s.chord
  | .links => t.links = s.links
  | .tat => t.tat = s.tat
  | .tatOrder => t.tatOrder = s.tatOrder
  | .trc => t.trc = s.trc
  | .mbx => t.mbx = s.mbx
  | .cores => t.cores = s.cores
  | .hw => t.hw = s.hw
  | .fc => t.fc = s.fc
  | .log => t.log = s.log
  | .free => t.free = s.free
  | .tatOps => t.tatOps = s.tatOps

/-- `t` differs from `s` in the zones named at most; the queue is the same. -/
def State.OnlyIn (zs : List Zone) (s t : State) : Prop := t.pending = s.pending ∧ ∀ z, z ∉ zs → z.same s t

/-- Interrupt source `n` is pending (R384). -/
def State.pends (s : State) (n : Nat) : Bool := s.bit F.IC_PEND_PEND (n / 32) (n % 32)

/-- The canonical form of registers and memory: keys rise strictly, and memory lists no byte that reads so unlisted. -/
def State.Canonical (s : State) : Prop := rising slotLt s.regs = true ∧ Memory.wf s.mem = true

/-- The bytes of the factory identity sector (R427). -/
def State.factory (s : State) : List Byte := (List.range 4096).map (fun o => readByte s.mem (0x08000000 + o))

/-- The command completes: it answers a next state, of which `q` holds. -/
def Completes (c : Instr) (s : State) (q : State → Prop) : Prop := ∃ t, exec c s = .next t ∧ q t

/-- The response placed last on host channel `ch` (0 or 1), read or not. -/
def State.lastReply (s : State) (ch : Nat) : Option Frame :=
  ((s.mbx.at ch).responses ++ (s.mbx.at ch).finished).getLast?

/-- The command `f` of channel `ch` has completed: no command runs there, and the host of channel 0 or 1 has the response
with this status, RETRY and payload as its last. -/
abbrev State.Answered (s t : State) (ch : Nat) (f : Frame) (status retry : Nat) (payload : List Nat) : Prop :=
  (t.mbx.at ch).running = none ∧ (ch ≤ 1 → t.lastReply ch = some (s.reply f status retry payload))

/-- Status and payload of a mask command (R441) in which the fitted ports that `took` names take the action. -/
def maskAnswer (m : Nat) (took : Nat → Bool) : Nat × List Nat :=
  (if (maskPorts m).any took then Status.ok else Status.state,
    allPorts.flatMap (fun p => le 2 (if (maskPorts m).contains p then (if took p then Status.ok else Status.state) else 0xFFFF)))

/-- No timed action waits for the end of a mailbox command (R140, R235). -/
abbrev State.NoneWaits (s : State) : Prop := ∀ e ∈ s.tat, e.2.later = []

/-- Every zone. -/
def Zone.all : List Zone :=
  [.reg .pmu, .reg .rtc, .reg .mpu, .reg .d2d, .reg .die, .reg .part, .reg .dpe, .reg .dsw, .reg .tt, .reg .mf,
   .reg .tcpd, .reg .pwr, .reg .adc, .reg .ent, .reg .gov, .reg .chord, .reg .tat, .reg .trc, .reg .bbc, .reg .ic,
   .reg .sys, .reg .qspi, .reg .fc, .reg .log, .reg .cal, .reg .mbx, .reg .tgt, .mem, .staged, .ct, .power, .nvmCfg,
   .fwCopy, .snaps, .frozen, .parts, .migs, .dpe, .pool, .tt, .mf, .cc, .pd, .profiles, .pwr, .gov, .govHw, .ent,
   .bcq, .chord, .links, .tat, .tatOrder, .trc, .mbx, .cores, .hw, .fc, .log, .free, .tatOps]

/-- Every zone but those listed. -/
def Zone.allBut (l : List Zone) : List Zone := Zone.all.filter (fun z => !l.contains z)

end Sys2Proof.Machine

namespace Sys2Proof

open Sys2Proof.Machine

/-- The zones that a command can change, whatever its operands and the state. -/
def Instr.zones : Instr → List Zone
  | .powerOn _ _ _ _ => Zone.all
  | .firmwareStart _ _ =>
    Zone.allBut [.staged, .ct, .nvmCfg, .snaps, .frozen, .govHw, .ent, .chord, .links, .tat, .tatOrder, .mbx, .hw,
    .tatOps]
  | .pinReset => Zone.all
  | .brownout _ => Zone.all
  | .deadBatteryBoot _ _ _ _ => Zone.all
  | .deadBatteryHandover =>
    Zone.allBut [.mem, .staged, .ct, .nvmCfg, .fwCopy, .snaps, .frozen, .profiles, .govHw, .ent, .chord, .links, .tat,
    .tatOrder, .mbx, .cores, .hw, .fc, .free, .tatOps]
  | .deadBatteryLoss _ => Zone.all
  | .dormantEntryStep _ => Zone.all
  | .rtcAlarmReached => [.reg .pmu, .reg .rtc, .reg .ic, .ct, .power]
  | .vbatLoss => Zone.all
  | .referenceLost => [.reg .pmu, .reg .log, .power, .fc, .log]
  | .clockLoss => Zone.all
  | .pllLock =>
    [.reg .pmu, .reg .rtc, .reg .part, .reg .dpe, .reg .dsw, .reg .tt, .reg .mf, .reg .tcpd, .reg .pwr, .reg .ent,
    .reg .gov, .reg .chord, .reg .trc, .reg .ic, .reg .sys, .reg .log, .reg .cal, .reg .mbx, .reg .tgt, .mem, .ct,
    .power, .fwCopy, .parts, .migs, .dpe, .pool, .tt, .mf, .cc, .pd, .pwr, .gov, .bcq, .chord, .trc, .mbx, .fc, .log]
  | .recoveredReferenceSwitch => [.reg .pmu]
  | .throttleStageChange _ =>
    [.reg .pmu, .reg .part, .reg .dpe, .reg .dsw, .reg .tt, .reg .mf, .reg .tcpd, .reg .pwr, .reg .gov, .reg .trc,
    .reg .ic, .reg .log, .reg .mbx, .parts, .migs, .dpe, .pool, .tt, .mf, .cc, .pd, .pwr, .gov, .bcq, .trc, .log]
  | .thermalReset => Zone.all
  | .currantDieTempStage _ _ _ =>
    [.reg .die, .reg .mf, .reg .tcpd, .reg .pwr, .reg .gov, .reg .ic, .reg .log, .reg .mbx, .mf, .pd, .pwr, .gov, .bcq,
    .log]
  | .domainSwitchOn _ =>
    Zone.allBut [.mem, .ct, .nvmCfg, .fwCopy, .frozen, .profiles, .govHw, .ent, .chord, .links, .tat, .tatOrder, .mbx,
    .cores, .hw, .fc, .free, .tatOps]
  | .domainSwitchOff _ =>
    Zone.allBut [.ct, .nvmCfg, .frozen, .profiles, .govHw, .ent, .tatOrder, .mbx, .hw, .fc, .free, .tatOps]
  | .d2dFrameResend _ _ => [.reg .d2d, .reg .ic, .reg .log, .log]
  | .d2dLinkLost _ => [.reg .d2d, .reg .die, .reg .dpe, .reg .dsw, .reg .ic]
  | .d2dLinkRetrained _ => [.reg .d2d, .reg .die, .reg .dpe, .reg .dsw, .reg .pwr, .reg .ic, .reg .log, .power, .pwr, .log]
  | .d2dLoss1ms _ =>
    [.reg .dpe, .reg .dsw, .reg .mf, .reg .tcpd, .reg .pwr, .reg .gov, .reg .ic, .reg .mbx, .power, .mf, .pd, .pwr, .gov,
    .bcq, .fc]
  | .absentBlockAccess _ _ _ _ => [.reg .ic, .fc]
  | .violation _ _ _ _ =>
    [.reg .mpu, .reg .dpe, .reg .dsw, .reg .mf, .reg .tcpd, .reg .pwr, .reg .gov, .reg .ic, .reg .sys, .reg .log,
    .reg .mbx, .frozen, .parts, .mf, .cc, .pd, .pwr, .gov, .bcq, .fc, .log]
  | .core0Violation _ _ _ => Zone.all
  | .thaw _ => [.reg .mpu, .reg .ic, .reg .sys, .frozen, .hw, .fc]
  | .registerWrite _ _ _ _ _ => Zone.all
  | .aliasWrite _ _ _ _ _ _ => Zone.all
  | .stagedWriteApply _ _ _ => Zone.allBut [.nvmCfg, .fwCopy, .snaps, .profiles, .govHw, .tatOrder, .tatOps]
  | .holdRelease _ _ _ => Zone.allBut [.ct, .nvmCfg, .fwCopy, .snaps, .profiles, .govHw, .tatOrder, .tatOps]
  | .snapReq _ _ => [.reg .rtc, .reg .adc, .reg .gov, .reg .chord, .reg .trc, .snaps]
  | .snapCapture _ => [.reg .rtc, .reg .adc, .reg .gov, .reg .chord, .reg .trc, .ct, .power, .snaps]
  | .snapHiRead _ => [.reg .rtc, .reg .adc, .reg .gov, .reg .chord, .reg .trc]
  | .epochTrackUpdate => [.reg .rtc, .ct, .power]
  | .upstreamBusReset _ =>
    [.reg .part, .reg .dpe, .reg .dsw, .reg .tt, .reg .mf, .reg .tcpd, .reg .pwr, .reg .gov, .reg .ic, .reg .log,
    .reg .mbx, .parts, .migs, .dpe, .pool, .tt, .mf, .cc, .pd, .pwr, .gov, .bcq, .trc, .log]
  | .upstreamDetach _ =>
    [.reg .part, .reg .dpe, .reg .dsw, .reg .tt, .reg .mf, .reg .tcpd, .reg .pwr, .reg .gov, .reg .ic, .reg .log,
    .reg .mbx, .parts, .migs, .dpe, .pool, .tt, .mf, .cc, .pd, .pwr, .gov, .bcq, .trc, .log]
  | .hostPresenceChange _ _ =>
    [.reg .part, .reg .dpe, .reg .dsw, .reg .tt, .reg .mf, .reg .tcpd, .reg .pwr, .reg .gov, .reg .ic, .reg .log,
    .reg .mbx, .parts, .migs, .dpe, .pool, .tt, .mf, .cc, .pd, .pwr, .gov, .bcq, .trc, .log]
  | .hsChirpHandshake _ _ => [.reg .part]
  | .partitionSuspend _ => [.reg .part, .reg .ic]
  | .hostResume _ => [.reg .dpe, .reg .dsw, .reg .mf, .reg .ic, .reg .mbx, .parts, .dpe, .mf, .bcq, .trc]
  | .sofReceived _ _ _ => [.reg .part, .reg .mf, .mem]
  | .getPortStatus _ _ => [.parts]
  | .setPortPower _ _ => [.parts]
  | .clearPortPower _ _ => [.parts]
  | .setPortReset _ _ => [.parts]
  | .setPortSuspend _ _ => [.parts]
  | .clearPortSuspend _ _ => [.parts]
  | .clearPortEnable _ _ =>
    [.reg .dpe, .reg .dsw, .reg .mf, .reg .tcpd, .reg .pwr, .reg .gov, .reg .ic, .reg .log, .reg .mbx, .parts, .mf, .cc,
    .pd, .pwr, .gov, .bcq, .log]
  | .setPortTest _ _ _ => [.parts]
  | .portIndicatorRequest _ => [.parts]
  | .clearPortChange _ _ _ => [.reg .dpe, .reg .dsw, .parts]
  | .setAndTestPortL1 _ _ _ _ _ _ => [.reg .dpe, .reg .dsw, .reg .mf, .reg .ic, .reg .mbx, .parts, .mf, .bcq, .trc]
  | .clearPortL1 _ _ => [.parts]
  | .clearTtBuffer _ _ _ _ _ _ => [.parts]
  | .resetTt _ _ => [.parts]
  | .stopTt _ _ => [.parts]
  | .getTtState _ _ _ _ => [.parts]
  | .setInterfaceAlt _ _ => [.parts]
  | .deviceConnect _ _ => [.reg .dpe, .reg .dsw, .reg .mf, .reg .ic, .reg .mbx, .mf, .bcq, .trc]
  | .deviceDisconnect _ => [.reg .dpe, .reg .dsw, .reg .tt, .reg .mf, .reg .ic, .reg .mbx, .migs, .pool, .mf, .bcq, .trc]
  | .resetDriveEnd _ _ =>
    [.reg .part, .reg .dpe, .reg .dsw, .reg .mf, .reg .ic, .reg .log, .reg .mbx, .migs, .dpe, .mf, .bcq, .trc, .log]
  | .chirpDeviceK _ _ => [.reg .dpe, .dpe]
  | .babbleOrLoa _ => [.reg .dpe, .reg .dsw, .reg .mf, .reg .ic, .reg .mbx, .mf, .bcq, .trc]
  | .lpmAck _ _ _ _ => [.reg .dpe, .reg .dsw, .reg .mf, .reg .ic, .reg .mbx, .mf, .bcq, .trc]
  | .deviceRemoteWake _ _ =>
    [.reg .part, .reg .dpe, .reg .dsw, .reg .mf, .reg .ic, .reg .log, .reg .mbx, .parts, .dpe, .mf, .bcq, .trc, .log]
  | .resumeDriveEnd _ => [.reg .dpe, .reg .dsw, .reg .mf, .reg .ic, .reg .mbx, .mf, .bcq, .trc]
  | .eorSent _ => [.reg .dpe, .reg .dsw, .reg .mf, .reg .ic, .reg .mbx, .dpe, .mf, .bcq, .trc]
  | .hostResumeEnd _ => [.reg .part, .reg .dpe, .reg .dsw, .reg .mf, .reg .ic, .reg .mbx, .parts, .dpe, .mf, .bcq, .trc]
  | .packetTransmit _ _ => [.reg .dpe, .reg .dsw, .reg .mf, .reg .ic, .reg .mbx, .mf, .bcq, .trc]
  | .switchSettleEnd _ => [.dpe]
  | .isolationCauseChange _ =>
    [.reg .dpe, .reg .dsw, .reg .tt, .reg .mf, .reg .ic, .reg .log, .reg .mbx, .migs, .dpe, .pool, .tt, .mf, .bcq, .trc,
    .log]
  | .dataOvTrip _ =>
    [.reg .dpe, .reg .dsw, .reg .tt, .reg .mf, .reg .ic, .reg .log, .reg .mbx, .migs, .dpe, .pool, .tt, .mf, .pwr, .bcq,
    .trc, .fc, .log]
  | .dataOvRelease _ _ =>
    [.reg .dpe, .reg .dsw, .reg .tt, .reg .mf, .reg .ic, .reg .log, .reg .mbx, .migs, .dpe, .pool, .tt, .mf, .pwr, .bcq,
    .trc, .log]
  | .dswRearm _ =>
    [.reg .dpe, .reg .dsw, .reg .tt, .reg .mf, .reg .ic, .reg .log, .reg .mbx, .migs, .dpe, .pool, .tt, .mf, .bcq, .trc,
    .log]
  | .dpeIsolateWrite _ _ =>
    [.reg .dpe, .reg .dsw, .reg .tt, .reg .mf, .reg .ic, .reg .log, .reg .mbx, .migs, .dpe, .pool, .tt, .mf, .bcq, .trc,
    .log]
  | .dpeQuarSet _ =>
    [.reg .part, .reg .dpe, .reg .dsw, .reg .tt, .reg .mf, .reg .tcpd, .reg .pwr, .reg .gov, .reg .ic, .reg .log,
    .reg .mbx, .parts, .migs, .dpe, .pool, .tt, .mf, .cc, .pd, .pwr, .gov, .bcq, .trc, .log]
  | .dpeQuarRelease _ =>
    [.reg .dpe, .reg .dsw, .reg .tt, .reg .mf, .reg .tcpd, .reg .pwr, .reg .gov, .reg .ic, .reg .log, .reg .mbx, .dpe,
    .pool, .tt, .mf, .cc, .pd, .pwr, .gov, .bcq, .trc, .log]
  | .dswStgo _ => [.reg .dpe, .reg .dsw, .dpe]
  | .selftestEnd _ _ => [.reg .dpe, .reg .dsw, .reg .ic, .reg .log, .dpe, .fc, .log]
  | .glitchGo _ => [.reg .dpe, .reg .log, .dpe, .log]
  | .glitchPulseDue _ _ => [.reg .dpe, .reg .ic, .reg .log, .dpe, .log]
  | .chirpArmExpiry _ => [.reg .dpe, .reg .log, .log]
  | .assignWrite _ _ =>
    [.reg .part, .reg .dpe, .reg .dsw, .reg .tt, .reg .mf, .reg .ic, .reg .mbx, .parts, .dpe, .pool, .tt, .mf, .bcq,
    .trc, .free]
  | .hardMove _ _ =>
    [.reg .part, .reg .dpe, .reg .dsw, .reg .tt, .reg .mf, .reg .ic, .reg .mbx, .parts, .dpe, .pool, .tt, .mf, .bcq,
    .trc, .free]
  | .migctlGo => [.reg .part, .reg .ic, .reg .log, .migs, .log]
  | .migrationSourceBoundary _ =>
    [.reg .part, .reg .dpe, .reg .dsw, .reg .tt, .reg .mf, .reg .tcpd, .reg .pwr, .reg .gov, .reg .ic, .reg .log,
    .reg .mbx, .parts, .migs, .dpe, .pool, .tt, .mf, .cc, .pd, .pwr, .gov, .bcq, .trc, .log]
  | .migrationDestBoundary _ =>
    [.reg .part, .reg .dpe, .reg .dsw, .reg .tt, .reg .mf, .reg .tcpd, .reg .pwr, .reg .gov, .reg .ic, .reg .log,
    .reg .mbx, .parts, .migs, .dpe, .pool, .tt, .mf, .cc, .pd, .pwr, .gov, .bcq, .trc, .log]
  | .keepaliveSof _ => [.migs]
  | .migrationDestReset _ =>
    [.reg .dpe, .reg .dsw, .reg .tt, .reg .mf, .reg .ic, .reg .log, .reg .mbx, .migs, .dpe, .pool, .tt, .mf, .bcq, .trc,
    .log]
  | .migrationTimeout _ =>
    [.reg .part, .reg .dpe, .reg .dsw, .reg .mf, .reg .ic, .reg .log, .reg .mbx, .migs, .mf, .bcq, .trc, .log]
  | .migrationAbort _ _ =>
    [.reg .part, .reg .dpe, .reg .dsw, .reg .tt, .reg .mf, .reg .ic, .reg .log, .reg .mbx, .parts, .migs, .dpe, .pool,
    .tt, .mf, .bcq, .trc, .log]
  | .ttFrameStart _ => [.tt]
  | .ssplitNonperiodic _ _ _ _ _ _ _ => [.reg .tt, .mem, .parts, .pool]
  | .csplitNonperiodic _ _ _ _ _ _ => [.reg .tt, .parts, .pool]
  | .ssplitPeriodic _ _ _ _ _ _ _ _ _ _ => [.reg .tt, .reg .ic, .mem, .parts, .pool]
  | .csplitPeriodic _ _ _ _ _ _ _ _ => [.reg .tt, .mem, .parts, .pool]
  | .badSplit _ _ => [.reg .tt, .parts]
  | .ttTransactionStart _ _ _ _ _ => [.reg .tt, .pool]
  | .ttTransactionEnd _ _ _ _ => [.reg .tt, .mem, .pool, .tt]
  | .periodicContextRelease _ _ _ _ _ => [.reg .tt, .pool]
  | .periodicAbandon _ _ _ _ _ => [.reg .tt, .pool]
  | .poolUncorrectable _ => [.reg .tt, .reg .ic, .pool, .tt, .fc]
  | .port33ConnectApply _ _ => [.reg .mf, .reg .ic, .parts, .mf, .trc]
  | .port33ResetEnd _ => [.reg .mf, .parts, .trc]
  | .port33ResumeEnd _ => [.reg .mf, .parts, .mf]
  | .port33RemoteWake _ _ => [.reg .mf, .parts, .mf]
  | .mfEp0Setup _ _ _ _ _ _ _ => [.reg .mf, .reg .ic, .parts, .mf, .trc]
  | .getDescriptorReady _ _ => [.mem, .parts, .mf]
  | .controlAbandon _ => [.reg .mf, .mf]
  | .ep1OutPacket _ _ _ _ => [.reg .mf, .reg .ic, .mem, .parts, .mf]
  | .ep1Ping _ => [.reg .mf, .reg .ic, .parts, .mf]
  | .ep1FrameComplete _ => [.reg .mf, .reg .ic, .mf]
  | .ep2ResponseSent _ => [.reg .mf, .reg .ic, .mem, .parts, .mf]
  | .ep3NoticePacket _ _ _ => [.reg .mf, .mem, .parts, .mf]
  | .noticeRaised _ _ => [.reg .mf, .reg .mbx, .mf, .bcq]
  | .ep4TransferAck _ _ _ _ => [.reg .trc, .reg .bbc, .mem, .parts, .mf, .trc]
  | .ccSample _ _ _ _ _ _ _ =>
    [.reg .dpe, .reg .dsw, .reg .mf, .reg .tcpd, .reg .pwr, .reg .adc, .reg .gov, .reg .ic, .reg .log, .reg .mbx, .mf,
    .cc, .pd, .pwr, .gov, .bcq, .log, .free]
  | .tccdebounceExpiry _ =>
    [.reg .part, .reg .dpe, .reg .dsw, .reg .tt, .reg .mf, .reg .tcpd, .reg .pwr, .reg .gov, .reg .ic, .reg .log,
    .reg .mbx, .parts, .migs, .dpe, .pool, .tt, .mf, .cc, .pd, .pwr, .gov, .bcq, .trc, .log]
  | .tpddebounceExpiry _ =>
    [.reg .part, .reg .dpe, .reg .dsw, .reg .tt, .reg .mf, .reg .tcpd, .reg .pwr, .reg .gov, .reg .ic, .reg .log,
    .reg .mbx, .parts, .migs, .dpe, .pool, .tt, .mf, .cc, .pd, .pwr, .gov, .bcq, .trc, .log]
  | .drpToggle _ => [.reg .tcpd, .reg .pwr, .reg .gov, .reg .ic, .gov]
  | .sinkVbusLoss _ _ =>
    [.reg .part, .reg .dpe, .reg .dsw, .reg .tt, .reg .mf, .reg .tcpd, .reg .pwr, .reg .adc, .reg .gov, .reg .ic,
    .reg .log, .reg .mbx, .parts, .migs, .dpe, .pool, .tt, .mf, .cc, .pd, .pwr, .gov, .bcq, .trc, .log]
  | .errorRecoveryEnd _ =>
    [.reg .dpe, .reg .dsw, .reg .mf, .reg .tcpd, .reg .pwr, .reg .gov, .reg .ic, .reg .log, .reg .mbx, .mf, .cc, .pd,
    .pwr, .gov, .bcq, .log]
  | .disabledCauseArises _ _ =>
    [.reg .dpe, .reg .dsw, .reg .mf, .reg .tcpd, .reg .pwr, .reg .gov, .reg .ic, .reg .log, .reg .mbx, .mf, .cc, .pd,
    .pwr, .gov, .bcq, .log]
  | .disabledExit _ =>
    [.reg .dpe, .reg .dsw, .reg .mf, .reg .tcpd, .reg .pwr, .reg .gov, .reg .ic, .reg .log, .reg .mbx, .mf, .cc, .pd,
    .pwr, .gov, .bcq, .log]
  | .rpReevaluate _ => [.reg .tcpd, .reg .pwr, .reg .gov, .reg .ic, .gov]
  | .ccOvTrip _ =>
    [.reg .dpe, .reg .dsw, .reg .mf, .reg .tcpd, .reg .pwr, .reg .gov, .reg .ic, .reg .log, .reg .mbx, .mf, .cc, .pd,
    .pwr, .gov, .bcq, .fc, .log]
  | .ccOvRelease _ =>
    [.reg .dpe, .reg .dsw, .reg .mf, .reg .tcpd, .reg .pwr, .reg .gov, .reg .ic, .reg .log, .reg .mbx, .mf, .cc, .pd,
    .pwr, .gov, .bcq, .log]
  | .vconnTrip _ =>
    [.reg .dpe, .reg .dsw, .reg .mf, .reg .tcpd, .reg .pwr, .reg .gov, .reg .ic, .reg .log, .reg .mbx, .mf, .cc, .pd,
    .pwr, .gov, .bcq, .tat, .fc, .log]
  | .vconnApply _ => [.reg .tcpd, .pd, .tat]
  | .vcrearmWrite _ => [.reg .tcpd]
  | .discoveryAttempt _ _ => [.reg .tcpd, .cc, .pd, .tat]
  | .discgoWrite _ => [.reg .tcpd, .cc]
  | .discoverIdentityAck _ _ _ _ => [.reg .tcpd, .reg .pwr, .reg .ic, .cc, .pd, .tat]
  | .pdTransmit _ _ =>
    [.reg .dpe, .reg .dsw, .reg .mf, .reg .tcpd, .reg .pwr, .reg .gov, .reg .tat, .reg .ic, .reg .log, .reg .mbx, .power,
    .parts, .mf, .cc, .pd, .pwr, .gov, .bcq, .tat, .fc, .log, .free]
  | .goodcrcTimeout _ _ =>
    [.reg .dpe, .reg .dsw, .reg .mf, .reg .tcpd, .reg .pwr, .reg .gov, .reg .tat, .reg .ic, .reg .log, .reg .mbx, .power,
    .parts, .mf, .cc, .pd, .pwr, .gov, .bcq, .tat, .fc, .log]
  | .pdMessageReceived _ _ _ _ _ _ =>
    [.reg .dpe, .reg .dsw, .reg .mf, .reg .tcpd, .reg .pwr, .reg .gov, .reg .tat, .reg .ic, .reg .log, .reg .mbx, .power,
    .parts, .mf, .cc, .pd, .pwr, .gov, .bcq, .tat, .fc, .log]
  | .rxRelease _ => [.reg .tcpd, .free]
  | .sourceCapabilitiesSend _ _ => [.reg .tcpd, .pd, .tat]
  | .sourceCapRepeat _ _ => [.reg .tcpd, .pd, .tat]
  | .senderResponseTimeout _ =>
    [.reg .dpe, .reg .dsw, .reg .mf, .reg .tcpd, .reg .pwr, .reg .gov, .reg .ic, .reg .log, .reg .mbx, .mf, .cc, .pd,
    .pwr, .gov, .bcq, .tat, .log, .free]
  | .request _ _ _ _ _ _ _ => [.reg .tcpd, .reg .pwr, .reg .gov, .reg .tat, .reg .ic, .power, .parts, .pd, .pwr, .gov, .tat]
  | .budgetFreedOffer _ => [.reg .tcpd, .pd, .tat]
  | .transitionPsRdy _ => [.reg .mf, .reg .tcpd, .reg .pwr, .reg .gov, .reg .ic, .reg .mbx, .mf, .pd, .gov, .bcq, .tat]
  | .ppsTimeout _ =>
    [.reg .dpe, .reg .dsw, .reg .mf, .reg .tcpd, .reg .pwr, .reg .gov, .reg .ic, .reg .log, .reg .mbx, .mf, .cc, .pd,
    .pwr, .gov, .bcq, .log]
  | .eprModeEnter _ => [.reg .tcpd, .reg .ic, .cc, .pd, .tat]
  | .eprEntryCheck _ => [.reg .tcpd, .pd, .tat]
  | .eprKeepalive _ => [.reg .tcpd, .reg .ic, .pd]
  | .eprKeepaliveTimeout _ =>
    [.reg .dpe, .reg .dsw, .reg .mf, .reg .tcpd, .reg .pwr, .reg .gov, .reg .ic, .reg .log, .reg .mbx, .mf, .cc, .pd,
    .pwr, .gov, .bcq, .log]
  | .eprModeExit _ _ =>
    [.reg .dpe, .reg .dsw, .reg .mf, .reg .tcpd, .reg .pwr, .reg .gov, .reg .ic, .reg .log, .reg .mbx, .mf, .cc, .pd,
    .pwr, .gov, .bcq, .tat, .log]
  | .prSwapReceived _ _ _ =>
    [.reg .dpe, .reg .dsw, .reg .mf, .reg .tcpd, .reg .pwr, .reg .gov, .reg .ic, .reg .log, .reg .mbx, .parts, .mf, .cc,
    .pd, .pwr, .gov, .bcq, .tat, .log]
  | .swapSourceOff _ => [.reg .mf, .reg .tcpd, .reg .pwr, .reg .gov, .reg .ic, .reg .mbx, .mf, .pd, .pwr, .gov, .bcq]
  | .swapVsafe0 _ => [.reg .tcpd, .reg .pwr, .reg .gov, .reg .ic, .pd, .pwr, .gov]
  | .swapPartnerPsRdy _ => [.reg .tcpd, .reg .gov, .reg .ic, .cc, .pd, .pwr, .gov, .tat]
  | .swapTimeout _ =>
    [.reg .dpe, .reg .dsw, .reg .mf, .reg .tcpd, .reg .pwr, .reg .gov, .reg .ic, .reg .log, .reg .mbx, .mf, .cc, .pd,
    .pwr, .gov, .bcq, .log]
  | .sinkToSourceVsafe5 _ =>
    [.reg .dpe, .reg .dsw, .reg .mf, .reg .tcpd, .reg .pwr, .reg .gov, .reg .ic, .reg .log, .reg .mbx, .mf, .cc, .pd,
    .pwr, .gov, .bcq, .log]
  | .vconnSwapReceived _ _ _ =>
    [.reg .dpe, .reg .dsw, .reg .mf, .reg .tcpd, .reg .pwr, .reg .gov, .reg .ic, .reg .log, .reg .mbx, .parts, .mf, .cc,
    .pd, .pwr, .gov, .bcq, .tat, .fc, .log]
  | .drSwapReceived _ _ => [.reg .tcpd, .reg .ic, .parts, .pd]
  | .hardReset _ _ =>
    [.reg .dpe, .reg .dsw, .reg .mf, .reg .tcpd, .reg .pwr, .reg .gov, .reg .ic, .reg .log, .reg .mbx, .mf, .cc, .pd,
    .pwr, .gov, .bcq, .log]
  | .hardResetVbusOff _ => [.reg .tcpd, .reg .pwr, .reg .gov, .reg .ic, .pd, .pwr, .gov]
  | .hardResetRecover _ =>
    [.reg .dpe, .reg .dsw, .reg .mf, .reg .tcpd, .reg .pwr, .reg .gov, .reg .ic, .reg .log, .reg .mbx, .mf, .cc, .pd,
    .pwr, .gov, .bcq, .log]
  | .noResponseTimeout _ =>
    [.reg .dpe, .reg .dsw, .reg .mf, .reg .tcpd, .reg .pwr, .reg .gov, .reg .ic, .reg .log, .reg .mbx, .mf, .cc, .pd,
    .pwr, .gov, .bcq, .log]
  | .holdResponderStart _ =>
    [.reg .dpe, .reg .dsw, .reg .mf, .reg .tcpd, .reg .pwr, .reg .gov, .reg .ic, .reg .log, .reg .mbx, .parts, .mf, .cc,
    .pd, .pwr, .gov, .bcq, .log]
  | .policyEngineStart _ => [.reg .tcpd, .reg .log, .pd, .log]
  | .feed48Change _ => [.reg .mf, .reg .tcpd, .reg .gov, .reg .ic, .reg .log, .reg .mbx, .mf, .pd, .bcq, .tat, .log]
  | .vbusRequest _ => [.reg .pwr, .reg .ic, .pwr, .gov, .tat]
  | .softstartDone _ => [.reg .pwr, .reg .ic, .pwr, .gov, .tat]
  | .gateFullyOn _ => [.reg .tcpd, .reg .pwr, .reg .ic, .pwr]
  | .tqualComplete _ => [.reg .pwr, .reg .ic, .pwr]
  | .limitEngage _ _ => [.reg .pwr, .reg .ic, .pwr]
  | .faultTimerExpiry _ =>
    [.reg .dpe, .reg .dsw, .reg .mf, .reg .tcpd, .reg .pwr, .reg .gov, .reg .ic, .reg .log, .reg .mbx, .mf, .cc, .pd,
    .pwr, .gov, .bcq, .fc, .log]
  | .fastTrip _ _ =>
    [.reg .dpe, .reg .dsw, .reg .mf, .reg .tcpd, .reg .pwr, .reg .gov, .reg .ic, .reg .log, .reg .mbx, .mf, .cc, .pd,
    .pwr, .gov, .bcq, .fc, .log]
  | .overloadExhausted _ => [.reg .pwr, .reg .adc, .reg .ic, .pwr]
  | .vbusOvervoltage _ _ =>
    [.reg .dpe, .reg .dsw, .reg .mf, .reg .tcpd, .reg .pwr, .reg .gov, .reg .ic, .reg .log, .reg .mbx, .mf, .cc, .pd,
    .pwr, .gov, .bcq, .fc, .log]
  | .reverseCurrent _ _ =>
    [.reg .dpe, .reg .dsw, .reg .mf, .reg .tcpd, .reg .pwr, .reg .gov, .reg .ic, .reg .log, .reg .mbx, .mf, .cc, .pd,
    .pwr, .gov, .bcq, .fc, .log]
  | .buckPeakFault _ =>
    [.reg .dpe, .reg .dsw, .reg .mf, .reg .tcpd, .reg .pwr, .reg .gov, .reg .ic, .reg .log, .reg .mbx, .mf, .cc, .pd,
    .pwr, .gov, .bcq, .fc, .log]
  | .vsetChange _ => [.reg .pwr, .reg .ic, .pwr]
  | .transitionComplete _ => [.reg .pwr, .reg .ic, .pwr]
  | .transitionTimeout _ =>
    [.reg .dpe, .reg .dsw, .reg .mf, .reg .tcpd, .reg .pwr, .reg .gov, .reg .ic, .reg .log, .reg .mbx, .mf, .cc, .pd,
    .pwr, .gov, .bcq, .fc, .log]
  | .ppsUndervoltage _ =>
    [.reg .dpe, .reg .dsw, .reg .mf, .reg .tcpd, .reg .pwr, .reg .gov, .reg .ic, .reg .log, .reg .mbx, .mf, .cc, .pd,
    .pwr, .gov, .bcq, .fc, .log]
  | .fetThermalTrip _ =>
    [.reg .dpe, .reg .dsw, .reg .mf, .reg .tcpd, .reg .pwr, .reg .adc, .reg .gov, .reg .ic, .reg .log, .reg .mbx, .mf,
    .cc, .pd, .pwr, .gov, .bcq, .fc, .log]
  | .ntcFault _ _ =>
    [.reg .dpe, .reg .dsw, .reg .mf, .reg .tcpd, .reg .pwr, .reg .gov, .reg .ic, .reg .log, .reg .mbx, .mf, .cc, .pd,
    .pwr, .gov, .ent, .bcq, .fc, .log]
  | .thermalModelUpdate _ _ =>
    [.reg .die, .reg .part, .reg .tcpd, .reg .pwr, .reg .adc, .reg .ent, .reg .gov, .reg .ic, .reg .log, .parts, .cc,
    .pwr, .govHw, .ent, .log, .free]
  | .retryStart _ => [.reg .pwr, .reg .ic, .pwr, .gov, .tat]
  | .retryReload _ => [.reg .pwr]
  | .dischargeDone _ =>
    [.reg .dpe, .reg .dsw, .reg .mf, .reg .tcpd, .reg .pwr, .reg .adc, .reg .gov, .reg .ic, .reg .log, .reg .mbx, .mf,
    .cc, .pd, .pwr, .gov, .bcq, .log]
  | .dischargeTimeout _ => [.reg .pwr, .reg .ic, .pwr, .fc]
  | .clrlatch _ =>
    [.reg .dpe, .reg .dsw, .reg .mf, .reg .tcpd, .reg .pwr, .reg .gov, .reg .ic, .reg .log, .reg .mbx, .mf, .cc, .pd,
    .pwr, .gov, .bcq, .log]
  | .voffWrite _ _ => [.reg .mf, .reg .tcpd, .reg .pwr, .reg .gov, .reg .ic, .reg .mbx, .mf, .pd, .pwr, .gov, .bcq]
  | .sinkEntry _ => [.reg .tcpd, .reg .pwr, .reg .ic, .pwr]
  | .sinkFault _ _ =>
    [.reg .dpe, .reg .dsw, .reg .mf, .reg .tcpd, .reg .pwr, .reg .gov, .reg .ic, .reg .log, .reg .mbx, .mf, .cc, .pd,
    .pwr, .gov, .bcq, .fc, .log]
  | .vbrdUvOv _ _ _ => [.reg .pwr, .reg .adc, .reg .ic, .reg .log, .fc, .log]
  | .fswStep _ => [.reg .pwr]
  | .feedReverseOff _ => [.reg .mf, .reg .ent, .reg .gov, .reg .ic, .reg .log, .reg .mbx, .mf, .bcq, .log]
  | .feedPresenceChange _ _ _ _ =>
    [.reg .part, .reg .mf, .reg .pwr, .reg .ent, .reg .gov, .reg .ic, .reg .log, .reg .mbx, .parts, .mf, .ent, .bcq, .log]
  | .seatQualified _ => [.reg .part, .reg .pwr, .reg .ent, .reg .gov, .reg .ic, .reg .log, .parts, .ent, .log]
  | .seatLoss _ _ => [.reg .part, .reg .pwr, .reg .ent, .reg .gov, .reg .ic, .reg .log, .parts, .ent, .log]
  | .hsGateOn => [.reg .part, .reg .pwr, .reg .ent, .reg .gov, .reg .ic, .reg .log, .parts, .ent, .log]
  | .hsQualDone => [.reg .part, .reg .pwr, .reg .ent, .reg .gov, .reg .ic, .reg .log, .parts, .ent, .log]
  | .hsLimitEngage _ => [.reg .part, .reg .pwr, .reg .ent, .reg .gov, .reg .ic, .reg .log, .parts, .ent, .log]
  | .hsFault _ _ => [.reg .part, .reg .pwr, .reg .ent, .reg .gov, .reg .ic, .reg .log, .parts, .ent, .fc, .log]
  | .hsRetry => [.reg .part, .reg .pwr, .reg .ent, .reg .gov, .reg .ic, .reg .log, .parts, .ent, .log]
  | .hsUndervoltage _ => [.reg .part, .reg .pwr, .reg .ent, .reg .gov, .reg .ic, .reg .log, .parts, .ent, .log]
  | .hsUvRecover _ => [.reg .part, .reg .pwr, .reg .ent, .reg .gov, .reg .ic, .reg .log, .parts, .ent, .log]
  | .surge _ => [.reg .part, .reg .pwr, .reg .ent, .reg .gov, .reg .ic, .reg .log, .parts, .ent, .log]
  | .surgeEnd _ _ => [.reg .part, .reg .pwr, .reg .ent, .reg .gov, .reg .ic, .reg .log, .parts, .ent, .log]
  | .hsClrlatch => [.reg .part, .reg .pwr, .reg .ent, .reg .gov, .reg .ic, .reg .log, .parts, .ent, .log]
  | .hsRetryReload => [.reg .ent]
  | .entHctlWrite _ _ _ =>
    [.reg .part, .reg .mf, .reg .pwr, .reg .ent, .reg .gov, .reg .ic, .reg .log, .reg .mbx, .parts, .mf, .ent, .bcq, .log]
  | .pgBrdFall => [.reg .mf, .reg .tcpd, .reg .pwr, .reg .gov, .reg .ic, .reg .mbx, .mf, .pd, .pwr, .gov, .ent, .bcq]
  | .brdoffPortRelease => [.reg .pwr, .reg .gov]
  | .sagStart _ => [.reg .mf, .reg .pwr, .reg .ent, .reg .gov, .reg .ic, .reg .mbx, .mf, .gov, .govHw, .ent, .bcq]
  | .sagRenegotiate => [.reg .tcpd, .reg .gov, .reg .ic, .pd, .gov, .tat]
  | .sagEnd _ _ => [.reg .tcpd, .reg .pwr, .reg .gov, .reg .ic, .reg .log, .gov, .govHw, .log]
  | .pbrdAverage _ => [.reg .gov, .reg .ic, .govHw]
  | .shedVictim =>
    [.reg .mf, .reg .tcpd, .reg .pwr, .reg .gov, .reg .ic, .reg .log, .reg .mbx, .mf, .pd, .gov, .bcq, .tat, .log]
  | .shedRelease => [.reg .tcpd, .reg .pwr, .reg .gov, .reg .ic, .reg .log, .gov, .log]
  | .reservationRelease _ => [.reg .tcpd, .reg .gov, .reg .tat, .reg .ic, .gov, .tat]
  | .chordSignalDetect _ => [.reg .pmu, .reg .chord, .reg .ic]
  | .chordTrained _ => [.reg .pmu, .reg .chord, .reg .ic, .chord]
  | .chordIdent _ _ _ _ _ _ _ _ _ => [.reg .pmu, .reg .chord, .reg .ic, .chord, .links]
  | .chordIdentRetry _ => [.reg .pmu, .reg .chord, .reg .ic]
  | .chordMeasureDone _ => [.reg .pmu, .reg .chord, .reg .ic, .chord, .links, .fc]
  | .chordLinkFail _ _ => [.reg .pmu, .reg .chord, .reg .ic, .chord, .links, .fc]
  | .marker _ _ _ _ _ _ => Zone.allBut [.nvmCfg, .fwCopy, .snaps, .profiles, .govHw, .tatOrder, .tatOps]
  | .delayExchange _ _ _ _ _ => [.reg .chord, .chord, .links]
  | .ctCorrection => [.reg .chord, .reg .ic, .reg .log, .ct, .power, .chord, .links, .trc, .log]
  | .chordLock => [.reg .rtc, .reg .mf, .reg .chord, .reg .ic, .reg .log, .reg .mbx, .power, .mf, .bcq, .chord, .trc, .log]
  | .apexLock => [.reg .mf, .reg .chord, .reg .ic, .reg .log, .reg .mbx, .mf, .bcq, .trc, .log]
  | .holdoverStart => [.reg .pmu, .reg .chord, .chord]
  | .holdmaxExpiry => [.reg .mf, .reg .chord, .reg .ic, .reg .log, .reg .mbx, .mf, .bcq, .chord, .trc, .fc, .log]
  | .failover => [.reg .pmu, .reg .mf, .reg .chord, .reg .ic, .reg .log, .reg .mbx, .mf, .bcq, .chord, .log]
  | .revert => [.reg .pmu, .reg .mf, .reg .chord, .reg .ic, .reg .log, .reg .mbx, .mf, .bcq, .chord, .log]
  | .adoptFrame _ _ _ _ => [.reg .chord, .reg .log, .chord, .log]
  | .releaseFrame _ _ _ => [.reg .chord, .chord]
  | .rangeChange _ _ => [.reg .chord, .chord]
  | .chordCmdFrame _ _ _ _ _ _ => [.reg .tcpd, .reg .chord, .reg .ic, .reg .mbx, .reg .tgt, .pd, .chord, .mbx]
  | .chordAcceptTimeout _ => [.reg .mf, .reg .tcpd, .reg .ic, .reg .mbx, .reg .tgt, .mem, .mf, .pd, .chord, .mbx]
  | .chordCmdTimeout _ => [.reg .mf, .reg .tcpd, .reg .ic, .reg .mbx, .reg .tgt, .mem, .mf, .pd, .chord, .mbx]
  | .chordResponse _ _ _ =>
    [.reg .mf, .reg .tcpd, .reg .chord, .reg .ic, .reg .mbx, .reg .tgt, .mem, .mf, .pd, .chord, .mbx]
  | .broadcastMerge _ => [.reg .mf, .reg .tcpd, .reg .ic, .reg .mbx, .reg .tgt, .mem, .mf, .pd, .chord, .mbx]
  | .ctPpsEdge => [.ct, .power, .chord]
  | .tatAdd => [.reg .tcpd, .reg .gov, .reg .tat, .reg .ic, .tat, .tatOrder, .tatOps]
  | .tatCancel => [.reg .tcpd, .reg .gov, .reg .tat, .reg .ic, .reg .log, .tat, .log, .tatOps]
  | .tatQueueLoad => [.tat]
  | .tatLaunch =>
    [.reg .part, .reg .dpe, .reg .dsw, .reg .tt, .reg .mf, .reg .tcpd, .reg .pwr, .reg .gov, .reg .tat, .reg .trc,
    .reg .ic, .reg .log, .reg .mbx, .mem, .staged, .ct, .power, .migs, .dpe, .pool, .tt, .mf, .cc, .pd, .pwr, .gov, .bcq,
    .tat, .trc, .log]
  | .tatLateLaunch =>
    [.reg .part, .reg .dpe, .reg .dsw, .reg .tt, .reg .mf, .reg .tcpd, .reg .pwr, .reg .gov, .reg .tat, .reg .trc,
    .reg .ic, .reg .log, .reg .mbx, .mem, .staged, .ct, .power, .migs, .dpe, .pool, .tt, .mf, .cc, .pd, .pwr, .gov, .bcq,
    .tat, .trc, .log]
  | .maskWindowEnd _ _ => [.tat]
  | .entryFree _ => [.reg .tcpd, .reg .gov, .reg .tat, .reg .ic, .tat]
  | .packetCapture _ => [.reg .mf, .reg .trc, .reg .ic, .reg .mbx, .mem, .mf, .bcq, .trc]
  | .dropRecordWrite => [.reg .mf, .reg .trc, .reg .ic, .reg .mbx, .mem, .mf, .bcq, .trc]
  | .traceTrigger _ _ _ => [.reg .mf, .reg .trc, .reg .ic, .reg .log, .reg .mbx, .mem, .mf, .bcq, .trc, .log]
  | .postTriggerDone => [.reg .mf, .reg .trc, .reg .ic, .reg .mbx, .mem, .mf, .bcq, .trc]
  | .traceMemoryFull _ => [.reg .mf, .reg .trc, .reg .ic, .reg .mbx, .mem, .mf, .bcq, .trc]
  | .trcStart => [.reg .mf, .reg .trc, .reg .ic, .reg .log, .reg .mbx, .mem, .mf, .bcq, .trc, .log]
  | .trcStop => [.reg .mf, .reg .trc, .reg .ic, .reg .mbx, .mem, .mf, .bcq, .trc]
  | .trcTrig => [.reg .mf, .reg .trc, .reg .ic, .reg .log, .reg .mbx, .mem, .mf, .bcq, .trc, .log]
  | .trcClear => [.reg .trc, .trc]
  | .trcMarkWrite _ => [.reg .mf, .reg .trc, .reg .ic, .reg .log, .reg .mbx, .mem, .mf, .bcq, .trc, .log]
  | .scrubTick _ _ _ _ => [.reg .bbc]
  | .traceUncorrectable _ _ _ => [.reg .trc, .reg .bbc, .reg .ic, .trc, .fc]
  | .faultEvent => Zone.all
  | .faultWindowClose _ => [.fc]
  | .wireFault _ => Zone.all
  | .fcClr _ _ => Zone.all
  | .fcInjEvent _ _ => Zone.all
  | .fcInjWire _ => Zone.all
  | .fcScfgWrite _ _ _ _ => [.fc]
  | .fcSelftestGo => [.reg .fc]
  | .fcSelftestEnd _ => [.reg .fc, .fc]
  | .logRecordWrite => [.reg .ic, .reg .log, .mem, .log]
  | .logSubmit => [.reg .log, .log]
  | .interruptEdge _ _ => [.reg .ic, .power]
  | .interruptEntry _ _ _ =>
    [.reg .dpe, .reg .dsw, .reg .mf, .reg .tcpd, .reg .pwr, .reg .gov, .reg .ic, .reg .log, .reg .mbx, .parts, .mf, .cc,
    .pd, .pwr, .gov, .bcq, .cores, .fc, .log]
  | .icComplete _ _ => [.reg .pwr, .reg .ic, .cores, .fc]
  | .moderationExpiry _ _ => [.reg .ic, .hw]
  | .icTimerWrite _ _ => [.reg .ic]
  | .icTimerZero _ => [.reg .ic]
  | .icKick _ => [.reg .ic, .cores]
  | .watchdogHalf _ => [.reg .ic]
  | .watchdogExpiry _ => Zone.all
  | .trapStackOverflow _ =>
    [.reg .dpe, .reg .dsw, .reg .mf, .reg .tcpd, .reg .pwr, .reg .gov, .reg .ic, .reg .log, .reg .mbx, .parts, .mf, .cc,
    .pd, .pwr, .gov, .bcq, .cores, .fc, .log]
  | .tcmUncorrectable _ _ _ _ _ =>
    [.reg .dpe, .reg .dsw, .reg .mf, .reg .tcpd, .reg .pwr, .reg .gov, .reg .ic, .reg .log, .reg .mbx, .parts, .mf, .cc,
    .pd, .pwr, .gov, .bcq, .cores, .fc, .log]
  | .corectlResetWrite _ _ =>
    [.reg .mpu, .reg .dpe, .reg .dsw, .reg .mf, .reg .tcpd, .reg .pwr, .reg .gov, .reg .ic, .reg .log, .reg .mbx, .mem,
    .frozen, .parts, .mf, .cc, .pd, .pwr, .gov, .bcq, .mbx, .cores, .log]
  | .serviceCoreReset _ _ =>
    [.reg .mpu, .reg .dpe, .reg .dsw, .reg .mf, .reg .tcpd, .reg .pwr, .reg .gov, .reg .ic, .reg .log, .reg .mbx, .mem,
    .frozen, .parts, .mf, .cc, .pd, .pwr, .gov, .bcq, .mbx, .cores, .log]
  | .policyImageLoad _ =>
    Zone.allBut [.staged, .ct, .nvmCfg, .fwCopy, .snaps, .frozen, .profiles, .govHw, .ent, .chord, .links, .tat,
    .tatOrder, .mbx, .hw, .fc, .free, .tatOps]
  | .loaderGo _ =>
    Zone.allBut [.staged, .ct, .nvmCfg, .fwCopy, .snaps, .frozen, .profiles, .govHw, .ent, .chord, .links, .tat,
    .tatOrder, .mbx, .hw, .fc, .free, .tatOps]
  | .loaderHalt _ =>
    Zone.allBut [.staged, .ct, .nvmCfg, .fwCopy, .snaps, .frozen, .profiles, .govHw, .ent, .chord, .links, .tat,
    .tatOrder, .mbx, .hw, .fc, .free, .tatOps]
  | .dmaGo _ => [.reg .sys, .hw]
  | .dmaStop _ _ => Zone.all
  | .dmaEnd _ => Zone.all
  | .qspiHashStart => [.reg .ic, .reg .qspi, .hw]
  | .qspiHashEnd _ => [.reg .ic, .reg .qspi]
  | .qspiEraseSector => [.reg .ic, .reg .qspi, .hw, .free]
  | .qspiEraseBlock => [.reg .ic, .reg .qspi, .hw, .free]
  | .qspiProgram => [.reg .ic, .reg .qspi, .hw, .free]
  | .qspiOpEnd _ => [.reg .ic, .reg .qspi, .mem, .free]
  | .nvmErase => [.reg .ic, .reg .cal, .hw]
  | .nvmProgram => [.reg .ic, .reg .cal, .hw]
  | .nvmOpEnd _ => [.reg .ic, .reg .cal, .mem, .hw, .free]
  | .calCommitEnd _ => [.reg .pwr, .reg .ic, .reg .cal, .mem, .hw, .fc, .free]
  | .spiWrite _ => [.reg .ic, .reg .mbx, .reg .tgt, .mbx]
  | .spiStatus => [.reg .tgt, .mbx]
  | .spiRead _ => [.reg .ic, .reg .mbx, .reg .tgt, .mbx]
  | .spiBadOpcode _ => [.reg .tgt, .mbx]
  | .i2cWrite _ => [.reg .ic, .reg .mbx, .reg .tgt, .mbx]
  | .i2cStatus => [.reg .tgt, .mbx]
  | .i2cRead _ => [.reg .ic, .reg .mbx, .reg .tgt, .mbx]
  | .localMailboxGo _ => [.reg .ic, .reg .mbx, .reg .tgt, .mbx]
  | .localMailboxAck _ => [.reg .mbx, .reg .tgt]
  | .commandStart _ => [.reg .mf, .reg .tcpd, .reg .chord, .reg .ic, .reg .mbx, .reg .tgt, .mem, .mf, .pd, .chord, .mbx]
  | .portLockRelease _ => [.reg .mf, .reg .tcpd, .reg .chord, .reg .ic, .reg .mbx, .reg .tgt, .mem, .mf, .pd, .chord, .mbx]
  | .sysInfo _ =>
    [.reg .part, .reg .dpe, .reg .dsw, .reg .tt, .reg .mf, .reg .tcpd, .reg .pwr, .reg .gov, .reg .tat, .reg .ic,
    .reg .log, .reg .mbx, .reg .tgt, .mem, .staged, .migs, .dpe, .pool, .tt, .mf, .cc, .pd, .pwr, .gov, .bcq, .chord,
    .tat, .trc, .mbx, .log]
  | .sysReset _ =>
    [.reg .part, .reg .dpe, .reg .dsw, .reg .tt, .reg .mf, .reg .tcpd, .reg .pwr, .reg .gov, .reg .tat, .reg .ic,
    .reg .log, .reg .mbx, .reg .tgt, .mem, .staged, .power, .migs, .dpe, .pool, .tt, .mf, .cc, .pd, .pwr, .gov, .bcq,
    .chord, .tat, .trc, .mbx, .log]
  | .sysDormant _ =>
    [.reg .pmu, .reg .rtc, .reg .part, .reg .dpe, .reg .dsw, .reg .tt, .reg .mf, .reg .tcpd, .reg .pwr, .reg .gov,
    .reg .tat, .reg .trc, .reg .ic, .reg .log, .reg .mbx, .reg .tgt, .mem, .staged, .power, .parts, .migs, .dpe, .pool,
    .tt, .mf, .cc, .pd, .pwr, .gov, .bcq, .chord, .tat, .trc, .mbx, .log]
  | .sysDomain _ =>
    [.reg .pmu, .reg .part, .reg .dpe, .reg .dsw, .reg .tt, .reg .mf, .reg .tcpd, .reg .pwr, .reg .gov, .reg .tat,
    .reg .trc, .reg .ic, .reg .log, .reg .mbx, .reg .tgt, .mem, .staged, .parts, .migs, .dpe, .pool, .tt, .mf, .cc, .pd,
    .pwr, .gov, .bcq, .chord, .tat, .trc, .mbx, .log]
  | .sysPart _ => Zone.allBut [.ct, .nvmCfg, .fwCopy, .snaps, .profiles, .govHw, .tatOrder, .tatOps]
  | .sysNotices _ =>
    [.reg .part, .reg .dpe, .reg .dsw, .reg .tt, .reg .mf, .reg .tcpd, .reg .pwr, .reg .gov, .reg .tat, .reg .ic,
    .reg .log, .reg .mbx, .reg .tgt, .mem, .staged, .migs, .dpe, .pool, .tt, .mf, .cc, .pd, .pwr, .gov, .bcq, .chord,
    .tat, .trc, .mbx, .log]
  | .sysThaw _ =>
    [.reg .mpu, .reg .part, .reg .dpe, .reg .dsw, .reg .tt, .reg .mf, .reg .tcpd, .reg .pwr, .reg .gov, .reg .tat,
    .reg .ic, .reg .sys, .reg .log, .reg .mbx, .reg .tgt, .mem, .staged, .frozen, .migs, .dpe, .pool, .tt, .mf, .cc, .pd,
    .pwr, .gov, .bcq, .chord, .tat, .trc, .mbx, .hw, .fc, .log]
  | .sysFwBegin _ _ =>
    [.reg .part, .reg .dpe, .reg .dsw, .reg .tt, .reg .mf, .reg .tcpd, .reg .pwr, .reg .gov, .reg .tat, .reg .ic,
    .reg .log, .reg .mbx, .reg .tgt, .mem, .staged, .migs, .dpe, .pool, .tt, .mf, .cc, .pd, .pwr, .gov, .bcq, .chord,
    .tat, .trc, .mbx, .hw, .log]
  | .sysFwData _ _ =>
    [.reg .part, .reg .dpe, .reg .dsw, .reg .tt, .reg .mf, .reg .tcpd, .reg .pwr, .reg .gov, .reg .tat, .reg .ic,
    .reg .log, .reg .mbx, .reg .tgt, .mem, .staged, .migs, .dpe, .pool, .tt, .mf, .cc, .pd, .pwr, .gov, .bcq, .chord,
    .tat, .trc, .mbx, .hw, .log, .free]
  | .sysFwEnd _ _ =>
    [.reg .part, .reg .dpe, .reg .dsw, .reg .tt, .reg .mf, .reg .tcpd, .reg .pwr, .reg .gov, .reg .tat, .reg .ic,
    .reg .log, .reg .mbx, .reg .tgt, .mem, .staged, .power, .migs, .dpe, .pool, .tt, .mf, .cc, .pd, .pwr, .gov, .bcq,
    .chord, .tat, .trc, .mbx, .hw, .log]
  | .sysFwStatus _ =>
    [.reg .part, .reg .dpe, .reg .dsw, .reg .tt, .reg .mf, .reg .tcpd, .reg .pwr, .reg .gov, .reg .tat, .reg .ic,
    .reg .log, .reg .mbx, .reg .tgt, .mem, .staged, .migs, .dpe, .pool, .tt, .mf, .cc, .pd, .pwr, .gov, .bcq, .chord,
    .tat, .trc, .mbx, .log]
  | .sysCfgSave _ _ =>
    [.reg .part, .reg .dpe, .reg .dsw, .reg .tt, .reg .mf, .reg .tcpd, .reg .pwr, .reg .gov, .reg .tat, .reg .ic,
    .reg .log, .reg .mbx, .reg .tgt, .mem, .staged, .nvmCfg, .migs, .dpe, .pool, .tt, .mf, .cc, .pd, .pwr, .gov, .bcq,
    .chord, .tat, .trc, .mbx, .hw, .log]
  | .portStatus _ =>
    [.reg .part, .reg .dpe, .reg .dsw, .reg .tt, .reg .mf, .reg .tcpd, .reg .pwr, .reg .gov, .reg .tat, .reg .ic,
    .reg .log, .reg .mbx, .reg .tgt, .mem, .staged, .migs, .dpe, .pool, .tt, .mf, .cc, .pd, .pwr, .gov, .bcq, .chord,
    .tat, .trc, .mbx, .fc, .log]
  | .portAssign _ => Zone.allBut [.ct, .nvmCfg, .fwCopy, .snaps, .profiles, .govHw, .tatOrder, .tatOps]
  | .portMigrate _ =>
    [.reg .part, .reg .dpe, .reg .dsw, .reg .tt, .reg .mf, .reg .tcpd, .reg .pwr, .reg .gov, .reg .tat, .reg .ic,
    .reg .log, .reg .mbx, .reg .tgt, .mem, .staged, .migs, .dpe, .pool, .tt, .mf, .cc, .pd, .pwr, .gov, .bcq, .chord,
    .tat, .trc, .mbx, .log]
  | .portIsolate _ => Zone.allBut [.ct, .nvmCfg, .fwCopy, .snaps, .profiles, .govHw, .tatOrder, .tatOps]
  | .portRestore _ => Zone.allBut [.ct, .nvmCfg, .fwCopy, .snaps, .profiles, .govHw, .tatOrder, .tatOps]
  | .portQuarantine _ => Zone.allBut [.ct, .nvmCfg, .fwCopy, .snaps, .profiles, .govHw, .tatOrder, .tatOps]
  | .portQuarantineRelease _ => Zone.allBut [.ct, .nvmCfg, .fwCopy, .snaps, .profiles, .govHw, .tatOrder, .tatOps]
  | .portSelftest _ => Zone.allBut [.ct, .nvmCfg, .fwCopy, .snaps, .profiles, .govHw, .tatOrder, .tatOps]
  | .portSelftestResults _ =>
    [.reg .part, .reg .dpe, .reg .dsw, .reg .tt, .reg .mf, .reg .tcpd, .reg .pwr, .reg .gov, .reg .tat, .reg .ic,
    .reg .log, .reg .mbx, .reg .tgt, .mem, .staged, .migs, .dpe, .pool, .tt, .mf, .cc, .pd, .pwr, .gov, .bcq, .chord,
    .tat, .trc, .mbx, .fc, .log]
  | .portGlitch _ => Zone.allBut [.ct, .nvmCfg, .fwCopy, .snaps, .profiles, .govHw, .tatOrder, .tatOps]
  | .portVbus _ => Zone.allBut [.ct, .nvmCfg, .fwCopy, .snaps, .profiles, .govHw, .tatOrder, .tatOps]
  | .portLatchclr _ =>
    [.reg .part, .reg .dpe, .reg .dsw, .reg .tt, .reg .mf, .reg .tcpd, .reg .pwr, .reg .gov, .reg .tat, .reg .ic,
    .reg .log, .reg .mbx, .reg .tgt, .mem, .staged, .migs, .dpe, .pool, .tt, .mf, .cc, .pd, .pwr, .gov, .bcq, .chord,
    .tat, .trc, .mbx, .log]
  | .portCc _ => Zone.allBut [.ct, .nvmCfg, .fwCopy, .snaps, .profiles, .govHw, .tatOrder, .tatOps]
  | .portCfg _ => Zone.allBut [.ct, .nvmCfg, .fwCopy, .snaps, .profiles, .govHw, .tatOrder, .tatOps]
  | .portTtalloc _ => Zone.allBut [.ct, .nvmCfg, .fwCopy, .snaps, .profiles, .govHw, .tatOrder, .tatOps]
  | .pdStatus _ =>
    [.reg .part, .reg .dpe, .reg .dsw, .reg .tt, .reg .mf, .reg .tcpd, .reg .pwr, .reg .gov, .reg .tat, .reg .ic,
    .reg .log, .reg .mbx, .reg .tgt, .mem, .staged, .migs, .dpe, .pool, .tt, .mf, .cc, .pd, .pwr, .gov, .bcq, .chord,
    .tat, .trc, .mbx, .fc, .log]
  | .pdStatusQuery _ =>
    [.reg .part, .reg .dpe, .reg .dsw, .reg .tt, .reg .mf, .reg .tcpd, .reg .pwr, .reg .gov, .reg .tat, .reg .ic,
    .reg .log, .reg .mbx, .reg .tgt, .mem, .staged, .migs, .dpe, .pool, .tt, .mf, .cc, .pd, .pwr, .gov, .bcq, .chord,
    .tat, .trc, .mbx, .log]
  | .pdCfg _ => Zone.allBut [.ct, .nvmCfg, .fwCopy, .snaps, .profiles, .govHw, .tatOrder, .tatOps]
  | .pdProfileRead _ =>
    [.reg .part, .reg .dpe, .reg .dsw, .reg .tt, .reg .mf, .reg .tcpd, .reg .pwr, .reg .gov, .reg .tat, .reg .ic,
    .reg .log, .reg .mbx, .reg .tgt, .mem, .staged, .migs, .dpe, .pool, .tt, .mf, .cc, .pd, .pwr, .gov, .bcq, .chord,
    .tat, .trc, .mbx, .log]
  | .pdProfileWrite _ =>
    [.reg .part, .reg .dpe, .reg .dsw, .reg .tt, .reg .mf, .reg .tcpd, .reg .pwr, .reg .gov, .reg .tat, .reg .ic,
    .reg .log, .reg .mbx, .reg .tgt, .mem, .staged, .migs, .dpe, .pool, .tt, .mf, .cc, .pd, .profiles, .pwr, .gov, .bcq,
    .chord, .tat, .trc, .mbx, .log]
  | .pdSwapPr _ =>
    [.reg .part, .reg .dpe, .reg .dsw, .reg .tt, .reg .mf, .reg .tcpd, .reg .pwr, .reg .gov, .reg .tat, .reg .ic,
    .reg .log, .reg .mbx, .reg .tgt, .mem, .staged, .migs, .dpe, .pool, .tt, .mf, .cc, .pd, .pwr, .gov, .bcq, .chord,
    .tat, .trc, .mbx, .log]
  | .pdSwapVconn _ =>
    [.reg .part, .reg .dpe, .reg .dsw, .reg .tt, .reg .mf, .reg .tcpd, .reg .pwr, .reg .gov, .reg .tat, .reg .ic,
    .reg .log, .reg .mbx, .reg .tgt, .mem, .staged, .migs, .dpe, .pool, .tt, .mf, .cc, .pd, .pwr, .gov, .bcq, .chord,
    .tat, .trc, .mbx, .fc, .log]
  | .pdResetSoft _ =>
    [.reg .part, .reg .dpe, .reg .dsw, .reg .tt, .reg .mf, .reg .tcpd, .reg .pwr, .reg .gov, .reg .tat, .reg .ic,
    .reg .log, .reg .mbx, .reg .tgt, .mem, .staged, .migs, .dpe, .pool, .tt, .mf, .cc, .pd, .pwr, .gov, .bcq, .chord,
    .tat, .trc, .mbx, .log]
  | .pdResetHard _ =>
    [.reg .part, .reg .dpe, .reg .dsw, .reg .tt, .reg .mf, .reg .tcpd, .reg .pwr, .reg .gov, .reg .tat, .reg .ic,
    .reg .log, .reg .mbx, .reg .tgt, .mem, .staged, .migs, .dpe, .pool, .tt, .mf, .cc, .pd, .pwr, .gov, .bcq, .chord,
    .tat, .trc, .mbx, .log]
  | .pdResetCable _ =>
    [.reg .part, .reg .dpe, .reg .dsw, .reg .tt, .reg .mf, .reg .tcpd, .reg .pwr, .reg .gov, .reg .tat, .reg .ic,
    .reg .log, .reg .mbx, .reg .tgt, .mem, .staged, .migs, .dpe, .pool, .tt, .mf, .cc, .pd, .pwr, .gov, .bcq, .chord,
    .tat, .trc, .mbx, .log]
  | .pdSinkcfg _ => Zone.allBut [.ct, .nvmCfg, .fwCopy, .snaps, .profiles, .govHw, .tatOrder, .tatOps]
  | .pdSlot _ _ =>
    [.reg .mpu, .reg .part, .reg .dpe, .reg .dsw, .reg .tt, .reg .mf, .reg .tcpd, .reg .pwr, .reg .gov, .reg .tat,
    .reg .ic, .reg .log, .reg .mbx, .reg .tgt, .mem, .staged, .nvmCfg, .frozen, .parts, .migs, .dpe, .pool, .tt, .mf,
    .cc, .pd, .pwr, .gov, .bcq, .chord, .tat, .trc, .mbx, .cores, .hw, .log]
  | .pwrStatus _ =>
    [.reg .part, .reg .dpe, .reg .dsw, .reg .tt, .reg .mf, .reg .tcpd, .reg .pwr, .reg .gov, .reg .tat, .reg .ic,
    .reg .log, .reg .mbx, .reg .tgt, .mem, .staged, .migs, .dpe, .pool, .tt, .mf, .cc, .pd, .pwr, .gov, .bcq, .chord,
    .tat, .trc, .mbx, .log]
  | .pwrGovcfg _ => Zone.allBut [.ct, .nvmCfg, .fwCopy, .snaps, .profiles, .govHw, .tatOrder, .tatOps]
  | .pwrPrio _ => Zone.allBut [.ct, .nvmCfg, .fwCopy, .snaps, .profiles, .govHw, .tatOrder, .tatOps]
  | .pwrPortcfg _ => Zone.allBut [.ct, .nvmCfg, .fwCopy, .snaps, .profiles, .govHw, .tatOrder, .tatOps]
  | .pwrFeedctl _ => Zone.allBut [.ct, .nvmCfg, .fwCopy, .snaps, .profiles, .govHw, .tatOrder, .tatOps]
  | .pwrEnergy _ =>
    [.reg .part, .reg .dpe, .reg .dsw, .reg .tt, .reg .mf, .reg .tcpd, .reg .pwr, .reg .gov, .reg .tat, .reg .ic,
    .reg .log, .reg .mbx, .reg .tgt, .mem, .staged, .migs, .dpe, .pool, .tt, .mf, .cc, .pd, .pwr, .gov, .bcq, .chord,
    .tat, .trc, .mbx, .log]
  | .timeGet _ =>
    [.reg .part, .reg .dpe, .reg .dsw, .reg .tt, .reg .mf, .reg .tcpd, .reg .pwr, .reg .gov, .reg .tat, .reg .ic,
    .reg .log, .reg .mbx, .reg .tgt, .mem, .staged, .migs, .dpe, .pool, .tt, .mf, .cc, .pd, .pwr, .gov, .bcq, .chord,
    .tat, .trc, .mbx, .log]
  | .timeSet _ =>
    [.reg .part, .reg .dpe, .reg .dsw, .reg .tt, .reg .mf, .reg .tcpd, .reg .pwr, .reg .gov, .reg .tat, .reg .ic,
    .reg .log, .reg .mbx, .reg .tgt, .mem, .staged, .migs, .dpe, .pool, .tt, .mf, .cc, .pd, .pwr, .gov, .bcq, .chord,
    .tat, .trc, .mbx, .log]
  | .timeAdd _ =>
    [.reg .part, .reg .dpe, .reg .dsw, .reg .tt, .reg .mf, .reg .tcpd, .reg .pwr, .reg .gov, .reg .tat, .reg .ic,
    .reg .log, .reg .mbx, .reg .tgt, .mem, .staged, .migs, .dpe, .pool, .tt, .mf, .cc, .pd, .pwr, .gov, .bcq, .chord,
    .tat, .tatOrder, .trc, .mbx, .log]
  | .timeCancel _ =>
    [.reg .part, .reg .dpe, .reg .dsw, .reg .tt, .reg .mf, .reg .tcpd, .reg .pwr, .reg .gov, .reg .tat, .reg .ic,
    .reg .log, .reg .mbx, .reg .tgt, .mem, .staged, .migs, .dpe, .pool, .tt, .mf, .cc, .pd, .pwr, .gov, .bcq, .chord,
    .tat, .trc, .mbx, .log]
  | .timeList _ =>
    [.reg .part, .reg .dpe, .reg .dsw, .reg .tt, .reg .mf, .reg .tcpd, .reg .pwr, .reg .gov, .reg .tat, .reg .ic,
    .reg .log, .reg .mbx, .reg .tgt, .mem, .staged, .migs, .dpe, .pool, .tt, .mf, .cc, .pd, .pwr, .gov, .bcq, .chord,
    .tat, .trc, .mbx, .log]
  | .timeSof _ =>
    [.reg .part, .reg .dpe, .reg .dsw, .reg .tt, .reg .mf, .reg .tcpd, .reg .pwr, .reg .gov, .reg .tat, .reg .ic,
    .reg .log, .reg .mbx, .reg .tgt, .mem, .staged, .migs, .dpe, .pool, .tt, .mf, .cc, .pd, .pwr, .gov, .bcq, .chord,
    .tat, .trc, .mbx, .log]
  | .traceStatus _ =>
    [.reg .part, .reg .dpe, .reg .dsw, .reg .tt, .reg .mf, .reg .tcpd, .reg .pwr, .reg .gov, .reg .tat, .reg .ic,
    .reg .log, .reg .mbx, .reg .tgt, .mem, .staged, .migs, .dpe, .pool, .tt, .mf, .cc, .pd, .pwr, .gov, .bcq, .chord,
    .tat, .trc, .mbx, .log]
  | .traceCfg _ => Zone.allBut [.ct, .nvmCfg, .fwCopy, .snaps, .profiles, .govHw, .tatOrder, .tatOps]
  | .traceCtlStart _ =>
    [.reg .part, .reg .dpe, .reg .dsw, .reg .tt, .reg .mf, .reg .tcpd, .reg .pwr, .reg .gov, .reg .tat, .reg .trc,
    .reg .ic, .reg .log, .reg .mbx, .reg .tgt, .mem, .staged, .migs, .dpe, .pool, .tt, .mf, .cc, .pd, .pwr, .gov, .bcq,
    .chord, .tat, .trc, .mbx, .log]
  | .traceCtlStop _ =>
    [.reg .part, .reg .dpe, .reg .dsw, .reg .tt, .reg .mf, .reg .tcpd, .reg .pwr, .reg .gov, .reg .tat, .reg .trc,
    .reg .ic, .reg .log, .reg .mbx, .reg .tgt, .mem, .staged, .migs, .dpe, .pool, .tt, .mf, .cc, .pd, .pwr, .gov, .bcq,
    .chord, .tat, .trc, .mbx, .log]
  | .traceCtlTrig _ =>
    [.reg .part, .reg .dpe, .reg .dsw, .reg .tt, .reg .mf, .reg .tcpd, .reg .pwr, .reg .gov, .reg .tat, .reg .trc,
    .reg .ic, .reg .log, .reg .mbx, .reg .tgt, .mem, .staged, .migs, .dpe, .pool, .tt, .mf, .cc, .pd, .pwr, .gov, .bcq,
    .chord, .tat, .trc, .mbx, .log]
  | .traceCtlClear _ =>
    [.reg .part, .reg .dpe, .reg .dsw, .reg .tt, .reg .mf, .reg .tcpd, .reg .pwr, .reg .gov, .reg .tat, .reg .trc,
    .reg .ic, .reg .log, .reg .mbx, .reg .tgt, .mem, .staged, .migs, .dpe, .pool, .tt, .mf, .cc, .pd, .pwr, .gov, .bcq,
    .chord, .tat, .trc, .mbx, .log]
  | .traceCtlMark _ =>
    [.reg .part, .reg .dpe, .reg .dsw, .reg .tt, .reg .mf, .reg .tcpd, .reg .pwr, .reg .gov, .reg .tat, .reg .trc,
    .reg .ic, .reg .log, .reg .mbx, .reg .tgt, .mem, .staged, .migs, .dpe, .pool, .tt, .mf, .cc, .pd, .pwr, .gov, .bcq,
    .chord, .tat, .trc, .mbx, .log]
  | .traceRead _ _ _ =>
    [.reg .part, .reg .dpe, .reg .dsw, .reg .tt, .reg .mf, .reg .tcpd, .reg .pwr, .reg .gov, .reg .tat, .reg .trc,
    .reg .bbc, .reg .ic, .reg .log, .reg .mbx, .reg .tgt, .mem, .staged, .migs, .dpe, .pool, .tt, .mf, .cc, .pd, .pwr,
    .gov, .bcq, .chord, .tat, .trc, .mbx, .log]
  | .faultStatus _ =>
    [.reg .part, .reg .dpe, .reg .dsw, .reg .tt, .reg .mf, .reg .tcpd, .reg .pwr, .reg .gov, .reg .tat, .reg .ic,
    .reg .log, .reg .mbx, .reg .tgt, .mem, .staged, .migs, .dpe, .pool, .tt, .mf, .cc, .pd, .pwr, .gov, .bcq, .chord,
    .tat, .trc, .mbx, .log]
  | .faultStatusList _ =>
    [.reg .part, .reg .dpe, .reg .dsw, .reg .tt, .reg .mf, .reg .tcpd, .reg .pwr, .reg .gov, .reg .tat, .reg .ic,
    .reg .log, .reg .mbx, .reg .tgt, .mem, .staged, .migs, .dpe, .pool, .tt, .mf, .cc, .pd, .pwr, .gov, .bcq, .chord,
    .tat, .trc, .mbx, .log]
  | .faultCfg _ =>
    [.reg .part, .reg .dpe, .reg .dsw, .reg .tt, .reg .mf, .reg .tcpd, .reg .pwr, .reg .gov, .reg .tat, .reg .ic,
    .reg .log, .reg .mbx, .reg .tgt, .mem, .staged, .migs, .dpe, .pool, .tt, .mf, .cc, .pd, .pwr, .gov, .bcq, .chord,
    .tat, .trc, .mbx, .fc, .log]
  | .faultClear _ =>
    [.reg .part, .reg .dpe, .reg .dsw, .reg .tt, .reg .mf, .reg .tcpd, .reg .pwr, .reg .gov, .reg .tat, .reg .ic,
    .reg .fc, .reg .log, .reg .mbx, .reg .tgt, .mem, .staged, .migs, .dpe, .pool, .tt, .mf, .cc, .pd, .pwr, .gov, .bcq,
    .chord, .tat, .trc, .mbx, .fc, .log]
  | .faultInject _ => Zone.all
  | .faultSelftest _ =>
    [.reg .part, .reg .dpe, .reg .dsw, .reg .tt, .reg .mf, .reg .tcpd, .reg .pwr, .reg .gov, .reg .tat, .reg .ic,
    .reg .fc, .reg .log, .reg .mbx, .reg .tgt, .mem, .staged, .migs, .dpe, .pool, .tt, .mf, .cc, .pd, .pwr, .gov, .bcq,
    .chord, .tat, .trc, .mbx, .log]
  | .faultSummary _ =>
    [.reg .part, .reg .dpe, .reg .dsw, .reg .tt, .reg .mf, .reg .tcpd, .reg .pwr, .reg .gov, .reg .tat, .reg .ic,
    .reg .log, .reg .mbx, .reg .tgt, .mem, .staged, .migs, .dpe, .pool, .tt, .mf, .cc, .pd, .pwr, .gov, .bcq, .chord,
    .tat, .trc, .mbx, .log]
  | .faultLog _ =>
    [.reg .part, .reg .dpe, .reg .dsw, .reg .tt, .reg .mf, .reg .tcpd, .reg .pwr, .reg .gov, .reg .tat, .reg .ic,
    .reg .log, .reg .mbx, .reg .tgt, .mem, .staged, .migs, .dpe, .pool, .tt, .mf, .cc, .pd, .pwr, .gov, .bcq, .chord,
    .tat, .trc, .mbx, .log]
  | .calExport _ =>
    [.reg .part, .reg .dpe, .reg .dsw, .reg .tt, .reg .mf, .reg .tcpd, .reg .pwr, .reg .gov, .reg .tat, .reg .ic,
    .reg .log, .reg .cal, .reg .mbx, .reg .tgt, .mem, .staged, .migs, .dpe, .pool, .tt, .mf, .cc, .pd, .pwr, .gov, .bcq,
    .chord, .tat, .trc, .mbx, .hw, .log]
  | .calWrite _ =>
    [.reg .part, .reg .dpe, .reg .dsw, .reg .tt, .reg .mf, .reg .tcpd, .reg .pwr, .reg .gov, .reg .tat, .reg .ic,
    .reg .log, .reg .cal, .reg .mbx, .reg .tgt, .mem, .staged, .migs, .dpe, .pool, .tt, .mf, .cc, .pd, .pwr, .gov, .bcq,
    .chord, .tat, .trc, .mbx, .hw, .log]
  | .calWriteCommit _ =>
    [.reg .part, .reg .dpe, .reg .dsw, .reg .tt, .reg .mf, .reg .tcpd, .reg .pwr, .reg .gov, .reg .tat, .reg .ic,
    .reg .log, .reg .cal, .reg .mbx, .reg .tgt, .mem, .staged, .migs, .dpe, .pool, .tt, .mf, .cc, .pd, .pwr, .gov, .bcq,
    .chord, .tat, .trc, .mbx, .hw, .log]
  | .regRead _ =>
    Zone.allBut [.reg .pmu, .reg .d2d, .reg .die, .reg .ent, .reg .qspi, .reg .fc, .reg .cal, .ct, .power, .nvmCfg,
    .fwCopy, .snaps, .profiles, .govHw, .ent, .links, .tatOrder, .cores, .hw, .tatOps]
  | .regWrite _ => Zone.all
  | .chordStatus _ =>
    [.reg .part, .reg .dpe, .reg .dsw, .reg .tt, .reg .mf, .reg .tcpd, .reg .pwr, .reg .gov, .reg .tat, .reg .ic,
    .reg .log, .reg .mbx, .reg .tgt, .mem, .staged, .migs, .dpe, .pool, .tt, .mf, .cc, .pd, .pwr, .gov, .bcq, .chord,
    .tat, .trc, .mbx, .fc, .log]
  | .chordCfg _ => Zone.allBut [.ct, .nvmCfg, .fwCopy, .snaps, .profiles, .govHw, .tatOrder, .tatOps]
  | .chordLink _ => Zone.allBut [.ct, .nvmCfg, .fwCopy, .snaps, .profiles, .govHw, .tatOrder, .tatOps]
  | .chordGatherRead _ =>
    [.reg .part, .reg .dpe, .reg .dsw, .reg .tt, .reg .mf, .reg .tcpd, .reg .pwr, .reg .gov, .reg .tat, .reg .ic,
    .reg .log, .reg .mbx, .reg .tgt, .mem, .staged, .migs, .dpe, .pool, .tt, .mf, .cc, .pd, .pwr, .gov, .bcq, .chord,
    .tat, .trc, .mbx, .log]
  | .gather _ =>
    [.reg .part, .reg .dpe, .reg .dsw, .reg .tt, .reg .mf, .reg .tcpd, .reg .pwr, .reg .gov, .reg .tat, .reg .ic,
    .reg .log, .reg .mbx, .reg .tgt, .mem, .staged, .migs, .dpe, .pool, .tt, .mf, .cc, .pd, .pwr, .gov, .bcq, .chord,
    .tat, .trc, .mbx, .log]
  | .bootRailsValid _ _ =>
    [.reg .pmu, .reg .d2d, .reg .die, .reg .tcpd, .reg .chord, .reg .sys, .reg .qspi, .reg .tgt, .power, .free]
  | .sysRstNRelease _ _ =>
    [.reg .pmu, .reg .d2d, .reg .die, .reg .tcpd, .reg .chord, .reg .sys, .reg .qspi, .reg .tgt, .power, .free]
  | .railEnStep => [.reg .pmu, .power]
  | .thermalResetRelease =>
    [.reg .pmu, .reg .d2d, .reg .die, .reg .tcpd, .reg .chord, .reg .sys, .reg .qspi, .reg .tgt, .power, .free]
  | .referenceReturn _ => [.reg .pmu, .reg .log, .power, .fc, .log]
  | .railMonitorChange _ _ => Zone.all
  | .d2dLinkTrained _ => [.reg .d2d, .reg .die, .reg .dpe, .reg .dsw]
  | .hubDeviceRequest _ _ _ _ _ => [.reg .part, .power, .parts]
  | .sinkRequestRetry _ => [.reg .tcpd, .reg .pwr, .reg .gov, .reg .tat, .reg .ic, .power, .pd, .pwr, .gov]
  | .ovldxClear _ => [.reg .pwr, .reg .adc, .pwr]
  | .sramUncorrectable _ => [.reg .ic, .fc]
  | .wireFaultEnd _ => [.fc]
  | .mret _ => [.cores]
  | .synchronousException _ _ _ _ =>
    [.reg .dpe, .reg .dsw, .reg .mf, .reg .tcpd, .reg .pwr, .reg .gov, .reg .ic, .reg .log, .reg .mbx, .parts, .mf, .cc,
    .pd, .pwr, .gov, .bcq, .cores, .fc, .log]

/-- The rule that calls the command's result unpredictable in the state, 0 for none: the rows that store, and those that apply such a
store (log entry 10). -/
def Instr.openRule (c : Instr) (s : State) : Nat :=
  match c with
  | .registerWrite m a n data _ => s.openCase m a n data
  | .aliasWrite v m a n data _ => s.openCase m (a + v.offset) n data
  | .dmaStop d words => if d < 4 then s.openCopy d (min words (s.fld F.SYS_DMASTAT_REMAIN d)) else 0
  | .dmaEnd d => if d < 4 then s.openCopy d (s.fld F.SYS_DMASTAT_REMAIN d) else 0
  | .regWrite ch => s.openRegWrite ch
  | .stagedWriteApply b k hw =>
    let l := s.staged.filter (fun x => s.inScope b k x && !(slotHome x.field.id x.index).any s.held')
    if overlapApplied s (if b == .t then s.nextMarker hw else s.applyAll hw l) then 213 else if s.roleMoved l then 239 else 0
  | .port33ConnectApply k connect =>
    if s.hasUpstream k && s.domOn Dom.fabric && overlapApplied s (s.put F.MF_CTL_CONNECT k connect) then 213 else 0
  | .voffWrite p b => if !b && s.brdoffHeld p then 314 else 0
  | .deadBatteryHandover => if overlapApplied s s.handedOver then 213 else 0
  | .domainSwitchOn d => if overlapApplied s (s.switchedOn d) then 213 else 0
  | .policyImageLoad c => if overlapApplied s (s.imageLoaded c) then 213 else 0
  | .loaderGo c => if overlapApplied s (s.loaderGone c) then 213 else 0
  | .loaderHalt c => if overlapApplied s (s.loaderHalted c) then 213 else 0
  | _ => 0

end Sys2Proof
end

