-- ==== Sys2Proof/Certificates/Slice0/Obligations.lean ====
section
/-! DEFINITION. The statements for the provers, from the spec's rules: for every row of the command table where it completes
and what its next state holds; the frame of every command; the invariants that every step keeps.  Each clause names its
command, the conditions on the state and the operands, and what holds of the next state `t`. -/

open Sys2Proof Sys2Proof.Machine

set_option linter.unusedVariables false

/-- The queue of waiting commands is the model's own (log entry 1). -/
def Obligations.StepRunsTheFrontCommand : Prop :=
  (∀ (c : Instr) (rest : List Instr) (s : State), s.pending = c :: rest → step s = exec c { s with pending := rest })

/-- What an empty queue leaves to the block is the model's choice (log entry 8). -/
def Obligations.EmptyQueueIsATick : Prop :=
  (∀ (s : State) (ch : Nat), s.pending = [] → s.power.resetPending = some ch → step s = .next (s.partReset 6 ch)) ∧
  (∀ (s : State), s.pending = [] → s.power.resetPending = none → s.power.aon = false → step s = .next s) ∧
  (∀ (s : State), s.pending = [] → s.power.resetPending = none → s.power.aon = true → ∃ t, step s = .next t ∧ t.pending = [] ∧ (t.ct = if s.ctRuns then (s.ct + 1) % 2 ^ 64 else s.ct) ∧ t.power.rtcCount = (s.power.rtcCount + (s.power.rtcPart + 8) / 234375) % 2 ^ 48)

/-- The values the spec leaves open are those of log entries 4 to 7. -/
def Obligations.ResetLeavesEveryRegisterAtItsResetValue : Prop :=
  (State.reset.pending = [] ∧ State.reset.ct = 0 ∧ State.reset.power.boot = .off ∧ (∀ f i, State.reset.fld f i = resetAt f i) ∧ ∀ a, readByte State.reset.mem a = unlisted a)

/-- The invariant of EveryStepKeepsTheCanonicalForm holds at reset. -/
def Obligations.ResetIsCanonical : Prop :=
  (State.reset.Canonical)

/-- The form is the model's own (log entry 7); every command and the idle tick keep it. -/
def Obligations.EveryStepKeepsTheCanonicalForm : Prop :=
  (∀ (s t : State), s.Canonical → step s = .next t → t.Canonical)

/-- NVM refuses erase and program of its sector 0 (R427, R428). -/
def Obligations.FactorySectorNeverChanges : Prop :=
  (∀ (s t : State), step s = .next t → t.factory = s.factory)

/-- The stops are those of the rules that list unpredictable results (log entry 10); the rows' conditions are judged inside
their meanings (log entry 2). -/
def Obligations.OnlyUnpredictableStoresStop : Prop :=
  (∀ (c : Instr) (s : State), c.openRule s = 0 → ∃ t, exec c s = .next t) ∧
  (∀ (c : Instr) (s : State), c.openRule s ≠ 0 → exec c s = .fault (.unpredictable (c.openRule s))) ∧
  (∀ (c : Instr) (s : State), c.openRule s ≠ 0 →
    (match c with
      | .registerWrite .. | .aliasWrite .. | .regWrite .. | .dmaStop .. | .dmaEnd .. | .stagedWriteApply ..
      | .port33ConnectApply .. | .voffWrite .. | .deadBatteryHandover | .domainSwitchOn .. | .policyImageLoad ..
      | .loaderGo .. | .loaderHalt .. => true
      | _ => false) = true)

/-- The queue belongs to the outside (log entry 1). -/
def Obligations.EveryCommandKeepsTheQueue : Prop :=
  (∀ (c : Instr) (s t : State), exec c s = .next t → t.pending = s.pending)

/-- Instr.zones names the register blocks and records that each row of the command table may change. -/
def Obligations.EveryCommandKeepsWhatItDoesNotName : Prop :=
  (∀ (c : Instr) (s t : State), exec c s = .next t → s.OnlyIn c.zones t)

/-- The rows of the command table carry no bits (log entry 1). -/
def Obligations.NoWordSpellsACommand : Prop :=
  (∀ (s : State) (n w : Nat), decodeTableWord n w = none ∧ s.withFetchWord n w = s)

/-- The one operation by which every mailbox command completes (R430). -/
def Obligations.ResponsesReachTheirChannel : Prop :=
  (∀ (s : State) (ch : Nat) (f : Frame) (r : Reply), ((s.finish ch f r).mbx.at ch).running = none ∧ (r.status = Status.denied → (s.finish ch f r).fld F.MBX_CHCNT1_DENIED (min 7 ch) = (s.fld F.MBX_CHCNT1_DENIED (min 7 ch) + 1) % 2 ^ 16)) ∧
  (∀ (s : State) (ch : Nat) (f : Frame) (r : Reply), ch ≤ 1 → (s.finish ch f r).lastReply ch = some (s.reply f r.status r.retry r.payload)) ∧
  (∀ (s : State) (k : Nat) (f : Frame) (r : Reply), k < 4 → s.domOn Dom.fabric = true → (s.mf.at k).waiting = [] → (((s.finish (2 + k) f r).mf.at k).responses ++ ((s.finish (2 + k) f r).mf.at k).waiting) = (s.mf.at k).responses ++ [(s.reply f r.status r.retry r.payload).bytes]) ∧
  (∀ (s : State) (f : Frame) (r : Reply) (i : ChordIn) (rest : List ChordIn), s.chord.inbox = i :: rest → i.mode = 0 → (s.finish 6 f r).chord.out = s.chord.out ++ [.response i.link i.id (s.reply f r.status r.retry r.payload)] ∧ (s.finish 6 f r).chord.inbox = rest) ∧
  (∀ (s : State) (c : Nat) (f : Frame) (r : Reply), 1 ≤ c → c ≤ 4 → s.on F.MBX_LCTL_BUSY c = true → (s.mbx.at (6 + c)).orphan = false → (s.finish (6 + c) f r).readBytes (tcmAddr c (4 * s.fld F.MBX_LRSP_OFFSET c)) (s.reply f r.status r.retry r.payload).bytes.length = (s.reply f r.status r.retry r.payload).bytes.map (· % 256) ∧ (s.finish (6 + c) f r).on F.MBX_LCTL_RSPREADY c = true ∧ (s.finish (6 + c) f r).on F.MBX_LCTL_BUSY c = false) ∧
  (∀ (s : State) (c : Nat) (f : Frame) (r : Reply), 1 ≤ c → c ≤ 4 → (s.mbx.at (6 + c)).orphan = true → (s.finish (6 + c) f r).on F.MBX_LCTL_BUSY c = false ∧ ∀ a, readByte (s.finish (6 + c) f r).mem a = readByte s.mem a)

/-- R382 whole: the halt with RUNNING = 1, the log record, and the one reload with the vendor policy. -/
def Obligations.LoaderHaltIsR382 : Prop :=
  (∀ s c, 1 ≤ c → c ≤ 4 → s.coreRuns c = true → (s.cores.at c).stage = .loading → s.descriptorOk c = false →
    s.log.queue.length < 64 → (s.power.broughtUp = true ∨ overlapApplied s (s.loaderHalted c) = false) →
    Completes (.loaderHalt c) s fun t =>
      t.log.queue.take (s.log.queue.length + 1) = s.log.queue ++ [⟨s.ct, s.sync, blockId 0 0x38, 0x50, 0, [0, 0, 0, 0, c]⟩]
        ∧ (t.cores.at c).reloaded = true
        ∧ (((s.cores.at c).reloaded = true ∨ s.firmware = false) →
          (t.cores.at c).stage = .halted ∧ t.on F.IC_CORECTL_RUNNING c = true)
        ∧ ((s.cores.at c).reloaded = false → s.firmware = true → s.checkImage 0 c = 0 →
          (t.cores.at c).stage = .loading ∧ (t.cores.at c).image = 0 ∧ t.on F.IC_CORECTL_RUNNING c = true)
        ∧ ((s.cores.at c).reloaded = false → s.firmware = true → s.checkImage 0 c ≠ 0 →
          (t.cores.at c).stage ≠ .loading ∧ (t.cores.at c).stage ≠ .running))

/-- R410 whole, for a source that neither event brings to FAULT, and for one in FAULT, where events are logged and counted in EVENTS alone (R405). -/
def Obligations.CoincidentInjectionIsR410 : Prop :=
  (∀ s id both (e : Raised) (rest : List Raised), both = true → id < 65536 → s.fc.raised = e :: rest → e.id = id →
    s.fcInjectable id = 0 → (s.fcAt id).wire = false → (s.fcAt id).st ≠ .fault → (s.fcAt id).count + 2 < s.fcN id →
    s.fcExpected id = false → s.log.queue.length < 62 →
    Completes (.fcInjEvent id both) s fun t =>
      t.fc.raised = rest ∧ (t.fcAt id).count = (s.fcAt id).count + (if (s.fcAt id).injCount then 2 else 1)
        ∧ ((t.log.queue.drop s.log.queue.length).map (fun (r : LogRec) => (r.id, r.kind, r.flags)) = [(id, 1, 32), (id, 1, 4)])
        ∧ t.log.queue.take s.log.queue.length = s.log.queue ∧ (∀ r ∈ t.log.queue.drop s.log.queue.length, r.ct = s.ct)) ∧
  (∀ s id both (e : Raised) (rest : List Raised), both = true → s.fc.raised = e :: rest → e.id = id % 65536 →
    s.fcInjectable (id % 65536) = 0 → (s.fcAt (id % 65536)).wire = false → (s.fcAt (id % 65536)).st = .fault →
    s.fcExpected (id % 65536) = false → s.log.queue.length < 62 →
    Completes (.fcInjEvent id both) s fun t =>
      t.fc.raised = rest ∧ (t.fcAt (id % 65536)).count = (s.fcAt (id % 65536)).count
        ∧ (t.fcAt (id % 65536)).events = (s.fcAt (id % 65536)).events + (if (s.fcAt (id % 65536)).injCount then 2 else 1)
        ∧ ((t.log.queue.drop s.log.queue.length).map (fun (r : LogRec) => (r.id, r.kind, r.flags)) = [(id % 65536, 1, 32), (id % 65536, 1, 4)]))

/-- R366 whole. A packet record has TYPE 0; PART stands at bits 20:19 of the second half of the header. -/
def Obligations.RestrictedStreamIsR366 : Prop :=
  (∀ s k one two acked, 1 ≤ k → k < 4 → s.traceOn = true → s.fld F.TRC_EXP_DEST 0 = k + 1 →
    s.on F.MF_STAT_CONFIGURED k = true → s.p33Is k .enabled = true → (s.mf.at k).halts.contains 4 = false →
    s.trc.placed = none → (s.nextTransfer (some k) (s.epHalf k 4)).bytes ≠ [] → acked = true →
    Completes (.ep4TransferAck k one two acked) s fun t =>
      (t.mf.at k).answer = .data (s.mfToggle k 4) (s.nextTransfer (some k) (s.epHalf k 4)).bytes
        ∧ t.trc.rd = (s.nextTransfer (some k) (s.epHalf k 4)).next
        ∧ t.fld F.TRC_CNT2_SKIPPED 0 = (s.fld F.TRC_CNT2_SKIPPED 0 + (s.nextTransfer (some k) (s.epHalf k 4)).skipped) % 2 ^ 16) ∧
  (∀ (s : State) (c room ct sync k : Nat), s.traceBad c 16 = false → (s.exportAt c room ct sync (some k)).withheld = (decide (ofLe (s.traceBytes (c + 8) 8) % 16 = 0) && decide (ofLe (s.traceBytes (c + 8) 8) / 2 ^ 19 % 4 ≠ k)) ∧ ((s.exportAt c room ct sync (some k)).withheld = true → (s.exportAt c room ct sync (some k)).bytes = [] ∧ c < (s.exportAt c room ct sync (some k)).next)) ∧
  (∀ (s : State) (k room fuel : Nat) (x : Transfer), x.next < s.trc.wr → x.bytes.length ≤ room → (s.exportAt x.next room x.ct x.sync (some k)).withheld = true → ∃ ct sync, s.gatherRecords (some k) room (fuel + 1) x = s.gatherRecords (some k) room fuel ⟨x.bytes, (s.exportAt x.next room x.ct x.sync (some k)).next, x.losts, x.skipped + 1, ct, sync⟩)

/-- R71 whole; that causes of one reset arise before system firmware runs is the model's reading (log entry 31). -/
def Obligations.ResetCauseIsR71 : Prop :=
  (∀ (s : State) (c ch : Nat), 1 ≤ c → c ≤ 11 → (s.resetTo c ch).bit F.PMU_RESET_CAUSE_SEEN 0 (c - 1) = true ∧ (s.resetTo c ch).power.boot = .off) ∧
  (∀ (s : State) (c ch : Nat), 1 ≤ c → c ≤ 11 → s.power.resetAge < 9600 → s.power.boot ≠ .firmware → s.fld F.PMU_RESET_CAUSE_SEEN 0 ≠ 0 → (s.resetTo c ch).fld F.PMU_RESET_CAUSE_SEEN 0 = Nat.lor (s.fld F.PMU_RESET_CAUSE_SEEN 0) (2 ^ (c - 1)) % 2 ^ 11 ∧ (s.resetTo c ch).fld F.PMU_RESET_CAUSE_CAUSE 0 = min c (s.fld F.PMU_RESET_CAUSE_CAUSE 0)) ∧
  (∀ (s : State) (c ch : Nat), 1 ≤ c → c ≤ 11 → 9600 ≤ s.power.resetAge → (s.resetTo c ch).fld F.PMU_RESET_CAUSE_SEEN 0 = 2 ^ (c - 1) ∧ (s.resetTo c ch).fld F.PMU_RESET_CAUSE_CAUSE 0 = c)

/-- The stop is the model's choice where the spec leaves the result open (log entry 10); the numbers are those of the rules. -/
def Obligations.UnpredictableStoresStop : Prop :=
  (∀ (s : State) (m a n data : Nat) (hw : List HwChange), m ≤ 10 → s.bit F.MPU_FREEZE_FROZEN 0 m = false → s.violates m a n .store = 0 → 1 ≤ n → n ≤ 4 → ((0x20047000 ≤ a → a + n ≤ 0x20087000 → exec (.registerWrite m a n data hw) s = .fault (.unpredictable 423)) ∧ (0x20087000 ≤ a → a + n ≤ 0x200C7000 → exec (.registerWrite m a n data hw) s = .fault (.unpredictable 370)) ∧ (0x200D7000 ≤ a → a + n ≤ 0x200D8000 → exec (.registerWrite m a n data hw) s = .fault (.unpredictable 213)) ∧ (0x200F8000 ≤ a → a + n ≤ 0x20200000 → exec (.registerWrite m a n data hw) s = .fault (.unpredictable 189)))) ∧
  (∀ (s : State) (i v : Nat), ((s.on F.DPE_GLITCH_CTL_BUSY i = true ∨ s.on F.DPE_GLITCH_CTL_ARMED i = true) → s.openQuince F.DPE_GLITCH_CFG_LEN i v = 169 ∧ s.openQuince F.DPE_GLITCH_GAP_GAP i v = 169) ∧ (s.dpeIs i .migrating = true → s.openQuince F.DPE_TIMING_RSTLEN i v = 169 ∧ s.openQuince F.DPE_CTL_LPM_EN i v = 169) ∧ s.openQuince F.DPE_CTL_ISOLATE i v = 0 ∧ (s.on F.DSW_PSTAT_STBUSY i = true → s.openQuince F.DSW_PCTL_TESTS i v = 169) ∧ (s.on F.MF_CTL_CONNECT (i / 5) = true → s.openQuince F.MF_EPD_SIZE i v = 213)) ∧
  (∀ (s : State) (m i v : Nat), (m ≠ policyCore i → s.policyRuns i = true → s.openPort m F.TCPD_CCTIM_TDRP i v = 239 ∧ s.openPort m F.TCPD_PDCFG_PROFILE i v = 239 ∧ s.openPort m F.TCPD_CCCFG_RPLVL i v = 239) ∧ (m = policyCore i → s.on F.TCPD_TXCTL_BUSY i = true → s.openPort m F.TCPD_TXHDR_HDR i v = 271) ∧ (s.bit F.GOV_BRDOFF_PORTS 0 (i - 1) = true → s.openPort m F.PWR_PCTL_VOFF i 0 = 314 ∧ s.openPort m F.PWR_PCTL_VOFF i 1 = 0)) ∧
  (∀ (s : State) (hold : Bool) (i : Nat), (s.on F.TAT_STAT_BUSY 0 = true → s.openService hold F.TAT_NEW_WORD i = 347 ∧ s.openService hold F.TAT_CMD_ADD i = 347) ∧ (s.capturing = true → s.openService hold F.TRC_CFG_MEM i = 370 ∧ s.openService hold F.TRC_CFG_MODE i = 370 ∧ s.openService hold F.TRC_CFG_SNAPLEN i = 0) ∧ (s.on F.SYS_DMASTAT_BUSY i = true → s.openService hold F.SYS_DMASRC_ADDR i = 395) ∧ (s.on F.QSPI_STAT_OPBUSY 0 = true → s.openService hold F.QSPI_OPADDR_ADDR i = 395) ∧ (s.on F.LOG_STAT_SUBBUSY 0 = true → s.openService hold F.LOG_SUB_WORD i = 423) ∧ (s.on F.LOG_CFG_EN 0 = true → s.openService hold F.LOG_WR_SEQ i = 423)) ∧
  (∀ (s : State) (m i : Nat) (h : Home) (r : RegDef) (w mask : Nat) (f : Field), f ∈ r.fields → f.access = .rw → mask / 2 ^ f.lo % 2 ^ f.width ≠ 0 → s.ignores f i = false → (∃ v, max (s.openQuince f i v) (max (s.openPort m f i v) (s.openService (s.held' h) f i)) ≠ 0 ∧ v = (viewed 0 (s.base f i) (Nat.land w mask / 2 ^ f.lo) (mask / 2 ^ f.lo) f.width).getD 0) → s.openReg m h r i 0 w mask ≠ 0)

/-- The commands of supply and reset (R44, R46, R53 to R55, R64, R67, R68, R72, R84); what the ROM does with TEST_EN and with a DIES
value that R9 does not allow is part of it. -/
def Obligations.SupplyAndResetCommands : Prop :=
  (∀ s dies samples testEn vbatLow, s.power.aon = false → s.power.rstN = true → s.power.hot = false →
    Completes (.powerOn dies samples testEn vbatLow) s fun t =>
      t.power.aon = true ∧ t.power.dies = dies % 128 ∧ t.fld F.PMU_RESET_CAUSE_CAUSE 0 = 1
        ∧ t.fld F.SYS_STRAP_STRAPS 0 = strapWord samples % 128
        ∧ (t.power.boot = if testEn || !diesValid (dies % 128) then .halted else .rom)) ∧
  (∀ s dies samples testEn vbatLow, s.power.aon = false → s.power.rstN = false →
    Completes (.powerOn dies samples testEn vbatLow) s fun t =>
      t.power.aon = true ∧ t.power.dies = dies % 128 ∧ t.fld F.PMU_RESET_CAUSE_CAUSE 0 = 1 ∧ t.power.boot = .off
        ∧ t.power.sample = true) ∧
  (∀ s samples testEn, s.power.aon = true → s.bootSupplied = false → s.power.dormancy = .awake → s.power.boot = .off →
    s.power.rstN = true → s.power.hot = false → s.power.sample = true →
    Completes (.bootRailsValid samples testEn) s fun t =>
      t.on F.PMU_RAILSTAT_BOOT_OK 0 = true ∧ t.fld F.SYS_STRAP_STRAPS 0 = strapWord samples % 128
        ∧ (t.power.boot = if testEn || !diesValid s.power.dies then .halted else .rom)) ∧
  (∀ s samples testEn, s.power.aon = true → s.bootSupplied = false → s.power.dormancy = .awake → s.power.rstN = false →
    Completes (.bootRailsValid samples testEn) s fun t =>
      t.on F.PMU_RAILSTAT_BOOT_OK 0 = true ∧ t.power = s.power) ∧
  (∀ s, s.power.aon = true → s.bootSupplied = true →
    Completes .pinReset s fun t =>
      t.power.rstN = false ∧ t.power.boot = .off ∧ t.power.hot = s.power.hot ∧ t.bit F.PMU_RESET_CAUSE_SEEN 0 3 = true
        ∧ t.ct = 0) ∧
  (∀ s samples testEn, s.power.aon = true → s.bootSupplied = true → s.power.boot = .off → s.power.dormancy = .awake →
    s.power.sample = true →
    Completes (.sysRstNRelease samples testEn) s fun t =>
      t.power.rstN = true ∧ t.fld F.SYS_STRAP_STRAPS 0 = strapWord samples % 128
        ∧ (t.power.boot = if s.power.hot then .off else if testEn || !diesValid s.power.dies then .halted else .rom)) ∧
  (∀ s rail, s.power.aon = true → s.on F.PMU_RAILSTAT_BOOT_OK 0 = true → rail ≤ 8 → rail ≠ 7 → s.railOk rail = true →
    Completes (.brownout rail) s fun t =>
      t.railOk rail = false ∧ t.power.boot = .off ∧ t.on F.PMU_RAILSTAT_BOOT_OK 0 = false
        ∧ t.bit F.PMU_RESET_CAUSE_SEEN 0 4 = true) ∧
  (∀ s rail, s.power.aon = true → s.on F.PMU_RAILSTAT_BOOT_OK 0 = false → rail ≤ 8 → rail ≠ 7 → s.railOk rail = true →
    Completes (.brownout rail) s fun t =>
      t.railOk rail = false ∧ t.pends 17 = true ∧ t.power = s.power) ∧
  (∀ s, s.power.aon = true → s.bootSupplied = true →
    Completes .thermalReset s fun t =>
      t.power.hot = true ∧ t.power.boot = .off ∧ t.bit F.PMU_RESET_CAUSE_SEEN 0 9 = true) ∧
  (∀ s, s.power.aon = true → s.bootSupplied = true → s.power.rstN = true → s.power.boot = .off → s.power.dormancy = .awake →
    s.power.sample = false →
    Completes .thermalResetRelease s fun t =>
      t.power.hot = false ∧ (t.power.boot = if s.power.testEn || !diesValid s.power.dies then .halted else .rom)) ∧
  (∀ s, (s.bootSupplied = false ∨ s.power.rstN = false) →
    Completes .thermalResetRelease s fun t =>
      t.power.hot = false ∧ t.power.boot = s.power.boot) ∧
  (∀ s, s.power.refHold = true → s.bootSupplied = true → s.power.rstN = true → s.power.hot = false → s.power.sample = false →
    Completes .clockLoss s fun t =>
      t.power.refHold = false ∧ t.bit F.PMU_RESET_CAUSE_SEEN 0 10 = true
        ∧ (t.power.boot = if s.power.testEn || !diesValid s.power.dies then .halted else .rom)) ∧
  (∀ s, s.power.aon = true → s.on F.PMU_RAILSTAT_VDD18_OK 0 = false → s.on F.PMU_RAILSTAT_DB_ACTIVE 0 = false →
    Completes .vbatLoss s fun t =>
      t.power.aon = false ∧ t.on F.RTC_STATUS_RTC_VALID 0 = false ∧ t.fld F.PMU_RAILSTAT_RAIL_EN 0 = 0)

/-- Boot, dead-battery operation and Dormant (R43, R53, R58 to R60, R72, R73, R76, R78, R79, R81, R82). -/
def Obligations.BootAndDormantCommands : Prop :=
  (∀ s, s.power.boot = .rom → s.on F.PMU_CLKSTAT_PLL_LOCK 0 = false →
    Completes .pllLock s fun t =>
      t.on F.PMU_CLKSTAT_PLL_LOCK 0 = true ∧ t.on F.PMU_CLKSTAT_REF_ACTIVE 0 = false
        ∧ (s.on F.RTC_STATUS_RTC_VALID 0 = true →
          t.sync = 1 ∧ t.ct = seedCt ((s.power.rtcCount + 1) % 2 ^ 48) (s.fld64 F.RTC_EPOCH_LO_EPOCH F.RTC_EPOCH_HI_EPOCH 0))
        ∧ (s.on F.RTC_STATUS_RTC_VALID 0 = false → t.sync = 0 ∧ t.ct = 0)
        ∧ (t.power.boot = if 2 ≤ s.strapBoot then .waitImage else .rom)) ∧
  (∀ s ok recoveryOk, s.on F.PMU_CLKSTAT_PLL_LOCK 0 = true → s.power.boot = .rom → ok = true →
    Completes (.firmwareStart ok recoveryOk) s fun t =>
      t.power.boot = .firmware ∧ t.fld F.SYS_BOOT_BOOT_STATUS 0 = 0 ∧ t.on F.LOG_CFG_EN 0 = true) ∧
  (∀ s ok recoveryOk, s.on F.PMU_CLKSTAT_PLL_LOCK 0 = true → s.power.boot = .rom → ok = false → s.strapBoot = 1 →
    recoveryOk = true →
    Completes (.firmwareStart ok recoveryOk) s fun t =>
      t.power.boot = .firmware ∧ t.fld F.SYS_BOOT_BOOT_STATUS 0 = 3) ∧
  (∀ s ok recoveryOk, s.on F.PMU_CLKSTAT_PLL_LOCK 0 = true → s.power.boot = .rom → ok = false →
    (s.strapBoot ≠ 1 ∨ recoveryOk = false) →
    Completes (.firmwareStart ok recoveryOk) s fun t =>
      t.power.boot = .waitImage ∧ t.fld F.SYS_BOOT_BOOT_STATUS 0 = 2) ∧
  (∀ s ok recoveryOk, s.on F.PMU_CLKSTAT_PLL_LOCK 0 = true → s.power.boot = .waitImage → 2 ≤ s.strapBoot →
    s.power.imageIn = true → ok = true →
    Completes (.firmwareStart ok recoveryOk) s fun t =>
      t.power.boot = .firmware ∧ t.fld F.SYS_BOOT_BOOT_STATUS 0 = 3) ∧
  (∀ s dies rp samples testEn, s.bootSupplied = false → s.power.dormancy = .awake → s.power.rstN = true →
    s.power.hot = false →
    Completes (.deadBatteryBoot dies rp samples testEn) s fun t =>
      t.power.aon = true ∧ t.on F.PMU_RAILSTAT_DB_ACTIVE 0 = true
        ∧ (t.power.dies = if s.power.aon then s.power.dies else dies % 128) ∧ t.power.hostRp = rp
        ∧ (t.power.inLimit = if 2 ≤ rp then 500 else 100) ∧ (t.parts.at 0).hostVbus = true
        ∧ t.bit F.PMU_RESET_CAUSE_SEEN 0 1 = true
        ∧ (t.power.boot = if testEn || !diesValid t.power.dies then .halted else .rom)) ∧
  (∀ s, s.on F.PMU_RAILSTAT_DB_ACTIVE 0 = true → (s.power.broughtUp = true ∨ overlapApplied s s.handedOver = false) →
    Completes .deadBatteryHandover s fun t =>
      t.on F.PMU_RAILSTAT_DB_ACTIVE 0 = false ∧ t.on F.PMU_RAILSTAT_BOOT_OK 0 = true ∧ t.power.boot = s.power.boot
        ∧ t.power.inLimit = 0 ∧ t.ct = s.ct) ∧
  (∀ s vbatHolds, s.on F.PMU_RAILSTAT_DB_ACTIVE 0 = true → (vbatHolds = true ∨ s.on F.PMU_RAILSTAT_VDD18_OK 0 = true) →
    Completes (.deadBatteryLoss vbatHolds) s fun t =>
      t.power.boot = .off ∧ t.on F.PMU_RAILSTAT_DB_ACTIVE 0 = false ∧ (t.parts.at 0).hostVbus = false
        ∧ t.bit F.PMU_RESET_CAUSE_SEEN 0 4 = true) ∧
  (∀ s vbatHolds, s.on F.PMU_RAILSTAT_DB_ACTIVE 0 = true → vbatHolds = false → s.on F.PMU_RAILSTAT_VDD18_OK 0 = false →
    Completes (.deadBatteryLoss vbatHolds) s fun t =>
      t.power.aon = false) ∧
  (∀ s vbatHolds, s.power.dormancy = .entering → (∀ d ∈ [2, 3, 4, 5, 6, 7, 8, 9, 10], s.domOn d = false
    ∧ s.domChanging d = false) →
    Completes (.dormantEntryStep vbatHolds) s fun t =>
      t.power.dormancy = .gateOff ∧ t.on F.PMU_RAILCTL_EN2 0 = false ∧ t.fld F.PMU_RAILSTAT_RAIL_EN 0 = 3) ∧
  (∀ s vbatHolds, s.power.dormancy = .gateOff → vbatHolds = true →
    Completes (.dormantEntryStep vbatHolds) s fun t =>
      t.power.dormancy = .railsFalling ∧ t.power.boot = .off ∧ t.fld F.PMU_RAILSTAT_RAIL_EN 0 = 1
        ∧ t.on F.PMU_RAILSTAT_BOOT_OK 0 = false) ∧
  (∀ s vbatHolds, s.power.dormancy = .railsFalling →
    Completes (.dormantEntryStep vbatHolds) s fun t =>
      (t.power.dormancy = if s.power.alarmHeld then .waking else .asleep) ∧ t.fld F.PMU_RAILSTAT_RAIL_EN 0 = 0) ∧
  (∀ s, s.power.aon = true → s.on F.RTC_ALARM_HI_ARM 0 = true → s.power.rtcCount ≤ s.alarm → s.power.dormancy = .asleep →
    Completes .rtcAlarmReached s fun t =>
      t.on F.RTC_ALARM_HI_ARM 0 = false ∧ t.power.dormancy = .waking ∧ t.power.rtcCount = s.alarm
        ∧ t.fld F.PMU_RAILSTAT_RAIL_EN 0 = 1) ∧
  (∀ s, s.power.aon = true → s.on F.RTC_ALARM_HI_ARM 0 = true → s.power.rtcCount ≤ s.alarm → s.power.dormancy ≠ .asleep →
    Completes .rtcAlarmReached s fun t =>
      t.on F.RTC_ALARM_HI_ARM 0 = false ∧ (s.power.dormancy = .entering → t.power.alarmHeld = true)
        ∧ (s.power.dormancy = .awake → t.pends 14 = true)) ∧
  (∀ s, s.power.dormancy = .waking → s.fld F.PMU_RAILSTAT_RAIL_EN 0 ≤ 1 →
    Completes .railEnStep s fun t =>
      (t.fld F.PMU_RAILSTAT_RAIL_EN 0 = if s.fld F.PMU_RAILSTAT_RAIL_EN 0 = 0 then 1 else 3)) ∧
  (∀ s samples testEn, s.power.aon = true → s.bootSupplied = false → s.power.boot = .off → s.power.rstN = true →
    s.power.hot = false → s.power.dormancy = .waking → s.fld F.PMU_RAILSTAT_RAIL_EN 0 = 3 →
    Completes (.bootRailsValid samples testEn) s fun t =>
      t.power.dormancy = .awake ∧ t.on F.PMU_RAILSTAT_BOOT_OK 0 = true ∧ t.bit F.PMU_RESET_CAUSE_SEEN 0 2 = true
        ∧ (t.power.boot = if testEn || !diesValid s.power.dies then .halted else .rom)) ∧
  (∀ s which ok, s.power.aon = true → which < 3 →
    Completes (.railMonitorChange which ok) s fun t =>
      t.pends 17 = true ∧ (which = 0 → t.on F.PMU_RAILSTAT_VCONN_OK 0 = ok)
        ∧ (which = 1 → t.bit F.PMU_RAILSTAT_VIO_OK 0 4 = ok)
        ∧ (which = 2 → t.on F.PMU_RAILSTAT_VBAT_OK 0 = ok ∧ t.on F.RTC_STATUS_VBAT_LOW 0 = !ok))

/-- References, epoch and temperatures (R63, R64, R67, R85, R86, R121, R384, R484). -/
def Obligations.ClockAndTemperatureCommands : Prop :=
  (∀ s, s.on F.PMU_CLKSTAT_PLL_LOCK 0 = true → s.power.refHold = false → s.on F.PMU_CLKSTAT_REF_ACTIVE 0 = false →
    Completes .referenceLost s fun t =>
      t.on F.PMU_CLKSTAT_XO_OK 0 = false ∧ t.power.refHold = !s.on F.PMU_CLKSTAT_REC_OK 0
        ∧ t.on F.PMU_CLKSTAT_REF_ACTIVE 0 = s.on F.PMU_CLKSTAT_REC_OK 0 ∧ t.ct = s.ct) ∧
  (∀ s, s.on F.PMU_CLKSTAT_PLL_LOCK 0 = true → s.power.refHold = false → s.on F.PMU_CLKSTAT_REF_ACTIVE 0 = true →
    Completes .referenceLost s fun t =>
      t.on F.PMU_CLKSTAT_REC_OK 0 = false ∧ t.power.refHold = !s.on F.PMU_CLKSTAT_XO_OK 0
        ∧ t.on F.PMU_CLKSTAT_REF_ACTIVE 0 = !s.on F.PMU_CLKSTAT_XO_OK 0 ∧ t.ct = s.ct) ∧
  (∀ s viaLink, s.power.boot ≠ .off → (viaLink = false ∨ s.apex = false) →
    Completes (.referenceReturn viaLink) s fun t =>
      t.on (if viaLink then F.PMU_CLKSTAT_REC_OK else F.PMU_CLKSTAT_XO_OK) 0 = true ∧ t.power.refHold = false
        ∧ (s.power.refHold = true → t.on F.PMU_CLKSTAT_REF_ACTIVE 0 = viaLink)
        ∧ (s.power.refHold = false → t.on F.PMU_CLKSTAT_REF_ACTIVE 0 = s.on F.PMU_CLKSTAT_REF_ACTIVE 0) ∧ t.ct = s.ct) ∧
  (∀ s, s.on F.PMU_CLKSTAT_PLL_LOCK 0 = true → s.on F.PMU_CLKCTL_AUTO 0 = true → s.apex = false →
    s.on F.PMU_CLKSTAT_REC_OK 0 = true → s.upActive = true →
    Completes .recoveredReferenceSwitch s fun t =>
      t.on F.PMU_CLKSTAT_REF_ACTIVE 0 = true ∧ t.ct = s.ct) ∧
  (∀ s, s.power.aon = true → s.sync = 2 → s.power.rtcPart < rtcUnit → s.power.rtcCount < 2 ^ 48 - 1 → s.ct < 2 ^ 64 →
    Completes .epochTrackUpdate s fun t =>
      t.power.rtcCount = s.power.rtcCount + 1 ∧ t.ct = (s.ct + s.untilRtc 1) % 2 ^ 64
        ∧ t.ct = seedCt t.power.rtcCount (t.fld64 F.RTC_EPOCH_LO_EPOCH F.RTC_EPOCH_HI_EPOCH 0)) ∧
  (∀ s stage, s.power.boot ≠ .off → stage ≤ 2 → stage ≠ s.fld F.PMU_CLKSTAT_THROTTLE 0 →
    Completes (.throttleStageChange stage) s fun t =>
      t.fld F.PMU_CLKSTAT_THROTTLE 0 = stage ∧ t.pends 16 = true
        ∧ (stage = 2 → s.domOn Dom.trace = true → t.domChanging Dom.trace = true)) ∧
  (∀ s d stage tdie, d < 5 → s.dieOn (d + 1) = true → s.dieAbsent (d + 1) = false → stage ≤ (if d = 4 then 1 else 2) →
    stage ≠ (if s.on F.DIE_STAT_SHUTDOWN d then 2 else if s.on F.DIE_STAT_HOT d then 1 else 0) →
    Completes (.currantDieTempStage d stage tdie) s fun t =>
      t.fld F.DIE_STAT_TDIE d = ofInt 16 tdie ∧ t.on F.DIE_STAT_HOT d = decide (1 ≤ stage)
        ∧ t.on F.DIE_STAT_SHUTDOWN d = decide (stage = 2) ∧ (d < 4 → t.pends (5 + d) = true))

/-- Domains (R65, R485), D2D links (R19, R120, R401) and protection (R111, R114 to R117). -/
def Obligations.DomainLinkAndProtectionCommands : Prop :=
  (∀ s d, 2 ≤ d → d ≤ 10 → s.domChanging d = true → s.domOn d = false →
    (s.power.broughtUp = true ∨ overlapApplied s (s.switchedOn d) = false) →
    Completes (.domainSwitchOn d) s fun t =>
      t.domOn d = true ∧ t.pends 15 = true) ∧
  (∀ s d, 2 ≤ d → d ≤ 10 → s.domLeaving d = true → s.domMayEnd d = true →
    Completes (.domainSwitchOff d) s fun t =>
      t.domOn d = false ∧ t.pends 15 = true) ∧
  (∀ s d dup, 1 ≤ d → d ≤ 7 → s.fld F.D2D_LSTAT_STATE d = 3 →
    Completes (.d2dFrameResend d dup) s fun t =>
      t.fld F.D2D_LCNT0_RETRIES d = (s.fld F.D2D_LCNT0_RETRIES d + 1) % 2 ^ 16
        ∧ (dup = true → t.fld F.D2D_LCNT1_DUPFAIL d = (s.fld F.D2D_LCNT1_DUPFAIL d + 1) % 2 ^ 16)
        ∧ (dup = false → t.fld F.D2D_LCNT1_DUPFAIL d = s.fld F.D2D_LCNT1_DUPFAIL d) ∧ (d ≤ 4 → t.pends (4 + d) = true)) ∧
  (∀ s d, 1 ≤ d → d ≤ 7 → s.fld F.D2D_LSTAT_STATE d = 3 →
    Completes (.d2dLinkLost d) s fun t =>
      t.fld F.D2D_LSTAT_STATE d = 4 ∧ t.pends 26 = true) ∧
  (∀ s d, 1 ≤ d → d ≤ 7 → s.fld F.D2D_LSTAT_STATE d = 4 →
    Completes (.d2dLinkRetrained d) s fun t =>
      t.fld F.D2D_LSTAT_STATE d = 3 ∧ t.fld F.D2D_LCNT0_LOSSES d = (s.fld F.D2D_LCNT0_LOSSES d + 1) % 2 ^ 16) ∧
  (∀ s d, 1 ≤ d → d ≤ 7 → s.fld F.D2D_LSTAT_STATE d = 4 →
    Completes (.d2dLoss1ms d) s fun t =>
      t.fld F.D2D_LSTAT_STATE d = 4
        ∧ (s.power.d2dLong.contains d = false → ∀ p ∈ linkPorts d, s.live p = true → (t.pwr.at p).d2dOff = true)) ∧
  (∀ s d, 1 ≤ d → d ≤ 7 → s.fld F.D2D_LSTAT_STATE d = 2 →
    Completes (.d2dLinkTrained d) s fun t =>
      t.fld F.D2D_LSTAT_STATE d = 3 ∧ t.fld F.D2D_LCNT1_TRAINS d = (s.fld F.D2D_LCNT1_TRAINS d + 1) % 2 ^ 16) ∧
  (∀ s m a n k (h : Home), homeAt a = some h → m ≤ 10 → s.violates m a n k = 0 → s.homeGone h = true →
    Completes (.absentBlockAccess m a n k) s fun t =>
      t.pends 19 = true) ∧
  (∀ s m a n k, 1 ≤ m → m ≤ 10 → s.violates m a n k ≠ 0 → s.bit F.MPU_FREEZE_FROZEN 0 m = false →
    Completes (.violation m a n k) s fun t =>
      t.bit F.MPU_FREEZE_FROZEN 0 m = true ∧ t.frozen.at m = ⟨a, k == .store⟩
        ∧ t.fld F.MPU_VIOL_ADDR_ADDR 0 = a % 2 ^ 32 ∧ t.fld F.MPU_VIOL_INFO_MASTER 0 = m
        ∧ t.fld F.MPU_VIOL_INFO_REASON 0 = s.violates m a n k - 1 ∧ t.on F.MPU_VIOL_INFO_VALID 0 = true
        ∧ t.on F.MPU_VIOL_INFO_ACCESS 0 = (k == .store)
        ∧ t.fld F.MPU_VIOL_COUNT_COUNT 0 = (s.fld F.MPU_VIOL_COUNT_COUNT 0 + 1) % 2 ^ 16 ∧ t.pends 18 = true) ∧
  (∀ s a n k, s.coreRuns 0 = true → s.violates 0 a n k ≠ 0 → (s.power.resetAge ≥ 9600 ∨ s.power.boot = .firmware) →
    Completes (.core0Violation a n k) s fun t =>
      t.fld F.PMU_RESET_CAUSE_CAUSE 0 = 7 ∧ t.fld F.MPU_VIOL_ADDR_ADDR 0 = a % 2 ^ 32
        ∧ t.fld F.MPU_VIOL_INFO_MASTER 0 = 0 ∧ t.on F.MPU_VIOL_INFO_VALID 0 = true
        ∧ (t.power.boot = if s.bootSupplied && s.power.rstN && !s.power.sample && !s.power.hot then (if s.power.testEn || !diesValid s.power.dies then .halted else .rom) else .off)) ∧
  (∀ s mask (m : Nat), 1 ≤ m → m ≤ 10 → mask.testBit m = true → s.bit F.MPU_FREEZE_FROZEN 0 m = true →
    Completes (.thaw mask) s fun t =>
      t.bit F.MPU_FREEZE_FROZEN 0 m = false ∧ t.frozen.at m = default
        ∧ (s.on F.SYS_DMASTAT_FROZEN (m - 5) = true → 5 ≤ m → m ≤ 8 →
          t.on F.SYS_DMASTAT_FROZEN (m - 5) = false
          ∧ t.fld F.SYS_DMACNT1_ABSENTS (m - 5) = (s.fld F.SYS_DMACNT1_ABSENTS (m - 5) + 1) % 2 ^ 16))

/-- Stores (R92, R98), alias views (R95, R96), staged writes (R101 to R108) and snapshots (R110), each on registers that
stand for their kind: the flash page buffer for a field that applies at once, PWR_VSET.VSET for one that waits. -/
def Obligations.RegisterCommands : Prop :=
  (∀ s m a n data hw, m ≤ 10 → s.bit F.MPU_FREEZE_FROZEN 0 m = false → s.violates m a n .store = 0 → 0x20000000 ≤ a →
    a < 0x20200000 → s.openCase m a n data = 0 →
    Completes (.registerWrite m a n data hw) s fun t =>
      (∀ j, j < n → readByte t.mem (a + j) = BitVec.ofNat 8 (data / 256 ^ j))
        ∧ (∀ b, (b < a ∨ a + n ≤ b) → readByte t.mem b = readByte s.mem b) ∧ s.OnlyIn [.mem] t ∧ t.regs = s.regs
        ∧ (∀ j ∈ List.range n, readByte t.mem (a + j) = BitVec.ofNat 8 (data / 256 ^ j))
        ∧ readByte t.mem (a + n) = readByte s.mem (a + n) ∧ readByte t.mem (a - 1) = readByte s.mem (a - 1)) ∧
  (∀ s m a n data hw, m ≤ 4 → s.bit F.MPU_FREEZE_FROZEN 0 m = false → s.violates m a n .store = 0 → 0x10000000 ≤ a →
    a < 0x10080000 → s.openCase m a n data = 0 →
    Completes (.registerWrite m a n data hw) s fun t =>
      (∀ j, j < n → readByte t.mem (tcmAddr m (a - 0x10000000) + j) = BitVec.ofNat 8 (data / 256 ^ j))
        ∧ (∀ b, (b < tcmAddr m (a - 0x10000000) ∨ tcmAddr m (a - 0x10000000) + n ≤ b) → readByte t.mem b = readByte s.mem b)
        ∧ s.OnlyIn [.mem] t ∧ t.regs = s.regs
        ∧ (∀ j ∈ List.range n, readByte t.mem (tcmAddr m (a - 0x10000000) + j) = BitVec.ofNat 8 (data / 256 ^ j))) ∧
  (∀ s m a n data hw, 1 ≤ m → m ≤ 10 → s.bit F.MPU_FREEZE_FROZEN 0 m = false → s.violates m a n .store ≠ 0 →
    Completes (.registerWrite m a n data hw) s fun t =>
      t.bit F.MPU_FREEZE_FROZEN 0 m = true ∧ t.mem = s.mem ∧ t.fld F.MPU_VIOL_ADDR_ADDR 0 = a % 2 ^ 32) ∧
  (∀ s m a n data hw (j : Nat), m ≤ 10 → j < 64 → a = 0x400A0100 + 4 * j → s.on F.QSPI_STAT_OPBUSY 0 = false → n = 4 →
    s.bit F.MPU_FREEZE_FROZEN 0 m = false → s.violates m a n .store = 0 →
    Completes (.registerWrite m a n data hw) s fun t =>
      t.fld F.QSPI_PBUF_DATA j = data % 2 ^ 32 ∧ (∀ i, i ≠ j → t.fld F.QSPI_PBUF_DATA i = s.fld F.QSPI_PBUF_DATA i)
        ∧ t.fld F.QSPI_PBUF_DATA (j + 1) = s.fld F.QSPI_PBUF_DATA (j + 1) ∧ t.mem = s.mem) ∧
  (∀ s v m a n data hw (j : Nat), m ≤ 10 → j < 64 → a = 0x400A0100 + 4 * j → s.on F.QSPI_STAT_OPBUSY 0 = false → n = 4 →
    s.bit F.MPU_FREEZE_FROZEN 0 m = false → s.violates m (a + v.offset) n .store = 0 →
    s.pendingWrite F.QSPI_PBUF_DATA j = none → s.fld F.QSPI_PBUF_DATA j < 2 ^ 32 →
    Completes (.aliasWrite v m a n data hw) s fun t =>
      t.fld F.QSPI_PBUF_DATA j = (match v with | .set => Nat.lor (s.fld F.QSPI_PBUF_DATA j) (data % 2 ^ 32) | .clr => Nat.land (s.fld F.QSPI_PBUF_DATA j) (2 ^ 32 - 1 - data % 2 ^ 32) | .tgl => Nat.xor (s.fld F.QSPI_PBUF_DATA j) (data % 2 ^ 32))) ∧
  (∀ s m a n data hw (p : Nat), m ≤ 10 → 1 ≤ p → p ≤ 32 → a = 0x50010100 + 0x1000000 * currant p + 0x40 * place8 p → n = 2 →
    s.bit F.MPU_FREEZE_FROZEN 0 m = false → s.violates m a n .store = 0 → s.absentAt a = none →
    Completes (.registerWrite m a n data hw) s fun t =>
      t.regs = s.regs ∧ t.pendingWrite F.PWR_VSET_VSET p = some (data % 2 ^ 13)
        ∧ t.shown F.PWR_VSET_VSET p = data % 2 ^ 13 ∧ s.OnlyIn [.staged] t) ∧
  (∀ s b k hw (p v : Nat), 1 ≤ p → p ≤ 32 → s.fitted p = true → b = .p → k = currant p →
    s.staged = [⟨F.PWR_VSET_VSET, p, v⟩] → s.on F.PWR_STAGE_HOLD k = false → (∀ x ∈ hw, x.fieldId ≠ F.PWR_VSET_VSET.id) →
    Completes (.stagedWriteApply b k hw) s fun t =>
      t.fld F.PWR_VSET_VSET p = v % 2 ^ 13 ∧ t.staged = []) ∧
  (∀ s b k hw (p v : Nat), 1 ≤ p → p ≤ 32 → b = .p → s.staged = [⟨F.PWR_VSET_VSET, p, v⟩] →
    (k ≠ currant p ∨ s.on F.PWR_STAGE_HOLD k = true) →
    Completes (.stagedWriteApply b k hw) s fun t =>
      t = s) ∧
  (∀ s blk j hw (f : Field) (h : Home), stageOf blk = some f → slotHome f.id j = some h → s.on f j = true →
    (∀ x ∈ s.staged, ((slotHome x.field.id x.index).any (·.base == h.base)) = false) →
    Completes (.holdRelease blk j hw) s fun t =>
      t.on f j = false ∧ t.staged = s.staged) ∧
  (∀ s blk j hw (v w : Nat), blk = .rtc → j = 0 → s.power.aon = true → s.on F.RTC_STAGE_HOLD 0 = true →
    s.on F.RTC_ALARM_HI_ARM 0 = false → s.staged = [⟨F.RTC_ALARM_LO_ALARM_LO, 0, v⟩, ⟨F.RTC_ALARM_HI_ALARM_HI, 0, w⟩] →
    (∀ x ∈ hw, x.fieldId ≠ F.RTC_ALARM_LO_ALARM_LO.id ∧ x.fieldId ≠ F.RTC_ALARM_HI_ALARM_HI.id) →
    Completes (.holdRelease blk j hw) s fun t =>
      t.on F.RTC_STAGE_HOLD 0 = false ∧ t.fld F.RTC_ALARM_LO_ALARM_LO 0 = v % 2 ^ 32
        ∧ t.fld F.RTC_ALARM_HI_ALARM_HI 0 = w % 2 ^ 16 ∧ t.staged = []) ∧
  (∀ s k sel, s.snapOn k = true → (s.snaps.at k).pending = false → k < 8 → k ≠ 2 → k ≠ 3 →
    Completes (.snapReq k sel) s fun t =>
      (t.snaps.at k).pending = true ∧ (t.snaps.at k).sel = sel % 2 ^ (snapFields k).2.1.width) ∧
  (∀ s k sel, s.snapOn k = true → (s.snaps.at k).pending = false → (k = 2 ∨ k = 3) →
    Completes (.snapReq k sel) s fun t =>
      (t.snaps.at k).pending = false ∧ t.on (snapFields k).1 (snapFields k).2.2.2.2 = true) ∧
  (∀ s k, s.snapOn k = true → (s.snaps.at k).pending = true → k < 8 →
    Completes (.snapCapture k) s fun t =>
      (t.snaps.at k).pending = false ∧ t.on (snapFields k).1 (snapFields k).2.2.2.2 = true
        ∧ (k ≠ 0 →
          t.fld64 (snapFields k).2.2.1 (snapFields k).2.2.2.1 (snapFields k).2.2.2.2 = s.snapValue k (s.snaps.at k).sel % 2 ^ 64)) ∧
  (∀ s k, s.snapOn k = true → k < 8 →
    Completes (.snapHiRead k) s fun t =>
      t.on (snapFields k).1 (snapFields k).2.2.2.2 = false ∧ t.mem = s.mem)

/-- Upstream events (R123, R124, R133, R135, R151) and the requests to the hub itself (R125 to R128). -/
def Obligations.UpstreamAndHubCommands : Prop :=
  (∀ s k, s.hubUp k = true →
    Completes (.upstreamBusReset k) s fun t =>
      t.fld F.PART_PSTAT_ADDR k = 0 ∧ t.on F.PART_PSTAT_CONFIGURED k = false ∧ t.on F.PART_PSTAT_SUSPENDED k = false
        ∧ t.fld F.PART_HOSTPWR_PWR k = 0 ∧ t.fld F.PART_PCNT_UPRESETS k = (s.fld F.PART_PCNT_UPRESETS k + 1) % 2 ^ 16
        ∧ t.on F.PART_PSTAT_ATTACHED k = true ∧ t.pends (128 + k) = true) ∧
  (∀ s k, s.hubUp k = true →
    Completes (.upstreamDetach k) s fun t =>
      (t.parts.at k).hostVbus = false ∧ t.on F.PART_PSTAT_HOST k = false ∧ t.on F.PART_PSTAT_ATTACHED k = false
        ∧ t.fld F.PART_HOSTPWR_PWR k = 0 ∧ t.fld F.PART_PSTAT_ADDR k = 0
        ∧ t.fld F.PART_PCNT_DETACHES k = (s.fld F.PART_PCNT_DETACHES k + 1) % 2 ^ 16 ∧ t.pends (128 + k) = true) ∧
  (∀ s k vbus, k < 4 →
    Completes (.hostPresenceChange k vbus) s fun t =>
      (t.parts.at k).hostVbus = vbus
        ∧ t.on F.PART_PSTAT_HOST k = (s.hasUpstream k && s.domOn Dom.fabric && (decide (k = 0) || s.domOn Dom.uplink) && s.ccIs (33 + k) .attachedSnk && vbus)
        ∧ t.on F.PART_PSTAT_ATTACHED k = (t.on F.PART_PSTAT_HOST k && s.on F.PART_PCTL_PULLUP k)) ∧
  (∀ s k completed, s.hubUp k = true →
    Completes (.hsChirpHandshake k completed) s fun t =>
      t.on F.PART_PSTAT_SPEED k = completed ∧ s.OnlyIn [.reg .part] t) ∧
  (∀ s k, s.hubUp k = true →
    Completes (.partitionSuspend k) s fun t =>
      t.on F.PART_PSTAT_SUSPENDED k = true ∧ t.pends (128 + k) = true
        ∧ (∀ p, t.fld F.DPE_STATE_STATE p = s.fld F.DPE_STATE_STATE p)) ∧
  (∀ s k (p : Nat), s.hubUp k = true → s.on F.PART_PSTAT_SUSPENDED k = true → p ∈ s.portsOfPart k →
    s.dpeIs p .enabled = true →
    Completes (.hostResume k) s fun t =>
      (t.parts.at k).resuming = true ∧ t.dpeIs p .transmit = true ∧ (t.dpe.at p).driving = true
        ∧ t.on F.PART_PSTAT_SUSPENDED k = true) ∧
  (∀ s k, s.hubUp k = true → s.on F.PART_PSTAT_SUSPENDED k = true →
    Completes (.hostResumeEnd k) s fun t =>
      t.on F.PART_PSTAT_SUSPENDED k = false ∧ (t.parts.at k).resuming = false ∧ (t.parts.at k).wakeUp = false
        ∧ t.pends (128 + k) = true) ∧
  (∀ s k requestType request value length, s.hubUp k = true → requestType = 0 → request = 5 →
    Completes (.hubDeviceRequest k requestType request value length) s fun t =>
      t.fld F.PART_PSTAT_ADDR k = value % 128 ∧ (t.parts.at k).answer = .ack) ∧
  (∀ s k requestType request value length, s.hubUp k = true → requestType = 0 → request = 9 → value ≤ 1 →
    Completes (.hubDeviceRequest k requestType request value length) s fun t =>
      t.fld F.PART_PSTAT_CONFIGURED k = value ∧ (t.parts.at k).answer = .ack
        ∧ (t.power.inLimit = if k = 0 ∧ value = 1 ∧ s.power.inLimit ≠ 0 then 500 else s.power.inLimit)) ∧
  (∀ s k requestType request value length, s.hubUp k = true → requestType = 0 → (request = 3 ∨ request = 1) → value = 1 →
    Completes (.hubDeviceRequest k requestType request value length) s fun t =>
      (t.parts.at k).remoteWake = decide (request = 3) ∧ (t.parts.at k).answer = .ack) ∧
  (∀ s k requestType request value length, s.hubUp k = true → (requestType = 0x80 ∨ requestType = 0xA0) → request = 6 →
    value = (if requestType = 0x80 then 0x0100 else 0x2900) →
    Completes (.hubDeviceRequest k requestType request value length) s fun t =>
      (t.parts.at k).answer = .data 1 ((if requestType = 0x80 then s.hubDevice k else hubDescriptor).take length)
        ∧ t.regs = s.regs) ∧
  (∀ s k requestType request value length, s.hubUp k = true → requestType = 0x20 → request = 1 → value = 0 →
    Completes (.hubDeviceRequest k requestType request value length) s fun t =>
      (t.parts.at k).localPowerChange = false ∧ (t.parts.at k).answer = .ack) ∧
  (∀ s k p, s.hubUp k = true → s.owns k p = true →
    Completes (.getPortStatus k p) s fun t =>
      t = s.answer k (.data 1 (le 2 (s.wPortStatus p) ++ le 2 (s.fld F.DPE_PORTSTAT_CHANGE p)))
        ∧ (t.parts.at k).answer = .data 1 (le 2 (s.wPortStatus p) ++ le 2 (s.fld F.DPE_PORTSTAT_CHANGE p))) ∧
  (∀ s k p, s.hubUp k = true → s.owns k p = false →
    Completes (.getPortStatus k p) s fun t =>
      (p = 33 → t = s.answer k (.data 1 (le 2 (s.status33 k) ++ le 2 (s.parts.at k).change33)))
        ∧ (1 ≤ p → p ≤ 32 → t = s.answer k (.data 1 ([0, 0] ++ le 2 (bit01 ((s.parts.at k).leftChange.testBit (p - 1))))))
        ∧ ((p = 0 ∨ 33 < p) → t = s.answer k .stall)) ∧
  (∀ s k, s.hubUp k = true →
    Completes (.portIndicatorRequest k) s fun t =>
      t = s.answer k .stall) ∧
  (∀ s k p b, s.hubUp k = true → s.owns k p = true →
    Completes (.clearPortChange k p b) s fun t =>
      t.bit F.DPE_PORTSTAT_CHANGE p b = false ∧ (t.parts.at k).answer = .ack) ∧
  (∀ s k p b, s.hubUp k = true → s.owns k p = false →
    Completes (.clearPortChange k p b) s fun t =>
      (p = 33 → (t.parts.at k).change33 = withBit (s.parts.at k).change33 b false ∧ (t.parts.at k).answer = .ack)
        ∧ (1 ≤ p → p ≤ 32 → b = cConnection →
          (t.parts.at k).leftChange = withBit (s.parts.at k).leftChange (p - 1) false ∧ (t.parts.at k).answer = .ack)
        ∧ ((p = 0 ∨ 33 < p) → t = s.answer k .stall))

/-- The class requests that change a port (R128, R148, R152 to R154, R193); their effect at the boundary is
PortRequestsActAtTheFrame. -/
def Obligations.HubPortRequestCommands : Prop :=
  (∀ s k p, s.hubUp k = true → 1 ≤ p → p ≤ 33 → s.testBlocks k p = false →
    Completes (.setPortPower k p) s fun t =>
      (t.parts.at k).requests = (s.parts.at k).requests ++ [.power p true] ∧ (t.parts.at k).answer = .ack
        ∧ t.regs = s.regs) ∧
  (∀ s k p, s.hubUp k = true →
    Completes (.setPortPower k p) s fun t =>
      (p = 0 ∨ 33 < p → t = s.answer k .stall) ∧ (s.owns k p = true → s.testBlocks k p = true → t = s.answer k .stall)) ∧
  (∀ s k p, s.hubUp k = true → 1 ≤ p → p ≤ 33 → s.testBlocks k p = false →
    Completes (.clearPortPower k p) s fun t =>
      (t.parts.at k).requests = (s.parts.at k).requests ++ [.power p false] ∧ (t.parts.at k).answer = .ack
        ∧ t.regs = s.regs) ∧
  (∀ s k p, s.hubUp k = true →
    Completes (.clearPortPower k p) s fun t =>
      (p = 0 ∨ 33 < p → t = s.answer k .stall) ∧ (s.owns k p = true → s.testBlocks k p = true → t = s.answer k .stall)) ∧
  (∀ s k p, s.hubUp k = true → 1 ≤ p → p ≤ 33 → s.testBlocks k p = false →
    Completes (.setPortReset k p) s fun t =>
      (t.parts.at k).requests = (s.parts.at k).requests ++ [.reset p] ∧ (t.parts.at k).answer = .ack ∧ t.regs = s.regs) ∧
  (∀ s k p, s.hubUp k = true →
    Completes (.setPortReset k p) s fun t =>
      (p = 0 ∨ 33 < p → t = s.answer k .stall) ∧ (s.owns k p = true → s.testBlocks k p = true → t = s.answer k .stall)) ∧
  (∀ s k p, s.hubUp k = true → 1 ≤ p → p ≤ 33 → s.testBlocks k p = false →
    Completes (.setPortSuspend k p) s fun t =>
      (t.parts.at k).requests = (s.parts.at k).requests ++ [.suspend p] ∧ (t.parts.at k).answer = .ack
        ∧ t.regs = s.regs) ∧
  (∀ s k p, s.hubUp k = true →
    Completes (.setPortSuspend k p) s fun t =>
      (p = 0 ∨ 33 < p → t = s.answer k .stall) ∧ (s.owns k p = true → s.testBlocks k p = true → t = s.answer k .stall)) ∧
  (∀ s k p, s.hubUp k = true → 1 ≤ p → p ≤ 33 → s.testBlocks k p = false →
    Completes (.clearPortSuspend k p) s fun t =>
      (t.parts.at k).requests = (s.parts.at k).requests ++ [.resume p] ∧ (t.parts.at k).answer = .ack
        ∧ t.regs = s.regs) ∧
  (∀ s k p, s.hubUp k = true →
    Completes (.clearPortSuspend k p) s fun t =>
      (p = 0 ∨ 33 < p → t = s.answer k .stall) ∧ (s.owns k p = true → s.testBlocks k p = true → t = s.answer k .stall)) ∧
  (∀ s k p, s.hubUp k = true → 1 ≤ p → p ≤ 33 → s.testBlocks k p = false →
    Completes (.clearPortEnable k p) s fun t =>
      (t.parts.at k).requests = (s.parts.at k).requests ++ [.disable p] ∧ (t.parts.at k).answer = .ack
        ∧ t.regs = s.regs) ∧
  (∀ s k p, s.hubUp k = true →
    Completes (.clearPortEnable k p) s fun t =>
      (p = 0 ∨ 33 < p → t = s.answer k .stall) ∧ (s.owns k p = true → s.testBlocks k p = true → t = s.answer k .stall)) ∧
  (∀ s k p, s.hubUp k = true → 1 ≤ p → p ≤ 33 → s.testBlocks k p = false →
    Completes (.clearPortL1 k p) s fun t =>
      (t.parts.at k).requests = (s.parts.at k).requests ++ [.exitL1 p] ∧ (t.parts.at k).answer = .ack
        ∧ t.regs = s.regs) ∧
  (∀ s k p, s.hubUp k = true →
    Completes (.clearPortL1 k p) s fun t =>
      (p = 0 ∨ 33 < p → t = s.answer k .stall) ∧ (s.owns k p = true → s.testBlocks k p = true → t = s.answer k .stall)) ∧
  (∀ s k p selector, s.hubUp k = true → s.owns k p = true → s.testAllowed k p selector = true →
    Completes (.setPortTest k p selector) s fun t =>
      (t.parts.at k).requests = (s.parts.at k).requests ++ [.test p selector] ∧ (t.parts.at k).answer = .ack
        ∧ t.regs = s.regs) ∧
  (∀ s k p selector, s.hubUp k = true →
    Completes (.setPortTest k p selector) s fun t =>
      (s.owns k p = true → s.testAllowed k p selector = false → t = s.answer k .stall)
        ∧ (s.owns k p = false → 1 ≤ p → p ≤ 33 → t = s.answer k .ack) ∧ ((p = 0 ∨ 33 < p) → t = s.answer k .stall)) ∧
  (∀ s k p besl addr rwe h, s.hubUp k = true → s.owns k p = true → s.testBlocks k p = false → s.dpeIs p .enabled = true →
    s.on F.DPE_CTL_LPM_EN p = true → h = .ack →
    Completes (.setAndTestPortL1 k p besl addr rwe h) s fun t =>
      t.dpeIs p .l1 = true ∧ t.fld F.DPE_LPM_BESL p = besl % 16 ∧ t.fld F.DPE_LPM_ADDR p = addr % 128
        ∧ t.on F.DPE_LPM_RWE p = rwe ∧ (t.parts.at k).answer = .ack) ∧
  (∀ s k p besl addr rwe h, s.hubUp k = true →
    Completes (.setAndTestPortL1 k p besl addr rwe h) s fun t =>
      (s.owns k p = true → s.testBlocks k p = false → h ≠ .ack → t = s.answer k h.answer)
        ∧ (s.owns k p = true → s.testBlocks k p = true → t = s.answer k .stall)
        ∧ (s.owns k p = false → 1 ≤ p → p ≤ 32 → t = s.answer k .ack) ∧ ((p = 0 ∨ 32 < p) → t = s.answer k .stall))

/-- Assignment (R130 to R132, R145) and migration (R137 to R141, R148). -/
def Obligations.AssignmentAndMigrationCommands : Prop :=
  (∀ s p v, s.fitted p = true → s.bit F.PART_MIGBUSY_BUSY 0 (p - 1) = false →
    Completes (.assignWrite p v) s fun t =>
      t.partOf p = s.assignValue v
        ∧ (s.partOf p ≠ s.assignValue v → (s.parts.at (s.assignValue v)).leftChange.testBit (p - 1) = false →
          t.fld F.DPE_PORTSTAT_CHANGE p = 0)
        ∧ (s.partOf p ≠ 15 → s.assignValue v = 15 → s.dpeIn p [.isolated, .quarantined] = false →
          t.dpeIs p .poweredOff = true)
        ∧ (s.partOf p = s.assignValue v → t = s)) ∧
  (∀ s p v, s.fitted p = true → s.bit F.PART_MIGBUSY_BUSY 0 (p - 1) = false → s.partOf p < 4 → s.assignValue v < 4 →
    s.partOf p ≠ v →
    Completes (.hardMove p v) s fun t =>
      t.partOf p = v ∧ (s.connected p = true → (t.parts.at (s.partOf p)).leftChange.testBit (p - 1) = true)) ∧
  (∀ s (p : Nat), 1 ≤ p → p ≤ 32 → s.fld F.PART_MIGMASK_MASK 0 = 2 ^ (p - 1) →
    s.migRefusal p (s.fld F.PART_MIGCTL_DEST 0) = 0 →
    Completes .migctlGo s fun t =>
      t.bit F.PART_MIGBUSY_BUSY 0 (p - 1) = true
        ∧ t.migs.at p = ⟨true, s.partOf p, s.fld F.PART_MIGCTL_DEST 0, s.on F.PART_MIGCTL_KEEPALIVE 0, false, 0, .none, clamp 1 100 (s.fld F.PART_MIGCTL_TIMEOUT 0), 1⟩
        ∧ t.partOf p = s.partOf p) ∧
  (∀ s (p : Nat), 1 ≤ p → p ≤ 32 → s.fld F.PART_MIGMASK_MASK 0 = 2 ^ (p - 1) →
    s.migRefusal p (s.fld F.PART_MIGCTL_DEST 0) ≠ 0 →
    Completes .migctlGo s fun t =>
      t.fld F.PART_MIGREFUSE_COUNT 0 = (s.fld F.PART_MIGREFUSE_COUNT 0 + 1) % 2 ^ 16 ∧ t.pends 132 = true
        ∧ t.migs = s.migs) ∧
  (∀ s p, (s.migs.at p).active = true → (s.migs.at p).step = 1 → (s.parts.at (s.partOf p)).requests = [] →
    s.dpeIn p deviceStates = true →
    Completes (.migrationSourceBoundary p) s fun t =>
      (t.migs.at p).step = 2
        ∧ (t.migs.at p).keepalive = ((s.migs.at p).wantKeepalive && s.dpeIn p [.enabled, .transmit])
        ∧ t.fld F.DPE_PORTSTAT_CHANGE p = 0 ∧ t.dpeIs p .migrating = true
        ∧ (s.connected p = true → s.partOf p < 4 → (t.parts.at (s.partOf p)).leftChange.testBit (p - 1) = true)) ∧
  (∀ s p, (s.migs.at p).active = true → (s.migs.at p).step = 1 → (s.parts.at (s.partOf p)).requests = [] →
    s.dpeIn p [.poweredOff, .disconnected, .isolated] = true →
    Completes (.migrationSourceBoundary p) s fun t =>
      (t.migs.at p).step = 2 ∧ t.fld F.DPE_PORTSTAT_CHANGE p = 0
        ∧ t.fld F.DPE_STATE_STATE p = s.fld F.DPE_STATE_STATE p) ∧
  (∀ s p, (s.migs.at p).active = true → (s.migs.at p).step = 2 → (s.migs.at p).dest < 4 →
    (s.parts.at (s.migs.at p).dest).requests = [] → s.dpeIs p .migrating = true → s.live p = true →
    s.on F.DPE_STATE_DEV p = true → s.isoCause p = false → s.bit F.PART_HOSTPWR_PWR (s.migs.at p).dest (p - 1) = true →
    Completes (.migrationDestBoundary p) s fun t =>
      t.partOf p = (s.migs.at p).dest ∧ (t.migs.at p).step = 4 ∧ t.dpeIs p .migrating = true
        ∧ t.bit F.DPE_PORTSTAT_CHANGE p cConnection = true) ∧
  (∀ s p, (s.migs.at p).active = true → (s.migs.at p).step = 2 → (s.migs.at p).dest < 4 →
    (s.parts.at (s.migs.at p).dest).requests = [] → s.dpeIs p .migrating = false →
    Completes (.migrationDestBoundary p) s fun t =>
      t.partOf p = (s.migs.at p).dest ∧ (t.migs.at p).active = false ∧ t.bit F.PART_MIGBUSY_BUSY 0 (p - 1) = false
        ∧ t.fld F.PART_MIGCNT_DONE 0 = (s.fld F.PART_MIGCNT_DONE 0 + 1) % 2 ^ 16) ∧
  (∀ s p, (s.migs.at p).active = true → (s.migs.at p).keepalive = true →
    Completes (.keepaliveSof p) s fun t =>
      (t.migs.at p).sent = (s.migs.at p).sent + 1 ∧ s.OnlyIn [.migs] t) ∧
  (∀ s p, (s.migs.at p).active = true → (s.migs.at p).step = 4 → s.dpeIs p .migrating = true →
    Completes (.migrationDestReset p) s fun t =>
      (t.migs.at p).step = 5 ∧ (t.migs.at p).keepalive = false ∧ t.dpeIs p .resetting = true) ∧
  (∀ s p, (s.migs.at p).active = true → (s.migs.at p).step = 4 →
    Completes (.migrationTimeout p) s fun t =>
      (t.migs.at p).active = false ∧ t.bit F.PART_MIGBUSY_BUSY 0 (p - 1) = false
        ∧ t.fld F.PART_MIGCNT_DONE 0 = (s.fld F.PART_MIGCNT_DONE 0 + 1) % 2 ^ 16
        ∧ (s.dpeIs p .migrating = true → t.dpeIs p .disabled = true)) ∧
  (∀ s p cause, (s.migs.at p).active = true → ((cause = 1 ∧ (s.migs.at p).step < 3
    ∧ s.on F.PART_PSTAT_ATTACHED (s.migs.at p).dest = false) ∨ (cause = 2 ∧ s.dpeIs p .quarantined = true) ∨ (cause = 3
    ∧ s.pwrIs p .latched = true)) →
    Completes (.migrationAbort p cause) s fun t =>
      (t.migs.at p).active = false ∧ t.bit F.PART_MIGBUSY_BUSY 0 (p - 1) = false
        ∧ t.fld F.PART_MIGCNT_ABORTED 0 = (s.fld F.PART_MIGCNT_ABORTED 0 + 1) % 2 ^ 16 ∧ t.partOf p = s.partOf p
        ∧ t.pends 132 = true)

/-- The port engine's bus events (R148 to R153). -/
def Obligations.PortEngineCommands : Prop :=
  (∀ s p low, s.dpeIs p .disconnected = true → s.switchClosed p = true → (s.dpe.at p).settling = false →
    Completes (.deviceConnect p low) s fun t =>
      t.dpeIs p .disabled = true ∧ (t.fld F.DPE_STATE_SPEED p = if low then 1 else 2) ∧ t.on F.DPE_STATE_DEV p = true
        ∧ t.fld F.DPE_CNT0_CONNECTS p = (s.fld F.DPE_CNT0_CONNECTS p + 1) % 2 ^ 16
        ∧ (1 ≤ p → p ≤ 32 → t.pends (95 + p) = true)) ∧
  (∀ s p, s.se0Ignored p = false → s.dpeIn p [.disabled, .enabled, .transmit, .suspended, .restartS, .restartE, .l1] = true →
    Completes (.deviceDisconnect p) s fun t =>
      t.dpeIs p .disconnected = true ∧ t.fld F.DPE_STATE_SPEED p = 0 ∧ t.on F.DPE_STATE_DEV p = false
        ∧ t.fld F.DPE_CNT0_DISCONNECTS p = (s.fld F.DPE_CNT0_DISCONNECTS p + 1) % 2 ^ 16) ∧
  (∀ s p, s.se0Ignored p = false → s.dpeIs p .migrating = true →
    Completes (.deviceDisconnect p) s fun t =>
      t.on F.DPE_STATE_DEV p = false ∧ (t.migs.at p).keepalive = false
        ∧ ((s.migs.at p).step < 4 → t.dpeIs p .migrating = true)
        ∧ (4 ≤ (s.migs.at p).step → t.dpeIs p .disconnected = true)) ∧
  (∀ s p completed, s.dpeIs p .resetting = true →
    Completes (.resetDriveEnd p completed) s fun t =>
      t.dpeIs p .enabled = true ∧ t.fld F.DPE_CNT1_RESETS p = (s.fld F.DPE_CNT1_RESETS p + 1) % 2 ^ 16
        ∧ (s.fld F.DPE_STATE_SPEED p = 1 → t.fld F.DPE_STATE_SPEED p = 1)
        ∧ (s.fld F.DPE_STATE_SPEED p ≠ 1 → s.on F.PART_PSTAT_SPEED (s.partOf p) = true → (s.dpe.at p).chirped = true →
          completed = true → (s.dpe.at p).corrupt ≠ 2 → t.fld F.DPE_STATE_SPEED p = 3)
        ∧ (s.fld F.DPE_STATE_SPEED p ≠ 1 → ((s.dpe.at p).chirped = false ∨ completed = false) →
          t.fld F.DPE_STATE_SPEED p = 2)) ∧
  (∀ s p microseconds, s.dpeIs p .resetting = true → s.on F.PART_PSTAT_SPEED (s.partOf p) = true →
    s.fld F.DPE_STATE_SPEED p ≠ 1 → 1000 ≤ microseconds → microseconds ≤ 7000 →
    Completes (.chirpDeviceK p microseconds) s fun t =>
      (t.dpe.at p).chirped = true
        ∧ t.fld F.DPE_CNT3_GLITCHES p = (if (s.dpe.at p).corrupt ≠ 0
          ∧ (s.dpe.at p).chirped = false then (s.fld F.DPE_CNT3_GLITCHES p + 1) % 2 ^ 16 else s.fld F.DPE_CNT3_GLITCHES p)
        ∧ (((s.dpe.at p).corrupt = 0 ∨ (s.dpe.at p).chirped = true) → s.OnlyIn [.dpe] t)) ∧
  (∀ s p, s.dpeIn p [.enabled, .transmit] = true →
    Completes (.babbleOrLoa p) s fun t =>
      t.dpeIs p .disabled = true ∧ t.fld F.DPE_CNT1_DISABLES p = (s.fld F.DPE_CNT1_DISABLES p + 1) % 2 ^ 16
        ∧ (s.partOf p < 4 → t.bit F.DPE_PORTSTAT_CHANGE p cEnable = true)) ∧
  (∀ s p besl addr rwe, s.dpeIs p .enabled = true → s.on F.DPE_CTL_LPM_EN p = true →
    Completes (.lpmAck p besl addr rwe) s fun t =>
      t.dpeIs p .l1 = true ∧ t.fld F.DPE_LPM_BESL p = besl % 16 ∧ t.fld F.DPE_LPM_ADDR p = addr % 128
        ∧ t.on F.DPE_LPM_RWE p = rwe) ∧
  (∀ s p hostToo, s.dpeIs p .suspended = true → s.requestWaits p (.resume p) = false →
    s.on F.PART_PSTAT_SUSPENDED (s.partOf p) = true → (s.parts.at (s.partOf p)).remoteWake = true → hostToo = false →
    (s.parts.at (s.partOf p)).freshK = false →
    Completes (.deviceRemoteWake p hostToo) s fun t =>
      t.dpeIs p .restartS = true ∧ (t.parts.at (s.partOf p)).wakeUp = true
        ∧ t.fld F.DPE_CNT2_REMWAKES p = (s.fld F.DPE_CNT2_REMWAKES p + 1) % 2 ^ 16) ∧
  (∀ s p hostToo, (s.dpeIs p .suspended = true ∨ s.dpeIs p .enabled = true) → s.requestWaits p (.resume p) = false →
    s.on F.PART_PSTAT_SUSPENDED (s.partOf p) = true → (s.parts.at (s.partOf p)).remoteWake = true →
    (hostToo = true ∨ (s.parts.at (s.partOf p)).freshK = true) →
    Completes (.deviceRemoteWake p hostToo) s fun t =>
      t.dpeIs p (if s.dpeIs p .suspended then .restartS else .restartE) = true
        ∧ (t.parts.at (s.partOf p)).wakeUp = (s.parts.at (s.partOf p)).wakeUp
        ∧ t.fld F.DPE_CNT2_ABSORBED p = (s.fld F.DPE_CNT2_ABSORBED p + 1) % 2 ^ 16) ∧
  (∀ s p hostToo, s.dpeIs p .suspended = true → s.requestWaits p (.resume p) = false →
    s.on F.PART_PSTAT_SUSPENDED (s.partOf p) = false →
    Completes (.deviceRemoteWake p hostToo) s fun t =>
      t.dpeIs p .resuming = true ∧ t.fld F.DPE_CNT2_REMWAKES p = (s.fld F.DPE_CNT2_REMWAKES p + 1) % 2 ^ 16) ∧
  (∀ s p hostToo, s.dpeIs p .l1 = true → s.on F.DPE_LPM_RWE p = true → s.requestWaits p (.exitL1 p) = false →
    Completes (.deviceRemoteWake p hostToo) s fun t =>
      t.dpeIs p .resuming = true ∧ (t.dpe.at p).fromL1 = true) ∧
  (∀ s p, s.dpeIs p .resuming = true →
    Completes (.resumeDriveEnd p) s fun t =>
      t.dpeIs p .sendEor = true) ∧
  (∀ s p, s.dpeIs p .sendEor = true →
    Completes (.eorSent p) s fun t =>
      t.dpeIs p .enabled = true
        ∧ (s.partOf p < 4 → t.bit F.DPE_PORTSTAT_CHANGE p (if (s.dpe.at p).fromL1 then cL1 else cSuspend) = true)) ∧
  (∀ s p eop, eop = true → s.dpeIs p .transmit = true → (s.dpe.at p).driving = false →
    Completes (.packetTransmit p eop) s fun t =>
      t.dpeIs p .enabled = true) ∧
  (∀ s p eop, eop = false → s.dpeIs p .enabled = true → s.on F.PART_PSTAT_SUSPENDED (s.partOf p) = false →
    Completes (.packetTransmit p eop) s fun t =>
      t.dpeIs p .transmit = true) ∧
  (∀ s p, 
    Completes (.switchSettleEnd p) s fun t =>
      (t.dpe.at p).settling = false ∧ s.OnlyIn [.dpe] t)

/-- Isolation and data over-voltage (R156, R159), quarantine (R161, R162), self-test (R164) and glitches (R165 to R168). -/
def Obligations.IsolationQuarantineAndGlitchCommands : Prop :=
  (∀ s p, s.fitted p = true → s.portsOn p = true → s.domOn Dom.fabric = true → s.dpeIs p .quarantined = false →
    s.isoCause p = true →
    Completes (.isolationCauseChange p) s fun t =>
      t.dpeIs p .isolated = true) ∧
  (∀ s p, s.fitted p = true → s.portsOn p = true → s.domOn Dom.fabric = true → s.dpeIs p .isolated = true →
    s.isoCause p = false →
    Completes (.isolationCauseChange p) s fun t =>
      t.dpeIs p .isolated = false) ∧
  (∀ s p, s.live p = true →
    Completes (.dataOvTrip p) s fun t =>
      t.on F.DSW_PSTAT_OVHOLD p = true ∧ t.on F.DSW_PSTAT_OVLIVE p = true ∧ (t.pwr.at p).lineHigh = true
        ∧ t.fld F.DSW_PCNT_OVTRIPS p = (s.fld F.DSW_PCNT_OVTRIPS p + 1) % 2 ^ 16
        ∧ (s.dpeIs p .quarantined = false → s.domOn Dom.fabric = true → t.dpeIs p .isolated = true)
        ∧ t.on F.DSW_PSTAT_STBUSY p = false ∧ t.pends (95 + p) = true) ∧
  (∀ s p stage, s.live p = true →
    Completes (.dataOvRelease p stage) s fun t =>
      t.on F.DSW_PSTAT_OVLIVE p = false ∧ ((t.pwr.at p).lineHigh = if 1 ≤ stage then false else (s.pwr.at p).lineHigh)
        ∧ (t.on F.DSW_PSTAT_OVHOLD p = if 2 ≤ stage
          ∧ s.on F.DSW_OVCFG_OV_AUTO (currant p) = true then false else s.on F.DSW_PSTAT_OVHOLD p)) ∧
  (∀ s p, s.live p = true → s.on F.DSW_OVCFG_OV_AUTO (currant p) = false → (s.pwr.at p).lineHigh = false →
    Completes (.dswRearm p) s fun t =>
      t.on F.DSW_PSTAT_OVHOLD p = false
        ∧ (s.domOn Dom.fabric = true → s.dpeIs p .isolated = true → s.on F.DPE_CTL_ISOLATE p = false →
          t.dpeIs p .isolated = false)) ∧
  (∀ s p b, s.fitted p = true →
    Completes (.dpeIsolateWrite p b) s fun t =>
      t.on F.DPE_CTL_ISOLATE p = b
        ∧ (b = true → s.portsOn p = true → s.domOn Dom.fabric = true → s.dpeIs p .quarantined = false →
          t.dpeIs p .isolated = true)
        ∧ (b = false → s.on F.DSW_PSTAT_OVHOLD p = false → s.portsOn p = true → s.domOn Dom.fabric = true →
          t.dpeIs p .isolated = false)) ∧
  (∀ s p, s.fitted p = true → s.domOn Dom.fabric = true →
    Completes (.dpeQuarSet p) s fun t =>
      t.on F.DPE_CTL_QUAR p = true ∧ t.dpeIs p .quarantined = true
        ∧ (s.portsOn p = true → t.on F.DSW_PSTAT_QUAR p = true)) ∧
  (∀ s p, s.fitted p = true → s.on F.DPE_CTL_QUAR p = true → s.quarHeld p = false → s.on F.DSW_PSTAT_STBUSY p = false →
    Completes (.dpeQuarRelease p) s fun t =>
      t.on F.DPE_CTL_QUAR p = false ∧ t.on F.DSW_PSTAT_QUAR p = false ∧ t.dpeIs p .quarantined = false
        ∧ (s.dpeIs p .quarantined = true → s.isoCause p = true → s.portsOn p = true → t.dpeIs p .isolated = true)) ∧
  (∀ s p, s.fitted p = true → s.on F.DPE_CTL_QUAR p = true → (s.quarHeld p = true ∨ s.on F.DSW_PSTAT_STBUSY p = true) →
    Completes (.dpeQuarRelease p) s fun t =>
      t.on F.DPE_CTL_QUAR p = true ∧ t.fld F.DPE_CNT4_QREFUSE p = (s.fld F.DPE_CNT4_QREFUSE p + 1) % 2 ^ 16
        ∧ t.dpe = s.dpe) ∧
  (∀ s p, s.selfTestAllowed p = true →
    Completes (.dswStgo p) s fun t =>
      t.on F.DSW_PSTAT_STBUSY p = true ∧ (t.dpe.at p).stTests = s.fld F.DSW_PCTL_TESTS p
        ∧ t.fld F.DSW_STRES_LOOP p = 0 ∧ t.fld F.DSW_STRES_ISO p = 0 ∧ t.fld F.DSW_STRES_FUSE p = 0) ∧
  (∀ s p m, s.on F.DSW_PSTAT_STBUSY p = true → (s.dpe.at p).stStep = 2 → 5 ≤ m.upTo → m.leak < 2 ^ 16 →
    Completes (.selftestEnd p m) s fun t =>
      t.on F.DSW_PSTAT_STBUSY p = false ∧ t.fld F.DSW_STRES_LOOP p = passFail (m.loopFail % 8 == 0)
        ∧ ((s.dpe.at p).stTests.testBit 1 = true →
          t.fld F.DSW_STRES_ISO p = if m.pullUp then 3 else passFail (decide (m.leak ≤ 100 ∧ m.ron ≤ 80)))
        ∧ ((s.dpe.at p).stTests.testBit 2 = true →
          t.fld F.DSW_STRES_FUSE p = passFail (decide (-10 ≤ m.ilimErr ∧ m.ilimErr ≤ 10 ∧ m.ftrip * 4 ≤ 250)))
        ∧ t.fld F.DSW_PCNT_STRUNS p = (s.fld F.DSW_PCNT_STRUNS p + 1) % 2 ^ 16
        ∧ (1 ≤ p → p ≤ 32 → t.pends (95 + p) = true)) ∧
  (∀ s p m, s.on F.DSW_PSTAT_STBUSY p = true → (s.dpe.at p).stStep = 2 → m.upTo = 2 → (s.dpe.at p).stTests.testBit 1 = true →
    Completes (.selftestEnd p m) s fun t =>
      t.on F.DSW_PSTAT_STBUSY p = true ∧ (t.dpe.at p).stStep = 3
        ∧ t.fld F.DSW_STRES_LOOP p = passFail (m.loopFail % 8 == 0)
        ∧ t.fld F.DSW_STRES_ISO p = s.fld F.DSW_STRES_ISO p) ∧
  (∀ s p, s.fitted p = true → s.glitchBarred p (s.glitchCfg p) = false → s.glitchCfg p % 4 = 1 →
    Completes (.glitchGo p) s fun t =>
      t.on F.DPE_GLITCH_CTL_BUSY p = true ∧ (t.dpe.at p).glitch.left = max 1 (s.glitchCfg p / 16 % 16)) ∧
  (∀ s p, s.fitted p = true → s.glitchBarred p (s.glitchCfg p) = false → s.glitchCfg p % 4 ≠ 1 →
    Completes (.glitchGo p) s fun t =>
      (s.dpeIs p .resetting = false → t.on F.DPE_GLITCH_CTL_ARMED p = true)
        ∧ (s.dpeIs p .resetting = true → (s.dpe.at p).chirped = false → (t.dpe.at p).corrupt = s.glitchCfg p % 4)) ∧
  (∀ s p, s.fitted p = true → s.glitchBarred p (s.glitchCfg p) = true →
    Completes (.glitchGo p) s fun t =>
      t.fld F.DPE_CNT3_GSUPPR p = (s.fld F.DPE_CNT3_GSUPPR p + 1) % 2 ^ 16 ∧ t.dpe = s.dpe) ∧
  (∀ s p inPacket, s.on F.DPE_GLITCH_CTL_BUSY p = true → 0 < (s.dpe.at p).glitch.left →
    (inPacket = false ∨ (s.dpe.at p).glitch.midpkt = true) →
    Completes (.glitchPulseDue p inPacket) s fun t =>
      (t.dpe.at p).glitch.left = (s.dpe.at p).glitch.left - 1
        ∧ ((s.dpe.at p).glitch.left = 1 → t.on F.DPE_GLITCH_CTL_BUSY p = false)
        ∧ (((s.dpe.at p).glitch.midpkt = true ∨ s.fld F.DPE_STATE_SPEED p ≠ 3) →
          t.fld F.DPE_CNT3_GLITCHES p = (s.fld F.DPE_CNT3_GLITCHES p + 1) % 2 ^ 16)
        ∧ ((s.dpe.at p).glitch.midpkt = false → s.fld F.DPE_STATE_SPEED p = 3 →
          t.fld F.DPE_CNT3_GSUPPR p = (s.fld F.DPE_CNT3_GSUPPR p + 1) % 2 ^ 16)) ∧
  (∀ s p, s.on F.DPE_GLITCH_CTL_ARMED p = true →
    Completes (.chirpArmExpiry p) s fun t =>
      t.on F.DPE_GLITCH_CTL_ARMED p = false ∧ s.OnlyIn [.reg .dpe, .reg .log, .log] t)

/-- Split transactions (R172, R174, R175, R177 to R181, R183, R185, R186, R188). -/
def Obligations.SplitTransactionCommands : Prop :=
  (∀ s k p addr ep dirIn control bytes, s.ttServes k p = true →
    s.pool.contexts.any (fun c => c.is p addr ep dirIn (if control then .control else .bulk)) = false →
    s.on F.TT_PSTAT_STOPPED p = false → s.npuse p < s.npbuf p → s.poolFull = false →
    Completes (.ssplitNonperiodic k p addr ep dirIn control bytes) s fun t =>
      (t.parts.at k).answer = .ack ∧ t.npuse p = s.npuse p + 1 ∧ t.pool.arrivals = s.pool.arrivals + 1) ∧
  (∀ s k p addr ep dirIn control bytes, s.ttServes k p = true →
    s.pool.contexts.any (fun c => c.is p addr ep dirIn (if control then .control else .bulk)) = false →
    (s.on F.TT_PSTAT_STOPPED p = true ∨ s.npbuf p ≤ s.npuse p) →
    Completes (.ssplitNonperiodic k p addr ep dirIn control bytes) s fun t =>
      (t.parts.at k).answer = .nak ∧ t.fld F.TT_PCNT0_NREFUSE p = (s.fld F.TT_PCNT0_NREFUSE p + 1) % 2 ^ 16
        ∧ t.pool = s.pool) ∧
  (∀ s k p addr ep dirIn control bytes, s.ttServes k p = true →
    s.pool.contexts.any (fun c => c.is p addr ep dirIn (if control then .control else .bulk)) = true →
    Completes (.ssplitNonperiodic k p addr ep dirIn control bytes) s fun t =>
      t = s.answer k .ack) ∧
  (∀ s k p addr ep dirIn control (c : Context), s.ttServes k p = true →
    s.pool.contexts.find? (fun c => c.is p addr ep dirIn (if control then .control else .bulk)) = some c →
    (c.st = .done ∨ c.st = .busError) →
    Completes (.csplitNonperiodic k p addr ep dirIn control) s fun t =>
      ((t.parts.at k).answer = if c.st = .done then c.reply else .none)
        ∧ (t.pool.contexts = s.pool.contexts.filter (fun d => d.arrival != c.arrival))
        ∧ (c.st = .done → t.fld F.TT_PCNT2_DONE p = (s.fld F.TT_PCNT2_DONE p + 1) % 2 ^ 16)
        ∧ (c.st = .busError → t.fld F.TT_PCNT2_ERRS p = (s.fld F.TT_PCNT2_ERRS p + 1) % 2 ^ 16)) ∧
  (∀ s k p addr ep dirIn control (c : Context), s.ttServes k p = true →
    s.pool.contexts.find? (fun c => c.is p addr ep dirIn (if control then .control else .bulk)) = some c →
    (c.st = .queued ∨ c.st = .onWire ∨ c.st = .abandoned) →
    Completes (.csplitNonperiodic k p addr ep dirIn control) s fun t =>
      t = s.answer k .nyet) ∧
  (∀ s k p addr ep dirIn control, s.ttServes k p = true →
    s.pool.contexts.find? (fun c => c.is p addr ep dirIn (if control then .control else .bulk)) = none →
    s.pool.lost.any (fun c => c.is p addr ep dirIn (if control then .control else .bulk)) = false →
    Completes (.csplitNonperiodic k p addr ep dirIn control) s fun t =>
      t = s.answer k .nak) ∧
  (∀ s k p addr ep dirIn iso more due bytes rivals, s.ttServes k p = true → (iso && !dirIn && more) = false →
    s.on F.TT_PSTAT_STOPPED p = false → s.puse p < s.pmax p → s.poolFull = false →
    (((s.held p).filter (fun d => d.periodic && !d.shared)).length < s.pres p ∨ 2 ≤ s.sharedFree ∨ (s.sharedFree = 1
    ∧ rivals = [])) →
    Completes (.ssplitPeriodic k p addr ep dirIn iso more due bytes rivals) s fun t =>
      (t.parts.at k).answer = .none ∧ t.puse p = s.puse p + 1 ∧ t.pool.arrivals = s.pool.arrivals + 1) ∧
  (∀ s k p addr ep dirIn iso more due bytes rivals, s.ttServes k p = true →
    (s.on F.TT_PSTAT_STOPPED p = true ∨ (s.pmax p ≤ s.puse p ∧ (iso && !dirIn && more) = false)) →
    Completes (.ssplitPeriodic k p addr ep dirIn iso more due bytes rivals) s fun t =>
      (t.parts.at k).answer = .none ∧ t.pool = s.pool
        ∧ t.fld F.TT_PCNT0_PREFUSE p = (s.fld F.TT_PCNT0_PREFUSE p + 1) % 2 ^ 16) ∧
  (∀ s k p addr ep dirIn iso more due bytes rivals, s.ttServes k p = true → (iso && !dirIn && more) = false →
    s.on F.TT_PSTAT_STOPPED p = false → s.puse p < s.pmax p →
    s.pres p ≤ ((s.held p).filter (fun d => d.periodic && !d.shared)).length → s.sharedFree = 0 →
    Completes (.ssplitPeriodic k p addr ep dirIn iso more due bytes rivals) s fun t =>
      (t.parts.at k).answer = .none ∧ t.pool = s.pool
        ∧ t.fld F.TT_PCNT0_PREFUSE p = (s.fld F.TT_PCNT0_PREFUSE p + 1) % 2 ^ 16
        ∧ t.fld F.TT_POOLCNT_EMPTY 0 = (s.fld F.TT_POOLCNT_EMPTY 0 + 1) % 2 ^ 16 ∧ t.pends 133 = true) ∧
  (∀ s k p addr ep dirIn control, s.ttServes k p = true →
    s.pool.contexts.find? (fun c => c.is p addr ep dirIn (if control then .control else .bulk)) = none →
    s.pool.lost.any (fun c => c.is p addr ep dirIn (if control then .control else .bulk)) = true →
    Completes (.csplitNonperiodic k p addr ep dirIn control) s fun t =>
      (t.parts.at k).answer = .none ∧ t.pool.contexts = s.pool.contexts) ∧
  (∀ s k p addr ep dirIn iso more due bytes rivals, s.ttServes k p = true → (iso && !dirIn && more) = true →
    s.on F.TT_PSTAT_STOPPED p = false →
    Completes (.ssplitPeriodic k p addr ep dirIn iso more due bytes rivals) s fun t =>
      (t.parts.at k).answer = .none ∧ t.regs = s.regs
        ∧ (t.pool.contexts = s.pool.contexts.map (fun d => if d.is p addr ep false .iso then { d with bytes := d.bytes ++ bytes } else d))) ∧
  (∀ s k p addr ep dirIn iso more due bytes rivals, s.ttServes k p = true → (iso && !dirIn && more) = false →
    s.on F.TT_PSTAT_STOPPED p = false → s.puse p < s.pmax p → s.poolFull = false →
    s.pres p ≤ ((s.held p).filter (fun d => d.periodic && !d.shared)).length → s.sharedFree = 1 → rivals ≠ [] →
    s.pool.tieOpen = false →
    Completes (.ssplitPeriodic k p addr ep dirIn iso more due bytes rivals) s fun t =>
      (t.parts.at k).answer = .none ∧ t.pool.lastWinner = tieWinner s.pool.lastWinner (k :: rivals)
        ∧ (tieWinner s.pool.lastWinner (k :: rivals) = k → t.puse p = s.puse p + 1)
        ∧ (tieWinner s.pool.lastWinner (k :: rivals) ≠ k →
          t.pool.contexts = s.pool.contexts ∧ t.fld F.TT_PCNT0_PREFUSE p = (s.fld F.TT_PCNT0_PREFUSE p + 1) % 2 ^ 16
          ∧ t.fld F.TT_POOLCNT_EMPTY 0 = (s.fld F.TT_POOLCNT_EMPTY 0 + 1) % 2 ^ 16)) ∧
  (∀ s k p addr ep dirIn iso again came (c : Context), s.ttServes k p = true →
    s.pool.contexts.find? (fun c => c.is p addr ep dirIn (if iso then .iso else .interrupt)) = some c →
    (again = false ∨ c.answered = none) → c.st = .done →
    Completes (.csplitPeriodic k p addr ep dirIn iso again came) s fun t =>
      ((t.parts.at k).answer = if c.result < 3 then c.reply else if 188 < c.bytes.length then .mdata (c.bytes.take 188) else .data (if iso then 0 else c.result - 3) c.bytes)
        ∧ (∀ d ∈ t.pool.contexts, d.arrival = c.arrival → d.answered = some (t.parts.at k).answer)
        ∧ ((c.result < 3 ∨ c.bytes.length ≤ 188) → t.fld F.TT_PCNT2_DONE p = (s.fld F.TT_PCNT2_DONE p + 1) % 2 ^ 16)) ∧
  (∀ s k p addr ep dirIn iso again came (c : Context), s.ttServes k p = true →
    s.pool.contexts.find? (fun c => c.is p addr ep dirIn (if iso then .iso else .interrupt)) = some c →
    (again = false ∨ c.answered = none) → c.st = .onWire → dirIn = true → came ≠ [] →
    Completes (.csplitPeriodic k p addr ep dirIn iso again came) s fun t =>
      (t.parts.at k).answer = .mdata (came.take 188)
        ∧ (∀ d ∈ t.pool.contexts, d.arrival = c.arrival → d.answered = some (.mdata (came.take 188)))) ∧
  (∀ s k p addr ep dirIn iso again came (c : Context), s.ttServes k p = true →
    s.pool.contexts.find? (fun c => c.is p addr ep dirIn (if iso then .iso else .interrupt)) = some c →
    (again = false ∨ c.answered = none) →
    Completes (.csplitPeriodic k p addr ep dirIn iso again came) s fun t =>
      (c.st = .queued → (t.parts.at k).answer = .nyet ∧ t.regs = s.regs)
        ∧ (c.st = .onWire → (dirIn = false ∨ came = []) → (t.parts.at k).answer = .nyet ∧ t.regs = s.regs)
        ∧ (∀ d ∈ t.pool.contexts, d.arrival = c.arrival → d.answered = some (t.parts.at k).answer)
        ∧ (c.st = .abandoned → (t.parts.at k).answer = .err)
        ∧ (c.st = .busError →
          (t.parts.at k).answer = .err ∧ t.fld F.TT_PCNT2_ERRS p = (s.fld F.TT_PCNT2_ERRS p + 1) % 2 ^ 16)) ∧
  (∀ s k p addr ep dirIn iso again came (c : Context) (a : BusAnswer), s.ttServes k p = true →
    s.pool.contexts.find? (fun c => c.is p addr ep dirIn (if iso then .iso else .interrupt)) = some c → again = true →
    c.answered = some a →
    Completes (.csplitPeriodic k p addr ep dirIn iso again came) s fun t =>
      t = s.answer k a) ∧
  (∀ s k p addr ep dirIn iso again came, s.ttServes k p = true →
    s.pool.contexts.find? (fun c => c.is p addr ep dirIn (if iso then .iso else .interrupt)) = none →
    Completes (.csplitPeriodic k p addr ep dirIn iso again came) s fun t =>
      t = s.answer k .err) ∧
  (∀ s k p, k < 4 → s.ttServes k p = false →
    Completes (.badSplit k p) s fun t =>
      (t.parts.at k).answer = .none ∧ t.fld F.TT_BADSPLIT_COUNT k = (s.fld F.TT_BADSPLIT_COUNT k + 1) % 2 ^ 16
        ∧ t.pool = s.pool) ∧
  (∀ s p, s.ttServes (s.partOf p) p = true → s.on F.PART_PSTAT_SUSPENDED (s.partOf p) = false →
    s.fld F.DPE_STATE_SPEED p = 2 →
    Completes (.ttFrameStart p) s fun t =>
      (t.tt.at p).sofs = (s.tt.at p).sofs + 1 ∧ (t.tt.at p).frame = s.fld F.PART_FRAME_FRAME (s.partOf p)
        ∧ s.OnlyIn [.tt] t) ∧
  (∀ s p, s.ttServes (s.partOf p) p = true → s.on F.PART_PSTAT_SUSPENDED (s.partOf p) = false →
    s.fld F.DPE_STATE_SPEED p = 1 →
    Completes (.ttFrameStart p) s fun t =>
      (t.tt.at p).eops = (s.tt.at p).eops + 1 ∧ (t.tt.at p).frame = (s.tt.at p).frame ∧ s.OnlyIn [.tt] t) ∧
  (∀ s p uframe beforeEof1 npFits corrected (c : Context), s.ttServes (s.partOf p) p = true → beforeEof1 = true →
    s.on F.TT_PSTAT_STOPPED p = false → s.on F.TT_PSTAT_WIRE p = false → s.on F.PART_PSTAT_SUSPENDED (s.partOf p) = false →
    s.nextContext p uframe npFits = some c →
    Completes (.ttTransactionStart p uframe beforeEof1 npFits corrected) s fun t =>
      t.on F.TT_PSTAT_WIRE p = true ∧ t.fld F.TT_ECC_CORR 0 = (s.fld F.TT_ECC_CORR 0 + corrected) % 2 ^ 16
        ∧ (∀ d ∈ t.pool.contexts, d.arrival = c.arrival → d.st = .onWire)
        ∧ (t.pool.contexts.filter (fun d => d.arrival != c.arrival) = s.pool.contexts.filter (fun d => d.arrival != c.arrival))) ∧
  (∀ s p result bytes busError (c : Context), s.on F.TT_PSTAT_WIRE p = true →
    (s.held p).find? (fun c => c.st == .onWire) = some c →
    Completes (.ttTransactionEnd p result bytes busError) s fun t =>
      t.on F.TT_PSTAT_WIRE p = false ∧ (c.typ = .iso → c.dirIn = false → ∀ d ∈ t.pool.contexts, d.arrival ≠ c.arrival)
        ∧ ((c.typ ≠ .iso ∨ c.dirIn = true) → busError = true → ∀ d ∈ t.pool.contexts, d.arrival = c.arrival →
          d.st = .busError)
        ∧ ((c.typ ≠ .iso ∨ c.dirIn = true) → busError = false → ∀ d ∈ t.pool.contexts, d.arrival = c.arrival →
          d.st = .done ∧ d.result = min result 4 ∧ d.bytes = bytes.drop c.given))

/-- Translator requests (R125, R128, R148, R173, R184, R186, R187), periodic ends (R181, R182) and the pool's memory (R188). -/
def Obligations.TranslatorRequestCommands : Prop :=
  (∀ s p addr ep dirIn iso (c : Context), s.pool.contexts.find? (fun c => c.is p addr ep dirIn (if iso then .iso else .interrupt)) = some c →
    Completes (.periodicContextRelease p addr ep dirIn iso) s fun t =>
      (t.pool.contexts = s.pool.contexts.filter (fun d => d.arrival != c.arrival)) ∧ s.OnlyIn [.reg .tt, .pool] t) ∧
  (∀ s p addr ep dirIn iso (c : Context), s.pool.contexts.find? (fun c => c.is p addr ep dirIn (if iso then .iso else .interrupt) && c.st == .queued) = some c →
    Completes (.periodicAbandon p addr ep dirIn iso) s fun t =>
      t.fld F.TT_PCNT1_ABANDON p = (s.fld F.TT_PCNT1_ABANDON p + 1) % 2 ^ 16
        ∧ (iso = true → dirIn = false → t.pool.contexts = s.pool.contexts.filter (fun d => d.arrival != c.arrival))
        ∧ ((iso = false ∨ dirIn = true) → ∀ d ∈ t.pool.contexts, d.arrival = c.arrival → d.st = .abandoned)) ∧
  (∀ s n (c : Context), s.pool.contexts.find? (fun c => c.slot == n % 1024) = some c →
    Completes (.poolUncorrectable n) s fun t =>
      t.fld F.TT_ECC_UNCORR 0 = (s.fld F.TT_ECC_UNCORR 0 + 1) % 2 ^ 16 ∧ t.pends 134 = true
        ∧ (t.pool.contexts = s.pool.contexts.filter (fun d => d.arrival != c.arrival))
        ∧ t.fld F.TT_PCNT2_ERRS c.port = (s.fld F.TT_PCNT2_ERRS c.port + 1) % 2 ^ 16) ∧
  (∀ s n, 
    Completes (.poolUncorrectable n) s fun t =>
      t.fld F.TT_ECC_UNCORR 0 = (s.fld F.TT_ECC_UNCORR 0 + 1) % 2 ^ 16 ∧ t.pends 134 = true
        ∧ (s.pool.contexts.find? (fun c => c.slot == n % 1024) = none → t.pool = s.pool)) ∧
  (∀ s k ttPort addr ep dirIn typ, s.hubUp k = true → s.ttTargets k ttPort ≠ none →
    Completes (.clearTtBuffer k ttPort addr ep dirIn typ) s fun t =>
      (t.parts.at k).requests = (s.parts.at k).requests ++ [.ttBuffer ttPort addr ep dirIn typ]
        ∧ (t.parts.at k).answer = .ack ∧ t.regs = s.regs) ∧
  (∀ s k ttPort addr ep dirIn typ, s.hubUp k = true → s.ttTargets k ttPort = none →
    Completes (.clearTtBuffer k ttPort addr ep dirIn typ) s fun t =>
      t = s.answer k .stall) ∧
  (∀ s k ttPort, s.hubUp k = true → s.ttTargets k ttPort ≠ none →
    Completes (.resetTt k ttPort) s fun t =>
      (t.parts.at k).requests = (s.parts.at k).requests ++ [.ttReset ttPort] ∧ (t.parts.at k).answer = .ack
        ∧ t.regs = s.regs) ∧
  (∀ s k ttPort, s.hubUp k = true → s.ttTargets k ttPort = none →
    Completes (.resetTt k ttPort) s fun t =>
      t = s.answer k .stall) ∧
  (∀ s k ttPort, s.hubUp k = true → s.ttTargets k ttPort ≠ none →
    Completes (.stopTt k ttPort) s fun t =>
      (t.parts.at k).requests = (s.parts.at k).requests ++ [.ttStop ttPort] ∧ (t.parts.at k).answer = .ack
        ∧ t.regs = s.regs) ∧
  (∀ s k ttPort, s.hubUp k = true → s.ttTargets k ttPort = none →
    Completes (.stopTt k ttPort) s fun t =>
      t = s.answer k .stall) ∧
  (∀ s k ttPort flags len, k < 4 → s.hubUp k = true →
    Completes (.getTtState k ttPort flags len) s fun t =>
      (t.parts.at k).requests = (s.parts.at k).requests ++ [.ttState ttPort flags len] ∧ (t.parts.at k).answer = .nak
        ∧ s.OnlyIn [.parts] t) ∧
  (∀ (s : State) (k tt flags len : Nat) (l : List Nat), s.ttTargets k tt = some l → l ≠ [] → flags = 0 →
    l.all (fun p => s.on F.TT_PSTAT_STOPPED p) = true →
    s.ttRequest k (.ttState tt flags len) = s.answer k (.data 1 ((s.ttStateBytes k l).take len))) ∧
  (∀ (s : State) (k tt flags len : Nat), s.ttTargets k tt = none ∨ (flags ≠ 0 ∧ s.ttTargets k tt ≠ some []) →
    s.ttRequest k (.ttState tt flags len) = s.answer k .stall) ∧
  (∀ s k alt, s.hubUp k = true → (alt = 0 ∨ (alt = 1 ∧ s.on F.PART_PSTAT_SPEED k = true)) →
    Completes (.setInterfaceAlt k alt) s fun t =>
      (t.parts.at k).requests = (s.parts.at k).requests ++ [.alternate alt] ∧ (t.parts.at k).answer = .ack) ∧
  (∀ s k alt, s.hubUp k = true → (2 ≤ alt ∨ (alt = 1 ∧ s.on F.PART_PSTAT_SPEED k = false)) →
    Completes (.setInterfaceAlt k alt) s fun t =>
      t = s.answer k .stall) ∧
  (∀ s b k hw (tt p addr ep : Nat) (dirIn : Bool) (typ : SplitType) (c : Context), b = .f → k < 4 → s.staged = [] →
    (s.parts.at k).requests = [.ttBuffer tt addr ep dirIn typ] → s.ttTargets k tt = some [p] →
    (typ = .control ∨ typ = .bulk) → s.pool.contexts.find? (fun c => c.is p addr ep dirIn typ) = some c →
    Completes (.stagedWriteApply b k hw) s fun t =>
      (t.parts.at k).requests = [] ∧ (t.pool.contexts = s.pool.contexts.filter (fun d => d.arrival != c.arrival))
        ∧ t.fld F.TT_PCNT1_CLEARS p = (s.fld F.TT_PCNT1_CLEARS p + 1) % 2 ^ 16) ∧
  (∀ s b k hw (tt p : Nat), b = .f → k < 4 → s.staged = [] → (s.parts.at k).requests = [.ttReset tt] →
    s.ttTargets k tt = some [p] →
    Completes (.stagedWriteApply b k hw) s fun t =>
      (t.parts.at k).requests = [] ∧ t.on F.TT_PSTAT_STOPPED p = false ∧ t.held p = []) ∧
  (∀ s b k hw (tt p : Nat), b = .f → k < 4 → s.staged = [] → (s.parts.at k).requests = [.ttStop tt] →
    s.ttTargets k tt = some [p] →
    Completes (.stagedWriteApply b k hw) s fun t =>
      (t.parts.at k).requests = [] ∧ t.on F.TT_PSTAT_STOPPED p = true) ∧
  (∀ s b k hw (alt : Nat), b = .f → k < 4 → s.staged = [] → (s.parts.at k).requests = [.alternate alt] → alt ≤ 1 →
    s.fld F.PART_PSTAT_TTALT k ≠ alt →
    Completes (.stagedWriteApply b k hw) s fun t =>
      (t.parts.at k).requests = [] ∧ t.fld F.PART_PSTAT_TTALT k = alt
        ∧ (∀ p ∈ s.portsOfPart k, t.held p = [] ∧ t.on F.TT_PSTAT_STOPPED p = false))

/-- Port 33 and endpoint 0 (R192, R193, R195, R196). -/
def Obligations.ManagementPortAndControlCommands : Prop :=
  (∀ s k connect, s.hasUpstream k = true → s.domOn Dom.fabric = true → connect = true →
    overlapApplied s (s.put F.MF_CTL_CONNECT k connect) = false → s.p33Is k .disconnected = true →
    s.on F.MF_STAT_DESC_BAD k = false →
    Completes (.port33ConnectApply k connect) s fun t =>
      t.on F.MF_CTL_CONNECT k = true ∧ t.p33Is k .disabled = true ∧ (t.parts.at k).change33.testBit cConnection = true) ∧
  (∀ s k connect, s.hasUpstream k = true → s.domOn Dom.fabric = true → connect = false → s.p33Is k .enabled = true →
    Completes (.port33ConnectApply k connect) s fun t =>
      t.on F.MF_CTL_CONNECT k = false ∧ t.p33Is k .disconnected = true ∧ t.on F.MF_STAT_CONFIGURED k = false) ∧
  (∀ s k, k < 4 → s.p33Is k .resetting = true →
    Completes (.port33ResetEnd k) s fun t =>
      t.p33Is k .enabled = true ∧ t.on F.MF_STAT_SPEED k = s.on F.PART_PSTAT_SPEED k
        ∧ (t.parts.at k).change33.testBit cReset = true) ∧
  (∀ s k, k < 4 → s.p33Is k .resuming = true →
    Completes (.port33ResumeEnd k) s fun t =>
      t.p33Is k .enabled = true ∧ (t.mf.at k).waking = false ∧ (t.parts.at k).change33.testBit cSuspend = true) ∧
  (∀ s k hostToo, k < 4 → s.p33Is k .suspended = true → s.on F.MF_STAT_RWE k = true → (s.mf.at k).notices.items ≠ [] →
    (s.mf.at k).waking = false → (s.parts.at k).requests.contains (.resume 33) = false →
    (s.on F.PART_PSTAT_SUSPENDED k = false ∨ hostToo = true ∨ (s.parts.at k).remoteWake = true) →
    Completes (.port33RemoteWake k hostToo) s fun t =>
      t.p33Is k .resuming = true ∧ (t.mf.at k).waking = true
        ∧ (s.on F.PART_PSTAT_SUSPENDED k = true → hostToo = false → (s.parts.at k).freshK = false →
          (t.parts.at k).wakeUp = true)
        ∧ (s.on F.PART_PSTAT_SUSPENDED k = true → (hostToo = true ∨ (s.parts.at k).freshK = true) →
          t.fld F.MF_CNT2_ABSORBED k = (s.fld F.MF_CNT2_ABSORBED k + 1) % 2 ^ 8)) ∧
  (∀ s k requestType request value index length done, s.mfUp k = true → requestType = 0 → request = 5 → done = true →
    Completes (.mfEp0Setup k requestType request value index length done) s fun t =>
      t.fld F.MF_STAT_ADDR k = value % 128 ∧ (t.mf.at k).answer = .ack) ∧
  (∀ s k requestType request value index length done, s.mfUp k = true → requestType = 0 → request = 5 → done = false →
    Completes (.mfEp0Setup k requestType request value index length done) s fun t =>
      (t.mf.at k).wantAddr = some (value % 128) ∧ (t.mf.at k).control = .status ∧ (t.mf.at k).answer = .nak
        ∧ t.fld F.MF_STAT_ADDR k = s.fld F.MF_STAT_ADDR k) ∧
  (∀ s k requestType request value index length done, s.mfUp k = true → requestType = 0 → request = 9 → value = 1 →
    done = true →
    Completes (.mfEp0Setup k requestType request value index length done) s fun t =>
      t.on F.MF_STAT_CONFIGURED k = true ∧ (t.mf.at k).halts = [] ∧ (t.mf.at k).answer = .ack) ∧
  (∀ s k requestType request value index length done, s.mfUp k = true → requestType = 0 → request = 9 → value = 0 →
    done = true →
    Completes (.mfEp0Setup k requestType request value index length done) s fun t =>
      t.on F.MF_STAT_CONFIGURED k = false ∧ (t.mf.at k).responses = [] ∧ (t.mf.at k).notices.items = []
        ∧ (t.mf.at k).answer = .ack) ∧
  (∀ s k requestType request value index length done, s.mfUp k = true → requestType = 0 → (request = 3 ∨ request = 1) →
    value = 1 →
    Completes (.mfEp0Setup k requestType request value index length done) s fun t =>
      t.on F.MF_STAT_RWE k = decide (request = 3) ∧ (t.mf.at k).answer = .ack) ∧
  (∀ s k requestType request value index length done, s.mfUp k = true → requestType = 2 → (request = 3 ∨ request = 1) →
    value = 0 → endpointOf index ≠ 0 →
    Completes (.mfEp0Setup k requestType request value index length done) s fun t =>
      (t.mf.at k).halts.contains (endpointOf index) = decide (request = 3)
        ∧ (request = 1 → t.mfToggle k (endpointOf index) = 0) ∧ (t.mf.at k).answer = .ack) ∧
  (∀ s k requestType request value index length done, s.mfUp k = true → requestType = 0x80 → request = 6 →
    Completes (.mfEp0Setup k requestType request value index length done) s fun t =>
      (t.mf.at k).control = .waitFirmware ∧ (t.mf.at k).wantValue = value ∧ (t.mf.at k).wantLength = length
        ∧ (t.mf.at k).answer = .nak ∧ t.pends (135 + k) = true) ∧
  (∀ s k done (l : List Nat), k < 4 → (s.mf.at k).control = .waitFirmware → s.mfDescriptor k (s.mf.at k).wantValue = some l →
    Completes (.getDescriptorReady k done) s fun t =>
      (t.mf.at k).answer = .data 1 (l.take (s.mf.at k).wantLength)
        ∧ ((t.mf.at k).control = if done then .idle else .dataReady) ∧ s.OnlyIn [.mf, .mem] t) ∧
  (∀ s k done, k < 4 → (s.mf.at k).control = .waitFirmware → s.mfDescriptor k (s.mf.at k).wantValue = none →
    Completes (.getDescriptorReady k done) s fun t =>
      (t.mf.at k).answer = .stall ∧ (t.mf.at k).control = .idle) ∧
  (∀ s k, k < 4 → (s.mf.at k).control ≠ .idle →
    Completes (.controlAbandon k) s fun t =>
      (t.mf.at k).control = .idle ∧ (t.mf.at k).wantAddr = none ∧ (t.mf.at k).wantCfg = none
        ∧ t.fld F.MF_CNT2_CTLABORT k = (s.fld F.MF_CNT2_CTLABORT k + 1) % 2 ^ 8)

/-- Endpoints 1 to 3 and notices (R195, R200 to R203, R205 to R208). -/
def Obligations.ManagementEndpointCommands : Prop :=
  (∀ s k bytes badCrc toggleError, s.mfUp k = true → s.on F.MF_STAT_CONFIGURED k = true → badCrc = false →
    (s.mf.at k).halts.contains 1 = false → toggleError = false → (s.mf.at k).ep1Next = (s.mf.at k, 0, 0) →
    s.ep1Room k (s.mf.at k) = true →
    Completes (.ep1OutPacket k bytes badCrc toggleError) s fun t =>
      (t.mf.at k).partLen = (s.mf.at k).partLen + bytes.length
        ∧ (t.mf.at k).ended = decide (bytes.length < s.mfPacket k)
        ∧ (t.mf.at k).toggles.testBit 1 = !(s.mf.at k).toggles.testBit 1
        ∧ ((s.mf.at k).partLen < 16 → (s.mf.at k).tail = false → (t.mf.at k).part = (s.mf.at k).part ++ bytes)
        ∧ (s.on F.MF_STAT_SPEED k = false → (t.mf.at k).answer = .ack)
        ∧ ((t.mf.at k).answer = .ack ∨ (t.mf.at k).answer = .nyet)) ∧
  (∀ s k bytes badCrc toggleError, s.mfUp k = true → s.on F.MF_STAT_CONFIGURED k = true → badCrc = false →
    (s.mf.at k).halts.contains 1 = false → toggleError = false → (s.mf.at k).ep1Next = (s.mf.at k, 0, 0) →
    s.ep1Room k (s.mf.at k) = false →
    Completes (.ep1OutPacket k bytes badCrc toggleError) s fun t =>
      (t.mf.at k).answer = .nak ∧ (t.mf.at k).part = (s.mf.at k).part) ∧
  (∀ s k bytes badCrc toggleError, s.mfUp k = true → s.on F.MF_STAT_CONFIGURED k = true →
    Completes (.ep1OutPacket k bytes badCrc toggleError) s fun t =>
      (badCrc = true → t = s.mfAnswer k .none)
        ∧ (badCrc = false → (s.mf.at k).halts.contains 1 = true → t = s.mfAnswer k .stall)
        ∧ (badCrc = false → (s.mf.at k).halts.contains 1 = false → toggleError = true → t = s.mfAnswer k .ack)) ∧
  (∀ s k, s.mfUp k = true → s.on F.MF_STAT_CONFIGURED k = true → s.on F.MF_STAT_SPEED k = true →
    (s.mf.at k).halts.contains 1 = false → (s.mf.at k).ep1Next = (s.mf.at k, 0, 0) →
    Completes (.ep1Ping k) s fun t =>
      ((t.mf.at k).answer = if s.ep1Room k (s.mf.at k) then .ack else .nak) ∧ (t.mf.at k).part = (s.mf.at k).part) ∧
  (∀ s k, s.mfUp k = true → s.on F.MF_STAT_CONFIGURED k = true → s.on F.MF_STAT_SPEED k = true →
    (s.mf.at k).halts.contains 1 = true →
    Completes (.ep1Ping k) s fun t =>
      t = s.mfAnswer k .stall) ∧
  (∀ s k, k < 4 → (s.mf.at k).ended = true → (s.mf.at k).tail = false → 16 ≤ (s.mf.at k).partLen →
    frameLen (s.mf.at k).part ≤ 1024 → (s.mf.at k).partLen = 16 + frameLen (s.mf.at k).part →
    Completes (.ep1FrameComplete k) s fun t =>
      (t.mf.at k).ended = false ∧ (t.mf.at k).part = []
        ∧ (t.mf.at k).frames = (s.mf.at k).frames ++ [(s.mf.at k).part]
        ∧ t.fld F.MF_CNT0_FRAMES k = (s.fld F.MF_CNT0_FRAMES k + 1) % 2 ^ 16 ∧ t.pends (139 + k) = true) ∧
  (∀ s k, k < 4 → (s.mf.at k).ended = true → (s.mf.at k).tail = false →
    ((s.mf.at k).partLen < 16 ∨ (s.mf.at k).partLen ≠ 16 + frameLen (s.mf.at k).part) →
    Completes (.ep1FrameComplete k) s fun t =>
      (t.mf.at k).ended = false ∧ (t.mf.at k).part = [] ∧ (t.mf.at k).frames = (s.mf.at k).frames
        ∧ t.fld F.MF_CNT0_FRAMEDROP k = (s.fld F.MF_CNT0_FRAMEDROP k + 1) % 2 ^ 16) ∧
  (∀ s k (f : List Nat) (rest : List (List Nat)), s.mfUp k = true → s.on F.MF_STAT_CONFIGURED k = true →
    (s.mf.at k).halts.contains 2 = false → (s.mf.at k).responses = f :: rest →
    Completes (.ep2ResponseSent k) s fun t =>
      (t.mf.at k).answer = .data (s.mfToggle k 2) f ∧ t.pends 148 = true
        ∧ ((s.mf.at k).waiting = [] → (t.mf.at k).responses = rest)) ∧
  (∀ s k, s.mfUp k = true → s.on F.MF_STAT_CONFIGURED k = true →
    Completes (.ep2ResponseSent k) s fun t =>
      ((s.mf.at k).halts.contains 2 = true → t = s.mfAnswer k .stall)
        ∧ ((s.mf.at k).halts.contains 2 = false → (s.mf.at k).responses = [] → t = s.mfAnswer k .nak)) ∧
  (∀ s k n acked, s.mfUp k = true → s.on F.MF_STAT_CONFIGURED k = true → (s.mf.at k).halts.contains 3 = false →
    (s.mf.at k).notices.items ≠ [] → (s.mf.at k).notices.inflight = 0 → acked = true →
    Completes (.ep3NoticePacket k n acked) s fun t =>
      (t.mf.at k).answer = .data (bit01 ((s.mf.at k).toggles.testBit 3)) (((s.mf.at k).notices.items.take (min (clamp 1 4 n) (s.mf.at k).notices.items.length)).flatMap noticeBytes)
        ∧ (t.mf.at k).notices.inflight = 0
        ∧ t.fld F.MF_CNT1_NOTICES k = (s.fld F.MF_CNT1_NOTICES k + min (clamp 1 4 n) (s.mf.at k).notices.items.length) % 2 ^ 16) ∧
  (∀ s k n acked, s.mfUp k = true → s.on F.MF_STAT_CONFIGURED k = true → (s.mf.at k).halts.contains 3 = false →
    (s.mf.at k).notices.items ≠ [] → (s.mf.at k).notices.inflight = 0 → acked = false →
    Completes (.ep3NoticePacket k n acked) s fun t =>
      (t.mf.at k).answer = .data (bit01 ((s.mf.at k).toggles.testBit 3)) (((s.mf.at k).notices.items.take (min (clamp 1 4 n) (s.mf.at k).notices.items.length)).flatMap noticeBytes)
        ∧ (t.mf.at k).notices.inflight = min (clamp 1 4 n) (s.mf.at k).notices.items.length
        ∧ (t.mf.at k).notices.items = (s.mf.at k).notices.items) ∧
  (∀ s k n acked, s.mfUp k = true → s.on F.MF_STAT_CONFIGURED k = true →
    Completes (.ep3NoticePacket k n acked) s fun t =>
      ((s.mf.at k).halts.contains 3 = true → t = s.mfAnswer k .stall)
        ∧ ((s.mf.at k).halts.contains 3 = false → (s.mf.at k).notices.items = [] → t = s.mfAnswer k .nak)) ∧
  (∀ s typ data (k : Nat), k < 4 → 3 ≤ typ → typ ≤ 7 → s.takesNotices k = true → s.bit F.MF_CTL_NOTEN k (typ - 1) = true →
    Completes (.noticeRaised typ data) s fun t =>
      (t.mf.at k).notices = (s.mf.at k).notices.push typ s.ct s.sync (data % 2 ^ 32) ∧ t.on F.MF_STAT_NOTPEND k = true) ∧
  (∀ s typ data, 3 ≤ typ → typ ≤ 7 → s.bit F.MBX_CTL_BCNOTEN 0 (typ - 1) = true →
    Completes (.noticeRaised typ data) s fun t =>
      t.bcq = s.bcq.push typ s.ct s.sync (data % 2 ^ 32)) ∧
  (∀ s k frame uframe, s.hubUp k = true → s.on F.PART_PSTAT_HOST k = true → s.on F.PART_PSTAT_SUSPENDED k = false →
    s.on F.PART_PSTAT_SPEED k = true → s.fld F.MF_CTL_SOFMODE k = 0 → s.fld F.MF_SOFIDX_NEXT k < 64 →
    Completes (.sofReceived k frame uframe) s fun t =>
      t.fld F.PART_FRAME_FRAME k = frame % 2048 ∧ t.fld F.PART_FRAME_UFRAME k = uframe % 8
        ∧ t.fld F.MF_SOFIDX_SOFS k = (s.fld F.MF_SOFIDX_SOFS k + 1) % 2 ^ 16
        ∧ t.fld F.MF_SOFIDX_NEXT k = (s.fld F.MF_SOFIDX_NEXT k + 1) % 64
        ∧ t.word (0x200D7000 + 0x400 * k + 0x10 * s.fld F.MF_SOFIDX_NEXT k) = s.ct % 2 ^ 32
        ∧ t.word (0x200D7000 + 0x400 * k + 0x10 * s.fld F.MF_SOFIDX_NEXT k + 4) = s.ct / 2 ^ 32 % 2 ^ 32
        ∧ (∀ a, (a < 0x200D7000 + 0x400 * k + 0x10 * s.fld F.MF_SOFIDX_NEXT k ∨ 0x200D7000 + 0x400 * k + 0x10 * s.fld F.MF_SOFIDX_NEXT k + 16 ≤ a) → readByte t.mem a = readByte s.mem a))

/-- Type-C attach and detach (R217, R219, R222, R223). -/
def Obligations.TypeCAttachCommands : Prop :=
  (∀ s p cc1 cc2 vbus current vin rivals, s.live p = true → p ≤ 32 → s.ccIs p .unattachedSrc = true →
    s.attachPattern p (s.ccCode p false cc1, s.ccCode p true cc2) = true →
    Completes (.ccSample p cc1 cc2 vbus current vin rivals) s fun t =>
      t.fld F.TCPD_CCSTAT_CC1 p = s.ccCode p false cc1 % 8 ∧ t.fld F.TCPD_CCSTAT_CC2 p = s.ccCode p true cc2 % 8
        ∧ t.ccIs p .attachWaitSrc = true) ∧
  (∀ s p cc1 cc2 vbus current vin rivals, s.live p = true → p ≤ 32 → s.ccIs p .unattachedSrc = true →
    s.attachPattern p (s.ccCode p false cc1, s.ccCode p true cc2) = false →
    Completes (.ccSample p cc1 cc2 vbus current vin rivals) s fun t =>
      t.fld F.TCPD_CCSTAT_CC1 p = s.ccCode p false cc1 % 8 ∧ t.fld F.TCPD_CCSTAT_CC2 p = s.ccCode p true cc2 % 8
        ∧ t.ccIs p .unattachedSrc = true) ∧
  (∀ s p cc1 cc2 vbus current vin rivals, s.live p = true → p ≤ 32 → s.ccIs p .unattachedSnk = true →
    oneRp (s.ccCode p false cc1, s.ccCode p true cc2) = true → s.claimedByOther p = false → rivals = [] →
    Completes (.ccSample p cc1 cc2 vbus current vin rivals) s fun t =>
      t.ccIs p .attachWaitSnk = true
        ∧ t.fld F.TCPD_CCSTAT_RPSEEN p = rpSeen (s.ccCode p false cc1, s.ccCode p true cc2) % 4
        ∧ t.on F.TCPD_CCSTAT_SINKCLAIM p = true) ∧
  (∀ s p cc1 cc2 vbus current vin rivals, s.live p = true → p ≤ 32 → s.ccIs p .unattachedSnk = true →
    oneRp (s.ccCode p false cc1, s.ccCode p true cc2) = true → s.claimedByOther p = true →
    Completes (.ccSample p cc1 cc2 vbus current vin rivals) s fun t =>
      t.ccIs p .unattachedSnk = true
        ∧ t.fld F.TCPD_CCSTAT_RPSEEN p = rpSeen (s.ccCode p false cc1, s.ccCode p true cc2) % 4
        ∧ t.on F.TCPD_CCSTAT_SINKCLAIM p = s.on F.TCPD_CCSTAT_SINKCLAIM p) ∧
  (∀ s p, s.ccLive p = true → p ≤ 32 → s.ccIs p .attachWaitSrc = true → oneRd (s.pins p) = true → s.vsafe0 p = true →
    Completes (.tccdebounceExpiry p) s fun t =>
      t.ccIs p .attachedSrc = true ∧ t.on F.TCPD_CCSTAT_POLARITY p = ((s.pins p).2 == 2)
        ∧ t.on F.TCPD_CCSTAT_CABLE_RA p = ((if (s.pins p).2 = 2 then (s.pins p).1 else (s.pins p).2) == 1)
        ∧ t.on F.TCPD_PDSTAT_PROLE p = true ∧ t.on F.TCPD_PDSTAT_DROLE p = true ∧ t.on F.TCPD_PDSTAT_VCSRC p = true
        ∧ t.fld F.TCPD_CNT0_ATTACHES p = (s.fld F.TCPD_CNT0_ATTACHES p + 1) % 2 ^ 16) ∧
  (∀ s p, s.ccLive p = true → p ≤ 32 → s.ccIs p .attachWaitSrc = true → oneRd (s.pins p) = true → s.vsafe0 p = false →
    Completes (.tccdebounceExpiry p) s fun t =>
      t = s) ∧
  (∀ s p, s.ccLive p = true → s.ccIs p .attachWaitSrc = true → s.pins p = (2, 2) → s.on F.TCPD_CCCFG_DEBUG_EN p = true →
    s.vsafe0 p = true →
    Completes (.tccdebounceExpiry p) s fun t =>
      t.ccIs p .debugAccessory = true ∧ t.fld F.TCPD_CCSTAT_ACC p = 2
        ∧ t.fld F.TCPD_CNT3_ACCESSORIES p = (s.fld F.TCPD_CNT3_ACCESSORIES p + 1) % 2 ^ 16) ∧
  (∀ s p, s.ccLive p = true → s.ccIs p .attachWaitSrc = true → s.pins p = (1, 1) → s.on F.TCPD_CCCFG_AUDIO_EN p = true →
    Completes (.tccdebounceExpiry p) s fun t =>
      t.ccIs p .audioAccessory = true ∧ t.fld F.TCPD_CCSTAT_ACC p = 1
        ∧ t.fld F.TCPD_CNT3_ACCESSORIES p = (s.fld F.TCPD_CNT3_ACCESSORIES p + 1) % 2 ^ 16) ∧
  (∀ s p, s.ccLive p = true → s.ccIs p .attachWaitSnk = true → oneRp (s.pins p) = true → 400 < (s.cc.at p).vbus →
    Completes (.tccdebounceExpiry p) s fun t =>
      t.ccIs p .attachedSnk = true ∧ t.on F.TCPD_CCSTAT_POLARITY p = decide (4 ≤ (s.pins p).2)
        ∧ t.fld F.TCPD_CCSTAT_RPSEEN p = rpSeen (s.pins p) % 4
        ∧ t.fld F.TCPD_CNT0_ATTACHES p = (s.fld F.TCPD_CNT0_ATTACHES p + 1) % 2 ^ 16) ∧
  (∀ s p, s.ccLive p = true → p ≤ 32 → s.ccIs p .attachedSrc = true →
    (if s.on F.TCPD_CCSTAT_POLARITY p then (s.pins p).2 else (s.pins p).1) = 0 → (s.pd.at p).swap ≠ .toSinkOff →
    Completes (.tpddebounceExpiry p) s fun t =>
      t.ccIs p .attachedSrc = false ∧ (s.fld F.TCPD_CCCFG_ROLE p = 0 → t.ccIs p .unattachedSrc = true)
        ∧ t.fld F.TCPD_CNT0_DETACHES p = (s.fld F.TCPD_CNT0_DETACHES p + 1) % 2 ^ 16) ∧
  (∀ s p, s.live p = true → s.fld F.TCPD_CCCFG_ROLE p = 1 → s.ccIs p .unattachedSrc = true → s.claimedByOther p = false →
    Completes (.drpToggle p) s fun t =>
      t.ccIs p .unattachedSnk = true ∧ t.fld F.TCPD_CCSTAT_RPOUT p = 0) ∧
  (∀ s p, s.live p = true → s.fld F.TCPD_CCCFG_ROLE p = 1 → s.ccIs p .unattachedSnk = true →
    Completes (.drpToggle p) s fun t =>
      t.ccIs p .unattachedSrc = true ∧ t.fld F.TCPD_CCSTAT_RPOUT p = (s.rpGranted p (s.rplvl p) + 1) % 4) ∧
  (∀ s p vbus, s.ccLive p = true → s.ccIs p .attachedSnk = true → s.prSwapping p = false → vbus < 367 →
    Completes (.sinkVbusLoss p vbus) s fun t =>
      t.ccIs p .attachedSnk = false ∧ t.fld F.TCPD_CNT0_DETACHES p = (s.fld F.TCPD_CNT0_DETACHES p + 1) % 2 ^ 16) ∧
  (∀ s p vbus, s.prSwapping p = true →
    Completes (.sinkVbusLoss p vbus) s fun t =>
      t = s) ∧
  (∀ s p, s.live p = true → s.ccIs p .errorRecovery = true → s.vsafe0 p = true →
    Completes (.errorRecoveryEnd p) s fun t =>
      t.ccIs p .errorRecovery = false ∧ (s.fld F.TCPD_CCCFG_ROLE p = 0 → t.ccIs p .unattachedSrc = true)) ∧
  (∀ s p bit, s.live p = true → bit = 0 → s.ccIs p .ccOvHold = false →
    Completes (.disabledCauseArises p bit) s fun t =>
      t.on F.TCPD_CCCFG_CCEN p = false ∧ t.bit F.TCPD_CCSTAT_DISCAUSE p 0 = true ∧ t.ccIs p .disabled = true) ∧
  (∀ s p bit, s.live p = true → bit = 1 → s.on F.DSW_PSTAT_QUAR p = true → s.ccIs p .ccOvHold = false →
    Completes (.disabledCauseArises p bit) s fun t =>
      t.bit F.TCPD_CCSTAT_DISCAUSE p 1 = true ∧ t.ccIs p .disabled = true) ∧
  (∀ s p bit, s.live p = true → bit = 2 → s.partOf p < 4 → s.logPwr p = false →
    s.on F.PART_PCTL_VBUS_HOLD (s.partOf p) = false → s.ccIs p .ccOvHold = false →
    Completes (.disabledCauseArises p bit) s fun t =>
      t.bit F.TCPD_CCSTAT_DISCAUSE p 2 = true ∧ t.ccIs p .disabled = true) ∧
  (∀ s p bit, s.live p = true → bit = 3 → s.claimedByOther p = true → s.fld F.TCPD_CCCFG_ROLE p = 2 →
    s.on F.TCPD_CCSTAT_SINKCLAIM p = false → s.ccIs p .ccOvHold = false →
    Completes (.disabledCauseArises p bit) s fun t =>
      t.bit F.TCPD_CCSTAT_DISCAUSE p 3 = true ∧ t.ccIs p .disabled = true) ∧
  (∀ s p bit, s.live p = true → bit = 0 → s.ccIs p .ccOvHold = true →
    Completes (.disabledCauseArises p bit) s fun t =>
      t.on F.TCPD_CCCFG_CCEN p = false ∧ t.bit F.TCPD_CCSTAT_DISCAUSE p 0 = true ∧ t.ccIs p .ccOvHold = true) ∧
  (∀ s p, s.live p = true → s.ccIs p .disabled = true → s.fld F.TCPD_CCSTAT_DISCAUSE p = 0 → s.vsafe0 p = true →
    Completes (.disabledExit p) s fun t =>
      t.ccIs p .disabled = false) ∧
  (∀ s p, s.live p = true → s.contracted p = false → s.fld F.TCPD_CCSTAT_RPOUT p ≠ 0 →
    Completes (.rpReevaluate p) s fun t =>
      t.fld F.TCPD_CCSTAT_RPOUT p = (s.rpGranted p (s.rplvl p) + 1) % 4
        ∧ t.ccIs p .unattachedSrc = s.ccIs p .unattachedSrc)

/-- VCONN and CC overvoltage (R226, R227, R229, R236), cable discovery (R230, R231, R233). -/
def Obligations.VconnAndCableCommands : Prop :=
  (∀ s p, s.live p = true → s.vconnAllowed p = true → s.on F.TCPD_CCSTAT_CABLE_RA p = true →
    s.on F.TCPD_PDSTAT_VCSRC p = true → (s.pd.at p).swap ≠ .vconnTaking →
    Completes (.vconnApply p) s fun t =>
      t.on F.TCPD_VCSTAT_VCON p = true) ∧
  (∀ s p, s.live p = true → (s.pd.at p).swap = .vconnTaking → s.on F.TCPD_VCSTAT_VCON p = true →
    Completes (.vconnApply p) s fun t =>
      (t.pd.at p).swap = .none ∧ (t.pd.at p).out.head? = some .psRdy
        ∧ t.fld F.TCPD_PDCNT2_VCSWAPS p = (s.fld F.TCPD_PDCNT2_VCSWAPS p + 1) % 2 ^ 16) ∧
  (∀ s p, s.live p = true →
    Completes (.ccOvTrip p) s fun t =>
      t.ccIs p .ccOvHold = true ∧ t.fld F.TCPD_CNT1_CCOVTRIPS p = (s.fld F.TCPD_CNT1_CCOVTRIPS p + 1) % 2 ^ 16) ∧
  (∀ s p, s.live p = true → s.ccIs p .ccOvHold = true → s.fld F.TCPD_CCSTAT_DISCAUSE p ≠ 0 →
    s.on F.TCPD_CCSTAT_SINKCLAIM p = false →
    Completes (.ccOvRelease p) s fun t =>
      t.ccIs p .disabled = true) ∧
  (∀ s p, s.live p = true → s.ccIs p .ccOvHold = true → s.fld F.TCPD_CCSTAT_DISCAUSE p = 0 → s.fld F.TCPD_CCCFG_ROLE p ≠ 2 →
    Completes (.ccOvRelease p) s fun t =>
      t.ccIs p .unattachedSrc = true ∧ t.fld F.TCPD_CCSTAT_RPOUT p = (s.rpGranted p (s.rplvl p) + 1) % 4) ∧
  (∀ s p, s.live p = true → s.ccIs p .ccOvHold = true → s.fld F.TCPD_CCSTAT_DISCAUSE p = 0 → s.fld F.TCPD_CCCFG_ROLE p = 2 →
    Completes (.ccOvRelease p) s fun t =>
      t.ccIs p .unattachedSnk = true ∧ t.fld F.TCPD_CCSTAT_RPOUT p = 0) ∧
  (∀ s p, s.live p = true → s.on F.TCPD_VCSTAT_VCON p = true →
    Completes (.vconnTrip p) s fun t =>
      t.on F.TCPD_VCSTAT_VCON p = false ∧ t.on F.TCPD_VCSTAT_VCFAULT p = true
        ∧ t.fld F.TCPD_CNT1_VCTRIPS p = (s.fld F.TCPD_CNT1_VCTRIPS p + 1) % 2 ^ 16 ∧ t.on F.TCPD_CABLE_VALID p = false) ∧
  (∀ s p, s.live p = true →
    Completes (.vcrearmWrite p) s fun t =>
      t.on F.TCPD_VCSTAT_VCFAULT p = false) ∧
  (∀ s p, s.live p = true →
    Completes (.discgoWrite p) s fun t =>
      (t.cc.at p).attempts = 0 ∧ t.on F.TCPD_CABLE_NOMARK p = false
        ∧ (s.discAllowed p = true → t.on F.TCPD_CABLE_BUSY p = true)) ∧
  (∀ s p answered, s.discAllowed p = true → s.on F.TCPD_CABLE_VALID p = false → (s.cc.at p).discWait = false →
    (s.cc.at p).attempts < 20 → answered = true →
    Completes (.discoveryAttempt p answered) s fun t =>
      (t.pd.at p).out = [.discoverIdentity 1] ∧ t.on F.TCPD_CABLE_BUSY p = true ∧ (t.cc.at p).discWait = true
        ∧ (t.cc.at p).attempts = (s.cc.at p).attempts) ∧
  (∀ s p answered, s.discAllowed p = true → s.on F.TCPD_CABLE_VALID p = false → (s.cc.at p).discWait = false →
    (s.cc.at p).attempts < 20 → answered = false →
    Completes (.discoveryAttempt p answered) s fun t =>
      (t.pd.at p).out = [.discoverIdentity 1] ∧ (t.cc.at p).attempts = (s.cc.at p).attempts + 1
        ∧ t.on F.TCPD_CABLE_BUSY p = decide ((s.cc.at p).attempts ≠ 19)
        ∧ ((s.cc.at p).attempts = 2 → t.on F.TCPD_CABLE_NOMARK p = true)
        ∧ ((s.cc.at p).attempts = 19 → t.fld F.TCPD_CNT2_DISCFAIL p = (s.fld F.TCPD_CNT2_DISCFAIL p + 1) % 2 ^ 16)) ∧
  (∀ s p idHeader vdo sop2, s.live p = true → s.ccIn p [.attachedSrc, .attachedSnk] = true →
    s.on F.TCPD_PDSTAT_VCSRC p = true → s.on F.TCPD_VCSTAT_VCFAULT p = false →
    (idHeader / 2 ^ 27 % 8 = 3 ∨ idHeader / 2 ^ 27 % 8 = 4) → sop2 = false →
    Completes (.discoverIdentityAck p idHeader vdo sop2) s fun t =>
      t.on F.TCPD_CABLE_VALID p = true ∧ t.on F.TCPD_CABLE_BUSY p = false
        ∧ t.fld F.TCPD_CABLE_VID p = idHeader % 2 ^ 16 ∧ t.fld F.TCPD_CABLEVDO_VDO p = vdo % 2 ^ 32
        ∧ t.on F.TCPD_CABLE_CEIL5A p = decide (vdo / 32 % 4 = 2)
        ∧ t.on F.TCPD_CABLE_CEILEPR p = (vdo.testBit 17 && decide (vdo / 512 % 4 = 3))
        ∧ t.on F.TCPD_CABLE_ACTIVE p = decide (idHeader / 2 ^ 27 % 8 = 4)
        ∧ t.fld F.TCPD_CNT2_DISCOK p = (s.fld F.TCPD_CNT2_DISCOK p + 1) % 2 ^ 16) ∧
  (∀ s p idHeader vdo sop2, s.live p = true → s.ccIn p [.attachedSrc, .attachedSnk] = true →
    s.on F.TCPD_PDSTAT_VCSRC p = true → s.on F.TCPD_VCSTAT_VCFAULT p = false → sop2 = true →
    s.on F.TCPD_CABLE_VALID p = true →
    Completes (.discoverIdentityAck p idHeader vdo sop2) s fun t =>
      t.on F.TCPD_CABLE_SOP2 p = true ∧ t.fld F.TCPD_CABLEVDO_VDO p = s.fld F.TCPD_CABLEVDO_VDO p)

/-- Power Delivery messages and offers (R241, R244, R247, R250). -/
def Obligations.PowerDeliveryMessageCommands : Prop :=
  (∀ s p outcome, s.pdTalks p = true → s.fld F.TCPD_TXCTL_SOP p = 0 → s.on F.TCPD_TXCTL_EXT p = true → s.txTyp p ≠ 17 →
    s.fld F.TCPD_TXCTL_LEN p ≤ 26 → s.on F.TCPD_TXCTL_BUSY p = false → outcome = 1 →
    Completes (.pdTransmit p outcome) s fun t =>
      t.fld F.TCPD_TXCTL_RESULT p = 1 ∧ t.on F.TCPD_TXCTL_BUSY p = false ∧ (t.pd.at p).out.head? = some (s.txMsg p)) ∧
  (∀ s p outcome, s.pdTalks p = true → s.fld F.TCPD_TXCTL_SOP p = 0 → s.on F.TCPD_TXCTL_EXT p = true →
    s.on F.TCPD_TXCTL_BUSY p = false → outcome = 3 →
    Completes (.pdTransmit p outcome) s fun t =>
      t.fld F.TCPD_TXCTL_RESULT p = 3 ∧ t.on F.TCPD_TXCTL_BUSY p = false
        ∧ ((s.pd.at p).capsDue = false → (s.pd.at p).identitySent = true → (t.pd.at p).out = [])) ∧
  (∀ s p outcome, s.pdTalks p = true → s.fld F.TCPD_TXCTL_SOP p = 0 → s.on F.TCPD_TXCTL_EXT p = true →
    s.on F.TCPD_TXCTL_BUSY p = false → outcome = 0 →
    Completes (.pdTransmit p outcome) s fun t =>
      t.fld F.TCPD_TXCTL_RESULT p = 0 ∧ t.on F.TCPD_TXCTL_BUSY p = true ∧ (t.pd.at p).retries = 0) ∧
  (∀ s p outcome, s.pdTalks p = true → s.fld F.TCPD_TXCTL_SOP p = 4 → s.on F.TCPD_PDSTAT_VCSRC p = true →
    s.on F.TCPD_TXCTL_BUSY p = false → (s.pd.at p).capsDue = false → s.contracted p = false →
    (s.pd.at p).eprPending = false →
    Completes (.pdTransmit p outcome) s fun t =>
      t.fld F.TCPD_TXCTL_RESULT p = 1 ∧ t.on F.TCPD_CABLE_VALID p = false ∧ (t.pd.at p).out = [.cableReset]) ∧
  (∀ s p outcome, s.pdTalks p = true → s.fld F.TCPD_TXCTL_SOP p = 3 → s.on F.TCPD_TXCTL_BUSY p = false →
    Completes (.pdTransmit p outcome) s fun t =>
      t.fld F.TCPD_TXCTL_RESULT p = 1 ∧ t.fld F.TCPD_PDCNT1_HRESETS p = (s.fld F.TCPD_PDCNT1_HRESETS p + 1) % 2 ^ 16
        ∧ (t.pd.at p).out.head? = some .hardReset) ∧
  (∀ s p good, s.pdLive p = true → s.on F.TCPD_TXCTL_BUSY p = true → (s.pd.at p).heldReady = false →
    (s.pd.at p).retries < 2 → good = false →
    Completes (.goodcrcTimeout p good) s fun t =>
      t.on F.TCPD_TXCTL_BUSY p = true ∧ (t.pd.at p).retries = (s.pd.at p).retries + 1
        ∧ (s.fld F.TCPD_TXCTL_SOP p = 0 → s.on F.TCPD_TXCTL_EXT p = true → s.txTyp p ≠ 17 →
          (t.pd.at p).out.head? = some (s.txMsg p))) ∧
  (∀ s p good, s.pdLive p = true → s.on F.TCPD_TXCTL_BUSY p = true → (s.pd.at p).heldReady = false →
    (s.pd.at p).retries < 2 → good = true → s.fld F.TCPD_TXCTL_SOP p = 0 → s.on F.TCPD_TXCTL_EXT p = true → s.txTyp p ≠ 17 →
    s.fld F.TCPD_TXCTL_LEN p ≤ 26 →
    Completes (.goodcrcTimeout p good) s fun t =>
      t.on F.TCPD_TXCTL_BUSY p = false ∧ t.fld F.TCPD_TXCTL_RESULT p = 1 ∧ (t.pd.at p).retries = 0
        ∧ (t.pd.at p).out.head? = some (s.txMsg p)) ∧
  (∀ s p good, s.pdLive p = true → s.on F.TCPD_TXCTL_BUSY p = true → (s.pd.at p).heldReady = false →
    2 ≤ (s.pd.at p).retries →
    Completes (.goodcrcTimeout p good) s fun t =>
      t.on F.TCPD_TXCTL_BUSY p = false ∧ t.fld F.TCPD_TXCTL_RESULT p = 2
        ∧ t.fld F.TCPD_PDCNT3_TXFAIL p = (s.fld F.TCPD_PDCNT3_TXFAIL p + 1) % 2 ^ 16) ∧
  (∀ s p sop hdr extHdr ext bytes, s.pdTalks p = true → s.on F.TCPD_RXSTAT_FULL p = true → sop = 0 →
    Completes (.pdMessageReceived p sop hdr extHdr ext bytes) s fun t =>
      t.fld F.TCPD_PDCNT3_RXBUSY p = (s.fld F.TCPD_PDCNT3_RXBUSY p + 1) % 2 ^ 16
        ∧ ((s.pd.at p).capsDue = false → (s.pd.at p).identitySent = true → (t.pd.at p).out = [])
        ∧ t.fld F.TCPD_RXHDR_HDR p = s.fld F.TCPD_RXHDR_HDR p) ∧
  (∀ s p sop hdr extHdr ext bytes, s.pdTalks p = true → s.vendorOn p = true → p ≤ 32 → s.on F.TCPD_RXSTAT_FULL p = false →
    s.duplicate p ⟨0, hdr, false, extHdr, bytes⟩ = false → sop = 0 → ext = false → hdr < 2 ^ 16 → hdr % 32 = 9 →
    hdr / 2 ^ 12 % 8 = 0 →
    Completes (.pdMessageReceived p sop hdr extHdr ext bytes) s fun t =>
      t.fld F.TCPD_RXHDR_HDR p = hdr ∧ t.on F.TCPD_RXSTAT_FULL p = true
        ∧ t.fld F.TCPD_RXSTAT_LEN p = min 128 bytes.length ∧ (t.pd.at p).out.head? = some .reject
        ∧ (t.fld F.TCPD_PDSTAT_REV p = if s.fld F.TCPD_PDSTAT_REV p = 0 then (if hdr / 64 % 4 = 2 then 2 else 1) else s.fld F.TCPD_PDSTAT_REV p)) ∧
  (∀ s p sop hdr extHdr ext bytes, s.pdTalks p = true → s.on F.TCPD_RXSTAT_FULL p = false →
    s.duplicate p ⟨0, hdr, true, extHdr, bytes⟩ = false → sop = 0 → ext = true → extHdr.testBit 15 = false →
    s.fld F.TCPD_PDSTAT_REV p = 2 →
    Completes (.pdMessageReceived p sop hdr extHdr ext bytes) s fun t =>
      (t.pd.at p).out.head? = some .notSupported ∧ t.on F.TCPD_RXSTAT_FULL p = false) ∧
  (∀ s p, 
    Completes (.rxRelease p) s fun t =>
      t.on F.TCPD_RXSTAT_FULL p = false ∧ s.OnlyIn [.reg .tcpd, .free] t) ∧
  (∀ s p good, s.sourceReady p = true → s.on F.TCPD_PDSTAT_EPRMODE p = false → good = true →
    Completes (.sourceCapabilitiesSend p good) s fun t =>
      (t.pd.at p).out.head? = some (.sourceCaps (s.sprObjects p)) ∧ (t.pd.at p).offered = numbered 1 (s.sprObjects p)
        ∧ (t.pd.at p).awaiting = true ∧ (t.pd.at p).attempts = 0 ∧ t.on F.TCPD_PDSTAT_AMS p = true) ∧
  (∀ s p good, s.sourceReady p = true → (s.pd.at p).capsDue = false → s.on F.TCPD_PDSTAT_EPRMODE p = false → good = false →
    Completes (.sourceCapabilitiesSend p good) s fun t =>
      (t.pd.at p).out.head? = some (.sourceCaps (s.sprObjects p)) ∧ (t.pd.at p).attempts = (s.pd.at p).attempts + 1
        ∧ (t.pd.at p).noPd = decide (49 ≤ (s.pd.at p).attempts)) ∧
  (∀ s p good, s.sourceReady p = true → 0 < (s.pd.at p).attempts → s.on F.TCPD_PDSTAT_EPRMODE p = true → good = true →
    Completes (.sourceCapRepeat p good) s fun t =>
      (t.pd.at p).out.head? = some (.eprSourceCaps (t.pd.at p).offeredEpr) ∧ (t.pd.at p).attempts = 0) ∧
  (∀ s p good, s.sourceReady p = true → 0 < (s.pd.at p).attempts → (s.pd.at p).capsDue = false →
    s.on F.TCPD_PDSTAT_EPRMODE p = true → good = false →
    Completes (.sourceCapRepeat p good) s fun t =>
      (t.pd.at p).out.head? = some (.eprSourceCaps (t.pd.at p).offeredEpr)
        ∧ (t.pd.at p).attempts = (s.pd.at p).attempts + 1 ∧ (t.pd.at p).noPd = decide (49 ≤ (s.pd.at p).attempts)) ∧
  (∀ s p, s.vendorOn p = true → s.pdTalks p = true → (s.pd.at p).awaiting = true → (s.pd.at p).rxExt = none →
    (s.pd.at p).txExt = none → (s.pd.at p).own = .none → (s.pd.at p).query ≠ 1 → (s.pd.at p).swap = .none →
    Completes (.senderResponseTimeout p) s fun t =>
      (t.pd.at p).awaiting = false ∧ (t.pd.at p).out.head? = some .hardReset
        ∧ t.fld F.TCPD_PDCNT1_HRESETS p = (s.fld F.TCPD_PDCNT1_HRESETS p + 1) % 2 ^ 16) ∧
  (∀ s p, s.policyOn p = true → s.pdTalks p = true → (s.pd.at p).rxExt = none → (s.pd.at p).txExt = none →
    (s.pd.at p).own = .none → (s.pd.at p).query = 1 →
    Completes (.senderResponseTimeout p) s fun t =>
      (t.pd.at p).query = 4) ∧
  (∀ s p, s.policyOn p = true → s.pdTalks p = true → (s.pd.at p).rxExt = none → (s.pd.at p).txExt = none →
    (s.pd.at p).own = .softReset →
    Completes (.senderResponseTimeout p) s fun t =>
      (t.pd.at p).own = .none ∧ (t.pd.at p).out.head? = some .hardReset
        ∧ t.fld F.TCPD_PDCNT1_HRESETS p = (s.fld F.TCPD_PDCNT1_HRESETS p + 1) % 2 ^ 16)

/-- Requests and contracts (R252 to R256), Hard Reset (R266), the hold responder and the sink policy (R244, R262, R272). -/
def Obligations.PowerDeliveryContractCommands : Prop :=
  (∀ s p epr pos mv curr eprCapable rev, s.vendorOn p = true → p ≤ 32 → s.live p = true → s.ccIs p .attachedSrc = true →
    s.on F.TCPD_PDSTAT_PROLE p = true → s.amsHeld p = false → s.on F.TCPD_RXSTAT_FULL p = false →
    objAt (s.lastOffer p) pos = none →
    Completes (.request p epr pos mv curr eprCapable rev) s fun t =>
      (t.pd.at p).out.head? = some .reject
        ∧ t.fld F.TCPD_PDCNT4_REJECTS p = (s.fld F.TCPD_PDCNT4_REJECTS p + 1) % 2 ^ 16 ∧ (t.pd.at p).accepted = none) ∧
  (∀ s p epr pos mv curr eprCapable rev (w v : Nat), s.vendorOn p = true → p ≤ 32 → s.live p = true →
    s.ccIs p .attachedSrc = true → s.on F.TCPD_PDSTAT_PROLE p = true → s.amsHeld p = false →
    s.on F.TCPD_RXSTAT_FULL p = false → objAt (s.lastOffer p) pos = some w → v = (if objKind w = 0 then objMaxV w else mv) →
    (objKind w = 5 ∨ v < objMinV w ∨ objMaxV w < v ∨ objMaxI w v < curr) →
    Completes (.request p epr pos mv curr eprCapable rev) s fun t =>
      (t.pd.at p).out.head? = some .reject
        ∧ t.fld F.TCPD_PDCNT4_REJECTS p = (s.fld F.TCPD_PDCNT4_REJECTS p + 1) % 2 ^ 16 ∧ (t.pd.at p).accepted = none) ∧
  (∀ s p epr pos mv curr eprCapable rev (w v : Nat), s.vendorOn p = true → p ≤ 32 → s.live p = true →
    s.ccIs p .attachedSrc = true → s.on F.TCPD_PDSTAT_PROLE p = true → s.amsHeld p = false →
    s.on F.TCPD_RXSTAT_FULL p = false → objAt (s.lastOffer p) pos = some w → v = (if objKind w = 0 then objMaxV w else mv) →
    objKind w ≠ 5 → objMinV w ≤ v → v ≤ objMaxV w → curr ≤ objMaxI w v → ((epr = true →
    s.on F.TCPD_PDSTAT_EPRMODE p = true)) → ((epr = false → pos < 8)) → 100 * s.fld F.TCPD_GRANT_PCAP p < power10 v curr →
    Completes (.request p epr pos mv curr eprCapable rev) s fun t =>
      (t.pd.at p).out.head? = some .wait ∧ t.fld F.TCPD_PDCNT0_WAITS p = (s.fld F.TCPD_PDCNT0_WAITS p + 1) % 2 ^ 16
        ∧ (t.pd.at p).accepted = none) ∧
  (∀ s p epr pos mv curr eprCapable rev (w v : Nat), s.vendorOn p = true → p ≤ 32 → s.live p = true →
    s.ccIs p .attachedSrc = true → s.on F.TCPD_PDSTAT_PROLE p = true → s.amsHeld p = false →
    s.on F.TCPD_RXSTAT_FULL p = false → objAt (s.lastOffer p) pos = some w → v = (if objKind w = 0 then objMaxV w else mv) →
    objKind w ≠ 5 → objMinV w ≤ v → v ≤ objMaxV w → curr ≤ objMaxI w v → ((epr = true →
    s.on F.TCPD_PDSTAT_EPRMODE p = true)) → ((epr = false → pos < 8)) → power10 v curr ≤ 100 * s.fld F.TCPD_GRANT_PCAP p →
    s.contracted p = true → s.fld F.TCPD_CONTRACT_OBJPOS p = pos → (s.pd.at p).volt = v →
    s.fld F.TCPD_CONTRACT_CURR p = curr →
    Completes (.request p epr pos mv curr eprCapable rev) s fun t =>
      (t.pd.at p).out.take 2 = [.accept, .psRdy] ∧ (t.pd.at p).accepted = none ∧ t.fld F.TCPD_CONTRACT_OBJPOS p = pos) ∧
  (∀ s p epr pos mv curr eprCapable rev (w v : Nat), s.vendorOn p = true → p ≤ 32 → s.live p = true →
    s.ccIs p .attachedSrc = true → s.on F.TCPD_PDSTAT_PROLE p = true → s.amsHeld p = false →
    s.on F.TCPD_RXSTAT_FULL p = false → objAt (s.lastOffer p) pos = some w → v = (if objKind w = 0 then objMaxV w else mv) →
    objKind w ≠ 5 → objMinV w ≤ v → v ≤ objMaxV w → curr ≤ objMaxI w v → ((epr = true →
    s.on F.TCPD_PDSTAT_EPRMODE p = true)) → ((epr = false → pos < 8)) → power10 v curr ≤ 100 * s.fld F.TCPD_GRANT_PCAP p →
    s.contracted p = false → s.grantable p (power10 v curr) = true → s.cableAllows p v curr = true → s.commandOn p = false →
    Completes (.request p epr pos mv curr eprCapable rev) s fun t =>
      (t.pd.at p).out.head? = some .accept
        ∧ (t.pd.at p).accepted = some ⟨pos, v, curr, power10 v curr, objType w, eprCapable⟩
        ∧ t.on F.TCPD_PDSTAT_AMS p = true ∧ (t.gov.at p).grant = max (s.gov.at p).grant (power10 v curr)
        ∧ t.fld F.TCPD_PDCNT0_CONTRACTS p = (s.fld F.TCPD_PDCNT0_CONTRACTS p + 1) % 2 ^ 16) ∧
  (∀ s p epr pos mv curr eprCapable rev (w v : Nat), s.vendorOn p = true → p ≤ 32 → s.live p = true →
    s.ccIs p .attachedSrc = true → s.on F.TCPD_PDSTAT_PROLE p = true → s.amsHeld p = false →
    s.on F.TCPD_RXSTAT_FULL p = false → objAt (s.lastOffer p) pos = some w → v = (if objKind w = 0 then objMaxV w else mv) →
    objKind w ≠ 5 → objMinV w ≤ v → v ≤ objMaxV w → curr ≤ objMaxI w v → ((epr = true →
    s.on F.TCPD_PDSTAT_EPRMODE p = true)) → ((epr = false → pos < 8)) → power10 v curr ≤ 100 * s.fld F.TCPD_GRANT_PCAP p →
    s.contracted p = false → s.grantable p (power10 v curr) = false →
    Completes (.request p epr pos mv curr eprCapable rev) s fun t =>
      (t.pd.at p).out.head? = some .wait ∧ (t.pd.at p).accepted = none
        ∧ t.fld F.TCPD_PDCNT0_WAITS p = (s.fld F.TCPD_PDCNT0_WAITS p + 1) % 2 ^ 16) ∧
  (∀ s p, s.offerTurn p = true → s.on F.TCPD_PDSTAT_EPRMODE p = false →
    Completes (.budgetFreedOffer p) s fun t =>
      (t.pd.at p).out.head? = some (.sourceCaps (s.sprObjects p)) ∧ (t.pd.at p).lastWait = false
        ∧ (t.pd.at p).awaiting = true) ∧
  (∀ s p (o : Offer), s.vendorOn p = true → p ≤ 32 → (s.pd.at p).accepted = some o → s.transitionDone p o = true →
    (s.pd.at p).capsDue = false → (s.pd.at p).swap = .none → (s.pd.at p).query ≠ 1 → (s.cc.at p).discWait = false →
    o.pos < 16 → o.volt / 20 < 4096 → o.curr < 1024 → o.power < 65536 →
    Completes (.transitionPsRdy p) s fun t =>
      t.fld F.TCPD_CONTRACT_OBJPOS p = o.pos ∧ t.fld F.TCPD_CONTRACT_VOLT p = o.volt / 20
        ∧ t.fld F.TCPD_CONTRACT_CURR p = o.curr ∧ t.fld F.TCPD_GRANT_GRANT p = o.power
        ∧ t.on F.TCPD_CCSTAT_CONTRACT p = true
        ∧ ((s.pd.at p).identitySent = true → (s.pd.at p).own = .none →
          t.fld F.TCPD_CCSTAT_RPOUT p = 3 ∧ t.on F.TCPD_PDSTAT_AMS p = false)
        ∧ (t.pd.at p).accepted = none ∧ (t.pd.at p).out.head? = some .psRdy) ∧
  (∀ s p, s.pdLive p = true → p ≤ 32 → s.on F.TCPD_PDSTAT_PROLE p = true → s.fld F.TCPD_PDSTAT_PTYPE p = 2 →
    Completes (.ppsTimeout p) s fun t =>
      (t.pd.at p).out.head? = some .hardReset ∧ (t.pd.at p).silent = true
        ∧ t.fld F.TCPD_PDCNT1_HRESETS p = (s.fld F.TCPD_PDCNT1_HRESETS p + 1) % 2 ^ 16) ∧
  (∀ s p (o : Offer), s.vendorOn p = true → s.sinkTxOk p = true → (s.pd.at p).sinkOffer = some o →
    (s.pd.at p).sinkAccepted = false → s.on F.TCPD_PDSTAT_AMS p = false →
    Completes (.sinkRequestRetry p) s fun t =>
      (t.pd.at p).out = [.request (o.pos * 2 ^ 28 + o.curr * 1024 + o.curr)] ∧ t.on F.TCPD_PDSTAT_AMS p = true
        ∧ s.OnlyIn [.reg .tcpd, .pd] t) ∧
  (∀ s p sent, s.pdTalks p = true → p ≤ 32 → (s.cc.at p).attachedSink = false → ((s.on F.TCPD_CCSTAT_SINKCLAIM p = true →
    s.claimedByOther p = false)) →
    Completes (.hardReset p sent) s fun t =>
      t.on F.TCPD_PDSTAT_HRST p = true ∧ t.on F.TCPD_PDSTAT_PROLE p = true ∧ t.on F.TCPD_PDSTAT_VCSRC p = true
        ∧ t.fld F.TCPD_CONTRACT_OBJPOS p = 0 ∧ t.fld F.TCPD_PDSTAT_REV p = 0 ∧ t.on F.TCPD_VCSTAT_VCON p = false
        ∧ t.fld F.TCPD_PDCNT1_HRESETS p = (s.fld F.TCPD_PDCNT1_HRESETS p + 1) % 2 ^ 16
        ∧ ((t.pd.at p).hardStep = if s.pwrIn p sourcing then 1 else if s.vsafe0 p then 3 else 2)) ∧
  (∀ s p sent, s.pdTalks p = true → sent = true →
    Completes (.hardReset p sent) s fun t =>
      (t.pd.at p).out.head? = some .hardReset ∧ (t.pd.at p).hardResets = (s.pd.at p).hardResets + 1
        ∧ t.contracted p = false ∧ t.fld F.TCPD_PDCNT1_HRESETS p = (s.fld F.TCPD_PDCNT1_HRESETS p + 1) % 2 ^ 16) ∧
  (∀ s p, s.live p = true → (s.pd.at p).hardStep = 1 →
    Completes (.hardResetVbusOff p) s fun t =>
      (t.pd.at p).hardStep = 2 ∧ (t.pwr.at p).offInterval = true
        ∧ (s.pwrIn p sourcing = true → t.pwrIs p .discharge = true)) ∧
  (∀ s p, s.live p = true → 2 ≤ (s.pd.at p).hardStep → s.vsafe0 p = true →
    Completes (.hardResetRecover p) s fun t =>
      (t.pd.at p).hardStep = 0 ∧ t.on F.TCPD_PDSTAT_HRST p = false ∧ (t.pwr.at p).offInterval = false) ∧
  (∀ s p, s.live p = true → 2 ≤ (s.pd.at p).hardStep → s.vsafe0 p = false → s.ccIn p [.disabled, .ccOvHold] = false →
    ((s.on F.TCPD_CCSTAT_SINKCLAIM p = true → s.claimedByOther p = false)) →
    Completes (.hardResetRecover p) s fun t =>
      t.ccIs p .errorRecovery = true) ∧
  (∀ s p, s.vendorOn p = true → p ≤ 32 → (s.pd.at p).silent = true → (s.pd.at p).hardResets < 2 →
    Completes (.noResponseTimeout p) s fun t =>
      (t.pd.at p).out.head? = some .hardReset
        ∧ t.fld F.TCPD_PDCNT1_HRESETS p = (s.fld F.TCPD_PDCNT1_HRESETS p + 1) % 2 ^ 16) ∧
  (∀ s p, s.vendorOn p = true → p ≤ 32 → (s.pd.at p).silent = true → 2 ≤ (s.pd.at p).hardResets → (s.pd.at p).heard = false →
    Completes (.noResponseTimeout p) s fun t =>
      (t.pd.at p).noPd = true ∧ (t.pd.at p).silent = false ∧ s.OnlyIn [.pd] t) ∧
  (∀ s p, s.vendorOn p = true → p ≤ 32 → (s.pd.at p).silent = true → 2 ≤ (s.pd.at p).hardResets → (s.pd.at p).heard = true →
    s.ccIn p [.disabled, .ccOvHold] = false → ((s.on F.TCPD_CCSTAT_SINKCLAIM p = true → s.claimedByOther p = false)) →
    Completes (.noResponseTimeout p) s fun t =>
      t.ccIs p .errorRecovery = true) ∧
  (∀ s p, s.pdLive p = true → s.policyRuns p = false → s.on F.TCPD_PDSTAT_HOLD p = false →
    Completes (.holdResponderStart p) s fun t =>
      t.on F.TCPD_PDSTAT_HOLD p = true ∧ t.on F.TCPD_PDSTAT_AMS p = false ∧ (t.pd.at p).accepted = none
        ∧ (t.pd.at p).swap = .none ∧ (s.on F.TCPD_CCSTAT_SINKCLAIM p = false → t.contracted p = s.contracted p)) ∧
  (∀ s p, s.pdLive p = true → s.policyRuns p = true → s.on F.TCPD_PDSTAT_HOLD p = true →
    Completes (.policyEngineStart p) s fun t =>
      t.on F.TCPD_PDSTAT_HOLD p = false ∧ t.policyOn p = true ∧ (t.pd.at p).attempts = 0 ∧ (t.pd.at p).noPd = false) ∧
  (∀ s vin, 
    Completes (.feed48Change vin) s fun t =>
      t.on F.GOV_STAT_FEED48 0 = decide (5300 ≤ vin) ∧ (s.on F.GOV_STAT_FEED48 0 = decide (5300 ≤ vin) → t = s)
        ∧ (s.on F.GOV_STAT_FEED48 0 ≠ decide (5300 ≤ vin) → t.pends 13 = true ∧ (∀ p ∈ allPorts, s.live p = true →
          t.on F.TCPD_PDSTAT_FEED48 p = decide (5300 ≤ vin))))

/-- EPR mode (R257, R258, R267). -/
def Obligations.EprModeCommands : Prop :=
  (∀ s p, s.vendorOn p = true → p ≤ 32 → s.pdTalks p = true → s.on F.TCPD_PDSTAT_PROLE p = true →
    s.fld F.TCPD_PDSTAT_REV p ≠ 1 → ((s.contracted p = false ∨ s.on F.TCPD_PDSTAT_EPRMODE p = true)) →
    s.on F.TCPD_RXSTAT_FULL p = false →
    Completes (.eprModeEnter p) s fun t =>
      (t.pd.at p).out.head? = some .softReset
        ∧ t.fld F.TCPD_PDCNT1_SRESETS p = (s.fld F.TCPD_PDCNT1_SRESETS p + 1) % 2 ^ 16) ∧
  (∀ s p, s.vendorOn p = true → p ≤ 32 → s.pdTalks p = true → s.on F.TCPD_PDSTAT_PROLE p = true →
    s.fld F.TCPD_PDSTAT_REV p ≠ 1 → s.contracted p = true → s.on F.TCPD_PDSTAT_EPRMODE p = false →
    (s.pd.at p).eprCapable = false → s.on F.TCPD_RXSTAT_FULL p = false →
    Completes (.eprModeEnter p) s fun t =>
      (t.pd.at p).out.head? = some (.eprMode 4 3) ∧ (t.pd.at p).eprPending = (s.pd.at p).eprPending) ∧
  (∀ s p, s.vendorOn p = true → p ≤ 32 → s.pdTalks p = true → s.on F.TCPD_PDSTAT_PROLE p = true →
    s.fld F.TCPD_PDSTAT_REV p ≠ 1 → s.contracted p = true → s.on F.TCPD_PDSTAT_EPRMODE p = false →
    (s.pd.at p).eprCapable = true → s.on F.TCPD_RXSTAT_FULL p = false →
    Completes (.eprModeEnter p) s fun t =>
      (t.pd.at p).out.head? = some (.eprMode 2 0) ∧ (t.pd.at p).eprPending = true) ∧
  (∀ s p, s.policyOn p = false → s.pdTalks p = true → s.fld F.TCPD_PDSTAT_REV p = 2 → s.on F.TCPD_RXSTAT_FULL p = false →
    Completes (.eprModeEnter p) s fun t =>
      (t.pd.at p).out.head? = some .notSupported ∧ s.OnlyIn [.reg .tcpd, .pd] t) ∧
  (∀ s p, s.vendorOn p = true → (s.pd.at p).eprPending = true →
    ((s.on F.TCPD_CABLE_VALID p = false ∨ s.on F.TCPD_CABLE_CEILEPR p = false)) →
    Completes (.eprEntryCheck p) s fun t =>
      (t.pd.at p).out.head? = some (.eprMode 4 1) ∧ (t.pd.at p).eprPending = false
        ∧ t.on F.TCPD_PDSTAT_EPRMODE p = s.on F.TCPD_PDSTAT_EPRMODE p) ∧
  (∀ s p, s.vendorOn p = true → (s.pd.at p).eprPending = true → s.on F.TCPD_CABLE_VALID p = true →
    s.on F.TCPD_CABLE_CEILEPR p = true → s.on F.TCPD_PDSTAT_VCSRC p = false →
    Completes (.eprEntryCheck p) s fun t =>
      (t.pd.at p).out.head? = some (.eprMode 4 2) ∧ (t.pd.at p).eprPending = false
        ∧ t.on F.TCPD_PDSTAT_EPRMODE p = s.on F.TCPD_PDSTAT_EPRMODE p) ∧
  (∀ s p, s.vendorOn p = true → (s.pd.at p).eprPending = true → s.on F.TCPD_CABLE_VALID p = true →
    s.on F.TCPD_CABLE_CEILEPR p = true → s.on F.TCPD_PDSTAT_VCSRC p = true → s.on F.TCPD_PDCFG_EPR_EN p = true →
    holdsEpr (s.profile p) = true →
    Completes (.eprEntryCheck p) s fun t =>
      t.on F.TCPD_PDSTAT_EPRMODE p = true ∧ (t.pd.at p).eprPending = false
        ∧ (t.pd.at p).out.head? = some (.eprMode 3 0)
        ∧ t.fld F.TCPD_PDCNT4_EPRENTRY p = (s.fld F.TCPD_PDCNT4_EPRENTRY p + 1) % 2 ^ 16) ∧
  (∀ s p, s.vendorOn p = true → (s.pd.at p).eprPending = true → s.on F.TCPD_CABLE_VALID p = true →
    s.on F.TCPD_CABLE_CEILEPR p = true → s.on F.TCPD_PDSTAT_VCSRC p = true →
    ((s.on F.TCPD_PDCFG_EPR_EN p = false ∨ holdsEpr (s.profile p) = false)) →
    Completes (.eprEntryCheck p) s fun t =>
      (t.pd.at p).out.head? = some (.eprMode 4 4) ∧ (t.pd.at p).eprPending = false
        ∧ t.on F.TCPD_PDSTAT_EPRMODE p = s.on F.TCPD_PDSTAT_EPRMODE p) ∧
  (∀ s p, s.pdTalks p = true → p ≤ 32 → ((s.policyOn p = true → s.vendorOn p = true)) → s.fld F.TCPD_PDSTAT_REV p ≠ 1 →
    s.on F.TCPD_RXSTAT_FULL p = false →
    Completes (.eprKeepalive p) s fun t =>
      (t.pd.at p).out.head? = some .keepAliveAck ∧ (t.pd.at p).heard = true ∧ (t.pd.at p).silent = false
        ∧ s.OnlyIn [.reg .tcpd, .pd] t) ∧
  (∀ s p, s.pdTalks p = true → p ≤ 32 → ((s.policyOn p = true → s.vendorOn p = true)) → s.fld F.TCPD_PDSTAT_REV p = 1 →
    s.on F.TCPD_RXSTAT_FULL p = false →
    Completes (.eprKeepalive p) s fun t =>
      (t.pd.at p).out.head? = some .reject
        ∧ t.fld F.TCPD_PDCNT4_REJECTS p = (s.fld F.TCPD_PDCNT4_REJECTS p + 1) % 2 ^ 16 ∧ s.OnlyIn [.reg .tcpd, .pd] t) ∧
  (∀ s p, s.pdLive p = true → s.on F.TCPD_PDSTAT_EPRMODE p = true →
    Completes (.eprKeepaliveTimeout p) s fun t =>
      (t.pd.at p).out.head? = some .hardReset ∧ t.on F.TCPD_PDSTAT_EPRMODE p = false
        ∧ t.fld F.TCPD_CONTRACT_OBJPOS p = 0) ∧
  (∀ s p bySink, s.vendorOn p = true → s.pdTalks p = true → p ≤ 32 → s.on F.TCPD_PDSTAT_EPRMODE p = true → bySink = true →
    (s.pd.at p).volt ≤ 20000 → s.on F.TCPD_RXSTAT_FULL p = false →
    Completes (.eprModeExit p bySink) s fun t =>
      t.on F.TCPD_PDSTAT_EPRMODE p = false
        ∧ (s.pwrIs p .latched = false → (t.pd.at p).out.head? = some (.sourceCaps (s.sprObjects p)))) ∧
  (∀ s p bySink, s.vendorOn p = true → s.pdTalks p = true → p ≤ 32 → s.on F.TCPD_PDSTAT_EPRMODE p = true → bySink = true →
    20000 < (s.pd.at p).volt → s.on F.TCPD_RXSTAT_FULL p = false →
    Completes (.eprModeExit p bySink) s fun t =>
      (t.pd.at p).out.head? = some .hardReset
        ∧ t.fld F.TCPD_PDCNT1_HRESETS p = (s.fld F.TCPD_PDCNT1_HRESETS p + 1) % 2 ^ 16
        ∧ t.on F.TCPD_PDSTAT_EPRMODE p = false) ∧
  (∀ s p bySink, s.vendorOn p = true → s.pdTalks p = true → p ≤ 32 → s.on F.TCPD_PDSTAT_EPRMODE p = true → bySink = false →
    s.eprMustLeave p = true → s.sourceReady p = true →
    Completes (.eprModeExit p bySink) s fun t =>
      (t.pd.at p).eprLeaving = true ∧ (t.pd.at p).out.head? = some (.eprSourceCaps (numbered 1 (s.sprObjects p))))

/-- Swaps (R259 to R265), and the hold responder's and sink policy's answers (R244, R268). -/
def Obligations.SwapCommands : Prop :=
  (∀ s p rivals rev, s.policyOn p = true → s.vendorOn p = false → p ≤ 32 → s.pdTalks p = true →
    s.on F.TCPD_RXSTAT_FULL p = false →
    Completes (.prSwapReceived p rivals rev) s fun t =>
      (t.pd.at p).ask = .prSwap rivals ∧ (t.pd.at p).swap = (s.pd.at p).swap) ∧
  (∀ s p rivals rev, s.vendorOn p = true → p ≤ 32 → s.ccIs p .attachedSrc = true → s.on F.TCPD_PDSTAT_PROLE p = true →
    s.prSwapAnswer p rivals = 0 → s.on F.TCPD_RXSTAT_FULL p = false →
    Completes (.prSwapReceived p rivals rev) s fun t =>
      (t.pd.at p).out.head? = some .accept ∧ (t.pd.at p).swap = .toSinkAccepted ∧ t.on F.TCPD_PDSTAT_SWAP p = true
        ∧ t.on F.TCPD_CCSTAT_SINKCLAIM p = true) ∧
  (∀ s p rivals rev, s.vendorOn p = true → p ≤ 32 → s.ccIs p .attachedSrc = true → s.on F.TCPD_PDSTAT_PROLE p = true →
    s.prSwapAnswer p rivals = 1 → s.on F.TCPD_RXSTAT_FULL p = false →
    Completes (.prSwapReceived p rivals rev) s fun t =>
      (t.pd.at p).out.head? = some .reject ∧ (t.pd.at p).swap = (s.pd.at p).swap
        ∧ t.fld F.TCPD_PDCNT4_REJECTS p = (s.fld F.TCPD_PDCNT4_REJECTS p + 1) % 2 ^ 16) ∧
  (∀ s p rivals rev, s.vendorOn p = true → p ≤ 32 → s.ccIs p .attachedSrc = true → s.on F.TCPD_PDSTAT_PROLE p = true →
    s.prSwapAnswer p rivals = 2 → s.on F.TCPD_RXSTAT_FULL p = false →
    Completes (.prSwapReceived p rivals rev) s fun t =>
      (t.pd.at p).out.head? = some .wait ∧ (t.pd.at p).swap = (s.pd.at p).swap) ∧
  (∀ s p rivals rev, s.vendorOn p = true → p ≤ 32 → s.ccIs p .attachedSnk = true → s.on F.TCPD_PDSTAT_PROLE p = false →
    s.amsOn p = true → s.on F.TCPD_RXSTAT_FULL p = false →
    Completes (.prSwapReceived p rivals rev) s fun t =>
      (t.pd.at p).out.head? = some .wait ∧ (t.pd.at p).swap = (s.pd.at p).swap) ∧
  (∀ s p rivals rev, s.vendorOn p = true → p ≤ 32 → s.ccIs p .attachedSnk = true → s.on F.TCPD_PDSTAT_PROLE p = false →
    s.amsOn p = false → s.on F.TCPD_RXSTAT_FULL p = false →
    Completes (.prSwapReceived p rivals rev) s fun t =>
      (t.pd.at p).out.head? = some .accept ∧ (t.pd.at p).swap = .toSourceAccepted ∧ t.fld F.TCPD_CONTRACT_OBJPOS p = 0
        ∧ t.on F.TCPD_SINKSTAT_SKGON p = false ∧ t.on F.TCPD_PDSTAT_SWAP p = true) ∧
  (∀ s p, s.live p = true → (s.pd.at p).swap = .toSinkAccepted →
    Completes (.swapSourceOff p) s fun t =>
      (t.pd.at p).swap = .toSinkOff ∧ (t.pwr.at p).offInterval = true ∧ t.fld F.TCPD_CONTRACT_OBJPOS p = 0
        ∧ (s.pwrIn p sourcing = true → t.pwrIs p .discharge = true)) ∧
  (∀ s p, s.live p = true → (s.pd.at p).swap = .toSinkOff → s.vsafe0 p = true →
    Completes (.swapVsafe0 p) s fun t =>
      (t.pd.at p).swap = .toSinkWait ∧ (s.vendorOn p = true → (t.pd.at p).out.head? = some .psRdy)
        ∧ t.ccIs p .attachedSnk = true ∧ t.on F.TCPD_PDSTAT_PROLE p = false ∧ t.fld F.TCPD_CCSTAT_RPOUT p = 0) ∧
  (∀ s p, s.live p = true → (s.pd.at p).swap = .toSinkWait → s.on F.TCPD_RXSTAT_FULL p = false →
    Completes (.swapPartnerPsRdy p) s fun t =>
      (t.pd.at p).swap = .toSinkRequest ∧ (s.vendorOn p = true → (t.pd.at p).out.head? = some .getSourceCap)) ∧
  (∀ s p, s.live p = true → (s.pd.at p).swap = .toSourceAccepted → s.on F.TCPD_RXSTAT_FULL p = false →
    Completes (.swapPartnerPsRdy p) s fun t =>
      (t.pd.at p).swap = .toSourceOn ∧ (t.pwr.at p).swapOn = true) ∧
  (∀ s p, s.live p = true → (s.pd.at p).swap = .vconnGive → s.on F.TCPD_RXSTAT_FULL p = false →
    Completes (.swapPartnerPsRdy p) s fun t =>
      (t.pd.at p).swap = .none ∧ t.on F.TCPD_VCSTAT_VCON p = false ∧ t.on F.TCPD_PDSTAT_VCSRC p = false
        ∧ t.fld F.TCPD_PDCNT2_VCSWAPS p = (s.fld F.TCPD_PDCNT2_VCSWAPS p + 1) % 2 ^ 16) ∧
  (∀ s p, s.live p = true →
    ((s.pd.at p).swap = .toSinkOff ∨ (s.pd.at p).swap = .toSinkWait ∨ (s.pd.at p).swap = .toSinkRequest ∨ (s.pd.at p).swap = .toSourceAccepted ∨ (s.pd.at p).swap = .toSourceOn ∨ (s.pd.at p).swap = .vconnGive) →
    Completes (.swapTimeout p) s fun t =>
      (t.pd.at p).swap = .none ∧ t.on F.TCPD_PDSTAT_SWAP p = false ∧ (t.pd.at p).out.head? = some .hardReset) ∧
  (∀ s p, s.live p = true → (s.pd.at p).swap = .toSourceOn → s.pwrIn p [.ramp, .qual, .on] = true →
    (s.on F.TCPD_CCSTAT_SINKCLAIM p = true → s.claimedByOther p = false) →
    Completes (.sinkToSourceVsafe5 p) s fun t =>
      (t.pd.at p).swap = .none ∧ t.on F.TCPD_CCSTAT_SINKCLAIM p = false ∧ t.ccIs p .attachedSrc = true
        ∧ t.on F.TCPD_PDSTAT_PROLE p = true
        ∧ t.fld F.TCPD_PDCNT2_PRSWAPS p = (s.fld F.TCPD_PDCNT2_PRSWAPS p + 1) % 2 ^ 16
        ∧ (s.vendorOn p = true → (t.pd.at p).out.head? = some .psRdy)) ∧
  (∀ s p trips rev, s.policyOn p = true → s.vendorOn p = false → p ≤ 32 → s.pdTalks p = true →
    s.on F.TCPD_RXSTAT_FULL p = false →
    Completes (.vconnSwapReceived p trips rev) s fun t =>
      (t.pd.at p).ask = .vconnSwap trips ∧ (t.pd.at p).swap = (s.pd.at p).swap) ∧
  (∀ s p trips rev, s.vendorOn p = true → p ≤ 32 → s.ccIs p .attachedSrc = true → s.amsOn p = true →
    s.on F.TCPD_RXSTAT_FULL p = false →
    Completes (.vconnSwapReceived p trips rev) s fun t =>
      (t.pd.at p).out.head? = some .wait ∧ t.on F.TCPD_PDSTAT_VCSRC p = s.on F.TCPD_PDSTAT_VCSRC p) ∧
  (∀ s p trips rev, s.vendorOn p = true → p ≤ 32 → s.ccIs p .attachedSrc = true → s.amsOn p = false →
    s.on F.TCPD_PDCFG_VCS_EN p = false → s.on F.TCPD_RXSTAT_FULL p = false →
    Completes (.vconnSwapReceived p trips rev) s fun t =>
      (t.pd.at p).out.head? = some .reject ∧ t.on F.TCPD_PDSTAT_VCSRC p = s.on F.TCPD_PDSTAT_VCSRC p) ∧
  (∀ s p trips rev, s.vendorOn p = true → p ≤ 32 → s.ccIs p .attachedSrc = true → s.amsOn p = false →
    s.on F.TCPD_PDCFG_VCS_EN p = true → s.on F.TCPD_PDSTAT_VCSRC p = true → s.on F.TCPD_RXSTAT_FULL p = false →
    Completes (.vconnSwapReceived p trips rev) s fun t =>
      (t.pd.at p).out.head? = some .accept ∧ (t.pd.at p).swap = .vconnGive ∧ t.on F.TCPD_PDSTAT_SWAP p = true) ∧
  (∀ s p trips rev, s.vendorOn p = true → p ≤ 32 → s.ccIs p .attachedSrc = true → s.amsOn p = false →
    s.on F.TCPD_PDCFG_VCS_EN p = true → s.on F.TCPD_PDSTAT_VCSRC p = false → s.vconnAllowed p = true → trips = false →
    s.on F.TCPD_RXSTAT_FULL p = false →
    Completes (.vconnSwapReceived p trips rev) s fun t =>
      (t.pd.at p).out.take 2 = [.accept, .psRdy] ∧ t.on F.TCPD_VCSTAT_VCON p = true
        ∧ t.on F.TCPD_PDSTAT_VCSRC p = true
        ∧ t.fld F.TCPD_PDCNT2_VCSWAPS p = (s.fld F.TCPD_PDCNT2_VCSWAPS p + 1) % 2 ^ 16) ∧
  (∀ s p trips rev, s.vendorOn p = true → p ≤ 32 → s.ccIs p .attachedSrc = true → s.amsOn p = false →
    s.on F.TCPD_PDCFG_VCS_EN p = true → s.on F.TCPD_PDSTAT_VCSRC p = false → s.vconnAllowed p = true → trips = true →
    s.on F.TCPD_RXSTAT_FULL p = false →
    Completes (.vconnSwapReceived p trips rev) s fun t =>
      (t.pd.at p).out.head? = some .accept ∧ t.on F.TCPD_VCSTAT_VCON p = false
        ∧ t.fld F.TCPD_CNT1_VCTRIPS p = (s.fld F.TCPD_CNT1_VCTRIPS p + 1) % 2 ^ 16
        ∧ t.fld F.TCPD_PDCNT1_HRESETS p = (s.fld F.TCPD_PDCNT1_HRESETS p + 1) % 2 ^ 16) ∧
  (∀ s p trips rev, s.vendorOn p = true → p ≤ 32 → s.ccIs p .attachedSrc = true → s.amsOn p = false →
    s.on F.TCPD_PDCFG_VCS_EN p = true → s.on F.TCPD_PDSTAT_VCSRC p = false → s.vconnAllowed p = false →
    s.on F.TCPD_RXSTAT_FULL p = false →
    Completes (.vconnSwapReceived p trips rev) s fun t =>
      (t.pd.at p).out.head? = some .reject ∧ t.on F.TCPD_VCSTAT_VCON p = s.on F.TCPD_VCSTAT_VCON p) ∧
  (∀ s p rev, s.policyOn p = true → s.vendorOn p = false → p ≤ 32 → s.pdTalks p = true → s.on F.TCPD_RXSTAT_FULL p = false →
    Completes (.drSwapReceived p rev) s fun t =>
      (t.pd.at p).ask = .drSwap ∧ (t.pd.at p).swap = (s.pd.at p).swap) ∧
  (∀ s p rev, s.pdTalks p = true → ((s.policyOn p = true → s.vendorOn p = true)) → s.on F.TCPD_RXSTAT_FULL p = false →
    Completes (.drSwapReceived p rev) s fun t =>
      (t.pd.at p).out.head? = some .reject
        ∧ t.fld F.TCPD_PDCNT4_REJECTS p = (s.fld F.TCPD_PDCNT4_REJECTS p + 1) % 2 ^ 16 ∧ s.OnlyIn [.reg .tcpd, .pd] t) ∧
  (∀ s p rev, s.pdTalks p = true → s.policyOn p = true → s.vendorOn p = false → s.on F.TCPD_RXSTAT_FULL p = false →
    Completes (.drSwapReceived p rev) s fun t =>
      (t.pd.at p).ask = .drSwap ∧ (t.pd.at p).out = [])

/-- The port power stage (R274, R277 to R279, R282 to R285, R287 to R291, R293). -/
def Obligations.PowerStageCommands : Prop :=
  (∀ s p, s.vbusRequest p = true → s.pwrIs p .off = true → s.vsafe0 p = true →
    s.on F.DIE_STAT_SHUTDOWN (currant p) = false → (s.pwr.at p).notBefore ≤ s.ct →
    Completes (.vbusRequest p) s fun t =>
      t.pwrIs p .softstart = true ∧ (t.pwr.at p).vset = s.vsetEff p ∧ (t.pwr.at p).setpoint = 10 * s.vsetEff p
        ∧ (t.pwr.at p).timer = 0 ∧ t.on F.PWR_PSTAT_PG p = false ∧ t.pends (63 + p) = true) ∧
  (∀ s p, s.live p = true → s.pwrIs p .softstart = true →
    Completes (.softstartDone p) s fun t =>
      t.pwrIs p .ramp = true ∧ t.on F.PWR_PSTAT_GATEON p = false) ∧
  (∀ s p, s.live p = true → s.pwrIs p .ramp = true →
    Completes (.gateFullyOn p) s fun t =>
      t.pwrIs p .qual = true ∧ t.vsafe0 p = false ∧ t.on F.PWR_PSTAT_GATEON p = !s.on F.PWR_PSTAT_LIMIT p
        ∧ t.on F.PWR_PSTAT_PG p = false) ∧
  (∀ s p, s.live p = true → s.pwrIs p .qual = true → s.on F.PWR_PSTAT_LIMIT p = false →
    Completes (.tqualComplete p) s fun t =>
      t.pwrIs p .on = true ∧ t.on F.PWR_PSTAT_PG p = true) ∧
  (∀ s p i, s.live p = true → s.pwrIn p [.ramp, .qual, .on, .transition, .sink] = true →
    Completes (.limitEngage p i) s fun t =>
      t.on F.PWR_PSTAT_LIMIT p = decide (s.activeLevel p < s.flow p i)
        ∧ t.on F.PWR_PSTAT_GATEON p = (!decide (s.activeLevel p < s.flow p i) && !s.pwrIs p .ramp)
        ∧ (s.activeLevel p < s.flow p i → s.pwrIs p .on = true → t.pwrIs p .qual = true)
        ∧ ((s.flow p i ≤ s.activeLevel p ∨ s.pwrIs p .on = false) → t.fld F.PWR_PSTAT_STATE p = s.fld F.PWR_PSTAT_STATE p)) ∧
  (∀ s p, s.live p = true → s.on F.PWR_PSTAT_LIMIT p = true → s.pwrIn p sourcing = true →
    Completes (.faultTimerExpiry p) s fun t =>
      (t.fld F.PWR_PSTAT_CAUSE p = if s.ttrip p ≤ s.fetTemp p then 3 else 1)
        ∧ (s.fld F.PWR_PSTAT_RETRYLEFT p = 0 → s.contracted p = false → t.pwrIs p .latched = true)
        ∧ t.pends (63 + p) = true) ∧
  (∀ s p i, s.live p = true → s.pwrIn p sourcing = true → s.contracted p = false →
    ((100 * s.fld F.PWR_LEVELS_IFT p < i.natAbs ∨ 15000 < i.natAbs)) →
    Completes (.fastTrip p i) s fun t =>
      t.fld F.PWR_PSTAT_CAUSE p = 2 ∧ t.fld F.PWR_CNT0_FASTTRIPS p = (s.fld F.PWR_CNT0_FASTTRIPS p + 1) % 2 ^ 16
        ∧ t.on F.PWR_PSTAT_DURRAMP p = s.pwrIn p [.softstart, .ramp]
        ∧ (s.fld F.PWR_PSTAT_RETRYLEFT p = 0 →
          t.pwrIs p .latched = true ∧ t.fld F.PWR_CNT2_LATCHES p = (s.fld F.PWR_CNT2_LATCHES p + 1) % 2 ^ 16)
        ∧ (s.fld F.PWR_PSTAT_RETRYLEFT p ≠ 0 → s.fld F.PWR_PSTAT_RETRYLEFT p < 8 →
          t.pwrIs p .retryWait = true ∧ t.fld F.PWR_PSTAT_RETRYLEFT p = s.fld F.PWR_PSTAT_RETRYLEFT p - 1)
        ∧ t.on F.PWR_PSTAT_GATEON p = false ∧ (t.pwr.at p).gatesLow = true ∧ t.on F.PWR_PSTAT_PG p = false) ∧
  (∀ s p, s.live p = true → s.pwrIn p [.qual, .on, .transition, .sink] = true → s.on F.PWR_PSTAT_OVLDX p = false →
    Completes (.overloadExhausted p) s fun t =>
      t.on F.PWR_PSTAT_OVLDX p = true ∧ t.fld F.PWR_CNT3_OVLDEXH p = (s.fld F.PWR_CNT3_OVLDEXH p + 1) % 2 ^ 16
        ∧ t.pends (63 + p) = true ∧ ((s.pwr.at p).bins.sum ≤ 2500 → t.fld F.ADC_POVL_OVLDSUM p = 2500)) ∧
  (∀ s p, s.live p = true → s.on F.PWR_PSTAT_OVLDX p = true →
    Completes (.ovldxClear p) s fun t =>
      t.on F.PWR_PSTAT_OVLDX p = false ∧ s.OnlyIn [.reg .pwr, .reg .adc, .pwr] t) ∧
  (∀ s p v, s.live p = true → s.pwrIn p sourcing = true → ((11 * s.ovBase p + 5000 < 100 * v ∨ 5400 < v)) →
    Completes (.vbusOvervoltage p v) s fun t =>
      t.fld F.PWR_PSTAT_CAUSE p = 4 ∧ t.fld F.PWR_CNT1_OTHERTRIPS p = (s.fld F.PWR_CNT1_OTHERTRIPS p + 1) % 2 ^ 16
        ∧ t.pwrIn p sourcing = false) ∧
  (∀ s p i, s.live p = true → s.pwrIn p sourcing = true → (if s.downward p then 2000 else 500) < i →
    Completes (.reverseCurrent p i) s fun t =>
      t.fld F.PWR_PSTAT_CAUSE p = 5 ∧ t.pwrIn p sourcing = false) ∧
  (∀ s p, s.live p = true → s.pwrIn p sourcing = true →
    Completes (.buckPeakFault p) s fun t =>
      t.fld F.PWR_PSTAT_CAUSE p = 6 ∧ t.pwrIn p sourcing = false) ∧
  (∀ s p, s.live p = true →
    Completes (.vsetChange p) s fun t =>
      (t.pwr.at p).vset = t.vsetEff p
        ∧ (∀ o ∈ (s.pd.at p).accepted, s.vendorOn p = true → t.fld F.PWR_VSET_VSET p = o.volt / 10 % 2 ^ 13)
        ∧ (s.pwrIs p .on = true → (s.pwr.at p).vset ≠ t.vsetEff p → t.pwrIs p .transition = true)) ∧
  (∀ s p, s.live p = true → s.pwrIs p .transition = true → s.on F.PWR_PSTAT_LIMIT p = false → s.inBand p = true →
    Completes (.transitionComplete p) s fun t =>
      t.pwrIs p .on = true ∧ t.on F.PWR_PSTAT_PG p = true) ∧
  (∀ s p, s.live p = true → s.pwrIs p .transition = true →
    Completes (.transitionTimeout p) s fun t =>
      t.fld F.PWR_PSTAT_CAUSE p = 7 ∧ t.pwrIn p sourcing = false) ∧
  (∀ s p, s.live p = true → s.pwrIn p sourcing = true → s.fld F.TCPD_PDSTAT_PTYPE p = 2 → s.on F.PWR_PSTAT_CL p = true →
    s.fld F.ADC_PV_VBUS p < 300 →
    Completes (.ppsUndervoltage p) s fun t =>
      t.fld F.PWR_PSTAT_CAUSE p = 11 ∧ t.pwrIn p sourcing = false) ∧
  (∀ s p, s.live p = true → s.retryReady p = true →
    Completes (.retryStart p) s fun t =>
      t.pwrIs p .softstart = true ∧ t.fld F.PWR_CNT2_RETRIES p = (s.fld F.PWR_CNT2_RETRIES p + 1) % 2 ^ 16
        ∧ (t.pwr.at p).timer = 0) ∧
  (∀ s p, s.live p = true → s.pwrIs p .on = true → s.fld F.PWR_RETRY_RETRY p < 8 →
    Completes (.retryReload p) s fun t =>
      t.fld F.PWR_PSTAT_RETRYLEFT p = s.fld F.PWR_RETRY_RETRY p ∧ s.OnlyIn [.reg .pwr] t) ∧
  (∀ s p, s.live p = true → s.pwrIn p [.discharge, .retryWait, .latched, .off] = true →
    Completes (.dischargeDone p) s fun t =>
      t.vsafe0 p = true ∧ (s.pwrIs p .discharge = true → t.pwrIs p .off = true)
        ∧ ((s.pwr.at p).gatesLow = false → t.fld F.ADC_PV_VOUT p = 0)
        ∧ ((s.pd.at p).hardStep = 2 → s.ccIs p .disabled = false → (t.pd.at p).hardStep = 3)) ∧
  (∀ s p, s.live p = true → s.pwrIn p [.discharge, .retryWait, .latched] = true → s.vsafe0 p = false →
    Completes (.dischargeTimeout p) s fun t =>
      t.fld F.PWR_PSTAT_CAUSE p = 8 ∧ t.fld F.PWR_PSTAT_STATE p = s.fld F.PWR_PSTAT_STATE p ∧ t.pends (63 + p) = true) ∧
  (∀ s p, s.live p = true → s.pwrIs p .latched = true → ((s.fld F.PWR_PSTAT_CAUSE p ≠ 10 ∨ s.portInFault p 2 = false)) →
    Completes (.clrlatch p) s fun t =>
      t.pwrIs p .latched = false ∧ t.fld F.PWR_PSTAT_RETRYLEFT p = s.fld F.PWR_RETRY_RETRY p % 8) ∧
  (∀ s p, s.live p = true → s.pwrIs p .latched = true → s.fld F.PWR_PSTAT_CAUSE p = 10 → s.portInFault p 2 = true →
    Completes (.clrlatch p) s fun t =>
      t.pwrIs p .latched = true ∧ t.fld F.PWR_CNT3_LREFUSE p = (s.fld F.PWR_CNT3_LREFUSE p + 1) % 2 ^ 16) ∧
  (∀ s p b, s.live p = true → ((b = true ∨ s.brdoffHeld p = false)) →
    Completes (.voffWrite p b) s fun t =>
      t.on F.PWR_PCTL_VOFF p = b
        ∧ (b = true →
          t.pwrIn p sourcing = false ∧ t.pwrIs p .sink = false ∧ t.contracted p = false
          ∧ t.bit F.GOV_BRDOFF_PORTS 0 (p - 1) = false)
        ∧ (b = true → s.pwrIs p .sink = true → t.on F.TCPD_SINKSTAT_SKGON p = false)) ∧
  (∀ s n, s.currantFitted n = true → s.domOn (Dom.ports n) = true →
    s.fld F.PWR_CSTAT_FSWNOW n < clamp 25 80 (s.fld F.PWR_BCFG_FSW n) →
    Completes (.fswStep n) s fun t =>
      t.fld F.PWR_CSTAT_FSWNOW n = s.fld F.PWR_CSTAT_FSWNOW n + 1 ∧ s.OnlyIn [.reg .pwr] t) ∧
  (∀ s n, s.currantFitted n = true → s.domOn (Dom.ports n) = true →
    clamp 25 80 (s.fld F.PWR_BCFG_FSW n) < s.fld F.PWR_CSTAT_FSWNOW n →
    Completes (.fswStep n) s fun t =>
      t.fld F.PWR_CSTAT_FSWNOW n = s.fld F.PWR_CSTAT_FSWNOW n - 1 ∧ s.OnlyIn [.reg .pwr] t)

/-- Temperature and samples (R286, R297, R303), sink path (R262, R287, R292), supply and feeds (R285, R298 to R302). -/
def Obligations.MeasurementSinkAndFeedCommands : Prop :=
  (∀ s p, s.live p = true → s.pwrIn p sourcing = true →
    Completes (.fetThermalTrip p) s fun t =>
      t.fld F.PWR_PSTAT_CAUSE p = 3 ∧ t.fld F.PWR_CNT1_THTRIPS p = (s.fld F.PWR_CNT1_THTRIPS p + 1) % 2 ^ 16
        ∧ t.pwrIn p sourcing = false) ∧
  (∀ s p short, s.live p = true → s.on F.PWR_THCFG_TSRC p = true → s.pwrIn p sourcing = true →
    Completes (.ntcFault p short) s fun t =>
      (t.pwr.at p).ntcBad = true ∧ t.fld F.PWR_PSTAT_CAUSE p = 9
        ∧ t.fld F.PWR_CNT1_OTHERTRIPS p = (s.fld F.PWR_CNT1_OTHERTRIPS p + 1) % 2 ^ 16
        ∧ (short = true → t.pwrIn p sourcing = false)
        ∧ (short = false → t.fld F.PWR_PSTAT_STATE p = s.fld F.PWR_PSTAT_STATE p)) ∧
  (∀ s p short, p = 0 → s.on F.ENT_HSTH_TSRC 0 = true →
    Completes (.ntcFault p short) s fun t =>
      t.ent.ntcBad = true ∧ s.OnlyIn [.ent] t) ∧
  (∀ s p x, s.live p = true → (s.measured p x).vbus < 4096 → (s.measured p x).vout < 8192 → s.on F.PWR_THCFG_TSRC p = false →
    Completes (.thermalModelUpdate p x) s fun t =>
      t.fld F.ADC_PV_VBUS p = (s.measured p x).vbus ∧ t.fld F.ADC_PV_VOUT p = (s.measured p x).vout
        ∧ t.fld F.ADC_PI_IBUS p = ofInt 16 (s.measured p x).i ∧ t.vsafe0 p = decide ((s.measured p x).vbus < 80)
        ∧ (s.on F.PWR_PSTAT_LIMIT p = true → (t.pwr.at p).timer = (s.pwr.at p).timer + 1 ∧ (t.pwr.at p).calm = 0)
        ∧ (s.on F.PWR_PSTAT_LIMIT p = false → (s.pwr.at p).calm < 7 →
          (t.pwr.at p).timer = (s.pwr.at p).timer ∧ (t.pwr.at p).calm = (s.pwr.at p).calm + 1)
        ∧ (s.on F.PWR_PSTAT_LIMIT p = false → 7 ≤ (s.pwr.at p).calm → (t.pwr.at p).timer = (s.pwr.at p).timer - 1)
        ∧ (s.pwrIn p sourcing = true →
          (t.pwr.at p).delivered = (s.pwr.at p).delivered + (s.measured p x).vbus * (s.measured p x).i.toNat)
        ∧ (s.pwrIn p sourcing = false →
          (t.pwr.at p).taken = (s.pwr.at p).taken + (s.measured p x).vbus * (-(s.measured p x).i).toNat)
        ∧ t.on F.PWR_PSTAT_DROPOUT p = (s.pwrIn p sourcing && s.dropout p (s.measured p x).vbrd x.pathDrop)
        ∧ (s.pwrIn p [.on, .transition] = false → (t.pwr.at p).setpoint = 10 * (s.pwr.at p).vset)
        ∧ (s.buckRuns p = false → (t.pwr.at p).duty = 0)
        ∧ (s.pwrIs p .sink = true → s.on F.TCPD_SINKCFG_MODE p = true → s.pdMax p (s.measured p x) = none →
          (t.pwr.at p).sinkTarget = s.sinkFree p)
        ∧ t.fld F.PWR_PSTAT_STATE p = s.fld F.PWR_PSTAT_STATE p) ∧
  (∀ s p x, p = 0 → s.entOn = true → s.hsIn [.off, .seatWait] = false → (s.hsMeasured x).vout < 8192 →
    Completes (.thermalModelUpdate p x) s fun t =>
      t.fld F.ENT_BV_VIN_OR 0 = (s.hsMeasured x).vout
        ∧ t.on F.ENT_FSTAT_SURGE 0 = decide (s.vsurge < (s.hsMeasured x).vout) ∧ t.on F.ENT_HSTAT_SEAT_A 0 = x.seatA
        ∧ t.on F.ENT_HSTAT_SEAT_B 0 = x.seatB
        ∧ t.govHw.energy = s.govHw.energy + (s.hsMeasured x).vout * (s.hsMeasured x).i.toNat
        ∧ t.govHw.acc = s.govHw.acc + (s.hsMeasured x).vout * (s.hsMeasured x).i.toNat
        ∧ (s.hsIs .clamp = true → (s.hsMeasured x).vbus < 8192 →
          t.fld F.ENT_BV_HS_OUT 0 = min (s.hsMeasured x).vbus s.vclamp)
        ∧ s.OnlyIn [.reg .ent, .ent, .govHw, .free] t) ∧
  (∀ s p x, p = 0 → s.entOn = true → s.hsIs .off = true → s.on F.ENT_HCTL_HSOFF 0 = false → s.ent.seated = false →
    Completes (.thermalModelUpdate p x) s fun t =>
      (x.seatA = true → x.seatB = true → t.hsIs .seatWait = true)
        ∧ ((x.seatA = false ∨ x.seatB = false) → t.hsIs .off = true)) ∧
  (∀ s p, s.live p = true → s.domChanging (Dom.ports (currant p)) = false → s.pwrIs p .off = true →
    s.ccIs p .attachedSnk = true → s.contracted p = true → s.on F.TCPD_CCSTAT_SINKCLAIM p = true →
    (s.pd.at p).volt ≤ 20000 → s.skgTaken p = false →
    Completes (.sinkEntry p) s fun t =>
      t.pwrIs p .sink = true ∧ t.on F.TCPD_SINKSTAT_SKGON p = true
        ∧ t.on F.PWR_PSTAT_GATEON p = !s.on F.PWR_PSTAT_LIMIT p ∧ t.pends (63 + p) = true) ∧
  (∀ s p cause, s.live p = true → s.pwrIs p .sink = true → 1 ≤ cause → (cause ≤ 4 ∨ cause = 9) →
    Completes (.sinkFault p cause) s fun t =>
      t.fld F.PWR_PSTAT_CAUSE p = cause ∧ t.pwrIs p .sink = false ∧ t.on F.TCPD_SINKSTAT_SKGON p = false
        ∧ t.fld F.TCPD_PDCNT1_HRESETS p = (s.fld F.TCPD_PDCNT1_HRESETS p + 1) % 2 ^ 16) ∧
  (∀ s n uv start, s.currantFitted n = true → s.domOn (Dom.ports n) = true → uv = true → s.on F.PWR_CSTAT_VBRD_UV n ≠ start →
    Completes (.vbrdUvOv n uv start) s fun t =>
      t.on F.PWR_CSTAT_VBRD_UV n = start ∧ t.pends (5 + n) = true) ∧
  (∀ s n uv start, s.currantFitted n = true → s.domOn (Dom.ports n) = true → uv = false →
    s.on F.PWR_CSTAT_VBRD_OV n ≠ start →
    Completes (.vbrdUvOv n uv start) s fun t =>
      t.on F.PWR_CSTAT_VBRD_OV n = start ∧ t.pends (5 + n) = true) ∧
  (∀ s k, s.entOn = true → k < 2 →
    Completes (.feedReverseOff k) s fun t =>
      t.on (feedField k F.ENT_FSTAT_A_REV F.ENT_FSTAT_B_REV) 0 = true
        ∧ t.on (feedField k F.ENT_FSTAT_A_COND F.ENT_FSTAT_B_COND) 0 = false
        ∧ t.fld F.ENT_CNT1_REVOFFS 0 = (s.fld F.ENT_CNT1_REVOFFS 0 + 1) % 2 ^ 16
        ∧ (s.on (feedField k F.ENT_FSTAT_A_COND F.ENT_FSTAT_B_COND) 0 = true →
          t.fld F.GOV_CNT1_SWAPS 0 = (s.fld F.GOV_CNT1_SWAPS 0 + 1) % 2 ^ 16)
        ∧ t.pends 9 = true) ∧
  (∀ s k volt vinOr conducting, s.entOn = true → k < 2 → vinOr < 8192 → volt < 8192 →
    Completes (.feedPresenceChange k volt vinOr conducting) s fun t =>
      t.fld F.ENT_BV_VIN_OR 0 = vinOr ∧ t.fld (feedField k F.ENT_FV_FEED_A F.ENT_FV_FEED_B) 0 = volt
        ∧ (3800 ≤ volt → t.on (feedField k F.ENT_FSTAT_A_PRES F.ENT_FSTAT_B_PRES) 0 = true)
        ∧ (volt < 3600 → t.on (feedField k F.ENT_FSTAT_A_PRES F.ENT_FSTAT_B_PRES) 0 = false)
        ∧ (3600 ≤ volt → volt < 3800 →
          t.on (feedField k F.ENT_FSTAT_A_PRES F.ENT_FSTAT_B_PRES) 0 = s.on (feedField k F.ENT_FSTAT_A_PRES F.ENT_FSTAT_B_PRES) 0)
        ∧ (s.on (feedField k F.ENT_HCTL_FOFF_A F.ENT_HCTL_FOFF_B) 0 = true →
          t.on (feedField k F.ENT_FSTAT_A_COND F.ENT_FSTAT_B_COND) 0 = false)
        ∧ (s.on (feedField k F.ENT_HCTL_FOFF_A F.ENT_HCTL_FOFF_B) 0 = false →
          (s.on (feedField k F.ENT_FSTAT_A_REV F.ENT_FSTAT_B_REV) 0 = false ∨ vinOr + 2 ≤ volt) →
          t.on (feedField k F.ENT_FSTAT_A_COND F.ENT_FSTAT_B_COND) 0 = conducting)) ∧
  (∀ s vinOr, s.entOn = true → s.hsIs .off = true → s.on F.ENT_HCTL_HSOFF 0 = false → vinOr < 8192 →
    Completes (.seatQualified vinOr) s fun t =>
      t.ent.seated = true ∧ t.on F.ENT_HSTAT_SEAT_A 0 = true ∧ t.on F.ENT_HSTAT_SEAT_B 0 = true
        ∧ (3800 ≤ vinOr → t.hsIs .ramp = true) ∧ (vinOr < 3800 → t.hsIs .seatWait = true)) ∧
  (∀ s aLow bLow, s.entOn = true → (aLow = false ∨ bLow = false) → s.ent.bothLow = true →
    Completes (.seatLoss aLow bLow) s fun t =>
      t.hsIs .off = true ∧ t.ent.seated = false ∧ t.ent.bothLow = false ∧ t.on F.ENT_HSTAT_SEAT_A 0 = aLow
        ∧ t.on F.ENT_HSTAT_SEAT_B 0 = bLow ∧ t.fld F.ENT_CNT1_SEATLOSS 0 = (s.fld F.ENT_CNT1_SEATLOSS 0 + 1) % 2 ^ 16) ∧
  (∀ s aLow bLow, s.entOn = true → (aLow = false ∨ bLow = false) → s.ent.bothLow = false →
    Completes (.seatLoss aLow bLow) s fun t =>
      t.on F.ENT_HSTAT_SEAT_A 0 = aLow ∧ t.on F.ENT_HSTAT_SEAT_B 0 = bLow ∧ s.OnlyIn [.reg .ent] t)

/-- Hot swap (R298, R302 to R305), BRDOFF (R306), sag (R309, R310), average and shedding (R307, R311), reservations (R342). -/
def Obligations.HotSwapAndGovernorCommands : Prop :=
  (∀ s, s.hsIs .ramp = true →
    Completes .hsGateOn s fun t =>
      t.hsIs .qual = true ∧ t.on F.ENT_HSTAT_GATEON 0 = !s.on F.ENT_HSTAT_LIMIT 0 ∧ t.pends 9 = true) ∧
  (∀ s, s.hsIs .qual = true → s.on F.ENT_HSTAT_LIMIT 0 = false →
    Completes .hsQualDone s fun t =>
      t.hsIs .on = true ∧ t.on F.ENT_HSTAT_PG_BRD 0 = true ∧ (s.on F.ENT_HSTAT_PG_BRD 0 = false → t.ent.pgRose = true)) ∧
  (∀ s i, s.hsIn hsDriving = true →
    Completes (.hsLimitEngage i) s fun t =>
      t.on F.ENT_HSTAT_LIMIT 0 = decide (s.hsLevel < i) ∧ (s.hsLevel < i → s.hsIs .on = true → t.hsIs .qual = true)
        ∧ ((i ≤ s.hsLevel ∨ s.hsIs .on = false) → t.fld F.ENT_HSTAT_STATE 0 = s.fld F.ENT_HSTAT_STATE 0)) ∧
  (∀ s cause i, s.hsIn hsDriving = true → ((cause = 1 ∧ s.on F.ENT_HSTAT_LIMIT 0 = true
    ∧ s.hsIs .clamp = false) ∨ (cause = 2 ∧ 1000 * min (2 * s.hsIlim) 300 < i) ∨ cause = 3 ∨ (cause = 4
    ∧ s.on F.ENT_HSTH_TSRC 0 = true) ∨ (cause = 5 ∧ s.hsIs .clamp = true)) →
    Completes (.hsFault cause i) s fun t =>
      t.fld F.ENT_HSTAT_CAUSE 0 = cause ∧ t.fld F.ENT_CNT0_HSFAULTS 0 = (s.fld F.ENT_CNT0_HSFAULTS 0 + 1) % 2 ^ 16
        ∧ (s.fld F.ENT_HSTAT_RETRYLEFT 0 = 0 →
          t.hsIs .latched = true ∧ t.fld F.ENT_CNT2_LATCHES 0 = (s.fld F.ENT_CNT2_LATCHES 0 + 1) % 2 ^ 16)
        ∧ (s.fld F.ENT_HSTAT_RETRYLEFT 0 ≠ 0 → s.fld F.ENT_HSTAT_RETRYLEFT 0 < 8 →
          t.hsIs .retryWait = true ∧ t.fld F.ENT_HSTAT_RETRYLEFT 0 = s.fld F.ENT_HSTAT_RETRYLEFT 0 - 1)
        ∧ (cause = 1 ∨ cause = 5 → s.hsTflt ≤ t.ent.timer) ∧ t.on F.ENT_HSTAT_GATEON 0 = false) ∧
  (∀ s, s.hsIs .retryWait = true → s.hsTemp < s.hsTtrip - 200 →
    Completes .hsRetry s fun t =>
      t.hsIs .ramp = true ∧ t.fld F.ENT_CNT0_RETRIES 0 = (s.fld F.ENT_CNT0_RETRIES 0 + 1) % 2 ^ 16) ∧
  (∀ s vinOr, s.entOn = true → vinOr < 3600 →
    Completes (.hsUndervoltage vinOr) s fun t =>
      t.on F.ENT_FSTAT_UV 0 = true ∧ t.fld F.ENT_BV_VIN_OR 0 = vinOr
        ∧ (s.hsIn hsDriving = true → t.hsIs .uvWait = true ∧ t.on F.ENT_HSTAT_PG_BRD 0 = false)
        ∧ (s.hsIn hsDriving = false → t.fld F.ENT_HSTAT_STATE 0 = s.fld F.ENT_HSTAT_STATE 0)) ∧
  (∀ s vinOr, s.entOn = true → 3800 ≤ vinOr → vinOr < 8192 →
    Completes (.hsUvRecover vinOr) s fun t =>
      t.on F.ENT_FSTAT_UV 0 = false ∧ t.fld F.ENT_BV_VIN_OR 0 = vinOr ∧ (s.hsIs .uvWait = true → t.hsIs .ramp = true)) ∧
  (∀ s vinOr, s.entOn = true → s.vsurge < vinOr → vinOr < 8192 →
    Completes (.surge vinOr) s fun t =>
      t.ent.surging = true ∧ t.on F.ENT_FSTAT_SURGE 0 = true ∧ t.ent.surgePeak = max s.ent.surgePeak vinOr
        ∧ (s.hsIs .on = true → t.hsIs .clamp = true ∧ t.on F.ENT_HSTAT_CLAMP 0 = true ∧ t.fld F.ENT_BV_HS_OUT 0 = s.vclamp)
        ∧ (s.hsIs .on = false → t.fld F.ENT_HSTAT_STATE 0 = s.fld F.ENT_HSTAT_STATE 0)) ∧
  (∀ s vinOr micros, s.entOn = true → s.ent.surging = true → vinOr < s.vclamp →
    Completes (.surgeEnd vinOr micros) s fun t =>
      t.ent.surging = false ∧ t.on F.ENT_FSTAT_SURGE 0 = false
        ∧ t.fld F.GOV_CNT0_SURGES 0 = (s.fld F.GOV_CNT0_SURGES 0 + 1) % 2 ^ 16 ∧ t.ent.surgePeak = 0
        ∧ (s.hsIs .clamp = true → t.hsIs .on = (!s.on F.ENT_HSTAT_LIMIT 0))) ∧
  (∀ s, s.hsIs .latched = true → s.hsTemp < s.hsTtrip - 200 →
    Completes .hsClrlatch s fun t =>
      t.hsIs .latched = false ∧ t.fld F.ENT_HSTAT_RETRYLEFT 0 = s.fld F.ENT_HSRETRY_RETRY 0 % 8) ∧
  (∀ s, s.hsIs .latched = true → s.hsTtrip - 200 ≤ s.hsTemp →
    Completes .hsClrlatch s fun t =>
      t.hsIs .latched = true ∧ t.fld F.ENT_CNT2_LREFUSE 0 = (s.fld F.ENT_CNT2_LREFUSE 0 + 1) % 2 ^ 16) ∧
  (∀ s, s.hsIs .on = true → s.fld F.ENT_HSRETRY_RETRY 0 < 8 →
    Completes .hsRetryReload s fun t =>
      t.fld F.ENT_HSTAT_RETRYLEFT 0 = s.fld F.ENT_HSRETRY_RETRY 0 ∧ s.OnlyIn [.reg .ent] t) ∧
  (∀ s foffA foffB hsoff, s.entOn = true →
    Completes (.entHctlWrite foffA foffB hsoff) s fun t =>
      t.on F.ENT_HCTL_FOFF_A 0 = foffA ∧ t.on F.ENT_HCTL_FOFF_B 0 = foffB ∧ t.on F.ENT_HCTL_HSOFF 0 = hsoff
        ∧ (foffA = true → t.on F.ENT_FSTAT_A_COND 0 = false) ∧ (foffB = true → t.on F.ENT_FSTAT_B_COND 0 = false)
        ∧ (hsoff = true → t.hsIs .off = true)) ∧
  (∀ s, s.on F.ENT_HSTAT_PG_BRD 0 = false → s.ent.pgRose = true →
    Completes .pgBrdFall s fun t =>
      t.on F.GOV_STAT_BRDOFF 0 = true ∧ t.fld F.GOV_CNT2_PGLOSS 0 = (s.fld F.GOV_CNT2_PGLOSS 0 + 1) % 2 ^ 16
        ∧ t.ent.pgRose = false ∧ (∀ p ∈ allPorts, s.live p = true → t.on F.PWR_PCTL_VOFF p = true)
        ∧ (∀ p ∈ allPorts, s.live p = true → s.on F.PWR_PCTL_VOFF p = false → t.bit F.GOV_BRDOFF_PORTS 0 (p - 1) = true)) ∧
  (∀ s (p : Nat) (r : List Nat), s.on F.ENT_HSTAT_PG_BRD 0 = true → s.on F.GOV_STAT_BRDOFF 0 = true →
    maskPorts (s.fld F.GOV_BRDOFF_PORTS 0) = p :: r →
    Completes .brdoffPortRelease s fun t =>
      t.bit F.GOV_BRDOFF_PORTS 0 (p - 1) = false ∧ (s.live p = true → t.on F.PWR_PCTL_VOFF p = false)
        ∧ t.on F.GOV_STAT_BRDOFF 0 = decide (r ≠ [])) ∧
  (∀ s vinOr, s.entOn = true → s.on F.GOV_STAT_SAG 0 = false → vinOr < 10 * clamp 360 520 (s.fld F.GOV_SAG_VSAG 0) →
    Completes (.sagStart vinOr) s fun t =>
      t.on F.GOV_STAT_SAG 0 = true ∧ t.fld F.GOV_CNT0_SAGS 0 = (s.fld F.GOV_CNT0_SAGS 0 + 1) % 2 ^ 16
        ∧ t.govHw.sagMin = vinOr ∧ t.pends 10 = true
        ∧ (∀ p ∈ allPorts, s.live p = true → s.pwrIn p sourcing = true → (t.gov.at p).sagClamp.isSome = true)) ∧
  (∀ s (p : Nat), s.on F.GOV_STAT_SAG 0 = true → s.firmware = true → p ∈ allPorts → (s.gov.at p).sagClamp.isSome = true →
    Completes .sagRenegotiate s fun t =>
      (t.gov.at p).sagHold = some (max 15 (s.alloc p * s.foldOf (s.classOf p) / 1600))
        ∧ (∀ q ∈ allPorts, (s.gov.at q).sagClamp.isSome = false → (t.gov.at q).sagHold = (s.gov.at q).sagHold)) ∧
  (∀ s vmin ms, s.on F.GOV_STAT_SAG 0 = true → vmin < 8192 → ms < 65536 →
    Completes (.sagEnd vmin ms) s fun t =>
      t.on F.GOV_STAT_SAG 0 = false ∧ t.fld F.GOV_SAGMIN_VMIN 0 = min s.govHw.sagMin vmin
        ∧ t.fld F.GOV_SAGMIN_SAGMS 0 = ms
        ∧ (∀ p ∈ allPorts, (t.gov.at p).sagClamp = none ∧ (t.gov.at p).sagHold = none)) ∧
  (∀ s rest, s.entOn = true → s.boardPower rest < 16384 → s.fld F.GOV_STAT_BURSTMS 0 < 65536 →
    Completes (.pbrdAverage rest) s fun t =>
      t.fld F.GOV_PBRD_PBRD 0 = s.boardPower rest ∧ t.govHw.acc = 0 ∧ t.govHw.ticks = 0
        ∧ (s.budget < s.boardPower rest → t.fld F.GOV_STAT_BURSTMS 0 = min 65535 (s.fld F.GOV_STAT_BURSTMS 0 + 1))
        ∧ (s.boardPower rest ≤ s.budget → s.govHw.under < 7 → t.fld F.GOV_STAT_BURSTMS 0 = s.fld F.GOV_STAT_BURSTMS 0)
        ∧ (s.boardPower rest ≤ s.budget → 7 ≤ s.govHw.under → t.fld F.GOV_STAT_BURSTMS 0 = s.fld F.GOV_STAT_BURSTMS 0 - 1)
        ∧ (s.on F.GOV_STAT_SHEDDING 0 = true → t.on F.GOV_STAT_SHEDDING 0 = decide (s.budget < s.boardPower rest))
        ∧ (s.on F.GOV_STAT_SHEDDING 0 = false → s.budget < s.boardPower rest →
          (1999 ≤ s.fld F.GOV_STAT_BURSTMS 0 ∨ (5 * s.budget < 4 * s.boardPower rest ∧ 9 ≤ s.govHw.overs)) →
          t.on F.GOV_STAT_SHEDDING 0 = true ∧ t.fld F.GOV_CNT2_BURSTS 0 = (s.fld F.GOV_CNT2_BURSTS 0 + 1) % 2 ^ 16
          ∧ t.pends 11 = true)
        ∧ (s.on F.GOV_STAT_SHEDDING 0 = false → s.boardPower rest ≤ s.budget → t.on F.GOV_STAT_SHEDDING 0 = false)) ∧
  (∀ s (p : Nat), s.on F.GOV_STAT_SHEDDING 0 = true →
    pick (fun a b => decide (s.classOf b < s.classOf a) || (decide (s.classOf a = s.classOf b) && decide (b < a))) (allPorts.filter (fun p => s.live p && !s.bit F.GOV_SHED_PORTS 0 (p - 1) && decide (100 * s.shedw < max (s.gov.at p).grant (s.gov.at p).rpGrant))) = some p →
    Completes .shedVictim s fun t =>
      t.bit F.GOV_SHED_PORTS 0 (p - 1) = true ∧ (t.gov.at p).shedClamp.isSome = true
        ∧ (s.firmware = true → (t.gov.at p).shedHold = some s.shedw)
        ∧ t.fld F.GOV_CNT1_SHEDS 0 = (s.fld F.GOV_CNT1_SHEDS 0 + 1) % 2 ^ 16) ∧
  (∀ s (p : Nat), s.on F.GOV_STAT_SHEDDING 0 = false → 5000 ≤ s.govHw.calm →
    pick (fun a b => decide (s.classOf a < s.classOf b) || (decide (s.classOf a = s.classOf b) && decide (a < b))) (maskPorts (s.fld F.GOV_SHED_PORTS 0)) = some p →
    Completes .shedRelease s fun t =>
      t.bit F.GOV_SHED_PORTS 0 (p - 1) = false ∧ (t.gov.at p).shedClamp = none ∧ (t.gov.at p).shedHold = none) ∧
  (∀ s i, (s.tat.at i).st = 2 →
    Completes (.reservationRelease i) s fun t =>
      (t.tat.at i).held = false ∧ (t.tat.at i).resv = 0 ∧ (∀ p ∈ allPorts, ∀ e ∈ (t.gov.at p).credits, e.1 ≠ i))

/-- Chord links (R318, R321, R322). -/
def Obligations.ChordLinkCommands : Prop :=
  (∀ s l, s.chordOn = true → l < 6 → s.on F.CHORD_LCTL_EN l = true → s.linkState l = 0 → (s.apex = false ∨ 2 ≤ l) →
    Completes (.chordSignalDetect l) s fun t =>
      t.linkState l = 1 ∧ t.pends 157 = true) ∧
  (∀ s l, s.chordOn = true → s.linkState l = 1 →
    Completes (.chordTrained l) s fun t =>
      t.linkState l = 2
        ∧ t.chord.out = [.ident l s.apex (s.fld F.CHORD_STAT_DEPTH 0) s.sync (s.fld F.CHORD_STAT_ADDR 0) (if 2 ≤ l then s.fld F.CHORD_DNRANGE_DNLO (l - 2) else 0xFFFF) (if 2 ≤ l then s.fld F.CHORD_DNRANGE_DNHI (l - 2) else 0)]
        ∧ t.pends 157 = true) ∧
  (∀ s l peerApex peerUp peerHold depth sync addr lo hi, s.chordOn = true → s.linkState l = 2 → l < 2 → depth = 8 →
    Completes (.chordIdent l peerApex peerUp peerHold depth sync addr lo hi) s fun t =>
      t.linkState l = 6 ∧ t.fld F.CHORD_LSTAT_REFUSE l = 1 ∧ t.fld F.CHORD_LSTAT_PEERDEPTH l = depth % 16
        ∧ (t.links.at l).offered = (lo % 65536, hi % 65536)) ∧
  (∀ s l peerApex peerUp peerHold depth sync addr lo hi, s.chordOn = true → s.linkState l = 2 → l < 2 → depth < 8 →
    ((peerApex && s.apex) || peerUp) = true →
    Completes (.chordIdent l peerApex peerUp peerHold depth sync addr lo hi) s fun t =>
      t.linkState l = 6 ∧ t.fld F.CHORD_LSTAT_REFUSE l = 2 ∧ t.fld F.CHORD_LSTAT_PEERDEPTH l = depth % 16
        ∧ (t.links.at l).offered = (lo % 65536, hi % 65536)) ∧
  (∀ s l peerApex peerUp peerHold depth sync addr lo hi, s.chordOn = true → s.linkState l = 2 → l = 0 → depth < 8 →
    ((peerApex && s.apex) || peerUp) = false →
    Completes (.chordIdent l peerApex peerUp peerHold depth sync addr lo hi) s fun t =>
      t.linkState l = 3 ∧ t.fld F.CHORD_LSTAT_REFUSE l = 0 ∧ (s.chord.chosen = false → t.activeUp = l)
        ∧ t.fld F.CHORD_LSTAT_PEERDEPTH l = depth % 16 ∧ (t.links.at l).offered = (lo % 65536, hi % 65536)) ∧
  (∀ s l peerApex peerUp peerHold depth sync addr lo hi, s.chordOn = true → s.linkState l = 2 → 2 ≤ l → l < 6 →
    s.fld F.CHORD_STAT_DEPTH 0 ≠ 8 → peerUp = true → (peerApex && s.apex) = false →
    Completes (.chordIdent l peerApex peerUp peerHold depth sync addr lo hi) s fun t =>
      t.linkState l = 3 ∧ t.fld F.CHORD_LSTAT_REFUSE l = 0 ∧ t.fld F.CHORD_LSTAT_PEERDEPTH l = depth % 16
        ∧ (t.links.at l).offered = (lo % 65536, hi % 65536)) ∧
  (∀ s l, s.chordOn = true → s.linkState l = 6 →
    Completes (.chordIdentRetry l) s fun t =>
      t.linkState l = 2 ∧ t.pends 157 = true) ∧
  (∀ s l, s.chordOn = true → s.linkState l = 3 → 2 ≤ l →
    Completes (.chordMeasureDone l) s fun t =>
      t.linkState l = 4 ∧ t.pends 157 = true) ∧
  (∀ s l, s.chordOn = true → s.linkState l = 3 → l < 2 → s.activeUp = l → s.chord.active = false →
    s.fld F.CHORD_LSTAT_PEERDEPTH l < 8 → ((s.on F.CHORD_STAT_HOLDOVER 0 = false ∨ s.failoverOk l = true)) →
    Completes (.chordMeasureDone l) s fun t =>
      t.linkState l = 4 ∧ t.chord.active = true ∧ t.on F.CHORD_STAT_HOLDOVER 0 = false ∧ t.activeUp = l
        ∧ t.fld F.CHORD_STAT_DEPTH 0 = s.fld F.CHORD_LSTAT_PEERDEPTH l + 1) ∧
  (∀ s l, s.chordOn = true → s.linkState l = 3 → l < 2 → s.activeUp = l → s.chord.active = false →
    8 ≤ s.fld F.CHORD_LSTAT_PEERDEPTH l →
    Completes (.chordMeasureDone l) s fun t =>
      t.linkState l = 0 ∧ t.chord.active = false
        ∧ t.fld F.CHORD_LCNT0_DROPS l = (s.fld F.CHORD_LCNT0_DROPS l + 1) % 2 ^ 16) ∧
  (∀ s l, s.chordOn = true → s.linkState l = 3 → l < 2 → s.activeUp = l → s.chord.active = false →
    s.fld F.CHORD_LSTAT_PEERDEPTH l < 8 → s.on F.CHORD_STAT_HOLDOVER 0 = true → s.failoverOk l = false →
    Completes (.chordMeasureDone l) s fun t =>
      t.linkState l = 5 ∧ t.chord.active = false ∧ t.on F.CHORD_STAT_HOLDOVER 0 = true) ∧
  (∀ s l, s.chordOn = true → s.linkState l = 3 → l < 2 → ((s.activeUp ≠ l ∨ s.chord.active = true)) →
    Completes (.chordMeasureDone l) s fun t =>
      t.linkState l = 5 ∧ t.activeUp = s.activeUp) ∧
  (∀ s l cause, s.chordOn = true → l < 6 → s.linkState l ≠ 0 → (cause = 0 ∨ cause = 2 ∨ (cause = 1 ∧ l < 2)) →
    Completes (.chordLinkFail l cause) s fun t =>
      t.linkState l = 0 ∧ t.fld F.CHORD_LCNT0_DROPS l = (s.fld F.CHORD_LCNT0_DROPS l + 1) % 2 ^ 16
        ∧ t.fld F.CHORD_LRTT_VALUE l = 0
        ∧ (∀ j ∈ List.range 16, s.adoptedOn l j = true → t.on F.CHORD_ADOPTB_VALID j = false)
        ∧ (l < 2 → s.activeUp = l → t.chord.active = false))

/-- Time (R88, R324, R325, R327, R331), failover (R328, R330), ranges (R319, R329). -/
def Obligations.ChordTimeAndRangeCommands : Prop :=
  (∀ s l sync depth mark localCt peerHold, s.chordOn = true → l < 2 → (s.linkState l = 4 ∨ s.linkState l = 5) → sync ≤ 2 →
    depth < 8 →
    Completes (.marker l sync depth mark localCt peerHold) s fun t =>
      t.fld F.CHORD_LSTAT_PEERSYNC l = sync ∧ t.fld F.CHORD_LSTAT_PEERDEPTH l = depth
        ∧ (t.links.at l).peerHold = peerHold
        ∧ (s.upActive = true → s.activeUp = l → s.chord.locked = true → sync ≠ 0 →
          t.sync = sync ∧ t.on F.CHORD_STAT_HOLDOVER 0 = false ∧ t.fld F.CHORD_STAT_DEPTH 0 = depth + 1)
        ∧ (s.upActive = true → s.activeUp = l → s.chord.locked = true → sync = 0 → t.sync = s.sync)) ∧
  (∀ s l sync depth mark localCt peerHold, s.chordOn = true → 2 ≤ l → l < 6 → 2 ≤ s.linkState l → s.ctRuns = true →
    s.ct % 960 = 0 →
    Completes (.marker l sync depth mark localCt peerHold) s fun t =>
      t.chord.out = [.marker l s.sync (s.fld F.CHORD_STAT_DEPTH 0) s.ct] ∧ t.chord.timeSet = none
        ∧ (s.chord.timeSet = none → t.ct = s.ct)) ∧
  (∀ s l sync depth mark localCt peerHold, s.chordOn = true → 2 ≤ l → l < 6 → s.ctRuns = true → s.ct % 960 ≠ 0 →
    s.chord.timeSet = none →
    Completes (.marker l sync depth mark localCt peerHold) s fun t =>
      t.ct = (s.ct / 960 * 960 + 960) % 2 ^ 64
        ∧ (∀ x ∈ t.staged, x.field.applies = .t → (slotHome x.field.id x.index).any s.held' = true)) ∧
  (∀ s l t1 t2 t3 t4, s.chordOn = true → l < 2 → (s.linkState l = 3 ∨ s.linkState l = 4 ∨ s.linkState l = 5) →
    Completes (.delayExchange l t1 t2 t3 t4) s fun t =>
      (t.links.at l).rtts = ((4 * ((t4 - t1) - (t3 - t2))) :: (s.links.at l).rtts).take 64
        ∧ t.fld F.CHORD_LRTT_VALUE l = ofInt 24 (average (t.links.at l).rtts)
        ∧ t.fld F.CHORD_LOFFS_VALUE l = ofInt 32 (average (t.links.at l).offs)) ∧
  (∀ s, s.upActive = true → s.follows s.activeUp = true → s.chord.stepped = true →
    (toInt 32 (s.fld F.CHORD_LOFFS_VALUE s.activeUp)).natAbs ≤ 16 * max 1 (s.fld F.CHORD_CFG_STEPTHR 0) →
    Completes .ctCorrection s fun t =>
      t.ct = s.ct ∧ t.chord.slew = toInt 32 (s.fld F.CHORD_LOFFS_VALUE s.activeUp) ∧ s.OnlyIn [.chord] t) ∧
  (∀ s, s.upActive = true → s.follows s.activeUp = true → s.chord.stepped = true →
    16 * max 1 (s.fld F.CHORD_CFG_STEPTHR 0) < (toInt 32 (s.fld F.CHORD_LOFFS_VALUE s.activeUp)).natAbs →
    Completes .ctCorrection s fun t =>
      t.ct = ofInt 64 ((s.ct : Int) + toInt 32 (s.fld F.CHORD_LOFFS_VALUE s.activeUp) / 16)
        ∧ t.fld F.CHORD_CNT0_STEPS 0 = (s.fld F.CHORD_CNT0_STEPS 0 + 1) % 2 ^ 16 ∧ t.pends 156 = true) ∧
  (∀ s (n : Int), s.upActive = true → s.follows s.activeUp = true → s.chord.stepped = false →
    (s.links.at s.activeUp).firstOffset = some n →
    Completes .ctCorrection s fun t =>
      t.ct = ofInt 64 ((s.ct : Int) + n) ∧ t.chord.stepped = true
        ∧ t.fld F.CHORD_CNT0_STEPS 0 = (s.fld F.CHORD_CNT0_STEPS 0 + 1) % 2 ^ 16) ∧
  (∀ s, s.upActive = true → s.fld F.CHORD_LSTAT_PEERSYNC s.activeUp = 2 → s.on F.PMU_CLKSTAT_REF_ACTIVE 0 = true →
    s.chord.stepped = true → (toInt 32 (s.fld F.CHORD_LOFFS_VALUE s.activeUp)).natAbs ≤ 128 →
    Completes .chordLock s fun t =>
      t.sync = 2 ∧ t.chord.locked = true ∧ t.power.everLocked = true
        ∧ (s.power.everLocked = false → t.on F.RTC_STATUS_RTC_VALID 0 = true)) ∧
  (∀ s, s.apex = true → s.on F.PMU_CLKSTAT_PLL_LOCK 0 = true →
    Completes .apexLock s fun t =>
      t.sync = 2 ∧ (s.sync ≠ 2 → t.pends 156 = true) ∧ (s.sync = 2 → t = s)) ∧
  (∀ s, s.chordOn = true → s.apex = false → s.chord.everActive = true → s.on F.CHORD_STAT_HOLDOVER 0 = false →
    s.chord.active = false →
    Completes .holdoverStart s fun t =>
      t.on F.CHORD_STAT_HOLDOVER 0 = true
        ∧ t.on F.PMU_CLKSTAT_REF_ACTIVE 0 = (s.on F.PMU_CLKSTAT_REF_ACTIVE 0 && !s.on F.PMU_CLKCTL_AUTO 0)
        ∧ t.chord.holdSince = some s.ct ∧ t.sync = s.sync) ∧
  (∀ s, s.on F.CHORD_STAT_HOLDOVER 0 = true → s.sync = 2 →
    Completes .holdmaxExpiry s fun t =>
      t.sync = 1 ∧ t.pends 156 = true ∧ t.on F.CHORD_STAT_HOLDOVER 0 = true) ∧
  (∀ s, s.chordOn = true → s.apex = false → s.chord.everActive = true → s.on F.CHORD_CFG_AUTOFAIL 0 = true →
    s.on F.CHORD_STAT_HOLDOVER 0 = true → s.activeUp ≤ 1 → s.linkState (1 - s.activeUp) = 5 →
    s.failoverOk (1 - s.activeUp) = true →
    Completes .failover s fun t =>
      t.activeUp = 1 - s.activeUp ∧ t.linkState (1 - s.activeUp) = 4 ∧ t.on F.CHORD_STAT_HOLDOVER 0 = false
        ∧ t.fld F.CHORD_STAT_DEPTH 0 = (s.fld F.CHORD_LSTAT_PEERDEPTH (1 - s.activeUp) + 1) % 2 ^ 4
        ∧ t.fld F.CHORD_CNT0_FAILOVERS 0 = (s.fld F.CHORD_CNT0_FAILOVERS 0 + 1) % 2 ^ 16 ∧ t.chord.active = true) ∧
  (∀ s, s.chordOn = true → s.apex = false → s.on F.CHORD_CFG_REVERT 0 = true → s.activeUp = 1 → s.linkState 0 = 5 →
    s.failoverOk 0 = true →
    Completes .revert s fun t =>
      t.activeUp = 0 ∧ t.linkState 0 = 4 ∧ (s.linkState 1 = 4 → t.linkState 1 = 5)
        ∧ t.fld F.CHORD_CNT0_FAILOVERS 0 = (s.fld F.CHORD_CNT0_FAILOVERS 0 + 1) % 2 ^ 16) ∧
  (∀ s l lo hi hops (j : Nat), s.chordOn = true → 2 ≤ l → l < 6 → lo < 65536 → hi < 65536 →
    (List.range 16).find? (fun j => s.on F.CHORD_ADOPTB_VALID j && decide (s.fld F.CHORD_ADOPTA_LO j = lo) && decide (s.fld F.CHORD_ADOPTA_HI j = hi)) = none → (List.range 16).find? (fun j => !s.on F.CHORD_ADOPTB_VALID j) = some j →
    Completes (.adoptFrame l lo hi hops) s fun t =>
      t.on F.CHORD_ADOPTB_VALID j = true ∧ t.fld F.CHORD_ADOPTA_LO j = lo ∧ t.fld F.CHORD_ADOPTA_HI j = hi
        ∧ t.fld F.CHORD_ADOPTB_LINK j = l
        ∧ ((s.fld F.CHORD_RANGE_LO 0 ≤ lo ∧ hi ≤ s.fld F.CHORD_RANGE_HI 0) → t.chord.out = [])
        ∧ ((lo < s.fld F.CHORD_RANGE_LO 0 ∨ s.fld F.CHORD_RANGE_HI 0 < hi) → s.upActive = true →
          t.chord.out = [.adopt s.activeUp lo hi (hops + 1)])) ∧
  (∀ s l lo hi (j : Nat), s.chordOn = true → 2 ≤ l → l < 6 → j < 16 → s.adoptedOn l j = true →
    s.fld F.CHORD_ADOPTA_LO j = lo → s.fld F.CHORD_ADOPTA_HI j = hi →
    Completes (.releaseFrame l lo hi) s fun t =>
      t.on F.CHORD_ADOPTB_VALID j = false ∧ t.fld F.CHORD_ADOPTA_HI j = 0
        ∧ (∀ k ∈ List.range 16, (s.adoptedOn l k = false ∨ s.fld F.CHORD_ADOPTA_LO k ≠ lo ∨ s.fld F.CHORD_ADOPTA_HI k ≠ hi) → t.on F.CHORD_ADOPTB_VALID k = s.on F.CHORD_ADOPTB_VALID k)) ∧
  (∀ s lo hi, s.apex = true →
    Completes (.rangeChange lo hi) s fun t =>
      t = s) ∧
  (∀ s lo hi, s.apex = false → lo < 65536 → hi < 65536 → lo ≤ hi →
    Completes (.rangeChange lo hi) s fun t =>
      t.fld F.CHORD_RANGE_LO 0 = lo ∧ t.fld F.CHORD_RANGE_HI 0 = hi ∧ t.fld F.CHORD_STAT_ADDR 0 = lo
        ∧ t.on F.CHORD_STAT_ADDRESSED 0 = true
        ∧ (s.on F.CHORD_CFG_RANGEMODE 0 = false → lo + 4 ≤ hi →
          t.fld F.CHORD_DNRANGE_DNLO 0 = lo + 1 ∧ t.fld F.CHORD_DNRANGE_DNHI 3 = hi)) ∧
  (∀ s lo hi, s.apex = false → lo < 65536 → hi < 65536 → hi < lo →
    Completes (.rangeChange lo hi) s fun t =>
      t.on F.CHORD_STAT_ADDRESSED 0 = false ∧ t.fld F.CHORD_STAT_ADDR 0 = 0 ∧ t.fld F.CHORD_RANGE_LO 0 = 0
        ∧ t.fld F.CHORD_RANGE_HI 0 = 0) ∧
  (∀ s, s.ppsDriven = true → s.ct < 2 ^ 63 →
    Completes .ctPpsEdge s fun t =>
      t.chord.ppsCt = some t.ct ∧ t.ct % (960000 * clamp 1 1000 (s.fld F.CHORD_PPS_PERIOD 0)) = 0 ∧ s.ct ≤ t.ct
        ∧ t.ct ≤ s.ct + 960000 * clamp 1 1000 (s.fld F.CHORD_PPS_PERIOD 0) ∧ t.ppsLevel = true)

/-- Command frames over Chord (R320, R332 to R334) and the timed action table (R335 to R339, R341, R343, R345). -/
def Obligations.ChordFrameAndTimedActionCommands : Prop :=
  (∀ s l id mode dest hops bytes, s.chordOn = true → l < 6 → s.linkState l = 4 → mode = 0 →
    s.on F.CHORD_STAT_ADDRESSED 0 = true → s.route dest = none → s.chord.inbox.length < 16 →
    Completes (.chordCmdFrame l id mode dest hops bytes) s fun t =>
      t.chord.out = [.accepted l id] ∧ t.chord.inbox = s.chord.inbox ++ [⟨id, 0, l⟩]
        ∧ (t.mbx.at 6).frames = (s.mbx.at 6).frames ++ [(Frame.parse bytes).bytes] ∧ t.pends 31 = true
        ∧ t.fld F.CHORD_LCNT1_CMDRX l = (s.fld F.CHORD_LCNT1_CMDRX l + 1) % 2 ^ 16) ∧
  (∀ s l id mode dest hops bytes, s.chordOn = true → l < 6 → s.linkState l = 4 → mode = 0 →
    s.on F.CHORD_STAT_ADDRESSED 0 = true → s.route dest = none → 16 ≤ s.chord.inbox.length →
    Completes (.chordCmdFrame l id mode dest hops bytes) s fun t =>
      t.chord.out = [.accepted l id, .response l id (s.reply (Frame.parse bytes) Status.busy 0 [])]
        ∧ t.chord.inbox = s.chord.inbox ∧ t.fld F.CHORD_LCNT1_CMDRX l = (s.fld F.CHORD_LCNT1_CMDRX l + 1) % 2 ^ 16) ∧
  (∀ s l id mode dest hops bytes, s.chordOn = true → l < 6 → s.linkState l = 4 → mode = 0 →
    s.on F.CHORD_STAT_ADDRESSED 0 = true → s.route dest = some 7 →
    Completes (.chordCmdFrame l id mode dest hops bytes) s fun t =>
      t.chord.out = [.noroute l id] ∧ t.fld F.CHORD_CNT1_NOROUTE 0 = (s.fld F.CHORD_CNT1_NOROUTE 0 + 1) % 2 ^ 16
        ∧ t.fld F.CHORD_LCNT1_CMDRX l = (s.fld F.CHORD_LCNT1_CMDRX l + 1) % 2 ^ 16) ∧
  (∀ s l id mode dest hops bytes (k : Nat), s.chordOn = true → l < 6 → s.linkState l = 4 → mode = 0 →
    s.on F.CHORD_STAT_ADDRESSED 0 = true → s.route dest = some k → k ≠ 7 →
    Completes (.chordCmdFrame l id mode dest hops bytes) s fun t =>
      t.chord.out = [.cmd k id 0 dest (hops + 1) (Frame.parse bytes)]
        ∧ t.fld F.CHORD_LCNT1_CMDRX l = (s.fld F.CHORD_LCNT1_CMDRX l + 1) % 2 ^ 16) ∧
  (∀ s id (c : ChordCmd), s.chord.sent.find? (fun x => decide (x.id = id)) = some c → c.accepted = false →
    Completes (.chordAcceptTimeout id) s fun t =>
      (t.chord.sent = s.chord.sent.filter (fun x => decide (x.id ≠ c.id)))
        ∧ (c.channel ≤ 1 → t.lastReply c.channel = some (s.reply c.frame Status.unitAbsent 0 []))) ∧
  (∀ s id (c : ChordCmd), s.chord.sent.find? (fun x => decide (x.id = id)) = some c →
    Completes (.chordCmdTimeout id) s fun t =>
      (t.chord.sent = s.chord.sent.filter (fun x => decide (x.id ≠ c.id)))
        ∧ (c.channel ≤ 1 → t.lastReply c.channel = some (s.reply c.frame Status.timeout 0 []))) ∧
  (∀ s l id bytes, s.chordOn = true → l < 6 → s.linkState l = 4 → (Frame.parse bytes).isMerged = false → s.apex = false →
    Completes (.chordResponse l id bytes) s fun t =>
      t.chord.out = [.response s.activeUp id (Frame.parse bytes)] ∧ s.OnlyIn [.chord] t) ∧
  (∀ s l id bytes, s.chordOn = true → l < 6 → s.linkState l = 4 → (Frame.parse bytes).isMerged = false → s.apex = true →
    s.chord.sent.find? (fun x => decide (x.id = id)) = none →
    Completes (.chordResponse l id bytes) s fun t =>
      t.fld F.CHORD_CNT1_LATERESP 0 = (s.fld F.CHORD_CNT1_LATERESP 0 + 1) % 2 ^ 16 ∧ s.OnlyIn [.reg .chord, .chord] t) ∧
  (∀ s l id bytes (c : ChordCmd), s.chordOn = true → l < 6 → s.linkState l = 4 → (Frame.parse bytes).isMerged = false →
    s.apex = true → s.chord.sent.find? (fun (x : ChordCmd) => decide (x.id = id)) = some c → c.frame.mode ≠ 2 →
    Completes (.chordResponse l id bytes) s fun t =>
      (t.chord.sent = s.chord.sent.filter (fun x => decide (x.id ≠ c.id)))
        ∧ (c.channel ≤ 1 → t.lastReply c.channel = some (Frame.parse bytes))) ∧
  (∀ s id (m : ChordMerge), s.chord.merges.find? (fun x => decide (x.id = id)) = some m → m.ownDone = true → m.link ≠ 6 →
    Completes (.broadcastMerge id) s fun t =>
      t.chord.out = [.response m.link id (s.mergedResponse m)]
        ∧ (t.chord.merges = s.chord.merges.filter (fun x => decide (x.id ≠ id)))) ∧
  (∀ s (i : Nat), s.tatCheck (tatWords ((List.range 7).map (s.fld F.TAT_NEW_WORD))) = 0 → s.tatFree = some i →
    Completes .tatAdd s fun t =>
      (t.tat.at i).st = 1 ∧ (t.tat.at i).words = tatWords ((List.range 7).map (s.fld F.TAT_NEW_WORD))
        ∧ t.fld F.TAT_RESULT_RESULT 0 = 0 ∧ t.fld F.TAT_RESULT_INDEX 0 = i % 2 ^ 9 ∧ t.pends 155 = true) ∧
  (∀ s, s.tatCheck (tatWords ((List.range 7).map (s.fld F.TAT_NEW_WORD))) ≠ 0 →
    Completes .tatAdd s fun t =>
      t.tat = s.tat ∧ t.fld F.TAT_RESULT_RESULT 0 = s.tatCheck (tatWords ((List.range 7).map (s.fld F.TAT_NEW_WORD)))
        ∧ t.fld F.TAT_CNT1_REFUSED 0 = (s.fld F.TAT_CNT1_REFUSED 0 + 1) % 2 ^ 16 ∧ t.pends 155 = true) ∧
  (∀ s, (s.tat.at (s.fld F.TAT_CMD_INDEX 0)).st = 1 → s.ct + s.lead < tatCt (s.tat.at (s.fld F.TAT_CMD_INDEX 0)).words →
    Completes .tatCancel s fun t =>
      (t.tat.at (s.fld F.TAT_CMD_INDEX 0)).st = 0 ∧ t.fld F.TAT_RESULT_RESULT 0 = 0
        ∧ t.fld F.TAT_CNT1_CANCELS 0 = (s.fld F.TAT_CNT1_CANCELS 0 + 1) % 2 ^ 16 ∧ t.pends 155 = true) ∧
  (∀ s, (((s.tat.at (s.fld F.TAT_CMD_INDEX 0)).st ≠ 1 ∨ tatCt (s.tat.at (s.fld F.TAT_CMD_INDEX 0)).words ≤ s.ct + s.lead)) →
    Completes .tatCancel s fun t =>
      t.tat = s.tat ∧ t.fld F.TAT_RESULT_RESULT 0 = 7 ∧ t.pends 155 = true) ∧
  (∀ s (e : Nat × TatEntry), tatFirst (s.armed.filter (fun e => !e.2.loaded && !s.slotless e && decide (tatCt e.2.words < s.ct + 19200))) = some e → (s.armed.filter (fun e => e.2.loaded)).length < 16 →
    Completes .tatQueueLoad s fun t =>
      (t.tat.at e.1).loaded = true
        ∧ (rising natLt s.tat = true → ∀ i ∈ List.range 512, (t.tat.at i).loaded = true →
          (s.tat.at i).loaded = true ∨ ((s.tat.at i).st = 1 ∧ tatCt (s.tat.at i).words < s.ct + 19200))
        ∧ s.OnlyIn [.tat] t) ∧
  (∀ s (e : Nat × TatEntry), tatFirst (s.armed.filter (fun e => !s.passed e)) = some e → s.tat.at e.1 = e.2 →
    s.ct ≤ tatCt e.2.words → tatCt e.2.words < 2 ^ 64 →
    Completes .tatLaunch s fun t =>
      t.ct = tatCt e.2.words ∧ t.pends 154 = true
        ∧ (s.syncMet (tatSyncReq e.2.words) = false → tatSyncReq e.2.words ≤ 2 → (t.tat.at e.1).st = 0)
        ∧ (tatSyncReq e.2.words = 0 → tatCode e.2.words = 0xD → e.2.word 5 % 8 ≤ 4 →
          (t.tat.at e.1).st = 2 ∧ t.fld F.TAT_IRQVAL_VALUE (e.2.word 5 % 8) = e.2.word 5 / 65536 % 65536
          ∧ t.pends (149 + e.2.word 5 % 8) = true ∧ t.fld F.TAT_CNT0_LAUNCHES 0 = (s.fld F.TAT_CNT0_LAUNCHES 0 + 1) % 2 ^ 16)
        ∧ (tatSyncReq e.2.words = 0 → tatCode e.2.words = 1 →
          (t.tat.at e.1).st = 2 ∧ ∀ p ∈ s.tatPorts e.2.words, s.suppressed e.2 p = 0 → t.on F.PWR_PCTL_VOFF p = true)) ∧
  (∀ s, 
    Completes .tatLateLaunch s fun t =>
      (∀ e ∈ s.armed.filter (fun e => s.passed e && !tatLateOk e.2.words), (t.tat.at e.1).st = 0)
        ∧ (s.armed.filter s.passed = [] → t = s)) ∧
  (∀ s (i : Nat) (e : TatEntry), s.tat = [(i, e)] → e.st = 1 → s.passed (i, e) = true → tatLateOk e.words = true →
    tatSyncReq e.words = 0 → tatCode e.words = 0xD →
    Completes .tatLateLaunch s fun t =>
      (t.tat.at i).st = 2 ∧ t.fld F.TAT_CNT2_LATE 0 = (s.fld F.TAT_CNT2_LATE 0 + 1) % 2 ^ 16
        ∧ t.fld F.TAT_CNT0_LAUNCHES 0 = (s.fld F.TAT_CNT0_LAUNCHES 0 + 1) % 2 ^ 16) ∧
  (∀ s i p, (s.tat.at i).st = 2 → 1 ≤ p →
    Completes (.maskWindowEnd i p) s fun t =>
      (t.tat.at i).window.testBit (p - 1) = false ∧ s.OnlyIn [.tat] t) ∧
  (∀ s i, (s.tat.at i).st = 2 → (s.tat.at i).window = 0 → (s.tat.at i).held = false → (s.tat.at i).awaited = 0 →
    (s.tat.at i).later = [] →
    Completes (.entryFree i) s fun t =>
      (t.tat.at i).st = 0 ∧ (t.tat.at i).words = [])

/-- Trace capture (R350, R351, R353 to R359, R361), export over EP4 (R209, R365) and the trace memories (R362 to R364). -/
def Obligations.TraceCommands : Prop :=
  (∀ s x, s.capturing = true → s.trc.startCt ≤ x.ct → (s.filterAt x.ct).keeps x (s.attributed x) = true →
    x.answers = false → x.room = true → s.trc.dropped = 0 →
    s.traceTight (16 + up16 (x.bytes.take s.snapBytes).length) = false → s.on F.TRC_CFG_MODE 0 = false →
    s.trc.wr % 4096 + 16 + up16 (x.bytes.take s.snapBytes).length ≤ 4096 →
    Completes (.packetCapture x) s fun t =>
      t.trc.wr = s.trc.wr + 16 + up16 (x.bytes.take s.snapBytes).length ∧ t.trc.lastCt = x.ct
        ∧ (s.toBilberry = false → s.trc.wr < 200000 →
          t.traceBytes s.trc.wr 16 = le 8 x.ct ++ le 8 (16 * s.syncAt x.ct + 64 * (x.bytes.take s.snapBytes).length + 2 ^ 17 * packetFields x (s.attributed x)))
        ∧ (s.toBilberry = false →
          ∀ a, (a < 0x20087000 + s.trc.wr % 262144 ∨ 0x20087000 + s.trc.wr % 262144 + 16 + up16 (x.bytes.take s.snapBytes).length ≤ a) → readByte t.mem a = readByte s.mem a)) ∧
  (∀ s x (q : TraceHalt), s.traceOn = true → s.capturing = false → (s.filterAt x.ct).keeps x (s.attributed x) = true →
    s.lateFor x.ct = some q →
    Completes (.packetCapture x) s fun t =>
      t.trc.dropped = 0 ∧ (t.on F.TRC_STAT_DROPPING 0 = false ∨ s.trc.dropped = 0)
        ∧ (t.trc.halted.map (fun h => (h.ct, h.cause, h.atEnd)) = some (q.ct, q.cause, true)) ∧ t.trc.lastCt = q.ct
        ∧ t.fld F.TRC_STAT_STATE 0 = s.fld F.TRC_STAT_STATE 0) ∧
  (∀ s, s.capturing = true → s.traceTight 16 = false → s.trc.dropped ≠ 0 →
    Completes .dropRecordWrite s fun t =>
      t.trc.dropped = 0 ∧ t.on F.TRC_STAT_DROPPING 0 = false ∧ s.trc.wr + 16 ≤ t.trc.wr ∧ t.trc.lastCt = s.trc.dropCt) ∧
  (∀ s cause id value, s.traceOn = true → s.fld F.TRC_STAT_STATE 0 = 2 → s.trc.trigCt ≠ some s.ct →
    s.traceCramped 16 = false → (((cause = 0) ∨ (cause = 1 ∧ s.on F.TRC_TRIG_MARKEN 0 = true
    ∧ s.fld F.TRC_TRIGV_VALUE 0 = value) ∨ (1 < cause ∧ s.on F.TRC_TRIG_FAULTEN 0 = true
    ∧ Nat.land id (s.fld F.TRC_TRIGF_FMASK 0) = Nat.land (s.fld F.TRC_TRIGF_FID 0) (s.fld F.TRC_TRIGF_FMASK 0)))) →
    Completes (.traceTrigger cause id value) s fun t =>
      t.on F.TRC_STAT_TRIGGERED 0 = true ∧ (t.fld F.TRC_STAT_STATE 0 = if s.fld F.TRC_TRIG_POST 0 = 0 then 2 else 3)
        ∧ t.fld F.TRC_CNT0_TRIGS 0 = (s.fld F.TRC_CNT0_TRIGS 0 + 1) % 2 ^ 16
        ∧ (s.fld F.TRC_TRIG_POST 0 ≠ 0 → t.trc.trigPos = s.trc.wr) ∧ t.trc.trigCt = some s.ct ∧ t.pends 158 = true) ∧
  (∀ s cause id value, s.traceOn = true → ((s.fld F.TRC_STAT_STATE 0 ≠ 2 ∨ s.trc.trigCt = some s.ct)) →
    (((cause = 0) ∨ (cause = 1 ∧ s.on F.TRC_TRIG_MARKEN 0 = true ∧ s.fld F.TRC_TRIGV_VALUE 0 = value) ∨ (1 < cause
    ∧ s.on F.TRC_TRIG_FAULTEN 0 = true
    ∧ Nat.land id (s.fld F.TRC_TRIGF_FMASK 0) = Nat.land (s.fld F.TRC_TRIGF_FID 0) (s.fld F.TRC_TRIGF_FMASK 0)))) →
    Completes (.traceTrigger cause id value) s fun t =>
      t.fld F.TRC_CNT1_TRIGIGN 0 = (s.fld F.TRC_CNT1_TRIGIGN 0 + 1) % 2 ^ 16 ∧ t.trc = s.trc) ∧
  (∀ s cause id value, cause ≠ 0 → (¬ ((cause = 0) ∨ (cause = 1 ∧ s.on F.TRC_TRIG_MARKEN 0 = true
    ∧ s.fld F.TRC_TRIGV_VALUE 0 = value) ∨ (1 < cause ∧ s.on F.TRC_TRIG_FAULTEN 0 = true
    ∧ Nat.land id (s.fld F.TRC_TRIGF_FMASK 0) = Nat.land (s.fld F.TRC_TRIGF_FID 0) (s.fld F.TRC_TRIGF_FMASK 0)))) →
    Completes (.traceTrigger cause id value) s fun t =>
      t = s) ∧
  (∀ s, s.traceOn = true → s.fld F.TRC_STAT_STATE 0 = 3 → 65536 * s.fld F.TRC_TRIG_POST 0 ≤ s.trc.wr - s.trc.trigPos →
    Completes .postTriggerDone s fun t =>
      t.fld F.TRC_STAT_STATE 0 = 4 ∧ s.trc.wr + 16 ≤ t.trc.wr ∧ t.pends 158 = true) ∧
  (∀ s payload, s.capturing = true → s.traceCramped (16 + up16 payload) = true →
    Completes (.traceMemoryFull payload) s fun t =>
      t.fld F.TRC_STAT_STATE 0 = 4 ∧ t.on F.TRC_STAT_FULL 0 = true
        ∧ t.fld F.TRC_CNT0_DROPS 0 = (s.fld F.TRC_CNT0_DROPS 0 + 1) % 2 ^ 16 ∧ t.trc.dropped = 0 ∧ t.pends 158 = true) ∧
  (∀ s, s.traceOn = true → s.capturing = false → s.traceCramped 16 = false →
    Completes .trcStart s fun t =>
      t.fld F.TRC_STAT_STATE 0 = 2 ∧ t.on F.TRC_STAT_TRIGGERED 0 = false ∧ t.trc.startCt = s.ct
        ∧ t.fld F.TRC_CNT1_STARTS 0 = (s.fld F.TRC_CNT1_STARTS 0 + 1) % 2 ^ 16) ∧
  (∀ s, s.traceOn = false →
    Completes .trcStart s fun t =>
      t.trc = s.trc ∧ t.fld F.TRC_STAT_STATE 0 = s.fld F.TRC_STAT_STATE 0) ∧
  (∀ s, s.capturing = true →
    Completes .trcStop s fun t =>
      t.fld F.TRC_STAT_STATE 0 = 4 ∧ s.trc.wr + 16 ≤ t.trc.wr ∧ t.trc.dropped = 0
        ∧ (t.trc.halted.map (fun h => (h.since, h.ct, h.cause, h.atEnd)) = some (s.trc.startCt, s.ct, 0, true))
        ∧ (s.on F.TRC_CFG_MODE 0 = false → t.on F.TRC_STAT_FULL 0 = s.on F.TRC_STAT_FULL 0)) ∧
  (∀ s, s.traceOn = true → s.fld F.TRC_STAT_STATE 0 = 2 → s.trc.trigCt ≠ some s.ct → s.traceCramped 16 = false →
    Completes .trcTrig s fun t =>
      t.on F.TRC_STAT_TRIGGERED 0 = true ∧ (t.fld F.TRC_STAT_STATE 0 = if s.fld F.TRC_TRIG_POST 0 = 0 then 2 else 3)
        ∧ t.fld F.TRC_CNT0_TRIGS 0 = (s.fld F.TRC_CNT0_TRIGS 0 + 1) % 2 ^ 16) ∧
  (∀ s, s.traceOn = true → s.capturing = false →
    Completes .trcClear s fun t =>
      t.fld F.TRC_STAT_STATE 0 = 1 ∧ t.trc.wr = 0 ∧ t.trc.rd = 0 ∧ t.trc.oldest = 0 ∧ t.trc.dropped = 0
        ∧ t.on F.TRC_STAT_FULL 0 = false ∧ s.OnlyIn [.reg .trc, .trc] t) ∧
  (∀ s value, s.capturing = true → s.traceCramped 32 = false → s.trc.full = false →
    Completes (.trcMarkWrite value) s fun t =>
      s.trc.wr + 32 ≤ t.trc.wr ∧ t.trc.dropped = 0 ∧ t.trc.lastCt = s.ct
        ∧ t.fld F.TRC_STAT_STATE 0 = s.fld F.TRC_STAT_STATE 0) ∧
  (∀ s value, s.capturing = true → s.traceCramped 32 = false → s.trc.full = true →
    Completes (.trcMarkWrite value) s fun t =>
      t.trc.dropped = s.trc.dropped + 1 ∧ t.trc.wr = s.trc.wr
        ∧ t.fld F.TRC_CNT0_DROPS 0 = (s.fld F.TRC_CNT0_DROPS 0 + 1) % 2 ^ 16 ∧ t.on F.TRC_STAT_DROPPING 0 = true) ∧
  (∀ s value, s.capturing = true → s.traceCramped 32 = true →
    Completes (.trcMarkWrite value) s fun t =>
      t.trc.dropped = 0 ∧ t.fld F.TRC_STAT_STATE 0 = 4
        ∧ t.fld F.TRC_CNT0_DROPS 0 = (s.fld F.TRC_CNT0_DROPS 0 + 1) % 2 ^ 16 ∧ t.on F.TRC_STAT_FULL 0 = true) ∧
  (∀ s k one two deferred, s.traceOn = true → s.bilberry k = true → s.on F.BBC_STAT_READY k = true →
    s.fld F.BBC_SCRUB_SCRUBINT k ≠ 0 → deferred = false →
    Completes (.scrubTick k one two deferred) s fun t =>
      t.fld F.BBC_SCRUBPOS_POS k = (s.fld F.BBC_SCRUBPOS_POS k + 1) % 2 ^ 24
        ∧ t.fld F.BBC_ECC0_CORR1 k = (s.fld F.BBC_ECC0_CORR1 k + one) % 2 ^ 16
        ∧ t.fld F.BBC_ECC0_CORR2 k = (s.fld F.BBC_ECC0_CORR2 k + two) % 2 ^ 16
        ∧ (s.fld F.BBC_SCRUBPOS_POS k = 2 ^ 24 - 1 → t.fld F.BBC_ECC1_PASSES k = (s.fld F.BBC_ECC1_PASSES k + 1) % 2 ^ 16)
        ∧ s.OnlyIn [.reg .bbc] t) ∧
  (∀ s k one two deferred, deferred = true →
    Completes (.scrubTick k one two deferred) s fun t =>
      t = s) ∧
  (∀ s k addr count, s.traceOn = true → k = 2 →
    Completes (.traceUncorrectable k addr count) s fun t =>
      t.fld F.TRC_ECC_UNCORR 0 = (s.fld F.TRC_ECC_UNCORR 0 + 1) % 2 ^ 16 ∧ t.pends 25 = true
        ∧ (∀ c ∈ count, t.trc.bad = s.trc.bad ++ [c / 8 * 8])) ∧
  (∀ s k addr count, s.traceOn = true → k < 2 → s.bilberry k = true → addr < 2 ^ 30 →
    Completes (.traceUncorrectable k addr count) s fun t =>
      t.on F.BBC_ERRADDR_VALID k = true ∧ t.fld F.BBC_ERRADDR_ADDR k = addr / 8
        ∧ t.fld F.BBC_ECC1_UNCORR k = (s.fld F.BBC_ECC1_UNCORR k + 1) % 2 ^ 16 ∧ t.pends (160 + k) = true
        ∧ (∀ c ∈ count, t.trc.bad = s.trc.bad ++ [c / 8 * 8])) ∧
  (∀ s k one two acked, k < 4 → s.on F.MF_STAT_CONFIGURED k = true → s.p33Is k .enabled = true →
    (s.mf.at k).halts.contains 4 = false → s.traceOn = true → s.fld F.TRC_EXP_DEST 0 = k + 1 → s.trc.placed = none →
    (s.nextTransfer (restrictedTo k) (s.epHalf k 4)).bytes ≠ [] → acked = true →
    Completes (.ep4TransferAck k one two acked) s fun t =>
      (t.mf.at k).answer = .data (s.mfToggle k 4) (s.nextTransfer (restrictedTo k) (s.epHalf k 4)).bytes
        ∧ t.trc.rd = (s.nextTransfer (restrictedTo k) (s.epHalf k 4)).next ∧ t.trc.lost = 0 ∧ t.trc.placed = none
        ∧ t.fld F.TRC_CNT2_SKIPPED 0 = (s.fld F.TRC_CNT2_SKIPPED 0 + (s.nextTransfer (restrictedTo k) (s.epHalf k 4)).skipped) % 2 ^ 16
        ∧ s.OnlyIn [.reg .bbc, .reg .trc, .trc, .mf, .mem] t
        ∧ (∀ a, (a < s.epBase k 4 (s.mf.at k).ep4Half ∨ s.epBase k 4 (s.mf.at k).ep4Half + s.epHalf k 4 ≤ a) →
          readByte t.mem a = readByte s.mem a)) ∧
  (∀ s k one two acked, k < 4 → s.on F.MF_STAT_CONFIGURED k = true → s.p33Is k .enabled = true →
    (s.mf.at k).halts.contains 4 = false → s.traceOn = true → s.fld F.TRC_EXP_DEST 0 = k + 1 → s.trc.placed = none →
    (s.nextTransfer (restrictedTo k) (s.epHalf k 4)).bytes ≠ [] → acked = false →
    Completes (.ep4TransferAck k one two acked) s fun t =>
      (t.mf.at k).answer = .data (s.mfToggle k 4) (s.nextTransfer (restrictedTo k) (s.epHalf k 4)).bytes
        ∧ t.trc.placed = some (k, s.nextTransfer (restrictedTo k) (s.epHalf k 4)) ∧ t.trc.rd = s.trc.rd
        ∧ s.OnlyIn [.reg .bbc, .reg .trc, .trc, .mf, .mem] t) ∧
  (∀ s k one two acked, k < 4 → s.on F.MF_STAT_CONFIGURED k = true → s.p33Is k .enabled = true →
    (s.mf.at k).halts.contains 4 = false → s.traceOn = true → s.fld F.TRC_EXP_DEST 0 = k + 1 → s.trc.placed = none →
    (s.nextTransfer (restrictedTo k) (s.epHalf k 4)).bytes = [] →
    (s.nextTransfer (restrictedTo k) (s.epHalf k 4)).next = s.trc.rd →
    Completes (.ep4TransferAck k one two acked) s fun t =>
      (t.mf.at k).answer = .nak ∧ t.trc = s.trc ∧ s.OnlyIn [.reg .bbc, .reg .trc, .mf] t) ∧
  (∀ s k one two acked, k < 4 → s.on F.MF_STAT_CONFIGURED k = true → s.p33Is k .enabled = true →
    (s.mf.at k).halts.contains 4 = false → ((s.traceOn = false ∨ s.fld F.TRC_EXP_DEST 0 ≠ k + 1)) →
    Completes (.ep4TransferAck k one two acked) s fun t =>
      (t.mf.at k).answer = .nak ∧ t.trc = s.trc ∧ s.OnlyIn [.mf] t) ∧
  (∀ s k one two acked, k < 4 → s.on F.MF_STAT_CONFIGURED k = true → s.p33Is k .enabled = true →
    (s.mf.at k).halts.contains 4 = true →
    Completes (.ep4TransferAck k one two acked) s fun t =>
      (t.mf.at k).answer = .stall ∧ t.trc = s.trc ∧ s.OnlyIn [.mf] t)

/-- The fault collector (R401, R404, R405, R407, R408, R412). -/
def Obligations.FaultEventCommands : Prop :=
  (∀ s (e : Raised) (r : List Raised), s.fc.raised = e :: r → s.fcEvaluated e.id = true → s.fcExpected e.id = false →
    s.fcReact e.id ≠ 6 → (s.fcAt e.id).st ≠ .fault → s.fcN e.id ≤ (s.fcAt e.id).count + 1 →
    Completes .faultEvent s fun t =>
      (t.fcAt e.id).st = .fault ∧ (t.fcAt e.id).count = (s.fcAt e.id).count + 1 ∧ t.fld F.FC_SUM_LASTSEV 0 = e.id
        ∧ t.pends 20 = true ∧ t.fld F.FC_CNT0_EVENTS 0 = (s.fld F.FC_CNT0_EVENTS 0 + 1) % 2 ^ 16
        ∧ (t.fcAt e.id).events = (s.fcAt e.id).events + 1 ∧ t.pends 21 = true ∧ (s.fcReact e.id = 0 → t.fc.raised = r)) ∧
  (∀ s (e : Raised) (r : List Raised), s.fc.raised = e :: r → s.fcEvaluated e.id = true → s.fcExpected e.id = false →
    (s.fcAt e.id).st ≠ .fault → (s.fcAt e.id).count + 1 < s.fcN e.id →
    Completes .faultEvent s fun t =>
      (t.fcAt e.id).st = .minor ∧ (t.fcAt e.id).count = (s.fcAt e.id).count + 1
        ∧ t.fld F.FC_CNT0_EVENTS 0 = (s.fld F.FC_CNT0_EVENTS 0 + 1) % 2 ^ 16
        ∧ (t.fcAt e.id).events = (s.fcAt e.id).events + 1 ∧ t.pends 21 = true ∧ (s.fcReact e.id = 0 → t.fc.raised = r)) ∧
  (∀ s (e : Raised) (r : List Raised), s.fc.raised = e :: r → s.fcEvaluated e.id = true → s.fcExpected e.id = false →
    (s.fcAt e.id).st = .fault →
    Completes .faultEvent s fun t =>
      (t.fcAt e.id).st = .fault ∧ (t.fcAt e.id).count = (s.fcAt e.id).count
        ∧ t.fld F.FC_CNT0_EVENTS 0 = (s.fld F.FC_CNT0_EVENTS 0 + 1) % 2 ^ 16
        ∧ (t.fcAt e.id).events = (s.fcAt e.id).events + 1 ∧ t.pends 21 = true ∧ (s.fcReact e.id = 0 → t.fc.raised = r)) ∧
  (∀ s (e : Raised) (r : List Raised), s.fc.raised = e :: r → s.fcEvaluated e.id = true → s.fcExpected e.id = true →
    Completes .faultEvent s fun t =>
      (t.fcAt e.id).st = (s.fcAt e.id).st ∧ (t.fcAt e.id).count = (s.fcAt e.id).count
        ∧ t.fld F.FC_CNT1_EXPECTED 0 = (s.fld F.FC_CNT1_EXPECTED 0 + 1) % 2 ^ 16
        ∧ (t.fcAt e.id).events = (s.fcAt e.id).events + 1 ∧ t.fc.raised = r) ∧
  (∀ s (e : Raised) (r : List Raised), s.fc.raised = e :: r → s.fcEvaluated e.id = true → s.fcExpected e.id = false →
    s.fcReact e.id = 6 → (s.fcAt e.id).st ≠ .fault → s.fcN e.id ≤ (s.fcAt e.id).count + 1 → s.power.boot = .firmware →
    Completes .faultEvent s fun t =>
      t.fld F.PMU_RESET_CAUSE_CAUSE 0 = 9
        ∧ (t.power.boot = if s.bootSupplied && s.power.rstN && !s.power.sample && !s.power.hot then (if s.power.testEn || !diesValid s.power.dies then .halted else .rom) else .off)) ∧
  (∀ s id, (s.fcAt id).st = .minor →
    Completes (.faultWindowClose id) s fun t =>
      (t.fcAt id).st = .ok ∧ (t.fcAt id).count = 0 ∧ s.OnlyIn [.fc] t) ∧
  (∀ s id, s.fcEvaluated id = true → (s.fcAt id).wire = false → s.fcReact id ≠ 6 →
    Completes (.wireFault id) s fun t =>
      (t.fcAt id).wire = true ∧ t.fld F.FC_CNT1_WIREFAULTS 0 = (s.fld F.FC_CNT1_WIREFAULTS 0 + 1) % 2 ^ 16
        ∧ t.pends 22 = true ∧ (t.fcAt id).events = (s.fcAt id).events + 1) ∧
  (∀ s id, (s.fcAt id).wire = true →
    Completes (.wireFaultEnd id) s fun t =>
      (t.fcAt id).wire = false ∧ (t.fcAt id).st = (s.fcAt id).st ∧ s.OnlyIn [.fc] t) ∧
  (∀ s id coincides, id < 65536 → coincides = false → fcDefined id = false →
    Completes (.fcClr id coincides) s fun t =>
      t.fld F.FC_RESULT_RESULT 0 = 3 ∧ (t.fcAt id).st = (s.fcAt id).st ∧ t.fld F.FC_RESULT_ID 0 = id) ∧
  (∀ s id coincides, id < 65536 → coincides = false → fcDefined id = true → s.fcLive id = false →
    Completes (.fcClr id coincides) s fun t =>
      t.fld F.FC_RESULT_RESULT 0 = 2 ∧ t.fld F.FC_CNT2_CLRREFUSE 0 = (s.fld F.FC_CNT2_CLRREFUSE 0 + 1) % 2 ^ 16
        ∧ (t.fcAt id).st = (s.fcAt id).st ∧ t.fld F.FC_RESULT_ID 0 = id) ∧
  (∀ s id coincides, id < 65536 → coincides = false → fcDefined id = true → s.fcLive id = true → s.fcCause id = true →
    Completes (.fcClr id coincides) s fun t =>
      t.fld F.FC_RESULT_RESULT 0 = 1 ∧ t.fld F.FC_CNT2_CLRREFUSE 0 = (s.fld F.FC_CNT2_CLRREFUSE 0 + 1) % 2 ^ 16
        ∧ (t.fcAt id).st = (s.fcAt id).st ∧ t.pends 21 = true ∧ t.fld F.FC_RESULT_ID 0 = id) ∧
  (∀ s id coincides, id < 65536 → coincides = false → fcDefined id = true → s.fcLive id = true → s.fcCause id = false →
    Completes (.fcClr id coincides) s fun t =>
      t.fld F.FC_RESULT_RESULT 0 = 0 ∧ (t.fcAt id).st = .ok ∧ (t.fcAt id).count = 0 ∧ t.fld F.FC_RESULT_ID 0 = id) ∧
  (∀ s id coincides, id < 65536 → coincides = true → s.fcEvaluated id = true →
    s.fc.raised.head?.any (fun e => decide (e.id = id)) = true → s.fcReact id ≠ 6 →
    Completes (.fcClr id coincides) s fun t =>
      t.fld F.FC_RESULT_RESULT 0 = 1 ∧ (t.fcAt id).events = (s.fcAt id).events + 1 ∧ t.pends 21 = true
        ∧ t.fld F.FC_RESULT_ID 0 = id)

/-- The fault collector (R406, R409, R411) and the event log (R413, R416, R417). -/
def Obligations.FaultSettingsAndLogCommands : Prop :=
  (∀ s id coincides, id < 65536 → fcDefined id = false →
    Completes (.fcInjEvent id coincides) s fun t =>
      t.fld F.FC_RESULT_RESULT 0 = 3 ∧ t.fld F.FC_RESULT_ID 0 = id ∧ t.fc = s.fc) ∧
  (∀ s id coincides, id < 65536 → fcDefined id = true → s.fcEvaluated id = false →
    Completes (.fcInjEvent id coincides) s fun t =>
      t.fld F.FC_RESULT_RESULT 0 = 4 ∧ t.fld F.FC_RESULT_ID 0 = id ∧ t.fc = s.fc) ∧
  (∀ s id coincides, id < 65536 → s.fcEvaluated id = true → s.fcReact id ≠ 6 →
    Completes (.fcInjEvent id coincides) s fun t =>
      t.fld F.FC_RESULT_RESULT 0 = 0 ∧ (t.fcAt id).injected = (s.fcAt id).injected + 1
        ∧ t.fld F.FC_CNT0_INJECTED 0 = (s.fld F.FC_CNT0_INJECTED 0 + 1) % 2 ^ 16) ∧
  (∀ s id, id < 65536 → fcDefined id = false →
    Completes (.fcInjWire id) s fun t =>
      t.fld F.FC_RESULT_RESULT 0 = 3 ∧ t.fc = s.fc) ∧
  (∀ s id, id < 65536 → fcDefined id = true → s.fcEvaluated id = false →
    Completes (.fcInjWire id) s fun t =>
      t.fld F.FC_RESULT_RESULT 0 = 4 ∧ t.fc = s.fc) ∧
  (∀ s id, id < 65536 → s.fcEvaluated id = true → s.fcReact id ≠ 6 →
    Completes (.fcInjWire id) s fun t =>
      (t.fcAt id).wire = true ∧ t.fld F.FC_RESULT_RESULT 0 = 0 ∧ (t.fcAt id).injected = (s.fcAt id).injected + 1
        ∧ ((s.fcAt id).wire = false → t.fld F.FC_CNT1_WIREFAULTS 0 = (s.fld F.FC_CNT1_WIREFAULTS 0 + 1) % 2 ^ 16)) ∧
  (∀ s n w react inj, s.on F.FC_SEL_ALL 0 = false → fcDefined (s.fld F.FC_SEL_ID 0) = false →
    Completes (.fcScfgWrite n w react inj) s fun t =>
      t = s ∧ s.OnlyIn [.fc] t) ∧
  (∀ s n w react inj, s.on F.FC_SEL_ALL 0 = false → fcDefined (s.fld F.FC_SEL_ID 0) = true →
    fcLocked (s.fld F.FC_SEL_ID 0) = true →
    Completes (.fcScfgWrite n w react inj) s fun t =>
      t.fcN (s.fld F.FC_SEL_ID 0) = 1 ∧ t.fcReact (s.fld F.FC_SEL_ID 0) = 6
        ∧ ((s.fcAt (s.fld F.FC_SEL_ID 0)).st ≠ .fault → (t.fcAt (s.fld F.FC_SEL_ID 0)).injCount = inj)
        ∧ s.OnlyIn [.fc] t) ∧
  (∀ s n w react inj, s.on F.FC_SEL_ALL 0 = false → fcDefined (s.fld F.FC_SEL_ID 0) = true →
    fcLocked (s.fld F.FC_SEL_ID 0) = false → (s.fcAt (s.fld F.FC_SEL_ID 0)).st ≠ .fault →
    Completes (.fcScfgWrite n w react inj) s fun t =>
      t.fcN (s.fld F.FC_SEL_ID 0) = max 1 (n % 256) ∧ t.fcWindow (s.fld F.FC_SEL_ID 0) = max 1 (w % 65536)
        ∧ t.fcReact (s.fld F.FC_SEL_ID 0) = react % 8 ∧ (t.fcAt (s.fld F.FC_SEL_ID 0)).injCount = inj
        ∧ (t.fcAt (s.fld F.FC_SEL_ID 0)).st = .ok ∧ s.OnlyIn [.fc] t) ∧
  (∀ s n w react inj, s.on F.FC_SEL_ALL 0 = false → fcDefined (s.fld F.FC_SEL_ID 0) = true →
    fcLocked (s.fld F.FC_SEL_ID 0) = false → (s.fcAt (s.fld F.FC_SEL_ID 0)).st = .fault →
    Completes (.fcScfgWrite n w react inj) s fun t =>
      t.fcN (s.fld F.FC_SEL_ID 0) = s.fcN (s.fld F.FC_SEL_ID 0) ∧ (t.fcAt (s.fld F.FC_SEL_ID 0)).st = .fault
        ∧ (t.fcAt (s.fld F.FC_SEL_ID 0)).next = some (max 1 (n % 256), max 1 (w % 65536), react % 8, inj)
        ∧ s.OnlyIn [.fc] t) ∧
  (∀ s n w react inj (j : Nat), s.on F.FC_SEL_ALL 0 = true → fcIdx (s.fld F.FC_SEL_ID 0) < 8 → j < 8 →
    fcDefined ((s.fld F.FC_SEL_ID 0) - fcIdx (s.fld F.FC_SEL_ID 0) + j) = true →
    fcLocked ((s.fld F.FC_SEL_ID 0) - fcIdx (s.fld F.FC_SEL_ID 0) + j) = false →
    (s.fcAt ((s.fld F.FC_SEL_ID 0) - fcIdx (s.fld F.FC_SEL_ID 0) + j)).st ≠ .fault →
    Completes (.fcScfgWrite n w react inj) s fun t =>
      t.fcN ((s.fld F.FC_SEL_ID 0) - fcIdx (s.fld F.FC_SEL_ID 0) + j) = max 1 (n % 256)
        ∧ t.fcWindow ((s.fld F.FC_SEL_ID 0) - fcIdx (s.fld F.FC_SEL_ID 0) + j) = max 1 (w % 65536)
        ∧ t.fcReact ((s.fld F.FC_SEL_ID 0) - fcIdx (s.fld F.FC_SEL_ID 0) + j) = react % 8 ∧ s.OnlyIn [.fc] t) ∧
  (∀ s, s.on F.FC_ST_BUSY 0 = false →
    Completes .fcSelftestGo s fun t =>
      t.on F.FC_ST_BUSY 0 = true ∧ t.fld F.FC_ST_RESULT 0 = 0 ∧ t.fld F.FC_ST_FAILID 0 = 0 ∧ s.OnlyIn [.reg .fc] t) ∧
  (∀ s failed, s.on F.FC_ST_BUSY 0 = true → failed = [] →
    Completes (.fcSelftestEnd failed) s fun t =>
      t.on F.FC_ST_BUSY 0 = false ∧ t.fld F.FC_ST_RESULT 0 = 1 ∧ t.fc = s.fc) ∧
  (∀ s failed (id : Nat), s.on F.FC_ST_BUSY 0 = true → id ∈ failed → id ∈ fcAll → s.fcEvaluated id = true →
    Completes (.fcSelftestEnd failed) s fun t =>
      t.on F.FC_ST_BUSY 0 = false ∧ t.fld F.FC_ST_RESULT 0 = 2) ∧
  (∀ s (r : LogRec) (q : List LogRec), s.log.queue = r :: q → s.on F.LOG_CFG_EN 0 = true →
    Completes .logRecordWrite s fun t =>
      t.readBytes (logAddr (s.fld F.LOG_WR_SEQ 0)) 32 = (r.bytes (s.fld F.LOG_WR_SEQ 0) s.log.loss).map (· % 256)
        ∧ t.fld F.LOG_WR_SEQ 0 = (s.fld F.LOG_WR_SEQ 0 + 1) % 2 ^ 32 ∧ t.log.queue = q ∧ t.log.loss = false
        ∧ (∀ a, (a < logAddr (s.fld F.LOG_WR_SEQ 0) ∨ logAddr (s.fld F.LOG_WR_SEQ 0) + 32 ≤ a) →
          readByte t.mem a = readByte s.mem a)) ∧
  (∀ s, s.log.queue.length < 64 →
    Completes .logSubmit s fun t =>
      t.log.queue.length = s.log.queue.length + 1
        ∧ t.fld F.LOG_CNT_SUBMITS 0 = (s.fld F.LOG_CNT_SUBMITS 0 + 1) % 2 ^ 16
        ∧ (s.on F.LOG_CFG_EN 0 = false → t.log.ahead = s.log.ahead + 1) ∧ t.mem = s.mem) ∧
  (∀ s a, 0x20000000 ≤ a → (a < 0x20087000 ∨ (0x200C7000 ≤ a ∧ a < 0x200F8000)) →
    Completes (.sramUncorrectable a) s fun t =>
      t.pends 25 = true
        ∧ (t.fc.raised = if (s.fcAt (quinceSource 0x34 0)).wire then s.fc.raised else s.fc.raised ++ [⟨quinceSource 0x34 0, a, 0⟩]))

/-- Interrupts (R385, R387, R388, R391), timers and watchdogs (R396). -/
def Obligations.InterruptAndWatchdogCommands : Prop :=
  (∀ s n pins, 0 < n → n < 184 → ((n < 176 ∨ 180 ≤ n ∨ s.bit F.PMU_RAILSTAT_VIO_OK 0 4 = true)) →
    Completes (.interruptEdge n pins) s fun t =>
      t.pends n = true ∧ t.power.gpio = pins % 256 ∧ (∀ m, m ≠ n → m < 256 → t.pends m = s.pends m)) ∧
  (∀ s n pins, 176 ≤ n → n < 180 → s.bit F.PMU_RAILSTAT_VIO_OK 0 4 = false →
    Completes (.interruptEdge n pins) s fun t =>
      t.power.gpio = pins % 256 ∧ t.pends n = s.pends n ∧ s.OnlyIn [.power] t) ∧
  (∀ s c pc mie, s.coreRuns c = true → (mie = true ∨ s.on F.IC_LVL_WFI c = true) → (s.cores.at c).traps.length < 16 →
    (s.put F.IC_LVL_WFI c false).entryLevel c = 0 →
    Completes (.interruptEntry c pc mie) s fun t =>
      (t.cores.at c).mepc = pc ∧ (t.cores.at c).mcause = 0x8000000B
        ∧ (t.cores.at c).traps = ((s.cores.at c).mepc, (s.cores.at c).mcause, (s.cores.at c).mpie) :: (s.cores.at c).traps
        ∧ t.on F.IC_LVL_WFI c = false ∧ t.on F.IC_LVL_NULL c = true
        ∧ t.fld F.IC_CNT_NULLENT c = (s.fld F.IC_CNT_NULLENT c + 1) % 2 ^ 16
        ∧ t.fld F.IC_LVL_CURLVL c = s.fld F.IC_LVL_CURLVL c) ∧
  (∀ s c pc mie, s.coreRuns c = true → (mie = true ∨ s.on F.IC_LVL_WFI c = true) → (s.cores.at c).traps.length < 16 →
    (s.put F.IC_LVL_WFI c false).entryLevel c ≠ 0 →
    Completes (.interruptEntry c pc mie) s fun t =>
      (t.cores.at c).mepc = pc ∧ (t.cores.at c).mcause = 0x8000000B
        ∧ (t.cores.at c).traps = ((s.cores.at c).mepc, (s.cores.at c).mcause, (s.cores.at c).mpie) :: (s.cores.at c).traps
        ∧ t.on F.IC_LVL_WFI c = false ∧ t.fld F.IC_LVL_CURLVL c = (s.put F.IC_LVL_WFI c false).entryLevel c % 2 ^ 4
        ∧ (t.cores.at c).levels = s.fld F.IC_LVL_CURLVL c :: (s.cores.at c).levels ∧ t.on F.IC_LVL_NULL c = false) ∧
  (∀ s c pc mie, s.coreRuns c = true → (mie = true ∨ s.on F.IC_LVL_WFI c = true) → 16 ≤ (s.cores.at c).traps.length →
    Completes (.interruptEntry c pc mie) s fun t =>
      (t.cores.at c).stage = .halted ∧ (t.cores.at c).traps = (s.cores.at c).traps) ∧
  (∀ s c level (top : Nat) (rest : List Nat), c ≤ 4 → (s.cores.at c).levels = top :: rest →
    s.fld F.IC_LVL_CURLVL c = level % 16 →
    Completes (.icComplete c level) s fun t =>
      t.fld F.IC_LVL_CURLVL c = top % 2 ^ 4 ∧ (t.cores.at c).levels = rest) ∧
  (∀ s c level (top : Nat) (rest : List Nat), c ≤ 4 → (s.cores.at c).levels = top :: rest →
    s.fld F.IC_LVL_CURLVL c ≠ level % 16 →
    Completes (.icComplete c level) s fun t =>
      t.fld F.IC_LVL_CURLVL c = s.fld F.IC_LVL_CURLVL c ∧ (t.cores.at c).levels = top :: rest
        ∧ t.fld F.IC_CNT_STKERR c = (s.fld F.IC_CNT_STKERR c + 1) % 2 ^ 16) ∧
  (∀ s c level, c ≤ 4 → (s.cores.at c).levels = [] →
    Completes (.icComplete c level) s fun t =>
      (t.cores.at c).levels = [] ∧ t.fld F.IC_CNT_STKERR c = (s.fld F.IC_CNT_STKERR c + 1) % 2 ^ 16) ∧
  (∀ s n wfi, n < 256 → s.irqPending n = true → wfi = false →
    Completes (.moderationExpiry n wfi) s fun t =>
      t.hw.ready.contains n = true ∧ s.OnlyIn [.hw] t) ∧
  (∀ s n wfi, n < 256 → s.irqPending n = true → wfi = true → s.coreRuns (s.fld F.IC_SRC_TARGET n) = true →
    Completes (.moderationExpiry n wfi) s fun t =>
      t.on F.IC_LVL_WFI (s.fld F.IC_SRC_TARGET n) = true ∧ s.OnlyIn [.reg .ic] t) ∧
  (∀ s c count, c ≤ 4 →
    Completes (.icTimerWrite c count) s fun t =>
      t.fld F.IC_TIMER_COUNT c = count % 2 ^ 32 ∧ s.OnlyIn [.reg .ic] t) ∧
  (∀ s c, c ≤ 4 → s.fld F.IC_TIMER_COUNT c ≠ 0 →
    Completes (.icTimerZero c) s fun t =>
      t.fld F.IC_TIMER_COUNT c = 0 ∧ t.pends (162 + c) = true) ∧
  (∀ s c, c ≤ 4 → s.fld F.IC_CORECTL_WDTMO c ≠ 0 →
    Completes (.icKick c) s fun t =>
      t.fld F.IC_KICK_REMAIN c = s.fld F.IC_CORECTL_WDTMO c % 2 ^ 16 ∧ (t.cores.at c).watch = true
        ∧ s.OnlyIn [.reg .ic, .cores] t) ∧
  (∀ s c, s.fld F.IC_CORECTL_WDTMO c = 0 →
    Completes (.icKick c) s fun t =>
      t = s) ∧
  (∀ s c, c ≤ 4 → (s.cores.at c).watch = true →
    Completes (.watchdogHalf c) s fun t =>
      t.pends (167 + c) = true ∧ t.fld F.IC_KICK_REMAIN c = s.fld F.IC_CORECTL_WDTMO c / 2 % 2 ^ 16) ∧
  (∀ s c, c = 0 → (s.cores.at 0).watch = true → s.power.boot = .firmware →
    Completes (.watchdogExpiry c) s fun t =>
      t.fld F.PMU_RESET_CAUSE_CAUSE 0 = 8
        ∧ (t.power.boot = if s.bootSupplied && s.power.rstN && !s.power.sample && !s.power.hot then (if s.power.testEn || !diesValid s.power.dies then .halted else .rom) else .off)) ∧
  (∀ s c, c ≠ 0 → c ≤ 4 → (s.cores.at c).watch = true →
    Completes (.watchdogExpiry c) s fun t =>
      (t.cores.at c).stage = .off ∧ (t.cores.at c).watch = false ∧ t.on F.IC_CORECTL_RUNNING c = false
        ∧ t.on F.IC_CORECTL_RESET c = true)

/-- Traps (R374), reset and images (R379 to R383). -/
def Obligations.CoreAndImageCommands : Prop :=
  (∀ s c, s.coreRuns c = true → 16 ≤ (s.cores.at c).traps.length →
    Completes (.trapStackOverflow c) s fun t =>
      (t.cores.at c).stage = .halted ∧ t.coreRuns c = false) ∧
  (∀ s c pc cause mie, s.coreRuns c = true → (s.cores.at c).traps.length < 16 →
    Completes (.synchronousException c pc cause mie) s fun t =>
      t.cores.at c = { (s.cores.at c) with traps := ((s.cores.at c).mepc, (s.cores.at c).mcause, (s.cores.at c).mpie) :: (s.cores.at c).traps, mepc := pc, mcause := cause, mpie := mie, mie := false }
        ∧ s.OnlyIn [.cores] t) ∧
  (∀ s c pc cause mie, s.coreRuns c = true → 16 ≤ (s.cores.at c).traps.length →
    Completes (.synchronousException c pc cause mie) s fun t =>
      (t.cores.at c).stage = .halted ∧ (t.cores.at c).traps = (s.cores.at c).traps) ∧
  (∀ s c (pc0 : Nat) (cause0 : Nat) (old : Bool), s.coreRuns c = true →
    (s.cores.at c).traps.head? = some (pc0, cause0, old) →
    Completes (.mret c) s fun t =>
      t.cores.at c = { (s.cores.at c) with mie := (s.cores.at c).mpie, traps := (s.cores.at c).traps.tail, mepc := pc0, mcause := cause0, mpie := old }
        ∧ s.OnlyIn [.cores] t) ∧
  (∀ s c pc a fetch mie, s.coreRuns c = true → (s.cores.at c).traps.length < 16 →
    Completes (.tcmUncorrectable c pc a fetch mie) s fun t =>
      (t.cores.at c).mepc = pc ∧ ((t.cores.at c).mcause = if fetch then 1 else 5)
        ∧ (t.cores.at c).traps = ((s.cores.at c).mepc, (s.cores.at c).mcause, (s.cores.at c).mpie) :: (s.cores.at c).traps
        ∧ ((s.fcAt (quinceSource 0x38 c)).wire = false → t.fc.raised = s.fc.raised ++ [⟨quinceSource 0x38 c, a, 0⟩])) ∧
  (∀ s c pc a fetch mie, s.coreRuns c = true → 16 ≤ (s.cores.at c).traps.length →
    Completes (.tcmUncorrectable c pc a fetch mie) s fun t =>
      (t.cores.at c).stage = .halted ∧ (t.cores.at c).traps = (s.cores.at c).traps) ∧
  (∀ s c hold, 1 ≤ c → c ≤ 4 → hold = true →
    Completes (.corectlResetWrite c hold) s fun t =>
      (t.cores.at c).stage = .off ∧ t.on F.IC_CORECTL_RESET c = true ∧ t.on F.IC_CORECTL_RUNNING c = false) ∧
  (∀ s c hold, 1 ≤ c → c ≤ 4 → hold = false → s.on F.IC_CORECTL_RESET c = true → s.domOn Dom.service = true →
    s.domChanging Dom.service = false →
    Completes (.corectlResetWrite c hold) s fun t =>
      (t.cores.at c).stage = .loading ∧ t.on F.IC_CORECTL_RESET c = false ∧ t.on F.IC_CORECTL_RUNNING c = true
        ∧ s.OnlyIn [.reg .ic, .cores] t) ∧
  (∀ s c hold, c = 0 →
    Completes (.corectlResetWrite c hold) s fun t =>
      t = s) ∧
  (∀ s c why, 1 ≤ c → c ≤ 4 →
    Completes (.serviceCoreReset c why) s fun t =>
      (t.cores.at c).stage = .off ∧ (t.cores.at c).traps = [] ∧ (t.cores.at c).levels = []
        ∧ t.on F.IC_CORECTL_RUNNING c = false ∧ t.on F.IC_CORECTL_RESET c = true ∧ t.fld F.IC_TIMER_COUNT c = 0
        ∧ t.word (descriptor c) = 0 ∧ t.word (descriptor c + 16) = 0
        ∧ (∀ a, (a < descriptor c ∨ descriptor c + 20 ≤ a) → readByte t.mem a = readByte s.mem a)) ∧
  (∀ s c, 1 ≤ c → c ≤ 4 → s.firmware = true → s.domOn Dom.service = true → s.domChanging Dom.service = false →
    (s.cores.at c).stage = .off → (s.cores.at c).selected = 0 →
    (s.power.broughtUp = true ∨ overlapApplied s (s.imageLoaded c) = false) →
    Completes (.policyImageLoad c) s fun t =>
      (t.cores.at c).stage = (if s.checkImage 0 c = 0 then .loading else .off)
        ∧ (t.cores.at c).checked = (if s.checkImage 0 c = 0 then 0 else 8)
        ∧ t.on F.IC_CORECTL_RESET c = !decide (s.checkImage 0 c = 0) ∧ (t.cores.at c).reloaded = false
        ∧ (s.checkImage 0 c = 0 → t.word (descriptor c) = 0x53544152 ∧ t.word (descriptor c + 16) = 1)) ∧
  (∀ s c, 1 ≤ c → c ≤ 4 → s.firmware = true → s.domOn Dom.service = true → s.domChanging Dom.service = false →
    (s.cores.at c).stage = .off → (s.cores.at c).selected ≠ 0 →
    (s.power.broughtUp = true ∨ overlapApplied s (s.imageLoaded c) = false) →
    Completes (.policyImageLoad c) s fun t =>
      ((t.cores.at c).stage = (if s.checkImage (s.cores.at c).selected c = 0 ∨ s.checkImage 0 c = 0 then .loading else .off))
        ∧ ((t.cores.at c).checked = (if s.checkImage (s.cores.at c).selected c = 0 then 0 else if s.checkImage 0 c = 0 then s.checkImage (s.cores.at c).selected c else 8))
        ∧ (t.cores.at c).reloaded = false
        ∧ (s.checkImage (s.cores.at c).selected c = 0 → (t.cores.at c).image = (s.cores.at c).selected)
        ∧ (s.checkImage (s.cores.at c).selected c ≠ 0 → s.checkImage 0 c = 0 → (t.cores.at c).image = 0)) ∧
  (∀ s c, 1 ≤ c → c ≤ 4 → s.coreRuns c = true → (s.cores.at c).stage = .loading → s.descriptorOk c = true →
    s.word (descriptor c + 16) = 1 → (s.power.broughtUp = true ∨ overlapApplied s (s.loaderGone c) = false) →
    Completes (.loaderGo c) s fun t =>
      (t.cores.at c).stage = .running ∧ (t.cores.at c).mie = false
        ∧ t.readBytes (tcmAddr c 0) (s.word (descriptor c + 8)) = s.readBytes 0x20000000 (s.word (descriptor c + 8))
        ∧ (∀ a, (a < tcmAddr c 0 ∨ tcmAddr c 0 + s.word (descriptor c + 8) ≤ a) → readByte t.mem a = readByte s.mem a)) ∧
  (∀ s c, 1 ≤ c → c ≤ 4 → s.coreRuns c = true → (s.cores.at c).stage = .loading → s.descriptorOk c = false →
    (((s.cores.at c).reloaded = true ∨ s.firmware = false)) →
    (s.power.broughtUp = true ∨ overlapApplied s (s.loaderHalted c) = false) →
    Completes (.loaderHalt c) s fun t =>
      (t.cores.at c).stage = .halted ∧ (t.cores.at c).reloaded = true) ∧
  (∀ s c, 1 ≤ c → c ≤ 4 → s.coreRuns c = true → (s.cores.at c).stage = .loading → s.descriptorOk c = false →
    (s.cores.at c).reloaded = false → s.firmware = true →
    (s.power.broughtUp = true ∨ overlapApplied s (s.loaderHalted c) = false) →
    Completes (.loaderHalt c) s fun t =>
      (t.cores.at c).reloaded = true ∧ (t.cores.at c).stage = (if s.checkImage 0 c = 0 then .loading else .off)
        ∧ (s.checkImage 0 c = 0 → (t.cores.at c).image = 0))

/-- DMA (R397), the QSPI host (R399), the NVM controller (R427, R428) and the calibration commit (R422). -/
def Obligations.DmaFlashNvmAndCalibrationCommands : Prop :=
  (∀ s d, d < 4 → s.on F.SYS_DMASTAT_BUSY d = true →
    Completes (.dmaGo d) s fun t =>
      t.fld F.SYS_DMACNT1_IGNORED d = (s.fld F.SYS_DMACNT1_IGNORED d + 1) % 2 ^ 16 ∧ t.on F.SYS_DMASTAT_BUSY d = true
        ∧ t.hw = s.hw ∧ s.OnlyIn [.reg .sys] t) ∧
  (∀ s d, d < 4 → s.on F.SYS_DMASTAT_BUSY d = false →
    Completes (.dmaGo d) s fun t =>
      t.on F.SYS_DMASTAT_BUSY d = true ∧ t.fld F.SYS_DMASTAT_REMAIN d = max 1 (s.fld F.SYS_DMALEN_WORDS d) % 2 ^ 24
        ∧ t.dmaAt d = ⟨4 * s.fld F.SYS_DMASRC_ADDR d, 4 * s.fld F.SYS_DMADST_ADDR d, false⟩
        ∧ s.OnlyIn [.reg .sys, .hw] t) ∧
  (∀ s d words, d < 4 → s.on F.SYS_DMASTAT_BUSY d = true → words = 0 → s.on F.SYS_DMASTAT_FROZEN d = false →
    Completes (.dmaStop d words) s fun t =>
      t.on F.SYS_DMASTAT_BUSY d = false ∧ t.fld F.SYS_DMACNT0_STOPS d = (s.fld F.SYS_DMACNT0_STOPS d + 1) % 2 ^ 16
        ∧ t.pends (172 + d) = true) ∧
  (∀ s d (src : Nat) (dst : Nat), d < 4 → s.on F.SYS_DMASTAT_BUSY d = true → s.on F.SYS_DMASTAT_FROZEN d = false →
    s.fld F.SYS_DMASTAT_REMAIN d = 1 → s.dmaAt d = ⟨src, dst, false⟩ → 0x20000000 ≤ src → src < 0x20040000 →
    0x20000000 ≤ dst → dst < 0x20040000 → s.violates (5 + d) src 4 .load = 0 → s.violates (5 + d) dst 4 .store = 0 →
    s.openCopy d 1 = 0 →
    Completes (.dmaEnd d) s fun t =>
      t.on F.SYS_DMASTAT_BUSY d = false ∧ t.fld F.SYS_DMASTAT_REMAIN d = 0
        ∧ t.fld F.SYS_DMACNT0_DONE d = (s.fld F.SYS_DMACNT0_DONE d + 1) % 2 ^ 16 ∧ t.pends (172 + d) = true
        ∧ t.word dst = s.word src ∧ (∀ a, (a < dst ∨ dst + 4 ≤ a) → readByte t.mem a = readByte s.mem a)) ∧
  (∀ s d (src : Nat) (dst : Nat), d < 4 → s.on F.SYS_DMASTAT_BUSY d = true → s.on F.SYS_DMASTAT_FROZEN d = false →
    s.fld F.SYS_DMASTAT_REMAIN d ≠ 0 → s.dmaAt d = ⟨src, dst, false⟩ → s.violates (5 + d) src 4 .load ≠ 0 →
    s.bit F.MPU_FREEZE_FROZEN 0 (5 + d) = false →
    Completes (.dmaEnd d) s fun t =>
      t.bit F.MPU_FREEZE_FROZEN 0 (5 + d) = true ∧ t.on F.SYS_DMASTAT_FROZEN d = true
        ∧ t.on F.SYS_DMASTAT_BUSY d = true ∧ t.mem = s.mem) ∧
  (∀ s, s.fld F.QSPI_HLEN_VALUE 0 ≠ 0 →
    Completes .qspiHashStart s fun t =>
      t.on F.QSPI_STAT_HBUSY 0 = true ∧ t.fld F.QSPI_HCTL_HRESULT 0 = 0
        ∧ t.hw.qspi.hashFrom = s.fld F.QSPI_HSTART_VALUE 0 ∧ t.hw.qspi.hashLen = s.fld F.QSPI_HLEN_VALUE 0) ∧
  (∀ s, s.fld F.QSPI_HLEN_VALUE 0 = 0 →
    Completes .qspiHashStart s fun t =>
      t.on F.QSPI_STAT_HBUSY 0 = false ∧ t.fld F.QSPI_HCTL_HRESULT 0 = 1 ∧ t.pends 27 = true) ∧
  (∀ s ok, s.on F.QSPI_STAT_HBUSY 0 = true →
    Completes (.qspiHashEnd ok) s fun t =>
      t.on F.QSPI_STAT_HBUSY 0 = false ∧ (t.fld F.QSPI_HCTL_HRESULT 0 = if ok then 1 else 2) ∧ t.pends 27 = true
        ∧ (ok = true →
          ∀ j ∈ List.range 8, t.fld F.QSPI_HASH_DIGEST j = Config.sha256 (toBytes (s.readBytes (flashAddr (s.fld F.QSPI_HSTART_VALUE 0)) (s.fld F.QSPI_HLEN_VALUE 0))) / 2 ^ (32 * j) % 2 ^ 32)) ∧
  (∀ s, s.on F.QSPI_STAT_OPBUSY 0 = false → s.fld F.QSPI_OPADDR_ADDR 0 / 4096 * 4096 + 4096 ≤ 2 ^ s.fld F.QSPI_STAT_SIZE 0 →
    Completes .qspiEraseSector s fun t =>
      t.on F.QSPI_STAT_OPBUSY 0 = true ∧ t.hw.qspi.op = 1 ∧ t.hw.qspi.addr = s.fld F.QSPI_OPADDR_ADDR 0 / 4096 * 4096
        ∧ t.hw.qspi.len = 4096 ∧ t.mem = s.mem) ∧
  (∀ s, s.on F.QSPI_STAT_OPBUSY 0 = false → 2 ^ s.fld F.QSPI_STAT_SIZE 0 < s.fld F.QSPI_OPADDR_ADDR 0 / 4096 * 4096 + 4096 →
    Completes .qspiEraseSector s fun t =>
      t.fld F.QSPI_OPRES_RESULT 0 = 3 ∧ t.fld F.QSPI_CNT_FAILS 0 = (s.fld F.QSPI_CNT_FAILS 0 + 1) % 2 ^ 16
        ∧ t.on F.QSPI_STAT_OPBUSY 0 = false ∧ t.pends 27 = true ∧ t.mem = s.mem) ∧
  (∀ s, s.on F.QSPI_STAT_OPBUSY 0 = false →
    s.fld F.QSPI_OPADDR_ADDR 0 / 65536 * 65536 + 65536 ≤ 2 ^ s.fld F.QSPI_STAT_SIZE 0 →
    Completes .qspiEraseBlock s fun t =>
      t.on F.QSPI_STAT_OPBUSY 0 = true ∧ t.hw.qspi.op = 2
        ∧ t.hw.qspi.addr = s.fld F.QSPI_OPADDR_ADDR 0 / 65536 * 65536 ∧ t.hw.qspi.len = 65536 ∧ t.mem = s.mem) ∧
  (∀ s, s.on F.QSPI_STAT_OPBUSY 0 = false →
    2 ^ s.fld F.QSPI_STAT_SIZE 0 < s.fld F.QSPI_OPADDR_ADDR 0 / 65536 * 65536 + 65536 →
    Completes .qspiEraseBlock s fun t =>
      t.fld F.QSPI_OPRES_RESULT 0 = 3 ∧ t.fld F.QSPI_CNT_FAILS 0 = (s.fld F.QSPI_CNT_FAILS 0 + 1) % 2 ^ 16
        ∧ t.on F.QSPI_STAT_OPBUSY 0 = false ∧ t.pends 27 = true ∧ t.mem = s.mem) ∧
  (∀ s, s.on F.QSPI_STAT_OPBUSY 0 = false → s.fld F.QSPI_OPADDR_ADDR 0 + s.qspiLen ≤ 2 ^ s.fld F.QSPI_STAT_SIZE 0 →
    s.fld F.QSPI_OPADDR_ADDR 0 % 256 + s.qspiLen ≤ 256 →
    Completes .qspiProgram s fun t =>
      t.on F.QSPI_STAT_OPBUSY 0 = true ∧ t.hw.qspi.op = 3 ∧ t.hw.qspi.addr = s.fld F.QSPI_OPADDR_ADDR 0
        ∧ t.hw.qspi.len = s.qspiLen ∧ t.mem = s.mem) ∧
  (∀ s, s.on F.QSPI_STAT_OPBUSY 0 = false →
    ((2 ^ s.fld F.QSPI_STAT_SIZE 0 < s.fld F.QSPI_OPADDR_ADDR 0 + s.qspiLen ∨ 256 < s.fld F.QSPI_OPADDR_ADDR 0 % 256 + s.qspiLen)) →
    Completes .qspiProgram s fun t =>
      t.fld F.QSPI_OPRES_RESULT 0 = 3 ∧ t.fld F.QSPI_CNT_FAILS 0 = (s.fld F.QSPI_CNT_FAILS 0 + 1) % 2 ^ 16
        ∧ t.on F.QSPI_STAT_OPBUSY 0 = false ∧ t.pends 27 = true ∧ t.mem = s.mem) ∧
  (∀ s good, s.on F.QSPI_STAT_OPBUSY 0 = true → s.hw.qspi.addr + s.hw.qspi.len ≤ 2 ^ 26 →
    Completes (.qspiOpEnd good) s fun t =>
      t.on F.QSPI_STAT_OPBUSY 0 = false ∧ t.pends 27 = true
        ∧ (good = false →
          t.fld F.QSPI_OPRES_RESULT 0 = 2 ∧ t.fld F.QSPI_CNT_FAILS 0 = (s.fld F.QSPI_CNT_FAILS 0 + 1) % 2 ^ 16)
        ∧ (good = true → s.hw.qspi.op ≠ 3 →
          t.fld F.QSPI_OPRES_RESULT 0 = 1 ∧ ∀ j < s.hw.qspi.len, t.byte (flashAddr s.hw.qspi.addr + j) = 0xFF)
        ∧ (good = true → s.hw.qspi.op = 3 →
          ∀ j < min 256 s.hw.qspi.len, t.byte (flashAddr s.hw.qspi.addr + j) = Nat.land (s.byte (flashAddr s.hw.qspi.addr + j)) (s.fld F.QSPI_PBUF_DATA (j / 4) / 256 ^ (j % 4) % 256))
        ∧ (∀ a, (a < flashAddr s.hw.qspi.addr ∨ flashAddr s.hw.qspi.addr + s.hw.qspi.len ≤ a) →
          readByte t.mem a = readByte s.mem a)) ∧
  (∀ s, s.on F.CAL_NVMSTAT_BUSY 0 = false → s.on F.CAL_STAT_COMMIT 0 = false → 16 ≤ s.fld F.CAL_NVMADDR_ROW 0 →
    Completes .nvmErase s fun t =>
      t.on F.CAL_NVMSTAT_BUSY 0 = true ∧ t.hw.nvm.op = 1 ∧ t.hw.nvm.row = s.fld F.CAL_NVMADDR_ROW 0 ∧ t.mem = s.mem) ∧
  (∀ s, s.on F.CAL_NVMSTAT_BUSY 0 = false → s.on F.CAL_STAT_COMMIT 0 = false → s.fld F.CAL_NVMADDR_ROW 0 < 16 →
    Completes .nvmErase s fun t =>
      t.fld F.CAL_NVMSTAT_RESULT 0 = 2 ∧ t.on F.CAL_NVMSTAT_BUSY 0 = false
        ∧ t.fld F.CAL_NVMCNT_FAILS 0 = (s.fld F.CAL_NVMCNT_FAILS 0 + 1) % 2 ^ 16 ∧ t.pends 28 = true ∧ t.mem = s.mem) ∧
  (∀ s, s.on F.CAL_NVMSTAT_BUSY 0 = false → s.on F.CAL_STAT_COMMIT 0 = false → 16 ≤ s.fld F.CAL_NVMADDR_ROW 0 →
    Completes .nvmProgram s fun t =>
      t.on F.CAL_NVMSTAT_BUSY 0 = true ∧ t.hw.nvm.op = 2 ∧ t.hw.nvm.row = s.fld F.CAL_NVMADDR_ROW 0 ∧ t.mem = s.mem) ∧
  (∀ s, s.on F.CAL_NVMSTAT_BUSY 0 = false → s.on F.CAL_STAT_COMMIT 0 = false → s.fld F.CAL_NVMADDR_ROW 0 < 16 →
    Completes .nvmProgram s fun t =>
      t.fld F.CAL_NVMSTAT_RESULT 0 = 2 ∧ t.on F.CAL_NVMSTAT_BUSY 0 = false
        ∧ t.fld F.CAL_NVMCNT_FAILS 0 = (s.fld F.CAL_NVMCNT_FAILS 0 + 1) % 2 ^ 16 ∧ t.pends 28 = true ∧ t.mem = s.mem) ∧
  (∀ s good, s.on F.CAL_NVMSTAT_BUSY 0 = true → 16 ≤ s.hw.nvm.row → s.hw.nvm.row < 2048 →
    Completes (.nvmOpEnd good) s fun t =>
      t.on F.CAL_NVMSTAT_BUSY 0 = false ∧ t.pends 28 = true
        ∧ (good = true → s.hw.nvm.op = 1 →
          t.fld F.CAL_NVMSTAT_RESULT 0 = 1
          ∧ ∀ j ∈ List.range 4096, t.byte (0x08000000 + s.hw.nvm.row / 16 * 4096 + j) = 0xFF)
        ∧ (good = true → s.hw.nvm.op ≠ 1 → s.hw.nvm.programmed.contains s.hw.nvm.row = true →
          t.fld F.CAL_NVMSTAT_RESULT 0 = 3 ∧ t.mem = s.mem)
        ∧ (good = true → s.hw.nvm.op ≠ 1 → s.hw.nvm.programmed.contains s.hw.nvm.row = false →
          ∀ j ∈ List.range 256, t.byte (0x08000000 + 256 * s.hw.nvm.row + j) = Nat.land (s.byte (0x08000000 + 256 * s.hw.nvm.row + j)) (s.fld F.CAL_NVMBUF_DATA (j / 4) / 256 ^ (j % 4) % 256))
        ∧ (good = false → t.fld F.CAL_NVMSTAT_RESULT 0 = 3)
        ∧ (∀ a, (a < 0x08000000 + s.hw.nvm.row / 16 * 4096 ∨ 0x08000000 + s.hw.nvm.row / 16 * 4096 + 4096 ≤ a) →
          readByte t.mem a = readByte s.mem a)) ∧
  (∀ s good, s.on F.CAL_STAT_COMMIT 0 = true →
    Completes (.calCommitEnd good) s fun t =>
      t.on F.CAL_STAT_COMMIT 0 = false ∧ t.pends 28 = true
        ∧ (good = true → s.hw.cal.commit.length = 1200 →
          t.readBytes calAddr 1200 = s.hw.cal.commit.map (· % 256) ∧ t.on F.CAL_STAT_LOADED 0 = true
          ∧ t.on F.CAL_STAT_NVMOK 0 = true ∧ t.fld F.CAL_NVMCNT_OPS 0 = (s.fld F.CAL_NVMCNT_OPS 0 + 6) % 2 ^ 16)
        ∧ (good = false →
          t.on F.CAL_STAT_NVMOK 0 = false ∧ t.fld F.CAL_NVMCNT_FAILS 0 = (s.fld F.CAL_NVMCNT_FAILS 0 + 1) % 2 ^ 16)
        ∧ (s.hw.cal.commit.length ≤ 4096 → ∀ a, (a < calAddr ∨ calAddr + 4096 ≤ a) → readByte t.mem a = readByte s.mem a))

/-- The board controller's targets (R431 to R433), local mailboxes (R435), and starting a frame (R430, R439). -/
def Obligations.MailboxChannelCommands : Prop :=
  (∀ s b, s.targetOn 0 = true → 16 ≤ b.length → b.length = 16 + rawLen b → (s.mbx.at 0).frames.length < 4 →
    Completes (.spiWrite b) s fun t =>
      (t.mbx.at 0).frames = (s.mbx.at 0).frames ++ [if 1024 < rawLen b then b.take 16 else b]
        ∧ (t.mbx.at 0).responses = (s.mbx.at 0).responses ∧ t.pends 29 = true
        ∧ t.fld F.TGT_CNT0_TRANS 0 = (s.fld F.TGT_CNT0_TRANS 0 + 1) % 2 ^ 16
        ∧ ((t.mbx.at 0).sent = b.map (fun _ => 0))) ∧
  (∀ s b, s.targetOn 0 = true → 16 ≤ b.length → b.length = 16 + rawLen b → 4 ≤ (s.mbx.at 0).frames.length →
    Completes (.spiWrite b) s fun t =>
      (t.mbx.at 0).frames = (s.mbx.at 0).frames
        ∧ (t.mbx.at 0).responses = (s.mbx.at 0).responses ++ (if (s.mbx.at 0).responses.length < 4 then [⟨half b 0, half b 2, 1, s.fld F.CHORD_STAT_ADDR 0, Status.busy, 0, []⟩] else [])
        ∧ t.fld F.MBX_CHCNT1_BUSYHW 0 = (s.fld F.MBX_CHCNT1_BUSYHW 0 + 1) % 2 ^ 16
        ∧ t.fld F.TGT_CNT0_TRANS 0 = (s.fld F.TGT_CNT0_TRANS 0 + 1) % 2 ^ 16
        ∧ ((t.mbx.at 0).sent = b.map (fun _ => 0))) ∧
  (∀ s b, s.targetOn 0 = true → ((b.length < 16 ∨ b.length ≠ 16 + rawLen b)) →
    Completes (.spiWrite b) s fun t =>
      t.fld F.TGT_CNT1_SHORTWR 0 = (s.fld F.TGT_CNT1_SHORTWR 0 + 1) % 2 ^ 16
        ∧ t.fld F.MBX_CHCNT0_CRCERR 0 = (s.fld F.MBX_CHCNT0_CRCERR 0 + 1) % 2 ^ 16
        ∧ (t.mbx.at 0).frames = (s.mbx.at 0).frames ∧ (t.mbx.at 0).responses = (s.mbx.at 0).responses
        ∧ t.fld F.TGT_CNT0_TRANS 0 = (s.fld F.TGT_CNT0_TRANS 0 + 1) % 2 ^ 16
        ∧ ((t.mbx.at 0).sent = b.map (fun _ => 0))) ∧
  (∀ s b, s.targetOn 1 = true → 16 ≤ b.length → b.length = 16 + rawLen b → (s.mbx.at 1).frames.length < 4 →
    Completes (.i2cWrite b) s fun t =>
      (t.mbx.at 1).frames = (s.mbx.at 1).frames ++ [if 1024 < rawLen b then b.take 16 else b]
        ∧ (t.mbx.at 1).responses = (s.mbx.at 1).responses ∧ t.pends 30 = true
        ∧ t.fld F.TGT_CNT0_TRANS 1 = (s.fld F.TGT_CNT0_TRANS 1 + 1) % 2 ^ 16) ∧
  (∀ s b, s.targetOn 1 = true → 16 ≤ b.length → b.length = 16 + rawLen b → 4 ≤ (s.mbx.at 1).frames.length →
    Completes (.i2cWrite b) s fun t =>
      (t.mbx.at 1).frames = (s.mbx.at 1).frames
        ∧ (t.mbx.at 1).responses = (s.mbx.at 1).responses ++ (if (s.mbx.at 1).responses.length < 4 then [⟨half b 0, half b 2, 1, s.fld F.CHORD_STAT_ADDR 0, Status.busy, 0, []⟩] else [])
        ∧ t.fld F.MBX_CHCNT1_BUSYHW 1 = (s.fld F.MBX_CHCNT1_BUSYHW 1 + 1) % 2 ^ 16
        ∧ t.fld F.TGT_CNT0_TRANS 1 = (s.fld F.TGT_CNT0_TRANS 1 + 1) % 2 ^ 16) ∧
  (∀ s b, s.targetOn 1 = true → ((b.length < 16 ∨ b.length ≠ 16 + rawLen b)) →
    Completes (.i2cWrite b) s fun t =>
      t.fld F.TGT_CNT1_SHORTWR 1 = (s.fld F.TGT_CNT1_SHORTWR 1 + 1) % 2 ^ 16
        ∧ t.fld F.MBX_CHCNT0_CRCERR 1 = (s.fld F.MBX_CHCNT0_CRCERR 1 + 1) % 2 ^ 16
        ∧ (t.mbx.at 1).frames = (s.mbx.at 1).frames ∧ (t.mbx.at 1).responses = (s.mbx.at 1).responses
        ∧ t.fld F.TGT_CNT0_TRANS 1 = (s.fld F.TGT_CNT0_TRANS 1 + 1) % 2 ^ 16) ∧
  (∀ s, s.targetOn 0 = true →
    Completes .spiStatus s fun t =>
      t.fld F.TGT_CNT0_TRANS 0 = (s.fld F.TGT_CNT0_TRANS 0 + 1) % 2 ^ 16
        ∧ ((t.mbx.at 0).sent = [4 - (s.mbx.at 0).frames.length, (s.mbx.at 0).responses.length] ++ le 2 (((s.mbx.at 0).responses.map (fun (f : Frame) => f.payload.length)).headD 0))
        ∧ (t.mbx.at 0).frames = (s.mbx.at 0).frames ∧ (t.mbx.at 0).responses = (s.mbx.at 0).responses) ∧
  (∀ s, s.targetOn 1 = true →
    Completes .i2cStatus s fun t =>
      t.fld F.TGT_CNT0_TRANS 1 = (s.fld F.TGT_CNT0_TRANS 1 + 1) % 2 ^ 16
        ∧ ((t.mbx.at 1).sent = [4 - (s.mbx.at 1).frames.length, (s.mbx.at 1).responses.length] ++ le 2 (((s.mbx.at 1).responses.map (fun (f : Frame) => f.payload.length)).headD 0))
        ∧ (t.mbx.at 1).frames = (s.mbx.at 1).frames ∧ (t.mbx.at 1).responses = (s.mbx.at 1).responses) ∧
  (∀ s n, s.targetOn 0 = true → (s.mbx.at 0).responses = [] →
    Completes (.spiRead n) s fun t =>
      (t.mbx.at 0).sent = List.replicate n 0xFF ∧ t.fld F.TGT_CNT0_TRANS 0 = (s.fld F.TGT_CNT0_TRANS 0 + 1) % 2 ^ 16
        ∧ (t.mbx.at 0).frames = (s.mbx.at 0).frames) ∧
  (∀ s n (f : Frame) (rest : List Frame), s.targetOn 0 = true → (s.mbx.at 0).responses = f :: rest → f.bytes.length ≤ n →
    (s.mbx.at 0).finished = [] → rest.length ≤ 4 →
    Completes (.spiRead n) s fun t =>
      (t.mbx.at 0).sent = f.bytes ++ List.replicate (n - f.bytes.length) 0xFF ∧ (t.mbx.at 0).responses = rest
        ∧ t.fld F.TGT_CNT0_TRANS 0 = (s.fld F.TGT_CNT0_TRANS 0 + 1) % 2 ^ 16 ∧ (3 ≤ rest.length → t.pends 148 = true)) ∧
  (∀ s n (f : Frame) (rest : List Frame), s.targetOn 0 = true → (s.mbx.at 0).responses = f :: rest → n < f.bytes.length →
    Completes (.spiRead n) s fun t =>
      (t.mbx.at 0).sent = f.bytes.take n ∧ (t.mbx.at 0).responses = f :: rest
        ∧ t.fld F.TGT_CNT1_CUTREADS 0 = (s.fld F.TGT_CNT1_CUTREADS 0 + 1) % 2 ^ 16) ∧
  (∀ s n, s.targetOn 1 = true → (s.mbx.at 1).responses = [] →
    Completes (.i2cRead n) s fun t =>
      (t.mbx.at 1).sent = List.replicate n 0xFF ∧ t.fld F.TGT_CNT0_TRANS 1 = (s.fld F.TGT_CNT0_TRANS 1 + 1) % 2 ^ 16
        ∧ (t.mbx.at 1).frames = (s.mbx.at 1).frames) ∧
  (∀ s n (f : Frame) (rest : List Frame), s.targetOn 1 = true → (s.mbx.at 1).responses = f :: rest → f.bytes.length ≤ n →
    (s.mbx.at 1).finished = [] → rest.length ≤ 4 →
    Completes (.i2cRead n) s fun t =>
      (t.mbx.at 1).sent = f.bytes ++ List.replicate (n - f.bytes.length) 0xFF ∧ (t.mbx.at 1).responses = rest
        ∧ t.fld F.TGT_CNT0_TRANS 1 = (s.fld F.TGT_CNT0_TRANS 1 + 1) % 2 ^ 16 ∧ (3 ≤ rest.length → t.pends 148 = true)) ∧
  (∀ s n (f : Frame) (rest : List Frame), s.targetOn 1 = true → (s.mbx.at 1).responses = f :: rest → n < f.bytes.length →
    Completes (.i2cRead n) s fun t =>
      (t.mbx.at 1).sent = f.bytes.take n ∧ (t.mbx.at 1).responses = f :: rest
        ∧ t.fld F.TGT_CNT1_CUTREADS 1 = (s.fld F.TGT_CNT1_CUTREADS 1 + 1) % 2 ^ 16) ∧
  (∀ s op, s.targetOn 0 = true → (op ≠ 1 ∧ op ≠ 3 ∧ op ≠ 5) →
    Completes (.spiBadOpcode op) s fun t =>
      t.fld F.TGT_CNT0_BADOPS 0 = (s.fld F.TGT_CNT0_BADOPS 0 + 1) % 2 ^ 16
        ∧ t.fld F.TGT_CNT0_TRANS 0 = (s.fld F.TGT_CNT0_TRANS 0 + 1) % 2 ^ 16 ∧ (t.mbx.at 0).sent = [0xFF]
        ∧ (t.mbx.at 0).frames = (s.mbx.at 0).frames) ∧
  (∀ s c, 1 ≤ c → c ≤ 4 → s.on F.MBX_LCTL_BUSY c = false → s.on F.MBX_LCTL_RSPREADY c = false →
    Completes (.localMailboxGo c) s fun t =>
      t.on F.MBX_LCTL_BUSY c = true ∧ t.pends (143 + c) = true
        ∧ (t.mbx.at (6 + c)).frames = (s.mbx.at (6 + c)).frames ++ [s.readBytes (tcmAddr c (4 * s.fld F.MBX_LREQ_OFFSET c)) (if 1024 < rawLen (s.readBytes (tcmAddr c (4 * s.fld F.MBX_LREQ_OFFSET c)) 16) then 16 else 16 + rawLen (s.readBytes (tcmAddr c (4 * s.fld F.MBX_LREQ_OFFSET c)) 16))]) ∧
  (∀ s c, 1 ≤ c → c ≤ 4 → ((s.on F.MBX_LCTL_BUSY c = true ∨ s.on F.MBX_LCTL_RSPREADY c = true)) →
    Completes (.localMailboxGo c) s fun t =>
      t.fld F.MBX_CHCNT1_BUSYHW 7 = (s.fld F.MBX_CHCNT1_BUSYHW 7 + 1) % 2 ^ 16 ∧ t.mbx = s.mbx) ∧
  (∀ s c, 1 ≤ c → c ≤ 4 →
    Completes (.localMailboxAck c) s fun t =>
      t.on F.MBX_LCTL_RSPREADY c = false
        ∧ (∀ x ∈ ([1, 2, 3, 4] : List Nat), x ≠ c → t.on F.MBX_LCTL_RSPREADY x = s.on F.MBX_LCTL_RSPREADY x)
        ∧ t.mbx = s.mbx) ∧
  (∀ s ch (b : List Nat) (rest : List (List Nat)), s.chExists ch = true → s.mailboxOn = true →
    ((s.firmware = true ∨ s.romTakes ch = true)) → s.power.resetPending = none → (s.mbx.at ch).running = none →
    s.roomToAnswer ch = true → s.queued ch = b :: rest → rawLen b ≤ 1024 → crcGood b = true →
    (2 < ch ∨ s.apex = false ∨ (Frame.parse b).isSelf = true ∨ (Frame.parse b).mode = 3 ∨ ((Frame.parse b).target = 0
    ∧ (Frame.parse b).mode = 0)) → s.frameFault ch (Frame.parse b) = 0 →
    s.portsTaken ch (framePorts (Frame.parse b)) = false →
    Completes (.commandStart ch) s fun t =>
      (t.mbx.at ch).running = some { Frame.parse b with flags := withBit (Frame.parse b).flags 5 false }
        ∧ (t.mbx.at ch).ports = framePorts (Frame.parse b) ∧ t.queued ch = rest
        ∧ t.fld F.MBX_CHCNT0_FRAMES (chReg ch) = (s.fld F.MBX_CHCNT0_FRAMES (chReg ch) + 1) % 2 ^ 16) ∧
  (∀ s ch (b : List Nat) (rest : List (List Nat)), s.chExists ch = true → s.mailboxOn = true →
    ((s.firmware = true ∨ s.romTakes ch = true)) → s.power.resetPending = none → (s.mbx.at ch).running = none →
    s.roomToAnswer ch = true → s.queued ch = b :: rest → rawLen b ≤ 1024 → crcGood b = true →
    (2 < ch ∨ s.apex = false ∨ (Frame.parse b).isSelf = true ∨ (Frame.parse b).mode = 3 ∨ ((Frame.parse b).target = 0
    ∧ (Frame.parse b).mode = 0)) → s.frameFault ch (Frame.parse b) ≠ 0 → ch ≤ 1 →
    Completes (.commandStart ch) s fun t =>
      (t.mbx.at ch).running = none ∧ t.queued ch = rest
        ∧ t.lastReply ch = some (s.reply { Frame.parse b with flags := withBit (Frame.parse b).flags 5 false } (s.frameFault ch (Frame.parse b)) 0 [])) ∧
  (∀ s ch (b : List Nat) (rest : List (List Nat)), s.chExists ch = true → s.mailboxOn = true →
    ((s.firmware = true ∨ s.romTakes ch = true)) → s.power.resetPending = none → (s.mbx.at ch).running = none →
    s.roomToAnswer ch = true → s.queued ch = b :: rest → 1024 < rawLen b → ch ≤ 1 →
    Completes (.commandStart ch) s fun t =>
      t.lastReply ch = some (s.reply { Frame.parse b with flags := withBit (Frame.parse b).flags 5 true, payload := [] } Status.badLen 0 [])
        ∧ t.queued ch = rest ∧ (t.mbx.at ch).running = none) ∧
  (∀ s ch (b : List Nat) (rest : List (List Nat)), s.chExists ch = true → s.mailboxOn = true →
    ((s.firmware = true ∨ s.romTakes ch = true)) → s.power.resetPending = none → (s.mbx.at ch).running = none →
    s.roomToAnswer ch = true → s.queued ch = b :: rest → rawLen b ≤ 1024 → crcGood b = false →
    Completes (.commandStart ch) s fun t =>
      t.queued ch = rest ∧ (t.mbx.at ch).responses = (s.mbx.at ch).responses ∧ (t.mbx.at ch).running = none
        ∧ t.fld F.MBX_CHCNT0_CRCERR (chReg ch) = (s.fld F.MBX_CHCNT0_CRCERR (chReg ch) + 1) % 2 ^ 16) ∧
  (∀ s ch (b : List Nat) (rest : List (List Nat)), s.chExists ch = true → s.mailboxOn = true →
    ((s.firmware = true ∨ s.romTakes ch = true)) → s.power.resetPending = none → (s.mbx.at ch).running = none →
    s.roomToAnswer ch = true → s.queued ch = b :: rest → rawLen b ≤ 1024 → crcGood b = true →
    (2 < ch ∨ s.apex = false ∨ (Frame.parse b).isSelf = true ∨ (Frame.parse b).mode = 3 ∨ ((Frame.parse b).target = 0
    ∧ (Frame.parse b).mode = 0)) → s.frameFault ch (Frame.parse b) = 0 → framePorts (Frame.parse b) ≠ [] →
    s.portsTaken ch (framePorts (Frame.parse b)) = false →
    Completes (.portLockRelease ch) s fun t =>
      (t.mbx.at ch).running = some { Frame.parse b with flags := withBit (Frame.parse b).flags 5 false }
        ∧ (t.mbx.at ch).ports = framePorts (Frame.parse b) ∧ t.queued ch = rest
        ∧ t.fld F.MBX_CHCNT0_FRAMES (chReg ch) = (s.fld F.MBX_CHCNT0_FRAMES (chReg ch) + 1) % 2 ^ 16) ∧
  (∀ s ch (b : List Nat) (rest : List (List Nat)), s.chExists ch = true → s.mailboxOn = true →
    ((s.firmware = true ∨ s.romTakes ch = true)) → s.power.resetPending = none → (s.mbx.at ch).running = none →
    s.roomToAnswer ch = true → s.queued ch = b :: rest → rawLen b ≤ 1024 → crcGood b = true →
    (2 < ch ∨ s.apex = false ∨ (Frame.parse b).isSelf = true ∨ (Frame.parse b).mode = 3 ∨ ((Frame.parse b).target = 0
    ∧ (Frame.parse b).mode = 0)) → s.frameFault ch (Frame.parse b) = 0 → framePorts (Frame.parse b) ≠ [] →
    s.portsTaken ch (framePorts (Frame.parse b)) = true →
    Completes (.portLockRelease ch) s fun t =>
      (t.mbx.at ch).running = none ∧ t.queued ch = b :: rest)

/-- SYS commands (R446, R447). -/
def Obligations.SystemMailboxCommands : Prop :=
  (∀ s ch (f : Frame), (s.mbx.at ch).running = some f → f.code = 0x0101 →
    Completes (.sysInfo ch) s fun t =>
      s.Answered t ch f 0 0 s.sysInfo ∧ s.sysInfo.take 4 = [0x40, 0x32, 0xB1, s.fld F.SYS_BOOT_BOOT_STATUS 0]
        ∧ (s.sysInfo.drop 4).take 4 = le 4 (s.fld F.SYS_FWREL_RELEASE 0) ∧ s.sysInfo.length = 64) ∧
  (∀ s ch (f : Frame), (s.mbx.at ch).running = some f → f.code = 0x0102 → f.opt % 2 = 1 →
    Completes (.sysReset ch) s fun t =>
      t.power.resetPending = some (min 7 ch) ∧ s.Answered t ch f 0 0 []) ∧
  (∀ s ch (f : Frame), (s.mbx.at ch).running = some f → f.code = 0x0102 → f.opt % 2 = 0 →
    Completes (.sysReset ch) s fun t =>
      s.Answered t ch f Status.badArg 0 [] ∧ (s.NoneWaits → t.power = s.power)) ∧
  (∀ s ch (f : Frame), (s.mbx.at ch).running = some f → f.code = 0x0103 → ofLe (f.payload.take 6) ≤ s.power.rtcCount →
    Completes (.sysDormant ch) s fun t =>
      s.Answered t ch f Status.badArg 0 [] ∧ t.power.dormancy = s.power.dormancy) ∧
  (∀ s ch (f : Frame), (s.mbx.at ch).running = some f → f.code = 0x0103 → s.power.rtcCount < ofLe (f.payload.take 6) →
    s.power.dormancy ≠ .awake →
    Completes (.sysDormant ch) s fun t =>
      s.Answered t ch f Status.busy 0 [] ∧ t.power.dormancy = s.power.dormancy) ∧
  (∀ s ch (f : Frame), (s.mbx.at ch).running = some f → f.code = 0x0103 → s.power.rtcCount < ofLe (f.payload.take 6) →
    s.power.dormancy = .awake → s.on F.RTC_STATUS_RTC_VALID 0 = false → (byteAt f.payload 6).testBit 0 = false →
    Completes (.sysDormant ch) s fun t =>
      s.Answered t ch f Status.state 0 [] ∧ t.power.dormancy = .awake) ∧
  (∀ s ch (f : Frame) (wake : Nat), (s.mbx.at ch).running = some f → f.code = 0x0103 → ofLe (f.payload.take 6) = wake →
    s.power.rtcCount < wake → s.power.dormancy = .awake →
    (s.on F.RTC_STATUS_RTC_VALID 0 = true ∨ (byteAt f.payload 6).testBit 0 = true) →
    Completes (.sysDormant ch) s fun t =>
      t.power.dormancy = .entering ∧ t.fld F.RTC_ALARM_LO_ALARM_LO 0 = wake % 2 ^ 32
        ∧ t.fld F.RTC_ALARM_HI_ALARM_HI 0 = wake / 2 ^ 32 % 2 ^ 16 ∧ t.on F.RTC_ALARM_HI_ARM 0 = true
        ∧ (t.mbx.at ch).running = none) ∧
  (∀ s ch (f : Frame) (on off : Nat), (s.mbx.at ch).running = some f → f.code = 0x0104 → half f.payload 0 = on →
    half f.payload 2 = off → Nat.lor on off % 4 = 0 → Nat.lor on off < 2048 → Nat.land on off = 0 →
    ((s.on F.PMU_RAILSTAT_DB_ACTIVE 0 = false ∨ Nat.lor on off < 8)) →
    Completes (.sysDomain ch) s fun t =>
      s.Answered t ch f 0 0 (le 2 (s.fld F.PMU_DOMSTAT_ON 0))
        ∧ (∀ d ∈ ([2, 3, 4, 5, 6, 7, 8, 9, 10] : List Nat), t.domRequested d = (if on.testBit d then true else if off.testBit d then false else s.domRequested d))) ∧
  (∀ s ch (f : Frame) (on off : Nat), (s.mbx.at ch).running = some f → f.code = 0x0104 → half f.payload 0 = on →
    half f.payload 2 = off → ((Nat.lor on off % 4 ≠ 0 ∨ 2048 ≤ Nat.lor on off ∨ Nat.land on off ≠ 0)) →
    Completes (.sysDomain ch) s fun t =>
      s.Answered t ch f Status.badArg 0 [] ∧ (s.NoneWaits → t.power = s.power)) ∧
  (∀ s ch (f : Frame) (on off : Nat), (s.mbx.at ch).running = some f → f.code = 0x0104 → half f.payload 0 = on →
    half f.payload 2 = off → Nat.lor on off % 4 = 0 → Nat.lor on off < 2048 → Nat.land on off = 0 →
    s.on F.PMU_RAILSTAT_DB_ACTIVE 0 = true → 8 ≤ Nat.lor on off →
    Completes (.sysDomain ch) s fun t =>
      s.Answered t ch f Status.state 0 [] ∧ (s.NoneWaits → t.power = s.power)) ∧
  (∀ s ch (f : Frame) (k m : Nat), (s.mbx.at ch).running = some f → f.code = 0x0105 → byteAt f.payload 0 = k →
    byteAt f.payload 1 = m → s.hasUpstream k = true → ch < 3 → s.needs Dom.fabric = true → byteAt f.payload 3 < 16 →
    byteAt f.payload 4 < 4 → byteAt f.payload 5 < 128 →
    Completes (.sysPart ch) s fun t =>
      (t.mbx.at ch).running = none ∧ (m.testBit 0 = true → t.stagedFld F.PART_PCTL_PULLUP k = byteAt f.payload 2 % 2)
        ∧ (m.testBit 1 = true → t.stagedFld F.PART_PCTL_VBUS_HOLD k = byteAt f.payload 2 / 2 % 2)
        ∧ (m.testBit 2 = true → t.stagedFld F.PART_PCTL_ACCEPT k = byteAt f.payload 3)
        ∧ (m.testBit 3 = true → t.stagedFld F.MF_CTL_CONNECT k = byteAt f.payload 2 / 8 % 2)
        ∧ (m.testBit 4 = true → t.stagedFld F.MF_CTL_SOFMODE k = byteAt f.payload 4)
        ∧ (m.testBit 5 = true → t.stagedFld F.MF_CTL_NOTEN k = byteAt f.payload 5)
        ∧ (m % 64 = 0 →
          s.Answered t ch f 0 0 (s.reg4 F.PART_PCTL_PULLUP k ++ s.reg4 F.PART_PSTAT_HOST k ++ s.reg4 F.MF_CTL_CONNECT k ++ s.reg4 F.MF_STAT_PSTATE k))) ∧
  (∀ s ch (f : Frame) (k j : Nat), (s.mbx.at ch).running = some f → f.code = 0x0105 → byteAt f.payload 0 = k →
    s.hasUpstream k = true → ch = 2 + j → 1 ≤ j → j ≤ 3 → ((k ≠ j ∨ byteAt f.payload 1 ≠ 0)) →
    Completes (.sysPart ch) s fun t =>
      (t.mbx.at ch).running = none ∧ t.fld F.MBX_CHCNT1_DENIED ch = (s.fld F.MBX_CHCNT1_DENIED ch + 1) % 2 ^ 16
        ∧ (s.NoneWaits → t.hw = s.hw ∧ t.staged = s.staged)) ∧
  (∀ s ch (f : Frame), (s.mbx.at ch).running = some f → f.code = 0x0106 →
    ((byteAt f.payload 0 < 128 ∨ byteAt f.payload 0 = 0xFF)) → byteAt f.payload 1 ≤ 32 →
    Completes (.sysNotices ch) s fun t =>
      s.Answered t ch f 0 0 ((s.bcq.items.take (byteAt f.payload 1)).flatMap noticeBytes)
        ∧ t.fld F.MBX_CTL_BCNOTEN 0 = (if byteAt f.payload 0 = 0xFF then s.fld F.MBX_CTL_BCNOTEN 0 else byteAt f.payload 0)
        ∧ (s.NoneWaits → s.bcq.dropped = 0 → t.bcq.items = s.bcq.items.drop (byteAt f.payload 1))) ∧
  (∀ s ch (f : Frame), (s.mbx.at ch).running = some f → f.code = 0x0106 → (((128 ≤ byteAt f.payload 0
    ∧ byteAt f.payload 0 ≠ 0xFF) ∨ 32 < byteAt f.payload 1)) →
    Completes (.sysNotices ch) s fun t =>
      s.Answered t ch f Status.badArg 0 [] ∧ t.fld F.MBX_CTL_BCNOTEN 0 = s.fld F.MBX_CTL_BCNOTEN 0
        ∧ (s.NoneWaits → t.bcq = s.bcq)) ∧
  (∀ s ch (f : Frame) (m : Nat), (s.mbx.at ch).running = some f → f.code = 0x0107 → byteAt f.payload 0 = m → 1 ≤ m →
    m ≤ 10 → s.bit F.MPU_FREEZE_FROZEN 0 m = true → s.freezeHeld m = false →
    Completes (.sysThaw ch) s fun t =>
      (t.mbx.at ch).running = none ∧ (ch ≤ 1 → (t.lastReply ch).map (·.status) = some 0)
        ∧ ((m < 5 ∨ 8 < m) → t.bit F.MPU_FREEZE_FROZEN 0 m = false)) ∧
  (∀ s ch (f : Frame) (m : Nat), (s.mbx.at ch).running = some f → f.code = 0x0107 → byteAt f.payload 0 = m →
    ((m = 0 ∨ 10 < m)) →
    Completes (.sysThaw ch) s fun t =>
      s.Answered t ch f Status.badArg 0 [] ∧ t.fld F.MPU_FREEZE_FROZEN 0 = s.fld F.MPU_FREEZE_FROZEN 0) ∧
  (∀ s ch (f : Frame) (m : Nat), (s.mbx.at ch).running = some f → f.code = 0x0107 → byteAt f.payload 0 = m → 1 ≤ m →
    m ≤ 10 → ((s.bit F.MPU_FREEZE_FROZEN 0 m = false ∨ s.freezeHeld m = true)) →
    Completes (.sysThaw ch) s fun t =>
      s.Answered t ch f Status.state 0 [] ∧ t.fld F.MPU_FREEZE_FROZEN 0 = s.fld F.MPU_FREEZE_FROZEN 0)

/-- SYS_FW (R448) and SYS_CFG_SAVE (R446). -/
def Obligations.FirmwareAndConfigurationMailboxCommands : Prop :=
  (∀ s ch good (f : Frame) (r n : Nat), (s.mbx.at ch).running = some f → f.code = 0x0108 → f.opt % 4 = 0 →
    byteAt f.payload 0 = r → word32 f.payload 4 = n → r ≤ 5 → n ≤ (fwRegion r).2 →
    s.hw.session.any (fun (y : FwSession) => y.chan != ch) = false → good = true →
    Completes (.sysFwBegin ch good) s fun t =>
      s.Answered t ch f 0 0 [] ∧ t.hw.session = some ⟨ch, r, n, 0⟩
        ∧ (s.NoneWaits → ch ≤ 6 → ∀ j < (fwRegion r).2, t.byte (flashAddr (fwRegion r).1 + j) = 0xFF)
        ∧ (s.NoneWaits → ch ≤ 6 → ∀ a, (mfChannel ch = false ∨ a < 0x200D8000 ∨ 0x200F8000 ≤ a) →
          (a < flashAddr (fwRegion r).1 ∨ flashAddr (fwRegion r).1 + (fwRegion r).2 ≤ a) →
          readByte t.mem a = readByte s.mem a)) ∧
  (∀ s ch good (f : Frame) (r n : Nat), (s.mbx.at ch).running = some f → f.code = 0x0108 → f.opt % 4 = 0 →
    byteAt f.payload 0 = r → word32 f.payload 4 = n → r ≤ 5 → n ≤ (fwRegion r).2 →
    s.hw.session.any (fun (y : FwSession) => y.chan != ch) = false → good = false →
    Completes (.sysFwBegin ch good) s fun t =>
      s.Answered t ch f Status.hwFault 0 [] ∧ t.hw.session = none) ∧
  (∀ s ch good (f : Frame) (r n : Nat), (s.mbx.at ch).running = some f → f.code = 0x0108 → f.opt % 4 = 0 →
    byteAt f.payload 0 = r → word32 f.payload 4 = n → r ≤ 5 → n ≤ (fwRegion r).2 →
    s.hw.session.any (fun (y : FwSession) => y.chan != ch) = true →
    Completes (.sysFwBegin ch good) s fun t =>
      s.Answered t ch f Status.busy 0 [] ∧ t.hw.session = s.hw.session
        ∧ (s.NoneWaits → ch ≤ 6 → ∀ a, (mfChannel ch = false ∨ a < 0x200D8000 ∨ 0x200F8000 ≤ a) →
          readByte t.mem a = readByte s.mem a)) ∧
  (∀ s ch good (f : Frame) (r n : Nat), (s.mbx.at ch).running = some f → f.code = 0x0108 → f.opt % 4 = 0 →
    byteAt f.payload 0 = r → word32 f.payload 4 = n → ((5 < r ∨ (fwRegion r).2 < n)) →
    Completes (.sysFwBegin ch good) s fun t =>
      s.Answered t ch f Status.badArg 0 [] ∧ t.hw.session = s.hw.session
        ∧ (s.NoneWaits → ch ≤ 6 → ∀ a, (mfChannel ch = false ∨ a < 0x200D8000 ∨ 0x200F8000 ≤ a) →
          readByte t.mem a = readByte s.mem a)) ∧
  (∀ s ch good (f : Frame) (x : FwSession), (s.mbx.at ch).running = some f → f.code = 0x0108 → f.opt % 4 = 1 →
    s.hw.session = some x → x.chan = ch → word32 f.payload 0 = x.written → x.written + (f.payload.drop 4).length ≤ x.size →
    (∀ j ∈ List.range (f.payload.drop 4).length, s.byte (flashAddr ((fwRegion x.region).1 + x.written) + j) = 0xFF) →
    good = true →
    Completes (.sysFwData ch good) s fun t =>
      s.Answered t ch f 0 0 [] ∧ t.hw.session = some { x with written := x.written + (f.payload.drop 4).length }
        ∧ (s.NoneWaits → ch ≤ 6 →
          ∀ j ∈ List.range (f.payload.drop 4).length, t.byte (flashAddr ((fwRegion x.region).1 + x.written) + j) = byteAt f.payload (4 + j) % 256)
        ∧ (s.NoneWaits → ch ≤ 6 → ∀ a, (mfChannel ch = false ∨ a < 0x200D8000 ∨ 0x200F8000 ≤ a) →
          (a < flashAddr ((fwRegion x.region).1 + x.written) ∨ flashAddr ((fwRegion x.region).1 + x.written) + (f.payload.drop 4).length ≤ a) → readByte t.mem a = readByte s.mem a)) ∧
  (∀ s ch good (f : Frame) (x : FwSession), (s.mbx.at ch).running = some f → f.code = 0x0108 → f.opt % 4 = 1 →
    s.hw.session = some x → x.chan = ch → word32 f.payload 0 = x.written → x.written + (f.payload.drop 4).length ≤ x.size →
    good = false →
    Completes (.sysFwData ch good) s fun t =>
      s.Answered t ch f Status.hwFault 0 [] ∧ t.hw.session = none
        ∧ (s.NoneWaits → ch ≤ 6 → ∀ a, (mfChannel ch = false ∨ a < 0x200D8000 ∨ 0x200F8000 ≤ a) →
          (a < flashAddr ((fwRegion x.region).1 + x.written) ∨ flashAddr ((fwRegion x.region).1 + x.written) + (f.payload.drop 4).length ≤ a) → readByte t.mem a = readByte s.mem a)) ∧
  (∀ s ch good (f : Frame) (x : FwSession), (s.mbx.at ch).running = some f → f.code = 0x0108 → f.opt % 4 = 1 →
    s.hw.session = some x → x.chan = ch →
    ((word32 f.payload 0 ≠ x.written ∨ x.size < x.written + (f.payload.drop 4).length)) →
    Completes (.sysFwData ch good) s fun t =>
      s.Answered t ch f Status.badArg 0 [] ∧ t.hw.session = some x
        ∧ (s.NoneWaits → ch ≤ 6 → ∀ a, (mfChannel ch = false ∨ a < 0x200D8000 ∨ 0x200F8000 ≤ a) →
          readByte t.mem a = readByte s.mem a)) ∧
  (∀ s ch good (f : Frame), (s.mbx.at ch).running = some f → f.code = 0x0108 → f.opt % 4 = 1 →
    s.hw.session.any (fun x => x.chan == ch) = false →
    Completes (.sysFwData ch good) s fun t =>
      s.Answered t ch f Status.state 0 []
        ∧ (s.NoneWaits → ch ≤ 6 → ∀ a, (mfChannel ch = false ∨ a < 0x200D8000 ∨ 0x200F8000 ≤ a) →
          readByte t.mem a = readByte s.mem a)) ∧
  (∀ s ch ok (f : Frame) (x : FwSession), (s.mbx.at ch).running = some f → f.code = 0x0108 → f.opt % 4 = 2 →
    s.hw.session = some x → x.chan = ch →
    Completes (.sysFwEnd ch ok) s fun t =>
      t.hw.session = none ∧ (x.region ≤ 1 → s.Answered t ch f 0 0 [if ok then 0 else 8])
        ∧ (2 ≤ x.region → s.Answered t ch f 0 0 [s.checkImage (x.region - 1) 0])
        ∧ (s.NoneWaits → ch ≤ 6 → ∀ a, (mfChannel ch = false ∨ a < 0x200D8000 ∨ 0x200F8000 ≤ a) →
          readByte t.mem a = readByte s.mem a)) ∧
  (∀ s ch ok (f : Frame), (s.mbx.at ch).running = some f → f.code = 0x0108 → f.opt % 4 = 2 →
    s.hw.session.any (fun x => x.chan == ch) = false →
    Completes (.sysFwEnd ch ok) s fun t =>
      s.Answered t ch f Status.state 0 []) ∧
  (∀ s ch (f : Frame), (s.mbx.at ch).running = some f → f.code = 0x0108 → f.opt % 4 = 3 → s.hw.session = none →
    Completes (.sysFwStatus ch) s fun t =>
      s.Answered t ch f 0 0 [0, 0, 0, 0, 0, 0]) ∧
  (∀ s ch (f : Frame) (x : FwSession), (s.mbx.at ch).running = some f → f.code = 0x0108 → f.opt % 4 = 3 →
    s.hw.session = some x →
    Completes (.sysFwStatus ch) s fun t =>
      s.Answered t ch f 0 0 (le 4 x.written ++ [x.region, 1]) ∧ t.hw.session = some x) ∧
  (∀ s ch good (f : Frame) (areas : Nat), (s.mbx.at ch).running = some f → f.code = 0x0109 → word32 f.payload 0 = areas →
    areas < 1024 → s.on F.CAL_STAT_COMMIT 0 = false → (s.mbx.at ch).stage ≠ 1 → good = true →
    Completes (.sysCfgSave ch good) s fun t =>
      s.Answered t ch f 0 0 (le 4 (s.hw.cfgGen + 1)) ∧ t.hw.cfgGen = s.hw.cfgGen + 1
        ∧ t.hw.saved.areas = Nat.lor s.hw.saved.areas areas
        ∧ t.hw.saved.profiles = (if areas.testBit 4 then s.profiles else s.hw.saved.profiles)
        ∧ t.hw.saved.faults = (if areas.testBit 7 then s.fc.sources else s.hw.saved.faults)
        ∧ t.nvmCfg = (s.saveAreas areas).nvmCfg) ∧
  (∀ s ch good (f : Frame) (areas : Nat), (s.mbx.at ch).running = some f → f.code = 0x0109 → word32 f.payload 0 = areas →
    areas < 1024 → s.on F.CAL_STAT_COMMIT 0 = false → (s.mbx.at ch).stage ≠ 1 → good = false →
    Completes (.sysCfgSave ch good) s fun t =>
      s.Answered t ch f Status.hwFault 0 [] ∧ t.nvmCfg = s.nvmCfg) ∧
  (∀ s ch good (f : Frame) (areas : Nat), (s.mbx.at ch).running = some f → f.code = 0x0109 → word32 f.payload 0 = areas →
    areas < 1024 → ((s.on F.CAL_STAT_COMMIT 0 = true ∨ (s.mbx.at ch).stage = 1)) →
    Completes (.sysCfgSave ch good) s fun t =>
      s.Answered t ch f Status.busy 0 [] ∧ t.nvmCfg = s.nvmCfg) ∧
  (∀ s ch good (f : Frame) (areas : Nat), (s.mbx.at ch).running = some f → f.code = 0x0109 → word32 f.payload 0 = areas →
    1024 ≤ areas →
    Completes (.sysCfgSave ch good) s fun t =>
      s.Answered t ch f Status.badArg 0 [] ∧ t.nvmCfg = s.nvmCfg)

/-- PORT commands (R450, R451). The values written stand as the last value written: fields of code F and M wait for their boundary (R101, R102). -/
def Obligations.PortEngineMailboxCommands : Prop :=
  (∀ s ch (f : Frame) (m : Nat), (s.mbx.at ch).running = some f → f.code = 0x0201 → word32 f.payload 0 = m →
    s.maskFault ch m = 0 →
    Completes (.portStatus ch) s fun t =>
      (s.Answered t ch f 0 0 ((maskPorts m).flatMap fun p => s.reg4 F.DPE_STATE_STATE p ++ s.reg4 F.DPE_PORTSTAT_STATUS p ++ s.reg4 F.TCPD_CCSTAT_STATE p ++ s.reg4 F.TCPD_PDSTAT_REV p ++ s.reg4 F.TCPD_CONTRACT_OBJPOS p ++ s.reg4 F.PWR_PSTAT_STATE p ++ s.reg4 F.ADC_PV_VBUS p ++ s.reg4 F.ADC_PI_IBUS p))) ∧
  (∀ s ch (f : Frame) (m : Nat), (s.mbx.at ch).running = some f → f.code = 0x0201 → word32 f.payload 0 = m →
    s.maskFault ch m ≠ 0 →
    Completes (.portStatus ch) s fun t =>
      s.Answered t ch f (s.maskFault ch m) 0 []) ∧
  (∀ s ch (f : Frame) (m k : Nat), (s.mbx.at ch).running = some f → f.code = 0x0202 → word32 f.payload 0 = m →
    byteAt f.payload 4 = k → s.maskFault ch m = 0 → (k = 15 ∨ (ch ≤ 2 ∧ s.hasUpstream k = true)) →
    Completes (.portAssign ch) s fun t =>
      (s.NoneWaits → ∀ p ∈ maskPorts m, s.portReady p = true → s.needs Dom.fabric = true → s.dpeIs p .migrating = false →
        (s.migs.at p).active = false → s.bit F.PART_MIGBUSY_BUSY 0 (p - 1) = false →
        (4 ≤ s.partOf p ∨ k = 15 ∨ k = s.partOf p) → t.stagedFld (assignField p) (currant p) = k)
        ∧ (s.Answered t ch f (maskAnswer m fun p => s.portReady p && s.needs Dom.fabric && !s.dpeIs p .migrating && !(s.migs.at p).active && (decide (4 ≤ s.partOf p) || k == 15 || k == s.partOf p)).1 0 (maskAnswer m fun p => s.portReady p && s.needs Dom.fabric && !s.dpeIs p .migrating && !(s.migs.at p).active && (decide (4 ≤ s.partOf p) || k == 15 || k == s.partOf p)).2)) ∧
  (∀ s ch (f : Frame) (m k : Nat), (s.mbx.at ch).running = some f → f.code = 0x0202 → word32 f.payload 0 = m →
    byteAt f.payload 4 = k → s.maskFault ch m = 0 → (3 ≤ ch ∧ ch ≤ 5) → k ≠ 15 →
    Completes (.portAssign ch) s fun t =>
      (s.NoneWaits → t.staged = s.staged) ∧ (t.mbx.at ch).running = none
        ∧ t.fld F.MBX_CHCNT1_DENIED ch = (s.fld F.MBX_CHCNT1_DENIED ch + 1) % 2 ^ 16) ∧
  (∀ s ch (f : Frame) (m dest : Nat), (s.mbx.at ch).running = some f → f.code = 0x0203 → word32 f.payload 0 = m →
    byteAt f.payload 4 = dest → s.maskFault ch m = 0 → s.hasUpstream dest = true → ch ≤ 2 →
    Completes (.portMigrate ch) s fun t =>
      (s.NoneWaits → ∀ p ∈ maskPorts m, s.portReady p = true → s.needs Dom.fabric = true → s.migRefusal p dest = 0 →
        t.migs.at p = ⟨true, s.partOf p, dest, (byteAt f.payload 5).testBit 0, false, 0, .none, clamp 1 100 (byteAt f.payload 6), 1⟩)
        ∧ (s.Answered t ch f (maskAnswer m fun p => s.portReady p && s.needs Dom.fabric && s.migRefusal p dest == 0).1 0 (maskAnswer m fun p => s.portReady p && s.needs Dom.fabric && s.migRefusal p dest == 0).2)) ∧
  (∀ s ch (f : Frame) (m dest : Nat), (s.mbx.at ch).running = some f → f.code = 0x0203 → word32 f.payload 0 = m →
    byteAt f.payload 4 = dest → s.maskFault ch m = 0 → s.hasUpstream dest = true → (3 ≤ ch ∧ ch ≤ 5) →
    s.bit F.PART_PCTL_ACCEPT dest (ch - 2) = false →
    Completes (.portMigrate ch) s fun t =>
      (s.NoneWaits → t.migs = s.migs) ∧ (t.mbx.at ch).running = none
        ∧ t.fld F.MBX_CHCNT1_DENIED ch = (s.fld F.MBX_CHCNT1_DENIED ch + 1) % 2 ^ 16) ∧
  (∀ s ch (f : Frame) (m : Nat), (s.mbx.at ch).running = some f → f.code = 0x0204 → word32 f.payload 0 = m →
    s.maskFault ch m = 0 →
    Completes (.portIsolate ch) s fun t =>
      (s.NoneWaits → ∀ p ∈ maskPorts m, s.portReady p = true → s.needs Dom.fabric = true →
        t.stagedFld F.DPE_CTL_ISOLATE p = 1)
        ∧ (s.Answered t ch f (maskAnswer m fun p => s.portReady p && s.needs Dom.fabric).1 0 (maskAnswer m fun p => s.portReady p && s.needs Dom.fabric).2)) ∧
  (∀ s ch (f : Frame) (m : Nat), (s.mbx.at ch).running = some f → f.code = 0x0205 → word32 f.payload 0 = m →
    s.maskFault ch m = 0 →
    Completes (.portRestore ch) s fun t =>
      (s.NoneWaits → ∀ p ∈ maskPorts m, s.portReady p = true → s.needs Dom.fabric = true →
        t.stagedFld F.DPE_CTL_ISOLATE p = 0)
        ∧ (s.Answered t ch f (maskAnswer m fun p => s.portReady p && s.needs Dom.fabric).1 0 (maskAnswer m fun p => s.portReady p && s.needs Dom.fabric).2)) ∧
  (∀ s ch (f : Frame) (m : Nat), (s.mbx.at ch).running = some f → f.code = 0x0206 → (byteAt f.payload 4).testBit 0 = false →
    word32 f.payload 0 = m → s.maskFault ch m = 0 →
    Completes (.portQuarantine ch) s fun t =>
      (s.NoneWaits → ∀ p ∈ maskPorts m, s.portReady p = true → s.needs Dom.fabric = true → t.stagedFld F.DPE_CTL_QUAR p = 1)
        ∧ (s.Answered t ch f (maskAnswer m fun p => s.portReady p && s.needs Dom.fabric).1 0 (maskAnswer m fun p => s.portReady p && s.needs Dom.fabric).2)) ∧
  (∀ s ch (f : Frame) (m : Nat), (s.mbx.at ch).running = some f → f.code = 0x0206 → (byteAt f.payload 4).testBit 0 = true →
    word32 f.payload 0 = m → s.maskFault ch m = 0 →
    Completes (.portQuarantineRelease ch) s fun t =>
      (s.NoneWaits → ∀ p ∈ maskPorts m, s.portReady p = true → s.needs Dom.fabric = true → s.quarHeld p = false →
        s.on F.DSW_PSTAT_STBUSY p = false → t.stagedFld F.DPE_CTL_QUAR p = 0)
        ∧ (s.Answered t ch f (maskAnswer m fun p => s.portReady p && s.needs Dom.fabric && !s.quarHeld p && !s.on F.DSW_PSTAT_STBUSY p).1 0 (maskAnswer m fun p => s.portReady p && s.needs Dom.fabric && !s.quarHeld p && !s.on F.DSW_PSTAT_STBUSY p).2)) ∧
  (∀ s ch (f : Frame) (m : Nat), (s.mbx.at ch).running = some f → f.code = 0x0207 → f.opt.testBit 0 = false →
    word32 f.payload 0 = m → s.maskFault ch m = 0 →
    Completes (.portSelftest ch) s fun t =>
      (s.NoneWaits → ∀ p ∈ maskPorts m, s.portReady p = true → s.selfTestAllowed p = true →
        t.on F.DSW_PSTAT_STBUSY p = true ∧ (t.dpe.at p).stTests = byteAt f.payload 4 % 8 ∧ t.fld F.DSW_STRES_LOOP p = 0)
        ∧ (s.Answered t ch f (maskAnswer m fun p => s.portReady p && s.selfTestAllowed p).1 0 (maskAnswer m fun p => s.portReady p && s.selfTestAllowed p).2)) ∧
  (∀ s ch (f : Frame) (m : Nat), (s.mbx.at ch).running = some f → f.code = 0x0207 → f.opt.testBit 0 = true →
    word32 f.payload 0 = m → s.maskFault ch m = 0 →
    Completes (.portSelftestResults ch) s fun t =>
      (s.Answered t ch f 0 0 ((maskPorts m).flatMap fun p => s.reg4 F.DSW_STRES_LOOP p ++ s.reg4 F.DSW_STMEAS_LEAK p))) ∧
  (∀ s ch (f : Frame) (m : Nat), (s.mbx.at ch).running = some f → f.code = 0x0207 → f.opt.testBit 0 = true →
    word32 f.payload 0 = m → s.maskFault ch m ≠ 0 →
    Completes (.portSelftestResults ch) s fun t =>
      s.Answered t ch f (s.maskFault ch m) 0 []) ∧
  (∀ s ch (f : Frame) (p : Nat), (s.mbx.at ch).running = some f → f.code = 0x0208 → 1 ≤ p → p ≤ 32 →
    word32 f.payload 0 = 2 ^ (p - 1) → s.maskFault ch (2 ^ (p - 1)) = 0 →
    Completes (.portGlitch ch) s fun t =>
      (s.Answered t ch f (maskAnswer (2 ^ (p - 1)) fun q => s.portReady q && s.needs Dom.fabric && !s.glitchBarred q (word32 f.payload 4)).1 0 (maskAnswer (2 ^ (p - 1)) fun q => s.portReady q && s.needs Dom.fabric && !s.glitchBarred q (word32 f.payload 4)).2)
        ∧ (s.NoneWaits → s.portReady p = true → s.needs Dom.fabric = true → s.glitchBarred p (word32 f.payload 4) = true →
          t.fld F.DPE_CNT3_GSUPPR p = (s.fld F.DPE_CNT3_GSUPPR p + 1) % 2 ^ 16)
        ∧ (s.NoneWaits → s.portReady p = true → s.needs Dom.fabric = true → s.glitchBarred p (word32 f.payload 4) = false →
          t.fld F.DPE_GLITCH_CTL_WIN p = byteAt f.payload 12
          ∧ t.fld F.DPE_GLITCH_CFG_LEN p = word32 f.payload 4 / 65536 % 65536
          ∧ t.fld F.DPE_GLITCH_GAP_GAP p = word32 f.payload 8 % 2 ^ 24)
        ∧ (s.NoneWaits → s.portReady p = true → s.needs Dom.fabric = true → s.glitchBarred p (word32 f.payload 4) = false →
          word32 f.payload 4 % 4 = 1 → t.on F.DPE_GLITCH_CTL_BUSY p = true))

/-- PORT commands (R450) with R176 and R291. The values written stand as the last value written: fields of code F and M wait for their boundary (R101, R102). -/
def Obligations.PortSettingsMailboxCommands : Prop :=
  (∀ s ch (f : Frame) (m v : Nat), (s.mbx.at ch).running = some f → f.code = 0x0209 → word32 f.payload 0 = m →
    byteAt f.payload 4 = v → s.maskFault ch m = 0 → v ≤ 1 →
    Completes (.portVbus ch) s fun t =>
      (s.Answered t ch f (maskAnswer m fun p => s.portReady p && (v == 1 || !s.on F.GOV_STAT_BRDOFF 0)).1 0 (maskAnswer m fun p => s.portReady p && (v == 1 || !s.on F.GOV_STAT_BRDOFF 0)).2)
        ∧ (s.NoneWaits → ∀ p ∈ maskPorts m, s.portReady p = true → (v = 1 ∨ s.on F.GOV_STAT_BRDOFF 0 = false) →
          t.on F.PWR_PCTL_VOFF p = decide (v = 1))) ∧
  (∀ s ch (f : Frame) (m v : Nat), (s.mbx.at ch).running = some f → f.code = 0x0209 → word32 f.payload 0 = m →
    byteAt f.payload 4 = v → s.maskFault ch m = 0 → 1 < v →
    Completes (.portVbus ch) s fun t =>
      s.Answered t ch f Status.badArg 0 [] ∧ (s.NoneWaits → t.staged = s.staged)) ∧
  (∀ s ch (f : Frame) (p : Nat), (s.mbx.at ch).running = some f → f.code = 0x020A → 1 ≤ p → p ≤ 32 →
    word32 f.payload 0 = 2 ^ (p - 1) → s.maskFault ch (2 ^ (p - 1)) = 0 → s.portReady p = true →
    (s.clearLatch p).isSome = true →
    Completes (.portLatchclr ch) s fun t =>
      (s.Answered t ch f 0 0 (maskAnswer (2 ^ (p - 1)) fun _ => true).2)
        ∧ (s.pwrIs p .latched = true → t.pwrIs p .latched = false)) ∧
  (∀ s ch (f : Frame) (p : Nat), (s.mbx.at ch).running = some f → f.code = 0x020A → 1 ≤ p → p ≤ 32 →
    word32 f.payload 0 = 2 ^ (p - 1) → s.maskFault ch (2 ^ (p - 1)) = 0 → s.portReady p = true → s.clearLatch p = none →
    Completes (.portLatchclr ch) s fun t =>
      (s.Answered t ch f Status.state 0 (maskAnswer (2 ^ (p - 1)) fun _ => false).2)
        ∧ (s.NoneWaits → t.fld F.PWR_CNT3_LREFUSE p = (s.fld F.PWR_CNT3_LREFUSE p + 1) % 2 ^ 16)) ∧
  (∀ s ch (f : Frame) (p : Nat), (s.mbx.at ch).running = some f → f.code = 0x020A → 1 ≤ p → p ≤ 32 →
    word32 f.payload 0 = 2 ^ (p - 1) → s.maskFault ch (2 ^ (p - 1)) = 0 → s.portReady p = false →
    Completes (.portLatchclr ch) s fun t =>
      (s.Answered t ch f Status.state 0 (maskAnswer (2 ^ (p - 1)) fun _ => false).2)
        ∧ (s.NoneWaits → t.fld F.PWR_PSTAT_STATE p = s.fld F.PWR_PSTAT_STATE p)) ∧
  (∀ s ch (f : Frame) (p : Nat), (s.mbx.at ch).running = some f → f.code = 0x020B → 1 ≤ p → p ≤ 32 →
    word32 f.payload 0 = 2 ^ (p - 1) → s.maskFault ch (2 ^ (p - 1)) = 0 → s.portReady p = true → byteAt f.payload 12 = 0 →
    word32 f.payload 8 % 2 = 0 →
    Completes (.portCc ch) s fun t =>
      (s.Answered t ch f 0 0 (maskAnswer (2 ^ (p - 1)) fun _ => true).2)
        ∧ (s.NoneWaits → word32 f.payload 8 / 16 % 4 = 3 → t.stagedFld F.TCPD_CCCFG_RPLVL p = word32 f.payload 4 / 16 % 4)
        ∧ (s.NoneWaits → word32 f.payload 8 / 2 % 4 = 3 → t.stagedFld F.TCPD_CCCFG_ROLE p = word32 f.payload 4 / 2 % 4)) ∧
  (∀ s ch (f : Frame) (p : Nat), (s.mbx.at ch).running = some f → f.code = 0x020B → 1 ≤ p → p ≤ 32 →
    word32 f.payload 0 = 2 ^ (p - 1) → s.maskFault ch (2 ^ (p - 1)) = 0 → s.portReady p = true →
    byteAt f.payload 12 % 2 = 1 → s.ccIn p [.disabled, .ccOvHold] = true →
    Completes (.portCc ch) s fun t =>
      (s.Answered t ch f Status.state 0 (maskAnswer (2 ^ (p - 1)) fun _ => false).2)
        ∧ (s.NoneWaits → t.staged = s.staged)) ∧
  (∀ s ch (f : Frame) (p : Nat), (s.mbx.at ch).running = some f → f.code = 0x020B → 1 ≤ p → p ≤ 32 →
    word32 f.payload 0 = 2 ^ (p - 1) → s.maskFault ch (2 ^ (p - 1)) = 0 → s.portReady p = true → byteAt f.payload 12 = 1 →
    word32 f.payload 8 = 0 → s.ccIn p [.disabled, .ccOvHold] = false →
    Completes (.portCc ch) s fun t =>
      (s.Answered t ch f 0 0 (maskAnswer (2 ^ (p - 1)) fun _ => true).2)
        ∧ (s.NoneWaits → t.ccIs p .errorRecovery = true)) ∧
  (∀ s ch (f : Frame) (m : Nat), (s.mbx.at ch).running = some f → f.code = 0x020C → word32 f.payload 0 = m →
    s.maskFault ch m = 0 → ((byteAt f.payload 6 ≤ 1 ∨ byteAt f.payload 6 = 0xFF)) →
    Completes (.portCfg ch) s fun t =>
      (s.Answered t ch f (maskAnswer m fun p => s.portReady p && s.needs Dom.fabric && !s.dpeIs p .migrating && !((s.migs.at p).active && decide (2 ≤ (s.migs.at p).step))).1 0 (maskAnswer m fun p => s.portReady p && s.needs Dom.fabric && !s.dpeIs p .migrating && !((s.migs.at p).active && decide (2 ≤ (s.migs.at p).step))).2)
        ∧ (s.NoneWaits → ∀ p ∈ maskPorts m, s.portReady p = true → s.needs Dom.fabric = true →
          s.dpeIs p .migrating = false → ((s.migs.at p).active = false ∨ (s.migs.at p).step < 2) →
          (byteAt f.payload 4 ≠ 0xFF →
          t.stagedFld F.DPE_TIMING_RSTLEN p = byteAt f.payload 4) ∧ (byteAt f.payload 5 ≠ 0xFF →
          t.stagedFld F.DPE_TIMING_RSMLEN p = byteAt f.payload 5) ∧ (byteAt f.payload 6 ≠ 0xFF →
          t.stagedFld F.DPE_CTL_LPM_EN p = byteAt f.payload 6))) ∧
  (∀ s ch (f : Frame) (m : Nat), (s.mbx.at ch).running = some f → f.code = 0x020C → word32 f.payload 0 = m →
    s.maskFault ch m = 0 → 1 < byteAt f.payload 6 → byteAt f.payload 6 ≠ 0xFF →
    Completes (.portCfg ch) s fun t =>
      s.Answered t ch f Status.badArg 0 [] ∧ (s.NoneWaits → t.staged = s.staged)) ∧
  (∀ s ch (f : Frame) (p a b c : Nat), (s.mbx.at ch).running = some f → f.code = 0x020D → f.payload = [p, a, b, c] →
    s.fitted p = true → a ≤ 31 → b ≤ 63 → c ≤ 63 → s.needs Dom.fabric = true →
    ((s.setFld F.TT_ALLOC_NPBUF p a |>.setFld F.TT_ALLOC_PRES p b).setFld F.TT_ALLOC_PMAX p c).reserved ≤ 1024 →
    Completes (.portTtalloc ch) s fun t =>
      (t.mbx.at ch).running = none ∧ (ch ≤ 1 → (t.lastReply ch).map (·.status) = some 0)
        ∧ (s.NoneWaits → t.fld F.TT_ALLOC_NPBUF p = clamp 2 16 a)
        ∧ (s.NoneWaits → t.fld F.TT_ALLOC_PMAX p = min c (64 - clamp 2 16 a))
        ∧ (s.NoneWaits → t.fld F.TT_ALLOC_PRES p = min b (min c (64 - clamp 2 16 a)))
        ∧ (s.NoneWaits → s.Answered t ch f 0 0 (le 2 (t.fld F.TT_POOL_RESERVED 0) ++ le 2 (t.fld F.TT_POOL_FREE 0)))) ∧
  (∀ s ch (f : Frame) (p a b c : Nat), (s.mbx.at ch).running = some f → f.code = 0x020D → f.payload = [p, a, b, c] →
    s.fitted p = true → a ≤ 31 → b ≤ 63 → c ≤ 63 → s.needs Dom.fabric = true →
    1024 < ((s.setFld F.TT_ALLOC_NPBUF p a |>.setFld F.TT_ALLOC_PRES p b).setFld F.TT_ALLOC_PMAX p c).reserved →
    Completes (.portTtalloc ch) s fun t =>
      s.Answered t ch f Status.badArg 0 [] ∧ t.fld F.TT_ALLOC_NPBUF p = s.fld F.TT_ALLOC_NPBUF p) ∧
  (∀ s ch (f : Frame) (p a b c : Nat), (s.mbx.at ch).running = some f → f.code = 0x020D → f.payload = [p, a, b, c] →
    s.fitted p = true → a ≤ 31 → b ≤ 63 → c ≤ 63 → s.needs Dom.fabric = false →
    Completes (.portTtalloc ch) s fun t =>
      s.Answered t ch f Status.state 0 [] ∧ t.fld F.TT_ALLOC_NPBUF p = s.fld F.TT_ALLOC_NPBUF p) ∧
  (∀ s ch (f : Frame) (p a b c : Nat), (s.mbx.at ch).running = some f → f.code = 0x020D → f.payload = [p, a, b, c] →
    ((s.fitted p = false ∨ 31 < a ∨ 63 < b ∨ 63 < c)) →
    Completes (.portTtalloc ch) s fun t =>
      s.Answered t ch f Status.badArg 0 [] ∧ t.fld F.TT_ALLOC_NPBUF p = s.fld F.TT_ALLOC_NPBUF p)

/-- PD commands (R452, R453). -/
def Obligations.PolicyMailboxCommands : Prop :=
  (∀ s ch (f : Frame) (m : Nat), (s.mbx.at ch).running = some f → f.code = 0x0301 → f.opt.testBit 0 = false →
    word32 f.payload 0 = m → s.maskFault ch m = 0 →
    Completes (.pdStatus ch) s fun t =>
      (s.Answered t ch f 0 0 ((maskPorts m).flatMap fun p => s.reg4 F.TCPD_PDSTAT_REV p ++ s.reg4 F.TCPD_CONTRACT_OBJPOS p ++ s.reg4 F.TCPD_GRANT_GRANT p ++ s.reg4 F.TCPD_CABLE_VALID p ++ s.reg4 F.TCPD_CABLEVDO_VDO p ++ s.reg4 F.TCPD_PDCNT0_WAITS p ++ s.reg4 F.TCPD_PDCNT1_HRESETS p ++ s.reg4 F.TCPD_PDCNT2_PRSWAPS p))) ∧
  (∀ s ch (f : Frame) (m : Nat), (s.mbx.at ch).running = some f → f.code = 0x0301 → f.opt.testBit 0 = false →
    word32 f.payload 0 = m → s.maskFault ch m ≠ 0 →
    Completes (.pdStatus ch) s fun t =>
      s.Answered t ch f (s.maskFault ch m) 0 []) ∧
  (∀ s ch (f : Frame) (p : Nat), (s.mbx.at ch).running = some f → f.code = 0x0301 → f.opt.testBit 0 = true →
    (s.mbx.at ch).stage = 0 → maskPorts (word32 f.payload 0) = [p] → s.maskFault ch (word32 f.payload 0) = 0 →
    s.portReady p = true → s.pdLive p = true → s.contracted p = true → s.on F.TCPD_PDSTAT_PROLE p = true →
    s.amsOn p = false →
    Completes (.pdStatusQuery ch) s fun t =>
      (t.pd.at p).out = [.getSinkCap] ∧ (t.pd.at p).query = 1 ∧ (t.mbx.at ch).stage = 1
        ∧ (t.mbx.at ch).running = some f ∧ t.on F.TCPD_PDSTAT_AMS p = true) ∧
  (∀ s ch (f : Frame) (p : Nat), (s.mbx.at ch).running = some f → f.code = 0x0301 → f.opt.testBit 0 = true →
    (s.mbx.at ch).stage = 0 → maskPorts (word32 f.payload 0) = [p] → s.maskFault ch (word32 f.payload 0) = 0 →
    s.portReady p = true → s.pdLive p = true → s.contracted p = true → s.on F.TCPD_PDSTAT_PROLE p = true → s.amsOn p = true →
    Completes (.pdStatusQuery ch) s fun t =>
      t = s) ∧
  (∀ s ch (f : Frame) (p : Nat), (s.mbx.at ch).running = some f → f.code = 0x0301 → f.opt.testBit 0 = true →
    (s.mbx.at ch).stage = 0 → maskPorts (word32 f.payload 0) = [p] → s.maskFault ch (word32 f.payload 0) = 0 →
    ((s.portReady p = false ∨ s.pdLive p = false ∨ s.contracted p = false ∨ s.on F.TCPD_PDSTAT_PROLE p = false)) →
    Completes (.pdStatusQuery ch) s fun t =>
      s.Answered t ch f Status.state 0 []) ∧
  (∀ s ch (f : Frame) (p : Nat), (s.mbx.at ch).running = some f → f.code = 0x0301 → f.opt.testBit 0 = true →
    (s.mbx.at ch).stage ≠ 0 → maskPorts (word32 f.payload 0) = [p] → s.rightsLost ch p = 0 → (s.pd.at p).query = 2 →
    Completes (.pdStatusQuery ch) s fun t =>
      s.Answered t ch f 0 0 (s.pdRecord p ++ le 4 ((s.pd.at p).partnerSink.getD []).length ++ ((s.pd.at p).partnerSink.getD []).flatMap (le 4))
        ∧ (s.NoneWaits → (t.pd.at p).query = 0)) ∧
  (∀ s ch (f : Frame) (p : Nat), (s.mbx.at ch).running = some f → f.code = 0x0301 → f.opt.testBit 0 = true →
    (s.mbx.at ch).stage ≠ 0 → maskPorts (word32 f.payload 0) = [p] → s.rightsLost ch p = 0 → (s.pd.at p).query = 3 →
    Completes (.pdStatusQuery ch) s fun t =>
      s.Answered t ch f 0 0 (s.pdRecord p ++ le 4 0)) ∧
  (∀ s ch (f : Frame) (p : Nat), (s.mbx.at ch).running = some f → f.code = 0x0301 → f.opt.testBit 0 = true →
    (s.mbx.at ch).stage ≠ 0 → maskPorts (word32 f.payload 0) = [p] → s.rightsLost ch p = 0 → (s.pd.at p).query = 0 →
    Completes (.pdStatusQuery ch) s fun t =>
      s.Answered t ch f Status.timeout 0 []) ∧
  (∀ s ch (f : Frame) (p : Nat), (s.mbx.at ch).running = some f → f.code = 0x0301 → f.opt.testBit 0 = true →
    (s.mbx.at ch).stage ≠ 0 → maskPorts (word32 f.payload 0) = [p] → s.rightsLost ch p = 0 → (s.pd.at p).query = 1 →
    Completes (.pdStatusQuery ch) s fun t =>
      t = s) ∧
  (∀ s ch (f : Frame) (p : Nat), (s.mbx.at ch).running = some f → f.code = 0x0301 → f.opt.testBit 0 = true →
    (s.mbx.at ch).stage ≠ 0 → maskPorts (word32 f.payload 0) = [p] → s.rightsLost ch p ≠ 0 →
    Completes (.pdStatusQuery ch) s fun t =>
      s.Answered t ch f (s.rightsLost ch p) 0 []) ∧
  (∀ s ch (f : Frame) (m : Nat), (s.mbx.at ch).running = some f → f.code = 0x0302 → word32 f.payload 0 = m →
    s.maskFault ch m = 0 →
    Completes (.pdCfg ch) s fun t =>
      (s.NoneWaits → ∀ p ∈ maskPorts m, s.portReady p = true → (word32 f.payload 8).testBit 3 = true →
        t.stagedFld F.TCPD_PDCFG_PRS_EN p = word32 f.payload 4 / 8 % 2)
        ∧ (s.NoneWaits → ∀ p ∈ maskPorts m, s.portReady p = true → word32 f.payload 8 / 65536 % 8 = 7 →
          t.stagedFld F.TCPD_PDCFG_PROFILE p = word32 f.payload 4 / 65536 % 8)
        ∧ (s.NoneWaits → ∀ p ∈ maskPorts m, (word32 f.payload 8).testBit 0 = false →
          t.stagedFld F.TCPD_PDCFG_PD_EN p = s.stagedFld F.TCPD_PDCFG_PD_EN p)
        ∧ s.Answered t ch f (maskAnswer m s.portReady).1 0 (maskAnswer m s.portReady).2) ∧
  (∀ s ch (f : Frame) (n : Nat), (s.mbx.at ch).running = some f → f.code = 0x0303 → f.opt.testBit 0 = false →
    byteAt f.payload 0 = n → n ≤ 7 →
    Completes (.pdProfileRead ch) s fun t =>
      s.Answered t ch f 0 0 ([n, (s.profiles.at n).length, 0, 0] ++ (s.profiles.at n).flatMap (le 4))) ∧
  (∀ s ch (f : Frame) (n : Nat), (s.mbx.at ch).running = some f → f.code = 0x0303 → f.opt.testBit 0 = false →
    byteAt f.payload 0 = n → 7 < n →
    Completes (.pdProfileRead ch) s fun t =>
      s.Answered t ch f Status.badArg 0 []) ∧
  (∀ s ch (f : Frame) (n : Nat) (l : List Nat), (s.mbx.at ch).running = some f → f.code = 0x0303 → f.opt.testBit 0 = true →
    byteAt f.payload 0 = n → (List.range (byteAt f.payload 1)).map (fun i => word32 f.payload (4 + 4 * i)) = l → n ≤ 7 →
    l ≠ [] → l.length ≤ 11 → profileGood l = true →
    Completes (.pdProfileWrite ch) s fun t =>
      t.profiles.at n = l ∧ (∀ k ∈ List.range 8, k ≠ n → t.profiles.at k = s.profiles.at k)
        ∧ (t.mbx.at ch).running = none ∧ (ch ≤ 1 → (t.lastReply ch).map (·.status) = some 0)) ∧
  (∀ s ch (f : Frame) (n : Nat) (l : List Nat), (s.mbx.at ch).running = some f → f.code = 0x0303 → f.opt.testBit 0 = true →
    byteAt f.payload 0 = n → (List.range (byteAt f.payload 1)).map (fun i => word32 f.payload (4 + 4 * i)) = l →
    ((7 < n ∨ l = [] ∨ 11 < l.length ∨ profileGood l = false)) →
    Completes (.pdProfileWrite ch) s fun t =>
      s.Answered t ch f Status.badArg 0 [] ∧ t.profiles = s.profiles) ∧
  (∀ s ch (f : Frame) (p : Nat), (s.mbx.at ch).running = some f → f.code = 0x0304 → byteAt f.payload 1 = 0 →
    byteAt f.payload 0 = p → (s.mbx.at ch).stage = 0 → s.namedFault ch p = 0 → s.portReady p = true → s.pdLive p = true →
    (s.prSwapSend p).isSome = true →
    Completes (.pdSwapPr ch) s fun t =>
      (t.pd.at p).out = [.prSwap] ∧ (t.pd.at p).swap = .prSent ∧ (t.pd.at p).swapEnd = .pending
        ∧ t.on F.TCPD_PDSTAT_AMS p = true ∧ (t.mbx.at ch).stage = 1 ∧ (t.mbx.at ch).running = some f) ∧
  (∀ s ch (f : Frame) (p : Nat), (s.mbx.at ch).running = some f → f.code = 0x0304 → byteAt f.payload 1 = 0 →
    byteAt f.payload 0 = p → (s.mbx.at ch).stage = 0 → s.namedFault ch p = 0 →
    ((s.portReady p = false ∨ (s.prSwapSend p).isNone = true)) →
    Completes (.pdSwapPr ch) s fun t =>
      s.Answered t ch f Status.state 0 [] ∧ (s.NoneWaits → (t.pd.at p).out = (s.pd.at p).out)) ∧
  (∀ s ch (f : Frame) (p : Nat), (s.mbx.at ch).running = some f → f.code = 0x0304 → byteAt f.payload 1 = 0 →
    byteAt f.payload 0 = p → (s.mbx.at ch).stage = 0 → s.namedFault ch p ≠ 0 →
    Completes (.pdSwapPr ch) s fun t =>
      s.Answered t ch f (s.namedFault ch p) 0 [] ∧ (s.NoneWaits → t.pd = s.pd)) ∧
  (∀ s ch (f : Frame) (p : Nat), (s.mbx.at ch).running = some f → f.code = 0x0304 → byteAt f.payload 1 = 0 →
    byteAt f.payload 0 = p → (s.mbx.at ch).stage ≠ 0 → s.rightsLost ch p = 0 → (s.pd.at p).swapEnd ≠ .pending →
    Completes (.pdSwapPr ch) s fun t =>
      s.Answered t ch f 0 0 [(s.pd.at p).swapEnd.code]) ∧
  (∀ s ch (f : Frame) (p : Nat), (s.mbx.at ch).running = some f → f.code = 0x0304 → byteAt f.payload 1 = 0 →
    byteAt f.payload 0 = p → (s.mbx.at ch).stage ≠ 0 → s.rightsLost ch p = 0 → (s.pd.at p).swapEnd = .pending →
    Completes (.pdSwapPr ch) s fun t =>
      t = s) ∧
  (∀ s ch (f : Frame) (p : Nat), (s.mbx.at ch).running = some f → f.code = 0x0304 → byteAt f.payload 1 = 1 →
    byteAt f.payload 0 = p → (s.mbx.at ch).stage = 0 → s.namedFault ch p = 0 → s.portReady p = true → s.pdLive p = true →
    (s.vconnSwapSend p).isSome = true →
    Completes (.pdSwapVconn ch) s fun t =>
      (t.pd.at p).out = [.vconnSwap] ∧ (t.pd.at p).swap = .vconnSent ∧ (t.pd.at p).swapEnd = .pending
        ∧ t.on F.TCPD_PDSTAT_AMS p = true ∧ (t.mbx.at ch).stage = 1 ∧ (t.mbx.at ch).running = some f) ∧
  (∀ s ch (f : Frame) (p : Nat), (s.mbx.at ch).running = some f → f.code = 0x0304 → byteAt f.payload 1 = 1 →
    byteAt f.payload 0 = p → (s.mbx.at ch).stage = 0 → s.namedFault ch p = 0 →
    ((s.portReady p = false ∨ (s.vconnSwapSend p).isNone = true)) →
    Completes (.pdSwapVconn ch) s fun t =>
      s.Answered t ch f Status.state 0 [] ∧ (s.NoneWaits → (t.pd.at p).out = (s.pd.at p).out)) ∧
  (∀ s ch (f : Frame) (p : Nat), (s.mbx.at ch).running = some f → f.code = 0x0304 → byteAt f.payload 1 = 1 →
    byteAt f.payload 0 = p → (s.mbx.at ch).stage = 0 → s.namedFault ch p ≠ 0 →
    Completes (.pdSwapVconn ch) s fun t =>
      s.Answered t ch f (s.namedFault ch p) 0 [] ∧ (s.NoneWaits → t.pd = s.pd)) ∧
  (∀ s ch (f : Frame) (p : Nat), (s.mbx.at ch).running = some f → f.code = 0x0304 → byteAt f.payload 1 = 1 →
    byteAt f.payload 0 = p → (s.mbx.at ch).stage ≠ 0 → s.rightsLost ch p = 0 → s.fitted p = true → s.ownPort ch p = true →
    (s.pd.at p).swapEnd ≠ .pending →
    Completes (.pdSwapVconn ch) s fun t =>
      s.Answered t ch f 0 0 [(s.pd.at p).swapEnd.code]) ∧
  (∀ s ch (f : Frame) (p : Nat), (s.mbx.at ch).running = some f → f.code = 0x0304 → byteAt f.payload 1 = 1 →
    byteAt f.payload 0 = p → (s.mbx.at ch).stage ≠ 0 → s.rightsLost ch p = 0 → s.fitted p = true → s.ownPort ch p = true →
    (s.pd.at p).swapEnd = .pending →
    Completes (.pdSwapVconn ch) s fun t =>
      t = s) ∧
  (∀ s ch (f : Frame) (p : Nat), (s.mbx.at ch).running = some f → f.code = 0x0305 → byteAt f.payload 1 = 0 →
    byteAt f.payload 0 = p → s.namedFault ch p = 0 → s.portReady p = true → s.pdLive p = true →
    s.ccIn p [.attachedSrc, .attachedSnk] = true →
    Completes (.pdResetSoft ch) s fun t =>
      s.Answered t ch f 0 0 [] ∧ (s.NoneWaits → (t.pd.at p).out = [.softReset])
        ∧ (s.NoneWaits → t.fld F.TCPD_PDCNT1_SRESETS p = (s.fld F.TCPD_PDCNT1_SRESETS p + 1) % 2 ^ 16)) ∧
  (∀ s ch (f : Frame) (p : Nat), (s.mbx.at ch).running = some f → f.code = 0x0305 → byteAt f.payload 1 = 0 →
    byteAt f.payload 0 = p → s.namedFault ch p = 0 →
    ((s.portReady p = false ∨ s.pdLive p = false ∨ s.ccIn p [.attachedSrc, .attachedSnk] = false)) →
    Completes (.pdResetSoft ch) s fun t =>
      s.Answered t ch f Status.state 0 [] ∧ (s.NoneWaits → t.pd = s.pd)) ∧
  (∀ s ch (f : Frame) (p : Nat), (s.mbx.at ch).running = some f → f.code = 0x0305 → byteAt f.payload 1 = 0 →
    byteAt f.payload 0 = p → s.namedFault ch p ≠ 0 →
    Completes (.pdResetSoft ch) s fun t =>
      s.Answered t ch f (s.namedFault ch p) 0 [] ∧ (s.NoneWaits → t.pd = s.pd)) ∧
  (∀ s ch (f : Frame) (p : Nat), (s.mbx.at ch).running = some f → f.code = 0x0305 → byteAt f.payload 1 = 1 →
    byteAt f.payload 0 = p → s.namedFault ch p = 0 → s.portReady p = true → s.pdLive p = true →
    s.ccIn p [.attachedSrc, .attachedSnk] = true →
    Completes (.pdResetHard ch) s fun t =>
      s.Answered t ch f 0 0 [] ∧ (s.NoneWaits → (t.pd.at p).out.head? = some .hardReset)
        ∧ (s.NoneWaits → t.fld F.TCPD_PDCNT1_HRESETS p = (s.fld F.TCPD_PDCNT1_HRESETS p + 1) % 2 ^ 16)) ∧
  (∀ s ch (f : Frame) (p : Nat), (s.mbx.at ch).running = some f → f.code = 0x0305 → byteAt f.payload 1 = 1 →
    byteAt f.payload 0 = p → s.namedFault ch p = 0 →
    ((s.portReady p = false ∨ s.pdLive p = false ∨ s.ccIn p [.attachedSrc, .attachedSnk] = false)) →
    Completes (.pdResetHard ch) s fun t =>
      s.Answered t ch f Status.state 0 [] ∧ (s.NoneWaits → t.pd = s.pd)) ∧
  (∀ s ch (f : Frame) (p : Nat), (s.mbx.at ch).running = some f → f.code = 0x0305 → byteAt f.payload 1 = 1 →
    byteAt f.payload 0 = p → s.namedFault ch p ≠ 0 →
    Completes (.pdResetHard ch) s fun t =>
      s.Answered t ch f (s.namedFault ch p) 0 [] ∧ (s.NoneWaits → t.pd = s.pd)) ∧
  (∀ s ch (f : Frame) (p : Nat), (s.mbx.at ch).running = some f → f.code = 0x0305 → byteAt f.payload 1 = 2 →
    byteAt f.payload 0 = p → s.namedFault ch p = 0 → s.on F.TCPD_PDSTAT_VCSRC p = true → s.portReady p = true →
    s.pdLive p = true → s.ccIn p [.attachedSrc, .attachedSnk] = true →
    Completes (.pdResetCable ch) s fun t =>
      s.Answered t ch f 0 0 [] ∧ (s.NoneWaits → .cableReset ∈ (t.pd.at p).out)
        ∧ (s.NoneWaits → t.on F.TCPD_CABLE_VALID p = false)) ∧
  (∀ s ch (f : Frame) (p : Nat), (s.mbx.at ch).running = some f → f.code = 0x0305 → byteAt f.payload 1 = 2 →
    byteAt f.payload 0 = p → s.namedFault ch p = 0 →
    ((s.portReady p = false ∨ s.pdLive p = false ∨ s.ccIn p [.attachedSrc, .attachedSnk] = false ∨ s.on F.TCPD_PDSTAT_VCSRC p = false)) →
    Completes (.pdResetCable ch) s fun t =>
      s.Answered t ch f Status.state 0 [] ∧ (s.NoneWaits → t.pd = s.pd)) ∧
  (∀ s ch (f : Frame) (p : Nat), (s.mbx.at ch).running = some f → f.code = 0x0305 → byteAt f.payload 1 = 2 →
    byteAt f.payload 0 = p → s.namedFault ch p ≠ 0 →
    Completes (.pdResetCable ch) s fun t =>
      s.Answered t ch f (s.namedFault ch p) 0 [] ∧ (s.NoneWaits → t.pd = s.pd)) ∧
  (∀ s ch (f : Frame) (m : Nat), (s.mbx.at ch).running = some f → f.code = 0x0306 → word32 f.payload 0 = m →
    s.maskFault ch m = 0 →
    Completes (.pdSinkcfg ch) s fun t =>
      s.Answered t ch f (maskAnswer m s.portReady).1 0 (maskAnswer m s.portReady).2
        ∧ (s.NoneWaits → ∀ p ∈ maskPorts m, s.portReady p = true →
          t.stagedFld F.TCPD_SINKCFG_MODE p = word32 f.payload 4 / 2 % 2
          ∧ t.stagedFld F.TCPD_SINKCFG_ISET_A p = word32 f.payload 4 / 256 % 256
          ∧ t.stagedFld F.TCPD_SINKCFG_PDMAX p = word32 f.payload 4 / 2 ^ 26)) ∧
  (∀ s ch good (f : Frame) (c slot flags : Nat), (s.mbx.at ch).running = some f → f.code = 0x0307 → byteAt f.payload 0 = c →
    byteAt f.payload 1 = slot → byteAt f.payload 2 = flags → 1 ≤ c → c ≤ 4 → ((slot ≤ 3 ∨ slot = 0xFF)) →
    ((flags.testBit 0 = false ∨ s.needs Dom.service = true)) →
    ((flags.testBit 1 = false ∨ (s.on F.CAL_STAT_COMMIT 0 = false ∧ s.saveRuns = false ∧ good = true))) →
    Completes (.pdSlot ch good) s fun t =>
      (t.cores.at c).selected = (if slot = 0xFF then 0 else slot + 1) ∧ s.Answered t ch f 0 0 [(s.cores.at c).checked]
        ∧ (flags.testBit 1 = true →
          t.hw.saved.areas.testBit 5 = true
          ∧ t.hw.saved.policy.find? (fun e => e.1 == c) = some (c, if slot = 0xFF then 0 else slot + 1))
        ∧ (flags.testBit 1 = false → t.hw.saved = s.hw.saved)
        ∧ (flags.testBit 0 = true → (t.cores.at c).stage = .off ∧ t.on F.IC_CORECTL_RESET c = true)) ∧
  (∀ s ch good (f : Frame) (c slot flags : Nat), (s.mbx.at ch).running = some f → f.code = 0x0307 → byteAt f.payload 0 = c →
    byteAt f.payload 1 = slot → byteAt f.payload 2 = flags → 1 ≤ c → c ≤ 4 → ((slot ≤ 3 ∨ slot = 0xFF)) →
    flags.testBit 0 = true → s.needs Dom.service = false →
    Completes (.pdSlot ch good) s fun t =>
      s.Answered t ch f Status.state 0 [] ∧ t.cores = s.cores) ∧
  (∀ s ch good (f : Frame) (c slot flags : Nat), (s.mbx.at ch).running = some f → f.code = 0x0307 → byteAt f.payload 0 = c →
    byteAt f.payload 1 = slot → byteAt f.payload 2 = flags → 1 ≤ c → c ≤ 4 → ((slot ≤ 3 ∨ slot = 0xFF)) →
    ((flags.testBit 0 = false ∨ s.needs Dom.service = true)) → flags.testBit 1 = true →
    ((s.on F.CAL_STAT_COMMIT 0 = true ∨ s.saveRuns = true)) →
    Completes (.pdSlot ch good) s fun t =>
      s.Answered t ch f Status.busy 0 [] ∧ t.cores = s.cores) ∧
  (∀ s ch good (f : Frame) (c slot flags : Nat), (s.mbx.at ch).running = some f → f.code = 0x0307 → byteAt f.payload 0 = c →
    byteAt f.payload 1 = slot → byteAt f.payload 2 = flags → 1 ≤ c → c ≤ 4 → ((slot ≤ 3 ∨ slot = 0xFF)) →
    ((flags.testBit 0 = false ∨ s.needs Dom.service = true)) → flags.testBit 1 = true → s.on F.CAL_STAT_COMMIT 0 = false →
    s.saveRuns = false → good = false →
    Completes (.pdSlot ch good) s fun t =>
      s.Answered t ch f Status.hwFault 0 [] ∧ t.cores = s.cores) ∧
  (∀ s ch good (f : Frame) (c slot flags : Nat), (s.mbx.at ch).running = some f → f.code = 0x0307 → byteAt f.payload 0 = c →
    byteAt f.payload 1 = slot → byteAt f.payload 2 = flags → ((c = 0 ∨ 4 < c ∨ (3 < slot ∧ slot ≠ 0xFF))) →
    Completes (.pdSlot ch good) s fun t =>
      s.Answered t ch f Status.badArg 0 [] ∧ t.cores = s.cores)

/-- PWR commands (R454). -/
def Obligations.PowerMailboxCommands : Prop :=
  (∀ s ch (f : Frame), (s.mbx.at ch).running = some f → f.code = 0x0401 → s.linkUp 0 = true →
    Completes (.pwrStatus ch) s fun t =>
      s.Answered t ch f 0 0 (s.reg4 F.GOV_STAT_FEED48 0 ++ s.reg4 F.GOV_PBRD_PBRD 0 ++ s.reg4 F.GOV_SHED_PORTS 0 ++ s.reg4 F.GOV_BRDOFF_PORTS 0 ++ s.reg4 F.GOV_RESV_RESV 0 ++ s.reg4 F.GOV_SAGMIN_VMIN 0 ++ s.reg4 F.GOV_BUDGET_BUDGET 0 ++ s.reg4 F.ENT_HSTAT_STATE 0 ++ s.reg4 F.ENT_FSTAT_A_PRES 0 ++ s.reg4 F.ENT_FV_FEED_A 0 ++ s.reg4 F.ENT_BV_VIN_OR 0 ++ s.reg4 F.ENT_HSM_IHS 0)) ∧
  (∀ s ch (f : Frame), (s.mbx.at ch).running = some f → f.code = 0x0401 → s.linkUp 0 = false →
    Completes (.pwrStatus ch) s fun t =>
      s.Answered t ch f Status.hwFault 0 []) ∧
  (∀ s ch (f : Frame), (s.mbx.at ch).running = some f → f.code = 0x0402 →
    Completes (.pwrGovcfg ch) s fun t =>
      (t.mbx.at ch).running = none ∧ t.stagedFld F.GOV_BUDGET_BUDGET 0 = word32 f.payload 0 % 2 ^ 14
        ∧ t.stagedFld F.GOV_BUDGET_SHEDW 0 = word32 f.payload 0 / 65536 % 256
        ∧ t.stagedFld F.GOV_SAG_VSAG 0 = word32 f.payload 4 % 512
        ∧ t.stagedFld F.GOV_FOLD_FOLD3 0 = word32 f.payload 8 / 2 ^ 24 % 32) ∧
  (∀ s ch (f : Frame), (s.mbx.at ch).running = some f → f.code = 0x0403 →
    Completes (.pwrPrio ch) s fun t =>
      s.Answered t ch f 0 0 [] ∧ t.stagedFld F.GOV_PRIO0_CLASS0 0 = word32 f.payload 0 % 4
        ∧ t.stagedFld F.GOV_PRIO0_CLASS15 0 = word32 f.payload 0 / 2 ^ 30
        ∧ t.stagedFld F.GOV_PRIO1_CLASS7 0 = word32 f.payload 4 / 2 ^ 14 % 4) ∧
  (∀ s ch (f : Frame) (m : Nat), (s.mbx.at ch).running = some f → f.code = 0x0404 → word32 f.payload 0 = m →
    s.maskFault ch m = 0 →
    Completes (.pwrPortcfg ch) s fun t =>
      s.Answered t ch f (maskAnswer m s.portReady).1 0 (maskAnswer m s.portReady).2
        ∧ (s.NoneWaits → ∀ p ∈ maskPorts m, s.portReady p = true →
          t.stagedFld F.PWR_LIM_ILIM p = word32 f.payload 4 % 256 ∧ t.stagedFld F.PWR_TIM_TFLT p = word32 f.payload 8 % 512)
        ∧ (s.NoneWaits → ∀ p ∈ maskPorts m, s.portReady p = true →
          t.stagedFld F.PWR_RETRY_RETRY p = word32 f.payload 12 % 8
          ∧ t.stagedFld F.PWR_THCFG_TTRIP p = word32 f.payload 16 / 65536 % 256)
        ∧ (s.NoneWaits → ∀ p ∈ maskPorts m, t.stagedFld F.PWR_THCFG_RON p = s.stagedFld F.PWR_THCFG_RON p)) ∧
  (∀ s ch (f : Frame) (v m : Nat), (s.mbx.at ch).running = some f → f.code = 0x0405 → byteAt f.payload 0 = v →
    byteAt f.payload 1 = m → s.entOn = true → s.linkUp 0 = true → v.testBit 3 = false →
    Completes (.pwrFeedctl ch) s fun t =>
      (t.mbx.at ch).running = none ∧ (ch ≤ 1 → (t.lastReply ch).map (·.status) = some 0)
        ∧ (s.NoneWaits → s.Answered t ch f 0 0 (t.reg4 F.ENT_HSTAT_STATE 0))
        ∧ (m.testBit 0 = true → t.on F.ENT_HCTL_FOFF_A 0 = v.testBit 0)
        ∧ (m.testBit 1 = true → t.on F.ENT_HCTL_FOFF_B 0 = v.testBit 1)
        ∧ (m.testBit 2 = true → t.on F.ENT_HCTL_HSOFF 0 = v.testBit 2)) ∧
  (∀ s ch (f : Frame) (v m : Nat), (s.mbx.at ch).running = some f → f.code = 0x0405 → byteAt f.payload 0 = v →
    byteAt f.payload 1 = m → s.entOn = true → s.linkUp 0 = true → v.testBit 3 = true → m % 8 = 0 → s.hsIs .latched = true →
    s.hsTemp + 200 < s.hsTtrip →
    Completes (.pwrFeedctl ch) s fun t =>
      t.fld F.ENT_HSTAT_RETRYLEFT 0 = s.fld F.ENT_HSRETRY_RETRY 0 ∧ (t.mbx.at ch).running = none
        ∧ (ch ≤ 1 → (t.lastReply ch).map (·.status) = some 0)) ∧
  (∀ s ch (f : Frame) (v m : Nat), (s.mbx.at ch).running = some f → f.code = 0x0405 → byteAt f.payload 0 = v →
    byteAt f.payload 1 = m → s.entOn = true → s.linkUp 0 = true → v.testBit 3 = true → m % 8 = 0 → s.hsIs .latched = true →
    s.hsTtrip ≤ s.hsTemp + 200 →
    Completes (.pwrFeedctl ch) s fun t =>
      s.Answered t ch f Status.state 0 [] ∧ t.hsIs .latched = true) ∧
  (∀ s ch (f : Frame) (v m : Nat), (s.mbx.at ch).running = some f → f.code = 0x0405 → byteAt f.payload 0 = v →
    byteAt f.payload 1 = m → s.entOn = true → s.linkUp 0 = false →
    Completes (.pwrFeedctl ch) s fun t =>
      s.Answered t ch f Status.hwFault 0 [] ∧ (s.NoneWaits → t.staged = s.staged)) ∧
  (∀ s ch (f : Frame) (v m : Nat), (s.mbx.at ch).running = some f → f.code = 0x0405 → byteAt f.payload 0 = v →
    byteAt f.payload 1 = m → s.entOn = false →
    Completes (.pwrFeedctl ch) s fun t =>
      s.Answered t ch f Status.state 0 [] ∧ (s.NoneWaits → t.staged = s.staged)) ∧
  (∀ s ch (f : Frame) (m : Nat), (s.mbx.at ch).running = some f → f.code = 0x0406 → word32 f.payload 0 = m →
    s.maskFault ch m = 0 →
    Completes (.pwrEnergy ch) s fun t =>
      (s.Answered t ch f 0 0 (energyBytes s.govHw.energy ++ energyBytes s.govHw.delivered ++ (maskPorts m).flatMap fun p => energyBytes (s.pwr.at p).delivered ++ energyBytes (s.pwr.at p).taken))) ∧
  (∀ s ch (f : Frame) (m : Nat), (s.mbx.at ch).running = some f → f.code = 0x0406 → word32 f.payload 0 = m →
    s.maskFault ch m ≠ 0 →
    Completes (.pwrEnergy ch) s fun t =>
      s.Answered t ch f (s.maskFault ch m) 0 [])

/-- TIME commands (R455 to R457). -/
def Obligations.TimeMailboxCommands : Prop :=
  (∀ s ch (f : Frame), (s.mbx.at ch).running = some f → f.code = 0x0501 →
    Completes (.timeGet ch) s fun t =>
      s.Answered t ch f 0 0 (le 8 s.ct ++ [s.sync, s.fld F.CHORD_STAT_HOLDOVER 0 + 2 * s.fld F.RTC_STATUS_RTC_VALID 0 + (if s.apex then 4 else 0)] ++ le 2 (s.fld F.CHORD_STAT_ADDR 0) ++ le 8 s.power.rtcCount ++ le 8 (s.fld F.RTC_EPOCH_LO_EPOCH 0 + 2 ^ 32 * s.fld F.RTC_EPOCH_HI_EPOCH 0))) ∧
  (∀ s ch (f : Frame) (v : Nat), (s.mbx.at ch).running = some f → f.code = 0x0502 → ofLe (f.payload.take 8) = v →
    s.upActive = false →
    Completes (.timeSet ch) s fun t =>
      s.Answered t ch f 0 0 [] ∧ t.chord.timeSet = some (f.opt.testBit 0, v) ∧ t.ct = s.ct) ∧
  (∀ s ch (f : Frame) (v : Nat), (s.mbx.at ch).running = some f → f.code = 0x0502 → ofLe (f.payload.take 8) = v →
    s.upActive = true →
    Completes (.timeSet ch) s fun t =>
      s.Answered t ch f Status.state 0 [] ∧ t.chord.timeSet = s.chord.timeSet) ∧
  (∀ s ch (f : Frame) (w : List Nat) (i : Nat), (s.mbx.at ch).running = some f → f.code = 0x0503 → addWords f.payload = w →
    s.mayAdd ch w = true → ((tatCode w ≠ 0xE ∨ s.hasUpstream (w.getD 5 0 % 4) = true)) → s.tatCheck (tatWords w) = 0 →
    s.tatFree = some i →
    Completes (.timeAdd ch) s fun t =>
      (t.mbx.at ch).running = none ∧ (ch ≤ 1 → (t.lastReply ch).map (·.status) = some 0)
        ∧ (s.NoneWaits → (t.tat.at i).st = 1 ∧ (t.tat.at i).words = tatWords w ∧ (t.tat.at i).channel = some ch)
        ∧ (s.NoneWaits → s.Answered t ch f 0 0 (le 2 i ++ [0, 0] ++ le 4 (t.word7 i)))) ∧
  (∀ s ch (f : Frame) (w : List Nat), (s.mbx.at ch).running = some f → f.code = 0x0503 → addWords f.payload = w →
    s.mayAdd ch w = true → ((tatCode w ≠ 0xE ∨ s.hasUpstream (w.getD 5 0 % 4) = true)) → s.tatCheck (tatWords w) ≠ 0 →
    Completes (.timeAdd ch) s fun t =>
      s.Answered t ch f (addStatus (s.tatCheck (tatWords w))) 100 [] ∧ (s.NoneWaits → t.tat = s.tat)) ∧
  (∀ s ch (f : Frame) (w : List Nat), (s.mbx.at ch).running = some f → f.code = 0x0503 → addWords f.payload = w →
    s.mayAdd ch w = false →
    Completes (.timeAdd ch) s fun t =>
      s.Answered t ch f Status.denied 0 [] ∧ (s.NoneWaits → t.tat = s.tat)) ∧
  (∀ s ch (f : Frame) (w : List Nat), (s.mbx.at ch).running = some f → f.code = 0x0503 → addWords f.payload = w →
    s.mayAdd ch w = true → tatCode w = 0xE → s.hasUpstream (w.getD 5 0 % 4) = false →
    Completes (.timeAdd ch) s fun t =>
      s.Answered t ch f Status.badArg 0 [] ∧ (s.NoneWaits → t.tat = s.tat)) ∧
  (∀ s ch (f : Frame) (i : Nat), (s.mbx.at ch).running = some f → f.code = 0x0504 → half f.payload 0 = i → i ≤ 511 →
    (ownerChannel ch = true ∨ (s.tat.at i).channel = some ch) → (s.tat.at i).st = 1 →
    s.ct + s.lead < tatCt (s.tat.at i).words →
    Completes (.timeCancel ch) s fun t =>
      s.Answered t ch f 0 0 [0] ∧ (s.NoneWaits → (t.tat.at i).st = 0)) ∧
  (∀ s ch (f : Frame) (i : Nat), (s.mbx.at ch).running = some f → f.code = 0x0504 → half f.payload 0 = i → i ≤ 511 →
    (ownerChannel ch = true ∨ (s.tat.at i).channel = some ch) →
    (((s.tat.at i).st ≠ 1 ∨ tatCt (s.tat.at i).words ≤ s.ct + s.lead)) →
    Completes (.timeCancel ch) s fun t =>
      s.Answered t ch f Status.state 0 [] ∧ (s.NoneWaits → t.tat = s.tat)) ∧
  (∀ s ch (f : Frame) (i : Nat), (s.mbx.at ch).running = some f → f.code = 0x0504 → half f.payload 0 = i → i ≤ 511 →
    ownerChannel ch = false → (s.tat.at i).channel ≠ some ch →
    Completes (.timeCancel ch) s fun t =>
      (t.mbx.at ch).running = none
        ∧ t.fld F.MBX_CHCNT1_DENIED (min 7 ch) = (s.fld F.MBX_CHCNT1_DENIED (min 7 ch) + 1) % 2 ^ 16
        ∧ (s.NoneWaits → t.tat = s.tat)) ∧
  (∀ s ch (f : Frame) (i : Nat), (s.mbx.at ch).running = some f → f.code = 0x0504 → half f.payload 0 = i → 511 < i →
    Completes (.timeCancel ch) s fun t =>
      s.Answered t ch f Status.badArg 0 [] ∧ (s.NoneWaits → t.tat = s.tat)) ∧
  (∀ s ch (f : Frame) (i n : Nat), (s.mbx.at ch).running = some f → f.code = 0x0505 → half f.payload 0 = i →
    half f.payload 2 = n → 1 ≤ n → n ≤ 32 → i + n ≤ 512 →
    Completes (.timeList ch) s fun t =>
      (s.Answered t ch f 0 0 ((List.range n).flatMap fun j => ((List.range 7).flatMap fun k => le 4 ((s.tat.at (i + j)).word k)) ++ le 4 (s.word7 (i + j))))) ∧
  (∀ s ch (f : Frame) (i n : Nat), (s.mbx.at ch).running = some f → f.code = 0x0505 → half f.payload 0 = i →
    half f.payload 2 = n → ((n = 0 ∨ 32 < n ∨ 512 < i + n)) →
    Completes (.timeList ch) s fun t =>
      s.Answered t ch f Status.badArg 0 []) ∧
  (∀ s ch (f : Frame) (k n : Nat), (s.mbx.at ch).running = some f → f.code = 0x0506 → byteAt f.payload 0 = k →
    byteAt f.payload 1 = n → s.hasUpstream k = true → 1 ≤ n → n ≤ 64 →
    Completes (.timeSof ch) s fun t =>
      (s.Answered t ch f 0 0 (((s.sofEntries k).take n).flatMap (fun a => s.readBytes a 16)))) ∧
  (∀ s ch (f : Frame) (k n : Nat), (s.mbx.at ch).running = some f → f.code = 0x0506 → byteAt f.payload 0 = k →
    byteAt f.payload 1 = n → ((s.hasUpstream k = false ∨ n = 0 ∨ 64 < n)) →
    Completes (.timeSof ch) s fun t =>
      s.Answered t ch f Status.badArg 0 [])

/-- TRACE commands (R458). -/
def Obligations.TraceMailboxCommands : Prop :=
  (∀ s ch (f : Frame), (s.mbx.at ch).running = some f → f.code = 0x0601 → s.needs Dom.trace = true →
    Completes (.traceStatus ch) s fun t =>
      s.Answered t ch f 0 0 (s.reg4 F.TRC_STAT_STATE 0 ++ s.reg4 F.TRC_CFG_MEM 0 ++ s.reg4 F.TRC_EXP_DEST 0 ++ [0, 0, 0, 0] ++ le 8 s.trc.wr ++ le 8 s.trc.rd ++ le 8 s.trc.oldest ++ le 8 s.trc.trigPos ++ s.reg4 F.TRC_CNT0_DROPS 0 ++ s.reg4 F.TRC_CNT1_STARTS 0 ++ s.reg4 F.TRC_CNT2_SKIPPED 0 ++ [0, 0, 0, 0])) ∧
  (∀ s ch (f : Frame), (s.mbx.at ch).running = some f → f.code = 0x0601 → s.needs Dom.trace = false →
    Completes (.traceStatus ch) s fun t =>
      s.Answered t ch f Status.state 0 []) ∧
  (∀ s ch (f : Frame), (s.mbx.at ch).running = some f → f.code = 0x0602 → s.needs Dom.trace = true → s.capturing = false →
    Completes (.traceCfg ch) s fun t =>
      s.Answered t ch f 0 0 [] ∧ t.fld F.TRC_PORTS_PORTS 0 = word32 f.payload 4
        ∧ t.fld F.TRC_AMATCH_ADDR 7 = word32 f.payload 40 % 2 ^ 7
        ∧ t.fld F.TRC_TRIG_POST 0 = word32 f.payload 44 / 65536 ∧ t.fld F.TRC_TRIGV_VALUE 0 = word32 f.payload 52) ∧
  (∀ s ch (f : Frame), (s.mbx.at ch).running = some f → f.code = 0x0602 → s.needs Dom.trace = true → s.capturing = true →
    Completes (.traceCfg ch) s fun t =>
      s.Answered t ch f Status.state 0 [] ∧ (s.NoneWaits → t.staged = s.staged)) ∧
  (∀ s ch (f : Frame), (s.mbx.at ch).running = some f → f.code = 0x0602 → s.needs Dom.trace = false →
    Completes (.traceCfg ch) s fun t =>
      s.Answered t ch f Status.state 0 [] ∧ (s.NoneWaits → t.staged = s.staged)) ∧
  (∀ s ch (f : Frame), (s.mbx.at ch).running = some f → f.code = 0x0603 → byteAt f.payload 0 = 0 → ownerChannel ch = true →
    s.needs Dom.trace = true →
    Completes (.traceCtlStart ch) s fun t =>
      s.Answered t ch f 0 0 [] ∧ (s.NoneWaits → t.capturing = true)
        ∧ (s.capturing = false → t.fld F.TRC_CNT1_STARTS 0 = (s.fld F.TRC_CNT1_STARTS 0 + 1) % 2 ^ 16)) ∧
  (∀ s ch (f : Frame), (s.mbx.at ch).running = some f → f.code = 0x0603 → byteAt f.payload 0 = 0 → ownerChannel ch = true →
    s.needs Dom.trace = false →
    Completes (.traceCtlStart ch) s fun t =>
      s.Answered t ch f Status.state 0 [] ∧ (s.NoneWaits → t.trc = s.trc)) ∧
  (∀ s ch (f : Frame), (s.mbx.at ch).running = some f → f.code = 0x0603 → byteAt f.payload 0 = 0 → ownerChannel ch = false →
    Completes (.traceCtlStart ch) s fun t =>
      (t.mbx.at ch).running = none
        ∧ t.fld F.MBX_CHCNT1_DENIED (min 7 ch) = (s.fld F.MBX_CHCNT1_DENIED (min 7 ch) + 1) % 2 ^ 16
        ∧ (s.NoneWaits → t.trc = s.trc)) ∧
  (∀ s ch (f : Frame), (s.mbx.at ch).running = some f → f.code = 0x0603 → byteAt f.payload 0 = 1 → ownerChannel ch = true →
    s.needs Dom.trace = true →
    Completes (.traceCtlStop ch) s fun t =>
      s.Answered t ch f 0 0 [] ∧ (s.NoneWaits → t.capturing = false)) ∧
  (∀ s ch (f : Frame), (s.mbx.at ch).running = some f → f.code = 0x0603 → byteAt f.payload 0 = 1 → ownerChannel ch = true →
    s.needs Dom.trace = false →
    Completes (.traceCtlStop ch) s fun t =>
      s.Answered t ch f Status.state 0 [] ∧ (s.NoneWaits → t.trc = s.trc)) ∧
  (∀ s ch (f : Frame), (s.mbx.at ch).running = some f → f.code = 0x0603 → byteAt f.payload 0 = 1 → ownerChannel ch = false →
    Completes (.traceCtlStop ch) s fun t =>
      (t.mbx.at ch).running = none
        ∧ t.fld F.MBX_CHCNT1_DENIED (min 7 ch) = (s.fld F.MBX_CHCNT1_DENIED (min 7 ch) + 1) % 2 ^ 16
        ∧ (s.NoneWaits → t.trc = s.trc)) ∧
  (∀ s ch (f : Frame), (s.mbx.at ch).running = some f → f.code = 0x0603 → byteAt f.payload 0 = 2 → ownerChannel ch = true →
    s.needs Dom.trace = true → s.fld F.TRC_STAT_STATE 0 = 2 → s.trc.trigCt ≠ some s.ct →
    Completes (.traceCtlTrig ch) s fun t =>
      s.Answered t ch f 0 0 [] ∧ (s.NoneWaits → t.on F.TRC_STAT_TRIGGERED 0 = true)
        ∧ (s.NoneWaits → t.fld F.TRC_CNT0_TRIGS 0 = (s.fld F.TRC_CNT0_TRIGS 0 + 1) % 2 ^ 16)) ∧
  (∀ s ch (f : Frame), (s.mbx.at ch).running = some f → f.code = 0x0603 → byteAt f.payload 0 = 2 → ownerChannel ch = true →
    s.needs Dom.trace = true → (s.fld F.TRC_STAT_STATE 0 ≠ 2 ∨ s.trc.trigCt = some s.ct) →
    Completes (.traceCtlTrig ch) s fun t =>
      s.Answered t ch f 0 0 []
        ∧ (s.NoneWaits → t.fld F.TRC_CNT1_TRIGIGN 0 = (s.fld F.TRC_CNT1_TRIGIGN 0 + 1) % 2 ^ 16)) ∧
  (∀ s ch (f : Frame), (s.mbx.at ch).running = some f → f.code = 0x0603 → byteAt f.payload 0 = 2 → ownerChannel ch = true →
    s.needs Dom.trace = false →
    Completes (.traceCtlTrig ch) s fun t =>
      s.Answered t ch f Status.state 0 [] ∧ (s.NoneWaits → t.trc = s.trc)) ∧
  (∀ s ch (f : Frame), (s.mbx.at ch).running = some f → f.code = 0x0603 → byteAt f.payload 0 = 2 → ownerChannel ch = false →
    Completes (.traceCtlTrig ch) s fun t =>
      (t.mbx.at ch).running = none
        ∧ t.fld F.MBX_CHCNT1_DENIED (min 7 ch) = (s.fld F.MBX_CHCNT1_DENIED (min 7 ch) + 1) % 2 ^ 16
        ∧ (s.NoneWaits → t.trc = s.trc)) ∧
  (∀ s ch (f : Frame), (s.mbx.at ch).running = some f → f.code = 0x0603 → byteAt f.payload 0 = 3 → ownerChannel ch = true →
    s.needs Dom.trace = true → s.capturing = false →
    Completes (.traceCtlClear ch) s fun t =>
      s.Answered t ch f 0 0 [] ∧ (s.NoneWaits → t.trc.wr = 0 ∧ t.trc.rd = 0)
        ∧ (s.NoneWaits → t.fld F.TRC_STAT_STATE 0 = 1 ∧ t.on F.TRC_STAT_FULL 0 = false)) ∧
  (∀ s ch (f : Frame), (s.mbx.at ch).running = some f → f.code = 0x0603 → byteAt f.payload 0 = 3 → ownerChannel ch = true →
    s.needs Dom.trace = true → s.capturing = true →
    Completes (.traceCtlClear ch) s fun t =>
      s.Answered t ch f Status.state 0 [] ∧ (s.NoneWaits → t.trc = s.trc)) ∧
  (∀ s ch (f : Frame), (s.mbx.at ch).running = some f → f.code = 0x0603 → byteAt f.payload 0 = 3 → ownerChannel ch = true →
    s.needs Dom.trace = false →
    Completes (.traceCtlClear ch) s fun t =>
      s.Answered t ch f Status.state 0 [] ∧ (s.NoneWaits → t.trc = s.trc)) ∧
  (∀ s ch (f : Frame), (s.mbx.at ch).running = some f → f.code = 0x0603 → byteAt f.payload 0 = 3 → ownerChannel ch = false →
    Completes (.traceCtlClear ch) s fun t =>
      (t.mbx.at ch).running = none
        ∧ t.fld F.MBX_CHCNT1_DENIED (min 7 ch) = (s.fld F.MBX_CHCNT1_DENIED (min 7 ch) + 1) % 2 ^ 16
        ∧ (s.NoneWaits → t.trc = s.trc)) ∧
  (∀ s ch (f : Frame), (s.mbx.at ch).running = some f → f.code = 0x0603 → byteAt f.payload 0 = 4 → s.needs Dom.trace = true →
    Completes (.traceCtlMark ch) s fun t =>
      s.Answered t ch f 0 0 [] ∧ (s.NoneWaits → t.trc = (s.trcMark (word32 f.payload 4)).trc)) ∧
  (∀ s ch (f : Frame), (s.mbx.at ch).running = some f → f.code = 0x0603 → byteAt f.payload 0 = 4 →
    s.needs Dom.trace = false →
    Completes (.traceCtlMark ch) s fun t =>
      s.Answered t ch f Status.state 0 [] ∧ (s.NoneWaits → t.trc = s.trc)) ∧
  (∀ s ch (f : Frame), (s.mbx.at ch).running = some f → f.code = 0x0603 → 4 < byteAt f.payload 0 → ownerChannel ch = true →
    Completes (.traceCtlMark ch) s fun t =>
      s.Answered t ch f Status.badArg 0 [] ∧ (s.NoneWaits → t.trc = s.trc)) ∧
  (∀ s ch (f : Frame), (s.mbx.at ch).running = some f → f.code = 0x0603 → 4 < byteAt f.payload 0 → ownerChannel ch = false →
    Completes (.traceCtlMark ch) s fun t =>
      (t.mbx.at ch).running = none
        ∧ t.fld F.MBX_CHCNT1_DENIED (min 7 ch) = (s.fld F.MBX_CHCNT1_DENIED (min 7 ch) + 1) % 2 ^ 16
        ∧ (s.NoneWaits → t.trc = s.trc)) ∧
  (∀ s ch one two (f : Frame) (keep most : Nat), (s.mbx.at ch).running = some f → f.code = 0x0604 →
    half f.payload 0 = keep → half f.payload 2 = most → 1 ≤ most → most ≤ 1024 → s.needs Dom.trace = true →
    s.fld F.TRC_EXP_DEST 0 = 5 →
    Completes (.traceRead ch one two) s fun t =>
      s.Answered t ch f 0 0 ((s.traceFixed s.trc.rd one two).streamRead keep most).2
        ∧ (s.NoneWaits → t.trc.sent = ((s.traceFixed s.trc.rd one two).streamRead keep most).2.length)
        ∧ (s.NoneWaits → t.trc.sent ≤ most) ∧ (s.NoneWaits → s.trc.lost = 0 → s.trc.wr ≤ s.trc.rd → t.trc.sent = 0)) ∧
  (∀ s ch one two (f : Frame) (keep most : Nat), (s.mbx.at ch).running = some f → f.code = 0x0604 →
    half f.payload 0 = keep → half f.payload 2 = most → 1 ≤ most → most ≤ 1024 →
    ((s.needs Dom.trace = false ∨ s.fld F.TRC_EXP_DEST 0 ≠ 5)) →
    Completes (.traceRead ch one two) s fun t =>
      s.Answered t ch f Status.state 0 [] ∧ (s.NoneWaits → t.trc = s.trc)) ∧
  (∀ s ch one two (f : Frame) (keep most : Nat), (s.mbx.at ch).running = some f → f.code = 0x0604 →
    half f.payload 0 = keep → half f.payload 2 = most → ((most = 0 ∨ 1024 < most)) →
    Completes (.traceRead ch one two) s fun t =>
      s.Answered t ch f Status.badArg 0 [] ∧ (s.NoneWaits → t.trc = s.trc))

/-- FAULT commands (R459) and the gather (R334). -/
def Obligations.FaultMailboxCommands : Prop :=
  (∀ s ch (f : Frame) (id : Nat), (s.mbx.at ch).running = some f → f.code = 0x0701 → f.opt.testBit 0 = false →
    half f.payload 0 = id → fcDefined id = true →
    Completes (.faultStatus ch) s fun t =>
      s.Answered t ch f 0 0 (s.fcWord id F.FC_SCFG_N ++ s.fcWord id F.FC_SSTAT_STATE ++ s.fcWord id F.FC_SCNT_EVENTS)) ∧
  (∀ s ch (f : Frame) (id : Nat), (s.mbx.at ch).running = some f → f.code = 0x0701 → f.opt.testBit 0 = false →
    half f.payload 0 = id → fcDefined id = false →
    Completes (.faultStatus ch) s fun t =>
      s.Answered t ch f Status.badArg 0 []) ∧
  (∀ s ch (f : Frame), (s.mbx.at ch).running = some f → f.code = 0x0701 → f.opt.testBit 0 = true →
    Completes (.faultStatusList ch) s fun t =>
      s.Answered t ch f 0 0 (s.reg4 F.FC_SUM_SEVERE 0 ++ s.reg4 F.FC_ST_BUSY 0 ++ (s.inFault.take 508).flatMap (le 2))) ∧
  (∀ s ch (f : Frame) (id w : Nat), (s.mbx.at ch).running = some f → f.code = 0x0702 → half f.payload 0 = id →
    word32 f.payload 4 = w → fcDefined id = true →
    Completes (.faultCfg ch) s fun t =>
      s.Answered t ch f 0 0 []
        ∧ (s.NoneWaits → fcLocked id = false →
          (t.fcAt id).next.isSome = true ∨ ((t.fcAt id).n = max 1 (w % 256) ∧ (t.fcAt id).window = max 1 (w / 256 % 65536)
          ∧ (t.fcAt id).react = w / 2 ^ 24 % 8))
        ∧ (s.NoneWaits → (s.fcAt id).st = .ok → (s.fcAt id).count = 0 → fcLocked id = false →
          (t.fcAt id).injCount = w.testBit 28 ∧ (t.fcAt id).n = max 1 (w % 256)
          ∧ (t.fcAt id).window = max 1 (w / 256 % 65536) ∧ (t.fcAt id).react = w / 2 ^ 24 % 8)) ∧
  (∀ s ch (f : Frame) (id w : Nat), (s.mbx.at ch).running = some f → f.code = 0x0702 → half f.payload 0 = id →
    word32 f.payload 4 = w → fcDefined id = false →
    Completes (.faultCfg ch) s fun t =>
      s.Answered t ch f Status.badArg 0 [] ∧ (s.NoneWaits → t.fc = s.fc)) ∧
  (∀ s ch (f : Frame) (id : Nat), (s.mbx.at ch).running = some f → f.code = 0x0703 → half f.payload 0 = 1 →
    half f.payload 4 = id → fcDefined id = true → s.mayClear ch id = true → s.fcLive id = true → s.fcCause id = false →
    Completes (.faultClear ch) s fun t =>
      s.Answered t ch f 0 0 [0, 0] ∧ (s.NoneWaits → (t.fcAt id).st = .ok ∧ (t.fcAt id).count = 0)) ∧
  (∀ s ch (f : Frame) (id : Nat), (s.mbx.at ch).running = some f → f.code = 0x0703 → half f.payload 0 = 1 →
    half f.payload 4 = id → fcDefined id = true → s.mayClear ch id = true → s.fcLive id = true → s.fcCause id = true →
    Completes (.faultClear ch) s fun t =>
      s.Answered t ch f Status.state 0 [] ∧ (s.NoneWaits → t.fc.sources = s.fc.sources)
        ∧ t.fld F.FC_CNT2_CLRREFUSE 0 = (s.fld F.FC_CNT2_CLRREFUSE 0 + 1) % 2 ^ 16) ∧
  (∀ s ch (f : Frame) (id : Nat), (s.mbx.at ch).running = some f → f.code = 0x0703 → half f.payload 0 = 1 →
    half f.payload 4 = id → fcDefined id = true → s.mayClear ch id = false →
    Completes (.faultClear ch) s fun t =>
      (t.mbx.at ch).running = none
        ∧ t.fld F.MBX_CHCNT1_DENIED (min 7 ch) = (s.fld F.MBX_CHCNT1_DENIED (min 7 ch) + 1) % 2 ^ 16
        ∧ (s.NoneWaits → t.fc = s.fc)) ∧
  (∀ s ch (f : Frame) (id : Nat), (s.mbx.at ch).running = some f → f.code = 0x0703 → half f.payload 0 = 1 →
    half f.payload 4 = id → fcDefined id = false →
    Completes (.faultClear ch) s fun t =>
      s.Answered t ch f Status.badArg 0 [] ∧ (s.NoneWaits → t.fc = s.fc)) ∧
  (∀ s ch (f : Frame) (id mode : Nat), (s.mbx.at ch).running = some f → f.code = 0x0704 → half f.payload 0 = id →
    byteAt f.payload 2 = mode → mode ≤ 1 → s.fcInjectable id = 0 →
    Completes (.faultInject ch) s fun t =>
      s.Answered t ch f 0 0 [0] ∧ (s.NoneWaits → (t.fcAt id).injected = (s.fcAt id).injected + 1)
        ∧ (s.NoneWaits → mode = 1 → (t.fcAt id).wire = true)) ∧
  (∀ s ch (f : Frame) (id mode : Nat), (s.mbx.at ch).running = some f → f.code = 0x0704 → half f.payload 0 = id →
    byteAt f.payload 2 = mode → mode ≤ 1 → s.fcInjectable id ≠ 0 →
    Completes (.faultInject ch) s fun t =>
      s.Answered t ch f 0 0 [s.fcInjectable id] ∧ (s.NoneWaits → t.fc.sources = s.fc.sources)) ∧
  (∀ s ch (f : Frame) (id mode : Nat), (s.mbx.at ch).running = some f → f.code = 0x0704 → half f.payload 0 = id →
    byteAt f.payload 2 = mode → 1 < mode →
    Completes (.faultInject ch) s fun t =>
      s.Answered t ch f Status.badArg 0 [] ∧ (s.NoneWaits → t.fc = s.fc)) ∧
  (∀ s ch (f : Frame), (s.mbx.at ch).running = some f → f.code = 0x0705 → s.on F.FC_ST_BUSY 0 = false →
    Completes (.faultSelftest ch) s fun t =>
      s.Answered t ch f 0 0 [] ∧ t.on F.FC_ST_BUSY 0 = true ∧ t.fld F.FC_ST_RESULT 0 = 0) ∧
  (∀ s ch (f : Frame), (s.mbx.at ch).running = some f → f.code = 0x0705 → s.on F.FC_ST_BUSY 0 = true →
    Completes (.faultSelftest ch) s fun t =>
      s.Answered t ch f Status.busy 0 [] ∧ t.on F.FC_ST_BUSY 0 = true) ∧
  (∀ s ch (f : Frame), (s.mbx.at ch).running = some f → f.code = 0x0706 → (ch ≠ 6 ∨ f.mode ≠ 2) →
    Completes (.faultSummary ch) s fun t =>
      s.Answered t ch f 0 0 s.logSummary ∧ s.logSummary.length = 32) ∧
  (∀ s ch (f : Frame) (i : ChordIn) (rest : List ChordIn), ch = 6 → (s.mbx.at 6).running = some f → f.code = 0x0706 →
    f.mode = 2 → s.chord.inbox = i :: rest → i.mode = 2 → f.flags.testBit 3 = false → s.apex = true →
    s.chord.gathered < 2048 →
    Completes (.gather ch) s fun t =>
      (t.mbx.at 6).running = none ∧ t.chord.inbox = rest
        ∧ (∀ m ∈ (t.chord.merges.filter (fun (m : ChordMerge) => m.id == i.id)), m.ownDone = true)
        ∧ t.chord.gathered = s.chord.gathered + 1
        ∧ (s.NoneWaits → t.readBytes (0x200C7000 + 32 * s.chord.gathered) 32 = s.logSummary.map (· % 256))) ∧
  (∀ s ch (f : Frame) (i : ChordIn) (rest : List ChordIn), ch = 6 → (s.mbx.at 6).running = some f → f.code = 0x0706 →
    f.mode = 2 → s.chord.inbox = i :: rest → i.mode = 2 → f.flags.testBit 3 = false → s.apex = true →
    2048 ≤ s.chord.gathered →
    Completes (.gather ch) s fun t =>
      (t.mbx.at 6).running = none ∧ t.chord.inbox = rest
        ∧ (∀ m ∈ (t.chord.merges.filter (fun (m : ChordMerge) => m.id == i.id)), m.ownDone = true)
        ∧ t.chord.gatherLost = s.chord.gatherLost + 1 ∧ (s.NoneWaits → t.mem = s.mem)) ∧
  (∀ s ch (f : Frame) (i : ChordIn) (rest : List ChordIn), ch = 6 → (s.mbx.at 6).running = some f → f.code = 0x0706 →
    f.mode = 2 → s.chord.inbox = i :: rest → i.mode = 2 → f.flags.testBit 3 = false → s.apex = false →
    Completes (.gather ch) s fun t =>
      (t.mbx.at 6).running = none ∧ t.chord.inbox = rest
        ∧ (∀ m ∈ (t.chord.merges.filter (fun (m : ChordMerge) => m.id == i.id)), m.ownDone = true)
        ∧ (s.chord.out = [] → t.chord.out = [.response i.link i.id (s.reply f 0 0 s.logSummary)])) ∧
  (∀ s ch (f : Frame) (i : ChordIn) (rest : List ChordIn), ch = 6 → (s.mbx.at 6).running = some f → f.code = 0x0706 →
    f.mode = 2 → s.chord.inbox = i :: rest → i.mode = 2 → f.flags.testBit 3 = true →
    Completes (.gather ch) s fun t =>
      (t.mbx.at 6).running = none ∧ t.chord.inbox = rest
        ∧ (∀ m ∈ (t.chord.merges.filter (fun (m : ChordMerge) => m.id == i.id)), m.ownDone = true)
        ∧ t.chord.gathered = s.chord.gathered ∧ (s.NoneWaits → t.mem = s.mem)) ∧
  (∀ s ch (f : Frame) (a n : Nat), (s.mbx.at ch).running = some f → f.code = 0x0707 → word32 f.payload 0 = a →
    byteAt f.payload 4 = n → 1 ≤ n → n ≤ 32 →
    Completes (.faultLog ch) s fun t =>
      s.Answered t ch f 0 0 (s.logRecords a n) ∧ (s.fld F.LOG_WR_SEQ 0 ≤ a → s.logRecords a n = [])
        ∧ (a < s.fld F.LOG_WR_SEQ 0 → s.fld F.LOG_WR_SEQ 0 ≤ 8192 → s.word (logAddr a + 8) = a →
          (s.logRecords a 1) = s.readBytes (logAddr a) 32)) ∧
  (∀ s ch (f : Frame) (a n : Nat), (s.mbx.at ch).running = some f → f.code = 0x0707 → word32 f.payload 0 = a →
    byteAt f.payload 4 = n → ((n = 0 ∨ 32 < n)) →
    Completes (.faultLog ch) s fun t =>
      s.Answered t ch f Status.badArg 0 [])

/-- CAL (R460), REG (R461), CHORD (R463). -/
def Obligations.CalibrationRegisterAndChordMailboxCommands : Prop :=
  (∀ s ch (f : Frame), (s.mbx.at ch).running = some f → f.code = 0x0801 → f.opt.testBit 0 = false →
    Completes (.calExport ch) s fun t =>
      s.Answered t ch f 0 0 (s.readBytes (calAddr) 1024) ∧ t.hw.cal.out0 = true ∧ t.hw.cal.out1 = s.hw.cal.out1
        ∧ t.on F.CAL_STAT_EXPORTED 0 = (t.hw.cal.out0 && t.hw.cal.out1)) ∧
  (∀ s ch (f : Frame), (s.mbx.at ch).running = some f → f.code = 0x0801 → f.opt.testBit 0 = true →
    Completes (.calExport ch) s fun t =>
      s.Answered t ch f 0 0 (s.readBytes (calAddr + 1024) 176) ∧ t.hw.cal.out1 = true ∧ t.hw.cal.out0 = s.hw.cal.out0
        ∧ t.on F.CAL_STAT_EXPORTED 0 = (t.hw.cal.out0 && t.hw.cal.out1)) ∧
  (∀ s ch (f : Frame), (s.mbx.at ch).running = some f → f.code = 0x0802 → f.opt.testBit 1 = false → f.opt.testBit 0 = false →
    Completes (.calWrite ch) s fun t =>
      s.Answered t ch f 0 0 [] ∧ t.hw.cal.part0 = f.payload ∧ t.hw.cal.part1 = s.hw.cal.part1
        ∧ t.on F.CAL_STAT_STAGED 0 = decide ((t.hw.cal.part0 ++ t.hw.cal.part1).length = 1200)) ∧
  (∀ s ch (f : Frame), (s.mbx.at ch).running = some f → f.code = 0x0802 → f.opt.testBit 1 = false → f.opt.testBit 0 = true →
    Completes (.calWrite ch) s fun t =>
      s.Answered t ch f 0 0 [] ∧ t.hw.cal.part1 = f.payload ∧ t.hw.cal.part0 = s.hw.cal.part0
        ∧ t.on F.CAL_STAT_STAGED 0 = decide ((t.hw.cal.part0 ++ t.hw.cal.part1).length = 1200)) ∧
  (∀ s ch (f : Frame), (s.mbx.at ch).running = some f → f.code = 0x0802 → f.opt.testBit 1 = true →
    Completes (.calWriteCommit ch) s fun t =>
      s.Answered t ch f (s.commitFault (f.opt.testBit 2)) 0 []
        ∧ t.on F.CAL_STAT_COMMIT 0 = (s.on F.CAL_STAT_COMMIT 0 || decide (s.commitFault (f.opt.testBit 2) = 0))
        ∧ t.hw.cal.commit = (if s.commitFault (f.opt.testBit 2) = 0 then calStamp (s.hw.cal.part0 ++ s.hw.cal.part1) ((s.word (calAddr + 8) + 1) % 2 ^ 32) s.ct else s.hw.cal.commit)
        ∧ (s.on F.CAL_STAT_STAGED 0 = false → s.commitFault (f.opt.testBit 2) = Status.badArg)
        ∧ (s.NoneWaits → ch ≤ 6 → ∀ a, (mfChannel ch = false ∨ a < 0x200D8000 ∨ 0x200F8000 ≤ a) →
          readByte t.mem a = readByte s.mem a)) ∧
  (∀ s ch (f : Frame) (a n : Nat), (s.mbx.at ch).running = some f → f.code = 0x0901 → word32 f.payload 0 = a →
    half f.payload 4 = n → 1 ≤ n → n ≤ 256 → s.bit F.MPU_FREEZE_FROZEN 0 (if ch = 6 then 9 else 10) = false →
    Completes (.regRead ch) s fun t =>
      (t.mbx.at ch).running = none) ∧
  (∀ s ch (f : Frame) (a n : Nat), (s.mbx.at ch).running = some f → f.code = 0x0901 → word32 f.payload 0 = a →
    half f.payload 4 = n → n = 1 → s.bit F.MPU_FREEZE_FROZEN 0 (if ch = 6 then 9 else 10) = false →
    s.violates (if ch = 6 then 9 else 10) a 4 .load = 0 → 0x20000000 ≤ a → a < 0x20040000 →
    Completes (.regRead ch) s fun t =>
      s.Answered t ch f 0 0 (s.readBytes a 4)) ∧
  (∀ s ch (f : Frame) (a n : Nat), (s.mbx.at ch).running = some f → f.code = 0x0901 → word32 f.payload 0 = a →
    half f.payload 4 = n → 1 ≤ n → n ≤ 256 → s.bit F.MPU_FREEZE_FROZEN 0 (if ch = 6 then 9 else 10) = false →
    s.violates (if ch = 6 then 9 else 10) a 4 .load ≠ 0 →
    Completes (.regRead ch) s fun t =>
      s.Answered t ch f Status.denied 0 [] ∧ t.bit F.MPU_FREEZE_FROZEN 0 (if ch = 6 then 9 else 10) = true) ∧
  (∀ s ch (f : Frame) (a n : Nat), (s.mbx.at ch).running = some f → f.code = 0x0901 → word32 f.payload 0 = a →
    half f.payload 4 = n → 1 ≤ n → n ≤ 256 → s.bit F.MPU_FREEZE_FROZEN 0 (if ch = 6 then 9 else 10) = true →
    Completes (.regRead ch) s fun t =>
      s.Answered t ch f Status.state 0 []) ∧
  (∀ s ch (f : Frame) (a n : Nat), (s.mbx.at ch).running = some f → f.code = 0x0901 → word32 f.payload 0 = a →
    half f.payload 4 = n → ((n = 0 ∨ 256 < n)) →
    Completes (.regRead ch) s fun t =>
      s.Answered t ch f Status.badArg 0 []) ∧
  (∀ s ch (f : Frame) (a v : Nat), (s.mbx.at ch).running = some f → f.code = 0x0902 → regPairs f.payload = [(a, v)] →
    s.openRegWrite ch = 0 → f.opt.testBit 0 = false → s.bit F.MPU_FREEZE_FROZEN 0 (if ch = 6 then 9 else 10) = false →
    s.violates (if ch = 6 then 9 else 10) a 4 .store = 0 → 0x20000000 ≤ a → a < 0x20040000 →
    Completes (.regWrite ch) s fun t =>
      s.Answered t ch f 0 0 (le 2 1)
        ∧ (s.NoneWaits → ch ≤ 6 → (mfChannel ch = false ∨ a + 4 ≤ 0x200D8000 ∨ 0x200F8000 ≤ a) → t.word a = v)
        ∧ (s.NoneWaits → ch ≤ 6 → ∀ b, (mfChannel ch = false ∨ b < 0x200D8000 ∨ 0x200F8000 ≤ b) → (b < a ∨ a + 4 ≤ b) →
          readByte t.mem b = readByte s.mem b)) ∧
  (∀ s ch (f : Frame) (a v : Nat), (s.mbx.at ch).running = some f → f.code = 0x0902 → regPairs f.payload = [(a, v)] →
    s.openRegWrite ch = 0 → f.opt.testBit 0 = false → s.bit F.MPU_FREEZE_FROZEN 0 (if ch = 6 then 9 else 10) = false →
    s.violates (if ch = 6 then 9 else 10) a 4 .store ≠ 0 →
    Completes (.regWrite ch) s fun t =>
      s.Answered t ch f Status.denied 0 [] ∧ t.bit F.MPU_FREEZE_FROZEN 0 (if ch = 6 then 9 else 10) = true) ∧
  (∀ s ch (f : Frame) (a v : Nat), (s.mbx.at ch).running = some f → f.code = 0x0902 → regPairs f.payload = [(a, v)] →
    s.openRegWrite ch = 0 → f.opt.testBit 0 = false → s.bit F.MPU_FREEZE_FROZEN 0 (if ch = 6 then 9 else 10) = true →
    Completes (.regWrite ch) s fun t =>
      s.Answered t ch f Status.state 0 []) ∧
  (∀ s ch (f : Frame) (a b v w : Nat), (s.mbx.at ch).running = some f → f.code = 0x0902 →
    regPairs f.payload = [(a, v), (b, w)] → s.openRegWrite ch = 0 →
    Completes (.regWrite ch) s fun t =>
      (t.mbx.at ch).running = none
        ∧ (f.opt.testBit 0 = true → oneBlock [(a, v), (b, w)] = none → s.Answered t ch f Status.badArg 0 [])) ∧
  (∀ s ch (f : Frame), (s.mbx.at ch).running = some f → f.code = 0x0902 → ((half f.payload 0 = 0 ∨ 127 < half f.payload 0)) →
    Completes (.regWrite ch) s fun t =>
      s.Answered t ch f Status.badArg 0 []) ∧
  (∀ s ch (f : Frame), (s.mbx.at ch).running = some f → f.code = 0x0A01 →
    Completes (.chordStatus ch) s fun t =>
      (s.Answered t ch f 0 0 (s.reg4 F.CHORD_STAT_SYNC 0 ++ s.reg4 F.CHORD_RANGE_LO 0 ++ s.reg4 F.CHORD_CFG_APEX 0 ++ (List.range 6).flatMap fun l => s.reg4 F.CHORD_LSTAT_STATE l ++ s.reg4 F.CHORD_LCTL_EN l ++ s.reg4 F.CHORD_LRTT_VALUE l ++ s.reg4 F.CHORD_LOFFS_VALUE l))) ∧
  (∀ s ch (f : Frame) (w : Nat), (s.mbx.at ch).running = some f → f.code = 0x0A02 → word32 f.payload 0 = w →
    ((w.testBit 3 = false ∨ s.planBad (planRanges f.payload) = false)) →
    Completes (.chordCfg ch) s fun t =>
      s.Answered t ch f 0 0 [] ∧ (s.NoneWaits → t.stagedFld F.CHORD_CFG_HOLDMAX 0 = w / 256 % 256)
        ∧ t.fld F.CHORD_CFG_RANGEMODE 0 = w / 8 % 2
        ∧ (s.NoneWaits → t.stagedFld F.CHORD_PPS_EN 0 = word32 f.payload 20 % 2)
        ∧ t.fld F.CHORD_CMDTMO_CMDTMO 0 = word32 f.payload 24 % 65536
        ∧ (w.testBit 3 = true →
          ∀ d ∈ List.range 4, t.fld F.CHORD_DNRANGE_DNLO d = half f.payload (4 + 4 * d)
          ∧ t.fld F.CHORD_DNRANGE_DNHI d = half f.payload (6 + 4 * d))) ∧
  (∀ s ch (f : Frame) (w : Nat), (s.mbx.at ch).running = some f → f.code = 0x0A02 → word32 f.payload 0 = w →
    w.testBit 3 = true → s.planBad (planRanges f.payload) = true →
    Completes (.chordCfg ch) s fun t =>
      s.Answered t ch f Status.badArg 0 [] ∧ (s.NoneWaits → t.staged = s.staged)) ∧
  (∀ s ch (f : Frame) (l : Nat), (s.mbx.at ch).running = some f → f.code = 0x0A03 → byteAt f.payload 0 = l → l ≤ 5 →
    -32768 ≤ toInt 32 (word32 f.payload 4) → toInt 32 (word32 f.payload 4) ≤ 32767 →
    Completes (.chordLink ch) s fun t =>
      s.Answered t ch f 0 0 [] ∧ (s.NoneWaits → t.stagedFld F.CHORD_LCTL_EN l = byteAt f.payload 1 % 2)
        ∧ (s.NoneWaits → t.stagedFld F.CHORD_LCTL_ASYM l = ofInt 16 (toInt 32 (word32 f.payload 4)))) ∧
  (∀ s ch (f : Frame) (l : Nat), (s.mbx.at ch).running = some f → f.code = 0x0A03 → byteAt f.payload 0 = l →
    ((5 < l ∨ toInt 32 (word32 f.payload 4) < -32768 ∨ 32767 < toInt 32 (word32 f.payload 4))) →
    Completes (.chordLink ch) s fun t =>
      s.Answered t ch f Status.badArg 0 [] ∧ (s.NoneWaits → t.staged = s.staged)) ∧
  (∀ s ch (f : Frame) (i n : Nat), (s.mbx.at ch).running = some f → f.code = 0x0A04 → half f.payload 0 = i →
    half f.payload 2 = n → 1 ≤ n → n ≤ 31 → i + n ≤ 2048 → s.apex = true →
    Completes (.chordGatherRead ch) s fun t =>
      s.Answered t ch f 0 0 (le 4 s.chord.gathered ++ s.readBytes (0x200C7000 + 32 * i) (32 * n))) ∧
  (∀ s ch (f : Frame) (i n : Nat), (s.mbx.at ch).running = some f → f.code = 0x0A04 → half f.payload 0 = i →
    half f.payload 2 = n → 1 ≤ n → n ≤ 31 → i + n ≤ 2048 → s.apex = false →
    Completes (.chordGatherRead ch) s fun t =>
      s.Answered t ch f Status.state 0 []) ∧
  (∀ s ch (f : Frame) (i n : Nat), (s.mbx.at ch).running = some f → f.code = 0x0A04 → half f.payload 0 = i →
    half f.payload 2 = n → ((n = 0 ∨ 31 < n ∨ 2048 < i + n)) →
    Completes (.chordGatherRead ch) s fun t =>
      s.Answered t ch f Status.badArg 0 [])

/-- What the queued class requests do (R101, R128, R136, R148, R150, R153, R154, R193). -/
def Obligations.PortRequestsActAtTheFrame : Prop :=
  (∀ s b k hw (p : Nat), b = .f → k < 4 → s.staged = [] → (s.parts.at k).requests = [.power p true] → (s.owns k p = true →
    (s.dpe.at p).quarFresh = false) → 1 ≤ p → p ≤ 32 →
    Completes (.stagedWriteApply b k hw) s fun t =>
      (t.parts.at k).requests = [] ∧ t.bit F.PART_HOSTPWR_PWR k (p - 1) = true) ∧
  (∀ s b k hw (p : Nat), b = .f → k < 4 → s.staged = [] → (s.parts.at k).requests = [.power p false] →
    (s.dpe.at p).quarFresh = false → s.owns k p = true → s.dpeIn p [.isolated, .quarantined] = false →
    Completes (.stagedWriteApply b k hw) s fun t =>
      (t.parts.at k).requests = [] ∧ t.bit F.PART_HOSTPWR_PWR k (p - 1) = false ∧ t.dpeIs p .poweredOff = true) ∧
  (∀ s b k hw (p : Nat), b = .f → k < 4 → s.staged = [] → (s.parts.at k).requests = [.reset p] → s.owns k p = true →
    s.dpeIn p [.disabled, .enabled, .transmit, .suspended, .l1, .resuming, .sendEor] = true →
    Completes (.stagedWriteApply b k hw) s fun t =>
      (t.parts.at k).requests = [] ∧ t.dpeIs p .resetting = true) ∧
  (∀ s b k hw (p : Nat), b = .f → k < 4 → s.staged = [] → (s.parts.at k).requests = [.suspend p] → s.owns k p = true →
    s.dpeIn p [.enabled, .l1] = true →
    Completes (.stagedWriteApply b k hw) s fun t =>
      (t.parts.at k).requests = [] ∧ t.dpeIs p .suspended = true) ∧
  (∀ s b k hw (p : Nat), b = .f → k < 4 → s.staged = [] → (s.parts.at k).requests = [.resume p] → s.owns k p = true →
    s.dpeIs p .suspended = true →
    Completes (.stagedWriteApply b k hw) s fun t =>
      (t.parts.at k).requests = [] ∧ t.dpeIs p .resuming = true ∧ (t.dpe.at p).fromL1 = false) ∧
  (∀ s b k hw (p : Nat), b = .f → k < 4 → s.staged = [] → (s.parts.at k).requests = [.disable p] → s.owns k p = true →
    s.dpeIn p [.enabled, .transmit] = true →
    Completes (.stagedWriteApply b k hw) s fun t =>
      (t.parts.at k).requests = [] ∧ t.dpeIs p .disabled = true) ∧
  (∀ s b k hw (p : Nat), b = .f → k < 4 → s.staged = [] → (s.parts.at k).requests = [.exitL1 p] → s.owns k p = true →
    s.dpeIs p .l1 = true →
    Completes (.stagedWriteApply b k hw) s fun t =>
      (t.parts.at k).requests = [] ∧ t.dpeIs p .resuming = true ∧ (t.dpe.at p).fromL1 = true) ∧
  (∀ s b k hw (p sel : Nat), b = .f → k < 4 → s.staged = [] → (s.parts.at k).requests = [.test p sel] → s.owns k p = true →
    s.dpeIn p [.disconnected, .disabled, .suspended] = true →
    Completes (.stagedWriteApply b k hw) s fun t =>
      (t.parts.at k).requests = [] ∧ t.dpeIs p .test = true ∧ (t.dpe.at p).testMode = sel
        ∧ (t.fld F.DPE_STATE_SPEED p = if sel = 5 then 3 else s.fld F.DPE_STATE_SPEED p)) ∧
  (∀ s b k hw (p : Nat), b = .f → k < 4 → s.staged = [] → (s.parts.at k).requests = [.reset p] → p = 33 →
    s.p33In k [.disabled, .enabled, .suspended] = true →
    Completes (.stagedWriteApply b k hw) s fun t =>
      (t.parts.at k).requests = [] ∧ t.p33Is k .resetting = true ∧ t.fld F.MF_STAT_ADDR k = 0) ∧
  (∀ s b k hw (p : Nat), b = .f → k < 4 → s.staged = [] → (s.parts.at k).requests = [.suspend p] → p = 33 →
    s.p33Is k .enabled = true →
    Completes (.stagedWriteApply b k hw) s fun t =>
      (t.parts.at k).requests = [] ∧ t.p33Is k .suspended = true) ∧
  (∀ s b k hw (p : Nat), b = .f → k < 4 → s.staged = [] → (s.parts.at k).requests = [.resume p] → p = 33 →
    s.p33Is k .suspended = true →
    Completes (.stagedWriteApply b k hw) s fun t =>
      (t.parts.at k).requests = [] ∧ t.p33Is k .resuming = true) ∧
  (∀ s b k hw (p : Nat), b = .f → k < 4 → s.staged = [] → (s.parts.at k).requests = [.disable p] → p = 33 →
    s.p33Is k .enabled = true →
    Completes (.stagedWriteApply b k hw) s fun t =>
      (t.parts.at k).requests = [] ∧ t.p33Is k .disabled = true) ∧
  (∀ s b k hw (p : Nat), b = .f → k < 4 → s.staged = [] → (s.parts.at k).requests = [.power p false] → p = 33 →
    Completes (.stagedWriteApply b k hw) s fun t =>
      (t.parts.at k).requests = [] ∧ (t.parts.at k).power33 = false ∧ t.p33Is k .poweredOff = true)
end

