-- ==== Sys2Proof/Laws/Store.lean ====
section
/-! SUPPORT. Laws of the canonical maps: a read after a store, the kept order, the kept form of memory. -/

namespace Sys2Proof.Machine

variable {κ α : Type} [DecidableEq κ]

@[simp] theorem look_nil (d : α) (k : κ) : look d k [] = d := rfl

theorem look_erase_self (d : α) (k : κ) : ∀ l : List (κ × α), look d k (erase k l) = d
  | [] => rfl
  | e :: r => by
    by_cases h : e.1 = k
    · simp only [erase, h, if_true, look_erase_self d k r]
    · simp only [erase, h, if_false, look, look_erase_self d k r]

theorem look_erase_ne (d : α) {k j : κ} (hj : j ≠ k) : ∀ l : List (κ × α), look d j (erase k l) = look d j l
  | [] => rfl
  | e :: r => by
    by_cases h : e.1 = k
    · have : e.1 ≠ j := fun h' => hj (h'.symm.trans h)
      simp only [erase, h, if_true, look_erase_ne d hj r, look]
      rw [if_neg (fun h' : k = j => hj h'.symm)]
    · simp only [erase, h, if_false, look, look_erase_ne d hj r]

theorem look_place_self (lt : κ → κ → Bool) (d : α) (k : κ) (v : α) : ∀ l : List (κ × α), look d k (place lt k v l) = v
  | [] => by simp [place, look]
  | e :: r => by
    by_cases h : e.1 = k
    · simp [place, look, h]
    · by_cases h2 : lt k e.1
      · simp [place, look, h, h2]
      · rw [place, if_neg h, if_neg h2, look, if_neg h]
        exact look_place_self lt d k v r

theorem look_place_ne (lt : κ → κ → Bool) (d : α) {k j : κ} (v : α) (hj : j ≠ k) :
    ∀ l : List (κ × α), look d j (place lt k v l) = look d j l
  | [] => by simp [place, look, hj.symm]
  | e :: r => by
    by_cases h : e.1 = k
    · subst h; simp [place, look, hj.symm]
    · by_cases h2 : lt k e.1
      · simp [place, look, h, h2, hj.symm]
      · rw [place, if_neg h, if_neg h2, look, look, look_place_ne lt d v hj r]

/-- What is stored is read back. -/
theorem look_store_self [DecidableEq α] (lt : κ → κ → Bool) (d : α) (k : κ) (v : α) (l : List (κ × α)) :
    look d k (store lt d k v l) = v := by
  unfold store
  split
  · next h => rw [look_erase_self, h]
  · exact look_place_self lt d k v l

/-- A store leaves every other key as it was. -/
theorem look_store_ne [DecidableEq α] (lt : κ → κ → Bool) (d d' : α) {k j : κ} (v : α) (hj : j ≠ k) (l : List (κ × α)) :
    look d' j (store lt d k v l) = look d' j l := by
  unfold store
  split
  · exact look_erase_ne d' hj l
  · exact look_place_ne lt d' v hj l

/-! ### The order of keys -/

/-- An order that the maps use: its keys compare, and it is transitive. -/
structure KeyOrder (lt : κ → κ → Bool) : Prop where
  trans : ∀ a b c, lt a b = true → lt b c = true → lt a c = true
  total : ∀ a b, a ≠ b → lt a b = false → lt b a = true

theorem natLt_order : KeyOrder natLt where
  trans a b c := by simp only [natLt, decide_eq_true_eq]; omega
  total a b := by simp only [natLt, decide_eq_true_eq, decide_eq_false_iff_not]; omega

theorem slotLt_order : KeyOrder slotLt where
  trans a b c := by
    simp only [slotLt, Bool.or_eq_true, Bool.and_eq_true, decide_eq_true_eq]; omega
  total a b := by
    intro h
    have : a.1 ≠ b.1 ∨ a.2 ≠ b.2 := by
      by_contra hc
      exact h (Prod.ext (by omega) (by omega))
    simp only [slotLt, Bool.or_eq_true, Bool.and_eq_true, decide_eq_true_eq, Bool.or_eq_false_iff, Bool.and_eq_false_iff,
      decide_eq_false_iff_not]
    omega

/-- Every key of the map lies above `k`. -/
def above (lt : κ → κ → Bool) (k : κ) (l : List (κ × α)) : Prop := ∀ e ∈ l, lt k e.1 = true

theorem rising_cons {lt : κ → κ → Bool} (o : KeyOrder lt) (e : κ × α) (l : List (κ × α)) :
    rising lt (e :: l) = true ↔ above lt e.1 l ∧ rising lt l = true := by
  induction l generalizing e with
  | nil => simp [rising, above]
  | cons a l ih =>
    simp only [rising, Bool.and_eq_true, ih a, above, List.forall_mem_cons]
    constructor
    · rintro ⟨h1, h2, h3⟩
      exact ⟨⟨h1, fun b hb => o.trans _ _ _ h1 (h2 b hb)⟩, h2, h3⟩
    · rintro ⟨⟨h1, -⟩, h2, h3⟩
      exact ⟨h1, h2, h3⟩

theorem rising_filter {lt : κ → κ → Bool} (o : KeyOrder lt) (q : κ × α → Bool) (l : List (κ × α))
    (h : rising lt l = true) : rising lt (l.filter q) = true := by
  induction l with
  | nil => rfl
  | cons e l ih =>
    obtain ⟨h1, h2⟩ := (rising_cons o e l).mp h
    by_cases hq : q e
    · rw [List.filter_cons_of_pos hq]
      exact (rising_cons o _ _).mpr ⟨fun b hb => h1 b (List.mem_of_mem_filter hb), ih h2⟩
    · rw [List.filter_cons_of_neg hq]
      exact ih h2

theorem erase_eq_filter (k : κ) (l : List (κ × α)) : erase k l = l.filter (fun e => decide (e.1 ≠ k)) := by
  induction l with
  | nil => rfl
  | cons e l ih => by_cases h : e.1 = k <;> simp [erase, h, ih]

theorem mem_place {lt : κ → κ → Bool} {k : κ} {v : α} {e : κ × α} {l : List (κ × α)} (h : e ∈ place lt k v l) :
    e = (k, v) ∨ e ∈ l := by
  induction l with
  | nil => simpa [place] using h
  | cons a l ih =>
    unfold place at h
    split at h
    · rcases List.mem_cons.mp h with h | h
      · exact .inl h
      · exact .inr (List.mem_cons_of_mem _ h)
    · split at h
      · rcases List.mem_cons.mp h with h | h
        · exact .inl h
        · exact .inr h
      · rcases List.mem_cons.mp h with h | h
        · exact .inr (h ▸ List.mem_cons_self)
        · exact (ih h).imp_right (List.mem_cons_of_mem _)

theorem rising_place {lt : κ → κ → Bool} (o : KeyOrder lt) (k : κ) (v : α) (l : List (κ × α))
    (h : rising lt l = true) : rising lt (place lt k v l) = true := by
  induction l with
  | nil => rfl
  | cons e l ih =>
    obtain ⟨h1, h2⟩ := (rising_cons o e l).mp h
    unfold place
    split
    · next he => exact (rising_cons o _ _).mpr ⟨he ▸ h1, h2⟩
    · next hne =>
      split
      · next hlt =>
        refine (rising_cons o _ _).mpr ⟨fun b hb => ?_, h⟩
        rcases List.mem_cons.mp hb with rfl | hb
        · exact hlt
        · exact o.trans _ _ _ hlt (h1 b hb)
      · next hlt =>
        refine (rising_cons o _ _).mpr ⟨fun b hb => ?_, ih h2⟩
        rcases mem_place hb with rfl | hb
        · exact o.total _ _ (Ne.symm hne) (by simpa using hlt)
        · exact h1 b hb

/-- A store keeps the order of the keys. -/
theorem rising_store [DecidableEq α] {lt : κ → κ → Bool} (o : KeyOrder lt) (d : α) (k : κ) (v : α) (l : List (κ × α))
    (h : rising lt l = true) : rising lt (store lt d k v l) = true := by
  unfold store
  split
  · rw [erase_eq_filter]; exact rising_filter o _ l h
  · exact rising_place o k v l h

/-! ### Memory -/

theorem Memory.wf_iff (m : List Host.Cell) : Memory.wf m = true ↔ rising natLt m = true ∧ ∀ e ∈ m, e.2 ≠ unlisted e.1 := by
  simp [Memory.wf, List.all_eq_true]

/-- A byte written keeps the canonical form. -/
theorem Memory.wf_writeByte (m : List Host.Cell) (a : Nat) (v : Byte) (h : Memory.wf m = true) :
    Memory.wf (writeByte m a v) = true := by
  obtain ⟨h1, h2⟩ := (Memory.wf_iff m).mp h
  refine (Memory.wf_iff _).mpr ⟨rising_store natLt_order _ _ _ _ h1, fun e he => ?_⟩
  unfold writeByte store at he
  split at he
  · rw [erase_eq_filter] at he; exact h2 e (List.mem_of_mem_filter he)
  · next hv =>
    rcases mem_place he with rfl | he
    · exact hv
    · exact h2 e he

/-- Bytes dropped keep the canonical form. -/
theorem Memory.wf_filter (m : List Host.Cell) (q : Host.Cell → Bool) (h : Memory.wf m = true) :
    Memory.wf (m.filter q) = true := by
  obtain ⟨h1, h2⟩ := (Memory.wf_iff m).mp h
  exact (Memory.wf_iff _).mpr ⟨rising_filter natLt_order q m h1, fun e he => h2 e (List.mem_of_mem_filter he)⟩

@[simp] theorem readByte_writeByte_self (m : List Host.Cell) (a : Nat) (v : Byte) : readByte (writeByte m a v) a = v :=
  look_store_self _ _ _ _ _

theorem readByte_writeByte_ne (m : List Host.Cell) {a b : Nat} (v : Byte) (h : b ≠ a) :
    readByte (writeByte m a v) b = readByte m b := look_store_ne _ _ _ _ h _

/-- Dropping entries by address leaves the bytes kept as they were. -/
theorem readByte_filter (m : List Host.Cell) (q : Nat → Bool) (a : Nat) (h : q a = true) :
    readByte (m.filter (fun e => q e.1)) a = readByte m a := by
  unfold readByte
  generalize unlisted a = d
  induction m with
  | nil => rfl
  | cons e m ih =>
    by_cases hq : q e.1 = true
    · rw [List.filter_cons_of_pos (by simpa using hq)]; simp only [look, ih]
    · rw [List.filter_cons_of_neg (by simpa using hq), ih]
      have : e.1 ≠ a := fun he => hq (he ▸ h)
      simp only [look, this, if_false]

/-- Dropping entries by address: a byte dropped reads as an unlisted one. -/
theorem readByte_filter_none (m : List Host.Cell) (q : Nat → Bool) (a : Nat) (h : q a = false) :
    readByte (m.filter (fun e => q e.1)) a = unlisted a := by
  unfold readByte
  generalize unlisted a = d
  induction m with
  | nil => rfl
  | cons e m ih =>
    by_cases hq : q e.1 = true
    · rw [List.filter_cons_of_pos (by simpa using hq)]
      have : e.1 ≠ a := fun he => by rw [he, h] at hq; cases hq
      simp only [look, this, if_false, ih]
    · rw [List.filter_cons_of_neg (by simpa using hq), ih]

end Sys2Proof.Machine
end

