-- ==== Sys2Proof/Laws/Via.lean ====
section
/-! SUPPORT. What an operation of the model can do to the state: `Via m s t` says that `t` comes from `s` by writes of
fields, writes and erasures of memory at or above 0x0800_1000, drops of fields or of memory bytes, and changes of records,
all within the zones whose bits `m` holds.  From it follow the frame, the canonical form and the factory sector. -/

namespace Sys2Proof.Machine

set_option linter.unusedTactic false
set_option linter.unreachableTactic false
set_option linter.unusedSimpArgs false
set_option linter.unusedVariables false

/-- The bit of a zone in a mask. -/
def Zone.code : Zone → Nat
  | .reg .pmu => 0
  | .reg .rtc => 1
  | .reg .mpu => 2
  | .reg .d2d => 3
  | .reg .die => 4
  | .reg .part => 5
  | .reg .dpe => 6
  | .reg .dsw => 7
  | .reg .tt => 8
  | .reg .mf => 9
  | .reg .tcpd => 10
  | .reg .pwr => 11
  | .reg .adc => 12
  | .reg .ent => 13
  | .reg .gov => 14
  | .reg .chord => 15
  | .reg .tat => 16
  | .reg .trc => 17
  | .reg .bbc => 18
  | .reg .ic => 19
  | .reg .sys => 20
  | .reg .qspi => 21
  | .reg .fc => 22
  | .reg .log => 23
  | .reg .cal => 24
  | .reg .mbx => 25
  | .reg .tgt => 26
  | .mem => 27
  | .staged => 28
  | .ct => 29
  | .power => 30
  | .nvmCfg => 31
  | .fwCopy => 32
  | .snaps => 33
  | .frozen => 34
  | .parts => 35
  | .migs => 36
  | .dpe => 37
  | .pool => 38
  | .tt => 39
  | .mf => 40
  | .cc => 41
  | .pd => 42
  | .profiles => 43
  | .pwr => 44
  | .gov => 45
  | .govHw => 46
  | .ent => 47
  | .bcq => 48
  | .chord => 49
  | .links => 50
  | .tat => 51
  | .tatOrder => 52
  | .trc => 53
  | .mbx => 54
  | .cores => 55
  | .hw => 56
  | .fc => 57
  | .log => 58
  | .free => 59
  | .tatOps => 60

theorem Zone.mem_all (z : Zone) : z ∈ Zone.all := by
  cases z with
  | reg b => cases b <;> decide
  | mem => decide
  | staged => decide
  | ct => decide
  | power => decide
  | nvmCfg => decide
  | fwCopy => decide
  | snaps => decide
  | frozen => decide
  | parts => decide
  | migs => decide
  | dpe => decide
  | pool => decide
  | tt => decide
  | mf => decide
  | cc => decide
  | pd => decide
  | profiles => decide
  | pwr => decide
  | gov => decide
  | govHw => decide
  | ent => decide
  | bcq => decide
  | chord => decide
  | links => decide
  | tat => decide
  | tatOrder => decide
  | trc => decide
  | mbx => decide
  | cores => decide
  | hw => decide
  | fc => decide
  | log => decide
  | free => decide
  | tatOps => decide

/-- The records agree outside the mask. -/
structure SameRecords (m : Nat) (s t : State) : Prop where
  staged : m.testBit 28 = false → t.staged = s.staged
  ct : m.testBit 29 = false → t.ct = s.ct
  power : m.testBit 30 = false → t.power = s.power
  nvmCfg : m.testBit 31 = false → t.nvmCfg = s.nvmCfg
  fwCopy : m.testBit 32 = false → t.fwCopy = s.fwCopy
  snaps : m.testBit 33 = false → t.snaps = s.snaps
  frozen : m.testBit 34 = false → t.frozen = s.frozen
  parts : m.testBit 35 = false → t.parts = s.parts
  migs : m.testBit 36 = false → t.migs = s.migs
  dpe : m.testBit 37 = false → t.dpe = s.dpe
  pool : m.testBit 38 = false → t.pool = s.pool
  tt : m.testBit 39 = false → t.tt = s.tt
  mf : m.testBit 40 = false → t.mf = s.mf
  cc : m.testBit 41 = false → t.cc = s.cc
  pd : m.testBit 42 = false → t.pd = s.pd
  profiles : m.testBit 43 = false → t.profiles = s.profiles
  pwr : m.testBit 44 = false → t.pwr = s.pwr
  gov : m.testBit 45 = false → t.gov = s.gov
  govHw : m.testBit 46 = false → t.govHw = s.govHw
  ent : m.testBit 47 = false → t.ent = s.ent
  bcq : m.testBit 48 = false → t.bcq = s.bcq
  chord : m.testBit 49 = false → t.chord = s.chord
  links : m.testBit 50 = false → t.links = s.links
  tat : m.testBit 51 = false → t.tat = s.tat
  tatOrder : m.testBit 52 = false → t.tatOrder = s.tatOrder
  trc : m.testBit 53 = false → t.trc = s.trc
  mbx : m.testBit 54 = false → t.mbx = s.mbx
  cores : m.testBit 55 = false → t.cores = s.cores
  hw : m.testBit 56 = false → t.hw = s.hw
  fc : m.testBit 57 = false → t.fc = s.fc
  log : m.testBit 58 = false → t.log = s.log
  free : m.testBit 59 = false → t.free = s.free
  tatOps : m.testBit 60 = false → t.tatOps = s.tatOps

/-- Every block's bit is in the mask. -/
def allRegs : Nat := 2 ^ 27 - 1

/-- What an operation can do: see the head of this file. -/
inductive Via (m : Nat) : State → State → Prop
  | refl (s) : Via m s s
  | setFld {s t} (f : Field) (i v : Nat) : m.testBit (Zone.reg (blockOf f.id)).code = true → Via m s t → Via m s (t.setFld f i v)
  | write {s t} (a : Nat) (l : List Nat) : m.testBit 27 = true → 0x08001000 ≤ a → Via m s t → Via m s (t.writeBytes a l)
  | keepMem {s t} (q : Nat → Bool) : m.testBit 27 = true → (∀ a, 0x08000000 ≤ a → a < 0x08001000 → q a = true) → Via m s t →
      Via m s { t with mem := t.mem.filter (fun e => q e.1) }
  | keepRegs {s t} (q : (Nat × Nat) × Nat → Bool) : Nat.land allRegs m = allRegs → Via m s t →
      Via m s { t with regs := t.regs.filter q }
  | records {s t} (u : State) : u.pending = t.pending → u.regs = t.regs → u.mem = t.mem → SameRecords m t u → Via m s t →
      Via m s u

variable {m n : Nat} {s t u : State}

theorem SameRecords.refl (s : State) : SameRecords m s s where
  staged _ := rfl
  ct _ := rfl
  power _ := rfl
  nvmCfg _ := rfl
  fwCopy _ := rfl
  snaps _ := rfl
  frozen _ := rfl
  parts _ := rfl
  migs _ := rfl
  dpe _ := rfl
  pool _ := rfl
  tt _ := rfl
  mf _ := rfl
  cc _ := rfl
  pd _ := rfl
  profiles _ := rfl
  pwr _ := rfl
  gov _ := rfl
  govHw _ := rfl
  ent _ := rfl
  bcq _ := rfl
  chord _ := rfl
  links _ := rfl
  tat _ := rfl
  tatOrder _ := rfl
  trc _ := rfl
  mbx _ := rfl
  cores _ := rfl
  hw _ := rfl
  fc _ := rfl
  log _ := rfl
  free _ := rfl
  tatOps _ := rfl

theorem testBit_mono (h : Nat.land n m = n) {k : Nat} (hk : n.testBit k = true) : m.testBit k = true := by
  have : (Nat.land n m).testBit k = (n.testBit k && m.testBit k) := Nat.testBit_and n m k
  rw [h, hk] at this
  simpa using this.symm

theorem testMono {k : Nat} (h : Nat.land k n = k) (h' : Nat.land n m = n) : Nat.land k m = k := by
  refine Nat.eq_of_testBit_eq fun j => ?_
  have e : (Nat.land k m).testBit j = (k.testBit j && m.testBit j) := Nat.testBit_and _ _ j
  rw [e]
  cases hj : k.testBit j
  · rfl
  · rw [testBit_mono h' (testBit_mono h hj)]; rfl

theorem SameRecords.mono (h : Nat.land n m = n) (d : SameRecords n s t) : SameRecords m s t := by
  have key : ∀ k, m.testBit k = false → n.testBit k = false := by
    intro k hk
    by_contra hc
    rw [testBit_mono h (by simpa using hc)] at hk
    cases hk
  exact {
    staged := fun hk => d.staged (key _ hk)
    ct := fun hk => d.ct (key _ hk)
    power := fun hk => d.power (key _ hk)
    nvmCfg := fun hk => d.nvmCfg (key _ hk)
    fwCopy := fun hk => d.fwCopy (key _ hk)
    snaps := fun hk => d.snaps (key _ hk)
    frozen := fun hk => d.frozen (key _ hk)
    parts := fun hk => d.parts (key _ hk)
    migs := fun hk => d.migs (key _ hk)
    dpe := fun hk => d.dpe (key _ hk)
    pool := fun hk => d.pool (key _ hk)
    tt := fun hk => d.tt (key _ hk)
    mf := fun hk => d.mf (key _ hk)
    cc := fun hk => d.cc (key _ hk)
    pd := fun hk => d.pd (key _ hk)
    profiles := fun hk => d.profiles (key _ hk)
    pwr := fun hk => d.pwr (key _ hk)
    gov := fun hk => d.gov (key _ hk)
    govHw := fun hk => d.govHw (key _ hk)
    ent := fun hk => d.ent (key _ hk)
    bcq := fun hk => d.bcq (key _ hk)
    chord := fun hk => d.chord (key _ hk)
    links := fun hk => d.links (key _ hk)
    tat := fun hk => d.tat (key _ hk)
    tatOrder := fun hk => d.tatOrder (key _ hk)
    trc := fun hk => d.trc (key _ hk)
    mbx := fun hk => d.mbx (key _ hk)
    cores := fun hk => d.cores (key _ hk)
    hw := fun hk => d.hw (key _ hk)
    fc := fun hk => d.fc (key _ hk)
    log := fun hk => d.log (key _ hk)
    free := fun hk => d.free (key _ hk)
    tatOps := fun hk => d.tatOps (key _ hk) }

theorem Via.mono (h : Nat.land n m = n) (d : Via n s t) : Via m s t := by
  induction d with
  | refl => exact .refl _
  | setFld f i v hb _ ih => exact .setFld f i v (testBit_mono h hb) ih
  | write a l hb ha _ ih => exact .write a l (testBit_mono h hb) ha ih
  | keepMem q hb hq _ ih => exact .keepMem q (testBit_mono h hb) hq ih
  | keepRegs q hb _ ih =>
    refine .keepRegs q ?_ ih
    refine Nat.eq_of_testBit_eq fun k => ?_
    have : (Nat.land allRegs m).testBit k = (allRegs.testBit k && m.testBit k) := Nat.testBit_and _ _ k
    rw [this]
    cases hk : allRegs.testBit k
    · rfl
    · rw [testBit_mono h (testBit_mono hb hk)]; rfl
  | records u h1 h2 h3 h4 _ ih => exact .records u h1 h2 h3 (h4.mono h) ih

theorem Via.trans (d : Via m s t) (e : Via m t u) : Via m s u := by
  induction e with
  | refl => exact d
  | setFld f i v hb _ ih => exact .setFld f i v hb ih
  | write a l hb ha _ ih => exact .write a l hb ha ih
  | keepMem q hb hq _ ih => exact .keepMem q hb hq ih
  | keepRegs q hb _ ih => exact .keepRegs q hb ih
  | records u h1 h2 h3 h4 _ ih => exact .records u h1 h2 h3 h4 ih

/-- An operation with a smaller mask follows. -/
theorem Via.then (e : Via n t u) (h : Nat.land n m = n) (d : Via m s t) : Via m s u := d.trans (e.mono h)

theorem Via.ite (c : Prop) [Decidable c] (d : Via m s t) (e : Via m s u) : Via m s (if c then t else u) := by
  split <;> assumption

theorem Via.bite (c : Bool) (d : Via m s t) (e : Via m s u) : Via m s (if c = true then t else u) := by
  split <;> assumption

theorem Via.foldl {α : Type} (f : State → α → State) (h : ∀ s x, Via m s (f s x)) (l : List α) (s : State) :
    Via m s (l.foldl f s) := by
  induction l generalizing s with
  | nil => exact .refl _
  | cons a l ih => exact (h s a).trans (ih _)

theorem Via.foldlThen {α : Type} (f : State → α → State) (l : List α) (h : ∀ s x, Via m s (f s x)) (d : Via m s t) :
    Via m s (l.foldl f t) := d.trans (.foldl f h l t)

theorem Via.foldlFst {α β : Type} (f : State × β → α → State × β) (l : List α) (p : State × β)
    (h : ∀ p x, Via m p.1 (f p x).1) (d : Via m s p.1) : Via m s (l.foldl f p).1 := by
  induction l generalizing p with
  | nil => exact d
  | cons a l ih => exact ih _ (d.trans (h p a))

theorem Via.each (l : List Nat) (f : State → Nat → State) (h : ∀ s x, Via m s (f s x)) (d : Via m s t) :
    Via m s (t.each l f) := d.trans (.foldl f h l t)

theorem Via.when (b : Bool) (f : State → State) (h : ∀ s, Via m s (f s)) (d : Via m s t) : Via m s (t.when b f) := by
  unfold State.when
  split
  · exact d.trans (h t)
  · exact d

theorem Via.set_staged (v) (h : m.testBit 28 = true) (d : Via m s t) : Via m s { t with staged := v } :=
  .records (t := t) _ rfl rfl rfl (by
    constructor
    all_goals first | exact fun _ => rfl | (intro h'; rw [h] at h'; cases h')) d

theorem Via.set_ct (v) (h : m.testBit 29 = true) (d : Via m s t) : Via m s { t with ct := v } :=
  .records (t := t) _ rfl rfl rfl (by
    constructor
    all_goals first | exact fun _ => rfl | (intro h'; rw [h] at h'; cases h')) d

theorem Via.set_power (v) (h : m.testBit 30 = true) (d : Via m s t) : Via m s { t with power := v } :=
  .records (t := t) _ rfl rfl rfl (by
    constructor
    all_goals first | exact fun _ => rfl | (intro h'; rw [h] at h'; cases h')) d

theorem Via.set_nvmCfg (v) (h : m.testBit 31 = true) (d : Via m s t) : Via m s { t with nvmCfg := v } :=
  .records (t := t) _ rfl rfl rfl (by
    constructor
    all_goals first | exact fun _ => rfl | (intro h'; rw [h] at h'; cases h')) d

theorem Via.set_fwCopy (v) (h : m.testBit 32 = true) (d : Via m s t) : Via m s { t with fwCopy := v } :=
  .records (t := t) _ rfl rfl rfl (by
    constructor
    all_goals first | exact fun _ => rfl | (intro h'; rw [h] at h'; cases h')) d

theorem Via.set_snaps (v) (h : m.testBit 33 = true) (d : Via m s t) : Via m s { t with snaps := v } :=
  .records (t := t) _ rfl rfl rfl (by
    constructor
    all_goals first | exact fun _ => rfl | (intro h'; rw [h] at h'; cases h')) d

theorem Via.set_frozen (v) (h : m.testBit 34 = true) (d : Via m s t) : Via m s { t with frozen := v } :=
  .records (t := t) _ rfl rfl rfl (by
    constructor
    all_goals first | exact fun _ => rfl | (intro h'; rw [h] at h'; cases h')) d

theorem Via.set_parts (v) (h : m.testBit 35 = true) (d : Via m s t) : Via m s { t with parts := v } :=
  .records (t := t) _ rfl rfl rfl (by
    constructor
    all_goals first | exact fun _ => rfl | (intro h'; rw [h] at h'; cases h')) d

theorem Via.set_migs (v) (h : m.testBit 36 = true) (d : Via m s t) : Via m s { t with migs := v } :=
  .records (t := t) _ rfl rfl rfl (by
    constructor
    all_goals first | exact fun _ => rfl | (intro h'; rw [h] at h'; cases h')) d

theorem Via.set_dpe (v) (h : m.testBit 37 = true) (d : Via m s t) : Via m s { t with dpe := v } :=
  .records (t := t) _ rfl rfl rfl (by
    constructor
    all_goals first | exact fun _ => rfl | (intro h'; rw [h] at h'; cases h')) d

theorem Via.set_pool (v) (h : m.testBit 38 = true) (d : Via m s t) : Via m s { t with pool := v } :=
  .records (t := t) _ rfl rfl rfl (by
    constructor
    all_goals first | exact fun _ => rfl | (intro h'; rw [h] at h'; cases h')) d

theorem Via.set_tt (v) (h : m.testBit 39 = true) (d : Via m s t) : Via m s { t with tt := v } :=
  .records (t := t) _ rfl rfl rfl (by
    constructor
    all_goals first | exact fun _ => rfl | (intro h'; rw [h] at h'; cases h')) d

theorem Via.set_mf (v) (h : m.testBit 40 = true) (d : Via m s t) : Via m s { t with mf := v } :=
  .records (t := t) _ rfl rfl rfl (by
    constructor
    all_goals first | exact fun _ => rfl | (intro h'; rw [h] at h'; cases h')) d

theorem Via.set_cc (v) (h : m.testBit 41 = true) (d : Via m s t) : Via m s { t with cc := v } :=
  .records (t := t) _ rfl rfl rfl (by
    constructor
    all_goals first | exact fun _ => rfl | (intro h'; rw [h] at h'; cases h')) d

theorem Via.set_pd (v) (h : m.testBit 42 = true) (d : Via m s t) : Via m s { t with pd := v } :=
  .records (t := t) _ rfl rfl rfl (by
    constructor
    all_goals first | exact fun _ => rfl | (intro h'; rw [h] at h'; cases h')) d

theorem Via.set_profiles (v) (h : m.testBit 43 = true) (d : Via m s t) : Via m s { t with profiles := v } :=
  .records (t := t) _ rfl rfl rfl (by
    constructor
    all_goals first | exact fun _ => rfl | (intro h'; rw [h] at h'; cases h')) d

theorem Via.set_pwr (v) (h : m.testBit 44 = true) (d : Via m s t) : Via m s { t with pwr := v } :=
  .records (t := t) _ rfl rfl rfl (by
    constructor
    all_goals first | exact fun _ => rfl | (intro h'; rw [h] at h'; cases h')) d

theorem Via.set_gov (v) (h : m.testBit 45 = true) (d : Via m s t) : Via m s { t with gov := v } :=
  .records (t := t) _ rfl rfl rfl (by
    constructor
    all_goals first | exact fun _ => rfl | (intro h'; rw [h] at h'; cases h')) d

theorem Via.set_govHw (v) (h : m.testBit 46 = true) (d : Via m s t) : Via m s { t with govHw := v } :=
  .records (t := t) _ rfl rfl rfl (by
    constructor
    all_goals first | exact fun _ => rfl | (intro h'; rw [h] at h'; cases h')) d

theorem Via.set_ent (v) (h : m.testBit 47 = true) (d : Via m s t) : Via m s { t with ent := v } :=
  .records (t := t) _ rfl rfl rfl (by
    constructor
    all_goals first | exact fun _ => rfl | (intro h'; rw [h] at h'; cases h')) d

theorem Via.set_bcq (v) (h : m.testBit 48 = true) (d : Via m s t) : Via m s { t with bcq := v } :=
  .records (t := t) _ rfl rfl rfl (by
    constructor
    all_goals first | exact fun _ => rfl | (intro h'; rw [h] at h'; cases h')) d

theorem Via.set_chord (v) (h : m.testBit 49 = true) (d : Via m s t) : Via m s { t with chord := v } :=
  .records (t := t) _ rfl rfl rfl (by
    constructor
    all_goals first | exact fun _ => rfl | (intro h'; rw [h] at h'; cases h')) d

theorem Via.set_links (v) (h : m.testBit 50 = true) (d : Via m s t) : Via m s { t with links := v } :=
  .records (t := t) _ rfl rfl rfl (by
    constructor
    all_goals first | exact fun _ => rfl | (intro h'; rw [h] at h'; cases h')) d

theorem Via.set_tat (v) (h : m.testBit 51 = true) (d : Via m s t) : Via m s { t with tat := v } :=
  .records (t := t) _ rfl rfl rfl (by
    constructor
    all_goals first | exact fun _ => rfl | (intro h'; rw [h] at h'; cases h')) d

theorem Via.set_tatOrder (v) (h : m.testBit 52 = true) (d : Via m s t) : Via m s { t with tatOrder := v } :=
  .records (t := t) _ rfl rfl rfl (by
    constructor
    all_goals first | exact fun _ => rfl | (intro h'; rw [h] at h'; cases h')) d

theorem Via.set_trc (v) (h : m.testBit 53 = true) (d : Via m s t) : Via m s { t with trc := v } :=
  .records (t := t) _ rfl rfl rfl (by
    constructor
    all_goals first | exact fun _ => rfl | (intro h'; rw [h] at h'; cases h')) d

theorem Via.set_mbx (v) (h : m.testBit 54 = true) (d : Via m s t) : Via m s { t with mbx := v } :=
  .records (t := t) _ rfl rfl rfl (by
    constructor
    all_goals first | exact fun _ => rfl | (intro h'; rw [h] at h'; cases h')) d

theorem Via.set_cores (v) (h : m.testBit 55 = true) (d : Via m s t) : Via m s { t with cores := v } :=
  .records (t := t) _ rfl rfl rfl (by
    constructor
    all_goals first | exact fun _ => rfl | (intro h'; rw [h] at h'; cases h')) d

theorem Via.set_hw (v) (h : m.testBit 56 = true) (d : Via m s t) : Via m s { t with hw := v } :=
  .records (t := t) _ rfl rfl rfl (by
    constructor
    all_goals first | exact fun _ => rfl | (intro h'; rw [h] at h'; cases h')) d

theorem Via.set_fc (v) (h : m.testBit 57 = true) (d : Via m s t) : Via m s { t with fc := v } :=
  .records (t := t) _ rfl rfl rfl (by
    constructor
    all_goals first | exact fun _ => rfl | (intro h'; rw [h] at h'; cases h')) d

theorem Via.set_log (v) (h : m.testBit 58 = true) (d : Via m s t) : Via m s { t with log := v } :=
  .records (t := t) _ rfl rfl rfl (by
    constructor
    all_goals first | exact fun _ => rfl | (intro h'; rw [h] at h'; cases h')) d

theorem Via.set_free (v) (h : m.testBit 59 = true) (d : Via m s t) : Via m s { t with free := v } :=
  .records (t := t) _ rfl rfl rfl (by
    constructor
    all_goals first | exact fun _ => rfl | (intro h'; rw [h] at h'; cases h')) d

theorem Via.set_tatOps (v) (h : m.testBit 60 = true) (d : Via m s t) : Via m s { t with tatOps := v } :=
  .records (t := t) _ rfl rfl rfl (by
    constructor
    all_goals first | exact fun _ => rfl | (intro h'; rw [h] at h'; cases h')) d

theorem Via.set_ct_power_trc (ctV) (powerV) (trcV) (h0 : m.testBit 29 = true) (h1 : m.testBit 30 = true)
    (h2 : m.testBit 53 = true) (d : Via m s t) : Via m s { t with ct := ctV, power := powerV, trc := trcV } :=
  .records (t := t) _ rfl rfl rfl (by
    constructor
    all_goals first
      | exact fun _ => rfl
      | (intro h'; rw [h0] at h'; cases h')
      | (intro h'; rw [h1] at h'; cases h')
      | (intro h'; rw [h2] at h'; cases h')) d

theorem Via.set_ct_power (ctV) (powerV) (h0 : m.testBit 29 = true) (h1 : m.testBit 30 = true) (d : Via m s t) :
    Via m s { t with ct := ctV, power := powerV } :=
  .records (t := t) _ rfl rfl rfl (by
    constructor
    all_goals first | exact fun _ => rfl | (intro h'; rw [h0] at h'; cases h') | (intro h'; rw [h1] at h'; cases h')) d

theorem Via.set_tat_tatOrder (tatV) (tatOrderV) (h0 : m.testBit 51 = true) (h1 : m.testBit 52 = true) (d : Via m s t) :
    Via m s { t with tat := tatV, tatOrder := tatOrderV } :=
  .records (t := t) _ rfl rfl rfl (by
    constructor
    all_goals first | exact fun _ => rfl | (intro h'; rw [h0] at h'; cases h') | (intro h'; rw [h1] at h'; cases h')) d

theorem Via.set_cc_pd (ccV) (pdV) (h0 : m.testBit 41 = true) (h1 : m.testBit 42 = true) (d : Via m s t) :
    Via m s { t with cc := ccV, pd := pdV } :=
  .records (t := t) _ rfl rfl rfl (by
    constructor
    all_goals first | exact fun _ => rfl | (intro h'; rw [h0] at h'; cases h') | (intro h'; rw [h1] at h'; cases h')) d

theorem Via.set_cc_pd_pwr_gov (ccV) (pdV) (pwrV) (govV) (h0 : m.testBit 41 = true) (h1 : m.testBit 42 = true) (h2 : m.testBit 44 = true) (h3 : m.testBit 45 = true) (d : Via m s t) :
    Via m s { t with cc := ccV, pd := pdV, pwr := pwrV, gov := govV } :=
  .records (t := t) _ rfl rfl rfl (by
    constructor
    all_goals first | exact fun _ => rfl | (intro h'; rw [h0] at h'; cases h') | (intro h'; rw [h1] at h'; cases h') | (intro h'; rw [h2] at h'; cases h') | (intro h'; rw [h3] at h'; cases h')) d

theorem Via.set_parts_migs_dpe_pool_tt_mf (partsV) (migsV) (dpeV) (poolV) (ttV) (mfV) (h0 : m.testBit 35 = true) (h1 : m.testBit 36 = true) (h2 : m.testBit 37 = true) (h3 : m.testBit 38 = true) (h4 : m.testBit 39 = true) (h5 : m.testBit 40 = true) (d : Via m s t) :
    Via m s { t with parts := partsV, migs := migsV, dpe := dpeV, pool := poolV, tt := ttV, mf := mfV } :=
  .records (t := t) _ rfl rfl rfl (by
    constructor
    all_goals first | exact fun _ => rfl | (intro h'; rw [h0] at h'; cases h') | (intro h'; rw [h1] at h'; cases h') | (intro h'; rw [h2] at h'; cases h') | (intro h'; rw [h3] at h'; cases h') | (intro h'; rw [h4] at h'; cases h') | (intro h'; rw [h5] at h'; cases h')) d

theorem Via.set_fwCopy_profiles_cores (fwCopyV) (profilesV) (coresV) (h0 : m.testBit 32 = true) (h1 : m.testBit 43 = true) (h2 : m.testBit 55 = true) (d : Via m s t) :
    Via m s { t with fwCopy := fwCopyV, profiles := profilesV, cores := coresV } :=
  .records (t := t) _ rfl rfl rfl (by
    constructor
    all_goals first | exact fun _ => rfl | (intro h'; rw [h0] at h'; cases h') | (intro h'; rw [h1] at h'; cases h') | (intro h'; rw [h2] at h'; cases h')) d

theorem Via.put (f : Field) (i : Nat) (b : Bool) (h : m.testBit (Zone.reg (blockOf f.id)).code = true) (d : Via m s t) :
    Via m s (t.put f i b) := .setFld f i _ h d

theorem Via.putBit (f : Field) (i b : Nat) (v : Bool) (h : m.testBit (Zone.reg (blockOf f.id)).code = true) (d : Via m s t) :
    Via m s (t.putBit f i b v) := .setFld f i _ h d

theorem Via.add (f : Field) (i k : Nat) (h : m.testBit (Zone.reg (blockOf f.id)).code = true) (d : Via m s t) :
    Via m s (t.add f i k) := .setFld f i _ h d

theorem Via.incr (f : Field) (i : Nat) (h : m.testBit (Zone.reg (blockOf f.id)).code = true) (d : Via m s t) :
    Via m s (t.incr f i) := .setFld f i _ h d

theorem Via.setFld64 (f g : Field) (i v : Nat) (h : m.testBit (Zone.reg (blockOf f.id)).code = true)
    (h' : m.testBit (Zone.reg (blockOf g.id)).code = true) (d : Via m s t) : Via m s (t.setFld64 f g i v) :=
  .setFld g i _ h' (.setFld f i _ h d)

theorem Via.writeWord (a v : Nat) (h : m.testBit 27 = true) (ha : 0x08001000 ≤ a) (d : Via m s t) :
    Via m s (t.writeWord a v) := .write a _ h ha d

theorem Via.cutFun {P : Prop} {g : State → State} (h : ∀ s, Via m s (g s)) (k : (∀ s, Via m s (g s)) → P) : P := k h

theorem Via.cutFunTwo {P : Prop} {α : Type} {g : State → α → State} (h : ∀ s a, Via m s (g s a))
    (k : (∀ s a, Via m s (g s a)) → P) : P := k h

theorem Via.cutLet {P : Prop} (d : Via m s t) (k : Via m s t → P) : P := k d

/-! ### What follows -/

theorem fld_setFld_other {g : Field} {j : Nat} (s : State) (f : Field) (i v : Nat) (h : ¬ (g.id = f.id ∧ j = i)) :
    (s.setFld f i v).fld g j = s.fld g j :=
  look_store_ne _ _ _ _ (fun he => h ⟨congrArg Prod.fst he, congrArg Prod.snd he⟩) _

@[simp] theorem fld_setFld_self (s : State) (f : Field) (i v : Nat) : (s.setFld f i v).fld f i = v % 2 ^ f.width :=
  look_store_self _ _ _ _ _

theorem writeBytes_eq (s : State) (a : Nat) (l : List Nat) : ∃ x, s.writeBytes a l = { s with mem := x } ∧
    (Memory.wf s.mem = true → Memory.wf x = true) ∧ ∀ b, b < a → readByte x b = readByte s.mem b := by
  induction l generalizing s a with
  | nil => exact ⟨s.mem, rfl, id, fun _ _ => rfl⟩
  | cons v l ih =>
    obtain ⟨x, h1, h2, h3⟩ := ih { s with mem := writeByte s.mem a (BitVec.ofNat 8 v) } (a + 1)
    refine ⟨x, h1, fun h => h2 (Memory.wf_writeByte _ _ _ h), fun b hb => ?_⟩
    rw [h3 b (by omega)]
    exact readByte_writeByte_ne _ _ (by omega)

/-- No operation touches the queue. -/
theorem Via.pending (d : Via m s t) : t.pending = s.pending := by
  induction d with
  | refl => rfl
  | setFld f i v _ _ ih => exact ih
  | write a l _ _ _ ih => obtain ⟨x, h, -⟩ := writeBytes_eq _ a l; rw [h]; exact ih
  | keepMem q _ _ _ ih => exact ih
  | keepRegs q _ _ ih => exact ih
  | records u h _ _ _ _ ih => exact h.trans ih

/-- The registers keep their order. -/
theorem Via.rising (d : Via m s t) (h : rising slotLt s.regs = true) : rising slotLt t.regs = true := by
  induction d with
  | refl => exact h
  | setFld f i v _ _ ih => exact rising_store slotLt_order _ _ _ _ ih
  | write a l _ _ _ ih => obtain ⟨x, h, -⟩ := writeBytes_eq _ a l; rw [h]; exact ih
  | keepMem q _ _ _ ih => exact ih
  | keepRegs q _ _ ih => exact rising_filter slotLt_order _ _ ih
  | records u _ h _ _ _ ih => rw [h]; exact ih

/-- Memory keeps its canonical form. -/
theorem Via.memWf (d : Via m s t) (h : Memory.wf s.mem = true) : Memory.wf t.mem = true := by
  induction d with
  | refl => exact h
  | setFld f i v _ _ ih => exact ih
  | write a l _ _ _ ih => obtain ⟨x, h, h2, -⟩ := writeBytes_eq _ a l; rw [h]; exact h2 ih
  | keepMem q _ _ _ ih => exact Memory.wf_filter _ _ ih
  | keepRegs q _ _ ih => exact ih
  | records u _ _ h _ _ ih => rw [h]; exact ih

/-- The factory sector stands. -/
theorem Via.factory (d : Via m s t) (a : Nat) (h1 : 0x08000000 ≤ a) (h2 : a < 0x08001000) :
    readByte t.mem a = readByte s.mem a := by
  induction d with
  | refl => rfl
  | setFld f i v _ _ ih => exact ih
  | write b l _ hb _ ih =>
    obtain ⟨x, h, -, h3⟩ := writeBytes_eq _ b l
    rw [h, ← ih]; exact h3 a (by omega)
  | keepMem q _ hq _ ih => rw [← ih]; exact readByte_filter _ q a (hq a h1 h2)
  | keepRegs q _ _ ih => exact ih
  | records u _ _ h _ _ ih => rw [h]; exact ih

theorem land_allRegs (h : Nat.land allRegs m = allRegs) (b : Block) : m.testBit (Zone.reg b).code = true :=
  testBit_mono h (by cases b <;> decide)

/-- Outside its mask an operation changes no zone. -/
theorem Via.same (d : Via m s t) (z : Zone) (hz : m.testBit z.code = false) : z.same s t := by
  cases z with
  | reg b =>
    intro f i hf
    induction d with
    | refl => rfl
    | setFld g j v hb _ ih =>
      rw [fld_setFld_other _ _ _ _ (fun hc => ?_), ih]
      rw [← hc.1, hf, hz] at hb
      cases hb
    | write a l _ _ _ ih => obtain ⟨x, h, -⟩ := writeBytes_eq _ a l; rw [h]; exact ih
    | keepMem q _ _ _ ih => exact ih
    | keepRegs q hb _ ih => rw [land_allRegs hb b] at hz; cases hz
    | records u _ h _ _ _ ih => rw [← ih]; unfold State.fld; rw [h]
  | mem =>
    intro a
    induction d with
    | refl => rfl
    | setFld f i v _ _ ih => exact ih
    | write b l hb _ _ _ => have h' : m.testBit 27 = false := hz; rw [h'] at hb; cases hb
    | keepMem q hb _ _ _ => have h' : m.testBit 27 = false := hz; rw [h'] at hb; cases hb
    | keepRegs q _ _ ih => exact ih
    | records u _ _ h _ _ ih => rw [h]; exact ih
  | staged =>
    show t.staged = s.staged
    induction d with
    | refl => rfl
    | setFld f i v _ _ ih => exact ih
    | write a l _ _ _ ih => obtain ⟨x, h, -⟩ := writeBytes_eq _ a l; rw [h]; exact ih
    | keepMem q _ _ _ ih => exact ih
    | keepRegs q _ _ ih => exact ih
    | records u _ _ _ h _ ih => exact (h.staged hz).trans ih
  | ct =>
    show t.ct = s.ct
    induction d with
    | refl => rfl
    | setFld f i v _ _ ih => exact ih
    | write a l _ _ _ ih => obtain ⟨x, h, -⟩ := writeBytes_eq _ a l; rw [h]; exact ih
    | keepMem q _ _ _ ih => exact ih
    | keepRegs q _ _ ih => exact ih
    | records u _ _ _ h _ ih => exact (h.ct hz).trans ih
  | power =>
    show t.power = s.power
    induction d with
    | refl => rfl
    | setFld f i v _ _ ih => exact ih
    | write a l _ _ _ ih => obtain ⟨x, h, -⟩ := writeBytes_eq _ a l; rw [h]; exact ih
    | keepMem q _ _ _ ih => exact ih
    | keepRegs q _ _ ih => exact ih
    | records u _ _ _ h _ ih => exact (h.power hz).trans ih
  | nvmCfg =>
    show t.nvmCfg = s.nvmCfg
    induction d with
    | refl => rfl
    | setFld f i v _ _ ih => exact ih
    | write a l _ _ _ ih => obtain ⟨x, h, -⟩ := writeBytes_eq _ a l; rw [h]; exact ih
    | keepMem q _ _ _ ih => exact ih
    | keepRegs q _ _ ih => exact ih
    | records u _ _ _ h _ ih => exact (h.nvmCfg hz).trans ih
  | fwCopy =>
    show t.fwCopy = s.fwCopy
    induction d with
    | refl => rfl
    | setFld f i v _ _ ih => exact ih
    | write a l _ _ _ ih => obtain ⟨x, h, -⟩ := writeBytes_eq _ a l; rw [h]; exact ih
    | keepMem q _ _ _ ih => exact ih
    | keepRegs q _ _ ih => exact ih
    | records u _ _ _ h _ ih => exact (h.fwCopy hz).trans ih
  | snaps =>
    show t.snaps = s.snaps
    induction d with
    | refl => rfl
    | setFld f i v _ _ ih => exact ih
    | write a l _ _ _ ih => obtain ⟨x, h, -⟩ := writeBytes_eq _ a l; rw [h]; exact ih
    | keepMem q _ _ _ ih => exact ih
    | keepRegs q _ _ ih => exact ih
    | records u _ _ _ h _ ih => exact (h.snaps hz).trans ih
  | frozen =>
    show t.frozen = s.frozen
    induction d with
    | refl => rfl
    | setFld f i v _ _ ih => exact ih
    | write a l _ _ _ ih => obtain ⟨x, h, -⟩ := writeBytes_eq _ a l; rw [h]; exact ih
    | keepMem q _ _ _ ih => exact ih
    | keepRegs q _ _ ih => exact ih
    | records u _ _ _ h _ ih => exact (h.frozen hz).trans ih
  | parts =>
    show t.parts = s.parts
    induction d with
    | refl => rfl
    | setFld f i v _ _ ih => exact ih
    | write a l _ _ _ ih => obtain ⟨x, h, -⟩ := writeBytes_eq _ a l; rw [h]; exact ih
    | keepMem q _ _ _ ih => exact ih
    | keepRegs q _ _ ih => exact ih
    | records u _ _ _ h _ ih => exact (h.parts hz).trans ih
  | migs =>
    show t.migs = s.migs
    induction d with
    | refl => rfl
    | setFld f i v _ _ ih => exact ih
    | write a l _ _ _ ih => obtain ⟨x, h, -⟩ := writeBytes_eq _ a l; rw [h]; exact ih
    | keepMem q _ _ _ ih => exact ih
    | keepRegs q _ _ ih => exact ih
    | records u _ _ _ h _ ih => exact (h.migs hz).trans ih
  | dpe =>
    show t.dpe = s.dpe
    induction d with
    | refl => rfl
    | setFld f i v _ _ ih => exact ih
    | write a l _ _ _ ih => obtain ⟨x, h, -⟩ := writeBytes_eq _ a l; rw [h]; exact ih
    | keepMem q _ _ _ ih => exact ih
    | keepRegs q _ _ ih => exact ih
    | records u _ _ _ h _ ih => exact (h.dpe hz).trans ih
  | pool =>
    show t.pool = s.pool
    induction d with
    | refl => rfl
    | setFld f i v _ _ ih => exact ih
    | write a l _ _ _ ih => obtain ⟨x, h, -⟩ := writeBytes_eq _ a l; rw [h]; exact ih
    | keepMem q _ _ _ ih => exact ih
    | keepRegs q _ _ ih => exact ih
    | records u _ _ _ h _ ih => exact (h.pool hz).trans ih
  | tt =>
    show t.tt = s.tt
    induction d with
    | refl => rfl
    | setFld f i v _ _ ih => exact ih
    | write a l _ _ _ ih => obtain ⟨x, h, -⟩ := writeBytes_eq _ a l; rw [h]; exact ih
    | keepMem q _ _ _ ih => exact ih
    | keepRegs q _ _ ih => exact ih
    | records u _ _ _ h _ ih => exact (h.tt hz).trans ih
  | mf =>
    show t.mf = s.mf
    induction d with
    | refl => rfl
    | setFld f i v _ _ ih => exact ih
    | write a l _ _ _ ih => obtain ⟨x, h, -⟩ := writeBytes_eq _ a l; rw [h]; exact ih
    | keepMem q _ _ _ ih => exact ih
    | keepRegs q _ _ ih => exact ih
    | records u _ _ _ h _ ih => exact (h.mf hz).trans ih
  | cc =>
    show t.cc = s.cc
    induction d with
    | refl => rfl
    | setFld f i v _ _ ih => exact ih
    | write a l _ _ _ ih => obtain ⟨x, h, -⟩ := writeBytes_eq _ a l; rw [h]; exact ih
    | keepMem q _ _ _ ih => exact ih
    | keepRegs q _ _ ih => exact ih
    | records u _ _ _ h _ ih => exact (h.cc hz).trans ih
  | pd =>
    show t.pd = s.pd
    induction d with
    | refl => rfl
    | setFld f i v _ _ ih => exact ih
    | write a l _ _ _ ih => obtain ⟨x, h, -⟩ := writeBytes_eq _ a l; rw [h]; exact ih
    | keepMem q _ _ _ ih => exact ih
    | keepRegs q _ _ ih => exact ih
    | records u _ _ _ h _ ih => exact (h.pd hz).trans ih
  | profiles =>
    show t.profiles = s.profiles
    induction d with
    | refl => rfl
    | setFld f i v _ _ ih => exact ih
    | write a l _ _ _ ih => obtain ⟨x, h, -⟩ := writeBytes_eq _ a l; rw [h]; exact ih
    | keepMem q _ _ _ ih => exact ih
    | keepRegs q _ _ ih => exact ih
    | records u _ _ _ h _ ih => exact (h.profiles hz).trans ih
  | pwr =>
    show t.pwr = s.pwr
    induction d with
    | refl => rfl
    | setFld f i v _ _ ih => exact ih
    | write a l _ _ _ ih => obtain ⟨x, h, -⟩ := writeBytes_eq _ a l; rw [h]; exact ih
    | keepMem q _ _ _ ih => exact ih
    | keepRegs q _ _ ih => exact ih
    | records u _ _ _ h _ ih => exact (h.pwr hz).trans ih
  | gov =>
    show t.gov = s.gov
    induction d with
    | refl => rfl
    | setFld f i v _ _ ih => exact ih
    | write a l _ _ _ ih => obtain ⟨x, h, -⟩ := writeBytes_eq _ a l; rw [h]; exact ih
    | keepMem q _ _ _ ih => exact ih
    | keepRegs q _ _ ih => exact ih
    | records u _ _ _ h _ ih => exact (h.gov hz).trans ih
  | govHw =>
    show t.govHw = s.govHw
    induction d with
    | refl => rfl
    | setFld f i v _ _ ih => exact ih
    | write a l _ _ _ ih => obtain ⟨x, h, -⟩ := writeBytes_eq _ a l; rw [h]; exact ih
    | keepMem q _ _ _ ih => exact ih
    | keepRegs q _ _ ih => exact ih
    | records u _ _ _ h _ ih => exact (h.govHw hz).trans ih
  | ent =>
    show t.ent = s.ent
    induction d with
    | refl => rfl
    | setFld f i v _ _ ih => exact ih
    | write a l _ _ _ ih => obtain ⟨x, h, -⟩ := writeBytes_eq _ a l; rw [h]; exact ih
    | keepMem q _ _ _ ih => exact ih
    | keepRegs q _ _ ih => exact ih
    | records u _ _ _ h _ ih => exact (h.ent hz).trans ih
  | bcq =>
    show t.bcq = s.bcq
    induction d with
    | refl => rfl
    | setFld f i v _ _ ih => exact ih
    | write a l _ _ _ ih => obtain ⟨x, h, -⟩ := writeBytes_eq _ a l; rw [h]; exact ih
    | keepMem q _ _ _ ih => exact ih
    | keepRegs q _ _ ih => exact ih
    | records u _ _ _ h _ ih => exact (h.bcq hz).trans ih
  | chord =>
    show t.chord = s.chord
    induction d with
    | refl => rfl
    | setFld f i v _ _ ih => exact ih
    | write a l _ _ _ ih => obtain ⟨x, h, -⟩ := writeBytes_eq _ a l; rw [h]; exact ih
    | keepMem q _ _ _ ih => exact ih
    | keepRegs q _ _ ih => exact ih
    | records u _ _ _ h _ ih => exact (h.chord hz).trans ih
  | links =>
    show t.links = s.links
    induction d with
    | refl => rfl
    | setFld f i v _ _ ih => exact ih
    | write a l _ _ _ ih => obtain ⟨x, h, -⟩ := writeBytes_eq _ a l; rw [h]; exact ih
    | keepMem q _ _ _ ih => exact ih
    | keepRegs q _ _ ih => exact ih
    | records u _ _ _ h _ ih => exact (h.links hz).trans ih
  | tat =>
    show t.tat = s.tat
    induction d with
    | refl => rfl
    | setFld f i v _ _ ih => exact ih
    | write a l _ _ _ ih => obtain ⟨x, h, -⟩ := writeBytes_eq _ a l; rw [h]; exact ih
    | keepMem q _ _ _ ih => exact ih
    | keepRegs q _ _ ih => exact ih
    | records u _ _ _ h _ ih => exact (h.tat hz).trans ih
  | tatOrder =>
    show t.tatOrder = s.tatOrder
    induction d with
    | refl => rfl
    | setFld f i v _ _ ih => exact ih
    | write a l _ _ _ ih => obtain ⟨x, h, -⟩ := writeBytes_eq _ a l; rw [h]; exact ih
    | keepMem q _ _ _ ih => exact ih
    | keepRegs q _ _ ih => exact ih
    | records u _ _ _ h _ ih => exact (h.tatOrder hz).trans ih
  | trc =>
    show t.trc = s.trc
    induction d with
    | refl => rfl
    | setFld f i v _ _ ih => exact ih
    | write a l _ _ _ ih => obtain ⟨x, h, -⟩ := writeBytes_eq _ a l; rw [h]; exact ih
    | keepMem q _ _ _ ih => exact ih
    | keepRegs q _ _ ih => exact ih
    | records u _ _ _ h _ ih => exact (h.trc hz).trans ih
  | mbx =>
    show t.mbx = s.mbx
    induction d with
    | refl => rfl
    | setFld f i v _ _ ih => exact ih
    | write a l _ _ _ ih => obtain ⟨x, h, -⟩ := writeBytes_eq _ a l; rw [h]; exact ih
    | keepMem q _ _ _ ih => exact ih
    | keepRegs q _ _ ih => exact ih
    | records u _ _ _ h _ ih => exact (h.mbx hz).trans ih
  | cores =>
    show t.cores = s.cores
    induction d with
    | refl => rfl
    | setFld f i v _ _ ih => exact ih
    | write a l _ _ _ ih => obtain ⟨x, h, -⟩ := writeBytes_eq _ a l; rw [h]; exact ih
    | keepMem q _ _ _ ih => exact ih
    | keepRegs q _ _ ih => exact ih
    | records u _ _ _ h _ ih => exact (h.cores hz).trans ih
  | hw =>
    show t.hw = s.hw
    induction d with
    | refl => rfl
    | setFld f i v _ _ ih => exact ih
    | write a l _ _ _ ih => obtain ⟨x, h, -⟩ := writeBytes_eq _ a l; rw [h]; exact ih
    | keepMem q _ _ _ ih => exact ih
    | keepRegs q _ _ ih => exact ih
    | records u _ _ _ h _ ih => exact (h.hw hz).trans ih
  | fc =>
    show t.fc = s.fc
    induction d with
    | refl => rfl
    | setFld f i v _ _ ih => exact ih
    | write a l _ _ _ ih => obtain ⟨x, h, -⟩ := writeBytes_eq _ a l; rw [h]; exact ih
    | keepMem q _ _ _ ih => exact ih
    | keepRegs q _ _ ih => exact ih
    | records u _ _ _ h _ ih => exact (h.fc hz).trans ih
  | log =>
    show t.log = s.log
    induction d with
    | refl => rfl
    | setFld f i v _ _ ih => exact ih
    | write a l _ _ _ ih => obtain ⟨x, h, -⟩ := writeBytes_eq _ a l; rw [h]; exact ih
    | keepMem q _ _ _ ih => exact ih
    | keepRegs q _ _ ih => exact ih
    | records u _ _ _ h _ ih => exact (h.log hz).trans ih
  | free =>
    show t.free = s.free
    induction d with
    | refl => rfl
    | setFld f i v _ _ ih => exact ih
    | write a l _ _ _ ih => obtain ⟨x, h, -⟩ := writeBytes_eq _ a l; rw [h]; exact ih
    | keepMem q _ _ _ ih => exact ih
    | keepRegs q _ _ ih => exact ih
    | records u _ _ _ h _ ih => exact (h.free hz).trans ih
  | tatOps =>
    show t.tatOps = s.tatOps
    induction d with
    | refl => rfl
    | setFld f i v _ _ ih => exact ih
    | write a l _ _ _ ih => obtain ⟨x, h, -⟩ := writeBytes_eq _ a l; rw [h]; exact ih
    | keepMem q _ _ _ ih => exact ih
    | keepRegs q _ _ ih => exact ih
    | records u _ _ _ h _ ih => exact (h.tatOps hz).trans ih

/-- The frame: an operation changes only the zones of its mask. -/
theorem Via.onlyIn (d : Via m s t) (zs : List Zone)
    (h : Zone.all.all (fun z => zs.contains z || !m.testBit z.code) = true) : s.OnlyIn zs t := by
  refine ⟨d.pending, fun z hz => d.same z ?_⟩
  have := List.all_eq_true.mp h z (Zone.mem_all z)
  rcases Bool.or_eq_true _ _ |>.mp this with h1 | h1
  · exact absurd (by simpa using h1) hz
  · simpa using h1

/-- The canonical form is kept. -/
theorem Via.canonical (d : Via m s t) (h : s.Canonical) : t.Canonical := ⟨d.rising h.1, d.memWf h.2⟩

/-- The factory sector is kept. -/
theorem Via.keepsFactory (d : Via m s t) : t.factory = s.factory := by
  unfold State.factory
  refine List.map_congr_left fun o ho => d.factory _ (by omega) ?_
  have := List.mem_range.mp ho
  omega

end Sys2Proof.Machine
end

