-- ==== Sys2Proof/Laws/State.lean ====
section
/-! SUPPORT. The laws of the state's plain updates: what each leaves in each field, the tables they write, and the register
fields they leave alone. -/

namespace Sys2Proof.Machine

/-! ### Tables -/

@[simp] theorem Tbl.at_put_self {α : Type} [Inhabited α] [DecidableEq α] (t : Tbl α) (k : Nat) (v : α) : (t.put k v).at k = v :=
  look_store_self _ _ _ _ _

theorem Tbl.at_put_ne {α : Type} [Inhabited α] [DecidableEq α] (t : Tbl α) {k j : Nat} (v : α) (h : j ≠ k) :
    (t.put k v).at j = t.at j := look_store_ne _ _ _ _ h _

@[simp] theorem Tbl.at_upd_self {α : Type} [Inhabited α] [DecidableEq α] (t : Tbl α) (k : Nat) (f : α → α) :
    (t.upd k f).at k = f (t.at k) := look_store_self _ _ _ _ _

theorem Tbl.at_upd_ne {α : Type} [Inhabited α] [DecidableEq α] (t : Tbl α) {k j : Nat} (f : α → α) (h : j ≠ k) :
    (t.upd k f).at j = t.at j := look_store_ne _ _ _ _ h _

/-! ### Register fields -/

theorem fld_of_regs {s t : State} (h : t.regs = s.regs) (f : Field) (i : Nat) : t.fld f i = s.fld f i := by
  unfold State.fld; rw [h]

theorem fld_setFld_ne (s : State) {f g : Field} (i j v : Nat) (h : g.id ≠ f.id) : (s.setFld f i v).fld g j = s.fld g j :=
  fld_setFld_other s f i v (fun e => h e.1)

theorem fld_setFld_index (s : State) {f : Field} {i j : Nat} (v : Nat) (h : j ≠ i) : (s.setFld f i v).fld f j = s.fld f j :=
  fld_setFld_other s f i v (fun e => h e.2)

/-- A field after an operation that does not reach its block. -/
theorem Via.fld {m : Nat} {s t : State} (d : Via m s t) (f : Field) (i : Nat)
    (h : m.testBit (Zone.reg (blockOf f.id)).code = false) : t.fld f i = s.fld f i := d.same (.reg (blockOf f.id)) h f i rfl

theorem bit01_ne_zero (b : Bool) : decide (bit01 b % 2 ≠ 0) = b := by cases b <;> rfl

/-! ### setFld -/

@[simp] theorem State.setFld_pending (s : State) (f : Field) (i v : Nat) : (s.setFld f i v).pending = s.pending := rfl
@[simp] theorem State.setFld_regs (s : State) (f : Field) (i v : Nat) :
    (s.setFld f i v).regs = Sys2Proof.Machine.store slotLt (resetAt f i) (f.id, i) (v % 2 ^ f.width) s.regs := rfl
@[simp] theorem State.setFld_staged (s : State) (f : Field) (i v : Nat) : (s.setFld f i v).staged = s.staged := rfl
@[simp] theorem State.setFld_mem (s : State) (f : Field) (i v : Nat) : (s.setFld f i v).mem = s.mem := rfl
@[simp] theorem State.setFld_ct (s : State) (f : Field) (i v : Nat) : (s.setFld f i v).ct = s.ct := rfl
@[simp] theorem State.setFld_power (s : State) (f : Field) (i v : Nat) : (s.setFld f i v).power = s.power := rfl
@[simp] theorem State.setFld_nvmCfg (s : State) (f : Field) (i v : Nat) : (s.setFld f i v).nvmCfg = s.nvmCfg := rfl
@[simp] theorem State.setFld_fwCopy (s : State) (f : Field) (i v : Nat) : (s.setFld f i v).fwCopy = s.fwCopy := rfl
@[simp] theorem State.setFld_snaps (s : State) (f : Field) (i v : Nat) : (s.setFld f i v).snaps = s.snaps := rfl
@[simp] theorem State.setFld_frozen (s : State) (f : Field) (i v : Nat) : (s.setFld f i v).frozen = s.frozen := rfl
@[simp] theorem State.setFld_parts (s : State) (f : Field) (i v : Nat) : (s.setFld f i v).parts = s.parts := rfl
@[simp] theorem State.setFld_migs (s : State) (f : Field) (i v : Nat) : (s.setFld f i v).migs = s.migs := rfl
@[simp] theorem State.setFld_dpe (s : State) (f : Field) (i v : Nat) : (s.setFld f i v).dpe = s.dpe := rfl
@[simp] theorem State.setFld_pool (s : State) (f : Field) (i v : Nat) : (s.setFld f i v).pool = s.pool := rfl
@[simp] theorem State.setFld_tt (s : State) (f : Field) (i v : Nat) : (s.setFld f i v).tt = s.tt := rfl
@[simp] theorem State.setFld_mf (s : State) (f : Field) (i v : Nat) : (s.setFld f i v).mf = s.mf := rfl
@[simp] theorem State.setFld_cc (s : State) (f : Field) (i v : Nat) : (s.setFld f i v).cc = s.cc := rfl
@[simp] theorem State.setFld_pd (s : State) (f : Field) (i v : Nat) : (s.setFld f i v).pd = s.pd := rfl
@[simp] theorem State.setFld_profiles (s : State) (f : Field) (i v : Nat) : (s.setFld f i v).profiles = s.profiles := rfl
@[simp] theorem State.setFld_pwr (s : State) (f : Field) (i v : Nat) : (s.setFld f i v).pwr = s.pwr := rfl
@[simp] theorem State.setFld_gov (s : State) (f : Field) (i v : Nat) : (s.setFld f i v).gov = s.gov := rfl
@[simp] theorem State.setFld_govHw (s : State) (f : Field) (i v : Nat) : (s.setFld f i v).govHw = s.govHw := rfl
@[simp] theorem State.setFld_ent (s : State) (f : Field) (i v : Nat) : (s.setFld f i v).ent = s.ent := rfl
@[simp] theorem State.setFld_bcq (s : State) (f : Field) (i v : Nat) : (s.setFld f i v).bcq = s.bcq := rfl
@[simp] theorem State.setFld_chord (s : State) (f : Field) (i v : Nat) : (s.setFld f i v).chord = s.chord := rfl
@[simp] theorem State.setFld_links (s : State) (f : Field) (i v : Nat) : (s.setFld f i v).links = s.links := rfl
@[simp] theorem State.setFld_tat (s : State) (f : Field) (i v : Nat) : (s.setFld f i v).tat = s.tat := rfl
@[simp] theorem State.setFld_tatOrder (s : State) (f : Field) (i v : Nat) : (s.setFld f i v).tatOrder = s.tatOrder := rfl
@[simp] theorem State.setFld_trc (s : State) (f : Field) (i v : Nat) : (s.setFld f i v).trc = s.trc := rfl
@[simp] theorem State.setFld_mbx (s : State) (f : Field) (i v : Nat) : (s.setFld f i v).mbx = s.mbx := rfl
@[simp] theorem State.setFld_cores (s : State) (f : Field) (i v : Nat) : (s.setFld f i v).cores = s.cores := rfl
@[simp] theorem State.setFld_hw (s : State) (f : Field) (i v : Nat) : (s.setFld f i v).hw = s.hw := rfl
@[simp] theorem State.setFld_fc (s : State) (f : Field) (i v : Nat) : (s.setFld f i v).fc = s.fc := rfl
@[simp] theorem State.setFld_log (s : State) (f : Field) (i v : Nat) : (s.setFld f i v).log = s.log := rfl
@[simp] theorem State.setFld_free (s : State) (f : Field) (i v : Nat) : (s.setFld f i v).free = s.free := rfl
@[simp] theorem State.setFld_tatOps (s : State) (f : Field) (i v : Nat) : (s.setFld f i v).tatOps = s.tatOps := rfl

/-! ### updChord -/

@[simp] theorem State.updChord_pending (s : State) (f : ChordHw → ChordHw) : (s.updChord f).pending = s.pending := rfl
@[simp] theorem State.updChord_regs (s : State) (f : ChordHw → ChordHw) : (s.updChord f).regs = s.regs := rfl
@[simp] theorem State.updChord_staged (s : State) (f : ChordHw → ChordHw) : (s.updChord f).staged = s.staged := rfl
@[simp] theorem State.updChord_mem (s : State) (f : ChordHw → ChordHw) : (s.updChord f).mem = s.mem := rfl
@[simp] theorem State.updChord_ct (s : State) (f : ChordHw → ChordHw) : (s.updChord f).ct = s.ct := rfl
@[simp] theorem State.updChord_power (s : State) (f : ChordHw → ChordHw) : (s.updChord f).power = s.power := rfl
@[simp] theorem State.updChord_nvmCfg (s : State) (f : ChordHw → ChordHw) : (s.updChord f).nvmCfg = s.nvmCfg := rfl
@[simp] theorem State.updChord_fwCopy (s : State) (f : ChordHw → ChordHw) : (s.updChord f).fwCopy = s.fwCopy := rfl
@[simp] theorem State.updChord_snaps (s : State) (f : ChordHw → ChordHw) : (s.updChord f).snaps = s.snaps := rfl
@[simp] theorem State.updChord_frozen (s : State) (f : ChordHw → ChordHw) : (s.updChord f).frozen = s.frozen := rfl
@[simp] theorem State.updChord_parts (s : State) (f : ChordHw → ChordHw) : (s.updChord f).parts = s.parts := rfl
@[simp] theorem State.updChord_migs (s : State) (f : ChordHw → ChordHw) : (s.updChord f).migs = s.migs := rfl
@[simp] theorem State.updChord_dpe (s : State) (f : ChordHw → ChordHw) : (s.updChord f).dpe = s.dpe := rfl
@[simp] theorem State.updChord_pool (s : State) (f : ChordHw → ChordHw) : (s.updChord f).pool = s.pool := rfl
@[simp] theorem State.updChord_tt (s : State) (f : ChordHw → ChordHw) : (s.updChord f).tt = s.tt := rfl
@[simp] theorem State.updChord_mf (s : State) (f : ChordHw → ChordHw) : (s.updChord f).mf = s.mf := rfl
@[simp] theorem State.updChord_cc (s : State) (f : ChordHw → ChordHw) : (s.updChord f).cc = s.cc := rfl
@[simp] theorem State.updChord_pd (s : State) (f : ChordHw → ChordHw) : (s.updChord f).pd = s.pd := rfl
@[simp] theorem State.updChord_profiles (s : State) (f : ChordHw → ChordHw) : (s.updChord f).profiles = s.profiles := rfl
@[simp] theorem State.updChord_pwr (s : State) (f : ChordHw → ChordHw) : (s.updChord f).pwr = s.pwr := rfl
@[simp] theorem State.updChord_gov (s : State) (f : ChordHw → ChordHw) : (s.updChord f).gov = s.gov := rfl
@[simp] theorem State.updChord_govHw (s : State) (f : ChordHw → ChordHw) : (s.updChord f).govHw = s.govHw := rfl
@[simp] theorem State.updChord_ent (s : State) (f : ChordHw → ChordHw) : (s.updChord f).ent = s.ent := rfl
@[simp] theorem State.updChord_bcq (s : State) (f : ChordHw → ChordHw) : (s.updChord f).bcq = s.bcq := rfl
@[simp] theorem State.updChord_chord (s : State) (f : ChordHw → ChordHw) :
    (s.updChord f).chord = f s.chord := rfl
@[simp] theorem State.updChord_links (s : State) (f : ChordHw → ChordHw) : (s.updChord f).links = s.links := rfl
@[simp] theorem State.updChord_tat (s : State) (f : ChordHw → ChordHw) : (s.updChord f).tat = s.tat := rfl
@[simp] theorem State.updChord_tatOrder (s : State) (f : ChordHw → ChordHw) : (s.updChord f).tatOrder = s.tatOrder := rfl
@[simp] theorem State.updChord_trc (s : State) (f : ChordHw → ChordHw) : (s.updChord f).trc = s.trc := rfl
@[simp] theorem State.updChord_mbx (s : State) (f : ChordHw → ChordHw) : (s.updChord f).mbx = s.mbx := rfl
@[simp] theorem State.updChord_cores (s : State) (f : ChordHw → ChordHw) : (s.updChord f).cores = s.cores := rfl
@[simp] theorem State.updChord_hw (s : State) (f : ChordHw → ChordHw) : (s.updChord f).hw = s.hw := rfl
@[simp] theorem State.updChord_fc (s : State) (f : ChordHw → ChordHw) : (s.updChord f).fc = s.fc := rfl
@[simp] theorem State.updChord_log (s : State) (f : ChordHw → ChordHw) : (s.updChord f).log = s.log := rfl
@[simp] theorem State.updChord_free (s : State) (f : ChordHw → ChordHw) : (s.updChord f).free = s.free := rfl
@[simp] theorem State.updChord_tatOps (s : State) (f : ChordHw → ChordHw) : (s.updChord f).tatOps = s.tatOps := rfl
@[simp] theorem State.updChord_fld (s : State) (f : ChordHw → ChordHw) (g : Field) (j : Nat) : (s.updChord f).fld g j = s.fld g j := rfl

/-! ### updLink -/

@[simp] theorem State.updLink_pending (s : State) (l : Nat) (f : ChordLink → ChordLink) : (s.updLink l f).pending = s.pending := rfl
@[simp] theorem State.updLink_regs (s : State) (l : Nat) (f : ChordLink → ChordLink) : (s.updLink l f).regs = s.regs := rfl
@[simp] theorem State.updLink_staged (s : State) (l : Nat) (f : ChordLink → ChordLink) : (s.updLink l f).staged = s.staged := rfl
@[simp] theorem State.updLink_mem (s : State) (l : Nat) (f : ChordLink → ChordLink) : (s.updLink l f).mem = s.mem := rfl
@[simp] theorem State.updLink_ct (s : State) (l : Nat) (f : ChordLink → ChordLink) : (s.updLink l f).ct = s.ct := rfl
@[simp] theorem State.updLink_power (s : State) (l : Nat) (f : ChordLink → ChordLink) : (s.updLink l f).power = s.power := rfl
@[simp] theorem State.updLink_nvmCfg (s : State) (l : Nat) (f : ChordLink → ChordLink) : (s.updLink l f).nvmCfg = s.nvmCfg := rfl
@[simp] theorem State.updLink_fwCopy (s : State) (l : Nat) (f : ChordLink → ChordLink) : (s.updLink l f).fwCopy = s.fwCopy := rfl
@[simp] theorem State.updLink_snaps (s : State) (l : Nat) (f : ChordLink → ChordLink) : (s.updLink l f).snaps = s.snaps := rfl
@[simp] theorem State.updLink_frozen (s : State) (l : Nat) (f : ChordLink → ChordLink) : (s.updLink l f).frozen = s.frozen := rfl
@[simp] theorem State.updLink_parts (s : State) (l : Nat) (f : ChordLink → ChordLink) : (s.updLink l f).parts = s.parts := rfl
@[simp] theorem State.updLink_migs (s : State) (l : Nat) (f : ChordLink → ChordLink) : (s.updLink l f).migs = s.migs := rfl
@[simp] theorem State.updLink_dpe (s : State) (l : Nat) (f : ChordLink → ChordLink) : (s.updLink l f).dpe = s.dpe := rfl
@[simp] theorem State.updLink_pool (s : State) (l : Nat) (f : ChordLink → ChordLink) : (s.updLink l f).pool = s.pool := rfl
@[simp] theorem State.updLink_tt (s : State) (l : Nat) (f : ChordLink → ChordLink) : (s.updLink l f).tt = s.tt := rfl
@[simp] theorem State.updLink_mf (s : State) (l : Nat) (f : ChordLink → ChordLink) : (s.updLink l f).mf = s.mf := rfl
@[simp] theorem State.updLink_cc (s : State) (l : Nat) (f : ChordLink → ChordLink) : (s.updLink l f).cc = s.cc := rfl
@[simp] theorem State.updLink_pd (s : State) (l : Nat) (f : ChordLink → ChordLink) : (s.updLink l f).pd = s.pd := rfl
@[simp] theorem State.updLink_profiles (s : State) (l : Nat) (f : ChordLink → ChordLink) : (s.updLink l f).profiles = s.profiles := rfl
@[simp] theorem State.updLink_pwr (s : State) (l : Nat) (f : ChordLink → ChordLink) : (s.updLink l f).pwr = s.pwr := rfl
@[simp] theorem State.updLink_gov (s : State) (l : Nat) (f : ChordLink → ChordLink) : (s.updLink l f).gov = s.gov := rfl
@[simp] theorem State.updLink_govHw (s : State) (l : Nat) (f : ChordLink → ChordLink) : (s.updLink l f).govHw = s.govHw := rfl
@[simp] theorem State.updLink_ent (s : State) (l : Nat) (f : ChordLink → ChordLink) : (s.updLink l f).ent = s.ent := rfl
@[simp] theorem State.updLink_bcq (s : State) (l : Nat) (f : ChordLink → ChordLink) : (s.updLink l f).bcq = s.bcq := rfl
@[simp] theorem State.updLink_chord (s : State) (l : Nat) (f : ChordLink → ChordLink) : (s.updLink l f).chord = s.chord := rfl
@[simp] theorem State.updLink_links (s : State) (l : Nat) (f : ChordLink → ChordLink) :
    (s.updLink l f).links = s.links.upd l f := rfl
@[simp] theorem State.updLink_tat (s : State) (l : Nat) (f : ChordLink → ChordLink) : (s.updLink l f).tat = s.tat := rfl
@[simp] theorem State.updLink_tatOrder (s : State) (l : Nat) (f : ChordLink → ChordLink) : (s.updLink l f).tatOrder = s.tatOrder := rfl
@[simp] theorem State.updLink_trc (s : State) (l : Nat) (f : ChordLink → ChordLink) : (s.updLink l f).trc = s.trc := rfl
@[simp] theorem State.updLink_mbx (s : State) (l : Nat) (f : ChordLink → ChordLink) : (s.updLink l f).mbx = s.mbx := rfl
@[simp] theorem State.updLink_cores (s : State) (l : Nat) (f : ChordLink → ChordLink) : (s.updLink l f).cores = s.cores := rfl
@[simp] theorem State.updLink_hw (s : State) (l : Nat) (f : ChordLink → ChordLink) : (s.updLink l f).hw = s.hw := rfl
@[simp] theorem State.updLink_fc (s : State) (l : Nat) (f : ChordLink → ChordLink) : (s.updLink l f).fc = s.fc := rfl
@[simp] theorem State.updLink_log (s : State) (l : Nat) (f : ChordLink → ChordLink) : (s.updLink l f).log = s.log := rfl
@[simp] theorem State.updLink_free (s : State) (l : Nat) (f : ChordLink → ChordLink) : (s.updLink l f).free = s.free := rfl
@[simp] theorem State.updLink_tatOps (s : State) (l : Nat) (f : ChordLink → ChordLink) : (s.updLink l f).tatOps = s.tatOps := rfl
@[simp] theorem State.updLink_fld (s : State) (l : Nat) (f : ChordLink → ChordLink) (g : Field) (j : Nat) : (s.updLink l f).fld g j = s.fld g j := rfl

/-! ### updCore -/

@[simp] theorem State.updCore_pending (s : State) (c : Nat) (f : CoreHw → CoreHw) : (s.updCore c f).pending = s.pending := rfl
@[simp] theorem State.updCore_regs (s : State) (c : Nat) (f : CoreHw → CoreHw) : (s.updCore c f).regs = s.regs := rfl
@[simp] theorem State.updCore_staged (s : State) (c : Nat) (f : CoreHw → CoreHw) : (s.updCore c f).staged = s.staged := rfl
@[simp] theorem State.updCore_mem (s : State) (c : Nat) (f : CoreHw → CoreHw) : (s.updCore c f).mem = s.mem := rfl
@[simp] theorem State.updCore_ct (s : State) (c : Nat) (f : CoreHw → CoreHw) : (s.updCore c f).ct = s.ct := rfl
@[simp] theorem State.updCore_power (s : State) (c : Nat) (f : CoreHw → CoreHw) : (s.updCore c f).power = s.power := rfl
@[simp] theorem State.updCore_nvmCfg (s : State) (c : Nat) (f : CoreHw → CoreHw) : (s.updCore c f).nvmCfg = s.nvmCfg := rfl
@[simp] theorem State.updCore_fwCopy (s : State) (c : Nat) (f : CoreHw → CoreHw) : (s.updCore c f).fwCopy = s.fwCopy := rfl
@[simp] theorem State.updCore_snaps (s : State) (c : Nat) (f : CoreHw → CoreHw) : (s.updCore c f).snaps = s.snaps := rfl
@[simp] theorem State.updCore_frozen (s : State) (c : Nat) (f : CoreHw → CoreHw) : (s.updCore c f).frozen = s.frozen := rfl
@[simp] theorem State.updCore_parts (s : State) (c : Nat) (f : CoreHw → CoreHw) : (s.updCore c f).parts = s.parts := rfl
@[simp] theorem State.updCore_migs (s : State) (c : Nat) (f : CoreHw → CoreHw) : (s.updCore c f).migs = s.migs := rfl
@[simp] theorem State.updCore_dpe (s : State) (c : Nat) (f : CoreHw → CoreHw) : (s.updCore c f).dpe = s.dpe := rfl
@[simp] theorem State.updCore_pool (s : State) (c : Nat) (f : CoreHw → CoreHw) : (s.updCore c f).pool = s.pool := rfl
@[simp] theorem State.updCore_tt (s : State) (c : Nat) (f : CoreHw → CoreHw) : (s.updCore c f).tt = s.tt := rfl
@[simp] theorem State.updCore_mf (s : State) (c : Nat) (f : CoreHw → CoreHw) : (s.updCore c f).mf = s.mf := rfl
@[simp] theorem State.updCore_cc (s : State) (c : Nat) (f : CoreHw → CoreHw) : (s.updCore c f).cc = s.cc := rfl
@[simp] theorem State.updCore_pd (s : State) (c : Nat) (f : CoreHw → CoreHw) : (s.updCore c f).pd = s.pd := rfl
@[simp] theorem State.updCore_profiles (s : State) (c : Nat) (f : CoreHw → CoreHw) : (s.updCore c f).profiles = s.profiles := rfl
@[simp] theorem State.updCore_pwr (s : State) (c : Nat) (f : CoreHw → CoreHw) : (s.updCore c f).pwr = s.pwr := rfl
@[simp] theorem State.updCore_gov (s : State) (c : Nat) (f : CoreHw → CoreHw) : (s.updCore c f).gov = s.gov := rfl
@[simp] theorem State.updCore_govHw (s : State) (c : Nat) (f : CoreHw → CoreHw) : (s.updCore c f).govHw = s.govHw := rfl
@[simp] theorem State.updCore_ent (s : State) (c : Nat) (f : CoreHw → CoreHw) : (s.updCore c f).ent = s.ent := rfl
@[simp] theorem State.updCore_bcq (s : State) (c : Nat) (f : CoreHw → CoreHw) : (s.updCore c f).bcq = s.bcq := rfl
@[simp] theorem State.updCore_chord (s : State) (c : Nat) (f : CoreHw → CoreHw) : (s.updCore c f).chord = s.chord := rfl
@[simp] theorem State.updCore_links (s : State) (c : Nat) (f : CoreHw → CoreHw) : (s.updCore c f).links = s.links := rfl
@[simp] theorem State.updCore_tat (s : State) (c : Nat) (f : CoreHw → CoreHw) : (s.updCore c f).tat = s.tat := rfl
@[simp] theorem State.updCore_tatOrder (s : State) (c : Nat) (f : CoreHw → CoreHw) : (s.updCore c f).tatOrder = s.tatOrder := rfl
@[simp] theorem State.updCore_trc (s : State) (c : Nat) (f : CoreHw → CoreHw) : (s.updCore c f).trc = s.trc := rfl
@[simp] theorem State.updCore_mbx (s : State) (c : Nat) (f : CoreHw → CoreHw) : (s.updCore c f).mbx = s.mbx := rfl
@[simp] theorem State.updCore_cores (s : State) (c : Nat) (f : CoreHw → CoreHw) :
    (s.updCore c f).cores = s.cores.upd c f := rfl
@[simp] theorem State.updCore_hw (s : State) (c : Nat) (f : CoreHw → CoreHw) : (s.updCore c f).hw = s.hw := rfl
@[simp] theorem State.updCore_fc (s : State) (c : Nat) (f : CoreHw → CoreHw) : (s.updCore c f).fc = s.fc := rfl
@[simp] theorem State.updCore_log (s : State) (c : Nat) (f : CoreHw → CoreHw) : (s.updCore c f).log = s.log := rfl
@[simp] theorem State.updCore_free (s : State) (c : Nat) (f : CoreHw → CoreHw) : (s.updCore c f).free = s.free := rfl
@[simp] theorem State.updCore_tatOps (s : State) (c : Nat) (f : CoreHw → CoreHw) : (s.updCore c f).tatOps = s.tatOps := rfl
@[simp] theorem State.updCore_fld (s : State) (c : Nat) (f : CoreHw → CoreHw) (g : Field) (j : Nat) : (s.updCore c f).fld g j = s.fld g j := rfl

/-! ### updDpe -/

@[simp] theorem State.updDpe_pending (s : State) (p : Nat) (f : DpePort → DpePort) : (s.updDpe p f).pending = s.pending := rfl
@[simp] theorem State.updDpe_regs (s : State) (p : Nat) (f : DpePort → DpePort) : (s.updDpe p f).regs = s.regs := rfl
@[simp] theorem State.updDpe_staged (s : State) (p : Nat) (f : DpePort → DpePort) : (s.updDpe p f).staged = s.staged := rfl
@[simp] theorem State.updDpe_mem (s : State) (p : Nat) (f : DpePort → DpePort) : (s.updDpe p f).mem = s.mem := rfl
@[simp] theorem State.updDpe_ct (s : State) (p : Nat) (f : DpePort → DpePort) : (s.updDpe p f).ct = s.ct := rfl
@[simp] theorem State.updDpe_power (s : State) (p : Nat) (f : DpePort → DpePort) : (s.updDpe p f).power = s.power := rfl
@[simp] theorem State.updDpe_nvmCfg (s : State) (p : Nat) (f : DpePort → DpePort) : (s.updDpe p f).nvmCfg = s.nvmCfg := rfl
@[simp] theorem State.updDpe_fwCopy (s : State) (p : Nat) (f : DpePort → DpePort) : (s.updDpe p f).fwCopy = s.fwCopy := rfl
@[simp] theorem State.updDpe_snaps (s : State) (p : Nat) (f : DpePort → DpePort) : (s.updDpe p f).snaps = s.snaps := rfl
@[simp] theorem State.updDpe_frozen (s : State) (p : Nat) (f : DpePort → DpePort) : (s.updDpe p f).frozen = s.frozen := rfl
@[simp] theorem State.updDpe_parts (s : State) (p : Nat) (f : DpePort → DpePort) : (s.updDpe p f).parts = s.parts := rfl
@[simp] theorem State.updDpe_migs (s : State) (p : Nat) (f : DpePort → DpePort) : (s.updDpe p f).migs = s.migs := rfl
@[simp] theorem State.updDpe_dpe (s : State) (p : Nat) (f : DpePort → DpePort) :
    (s.updDpe p f).dpe = s.dpe.upd p f := rfl
@[simp] theorem State.updDpe_pool (s : State) (p : Nat) (f : DpePort → DpePort) : (s.updDpe p f).pool = s.pool := rfl
@[simp] theorem State.updDpe_tt (s : State) (p : Nat) (f : DpePort → DpePort) : (s.updDpe p f).tt = s.tt := rfl
@[simp] theorem State.updDpe_mf (s : State) (p : Nat) (f : DpePort → DpePort) : (s.updDpe p f).mf = s.mf := rfl
@[simp] theorem State.updDpe_cc (s : State) (p : Nat) (f : DpePort → DpePort) : (s.updDpe p f).cc = s.cc := rfl
@[simp] theorem State.updDpe_pd (s : State) (p : Nat) (f : DpePort → DpePort) : (s.updDpe p f).pd = s.pd := rfl
@[simp] theorem State.updDpe_profiles (s : State) (p : Nat) (f : DpePort → DpePort) : (s.updDpe p f).profiles = s.profiles := rfl
@[simp] theorem State.updDpe_pwr (s : State) (p : Nat) (f : DpePort → DpePort) : (s.updDpe p f).pwr = s.pwr := rfl
@[simp] theorem State.updDpe_gov (s : State) (p : Nat) (f : DpePort → DpePort) : (s.updDpe p f).gov = s.gov := rfl
@[simp] theorem State.updDpe_govHw (s : State) (p : Nat) (f : DpePort → DpePort) : (s.updDpe p f).govHw = s.govHw := rfl
@[simp] theorem State.updDpe_ent (s : State) (p : Nat) (f : DpePort → DpePort) : (s.updDpe p f).ent = s.ent := rfl
@[simp] theorem State.updDpe_bcq (s : State) (p : Nat) (f : DpePort → DpePort) : (s.updDpe p f).bcq = s.bcq := rfl
@[simp] theorem State.updDpe_chord (s : State) (p : Nat) (f : DpePort → DpePort) : (s.updDpe p f).chord = s.chord := rfl
@[simp] theorem State.updDpe_links (s : State) (p : Nat) (f : DpePort → DpePort) : (s.updDpe p f).links = s.links := rfl
@[simp] theorem State.updDpe_tat (s : State) (p : Nat) (f : DpePort → DpePort) : (s.updDpe p f).tat = s.tat := rfl
@[simp] theorem State.updDpe_tatOrder (s : State) (p : Nat) (f : DpePort → DpePort) : (s.updDpe p f).tatOrder = s.tatOrder := rfl
@[simp] theorem State.updDpe_trc (s : State) (p : Nat) (f : DpePort → DpePort) : (s.updDpe p f).trc = s.trc := rfl
@[simp] theorem State.updDpe_mbx (s : State) (p : Nat) (f : DpePort → DpePort) : (s.updDpe p f).mbx = s.mbx := rfl
@[simp] theorem State.updDpe_cores (s : State) (p : Nat) (f : DpePort → DpePort) : (s.updDpe p f).cores = s.cores := rfl
@[simp] theorem State.updDpe_hw (s : State) (p : Nat) (f : DpePort → DpePort) : (s.updDpe p f).hw = s.hw := rfl
@[simp] theorem State.updDpe_fc (s : State) (p : Nat) (f : DpePort → DpePort) : (s.updDpe p f).fc = s.fc := rfl
@[simp] theorem State.updDpe_log (s : State) (p : Nat) (f : DpePort → DpePort) : (s.updDpe p f).log = s.log := rfl
@[simp] theorem State.updDpe_free (s : State) (p : Nat) (f : DpePort → DpePort) : (s.updDpe p f).free = s.free := rfl
@[simp] theorem State.updDpe_tatOps (s : State) (p : Nat) (f : DpePort → DpePort) : (s.updDpe p f).tatOps = s.tatOps := rfl
@[simp] theorem State.updDpe_fld (s : State) (p : Nat) (f : DpePort → DpePort) (g : Field) (j : Nat) : (s.updDpe p f).fld g j = s.fld g j := rfl

/-! ### updMig -/

@[simp] theorem State.updMig_pending (s : State) (p : Nat) (f : Migration → Migration) : (s.updMig p f).pending = s.pending := rfl
@[simp] theorem State.updMig_regs (s : State) (p : Nat) (f : Migration → Migration) : (s.updMig p f).regs = s.regs := rfl
@[simp] theorem State.updMig_staged (s : State) (p : Nat) (f : Migration → Migration) : (s.updMig p f).staged = s.staged := rfl
@[simp] theorem State.updMig_mem (s : State) (p : Nat) (f : Migration → Migration) : (s.updMig p f).mem = s.mem := rfl
@[simp] theorem State.updMig_ct (s : State) (p : Nat) (f : Migration → Migration) : (s.updMig p f).ct = s.ct := rfl
@[simp] theorem State.updMig_power (s : State) (p : Nat) (f : Migration → Migration) : (s.updMig p f).power = s.power := rfl
@[simp] theorem State.updMig_nvmCfg (s : State) (p : Nat) (f : Migration → Migration) : (s.updMig p f).nvmCfg = s.nvmCfg := rfl
@[simp] theorem State.updMig_fwCopy (s : State) (p : Nat) (f : Migration → Migration) : (s.updMig p f).fwCopy = s.fwCopy := rfl
@[simp] theorem State.updMig_snaps (s : State) (p : Nat) (f : Migration → Migration) : (s.updMig p f).snaps = s.snaps := rfl
@[simp] theorem State.updMig_frozen (s : State) (p : Nat) (f : Migration → Migration) : (s.updMig p f).frozen = s.frozen := rfl
@[simp] theorem State.updMig_parts (s : State) (p : Nat) (f : Migration → Migration) : (s.updMig p f).parts = s.parts := rfl
@[simp] theorem State.updMig_migs (s : State) (p : Nat) (f : Migration → Migration) :
    (s.updMig p f).migs = s.migs.upd p f := rfl
@[simp] theorem State.updMig_dpe (s : State) (p : Nat) (f : Migration → Migration) : (s.updMig p f).dpe = s.dpe := rfl
@[simp] theorem State.updMig_pool (s : State) (p : Nat) (f : Migration → Migration) : (s.updMig p f).pool = s.pool := rfl
@[simp] theorem State.updMig_tt (s : State) (p : Nat) (f : Migration → Migration) : (s.updMig p f).tt = s.tt := rfl
@[simp] theorem State.updMig_mf (s : State) (p : Nat) (f : Migration → Migration) : (s.updMig p f).mf = s.mf := rfl
@[simp] theorem State.updMig_cc (s : State) (p : Nat) (f : Migration → Migration) : (s.updMig p f).cc = s.cc := rfl
@[simp] theorem State.updMig_pd (s : State) (p : Nat) (f : Migration → Migration) : (s.updMig p f).pd = s.pd := rfl
@[simp] theorem State.updMig_profiles (s : State) (p : Nat) (f : Migration → Migration) : (s.updMig p f).profiles = s.profiles := rfl
@[simp] theorem State.updMig_pwr (s : State) (p : Nat) (f : Migration → Migration) : (s.updMig p f).pwr = s.pwr := rfl
@[simp] theorem State.updMig_gov (s : State) (p : Nat) (f : Migration → Migration) : (s.updMig p f).gov = s.gov := rfl
@[simp] theorem State.updMig_govHw (s : State) (p : Nat) (f : Migration → Migration) : (s.updMig p f).govHw = s.govHw := rfl
@[simp] theorem State.updMig_ent (s : State) (p : Nat) (f : Migration → Migration) : (s.updMig p f).ent = s.ent := rfl
@[simp] theorem State.updMig_bcq (s : State) (p : Nat) (f : Migration → Migration) : (s.updMig p f).bcq = s.bcq := rfl
@[simp] theorem State.updMig_chord (s : State) (p : Nat) (f : Migration → Migration) : (s.updMig p f).chord = s.chord := rfl
@[simp] theorem State.updMig_links (s : State) (p : Nat) (f : Migration → Migration) : (s.updMig p f).links = s.links := rfl
@[simp] theorem State.updMig_tat (s : State) (p : Nat) (f : Migration → Migration) : (s.updMig p f).tat = s.tat := rfl
@[simp] theorem State.updMig_tatOrder (s : State) (p : Nat) (f : Migration → Migration) : (s.updMig p f).tatOrder = s.tatOrder := rfl
@[simp] theorem State.updMig_trc (s : State) (p : Nat) (f : Migration → Migration) : (s.updMig p f).trc = s.trc := rfl
@[simp] theorem State.updMig_mbx (s : State) (p : Nat) (f : Migration → Migration) : (s.updMig p f).mbx = s.mbx := rfl
@[simp] theorem State.updMig_cores (s : State) (p : Nat) (f : Migration → Migration) : (s.updMig p f).cores = s.cores := rfl
@[simp] theorem State.updMig_hw (s : State) (p : Nat) (f : Migration → Migration) : (s.updMig p f).hw = s.hw := rfl
@[simp] theorem State.updMig_fc (s : State) (p : Nat) (f : Migration → Migration) : (s.updMig p f).fc = s.fc := rfl
@[simp] theorem State.updMig_log (s : State) (p : Nat) (f : Migration → Migration) : (s.updMig p f).log = s.log := rfl
@[simp] theorem State.updMig_free (s : State) (p : Nat) (f : Migration → Migration) : (s.updMig p f).free = s.free := rfl
@[simp] theorem State.updMig_tatOps (s : State) (p : Nat) (f : Migration → Migration) : (s.updMig p f).tatOps = s.tatOps := rfl
@[simp] theorem State.updMig_fld (s : State) (p : Nat) (f : Migration → Migration) (g : Field) (j : Nat) : (s.updMig p f).fld g j = s.fld g j := rfl

/-! ### updCh -/

@[simp] theorem State.updCh_pending (s : State) (ch : Nat) (f : Channel → Channel) : (s.updCh ch f).pending = s.pending := rfl
@[simp] theorem State.updCh_regs (s : State) (ch : Nat) (f : Channel → Channel) : (s.updCh ch f).regs = s.regs := rfl
@[simp] theorem State.updCh_staged (s : State) (ch : Nat) (f : Channel → Channel) : (s.updCh ch f).staged = s.staged := rfl
@[simp] theorem State.updCh_mem (s : State) (ch : Nat) (f : Channel → Channel) : (s.updCh ch f).mem = s.mem := rfl
@[simp] theorem State.updCh_ct (s : State) (ch : Nat) (f : Channel → Channel) : (s.updCh ch f).ct = s.ct := rfl
@[simp] theorem State.updCh_power (s : State) (ch : Nat) (f : Channel → Channel) : (s.updCh ch f).power = s.power := rfl
@[simp] theorem State.updCh_nvmCfg (s : State) (ch : Nat) (f : Channel → Channel) : (s.updCh ch f).nvmCfg = s.nvmCfg := rfl
@[simp] theorem State.updCh_fwCopy (s : State) (ch : Nat) (f : Channel → Channel) : (s.updCh ch f).fwCopy = s.fwCopy := rfl
@[simp] theorem State.updCh_snaps (s : State) (ch : Nat) (f : Channel → Channel) : (s.updCh ch f).snaps = s.snaps := rfl
@[simp] theorem State.updCh_frozen (s : State) (ch : Nat) (f : Channel → Channel) : (s.updCh ch f).frozen = s.frozen := rfl
@[simp] theorem State.updCh_parts (s : State) (ch : Nat) (f : Channel → Channel) : (s.updCh ch f).parts = s.parts := rfl
@[simp] theorem State.updCh_migs (s : State) (ch : Nat) (f : Channel → Channel) : (s.updCh ch f).migs = s.migs := rfl
@[simp] theorem State.updCh_dpe (s : State) (ch : Nat) (f : Channel → Channel) : (s.updCh ch f).dpe = s.dpe := rfl
@[simp] theorem State.updCh_pool (s : State) (ch : Nat) (f : Channel → Channel) : (s.updCh ch f).pool = s.pool := rfl
@[simp] theorem State.updCh_tt (s : State) (ch : Nat) (f : Channel → Channel) : (s.updCh ch f).tt = s.tt := rfl
@[simp] theorem State.updCh_mf (s : State) (ch : Nat) (f : Channel → Channel) : (s.updCh ch f).mf = s.mf := rfl
@[simp] theorem State.updCh_cc (s : State) (ch : Nat) (f : Channel → Channel) : (s.updCh ch f).cc = s.cc := rfl
@[simp] theorem State.updCh_pd (s : State) (ch : Nat) (f : Channel → Channel) : (s.updCh ch f).pd = s.pd := rfl
@[simp] theorem State.updCh_profiles (s : State) (ch : Nat) (f : Channel → Channel) : (s.updCh ch f).profiles = s.profiles := rfl
@[simp] theorem State.updCh_pwr (s : State) (ch : Nat) (f : Channel → Channel) : (s.updCh ch f).pwr = s.pwr := rfl
@[simp] theorem State.updCh_gov (s : State) (ch : Nat) (f : Channel → Channel) : (s.updCh ch f).gov = s.gov := rfl
@[simp] theorem State.updCh_govHw (s : State) (ch : Nat) (f : Channel → Channel) : (s.updCh ch f).govHw = s.govHw := rfl
@[simp] theorem State.updCh_ent (s : State) (ch : Nat) (f : Channel → Channel) : (s.updCh ch f).ent = s.ent := rfl
@[simp] theorem State.updCh_bcq (s : State) (ch : Nat) (f : Channel → Channel) : (s.updCh ch f).bcq = s.bcq := rfl
@[simp] theorem State.updCh_chord (s : State) (ch : Nat) (f : Channel → Channel) : (s.updCh ch f).chord = s.chord := rfl
@[simp] theorem State.updCh_links (s : State) (ch : Nat) (f : Channel → Channel) : (s.updCh ch f).links = s.links := rfl
@[simp] theorem State.updCh_tat (s : State) (ch : Nat) (f : Channel → Channel) : (s.updCh ch f).tat = s.tat := rfl
@[simp] theorem State.updCh_tatOrder (s : State) (ch : Nat) (f : Channel → Channel) : (s.updCh ch f).tatOrder = s.tatOrder := rfl
@[simp] theorem State.updCh_trc (s : State) (ch : Nat) (f : Channel → Channel) : (s.updCh ch f).trc = s.trc := rfl
@[simp] theorem State.updCh_mbx (s : State) (ch : Nat) (f : Channel → Channel) :
    (s.updCh ch f).mbx = s.mbx.upd ch f := rfl
@[simp] theorem State.updCh_cores (s : State) (ch : Nat) (f : Channel → Channel) : (s.updCh ch f).cores = s.cores := rfl
@[simp] theorem State.updCh_hw (s : State) (ch : Nat) (f : Channel → Channel) : (s.updCh ch f).hw = s.hw := rfl
@[simp] theorem State.updCh_fc (s : State) (ch : Nat) (f : Channel → Channel) : (s.updCh ch f).fc = s.fc := rfl
@[simp] theorem State.updCh_log (s : State) (ch : Nat) (f : Channel → Channel) : (s.updCh ch f).log = s.log := rfl
@[simp] theorem State.updCh_free (s : State) (ch : Nat) (f : Channel → Channel) : (s.updCh ch f).free = s.free := rfl
@[simp] theorem State.updCh_tatOps (s : State) (ch : Nat) (f : Channel → Channel) : (s.updCh ch f).tatOps = s.tatOps := rfl
@[simp] theorem State.updCh_fld (s : State) (ch : Nat) (f : Channel → Channel) (g : Field) (j : Nat) : (s.updCh ch f).fld g j = s.fld g j := rfl

/-! ### updMf -/

@[simp] theorem State.updMf_pending (s : State) (k : Nat) (f : MfInst → MfInst) : (s.updMf k f).pending = s.pending := rfl
@[simp] theorem State.updMf_regs (s : State) (k : Nat) (f : MfInst → MfInst) : (s.updMf k f).regs = s.regs := rfl
@[simp] theorem State.updMf_staged (s : State) (k : Nat) (f : MfInst → MfInst) : (s.updMf k f).staged = s.staged := rfl
@[simp] theorem State.updMf_mem (s : State) (k : Nat) (f : MfInst → MfInst) : (s.updMf k f).mem = s.mem := rfl
@[simp] theorem State.updMf_ct (s : State) (k : Nat) (f : MfInst → MfInst) : (s.updMf k f).ct = s.ct := rfl
@[simp] theorem State.updMf_power (s : State) (k : Nat) (f : MfInst → MfInst) : (s.updMf k f).power = s.power := rfl
@[simp] theorem State.updMf_nvmCfg (s : State) (k : Nat) (f : MfInst → MfInst) : (s.updMf k f).nvmCfg = s.nvmCfg := rfl
@[simp] theorem State.updMf_fwCopy (s : State) (k : Nat) (f : MfInst → MfInst) : (s.updMf k f).fwCopy = s.fwCopy := rfl
@[simp] theorem State.updMf_snaps (s : State) (k : Nat) (f : MfInst → MfInst) : (s.updMf k f).snaps = s.snaps := rfl
@[simp] theorem State.updMf_frozen (s : State) (k : Nat) (f : MfInst → MfInst) : (s.updMf k f).frozen = s.frozen := rfl
@[simp] theorem State.updMf_parts (s : State) (k : Nat) (f : MfInst → MfInst) : (s.updMf k f).parts = s.parts := rfl
@[simp] theorem State.updMf_migs (s : State) (k : Nat) (f : MfInst → MfInst) : (s.updMf k f).migs = s.migs := rfl
@[simp] theorem State.updMf_dpe (s : State) (k : Nat) (f : MfInst → MfInst) : (s.updMf k f).dpe = s.dpe := rfl
@[simp] theorem State.updMf_pool (s : State) (k : Nat) (f : MfInst → MfInst) : (s.updMf k f).pool = s.pool := rfl
@[simp] theorem State.updMf_tt (s : State) (k : Nat) (f : MfInst → MfInst) : (s.updMf k f).tt = s.tt := rfl
@[simp] theorem State.updMf_mf (s : State) (k : Nat) (f : MfInst → MfInst) :
    (s.updMf k f).mf = s.mf.upd k f := rfl
@[simp] theorem State.updMf_cc (s : State) (k : Nat) (f : MfInst → MfInst) : (s.updMf k f).cc = s.cc := rfl
@[simp] theorem State.updMf_pd (s : State) (k : Nat) (f : MfInst → MfInst) : (s.updMf k f).pd = s.pd := rfl
@[simp] theorem State.updMf_profiles (s : State) (k : Nat) (f : MfInst → MfInst) : (s.updMf k f).profiles = s.profiles := rfl
@[simp] theorem State.updMf_pwr (s : State) (k : Nat) (f : MfInst → MfInst) : (s.updMf k f).pwr = s.pwr := rfl
@[simp] theorem State.updMf_gov (s : State) (k : Nat) (f : MfInst → MfInst) : (s.updMf k f).gov = s.gov := rfl
@[simp] theorem State.updMf_govHw (s : State) (k : Nat) (f : MfInst → MfInst) : (s.updMf k f).govHw = s.govHw := rfl
@[simp] theorem State.updMf_ent (s : State) (k : Nat) (f : MfInst → MfInst) : (s.updMf k f).ent = s.ent := rfl
@[simp] theorem State.updMf_bcq (s : State) (k : Nat) (f : MfInst → MfInst) : (s.updMf k f).bcq = s.bcq := rfl
@[simp] theorem State.updMf_chord (s : State) (k : Nat) (f : MfInst → MfInst) : (s.updMf k f).chord = s.chord := rfl
@[simp] theorem State.updMf_links (s : State) (k : Nat) (f : MfInst → MfInst) : (s.updMf k f).links = s.links := rfl
@[simp] theorem State.updMf_tat (s : State) (k : Nat) (f : MfInst → MfInst) : (s.updMf k f).tat = s.tat := rfl
@[simp] theorem State.updMf_tatOrder (s : State) (k : Nat) (f : MfInst → MfInst) : (s.updMf k f).tatOrder = s.tatOrder := rfl
@[simp] theorem State.updMf_trc (s : State) (k : Nat) (f : MfInst → MfInst) : (s.updMf k f).trc = s.trc := rfl
@[simp] theorem State.updMf_mbx (s : State) (k : Nat) (f : MfInst → MfInst) : (s.updMf k f).mbx = s.mbx := rfl
@[simp] theorem State.updMf_cores (s : State) (k : Nat) (f : MfInst → MfInst) : (s.updMf k f).cores = s.cores := rfl
@[simp] theorem State.updMf_hw (s : State) (k : Nat) (f : MfInst → MfInst) : (s.updMf k f).hw = s.hw := rfl
@[simp] theorem State.updMf_fc (s : State) (k : Nat) (f : MfInst → MfInst) : (s.updMf k f).fc = s.fc := rfl
@[simp] theorem State.updMf_log (s : State) (k : Nat) (f : MfInst → MfInst) : (s.updMf k f).log = s.log := rfl
@[simp] theorem State.updMf_free (s : State) (k : Nat) (f : MfInst → MfInst) : (s.updMf k f).free = s.free := rfl
@[simp] theorem State.updMf_tatOps (s : State) (k : Nat) (f : MfInst → MfInst) : (s.updMf k f).tatOps = s.tatOps := rfl
@[simp] theorem State.updMf_fld (s : State) (k : Nat) (f : MfInst → MfInst) (g : Field) (j : Nat) : (s.updMf k f).fld g j = s.fld g j := rfl

/-! ### updFc -/

@[simp] theorem State.updFc_pending (s : State) (id : Nat) (f : FcSource → FcSource) : (s.updFc id f).pending = s.pending := rfl
@[simp] theorem State.updFc_regs (s : State) (id : Nat) (f : FcSource → FcSource) : (s.updFc id f).regs = s.regs := rfl
@[simp] theorem State.updFc_staged (s : State) (id : Nat) (f : FcSource → FcSource) : (s.updFc id f).staged = s.staged := rfl
@[simp] theorem State.updFc_mem (s : State) (id : Nat) (f : FcSource → FcSource) : (s.updFc id f).mem = s.mem := rfl
@[simp] theorem State.updFc_ct (s : State) (id : Nat) (f : FcSource → FcSource) : (s.updFc id f).ct = s.ct := rfl
@[simp] theorem State.updFc_power (s : State) (id : Nat) (f : FcSource → FcSource) : (s.updFc id f).power = s.power := rfl
@[simp] theorem State.updFc_nvmCfg (s : State) (id : Nat) (f : FcSource → FcSource) : (s.updFc id f).nvmCfg = s.nvmCfg := rfl
@[simp] theorem State.updFc_fwCopy (s : State) (id : Nat) (f : FcSource → FcSource) : (s.updFc id f).fwCopy = s.fwCopy := rfl
@[simp] theorem State.updFc_snaps (s : State) (id : Nat) (f : FcSource → FcSource) : (s.updFc id f).snaps = s.snaps := rfl
@[simp] theorem State.updFc_frozen (s : State) (id : Nat) (f : FcSource → FcSource) : (s.updFc id f).frozen = s.frozen := rfl
@[simp] theorem State.updFc_parts (s : State) (id : Nat) (f : FcSource → FcSource) : (s.updFc id f).parts = s.parts := rfl
@[simp] theorem State.updFc_migs (s : State) (id : Nat) (f : FcSource → FcSource) : (s.updFc id f).migs = s.migs := rfl
@[simp] theorem State.updFc_dpe (s : State) (id : Nat) (f : FcSource → FcSource) : (s.updFc id f).dpe = s.dpe := rfl
@[simp] theorem State.updFc_pool (s : State) (id : Nat) (f : FcSource → FcSource) : (s.updFc id f).pool = s.pool := rfl
@[simp] theorem State.updFc_tt (s : State) (id : Nat) (f : FcSource → FcSource) : (s.updFc id f).tt = s.tt := rfl
@[simp] theorem State.updFc_mf (s : State) (id : Nat) (f : FcSource → FcSource) : (s.updFc id f).mf = s.mf := rfl
@[simp] theorem State.updFc_cc (s : State) (id : Nat) (f : FcSource → FcSource) : (s.updFc id f).cc = s.cc := rfl
@[simp] theorem State.updFc_pd (s : State) (id : Nat) (f : FcSource → FcSource) : (s.updFc id f).pd = s.pd := rfl
@[simp] theorem State.updFc_profiles (s : State) (id : Nat) (f : FcSource → FcSource) : (s.updFc id f).profiles = s.profiles := rfl
@[simp] theorem State.updFc_pwr (s : State) (id : Nat) (f : FcSource → FcSource) : (s.updFc id f).pwr = s.pwr := rfl
@[simp] theorem State.updFc_gov (s : State) (id : Nat) (f : FcSource → FcSource) : (s.updFc id f).gov = s.gov := rfl
@[simp] theorem State.updFc_govHw (s : State) (id : Nat) (f : FcSource → FcSource) : (s.updFc id f).govHw = s.govHw := rfl
@[simp] theorem State.updFc_ent (s : State) (id : Nat) (f : FcSource → FcSource) : (s.updFc id f).ent = s.ent := rfl
@[simp] theorem State.updFc_bcq (s : State) (id : Nat) (f : FcSource → FcSource) : (s.updFc id f).bcq = s.bcq := rfl
@[simp] theorem State.updFc_chord (s : State) (id : Nat) (f : FcSource → FcSource) : (s.updFc id f).chord = s.chord := rfl
@[simp] theorem State.updFc_links (s : State) (id : Nat) (f : FcSource → FcSource) : (s.updFc id f).links = s.links := rfl
@[simp] theorem State.updFc_tat (s : State) (id : Nat) (f : FcSource → FcSource) : (s.updFc id f).tat = s.tat := rfl
@[simp] theorem State.updFc_tatOrder (s : State) (id : Nat) (f : FcSource → FcSource) : (s.updFc id f).tatOrder = s.tatOrder := rfl
@[simp] theorem State.updFc_trc (s : State) (id : Nat) (f : FcSource → FcSource) : (s.updFc id f).trc = s.trc := rfl
@[simp] theorem State.updFc_mbx (s : State) (id : Nat) (f : FcSource → FcSource) : (s.updFc id f).mbx = s.mbx := rfl
@[simp] theorem State.updFc_cores (s : State) (id : Nat) (f : FcSource → FcSource) : (s.updFc id f).cores = s.cores := rfl
@[simp] theorem State.updFc_hw (s : State) (id : Nat) (f : FcSource → FcSource) : (s.updFc id f).hw = s.hw := rfl
@[simp] theorem State.updFc_fc (s : State) (id : Nat) (f : FcSource → FcSource) :
    (s.updFc id f).fc = { s.fc with sources := Tbl.upd s.fc.sources id f } := rfl
@[simp] theorem State.updFc_log (s : State) (id : Nat) (f : FcSource → FcSource) : (s.updFc id f).log = s.log := rfl
@[simp] theorem State.updFc_free (s : State) (id : Nat) (f : FcSource → FcSource) : (s.updFc id f).free = s.free := rfl
@[simp] theorem State.updFc_tatOps (s : State) (id : Nat) (f : FcSource → FcSource) : (s.updFc id f).tatOps = s.tatOps := rfl
@[simp] theorem State.updFc_fld (s : State) (id : Nat) (f : FcSource → FcSource) (g : Field) (j : Nat) : (s.updFc id f).fld g j = s.fld g j := rfl

/-! ### updPart -/

@[simp] theorem State.updPart_pending (s : State) (k : Nat) (f : Partition → Partition) : (s.updPart k f).pending = s.pending := rfl
@[simp] theorem State.updPart_regs (s : State) (k : Nat) (f : Partition → Partition) : (s.updPart k f).regs = s.regs := rfl
@[simp] theorem State.updPart_staged (s : State) (k : Nat) (f : Partition → Partition) : (s.updPart k f).staged = s.staged := rfl
@[simp] theorem State.updPart_mem (s : State) (k : Nat) (f : Partition → Partition) : (s.updPart k f).mem = s.mem := rfl
@[simp] theorem State.updPart_ct (s : State) (k : Nat) (f : Partition → Partition) : (s.updPart k f).ct = s.ct := rfl
@[simp] theorem State.updPart_power (s : State) (k : Nat) (f : Partition → Partition) : (s.updPart k f).power = s.power := rfl
@[simp] theorem State.updPart_nvmCfg (s : State) (k : Nat) (f : Partition → Partition) : (s.updPart k f).nvmCfg = s.nvmCfg := rfl
@[simp] theorem State.updPart_fwCopy (s : State) (k : Nat) (f : Partition → Partition) : (s.updPart k f).fwCopy = s.fwCopy := rfl
@[simp] theorem State.updPart_snaps (s : State) (k : Nat) (f : Partition → Partition) : (s.updPart k f).snaps = s.snaps := rfl
@[simp] theorem State.updPart_frozen (s : State) (k : Nat) (f : Partition → Partition) : (s.updPart k f).frozen = s.frozen := rfl
@[simp] theorem State.updPart_parts (s : State) (k : Nat) (f : Partition → Partition) :
    (s.updPart k f).parts = s.parts.upd k f := rfl
@[simp] theorem State.updPart_migs (s : State) (k : Nat) (f : Partition → Partition) : (s.updPart k f).migs = s.migs := rfl
@[simp] theorem State.updPart_dpe (s : State) (k : Nat) (f : Partition → Partition) : (s.updPart k f).dpe = s.dpe := rfl
@[simp] theorem State.updPart_pool (s : State) (k : Nat) (f : Partition → Partition) : (s.updPart k f).pool = s.pool := rfl
@[simp] theorem State.updPart_tt (s : State) (k : Nat) (f : Partition → Partition) : (s.updPart k f).tt = s.tt := rfl
@[simp] theorem State.updPart_mf (s : State) (k : Nat) (f : Partition → Partition) : (s.updPart k f).mf = s.mf := rfl
@[simp] theorem State.updPart_cc (s : State) (k : Nat) (f : Partition → Partition) : (s.updPart k f).cc = s.cc := rfl
@[simp] theorem State.updPart_pd (s : State) (k : Nat) (f : Partition → Partition) : (s.updPart k f).pd = s.pd := rfl
@[simp] theorem State.updPart_profiles (s : State) (k : Nat) (f : Partition → Partition) : (s.updPart k f).profiles = s.profiles := rfl
@[simp] theorem State.updPart_pwr (s : State) (k : Nat) (f : Partition → Partition) : (s.updPart k f).pwr = s.pwr := rfl
@[simp] theorem State.updPart_gov (s : State) (k : Nat) (f : Partition → Partition) : (s.updPart k f).gov = s.gov := rfl
@[simp] theorem State.updPart_govHw (s : State) (k : Nat) (f : Partition → Partition) : (s.updPart k f).govHw = s.govHw := rfl
@[simp] theorem State.updPart_ent (s : State) (k : Nat) (f : Partition → Partition) : (s.updPart k f).ent = s.ent := rfl
@[simp] theorem State.updPart_bcq (s : State) (k : Nat) (f : Partition → Partition) : (s.updPart k f).bcq = s.bcq := rfl
@[simp] theorem State.updPart_chord (s : State) (k : Nat) (f : Partition → Partition) : (s.updPart k f).chord = s.chord := rfl
@[simp] theorem State.updPart_links (s : State) (k : Nat) (f : Partition → Partition) : (s.updPart k f).links = s.links := rfl
@[simp] theorem State.updPart_tat (s : State) (k : Nat) (f : Partition → Partition) : (s.updPart k f).tat = s.tat := rfl
@[simp] theorem State.updPart_tatOrder (s : State) (k : Nat) (f : Partition → Partition) : (s.updPart k f).tatOrder = s.tatOrder := rfl
@[simp] theorem State.updPart_trc (s : State) (k : Nat) (f : Partition → Partition) : (s.updPart k f).trc = s.trc := rfl
@[simp] theorem State.updPart_mbx (s : State) (k : Nat) (f : Partition → Partition) : (s.updPart k f).mbx = s.mbx := rfl
@[simp] theorem State.updPart_cores (s : State) (k : Nat) (f : Partition → Partition) : (s.updPart k f).cores = s.cores := rfl
@[simp] theorem State.updPart_hw (s : State) (k : Nat) (f : Partition → Partition) : (s.updPart k f).hw = s.hw := rfl
@[simp] theorem State.updPart_fc (s : State) (k : Nat) (f : Partition → Partition) : (s.updPart k f).fc = s.fc := rfl
@[simp] theorem State.updPart_log (s : State) (k : Nat) (f : Partition → Partition) : (s.updPart k f).log = s.log := rfl
@[simp] theorem State.updPart_free (s : State) (k : Nat) (f : Partition → Partition) : (s.updPart k f).free = s.free := rfl
@[simp] theorem State.updPart_tatOps (s : State) (k : Nat) (f : Partition → Partition) : (s.updPart k f).tatOps = s.tatOps := rfl
@[simp] theorem State.updPart_fld (s : State) (k : Nat) (f : Partition → Partition) (g : Field) (j : Nat) : (s.updPart k f).fld g j = s.fld g j := rfl

/-! ### updCc -/

@[simp] theorem State.updCc_pending (s : State) (p : Nat) (f : CcPort → CcPort) : (s.updCc p f).pending = s.pending := rfl
@[simp] theorem State.updCc_regs (s : State) (p : Nat) (f : CcPort → CcPort) : (s.updCc p f).regs = s.regs := rfl
@[simp] theorem State.updCc_staged (s : State) (p : Nat) (f : CcPort → CcPort) : (s.updCc p f).staged = s.staged := rfl
@[simp] theorem State.updCc_mem (s : State) (p : Nat) (f : CcPort → CcPort) : (s.updCc p f).mem = s.mem := rfl
@[simp] theorem State.updCc_ct (s : State) (p : Nat) (f : CcPort → CcPort) : (s.updCc p f).ct = s.ct := rfl
@[simp] theorem State.updCc_power (s : State) (p : Nat) (f : CcPort → CcPort) : (s.updCc p f).power = s.power := rfl
@[simp] theorem State.updCc_nvmCfg (s : State) (p : Nat) (f : CcPort → CcPort) : (s.updCc p f).nvmCfg = s.nvmCfg := rfl
@[simp] theorem State.updCc_fwCopy (s : State) (p : Nat) (f : CcPort → CcPort) : (s.updCc p f).fwCopy = s.fwCopy := rfl
@[simp] theorem State.updCc_snaps (s : State) (p : Nat) (f : CcPort → CcPort) : (s.updCc p f).snaps = s.snaps := rfl
@[simp] theorem State.updCc_frozen (s : State) (p : Nat) (f : CcPort → CcPort) : (s.updCc p f).frozen = s.frozen := rfl
@[simp] theorem State.updCc_parts (s : State) (p : Nat) (f : CcPort → CcPort) : (s.updCc p f).parts = s.parts := rfl
@[simp] theorem State.updCc_migs (s : State) (p : Nat) (f : CcPort → CcPort) : (s.updCc p f).migs = s.migs := rfl
@[simp] theorem State.updCc_dpe (s : State) (p : Nat) (f : CcPort → CcPort) : (s.updCc p f).dpe = s.dpe := rfl
@[simp] theorem State.updCc_pool (s : State) (p : Nat) (f : CcPort → CcPort) : (s.updCc p f).pool = s.pool := rfl
@[simp] theorem State.updCc_tt (s : State) (p : Nat) (f : CcPort → CcPort) : (s.updCc p f).tt = s.tt := rfl
@[simp] theorem State.updCc_mf (s : State) (p : Nat) (f : CcPort → CcPort) : (s.updCc p f).mf = s.mf := rfl
@[simp] theorem State.updCc_cc (s : State) (p : Nat) (f : CcPort → CcPort) :
    (s.updCc p f).cc = s.cc.upd p f := rfl
@[simp] theorem State.updCc_pd (s : State) (p : Nat) (f : CcPort → CcPort) : (s.updCc p f).pd = s.pd := rfl
@[simp] theorem State.updCc_profiles (s : State) (p : Nat) (f : CcPort → CcPort) : (s.updCc p f).profiles = s.profiles := rfl
@[simp] theorem State.updCc_pwr (s : State) (p : Nat) (f : CcPort → CcPort) : (s.updCc p f).pwr = s.pwr := rfl
@[simp] theorem State.updCc_gov (s : State) (p : Nat) (f : CcPort → CcPort) : (s.updCc p f).gov = s.gov := rfl
@[simp] theorem State.updCc_govHw (s : State) (p : Nat) (f : CcPort → CcPort) : (s.updCc p f).govHw = s.govHw := rfl
@[simp] theorem State.updCc_ent (s : State) (p : Nat) (f : CcPort → CcPort) : (s.updCc p f).ent = s.ent := rfl
@[simp] theorem State.updCc_bcq (s : State) (p : Nat) (f : CcPort → CcPort) : (s.updCc p f).bcq = s.bcq := rfl
@[simp] theorem State.updCc_chord (s : State) (p : Nat) (f : CcPort → CcPort) : (s.updCc p f).chord = s.chord := rfl
@[simp] theorem State.updCc_links (s : State) (p : Nat) (f : CcPort → CcPort) : (s.updCc p f).links = s.links := rfl
@[simp] theorem State.updCc_tat (s : State) (p : Nat) (f : CcPort → CcPort) : (s.updCc p f).tat = s.tat := rfl
@[simp] theorem State.updCc_tatOrder (s : State) (p : Nat) (f : CcPort → CcPort) : (s.updCc p f).tatOrder = s.tatOrder := rfl
@[simp] theorem State.updCc_trc (s : State) (p : Nat) (f : CcPort → CcPort) : (s.updCc p f).trc = s.trc := rfl
@[simp] theorem State.updCc_mbx (s : State) (p : Nat) (f : CcPort → CcPort) : (s.updCc p f).mbx = s.mbx := rfl
@[simp] theorem State.updCc_cores (s : State) (p : Nat) (f : CcPort → CcPort) : (s.updCc p f).cores = s.cores := rfl
@[simp] theorem State.updCc_hw (s : State) (p : Nat) (f : CcPort → CcPort) : (s.updCc p f).hw = s.hw := rfl
@[simp] theorem State.updCc_fc (s : State) (p : Nat) (f : CcPort → CcPort) : (s.updCc p f).fc = s.fc := rfl
@[simp] theorem State.updCc_log (s : State) (p : Nat) (f : CcPort → CcPort) : (s.updCc p f).log = s.log := rfl
@[simp] theorem State.updCc_free (s : State) (p : Nat) (f : CcPort → CcPort) : (s.updCc p f).free = s.free := rfl
@[simp] theorem State.updCc_tatOps (s : State) (p : Nat) (f : CcPort → CcPort) : (s.updCc p f).tatOps = s.tatOps := rfl
@[simp] theorem State.updCc_fld (s : State) (p : Nat) (f : CcPort → CcPort) (g : Field) (j : Nat) : (s.updCc p f).fld g j = s.fld g j := rfl

/-! ### updPd -/

@[simp] theorem State.updPd_pending (s : State) (p : Nat) (f : PdPort → PdPort) : (s.updPd p f).pending = s.pending := rfl
@[simp] theorem State.updPd_regs (s : State) (p : Nat) (f : PdPort → PdPort) : (s.updPd p f).regs = s.regs := rfl
@[simp] theorem State.updPd_staged (s : State) (p : Nat) (f : PdPort → PdPort) : (s.updPd p f).staged = s.staged := rfl
@[simp] theorem State.updPd_mem (s : State) (p : Nat) (f : PdPort → PdPort) : (s.updPd p f).mem = s.mem := rfl
@[simp] theorem State.updPd_ct (s : State) (p : Nat) (f : PdPort → PdPort) : (s.updPd p f).ct = s.ct := rfl
@[simp] theorem State.updPd_power (s : State) (p : Nat) (f : PdPort → PdPort) : (s.updPd p f).power = s.power := rfl
@[simp] theorem State.updPd_nvmCfg (s : State) (p : Nat) (f : PdPort → PdPort) : (s.updPd p f).nvmCfg = s.nvmCfg := rfl
@[simp] theorem State.updPd_fwCopy (s : State) (p : Nat) (f : PdPort → PdPort) : (s.updPd p f).fwCopy = s.fwCopy := rfl
@[simp] theorem State.updPd_snaps (s : State) (p : Nat) (f : PdPort → PdPort) : (s.updPd p f).snaps = s.snaps := rfl
@[simp] theorem State.updPd_frozen (s : State) (p : Nat) (f : PdPort → PdPort) : (s.updPd p f).frozen = s.frozen := rfl
@[simp] theorem State.updPd_parts (s : State) (p : Nat) (f : PdPort → PdPort) : (s.updPd p f).parts = s.parts := rfl
@[simp] theorem State.updPd_migs (s : State) (p : Nat) (f : PdPort → PdPort) : (s.updPd p f).migs = s.migs := rfl
@[simp] theorem State.updPd_dpe (s : State) (p : Nat) (f : PdPort → PdPort) : (s.updPd p f).dpe = s.dpe := rfl
@[simp] theorem State.updPd_pool (s : State) (p : Nat) (f : PdPort → PdPort) : (s.updPd p f).pool = s.pool := rfl
@[simp] theorem State.updPd_tt (s : State) (p : Nat) (f : PdPort → PdPort) : (s.updPd p f).tt = s.tt := rfl
@[simp] theorem State.updPd_mf (s : State) (p : Nat) (f : PdPort → PdPort) : (s.updPd p f).mf = s.mf := rfl
@[simp] theorem State.updPd_cc (s : State) (p : Nat) (f : PdPort → PdPort) : (s.updPd p f).cc = s.cc := rfl
@[simp] theorem State.updPd_pd (s : State) (p : Nat) (f : PdPort → PdPort) :
    (s.updPd p f).pd = s.pd.upd p f := rfl
@[simp] theorem State.updPd_profiles (s : State) (p : Nat) (f : PdPort → PdPort) : (s.updPd p f).profiles = s.profiles := rfl
@[simp] theorem State.updPd_pwr (s : State) (p : Nat) (f : PdPort → PdPort) : (s.updPd p f).pwr = s.pwr := rfl
@[simp] theorem State.updPd_gov (s : State) (p : Nat) (f : PdPort → PdPort) : (s.updPd p f).gov = s.gov := rfl
@[simp] theorem State.updPd_govHw (s : State) (p : Nat) (f : PdPort → PdPort) : (s.updPd p f).govHw = s.govHw := rfl
@[simp] theorem State.updPd_ent (s : State) (p : Nat) (f : PdPort → PdPort) : (s.updPd p f).ent = s.ent := rfl
@[simp] theorem State.updPd_bcq (s : State) (p : Nat) (f : PdPort → PdPort) : (s.updPd p f).bcq = s.bcq := rfl
@[simp] theorem State.updPd_chord (s : State) (p : Nat) (f : PdPort → PdPort) : (s.updPd p f).chord = s.chord := rfl
@[simp] theorem State.updPd_links (s : State) (p : Nat) (f : PdPort → PdPort) : (s.updPd p f).links = s.links := rfl
@[simp] theorem State.updPd_tat (s : State) (p : Nat) (f : PdPort → PdPort) : (s.updPd p f).tat = s.tat := rfl
@[simp] theorem State.updPd_tatOrder (s : State) (p : Nat) (f : PdPort → PdPort) : (s.updPd p f).tatOrder = s.tatOrder := rfl
@[simp] theorem State.updPd_trc (s : State) (p : Nat) (f : PdPort → PdPort) : (s.updPd p f).trc = s.trc := rfl
@[simp] theorem State.updPd_mbx (s : State) (p : Nat) (f : PdPort → PdPort) : (s.updPd p f).mbx = s.mbx := rfl
@[simp] theorem State.updPd_cores (s : State) (p : Nat) (f : PdPort → PdPort) : (s.updPd p f).cores = s.cores := rfl
@[simp] theorem State.updPd_hw (s : State) (p : Nat) (f : PdPort → PdPort) : (s.updPd p f).hw = s.hw := rfl
@[simp] theorem State.updPd_fc (s : State) (p : Nat) (f : PdPort → PdPort) : (s.updPd p f).fc = s.fc := rfl
@[simp] theorem State.updPd_log (s : State) (p : Nat) (f : PdPort → PdPort) : (s.updPd p f).log = s.log := rfl
@[simp] theorem State.updPd_free (s : State) (p : Nat) (f : PdPort → PdPort) : (s.updPd p f).free = s.free := rfl
@[simp] theorem State.updPd_tatOps (s : State) (p : Nat) (f : PdPort → PdPort) : (s.updPd p f).tatOps = s.tatOps := rfl
@[simp] theorem State.updPd_fld (s : State) (p : Nat) (f : PdPort → PdPort) (g : Field) (j : Nat) : (s.updPd p f).fld g j = s.fld g j := rfl

/-! ### updPwr -/

@[simp] theorem State.updPwr_pending (s : State) (p : Nat) (f : PwrPort → PwrPort) : (s.updPwr p f).pending = s.pending := rfl
@[simp] theorem State.updPwr_regs (s : State) (p : Nat) (f : PwrPort → PwrPort) : (s.updPwr p f).regs = s.regs := rfl
@[simp] theorem State.updPwr_staged (s : State) (p : Nat) (f : PwrPort → PwrPort) : (s.updPwr p f).staged = s.staged := rfl
@[simp] theorem State.updPwr_mem (s : State) (p : Nat) (f : PwrPort → PwrPort) : (s.updPwr p f).mem = s.mem := rfl
@[simp] theorem State.updPwr_ct (s : State) (p : Nat) (f : PwrPort → PwrPort) : (s.updPwr p f).ct = s.ct := rfl
@[simp] theorem State.updPwr_power (s : State) (p : Nat) (f : PwrPort → PwrPort) : (s.updPwr p f).power = s.power := rfl
@[simp] theorem State.updPwr_nvmCfg (s : State) (p : Nat) (f : PwrPort → PwrPort) : (s.updPwr p f).nvmCfg = s.nvmCfg := rfl
@[simp] theorem State.updPwr_fwCopy (s : State) (p : Nat) (f : PwrPort → PwrPort) : (s.updPwr p f).fwCopy = s.fwCopy := rfl
@[simp] theorem State.updPwr_snaps (s : State) (p : Nat) (f : PwrPort → PwrPort) : (s.updPwr p f).snaps = s.snaps := rfl
@[simp] theorem State.updPwr_frozen (s : State) (p : Nat) (f : PwrPort → PwrPort) : (s.updPwr p f).frozen = s.frozen := rfl
@[simp] theorem State.updPwr_parts (s : State) (p : Nat) (f : PwrPort → PwrPort) : (s.updPwr p f).parts = s.parts := rfl
@[simp] theorem State.updPwr_migs (s : State) (p : Nat) (f : PwrPort → PwrPort) : (s.updPwr p f).migs = s.migs := rfl
@[simp] theorem State.updPwr_dpe (s : State) (p : Nat) (f : PwrPort → PwrPort) : (s.updPwr p f).dpe = s.dpe := rfl
@[simp] theorem State.updPwr_pool (s : State) (p : Nat) (f : PwrPort → PwrPort) : (s.updPwr p f).pool = s.pool := rfl
@[simp] theorem State.updPwr_tt (s : State) (p : Nat) (f : PwrPort → PwrPort) : (s.updPwr p f).tt = s.tt := rfl
@[simp] theorem State.updPwr_mf (s : State) (p : Nat) (f : PwrPort → PwrPort) : (s.updPwr p f).mf = s.mf := rfl
@[simp] theorem State.updPwr_cc (s : State) (p : Nat) (f : PwrPort → PwrPort) : (s.updPwr p f).cc = s.cc := rfl
@[simp] theorem State.updPwr_pd (s : State) (p : Nat) (f : PwrPort → PwrPort) : (s.updPwr p f).pd = s.pd := rfl
@[simp] theorem State.updPwr_profiles (s : State) (p : Nat) (f : PwrPort → PwrPort) : (s.updPwr p f).profiles = s.profiles := rfl
@[simp] theorem State.updPwr_pwr (s : State) (p : Nat) (f : PwrPort → PwrPort) :
    (s.updPwr p f).pwr = s.pwr.upd p f := rfl
@[simp] theorem State.updPwr_gov (s : State) (p : Nat) (f : PwrPort → PwrPort) : (s.updPwr p f).gov = s.gov := rfl
@[simp] theorem State.updPwr_govHw (s : State) (p : Nat) (f : PwrPort → PwrPort) : (s.updPwr p f).govHw = s.govHw := rfl
@[simp] theorem State.updPwr_ent (s : State) (p : Nat) (f : PwrPort → PwrPort) : (s.updPwr p f).ent = s.ent := rfl
@[simp] theorem State.updPwr_bcq (s : State) (p : Nat) (f : PwrPort → PwrPort) : (s.updPwr p f).bcq = s.bcq := rfl
@[simp] theorem State.updPwr_chord (s : State) (p : Nat) (f : PwrPort → PwrPort) : (s.updPwr p f).chord = s.chord := rfl
@[simp] theorem State.updPwr_links (s : State) (p : Nat) (f : PwrPort → PwrPort) : (s.updPwr p f).links = s.links := rfl
@[simp] theorem State.updPwr_tat (s : State) (p : Nat) (f : PwrPort → PwrPort) : (s.updPwr p f).tat = s.tat := rfl
@[simp] theorem State.updPwr_tatOrder (s : State) (p : Nat) (f : PwrPort → PwrPort) : (s.updPwr p f).tatOrder = s.tatOrder := rfl
@[simp] theorem State.updPwr_trc (s : State) (p : Nat) (f : PwrPort → PwrPort) : (s.updPwr p f).trc = s.trc := rfl
@[simp] theorem State.updPwr_mbx (s : State) (p : Nat) (f : PwrPort → PwrPort) : (s.updPwr p f).mbx = s.mbx := rfl
@[simp] theorem State.updPwr_cores (s : State) (p : Nat) (f : PwrPort → PwrPort) : (s.updPwr p f).cores = s.cores := rfl
@[simp] theorem State.updPwr_hw (s : State) (p : Nat) (f : PwrPort → PwrPort) : (s.updPwr p f).hw = s.hw := rfl
@[simp] theorem State.updPwr_fc (s : State) (p : Nat) (f : PwrPort → PwrPort) : (s.updPwr p f).fc = s.fc := rfl
@[simp] theorem State.updPwr_log (s : State) (p : Nat) (f : PwrPort → PwrPort) : (s.updPwr p f).log = s.log := rfl
@[simp] theorem State.updPwr_free (s : State) (p : Nat) (f : PwrPort → PwrPort) : (s.updPwr p f).free = s.free := rfl
@[simp] theorem State.updPwr_tatOps (s : State) (p : Nat) (f : PwrPort → PwrPort) : (s.updPwr p f).tatOps = s.tatOps := rfl
@[simp] theorem State.updPwr_fld (s : State) (p : Nat) (f : PwrPort → PwrPort) (g : Field) (j : Nat) : (s.updPwr p f).fld g j = s.fld g j := rfl

/-! ### updGov -/

@[simp] theorem State.updGov_pending (s : State) (p : Nat) (f : GovPort → GovPort) : (s.updGov p f).pending = s.pending := rfl
@[simp] theorem State.updGov_regs (s : State) (p : Nat) (f : GovPort → GovPort) : (s.updGov p f).regs = s.regs := rfl
@[simp] theorem State.updGov_staged (s : State) (p : Nat) (f : GovPort → GovPort) : (s.updGov p f).staged = s.staged := rfl
@[simp] theorem State.updGov_mem (s : State) (p : Nat) (f : GovPort → GovPort) : (s.updGov p f).mem = s.mem := rfl
@[simp] theorem State.updGov_ct (s : State) (p : Nat) (f : GovPort → GovPort) : (s.updGov p f).ct = s.ct := rfl
@[simp] theorem State.updGov_power (s : State) (p : Nat) (f : GovPort → GovPort) : (s.updGov p f).power = s.power := rfl
@[simp] theorem State.updGov_nvmCfg (s : State) (p : Nat) (f : GovPort → GovPort) : (s.updGov p f).nvmCfg = s.nvmCfg := rfl
@[simp] theorem State.updGov_fwCopy (s : State) (p : Nat) (f : GovPort → GovPort) : (s.updGov p f).fwCopy = s.fwCopy := rfl
@[simp] theorem State.updGov_snaps (s : State) (p : Nat) (f : GovPort → GovPort) : (s.updGov p f).snaps = s.snaps := rfl
@[simp] theorem State.updGov_frozen (s : State) (p : Nat) (f : GovPort → GovPort) : (s.updGov p f).frozen = s.frozen := rfl
@[simp] theorem State.updGov_parts (s : State) (p : Nat) (f : GovPort → GovPort) : (s.updGov p f).parts = s.parts := rfl
@[simp] theorem State.updGov_migs (s : State) (p : Nat) (f : GovPort → GovPort) : (s.updGov p f).migs = s.migs := rfl
@[simp] theorem State.updGov_dpe (s : State) (p : Nat) (f : GovPort → GovPort) : (s.updGov p f).dpe = s.dpe := rfl
@[simp] theorem State.updGov_pool (s : State) (p : Nat) (f : GovPort → GovPort) : (s.updGov p f).pool = s.pool := rfl
@[simp] theorem State.updGov_tt (s : State) (p : Nat) (f : GovPort → GovPort) : (s.updGov p f).tt = s.tt := rfl
@[simp] theorem State.updGov_mf (s : State) (p : Nat) (f : GovPort → GovPort) : (s.updGov p f).mf = s.mf := rfl
@[simp] theorem State.updGov_cc (s : State) (p : Nat) (f : GovPort → GovPort) : (s.updGov p f).cc = s.cc := rfl
@[simp] theorem State.updGov_pd (s : State) (p : Nat) (f : GovPort → GovPort) : (s.updGov p f).pd = s.pd := rfl
@[simp] theorem State.updGov_profiles (s : State) (p : Nat) (f : GovPort → GovPort) : (s.updGov p f).profiles = s.profiles := rfl
@[simp] theorem State.updGov_pwr (s : State) (p : Nat) (f : GovPort → GovPort) : (s.updGov p f).pwr = s.pwr := rfl
@[simp] theorem State.updGov_gov (s : State) (p : Nat) (f : GovPort → GovPort) :
    (s.updGov p f).gov = s.gov.upd p f := rfl
@[simp] theorem State.updGov_govHw (s : State) (p : Nat) (f : GovPort → GovPort) : (s.updGov p f).govHw = s.govHw := rfl
@[simp] theorem State.updGov_ent (s : State) (p : Nat) (f : GovPort → GovPort) : (s.updGov p f).ent = s.ent := rfl
@[simp] theorem State.updGov_bcq (s : State) (p : Nat) (f : GovPort → GovPort) : (s.updGov p f).bcq = s.bcq := rfl
@[simp] theorem State.updGov_chord (s : State) (p : Nat) (f : GovPort → GovPort) : (s.updGov p f).chord = s.chord := rfl
@[simp] theorem State.updGov_links (s : State) (p : Nat) (f : GovPort → GovPort) : (s.updGov p f).links = s.links := rfl
@[simp] theorem State.updGov_tat (s : State) (p : Nat) (f : GovPort → GovPort) : (s.updGov p f).tat = s.tat := rfl
@[simp] theorem State.updGov_tatOrder (s : State) (p : Nat) (f : GovPort → GovPort) : (s.updGov p f).tatOrder = s.tatOrder := rfl
@[simp] theorem State.updGov_trc (s : State) (p : Nat) (f : GovPort → GovPort) : (s.updGov p f).trc = s.trc := rfl
@[simp] theorem State.updGov_mbx (s : State) (p : Nat) (f : GovPort → GovPort) : (s.updGov p f).mbx = s.mbx := rfl
@[simp] theorem State.updGov_cores (s : State) (p : Nat) (f : GovPort → GovPort) : (s.updGov p f).cores = s.cores := rfl
@[simp] theorem State.updGov_hw (s : State) (p : Nat) (f : GovPort → GovPort) : (s.updGov p f).hw = s.hw := rfl
@[simp] theorem State.updGov_fc (s : State) (p : Nat) (f : GovPort → GovPort) : (s.updGov p f).fc = s.fc := rfl
@[simp] theorem State.updGov_log (s : State) (p : Nat) (f : GovPort → GovPort) : (s.updGov p f).log = s.log := rfl
@[simp] theorem State.updGov_free (s : State) (p : Nat) (f : GovPort → GovPort) : (s.updGov p f).free = s.free := rfl
@[simp] theorem State.updGov_tatOps (s : State) (p : Nat) (f : GovPort → GovPort) : (s.updGov p f).tatOps = s.tatOps := rfl
@[simp] theorem State.updGov_fld (s : State) (p : Nat) (f : GovPort → GovPort) (g : Field) (j : Nat) : (s.updGov p f).fld g j = s.fld g j := rfl

/-! ### updHw -/

@[simp] theorem State.updHw_pending (s : State) (f : SysHw → SysHw) : (s.updHw f).pending = s.pending := rfl
@[simp] theorem State.updHw_regs (s : State) (f : SysHw → SysHw) : (s.updHw f).regs = s.regs := rfl
@[simp] theorem State.updHw_staged (s : State) (f : SysHw → SysHw) : (s.updHw f).staged = s.staged := rfl
@[simp] theorem State.updHw_mem (s : State) (f : SysHw → SysHw) : (s.updHw f).mem = s.mem := rfl
@[simp] theorem State.updHw_ct (s : State) (f : SysHw → SysHw) : (s.updHw f).ct = s.ct := rfl
@[simp] theorem State.updHw_power (s : State) (f : SysHw → SysHw) : (s.updHw f).power = s.power := rfl
@[simp] theorem State.updHw_nvmCfg (s : State) (f : SysHw → SysHw) : (s.updHw f).nvmCfg = s.nvmCfg := rfl
@[simp] theorem State.updHw_fwCopy (s : State) (f : SysHw → SysHw) : (s.updHw f).fwCopy = s.fwCopy := rfl
@[simp] theorem State.updHw_snaps (s : State) (f : SysHw → SysHw) : (s.updHw f).snaps = s.snaps := rfl
@[simp] theorem State.updHw_frozen (s : State) (f : SysHw → SysHw) : (s.updHw f).frozen = s.frozen := rfl
@[simp] theorem State.updHw_parts (s : State) (f : SysHw → SysHw) : (s.updHw f).parts = s.parts := rfl
@[simp] theorem State.updHw_migs (s : State) (f : SysHw → SysHw) : (s.updHw f).migs = s.migs := rfl
@[simp] theorem State.updHw_dpe (s : State) (f : SysHw → SysHw) : (s.updHw f).dpe = s.dpe := rfl
@[simp] theorem State.updHw_pool (s : State) (f : SysHw → SysHw) : (s.updHw f).pool = s.pool := rfl
@[simp] theorem State.updHw_tt (s : State) (f : SysHw → SysHw) : (s.updHw f).tt = s.tt := rfl
@[simp] theorem State.updHw_mf (s : State) (f : SysHw → SysHw) : (s.updHw f).mf = s.mf := rfl
@[simp] theorem State.updHw_cc (s : State) (f : SysHw → SysHw) : (s.updHw f).cc = s.cc := rfl
@[simp] theorem State.updHw_pd (s : State) (f : SysHw → SysHw) : (s.updHw f).pd = s.pd := rfl
@[simp] theorem State.updHw_profiles (s : State) (f : SysHw → SysHw) : (s.updHw f).profiles = s.profiles := rfl
@[simp] theorem State.updHw_pwr (s : State) (f : SysHw → SysHw) : (s.updHw f).pwr = s.pwr := rfl
@[simp] theorem State.updHw_gov (s : State) (f : SysHw → SysHw) : (s.updHw f).gov = s.gov := rfl
@[simp] theorem State.updHw_govHw (s : State) (f : SysHw → SysHw) : (s.updHw f).govHw = s.govHw := rfl
@[simp] theorem State.updHw_ent (s : State) (f : SysHw → SysHw) : (s.updHw f).ent = s.ent := rfl
@[simp] theorem State.updHw_bcq (s : State) (f : SysHw → SysHw) : (s.updHw f).bcq = s.bcq := rfl
@[simp] theorem State.updHw_chord (s : State) (f : SysHw → SysHw) : (s.updHw f).chord = s.chord := rfl
@[simp] theorem State.updHw_links (s : State) (f : SysHw → SysHw) : (s.updHw f).links = s.links := rfl
@[simp] theorem State.updHw_tat (s : State) (f : SysHw → SysHw) : (s.updHw f).tat = s.tat := rfl
@[simp] theorem State.updHw_tatOrder (s : State) (f : SysHw → SysHw) : (s.updHw f).tatOrder = s.tatOrder := rfl
@[simp] theorem State.updHw_trc (s : State) (f : SysHw → SysHw) : (s.updHw f).trc = s.trc := rfl
@[simp] theorem State.updHw_mbx (s : State) (f : SysHw → SysHw) : (s.updHw f).mbx = s.mbx := rfl
@[simp] theorem State.updHw_cores (s : State) (f : SysHw → SysHw) : (s.updHw f).cores = s.cores := rfl
@[simp] theorem State.updHw_hw (s : State) (f : SysHw → SysHw) :
    (s.updHw f).hw = f s.hw := rfl
@[simp] theorem State.updHw_fc (s : State) (f : SysHw → SysHw) : (s.updHw f).fc = s.fc := rfl
@[simp] theorem State.updHw_log (s : State) (f : SysHw → SysHw) : (s.updHw f).log = s.log := rfl
@[simp] theorem State.updHw_free (s : State) (f : SysHw → SysHw) : (s.updHw f).free = s.free := rfl
@[simp] theorem State.updHw_tatOps (s : State) (f : SysHw → SysHw) : (s.updHw f).tatOps = s.tatOps := rfl
@[simp] theorem State.updHw_fld (s : State) (f : SysHw → SysHw) (g : Field) (j : Nat) : (s.updHw f).fld g j = s.fld g j := rfl

/-! ### updTat -/

@[simp] theorem State.updTat_pending (s : State) (i : Nat) (f : TatEntry → TatEntry) : (s.updTat i f).pending = s.pending := rfl
@[simp] theorem State.updTat_regs (s : State) (i : Nat) (f : TatEntry → TatEntry) : (s.updTat i f).regs = s.regs := rfl
@[simp] theorem State.updTat_staged (s : State) (i : Nat) (f : TatEntry → TatEntry) : (s.updTat i f).staged = s.staged := rfl
@[simp] theorem State.updTat_mem (s : State) (i : Nat) (f : TatEntry → TatEntry) : (s.updTat i f).mem = s.mem := rfl
@[simp] theorem State.updTat_ct (s : State) (i : Nat) (f : TatEntry → TatEntry) : (s.updTat i f).ct = s.ct := rfl
@[simp] theorem State.updTat_power (s : State) (i : Nat) (f : TatEntry → TatEntry) : (s.updTat i f).power = s.power := rfl
@[simp] theorem State.updTat_nvmCfg (s : State) (i : Nat) (f : TatEntry → TatEntry) : (s.updTat i f).nvmCfg = s.nvmCfg := rfl
@[simp] theorem State.updTat_fwCopy (s : State) (i : Nat) (f : TatEntry → TatEntry) : (s.updTat i f).fwCopy = s.fwCopy := rfl
@[simp] theorem State.updTat_snaps (s : State) (i : Nat) (f : TatEntry → TatEntry) : (s.updTat i f).snaps = s.snaps := rfl
@[simp] theorem State.updTat_frozen (s : State) (i : Nat) (f : TatEntry → TatEntry) : (s.updTat i f).frozen = s.frozen := rfl
@[simp] theorem State.updTat_parts (s : State) (i : Nat) (f : TatEntry → TatEntry) : (s.updTat i f).parts = s.parts := rfl
@[simp] theorem State.updTat_migs (s : State) (i : Nat) (f : TatEntry → TatEntry) : (s.updTat i f).migs = s.migs := rfl
@[simp] theorem State.updTat_dpe (s : State) (i : Nat) (f : TatEntry → TatEntry) : (s.updTat i f).dpe = s.dpe := rfl
@[simp] theorem State.updTat_pool (s : State) (i : Nat) (f : TatEntry → TatEntry) : (s.updTat i f).pool = s.pool := rfl
@[simp] theorem State.updTat_tt (s : State) (i : Nat) (f : TatEntry → TatEntry) : (s.updTat i f).tt = s.tt := rfl
@[simp] theorem State.updTat_mf (s : State) (i : Nat) (f : TatEntry → TatEntry) : (s.updTat i f).mf = s.mf := rfl
@[simp] theorem State.updTat_cc (s : State) (i : Nat) (f : TatEntry → TatEntry) : (s.updTat i f).cc = s.cc := rfl
@[simp] theorem State.updTat_pd (s : State) (i : Nat) (f : TatEntry → TatEntry) : (s.updTat i f).pd = s.pd := rfl
@[simp] theorem State.updTat_profiles (s : State) (i : Nat) (f : TatEntry → TatEntry) : (s.updTat i f).profiles = s.profiles := rfl
@[simp] theorem State.updTat_pwr (s : State) (i : Nat) (f : TatEntry → TatEntry) : (s.updTat i f).pwr = s.pwr := rfl
@[simp] theorem State.updTat_gov (s : State) (i : Nat) (f : TatEntry → TatEntry) : (s.updTat i f).gov = s.gov := rfl
@[simp] theorem State.updTat_govHw (s : State) (i : Nat) (f : TatEntry → TatEntry) : (s.updTat i f).govHw = s.govHw := rfl
@[simp] theorem State.updTat_ent (s : State) (i : Nat) (f : TatEntry → TatEntry) : (s.updTat i f).ent = s.ent := rfl
@[simp] theorem State.updTat_bcq (s : State) (i : Nat) (f : TatEntry → TatEntry) : (s.updTat i f).bcq = s.bcq := rfl
@[simp] theorem State.updTat_chord (s : State) (i : Nat) (f : TatEntry → TatEntry) : (s.updTat i f).chord = s.chord := rfl
@[simp] theorem State.updTat_links (s : State) (i : Nat) (f : TatEntry → TatEntry) : (s.updTat i f).links = s.links := rfl
@[simp] theorem State.updTat_tat (s : State) (i : Nat) (f : TatEntry → TatEntry) :
    (s.updTat i f).tat = s.tat.upd i f := rfl
@[simp] theorem State.updTat_tatOrder (s : State) (i : Nat) (f : TatEntry → TatEntry) : (s.updTat i f).tatOrder = s.tatOrder := rfl
@[simp] theorem State.updTat_trc (s : State) (i : Nat) (f : TatEntry → TatEntry) : (s.updTat i f).trc = s.trc := rfl
@[simp] theorem State.updTat_mbx (s : State) (i : Nat) (f : TatEntry → TatEntry) : (s.updTat i f).mbx = s.mbx := rfl
@[simp] theorem State.updTat_cores (s : State) (i : Nat) (f : TatEntry → TatEntry) : (s.updTat i f).cores = s.cores := rfl
@[simp] theorem State.updTat_hw (s : State) (i : Nat) (f : TatEntry → TatEntry) : (s.updTat i f).hw = s.hw := rfl
@[simp] theorem State.updTat_fc (s : State) (i : Nat) (f : TatEntry → TatEntry) : (s.updTat i f).fc = s.fc := rfl
@[simp] theorem State.updTat_log (s : State) (i : Nat) (f : TatEntry → TatEntry) : (s.updTat i f).log = s.log := rfl
@[simp] theorem State.updTat_free (s : State) (i : Nat) (f : TatEntry → TatEntry) : (s.updTat i f).free = s.free := rfl
@[simp] theorem State.updTat_tatOps (s : State) (i : Nat) (f : TatEntry → TatEntry) : (s.updTat i f).tatOps = s.tatOps := rfl
@[simp] theorem State.updTat_fld (s : State) (i : Nat) (f : TatEntry → TatEntry) (g : Field) (j : Nat) : (s.updTat i f).fld g j = s.fld g j := rfl

/-! ### updTrc -/

@[simp] theorem State.updTrc_pending (s : State) (f : TraceHw → TraceHw) : (s.updTrc f).pending = s.pending := rfl
@[simp] theorem State.updTrc_regs (s : State) (f : TraceHw → TraceHw) : (s.updTrc f).regs = s.regs := rfl
@[simp] theorem State.updTrc_staged (s : State) (f : TraceHw → TraceHw) : (s.updTrc f).staged = s.staged := rfl
@[simp] theorem State.updTrc_mem (s : State) (f : TraceHw → TraceHw) : (s.updTrc f).mem = s.mem := rfl
@[simp] theorem State.updTrc_ct (s : State) (f : TraceHw → TraceHw) : (s.updTrc f).ct = s.ct := rfl
@[simp] theorem State.updTrc_power (s : State) (f : TraceHw → TraceHw) : (s.updTrc f).power = s.power := rfl
@[simp] theorem State.updTrc_nvmCfg (s : State) (f : TraceHw → TraceHw) : (s.updTrc f).nvmCfg = s.nvmCfg := rfl
@[simp] theorem State.updTrc_fwCopy (s : State) (f : TraceHw → TraceHw) : (s.updTrc f).fwCopy = s.fwCopy := rfl
@[simp] theorem State.updTrc_snaps (s : State) (f : TraceHw → TraceHw) : (s.updTrc f).snaps = s.snaps := rfl
@[simp] theorem State.updTrc_frozen (s : State) (f : TraceHw → TraceHw) : (s.updTrc f).frozen = s.frozen := rfl
@[simp] theorem State.updTrc_parts (s : State) (f : TraceHw → TraceHw) : (s.updTrc f).parts = s.parts := rfl
@[simp] theorem State.updTrc_migs (s : State) (f : TraceHw → TraceHw) : (s.updTrc f).migs = s.migs := rfl
@[simp] theorem State.updTrc_dpe (s : State) (f : TraceHw → TraceHw) : (s.updTrc f).dpe = s.dpe := rfl
@[simp] theorem State.updTrc_pool (s : State) (f : TraceHw → TraceHw) : (s.updTrc f).pool = s.pool := rfl
@[simp] theorem State.updTrc_tt (s : State) (f : TraceHw → TraceHw) : (s.updTrc f).tt = s.tt := rfl
@[simp] theorem State.updTrc_mf (s : State) (f : TraceHw → TraceHw) : (s.updTrc f).mf = s.mf := rfl
@[simp] theorem State.updTrc_cc (s : State) (f : TraceHw → TraceHw) : (s.updTrc f).cc = s.cc := rfl
@[simp] theorem State.updTrc_pd (s : State) (f : TraceHw → TraceHw) : (s.updTrc f).pd = s.pd := rfl
@[simp] theorem State.updTrc_profiles (s : State) (f : TraceHw → TraceHw) : (s.updTrc f).profiles = s.profiles := rfl
@[simp] theorem State.updTrc_pwr (s : State) (f : TraceHw → TraceHw) : (s.updTrc f).pwr = s.pwr := rfl
@[simp] theorem State.updTrc_gov (s : State) (f : TraceHw → TraceHw) : (s.updTrc f).gov = s.gov := rfl
@[simp] theorem State.updTrc_govHw (s : State) (f : TraceHw → TraceHw) : (s.updTrc f).govHw = s.govHw := rfl
@[simp] theorem State.updTrc_ent (s : State) (f : TraceHw → TraceHw) : (s.updTrc f).ent = s.ent := rfl
@[simp] theorem State.updTrc_bcq (s : State) (f : TraceHw → TraceHw) : (s.updTrc f).bcq = s.bcq := rfl
@[simp] theorem State.updTrc_chord (s : State) (f : TraceHw → TraceHw) : (s.updTrc f).chord = s.chord := rfl
@[simp] theorem State.updTrc_links (s : State) (f : TraceHw → TraceHw) : (s.updTrc f).links = s.links := rfl
@[simp] theorem State.updTrc_tat (s : State) (f : TraceHw → TraceHw) : (s.updTrc f).tat = s.tat := rfl
@[simp] theorem State.updTrc_tatOrder (s : State) (f : TraceHw → TraceHw) : (s.updTrc f).tatOrder = s.tatOrder := rfl
@[simp] theorem State.updTrc_trc (s : State) (f : TraceHw → TraceHw) :
    (s.updTrc f).trc = f s.trc := rfl
@[simp] theorem State.updTrc_mbx (s : State) (f : TraceHw → TraceHw) : (s.updTrc f).mbx = s.mbx := rfl
@[simp] theorem State.updTrc_cores (s : State) (f : TraceHw → TraceHw) : (s.updTrc f).cores = s.cores := rfl
@[simp] theorem State.updTrc_hw (s : State) (f : TraceHw → TraceHw) : (s.updTrc f).hw = s.hw := rfl
@[simp] theorem State.updTrc_fc (s : State) (f : TraceHw → TraceHw) : (s.updTrc f).fc = s.fc := rfl
@[simp] theorem State.updTrc_log (s : State) (f : TraceHw → TraceHw) : (s.updTrc f).log = s.log := rfl
@[simp] theorem State.updTrc_free (s : State) (f : TraceHw → TraceHw) : (s.updTrc f).free = s.free := rfl
@[simp] theorem State.updTrc_tatOps (s : State) (f : TraceHw → TraceHw) : (s.updTrc f).tatOps = s.tatOps := rfl
@[simp] theorem State.updTrc_fld (s : State) (f : TraceHw → TraceHw) (g : Field) (j : Nat) : (s.updTrc f).fld g j = s.fld g j := rfl

/-! ### setContexts -/

@[simp] theorem State.setContexts_pending (s : State) (l : List Context) : (s.setContexts l).pending = s.pending := rfl
@[simp] theorem State.setContexts_regs (s : State) (l : List Context) : (s.setContexts l).regs = s.regs := rfl
@[simp] theorem State.setContexts_staged (s : State) (l : List Context) : (s.setContexts l).staged = s.staged := rfl
@[simp] theorem State.setContexts_mem (s : State) (l : List Context) : (s.setContexts l).mem = s.mem := rfl
@[simp] theorem State.setContexts_ct (s : State) (l : List Context) : (s.setContexts l).ct = s.ct := rfl
@[simp] theorem State.setContexts_power (s : State) (l : List Context) : (s.setContexts l).power = s.power := rfl
@[simp] theorem State.setContexts_nvmCfg (s : State) (l : List Context) : (s.setContexts l).nvmCfg = s.nvmCfg := rfl
@[simp] theorem State.setContexts_fwCopy (s : State) (l : List Context) : (s.setContexts l).fwCopy = s.fwCopy := rfl
@[simp] theorem State.setContexts_snaps (s : State) (l : List Context) : (s.setContexts l).snaps = s.snaps := rfl
@[simp] theorem State.setContexts_frozen (s : State) (l : List Context) : (s.setContexts l).frozen = s.frozen := rfl
@[simp] theorem State.setContexts_parts (s : State) (l : List Context) : (s.setContexts l).parts = s.parts := rfl
@[simp] theorem State.setContexts_migs (s : State) (l : List Context) : (s.setContexts l).migs = s.migs := rfl
@[simp] theorem State.setContexts_dpe (s : State) (l : List Context) : (s.setContexts l).dpe = s.dpe := rfl
@[simp] theorem State.setContexts_pool (s : State) (l : List Context) :
    (s.setContexts l).pool = { s.pool with contexts := l } := rfl
@[simp] theorem State.setContexts_tt (s : State) (l : List Context) : (s.setContexts l).tt = s.tt := rfl
@[simp] theorem State.setContexts_mf (s : State) (l : List Context) : (s.setContexts l).mf = s.mf := rfl
@[simp] theorem State.setContexts_cc (s : State) (l : List Context) : (s.setContexts l).cc = s.cc := rfl
@[simp] theorem State.setContexts_pd (s : State) (l : List Context) : (s.setContexts l).pd = s.pd := rfl
@[simp] theorem State.setContexts_profiles (s : State) (l : List Context) : (s.setContexts l).profiles = s.profiles := rfl
@[simp] theorem State.setContexts_pwr (s : State) (l : List Context) : (s.setContexts l).pwr = s.pwr := rfl
@[simp] theorem State.setContexts_gov (s : State) (l : List Context) : (s.setContexts l).gov = s.gov := rfl
@[simp] theorem State.setContexts_govHw (s : State) (l : List Context) : (s.setContexts l).govHw = s.govHw := rfl
@[simp] theorem State.setContexts_ent (s : State) (l : List Context) : (s.setContexts l).ent = s.ent := rfl
@[simp] theorem State.setContexts_bcq (s : State) (l : List Context) : (s.setContexts l).bcq = s.bcq := rfl
@[simp] theorem State.setContexts_chord (s : State) (l : List Context) : (s.setContexts l).chord = s.chord := rfl
@[simp] theorem State.setContexts_links (s : State) (l : List Context) : (s.setContexts l).links = s.links := rfl
@[simp] theorem State.setContexts_tat (s : State) (l : List Context) : (s.setContexts l).tat = s.tat := rfl
@[simp] theorem State.setContexts_tatOrder (s : State) (l : List Context) : (s.setContexts l).tatOrder = s.tatOrder := rfl
@[simp] theorem State.setContexts_trc (s : State) (l : List Context) : (s.setContexts l).trc = s.trc := rfl
@[simp] theorem State.setContexts_mbx (s : State) (l : List Context) : (s.setContexts l).mbx = s.mbx := rfl
@[simp] theorem State.setContexts_cores (s : State) (l : List Context) : (s.setContexts l).cores = s.cores := rfl
@[simp] theorem State.setContexts_hw (s : State) (l : List Context) : (s.setContexts l).hw = s.hw := rfl
@[simp] theorem State.setContexts_fc (s : State) (l : List Context) : (s.setContexts l).fc = s.fc := rfl
@[simp] theorem State.setContexts_log (s : State) (l : List Context) : (s.setContexts l).log = s.log := rfl
@[simp] theorem State.setContexts_free (s : State) (l : List Context) : (s.setContexts l).free = s.free := rfl
@[simp] theorem State.setContexts_tatOps (s : State) (l : List Context) : (s.setContexts l).tatOps = s.tatOps := rfl
@[simp] theorem State.setContexts_fld (s : State) (l : List Context) (g : Field) (j : Nat) : (s.setContexts l).fld g j = s.fld g j := rfl

/-! ### answer -/

@[simp] theorem State.answer_pending (s : State) (k : Nat) (a : BusAnswer) : (s.answer k a).pending = s.pending := rfl
@[simp] theorem State.answer_regs (s : State) (k : Nat) (a : BusAnswer) : (s.answer k a).regs = s.regs := rfl
@[simp] theorem State.answer_staged (s : State) (k : Nat) (a : BusAnswer) : (s.answer k a).staged = s.staged := rfl
@[simp] theorem State.answer_mem (s : State) (k : Nat) (a : BusAnswer) : (s.answer k a).mem = s.mem := rfl
@[simp] theorem State.answer_ct (s : State) (k : Nat) (a : BusAnswer) : (s.answer k a).ct = s.ct := rfl
@[simp] theorem State.answer_power (s : State) (k : Nat) (a : BusAnswer) : (s.answer k a).power = s.power := rfl
@[simp] theorem State.answer_nvmCfg (s : State) (k : Nat) (a : BusAnswer) : (s.answer k a).nvmCfg = s.nvmCfg := rfl
@[simp] theorem State.answer_fwCopy (s : State) (k : Nat) (a : BusAnswer) : (s.answer k a).fwCopy = s.fwCopy := rfl
@[simp] theorem State.answer_snaps (s : State) (k : Nat) (a : BusAnswer) : (s.answer k a).snaps = s.snaps := rfl
@[simp] theorem State.answer_frozen (s : State) (k : Nat) (a : BusAnswer) : (s.answer k a).frozen = s.frozen := rfl
@[simp] theorem State.answer_parts (s : State) (k : Nat) (a : BusAnswer) :
    (s.answer k a).parts = s.parts.upd k (fun r => { r with answer := a }) := rfl
@[simp] theorem State.answer_migs (s : State) (k : Nat) (a : BusAnswer) : (s.answer k a).migs = s.migs := rfl
@[simp] theorem State.answer_dpe (s : State) (k : Nat) (a : BusAnswer) : (s.answer k a).dpe = s.dpe := rfl
@[simp] theorem State.answer_pool (s : State) (k : Nat) (a : BusAnswer) : (s.answer k a).pool = s.pool := rfl
@[simp] theorem State.answer_tt (s : State) (k : Nat) (a : BusAnswer) : (s.answer k a).tt = s.tt := rfl
@[simp] theorem State.answer_mf (s : State) (k : Nat) (a : BusAnswer) : (s.answer k a).mf = s.mf := rfl
@[simp] theorem State.answer_cc (s : State) (k : Nat) (a : BusAnswer) : (s.answer k a).cc = s.cc := rfl
@[simp] theorem State.answer_pd (s : State) (k : Nat) (a : BusAnswer) : (s.answer k a).pd = s.pd := rfl
@[simp] theorem State.answer_profiles (s : State) (k : Nat) (a : BusAnswer) : (s.answer k a).profiles = s.profiles := rfl
@[simp] theorem State.answer_pwr (s : State) (k : Nat) (a : BusAnswer) : (s.answer k a).pwr = s.pwr := rfl
@[simp] theorem State.answer_gov (s : State) (k : Nat) (a : BusAnswer) : (s.answer k a).gov = s.gov := rfl
@[simp] theorem State.answer_govHw (s : State) (k : Nat) (a : BusAnswer) : (s.answer k a).govHw = s.govHw := rfl
@[simp] theorem State.answer_ent (s : State) (k : Nat) (a : BusAnswer) : (s.answer k a).ent = s.ent := rfl
@[simp] theorem State.answer_bcq (s : State) (k : Nat) (a : BusAnswer) : (s.answer k a).bcq = s.bcq := rfl
@[simp] theorem State.answer_chord (s : State) (k : Nat) (a : BusAnswer) : (s.answer k a).chord = s.chord := rfl
@[simp] theorem State.answer_links (s : State) (k : Nat) (a : BusAnswer) : (s.answer k a).links = s.links := rfl
@[simp] theorem State.answer_tat (s : State) (k : Nat) (a : BusAnswer) : (s.answer k a).tat = s.tat := rfl
@[simp] theorem State.answer_tatOrder (s : State) (k : Nat) (a : BusAnswer) : (s.answer k a).tatOrder = s.tatOrder := rfl
@[simp] theorem State.answer_trc (s : State) (k : Nat) (a : BusAnswer) : (s.answer k a).trc = s.trc := rfl
@[simp] theorem State.answer_mbx (s : State) (k : Nat) (a : BusAnswer) : (s.answer k a).mbx = s.mbx := rfl
@[simp] theorem State.answer_cores (s : State) (k : Nat) (a : BusAnswer) : (s.answer k a).cores = s.cores := rfl
@[simp] theorem State.answer_hw (s : State) (k : Nat) (a : BusAnswer) : (s.answer k a).hw = s.hw := rfl
@[simp] theorem State.answer_fc (s : State) (k : Nat) (a : BusAnswer) : (s.answer k a).fc = s.fc := rfl
@[simp] theorem State.answer_log (s : State) (k : Nat) (a : BusAnswer) : (s.answer k a).log = s.log := rfl
@[simp] theorem State.answer_free (s : State) (k : Nat) (a : BusAnswer) : (s.answer k a).free = s.free := rfl
@[simp] theorem State.answer_tatOps (s : State) (k : Nat) (a : BusAnswer) : (s.answer k a).tatOps = s.tatOps := rfl
@[simp] theorem State.answer_fld (s : State) (k : Nat) (a : BusAnswer) (g : Field) (j : Nat) : (s.answer k a).fld g j = s.fld g j := rfl

end Sys2Proof.Machine
end

