-- ==== Sys2Proof/Laws/ViaOps.lean ====
section
/-! SUPPORT. What each operation of Machine/Ops.lean can do to the state (see Laws/Via.lean). -/

namespace Sys2Proof.Machine

set_option linter.unusedTactic false
set_option linter.unreachableTactic false
set_option linter.unusedSimpArgs false
set_option linter.unusedVariables false

set_option Elab.async false

theorem State.setDomRequest_via (s : State) (d : Nat) (b : Bool) : Via 1 s (State.setDomRequest s d b) := by
  unfold State.setDomRequest
  repeat' first
    | with_reducible exact Via.refl _
    | with_reducible assumption
    | decide +kernel
    | (intro x; refine Via.cutLet (m := 1) (s := s) (t := x) ?_ ?_)
    | (refine fun hx => ?_; clear_value x)
    | intro x
    | with_reducible apply Via.putBit
    | with_reducible apply Via.put
    | with_reducible apply Via.ite
    | split
    | (dsimp only [x]; split)
    | (dsimp +zetaDelta only; split)
    | (dsimp only)

theorem State.irq_via (s : State) (n : Nat) : Via 524288 s (State.irq s n) := by
  unfold State.irq
  repeat' first
    | with_reducible exact Via.refl _
    | with_reducible assumption
    | decide +kernel
    | (intro x; refine Via.cutLet (m := 524288) (s := s) (t := x) ?_ ?_)
    | (refine fun hx => ?_; clear_value x)
    | intro x
    | with_reducible apply Via.putBit
    | with_reducible apply Via.ite
    | split
    | (dsimp only [x]; split)
    | (dsimp +zetaDelta only; split)
    | (dsimp only)

theorem State.logAs_via (s : State) (sync ct id kind flags : Nat) (data : List Nat) : Via 288230376160100352 s (State.logAs s sync ct id kind flags data) := by
  unfold State.logAs
  repeat' first
    | with_reducible exact Via.refl _
    | with_reducible assumption
    | decide +kernel
    | (intro x; refine Via.cutLet (m := 288230376160100352) (s := s) (t := x) ?_ ?_)
    | (refine fun hx => ?_; clear_value x)
    | intro x
    | with_reducible apply Via.incr
    | with_reducible apply Via.ite
    | split
    | (dsimp only [x]; split)
    | (dsimp +zetaDelta only; split)
    | with_reducible apply Via.set_log
    | (dsimp only)

theorem State.logAt_via (s : State) (ct id kind flags : Nat) (data : List Nat) : Via 288230376160100352 s (State.logAt s ct id kind flags data) := by
  unfold State.logAt
  repeat' first
    | with_reducible exact Via.refl _
    | with_reducible assumption
    | decide +kernel
    | (intro x; refine Via.cutLet (m := 288230376160100352) (s := s) (t := x) ?_ ?_)
    | (refine fun hx => ?_; clear_value x)
    | intro x
    | with_reducible apply Via.then (State.logAs_via ..)
    | split
    | (dsimp only [x]; split)
    | (dsimp +zetaDelta only; split)
    | (dsimp only)

theorem State.logRec_via (s : State) (id kind : Nat) (data : List Nat) : Via 288230376160100352 s (State.logRec s id kind data) := by
  unfold State.logRec
  repeat' first
    | with_reducible exact Via.refl _
    | with_reducible assumption
    | decide +kernel
    | (intro x; refine Via.cutLet (m := 288230376160100352) (s := s) (t := x) ?_ ?_)
    | (refine fun hx => ?_; clear_value x)
    | intro x
    | with_reducible apply Via.then (State.logAt_via ..)
    | split
    | (dsimp only [x]; split)
    | (dsimp +zetaDelta only; split)
    | (dsimp only)

theorem State.logPort_via (s : State) (p sub cause : Nat) : Via 288230376160100352 s (State.logPort s p sub cause) := by
  unfold State.logPort
  repeat' first
    | with_reducible exact Via.refl _
    | with_reducible assumption
    | decide +kernel
    | (intro x; refine Via.cutLet (m := 288230376160100352) (s := s) (t := x) ?_ ?_)
    | (refine fun hx => ?_; clear_value x)
    | intro x
    | with_reducible apply Via.then (State.logRec_via ..)
    | split
    | (dsimp only [x]; split)
    | (dsimp +zetaDelta only; split)
    | (dsimp only)

theorem State.logPower_via (s : State) (sub : Nat) (values : List Nat) : Via 288230376160100352 s (State.logPower s sub values) := by
  unfold State.logPower
  repeat' first
    | with_reducible exact Via.refl _
    | with_reducible assumption
    | decide +kernel
    | (intro x; refine Via.cutLet (m := 288230376160100352) (s := s) (t := x) ?_ ?_)
    | (refine fun hx => ?_; clear_value x)
    | intro x
    | with_reducible apply Via.then (State.logRec_via ..)
    | split
    | (dsimp only [x]; split)
    | (dsimp +zetaDelta only; split)
    | (dsimp only)

theorem State.logTime_via (s : State) (sub : Nat) (values : List Nat) : Via 288230376160100352 s (State.logTime s sub values) := by
  unfold State.logTime
  repeat' first
    | with_reducible exact Via.refl _
    | with_reducible assumption
    | decide +kernel
    | (intro x; refine Via.cutLet (m := 288230376160100352) (s := s) (t := x) ?_ ?_)
    | (refine fun hx => ?_; clear_value x)
    | intro x
    | with_reducible apply Via.then (State.logRec_via ..)
    | split
    | (dsimp only [x]; split)
    | (dsimp +zetaDelta only; split)
    | (dsimp only)

theorem State.logSystem_via (s : State) (sub : Nat) (values : List Nat) : Via 288230376160100352 s (State.logSystem s sub values) := by
  unfold State.logSystem
  repeat' first
    | with_reducible exact Via.refl _
    | with_reducible assumption
    | decide +kernel
    | (intro x; refine Via.cutLet (m := 288230376160100352) (s := s) (t := x) ?_ ?_)
    | (refine fun hx => ?_; clear_value x)
    | intro x
    | with_reducible apply Via.then (State.logRec_via ..)
    | split
    | (dsimp only [x]; split)
    | (dsimp +zetaDelta only; split)
    | (dsimp only)

theorem State.logOther_via (s : State) (die blk : Nat) (values : List Nat) : Via 288230376160100352 s (State.logOther s die blk values) := by
  unfold State.logOther
  repeat' first
    | with_reducible exact Via.refl _
    | with_reducible assumption
    | decide +kernel
    | (intro x; refine Via.cutLet (m := 288230376160100352) (s := s) (t := x) ?_ ?_)
    | (refine fun hx => ?_; clear_value x)
    | intro x
    | with_reducible apply Via.then (State.logRec_via ..)
    | split
    | (dsimp only [x]; split)
    | (dsimp +zetaDelta only; split)
    | (dsimp only)

theorem State.updMf_via (s : State) (k : Nat) (f : MfInst → MfInst) : Via 1099511627776 s (State.updMf s k f) := by
  unfold State.updMf
  repeat' first
    | with_reducible exact Via.refl _
    | with_reducible assumption
    | decide +kernel
    | (intro x; refine Via.cutLet (m := 1099511627776) (s := s) (t := x) ?_ ?_)
    | (refine fun hx => ?_; clear_value x)
    | intro x
    | split
    | (dsimp only [x]; split)
    | (dsimp +zetaDelta only; split)
    | with_reducible apply Via.set_mf
    | (dsimp only)

theorem State.noticeTo_via (s : State) (k typ data : Nat) : Via 1099511628288 s (State.noticeTo s k typ data) := by
  unfold State.noticeTo
  repeat' first
    | with_reducible exact Via.refl _
    | with_reducible assumption
    | decide +kernel
    | (intro x; refine Via.cutLet (m := 1099511628288) (s := s) (t := x) ?_ ?_)
    | (refine fun hx => ?_; clear_value x)
    | intro x
    | lift_lets
    | with_reducible apply Via.put
    | with_reducible apply Via.incr
    | with_reducible apply Via.ite
    | with_reducible apply Via.then (State.updMf_via ..)
    | split
    | (dsimp only [x]; split)
    | (dsimp +zetaDelta only; split)
    | (dsimp only)

theorem State.bcRefresh_via (s : State) : Via 33554432 s (State.bcRefresh s) := by
  unfold State.bcRefresh
  repeat' first
    | with_reducible exact Via.refl _
    | with_reducible assumption
    | decide +kernel
    | (intro x; refine Via.cutLet (m := 33554432) (s := s) (t := x) ?_ ?_)
    | (refine fun hx => ?_; clear_value x)
    | intro x
    | with_reducible apply Via.setFld
    | with_reducible apply Via.put
    | split
    | (dsimp only [x]; split)
    | (dsimp +zetaDelta only; split)
    | (dsimp only)

theorem State.noticeBc_via (s : State) (typ data : Nat) : Via 281475010265088 s (State.noticeBc s typ data) := by
  unfold State.noticeBc
  repeat' first
    | with_reducible exact Via.refl _
    | with_reducible assumption
    | decide +kernel
    | (intro x; refine Via.cutLet (m := 281475010265088) (s := s) (t := x) ?_ ?_)
    | (refine fun hx => ?_; clear_value x)
    | intro x
    | lift_lets
    | with_reducible apply Via.incr
    | with_reducible apply Via.ite
    | with_reducible apply Via.then (State.bcRefresh_via ..)
    | split
    | (dsimp only [x]; split)
    | (dsimp +zetaDelta only; split)
    | with_reducible apply Via.set_bcq
    | (dsimp only)

theorem State.resetDone_via (s : State) (k p : Nat) : Via 9007199254740992 s (State.resetDone s k p) := by
  unfold State.resetDone
  repeat' first
    | with_reducible exact Via.refl _
    | with_reducible assumption
    | decide +kernel
    | (intro x; refine Via.cutLet (m := 9007199254740992) (s := s) (t := x) ?_ ?_)
    | (refine fun hx => ?_; clear_value x)
    | intro x
    | split
    | (dsimp only [x]; split)
    | (dsimp +zetaDelta only; split)
    | with_reducible apply Via.set_trc
    | (dsimp only)

theorem State.traceForget_via (s : State) (p : Nat) : Via 9007199254740992 s (State.traceForget s p) := by
  unfold State.traceForget
  repeat' first
    | with_reducible exact Via.refl _
    | with_reducible assumption
    | decide +kernel
    | (intro x; refine Via.cutLet (m := 9007199254740992) (s := s) (t := x) ?_ ?_)
    | (refine fun hx => ?_; clear_value x)
    | intro x
    | split
    | (dsimp only [x]; split)
    | (dsimp +zetaDelta only; split)
    | with_reducible apply Via.set_trc
    | (dsimp only)

theorem assignField_block (p : Nat) : blockOf (assignField p).id = .part := by
  unfold assignField
  split <;> decide

theorem State.setPart_via (s : State) (p k : Nat) : Via 32 s (State.setPart s p k) :=
  .setFld _ _ _ (by rw [assignField_block]; decide) (.refl _)

theorem State.notice_via (s : State) (typ data : Nat) : Via 282574521893376 s (State.notice s typ data) := by
  unfold State.notice
  repeat' first
    | with_reducible exact Via.refl _
    | with_reducible assumption
    | decide +kernel
    | (intro x; refine Via.cutLet (m := 282574521893376) (s := s) (t := x) ?_ ?_)
    | (refine fun hx => ?_; clear_value x)
    | intro x
    | lift_lets
    | with_reducible apply Via.ite
    | with_reducible apply Via.then (State.noticeTo_via ..)
    | with_reducible apply Via.then (State.noticeBc_via ..)
    | (with_reducible refine Via.each _ _ (fun s _ => ?_) ?_)
    | split
    | (dsimp only [x]; split)
    | (dsimp +zetaDelta only; split)
    | (dsimp only)

theorem State.updFc_via (s : State) (id : Nat) (f : FcSource → FcSource) : Via 144115188075855872 s (State.updFc s id f) := by
  unfold State.updFc
  repeat' first
    | with_reducible exact Via.refl _
    | with_reducible assumption
    | decide +kernel
    | (intro x; refine Via.cutLet (m := 144115188075855872) (s := s) (t := x) ?_ ?_)
    | (refine fun hx => ?_; clear_value x)
    | intro x
    | split
    | (dsimp only [x]; split)
    | (dsimp +zetaDelta only; split)
    | with_reducible apply Via.set_fc
    | (dsimp only)

theorem State.raise_via (s : State) (id w0 w1 : Nat) : Via 144115188075855872 s (State.raise s id w0 w1) := by
  unfold State.raise
  repeat' first
    | with_reducible exact Via.refl _
    | with_reducible assumption
    | decide +kernel
    | (intro x; refine Via.cutLet (m := 144115188075855872) (s := s) (t := x) ?_ ?_)
    | (refine fun hx => ?_; clear_value x)
    | intro x
    | with_reducible apply Via.ite
    | split
    | (dsimp only [x]; split)
    | (dsimp +zetaDelta only; split)
    | with_reducible apply Via.set_fc
    | (dsimp only)

theorem State.raisePort_via (s : State) (p blk : Nat) : Via 144115188075855872 s (State.raisePort s p blk) := by
  unfold State.raisePort
  repeat' first
    | with_reducible exact Via.refl _
    | with_reducible assumption
    | decide +kernel
    | (intro x; refine Via.cutLet (m := 144115188075855872) (s := s) (t := x) ?_ ?_)
    | (refine fun hx => ?_; clear_value x)
    | intro x
    | with_reducible apply Via.then (State.raise_via ..)
    | split
    | (dsimp only [x]; split)
    | (dsimp +zetaDelta only; split)
    | (dsimp only)

theorem State.advance_via (s : State) (n : Nat) : Via 1610612736 s (State.advance s n) := by
  unfold State.advance
  repeat' first
    | with_reducible exact Via.refl _
    | with_reducible assumption
    | decide +kernel
    | (intro x; refine Via.cutLet (m := 1610612736) (s := s) (t := x) ?_ ?_)
    | (refine fun hx => ?_; clear_value x)
    | intro x
    | lift_lets
    | split
    | (dsimp only [x]; split)
    | (dsimp +zetaDelta only; split)
    | with_reducible apply Via.set_ct_power
    | with_reducible apply Via.set_ct
    | with_reducible apply Via.set_power
    | (dsimp only)

@[simp] theorem orUnpredictable_zero (t : State) : orUnpredictable 0 t = .next t := rfl

/-- A next state is the state of the effect, and no rule lists the command. -/
theorem orUnpredictable_next {r : Nat} {t u : State} (h : orUnpredictable r t = .next u) : r = 0 ∧ u = t := by
  unfold orUnpredictable at h
  split at h
  · next hr => exact ⟨hr, by cases h; rfl⟩
  · cases h

/-- A rule that lists the command stops it. -/
theorem orUnpredictable_fault {r : Nat} {t : State} (h : r ≠ 0) : orUnpredictable r t = .fault (.unpredictable r) := by
  simp [orUnpredictable, h]

theorem State.drawNat_via (s : State) : Via 576460752303423488 s (State.drawNat s).2 := by
  unfold State.drawNat
  repeat' first
    | with_reducible exact Via.refl _
    | with_reducible assumption
    | decide +kernel
    | (intro x; refine Via.cutLet (m := 576460752303423488) (s := s) (t := x) ?_ ?_)
    | (refine fun hx => ?_; clear_value x)
    | intro x
    | split
    | (dsimp only [x]; split)
    | (dsimp +zetaDelta only; split)
    | with_reducible apply Via.set_free
    | (dsimp only)

theorem State.drawNat_via' {s : State} {a : Nat} {t : State} (hop : State.drawNat s = (a, t)) : Via 576460752303423488 s t := by
  have d := State.drawNat_via s
  rw [hop] at d
  exact d

theorem State.freeBytes_via (s : State) (n : Nat) : Via 576460752303423488 s (State.freeBytes s n).2 := by
  unfold State.freeBytes
  repeat' first
    | with_reducible exact Via.refl _
    | with_reducible assumption
    | decide +kernel
    | (intro x; refine Via.cutLet (m := 576460752303423488) (s := s) (t := x) ?_ ?_)
    | (refine fun hx => ?_; clear_value x)
    | intro x
    | split
    | (dsimp only [x]; split)
    | (dsimp +zetaDelta only; split)
    | with_reducible apply Via.set_free
    | (dsimp only)

theorem State.freeBytes_via' {s : State} {n : Nat} {a : List Nat} {t : State} (hop : State.freeBytes s n = (a, t)) : Via 576460752303423488 s t := by
  have d := State.freeBytes_via s n
  rw [hop] at d
  exact d

theorem State.writeFree_via (s : State) (a n : Nat) (ha : 0x08001000 ≤ a) : Via 576460752437641216 s (State.writeFree s a n) :=
  .write _ _ (by decide +kernel) ha (Via.then (State.freeBytes_via ..) (by decide +kernel) (.refl _))

end Sys2Proof.Machine
end

