-- ==== Sys2Proof/Laws/ViaFlags.lean ====
section
/-! SUPPORT. What each operation of Machine/Flags.lean can do to the state (see Laws/Via.lean). -/

namespace Sys2Proof.Machine

set_option linter.unusedTactic false
set_option linter.unreachableTactic false
set_option linter.unusedSimpArgs false
set_option linter.unusedVariables false

set_option Elab.async false

theorem State.refresh_via (s : State) (p : Nat) : Via 192 s (State.refresh s p) := by
  unfold State.refresh
  repeat' first
    | with_reducible exact Via.refl _
    | with_reducible assumption
    | decide +kernel
    | (intro x; refine Via.cutLet (m := 192) (s := s) (t := x) ?_ ?_)
    | (refine fun hx => ?_; clear_value x)
    | intro x
    | lift_lets
    | with_reducible apply Via.setFld
    | with_reducible apply Via.put
    | with_reducible apply Via.ite
    | (dsimp +zetaDelta only []; split <;> decide +kernel)
    | (split <;> decide +kernel)
    | split
    | (dsimp only [x]; split)
    | (dsimp +zetaDelta only; split)
    | (dsimp only)

theorem State.change_via (s : State) (p b : Nat) : Via 64 s (State.change s p b) := by
  unfold State.change
  repeat' first
    | with_reducible exact Via.refl _
    | with_reducible assumption
    | decide +kernel
    | (intro x; refine Via.cutLet (m := 64) (s := s) (t := x) ?_ ?_)
    | (refine fun hx => ?_; clear_value x)
    | intro x
    | with_reducible apply Via.putBit
    | with_reducible apply Via.ite
    | split
    | (dsimp only [x]; split)
    | (dsimp +zetaDelta only; split)
    | (dsimp only)

end Sys2Proof.Machine
end

