-- ==== Sys2Proof/Laws/ViaPortOps.lean ====
section
/-! SUPPORT. What each operation of Machine/PortOps.lean can do to the state (see Laws/Via.lean). -/

namespace Sys2Proof.Machine

set_option linter.unusedTactic false
set_option linter.unreachableTactic false
set_option linter.unusedSimpArgs false
set_option linter.unusedVariables false

set_option Elab.async false

theorem State.updCc_via (s : State) (p : Nat) (f : CcPort → CcPort) : Via 2199023255552 s (State.updCc s p f) := by
  unfold State.updCc
  repeat' first
    | with_reducible exact Via.refl _
    | with_reducible assumption
    | decide +kernel
    | (intro x; refine Via.cutLet (m := 2199023255552) (s := s) (t := x) ?_ ?_)
    | (refine fun hx => ?_; clear_value x)
    | intro x
    | split
    | (dsimp only [x]; split)
    | (dsimp +zetaDelta only; split)
    | with_reducible apply Via.set_cc
    | (dsimp only)

theorem State.updPd_via (s : State) (p : Nat) (f : PdPort → PdPort) : Via 4398046511104 s (State.updPd s p f) := by
  unfold State.updPd
  repeat' first
    | with_reducible exact Via.refl _
    | with_reducible assumption
    | decide +kernel
    | (intro x; refine Via.cutLet (m := 4398046511104) (s := s) (t := x) ?_ ?_)
    | (refine fun hx => ?_; clear_value x)
    | intro x
    | split
    | (dsimp only [x]; split)
    | (dsimp +zetaDelta only; split)
    | with_reducible apply Via.set_pd
    | (dsimp only)

theorem State.updPwr_via (s : State) (p : Nat) (f : PwrPort → PwrPort) : Via 17592186044416 s (State.updPwr s p f) := by
  unfold State.updPwr
  repeat' first
    | with_reducible exact Via.refl _
    | with_reducible assumption
    | decide +kernel
    | (intro x; refine Via.cutLet (m := 17592186044416) (s := s) (t := x) ?_ ?_)
    | (refine fun hx => ?_; clear_value x)
    | intro x
    | split
    | (dsimp only [x]; split)
    | (dsimp +zetaDelta only; split)
    | with_reducible apply Via.set_pwr
    | (dsimp only)

theorem State.updGov_via (s : State) (p : Nat) (f : GovPort → GovPort) : Via 35184372088832 s (State.updGov s p f) := by
  unfold State.updGov
  repeat' first
    | with_reducible exact Via.refl _
    | with_reducible assumption
    | decide +kernel
    | (intro x; refine Via.cutLet (m := 35184372088832) (s := s) (t := x) ?_ ?_)
    | (refine fun hx => ?_; clear_value x)
    | intro x
    | split
    | (dsimp only [x]; split)
    | (dsimp +zetaDelta only; split)
    | with_reducible apply Via.set_gov
    | (dsimp only)

theorem State.dischSink_via (s : State) (p : Nat) : Via 17592186044416 s (State.dischSink s p) := by
  unfold State.dischSink
  repeat' first
    | with_reducible exact Via.refl _
    | with_reducible assumption
    | decide +kernel
    | (intro x; refine Via.cutLet (m := 17592186044416) (s := s) (t := x) ?_ ?_)
    | (refine fun hx => ?_; clear_value x)
    | intro x
    | with_reducible apply Via.then (State.updPwr_via ..)
    | split
    | (dsimp only [x]; split)
    | (dsimp +zetaDelta only; split)
    | (dsimp only)

theorem State.setVbus_via (s : State) (p v : Nat) : Via 19791209305088 s (State.setVbus s p v) := by
  unfold State.setVbus
  repeat' first
    | with_reducible exact Via.refl _
    | with_reducible assumption
    | decide +kernel
    | (intro x; refine Via.cutLet (m := 19791209305088) (s := s) (t := x) ?_ ?_)
    | (refine fun hx => ?_; clear_value x)
    | intro x
    | lift_lets
    | with_reducible apply Via.setFld
    | with_reducible apply Via.put
    | with_reducible apply Via.ite
    | with_reducible apply Via.then (State.dischSink_via ..)
    | with_reducible apply Via.then (State.updCc_via ..)
    | split
    | (dsimp only [x]; split)
    | (dsimp +zetaDelta only; split)
    | (dsimp only)

theorem State.send_via (s : State) (p : Nat) (m : PdMsg) : Via 4398046511104 s (State.send s p m) := by
  unfold State.send
  repeat' first
    | with_reducible exact Via.refl _
    | with_reducible assumption
    | decide +kernel
    | (intro x; refine Via.cutLet (m := 4398046511104) (s := s) (t := x) ?_ ?_)
    | (refine fun hx => ?_; clear_value x)
    | intro x
    | with_reducible apply Via.then (State.updPd_via ..)
    | split
    | (dsimp only [x]; split)
    | (dsimp +zetaDelta only; split)
    | (dsimp only)

theorem State.sendLong_via (s : State) (p : Nat) (m : PdMsg) (typ : Nat) (bytes : List Nat) : Via 4398046511104 s (State.sendLong s p m typ bytes) := by
  unfold State.sendLong
  repeat' first
    | with_reducible exact Via.refl _
    | with_reducible assumption
    | decide +kernel
    | (intro x; refine Via.cutLet (m := 4398046511104) (s := s) (t := x) ?_ ?_)
    | (refine fun hx => ?_; clear_value x)
    | intro x
    | with_reducible apply Via.ite
    | with_reducible apply Via.then (State.updPd_via ..)
    | with_reducible apply Via.then (State.send_via ..)
    | split
    | (dsimp only [x]; split)
    | (dsimp +zetaDelta only; split)
    | (dsimp only)

theorem State.hush_via (s : State) (p : Nat) : Via 4398046511104 s (State.hush s p) := by
  unfold State.hush
  repeat' first
    | with_reducible exact Via.refl _
    | with_reducible assumption
    | decide +kernel
    | (intro x; refine Via.cutLet (m := 4398046511104) (s := s) (t := x) ?_ ?_)
    | (refine fun hx => ?_; clear_value x)
    | intro x
    | with_reducible apply Via.then (State.updPd_via ..)
    | split
    | (dsimp only [x]; split)
    | (dsimp +zetaDelta only; split)
    | (dsimp only)

theorem State.ccIrq_via (s : State) (p : Nat) : Via 524288 s (State.ccIrq s p) := by
  unfold State.ccIrq
  repeat' first
    | with_reducible exact Via.refl _
    | with_reducible assumption
    | decide +kernel
    | (intro x; refine Via.cutLet (m := 524288) (s := s) (t := x) ?_ ?_)
    | (refine fun hx => ?_; clear_value x)
    | intro x
    | with_reducible apply Via.ite
    | with_reducible apply Via.then (State.irq_via ..)
    | split
    | (dsimp only [x]; split)
    | (dsimp +zetaDelta only; split)
    | (dsimp only)

theorem State.govRefresh_via (s : State) : Via 541696 s (State.govRefresh s) := by
  unfold State.govRefresh
  repeat' first
    | with_reducible exact Via.refl _
    | with_reducible assumption
    | decide +kernel
    | (intro x; refine Via.cutLet (m := 541696) (s := s) (t := x) ?_ ?_)
    | (refine fun hx => ?_; clear_value x)
    | intro x
    | lift_lets
    | with_reducible apply Via.setFld
    | with_reducible apply Via.ite
    | with_reducible apply Via.then (State.irq_via ..)
    | (with_reducible refine Via.each _ _ (fun s _ => ?_) ?_)
    | split
    | (dsimp only [x]; split)
    | (dsimp +zetaDelta only; split)
    | (dsimp only)

theorem State.rpEvaluate_via (s : State) (p : Nat) : Via 35184372630528 s (State.rpEvaluate s p) := by
  unfold State.rpEvaluate
  repeat' first
    | with_reducible exact Via.refl _
    | with_reducible assumption
    | decide +kernel
    | (intro x; refine Via.cutLet (m := 35184372630528) (s := s) (t := x) ?_ ?_)
    | (refine fun hx => ?_; clear_value x)
    | intro x
    | lift_lets
    | with_reducible apply Via.setFld
    | with_reducible apply Via.incr
    | with_reducible apply Via.ite
    | with_reducible apply Via.then (State.govRefresh_via ..)
    | with_reducible apply Via.then (State.updGov_via ..)
    | (dsimp +zetaDelta only []; split <;> decide +kernel)
    | (split <;> decide +kernel)
    | split
    | (dsimp only [x]; split)
    | (dsimp +zetaDelta only; split)
    | (dsimp only)

theorem State.rpOff_via (s : State) (p : Nat) : Via 35184372089856 s (State.rpOff s p) := by
  unfold State.rpOff
  repeat' first
    | with_reducible exact Via.refl _
    | with_reducible assumption
    | decide +kernel
    | (intro x; refine Via.cutLet (m := 35184372089856) (s := s) (t := x) ?_ ?_)
    | (refine fun hx => ?_; clear_value x)
    | intro x
    | with_reducible apply Via.setFld
    | with_reducible apply Via.then (State.updGov_via ..)
    | split
    | (dsimp only [x]; split)
    | (dsimp +zetaDelta only; split)
    | (dsimp only)

theorem State.resvRefresh_via (s : State) : Via 81920 s (State.resvRefresh s) := by
  unfold State.resvRefresh
  repeat' first
    | with_reducible exact Via.refl _
    | with_reducible assumption
    | decide +kernel
    | (intro x; refine Via.cutLet (m := 81920) (s := s) (t := x) ?_ ?_)
    | (refine fun hx => ?_; clear_value x)
    | intro x
    | with_reducible apply Via.setFld
    | split
    | (dsimp only [x]; split)
    | (dsimp +zetaDelta only; split)
    | (dsimp only)

theorem State.shareGone_via (s : State) (p : Nat) : Via 2251799813685248 s (State.shareGone s p) := by
  unfold State.shareGone
  repeat' first
    | with_reducible exact Via.refl _
    | with_reducible assumption
    | decide +kernel
    | (intro x; refine Via.cutLet (m := 2251799813685248) (s := s) (t := x) ?_ ?_)
    | (refine fun hx => ?_; clear_value x)
    | intro x
    | lift_lets
    | split
    | (dsimp only [x]; split)
    | (dsimp +zetaDelta only; split)
    | with_reducible apply Via.set_tat
    | (dsimp only)

theorem State.spendCredit_via (s : State) (p more : Nat) : Via 35184372170752 s (State.spendCredit s p more) := by
  unfold State.spendCredit
  repeat' first
    | with_reducible exact Via.refl _
    | with_reducible assumption
    | decide +kernel
    | (intro x; refine Via.cutLet (m := 35184372170752) (s := s) (t := x) ?_ ?_)
    | (refine fun hx => ?_; clear_value x)
    | intro x
    | with_reducible apply Via.ite
    | with_reducible apply Via.then (State.resvRefresh_via ..)
    | with_reducible apply Via.then (State.updGov_via ..)
    | split
    | (dsimp only [x]; split)
    | (dsimp +zetaDelta only; split)
    | (dsimp only)

theorem State.levels_via (s : State) (p : Nat) : Via 2048 s (State.levels s p) := by
  unfold State.levels
  repeat' first
    | with_reducible exact Via.refl _
    | with_reducible assumption
    | decide +kernel
    | (intro x; refine Via.cutLet (m := 2048) (s := s) (t := x) ?_ ?_)
    | (refine fun hx => ?_; clear_value x)
    | intro x
    | lift_lets
    | with_reducible apply Via.setFld
    | with_reducible apply Via.ite
    | split
    | (dsimp only [x]; split)
    | (dsimp +zetaDelta only; split)
    | (dsimp only)

theorem State.sagFold_via (s : State) (p : Nat) : Via 35184372090880 s (State.sagFold s p) := by
  unfold State.sagFold
  repeat' first
    | with_reducible exact Via.refl _
    | with_reducible assumption
    | decide +kernel
    | (intro x; refine Via.cutLet (m := 35184372090880) (s := s) (t := x) ?_ ?_)
    | (refine fun hx => ?_; clear_value x)
    | intro x
    | lift_lets
    | with_reducible apply Via.then (State.updGov_via ..)
    | with_reducible apply Via.then (State.levels_via ..)
    | split
    | (dsimp only [x]; split)
    | (dsimp +zetaDelta only; split)
    | (dsimp only)

theorem State.setPwr_via (s : State) (p : Nat) (d : Pwr) : Via 17592186570752 s (State.setPwr s p d) := by
  unfold State.setPwr
  repeat' first
    | with_reducible exact Via.refl _
    | with_reducible assumption
    | decide +kernel
    | (intro x; refine Via.cutLet (m := 17592186570752) (s := s) (t := x) ?_ ?_)
    | (refine fun hx => ?_; clear_value x)
    | intro x
    | lift_lets
    | with_reducible apply Via.setFld
    | with_reducible apply Via.put
    | with_reducible apply Via.ite
    | with_reducible apply Via.then (State.dischSink_via ..)
    | with_reducible apply Via.then (State.updPwr_via ..)
    | with_reducible apply Via.then (State.levels_via ..)
    | with_reducible apply Via.then (State.irq_via ..)
    | (dsimp +zetaDelta only []; split <;> decide +kernel)
    | (split <;> decide +kernel)
    | split
    | (dsimp only [x]; split)
    | (dsimp +zetaDelta only; split)
    | (dsimp only)

theorem State.pwrUpdate_via (s : State) (p : Nat) : Via 17592186570752 s (State.pwrUpdate s p) := by
  unfold State.pwrUpdate
  repeat' first
    | with_reducible exact Via.refl _
    | with_reducible assumption
    | decide +kernel
    | (intro x; refine Via.cutLet (m := 17592186570752) (s := s) (t := x) ?_ ?_)
    | (refine fun hx => ?_; clear_value x)
    | intro x
    | with_reducible apply Via.ite
    | with_reducible apply Via.then (State.setPwr_via ..)
    | with_reducible apply Via.then (State.levels_via ..)
    | split
    | (dsimp only [x]; split)
    | (dsimp +zetaDelta only; split)
    | (dsimp only)

theorem State.vbusOff_via (s : State) (p : Nat) : Via 17592186570752 s (State.vbusOff s p) := by
  unfold State.vbusOff
  repeat' first
    | with_reducible exact Via.refl _
    | with_reducible assumption
    | decide +kernel
    | (intro x; refine Via.cutLet (m := 17592186570752) (s := s) (t := x) ?_ ?_)
    | (refine fun hx => ?_; clear_value x)
    | intro x
    | with_reducible apply Via.then (State.pwrUpdate_via ..)
    | split
    | (dsimp only [x]; split)
    | (dsimp +zetaDelta only; split)
    | (dsimp only)

theorem State.vsetUpdate_via (s : State) (p : Nat) : Via 17592186570752 s (State.vsetUpdate s p) := by
  unfold State.vsetUpdate
  repeat' first
    | with_reducible exact Via.refl _
    | with_reducible assumption
    | decide +kernel
    | (intro x; refine Via.cutLet (m := 17592186570752) (s := s) (t := x) ?_ ?_)
    | (refine fun hx => ?_; clear_value x)
    | intro x
    | lift_lets
    | with_reducible apply Via.ite
    | with_reducible apply Via.then (State.updPwr_via ..)
    | with_reducible apply Via.then (State.setPwr_via ..)
    | split
    | (dsimp only [x]; split)
    | (dsimp +zetaDelta only; split)
    | (dsimp only)

theorem State.sinkOpen_via (s : State) (p : Nat) : Via 17592186571776 s (State.sinkOpen s p) := by
  unfold State.sinkOpen
  repeat' first
    | with_reducible exact Via.refl _
    | with_reducible assumption
    | decide +kernel
    | (intro x; refine Via.cutLet (m := 17592186571776) (s := s) (t := x) ?_ ?_)
    | (refine fun hx => ?_; clear_value x)
    | intro x
    | lift_lets
    | with_reducible apply Via.setFld
    | with_reducible apply Via.put
    | with_reducible apply Via.ite
    | with_reducible apply Via.then (State.setPwr_via ..)
    | split
    | (dsimp only [x]; split)
    | (dsimp +zetaDelta only; split)
    | (dsimp only)

theorem State.discEnd_via (s : State) (p : Nat) : Via 2199023256576 s (State.discEnd s p) := by
  unfold State.discEnd
  repeat' first
    | with_reducible exact Via.refl _
    | with_reducible assumption
    | decide +kernel
    | (intro x; refine Via.cutLet (m := 2199023256576) (s := s) (t := x) ?_ ?_)
    | (refine fun hx => ?_; clear_value x)
    | intro x
    | with_reducible apply Via.put
    | with_reducible apply Via.then (State.updCc_via ..)
    | split
    | (dsimp only [x]; split)
    | (dsimp +zetaDelta only; split)
    | (dsimp only)

theorem State.vconnOff_via (s : State) (p : Nat) : Via 2199023256576 s (State.vconnOff s p) := by
  unfold State.vconnOff
  repeat' first
    | with_reducible exact Via.refl _
    | with_reducible assumption
    | decide +kernel
    | (intro x; refine Via.cutLet (m := 2199023256576) (s := s) (t := x) ?_ ?_)
    | (refine fun hx => ?_; clear_value x)
    | intro x
    | with_reducible apply Via.setFld
    | with_reducible apply Via.put
    | with_reducible apply Via.then (State.discEnd_via ..)
    | split
    | (dsimp only [x]; split)
    | (dsimp +zetaDelta only; split)
    | (dsimp only)

theorem State.vconnOn_via (s : State) (p : Nat) : Via 1024 s (State.vconnOn s p) := by
  unfold State.vconnOn
  repeat' first
    | with_reducible exact Via.refl _
    | with_reducible assumption
    | decide +kernel
    | (intro x; refine Via.cutLet (m := 1024) (s := s) (t := x) ?_ ?_)
    | (refine fun hx => ?_; clear_value x)
    | intro x
    | with_reducible apply Via.put
    | split
    | (dsimp only [x]; split)
    | (dsimp +zetaDelta only; split)
    | (dsimp only)

theorem State.vconnTry_via (s : State) (p : Nat) : Via 1024 s (State.vconnTry s p) := by
  unfold State.vconnTry
  repeat' first
    | with_reducible exact Via.refl _
    | with_reducible assumption
    | decide +kernel
    | (intro x; refine Via.cutLet (m := 1024) (s := s) (t := x) ?_ ?_)
    | (refine fun hx => ?_; clear_value x)
    | intro x
    | with_reducible apply Via.ite
    | with_reducible apply Via.then (State.vconnOn_via ..)
    | split
    | (dsimp only [x]; split)
    | (dsimp +zetaDelta only; split)
    | (dsimp only)

theorem State.identityClear_via (s : State) (p : Nat) : Via 2199023780864 s (State.identityClear s p) := by
  unfold State.identityClear
  repeat' first
    | with_reducible exact Via.refl _
    | with_reducible assumption
    | decide +kernel
    | (intro x; refine Via.cutLet (m := 2199023780864) (s := s) (t := x) ?_ ?_)
    | (refine fun hx => ?_; clear_value x)
    | intro x
    | lift_lets
    | with_reducible apply Via.setFld
    | with_reducible apply Via.ite
    | with_reducible apply Via.then (State.updCc_via ..)
    | with_reducible apply Via.then (State.ccIrq_via ..)
    | (dsimp +zetaDelta only []; split <;> decide +kernel)
    | (split <;> decide +kernel)
    | split
    | (dsimp only [x]; split)
    | (dsimp +zetaDelta only; split)
    | (dsimp only)

theorem State.contractEnd_via (s : State) (p : Nat) : Via 339749127081472 s (State.contractEnd s p) := by
  unfold State.contractEnd
  repeat' first
    | with_reducible exact Via.refl _
    | with_reducible assumption
    | decide +kernel
    | (intro x; refine Via.cutLet (m := 339749127081472) (s := s) (t := x) ?_ ?_)
    | (refine fun hx => ?_; clear_value x)
    | intro x
    | lift_lets
    | with_reducible apply Via.setFld
    | with_reducible apply Via.put
    | with_reducible apply Via.ite
    | with_reducible apply Via.then (State.rpEvaluate_via ..)
    | with_reducible apply Via.then (State.vsetUpdate_via ..)
    | with_reducible apply Via.then (State.govRefresh_via ..)
    | with_reducible apply Via.then (State.notice_via ..)
    | with_reducible apply Via.then (State.updGov_via ..)
    | with_reducible apply Via.then (State.levels_via ..)
    | with_reducible apply Via.then (State.updPd_via ..)
    | (dsimp +zetaDelta only []; split <;> decide +kernel)
    | (split <;> decide +kernel)
    | split
    | (dsimp only [x]; split)
    | (dsimp +zetaDelta only; split)
    | (dsimp only)

theorem State.connReset_via (s : State) (p : Nat) : Via 24189255812096 s (State.connReset s p) := by
  unfold State.connReset
  repeat' first
    | with_reducible exact Via.refl _
    | with_reducible assumption
    | decide +kernel
    | (intro x; refine Via.cutLet (m := 24189255812096) (s := s) (t := x) ?_ ?_)
    | (refine fun hx => ?_; clear_value x)
    | intro x
    | lift_lets
    | with_reducible apply Via.setFld
    | with_reducible apply Via.put
    | with_reducible apply Via.ite
    | with_reducible apply Via.then (State.updPwr_via ..)
    | with_reducible apply Via.then (State.updCc_via ..)
    | with_reducible apply Via.then (State.updPd_via ..)
    | split
    | (dsimp only [x]; split)
    | (dsimp +zetaDelta only; split)
    | (dsimp only)

theorem State.setCc_via (s : State) (p : Nat) (c : Cc) : Via 525312 s (State.setCc s p c) := by
  unfold State.setCc
  repeat' first
    | with_reducible exact Via.refl _
    | with_reducible assumption
    | decide +kernel
    | (intro x; refine Via.cutLet (m := 525312) (s := s) (t := x) ?_ ?_)
    | (refine fun hx => ?_; clear_value x)
    | intro x
    | with_reducible apply Via.setFld
    | with_reducible apply Via.ite
    | with_reducible apply Via.then (State.ccIrq_via ..)
    | split
    | (dsimp only [x]; split)
    | (dsimp +zetaDelta only; split)
    | (dsimp only)

theorem State.ccLeave_via (s : State) (p : Nat) (c : Cc) : Via 341948150337024 s (State.ccLeave s p c) := by
  unfold State.ccLeave
  repeat' first
    | with_reducible exact Via.refl _
    | with_reducible assumption
    | decide +kernel
    | (intro x; refine Via.cutLet (m := 341948150337024) (s := s) (t := x) ?_ ?_)
    | (refine fun hx => ?_; clear_value x)
    | intro x
    | lift_lets
    | with_reducible apply Via.setFld
    | with_reducible apply Via.put
    | with_reducible apply Via.ite
    | with_reducible apply Via.then (State.identityClear_via ..)
    | with_reducible apply Via.then (State.contractEnd_via ..)
    | with_reducible apply Via.then (State.govRefresh_via ..)
    | with_reducible apply Via.then (State.pwrUpdate_via ..)
    | with_reducible apply Via.then (State.connReset_via ..)
    | with_reducible apply Via.then (State.sinkOpen_via ..)
    | with_reducible apply Via.then (State.vconnOff_via ..)
    | with_reducible apply Via.then (State.rpOff_via ..)
    | with_reducible apply Via.then (State.setCc_via ..)
    | split
    | (dsimp only [x]; split)
    | (dsimp +zetaDelta only; split)
    | (dsimp only)

theorem State.unattached_via (s : State) (p : Nat) (snk : Bool) : Via 35184372632576 s (State.unattached s p snk) := by
  unfold State.unattached
  repeat' first
    | with_reducible exact Via.refl _
    | with_reducible assumption
    | decide +kernel
    | (intro x; refine Via.cutLet (m := 35184372632576) (s := s) (t := x) ?_ ?_)
    | (refine fun hx => ?_; clear_value x)
    | intro x
    | with_reducible apply Via.ite
    | with_reducible apply Via.then (State.rpEvaluate_via ..)
    | with_reducible apply Via.then (State.levels_via ..)
    | with_reducible apply Via.then (State.rpOff_via ..)
    | with_reducible apply Via.then (State.setCc_via ..)
    | split
    | (dsimp only [x]; split)
    | (dsimp +zetaDelta only; split)
    | (dsimp only)

theorem State.disableCore_via (s : State) (p : Nat) : Via 341948150337024 s (State.disableCore s p) := by
  unfold State.disableCore
  repeat' first
    | with_reducible exact Via.refl _
    | with_reducible assumption
    | decide +kernel
    | (intro x; refine Via.cutLet (m := 341948150337024) (s := s) (t := x) ?_ ?_)
    | (refine fun hx => ?_; clear_value x)
    | intro x
    | with_reducible apply Via.put
    | with_reducible apply Via.then (State.ccLeave_via ..)
    | with_reducible apply Via.then (State.updCc_via ..)
    | split
    | (dsimp only [x]; split)
    | (dsimp +zetaDelta only; split)
    | (dsimp only)

theorem State.recoverCore_via (s : State) (p : Nat) : Via 341948150337024 s (State.recoverCore s p) := by
  unfold State.recoverCore
  repeat' first
    | with_reducible exact Via.refl _
    | with_reducible assumption
    | decide +kernel
    | (intro x; refine Via.cutLet (m := 341948150337024) (s := s) (t := x) ?_ ?_)
    | (refine fun hx => ?_; clear_value x)
    | intro x
    | with_reducible apply Via.then (State.ccLeave_via ..)
    | split
    | (dsimp only [x]; split)
    | (dsimp +zetaDelta only; split)
    | (dsimp only)

theorem State.clearLatchCore_via (s : State) (p : Nat) : Via 288572324310437568 s ((State.clearLatchCore s p).getD s) := by
  unfold State.clearLatchCore
  repeat' first
    | with_reducible exact Via.refl _
    | with_reducible assumption
    | decide +kernel
    | (intro x; refine Via.cutLet (m := 288572324310437568) (s := s) (t := x) ?_ ?_)
    | (refine fun hx => ?_; clear_value x)
    | intro x
    | lift_lets
    | with_reducible apply Via.setFld
    | with_reducible apply Via.ite
    | with_reducible apply Via.then (State.recoverCore_via ..)
    | with_reducible apply Via.then (State.refresh_via ..)
    | with_reducible apply Via.then (State.logPort_via ..)
    | with_reducible apply Via.then (State.setPwr_via ..)
    | (dsimp +zetaDelta only []; split <;> decide +kernel)
    | (split <;> decide +kernel)
    | split
    | (dsimp only [x]; split)
    | (dsimp +zetaDelta only; split)
    | (dsimp only)
    | dsimp only [Option.getD]

theorem State.clearLatchCore_via' {s : State} {p : Nat} {t : State} (h : State.clearLatchCore s p = some t) : Via 288572324310437568 s t := by
  have d := State.clearLatchCore_via s p
  rw [h] at d
  exact d

theorem State.latchRefused_via (s : State) (p : Nat) : Via 288230376160102400 s (State.latchRefused s p) := by
  unfold State.latchRefused
  repeat' first
    | with_reducible exact Via.refl _
    | with_reducible assumption
    | decide +kernel
    | (intro x; refine Via.cutLet (m := 288230376160102400) (s := s) (t := x) ?_ ?_)
    | (refine fun hx => ?_; clear_value x)
    | intro x
    | with_reducible apply Via.incr
    | with_reducible apply Via.then (State.logPort_via ..)
    | split
    | (dsimp only [x]; split)
    | (dsimp +zetaDelta only; split)
    | (dsimp only)

theorem State.leaveDisabled_via (s : State) (p : Nat) : Via 288572324310437568 s (State.leaveDisabled s p) := by
  unfold State.leaveDisabled
  repeat' first
    | with_reducible exact Via.refl _
    | with_reducible assumption
    | decide +kernel
    | (intro x; refine Via.cutLet (m := 288572324310437568) (s := s) (t := x) ?_ ?_)
    | (refine fun hx => ?_; clear_value x)
    | intro x
    | lift_lets
    | with_reducible apply Via.ite
    | with_reducible refine Via.then (State.clearLatchCore_via' (by assumption)) (by decide +kernel) ?_
    | with_reducible apply Via.then (State.clearLatchCore_via ..)
    | with_reducible apply Via.then (State.latchRefused_via ..)
    | with_reducible apply Via.then (State.unattached_via ..)
    | with_reducible apply Via.then (State.updCc_via ..)
    | (dsimp +zetaDelta only []; split <;> decide +kernel)
    | (split <;> decide +kernel)
    | split
    | (dsimp only [x]; split)
    | (dsimp +zetaDelta only; split)
    | (dsimp only)

theorem State.tryLeaveDisabled_via (s : State) (p : Nat) : Via 288572324310437568 s (State.tryLeaveDisabled s p) := by
  unfold State.tryLeaveDisabled
  repeat' first
    | with_reducible exact Via.refl _
    | with_reducible assumption
    | decide +kernel
    | (intro x; refine Via.cutLet (m := 288572324310437568) (s := s) (t := x) ?_ ?_)
    | (refine fun hx => ?_; clear_value x)
    | intro x
    | with_reducible apply Via.ite
    | with_reducible apply Via.then (State.leaveDisabled_via ..)
    | split
    | (dsimp only [x]; split)
    | (dsimp +zetaDelta only; split)
    | (dsimp only)

theorem State.sinkBlockUpdate_via (s : State) (n : Nat) : Via 288572324310437568 s (State.sinkBlockUpdate s n) := by
  unfold State.sinkBlockUpdate
  repeat' first
    | with_reducible exact Via.refl _
    | with_reducible assumption
    | decide +kernel
    | (intro x; refine Via.cutLet (m := 288572324310437568) (s := s) (t := x) ?_ ?_)
    | (refine fun hx => ?_; clear_value x)
    | intro x
    | lift_lets
    | with_reducible apply Via.putBit
    | with_reducible apply Via.put
    | with_reducible apply Via.ite
    | with_reducible apply Via.then (State.tryLeaveDisabled_via ..)
    | with_reducible apply Via.then (State.disableCore_via ..)
    | with_reducible apply Via.then (State.unattached_via ..)
    | (with_reducible refine Via.each _ _ (fun s _ => ?_) ?_)
    | split
    | (dsimp only [x]; split)
    | (dsimp +zetaDelta only; split)
    | (dsimp only)

theorem State.takeClaim_via (s : State) (p : Nat) : Via 288572324310437568 s (State.takeClaim s p) := by
  unfold State.takeClaim
  repeat' first
    | with_reducible exact Via.refl _
    | with_reducible assumption
    | decide +kernel
    | (intro x; refine Via.cutLet (m := 288572324310437568) (s := s) (t := x) ?_ ?_)
    | (refine fun hx => ?_; clear_value x)
    | intro x
    | with_reducible apply Via.put
    | with_reducible apply Via.then (State.sinkBlockUpdate_via ..)
    | split
    | (dsimp only [x]; split)
    | (dsimp +zetaDelta only; split)
    | (dsimp only)

theorem State.releaseClaim_via (s : State) (p : Nat) : Via 288572324310437568 s (State.releaseClaim s p) := by
  unfold State.releaseClaim
  repeat' first
    | with_reducible exact Via.refl _
    | with_reducible assumption
    | decide +kernel
    | (intro x; refine Via.cutLet (m := 288572324310437568) (s := s) (t := x) ?_ ?_)
    | (refine fun hx => ?_; clear_value x)
    | intro x
    | with_reducible apply Via.put
    | with_reducible apply Via.ite
    | with_reducible apply Via.then (State.sinkBlockUpdate_via ..)
    | split
    | (dsimp only [x]; split)
    | (dsimp +zetaDelta only; split)
    | (dsimp only)

theorem State.clearLatch_via (s : State) (p : Nat) : Via 288572324310437568 s ((State.clearLatch s p).getD s) := by
  unfold State.clearLatch
  cases h : s.clearLatchCore p with
  | none => exact .refl _
  | some t =>
    have d : Via 288572324310437568 s t := Via.then (State.clearLatchCore_via' h) (by decide +kernel) (.refl _)
    dsimp only [Option.map, Option.getD]
    exact Via.bite _ (Via.then (State.releaseClaim_via ..) (by decide +kernel) d) d

theorem State.clearLatch_via' {s : State} {p : Nat} {t : State} (h : State.clearLatch s p = some t) : Via 288572324310437568 s t := by
  have d := State.clearLatch_via s p
  rw [h] at d
  exact d

theorem State.disable_via (s : State) (p : Nat) : Via 288572324310437568 s (State.disable s p) := by
  unfold State.disable
  repeat' first
    | with_reducible exact Via.refl _
    | with_reducible assumption
    | decide +kernel
    | (intro x; refine Via.cutLet (m := 288572324310437568) (s := s) (t := x) ?_ ?_)
    | (refine fun hx => ?_; clear_value x)
    | intro x
    | with_reducible apply Via.then (State.releaseClaim_via ..)
    | with_reducible apply Via.then (State.disableCore_via ..)
    | split
    | (dsimp only [x]; split)
    | (dsimp +zetaDelta only; split)
    | (dsimp only)

theorem State.ccDisable_via (s : State) (p b : Nat) : Via 288572324310437568 s (State.ccDisable s p b) := by
  unfold State.ccDisable
  repeat' first
    | with_reducible exact Via.refl _
    | with_reducible assumption
    | decide +kernel
    | (intro x; refine Via.cutLet (m := 288572324310437568) (s := s) (t := x) ?_ ?_)
    | (refine fun hx => ?_; clear_value x)
    | intro x
    | lift_lets
    | with_reducible apply Via.putBit
    | with_reducible apply Via.ite
    | with_reducible apply Via.then (State.disable_via ..)
    | with_reducible apply Via.then (State.updCc_via ..)
    | split
    | (dsimp only [x]; split)
    | (dsimp +zetaDelta only; split)
    | (dsimp only)

theorem State.ccEnableCause_via (s : State) (p b : Nat) : Via 288572324310437568 s (State.ccEnableCause s p b) := by
  unfold State.ccEnableCause
  repeat' first
    | with_reducible exact Via.refl _
    | with_reducible assumption
    | decide +kernel
    | (intro x; refine Via.cutLet (m := 288572324310437568) (s := s) (t := x) ?_ ?_)
    | (refine fun hx => ?_; clear_value x)
    | intro x
    | with_reducible apply Via.putBit
    | with_reducible apply Via.ite
    | with_reducible apply Via.then (State.tryLeaveDisabled_via ..)
    | split
    | (dsimp only [x]; split)
    | (dsimp +zetaDelta only; split)
    | (dsimp only)

theorem State.errorRecovery_via (s : State) (p : Nat) : Via 288572324310437568 s (State.errorRecovery s p) := by
  unfold State.errorRecovery
  repeat' first
    | with_reducible exact Via.refl _
    | with_reducible assumption
    | decide +kernel
    | (intro x; refine Via.cutLet (m := 288572324310437568) (s := s) (t := x) ?_ ?_)
    | (refine fun hx => ?_; clear_value x)
    | intro x
    | with_reducible apply Via.ite
    | with_reducible apply Via.then (State.releaseClaim_via ..)
    | with_reducible apply Via.then (State.recoverCore_via ..)
    | split
    | (dsimp only [x]; split)
    | (dsimp +zetaDelta only; split)
    | (dsimp only)

theorem State.policyStop_via (s : State) (p : Nat) : Via 288570125287181824 s (State.policyStop s p) := by
  unfold State.policyStop
  repeat' first
    | with_reducible exact Via.refl _
    | with_reducible assumption
    | decide +kernel
    | (intro x; refine Via.cutLet (m := 288570125287181824) (s := s) (t := x) ?_ ?_)
    | (refine fun hx => ?_; clear_value x)
    | intro x
    | with_reducible apply Via.then (State.contractEnd_via ..)
    | with_reducible apply Via.then (State.logPort_via ..)
    | split
    | (dsimp only [x]; split)
    | (dsimp +zetaDelta only; split)
    | (dsimp only)

theorem State.hardReset_via (s : State) (p : Nat) (sent : Bool) : Via 288572324310437568 s (State.hardReset s p sent) := by
  unfold State.hardReset
  repeat' first
    | with_reducible exact Via.refl _
    | with_reducible assumption
    | decide +kernel
    | (intro x; refine Via.cutLet (m := 288572324310437568) (s := s) (t := x) ?_ ?_)
    | (refine fun hx => ?_; clear_value x)
    | intro x
    | lift_lets
    | with_reducible apply Via.setFld
    | with_reducible apply Via.put
    | with_reducible apply Via.incr
    | with_reducible apply Via.ite
    | with_reducible apply Via.then (State.identityClear_via ..)
    | with_reducible apply Via.then (State.releaseClaim_via ..)
    | with_reducible apply Via.then (State.contractEnd_via ..)
    | with_reducible apply Via.then (State.rpEvaluate_via ..)
    | with_reducible apply Via.then (State.govRefresh_via ..)
    | with_reducible apply Via.then (State.pwrUpdate_via ..)
    | with_reducible apply Via.then (State.sinkOpen_via ..)
    | with_reducible apply Via.then (State.vconnOff_via ..)
    | with_reducible apply Via.then (State.updPwr_via ..)
    | with_reducible apply Via.then (State.updGov_via ..)
    | with_reducible apply Via.then (State.updPd_via ..)
    | with_reducible apply Via.then (State.updCc_via ..)
    | with_reducible apply Via.then (State.setCc_via ..)
    | with_reducible apply Via.then (State.send_via ..)
    | (dsimp +zetaDelta only []; split <;> decide +kernel)
    | (split <;> decide +kernel)
    | split
    | (dsimp only [x]; split)
    | (dsimp +zetaDelta only; split)
    | (dsimp only)

theorem State.countFault_via (s : State) (p cause : Nat) : Via 2048 s (State.countFault s p cause) := by
  unfold State.countFault
  repeat' first
    | with_reducible exact Via.refl _
    | with_reducible assumption
    | decide +kernel
    | (intro x; refine Via.cutLet (m := 2048) (s := s) (t := x) ?_ ?_)
    | (refine fun hx => ?_; clear_value x)
    | intro x
    | with_reducible apply Via.incr
    | with_reducible apply Via.ite
    | split
    | (dsimp only [x]; split)
    | (dsimp +zetaDelta only; split)
    | (dsimp only)

theorem State.latch_via (s : State) (p : Nat) : Via 300166708464320 s (State.latch s p) := by
  unfold State.latch
  repeat' first
    | with_reducible exact Via.refl _
    | with_reducible assumption
    | decide +kernel
    | (intro x; refine Via.cutLet (m := 300166708464320) (s := s) (t := x) ?_ ?_)
    | (refine fun hx => ?_; clear_value x)
    | intro x
    | lift_lets
    | with_reducible apply Via.incr
    | with_reducible apply Via.then (State.refresh_via ..)
    | with_reducible apply Via.then (State.setPwr_via ..)
    | with_reducible apply Via.then (State.change_via ..)
    | with_reducible apply Via.then (State.notice_via ..)
    | split
    | (dsimp only [x]; split)
    | (dsimp +zetaDelta only; split)
    | (dsimp only)

theorem State.portFault_via (s : State) (p cause : Nat) : Via 432687512386293440 s (State.portFault s p cause) := by
  unfold State.portFault
  repeat' first
    | with_reducible exact Via.refl _
    | with_reducible assumption
    | decide +kernel
    | (intro x; refine Via.cutLet (m := 432687512386293440) (s := s) (t := x) ?_ ?_)
    | (refine fun hx => ?_; clear_value x)
    | intro x
    | lift_lets
    | with_reducible apply Via.setFld
    | with_reducible apply Via.put
    | with_reducible apply Via.ite
    | with_reducible apply Via.then (State.contractEnd_via ..)
    | with_reducible apply Via.then (State.countFault_via ..)
    | with_reducible apply Via.then (State.hardReset_via ..)
    | with_reducible apply Via.then (State.raisePort_via ..)
    | with_reducible apply Via.then (State.updPwr_via ..)
    | with_reducible apply Via.then (State.setPwr_via ..)
    | with_reducible apply Via.then (State.updPd_via ..)
    | with_reducible apply Via.then (State.latch_via ..)
    | with_reducible apply Via.then (State.irq_via ..)
    | (dsimp +zetaDelta only []; split <;> decide +kernel)
    | (split <;> decide +kernel)
    | split
    | (dsimp only [x]; split)
    | (dsimp +zetaDelta only; split)
    | (dsimp only)

theorem State.sinkFault_via (s : State) (p cause : Nat) : Via 432687512386293440 s (State.sinkFault s p cause) := by
  unfold State.sinkFault
  repeat' first
    | with_reducible exact Via.refl _
    | with_reducible assumption
    | decide +kernel
    | (intro x; refine Via.cutLet (m := 432687512386293440) (s := s) (t := x) ?_ ?_)
    | (refine fun hx => ?_; clear_value x)
    | intro x
    | lift_lets
    | with_reducible apply Via.setFld
    | with_reducible apply Via.put
    | with_reducible apply Via.ite
    | with_reducible apply Via.then (State.releaseClaim_via ..)
    | with_reducible apply Via.then (State.countFault_via ..)
    | with_reducible apply Via.then (State.hardReset_via ..)
    | with_reducible apply Via.then (State.raisePort_via ..)
    | with_reducible apply Via.then (State.sinkOpen_via ..)
    | with_reducible apply Via.then (State.irq_via ..)
    | (dsimp +zetaDelta only []; split <;> decide +kernel)
    | (split <;> decide +kernel)
    | split
    | (dsimp only [x]; split)
    | (dsimp +zetaDelta only; split)
    | (dsimp only)

theorem State.protect_via (s : State) (p cause : Nat) : Via 432687512386293440 s (State.protect s p cause) := by
  unfold State.protect
  repeat' first
    | with_reducible exact Via.refl _
    | with_reducible assumption
    | decide +kernel
    | (intro x; refine Via.cutLet (m := 432687512386293440) (s := s) (t := x) ?_ ?_)
    | (refine fun hx => ?_; clear_value x)
    | intro x
    | with_reducible apply Via.ite
    | with_reducible apply Via.then (State.sinkFault_via ..)
    | with_reducible apply Via.then (State.portFault_via ..)
    | split
    | (dsimp only [x]; split)
    | (dsimp +zetaDelta only; split)
    | (dsimp only)

theorem State.voffSet_via (s : State) (p : Nat) : Via 339749127081472 s (State.voffSet s p) := by
  unfold State.voffSet
  repeat' first
    | with_reducible exact Via.refl _
    | with_reducible assumption
    | decide +kernel
    | (intro x; refine Via.cutLet (m := 339749127081472) (s := s) (t := x) ?_ ?_)
    | (refine fun hx => ?_; clear_value x)
    | intro x
    | with_reducible apply Via.put
    | with_reducible apply Via.ite
    | with_reducible apply Via.then (State.contractEnd_via ..)
    | with_reducible apply Via.then (State.pwrUpdate_via ..)
    | with_reducible apply Via.then (State.sinkOpen_via ..)
    | split
    | (dsimp only [x]; split)
    | (dsimp +zetaDelta only; split)
    | (dsimp only)

theorem State.actuated_via (s : State) (p c : Nat) : Via 2251799813685248 s (State.actuated s p c) := by
  unfold State.actuated
  repeat' first
    | with_reducible exact Via.refl _
    | with_reducible assumption
    | decide +kernel
    | (intro x; refine Via.cutLet (m := 2251799813685248) (s := s) (t := x) ?_ ?_)
    | (refine fun hx => ?_; clear_value x)
    | intro x
    | with_reducible apply Via.ite
    | split
    | (dsimp only [x]; split)
    | (dsimp +zetaDelta only; split)
    | with_reducible apply Via.set_tat
    | (dsimp only)

theorem State.voffClear_via (s : State) (p : Nat) : Via 2048 s (State.voffClear s p) := by
  unfold State.voffClear
  repeat' first
    | with_reducible exact Via.refl _
    | with_reducible assumption
    | decide +kernel
    | (intro x; refine Via.cutLet (m := 2048) (s := s) (t := x) ?_ ?_)
    | (refine fun hx => ?_; clear_value x)
    | intro x
    | with_reducible apply Via.put
    | with_reducible apply Via.ite
    | with_reducible apply Via.then (State.levels_via ..)
    | split
    | (dsimp only [x]; split)
    | (dsimp +zetaDelta only; split)
    | (dsimp only)

end Sys2Proof.Machine
end

