-- ==== Sys2Proof/Laws/ViaTt.lean ====
section
/-! SUPPORT. What each operation of Machine/Tt.lean can do to the state (see Laws/Via.lean). -/

namespace Sys2Proof.Machine

set_option linter.unusedTactic false
set_option linter.unreachableTactic false
set_option linter.unusedSimpArgs false
set_option linter.unusedVariables false

set_option Elab.async false

theorem State.ttRefresh_via (s : State) (p : Nat) : Via 256 s (State.ttRefresh s p) := by
  unfold State.ttRefresh
  repeat' first
    | with_reducible exact Via.refl _
    | with_reducible assumption
    | decide +kernel
    | (intro x; refine Via.cutLet (m := 256) (s := s) (t := x) ?_ ?_)
    | (refine fun hx => ?_; clear_value x)
    | intro x
    | lift_lets
    | with_reducible apply Via.setFld
    | with_reducible apply Via.ite
    | (dsimp +zetaDelta only []; split <;> decide +kernel)
    | (split <;> decide +kernel)
    | split
    | (dsimp only [x]; split)
    | (dsimp +zetaDelta only; split)
    | (dsimp only)

theorem State.setContexts_via (s : State) (l : List Context) : Via 274877906944 s (State.setContexts s l) := by
  unfold State.setContexts
  repeat' first
    | with_reducible exact Via.refl _
    | with_reducible assumption
    | decide +kernel
    | (intro x; refine Via.cutLet (m := 274877906944) (s := s) (t := x) ?_ ?_)
    | (refine fun hx => ?_; clear_value x)
    | intro x
    | split
    | (dsimp only [x]; split)
    | (dsimp +zetaDelta only; split)
    | with_reducible apply Via.set_pool
    | (dsimp only)

theorem State.updTt_via (s : State) (p : Nat) (f : TtPort → TtPort) : Via 549755813888 s (State.updTt s p f) := by
  unfold State.updTt
  repeat' first
    | with_reducible exact Via.refl _
    | with_reducible assumption
    | decide +kernel
    | (intro x; refine Via.cutLet (m := 549755813888) (s := s) (t := x) ?_ ?_)
    | (refine fun hx => ?_; clear_value x)
    | intro x
    | split
    | (dsimp only [x]; split)
    | (dsimp +zetaDelta only; split)
    | with_reducible apply Via.set_tt
    | (dsimp only)

theorem State.ttClear_via (s : State) (p : Nat) : Via 274877907200 s (State.ttClear s p) := by
  unfold State.ttClear
  repeat' first
    | with_reducible exact Via.refl _
    | with_reducible assumption
    | decide +kernel
    | (intro x; refine Via.cutLet (m := 274877907200) (s := s) (t := x) ?_ ?_)
    | (refine fun hx => ?_; clear_value x)
    | intro x
    | lift_lets
    | with_reducible apply Via.add
    | with_reducible apply Via.then (State.ttRefresh_via ..)
    | split
    | (dsimp only [x]; split)
    | (dsimp +zetaDelta only; split)
    | with_reducible apply Via.set_pool
    | (dsimp only)

theorem State.ttCut_via (s : State) (p : Nat) : Via 824633721088 s (State.ttCut s p) := by
  unfold State.ttCut
  repeat' first
    | with_reducible exact Via.refl _
    | with_reducible assumption
    | decide +kernel
    | (intro x; refine Via.cutLet (m := 824633721088) (s := s) (t := x) ?_ ?_)
    | (refine fun hx => ?_; clear_value x)
    | intro x
    | lift_lets
    | with_reducible apply Via.put
    | with_reducible apply Via.ite
    | with_reducible apply Via.then (State.ttClear_via ..)
    | with_reducible apply Via.then (State.updTt_via ..)
    | split
    | (dsimp only [x]; split)
    | (dsimp +zetaDelta only; split)
    | (dsimp only)

theorem State.ttEndStop_via (s : State) (p : Nat) : Via 256 s (State.ttEndStop s p) := by
  unfold State.ttEndStop
  repeat' first
    | with_reducible exact Via.refl _
    | with_reducible assumption
    | decide +kernel
    | (intro x; refine Via.cutLet (m := 256) (s := s) (t := x) ?_ ?_)
    | (refine fun hx => ?_; clear_value x)
    | intro x
    | with_reducible apply Via.put
    | split
    | (dsimp only [x]; split)
    | (dsimp +zetaDelta only; split)
    | (dsimp only)

theorem State.ttClearPart_via (s : State) (k : Nat) : Via 274877907200 s (State.ttClearPart s k) := by
  unfold State.ttClearPart
  repeat' first
    | with_reducible exact Via.refl _
    | with_reducible assumption
    | decide +kernel
    | (intro x; refine Via.cutLet (m := 274877907200) (s := s) (t := x) ?_ ?_)
    | (refine fun hx => ?_; clear_value x)
    | intro x
    | with_reducible apply Via.then (State.ttEndStop_via ..)
    | with_reducible apply Via.then (State.ttClear_via ..)
    | (with_reducible refine Via.each _ _ (fun s _ => ?_) ?_)
    | split
    | (dsimp only [x]; split)
    | (dsimp +zetaDelta only; split)
    | (dsimp only)

theorem State.allocFrom_via (s src : State) (p : Nat) : Via 256 s (State.allocFrom s src p) := by
  unfold State.allocFrom
  repeat' first
    | with_reducible exact Via.refl _
    | with_reducible assumption
    | decide +kernel
    | (intro x; refine Via.cutLet (m := 256) (s := s) (t := x) ?_ ?_)
    | (refine fun hx => ?_; clear_value x)
    | intro x
    | with_reducible apply Via.setFld
    | split
    | (dsimp only [x]; split)
    | (dsimp +zetaDelta only; split)
    | (dsimp only)

theorem State.ttAllocApply_via (s old : State) : Via 288230376160624896 s (State.ttAllocApply s old) := by
  unfold State.ttAllocApply
  repeat' first
    | with_reducible exact Via.refl _
    | with_reducible assumption
    | decide +kernel
    | (intro x; refine Via.cutLet (m := 288230376160624896) (s := s) (t := x) ?_ ?_)
    | (refine fun hx => ?_; clear_value x)
    | intro x
    | lift_lets
    | with_reducible apply Via.incr
    | with_reducible apply Via.ite
    | with_reducible apply Via.then (State.allocFrom_via ..)
    | with_reducible apply Via.then (State.ttRefresh_via ..)
    | with_reducible apply Via.then (State.logOther_via ..)
    | with_reducible apply Via.then (State.irq_via ..)
    | (with_reducible refine Via.each _ _ (fun s _ => ?_) ?_)
    | split
    | (dsimp only [x]; split)
    | (dsimp +zetaDelta only; split)
    | (dsimp only)

theorem State.slotWrite_via (s : State) (n o : Nat) (bytes : List Nat) : Via 134217728 s (State.slotWrite s n o bytes) := by
  unfold State.slotWrite
  repeat' first
    | with_reducible exact Via.refl _
    | with_reducible assumption
    | decide +kernel
    | (intro x; refine Via.cutLet (m := 134217728) (s := s) (t := x) ?_ ?_)
    | (refine fun hx => ?_; clear_value x)
    | intro x
    | with_reducible apply Via.write
    | omega
    | (simp +zetaDelta only []; omega)
    | split
    | (dsimp only [x]; split)
    | (dsimp +zetaDelta only; split)
    | (dsimp only)

theorem State.answer_via (s : State) (k : Nat) (a : BusAnswer) : Via 34359738368 s (State.answer s k a) := by
  unfold State.answer
  repeat' first
    | with_reducible exact Via.refl _
    | with_reducible assumption
    | decide +kernel
    | (intro x; refine Via.cutLet (m := 34359738368) (s := s) (t := x) ?_ ?_)
    | (refine fun hx => ?_; clear_value x)
    | intro x
    | split
    | (dsimp only [x]; split)
    | (dsimp +zetaDelta only; split)
    | with_reducible apply Via.set_parts
    | (dsimp only)

theorem State.badSplit_via (s : State) (k : Nat) : Via 34359738624 s (State.badSplit s k) := by
  unfold State.badSplit
  repeat' first
    | with_reducible exact Via.refl _
    | with_reducible assumption
    | decide +kernel
    | (intro x; refine Via.cutLet (m := 34359738624) (s := s) (t := x) ?_ ?_)
    | (refine fun hx => ?_; clear_value x)
    | intro x
    | with_reducible apply Via.incr
    | with_reducible apply Via.then (State.answer_via ..)
    | split
    | (dsimp only [x]; split)
    | (dsimp +zetaDelta only; split)
    | (dsimp only)

theorem State.takeContext_via (s : State) (c : Context) : Via 275012124928 s (State.takeContext s c) := by
  unfold State.takeContext
  repeat' first
    | with_reducible exact Via.refl _
    | with_reducible assumption
    | decide +kernel
    | (intro x; refine Via.cutLet (m := 275012124928) (s := s) (t := x) ?_ ?_)
    | (refine fun hx => ?_; clear_value x)
    | intro x
    | lift_lets
    | with_reducible apply Via.then (State.slotWrite_via ..)
    | with_reducible apply Via.then (State.ttRefresh_via ..)
    | split
    | (dsimp only [x]; split)
    | (dsimp +zetaDelta only; split)
    | with_reducible apply Via.set_pool
    | (dsimp only)

theorem State.joinPiece_via (s : State) (p addr ep : Nat) (bytes : List Nat) : Via 275012124672 s (State.joinPiece s p addr ep bytes) := by
  unfold State.joinPiece
  repeat' first
    | with_reducible exact Via.refl _
    | with_reducible assumption
    | decide +kernel
    | (intro x; refine Via.cutLet (m := 275012124672) (s := s) (t := x) ?_ ?_)
    | (refine fun hx => ?_; clear_value x)
    | intro x
    | lift_lets
    | with_reducible apply Via.ite
    | with_reducible apply Via.then (State.setContexts_via ..)
    | with_reducible apply Via.then (State.slotWrite_via ..)
    | (with_reducible refine Via.foldlFst _ _ _ (fun p _ => ?_) ?_ <;> dsimp only)
    | (with_reducible refine Via.foldlThen _ _ (fun s _ => ?_) ?_)
    | split
    | (dsimp only [x]; split)
    | (dsimp +zetaDelta only; split)
    | (dsimp only)

theorem State.dropContext_via (s : State) (p n : Nat) : Via 274877907200 s (State.dropContext s p n) := by
  unfold State.dropContext
  repeat' first
    | with_reducible exact Via.refl _
    | with_reducible assumption
    | decide +kernel
    | (intro x; refine Via.cutLet (m := 274877907200) (s := s) (t := x) ?_ ?_)
    | (refine fun hx => ?_; clear_value x)
    | intro x
    | with_reducible apply Via.then (State.setContexts_via ..)
    | with_reducible apply Via.then (State.ttRefresh_via ..)
    | split
    | (dsimp only [x]; split)
    | (dsimp +zetaDelta only; split)
    | (dsimp only)

theorem State.updContext_via (s : State) (n : Nat) (f : Context → Context) : Via 274877906944 s (State.updContext s n f) := by
  unfold State.updContext
  repeat' first
    | with_reducible exact Via.refl _
    | with_reducible assumption
    | decide +kernel
    | (intro x; refine Via.cutLet (m := 274877906944) (s := s) (t := x) ?_ ?_)
    | (refine fun hx => ?_; clear_value x)
    | intro x
    | with_reducible apply Via.ite
    | with_reducible apply Via.then (State.setContexts_via ..)
    | split
    | (dsimp only [x]; split)
    | (dsimp +zetaDelta only; split)
    | (dsimp only)

theorem execSsplitNonperiodic_via (k p addr ep : Nat) (dirIn control : Bool) (bytes : List Nat) (s : State) : ∃ t, execSsplitNonperiodic k p addr ep dirIn control bytes s = .next t ∧ Via 309371863296 s t := by
  refine ⟨_, rfl, ?_⟩
  repeat' first
    | with_reducible exact Via.refl _
    | with_reducible assumption
    | decide +kernel
    | (intro x; refine Via.cutLet (m := 309371863296) (s := s) (t := x) ?_ ?_)
    | (refine fun hx => ?_; clear_value x)
    | intro x
    | lift_lets
    | with_reducible apply Via.incr
    | with_reducible apply Via.ite
    | with_reducible apply Via.then (State.takeContext_via ..)
    | with_reducible apply Via.then (State.badSplit_via ..)
    | with_reducible apply Via.then (State.answer_via ..)
    | split
    | (dsimp only [x]; split)
    | (dsimp +zetaDelta only; split)
    | (dsimp only)

theorem execCsplitNonperiodic_via (k p addr ep : Nat) (dirIn control : Bool) (s : State) : ∃ t, execCsplitNonperiodic k p addr ep dirIn control s = .next t ∧ Via 309237645568 s t := by
  refine ⟨_, rfl, ?_⟩
  repeat' first
    | with_reducible exact Via.refl _
    | with_reducible assumption
    | decide +kernel
    | (intro x; refine Via.cutLet (m := 309237645568) (s := s) (t := x) ?_ ?_)
    | (refine fun hx => ?_; clear_value x)
    | intro x
    | lift_lets
    | with_reducible apply Via.incr
    | with_reducible apply Via.ite
    | with_reducible apply Via.then (State.dropContext_via ..)
    | with_reducible apply Via.then (State.badSplit_via ..)
    | with_reducible apply Via.then (State.answer_via ..)
    | (dsimp +zetaDelta only []; split <;> decide +kernel)
    | (split <;> decide +kernel)
    | split
    | (dsimp only [x]; split)
    | (dsimp +zetaDelta only; split)
    | with_reducible apply Via.set_pool
    | (dsimp only)

theorem execSsplitPeriodic_via (k p addr ep : Nat) (dirIn iso more : Bool) (due : Nat) (bytes rivals : List Nat) (s : State) : ∃ t, execSsplitPeriodic k p addr ep dirIn iso more due bytes rivals s = .next t ∧ Via 309372387584 s t := by
  refine ⟨_, rfl, ?_⟩
  repeat' first
    | with_reducible exact Via.refl _
    | with_reducible assumption
    | decide +kernel
    | (intro g; refine Via.cutFun (m := 309372387584) (g := g) (fun s => ?_) ?_; on_goal 1 => dsimp only [g])
    | (intro g; refine Via.cutFunTwo (m := 309372387584) (g := g) (fun s _ => ?_) ?_; on_goal 1 => dsimp only [g])
    | (refine fun hg => ?_; clear_value g)
    | (refine Via.trans ?_ (hg ..))
    | (intro x; refine Via.cutLet (m := 309372387584) (s := s) (t := x) ?_ ?_)
    | (refine fun hx => ?_; clear_value x)
    | intro x
    | lift_lets
    | with_reducible apply Via.incr
    | with_reducible apply Via.ite
    | with_reducible apply Via.then (State.takeContext_via ..)
    | with_reducible apply Via.then (State.joinPiece_via ..)
    | with_reducible apply Via.then (State.badSplit_via ..)
    | with_reducible apply Via.then (State.answer_via ..)
    | with_reducible apply Via.then (State.irq_via ..)
    | split
    | (dsimp only [x]; split)
    | (dsimp +zetaDelta only; split)
    | with_reducible apply Via.set_pool
    | (dsimp only)

theorem execCsplitPeriodic_via (k p addr ep : Nat) (dirIn iso again : Bool) (came : List Nat) (s : State) : ∃ t, execCsplitPeriodic k p addr ep dirIn iso again came s = .next t ∧ Via 309371863296 s t := by
  refine ⟨_, rfl, ?_⟩
  repeat' first
    | with_reducible exact Via.refl _
    | with_reducible assumption
    | decide +kernel
    | (intro g; refine Via.cutFun (m := 309371863296) (g := g) (fun s => ?_) ?_; on_goal 1 => dsimp only [g])
    | (intro g; refine Via.cutFunTwo (m := 309371863296) (g := g) (fun s _ => ?_) ?_; on_goal 1 => dsimp only [g])
    | (refine fun hg => ?_; clear_value g)
    | (refine Via.trans ?_ (hg ..))
    | (intro x; refine Via.cutLet (m := 309371863296) (s := s) (t := x) ?_ ?_)
    | (refine fun hx => ?_; clear_value x)
    | intro x
    | lift_lets
    | with_reducible apply Via.incr
    | with_reducible apply Via.ite
    | with_reducible apply Via.then (State.updContext_via ..)
    | with_reducible apply Via.then (State.slotWrite_via ..)
    | with_reducible apply Via.then (State.badSplit_via ..)
    | with_reducible apply Via.then (State.answer_via ..)
    | (dsimp +zetaDelta only []; split <;> decide +kernel)
    | (split <;> decide +kernel)
    | split
    | (dsimp only [x]; split)
    | (dsimp +zetaDelta only; split)
    | (dsimp only)

theorem execBadSplit_via (k p : Nat) (s : State) : ∃ t, execBadSplit k p s = .next t ∧ Via 34359738624 s t := by
  refine ⟨_, rfl, ?_⟩
  repeat' first
    | with_reducible exact Via.refl _
    | with_reducible assumption
    | decide +kernel
    | (intro x; refine Via.cutLet (m := 34359738624) (s := s) (t := x) ?_ ?_)
    | (refine fun hx => ?_; clear_value x)
    | intro x
    | with_reducible apply Via.ite
    | with_reducible apply Via.then (State.badSplit_via ..)
    | split
    | (dsimp only [x]; split)
    | (dsimp +zetaDelta only; split)
    | (dsimp only)

theorem execTtFrameStart_via (p : Nat) (s : State) : ∃ t, execTtFrameStart p s = .next t ∧ Via 549755813888 s t := by
  refine ⟨_, rfl, ?_⟩
  repeat' first
    | with_reducible exact Via.refl _
    | with_reducible assumption
    | decide +kernel
    | (intro x; refine Via.cutLet (m := 549755813888) (s := s) (t := x) ?_ ?_)
    | (refine fun hx => ?_; clear_value x)
    | intro x
    | lift_lets
    | with_reducible apply Via.ite
    | with_reducible apply Via.then (State.updTt_via ..)
    | split
    | (dsimp only [x]; split)
    | (dsimp +zetaDelta only; split)
    | (dsimp only)

theorem execTtTransactionStart_via (p uframe : Nat) (beforeEof1 npFits : Bool) (corrected : Nat) (s : State) : ∃ t, execTtTransactionStart p uframe beforeEof1 npFits corrected s = .next t ∧ Via 274877907200 s t := by
  refine ⟨_, rfl, ?_⟩
  repeat' first
    | with_reducible exact Via.refl _
    | with_reducible assumption
    | decide +kernel
    | (intro x; refine Via.cutLet (m := 274877907200) (s := s) (t := x) ?_ ?_)
    | (refine fun hx => ?_; clear_value x)
    | intro x
    | lift_lets
    | with_reducible apply Via.put
    | with_reducible apply Via.add
    | with_reducible apply Via.ite
    | with_reducible apply Via.then (State.updContext_via ..)
    | (dsimp +zetaDelta only []; split <;> decide +kernel)
    | (split <;> decide +kernel)
    | split
    | (dsimp only [x]; split)
    | (dsimp +zetaDelta only; split)
    | (dsimp only)

theorem execTtTransactionEnd_via (p result : Nat) (bytes : List Nat) (busError : Bool) (s : State) : ∃ t, execTtTransactionEnd p result bytes busError s = .next t ∧ Via 824767938816 s t := by
  refine ⟨_, rfl, ?_⟩
  repeat' first
    | with_reducible exact Via.refl _
    | with_reducible assumption
    | decide +kernel
    | (intro x; refine Via.cutLet (m := 824767938816) (s := s) (t := x) ?_ ?_)
    | (refine fun hx => ?_; clear_value x)
    | intro x
    | lift_lets
    | with_reducible apply Via.put
    | with_reducible apply Via.ite
    | with_reducible apply Via.then (State.dropContext_via ..)
    | with_reducible apply Via.then (State.updContext_via ..)
    | with_reducible apply Via.then (State.slotWrite_via ..)
    | with_reducible apply Via.then (State.updTt_via ..)
    | (dsimp +zetaDelta only []; split <;> decide +kernel)
    | (split <;> decide +kernel)
    | split
    | (dsimp only [x]; split)
    | (dsimp +zetaDelta only; split)
    | (dsimp only)

theorem execPeriodicContextRelease_via (p addr ep : Nat) (dirIn iso : Bool) (s : State) : ∃ t, execPeriodicContextRelease p addr ep dirIn iso s = .next t ∧ Via 274877907200 s t := by
  refine ⟨_, rfl, ?_⟩
  repeat' first
    | with_reducible exact Via.refl _
    | with_reducible assumption
    | decide +kernel
    | (intro x; refine Via.cutLet (m := 274877907200) (s := s) (t := x) ?_ ?_)
    | (refine fun hx => ?_; clear_value x)
    | intro x
    | lift_lets
    | with_reducible apply Via.ite
    | with_reducible apply Via.then (State.dropContext_via ..)
    | (dsimp +zetaDelta only []; split <;> decide +kernel)
    | (split <;> decide +kernel)
    | split
    | (dsimp only [x]; split)
    | (dsimp +zetaDelta only; split)
    | (dsimp only)

theorem execPeriodicAbandon_via (p addr ep : Nat) (dirIn iso : Bool) (s : State) : ∃ t, execPeriodicAbandon p addr ep dirIn iso s = .next t ∧ Via 274877907200 s t := by
  refine ⟨_, rfl, ?_⟩
  repeat' first
    | with_reducible exact Via.refl _
    | with_reducible assumption
    | decide +kernel
    | (intro x; refine Via.cutLet (m := 274877907200) (s := s) (t := x) ?_ ?_)
    | (refine fun hx => ?_; clear_value x)
    | intro x
    | lift_lets
    | with_reducible apply Via.incr
    | with_reducible apply Via.ite
    | with_reducible apply Via.then (State.dropContext_via ..)
    | with_reducible apply Via.then (State.updContext_via ..)
    | (dsimp +zetaDelta only []; split <;> decide +kernel)
    | (split <;> decide +kernel)
    | split
    | (dsimp only [x]; split)
    | (dsimp +zetaDelta only; split)
    | (dsimp only)

theorem execPoolUncorrectable_via (n : Nat) (s : State) : ∃ t, execPoolUncorrectable n s = .next t ∧ Via 144116012710101248 s t := by
  refine ⟨_, rfl, ?_⟩
  repeat' first
    | with_reducible exact Via.refl _
    | with_reducible assumption
    | decide +kernel
    | (intro x; refine Via.cutLet (m := 144116012710101248) (s := s) (t := x) ?_ ?_)
    | (refine fun hx => ?_; clear_value x)
    | intro x
    | lift_lets
    | with_reducible apply Via.put
    | with_reducible apply Via.incr
    | with_reducible apply Via.ite
    | with_reducible apply Via.then (State.dropContext_via ..)
    | with_reducible apply Via.then (State.raise_via ..)
    | with_reducible apply Via.then (State.updTt_via ..)
    | with_reducible apply Via.then (State.irq_via ..)
    | (dsimp +zetaDelta only []; split <;> decide +kernel)
    | (split <;> decide +kernel)
    | split
    | (dsimp only [x]; split)
    | (dsimp +zetaDelta only; split)
    | with_reducible apply Via.set_pool
    | (dsimp only)

theorem State.ttRequest_via (s : State) (k : Nat) (r : HubReq) : Via 309237645600 s (State.ttRequest s k r) := by
  unfold State.ttRequest
  repeat' first
    | with_reducible exact Via.refl _
    | with_reducible assumption
    | decide +kernel
    | (intro x; refine Via.cutLet (m := 309237645600) (s := s) (t := x) ?_ ?_)
    | (refine fun hx => ?_; clear_value x)
    | intro x
    | with_reducible apply Via.setFld
    | with_reducible apply Via.put
    | with_reducible apply Via.incr
    | with_reducible apply Via.ite
    | with_reducible apply Via.then (State.ttClearPart_via ..)
    | with_reducible apply Via.then (State.dropContext_via ..)
    | with_reducible apply Via.then (State.ttEndStop_via ..)
    | with_reducible apply Via.then (State.ttClear_via ..)
    | with_reducible apply Via.then (State.answer_via ..)
    | (with_reducible refine Via.each _ _ (fun s _ => ?_) ?_)
    | (dsimp +zetaDelta only []; split <;> decide +kernel)
    | (split <;> decide +kernel)
    | split
    | (dsimp only [x]; split)
    | (dsimp +zetaDelta only; split)
    | with_reducible apply Via.set_pool
    | (dsimp only)

end Sys2Proof.Machine
end

