-- ==== Sys2Proof/Laws/ViaDpeOps.lean ====
section
/-! SUPPORT. What each operation of Machine/DpeOps.lean can do to the state (see Laws/Via.lean). -/

namespace Sys2Proof.Machine

set_option linter.unusedTactic false
set_option linter.unreachableTactic false
set_option linter.unusedSimpArgs false
set_option linter.unusedVariables false

set_option Elab.async false

theorem State.updDpe_via (s : State) (p : Nat) (f : DpePort → DpePort) : Via 137438953472 s (State.updDpe s p f) := by
  unfold State.updDpe
  repeat' first
    | with_reducible exact Via.refl _
    | with_reducible assumption
    | decide +kernel
    | (intro x; refine Via.cutLet (m := 137438953472) (s := s) (t := x) ?_ ?_)
    | (refine fun hx => ?_; clear_value x)
    | intro x
    | split
    | (dsimp only [x]; split)
    | (dsimp +zetaDelta only; split)
    | with_reducible apply Via.set_dpe
    | (dsimp only)

theorem State.updMig_via (s : State) (p : Nat) (f : Migration → Migration) : Via 68719476736 s (State.updMig s p f) := by
  unfold State.updMig
  repeat' first
    | with_reducible exact Via.refl _
    | with_reducible assumption
    | decide +kernel
    | (intro x; refine Via.cutLet (m := 68719476736) (s := s) (t := x) ?_ ?_)
    | (refine fun hx => ?_; clear_value x)
    | intro x
    | split
    | (dsimp only [x]; split)
    | (dsimp +zetaDelta only; split)
    | with_reducible apply Via.set_migs
    | (dsimp only)

theorem State.setDpe_via (s : State) (p : Nat) (d : Dpe) : Via 9289773777158848 s (State.setDpe s p d) := by
  unfold State.setDpe
  repeat' first
    | with_reducible exact Via.refl _
    | with_reducible assumption
    | decide +kernel
    | (intro x; refine Via.cutLet (m := 9289773777158848) (s := s) (t := x) ?_ ?_)
    | (refine fun hx => ?_; clear_value x)
    | intro x
    | lift_lets
    | with_reducible apply Via.setFld
    | with_reducible apply Via.ite
    | with_reducible apply Via.then (State.traceForget_via ..)
    | with_reducible apply Via.then (State.refresh_via ..)
    | with_reducible apply Via.then (State.notice_via ..)
    | with_reducible apply Via.then (State.irq_via ..)
    | split
    | (dsimp only [x]; split)
    | (dsimp +zetaDelta only; split)
    | (dsimp only)

theorem State.noDevice_via (s : State) (p : Nat) : Via 64 s (State.noDevice s p) := by
  unfold State.noDevice
  repeat' first
    | with_reducible exact Via.refl _
    | with_reducible assumption
    | decide +kernel
    | (intro x; refine Via.cutLet (m := 64) (s := s) (t := x) ?_ ?_)
    | (refine fun hx => ?_; clear_value x)
    | intro x
    | with_reducible apply Via.setFld
    | with_reducible apply Via.put
    | split
    | (dsimp only [x]; split)
    | (dsimp +zetaDelta only; split)
    | (dsimp only)

theorem State.enterDisconnected_via (s : State) (p : Nat) : Via 9289911216112320 s (State.enterDisconnected s p) := by
  unfold State.enterDisconnected
  repeat' first
    | with_reducible exact Via.refl _
    | with_reducible assumption
    | decide +kernel
    | (intro x; refine Via.cutLet (m := 9289911216112320) (s := s) (t := x) ?_ ?_)
    | (refine fun hx => ?_; clear_value x)
    | intro x
    | with_reducible apply Via.then (State.noDevice_via ..)
    | with_reducible apply Via.then (State.updDpe_via ..)
    | with_reducible apply Via.then (State.setDpe_via ..)
    | split
    | (dsimp only [x]; split)
    | (dsimp +zetaDelta only; split)
    | (dsimp only)

theorem State.enterPoweredOff_via (s : State) (p : Nat) : Via 9290735849833408 s (State.enterPoweredOff s p) := by
  unfold State.enterPoweredOff
  repeat' first
    | with_reducible exact Via.refl _
    | with_reducible assumption
    | decide +kernel
    | (intro x; refine Via.cutLet (m := 9290735849833408) (s := s) (t := x) ?_ ?_)
    | (refine fun hx => ?_; clear_value x)
    | intro x
    | with_reducible apply Via.then (State.noDevice_via ..)
    | with_reducible apply Via.then (State.updDpe_via ..)
    | with_reducible apply Via.then (State.setDpe_via ..)
    | with_reducible apply Via.then (State.ttCut_via ..)
    | split
    | (dsimp only [x]; split)
    | (dsimp +zetaDelta only; split)
    | (dsimp only)

theorem State.leaveHold_via (s : State) (p : Nat) : Via 9290735849833408 s (State.leaveHold s p) := by
  unfold State.leaveHold
  repeat' first
    | with_reducible exact Via.refl _
    | with_reducible assumption
    | decide +kernel
    | (intro x; refine Via.cutLet (m := 9290735849833408) (s := s) (t := x) ?_ ?_)
    | (refine fun hx => ?_; clear_value x)
    | intro x
    | with_reducible apply Via.ite
    | with_reducible apply Via.then (State.enterDisconnected_via ..)
    | with_reducible apply Via.then (State.enterPoweredOff_via ..)
    | split
    | (dsimp only [x]; split)
    | (dsimp +zetaDelta only; split)
    | (dsimp only)

theorem State.tryPowerUp_via (s : State) (p : Nat) : Via 9289911216112320 s (State.tryPowerUp s p) := by
  unfold State.tryPowerUp
  repeat' first
    | with_reducible exact Via.refl _
    | with_reducible assumption
    | decide +kernel
    | (intro x; refine Via.cutLet (m := 9289911216112320) (s := s) (t := x) ?_ ?_)
    | (refine fun hx => ?_; clear_value x)
    | intro x
    | with_reducible apply Via.ite
    | with_reducible apply Via.then (State.enterDisconnected_via ..)
    | with_reducible apply Via.then (State.refresh_via ..)
    | split
    | (dsimp only [x]; split)
    | (dsimp +zetaDelta only; split)
    | (dsimp only)

theorem State.resetCut_via (s : State) (p : Nat) : Via 68719476736 s (State.resetCut s p) := by
  unfold State.resetCut
  repeat' first
    | with_reducible exact Via.refl _
    | with_reducible assumption
    | decide +kernel
    | (intro x; refine Via.cutLet (m := 68719476736) (s := s) (t := x) ?_ ?_)
    | (refine fun hx => ?_; clear_value x)
    | intro x
    | with_reducible apply Via.ite
    | with_reducible apply Via.then (State.updMig_via ..)
    | split
    | (dsimp only [x]; split)
    | (dsimp +zetaDelta only; split)
    | (dsimp only)

theorem State.isoUpdate_via (s : State) (p : Nat) : Via 297521180729410496 s (State.isoUpdate s p) := by
  unfold State.isoUpdate
  repeat' first
    | with_reducible exact Via.refl _
    | with_reducible assumption
    | decide +kernel
    | (intro x; refine Via.cutLet (m := 297521180729410496) (s := s) (t := x) ?_ ?_)
    | (refine fun hx => ?_; clear_value x)
    | intro x
    | lift_lets
    | with_reducible apply Via.incr
    | with_reducible apply Via.ite
    | with_reducible apply Via.then (State.leaveHold_via ..)
    | with_reducible apply Via.then (State.resetCut_via ..)
    | with_reducible apply Via.then (State.noDevice_via ..)
    | with_reducible apply Via.then (State.refresh_via ..)
    | with_reducible apply Via.then (State.logPort_via ..)
    | with_reducible apply Via.then (State.updDpe_via ..)
    | with_reducible apply Via.then (State.change_via ..)
    | with_reducible apply Via.then (State.setDpe_via ..)
    | with_reducible apply Via.then (State.ttCut_via ..)
    | split
    | (dsimp only [x]; split)
    | (dsimp +zetaDelta only; split)
    | (dsimp only)

theorem State.migDone_via (s : State) (p : Nat) : Via 288230444880101408 s (State.migDone s p) := by
  unfold State.migDone
  repeat' first
    | with_reducible exact Via.refl _
    | with_reducible assumption
    | decide +kernel
    | (intro x; refine Via.cutLet (m := 288230444880101408) (s := s) (t := x) ?_ ?_)
    | (refine fun hx => ?_; clear_value x)
    | intro x
    | lift_lets
    | with_reducible apply Via.putBit
    | with_reducible apply Via.incr
    | with_reducible apply Via.then (State.logPort_via ..)
    | with_reducible apply Via.then (State.updMig_via ..)
    | with_reducible apply Via.then (State.irq_via ..)
    | split
    | (dsimp only [x]; split)
    | (dsimp +zetaDelta only; split)
    | (dsimp only)

theorem State.takeBack_via (s : State) (p k : Nat) : Via 34359738432 s (State.takeBack s p k) := by
  unfold State.takeBack
  repeat' first
    | with_reducible exact Via.refl _
    | with_reducible assumption
    | decide +kernel
    | (intro x; refine Via.cutLet (m := 34359738432) (s := s) (t := x) ?_ ?_)
    | (refine fun hx => ?_; clear_value x)
    | intro x
    | with_reducible apply Via.putBit
    | with_reducible apply Via.ite
    | split
    | (dsimp only [x]; split)
    | (dsimp +zetaDelta only; split)
    | with_reducible apply Via.set_parts
    | (dsimp only)

theorem State.migAbort_via (s : State) (p cause : Nat) : Via 288230479239839840 s (State.migAbort s p cause) := by
  unfold State.migAbort
  repeat' first
    | with_reducible exact Via.refl _
    | with_reducible assumption
    | decide +kernel
    | (intro x; refine Via.cutLet (m := 288230479239839840) (s := s) (t := x) ?_ ?_)
    | (refine fun hx => ?_; clear_value x)
    | intro x
    | lift_lets
    | with_reducible apply Via.putBit
    | with_reducible apply Via.incr
    | with_reducible apply Via.ite
    | with_reducible apply Via.then (State.takeBack_via ..)
    | with_reducible apply Via.then (State.logPort_via ..)
    | with_reducible apply Via.then (State.updMig_via ..)
    | with_reducible apply Via.then (State.irq_via ..)
    | split
    | (dsimp only [x]; split)
    | (dsimp +zetaDelta only; split)
    | (dsimp only)

theorem State.quarCurrant_via (s : State) (p : Nat) : Via 288572324310437568 s (State.quarCurrant s p) := by
  unfold State.quarCurrant
  repeat' first
    | with_reducible exact Via.refl _
    | with_reducible assumption
    | decide +kernel
    | (intro x; refine Via.cutLet (m := 288572324310437568) (s := s) (t := x) ?_ ?_)
    | (refine fun hx => ?_; clear_value x)
    | intro x
    | with_reducible apply Via.put
    | with_reducible apply Via.ite
    | with_reducible apply Via.then (State.releaseClaim_via ..)
    | with_reducible apply Via.then (State.policyStop_via ..)
    | with_reducible apply Via.then (State.ccDisable_via ..)
    | with_reducible apply Via.then (State.vbusOff_via ..)
    | split
    | (dsimp only [x]; split)
    | (dsimp +zetaDelta only; split)
    | (dsimp only)

theorem State.quarantine_via (s : State) (p : Nat) (byFault : Bool) : Via 297580588717068256 s (State.quarantine s p byFault) := by
  unfold State.quarantine
  repeat' first
    | with_reducible exact Via.refl _
    | with_reducible assumption
    | decide +kernel
    | (intro x; refine Via.cutLet (m := 297580588717068256) (s := s) (t := x) ?_ ?_)
    | (refine fun hx => ?_; clear_value x)
    | intro x
    | lift_lets
    | with_reducible apply Via.put
    | with_reducible apply Via.ite
    | with_reducible apply Via.then (State.quarCurrant_via ..)
    | with_reducible apply Via.then (State.migAbort_via ..)
    | with_reducible apply Via.then (State.noDevice_via ..)
    | with_reducible apply Via.then (State.logPort_via ..)
    | with_reducible apply Via.then (State.updDpe_via ..)
    | with_reducible apply Via.then (State.change_via ..)
    | with_reducible apply Via.then (State.setDpe_via ..)
    | with_reducible apply Via.then (State.ttCut_via ..)
    | (dsimp +zetaDelta only []; split <;> decide +kernel)
    | (split <;> decide +kernel)
    | split
    | (dsimp only [x]; split)
    | (dsimp +zetaDelta only; split)
    | (dsimp only)

theorem State.latchOff_via (s : State) (p : Nat) : Via 297580588717068256 s (State.latchOff s p) := by
  unfold State.latchOff
  repeat' first
    | with_reducible exact Via.refl _
    | with_reducible assumption
    | decide +kernel
    | (intro x; refine Via.cutLet (m := 297580588717068256) (s := s) (t := x) ?_ ?_)
    | (refine fun hx => ?_; clear_value x)
    | intro x
    | lift_lets
    | with_reducible apply Via.setFld
    | with_reducible apply Via.ite
    | with_reducible apply Via.then (State.hardReset_via ..)
    | with_reducible apply Via.then (State.leaveHold_via ..)
    | with_reducible apply Via.then (State.sinkOpen_via ..)
    | with_reducible apply Via.then (State.migAbort_via ..)
    | with_reducible apply Via.then (State.latch_via ..)
    | split
    | (dsimp only [x]; split)
    | (dsimp +zetaDelta only; split)
    | (dsimp only)

theorem State.quarRelease_via (s : State) (p : Nat) : Via 297580485637853120 s ((State.quarRelease s p).getD s) := by
  unfold State.quarRelease
  repeat' first
    | with_reducible exact Via.refl _
    | with_reducible assumption
    | decide +kernel
    | (intro x; refine Via.cutLet (m := 297580485637853120) (s := s) (t := x) ?_ ?_)
    | (refine fun hx => ?_; clear_value x)
    | intro x
    | lift_lets
    | with_reducible apply Via.put
    | with_reducible apply Via.incr
    | with_reducible apply Via.ite
    | with_reducible apply Via.then (State.ccEnableCause_via ..)
    | with_reducible apply Via.then (State.leaveHold_via ..)
    | with_reducible apply Via.then (State.logPort_via ..)
    | with_reducible apply Via.then (State.setDpe_via ..)
    | (dsimp +zetaDelta only []; split <;> decide +kernel)
    | (split <;> decide +kernel)
    | split
    | (dsimp only [x]; split)
    | (dsimp +zetaDelta only; split)
    | (dsimp only)
    | dsimp only [Option.getD]

theorem State.quarRelease_via' {s : State} {p : Nat} {t : State} (h : State.quarRelease s p = some t) : Via 297580485637853120 s t := by
  have d := State.quarRelease_via s p
  rw [h] at d
  exact d

theorem State.glitchSuppressed_via (s : State) (p typ : Nat) : Via 288230376160100416 s (State.glitchSuppressed s p typ) := by
  unfold State.glitchSuppressed
  repeat' first
    | with_reducible exact Via.refl _
    | with_reducible assumption
    | decide +kernel
    | (intro x; refine Via.cutLet (m := 288230376160100416) (s := s) (t := x) ?_ ?_)
    | (refine fun hx => ?_; clear_value x)
    | intro x
    | with_reducible apply Via.incr
    | with_reducible apply Via.then (State.logPort_via ..)
    | split
    | (dsimp only [x]; split)
    | (dsimp +zetaDelta only; split)
    | (dsimp only)

theorem State.glitchStart_via (s : State) (p cfg gap win : Nat) : Via 288230513599053888 s (State.glitchStart s p cfg gap win) := by
  unfold State.glitchStart
  repeat' first
    | with_reducible exact Via.refl _
    | with_reducible assumption
    | decide +kernel
    | (intro g; refine Via.cutFun (m := 288230513599053888) (g := g) (fun s => ?_) ?_; on_goal 1 => dsimp only [g])
    | (intro g; refine Via.cutFunTwo (m := 288230513599053888) (g := g) (fun s _ => ?_) ?_; on_goal 1 => dsimp only [g])
    | (refine fun hg => ?_; clear_value g)
    | (refine Via.trans ?_ (hg ..))
    | (intro x; refine Via.cutLet (m := 288230513599053888) (s := s) (t := x) ?_ ?_)
    | (refine fun hx => ?_; clear_value x)
    | intro x
    | lift_lets
    | with_reducible apply Via.put
    | with_reducible apply Via.ite
    | with_reducible apply Via.then (State.glitchSuppressed_via ..)
    | with_reducible apply Via.then (State.updDpe_via ..)
    | (dsimp +zetaDelta only []; split <;> decide +kernel)
    | (split <;> decide +kernel)
    | split
    | (dsimp only [x]; split)
    | (dsimp +zetaDelta only; split)
    | (dsimp only)

end Sys2Proof.Machine
end

