-- ==== Sys2Proof/Laws/ViaMfOps.lean ====
section
/-! SUPPORT. What each operation of Machine/MfOps.lean can do to the state (see Laws/Via.lean). -/

namespace Sys2Proof.Machine

set_option linter.unusedTactic false
set_option linter.unreachableTactic false
set_option linter.unusedSimpArgs false
set_option linter.unusedVariables false

set_option Elab.async false

theorem State.setP33_via (s : State) (k : Nat) (d : Dpe) : Via 512 s (State.setP33 s k d) := by
  unfold State.setP33
  repeat' first
    | with_reducible exact Via.refl _
    | with_reducible assumption
    | decide +kernel
    | (intro x; refine Via.cutLet (m := 512) (s := s) (t := x) ?_ ?_)
    | (refine fun hx => ?_; clear_value x)
    | intro x
    | with_reducible apply Via.setFld
    | split
    | (dsimp only [x]; split)
    | (dsimp +zetaDelta only; split)
    | (dsimp only)

theorem State.change33_via (s : State) (k b : Nat) : Via 34359738368 s (State.change33 s k b) := by
  unfold State.change33
  repeat' first
    | with_reducible exact Via.refl _
    | with_reducible assumption
    | decide +kernel
    | (intro x; refine Via.cutLet (m := 34359738368) (s := s) (t := x) ?_ ?_)
    | (refine fun hx => ?_; clear_value x)
    | intro x
    | split
    | (dsimp only [x]; split)
    | (dsimp +zetaDelta only; split)
    | with_reducible apply Via.set_parts
    | (dsimp only)

theorem State.epWrite_via (s : State) (k e h o : Nat) (bytes : List Nat) : Via 134217728 s (State.epWrite s k e h o bytes) := by
  unfold State.epWrite State.epBase
  exact .write _ _ (by decide +kernel) (by omega) (.refl _)

theorem State.controlAbandon_via (s : State) (k : Nat) : Via 1099511628288 s (State.controlAbandon s k) := by
  unfold State.controlAbandon
  repeat' first
    | with_reducible exact Via.refl _
    | with_reducible assumption
    | decide +kernel
    | (intro x; refine Via.cutLet (m := 1099511628288) (s := s) (t := x) ?_ ?_)
    | (refine fun hx => ?_; clear_value x)
    | intro x
    | with_reducible apply Via.incr
    | with_reducible apply Via.ite
    | with_reducible apply Via.then (State.updMf_via ..)
    | split
    | (dsimp only [x]; split)
    | (dsimp +zetaDelta only; split)
    | (dsimp only)

theorem State.ep1End_via (s : State) (k : Nat) : Via 1099512152576 s (State.ep1End s k) := by
  unfold State.ep1End
  repeat' first
    | with_reducible exact Via.refl _
    | with_reducible assumption
    | decide +kernel
    | (intro x; refine Via.cutLet (m := 1099512152576) (s := s) (t := x) ?_ ?_)
    | (refine fun hx => ?_; clear_value x)
    | intro x
    | lift_lets
    | with_reducible apply Via.add
    | with_reducible apply Via.incr
    | with_reducible apply Via.ite
    | with_reducible apply Via.then (State.updMf_via ..)
    | with_reducible apply Via.then (State.irq_via ..)
    | split
    | (dsimp only [x]; split)
    | (dsimp +zetaDelta only; split)
    | (dsimp only)

theorem State.unplace_via (s : State) (k : Nat) : Via 9007199254740992 s (State.unplace s k) := by
  unfold State.unplace
  repeat' first
    | with_reducible exact Via.refl _
    | with_reducible assumption
    | decide +kernel
    | (intro x; refine Via.cutLet (m := 9007199254740992) (s := s) (t := x) ?_ ?_)
    | (refine fun hx => ?_; clear_value x)
    | intro x
    | split
    | (dsimp only [x]; split)
    | (dsimp +zetaDelta only; split)
    | with_reducible apply Via.set_trc
    | (dsimp only)

theorem State.mfFlush_via (s : State) (k : Nat) : Via 9008298766893568 s (State.mfFlush s k) := by
  unfold State.mfFlush
  repeat' first
    | with_reducible exact Via.refl _
    | with_reducible assumption
    | decide +kernel
    | (intro x; refine Via.cutLet (m := 9008298766893568) (s := s) (t := x) ?_ ?_)
    | (refine fun hx => ?_; clear_value x)
    | intro x
    | lift_lets
    | with_reducible apply Via.put
    | with_reducible apply Via.add
    | with_reducible apply Via.incr
    | with_reducible apply Via.ite
    | with_reducible apply Via.then (State.unplace_via ..)
    | with_reducible apply Via.then (State.ep1End_via ..)
    | with_reducible apply Via.then (State.updMf_via ..)
    | with_reducible apply Via.then (State.irq_via ..)
    | (dsimp +zetaDelta only []; split <;> decide +kernel)
    | (split <;> decide +kernel)
    | split
    | (dsimp only [x]; split)
    | (dsimp +zetaDelta only; split)
    | (dsimp only)

theorem State.mfReset_via (s : State) (k : Nat) : Via 9008298766893568 s (State.mfReset s k) := by
  unfold State.mfReset
  repeat' first
    | with_reducible exact Via.refl _
    | with_reducible assumption
    | decide +kernel
    | (intro x; refine Via.cutLet (m := 9008298766893568) (s := s) (t := x) ?_ ?_)
    | (refine fun hx => ?_; clear_value x)
    | intro x
    | lift_lets
    | with_reducible apply Via.setFld
    | with_reducible apply Via.put
    | with_reducible apply Via.then (State.controlAbandon_via ..)
    | with_reducible apply Via.then (State.mfFlush_via ..)
    | with_reducible apply Via.then (State.updMf_via ..)
    | split
    | (dsimp only [x]; split)
    | (dsimp +zetaDelta only; split)
    | (dsimp only)

theorem State.p33Off_via (s : State) (k : Nat) : Via 9008298766893568 s (State.p33Off s k) := by
  unfold State.p33Off
  repeat' first
    | with_reducible exact Via.refl _
    | with_reducible assumption
    | decide +kernel
    | (intro x; refine Via.cutLet (m := 9008298766893568) (s := s) (t := x) ?_ ?_)
    | (refine fun hx => ?_; clear_value x)
    | intro x
    | with_reducible apply Via.then (State.mfReset_via ..)
    | with_reducible apply Via.then (State.setP33_via ..)
    | split
    | (dsimp only [x]; split)
    | (dsimp +zetaDelta only; split)
    | (dsimp only)

theorem State.p33Update_via (s : State) (k : Nat) (lost : Bool) : Via 9008333126631936 s (State.p33Update s k lost) := by
  unfold State.p33Update
  repeat' first
    | with_reducible exact Via.refl _
    | with_reducible assumption
    | decide +kernel
    | (intro x; refine Via.cutLet (m := 9008333126631936) (s := s) (t := x) ?_ ?_)
    | (refine fun hx => ?_; clear_value x)
    | intro x
    | lift_lets
    | with_reducible apply Via.ite
    | with_reducible apply Via.then (State.change33_via ..)
    | with_reducible apply Via.then (State.mfReset_via ..)
    | with_reducible apply Via.then (State.setP33_via ..)
    | split
    | (dsimp only [x]; split)
    | (dsimp +zetaDelta only; split)
    | (dsimp only)

theorem State.descCheck_via (s : State) (k : Nat) : Via 9008333126631936 s (State.descCheck s k) := by
  unfold State.descCheck
  repeat' first
    | with_reducible exact Via.refl _
    | with_reducible assumption
    | decide +kernel
    | (intro x; refine Via.cutLet (m := 9008333126631936) (s := s) (t := x) ?_ ?_)
    | (refine fun hx => ?_; clear_value x)
    | intro x
    | lift_lets
    | with_reducible apply Via.put
    | with_reducible apply Via.then (State.p33Update_via ..)
    | split
    | (dsimp only [x]; split)
    | (dsimp +zetaDelta only; split)
    | (dsimp only)

theorem State.ep2Fill_via (s : State) (k n : Nat) : Via 1099645846016 s (State.ep2Fill s k n) := by
  induction n generalizing s with
  | zero => exact .refl _
  | succ n ih =>
    unfold State.ep2Fill
    dsimp only
    generalize (s.mf.at k).waiting = w
    cases w with
    | nil => exact .refl _
    | cons f rest =>
      refine Via.ite _ ?_ (.refl _)
      refine (Via.trans ?_ (ih _))
      exact Via.then (State.noticeTo_via ..) (by decide +kernel) (Via.then (State.updMf_via ..) (by decide +kernel)
        (Via.then (State.epWrite_via ..) (by decide +kernel) (.refl _)))

theorem State.ep2Place_via (s : State) (k : Nat) (f : List Nat) : Via 1099645846016 s (State.ep2Place s k f) := by
  unfold State.ep2Place
  repeat' first
    | with_reducible exact Via.refl _
    | with_reducible assumption
    | decide +kernel
    | (intro x; refine Via.cutLet (m := 1099645846016) (s := s) (t := x) ?_ ?_)
    | (refine fun hx => ?_; clear_value x)
    | intro x
    | with_reducible apply Via.ite
    | with_reducible apply Via.then (State.ep2Fill_via ..)
    | with_reducible apply Via.then (State.updMf_via ..)
    | split
    | (dsimp only [x]; split)
    | (dsimp +zetaDelta only; split)
    | (dsimp only)

end Sys2Proof.Machine
end

