-- ==== Sys2Proof/Laws/ViaTraceOps.lean ====
section
/-! SUPPORT. What each operation of Machine/TraceOps.lean can do to the state (see Laws/Via.lean). -/

namespace Sys2Proof.Machine

set_option linter.unusedTactic false
set_option linter.unreachableTactic false
set_option linter.unusedSimpArgs false
set_option linter.unusedVariables false

set_option Elab.async false

theorem State.updTrc_via (s : State) (f : TraceHw → TraceHw) : Via 9007199254740992 s (State.updTrc s f) := by
  unfold State.updTrc
  repeat' first
    | with_reducible exact Via.refl _
    | with_reducible assumption
    | decide +kernel
    | (intro x; refine Via.cutLet (m := 9007199254740992) (s := s) (t := x) ?_ ?_)
    | (refine fun hx => ?_; clear_value x)
    | intro x
    | split
    | (dsimp only [x]; split)
    | (dsimp +zetaDelta only; split)
    | with_reducible apply Via.set_trc
    | (dsimp only)

theorem State.traceWrap_via (s : State) (n : Nat) : Via 9289773777289728 s (State.traceWrap s n) := by
  unfold State.traceWrap
  repeat' first
    | with_reducible exact Via.refl _
    | with_reducible assumption
    | decide +kernel
    | (intro x; refine Via.cutLet (m := 9289773777289728) (s := s) (t := x) ?_ ?_)
    | (refine fun hx => ?_; clear_value x)
    | intro x
    | lift_lets
    | with_reducible apply Via.put
    | with_reducible apply Via.ite
    | with_reducible apply Via.then (State.updTrc_via ..)
    | with_reducible apply Via.then (State.notice_via ..)
    | with_reducible apply Via.then (State.irq_via ..)
    | split
    | (dsimp only [x]; split)
    | (dsimp +zetaDelta only; split)
    | (dsimp only)

theorem traceAddr_high (s : State) (c : Nat) : 0x08001000 ≤ s.traceAddr c := by
  unfold State.traceAddr bilberryAddr
  split <;> omega

theorem State.traceRaw_via (s : State) (bytes : List Nat) : Via 9007199388958720 s (State.traceRaw s bytes) := by
  unfold State.traceRaw
  exact Via.then (State.updTrc_via ..) (by decide +kernel) (.write _ _ (by decide +kernel) (traceAddr_high _ _) (.refl _))

theorem State.tracePut_via (s : State) (ct sync typ fields : Nat) (payload : List Nat) : Via 9289773911507456 s (State.tracePut s ct sync typ fields payload) := by
  unfold State.tracePut
  repeat' first
    | with_reducible exact Via.refl _
    | with_reducible assumption
    | decide +kernel
    | (intro x; refine Via.cutLet (m := 9289773911507456) (s := s) (t := x) ?_ ?_)
    | (refine fun hx => ?_; clear_value x)
    | intro x
    | lift_lets
    | with_reducible apply Via.ite
    | with_reducible apply Via.then (State.traceWrap_via ..)
    | with_reducible apply Via.then (State.traceRaw_via ..)
    | with_reducible apply Via.then (State.updTrc_via ..)
    | split
    | (dsimp only [x]; split)
    | (dsimp +zetaDelta only; split)
    | (dsimp only)

theorem State.traceDrop_via (s : State) (ct sync : Nat) : Via 9007199255396352 s (State.traceDrop s ct sync) := by
  unfold State.traceDrop
  repeat' first
    | with_reducible exact Via.refl _
    | with_reducible assumption
    | decide +kernel
    | (intro x; refine Via.cutLet (m := 9007199255396352) (s := s) (t := x) ?_ ?_)
    | (refine fun hx => ?_; clear_value x)
    | intro x
    | lift_lets
    | with_reducible apply Via.put
    | with_reducible apply Via.incr
    | with_reducible apply Via.ite
    | with_reducible apply Via.then (State.updTrc_via ..)
    | with_reducible apply Via.then (State.irq_via ..)
    | split
    | (dsimp only [x]; split)
    | (dsimp +zetaDelta only; split)
    | (dsimp only)

theorem State.traceDropRecord_via (s : State) : Via 9289773911507456 s (State.traceDropRecord s) := by
  unfold State.traceDropRecord
  repeat' first
    | with_reducible exact Via.refl _
    | with_reducible assumption
    | decide +kernel
    | (intro x; refine Via.cutLet (m := 9289773911507456) (s := s) (t := x) ?_ ?_)
    | (refine fun hx => ?_; clear_value x)
    | intro x
    | lift_lets
    | with_reducible apply Via.put
    | with_reducible apply Via.ite
    | with_reducible apply Via.then (State.tracePut_via ..)
    | with_reducible apply Via.then (State.updTrc_via ..)
    | split
    | (dsimp only [x]; split)
    | (dsimp +zetaDelta only; split)
    | (dsimp only)

theorem State.traceClose_via (s : State) (q : TraceHalt) : Via 9289773911507456 s (State.traceClose s q) := by
  unfold State.traceClose
  repeat' first
    | with_reducible exact Via.refl _
    | with_reducible assumption
    | decide +kernel
    | (intro x; refine Via.cutLet (m := 9289773911507456) (s := s) (t := x) ?_ ?_)
    | (refine fun hx => ?_; clear_value x)
    | intro x
    | lift_lets
    | with_reducible apply Via.then (State.traceDropRecord_via ..)
    | with_reducible apply Via.then (State.tracePut_via ..)
    | with_reducible apply Via.then (State.updTrc_via ..)
    | split
    | (dsimp only [x]; split)
    | (dsimp +zetaDelta only; split)
    | (dsimp only)

theorem State.traceStop_via (s : State) (cause : Nat) : Via 9289773911507456 s (State.traceStop s cause) := by
  unfold State.traceStop
  repeat' first
    | with_reducible exact Via.refl _
    | with_reducible assumption
    | decide +kernel
    | (intro x; refine Via.cutLet (m := 9289773911507456) (s := s) (t := x) ?_ ?_)
    | (refine fun hx => ?_; clear_value x)
    | intro x
    | lift_lets
    | with_reducible apply Via.setFld
    | with_reducible apply Via.put
    | with_reducible apply Via.ite
    | with_reducible apply Via.then (State.traceClose_via ..)
    | with_reducible apply Via.then (State.updTrc_via ..)
    | with_reducible apply Via.then (State.notice_via ..)
    | with_reducible apply Via.then (State.irq_via ..)
    | (dsimp +zetaDelta only []; split <;> decide +kernel)
    | (split <;> decide +kernel)
    | split
    | (dsimp only [x]; split)
    | (dsimp +zetaDelta only; split)
    | (dsimp only)

theorem State.traceRecord_via (s : State) (room : Bool) (ct sync typ fields : Nat) (payload : List Nat) : Via 9289773911507456 s (State.traceRecord s room ct sync typ fields payload) := by
  unfold State.traceRecord
  repeat' first
    | with_reducible exact Via.refl _
    | with_reducible assumption
    | decide +kernel
    | (intro x; refine Via.cutLet (m := 9289773911507456) (s := s) (t := x) ?_ ?_)
    | (refine fun hx => ?_; clear_value x)
    | intro x
    | with_reducible apply Via.ite
    | with_reducible apply Via.then (State.traceDropRecord_via ..)
    | with_reducible apply Via.then (State.traceDrop_via ..)
    | with_reducible apply Via.then (State.traceStop_via ..)
    | with_reducible apply Via.then (State.tracePut_via ..)
    | split
    | (dsimp only [x]; split)
    | (dsimp +zetaDelta only; split)
    | (dsimp only)

theorem State.traceNow_via (s : State) (typ fields : Nat) (payload : List Nat) : Via 9289773911507456 s (State.traceNow s typ fields payload) := by
  unfold State.traceNow
  repeat' first
    | with_reducible exact Via.refl _
    | with_reducible assumption
    | decide +kernel
    | (intro x; refine Via.cutLet (m := 9289773911507456) (s := s) (t := x) ?_ ?_)
    | (refine fun hx => ?_; clear_value x)
    | intro x
    | with_reducible apply Via.then (State.traceRecord_via ..)
    | split
    | (dsimp only [x]; split)
    | (dsimp +zetaDelta only; split)
    | (dsimp only)

theorem State.traceLate_via (s : State) (q : TraceHalt) (room : Bool) (ct sync fields : Nat) (payload : List Nat) : Via 9289773911507456 s (State.traceLate s q room ct sync fields payload) := by
  unfold State.traceLate
  repeat' first
    | with_reducible exact Via.refl _
    | with_reducible assumption
    | decide +kernel
    | (intro x; refine Via.cutLet (m := 9289773911507456) (s := s) (t := x) ?_ ?_)
    | (refine fun hx => ?_; clear_value x)
    | intro x
    | lift_lets
    | with_reducible apply Via.ite
    | with_reducible apply Via.then (State.traceDropRecord_via ..)
    | with_reducible apply Via.then (State.traceClose_via ..)
    | with_reducible apply Via.then (State.traceDrop_via ..)
    | with_reducible apply Via.then (State.tracePut_via ..)
    | with_reducible apply Via.then (State.updTrc_via ..)
    | split
    | (dsimp only [x]; split)
    | (dsimp +zetaDelta only; split)
    | (dsimp only)

theorem State.traceSuppressed_via (s : State) (kind a b : Nat) : Via 288230376160100352 s (State.traceSuppressed s kind a b) := by
  unfold State.traceSuppressed
  repeat' first
    | with_reducible exact Via.refl _
    | with_reducible assumption
    | decide +kernel
    | (intro x; refine Via.cutLet (m := 288230376160100352) (s := s) (t := x) ?_ ?_)
    | (refine fun hx => ?_; clear_value x)
    | intro x
    | with_reducible apply Via.then (State.logOther_via ..)
    | split
    | (dsimp only [x]; split)
    | (dsimp +zetaDelta only; split)
    | (dsimp only)

theorem State.traceStart_via (s : State) (cause : Nat) : Via 297520150071607808 s (State.traceStart s cause) := by
  unfold State.traceStart
  repeat' first
    | with_reducible exact Via.refl _
    | with_reducible assumption
    | decide +kernel
    | (intro x; refine Via.cutLet (m := 297520150071607808) (s := s) (t := x) ?_ ?_)
    | (refine fun hx => ?_; clear_value x)
    | intro x
    | lift_lets
    | with_reducible apply Via.setFld
    | with_reducible apply Via.put
    | with_reducible apply Via.incr
    | with_reducible apply Via.ite
    | with_reducible apply Via.then (State.traceSuppressed_via ..)
    | with_reducible apply Via.then (State.traceNow_via ..)
    | with_reducible apply Via.then (State.updTrc_via ..)
    | split
    | (dsimp only [x]; split)
    | (dsimp +zetaDelta only; split)
    | (dsimp only)

theorem State.traceTrigger_via (s : State) (cause id : Nat) : Via 297520150071607808 s (State.traceTrigger s cause id) := by
  unfold State.traceTrigger
  repeat' first
    | with_reducible exact Via.refl _
    | with_reducible assumption
    | decide +kernel
    | (intro x; refine Via.cutLet (m := 297520150071607808) (s := s) (t := x) ?_ ?_)
    | (refine fun hx => ?_; clear_value x)
    | intro x
    | lift_lets
    | with_reducible apply Via.setFld
    | with_reducible apply Via.put
    | with_reducible apply Via.incr
    | with_reducible apply Via.ite
    | with_reducible apply Via.then (State.traceSuppressed_via ..)
    | with_reducible apply Via.then (State.traceNow_via ..)
    | with_reducible apply Via.then (State.notice_via ..)
    | with_reducible apply Via.then (State.updTrc_via ..)
    | with_reducible apply Via.then (State.irq_via ..)
    | (dsimp +zetaDelta only []; split <;> decide +kernel)
    | (split <;> decide +kernel)
    | split
    | (dsimp only [x]; split)
    | (dsimp +zetaDelta only; split)
    | (dsimp only)

theorem State.markTriggers_via (s : State) (i value : Nat) : Via 297520150071607808 s (State.markTriggers s i value) := by
  unfold State.markTriggers
  repeat' first
    | with_reducible exact Via.refl _
    | with_reducible assumption
    | decide +kernel
    | (intro x; refine Via.cutLet (m := 297520150071607808) (s := s) (t := x) ?_ ?_)
    | (refine fun hx => ?_; clear_value x)
    | intro x
    | with_reducible apply Via.ite
    | with_reducible apply Via.then (State.traceTrigger_via ..)
    | split
    | (dsimp only [x]; split)
    | (dsimp +zetaDelta only; split)
    | (dsimp only)

theorem State.faultTriggers_via (s : State) (id : Nat) : Via 297520150071607808 s (State.faultTriggers s id) := by
  unfold State.faultTriggers
  repeat' first
    | with_reducible exact Via.refl _
    | with_reducible assumption
    | decide +kernel
    | (intro x; refine Via.cutLet (m := 297520150071607808) (s := s) (t := x) ?_ ?_)
    | (refine fun hx => ?_; clear_value x)
    | intro x
    | lift_lets
    | with_reducible apply Via.ite
    | with_reducible apply Via.then (State.traceTrigger_via ..)
    | split
    | (dsimp only [x]; split)
    | (dsimp +zetaDelta only; split)
    | (dsimp only)

theorem State.traceMark_via (s : State) (entry : Nat) (launch : Bool) (tag value launched suppressed code : Nat) : Via 297520150071607808 s (State.traceMark s entry launch tag value launched suppressed code) := by
  unfold State.traceMark
  repeat' first
    | with_reducible exact Via.refl _
    | with_reducible assumption
    | decide +kernel
    | (intro x; refine Via.cutLet (m := 297520150071607808) (s := s) (t := x) ?_ ?_)
    | (refine fun hx => ?_; clear_value x)
    | intro x
    | with_reducible apply Via.ite
    | with_reducible apply Via.then (State.traceSuppressed_via ..)
    | with_reducible apply Via.then (State.traceNow_via ..)
    | split
    | (dsimp only [x]; split)
    | (dsimp +zetaDelta only; split)
    | (dsimp only)

theorem State.traceClear_via (s : State) : Via 9007199254872064 s (State.traceClear s) := by
  unfold State.traceClear
  repeat' first
    | with_reducible exact Via.refl _
    | with_reducible assumption
    | decide +kernel
    | (intro x; refine Via.cutLet (m := 9007199254872064) (s := s) (t := x) ?_ ?_)
    | (refine fun hx => ?_; clear_value x)
    | intro x
    | lift_lets
    | with_reducible apply Via.setFld
    | with_reducible apply Via.put
    | with_reducible apply Via.ite
    | with_reducible apply Via.then (State.updTrc_via ..)
    | split
    | (dsimp only [x]; split)
    | (dsimp +zetaDelta only; split)
    | (dsimp only)

theorem State.filterChanged_via (s : State) (g : FilterGroup) : Via 9007199254740992 s (State.filterChanged s g) := by
  unfold State.filterChanged
  repeat' first
    | with_reducible exact Via.refl _
    | with_reducible assumption
    | decide +kernel
    | (intro x; refine Via.cutLet (m := 9007199254740992) (s := s) (t := x) ?_ ?_)
    | (refine fun hx => ?_; clear_value x)
    | intro x
    | with_reducible apply Via.ite
    | with_reducible apply Via.then (State.updTrc_via ..)
    | split
    | (dsimp only [x]; split)
    | (dsimp +zetaDelta only; split)
    | (dsimp only)

theorem State.syncLeft_via (s : State) : Via 9007199254740992 s (State.syncLeft s) := by
  unfold State.syncLeft
  repeat' first
    | with_reducible exact Via.refl _
    | with_reducible assumption
    | decide +kernel
    | (intro x; refine Via.cutLet (m := 9007199254740992) (s := s) (t := x) ?_ ?_)
    | (refine fun hx => ?_; clear_value x)
    | intro x
    | with_reducible apply Via.ite
    | with_reducible apply Via.then (State.updTrc_via ..)
    | split
    | (dsimp only [x]; split)
    | (dsimp +zetaDelta only; split)
    | (dsimp only)

theorem State.traceFixed_via (s : State) (c one two : Nat) : Via 393216 s (State.traceFixed s c one two) := by
  unfold State.traceFixed
  repeat' first
    | with_reducible exact Via.refl _
    | with_reducible assumption
    | decide +kernel
    | (intro x; refine Via.cutLet (m := 393216) (s := s) (t := x) ?_ ?_)
    | (refine fun hx => ?_; clear_value x)
    | intro x
    | lift_lets
    | with_reducible apply Via.add
    | with_reducible apply Via.ite
    | split
    | (dsimp only [x]; split)
    | (dsimp +zetaDelta only; split)
    | (dsimp only)

theorem State.exported_via (s : State) (x : Transfer) : Via 9007199254872064 s (State.exported s x) := by
  unfold State.exported
  repeat' first
    | with_reducible exact Via.refl _
    | with_reducible assumption
    | decide +kernel
    | (intro x; refine Via.cutLet (m := 9007199254872064) (s := s) (t := x) ?_ ?_)
    | (refine fun hx => ?_; clear_value x)
    | intro x
    | lift_lets
    | with_reducible apply Via.add
    | with_reducible apply Via.then (State.updTrc_via ..)
    | split
    | (dsimp only [x]; split)
    | (dsimp +zetaDelta only; split)
    | (dsimp only)

end Sys2Proof.Machine
end

