-- ==== Sys2Proof/Laws/ViaChord.lean ====
section
/-! SUPPORT. What each operation of Machine/Chord.lean can do to the state (see Laws/Via.lean). -/

namespace Sys2Proof.Machine

set_option linter.unusedTactic false
set_option linter.unreachableTactic false
set_option linter.unusedSimpArgs false
set_option linter.unusedVariables false

set_option Elab.async false

theorem State.updChord_via (s : State) (f : ChordHw → ChordHw) : Via 562949953421312 s (State.updChord s f) := by
  unfold State.updChord
  repeat' first
    | with_reducible exact Via.refl _
    | with_reducible assumption
    | decide +kernel
    | (intro x; refine Via.cutLet (m := 562949953421312) (s := s) (t := x) ?_ ?_)
    | (refine fun hx => ?_; clear_value x)
    | intro x
    | split
    | (dsimp only [x]; split)
    | (dsimp +zetaDelta only; split)
    | with_reducible apply Via.set_chord
    | (dsimp only)

theorem State.updLink_via (s : State) (l : Nat) (f : ChordLink → ChordLink) : Via 1125899906842624 s (State.updLink s l f) := by
  unfold State.updLink
  repeat' first
    | with_reducible exact Via.refl _
    | with_reducible assumption
    | decide +kernel
    | (intro x; refine Via.cutLet (m := 1125899906842624) (s := s) (t := x) ?_ ?_)
    | (refine fun hx => ?_; clear_value x)
    | intro x
    | split
    | (dsimp only [x]; split)
    | (dsimp +zetaDelta only; split)
    | with_reducible apply Via.set_links
    | (dsimp only)

theorem State.recRefresh_via (s : State) (l st : Nat) : Via 1 s (State.recRefresh s l st) := by
  unfold State.recRefresh
  repeat' first
    | with_reducible exact Via.refl _
    | with_reducible assumption
    | decide +kernel
    | (intro x; refine Via.cutLet (m := 1) (s := s) (t := x) ?_ ?_)
    | (refine fun hx => ?_; clear_value x)
    | intro x
    | lift_lets
    | with_reducible apply Via.put
    | with_reducible apply Via.ite
    | split
    | (dsimp only [x]; split)
    | (dsimp +zetaDelta only; split)
    | (dsimp only)

theorem State.setLink_via (s : State) (l st : Nat) : Via 557057 s (State.setLink s l st) := by
  unfold State.setLink
  repeat' first
    | with_reducible exact Via.refl _
    | with_reducible assumption
    | decide +kernel
    | (intro x; refine Via.cutLet (m := 557057) (s := s) (t := x) ?_ ?_)
    | (refine fun hx => ?_; clear_value x)
    | intro x
    | with_reducible apply Via.setFld
    | with_reducible apply Via.then (State.recRefresh_via ..)
    | with_reducible apply Via.then (State.irq_via ..)
    | split
    | (dsimp only [x]; split)
    | (dsimp +zetaDelta only; split)
    | (dsimp only)

theorem State.chordSend_via (s : State) (m : ChordOut) : Via 562949953421312 s (State.chordSend s m) := by
  unfold State.chordSend
  repeat' first
    | with_reducible exact Via.refl _
    | with_reducible assumption
    | decide +kernel
    | (intro x; refine Via.cutLet (m := 562949953421312) (s := s) (t := x) ?_ ?_)
    | (refine fun hx => ?_; clear_value x)
    | intro x
    | with_reducible apply Via.then (State.updChord_via ..)
    | split
    | (dsimp only [x]; split)
    | (dsimp +zetaDelta only; split)
    | (dsimp only)

theorem State.chordHush_via (s : State) : Via 562949953421312 s (State.chordHush s) := by
  unfold State.chordHush
  repeat' first
    | with_reducible exact Via.refl _
    | with_reducible assumption
    | decide +kernel
    | (intro x; refine Via.cutLet (m := 562949953421312) (s := s) (t := x) ?_ ?_)
    | (refine fun hx => ?_; clear_value x)
    | intro x
    | with_reducible apply Via.then (State.updChord_via ..)
    | split
    | (dsimp only [x]; split)
    | (dsimp +zetaDelta only; split)
    | (dsimp only)

theorem State.setSync_via (s : State) (n : Nat) : Via 297520149937291776 s (State.setSync s n) := by
  unfold State.setSync
  repeat' first
    | with_reducible exact Via.refl _
    | with_reducible assumption
    | decide +kernel
    | (intro x; refine Via.cutLet (m := 297520149937291776) (s := s) (t := x) ?_ ?_)
    | (refine fun hx => ?_; clear_value x)
    | intro x
    | with_reducible apply Via.setFld
    | with_reducible apply Via.ite
    | with_reducible apply Via.then (State.syncLeft_via ..)
    | with_reducible apply Via.then (State.logTime_via ..)
    | with_reducible apply Via.then (State.notice_via ..)
    | with_reducible apply Via.then (State.irq_via ..)
    | split
    | (dsimp only [x]; split)
    | (dsimp +zetaDelta only; split)
    | (dsimp only)

theorem State.sendIdent_via (s : State) (l : Nat) : Via 562949953421312 s (State.sendIdent s l) := by
  unfold State.sendIdent
  repeat' first
    | with_reducible exact Via.refl _
    | with_reducible assumption
    | decide +kernel
    | (intro x; refine Via.cutLet (m := 562949953421312) (s := s) (t := x) ?_ ?_)
    | (refine fun hx => ?_; clear_value x)
    | intro x
    | lift_lets
    | with_reducible apply Via.ite
    | with_reducible apply Via.then (State.chordSend_via ..)
    | (dsimp +zetaDelta only []; split <;> decide +kernel)
    | (split <;> decide +kernel)
    | split
    | (dsimp only [x]; split)
    | (dsimp +zetaDelta only; split)
    | (dsimp only)

theorem State.identAgain_via (s : State) (l : List Nat) : Via 562949953421312 s (State.identAgain s l) := by
  unfold State.identAgain
  repeat' first
    | with_reducible exact Via.refl _
    | with_reducible assumption
    | decide +kernel
    | (intro x; refine Via.cutLet (m := 562949953421312) (s := s) (t := x) ?_ ?_)
    | (refine fun hx => ?_; clear_value x)
    | intro x
    | with_reducible apply Via.then (State.sendIdent_via ..)
    | (with_reducible refine Via.each _ _ (fun s _ => ?_) ?_)
    | split
    | (dsimp only [x]; split)
    | (dsimp +zetaDelta only; split)
    | (dsimp only)

theorem State.autoRanges_via (s : State) : Via 32768 s (State.autoRanges s) := by
  unfold State.autoRanges
  repeat' first
    | with_reducible exact Via.refl _
    | with_reducible assumption
    | decide +kernel
    | (intro x; refine Via.cutLet (m := 32768) (s := s) (t := x) ?_ ?_)
    | (refine fun hx => ?_; clear_value x)
    | intro x
    | lift_lets
    | with_reducible apply Via.setFld
    | with_reducible apply Via.ite
    | (with_reducible refine Via.each _ _ (fun s _ => ?_) ?_)
    | (dsimp +zetaDelta only []; split <;> decide +kernel)
    | (split <;> decide +kernel)
    | split
    | (dsimp only [x]; split)
    | (dsimp +zetaDelta only; split)
    | (dsimp only)

theorem State.setRange_via (s : State) (lo hi : Nat) : Via 562949953454080 s (State.setRange s lo hi) := by
  unfold State.setRange
  repeat' first
    | with_reducible exact Via.refl _
    | with_reducible assumption
    | decide +kernel
    | (intro x; refine Via.cutLet (m := 562949953454080) (s := s) (t := x) ?_ ?_)
    | (refine fun hx => ?_; clear_value x)
    | intro x
    | lift_lets
    | with_reducible apply Via.setFld
    | with_reducible apply Via.put
    | with_reducible apply Via.ite
    | with_reducible apply Via.then (State.identAgain_via ..)
    | with_reducible apply Via.then (State.autoRanges_via ..)
    | (dsimp +zetaDelta only []; split <;> decide +kernel)
    | (split <;> decide +kernel)
    | split
    | (dsimp only [x]; split)
    | (dsimp +zetaDelta only; split)
    | (dsimp only)

theorem State.apexRange_via (s : State) : Via 32768 s (State.apexRange s) := by
  unfold State.apexRange
  repeat' first
    | with_reducible exact Via.refl _
    | with_reducible assumption
    | decide +kernel
    | (intro x; refine Via.cutLet (m := 32768) (s := s) (t := x) ?_ ?_)
    | (refine fun hx => ?_; clear_value x)
    | intro x
    | lift_lets
    | with_reducible apply Via.setFld
    | with_reducible apply Via.put
    | with_reducible apply Via.ite
    | with_reducible apply Via.then (State.autoRanges_via ..)
    | split
    | (dsimp only [x]; split)
    | (dsimp +zetaDelta only; split)
    | (dsimp only)

theorem execRangeChange_via (lo hi : Nat) (s : State) : ∃ t, execRangeChange lo hi s = .next t ∧ Via 562949953454080 s t := by
  refine ⟨_, rfl, ?_⟩
  repeat' first
    | with_reducible exact Via.refl _
    | with_reducible assumption
    | decide +kernel
    | (intro x; refine Via.cutLet (m := 562949953454080) (s := s) (t := x) ?_ ?_)
    | (refine fun hx => ?_; clear_value x)
    | intro x
    | with_reducible apply Via.ite
    | with_reducible apply Via.then (State.chordHush_via ..)
    | with_reducible apply Via.then (State.setRange_via ..)
    | split
    | (dsimp only [x]; split)
    | (dsimp +zetaDelta only; split)
    | (dsimp only)

theorem execChordSignalDetect_via (l : Nat) (s : State) : ∃ t, execChordSignalDetect l s = .next t ∧ Via 557057 s t := by
  refine ⟨_, rfl, ?_⟩
  repeat' first
    | with_reducible exact Via.refl _
    | with_reducible assumption
    | decide +kernel
    | (intro x; refine Via.cutLet (m := 557057) (s := s) (t := x) ?_ ?_)
    | (refine fun hx => ?_; clear_value x)
    | intro x
    | with_reducible apply Via.ite
    | with_reducible apply Via.then (State.setLink_via ..)
    | split
    | (dsimp only [x]; split)
    | (dsimp +zetaDelta only; split)
    | (dsimp only)

theorem execChordTrained_via (l : Nat) (s : State) : ∃ t, execChordTrained l s = .next t ∧ Via 562949953978369 s t := by
  refine ⟨_, rfl, ?_⟩
  repeat' first
    | with_reducible exact Via.refl _
    | with_reducible assumption
    | decide +kernel
    | (intro x; refine Via.cutLet (m := 562949953978369) (s := s) (t := x) ?_ ?_)
    | (refine fun hx => ?_; clear_value x)
    | intro x
    | with_reducible apply Via.ite
    | with_reducible apply Via.then (State.chordHush_via ..)
    | with_reducible apply Via.then (State.sendIdent_via ..)
    | with_reducible apply Via.then (State.setLink_via ..)
    | split
    | (dsimp only [x]; split)
    | (dsimp +zetaDelta only; split)
    | (dsimp only)

theorem execChordIdent_via (l : Nat) (peerApex peerUp peerHold : Bool) (depth sync addr lo hi : Nat) (s : State) : ∃ t, execChordIdent l peerApex peerUp peerHold depth sync addr lo hi s = .next t ∧ Via 1688849860820993 s t := by
  refine ⟨_, rfl, ?_⟩
  repeat' first
    | with_reducible exact Via.refl _
    | with_reducible assumption
    | decide +kernel
    | (intro x; refine Via.cutLet (m := 1688849860820993) (s := s) (t := x) ?_ ?_)
    | (refine fun hx => ?_; clear_value x)
    | intro x
    | lift_lets
    | with_reducible apply Via.setFld
    | with_reducible apply Via.ite
    | with_reducible apply Via.then (State.updChord_via ..)
    | with_reducible apply Via.then (State.setLink_via ..)
    | with_reducible apply Via.then (State.updLink_via ..)
    | (dsimp +zetaDelta only []; split <;> decide +kernel)
    | (split <;> decide +kernel)
    | split
    | (dsimp only [x]; split)
    | (dsimp +zetaDelta only; split)
    | (dsimp only)

theorem execChordIdentRetry_via (l : Nat) (s : State) : ∃ t, execChordIdentRetry l s = .next t ∧ Via 557057 s t := by
  refine ⟨_, rfl, ?_⟩
  repeat' first
    | with_reducible exact Via.refl _
    | with_reducible assumption
    | decide +kernel
    | (intro x; refine Via.cutLet (m := 557057) (s := s) (t := x) ?_ ?_)
    | (refine fun hx => ?_; clear_value x)
    | intro x
    | with_reducible apply Via.ite
    | with_reducible apply Via.then (State.setLink_via ..)
    | split
    | (dsimp only [x]; split)
    | (dsimp +zetaDelta only; split)
    | (dsimp only)

theorem State.upTaken_via (s : State) (l : Nat) : Via 562949953454080 s (State.upTaken s l) := by
  unfold State.upTaken
  repeat' first
    | with_reducible exact Via.refl _
    | with_reducible assumption
    | decide +kernel
    | (intro x; refine Via.cutLet (m := 562949953454080) (s := s) (t := x) ?_ ?_)
    | (refine fun hx => ?_; clear_value x)
    | intro x
    | lift_lets
    | with_reducible apply Via.setFld
    | with_reducible apply Via.put
    | with_reducible apply Via.then (State.updChord_via ..)
    | with_reducible apply Via.then (State.setRange_via ..)
    | split
    | (dsimp only [x]; split)
    | (dsimp +zetaDelta only; split)
    | (dsimp only)

theorem State.adoptRemove_via (s : State) (j : Nat) : Via 562949953454080 s (State.adoptRemove s j) := by
  unfold State.adoptRemove
  repeat' first
    | with_reducible exact Via.refl _
    | with_reducible assumption
    | decide +kernel
    | (intro x; refine Via.cutLet (m := 562949953454080) (s := s) (t := x) ?_ ?_)
    | (refine fun hx => ?_; clear_value x)
    | intro x
    | lift_lets
    | with_reducible apply Via.setFld
    | with_reducible apply Via.put
    | with_reducible apply Via.ite
    | with_reducible apply Via.then (State.chordSend_via ..)
    | split
    | (dsimp only [x]; split)
    | (dsimp +zetaDelta only; split)
    | (dsimp only)

theorem State.linkFail_via (s : State) (l : Nat) : Via 145804037936676865 s (State.linkFail s l) := by
  unfold State.linkFail
  repeat' first
    | with_reducible exact Via.refl _
    | with_reducible assumption
    | decide +kernel
    | (intro x; refine Via.cutLet (m := 145804037936676865) (s := s) (t := x) ?_ ?_)
    | (refine fun hx => ?_; clear_value x)
    | intro x
    | lift_lets
    | with_reducible apply Via.setFld
    | with_reducible apply Via.incr
    | with_reducible apply Via.ite
    | with_reducible apply Via.then (State.adoptRemove_via ..)
    | with_reducible apply Via.then (State.updChord_via ..)
    | with_reducible apply Via.then (State.updLink_via ..)
    | with_reducible apply Via.then (State.setLink_via ..)
    | with_reducible apply Via.then (State.raise_via ..)
    | (with_reducible refine Via.each _ _ (fun s _ => ?_) ?_)
    | split
    | (dsimp only [x]; split)
    | (dsimp +zetaDelta only; split)
    | (dsimp only)

theorem execChordMeasureDone_via (l : Nat) (s : State) : ∃ t, execChordMeasureDone l s = .next t ∧ Via 145804037936676865 s t := by
  refine ⟨_, rfl, ?_⟩
  repeat' first
    | with_reducible exact Via.refl _
    | with_reducible assumption
    | decide +kernel
    | (intro x; refine Via.cutLet (m := 145804037936676865) (s := s) (t := x) ?_ ?_)
    | (refine fun hx => ?_; clear_value x)
    | intro x
    | with_reducible apply Via.ite
    | with_reducible apply Via.then (State.chordHush_via ..)
    | with_reducible apply Via.then (State.linkFail_via ..)
    | with_reducible apply Via.then (State.upTaken_via ..)
    | with_reducible apply Via.then (State.setLink_via ..)
    | split
    | (dsimp only [x]; split)
    | (dsimp +zetaDelta only; split)
    | (dsimp only)

theorem execChordLinkFail_via (l cause : Nat) (s : State) : ∃ t, execChordLinkFail l cause s = .next t ∧ Via 145804037936676865 s t := by
  refine ⟨_, rfl, ?_⟩
  repeat' first
    | with_reducible exact Via.refl _
    | with_reducible assumption
    | decide +kernel
    | (intro x; refine Via.cutLet (m := 145804037936676865) (s := s) (t := x) ?_ ?_)
    | (refine fun hx => ?_; clear_value x)
    | intro x
    | lift_lets
    | with_reducible apply Via.add
    | with_reducible apply Via.ite
    | with_reducible apply Via.then (State.chordHush_via ..)
    | with_reducible apply Via.then (State.linkFail_via ..)
    | (dsimp +zetaDelta only []; split <;> decide +kernel)
    | (split <;> decide +kernel)
    | split
    | (dsimp only [x]; split)
    | (dsimp +zetaDelta only; split)
    | (dsimp only)

theorem State.linkEnable_via (s : State) (l : Nat) (b : Bool) : Via 145804037936676865 s (State.linkEnable s l b) := by
  unfold State.linkEnable
  repeat' first
    | with_reducible exact Via.refl _
    | with_reducible assumption
    | decide +kernel
    | (intro x; refine Via.cutLet (m := 145804037936676865) (s := s) (t := x) ?_ ?_)
    | (refine fun hx => ?_; clear_value x)
    | intro x
    | lift_lets
    | with_reducible apply Via.put
    | with_reducible apply Via.ite
    | with_reducible apply Via.then (State.linkFail_via ..)
    | split
    | (dsimp only [x]; split)
    | (dsimp +zetaDelta only; split)
    | (dsimp only)

theorem State.ctStep_via (s : State) (sync : Nat) (n : Int) : Via 297800526979432448 s (State.ctStep s sync n) := by
  unfold State.ctStep
  repeat' first
    | with_reducible exact Via.refl _
    | with_reducible assumption
    | decide +kernel
    | (intro x; refine Via.cutLet (m := 297800526979432448) (s := s) (t := x) ?_ ?_)
    | (refine fun hx => ?_; clear_value x)
    | intro x
    | lift_lets
    | with_reducible apply Via.incr
    | with_reducible apply Via.then (State.updChord_via ..)
    | with_reducible apply Via.then (State.logAs_via ..)
    | with_reducible apply Via.then (State.irq_via ..)
    | split
    | (dsimp only [x]; split)
    | (dsimp +zetaDelta only; split)
    | with_reducible apply Via.set_ct_power
    | with_reducible apply Via.set_ct_power_trc
    | with_reducible apply Via.set_ct
    | with_reducible apply Via.set_power
    | with_reducible apply Via.set_trc
    | (dsimp only)

theorem State.markerDue_via (s : State) : Via 298083101501325826 s (State.markerDue s) := by
  unfold State.markerDue
  repeat' first
    | with_reducible exact Via.refl _
    | with_reducible assumption
    | decide +kernel
    | (intro g; refine Via.cutFun (m := 298083101501325826) (g := g) (fun s => ?_) ?_; on_goal 1 => dsimp only [g])
    | (intro g; refine Via.cutFunTwo (m := 298083101501325826) (g := g) (fun s _ => ?_) ?_; on_goal 1 => dsimp only [g])
    | (refine fun hg => ?_; clear_value g)
    | (refine Via.trans ?_ (hg ..))
    | (intro x; refine Via.cutLet (m := 298083101501325826) (s := s) (t := x) ?_ ?_)
    | (refine fun hx => ?_; clear_value x)
    | intro x
    | lift_lets
    | with_reducible apply Via.setFld64
    | with_reducible apply Via.put
    | with_reducible apply Via.ite
    | with_reducible apply Via.then (State.updChord_via ..)
    | with_reducible apply Via.then (State.logTime_via ..)
    | with_reducible apply Via.then (State.setSync_via ..)
    | with_reducible apply Via.then (State.ctStep_via ..)
    | (dsimp +zetaDelta only []; split <;> decide +kernel)
    | (split <;> decide +kernel)
    | split
    | (dsimp only [x]; split)
    | (dsimp +zetaDelta only; split)
    | (dsimp only)

theorem execDelayExchange_via (l : Nat) (t1 t2 t3 t4 : Int) (s : State) : ∃ t, execDelayExchange l t1 t2 t3 t4 s = .next t ∧ Via 1688849860296704 s t := by
  refine ⟨_, rfl, ?_⟩
  repeat' first
    | with_reducible exact Via.refl _
    | with_reducible assumption
    | decide +kernel
    | (intro x; refine Via.cutLet (m := 1688849860296704) (s := s) (t := x) ?_ ?_)
    | (refine fun hx => ?_; clear_value x)
    | intro x
    | lift_lets
    | with_reducible apply Via.setFld
    | with_reducible apply Via.ite
    | with_reducible apply Via.then (State.chordHush_via ..)
    | with_reducible apply Via.then (State.chordSend_via ..)
    | with_reducible apply Via.then (State.updLink_via ..)
    | split
    | (dsimp only [x]; split)
    | (dsimp +zetaDelta only; split)
    | (dsimp only)

theorem State.offsetsGone_via (s : State) (l : Nat) : Via 1125899906875392 s (State.offsetsGone s l) := by
  unfold State.offsetsGone
  repeat' first
    | with_reducible exact Via.refl _
    | with_reducible assumption
    | decide +kernel
    | (intro x; refine Via.cutLet (m := 1125899906875392) (s := s) (t := x) ?_ ?_)
    | (refine fun hx => ?_; clear_value x)
    | intro x
    | with_reducible apply Via.setFld
    | with_reducible apply Via.then (State.updLink_via ..)
    | split
    | (dsimp only [x]; split)
    | (dsimp +zetaDelta only; split)
    | (dsimp only)

theorem execCtCorrection_via (s : State) : ∃ t, execCtCorrection s = .next t ∧ Via 298926426886275072 s t := by
  refine ⟨_, rfl, ?_⟩
  repeat' first
    | with_reducible exact Via.refl _
    | with_reducible assumption
    | decide +kernel
    | (intro x; refine Via.cutLet (m := 298926426886275072) (s := s) (t := x) ?_ ?_)
    | (refine fun hx => ?_; clear_value x)
    | intro x
    | lift_lets
    | with_reducible apply Via.ite
    | with_reducible apply Via.then (State.offsetsGone_via ..)
    | with_reducible apply Via.then (State.updChord_via ..)
    | with_reducible apply Via.then (State.ctStep_via ..)
    | (dsimp +zetaDelta only []; split <;> decide +kernel)
    | (split <;> decide +kernel)
    | split
    | (dsimp only [x]; split)
    | (dsimp +zetaDelta only; split)
    | (dsimp only)

theorem execChordLock_via (s : State) : ∃ t, execChordLock s = .next t ∧ Via 298083100964454914 s t := by
  refine ⟨_, rfl, ?_⟩
  repeat' first
    | with_reducible exact Via.refl _
    | with_reducible assumption
    | decide +kernel
    | (intro x; refine Via.cutLet (m := 298083100964454914) (s := s) (t := x) ?_ ?_)
    | (refine fun hx => ?_; clear_value x)
    | intro x
    | lift_lets
    | with_reducible apply Via.put
    | with_reducible apply Via.ite
    | with_reducible apply Via.then (State.updChord_via ..)
    | with_reducible apply Via.then (State.setSync_via ..)
    | split
    | (dsimp only [x]; split)
    | (dsimp +zetaDelta only; split)
    | with_reducible apply Via.set_power
    | (dsimp only)

theorem execApexLock_via (s : State) : ∃ t, execApexLock s = .next t ∧ Via 297520149937291776 s t := by
  refine ⟨_, rfl, ?_⟩
  repeat' first
    | with_reducible exact Via.refl _
    | with_reducible assumption
    | decide +kernel
    | (intro x; refine Via.cutLet (m := 297520149937291776) (s := s) (t := x) ?_ ?_)
    | (refine fun hx => ?_; clear_value x)
    | intro x
    | with_reducible apply Via.ite
    | with_reducible apply Via.then (State.setSync_via ..)
    | split
    | (dsimp only [x]; split)
    | (dsimp +zetaDelta only; split)
    | (dsimp only)

theorem execHoldoverStart_via (s : State) : ∃ t, execHoldoverStart s = .next t ∧ Via 562949953454081 s t := by
  refine ⟨_, rfl, ?_⟩
  repeat' first
    | with_reducible exact Via.refl _
    | with_reducible assumption
    | decide +kernel
    | (intro x; refine Via.cutLet (m := 562949953454081) (s := s) (t := x) ?_ ?_)
    | (refine fun hx => ?_; clear_value x)
    | intro x
    | lift_lets
    | with_reducible apply Via.put
    | with_reducible apply Via.ite
    | with_reducible apply Via.then (State.updChord_via ..)
    | (dsimp +zetaDelta only []; split <;> decide +kernel)
    | (split <;> decide +kernel)
    | split
    | (dsimp only [x]; split)
    | (dsimp +zetaDelta only; split)
    | (dsimp only)

theorem execHoldmaxExpiry_via (s : State) : ∃ t, execHoldmaxExpiry s = .next t ∧ Via 442198287966568960 s t := by
  refine ⟨_, rfl, ?_⟩
  repeat' first
    | with_reducible exact Via.refl _
    | with_reducible assumption
    | decide +kernel
    | (intro x; refine Via.cutLet (m := 442198287966568960) (s := s) (t := x) ?_ ?_)
    | (refine fun hx => ?_; clear_value x)
    | intro x
    | lift_lets
    | with_reducible apply Via.ite
    | with_reducible apply Via.then (State.updChord_via ..)
    | with_reducible apply Via.then (State.setSync_via ..)
    | with_reducible apply Via.then (State.raise_via ..)
    | split
    | (dsimp only [x]; split)
    | (dsimp +zetaDelta only; split)
    | (dsimp only)

theorem State.failTo_via (s : State) (l : Nat) : Via 289075900635972097 s (State.failTo s l) := by
  unfold State.failTo
  repeat' first
    | with_reducible exact Via.refl _
    | with_reducible assumption
    | decide +kernel
    | (intro x; refine Via.cutLet (m := 289075900635972097) (s := s) (t := x) ?_ ?_)
    | (refine fun hx => ?_; clear_value x)
    | intro x
    | lift_lets
    | with_reducible apply Via.setFld
    | with_reducible apply Via.put
    | with_reducible apply Via.incr
    | with_reducible apply Via.ite
    | with_reducible apply Via.then (State.chordSend_via ..)
    | with_reducible apply Via.then (State.updChord_via ..)
    | with_reducible apply Via.then (State.setLink_via ..)
    | with_reducible apply Via.then (State.logTime_via ..)
    | with_reducible apply Via.then (State.notice_via ..)
    | with_reducible apply Via.then (State.irq_via ..)
    | (dsimp +zetaDelta only []; split <;> decide +kernel)
    | (split <;> decide +kernel)
    | split
    | (dsimp only [x]; split)
    | (dsimp +zetaDelta only; split)
    | (dsimp only)

theorem execFailover_via (s : State) : ∃ t, execFailover s = .next t ∧ Via 289075900635972097 s t := by
  refine ⟨_, rfl, ?_⟩
  repeat' first
    | with_reducible exact Via.refl _
    | with_reducible assumption
    | decide +kernel
    | (intro x; refine Via.cutLet (m := 289075900635972097) (s := s) (t := x) ?_ ?_)
    | (refine fun hx => ?_; clear_value x)
    | intro x
    | lift_lets
    | with_reducible apply Via.ite
    | with_reducible apply Via.then (State.chordHush_via ..)
    | with_reducible apply Via.then (State.upTaken_via ..)
    | with_reducible apply Via.then (State.setLink_via ..)
    | with_reducible apply Via.then (State.failTo_via ..)
    | split
    | (dsimp only [x]; split)
    | (dsimp +zetaDelta only; split)
    | (dsimp only)

theorem execRevert_via (s : State) : ∃ t, execRevert s = .next t ∧ Via 289075900635972097 s t := by
  refine ⟨_, rfl, ?_⟩
  repeat' first
    | with_reducible exact Via.refl _
    | with_reducible assumption
    | decide +kernel
    | (intro x; refine Via.cutLet (m := 289075900635972097) (s := s) (t := x) ?_ ?_)
    | (refine fun hx => ?_; clear_value x)
    | intro x
    | with_reducible apply Via.ite
    | with_reducible apply Via.then (State.chordHush_via ..)
    | with_reducible apply Via.then (State.failTo_via ..)
    | split
    | (dsimp only [x]; split)
    | (dsimp +zetaDelta only; split)
    | (dsimp only)

theorem execAdoptFrame_via (l lo hi hops : Nat) (s : State) : ∃ t, execAdoptFrame l lo hi hops s = .next t ∧ Via 288793326113554432 s t := by
  refine ⟨_, rfl, ?_⟩
  repeat' first
    | with_reducible exact Via.refl _
    | with_reducible assumption
    | decide +kernel
    | (intro x; refine Via.cutLet (m := 288793326113554432) (s := s) (t := x) ?_ ?_)
    | (refine fun hx => ?_; clear_value x)
    | intro x
    | lift_lets
    | with_reducible apply Via.setFld
    | with_reducible apply Via.put
    | with_reducible apply Via.ite
    | with_reducible apply Via.then (State.chordHush_via ..)
    | with_reducible apply Via.then (State.chordSend_via ..)
    | with_reducible apply Via.then (State.logTime_via ..)
    | (dsimp +zetaDelta only []; split <;> decide +kernel)
    | (split <;> decide +kernel)
    | split
    | (dsimp only [x]; split)
    | (dsimp +zetaDelta only; split)
    | (dsimp only)

theorem execReleaseFrame_via (l lo hi : Nat) (s : State) : ∃ t, execReleaseFrame l lo hi s = .next t ∧ Via 562949953454080 s t := by
  refine ⟨_, rfl, ?_⟩
  repeat' first
    | with_reducible exact Via.refl _
    | with_reducible assumption
    | decide +kernel
    | (intro x; refine Via.cutLet (m := 562949953454080) (s := s) (t := x) ?_ ?_)
    | (refine fun hx => ?_; clear_value x)
    | intro x
    | with_reducible apply Via.ite
    | with_reducible apply Via.then (State.adoptRemove_via ..)
    | with_reducible apply Via.then (State.chordHush_via ..)
    | (with_reducible refine Via.each _ _ (fun s _ => ?_) ?_)
    | split
    | (dsimp only [x]; split)
    | (dsimp +zetaDelta only; split)
    | (dsimp only)

theorem State.ppsSettle_via (s : State) : Via 562949953421312 s (State.ppsSettle s) := by
  unfold State.ppsSettle
  repeat' first
    | with_reducible exact Via.refl _
    | with_reducible assumption
    | decide +kernel
    | (intro x; refine Via.cutLet (m := 562949953421312) (s := s) (t := x) ?_ ?_)
    | (refine fun hx => ?_; clear_value x)
    | intro x
    | with_reducible apply Via.ite
    | with_reducible apply Via.then (State.updChord_via ..)
    | split
    | (dsimp only [x]; split)
    | (dsimp +zetaDelta only; split)
    | (dsimp only)

theorem execCtPpsEdge_via (s : State) : ∃ t, execCtPpsEdge s = .next t ∧ Via 562951564034048 s t := by
  refine ⟨_, rfl, ?_⟩
  repeat' first
    | with_reducible exact Via.refl _
    | with_reducible assumption
    | decide +kernel
    | (intro x; refine Via.cutLet (m := 562951564034048) (s := s) (t := x) ?_ ?_)
    | (refine fun hx => ?_; clear_value x)
    | intro x
    | lift_lets
    | with_reducible apply Via.ite
    | with_reducible apply Via.then (State.updChord_via ..)
    | with_reducible apply Via.then (State.advance_via ..)
    | split
    | (dsimp only [x]; split)
    | (dsimp +zetaDelta only; split)
    | (dsimp only)

end Sys2Proof.Machine
end

