-- ==== Sys2Proof/Laws/ViaPartOps.lean ====
section
/-! SUPPORT. What each operation of Machine/PartOps.lean can do to the state (see Laws/Via.lean). -/

namespace Sys2Proof.Machine

set_option linter.unusedTactic false
set_option linter.unreachableTactic false
set_option linter.unusedSimpArgs false
set_option linter.unusedVariables false

set_option Elab.async false

theorem State.updPart_via (s : State) (k : Nat) (f : Partition → Partition) : Via 34359738368 s (State.updPart s k f) := by
  unfold State.updPart
  repeat' first
    | with_reducible exact Via.refl _
    | with_reducible assumption
    | decide +kernel
    | (intro x; refine Via.cutLet (m := 34359738368) (s := s) (t := x) ?_ ?_)
    | (refine fun hx => ?_; clear_value x)
    | intro x
    | split
    | (dsimp only [x]; split)
    | (dsimp +zetaDelta only; split)
    | with_reducible apply Via.set_parts
    | (dsimp only)

theorem State.migStart_via (s : State) (p dest : Nat) (keep : Bool) (timeout : Nat) : Via 68719476768 s (State.migStart s p dest keep timeout) := by
  unfold State.migStart
  repeat' first
    | with_reducible exact Via.refl _
    | with_reducible assumption
    | decide +kernel
    | (intro x; refine Via.cutLet (m := 68719476768) (s := s) (t := x) ?_ ?_)
    | (refine fun hx => ?_; clear_value x)
    | intro x
    | with_reducible apply Via.putBit
    | with_reducible apply Via.then (State.updMig_via ..)
    | split
    | (dsimp only [x]; split)
    | (dsimp +zetaDelta only; split)
    | (dsimp only)

theorem State.migRefused_via (s : State) (p reason : Nat) : Via 288230376160624640 s (State.migRefused s p reason) := by
  unfold State.migRefused
  repeat' first
    | with_reducible exact Via.refl _
    | with_reducible assumption
    | decide +kernel
    | (intro x; refine Via.cutLet (m := 288230376160624640) (s := s) (t := x) ?_ ?_)
    | (refine fun hx => ?_; clear_value x)
    | intro x
    | with_reducible apply Via.then (State.logPort_via ..)
    | with_reducible apply Via.then (State.irq_via ..)
    | split
    | (dsimp only [x]; split)
    | (dsimp +zetaDelta only; split)
    | (dsimp only)

theorem State.migGiveBack_via (s : State) (p cause : Nat) : Via 297521215089148896 s (State.migGiveBack s p cause) := by
  unfold State.migGiveBack
  repeat' first
    | with_reducible exact Via.refl _
    | with_reducible assumption
    | decide +kernel
    | (intro x; refine Via.cutLet (m := 297521215089148896) (s := s) (t := x) ?_ ?_)
    | (refine fun hx => ?_; clear_value x)
    | intro x
    | lift_lets
    | with_reducible apply Via.ite
    | with_reducible apply Via.then (State.leaveHold_via ..)
    | with_reducible apply Via.then (State.migAbort_via ..)
    | with_reducible apply Via.then (State.refresh_via ..)
    | split
    | (dsimp only [x]; split)
    | (dsimp +zetaDelta only; split)
    | (dsimp only)

theorem State.migUpstream_via (s : State) (k : Nat) (detach : Bool) (p : Nat) : Via 297521215089148896 s (State.migUpstream s k detach p) := by
  unfold State.migUpstream
  repeat' first
    | with_reducible exact Via.refl _
    | with_reducible assumption
    | decide +kernel
    | (intro x; refine Via.cutLet (m := 297521215089148896) (s := s) (t := x) ?_ ?_)
    | (refine fun hx => ?_; clear_value x)
    | intro x
    | lift_lets
    | with_reducible apply Via.ite
    | with_reducible apply Via.then (State.migGiveBack_via ..)
    | with_reducible apply Via.then (State.migDone_via ..)
    | split
    | (dsimp only [x]; split)
    | (dsimp +zetaDelta only; split)
    | (dsimp only)

theorem State.handOver_via (s : State) (p k : Nat) : Via 34359738464 s (State.handOver s p k) := by
  unfold State.handOver
  repeat' first
    | with_reducible exact Via.refl _
    | with_reducible assumption
    | decide +kernel
    | (intro x; refine Via.cutLet (m := 34359738464) (s := s) (t := x) ?_ ?_)
    | (refine fun hx => ?_; clear_value x)
    | intro x
    | with_reducible apply Via.setFld
    | with_reducible apply Via.then (State.takeBack_via ..)
    | with_reducible apply Via.then (State.setPart_via ..)
    | split
    | (dsimp only [x]; split)
    | (dsimp +zetaDelta only; split)
    | (dsimp only)

theorem State.portUpstream_via (s : State) (k p : Nat) : Via 297580485637853120 s (State.portUpstream s k p) := by
  unfold State.portUpstream
  repeat' first
    | with_reducible exact Via.refl _
    | with_reducible assumption
    | decide +kernel
    | (intro x; refine Via.cutLet (m := 297580485637853120) (s := s) (t := x) ?_ ?_)
    | (refine fun hx => ?_; clear_value x)
    | intro x
    | lift_lets
    | with_reducible apply Via.ite
    | with_reducible apply Via.then (State.enterPoweredOff_via ..)
    | with_reducible apply Via.then (State.ccDisable_via ..)
    | with_reducible apply Via.then (State.refresh_via ..)
    | split
    | (dsimp only [x]; split)
    | (dsimp +zetaDelta only; split)
    | (dsimp only)

theorem State.upstreamEvent_via (s : State) (k : Nat) (detach : Bool) : Via 297580588717068256 s (State.upstreamEvent s k detach) := by
  unfold State.upstreamEvent
  repeat' first
    | with_reducible exact Via.refl _
    | with_reducible assumption
    | decide +kernel
    | (intro x; refine Via.cutLet (m := 297580588717068256) (s := s) (t := x) ?_ ?_)
    | (refine fun hx => ?_; clear_value x)
    | intro x
    | lift_lets
    | with_reducible apply Via.setFld
    | with_reducible apply Via.put
    | with_reducible apply Via.incr
    | with_reducible apply Via.ite
    | with_reducible apply Via.then (State.portUpstream_via ..)
    | with_reducible apply Via.then (State.ttClearPart_via ..)
    | with_reducible apply Via.then (State.migUpstream_via ..)
    | with_reducible apply Via.then (State.updPart_via ..)
    | with_reducible apply Via.then (State.p33Off_via ..)
    | with_reducible apply Via.then (State.irq_via ..)
    | (with_reducible refine Via.each _ _ (fun s _ => ?_) ?_)
    | (dsimp +zetaDelta only []; split <;> decide +kernel)
    | (split <;> decide +kernel)
    | split
    | (dsimp only [x]; split)
    | (dsimp +zetaDelta only; split)
    | (dsimp only)

theorem State.presence_via (s : State) (k : Nat) : Via 297580588717068256 s (State.presence s k) := by
  unfold State.presence
  repeat' first
    | with_reducible exact Via.refl _
    | with_reducible assumption
    | decide +kernel
    | (intro x; refine Via.cutLet (m := 297580588717068256) (s := s) (t := x) ?_ ?_)
    | (refine fun hx => ?_; clear_value x)
    | intro x
    | lift_lets
    | with_reducible apply Via.put
    | with_reducible apply Via.ite
    | with_reducible apply Via.then (State.upstreamEvent_via ..)
    | with_reducible apply Via.then (State.irq_via ..)
    | split
    | (dsimp only [x]; split)
    | (dsimp +zetaDelta only; split)
    | (dsimp only)

theorem State.localPower_via (s : State) : Via 34359738400 s (State.localPower s) := by
  unfold State.localPower
  repeat' first
    | with_reducible exact Via.refl _
    | with_reducible assumption
    | decide +kernel
    | (intro x; refine Via.cutLet (m := 34359738400) (s := s) (t := x) ?_ ?_)
    | (refine fun hx => ?_; clear_value x)
    | intro x
    | lift_lets
    | with_reducible apply Via.put
    | with_reducible apply Via.ite
    | with_reducible apply Via.then (State.updPart_via ..)
    | (with_reducible refine Via.each _ _ (fun s _ => ?_) ?_)
    | split
    | (dsimp only [x]; split)
    | (dsimp +zetaDelta only; split)
    | (dsimp only)

theorem State.assignTo_via (s : State) (p v : Nat) : Via 9290770209571808 s (State.assignTo s p v) := by
  unfold State.assignTo
  repeat' first
    | with_reducible exact Via.refl _
    | with_reducible assumption
    | decide +kernel
    | (intro x; refine Via.cutLet (m := 9290770209571808) (s := s) (t := x) ?_ ?_)
    | (refine fun hx => ?_; clear_value x)
    | intro x
    | lift_lets
    | with_reducible apply Via.ite
    | with_reducible apply Via.then (State.enterPoweredOff_via ..)
    | with_reducible apply Via.then (State.leaveHold_via ..)
    | with_reducible apply Via.then (State.handOver_via ..)
    | with_reducible apply Via.then (State.refresh_via ..)
    | with_reducible apply Via.then (State.ttClear_via ..)
    | with_reducible apply Via.then (State.updPart_via ..)
    | split
    | (dsimp only [x]; split)
    | (dsimp +zetaDelta only; split)
    | (dsimp only)

theorem State.assign_via (s : State) (p v : Nat) : Via 585751522512995296 s (State.assign s p v) := by
  unfold State.assign
  repeat' first
    | with_reducible exact Via.refl _
    | with_reducible assumption
    | decide +kernel
    | (intro x; refine Via.cutLet (m := 585751522512995296) (s := s) (t := x) ?_ ?_)
    | (refine fun hx => ?_; clear_value x)
    | intro x
    | lift_lets
    | with_reducible apply Via.ite
    | with_reducible apply Via.then (State.assignTo_via ..)
    | with_reducible apply Via.then (State.drawNat_via ..)
    | with_reducible refine Via.then (State.drawNat_via' (by assumption)) (by decide +kernel) ?_
    | split
    | (dsimp only [x]; split)
    | (dsimp +zetaDelta only; split)
    | (dsimp only)
    | (dsimp +zetaDelta only)

theorem State.startReset_via (s : State) (p : Nat) : Via 297521112009933760 s (State.startReset s p) := by
  unfold State.startReset
  repeat' first
    | with_reducible exact Via.refl _
    | with_reducible assumption
    | decide +kernel
    | (intro x; refine Via.cutLet (m := 297521112009933760) (s := s) (t := x) ?_ ?_)
    | (refine fun hx => ?_; clear_value x)
    | intro x
    | lift_lets
    | with_reducible apply Via.put
    | with_reducible apply Via.ite
    | with_reducible apply Via.then (State.logOther_via ..)
    | with_reducible apply Via.then (State.updDpe_via ..)
    | with_reducible apply Via.then (State.setDpe_via ..)
    | with_reducible apply Via.then (State.ttCut_via ..)
    | (dsimp +zetaDelta only []; split <;> decide +kernel)
    | (split <;> decide +kernel)
    | split
    | (dsimp only [x]; split)
    | (dsimp +zetaDelta only; split)
    | (dsimp only)

theorem State.ask_via (s : State) (k : Nat) (r : HubReq) : Via 34359738368 s (State.ask s k r) := by
  unfold State.ask
  repeat' first
    | with_reducible exact Via.refl _
    | with_reducible assumption
    | decide +kernel
    | (intro x; refine Via.cutLet (m := 34359738368) (s := s) (t := x) ?_ ?_)
    | (refine fun hx => ?_; clear_value x)
    | intro x
    | with_reducible apply Via.then (State.updPart_via ..)
    | split
    | (dsimp only [x]; split)
    | (dsimp +zetaDelta only; split)
    | (dsimp only)

theorem State.portPower_via (s : State) (k p : Nat) (on : Bool) : Via 297580554357329888 s (State.portPower s k p on) := by
  unfold State.portPower
  repeat' first
    | with_reducible exact Via.refl _
    | with_reducible assumption
    | decide +kernel
    | (intro x; refine Via.cutLet (m := 297580554357329888) (s := s) (t := x) ?_ ?_)
    | (refine fun hx => ?_; clear_value x)
    | intro x
    | lift_lets
    | with_reducible apply Via.putBit
    | with_reducible apply Via.ite
    | with_reducible apply Via.then (State.enterPoweredOff_via ..)
    | with_reducible apply Via.then (State.ccEnableCause_via ..)
    | with_reducible apply Via.then (State.tryPowerUp_via ..)
    | with_reducible apply Via.then (State.ccDisable_via ..)
    | with_reducible apply Via.then (State.migDone_via ..)
    | with_reducible apply Via.then (State.refresh_via ..)
    | split
    | (dsimp only [x]; split)
    | (dsimp +zetaDelta only; split)
    | (dsimp only)

theorem State.portReset_via (s : State) (p : Nat) : Via 297521180729410496 s (State.portReset s p) := by
  unfold State.portReset
  repeat' first
    | with_reducible exact Via.refl _
    | with_reducible assumption
    | decide +kernel
    | (intro x; refine Via.cutLet (m := 297521180729410496) (s := s) (t := x) ?_ ?_)
    | (refine fun hx => ?_; clear_value x)
    | intro x
    | lift_lets
    | with_reducible apply Via.ite
    | with_reducible apply Via.then (State.startReset_via ..)
    | with_reducible apply Via.then (State.updMig_via ..)
    | split
    | (dsimp only [x]; split)
    | (dsimp +zetaDelta only; split)
    | (dsimp only)

theorem State.portTest_via (s : State) (p selector : Nat) : Via 9289911216112320 s (State.portTest s p selector) := by
  unfold State.portTest
  repeat' first
    | with_reducible exact Via.refl _
    | with_reducible assumption
    | decide +kernel
    | (intro x; refine Via.cutLet (m := 9289911216112320) (s := s) (t := x) ?_ ?_)
    | (refine fun hx => ?_; clear_value x)
    | intro x
    | lift_lets
    | with_reducible apply Via.setFld
    | with_reducible apply Via.ite
    | with_reducible apply Via.then (State.updDpe_via ..)
    | with_reducible apply Via.then (State.setDpe_via ..)
    | (dsimp +zetaDelta only []; split <;> decide +kernel)
    | (split <;> decide +kernel)
    | split
    | (dsimp only [x]; split)
    | (dsimp +zetaDelta only; split)
    | (dsimp only)

theorem State.request33_via (s : State) (k : Nat) (r : HubReq) : Via 297579557924916928 s (State.request33 s k r) := by
  unfold State.request33
  repeat' first
    | with_reducible exact Via.refl _
    | with_reducible assumption
    | decide +kernel
    | (intro x; refine Via.cutLet (m := 297579557924916928) (s := s) (t := x) ?_ ?_)
    | (refine fun hx => ?_; clear_value x)
    | intro x
    | lift_lets
    | with_reducible apply Via.ite
    | with_reducible apply Via.then (State.p33Update_via ..)
    | with_reducible apply Via.then (State.mfReset_via ..)
    | with_reducible apply Via.then (State.updPart_via ..)
    | with_reducible apply Via.then (State.disable_via ..)
    | with_reducible apply Via.then (State.p33Off_via ..)
    | with_reducible apply Via.then (State.setP33_via ..)
    | with_reducible apply Via.then (State.updMf_via ..)
    | (dsimp +zetaDelta only []; split <;> decide +kernel)
    | (split <;> decide +kernel)
    | split
    | (dsimp only [x]; split)
    | (dsimp +zetaDelta only; split)
    | (dsimp only)

theorem State.hubRequest_via (s : State) (k : Nat) (r : HubReq) : Via 297580588717068256 s (State.hubRequest s k r) := by
  unfold State.hubRequest
  repeat' first
    | with_reducible exact Via.refl _
    | with_reducible assumption
    | decide +kernel
    | (intro x; refine Via.cutLet (m := 297580588717068256) (s := s) (t := x) ?_ ?_)
    | (refine fun hx => ?_; clear_value x)
    | intro x
    | with_reducible apply Via.ite
    | with_reducible apply Via.then (State.portPower_via ..)
    | with_reducible apply Via.then (State.portReset_via ..)
    | with_reducible apply Via.then (State.ttRequest_via ..)
    | with_reducible apply Via.then (State.request33_via ..)
    | with_reducible apply Via.then (State.portTest_via ..)
    | with_reducible apply Via.then (State.disable_via ..)
    | with_reducible apply Via.then (State.updDpe_via ..)
    | with_reducible apply Via.then (State.setDpe_via ..)
    | with_reducible apply Via.then (State.ask_via ..)
    | (dsimp +zetaDelta only []; split <;> decide +kernel)
    | (split <;> decide +kernel)
    | split
    | (dsimp only [x]; split)
    | (dsimp +zetaDelta only; split)
    | (dsimp only)

theorem State.quarSettles_via (s : State) (p : Nat) : Via 137438953472 s (State.quarSettles s p) := by
  unfold State.quarSettles
  repeat' first
    | with_reducible exact Via.refl _
    | with_reducible assumption
    | decide +kernel
    | (intro x; refine Via.cutLet (m := 137438953472) (s := s) (t := x) ?_ ?_)
    | (refine fun hx => ?_; clear_value x)
    | intro x
    | with_reducible apply Via.then (State.updDpe_via ..)
    | split
    | (dsimp only [x]; split)
    | (dsimp +zetaDelta only; split)
    | (dsimp only)

theorem State.frameBoundary_via (s : State) (k : Nat) : Via 297580588717068256 s (State.frameBoundary s k) := by
  unfold State.frameBoundary
  repeat' first
    | with_reducible exact Via.refl _
    | with_reducible assumption
    | decide +kernel
    | (intro x; refine Via.cutLet (m := 297580588717068256) (s := s) (t := x) ?_ ?_)
    | (refine fun hx => ?_; clear_value x)
    | intro x
    | lift_lets
    | with_reducible apply Via.then (State.quarSettles_via ..)
    | with_reducible apply Via.then (State.hubRequest_via ..)
    | with_reducible apply Via.then (State.updPart_via ..)
    | (with_reducible refine Via.each _ _ (fun s _ => ?_) ?_)
    | (with_reducible refine Via.foldlFst _ _ _ (fun p _ => ?_) ?_ <;> dsimp only)
    | (with_reducible refine Via.foldlThen _ _ (fun s _ => ?_) ?_)
    | split
    | (dsimp only [x]; split)
    | (dsimp +zetaDelta only; split)
    | (dsimp only)

end Sys2Proof.Machine
end

