-- ==== Sys2Proof/Laws/ViaTypeC.lean ====
section
/-! SUPPORT. What each operation of Machine/TypeC.lean can do to the state (see Laws/Via.lean). -/

namespace Sys2Proof.Machine

set_option linter.unusedTactic false
set_option linter.unreachableTactic false
set_option linter.unusedSimpArgs false
set_option linter.unusedVariables false

set_option Elab.async false

theorem State.ccPresence_via (s : State) (p : Nat) : Via 297580588717068256 s (State.ccPresence s p) := by
  unfold State.ccPresence
  repeat' first
    | with_reducible exact Via.refl _
    | with_reducible assumption
    | decide +kernel
    | (intro x; refine Via.cutLet (m := 297580588717068256) (s := s) (t := x) ?_ ?_)
    | (refine fun hx => ?_; clear_value x)
    | intro x
    | with_reducible apply Via.ite
    | with_reducible apply Via.then (State.presence_via ..)
    | split
    | (dsimp only [x]; split)
    | (dsimp +zetaDelta only; split)
    | (dsimp only)

theorem State.detach_via (s : State) (p : Nat) (drpSink counted : Bool) : Via 297580588717068256 s (State.detach s p drpSink counted) := by
  unfold State.detach
  repeat' first
    | with_reducible exact Via.refl _
    | with_reducible assumption
    | decide +kernel
    | (intro x; refine Via.cutLet (m := 297580588717068256) (s := s) (t := x) ?_ ?_)
    | (refine fun hx => ?_; clear_value x)
    | intro x
    | lift_lets
    | with_reducible apply Via.put
    | with_reducible apply Via.incr
    | with_reducible apply Via.ite
    | with_reducible apply Via.then (State.releaseClaim_via ..)
    | with_reducible apply Via.then (State.ccPresence_via ..)
    | with_reducible apply Via.then (State.unattached_via ..)
    | with_reducible apply Via.then (State.ccLeave_via ..)
    | (dsimp +zetaDelta only []; split <;> decide +kernel)
    | (split <;> decide +kernel)
    | split
    | (dsimp only [x]; split)
    | (dsimp +zetaDelta only; split)
    | (dsimp only)

theorem State.vconnSample_via (s : State) (p mv current vin : Nat) : Via 576460752303424512 s (State.vconnSample s p mv current vin) := by
  unfold State.vconnSample
  repeat' first
    | with_reducible exact Via.refl _
    | with_reducible assumption
    | decide +kernel
    | (intro x; refine Via.cutLet (m := 576460752303424512) (s := s) (t := x) ?_ ?_)
    | (refine fun hx => ?_; clear_value x)
    | intro x
    | lift_lets
    | with_reducible apply Via.setFld
    | with_reducible apply Via.put
    | with_reducible apply Via.ite
    | with_reducible apply Via.then (State.drawNat_via ..)
    | with_reducible refine Via.then (State.drawNat_via' (by assumption)) (by decide +kernel) ?_
    | split
    | (dsimp only [x]; split)
    | (dsimp +zetaDelta only; split)
    | (dsimp only)
    | (dsimp +zetaDelta only)

theorem execCcSample_via (p cc1 cc2 vbus current vin : Nat) (rivals : List Nat) (s : State) : ∃ t, execCcSample p cc1 cc2 vbus current vin rivals s = .next t ∧ Via 865033076613865152 s t := by
  refine ⟨_, rfl, ?_⟩
  repeat' first
    | with_reducible exact Via.refl _
    | with_reducible assumption
    | decide +kernel
    | (intro x; refine Via.cutLet (m := 865033076613865152) (s := s) (t := x) ?_ ?_)
    | (refine fun hx => ?_; clear_value x)
    | intro x
    | lift_lets
    | with_reducible apply Via.setFld
    | with_reducible apply Via.ite
    | with_reducible apply Via.then (State.tryLeaveDisabled_via ..)
    | with_reducible apply Via.then (State.vconnSample_via ..)
    | with_reducible apply Via.then (State.takeClaim_via ..)
    | with_reducible apply Via.then (State.setVbus_via ..)
    | with_reducible apply Via.then (State.setCc_via ..)
    | (dsimp +zetaDelta only []; split <;> decide +kernel)
    | (split <;> decide +kernel)
    | split
    | (dsimp only [x]; split)
    | (dsimp +zetaDelta only; split)
    | (dsimp only)

theorem State.attachSource_via (s : State) (p : Nat) (c : Nat × Nat) : Via 527360 s (State.attachSource s p c) := by
  unfold State.attachSource
  repeat' first
    | with_reducible exact Via.refl _
    | with_reducible assumption
    | decide +kernel
    | (intro x; refine Via.cutLet (m := 527360) (s := s) (t := x) ?_ ?_)
    | (refine fun hx => ?_; clear_value x)
    | intro x
    | lift_lets
    | with_reducible apply Via.put
    | with_reducible apply Via.incr
    | with_reducible apply Via.ite
    | with_reducible apply Via.then (State.vconnTry_via ..)
    | with_reducible apply Via.then (State.levels_via ..)
    | with_reducible apply Via.then (State.setCc_via ..)
    | (dsimp +zetaDelta only []; split <;> decide +kernel)
    | (split <;> decide +kernel)
    | split
    | (dsimp only [x]; split)
    | (dsimp +zetaDelta only; split)
    | (dsimp only)

theorem State.attachSink_via (s : State) (p : Nat) (c : Nat × Nat) : Via 297580588717068256 s (State.attachSink s p c) := by
  unfold State.attachSink
  repeat' first
    | with_reducible exact Via.refl _
    | with_reducible assumption
    | decide +kernel
    | (intro x; refine Via.cutLet (m := 297580588717068256) (s := s) (t := x) ?_ ?_)
    | (refine fun hx => ?_; clear_value x)
    | intro x
    | lift_lets
    | with_reducible apply Via.setFld
    | with_reducible apply Via.put
    | with_reducible apply Via.incr
    | with_reducible apply Via.then (State.ccPresence_via ..)
    | with_reducible apply Via.then (State.updCc_via ..)
    | with_reducible apply Via.then (State.setCc_via ..)
    | split
    | (dsimp only [x]; split)
    | (dsimp +zetaDelta only; split)
    | (dsimp only)

theorem execTccdebounceExpiry_via (p : Nat) (s : State) : ∃ t, execTccdebounceExpiry p s = .next t ∧ Via 297580588717068256 s t := by
  refine ⟨_, rfl, ?_⟩
  repeat' first
    | with_reducible exact Via.refl _
    | with_reducible assumption
    | decide +kernel
    | (intro x; refine Via.cutLet (m := 297580588717068256) (s := s) (t := x) ?_ ?_)
    | (refine fun hx => ?_; clear_value x)
    | intro x
    | lift_lets
    | with_reducible apply Via.setFld
    | with_reducible apply Via.incr
    | with_reducible apply Via.ite
    | with_reducible apply Via.then (State.attachSource_via ..)
    | with_reducible apply Via.then (State.attachSink_via ..)
    | with_reducible apply Via.then (State.detach_via ..)
    | with_reducible apply Via.then (State.levels_via ..)
    | with_reducible apply Via.then (State.setCc_via ..)
    | split
    | (dsimp only [x]; split)
    | (dsimp +zetaDelta only; split)
    | (dsimp only)

theorem execTpddebounceExpiry_via (p : Nat) (s : State) : ∃ t, execTpddebounceExpiry p s = .next t ∧ Via 297580588717068256 s t := by
  refine ⟨_, rfl, ?_⟩
  repeat' first
    | with_reducible exact Via.refl _
    | with_reducible assumption
    | decide +kernel
    | (intro x; refine Via.cutLet (m := 297580588717068256) (s := s) (t := x) ?_ ?_)
    | (refine fun hx => ?_; clear_value x)
    | intro x
    | lift_lets
    | with_reducible apply Via.ite
    | with_reducible apply Via.then (State.detach_via ..)
    | (dsimp +zetaDelta only []; split <;> decide +kernel)
    | (split <;> decide +kernel)
    | split
    | (dsimp only [x]; split)
    | (dsimp +zetaDelta only; split)
    | (dsimp only)

theorem execDrpToggle_via (p : Nat) (s : State) : ∃ t, execDrpToggle p s = .next t ∧ Via 35184372632576 s t := by
  refine ⟨_, rfl, ?_⟩
  repeat' first
    | with_reducible exact Via.refl _
    | with_reducible assumption
    | decide +kernel
    | (intro x; refine Via.cutLet (m := 35184372632576) (s := s) (t := x) ?_ ?_)
    | (refine fun hx => ?_; clear_value x)
    | intro x
    | with_reducible apply Via.ite
    | with_reducible apply Via.then (State.unattached_via ..)
    | split
    | (dsimp only [x]; split)
    | (dsimp +zetaDelta only; split)
    | (dsimp only)

theorem execSinkVbusLoss_via (p vbus : Nat) (s : State) : ∃ t, execSinkVbusLoss p vbus s = .next t ∧ Via 297580588717072352 s t := by
  refine ⟨_, rfl, ?_⟩
  repeat' first
    | with_reducible exact Via.refl _
    | with_reducible assumption
    | decide +kernel
    | (intro x; refine Via.cutLet (m := 297580588717072352) (s := s) (t := x) ?_ ?_)
    | (refine fun hx => ?_; clear_value x)
    | intro x
    | with_reducible apply Via.ite
    | with_reducible apply Via.then (State.setVbus_via ..)
    | with_reducible apply Via.then (State.detach_via ..)
    | split
    | (dsimp only [x]; split)
    | (dsimp +zetaDelta only; split)
    | (dsimp only)

theorem execErrorRecoveryEnd_via (p : Nat) (s : State) : ∃ t, execErrorRecoveryEnd p s = .next t ∧ Via 288572324310437568 s t := by
  refine ⟨_, rfl, ?_⟩
  repeat' first
    | with_reducible exact Via.refl _
    | with_reducible assumption
    | decide +kernel
    | (intro x; refine Via.cutLet (m := 288572324310437568) (s := s) (t := x) ?_ ?_)
    | (refine fun hx => ?_; clear_value x)
    | intro x
    | with_reducible apply Via.ite
    | with_reducible apply Via.then (State.errorRecovery_via ..)
    | with_reducible apply Via.then (State.unattached_via ..)
    | split
    | (dsimp only [x]; split)
    | (dsimp +zetaDelta only; split)
    | (dsimp only)

theorem State.setCcen_via (s : State) (p : Nat) (b : Bool) : Via 288572324310437568 s (State.setCcen s p b) := by
  unfold State.setCcen
  repeat' first
    | with_reducible exact Via.refl _
    | with_reducible assumption
    | decide +kernel
    | (intro x; refine Via.cutLet (m := 288572324310437568) (s := s) (t := x) ?_ ?_)
    | (refine fun hx => ?_; clear_value x)
    | intro x
    | lift_lets
    | with_reducible apply Via.put
    | with_reducible apply Via.ite
    | with_reducible apply Via.then (State.ccEnableCause_via ..)
    | with_reducible apply Via.then (State.ccDisable_via ..)
    | split
    | (dsimp only [x]; split)
    | (dsimp +zetaDelta only; split)
    | (dsimp only)

theorem execDisabledCauseArises_via (p bit : Nat) (s : State) : ∃ t, execDisabledCauseArises p bit s = .next t ∧ Via 288572324310437568 s t := by
  refine ⟨_, rfl, ?_⟩
  repeat' first
    | with_reducible exact Via.refl _
    | with_reducible assumption
    | decide +kernel
    | (intro x; refine Via.cutLet (m := 288572324310437568) (s := s) (t := x) ?_ ?_)
    | (refine fun hx => ?_; clear_value x)
    | intro x
    | with_reducible apply Via.ite
    | with_reducible apply Via.then (State.ccDisable_via ..)
    | with_reducible apply Via.then (State.setCcen_via ..)
    | (dsimp +zetaDelta only []; split <;> decide +kernel)
    | (split <;> decide +kernel)
    | split
    | (dsimp only [x]; split)
    | (dsimp +zetaDelta only; split)
    | (dsimp only)

theorem execDisabledExit_via (p : Nat) (s : State) : ∃ t, execDisabledExit p s = .next t ∧ Via 288572324310437568 s t := by
  refine ⟨_, rfl, ?_⟩
  repeat' first
    | with_reducible exact Via.refl _
    | with_reducible assumption
    | decide +kernel
    | (intro x; refine Via.cutLet (m := 288572324310437568) (s := s) (t := x) ?_ ?_)
    | (refine fun hx => ?_; clear_value x)
    | intro x
    | with_reducible apply Via.then (State.tryLeaveDisabled_via ..)
    | split
    | (dsimp only [x]; split)
    | (dsimp +zetaDelta only; split)
    | (dsimp only)

theorem State.rpReevaluate_via (s : State) (p : Nat) : Via 35184372632576 s (State.rpReevaluate s p) := by
  unfold State.rpReevaluate
  repeat' first
    | with_reducible exact Via.refl _
    | with_reducible assumption
    | decide +kernel
    | (intro x; refine Via.cutLet (m := 35184372632576) (s := s) (t := x) ?_ ?_)
    | (refine fun hx => ?_; clear_value x)
    | intro x
    | with_reducible apply Via.ite
    | with_reducible apply Via.then (State.rpEvaluate_via ..)
    | with_reducible apply Via.then (State.levels_via ..)
    | split
    | (dsimp only [x]; split)
    | (dsimp +zetaDelta only; split)
    | (dsimp only)

theorem execRpReevaluate_via (p : Nat) (s : State) : ∃ t, execRpReevaluate p s = .next t ∧ Via 35184372632576 s t := by
  refine ⟨_, rfl, ?_⟩
  repeat' first
    | with_reducible exact Via.refl _
    | with_reducible assumption
    | decide +kernel
    | (intro x; refine Via.cutLet (m := 35184372632576) (s := s) (t := x) ?_ ?_)
    | (refine fun hx => ?_; clear_value x)
    | intro x
    | with_reducible apply Via.then (State.rpReevaluate_via ..)
    | split
    | (dsimp only [x]; split)
    | (dsimp +zetaDelta only; split)
    | (dsimp only)

theorem execCcOvTrip_via (p : Nat) (s : State) : ∃ t, execCcOvTrip p s = .next t ∧ Via 432687512386293440 s t := by
  refine ⟨_, rfl, ?_⟩
  repeat' first
    | with_reducible exact Via.refl _
    | with_reducible assumption
    | decide +kernel
    | (intro x; refine Via.cutLet (m := 432687512386293440) (s := s) (t := x) ?_ ?_)
    | (refine fun hx => ?_; clear_value x)
    | intro x
    | lift_lets
    | with_reducible apply Via.incr
    | with_reducible apply Via.ite
    | with_reducible apply Via.then (State.releaseClaim_via ..)
    | with_reducible apply Via.then (State.raisePort_via ..)
    | with_reducible apply Via.then (State.ccLeave_via ..)
    | split
    | (dsimp only [x]; split)
    | (dsimp +zetaDelta only; split)
    | (dsimp only)

theorem execCcOvRelease_via (p : Nat) (s : State) : ∃ t, execCcOvRelease p s = .next t ∧ Via 288572324310437568 s t := by
  refine ⟨_, rfl, ?_⟩
  repeat' first
    | with_reducible exact Via.refl _
    | with_reducible assumption
    | decide +kernel
    | (intro x; refine Via.cutLet (m := 288572324310437568) (s := s) (t := x) ?_ ?_)
    | (refine fun hx => ?_; clear_value x)
    | intro x
    | with_reducible apply Via.ite
    | with_reducible apply Via.then (State.unattached_via ..)
    | with_reducible apply Via.then (State.disable_via ..)
    | split
    | (dsimp only [x]; split)
    | (dsimp +zetaDelta only; split)
    | (dsimp only)

theorem State.vconnTripped_via (s : State) (p : Nat) : Via 144117387099636736 s (State.vconnTripped s p) := by
  unfold State.vconnTripped
  repeat' first
    | with_reducible exact Via.refl _
    | with_reducible assumption
    | decide +kernel
    | (intro x; refine Via.cutLet (m := 144117387099636736) (s := s) (t := x) ?_ ?_)
    | (refine fun hx => ?_; clear_value x)
    | intro x
    | with_reducible apply Via.put
    | with_reducible apply Via.incr
    | with_reducible apply Via.then (State.identityClear_via ..)
    | with_reducible apply Via.then (State.raisePort_via ..)
    | with_reducible apply Via.then (State.vconnOff_via ..)
    | split
    | (dsimp only [x]; split)
    | (dsimp +zetaDelta only; split)
    | (dsimp only)

theorem State.vcRearm_via (s : State) (p : Nat) : Via 1024 s (State.vcRearm s p) := by
  unfold State.vcRearm
  repeat' first
    | with_reducible exact Via.refl _
    | with_reducible assumption
    | decide +kernel
    | (intro x; refine Via.cutLet (m := 1024) (s := s) (t := x) ?_ ?_)
    | (refine fun hx => ?_; clear_value x)
    | intro x
    | with_reducible apply Via.put
    | with_reducible apply Via.ite
    | with_reducible apply Via.then (State.vconnTry_via ..)
    | split
    | (dsimp only [x]; split)
    | (dsimp +zetaDelta only; split)
    | (dsimp only)

theorem execVcrearmWrite_via (p : Nat) (s : State) : ∃ t, execVcrearmWrite p s = .next t ∧ Via 1024 s t := by
  refine ⟨_, rfl, ?_⟩
  repeat' first
    | with_reducible exact Via.refl _
    | with_reducible assumption
    | decide +kernel
    | (intro x; refine Via.cutLet (m := 1024) (s := s) (t := x) ?_ ?_)
    | (refine fun hx => ?_; clear_value x)
    | intro x
    | with_reducible apply Via.then (State.vcRearm_via ..)
    | split
    | (dsimp only [x]; split)
    | (dsimp +zetaDelta only; split)
    | (dsimp only)

theorem State.discMissed_via (s : State) (p : Nat) : Via 2199023256576 s (State.discMissed s p) := by
  unfold State.discMissed
  repeat' first
    | with_reducible exact Via.refl _
    | with_reducible assumption
    | decide +kernel
    | (intro x; refine Via.cutLet (m := 2199023256576) (s := s) (t := x) ?_ ?_)
    | (refine fun hx => ?_; clear_value x)
    | intro x
    | lift_lets
    | with_reducible apply Via.put
    | with_reducible apply Via.incr
    | with_reducible apply Via.ite
    | with_reducible apply Via.then (State.updCc_via ..)
    | (dsimp +zetaDelta only []; split <;> decide +kernel)
    | (split <;> decide +kernel)
    | split
    | (dsimp only [x]; split)
    | (dsimp +zetaDelta only; split)
    | (dsimp only)

theorem State.discAttempt_via (s : State) (p : Nat) (answered : Bool) : Via 6597069767680 s (State.discAttempt s p answered) := by
  unfold State.discAttempt
  repeat' first
    | with_reducible exact Via.refl _
    | with_reducible assumption
    | decide +kernel
    | (intro x; refine Via.cutLet (m := 6597069767680) (s := s) (t := x) ?_ ?_)
    | (refine fun hx => ?_; clear_value x)
    | intro x
    | lift_lets
    | with_reducible apply Via.put
    | with_reducible apply Via.ite
    | with_reducible apply Via.then (State.discMissed_via ..)
    | with_reducible apply Via.then (State.updCc_via ..)
    | with_reducible apply Via.then (State.send_via ..)
    | with_reducible apply Via.then (State.hush_via ..)
    | split
    | (dsimp only [x]; split)
    | (dsimp +zetaDelta only; split)
    | (dsimp only)

theorem State.discGo_via (s : State) (p : Nat) : Via 2199023256576 s (State.discGo s p) := by
  unfold State.discGo
  repeat' first
    | with_reducible exact Via.refl _
    | with_reducible assumption
    | decide +kernel
    | (intro x; refine Via.cutLet (m := 2199023256576) (s := s) (t := x) ?_ ?_)
    | (refine fun hx => ?_; clear_value x)
    | intro x
    | lift_lets
    | with_reducible apply Via.put
    | with_reducible apply Via.ite
    | with_reducible apply Via.then (State.updCc_via ..)
    | split
    | (dsimp only [x]; split)
    | (dsimp +zetaDelta only; split)
    | (dsimp only)

theorem execDiscgoWrite_via (p : Nat) (s : State) : ∃ t, execDiscgoWrite p s = .next t ∧ Via 2199023256576 s t := by
  refine ⟨_, rfl, ?_⟩
  repeat' first
    | with_reducible exact Via.refl _
    | with_reducible assumption
    | decide +kernel
    | (intro x; refine Via.cutLet (m := 2199023256576) (s := s) (t := x) ?_ ?_)
    | (refine fun hx => ?_; clear_value x)
    | intro x
    | with_reducible apply Via.then (State.discGo_via ..)
    | split
    | (dsimp only [x]; split)
    | (dsimp +zetaDelta only; split)
    | (dsimp only)

theorem State.identityAck_via (s : State) (p idHeader vdo : Nat) (sop2 : Bool) : Via 6597070294016 s (State.identityAck s p idHeader vdo sop2) := by
  unfold State.identityAck
  repeat' first
    | with_reducible exact Via.refl _
    | with_reducible assumption
    | decide +kernel
    | (intro x; refine Via.cutLet (m := 6597070294016) (s := s) (t := x) ?_ ?_)
    | (refine fun hx => ?_; clear_value x)
    | intro x
    | lift_lets
    | with_reducible apply Via.setFld
    | with_reducible apply Via.put
    | with_reducible apply Via.incr
    | with_reducible apply Via.ite
    | with_reducible apply Via.then (State.discMissed_via ..)
    | with_reducible apply Via.then (State.levels_via ..)
    | with_reducible apply Via.then (State.updCc_via ..)
    | with_reducible apply Via.then (State.updPd_via ..)
    | with_reducible apply Via.then (State.ccIrq_via ..)
    | with_reducible apply Via.then (State.hush_via ..)
    | with_reducible apply Via.then (State.send_via ..)
    | (dsimp +zetaDelta only []; split <;> decide +kernel)
    | (split <;> decide +kernel)
    | split
    | (dsimp only [x]; split)
    | (dsimp +zetaDelta only; split)
    | (dsimp only)

end Sys2Proof.Machine
end

