-- ==== Sys2Proof/Laws/ViaPdOps.lean ====
section
/-! SUPPORT. What each operation of Machine/PdOps.lean can do to the state (see Laws/Via.lean). -/

namespace Sys2Proof.Machine

set_option linter.unusedTactic false
set_option linter.unreachableTactic false
set_option linter.unusedSimpArgs false
set_option linter.unusedVariables false

set_option Elab.async false

theorem State.sendEprCaps_via (s : State) (p : Nat) (l : List (Nat × Nat)) : Via 4398046511104 s (State.sendEprCaps s p l) := by
  unfold State.sendEprCaps
  repeat' first
    | with_reducible exact Via.refl _
    | with_reducible assumption
    | decide +kernel
    | (intro x; refine Via.cutLet (m := 4398046511104) (s := s) (t := x) ?_ ?_)
    | (refine fun hx => ?_; clear_value x)
    | intro x
    | with_reducible apply Via.ite
    | with_reducible apply Via.then (State.sendLong_via ..)
    | with_reducible apply Via.then (State.updPd_via ..)
    | split
    | (dsimp only [x]; split)
    | (dsimp +zetaDelta only; split)
    | (dsimp only)

theorem State.sendCaps_via (s : State) (p : Nat) (l : List Nat) : Via 4398046511104 s (State.sendCaps s p l) := by
  unfold State.sendCaps
  repeat' first
    | with_reducible exact Via.refl _
    | with_reducible assumption
    | decide +kernel
    | (intro x; refine Via.cutLet (m := 4398046511104) (s := s) (t := x) ?_ ?_)
    | (refine fun hx => ?_; clear_value x)
    | intro x
    | with_reducible apply Via.ite
    | with_reducible apply Via.then (State.updPd_via ..)
    | with_reducible apply Via.then (State.send_via ..)
    | split
    | (dsimp only [x]; split)
    | (dsimp +zetaDelta only; split)
    | (dsimp only)

theorem State.offer_via (s : State) (p : Nat) : Via 4398046511104 s (State.offer s p) := by
  unfold State.offer
  repeat' first
    | with_reducible exact Via.refl _
    | with_reducible assumption
    | decide +kernel
    | (intro x; refine Via.cutLet (m := 4398046511104) (s := s) (t := x) ?_ ?_)
    | (refine fun hx => ?_; clear_value x)
    | intro x
    | lift_lets
    | with_reducible apply Via.ite
    | with_reducible apply Via.then (State.sendEprCaps_via ..)
    | with_reducible apply Via.then (State.sendCaps_via ..)
    | with_reducible apply Via.then (State.updPd_via ..)
    | split
    | (dsimp only [x]; split)
    | (dsimp +zetaDelta only; split)
    | (dsimp only)

theorem State.offerGood_via (s : State) (p : Nat) : Via 4398046512128 s (State.offerGood s p) := by
  unfold State.offerGood
  repeat' first
    | with_reducible exact Via.refl _
    | with_reducible assumption
    | decide +kernel
    | (intro x; refine Via.cutLet (m := 4398046512128) (s := s) (t := x) ?_ ?_)
    | (refine fun hx => ?_; clear_value x)
    | intro x
    | with_reducible apply Via.put
    | with_reducible apply Via.ite
    | with_reducible apply Via.then (State.updPd_via ..)
    | split
    | (dsimp only [x]; split)
    | (dsimp +zetaDelta only; split)
    | (dsimp only)

theorem State.offerSent_via (s : State) (p : Nat) (good : Bool) : Via 4398046512128 s (State.offerSent s p good) := by
  unfold State.offerSent
  repeat' first
    | with_reducible exact Via.refl _
    | with_reducible assumption
    | decide +kernel
    | (intro x; refine Via.cutLet (m := 4398046512128) (s := s) (t := x) ?_ ?_)
    | (refine fun hx => ?_; clear_value x)
    | intro x
    | lift_lets
    | with_reducible apply Via.ite
    | with_reducible apply Via.then (State.offerGood_via ..)
    | with_reducible apply Via.then (State.updPd_via ..)
    | with_reducible apply Via.then (State.offer_via ..)
    | split
    | (dsimp only [x]; split)
    | (dsimp +zetaDelta only; split)
    | (dsimp only)

theorem State.reject_via (s : State) (p : Nat) : Via 4398046512128 s (State.reject s p) := by
  unfold State.reject
  repeat' first
    | with_reducible exact Via.refl _
    | with_reducible assumption
    | decide +kernel
    | (intro x; refine Via.cutLet (m := 4398046512128) (s := s) (t := x) ?_ ?_)
    | (refine fun hx => ?_; clear_value x)
    | intro x
    | with_reducible apply Via.incr
    | with_reducible apply Via.then (State.send_via ..)
    | split
    | (dsimp only [x]; split)
    | (dsimp +zetaDelta only; split)
    | (dsimp only)

theorem State.unsupported_via (s : State) (p : Nat) : Via 4398046512128 s (State.unsupported s p) := by
  unfold State.unsupported
  repeat' first
    | with_reducible exact Via.refl _
    | with_reducible assumption
    | decide +kernel
    | (intro x; refine Via.cutLet (m := 4398046512128) (s := s) (t := x) ?_ ?_)
    | (refine fun hx => ?_; clear_value x)
    | intro x
    | with_reducible apply Via.ite
    | with_reducible apply Via.then (State.reject_via ..)
    | with_reducible apply Via.then (State.send_via ..)
    | split
    | (dsimp only [x]; split)
    | (dsimp +zetaDelta only; split)
    | (dsimp only)

theorem State.ownBegin_via (s : State) (p : Nat) (o : PdOwn) : Via 4398046512128 s (State.ownBegin s p o) := by
  unfold State.ownBegin
  repeat' first
    | with_reducible exact Via.refl _
    | with_reducible assumption
    | decide +kernel
    | (intro x; refine Via.cutLet (m := 4398046512128) (s := s) (t := x) ?_ ?_)
    | (refine fun hx => ?_; clear_value x)
    | intro x
    | with_reducible apply Via.put
    | with_reducible apply Via.then (State.updPd_via ..)
    | split
    | (dsimp only [x]; split)
    | (dsimp +zetaDelta only; split)
    | (dsimp only)

theorem State.ownDone_via (s : State) (p : Nat) : Via 4398046512128 s (State.ownDone s p) := by
  unfold State.ownDone
  repeat' first
    | with_reducible exact Via.refl _
    | with_reducible assumption
    | decide +kernel
    | (intro x; refine Via.cutLet (m := 4398046512128) (s := s) (t := x) ?_ ?_)
    | (refine fun hx => ?_; clear_value x)
    | intro x
    | with_reducible apply Via.put
    | with_reducible apply Via.then (State.updPd_via ..)
    | split
    | (dsimp only [x]; split)
    | (dsimp +zetaDelta only; split)
    | (dsimp only)

theorem State.softReset_via (s : State) (p : Nat) : Via 4398046512128 s (State.softReset s p) := by
  unfold State.softReset
  repeat' first
    | with_reducible exact Via.refl _
    | with_reducible assumption
    | decide +kernel
    | (intro x; refine Via.cutLet (m := 4398046512128) (s := s) (t := x) ?_ ?_)
    | (refine fun hx => ?_; clear_value x)
    | intro x
    | with_reducible apply Via.incr
    | with_reducible apply Via.then (State.ownBegin_via ..)
    | with_reducible apply Via.then (State.updPd_via ..)
    | with_reducible apply Via.then (State.send_via ..)
    | split
    | (dsimp only [x]; split)
    | (dsimp +zetaDelta only; split)
    | (dsimp only)

theorem State.waitRequest_via (s : State) (p : Nat) (due : Bool) : Via 4398046512128 s (State.waitRequest s p due) := by
  unfold State.waitRequest
  repeat' first
    | with_reducible exact Via.refl _
    | with_reducible assumption
    | decide +kernel
    | (intro x; refine Via.cutLet (m := 4398046512128) (s := s) (t := x) ?_ ?_)
    | (refine fun hx => ?_; clear_value x)
    | intro x
    | lift_lets
    | with_reducible apply Via.put
    | with_reducible apply Via.incr
    | with_reducible apply Via.then (State.updPd_via ..)
    | with_reducible apply Via.then (State.send_via ..)
    | split
    | (dsimp only [x]; split)
    | (dsimp +zetaDelta only; split)
    | (dsimp only)

theorem State.rejectRequest_via (s : State) (p : Nat) : Via 4398046512128 s (State.rejectRequest s p) := by
  unfold State.rejectRequest
  repeat' first
    | with_reducible exact Via.refl _
    | with_reducible assumption
    | decide +kernel
    | (intro x; refine Via.cutLet (m := 4398046512128) (s := s) (t := x) ?_ ?_)
    | (refine fun hx => ?_; clear_value x)
    | intro x
    | lift_lets
    | with_reducible apply Via.put
    | with_reducible apply Via.then (State.reject_via ..)
    | with_reducible apply Via.then (State.updPd_via ..)
    | split
    | (dsimp only [x]; split)
    | (dsimp +zetaDelta only; split)
    | (dsimp only)

theorem State.eprLeft_via (s : State) (p pos : Nat) : Via 4398046512128 s (State.eprLeft s p pos) := by
  unfold State.eprLeft
  repeat' first
    | with_reducible exact Via.refl _
    | with_reducible assumption
    | decide +kernel
    | (intro x; refine Via.cutLet (m := 4398046512128) (s := s) (t := x) ?_ ?_)
    | (refine fun hx => ?_; clear_value x)
    | intro x
    | with_reducible apply Via.put
    | with_reducible apply Via.ite
    | with_reducible apply Via.then (State.updPd_via ..)
    | with_reducible apply Via.then (State.send_via ..)
    | split
    | (dsimp only [x]; split)
    | (dsimp +zetaDelta only; split)
    | (dsimp only)

theorem State.request_via (s : State) (p : Nat) (epr : Bool) (pos volt curr : Nat) (eprCapable : Bool) : Via 57175678995456 s (State.request s p epr pos volt curr eprCapable) := by
  unfold State.request
  repeat' first
    | with_reducible exact Via.refl _
    | with_reducible assumption
    | decide +kernel
    | (intro g; refine Via.cutFun (m := 57175678995456) (g := g) (fun s => ?_) ?_; on_goal 1 => dsimp only [g])
    | (intro g; refine Via.cutFunTwo (m := 57175678995456) (g := g) (fun s _ => ?_) ?_; on_goal 1 => dsimp only [g])
    | (refine fun hg => ?_; clear_value g)
    | (refine Via.trans ?_ (hg ..))
    | (intro x; refine Via.cutLet (m := 57175678995456) (s := s) (t := x) ?_ ?_)
    | (refine fun hx => ?_; clear_value x)
    | intro x
    | lift_lets
    | with_reducible apply Via.put
    | with_reducible apply Via.incr
    | with_reducible apply Via.ite
    | with_reducible apply Via.then (State.rejectRequest_via ..)
    | with_reducible apply Via.then (State.spendCredit_via ..)
    | with_reducible apply Via.then (State.waitRequest_via ..)
    | with_reducible apply Via.then (State.vsetUpdate_via ..)
    | with_reducible apply Via.then (State.govRefresh_via ..)
    | with_reducible apply Via.then (State.softReset_via ..)
    | with_reducible apply Via.then (State.eprLeft_via ..)
    | with_reducible apply Via.then (State.updGov_via ..)
    | with_reducible apply Via.then (State.updPd_via ..)
    | with_reducible apply Via.then (State.send_via ..)
    | (dsimp +zetaDelta only []; split <;> decide +kernel)
    | (split <;> decide +kernel)
    | split
    | (dsimp only [x]; split)
    | (dsimp +zetaDelta only; split)
    | with_reducible apply Via.set_power
    | (dsimp only)

theorem State.contractMade_via (s : State) (p : Nat) (o : Offer) (source : Bool) : Via 322156941037056 s (State.contractMade s p o source) := by
  unfold State.contractMade
  repeat' first
    | with_reducible exact Via.refl _
    | with_reducible assumption
    | decide +kernel
    | (intro x; refine Via.cutLet (m := 322156941037056) (s := s) (t := x) ?_ ?_)
    | (refine fun hx => ?_; clear_value x)
    | intro x
    | lift_lets
    | with_reducible apply Via.setFld
    | with_reducible apply Via.put
    | with_reducible apply Via.incr
    | with_reducible apply Via.ite
    | with_reducible apply Via.then (State.govRefresh_via ..)
    | with_reducible apply Via.then (State.notice_via ..)
    | with_reducible apply Via.then (State.levels_via ..)
    | with_reducible apply Via.then (State.updGov_via ..)
    | with_reducible apply Via.then (State.updPd_via ..)
    | split
    | (dsimp only [x]; split)
    | (dsimp +zetaDelta only; split)
    | (dsimp only)

theorem State.afterContract_via (s : State) (p : Nat) : Via 4398046511104 s (State.afterContract s p) := by
  unfold State.afterContract
  repeat' first
    | with_reducible exact Via.refl _
    | with_reducible assumption
    | decide +kernel
    | (intro x; refine Via.cutLet (m := 4398046511104) (s := s) (t := x) ?_ ?_)
    | (refine fun hx => ?_; clear_value x)
    | intro x
    | with_reducible apply Via.then (State.updPd_via ..)
    | with_reducible apply Via.then (State.send_via ..)
    | (dsimp +zetaDelta only []; split <;> decide +kernel)
    | (split <;> decide +kernel)
    | split
    | (dsimp only [x]; split)
    | (dsimp +zetaDelta only; split)
    | (dsimp only)

theorem State.eprEnter_via (s : State) (p : Nat) : Via 6597069767680 s (State.eprEnter s p) := by
  unfold State.eprEnter
  repeat' first
    | with_reducible exact Via.refl _
    | with_reducible assumption
    | decide +kernel
    | (intro x; refine Via.cutLet (m := 6597069767680) (s := s) (t := x) ?_ ?_)
    | (refine fun hx => ?_; clear_value x)
    | intro x
    | lift_lets
    | with_reducible apply Via.ite
    | with_reducible apply Via.then (State.softReset_via ..)
    | with_reducible apply Via.then (State.discGo_via ..)
    | with_reducible apply Via.then (State.updPd_via ..)
    | with_reducible apply Via.then (State.send_via ..)
    | split
    | (dsimp only [x]; split)
    | (dsimp +zetaDelta only; split)
    | (dsimp only)

theorem State.eprCheck_via (s : State) (p : Nat) : Via 4398046512128 s (State.eprCheck s p) := by
  unfold State.eprCheck
  repeat' first
    | with_reducible exact Via.refl _
    | with_reducible assumption
    | decide +kernel
    | (intro x; refine Via.cutLet (m := 4398046512128) (s := s) (t := x) ?_ ?_)
    | (refine fun hx => ?_; clear_value x)
    | intro x
    | lift_lets
    | with_reducible apply Via.put
    | with_reducible apply Via.incr
    | with_reducible apply Via.ite
    | with_reducible apply Via.then (State.offerSent_via ..)
    | with_reducible apply Via.then (State.updPd_via ..)
    | with_reducible apply Via.then (State.send_via ..)
    | split
    | (dsimp only [x]; split)
    | (dsimp +zetaDelta only; split)
    | (dsimp only)

theorem State.eprExitBySink_via (s : State) (p : Nat) : Via 288572324310437568 s (State.eprExitBySink s p) := by
  unfold State.eprExitBySink
  repeat' first
    | with_reducible exact Via.refl _
    | with_reducible assumption
    | decide +kernel
    | (intro x; refine Via.cutLet (m := 288572324310437568) (s := s) (t := x) ?_ ?_)
    | (refine fun hx => ?_; clear_value x)
    | intro x
    | with_reducible apply Via.put
    | with_reducible apply Via.ite
    | with_reducible apply Via.then (State.hardReset_via ..)
    | with_reducible apply Via.then (State.offerSent_via ..)
    | with_reducible apply Via.then (State.softReset_via ..)
    | with_reducible apply Via.then (State.updPd_via ..)
    | split
    | (dsimp only [x]; split)
    | (dsimp +zetaDelta only; split)
    | (dsimp only)

theorem State.sinkTx_via (s : State) (p : Nat) : Via 1024 s (State.sinkTx s p) := by
  unfold State.sinkTx
  repeat' first
    | with_reducible exact Via.refl _
    | with_reducible assumption
    | decide +kernel
    | (intro x; refine Via.cutLet (m := 1024) (s := s) (t := x) ?_ ?_)
    | (refine fun hx => ?_; clear_value x)
    | intro x
    | with_reducible apply Via.setFld
    | with_reducible apply Via.ite
    | split
    | (dsimp only [x]; split)
    | (dsimp +zetaDelta only; split)
    | (dsimp only)

theorem pdSettle_via (p : Nat) (s : State) : Via 2256197860197376 s (pdSettle p s) := by
  unfold pdSettle
  repeat' first
    | with_reducible exact Via.refl _
    | with_reducible assumption
    | decide +kernel
    | (intro x; refine Via.cutLet (m := 2256197860197376) (s := s) (t := x) ?_ ?_)
    | (refine fun hx => ?_; clear_value x)
    | intro x
    | lift_lets
    | with_reducible apply Via.ite
    | with_reducible apply Via.then (State.offerSent_via ..)
    | with_reducible apply Via.then (State.ownBegin_via ..)
    | with_reducible apply Via.then (State.actuated_via ..)
    | with_reducible apply Via.then (State.sinkTx_via ..)
    | with_reducible apply Via.then (State.updPd_via ..)
    | with_reducible apply Via.then (State.send_via ..)
    | split
    | (dsimp only [x]; split)
    | (dsimp +zetaDelta only; split)
    | (dsimp only)

theorem State.offerAnew_via (s : State) (p : Nat) : Via 2256197860197376 s (State.offerAnew s p) := by
  unfold State.offerAnew
  repeat' first
    | with_reducible exact Via.refl _
    | with_reducible assumption
    | decide +kernel
    | (intro x; refine Via.cutLet (m := 2256197860197376) (s := s) (t := x) ?_ ?_)
    | (refine fun hx => ?_; clear_value x)
    | intro x
    | with_reducible apply Via.ite
    | with_reducible apply Via.then (State.updPd_via ..)
    | with_reducible apply Via.then (State.hush_via ..)
    | with_reducible apply Via.then (pdSettle_via ..)
    | split
    | (dsimp only [x]; split)
    | (dsimp +zetaDelta only; split)
    | (dsimp only)

theorem State.pcapFell_via (s : State) (p : Nat) : Via 2256197860197376 s (State.pcapFell s p) := by
  unfold State.pcapFell
  repeat' first
    | with_reducible exact Via.refl _
    | with_reducible assumption
    | decide +kernel
    | (intro x; refine Via.cutLet (m := 2256197860197376) (s := s) (t := x) ?_ ?_)
    | (refine fun hx => ?_; clear_value x)
    | intro x
    | with_reducible apply Via.ite
    | with_reducible apply Via.then (State.offerAnew_via ..)
    | with_reducible apply Via.then (State.updPd_via ..)
    | split
    | (dsimp only [x]; split)
    | (dsimp +zetaDelta only; split)
    | (dsimp only)

theorem State.toSinkAgreed_via (s : State) (p : Nat) : Via 288572324310437568 s (State.toSinkAgreed s p) := by
  unfold State.toSinkAgreed
  repeat' first
    | with_reducible exact Via.refl _
    | with_reducible assumption
    | decide +kernel
    | (intro x; refine Via.cutLet (m := 288572324310437568) (s := s) (t := x) ?_ ?_)
    | (refine fun hx => ?_; clear_value x)
    | intro x
    | with_reducible apply Via.put
    | with_reducible apply Via.then (State.takeClaim_via ..)
    | with_reducible apply Via.then (State.updPd_via ..)
    | split
    | (dsimp only [x]; split)
    | (dsimp +zetaDelta only; split)
    | (dsimp only)

theorem State.toSourceAgreed_via (s : State) (p : Nat) : Via 339749127081472 s (State.toSourceAgreed s p) := by
  unfold State.toSourceAgreed
  repeat' first
    | with_reducible exact Via.refl _
    | with_reducible assumption
    | decide +kernel
    | (intro x; refine Via.cutLet (m := 339749127081472) (s := s) (t := x) ?_ ?_)
    | (refine fun hx => ?_; clear_value x)
    | intro x
    | lift_lets
    | with_reducible apply Via.put
    | with_reducible apply Via.then (State.contractEnd_via ..)
    | with_reducible apply Via.then (State.sinkOpen_via ..)
    | with_reducible apply Via.then (State.updPd_via ..)
    | split
    | (dsimp only [x]; split)
    | (dsimp +zetaDelta only; split)
    | (dsimp only)

theorem State.prSwap_via (s : State) (p : Nat) (rivals : List Nat) : Via 288572324310437568 s (State.prSwap s p rivals) := by
  unfold State.prSwap
  repeat' first
    | with_reducible exact Via.refl _
    | with_reducible assumption
    | decide +kernel
    | (intro x; refine Via.cutLet (m := 288572324310437568) (s := s) (t := x) ?_ ?_)
    | (refine fun hx => ?_; clear_value x)
    | intro x
    | with_reducible apply Via.ite
    | with_reducible apply Via.then (State.toSourceAgreed_via ..)
    | with_reducible apply Via.then (State.toSinkAgreed_via ..)
    | with_reducible apply Via.then (State.reject_via ..)
    | with_reducible apply Via.then (State.send_via ..)
    | (dsimp +zetaDelta only []; split <;> decide +kernel)
    | (split <;> decide +kernel)
    | split
    | (dsimp only [x]; split)
    | (dsimp +zetaDelta only; split)
    | (dsimp only)

theorem State.swapOver_via (s : State) (p : Nat) (e : SwapEnd) : Via 4398046512128 s (State.swapOver s p e) := by
  unfold State.swapOver
  repeat' first
    | with_reducible exact Via.refl _
    | with_reducible assumption
    | decide +kernel
    | (intro x; refine Via.cutLet (m := 4398046512128) (s := s) (t := x) ?_ ?_)
    | (refine fun hx => ?_; clear_value x)
    | intro x
    | with_reducible apply Via.put
    | with_reducible apply Via.ite
    | with_reducible apply Via.then (State.updPd_via ..)
    | split
    | (dsimp only [x]; split)
    | (dsimp +zetaDelta only; split)
    | (dsimp only)

theorem State.vconnTake_via (s : State) (p : Nat) (trips : Bool) : Via 432687512386293440 s (State.vconnTake s p trips) := by
  unfold State.vconnTake
  repeat' first
    | with_reducible exact Via.refl _
    | with_reducible assumption
    | decide +kernel
    | (intro x; refine Via.cutLet (m := 432687512386293440) (s := s) (t := x) ?_ ?_)
    | (refine fun hx => ?_; clear_value x)
    | intro x
    | lift_lets
    | with_reducible apply Via.put
    | with_reducible apply Via.incr
    | with_reducible apply Via.ite
    | with_reducible apply Via.then (State.vconnTripped_via ..)
    | with_reducible apply Via.then (State.hardReset_via ..)
    | with_reducible apply Via.then (State.swapOver_via ..)
    | with_reducible apply Via.then (State.vconnOn_via ..)
    | with_reducible apply Via.then (State.send_via ..)
    | split
    | (dsimp only [x]; split)
    | (dsimp +zetaDelta only; split)
    | (dsimp only)

theorem State.vconnTaking_via (s : State) (p : Nat) : Via 4398046512128 s (State.vconnTaking s p) := by
  unfold State.vconnTaking
  repeat' first
    | with_reducible exact Via.refl _
    | with_reducible assumption
    | decide +kernel
    | (intro x; refine Via.cutLet (m := 4398046512128) (s := s) (t := x) ?_ ?_)
    | (refine fun hx => ?_; clear_value x)
    | intro x
    | with_reducible apply Via.put
    | with_reducible apply Via.then (State.vconnOn_via ..)
    | with_reducible apply Via.then (State.updPd_via ..)
    | split
    | (dsimp only [x]; split)
    | (dsimp +zetaDelta only; split)
    | (dsimp only)

theorem State.vconnTaken_via (s : State) (p : Nat) : Via 4398046512128 s (State.vconnTaken s p) := by
  unfold State.vconnTaken
  repeat' first
    | with_reducible exact Via.refl _
    | with_reducible assumption
    | decide +kernel
    | (intro x; refine Via.cutLet (m := 4398046512128) (s := s) (t := x) ?_ ?_)
    | (refine fun hx => ?_; clear_value x)
    | intro x
    | with_reducible apply Via.incr
    | with_reducible apply Via.then (State.swapOver_via ..)
    | with_reducible apply Via.then (State.send_via ..)
    | with_reducible apply Via.then (State.hush_via ..)
    | split
    | (dsimp only [x]; split)
    | (dsimp +zetaDelta only; split)
    | (dsimp only)

theorem execVconnApply_via (p : Nat) (s : State) : ∃ t, execVconnApply p s = .next t ∧ Via 2256197860197376 s t := by
  refine ⟨_, rfl, ?_⟩
  repeat' first
    | with_reducible exact Via.refl _
    | with_reducible assumption
    | decide +kernel
    | (intro x; refine Via.cutLet (m := 2256197860197376) (s := s) (t := x) ?_ ?_)
    | (refine fun hx => ?_; clear_value x)
    | intro x
    | with_reducible apply Via.ite
    | with_reducible apply Via.then (State.vconnTaking_via ..)
    | with_reducible apply Via.then (State.vconnTaken_via ..)
    | with_reducible apply Via.then (State.vconnTry_via ..)
    | with_reducible apply Via.then (pdSettle_via ..)
    | (dsimp +zetaDelta only []; split <;> decide +kernel)
    | (split <;> decide +kernel)
    | split
    | (dsimp only [x]; split)
    | (dsimp +zetaDelta only; split)
    | (dsimp only)

theorem State.vconnSwap_via (s : State) (p : Nat) (trips : Bool) : Via 432687512386293440 s (State.vconnSwap s p trips) := by
  unfold State.vconnSwap
  repeat' first
    | with_reducible exact Via.refl _
    | with_reducible assumption
    | decide +kernel
    | (intro x; refine Via.cutLet (m := 432687512386293440) (s := s) (t := x) ?_ ?_)
    | (refine fun hx => ?_; clear_value x)
    | intro x
    | with_reducible apply Via.put
    | with_reducible apply Via.ite
    | with_reducible apply Via.then (State.vconnTake_via ..)
    | with_reducible apply Via.then (State.reject_via ..)
    | with_reducible apply Via.then (State.updPd_via ..)
    | with_reducible apply Via.then (State.send_via ..)
    | split
    | (dsimp only [x]; split)
    | (dsimp +zetaDelta only; split)
    | (dsimp only)

theorem State.prSwapSend_via (s : State) (p : Nat) : Via 288572324310437568 s ((State.prSwapSend s p).getD s) := by
  unfold State.prSwapSend
  repeat' first
    | with_reducible exact Via.refl _
    | with_reducible assumption
    | decide +kernel
    | (intro x; refine Via.cutLet (m := 288572324310437568) (s := s) (t := x) ?_ ?_)
    | (refine fun hx => ?_; clear_value x)
    | intro x
    | lift_lets
    | with_reducible apply Via.put
    | with_reducible apply Via.ite
    | with_reducible apply Via.then (State.takeClaim_via ..)
    | with_reducible apply Via.then (State.prSwap_via ..)
    | with_reducible apply Via.then (State.updPd_via ..)
    | with_reducible apply Via.then (State.send_via ..)
    | (dsimp +zetaDelta only []; split <;> decide +kernel)
    | (split <;> decide +kernel)
    | split
    | (dsimp only [x]; split)
    | (dsimp +zetaDelta only; split)
    | (dsimp only)
    | dsimp only [Option.getD]

theorem State.prSwapSend_via' {s : State} {p : Nat} {t : State} (h : State.prSwapSend s p = some t) : Via 288572324310437568 s t := by
  have d := State.prSwapSend_via s p
  rw [h] at d
  exact d

theorem State.vconnSwapSend_via (s : State) (p : Nat) : Via 432687512386293440 s ((State.vconnSwapSend s p).getD s) := by
  unfold State.vconnSwapSend
  repeat' first
    | with_reducible exact Via.refl _
    | with_reducible assumption
    | decide +kernel
    | (intro x; refine Via.cutLet (m := 432687512386293440) (s := s) (t := x) ?_ ?_)
    | (refine fun hx => ?_; clear_value x)
    | intro x
    | with_reducible apply Via.put
    | with_reducible apply Via.ite
    | with_reducible apply Via.then (State.vconnSwap_via ..)
    | with_reducible apply Via.then (State.updPd_via ..)
    | with_reducible apply Via.then (State.send_via ..)
    | split
    | (dsimp only [x]; split)
    | (dsimp +zetaDelta only; split)
    | (dsimp only)
    | dsimp only [Option.getD]

theorem State.vconnSwapSend_via' {s : State} {p : Nat} {t : State} (h : State.vconnSwapSend s p = some t) : Via 432687512386293440 s t := by
  have d := State.vconnSwapSend_via s p
  rw [h] at d
  exact d

theorem State.swapDropped_via (s : State) (p : Nat) (e : SwapEnd) : Via 288572324310437568 s (State.swapDropped s p e) := by
  unfold State.swapDropped
  repeat' first
    | with_reducible exact Via.refl _
    | with_reducible assumption
    | decide +kernel
    | (intro x; refine Via.cutLet (m := 288572324310437568) (s := s) (t := x) ?_ ?_)
    | (refine fun hx => ?_; clear_value x)
    | intro x
    | lift_lets
    | with_reducible apply Via.ite
    | with_reducible apply Via.then (State.releaseClaim_via ..)
    | with_reducible apply Via.then (State.swapOver_via ..)
    | (dsimp +zetaDelta only []; split <;> decide +kernel)
    | (split <;> decide +kernel)
    | split
    | (dsimp only [x]; split)
    | (dsimp +zetaDelta only; split)
    | (dsimp only)

theorem State.swapPsRdy_via (s : State) (p : Nat) : Via 59373628441600 s (State.swapPsRdy s p) := by
  unfold State.swapPsRdy
  repeat' first
    | with_reducible exact Via.refl _
    | with_reducible assumption
    | decide +kernel
    | (intro x; refine Via.cutLet (m := 59373628441600) (s := s) (t := x) ?_ ?_)
    | (refine fun hx => ?_; clear_value x)
    | intro x
    | lift_lets
    | with_reducible apply Via.put
    | with_reducible apply Via.incr
    | with_reducible apply Via.ite
    | with_reducible apply Via.then (State.rpEvaluate_via ..)
    | with_reducible apply Via.then (State.swapOver_via ..)
    | with_reducible apply Via.then (State.vconnOff_via ..)
    | with_reducible apply Via.then (State.updPwr_via ..)
    | with_reducible apply Via.then (State.updPd_via ..)
    | with_reducible apply Via.then (State.send_via ..)
    | (dsimp +zetaDelta only []; split <;> decide +kernel)
    | (split <;> decide +kernel)
    | split
    | (dsimp only [x]; split)
    | (dsimp +zetaDelta only; split)
    | (dsimp only)

theorem State.sinkAsk_via (s : State) (p pos w v c object : Nat) : Via 57175678995456 s (State.sinkAsk s p pos w v c object) := by
  unfold State.sinkAsk
  repeat' first
    | with_reducible exact Via.refl _
    | with_reducible assumption
    | decide +kernel
    | (intro g; refine Via.cutFun (m := 57175678995456) (g := g) (fun s => ?_) ?_; on_goal 1 => dsimp only [g])
    | (intro g; refine Via.cutFunTwo (m := 57175678995456) (g := g) (fun s _ => ?_) ?_; on_goal 1 => dsimp only [g])
    | (refine fun hg => ?_; clear_value g)
    | (refine Via.trans ?_ (hg ..))
    | (intro x; refine Via.cutLet (m := 57175678995456) (s := s) (t := x) ?_ ?_)
    | (refine fun hx => ?_; clear_value x)
    | intro x
    | lift_lets
    | with_reducible apply Via.put
    | with_reducible apply Via.then (State.request_via ..)
    | with_reducible apply Via.then (State.updPd_via ..)
    | with_reducible apply Via.then (State.send_via ..)
    | split
    | (dsimp only [x]; split)
    | (dsimp +zetaDelta only; split)
    | with_reducible apply Via.set_power
    | (dsimp only)

theorem State.sinkRequest_via (s : State) (p : Nat) (objs : List Nat) : Via 57175678995456 s (State.sinkRequest s p objs) := by
  unfold State.sinkRequest
  repeat' first
    | with_reducible exact Via.refl _
    | with_reducible assumption
    | decide +kernel
    | (intro x; refine Via.cutLet (m := 57175678995456) (s := s) (t := x) ?_ ?_)
    | (refine fun hx => ?_; clear_value x)
    | intro x
    | lift_lets
    | with_reducible apply Via.ite
    | with_reducible apply Via.then (State.sinkAsk_via ..)
    | (dsimp +zetaDelta only []; split <;> decide +kernel)
    | (split <;> decide +kernel)
    | split
    | (dsimp only [x]; split)
    | (dsimp +zetaDelta only; split)
    | (dsimp only)

theorem State.sinkAccept_via (s : State) (p : Nat) : Via 21990233082880 s (State.sinkAccept s p) := by
  unfold State.sinkAccept
  repeat' first
    | with_reducible exact Via.refl _
    | with_reducible assumption
    | decide +kernel
    | (intro x; refine Via.cutLet (m := 21990233082880) (s := s) (t := x) ?_ ?_)
    | (refine fun hx => ?_; clear_value x)
    | intro x
    | with_reducible apply Via.ite
    | with_reducible apply Via.then (State.sinkOpen_via ..)
    | with_reducible apply Via.then (State.updPd_via ..)
    | split
    | (dsimp only [x]; split)
    | (dsimp +zetaDelta only; split)
    | (dsimp only)

theorem State.sinkPsRdy_via (s : State) (p : Nat) (o : Offer) : Via 322156941037056 s (State.sinkPsRdy s p o) := by
  unfold State.sinkPsRdy
  repeat' first
    | with_reducible exact Via.refl _
    | with_reducible assumption
    | decide +kernel
    | (intro x; refine Via.cutLet (m := 322156941037056) (s := s) (t := x) ?_ ?_)
    | (refine fun hx => ?_; clear_value x)
    | intro x
    | lift_lets
    | with_reducible apply Via.incr
    | with_reducible apply Via.ite
    | with_reducible apply Via.then (State.afterContract_via ..)
    | with_reducible apply Via.then (State.contractMade_via ..)
    | with_reducible apply Via.then (State.swapOver_via ..)
    | (dsimp +zetaDelta only []; split <;> decide +kernel)
    | (split <;> decide +kernel)
    | split
    | (dsimp only [x]; split)
    | (dsimp +zetaDelta only; split)
    | (dsimp only)

end Sys2Proof.Machine
end

