-- ==== Sys2Proof/Laws/ViaPwr.lean ====
section
/-! SUPPORT. What each operation of Machine/Pwr.lean can do to the state (see Laws/Via.lean). -/

namespace Sys2Proof.Machine

set_option linter.unusedTactic false
set_option linter.unreachableTactic false
set_option linter.unusedSimpArgs false
set_option linter.unusedVariables false

set_option Elab.async false

theorem State.softstart_via (s : State) (p : Nat) : Via 2304576372344832 s (State.softstart s p) := by
  unfold State.softstart
  repeat' first
    | with_reducible exact Via.refl _
    | with_reducible assumption
    | decide +kernel
    | (intro x; refine Via.cutLet (m := 2304576372344832) (s := s) (t := x) ?_ ?_)
    | (refine fun hx => ?_; clear_value x)
    | intro x
    | lift_lets
    | with_reducible apply Via.ite
    | with_reducible apply Via.then (State.actuated_via ..)
    | with_reducible apply Via.then (State.sagFold_via ..)
    | with_reducible apply Via.then (State.updPwr_via ..)
    | with_reducible apply Via.then (State.setPwr_via ..)
    | (dsimp +zetaDelta only []; split <;> decide +kernel)
    | (split <;> decide +kernel)
    | split
    | (dsimp only [x]; split)
    | (dsimp +zetaDelta only; split)
    | (dsimp only)

theorem execVbusRequest_via (p : Nat) (s : State) : ∃ t, execVbusRequest p s = .next t ∧ Via 2304576372344832 s t := by
  refine ⟨_, rfl, ?_⟩
  repeat' first
    | with_reducible exact Via.refl _
    | with_reducible assumption
    | decide +kernel
    | (intro x; refine Via.cutLet (m := 2304576372344832) (s := s) (t := x) ?_ ?_)
    | (refine fun hx => ?_; clear_value x)
    | intro x
    | with_reducible apply Via.ite
    | with_reducible apply Via.then (State.softstart_via ..)
    | split
    | (dsimp only [x]; split)
    | (dsimp +zetaDelta only; split)
    | (dsimp only)

theorem execSoftstartDone_via (p : Nat) (s : State) : ∃ t, execSoftstartDone p s = .next t ∧ Via 2304576372344832 s t := by
  refine ⟨_, rfl, ?_⟩
  repeat' first
    | with_reducible exact Via.refl _
    | with_reducible assumption
    | decide +kernel
    | (intro x; refine Via.cutLet (m := 2304576372344832) (s := s) (t := x) ?_ ?_)
    | (refine fun hx => ?_; clear_value x)
    | intro x
    | with_reducible apply Via.ite
    | with_reducible apply Via.then (State.softstart_via ..)
    | with_reducible apply Via.then (State.setPwr_via ..)
    | split
    | (dsimp only [x]; split)
    | (dsimp +zetaDelta only; split)
    | (dsimp only)

theorem execGateFullyOn_via (p : Nat) (s : State) : ∃ t, execGateFullyOn p s = .next t ∧ Via 17592186571776 s t := by
  refine ⟨_, rfl, ?_⟩
  repeat' first
    | with_reducible exact Via.refl _
    | with_reducible assumption
    | decide +kernel
    | (intro x; refine Via.cutLet (m := 17592186571776) (s := s) (t := x) ?_ ?_)
    | (refine fun hx => ?_; clear_value x)
    | intro x
    | with_reducible apply Via.put
    | with_reducible apply Via.ite
    | with_reducible apply Via.then (State.setPwr_via ..)
    | split
    | (dsimp only [x]; split)
    | (dsimp +zetaDelta only; split)
    | (dsimp only)

theorem execTqualComplete_via (p : Nat) (s : State) : ∃ t, execTqualComplete p s = .next t ∧ Via 17592186570752 s t := by
  refine ⟨_, rfl, ?_⟩
  repeat' first
    | with_reducible exact Via.refl _
    | with_reducible assumption
    | decide +kernel
    | (intro x; refine Via.cutLet (m := 17592186570752) (s := s) (t := x) ?_ ?_)
    | (refine fun hx => ?_; clear_value x)
    | intro x
    | with_reducible apply Via.ite
    | with_reducible apply Via.then (State.setPwr_via ..)
    | (dsimp +zetaDelta only []; split <;> decide +kernel)
    | (split <;> decide +kernel)
    | split
    | (dsimp only [x]; split)
    | (dsimp +zetaDelta only; split)
    | (dsimp only)

theorem execLimitEngage_via (p : Nat) (i : Int) (s : State) : ∃ t, execLimitEngage p i s = .next t ∧ Via 17592186570752 s t := by
  refine ⟨_, rfl, ?_⟩
  repeat' first
    | with_reducible exact Via.refl _
    | with_reducible assumption
    | decide +kernel
    | (intro x; refine Via.cutLet (m := 17592186570752) (s := s) (t := x) ?_ ?_)
    | (refine fun hx => ?_; clear_value x)
    | intro x
    | lift_lets
    | with_reducible apply Via.put
    | with_reducible apply Via.ite
    | with_reducible apply Via.then (State.setPwr_via ..)
    | split
    | (dsimp only [x]; split)
    | (dsimp +zetaDelta only; split)
    | (dsimp only)

theorem execFaultTimerExpiry_via (p : Nat) (s : State) : ∃ t, execFaultTimerExpiry p s = .next t ∧ Via 432687512386293440 s t := by
  refine ⟨_, rfl, ?_⟩
  repeat' first
    | with_reducible exact Via.refl _
    | with_reducible assumption
    | decide +kernel
    | (intro x; refine Via.cutLet (m := 432687512386293440) (s := s) (t := x) ?_ ?_)
    | (refine fun hx => ?_; clear_value x)
    | intro x
    | lift_lets
    | with_reducible apply Via.ite
    | with_reducible apply Via.then (State.protect_via ..)
    | with_reducible apply Via.then (State.updPwr_via ..)
    | split
    | (dsimp only [x]; split)
    | (dsimp +zetaDelta only; split)
    | (dsimp only)

theorem execFastTrip_via (p : Nat) (i : Int) (s : State) : ∃ t, execFastTrip p s i = .next t ∧ Via 432687512386293440 s t := by
  refine ⟨_, rfl, ?_⟩
  repeat' first
    | with_reducible exact Via.refl _
    | with_reducible assumption
    | decide +kernel
    | (intro x; refine Via.cutLet (m := 432687512386293440) (s := s) (t := x) ?_ ?_)
    | (refine fun hx => ?_; clear_value x)
    | intro x
    | with_reducible apply Via.ite
    | with_reducible apply Via.then (State.protect_via ..)
    | (dsimp +zetaDelta only []; split <;> decide +kernel)
    | (split <;> decide +kernel)
    | split
    | (dsimp only [x]; split)
    | (dsimp +zetaDelta only; split)
    | (dsimp only)

theorem execOverloadExhausted_via (p : Nat) (s : State) : ∃ t, execOverloadExhausted p s = .next t ∧ Via 17592186574848 s t := by
  refine ⟨_, rfl, ?_⟩
  repeat' first
    | with_reducible exact Via.refl _
    | with_reducible assumption
    | decide +kernel
    | (intro x; refine Via.cutLet (m := 17592186574848) (s := s) (t := x) ?_ ?_)
    | (refine fun hx => ?_; clear_value x)
    | intro x
    | lift_lets
    | with_reducible apply Via.setFld
    | with_reducible apply Via.put
    | with_reducible apply Via.incr
    | with_reducible apply Via.ite
    | with_reducible apply Via.then (State.updPwr_via ..)
    | with_reducible apply Via.then (State.irq_via ..)
    | (dsimp +zetaDelta only []; split <;> decide +kernel)
    | (split <;> decide +kernel)
    | split
    | (dsimp only [x]; split)
    | (dsimp +zetaDelta only; split)
    | (dsimp only)

theorem execOvldxClear_via (p : Nat) (s : State) : ∃ t, execOvldxClear p s = .next t ∧ Via 17592186050560 s t := by
  refine ⟨_, rfl, ?_⟩
  repeat' first
    | with_reducible exact Via.refl _
    | with_reducible assumption
    | decide +kernel
    | (intro x; refine Via.cutLet (m := 17592186050560) (s := s) (t := x) ?_ ?_)
    | (refine fun hx => ?_; clear_value x)
    | intro x
    | lift_lets
    | with_reducible apply Via.setFld
    | with_reducible apply Via.put
    | with_reducible apply Via.ite
    | with_reducible apply Via.then (State.updPwr_via ..)
    | split
    | (dsimp only [x]; split)
    | (dsimp +zetaDelta only; split)
    | (dsimp only)

theorem execVbusOvervoltage_via (p v : Nat) (s : State) : ∃ t, execVbusOvervoltage p s v = .next t ∧ Via 432687512386293440 s t := by
  refine ⟨_, rfl, ?_⟩
  repeat' first
    | with_reducible exact Via.refl _
    | with_reducible assumption
    | decide +kernel
    | (intro x; refine Via.cutLet (m := 432687512386293440) (s := s) (t := x) ?_ ?_)
    | (refine fun hx => ?_; clear_value x)
    | intro x
    | with_reducible apply Via.ite
    | with_reducible apply Via.then (State.protect_via ..)
    | split
    | (dsimp only [x]; split)
    | (dsimp +zetaDelta only; split)
    | (dsimp only)

theorem execReverseCurrent_via (p i : Nat) (s : State) : ∃ t, execReverseCurrent p s i = .next t ∧ Via 432687512386293440 s t := by
  refine ⟨_, rfl, ?_⟩
  repeat' first
    | with_reducible exact Via.refl _
    | with_reducible assumption
    | decide +kernel
    | (intro x; refine Via.cutLet (m := 432687512386293440) (s := s) (t := x) ?_ ?_)
    | (refine fun hx => ?_; clear_value x)
    | intro x
    | with_reducible apply Via.ite
    | with_reducible apply Via.then (State.protect_via ..)
    | split
    | (dsimp only [x]; split)
    | (dsimp +zetaDelta only; split)
    | (dsimp only)

theorem execBuckPeakFault_via (p : Nat) (s : State) : ∃ t, execBuckPeakFault p s = .next t ∧ Via 432687512386293440 s t := by
  refine ⟨_, rfl, ?_⟩
  repeat' first
    | with_reducible exact Via.refl _
    | with_reducible assumption
    | decide +kernel
    | (intro x; refine Via.cutLet (m := 432687512386293440) (s := s) (t := x) ?_ ?_)
    | (refine fun hx => ?_; clear_value x)
    | intro x
    | with_reducible apply Via.ite
    | with_reducible apply Via.then (State.protect_via ..)
    | split
    | (dsimp only [x]; split)
    | (dsimp +zetaDelta only; split)
    | (dsimp only)

theorem execVsetChange_via (p : Nat) (s : State) : ∃ t, execVsetChange p s = .next t ∧ Via 17592186570752 s t := by
  refine ⟨_, rfl, ?_⟩
  repeat' first
    | with_reducible exact Via.refl _
    | with_reducible assumption
    | decide +kernel
    | (intro x; refine Via.cutLet (m := 17592186570752) (s := s) (t := x) ?_ ?_)
    | (refine fun hx => ?_; clear_value x)
    | intro x
    | lift_lets
    | with_reducible apply Via.setFld
    | with_reducible apply Via.ite
    | with_reducible apply Via.then (State.vsetUpdate_via ..)
    | (dsimp +zetaDelta only []; split <;> decide +kernel)
    | (split <;> decide +kernel)
    | split
    | (dsimp only [x]; split)
    | (dsimp +zetaDelta only; split)
    | (dsimp only)

theorem execTransitionComplete_via (p : Nat) (s : State) : ∃ t, execTransitionComplete p s = .next t ∧ Via 17592186570752 s t := by
  refine ⟨_, rfl, ?_⟩
  repeat' first
    | with_reducible exact Via.refl _
    | with_reducible assumption
    | decide +kernel
    | (intro x; refine Via.cutLet (m := 17592186570752) (s := s) (t := x) ?_ ?_)
    | (refine fun hx => ?_; clear_value x)
    | intro x
    | with_reducible apply Via.ite
    | with_reducible apply Via.then (State.setPwr_via ..)
    | (dsimp +zetaDelta only []; split <;> decide +kernel)
    | (split <;> decide +kernel)
    | split
    | (dsimp only [x]; split)
    | (dsimp +zetaDelta only; split)
    | (dsimp only)

theorem execTransitionTimeout_via (p : Nat) (s : State) : ∃ t, execTransitionTimeout p s = .next t ∧ Via 432687512386293440 s t := by
  refine ⟨_, rfl, ?_⟩
  repeat' first
    | with_reducible exact Via.refl _
    | with_reducible assumption
    | decide +kernel
    | (intro x; refine Via.cutLet (m := 432687512386293440) (s := s) (t := x) ?_ ?_)
    | (refine fun hx => ?_; clear_value x)
    | intro x
    | with_reducible apply Via.ite
    | with_reducible apply Via.then (State.protect_via ..)
    | split
    | (dsimp only [x]; split)
    | (dsimp +zetaDelta only; split)
    | (dsimp only)

theorem execPpsUndervoltage_via (p : Nat) (s : State) : ∃ t, execPpsUndervoltage p s = .next t ∧ Via 432687512386293440 s t := by
  refine ⟨_, rfl, ?_⟩
  repeat' first
    | with_reducible exact Via.refl _
    | with_reducible assumption
    | decide +kernel
    | (intro x; refine Via.cutLet (m := 432687512386293440) (s := s) (t := x) ?_ ?_)
    | (refine fun hx => ?_; clear_value x)
    | intro x
    | with_reducible apply Via.ite
    | with_reducible apply Via.then (State.protect_via ..)
    | (dsimp +zetaDelta only []; split <;> decide +kernel)
    | (split <;> decide +kernel)
    | split
    | (dsimp only [x]; split)
    | (dsimp +zetaDelta only; split)
    | (dsimp only)

theorem execFetThermalTrip_via (p : Nat) (s : State) : ∃ t, execFetThermalTrip p s = .next t ∧ Via 432687512386297536 s t := by
  refine ⟨_, rfl, ?_⟩
  repeat' first
    | with_reducible exact Via.refl _
    | with_reducible assumption
    | decide +kernel
    | (intro x; refine Via.cutLet (m := 432687512386297536) (s := s) (t := x) ?_ ?_)
    | (refine fun hx => ?_; clear_value x)
    | intro x
    | lift_lets
    | with_reducible apply Via.setFld
    | with_reducible apply Via.ite
    | with_reducible apply Via.then (State.protect_via ..)
    | with_reducible apply Via.then (State.updPwr_via ..)
    | split
    | (dsimp only [x]; split)
    | (dsimp +zetaDelta only; split)
    | (dsimp only)

theorem execNtcFault_via (p : Nat) (short : Bool) (s : State) : ∃ t, execNtcFault p short s = .next t ∧ Via 432828249874648768 s t := by
  refine ⟨_, rfl, ?_⟩
  repeat' first
    | with_reducible exact Via.refl _
    | with_reducible assumption
    | decide +kernel
    | (intro x; refine Via.cutLet (m := 432828249874648768) (s := s) (t := x) ?_ ?_)
    | (refine fun hx => ?_; clear_value x)
    | intro x
    | lift_lets
    | with_reducible apply Via.setFld
    | with_reducible apply Via.ite
    | with_reducible apply Via.then (State.countFault_via ..)
    | with_reducible apply Via.then (State.raisePort_via ..)
    | with_reducible apply Via.then (State.protect_via ..)
    | with_reducible apply Via.then (State.updPwr_via ..)
    | (dsimp +zetaDelta only []; split <;> decide +kernel)
    | (split <;> decide +kernel)
    | split
    | (dsimp only [x]; split)
    | (dsimp +zetaDelta only; split)
    | with_reducible apply Via.set_ent
    | (dsimp only)

theorem State.setVin_via (s : State) (v : Nat) : Via 140737488363520 s (State.setVin s v) := by
  unfold State.setVin
  repeat' first
    | with_reducible exact Via.refl _
    | with_reducible assumption
    | decide +kernel
    | (intro x; refine Via.cutLet (m := 140737488363520) (s := s) (t := x) ?_ ?_)
    | (refine fun hx => ?_; clear_value x)
    | intro x
    | lift_lets
    | with_reducible apply Via.setFld
    | with_reducible apply Via.put
    | with_reducible apply Via.ite
    | split
    | (dsimp only [x]; split)
    | (dsimp +zetaDelta only; split)
    | with_reducible apply Via.set_ent
    | (dsimp only)

theorem execRetryStart_via (p : Nat) (s : State) : ∃ t, execRetryStart p s = .next t ∧ Via 2304576372344832 s t := by
  refine ⟨_, rfl, ?_⟩
  repeat' first
    | with_reducible exact Via.refl _
    | with_reducible assumption
    | decide +kernel
    | (intro x; refine Via.cutLet (m := 2304576372344832) (s := s) (t := x) ?_ ?_)
    | (refine fun hx => ?_; clear_value x)
    | intro x
    | with_reducible apply Via.incr
    | with_reducible apply Via.ite
    | with_reducible apply Via.then (State.softstart_via ..)
    | (dsimp +zetaDelta only []; split <;> decide +kernel)
    | (split <;> decide +kernel)
    | split
    | (dsimp only [x]; split)
    | (dsimp +zetaDelta only; split)
    | (dsimp only)

theorem execRetryReload_via (p : Nat) (s : State) : ∃ t, execRetryReload p s = .next t ∧ Via 2048 s t := by
  refine ⟨_, rfl, ?_⟩
  repeat' first
    | with_reducible exact Via.refl _
    | with_reducible assumption
    | decide +kernel
    | (intro x; refine Via.cutLet (m := 2048) (s := s) (t := x) ?_ ?_)
    | (refine fun hx => ?_; clear_value x)
    | intro x
    | with_reducible apply Via.setFld
    | with_reducible apply Via.ite
    | (dsimp +zetaDelta only []; split <;> decide +kernel)
    | (split <;> decide +kernel)
    | split
    | (dsimp only [x]; split)
    | (dsimp +zetaDelta only; split)
    | (dsimp only)

theorem State.dischargeDone_via (s : State) (p : Nat) : Via 288572324310441664 s (State.dischargeDone s p) := by
  unfold State.dischargeDone
  repeat' first
    | with_reducible exact Via.refl _
    | with_reducible assumption
    | decide +kernel
    | (intro x; refine Via.cutLet (m := 288572324310441664) (s := s) (t := x) ?_ ?_)
    | (refine fun hx => ?_; clear_value x)
    | intro x
    | lift_lets
    | with_reducible apply Via.setFld
    | with_reducible apply Via.ite
    | with_reducible apply Via.then (State.tryLeaveDisabled_via ..)
    | with_reducible apply Via.then (State.pwrUpdate_via ..)
    | with_reducible apply Via.then (State.setVbus_via ..)
    | with_reducible apply Via.then (State.setPwr_via ..)
    | with_reducible apply Via.then (State.updPd_via ..)
    | (dsimp +zetaDelta only []; split <;> decide +kernel)
    | (split <;> decide +kernel)
    | split
    | (dsimp only [x]; split)
    | (dsimp +zetaDelta only; split)
    | (dsimp only)

theorem execDischargeDone_via (p : Nat) (s : State) : ∃ t, execDischargeDone p s = .next t ∧ Via 288572324310441664 s t := by
  refine ⟨_, rfl, ?_⟩
  repeat' first
    | with_reducible exact Via.refl _
    | with_reducible assumption
    | decide +kernel
    | (intro x; refine Via.cutLet (m := 288572324310441664) (s := s) (t := x) ?_ ?_)
    | (refine fun hx => ?_; clear_value x)
    | intro x
    | with_reducible apply Via.ite
    | with_reducible apply Via.then (State.dischargeDone_via ..)
    | split
    | (dsimp only [x]; split)
    | (dsimp +zetaDelta only; split)
    | (dsimp only)

theorem execDischargeTimeout_via (p : Nat) (s : State) : ∃ t, execDischargeTimeout p s = .next t ∧ Via 144132780262426624 s t := by
  refine ⟨_, rfl, ?_⟩
  repeat' first
    | with_reducible exact Via.refl _
    | with_reducible assumption
    | decide +kernel
    | (intro x; refine Via.cutLet (m := 144132780262426624) (s := s) (t := x) ?_ ?_)
    | (refine fun hx => ?_; clear_value x)
    | intro x
    | lift_lets
    | with_reducible apply Via.setFld
    | with_reducible apply Via.ite
    | with_reducible apply Via.then (State.countFault_via ..)
    | with_reducible apply Via.then (State.raisePort_via ..)
    | with_reducible apply Via.then (State.updPwr_via ..)
    | with_reducible apply Via.then (State.irq_via ..)
    | split
    | (dsimp only [x]; split)
    | (dsimp +zetaDelta only; split)
    | (dsimp only)

theorem State.clrLatch_via (s : State) (p : Nat) : Via 288572324310437568 s (State.clrLatch s p) := by
  unfold State.clrLatch
  repeat' first
    | with_reducible exact Via.refl _
    | with_reducible assumption
    | decide +kernel
    | (intro x; refine Via.cutLet (m := 288572324310437568) (s := s) (t := x) ?_ ?_)
    | (refine fun hx => ?_; clear_value x)
    | intro x
    | with_reducible apply Via.ite
    | with_reducible apply Via.then (State.latchRefused_via ..)
    | with_reducible refine Via.then (State.clearLatch_via' (by assumption)) (by decide +kernel) ?_
    | with_reducible apply Via.then (State.clearLatch_via ..)
    | (dsimp +zetaDelta only []; split <;> decide +kernel)
    | (split <;> decide +kernel)
    | split
    | (dsimp only [x]; split)
    | (dsimp +zetaDelta only; split)
    | (dsimp only)

theorem execClrlatch_via (p : Nat) (s : State) : ∃ t, execClrlatch p s = .next t ∧ Via 288572324310437568 s t := by
  refine ⟨_, rfl, ?_⟩
  repeat' first
    | with_reducible exact Via.refl _
    | with_reducible assumption
    | decide +kernel
    | (intro x; refine Via.cutLet (m := 288572324310437568) (s := s) (t := x) ?_ ?_)
    | (refine fun hx => ?_; clear_value x)
    | intro x
    | with_reducible apply Via.then (State.clrLatch_via ..)
    | split
    | (dsimp only [x]; split)
    | (dsimp +zetaDelta only; split)
    | (dsimp only)

theorem State.brdoffEnd_via (s : State) : Via 16384 s (State.brdoffEnd s) := by
  unfold State.brdoffEnd
  repeat' first
    | with_reducible exact Via.refl _
    | with_reducible assumption
    | decide +kernel
    | (intro x; refine Via.cutLet (m := 16384) (s := s) (t := x) ?_ ?_)
    | (refine fun hx => ?_; clear_value x)
    | intro x
    | with_reducible apply Via.put
    | with_reducible apply Via.ite
    | split
    | (dsimp only [x]; split)
    | (dsimp +zetaDelta only; split)
    | (dsimp only)

theorem State.voffWrite_via (s : State) (p : Nat) (b : Bool) : Via 339749127081472 s (State.voffWrite s p b) := by
  unfold State.voffWrite
  repeat' first
    | with_reducible exact Via.refl _
    | with_reducible assumption
    | decide +kernel
    | (intro x; refine Via.cutLet (m := 339749127081472) (s := s) (t := x) ?_ ?_)
    | (refine fun hx => ?_; clear_value x)
    | intro x
    | with_reducible apply Via.putBit
    | with_reducible apply Via.ite
    | with_reducible apply Via.then (State.voffClear_via ..)
    | with_reducible apply Via.then (State.brdoffEnd_via ..)
    | with_reducible apply Via.then (State.voffSet_via ..)
    | split
    | (dsimp only [x]; split)
    | (dsimp +zetaDelta only; split)
    | (dsimp only)

theorem execVoffWrite_via (p : Nat) (b : Bool) (s : State) :
    ∀ t, execVoffWrite p b s = .next t → Via 339749127081472 s t := by
  intro t ht
  obtain ⟨-, rfl⟩ := orUnpredictable_next ht
  clear ht
  repeat' first
    | with_reducible exact Via.refl _
    | with_reducible assumption
    | decide +kernel
    | (intro x; refine Via.cutLet (m := 339749127081472) (s := s) (t := x) ?_ ?_)
    | (refine fun hx => ?_; clear_value x)
    | intro x
    | with_reducible apply Via.ite
    | with_reducible apply Via.then (State.voffWrite_via ..)
    | split
    | (dsimp only [x]; split)
    | (dsimp +zetaDelta only; split)
    | (dsimp only)

theorem execSinkEntry_via (p : Nat) (s : State) : ∃ t, execSinkEntry p s = .next t ∧ Via 17592186571776 s t := by
  refine ⟨_, rfl, ?_⟩
  repeat' first
    | with_reducible exact Via.refl _
    | with_reducible assumption
    | decide +kernel
    | (intro x; refine Via.cutLet (m := 17592186571776) (s := s) (t := x) ?_ ?_)
    | (refine fun hx => ?_; clear_value x)
    | intro x
    | with_reducible apply Via.put
    | with_reducible apply Via.ite
    | with_reducible apply Via.then (State.setPwr_via ..)
    | split
    | (dsimp only [x]; split)
    | (dsimp +zetaDelta only; split)
    | (dsimp only)

theorem execSinkFault_via (p cause : Nat) (s : State) : ∃ t, execSinkFault p cause s = .next t ∧ Via 432687512386293440 s t := by
  refine ⟨_, rfl, ?_⟩
  repeat' first
    | with_reducible exact Via.refl _
    | with_reducible assumption
    | decide +kernel
    | (intro x; refine Via.cutLet (m := 432687512386293440) (s := s) (t := x) ?_ ?_)
    | (refine fun hx => ?_; clear_value x)
    | intro x
    | with_reducible apply Via.ite
    | with_reducible apply Via.then (State.sinkFault_via ..)
    | split
    | (dsimp only [x]; split)
    | (dsimp +zetaDelta only; split)
    | (dsimp only)

theorem execVbrdUvOv_via (n : Nat) (uv start : Bool) (s : State) : ∃ t, execVbrdUvOv n uv start s = .next t ∧ Via 432345564236486656 s t := by
  refine ⟨_, rfl, ?_⟩
  repeat' first
    | with_reducible exact Via.refl _
    | with_reducible assumption
    | decide +kernel
    | (intro x; refine Via.cutLet (m := 432345564236486656) (s := s) (t := x) ?_ ?_)
    | (refine fun hx => ?_; clear_value x)
    | intro x
    | lift_lets
    | with_reducible apply Via.put
    | with_reducible apply Via.ite
    | with_reducible apply Via.then (State.logPower_via ..)
    | with_reducible apply Via.then (State.raise_via ..)
    | with_reducible apply Via.then (State.irq_via ..)
    | (dsimp +zetaDelta only []; split <;> decide +kernel)
    | (split <;> decide +kernel)
    | split
    | (dsimp only [x]; split)
    | (dsimp +zetaDelta only; split)
    | (dsimp only)

theorem execFswStep_via (n : Nat) (s : State) : ∃ t, execFswStep n s = .next t ∧ Via 2048 s t := by
  refine ⟨_, rfl, ?_⟩
  repeat' first
    | with_reducible exact Via.refl _
    | with_reducible assumption
    | decide +kernel
    | (intro x; refine Via.cutLet (m := 2048) (s := s) (t := x) ?_ ?_)
    | (refine fun hx => ?_; clear_value x)
    | intro x
    | lift_lets
    | with_reducible apply Via.setFld
    | with_reducible apply Via.ite
    | split
    | (dsimp only [x]; split)
    | (dsimp +zetaDelta only; split)
    | (dsimp only)

end Sys2Proof.Machine
end

