-- ==== Sys2Proof/Laws/ViaPdMsg.lean ====
section
/-! SUPPORT. What each operation of Machine/PdMsg.lean can do to the state (see Laws/Via.lean). -/

namespace Sys2Proof.Machine

set_option linter.unusedTactic false
set_option linter.unreachableTactic false
set_option linter.unusedSimpArgs false
set_option linter.unusedVariables false

set_option Elab.async false

theorem State.rxStore_via (s : State) (p : Nat) (m : RxMsg) : Via 525312 s (State.rxStore s p m) := by
  unfold State.rxStore
  repeat' first
    | with_reducible exact Via.refl _
    | with_reducible assumption
    | decide +kernel
    | (intro x; refine Via.cutLet (m := 525312) (s := s) (t := x) ?_ ?_)
    | (refine fun hx => ?_; clear_value x)
    | intro x
    | lift_lets
    | with_reducible apply Via.setFld
    | with_reducible apply Via.put
    | with_reducible apply Via.then (State.ccIrq_via ..)
    | (with_reducible refine Via.each _ _ (fun s _ => ?_) ?_)
    | split
    | (dsimp only [x]; split)
    | (dsimp +zetaDelta only; split)
    | (dsimp only)

theorem State.holdRequest_via (s : State) (p pos volt curr : Nat) : Via 4398046512128 s (State.holdRequest s p pos volt curr) := by
  unfold State.holdRequest
  repeat' first
    | with_reducible exact Via.refl _
    | with_reducible assumption
    | decide +kernel
    | (intro x; refine Via.cutLet (m := 4398046512128) (s := s) (t := x) ?_ ?_)
    | (refine fun hx => ?_; clear_value x)
    | intro x
    | lift_lets
    | with_reducible apply Via.incr
    | with_reducible apply Via.ite
    | with_reducible apply Via.then (State.send_via ..)
    | (dsimp +zetaDelta only []; split <;> decide +kernel)
    | (split <;> decide +kernel)
    | split
    | (dsimp only [x]; split)
    | (dsimp +zetaDelta only; split)
    | (dsimp only)

theorem State.holdCaps_via (s : State) (p : Nat) (epr : Bool) : Via 4398046512128 s (State.holdCaps s p epr) := by
  unfold State.holdCaps
  repeat' first
    | with_reducible exact Via.refl _
    | with_reducible assumption
    | decide +kernel
    | (intro x; refine Via.cutLet (m := 4398046512128) (s := s) (t := x) ?_ ?_)
    | (refine fun hx => ?_; clear_value x)
    | intro x
    | lift_lets
    | with_reducible apply Via.ite
    | with_reducible apply Via.then (State.unsupported_via ..)
    | with_reducible apply Via.then (State.sendLong_via ..)
    | with_reducible apply Via.then (State.send_via ..)
    | split
    | (dsimp only [x]; split)
    | (dsimp +zetaDelta only; split)
    | (dsimp only)

theorem State.sendNew_via (s : State) (p : Nat) (m : PdMsg) : Via 4398046512128 s (State.sendNew s p m) := by
  unfold State.sendNew
  repeat' first
    | with_reducible exact Via.refl _
    | with_reducible assumption
    | decide +kernel
    | (intro x; refine Via.cutLet (m := 4398046512128) (s := s) (t := x) ?_ ?_)
    | (refine fun hx => ?_; clear_value x)
    | intro x
    | with_reducible apply Via.ite
    | with_reducible apply Via.then (State.reject_via ..)
    | with_reducible apply Via.then (State.send_via ..)
    | split
    | (dsimp only [x]; split)
    | (dsimp +zetaDelta only; split)
    | (dsimp only)

theorem State.holdAnswer_via (s : State) (p : Nat) (m : RxMsg) : Via 4398046512128 s (State.holdAnswer s p m) := by
  unfold State.holdAnswer
  repeat' first
    | with_reducible exact Via.refl _
    | with_reducible assumption
    | decide +kernel
    | (intro x; refine Via.cutLet (m := 4398046512128) (s := s) (t := x) ?_ ?_)
    | (refine fun hx => ?_; clear_value x)
    | intro x
    | lift_lets
    | with_reducible apply Via.incr
    | with_reducible apply Via.ite
    | with_reducible apply Via.then (State.holdRequest_via ..)
    | with_reducible apply Via.then (State.unsupported_via ..)
    | with_reducible apply Via.then (State.holdCaps_via ..)
    | with_reducible apply Via.then (State.sendNew_via ..)
    | with_reducible apply Via.then (State.reject_via ..)
    | with_reducible apply Via.then (State.send_via ..)
    | (dsimp +zetaDelta only []; split <;> decide +kernel)
    | (split <;> decide +kernel)
    | split
    | (dsimp only [x]; split)
    | (dsimp +zetaDelta only; split)
    | (dsimp only)

theorem State.queryDone_via (s : State) (p n : Nat) : Via 4398046512128 s (State.queryDone s p n) := by
  unfold State.queryDone
  repeat' first
    | with_reducible exact Via.refl _
    | with_reducible assumption
    | decide +kernel
    | (intro x; refine Via.cutLet (m := 4398046512128) (s := s) (t := x) ?_ ?_)
    | (refine fun hx => ?_; clear_value x)
    | intro x
    | with_reducible apply Via.put
    | with_reducible apply Via.then (State.updPd_via ..)
    | split
    | (dsimp only [x]; split)
    | (dsimp +zetaDelta only; split)
    | (dsimp only)

theorem State.answerReceived_via (s : State) (p typ : Nat) : Via 288572324310437568 s (State.answerReceived s p typ) := by
  unfold State.answerReceived
  repeat' first
    | with_reducible exact Via.refl _
    | with_reducible assumption
    | decide +kernel
    | (intro x; refine Via.cutLet (m := 288572324310437568) (s := s) (t := x) ?_ ?_)
    | (refine fun hx => ?_; clear_value x)
    | intro x
    | lift_lets
    | with_reducible apply Via.put
    | with_reducible apply Via.ite
    | with_reducible apply Via.then (State.toSourceAgreed_via ..)
    | with_reducible apply Via.then (State.toSinkAgreed_via ..)
    | with_reducible apply Via.then (State.swapDropped_via ..)
    | with_reducible apply Via.then (State.vconnTaking_via ..)
    | with_reducible apply Via.then (State.sinkAccept_via ..)
    | with_reducible apply Via.then (State.sinkPsRdy_via ..)
    | with_reducible apply Via.then (State.swapPsRdy_via ..)
    | with_reducible apply Via.then (State.softReset_via ..)
    | with_reducible apply Via.then (State.queryDone_via ..)
    | with_reducible apply Via.then (State.offerSent_via ..)
    | with_reducible apply Via.then (State.ownDone_via ..)
    | with_reducible apply Via.then (State.reject_via ..)
    | with_reducible apply Via.then (State.updPd_via ..)
    | (dsimp +zetaDelta only []; split <;> decide +kernel)
    | (split <;> decide +kernel)
    | split
    | (dsimp only [x]; split)
    | (dsimp +zetaDelta only; split)
    | (dsimp only)

theorem State.softResetReceived_via (s : State) (p : Nat) : Via 288572324310437568 s (State.softResetReceived s p) := by
  unfold State.softResetReceived
  repeat' first
    | with_reducible exact Via.refl _
    | with_reducible assumption
    | decide +kernel
    | (intro x; refine Via.cutLet (m := 288572324310437568) (s := s) (t := x) ?_ ?_)
    | (refine fun hx => ?_; clear_value x)
    | intro x
    | lift_lets
    | with_reducible apply Via.put
    | with_reducible apply Via.incr
    | with_reducible apply Via.ite
    | with_reducible apply Via.then (State.swapDropped_via ..)
    | with_reducible apply Via.then (State.offerSent_via ..)
    | with_reducible apply Via.then (State.updPd_via ..)
    | with_reducible apply Via.then (State.send_via ..)
    | split
    | (dsimp only [x]; split)
    | (dsimp +zetaDelta only; split)
    | (dsimp only)

theorem State.policyControl_via (s : State) (p : Nat) (m : RxMsg) : Via 432687512386293440 s (State.policyControl s p m) := by
  unfold State.policyControl
  repeat' first
    | with_reducible exact Via.refl _
    | with_reducible assumption
    | decide +kernel
    | (intro x; refine Via.cutLet (m := 432687512386293440) (s := s) (t := x) ?_ ?_)
    | (refine fun hx => ?_; clear_value x)
    | intro x
    | lift_lets
    | with_reducible apply Via.ite
    | with_reducible apply Via.then (State.softResetReceived_via ..)
    | with_reducible apply Via.then (State.answerReceived_via ..)
    | with_reducible apply Via.then (State.unsupported_via ..)
    | with_reducible apply Via.then (State.offerSent_via ..)
    | with_reducible apply Via.then (State.vconnSwap_via ..)
    | with_reducible apply Via.then (State.sendCaps_via ..)
    | with_reducible apply Via.then (State.sendNew_via ..)
    | with_reducible apply Via.then (State.reject_via ..)
    | with_reducible apply Via.then (State.prSwap_via ..)
    | with_reducible apply Via.then (State.send_via ..)
    | (dsimp +zetaDelta only []; split <;> decide +kernel)
    | (split <;> decide +kernel)
    | split
    | (dsimp only [x]; split)
    | (dsimp +zetaDelta only; split)
    | (dsimp only)

theorem State.policyVdm_via (s : State) (p hdr : Nat) : Via 6597070294016 s (State.policyVdm s p hdr) := by
  unfold State.policyVdm
  repeat' first
    | with_reducible exact Via.refl _
    | with_reducible assumption
    | decide +kernel
    | (intro x; refine Via.cutLet (m := 6597070294016) (s := s) (t := x) ?_ ?_)
    | (refine fun hx => ?_; clear_value x)
    | intro x
    | with_reducible apply Via.ite
    | with_reducible apply Via.then (State.unsupported_via ..)
    | with_reducible apply Via.then (State.identityAck_via ..)
    | with_reducible apply Via.then (State.ownDone_via ..)
    | with_reducible apply Via.then (State.send_via ..)
    | split
    | (dsimp only [x]; split)
    | (dsimp +zetaDelta only; split)
    | (dsimp only)

theorem State.policyData_via (s : State) (p : Nat) (m : RxMsg) : Via 288572325384244928 s (State.policyData s p m) := by
  unfold State.policyData
  repeat' first
    | with_reducible exact Via.refl _
    | with_reducible assumption
    | decide +kernel
    | (intro x; refine Via.cutLet (m := 288572325384244928) (s := s) (t := x) ?_ ?_)
    | (refine fun hx => ?_; clear_value x)
    | intro x
    | lift_lets
    | with_reducible apply Via.ite
    | with_reducible apply Via.then (State.eprExitBySink_via ..)
    | with_reducible apply Via.then (State.sinkRequest_via ..)
    | with_reducible apply Via.then (State.unsupported_via ..)
    | with_reducible apply Via.then (State.softReset_via ..)
    | with_reducible apply Via.then (State.queryDone_via ..)
    | with_reducible apply Via.then (State.policyVdm_via ..)
    | with_reducible apply Via.then (State.eprEnter_via ..)
    | with_reducible apply Via.then (State.request_via ..)
    | with_reducible apply Via.then (State.logRec_via ..)
    | with_reducible apply Via.then (State.updPd_via ..)
    | with_reducible apply Via.then (State.send_via ..)
    | (dsimp +zetaDelta only []; split <;> decide +kernel)
    | (split <;> decide +kernel)
    | split
    | (dsimp only [x]; split)
    | (dsimp +zetaDelta only; split)
    | (dsimp only)

theorem State.policyExtended_via (s : State) (p : Nat) (m : RxMsg) : Via 4398046512128 s (State.policyExtended s p m) := by
  unfold State.policyExtended
  repeat' first
    | with_reducible exact Via.refl _
    | with_reducible assumption
    | decide +kernel
    | (intro x; refine Via.cutLet (m := 4398046512128) (s := s) (t := x) ?_ ?_)
    | (refine fun hx => ?_; clear_value x)
    | intro x
    | with_reducible apply Via.ite
    | with_reducible apply Via.then (State.sendEprCaps_via ..)
    | with_reducible apply Via.then (State.unsupported_via ..)
    | with_reducible apply Via.then (State.sendNew_via ..)
    | with_reducible apply Via.then (State.reject_via ..)
    | (dsimp +zetaDelta only []; split <;> decide +kernel)
    | (split <;> decide +kernel)
    | split
    | (dsimp only [x]; split)
    | (dsimp +zetaDelta only; split)
    | (dsimp only)

theorem State.policyAnswer_via (s : State) (p : Nat) (m : RxMsg) : Via 432687513460100800 s (State.policyAnswer s p m) := by
  unfold State.policyAnswer
  repeat' first
    | with_reducible exact Via.refl _
    | with_reducible assumption
    | decide +kernel
    | (intro x; refine Via.cutLet (m := 432687513460100800) (s := s) (t := x) ?_ ?_)
    | (refine fun hx => ?_; clear_value x)
    | intro x
    | with_reducible apply Via.ite
    | with_reducible apply Via.then (State.policyExtended_via ..)
    | with_reducible apply Via.then (State.policyControl_via ..)
    | with_reducible apply Via.then (State.policyData_via ..)
    | split
    | (dsimp only [x]; split)
    | (dsimp +zetaDelta only; split)
    | (dsimp only)

theorem State.upstreamAnswer_via (s : State) (p : Nat) (m : RxMsg) : Via 288572325384244928 s (State.upstreamAnswer s p m) := by
  unfold State.upstreamAnswer
  repeat' first
    | with_reducible exact Via.refl _
    | with_reducible assumption
    | decide +kernel
    | (intro x; refine Via.cutLet (m := 288572325384244928) (s := s) (t := x) ?_ ?_)
    | (refine fun hx => ?_; clear_value x)
    | intro x
    | with_reducible apply Via.ite
    | with_reducible apply Via.then (State.softResetReceived_via ..)
    | with_reducible apply Via.then (State.answerReceived_via ..)
    | with_reducible apply Via.then (State.sinkRequest_via ..)
    | with_reducible apply Via.then (State.unsupported_via ..)
    | with_reducible apply Via.then (State.policyVdm_via ..)
    | with_reducible apply Via.then (State.reject_via ..)
    | with_reducible apply Via.then (State.send_via ..)
    | (dsimp +zetaDelta only []; split <;> decide +kernel)
    | (split <;> decide +kernel)
    | split
    | (dsimp only [x]; split)
    | (dsimp +zetaDelta only; split)
    | (dsimp only)

theorem State.cableMessage_via (s : State) (p : Nat) (m : RxMsg) : Via 6597070294016 s (State.cableMessage s p m) := by
  unfold State.cableMessage
  repeat' first
    | with_reducible exact Via.refl _
    | with_reducible assumption
    | decide +kernel
    | (intro x; refine Via.cutLet (m := 6597070294016) (s := s) (t := x) ?_ ?_)
    | (refine fun hx => ?_; clear_value x)
    | intro x
    | lift_lets
    | with_reducible apply Via.ite
    | with_reducible apply Via.then (State.identityAck_via ..)
    | split
    | (dsimp only [x]; split)
    | (dsimp +zetaDelta only; split)
    | (dsimp only)

theorem State.asked_via (s : State) (p : Nat) (a : PdAsk) : Via 4432406773760 s (State.asked s p a) := by
  unfold State.asked
  repeat' first
    | with_reducible exact Via.refl _
    | with_reducible assumption
    | decide +kernel
    | (intro x; refine Via.cutLet (m := 4432406773760) (s := s) (t := x) ?_ ?_)
    | (refine fun hx => ?_; clear_value x)
    | intro x
    | with_reducible apply Via.then (State.updPd_via ..)
    | with_reducible apply Via.then (State.ccIrq_via ..)
    | with_reducible apply Via.then (State.ask_via ..)
    | split
    | (dsimp only [x]; split)
    | (dsimp +zetaDelta only; split)
    | (dsimp only)

theorem State.ownerReceive_via (s : State) (p : Nat) (m : RxMsg) : Via 432687547819839168 s (State.ownerReceive s p m) := by
  unfold State.ownerReceive
  repeat' first
    | with_reducible exact Via.refl _
    | with_reducible assumption
    | decide +kernel
    | (intro x; refine Via.cutLet (m := 432687547819839168) (s := s) (t := x) ?_ ?_)
    | (refine fun hx => ?_; clear_value x)
    | intro x
    | lift_lets
    | with_reducible apply Via.ite
    | with_reducible apply Via.then (State.answerReceived_via ..)
    | with_reducible apply Via.then (State.queryDone_via ..)
    | with_reducible apply Via.then (State.vconnSwap_via ..)
    | with_reducible apply Via.then (State.ownDone_via ..)
    | with_reducible apply Via.then (State.request_via ..)
    | with_reducible apply Via.then (State.prSwap_via ..)
    | with_reducible apply Via.then (State.asked_via ..)
    | with_reducible apply Via.then (State.updPd_via ..)
    | (dsimp +zetaDelta only []; split <;> decide +kernel)
    | (split <;> decide +kernel)
    | split
    | (dsimp only [x]; split)
    | (dsimp +zetaDelta only; split)
    | (dsimp only)

theorem State.fixRev_via (s : State) (p rev : Nat) : Via 1024 s (State.fixRev s p rev) := by
  unfold State.fixRev
  repeat' first
    | with_reducible exact Via.refl _
    | with_reducible assumption
    | decide +kernel
    | (intro x; refine Via.cutLet (m := 1024) (s := s) (t := x) ?_ ?_)
    | (refine fun hx => ?_; clear_value x)
    | intro x
    | with_reducible apply Via.setFld
    | with_reducible apply Via.ite
    | split
    | (dsimp only [x]; split)
    | (dsimp +zetaDelta only; split)
    | (dsimp only)

theorem State.heard_via (s : State) (p rev : Nat) : Via 4398046512128 s (State.heard s p rev) := by
  unfold State.heard
  repeat' first
    | with_reducible exact Via.refl _
    | with_reducible assumption
    | decide +kernel
    | (intro x; refine Via.cutLet (m := 4398046512128) (s := s) (t := x) ?_ ?_)
    | (refine fun hx => ?_; clear_value x)
    | intro x
    | with_reducible apply Via.then (State.fixRev_via ..)
    | with_reducible apply Via.then (State.updPd_via ..)
    | with_reducible apply Via.then (State.hush_via ..)
    | split
    | (dsimp only [x]; split)
    | (dsimp +zetaDelta only; split)
    | (dsimp only)

theorem State.heardRow_via (s : State) (p rev : Nat) : Via 4398046512128 s (State.heardRow s p rev) := by
  unfold State.heardRow
  repeat' first
    | with_reducible exact Via.refl _
    | with_reducible assumption
    | decide +kernel
    | (intro x; refine Via.cutLet (m := 4398046512128) (s := s) (t := x) ?_ ?_)
    | (refine fun hx => ?_; clear_value x)
    | intro x
    | with_reducible apply Via.then (State.heard_via ..)
    | with_reducible apply Via.then (State.updPd_via ..)
    | split
    | (dsimp only [x]; split)
    | (dsimp +zetaDelta only; split)
    | (dsimp only)

theorem State.rxOpen_via {m : Nat} {s t : State} (p : Nat) (f : State → State) (hm : Nat.land 4398046512128 m = 4398046512128)
    (hf : ∀ s, Via m s (f s)) (d : Via m s t) : Via m s (t.rxOpen p f) := by
  unfold State.rxOpen
  split
  · exact Via.incr _ _ (testBit_mono hm (by decide +kernel)) (Via.then (State.hush_via ..) (testMono (by decide +kernel) hm) d)
  · exact d.trans (hf _)

theorem State.hardResetHeard_via (s : State) (p : Nat) : Via 288572324310437568 s (State.hardResetHeard s p) := by
  unfold State.hardResetHeard
  repeat' first
    | with_reducible exact Via.refl _
    | with_reducible assumption
    | decide +kernel
    | (intro x; refine Via.cutLet (m := 288572324310437568) (s := s) (t := x) ?_ ?_)
    | (refine fun hx => ?_; clear_value x)
    | intro x
    | lift_lets
    | with_reducible apply Via.setFld
    | with_reducible apply Via.put
    | with_reducible apply Via.ite
    | with_reducible apply Via.then (State.hardReset_via ..)
    | with_reducible apply Via.then (State.hush_via ..)
    | split
    | (dsimp only [x]; split)
    | (dsimp +zetaDelta only; split)
    | (dsimp only)

theorem State.ceilingFell_via (s : State) (p : Nat) : Via 4398046513152 s (State.ceilingFell s p) := by
  unfold State.ceilingFell
  repeat' first
    | with_reducible exact Via.refl _
    | with_reducible assumption
    | decide +kernel
    | (intro x; refine Via.cutLet (m := 4398046513152) (s := s) (t := x) ?_ ?_)
    | (refine fun hx => ?_; clear_value x)
    | intro x
    | lift_lets
    | with_reducible apply Via.ite
    | with_reducible apply Via.then (State.levels_via ..)
    | with_reducible apply Via.then (State.updPd_via ..)
    | with_reducible apply Via.then (State.send_via ..)
    | split
    | (dsimp only [x]; split)
    | (dsimp +zetaDelta only; split)
    | (dsimp only)

theorem State.cableResetHeard_via (s : State) (p : Nat) : Via 6597070294016 s (State.cableResetHeard s p) := by
  unfold State.cableResetHeard
  repeat' first
    | with_reducible exact Via.refl _
    | with_reducible assumption
    | decide +kernel
    | (intro x; refine Via.cutLet (m := 6597070294016) (s := s) (t := x) ?_ ?_)
    | (refine fun hx => ?_; clear_value x)
    | intro x
    | with_reducible apply Via.ite
    | with_reducible apply Via.then (State.identityClear_via ..)
    | with_reducible apply Via.then (State.ceilingFell_via ..)
    | with_reducible apply Via.then (State.hush_via ..)
    | split
    | (dsimp only [x]; split)
    | (dsimp +zetaDelta only; split)
    | (dsimp only)

theorem State.keepId_via (s : State) (p : Nat) (m : RxMsg) : Via 4398046511104 s (State.keepId s p m) := by
  unfold State.keepId
  repeat' first
    | with_reducible exact Via.refl _
    | with_reducible assumption
    | decide +kernel
    | (intro x; refine Via.cutLet (m := 4398046511104) (s := s) (t := x) ?_ ?_)
    | (refine fun hx => ?_; clear_value x)
    | intro x
    | lift_lets
    | with_reducible apply Via.ite
    | with_reducible apply Via.then (State.updPd_via ..)
    | split
    | (dsimp only [x]; split)
    | (dsimp +zetaDelta only; split)
    | (dsimp only)

theorem State.msgIn_via (s : State) (p : Nat) (m : RxMsg) : Via 432687547819839168 s (State.msgIn s p m) := by
  unfold State.msgIn
  repeat' first
    | with_reducible exact Via.refl _
    | with_reducible assumption
    | decide +kernel
    | (intro x; refine Via.cutLet (m := 432687547819839168) (s := s) (t := x) ?_ ?_)
    | (refine fun hx => ?_; clear_value x)
    | intro x
    | with_reducible apply Via.ite
    | with_reducible apply Via.then (State.upstreamAnswer_via ..)
    | with_reducible apply Via.then (State.ownerReceive_via ..)
    | with_reducible apply Via.then (State.policyAnswer_via ..)
    | with_reducible apply Via.then (State.cableMessage_via ..)
    | with_reducible apply Via.then (State.holdAnswer_via ..)
    | with_reducible apply Via.then (State.rxStore_via ..)
    | split
    | (dsimp only [x]; split)
    | (dsimp +zetaDelta only; split)
    | (dsimp only)

theorem State.chunkAsked_via (s : State) (p sop typ n : Nat) : Via 4398047036416 s (State.chunkAsked s p sop typ n) := by
  unfold State.chunkAsked
  repeat' first
    | with_reducible exact Via.refl _
    | with_reducible assumption
    | decide +kernel
    | (intro x; refine Via.cutLet (m := 4398047036416) (s := s) (t := x) ?_ ?_)
    | (refine fun hx => ?_; clear_value x)
    | intro x
    | lift_lets
    | with_reducible apply Via.setFld
    | with_reducible apply Via.put
    | with_reducible apply Via.ite
    | with_reducible apply Via.then (State.updPd_via ..)
    | with_reducible apply Via.then (State.ccIrq_via ..)
    | with_reducible apply Via.then (State.send_via ..)
    | (dsimp +zetaDelta only []; split <;> decide +kernel)
    | (split <;> decide +kernel)
    | split
    | (dsimp only [x]; split)
    | (dsimp +zetaDelta only; split)
    | (dsimp only)

theorem State.assemble_via (s : State) (p : Nat) (m : RxMsg) : Via 432687547819839168 s (State.assemble s p m) := by
  unfold State.assemble
  repeat' first
    | with_reducible exact Via.refl _
    | with_reducible assumption
    | decide +kernel
    | (intro x; refine Via.cutLet (m := 432687547819839168) (s := s) (t := x) ?_ ?_)
    | (refine fun hx => ?_; clear_value x)
    | intro x
    | lift_lets
    | with_reducible apply Via.ite
    | with_reducible apply Via.then (State.unsupported_via ..)
    | with_reducible apply Via.then (State.chunkAsked_via ..)
    | with_reducible apply Via.then (State.msgIn_via ..)
    | with_reducible apply Via.then (State.updPd_via ..)
    | with_reducible apply Via.then (State.send_via ..)
    | (dsimp +zetaDelta only []; split <;> decide +kernel)
    | (split <;> decide +kernel)
    | split
    | (dsimp only [x]; split)
    | (dsimp +zetaDelta only; split)
    | (dsimp only)

theorem State.receive_via (s : State) (p : Nat) (m : RxMsg) : Via 432687547819839168 s (State.receive s p m) := by
  unfold State.receive
  repeat' first
    | with_reducible exact Via.refl _
    | with_reducible assumption
    | decide +kernel
    | (intro x; refine Via.cutLet (m := 432687547819839168) (s := s) (t := x) ?_ ?_)
    | (refine fun hx => ?_; clear_value x)
    | intro x
    | with_reducible apply Via.incr
    | with_reducible apply Via.ite
    | with_reducible apply Via.then (State.cableResetHeard_via ..)
    | with_reducible apply Via.then (State.hardResetHeard_via ..)
    | with_reducible apply Via.then (State.assemble_via ..)
    | with_reducible apply Via.then (State.keepId_via ..)
    | with_reducible apply Via.then (State.heard_via ..)
    | with_reducible apply Via.then (State.hush_via ..)
    | split
    | (dsimp only [x]; split)
    | (dsimp +zetaDelta only; split)
    | (dsimp only)

end Sys2Proof.Machine
end

