-- ==== Sys2Proof/Laws/ViaPd.lean ====
section
/-! SUPPORT. What each operation of Machine/Pd.lean can do to the state (see Laws/Via.lean). -/

namespace Sys2Proof.Machine

set_option linter.unusedTactic false
set_option linter.unreachableTactic false
set_option linter.unusedSimpArgs false
set_option linter.unusedVariables false

set_option Elab.async false

theorem State.readySend_via (s : State) (p : Nat) (o : Offer) : Via 322156941037056 s (State.readySend s p o) := by
  unfold State.readySend
  repeat' first
    | with_reducible exact Via.refl _
    | with_reducible assumption
    | decide +kernel
    | (intro x; refine Via.cutLet (m := 322156941037056) (s := s) (t := x) ?_ ?_)
    | (refine fun hx => ?_; clear_value x)
    | intro x
    | lift_lets
    | with_reducible apply Via.ite
    | with_reducible apply Via.then (State.afterContract_via ..)
    | with_reducible apply Via.then (State.contractMade_via ..)
    | with_reducible apply Via.then (State.eprLeft_via ..)
    | with_reducible apply Via.then (State.send_via ..)
    | split
    | (dsimp only [x]; split)
    | (dsimp +zetaDelta only; split)
    | (dsimp only)

theorem State.acceptSend_via (s : State) (p : Nat) : Via 432687547819839168 s ((State.acceptSend s p).getD s) := by
  unfold State.acceptSend
  repeat' first
    | with_reducible exact Via.refl _
    | with_reducible assumption
    | decide +kernel
    | (intro x; refine Via.cutLet (m := 432687547819839168) (s := s) (t := x) ?_ ?_)
    | (refine fun hx => ?_; clear_value x)
    | intro x
    | lift_lets
    | with_reducible apply Via.put
    | with_reducible apply Via.ite
    | with_reducible apply Via.then (State.toSourceAgreed_via ..)
    | with_reducible apply Via.then (State.toSinkAgreed_via ..)
    | with_reducible apply Via.then (State.vconnTake_via ..)
    | with_reducible apply Via.then (State.vconnSwap_via ..)
    | with_reducible apply Via.then (State.request_via ..)
    | with_reducible apply Via.then (State.reject_via ..)
    | with_reducible apply Via.then (State.prSwap_via ..)
    | with_reducible apply Via.then (State.updPd_via ..)
    | with_reducible apply Via.then (State.send_via ..)
    | with_reducible apply Via.then (State.ask_via ..)
    | (dsimp +zetaDelta only []; split <;> decide +kernel)
    | (split <;> decide +kernel)
    | split
    | (dsimp only [x]; split)
    | (dsimp +zetaDelta only; split)
    | (dsimp only)
    | dsimp only [Option.getD]

theorem State.acceptSend_via' {s : State} {p : Nat} {t : State} (h : State.acceptSend s p = some t) : Via 432687547819839168 s t := by
  have d := State.acceptSend_via s p
  rw [h] at d
  exact d

theorem State.refuseSend_via {m : Nat} {s t : State} (p : Nat) (f : Field) (hm : Nat.land 4398046511104 m = 4398046511104)
    (hf : m.testBit (Zone.reg (blockOf f.id)).code = true) (d : Via m s t) : Via m s (t.refuseSend p f) := by
  unfold State.refuseSend
  exact Via.then (State.send_via ..) hm (Via.then (State.updPd_via ..) hm (Via.incr _ _ hf d))

theorem State.capsSend_via (s : State) (p : Nat) : Via 4398046512128 s (State.capsSend s p) := by
  unfold State.capsSend
  repeat' first
    | with_reducible exact Via.refl _
    | with_reducible assumption
    | decide +kernel
    | (intro x; refine Via.cutLet (m := 4398046512128) (s := s) (t := x) ?_ ?_)
    | (refine fun hx => ?_; clear_value x)
    | intro x
    | with_reducible apply Via.then (State.offerGood_via ..)
    | with_reducible apply Via.then (State.sendCaps_via ..)
    | split
    | (dsimp only [x]; split)
    | (dsimp +zetaDelta only; split)
    | (dsimp only)

theorem State.eprCapsSend_via (s : State) (p : Nat) : Via 4398046512128 s (State.eprCapsSend s p) := by
  unfold State.eprCapsSend
  repeat' first
    | with_reducible exact Via.refl _
    | with_reducible assumption
    | decide +kernel
    | (intro x; refine Via.cutLet (m := 4398046512128) (s := s) (t := x) ?_ ?_)
    | (refine fun hx => ?_; clear_value x)
    | intro x
    | lift_lets
    | with_reducible apply Via.then (State.sendEprCaps_via ..)
    | with_reducible apply Via.then (State.offerGood_via ..)
    | split
    | (dsimp only [x]; split)
    | (dsimp +zetaDelta only; split)
    | (dsimp only)

theorem State.requestSend_via (s : State) (p : Nat) : Via 57175678995456 s ((State.requestSend s p).getD s) := by
  unfold State.requestSend
  repeat' first
    | with_reducible exact Via.refl _
    | with_reducible assumption
    | decide +kernel
    | (intro x; refine Via.cutLet (m := 57175678995456) (s := s) (t := x) ?_ ?_)
    | (refine fun hx => ?_; clear_value x)
    | intro x
    | lift_lets
    | with_reducible apply Via.ite
    | with_reducible apply Via.then (State.sinkAsk_via ..)
    | (dsimp +zetaDelta only []; split <;> decide +kernel)
    | (split <;> decide +kernel)
    | split
    | (dsimp only [x]; split)
    | (dsimp +zetaDelta only; split)
    | (dsimp only)
    | dsimp only [Option.getD]

theorem State.requestSend_via' {s : State} {p : Nat} {t : State} (h : State.requestSend s p = some t) : Via 57175678995456 s t := by
  have d := State.requestSend_via s p
  rw [h] at d
  exact d

theorem State.eprModeSend_via (s : State) (p : Nat) : Via 4398046512128 s ((State.eprModeSend s p).getD s) := by
  unfold State.eprModeSend
  repeat' first
    | with_reducible exact Via.refl _
    | with_reducible assumption
    | decide +kernel
    | (intro x; refine Via.cutLet (m := 4398046512128) (s := s) (t := x) ?_ ?_)
    | (refine fun hx => ?_; clear_value x)
    | intro x
    | lift_lets
    | with_reducible apply Via.put
    | with_reducible apply Via.incr
    | with_reducible apply Via.ite
    | with_reducible apply Via.then (State.send_via ..)
    | (dsimp +zetaDelta only []; split <;> decide +kernel)
    | (split <;> decide +kernel)
    | split
    | (dsimp only [x]; split)
    | (dsimp +zetaDelta only; split)
    | (dsimp only)
    | dsimp only [Option.getD]

theorem State.eprModeSend_via' {s : State} {p : Nat} {t : State} (h : State.eprModeSend s p = some t) : Via 4398046512128 s t := by
  have d := State.eprModeSend_via s p
  rw [h] at d
  exact d

theorem State.plainSend_via {m : Nat} {r s t : State} (p : Nat) (hm : Nat.land 4398046512128 m = 4398046512128) (d : Via m r t) :
    Via m r (s.plainSend p t) := by
  unfold State.plainSend
  split
  · exact Via.then (State.ownBegin_via ..) (testMono (by decide +kernel) hm) d
  · exact d

theorem State.limited_via (s : State) (p : Nat) : Via 432687547819839168 s ((State.limited s p).getD s) := by
  unfold State.limited
  repeat' first
    | with_reducible exact Via.refl _
    | with_reducible assumption
    | decide +kernel
    | (intro x; refine Via.cutLet (m := 432687547819839168) (s := s) (t := x) ?_ ?_)
    | (refine fun hx => ?_; clear_value x)
    | intro x
    | lift_lets
    | with_reducible apply Via.ite
    | with_reducible refine Via.then (State.vconnSwapSend_via' (by assumption)) (by decide +kernel) ?_
    | with_reducible apply Via.then (State.vconnSwapSend_via ..)
    | with_reducible refine Via.then (State.requestSend_via' (by assumption)) (by decide +kernel) ?_
    | with_reducible apply Via.then (State.requestSend_via ..)
    | with_reducible apply Via.then (State.eprCapsSend_via ..)
    | with_reducible refine Via.then (State.eprModeSend_via' (by assumption)) (by decide +kernel) ?_
    | with_reducible apply Via.then (State.eprModeSend_via ..)
    | with_reducible refine Via.then (State.acceptSend_via' (by assumption)) (by decide +kernel) ?_
    | with_reducible apply Via.then (State.acceptSend_via ..)
    | (with_reducible refine State.refuseSend_via _ _ (by decide +kernel) (by decide +kernel) ?_ <;> beta_reduce)
    | with_reducible refine Via.then (State.prSwapSend_via' (by assumption)) (by decide +kernel) ?_
    | with_reducible apply Via.then (State.prSwapSend_via ..)
    | with_reducible apply Via.then (State.softReset_via ..)
    | with_reducible apply Via.then (State.readySend_via ..)
    | (with_reducible refine State.plainSend_via _ (by decide +kernel) ?_ <;> beta_reduce)
    | with_reducible apply Via.then (State.capsSend_via ..)
    | with_reducible apply Via.then (State.sendLong_via ..)
    | with_reducible apply Via.then (State.send_via ..)
    | (dsimp +zetaDelta only []; split <;> decide +kernel)
    | (split <;> decide +kernel)
    | split
    | (dsimp only [x]; split)
    | (dsimp +zetaDelta only; split)
    | (dsimp only)
    | dsimp only [Option.getD]

theorem State.limited_via' {s : State} {p : Nat} {t : State} (h : State.limited s p = some t) : Via 432687547819839168 s t := by
  have d := State.limited_via s p
  rw [h] at d
  exact d

theorem State.swapReady_via (s : State) (p : Nat) : Via 4398047036416 s (State.swapReady s p) := by
  unfold State.swapReady
  repeat' first
    | with_reducible exact Via.refl _
    | with_reducible assumption
    | decide +kernel
    | (intro x; refine Via.cutLet (m := 4398047036416) (s := s) (t := x) ?_ ?_)
    | (refine fun hx => ?_; clear_value x)
    | intro x
    | with_reducible apply Via.setFld
    | with_reducible apply Via.put
    | with_reducible apply Via.ite
    | with_reducible apply Via.then (State.updPd_via ..)
    | with_reducible apply Via.then (State.ccIrq_via ..)
    | with_reducible apply Via.then (State.send_via ..)
    | split
    | (dsimp only [x]; split)
    | (dsimp +zetaDelta only; split)
    | (dsimp only)

theorem State.txGood_via {m : Nat} {r s t : State} (p : Nat) (hm : Nat.land 525312 m = 525312) (d : Via m r t) :
    Via m r (s.txGood t p) := by
  unfold State.txGood
  split
  · exact Via.put _ _ _ (testBit_mono hm (by decide +kernel)) d
  · exact Via.then (State.ccIrq_via ..) (testMono (by decide +kernel) hm)
      (.setFld _ _ _ (testBit_mono hm (by decide +kernel)) (Via.put _ _ _ (testBit_mono hm (by decide +kernel)) d))

theorem State.transmit_via (s : State) (p outcome : Nat) : Via 1009148300123262656 s (State.transmit s p outcome) := by
  unfold State.transmit
  repeat' first
    | with_reducible exact Via.refl _
    | with_reducible assumption
    | decide +kernel
    | (intro x; refine Via.cutLet (m := 1009148300123262656) (s := s) (t := x) ?_ ?_)
    | (refine fun hx => ?_; clear_value x)
    | intro x
    | lift_lets
    | with_reducible apply Via.setFld
    | with_reducible apply Via.put
    | with_reducible apply Via.ite
    | with_reducible apply Via.then (State.identityClear_via ..)
    | with_reducible apply Via.then (State.ceilingFell_via ..)
    | with_reducible apply Via.then (State.hardReset_via ..)
    | with_reducible apply Via.then (State.drawNat_via ..)
    | with_reducible refine Via.then (State.drawNat_via' (by assumption)) (by decide +kernel) ?_
    | with_reducible refine Via.then (State.limited_via' (by assumption)) (by decide +kernel) ?_
    | with_reducible apply Via.then (State.limited_via ..)
    | (with_reducible refine State.txGood_via _ (by decide +kernel) ?_ <;> beta_reduce)
    | with_reducible apply Via.then (State.updPd_via ..)
    | with_reducible apply Via.then (State.ccIrq_via ..)
    | with_reducible apply Via.then (State.hush_via ..)
    | with_reducible apply Via.then (State.send_via ..)
    | (dsimp +zetaDelta only []; split <;> decide +kernel)
    | (split <;> decide +kernel)
    | split
    | (dsimp only [x]; split)
    | (dsimp +zetaDelta only; split)
    | (dsimp only)
    | (dsimp +zetaDelta only)

theorem execPdTransmit_via (p outcome : Nat) (s : State) : ∃ t, execPdTransmit p outcome s = .next t ∧ Via 1011400099936947904 s t := by
  refine ⟨_, rfl, ?_⟩
  repeat' first
    | with_reducible exact Via.refl _
    | with_reducible assumption
    | decide +kernel
    | (intro x; refine Via.cutLet (m := 1011400099936947904) (s := s) (t := x) ?_ ?_)
    | (refine fun hx => ?_; clear_value x)
    | intro x
    | with_reducible apply Via.then (State.transmit_via ..)
    | with_reducible apply Via.then (pdSettle_via ..)
    | split
    | (dsimp only [x]; split)
    | (dsimp +zetaDelta only; split)
    | (dsimp only)

theorem execGoodcrcTimeout_via (p : Nat) (good : Bool) (s : State) : ∃ t, execGoodcrcTimeout p s good = .next t ∧ Via 434939347633524416 s t := by
  refine ⟨_, rfl, ?_⟩
  repeat' first
    | with_reducible exact Via.refl _
    | with_reducible assumption
    | decide +kernel
    | (intro x; refine Via.cutLet (m := 434939347633524416) (s := s) (t := x) ?_ ?_)
    | (refine fun hx => ?_; clear_value x)
    | intro x
    | lift_lets
    | with_reducible apply Via.setFld
    | with_reducible apply Via.put
    | with_reducible apply Via.incr
    | with_reducible apply Via.ite
    | with_reducible refine Via.then (State.limited_via' (by assumption)) (by decide +kernel) ?_
    | with_reducible apply Via.then (State.limited_via ..)
    | (with_reducible refine State.txGood_via _ (by decide +kernel) ?_ <;> beta_reduce)
    | with_reducible apply Via.then (State.updPd_via ..)
    | with_reducible apply Via.then (State.ccIrq_via ..)
    | with_reducible apply Via.then (State.hush_via ..)
    | with_reducible apply Via.then (pdSettle_via ..)
    | (dsimp +zetaDelta only []; split <;> decide +kernel)
    | (split <;> decide +kernel)
    | split
    | (dsimp only [x]; split)
    | (dsimp +zetaDelta only; split)
    | (dsimp only)

theorem execPdMessageReceived_via (p sop hdr extHdr : Nat) (ext : Bool) (bytes : List Nat) (s : State) : ∃ t, execPdMessageReceived p sop hdr extHdr ext bytes s = .next t ∧ Via 434939347633524416 s t := by
  refine ⟨_, rfl, ?_⟩
  repeat' first
    | with_reducible exact Via.refl _
    | with_reducible assumption
    | decide +kernel
    | (intro x; refine Via.cutLet (m := 434939347633524416) (s := s) (t := x) ?_ ?_)
    | (refine fun hx => ?_; clear_value x)
    | intro x
    | with_reducible apply Via.then (State.receive_via ..)
    | with_reducible apply Via.then (pdSettle_via ..)
    | split
    | (dsimp only [x]; split)
    | (dsimp +zetaDelta only; split)
    | (dsimp only)

theorem State.rxRelease_via (s : State) (p : Nat) : Via 576460752303424512 s (State.rxRelease s p) := by
  unfold State.rxRelease
  repeat' first
    | with_reducible exact Via.refl _
    | with_reducible assumption
    | decide +kernel
    | (intro x; refine Via.cutLet (m := 576460752303424512) (s := s) (t := x) ?_ ?_)
    | (refine fun hx => ?_; clear_value x)
    | intro x
    | lift_lets
    | with_reducible apply Via.setFld
    | with_reducible apply Via.put
    | with_reducible apply Via.then (State.drawNat_via ..)
    | with_reducible refine Via.then (State.drawNat_via' (by assumption)) (by decide +kernel) ?_
    | (with_reducible refine Via.each _ _ (fun s _ => ?_) ?_)
    | split
    | (dsimp only [x]; split)
    | (dsimp +zetaDelta only; split)
    | (dsimp only)
    | (dsimp +zetaDelta only)

theorem execRxRelease_via (p : Nat) (s : State) : ∃ t, execRxRelease p s = .next t ∧ Via 576460752303424512 s t := by
  refine ⟨_, rfl, ?_⟩
  repeat' first
    | with_reducible exact Via.refl _
    | with_reducible assumption
    | decide +kernel
    | (intro x; refine Via.cutLet (m := 576460752303424512) (s := s) (t := x) ?_ ?_)
    | (refine fun hx => ?_; clear_value x)
    | intro x
    | with_reducible apply Via.then (State.rxRelease_via ..)
    | split
    | (dsimp only [x]; split)
    | (dsimp +zetaDelta only; split)
    | (dsimp only)

theorem execSourceCapabilitiesSend_via (p : Nat) (good : Bool) (s : State) : ∃ t, execSourceCapabilitiesSend p good s = .next t ∧ Via 2256197860197376 s t := by
  refine ⟨_, rfl, ?_⟩
  repeat' first
    | with_reducible exact Via.refl _
    | with_reducible assumption
    | decide +kernel
    | (intro x; refine Via.cutLet (m := 2256197860197376) (s := s) (t := x) ?_ ?_)
    | (refine fun hx => ?_; clear_value x)
    | intro x
    | with_reducible apply Via.ite
    | with_reducible apply Via.then (State.offerSent_via ..)
    | with_reducible apply Via.then (State.hush_via ..)
    | with_reducible apply Via.then (pdSettle_via ..)
    | split
    | (dsimp only [x]; split)
    | (dsimp +zetaDelta only; split)
    | (dsimp only)

theorem execSourceCapRepeat_via (p : Nat) (good : Bool) (s : State) : ∃ t, execSourceCapRepeat p good s = .next t ∧ Via 2256197860197376 s t := by
  refine ⟨_, rfl, ?_⟩
  repeat' first
    | with_reducible exact Via.refl _
    | with_reducible assumption
    | decide +kernel
    | (intro x; refine Via.cutLet (m := 2256197860197376) (s := s) (t := x) ?_ ?_)
    | (refine fun hx => ?_; clear_value x)
    | intro x
    | with_reducible apply Via.ite
    | with_reducible apply Via.then (State.offerSent_via ..)
    | with_reducible apply Via.then (State.hush_via ..)
    | with_reducible apply Via.then (pdSettle_via ..)
    | split
    | (dsimp only [x]; split)
    | (dsimp +zetaDelta only; split)
    | (dsimp only)

theorem State.chunksDropped_via (s : State) (p : Nat) : Via 576465150350459904 s (State.chunksDropped s p) := by
  unfold State.chunksDropped
  repeat' first
    | with_reducible exact Via.refl _
    | with_reducible assumption
    | decide +kernel
    | (intro x; refine Via.cutLet (m := 576465150350459904) (s := s) (t := x) ?_ ?_)
    | (refine fun hx => ?_; clear_value x)
    | intro x
    | lift_lets
    | with_reducible apply Via.setFld
    | with_reducible apply Via.put
    | with_reducible apply Via.ite
    | with_reducible apply Via.then (State.drawNat_via ..)
    | with_reducible refine Via.then (State.drawNat_via' (by assumption)) (by decide +kernel) ?_
    | with_reducible apply Via.then (State.updPd_via ..)
    | with_reducible apply Via.then (State.ccIrq_via ..)
    | split
    | (dsimp only [x]; split)
    | (dsimp +zetaDelta only; split)
    | (dsimp only)
    | (dsimp +zetaDelta only)

theorem execSenderResponseTimeout_via (p : Nat) (s : State) : ∃ t, execSenderResponseTimeout p s = .next t ∧ Via 867284876427546304 s t := by
  refine ⟨_, rfl, ?_⟩
  repeat' first
    | with_reducible exact Via.refl _
    | with_reducible assumption
    | decide +kernel
    | (intro x; refine Via.cutLet (m := 867284876427546304) (s := s) (t := x) ?_ ?_)
    | (refine fun hx => ?_; clear_value x)
    | intro x
    | lift_lets
    | with_reducible apply Via.ite
    | with_reducible apply Via.then (State.chunksDropped_via ..)
    | with_reducible apply Via.then (State.swapDropped_via ..)
    | with_reducible apply Via.then (State.hardReset_via ..)
    | with_reducible apply Via.then (State.softReset_via ..)
    | with_reducible apply Via.then (State.queryDone_via ..)
    | with_reducible apply Via.then (State.ownDone_via ..)
    | with_reducible apply Via.then (State.updPd_via ..)
    | with_reducible apply Via.then (State.hush_via ..)
    | with_reducible apply Via.then (pdSettle_via ..)
    | split
    | (dsimp only [x]; split)
    | (dsimp +zetaDelta only; split)
    | (dsimp only)

theorem execRequest_via (p : Nat) (epr : Bool) (pos volt curr : Nat) (eprCapable : Bool) (rev : Nat) (s : State) : ∃ t, execRequest p epr pos volt curr eprCapable rev s = .next t ∧ Via 2309009852419072 s t := by
  refine ⟨_, rfl, ?_⟩
  repeat' first
    | with_reducible exact Via.refl _
    | with_reducible assumption
    | decide +kernel
    | (intro x; refine Via.cutLet (m := 2309009852419072) (s := s) (t := x) ?_ ?_)
    | (refine fun hx => ?_; clear_value x)
    | intro x
    | with_reducible apply Via.ite
    | with_reducible apply Via.then (State.holdRequest_via ..)
    | with_reducible apply Via.then (State.heardRow_via ..)
    | with_reducible apply Via.then (State.request_via ..)
    | (with_reducible refine State.rxOpen_via _ _ (by decide +kernel) (fun s => ?_) ?_ <;> beta_reduce)
    | with_reducible apply Via.then (State.asked_via ..)
    | with_reducible apply Via.then (pdSettle_via ..)
    | split
    | (dsimp only [x]; split)
    | (dsimp +zetaDelta only; split)
    | (dsimp only)

theorem execBudgetFreedOffer_via (p : Nat) (s : State) : ∃ t, execBudgetFreedOffer p s = .next t ∧ Via 2256197860197376 s t := by
  refine ⟨_, rfl, ?_⟩
  repeat' first
    | with_reducible exact Via.refl _
    | with_reducible assumption
    | decide +kernel
    | (intro x; refine Via.cutLet (m := 2256197860197376) (s := s) (t := x) ?_ ?_)
    | (refine fun hx => ?_; clear_value x)
    | intro x
    | with_reducible apply Via.ite
    | with_reducible apply Via.then (State.offerSent_via ..)
    | with_reducible apply Via.then (State.hush_via ..)
    | with_reducible apply Via.then (pdSettle_via ..)
    | split
    | (dsimp only [x]; split)
    | (dsimp +zetaDelta only; split)
    | (dsimp only)

theorem execTransitionPsRdy_via (p : Nat) (s : State) : ∃ t, execTransitionPsRdy p s = .next t ∧ Via 2573956754722304 s t := by
  refine ⟨_, rfl, ?_⟩
  repeat' first
    | with_reducible exact Via.refl _
    | with_reducible assumption
    | decide +kernel
    | (intro x; refine Via.cutLet (m := 2573956754722304) (s := s) (t := x) ?_ ?_)
    | (refine fun hx => ?_; clear_value x)
    | intro x
    | lift_lets
    | with_reducible apply Via.setFld
    | with_reducible apply Via.put
    | with_reducible apply Via.ite
    | with_reducible apply Via.then (State.readySend_via ..)
    | with_reducible apply Via.then (State.hush_via ..)
    | with_reducible apply Via.then (pdSettle_via ..)
    | (dsimp +zetaDelta only []; split <;> decide +kernel)
    | (split <;> decide +kernel)
    | split
    | (dsimp only [x]; split)
    | (dsimp +zetaDelta only; split)
    | (dsimp only)

theorem execPpsTimeout_via (p : Nat) (s : State) : ∃ t, execPpsTimeout p s = .next t ∧ Via 288572324310437568 s t := by
  refine ⟨_, rfl, ?_⟩
  repeat' first
    | with_reducible exact Via.refl _
    | with_reducible assumption
    | decide +kernel
    | (intro x; refine Via.cutLet (m := 288572324310437568) (s := s) (t := x) ?_ ?_)
    | (refine fun hx => ?_; clear_value x)
    | intro x
    | with_reducible apply Via.ite
    | with_reducible apply Via.then (State.hardReset_via ..)
    | with_reducible apply Via.then (State.hush_via ..)
    | split
    | (dsimp only [x]; split)
    | (dsimp +zetaDelta only; split)
    | (dsimp only)

theorem execEprModeEnter_via (p : Nat) (s : State) : ∃ t, execEprModeEnter p s = .next t ∧ Via 2258396883977216 s t := by
  refine ⟨_, rfl, ?_⟩
  repeat' first
    | with_reducible exact Via.refl _
    | with_reducible assumption
    | decide +kernel
    | (intro x; refine Via.cutLet (m := 2258396883977216) (s := s) (t := x) ?_ ?_)
    | (refine fun hx => ?_; clear_value x)
    | intro x
    | lift_lets
    | with_reducible apply Via.ite
    | with_reducible apply Via.then (State.unsupported_via ..)
    | with_reducible apply Via.then (State.heardRow_via ..)
    | with_reducible apply Via.then (State.eprEnter_via ..)
    | (with_reducible refine State.rxOpen_via _ _ (by decide +kernel) (fun s => ?_) ?_ <;> beta_reduce)
    | with_reducible apply Via.then (State.ccIrq_via ..)
    | with_reducible apply Via.then (pdSettle_via ..)
    | split
    | (dsimp only [x]; split)
    | (dsimp +zetaDelta only; split)
    | (dsimp only)

theorem execEprEntryCheck_via (p : Nat) (s : State) : ∃ t, execEprEntryCheck p s = .next t ∧ Via 2256197860197376 s t := by
  refine ⟨_, rfl, ?_⟩
  repeat' first
    | with_reducible exact Via.refl _
    | with_reducible assumption
    | decide +kernel
    | (intro x; refine Via.cutLet (m := 2256197860197376) (s := s) (t := x) ?_ ?_)
    | (refine fun hx => ?_; clear_value x)
    | intro x
    | with_reducible apply Via.ite
    | with_reducible apply Via.then (State.eprCheck_via ..)
    | with_reducible apply Via.then (State.hush_via ..)
    | with_reducible apply Via.then (pdSettle_via ..)
    | split
    | (dsimp only [x]; split)
    | (dsimp +zetaDelta only; split)
    | (dsimp only)

theorem execEprKeepalive_via (p : Nat) (s : State) : ∃ t, execEprKeepalive p s = .next t ∧ Via 4398047036416 s t := by
  refine ⟨_, rfl, ?_⟩
  repeat' first
    | with_reducible exact Via.refl _
    | with_reducible assumption
    | decide +kernel
    | (intro x; refine Via.cutLet (m := 4398047036416) (s := s) (t := x) ?_ ?_)
    | (refine fun hx => ?_; clear_value x)
    | intro x
    | lift_lets
    | with_reducible apply Via.ite
    | with_reducible apply Via.then (State.heardRow_via ..)
    | with_reducible apply Via.then (State.sendNew_via ..)
    | (with_reducible refine State.rxOpen_via _ _ (by decide +kernel) (fun s => ?_) ?_ <;> beta_reduce)
    | with_reducible apply Via.then (State.ccIrq_via ..)
    | split
    | (dsimp only [x]; split)
    | (dsimp +zetaDelta only; split)
    | (dsimp only)

theorem execEprKeepaliveTimeout_via (p : Nat) (s : State) : ∃ t, execEprKeepaliveTimeout p s = .next t ∧ Via 288572324310437568 s t := by
  refine ⟨_, rfl, ?_⟩
  repeat' first
    | with_reducible exact Via.refl _
    | with_reducible assumption
    | decide +kernel
    | (intro x; refine Via.cutLet (m := 288572324310437568) (s := s) (t := x) ?_ ?_)
    | (refine fun hx => ?_; clear_value x)
    | intro x
    | with_reducible apply Via.ite
    | with_reducible apply Via.then (State.hardReset_via ..)
    | with_reducible apply Via.then (State.hush_via ..)
    | (dsimp +zetaDelta only []; split <;> decide +kernel)
    | (split <;> decide +kernel)
    | split
    | (dsimp only [x]; split)
    | (dsimp +zetaDelta only; split)
    | (dsimp only)

theorem execEprModeExit_via (p : Nat) (bySink : Bool) (s : State) : ∃ t, execEprModeExit p bySink s = .next t ∧ Via 290824124124122816 s t := by
  refine ⟨_, rfl, ?_⟩
  repeat' first
    | with_reducible exact Via.refl _
    | with_reducible assumption
    | decide +kernel
    | (intro x; refine Via.cutLet (m := 290824124124122816) (s := s) (t := x) ?_ ?_)
    | (refine fun hx => ?_; clear_value x)
    | intro x
    | with_reducible apply Via.ite
    | with_reducible apply Via.then (State.eprExitBySink_via ..)
    | with_reducible apply Via.then (State.offerSent_via ..)
    | with_reducible apply Via.then (State.heardRow_via ..)
    | (with_reducible refine State.rxOpen_via _ _ (by decide +kernel) (fun s => ?_) ?_ <;> beta_reduce)
    | with_reducible apply Via.then (State.hush_via ..)
    | with_reducible apply Via.then (pdSettle_via ..)
    | split
    | (dsimp only [x]; split)
    | (dsimp +zetaDelta only; split)
    | (dsimp only)

theorem execPrSwapReceived_via (p : Nat) (rivals : List Nat) (rev : Nat) (s : State) : ∃ t, execPrSwapReceived p rivals rev s = .next t ∧ Via 290824158483861184 s t := by
  refine ⟨_, rfl, ?_⟩
  repeat' first
    | with_reducible exact Via.refl _
    | with_reducible assumption
    | decide +kernel
    | (intro x; refine Via.cutLet (m := 290824158483861184) (s := s) (t := x) ?_ ?_)
    | (refine fun hx => ?_; clear_value x)
    | intro x
    | lift_lets
    | with_reducible apply Via.ite
    | with_reducible apply Via.then (State.heardRow_via ..)
    | (with_reducible refine State.rxOpen_via _ _ (by decide +kernel) (fun s => ?_) ?_ <;> beta_reduce)
    | with_reducible apply Via.then (State.reject_via ..)
    | with_reducible apply Via.then (State.prSwap_via ..)
    | with_reducible apply Via.then (State.asked_via ..)
    | with_reducible apply Via.then (State.send_via ..)
    | with_reducible apply Via.then (pdSettle_via ..)
    | split
    | (dsimp only [x]; split)
    | (dsimp +zetaDelta only; split)
    | (dsimp only)

theorem execSwapSourceOff_via (p : Nat) (s : State) : ∃ t, execSwapSourceOff p s = .next t ∧ Via 339749127081472 s t := by
  refine ⟨_, rfl, ?_⟩
  repeat' first
    | with_reducible exact Via.refl _
    | with_reducible assumption
    | decide +kernel
    | (intro x; refine Via.cutLet (m := 339749127081472) (s := s) (t := x) ?_ ?_)
    | (refine fun hx => ?_; clear_value x)
    | intro x
    | lift_lets
    | with_reducible apply Via.put
    | with_reducible apply Via.ite
    | with_reducible apply Via.then (State.contractEnd_via ..)
    | with_reducible apply Via.then (State.pwrUpdate_via ..)
    | with_reducible apply Via.then (State.updPwr_via ..)
    | with_reducible apply Via.then (State.updPd_via ..)
    | split
    | (dsimp only [x]; split)
    | (dsimp +zetaDelta only; split)
    | (dsimp only)

theorem execSwapVsafe0_via (p : Nat) (s : State) : ∃ t, execSwapVsafe0 p s = .next t ∧ Via 57174605188096 s t := by
  refine ⟨_, rfl, ?_⟩
  repeat' first
    | with_reducible exact Via.refl _
    | with_reducible assumption
    | decide +kernel
    | (intro x; refine Via.cutLet (m := 57174605188096) (s := s) (t := x) ?_ ?_)
    | (refine fun hx => ?_; clear_value x)
    | intro x
    | lift_lets
    | with_reducible apply Via.put
    | with_reducible apply Via.ite
    | with_reducible apply Via.then (State.govRefresh_via ..)
    | with_reducible apply Via.then (State.pwrUpdate_via ..)
    | with_reducible apply Via.then (State.swapReady_via ..)
    | with_reducible apply Via.then (State.updPwr_via ..)
    | with_reducible apply Via.then (State.rpOff_via ..)
    | with_reducible apply Via.then (State.updPd_via ..)
    | with_reducible apply Via.then (State.setCc_via ..)
    | with_reducible apply Via.then (State.hush_via ..)
    | split
    | (dsimp only [x]; split)
    | (dsimp +zetaDelta only; split)
    | (dsimp only)

theorem execSwapPartnerPsRdy_via (p : Nat) (s : State) : ∃ t, execSwapPartnerPsRdy p s = .next t ∧ Via 2311173442126848 s t := by
  refine ⟨_, rfl, ?_⟩
  repeat' first
    | with_reducible exact Via.refl _
    | with_reducible assumption
    | decide +kernel
    | (intro x; refine Via.cutLet (m := 2311173442126848) (s := s) (t := x) ?_ ?_)
    | (refine fun hx => ?_; clear_value x)
    | intro x
    | with_reducible apply Via.ite
    | with_reducible apply Via.then (State.swapPsRdy_via ..)
    | (with_reducible refine State.rxOpen_via _ _ (by decide +kernel) (fun s => ?_) ?_ <;> beta_reduce)
    | with_reducible apply Via.then (State.hush_via ..)
    | with_reducible apply Via.then (pdSettle_via ..)
    | split
    | (dsimp only [x]; split)
    | (dsimp +zetaDelta only; split)
    | (dsimp only)

theorem execSwapTimeout_via (p : Nat) (s : State) : ∃ t, execSwapTimeout p s = .next t ∧ Via 288572324310437568 s t := by
  refine ⟨_, rfl, ?_⟩
  repeat' first
    | with_reducible exact Via.refl _
    | with_reducible assumption
    | decide +kernel
    | (intro x; refine Via.cutLet (m := 288572324310437568) (s := s) (t := x) ?_ ?_)
    | (refine fun hx => ?_; clear_value x)
    | intro x
    | with_reducible apply Via.ite
    | with_reducible apply Via.then (State.hardReset_via ..)
    | with_reducible apply Via.then (State.hush_via ..)
    | split
    | (dsimp only [x]; split)
    | (dsimp +zetaDelta only; split)
    | (dsimp only)

theorem execSinkToSourceVsafe5_via (p : Nat) (s : State) : ∃ t, execSinkToSourceVsafe5 p s = .next t ∧ Via 288572324310437568 s t := by
  refine ⟨_, rfl, ?_⟩
  repeat' first
    | with_reducible exact Via.refl _
    | with_reducible assumption
    | decide +kernel
    | (intro x; refine Via.cutLet (m := 288572324310437568) (s := s) (t := x) ?_ ?_)
    | (refine fun hx => ?_; clear_value x)
    | intro x
    | lift_lets
    | with_reducible apply Via.put
    | with_reducible apply Via.incr
    | with_reducible apply Via.ite
    | with_reducible apply Via.then (State.releaseClaim_via ..)
    | with_reducible apply Via.then (State.swapReady_via ..)
    | with_reducible apply Via.then (State.offerSent_via ..)
    | with_reducible apply Via.then (State.swapOver_via ..)
    | with_reducible apply Via.then (State.updPwr_via ..)
    | with_reducible apply Via.then (State.updCc_via ..)
    | with_reducible apply Via.then (State.setCc_via ..)
    | with_reducible apply Via.then (State.hush_via ..)
    | split
    | (dsimp only [x]; split)
    | (dsimp +zetaDelta only; split)
    | (dsimp only)

theorem execVconnSwapReceived_via (p : Nat) (trips : Bool) (rev : Nat) (s : State) : ∃ t, execVconnSwapReceived p trips rev s = .next t ∧ Via 434939346559717056 s t := by
  refine ⟨_, rfl, ?_⟩
  repeat' first
    | with_reducible exact Via.refl _
    | with_reducible assumption
    | decide +kernel
    | (intro x; refine Via.cutLet (m := 434939346559717056) (s := s) (t := x) ?_ ?_)
    | (refine fun hx => ?_; clear_value x)
    | intro x
    | lift_lets
    | with_reducible apply Via.ite
    | with_reducible apply Via.then (State.unsupported_via ..)
    | with_reducible apply Via.then (State.vconnSwap_via ..)
    | with_reducible apply Via.then (State.heardRow_via ..)
    | (with_reducible refine State.rxOpen_via _ _ (by decide +kernel) (fun s => ?_) ?_ <;> beta_reduce)
    | with_reducible apply Via.then (State.asked_via ..)
    | with_reducible apply Via.then (State.send_via ..)
    | with_reducible apply Via.then (pdSettle_via ..)
    | split
    | (dsimp only [x]; split)
    | (dsimp +zetaDelta only; split)
    | (dsimp only)

theorem execDrSwapReceived_via (p rev : Nat) (s : State) : ∃ t, execDrSwapReceived p rev s = .next t ∧ Via 4432406774784 s t := by
  refine ⟨_, rfl, ?_⟩
  repeat' first
    | with_reducible exact Via.refl _
    | with_reducible assumption
    | decide +kernel
    | (intro x; refine Via.cutLet (m := 4432406774784) (s := s) (t := x) ?_ ?_)
    | (refine fun hx => ?_; clear_value x)
    | intro x
    | lift_lets
    | with_reducible apply Via.ite
    | with_reducible apply Via.then (State.heardRow_via ..)
    | (with_reducible refine State.rxOpen_via _ _ (by decide +kernel) (fun s => ?_) ?_ <;> beta_reduce)
    | with_reducible apply Via.then (State.reject_via ..)
    | with_reducible apply Via.then (State.asked_via ..)
    | split
    | (dsimp only [x]; split)
    | (dsimp +zetaDelta only; split)
    | (dsimp only)

theorem execHardReset_via (p : Nat) (sent : Bool) (s : State) : ∃ t, execHardReset p sent s = .next t ∧ Via 288572324310437568 s t := by
  refine ⟨_, rfl, ?_⟩
  repeat' first
    | with_reducible exact Via.refl _
    | with_reducible assumption
    | decide +kernel
    | (intro x; refine Via.cutLet (m := 288572324310437568) (s := s) (t := x) ?_ ?_)
    | (refine fun hx => ?_; clear_value x)
    | intro x
    | with_reducible apply Via.ite
    | with_reducible apply Via.then (State.hardResetHeard_via ..)
    | with_reducible apply Via.then (State.hardReset_via ..)
    | with_reducible apply Via.then (State.hush_via ..)
    | split
    | (dsimp only [x]; split)
    | (dsimp +zetaDelta only; split)
    | (dsimp only)

theorem execHardResetVbusOff_via (p : Nat) (s : State) : ∃ t, execHardResetVbusOff p s = .next t ∧ Via 57174605188096 s t := by
  refine ⟨_, rfl, ?_⟩
  repeat' first
    | with_reducible exact Via.refl _
    | with_reducible assumption
    | decide +kernel
    | (intro x; refine Via.cutLet (m := 57174605188096) (s := s) (t := x) ?_ ?_)
    | (refine fun hx => ?_; clear_value x)
    | intro x
    | lift_lets
    | with_reducible apply Via.ite
    | with_reducible apply Via.then (State.govRefresh_via ..)
    | with_reducible apply Via.then (State.pwrUpdate_via ..)
    | with_reducible apply Via.then (State.updPwr_via ..)
    | with_reducible apply Via.then (State.updGov_via ..)
    | with_reducible apply Via.then (State.updPd_via ..)
    | split
    | (dsimp only [x]; split)
    | (dsimp +zetaDelta only; split)
    | (dsimp only)

theorem execHardResetRecover_via (p : Nat) (s : State) : ∃ t, execHardResetRecover p s = .next t ∧ Via 288572324310437568 s t := by
  refine ⟨_, rfl, ?_⟩
  repeat' first
    | with_reducible exact Via.refl _
    | with_reducible assumption
    | decide +kernel
    | (intro x; refine Via.cutLet (m := 288572324310437568) (s := s) (t := x) ?_ ?_)
    | (refine fun hx => ?_; clear_value x)
    | intro x
    | lift_lets
    | with_reducible apply Via.put
    | with_reducible apply Via.ite
    | with_reducible apply Via.then (State.errorRecovery_via ..)
    | with_reducible apply Via.then (State.vconnTry_via ..)
    | with_reducible apply Via.then (State.updPwr_via ..)
    | with_reducible apply Via.then (State.levels_via ..)
    | with_reducible apply Via.then (State.updPd_via ..)
    | split
    | (dsimp only [x]; split)
    | (dsimp +zetaDelta only; split)
    | (dsimp only)

theorem execNoResponseTimeout_via (p : Nat) (s : State) : ∃ t, execNoResponseTimeout p s = .next t ∧ Via 288572324310437568 s t := by
  refine ⟨_, rfl, ?_⟩
  repeat' first
    | with_reducible exact Via.refl _
    | with_reducible assumption
    | decide +kernel
    | (intro x; refine Via.cutLet (m := 288572324310437568) (s := s) (t := x) ?_ ?_)
    | (refine fun hx => ?_; clear_value x)
    | intro x
    | with_reducible apply Via.ite
    | with_reducible apply Via.then (State.errorRecovery_via ..)
    | with_reducible apply Via.then (State.hardReset_via ..)
    | with_reducible apply Via.then (State.heard_via ..)
    | with_reducible apply Via.then (State.updPd_via ..)
    | with_reducible apply Via.then (State.hush_via ..)
    | split
    | (dsimp only [x]; split)
    | (dsimp +zetaDelta only; split)
    | (dsimp only)

theorem State.holdStart_via (s : State) (p : Nat) : Via 288572358670175936 s (State.holdStart s p) := by
  unfold State.holdStart
  repeat' first
    | with_reducible exact Via.refl _
    | with_reducible assumption
    | decide +kernel
    | (intro x; refine Via.cutLet (m := 288572358670175936) (s := s) (t := x) ?_ ?_)
    | (refine fun hx => ?_; clear_value x)
    | intro x
    | lift_lets
    | with_reducible apply Via.setFld
    | with_reducible apply Via.put
    | with_reducible apply Via.ite
    | with_reducible apply Via.then (State.swapDropped_via ..)
    | with_reducible apply Via.then (State.vsetUpdate_via ..)
    | with_reducible apply Via.then (State.govRefresh_via ..)
    | with_reducible apply Via.then (State.logPort_via ..)
    | with_reducible apply Via.then (State.updGov_via ..)
    | with_reducible apply Via.then (State.updPd_via ..)
    | with_reducible apply Via.then (State.ask_via ..)
    | split
    | (dsimp only [x]; split)
    | (dsimp +zetaDelta only; split)
    | (dsimp only)

theorem execHoldResponderStart_via (p : Nat) (s : State) : ∃ t, execHoldResponderStart p s = .next t ∧ Via 288572358670175936 s t := by
  refine ⟨_, rfl, ?_⟩
  repeat' first
    | with_reducible exact Via.refl _
    | with_reducible assumption
    | decide +kernel
    | (intro x; refine Via.cutLet (m := 288572358670175936) (s := s) (t := x) ?_ ?_)
    | (refine fun hx => ?_; clear_value x)
    | intro x
    | with_reducible apply Via.then (State.holdStart_via ..)
    | split
    | (dsimp only [x]; split)
    | (dsimp +zetaDelta only; split)
    | (dsimp only)

theorem execPolicyEngineStart_via (p : Nat) (s : State) : ∃ t, execPolicyEngineStart p s = .next t ∧ Via 288234774206612480 s t := by
  refine ⟨_, rfl, ?_⟩
  repeat' first
    | with_reducible exact Via.refl _
    | with_reducible assumption
    | decide +kernel
    | (intro x; refine Via.cutLet (m := 288234774206612480) (s := s) (t := x) ?_ ?_)
    | (refine fun hx => ?_; clear_value x)
    | intro x
    | with_reducible apply Via.put
    | with_reducible apply Via.ite
    | with_reducible apply Via.then (State.logPort_via ..)
    | with_reducible apply Via.then (State.updPd_via ..)
    | split
    | (dsimp only [x]; split)
    | (dsimp +zetaDelta only; split)
    | (dsimp only)

theorem State.setFeed48_via (s : State) (b : Bool) : Via 290769148542731776 s (State.setFeed48 s b) := by
  unfold State.setFeed48
  repeat' first
    | with_reducible exact Via.refl _
    | with_reducible assumption
    | decide +kernel
    | (intro x; refine Via.cutLet (m := 290769148542731776) (s := s) (t := x) ?_ ?_)
    | (refine fun hx => ?_; clear_value x)
    | intro x
    | lift_lets
    | with_reducible apply Via.put
    | with_reducible apply Via.ite
    | with_reducible apply Via.then (State.offerAnew_via ..)
    | with_reducible apply Via.then (State.logPower_via ..)
    | with_reducible apply Via.then (State.notice_via ..)
    | with_reducible apply Via.then (State.irq_via ..)
    | (with_reducible refine Via.each _ _ (fun s _ => ?_) ?_)
    | split
    | (dsimp only [x]; split)
    | (dsimp +zetaDelta only; split)
    | (dsimp only)

theorem execFeed48Change_via (vin : Nat) (s : State) : ∃ t, execFeed48Change vin s = .next t ∧ Via 290769148542731776 s t := by
  refine ⟨_, rfl, ?_⟩
  repeat' first
    | with_reducible exact Via.refl _
    | with_reducible assumption
    | decide +kernel
    | (intro x; refine Via.cutLet (m := 290769148542731776) (s := s) (t := x) ?_ ?_)
    | (refine fun hx => ?_; clear_value x)
    | intro x
    | with_reducible apply Via.then (State.setFeed48_via ..)
    | split
    | (dsimp only [x]; split)
    | (dsimp +zetaDelta only; split)
    | (dsimp only)

theorem execSinkRequestRetry_via (p : Nat) (s : State) : ∃ t, execSinkRequestRetry p s = .next t ∧ Via 57175678995456 s t := by
  refine ⟨_, rfl, ?_⟩
  repeat' first
    | with_reducible exact Via.refl _
    | with_reducible assumption
    | decide +kernel
    | (intro x; refine Via.cutLet (m := 57175678995456) (s := s) (t := x) ?_ ?_)
    | (refine fun hx => ?_; clear_value x)
    | intro x
    | with_reducible apply Via.put
    | with_reducible apply Via.ite
    | with_reducible apply Via.then (State.request_via ..)
    | with_reducible apply Via.then (State.send_via ..)
    | with_reducible apply Via.then (State.hush_via ..)
    | (dsimp +zetaDelta only []; split <;> decide +kernel)
    | (split <;> decide +kernel)
    | split
    | (dsimp only [x]; split)
    | (dsimp +zetaDelta only; split)
    | (dsimp only)

theorem execVconnTrip_via (p : Nat) (s : State) : ∃ t, execVconnTrip p s = .next t ∧ Via 434939312199978688 s t := by
  refine ⟨_, rfl, ?_⟩
  repeat' first
    | with_reducible exact Via.refl _
    | with_reducible assumption
    | decide +kernel
    | (intro x; refine Via.cutLet (m := 434939312199978688) (s := s) (t := x) ?_ ?_)
    | (refine fun hx => ?_; clear_value x)
    | intro x
    | lift_lets
    | with_reducible apply Via.ite
    | with_reducible apply Via.then (State.vconnTripped_via ..)
    | with_reducible apply Via.then (State.ceilingFell_via ..)
    | with_reducible apply Via.then (State.vconnTaking_via ..)
    | with_reducible apply Via.then (State.hardReset_via ..)
    | with_reducible apply Via.then (State.hush_via ..)
    | with_reducible apply Via.then (pdSettle_via ..)
    | split
    | (dsimp only [x]; split)
    | (dsimp +zetaDelta only; split)
    | (dsimp only)

theorem execDiscoveryAttempt_via (p : Nat) (answered : Bool) (s : State) : ∃ t, execDiscoveryAttempt p answered s = .next t ∧ Via 2258396883452928 s t := by
  refine ⟨_, rfl, ?_⟩
  repeat' first
    | with_reducible exact Via.refl _
    | with_reducible assumption
    | decide +kernel
    | (intro x; refine Via.cutLet (m := 2258396883452928) (s := s) (t := x) ?_ ?_)
    | (refine fun hx => ?_; clear_value x)
    | intro x
    | with_reducible apply Via.then (State.discAttempt_via ..)
    | with_reducible apply Via.then (pdSettle_via ..)
    | split
    | (dsimp only [x]; split)
    | (dsimp +zetaDelta only; split)
    | (dsimp only)

theorem execDiscoverIdentityAck_via (p idHeader vdo : Nat) (sop2 : Bool) (s : State) : ∃ t, execDiscoverIdentityAck p idHeader vdo sop2 s = .next t ∧ Via 2258396883979264 s t := by
  refine ⟨_, rfl, ?_⟩
  repeat' first
    | with_reducible exact Via.refl _
    | with_reducible assumption
    | decide +kernel
    | (intro x; refine Via.cutLet (m := 2258396883979264) (s := s) (t := x) ?_ ?_)
    | (refine fun hx => ?_; clear_value x)
    | intro x
    | with_reducible apply Via.then (State.identityAck_via ..)
    | with_reducible apply Via.then (pdSettle_via ..)
    | split
    | (dsimp only [x]; split)
    | (dsimp +zetaDelta only; split)
    | (dsimp only)

end Sys2Proof.Machine
end

