-- ==== Sys2Proof/Laws/ViaCoreOps.lean ====
section
/-! SUPPORT. What each operation of Machine/CoreOps.lean can do to the state (see Laws/Via.lean). -/

namespace Sys2Proof.Machine

set_option linter.unusedTactic false
set_option linter.unreachableTactic false
set_option linter.unusedSimpArgs false
set_option linter.unusedVariables false

set_option Elab.async false

theorem State.updCore_via (s : State) (c : Nat) (f : CoreHw → CoreHw) : Via 36028797018963968 s (State.updCore s c f) := by
  unfold State.updCore
  repeat' first
    | with_reducible exact Via.refl _
    | with_reducible assumption
    | decide +kernel
    | (intro x; refine Via.cutLet (m := 36028797018963968) (s := s) (t := x) ?_ ?_)
    | (refine fun hx => ?_; clear_value x)
    | intro x
    | split
    | (dsimp only [x]; split)
    | (dsimp +zetaDelta only; split)
    | with_reducible apply Via.set_cores
    | (dsimp only)

theorem stackSlots_block (j : Nat) : blockOf (stackSlots.getD j F.IC_STACK0_SLOT0).id = .ic := by
  by_cases h : j < 15
  · interval_cases j <;> decide
  · rw [List.getD_eq_default _ _ (by simp only [stackSlots, List.length_cons, List.length_nil]; omega)]
    decide

theorem State.levelShow_via (s : State) (c : Nat) : Via 526336 s (State.levelShow s c) := by
  unfold State.levelShow
  dsimp only
  refine Via.each _ _ (fun s j => ?_) (Via.setFld _ _ _ (by decide +kernel) (.refl _))
  exact Via.setFld _ _ _ (by rw [stackSlots_block]; decide +kernel) (.refl _)

theorem State.readyRefresh_via (s : State) : Via 72057594037927936 s (State.readyRefresh s) := by
  unfold State.readyRefresh
  repeat' first
    | with_reducible exact Via.refl _
    | with_reducible assumption
    | decide +kernel
    | (intro x; refine Via.cutLet (m := 72057594037927936) (s := s) (t := x) ?_ ?_)
    | (refine fun hx => ?_; clear_value x)
    | intro x
    | split
    | (dsimp only [x]; split)
    | (dsimp +zetaDelta only; split)
    | with_reducible apply Via.set_hw
    | (dsimp only)

theorem State.policyStops_via (s : State) (c : Nat) : Via 288572358670175936 s (State.policyStops s c) := by
  unfold State.policyStops
  repeat' first
    | with_reducible exact Via.refl _
    | with_reducible assumption
    | decide +kernel
    | (intro x; refine Via.cutLet (m := 288572358670175936) (s := s) (t := x) ?_ ?_)
    | (refine fun hx => ?_; clear_value x)
    | intro x
    | with_reducible apply Via.then (State.holdStart_via ..)
    | (with_reducible refine Via.each _ _ (fun s _ => ?_) ?_)
    | split
    | (dsimp only [x]; split)
    | (dsimp +zetaDelta only; split)
    | (dsimp only)

theorem State.trapOverflow_via (s : State) (c : Nat) : Via 468716343764995776 s (State.trapOverflow s c) := by
  unfold State.trapOverflow
  repeat' first
    | with_reducible exact Via.refl _
    | with_reducible assumption
    | decide +kernel
    | (intro x; refine Via.cutLet (m := 468716343764995776) (s := s) (t := x) ?_ ?_)
    | (refine fun hx => ?_; clear_value x)
    | intro x
    | with_reducible apply Via.then (State.policyStops_via ..)
    | with_reducible apply Via.then (State.updCore_via ..)
    | with_reducible apply Via.then (State.raise_via ..)
    | split
    | (dsimp only [x]; split)
    | (dsimp +zetaDelta only; split)
    | (dsimp only)

theorem State.trap_via (s : State) (c pc cause : Nat) (external mie : Bool) : Via 468716343764995776 s (State.trap s c pc cause external mie) := by
  unfold State.trap
  repeat' first
    | with_reducible exact Via.refl _
    | with_reducible assumption
    | decide +kernel
    | (intro x; refine Via.cutLet (m := 468716343764995776) (s := s) (t := x) ?_ ?_)
    | (refine fun hx => ?_; clear_value x)
    | intro x
    | with_reducible apply Via.ite
    | with_reducible apply Via.then (State.trapOverflow_via ..)
    | with_reducible apply Via.then (State.updCore_via ..)
    | split
    | (dsimp only [x]; split)
    | (dsimp +zetaDelta only; split)
    | (dsimp only)

theorem State.freeze_via (s : State) (m : Nat) : Via 288572358671224516 s (State.freeze s m) := by
  unfold State.freeze
  repeat' first
    | with_reducible exact Via.refl _
    | with_reducible assumption
    | decide +kernel
    | (intro x; refine Via.cutLet (m := 288572358671224516) (s := s) (t := x) ?_ ?_)
    | (refine fun hx => ?_; clear_value x)
    | intro x
    | lift_lets
    | with_reducible apply Via.putBit
    | with_reducible apply Via.put
    | with_reducible apply Via.ite
    | with_reducible apply Via.then (State.policyStops_via ..)
    | (dsimp +zetaDelta only []; split <;> decide +kernel)
    | (split <;> decide +kernel)
    | split
    | (dsimp only [x]; split)
    | (dsimp +zetaDelta only; split)
    | (dsimp only)

theorem State.absentAccess_via (s : State) (d : Nat) : Via 144115188076380160 s (State.absentAccess s d) := by
  unfold State.absentAccess
  repeat' first
    | with_reducible exact Via.refl _
    | with_reducible assumption
    | decide +kernel
    | (intro x; refine Via.cutLet (m := 144115188076380160) (s := s) (t := x) ?_ ?_)
    | (refine fun hx => ?_; clear_value x)
    | intro x
    | with_reducible apply Via.then (State.raise_via ..)
    | with_reducible apply Via.then (State.irq_via ..)
    | split
    | (dsimp only [x]; split)
    | (dsimp +zetaDelta only; split)
    | (dsimp only)

theorem State.unfreeze_via (s : State) (m : Nat) : Via 17179869188 s (State.unfreeze s m) := by
  unfold State.unfreeze
  repeat' first
    | with_reducible exact Via.refl _
    | with_reducible assumption
    | decide +kernel
    | (intro x; refine Via.cutLet (m := 17179869188) (s := s) (t := x) ?_ ?_)
    | (refine fun hx => ?_; clear_value x)
    | intro x
    | with_reducible apply Via.putBit
    | with_reducible apply Via.put
    | split
    | (dsimp only [x]; split)
    | (dsimp +zetaDelta only; split)
    | with_reducible apply Via.set_frozen
    | (dsimp only)

theorem State.dmaThawed_via (s : State) (d : Nat) (store : Bool) : Via 72057594038976512 s (State.dmaThawed s d store) := by
  unfold State.dmaThawed
  repeat' first
    | with_reducible exact Via.refl _
    | with_reducible assumption
    | decide +kernel
    | (intro x; refine Via.cutLet (m := 72057594038976512) (s := s) (t := x) ?_ ?_)
    | (refine fun hx => ?_; clear_value x)
    | intro x
    | lift_lets
    | with_reducible apply Via.setFld
    | with_reducible apply Via.put
    | with_reducible apply Via.incr
    | with_reducible apply Via.ite
    | split
    | (dsimp only [x]; split)
    | (dsimp +zetaDelta only; split)
    | with_reducible apply Via.set_hw
    | (dsimp only)

theorem State.thaw_via (s : State) (m : Nat) : Via 216172799295225860 s (State.thaw s m) := by
  unfold State.thaw
  repeat' first
    | with_reducible exact Via.refl _
    | with_reducible assumption
    | decide +kernel
    | (intro x; refine Via.cutLet (m := 216172799295225860) (s := s) (t := x) ?_ ?_)
    | (refine fun hx => ?_; clear_value x)
    | intro x
    | lift_lets
    | with_reducible apply Via.ite
    | with_reducible apply Via.then (State.absentAccess_via ..)
    | with_reducible apply Via.then (State.dmaThawed_via ..)
    | with_reducible apply Via.then (State.unfreeze_via ..)
    | split
    | (dsimp only [x]; split)
    | (dsimp +zetaDelta only; split)
    | (dsimp only)

theorem State.serviceReset_via (s : State) (c why : Nat) : Via 342615571512708804 s (State.serviceReset s c why) := by
  unfold State.serviceReset
  repeat' first
    | with_reducible exact Via.refl _
    | with_reducible assumption
    | decide +kernel
    | (intro x; refine Via.cutLet (m := 342615571512708804) (s := s) (t := x) ?_ ?_)
    | (refine fun hx => ?_; clear_value x)
    | intro x
    | lift_lets
    | with_reducible apply Via.setFld
    | with_reducible apply Via.put
    | with_reducible apply Via.ite
    | with_reducible apply Via.then (State.policyStops_via ..)
    | with_reducible apply Via.then (State.logSystem_via ..)
    | with_reducible apply Via.then (State.levelShow_via ..)
    | with_reducible apply Via.then (State.unfreeze_via ..)
    | with_reducible apply Via.then (State.updCore_via ..)
    | with_reducible apply Via.then (State.levels_via ..)
    | with_reducible apply Via.writeWord
    | omega
    | (simp +zetaDelta only [descriptor]; omega)
    | (dsimp +zetaDelta only []; split <;> decide +kernel)
    | (split <;> decide +kernel)
    | split
    | (dsimp only [x]; split)
    | (dsimp +zetaDelta only; split)
    | with_reducible apply Via.set_mbx
    | (dsimp only)

theorem State.recordViolation_via (s : State) (m a n : Nat) (k : Acc) (reason : Nat) : Via 144115188076380164 s (State.recordViolation s m a n k reason) := by
  unfold State.recordViolation
  repeat' first
    | with_reducible exact Via.refl _
    | with_reducible assumption
    | decide +kernel
    | (intro x; refine Via.cutLet (m := 144115188076380164) (s := s) (t := x) ?_ ?_)
    | (refine fun hx => ?_; clear_value x)
    | intro x
    | lift_lets
    | with_reducible apply Via.setFld
    | with_reducible apply Via.put
    | with_reducible apply Via.incr
    | with_reducible apply Via.ite
    | with_reducible apply Via.then (State.raise_via ..)
    | with_reducible apply Via.then (State.irq_via ..)
    | split
    | (dsimp only [x]; split)
    | (dsimp +zetaDelta only; split)
    | (dsimp only)

theorem State.showHash_via (s : State) (o n : Nat) : Via 2621440 s (State.showHash s o n) := by
  unfold State.showHash
  repeat' first
    | with_reducible exact Via.refl _
    | with_reducible assumption
    | decide +kernel
    | (intro x; refine Via.cutLet (m := 2621440) (s := s) (t := x) ?_ ?_)
    | (refine fun hx => ?_; clear_value x)
    | intro x
    | lift_lets
    | with_reducible apply Via.setFld
    | with_reducible apply Via.then (State.irq_via ..)
    | (with_reducible refine Via.each _ _ (fun s _ => ?_) ?_)
    | split
    | (dsimp only [x]; split)
    | (dsimp +zetaDelta only; split)
    | (dsimp only)

theorem State.stageImage_via (s : State) (sel : Nat) : Via 137887744 s (State.stageImage s sel) := by
  unfold State.stageImage
  repeat' first
    | with_reducible exact Via.refl _
    | with_reducible assumption
    | decide +kernel
    | (intro x; refine Via.cutLet (m := 137887744) (s := s) (t := x) ?_ ?_)
    | (refine fun hx => ?_; clear_value x)
    | intro x
    | lift_lets
    | with_reducible apply Via.setFld
    | with_reducible apply Via.add
    | with_reducible apply Via.then (State.showHash_via ..)
    | with_reducible apply Via.then (State.irq_via ..)
    | with_reducible apply Via.write
    | omega
    | (simp +zetaDelta only [flashAddr]; omega)
    | split
    | (dsimp only [x]; split)
    | (dsimp +zetaDelta only; split)
    | (dsimp only)

theorem State.startLoader_via (s : State) (c sel : Nat) : Via 36028797153705984 s (State.startLoader s c sel) := by
  unfold State.startLoader
  repeat' first
    | with_reducible exact Via.refl _
    | with_reducible assumption
    | decide +kernel
    | (intro x; refine Via.cutLet (m := 36028797153705984) (s := s) (t := x) ?_ ?_)
    | (refine fun hx => ?_; clear_value x)
    | intro x
    | lift_lets
    | with_reducible apply Via.put
    | with_reducible apply Via.then (State.updCore_via ..)
    | with_reducible apply Via.writeWord
    | omega
    | (simp +zetaDelta only [descriptor, flashAddr]; omega)
    | split
    | (dsimp only [x]; split)
    | (dsimp +zetaDelta only; split)
    | (dsimp only)

theorem State.tryImage_via (s : State) (c sel : Nat) : Via 324259173316952064 s (State.tryImage s c sel).2 := by
  unfold State.tryImage
  repeat' first
    | with_reducible exact Via.refl _
    | with_reducible assumption
    | decide +kernel
    | (intro x; refine Via.cutLet (m := 324259173316952064) (s := s) (t := x) ?_ ?_)
    | (refine fun hx => ?_; clear_value x)
    | intro x
    | lift_lets
    | with_reducible apply Via.put
    | with_reducible apply Via.ite
    | with_reducible apply Via.then (State.startLoader_via ..)
    | with_reducible apply Via.then (State.stageImage_via ..)
    | with_reducible apply Via.then (State.logSystem_via ..)
    | with_reducible apply Via.then (State.updCore_via ..)
    | with_reducible apply Via.writeWord
    | omega
    | (simp +zetaDelta only [descriptor]; omega)
    | split
    | (dsimp only [x]; split)
    | (dsimp +zetaDelta only; split)
    | (dsimp only)

theorem State.tryImage_via' {s : State} {c sel : Nat} {a : Bool} {t : State} (hop : State.tryImage s c sel = (a, t)) : Via 324259173316952064 s t := by
  have d := State.tryImage_via s c sel
  rw [hop] at d
  exact d

theorem State.loadImage_via (s : State) (c sel : Nat) : Via 324259173316952064 s (State.loadImage s c sel) := by
  unfold State.loadImage
  repeat' first
    | with_reducible exact Via.refl _
    | with_reducible assumption
    | decide +kernel
    | (intro x; refine Via.cutLet (m := 324259173316952064) (s := s) (t := x) ?_ ?_)
    | (refine fun hx => ?_; clear_value x)
    | intro x
    | lift_lets
    | with_reducible apply Via.ite
    | with_reducible apply Via.then (State.tryImage_via ..)
    | with_reducible refine Via.then (State.tryImage_via' (by assumption)) (by decide +kernel) ?_
    | with_reducible apply Via.then (State.updCore_via ..)
    | with_reducible apply Via.writeWord
    | omega
    | (simp +zetaDelta only [descriptor]; omega)
    | split
    | (dsimp only [x]; split)
    | (dsimp +zetaDelta only; split)
    | (dsimp only)
    | (dsimp +zetaDelta only)

end Sys2Proof.Machine
end

