-- ==== Sys2Proof/Laws/ViaLogOps.lean ====
section
/-! SUPPORT. What each operation of Machine/LogOps.lean can do to the state (see Laws/Via.lean). -/

namespace Sys2Proof.Machine

set_option linter.unusedTactic false
set_option linter.unreachableTactic false
set_option linter.unusedSimpArgs false
set_option linter.unusedVariables false

set_option Elab.async false

theorem State.logWrite_via (s : State) : Via 288230376294842368 s (State.logWrite s) := by
  unfold State.logWrite
  repeat' first
    | with_reducible exact Via.refl _
    | with_reducible assumption
    | decide +kernel
    | (intro x; refine Via.cutLet (m := 288230376294842368) (s := s) (t := x) ?_ ?_)
    | (refine fun hx => ?_; clear_value x)
    | intro x
    | lift_lets
    | with_reducible apply Via.setFld
    | with_reducible apply Via.ite
    | with_reducible apply Via.then (State.irq_via ..)
    | with_reducible apply Via.write
    | omega
    | (simp +zetaDelta only [logAddr]; omega)
    | (dsimp +zetaDelta only []; split <;> decide +kernel)
    | (split <;> decide +kernel)
    | split
    | (dsimp only [x]; split)
    | (dsimp +zetaDelta only; split)
    | with_reducible apply Via.set_log
    | (dsimp only)

theorem State.logSubmit_via (s : State) (id kind flags : Nat) (data : List Nat) : Via 288230376160100352 s (State.logSubmit s id kind flags data) := by
  unfold State.logSubmit
  repeat' first
    | with_reducible exact Via.refl _
    | with_reducible assumption
    | decide +kernel
    | (intro g; refine Via.cutFun (m := 288230376160100352) (g := g) (fun s => ?_) ?_; on_goal 1 => dsimp only [g])
    | (intro g; refine Via.cutFunTwo (m := 288230376160100352) (g := g) (fun s _ => ?_) ?_; on_goal 1 => dsimp only [g])
    | (refine fun hg => ?_; clear_value g)
    | (refine Via.trans ?_ (hg ..))
    | (intro x; refine Via.cutLet (m := 288230376160100352) (s := s) (t := x) ?_ ?_)
    | (refine fun hx => ?_; clear_value x)
    | intro x
    | lift_lets
    | with_reducible apply Via.incr
    | with_reducible apply Via.ite
    | with_reducible apply Via.then (State.logAt_via ..)
    | split
    | (dsimp only [x]; split)
    | (dsimp +zetaDelta only; split)
    | with_reducible apply Via.set_log
    | (dsimp only)

theorem State.logSubGo_via (s : State) : Via 288230376160100352 s (State.logSubGo s) := by
  unfold State.logSubGo
  repeat' first
    | with_reducible exact Via.refl _
    | with_reducible assumption
    | decide +kernel
    | (intro x; refine Via.cutLet (m := 288230376160100352) (s := s) (t := x) ?_ ?_)
    | (refine fun hx => ?_; clear_value x)
    | intro x
    | lift_lets
    | with_reducible apply Via.then (State.logSubmit_via ..)
    | split
    | (dsimp only [x]; split)
    | (dsimp +zetaDelta only; split)
    | (dsimp only)

end Sys2Proof.Machine
end

