-- ==== Sys2Proof/Laws/ViaMf.lean ====
section
/-! SUPPORT. What each operation of Machine/Mf.lean can do to the state (see Laws/Via.lean). -/

namespace Sys2Proof.Machine

set_option linter.unusedTactic false
set_option linter.unreachableTactic false
set_option linter.unusedSimpArgs false
set_option linter.unusedVariables false

set_option Elab.async false

theorem execPort33ConnectApply_via (k : Nat) (connect : Bool) (s : State) :
    ∀ t, execPort33ConnectApply k connect s = .next t → Via 9008333126631936 s t := by
  intro t ht
  unfold execPort33ConnectApply at ht
  split at ht
  · obtain ⟨-, rfl⟩ := orUnpredictable_next ht
    exact Via.then (State.p33Update_via ..) (by decide +kernel) (Via.put _ _ _ (by decide +kernel) (.refl _))
  · cases ht
    exact .refl _

theorem execPort33ResetEnd_via (k : Nat) (s : State) : ∃ t, execPort33ResetEnd k s = .next t ∧ Via 9007233614479872 s t := by
  refine ⟨_, rfl, ?_⟩
  repeat' first
    | with_reducible exact Via.refl _
    | with_reducible assumption
    | decide +kernel
    | (intro x; refine Via.cutLet (m := 9007233614479872) (s := s) (t := x) ?_ ?_)
    | (refine fun hx => ?_; clear_value x)
    | intro x
    | with_reducible apply Via.put
    | with_reducible apply Via.ite
    | with_reducible apply Via.then (State.resetDone_via ..)
    | with_reducible apply Via.then (State.change33_via ..)
    | with_reducible apply Via.then (State.setP33_via ..)
    | split
    | (dsimp only [x]; split)
    | (dsimp +zetaDelta only; split)
    | (dsimp only)

theorem execPort33ResumeEnd_via (k : Nat) (s : State) : ∃ t, execPort33ResumeEnd k s = .next t ∧ Via 1133871366656 s t := by
  refine ⟨_, rfl, ?_⟩
  repeat' first
    | with_reducible exact Via.refl _
    | with_reducible assumption
    | decide +kernel
    | (intro x; refine Via.cutLet (m := 1133871366656) (s := s) (t := x) ?_ ?_)
    | (refine fun hx => ?_; clear_value x)
    | intro x
    | with_reducible apply Via.ite
    | with_reducible apply Via.then (State.change33_via ..)
    | with_reducible apply Via.then (State.setP33_via ..)
    | with_reducible apply Via.then (State.updMf_via ..)
    | split
    | (dsimp only [x]; split)
    | (dsimp +zetaDelta only; split)
    | (dsimp only)

theorem execPort33RemoteWake_via (k : Nat) (hostToo : Bool) (s : State) : ∃ t, execPort33RemoteWake k hostToo s = .next t ∧ Via 1133871366656 s t := by
  refine ⟨_, rfl, ?_⟩
  repeat' first
    | with_reducible exact Via.refl _
    | with_reducible assumption
    | decide +kernel
    | (intro g; refine Via.cutFun (m := 1133871366656) (g := g) (fun s => ?_) ?_; on_goal 1 => dsimp only [g])
    | (intro g; refine Via.cutFunTwo (m := 1133871366656) (g := g) (fun s _ => ?_) ?_; on_goal 1 => dsimp only [g])
    | (refine fun hg => ?_; clear_value g)
    | (refine Via.trans ?_ (hg ..))
    | (intro x; refine Via.cutLet (m := 1133871366656) (s := s) (t := x) ?_ ?_)
    | (refine fun hx => ?_; clear_value x)
    | intro x
    | lift_lets
    | with_reducible apply Via.incr
    | with_reducible apply Via.ite
    | with_reducible apply Via.then (State.updPart_via ..)
    | with_reducible apply Via.then (State.setP33_via ..)
    | with_reducible apply Via.then (State.updMf_via ..)
    | split
    | (dsimp only [x]; split)
    | (dsimp +zetaDelta only; split)
    | (dsimp only)

theorem State.mfGive_via (s : State) (k : Nat) (l : List Nat) : Via 1133871366144 s (State.mfGive s k l) := by
  unfold State.mfGive
  repeat' first
    | with_reducible exact Via.refl _
    | with_reducible assumption
    | decide +kernel
    | (intro x; refine Via.cutLet (m := 1133871366144) (s := s) (t := x) ?_ ?_)
    | (refine fun hx => ?_; clear_value x)
    | intro x
    | with_reducible apply Via.then (State.answer_via ..)
    | with_reducible apply Via.then (State.updMf_via ..)
    | split
    | (dsimp only [x]; split)
    | (dsimp +zetaDelta only; split)
    | (dsimp only)

theorem State.mfAnswer_via (s : State) (k : Nat) (a : BusAnswer) : Via 1133871366144 s (State.mfAnswer s k a) := by
  unfold State.mfAnswer
  repeat' first
    | with_reducible exact Via.refl _
    | with_reducible assumption
    | decide +kernel
    | (intro x; refine Via.cutLet (m := 1133871366144) (s := s) (t := x) ?_ ?_)
    | (refine fun hx => ?_; clear_value x)
    | intro x
    | with_reducible apply Via.then (State.answer_via ..)
    | with_reducible apply Via.then (State.updMf_via ..)
    | split
    | (dsimp only [x]; split)
    | (dsimp +zetaDelta only; split)
    | (dsimp only)

theorem State.mfConfigure_via (s : State) (k v : Nat) : Via 9008298766893568 s (State.mfConfigure s k v) := by
  unfold State.mfConfigure
  repeat' first
    | with_reducible exact Via.refl _
    | with_reducible assumption
    | decide +kernel
    | (intro x; refine Via.cutLet (m := 9008298766893568) (s := s) (t := x) ?_ ?_)
    | (refine fun hx => ?_; clear_value x)
    | intro x
    | lift_lets
    | with_reducible apply Via.put
    | with_reducible apply Via.ite
    | with_reducible apply Via.then (State.mfFlush_via ..)
    | with_reducible apply Via.then (State.updMf_via ..)
    | split
    | (dsimp only [x]; split)
    | (dsimp +zetaDelta only; split)
    | (dsimp only)

theorem State.mfWait_via (s : State) (k : Nat) : Via 1133871366144 s (State.mfWait s k) := by
  unfold State.mfWait
  repeat' first
    | with_reducible exact Via.refl _
    | with_reducible assumption
    | decide +kernel
    | (intro x; refine Via.cutLet (m := 1133871366144) (s := s) (t := x) ?_ ?_)
    | (refine fun hx => ?_; clear_value x)
    | intro x
    | with_reducible apply Via.then (State.answer_via ..)
    | with_reducible apply Via.then (State.updMf_via ..)
    | split
    | (dsimp only [x]; split)
    | (dsimp +zetaDelta only; split)
    | (dsimp only)

theorem State.mfClose_via (s : State) (k : Nat) (done : Bool) : Via 1099511627776 s (State.mfClose s k done) := by
  unfold State.mfClose
  repeat' first
    | with_reducible exact Via.refl _
    | with_reducible assumption
    | decide +kernel
    | (intro x; refine Via.cutLet (m := 1099511627776) (s := s) (t := x) ?_ ?_)
    | (refine fun hx => ?_; clear_value x)
    | intro x
    | with_reducible apply Via.ite
    | with_reducible apply Via.then (State.updMf_via ..)
    | split
    | (dsimp only [x]; split)
    | (dsimp +zetaDelta only; split)
    | (dsimp only)

theorem execMfEp0Setup_via (k requestType request value index length : Nat) (done : Bool) (s : State) : ∃ t, execMfEp0Setup k requestType request value index length done s = .next t ∧ Via 9008333126631936 s t := by
  refine ⟨_, rfl, ?_⟩
  repeat' first
    | with_reducible exact Via.refl _
    | with_reducible assumption
    | decide +kernel
    | (intro x; refine Via.cutLet (m := 9008333126631936) (s := s) (t := x) ?_ ?_)
    | (refine fun hx => ?_; clear_value x)
    | intro x
    | lift_lets
    | with_reducible apply Via.setFld
    | with_reducible apply Via.put
    | with_reducible apply Via.ite
    | with_reducible apply Via.then (State.controlAbandon_via ..)
    | with_reducible apply Via.then (State.mfConfigure_via ..)
    | with_reducible apply Via.then (State.mfAnswer_via ..)
    | with_reducible apply Via.then (State.mfClose_via ..)
    | with_reducible apply Via.then (State.unplace_via ..)
    | with_reducible apply Via.then (State.mfGive_via ..)
    | with_reducible apply Via.then (State.mfWait_via ..)
    | with_reducible apply Via.then (State.answer_via ..)
    | with_reducible apply Via.then (State.updMf_via ..)
    | with_reducible apply Via.then (State.irq_via ..)
    | split
    | (dsimp only [x]; split)
    | (dsimp +zetaDelta only; split)
    | (dsimp only)

theorem execGetDescriptorReady_via (k : Nat) (done : Bool) (s : State) : ∃ t, execGetDescriptorReady k done s = .next t ∧ Via 1134005583872 s t := by
  refine ⟨_, rfl, ?_⟩
  repeat' first
    | with_reducible exact Via.refl _
    | with_reducible assumption
    | decide +kernel
    | (intro x; refine Via.cutLet (m := 1134005583872) (s := s) (t := x) ?_ ?_)
    | (refine fun hx => ?_; clear_value x)
    | intro x
    | lift_lets
    | with_reducible apply Via.ite
    | with_reducible apply Via.then (State.epWrite_via ..)
    | with_reducible apply Via.then (State.answer_via ..)
    | with_reducible apply Via.then (State.updMf_via ..)
    | (dsimp +zetaDelta only []; split <;> decide +kernel)
    | (split <;> decide +kernel)
    | split
    | (dsimp only [x]; split)
    | (dsimp +zetaDelta only; split)
    | (dsimp only)

theorem execControlAbandon_via (k : Nat) (s : State) : ∃ t, execControlAbandon k s = .next t ∧ Via 1099511628288 s t := by
  refine ⟨_, rfl, ?_⟩
  repeat' first
    | with_reducible exact Via.refl _
    | with_reducible assumption
    | decide +kernel
    | (intro x; refine Via.cutLet (m := 1099511628288) (s := s) (t := x) ?_ ?_)
    | (refine fun hx => ?_; clear_value x)
    | intro x
    | with_reducible apply Via.ite
    | with_reducible apply Via.then (State.controlAbandon_via ..)
    | split
    | (dsimp only [x]; split)
    | (dsimp +zetaDelta only; split)
    | (dsimp only)

theorem execEp1OutPacket_via (k : Nat) (bytes : List Nat) (badCrc toggleError : Bool) (s : State) : ∃ t, execEp1OutPacket k bytes badCrc toggleError s = .next t ∧ Via 1134006108672 s t := by
  refine ⟨_, rfl, ?_⟩
  repeat' first
    | with_reducible exact Via.refl _
    | with_reducible assumption
    | decide +kernel
    | (intro x; refine Via.cutLet (m := 1134006108672) (s := s) (t := x) ?_ ?_)
    | (refine fun hx => ?_; clear_value x)
    | intro x
    | lift_lets
    | with_reducible apply Via.incr
    | with_reducible apply Via.ite
    | with_reducible apply Via.then (State.mfAnswer_via ..)
    | with_reducible apply Via.then (State.epWrite_via ..)
    | with_reducible apply Via.then (State.ep1End_via ..)
    | with_reducible apply Via.then (State.updMf_via ..)
    | split
    | (dsimp only [x]; split)
    | (dsimp +zetaDelta only; split)
    | (dsimp only)

theorem execEp1Ping_via (k : Nat) (s : State) : ∃ t, execEp1Ping k s = .next t ∧ Via 1133871890944 s t := by
  refine ⟨_, rfl, ?_⟩
  repeat' first
    | with_reducible exact Via.refl _
    | with_reducible assumption
    | decide +kernel
    | (intro x; refine Via.cutLet (m := 1133871890944) (s := s) (t := x) ?_ ?_)
    | (refine fun hx => ?_; clear_value x)
    | intro x
    | lift_lets
    | with_reducible apply Via.ite
    | with_reducible apply Via.then (State.mfAnswer_via ..)
    | with_reducible apply Via.then (State.ep1End_via ..)
    | split
    | (dsimp only [x]; split)
    | (dsimp +zetaDelta only; split)
    | (dsimp only)

theorem execEp1FrameComplete_via (k : Nat) (s : State) : ∃ t, execEp1FrameComplete k s = .next t ∧ Via 1099512152576 s t := by
  refine ⟨_, rfl, ?_⟩
  repeat' first
    | with_reducible exact Via.refl _
    | with_reducible assumption
    | decide +kernel
    | (intro x; refine Via.cutLet (m := 1099512152576) (s := s) (t := x) ?_ ?_)
    | (refine fun hx => ?_; clear_value x)
    | intro x
    | with_reducible apply Via.ite
    | with_reducible apply Via.then (State.ep1End_via ..)
    | split
    | (dsimp only [x]; split)
    | (dsimp +zetaDelta only; split)
    | (dsimp only)

theorem State.mfTurn_via (s : State) (k e n : Nat) : Via 1099511627776 s (State.mfTurn s k e n) := by
  unfold State.mfTurn
  repeat' first
    | with_reducible exact Via.refl _
    | with_reducible assumption
    | decide +kernel
    | (intro x; refine Via.cutLet (m := 1099511627776) (s := s) (t := x) ?_ ?_)
    | (refine fun hx => ?_; clear_value x)
    | intro x
    | with_reducible apply Via.ite
    | with_reducible apply Via.then (State.updMf_via ..)
    | split
    | (dsimp only [x]; split)
    | (dsimp +zetaDelta only; split)
    | (dsimp only)

theorem execEp2ResponseSent_via (k : Nat) (s : State) : ∃ t, execEp2ResponseSent k s = .next t ∧ Via 1134006108672 s t := by
  refine ⟨_, rfl, ?_⟩
  repeat' first
    | with_reducible exact Via.refl _
    | with_reducible assumption
    | decide +kernel
    | (intro x; refine Via.cutLet (m := 1134006108672) (s := s) (t := x) ?_ ?_)
    | (refine fun hx => ?_; clear_value x)
    | intro x
    | lift_lets
    | with_reducible apply Via.ite
    | with_reducible apply Via.then (State.mfAnswer_via ..)
    | with_reducible apply Via.then (State.ep2Fill_via ..)
    | with_reducible apply Via.then (State.mfTurn_via ..)
    | with_reducible apply Via.then (State.answer_via ..)
    | with_reducible apply Via.then (State.updMf_via ..)
    | with_reducible apply Via.then (State.irq_via ..)
    | (dsimp +zetaDelta only []; split <;> decide +kernel)
    | (split <;> decide +kernel)
    | split
    | (dsimp only [x]; split)
    | (dsimp +zetaDelta only; split)
    | (dsimp only)

theorem execEp3NoticePacket_via (k n : Nat) (acked : Bool) (s : State) : ∃ t, execEp3NoticePacket k n acked s = .next t ∧ Via 1134005584384 s t := by
  refine ⟨_, rfl, ?_⟩
  repeat' first
    | with_reducible exact Via.refl _
    | with_reducible assumption
    | decide +kernel
    | (intro x; refine Via.cutLet (m := 1134005584384) (s := s) (t := x) ?_ ?_)
    | (refine fun hx => ?_; clear_value x)
    | intro x
    | lift_lets
    | with_reducible apply Via.put
    | with_reducible apply Via.add
    | with_reducible apply Via.ite
    | with_reducible apply Via.then (State.mfAnswer_via ..)
    | with_reducible apply Via.then (State.epWrite_via ..)
    | with_reducible apply Via.then (State.updMf_via ..)
    | split
    | (dsimp only [x]; split)
    | (dsimp +zetaDelta only; split)
    | (dsimp only)

theorem execNoticeRaised_via (typ data : Nat) (s : State) : ∃ t, execNoticeRaised typ data s = .next t ∧ Via 282574521893376 s t := by
  refine ⟨_, rfl, ?_⟩
  repeat' first
    | with_reducible exact Via.refl _
    | with_reducible assumption
    | decide +kernel
    | (intro x; refine Via.cutLet (m := 282574521893376) (s := s) (t := x) ?_ ?_)
    | (refine fun hx => ?_; clear_value x)
    | intro x
    | with_reducible apply Via.ite
    | with_reducible apply Via.then (State.notice_via ..)
    | split
    | (dsimp only [x]; split)
    | (dsimp +zetaDelta only; split)
    | (dsimp only)

theorem execSofReceived_via (k frame uframe : Nat) (s : State) : ∃ t, execSofReceived k frame uframe s = .next t ∧ Via 134218272 s t := by
  refine ⟨_, rfl, ?_⟩
  repeat' first
    | with_reducible exact Via.refl _
    | with_reducible assumption
    | decide +kernel
    | (intro x; refine Via.cutLet (m := 134218272) (s := s) (t := x) ?_ ?_)
    | (refine fun hx => ?_; clear_value x)
    | intro x
    | lift_lets
    | with_reducible apply Via.setFld
    | with_reducible apply Via.incr
    | with_reducible apply Via.ite
    | with_reducible apply Via.writeWord
    | omega
    | (simp +zetaDelta only []; omega)
    | split
    | (dsimp only [x]; split)
    | (dsimp +zetaDelta only; split)
    | (dsimp only)

end Sys2Proof.Machine
end

