-- ==== Sys2Proof/Laws/ViaTrace.lean ====
section
/-! SUPPORT. What each operation of Machine/Trace.lean can do to the state (see Laws/Via.lean). -/

namespace Sys2Proof.Machine

set_option linter.unusedTactic false
set_option linter.unreachableTactic false
set_option linter.unusedSimpArgs false
set_option linter.unusedVariables false

set_option Elab.async false

theorem execPacketCapture_via (x : TapPacket) (s : State) : ∃ t, execPacketCapture x s = .next t ∧ Via 9289773911507456 s t := by
  refine ⟨_, rfl, ?_⟩
  repeat' first
    | with_reducible exact Via.refl _
    | with_reducible assumption
    | decide +kernel
    | (intro x; refine Via.cutLet (m := 9289773911507456) (s := s) (t := x) ?_ ?_)
    | (refine fun hx => ?_; clear_value x)
    | intro x
    | lift_lets
    | with_reducible apply Via.ite
    | with_reducible apply Via.then (State.traceRecord_via ..)
    | with_reducible apply Via.then (State.traceLate_via ..)
    | with_reducible apply Via.then (State.updTrc_via ..)
    | (dsimp +zetaDelta only []; split <;> decide +kernel)
    | (split <;> decide +kernel)
    | split
    | (dsimp only [x]; split)
    | (dsimp +zetaDelta only; split)
    | (dsimp only)

theorem execDropRecordWrite_via (s : State) : ∃ t, execDropRecordWrite s = .next t ∧ Via 9289773911507456 s t := by
  refine ⟨_, rfl, ?_⟩
  repeat' first
    | with_reducible exact Via.refl _
    | with_reducible assumption
    | decide +kernel
    | (intro x; refine Via.cutLet (m := 9289773911507456) (s := s) (t := x) ?_ ?_)
    | (refine fun hx => ?_; clear_value x)
    | intro x
    | lift_lets
    | with_reducible apply Via.ite
    | with_reducible apply Via.then (State.traceDropRecord_via ..)
    | with_reducible apply Via.then (State.updTrc_via ..)
    | split
    | (dsimp only [x]; split)
    | (dsimp +zetaDelta only; split)
    | (dsimp only)

theorem execTraceTrigger_via (cause id value : Nat) (s : State) : ∃ t, execTraceTrigger s cause id value = .next t ∧ Via 297520150071607808 s t := by
  refine ⟨_, rfl, ?_⟩
  repeat' first
    | with_reducible exact Via.refl _
    | with_reducible assumption
    | decide +kernel
    | (intro x; refine Via.cutLet (m := 297520150071607808) (s := s) (t := x) ?_ ?_)
    | (refine fun hx => ?_; clear_value x)
    | intro x
    | with_reducible apply Via.ite
    | with_reducible apply Via.then (State.faultTriggers_via ..)
    | with_reducible apply Via.then (State.markTriggers_via ..)
    | with_reducible apply Via.then (State.traceTrigger_via ..)
    | split
    | (dsimp only [x]; split)
    | (dsimp +zetaDelta only; split)
    | (dsimp only)

theorem execPostTriggerDone_via (s : State) : ∃ t, execPostTriggerDone s = .next t ∧ Via 9289773911507456 s t := by
  refine ⟨_, rfl, ?_⟩
  repeat' first
    | with_reducible exact Via.refl _
    | with_reducible assumption
    | decide +kernel
    | (intro x; refine Via.cutLet (m := 9289773911507456) (s := s) (t := x) ?_ ?_)
    | (refine fun hx => ?_; clear_value x)
    | intro x
    | with_reducible apply Via.ite
    | with_reducible apply Via.then (State.traceStop_via ..)
    | split
    | (dsimp only [x]; split)
    | (dsimp +zetaDelta only; split)
    | (dsimp only)

theorem execTraceMemoryFull_via (payload : Nat) (s : State) : ∃ t, execTraceMemoryFull s payload = .next t ∧ Via 9289773911507456 s t := by
  refine ⟨_, rfl, ?_⟩
  repeat' first
    | with_reducible exact Via.refl _
    | with_reducible assumption
    | decide +kernel
    | (intro x; refine Via.cutLet (m := 9289773911507456) (s := s) (t := x) ?_ ?_)
    | (refine fun hx => ?_; clear_value x)
    | intro x
    | with_reducible apply Via.ite
    | with_reducible apply Via.then (State.traceStop_via ..)
    | with_reducible apply Via.then (State.traceDrop_via ..)
    | split
    | (dsimp only [x]; split)
    | (dsimp +zetaDelta only; split)
    | (dsimp only)

theorem execTrcStart_via (s : State) : ∃ t, execTrcStart s = .next t ∧ Via 297520150071607808 s t := by
  refine ⟨_, rfl, ?_⟩
  repeat' first
    | with_reducible exact Via.refl _
    | with_reducible assumption
    | decide +kernel
    | (intro x; refine Via.cutLet (m := 297520150071607808) (s := s) (t := x) ?_ ?_)
    | (refine fun hx => ?_; clear_value x)
    | intro x
    | with_reducible apply Via.then (State.traceStart_via ..)
    | split
    | (dsimp only [x]; split)
    | (dsimp +zetaDelta only; split)
    | (dsimp only)

theorem execTrcStop_via (s : State) : ∃ t, execTrcStop s = .next t ∧ Via 9289773911507456 s t := by
  refine ⟨_, rfl, ?_⟩
  repeat' first
    | with_reducible exact Via.refl _
    | with_reducible assumption
    | decide +kernel
    | (intro x; refine Via.cutLet (m := 9289773911507456) (s := s) (t := x) ?_ ?_)
    | (refine fun hx => ?_; clear_value x)
    | intro x
    | with_reducible apply Via.then (State.traceStop_via ..)
    | split
    | (dsimp only [x]; split)
    | (dsimp +zetaDelta only; split)
    | (dsimp only)

theorem execTrcTrig_via (s : State) : ∃ t, execTrcTrig s = .next t ∧ Via 297520150071607808 s t := by
  refine ⟨_, rfl, ?_⟩
  repeat' first
    | with_reducible exact Via.refl _
    | with_reducible assumption
    | decide +kernel
    | (intro x; refine Via.cutLet (m := 297520150071607808) (s := s) (t := x) ?_ ?_)
    | (refine fun hx => ?_; clear_value x)
    | intro x
    | with_reducible apply Via.then (State.traceTrigger_via ..)
    | split
    | (dsimp only [x]; split)
    | (dsimp +zetaDelta only; split)
    | (dsimp only)

theorem execTrcClear_via (s : State) : ∃ t, execTrcClear s = .next t ∧ Via 9007199254872064 s t := by
  refine ⟨_, rfl, ?_⟩
  repeat' first
    | with_reducible exact Via.refl _
    | with_reducible assumption
    | decide +kernel
    | (intro x; refine Via.cutLet (m := 9007199254872064) (s := s) (t := x) ?_ ?_)
    | (refine fun hx => ?_; clear_value x)
    | intro x
    | with_reducible apply Via.then (State.traceClear_via ..)
    | split
    | (dsimp only [x]; split)
    | (dsimp +zetaDelta only; split)
    | (dsimp only)

theorem State.trcMark_via (s : State) (value : Nat) : Via 297520150071607808 s (State.trcMark s value) := by
  unfold State.trcMark
  repeat' first
    | with_reducible exact Via.refl _
    | with_reducible assumption
    | decide +kernel
    | (intro x; refine Via.cutLet (m := 297520150071607808) (s := s) (t := x) ?_ ?_)
    | (refine fun hx => ?_; clear_value x)
    | intro x
    | with_reducible apply Via.then (State.traceMark_via ..)
    | split
    | (dsimp only [x]; split)
    | (dsimp +zetaDelta only; split)
    | (dsimp only)

theorem execTrcMarkWrite_via (value : Nat) (s : State) : ∃ t, execTrcMarkWrite value s = .next t ∧ Via 297520150071607808 s t := by
  refine ⟨_, rfl, ?_⟩
  repeat' first
    | with_reducible exact Via.refl _
    | with_reducible assumption
    | decide +kernel
    | (intro x; refine Via.cutLet (m := 297520150071607808) (s := s) (t := x) ?_ ?_)
    | (refine fun hx => ?_; clear_value x)
    | intro x
    | with_reducible apply Via.then (State.trcMark_via ..)
    | split
    | (dsimp only [x]; split)
    | (dsimp +zetaDelta only; split)
    | (dsimp only)

theorem execScrubTick_via (k one two : Nat) (deferred : Bool) (s : State) : ∃ t, execScrubTick k one two deferred s = .next t ∧ Via 262144 s t := by
  refine ⟨_, rfl, ?_⟩
  repeat' first
    | with_reducible exact Via.refl _
    | with_reducible assumption
    | decide +kernel
    | (intro x; refine Via.cutLet (m := 262144) (s := s) (t := x) ?_ ?_)
    | (refine fun hx => ?_; clear_value x)
    | intro x
    | lift_lets
    | with_reducible apply Via.setFld
    | with_reducible apply Via.add
    | with_reducible apply Via.incr
    | with_reducible apply Via.ite
    | split
    | (dsimp only [x]; split)
    | (dsimp +zetaDelta only; split)
    | (dsimp only)

theorem execTraceUncorrectable_via (k addr : Nat) (count : Option Nat) (s : State) : ∃ t, execTraceUncorrectable k addr count s = .next t ∧ Via 153122387331514368 s t := by
  refine ⟨_, rfl, ?_⟩
  repeat' first
    | with_reducible exact Via.refl _
    | with_reducible assumption
    | decide +kernel
    | (intro x; refine Via.cutLet (m := 153122387331514368) (s := s) (t := x) ?_ ?_)
    | (refine fun hx => ?_; clear_value x)
    | intro x
    | lift_lets
    | with_reducible apply Via.setFld
    | with_reducible apply Via.put
    | with_reducible apply Via.incr
    | with_reducible apply Via.ite
    | with_reducible apply Via.then (State.updTrc_via ..)
    | with_reducible apply Via.then (State.raise_via ..)
    | with_reducible apply Via.then (State.irq_via ..)
    | (dsimp +zetaDelta only []; split <;> decide +kernel)
    | (split <;> decide +kernel)
    | split
    | (dsimp only [x]; split)
    | (dsimp +zetaDelta only; split)
    | (dsimp only)

theorem State.ep4Fetch_via (s : State) (k one two : Nat) : Via 134610944 s (State.ep4Fetch s k one two).2 := by
  unfold State.ep4Fetch
  repeat' first
    | with_reducible exact Via.refl _
    | with_reducible assumption
    | decide +kernel
    | (intro x; refine Via.cutLet (m := 134610944) (s := s) (t := x) ?_ ?_)
    | (refine fun hx => ?_; clear_value x)
    | intro x
    | lift_lets
    | with_reducible apply Via.then (State.traceFixed_via ..)
    | with_reducible apply Via.then (State.epWrite_via ..)
    | (dsimp +zetaDelta only []; split <;> decide +kernel)
    | (split <;> decide +kernel)
    | split
    | (dsimp only [x]; split)
    | (dsimp +zetaDelta only; split)
    | (dsimp only)

theorem State.ep4Fetch_via' {s : State} {k one two : Nat} {a : Transfer} {t : State} (hop : State.ep4Fetch s k one two = (a, t)) : Via 134610944 s t := by
  have d := State.ep4Fetch_via s k one two
  rw [hop] at d
  exact d

theorem execEp4TransferAck_via (k one two : Nat) (acked : Bool) (s : State) : ∃ t, execEp4TransferAck k one two s acked = .next t ∧ Via 9008333260718080 s t := by
  refine ⟨_, rfl, ?_⟩
  repeat' first
    | with_reducible exact Via.refl _
    | with_reducible assumption
    | decide +kernel
    | (intro x; refine Via.cutLet (m := 9008333260718080) (s := s) (t := x) ?_ ?_)
    | (refine fun hx => ?_; clear_value x)
    | intro x
    | lift_lets
    | with_reducible apply Via.ite
    | with_reducible apply Via.then (State.exported_via ..)
    | with_reducible apply Via.then (State.ep4Fetch_via ..)
    | with_reducible refine Via.then (State.ep4Fetch_via' (by assumption)) (by decide +kernel) ?_
    | with_reducible apply Via.then (State.mfTurn_via ..)
    | with_reducible apply Via.then (State.updTrc_via ..)
    | with_reducible apply Via.then (State.answer_via ..)
    | with_reducible apply Via.then (State.updMf_via ..)
    | split
    | (dsimp only [x]; split)
    | (dsimp +zetaDelta only; split)
    | (dsimp only)
    | (dsimp +zetaDelta only)

end Sys2Proof.Machine
end

