-- ==== Sys2Proof/Laws/ViaTat.lean ====
section
/-! SUPPORT. What each operation of Machine/Tat.lean can do to the state (see Laws/Via.lean). -/

namespace Sys2Proof.Machine

set_option linter.unusedTactic false
set_option linter.unreachableTactic false
set_option linter.unusedSimpArgs false
set_option linter.unusedVariables false

set_option Elab.async false

theorem State.updTat_via (s : State) (i : Nat) (f : TatEntry → TatEntry) : Via 2251799813685248 s (State.updTat s i f) := by
  unfold State.updTat
  repeat' first
    | with_reducible exact Via.refl _
    | with_reducible assumption
    | decide +kernel
    | (intro x; refine Via.cutLet (m := 2251799813685248) (s := s) (t := x) ?_ ?_)
    | (refine fun hx => ?_; clear_value x)
    | intro x
    | split
    | (dsimp only [x]; split)
    | (dsimp +zetaDelta only; split)
    | with_reducible apply Via.set_tat
    | (dsimp only)

theorem State.tatShow_via (s : State) : Via 65536 s (State.tatShow s) := by
  unfold State.tatShow
  repeat' first
    | with_reducible exact Via.refl _
    | with_reducible assumption
    | decide +kernel
    | (intro x; refine Via.cutLet (m := 65536) (s := s) (t := x) ?_ ?_)
    | (refine fun hx => ?_; clear_value x)
    | intro x
    | lift_lets
    | with_reducible apply Via.setFld
    | (with_reducible refine Via.each _ _ (fun s _ => ?_) ?_)
    | split
    | (dsimp only [x]; split)
    | (dsimp +zetaDelta only; split)
    | (dsimp only)

theorem State.tatRefresh_via (s : State) : Via 607232 s (State.tatRefresh s) := by
  unfold State.tatRefresh
  repeat' first
    | with_reducible exact Via.refl _
    | with_reducible assumption
    | decide +kernel
    | (intro x; refine Via.cutLet (m := 607232) (s := s) (t := x) ?_ ?_)
    | (refine fun hx => ?_; clear_value x)
    | intro x
    | lift_lets
    | with_reducible apply Via.setFld
    | with_reducible apply Via.put
    | with_reducible apply Via.then (State.resvRefresh_via ..)
    | with_reducible apply Via.then (State.govRefresh_via ..)
    | with_reducible apply Via.then (State.tatShow_via ..)
    | (dsimp +zetaDelta only []; split <;> decide +kernel)
    | (split <;> decide +kernel)
    | split
    | (dsimp only [x]; split)
    | (dsimp +zetaDelta only; split)
    | (dsimp only)

theorem State.logAction_via (s : State) (i outcome reason : Nat) (ports last : Nat) : Via 288230376160100352 s (State.logAction s i outcome reason ports last) := by
  unfold State.logAction
  repeat' first
    | with_reducible exact Via.refl _
    | with_reducible assumption
    | decide +kernel
    | (intro x; refine Via.cutLet (m := 288230376160100352) (s := s) (t := x) ?_ ?_)
    | (refine fun hx => ?_; clear_value x)
    | intro x
    | lift_lets
    | with_reducible apply Via.then (State.logRec_via ..)
    | split
    | (dsimp only [x]; split)
    | (dsimp +zetaDelta only; split)
    | (dsimp only)

theorem State.tatErase_via (s : State) (i : Nat) : Via 2251799814292480 s (State.tatErase s i) := by
  unfold State.tatErase
  repeat' first
    | with_reducible exact Via.refl _
    | with_reducible assumption
    | decide +kernel
    | (intro x; refine Via.cutLet (m := 2251799814292480) (s := s) (t := x) ?_ ?_)
    | (refine fun hx => ?_; clear_value x)
    | intro x
    | with_reducible apply Via.put
    | with_reducible apply Via.then (State.tatRefresh_via ..)
    | split
    | (dsimp only [x]; split)
    | (dsimp +zetaDelta only; split)
    | with_reducible apply Via.set_tat
    | (dsimp only)

theorem State.tatResult_via (s : State) (r i : Nat) : Via 589824 s (State.tatResult s r i) := by
  unfold State.tatResult
  repeat' first
    | with_reducible exact Via.refl _
    | with_reducible assumption
    | decide +kernel
    | (intro x; refine Via.cutLet (m := 589824) (s := s) (t := x) ?_ ?_)
    | (refine fun hx => ?_; clear_value x)
    | intro x
    | with_reducible apply Via.setFld
    | with_reducible apply Via.then (State.irq_via ..)
    | split
    | (dsimp only [x]; split)
    | (dsimp +zetaDelta only; split)
    | (dsimp only)

theorem State.tatAdd_via (s : State) (words : List Nat) (channel : Option Nat) : Via 6755399441662976 s (State.tatAdd s words channel) := by
  unfold State.tatAdd
  repeat' first
    | with_reducible exact Via.refl _
    | with_reducible assumption
    | decide +kernel
    | (intro g; refine Via.cutFun (m := 6755399441662976) (g := g) (fun s => ?_) ?_; on_goal 1 => dsimp only [g])
    | (intro g; refine Via.cutFunTwo (m := 6755399441662976) (g := g) (fun s _ => ?_) ?_; on_goal 1 => dsimp only [g])
    | (refine fun hg => ?_; clear_value g)
    | (refine Via.trans ?_ (hg ..))
    | (intro x; refine Via.cutLet (m := 6755399441662976) (s := s) (t := x) ?_ ?_)
    | (refine fun hx => ?_; clear_value x)
    | intro x
    | lift_lets
    | with_reducible apply Via.put
    | with_reducible apply Via.incr
    | with_reducible apply Via.ite
    | with_reducible apply Via.then (State.tatRefresh_via ..)
    | with_reducible apply Via.then (State.tatResult_via ..)
    | (dsimp +zetaDelta only []; split <;> decide +kernel)
    | (split <;> decide +kernel)
    | split
    | (dsimp only [x]; split)
    | (dsimp +zetaDelta only; split)
    | with_reducible apply Via.set_tat_tatOrder
    | with_reducible apply Via.set_tat
    | with_reducible apply Via.set_tatOrder
    | (dsimp only)

theorem State.tatBegin_via (s : State) (add : Bool) : Via 1152921504606912512 s (State.tatBegin s add) := by
  unfold State.tatBegin
  repeat' first
    | with_reducible exact Via.refl _
    | with_reducible assumption
    | decide +kernel
    | (intro x; refine Via.cutLet (m := 1152921504606912512) (s := s) (t := x) ?_ ?_)
    | (refine fun hx => ?_; clear_value x)
    | intro x
    | with_reducible apply Via.put
    | with_reducible apply Via.add
    | split
    | (dsimp only [x]; split)
    | (dsimp +zetaDelta only; split)
    | with_reducible apply Via.set_tatOps
    | (dsimp only)

theorem State.tatDone_via (s : State) (add : Bool) : Via 1152921504606912512 s (State.tatDone s add) := by
  unfold State.tatDone
  repeat' first
    | with_reducible exact Via.refl _
    | with_reducible assumption
    | decide +kernel
    | (intro x; refine Via.cutLet (m := 1152921504606912512) (s := s) (t := x) ?_ ?_)
    | (refine fun hx => ?_; clear_value x)
    | intro x
    | lift_lets
    | with_reducible apply Via.put
    | with_reducible apply Via.add
    | split
    | (dsimp only [x]; split)
    | (dsimp +zetaDelta only; split)
    | with_reducible apply Via.set_tatOps
    | (dsimp only)

theorem execTatAdd_via (s : State) : ∃ t, execTatAdd s = .next t ∧ Via 1159676904048509952 s t := by
  refine ⟨_, rfl, ?_⟩
  repeat' first
    | with_reducible exact Via.refl _
    | with_reducible assumption
    | decide +kernel
    | (intro x; refine Via.cutLet (m := 1159676904048509952) (s := s) (t := x) ?_ ?_)
    | (refine fun hx => ?_; clear_value x)
    | intro x
    | with_reducible apply Via.then (State.tatDone_via ..)
    | with_reducible apply Via.then (State.tatAdd_via ..)
    | split
    | (dsimp only [x]; split)
    | (dsimp +zetaDelta only; split)
    | (dsimp only)

theorem State.tatCancel_via (s : State) (i : Nat) : Via 290482175974392832 s (State.tatCancel s i) := by
  unfold State.tatCancel
  repeat' first
    | with_reducible exact Via.refl _
    | with_reducible assumption
    | decide +kernel
    | (intro x; refine Via.cutLet (m := 290482175974392832) (s := s) (t := x) ?_ ?_)
    | (refine fun hx => ?_; clear_value x)
    | intro x
    | lift_lets
    | with_reducible apply Via.incr
    | with_reducible apply Via.ite
    | with_reducible apply Via.then (State.logAction_via ..)
    | with_reducible apply Via.then (State.tatResult_via ..)
    | with_reducible apply Via.then (State.tatErase_via ..)
    | split
    | (dsimp only [x]; split)
    | (dsimp +zetaDelta only; split)
    | (dsimp only)

theorem execTatCancel_via (s : State) : ∃ t, execTatCancel s = .next t ∧ Via 1443403680581239808 s t := by
  refine ⟨_, rfl, ?_⟩
  repeat' first
    | with_reducible exact Via.refl _
    | with_reducible assumption
    | decide +kernel
    | (intro x; refine Via.cutLet (m := 1443403680581239808) (s := s) (t := x) ?_ ?_)
    | (refine fun hx => ?_; clear_value x)
    | intro x
    | with_reducible apply Via.then (State.tatCancel_via ..)
    | with_reducible apply Via.then (State.tatDone_via ..)
    | split
    | (dsimp only [x]; split)
    | (dsimp +zetaDelta only; split)
    | (dsimp only)

theorem State.tatDiscard_via (s : State) : Via 290482175974392832 s (State.tatDiscard s) := by
  unfold State.tatDiscard
  repeat' first
    | with_reducible exact Via.refl _
    | with_reducible assumption
    | decide +kernel
    | (intro x; refine Via.cutLet (m := 290482175974392832) (s := s) (t := x) ?_ ?_)
    | (refine fun hx => ?_; clear_value x)
    | intro x
    | with_reducible apply Via.then (State.logAction_via ..)
    | with_reducible apply Via.then (State.tatErase_via ..)
    | (with_reducible refine Via.each _ _ (fun s _ => ?_) ?_)
    | split
    | (dsimp only [x]; split)
    | (dsimp +zetaDelta only; split)
    | (dsimp only)

theorem execTatQueueLoad_via (s : State) : ∃ t, execTatQueueLoad s = .next t ∧ Via 2251799813685248 s t := by
  refine ⟨_, rfl, ?_⟩
  refine Via.foldlFst _ _ _ (fun p _ => ?_) (.refl _)
  split
  · exact Via.then (State.updTat_via ..) (by decide +kernel) (.refl _)
  · exact .refl _

theorem State.stageSel_via (s : State) (p : Nat) (b : Bool) : Via 268435456 s (State.stageSel s p b) := by
  unfold State.stageSel
  repeat' first
    | with_reducible exact Via.refl _
    | with_reducible assumption
    | decide +kernel
    | (intro x; refine Via.cutLet (m := 268435456) (s := s) (t := x) ?_ ?_)
    | (refine fun hx => ?_; clear_value x)
    | intro x
    | split
    | (dsimp only [x]; split)
    | (dsimp +zetaDelta only; split)
    | with_reducible apply Via.set_staged
    | (dsimp only)

theorem State.suppress_via (s : State) (w : List Nat) (p : Nat) : Via 288230376429125696 s (State.suppress s w p) := by
  unfold State.suppress
  repeat' first
    | with_reducible exact Via.refl _
    | with_reducible assumption
    | decide +kernel
    | (intro x; refine Via.cutLet (m := 288230376429125696) (s := s) (t := x) ?_ ?_)
    | (refine fun hx => ?_; clear_value x)
    | intro x
    | lift_lets
    | with_reducible apply Via.incr
    | with_reducible apply Via.ite
    | with_reducible apply Via.then (State.glitchSuppressed_via ..)
    | with_reducible apply Via.then (State.migRefused_via ..)
    | with_reducible apply Via.then (State.stageSel_via ..)
    | (dsimp +zetaDelta only []; split <;> decide +kernel)
    | (split <;> decide +kernel)
    | split
    | (dsimp only [x]; split)
    | (dsimp +zetaDelta only; split)
    | (dsimp only)

theorem State.giveCredit_via (s : State) (i p : Nat) : Via 35184372088832 s (State.giveCredit s i p) := by
  unfold State.giveCredit
  repeat' first
    | with_reducible exact Via.refl _
    | with_reducible assumption
    | decide +kernel
    | (intro x; refine Via.cutLet (m := 35184372088832) (s := s) (t := x) ?_ ?_)
    | (refine fun hx => ?_; clear_value x)
    | intro x
    | with_reducible apply Via.then (State.updGov_via ..)
    | (dsimp +zetaDelta only []; split <;> decide +kernel)
    | (split <;> decide +kernel)
    | split
    | (dsimp only [x]; split)
    | (dsimp +zetaDelta only; split)
    | (dsimp only)

theorem State.paid_via {m : Nat} {s t : State} (p : Nat) (f : State → State) (hm : Nat.land 35184372696064 m = 35184372696064)
    (hf : ∀ s, Via m s (f s)) (d : Via m s t) : Via m s (t.paid p f) := by
  unfold State.paid
  exact Via.then (State.govRefresh_via ..) (testMono (by decide +kernel) hm)
    (Via.then (State.spendCredit_via ..) (testMono (by decide +kernel) hm) (d.trans (hf _)))

theorem State.actNow_via (s : State) (i p : Nat) : Via 299832354439516128 s (State.actNow s i p) := by
  unfold State.actNow
  repeat' first
    | with_reducible exact Via.refl _
    | with_reducible assumption
    | decide +kernel
    | (intro x; refine Via.cutLet (m := 299832354439516128) (s := s) (t := x) ?_ ?_)
    | (refine fun hx => ?_; clear_value x)
    | intro x
    | lift_lets
    | with_reducible apply Via.setFld
    | with_reducible apply Via.incr
    | with_reducible apply Via.ite
    | with_reducible apply Via.then (State.glitchStart_via ..)
    | with_reducible apply Via.then (State.giveCredit_via ..)
    | with_reducible apply Via.then (State.rpEvaluate_via ..)
    | with_reducible apply Via.then (State.govRefresh_via ..)
    | with_reducible apply Via.then (State.logAction_via ..)
    | with_reducible apply Via.then (State.voffWrite_via ..)
    | with_reducible apply Via.then (State.offerSent_via ..)
    | with_reducible apply Via.then (State.migStart_via ..)
    | with_reducible apply Via.then (State.stageSel_via ..)
    | with_reducible apply Via.then (State.isolate_via ..)
    | with_reducible apply Via.then (State.setCcen_via ..)
    | with_reducible apply Via.then (State.updPwr_via ..)
    | with_reducible apply Via.then (State.updPd_via ..)
    | with_reducible apply Via.then (State.hush_via ..)
    | (with_reducible refine State.paid_via _ _ (by decide +kernel) (fun s => ?_) ?_ <;> beta_reduce)
    | with_reducible apply Via.then (pdSettle_via ..)
    | (dsimp +zetaDelta only []; split <;> decide +kernel)
    | (split <;> decide +kernel)
    | split
    | (dsimp only [x]; split)
    | (dsimp +zetaDelta only; split)
    | (dsimp only)

theorem State.actOn_via (s : State) (i p : Nat) : Via 299832354439516128 s (State.actOn s i p) := by
  unfold State.actOn
  repeat' first
    | with_reducible exact Via.refl _
    | with_reducible assumption
    | decide +kernel
    | (intro x; refine Via.cutLet (m := 299832354439516128) (s := s) (t := x) ?_ ?_)
    | (refine fun hx => ?_; clear_value x)
    | intro x
    | lift_lets
    | with_reducible apply Via.ite
    | with_reducible apply Via.then (State.actNow_via ..)
    | with_reducible apply Via.then (State.updTat_via ..)
    | split
    | (dsimp only [x]; split)
    | (dsimp +zetaDelta only; split)
    | (dsimp only)

theorem State.actLate_via (s : State) (i p : Nat) : Via 299832354439516128 s (State.actLate s i p) := by
  unfold State.actLate
  repeat' first
    | with_reducible exact Via.refl _
    | with_reducible assumption
    | decide +kernel
    | (intro x; refine Via.cutLet (m := 299832354439516128) (s := s) (t := x) ?_ ?_)
    | (refine fun hx => ?_; clear_value x)
    | intro x
    | lift_lets
    | with_reducible apply Via.then (State.logAction_via ..)
    | with_reducible apply Via.then (State.suppress_via ..)
    | with_reducible apply Via.then (State.actuated_via ..)
    | with_reducible apply Via.then (State.actNow_via ..)
    | with_reducible apply Via.then (State.updTat_via ..)
    | (dsimp +zetaDelta only []; split <;> decide +kernel)
    | (split <;> decide +kernel)
    | split
    | (dsimp only [x]; split)
    | (dsimp +zetaDelta only; split)
    | (dsimp only)

theorem State.lateActions_via (s : State) : Via 299832354439516128 s (State.lateActions s) := by
  unfold State.lateActions
  repeat' first
    | with_reducible exact Via.refl _
    | with_reducible assumption
    | decide +kernel
    | (intro x; refine Via.cutLet (m := 299832354439516128) (s := s) (t := x) ?_ ?_)
    | (refine fun hx => ?_; clear_value x)
    | intro x
    | with_reducible apply Via.then (State.actLate_via ..)
    | (with_reducible refine Via.each _ _ (fun s _ => ?_) ?_)
    | (with_reducible refine Via.foldlFst _ _ _ (fun p _ => ?_) ?_ <;> dsimp only)
    | (with_reducible refine Via.foldlThen _ _ (fun s _ => ?_) ?_)
    | split
    | (dsimp only [x]; split)
    | (dsimp +zetaDelta only; split)
    | (dsimp only)

theorem State.tatSuppress_via (s : State) (i reason : Nat) : Via 290764750496286208 s (State.tatSuppress s i reason) := by
  unfold State.tatSuppress
  repeat' first
    | with_reducible exact Via.refl _
    | with_reducible assumption
    | decide +kernel
    | (intro x; refine Via.cutLet (m := 290764750496286208) (s := s) (t := x) ?_ ?_)
    | (refine fun hx => ?_; clear_value x)
    | intro x
    | lift_lets
    | with_reducible apply Via.add
    | with_reducible apply Via.ite
    | with_reducible apply Via.then (State.logAction_via ..)
    | with_reducible apply Via.then (State.tatErase_via ..)
    | with_reducible apply Via.then (State.notice_via ..)
    | with_reducible apply Via.then (State.irq_via ..)
    | split
    | (dsimp only [x]; split)
    | (dsimp +zetaDelta only; split)
    | (dsimp only)

theorem State.actOther_via (s : State) (i : Nat) : Via 297520150071673344 s (State.actOther s i) := by
  unfold State.actOther
  repeat' first
    | with_reducible exact Via.refl _
    | with_reducible assumption
    | decide +kernel
    | (intro x; refine Via.cutLet (m := 297520150071673344) (s := s) (t := x) ?_ ?_)
    | (refine fun hx => ?_; clear_value x)
    | intro x
    | lift_lets
    | with_reducible apply Via.setFld
    | with_reducible apply Via.then (State.markTriggers_via ..)
    | with_reducible apply Via.then (State.traceStart_via ..)
    | with_reducible apply Via.then (State.traceStop_via ..)
    | with_reducible apply Via.then (State.traceMark_via ..)
    | with_reducible apply Via.then (State.irq_via ..)
    | (dsimp +zetaDelta only []; split <;> decide +kernel)
    | (split <;> decide +kernel)
    | split
    | (dsimp only [x]; split)
    | (dsimp +zetaDelta only; split)
    | (dsimp only)

theorem State.logSuppressed_via (s : State) (i : Nat) (l : List (Nat × Nat)) : Via 288230376160100352 s (State.logSuppressed s i l) := by
  unfold State.logSuppressed
  repeat' first
    | with_reducible exact Via.refl _
    | with_reducible assumption
    | decide +kernel
    | (intro x; refine Via.cutLet (m := 288230376160100352) (s := s) (t := x) ?_ ?_)
    | (refine fun hx => ?_; clear_value x)
    | intro x
    | lift_lets
    | with_reducible apply Via.ite
    | with_reducible apply Via.then (State.logAction_via ..)
    | (with_reducible refine Via.each _ _ (fun s _ => ?_) ?_)
    | split
    | (dsimp only [x]; split)
    | (dsimp +zetaDelta only; split)
    | (dsimp only)

theorem State.openWindows_via (s : State) (i : Nat) (go : List Nat) : Via 2251799813685248 s (State.openWindows s i go) := by
  unfold State.openWindows
  repeat' first
    | with_reducible exact Via.refl _
    | with_reducible assumption
    | decide +kernel
    | (intro x; refine Via.cutLet (m := 2251799813685248) (s := s) (t := x) ?_ ?_)
    | (refine fun hx => ?_; clear_value x)
    | intro x
    | with_reducible apply Via.ite
    | with_reducible apply Via.then (State.updTat_via ..)
    | split
    | (dsimp only [x]; split)
    | (dsimp +zetaDelta only; split)
    | (dsimp only)

theorem State.tatLaunch_via (s : State) (i : Nat) (late : Option Nat) : Via 299832354573864928 s (State.tatLaunch s i late) := by
  unfold State.tatLaunch
  repeat' first
    | with_reducible exact Via.refl _
    | with_reducible assumption
    | decide +kernel
    | (intro g; refine Via.cutFun (m := 299832354573864928) (g := g) (fun s => ?_) ?_; on_goal 1 => dsimp only [g])
    | (intro g; refine Via.cutFunTwo (m := 299832354573864928) (g := g) (fun s _ => ?_) ?_; on_goal 1 => dsimp only [g])
    | (refine fun hg => ?_; clear_value g)
    | (refine Via.trans ?_ (hg ..))
    | (intro x; refine Via.cutLet (m := 299832354573864928) (s := s) (t := x) ?_ ?_)
    | (refine fun hx => ?_; clear_value x)
    | intro x
    | lift_lets
    | with_reducible apply Via.incr
    | with_reducible apply Via.ite
    | with_reducible apply Via.then (State.logSuppressed_via ..)
    | with_reducible apply Via.then (State.openWindows_via ..)
    | with_reducible apply Via.then (State.tatSuppress_via ..)
    | with_reducible apply Via.then (State.tatRefresh_via ..)
    | with_reducible apply Via.then (State.traceMark_via ..)
    | with_reducible apply Via.then (State.logAction_via ..)
    | with_reducible apply Via.then (State.suppress_via ..)
    | with_reducible apply Via.then (State.actOther_via ..)
    | with_reducible apply Via.then (State.updTat_via ..)
    | with_reducible apply Via.then (State.notice_via ..)
    | with_reducible apply Via.then (State.actOn_via ..)
    | with_reducible apply Via.then (State.irq_via ..)
    | (with_reducible refine Via.each _ _ (fun s _ => ?_) ?_)
    | (with_reducible refine Via.when _ _ (fun s => ?_) ?_)
    | (dsimp +zetaDelta only []; split <;> decide +kernel)
    | (split <;> decide +kernel)
    | split
    | (dsimp only [x]; split)
    | (dsimp +zetaDelta only; split)
    | (dsimp only)

theorem execTatLaunch_via (s : State) : ∃ t, execTatLaunch s = .next t ∧ Via 299832356184477664 s t := by
  refine ⟨_, rfl, ?_⟩
  repeat' first
    | with_reducible exact Via.refl _
    | with_reducible assumption
    | decide +kernel
    | (intro x; refine Via.cutLet (m := 299832356184477664) (s := s) (t := x) ?_ ?_)
    | (refine fun hx => ?_; clear_value x)
    | intro x
    | lift_lets
    | with_reducible apply Via.ite
    | with_reducible apply Via.then (State.tatLaunch_via ..)
    | with_reducible apply Via.then (State.advance_via ..)
    | (dsimp +zetaDelta only []; split <;> decide +kernel)
    | (split <;> decide +kernel)
    | split
    | (dsimp only [x]; split)
    | (dsimp +zetaDelta only; split)
    | (dsimp only)

theorem execTatLateLaunch_via (s : State) : ∃ t, execTatLateLaunch s = .next t ∧ Via 299832356184477664 s t := by
  refine ⟨_, rfl, ?_⟩
  repeat' first
    | with_reducible exact Via.refl _
    | with_reducible assumption
    | decide +kernel
    | (intro x; refine Via.cutLet (m := 299832356184477664) (s := s) (t := x) ?_ ?_)
    | (refine fun hx => ?_; clear_value x)
    | intro x
    | lift_lets
    | with_reducible apply Via.then (State.tatSuppress_via ..)
    | with_reducible apply Via.then (State.tatLaunch_via ..)
    | with_reducible apply Via.then (State.advance_via ..)
    | (with_reducible refine Via.each _ _ (fun s _ => ?_) ?_)
    | (dsimp +zetaDelta only []; split <;> decide +kernel)
    | (split <;> decide +kernel)
    | split
    | (dsimp only [x]; split)
    | (dsimp +zetaDelta only; split)
    | (dsimp only)

theorem execMaskWindowEnd_via (i p : Nat) (s : State) : ∃ t, execMaskWindowEnd i p s = .next t ∧ Via 2251799813685248 s t := by
  refine ⟨_, rfl, ?_⟩
  repeat' first
    | with_reducible exact Via.refl _
    | with_reducible assumption
    | decide +kernel
    | (intro x; refine Via.cutLet (m := 2251799813685248) (s := s) (t := x) ?_ ?_)
    | (refine fun hx => ?_; clear_value x)
    | intro x
    | with_reducible apply Via.ite
    | with_reducible apply Via.then (State.updTat_via ..)
    | split
    | (dsimp only [x]; split)
    | (dsimp +zetaDelta only; split)
    | (dsimp only)

theorem execReservationRelease_via (i : Nat) (s : State) : ∃ t, execReservationRelease i s = .next t ∧ Via 2286984186381312 s t := by
  refine ⟨_, rfl, ?_⟩
  repeat' first
    | with_reducible exact Via.refl _
    | with_reducible assumption
    | decide +kernel
    | (intro x; refine Via.cutLet (m := 2286984186381312) (s := s) (t := x) ?_ ?_)
    | (refine fun hx => ?_; clear_value x)
    | intro x
    | lift_lets
    | with_reducible apply Via.ite
    | with_reducible apply Via.then (State.tatRefresh_via ..)
    | with_reducible apply Via.then (State.updGov_via ..)
    | with_reducible apply Via.then (State.updTat_via ..)
    | (with_reducible refine Via.each _ _ (fun s _ => ?_) ?_)
    | split
    | (dsimp only [x]; split)
    | (dsimp +zetaDelta only; split)
    | (dsimp only)

theorem execEntryFree_via (i : Nat) (s : State) : ∃ t, execEntryFree i s = .next t ∧ Via 2251799814292480 s t := by
  refine ⟨_, rfl, ?_⟩
  repeat' first
    | with_reducible exact Via.refl _
    | with_reducible assumption
    | decide +kernel
    | (intro x; refine Via.cutLet (m := 2251799814292480) (s := s) (t := x) ?_ ?_)
    | (refine fun hx => ?_; clear_value x)
    | intro x
    | lift_lets
    | with_reducible apply Via.ite
    | with_reducible apply Via.then (State.tatErase_via ..)
    | split
    | (dsimp only [x]; split)
    | (dsimp +zetaDelta only; split)
    | (dsimp only)

end Sys2Proof.Machine
end

