-- ==== Sys2Proof/Laws/ViaDomOps.lean ====
section
/-! SUPPORT. What each operation of Machine/DomOps.lean can do to the state (see Laws/Via.lean). -/

namespace Sys2Proof.Machine

set_option linter.unusedTactic false
set_option linter.unreachableTactic false
set_option linter.unusedSimpArgs false
set_option linter.unusedVariables false

set_option Elab.async false

theorem State.saveConfig_via (s : State) (d : Nat) : Via 4294967296 s (State.saveConfig s d) := by
  unfold State.saveConfig
  repeat' first
    | with_reducible exact Via.refl _
    | with_reducible assumption
    | decide +kernel
    | (intro x; refine Via.cutLet (m := 4294967296) (s := s) (t := x) ?_ ?_)
    | (refine fun hx => ?_; clear_value x)
    | intro x
    | lift_lets
    | (with_reducible refine Via.foldlFst _ _ _ (fun p _ => ?_) ?_ <;> dsimp only)
    | (with_reducible refine Via.foldlThen _ _ (fun s _ => ?_) ?_)
    | split
    | (dsimp only [x]; split)
    | (dsimp +zetaDelta only; split)
    | with_reducible apply Via.set_fwCopy
    | (dsimp only)

theorem State.restoreConfig_via (s : State) (d : Nat) : Via 134217727 s (State.restoreConfig s d) := by
  unfold State.restoreConfig
  refine Via.foldl _ (fun s e => ?_) _ _
  split
  · exact Via.bite _ (.refl _) (.setFld _ _ _ (land_allRegs (by decide +kernel) _) (.refl _))
  · exact .refl _

theorem State.traceHalt_via (s : State) : Via 282574522548736 s (State.traceHalt s) := by
  unfold State.traceHalt
  repeat' first
    | with_reducible exact Via.refl _
    | with_reducible assumption
    | decide +kernel
    | (intro x; refine Via.cutLet (m := 282574522548736) (s := s) (t := x) ?_ ?_)
    | (refine fun hx => ?_; clear_value x)
    | intro x
    | with_reducible apply Via.setFld
    | with_reducible apply Via.ite
    | with_reducible apply Via.then (State.notice_via ..)
    | with_reducible apply Via.then (State.irq_via ..)
    | split
    | (dsimp only [x]; split)
    | (dsimp +zetaDelta only; split)
    | (dsimp only)

theorem State.partDetach_via (s : State) (k : Nat) : Via 297580588717068256 s (State.partDetach s k) := by
  unfold State.partDetach
  repeat' first
    | with_reducible exact Via.refl _
    | with_reducible assumption
    | decide +kernel
    | (intro x; refine Via.cutLet (m := 297580588717068256) (s := s) (t := x) ?_ ?_)
    | (refine fun hx => ?_; clear_value x)
    | intro x
    | with_reducible apply Via.put
    | with_reducible apply Via.ite
    | with_reducible apply Via.then (State.upstreamEvent_via ..)
    | split
    | (dsimp only [x]; split)
    | (dsimp +zetaDelta only; split)
    | (dsimp only)

theorem State.portLeaves_via (s : State) (p : Nat) : Via 339749127081472 s (State.portLeaves s p) := by
  unfold State.portLeaves
  repeat' first
    | with_reducible exact Via.refl _
    | with_reducible assumption
    | decide +kernel
    | (intro x; refine Via.cutLet (m := 339749127081472) (s := s) (t := x) ?_ ?_)
    | (refine fun hx => ?_; clear_value x)
    | intro x
    | with_reducible apply Via.ite
    | with_reducible apply Via.then (State.contractEnd_via ..)
    | with_reducible apply Via.then (State.pwrUpdate_via ..)
    | with_reducible apply Via.then (State.sinkOpen_via ..)
    | split
    | (dsimp only [x]; split)
    | (dsimp +zetaDelta only; split)
    | (dsimp only)

theorem State.domLeave_via (s : State) (d : Nat) : Via 297580588717199328 s (State.domLeave s d) := by
  unfold State.domLeave
  repeat' first
    | with_reducible exact Via.refl _
    | with_reducible assumption
    | decide +kernel
    | (intro x; refine Via.cutLet (m := 297580588717199328) (s := s) (t := x) ?_ ?_)
    | (refine fun hx => ?_; clear_value x)
    | intro x
    | with_reducible apply Via.ite
    | with_reducible apply Via.then (State.partDetach_via ..)
    | with_reducible apply Via.then (State.portLeaves_via ..)
    | with_reducible apply Via.then (State.traceHalt_via ..)
    | (with_reducible refine Via.each _ _ (fun s _ => ?_) ?_)
    | split
    | (dsimp only [x]; split)
    | (dsimp +zetaDelta only; split)
    | (dsimp only)

theorem State.domTurn_via (s : State) (d : Nat) : Via 297580588717199329 s (State.domTurn s d) := by
  unfold State.domTurn
  repeat' first
    | with_reducible exact Via.refl _
    | with_reducible assumption
    | decide +kernel
    | (intro x; refine Via.cutLet (m := 297580588717199329) (s := s) (t := x) ?_ ?_)
    | (refine fun hx => ?_; clear_value x)
    | intro x
    | lift_lets
    | with_reducible apply Via.putBit
    | with_reducible apply Via.ite
    | with_reducible apply Via.then (State.domLeave_via ..)
    | split
    | (dsimp only [x]; split)
    | (dsimp +zetaDelta only; split)
    | (dsimp only)

theorem State.domFollow_via (s : State) (d : Nat) : Via 297580588717199329 s (State.domFollow s d) := by
  unfold State.domFollow
  repeat' first
    | with_reducible exact Via.refl _
    | with_reducible assumption
    | decide +kernel
    | (intro x; refine Via.cutLet (m := 297580588717199329) (s := s) (t := x) ?_ ?_)
    | (refine fun hx => ?_; clear_value x)
    | intro x
    | with_reducible apply Via.then (State.domTurn_via ..)
    | (with_reducible refine Via.each _ _ (fun s _ => ?_) ?_)
    | split
    | (dsimp only [x]; split)
    | (dsimp +zetaDelta only; split)
    | (dsimp only)

theorem State.domsFollow_via (s : State) : Via 297580588717199329 s (State.domsFollow s) := by
  unfold State.domsFollow
  repeat' first
    | with_reducible exact Via.refl _
    | with_reducible assumption
    | decide +kernel
    | (intro x; refine Via.cutLet (m := 297580588717199329) (s := s) (t := x) ?_ ?_)
    | (refine fun hx => ?_; clear_value x)
    | intro x
    | with_reducible apply Via.then (State.domFollow_via ..)
    | (with_reducible refine Via.each _ _ (fun s _ => ?_) ?_)
    | split
    | (dsimp only [x]; split)
    | (dsimp +zetaDelta only; split)
    | (dsimp only)

theorem State.clearDom_via (s : State) (d : Nat) : Via 8992587775 s (State.clearDom s d) :=
  Via.set_snaps _ (by decide +kernel) (Via.set_staged _ (by decide +kernel)
    (Via.keepRegs (fun e => slotDom e.1.1 e.1.2 != d) (by decide +kernel) (.refl s)))

theorem State.setD2d_via (s : State) (d st : Nat) : Via 24 s (State.setD2d s d st) := by
  unfold State.setD2d
  repeat' first
    | with_reducible exact Via.refl _
    | with_reducible assumption
    | decide +kernel
    | (intro x; refine Via.cutLet (m := 24) (s := s) (t := x) ?_ ?_)
    | (refine fun hx => ?_; clear_value x)
    | intro x
    | lift_lets
    | with_reducible apply Via.setFld
    | with_reducible apply Via.put
    | with_reducible apply Via.ite
    | split
    | (dsimp only [x]; split)
    | (dsimp +zetaDelta only; split)
    | (dsimp only)

theorem State.portGone_via (s : State) (p : Nat) : Via 299832354171012064 s (State.portGone s p) := by
  unfold State.portGone
  repeat' first
    | with_reducible exact Via.refl _
    | with_reducible assumption
    | decide +kernel
    | (intro x; refine Via.cutLet (m := 299832354171012064) (s := s) (t := x) ?_ ?_)
    | (refine fun hx => ?_; clear_value x)
    | intro x
    | lift_lets
    | with_reducible apply Via.putBit
    | with_reducible apply Via.put
    | with_reducible apply Via.ite
    | with_reducible apply Via.then (State.enterPoweredOff_via ..)
    | with_reducible apply Via.then (State.shareGone_via ..)
    | with_reducible apply Via.then (State.resetCut_via ..)
    | with_reducible apply Via.then (State.migDone_via ..)
    | with_reducible apply Via.then (State.refresh_via ..)
    | (dsimp +zetaDelta only []; split <;> decide +kernel)
    | (split <;> decide +kernel)
    | split
    | (dsimp only [x]; split)
    | (dsimp +zetaDelta only; split)
    | with_reducible apply Via.set_cc_pd
    | with_reducible apply Via.set_cc_pd_pwr_gov
    | with_reducible apply Via.set_cc
    | with_reducible apply Via.set_pd
    | with_reducible apply Via.set_pwr
    | with_reducible apply Via.set_gov
    | (dsimp only)

theorem State.domGone_via (s : State) (d : Nat) : Via 337550035544297441 s (State.domGone s d) := by
  unfold State.domGone
  repeat' first
    | with_reducible exact Via.refl _
    | with_reducible assumption
    | decide +kernel
    | (intro x; refine Via.cutLet (m := 337550035544297441) (s := s) (t := x) ?_ ?_)
    | (refine fun hx => ?_; clear_value x)
    | intro x
    | lift_lets
    | with_reducible apply Via.setFld
    | with_reducible apply Via.put
    | with_reducible apply Via.ite
    | with_reducible apply Via.then (State.policyStops_via ..)
    | with_reducible apply Via.then (State.tatRefresh_via ..)
    | with_reducible apply Via.then (State.levelShow_via ..)
    | with_reducible apply Via.then (State.portGone_via ..)
    | with_reducible apply Via.then (State.updChord_via ..)
    | with_reducible apply Via.then (State.presence_via ..)
    | with_reducible apply Via.then (State.setSync_via ..)
    | with_reducible apply Via.then (State.updLink_via ..)
    | with_reducible apply Via.then (State.updCore_via ..)
    | with_reducible apply Via.then (State.setLink_via ..)
    | with_reducible apply Via.then (State.levels_via ..)
    | (with_reducible refine Via.each _ _ (fun s _ => ?_) ?_)
    | (with_reducible refine Via.foldlFst _ _ _ (fun p _ => ?_) ?_ <;> dsimp only)
    | (with_reducible refine Via.foldlThen _ _ (fun s _ => ?_) ?_)
    | split
    | (dsimp only [x]; split)
    | (dsimp +zetaDelta only; split)
    | with_reducible apply Via.keepMem (fun a => decide (a < tcmAddr 1 0) || decide (tcmAddr 5 0 ≤ a))
    | with_reducible apply Via.keepMem (fun a => decide (a < bilberryAddr 0))
    | (simp [tcmAddr, bilberryAddr]; omega)
    | with_reducible apply Via.set_cc_pd
    | with_reducible apply Via.set_parts_migs_dpe_pool_tt_mf
    | with_reducible apply Via.set_parts
    | with_reducible apply Via.set_migs
    | with_reducible apply Via.set_dpe
    | with_reducible apply Via.set_pool
    | with_reducible apply Via.set_tt
    | with_reducible apply Via.set_mf
    | with_reducible apply Via.set_cc
    | with_reducible apply Via.set_pd
    | with_reducible apply Via.set_trc
    | (dsimp only)

theorem State.domSettle_via (s : State) (d : Nat) (on : Bool) : Via 288230377234366465 s (State.domSettle s d on) := by
  unfold State.domSettle
  repeat' first
    | with_reducible exact Via.refl _
    | with_reducible assumption
    | decide +kernel
    | (intro g; refine Via.cutFun (m := 288230377234366465) (g := g) (fun s => ?_) ?_; on_goal 1 => dsimp only [g])
    | (intro g; refine Via.cutFunTwo (m := 288230377234366465) (g := g) (fun s _ => ?_) ?_; on_goal 1 => dsimp only [g])
    | (refine fun hg => ?_; clear_value g)
    | (refine Via.trans ?_ (hg ..))
    | (intro x; refine Via.cutLet (m := 288230377234366465) (s := s) (t := x) ?_ ?_)
    | (refine fun hx => ?_; clear_value x)
    | intro x
    | lift_lets
    | with_reducible apply Via.putBit
    | with_reducible apply Via.ite
    | with_reducible apply Via.then (State.logSystem_via ..)
    | with_reducible apply Via.then (State.irq_via ..)
    | split
    | (dsimp only [x]; split)
    | (dsimp +zetaDelta only; split)
    | with_reducible apply Via.set_power
    | (dsimp only)

theorem State.domEnd_via (s : State) (d : Nat) : Via 337550049863008255 s (State.domEnd s d) := by
  unfold State.domEnd
  repeat' first
    | with_reducible exact Via.refl _
    | with_reducible assumption
    | decide +kernel
    | (intro x; refine Via.cutLet (m := 337550049863008255) (s := s) (t := x) ?_ ?_)
    | (refine fun hx => ?_; clear_value x)
    | intro x
    | lift_lets
    | with_reducible apply Via.setFld
    | with_reducible apply Via.ite
    | with_reducible apply Via.then (State.saveConfig_via ..)
    | with_reducible apply Via.then (State.domFollow_via ..)
    | with_reducible apply Via.then (State.domSettle_via ..)
    | with_reducible apply Via.then (State.clearDom_via ..)
    | with_reducible apply Via.then (State.domGone_via ..)
    | (with_reducible refine Via.each _ _ (fun s _ => ?_) ?_)
    | split
    | (dsimp only [x]; split)
    | (dsimp +zetaDelta only; split)
    | (dsimp only)

theorem State.calPort_via (s : State) (p : Nat) : Via 2048 s (State.calPort s p) := by
  unfold State.calPort
  repeat' first
    | with_reducible exact Via.refl _
    | with_reducible assumption
    | decide +kernel
    | (intro x; refine Via.cutLet (m := 2048) (s := s) (t := x) ?_ ?_)
    | (refine fun hx => ?_; clear_value x)
    | intro x
    | lift_lets
    | with_reducible apply Via.setFld
    | with_reducible apply Via.ite
    | split
    | (dsimp only [x]; split)
    | (dsimp +zetaDelta only; split)
    | (dsimp only)

theorem State.portStarts_via (s : State) (p : Nat) : Via 297580554357329856 s (State.portStarts s p) := by
  unfold State.portStarts
  repeat' first
    | with_reducible exact Via.refl _
    | with_reducible assumption
    | decide +kernel
    | (intro x; refine Via.cutLet (m := 297580554357329856) (s := s) (t := x) ?_ ?_)
    | (refine fun hx => ?_; clear_value x)
    | intro x
    | lift_lets
    | with_reducible apply Via.setFld
    | with_reducible apply Via.putBit
    | with_reducible apply Via.put
    | with_reducible apply Via.ite
    | with_reducible apply Via.then (State.ccEnableCause_via ..)
    | with_reducible apply Via.then (State.brdoffTake_via ..)
    | with_reducible apply Via.then (State.tryPowerUp_via ..)
    | with_reducible apply Via.then (State.isoUpdate_via ..)
    | with_reducible apply Via.then (State.calPort_via ..)
    | with_reducible apply Via.then (State.updPwr_via ..)
    | with_reducible apply Via.then (State.levels_via ..)
    | (dsimp +zetaDelta only []; split <;> decide +kernel)
    | (split <;> decide +kernel)
    | split
    | (dsimp only [x]; split)
    | (dsimp +zetaDelta only; split)
    | (dsimp only)

theorem State.fabricStarts_via (s : State) : Via 297580588717068256 s (State.fabricStarts s) := by
  unfold State.fabricStarts
  repeat' first
    | with_reducible exact Via.refl _
    | with_reducible assumption
    | decide +kernel
    | (intro x; refine Via.cutLet (m := 297580588717068256) (s := s) (t := x) ?_ ?_)
    | (refine fun hx => ?_; clear_value x)
    | intro x
    | lift_lets
    | with_reducible apply Via.put
    | with_reducible apply Via.ite
    | with_reducible apply Via.then (State.localPower_via ..)
    | with_reducible apply Via.then (State.quarantine_via ..)
    | with_reducible apply Via.then (State.ttRefresh_via ..)
    | with_reducible apply Via.then (State.isoUpdate_via ..)
    | with_reducible apply Via.then (State.descCheck_via ..)
    | with_reducible apply Via.then (State.presence_via ..)
    | with_reducible apply Via.then (State.setDpe_via ..)
    | (with_reducible refine Via.each _ _ (fun s _ => ?_) ?_)
    | split
    | (dsimp only [x]; split)
    | (dsimp +zetaDelta only; split)
    | (dsimp only)

theorem State.domStarts_via (s : State) (d : Nat) : Via 297580588717461496 s (State.domStarts s d) := by
  unfold State.domStarts
  repeat' first
    | with_reducible exact Via.refl _
    | with_reducible assumption
    | decide +kernel
    | (intro x; refine Via.cutLet (m := 297580588717461496) (s := s) (t := x) ?_ ?_)
    | (refine fun hx => ?_; clear_value x)
    | intro x
    | lift_lets
    | with_reducible apply Via.setFld
    | with_reducible apply Via.put
    | with_reducible apply Via.ite
    | with_reducible apply Via.then (State.fabricStarts_via ..)
    | with_reducible apply Via.then (State.portStarts_via ..)
    | with_reducible apply Via.then (State.govRefresh_via ..)
    | with_reducible apply Via.then (State.setD2d_via ..)
    | (with_reducible refine Via.each _ _ (fun s _ => ?_) ?_)
    | split
    | (dsimp only [x]; split)
    | (dsimp +zetaDelta only; split)
    | (dsimp only)

theorem State.bringUp_via (s : State) : Via 297580589882540031 s (State.bringUp s) := by
  unfold State.bringUp
  repeat' first
    | with_reducible exact Via.refl _
    | with_reducible assumption
    | decide +kernel
    | (intro x; refine Via.cutLet (m := 297580589882540031) (s := s) (t := x) ?_ ?_)
    | (refine fun hx => ?_; clear_value x)
    | intro x
    | lift_lets
    | with_reducible apply Via.setFld
    | with_reducible apply Via.ite
    | with_reducible apply Via.then (State.p33Update_via ..)
    | with_reducible apply Via.then (State.presence_via ..)
    | (with_reducible refine Via.each _ _ (fun s _ => ?_) ?_)
    | (with_reducible refine Via.foldlFst _ _ _ (fun p _ => ?_) ?_ <;> dsimp only)
    | (with_reducible refine Via.foldlThen _ _ (fun s _ => ?_) ?_)
    | (dsimp +zetaDelta only [fieldOf]; split <;> decide +kernel)
    | (split <;> decide +kernel)
    | exact land_allRegs (by decide +kernel) _
    | split
    | (dsimp only [x]; split)
    | (dsimp +zetaDelta only; split)
    | with_reducible apply Via.set_power
    | (dsimp only)

theorem State.domBegin_via (s : State) (d : Nat) : Via 297580598740910079 s (State.domBegin s d) := by
  unfold State.domBegin
  repeat' first
    | with_reducible exact Via.refl _
    | with_reducible assumption
    | decide +kernel
    | (intro x; refine Via.cutLet (m := 297580598740910079) (s := s) (t := x) ?_ ?_)
    | (refine fun hx => ?_; clear_value x)
    | intro x
    | lift_lets
    | with_reducible apply Via.ite
    | with_reducible apply Via.then (State.restoreConfig_via ..)
    | with_reducible apply Via.then (State.domFollow_via ..)
    | with_reducible apply Via.then (State.domStarts_via ..)
    | with_reducible apply Via.then (State.domSettle_via ..)
    | with_reducible apply Via.then (State.clearDom_via ..)
    | with_reducible apply Via.then (State.bringUp_via ..)
    | split
    | (dsimp only [x]; split)
    | (dsimp +zetaDelta only; split)
    | (dsimp only)

end Sys2Proof.Machine
end

