-- ==== Sys2Proof/Laws/ViaMbxOps.lean ====
section
/-! SUPPORT. What each operation of Machine/MbxOps.lean can do to the state (see Laws/Via.lean). -/

namespace Sys2Proof.Machine

set_option linter.unusedTactic false
set_option linter.unreachableTactic false
set_option linter.unusedSimpArgs false
set_option linter.unusedVariables false

set_option Elab.async false

theorem State.updCh_via (s : State) (ch : Nat) (f : Channel → Channel) : Via 18014398509481984 s (State.updCh s ch f) := by
  unfold State.updCh
  repeat' first
    | with_reducible exact Via.refl _
    | with_reducible assumption
    | decide +kernel
    | (intro x; refine Via.cutLet (m := 18014398509481984) (s := s) (t := x) ?_ ?_)
    | (refine fun hx => ?_; clear_value x)
    | intro x
    | split
    | (dsimp only [x]; split)
    | (dsimp +zetaDelta only; split)
    | with_reducible apply Via.set_mbx
    | (dsimp only)

theorem State.chRefresh_via (s : State) (ch : Nat) : Via 100663296 s (State.chRefresh s ch) := by
  unfold State.chRefresh
  repeat' first
    | with_reducible exact Via.refl _
    | with_reducible assumption
    | decide +kernel
    | (intro x; refine Via.cutLet (m := 100663296) (s := s) (t := x) ?_ ?_)
    | (refine fun hx => ?_; clear_value x)
    | intro x
    | lift_lets
    | with_reducible apply Via.setFld
    | with_reducible apply Via.put
    | with_reducible apply Via.ite
    | with_reducible apply Via.then (State.bcRefresh_via ..)
    | split
    | (dsimp only [x]; split)
    | (dsimp +zetaDelta only; split)
    | (dsimp only)

theorem State.chFill_via (s : State) (ch : Nat) : Via 18014398509481984 s (State.chFill s ch) := by
  unfold State.chFill
  repeat' first
    | with_reducible exact Via.refl _
    | with_reducible assumption
    | decide +kernel
    | (intro x; refine Via.cutLet (m := 18014398509481984) (s := s) (t := x) ?_ ?_)
    | (refine fun hx => ?_; clear_value x)
    | intro x
    | lift_lets
    | with_reducible apply Via.then (State.updCh_via ..)
    | split
    | (dsimp only [x]; split)
    | (dsimp +zetaDelta only; split)
    | (dsimp only)

theorem State.localPlace_via (s : State) (ch : Nat) (f : Frame) : Via 18014398677778432 s (State.localPlace s ch f) := by
  unfold State.localPlace
  repeat' first
    | with_reducible exact Via.refl _
    | with_reducible assumption
    | decide +kernel
    | (intro x; refine Via.cutLet (m := 18014398677778432) (s := s) (t := x) ?_ ?_)
    | (refine fun hx => ?_; clear_value x)
    | intro x
    | lift_lets
    | with_reducible apply Via.put
    | with_reducible apply Via.ite
    | with_reducible apply Via.then (State.updCh_via ..)
    | with_reducible apply Via.then (State.irq_via ..)
    | with_reducible apply Via.write
    | omega
    | (simp +zetaDelta only [tcmAddr]; omega)
    | split
    | (dsimp only [x]; split)
    | (dsimp +zetaDelta only; split)
    | (dsimp only)

theorem State.updMerge_via (s : State) (id : Nat) (f : ChordMerge → ChordMerge) : Via 562949953421312 s (State.updMerge s id f) := by
  unfold State.updMerge
  repeat' first
    | with_reducible exact Via.refl _
    | with_reducible assumption
    | decide +kernel
    | (intro x; refine Via.cutLet (m := 562949953421312) (s := s) (t := x) ?_ ?_)
    | (refine fun hx => ?_; clear_value x)
    | intro x
    | with_reducible apply Via.ite
    | with_reducible apply Via.then (State.updChord_via ..)
    | split
    | (dsimp only [x]; split)
    | (dsimp +zetaDelta only; split)
    | (dsimp only)

theorem State.chordPlace_via (s : State) (f : Frame) : Via 567347999933440 s (State.chordPlace s f) := by
  unfold State.chordPlace
  repeat' first
    | with_reducible exact Via.refl _
    | with_reducible assumption
    | decide +kernel
    | (intro x; refine Via.cutLet (m := 567347999933440) (s := s) (t := x) ?_ ?_)
    | (refine fun hx => ?_; clear_value x)
    | intro x
    | lift_lets
    | with_reducible apply Via.ite
    | with_reducible apply Via.then (State.chordSend_via ..)
    | with_reducible apply Via.then (State.updMerge_via ..)
    | with_reducible apply Via.then (State.updChord_via ..)
    | with_reducible apply Via.then (State.ownDone_via ..)
    | (dsimp +zetaDelta only []; split <;> decide +kernel)
    | (split <;> decide +kernel)
    | split
    | (dsimp only [x]; split)
    | (dsimp +zetaDelta only; split)
    | (dsimp only)

theorem State.place_via (s : State) (ch : Nat) (f : Frame) : Via 18582846256449024 s (State.place s ch f) := by
  unfold State.place
  repeat' first
    | with_reducible exact Via.refl _
    | with_reducible assumption
    | decide +kernel
    | (intro x; refine Via.cutLet (m := 18582846256449024) (s := s) (t := x) ?_ ?_)
    | (refine fun hx => ?_; clear_value x)
    | intro x
    | lift_lets
    | with_reducible apply Via.incr
    | with_reducible apply Via.ite
    | with_reducible apply Via.then (State.localPlace_via ..)
    | with_reducible apply Via.then (State.chordPlace_via ..)
    | with_reducible apply Via.then (State.chRefresh_via ..)
    | with_reducible apply Via.then (State.ep2Place_via ..)
    | with_reducible apply Via.then (State.chFill_via ..)
    | with_reducible apply Via.then (State.updCh_via ..)
    | (dsimp +zetaDelta only []; split <;> decide +kernel)
    | (split <;> decide +kernel)
    | split
    | (dsimp only [x]; split)
    | (dsimp +zetaDelta only; split)
    | (dsimp only)

theorem State.answerFrame_via (s : State) (ch : Nat) (f : Frame) (status : Nat) : Via 18582846256449024 s (State.answerFrame s ch f status) := by
  unfold State.answerFrame
  repeat' first
    | with_reducible exact Via.refl _
    | with_reducible assumption
    | decide +kernel
    | (intro x; refine Via.cutLet (m := 18582846256449024) (s := s) (t := x) ?_ ?_)
    | (refine fun hx => ?_; clear_value x)
    | intro x
    | with_reducible apply Via.then (State.place_via ..)
    | split
    | (dsimp only [x]; split)
    | (dsimp +zetaDelta only; split)
    | (dsimp only)

theorem State.finish_via (s : State) (ch : Nat) (f : Frame) (r : Reply) : Via 318409703103746016 s (State.finish s ch f r) := by
  unfold State.finish
  repeat' first
    | with_reducible exact Via.refl _
    | with_reducible assumption
    | decide +kernel
    | (intro x; refine Via.cutLet (m := 318409703103746016) (s := s) (t := x) ?_ ?_)
    | (refine fun hx => ?_; clear_value x)
    | intro x
    | lift_lets
    | with_reducible apply Via.ite
    | with_reducible apply Via.then (State.lateActions_via ..)
    | with_reducible apply Via.then (State.place_via ..)
    | with_reducible apply Via.then (State.updCh_via ..)
    | split
    | (dsimp only [x]; split)
    | (dsimp +zetaDelta only; split)
    | (dsimp only)

theorem State.command_via {m : Nat} {s t : State} (ch code : Nat) (form : Frame → Bool)
    (run : State → Frame → State × Option Reply) (hm : Nat.land 318409703103746016 m = 318409703103746016) (hr : ∀ s f, Via m s (run s f).1)
    (d : Via m s t) : Via m s (t.command ch code form run) := by
  unfold State.command
  split
  · split
    · dsimp only
      split
      · exact Via.then (State.finish_via ..) (testMono (by decide +kernel) hm) (d.trans (hr _ _))
      · exact d.trans (hr _ _)
    · exact d
  · exact d

theorem State.eachPort_via {m : Nat} {s t : State} (f : State → Nat → Nat × State) (l : List Nat)
    (hf : ∀ s p, Via m s (f s p).2) (d : Via m s t) : Via m s (t.eachPort f l).1 := by
  induction l generalizing t with
  | nil => exact d
  | cons p l ih => exact ih (d.trans (hf _ _))

theorem whenReady_via {m : Nat} (act : State → Nat → Nat × State) (ha : ∀ s p, Via m s (act s p).2) (s : State) (p : Nat) :
    Via m s (whenReady act s p).2 := by
  unfold whenReady
  split
  · exact ha s p
  · exact .refl _

theorem State.maskJudge_via {m : Nat} {s t : State} (ch : Nat) (f : Frame) (act : State → Nat → Nat × State)
    (ha : ∀ s p, Via m s (act s p).2) (d : Via m s t) : Via m s (t.maskJudge ch f act).1 := by
  unfold State.maskJudge
  dsimp only
  split
  · exact d
  · exact State.eachPort_via _ _ ha d

theorem State.maskCommand_via {m : Nat} {s t : State} (ch : Nat) (f : Frame) (act : State → Nat → Nat × State)
    (ha : ∀ s p, Via m s (act s p).2) (d : Via m s t) : Via m s (t.maskCommand ch f act).1 :=
  State.maskJudge_via _ _ _ (whenReady_via _ ha) d

theorem State.sendCmd_via (s : State) (l id mode dest hops : Nat) (f : Frame) : Via 562949953454080 s (State.sendCmd s l id mode dest hops f) := by
  unfold State.sendCmd
  repeat' first
    | with_reducible exact Via.refl _
    | with_reducible assumption
    | decide +kernel
    | (intro x; refine Via.cutLet (m := 562949953454080) (s := s) (t := x) ?_ ?_)
    | (refine fun hx => ?_; clear_value x)
    | intro x
    | with_reducible apply Via.incr
    | with_reducible apply Via.then (State.chordSend_via ..)
    | split
    | (dsimp only [x]; split)
    | (dsimp +zetaDelta only; split)
    | (dsimp only)

theorem State.takeSubtree_via (s : State) (l id mode dest hops : Nat) (f : Frame) : Via 18581746610635776 s (State.takeSubtree s l id mode dest hops f) := by
  unfold State.takeSubtree
  repeat' first
    | with_reducible exact Via.refl _
    | with_reducible assumption
    | decide +kernel
    | (intro g; refine Via.cutFun (m := 18581746610635776) (g := g) (fun s => ?_) ?_; on_goal 1 => dsimp only [g])
    | (intro g; refine Via.cutFunTwo (m := 18581746610635776) (g := g) (fun s _ => ?_) ?_; on_goal 1 => dsimp only [g])
    | (refine fun hg => ?_; clear_value g)
    | (refine Via.trans ?_ (hg ..))
    | (intro x; refine Via.cutLet (m := 18581746610635776) (s := s) (t := x) ?_ ?_)
    | (refine fun hx => ?_; clear_value x)
    | intro x
    | lift_lets
    | with_reducible apply Via.ite
    | with_reducible apply Via.then (State.chRefresh_via ..)
    | with_reducible apply Via.then (State.updChord_via ..)
    | with_reducible apply Via.then (State.updMerge_via ..)
    | with_reducible apply Via.then (State.sendCmd_via ..)
    | with_reducible apply Via.then (State.ownDone_via ..)
    | with_reducible apply Via.then (State.updCh_via ..)
    | with_reducible apply Via.then (State.irq_via ..)
    | (with_reducible refine Via.each _ _ (fun s _ => ?_) ?_)
    | split
    | (dsimp only [x]; split)
    | (dsimp +zetaDelta only; split)
    | (dsimp only)

theorem State.forward_via (s : State) (ch : Nat) (f : Frame) : Via 18582846256481792 s (State.forward s ch f) := by
  unfold State.forward
  repeat' first
    | with_reducible exact Via.refl _
    | with_reducible assumption
    | decide +kernel
    | (intro x; refine Via.cutLet (m := 18582846256481792) (s := s) (t := x) ?_ ?_)
    | (refine fun hx => ?_; clear_value x)
    | intro x
    | lift_lets
    | with_reducible apply Via.ite
    | with_reducible apply Via.then (State.takeSubtree_via ..)
    | with_reducible apply Via.then (State.answerFrame_via ..)
    | with_reducible apply Via.then (State.chRefresh_via ..)
    | with_reducible apply Via.then (State.chordSend_via ..)
    | with_reducible apply Via.then (State.updChord_via ..)
    | with_reducible apply Via.then (State.sendCmd_via ..)
    | (dsimp +zetaDelta only []; split <;> decide +kernel)
    | (split <;> decide +kernel)
    | split
    | (dsimp only [x]; split)
    | (dsimp +zetaDelta only; split)
    | (dsimp only)

theorem State.takeFrame_via (s : State) (ch : Nat) : Via 18015498021109760 s (State.takeFrame s ch) := by
  unfold State.takeFrame
  repeat' first
    | with_reducible exact Via.refl _
    | with_reducible assumption
    | decide +kernel
    | (intro x; refine Via.cutLet (m := 18015498021109760) (s := s) (t := x) ?_ ?_)
    | (refine fun hx => ?_; clear_value x)
    | intro x
    | with_reducible apply Via.ite
    | with_reducible apply Via.then (State.updMf_via ..)
    | with_reducible apply Via.then (State.updCh_via ..)
    | split
    | (dsimp only [x]; split)
    | (dsimp +zetaDelta only; split)
    | (dsimp only)

theorem State.startFrame_via (s : State) (ch : Nat) : Via 18582846256481792 s (State.startFrame s ch) := by
  unfold State.startFrame
  repeat' first
    | with_reducible exact Via.refl _
    | with_reducible assumption
    | decide +kernel
    | (intro x; refine Via.cutLet (m := 18582846256481792) (s := s) (t := x) ?_ ?_)
    | (refine fun hx => ?_; clear_value x)
    | intro x
    | lift_lets
    | with_reducible apply Via.incr
    | with_reducible apply Via.ite
    | with_reducible apply Via.then (State.answerFrame_via ..)
    | with_reducible apply Via.then (State.chRefresh_via ..)
    | with_reducible apply Via.then (State.takeFrame_via ..)
    | with_reducible apply Via.then (State.forward_via ..)
    | with_reducible apply Via.then (State.updCh_via ..)
    | (dsimp +zetaDelta only []; split <;> decide +kernel)
    | (split <;> decide +kernel)
    | split
    | (dsimp only [x]; split)
    | (dsimp +zetaDelta only; split)
    | (dsimp only)

end Sys2Proof.Machine
end

