-- ==== Sys2Proof/Laws/ViaBootOps.lean ====
section
/-! SUPPORT. What each operation of Machine/BootOps.lean can do to the state (see Laws/Via.lean). -/

namespace Sys2Proof.Machine

set_option linter.unusedTactic false
set_option linter.unreachableTactic false
set_option linter.unusedSimpArgs false
set_option linter.unusedVariables false

set_option Elab.async false

theorem State.cutCommit_via (s : State) : Via 576460752437641216 s (State.cutCommit s) := by
  unfold State.cutCommit
  refine Via.bite _ ?_ (.refl _)
  dsimp only
  with_reducible refine Via.write _ _ (by decide +kernel) (by decide) ?_
  exact Via.then (State.freeBytes_via ..) (by decide +kernel) (.refl _)

theorem State.cutOps_via (s : State) : Via 576460752437641216 s (State.cutOps s) := by
  unfold State.cutOps
  dsimp only
  refine Via.then (State.cutCommit_via ..) (by decide +kernel) ?_
  have base : Via 576460752437641216 s (if s.on F.QSPI_STAT_OPBUSY 0 = true then s.writeFree (flashAddr s.hw.qspi.addr) s.hw.qspi.len else s) :=
    Via.bite _ (Via.then (State.writeFree_via _ _ _ (by unfold flashAddr; omega)) (by decide +kernel) (.refl _)) (.refl _)
  generalize (if s.on F.QSPI_STAT_OPBUSY 0 = true then s.writeFree (flashAddr s.hw.qspi.addr) s.hw.qspi.len else s) = u at base ⊢
  split
  · next h =>
    have hr : 16 ≤ s.hw.nvm.row := by simp only [Bool.and_eq_true, decide_eq_true_eq] at h; exact h.2
    split
    · exact Via.then (State.writeFree_via _ _ _ (by omega)) (by decide +kernel) base
    · exact Via.then (State.writeFree_via _ _ _ (by omega)) (by decide +kernel) base
  · exact base

theorem SameRecords.full {m : Nat} (h : Nat.land 1729382254762786815 m = 1729382254762786815) (s t : State) (h1 : t.nvmCfg = s.nvmCfg) (h2 : t.free = s.free) :
    SameRecords m s t := by
  have key : ∀ k, Nat.testBit 1729382254762786815 k = true → m.testBit k = true := fun k hk => testBit_mono h hk
  constructor
  all_goals first
    | exact fun _ => h1
    | exact fun _ => h2
    | (intro hk; rw [key _ (by decide +kernel)] at hk; cases hk)

theorem keptByte_factory (cause a : Nat) (h : 0x08000000 ≤ a) (h2 : a < 0x08001000) : keptByte cause a = true := by
  have : 0x08000000 ≤ a ∧ a < 0x08080000 := ⟨h, by omega⟩
  simp [keptByte, this]

theorem State.cleared_via (s : State) (cause : Nat) : Via 2305843009213693951 s (State.cleared s cause) :=
  Via.records (t := { s.cutOps with
      regs := s.cutOps.regs.filter (fun e => keptField cause e.1.1)
      mem := s.cutOps.mem.filter (fun e => keptByte cause e.1) }) _ rfl rfl rfl
    (SameRecords.full (by decide +kernel) _ _ rfl rfl)
    (Via.keepMem (keptByte cause) (by decide +kernel) (fun a h1 h2 => keptByte_factory cause a h1 h2)
      (Via.keepRegs (fun e => keptField cause e.1.1) (by decide +kernel)
        (Via.then (State.cutOps_via ..) (by decide +kernel) (.refl s))))

theorem State.aonLost_via (s : State) : Via 2305843009213693951 s (State.aonLost s) := by
  have d : Via 2305843009213693951 s (({ s.cutOps with
      regs := s.cutOps.regs.filter (fun _ => false)
      mem := s.cutOps.mem.filter (fun e => keptByte 1 e.1) } : State).setFld F.PMU_RAILSTAT_RAIL_EN 0 0) :=
    .setFld _ _ _ (by decide +kernel)
      (Via.keepMem (keptByte 1) (by decide +kernel) (fun a h1 h2 => keptByte_factory 1 a h1 h2)
        (Via.keepRegs (fun _ => false) (by decide +kernel)
          (Via.then (State.cutOps_via ..) (by decide +kernel) (.refl s))))
  refine Via.records s.aonLost ?_ ?_ ?_ ?_ d
  · rfl
  · unfold State.setFld State.aonLost
    dsimp only
    rw [List.filter_false]
    rfl
  · rfl
  · exact SameRecords.full (by decide +kernel) _ _ rfl rfl

theorem State.recordCause_via (s : State) (cause channel : Nat) : Via 1073741825 s (State.recordCause s cause channel) := by
  unfold State.recordCause
  repeat' first
    | with_reducible exact Via.refl _
    | with_reducible assumption
    | decide +kernel
    | (intro x; refine Via.cutLet (m := 1073741825) (s := s) (t := x) ?_ ?_)
    | (refine fun hx => ?_; clear_value x)
    | intro x
    | lift_lets
    | with_reducible apply Via.setFld
    | with_reducible apply Via.ite
    | (dsimp +zetaDelta only []; split <;> decide +kernel)
    | (split <;> decide +kernel)
    | split
    | (dsimp only [x]; split)
    | (dsimp +zetaDelta only; split)
    | with_reducible apply Via.set_power
    | (dsimp only)

theorem State.resetTo_via (s : State) (cause channel : Nat) : Via 2305843009213693951 s (State.resetTo s cause channel) := by
  unfold State.resetTo
  repeat' first
    | with_reducible exact Via.refl _
    | with_reducible assumption
    | decide +kernel
    | (intro x; refine Via.cutLet (m := 2305843009213693951) (s := s) (t := x) ?_ ?_)
    | (refine fun hx => ?_; clear_value x)
    | intro x
    | lift_lets
    | with_reducible apply Via.setFld
    | with_reducible apply Via.then (State.recordCause_via ..)
    | with_reducible apply Via.then (State.cleared_via ..)
    | split
    | (dsimp only [x]; split)
    | (dsimp +zetaDelta only; split)
    | (dsimp only)

theorem State.readHostRp_via (s : State) : Via 1073742848 s (State.readHostRp s) := by
  unfold State.readHostRp
  repeat' first
    | with_reducible exact Via.refl _
    | with_reducible assumption
    | decide +kernel
    | (intro x; refine Via.cutLet (m := 1073742848) (s := s) (t := x) ?_ ?_)
    | (refine fun hx => ?_; clear_value x)
    | intro x
    | lift_lets
    | with_reducible apply Via.setFld
    | with_reducible apply Via.ite
    | split
    | (dsimp only [x]; split)
    | (dsimp +zetaDelta only; split)
    | with_reducible apply Via.set_power
    | (dsimp only)

theorem State.romStart_via (s : State) : Via 576460753447453721 s (State.romStart s) := by
  unfold State.romStart
  repeat' first
    | with_reducible exact Via.refl _
    | with_reducible assumption
    | decide +kernel
    | (intro x; refine Via.cutLet (m := 576460753447453721) (s := s) (t := x) ?_ ?_)
    | (refine fun hx => ?_; clear_value x)
    | intro x
    | lift_lets
    | with_reducible apply Via.setFld
    | with_reducible apply Via.put
    | with_reducible apply Via.ite
    | with_reducible apply Via.then (State.readHostRp_via ..)
    | with_reducible apply Via.then (State.apexRange_via ..)
    | with_reducible apply Via.then (State.drawNat_via ..)
    | with_reducible refine Via.then (State.drawNat_via' (by assumption)) (by decide +kernel) ?_
    | with_reducible apply Via.then (State.setD2d_via ..)
    | (with_reducible refine Via.each _ _ (fun s _ => ?_) ?_)
    | (dsimp +zetaDelta only []; split <;> decide +kernel)
    | (split <;> decide +kernel)
    | split
    | (dsimp only [x]; split)
    | (dsimp +zetaDelta only; split)
    | with_reducible apply Via.set_power
    | (dsimp only)
    | (dsimp +zetaDelta only)

theorem State.latchStraps_via (s : State) (samples : List Nat) (testEn : Bool) : Via 1074790400 s (State.latchStraps s samples testEn) := by
  unfold State.latchStraps
  repeat' first
    | with_reducible exact Via.refl _
    | with_reducible assumption
    | decide +kernel
    | (intro x; refine Via.cutLet (m := 1074790400) (s := s) (t := x) ?_ ?_)
    | (refine fun hx => ?_; clear_value x)
    | intro x
    | lift_lets
    | with_reducible apply Via.setFld
    | with_reducible apply Via.ite
    | split
    | (dsimp only [x]; split)
    | (dsimp +zetaDelta only; split)
    | with_reducible apply Via.set_power
    | (dsimp only)

theorem State.tryBoot_via (s : State) : Via 576460753447453721 s (State.tryBoot s) := by
  unfold State.tryBoot
  repeat' first
    | with_reducible exact Via.refl _
    | with_reducible assumption
    | decide +kernel
    | (intro x; refine Via.cutLet (m := 576460753447453721) (s := s) (t := x) ?_ ?_)
    | (refine fun hx => ?_; clear_value x)
    | intro x
    | with_reducible apply Via.ite
    | with_reducible apply Via.then (State.romStart_via ..)
    | split
    | (dsimp only [x]; split)
    | (dsimp +zetaDelta only; split)
    | (dsimp only)

theorem State.partReset_via (s : State) (cause channel : Nat) : Via 2305843009213693951 s (State.partReset s cause channel) := by
  unfold State.partReset
  repeat' first
    | with_reducible exact Via.refl _
    | with_reducible assumption
    | decide +kernel
    | (intro x; refine Via.cutLet (m := 2305843009213693951) (s := s) (t := x) ?_ ?_)
    | (refine fun hx => ?_; clear_value x)
    | intro x
    | with_reducible apply Via.then (State.tryBoot_via ..)
    | with_reducible apply Via.then (State.resetTo_via ..)
    | split
    | (dsimp only [x]; split)
    | (dsimp +zetaDelta only; split)
    | (dsimp only)

theorem State.railsValid_via (s : State) : Via 1 s (State.railsValid s) := by
  unfold State.railsValid
  repeat' first
    | with_reducible exact Via.refl _
    | with_reducible assumption
    | decide +kernel
    | (intro x; refine Via.cutLet (m := 1) (s := s) (t := x) ?_ ?_)
    | (refine fun hx => ?_; clear_value x)
    | intro x
    | lift_lets
    | with_reducible apply Via.setFld
    | with_reducible apply Via.put
    | split
    | (dsimp only [x]; split)
    | (dsimp +zetaDelta only; split)
    | (dsimp only)

theorem State.calTake_via (s : State) (b : List Nat) : Via 16777216 s (State.calTake s b) := by
  unfold State.calTake
  repeat' first
    | with_reducible exact Via.refl _
    | with_reducible assumption
    | decide +kernel
    | (intro x; refine Via.cutLet (m := 16777216) (s := s) (t := x) ?_ ?_)
    | (refine fun hx => ?_; clear_value x)
    | intro x
    | lift_lets
    | with_reducible apply Via.setFld
    | with_reducible apply Via.put
    | (with_reducible refine Via.each _ _ (fun s _ => ?_) ?_)
    | split
    | (dsimp only [x]; split)
    | (dsimp +zetaDelta only; split)
    | (dsimp only)

theorem State.calEntry_via (s : State) : Via 8192 s (State.calEntry s) := by
  unfold State.calEntry
  repeat' first
    | with_reducible exact Via.refl _
    | with_reducible assumption
    | decide +kernel
    | (intro x; refine Via.cutLet (m := 8192) (s := s) (t := x) ?_ ?_)
    | (refine fun hx => ?_; clear_value x)
    | intro x
    | lift_lets
    | with_reducible apply Via.setFld
    | with_reducible apply Via.ite
    | split
    | (dsimp only [x]; split)
    | (dsimp +zetaDelta only; split)
    | (dsimp only)

theorem State.calBoot_via (s : State) : Via 144115188092641282 s (State.calBoot s) := by
  unfold State.calBoot
  repeat' first
    | with_reducible exact Via.refl _
    | with_reducible assumption
    | decide +kernel
    | (intro x; refine Via.cutLet (m := 144115188092641282) (s := s) (t := x) ?_ ?_)
    | (refine fun hx => ?_; clear_value x)
    | intro x
    | lift_lets
    | with_reducible apply Via.setFld
    | with_reducible apply Via.put
    | with_reducible apply Via.ite
    | with_reducible apply Via.then (State.calEntry_via ..)
    | with_reducible apply Via.then (State.calTake_via ..)
    | with_reducible apply Via.then (State.raise_via ..)
    | split
    | (dsimp only [x]; split)
    | (dsimp +zetaDelta only; split)
    | (dsimp only)

theorem State.seed_via (s : State) : Via 297520151547904512 s (State.seed s) := by
  unfold State.seed
  repeat' first
    | with_reducible exact Via.refl _
    | with_reducible assumption
    | decide +kernel
    | (intro x; refine Via.cutLet (m := 297520151547904512) (s := s) (t := x) ?_ ?_)
    | (refine fun hx => ?_; clear_value x)
    | intro x
    | lift_lets
    | with_reducible apply Via.ite
    | with_reducible apply Via.then (State.setSync_via ..)
    | split
    | (dsimp only [x]; split)
    | (dsimp +zetaDelta only; split)
    | with_reducible apply Via.set_ct_power
    | with_reducible apply Via.set_ct
    | with_reducible apply Via.set_power
    | (dsimp only)

theorem State.romUsbStart_via (s : State) : Via 316157941676396513 s (State.romUsbStart s) := by
  unfold State.romUsbStart
  repeat' first
    | with_reducible exact Via.refl _
    | with_reducible assumption
    | decide +kernel
    | (intro x; refine Via.cutLet (m := 316157941676396513) (s := s) (t := x) ?_ ?_)
    | (refine fun hx => ?_; clear_value x)
    | intro x
    | lift_lets
    | with_reducible apply Via.ite
    | with_reducible apply Via.then (State.setDomRequest_via ..)
    | with_reducible apply Via.then (State.domsFollow_via ..)
    | with_reducible apply Via.then (State.place_via ..)
    | (with_reducible refine Via.foldlFst _ _ _ (fun p _ => ?_) ?_ <;> dsimp only)
    | (with_reducible refine Via.foldlThen _ _ (fun s _ => ?_) ?_)
    | split
    | (dsimp only [x]; split)
    | (dsimp +zetaDelta only; split)
    | with_reducible apply Via.set_fwCopy
    | (dsimp only)

theorem State.pllLock_via (s : State) : Via 460273131380731875 s (State.pllLock s) := by
  unfold State.pllLock
  repeat' first
    | with_reducible exact Via.refl _
    | with_reducible assumption
    | decide +kernel
    | (intro x; refine Via.cutLet (m := 460273131380731875) (s := s) (t := x) ?_ ?_)
    | (refine fun hx => ?_; clear_value x)
    | intro x
    | lift_lets
    | with_reducible apply Via.setFld
    | with_reducible apply Via.put
    | with_reducible apply Via.ite
    | with_reducible apply Via.then (State.romUsbStart_via ..)
    | with_reducible apply Via.then (State.calBoot_via ..)
    | with_reducible apply Via.then (State.seed_via ..)
    | split
    | (dsimp only [x]; split)
    | (dsimp +zetaDelta only; split)
    | with_reducible apply Via.set_power
    | (dsimp only)

theorem State.faultConfig_via (s : State) : Via 144115188075855872 s (State.faultConfig s) := by
  unfold State.faultConfig
  repeat' first
    | with_reducible exact Via.refl _
    | with_reducible assumption
    | decide +kernel
    | (intro x; refine Via.cutLet (m := 144115188075855872) (s := s) (t := x) ?_ ?_)
    | (refine fun hx => ?_; clear_value x)
    | intro x
    | lift_lets
    | with_reducible apply Via.ite
    | with_reducible apply Via.then (State.updFc_via ..)
    | (with_reducible refine Via.each _ _ (fun s _ => ?_) ?_)
    | split
    | (dsimp only [x]; split)
    | (dsimp +zetaDelta only; split)
    | (dsimp only)

theorem State.setWindow_via (s : State) (m w : Nat) (x : Option Win) : Via 4 s (State.setWindow s m w x) := by
  unfold State.setWindow
  repeat' first
    | with_reducible exact Via.refl _
    | with_reducible assumption
    | decide +kernel
    | (intro x; refine Via.cutLet (m := 4) (s := s) (t := x) ?_ ?_)
    | (refine fun hx => ?_; clear_value x)
    | intro x
    | lift_lets
    | with_reducible apply Via.setFld
    | with_reducible apply Via.put
    | (dsimp +zetaDelta only []; split <;> decide +kernel)
    | (split <;> decide +kernel)
    | split
    | (dsimp only [x]; split)
    | (dsimp +zetaDelta only; split)
    | (dsimp only)

theorem State.setWindows_via (s : State) : Via 4 s (State.setWindows s) := by
  unfold State.setWindows
  repeat' first
    | with_reducible exact Via.refl _
    | with_reducible assumption
    | decide +kernel
    | (intro x; refine Via.cutLet (m := 4) (s := s) (t := x) ?_ ?_)
    | (refine fun hx => ?_; clear_value x)
    | intro x
    | with_reducible apply Via.then (State.setWindow_via ..)
    | (with_reducible refine Via.each _ _ (fun s _ => ?_) ?_)
    | split
    | (dsimp only [x]; split)
    | (dsimp +zetaDelta only; split)
    | (dsimp only)

theorem State.logStart_via (s : State) : Via 288230376294318080 s (State.logStart s) := by
  unfold State.logStart
  repeat' first
    | with_reducible exact Via.refl _
    | with_reducible assumption
    | decide +kernel
    | (intro x; refine Via.cutLet (m := 288230376294318080) (s := s) (t := x) ?_ ?_)
    | (refine fun hx => ?_; clear_value x)
    | intro x
    | lift_lets
    | with_reducible apply Via.setFld
    | with_reducible apply Via.put
    | with_reducible apply Via.ite
    | with_reducible apply Via.then (State.logSubmit_via ..)
    | (dsimp +zetaDelta only []; split <;> decide +kernel)
    | (split <;> decide +kernel)
    | split
    | (dsimp only [x]; split)
    | (dsimp +zetaDelta only; split)
    | with_reducible apply Via.keepMem (fun a => decide (a < 0x20047000) || decide (0x20087000 ≤ a))
    | (simp [tcmAddr, bilberryAddr]; omega)
    | (dsimp only)

theorem State.requestDomains_via (s : State) : Via 297580588717199329 s (State.requestDomains s) := by
  unfold State.requestDomains
  repeat' first
    | with_reducible exact Via.refl _
    | with_reducible assumption
    | decide +kernel
    | (intro x; refine Via.cutLet (m := 297580588717199329) (s := s) (t := x) ?_ ?_)
    | (refine fun hx => ?_; clear_value x)
    | intro x
    | lift_lets
    | with_reducible apply Via.ite
    | with_reducible apply Via.then (State.setDomRequest_via ..)
    | with_reducible apply Via.then (State.domsFollow_via ..)
    | split
    | (dsimp only [x]; split)
    | (dsimp +zetaDelta only; split)
    | (dsimp only)

theorem State.requestPorts_via (s : State) : Via 297580589882540031 s (State.requestPorts s) := by
  unfold State.requestPorts
  repeat' first
    | with_reducible exact Via.refl _
    | with_reducible assumption
    | decide +kernel
    | (intro x; refine Via.cutLet (m := 297580589882540031) (s := s) (t := x) ?_ ?_)
    | (refine fun hx => ?_; clear_value x)
    | intro x
    | lift_lets
    | with_reducible apply Via.setFld
    | with_reducible apply Via.put
    | with_reducible apply Via.ite
    | with_reducible apply Via.then (State.setDomRequest_via ..)
    | with_reducible apply Via.then (State.domsFollow_via ..)
    | with_reducible apply Via.then (State.bringUp_via ..)
    | with_reducible apply Via.then (State.irq_via ..)
    | (with_reducible refine Via.each _ _ (fun s _ => ?_) ?_)
    | split
    | (dsimp only [x]; split)
    | (dsimp +zetaDelta only; split)
    | with_reducible apply Via.set_power
    | (dsimp only)

theorem State.systemLoad_via (s : State) (r : Nat) : Via 134217728 s (State.systemLoad s r) := by
  unfold State.systemLoad
  refine Via.foldlThen _ _ (fun s e => .write _ _ (by decide +kernel) (by unfold tcmAddr; omega) (.refl _)) ?_
  exact Via.keepMem (fun a => decide (a < tcmAddr 0 0) || decide (tcmAddr 0 0x80000 ≤ a)) (by decide +kernel)
    (by simp [tcmAddr]; omega) (.refl _)

theorem State.firmwareStart_via (s : State) (status : Nat) : Via 1054194127802990591 s (State.firmwareStart s status) := by
  unfold State.firmwareStart
  repeat' first
    | with_reducible exact Via.refl _
    | with_reducible assumption
    | decide +kernel
    | (intro x; refine Via.cutLet (m := 1054194127802990591) (s := s) (t := x) ?_ ?_)
    | (refine fun hx => ?_; clear_value x)
    | intro x
    | lift_lets
    | with_reducible apply Via.setFld
    | with_reducible apply Via.ite
    | with_reducible apply Via.then (State.requestDomains_via ..)
    | with_reducible apply Via.then (State.restoreConfig_via ..)
    | with_reducible apply Via.then (State.faultConfig_via ..)
    | with_reducible apply Via.then (State.setWindows_via ..)
    | with_reducible apply Via.then (State.ttRefresh_via ..)
    | with_reducible apply Via.then (State.logStart_via ..)
    | with_reducible apply Via.then (State.drawNat_via ..)
    | with_reducible refine Via.then (State.drawNat_via' (by assumption)) (by decide +kernel) ?_
    | (with_reducible refine Via.each _ _ (fun s _ => ?_) ?_)
    | (with_reducible refine Via.foldlFst _ _ _ (fun p _ => ?_) ?_ <;> dsimp only)
    | (with_reducible refine Via.foldlThen _ _ (fun s _ => ?_) ?_)
    | split
    | (dsimp only [x]; split)
    | (dsimp +zetaDelta only; split)
    | with_reducible apply Via.set_fwCopy_profiles_cores
    | with_reducible apply Via.set_power
    | with_reducible apply Via.set_fwCopy
    | with_reducible apply Via.set_profiles
    | with_reducible apply Via.set_cores
    | (dsimp only)
    | (dsimp +zetaDelta only)

theorem State.firmwareVerified_via (s : State) (ok recoveryOk : Bool) : Via 1054194127802990591 s (State.firmwareVerified s ok recoveryOk) := by
  unfold State.firmwareVerified
  repeat' first
    | with_reducible exact Via.refl _
    | with_reducible assumption
    | decide +kernel
    | (intro x; refine Via.cutLet (m := 1054194127802990591) (s := s) (t := x) ?_ ?_)
    | (refine fun hx => ?_; clear_value x)
    | intro x
    | with_reducible apply Via.setFld
    | with_reducible apply Via.ite
    | with_reducible apply Via.then (State.firmwareStart_via ..)
    | with_reducible apply Via.then (State.systemLoad_via ..)
    | (dsimp +zetaDelta only []; split <;> decide +kernel)
    | (split <;> decide +kernel)
    | split
    | (dsimp only [x]; split)
    | (dsimp +zetaDelta only; split)
    | with_reducible apply Via.set_power
    | (dsimp only)

end Sys2Proof.Machine
end

