-- ==== Sys2Proof/Laws/ViaSvcOps.lean ====
section
/-! SUPPORT. What each operation of Machine/SvcOps.lean can do to the state (see Laws/Via.lean). -/

namespace Sys2Proof.Machine

set_option linter.unusedTactic false
set_option linter.unreachableTactic false
set_option linter.unusedSimpArgs false
set_option linter.unusedVariables false

set_option Elab.async false

theorem State.updHw_via (s : State) (f : SysHw → SysHw) : Via 72057594037927936 s (State.updHw s f) := by
  unfold State.updHw
  repeat' first
    | with_reducible exact Via.refl _
    | with_reducible assumption
    | decide +kernel
    | (intro x; refine Via.cutLet (m := 72057594037927936) (s := s) (t := x) ?_ ?_)
    | (refine fun hx => ?_; clear_value x)
    | intro x
    | split
    | (dsimp only [x]; split)
    | (dsimp +zetaDelta only; split)
    | with_reducible apply Via.set_hw
    | (dsimp only)

theorem State.dmaGo_via (s : State) (d : Nat) : Via 72057594038976512 s (State.dmaGo s d) := by
  unfold State.dmaGo
  repeat' first
    | with_reducible exact Via.refl _
    | with_reducible assumption
    | decide +kernel
    | (intro x; refine Via.cutLet (m := 72057594038976512) (s := s) (t := x) ?_ ?_)
    | (refine fun hx => ?_; clear_value x)
    | intro x
    | lift_lets
    | with_reducible apply Via.setFld
    | with_reducible apply Via.put
    | with_reducible apply Via.incr
    | with_reducible apply Via.ite
    | with_reducible apply Via.then (State.updHw_via ..)
    | split
    | (dsimp only [x]; split)
    | (dsimp +zetaDelta only; split)
    | (dsimp only)

theorem State.hashEnd_via (s : State) (ok : Bool) : Via 2621440 s (State.hashEnd s ok) := by
  unfold State.hashEnd
  repeat' first
    | with_reducible exact Via.refl _
    | with_reducible assumption
    | decide +kernel
    | (intro x; refine Via.cutLet (m := 2621440) (s := s) (t := x) ?_ ?_)
    | (refine fun hx => ?_; clear_value x)
    | intro x
    | lift_lets
    | with_reducible apply Via.setFld
    | with_reducible apply Via.put
    | with_reducible apply Via.ite
    | with_reducible apply Via.then (State.showHash_via ..)
    | with_reducible apply Via.then (State.irq_via ..)
    | split
    | (dsimp only [x]; split)
    | (dsimp +zetaDelta only; split)
    | (dsimp only)

theorem State.hashRead_via (s : State) (o n : Nat) : Via 72057594040549376 s (State.hashRead s o n) := by
  unfold State.hashRead
  repeat' first
    | with_reducible exact Via.refl _
    | with_reducible assumption
    | decide +kernel
    | (intro x; refine Via.cutLet (m := 72057594040549376) (s := s) (t := x) ?_ ?_)
    | (refine fun hx => ?_; clear_value x)
    | intro x
    | lift_lets
    | with_reducible apply Via.ite
    | with_reducible apply Via.then (State.hashEnd_via ..)
    | with_reducible apply Via.then (State.updHw_via ..)
    | split
    | (dsimp only [x]; split)
    | (dsimp +zetaDelta only; split)
    | (dsimp only)

theorem State.hashStart_via (s : State) : Via 72057594040549376 s (State.hashStart s) := by
  unfold State.hashStart
  repeat' first
    | with_reducible exact Via.refl _
    | with_reducible assumption
    | decide +kernel
    | (intro x; refine Via.cutLet (m := 72057594040549376) (s := s) (t := x) ?_ ?_)
    | (refine fun hx => ?_; clear_value x)
    | intro x
    | lift_lets
    | with_reducible apply Via.setFld
    | with_reducible apply Via.put
    | with_reducible apply Via.ite
    | with_reducible apply Via.then (State.hashEnd_via ..)
    | with_reducible apply Via.then (State.updHw_via ..)
    | split
    | (dsimp only [x]; split)
    | (dsimp +zetaDelta only; split)
    | (dsimp only)

theorem State.qspiGo_via (s : State) (op : Nat) : Via 648518346343972864 s (State.qspiGo s op) := by
  unfold State.qspiGo
  repeat' first
    | with_reducible exact Via.refl _
    | with_reducible assumption
    | decide +kernel
    | (intro x; refine Via.cutLet (m := 648518346343972864) (s := s) (t := x) ?_ ?_)
    | (refine fun hx => ?_; clear_value x)
    | intro x
    | lift_lets
    | with_reducible apply Via.setFld
    | with_reducible apply Via.put
    | with_reducible apply Via.incr
    | with_reducible apply Via.ite
    | with_reducible apply Via.then (State.drawNat_via ..)
    | with_reducible refine Via.then (State.drawNat_via' (by assumption)) (by decide +kernel) ?_
    | with_reducible apply Via.then (State.updHw_via ..)
    | with_reducible apply Via.then (State.irq_via ..)
    | split
    | (dsimp only [x]; split)
    | (dsimp +zetaDelta only; split)
    | (dsimp only)
    | (dsimp +zetaDelta only)

theorem State.eraseBytes_via (s : State) (a n : Nat) (ha : 0x08001000 ≤ a) : Via 134217728 s (State.eraseBytes s a n) :=
  Via.keepMem (fun b => decide (b < a) || decide (a + n ≤ b)) (by decide +kernel)
    (fun b _ h => by simp only [Bool.or_eq_true, decide_eq_true_eq]; omega) (.refl s)

theorem State.programBytes_via (s : State) (a : Nat) (data : List Nat) (ha : 0x08001000 ≤ a) :
    Via 134217728 s (State.programBytes s a data).2 := .write _ _ (by decide +kernel) ha (.refl _)

theorem State.programBytes_via' {s : State} {a : Nat} {data : List Nat} {b : Bool} {t : State}
    (h : State.programBytes s a data = (b, t)) (ha : 0x08001000 ≤ a) : Via 134217728 s t := by
  have d := State.programBytes_via s a data ha
  rw [h] at d
  exact d

theorem State.qspiEnd_via (s : State) (good : Bool) : Via 576460752440262656 s (State.qspiEnd s good) := by
  unfold State.qspiEnd
  repeat' first
    | with_reducible exact Via.refl _
    | with_reducible assumption
    | decide +kernel
    | (intro x; refine Via.cutLet (m := 576460752440262656) (s := s) (t := x) ?_ ?_)
    | (refine fun hx => ?_; clear_value x)
    | intro x
    | lift_lets
    | with_reducible apply Via.setFld
    | with_reducible apply Via.put
    | with_reducible apply Via.incr
    | with_reducible apply Via.ite
    | with_reducible refine Via.then (State.programBytes_via' (by assumption) ?_) (by decide +kernel) ?_
    | with_reducible refine Via.then (State.programBytes_via _ _ _ ?_) (by decide +kernel) ?_
    | with_reducible refine Via.then (State.eraseBytes_via _ _ _ ?_) (by decide +kernel) ?_
    | with_reducible apply Via.then (State.freeBytes_via ..)
    | with_reducible refine Via.then (State.freeBytes_via' (by assumption)) (by decide +kernel) ?_
    | with_reducible apply Via.then (State.irq_via ..)
    | with_reducible apply Via.write
    | omega
    | (simp +zetaDelta only [flashAddr]; omega)
    | (dsimp +zetaDelta only []; split <;> decide +kernel)
    | (split <;> decide +kernel)
    | split
    | (dsimp only [x]; split)
    | (dsimp +zetaDelta only; split)
    | (dsimp only)
    | (dsimp +zetaDelta only)

theorem State.nvmGo_via (s : State) (op : Nat) : Via 72057594055229440 s (State.nvmGo s op) := by
  unfold State.nvmGo
  repeat' first
    | with_reducible exact Via.refl _
    | with_reducible assumption
    | decide +kernel
    | (intro x; refine Via.cutLet (m := 72057594055229440) (s := s) (t := x) ?_ ?_)
    | (refine fun hx => ?_; clear_value x)
    | intro x
    | lift_lets
    | with_reducible apply Via.setFld
    | with_reducible apply Via.put
    | with_reducible apply Via.incr
    | with_reducible apply Via.ite
    | with_reducible apply Via.then (State.updHw_via ..)
    | with_reducible apply Via.then (State.irq_via ..)
    | split
    | (dsimp only [x]; split)
    | (dsimp +zetaDelta only; split)
    | (dsimp only)

theorem State.nvmEnd_via (s : State) (good : Bool) : Via 648518346492870656 s (State.nvmEnd s good) := by
  unfold State.nvmEnd
  have base : Via 648518346492870656 s (s.put F.CAL_NVMSTAT_BUSY 0 false) := .put _ _ _ (by decide +kernel) (.refl _)
  have cond : ∀ b : Bool, Nat.testBit 648518346492870656
      (Zone.reg (blockOf (if b = true then F.CAL_NVMCNT_OPS else F.CAL_NVMCNT_FAILS).id)).code = true :=
    fun b => by cases b <;> decide +kernel
  refine Via.bite _ ?_ (.refl _)
  dsimp only
  refine Via.then (State.irq_via ..) (by decide +kernel) ?_
  refine Via.incr _ _ (cond _) (Via.setFld _ _ _ (by decide +kernel) ?_)
  split
  · exact base
  · next hrow =>
    split
    · with_reducible refine Via.write _ _ (by decide +kernel) (by omega) ?_
      with_reducible exact Via.then (State.freeBytes_via ..) (by decide +kernel) base
    · split
      · exact Via.then (State.eraseBytes_via _ _ _ (by omega)) (by decide +kernel)
          (Via.then (State.updHw_via ..) (by decide +kernel) base)
      · split
        · exact base
        · exact Via.then (State.programBytes_via _ _ _ (by omega)) (by decide +kernel)
            (Via.then (State.updHw_via ..) (by decide +kernel) base)

theorem State.calCommitEnd_via (s : State) (good : Bool) : Via 792633534568728576 s (State.calCommitEnd s good) := by
  unfold State.calCommitEnd
  have high : 0x08001000 ≤ calAddr := by decide
  refine Via.bite _ ?_ (.refl _)
  have base : Via 792633534568728576 s (((s.put F.CAL_STAT_COMMIT 0 false).irq 28).eraseBytes calAddr 4096) :=
    Via.then (State.eraseBytes_via _ _ _ high) (by decide +kernel)
      (Via.then (State.irq_via ..) (by decide +kernel) (.put _ _ _ (by decide +kernel) (.refl _)))
  dsimp only
  refine Via.bite _ ?_ ?_
  · refine Via.each _ _ (fun s p => Via.bite _ (Via.then (State.calPort_via ..) (by decide +kernel) (.refl _)) (.refl _)) ?_
    with_reducible refine Via.then (State.updHw_via ..) (by decide +kernel) ?_
    with_reducible refine Via.add _ _ _ (by decide +kernel) (Via.then (State.calTake_via ..) (by decide +kernel) ?_)
    with_reducible exact Via.write _ _ (by decide +kernel) high base
  · refine Via.then (State.raise_via ..) (by decide +kernel) (.incr _ _ (by decide +kernel) (.put _ _ _ (by decide +kernel) ?_))
    with_reducible refine Via.write _ _ (by decide +kernel) high ?_
    with_reducible exact Via.then (State.freeBytes_via ..) (by decide +kernel) base

theorem snapFields_bit {m : Nat} (h : Nat.land 184322 m = 184322) (k : Nat) :
    m.testBit (Zone.reg (blockOf (snapFields k).1.id)).code = true
      ∧ m.testBit (Zone.reg (blockOf (snapFields k).2.1.id)).code = true
      ∧ m.testBit (Zone.reg (blockOf (snapFields k).2.2.1.id)).code = true
      ∧ m.testBit (Zone.reg (blockOf (snapFields k).2.2.2.1.id)).code = true := by
  have key : ∀ b, Nat.testBit 184322 (Zone.reg b).code = true → m.testBit (Zone.reg b).code = true := fun b hb => testBit_mono h hb
  unfold snapFields
  split <;> dsimp only <;> refine ⟨?_, ?_, ?_, ?_⟩ <;> exact key _ (by decide +kernel)

theorem State.snapTake_via (s : State) (k : Nat) : Via 8590118914 s (State.snapTake s k) := by
  have b := snapFields_bit (m := 8590118914) (by decide +kernel) k
  unfold State.snapTake
  exact .put _ _ _ b.1 (.setFld _ _ _ b.2.2.2 (.setFld _ _ _ b.2.2.1 (.set_snaps _ (by decide +kernel) (.refl _))))

theorem State.snapRead_via (s : State) (k : Nat) : Via 184322 s (State.snapRead s k) := by
  unfold State.snapRead
  exact Via.bite _ (.put _ _ _ (snapFields_bit (by decide +kernel) k).1 (.refl _)) (.refl _)

theorem State.windowRead_via (s : State) (a : Nat) : Via 576460752303816704 s (State.windowRead s a) := by
  unfold State.windowRead
  repeat' first
    | with_reducible exact Via.refl _
    | with_reducible assumption
    | decide +kernel
    | (intro x; refine Via.cutLet (m := 576460752303816704) (s := s) (t := x) ?_ ?_)
    | (refine fun hx => ?_; clear_value x)
    | intro x
    | lift_lets
    | with_reducible apply Via.ite
    | with_reducible apply Via.then (State.traceFixed_via ..)
    | with_reducible apply Via.then (State.drawNat_via ..)
    | with_reducible refine Via.then (State.drawNat_via' (by assumption)) (by decide +kernel) ?_
    | split
    | (dsimp only [x]; split)
    | (dsimp +zetaDelta only; split)
    | (dsimp only)
    | (dsimp +zetaDelta only)

theorem State.afterRead_via (s : State) (a : Nat) : Via 576460752303869954 s (State.afterRead s a) := by
  unfold State.afterRead
  repeat' first
    | with_reducible exact Via.refl _
    | with_reducible assumption
    | decide +kernel
    | (intro x; refine Via.cutLet (m := 576460752303869954) (s := s) (t := x) ?_ ?_)
    | (refine fun hx => ?_; clear_value x)
    | intro x
    | with_reducible apply Via.then (State.windowRead_via ..)
    | with_reducible apply Via.then (State.snapRead_via ..)
    | (dsimp +zetaDelta only []; split <;> decide +kernel)
    | (split <;> decide +kernel)
    | split
    | (dsimp only [x]; split)
    | (dsimp +zetaDelta only; split)
    | (dsimp only)

theorem State.snapReq_via (s : State) (k : Nat) : Via 8590118914 s (State.snapReq s k) := by
  unfold State.snapReq
  repeat' first
    | with_reducible exact Via.refl _
    | with_reducible assumption
    | decide +kernel
    | (intro x; refine Via.cutLet (m := 8590118914) (s := s) (t := x) ?_ ?_)
    | (refine fun hx => ?_; clear_value x)
    | intro x
    | lift_lets
    | with_reducible apply Via.ite
    | with_reducible apply Via.then (State.snapTake_via ..)
    | (dsimp +zetaDelta only [snapFields]; split <;> decide +kernel)
    | (split <;> decide +kernel)
    | split
    | (dsimp only [x]; split)
    | (dsimp +zetaDelta only; split)
    | with_reducible apply Via.set_snaps
    | (dsimp only)

end Sys2Proof.Machine
end

