-- ==== Sys2Proof/Laws/ViaRegOps.lean ====
section
/-! SUPPORT. What each operation of Machine/RegOps.lean can do to the state (see Laws/Via.lean). -/

namespace Sys2Proof.Machine

set_option linter.unusedTactic false
set_option linter.unreachableTactic false
set_option linter.unusedSimpArgs false
set_option linter.unusedVariables false

set_option Elab.async false

theorem State.ccApplied_via (s : State) (f : Field) (p : Nat) : Via 288572324310437568 s (State.ccApplied s f p) := by
  unfold State.ccApplied
  repeat' first
    | with_reducible exact Via.refl _
    | with_reducible assumption
    | decide +kernel
    | (intro x; refine Via.cutLet (m := 288572324310437568) (s := s) (t := x) ?_ ?_)
    | (refine fun hx => ?_; clear_value x)
    | intro x
    | lift_lets
    | with_reducible apply Via.ite
    | with_reducible apply Via.then (State.sinkBlockUpdate_via ..)
    | with_reducible apply Via.then (State.rpReevaluate_via ..)
    | with_reducible apply Via.then (State.unattached_via ..)
    | with_reducible apply Via.then (State.vconnOff_via ..)
    | with_reducible apply Via.then (State.vconnTry_via ..)
    | with_reducible apply Via.then (State.discEnd_via ..)
    | (dsimp +zetaDelta only []; split <;> decide +kernel)
    | (split <;> decide +kernel)
    | split
    | (dsimp only [x]; split)
    | (dsimp +zetaDelta only; split)
    | (dsimp only)

theorem State.ccTimers_via (s : State) (p : Nat) : Via 1024 s (State.ccTimers s p) := by
  unfold State.ccTimers
  repeat' first
    | with_reducible exact Via.refl _
    | with_reducible assumption
    | decide +kernel
    | (intro x; refine Via.cutLet (m := 1024) (s := s) (t := x) ?_ ?_)
    | (refine fun hx => ?_; clear_value x)
    | intro x
    | lift_lets
    | with_reducible apply Via.setFld
    | split
    | (dsimp only [x]; split)
    | (dsimp +zetaDelta only; split)
    | (dsimp only)

theorem State.surgeLevels_via (s : State) : Via 8192 s (State.surgeLevels s) := by
  unfold State.surgeLevels
  repeat' first
    | with_reducible exact Via.refl _
    | with_reducible assumption
    | decide +kernel
    | (intro x; refine Via.cutLet (m := 8192) (s := s) (t := x) ?_ ?_)
    | (refine fun hx => ?_; clear_value x)
    | intro x
    | with_reducible apply Via.setFld
    | split
    | (dsimp only [x]; split)
    | (dsimp +zetaDelta only; split)
    | (dsimp only)

theorem State.alarmApplied_via (s : State) : Via 1074266115 s (State.alarmApplied s) := by
  unfold State.alarmApplied
  repeat' first
    | with_reducible exact Via.refl _
    | with_reducible assumption
    | decide +kernel
    | (intro x; refine Via.cutLet (m := 1074266115) (s := s) (t := x) ?_ ?_)
    | (refine fun hx => ?_; clear_value x)
    | intro x
    | with_reducible apply Via.ite
    | with_reducible apply Via.then (State.alarmReached_via ..)
    | split
    | (dsimp only [x]; split)
    | (dsimp +zetaDelta only; split)
    | (dsimp only)

theorem State.fcApplied_via (s : State) (f : Field) (v : Nat) : Via 144115188075855872 s (State.fcApplied s f v) := by
  unfold State.fcApplied
  repeat' first
    | with_reducible exact Via.refl _
    | with_reducible assumption
    | decide +kernel
    | (intro x; refine Via.cutLet (m := 144115188075855872) (s := s) (t := x) ?_ ?_)
    | (refine fun hx => ?_; clear_value x)
    | intro x
    | lift_lets
    | with_reducible apply Via.ite
    | with_reducible apply Via.then (State.fcConfigure_via ..)
    | with_reducible apply Via.then (State.updFc_via ..)
    | (dsimp +zetaDelta only []; split <;> decide +kernel)
    | (split <;> decide +kernel)
    | split
    | (dsimp only [x]; split)
    | (dsimp +zetaDelta only; split)
    | (dsimp only)

theorem State.quinceApplied_via (s old : State) (f : Field) (i v : Nat) : Via 874041342094364643 s (State.quinceApplied s old f i v) := by
  unfold State.quinceApplied
  repeat' first
    | with_reducible exact Via.refl _
    | with_reducible assumption
    | decide +kernel
    | (intro x; refine Via.cutLet (m := 874041342094364643) (s := s) (t := x) ?_ ?_)
    | (refine fun hx => ?_; clear_value x)
    | intro x
    | with_reducible apply Via.setFld
    | with_reducible apply Via.putBit
    | with_reducible apply Via.put
    | with_reducible apply Via.ite
    | with_reducible apply Via.then (State.alarmApplied_via ..)
    | with_reducible apply Via.then (State.ttAllocApply_via ..)
    | with_reducible apply Via.then (State.domsFollow_via ..)
    | with_reducible apply Via.then (State.quarantine_via ..)
    | with_reducible apply Via.then (State.ttRefresh_via ..)
    | with_reducible apply Via.then (State.quarClear_via ..)
    | with_reducible apply Via.then (State.descCheck_via ..)
    | with_reducible apply Via.then (State.p33Update_via ..)
    | with_reducible apply Via.then (State.presence_via ..)
    | with_reducible apply Via.then (State.isolate_via ..)
    | with_reducible apply Via.then (State.assign_via ..)
    | with_reducible apply Via.then (State.irq_via ..)
    | split
    | (dsimp only [x]; split)
    | (dsimp +zetaDelta only; split)
    | (dsimp only)

theorem State.serviceApplied_via (s : State) (f : Field) (i v : Nat) : Via 560477203486854853 s (State.serviceApplied s f i v) := by
  unfold State.serviceApplied
  repeat' first
    | with_reducible exact Via.refl _
    | with_reducible assumption
    | decide +kernel
    | (intro x; refine Via.cutLet (m := 560477203486854853) (s := s) (t := x) ?_ ?_)
    | (refine fun hx => ?_; clear_value x)
    | intro x
    | with_reducible apply Via.putBit
    | with_reducible apply Via.ite
    | with_reducible apply Via.then (State.readyRefresh_via ..)
    | with_reducible apply Via.then (State.identAgain_via ..)
    | with_reducible apply Via.then (State.autoRanges_via ..)
    | with_reducible apply Via.then (State.linkEnable_via ..)
    | with_reducible apply Via.then (State.chordHush_via ..)
    | with_reducible apply Via.then (State.ppsSettle_via ..)
    | with_reducible apply Via.then (State.coreReset_via ..)
    | with_reducible apply Via.then (State.fcApplied_via ..)
    | with_reducible apply Via.then (State.tatShow_via ..)
    | with_reducible apply Via.then (State.updCore_via ..)
    | (dsimp +zetaDelta only []; split <;> decide +kernel)
    | (split <;> decide +kernel)
    | split
    | (dsimp only [x]; split)
    | (dsimp +zetaDelta only; split)
    | (dsimp only)

theorem State.portApplied_via (s : State) (f : Field) (i v : Nat) : Via 290964895972224736 s (State.portApplied s f i v) := by
  unfold State.portApplied
  repeat' first
    | with_reducible exact Via.refl _
    | with_reducible assumption
    | decide +kernel
    | (intro x; refine Via.cutLet (m := 290964895972224736) (s := s) (t := x) ?_ ?_)
    | (refine fun hx => ?_; clear_value x)
    | intro x
    | with_reducible apply Via.ite
    | with_reducible apply Via.then (State.surgeLevels_via ..)
    | with_reducible apply Via.then (State.vsetUpdate_via ..)
    | with_reducible apply Via.then (State.govRefresh_via ..)
    | with_reducible apply Via.then (State.offerAnew_via ..)
    | with_reducible apply Via.then (State.ccApplied_via ..)
    | with_reducible apply Via.then (State.voffWrite_via ..)
    | with_reducible apply Via.then (State.ccTimers_via ..)
    | with_reducible apply Via.then (State.discEnd_via ..)
    | with_reducible apply Via.then (State.setCcen_via ..)
    | with_reducible apply Via.then (State.levels_via ..)
    | with_reducible apply Via.then (State.hctl_via ..)
    | (dsimp +zetaDelta only []; split <;> decide +kernel)
    | (split <;> decide +kernel)
    | split
    | (dsimp only [x]; split)
    | (dsimp +zetaDelta only; split)
    | (dsimp only)

theorem State.applied_via (s old : State) (f : Field) (i v : Nat) : Via 1148338724213092327 s (State.applied s old f i v) := by
  unfold State.applied
  repeat' first
    | with_reducible exact Via.refl _
    | with_reducible assumption
    | decide +kernel
    | (intro x; refine Via.cutLet (m := 1148338724213092327) (s := s) (t := x) ?_ ?_)
    | (refine fun hx => ?_; clear_value x)
    | intro x
    | lift_lets
    | with_reducible apply Via.ite
    | with_reducible apply Via.then (State.serviceApplied_via ..)
    | with_reducible apply Via.then (State.quinceApplied_via ..)
    | with_reducible apply Via.then (State.filterChanged_via ..)
    | with_reducible apply Via.then (State.portApplied_via ..)
    | split
    | (dsimp only [x]; split)
    | (dsimp +zetaDelta only; split)
    | (dsimp only)

theorem State.collide_via (s : State) (f : Field) (i : Nat) : Via 134217727 s (State.collide s f i) := by
  unfold State.collide
  repeat' first
    | with_reducible exact Via.refl _
    | with_reducible assumption
    | decide +kernel
    | (intro x; refine Via.cutLet (m := 134217727) (s := s) (t := x) ?_ ?_)
    | (refine fun hx => ?_; clear_value x)
    | intro x
    | with_reducible apply Via.incr
    | (dsimp +zetaDelta only [collideOf]; split <;> decide +kernel)
    | (split <;> decide +kernel)
    | exact land_allRegs (by decide +kernel) _
    | split
    | (dsimp only [x]; split)
    | (dsimp +zetaDelta only; split)
    | (dsimp only)

theorem State.takeWrite_via (s : State) (hw : List HwChange) (x : Staged) : Via 134217727 s (State.takeWrite s hw x) := by
  unfold State.takeWrite
  repeat' first
    | with_reducible exact Via.refl _
    | with_reducible assumption
    | decide +kernel
    | (intro x; refine Via.cutLet (m := 134217727) (s := s) (t := x) ?_ ?_)
    | (refine fun hx => ?_; clear_value x)
    | intro x
    | lift_lets
    | with_reducible apply Via.setFld
    | with_reducible apply Via.ite
    | with_reducible apply Via.then (State.collide_via ..)
    | (dsimp +zetaDelta only []; split <;> decide +kernel)
    | (split <;> decide +kernel)
    | exact land_allRegs (by decide +kernel) _
    | split
    | (dsimp only [x]; split)
    | (dsimp +zetaDelta only; split)
    | (dsimp only)

theorem State.unstage_via (s : State) (x : Staged) : Via 268435456 s (State.unstage s x) := by
  unfold State.unstage
  repeat' first
    | with_reducible exact Via.refl _
    | with_reducible assumption
    | decide +kernel
    | (intro x; refine Via.cutLet (m := 268435456) (s := s) (t := x) ?_ ?_)
    | (refine fun hx => ?_; clear_value x)
    | intro x
    | split
    | (dsimp only [x]; split)
    | (dsimp +zetaDelta only; split)
    | with_reducible apply Via.set_staged
    | (dsimp only)

theorem State.applyAll_via (s : State) (hw : List HwChange) (l : List Staged) : Via 1148338724573020159 s (State.applyAll s hw l) := by
  unfold State.applyAll
  repeat' first
    | with_reducible exact Via.refl _
    | with_reducible assumption
    | decide +kernel
    | (intro x; refine Via.cutLet (m := 1148338724573020159) (s := s) (t := x) ?_ ?_)
    | (refine fun hx => ?_; clear_value x)
    | intro x
    | lift_lets
    | with_reducible apply Via.ite
    | with_reducible apply Via.then (State.takeWrite_via ..)
    | with_reducible apply Via.then (State.applied_via ..)
    | with_reducible apply Via.then (State.unstage_via ..)
    | (with_reducible refine Via.foldlFst _ _ _ (fun p _ => ?_) ?_ <;> dsimp only)
    | (with_reducible refine Via.foldlThen _ _ (fun s _ => ?_) ?_)
    | split
    | (dsimp only [x]; split)
    | (dsimp +zetaDelta only; split)
    | (dsimp only)

theorem State.holdReleased_via (s : State) (hw : List HwChange) (h : Home) : Via 1148338724573020159 s (State.holdReleased s hw h) := by
  unfold State.holdReleased
  repeat' first
    | with_reducible exact Via.refl _
    | with_reducible assumption
    | decide +kernel
    | (intro x; refine Via.cutLet (m := 1148338724573020159) (s := s) (t := x) ?_ ?_)
    | (refine fun hx => ?_; clear_value x)
    | intro x
    | with_reducible apply Via.then (State.applyAll_via ..)
    | split
    | (dsimp only [x]; split)
    | (dsimp +zetaDelta only; split)
    | (dsimp only)

theorem State.openNibble_via (s : State) (x : Staged) : Via 576460752303423488 s (State.openNibble s x).2 := by
  unfold State.openNibble
  repeat' first
    | with_reducible exact Via.refl _
    | with_reducible assumption
    | decide +kernel
    | (intro x; refine Via.cutLet (m := 576460752303423488) (s := s) (t := x) ?_ ?_)
    | (refine fun hx => ?_; clear_value x)
    | intro x
    | lift_lets
    | with_reducible apply Via.ite
    | with_reducible apply Via.then (State.drawNat_via ..)
    | with_reducible refine Via.then (State.drawNat_via' (by assumption)) (by decide +kernel) ?_
    | split
    | (dsimp only [x]; split)
    | (dsimp +zetaDelta only; split)
    | (dsimp only)
    | (dsimp +zetaDelta only)

theorem State.openNibble_via' {s : State} {x : Staged} {a : Staged} {t : State} (hop : State.openNibble s x = (a, t)) : Via 576460752303423488 s t := by
  have d := State.openNibble_via s x
  rw [hop] at d
  exact d

theorem State.stageOne_via (s : State) (x : Staged) : Via 576460752571858944 s (State.stageOne s x) := by
  unfold State.stageOne
  repeat' first
    | with_reducible exact Via.refl _
    | with_reducible assumption
    | decide +kernel
    | (intro x; refine Via.cutLet (m := 576460752571858944) (s := s) (t := x) ?_ ?_)
    | (refine fun hx => ?_; clear_value x)
    | intro x
    | lift_lets
    | with_reducible apply Via.then (State.openNibble_via ..)
    | with_reducible refine Via.then (State.openNibble_via' (by assumption)) (by decide +kernel) ?_
    | with_reducible apply Via.then (State.unstage_via ..)
    | split
    | (dsimp only [x]; split)
    | (dsimp +zetaDelta only; split)
    | with_reducible apply Via.set_staged
    | (dsimp only)
    | (dsimp +zetaDelta only)

theorem State.stageAll_via (s : State) (l : List Staged) : Via 576460752571858944 s (State.stageAll s l) := by
  unfold State.stageAll
  repeat' first
    | with_reducible exact Via.refl _
    | with_reducible assumption
    | decide +kernel
    | (intro x; refine Via.cutLet (m := 576460752571858944) (s := s) (t := x) ?_ ?_)
    | (refine fun hx => ?_; clear_value x)
    | intro x
    | with_reducible apply Via.ite
    | with_reducible apply Via.then (State.stageOne_via ..)
    | (with_reducible refine Via.foldlFst _ _ _ (fun p _ => ?_) ?_ <;> dsimp only)
    | (with_reducible refine Via.foldlThen _ _ (fun s _ => ?_) ?_)
    | split
    | (dsimp only [x]; split)
    | (dsimp +zetaDelta only; split)
    | (dsimp only)

theorem State.strobe_via (s : State) (stop : State → Nat → State) (f : Field) (i v w : Nat) (hs : ∀ s i, Via 2305843009213693951 s (stop s i)) : Via 2305843009213693951 s (State.strobe s stop f i v w) := by
  unfold State.strobe
  repeat' first
    | with_reducible exact Via.refl _
    | with_reducible assumption
    | decide +kernel
    | (intro x; refine Via.cutLet (m := 2305843009213693951) (s := s) (t := x) ?_ ?_)
    | (refine fun hx => ?_; clear_value x)
    | intro x
    | lift_lets
    | with_reducible apply Via.ite
    | with_reducible apply Via.then (State.fcInjectEvent_via ..)
    | with_reducible apply Via.then (State.selfTestStart_via ..)
    | with_reducible apply Via.then (State.traceTrigger_via ..)
    | with_reducible apply Via.then (State.fcInjectWire_via ..)
    | with_reducible apply Via.then (State.glitchStart_via ..)
    | with_reducible apply Via.then (State.traceClear_via ..)
    | with_reducible apply Via.then (State.fcSelftest_via ..)
    | with_reducible apply Via.then (State.traceStart_via ..)
    | with_reducible apply Via.then (State.hsClrLatch_via ..)
    | with_reducible apply Via.then (State.icComplete_via ..)
    | with_reducible apply Via.then (State.hashStart_via ..)
    | with_reducible apply Via.then (State.rxRelease_via ..)
    | with_reducible apply Via.then (State.traceStop_via ..)
    | with_reducible apply Via.then (State.logSubGo_via ..)
    | with_reducible apply Via.then (State.tatBegin_via ..)
    | with_reducible apply Via.then (State.clrLatch_via ..)
    | with_reducible apply Via.then (State.transmit_via ..)
    | with_reducible apply Via.then (State.localAck_via ..)
    | with_reducible apply Via.then (State.vcRearm_via ..)
    | with_reducible apply Via.then (State.fcClear_via ..)
    | with_reducible apply Via.then (State.snapReq_via ..)
    | with_reducible apply Via.then (State.trcMark_via ..)
    | with_reducible apply Via.then (State.localGo_via ..)
    | with_reducible apply Via.then (State.drawNat_via ..)
    | with_reducible refine Via.then (State.drawNat_via' (by assumption)) (by decide +kernel) ?_
    | with_reducible apply Via.then (State.qspiGo_via ..)
    | with_reducible apply Via.then (State.discGo_via ..)
    | with_reducible apply Via.then (State.migGo_via ..)
    | with_reducible apply Via.then (State.rearm_via ..)
    | with_reducible apply Via.then (State.dmaGo_via ..)
    | with_reducible apply Via.then (State.nvmGo_via ..)
    | with_reducible apply Via.then (State.kick_via ..)
    | with_reducible apply Via.then (State.thaw_via ..)
    | (with_reducible refine Via.each _ _ (fun s _ => ?_) ?_)
    | (refine Via.trans ?_ (hs _ _))
    | split
    | (dsimp only [x]; split)
    | (dsimp +zetaDelta only; split)
    | (dsimp only)
    | (dsimp +zetaDelta only)

theorem State.strobes_via (s : State) (stop : State → Nat → State) (r : RegDef) (i view w : Nat) (hs : ∀ s i, Via 2305843009213693951 s (stop s i)) : Via 2305843009213693951 s (State.strobes s stop r i view w) := by
  unfold State.strobes
  repeat' first
    | with_reducible exact Via.refl _
    | with_reducible assumption
    | decide +kernel
    | (intro x; refine Via.cutLet (m := 2305843009213693951) (s := s) (t := x) ?_ ?_)
    | (refine fun hx => ?_; clear_value x)
    | intro x
    | lift_lets
    | with_reducible apply Via.ite
    | with_reducible apply Via.then (State.strobe_via (hs := hs) ..)
    | (with_reducible refine Via.foldlFst _ _ _ (fun p _ => ?_) ?_ <;> dsimp only)
    | (with_reducible refine Via.foldlThen _ _ (fun s _ => ?_) ?_)
    | (refine Via.trans ?_ (hs _ _))
    | split
    | (dsimp only [x]; split)
    | (dsimp +zetaDelta only; split)
    | (dsimp only)

theorem State.writeReg_via (s : State) (stop : State → Nat → State) (hw : List HwChange) (h : Home) (r : RegDef) (i view w mask : Nat) (hs : ∀ s i, Via 2305843009213693951 s (stop s i)) : Via 2305843009213693951 s (State.writeReg s stop hw h r i view w mask) := by
  unfold State.writeReg
  repeat' first
    | with_reducible exact Via.refl _
    | with_reducible assumption
    | decide +kernel
    | (intro x; refine Via.cutLet (m := 2305843009213693951) (s := s) (t := x) ?_ ?_)
    | (refine fun hx => ?_; clear_value x)
    | intro x
    | lift_lets
    | with_reducible apply Via.ite
    | with_reducible apply Via.then (State.holdReleased_via ..)
    | with_reducible apply Via.then (State.applyAll_via ..)
    | with_reducible apply Via.then (State.stageAll_via ..)
    | with_reducible apply Via.then (State.strobes_via (hs := hs) ..)
    | (refine Via.trans ?_ (hs _ _))
    | split
    | (dsimp only [x]; split)
    | (dsimp +zetaDelta only; split)
    | (dsimp only)

theorem State.storeWith_via (s : State) (stop : State → Nat → State) (hw : List HwChange) (m a n data : Nat)
    (hs : ∀ s i, Via 2305843009213693951 s (stop s i)) : Via 2305843009213693951 s (State.storeWith s stop hw m a n data) := by
  unfold State.storeWith
  split
  · refine Via.bite _ (.refl _) ?_
    split
    · exact Via.then (State.writeReg_via (hs := hs) ..) (by decide +kernel) (.refl _)
    · exact .refl _
  · split
    · exact .write _ _ (by decide +kernel) (by unfold tcmAddr; omega) (.refl _)
    · split
      · next h => exact .write _ _ (by decide +kernel) (Nat.le_trans (by decide) h.1) (.refl _)
      · exact .refl _

theorem State.dmaHalt_via (s : State) (d : Nat) : Via 1572864 s (State.dmaHalt s d) := by
  unfold State.dmaHalt
  repeat' first
    | with_reducible exact Via.refl _
    | with_reducible assumption
    | decide +kernel
    | (intro x; refine Via.cutLet (m := 1572864) (s := s) (t := x) ?_ ?_)
    | (refine fun hx => ?_; clear_value x)
    | intro x
    | with_reducible apply Via.put
    | with_reducible apply Via.incr
    | with_reducible apply Via.ite
    | with_reducible apply Via.then (State.irq_via ..)
    | split
    | (dsimp only [x]; split)
    | (dsimp +zetaDelta only; split)
    | (dsimp only)

theorem State.dmaAbsent_via (s : State) (d a : Nat) : Via 144115188077428736 s (State.dmaAbsent s d a) := by
  unfold State.dmaAbsent
  repeat' first
    | with_reducible exact Via.refl _
    | with_reducible assumption
    | decide +kernel
    | (intro x; refine Via.cutLet (m := 144115188077428736) (s := s) (t := x) ?_ ?_)
    | (refine fun hx => ?_; clear_value x)
    | intro x
    | with_reducible apply Via.incr
    | with_reducible apply Via.then (State.absentAccess_via ..)
    | (dsimp +zetaDelta only []; split <;> decide +kernel)
    | (split <;> decide +kernel)
    | split
    | (dsimp only [x]; split)
    | (dsimp +zetaDelta only; split)
    | (dsimp only)

theorem State.dmaWord_via (s : State) (d : Nat) : Via 2305843009213693951 s ((State.dmaWord s d).getD s) := by
  unfold State.dmaWord
  repeat' first
    | with_reducible exact Via.refl _
    | with_reducible assumption
    | decide +kernel
    | (intro x; refine Via.cutLet (m := 2305843009213693951) (s := s) (t := x) ?_ ?_)
    | (refine fun hx => ?_; clear_value x)
    | intro x
    | lift_lets
    | with_reducible apply Via.setFld
    | with_reducible apply Via.put
    | with_reducible apply Via.ite
    | with_reducible refine Via.then (State.storeWith_via (hs := fun s i => ?_) ..) (by decide +kernel) ?_
    | with_reducible apply Via.then (State.dmaAbsent_via ..)
    | with_reducible apply Via.then (State.afterRead_via ..)
    | with_reducible apply Via.then (State.hashRead_via ..)
    | with_reducible apply Via.then (State.dmaHalt_via ..)
    | with_reducible apply Via.then (State.updHw_via ..)
    | split
    | (dsimp only [x]; split)
    | (dsimp +zetaDelta only; split)
    | (dsimp only)
    | dsimp only [Option.getD]

theorem State.dmaWord_via' {s : State} {d : Nat} {t : State} (h : State.dmaWord s d = some t) : Via 2305843009213693951 s t := by
  have d := State.dmaWord_via s d
  rw [h] at d
  exact d

theorem State.dmaCopy_via (s : State) (d n : Nat) : Via 2305843009213693951 s (State.dmaCopy s d n) := by
  induction n generalizing s with
  | zero => exact .refl _
  | succ n ih =>
    unfold State.dmaCopy
    with_reducible refine Via.ite _ ?_ (.refl _)
    split
    · next hq => exact ((State.dmaWord_via' hq).mono (by decide +kernel)).trans (ih _)
    · exact Via.ite _ (Via.then (State.violation_via ..) (by decide +kernel) (.refl _))
        (Via.then (State.violation_via ..) (by decide +kernel) (.refl _))

theorem State.dmaStop_via (s : State) (d n : Nat) : Via 2305843009213693951 s (State.dmaStop s d n) := by
  unfold State.dmaStop
  repeat' first
    | with_reducible exact Via.refl _
    | with_reducible assumption
    | decide +kernel
    | (intro x; refine Via.cutLet (m := 2305843009213693951) (s := s) (t := x) ?_ ?_)
    | (refine fun hx => ?_; clear_value x)
    | intro x
    | lift_lets
    | with_reducible apply Via.ite
    | with_reducible apply Via.then (State.dmaCopy_via ..)
    | with_reducible apply Via.then (State.dmaHalt_via ..)
    | split
    | (dsimp only [x]; split)
    | (dsimp +zetaDelta only; split)
    | (dsimp only)

theorem State.dmaStopFree_via (s : State) (d : Nat) : Via 2305843009213693951 s (State.dmaStopFree s d) := by
  unfold State.dmaStopFree
  repeat' first
    | with_reducible exact Via.refl _
    | with_reducible assumption
    | decide +kernel
    | (intro x; refine Via.cutLet (m := 2305843009213693951) (s := s) (t := x) ?_ ?_)
    | (refine fun hx => ?_; clear_value x)
    | intro x
    | lift_lets
    | with_reducible apply Via.then (State.dmaStop_via ..)
    | with_reducible apply Via.then (State.drawNat_via ..)
    | with_reducible refine Via.then (State.drawNat_via' (by assumption)) (by decide +kernel) ?_
    | split
    | (dsimp only [x]; split)
    | (dsimp +zetaDelta only; split)
    | (dsimp only)
    | (dsimp +zetaDelta only)

theorem State.store_via (s : State) (hw : List HwChange) (m a n data : Nat) : Via 2305843009213693951 s (State.store s hw m a n data) := by
  unfold State.store
  repeat' first
    | with_reducible exact Via.refl _
    | with_reducible assumption
    | decide +kernel
    | (intro x; refine Via.cutLet (m := 2305843009213693951) (s := s) (t := x) ?_ ?_)
    | (refine fun hx => ?_; clear_value x)
    | intro x
    | with_reducible apply Via.then (State.dmaStopFree_via ..)
    | with_reducible refine Via.then (State.storeWith_via (hs := fun s i => ?_) ..) (by decide +kernel) ?_
    | split
    | (dsimp only [x]; split)
    | (dsimp +zetaDelta only; split)
    | (dsimp only)

theorem State.masterStore_via (s : State) (hw : List HwChange) (m a n data : Nat) : Via 2305843009213693951 s (State.masterStore s hw m a n data) := by
  unfold State.masterStore
  repeat' first
    | with_reducible exact Via.refl _
    | with_reducible assumption
    | decide +kernel
    | (intro x; refine Via.cutLet (m := 2305843009213693951) (s := s) (t := x) ?_ ?_)
    | (refine fun hx => ?_; clear_value x)
    | intro x
    | lift_lets
    | with_reducible apply Via.ite
    | with_reducible apply Via.then (State.recordViolation_via ..)
    | with_reducible apply Via.then (State.absentAccess_via ..)
    | with_reducible apply Via.then (State.partReset_via ..)
    | with_reducible apply Via.then (State.violation_via ..)
    | with_reducible apply Via.then (State.store_via ..)
    | (dsimp +zetaDelta only []; split <;> decide +kernel)
    | (split <;> decide +kernel)
    | split
    | (dsimp only [x]; split)
    | (dsimp +zetaDelta only; split)
    | (dsimp only)

end Sys2Proof.Machine
end

