-- ==== Sys2Proof/Laws/ViaMarker.lean ====
section
/-! SUPPORT. What each operation of Machine/Marker.lean can do to the state (see Laws/Via.lean). -/

namespace Sys2Proof.Machine

set_option linter.unusedTactic false
set_option linter.unreachableTactic false
set_option linter.unusedSimpArgs false
set_option linter.unusedVariables false

set_option Elab.async false

theorem State.timerTick_via (s : State) (c : Nat) : Via 524288 s (State.timerTick s c) := by
  unfold State.timerTick
  repeat' first
    | with_reducible exact Via.refl _
    | with_reducible assumption
    | decide +kernel
    | (intro x; refine Via.cutLet (m := 524288) (s := s) (t := x) ?_ ?_)
    | (refine fun hx => ?_; clear_value x)
    | intro x
    | lift_lets
    | with_reducible apply Via.setFld
    | with_reducible apply Via.ite
    | with_reducible apply Via.then (State.irq_via ..)
    | split
    | (dsimp only [x]; split)
    | (dsimp +zetaDelta only; split)
    | (dsimp only)

theorem State.watchTick_via (s : State) (c : Nat) : Via 524288 s (State.watchTick s c) := by
  unfold State.watchTick
  repeat' first
    | with_reducible exact Via.refl _
    | with_reducible assumption
    | decide +kernel
    | (intro x; refine Via.cutLet (m := 524288) (s := s) (t := x) ?_ ?_)
    | (refine fun hx => ?_; clear_value x)
    | intro x
    | with_reducible apply Via.setFld
    | with_reducible apply Via.ite
    | split
    | (dsimp only [x]; split)
    | (dsimp +zetaDelta only; split)
    | (dsimp only)

theorem State.markerWrites_via (s : State) (hw : List HwChange) : Via 1148338724573020159 s (State.markerWrites s hw) := by
  unfold State.markerWrites
  repeat' first
    | with_reducible exact Via.refl _
    | with_reducible assumption
    | decide +kernel
    | (intro x; refine Via.cutLet (m := 1148338724573020159) (s := s) (t := x) ?_ ?_)
    | (refine fun hx => ?_; clear_value x)
    | intro x
    | with_reducible apply Via.then (State.applyAll_via ..)
    | split
    | (dsimp only [x]; split)
    | (dsimp +zetaDelta only; split)
    | (dsimp only)

theorem State.microsecond_via (s : State) (hw : List HwChange) : Via 1148338725109891071 s (State.microsecond s hw) := by
  unfold State.microsecond
  repeat' first
    | with_reducible exact Via.refl _
    | with_reducible assumption
    | decide +kernel
    | (intro x; refine Via.cutLet (m := 1148338725109891071) (s := s) (t := x) ?_ ?_)
    | (refine fun hx => ?_; clear_value x)
    | intro x
    | lift_lets
    | with_reducible apply Via.ite
    | with_reducible apply Via.then (State.markerWrites_via ..)
    | with_reducible apply Via.then (State.watchTick_via ..)
    | with_reducible apply Via.then (State.timerTick_via ..)
    | with_reducible apply Via.then (State.markerDue_via ..)
    | (with_reducible refine Via.each _ _ (fun s _ => ?_) ?_)
    | split
    | (dsimp only [x]; split)
    | (dsimp +zetaDelta only; split)
    | (dsimp only)

theorem State.toMicrosecond_via (s : State) (n : Nat) (hw : List HwChange) : Via 1148338725109891071 s (State.toMicrosecond s n hw) := by
  unfold State.toMicrosecond
  repeat' first
    | with_reducible exact Via.refl _
    | with_reducible assumption
    | decide +kernel
    | (intro x; refine Via.cutLet (m := 1148338725109891071) (s := s) (t := x) ?_ ?_)
    | (refine fun hx => ?_; clear_value x)
    | intro x
    | with_reducible apply Via.ite
    | with_reducible apply Via.then (State.microsecond_via ..)
    | with_reducible apply Via.then (State.advance_via ..)
    | split
    | (dsimp only [x]; split)
    | (dsimp +zetaDelta only; split)
    | (dsimp only)

theorem State.nextMarker_via (s : State) (hw : List HwChange) : Via 1148338725109891071 s (State.nextMarker s hw) := by
  unfold State.nextMarker
  repeat' first
    | with_reducible exact Via.refl _
    | with_reducible assumption
    | decide +kernel
    | (intro x; refine Via.cutLet (m := 1148338725109891071) (s := s) (t := x) ?_ ?_)
    | (refine fun hx => ?_; clear_value x)
    | intro x
    | with_reducible apply Via.then (State.toMicrosecond_via ..)
    | split
    | (dsimp only [x]; split)
    | (dsimp +zetaDelta only; split)
    | (dsimp only)

theorem execMarker_via (l sync depth ct localCt : Nat) (peerHold : Bool) (s : State) : ∃ t, execMarker l sync depth ct localCt peerHold s = .next t ∧ Via 1148338725109891071 s t := by
  refine ⟨_, rfl, ?_⟩
  repeat' first
    | with_reducible exact Via.refl _
    | with_reducible assumption
    | decide +kernel
    | (intro g; refine Via.cutFun (m := 1148338725109891071) (g := g) (fun s => ?_) ?_; on_goal 1 => dsimp only [g])
    | (intro g; refine Via.cutFunTwo (m := 1148338725109891071) (g := g) (fun s _ => ?_) ?_; on_goal 1 => dsimp only [g])
    | (refine fun hg => ?_; clear_value g)
    | (refine Via.trans ?_ (hg ..))
    | (intro x; refine Via.cutLet (m := 1148338725109891071) (s := s) (t := x) ?_ ?_)
    | (refine fun hx => ?_; clear_value x)
    | intro x
    | lift_lets
    | with_reducible apply Via.setFld
    | with_reducible apply Via.put
    | with_reducible apply Via.ite
    | with_reducible apply Via.then (State.toMicrosecond_via ..)
    | with_reducible apply Via.then (State.chordHush_via ..)
    | with_reducible apply Via.then (State.markerDue_via ..)
    | with_reducible apply Via.then (State.chordSend_via ..)
    | with_reducible apply Via.then (State.linkFail_via ..)
    | with_reducible apply Via.then (State.updChord_via ..)
    | with_reducible apply Via.then (State.setSync_via ..)
    | with_reducible apply Via.then (State.updLink_via ..)
    | (dsimp +zetaDelta only []; split <;> decide +kernel)
    | (split <;> decide +kernel)
    | split
    | (dsimp only [x]; split)
    | (dsimp +zetaDelta only; split)
    | (dsimp only)

end Sys2Proof.Machine
end

