-- ==== Sys2Proof/Laws/ViaMbxCmd.lean ====
section
/-! SUPPORT. What each operation of Machine/MbxCmd.lean can do to the state (see Laws/Via.lean). -/

namespace Sys2Proof.Machine

set_option linter.unusedTactic false
set_option linter.unreachableTactic false
set_option linter.unusedSimpArgs false
set_option linter.unusedVariables false

set_option Elab.async false

theorem State.readsCounted_via (s : State) (l : List (Field × Nat)) : Via 144115188076380160 s (State.readsCounted s l) := by
  unfold State.readsCounted
  repeat' first
    | with_reducible exact Via.refl _
    | with_reducible assumption
    | decide +kernel
    | (intro x; refine Via.cutLet (m := 144115188076380160) (s := s) (t := x) ?_ ?_)
    | (refine fun hx => ?_; clear_value x)
    | intro x
    | with_reducible apply Via.then (State.absentAccess_via ..)
    | (with_reducible refine Via.each _ _ (fun s _ => ?_) ?_)
    | split
    | (dsimp only [x]; split)
    | (dsimp +zetaDelta only; split)
    | (dsimp only)

theorem State.fwWrite_via (s : State) (l : List Staged) : Via 1148338724573020159 s (State.fwWrite s l) := by
  unfold State.fwWrite
  repeat' first
    | with_reducible exact Via.refl _
    | with_reducible assumption
    | decide +kernel
    | (intro x; refine Via.cutLet (m := 1148338724573020159) (s := s) (t := x) ?_ ?_)
    | (refine fun hx => ?_; clear_value x)
    | intro x
    | with_reducible apply Via.then (State.applyAll_via ..)
    | with_reducible apply Via.then (State.stageAll_via ..)
    | split
    | (dsimp only [x]; split)
    | (dsimp +zetaDelta only; split)
    | (dsimp only)

theorem State.fwGroup_via (s : State) (l : List Staged) : Via 1148338724573020159 s (State.fwGroup s l) := by
  unfold State.fwGroup
  repeat' first
    | with_reducible exact Via.refl _
    | with_reducible assumption
    | decide +kernel
    | (intro x; refine Via.cutLet (m := 1148338724573020159) (s := s) (t := x) ?_ ?_)
    | (refine fun hx => ?_; clear_value x)
    | intro x
    | lift_lets
    | with_reducible apply Via.put
    | with_reducible apply Via.ite
    | with_reducible apply Via.then (State.holdReleased_via ..)
    | with_reducible apply Via.then (State.fwWrite_via ..)
    | (dsimp +zetaDelta only [holdSlot]; split <;> decide +kernel)
    | (split <;> decide +kernel)
    | exact land_allRegs (by decide +kernel) _
    | split
    | (dsimp only [x]; split)
    | (dsimp +zetaDelta only; split)
    | (dsimp only)

theorem State.fabricCommand_via {m : Nat} {s t : State} (ch : Nat) (f : Frame) (act : State → Nat → Nat × State)
    (ha : ∀ s p, Via m s (act s p).2) (d : Via m s t) : Via m s (t.fabricCommand ch f act).1 := by
  unfold State.fabricCommand
  refine State.maskCommand_via _ _ _ (fun s p => ?_) d
  split
  · exact ha s p
  · exact .refl _

theorem State.refuse_via (s : State) (status : Nat) : Via 0 s (State.refuse s status).1 := by
  unfold State.refuse
  repeat' first
    | with_reducible exact Via.refl _
    | with_reducible assumption
    | decide +kernel
    | (intro x; refine Via.cutLet (m := 0) (s := s) (t := x) ?_ ?_)
    | (refine fun hx => ?_; clear_value x)
    | intro x
    | split
    | (dsimp only [x]; split)
    | (dsimp +zetaDelta only; split)
    | (dsimp only)

theorem State.refuse_via' {s : State} {status : Nat} {a : Option Reply} {t : State} (hop : State.refuse s status = (t, a)) : Via 0 s t := by
  have d := State.refuse_via s status
  rw [hop] at d
  exact d

theorem State.give_via (s : State) (payload : List Nat) : Via 0 s (State.give s payload).1 := by
  unfold State.give
  repeat' first
    | with_reducible exact Via.refl _
    | with_reducible assumption
    | decide +kernel
    | (intro x; refine Via.cutLet (m := 0) (s := s) (t := x) ?_ ?_)
    | (refine fun hx => ?_; clear_value x)
    | intro x
    | split
    | (dsimp only [x]; split)
    | (dsimp +zetaDelta only; split)
    | (dsimp only)

theorem State.give_via' {s : State} {payload : List Nat} {a : Option Reply} {t : State} (hop : State.give s payload = (t, a)) : Via 0 s t := by
  have d := State.give_via s payload
  rw [hop] at d
  exact d

theorem State.giveRegs_via (s : State) (l : List (Field × Nat)) : Via 144115188076380160 s (State.giveRegs s l).1 := by
  unfold State.giveRegs
  repeat' first
    | with_reducible exact Via.refl _
    | with_reducible assumption
    | decide +kernel
    | (intro x; refine Via.cutLet (m := 144115188076380160) (s := s) (t := x) ?_ ?_)
    | (refine fun hx => ?_; clear_value x)
    | intro x
    | with_reducible apply Via.then (State.readsCounted_via ..)
    | with_reducible apply Via.then (State.give_via ..)
    | with_reducible refine Via.then (State.give_via' (by assumption)) (by decide +kernel) ?_
    | split
    | (dsimp only [x]; split)
    | (dsimp +zetaDelta only; split)
    | (dsimp only)
    | (dsimp +zetaDelta only)

theorem State.giveRegs_via' {s : State} {l : List (Field × Nat)} {a : Option Reply} {t : State} (hop : State.giveRegs s l = (t, a)) : Via 144115188076380160 s t := by
  have d := State.giveRegs_via s l
  rw [hop] at d
  exact d

theorem State.maskRead_via (s : State) (ch : Nat) (f : Frame) (words : Nat → List (Field × Nat)) : Via 144115188076380160 s (State.maskRead s ch f words).1 := by
  unfold State.maskRead
  repeat' first
    | with_reducible exact Via.refl _
    | with_reducible assumption
    | decide +kernel
    | (intro x; refine Via.cutLet (m := 144115188076380160) (s := s) (t := x) ?_ ?_)
    | (refine fun hx => ?_; clear_value x)
    | intro x
    | lift_lets
    | with_reducible apply Via.ite
    | with_reducible apply Via.then (State.giveRegs_via ..)
    | with_reducible refine Via.then (State.giveRegs_via' (by assumption)) (by decide +kernel) ?_
    | with_reducible apply Via.then (State.refuse_via ..)
    | with_reducible refine Via.then (State.refuse_via' (by assumption)) (by decide +kernel) ?_
    | split
    | (dsimp only [x]; split)
    | (dsimp +zetaDelta only; split)
    | (dsimp only)
    | (dsimp +zetaDelta only)

theorem State.maskRead_via' {s : State} {ch : Nat} {f : Frame} {words : Nat → List (Field × Nat)} {a : Option Reply} {t : State} (hop : State.maskRead s ch f words = (t, a)) : Via 144115188076380160 s t := by
  have d := State.maskRead_via s ch f words
  rw [hop] at d
  exact d

theorem State.done_via (s : State) : Via 0 s (State.done s).1 := by
  unfold State.done
  repeat' first
    | with_reducible exact Via.refl _
    | with_reducible assumption
    | decide +kernel
    | (intro x; refine Via.cutLet (m := 0) (s := s) (t := x) ?_ ?_)
    | (refine fun hx => ?_; clear_value x)
    | intro x
    | split
    | (dsimp only [x]; split)
    | (dsimp +zetaDelta only; split)
    | (dsimp only)

theorem State.done_via' {s : State} {a : Option Reply} {t : State} (hop : State.done s = (t, a)) : Via 0 s t := by
  have d := State.done_via s
  rw [hop] at d
  exact d

end Sys2Proof.Machine
end

