-- ==== Sys2Proof/Laws/ViaMbxPort.lean ====
section
/-! SUPPORT. What each operation of Machine/MbxPort.lean can do to the state (see Laws/Via.lean). -/

namespace Sys2Proof.Machine

set_option linter.unusedTactic false
set_option linter.unreachableTactic false
set_option linter.unusedSimpArgs false
set_option linter.unusedVariables false

set_option Elab.async false

theorem execPortStatus_via (ch : Nat) (s : State) : ∃ t, execPortStatus ch s = .next t ∧ Via 462524891179601888 s t := by
  refine ⟨_, rfl, ?_⟩
  repeat' first
    | with_reducible exact Via.refl _
    | with_reducible assumption
    | decide +kernel
    | (intro x; refine Via.cutLet (m := 462524891179601888) (s := s) (t := x) ?_ ?_)
    | (refine fun hx => ?_; clear_value x)
    | intro x
    | with_reducible apply Via.then (State.maskRead_via ..)
    | with_reducible refine Via.then (State.maskRead_via' (by assumption)) (by decide +kernel) ?_
    | (with_reducible refine State.command_via _ _ _ _ (by decide +kernel) (fun s _ => ?_) ?_ <;> beta_reduce)
    | (dsimp +zetaDelta only [portWords]; split <;> decide +kernel)
    | (split <;> decide +kernel)
    | split
    | (dsimp only [x]; split)
    | (dsimp +zetaDelta only; split)
    | (dsimp only)
    | (dsimp +zetaDelta only)

theorem State.assignCmd_via (k : Nat) (s : State) (p : Nat) : Via 1148338724573020159 s (State.assignCmd k s p).2 := by
  unfold State.assignCmd
  repeat' first
    | with_reducible exact Via.refl _
    | with_reducible assumption
    | decide +kernel
    | (intro x; refine Via.cutLet (m := 1148338724573020159) (s := s) (t := x) ?_ ?_)
    | (refine fun hx => ?_; clear_value x)
    | intro x
    | lift_lets
    | with_reducible apply Via.ite
    | with_reducible apply Via.then (State.fwWrite_via ..)
    | (dsimp +zetaDelta only [assignField]; split <;> decide +kernel)
    | (split <;> decide +kernel)
    | split
    | (dsimp only [x]; split)
    | (dsimp +zetaDelta only; split)
    | (dsimp only)

theorem State.assignCmd_via' {k : Nat} {s : State} {p : Nat} {a : Nat} {t : State} (hop : State.assignCmd k s p = (a, t)) : Via 1148338724573020159 s t := by
  have d := State.assignCmd_via k s p
  rw [hop] at d
  exact d

theorem execPortAssign_via (ch : Nat) (s : State) : ∃ t, execPortAssign ch s = .next t ∧ Via 1148338724573020159 s t := by
  refine ⟨_, rfl, ?_⟩
  repeat' first
    | with_reducible exact Via.refl _
    | with_reducible assumption
    | decide +kernel
    | (intro x; refine Via.cutLet (m := 1148338724573020159) (s := s) (t := x) ?_ ?_)
    | (refine fun hx => ?_; clear_value x)
    | intro x
    | lift_lets
    | with_reducible apply Via.ite
    | (with_reducible refine State.fabricCommand_via _ _ _ (fun s _ => ?_) ?_ <;> beta_reduce)
    | with_reducible apply Via.then (State.assignCmd_via ..)
    | with_reducible refine Via.then (State.assignCmd_via' (by assumption)) (by decide +kernel) ?_
    | (with_reducible refine State.command_via _ _ _ _ (by decide +kernel) (fun s _ => ?_) ?_ <;> beta_reduce)
    | with_reducible apply Via.then (State.refuse_via ..)
    | with_reducible refine Via.then (State.refuse_via' (by assumption)) (by decide +kernel) ?_
    | split
    | (dsimp only [x]; split)
    | (dsimp +zetaDelta only; split)
    | (dsimp only)
    | (dsimp +zetaDelta only)

theorem State.migrateCmd_via (dest : Nat) (keep : Bool) (timeout : Nat) (s : State) (p : Nat) : Via 288230444880101408 s (State.migrateCmd dest keep timeout s p).2 := by
  unfold State.migrateCmd
  repeat' first
    | with_reducible exact Via.refl _
    | with_reducible assumption
    | decide +kernel
    | (intro x; refine Via.cutLet (m := 288230444880101408) (s := s) (t := x) ?_ ?_)
    | (refine fun hx => ?_; clear_value x)
    | intro x
    | lift_lets
    | with_reducible apply Via.ite
    | with_reducible apply Via.then (State.migRefused_via ..)
    | with_reducible apply Via.then (State.migStart_via ..)
    | split
    | (dsimp only [x]; split)
    | (dsimp +zetaDelta only; split)
    | (dsimp only)

theorem State.migrateCmd_via' {dest : Nat} {keep : Bool} {timeout : Nat} {s : State} {p : Nat} {a : Nat} {t : State} (hop : State.migrateCmd dest keep timeout s p = (a, t)) : Via 288230444880101408 s t := by
  have d := State.migrateCmd_via dest keep timeout s p
  rw [hop] at d
  exact d

theorem State.migrateRefused_via (s : State) (bad : Nat) (f : Frame) : Via 288230376160624640 s (State.migrateRefused s bad f) := by
  unfold State.migrateRefused
  repeat' first
    | with_reducible exact Via.refl _
    | with_reducible assumption
    | decide +kernel
    | (intro x; refine Via.cutLet (m := 288230376160624640) (s := s) (t := x) ?_ ?_)
    | (refine fun hx => ?_; clear_value x)
    | intro x
    | with_reducible apply Via.ite
    | with_reducible apply Via.then (State.migRefused_via ..)
    | (with_reducible refine Via.each _ _ (fun s _ => ?_) ?_)
    | split
    | (dsimp only [x]; split)
    | (dsimp +zetaDelta only; split)
    | (dsimp only)

theorem execPortMigrate_via (ch : Nat) (s : State) : ∃ t, execPortMigrate ch s = .next t ∧ Via 318409703103746016 s t := by
  refine ⟨_, rfl, ?_⟩
  repeat' first
    | with_reducible exact Via.refl _
    | with_reducible assumption
    | decide +kernel
    | (intro x; refine Via.cutLet (m := 318409703103746016) (s := s) (t := x) ?_ ?_)
    | (refine fun hx => ?_; clear_value x)
    | intro x
    | lift_lets
    | with_reducible apply Via.ite
    | with_reducible apply Via.then (State.migrateRefused_via ..)
    | with_reducible apply Via.then (State.migrateCmd_via ..)
    | with_reducible refine Via.then (State.migrateCmd_via' (by assumption)) (by decide +kernel) ?_
    | (with_reducible refine State.maskJudge_via _ _ _ (fun s _ => ?_) ?_ <;> beta_reduce)
    | (with_reducible refine State.command_via _ _ _ _ (by decide +kernel) (fun s _ => ?_) ?_ <;> beta_reduce)
    | with_reducible apply Via.then (State.refuse_via ..)
    | with_reducible refine Via.then (State.refuse_via' (by assumption)) (by decide +kernel) ?_
    | split
    | (dsimp only [x]; split)
    | (dsimp +zetaDelta only; split)
    | (dsimp only)
    | (dsimp +zetaDelta only)

theorem execPortIsolate_via (ch : Nat) (s : State) : ∃ t, execPortIsolate ch s = .next t ∧ Via 1148338724573020159 s t := by
  refine ⟨_, rfl, ?_⟩
  repeat' first
    | with_reducible exact Via.refl _
    | with_reducible assumption
    | decide +kernel
    | (intro x; refine Via.cutLet (m := 1148338724573020159) (s := s) (t := x) ?_ ?_)
    | (refine fun hx => ?_; clear_value x)
    | intro x
    | (with_reducible refine State.fabricCommand_via _ _ _ (fun s _ => ?_) ?_ <;> beta_reduce)
    | (with_reducible refine State.command_via _ _ _ _ (by decide +kernel) (fun s _ => ?_) ?_ <;> beta_reduce)
    | with_reducible apply Via.then (State.fwWrite_via ..)
    | split
    | (dsimp only [x]; split)
    | (dsimp +zetaDelta only; split)
    | (dsimp only)
    | (dsimp +zetaDelta only)

theorem execPortRestore_via (ch : Nat) (s : State) : ∃ t, execPortRestore ch s = .next t ∧ Via 1148338724573020159 s t := by
  refine ⟨_, rfl, ?_⟩
  repeat' first
    | with_reducible exact Via.refl _
    | with_reducible assumption
    | decide +kernel
    | (intro x; refine Via.cutLet (m := 1148338724573020159) (s := s) (t := x) ?_ ?_)
    | (refine fun hx => ?_; clear_value x)
    | intro x
    | (with_reducible refine State.fabricCommand_via _ _ _ (fun s _ => ?_) ?_ <;> beta_reduce)
    | (with_reducible refine State.command_via _ _ _ _ (by decide +kernel) (fun s _ => ?_) ?_ <;> beta_reduce)
    | with_reducible apply Via.then (State.fwWrite_via ..)
    | split
    | (dsimp only [x]; split)
    | (dsimp +zetaDelta only; split)
    | (dsimp only)
    | (dsimp +zetaDelta only)

theorem execPortQuarantine_via (ch : Nat) (s : State) : ∃ t, execPortQuarantine ch s = .next t ∧ Via 1148338724573020159 s t := by
  refine ⟨_, rfl, ?_⟩
  repeat' first
    | with_reducible exact Via.refl _
    | with_reducible assumption
    | decide +kernel
    | (intro x; refine Via.cutLet (m := 1148338724573020159) (s := s) (t := x) ?_ ?_)
    | (refine fun hx => ?_; clear_value x)
    | intro x
    | (with_reducible refine State.fabricCommand_via _ _ _ (fun s _ => ?_) ?_ <;> beta_reduce)
    | (with_reducible refine State.command_via _ _ _ _ (by decide +kernel) (fun s _ => ?_) ?_ <;> beta_reduce)
    | with_reducible apply Via.then (State.fwWrite_via ..)
    | split
    | (dsimp only [x]; split)
    | (dsimp +zetaDelta only; split)
    | (dsimp only)
    | (dsimp +zetaDelta only)

theorem execPortQuarantineRelease_via (ch : Nat) (s : State) : ∃ t, execPortQuarantineRelease ch s = .next t ∧ Via 1148338724573020159 s t := by
  refine ⟨_, rfl, ?_⟩
  repeat' first
    | with_reducible exact Via.refl _
    | with_reducible assumption
    | decide +kernel
    | (intro x; refine Via.cutLet (m := 1148338724573020159) (s := s) (t := x) ?_ ?_)
    | (refine fun hx => ?_; clear_value x)
    | intro x
    | with_reducible apply Via.ite
    | (with_reducible refine State.fabricCommand_via _ _ _ (fun s _ => ?_) ?_ <;> beta_reduce)
    | (with_reducible refine State.command_via _ _ _ _ (by decide +kernel) (fun s _ => ?_) ?_ <;> beta_reduce)
    | with_reducible apply Via.then (State.fwWrite_via ..)
    | split
    | (dsimp only [x]; split)
    | (dsimp +zetaDelta only; split)
    | (dsimp only)
    | (dsimp +zetaDelta only)

theorem execPortSelftest_via (ch : Nat) (s : State) : ∃ t, execPortSelftest ch s = .next t ∧ Via 1148338724573020159 s t := by
  refine ⟨_, rfl, ?_⟩
  repeat' first
    | with_reducible exact Via.refl _
    | with_reducible assumption
    | decide +kernel
    | (intro x; refine Via.cutLet (m := 1148338724573020159) (s := s) (t := x) ?_ ?_)
    | (refine fun hx => ?_; clear_value x)
    | intro x
    | with_reducible apply Via.ite
    | with_reducible apply Via.then (State.selfTestStart_via ..)
    | (with_reducible refine State.maskCommand_via _ _ _ (fun s _ => ?_) ?_ <;> beta_reduce)
    | (with_reducible refine State.command_via _ _ _ _ (by decide +kernel) (fun s _ => ?_) ?_ <;> beta_reduce)
    | with_reducible apply Via.then (State.fwWrite_via ..)
    | split
    | (dsimp only [x]; split)
    | (dsimp +zetaDelta only; split)
    | (dsimp only)
    | (dsimp +zetaDelta only)

theorem execPortSelftestResults_via (ch : Nat) (s : State) : ∃ t, execPortSelftestResults ch s = .next t ∧ Via 462524891179601888 s t := by
  refine ⟨_, rfl, ?_⟩
  repeat' first
    | with_reducible exact Via.refl _
    | with_reducible assumption
    | decide +kernel
    | (intro x; refine Via.cutLet (m := 462524891179601888) (s := s) (t := x) ?_ ?_)
    | (refine fun hx => ?_; clear_value x)
    | intro x
    | with_reducible apply Via.then (State.maskRead_via ..)
    | with_reducible refine Via.then (State.maskRead_via' (by assumption)) (by decide +kernel) ?_
    | (with_reducible refine State.command_via _ _ _ _ (by decide +kernel) (fun s _ => ?_) ?_ <;> beta_reduce)
    | split
    | (dsimp only [x]; split)
    | (dsimp +zetaDelta only; split)
    | (dsimp only)
    | (dsimp +zetaDelta only)

theorem State.glitchCmd_via (cfg gap win : Nat) (s : State) (p : Nat) : Via 1148338724573020159 s (State.glitchCmd cfg gap win s p).2 := by
  unfold State.glitchCmd
  repeat' first
    | with_reducible exact Via.refl _
    | with_reducible assumption
    | decide +kernel
    | (intro x; refine Via.cutLet (m := 1148338724573020159) (s := s) (t := x) ?_ ?_)
    | (refine fun hx => ?_; clear_value x)
    | intro x
    | lift_lets
    | with_reducible apply Via.ite
    | with_reducible apply Via.then (State.glitchStart_via ..)
    | with_reducible apply Via.then (State.fwGroup_via ..)
    | split
    | (dsimp only [x]; split)
    | (dsimp +zetaDelta only; split)
    | (dsimp only)

theorem State.glitchCmd_via' {cfg gap win : Nat} {s : State} {p : Nat} {a : Nat} {t : State} (hop : State.glitchCmd cfg gap win s p = (a, t)) : Via 1148338724573020159 s t := by
  have d := State.glitchCmd_via cfg gap win s p
  rw [hop] at d
  exact d

theorem execPortGlitch_via (ch : Nat) (s : State) : ∃ t, execPortGlitch ch s = .next t ∧ Via 1148338724573020159 s t := by
  refine ⟨_, rfl, ?_⟩
  repeat' first
    | with_reducible exact Via.refl _
    | with_reducible assumption
    | decide +kernel
    | (intro x; refine Via.cutLet (m := 1148338724573020159) (s := s) (t := x) ?_ ?_)
    | (refine fun hx => ?_; clear_value x)
    | intro x
    | (with_reducible refine State.fabricCommand_via _ _ _ (fun s _ => ?_) ?_ <;> beta_reduce)
    | with_reducible apply Via.then (State.glitchCmd_via ..)
    | with_reducible refine Via.then (State.glitchCmd_via' (by assumption)) (by decide +kernel) ?_
    | (with_reducible refine State.command_via _ _ _ _ (by decide +kernel) (fun s _ => ?_) ?_ <;> beta_reduce)
    | split
    | (dsimp only [x]; split)
    | (dsimp +zetaDelta only; split)
    | (dsimp only)
    | (dsimp +zetaDelta only)

theorem execPortVbus_via (ch : Nat) (s : State) : ∃ t, execPortVbus ch s = .next t ∧ Via 1148338724573020159 s t := by
  refine ⟨_, rfl, ?_⟩
  repeat' first
    | with_reducible exact Via.refl _
    | with_reducible assumption
    | decide +kernel
    | (intro x; refine Via.cutLet (m := 1148338724573020159) (s := s) (t := x) ?_ ?_)
    | (refine fun hx => ?_; clear_value x)
    | intro x
    | lift_lets
    | with_reducible apply Via.ite
    | (with_reducible refine State.maskCommand_via _ _ _ (fun s _ => ?_) ?_ <;> beta_reduce)
    | (with_reducible refine State.command_via _ _ _ _ (by decide +kernel) (fun s _ => ?_) ?_ <;> beta_reduce)
    | with_reducible apply Via.then (State.fwWrite_via ..)
    | with_reducible apply Via.then (State.refuse_via ..)
    | with_reducible refine Via.then (State.refuse_via' (by assumption)) (by decide +kernel) ?_
    | split
    | (dsimp only [x]; split)
    | (dsimp +zetaDelta only; split)
    | (dsimp only)
    | (dsimp +zetaDelta only)

theorem execPortLatchclr_via (ch : Nat) (s : State) : ∃ t, execPortLatchclr ch s = .next t ∧ Via 318409703103746016 s t := by
  refine ⟨_, rfl, ?_⟩
  repeat' first
    | with_reducible exact Via.refl _
    | with_reducible assumption
    | decide +kernel
    | (intro x; refine Via.cutLet (m := 318409703103746016) (s := s) (t := x) ?_ ?_)
    | (refine fun hx => ?_; clear_value x)
    | intro x
    | with_reducible apply Via.then (State.latchRefused_via ..)
    | (with_reducible refine State.maskCommand_via _ _ _ (fun s _ => ?_) ?_ <;> beta_reduce)
    | with_reducible refine Via.then (State.clearLatch_via' (by assumption)) (by decide +kernel) ?_
    | with_reducible apply Via.then (State.clearLatch_via ..)
    | (with_reducible refine State.command_via _ _ _ _ (by decide +kernel) (fun s _ => ?_) ?_ <;> beta_reduce)
    | (dsimp +zetaDelta only []; split <;> decide +kernel)
    | (split <;> decide +kernel)
    | split
    | (dsimp only [x]; split)
    | (dsimp +zetaDelta only; split)
    | (dsimp only)
    | (dsimp +zetaDelta only)

theorem State.ccCmd_via (values mask acts : Nat) (s : State) (p : Nat) : Via 1148338724573020159 s (State.ccCmd values mask acts s p).2 := by
  unfold State.ccCmd
  repeat' first
    | with_reducible exact Via.refl _
    | with_reducible assumption
    | decide +kernel
    | (intro x; refine Via.cutLet (m := 1148338724573020159) (s := s) (t := x) ?_ ?_)
    | (refine fun hx => ?_; clear_value x)
    | intro x
    | lift_lets
    | with_reducible apply Via.ite
    | with_reducible apply Via.then (State.ccEnableCause_via ..)
    | with_reducible apply Via.then (State.errorRecovery_via ..)
    | with_reducible apply Via.then (State.fwWrite_via ..)
    | with_reducible apply Via.then (State.vcRearm_via ..)
    | with_reducible apply Via.then (State.discGo_via ..)
    | split
    | (dsimp only [x]; split)
    | (dsimp +zetaDelta only; split)
    | (dsimp only)

theorem State.ccCmd_via' {values mask acts : Nat} {s : State} {p : Nat} {a : Nat} {t : State} (hop : State.ccCmd values mask acts s p = (a, t)) : Via 1148338724573020159 s t := by
  have d := State.ccCmd_via values mask acts s p
  rw [hop] at d
  exact d

theorem execPortCc_via (ch : Nat) (s : State) : ∃ t, execPortCc ch s = .next t ∧ Via 1148338724573020159 s t := by
  refine ⟨_, rfl, ?_⟩
  repeat' first
    | with_reducible exact Via.refl _
    | with_reducible assumption
    | decide +kernel
    | (intro x; refine Via.cutLet (m := 1148338724573020159) (s := s) (t := x) ?_ ?_)
    | (refine fun hx => ?_; clear_value x)
    | intro x
    | (with_reducible refine State.maskCommand_via _ _ _ (fun s _ => ?_) ?_ <;> beta_reduce)
    | (with_reducible refine State.command_via _ _ _ _ (by decide +kernel) (fun s _ => ?_) ?_ <;> beta_reduce)
    | with_reducible apply Via.then (State.ccCmd_via ..)
    | with_reducible refine Via.then (State.ccCmd_via' (by assumption)) (by decide +kernel) ?_
    | split
    | (dsimp only [x]; split)
    | (dsimp +zetaDelta only; split)
    | (dsimp only)
    | (dsimp +zetaDelta only)

theorem State.portCfgCmd_via (rst rsm lpm : Nat) (s : State) (p : Nat) : Via 1148338724573020159 s (State.portCfgCmd rst rsm lpm s p).2 := by
  unfold State.portCfgCmd
  repeat' first
    | with_reducible exact Via.refl _
    | with_reducible assumption
    | decide +kernel
    | (intro g; refine Via.cutFun (m := 1148338724573020159) (g := g) (fun s => ?_) ?_; on_goal 1 => dsimp only [g])
    | (intro g; refine Via.cutFunTwo (m := 1148338724573020159) (g := g) (fun s _ => ?_) ?_; on_goal 1 => dsimp only [g])
    | (refine fun hg => ?_; clear_value g)
    | (refine Via.trans ?_ (hg ..))
    | (intro x; refine Via.cutLet (m := 1148338724573020159) (s := s) (t := x) ?_ ?_)
    | (refine fun hx => ?_; clear_value x)
    | intro x
    | lift_lets
    | with_reducible apply Via.ite
    | with_reducible apply Via.then (State.fwWrite_via ..)
    | split
    | (dsimp only [x]; split)
    | (dsimp +zetaDelta only; split)
    | (dsimp only)

theorem State.portCfgCmd_via' {rst rsm lpm : Nat} {s : State} {p : Nat} {a : Nat} {t : State} (hop : State.portCfgCmd rst rsm lpm s p = (a, t)) : Via 1148338724573020159 s t := by
  have d := State.portCfgCmd_via rst rsm lpm s p
  rw [hop] at d
  exact d

theorem execPortCfg_via (ch : Nat) (s : State) : ∃ t, execPortCfg ch s = .next t ∧ Via 1148338724573020159 s t := by
  refine ⟨_, rfl, ?_⟩
  repeat' first
    | with_reducible exact Via.refl _
    | with_reducible assumption
    | decide +kernel
    | (intro x; refine Via.cutLet (m := 1148338724573020159) (s := s) (t := x) ?_ ?_)
    | (refine fun hx => ?_; clear_value x)
    | intro x
    | lift_lets
    | with_reducible apply Via.ite
    | (with_reducible refine State.fabricCommand_via _ _ _ (fun s _ => ?_) ?_ <;> beta_reduce)
    | with_reducible apply Via.then (State.portCfgCmd_via ..)
    | with_reducible refine Via.then (State.portCfgCmd_via' (by assumption)) (by decide +kernel) ?_
    | (with_reducible refine State.command_via _ _ _ _ (by decide +kernel) (fun s _ => ?_) ?_ <;> beta_reduce)
    | with_reducible apply Via.then (State.refuse_via ..)
    | with_reducible refine Via.then (State.refuse_via' (by assumption)) (by decide +kernel) ?_
    | split
    | (dsimp only [x]; split)
    | (dsimp +zetaDelta only; split)
    | (dsimp only)
    | (dsimp +zetaDelta only)

theorem execPortTtalloc_via (ch : Nat) (s : State) : ∃ t, execPortTtalloc ch s = .next t ∧ Via 1148338724573020159 s t := by
  refine ⟨_, rfl, ?_⟩
  repeat' first
    | with_reducible exact Via.refl _
    | with_reducible assumption
    | decide +kernel
    | (intro x; refine Via.cutLet (m := 1148338724573020159) (s := s) (t := x) ?_ ?_)
    | (refine fun hx => ?_; clear_value x)
    | intro x
    | lift_lets
    | with_reducible apply Via.setFld
    | with_reducible apply Via.ite
    | (with_reducible refine State.command_via _ _ _ _ (by decide +kernel) (fun s _ => ?_) ?_ <;> beta_reduce)
    | with_reducible apply Via.then (State.fwGroup_via ..)
    | with_reducible apply Via.then (State.refuse_via ..)
    | with_reducible refine Via.then (State.refuse_via' (by assumption)) (by decide +kernel) ?_
    | with_reducible apply Via.then (State.give_via ..)
    | with_reducible refine Via.then (State.give_via' (by assumption)) (by decide +kernel) ?_
    | (with_reducible refine Via.foldlFst _ _ _ (fun p _ => ?_) ?_ <;> dsimp only)
    | (with_reducible refine Via.foldlThen _ _ (fun s _ => ?_) ?_)
    | exact land_allRegs (by decide +kernel) _
    | split
    | (dsimp only [x]; split)
    | (dsimp +zetaDelta only; split)
    | (dsimp only)
    | (dsimp +zetaDelta only)

end Sys2Proof.Machine
end

