-- ==== Sys2Proof/Laws/ViaMbxFault.lean ====
section
/-! SUPPORT. What each operation of Machine/MbxFault.lean can do to the state (see Laws/Via.lean). -/

namespace Sys2Proof.Machine

set_option linter.unusedTactic false
set_option linter.unreachableTactic false
set_option linter.unusedSimpArgs false
set_option linter.unusedVariables false

set_option Elab.async false

theorem execFaultStatus_via (ch : Nat) (s : State) : ∃ t, execFaultStatus ch s = .next t ∧ Via 318409703103746016 s t := by
  refine ⟨_, rfl, ?_⟩
  repeat' first
    | with_reducible exact Via.refl _
    | with_reducible assumption
    | decide +kernel
    | (intro x; refine Via.cutLet (m := 318409703103746016) (s := s) (t := x) ?_ ?_)
    | (refine fun hx => ?_; clear_value x)
    | intro x
    | lift_lets
    | with_reducible apply Via.ite
    | (with_reducible refine State.command_via _ _ _ _ (by decide +kernel) (fun s _ => ?_) ?_ <;> beta_reduce)
    | with_reducible apply Via.then (State.refuse_via ..)
    | with_reducible refine Via.then (State.refuse_via' (by assumption)) (by decide +kernel) ?_
    | with_reducible apply Via.then (State.give_via ..)
    | with_reducible refine Via.then (State.give_via' (by assumption)) (by decide +kernel) ?_
    | split
    | (dsimp only [x]; split)
    | (dsimp +zetaDelta only; split)
    | (dsimp only)
    | (dsimp +zetaDelta only)

theorem execFaultStatusList_via (ch : Nat) (s : State) : ∃ t, execFaultStatusList ch s = .next t ∧ Via 318409703103746016 s t := by
  refine ⟨_, rfl, ?_⟩
  repeat' first
    | with_reducible exact Via.refl _
    | with_reducible assumption
    | decide +kernel
    | (intro x; refine Via.cutLet (m := 318409703103746016) (s := s) (t := x) ?_ ?_)
    | (refine fun hx => ?_; clear_value x)
    | intro x
    | (with_reducible refine State.command_via _ _ _ _ (by decide +kernel) (fun s _ => ?_) ?_ <;> beta_reduce)
    | with_reducible apply Via.then (State.give_via ..)
    | with_reducible refine Via.then (State.give_via' (by assumption)) (by decide +kernel) ?_
    | split
    | (dsimp only [x]; split)
    | (dsimp +zetaDelta only; split)
    | (dsimp only)
    | (dsimp +zetaDelta only)

theorem execFaultCfg_via (ch : Nat) (s : State) : ∃ t, execFaultCfg ch s = .next t ∧ Via 462524891179601888 s t := by
  refine ⟨_, rfl, ?_⟩
  repeat' first
    | with_reducible exact Via.refl _
    | with_reducible assumption
    | decide +kernel
    | (intro x; refine Via.cutLet (m := 462524891179601888) (s := s) (t := x) ?_ ?_)
    | (refine fun hx => ?_; clear_value x)
    | intro x
    | lift_lets
    | with_reducible apply Via.ite
    | with_reducible apply Via.then (State.fcConfigure_via ..)
    | (with_reducible refine State.command_via _ _ _ _ (by decide +kernel) (fun s _ => ?_) ?_ <;> beta_reduce)
    | with_reducible apply Via.then (State.refuse_via ..)
    | with_reducible refine Via.then (State.refuse_via' (by assumption)) (by decide +kernel) ?_
    | with_reducible apply Via.then (State.done_via ..)
    | with_reducible refine Via.then (State.done_via' (by assumption)) (by decide +kernel) ?_
    | split
    | (dsimp only [x]; split)
    | (dsimp +zetaDelta only; split)
    | (dsimp only)
    | (dsimp +zetaDelta only)

theorem State.clearEach_via (s : State) (l : List Nat) : Via 432628138762568192 s (State.clearEach s l).1 := by
  induction l generalizing s with
  | nil => exact .refl _
  | cons a l ih => exact (Via.then (State.fcClear_via ..) (by decide +kernel) (.refl _)).trans (ih _)

theorem execFaultClear_via (ch : Nat) (s : State) : ∃ t, execFaultClear ch s = .next t ∧ Via 462524891183796192 s t := by
  refine ⟨_, rfl, ?_⟩
  repeat' first
    | with_reducible exact Via.refl _
    | with_reducible assumption
    | decide +kernel
    | (intro x; refine Via.cutLet (m := 462524891183796192) (s := s) (t := x) ?_ ?_)
    | (refine fun hx => ?_; clear_value x)
    | intro x
    | lift_lets
    | with_reducible apply Via.ite
    | with_reducible apply Via.then (State.clearEach_via ..)
    | (with_reducible refine State.command_via _ _ _ _ (by decide +kernel) (fun s _ => ?_) ?_ <;> beta_reduce)
    | with_reducible apply Via.then (State.refuse_via ..)
    | with_reducible refine Via.then (State.refuse_via' (by assumption)) (by decide +kernel) ?_
    | with_reducible apply Via.then (State.give_via ..)
    | with_reducible refine Via.then (State.give_via' (by assumption)) (by decide +kernel) ?_
    | split
    | (dsimp only [x]; split)
    | (dsimp +zetaDelta only; split)
    | (dsimp only)
    | (dsimp +zetaDelta only)

theorem execFaultInject_via (ch : Nat) (s : State) : ∃ t, execFaultInject ch s = .next t ∧ Via 2305843009213693951 s t := by
  refine ⟨_, rfl, ?_⟩
  repeat' first
    | with_reducible exact Via.refl _
    | with_reducible assumption
    | decide +kernel
    | (intro x; refine Via.cutLet (m := 2305843009213693951) (s := s) (t := x) ?_ ?_)
    | (refine fun hx => ?_; clear_value x)
    | intro x
    | lift_lets
    | with_reducible apply Via.ite
    | with_reducible apply Via.then (State.fcInjectEvent_via ..)
    | with_reducible apply Via.then (State.fcInjectWire_via ..)
    | (with_reducible refine State.command_via _ _ _ _ (by decide +kernel) (fun s _ => ?_) ?_ <;> beta_reduce)
    | with_reducible apply Via.then (State.refuse_via ..)
    | with_reducible refine Via.then (State.refuse_via' (by assumption)) (by decide +kernel) ?_
    | with_reducible apply Via.then (State.give_via ..)
    | with_reducible refine Via.then (State.give_via' (by assumption)) (by decide +kernel) ?_
    | split
    | (dsimp only [x]; split)
    | (dsimp +zetaDelta only; split)
    | (dsimp only)
    | (dsimp +zetaDelta only)

theorem execFaultSelftest_via (ch : Nat) (s : State) : ∃ t, execFaultSelftest ch s = .next t ∧ Via 318409703107940320 s t := by
  refine ⟨_, rfl, ?_⟩
  repeat' first
    | with_reducible exact Via.refl _
    | with_reducible assumption
    | decide +kernel
    | (intro x; refine Via.cutLet (m := 318409703107940320) (s := s) (t := x) ?_ ?_)
    | (refine fun hx => ?_; clear_value x)
    | intro x
    | with_reducible apply Via.ite
    | with_reducible apply Via.then (State.fcSelftest_via ..)
    | (with_reducible refine State.command_via _ _ _ _ (by decide +kernel) (fun s _ => ?_) ?_ <;> beta_reduce)
    | with_reducible apply Via.then (State.refuse_via ..)
    | with_reducible refine Via.then (State.refuse_via' (by assumption)) (by decide +kernel) ?_
    | with_reducible apply Via.then (State.done_via ..)
    | with_reducible refine Via.then (State.done_via' (by assumption)) (by decide +kernel) ?_
    | split
    | (dsimp only [x]; split)
    | (dsimp +zetaDelta only; split)
    | (dsimp only)
    | (dsimp +zetaDelta only)

theorem execFaultSummary_via (ch : Nat) (s : State) : ∃ t, execFaultSummary ch s = .next t ∧ Via 318409703103746016 s t := by
  refine ⟨_, rfl, ?_⟩
  repeat' first
    | with_reducible exact Via.refl _
    | with_reducible assumption
    | decide +kernel
    | (intro x; refine Via.cutLet (m := 318409703103746016) (s := s) (t := x) ?_ ?_)
    | (refine fun hx => ?_; clear_value x)
    | intro x
    | (with_reducible refine State.command_via _ _ _ _ (by decide +kernel) (fun s _ => ?_) ?_ <;> beta_reduce)
    | with_reducible apply Via.then (State.give_via ..)
    | with_reducible refine Via.then (State.give_via' (by assumption)) (by decide +kernel) ?_
    | split
    | (dsimp only [x]; split)
    | (dsimp +zetaDelta only; split)
    | (dsimp only)
    | (dsimp +zetaDelta only)

theorem State.gather_via (s : State) (f : Frame) : Via 562950087639040 s (State.gather s f) := by
  unfold State.gather
  repeat' first
    | with_reducible exact Via.refl _
    | with_reducible assumption
    | decide +kernel
    | (intro x; refine Via.cutLet (m := 562950087639040) (s := s) (t := x) ?_ ?_)
    | (refine fun hx => ?_; clear_value x)
    | intro x
    | lift_lets
    | with_reducible apply Via.ite
    | with_reducible apply Via.then (State.keepSummary_via ..)
    | with_reducible apply Via.then (State.chordSend_via ..)
    | with_reducible apply Via.then (State.updMerge_via ..)
    | (dsimp +zetaDelta only []; split <;> decide +kernel)
    | (split <;> decide +kernel)
    | split
    | (dsimp only [x]; split)
    | (dsimp +zetaDelta only; split)
    | (dsimp only)

theorem execGather_via (ch : Nat) (s : State) : ∃ t, execGather ch s = .next t ∧ Via 318409703103746016 s t := by
  refine ⟨_, rfl, ?_⟩
  repeat' first
    | with_reducible exact Via.refl _
    | with_reducible assumption
    | decide +kernel
    | (intro x; refine Via.cutLet (m := 318409703103746016) (s := s) (t := x) ?_ ?_)
    | (refine fun hx => ?_; clear_value x)
    | intro x
    | (with_reducible refine State.command_via _ _ _ _ (by decide +kernel) (fun s _ => ?_) ?_ <;> beta_reduce)
    | with_reducible apply Via.then (State.gather_via ..)
    | with_reducible apply Via.then (State.give_via ..)
    | with_reducible refine Via.then (State.give_via' (by assumption)) (by decide +kernel) ?_
    | split
    | (dsimp only [x]; split)
    | (dsimp +zetaDelta only; split)
    | (dsimp only)
    | (dsimp +zetaDelta only)

theorem execFaultLog_via (ch : Nat) (s : State) : ∃ t, execFaultLog ch s = .next t ∧ Via 318409703103746016 s t := by
  refine ⟨_, rfl, ?_⟩
  repeat' first
    | with_reducible exact Via.refl _
    | with_reducible assumption
    | decide +kernel
    | (intro x; refine Via.cutLet (m := 318409703103746016) (s := s) (t := x) ?_ ?_)
    | (refine fun hx => ?_; clear_value x)
    | intro x
    | lift_lets
    | with_reducible apply Via.ite
    | (with_reducible refine State.command_via _ _ _ _ (by decide +kernel) (fun s _ => ?_) ?_ <;> beta_reduce)
    | with_reducible apply Via.then (State.refuse_via ..)
    | with_reducible refine Via.then (State.refuse_via' (by assumption)) (by decide +kernel) ?_
    | with_reducible apply Via.then (State.give_via ..)
    | with_reducible refine Via.then (State.give_via' (by assumption)) (by decide +kernel) ?_
    | split
    | (dsimp only [x]; split)
    | (dsimp +zetaDelta only; split)
    | (dsimp only)
    | (dsimp +zetaDelta only)

theorem execCalExport_via (ch : Nat) (s : State) : ∃ t, execCalExport ch s = .next t ∧ Via 390467297158451168 s t := by
  refine ⟨_, rfl, ?_⟩
  repeat' first
    | with_reducible exact Via.refl _
    | with_reducible assumption
    | decide +kernel
    | (intro x; refine Via.cutLet (m := 390467297158451168) (s := s) (t := x) ?_ ?_)
    | (refine fun hx => ?_; clear_value x)
    | intro x
    | lift_lets
    | with_reducible apply Via.put
    | with_reducible apply Via.ite
    | (with_reducible refine State.command_via _ _ _ _ (by decide +kernel) (fun s _ => ?_) ?_ <;> beta_reduce)
    | with_reducible apply Via.then (State.updHw_via ..)
    | with_reducible apply Via.then (State.give_via ..)
    | with_reducible refine Via.then (State.give_via' (by assumption)) (by decide +kernel) ?_
    | split
    | (dsimp only [x]; split)
    | (dsimp +zetaDelta only; split)
    | (dsimp only)
    | (dsimp +zetaDelta only)

theorem execCalWrite_via (ch : Nat) (s : State) : ∃ t, execCalWrite ch s = .next t ∧ Via 390467297158451168 s t := by
  refine ⟨_, rfl, ?_⟩
  repeat' first
    | with_reducible exact Via.refl _
    | with_reducible assumption
    | decide +kernel
    | (intro x; refine Via.cutLet (m := 390467297158451168) (s := s) (t := x) ?_ ?_)
    | (refine fun hx => ?_; clear_value x)
    | intro x
    | lift_lets
    | with_reducible apply Via.put
    | with_reducible apply Via.ite
    | (with_reducible refine State.command_via _ _ _ _ (by decide +kernel) (fun s _ => ?_) ?_ <;> beta_reduce)
    | with_reducible apply Via.then (State.updHw_via ..)
    | with_reducible apply Via.then (State.done_via ..)
    | with_reducible refine Via.then (State.done_via' (by assumption)) (by decide +kernel) ?_
    | split
    | (dsimp only [x]; split)
    | (dsimp +zetaDelta only; split)
    | (dsimp only)
    | (dsimp +zetaDelta only)

theorem execCalWriteCommit_via (ch : Nat) (s : State) : ∃ t, execCalWriteCommit ch s = .next t ∧ Via 390467297158451168 s t := by
  refine ⟨_, rfl, ?_⟩
  repeat' first
    | with_reducible exact Via.refl _
    | with_reducible assumption
    | decide +kernel
    | (intro x; refine Via.cutLet (m := 390467297158451168) (s := s) (t := x) ?_ ?_)
    | (refine fun hx => ?_; clear_value x)
    | intro x
    | lift_lets
    | with_reducible apply Via.put
    | with_reducible apply Via.ite
    | (with_reducible refine State.command_via _ _ _ _ (by decide +kernel) (fun s _ => ?_) ?_ <;> beta_reduce)
    | with_reducible apply Via.then (State.refuse_via ..)
    | with_reducible refine Via.then (State.refuse_via' (by assumption)) (by decide +kernel) ?_
    | with_reducible apply Via.then (State.updHw_via ..)
    | with_reducible apply Via.then (State.done_via ..)
    | with_reducible refine Via.then (State.done_via' (by assumption)) (by decide +kernel) ?_
    | split
    | (dsimp only [x]; split)
    | (dsimp +zetaDelta only; split)
    | (dsimp only)
    | (dsimp +zetaDelta only)

theorem State.regRead_via (s : State) (m a n : Nat) : Via 1009148316230803142 s (State.regRead s m a n).1 := by
  induction n generalizing s a with
  | zero => exact .refl _
  | succ n ih =>
    unfold State.regRead
    split
    · exact Via.then (State.violation_via ..) (by decide +kernel) (.refl _)
    · split
      · exact Via.then (State.absentAccess_via ..) (by decide +kernel) (.refl _)
      · split
        · exact .refl _
        · exact (Via.then (State.afterRead_via ..) (by decide +kernel) (.refl _)).trans (ih _ _)

theorem execRegRead_via (ch : Nat) (s : State) : ∃ t, execRegRead ch s = .next t ∧ Via 1038985695024111590 s t := by
  refine ⟨_, rfl, ?_⟩
  repeat' first
    | with_reducible exact Via.refl _
    | with_reducible assumption
    | decide +kernel
    | (intro x; refine Via.cutLet (m := 1038985695024111590) (s := s) (t := x) ?_ ?_)
    | (refine fun hx => ?_; clear_value x)
    | intro x
    | lift_lets
    | with_reducible apply Via.ite
    | (with_reducible refine State.command_via _ _ _ _ (by decide +kernel) (fun s _ => ?_) ?_ <;> beta_reduce)
    | with_reducible apply Via.then (State.regRead_via ..)
    | with_reducible apply Via.then (State.refuse_via ..)
    | with_reducible refine Via.then (State.refuse_via' (by assumption)) (by decide +kernel) ?_
    | with_reducible apply Via.then (State.give_via ..)
    | with_reducible refine Via.then (State.give_via' (by assumption)) (by decide +kernel) ?_
    | split
    | (dsimp only [x]; split)
    | (dsimp +zetaDelta only; split)
    | (dsimp only)
    | (dsimp +zetaDelta only)

theorem State.regWrite_via (s : State) (m : Nat) (l : List (Nat × Nat)) : Via 2305843009213693951 s (State.regWrite s m l).1 := by
  induction l generalizing s with
  | nil => exact .refl _
  | cons e l ih =>
    unfold State.regWrite
    split
    · exact Via.then (State.violation_via ..) (by decide +kernel) (.refl _)
    · split
      · exact Via.then (State.absentAccess_via ..) (by decide +kernel) (.refl _)
      · split
        · exact .refl _
        · exact (Via.then (State.store_via ..) (by decide +kernel) (.refl _)).trans (ih _)

theorem State.setHold_via (s : State) (h : Home) (b : Bool) : Via 134217727 s (State.setHold s h b) := by
  unfold State.setHold
  repeat' first
    | with_reducible exact Via.refl _
    | with_reducible assumption
    | decide +kernel
    | (intro x; refine Via.cutLet (m := 134217727) (s := s) (t := x) ?_ ?_)
    | (refine fun hx => ?_; clear_value x)
    | intro x
    | with_reducible apply Via.put
    | with_reducible apply Via.ite
    | (dsimp +zetaDelta only [holdSlot]; split <;> decide +kernel)
    | (split <;> decide +kernel)
    | exact land_allRegs (by decide +kernel) _
    | split
    | (dsimp only [x]; split)
    | (dsimp +zetaDelta only; split)
    | (dsimp only)

theorem State.regWriteHeld_via (s : State) (m : Nat) (h : Home) (l : List (Nat × Nat)) : Via 2305843009213693951 s (State.regWriteHeld s m h l).1 := by
  unfold State.regWriteHeld
  repeat' first
    | with_reducible exact Via.refl _
    | with_reducible assumption
    | decide +kernel
    | (intro x; refine Via.cutLet (m := 2305843009213693951) (s := s) (t := x) ?_ ?_)
    | (refine fun hx => ?_; clear_value x)
    | intro x
    | lift_lets
    | with_reducible apply Via.then (State.holdReleased_via ..)
    | with_reducible apply Via.then (State.regWrite_via ..)
    | with_reducible apply Via.then (State.setHold_via ..)
    | split
    | (dsimp only [x]; split)
    | (dsimp +zetaDelta only; split)
    | (dsimp only)
    | (dsimp +zetaDelta only)

theorem State.regWriteHeld_via' {s : State} {m : Nat} {h : Home} {l : List (Nat × Nat)} {a : Nat} {t : State} (hop : State.regWriteHeld s m h l = (t, a)) : Via 2305843009213693951 s t := by
  have d := State.regWriteHeld_via s m h l
  rw [hop] at d
  exact d

theorem execRegWrite_via (ch : Nat) (s : State) :
    ∀ t, execRegWrite ch s = .next t → Via 2305843009213693951 s t := by
  intro t ht
  obtain ⟨-, rfl⟩ := orUnpredictable_next ht
  clear ht
  repeat' first
    | with_reducible exact Via.refl _
    | with_reducible assumption
    | decide +kernel
    | (intro g; refine Via.cutFun (m := 2305843009213693951) (g := g) (fun s => ?_) ?_; on_goal 1 => dsimp only [g])
    | (intro g; refine Via.cutFunTwo (m := 2305843009213693951) (g := g) (fun s _ => ?_) ?_; on_goal 1 => dsimp only [g])
    | (refine fun hg => ?_; clear_value g)
    | (refine Via.trans ?_ (hg ..))
    | (intro x; refine Via.cutLet (m := 2305843009213693951) (s := s) (t := x) ?_ ?_)
    | (refine fun hx => ?_; clear_value x)
    | intro x
    | lift_lets
    | with_reducible apply Via.ite
    | with_reducible apply Via.then (State.regWriteHeld_via ..)
    | with_reducible refine Via.then (State.regWriteHeld_via' (by assumption)) (by decide +kernel) ?_
    | with_reducible apply Via.then (State.regWrite_via ..)
    | (with_reducible refine State.command_via _ _ _ _ (by decide +kernel) (fun s _ => ?_) ?_ <;> beta_reduce)
    | with_reducible apply Via.then (State.refuse_via ..)
    | with_reducible refine Via.then (State.refuse_via' (by assumption)) (by decide +kernel) ?_
    | with_reducible apply Via.then (State.answer_via ..)
    | with_reducible apply Via.then (State.give_via ..)
    | with_reducible refine Via.then (State.give_via' (by assumption)) (by decide +kernel) ?_
    | (dsimp +zetaDelta only []; split <;> decide +kernel)
    | (split <;> decide +kernel)
    | split
    | (dsimp only [x]; split)
    | (dsimp +zetaDelta only; split)
    | (dsimp only)
    | (dsimp +zetaDelta only)

theorem execChordStatus_via (ch : Nat) (s : State) : ∃ t, execChordStatus ch s = .next t ∧ Via 462524891179601888 s t := by
  refine ⟨_, rfl, ?_⟩
  repeat' first
    | with_reducible exact Via.refl _
    | with_reducible assumption
    | decide +kernel
    | (intro x; refine Via.cutLet (m := 462524891179601888) (s := s) (t := x) ?_ ?_)
    | (refine fun hx => ?_; clear_value x)
    | intro x
    | with_reducible apply Via.then (State.giveRegs_via ..)
    | with_reducible refine Via.then (State.giveRegs_via' (by assumption)) (by decide +kernel) ?_
    | (with_reducible refine State.command_via _ _ _ _ (by decide +kernel) (fun s _ => ?_) ?_ <;> beta_reduce)
    | split
    | (dsimp only [x]; split)
    | (dsimp +zetaDelta only; split)
    | (dsimp only)
    | (dsimp +zetaDelta only)

theorem execChordCfg_via (ch : Nat) (s : State) : ∃ t, execChordCfg ch s = .next t ∧ Via 1148338724573020159 s t := by
  refine ⟨_, rfl, ?_⟩
  repeat' first
    | with_reducible exact Via.refl _
    | with_reducible assumption
    | decide +kernel
    | (intro x; refine Via.cutLet (m := 1148338724573020159) (s := s) (t := x) ?_ ?_)
    | (refine fun hx => ?_; clear_value x)
    | intro x
    | lift_lets
    | with_reducible apply Via.ite
    | (with_reducible refine State.command_via _ _ _ _ (by decide +kernel) (fun s _ => ?_) ?_ <;> beta_reduce)
    | with_reducible apply Via.then (State.fwWrite_via ..)
    | with_reducible apply Via.then (State.refuse_via ..)
    | with_reducible refine Via.then (State.refuse_via' (by assumption)) (by decide +kernel) ?_
    | with_reducible apply Via.then (State.done_via ..)
    | with_reducible refine Via.then (State.done_via' (by assumption)) (by decide +kernel) ?_
    | split
    | (dsimp only [x]; split)
    | (dsimp +zetaDelta only; split)
    | (dsimp only)
    | (dsimp +zetaDelta only)

theorem execChordLink_via (ch : Nat) (s : State) : ∃ t, execChordLink ch s = .next t ∧ Via 1148338724573020159 s t := by
  refine ⟨_, rfl, ?_⟩
  repeat' first
    | with_reducible exact Via.refl _
    | with_reducible assumption
    | decide +kernel
    | (intro x; refine Via.cutLet (m := 1148338724573020159) (s := s) (t := x) ?_ ?_)
    | (refine fun hx => ?_; clear_value x)
    | intro x
    | lift_lets
    | with_reducible apply Via.ite
    | (with_reducible refine State.command_via _ _ _ _ (by decide +kernel) (fun s _ => ?_) ?_ <;> beta_reduce)
    | with_reducible apply Via.then (State.fwWrite_via ..)
    | with_reducible apply Via.then (State.refuse_via ..)
    | with_reducible refine Via.then (State.refuse_via' (by assumption)) (by decide +kernel) ?_
    | with_reducible apply Via.then (State.done_via ..)
    | with_reducible refine Via.then (State.done_via' (by assumption)) (by decide +kernel) ?_
    | split
    | (dsimp only [x]; split)
    | (dsimp +zetaDelta only; split)
    | (dsimp only)
    | (dsimp +zetaDelta only)

theorem execChordGatherRead_via (ch : Nat) (s : State) : ∃ t, execChordGatherRead ch s = .next t ∧ Via 318409703103746016 s t := by
  refine ⟨_, rfl, ?_⟩
  repeat' first
    | with_reducible exact Via.refl _
    | with_reducible assumption
    | decide +kernel
    | (intro x; refine Via.cutLet (m := 318409703103746016) (s := s) (t := x) ?_ ?_)
    | (refine fun hx => ?_; clear_value x)
    | intro x
    | lift_lets
    | with_reducible apply Via.ite
    | (with_reducible refine State.command_via _ _ _ _ (by decide +kernel) (fun s _ => ?_) ?_ <;> beta_reduce)
    | with_reducible apply Via.then (State.refuse_via ..)
    | with_reducible refine Via.then (State.refuse_via' (by assumption)) (by decide +kernel) ?_
    | with_reducible apply Via.then (State.give_via ..)
    | with_reducible refine Via.then (State.give_via' (by assumption)) (by decide +kernel) ?_
    | split
    | (dsimp only [x]; split)
    | (dsimp +zetaDelta only; split)
    | (dsimp only)
    | (dsimp +zetaDelta only)

end Sys2Proof.Machine
end

