-- ==== Sys2Proof/Laws/ViaMbxSys.lean ====
section
/-! SUPPORT. What each operation of Machine/MbxSys.lean can do to the state (see Laws/Via.lean). -/

namespace Sys2Proof.Machine

set_option linter.unusedTactic false
set_option linter.unreachableTactic false
set_option linter.unusedSimpArgs false
set_option linter.unusedVariables false

set_option Elab.async false

theorem execSysInfo_via (ch : Nat) (s : State) : ∃ t, execSysInfo ch s = .next t ∧ Via 318409703103746016 s t := by
  refine ⟨_, rfl, ?_⟩
  repeat' first
    | with_reducible exact Via.refl _
    | with_reducible assumption
    | decide +kernel
    | (intro x; refine Via.cutLet (m := 318409703103746016) (s := s) (t := x) ?_ ?_)
    | (refine fun hx => ?_; clear_value x)
    | intro x
    | (with_reducible refine State.command_via _ _ _ _ (by decide +kernel) (fun s _ => ?_) ?_ <;> beta_reduce)
    | with_reducible apply Via.then (State.give_via ..)
    | with_reducible refine Via.then (State.give_via' (by assumption)) (by decide +kernel) ?_
    | split
    | (dsimp only [x]; split)
    | (dsimp +zetaDelta only; split)
    | (dsimp only)
    | (dsimp +zetaDelta only)

theorem execSysReset_via (ch : Nat) (s : State) : ∃ t, execSysReset ch s = .next t ∧ Via 318409704177487840 s t := by
  refine ⟨_, rfl, ?_⟩
  repeat' first
    | with_reducible exact Via.refl _
    | with_reducible assumption
    | decide +kernel
    | (intro x; refine Via.cutLet (m := 318409704177487840) (s := s) (t := x) ?_ ?_)
    | (refine fun hx => ?_; clear_value x)
    | intro x
    | with_reducible apply Via.ite
    | (with_reducible refine State.command_via _ _ _ _ (by decide +kernel) (fun s _ => ?_) ?_ <;> beta_reduce)
    | with_reducible apply Via.then (State.refuse_via ..)
    | with_reducible refine Via.then (State.refuse_via' (by assumption)) (by decide +kernel) ?_
    | with_reducible apply Via.then (State.done_via ..)
    | with_reducible refine Via.then (State.done_via' (by assumption)) (by decide +kernel) ?_
    | split
    | (dsimp only [x]; split)
    | (dsimp +zetaDelta only; split)
    | with_reducible apply Via.set_power
    | (dsimp only)
    | (dsimp +zetaDelta only)

theorem State.dormantBegins_via (s : State) (wake : Nat) : Via 300395339558113251 s (State.dormantBegins s wake) := by
  unfold State.dormantBegins
  repeat' first
    | with_reducible exact Via.refl _
    | with_reducible assumption
    | decide +kernel
    | (intro x; refine Via.cutLet (m := 300395339558113251) (s := s) (t := x) ?_ ?_)
    | (refine fun hx => ?_; clear_value x)
    | intro x
    | lift_lets
    | with_reducible apply Via.setFld
    | with_reducible apply Via.put
    | with_reducible apply Via.ite
    | with_reducible apply Via.then (State.setDomRequest_via ..)
    | with_reducible apply Via.then (State.tatDiscard_via ..)
    | with_reducible apply Via.then (State.domsFollow_via ..)
    | with_reducible apply Via.then (State.chordHush_via ..)
    | with_reducible apply Via.then (State.chordSend_via ..)
    | (with_reducible refine Via.each _ _ (fun s _ => ?_) ?_)
    | split
    | (dsimp only [x]; split)
    | (dsimp +zetaDelta only; split)
    | with_reducible apply Via.set_power
    | (dsimp only)

theorem execSysDormant_via (ch : Nat) (s : State) : ∃ t, execSysDormant ch s = .next t ∧ Via 318409738537357283 s t := by
  refine ⟨_, rfl, ?_⟩
  repeat' first
    | with_reducible exact Via.refl _
    | with_reducible assumption
    | decide +kernel
    | (intro x; refine Via.cutLet (m := 318409738537357283) (s := s) (t := x) ?_ ?_)
    | (refine fun hx => ?_; clear_value x)
    | intro x
    | lift_lets
    | with_reducible apply Via.ite
    | with_reducible apply Via.then (State.dormantBegins_via ..)
    | (with_reducible refine State.command_via _ _ _ _ (by decide +kernel) (fun s _ => ?_) ?_ <;> beta_reduce)
    | with_reducible apply Via.then (State.refuse_via ..)
    | with_reducible refine Via.then (State.refuse_via' (by assumption)) (by decide +kernel) ?_
    | with_reducible apply Via.then (State.done_via ..)
    | with_reducible refine Via.then (State.done_via' (by assumption)) (by decide +kernel) ?_
    | split
    | (dsimp only [x]; split)
    | (dsimp +zetaDelta only; split)
    | (dsimp only)
    | (dsimp +zetaDelta only)

theorem execSysDomain_via (ch : Nat) (s : State) : ∃ t, execSysDomain ch s = .next t ∧ Via 318409737463615457 s t := by
  refine ⟨_, rfl, ?_⟩
  repeat' first
    | with_reducible exact Via.refl _
    | with_reducible assumption
    | decide +kernel
    | (intro x; refine Via.cutLet (m := 318409737463615457) (s := s) (t := x) ?_ ?_)
    | (refine fun hx => ?_; clear_value x)
    | intro x
    | lift_lets
    | with_reducible apply Via.ite
    | with_reducible apply Via.then (State.setDomRequest_via ..)
    | with_reducible apply Via.then (State.domsFollow_via ..)
    | (with_reducible refine State.command_via _ _ _ _ (by decide +kernel) (fun s _ => ?_) ?_ <;> beta_reduce)
    | with_reducible apply Via.then (State.refuse_via ..)
    | with_reducible refine Via.then (State.refuse_via' (by assumption)) (by decide +kernel) ?_
    | with_reducible apply Via.then (State.give_via ..)
    | with_reducible refine Via.then (State.give_via' (by assumption)) (by decide +kernel) ?_
    | (with_reducible refine Via.each _ _ (fun s _ => ?_) ?_)
    | split
    | (dsimp only [x]; split)
    | (dsimp +zetaDelta only; split)
    | (dsimp only)
    | (dsimp +zetaDelta only)

theorem execSysPart_via (ch : Nat) (s : State) : ∃ t, execSysPart ch s = .next t ∧ Via 1148338724573020159 s t := by
  refine ⟨_, rfl, ?_⟩
  repeat' first
    | with_reducible exact Via.refl _
    | with_reducible assumption
    | decide +kernel
    | (intro x; refine Via.cutLet (m := 1148338724573020159) (s := s) (t := x) ?_ ?_)
    | (refine fun hx => ?_; clear_value x)
    | intro x
    | lift_lets
    | with_reducible apply Via.ite
    | (with_reducible refine State.command_via _ _ _ _ (by decide +kernel) (fun s _ => ?_) ?_ <;> beta_reduce)
    | with_reducible apply Via.then (State.fwWrite_via ..)
    | with_reducible apply Via.then (State.refuse_via ..)
    | with_reducible refine Via.then (State.refuse_via' (by assumption)) (by decide +kernel) ?_
    | with_reducible apply Via.then (State.give_via ..)
    | with_reducible refine Via.then (State.give_via' (by assumption)) (by decide +kernel) ?_
    | split
    | (dsimp only [x]; split)
    | (dsimp +zetaDelta only; split)
    | (dsimp only)
    | (dsimp +zetaDelta only)

theorem execSysNotices_via (ch : Nat) (s : State) : ∃ t, execSysNotices ch s = .next t ∧ Via 318409703103746016 s t := by
  refine ⟨_, rfl, ?_⟩
  repeat' first
    | with_reducible exact Via.refl _
    | with_reducible assumption
    | decide +kernel
    | (intro x; refine Via.cutLet (m := 318409703103746016) (s := s) (t := x) ?_ ?_)
    | (refine fun hx => ?_; clear_value x)
    | intro x
    | lift_lets
    | with_reducible apply Via.setFld
    | with_reducible apply Via.add
    | with_reducible apply Via.ite
    | with_reducible apply Via.then (State.bcRefresh_via ..)
    | (with_reducible refine State.command_via _ _ _ _ (by decide +kernel) (fun s _ => ?_) ?_ <;> beta_reduce)
    | with_reducible apply Via.then (State.refuse_via ..)
    | with_reducible refine Via.then (State.refuse_via' (by assumption)) (by decide +kernel) ?_
    | with_reducible apply Via.then (State.give_via ..)
    | with_reducible refine Via.then (State.give_via' (by assumption)) (by decide +kernel) ?_
    | (dsimp +zetaDelta only []; split <;> decide +kernel)
    | (split <;> decide +kernel)
    | split
    | (dsimp only [x]; split)
    | (dsimp +zetaDelta only; split)
    | with_reducible apply Via.set_bcq
    | (dsimp only)
    | (dsimp +zetaDelta only)

theorem execSysThaw_via (ch : Nat) (s : State) : ∃ t, execSysThaw ch s = .next t ∧ Via 534582502398447588 s t := by
  refine ⟨_, rfl, ?_⟩
  repeat' first
    | with_reducible exact Via.refl _
    | with_reducible assumption
    | decide +kernel
    | (intro x; refine Via.cutLet (m := 534582502398447588) (s := s) (t := x) ?_ ?_)
    | (refine fun hx => ?_; clear_value x)
    | intro x
    | lift_lets
    | with_reducible apply Via.ite
    | (with_reducible refine State.command_via _ _ _ _ (by decide +kernel) (fun s _ => ?_) ?_ <;> beta_reduce)
    | with_reducible apply Via.then (State.refuse_via ..)
    | with_reducible refine Via.then (State.refuse_via' (by assumption)) (by decide +kernel) ?_
    | with_reducible apply Via.then (State.done_via ..)
    | with_reducible refine Via.then (State.done_via' (by assumption)) (by decide +kernel) ?_
    | with_reducible apply Via.then (State.thaw_via ..)
    | split
    | (dsimp only [x]; split)
    | (dsimp +zetaDelta only; split)
    | (dsimp only)
    | (dsimp +zetaDelta only)

theorem State.setSession_via (s : State) (x : Option FwSession) : Via 72057594037927936 s (State.setSession s x) := by
  unfold State.setSession
  repeat' first
    | with_reducible exact Via.refl _
    | with_reducible assumption
    | decide +kernel
    | (intro x; refine Via.cutLet (m := 72057594037927936) (s := s) (t := x) ?_ ?_)
    | (refine fun hx => ?_; clear_value x)
    | intro x
    | with_reducible apply Via.then (State.updHw_via ..)
    | split
    | (dsimp only [x]; split)
    | (dsimp +zetaDelta only; split)
    | (dsimp only)

theorem execSysFwBegin_via (ch : Nat) (good : Bool) (s : State) : ∃ t, execSysFwBegin ch good s = .next t ∧ Via 390467297141673952 s t := by
  refine ⟨_, rfl, ?_⟩
  repeat' first
    | with_reducible exact Via.refl _
    | with_reducible assumption
    | decide +kernel
    | (intro x; refine Via.cutLet (m := 390467297141673952) (s := s) (t := x) ?_ ?_)
    | (refine fun hx => ?_; clear_value x)
    | intro x
    | lift_lets
    | with_reducible apply Via.ite
    | with_reducible refine Via.then (State.eraseBytes_via _ _ _ ?_) (by decide +kernel) ?_
    | with_reducible apply Via.then (State.setSession_via ..)
    | (with_reducible refine State.command_via _ _ _ _ (by decide +kernel) (fun s _ => ?_) ?_ <;> beta_reduce)
    | with_reducible apply Via.then (State.refuse_via ..)
    | with_reducible refine Via.then (State.refuse_via' (by assumption)) (by decide +kernel) ?_
    | with_reducible apply Via.then (State.done_via ..)
    | with_reducible refine Via.then (State.done_via' (by assumption)) (by decide +kernel) ?_
    | omega
    | (simp +zetaDelta only [flashAddr]; omega)
    | split
    | (dsimp only [x]; split)
    | (dsimp +zetaDelta only; split)
    | (dsimp only)
    | (dsimp +zetaDelta only)

theorem State.flashTake_via (s : State) (a : Nat) (data : List Nat) (good : Bool) (ha : 0x08001000 ≤ a) :
    Via 576460752437641216 s (State.flashTake s a data good).2 := by
  unfold State.flashTake
  split
  · exact Via.then (State.programBytes_via _ _ _ ha) (by decide +kernel) (.refl _)
  · exact .write _ _ (by decide +kernel) ha (Via.then (State.freeBytes_via ..) (by decide +kernel) (.refl _))

theorem State.flashTake_via' {s : State} {a : Nat} {data : List Nat} {good b : Bool} {t : State}
    (h : State.flashTake s a data good = (b, t)) (ha : 0x08001000 ≤ a) : Via 576460752437641216 s t := by
  have d := State.flashTake_via s a data good ha
  rw [h] at d
  exact d

theorem execSysFwData_via (ch : Nat) (good : Bool) (s : State) : ∃ t, execSysFwData ch good s = .next t ∧ Via 966928049445097440 s t := by
  refine ⟨_, rfl, ?_⟩
  repeat' first
    | with_reducible exact Via.refl _
    | with_reducible assumption
    | decide +kernel
    | (intro x; refine Via.cutLet (m := 966928049445097440) (s := s) (t := x) ?_ ?_)
    | (refine fun hx => ?_; clear_value x)
    | intro x
    | lift_lets
    | with_reducible apply Via.ite
    | with_reducible apply Via.then (State.setSession_via ..)
    | with_reducible refine Via.then (State.flashTake_via' (by assumption) ?_) (by decide +kernel) ?_
    | with_reducible refine Via.then (State.flashTake_via _ _ _ _ ?_) (by decide +kernel) ?_
    | (with_reducible refine State.command_via _ _ _ _ (by decide +kernel) (fun s _ => ?_) ?_ <;> beta_reduce)
    | with_reducible apply Via.then (State.refuse_via ..)
    | with_reducible refine Via.then (State.refuse_via' (by assumption)) (by decide +kernel) ?_
    | with_reducible apply Via.then (State.done_via ..)
    | with_reducible refine Via.then (State.done_via' (by assumption)) (by decide +kernel) ?_
    | omega
    | (simp +zetaDelta only [flashAddr]; omega)
    | (dsimp +zetaDelta only []; split <;> decide +kernel)
    | (split <;> decide +kernel)
    | split
    | (dsimp only [x]; split)
    | (dsimp +zetaDelta only; split)
    | (dsimp only)
    | (dsimp +zetaDelta only)

theorem execSysFwEnd_via (ch : Nat) (ok : Bool) (s : State) : ∃ t, execSysFwEnd ch ok s = .next t ∧ Via 390467298215415776 s t := by
  refine ⟨_, rfl, ?_⟩
  repeat' first
    | with_reducible exact Via.refl _
    | with_reducible assumption
    | decide +kernel
    | (intro x; refine Via.cutLet (m := 390467298215415776) (s := s) (t := x) ?_ ?_)
    | (refine fun hx => ?_; clear_value x)
    | intro x
    | lift_lets
    | with_reducible apply Via.ite
    | with_reducible apply Via.then (State.setSession_via ..)
    | (with_reducible refine State.command_via _ _ _ _ (by decide +kernel) (fun s _ => ?_) ?_ <;> beta_reduce)
    | with_reducible apply Via.then (State.refuse_via ..)
    | with_reducible refine Via.then (State.refuse_via' (by assumption)) (by decide +kernel) ?_
    | with_reducible apply Via.then (State.give_via ..)
    | with_reducible refine Via.then (State.give_via' (by assumption)) (by decide +kernel) ?_
    | (dsimp +zetaDelta only []; split <;> decide +kernel)
    | (split <;> decide +kernel)
    | split
    | (dsimp only [x]; split)
    | (dsimp +zetaDelta only; split)
    | with_reducible apply Via.set_power
    | (dsimp only)
    | (dsimp +zetaDelta only)

theorem execSysFwStatus_via (ch : Nat) (s : State) : ∃ t, execSysFwStatus ch s = .next t ∧ Via 318409703103746016 s t := by
  refine ⟨_, rfl, ?_⟩
  repeat' first
    | with_reducible exact Via.refl _
    | with_reducible assumption
    | decide +kernel
    | (intro x; refine Via.cutLet (m := 318409703103746016) (s := s) (t := x) ?_ ?_)
    | (refine fun hx => ?_; clear_value x)
    | intro x
    | (with_reducible refine State.command_via _ _ _ _ (by decide +kernel) (fun s _ => ?_) ?_ <;> beta_reduce)
    | with_reducible apply Via.then (State.give_via ..)
    | with_reducible refine Via.then (State.give_via' (by assumption)) (by decide +kernel) ?_
    | (dsimp +zetaDelta only []; split <;> decide +kernel)
    | (split <;> decide +kernel)
    | split
    | (dsimp only [x]; split)
    | (dsimp +zetaDelta only; split)
    | (dsimp only)
    | (dsimp +zetaDelta only)

theorem State.saveAreas_via (s : State) (areas : Nat) : Via 90640442441860608 s (State.saveAreas s areas) := by
  unfold State.saveAreas
  repeat' first
    | with_reducible exact Via.refl _
    | with_reducible assumption
    | decide +kernel
    | (intro g; refine Via.cutFun (m := 90640442441860608) (g := g) (fun s => ?_) ?_; on_goal 1 => dsimp only [g])
    | (intro g; refine Via.cutFunTwo (m := 90640442441860608) (g := g) (fun s _ => ?_) ?_; on_goal 1 => dsimp only [g])
    | (refine fun hg => ?_; clear_value g)
    | (refine Via.trans ?_ (hg ..))
    | (intro x; refine Via.cutLet (m := 90640442441860608) (s := s) (t := x) ?_ ?_)
    | (refine fun hx => ?_; clear_value x)
    | intro x
    | lift_lets
    | with_reducible apply Via.ite
    | with_reducible apply Via.then (State.place_via ..)
    | with_reducible apply Via.then (State.updHw_via ..)
    | (with_reducible refine Via.foldlFst _ _ _ (fun p _ => ?_) ?_ <;> dsimp only)
    | (with_reducible refine Via.foldlThen _ _ (fun s _ => ?_) ?_)
    | split
    | (dsimp only [x]; split)
    | (dsimp +zetaDelta only; split)
    | with_reducible apply Via.set_nvmCfg
    | (dsimp only)

theorem execSysCfgSave_via (ch : Nat) (good : Bool) (s : State) : ∃ t, execSysCfgSave ch good s = .next t ∧ Via 390467299289157600 s t := by
  refine ⟨_, rfl, ?_⟩
  repeat' first
    | with_reducible exact Via.refl _
    | with_reducible assumption
    | decide +kernel
    | (intro x; refine Via.cutLet (m := 390467299289157600) (s := s) (t := x) ?_ ?_)
    | (refine fun hx => ?_; clear_value x)
    | intro x
    | lift_lets
    | with_reducible apply Via.ite
    | with_reducible apply Via.then (State.saveAreas_via ..)
    | (with_reducible refine State.command_via _ _ _ _ (by decide +kernel) (fun s _ => ?_) ?_ <;> beta_reduce)
    | with_reducible apply Via.then (State.refuse_via ..)
    | with_reducible refine Via.then (State.refuse_via' (by assumption)) (by decide +kernel) ?_
    | with_reducible apply Via.then (State.give_via ..)
    | with_reducible refine Via.then (State.give_via' (by assumption)) (by decide +kernel) ?_
    | split
    | (dsimp only [x]; split)
    | (dsimp +zetaDelta only; split)
    | (dsimp only)
    | (dsimp +zetaDelta only)

end Sys2Proof.Machine
end

