-- ==== Sys2Proof/Laws/ViaMbxPd.lean ====
section
/-! SUPPORT. What each operation of Machine/MbxPd.lean can do to the state (see Laws/Via.lean). -/

namespace Sys2Proof.Machine

set_option linter.unusedTactic false
set_option linter.unreachableTactic false
set_option linter.unusedSimpArgs false
set_option linter.unusedVariables false

set_option Elab.async false

theorem execPdStatus_via (ch : Nat) (s : State) : ∃ t, execPdStatus ch s = .next t ∧ Via 462524891179601888 s t := by
  refine ⟨_, rfl, ?_⟩
  repeat' first
    | with_reducible exact Via.refl _
    | with_reducible assumption
    | decide +kernel
    | (intro x; refine Via.cutLet (m := 462524891179601888) (s := s) (t := x) ?_ ?_)
    | (refine fun hx => ?_; clear_value x)
    | intro x
    | with_reducible apply Via.then (State.maskRead_via ..)
    | with_reducible refine Via.then (State.maskRead_via' (by assumption)) (by decide +kernel) ?_
    | (with_reducible refine State.command_via _ _ _ _ (by decide +kernel) (fun s _ => ?_) ?_ <;> beta_reduce)
    | (dsimp +zetaDelta only [pdWords]; split <;> decide +kernel)
    | (split <;> decide +kernel)
    | split
    | (dsimp only [x]; split)
    | (dsimp +zetaDelta only; split)
    | (dsimp only)
    | (dsimp +zetaDelta only)

theorem State.waits_via (s : State) (ch : Nat) : Via 18014398509481984 s (State.waits s ch) := by
  unfold State.waits
  repeat' first
    | with_reducible exact Via.refl _
    | with_reducible assumption
    | decide +kernel
    | (intro x; refine Via.cutLet (m := 18014398509481984) (s := s) (t := x) ?_ ?_)
    | (refine fun hx => ?_; clear_value x)
    | intro x
    | with_reducible apply Via.then (State.updCh_via ..)
    | split
    | (dsimp only [x]; split)
    | (dsimp +zetaDelta only; split)
    | (dsimp only)

theorem State.querySend_via (s : State) (ch : Nat) (f : Frame) : Via 20270596369679360 s (State.querySend s ch f).1 := by
  unfold State.querySend
  repeat' first
    | with_reducible exact Via.refl _
    | with_reducible assumption
    | decide +kernel
    | (intro x; refine Via.cutLet (m := 20270596369679360) (s := s) (t := x) ?_ ?_)
    | (refine fun hx => ?_; clear_value x)
    | intro x
    | lift_lets
    | with_reducible apply Via.put
    | with_reducible apply Via.ite
    | with_reducible apply Via.then (State.refuse_via ..)
    | with_reducible refine Via.then (State.refuse_via' (by assumption)) (by decide +kernel) ?_
    | with_reducible apply Via.then (State.updPd_via ..)
    | with_reducible apply Via.then (State.waits_via ..)
    | with_reducible apply Via.then (State.hush_via ..)
    | with_reducible apply Via.then (State.send_via ..)
    | with_reducible apply Via.then (pdSettle_via ..)
    | (dsimp +zetaDelta only []; split <;> decide +kernel)
    | (split <;> decide +kernel)
    | split
    | (dsimp only [x]; split)
    | (dsimp +zetaDelta only; split)
    | (dsimp only)
    | (dsimp +zetaDelta only)

theorem State.querySend_via' {s : State} {ch : Nat} {f : Frame} {a : Option Reply} {t : State} (hop : State.querySend s ch f = (t, a)) : Via 20270596369679360 s t := by
  have d := State.querySend_via s ch f
  rw [hop] at d
  exact d

theorem State.queryEnd_via (s : State) (p : Nat) : Via 4398046511104 s (State.queryEnd s p).1 := by
  unfold State.queryEnd
  repeat' first
    | with_reducible exact Via.refl _
    | with_reducible assumption
    | decide +kernel
    | (intro x; refine Via.cutLet (m := 4398046511104) (s := s) (t := x) ?_ ?_)
    | (refine fun hx => ?_; clear_value x)
    | intro x
    | lift_lets
    | with_reducible apply Via.then (State.refuse_via ..)
    | with_reducible refine Via.then (State.refuse_via' (by assumption)) (by decide +kernel) ?_
    | with_reducible apply Via.then (State.updPd_via ..)
    | with_reducible apply Via.then (State.give_via ..)
    | with_reducible refine Via.then (State.give_via' (by assumption)) (by decide +kernel) ?_
    | (dsimp +zetaDelta only []; split <;> decide +kernel)
    | (split <;> decide +kernel)
    | split
    | (dsimp only [x]; split)
    | (dsimp +zetaDelta only; split)
    | (dsimp only)
    | (dsimp +zetaDelta only)

theorem State.queryEnd_via' {s : State} {p : Nat} {a : Option Reply} {t : State} (hop : State.queryEnd s p = (t, a)) : Via 4398046511104 s t := by
  have d := State.queryEnd_via s p
  rw [hop] at d
  exact d

theorem execPdStatusQuery_via (ch : Nat) (s : State) : ∃ t, execPdStatusQuery ch s = .next t ∧ Via 318409703103746016 s t := by
  refine ⟨_, rfl, ?_⟩
  repeat' first
    | with_reducible exact Via.refl _
    | with_reducible assumption
    | decide +kernel
    | (intro x; refine Via.cutLet (m := 318409703103746016) (s := s) (t := x) ?_ ?_)
    | (refine fun hx => ?_; clear_value x)
    | intro x
    | lift_lets
    | with_reducible apply Via.ite
    | with_reducible apply Via.then (State.querySend_via ..)
    | with_reducible refine Via.then (State.querySend_via' (by assumption)) (by decide +kernel) ?_
    | with_reducible apply Via.then (State.queryEnd_via ..)
    | with_reducible refine Via.then (State.queryEnd_via' (by assumption)) (by decide +kernel) ?_
    | (with_reducible refine State.command_via _ _ _ _ (by decide +kernel) (fun s _ => ?_) ?_ <;> beta_reduce)
    | with_reducible apply Via.then (State.refuse_via ..)
    | with_reducible refine Via.then (State.refuse_via' (by assumption)) (by decide +kernel) ?_
    | with_reducible apply Via.then (State.updPd_via ..)
    | split
    | (dsimp only [x]; split)
    | (dsimp +zetaDelta only; split)
    | (dsimp only)
    | (dsimp +zetaDelta only)

theorem execPdCfg_via (ch : Nat) (s : State) : ∃ t, execPdCfg ch s = .next t ∧ Via 1148338724573020159 s t := by
  refine ⟨_, rfl, ?_⟩
  repeat' first
    | with_reducible exact Via.refl _
    | with_reducible assumption
    | decide +kernel
    | (intro x; refine Via.cutLet (m := 1148338724573020159) (s := s) (t := x) ?_ ?_)
    | (refine fun hx => ?_; clear_value x)
    | intro x
    | (with_reducible refine State.maskCommand_via _ _ _ (fun s _ => ?_) ?_ <;> beta_reduce)
    | (with_reducible refine State.command_via _ _ _ _ (by decide +kernel) (fun s _ => ?_) ?_ <;> beta_reduce)
    | with_reducible apply Via.then (State.fwWrite_via ..)
    | split
    | (dsimp only [x]; split)
    | (dsimp +zetaDelta only; split)
    | (dsimp only)
    | (dsimp +zetaDelta only)

theorem execPdProfileRead_via (ch : Nat) (s : State) : ∃ t, execPdProfileRead ch s = .next t ∧ Via 318409703103746016 s t := by
  refine ⟨_, rfl, ?_⟩
  repeat' first
    | with_reducible exact Via.refl _
    | with_reducible assumption
    | decide +kernel
    | (intro x; refine Via.cutLet (m := 318409703103746016) (s := s) (t := x) ?_ ?_)
    | (refine fun hx => ?_; clear_value x)
    | intro x
    | lift_lets
    | with_reducible apply Via.ite
    | (with_reducible refine State.command_via _ _ _ _ (by decide +kernel) (fun s _ => ?_) ?_ <;> beta_reduce)
    | with_reducible apply Via.then (State.refuse_via ..)
    | with_reducible refine Via.then (State.refuse_via' (by assumption)) (by decide +kernel) ?_
    | with_reducible apply Via.then (State.give_via ..)
    | with_reducible refine Via.then (State.give_via' (by assumption)) (by decide +kernel) ?_
    | split
    | (dsimp only [x]; split)
    | (dsimp +zetaDelta only; split)
    | (dsimp only)
    | (dsimp +zetaDelta only)

theorem execPdProfileWrite_via (ch : Nat) (s : State) : ∃ t, execPdProfileWrite ch s = .next t ∧ Via 318418499196768224 s t := by
  refine ⟨_, rfl, ?_⟩
  repeat' first
    | with_reducible exact Via.refl _
    | with_reducible assumption
    | decide +kernel
    | (intro x; refine Via.cutLet (m := 318418499196768224) (s := s) (t := x) ?_ ?_)
    | (refine fun hx => ?_; clear_value x)
    | intro x
    | lift_lets
    | with_reducible apply Via.put
    | with_reducible apply Via.ite
    | with_reducible apply Via.then (State.offerAnew_via ..)
    | (with_reducible refine State.command_via _ _ _ _ (by decide +kernel) (fun s _ => ?_) ?_ <;> beta_reduce)
    | with_reducible apply Via.then (State.refuse_via ..)
    | with_reducible refine Via.then (State.refuse_via' (by assumption)) (by decide +kernel) ?_
    | with_reducible apply Via.then (State.done_via ..)
    | with_reducible refine Via.then (State.done_via' (by assumption)) (by decide +kernel) ?_
    | (with_reducible refine Via.each _ _ (fun s _ => ?_) ?_)
    | split
    | (dsimp only [x]; split)
    | (dsimp +zetaDelta only; split)
    | with_reducible apply Via.set_profiles
    | (dsimp only)
    | (dsimp +zetaDelta only)

theorem State.swapCmd_via {m : Nat} {s t : State} (ch p : Nat) (go : State → Nat → Option State) (hm : Nat.land 20270596369679360 m = 20270596369679360)
    (hg : ∀ s p, Via m s ((go s p).getD s)) (d : Via m s t) : Via m s (t.swapCmd ch p go).1 := by
  unfold State.swapCmd
  dsimp only
  repeat' first
    | exact d
    | split
    | (rename_i hq
       have := hg (t.hush p) p
       rw [hq] at this
       exact Via.then (State.waits_via ..) (testMono (by decide +kernel) hm) (Via.then (pdSettle_via ..)
         (testMono (by decide +kernel) hm) ((Via.then (State.hush_via ..) (testMono (by decide +kernel) hm) d).trans this)))

theorem execPdSwapPr_via (ch : Nat) (s : State) : ∃ t, execPdSwapPr ch s = .next t ∧ Via 318409703103746016 s t := by
  refine ⟨_, rfl, ?_⟩
  repeat' first
    | with_reducible exact Via.refl _
    | with_reducible assumption
    | decide +kernel
    | (intro x; refine Via.cutLet (m := 318409703103746016) (s := s) (t := x) ?_ ?_)
    | (refine fun hx => ?_; clear_value x)
    | intro x
    | with_reducible refine Via.then (State.prSwapSend_via' (by assumption)) (by decide +kernel) ?_
    | with_reducible apply Via.then (State.prSwapSend_via ..)
    | (with_reducible refine State.swapCmd_via _ _ _ (by decide +kernel) (fun s _ => ?_) ?_ <;> beta_reduce)
    | (with_reducible refine State.command_via _ _ _ _ (by decide +kernel) (fun s _ => ?_) ?_ <;> beta_reduce)
    | split
    | (dsimp only [x]; split)
    | (dsimp +zetaDelta only; split)
    | (dsimp only)
    | (dsimp +zetaDelta only)

theorem execPdSwapVconn_via (ch : Nat) (s : State) : ∃ t, execPdSwapVconn ch s = .next t ∧ Via 462524891179601888 s t := by
  refine ⟨_, rfl, ?_⟩
  repeat' first
    | with_reducible exact Via.refl _
    | with_reducible assumption
    | decide +kernel
    | (intro x; refine Via.cutLet (m := 462524891179601888) (s := s) (t := x) ?_ ?_)
    | (refine fun hx => ?_; clear_value x)
    | intro x
    | lift_lets
    | with_reducible apply Via.ite
    | with_reducible refine Via.then (State.vconnSwapSend_via' (by assumption)) (by decide +kernel) ?_
    | with_reducible apply Via.then (State.vconnSwapSend_via ..)
    | (with_reducible refine State.swapCmd_via _ _ _ (by decide +kernel) (fun s _ => ?_) ?_ <;> beta_reduce)
    | (with_reducible refine State.command_via _ _ _ _ (by decide +kernel) (fun s _ => ?_) ?_ <;> beta_reduce)
    | with_reducible apply Via.then (State.refuse_via ..)
    | with_reducible refine Via.then (State.refuse_via' (by assumption)) (by decide +kernel) ?_
    | split
    | (dsimp only [x]; split)
    | (dsimp +zetaDelta only; split)
    | (dsimp only)
    | (dsimp +zetaDelta only)

theorem State.resetCmd_via {m : Nat} {s t : State} (ch p : Nat) (go : State → State) (hm : Nat.land 4398046511104 m = 4398046511104)
    (hg : ∀ s, Via m s (go s)) (d : Via m s t) : Via m s (t.resetCmd ch p go).1 := by
  unfold State.resetCmd
  dsimp only
  repeat' first
    | exact d
    | split
    | exact (Via.then (State.hush_via ..) (testMono (by decide +kernel) hm) d).trans (hg _)

theorem execPdResetSoft_via (ch : Nat) (s : State) : ∃ t, execPdResetSoft ch s = .next t ∧ Via 318409703103746016 s t := by
  refine ⟨_, rfl, ?_⟩
  repeat' first
    | with_reducible exact Via.refl _
    | with_reducible assumption
    | decide +kernel
    | (intro x; refine Via.cutLet (m := 318409703103746016) (s := s) (t := x) ?_ ?_)
    | (refine fun hx => ?_; clear_value x)
    | intro x
    | with_reducible apply Via.then (State.softReset_via ..)
    | (with_reducible refine State.resetCmd_via _ _ _ (by decide +kernel) (fun s => ?_) ?_ <;> beta_reduce)
    | (with_reducible refine State.command_via _ _ _ _ (by decide +kernel) (fun s _ => ?_) ?_ <;> beta_reduce)
    | split
    | (dsimp only [x]; split)
    | (dsimp +zetaDelta only; split)
    | (dsimp only)
    | (dsimp +zetaDelta only)

theorem execPdResetHard_via (ch : Nat) (s : State) : ∃ t, execPdResetHard ch s = .next t ∧ Via 318409703103746016 s t := by
  refine ⟨_, rfl, ?_⟩
  repeat' first
    | with_reducible exact Via.refl _
    | with_reducible assumption
    | decide +kernel
    | (intro x; refine Via.cutLet (m := 318409703103746016) (s := s) (t := x) ?_ ?_)
    | (refine fun hx => ?_; clear_value x)
    | intro x
    | with_reducible apply Via.then (State.hardReset_via ..)
    | (with_reducible refine State.resetCmd_via _ _ _ (by decide +kernel) (fun s => ?_) ?_ <;> beta_reduce)
    | (with_reducible refine State.command_via _ _ _ _ (by decide +kernel) (fun s _ => ?_) ?_ <;> beta_reduce)
    | split
    | (dsimp only [x]; split)
    | (dsimp +zetaDelta only; split)
    | (dsimp only)
    | (dsimp +zetaDelta only)

theorem execPdResetCable_via (ch : Nat) (s : State) : ∃ t, execPdResetCable ch s = .next t ∧ Via 318409703103746016 s t := by
  refine ⟨_, rfl, ?_⟩
  repeat' first
    | with_reducible exact Via.refl _
    | with_reducible assumption
    | decide +kernel
    | (intro x; refine Via.cutLet (m := 318409703103746016) (s := s) (t := x) ?_ ?_)
    | (refine fun hx => ?_; clear_value x)
    | intro x
    | lift_lets
    | with_reducible apply Via.ite
    | with_reducible apply Via.then (State.identityClear_via ..)
    | with_reducible apply Via.then (State.ceilingFell_via ..)
    | (with_reducible refine State.resetCmd_via _ _ _ (by decide +kernel) (fun s => ?_) ?_ <;> beta_reduce)
    | (with_reducible refine State.command_via _ _ _ _ (by decide +kernel) (fun s _ => ?_) ?_ <;> beta_reduce)
    | with_reducible apply Via.then (State.refuse_via ..)
    | with_reducible refine Via.then (State.refuse_via' (by assumption)) (by decide +kernel) ?_
    | with_reducible apply Via.then (State.send_via ..)
    | with_reducible apply Via.then (pdSettle_via ..)
    | split
    | (dsimp only [x]; split)
    | (dsimp +zetaDelta only; split)
    | (dsimp only)
    | (dsimp +zetaDelta only)

theorem execPdSinkcfg_via (ch : Nat) (s : State) : ∃ t, execPdSinkcfg ch s = .next t ∧ Via 1148338724573020159 s t := by
  refine ⟨_, rfl, ?_⟩
  repeat' first
    | with_reducible exact Via.refl _
    | with_reducible assumption
    | decide +kernel
    | (intro x; refine Via.cutLet (m := 1148338724573020159) (s := s) (t := x) ?_ ?_)
    | (refine fun hx => ?_; clear_value x)
    | intro x
    | (with_reducible refine State.maskCommand_via _ _ _ (fun s _ => ?_) ?_ <;> beta_reduce)
    | (with_reducible refine State.command_via _ _ _ _ (by decide +kernel) (fun s _ => ?_) ?_ <;> beta_reduce)
    | with_reducible apply Via.then (State.fwGroup_via ..)
    | split
    | (dsimp only [x]; split)
    | (dsimp +zetaDelta only; split)
    | (dsimp only)
    | (dsimp +zetaDelta only)

theorem execPdSlot_via (ch : Nat) (good : Bool) (s : State) : ∃ t, execPdSlot ch good s = .next t ∧ Via 426496147847729124 s t := by
  refine ⟨_, rfl, ?_⟩
  repeat' first
    | with_reducible exact Via.refl _
    | with_reducible assumption
    | decide +kernel
    | (intro x; refine Via.cutLet (m := 426496147847729124) (s := s) (t := x) ?_ ?_)
    | (refine fun hx => ?_; clear_value x)
    | intro x
    | lift_lets
    | with_reducible apply Via.ite
    | with_reducible apply Via.then (State.serviceReset_via ..)
    | with_reducible apply Via.then (State.saveAreas_via ..)
    | (with_reducible refine State.command_via _ _ _ _ (by decide +kernel) (fun s _ => ?_) ?_ <;> beta_reduce)
    | with_reducible apply Via.then (State.updCore_via ..)
    | with_reducible apply Via.then (State.refuse_via ..)
    | with_reducible refine Via.then (State.refuse_via' (by assumption)) (by decide +kernel) ?_
    | with_reducible apply Via.then (State.give_via ..)
    | with_reducible refine Via.then (State.give_via' (by assumption)) (by decide +kernel) ?_
    | split
    | (dsimp only [x]; split)
    | (dsimp +zetaDelta only; split)
    | (dsimp only)
    | (dsimp +zetaDelta only)

theorem execPwrStatus_via (ch : Nat) (s : State) : ∃ t, execPwrStatus ch s = .next t ∧ Via 318409703103746016 s t := by
  refine ⟨_, rfl, ?_⟩
  repeat' first
    | with_reducible exact Via.refl _
    | with_reducible assumption
    | decide +kernel
    | (intro x; refine Via.cutLet (m := 318409703103746016) (s := s) (t := x) ?_ ?_)
    | (refine fun hx => ?_; clear_value x)
    | intro x
    | with_reducible apply Via.ite
    | (with_reducible refine State.command_via _ _ _ _ (by decide +kernel) (fun s _ => ?_) ?_ <;> beta_reduce)
    | with_reducible apply Via.then (State.refuse_via ..)
    | with_reducible refine Via.then (State.refuse_via' (by assumption)) (by decide +kernel) ?_
    | with_reducible apply Via.then (State.give_via ..)
    | with_reducible refine Via.then (State.give_via' (by assumption)) (by decide +kernel) ?_
    | split
    | (dsimp only [x]; split)
    | (dsimp +zetaDelta only; split)
    | (dsimp only)
    | (dsimp +zetaDelta only)

theorem execPwrGovcfg_via (ch : Nat) (s : State) : ∃ t, execPwrGovcfg ch s = .next t ∧ Via 1148338724573020159 s t := by
  refine ⟨_, rfl, ?_⟩
  repeat' first
    | with_reducible exact Via.refl _
    | with_reducible assumption
    | decide +kernel
    | (intro x; refine Via.cutLet (m := 1148338724573020159) (s := s) (t := x) ?_ ?_)
    | (refine fun hx => ?_; clear_value x)
    | intro x
    | (with_reducible refine State.command_via _ _ _ _ (by decide +kernel) (fun s _ => ?_) ?_ <;> beta_reduce)
    | with_reducible apply Via.then (State.fwGroup_via ..)
    | with_reducible apply Via.then (State.done_via ..)
    | with_reducible refine Via.then (State.done_via' (by assumption)) (by decide +kernel) ?_
    | split
    | (dsimp only [x]; split)
    | (dsimp +zetaDelta only; split)
    | (dsimp only)
    | (dsimp +zetaDelta only)

theorem execPwrPrio_via (ch : Nat) (s : State) : ∃ t, execPwrPrio ch s = .next t ∧ Via 1148338724573020159 s t := by
  refine ⟨_, rfl, ?_⟩
  repeat' first
    | with_reducible exact Via.refl _
    | with_reducible assumption
    | decide +kernel
    | (intro x; refine Via.cutLet (m := 1148338724573020159) (s := s) (t := x) ?_ ?_)
    | (refine fun hx => ?_; clear_value x)
    | intro x
    | (with_reducible refine State.command_via _ _ _ _ (by decide +kernel) (fun s _ => ?_) ?_ <;> beta_reduce)
    | with_reducible apply Via.then (State.fwWrite_via ..)
    | with_reducible apply Via.then (State.done_via ..)
    | with_reducible refine Via.then (State.done_via' (by assumption)) (by decide +kernel) ?_
    | split
    | (dsimp only [x]; split)
    | (dsimp +zetaDelta only; split)
    | (dsimp only)
    | (dsimp +zetaDelta only)

theorem execPwrPortcfg_via (ch : Nat) (s : State) : ∃ t, execPwrPortcfg ch s = .next t ∧ Via 1148338724573020159 s t := by
  refine ⟨_, rfl, ?_⟩
  repeat' first
    | with_reducible exact Via.refl _
    | with_reducible assumption
    | decide +kernel
    | (intro x; refine Via.cutLet (m := 1148338724573020159) (s := s) (t := x) ?_ ?_)
    | (refine fun hx => ?_; clear_value x)
    | intro x
    | (with_reducible refine State.maskCommand_via _ _ _ (fun s _ => ?_) ?_ <;> beta_reduce)
    | (with_reducible refine State.command_via _ _ _ _ (by decide +kernel) (fun s _ => ?_) ?_ <;> beta_reduce)
    | with_reducible apply Via.then (State.fwGroup_via ..)
    | split
    | (dsimp only [x]; split)
    | (dsimp +zetaDelta only; split)
    | (dsimp only)
    | (dsimp +zetaDelta only)

theorem execPwrFeedctl_via (ch : Nat) (s : State) : ∃ t, execPwrFeedctl ch s = .next t ∧ Via 1148338724573020159 s t := by
  refine ⟨_, rfl, ?_⟩
  repeat' first
    | with_reducible exact Via.refl _
    | with_reducible assumption
    | decide +kernel
    | (intro x; refine Via.cutLet (m := 1148338724573020159) (s := s) (t := x) ?_ ?_)
    | (refine fun hx => ?_; clear_value x)
    | intro x
    | lift_lets
    | with_reducible apply Via.ite
    | with_reducible apply Via.then (State.hsClrLatch_via ..)
    | with_reducible refine Via.then (State.hsClear_via' (by assumption)) (by decide +kernel) ?_
    | with_reducible apply Via.then (State.hsClear_via ..)
    | with_reducible apply Via.then (State.fwWrite_via ..)
    | (with_reducible refine State.command_via _ _ _ _ (by decide +kernel) (fun s _ => ?_) ?_ <;> beta_reduce)
    | with_reducible apply Via.then (State.refuse_via ..)
    | with_reducible refine Via.then (State.refuse_via' (by assumption)) (by decide +kernel) ?_
    | with_reducible apply Via.then (State.give_via ..)
    | with_reducible refine Via.then (State.give_via' (by assumption)) (by decide +kernel) ?_
    | (dsimp +zetaDelta only []; split <;> decide +kernel)
    | (split <;> decide +kernel)
    | split
    | (dsimp only [x]; split)
    | (dsimp +zetaDelta only; split)
    | (dsimp only)
    | (dsimp +zetaDelta only)

theorem execPwrEnergy_via (ch : Nat) (s : State) : ∃ t, execPwrEnergy ch s = .next t ∧ Via 318409703103746016 s t := by
  refine ⟨_, rfl, ?_⟩
  repeat' first
    | with_reducible exact Via.refl _
    | with_reducible assumption
    | decide +kernel
    | (intro x; refine Via.cutLet (m := 318409703103746016) (s := s) (t := x) ?_ ?_)
    | (refine fun hx => ?_; clear_value x)
    | intro x
    | lift_lets
    | with_reducible apply Via.ite
    | (with_reducible refine State.command_via _ _ _ _ (by decide +kernel) (fun s _ => ?_) ?_ <;> beta_reduce)
    | with_reducible apply Via.then (State.refuse_via ..)
    | with_reducible refine Via.then (State.refuse_via' (by assumption)) (by decide +kernel) ?_
    | with_reducible apply Via.then (State.give_via ..)
    | with_reducible refine Via.then (State.give_via' (by assumption)) (by decide +kernel) ?_
    | split
    | (dsimp only [x]; split)
    | (dsimp +zetaDelta only; split)
    | (dsimp only)
    | (dsimp +zetaDelta only)

end Sys2Proof.Machine
end

