-- ==== Sys2Proof/Laws/ViaMbxTime.lean ====
section
/-! SUPPORT. What each operation of Machine/MbxTime.lean can do to the state (see Laws/Via.lean). -/

namespace Sys2Proof.Machine

set_option linter.unusedTactic false
set_option linter.unreachableTactic false
set_option linter.unusedSimpArgs false
set_option linter.unusedVariables false

set_option Elab.async false

theorem execTimeGet_via (ch : Nat) (s : State) : ∃ t, execTimeGet ch s = .next t ∧ Via 318409703103746016 s t := by
  refine ⟨_, rfl, ?_⟩
  repeat' first
    | with_reducible exact Via.refl _
    | with_reducible assumption
    | decide +kernel
    | (intro x; refine Via.cutLet (m := 318409703103746016) (s := s) (t := x) ?_ ?_)
    | (refine fun hx => ?_; clear_value x)
    | intro x
    | lift_lets
    | (with_reducible refine State.command_via _ _ _ _ (by decide +kernel) (fun s _ => ?_) ?_ <;> beta_reduce)
    | with_reducible apply Via.then (State.give_via ..)
    | with_reducible refine Via.then (State.give_via' (by assumption)) (by decide +kernel) ?_
    | split
    | (dsimp only [x]; split)
    | (dsimp +zetaDelta only; split)
    | (dsimp only)
    | (dsimp +zetaDelta only)

theorem execTimeSet_via (ch : Nat) (s : State) : ∃ t, execTimeSet ch s = .next t ∧ Via 318409703103746016 s t := by
  refine ⟨_, rfl, ?_⟩
  repeat' first
    | with_reducible exact Via.refl _
    | with_reducible assumption
    | decide +kernel
    | (intro x; refine Via.cutLet (m := 318409703103746016) (s := s) (t := x) ?_ ?_)
    | (refine fun hx => ?_; clear_value x)
    | intro x
    | with_reducible apply Via.ite
    | with_reducible apply Via.then (State.updChord_via ..)
    | (with_reducible refine State.command_via _ _ _ _ (by decide +kernel) (fun s _ => ?_) ?_ <;> beta_reduce)
    | with_reducible apply Via.then (State.refuse_via ..)
    | with_reducible refine Via.then (State.refuse_via' (by assumption)) (by decide +kernel) ?_
    | with_reducible apply Via.then (State.done_via ..)
    | with_reducible refine Via.then (State.done_via' (by assumption)) (by decide +kernel) ?_
    | split
    | (dsimp only [x]; split)
    | (dsimp +zetaDelta only; split)
    | (dsimp only)
    | (dsimp +zetaDelta only)

theorem execTimeAdd_via (ch : Nat) (s : State) : ∃ t, execTimeAdd ch s = .next t ∧ Via 322913302731116512 s t := by
  refine ⟨_, rfl, ?_⟩
  repeat' first
    | with_reducible exact Via.refl _
    | with_reducible assumption
    | decide +kernel
    | (intro x; refine Via.cutLet (m := 322913302731116512) (s := s) (t := x) ?_ ?_)
    | (refine fun hx => ?_; clear_value x)
    | intro x
    | lift_lets
    | with_reducible apply Via.ite
    | (with_reducible refine State.command_via _ _ _ _ (by decide +kernel) (fun s _ => ?_) ?_ <;> beta_reduce)
    | with_reducible apply Via.then (State.tatAdd_via ..)
    | with_reducible apply Via.then (State.refuse_via ..)
    | with_reducible refine Via.then (State.refuse_via' (by assumption)) (by decide +kernel) ?_
    | with_reducible apply Via.then (State.give_via ..)
    | with_reducible refine Via.then (State.give_via' (by assumption)) (by decide +kernel) ?_
    | split
    | (dsimp only [x]; split)
    | (dsimp +zetaDelta only; split)
    | (dsimp only)
    | (dsimp +zetaDelta only)

theorem execTimeCancel_via (ch : Nat) (s : State) : ∃ t, execTimeCancel ch s = .next t ∧ Via 318409703103746016 s t := by
  refine ⟨_, rfl, ?_⟩
  repeat' first
    | with_reducible exact Via.refl _
    | with_reducible assumption
    | decide +kernel
    | (intro x; refine Via.cutLet (m := 318409703103746016) (s := s) (t := x) ?_ ?_)
    | (refine fun hx => ?_; clear_value x)
    | intro x
    | lift_lets
    | with_reducible apply Via.ite
    | with_reducible apply Via.then (State.tatCancel_via ..)
    | (with_reducible refine State.command_via _ _ _ _ (by decide +kernel) (fun s _ => ?_) ?_ <;> beta_reduce)
    | with_reducible apply Via.then (State.refuse_via ..)
    | with_reducible refine Via.then (State.refuse_via' (by assumption)) (by decide +kernel) ?_
    | with_reducible apply Via.then (State.give_via ..)
    | with_reducible refine Via.then (State.give_via' (by assumption)) (by decide +kernel) ?_
    | split
    | (dsimp only [x]; split)
    | (dsimp +zetaDelta only; split)
    | (dsimp only)
    | (dsimp +zetaDelta only)

theorem execTimeList_via (ch : Nat) (s : State) : ∃ t, execTimeList ch s = .next t ∧ Via 318409703103746016 s t := by
  refine ⟨_, rfl, ?_⟩
  repeat' first
    | with_reducible exact Via.refl _
    | with_reducible assumption
    | decide +kernel
    | (intro x; refine Via.cutLet (m := 318409703103746016) (s := s) (t := x) ?_ ?_)
    | (refine fun hx => ?_; clear_value x)
    | intro x
    | lift_lets
    | with_reducible apply Via.ite
    | (with_reducible refine State.command_via _ _ _ _ (by decide +kernel) (fun s _ => ?_) ?_ <;> beta_reduce)
    | with_reducible apply Via.then (State.refuse_via ..)
    | with_reducible refine Via.then (State.refuse_via' (by assumption)) (by decide +kernel) ?_
    | with_reducible apply Via.then (State.give_via ..)
    | with_reducible refine Via.then (State.give_via' (by assumption)) (by decide +kernel) ?_
    | split
    | (dsimp only [x]; split)
    | (dsimp +zetaDelta only; split)
    | (dsimp only)
    | (dsimp +zetaDelta only)

theorem execTimeSof_via (ch : Nat) (s : State) : ∃ t, execTimeSof ch s = .next t ∧ Via 318409703103746016 s t := by
  refine ⟨_, rfl, ?_⟩
  repeat' first
    | with_reducible exact Via.refl _
    | with_reducible assumption
    | decide +kernel
    | (intro x; refine Via.cutLet (m := 318409703103746016) (s := s) (t := x) ?_ ?_)
    | (refine fun hx => ?_; clear_value x)
    | intro x
    | lift_lets
    | with_reducible apply Via.ite
    | (with_reducible refine State.command_via _ _ _ _ (by decide +kernel) (fun s _ => ?_) ?_ <;> beta_reduce)
    | with_reducible apply Via.then (State.refuse_via ..)
    | with_reducible refine Via.then (State.refuse_via' (by assumption)) (by decide +kernel) ?_
    | with_reducible apply Via.then (State.give_via ..)
    | with_reducible refine Via.then (State.give_via' (by assumption)) (by decide +kernel) ?_
    | split
    | (dsimp only [x]; split)
    | (dsimp +zetaDelta only; split)
    | (dsimp only)
    | (dsimp +zetaDelta only)

theorem State.traceCmd_via {m : Nat} {s t : State} (run : State → State × Option Reply)
    (hr : ∀ s, Via m s (run s).1) (d : Via m s t) : Via m s (t.traceCmd run).1 := by
  unfold State.traceCmd
  split
  · exact d.trans (hr _)
  · exact d

theorem execTraceStatus_via (ch : Nat) (s : State) : ∃ t, execTraceStatus ch s = .next t ∧ Via 318409703103746016 s t := by
  refine ⟨_, rfl, ?_⟩
  repeat' first
    | with_reducible exact Via.refl _
    | with_reducible assumption
    | decide +kernel
    | (intro x; refine Via.cutLet (m := 318409703103746016) (s := s) (t := x) ?_ ?_)
    | (refine fun hx => ?_; clear_value x)
    | intro x
    | (with_reducible refine State.traceCmd_via _ (fun s => ?_) ?_ <;> beta_reduce)
    | (with_reducible refine State.command_via _ _ _ _ (by decide +kernel) (fun s _ => ?_) ?_ <;> beta_reduce)
    | with_reducible apply Via.then (State.give_via ..)
    | with_reducible refine Via.then (State.give_via' (by assumption)) (by decide +kernel) ?_
    | split
    | (dsimp only [x]; split)
    | (dsimp +zetaDelta only; split)
    | (dsimp only)
    | (dsimp +zetaDelta only)

theorem execTraceCfg_via (ch : Nat) (s : State) : ∃ t, execTraceCfg ch s = .next t ∧ Via 1148338724573020159 s t := by
  refine ⟨_, rfl, ?_⟩
  repeat' first
    | with_reducible exact Via.refl _
    | with_reducible assumption
    | decide +kernel
    | (intro x; refine Via.cutLet (m := 1148338724573020159) (s := s) (t := x) ?_ ?_)
    | (refine fun hx => ?_; clear_value x)
    | intro x
    | with_reducible apply Via.ite
    | (with_reducible refine State.traceCmd_via _ (fun s => ?_) ?_ <;> beta_reduce)
    | (with_reducible refine State.command_via _ _ _ _ (by decide +kernel) (fun s _ => ?_) ?_ <;> beta_reduce)
    | with_reducible apply Via.then (State.fwGroup_via ..)
    | with_reducible apply Via.then (State.refuse_via ..)
    | with_reducible refine Via.then (State.refuse_via' (by assumption)) (by decide +kernel) ?_
    | with_reducible apply Via.then (State.done_via ..)
    | with_reducible refine Via.then (State.done_via' (by assumption)) (by decide +kernel) ?_
    | split
    | (dsimp only [x]; split)
    | (dsimp +zetaDelta only; split)
    | (dsimp only)
    | (dsimp +zetaDelta only)

theorem State.traceCtl_via {m : Nat} {s t : State} (ch : Nat) (run : State → State × Option Reply)
    (hr : ∀ s, Via m s (run s).1) (d : Via m s t) : Via m s (t.traceCtl ch run).1 := by
  unfold State.traceCtl
  split
  · exact State.traceCmd_via _ hr d
  · exact d

theorem execTraceCtlStart_via (ch : Nat) (s : State) : ∃ t, execTraceCtlStart ch s = .next t ∧ Via 318409703103877088 s t := by
  refine ⟨_, rfl, ?_⟩
  repeat' first
    | with_reducible exact Via.refl _
    | with_reducible assumption
    | decide +kernel
    | (intro x; refine Via.cutLet (m := 318409703103877088) (s := s) (t := x) ?_ ?_)
    | (refine fun hx => ?_; clear_value x)
    | intro x
    | with_reducible apply Via.then (State.traceStart_via ..)
    | (with_reducible refine State.traceCtl_via _ _ (fun s => ?_) ?_ <;> beta_reduce)
    | (with_reducible refine State.command_via _ _ _ _ (by decide +kernel) (fun s _ => ?_) ?_ <;> beta_reduce)
    | with_reducible apply Via.then (State.done_via ..)
    | with_reducible refine Via.then (State.done_via' (by assumption)) (by decide +kernel) ?_
    | split
    | (dsimp only [x]; split)
    | (dsimp +zetaDelta only; split)
    | (dsimp only)
    | (dsimp +zetaDelta only)

theorem execTraceCtlStop_via (ch : Nat) (s : State) : ∃ t, execTraceCtlStop ch s = .next t ∧ Via 318409703103877088 s t := by
  refine ⟨_, rfl, ?_⟩
  repeat' first
    | with_reducible exact Via.refl _
    | with_reducible assumption
    | decide +kernel
    | (intro x; refine Via.cutLet (m := 318409703103877088) (s := s) (t := x) ?_ ?_)
    | (refine fun hx => ?_; clear_value x)
    | intro x
    | with_reducible apply Via.then (State.traceStop_via ..)
    | (with_reducible refine State.traceCtl_via _ _ (fun s => ?_) ?_ <;> beta_reduce)
    | (with_reducible refine State.command_via _ _ _ _ (by decide +kernel) (fun s _ => ?_) ?_ <;> beta_reduce)
    | with_reducible apply Via.then (State.done_via ..)
    | with_reducible refine Via.then (State.done_via' (by assumption)) (by decide +kernel) ?_
    | split
    | (dsimp only [x]; split)
    | (dsimp +zetaDelta only; split)
    | (dsimp only)
    | (dsimp +zetaDelta only)

theorem execTraceCtlTrig_via (ch : Nat) (s : State) : ∃ t, execTraceCtlTrig ch s = .next t ∧ Via 318409703103877088 s t := by
  refine ⟨_, rfl, ?_⟩
  repeat' first
    | with_reducible exact Via.refl _
    | with_reducible assumption
    | decide +kernel
    | (intro x; refine Via.cutLet (m := 318409703103877088) (s := s) (t := x) ?_ ?_)
    | (refine fun hx => ?_; clear_value x)
    | intro x
    | with_reducible apply Via.then (State.traceTrigger_via ..)
    | (with_reducible refine State.traceCtl_via _ _ (fun s => ?_) ?_ <;> beta_reduce)
    | (with_reducible refine State.command_via _ _ _ _ (by decide +kernel) (fun s _ => ?_) ?_ <;> beta_reduce)
    | with_reducible apply Via.then (State.done_via ..)
    | with_reducible refine Via.then (State.done_via' (by assumption)) (by decide +kernel) ?_
    | split
    | (dsimp only [x]; split)
    | (dsimp +zetaDelta only; split)
    | (dsimp only)
    | (dsimp +zetaDelta only)

theorem execTraceCtlClear_via (ch : Nat) (s : State) : ∃ t, execTraceCtlClear ch s = .next t ∧ Via 318409703103877088 s t := by
  refine ⟨_, rfl, ?_⟩
  repeat' first
    | with_reducible exact Via.refl _
    | with_reducible assumption
    | decide +kernel
    | (intro x; refine Via.cutLet (m := 318409703103877088) (s := s) (t := x) ?_ ?_)
    | (refine fun hx => ?_; clear_value x)
    | intro x
    | with_reducible apply Via.ite
    | with_reducible apply Via.then (State.traceClear_via ..)
    | (with_reducible refine State.traceCtl_via _ _ (fun s => ?_) ?_ <;> beta_reduce)
    | (with_reducible refine State.command_via _ _ _ _ (by decide +kernel) (fun s _ => ?_) ?_ <;> beta_reduce)
    | with_reducible apply Via.then (State.refuse_via ..)
    | with_reducible refine Via.then (State.refuse_via' (by assumption)) (by decide +kernel) ?_
    | with_reducible apply Via.then (State.done_via ..)
    | with_reducible refine Via.then (State.done_via' (by assumption)) (by decide +kernel) ?_
    | split
    | (dsimp only [x]; split)
    | (dsimp +zetaDelta only; split)
    | (dsimp only)
    | (dsimp +zetaDelta only)

theorem execTraceCtlMark_via (ch : Nat) (s : State) : ∃ t, execTraceCtlMark ch s = .next t ∧ Via 318409703103877088 s t := by
  refine ⟨_, rfl, ?_⟩
  repeat' first
    | with_reducible exact Via.refl _
    | with_reducible assumption
    | decide +kernel
    | (intro x; refine Via.cutLet (m := 318409703103877088) (s := s) (t := x) ?_ ?_)
    | (refine fun hx => ?_; clear_value x)
    | intro x
    | with_reducible apply Via.ite
    | (with_reducible refine State.traceCmd_via _ (fun s => ?_) ?_ <;> beta_reduce)
    | (with_reducible refine State.command_via _ _ _ _ (by decide +kernel) (fun s _ => ?_) ?_ <;> beta_reduce)
    | with_reducible apply Via.then (State.trcMark_via ..)
    | with_reducible apply Via.then (State.refuse_via ..)
    | with_reducible refine Via.then (State.refuse_via' (by assumption)) (by decide +kernel) ?_
    | with_reducible apply Via.then (State.done_via ..)
    | with_reducible refine Via.then (State.done_via' (by assumption)) (by decide +kernel) ?_
    | split
    | (dsimp only [x]; split)
    | (dsimp +zetaDelta only; split)
    | (dsimp only)
    | (dsimp +zetaDelta only)

theorem State.streamKeep_via (s : State) (keep : Nat) : Via 9007199254872064 s (State.streamKeep s keep) := by
  unfold State.streamKeep
  repeat' first
    | with_reducible exact Via.refl _
    | with_reducible assumption
    | decide +kernel
    | (intro x; refine Via.cutLet (m := 9007199254872064) (s := s) (t := x) ?_ ?_)
    | (refine fun hx => ?_; clear_value x)
    | intro x
    | lift_lets
    | with_reducible apply Via.add
    | with_reducible apply Via.ite
    | with_reducible apply Via.then (State.updTrc_via ..)
    | (dsimp +zetaDelta only []; split <;> decide +kernel)
    | (split <;> decide +kernel)
    | split
    | (dsimp only [x]; split)
    | (dsimp +zetaDelta only; split)
    | (dsimp only)

theorem State.streamRead_via (s : State) (keep most : Nat) : Via 9007199254872064 s (State.streamRead s keep most).1 := by
  unfold State.streamRead
  repeat' first
    | with_reducible exact Via.refl _
    | with_reducible assumption
    | decide +kernel
    | (intro x; refine Via.cutLet (m := 9007199254872064) (s := s) (t := x) ?_ ?_)
    | (refine fun hx => ?_; clear_value x)
    | intro x
    | lift_lets
    | with_reducible apply Via.ite
    | with_reducible apply Via.then (State.streamKeep_via ..)
    | with_reducible apply Via.then (State.updTrc_via ..)
    | split
    | (dsimp only [x]; split)
    | (dsimp +zetaDelta only; split)
    | (dsimp only)

theorem State.streamRead_via' {s : State} {keep most : Nat} {a : List Nat} {t : State} (hop : State.streamRead s keep most = (t, a)) : Via 9007199254872064 s t := by
  have d := State.streamRead_via s keep most
  rw [hop] at d
  exact d

theorem execTraceRead_via (ch one two : Nat) (s : State) : ∃ t, execTraceRead ch one two s = .next t ∧ Via 318409703104139232 s t := by
  refine ⟨_, rfl, ?_⟩
  repeat' first
    | with_reducible exact Via.refl _
    | with_reducible assumption
    | decide +kernel
    | (intro x; refine Via.cutLet (m := 318409703104139232) (s := s) (t := x) ?_ ?_)
    | (refine fun hx => ?_; clear_value x)
    | intro x
    | lift_lets
    | with_reducible apply Via.ite
    | with_reducible apply Via.then (State.streamRead_via ..)
    | with_reducible refine Via.then (State.streamRead_via' (by assumption)) (by decide +kernel) ?_
    | with_reducible apply Via.then (State.traceFixed_via ..)
    | (with_reducible refine State.traceCmd_via _ (fun s => ?_) ?_ <;> beta_reduce)
    | (with_reducible refine State.command_via _ _ _ _ (by decide +kernel) (fun s _ => ?_) ?_ <;> beta_reduce)
    | with_reducible apply Via.then (State.refuse_via ..)
    | with_reducible refine Via.then (State.refuse_via' (by assumption)) (by decide +kernel) ?_
    | with_reducible apply Via.then (State.give_via ..)
    | with_reducible refine Via.then (State.give_via' (by assumption)) (by decide +kernel) ?_
    | split
    | (dsimp only [x]; split)
    | (dsimp +zetaDelta only; split)
    | (dsimp only)
    | (dsimp +zetaDelta only)

end Sys2Proof.Machine
end

