-- ==== Sys2Proof/Laws/ViaRegs.lean ====
section
/-! SUPPORT. What each operation of Machine/Regs.lean can do to the state (see Laws/Via.lean). -/

namespace Sys2Proof.Machine

set_option linter.unusedTactic false
set_option linter.unreachableTactic false
set_option linter.unusedSimpArgs false
set_option linter.unusedVariables false

set_option Elab.async false

theorem execRegisterWrite_via (m a n data : Nat) (hw : List HwChange) (s : State) :
    ∀ t, execRegisterWrite m a n data hw s = .next t → Via 2305843009213693951 s t := by
  intro t ht
  obtain ⟨-, rfl⟩ := orUnpredictable_next ht
  clear ht
  repeat' first
    | with_reducible exact Via.refl _
    | with_reducible assumption
    | decide +kernel
    | (intro x; refine Via.cutLet (m := 2305843009213693951) (s := s) (t := x) ?_ ?_)
    | (refine fun hx => ?_; clear_value x)
    | intro x
    | with_reducible apply Via.then (State.masterStore_via ..)
    | split
    | (dsimp only [x]; split)
    | (dsimp +zetaDelta only; split)
    | (dsimp only)

theorem execAliasWrite_via (v : AliasView) (m a n data : Nat) (hw : List HwChange) (s : State) :
    ∀ t, execAliasWrite v m a n data hw s = .next t → Via 2305843009213693951 s t := by
  intro t ht
  obtain ⟨-, rfl⟩ := orUnpredictable_next ht
  clear ht
  repeat' first
    | with_reducible exact Via.refl _
    | with_reducible assumption
    | decide +kernel
    | (intro x; refine Via.cutLet (m := 2305843009213693951) (s := s) (t := x) ?_ ?_)
    | (refine fun hx => ?_; clear_value x)
    | intro x
    | with_reducible apply Via.then (State.masterStore_via ..)
    | split
    | (dsimp only [x]; split)
    | (dsimp +zetaDelta only; split)
    | (dsimp only)

theorem execStagedWriteApply_via (b : Boundary) (k : Nat) (hw : List HwChange) (s : State) :
    ∀ t, execStagedWriteApply b k hw s = .next t → Via 1148338725109891071 s t := by
  intro t ht
  obtain ⟨-, rfl⟩ := orUnpredictable_next ht
  clear ht
  repeat' first
    | with_reducible exact Via.refl _
    | with_reducible assumption
    | decide +kernel
    | (intro x; refine Via.cutLet (m := 1148338725109891071) (s := s) (t := x) ?_ ?_)
    | (refine fun hx => ?_; clear_value x)
    | intro x
    | lift_lets
    | with_reducible apply Via.ite
    | with_reducible apply Via.then (State.frameBoundary_via ..)
    | with_reducible apply Via.then (State.nextMarker_via ..)
    | with_reducible apply Via.then (State.applyAll_via ..)
    | split
    | (dsimp only [x]; split)
    | (dsimp +zetaDelta only; split)
    | (dsimp only)

theorem execHoldRelease_via (blk : Block) (j : Nat) (hw : List HwChange) (s : State) : ∃ t, execHoldRelease blk j hw s = .next t ∧ Via 1148338724573020159 s t := by
  refine ⟨_, rfl, ?_⟩
  repeat' first
    | with_reducible exact Via.refl _
    | with_reducible assumption
    | decide +kernel
    | (intro x; refine Via.cutLet (m := 1148338724573020159) (s := s) (t := x) ?_ ?_)
    | (refine fun hx => ?_; clear_value x)
    | intro x
    | with_reducible apply Via.put
    | with_reducible apply Via.ite
    | with_reducible apply Via.then (State.holdReleased_via ..)
    | (dsimp +zetaDelta only [stageOf]; split <;> decide +kernel)
    | (split <;> decide +kernel)
    | exact land_allRegs (by decide +kernel) _
    | split
    | (dsimp only [x]; split)
    | (dsimp +zetaDelta only; split)
    | (dsimp only)

theorem execSnapReq_via (k sel : Nat) (s : State) : ∃ t, execSnapReq k sel s = .next t ∧ Via 8590118914 s t := by
  refine ⟨_, rfl, Via.bite _ ?_ (.refl _)⟩
  exact Via.then (State.snapReq_via ..) (by decide +kernel)
    (.setFld _ _ _ (snapFields_bit (by decide +kernel) k).2.1 (.refl _))

theorem execSnapCapture_via (k : Nat) (s : State) : ∃ t, execSnapCapture k s = .next t ∧ Via 10200731650 s t := by
  refine ⟨_, rfl, ?_⟩
  repeat' first
    | with_reducible exact Via.refl _
    | with_reducible assumption
    | decide +kernel
    | (intro x; refine Via.cutLet (m := 10200731650) (s := s) (t := x) ?_ ?_)
    | (refine fun hx => ?_; clear_value x)
    | intro x
    | lift_lets
    | with_reducible apply Via.ite
    | with_reducible apply Via.then (State.snapTake_via ..)
    | with_reducible apply Via.then (State.advance_via ..)
    | split
    | (dsimp only [x]; split)
    | (dsimp +zetaDelta only; split)
    | (dsimp only)

theorem execSnapHiRead_via (k : Nat) (s : State) : ∃ t, execSnapHiRead k s = .next t ∧ Via 184322 s t := by
  refine ⟨_, rfl, ?_⟩
  repeat' first
    | with_reducible exact Via.refl _
    | with_reducible assumption
    | decide +kernel
    | (intro x; refine Via.cutLet (m := 184322) (s := s) (t := x) ?_ ?_)
    | (refine fun hx => ?_; clear_value x)
    | intro x
    | with_reducible apply Via.then (State.snapRead_via ..)
    | split
    | (dsimp only [x]; split)
    | (dsimp +zetaDelta only; split)
    | (dsimp only)

end Sys2Proof.Machine
end

