-- ==== Sys2Proof/Machine/Operands.lean ====
section
/-! DEFINITION. The ranges of the commands' operands: what the outside of the block can supply (log entry 1). -/

namespace Sys2Proof.Machine

/-- A downstream port, 1 to 32 (R6). -/
def Operand.portOk (p : Nat) : Bool := decide (1 ≤ p ∧ p ≤ 32)

/-- A Type-C port: downstream 1 to 32, upstream U0 to U3 as 33 to 36 (R6). -/
def Operand.ccPortOk (p : Nat) : Bool := decide (1 ≤ p ∧ p ≤ 36)

/-- A port, or 0 where the boundary has none (R101). -/
def Operand.ccPortOrZeroOk (p : Nat) : Bool := decide (p ≤ 36)

/-- A downstream port, or 0 for the feed entry (R297, R315). -/
def Operand.senseOk (p : Nat) : Bool := decide (p ≤ 32)

/-- A partition, 0 to 3 (R6). -/
def Operand.partitionOk (k : Nat) : Bool := decide (k < 4)

/-- A mailbox channel (R429, R430). -/
def Operand.channelOk (ch : Nat) : Bool := decide (ch ≤ 10)

/-- A core, 0 to 4 (R373). -/
def Operand.coreOk (c : Nat) : Bool := decide (c ≤ 4)

/-- Currants 0 to 3 and Sloe, as 4 (R94). -/
def Operand.usbDieOk (d : Nat) : Bool := decide (d < 5)

/-- A domain that switches, 2 to 10 (R65). -/
def Operand.domainOk (d : Nat) : Bool := decide (2 ≤ d ∧ d ≤ 10)

/-- A DMA channel or a Currant, 0 to 3 (R397, R94). -/
def Operand.dmaOk (d : Nat) : Bool := decide (d < 4)

/-- A D2D link, 1 to 7 (R120). -/
def Operand.d2dOk (d : Nat) : Bool := decide (1 ≤ d ∧ d ≤ 7)

/-- A snapshot, 0 to 7 (R110). -/
def Operand.snapOk (k : Nat) : Bool := decide (k < 8)

/-- A feed or a Bilberry, 0 or 1 (R299, R360). -/
def Operand.feedOk (k : Nat) : Bool := decide (k < 2)

/-- A trace memory: Bilberry 0, Bilberry 1, shared SRAM (R360). -/
def Operand.traceOk (k : Nat) : Bool := decide (k ≤ 2)

/-- A Chord link, 0 to 5 (R317). -/
def Operand.linkOk (l : Nat) : Bool := decide (l < 6)

/-- A master (R112). -/
def Operand.masterOk (m : Nat) : Bool := decide (m ≤ 10)

/-- The width of an access in bytes (R100). -/
def Operand.widthOk (n : Nat) : Bool := decide (n = 1 ∨ n = 2 ∨ n = 4)

/-- A USB device address. -/
def Operand.addrOk (a : Nat) : Bool := decide (a < 128)

/-- A USB endpoint number. -/
def Operand.epOk (e : Nat) : Bool := decide (e < 16)

/-- A byte. -/
def Operand.byteOk (v : Nat) : Bool := decide (v < 256)

/-- A 16-bit value. -/
def Operand.halfOk (v : Nat) : Bool := decide (v < 65536)

/-- A 32-bit value. -/
def Operand.wordOk (v : Nat) : Bool := decide (v < 4294967296)

/-- A 64-bit value. -/
def Operand.dwordOk (v : Nat) : Bool := decide (v < 18446744073709551616)

/-- Bytes. -/
def Operand.bytesOk (l : List Nat) : Bool := l.all Operand.byteOk

/-- The four samples of the straps: 16-bit words (R44). -/
def Operand.samplesOk (l : List Nat) : Bool := decide (l.length = 4) && l.all Operand.halfOk

/-- An Rp code (R218): 0 none, 1 Default, 2 1.5 A, 3 3.0 A. -/
def Operand.rpOk (r : Nat) : Bool := decide (r ≤ 3)

/-- Ports named beside the command's own. -/
def Operand.portsOk (l : List Nat) : Bool := l.all Operand.ccPortOk

/-- Fault sources (R402). -/
def Operand.sourcesOk (l : List Nat) : Bool := l.all Operand.halfOk

/-- Values that hardware changes on the clock edge of a write (R108): each fits a register. -/
def Operand.changesOk (l : List HwChange) : Bool := l.all (fun h => Operand.wordOk h.value)

/-- A packet at a tap (R350): its bytes are bytes, its tap, speed and partition are ones the part has. -/
def Operand.packetOk (x : TapPacket) : Bool :=
  Operand.bytesOk x.bytes && decide (x.tap < 2) && decide (x.speed < 3) && decide (x.part < 4) && Operand.dwordOk x.ct

/-- What a port measures (R297): each reading fits a register. -/
def Operand.sampleOk (x : PortSample) : Bool :=
  Operand.halfOk x.vout && Operand.halfOk x.vbus && Operand.halfOk x.vbrd && Operand.halfOk x.sinkBus && Operand.halfOk x.pathDrop

end Sys2Proof.Machine
end

