-- ==== Sys2Proof/WellFormed.lean ====
section
/-! DEFINITION. The commands that the outside can send: every operand within what its source can supply (log entry 1).
No meaning relies on it: a command with an operand outside its range runs as the meaning says. -/

namespace Sys2Proof

open Sys2Proof.Machine

/-- Every operand of the command lies in its range. -/
def Instr.wf : Instr → Bool
  | .powerOn dies samples _ _ => Operand.wordOk dies && Operand.samplesOk samples
  | .firmwareStart _ _ => true
  | .pinReset => true
  | .brownout rail => Operand.wordOk rail
  | .deadBatteryBoot dies rp samples _ => Operand.wordOk dies && Operand.rpOk rp && Operand.samplesOk samples
  | .deadBatteryHandover => true
  | .deadBatteryLoss _ => true
  | .dormantEntryStep _ => true
  | .rtcAlarmReached => true
  | .vbatLoss => true
  | .referenceLost => true
  | .clockLoss => true
  | .pllLock => true
  | .recoveredReferenceSwitch => true
  | .throttleStageChange stage => Operand.wordOk stage
  | .thermalReset => true
  | .currantDieTempStage d stage _ => Operand.usbDieOk d && Operand.wordOk stage
  | .domainSwitchOn d => Operand.domainOk d
  | .domainSwitchOff d => Operand.domainOk d
  | .d2dFrameResend d _ => Operand.d2dOk d
  | .d2dLinkLost d => Operand.d2dOk d
  | .d2dLinkRetrained d => Operand.d2dOk d
  | .d2dLoss1ms d => Operand.d2dOk d
  | .absentBlockAccess m a n _ => Operand.masterOk m && Operand.wordOk a && Operand.widthOk n
  | .violation m a n _ => Operand.masterOk m && Operand.wordOk a && Operand.widthOk n
  | .core0Violation a n _ => Operand.wordOk a && Operand.widthOk n
  | .thaw mask => Operand.wordOk mask
  | .registerWrite m a n data hw => Operand.masterOk m && Operand.wordOk a && Operand.widthOk n && Operand.wordOk data && Operand.changesOk hw
  | .aliasWrite _ m a n data hw => Operand.masterOk m && Operand.wordOk a && Operand.widthOk n && Operand.wordOk data && Operand.changesOk hw
  | .stagedWriteApply _ k hw => Operand.ccPortOrZeroOk k && Operand.changesOk hw
  | .holdRelease _ j hw => Operand.wordOk j && Operand.changesOk hw
  | .snapReq k sel => Operand.snapOk k && Operand.wordOk sel
  | .snapCapture k => Operand.snapOk k
  | .snapHiRead k => Operand.snapOk k
  | .epochTrackUpdate => true
  | .upstreamBusReset k => Operand.partitionOk k
  | .upstreamDetach k => Operand.partitionOk k
  | .hostPresenceChange k _ => Operand.partitionOk k
  | .hsChirpHandshake k _ => Operand.partitionOk k
  | .partitionSuspend k => Operand.partitionOk k
  | .hostResume k => Operand.partitionOk k
  | .sofReceived k frame uframe => Operand.partitionOk k && Operand.wordOk frame && Operand.wordOk uframe
  | .getPortStatus k p => Operand.partitionOk k && Operand.byteOk p
  | .setPortPower k p => Operand.partitionOk k && Operand.byteOk p
  | .clearPortPower k p => Operand.partitionOk k && Operand.byteOk p
  | .setPortReset k p => Operand.partitionOk k && Operand.byteOk p
  | .setPortSuspend k p => Operand.partitionOk k && Operand.byteOk p
  | .clearPortSuspend k p => Operand.partitionOk k && Operand.byteOk p
  | .clearPortEnable k p => Operand.partitionOk k && Operand.byteOk p
  | .setPortTest k p selector => Operand.partitionOk k && Operand.byteOk p && Operand.byteOk selector
  | .portIndicatorRequest k => Operand.partitionOk k
  | .clearPortChange k p b => Operand.partitionOk k && Operand.byteOk p && Operand.byteOk b
  | .setAndTestPortL1 k p besl addr _ _ => Operand.partitionOk k && Operand.byteOk p && Operand.wordOk besl && Operand.addrOk addr
  | .clearPortL1 k p => Operand.partitionOk k && Operand.byteOk p
  | .clearTtBuffer k ttPort addr ep _ _ => Operand.partitionOk k && Operand.wordOk ttPort && Operand.addrOk addr && Operand.epOk ep
  | .resetTt k ttPort => Operand.partitionOk k && Operand.wordOk ttPort
  | .stopTt k ttPort => Operand.partitionOk k && Operand.wordOk ttPort
  | .getTtState k ttPort flags len => Operand.partitionOk k && Operand.wordOk ttPort && Operand.byteOk flags && Operand.wordOk len
  | .setInterfaceAlt k alt => Operand.partitionOk k && Operand.byteOk alt
  | .deviceConnect p _ => Operand.portOk p
  | .deviceDisconnect p => Operand.portOk p
  | .resetDriveEnd p _ => Operand.portOk p
  | .chirpDeviceK p microseconds => Operand.portOk p && Operand.wordOk microseconds
  | .babbleOrLoa p => Operand.portOk p
  | .lpmAck p besl addr _ => Operand.portOk p && Operand.wordOk besl && Operand.addrOk addr
  | .deviceRemoteWake p _ => Operand.portOk p
  | .resumeDriveEnd p => Operand.portOk p
  | .eorSent p => Operand.portOk p
  | .hostResumeEnd k => Operand.partitionOk k
  | .packetTransmit p _ => Operand.portOk p
  | .switchSettleEnd p => Operand.portOk p
  | .isolationCauseChange p => Operand.portOk p
  | .dataOvTrip p => Operand.portOk p
  | .dataOvRelease p stage => Operand.portOk p && Operand.wordOk stage
  | .dswRearm p => Operand.portOk p
  | .dpeIsolateWrite p _ => Operand.portOk p
  | .dpeQuarSet p => Operand.portOk p
  | .dpeQuarRelease p => Operand.portOk p
  | .dswStgo p => Operand.portOk p
  | .selftestEnd p _ => Operand.portOk p
  | .glitchGo p => Operand.portOk p
  | .glitchPulseDue p _ => Operand.portOk p
  | .chirpArmExpiry p => Operand.portOk p
  | .assignWrite p v => Operand.portOk p && Operand.wordOk v
  | .hardMove p v => Operand.portOk p && Operand.wordOk v
  | .migctlGo => true
  | .migrationSourceBoundary p => Operand.portOk p
  | .migrationDestBoundary p => Operand.portOk p
  | .keepaliveSof p => Operand.portOk p
  | .migrationDestReset p => Operand.portOk p
  | .migrationTimeout p => Operand.portOk p
  | .migrationAbort p cause => Operand.portOk p && Operand.wordOk cause
  | .ttFrameStart p => Operand.portOk p
  | .ssplitNonperiodic k p addr ep _ _ bytes => Operand.partitionOk k && Operand.byteOk p && Operand.addrOk addr && Operand.epOk ep && Operand.bytesOk bytes
  | .csplitNonperiodic k p addr ep _ _ => Operand.partitionOk k && Operand.byteOk p && Operand.addrOk addr && Operand.epOk ep
  | .ssplitPeriodic k p addr ep _ _ _ due bytes rivals => Operand.partitionOk k && Operand.byteOk p && Operand.addrOk addr && Operand.epOk ep && Operand.wordOk due && Operand.bytesOk bytes && Operand.portsOk rivals
  | .csplitPeriodic k p addr ep _ _ _ came => Operand.partitionOk k && Operand.byteOk p && Operand.addrOk addr && Operand.epOk ep && Operand.bytesOk came
  | .badSplit k p => Operand.partitionOk k && Operand.byteOk p
  | .ttTransactionStart p uframe _ _ corrected => Operand.portOk p && Operand.wordOk uframe && Operand.wordOk corrected
  | .ttTransactionEnd p result bytes _ => Operand.portOk p && Operand.wordOk result && Operand.bytesOk bytes
  | .periodicContextRelease p addr ep _ _ => Operand.portOk p && Operand.addrOk addr && Operand.epOk ep
  | .periodicAbandon p addr ep _ _ => Operand.portOk p && Operand.addrOk addr && Operand.epOk ep
  | .poolUncorrectable n => Operand.halfOk n
  | .port33ConnectApply k _ => Operand.partitionOk k
  | .port33ResetEnd k => Operand.partitionOk k
  | .port33ResumeEnd k => Operand.partitionOk k
  | .port33RemoteWake k _ => Operand.partitionOk k
  | .mfEp0Setup k requestType requestCode value index length _ => Operand.partitionOk k && Operand.byteOk requestType && Operand.byteOk requestCode && Operand.halfOk value && Operand.halfOk index && Operand.halfOk length
  | .getDescriptorReady k _ => Operand.partitionOk k
  | .controlAbandon k => Operand.partitionOk k
  | .ep1OutPacket k bytes _ _ => Operand.partitionOk k && Operand.bytesOk bytes
  | .ep1Ping k => Operand.partitionOk k
  | .ep1FrameComplete k => Operand.partitionOk k
  | .ep2ResponseSent k => Operand.partitionOk k
  | .ep3NoticePacket k n _ => Operand.partitionOk k && Operand.halfOk n
  | .noticeRaised typ data => Operand.wordOk typ && Operand.wordOk data
  | .ep4TransferAck k one two _ => Operand.partitionOk k && Operand.wordOk one && Operand.wordOk two
  | .ccSample p cc1 cc2 vbus current vin rivals => Operand.ccPortOk p && Operand.wordOk cc1 && Operand.wordOk cc2 && Operand.wordOk vbus && Operand.wordOk current && Operand.wordOk vin && Operand.portsOk rivals
  | .tccdebounceExpiry p => Operand.ccPortOk p
  | .tpddebounceExpiry p => Operand.ccPortOk p
  | .drpToggle p => Operand.ccPortOk p
  | .sinkVbusLoss p vbus => Operand.ccPortOk p && Operand.wordOk vbus
  | .errorRecoveryEnd p => Operand.ccPortOk p
  | .disabledCauseArises p bit => Operand.ccPortOk p && Operand.wordOk bit
  | .disabledExit p => Operand.ccPortOk p
  | .rpReevaluate p => Operand.ccPortOk p
  | .ccOvTrip p => Operand.ccPortOk p
  | .ccOvRelease p => Operand.ccPortOk p
  | .vconnTrip p => Operand.ccPortOk p
  | .vconnApply p => Operand.portOk p
  | .vcrearmWrite p => Operand.ccPortOk p
  | .discoveryAttempt p _ => Operand.ccPortOk p
  | .discgoWrite p => Operand.ccPortOk p
  | .discoverIdentityAck p idHeader vdo _ => Operand.ccPortOk p && Operand.wordOk idHeader && Operand.wordOk vdo
  | .pdTransmit p outcome => Operand.ccPortOk p && Operand.wordOk outcome
  | .goodcrcTimeout p _ => Operand.ccPortOk p
  | .pdMessageReceived p sop hdr extHdr _ bytes => Operand.ccPortOk p && Operand.wordOk sop && Operand.wordOk hdr && Operand.wordOk extHdr && Operand.bytesOk bytes
  | .rxRelease p => Operand.ccPortOk p
  | .sourceCapabilitiesSend p _ => Operand.ccPortOk p
  | .sourceCapRepeat p _ => Operand.ccPortOk p
  | .senderResponseTimeout p => Operand.ccPortOk p
  | .request p _ pos volt curr _ rev => Operand.ccPortOk p && Operand.wordOk pos && Operand.wordOk volt && Operand.wordOk curr && Operand.wordOk rev
  | .budgetFreedOffer p => Operand.ccPortOk p
  | .transitionPsRdy p => Operand.ccPortOk p
  | .ppsTimeout p => Operand.ccPortOk p
  | .eprModeEnter p => Operand.ccPortOk p
  | .eprEntryCheck p => Operand.ccPortOk p
  | .eprKeepalive p => Operand.ccPortOk p
  | .eprKeepaliveTimeout p => Operand.ccPortOk p
  | .eprModeExit p _ => Operand.ccPortOk p
  | .prSwapReceived p rivals rev => Operand.ccPortOk p && Operand.portsOk rivals && Operand.wordOk rev
  | .swapSourceOff p => Operand.ccPortOk p
  | .swapVsafe0 p => Operand.ccPortOk p
  | .swapPartnerPsRdy p => Operand.ccPortOk p
  | .swapTimeout p => Operand.ccPortOk p
  | .sinkToSourceVsafe5 p => Operand.ccPortOk p
  | .vconnSwapReceived p _ rev => Operand.ccPortOk p && Operand.wordOk rev
  | .drSwapReceived p rev => Operand.ccPortOk p && Operand.wordOk rev
  | .hardReset p _ => Operand.ccPortOk p
  | .hardResetVbusOff p => Operand.ccPortOk p
  | .hardResetRecover p => Operand.ccPortOk p
  | .noResponseTimeout p => Operand.ccPortOk p
  | .holdResponderStart p => Operand.ccPortOk p
  | .policyEngineStart p => Operand.ccPortOk p
  | .feed48Change vin => Operand.wordOk vin
  | .vbusRequest p => Operand.portOk p
  | .softstartDone p => Operand.portOk p
  | .gateFullyOn p => Operand.portOk p
  | .tqualComplete p => Operand.portOk p
  | .limitEngage p _ => Operand.portOk p
  | .faultTimerExpiry p => Operand.portOk p
  | .fastTrip p _ => Operand.portOk p
  | .overloadExhausted p => Operand.portOk p
  | .vbusOvervoltage p v => Operand.portOk p && Operand.wordOk v
  | .reverseCurrent p i => Operand.portOk p && Operand.byteOk i
  | .buckPeakFault p => Operand.portOk p
  | .vsetChange p => Operand.portOk p
  | .transitionComplete p => Operand.portOk p
  | .transitionTimeout p => Operand.portOk p
  | .ppsUndervoltage p => Operand.portOk p
  | .fetThermalTrip p => Operand.portOk p
  | .ntcFault p _ => Operand.senseOk p
  | .thermalModelUpdate p x => Operand.senseOk p && Operand.sampleOk x
  | .retryStart p => Operand.portOk p
  | .retryReload p => Operand.portOk p
  | .dischargeDone p => Operand.portOk p
  | .dischargeTimeout p => Operand.portOk p
  | .clrlatch p => Operand.portOk p
  | .voffWrite p _ => Operand.portOk p
  | .sinkEntry p => Operand.portOk p
  | .sinkFault p cause => Operand.portOk p && Operand.wordOk cause
  | .vbrdUvOv n _ _ => Operand.dmaOk n
  | .fswStep n => Operand.dmaOk n
  | .feedReverseOff k => Operand.feedOk k
  | .feedPresenceChange k volt vinOr _ => Operand.feedOk k && Operand.wordOk volt && Operand.wordOk vinOr
  | .seatQualified vinOr => Operand.wordOk vinOr
  | .seatLoss _ _ => true
  | .hsGateOn => true
  | .hsQualDone => true
  | .hsLimitEngage i => Operand.byteOk i
  | .hsFault cause i => Operand.wordOk cause && Operand.byteOk i
  | .hsRetry => true
  | .hsUndervoltage vinOr => Operand.wordOk vinOr
  | .hsUvRecover vinOr => Operand.wordOk vinOr
  | .surge vinOr => Operand.wordOk vinOr
  | .surgeEnd vinOr micros => Operand.wordOk vinOr && Operand.wordOk micros
  | .hsClrlatch => true
  | .hsRetryReload => true
  | .entHctlWrite _ _ _ => true
  | .pgBrdFall => true
  | .brdoffPortRelease => true
  | .sagStart vinOr => Operand.wordOk vinOr
  | .sagRenegotiate => true
  | .sagEnd vmin ms => Operand.wordOk vmin && Operand.wordOk ms
  | .pbrdAverage rest => Operand.wordOk rest
  | .shedVictim => true
  | .shedRelease => true
  | .reservationRelease i => Operand.byteOk i
  | .chordSignalDetect l => Operand.linkOk l
  | .chordTrained l => Operand.linkOk l
  | .chordIdent l _ _ _ depth sync addr lo hi => Operand.linkOk l && Operand.wordOk depth && Operand.wordOk sync && Operand.wordOk addr && Operand.halfOk lo && Operand.halfOk hi
  | .chordIdentRetry l => Operand.linkOk l
  | .chordMeasureDone l => Operand.linkOk l
  | .chordLinkFail l cause => Operand.linkOk l && Operand.wordOk cause
  | .marker l sync depth ct localCt _ => Operand.linkOk l && Operand.wordOk sync && Operand.wordOk depth && Operand.dwordOk ct && Operand.dwordOk localCt
  | .delayExchange l _ _ _ _ => Operand.linkOk l
  | .ctCorrection => true
  | .chordLock => true
  | .apexLock => true
  | .holdoverStart => true
  | .holdmaxExpiry => true
  | .failover => true
  | .revert => true
  | .adoptFrame l lo hi hops => Operand.linkOk l && Operand.halfOk lo && Operand.halfOk hi && Operand.wordOk hops
  | .releaseFrame l lo hi => Operand.linkOk l && Operand.halfOk lo && Operand.halfOk hi
  | .rangeChange lo hi => Operand.halfOk lo && Operand.halfOk hi
  | .chordCmdFrame l id mode dest hops bytes => Operand.linkOk l && Operand.halfOk id && Operand.wordOk mode && Operand.wordOk dest && Operand.wordOk hops && Operand.bytesOk bytes
  | .chordAcceptTimeout id => Operand.halfOk id
  | .chordCmdTimeout id => Operand.halfOk id
  | .chordResponse l id bytes => Operand.linkOk l && Operand.halfOk id && Operand.bytesOk bytes
  | .broadcastMerge id => Operand.halfOk id
  | .ctPpsEdge => true
  | .tatAdd => true
  | .tatCancel => true
  | .tatQueueLoad => true
  | .tatLaunch => true
  | .tatLateLaunch => true
  | .maskWindowEnd i p => Operand.byteOk i && Operand.portOk p
  | .entryFree i => Operand.byteOk i
  | .packetCapture x => Operand.packetOk x
  | .dropRecordWrite => true
  | .traceTrigger cause id value => Operand.wordOk cause && Operand.halfOk id && Operand.wordOk value
  | .postTriggerDone => true
  | .traceMemoryFull payload => Operand.wordOk payload
  | .trcStart => true
  | .trcStop => true
  | .trcTrig => true
  | .trcClear => true
  | .trcMarkWrite value => Operand.wordOk value
  | .scrubTick k one two _ => Operand.feedOk k && Operand.wordOk one && Operand.wordOk two
  | .traceUncorrectable k addr _ => Operand.traceOk k && Operand.wordOk addr
  | .faultEvent => true
  | .faultWindowClose id => Operand.halfOk id
  | .wireFault id => Operand.halfOk id
  | .fcClr id _ => Operand.halfOk id
  | .fcInjEvent id _ => Operand.halfOk id
  | .fcInjWire id => Operand.halfOk id
  | .fcScfgWrite n w react _ => Operand.halfOk n && Operand.wordOk w && Operand.wordOk react
  | .fcSelftestGo => true
  | .fcSelftestEnd failed => Operand.sourcesOk failed
  | .logRecordWrite => true
  | .logSubmit => true
  | .interruptEdge n pins => Operand.byteOk n && Operand.wordOk pins
  | .interruptEntry c pc _ => Operand.coreOk c && Operand.wordOk pc
  | .icComplete c level => Operand.coreOk c && Operand.wordOk level
  | .moderationExpiry n _ => Operand.byteOk n
  | .icTimerWrite c count => Operand.coreOk c && Operand.wordOk count
  | .icTimerZero c => Operand.coreOk c
  | .icKick c => Operand.coreOk c
  | .watchdogHalf c => Operand.coreOk c
  | .watchdogExpiry c => Operand.coreOk c
  | .trapStackOverflow c => Operand.coreOk c
  | .tcmUncorrectable c pc a _ _ => Operand.coreOk c && Operand.wordOk pc && Operand.wordOk a
  | .corectlResetWrite c _ => Operand.coreOk c
  | .serviceCoreReset c why => Operand.coreOk c && Operand.wordOk why
  | .policyImageLoad c => Operand.coreOk c
  | .loaderGo c => Operand.coreOk c
  | .loaderHalt c => Operand.coreOk c
  | .dmaGo d => Operand.dmaOk d
  | .dmaStop d words => Operand.dmaOk d && Operand.wordOk words
  | .dmaEnd d => Operand.dmaOk d
  | .qspiHashStart => true
  | .qspiHashEnd _ => true
  | .qspiEraseSector => true
  | .qspiEraseBlock => true
  | .qspiProgram => true
  | .qspiOpEnd _ => true
  | .nvmErase => true
  | .nvmProgram => true
  | .nvmOpEnd _ => true
  | .calCommitEnd _ => true
  | .spiWrite bytes => Operand.bytesOk bytes
  | .spiStatus => true
  | .spiRead n => Operand.halfOk n
  | .spiBadOpcode opcode => Operand.byteOk opcode
  | .i2cWrite bytes => Operand.bytesOk bytes
  | .i2cStatus => true
  | .i2cRead n => Operand.halfOk n
  | .localMailboxGo c => Operand.coreOk c
  | .localMailboxAck c => Operand.coreOk c
  | .commandStart ch => Operand.channelOk ch
  | .portLockRelease ch => Operand.channelOk ch
  | .sysInfo ch => Operand.channelOk ch
  | .sysReset ch => Operand.channelOk ch
  | .sysDormant ch => Operand.channelOk ch
  | .sysDomain ch => Operand.channelOk ch
  | .sysPart ch => Operand.channelOk ch
  | .sysNotices ch => Operand.channelOk ch
  | .sysThaw ch => Operand.channelOk ch
  | .sysFwBegin ch _ => Operand.channelOk ch
  | .sysFwData ch _ => Operand.channelOk ch
  | .sysFwEnd ch _ => Operand.channelOk ch
  | .sysFwStatus ch => Operand.channelOk ch
  | .sysCfgSave ch _ => Operand.channelOk ch
  | .portStatus ch => Operand.channelOk ch
  | .portAssign ch => Operand.channelOk ch
  | .portMigrate ch => Operand.channelOk ch
  | .portIsolate ch => Operand.channelOk ch
  | .portRestore ch => Operand.channelOk ch
  | .portQuarantine ch => Operand.channelOk ch
  | .portQuarantineRelease ch => Operand.channelOk ch
  | .portSelftest ch => Operand.channelOk ch
  | .portSelftestResults ch => Operand.channelOk ch
  | .portGlitch ch => Operand.channelOk ch
  | .portVbus ch => Operand.channelOk ch
  | .portLatchclr ch => Operand.channelOk ch
  | .portCc ch => Operand.channelOk ch
  | .portCfg ch => Operand.channelOk ch
  | .portTtalloc ch => Operand.channelOk ch
  | .pdStatus ch => Operand.channelOk ch
  | .pdStatusQuery ch => Operand.channelOk ch
  | .pdCfg ch => Operand.channelOk ch
  | .pdProfileRead ch => Operand.channelOk ch
  | .pdProfileWrite ch => Operand.channelOk ch
  | .pdSwapPr ch => Operand.channelOk ch
  | .pdSwapVconn ch => Operand.channelOk ch
  | .pdResetSoft ch => Operand.channelOk ch
  | .pdResetHard ch => Operand.channelOk ch
  | .pdResetCable ch => Operand.channelOk ch
  | .pdSinkcfg ch => Operand.channelOk ch
  | .pdSlot ch _ => Operand.channelOk ch
  | .pwrStatus ch => Operand.channelOk ch
  | .pwrGovcfg ch => Operand.channelOk ch
  | .pwrPrio ch => Operand.channelOk ch
  | .pwrPortcfg ch => Operand.channelOk ch
  | .pwrFeedctl ch => Operand.channelOk ch
  | .pwrEnergy ch => Operand.channelOk ch
  | .timeGet ch => Operand.channelOk ch
  | .timeSet ch => Operand.channelOk ch
  | .timeAdd ch => Operand.channelOk ch
  | .timeCancel ch => Operand.channelOk ch
  | .timeList ch => Operand.channelOk ch
  | .timeSof ch => Operand.channelOk ch
  | .traceStatus ch => Operand.channelOk ch
  | .traceCfg ch => Operand.channelOk ch
  | .traceCtlStart ch => Operand.channelOk ch
  | .traceCtlStop ch => Operand.channelOk ch
  | .traceCtlTrig ch => Operand.channelOk ch
  | .traceCtlClear ch => Operand.channelOk ch
  | .traceCtlMark ch => Operand.channelOk ch
  | .traceRead ch one two => Operand.channelOk ch && Operand.wordOk one && Operand.wordOk two
  | .faultStatus ch => Operand.channelOk ch
  | .faultStatusList ch => Operand.channelOk ch
  | .faultCfg ch => Operand.channelOk ch
  | .faultClear ch => Operand.channelOk ch
  | .faultInject ch => Operand.channelOk ch
  | .faultSelftest ch => Operand.channelOk ch
  | .faultSummary ch => Operand.channelOk ch
  | .faultLog ch => Operand.channelOk ch
  | .calExport ch => Operand.channelOk ch
  | .calWrite ch => Operand.channelOk ch
  | .calWriteCommit ch => Operand.channelOk ch
  | .regRead ch => Operand.channelOk ch
  | .regWrite ch => Operand.channelOk ch
  | .chordStatus ch => Operand.channelOk ch
  | .chordCfg ch => Operand.channelOk ch
  | .chordLink ch => Operand.channelOk ch
  | .chordGatherRead ch => Operand.channelOk ch
  | .gather ch => Operand.channelOk ch
  | .bootRailsValid samples _ => Operand.samplesOk samples
  | .sysRstNRelease samples _ => Operand.samplesOk samples
  | .railEnStep => true
  | .thermalResetRelease => true
  | .referenceReturn _ => true
  | .railMonitorChange which _ => Operand.wordOk which
  | .d2dLinkTrained d => Operand.d2dOk d
  | .hubDeviceRequest k requestType requestCode value length => Operand.partitionOk k && Operand.byteOk requestType && Operand.byteOk requestCode && Operand.halfOk value && Operand.halfOk length
  | .sinkRequestRetry p => Operand.ccPortOk p
  | .ovldxClear p => Operand.portOk p
  | .sramUncorrectable a => Operand.wordOk a
  | .wireFaultEnd id => Operand.halfOk id
  | .mret c => Operand.coreOk c
  | .synchronousException c pc cause _ => Operand.coreOk c && Operand.wordOk pc && Operand.wordOk cause

end Sys2Proof
end

