-- ==== Sys2Proof/Tests/Slice0.lean ====
section
/-! SUPPORT. Tests: small states, an ill-formed command for each check of WellFormed, the spec's worked examples, and for
each statement a state and operands that meet the hypotheses of each of its clauses. -/

namespace Sys2Proof.Tests

open Sys2Proof Sys2Proof.Machine

set_option linter.unusedVariables false

/-! ### Small states -/

/-- A state with every die fitted and every domain on: the D2D links up, the PLL locked, system firmware running. -/
def bench (s : State) : State :=
  let s := { s with power := { s.power with aon := true, rstN := true, hot := false, testEn := false, boot := .firmware, dies := 127, dormancy := .awake } }
  let s := ((s.setFld F.SYS_ID_DIES 0 127).setFld F.PMU_DOMSTAT_ON 0 2047).setFld F.PMU_DOMSTAT_CHANGING 0 0
  let s := s.each [1, 2, 3, 4, 5, 6, 7] (fun s d => s.setFld F.D2D_LSTAT_STATE d 3)
  let s := s.each [0, 1, 2, 3, 4] (fun s d => s.put F.DIE_STAT_D2DUP d true)
  (s.put F.PMU_CLKSTAT_PLL_LOCK 0 true).put F.PMU_RAILSTAT_BOOT_OK 0 true

/-- Port `p` assigned to partition `k`, whose host is there, its engine in a state. -/
def benchPort (s : State) (k p : Nat) (d : Dpe) : State :=
  let s := (({ bench s with migs := [] }.put F.PART_PSTAT_ATTACHED k true).put F.PART_PSTAT_HOST k true).setPart p k
  (s.setFld F.DPE_STATE_STATE p d.code).setFld F.PART_MIGBUSY_BUSY 0 0

/-- Port `p` attached as source on the bench with its stage in ON: every core runs its image, so its policy answers. -/
def benchPd (s : State) (p : Nat) : State :=
  let s := { bench s with pd := [], cores := [0, 1, 2, 3, 4].map (fun c => (c, { (default : CoreHw) with stage := .running })) }
  let s := (s.setFld F.MPU_FREEZE_FROZEN 0 0).each [0, 1, 2, 3, 4] (fun s c => s.put F.IC_CORECTL_RUNNING c true)
  let s := ((s.setFld F.TCPD_CCSTAT_STATE p 4).put F.TCPD_PDCFG_PD_EN p true).put F.TCPD_PDSTAT_PROLE p true
  ((s.put F.TCPD_PDSTAT_HOLD p false).put F.TCPD_PDSTAT_AMS p false).setFld F.PWR_PSTAT_STATE p 5

/-- Channel `ch` runs the command `f`, on the bench. -/
def benchMbx (s : State) (ch : Nat) (f : Frame) : State :=
  { (bench s).put F.TGT_STAT_ACTIVE 1 (ch = 1) with mbx := [(ch, { (default : Channel) with running := some f })] }

/-- A frame for this unit. -/
def mbxFrame (code opt : Nat) (payload : List Nat) : Frame := ⟨code, 5, 16 + 256 * opt, 0, 0, 0, payload⟩

/-! ### Ill-formed commands -/

theorem test_wf_port : Instr.wf (.deviceDisconnect 33 : Instr) = false ∧
    Instr.wf (.deviceDisconnect 32 : Instr) = true := by decide
theorem test_wf_ccPort : Instr.wf (.tccdebounceExpiry 37 : Instr) = false ∧
    Instr.wf (.tccdebounceExpiry 36 : Instr) = true := by decide
theorem test_wf_ccPortOrZero : Instr.wf (.stagedWriteApply .f 37 [] : Instr) = false ∧
    Instr.wf (.stagedWriteApply .f 0 [] : Instr) = true := by decide
theorem test_wf_sense : Instr.wf (.ntcFault 33 false : Instr) = false ∧
    Instr.wf (.ntcFault 0 false : Instr) = true := by decide
theorem test_wf_partition : Instr.wf (.upstreamBusReset 4 : Instr) = false ∧
    Instr.wf (.upstreamBusReset 3 : Instr) = true := by decide
theorem test_wf_channel : Instr.wf (.commandStart 11 : Instr) = false ∧
    Instr.wf (.commandStart 10 : Instr) = true := by decide
theorem test_wf_core : Instr.wf (.icTimerZero 5 : Instr) = false ∧
    Instr.wf (.icTimerZero 4 : Instr) = true := by decide
theorem test_wf_usbDie : Instr.wf (.currantDieTempStage 5 4294967295 0 : Instr) = false ∧
    Instr.wf (.currantDieTempStage 4 4294967295 0 : Instr) = true := by decide
theorem test_wf_domain : Instr.wf (.domainSwitchOn 11 : Instr) = false ∧
    Instr.wf (.domainSwitchOn 2 : Instr) = true := by decide
theorem test_wf_dma : Instr.wf (.fswStep 4 : Instr) = false ∧
    Instr.wf (.fswStep 3 : Instr) = true := by decide
theorem test_wf_d2d : Instr.wf (.d2dLinkLost 8 : Instr) = false ∧
    Instr.wf (.d2dLinkLost 1 : Instr) = true := by decide
theorem test_wf_snap : Instr.wf (.snapCapture 8 : Instr) = false ∧
    Instr.wf (.snapCapture 7 : Instr) = true := by decide
theorem test_wf_feed : Instr.wf (.feedReverseOff 2 : Instr) = false ∧
    Instr.wf (.feedReverseOff 1 : Instr) = true := by decide
theorem test_wf_trace : Instr.wf (.traceUncorrectable 3 4294967295 none : Instr) = false ∧
    Instr.wf (.traceUncorrectable 2 4294967295 none : Instr) = true := by decide
theorem test_wf_link : Instr.wf (.chordSignalDetect 6 : Instr) = false ∧
    Instr.wf (.chordSignalDetect 5 : Instr) = true := by decide
theorem test_wf_master : Instr.wf (.absentBlockAccess 11 4294967295 4 .load : Instr) = false ∧
    Instr.wf (.absentBlockAccess 10 4294967295 4 .load : Instr) = true := by decide
theorem test_wf_width : Instr.wf (.core0Violation 4294967295 3 .load : Instr) = false ∧
    Instr.wf (.core0Violation 4294967295 4 .load : Instr) = true := by decide
theorem test_wf_addr : Instr.wf (.lpmAck 32 4294967295 128 false : Instr) = false ∧
    Instr.wf (.lpmAck 32 4294967295 127 false : Instr) = true := by decide
theorem test_wf_ep : Instr.wf (.periodicContextRelease 32 127 16 false false : Instr) = false ∧
    Instr.wf (.periodicContextRelease 32 127 15 false false : Instr) = true := by decide
theorem test_wf_byte : Instr.wf (.reservationRelease 256 : Instr) = false ∧
    Instr.wf (.reservationRelease 255 : Instr) = true := by decide
theorem test_wf_half : Instr.wf (.poolUncorrectable 65536 : Instr) = false ∧
    Instr.wf (.poolUncorrectable 65535 : Instr) = true := by decide
theorem test_wf_word : Instr.wf (.brownout 4294967296 : Instr) = false ∧
    Instr.wf (.brownout 4294967295 : Instr) = true := by decide
theorem test_wf_dword : Instr.wf (.marker 5 4294967295 4294967295 18446744073709551616 18446744073709551616 false : Instr) = false ∧
    Instr.wf (.marker 5 4294967295 4294967295 18446744073709551615 18446744073709551615 false : Instr) = true := by decide
theorem test_wf_bytes : Instr.wf (.spiWrite [256] : Instr) = false ∧
    Instr.wf (.spiWrite [255] : Instr) = true := by decide
theorem test_wf_samples : Instr.wf (.bootRailsValid [65536, 0, 0, 0] false : Instr) = false ∧
    Instr.wf (.bootRailsValid [65535, 0, 0, 0] false : Instr) = true := by decide
theorem test_wf_ports : Instr.wf (.prSwapReceived 36 [37] 4294967295 : Instr) = false ∧
    Instr.wf (.prSwapReceived 36 [36] 4294967295 : Instr) = true := by decide
theorem test_wf_sources : Instr.wf (.fcSelftestEnd [65536] : Instr) = false ∧
    Instr.wf (.fcSelftestEnd [65535] : Instr) = true := by decide
theorem test_wf_changes : Instr.wf (.stagedWriteApply .f 0 [⟨default, 0, 4294967296⟩] : Instr) = false ∧
    Instr.wf (.stagedWriteApply .f 0 [] : Instr) = true := by decide
theorem test_wf_packet : Instr.wf (.packetCapture { (default : TapPacket) with tap := 2 } : Instr) = false ∧
    Instr.wf (.packetCapture (default : TapPacket) : Instr) = true := by decide
theorem test_wf_sample : Instr.wf (.thermalModelUpdate 0 ⟨0, 65536, 0, 0, 0, none, 0, 0, 0, false, false⟩ : Instr) = false ∧
    Instr.wf (.thermalModelUpdate 0 ⟨0, 65535, 0, 0, 0, none, 0, 0, 0, false, false⟩ : Instr) = true := by decide
theorem test_wf_samplesLength : Instr.wf (.bootRailsValid [1, 1, 1] false : Instr) = false := by decide

/-! ### The spec's worked examples -/

/-- R319's example: the Apex splits 0 to 65,534, and its down-link 2 gets 32,767 to 49,149. -/
theorem test_example_ranges :
    (State.reset.setRange 0 65534).fld F.CHORD_DNRANGE_DNLO 2 = 32767 ∧
    (State.reset.setRange 0 65534).fld F.CHORD_DNRANGE_DNHI 2 = 49149 ∧
    (State.reset.setRange 32767 49149).fld F.CHORD_DNRANGE_DNLO 1 = 36863 ∧
    (State.reset.setRange 32767 49149).fld F.CHORD_DNRANGE_DNHI 1 = 40957 := by decide

/-- R323's example: timestamps in quarter ticks, ASYM 16; CHORD_LRTT reads 1,824 and CHORD_LOFFS 3,200. -/
theorem test_example_delay :
    ∃ t, exec (.delayExchange 0 4000000 4001026 4005026 4004456)
      (((bench State.reset).setFld F.CHORD_LSTAT_STATE 0 4).setFld F.CHORD_LCTL_ASYM 0 16) = .next t ∧
      t.fld F.CHORD_LRTT_VALUE 0 = 1824 ∧ t.fld F.CHORD_LOFFS_VALUE 0 = 3200 := ⟨_, rfl, by decide⟩

/-- R412's example: the CC over-voltage source of port 5 is 0x1444. -/
theorem test_example_fault_id : fcDefined 0x1444 = true ∧ fcPorts 0x1444 = [5] ∧ fcBlk 0x1444 = 0x11 := by decide

/-- R339's example: the VBUS on entry for 32 ports with RPLVL 2 reserves 480 W. -/
theorem test_example_reservation :
    (((bench State.reset).tatShares [0x1C9C3800, 0x1000, 0xFFFFFFFF, 0x00320202, 0x00078000, 0x10A, 0]).map (·.2)).sum
      = 48000 := by decide

/-- R176's example, from the factory allocation: NPBUF 8, PRES 16 and PMAX 48 for port 5 raise the reserved total from 256 to 272. -/
theorem test_example_ttalloc :
    let s := (bench State.reset).each allPorts (fun s p => (s.setFld F.TT_ALLOC_NPBUF p 4).setFld F.TT_ALLOC_PRES p 4)
    s.reserved = 256 ∧ ((s.setFld F.TT_ALLOC_NPBUF 5 8).setFld F.TT_ALLOC_PRES 5 16).reserved = 272 := by decide +kernel

/-- R176's example: TT_ALLOC of port 5 is at 0x4004_0180. -/
theorem test_example_ttalloc_address :
    ((homeAt 0x40040180).bind (fun h => regAt h 0x40040180)).map
      (fun x => (x.1.fields.contains F.TT_ALLOC_PMAX, x.2)) = some (true, 5) := by decide

/-- R85: 234,375 root-clock ticks are 8 RTC ticks. -/
theorem test_rtc_ratio : (State.reset.advance 234375).power.rtcCount = 8 := by decide

/-- A frame with a wrong CRC is no frame (R438), one that this unit sends is. -/
theorem test_frame_crc :
    crcGood (mbxFrame 0x0101 0 [1, 2]).bytes = true ∧
    crcGood ((mbxFrame 0x0101 0 [1, 2]).bytes.take 17 ++ [3]) = false := by decide +kernel

/-! ### Hypotheses that are met -/

theorem hyps_StepRunsTheFrontCommand :
  (∃ (c : Instr) (rest : List Instr) (s : State), s.pending = c :: rest) := ⟨.thaw 4, [], { State.reset with pending := [.thaw 4] }, by decide⟩

theorem hyps_EmptyQueueIsATick :
  (∃ (s : State) (ch : Nat), s.pending = [] ∧ s.power.resetPending = some ch) ∧
  (∃ (s : State), s.pending = [] ∧ s.power.resetPending = none ∧ s.power.aon = false) ∧
  (∃ (s : State), s.pending = [] ∧ s.power.resetPending = none ∧ s.power.aon = true) :=
  ⟨⟨{ State.reset with power := { State.reset.power with resetPending := some 7 } }, 7, by decide⟩,
    ⟨State.reset, by decide⟩,
    ⟨bench State.reset, by decide⟩⟩

theorem hyps_EveryStepKeepsTheCanonicalForm :
  (∃ (s t : State), s.Canonical ∧ step s = .next t) := ⟨State.reset, State.reset, ⟨by decide, by decide⟩, rfl⟩

theorem hyps_FactorySectorNeverChanges :
  (∃ (s t : State), step s = .next t) := ⟨State.reset, State.reset, rfl⟩

theorem hyps_OnlyUnpredictableStoresStop :
  (∃ (c : Instr) (s : State), c.openRule s = 0) ∧
  (∃ (c : Instr) (s : State), c.openRule s ≠ 0) :=
  ⟨⟨.thaw 4, State.reset, by decide⟩,
    ⟨.registerWrite 0 0x200F8000 4 7 [], (State.reset.put F.MPU_WATTR_W 0 true).setFld F.MPU_WLIMIT_LIMIT 0 0xFFFFF |>.put F.MPU_WATTR_EN 0 true, by decide +kernel⟩⟩

theorem hyps_EveryCommandKeepsTheQueue :
  (∃ (c : Instr) (s t : State), exec c s = .next t) := ⟨.thaw 4, State.reset, State.reset, rfl⟩

theorem hyps_EveryCommandKeepsWhatItDoesNotName :
  (∃ (c : Instr) (s t : State), exec c s = .next t) := ⟨.thaw 4, State.reset, State.reset, rfl⟩

theorem hyps_ResponsesReachTheirChannel :
  (∃ (ch : Nat), ch ≤ 1) ∧
  (∃ (s : State) (k : Nat), k < 4 ∧ s.domOn Dom.fabric = true ∧ (s.mf.at k).waiting = []) ∧
  (∃ (s : State) (i : ChordIn) (rest : List ChordIn), s.chord.inbox = i :: rest ∧ i.mode = 0) ∧
  (∃ (s : State) (c : Nat), 1 ≤ c ∧ c ≤ 4 ∧ s.on F.MBX_LCTL_BUSY c = true ∧ (s.mbx.at (6 + c)).orphan = false) ∧
  (∃ (s : State) (c : Nat), 1 ≤ c ∧ c ≤ 4 ∧ (s.mbx.at (6 + c)).orphan = true) :=
  ⟨⟨1, by decide⟩,
    ⟨bench State.reset, 3, by decide⟩,
    ⟨{ State.reset with chord := { State.reset.chord with inbox := [⟨7, 0, 2⟩] } }, ⟨7, 0, 2⟩, [], by decide⟩,
    ⟨State.reset.put F.MBX_LCTL_BUSY 4 true, 4, by decide⟩,
    ⟨State.reset.updCh 10 (fun r => { r with orphan := true }), 4, by decide⟩⟩

theorem hyps_LoaderHaltIsR382 :
  (∃ (s : State) (c : Nat), 1 ≤ c ∧ c ≤ 4 ∧ s.coreRuns c = true ∧ (s.cores.at c).stage = .loading
    ∧ s.descriptorOk c = false ∧ s.log.queue.length < 64
    ∧ (s.power.broughtUp = true ∨ overlapApplied s (s.loaderHalted c) = false)) := ⟨{ (benchPd State.reset 1).writeWord (descriptor 4) 0 with power := { (bench State.reset).power with broughtUp := State.reset.ct % 2 = 0 }, log := { State.reset.log with queue := [] }, cores := [(4, { (default : CoreHw) with stage := .loading, reloaded := State.reset.ct % 2 = 0 })] }, 4, by decide⟩

theorem hyps_CoincidentInjectionIsR410 :
  (∃ (s : State) (id : Nat) (both : Bool) (e : Raised) (rest : List Raised), both = true ∧ id < 65536
    ∧ s.fc.raised = e :: rest ∧ e.id = id ∧ s.fcInjectable id = 0 ∧ (s.fcAt id).wire = false ∧ (s.fcAt id).st ≠ .fault
    ∧ (s.fcAt id).count + 2 < s.fcN id ∧ s.fcExpected id = false ∧ s.log.queue.length < 62) ∧
  (∃ (s : State) (id : Nat) (both : Bool) (e : Raised) (rest : List Raised), both = true ∧ s.fc.raised = e :: rest
    ∧ e.id = id % 65536 ∧ s.fcInjectable (id % 65536) = 0 ∧ (s.fcAt (id % 65536)).wire = false
    ∧ (s.fcAt (id % 65536)).st = .fault ∧ s.fcExpected (id % 65536) = false ∧ s.log.queue.length < 62) :=
  ⟨⟨{ bench State.reset with log := { State.reset.log with queue := [] }, fc := { State.reset.fc with raised := [⟨0x1040, 5, 6⟩], sources := [(0x1040, { (default : FcSource) with written := true, n := 9, window := 5, injCount := State.reset.ct % 2 = 0 })] } }, 0x1040, true, ⟨0x1040,5,6⟩, [], by decide⟩,
    ⟨{ bench State.reset with log := { State.reset.log with queue := [] }, fc := { State.reset.fc with raised := [⟨0x1040, 5, 6⟩], sources := [(0x1040, { (default : FcSource) with written := true, n := 9, window := 5, st := .fault, injCount := State.reset.ct % 2 = 0 })] } }, 0x1040, true, ⟨0x1040,5,6⟩, [], by decide⟩⟩

theorem hyps_RestrictedStreamIsR366 :
  (∃ (s : State) (k : Nat) (one : Nat) (two : Nat) (acked : Bool), 1 ≤ k ∧ k < 4 ∧ s.traceOn = true
    ∧ s.fld F.TRC_EXP_DEST 0 = k + 1 ∧ s.on F.MF_STAT_CONFIGURED k = true ∧ s.p33Is k .enabled = true
    ∧ (s.mf.at k).halts.contains 4 = false ∧ s.trc.placed = none ∧ (s.nextTransfer (some k) (s.epHalf k 4)).bytes ≠ []
    ∧ acked = true) ∧
  (∃ (s : State) (c : Nat), s.traceBad c 16 = false) ∧
  (∃ (s : State) (k room : Nat) (x : Transfer), x.next < s.trc.wr ∧ x.bytes.length ≤ room ∧ (s.exportAt x.next room x.ct x.sync (some k)).withheld = true) :=
  ⟨⟨{ ((((bench State.reset).setFld F.TRC_STAT_STATE 0 2).updTrc (fun r => { r with wr := 0, rd := 0, oldest := 0, placed := none, halted := none })).trcMark 5).setFld F.TRC_EXP_DEST 0 (3 + 1) |>.setFld F.MF_STAT_PSTATE 3 4 |>.put F.MF_STAT_CONFIGURED 3 true |>.setFld F.MF_EPD_SIZE (epd 3 4) 16 with mf := [] }, 3, 0, 0, true, by decide⟩,
    ⟨State.reset, 0, by decide⟩,
    ⟨{ State.reset with trc := { State.reset.trc with wr := 16 } }, 2, 64, ⟨[], 0, 0, 0, 0, 0⟩, by decide⟩⟩

theorem hyps_ResetCauseIsR71 :
  (∃ (c : Nat), 1 ≤ c ∧ c ≤ 11) ∧
  (∃ (s : State) (c : Nat), 1 ≤ c ∧ c ≤ 11 ∧ s.power.resetAge < 9600 ∧ s.power.boot ≠ .firmware ∧ s.fld F.PMU_RESET_CAUSE_SEEN 0 ≠ 0) ∧
  (∃ (s : State) (c : Nat), 1 ≤ c ∧ c ≤ 11 ∧ 9600 ≤ s.power.resetAge) :=
  ⟨⟨11, by decide⟩,
    ⟨State.reset.setFld F.PMU_RESET_CAUSE_SEEN 0 4, 4, by decide⟩,
    ⟨{ State.reset with power := { State.reset.power with resetAge := 9600 } }, 4, by decide⟩⟩

theorem hyps_UnpredictableStoresStop :
  (∃ (s : State) (m n : Nat), m ≤ 10 ∧ s.bit F.MPU_FREEZE_FROZEN 0 m = false ∧ s.violates m 0x20047000 n .store = 0 ∧ s.violates m 0x200C6FFC n .store = 0 ∧ s.violates m 0x200D7FFC n .store = 0 ∧ s.violates m 0x201FFFFC n .store = 0 ∧ n = 4) ∧
  (∃ (s : State) (m i : Nat) (h : Home) (w mask : Nat), F.QSPI_OPADDR_ADDR.access = .rw ∧ mask / 2 ^ F.QSPI_OPADDR_ADDR.lo % 2 ^ F.QSPI_OPADDR_ADDR.width ≠ 0 ∧ s.ignores F.QSPI_OPADDR_ADDR i = false ∧ s.openService (s.held' h) F.QSPI_OPADDR_ADDR i ≠ 0 ∧ m = 0 ∧ w = 4) :=
  ⟨⟨(State.reset.put F.MPU_WATTR_W 0 true).setFld F.MPU_WLIMIT_LIMIT 0 0xFFFFF |>.put F.MPU_WATTR_EN 0 true, 0, 4, by decide +kernel⟩,
    ⟨State.reset.put F.QSPI_STAT_OPBUSY 0 true, 0, 0, ⟨.qspi, 0, 1, 0x400A0000⟩, 4, 0xFFFFFFFF, by decide +kernel⟩⟩

theorem hyps_SupplyAndResetCommands :
  (∃ (s : State) (dies : Nat) (samples : List Nat) (testEn : Bool) (vbatLow : Bool), s.power.aon = false
    ∧ s.power.rstN = true ∧ s.power.hot = false) ∧
  (∃ (s : State) (dies : Nat) (samples : List Nat) (testEn : Bool) (vbatLow : Bool), s.power.aon = false
    ∧ s.power.rstN = false) ∧
  (∃ (s : State) (samples : List Nat) (testEn : Bool), s.power.aon = true ∧ s.bootSupplied = false
    ∧ s.power.dormancy = .awake ∧ s.power.boot = .off ∧ s.power.rstN = true ∧ s.power.hot = false ∧ s.power.sample = true) ∧
  (∃ (s : State) (samples : List Nat) (testEn : Bool), s.power.aon = true ∧ s.bootSupplied = false
    ∧ s.power.dormancy = .awake ∧ s.power.rstN = false) ∧
  (∃ (s : State), s.power.aon = true ∧ s.bootSupplied = true) ∧
  (∃ (s : State) (samples : List Nat) (testEn : Bool), s.power.aon = true ∧ s.bootSupplied = true ∧ s.power.boot = .off
    ∧ s.power.dormancy = .awake ∧ s.power.sample = true) ∧
  (∃ (s : State) (rail : Nat), s.power.aon = true ∧ s.on F.PMU_RAILSTAT_BOOT_OK 0 = true ∧ rail ≤ 8 ∧ rail ≠ 7
    ∧ s.railOk rail = true) ∧
  (∃ (s : State) (rail : Nat), s.power.aon = true ∧ s.on F.PMU_RAILSTAT_BOOT_OK 0 = false ∧ rail ≤ 8 ∧ rail ≠ 7
    ∧ s.railOk rail = true) ∧
  (∃ (s : State), s.power.aon = true ∧ s.bootSupplied = true) ∧
  (∃ (s : State), s.power.aon = true ∧ s.bootSupplied = true ∧ s.power.rstN = true ∧ s.power.boot = .off
    ∧ s.power.dormancy = .awake ∧ s.power.sample = false) ∧
  (∃ (s : State), (s.bootSupplied = false ∨ s.power.rstN = false)) ∧
  (∃ (s : State), s.power.refHold = true ∧ s.bootSupplied = true ∧ s.power.rstN = true ∧ s.power.hot = false
    ∧ s.power.sample = false) ∧
  (∃ (s : State), s.power.aon = true ∧ s.on F.PMU_RAILSTAT_VDD18_OK 0 = false ∧ s.on F.PMU_RAILSTAT_DB_ACTIVE 0 = false) :=
  ⟨⟨{ State.reset with power := { State.reset.power with aon := false, rstN := true, hot := false } }, 0x7F, [0,0,0,0], false, false, by decide⟩,
    ⟨{ State.reset with power := { State.reset.power with aon := false, rstN := false } }, 0x7F, [0,0,0,0], false, false, by decide⟩,
    ⟨({ State.reset with power := { State.reset.power with aon := true, dormancy := .awake, boot := .off, rstN := true, hot := false, sample := true } }.put F.PMU_RAILSTAT_BOOT_OK 0 false).put F.PMU_RAILSTAT_DB_ACTIVE 0 false, [0,0,0,0], false, by decide⟩,
    ⟨({ State.reset with power := { State.reset.power with aon := true, dormancy := .awake, rstN := false } }.put F.PMU_RAILSTAT_BOOT_OK 0 false).put F.PMU_RAILSTAT_DB_ACTIVE 0 false, [0,0,0,0], false, by decide⟩,
    ⟨{ State.reset with power := { State.reset.power with aon := true } }.put F.PMU_RAILSTAT_BOOT_OK 0 true, by decide⟩,
    ⟨{ State.reset with power := { State.reset.power with aon := true, boot := .off, dormancy := .awake, sample := true } }.put F.PMU_RAILSTAT_BOOT_OK 0 true, [127, 127, 127, 127], false, by decide⟩,
    ⟨({ State.reset with power := { State.reset.power with aon := true } }.put F.PMU_RAILSTAT_BOOT_OK 0 true).setRail 8 true, 8, by decide⟩,
    ⟨({ State.reset with power := { State.reset.power with aon := true } }.put F.PMU_RAILSTAT_BOOT_OK 0 false).setRail 1 true, 1, by decide⟩,
    ⟨{ State.reset with power := { State.reset.power with aon := true } }.put F.PMU_RAILSTAT_BOOT_OK 0 true, by decide⟩,
    ⟨{ State.reset with power := { State.reset.power with aon := true, rstN := true, boot := .off, dormancy := .awake, sample := false } }.put F.PMU_RAILSTAT_BOOT_OK 0 true, by decide⟩,
    ⟨{ State.reset with power := { State.reset.power with rstN := false } }, by decide⟩,
    ⟨{ State.reset with power := { State.reset.power with refHold := true, rstN := true, hot := false, sample := false } }.put F.PMU_RAILSTAT_BOOT_OK 0 true, by decide⟩,
    ⟨({ State.reset with power := { State.reset.power with aon := true } }.put F.PMU_RAILSTAT_VDD18_OK 0 false).put F.PMU_RAILSTAT_DB_ACTIVE 0 false, by decide⟩⟩

theorem hyps_BootAndDormantCommands :
  (∃ (s : State), s.power.boot = .rom ∧ s.on F.PMU_CLKSTAT_PLL_LOCK 0 = false) ∧
  (∃ (s : State) (ok : Bool) (recoveryOk : Bool), s.on F.PMU_CLKSTAT_PLL_LOCK 0 = true ∧ s.power.boot = .rom ∧ ok = true) ∧
  (∃ (s : State) (ok : Bool) (recoveryOk : Bool), s.on F.PMU_CLKSTAT_PLL_LOCK 0 = true ∧ s.power.boot = .rom ∧ ok = false
    ∧ s.strapBoot = 1 ∧ recoveryOk = true) ∧
  (∃ (s : State) (ok : Bool) (recoveryOk : Bool), s.on F.PMU_CLKSTAT_PLL_LOCK 0 = true ∧ s.power.boot = .rom ∧ ok = false
    ∧ (s.strapBoot ≠ 1 ∨ recoveryOk = false)) ∧
  (∃ (s : State) (ok : Bool) (recoveryOk : Bool), s.on F.PMU_CLKSTAT_PLL_LOCK 0 = true ∧ s.power.boot = .waitImage
    ∧ 2 ≤ s.strapBoot ∧ s.power.imageIn = true ∧ ok = true) ∧
  (∃ (s : State) (dies : Nat) (rp : Nat) (samples : List Nat) (testEn : Bool), s.bootSupplied = false
    ∧ s.power.dormancy = .awake ∧ s.power.rstN = true ∧ s.power.hot = false) ∧
  (∃ (s : State), s.on F.PMU_RAILSTAT_DB_ACTIVE 0 = true
    ∧ (s.power.broughtUp = true ∨ overlapApplied s s.handedOver = false)) ∧
  (∃ (s : State) (vbatHolds : Bool), s.on F.PMU_RAILSTAT_DB_ACTIVE 0 = true
    ∧ (vbatHolds = true ∨ s.on F.PMU_RAILSTAT_VDD18_OK 0 = true)) ∧
  (∃ (s : State) (vbatHolds : Bool), s.on F.PMU_RAILSTAT_DB_ACTIVE 0 = true ∧ vbatHolds = false
    ∧ s.on F.PMU_RAILSTAT_VDD18_OK 0 = false) ∧
  (∃ (s : State) (vbatHolds : Bool), s.power.dormancy = .entering ∧ (∀ d ∈ [2, 3, 4, 5, 6, 7, 8, 9, 10], s.domOn d = false
    ∧ s.domChanging d = false)) ∧
  (∃ (s : State) (vbatHolds : Bool), s.power.dormancy = .gateOff ∧ vbatHolds = true) ∧
  (∃ (s : State) (vbatHolds : Bool), s.power.dormancy = .railsFalling) ∧
  (∃ (s : State), s.power.aon = true ∧ s.on F.RTC_ALARM_HI_ARM 0 = true ∧ s.power.rtcCount ≤ s.alarm
    ∧ s.power.dormancy = .asleep) ∧
  (∃ (s : State), s.power.aon = true ∧ s.on F.RTC_ALARM_HI_ARM 0 = true ∧ s.power.rtcCount ≤ s.alarm
    ∧ s.power.dormancy ≠ .asleep) ∧
  (∃ (s : State), s.power.dormancy = .waking ∧ s.fld F.PMU_RAILSTAT_RAIL_EN 0 ≤ 1) ∧
  (∃ (s : State) (samples : List Nat) (testEn : Bool), s.power.aon = true ∧ s.bootSupplied = false ∧ s.power.boot = .off
    ∧ s.power.rstN = true ∧ s.power.hot = false ∧ s.power.dormancy = .waking ∧ s.fld F.PMU_RAILSTAT_RAIL_EN 0 = 3) ∧
  (∃ (s : State) (which : Nat) (ok : Bool), s.power.aon = true ∧ which < 3) :=
  ⟨⟨{ State.reset with power := { State.reset.power with boot := .rom } }.put F.PMU_CLKSTAT_PLL_LOCK 0 false, by decide⟩,
    ⟨{ State.reset with power := { State.reset.power with boot := .rom } }.put F.PMU_CLKSTAT_PLL_LOCK 0 true, true, false, by decide⟩,
    ⟨({ State.reset with power := { State.reset.power with boot := .rom } }.put F.PMU_CLKSTAT_PLL_LOCK 0 true).setFld F.SYS_STRAP_STRAPS 0 1, false, true, by decide⟩,
    ⟨{ State.reset with power := { State.reset.power with boot := .rom } }.put F.PMU_CLKSTAT_PLL_LOCK 0 true, false, false, by decide⟩,
    ⟨({ State.reset with power := { State.reset.power with boot := .waitImage, imageIn := true } }.put F.PMU_CLKSTAT_PLL_LOCK 0 true).setFld F.SYS_STRAP_STRAPS 0 2, true, false, by decide⟩,
    ⟨({ State.reset with power := { State.reset.power with dormancy := .awake, rstN := true, hot := false } }.put F.PMU_RAILSTAT_BOOT_OK 0 false).put F.PMU_RAILSTAT_DB_ACTIVE 0 false, 0x7F, 3, [0,0,0,0], false, by decide⟩,
    ⟨{ State.reset.put F.PMU_RAILSTAT_DB_ACTIVE 0 true with power := { State.reset.power with broughtUp := State.reset.ct % 2 = 0 } }, by decide⟩,
    ⟨State.reset.put F.PMU_RAILSTAT_DB_ACTIVE 0 true, true, by decide⟩,
    ⟨(State.reset.put F.PMU_RAILSTAT_DB_ACTIVE 0 true).put F.PMU_RAILSTAT_VDD18_OK 0 false, false, by decide⟩,
    ⟨({ State.reset with power := { State.reset.power with dormancy := .entering } }.setFld F.PMU_DOMSTAT_ON 0 3).setFld F.PMU_DOMSTAT_CHANGING 0 0, true, by decide⟩,
    ⟨{ State.reset with power := { State.reset.power with dormancy := .gateOff } }, true, by decide⟩,
    ⟨{ State.reset with power := { State.reset.power with dormancy := .railsFalling } }, true, by decide⟩,
    ⟨{ State.reset with power := { State.reset.power with aon := true, dormancy := .asleep } }.put F.RTC_ALARM_HI_ARM 0 true, by decide⟩,
    ⟨{ State.reset with power := { State.reset.power with aon := true } }.put F.RTC_ALARM_HI_ARM 0 true, by decide⟩,
    ⟨{ State.reset with power := { State.reset.power with dormancy := .waking } }.setFld F.PMU_RAILSTAT_RAIL_EN 0 (State.reset.ct % 2), by decide⟩,
    ⟨(({ State.reset with power := { State.reset.power with aon := true, boot := .off, rstN := true, hot := false, dormancy := .waking } }.setFld F.PMU_RAILSTAT_RAIL_EN 0 3).put F.PMU_RAILSTAT_BOOT_OK 0 false).put F.PMU_RAILSTAT_DB_ACTIVE 0 false, [0,0,0,0], false, by decide⟩,
    ⟨{ State.reset with power := { State.reset.power with aon := true } }, 2, false, by decide⟩⟩

theorem hyps_ClockAndTemperatureCommands :
  (∃ (s : State), s.on F.PMU_CLKSTAT_PLL_LOCK 0 = true ∧ s.power.refHold = false ∧ s.on F.PMU_CLKSTAT_REF_ACTIVE 0 = false) ∧
  (∃ (s : State), s.on F.PMU_CLKSTAT_PLL_LOCK 0 = true ∧ s.power.refHold = false ∧ s.on F.PMU_CLKSTAT_REF_ACTIVE 0 = true) ∧
  (∃ (s : State) (viaLink : Bool), s.power.boot ≠ .off ∧ (viaLink = false ∨ s.apex = false)) ∧
  (∃ (s : State), s.on F.PMU_CLKSTAT_PLL_LOCK 0 = true ∧ s.on F.PMU_CLKCTL_AUTO 0 = true ∧ s.apex = false
    ∧ s.on F.PMU_CLKSTAT_REC_OK 0 = true ∧ s.upActive = true) ∧
  (∃ (s : State), s.power.aon = true ∧ s.sync = 2 ∧ s.power.rtcPart < rtcUnit ∧ s.power.rtcCount < 2 ^ 48 - 1
    ∧ s.ct < 2 ^ 64) ∧
  (∃ (s : State) (stage : Nat), s.power.boot ≠ .off ∧ stage ≤ 2 ∧ stage ≠ s.fld F.PMU_CLKSTAT_THROTTLE 0) ∧
  (∃ (s : State) (d : Nat) (stage : Nat) (tdie : Int), d < 5 ∧ s.dieOn (d + 1) = true ∧ s.dieAbsent (d + 1) = false
    ∧ stage ≤ (if d = 4 then 1 else 2)
    ∧ stage ≠ (if s.on F.DIE_STAT_SHUTDOWN d then 2 else if s.on F.DIE_STAT_HOT d then 1 else 0)) :=
  ⟨⟨({ State.reset with power := { State.reset.power with refHold := false } }.put F.PMU_CLKSTAT_PLL_LOCK 0 true).put F.PMU_CLKSTAT_REF_ACTIVE 0 false, by decide⟩,
    ⟨({ State.reset with power := { State.reset.power with refHold := false } }.put F.PMU_CLKSTAT_PLL_LOCK 0 true).put F.PMU_CLKSTAT_REF_ACTIVE 0 true, by decide⟩,
    ⟨{ State.reset with power := { State.reset.power with boot := .rom } }, true, by decide⟩,
    ⟨((((bench { State.reset with chord := { State.reset.chord with active := true } }).put F.PMU_CLKCTL_AUTO 0 true).put F.CHORD_CFG_APEX 0 false).put F.PMU_CLKSTAT_REC_OK 0 true).each [0, 1] (fun x l => x.setFld F.CHORD_LSTAT_STATE l 4), by decide⟩,
    ⟨{ State.reset with ct := State.reset.ct % 2 ^ 64, power := { State.reset.power with aon := true, rtcPart := State.reset.power.rtcPart % rtcUnit } }.setFld F.CHORD_STAT_SYNC 0 2, by decide⟩,
    ⟨{ State.reset with power := { State.reset.power with boot := .rom } }, 2, by decide⟩,
    ⟨bench State.reset, 3, 2, 900, by decide⟩⟩

theorem hyps_DomainLinkAndProtectionCommands :
  (∃ (s : State) (d : Nat), 2 ≤ d ∧ d ≤ 10 ∧ s.domChanging d = true ∧ s.domOn d = false
    ∧ (s.power.broughtUp = true ∨ overlapApplied s (s.switchedOn d) = false)) ∧
  (∃ (s : State) (d : Nat), 2 ≤ d ∧ d ≤ 10 ∧ s.domLeaving d = true ∧ s.domMayEnd d = true) ∧
  (∃ (s : State) (d : Nat) (dup : Bool), 1 ≤ d ∧ d ≤ 7 ∧ s.fld F.D2D_LSTAT_STATE d = 3) ∧
  (∃ (s : State) (d : Nat), 1 ≤ d ∧ d ≤ 7 ∧ s.fld F.D2D_LSTAT_STATE d = 3) ∧
  (∃ (s : State) (d : Nat), 1 ≤ d ∧ d ≤ 7 ∧ s.fld F.D2D_LSTAT_STATE d = 4) ∧
  (∃ (s : State) (d : Nat), 1 ≤ d ∧ d ≤ 7 ∧ s.fld F.D2D_LSTAT_STATE d = 4) ∧
  (∃ (s : State) (d : Nat), 1 ≤ d ∧ d ≤ 7 ∧ s.fld F.D2D_LSTAT_STATE d = 2) ∧
  (∃ (s : State) (m : Nat) (a : Nat) (n : Nat) (k : Acc) (h : Home), homeAt a = some h ∧ m ≤ 10 ∧ s.violates m a n k = 0
    ∧ s.homeGone h = true) ∧
  (∃ (s : State) (m : Nat) (a : Nat) (n : Nat) (k : Acc), 1 ≤ m ∧ m ≤ 10 ∧ s.violates m a n k ≠ 0
    ∧ s.bit F.MPU_FREEZE_FROZEN 0 m = false) ∧
  (∃ (s : State) (a : Nat) (n : Nat) (k : Acc), s.coreRuns 0 = true ∧ s.violates 0 a n k ≠ 0
    ∧ (s.power.resetAge ≥ 9600 ∨ s.power.boot = .firmware)) ∧
  (∃ (s : State) (mask : Nat) (m : Nat), 1 ≤ m ∧ m ≤ 10 ∧ mask.testBit m = true ∧ s.bit F.MPU_FREEZE_FROZEN 0 m = true) :=
  ⟨⟨(({ bench State.reset with power := { (bench State.reset).power with broughtUp := State.reset.ct % 2 = 0 } } : State).putBit F.PMU_DOMSTAT_ON 0 10 false).putBit F.PMU_DOMSTAT_CHANGING 0 10 true, 10, by decide⟩,
    ⟨((bench State.reset).each allPorts (fun x p => x.setFld F.PWR_PSTAT_CAUSE p 8)).setFld F.PMU_DOMSTAT_CHANGING 0 (2 ^ 3) |>.setFld F.PMU_DOMSTAT_ON 0 (if 3 = 2 then 0x79F else 0x7FF), 3, by decide⟩,
    ⟨bench State.reset, 7, true, by decide⟩,
    ⟨bench State.reset, 1, by decide⟩,
    ⟨(bench State.reset).setFld F.D2D_LSTAT_STATE 7 4, 7, by decide⟩,
    ⟨(bench State.reset).setFld F.D2D_LSTAT_STATE 1 4, 1, by decide⟩,
    ⟨(bench State.reset).setFld F.D2D_LSTAT_STATE 7 2, 7, by decide⟩,
    ⟨((((bench State.reset).setFld F.SYS_ID_DIES 0 1).put F.MPU_WATTR_R 160 true).setFld F.MPU_WLIMIT_LIMIT 160 0xFFFFF).put F.MPU_WATTR_EN 160 true, 10, 0x51010100, 4, .load, ⟨.pwr, 2, Dom.ports 1, 0x51010000⟩, by decide⟩,
    ⟨bench State.reset, 10, 0, 4, .store, by decide⟩,
    ⟨bench State.reset, 0x00010000, 4, .store, by decide⟩,
    ⟨(bench State.reset).setFld F.MPU_FREEZE_FROZEN 0 (2 ^ 10), 0x7FF, 10, by decide⟩⟩

theorem hyps_RegisterCommands :
  (∃ (s : State) (m : Nat) (a : Nat) (n : Nat) (data : Nat) (hw : List HwChange), m ≤ 10
    ∧ s.bit F.MPU_FREEZE_FROZEN 0 m = false ∧ s.violates m a n .store = 0 ∧ 0x20000000 ≤ a ∧ a < 0x20200000
    ∧ s.openCase m a n data = 0) ∧
  (∃ (s : State) (m : Nat) (a : Nat) (n : Nat) (data : Nat) (hw : List HwChange), m ≤ 4
    ∧ s.bit F.MPU_FREEZE_FROZEN 0 m = false ∧ s.violates m a n .store = 0 ∧ 0x10000000 ≤ a ∧ a < 0x10080000
    ∧ s.openCase m a n data = 0) ∧
  (∃ (s : State) (m : Nat) (a : Nat) (n : Nat) (data : Nat) (hw : List HwChange), 1 ≤ m ∧ m ≤ 10
    ∧ s.bit F.MPU_FREEZE_FROZEN 0 m = false ∧ s.violates m a n .store ≠ 0) ∧
  (∃ (s : State) (m : Nat) (a : Nat) (n : Nat) (data : Nat) (hw : List HwChange) (j : Nat), m ≤ 10 ∧ j < 64
    ∧ a = 0x400A0100 + 4 * j ∧ s.on F.QSPI_STAT_OPBUSY 0 = false ∧ n = 4 ∧ s.bit F.MPU_FREEZE_FROZEN 0 m = false
    ∧ s.violates m a n .store = 0) ∧
  (∃ (s : State) (v : AliasView) (m : Nat) (a : Nat) (n : Nat) (data : Nat) (hw : List HwChange) (j : Nat), m ≤ 10
    ∧ j < 64 ∧ a = 0x400A0100 + 4 * j ∧ s.on F.QSPI_STAT_OPBUSY 0 = false ∧ n = 4 ∧ s.bit F.MPU_FREEZE_FROZEN 0 m = false
    ∧ s.violates m (a + v.offset) n .store = 0 ∧ s.pendingWrite F.QSPI_PBUF_DATA j = none
    ∧ s.fld F.QSPI_PBUF_DATA j < 2 ^ 32) ∧
  (∃ (s : State) (m : Nat) (a : Nat) (n : Nat) (data : Nat) (hw : List HwChange) (p : Nat), m ≤ 10 ∧ 1 ≤ p ∧ p ≤ 32
    ∧ a = 0x50010100 + 0x1000000 * currant p + 0x40 * place8 p ∧ n = 2 ∧ s.bit F.MPU_FREEZE_FROZEN 0 m = false
    ∧ s.violates m a n .store = 0 ∧ s.absentAt a = none) ∧
  (∃ (s : State) (b : Boundary) (k : Nat) (hw : List HwChange) (p v : Nat), 1 ≤ p ∧ p ≤ 32 ∧ s.fitted p = true ∧ b = .p
    ∧ k = currant p ∧ s.staged = [⟨F.PWR_VSET_VSET, p, v⟩] ∧ s.on F.PWR_STAGE_HOLD k = false
    ∧ (∀ x ∈ hw, x.fieldId ≠ F.PWR_VSET_VSET.id)) ∧
  (∃ (s : State) (b : Boundary) (k : Nat) (hw : List HwChange) (p v : Nat), 1 ≤ p ∧ p ≤ 32 ∧ b = .p
    ∧ s.staged = [⟨F.PWR_VSET_VSET, p, v⟩] ∧ (k ≠ currant p ∨ s.on F.PWR_STAGE_HOLD k = true)) ∧
  (∃ (s : State) (blk : Block) (j : Nat) (hw : List HwChange) (f : Field) (h : Home), stageOf blk = some f
    ∧ slotHome f.id j = some h ∧ s.on f j = true
    ∧ (∀ x ∈ s.staged, ((slotHome x.field.id x.index).any (·.base == h.base)) = false)) ∧
  (∃ (s : State) (blk : Block) (j : Nat) (hw : List HwChange) (v w : Nat), blk = .rtc ∧ j = 0 ∧ s.power.aon = true
    ∧ s.on F.RTC_STAGE_HOLD 0 = true ∧ s.on F.RTC_ALARM_HI_ARM 0 = false
    ∧ s.staged = [⟨F.RTC_ALARM_LO_ALARM_LO, 0, v⟩, ⟨F.RTC_ALARM_HI_ALARM_HI, 0, w⟩]
    ∧ (∀ x ∈ hw, x.fieldId ≠ F.RTC_ALARM_LO_ALARM_LO.id ∧ x.fieldId ≠ F.RTC_ALARM_HI_ALARM_HI.id)) ∧
  (∃ (s : State) (k : Nat) (sel : Nat), s.snapOn k = true ∧ (s.snaps.at k).pending = false ∧ k < 8 ∧ k ≠ 2 ∧ k ≠ 3) ∧
  (∃ (s : State) (k : Nat) (sel : Nat), s.snapOn k = true ∧ (s.snaps.at k).pending = false ∧ (k = 2 ∨ k = 3)) ∧
  (∃ (s : State) (k : Nat), s.snapOn k = true ∧ (s.snaps.at k).pending = true ∧ k < 8) ∧
  (∃ (s : State) (k : Nat), s.snapOn k = true ∧ k < 8) :=
  ⟨⟨(((bench State.reset).put F.MPU_WATTR_W (16 * 10) true).setFld F.MPU_WLIMIT_LIMIT (16 * 10) 0xFFFFF).put F.MPU_WATTR_EN (16 * 10) true |>.setFld F.MPU_WBASE_BASE (16 * 10) 0 |>.setFld F.MPU_FREEZE_FROZEN 0 0, 10, 0x200D6FFC, 4, 0x12345678, [], by decide⟩,
    ⟨(((bench State.reset).put F.MPU_WATTR_W (16 * 4) true).setFld F.MPU_WLIMIT_LIMIT (16 * 4) 0xFFFFF).put F.MPU_WATTR_EN (16 * 4) true |>.setFld F.MPU_WBASE_BASE (16 * 4) 0 |>.setFld F.MPU_FREEZE_FROZEN 0 0, 4, 0x1003FFFE, 2, 0x1234, [], by decide⟩,
    ⟨(bench State.reset).setFld F.MPU_FREEZE_FROZEN 0 0, 10, 0, 4, 0, [], by decide⟩,
    ⟨(((bench State.reset).put F.MPU_WATTR_W (16 * 10) true).setFld F.MPU_WLIMIT_LIMIT (16 * 10) 0xFFFFF).put F.MPU_WATTR_EN (16 * 10) true |>.setFld F.MPU_WBASE_BASE (16 * 10) 0 |>.setFld F.MPU_FREEZE_FROZEN 0 0 |>.setFld F.QSPI_STAT_OPBUSY 0 0, 10, 0x400A01FC, 4, 5, [], 63, by decide⟩,
    ⟨((((bench State.reset).put F.MPU_WATTR_W (16 * 10) true).setFld F.MPU_WLIMIT_LIMIT (16 * 10) 0xFFFFF).put F.MPU_WATTR_EN (16 * 10) true |>.setFld F.MPU_WBASE_BASE (16 * 10) 0 |>.setFld F.MPU_FREEZE_FROZEN 0 0).setFld F.QSPI_PBUF_DATA 63 0x0FF05A77 |>.setFld F.QSPI_STAT_OPBUSY 0 0, .clr, 10, 0x400A01FC, 4, 5, [], 63, by decide⟩,
    ⟨(((bench State.reset).put F.MPU_WATTR_W (16 * 10) true).setFld F.MPU_WLIMIT_LIMIT (16 * 10) 0xFFFFF).put F.MPU_WATTR_EN (16 * 10) true |>.setFld F.MPU_WBASE_BASE (16 * 10) 0 |>.setFld F.MPU_FREEZE_FROZEN 0 0, 10, 0x530102C0, 2, 5, [], 32, by decide⟩,
    ⟨{ (bench State.reset) with staged := [⟨F.PWR_VSET_VSET, 32, 900⟩] }.setFld F.PWR_STAGE_HOLD (currant 32) 0, .p, 3, [], 32, 900, by decide⟩,
    ⟨{ (bench State.reset) with staged := [⟨F.PWR_VSET_VSET, 1, 900⟩] }, .p, 3, [], 1, 900, by decide⟩,
    ⟨State.reset.put F.PWR_STAGE_HOLD 3 true, .pwr, 3, [], F.PWR_STAGE_HOLD, ⟨.pwr, 4, Dom.ports 3, 0x53010000⟩, by decide⟩,
    ⟨({ bench State.reset with staged := [⟨F.RTC_ALARM_LO_ALARM_LO, 0, 5⟩, ⟨F.RTC_ALARM_HI_ALARM_HI, 0, 6⟩] }.put F.RTC_STAGE_HOLD 0 true).put F.RTC_ALARM_HI_ARM 0 false, .rtc, 0, [], 5, 6, by decide⟩,
    ⟨{ (bench State.reset) with snaps := [] }, 7, 1, by decide⟩,
    ⟨{ (bench State.reset) with snaps := [] }, 3, 1, by decide⟩,
    ⟨{ (bench State.reset) with snaps := [(0, ⟨0, true, 0⟩)] }, 0, by decide⟩,
    ⟨bench State.reset, 7, by decide⟩⟩

theorem hyps_UpstreamAndHubCommands :
  (∃ (s : State) (k : Nat), s.hubUp k = true) ∧
  (∃ (s : State) (k : Nat), s.hubUp k = true) ∧
  (∃ (s : State) (k : Nat) (vbus : Bool), k < 4) ∧
  (∃ (s : State) (k : Nat) (completed : Bool), s.hubUp k = true) ∧
  (∃ (s : State) (k : Nat), s.hubUp k = true) ∧
  (∃ (s : State) (k : Nat) (p : Nat), s.hubUp k = true ∧ s.on F.PART_PSTAT_SUSPENDED k = true ∧ p ∈ s.portsOfPart k
    ∧ s.dpeIs p .enabled = true) ∧
  (∃ (s : State) (k : Nat), s.hubUp k = true ∧ s.on F.PART_PSTAT_SUSPENDED k = true) ∧
  (∃ (s : State) (k : Nat) (requestType : Nat) (request : Nat) (value : Nat) (length : Nat), s.hubUp k = true
    ∧ requestType = 0 ∧ request = 5) ∧
  (∃ (s : State) (k : Nat) (requestType : Nat) (request : Nat) (value : Nat) (length : Nat), s.hubUp k = true
    ∧ requestType = 0 ∧ request = 9 ∧ value ≤ 1) ∧
  (∃ (s : State) (k : Nat) (requestType : Nat) (request : Nat) (value : Nat) (length : Nat), s.hubUp k = true
    ∧ requestType = 0 ∧ (request = 3 ∨ request = 1) ∧ value = 1) ∧
  (∃ (s : State) (k : Nat) (requestType : Nat) (request : Nat) (value : Nat) (length : Nat), s.hubUp k = true
    ∧ (requestType = 0x80 ∨ requestType = 0xA0) ∧ request = 6 ∧ value = (if requestType = 0x80 then 0x0100 else 0x2900)) ∧
  (∃ (s : State) (k : Nat) (requestType : Nat) (request : Nat) (value : Nat) (length : Nat), s.hubUp k = true
    ∧ requestType = 0x20 ∧ request = 1 ∧ value = 0) ∧
  (∃ (s : State) (k : Nat) (p : Nat), s.hubUp k = true ∧ s.owns k p = true) ∧
  (∃ (s : State) (k : Nat) (p : Nat), s.hubUp k = true ∧ s.owns k p = false) ∧
  (∃ (s : State) (k : Nat), s.hubUp k = true) ∧
  (∃ (s : State) (k : Nat) (p : Nat) (b : Nat), s.hubUp k = true ∧ s.owns k p = true) ∧
  (∃ (s : State) (k : Nat) (p : Nat) (b : Nat), s.hubUp k = true ∧ s.owns k p = false) :=
  ⟨⟨benchPort State.reset (3 % 4) 5 .enabled, 3, by decide⟩,
    ⟨benchPort State.reset (3 % 4) 5 .enabled, 3, by decide⟩,
    ⟨(bench State.reset).setFld F.TCPD_CCSTAT_STATE (33 + 0) (if State.reset.free % 2 = 0 then Cc.attachedSnk.code else 0), 0, true, by decide⟩,
    ⟨benchPort State.reset (3 % 4) 5 .enabled, 3, true, by decide⟩,
    ⟨benchPort State.reset (3 % 4) 5 .enabled, 3, by decide⟩,
    ⟨(benchPort State.reset (3 % 4) 32 .enabled).put F.PART_PSTAT_SUSPENDED (3 % 4) true, 3, 32, by decide⟩,
    ⟨(benchPort State.reset (3 % 4) 3 .enabled).put F.PART_PSTAT_SUSPENDED (3 % 4) true, 3, by decide⟩,
    ⟨benchPort State.reset (3 % 4) 3 .enabled, 3, 0, 5, 9, 0, by decide⟩,
    ⟨benchPort State.reset (3 % 4) 3 .enabled, 3, 0, 9, 1, 0, by decide⟩,
    ⟨benchPort State.reset (3 % 4) 3 .enabled, 3, 0, 3, 1, 0, by decide⟩,
    ⟨benchPort State.reset (3 % 4) 3 .enabled, 3, 0xA0, 6, 0x2900, 17, by decide⟩,
    ⟨benchPort State.reset (3 % 4) 3 .enabled, 3, 0x20, 1, 0, 0, by decide⟩,
    ⟨benchPort State.reset (3 % 4) 32 .enabled, 3, 32, by decide⟩,
    ⟨benchPort State.reset (3 % 4) 40 .enabled, 3, 33, by decide⟩,
    ⟨benchPort State.reset (3 % 4) 3 .enabled, 3, by decide⟩,
    ⟨benchPort State.reset (0 % 4) 32 .enabled, 0, 32, 4, by decide⟩,
    ⟨benchPort State.reset (0 % 4) 40 .enabled, 0, 33, 0, by decide⟩⟩

theorem hyps_HubPortRequestCommands :
  (∃ (s : State) (k : Nat) (p : Nat), s.hubUp k = true ∧ 1 ≤ p ∧ p ≤ 33 ∧ s.testBlocks k p = false) ∧
  (∃ (s : State) (k : Nat) (p : Nat), s.hubUp k = true) ∧
  (∃ (s : State) (k : Nat) (p : Nat), s.hubUp k = true ∧ 1 ≤ p ∧ p ≤ 33 ∧ s.testBlocks k p = false) ∧
  (∃ (s : State) (k : Nat) (p : Nat), s.hubUp k = true) ∧
  (∃ (s : State) (k : Nat) (p : Nat), s.hubUp k = true ∧ 1 ≤ p ∧ p ≤ 33 ∧ s.testBlocks k p = false) ∧
  (∃ (s : State) (k : Nat) (p : Nat), s.hubUp k = true) ∧
  (∃ (s : State) (k : Nat) (p : Nat), s.hubUp k = true ∧ 1 ≤ p ∧ p ≤ 33 ∧ s.testBlocks k p = false) ∧
  (∃ (s : State) (k : Nat) (p : Nat), s.hubUp k = true) ∧
  (∃ (s : State) (k : Nat) (p : Nat), s.hubUp k = true ∧ 1 ≤ p ∧ p ≤ 33 ∧ s.testBlocks k p = false) ∧
  (∃ (s : State) (k : Nat) (p : Nat), s.hubUp k = true) ∧
  (∃ (s : State) (k : Nat) (p : Nat), s.hubUp k = true ∧ 1 ≤ p ∧ p ≤ 33 ∧ s.testBlocks k p = false) ∧
  (∃ (s : State) (k : Nat) (p : Nat), s.hubUp k = true) ∧
  (∃ (s : State) (k : Nat) (p : Nat), s.hubUp k = true ∧ 1 ≤ p ∧ p ≤ 33 ∧ s.testBlocks k p = false) ∧
  (∃ (s : State) (k : Nat) (p : Nat), s.hubUp k = true) ∧
  (∃ (s : State) (k : Nat) (p : Nat) (selector : Nat), s.hubUp k = true ∧ s.owns k p = true
    ∧ s.testAllowed k p selector = true) ∧
  (∃ (s : State) (k : Nat) (p : Nat) (selector : Nat), s.hubUp k = true) ∧
  (∃ (s : State) (k : Nat) (p : Nat) (besl : Nat) (addr : Nat) (rwe : Bool) (h : Handshake), s.hubUp k = true
    ∧ s.owns k p = true ∧ s.testBlocks k p = false ∧ s.dpeIs p .enabled = true ∧ s.on F.DPE_CTL_LPM_EN p = true ∧ h = .ack) ∧
  (∃ (s : State) (k : Nat) (p : Nat) (besl : Nat) (addr : Nat) (rwe : Bool) (h : Handshake), s.hubUp k = true) :=
  ⟨⟨benchPort State.reset (3 % 4) 32 (if State.reset.free % 2 = 0 then .poweredOff else .enabled), 3, 32, by decide⟩,
    ⟨(benchPort State.reset (3 % 4) 34 .enabled).setPart (34 % 31 + 1) (3 % 4) |>.setFld F.DPE_STATE_STATE (34 % 31 + 1) 12, 3, 34, by decide⟩,
    ⟨benchPort State.reset (3 % 4) 32 (if State.reset.free % 2 = 0 then .poweredOff else .enabled), 3, 32, by decide⟩,
    ⟨(benchPort State.reset (3 % 4) 34 .enabled).setPart (34 % 31 + 1) (3 % 4) |>.setFld F.DPE_STATE_STATE (34 % 31 + 1) 12, 3, 34, by decide⟩,
    ⟨benchPort State.reset (3 % 4) 32 (if State.reset.free % 2 = 0 then .poweredOff else .enabled), 3, 32, by decide⟩,
    ⟨(benchPort State.reset (3 % 4) 34 .enabled).setPart (34 % 31 + 1) (3 % 4) |>.setFld F.DPE_STATE_STATE (34 % 31 + 1) 12, 3, 34, by decide⟩,
    ⟨benchPort State.reset (3 % 4) 32 (if State.reset.free % 2 = 0 then .poweredOff else .enabled), 3, 32, by decide⟩,
    ⟨(benchPort State.reset (3 % 4) 34 .enabled).setPart (34 % 31 + 1) (3 % 4) |>.setFld F.DPE_STATE_STATE (34 % 31 + 1) 12, 3, 34, by decide⟩,
    ⟨benchPort State.reset (3 % 4) 32 (if State.reset.free % 2 = 0 then .poweredOff else .enabled), 3, 32, by decide⟩,
    ⟨(benchPort State.reset (3 % 4) 34 .enabled).setPart (34 % 31 + 1) (3 % 4) |>.setFld F.DPE_STATE_STATE (34 % 31 + 1) 12, 3, 34, by decide⟩,
    ⟨benchPort State.reset (3 % 4) 32 (if State.reset.free % 2 = 0 then .poweredOff else .enabled), 3, 32, by decide⟩,
    ⟨(benchPort State.reset (3 % 4) 34 .enabled).setPart (34 % 31 + 1) (3 % 4) |>.setFld F.DPE_STATE_STATE (34 % 31 + 1) 12, 3, 34, by decide⟩,
    ⟨benchPort State.reset (3 % 4) 32 (if State.reset.free % 2 = 0 then .poweredOff else .enabled), 3, 32, by decide⟩,
    ⟨(benchPort State.reset (3 % 4) 34 .enabled).setPart (34 % 31 + 1) (3 % 4) |>.setFld F.DPE_STATE_STATE (34 % 31 + 1) 12, 3, 34, by decide⟩,
    ⟨((benchPort State.reset (3 % 4) 32 .disabled).each allPorts (fun x q => if q = 32 then x else x.setPart q 15)).put F.PART_PSTAT_SPEED (3 % 4) true, 3, 32, 5, by decide⟩,
    ⟨((benchPort State.reset (3 % 4) 32 .disabled).each allPorts (fun x q => if q = 32 then x else x.setPart q 15)).put F.PART_PSTAT_SPEED (3 % 4) true, 3, 32, 0, by decide⟩,
    ⟨(benchPort State.reset (3 % 4) 32 .enabled).put F.DPE_CTL_LPM_EN 32 true, 3, 32, 15, 2, true, .ack, by decide⟩,
    ⟨(benchPort State.reset (3 % 4) 32 .enabled).put F.DPE_CTL_LPM_EN 32 true, 3, 32, 15, 2, true, .nyet, by decide⟩⟩

theorem hyps_AssignmentAndMigrationCommands :
  (∃ (s : State) (p : Nat) (v : Nat), s.fitted p = true ∧ s.bit F.PART_MIGBUSY_BUSY 0 (p - 1) = false) ∧
  (∃ (s : State) (p : Nat) (v : Nat), s.fitted p = true ∧ s.bit F.PART_MIGBUSY_BUSY 0 (p - 1) = false ∧ s.partOf p < 4
    ∧ s.assignValue v < 4 ∧ s.partOf p ≠ v) ∧
  (∃ (s : State) (p : Nat), 1 ≤ p ∧ p ≤ 32 ∧ s.fld F.PART_MIGMASK_MASK 0 = 2 ^ (p - 1)
    ∧ s.migRefusal p (s.fld F.PART_MIGCTL_DEST 0) = 0) ∧
  (∃ (s : State) (p : Nat), 1 ≤ p ∧ p ≤ 32 ∧ s.fld F.PART_MIGMASK_MASK 0 = 2 ^ (p - 1)
    ∧ s.migRefusal p (s.fld F.PART_MIGCTL_DEST 0) ≠ 0) ∧
  (∃ (s : State) (p : Nat), (s.migs.at p).active = true ∧ (s.migs.at p).step = 1 ∧ (s.parts.at (s.partOf p)).requests = []
    ∧ s.dpeIn p deviceStates = true) ∧
  (∃ (s : State) (p : Nat), (s.migs.at p).active = true ∧ (s.migs.at p).step = 1 ∧ (s.parts.at (s.partOf p)).requests = []
    ∧ s.dpeIn p [.poweredOff, .disconnected, .isolated] = true) ∧
  (∃ (s : State) (p : Nat), (s.migs.at p).active = true ∧ (s.migs.at p).step = 2 ∧ (s.migs.at p).dest < 4
    ∧ (s.parts.at (s.migs.at p).dest).requests = [] ∧ s.dpeIs p .migrating = true ∧ s.live p = true
    ∧ s.on F.DPE_STATE_DEV p = true ∧ s.isoCause p = false ∧ s.bit F.PART_HOSTPWR_PWR (s.migs.at p).dest (p - 1) = true) ∧
  (∃ (s : State) (p : Nat), (s.migs.at p).active = true ∧ (s.migs.at p).step = 2 ∧ (s.migs.at p).dest < 4
    ∧ (s.parts.at (s.migs.at p).dest).requests = [] ∧ s.dpeIs p .migrating = false) ∧
  (∃ (s : State) (p : Nat), (s.migs.at p).active = true ∧ (s.migs.at p).keepalive = true) ∧
  (∃ (s : State) (p : Nat), (s.migs.at p).active = true ∧ (s.migs.at p).step = 4 ∧ s.dpeIs p .migrating = true) ∧
  (∃ (s : State) (p : Nat), (s.migs.at p).active = true ∧ (s.migs.at p).step = 4) ∧
  (∃ (s : State) (p : Nat) (cause : Nat), (s.migs.at p).active = true ∧ ((cause = 1 ∧ (s.migs.at p).step < 3
    ∧ s.on F.PART_PSTAT_ATTACHED (s.migs.at p).dest = false) ∨ (cause = 2 ∧ s.dpeIs p .quarantined = true) ∨ (cause = 3
    ∧ s.pwrIs p .latched = true))) :=
  ⟨⟨benchPort State.reset 2 32 .enabled, 32, 3, by decide⟩,
    ⟨benchPort State.reset 2 32 .enabled, 32, 3, by decide⟩,
    ⟨((((benchPort State.reset 2 32 .enabled).setFld F.PART_MIGMASK_MASK 0 (2 ^ (32 - 1))).setFld F.PART_MIGCTL_DEST 0 1).put F.PART_PSTAT_HOST 1 true).put F.PART_PSTAT_ATTACHED 1 true, 32, by decide⟩,
    ⟨(benchPort State.reset 2 1 .enabled).setFld F.PART_MIGMASK_MASK 0 (2 ^ (1 - 1))|>.setFld F.PART_MIGCTL_DEST 0 2, 1, by decide⟩,
    ⟨{ (benchPort State.reset 2 32 .enabled) with parts := [], migs := [(32, ⟨true, 2, 1, true, false, 0, .none, 5, 1⟩)] }, 32, by decide⟩,
    ⟨{ (benchPort State.reset 2 32 .disconnected) with parts := [], migs := [(32, ⟨true, 2, 1, true, false, 0, .none, 5, 1⟩)] }, 32, by decide⟩,
    ⟨{ (benchPort State.reset 2 32 .migrating).put F.DPE_STATE_DEV 32 true |>.putBit F.PART_HOSTPWR_PWR 1 (32 - 1) true |>.put F.DPE_CTL_ISOLATE 32 false |>.put F.DSW_PSTAT_OVHOLD 32 false with parts := [], migs := [(32, ⟨true, 2, 1, true, false, 0, .none, 5, 2⟩)] }, 32, by decide⟩,
    ⟨{ (benchPort State.reset 2 32 .disabled) with parts := [], migs := [(32, ⟨true, 2, 1, true, false, 0, .none, 5, 2⟩)] }, 32, by decide⟩,
    ⟨{ (benchPort State.reset 2 32 .migrating) with migs := [(32, ⟨true, 2, 1, true, true, 0, .none, 5, 4⟩)] }, 32, by decide⟩,
    ⟨{ (benchPort State.reset 2 32 .migrating) with migs := [(32, ⟨true, 2, 1, true, true, 0, .none, 5, 4⟩)] }, 32, by decide⟩,
    ⟨{ (benchPort State.reset 2 32 .migrating) with migs := [(32, ⟨true, 2, 1, true, true, 0, .none, 5, 4⟩)] }, 32, by decide⟩,
    ⟨{ (benchPort State.reset 2 32 (if 1 = 2 then .quarantined else .migrating)).put F.PART_PSTAT_ATTACHED 1 false |>.setFld F.PWR_PSTAT_STATE 32 Pwr.latched.code with migs := [(32, ⟨true, 2, 1, true, true, 0, .none, 5, 2⟩)] }, 32, 1, by decide⟩⟩

theorem hyps_PortEngineCommands :
  (∃ (s : State) (p : Nat) (low : Bool), s.dpeIs p .disconnected = true ∧ s.switchClosed p = true
    ∧ (s.dpe.at p).settling = false) ∧
  (∃ (s : State) (p : Nat), s.se0Ignored p = false
    ∧ s.dpeIn p [.disabled, .enabled, .transmit, .suspended, .restartS, .restartE, .l1] = true) ∧
  (∃ (s : State) (p : Nat), s.se0Ignored p = false ∧ s.dpeIs p .migrating = true) ∧
  (∃ (s : State) (p : Nat) (completed : Bool), s.dpeIs p .resetting = true) ∧
  (∃ (s : State) (p : Nat) (microseconds : Nat), s.dpeIs p .resetting = true ∧ s.on F.PART_PSTAT_SPEED (s.partOf p) = true
    ∧ s.fld F.DPE_STATE_SPEED p ≠ 1 ∧ 1000 ≤ microseconds ∧ microseconds ≤ 7000) ∧
  (∃ (s : State) (p : Nat), s.dpeIn p [.enabled, .transmit] = true) ∧
  (∃ (s : State) (p : Nat) (besl : Nat) (addr : Nat) (rwe : Bool), s.dpeIs p .enabled = true
    ∧ s.on F.DPE_CTL_LPM_EN p = true) ∧
  (∃ (s : State) (p : Nat) (hostToo : Bool), s.dpeIs p .suspended = true ∧ s.requestWaits p (.resume p) = false
    ∧ s.on F.PART_PSTAT_SUSPENDED (s.partOf p) = true ∧ (s.parts.at (s.partOf p)).remoteWake = true ∧ hostToo = false
    ∧ (s.parts.at (s.partOf p)).freshK = false) ∧
  (∃ (s : State) (p : Nat) (hostToo : Bool), (s.dpeIs p .suspended = true ∨ s.dpeIs p .enabled = true)
    ∧ s.requestWaits p (.resume p) = false ∧ s.on F.PART_PSTAT_SUSPENDED (s.partOf p) = true
    ∧ (s.parts.at (s.partOf p)).remoteWake = true ∧ (hostToo = true ∨ (s.parts.at (s.partOf p)).freshK = true)) ∧
  (∃ (s : State) (p : Nat) (hostToo : Bool), s.dpeIs p .suspended = true ∧ s.requestWaits p (.resume p) = false
    ∧ s.on F.PART_PSTAT_SUSPENDED (s.partOf p) = false) ∧
  (∃ (s : State) (p : Nat) (hostToo : Bool), s.dpeIs p .l1 = true ∧ s.on F.DPE_LPM_RWE p = true
    ∧ s.requestWaits p (.exitL1 p) = false) ∧
  (∃ (s : State) (p : Nat), s.dpeIs p .resuming = true) ∧
  (∃ (s : State) (p : Nat), s.dpeIs p .sendEor = true) ∧
  (∃ (s : State) (p : Nat) (eop : Bool), eop = true ∧ s.dpeIs p .transmit = true ∧ (s.dpe.at p).driving = false) ∧
  (∃ (s : State) (p : Nat) (eop : Bool), eop = false ∧ s.dpeIs p .enabled = true
    ∧ s.on F.PART_PSTAT_SUSPENDED (s.partOf p) = false) :=
  ⟨⟨{ (benchPort State.reset 1 32 .disconnected) with dpe := [] }, 32, true, by decide⟩,
    ⟨{ benchPort State.reset 1 32 .suspended with dpe := [] }, 32, by decide⟩,
    ⟨{ (benchPort State.reset 1 32 .migrating) with dpe := [], migs := [(32, ⟨true, 2, 1, true, true, 0, .none, 5, if State.reset.free % 2 = 0 then 4 else 2⟩)] }, 32, by decide⟩,
    ⟨{ (benchPort State.reset 1 32 .resetting).put F.PART_PSTAT_SPEED 1 true with dpe := [(32, { (default : DpePort) with chirped := State.reset.free % 2 = 0 })] }, 32, true, by decide⟩,
    ⟨(benchPort State.reset 1 32 .resetting).put F.PART_PSTAT_SPEED 1 true |>.setFld F.DPE_STATE_SPEED 32 2, 32, 7000, by decide⟩,
    ⟨benchPort State.reset 1 32 .enabled, 32, by decide⟩,
    ⟨(benchPort State.reset 1 32 .enabled).put F.DPE_CTL_LPM_EN 32 true, 32, 4, 127, true, by decide⟩,
    ⟨{ (benchPort State.reset 1 32 .suspended).put F.PART_PSTAT_SUSPENDED 1 true with parts := [(1, { (default : Partition) with remoteWake := true })] }, 32, false, by decide⟩,
    ⟨{ (benchPort State.reset 1 32 (if State.reset.free % 2 = 0 then .suspended else .enabled)).put F.PART_PSTAT_SUSPENDED 1 true with parts := [(1, { (default : Partition) with remoteWake := true })] }, 32, true, by decide⟩,
    ⟨{ (benchPort State.reset 1 32 .suspended).put F.PART_PSTAT_SUSPENDED 1 false with parts := [] }, 32, false, by decide⟩,
    ⟨(benchPort State.reset 1 32 .l1).put F.DPE_LPM_RWE 32 true, 32, false, by decide⟩,
    ⟨benchPort State.reset 1 32 .resuming, 32, by decide⟩,
    ⟨benchPort State.reset 1 32 .sendEor, 32, by decide⟩,
    ⟨{ benchPort State.reset 1 32 .transmit with dpe := [] }, 32, true, by decide⟩,
    ⟨(benchPort State.reset 1 32 .enabled).put F.PART_PSTAT_SUSPENDED 1 false, 32, false, by decide⟩⟩

theorem hyps_IsolationQuarantineAndGlitchCommands :
  (∃ (s : State) (p : Nat), s.fitted p = true ∧ s.portsOn p = true ∧ s.domOn Dom.fabric = true
    ∧ s.dpeIs p .quarantined = false ∧ s.isoCause p = true) ∧
  (∃ (s : State) (p : Nat), s.fitted p = true ∧ s.portsOn p = true ∧ s.domOn Dom.fabric = true
    ∧ s.dpeIs p .isolated = true ∧ s.isoCause p = false) ∧
  (∃ (s : State) (p : Nat), s.live p = true) ∧
  (∃ (s : State) (p : Nat) (stage : Nat), s.live p = true) ∧
  (∃ (s : State) (p : Nat), s.live p = true ∧ s.on F.DSW_OVCFG_OV_AUTO (currant p) = false ∧ (s.pwr.at p).lineHigh = false) ∧
  (∃ (s : State) (p : Nat) (b : Bool), s.fitted p = true) ∧
  (∃ (s : State) (p : Nat), s.fitted p = true ∧ s.domOn Dom.fabric = true) ∧
  (∃ (s : State) (p : Nat), s.fitted p = true ∧ s.on F.DPE_CTL_QUAR p = true ∧ s.quarHeld p = false
    ∧ s.on F.DSW_PSTAT_STBUSY p = false) ∧
  (∃ (s : State) (p : Nat), s.fitted p = true ∧ s.on F.DPE_CTL_QUAR p = true
    ∧ (s.quarHeld p = true ∨ s.on F.DSW_PSTAT_STBUSY p = true)) ∧
  (∃ (s : State) (p : Nat), s.selfTestAllowed p = true) ∧
  (∃ (s : State) (p : Nat) (m : SelfTest), s.on F.DSW_PSTAT_STBUSY p = true ∧ (s.dpe.at p).stStep = 2 ∧ 5 ≤ m.upTo
    ∧ m.leak < 2 ^ 16) ∧
  (∃ (s : State) (p : Nat) (m : SelfTest), s.on F.DSW_PSTAT_STBUSY p = true ∧ (s.dpe.at p).stStep = 2 ∧ m.upTo = 2
    ∧ (s.dpe.at p).stTests.testBit 1 = true) ∧
  (∃ (s : State) (p : Nat), s.fitted p = true ∧ s.glitchBarred p (s.glitchCfg p) = false ∧ s.glitchCfg p % 4 = 1) ∧
  (∃ (s : State) (p : Nat), s.fitted p = true ∧ s.glitchBarred p (s.glitchCfg p) = false ∧ s.glitchCfg p % 4 ≠ 1) ∧
  (∃ (s : State) (p : Nat), s.fitted p = true ∧ s.glitchBarred p (s.glitchCfg p) = true) ∧
  (∃ (s : State) (p : Nat) (inPacket : Bool), s.on F.DPE_GLITCH_CTL_BUSY p = true ∧ 0 < (s.dpe.at p).glitch.left
    ∧ (inPacket = false ∨ (s.dpe.at p).glitch.midpkt = true)) ∧
  (∃ (s : State) (p : Nat), s.on F.DPE_GLITCH_CTL_ARMED p = true) :=
  ⟨⟨(benchPort State.reset 1 32 (if State.reset.free % 2 = 0 then .enabled else .isolated)).put F.DPE_CTL_ISOLATE 32 true, 32, by decide⟩,
    ⟨(benchPort State.reset 1 32 .isolated).put F.DPE_CTL_ISOLATE 32 false |>.put F.DSW_PSTAT_OVHOLD 32 false, 32, by decide⟩,
    ⟨benchPort State.reset 1 32 .enabled, 32, by decide⟩,
    ⟨(benchPort State.reset 1 32 .isolated).put F.DSW_PSTAT_OVHOLD 32 true, 32, 2, by decide⟩,
    ⟨{ (benchPort State.reset 1 32 .isolated).put F.DSW_PSTAT_OVHOLD 32 true |>.put F.DSW_OVCFG_OV_AUTO (currant 32) false with pwr := [] }, 32, by decide⟩,
    ⟨(benchPort State.reset 1 32 (if true then .enabled else .isolated)), 32, true, by decide⟩,
    ⟨benchPort State.reset 1 32 .enabled, 32, by decide⟩,
    ⟨{ (benchPort State.reset 1 32 .quarantined).put F.DPE_CTL_QUAR 32 true |>.put F.DSW_PSTAT_STBUSY 32 false |>.put F.DPE_CTL_ISOLATE 32 (State.reset.ct % 2 = 0) with fc := default }, 32, by decide⟩,
    ⟨(benchPort State.reset 1 32 .quarantined).put F.DPE_CTL_QUAR 32 true |>.put F.DSW_PSTAT_STBUSY 32 true, 32, by decide⟩,
    ⟨(benchPort State.reset 1 32 .quarantined).put F.DSW_PSTAT_STBUSY 32 false |>.setFld F.ADC_PV_VBUS 32 79, 32, by decide⟩,
    ⟨{ (benchPort State.reset 1 32 .quarantined).put F.DSW_PSTAT_STBUSY 32 true with dpe := [(32, { (default : DpePort) with stTests := 1 + 2 * (State.reset.free % 4), stStep := 2 })] }, 32, ⟨0, 100, 80, -10, 62, false, 5⟩, by decide⟩,
    ⟨{ (benchPort State.reset 1 32 .quarantined).put F.DSW_PSTAT_STBUSY 32 true with dpe := [(32, { (default : DpePort) with stTests := 2 + State.reset.free % 2, stStep := 2 })] }, 32, ⟨0, 100, 80, -10, 62, false, 2⟩, by decide⟩,
    ⟨{ benchPort State.reset 1 32 .enabled with dpe := [] }.put F.DPE_GLITCH_CTL_BUSY 32 false |>.put F.DPE_GLITCH_CTL_ARMED 32 false |>.setFld F.DPE_GLITCH_CFG_TYPE 32 1 |>.put F.DPE_CTL_ISOLATE 32 false |>.put F.DSW_PSTAT_OVHOLD 32 false |>.setFld F.PWR_PSTAT_STATE 32 5, 32, by decide⟩,
    ⟨(benchPort State.reset 1 32 (if State.reset.ct % 2 = 0 then .resetting else .enabled)).put F.DPE_GLITCH_CTL_BUSY 32 false |>.put F.DPE_GLITCH_CTL_ARMED 32 false |>.setFld F.DPE_GLITCH_CFG_TYPE 32 (2 + State.reset.free % 2) |>.put F.DPE_CTL_ISOLATE 32 false |>.put F.DSW_PSTAT_OVHOLD 32 false |>.setFld F.PWR_PSTAT_STATE 32 5, 32, by decide⟩,
    ⟨benchPort State.reset 1 32 .poweredOff, 32, by decide⟩,
    ⟨{ (benchPort State.reset 1 32 .enabled).put F.DPE_GLITCH_CTL_BUSY 32 true with dpe := [(32, { (default : DpePort) with glitch := ⟨1, 0, State.reset.free % 2 = 0, 1, 1, 1 + State.reset.ct % 2, 0⟩ })] }, 32, false, by decide⟩,
    ⟨(benchPort State.reset 1 32 .enabled).put F.DPE_GLITCH_CTL_ARMED 32 true, 32, by decide⟩⟩

theorem hyps_SplitTransactionCommands :
  (∃ (s : State) (k : Nat) (p : Nat) (addr : Nat) (ep : Nat) (dirIn : Bool) (control : Bool) (bytes : List Nat), s.ttServes k p = true ∧ s.pool.contexts.any (fun c => c.is p addr ep dirIn (if control then .control else .bulk)) = false ∧ s.on F.TT_PSTAT_STOPPED p = false ∧ s.npuse p < s.npbuf p ∧ s.poolFull = false) ∧
  (∃ (s : State) (k : Nat) (p : Nat) (addr : Nat) (ep : Nat) (dirIn : Bool) (control : Bool) (bytes : List Nat), s.ttServes k p = true ∧ s.pool.contexts.any (fun c => c.is p addr ep dirIn (if control then .control else .bulk)) = false ∧ (s.on F.TT_PSTAT_STOPPED p = true ∨ s.npbuf p ≤ s.npuse p)) ∧
  (∃ (s : State) (k : Nat) (p : Nat) (addr : Nat) (ep : Nat) (dirIn : Bool) (control : Bool) (bytes : List Nat), s.ttServes k p = true ∧ s.pool.contexts.any (fun c => c.is p addr ep dirIn (if control then .control else .bulk)) = true) ∧
  (∃ (s : State) (k : Nat) (p : Nat) (addr : Nat) (ep : Nat) (dirIn : Bool) (control : Bool) (c : Context), s.ttServes k p = true ∧ s.pool.contexts.find? (fun c => c.is p addr ep dirIn (if control then .control else .bulk)) = some c ∧ (c.st = .done ∨ c.st = .busError)) ∧
  (∃ (s : State) (k : Nat) (p : Nat) (addr : Nat) (ep : Nat) (dirIn : Bool) (control : Bool) (c : Context), s.ttServes k p = true ∧ s.pool.contexts.find? (fun c => c.is p addr ep dirIn (if control then .control else .bulk)) = some c ∧ (c.st = .queued ∨ c.st = .onWire ∨ c.st = .abandoned)) ∧
  (∃ (s : State) (k : Nat) (p : Nat) (addr : Nat) (ep : Nat) (dirIn : Bool) (control : Bool), s.ttServes k p = true
    ∧ s.pool.contexts.find? (fun c => c.is p addr ep dirIn (if control then .control else .bulk)) = none
    ∧ s.pool.lost.any (fun c => c.is p addr ep dirIn (if control then .control else .bulk)) = false) ∧
  (∃ (s : State) (k : Nat) (p : Nat) (addr : Nat) (ep : Nat) (dirIn : Bool) (iso : Bool) (more : Bool) (due : Nat) (bytes : List Nat) (rivals : List Nat), s.ttServes k p = true ∧ (iso && !dirIn && more) = false ∧ s.on F.TT_PSTAT_STOPPED p = false ∧ s.puse p < s.pmax p ∧ s.poolFull = false ∧ (((s.held p).filter (fun d => d.periodic && !d.shared)).length < s.pres p ∨ 2 ≤ s.sharedFree ∨ (s.sharedFree = 1 ∧ rivals = []))) ∧
  (∃ (s : State) (k : Nat) (p : Nat) (addr : Nat) (ep : Nat) (dirIn : Bool) (iso : Bool) (more : Bool) (due : Nat) (bytes : List Nat) (rivals : List Nat), s.ttServes k p = true ∧ (s.on F.TT_PSTAT_STOPPED p = true ∨ (s.pmax p ≤ s.puse p ∧ (iso && !dirIn && more) = false))) ∧
  (∃ (s : State) (k : Nat) (p : Nat) (addr : Nat) (ep : Nat) (dirIn : Bool) (iso : Bool) (more : Bool) (due : Nat) (bytes : List Nat) (rivals : List Nat), s.ttServes k p = true ∧ (iso && !dirIn && more) = false ∧ s.on F.TT_PSTAT_STOPPED p = false ∧ s.puse p < s.pmax p ∧ s.pres p ≤ ((s.held p).filter (fun d => d.periodic && !d.shared)).length ∧ s.sharedFree = 0) ∧
  (∃ (s : State) (k : Nat) (p : Nat) (addr : Nat) (ep : Nat) (dirIn : Bool) (control : Bool), s.ttServes k p = true
    ∧ s.pool.contexts.find? (fun c => c.is p addr ep dirIn (if control then .control else .bulk)) = none
    ∧ s.pool.lost.any (fun c => c.is p addr ep dirIn (if control then .control else .bulk)) = true) ∧
  (∃ (s : State) (k : Nat) (p : Nat) (addr : Nat) (ep : Nat) (dirIn : Bool) (iso : Bool) (more : Bool) (due : Nat) (bytes : List Nat) (rivals : List Nat), s.ttServes k p = true ∧ (iso && !dirIn && more) = true ∧ s.on F.TT_PSTAT_STOPPED p = false) ∧
  (∃ (s : State) (k : Nat) (p : Nat) (addr : Nat) (ep : Nat) (dirIn : Bool) (iso : Bool) (more : Bool) (due : Nat) (bytes : List Nat) (rivals : List Nat), s.ttServes k p = true ∧ (iso && !dirIn && more) = false ∧ s.on F.TT_PSTAT_STOPPED p = false ∧ s.puse p < s.pmax p ∧ s.poolFull = false ∧ s.pres p ≤ ((s.held p).filter (fun d => d.periodic && !d.shared)).length ∧ s.sharedFree = 1 ∧ rivals ≠ [] ∧ s.pool.tieOpen = false) ∧
  (∃ (s : State) (k : Nat) (p : Nat) (addr : Nat) (ep : Nat) (dirIn : Bool) (iso : Bool) (again : Bool) (came : List Nat) (c : Context), s.ttServes k p = true ∧ s.pool.contexts.find? (fun c => c.is p addr ep dirIn (if iso then .iso else .interrupt)) = some c ∧ (again = false ∨ c.answered = none) ∧ c.st = .done) ∧
  (∃ (s : State) (k : Nat) (p : Nat) (addr : Nat) (ep : Nat) (dirIn : Bool) (iso : Bool) (again : Bool) (came : List Nat) (c : Context), s.ttServes k p = true ∧ s.pool.contexts.find? (fun c => c.is p addr ep dirIn (if iso then .iso else .interrupt)) = some c ∧ (again = false ∨ c.answered = none) ∧ c.st = .onWire ∧ dirIn = true ∧ came ≠ []) ∧
  (∃ (s : State) (k : Nat) (p : Nat) (addr : Nat) (ep : Nat) (dirIn : Bool) (iso : Bool) (again : Bool) (came : List Nat) (c : Context), s.ttServes k p = true ∧ s.pool.contexts.find? (fun c => c.is p addr ep dirIn (if iso then .iso else .interrupt)) = some c ∧ (again = false ∨ c.answered = none)) ∧
  (∃ (s : State) (k : Nat) (p : Nat) (addr : Nat) (ep : Nat) (dirIn : Bool) (iso : Bool) (again : Bool) (came : List Nat) (c : Context) (a : BusAnswer), s.ttServes k p = true ∧ s.pool.contexts.find? (fun c => c.is p addr ep dirIn (if iso then .iso else .interrupt)) = some c ∧ again = true ∧ c.answered = some a) ∧
  (∃ (s : State) (k : Nat) (p : Nat) (addr : Nat) (ep : Nat) (dirIn : Bool) (iso : Bool) (again : Bool) (came : List Nat), s.ttServes k p = true ∧ s.pool.contexts.find? (fun c => c.is p addr ep dirIn (if iso then .iso else .interrupt)) = none) ∧
  (∃ (s : State) (k : Nat) (p : Nat), k < 4 ∧ s.ttServes k p = false) ∧
  (∃ (s : State) (p : Nat), s.ttServes (s.partOf p) p = true ∧ s.on F.PART_PSTAT_SUSPENDED (s.partOf p) = false
    ∧ s.fld F.DPE_STATE_SPEED p = 2) ∧
  (∃ (s : State) (p : Nat), s.ttServes (s.partOf p) p = true ∧ s.on F.PART_PSTAT_SUSPENDED (s.partOf p) = false
    ∧ s.fld F.DPE_STATE_SPEED p = 1) ∧
  (∃ (s : State) (p : Nat) (uframe : Nat) (beforeEof1 : Bool) (npFits : Bool) (corrected : Nat) (c : Context), s.ttServes (s.partOf p) p = true ∧ beforeEof1 = true ∧ s.on F.TT_PSTAT_STOPPED p = false ∧ s.on F.TT_PSTAT_WIRE p = false ∧ s.on F.PART_PSTAT_SUSPENDED (s.partOf p) = false ∧ s.nextContext p uframe npFits = some c) ∧
  (∃ (s : State) (p : Nat) (result : Nat) (bytes : List Nat) (busError : Bool) (c : Context), s.on F.TT_PSTAT_WIRE p = true ∧ (s.held p).find? (fun c => c.st == .onWire) = some c) :=
  ⟨⟨(benchPort { State.reset with pool := default } (3 % 4) 32 .enabled).put F.PART_PSTAT_SPEED (3 % 4) true |>.put F.TT_PSTAT_STOPPED 32 false, 3, 32, 1, 1, true, true, [], by decide⟩,
    ⟨(benchPort { State.reset with pool := default } (3 % 4) 32 .enabled).put F.PART_PSTAT_SPEED (3 % 4) true |>.put F.TT_PSTAT_STOPPED 32 true, 3, 32, 1, 1, true, true, [], by decide⟩,
    ⟨{ (benchPort State.reset (3 % 4) 32 .enabled).put F.PART_PSTAT_SPEED (3 % 4) true with pool := ⟨[newContext 32 1 1 true (if true then .control else .bulk) 0 []], 1, 0, false, []⟩ }, 3, 32, 1, 1, true, true, [], by decide⟩,
    ⟨{ (benchPort State.reset (3 % 4) 32 .enabled).put F.PART_PSTAT_SPEED (3 % 4) true with pool := ⟨[({ newContext 32 1 1 true .control 0 [] with st := .done })], 1, 0, false, []⟩ }, 3, 32, 1, 1, true, true, { newContext 32 1 1 true .control 0 [] with st := .done }, by decide⟩,
    ⟨{ (benchPort State.reset (3 % 4) 32 .enabled).put F.PART_PSTAT_SPEED (3 % 4) true with pool := ⟨[((newContext 32 1 1 true .control 0 []))], 1, 0, false, []⟩ }, 3, 32, 1, 1, true, true, (newContext 32 1 1 true .control 0 []), by decide⟩,
    ⟨{ (benchPort State.reset (3 % 4) 32 .enabled).put F.PART_PSTAT_SPEED (3 % 4) true with pool := default }, 3, 32, 1, 1, true, true, by decide⟩,
    ⟨{ (benchPort State.reset (3 % 4) 32 .enabled).put F.PART_PSTAT_SPEED (3 % 4) true |>.put F.TT_PSTAT_STOPPED 32 false |>.setFld F.TT_ALLOC_PMAX 32 (2 + State.reset.free % 5) |>.setFld F.TT_ALLOC_PRES 32 (1 + State.reset.ct % 3) with pool := ⟨[newContext 32 100 1 true .iso 0 []], 1, 0, false, []⟩ }, 3, 32, 1, 1, true, true, false, 0, [], [], by decide⟩,
    ⟨{ (benchPort State.reset (3 % 4) 32 .enabled).put F.PART_PSTAT_SPEED (3 % 4) true |>.put F.TT_PSTAT_STOPPED 32 (State.reset.ct % 2 = 0) |>.setFld F.TT_ALLOC_PMAX 32 (State.reset.free % 2) |>.setFld F.TT_ALLOC_PRES 32 (State.reset.ct % 3) with pool := ⟨[newContext 32 100 1 true .iso 0 []], 1, 0, false, []⟩ }, 3, 32, 1, 1, true, true, false, 0, [], [], by decide⟩,
    ⟨{ (benchPort State.reset (3 % 4) 32 .enabled).put F.PART_PSTAT_SPEED (3 % 4) true |>.put F.TT_PSTAT_STOPPED 32 false |>.setFld F.TT_ALLOC_PMAX 32 60 |>.setFld F.TT_ALLOC_PRES 32 0 |>.each ((List.range 32).map (· + 1)) (fun x q => if q = 32 then x else x.setFld F.TT_ALLOC_PRES q 40 |>.setFld F.TT_ALLOC_PMAX q 40 |>.setFld F.TT_ALLOC_NPBUF q 2) with pool := ⟨[], 1, 0, false, []⟩ }, 3, 32, 1, 1, true, true, false, 0, [], [], by decide +kernel⟩,
    ⟨{ (benchPort State.reset (3 % 4) 32 .enabled).put F.PART_PSTAT_SPEED (3 % 4) true with pool := ⟨[], 1, 0, false, [newContext 32 1 1 true (if true then .control else .bulk) 0 []]⟩ }, 3, 32, 1, 1, true, true, by decide⟩,
    ⟨{ (benchPort State.reset (3 % 4) 32 .enabled).put F.PART_PSTAT_SPEED (3 % 4) true |>.put F.TT_PSTAT_STOPPED 32 false with pool := ⟨[newContext 32 1 1 false .iso 0 [7]], 1, 0, false, []⟩ }, 3, 32, 1, 1, false, true, true, 0, [5], [], by decide⟩,
    ⟨{ (benchPort State.reset (3 % 4) 32 .enabled).put F.PART_PSTAT_SPEED (3 % 4) true |>.put F.TT_PSTAT_STOPPED 32 false |>.setFld F.TT_ALLOC_PMAX 32 60 |>.setFld F.TT_ALLOC_PRES 32 0 |>.setFld F.TT_ALLOC_NPBUF 32 2 |>.each ((List.range 32).map (· + 1)) (fun x q => if q = 32 then x else x.setFld F.TT_ALLOC_PRES q (if q ≤ 29 then 31 else 30) |>.setFld F.TT_ALLOC_PMAX q 40 |>.setFld F.TT_ALLOC_NPBUF q 2) with pool := ⟨[], 1, 0, false, []⟩ }, 3, 32, 1, 1, true, true, false, 0, [], [1], by decide +kernel⟩,
    ⟨{ (benchPort State.reset (3 % 4) 32 .enabled).put F.PART_PSTAT_SPEED (3 % 4) true with pool := ⟨[({ newContext 32 1 1 true .iso 0 [] with st := .done })], 1, 0, false, []⟩ }, 3, 32, 1, 1, true, true, false, [], { newContext 32 1 1 true .iso 0 [] with st := .done }, by decide⟩,
    ⟨{ (benchPort State.reset (3 % 4) 32 .enabled).put F.PART_PSTAT_SPEED (3 % 4) true with pool := ⟨[({ newContext 32 1 1 true .iso 0 [] with st := .onWire })], 1, 0, false, []⟩ }, 3, 32, 1, 1, true, true, false, [1], { newContext 32 1 1 true .iso 0 [] with st := .onWire }, by decide⟩,
    ⟨{ (benchPort State.reset (3 % 4) 32 .enabled).put F.PART_PSTAT_SPEED (3 % 4) true with pool := ⟨[((newContext 32 1 1 true .iso 0 []))], 1, 0, false, []⟩ }, 3, 32, 1, 1, true, true, false, [], (newContext 32 1 1 true .iso 0 []), by decide⟩,
    ⟨{ (benchPort State.reset (3 % 4) 32 .enabled).put F.PART_PSTAT_SPEED (3 % 4) true with pool := ⟨[({ newContext 32 1 1 true .iso 0 [] with answered := some .err })], 1, 0, false, []⟩ }, 3, 32, 1, 1, true, true, true, [], { newContext 32 1 1 true .iso 0 [] with answered := some .err }, .err, by decide⟩,
    ⟨{ (benchPort State.reset (3 % 4) 32 .enabled).put F.PART_PSTAT_SPEED (3 % 4) true with pool := default }, 3, 32, 1, 1, true, true, false, [], by decide⟩,
    ⟨State.reset, 3, 0, by decide⟩,
    ⟨(benchPort State.reset 2 32 .enabled).put F.PART_PSTAT_SPEED 2 true |>.put F.PART_PSTAT_SUSPENDED 2 false |>.setFld F.DPE_STATE_SPEED 32 2, 32, by decide⟩,
    ⟨(benchPort State.reset 2 32 .enabled).put F.PART_PSTAT_SPEED 2 true |>.put F.PART_PSTAT_SUSPENDED 2 false |>.setFld F.DPE_STATE_SPEED 32 1, 32, by decide⟩,
    ⟨{ (benchPort State.reset 2 32 .enabled).put F.PART_PSTAT_SPEED 2 true |>.put F.PART_PSTAT_SUSPENDED 2 false |>.put F.TT_PSTAT_STOPPED 32 false |>.put F.TT_PSTAT_WIRE 32 false with pool := ⟨[{ ((newContext 32 1 1 true .bulk 0 [])) with arrival := 3 }, ((newContext 32 1 1 true .bulk 0 []))], 4, 0, false, []⟩ }, 32, 0, true, true, 0, (newContext 32 1 1 true .bulk 0 []), by decide⟩,
    ⟨{ (benchPort State.reset 2 32 .enabled).put F.TT_PSTAT_WIRE 32 true with pool := ⟨[{ ({ newContext 32 1 1 true .bulk 0 [] with st := .onWire }) with arrival := 3, st := .queued }, ({ newContext 32 1 1 true .bulk 0 [] with st := .onWire })], 4, 0, false, []⟩ }, 32, 4, [1], false, { newContext 32 1 1 true .bulk 0 [] with st := .onWire }, by decide⟩⟩

theorem hyps_TranslatorRequestCommands :
  (∃ (s : State) (p : Nat) (addr : Nat) (ep : Nat) (dirIn : Bool) (iso : Bool) (c : Context), s.pool.contexts.find? (fun c => c.is p addr ep dirIn (if iso then .iso else .interrupt)) = some c) ∧
  (∃ (s : State) (p : Nat) (addr : Nat) (ep : Nat) (dirIn : Bool) (iso : Bool) (c : Context), s.pool.contexts.find? (fun c => c.is p addr ep dirIn (if iso then .iso else .interrupt) && c.st == .queued) = some c) ∧
  (∃ (s : State) (n : Nat) (c : Context), s.pool.contexts.find? (fun c => c.slot == n % 1024) = some c) ∧
  (∃ (s : State) (k : Nat) (ttPort : Nat) (addr : Nat) (ep : Nat) (dirIn : Bool) (typ : SplitType), s.hubUp k = true
    ∧ s.ttTargets k ttPort ≠ none) ∧
  (∃ (s : State) (k : Nat) (ttPort : Nat) (addr : Nat) (ep : Nat) (dirIn : Bool) (typ : SplitType), s.hubUp k = true
    ∧ s.ttTargets k ttPort = none) ∧
  (∃ (s : State) (k : Nat) (ttPort : Nat), s.hubUp k = true ∧ s.ttTargets k ttPort ≠ none) ∧
  (∃ (s : State) (k : Nat) (ttPort : Nat), s.hubUp k = true ∧ s.ttTargets k ttPort = none) ∧
  (∃ (s : State) (k : Nat) (ttPort : Nat), s.hubUp k = true ∧ s.ttTargets k ttPort ≠ none) ∧
  (∃ (s : State) (k : Nat) (ttPort : Nat), s.hubUp k = true ∧ s.ttTargets k ttPort = none) ∧
  (∃ (s : State) (k : Nat) (ttPort : Nat) (flags : Nat) (len : Nat), k < 4 ∧ s.hubUp k = true) ∧
  (∃ (s : State) (k tt flags len : Nat) (l : List Nat), s.ttTargets k tt = some l ∧ l ≠ [] ∧ flags = 0 ∧
    l.all (fun p => s.on F.TT_PSTAT_STOPPED p) = true) ∧
  (∃ (s : State) (k tt flags : Nat), s.ttTargets k tt = none ∨ (flags ≠ 0 ∧ s.ttTargets k tt ≠ some [])) ∧
  (∃ (s : State) (k : Nat) (alt : Nat), s.hubUp k = true ∧ (alt = 0 ∨ (alt = 1 ∧ s.on F.PART_PSTAT_SPEED k = true))) ∧
  (∃ (s : State) (k : Nat) (alt : Nat), s.hubUp k = true ∧ (2 ≤ alt ∨ (alt = 1 ∧ s.on F.PART_PSTAT_SPEED k = false))) ∧
  (∃ (s : State) (b : Boundary) (k : Nat) (hw : List HwChange) (tt p addr ep : Nat) (dirIn : Bool) (typ : SplitType) (c : Context), b = .f ∧ k < 4 ∧ s.staged = [] ∧ (s.parts.at k).requests = [.ttBuffer tt addr ep dirIn typ] ∧ s.ttTargets k tt = some [p] ∧ (typ = .control ∨ typ = .bulk) ∧ s.pool.contexts.find? (fun c => c.is p addr ep dirIn typ) = some c) ∧
  (∃ (s : State) (b : Boundary) (k : Nat) (hw : List HwChange) (tt p : Nat), b = .f ∧ k < 4 ∧ s.staged = []
    ∧ (s.parts.at k).requests = [.ttReset tt] ∧ s.ttTargets k tt = some [p]) ∧
  (∃ (s : State) (b : Boundary) (k : Nat) (hw : List HwChange) (tt p : Nat), b = .f ∧ k < 4 ∧ s.staged = []
    ∧ (s.parts.at k).requests = [.ttStop tt] ∧ s.ttTargets k tt = some [p]) ∧
  (∃ (s : State) (b : Boundary) (k : Nat) (hw : List HwChange) (alt : Nat), b = .f ∧ k < 4 ∧ s.staged = []
    ∧ (s.parts.at k).requests = [.alternate alt] ∧ alt ≤ 1 ∧ s.fld F.PART_PSTAT_TTALT k ≠ alt) :=
  ⟨⟨{ benchPort State.reset 2 32 .enabled with pool := ⟨[((newContext 32 1 1 true .iso 0 []))], 1, 0, false, []⟩ }, 32, 1, 1, true, true, (newContext 32 1 1 true .iso 0 []), by decide⟩,
    ⟨{ benchPort State.reset 2 32 .enabled with pool := ⟨[((newContext 32 1 1 true .iso 0 []))], 1, 0, false, []⟩ }, 32, 1, 1, true, true, (newContext 32 1 1 true .iso 0 []), by decide⟩,
    ⟨{ State.reset with pool := ⟨[({ newContext 32 1 1 true .iso 0 [] with slot := 7 })], 1, 0, false, []⟩ }, 7, { newContext 32 1 1 true .iso 0 [] with slot := 7 }, by decide⟩,
    ⟨(benchPort State.reset (3 % 4) 32 .enabled).put F.PART_PSTAT_TTALT (3 % 4) true, 3, 32, 1, 1, true, .bulk, by decide⟩,
    ⟨(benchPort State.reset (3 % 4) 3 .enabled).put F.PART_PSTAT_TTALT (3 % 4) true, 3, 33, 1, 1, true, .bulk, by decide⟩,
    ⟨(benchPort State.reset (3 % 4) 32 .enabled).put F.PART_PSTAT_TTALT (3 % 4) true, 3, 32, by decide⟩,
    ⟨(benchPort State.reset (3 % 4) 3 .enabled).put F.PART_PSTAT_TTALT (3 % 4) true, 3, 33, by decide⟩,
    ⟨(benchPort State.reset (3 % 4) 32 .enabled).put F.PART_PSTAT_TTALT (3 % 4) true, 3, 32, by decide⟩,
    ⟨(benchPort State.reset (3 % 4) 3 .enabled).put F.PART_PSTAT_TTALT (3 % 4) true, 3, 33, by decide⟩,
    ⟨(benchPort State.reset (3 % 4) 32 .enabled).put F.PART_PSTAT_TTALT (3 % 4) true |>.put F.TT_PSTAT_STOPPED 32 true, 3, 32, 0, 18, by decide⟩,
    ⟨(benchPort State.reset 3 32 .enabled).put F.PART_PSTAT_TTALT 3 true |>.put F.TT_PSTAT_STOPPED 32 true, 3, 32, 0, 18, [32], by decide⟩,
    ⟨(benchPort State.reset 3 32 .enabled).put F.PART_PSTAT_TTALT 3 true, 3, 33, 0, by decide⟩,
    ⟨benchPort State.reset (3 % 4) 4 .enabled, 3, 0, by decide⟩,
    ⟨benchPort State.reset (3 % 4) 4 .enabled, 3, 2, by decide⟩,
    ⟨({ (benchPort State.reset (3 % 4) 9 .enabled).put F.PART_PSTAT_TTALT (3 % 4) true with staged := [], pool := ⟨[(({ port := 9, addr := 5, ep := 6, dirIn := false, typ := .bulk, shared := false, st := .queued, arrival := 0, slot := 0, due := 0, result := 0, bytes := [], given := 0, answered := none }))], 1, 0, false, []⟩ }).updPart (3 % 4) (fun e => { e with requests := [.ttBuffer 9 5 6 false .bulk] }), .f, 3, [], 9, 9, 5, 6, false, .bulk, ({ port := 9, addr := 5, ep := 6, dirIn := false, typ := .bulk, shared := false, st := .queued, arrival := 0, slot := 0, due := 0, result := 0, bytes := [], given := 0, answered := none }), by decide⟩,
    ⟨({ (benchPort State.reset (1 % 4) 1 .enabled).put F.PART_PSTAT_TTALT (1 % 4) true with staged := [], pool := ⟨[newContext 1 1 1 true .iso 0 []], 1, 0, false, []⟩ }).updPart (1 % 4) (fun e => { e with requests := [.ttReset 1] }), .f, 1, [], 1, 1, by decide⟩,
    ⟨({ (benchPort State.reset (1 % 4) 1 .enabled).put F.PART_PSTAT_TTALT (1 % 4) true with staged := [] }).updPart (1 % 4) (fun e => { e with requests := [.ttStop 1] }), .f, 1, [], 1, 1, by decide⟩,
    ⟨({ (benchPort State.reset (0 % 4) 4 .enabled).setFld F.PART_PSTAT_TTALT (0 % 4) (1 - 0) with staged := [], pool := ⟨[newContext 4 1 1 true .iso 0 []], 1, 0, false, []⟩ }).updPart (0 % 4) (fun e => { e with requests := [.alternate 0] }), .f, 0, [], 0, by decide⟩⟩

theorem hyps_ManagementPortAndControlCommands :
  (∃ (s : State) (k : Nat) (connect : Bool), s.hasUpstream k = true ∧ s.domOn Dom.fabric = true ∧ connect = true
    ∧ overlapApplied s (s.put F.MF_CTL_CONNECT k connect) = false ∧ s.p33Is k .disconnected = true
    ∧ s.on F.MF_STAT_DESC_BAD k = false) ∧
  (∃ (s : State) (k : Nat) (connect : Bool), s.hasUpstream k = true ∧ s.domOn Dom.fabric = true ∧ connect = false
    ∧ s.p33Is k .enabled = true) ∧
  (∃ (s : State) (k : Nat), k < 4 ∧ s.p33Is k .resetting = true) ∧
  (∃ (s : State) (k : Nat), k < 4 ∧ s.p33Is k .resuming = true) ∧
  (∃ (s : State) (k : Nat) (hostToo : Bool), k < 4 ∧ s.p33Is k .suspended = true ∧ s.on F.MF_STAT_RWE k = true
    ∧ (s.mf.at k).notices.items ≠ [] ∧ (s.mf.at k).waking = false ∧ (s.parts.at k).requests.contains (.resume 33) = false
    ∧ (s.on F.PART_PSTAT_SUSPENDED k = false ∨ hostToo = true ∨ (s.parts.at k).remoteWake = true)) ∧
  (∃ (s : State) (k : Nat) (requestType : Nat) (request : Nat) (value : Nat) (index : Nat) (length : Nat) (done : Bool), s.mfUp k = true ∧ requestType = 0 ∧ request = 5 ∧ done = true) ∧
  (∃ (s : State) (k : Nat) (requestType : Nat) (request : Nat) (value : Nat) (index : Nat) (length : Nat) (done : Bool), s.mfUp k = true ∧ requestType = 0 ∧ request = 5 ∧ done = false) ∧
  (∃ (s : State) (k : Nat) (requestType : Nat) (request : Nat) (value : Nat) (index : Nat) (length : Nat) (done : Bool), s.mfUp k = true ∧ requestType = 0 ∧ request = 9 ∧ value = 1 ∧ done = true) ∧
  (∃ (s : State) (k : Nat) (requestType : Nat) (request : Nat) (value : Nat) (index : Nat) (length : Nat) (done : Bool), s.mfUp k = true ∧ requestType = 0 ∧ request = 9 ∧ value = 0 ∧ done = true) ∧
  (∃ (s : State) (k : Nat) (requestType : Nat) (request : Nat) (value : Nat) (index : Nat) (length : Nat) (done : Bool), s.mfUp k = true ∧ requestType = 0 ∧ (request = 3 ∨ request = 1) ∧ value = 1) ∧
  (∃ (s : State) (k : Nat) (requestType : Nat) (request : Nat) (value : Nat) (index : Nat) (length : Nat) (done : Bool), s.mfUp k = true ∧ requestType = 2 ∧ (request = 3 ∨ request = 1) ∧ value = 0 ∧ endpointOf index ≠ 0) ∧
  (∃ (s : State) (k : Nat) (requestType : Nat) (request : Nat) (value : Nat) (index : Nat) (length : Nat) (done : Bool), s.mfUp k = true ∧ requestType = 0x80 ∧ request = 6) ∧
  (∃ (s : State) (k : Nat) (done : Bool) (l : List Nat), k < 4 ∧ (s.mf.at k).control = .waitFirmware
    ∧ s.mfDescriptor k (s.mf.at k).wantValue = some l) ∧
  (∃ (s : State) (k : Nat) (done : Bool), k < 4 ∧ (s.mf.at k).control = .waitFirmware
    ∧ s.mfDescriptor k (s.mf.at k).wantValue = none) ∧
  (∃ (s : State) (k : Nat), k < 4 ∧ (s.mf.at k).control ≠ .idle) :=
  ⟨⟨((bench State.reset).setFld F.MF_STAT_PSTATE 3 1).put F.MF_STAT_DESC_BAD 3 false |>.each [0, 1, 2, 3] (fun x j => (x.put F.MF_CTL_CONNECT j false).each [0, 1, 2, 3, 4] (fun y e => (y.setFld F.MF_EPD_START (epd j e) (100 * e)).setFld F.MF_EPD_SIZE (epd j e) 90)), 3, true, by decide⟩,
    ⟨(bench State.reset).setFld F.MF_STAT_PSTATE 3 4, 3, false, by decide⟩,
    ⟨(bench State.reset).setFld F.MF_STAT_PSTATE 3 3, 3, by decide⟩,
    ⟨(bench State.reset).setFld F.MF_STAT_PSTATE 3 7, 3, by decide⟩,
    ⟨{ (bench State.reset).setFld F.MF_STAT_PSTATE 3 6 |>.put F.MF_STAT_RWE 3 true with mf := [(3, { (default : MfInst) with notices := { (default : NoticeQ) with items := [default] } })], parts := [(3, { (default : Partition) with remoteWake := State.reset.free % 2 = 0 })] }, 3, true, by decide⟩,
    ⟨{ (benchPort State.reset (3 % 4) 3 .enabled).setFld F.MF_STAT_PSTATE (3 % 4) 4 with mf := [(3 % 4, { (default : MfInst) with halts := [1, 3] })] }, 3, 0, 5, 9, 0, 0, true, by decide⟩,
    ⟨{ (benchPort State.reset (3 % 4) 3 .enabled).setFld F.MF_STAT_PSTATE (3 % 4) 4 with mf := [(3 % 4, { (default : MfInst) with halts := [1, 3] })] }, 3, 0, 5, 9, 0, 0, false, by decide⟩,
    ⟨{ (benchPort State.reset (3 % 4) 3 .enabled).setFld F.MF_STAT_PSTATE (3 % 4) 4 with mf := [(3 % 4, { (default : MfInst) with halts := [1, 3] })] }, 3, 0, 9, 1, 0, 0, true, by decide⟩,
    ⟨{ (benchPort State.reset (3 % 4) 3 .enabled).setFld F.MF_STAT_PSTATE (3 % 4) 4 with mf := [(3 % 4, { (default : MfInst) with halts := [1, 3] })] }, 3, 0, 9, 0, 0, 0, true, by decide⟩,
    ⟨{ (benchPort State.reset (3 % 4) 3 .enabled).setFld F.MF_STAT_PSTATE (3 % 4) 4 with mf := [(3 % 4, { (default : MfInst) with halts := [1, 3] })] }, 3, 0, 3, 1, 0, 0, true, by decide⟩,
    ⟨{ (benchPort State.reset (3 % 4) 3 .enabled).setFld F.MF_STAT_PSTATE (3 % 4) 4 with mf := [(3 % 4, { (default : MfInst) with halts := [1, 3] })] }, 3, 2, 3, 0, 132, 0, true, by decide⟩,
    ⟨{ (benchPort State.reset (3 % 4) 3 .enabled).setFld F.MF_STAT_PSTATE (3 % 4) 4 with mf := [(3 % 4, { (default : MfInst) with halts := [1, 3] })] }, 3, 128, 6, 256, 0, 18, true, by decide⟩,
    ⟨{ State.reset with mf := [(3, { (default : MfInst) with control := .waitFirmware, wantValue := if State.reset.free % 2 = 0 then 0x300 else 0x100, wantLength := 300 })] }, 3, true, [4, 3, 9, 4], by decide⟩,
    ⟨{ State.reset with mf := [(3, { (default : MfInst) with control := .waitFirmware, wantValue := 0x600 })] }, 3, true, by decide⟩,
    ⟨{ State.reset with mf := [(3, { (default : MfInst) with control := .waitFirmware })] }, 3, by decide⟩⟩

theorem hyps_ManagementEndpointCommands :
  (∃ (s : State) (k : Nat) (bytes : List Nat) (badCrc : Bool) (toggleError : Bool), s.mfUp k = true
    ∧ s.on F.MF_STAT_CONFIGURED k = true ∧ badCrc = false ∧ (s.mf.at k).halts.contains 1 = false ∧ toggleError = false
    ∧ (s.mf.at k).ep1Next = (s.mf.at k, 0, 0) ∧ s.ep1Room k (s.mf.at k) = true) ∧
  (∃ (s : State) (k : Nat) (bytes : List Nat) (badCrc : Bool) (toggleError : Bool), s.mfUp k = true
    ∧ s.on F.MF_STAT_CONFIGURED k = true ∧ badCrc = false ∧ (s.mf.at k).halts.contains 1 = false ∧ toggleError = false
    ∧ (s.mf.at k).ep1Next = (s.mf.at k, 0, 0) ∧ s.ep1Room k (s.mf.at k) = false) ∧
  (∃ (s : State) (k : Nat) (bytes : List Nat) (badCrc : Bool) (toggleError : Bool), s.mfUp k = true
    ∧ s.on F.MF_STAT_CONFIGURED k = true) ∧
  (∃ (s : State) (k : Nat), s.mfUp k = true ∧ s.on F.MF_STAT_CONFIGURED k = true ∧ s.on F.MF_STAT_SPEED k = true
    ∧ (s.mf.at k).halts.contains 1 = false ∧ (s.mf.at k).ep1Next = (s.mf.at k, 0, 0)) ∧
  (∃ (s : State) (k : Nat), s.mfUp k = true ∧ s.on F.MF_STAT_CONFIGURED k = true ∧ s.on F.MF_STAT_SPEED k = true
    ∧ (s.mf.at k).halts.contains 1 = true) ∧
  (∃ (s : State) (k : Nat), k < 4 ∧ (s.mf.at k).ended = true ∧ (s.mf.at k).tail = false ∧ 16 ≤ (s.mf.at k).partLen
    ∧ frameLen (s.mf.at k).part ≤ 1024 ∧ (s.mf.at k).partLen = 16 + frameLen (s.mf.at k).part) ∧
  (∃ (s : State) (k : Nat), k < 4 ∧ (s.mf.at k).ended = true ∧ (s.mf.at k).tail = false
    ∧ ((s.mf.at k).partLen < 16 ∨ (s.mf.at k).partLen ≠ 16 + frameLen (s.mf.at k).part)) ∧
  (∃ (s : State) (k : Nat) (f : List Nat) (rest : List (List Nat)), s.mfUp k = true ∧ s.on F.MF_STAT_CONFIGURED k = true
    ∧ (s.mf.at k).halts.contains 2 = false ∧ (s.mf.at k).responses = f :: rest) ∧
  (∃ (s : State) (k : Nat), s.mfUp k = true ∧ s.on F.MF_STAT_CONFIGURED k = true) ∧
  (∃ (s : State) (k : Nat) (n : Nat) (acked : Bool), s.mfUp k = true ∧ s.on F.MF_STAT_CONFIGURED k = true
    ∧ (s.mf.at k).halts.contains 3 = false ∧ (s.mf.at k).notices.items ≠ [] ∧ (s.mf.at k).notices.inflight = 0
    ∧ acked = true) ∧
  (∃ (s : State) (k : Nat) (n : Nat) (acked : Bool), s.mfUp k = true ∧ s.on F.MF_STAT_CONFIGURED k = true
    ∧ (s.mf.at k).halts.contains 3 = false ∧ (s.mf.at k).notices.items ≠ [] ∧ (s.mf.at k).notices.inflight = 0
    ∧ acked = false) ∧
  (∃ (s : State) (k : Nat) (n : Nat) (acked : Bool), s.mfUp k = true ∧ s.on F.MF_STAT_CONFIGURED k = true) ∧
  (∃ (s : State) (typ : Nat) (data : Nat) (k : Nat), k < 4 ∧ 3 ≤ typ ∧ typ ≤ 7 ∧ s.takesNotices k = true
    ∧ s.bit F.MF_CTL_NOTEN k (typ - 1) = true) ∧
  (∃ (s : State) (typ : Nat) (data : Nat), 3 ≤ typ ∧ typ ≤ 7 ∧ s.bit F.MBX_CTL_BCNOTEN 0 (typ - 1) = true) ∧
  (∃ (s : State) (k : Nat) (frame : Nat) (uframe : Nat), s.hubUp k = true ∧ s.on F.PART_PSTAT_HOST k = true
    ∧ s.on F.PART_PSTAT_SUSPENDED k = false ∧ s.on F.PART_PSTAT_SPEED k = true ∧ s.fld F.MF_CTL_SOFMODE k = 0
    ∧ s.fld F.MF_SOFIDX_NEXT k < 64) :=
  ⟨⟨{ (benchPort State.reset (3 % 4) 3 .enabled).setFld F.MF_STAT_PSTATE (3 % 4) 4 |>.put F.MF_STAT_CONFIGURED (3 % 4) true |>.put F.MF_STAT_SPEED (3 % 4) (State.reset.ct % 2 = 0) |>.setFld F.MF_EPD_SIZE (epd (3 % 4) 1) 48 |>.put F.MF_EPD_DBL (epd (3 % 4) 1) true with mf := [(3 % 4, { (default : MfInst) with part := [1, 2, 3], partLen := 3 })] }, 3, [1, 2], false, false, by decide⟩,
    ⟨{ (benchPort State.reset (3 % 4) 3 .enabled).setFld F.MF_STAT_PSTATE (3 % 4) 4 |>.put F.MF_STAT_CONFIGURED (3 % 4) true |>.put F.MF_STAT_SPEED (3 % 4) true |>.setFld F.MF_EPD_SIZE (epd (3 % 4) 1) 1 |>.put F.MF_EPD_DBL (epd (3 % 4) 1) true with mf := [(3 % 4, { (default : MfInst) with part := [1, 2, 3], partLen := 3 })] }, 3, [1, 2], false, false, by decide⟩,
    ⟨{ (benchPort State.reset (3 % 4) 3 .enabled).setFld F.MF_STAT_PSTATE (3 % 4) 4 |>.put F.MF_STAT_CONFIGURED (3 % 4) true |>.put F.MF_STAT_SPEED (3 % 4) true |>.setFld F.MF_EPD_SIZE (epd (3 % 4) 1) 48 |>.put F.MF_EPD_DBL (epd (3 % 4) 1) true with mf := [(3 % 4, { (default : MfInst) with part := [1, 2, 3], partLen := 3 })] }, 3, [1, 2], true, false, by decide⟩,
    ⟨{ (benchPort State.reset (3 % 4) 3 .enabled).setFld F.MF_STAT_PSTATE (3 % 4) 4 |>.put F.MF_STAT_CONFIGURED (3 % 4) true |>.put F.MF_STAT_SPEED (3 % 4) true |>.setFld F.MF_EPD_SIZE (epd (3 % 4) 1) (if State.reset.free % 2 = 0 then 48 else 1) |>.put F.MF_EPD_DBL (epd (3 % 4) 1) true with mf := [(3 % 4, { (default : MfInst) with part := [1, 2, 3], partLen := 3 })] }, 3, by decide⟩,
    ⟨{ (benchPort State.reset (3 % 4) 3 .enabled).setFld F.MF_STAT_PSTATE (3 % 4) 4 |>.put F.MF_STAT_CONFIGURED (3 % 4) true |>.put F.MF_STAT_SPEED (3 % 4) true |>.setFld F.MF_EPD_SIZE (epd (3 % 4) 1) 48 |>.put F.MF_EPD_DBL (epd (3 % 4) 1) true with mf := [(3 % 4, { (default : MfInst) with halts := [1], partLen := 3 })] }, 3, by decide⟩,
    ⟨{ State.reset with mf := [(3, { (default : MfInst) with ended := true, part := List.replicate 16 0, partLen := 16 })] }, 3, by decide⟩,
    ⟨{ State.reset with mf := [(3, { (default : MfInst) with ended := true, part := List.replicate 16 0, partLen := 15 + 2 * (State.reset.free % 2) })] }, 3, by decide⟩,
    ⟨{ (benchPort State.reset (3 % 4) 3 .enabled).setFld F.MF_STAT_PSTATE (3 % 4) 4 |>.put F.MF_STAT_CONFIGURED (3 % 4) true with mf := [(3 % 4, { (default : MfInst) with responses := [1] :: [[2]] })] }, 3, [1], [[2]], by decide⟩,
    ⟨{ (benchPort State.reset (3 % 4) 3 .enabled).setFld F.MF_STAT_PSTATE (3 % 4) 4 |>.put F.MF_STAT_CONFIGURED (3 % 4) true with mf := [(3 % 4, { (default : MfInst) with responses := [] })] }, 3, by decide⟩,
    ⟨{ (benchPort State.reset (3 % 4) 3 .enabled).setFld F.MF_STAT_PSTATE (3 % 4) 4 |>.put F.MF_STAT_CONFIGURED (3 % 4) true with mf := [(3 % 4, { (default : MfInst) with notices := { (default : NoticeQ) with items := [default, default] } })] }, 3, 1, true, by decide⟩,
    ⟨{ (benchPort State.reset (3 % 4) 3 .enabled).setFld F.MF_STAT_PSTATE (3 % 4) 4 |>.put F.MF_STAT_CONFIGURED (3 % 4) true with mf := [(3 % 4, { (default : MfInst) with notices := { (default : NoticeQ) with items := [default, default] } })] }, 3, 1, false, by decide⟩,
    ⟨{ (benchPort State.reset (3 % 4) 3 .enabled).setFld F.MF_STAT_PSTATE (3 % 4) 4 |>.put F.MF_STAT_CONFIGURED (3 % 4) true with mf := [(3 % 4, { (default : MfInst) with responses := [] })] }, 3, 1, true, by decide⟩,
    ⟨((bench State.reset).each [0, 1, 2, 3] (fun x q => ((x.setFld F.MF_STAT_PSTATE q 4).put F.MF_STAT_CONFIGURED q true).setFld F.MF_CTL_NOTEN q 0x7F)).setFld F.MBX_CTL_BCNOTEN 0 0x7F, 3, 1, 3, by decide⟩,
    ⟨((bench State.reset).each [0, 1, 2, 3] (fun x q => ((x.setFld F.MF_STAT_PSTATE q 4).put F.MF_STAT_CONFIGURED q true).setFld F.MF_CTL_NOTEN q 0x7F)).setFld F.MBX_CTL_BCNOTEN 0 0x7F, 3, 1, by decide⟩,
    ⟨(benchPort State.reset (3 % 4) 3 .enabled).put F.PART_PSTAT_SUSPENDED (3 % 4) false |>.put F.PART_PSTAT_SPEED (3 % 4) true |>.setFld F.MF_CTL_SOFMODE (3 % 4) 0, 3, 2047, 7, by decide⟩⟩

theorem hyps_TypeCAttachCommands :
  (∃ (s : State) (p : Nat) (cc1 : Nat) (cc2 : Nat) (vbus : Nat) (current : Nat) (vin : Nat) (rivals : List Nat), s.live p = true ∧ p ≤ 32 ∧ s.ccIs p .unattachedSrc = true ∧ s.attachPattern p (s.ccCode p false cc1, s.ccCode p true cc2) = true) ∧
  (∃ (s : State) (p : Nat) (cc1 : Nat) (cc2 : Nat) (vbus : Nat) (current : Nat) (vin : Nat) (rivals : List Nat), s.live p = true ∧ p ≤ 32 ∧ s.ccIs p .unattachedSrc = true ∧ s.attachPattern p (s.ccCode p false cc1, s.ccCode p true cc2) = false) ∧
  (∃ (s : State) (p : Nat) (cc1 : Nat) (cc2 : Nat) (vbus : Nat) (current : Nat) (vin : Nat) (rivals : List Nat), s.live p = true ∧ p ≤ 32 ∧ s.ccIs p .unattachedSnk = true ∧ oneRp (s.ccCode p false cc1, s.ccCode p true cc2) = true ∧ s.claimedByOther p = false ∧ rivals = []) ∧
  (∃ (s : State) (p : Nat) (cc1 : Nat) (cc2 : Nat) (vbus : Nat) (current : Nat) (vin : Nat) (rivals : List Nat), s.live p = true ∧ p ≤ 32 ∧ s.ccIs p .unattachedSnk = true ∧ oneRp (s.ccCode p false cc1, s.ccCode p true cc2) = true ∧ s.claimedByOther p = true) ∧
  (∃ (s : State) (p : Nat), s.ccLive p = true ∧ p ≤ 32 ∧ s.ccIs p .attachWaitSrc = true ∧ oneRd (s.pins p) = true
    ∧ s.vsafe0 p = true) ∧
  (∃ (s : State) (p : Nat), s.ccLive p = true ∧ p ≤ 32 ∧ s.ccIs p .attachWaitSrc = true ∧ oneRd (s.pins p) = true
    ∧ s.vsafe0 p = false) ∧
  (∃ (s : State) (p : Nat), s.ccLive p = true ∧ s.ccIs p .attachWaitSrc = true ∧ s.pins p = (2, 2)
    ∧ s.on F.TCPD_CCCFG_DEBUG_EN p = true ∧ s.vsafe0 p = true) ∧
  (∃ (s : State) (p : Nat), s.ccLive p = true ∧ s.ccIs p .attachWaitSrc = true ∧ s.pins p = (1, 1)
    ∧ s.on F.TCPD_CCCFG_AUDIO_EN p = true) ∧
  (∃ (s : State) (p : Nat), s.ccLive p = true ∧ s.ccIs p .attachWaitSnk = true ∧ oneRp (s.pins p) = true
    ∧ 400 < (s.cc.at p).vbus) ∧
  (∃ (s : State) (p : Nat), s.ccLive p = true ∧ p ≤ 32 ∧ s.ccIs p .attachedSrc = true
    ∧ (if s.on F.TCPD_CCSTAT_POLARITY p then (s.pins p).2 else (s.pins p).1) = 0 ∧ (s.pd.at p).swap ≠ .toSinkOff) ∧
  (∃ (s : State) (p : Nat), s.live p = true ∧ s.fld F.TCPD_CCCFG_ROLE p = 1 ∧ s.ccIs p .unattachedSrc = true
    ∧ s.claimedByOther p = false) ∧
  (∃ (s : State) (p : Nat), s.live p = true ∧ s.fld F.TCPD_CCCFG_ROLE p = 1 ∧ s.ccIs p .unattachedSnk = true) ∧
  (∃ (s : State) (p : Nat) (vbus : Nat), s.ccLive p = true ∧ s.ccIs p .attachedSnk = true ∧ s.prSwapping p = false
    ∧ vbus < 367) ∧
  (∃ (s : State) (p : Nat) (vbus : Nat), s.prSwapping p = true) ∧
  (∃ (s : State) (p : Nat), s.live p = true ∧ s.ccIs p .errorRecovery = true ∧ s.vsafe0 p = true) ∧
  (∃ (s : State) (p : Nat) (bit : Nat), s.live p = true ∧ bit = 0 ∧ s.ccIs p .ccOvHold = false) ∧
  (∃ (s : State) (p : Nat) (bit : Nat), s.live p = true ∧ bit = 1 ∧ s.on F.DSW_PSTAT_QUAR p = true
    ∧ s.ccIs p .ccOvHold = false) ∧
  (∃ (s : State) (p : Nat) (bit : Nat), s.live p = true ∧ bit = 2 ∧ s.partOf p < 4 ∧ s.logPwr p = false
    ∧ s.on F.PART_PCTL_VBUS_HOLD (s.partOf p) = false ∧ s.ccIs p .ccOvHold = false) ∧
  (∃ (s : State) (p : Nat) (bit : Nat), s.live p = true ∧ bit = 3 ∧ s.claimedByOther p = true
    ∧ s.fld F.TCPD_CCCFG_ROLE p = 2 ∧ s.on F.TCPD_CCSTAT_SINKCLAIM p = false ∧ s.ccIs p .ccOvHold = false) ∧
  (∃ (s : State) (p : Nat) (bit : Nat), s.live p = true ∧ bit = 0 ∧ s.ccIs p .ccOvHold = true) ∧
  (∃ (s : State) (p : Nat), s.live p = true ∧ s.ccIs p .disabled = true ∧ s.fld F.TCPD_CCSTAT_DISCAUSE p = 0
    ∧ s.vsafe0 p = true) ∧
  (∃ (s : State) (p : Nat), s.live p = true ∧ s.contracted p = false ∧ s.fld F.TCPD_CCSTAT_RPOUT p ≠ 0) :=
  ⟨⟨((bench State.reset).setFld F.TCPD_CCSTAT_STATE 3 2).setFld F.TCPD_CCSTAT_RPOUT 3 1, 3, 303, 1702, 6, 2, 7, [], by decide⟩,
    ⟨((bench State.reset).setFld F.TCPD_CCSTAT_STATE 3 2).setFld F.TCPD_CCSTAT_RPOUT 3 1, 3, 1703, 1702, 6, 2, 7, [], by decide⟩,
    ⟨((bench State.reset).setFld F.TCPD_CCSTAT_STATE 1 5).setFld F.TCPD_CCSTAT_RPOUT 1 0, 1, 305, 3, 6, 2, 1, [], by decide⟩,
    ⟨(((bench State.reset).setFld F.TCPD_CCSTAT_STATE 4 5).setFld F.TCPD_CCSTAT_RPOUT 4 0).put F.TCPD_CCSTAT_SINKCLAIM (4 / 8 * 8 + 1) true, 4, 305, 3, 6, 2, 1, [], by decide⟩,
    ⟨(bench State.reset).setFld F.TCPD_CCSTAT_STATE 8 3 |>.setFld F.TCPD_CCSTAT_CC1 8 2 |>.setFld F.TCPD_CCSTAT_CC2 8 (State.reset.ct % 2), 8, by decide⟩,
    ⟨(bench State.reset).setFld F.TCPD_CCSTAT_STATE 8 3 |>.setFld F.TCPD_CCSTAT_CC1 8 2 |>.setFld F.TCPD_CCSTAT_CC2 8 (State.reset.ct % 2) |>.put F.TCPD_CCSTAT_VSAFE0 8 false, 8, by decide⟩,
    ⟨(((bench State.reset).setFld F.TCPD_CCSTAT_STATE 8 3 |>.setFld F.TCPD_CCSTAT_CC1 8 2).setFld F.TCPD_CCSTAT_CC2 8 2).put F.TCPD_CCCFG_DEBUG_EN 8 true, 8, by decide⟩,
    ⟨(((bench State.reset).setFld F.TCPD_CCSTAT_STATE 8 3 |>.setFld F.TCPD_CCSTAT_CC1 8 1).setFld F.TCPD_CCSTAT_CC2 8 1).put F.TCPD_CCCFG_AUDIO_EN 8 true, 8, by decide⟩,
    ⟨{ (bench State.reset).setFld F.TCPD_CCSTAT_STATE 32 6 |>.setFld F.TCPD_CCSTAT_CC1 32 5 |>.setFld F.TCPD_CCSTAT_CC2 32 0 with cc := [(32, { (default : CcPort) with vbus := 401 })] }, 32, by decide⟩,
    ⟨{ (bench State.reset).setFld F.TCPD_CCSTAT_STATE 32 4 |>.setFld F.TCPD_CCSTAT_CC1 32 0 |>.setFld F.TCPD_CCSTAT_CC2 32 0 with pd := [] }, 32, by decide⟩,
    ⟨(bench State.reset).setFld F.TCPD_CCSTAT_STATE 32 2 |>.setFld F.TCPD_CCCFG_ROLE 32 1, 32, by decide⟩,
    ⟨(bench State.reset).setFld F.TCPD_CCSTAT_STATE 32 5 |>.setFld F.TCPD_CCCFG_ROLE 32 1, 32, by decide⟩,
    ⟨{ (bench State.reset).setFld F.TCPD_CCSTAT_STATE 36 7 with pd := [] }, 36, 366, by decide⟩,
    ⟨{ (bench State.reset).setFld F.TCPD_CCSTAT_STATE 8 7 with pd := [(8, { (default : PdPort) with swap := .toSourceAccepted })] }, 8, 2, by decide⟩,
    ⟨(bench State.reset).setFld F.TCPD_CCSTAT_STATE 32 1 |>.setFld F.TCPD_CCCFG_ROLE 32 (State.reset.ct % 3), 32, by decide⟩,
    ⟨(bench State.reset).setFld F.TCPD_CCSTAT_STATE 8 2, 8, 0, by decide⟩,
    ⟨((bench State.reset).setFld F.TCPD_CCSTAT_STATE 8 2).put F.DSW_PSTAT_QUAR 8 true, 8, 1, by decide⟩,
    ⟨(benchPort State.reset 1 8 .enabled).setFld F.TCPD_CCSTAT_STATE 8 2 |>.setFld F.PART_HOSTPWR_PWR 1 0 |>.put F.PART_PCTL_VBUS_HOLD 1 false, 8, 2, by decide⟩,
    ⟨(((bench State.reset).setFld F.TCPD_CCSTAT_STATE 6 5).setFld F.TCPD_CCCFG_ROLE 6 2).put F.TCPD_CCSTAT_SINKCLAIM (6 / 8 * 8 + 1) true |>.put F.TCPD_CCSTAT_SINKCLAIM 6 false, 6, 3, by decide⟩,
    ⟨(bench State.reset).setFld F.TCPD_CCSTAT_STATE 8 10, 8, 0, by decide⟩,
    ⟨(bench State.reset).setFld F.TCPD_CCSTAT_STATE 32 0 |>.setFld F.TCPD_CCSTAT_DISCAUSE 32 0, 32, by decide⟩,
    ⟨(bench State.reset).setFld F.TCPD_CCSTAT_RPOUT 32 (1 + State.reset.ct % 3) |>.setFld F.TCPD_CONTRACT_OBJPOS 32 0, 32, by decide⟩⟩

theorem hyps_VconnAndCableCommands :
  (∃ (s : State) (p : Nat), s.live p = true ∧ s.vconnAllowed p = true ∧ s.on F.TCPD_CCSTAT_CABLE_RA p = true
    ∧ s.on F.TCPD_PDSTAT_VCSRC p = true ∧ (s.pd.at p).swap ≠ .vconnTaking) ∧
  (∃ (s : State) (p : Nat), s.live p = true ∧ (s.pd.at p).swap = .vconnTaking ∧ s.on F.TCPD_VCSTAT_VCON p = true) ∧
  (∃ (s : State) (p : Nat), s.live p = true) ∧
  (∃ (s : State) (p : Nat), s.live p = true ∧ s.ccIs p .ccOvHold = true ∧ s.fld F.TCPD_CCSTAT_DISCAUSE p ≠ 0
    ∧ s.on F.TCPD_CCSTAT_SINKCLAIM p = false) ∧
  (∃ (s : State) (p : Nat), s.live p = true ∧ s.ccIs p .ccOvHold = true ∧ s.fld F.TCPD_CCSTAT_DISCAUSE p = 0
    ∧ s.fld F.TCPD_CCCFG_ROLE p ≠ 2) ∧
  (∃ (s : State) (p : Nat), s.live p = true ∧ s.ccIs p .ccOvHold = true ∧ s.fld F.TCPD_CCSTAT_DISCAUSE p = 0
    ∧ s.fld F.TCPD_CCCFG_ROLE p = 2) ∧
  (∃ (s : State) (p : Nat), s.live p = true ∧ s.on F.TCPD_VCSTAT_VCON p = true) ∧
  (∃ (s : State) (p : Nat), s.live p = true) ∧
  (∃ (s : State) (p : Nat), s.live p = true) ∧
  (∃ (s : State) (p : Nat) (answered : Bool), s.discAllowed p = true ∧ s.on F.TCPD_CABLE_VALID p = false
    ∧ (s.cc.at p).discWait = false ∧ (s.cc.at p).attempts < 20 ∧ answered = true) ∧
  (∃ (s : State) (p : Nat) (answered : Bool), s.discAllowed p = true ∧ s.on F.TCPD_CABLE_VALID p = false
    ∧ (s.cc.at p).discWait = false ∧ (s.cc.at p).attempts < 20 ∧ answered = false) ∧
  (∃ (s : State) (p : Nat) (idHeader : Nat) (vdo : Nat) (sop2 : Bool), s.live p = true
    ∧ s.ccIn p [.attachedSrc, .attachedSnk] = true ∧ s.on F.TCPD_PDSTAT_VCSRC p = true
    ∧ s.on F.TCPD_VCSTAT_VCFAULT p = false ∧ (idHeader / 2 ^ 27 % 8 = 3 ∨ idHeader / 2 ^ 27 % 8 = 4) ∧ sop2 = false) ∧
  (∃ (s : State) (p : Nat) (idHeader : Nat) (vdo : Nat) (sop2 : Bool), s.live p = true
    ∧ s.ccIn p [.attachedSrc, .attachedSnk] = true ∧ s.on F.TCPD_PDSTAT_VCSRC p = true
    ∧ s.on F.TCPD_VCSTAT_VCFAULT p = false ∧ sop2 = true ∧ s.on F.TCPD_CABLE_VALID p = true) :=
  ⟨⟨(bench State.reset).setFld F.TCPD_CCSTAT_STATE 32 4 |>.put F.TCPD_CCSTAT_CABLE_RA 32 true |>.put F.TCPD_PDSTAT_VCSRC 32 true |>.put F.PMU_RAILSTAT_VCONN_OK 0 true |>.put F.TCPD_VCSTAT_VCFAULT 32 false |>.put F.TCPD_CCCFG_VCONN_EN 32 true, 32, by decide⟩,
    ⟨{ (bench State.reset).put F.TCPD_VCSTAT_VCON 32 true with pd := [(32, { (default : PdPort) with swap := .vconnTaking })] }, 32, by decide⟩,
    ⟨(bench State.reset).setFld F.TCPD_CCSTAT_STATE 32 4, 32, by decide⟩,
    ⟨(bench State.reset).setFld F.TCPD_CCSTAT_STATE 32 10 |>.setFld F.TCPD_CCCFG_ROLE 32 (State.reset.ct % 3) |>.setFld F.TCPD_CCSTAT_DISCAUSE 32 (1 + State.reset.ct % 7), 32, by decide⟩,
    ⟨(bench State.reset).setFld F.TCPD_CCSTAT_STATE 32 10 |>.setFld F.TCPD_CCCFG_ROLE 32 (State.reset.ct % 2) |>.setFld F.TCPD_CCSTAT_DISCAUSE 32 0, 32, by decide⟩,
    ⟨(bench State.reset).setFld F.TCPD_CCSTAT_STATE 32 10 |>.setFld F.TCPD_CCCFG_ROLE 32 2 |>.setFld F.TCPD_CCSTAT_DISCAUSE 32 0, 32, by decide⟩,
    ⟨(bench State.reset).put F.TCPD_VCSTAT_VCON 32 true, 32, by decide⟩,
    ⟨(bench State.reset).put F.TCPD_VCSTAT_VCFAULT 32 true, 32, by decide⟩,
    ⟨(bench State.reset).put F.TCPD_CCCFG_DISC_EN 32 true |>.put F.TCPD_PDSTAT_VCSRC 32 true |>.put F.TCPD_VCSTAT_VCON 32 true |>.put F.TCPD_PDCFG_PD_EN 32 true, 32, by decide⟩,
    ⟨{ (bench State.reset).put F.TCPD_CCCFG_DISC_EN 8 true |>.put F.TCPD_PDSTAT_VCSRC 8 true |>.put F.TCPD_VCSTAT_VCON 8 true |>.put F.TCPD_PDCFG_PD_EN 8 true |>.put F.TCPD_CABLE_VALID 8 false with cc := [(8, { (default : CcPort) with attempts := State.reset.ct % 21 })] }, 8, true, by decide⟩,
    ⟨{ (bench State.reset).put F.TCPD_CCCFG_DISC_EN 8 true |>.put F.TCPD_PDSTAT_VCSRC 8 true |>.put F.TCPD_VCSTAT_VCON 8 true |>.put F.TCPD_PDCFG_PD_EN 8 true |>.put F.TCPD_CABLE_VALID 8 false with cc := [(8, { (default : CcPort) with attempts := [0, 2, 19].getD (State.reset.ct % 3) 0 })] }, 8, false, by decide⟩,
    ⟨(bench State.reset).setFld F.TCPD_CCSTAT_STATE 32 4 |>.put F.TCPD_PDSTAT_VCSRC 32 true |>.put F.TCPD_VCSTAT_VCFAULT 32 false, 32, 0x18000000, 0x40, false, by decide⟩,
    ⟨(bench State.reset).setFld F.TCPD_CCSTAT_STATE 32 4 |>.put F.TCPD_PDSTAT_VCSRC 32 true |>.put F.TCPD_VCSTAT_VCFAULT 32 false |>.put F.TCPD_CABLE_VALID 32 true, 32, 0, 0, true, by decide⟩⟩

theorem hyps_PowerDeliveryMessageCommands :
  (∃ (s : State) (p : Nat) (outcome : Nat), s.pdTalks p = true ∧ s.fld F.TCPD_TXCTL_SOP p = 0
    ∧ s.on F.TCPD_TXCTL_EXT p = true ∧ s.txTyp p ≠ 17 ∧ s.fld F.TCPD_TXCTL_LEN p ≤ 26 ∧ s.on F.TCPD_TXCTL_BUSY p = false
    ∧ outcome = 1) ∧
  (∃ (s : State) (p : Nat) (outcome : Nat), s.pdTalks p = true ∧ s.fld F.TCPD_TXCTL_SOP p = 0
    ∧ s.on F.TCPD_TXCTL_EXT p = true ∧ s.on F.TCPD_TXCTL_BUSY p = false ∧ outcome = 3) ∧
  (∃ (s : State) (p : Nat) (outcome : Nat), s.pdTalks p = true ∧ s.fld F.TCPD_TXCTL_SOP p = 0
    ∧ s.on F.TCPD_TXCTL_EXT p = true ∧ s.on F.TCPD_TXCTL_BUSY p = false ∧ outcome = 0) ∧
  (∃ (s : State) (p : Nat) (outcome : Nat), s.pdTalks p = true ∧ s.fld F.TCPD_TXCTL_SOP p = 4
    ∧ s.on F.TCPD_PDSTAT_VCSRC p = true ∧ s.on F.TCPD_TXCTL_BUSY p = false ∧ (s.pd.at p).capsDue = false
    ∧ s.contracted p = false ∧ (s.pd.at p).eprPending = false) ∧
  (∃ (s : State) (p : Nat) (outcome : Nat), s.pdTalks p = true ∧ s.fld F.TCPD_TXCTL_SOP p = 3
    ∧ s.on F.TCPD_TXCTL_BUSY p = false) ∧
  (∃ (s : State) (p : Nat) (good : Bool), s.pdLive p = true ∧ s.on F.TCPD_TXCTL_BUSY p = true
    ∧ (s.pd.at p).heldReady = false ∧ (s.pd.at p).retries < 2 ∧ good = false) ∧
  (∃ (s : State) (p : Nat) (good : Bool), s.pdLive p = true ∧ s.on F.TCPD_TXCTL_BUSY p = true
    ∧ (s.pd.at p).heldReady = false ∧ (s.pd.at p).retries < 2 ∧ good = true ∧ s.fld F.TCPD_TXCTL_SOP p = 0
    ∧ s.on F.TCPD_TXCTL_EXT p = true ∧ s.txTyp p ≠ 17 ∧ s.fld F.TCPD_TXCTL_LEN p ≤ 26) ∧
  (∃ (s : State) (p : Nat) (good : Bool), s.pdLive p = true ∧ s.on F.TCPD_TXCTL_BUSY p = true
    ∧ (s.pd.at p).heldReady = false ∧ 2 ≤ (s.pd.at p).retries) ∧
  (∃ (s : State) (p : Nat) (sop : Nat) (hdr : Nat) (extHdr : Nat) (ext : Bool) (bytes : List Nat), s.pdTalks p = true
    ∧ s.on F.TCPD_RXSTAT_FULL p = true ∧ sop = 0) ∧
  (∃ (s : State) (p : Nat) (sop : Nat) (hdr : Nat) (extHdr : Nat) (ext : Bool) (bytes : List Nat), s.pdTalks p = true
    ∧ s.vendorOn p = true ∧ p ≤ 32 ∧ s.on F.TCPD_RXSTAT_FULL p = false
    ∧ s.duplicate p ⟨0, hdr, false, extHdr, bytes⟩ = false ∧ sop = 0 ∧ ext = false ∧ hdr < 2 ^ 16 ∧ hdr % 32 = 9
    ∧ hdr / 2 ^ 12 % 8 = 0) ∧
  (∃ (s : State) (p : Nat) (sop : Nat) (hdr : Nat) (extHdr : Nat) (ext : Bool) (bytes : List Nat), s.pdTalks p = true
    ∧ s.on F.TCPD_RXSTAT_FULL p = false ∧ s.duplicate p ⟨0, hdr, true, extHdr, bytes⟩ = false ∧ sop = 0 ∧ ext = true
    ∧ extHdr.testBit 15 = false ∧ s.fld F.TCPD_PDSTAT_REV p = 2) ∧
  (∃ (s : State) (p : Nat) (good : Bool), s.sourceReady p = true ∧ s.on F.TCPD_PDSTAT_EPRMODE p = false ∧ good = true) ∧
  (∃ (s : State) (p : Nat) (good : Bool), s.sourceReady p = true ∧ (s.pd.at p).capsDue = false
    ∧ s.on F.TCPD_PDSTAT_EPRMODE p = false ∧ good = false) ∧
  (∃ (s : State) (p : Nat) (good : Bool), s.sourceReady p = true ∧ 0 < (s.pd.at p).attempts
    ∧ s.on F.TCPD_PDSTAT_EPRMODE p = true ∧ good = true) ∧
  (∃ (s : State) (p : Nat) (good : Bool), s.sourceReady p = true ∧ 0 < (s.pd.at p).attempts ∧ (s.pd.at p).capsDue = false
    ∧ s.on F.TCPD_PDSTAT_EPRMODE p = true ∧ good = false) ∧
  (∃ (s : State) (p : Nat), s.vendorOn p = true ∧ s.pdTalks p = true ∧ (s.pd.at p).awaiting = true
    ∧ (s.pd.at p).rxExt = none ∧ (s.pd.at p).txExt = none ∧ (s.pd.at p).own = .none ∧ (s.pd.at p).query ≠ 1
    ∧ (s.pd.at p).swap = .none) ∧
  (∃ (s : State) (p : Nat), s.policyOn p = true ∧ s.pdTalks p = true ∧ (s.pd.at p).rxExt = none ∧ (s.pd.at p).txExt = none
    ∧ (s.pd.at p).own = .none ∧ (s.pd.at p).query = 1) ∧
  (∃ (s : State) (p : Nat), s.policyOn p = true ∧ s.pdTalks p = true ∧ (s.pd.at p).rxExt = none ∧ (s.pd.at p).txExt = none
    ∧ (s.pd.at p).own = .softReset) :=
  ⟨⟨(((benchPd State.reset 8).setFld F.TCPD_TXCTL_SOP 8 0 |>.put F.TCPD_TXCTL_EXT 8 true).put F.TCPD_TXCTL_BUSY 8 false).setFld F.TCPD_TXCTL_LEN 8 (State.reset.ct % 27), 8, 1, by decide⟩,
    ⟨(((benchPd State.reset 8).setFld F.TCPD_TXCTL_SOP 8 0 |>.put F.TCPD_TXCTL_EXT 8 true).put F.TCPD_TXCTL_BUSY 8 false).setFld F.TCPD_TXCTL_LEN 8 (State.reset.ct % 27), 8, 3, by decide⟩,
    ⟨(((benchPd State.reset 8).setFld F.TCPD_TXCTL_SOP 8 0 |>.put F.TCPD_TXCTL_EXT 8 true).put F.TCPD_TXCTL_BUSY 8 false).setFld F.TCPD_TXCTL_LEN 8 (State.reset.ct % 27), 8, 0, by decide⟩,
    ⟨(((((benchPd State.reset 8).setFld F.TCPD_TXCTL_SOP 8 4 |>.put F.TCPD_TXCTL_EXT 8 true).put F.TCPD_TXCTL_BUSY 8 false).setFld F.TCPD_TXCTL_LEN 8 (State.reset.ct % 27)).put F.TCPD_PDSTAT_VCSRC 8 true).setFld F.TCPD_CONTRACT_OBJPOS 8 0, 8, 2, by decide⟩,
    ⟨(((benchPd State.reset 8).setFld F.TCPD_TXCTL_SOP 8 3 |>.put F.TCPD_TXCTL_EXT 8 true).put F.TCPD_TXCTL_BUSY 8 false).setFld F.TCPD_TXCTL_LEN 8 (State.reset.ct % 27), 8, 2, by decide⟩,
    ⟨{ (benchPd State.reset 32).put F.TCPD_TXCTL_BUSY 32 true with pd := [(32, { (default : PdPort) with retries := State.reset.ct % 2 })] }, 32, false, by decide⟩,
    ⟨{ (benchPd State.reset 32).put F.TCPD_TXCTL_BUSY 32 true |>.setFld F.TCPD_TXCTL_SOP 32 0 |>.put F.TCPD_TXCTL_EXT 32 true |>.setFld F.TCPD_TXCTL_LEN 32 (State.reset.ct % 27) with pd := [(32, { (default : PdPort) with retries := State.reset.ct % 2 })] }, 32, true, by decide⟩,
    ⟨{ (benchPd State.reset 32).put F.TCPD_TXCTL_BUSY 32 true with pd := [(32, { (default : PdPort) with retries := 2 })] }, 32, true, by decide⟩,
    ⟨(benchPd State.reset 32).put F.TCPD_RXSTAT_FULL 32 true, 32, 0, 0x1042, 0, false, [1, 2, 3, 4], by decide⟩,
    ⟨(benchPd State.reset 32).put F.TCPD_RXSTAT_FULL 32 false, 32, 0, 0x89, 0, false, [], by decide⟩,
    ⟨((benchPd State.reset 4).put F.TCPD_RXSTAT_FULL 4 false).setFld F.TCPD_PDSTAT_REV 4 2, 4, 0, 5, 3, true, [], by decide⟩,
    ⟨{ (benchPd State.reset 32).put F.TCPD_PDSTAT_EPRMODE 32 false with pd := [(32, { (default : PdPort) with attempts := 49 * (State.reset.ct % 2) })] }, 32, true, by decide⟩,
    ⟨{ (benchPd State.reset 32).put F.TCPD_PDSTAT_EPRMODE 32 false with pd := [(32, { (default : PdPort) with attempts := 49 * (State.reset.ct % 2) })] }, 32, false, by decide⟩,
    ⟨{ (benchPd State.reset 32).put F.TCPD_PDSTAT_EPRMODE 32 true with pd := [(32, { (default : PdPort) with attempts := 1 + State.reset.ct % 50 })] }, 32, true, by decide⟩,
    ⟨{ (benchPd State.reset 32).put F.TCPD_PDSTAT_EPRMODE 32 true with pd := [(32, { (default : PdPort) with attempts := 1 + State.reset.ct % 50 })] }, 32, false, by decide⟩,
    ⟨{ (benchPd State.reset 32) with pd := [(32, { (default : PdPort) with awaiting := true })] }, 32, by decide⟩,
    ⟨{ (benchPd State.reset 32) with pd := [(32, { (default : PdPort) with query := 1 })] }, 32, by decide⟩,
    ⟨{ (benchPd State.reset 32) with pd := [(32, { (default : PdPort) with own := .softReset })] }, 32, by decide⟩⟩

theorem hyps_PowerDeliveryContractCommands :
  (∃ (s : State) (p : Nat) (epr : Bool) (pos : Nat) (mv : Nat) (curr : Nat) (eprCapable : Bool) (rev : Nat), s.vendorOn p = true ∧ p ≤ 32 ∧ s.live p = true ∧ s.ccIs p .attachedSrc = true ∧ s.on F.TCPD_PDSTAT_PROLE p = true ∧ s.amsHeld p = false ∧ s.on F.TCPD_RXSTAT_FULL p = false ∧ objAt (s.lastOffer p) pos = none) ∧
  (∃ (s : State) (p : Nat) (epr : Bool) (pos : Nat) (mv : Nat) (curr : Nat) (eprCapable : Bool) (rev : Nat) (w v : Nat), s.vendorOn p = true ∧ p ≤ 32 ∧ s.live p = true ∧ s.ccIs p .attachedSrc = true ∧ s.on F.TCPD_PDSTAT_PROLE p = true ∧ s.amsHeld p = false ∧ s.on F.TCPD_RXSTAT_FULL p = false ∧ objAt (s.lastOffer p) pos = some w ∧ v = (if objKind w = 0 then objMaxV w else mv) ∧ (objKind w = 5 ∨ v < objMinV w ∨ objMaxV w < v ∨ objMaxI w v < curr)) ∧
  (∃ (s : State) (p : Nat) (epr : Bool) (pos : Nat) (mv : Nat) (curr : Nat) (eprCapable : Bool) (rev : Nat) (w v : Nat), s.vendorOn p = true ∧ p ≤ 32 ∧ s.live p = true ∧ s.ccIs p .attachedSrc = true ∧ s.on F.TCPD_PDSTAT_PROLE p = true ∧ s.amsHeld p = false ∧ s.on F.TCPD_RXSTAT_FULL p = false ∧ objAt (s.lastOffer p) pos = some w ∧ v = (if objKind w = 0 then objMaxV w else mv) ∧ objKind w ≠ 5 ∧ objMinV w ≤ v ∧ v ≤ objMaxV w ∧ curr ≤ objMaxI w v ∧ ((epr = true → s.on F.TCPD_PDSTAT_EPRMODE p = true)) ∧ ((epr = false → pos < 8)) ∧ 100 * s.fld F.TCPD_GRANT_PCAP p < power10 v curr) ∧
  (∃ (s : State) (p : Nat) (epr : Bool) (pos : Nat) (mv : Nat) (curr : Nat) (eprCapable : Bool) (rev : Nat) (w v : Nat), s.vendorOn p = true ∧ p ≤ 32 ∧ s.live p = true ∧ s.ccIs p .attachedSrc = true ∧ s.on F.TCPD_PDSTAT_PROLE p = true ∧ s.amsHeld p = false ∧ s.on F.TCPD_RXSTAT_FULL p = false ∧ objAt (s.lastOffer p) pos = some w ∧ v = (if objKind w = 0 then objMaxV w else mv) ∧ objKind w ≠ 5 ∧ objMinV w ≤ v ∧ v ≤ objMaxV w ∧ curr ≤ objMaxI w v ∧ ((epr = true → s.on F.TCPD_PDSTAT_EPRMODE p = true)) ∧ ((epr = false → pos < 8)) ∧ power10 v curr ≤ 100 * s.fld F.TCPD_GRANT_PCAP p ∧ s.contracted p = true ∧ s.fld F.TCPD_CONTRACT_OBJPOS p = pos ∧ (s.pd.at p).volt = v ∧ s.fld F.TCPD_CONTRACT_CURR p = curr) ∧
  (∃ (s : State) (p : Nat) (epr : Bool) (pos : Nat) (mv : Nat) (curr : Nat) (eprCapable : Bool) (rev : Nat) (w v : Nat), s.vendorOn p = true ∧ p ≤ 32 ∧ s.live p = true ∧ s.ccIs p .attachedSrc = true ∧ s.on F.TCPD_PDSTAT_PROLE p = true ∧ s.amsHeld p = false ∧ s.on F.TCPD_RXSTAT_FULL p = false ∧ objAt (s.lastOffer p) pos = some w ∧ v = (if objKind w = 0 then objMaxV w else mv) ∧ objKind w ≠ 5 ∧ objMinV w ≤ v ∧ v ≤ objMaxV w ∧ curr ≤ objMaxI w v ∧ ((epr = true → s.on F.TCPD_PDSTAT_EPRMODE p = true)) ∧ ((epr = false → pos < 8)) ∧ power10 v curr ≤ 100 * s.fld F.TCPD_GRANT_PCAP p ∧ s.contracted p = false ∧ s.grantable p (power10 v curr) = true ∧ s.cableAllows p v curr = true ∧ s.commandOn p = false) ∧
  (∃ (s : State) (p : Nat) (epr : Bool) (pos : Nat) (mv : Nat) (curr : Nat) (eprCapable : Bool) (rev : Nat) (w v : Nat), s.vendorOn p = true ∧ p ≤ 32 ∧ s.live p = true ∧ s.ccIs p .attachedSrc = true ∧ s.on F.TCPD_PDSTAT_PROLE p = true ∧ s.amsHeld p = false ∧ s.on F.TCPD_RXSTAT_FULL p = false ∧ objAt (s.lastOffer p) pos = some w ∧ v = (if objKind w = 0 then objMaxV w else mv) ∧ objKind w ≠ 5 ∧ objMinV w ≤ v ∧ v ≤ objMaxV w ∧ curr ≤ objMaxI w v ∧ ((epr = true → s.on F.TCPD_PDSTAT_EPRMODE p = true)) ∧ ((epr = false → pos < 8)) ∧ power10 v curr ≤ 100 * s.fld F.TCPD_GRANT_PCAP p ∧ s.contracted p = false ∧ s.grantable p (power10 v curr) = false) ∧
  (∃ (s : State) (p : Nat), s.offerTurn p = true ∧ s.on F.TCPD_PDSTAT_EPRMODE p = false) ∧
  (∃ (s : State) (p : Nat) (o : Offer), s.vendorOn p = true ∧ p ≤ 32 ∧ (s.pd.at p).accepted = some o
    ∧ s.transitionDone p o = true ∧ (s.pd.at p).capsDue = false ∧ (s.pd.at p).swap = .none ∧ (s.pd.at p).query ≠ 1
    ∧ (s.cc.at p).discWait = false ∧ o.pos < 16 ∧ o.volt / 20 < 4096 ∧ o.curr < 1024 ∧ o.power < 65536) ∧
  (∃ (s : State) (p : Nat), s.pdLive p = true ∧ p ≤ 32 ∧ s.on F.TCPD_PDSTAT_PROLE p = true ∧ s.fld F.TCPD_PDSTAT_PTYPE p = 2) ∧
  (∃ (s : State) (p : Nat) (o : Offer), s.vendorOn p = true ∧ s.sinkTxOk p = true ∧ (s.pd.at p).sinkOffer = some o
    ∧ (s.pd.at p).sinkAccepted = false ∧ s.on F.TCPD_PDSTAT_AMS p = false) ∧
  (∃ (s : State) (p : Nat) (sent : Bool), s.pdTalks p = true ∧ p ≤ 32 ∧ (s.cc.at p).attachedSink = false
    ∧ ((s.on F.TCPD_CCSTAT_SINKCLAIM p = true → s.claimedByOther p = false))) ∧
  (∃ (s : State) (p : Nat) (sent : Bool), s.pdTalks p = true ∧ sent = true) ∧
  (∃ (s : State) (p : Nat), s.live p = true ∧ (s.pd.at p).hardStep = 1) ∧
  (∃ (s : State) (p : Nat), s.live p = true ∧ 2 ≤ (s.pd.at p).hardStep ∧ s.vsafe0 p = true) ∧
  (∃ (s : State) (p : Nat), s.live p = true ∧ 2 ≤ (s.pd.at p).hardStep ∧ s.vsafe0 p = false
    ∧ s.ccIn p [.disabled, .ccOvHold] = false ∧ ((s.on F.TCPD_CCSTAT_SINKCLAIM p = true → s.claimedByOther p = false))) ∧
  (∃ (s : State) (p : Nat), s.vendorOn p = true ∧ p ≤ 32 ∧ (s.pd.at p).silent = true ∧ (s.pd.at p).hardResets < 2) ∧
  (∃ (s : State) (p : Nat), s.vendorOn p = true ∧ p ≤ 32 ∧ (s.pd.at p).silent = true ∧ 2 ≤ (s.pd.at p).hardResets
    ∧ (s.pd.at p).heard = false) ∧
  (∃ (s : State) (p : Nat), s.vendorOn p = true ∧ p ≤ 32 ∧ (s.pd.at p).silent = true ∧ 2 ≤ (s.pd.at p).hardResets
    ∧ (s.pd.at p).heard = true ∧ s.ccIn p [.disabled, .ccOvHold] = false ∧ ((s.on F.TCPD_CCSTAT_SINKCLAIM p = true →
    s.claimedByOther p = false))) ∧
  (∃ (s : State) (p : Nat), s.pdLive p = true ∧ s.policyRuns p = false ∧ s.on F.TCPD_PDSTAT_HOLD p = false) ∧
  (∃ (s : State) (p : Nat), s.pdLive p = true ∧ s.policyRuns p = true ∧ s.on F.TCPD_PDSTAT_HOLD p = true) :=
  ⟨⟨{ ((benchPd State.reset 5).put F.TCPD_RXSTAT_FULL 5 false) with pd := [] }, 5, true, 7, 5, 1, true, 8, by decide⟩,
    ⟨{ ((benchPd State.reset 4).put F.TCPD_RXSTAT_FULL 4 false |>.put F.TCPD_PDSTAT_EPRMODE 4 true |>.setFld F.TCPD_CONTRACT_OBJPOS 4 0 |>.setFld F.TCPD_CONTRACT_CURR 4 300 |>.setFld F.TCPD_GRANT_PCAP 4 240 |>.put F.GOV_STAT_BRDOFF 0 false |>.put F.GOV_STAT_SHEDDING 0 false |>.setFld F.GOV_BUDGET_BUDGET 0 9000) with pd := [(4, { (default : PdPort) with offered := [(1, 102700)], offeredEpr := [(1, 102700)] })] }, 4, true, 1, 5000, 310, true, 3, 102700, 5000, by decide⟩,
    ⟨{ ((benchPd State.reset 4).put F.TCPD_RXSTAT_FULL 4 false |>.put F.TCPD_PDSTAT_EPRMODE 4 true |>.setFld F.TCPD_CONTRACT_OBJPOS 4 0 |>.setFld F.TCPD_CONTRACT_CURR 4 300 |>.setFld F.TCPD_GRANT_PCAP 4 3 |>.put F.GOV_STAT_BRDOFF 0 false |>.put F.GOV_STAT_SHEDDING 0 false |>.setFld F.GOV_BUDGET_BUDGET 0 9000) with pd := [(4, { (default : PdPort) with offered := [(1, 102700)], offeredEpr := [(1, 102700)] })] }, 4, true, 1, 5000, 259, true, 3, 102700, 5000, by decide⟩,
    ⟨{ ((benchPd State.reset 4).put F.TCPD_RXSTAT_FULL 4 false |>.put F.TCPD_PDSTAT_EPRMODE 4 true |>.setFld F.TCPD_CONTRACT_OBJPOS 4 1 |>.setFld F.TCPD_CONTRACT_CURR 4 300 |>.setFld F.TCPD_GRANT_PCAP 4 200 |>.put F.GOV_STAT_BRDOFF 0 false |>.put F.GOV_STAT_SHEDDING 0 false |>.setFld F.GOV_BUDGET_BUDGET 0 9000) with pd := [(4, { (default : PdPort) with offered := [(1, 102700)], offeredEpr := [(1, 102700)], volt := 5000 })] }, 4, true, 1, 5000, 300, true, 3, 102700, 5000, by decide⟩,
    ⟨{ ((benchPd State.reset 4).put F.TCPD_RXSTAT_FULL 4 false |>.put F.TCPD_PDSTAT_EPRMODE 4 true |>.setFld F.TCPD_CONTRACT_OBJPOS 4 0 |>.setFld F.TCPD_CONTRACT_CURR 4 300 |>.setFld F.TCPD_GRANT_PCAP 4 200 |>.put F.GOV_STAT_BRDOFF 0 false |>.put F.GOV_STAT_SHEDDING 0 false |>.setFld F.GOV_BUDGET_BUDGET 0 9000) with pd := [(4, { (default : PdPort) with offered := [(1, 102700)], offeredEpr := [(1, 102700)] })] }, 4, true, 1, 5000, 9, true, 3, 102700, 5000, by decide⟩,
    ⟨{ ((benchPd State.reset 4).put F.TCPD_RXSTAT_FULL 4 false |>.put F.TCPD_PDSTAT_EPRMODE 4 true |>.setFld F.TCPD_CONTRACT_OBJPOS 4 0 |>.setFld F.TCPD_CONTRACT_CURR 4 300 |>.setFld F.TCPD_GRANT_PCAP 4 200 |>.put F.GOV_STAT_BRDOFF 0 false |>.put F.GOV_STAT_SHEDDING 0 true |>.setFld F.GOV_BUDGET_BUDGET 0 9000) with pd := [(4, { (default : PdPort) with offered := [(1, 102700)], offeredEpr := [(1, 102700)] })] }, 4, true, 1, 5000, 9, true, 3, 102700, 5000, by decide⟩,
    ⟨{ (benchPd State.reset 32).put F.TCPD_PDSTAT_EPRMODE 32 false with pd := [(32, { (default : PdPort) with lastWait := true })] }, 32, by decide⟩,
    ⟨{ (benchPd State.reset 32).setFld F.PWR_VSET_VSET 32 900 with pd := [(32, { (default : PdPort) with accepted := some ⟨2,9000,300,2700,1,false⟩ })], pwr := [(32, { (default : PwrPort) with vset := 900 })], cc := [] }, 32, ⟨2,9000,300,2700,1,false⟩, by decide⟩,
    ⟨(benchPd State.reset 32).setFld F.TCPD_PDSTAT_PTYPE 32 2, 32, by decide⟩,
    ⟨{ (benchPd State.reset 32) with pd := [(32, { (default : PdPort) with sinkOffer := some ⟨1,5000,300,1500,1,false⟩ })] }, 32, ⟨1,5000,300,1500,1,false⟩, by decide⟩,
    ⟨(benchPd State.reset 32).setFld F.PWR_PSTAT_STATE 32 (State.reset.ct % 10), 32, true, by decide⟩,
    ⟨(benchPd State.reset 32).setFld F.PWR_PSTAT_STATE 32 (State.reset.ct % 10), 32, true, by decide⟩,
    ⟨{ (benchPd State.reset 32).setFld F.PWR_PSTAT_STATE 32 (State.reset.ct % 10) with pd := [(32, { (default : PdPort) with hardStep := 1 })] }, 32, by decide⟩,
    ⟨{ (benchPd State.reset 32).put F.TCPD_CCSTAT_VSAFE0 32 true with pd := [(32, { (default : PdPort) with hardStep := 2 + State.reset.free % 2 })] }, 32, by decide⟩,
    ⟨{ (benchPd State.reset 32).put F.TCPD_CCSTAT_VSAFE0 32 false with pd := [(32, { (default : PdPort) with hardStep := 2 + State.reset.free % 2 })] }, 32, by decide⟩,
    ⟨{ (benchPd State.reset 32) with pd := [(32, { (default : PdPort) with silent := true, hardResets := State.reset.ct % 2, heard := State.reset.free % 2 = 0 })] }, 32, by decide⟩,
    ⟨{ (benchPd State.reset 32) with pd := [(32, { (default : PdPort) with silent := true, hardResets := 2 + State.reset.ct % 2, heard := false })] }, 32, by decide⟩,
    ⟨{ (benchPd State.reset 32) with pd := [(32, { (default : PdPort) with silent := true, hardResets := 2 + State.reset.ct % 2, heard := true })] }, 32, by decide⟩,
    ⟨{ (benchPd State.reset 32) with cores := [] }, 32, by decide⟩,
    ⟨(benchPd State.reset 32).put F.TCPD_PDSTAT_HOLD 32 true, 32, by decide⟩⟩

theorem hyps_EprModeCommands :
  (∃ (s : State) (p : Nat), s.vendorOn p = true ∧ p ≤ 32 ∧ s.pdTalks p = true ∧ s.on F.TCPD_PDSTAT_PROLE p = true
    ∧ s.fld F.TCPD_PDSTAT_REV p ≠ 1 ∧ ((s.contracted p = false ∨ s.on F.TCPD_PDSTAT_EPRMODE p = true))
    ∧ s.on F.TCPD_RXSTAT_FULL p = false) ∧
  (∃ (s : State) (p : Nat), s.vendorOn p = true ∧ p ≤ 32 ∧ s.pdTalks p = true ∧ s.on F.TCPD_PDSTAT_PROLE p = true
    ∧ s.fld F.TCPD_PDSTAT_REV p ≠ 1 ∧ s.contracted p = true ∧ s.on F.TCPD_PDSTAT_EPRMODE p = false
    ∧ (s.pd.at p).eprCapable = false ∧ s.on F.TCPD_RXSTAT_FULL p = false) ∧
  (∃ (s : State) (p : Nat), s.vendorOn p = true ∧ p ≤ 32 ∧ s.pdTalks p = true ∧ s.on F.TCPD_PDSTAT_PROLE p = true
    ∧ s.fld F.TCPD_PDSTAT_REV p ≠ 1 ∧ s.contracted p = true ∧ s.on F.TCPD_PDSTAT_EPRMODE p = false
    ∧ (s.pd.at p).eprCapable = true ∧ s.on F.TCPD_RXSTAT_FULL p = false) ∧
  (∃ (s : State) (p : Nat), s.policyOn p = false ∧ s.pdTalks p = true ∧ s.fld F.TCPD_PDSTAT_REV p = 2
    ∧ s.on F.TCPD_RXSTAT_FULL p = false) ∧
  (∃ (s : State) (p : Nat), s.vendorOn p = true ∧ (s.pd.at p).eprPending = true
    ∧ ((s.on F.TCPD_CABLE_VALID p = false ∨ s.on F.TCPD_CABLE_CEILEPR p = false))) ∧
  (∃ (s : State) (p : Nat), s.vendorOn p = true ∧ (s.pd.at p).eprPending = true ∧ s.on F.TCPD_CABLE_VALID p = true
    ∧ s.on F.TCPD_CABLE_CEILEPR p = true ∧ s.on F.TCPD_PDSTAT_VCSRC p = false) ∧
  (∃ (s : State) (p : Nat), s.vendorOn p = true ∧ (s.pd.at p).eprPending = true ∧ s.on F.TCPD_CABLE_VALID p = true
    ∧ s.on F.TCPD_CABLE_CEILEPR p = true ∧ s.on F.TCPD_PDSTAT_VCSRC p = true ∧ s.on F.TCPD_PDCFG_EPR_EN p = true
    ∧ holdsEpr (s.profile p) = true) ∧
  (∃ (s : State) (p : Nat), s.vendorOn p = true ∧ (s.pd.at p).eprPending = true ∧ s.on F.TCPD_CABLE_VALID p = true
    ∧ s.on F.TCPD_CABLE_CEILEPR p = true ∧ s.on F.TCPD_PDSTAT_VCSRC p = true
    ∧ ((s.on F.TCPD_PDCFG_EPR_EN p = false ∨ holdsEpr (s.profile p) = false))) ∧
  (∃ (s : State) (p : Nat), s.pdTalks p = true ∧ p ≤ 32 ∧ ((s.policyOn p = true → s.vendorOn p = true))
    ∧ s.fld F.TCPD_PDSTAT_REV p ≠ 1 ∧ s.on F.TCPD_RXSTAT_FULL p = false) ∧
  (∃ (s : State) (p : Nat), s.pdTalks p = true ∧ p ≤ 32 ∧ ((s.policyOn p = true → s.vendorOn p = true))
    ∧ s.fld F.TCPD_PDSTAT_REV p = 1 ∧ s.on F.TCPD_RXSTAT_FULL p = false) ∧
  (∃ (s : State) (p : Nat), s.pdLive p = true ∧ s.on F.TCPD_PDSTAT_EPRMODE p = true) ∧
  (∃ (s : State) (p : Nat) (bySink : Bool), s.vendorOn p = true ∧ s.pdTalks p = true ∧ p ≤ 32
    ∧ s.on F.TCPD_PDSTAT_EPRMODE p = true ∧ bySink = true ∧ (s.pd.at p).volt ≤ 20000 ∧ s.on F.TCPD_RXSTAT_FULL p = false) ∧
  (∃ (s : State) (p : Nat) (bySink : Bool), s.vendorOn p = true ∧ s.pdTalks p = true ∧ p ≤ 32
    ∧ s.on F.TCPD_PDSTAT_EPRMODE p = true ∧ bySink = true ∧ 20000 < (s.pd.at p).volt ∧ s.on F.TCPD_RXSTAT_FULL p = false) ∧
  (∃ (s : State) (p : Nat) (bySink : Bool), s.vendorOn p = true ∧ s.pdTalks p = true ∧ p ≤ 32
    ∧ s.on F.TCPD_PDSTAT_EPRMODE p = true ∧ bySink = false ∧ s.eprMustLeave p = true ∧ s.sourceReady p = true) :=
  ⟨⟨{ ((benchPd State.reset 32).put F.TCPD_RXSTAT_FULL 32 false).setFld F.TCPD_CONTRACT_OBJPOS 32 (State.reset.ct % 2) |>.put F.TCPD_PDSTAT_EPRMODE 32 true with pd := [(32, { (default : PdPort) with eprCapable := true })] }, 32, by decide⟩,
    ⟨{ ((benchPd State.reset 32).put F.TCPD_RXSTAT_FULL 32 false).setFld F.TCPD_CONTRACT_OBJPOS 32 1 |>.put F.TCPD_PDSTAT_EPRMODE 32 false with pd := [(32, { (default : PdPort) with eprCapable := false })] }, 32, by decide⟩,
    ⟨{ ((benchPd State.reset 32).put F.TCPD_RXSTAT_FULL 32 false).setFld F.TCPD_CONTRACT_OBJPOS 32 1 |>.put F.TCPD_PDSTAT_EPRMODE 32 false with pd := [(32, { (default : PdPort) with eprCapable := true })] }, 32, by decide⟩,
    ⟨(((benchPd State.reset 8).put F.TCPD_RXSTAT_FULL 8 false).put F.TCPD_PDSTAT_HOLD 8 true).setFld F.TCPD_PDSTAT_REV 8 2, 8, by decide⟩,
    ⟨{ (benchPd State.reset 32).put F.TCPD_CABLE_VALID 32 false |>.put F.TCPD_CABLE_CEILEPR 32 true |>.put F.TCPD_PDSTAT_VCSRC 32 true |>.put F.TCPD_PDCFG_EPR_EN 32 true with pd := [(32, { (default : PdPort) with eprPending := true })], profiles := factoryProfiles }, 32, by decide⟩,
    ⟨{ (benchPd State.reset 32).put F.TCPD_CABLE_VALID 32 true |>.put F.TCPD_CABLE_CEILEPR 32 true |>.put F.TCPD_PDSTAT_VCSRC 32 false |>.put F.TCPD_PDCFG_EPR_EN 32 true with pd := [(32, { (default : PdPort) with eprPending := true })], profiles := factoryProfiles }, 32, by decide⟩,
    ⟨{ (benchPd State.reset 32).put F.TCPD_CABLE_VALID 32 true |>.put F.TCPD_CABLE_CEILEPR 32 true |>.put F.TCPD_PDSTAT_VCSRC 32 true |>.put F.TCPD_PDCFG_EPR_EN 32 true with pd := [(32, { (default : PdPort) with eprPending := true })], profiles := factoryProfiles }, 32, by decide⟩,
    ⟨{ (benchPd State.reset 32).put F.TCPD_CABLE_VALID 32 true |>.put F.TCPD_CABLE_CEILEPR 32 true |>.put F.TCPD_PDSTAT_VCSRC 32 true |>.put F.TCPD_PDCFG_EPR_EN 32 false with pd := [(32, { (default : PdPort) with eprPending := true })], profiles := factoryProfiles }, 32, by decide⟩,
    ⟨(benchPd State.reset 8).put F.TCPD_RXSTAT_FULL 8 false, 8, by decide⟩,
    ⟨((benchPd State.reset 8).put F.TCPD_RXSTAT_FULL 8 false).setFld F.TCPD_PDSTAT_REV 8 1, 8, by decide⟩,
    ⟨(benchPd State.reset 32).put F.TCPD_PDSTAT_EPRMODE 32 true, 32, by decide⟩,
    ⟨{ ((benchPd State.reset 32).put F.TCPD_RXSTAT_FULL 32 false).put F.TCPD_PDSTAT_EPRMODE 32 true |>.put F.TCPD_PDCFG_EPR_EN 32 true with pd := [(32, { (default : PdPort) with volt := 20000 })] }, 32, true, by decide⟩,
    ⟨{ ((benchPd State.reset 32).put F.TCPD_RXSTAT_FULL 32 false).put F.TCPD_PDSTAT_EPRMODE 32 true |>.put F.TCPD_PDCFG_EPR_EN 32 true with pd := [(32, { (default : PdPort) with volt := 20001 })] }, 32, true, by decide⟩,
    ⟨{ (benchPd State.reset 32).put F.TCPD_PDSTAT_EPRMODE 32 true |>.put F.TCPD_PDCFG_EPR_EN 32 false with pd := [(32, { (default : PdPort) with volt := 20001 })] }, 32, false, by decide⟩⟩

theorem hyps_SwapCommands :
  (∃ (s : State) (p : Nat) (rivals : List Nat) (rev : Nat), s.policyOn p = true ∧ s.vendorOn p = false ∧ p ≤ 32
    ∧ s.pdTalks p = true ∧ s.on F.TCPD_RXSTAT_FULL p = false) ∧
  (∃ (s : State) (p : Nat) (rivals : List Nat) (rev : Nat), s.vendorOn p = true ∧ p ≤ 32 ∧ s.ccIs p .attachedSrc = true
    ∧ s.on F.TCPD_PDSTAT_PROLE p = true ∧ s.prSwapAnswer p rivals = 0 ∧ s.on F.TCPD_RXSTAT_FULL p = false) ∧
  (∃ (s : State) (p : Nat) (rivals : List Nat) (rev : Nat), s.vendorOn p = true ∧ p ≤ 32 ∧ s.ccIs p .attachedSrc = true
    ∧ s.on F.TCPD_PDSTAT_PROLE p = true ∧ s.prSwapAnswer p rivals = 1 ∧ s.on F.TCPD_RXSTAT_FULL p = false) ∧
  (∃ (s : State) (p : Nat) (rivals : List Nat) (rev : Nat), s.vendorOn p = true ∧ p ≤ 32 ∧ s.ccIs p .attachedSrc = true
    ∧ s.on F.TCPD_PDSTAT_PROLE p = true ∧ s.prSwapAnswer p rivals = 2 ∧ s.on F.TCPD_RXSTAT_FULL p = false) ∧
  (∃ (s : State) (p : Nat) (rivals : List Nat) (rev : Nat), s.vendorOn p = true ∧ p ≤ 32 ∧ s.ccIs p .attachedSnk = true
    ∧ s.on F.TCPD_PDSTAT_PROLE p = false ∧ s.amsOn p = true ∧ s.on F.TCPD_RXSTAT_FULL p = false) ∧
  (∃ (s : State) (p : Nat) (rivals : List Nat) (rev : Nat), s.vendorOn p = true ∧ p ≤ 32 ∧ s.ccIs p .attachedSnk = true
    ∧ s.on F.TCPD_PDSTAT_PROLE p = false ∧ s.amsOn p = false ∧ s.on F.TCPD_RXSTAT_FULL p = false) ∧
  (∃ (s : State) (p : Nat), s.live p = true ∧ (s.pd.at p).swap = .toSinkAccepted) ∧
  (∃ (s : State) (p : Nat), s.live p = true ∧ (s.pd.at p).swap = .toSinkOff ∧ s.vsafe0 p = true) ∧
  (∃ (s : State) (p : Nat), s.live p = true ∧ (s.pd.at p).swap = .toSinkWait ∧ s.on F.TCPD_RXSTAT_FULL p = false) ∧
  (∃ (s : State) (p : Nat), s.live p = true ∧ (s.pd.at p).swap = .toSourceAccepted ∧ s.on F.TCPD_RXSTAT_FULL p = false) ∧
  (∃ (s : State) (p : Nat), s.live p = true ∧ (s.pd.at p).swap = .vconnGive ∧ s.on F.TCPD_RXSTAT_FULL p = false) ∧
  (∃ (s : State) (p : Nat), s.live p = true
    ∧ ((s.pd.at p).swap = .toSinkOff ∨ (s.pd.at p).swap = .toSinkWait ∨ (s.pd.at p).swap = .toSinkRequest ∨ (s.pd.at p).swap = .toSourceAccepted ∨ (s.pd.at p).swap = .toSourceOn ∨ (s.pd.at p).swap = .vconnGive)) ∧
  (∃ (s : State) (p : Nat), s.live p = true ∧ (s.pd.at p).swap = .toSourceOn ∧ s.pwrIn p [.ramp, .qual, .on] = true
    ∧ (s.on F.TCPD_CCSTAT_SINKCLAIM p = true → s.claimedByOther p = false)) ∧
  (∃ (s : State) (p : Nat) (trips : Bool) (rev : Nat), s.policyOn p = true ∧ s.vendorOn p = false ∧ p ≤ 32
    ∧ s.pdTalks p = true ∧ s.on F.TCPD_RXSTAT_FULL p = false) ∧
  (∃ (s : State) (p : Nat) (trips : Bool) (rev : Nat), s.vendorOn p = true ∧ p ≤ 32 ∧ s.ccIs p .attachedSrc = true
    ∧ s.amsOn p = true ∧ s.on F.TCPD_RXSTAT_FULL p = false) ∧
  (∃ (s : State) (p : Nat) (trips : Bool) (rev : Nat), s.vendorOn p = true ∧ p ≤ 32 ∧ s.ccIs p .attachedSrc = true
    ∧ s.amsOn p = false ∧ s.on F.TCPD_PDCFG_VCS_EN p = false ∧ s.on F.TCPD_RXSTAT_FULL p = false) ∧
  (∃ (s : State) (p : Nat) (trips : Bool) (rev : Nat), s.vendorOn p = true ∧ p ≤ 32 ∧ s.ccIs p .attachedSrc = true
    ∧ s.amsOn p = false ∧ s.on F.TCPD_PDCFG_VCS_EN p = true ∧ s.on F.TCPD_PDSTAT_VCSRC p = true
    ∧ s.on F.TCPD_RXSTAT_FULL p = false) ∧
  (∃ (s : State) (p : Nat) (trips : Bool) (rev : Nat), s.vendorOn p = true ∧ p ≤ 32 ∧ s.ccIs p .attachedSrc = true
    ∧ s.amsOn p = false ∧ s.on F.TCPD_PDCFG_VCS_EN p = true ∧ s.on F.TCPD_PDSTAT_VCSRC p = false ∧ s.vconnAllowed p = true
    ∧ trips = false ∧ s.on F.TCPD_RXSTAT_FULL p = false) ∧
  (∃ (s : State) (p : Nat) (trips : Bool) (rev : Nat), s.vendorOn p = true ∧ p ≤ 32 ∧ s.ccIs p .attachedSrc = true
    ∧ s.amsOn p = false ∧ s.on F.TCPD_PDCFG_VCS_EN p = true ∧ s.on F.TCPD_PDSTAT_VCSRC p = false ∧ s.vconnAllowed p = true
    ∧ trips = true ∧ s.on F.TCPD_RXSTAT_FULL p = false) ∧
  (∃ (s : State) (p : Nat) (trips : Bool) (rev : Nat), s.vendorOn p = true ∧ p ≤ 32 ∧ s.ccIs p .attachedSrc = true
    ∧ s.amsOn p = false ∧ s.on F.TCPD_PDCFG_VCS_EN p = true ∧ s.on F.TCPD_PDSTAT_VCSRC p = false
    ∧ s.vconnAllowed p = false ∧ s.on F.TCPD_RXSTAT_FULL p = false) ∧
  (∃ (s : State) (p : Nat) (rev : Nat), s.policyOn p = true ∧ s.vendorOn p = false ∧ p ≤ 32 ∧ s.pdTalks p = true
    ∧ s.on F.TCPD_RXSTAT_FULL p = false) ∧
  (∃ (s : State) (p : Nat) (rev : Nat), s.pdTalks p = true ∧ ((s.policyOn p = true → s.vendorOn p = true))
    ∧ s.on F.TCPD_RXSTAT_FULL p = false) ∧
  (∃ (s : State) (p : Nat) (rev : Nat), s.pdTalks p = true ∧ s.policyOn p = true ∧ s.vendorOn p = false
    ∧ s.on F.TCPD_RXSTAT_FULL p = false) :=
  ⟨⟨{ (benchPd State.reset 32).put F.TCPD_RXSTAT_FULL 32 false with cores := [0, 1, 2, 3, 4].map (fun c => (c, { (default : CoreHw) with stage := .running, image := 1 })) }, 32, [], 3, by decide⟩,
    ⟨((benchPd State.reset 8).put F.TCPD_RXSTAT_FULL 8 false).put F.TCPD_PDCFG_PRS_EN 8 true |>.setFld F.TCPD_CCCFG_ROLE 8 1 |>.put F.TCPD_PDSTAT_EPRMODE 8 false |>.put F.TCPD_PDSTAT_AMS 8 false, 8, [], 3, by decide⟩,
    ⟨((benchPd State.reset 8).put F.TCPD_RXSTAT_FULL 8 false).put F.TCPD_PDCFG_PRS_EN 8 false |>.setFld F.TCPD_CCCFG_ROLE 8 1 |>.put F.TCPD_PDSTAT_EPRMODE 8 false |>.put F.TCPD_PDSTAT_AMS 8 false, 8, [], 3, by decide⟩,
    ⟨((benchPd State.reset 8).put F.TCPD_RXSTAT_FULL 8 false).put F.TCPD_PDCFG_PRS_EN 8 true |>.setFld F.TCPD_CCCFG_ROLE 8 1 |>.put F.TCPD_PDSTAT_EPRMODE 8 false |>.put F.TCPD_PDSTAT_AMS 8 true, 8, [], 3, by decide⟩,
    ⟨((benchPd State.reset 8).put F.TCPD_RXSTAT_FULL 8 false).setFld F.TCPD_CCSTAT_STATE 8 7 |>.put F.TCPD_PDSTAT_PROLE 8 false |>.put F.TCPD_PDSTAT_AMS 8 true |>.setFld F.PWR_PSTAT_STATE 8 9, 8, [], 3, by decide⟩,
    ⟨((benchPd State.reset 8).put F.TCPD_RXSTAT_FULL 8 false).setFld F.TCPD_CCSTAT_STATE 8 7 |>.put F.TCPD_PDSTAT_PROLE 8 false |>.put F.TCPD_PDSTAT_AMS 8 false |>.setFld F.PWR_PSTAT_STATE 8 9, 8, [], 3, by decide⟩,
    ⟨{ (benchPd State.reset 32) with pd := [(32, { (default : PdPort) with swap := .toSinkAccepted })] }, 32, by decide⟩,
    ⟨{ (benchPd State.reset 32).put F.TCPD_CCSTAT_VSAFE0 32 true with pd := [(32, { (default : PdPort) with swap := .toSinkOff })] }, 32, by decide⟩,
    ⟨{ ((benchPd State.reset 32).put F.TCPD_RXSTAT_FULL 32 false) with pd := [(32, { (default : PdPort) with swap := .toSinkWait })] }, 32, by decide⟩,
    ⟨{ ((benchPd State.reset 32).put F.TCPD_RXSTAT_FULL 32 false) with pd := [(32, { (default : PdPort) with swap := .toSourceAccepted })] }, 32, by decide⟩,
    ⟨{ ((benchPd State.reset 32).put F.TCPD_RXSTAT_FULL 32 false) with pd := [(32, { (default : PdPort) with swap := .vconnGive })] }, 32, by decide⟩,
    ⟨{ (benchPd State.reset 32) with pd := [(32, { (default : PdPort) with swap := [Swap.toSinkWait, .toSourceAccepted, .vconnGive, .toSinkOff, .toSourceOn].getD (State.reset.ct % 5) .none })] }, 32, by decide⟩,
    ⟨{ (benchPd State.reset 32).setFld F.TCPD_CCSTAT_STATE 32 7 |>.put F.TCPD_CCSTAT_SINKCLAIM 32 true with pd := [(32, { (default : PdPort) with swap := .toSourceOn })] }, 32, by decide⟩,
    ⟨{ (benchPd State.reset 32).put F.TCPD_RXSTAT_FULL 32 false with cores := [0, 1, 2, 3, 4].map (fun c => (c, { (default : CoreHw) with stage := .running, image := 1 })) }, 32, false, 3, by decide⟩,
    ⟨((benchPd State.reset 6).put F.TCPD_RXSTAT_FULL 6 false).put F.TCPD_PDCFG_VCS_EN 6 true |>.put F.TCPD_PDSTAT_VCSRC 6 true |>.put F.PMU_RAILSTAT_VCONN_OK 0 true |>.put F.TCPD_CCCFG_VCONN_EN 6 true |>.put F.TCPD_VCSTAT_VCFAULT 6 false |>.put F.TCPD_PDSTAT_AMS 6 true, 6, true, 6, by decide⟩,
    ⟨((benchPd State.reset 6).put F.TCPD_RXSTAT_FULL 6 false).put F.TCPD_PDCFG_VCS_EN 6 false |>.put F.TCPD_PDSTAT_VCSRC 6 true |>.put F.PMU_RAILSTAT_VCONN_OK 0 true |>.put F.TCPD_CCCFG_VCONN_EN 6 true |>.put F.TCPD_VCSTAT_VCFAULT 6 false |>.put F.TCPD_PDSTAT_AMS 6 false, 6, true, 6, by decide⟩,
    ⟨((benchPd State.reset 6).put F.TCPD_RXSTAT_FULL 6 false).put F.TCPD_PDCFG_VCS_EN 6 true |>.put F.TCPD_PDSTAT_VCSRC 6 true |>.put F.PMU_RAILSTAT_VCONN_OK 0 true |>.put F.TCPD_CCCFG_VCONN_EN 6 true |>.put F.TCPD_VCSTAT_VCFAULT 6 false |>.put F.TCPD_PDSTAT_AMS 6 false, 6, true, 6, by decide⟩,
    ⟨((benchPd State.reset 8).put F.TCPD_RXSTAT_FULL 8 false).put F.TCPD_PDCFG_VCS_EN 8 true |>.put F.TCPD_PDSTAT_VCSRC 8 false |>.put F.PMU_RAILSTAT_VCONN_OK 0 true |>.put F.TCPD_CCCFG_VCONN_EN 8 true |>.put F.TCPD_VCSTAT_VCFAULT 8 false |>.put F.TCPD_PDSTAT_AMS 8 false, 8, false, 3, by decide⟩,
    ⟨((benchPd State.reset 8).put F.TCPD_RXSTAT_FULL 8 false).put F.TCPD_PDCFG_VCS_EN 8 true |>.put F.TCPD_PDSTAT_VCSRC 8 false |>.put F.PMU_RAILSTAT_VCONN_OK 0 true |>.put F.TCPD_CCCFG_VCONN_EN 8 true |>.put F.TCPD_VCSTAT_VCFAULT 8 false |>.put F.TCPD_PDSTAT_AMS 8 false, 8, true, 3, by decide⟩,
    ⟨((benchPd State.reset 6).put F.TCPD_RXSTAT_FULL 6 false).put F.TCPD_PDCFG_VCS_EN 6 true |>.put F.TCPD_PDSTAT_VCSRC 6 false |>.put F.PMU_RAILSTAT_VCONN_OK 0 true |>.put F.TCPD_CCCFG_VCONN_EN 6 true |>.put F.TCPD_VCSTAT_VCFAULT 6 true |>.put F.TCPD_PDSTAT_AMS 6 false, 6, true, 6, by decide⟩,
    ⟨{ (benchPd State.reset 32).put F.TCPD_RXSTAT_FULL 32 false with cores := [0, 1, 2, 3, 4].map (fun c => (c, { (default : CoreHw) with stage := .running, image := 1 })) }, 32, 3, by decide⟩,
    ⟨(benchPd State.reset 8).put F.TCPD_RXSTAT_FULL 8 false, 8, 2, by decide⟩,
    ⟨{ ((benchPd State.reset 8).put F.TCPD_RXSTAT_FULL 8 false) with cores := [0, 1, 2, 3, 4].map (fun c => (c, { (default : CoreHw) with stage := .running, image := 1 })) }, 8, 2, by decide⟩⟩

theorem hyps_PowerStageCommands :
  (∃ (s : State) (p : Nat), s.vbusRequest p = true ∧ s.pwrIs p .off = true ∧ s.vsafe0 p = true
    ∧ s.on F.DIE_STAT_SHUTDOWN (currant p) = false ∧ (s.pwr.at p).notBefore ≤ s.ct) ∧
  (∃ (s : State) (p : Nat), s.live p = true ∧ s.pwrIs p .softstart = true) ∧
  (∃ (s : State) (p : Nat), s.live p = true ∧ s.pwrIs p .ramp = true) ∧
  (∃ (s : State) (p : Nat), s.live p = true ∧ s.pwrIs p .qual = true ∧ s.on F.PWR_PSTAT_LIMIT p = false) ∧
  (∃ (s : State) (p : Nat) (i : Int), s.live p = true ∧ s.pwrIn p [.ramp, .qual, .on, .transition, .sink] = true) ∧
  (∃ (s : State) (p : Nat), s.live p = true ∧ s.on F.PWR_PSTAT_LIMIT p = true ∧ s.pwrIn p sourcing = true) ∧
  (∃ (s : State) (p : Nat) (i : Int), s.live p = true ∧ s.pwrIn p sourcing = true ∧ s.contracted p = false
    ∧ ((100 * s.fld F.PWR_LEVELS_IFT p < i.natAbs ∨ 15000 < i.natAbs))) ∧
  (∃ (s : State) (p : Nat), s.live p = true ∧ s.pwrIn p [.qual, .on, .transition, .sink] = true
    ∧ s.on F.PWR_PSTAT_OVLDX p = false) ∧
  (∃ (s : State) (p : Nat), s.live p = true ∧ s.on F.PWR_PSTAT_OVLDX p = true) ∧
  (∃ (s : State) (p : Nat) (v : Nat), s.live p = true ∧ s.pwrIn p sourcing = true
    ∧ ((11 * s.ovBase p + 5000 < 100 * v ∨ 5400 < v))) ∧
  (∃ (s : State) (p : Nat) (i : Nat), s.live p = true ∧ s.pwrIn p sourcing = true ∧ (if s.downward p then 2000 else 500) < i) ∧
  (∃ (s : State) (p : Nat), s.live p = true ∧ s.pwrIn p sourcing = true) ∧
  (∃ (s : State) (p : Nat), s.live p = true) ∧
  (∃ (s : State) (p : Nat), s.live p = true ∧ s.pwrIs p .transition = true ∧ s.on F.PWR_PSTAT_LIMIT p = false
    ∧ s.inBand p = true) ∧
  (∃ (s : State) (p : Nat), s.live p = true ∧ s.pwrIs p .transition = true) ∧
  (∃ (s : State) (p : Nat), s.live p = true ∧ s.pwrIn p sourcing = true ∧ s.fld F.TCPD_PDSTAT_PTYPE p = 2
    ∧ s.on F.PWR_PSTAT_CL p = true ∧ s.fld F.ADC_PV_VBUS p < 300) ∧
  (∃ (s : State) (p : Nat), s.live p = true ∧ s.retryReady p = true) ∧
  (∃ (s : State) (p : Nat), s.live p = true ∧ s.pwrIs p .on = true ∧ s.fld F.PWR_RETRY_RETRY p < 8) ∧
  (∃ (s : State) (p : Nat), s.live p = true ∧ s.pwrIn p [.discharge, .retryWait, .latched, .off] = true) ∧
  (∃ (s : State) (p : Nat), s.live p = true ∧ s.pwrIn p [.discharge, .retryWait, .latched] = true ∧ s.vsafe0 p = false) ∧
  (∃ (s : State) (p : Nat), s.live p = true ∧ s.pwrIs p .latched = true
    ∧ ((s.fld F.PWR_PSTAT_CAUSE p ≠ 10 ∨ s.portInFault p 2 = false))) ∧
  (∃ (s : State) (p : Nat), s.live p = true ∧ s.pwrIs p .latched = true ∧ s.fld F.PWR_PSTAT_CAUSE p = 10
    ∧ s.portInFault p 2 = true) ∧
  (∃ (s : State) (p : Nat) (b : Bool), s.live p = true ∧ ((b = true ∨ s.brdoffHeld p = false))) ∧
  (∃ (s : State) (n : Nat), s.currantFitted n = true ∧ s.domOn (Dom.ports n) = true
    ∧ s.fld F.PWR_CSTAT_FSWNOW n < clamp 25 80 (s.fld F.PWR_BCFG_FSW n)) ∧
  (∃ (s : State) (n : Nat), s.currantFitted n = true ∧ s.domOn (Dom.ports n) = true
    ∧ clamp 25 80 (s.fld F.PWR_BCFG_FSW n) < s.fld F.PWR_CSTAT_FSWNOW n) :=
  ⟨⟨{ (benchPd State.reset 32).setFld F.PWR_PSTAT_STATE 32 0 |>.put F.TCPD_CCSTAT_VSAFE0 32 true |>.put F.DIE_STAT_SHUTDOWN (currant 32) false |>.put F.PWR_PCTL_VOFF 32 false |>.put F.DSW_PSTAT_QUAR 32 false with pwr := [] }, 32, by decide⟩,
    ⟨(benchPd State.reset 32).setFld F.PWR_PSTAT_STATE 32 2, 32, by decide⟩,
    ⟨(benchPd State.reset 32).setFld F.PWR_PSTAT_STATE 32 3, 32, by decide⟩,
    ⟨(benchPd State.reset 32).setFld F.PWR_PSTAT_STATE 32 4 |>.put F.PWR_PSTAT_LIMIT 32 false, 32, by decide⟩,
    ⟨(benchPd State.reset 32).setFld F.PWR_PSTAT_STATE 32 (3 + State.reset.ct % 4), 32, 9000, by decide⟩,
    ⟨(benchPd State.reset 32).setFld F.PWR_PSTAT_RETRYLEFT 32 (State.reset.ct % 2) |>.put F.PWR_PSTAT_LIMIT 32 true |>.setFld F.ADC_PT_TEST 32 (State.reset.free % 2000), 32, by decide⟩,
    ⟨(benchPd State.reset 32).setFld F.PWR_PSTAT_RETRYLEFT 32 (State.reset.ct % 3) |>.setFld F.PWR_PSTAT_STATE 32 (2 + State.reset.free % 5) |>.setFld F.TCPD_CONTRACT_OBJPOS 32 0, 32, 15001, by decide⟩,
    ⟨{ (benchPd State.reset 32).put F.PWR_PSTAT_OVLDX 32 false with pwr := [(32, { (default : PwrPort) with bins := [3, 5] })] }, 32, by decide⟩,
    ⟨{ (benchPd State.reset 32).put F.PWR_PSTAT_OVLDX 32 true with pwr := [(32, { (default : PwrPort) with bins := [300, 500, 2000] })] }, 32, by decide⟩,
    ⟨benchPd State.reset 32, 32, 5401, by decide⟩,
    ⟨benchPd State.reset 32, 32, 501, by decide⟩,
    ⟨benchPd State.reset 32, 32, by decide⟩,
    ⟨{ (benchPd State.reset 32) with pd := [(32, { (default : PdPort) with accepted := some ⟨2, 9000, 300, 2700, 1, false⟩ })] }, 32, by decide⟩,
    ⟨{ (benchPd State.reset 32).setFld F.PWR_PSTAT_STATE 32 6 |>.put F.PWR_PSTAT_LIMIT 32 false |>.put F.PWR_PSTAT_DROPOUT 32 false |>.setFld F.ADC_PV_VBUS 32 501 |>.setFld F.ADC_PV_VOUT 32 501 with pwr := [(32, { (default : PwrPort) with vset := 500 })] }, 32, by decide⟩,
    ⟨(benchPd State.reset 32).setFld F.PWR_PSTAT_STATE 32 6, 32, by decide⟩,
    ⟨(benchPd State.reset 32).setFld F.TCPD_PDSTAT_PTYPE 32 2 |>.put F.PWR_PSTAT_CL 32 true |>.setFld F.ADC_PV_VBUS 32 (State.reset.free % 300), 32, by decide⟩,
    ⟨(benchPd State.reset 32).setFld F.PWR_PSTAT_STATE 32 7 |>.put F.TCPD_CCSTAT_VSAFE0 32 true |>.put F.DIE_STAT_SHUTDOWN (currant 32) false |>.put F.PWR_PCTL_VOFF 32 false |>.put F.DSW_PSTAT_QUAR 32 false |>.setFld F.ADC_PT_TEST 32 250, 32, by decide⟩,
    ⟨benchPd State.reset 32, 32, by decide⟩,
    ⟨{ (benchPd State.reset 32).setFld F.PWR_PSTAT_STATE 32 ([0, 1, 7, 8].getD (State.reset.ct % 4) 0) with pd := [(32, { (default : PdPort) with hardStep := 2 })] }, 32, by decide⟩,
    ⟨(benchPd State.reset 32).setFld F.PWR_PSTAT_STATE 32 ([1, 7, 8].getD (State.reset.ct % 3) 1) |>.put F.TCPD_CCSTAT_VSAFE0 32 false, 32, by decide⟩,
    ⟨(benchPd State.reset 8).setFld F.PWR_PSTAT_STATE 8 8 |>.setFld F.PWR_PSTAT_CAUSE 8 9, 8, by decide⟩,
    ⟨{ (benchPd State.reset 8).setFld F.PWR_PSTAT_STATE 8 8 |>.setFld F.PWR_PSTAT_CAUSE 8 10 with fc := { State.reset.fc with sources := [((1 + currant 8) * 4096 + place8 8, { (default : FcSource) with st := .fault, react := 2 })] } }, 8, by decide⟩,
    ⟨(benchPd State.reset 32).setFld F.GOV_BRDOFF_PORTS 0 (State.reset.free % 2), 32, true, by decide⟩,
    ⟨((bench State.reset).setFld F.PWR_CSTAT_FSWNOW 3 (24 + State.reset.free % 60)).setFld F.PWR_BCFG_FSW 3 (80), 3, by decide⟩,
    ⟨((bench State.reset).setFld F.PWR_CSTAT_FSWNOW 3 (26 + State.reset.free % 60)).setFld F.PWR_BCFG_FSW 3 (25), 3, by decide⟩⟩

theorem hyps_MeasurementSinkAndFeedCommands :
  (∃ (s : State) (p : Nat), s.live p = true ∧ s.pwrIn p sourcing = true) ∧
  (∃ (s : State) (p : Nat) (short : Bool), s.live p = true ∧ s.on F.PWR_THCFG_TSRC p = true ∧ s.pwrIn p sourcing = true) ∧
  (∃ (s : State) (p : Nat) (short : Bool), p = 0 ∧ s.on F.ENT_HSTH_TSRC 0 = true) ∧
  (∃ (s : State) (p : Nat) (x : PortSample), s.live p = true ∧ (s.measured p x).vbus < 4096 ∧ (s.measured p x).vout < 8192
    ∧ s.on F.PWR_THCFG_TSRC p = false) ∧
  (∃ (s : State) (p : Nat) (x : PortSample), p = 0 ∧ s.entOn = true ∧ s.hsIn [.off, .seatWait] = false
    ∧ (s.hsMeasured x).vout < 8192) ∧
  (∃ (s : State) (p : Nat) (x : PortSample), p = 0 ∧ s.entOn = true ∧ s.hsIs .off = true ∧ s.on F.ENT_HCTL_HSOFF 0 = false
    ∧ s.ent.seated = false) ∧
  (∃ (s : State) (p : Nat), s.live p = true ∧ s.domChanging (Dom.ports (currant p)) = false ∧ s.pwrIs p .off = true
    ∧ s.ccIs p .attachedSnk = true ∧ s.contracted p = true ∧ s.on F.TCPD_CCSTAT_SINKCLAIM p = true
    ∧ (s.pd.at p).volt ≤ 20000 ∧ s.skgTaken p = false) ∧
  (∃ (s : State) (p : Nat) (cause : Nat), s.live p = true ∧ s.pwrIs p .sink = true ∧ 1 ≤ cause ∧ (cause ≤ 4 ∨ cause = 9)) ∧
  (∃ (s : State) (n : Nat) (uv : Bool) (start : Bool), s.currantFitted n = true ∧ s.domOn (Dom.ports n) = true ∧ uv = true
    ∧ s.on F.PWR_CSTAT_VBRD_UV n ≠ start) ∧
  (∃ (s : State) (n : Nat) (uv : Bool) (start : Bool), s.currantFitted n = true ∧ s.domOn (Dom.ports n) = true
    ∧ uv = false ∧ s.on F.PWR_CSTAT_VBRD_OV n ≠ start) ∧
  (∃ (s : State) (k : Nat), s.entOn = true ∧ k < 2) ∧
  (∃ (s : State) (k : Nat) (volt : Nat) (vinOr : Nat) (conducting : Bool), s.entOn = true ∧ k < 2 ∧ vinOr < 8192
    ∧ volt < 8192) ∧
  (∃ (s : State) (vinOr : Nat), s.entOn = true ∧ s.hsIs .off = true ∧ s.on F.ENT_HCTL_HSOFF 0 = false ∧ vinOr < 8192) ∧
  (∃ (s : State) (aLow : Bool) (bLow : Bool), s.entOn = true ∧ (aLow = false ∨ bLow = false) ∧ s.ent.bothLow = true) ∧
  (∃ (s : State) (aLow : Bool) (bLow : Bool), s.entOn = true ∧ (aLow = false ∨ bLow = false) ∧ s.ent.bothLow = false) :=
  ⟨⟨(benchPd State.reset 32).setFld F.ADC_PT_TEST 32 (State.reset.free % 2000), 32, by decide⟩,
    ⟨(benchPd State.reset 32).put F.PWR_THCFG_TSRC 32 true, 32, true, by decide⟩,
    ⟨(bench State.reset).put F.ENT_HSTH_TSRC 0 true, 0, false, by decide⟩,
    ⟨{ (benchPd State.reset 32).put F.PWR_PSTAT_LIMIT 32 (State.reset.ct % 2 = 0) |>.put F.PWR_THCFG_TSRC 32 false |>.setFld F.PWR_PSTAT_STATE 32 (State.reset.free % 10) |>.put F.TCPD_SINKCFG_MODE 32 true |>.put F.CAL_STAT_LOADED 0 false with pwr := [(32, { (default : PwrPort) with timer := 5, calm := 6 + State.reset.ct % 3 })] }, 32, ⟨3000,500,4095,4800,250,none,0,0,0,false,false⟩, by decide +kernel⟩,
    ⟨(bench State.reset).put F.CAL_STAT_LOADED 0 false |>.setFld F.ENT_HSTAT_STATE 0 (2 + State.reset.free % 7), 0, ⟨3000,8191,4095,4800,250,none,0,0,0,true,true⟩, by decide +kernel⟩,
    ⟨{ (bench State.reset).put F.ENT_HCTL_HSOFF 0 false |>.setFld F.ENT_HSTAT_STATE 0 0 |>.put F.ENT_HSTAT_PG_BRD 0 false with ent := { State.reset.ent with seated := false } }, 0, ⟨3000,8191,4095,4800,250,none,0,0,0,true,true⟩, by decide +kernel⟩,
    ⟨{ (benchPd State.reset 32).setFld F.PWR_PSTAT_STATE 32 0 |>.setFld F.TCPD_CCSTAT_STATE 32 7 |>.setFld F.TCPD_CONTRACT_OBJPOS 32 1 |>.put F.TCPD_CCSTAT_SINKCLAIM 32 true with pd := [(32, { (default : PdPort) with volt := 20000 })] }, 32, by decide⟩,
    ⟨(benchPd State.reset 32).setFld F.PWR_PSTAT_STATE 32 9 |>.setFld F.TCPD_CCSTAT_STATE 32 7 |>.put F.TCPD_CCSTAT_SINKCLAIM 32 true, 32, 9, by decide⟩,
    ⟨(bench State.reset).put F.PWR_CSTAT_VBRD_UV 3 (!true), 3, true, true, by decide⟩,
    ⟨(bench State.reset).put F.PWR_CSTAT_VBRD_OV 3 (!true), 3, false, true, by decide⟩,
    ⟨(bench State.reset).put F.ENT_FSTAT_A_COND 0 true, 1, by decide⟩,
    ⟨bench State.reset, 1, 3600, 3800, true, by decide⟩,
    ⟨(bench State.reset).setFld F.ENT_HSTAT_STATE 0 0 |>.put F.ENT_HCTL_HSOFF 0 false |>.put F.ENT_HSTAT_PG_BRD 0 false, 3800, by decide⟩,
    ⟨{ (bench State.reset).put F.ENT_HSTAT_SEAT_A 0 true |>.put F.ENT_HSTAT_SEAT_B 0 true with ent := { State.reset.ent with bothLow := true } }, false, true, by decide⟩,
    ⟨{ bench State.reset with ent := { State.reset.ent with bothLow := false } }, false, true, by decide⟩⟩

theorem hyps_HotSwapAndGovernorCommands :
  (∃ (s : State), s.hsIs .ramp = true) ∧
  (∃ (s : State), s.hsIs .qual = true ∧ s.on F.ENT_HSTAT_LIMIT 0 = false) ∧
  (∃ (s : State) (i : Nat), s.hsIn hsDriving = true) ∧
  (∃ (s : State) (cause : Nat) (i : Nat), s.hsIn hsDriving = true ∧ ((cause = 1 ∧ s.on F.ENT_HSTAT_LIMIT 0 = true
    ∧ s.hsIs .clamp = false) ∨ (cause = 2 ∧ 1000 * min (2 * s.hsIlim) 300 < i) ∨ cause = 3 ∨ (cause = 4
    ∧ s.on F.ENT_HSTH_TSRC 0 = true) ∨ (cause = 5 ∧ s.hsIs .clamp = true))) ∧
  (∃ (s : State), s.hsIs .retryWait = true ∧ s.hsTemp < s.hsTtrip - 200) ∧
  (∃ (s : State) (vinOr : Nat), s.entOn = true ∧ vinOr < 3600) ∧
  (∃ (s : State) (vinOr : Nat), s.entOn = true ∧ 3800 ≤ vinOr ∧ vinOr < 8192) ∧
  (∃ (s : State) (vinOr : Nat), s.entOn = true ∧ s.vsurge < vinOr ∧ vinOr < 8192) ∧
  (∃ (s : State) (vinOr : Nat) (micros : Nat), s.entOn = true ∧ s.ent.surging = true ∧ vinOr < s.vclamp) ∧
  (∃ (s : State), s.hsIs .latched = true ∧ s.hsTemp < s.hsTtrip - 200) ∧
  (∃ (s : State), s.hsIs .latched = true ∧ s.hsTtrip - 200 ≤ s.hsTemp) ∧
  (∃ (s : State), s.hsIs .on = true ∧ s.fld F.ENT_HSRETRY_RETRY 0 < 8) ∧
  (∃ (s : State) (foffA : Bool) (foffB : Bool) (hsoff : Bool), s.entOn = true) ∧
  (∃ (s : State), s.on F.ENT_HSTAT_PG_BRD 0 = false ∧ s.ent.pgRose = true) ∧
  (∃ (s : State) (p : Nat) (r : List Nat), s.on F.ENT_HSTAT_PG_BRD 0 = true ∧ s.on F.GOV_STAT_BRDOFF 0 = true
    ∧ maskPorts (s.fld F.GOV_BRDOFF_PORTS 0) = p :: r) ∧
  (∃ (s : State) (vinOr : Nat), s.entOn = true ∧ s.on F.GOV_STAT_SAG 0 = false
    ∧ vinOr < 10 * clamp 360 520 (s.fld F.GOV_SAG_VSAG 0)) ∧
  (∃ (s : State) (p : Nat), s.on F.GOV_STAT_SAG 0 = true ∧ s.firmware = true ∧ p ∈ allPorts
    ∧ (s.gov.at p).sagClamp.isSome = true) ∧
  (∃ (s : State) (vmin : Nat) (ms : Nat), s.on F.GOV_STAT_SAG 0 = true ∧ vmin < 8192 ∧ ms < 65536) ∧
  (∃ (s : State) (rest : Nat), s.entOn = true ∧ s.boardPower rest < 16384 ∧ s.fld F.GOV_STAT_BURSTMS 0 < 65536) ∧
  (∃ (s : State) (p : Nat), s.on F.GOV_STAT_SHEDDING 0 = true
    ∧ pick (fun a b => decide (s.classOf b < s.classOf a) || (decide (s.classOf a = s.classOf b) && decide (b < a))) (allPorts.filter (fun p => s.live p && !s.bit F.GOV_SHED_PORTS 0 (p - 1) && decide (100 * s.shedw < max (s.gov.at p).grant (s.gov.at p).rpGrant))) = some p) ∧
  (∃ (s : State) (p : Nat), s.on F.GOV_STAT_SHEDDING 0 = false ∧ 5000 ≤ s.govHw.calm
    ∧ pick (fun a b => decide (s.classOf a < s.classOf b) || (decide (s.classOf a = s.classOf b) && decide (a < b))) (maskPorts (s.fld F.GOV_SHED_PORTS 0)) = some p) ∧
  (∃ (s : State) (i : Nat), (s.tat.at i).st = 2) :=
  ⟨⟨(bench State.reset).setFld F.ENT_HSTAT_STATE 0 2, by decide⟩,
    ⟨(bench State.reset).setFld F.ENT_HSTAT_STATE 0 3 |>.put F.ENT_HSTAT_LIMIT 0 false |>.put F.ENT_HSTAT_PG_BRD 0 false, by decide⟩,
    ⟨(bench State.reset).setFld F.ENT_HSTAT_STATE 0 (2 + State.reset.ct % 4), 0, by decide⟩,
    ⟨(bench State.reset).setFld F.ENT_HSTAT_STATE 0 (2 + State.reset.free % 4) |>.put F.ENT_HSTAT_LIMIT 0 true |>.put F.ENT_HSTH_TSRC 0 true |>.setFld F.ENT_HSTAT_RETRYLEFT 0 (State.reset.ct % 3), 2, 300001, by decide⟩,
    ⟨(bench State.reset).setFld F.ENT_HSTAT_STATE 0 6 |>.setFld F.ENT_HSM_TEST 0 250, by decide⟩,
    ⟨(bench State.reset).setFld F.ENT_HSTAT_STATE 0 (State.reset.ct % 9), 3599, by decide⟩,
    ⟨(bench State.reset).setFld F.ENT_HSTAT_STATE 0 8, 3800, by decide⟩,
    ⟨(bench State.reset).setFld F.ENT_HSTAT_STATE 0 (3 + State.reset.ct % 2), 6301, by decide⟩,
    ⟨{ (bench State.reset).setFld F.ENT_HSTAT_STATE 0 (4 + State.reset.ct % 2) |>.put F.ENT_FSTAT_SURGE 0 true with ent := { State.reset.ent with surging := true } }, 5499, 100, by decide⟩,
    ⟨(bench State.reset).setFld F.ENT_HSTAT_STATE 0 7 |>.setFld F.ENT_HSM_TEST 0 250, by decide⟩,
    ⟨(bench State.reset).setFld F.ENT_HSTAT_STATE 0 7 |>.setFld F.ENT_HSM_TEST 0 2000, by decide⟩,
    ⟨(bench State.reset).setFld F.ENT_HSTAT_STATE 0 4, by decide⟩,
    ⟨(bench State.reset).setFld F.ENT_HSTAT_STATE 0 (State.reset.ct % 9) |>.put F.ENT_FSTAT_A_COND 0 true, true, false, true, by decide⟩,
    ⟨{ (bench State.reset).put F.ENT_HSTAT_PG_BRD 0 false with ent := { State.reset.ent with pgRose := true } }, by decide⟩,
    ⟨(bench State.reset).put F.ENT_HSTAT_PG_BRD 0 true |>.put F.GOV_STAT_BRDOFF 0 true |>.setFld F.GOV_BRDOFF_PORTS 0 (2 ^ 31 + 4 * (State.reset.ct % 2)), 32, [], by decide⟩,
    ⟨(bench State.reset).put F.GOV_STAT_SAG 0 false |>.setFld F.PWR_PSTAT_STATE 5 5, 3599, by decide⟩,
    ⟨{ (bench State.reset).put F.GOV_STAT_SAG 0 true with gov := [(3, { (default : GovPort) with sagClamp := some 20 })] }, 3, by decide⟩,
    ⟨{ (bench State.reset).put F.GOV_STAT_SAG 0 true with gov := [(3, { (default : GovPort) with sagClamp := some 20 })] }, 8191, 65535, by decide⟩,
    ⟨{ (bench State.reset).setFld F.GOV_STAT_BURSTMS 0 (1997 + State.reset.ct % 4) |>.put F.GOV_STAT_SHEDDING 0 (State.reset.free % 2 = 0) |>.setFld F.GOV_BUDGET_BUDGET 0 100 with govHw := { State.reset.govHw with under := 6 + State.reset.ct % 3, overs := 8 + State.reset.ct % 3, acc := (State.reset.free % 200) * 200000, ticks := 2 } }, 0, by decide⟩,
    ⟨{ (bench State.reset).put F.GOV_STAT_SHEDDING 0 true |>.setFld F.GOV_SHED_PORTS 0 0 with gov := [(5, { (default : GovPort) with grant := 6000 }), (9, { (default : GovPort) with grant := 6000 })] }, 9, by decide⟩,
    ⟨{ (bench State.reset).put F.GOV_STAT_SHEDDING 0 false |>.setFld F.GOV_SHED_PORTS 0 (2 ^ 31) with govHw := { State.reset.govHw with calm := 5000 + State.reset.ct % 2 } }, 32, by decide⟩,
    ⟨{ State.reset with tat := [(255, { (default : TatEntry) with st := 2, held := true, resv := 9 })], gov := [(3, { (default : GovPort) with credits := [(255, 5), (255 + 1, 6)] })] }, 255, by decide⟩⟩

theorem hyps_ChordLinkCommands :
  (∃ (s : State) (l : Nat), s.chordOn = true ∧ l < 6 ∧ s.on F.CHORD_LCTL_EN l = true ∧ s.linkState l = 0
    ∧ (s.apex = false ∨ 2 ≤ l)) ∧
  (∃ (s : State) (l : Nat), s.chordOn = true ∧ s.linkState l = 1) ∧
  (∃ (s : State) (l : Nat) (peerApex : Bool) (peerUp : Bool) (peerHold : Bool) (depth : Nat) (sync : Nat) (addr : Nat) (lo : Nat) (hi : Nat), s.chordOn = true ∧ s.linkState l = 2 ∧ l < 2 ∧ depth = 8) ∧
  (∃ (s : State) (l : Nat) (peerApex : Bool) (peerUp : Bool) (peerHold : Bool) (depth : Nat) (sync : Nat) (addr : Nat) (lo : Nat) (hi : Nat), s.chordOn = true ∧ s.linkState l = 2 ∧ l < 2 ∧ depth < 8 ∧ ((peerApex && s.apex) || peerUp) = true) ∧
  (∃ (s : State) (l : Nat) (peerApex : Bool) (peerUp : Bool) (peerHold : Bool) (depth : Nat) (sync : Nat) (addr : Nat) (lo : Nat) (hi : Nat), s.chordOn = true ∧ s.linkState l = 2 ∧ l = 0 ∧ depth < 8 ∧ ((peerApex && s.apex) || peerUp) = false) ∧
  (∃ (s : State) (l : Nat) (peerApex : Bool) (peerUp : Bool) (peerHold : Bool) (depth : Nat) (sync : Nat) (addr : Nat) (lo : Nat) (hi : Nat), s.chordOn = true ∧ s.linkState l = 2 ∧ 2 ≤ l ∧ l < 6 ∧ s.fld F.CHORD_STAT_DEPTH 0 ≠ 8 ∧ peerUp = true ∧ (peerApex && s.apex) = false) ∧
  (∃ (s : State) (l : Nat), s.chordOn = true ∧ s.linkState l = 6) ∧
  (∃ (s : State) (l : Nat), s.chordOn = true ∧ s.linkState l = 3 ∧ 2 ≤ l) ∧
  (∃ (s : State) (l : Nat), s.chordOn = true ∧ s.linkState l = 3 ∧ l < 2 ∧ s.activeUp = l ∧ s.chord.active = false
    ∧ s.fld F.CHORD_LSTAT_PEERDEPTH l < 8 ∧ ((s.on F.CHORD_STAT_HOLDOVER 0 = false ∨ s.failoverOk l = true))) ∧
  (∃ (s : State) (l : Nat), s.chordOn = true ∧ s.linkState l = 3 ∧ l < 2 ∧ s.activeUp = l ∧ s.chord.active = false
    ∧ 8 ≤ s.fld F.CHORD_LSTAT_PEERDEPTH l) ∧
  (∃ (s : State) (l : Nat), s.chordOn = true ∧ s.linkState l = 3 ∧ l < 2 ∧ s.activeUp = l ∧ s.chord.active = false
    ∧ s.fld F.CHORD_LSTAT_PEERDEPTH l < 8 ∧ s.on F.CHORD_STAT_HOLDOVER 0 = true ∧ s.failoverOk l = false) ∧
  (∃ (s : State) (l : Nat), s.chordOn = true ∧ s.linkState l = 3 ∧ l < 2 ∧ ((s.activeUp ≠ l ∨ s.chord.active = true))) ∧
  (∃ (s : State) (l : Nat) (cause : Nat), s.chordOn = true ∧ l < 6 ∧ s.linkState l ≠ 0
    ∧ (cause = 0 ∨ cause = 2 ∨ (cause = 1 ∧ l < 2))) :=
  ⟨⟨(bench State.reset).setFld F.CHORD_LSTAT_STATE 5 0 |>.put F.CHORD_LCTL_EN 5 true |>.put F.CHORD_CFG_APEX 0 (State.reset.ct % 2 = 0), 5, by decide⟩,
    ⟨(bench State.reset).setFld F.CHORD_LSTAT_STATE 5 1, 5, by decide⟩,
    ⟨((bench State.reset).setFld F.CHORD_LSTAT_STATE 0 2).put F.CHORD_CFG_APEX 0 false, 0, true, false, true, 8, 6, 4, 1, 5, by decide⟩,
    ⟨((bench State.reset).setFld F.CHORD_LSTAT_STATE 0 2).put F.CHORD_CFG_APEX 0 false, 0, true, true, true, 7, 6, 4, 1, 5, by decide⟩,
    ⟨((bench State.reset).setFld F.CHORD_LSTAT_STATE 0 2).put F.CHORD_CFG_APEX 0 false, 0, true, false, true, 7, 6, 4, 1, 5, by decide⟩,
    ⟨((bench State.reset).setFld F.CHORD_LSTAT_STATE 2 2).put F.CHORD_CFG_APEX 0 false, 2, true, true, true, 7, 6, 4, 1, 5, by decide⟩,
    ⟨(bench State.reset).setFld F.CHORD_LSTAT_STATE 5 6, 5, by decide⟩,
    ⟨{ (bench State.reset).setFld F.CHORD_LSTAT_STATE 5 3 |>.setFld F.CHORD_STAT_ACTIVEUP 0 5 with chord := { State.reset.chord with active := true } }, 5, by decide⟩,
    ⟨{ (bench State.reset).setFld F.CHORD_LSTAT_STATE 1 3 |>.setFld F.CHORD_STAT_ACTIVEUP 0 1 |>.setFld F.CHORD_LSTAT_PEERDEPTH 1 (State.reset.free % 8) |>.put F.CHORD_STAT_HOLDOVER 0 false with chord := { State.reset.chord with active := false } }, 1, by decide⟩,
    ⟨{ (bench State.reset).setFld F.CHORD_LSTAT_STATE 1 3 |>.setFld F.CHORD_STAT_ACTIVEUP 0 1 |>.setFld F.CHORD_LSTAT_PEERDEPTH 1 8 with chord := { State.reset.chord with active := false } }, 1, by decide⟩,
    ⟨{ (bench State.reset).setFld F.CHORD_LSTAT_STATE 1 3 |>.setFld F.CHORD_STAT_ACTIVEUP 0 1 |>.setFld F.CHORD_LSTAT_PEERDEPTH 1 7 |>.put F.CHORD_STAT_HOLDOVER 0 true with chord := { State.reset.chord with active := false } }, 1, by decide⟩,
    ⟨{ (bench State.reset).setFld F.CHORD_LSTAT_STATE 1 3 |>.setFld F.CHORD_STAT_ACTIVEUP 0 1 with chord := { State.reset.chord with active := true } }, 1, by decide⟩,
    ⟨(bench State.reset).setFld F.CHORD_LSTAT_STATE 5 (1 + State.reset.ct % 6) |>.put F.CHORD_ADOPTB_VALID 3 true |>.setFld F.CHORD_ADOPTB_LINK 3 5, 5, 2, by decide⟩⟩

theorem hyps_ChordTimeAndRangeCommands :
  (∃ (s : State) (l : Nat) (sync : Nat) (depth : Nat) (mark : Nat) (localCt : Nat) (peerHold : Bool), s.chordOn = true
    ∧ l < 2 ∧ (s.linkState l = 4 ∨ s.linkState l = 5) ∧ sync ≤ 2 ∧ depth < 8) ∧
  (∃ (s : State) (l : Nat) (sync : Nat) (depth : Nat) (mark : Nat) (localCt : Nat) (peerHold : Bool), s.chordOn = true
    ∧ 2 ≤ l ∧ l < 6 ∧ 2 ≤ s.linkState l ∧ s.ctRuns = true ∧ s.ct % 960 = 0) ∧
  (∃ (s : State) (l : Nat) (sync : Nat) (depth : Nat) (mark : Nat) (localCt : Nat) (peerHold : Bool), s.chordOn = true
    ∧ 2 ≤ l ∧ l < 6 ∧ s.ctRuns = true ∧ s.ct % 960 ≠ 0 ∧ s.chord.timeSet = none) ∧
  (∃ (s : State) (l : Nat) (t1 : Int) (t2 : Int) (t3 : Int) (t4 : Int), s.chordOn = true ∧ l < 2
    ∧ (s.linkState l = 3 ∨ s.linkState l = 4 ∨ s.linkState l = 5)) ∧
  (∃ (s : State), s.upActive = true ∧ s.follows s.activeUp = true ∧ s.chord.stepped = true
    ∧ (toInt 32 (s.fld F.CHORD_LOFFS_VALUE s.activeUp)).natAbs ≤ 16 * max 1 (s.fld F.CHORD_CFG_STEPTHR 0)) ∧
  (∃ (s : State), s.upActive = true ∧ s.follows s.activeUp = true ∧ s.chord.stepped = true
    ∧ 16 * max 1 (s.fld F.CHORD_CFG_STEPTHR 0) < (toInt 32 (s.fld F.CHORD_LOFFS_VALUE s.activeUp)).natAbs) ∧
  (∃ (s : State) (n : Int), s.upActive = true ∧ s.follows s.activeUp = true ∧ s.chord.stepped = false
    ∧ (s.links.at s.activeUp).firstOffset = some n) ∧
  (∃ (s : State), s.upActive = true ∧ s.fld F.CHORD_LSTAT_PEERSYNC s.activeUp = 2 ∧ s.on F.PMU_CLKSTAT_REF_ACTIVE 0 = true
    ∧ s.chord.stepped = true ∧ (toInt 32 (s.fld F.CHORD_LOFFS_VALUE s.activeUp)).natAbs ≤ 128) ∧
  (∃ (s : State), s.apex = true ∧ s.on F.PMU_CLKSTAT_PLL_LOCK 0 = true) ∧
  (∃ (s : State), s.chordOn = true ∧ s.apex = false ∧ s.chord.everActive = true ∧ s.on F.CHORD_STAT_HOLDOVER 0 = false
    ∧ s.chord.active = false) ∧
  (∃ (s : State), s.on F.CHORD_STAT_HOLDOVER 0 = true ∧ s.sync = 2) ∧
  (∃ (s : State), s.chordOn = true ∧ s.apex = false ∧ s.chord.everActive = true ∧ s.on F.CHORD_CFG_AUTOFAIL 0 = true
    ∧ s.on F.CHORD_STAT_HOLDOVER 0 = true ∧ s.activeUp ≤ 1 ∧ s.linkState (1 - s.activeUp) = 5
    ∧ s.failoverOk (1 - s.activeUp) = true) ∧
  (∃ (s : State), s.chordOn = true ∧ s.apex = false ∧ s.on F.CHORD_CFG_REVERT 0 = true ∧ s.activeUp = 1
    ∧ s.linkState 0 = 5 ∧ s.failoverOk 0 = true) ∧
  (∃ (s : State) (l : Nat) (lo : Nat) (hi : Nat) (hops : Nat) (j : Nat), s.chordOn = true ∧ 2 ≤ l ∧ l < 6 ∧ lo < 65536
    ∧ hi < 65536
    ∧ (List.range 16).find? (fun j => s.on F.CHORD_ADOPTB_VALID j && decide (s.fld F.CHORD_ADOPTA_LO j = lo) && decide (s.fld F.CHORD_ADOPTA_HI j = hi)) = none ∧ (List.range 16).find? (fun j => !s.on F.CHORD_ADOPTB_VALID j) = some j) ∧
  (∃ (s : State) (l : Nat) (lo : Nat) (hi : Nat) (j : Nat), s.chordOn = true ∧ 2 ≤ l ∧ l < 6 ∧ j < 16
    ∧ s.adoptedOn l j = true ∧ s.fld F.CHORD_ADOPTA_LO j = lo ∧ s.fld F.CHORD_ADOPTA_HI j = hi) ∧
  (∃ (s : State) (lo : Nat) (hi : Nat), s.apex = true) ∧
  (∃ (s : State) (lo : Nat) (hi : Nat), s.apex = false ∧ lo < 65536 ∧ hi < 65536 ∧ lo ≤ hi) ∧
  (∃ (s : State) (lo : Nat) (hi : Nat), s.apex = false ∧ lo < 65536 ∧ hi < 65536 ∧ hi < lo) ∧
  (∃ (s : State), s.ppsDriven = true ∧ s.ct < 2 ^ 63) :=
  ⟨⟨{ (bench State.reset).setFld F.CHORD_LSTAT_STATE 1 4 |>.put F.CHORD_CFG_APEX 0 false |>.setFld F.CHORD_STAT_ACTIVEUP 0 1 with chord := { State.reset.chord with active := true, locked := true } }, 1, 2, 7, 960, 950, false, by decide⟩,
    ⟨{ (bench State.reset).setFld F.CHORD_LSTAT_STATE 5 4 with ct := State.reset.ct / 960 * 960 }, 5, 0, 0, 0, 0, false, by decide⟩,
    ⟨{ (bench State.reset).setFld F.CHORD_LSTAT_STATE 5 4 with chord := { State.reset.chord with timeSet := none }, ct := State.reset.ct / 960 * 960 + 1 + State.reset.free % 959 }, 5, 0, 0, 0, 0, false, by decide⟩,
    ⟨(bench State.reset).setFld F.CHORD_LSTAT_STATE 1 (3 + State.reset.ct % 3), 1, 0, 5, 7, 12, by decide⟩,
    ⟨{ (bench State.reset).setFld F.CHORD_LSTAT_STATE 0 4 |>.put F.CHORD_CFG_APEX 0 false |>.setFld F.CHORD_STAT_ACTIVEUP 0 0 |>.setFld F.CHORD_LSTAT_PEERSYNC 0 2 |>.setFld F.CHORD_CFG_STEPTHR 0 96 |>.setFld F.CHORD_LOFFS_VALUE 0 (1536 - State.reset.ct % 3072) with chord := { State.reset.chord with active := true, stepped := true }, links := [(0, { (default : ChordLink) with firstOffset := some (-77) })] }, by decide⟩,
    ⟨{ (bench State.reset).setFld F.CHORD_LSTAT_STATE 0 4 |>.put F.CHORD_CFG_APEX 0 false |>.setFld F.CHORD_STAT_ACTIVEUP 0 0 |>.setFld F.CHORD_LSTAT_PEERSYNC 0 2 |>.setFld F.CHORD_CFG_STEPTHR 0 96 |>.setFld F.CHORD_LOFFS_VALUE 0 (1537 + State.reset.ct % 3000) with chord := { State.reset.chord with active := true, stepped := true }, links := [(0, { (default : ChordLink) with firstOffset := some (-77) })] }, by decide⟩,
    ⟨{ (bench State.reset).setFld F.CHORD_LSTAT_STATE 0 4 |>.put F.CHORD_CFG_APEX 0 false |>.setFld F.CHORD_STAT_ACTIVEUP 0 0 |>.setFld F.CHORD_LSTAT_PEERSYNC 0 2 |>.setFld F.CHORD_CFG_STEPTHR 0 96 |>.setFld F.CHORD_LOFFS_VALUE 0 (0) with chord := { State.reset.chord with active := true, stepped := false }, links := [(0, { (default : ChordLink) with firstOffset := some (-77) })] }, (-77), by decide⟩,
    ⟨{ (bench State.reset).setFld F.CHORD_LSTAT_STATE 0 4 |>.put F.CHORD_CFG_APEX 0 false |>.setFld F.CHORD_STAT_ACTIVEUP 0 0 |>.setFld F.CHORD_LSTAT_PEERSYNC 0 2 |>.setFld F.CHORD_LOFFS_VALUE 0 128 |>.put F.PMU_CLKSTAT_REF_ACTIVE 0 true with chord := { State.reset.chord with active := true, stepped := true } }, by decide⟩,
    ⟨(bench State.reset).put F.CHORD_CFG_APEX 0 true, by decide⟩,
    ⟨{ (bench State.reset).put F.CHORD_CFG_APEX 0 false |>.put F.CHORD_STAT_HOLDOVER 0 false with chord := { State.reset.chord with active := false, everActive := true } }, by decide⟩,
    ⟨(bench State.reset).put F.CHORD_STAT_HOLDOVER 0 true |>.setFld F.CHORD_STAT_SYNC 0 2, by decide⟩,
    ⟨{ (bench State.reset).put F.CHORD_CFG_APEX 0 false |>.put F.CHORD_STAT_HOLDOVER 0 true |>.put F.CHORD_CFG_AUTOFAIL 0 true |>.setFld F.CHORD_STAT_ACTIVEUP 0 0 |>.setFld F.CHORD_LSTAT_STATE 1 5 |>.setFld F.CHORD_LSTAT_PEERSYNC 1 2 |>.setFld F.CHORD_STAT_DEPTH 0 3 |>.setFld F.CHORD_LSTAT_PEERDEPTH 1 2 with chord := { State.reset.chord with everActive := true }, links := [] }, by decide⟩,
    ⟨{ (bench State.reset).put F.CHORD_CFG_APEX 0 false |>.put F.CHORD_CFG_REVERT 0 true |>.setFld F.CHORD_STAT_ACTIVEUP 0 1 |>.setFld F.CHORD_LSTAT_STATE 0 5 |>.setFld F.CHORD_LSTAT_STATE 1 4 |>.setFld F.CHORD_LSTAT_PEERSYNC 0 2 |>.setFld F.CHORD_STAT_DEPTH 0 3 |>.setFld F.CHORD_LSTAT_PEERDEPTH 0 2 with links := [] }, by decide⟩,
    ⟨(bench State.reset).each (List.range 16) (fun x q => x.put F.CHORD_ADOPTB_VALID q (q < 15)), 5, 65535, 65535, 1, 15, by decide⟩,
    ⟨(bench State.reset).put F.CHORD_ADOPTB_VALID 15 true |>.setFld F.CHORD_ADOPTB_LINK 15 5 |>.setFld F.CHORD_ADOPTA_LO 15 (65535 % 65536) |>.setFld F.CHORD_ADOPTA_HI 15 (65535 % 65536), 5, 65535, 65535, 15, by decide⟩,
    ⟨(bench State.reset).put F.CHORD_CFG_APEX 0 true, 1, 5, by decide⟩,
    ⟨(bench State.reset).put F.CHORD_CFG_APEX 0 false |>.put F.CHORD_CFG_RANGEMODE 0 (State.reset.ct % 4 = 0), 65535, 65535, by decide⟩,
    ⟨(bench State.reset).put F.CHORD_CFG_APEX 0 false |>.put F.CHORD_CFG_RANGEMODE 0 (State.reset.ct % 4 = 0), 65535, 0, by decide⟩,
    ⟨{ (bench State.reset).put F.CHORD_PPS_EN 0 true |>.setFld F.PMU_RAILSTAT_VIO_OK 0 31 with ct := State.reset.ct % 2 ^ 63 }, by decide⟩⟩

theorem hyps_ChordFrameAndTimedActionCommands :
  (∃ (s : State) (l : Nat) (id : Nat) (mode : Nat) (dest : Nat) (hops : Nat) (bytes : List Nat), s.chordOn = true ∧ l < 6
    ∧ s.linkState l = 4 ∧ mode = 0 ∧ s.on F.CHORD_STAT_ADDRESSED 0 = true ∧ s.route dest = none ∧ s.chord.inbox.length < 16) ∧
  (∃ (s : State) (l : Nat) (id : Nat) (mode : Nat) (dest : Nat) (hops : Nat) (bytes : List Nat), s.chordOn = true ∧ l < 6
    ∧ s.linkState l = 4 ∧ mode = 0 ∧ s.on F.CHORD_STAT_ADDRESSED 0 = true ∧ s.route dest = none ∧ 16 ≤ s.chord.inbox.length) ∧
  (∃ (s : State) (l : Nat) (id : Nat) (mode : Nat) (dest : Nat) (hops : Nat) (bytes : List Nat), s.chordOn = true ∧ l < 6
    ∧ s.linkState l = 4 ∧ mode = 0 ∧ s.on F.CHORD_STAT_ADDRESSED 0 = true ∧ s.route dest = some 7) ∧
  (∃ (s : State) (l : Nat) (id : Nat) (mode : Nat) (dest : Nat) (hops : Nat) (bytes : List Nat) (k : Nat), s.chordOn = true ∧ l < 6 ∧ s.linkState l = 4 ∧ mode = 0 ∧ s.on F.CHORD_STAT_ADDRESSED 0 = true ∧ s.route dest = some k ∧ k ≠ 7) ∧
  (∃ (s : State) (id : Nat) (c : ChordCmd), s.chord.sent.find? (fun x => decide (x.id = id)) = some c ∧ c.accepted = false) ∧
  (∃ (s : State) (id : Nat) (c : ChordCmd), s.chord.sent.find? (fun x => decide (x.id = id)) = some c) ∧
  (∃ (s : State) (l : Nat) (id : Nat) (bytes : List Nat), s.chordOn = true ∧ l < 6 ∧ s.linkState l = 4
    ∧ (Frame.parse bytes).isMerged = false ∧ s.apex = false) ∧
  (∃ (s : State) (l : Nat) (id : Nat) (bytes : List Nat), s.chordOn = true ∧ l < 6 ∧ s.linkState l = 4
    ∧ (Frame.parse bytes).isMerged = false ∧ s.apex = true ∧ s.chord.sent.find? (fun x => decide (x.id = id)) = none) ∧
  (∃ (s : State) (l : Nat) (id : Nat) (bytes : List Nat) (c : ChordCmd), s.chordOn = true ∧ l < 6 ∧ s.linkState l = 4
    ∧ (Frame.parse bytes).isMerged = false ∧ s.apex = true
    ∧ s.chord.sent.find? (fun (x : ChordCmd) => decide (x.id = id)) = some c ∧ c.frame.mode ≠ 2) ∧
  (∃ (s : State) (id : Nat) (m : ChordMerge), s.chord.merges.find? (fun x => decide (x.id = id)) = some m
    ∧ m.ownDone = true ∧ m.link ≠ 6) ∧
  (∃ (s : State) (i : Nat), s.tatCheck (tatWords ((List.range 7).map (s.fld F.TAT_NEW_WORD))) = 0 ∧ s.tatFree = some i) ∧
  (∃ (s : State), s.tatCheck (tatWords ((List.range 7).map (s.fld F.TAT_NEW_WORD))) ≠ 0) ∧
  (∃ (s : State), (s.tat.at (s.fld F.TAT_CMD_INDEX 0)).st = 1
    ∧ s.ct + s.lead < tatCt (s.tat.at (s.fld F.TAT_CMD_INDEX 0)).words) ∧
  (∃ (s : State), (((s.tat.at (s.fld F.TAT_CMD_INDEX 0)).st ≠ 1 ∨ tatCt (s.tat.at (s.fld F.TAT_CMD_INDEX 0)).words ≤ s.ct + s.lead))) ∧
  (∃ (s : State) (e : Nat × TatEntry), tatFirst (s.armed.filter (fun e => !e.2.loaded && !s.slotless e && decide (tatCt e.2.words < s.ct + 19200))) = some e ∧ (s.armed.filter (fun e => e.2.loaded)).length < 16) ∧
  (∃ (s : State) (e : Nat × TatEntry), tatFirst (s.armed.filter (fun e => !s.passed e)) = some e ∧ s.tat.at e.1 = e.2
    ∧ s.ct ≤ tatCt e.2.words ∧ tatCt e.2.words < 2 ^ 64) ∧
  (∃ (s : State) (i : Nat) (e : TatEntry), s.tat = [(i, e)] ∧ e.st = 1 ∧ s.passed (i, e) = true ∧ tatLateOk e.words = true
    ∧ tatSyncReq e.words = 0 ∧ tatCode e.words = 0xD) ∧
  (∃ (s : State) (i : Nat) (p : Nat), (s.tat.at i).st = 2 ∧ 1 ≤ p) ∧
  (∃ (s : State) (i : Nat), (s.tat.at i).st = 2 ∧ (s.tat.at i).window = 0 ∧ (s.tat.at i).held = false
    ∧ (s.tat.at i).awaited = 0 ∧ (s.tat.at i).later = []) :=
  ⟨⟨{ (bench State.reset).setFld F.CHORD_LSTAT_STATE 0 4 |>.put F.CHORD_STAT_ADDRESSED 0 true |>.setFld F.CHORD_STAT_ADDR 0 3 |>.put F.CHORD_CFG_APEX 0 false |>.setFld F.CHORD_LSTAT_STATE 2 4 |>.setFld F.CHORD_DNRANGE_DNLO 0 4 |>.setFld F.CHORD_DNRANGE_DNHI 0 9 with chord := { State.reset.chord with inbox := List.replicate (State.reset.ct % 16) ⟨9, 0, 2⟩ } }, 0, 7, 0, 3, 1, [], by decide⟩,
    ⟨{ (bench State.reset).setFld F.CHORD_LSTAT_STATE 0 4 |>.put F.CHORD_STAT_ADDRESSED 0 true |>.setFld F.CHORD_STAT_ADDR 0 3 |>.put F.CHORD_CFG_APEX 0 false |>.setFld F.CHORD_LSTAT_STATE 2 4 |>.setFld F.CHORD_DNRANGE_DNLO 0 4 |>.setFld F.CHORD_DNRANGE_DNHI 0 9 with chord := { State.reset.chord with inbox := List.replicate (16) ⟨9, 0, 2⟩ } }, 0, 7, 0, 3, 1, [], by decide⟩,
    ⟨{ (bench State.reset).setFld F.CHORD_LSTAT_STATE 0 4 |>.put F.CHORD_STAT_ADDRESSED 0 true |>.setFld F.CHORD_STAT_ADDR 0 3 |>.put F.CHORD_CFG_APEX 0 true |>.setFld F.CHORD_LSTAT_STATE 2 4 |>.setFld F.CHORD_DNRANGE_DNLO 0 4 |>.setFld F.CHORD_DNRANGE_DNHI 0 9 with chord := { State.reset.chord with inbox := List.replicate (0) ⟨9, 0, 2⟩ } }, 0, 7, 0, 12, 1, [], by decide⟩,
    ⟨{ (bench State.reset).setFld F.CHORD_LSTAT_STATE 0 4 |>.put F.CHORD_STAT_ADDRESSED 0 true |>.setFld F.CHORD_STAT_ADDR 0 3 |>.put F.CHORD_CFG_APEX 0 false |>.setFld F.CHORD_LSTAT_STATE 2 4 |>.setFld F.CHORD_DNRANGE_DNLO 0 4 |>.setFld F.CHORD_DNRANGE_DNHI 0 9 with chord := { State.reset.chord with inbox := List.replicate (0) ⟨9, 0, 2⟩ } }, 0, 6, 0, 8, 6, [], 2, by decide⟩,
    ⟨{ bench State.reset with chord := { State.reset.chord with sent := [⟨65535, 1, ⟨0x0101, 5, 0, 0, 0, 0, []⟩, false⟩] } }, 65535, ⟨65535,1,⟨0x0101,5,0,0,0,0,[]⟩,false⟩, by decide⟩,
    ⟨{ bench State.reset with chord := { State.reset.chord with sent := [⟨65535, 1, ⟨0x0101, 5, 0, 0, 0, 0, []⟩, true⟩] } }, 65535, ⟨65535,1,⟨0x0101,5,0,0,0,0,[]⟩,true⟩, by decide⟩,
    ⟨{ (bench State.reset).setFld F.CHORD_LSTAT_STATE 4 4 |>.put F.CHORD_CFG_APEX 0 false with chord := { State.reset.chord with sent := [] } }, 4, 6, [], by decide⟩,
    ⟨{ (bench State.reset).setFld F.CHORD_LSTAT_STATE 4 4 |>.put F.CHORD_CFG_APEX 0 true with chord := { State.reset.chord with sent := [] } }, 4, 6, [], by decide⟩,
    ⟨{ (bench State.reset).setFld F.CHORD_LSTAT_STATE 5 4 |>.put F.CHORD_CFG_APEX 0 true with chord := { State.reset.chord with sent := [⟨9, 1, ⟨0x0101, 5, 0, 0, 0, 0, []⟩, true⟩] } }, 5, 9, [], ⟨9,1,⟨0x0101,5,0,0,0,0,[]⟩,true⟩, by decide⟩,
    ⟨{ bench State.reset with chord := { State.reset.chord with merges := [⟨0, 0, false, 0, default, [], true, 3, 0, 0, 0, 0, 0, 0, []⟩] } }, 0, ⟨0,0,false,0,default,[],true,3,0,0,0,0,0,0,[]⟩, by decide⟩,
    ⟨{ (((bench State.reset).setFld F.TAT_NEW_WORD 3 ([0xA, 0xD, 1].getD (State.reset.free % 3) 0)).setFld F.TAT_NEW_WORD 1 (2 ^ 30)).setFld F.TAT_NEW_WORD 5 0 with tat := [], ct := State.reset.ct % 2 ^ 40 }, 0, by decide +kernel⟩,
    ⟨(bench State.reset).setFld F.TAT_NEW_WORD 3 (State.reset.free % 16) |>.setFld F.TAT_NEW_WORD 1 (2 ^ 30 * (State.reset.ct % 2)), by decide⟩,
    ⟨{ State.reset with ct := State.reset.ct % 2 ^ 40, tat := [(State.reset.fld F.TAT_CMD_INDEX 0, { (default : TatEntry) with st := 1, words := [0, 2 ^ 30, 0, 0, 0, 0, 0] })] }, by decide⟩,
    ⟨{ State.reset with ct := State.reset.ct % 2 ^ 40, tat := [(State.reset.fld F.TAT_CMD_INDEX 0, { (default : TatEntry) with st := 2, words := [0, 2 ^ 30, 0, 0, 0, 0, 0] })] }, by decide⟩,
    ⟨{ State.reset with tat := [(3, { (default : TatEntry) with st := 1, words := [0, 0, 0, 0, 0, 0, 0] }), (9, { (default : TatEntry) with st := 1, words := [0, 2 ^ 31, 0, 0, 0, 0, 0] })] }, (3,⟨[0,0,0,0,0,0,0],1,0,[],0,[],false,0,0,0,false,none⟩), by decide⟩,
    ⟨{ bench State.reset with ct := State.reset.ct % 2 ^ 40, tat := [(9, { (default : TatEntry) with st := 1, words := [0, 2 ^ 20, 2 ^ 31 + 6, [1, 0xD, 0x20D].getD (State.reset.free % 3) 0, 0, 0x10003, 0] })], chord := { State.reset.chord with lastStep := 0 } }, (9,⟨[0,2^20,2^31+6,1,0,0x10003,0],1,0,[],0,[],false,0,0,0,false,none⟩), by decide⟩,
    ⟨{ State.reset with tat := [(9, { (default : TatEntry) with st := 1, words := [0, 4, 0, 0x40D, 0, 0, 0] })], chord := { State.reset.chord with lastStep := 5, lastStepCt := 2 ^ 40 } }, 9, ⟨[0,4,0,0x40D,0,0,0],1,0,[],0,[],false,0,0,0,false,none⟩, by decide⟩,
    ⟨{ State.reset with tat := [(511, { (default : TatEntry) with st := 2, window := 2 ^ 32 - 1 })] }, 511, 32, by decide⟩,
    ⟨{ State.reset with tat := [(511, { (default : TatEntry) with st := 2 })] }, 511, by decide⟩⟩

theorem hyps_TraceCommands :
  (∃ (s : State) (x : TapPacket), s.capturing = true ∧ s.trc.startCt ≤ x.ct
    ∧ (s.filterAt x.ct).keeps x (s.attributed x) = true ∧ x.answers = false ∧ x.room = true ∧ s.trc.dropped = 0
    ∧ s.traceTight (16 + up16 (x.bytes.take s.snapBytes).length) = false ∧ s.on F.TRC_CFG_MODE 0 = false
    ∧ s.trc.wr % 4096 + 16 + up16 (x.bytes.take s.snapBytes).length ≤ 4096) ∧
  (∃ (s : State) (x : TapPacket) (q : TraceHalt), s.traceOn = true ∧ s.capturing = false
    ∧ (s.filterAt x.ct).keeps x (s.attributed x) = true ∧ s.lateFor x.ct = some q) ∧
  (∃ (s : State), s.capturing = true ∧ s.traceTight 16 = false ∧ s.trc.dropped ≠ 0) ∧
  (∃ (s : State) (cause : Nat) (id : Nat) (value : Nat), s.traceOn = true ∧ s.fld F.TRC_STAT_STATE 0 = 2
    ∧ s.trc.trigCt ≠ some s.ct ∧ s.traceCramped 16 = false ∧ (((cause = 0) ∨ (cause = 1 ∧ s.on F.TRC_TRIG_MARKEN 0 = true
    ∧ s.fld F.TRC_TRIGV_VALUE 0 = value) ∨ (1 < cause ∧ s.on F.TRC_TRIG_FAULTEN 0 = true
    ∧ Nat.land id (s.fld F.TRC_TRIGF_FMASK 0) = Nat.land (s.fld F.TRC_TRIGF_FID 0) (s.fld F.TRC_TRIGF_FMASK 0))))) ∧
  (∃ (s : State) (cause : Nat) (id : Nat) (value : Nat), s.traceOn = true
    ∧ ((s.fld F.TRC_STAT_STATE 0 ≠ 2 ∨ s.trc.trigCt = some s.ct)) ∧ (((cause = 0) ∨ (cause = 1
    ∧ s.on F.TRC_TRIG_MARKEN 0 = true ∧ s.fld F.TRC_TRIGV_VALUE 0 = value) ∨ (1 < cause ∧ s.on F.TRC_TRIG_FAULTEN 0 = true
    ∧ Nat.land id (s.fld F.TRC_TRIGF_FMASK 0) = Nat.land (s.fld F.TRC_TRIGF_FID 0) (s.fld F.TRC_TRIGF_FMASK 0))))) ∧
  (∃ (s : State) (cause : Nat) (id : Nat) (value : Nat), cause ≠ 0 ∧ (¬ ((cause = 0) ∨ (cause = 1
    ∧ s.on F.TRC_TRIG_MARKEN 0 = true ∧ s.fld F.TRC_TRIGV_VALUE 0 = value) ∨ (1 < cause ∧ s.on F.TRC_TRIG_FAULTEN 0 = true
    ∧ Nat.land id (s.fld F.TRC_TRIGF_FMASK 0) = Nat.land (s.fld F.TRC_TRIGF_FID 0) (s.fld F.TRC_TRIGF_FMASK 0))))) ∧
  (∃ (s : State), s.traceOn = true ∧ s.fld F.TRC_STAT_STATE 0 = 3
    ∧ 65536 * s.fld F.TRC_TRIG_POST 0 ≤ s.trc.wr - s.trc.trigPos) ∧
  (∃ (s : State) (payload : Nat), s.capturing = true ∧ s.traceCramped (16 + up16 payload) = true) ∧
  (∃ (s : State), s.traceOn = true ∧ s.capturing = false ∧ s.traceCramped 16 = false) ∧
  (∃ (s : State), s.traceOn = false) ∧
  (∃ (s : State), s.capturing = true) ∧
  (∃ (s : State), s.traceOn = true ∧ s.fld F.TRC_STAT_STATE 0 = 2 ∧ s.trc.trigCt ≠ some s.ct ∧ s.traceCramped 16 = false) ∧
  (∃ (s : State), s.traceOn = true ∧ s.capturing = false) ∧
  (∃ (s : State) (value : Nat), s.capturing = true ∧ s.traceCramped 32 = false ∧ s.trc.full = false) ∧
  (∃ (s : State) (value : Nat), s.capturing = true ∧ s.traceCramped 32 = false ∧ s.trc.full = true) ∧
  (∃ (s : State) (value : Nat), s.capturing = true ∧ s.traceCramped 32 = true) ∧
  (∃ (s : State) (k : Nat) (one : Nat) (two : Nat) (deferred : Bool), s.traceOn = true ∧ s.bilberry k = true
    ∧ s.on F.BBC_STAT_READY k = true ∧ s.fld F.BBC_SCRUB_SCRUBINT k ≠ 0 ∧ deferred = false) ∧
  (∃ (s : State) (k : Nat) (one : Nat) (two : Nat) (deferred : Bool), deferred = true) ∧
  (∃ (s : State) (k : Nat) (addr : Nat) (count : Option Nat), s.traceOn = true ∧ k = 2) ∧
  (∃ (s : State) (k : Nat) (addr : Nat) (count : Option Nat), s.traceOn = true ∧ k < 2 ∧ s.bilberry k = true ∧ addr < 2 ^ 30) ∧
  (∃ (s : State) (k : Nat) (one : Nat) (two : Nat) (acked : Bool), k < 4 ∧ s.on F.MF_STAT_CONFIGURED k = true
    ∧ s.p33Is k .enabled = true ∧ (s.mf.at k).halts.contains 4 = false ∧ s.traceOn = true ∧ s.fld F.TRC_EXP_DEST 0 = k + 1
    ∧ s.trc.placed = none ∧ (s.nextTransfer (restrictedTo k) (s.epHalf k 4)).bytes ≠ [] ∧ acked = true) ∧
  (∃ (s : State) (k : Nat) (one : Nat) (two : Nat) (acked : Bool), k < 4 ∧ s.on F.MF_STAT_CONFIGURED k = true
    ∧ s.p33Is k .enabled = true ∧ (s.mf.at k).halts.contains 4 = false ∧ s.traceOn = true ∧ s.fld F.TRC_EXP_DEST 0 = k + 1
    ∧ s.trc.placed = none ∧ (s.nextTransfer (restrictedTo k) (s.epHalf k 4)).bytes ≠ [] ∧ acked = false) ∧
  (∃ (s : State) (k : Nat) (one : Nat) (two : Nat) (acked : Bool), k < 4 ∧ s.on F.MF_STAT_CONFIGURED k = true
    ∧ s.p33Is k .enabled = true ∧ (s.mf.at k).halts.contains 4 = false ∧ s.traceOn = true ∧ s.fld F.TRC_EXP_DEST 0 = k + 1
    ∧ s.trc.placed = none ∧ (s.nextTransfer (restrictedTo k) (s.epHalf k 4)).bytes = []
    ∧ (s.nextTransfer (restrictedTo k) (s.epHalf k 4)).next = s.trc.rd) ∧
  (∃ (s : State) (k : Nat) (one : Nat) (two : Nat) (acked : Bool), k < 4 ∧ s.on F.MF_STAT_CONFIGURED k = true
    ∧ s.p33Is k .enabled = true ∧ (s.mf.at k).halts.contains 4 = false
    ∧ ((s.traceOn = false ∨ s.fld F.TRC_EXP_DEST 0 ≠ k + 1))) ∧
  (∃ (s : State) (k : Nat) (one : Nat) (two : Nat) (acked : Bool), k < 4 ∧ s.on F.MF_STAT_CONFIGURED k = true
    ∧ s.p33Is k .enabled = true ∧ (s.mf.at k).halts.contains 4 = true) :=
  ⟨⟨{ (bench State.reset).setFld F.TRC_STAT_STATE 0 2 |>.put F.TRC_CFG_MODE 0 false |>.put F.TRC_CFG_MEM 0 false |>.setFld F.TRC_EXP_DEST 0 0 |>.setFld F.TRC_TAPS_REP 0 15 |>.put F.TRC_TAPS_TT 0 true |>.put F.TRC_TAPS_UNATTR 0 true |>.put F.TRC_TAPS_MF 0 true |>.setFld F.TRC_PORTS_PORTS 0 (2 ^ 32 - 1) |>.setFld F.TRC_TAPS_PIDCLS 0 31 |>.setFld F.TRC_CFG_SNAPLEN 0 4 with trc := { State.reset.trc with wr := 4000 * (State.reset.ct % 2), dropped := 0, oldest := 0, startCt := 0, oldFilters := [], oldSyncs := [(7, 1)] } }, { (default : TapPacket) with room := true, port := 32, toHost := true, bytes := [0x69] }, by decide⟩,
    ⟨{ (bench State.reset).setFld F.TRC_STAT_STATE 0 4 |>.put F.TRC_CFG_MODE 0 false |>.put F.TRC_CFG_MEM 0 false |>.setFld F.TRC_EXP_DEST 0 0 |>.setFld F.TRC_TAPS_REP 0 15 |>.put F.TRC_TAPS_TT 0 true |>.put F.TRC_TAPS_UNATTR 0 true |>.put F.TRC_TAPS_MF 0 true |>.setFld F.TRC_PORTS_PORTS 0 (2 ^ 32 - 1) |>.setFld F.TRC_TAPS_PIDCLS 0 31 |>.setFld F.TRC_CFG_SNAPLEN 0 4 with ct := 20, trc := { State.reset.trc with wr := 4000, dropped := 0, oldest := 0, rd := 0, oldFilters := [], oldSyncs := [], halted := some ⟨0, 10, 2, 0, 5, 2, true⟩ } }, { (default : TapPacket) with room := true, port := 32, toHost := true, bytes := [0x69], ct := 5 }, ⟨0,10,2,0,5,2,true⟩, by decide⟩,
    ⟨{ (bench State.reset).setFld F.TRC_STAT_STATE 0 2 with trc := { State.reset.trc with dropped := 1 + State.reset.ct % 3 } }, by decide⟩,
    ⟨{ (bench State.reset).setFld F.TRC_STAT_STATE 0 2 |>.setFld F.TRC_TRIG_POST 0 (State.reset.ct % 2) |>.put F.TRC_TRIG_MARKEN 0 true |>.put F.TRC_TRIG_FAULTEN 0 true |>.setFld F.TRC_TRIGV_VALUE 0 7 |>.setFld F.TRC_TRIGF_FMASK 0 0xFF |>.setFld F.TRC_TRIGF_FID 0 9 with trc := { State.reset.trc with trigCt := none, wr := 16, oldest := 0, rd := 0 } }, 2, 9, 7, by decide⟩,
    ⟨(bench State.reset).setFld F.TRC_STAT_STATE 0 3 |>.put F.TRC_TRIG_MARKEN 0 true |>.put F.TRC_TRIG_FAULTEN 0 true |>.setFld F.TRC_TRIGV_VALUE 0 7 |>.setFld F.TRC_TRIGF_FMASK 0 0xFF |>.setFld F.TRC_TRIGF_FID 0 9, 2, 9, 7, by decide⟩,
    ⟨(bench State.reset).put F.TRC_TRIG_MARKEN 0 false |>.put F.TRC_TRIG_FAULTEN 0 false, 2, 9, 7, by decide⟩,
    ⟨(bench State.reset).setFld F.TRC_STAT_STATE 0 3 |>.setFld F.TRC_TRIG_POST 0 0, by decide⟩,
    ⟨{ (bench State.reset).setFld F.TRC_STAT_STATE 0 2 |>.put F.TRC_CFG_MODE 0 false |>.put F.TRC_CFG_MEM 0 false |>.setFld F.TRC_EXP_DEST 0 0 with trc := { State.reset.trc with oldest := 0, wr := 261000 } }, 1024, by decide⟩,
    ⟨{ (bench State.reset).setFld F.TRC_STAT_STATE 0 1 with trc := { State.reset.trc with wr := 16, oldest := 0, rd := 0 } }, by decide⟩,
    ⟨(bench State.reset).setFld F.PMU_DOMSTAT_ON 0 0, by decide⟩,
    ⟨{ (bench State.reset).setFld F.TRC_STAT_STATE 0 2 with trc := { State.reset.trc with dropped := State.reset.ct % 3 } }, by decide⟩,
    ⟨{ (bench State.reset).setFld F.TRC_STAT_STATE 0 2 with trc := { State.reset.trc with trigCt := none, wr := 16, oldest := 0, rd := 0 } }, by decide⟩,
    ⟨(bench State.reset).setFld F.TRC_STAT_STATE 0 4, by decide⟩,
    ⟨{ (bench State.reset).setFld F.TRC_STAT_STATE 0 2 with trc := { State.reset.trc with full := false, wr := 16, oldest := 0, rd := 0, dropped := State.reset.ct % 3 } }, 7, by decide⟩,
    ⟨{ (bench State.reset).setFld F.TRC_STAT_STATE 0 2 with trc := { State.reset.trc with full := true, wr := 16, oldest := 0, rd := 0, dropped := State.reset.ct % 3 } }, 7, by decide⟩,
    ⟨{ (bench State.reset).setFld F.TRC_STAT_STATE 0 2 |>.put F.TRC_CFG_MODE 0 false |>.put F.TRC_CFG_MEM 0 false |>.setFld F.TRC_EXP_DEST 0 0 with trc := { State.reset.trc with oldest := 0, wr := 262000 } }, 7, by decide⟩,
    ⟨(bench State.reset).put F.BBC_STAT_READY 1 true |>.setFld F.BBC_SCRUB_SCRUBINT 1 5 |>.setFld F.BBC_SCRUBPOS_POS 1 (2 ^ 24 - 1 - State.reset.ct % 2), 1, 0, 0, false, by decide⟩,
    ⟨(bench State.reset).put F.BBC_STAT_READY 1 true |>.setFld F.BBC_SCRUB_SCRUBINT 1 5, 1, 0, 0, true, by decide⟩,
    ⟨bench State.reset, 2, 0, none, by decide⟩,
    ⟨bench State.reset, 1, 0, none, by decide⟩,
    ⟨{ ((((bench State.reset).setFld F.TRC_STAT_STATE 0 2).updTrc (fun r => { r with wr := 0, rd := 0, oldest := 0, placed := none, halted := none })).trcMark 5).setFld F.TRC_EXP_DEST 0 (3 + 1) |>.setFld F.MF_STAT_PSTATE 3 4 |>.put F.MF_STAT_CONFIGURED 3 true |>.setFld F.MF_EPD_SIZE (epd 3 4) 64 with mf := [(3, { (default : MfInst) with halts := [] })] }, 3, 0, 0, true, by decide⟩,
    ⟨{ ((((bench State.reset).setFld F.TRC_STAT_STATE 0 2).updTrc (fun r => { r with wr := 0, rd := 0, oldest := 0, placed := none, halted := none })).trcMark 5).setFld F.TRC_EXP_DEST 0 (3 + 1) |>.setFld F.MF_STAT_PSTATE 3 4 |>.put F.MF_STAT_CONFIGURED 3 true |>.setFld F.MF_EPD_SIZE (epd 3 4) 64 with mf := [(3, { (default : MfInst) with halts := [] })] }, 3, 0, 0, false, by decide⟩,
    ⟨{ ((((bench State.reset).setFld F.TRC_STAT_STATE 0 2).updTrc (fun r => { r with wr := 0, rd := 0, oldest := 0, placed := none, halted := none }))).setFld F.TRC_EXP_DEST 0 (3 + 1) |>.setFld F.MF_STAT_PSTATE 3 4 |>.put F.MF_STAT_CONFIGURED 3 true |>.setFld F.MF_EPD_SIZE (epd 3 4) 64 with mf := [(3, { (default : MfInst) with halts := [] })] }, 3, 0, 0, true, by decide⟩,
    ⟨{ ((((bench State.reset).setFld F.TRC_STAT_STATE 0 2).updTrc (fun r => { r with wr := 0, rd := 0, oldest := 0, placed := none, halted := none }))).setFld F.TRC_EXP_DEST 0 (0) |>.setFld F.MF_STAT_PSTATE 3 4 |>.put F.MF_STAT_CONFIGURED 3 true |>.setFld F.MF_EPD_SIZE (epd 3 4) 64 with mf := [(3, { (default : MfInst) with halts := [] })] }, 3, 0, 0, true, by decide⟩,
    ⟨{ ((((bench State.reset).setFld F.TRC_STAT_STATE 0 2).updTrc (fun r => { r with wr := 0, rd := 0, oldest := 0, placed := none, halted := none }))).setFld F.TRC_EXP_DEST 0 (3 + 1) |>.setFld F.MF_STAT_PSTATE 3 4 |>.put F.MF_STAT_CONFIGURED 3 true |>.setFld F.MF_EPD_SIZE (epd 3 4) 64 with mf := [(3, { (default : MfInst) with halts := [4] })] }, 3, 0, 0, true, by decide⟩⟩

theorem hyps_FaultEventCommands :
  (∃ (s : State) (e : Raised) (r : List Raised), s.fc.raised = e :: r ∧ s.fcEvaluated e.id = true
    ∧ s.fcExpected e.id = false ∧ s.fcReact e.id ≠ 6 ∧ (s.fcAt e.id).st ≠ .fault ∧ s.fcN e.id ≤ (s.fcAt e.id).count + 1) ∧
  (∃ (s : State) (e : Raised) (r : List Raised), s.fc.raised = e :: r ∧ s.fcEvaluated e.id = true
    ∧ s.fcExpected e.id = false ∧ (s.fcAt e.id).st ≠ .fault ∧ (s.fcAt e.id).count + 1 < s.fcN e.id) ∧
  (∃ (s : State) (e : Raised) (r : List Raised), s.fc.raised = e :: r ∧ s.fcEvaluated e.id = true
    ∧ s.fcExpected e.id = false ∧ (s.fcAt e.id).st = .fault) ∧
  (∃ (s : State) (e : Raised) (r : List Raised), s.fc.raised = e :: r ∧ s.fcEvaluated e.id = true ∧ s.fcExpected e.id = true) ∧
  (∃ (s : State) (e : Raised) (r : List Raised), s.fc.raised = e :: r ∧ s.fcEvaluated e.id = true
    ∧ s.fcExpected e.id = false ∧ s.fcReact e.id = 6 ∧ (s.fcAt e.id).st ≠ .fault ∧ s.fcN e.id ≤ (s.fcAt e.id).count + 1
    ∧ s.power.boot = .firmware) ∧
  (∃ (s : State) (id : Nat), (s.fcAt id).st = .minor) ∧
  (∃ (s : State) (id : Nat), s.fcEvaluated id = true ∧ (s.fcAt id).wire = false ∧ s.fcReact id ≠ 6) ∧
  (∃ (s : State) (id : Nat), (s.fcAt id).wire = true) ∧
  (∃ (s : State) (id : Nat) (coincides : Bool), id < 65536 ∧ coincides = false ∧ fcDefined id = false) ∧
  (∃ (s : State) (id : Nat) (coincides : Bool), id < 65536 ∧ coincides = false ∧ fcDefined id = true ∧ s.fcLive id = false) ∧
  (∃ (s : State) (id : Nat) (coincides : Bool), id < 65536 ∧ coincides = false ∧ fcDefined id = true ∧ s.fcLive id = true
    ∧ s.fcCause id = true) ∧
  (∃ (s : State) (id : Nat) (coincides : Bool), id < 65536 ∧ coincides = false ∧ fcDefined id = true ∧ s.fcLive id = true
    ∧ s.fcCause id = false) ∧
  (∃ (s : State) (id : Nat) (coincides : Bool), id < 65536 ∧ coincides = true ∧ s.fcEvaluated id = true
    ∧ s.fc.raised.head?.any (fun e => decide (e.id = id)) = true ∧ s.fcReact id ≠ 6) :=
  ⟨⟨{ bench State.reset with fc := { (default : Collector) with raised := [⟨0x1040, 1, 2⟩], sources := [(0x1040, { (default : FcSource) with written := true, n := 2, react := [0, 1, 2, 3, 5, 7].getD (State.reset.free / 3 % 6) 0, window := 1000, count := 1, st := .minor })] }, tat := [] }, ⟨0x1040,1,2⟩, [], by decide⟩,
    ⟨{ bench State.reset with fc := { (default : Collector) with raised := [⟨0x1040, 1, 2⟩], sources := [(0x1040, { (default : FcSource) with written := true, n := 2, react := [0, 1, 2, 3, 5, 7].getD (State.reset.free / 3 % 6) 0, window := 1000, count := 0, st := .ok })] }, tat := [] }, ⟨0x1040,1,2⟩, [], by decide⟩,
    ⟨{ bench State.reset with fc := { (default : Collector) with raised := [⟨0x1040, 1, 2⟩], sources := [(0x1040, { (default : FcSource) with written := true, n := 2, react := [0, 1, 2, 3, 5, 7].getD (State.reset.free / 3 % 6) 0, window := 1000, count := 2, st := .fault })] }, tat := [] }, ⟨0x1040,1,2⟩, [], by decide⟩,
    ⟨{ bench State.reset with fc := { (default : Collector) with raised := [⟨0x1040, 1, 2⟩], sources := [(0x1040, { (default : FcSource) with written := true, n := 2, react := [0, 1, 2, 3, 5, 7].getD (State.reset.free / 3 % 6) 0, window := 1000, count := 0, st := .ok })] }, tat := [(3, { (default : TatEntry) with st := 2, window := 1, words := [0, 0, 1, 1, 2 ^ 11 - 1, 0, 0] })] }, ⟨0x1040,1,2⟩, [], by decide⟩,
    ⟨{ bench State.reset with fc := { (default : Collector) with raised := [⟨0x0E00, 1, 2⟩] }, tat := [] }, ⟨0x0E00,1,2⟩, [], by decide⟩,
    ⟨{ State.reset with fc := { (default : Collector) with sources := [(0x1040, { (default : FcSource) with st := .minor, count := 3 })] } }, 0x1040, by decide⟩,
    ⟨{ bench State.reset with fc := default }, 0x4087, by decide⟩,
    ⟨{ State.reset with fc := { (default : Collector) with sources := [(0x1040, { (default : FcSource) with wire := true })] } }, 0x1040, by decide⟩,
    ⟨{ State.reset with fc := { (default : Collector) with raised := [], sources := [(61447, { (default : FcSource) with st := .fault, wire := true })] } }, 61447, false, by decide⟩,
    ⟨{ (bench State.reset).setFld F.PMU_DOMSTAT_ON 0 7 with fc := { (default : Collector) with raised := [], sources := [(4160, { (default : FcSource) with st := .fault, wire := true })] } }, 4160, false, by decide⟩,
    ⟨{ bench State.reset with fc := { (default : Collector) with raised := [], sources := [(64, { (default : FcSource) with st := .fault, wire := true })] } }, 64, false, by decide⟩,
    ⟨{ bench State.reset with fc := { (default : Collector) with raised := [], sources := [(64, { (default : FcSource) with st := .fault, wire := false })] } }, 64, false, by decide⟩,
    ⟨{ bench State.reset with fc := { (default : Collector) with raised := [⟨64, 1, 2⟩], sources := [(64, { (default : FcSource) with st := .fault, wire := false })] } }, 64, true, by decide⟩⟩

theorem hyps_FaultSettingsAndLogCommands :
  (∃ (s : State) (id : Nat) (coincides : Bool), id < 65536 ∧ fcDefined id = false) ∧
  (∃ (s : State) (id : Nat) (coincides : Bool), id < 65536 ∧ fcDefined id = true ∧ s.fcEvaluated id = false) ∧
  (∃ (s : State) (id : Nat) (coincides : Bool), id < 65536 ∧ s.fcEvaluated id = true ∧ s.fcReact id ≠ 6) ∧
  (∃ (s : State) (id : Nat), id < 65536 ∧ fcDefined id = false) ∧
  (∃ (s : State) (id : Nat), id < 65536 ∧ fcDefined id = true ∧ s.fcEvaluated id = false) ∧
  (∃ (s : State) (id : Nat), id < 65536 ∧ s.fcEvaluated id = true ∧ s.fcReact id ≠ 6) ∧
  (∃ (s : State) (n : Nat) (w : Nat) (react : Nat) (inj : Bool), s.on F.FC_SEL_ALL 0 = false
    ∧ fcDefined (s.fld F.FC_SEL_ID 0) = false) ∧
  (∃ (s : State) (n : Nat) (w : Nat) (react : Nat) (inj : Bool), s.on F.FC_SEL_ALL 0 = false
    ∧ fcDefined (s.fld F.FC_SEL_ID 0) = true ∧ fcLocked (s.fld F.FC_SEL_ID 0) = true) ∧
  (∃ (s : State) (n : Nat) (w : Nat) (react : Nat) (inj : Bool), s.on F.FC_SEL_ALL 0 = false
    ∧ fcDefined (s.fld F.FC_SEL_ID 0) = true ∧ fcLocked (s.fld F.FC_SEL_ID 0) = false
    ∧ (s.fcAt (s.fld F.FC_SEL_ID 0)).st ≠ .fault) ∧
  (∃ (s : State) (n : Nat) (w : Nat) (react : Nat) (inj : Bool), s.on F.FC_SEL_ALL 0 = false
    ∧ fcDefined (s.fld F.FC_SEL_ID 0) = true ∧ fcLocked (s.fld F.FC_SEL_ID 0) = false
    ∧ (s.fcAt (s.fld F.FC_SEL_ID 0)).st = .fault) ∧
  (∃ (s : State) (n : Nat) (w : Nat) (react : Nat) (inj : Bool) (j : Nat), s.on F.FC_SEL_ALL 0 = true
    ∧ fcIdx (s.fld F.FC_SEL_ID 0) < 8 ∧ j < 8 ∧ fcDefined ((s.fld F.FC_SEL_ID 0) - fcIdx (s.fld F.FC_SEL_ID 0) + j) = true
    ∧ fcLocked ((s.fld F.FC_SEL_ID 0) - fcIdx (s.fld F.FC_SEL_ID 0) + j) = false
    ∧ (s.fcAt ((s.fld F.FC_SEL_ID 0) - fcIdx (s.fld F.FC_SEL_ID 0) + j)).st ≠ .fault) ∧
  (∃ (s : State), s.on F.FC_ST_BUSY 0 = false) ∧
  (∃ (s : State) (failed : List Nat), s.on F.FC_ST_BUSY 0 = true ∧ failed = []) ∧
  (∃ (s : State) (failed : List Nat) (id : Nat), s.on F.FC_ST_BUSY 0 = true ∧ id ∈ failed ∧ id ∈ fcAll
    ∧ s.fcEvaluated id = true) ∧
  (∃ (s : State) (r : LogRec) (q : List LogRec), s.log.queue = r :: q ∧ s.on F.LOG_CFG_EN 0 = true) ∧
  (∃ (s : State), s.log.queue.length < 64) ∧
  (∃ (s : State) (a : Nat), 0x20000000 ≤ a ∧ (a < 0x20087000 ∨ (0x200C7000 ≤ a ∧ a < 0x200F8000))) :=
  ⟨⟨{ State.reset with fc := { (default : Collector) with raised := [⟨61443, 1, 2⟩], sources := [(61443, { (default : FcSource) with wire := false })] } }, 61443, true, by decide⟩,
    ⟨{ (bench State.reset).setFld F.PMU_DOMSTAT_ON 0 7 with fc := { (default : Collector) with raised := [⟨4160, 1, 2⟩], sources := [(4160, { (default : FcSource) with wire := false })] } }, 4160, true, by decide⟩,
    ⟨{ bench State.reset with fc := { (default : Collector) with raised := [⟨64, 1, 2⟩], sources := [(64, { (default : FcSource) with wire := State.reset.ct % 2 = 0 })] } }, 64, true, by decide⟩,
    ⟨{ State.reset with fc := { (default : Collector) with sources := [(61447, { (default : FcSource) with wire := false })] } }, 61447, by decide⟩,
    ⟨{ (bench State.reset).setFld F.PMU_DOMSTAT_ON 0 7 with fc := { (default : Collector) with sources := [(4160, { (default : FcSource) with wire := false })] } }, 4160, by decide⟩,
    ⟨{ bench State.reset with fc := { (default : Collector) with sources := [(64, { (default : FcSource) with wire := State.reset.ct % 2 = 0 })] } }, 64, by decide⟩,
    ⟨{ State.reset.setFld F.FC_SEL_ID 0 0x0FFF |>.put F.FC_SEL_ALL 0 false with fc := { (default : Collector) with sources := [(0x1040, { (default : FcSource) with st := .ok })] } }, 9, 2, 4, true, by decide⟩,
    ⟨{ State.reset.setFld F.FC_SEL_ID 0 0x0E00 |>.put F.FC_SEL_ALL 0 false with fc := { (default : Collector) with sources := [(0x1040, { (default : FcSource) with st := .ok })] } }, 9, 2, 4, true, by decide⟩,
    ⟨{ State.reset.setFld F.FC_SEL_ID 0 0x1040 |>.put F.FC_SEL_ALL 0 false with fc := { (default : Collector) with sources := [(0x1040, { (default : FcSource) with st := [FcState.ok, .minor].getD (State.reset.free % 2) .ok })] } }, 9, 2, 4, true, by decide⟩,
    ⟨{ State.reset.setFld F.FC_SEL_ID 0 0x1040 |>.put F.FC_SEL_ALL 0 false with fc := { (default : Collector) with sources := [(0x1040, { (default : FcSource) with st := .fault })] } }, 9, 2, 4, true, by decide⟩,
    ⟨{ State.reset.setFld F.FC_SEL_ID 0 0x1043 |>.put F.FC_SEL_ALL 0 true with fc := { (default : Collector) with sources := [(0x1040, { (default : FcSource) with st := .minor })] } }, 5, 3, 7, true, 1, by decide⟩,
    ⟨State.reset.put F.FC_ST_BUSY 0 false, by decide⟩,
    ⟨(bench State.reset).put F.FC_ST_BUSY 0 true, [], by decide⟩,
    ⟨(bench State.reset).put F.FC_ST_BUSY 0 true, [0x1040], 0x1040, by decide⟩,
    ⟨{ State.reset.put F.LOG_CFG_EN 0 true |>.setFld F.LOG_WR_SEQ 0 (8190 + State.reset.ct % 4) with log := { (default : LogHw) with queue := [⟨State.reset.ct % 2 ^ 40, 2, 0x1040, 1, 4, [1, 2, 3]⟩] } }, ⟨0,2,0x1040,1,4,[1,2,3]⟩, [], by decide⟩,
    ⟨{ State.reset.put F.LOG_CFG_EN 0 (State.reset.free % 2 = 0) with log := { (default : LogHw) with queue := List.replicate (State.reset.ct % 64) ⟨State.reset.ct % 2 ^ 40, 2, 0x1040, 1, 4, [1, 2, 3]⟩ } }, by decide⟩,
    ⟨State.reset, 0x200F7FFF, by decide⟩⟩

theorem hyps_InterruptAndWatchdogCommands :
  (∃ (s : State) (n : Nat) (pins : Nat), 0 < n ∧ n < 184 ∧ ((n < 176 ∨ 180 ≤ n ∨ s.bit F.PMU_RAILSTAT_VIO_OK 0 4 = true))) ∧
  (∃ (s : State) (n : Nat) (pins : Nat), 176 ≤ n ∧ n < 180 ∧ s.bit F.PMU_RAILSTAT_VIO_OK 0 4 = false) ∧
  (∃ (s : State) (c : Nat) (pc : Nat) (mie : Bool), s.coreRuns c = true ∧ (mie = true ∨ s.on F.IC_LVL_WFI c = true)
    ∧ (s.cores.at c).traps.length < 16 ∧ (s.put F.IC_LVL_WFI c false).entryLevel c = 0) ∧
  (∃ (s : State) (c : Nat) (pc : Nat) (mie : Bool), s.coreRuns c = true ∧ (mie = true ∨ s.on F.IC_LVL_WFI c = true)
    ∧ (s.cores.at c).traps.length < 16 ∧ (s.put F.IC_LVL_WFI c false).entryLevel c ≠ 0) ∧
  (∃ (s : State) (c : Nat) (pc : Nat) (mie : Bool), s.coreRuns c = true ∧ (mie = true ∨ s.on F.IC_LVL_WFI c = true)
    ∧ 16 ≤ (s.cores.at c).traps.length) ∧
  (∃ (s : State) (c : Nat) (level : Nat) (top : Nat) (rest : List Nat), c ≤ 4 ∧ (s.cores.at c).levels = top :: rest
    ∧ s.fld F.IC_LVL_CURLVL c = level % 16) ∧
  (∃ (s : State) (c : Nat) (level : Nat) (top : Nat) (rest : List Nat), c ≤ 4 ∧ (s.cores.at c).levels = top :: rest
    ∧ s.fld F.IC_LVL_CURLVL c ≠ level % 16) ∧
  (∃ (s : State) (c : Nat) (level : Nat), c ≤ 4 ∧ (s.cores.at c).levels = []) ∧
  (∃ (s : State) (n : Nat) (wfi : Bool), n < 256 ∧ s.irqPending n = true ∧ wfi = false) ∧
  (∃ (s : State) (n : Nat) (wfi : Bool), n < 256 ∧ s.irqPending n = true ∧ wfi = true
    ∧ s.coreRuns (s.fld F.IC_SRC_TARGET n) = true) ∧
  (∃ (s : State) (c : Nat) (count : Nat), c ≤ 4) ∧
  (∃ (s : State) (c : Nat), c ≤ 4 ∧ s.fld F.IC_TIMER_COUNT c ≠ 0) ∧
  (∃ (s : State) (c : Nat), c ≤ 4 ∧ s.fld F.IC_CORECTL_WDTMO c ≠ 0) ∧
  (∃ (s : State) (c : Nat), s.fld F.IC_CORECTL_WDTMO c = 0) ∧
  (∃ (s : State) (c : Nat), c ≤ 4 ∧ (s.cores.at c).watch = true) ∧
  (∃ (s : State) (c : Nat), c = 0 ∧ (s.cores.at 0).watch = true ∧ s.power.boot = .firmware) ∧
  (∃ (s : State) (c : Nat), c ≠ 0 ∧ c ≤ 4 ∧ (s.cores.at c).watch = true) :=
  ⟨⟨State.reset, 1, 7, by decide⟩,
    ⟨State.reset.setFld F.PMU_RAILSTAT_VIO_OK 0 15, 176, 7, by decide⟩,
    ⟨(((benchPd State.reset 1).each (List.range 8) (fun x j => x.setFld F.IC_PEND_PEND j 0)).setFld F.IC_PEND_PEND 0 (2 ^ 9 * 0) |>.setFld F.IC_EN_EN 0 (2 ^ 9) |>.setFld F.IC_SRC_PRIO 9 7 |>.setFld F.IC_SRC_TARGET 9 4 |>.setFld F.IC_LVL_CURLVL 4 0), 4, 0x100, true, by decide⟩,
    ⟨(((benchPd State.reset 1).each (List.range 8) (fun x j => x.setFld F.IC_PEND_PEND j 0)).setFld F.IC_PEND_PEND 0 (2 ^ 9 * 1) |>.setFld F.IC_EN_EN 0 (2 ^ 9) |>.setFld F.IC_SRC_PRIO 9 7 |>.setFld F.IC_SRC_TARGET 9 4 |>.setFld F.IC_LVL_CURLVL 4 0), 4, 0x100, true, by decide⟩,
    ⟨{ benchPd State.reset 1 with cores := [(4, { (default : CoreHw) with stage := .running, traps := List.replicate 16 (0, 0, false) })] }, 4, 0x100, true, by decide⟩,
    ⟨{ benchPd State.reset 1 |>.setFld F.IC_LVL_CURLVL 4 (7 % 16) with cores := [(4, { (default : CoreHw) with levels := [3, 1] })] }, 4, 7, 3, [1], by decide⟩,
    ⟨{ benchPd State.reset 1 |>.setFld F.IC_LVL_CURLVL 4 ((7 + 1) % 16) with cores := [(4, { (default : CoreHw) with levels := [3, 1] })] }, 4, 7, 3, [1], by decide⟩,
    ⟨{ benchPd State.reset 1 with cores := [] }, 4, 7, by decide⟩,
    ⟨(benchPd State.reset 1).putBit F.IC_PEND_PEND (255 / 32) (255 % 32) true, 255, false, by decide⟩,
    ⟨(benchPd State.reset 1).putBit F.IC_PEND_PEND (255 / 32) (255 % 32) true, 255, true, by decide⟩,
    ⟨State.reset, 4, 4294967295, by decide⟩,
    ⟨State.reset.setFld F.IC_TIMER_COUNT 4 5, 4, by decide⟩,
    ⟨State.reset.setFld F.IC_CORECTL_WDTMO 4 (1 + State.reset.ct % 3), 4, by decide⟩,
    ⟨State.reset.setFld F.IC_CORECTL_WDTMO 4 0, 4, by decide⟩,
    ⟨{ State.reset with cores := [(4, { (default : CoreHw) with watch := true })] }, 4, by decide⟩,
    ⟨{ benchPd State.reset 1 with cores := [(0, { (default : CoreHw) with watch := true, stage := .running })] }, 0, by decide⟩,
    ⟨{ benchPd State.reset 1 with cores := [(4, { (default : CoreHw) with watch := true, stage := .running })] }, 4, by decide⟩⟩

theorem hyps_CoreAndImageCommands :
  (∃ (s : State) (c : Nat), s.coreRuns c = true ∧ 16 ≤ (s.cores.at c).traps.length) ∧
  (∃ (s : State) (c : Nat) (pc : Nat) (cause : Nat) (mie : Bool), s.coreRuns c = true ∧ (s.cores.at c).traps.length < 16) ∧
  (∃ (s : State) (c : Nat) (pc : Nat) (cause : Nat) (mie : Bool), s.coreRuns c = true ∧ 16 ≤ (s.cores.at c).traps.length) ∧
  (∃ (s : State) (c : Nat) (pc0 : Nat) (cause0 : Nat) (old : Bool), s.coreRuns c = true
    ∧ (s.cores.at c).traps.head? = some (pc0, cause0, old)) ∧
  (∃ (s : State) (c : Nat) (pc : Nat) (a : Nat) (fetch : Bool) (mie : Bool), s.coreRuns c = true
    ∧ (s.cores.at c).traps.length < 16) ∧
  (∃ (s : State) (c : Nat) (pc : Nat) (a : Nat) (fetch : Bool) (mie : Bool), s.coreRuns c = true
    ∧ 16 ≤ (s.cores.at c).traps.length) ∧
  (∃ (s : State) (c : Nat) (hold : Bool), 1 ≤ c ∧ c ≤ 4 ∧ hold = true) ∧
  (∃ (s : State) (c : Nat) (hold : Bool), 1 ≤ c ∧ c ≤ 4 ∧ hold = false ∧ s.on F.IC_CORECTL_RESET c = true
    ∧ s.domOn Dom.service = true ∧ s.domChanging Dom.service = false) ∧
  (∃ (s : State) (c : Nat) (hold : Bool), c = 0) ∧
  (∃ (s : State) (c : Nat) (why : Nat), 1 ≤ c ∧ c ≤ 4) ∧
  (∃ (s : State) (c : Nat), 1 ≤ c ∧ c ≤ 4 ∧ s.firmware = true ∧ s.domOn Dom.service = true
    ∧ s.domChanging Dom.service = false ∧ (s.cores.at c).stage = .off ∧ (s.cores.at c).selected = 0
    ∧ (s.power.broughtUp = true ∨ overlapApplied s (s.imageLoaded c) = false)) ∧
  (∃ (s : State) (c : Nat), 1 ≤ c ∧ c ≤ 4 ∧ s.firmware = true ∧ s.domOn Dom.service = true
    ∧ s.domChanging Dom.service = false ∧ (s.cores.at c).stage = .off ∧ (s.cores.at c).selected ≠ 0
    ∧ (s.power.broughtUp = true ∨ overlapApplied s (s.imageLoaded c) = false)) ∧
  (∃ (s : State) (c : Nat), 1 ≤ c ∧ c ≤ 4 ∧ s.coreRuns c = true ∧ (s.cores.at c).stage = .loading
    ∧ s.descriptorOk c = true ∧ s.word (descriptor c + 16) = 1
    ∧ (s.power.broughtUp = true ∨ overlapApplied s (s.loaderGone c) = false)) ∧
  (∃ (s : State) (c : Nat), 1 ≤ c ∧ c ≤ 4 ∧ s.coreRuns c = true ∧ (s.cores.at c).stage = .loading
    ∧ s.descriptorOk c = false ∧ (((s.cores.at c).reloaded = true ∨ s.firmware = false))
    ∧ (s.power.broughtUp = true ∨ overlapApplied s (s.loaderHalted c) = false)) ∧
  (∃ (s : State) (c : Nat), 1 ≤ c ∧ c ≤ 4 ∧ s.coreRuns c = true ∧ (s.cores.at c).stage = .loading
    ∧ s.descriptorOk c = false ∧ (s.cores.at c).reloaded = false ∧ s.firmware = true
    ∧ (s.power.broughtUp = true ∨ overlapApplied s (s.loaderHalted c) = false)) :=
  ⟨⟨{ benchPd State.reset 1 with cores := [(4, { (default : CoreHw) with stage := .running, traps := List.replicate 16 (0, 0, false) })] }, 4, by decide⟩,
    ⟨{ benchPd State.reset 1 with cores := [(4, { (default : CoreHw) with stage := .running, traps := List.replicate (State.reset.ct % 16) (0, 0, false) })] }, 4, 0x100, 2, true, by decide⟩,
    ⟨{ benchPd State.reset 1 with cores := [(4, { (default : CoreHw) with stage := .running, traps := List.replicate 16 (0, 0, false) })] }, 4, 0x100, 2, true, by decide⟩,
    ⟨{ benchPd State.reset 1 with cores := [(4, { (default : CoreHw) with stage := .running, mpie := true, traps := [(16, 5, false), (0, 0, true)] })] }, 4, 16, 5, false, by decide⟩,
    ⟨{ benchPd State.reset 1 with cores := [(4, { (default : CoreHw) with stage := .running, traps := List.replicate (State.reset.ct % 16) (0, 0, false) })] }, 4, 0, 0, true, true, by decide⟩,
    ⟨{ benchPd State.reset 1 with cores := [(4, { (default : CoreHw) with stage := .running, traps := List.replicate 16 (0, 0, false) })] }, 4, 0, 0, true, true, by decide⟩,
    ⟨(benchPd State.reset 1).put F.IC_CORECTL_RESET 4 false, 4, true, by decide⟩,
    ⟨(benchPd State.reset 1).put F.IC_CORECTL_RESET 4 true, 4, false, by decide⟩,
    ⟨State.reset, 0, true, by decide⟩,
    ⟨benchPd State.reset 1, 4, 1, by decide⟩,
    ⟨{ benchPd State.reset 1 with power := { (bench State.reset).power with broughtUp := State.reset.ct % 2 = 0 }, cores := [(4, { (default : CoreHw) with selected := 0 })] }, 4, by decide⟩,
    ⟨{ benchPd State.reset 1 with power := { (bench State.reset).power with broughtUp := State.reset.ct % 2 = 0 }, cores := [(4, { (default : CoreHw) with selected := 1 })] }, 4, by decide⟩,
    ⟨{ (((((benchPd State.reset 1).writeWord (descriptor 4) 0x53544152).writeWord (descriptor 4 + 4) 0x20000000).writeWord (descriptor 4 + 8) 8).writeWord (descriptor 4 + 12) 4).writeWord (descriptor 4 + 16) 1 with power := { (bench State.reset).power with broughtUp := State.reset.ct % 2 = 0 }, cores := [(4, { (default : CoreHw) with stage := .loading })] }, 4, by decide⟩,
    ⟨{ (benchPd State.reset 1).writeWord (descriptor 4) 0 with power := { (bench State.reset).power with broughtUp := State.reset.ct % 2 = 0 }, cores := [(4, { (default : CoreHw) with stage := .loading, reloaded := true })] }, 4, by decide⟩,
    ⟨{ (benchPd State.reset 1).writeWord (descriptor 4) 0 with power := { (bench State.reset).power with broughtUp := State.reset.ct % 2 = 0 }, cores := [(4, { (default : CoreHw) with stage := .loading, reloaded := false })] }, 4, by decide⟩⟩

theorem hyps_DmaFlashNvmAndCalibrationCommands :
  (∃ (s : State) (d : Nat), d < 4 ∧ s.on F.SYS_DMASTAT_BUSY d = true) ∧
  (∃ (s : State) (d : Nat), d < 4 ∧ s.on F.SYS_DMASTAT_BUSY d = false) ∧
  (∃ (s : State) (d : Nat) (words : Nat), d < 4 ∧ s.on F.SYS_DMASTAT_BUSY d = true ∧ words = 0
    ∧ s.on F.SYS_DMASTAT_FROZEN d = false) ∧
  (∃ (s : State) (d : Nat) (src : Nat) (dst : Nat), d < 4 ∧ s.on F.SYS_DMASTAT_BUSY d = true
    ∧ s.on F.SYS_DMASTAT_FROZEN d = false ∧ s.fld F.SYS_DMASTAT_REMAIN d = 1 ∧ s.dmaAt d = ⟨src, dst, false⟩
    ∧ 0x20000000 ≤ src ∧ src < 0x20040000 ∧ 0x20000000 ≤ dst ∧ dst < 0x20040000 ∧ s.violates (5 + d) src 4 .load = 0
    ∧ s.violates (5 + d) dst 4 .store = 0 ∧ s.openCopy d 1 = 0) ∧
  (∃ (s : State) (d : Nat) (src : Nat) (dst : Nat), d < 4 ∧ s.on F.SYS_DMASTAT_BUSY d = true
    ∧ s.on F.SYS_DMASTAT_FROZEN d = false ∧ s.fld F.SYS_DMASTAT_REMAIN d ≠ 0 ∧ s.dmaAt d = ⟨src, dst, false⟩
    ∧ s.violates (5 + d) src 4 .load ≠ 0 ∧ s.bit F.MPU_FREEZE_FROZEN 0 (5 + d) = false) ∧
  (∃ (s : State), s.fld F.QSPI_HLEN_VALUE 0 ≠ 0) ∧
  (∃ (s : State), s.fld F.QSPI_HLEN_VALUE 0 = 0) ∧
  (∃ (s : State) (ok : Bool), s.on F.QSPI_STAT_HBUSY 0 = true) ∧
  (∃ (s : State), s.on F.QSPI_STAT_OPBUSY 0 = false
    ∧ s.fld F.QSPI_OPADDR_ADDR 0 / 4096 * 4096 + 4096 ≤ 2 ^ s.fld F.QSPI_STAT_SIZE 0) ∧
  (∃ (s : State), s.on F.QSPI_STAT_OPBUSY 0 = false
    ∧ 2 ^ s.fld F.QSPI_STAT_SIZE 0 < s.fld F.QSPI_OPADDR_ADDR 0 / 4096 * 4096 + 4096) ∧
  (∃ (s : State), s.on F.QSPI_STAT_OPBUSY 0 = false
    ∧ s.fld F.QSPI_OPADDR_ADDR 0 / 65536 * 65536 + 65536 ≤ 2 ^ s.fld F.QSPI_STAT_SIZE 0) ∧
  (∃ (s : State), s.on F.QSPI_STAT_OPBUSY 0 = false
    ∧ 2 ^ s.fld F.QSPI_STAT_SIZE 0 < s.fld F.QSPI_OPADDR_ADDR 0 / 65536 * 65536 + 65536) ∧
  (∃ (s : State), s.on F.QSPI_STAT_OPBUSY 0 = false
    ∧ s.fld F.QSPI_OPADDR_ADDR 0 + s.qspiLen ≤ 2 ^ s.fld F.QSPI_STAT_SIZE 0
    ∧ s.fld F.QSPI_OPADDR_ADDR 0 % 256 + s.qspiLen ≤ 256) ∧
  (∃ (s : State), s.on F.QSPI_STAT_OPBUSY 0 = false
    ∧ ((2 ^ s.fld F.QSPI_STAT_SIZE 0 < s.fld F.QSPI_OPADDR_ADDR 0 + s.qspiLen ∨ 256 < s.fld F.QSPI_OPADDR_ADDR 0 % 256 + s.qspiLen))) ∧
  (∃ (s : State) (good : Bool), s.on F.QSPI_STAT_OPBUSY 0 = true ∧ s.hw.qspi.addr + s.hw.qspi.len ≤ 2 ^ 26) ∧
  (∃ (s : State), s.on F.CAL_NVMSTAT_BUSY 0 = false ∧ s.on F.CAL_STAT_COMMIT 0 = false ∧ 16 ≤ s.fld F.CAL_NVMADDR_ROW 0) ∧
  (∃ (s : State), s.on F.CAL_NVMSTAT_BUSY 0 = false ∧ s.on F.CAL_STAT_COMMIT 0 = false ∧ s.fld F.CAL_NVMADDR_ROW 0 < 16) ∧
  (∃ (s : State), s.on F.CAL_NVMSTAT_BUSY 0 = false ∧ s.on F.CAL_STAT_COMMIT 0 = false ∧ 16 ≤ s.fld F.CAL_NVMADDR_ROW 0) ∧
  (∃ (s : State), s.on F.CAL_NVMSTAT_BUSY 0 = false ∧ s.on F.CAL_STAT_COMMIT 0 = false ∧ s.fld F.CAL_NVMADDR_ROW 0 < 16) ∧
  (∃ (s : State) (good : Bool), s.on F.CAL_NVMSTAT_BUSY 0 = true ∧ 16 ≤ s.hw.nvm.row ∧ s.hw.nvm.row < 2048) ∧
  (∃ (s : State) (good : Bool), s.on F.CAL_STAT_COMMIT 0 = true) :=
  ⟨⟨State.reset.put F.SYS_DMASTAT_BUSY 3 true, 3, by decide⟩,
    ⟨State.reset.put F.SYS_DMASTAT_BUSY 3 false, 3, by decide⟩,
    ⟨State.reset.put F.SYS_DMASTAT_BUSY 3 true |>.put F.SYS_DMASTAT_FROZEN 3 false, 3, 0, by decide⟩,
    ⟨((((((bench State.reset).writeBytes 0x20000100 [1, 2, 3, State.reset.ct % 256]).setFld F.MPU_WBASE_BASE (16 * (5 + 3)) 0x20000 |>.setFld F.MPU_WLIMIT_LIMIT (16 * (5 + 3)) 0x2003F).put F.MPU_WATTR_EN (16 * (5 + 3)) true |>.put F.MPU_WATTR_R (16 * (5 + 3)) true).put F.MPU_WATTR_W (16 * (5 + 3)) true).put F.SYS_DMASTAT_BUSY 3 true |>.put F.SYS_DMASTAT_FROZEN 3 false |>.setFld F.SYS_DMASTAT_REMAIN 3 1 |>.updHw (fun h => { h with dma := [(3, ⟨0x20000100, 0x2003FFFC, false⟩)] })), 3, 0x20000100, 0x2003FFFC, by decide⟩,
    ⟨(((bench State.reset).setFld F.MPU_FREEZE_FROZEN 0 0).put F.SYS_DMASTAT_BUSY 3 true |>.put F.SYS_DMASTAT_FROZEN 3 false |>.setFld F.SYS_DMASTAT_REMAIN 3 1 |>.updHw (fun h => { h with dma := [(3, ⟨1, 0x20000000, false⟩)] })), 3, 1, 0x20000000, by decide⟩,
    ⟨State.reset.setFld F.QSPI_HLEN_VALUE 0 256, by decide⟩,
    ⟨State.reset.setFld F.QSPI_HLEN_VALUE 0 0, by decide⟩,
    ⟨State.reset.put F.QSPI_STAT_HBUSY 0 true |>.setFld F.QSPI_HLEN_VALUE 0 16, true, by decide⟩,
    ⟨State.reset.put F.QSPI_STAT_OPBUSY 0 false |>.setFld F.QSPI_STAT_SIZE 0 21 |>.setFld F.QSPI_OPADDR_ADDR 0 0x100123, by decide⟩,
    ⟨State.reset.put F.QSPI_STAT_OPBUSY 0 false |>.setFld F.QSPI_STAT_SIZE 0 20 |>.setFld F.QSPI_OPADDR_ADDR 0 0x100123, by decide⟩,
    ⟨State.reset.put F.QSPI_STAT_OPBUSY 0 false |>.setFld F.QSPI_STAT_SIZE 0 21 |>.setFld F.QSPI_OPADDR_ADDR 0 0x100123, by decide⟩,
    ⟨State.reset.put F.QSPI_STAT_OPBUSY 0 false |>.setFld F.QSPI_STAT_SIZE 0 20 |>.setFld F.QSPI_OPADDR_ADDR 0 0x100123, by decide⟩,
    ⟨State.reset.put F.QSPI_STAT_OPBUSY 0 false |>.setFld F.QSPI_STAT_SIZE 0 20 |>.setFld F.QSPI_OPADDR_ADDR 0 (State.reset.free % 300) |>.setFld F.QSPI_OPCTL_LEN 0 9, by decide⟩,
    ⟨State.reset.put F.QSPI_STAT_OPBUSY 0 false |>.setFld F.QSPI_STAT_SIZE 0 20 |>.setFld F.QSPI_OPADDR_ADDR 0 250 |>.setFld F.QSPI_OPCTL_LEN 0 9, by decide⟩,
    ⟨((State.reset.writeBytes 0x30001000 [1, 2, 3, 4, 5]).put F.QSPI_STAT_OPBUSY 0 true |>.setFld F.QSPI_PBUF_DATA 0 0x12345678 |>.updHw (fun h => { h with qspi := ⟨0, 0, 1 + State.reset.free % 3, 0x1000, if State.reset.free % 3 = 2 then 6 else 4096⟩ })), true, by decide⟩,
    ⟨State.reset.put F.CAL_NVMSTAT_BUSY 0 false |>.put F.CAL_STAT_COMMIT 0 false |>.setFld F.CAL_NVMADDR_ROW 0 16, by decide⟩,
    ⟨State.reset.put F.CAL_NVMSTAT_BUSY 0 false |>.put F.CAL_STAT_COMMIT 0 false |>.setFld F.CAL_NVMADDR_ROW 0 15, by decide⟩,
    ⟨State.reset.put F.CAL_NVMSTAT_BUSY 0 false |>.put F.CAL_STAT_COMMIT 0 false |>.setFld F.CAL_NVMADDR_ROW 0 16, by decide⟩,
    ⟨State.reset.put F.CAL_NVMSTAT_BUSY 0 false |>.put F.CAL_STAT_COMMIT 0 false |>.setFld F.CAL_NVMADDR_ROW 0 15, by decide⟩,
    ⟨((State.reset.writeBytes 0x08002000 [1, 2, 3, 4, 5]).put F.CAL_NVMSTAT_BUSY 0 true |>.setFld F.CAL_NVMBUF_DATA 0 0x12345678 |>.updHw (fun h => { h with nvm := ⟨1 + State.reset.free % 2, 32, if State.reset.ct % 3 = 0 then [32] else []⟩ })), true, by decide⟩,
    ⟨(State.reset.put F.CAL_STAT_COMMIT 0 true).updHw (fun h => { h with cal := { h.cal with commit := (List.range 1200).map (fun j => j % 256) } }), true, by decide⟩⟩

set_option maxRecDepth 4000 in
theorem hyps_MailboxChannelCommands :
  (∃ (s : State) (b : List Nat), s.targetOn 0 = true ∧ 16 ≤ b.length ∧ b.length = 16 + rawLen b
    ∧ (s.mbx.at 0).frames.length < 4) ∧
  (∃ (s : State) (b : List Nat), s.targetOn 0 = true ∧ 16 ≤ b.length ∧ b.length = 16 + rawLen b
    ∧ 4 ≤ (s.mbx.at 0).frames.length) ∧
  (∃ (s : State) (b : List Nat), s.targetOn 0 = true ∧ ((b.length < 16 ∨ b.length ≠ 16 + rawLen b))) ∧
  (∃ (s : State) (b : List Nat), s.targetOn 1 = true ∧ 16 ≤ b.length ∧ b.length = 16 + rawLen b
    ∧ (s.mbx.at 1).frames.length < 4) ∧
  (∃ (s : State) (b : List Nat), s.targetOn 1 = true ∧ 16 ≤ b.length ∧ b.length = 16 + rawLen b
    ∧ 4 ≤ (s.mbx.at 1).frames.length) ∧
  (∃ (s : State) (b : List Nat), s.targetOn 1 = true ∧ ((b.length < 16 ∨ b.length ≠ 16 + rawLen b))) ∧
  (∃ (s : State), s.targetOn 0 = true) ∧
  (∃ (s : State), s.targetOn 1 = true) ∧
  (∃ (s : State) (n : Nat), s.targetOn 0 = true ∧ (s.mbx.at 0).responses = []) ∧
  (∃ (s : State) (n : Nat) (f : Frame) (rest : List Frame), s.targetOn 0 = true ∧ (s.mbx.at 0).responses = f :: rest
    ∧ f.bytes.length ≤ n ∧ (s.mbx.at 0).finished = [] ∧ rest.length ≤ 4) ∧
  (∃ (s : State) (n : Nat) (f : Frame) (rest : List Frame), s.targetOn 0 = true ∧ (s.mbx.at 0).responses = f :: rest
    ∧ n < f.bytes.length) ∧
  (∃ (s : State) (n : Nat), s.targetOn 1 = true ∧ (s.mbx.at 1).responses = []) ∧
  (∃ (s : State) (n : Nat) (f : Frame) (rest : List Frame), s.targetOn 1 = true ∧ (s.mbx.at 1).responses = f :: rest
    ∧ f.bytes.length ≤ n ∧ (s.mbx.at 1).finished = [] ∧ rest.length ≤ 4) ∧
  (∃ (s : State) (n : Nat) (f : Frame) (rest : List Frame), s.targetOn 1 = true ∧ (s.mbx.at 1).responses = f :: rest
    ∧ n < f.bytes.length) ∧
  (∃ (s : State) (op : Nat), s.targetOn 0 = true ∧ op ≠ 1 ∧ op ≠ 3 ∧ op ≠ 5) ∧
  (∃ (s : State) (c : Nat), 1 ≤ c ∧ c ≤ 4 ∧ s.on F.MBX_LCTL_BUSY c = false ∧ s.on F.MBX_LCTL_RSPREADY c = false) ∧
  (∃ (s : State) (c : Nat), 1 ≤ c ∧ c ≤ 4 ∧ ((s.on F.MBX_LCTL_BUSY c = true ∨ s.on F.MBX_LCTL_RSPREADY c = true))) ∧
  (∃ (s : State) (c : Nat), 1 ≤ c ∧ c ≤ 4) ∧
  (∃ (s : State) (ch : Nat) (b : List Nat) (rest : List (List Nat)), s.chExists ch = true ∧ s.mailboxOn = true
    ∧ ((s.firmware = true ∨ s.romTakes ch = true)) ∧ s.power.resetPending = none ∧ (s.mbx.at ch).running = none
    ∧ s.roomToAnswer ch = true ∧ s.queued ch = b :: rest ∧ rawLen b ≤ 1024 ∧ crcGood b = true
    ∧ (2 < ch ∨ s.apex = false ∨ (Frame.parse b).isSelf = true ∨ (Frame.parse b).mode = 3 ∨ ((Frame.parse b).target = 0
    ∧ (Frame.parse b).mode = 0)) ∧ s.frameFault ch (Frame.parse b) = 0
    ∧ s.portsTaken ch (framePorts (Frame.parse b)) = false) ∧
  (∃ (s : State) (ch : Nat) (b : List Nat) (rest : List (List Nat)), s.chExists ch = true ∧ s.mailboxOn = true
    ∧ ((s.firmware = true ∨ s.romTakes ch = true)) ∧ s.power.resetPending = none ∧ (s.mbx.at ch).running = none
    ∧ s.roomToAnswer ch = true ∧ s.queued ch = b :: rest ∧ rawLen b ≤ 1024 ∧ crcGood b = true
    ∧ (2 < ch ∨ s.apex = false ∨ (Frame.parse b).isSelf = true ∨ (Frame.parse b).mode = 3 ∨ ((Frame.parse b).target = 0
    ∧ (Frame.parse b).mode = 0)) ∧ s.frameFault ch (Frame.parse b) ≠ 0 ∧ ch ≤ 1) ∧
  (∃ (s : State) (ch : Nat) (b : List Nat) (rest : List (List Nat)), s.chExists ch = true ∧ s.mailboxOn = true
    ∧ ((s.firmware = true ∨ s.romTakes ch = true)) ∧ s.power.resetPending = none ∧ (s.mbx.at ch).running = none
    ∧ s.roomToAnswer ch = true ∧ s.queued ch = b :: rest ∧ 1024 < rawLen b ∧ ch ≤ 1) ∧
  (∃ (s : State) (ch : Nat) (b : List Nat) (rest : List (List Nat)), s.chExists ch = true ∧ s.mailboxOn = true
    ∧ ((s.firmware = true ∨ s.romTakes ch = true)) ∧ s.power.resetPending = none ∧ (s.mbx.at ch).running = none
    ∧ s.roomToAnswer ch = true ∧ s.queued ch = b :: rest ∧ rawLen b ≤ 1024 ∧ crcGood b = false) ∧
  (∃ (s : State) (ch : Nat) (b : List Nat) (rest : List (List Nat)), s.chExists ch = true ∧ s.mailboxOn = true
    ∧ ((s.firmware = true ∨ s.romTakes ch = true)) ∧ s.power.resetPending = none ∧ (s.mbx.at ch).running = none
    ∧ s.roomToAnswer ch = true ∧ s.queued ch = b :: rest ∧ rawLen b ≤ 1024 ∧ crcGood b = true
    ∧ (2 < ch ∨ s.apex = false ∨ (Frame.parse b).isSelf = true ∨ (Frame.parse b).mode = 3 ∨ ((Frame.parse b).target = 0
    ∧ (Frame.parse b).mode = 0)) ∧ s.frameFault ch (Frame.parse b) = 0 ∧ framePorts (Frame.parse b) ≠ []
    ∧ s.portsTaken ch (framePorts (Frame.parse b)) = false) ∧
  (∃ (s : State) (ch : Nat) (b : List Nat) (rest : List (List Nat)), s.chExists ch = true ∧ s.mailboxOn = true
    ∧ ((s.firmware = true ∨ s.romTakes ch = true)) ∧ s.power.resetPending = none ∧ (s.mbx.at ch).running = none
    ∧ s.roomToAnswer ch = true ∧ s.queued ch = b :: rest ∧ rawLen b ≤ 1024 ∧ crcGood b = true
    ∧ (2 < ch ∨ s.apex = false ∨ (Frame.parse b).isSelf = true ∨ (Frame.parse b).mode = 3 ∨ ((Frame.parse b).target = 0
    ∧ (Frame.parse b).mode = 0)) ∧ s.frameFault ch (Frame.parse b) = 0 ∧ framePorts (Frame.parse b) ≠ []
    ∧ s.portsTaken ch (framePorts (Frame.parse b)) = true) :=
  ⟨⟨{ (bench State.reset).put F.TGT_STAT_ACTIVE 1 false with mbx := [(0, { (default : Channel) with frames := List.replicate (State.reset.ct % 4) [1], responses := List.replicate (State.reset.free % 5) ⟨1, 2, 1, 0, 0, 0, []⟩ })] }, [1,1,2,0,0,0,0,0,0,0,0,0,0,0,5,6], by decide⟩,
    ⟨{ (bench State.reset).put F.TGT_STAT_ACTIVE 1 false with mbx := [(0, { (default : Channel) with frames := List.replicate 4 [1], responses := List.replicate (State.reset.free % 5) ⟨1, 2, 1, 0, 0, 0, []⟩ })] }, [1,1,2,0,0,0,0,0,0,0,0,0,0,0,5,6], by decide⟩,
    ⟨{ (bench State.reset).put F.TGT_STAT_ACTIVE 1 false with mbx := [(0, { (default : Channel) with frames := List.replicate (State.reset.ct % 5) [1], responses := List.replicate (State.reset.free % 5) ⟨1, 2, 1, 0, 0, 0, []⟩ })] }, [1,1], by decide⟩,
    ⟨{ (bench State.reset).put F.TGT_STAT_ACTIVE 1 true with mbx := [(1, { (default : Channel) with frames := List.replicate (State.reset.ct % 4) [1], responses := List.replicate (State.reset.free % 5) ⟨1, 2, 1, 0, 0, 0, []⟩ })] }, [1,1,2,0,0,0,0,0,0,0,0,0,0,0,5,6], by decide⟩,
    ⟨{ (bench State.reset).put F.TGT_STAT_ACTIVE 1 true with mbx := [(1, { (default : Channel) with frames := List.replicate 4 [1], responses := List.replicate (State.reset.free % 5) ⟨1, 2, 1, 0, 0, 0, []⟩ })] }, [1,1,2,0,0,0,0,0,0,0,0,0,0,0,5,6], by decide⟩,
    ⟨{ (bench State.reset).put F.TGT_STAT_ACTIVE 1 true with mbx := [(1, { (default : Channel) with frames := List.replicate (State.reset.ct % 5) [1], responses := List.replicate (State.reset.free % 5) ⟨1, 2, 1, 0, 0, 0, []⟩ })] }, [1,1], by decide⟩,
    ⟨{ (bench State.reset).put F.TGT_STAT_ACTIVE 1 false with mbx := [(0, { (default : Channel) with frames := List.replicate (State.reset.ct % 5) [1], responses := List.replicate (State.reset.free % 5) ⟨1, 2, 1, 0, 0, 0, [7, 8]⟩ })] }, by decide⟩,
    ⟨{ (bench State.reset).put F.TGT_STAT_ACTIVE 1 true with mbx := [(1, { (default : Channel) with frames := List.replicate (State.reset.ct % 5) [1], responses := List.replicate (State.reset.free % 5) ⟨1, 2, 1, 0, 0, 0, [7, 8]⟩ })] }, by decide⟩,
    ⟨{ (bench State.reset).put F.TGT_STAT_ACTIVE 1 false with mbx := [(0, { (default : Channel) with responses := [] })] }, 18, by decide⟩,
    ⟨{ (bench State.reset).put F.TGT_STAT_ACTIVE 1 false with mbx := [(0, { (default : Channel) with responses := (⟨1, 2, 1, 0, 0, 0, [7, 8]⟩) :: [] })] }, 18, ⟨1, 2, 1, 0, 0, 0, [7, 8]⟩, [], by decide⟩,
    ⟨{ (bench State.reset).put F.TGT_STAT_ACTIVE 1 false with mbx := [(0, { (default : Channel) with responses := (⟨1, 2, 1, 0, 0, 0, [7, 8]⟩) :: [] })] }, 17, ⟨1, 2, 1, 0, 0, 0, [7, 8]⟩, [], by decide⟩,
    ⟨{ (bench State.reset).put F.TGT_STAT_ACTIVE 1 true with mbx := [(1, { (default : Channel) with responses := [] })] }, 18, by decide⟩,
    ⟨{ (bench State.reset).put F.TGT_STAT_ACTIVE 1 true with mbx := [(1, { (default : Channel) with responses := (⟨1, 2, 1, 0, 0, 0, [7, 8]⟩) :: [] })] }, 18, ⟨1, 2, 1, 0, 0, 0, [7, 8]⟩, [], by decide⟩,
    ⟨{ (bench State.reset).put F.TGT_STAT_ACTIVE 1 true with mbx := [(1, { (default : Channel) with responses := (⟨1, 2, 1, 0, 0, 0, [7, 8]⟩) :: [] })] }, 17, ⟨1, 2, 1, 0, 0, 0, [7, 8]⟩, [], by decide⟩,
    ⟨(bench State.reset).put F.TGT_STAT_ACTIVE 1 false, 0, by decide⟩,
    ⟨((bench State.reset).setFld F.MBX_LREQ_OFFSET 4 64 |>.put F.MBX_LCTL_BUSY 4 false |>.put F.MBX_LCTL_RSPREADY 4 false).writeBytes (tcmAddr 4 256) [1, 1, 2, 0, State.reset.ct % 8, 0, 0, 0, 0, 0, 0, 0, 0, 0, 5, 6, 7, 8], 4, by decide⟩,
    ⟨(bench State.reset).put F.MBX_LCTL_BUSY 4 (State.reset.ct % 3 = 0) |>.put F.MBX_LCTL_RSPREADY 4 (State.reset.ct % 2 = 1), 4, by decide⟩,
    ⟨State.reset.put F.MBX_LCTL_RSPREADY 4 true, 4, by decide⟩,
    ⟨{ (bench State.reset).put F.TGT_STAT_ACTIVE 1 false with mf := [], mbx := [(0, { (default : Channel) with frames := [(⟨0x0101,5,16,0,0,0,[]⟩:Frame).bytes] })] }, 0, (⟨0x0101,5,16,0,0,0,[]⟩:Frame).bytes, [], by decide +kernel⟩,
    ⟨{ (bench State.reset).put F.TGT_STAT_ACTIVE 1 false with mf := [], mbx := [(0, { (default : Channel) with frames := [(⟨0x0999,5,16,0,0,0,[]⟩:Frame).bytes] })] }, 0, (⟨0x0999,5,16,0,0,0,[]⟩:Frame).bytes, [], by decide +kernel⟩,
    ⟨{ (bench State.reset).put F.TGT_STAT_ACTIVE 1 false with mf := [], mbx := [(0, { (default : Channel) with frames := [[1,1,2,0,1,8,0,0,0,0,0,0,0,0,5,6,7]] })] }, 0, [1,1,2,0,1,8,0,0,0,0,0,0,0,0,5,6,7], [], by decide +kernel⟩,
    ⟨{ (bench State.reset).put F.TGT_STAT_ACTIVE 1 false with mf := [], mbx := [(0, { (default : Channel) with frames := [[1,1,2,0,1,0,0,0,0,0,0,0,0,0,5,6,7]] })] }, 0, [1,1,2,0,1,0,0,0,0,0,0,0,0,0,5,6,7], [], by decide +kernel⟩,
    ⟨{ (bench State.reset).put F.TGT_STAT_ACTIVE 1 false with mf := [], mbx := [(0, { (default : Channel) with frames := [(⟨0x0201,5,16,0,0,0,[4,0,0,0]⟩:Frame).bytes] }), (6, { (default : Channel) with ports := [2] })] }, 0, (⟨0x0201,5,16,0,0,0,[4,0,0,0]⟩:Frame).bytes, [], by decide⟩,
    ⟨{ (bench State.reset).put F.TGT_STAT_ACTIVE 1 false with mf := [], mbx := [(0, { (default : Channel) with frames := [(⟨0x0201,5,16,0,0,0,[4,0,0,0]⟩:Frame).bytes] }), (6, { (default : Channel) with ports := [3] })] }, 0, (⟨0x0201,5,16,0,0,0,[4,0,0,0]⟩:Frame).bytes, [], by decide⟩⟩

theorem hyps_SystemMailboxCommands :
  (∃ (s : State) (ch : Nat) (f : Frame), (s.mbx.at ch).running = some f ∧ f.code = 0x0101) ∧
  (∃ (s : State) (ch : Nat) (f : Frame), (s.mbx.at ch).running = some f ∧ f.code = 0x0102 ∧ f.opt % 2 = 1) ∧
  (∃ (s : State) (ch : Nat) (f : Frame), (s.mbx.at ch).running = some f ∧ f.code = 0x0102 ∧ f.opt % 2 = 0) ∧
  (∃ (s : State) (ch : Nat) (f : Frame), (s.mbx.at ch).running = some f ∧ f.code = 0x0103
    ∧ ofLe (f.payload.take 6) ≤ s.power.rtcCount) ∧
  (∃ (s : State) (ch : Nat) (f : Frame), (s.mbx.at ch).running = some f ∧ f.code = 0x0103
    ∧ s.power.rtcCount < ofLe (f.payload.take 6) ∧ s.power.dormancy ≠ .awake) ∧
  (∃ (s : State) (ch : Nat) (f : Frame), (s.mbx.at ch).running = some f ∧ f.code = 0x0103
    ∧ s.power.rtcCount < ofLe (f.payload.take 6) ∧ s.power.dormancy = .awake ∧ s.on F.RTC_STATUS_RTC_VALID 0 = false
    ∧ (byteAt f.payload 6).testBit 0 = false) ∧
  (∃ (s : State) (ch : Nat) (f : Frame) (wake : Nat), (s.mbx.at ch).running = some f ∧ f.code = 0x0103
    ∧ ofLe (f.payload.take 6) = wake ∧ s.power.rtcCount < wake ∧ s.power.dormancy = .awake
    ∧ (s.on F.RTC_STATUS_RTC_VALID 0 = true ∨ (byteAt f.payload 6).testBit 0 = true)) ∧
  (∃ (s : State) (ch : Nat) (f : Frame) (on off : Nat), (s.mbx.at ch).running = some f ∧ f.code = 0x0104
    ∧ half f.payload 0 = on ∧ half f.payload 2 = off ∧ Nat.lor on off % 4 = 0 ∧ Nat.lor on off < 2048
    ∧ Nat.land on off = 0 ∧ ((s.on F.PMU_RAILSTAT_DB_ACTIVE 0 = false ∨ Nat.lor on off < 8))) ∧
  (∃ (s : State) (ch : Nat) (f : Frame) (on off : Nat), (s.mbx.at ch).running = some f ∧ f.code = 0x0104
    ∧ half f.payload 0 = on ∧ half f.payload 2 = off
    ∧ ((Nat.lor on off % 4 ≠ 0 ∨ 2048 ≤ Nat.lor on off ∨ Nat.land on off ≠ 0))) ∧
  (∃ (s : State) (ch : Nat) (f : Frame) (on off : Nat), (s.mbx.at ch).running = some f ∧ f.code = 0x0104
    ∧ half f.payload 0 = on ∧ half f.payload 2 = off ∧ Nat.lor on off % 4 = 0 ∧ Nat.lor on off < 2048
    ∧ Nat.land on off = 0 ∧ s.on F.PMU_RAILSTAT_DB_ACTIVE 0 = true ∧ 8 ≤ Nat.lor on off) ∧
  (∃ (s : State) (ch : Nat) (f : Frame) (k m : Nat), (s.mbx.at ch).running = some f ∧ f.code = 0x0105
    ∧ byteAt f.payload 0 = k ∧ byteAt f.payload 1 = m ∧ s.hasUpstream k = true ∧ ch < 3 ∧ s.needs Dom.fabric = true
    ∧ byteAt f.payload 3 < 16 ∧ byteAt f.payload 4 < 4 ∧ byteAt f.payload 5 < 128) ∧
  (∃ (s : State) (ch : Nat) (f : Frame) (k j : Nat), (s.mbx.at ch).running = some f ∧ f.code = 0x0105
    ∧ byteAt f.payload 0 = k ∧ s.hasUpstream k = true ∧ ch = 2 + j ∧ 1 ≤ j ∧ j ≤ 3 ∧ ((k ≠ j ∨ byteAt f.payload 1 ≠ 0))) ∧
  (∃ (s : State) (ch : Nat) (f : Frame), (s.mbx.at ch).running = some f ∧ f.code = 0x0106
    ∧ ((byteAt f.payload 0 < 128 ∨ byteAt f.payload 0 = 0xFF)) ∧ byteAt f.payload 1 ≤ 32) ∧
  (∃ (s : State) (ch : Nat) (f : Frame), (s.mbx.at ch).running = some f ∧ f.code = 0x0106 ∧ (((128 ≤ byteAt f.payload 0
    ∧ byteAt f.payload 0 ≠ 0xFF) ∨ 32 < byteAt f.payload 1))) ∧
  (∃ (s : State) (ch : Nat) (f : Frame) (m : Nat), (s.mbx.at ch).running = some f ∧ f.code = 0x0107
    ∧ byteAt f.payload 0 = m ∧ 1 ≤ m ∧ m ≤ 10 ∧ s.bit F.MPU_FREEZE_FROZEN 0 m = true ∧ s.freezeHeld m = false) ∧
  (∃ (s : State) (ch : Nat) (f : Frame) (m : Nat), (s.mbx.at ch).running = some f ∧ f.code = 0x0107
    ∧ byteAt f.payload 0 = m ∧ ((m = 0 ∨ 10 < m))) ∧
  (∃ (s : State) (ch : Nat) (f : Frame) (m : Nat), (s.mbx.at ch).running = some f ∧ f.code = 0x0107
    ∧ byteAt f.payload 0 = m ∧ 1 ≤ m ∧ m ≤ 10 ∧ ((s.bit F.MPU_FREEZE_FROZEN 0 m = false ∨ s.freezeHeld m = true))) :=
  ⟨⟨benchMbx State.reset 1 ((mbxFrame 0x0101 0 [])), 1, (mbxFrame 0x0101 0 []), by decide⟩,
    ⟨benchMbx State.reset 1 ((mbxFrame 0x0102 1 [])), 1, (mbxFrame 0x0102 1 []), by decide⟩,
    ⟨benchMbx State.reset 1 ((mbxFrame 0x0102 0 [])), 1, (mbxFrame 0x0102 0 []), by decide⟩,
    ⟨benchMbx State.reset 1 ((mbxFrame 0x0103 0 [0,0,0,0,0,0,0])), 1, (mbxFrame 0x0103 0 [0,0,0,0,0,0,0]), by decide⟩,
    ⟨({ (benchMbx State.reset 1 ((mbxFrame 0x0103 0 [1,0,0,0,0,0,0]))) with power := { (benchMbx State.reset 1 ((mbxFrame 0x0103 0 [1,0,0,0,0,0,0]))).power with dormancy := .entering } }), 1, (mbxFrame 0x0103 0 [1,0,0,0,0,0,0]), by decide⟩,
    ⟨((benchMbx State.reset 1 ((mbxFrame 0x0103 0 [1,0,0,0,0,0,0]))).put F.RTC_STATUS_RTC_VALID 0 false), 1, (mbxFrame 0x0103 0 [1,0,0,0,0,0,0]), by decide⟩,
    ⟨benchMbx State.reset 1 ((mbxFrame 0x0103 0 [0,0,0,0,0,1,1])), 1, (mbxFrame 0x0103 0 [0,0,0,0,0,1,1]), (256^5), by decide⟩,
    ⟨((benchMbx State.reset 1 ((mbxFrame 0x0104 0 [4,0,8,0]))).put F.PMU_RAILSTAT_DB_ACTIVE 0 false), 1, (mbxFrame 0x0104 0 [4,0,8,0]), 4, 8, by decide⟩,
    ⟨benchMbx State.reset 1 ((mbxFrame 0x0104 0 [4,0,4,0])), 1, (mbxFrame 0x0104 0 [4,0,4,0]), 4, 4, by decide⟩,
    ⟨((benchMbx State.reset 1 ((mbxFrame 0x0104 0 [4,0,8,0]))).put F.PMU_RAILSTAT_DB_ACTIVE 0 true), 1, (mbxFrame 0x0104 0 [4,0,8,0]), 4, 8, by decide⟩,
    ⟨({ (benchMbx State.reset 1 ((mbxFrame 0x0105 0 [0,0x3F,9,5,2,127]))) with staged := [] }), 1, (mbxFrame 0x0105 0 [0,0x3F,9,5,2,127]), 0, 0x3F, by decide⟩,
    ⟨benchMbx State.reset 3 ((mbxFrame 0x0105 0 [0,1,0,0,0,0])), 3, (mbxFrame 0x0105 0 [0,1,0,0,0,0]), 0, 1, by decide⟩,
    ⟨benchMbx State.reset 1 ((mbxFrame 0x0106 0 [255,2])), 1, (mbxFrame 0x0106 0 [255,2]), by decide⟩,
    ⟨benchMbx State.reset 1 ((mbxFrame 0x0106 0 [255,33])), 1, (mbxFrame 0x0106 0 [255,33]), by decide⟩,
    ⟨({ (benchMbx State.reset 1 ((mbxFrame 0x0107 0 [9]))) with fc := default } |>.setFld F.MPU_FREEZE_FROZEN 0 (2 ^ 9)), 1, (mbxFrame 0x0107 0 [9]), 9, by decide⟩,
    ⟨benchMbx State.reset 1 ((mbxFrame 0x0107 0 [0])), 1, (mbxFrame 0x0107 0 [0]), 0, by decide⟩,
    ⟨((benchMbx State.reset 1 ((mbxFrame 0x0107 0 [9]))).setFld F.MPU_FREEZE_FROZEN 0 0), 1, (mbxFrame 0x0107 0 [9]), 9, by decide⟩⟩

theorem hyps_FirmwareAndConfigurationMailboxCommands :
  (∃ (s : State) (ch : Nat) (good : Bool) (f : Frame) (r n : Nat), (s.mbx.at ch).running = some f ∧ f.code = 0x0108
    ∧ f.opt % 4 = 0 ∧ byteAt f.payload 0 = r ∧ word32 f.payload 4 = n ∧ r ≤ 5 ∧ n ≤ (fwRegion r).2
    ∧ s.hw.session.any (fun (y : FwSession) => y.chan != ch) = false ∧ good = true) ∧
  (∃ (s : State) (ch : Nat) (good : Bool) (f : Frame) (r n : Nat), (s.mbx.at ch).running = some f ∧ f.code = 0x0108
    ∧ f.opt % 4 = 0 ∧ byteAt f.payload 0 = r ∧ word32 f.payload 4 = n ∧ r ≤ 5 ∧ n ≤ (fwRegion r).2
    ∧ s.hw.session.any (fun (y : FwSession) => y.chan != ch) = false ∧ good = false) ∧
  (∃ (s : State) (ch : Nat) (good : Bool) (f : Frame) (r n : Nat), (s.mbx.at ch).running = some f ∧ f.code = 0x0108
    ∧ f.opt % 4 = 0 ∧ byteAt f.payload 0 = r ∧ word32 f.payload 4 = n ∧ r ≤ 5 ∧ n ≤ (fwRegion r).2
    ∧ s.hw.session.any (fun (y : FwSession) => y.chan != ch) = true) ∧
  (∃ (s : State) (ch : Nat) (good : Bool) (f : Frame) (r n : Nat), (s.mbx.at ch).running = some f ∧ f.code = 0x0108
    ∧ f.opt % 4 = 0 ∧ byteAt f.payload 0 = r ∧ word32 f.payload 4 = n ∧ ((5 < r ∨ (fwRegion r).2 < n))) ∧
  (∃ (s : State) (ch : Nat) (good : Bool) (f : Frame) (x : FwSession), (s.mbx.at ch).running = some f ∧ f.code = 0x0108
    ∧ f.opt % 4 = 1 ∧ s.hw.session = some x ∧ x.chan = ch ∧ word32 f.payload 0 = x.written
    ∧ x.written + (f.payload.drop 4).length ≤ x.size
    ∧ (∀ j ∈ List.range (f.payload.drop 4).length, s.byte (flashAddr ((fwRegion x.region).1 + x.written) + j) = 0xFF)
    ∧ good = true) ∧
  (∃ (s : State) (ch : Nat) (good : Bool) (f : Frame) (x : FwSession), (s.mbx.at ch).running = some f ∧ f.code = 0x0108
    ∧ f.opt % 4 = 1 ∧ s.hw.session = some x ∧ x.chan = ch ∧ word32 f.payload 0 = x.written
    ∧ x.written + (f.payload.drop 4).length ≤ x.size ∧ good = false) ∧
  (∃ (s : State) (ch : Nat) (good : Bool) (f : Frame) (x : FwSession), (s.mbx.at ch).running = some f ∧ f.code = 0x0108
    ∧ f.opt % 4 = 1 ∧ s.hw.session = some x ∧ x.chan = ch
    ∧ ((word32 f.payload 0 ≠ x.written ∨ x.size < x.written + (f.payload.drop 4).length))) ∧
  (∃ (s : State) (ch : Nat) (good : Bool) (f : Frame), (s.mbx.at ch).running = some f ∧ f.code = 0x0108 ∧ f.opt % 4 = 1
    ∧ s.hw.session.any (fun x => x.chan == ch) = false) ∧
  (∃ (s : State) (ch : Nat) (ok : Bool) (f : Frame) (x : FwSession), (s.mbx.at ch).running = some f ∧ f.code = 0x0108
    ∧ f.opt % 4 = 2 ∧ s.hw.session = some x ∧ x.chan = ch) ∧
  (∃ (s : State) (ch : Nat) (ok : Bool) (f : Frame), (s.mbx.at ch).running = some f ∧ f.code = 0x0108 ∧ f.opt % 4 = 2
    ∧ s.hw.session.any (fun x => x.chan == ch) = false) ∧
  (∃ (s : State) (ch : Nat) (f : Frame), (s.mbx.at ch).running = some f ∧ f.code = 0x0108 ∧ f.opt % 4 = 3
    ∧ s.hw.session = none) ∧
  (∃ (s : State) (ch : Nat) (f : Frame) (x : FwSession), (s.mbx.at ch).running = some f ∧ f.code = 0x0108 ∧ f.opt % 4 = 3
    ∧ s.hw.session = some x) ∧
  (∃ (s : State) (ch : Nat) (good : Bool) (f : Frame) (areas : Nat), (s.mbx.at ch).running = some f ∧ f.code = 0x0109
    ∧ word32 f.payload 0 = areas ∧ areas < 1024 ∧ s.on F.CAL_STAT_COMMIT 0 = false ∧ (s.mbx.at ch).stage ≠ 1 ∧ good = true) ∧
  (∃ (s : State) (ch : Nat) (good : Bool) (f : Frame) (areas : Nat), (s.mbx.at ch).running = some f ∧ f.code = 0x0109
    ∧ word32 f.payload 0 = areas ∧ areas < 1024 ∧ s.on F.CAL_STAT_COMMIT 0 = false ∧ (s.mbx.at ch).stage ≠ 1 ∧ good = false) ∧
  (∃ (s : State) (ch : Nat) (good : Bool) (f : Frame) (areas : Nat), (s.mbx.at ch).running = some f ∧ f.code = 0x0109
    ∧ word32 f.payload 0 = areas ∧ areas < 1024 ∧ ((s.on F.CAL_STAT_COMMIT 0 = true ∨ (s.mbx.at ch).stage = 1))) ∧
  (∃ (s : State) (ch : Nat) (good : Bool) (f : Frame) (areas : Nat), (s.mbx.at ch).running = some f ∧ f.code = 0x0109
    ∧ word32 f.payload 0 = areas ∧ 1024 ≤ areas) :=
  ⟨⟨((benchMbx State.reset 1 ((mbxFrame 0x0108 0 [5,0,0,0,0,0,8,0]))).setSession (if (benchMbx State.reset 1 ((mbxFrame 0x0108 0 [5,0,0,0,0,0,8,0]))).ct % 2 = 0 then none else some (FwSession.mk 1 1 10 0))), 1, true, (mbxFrame 0x0108 0 [5,0,0,0,0,0,8,0]), 5, 0x80000, by decide⟩,
    ⟨((benchMbx State.reset 1 ((mbxFrame 0x0108 0 [5,0,0,0,0,0,8,0]))).setSession (if (benchMbx State.reset 1 ((mbxFrame 0x0108 0 [5,0,0,0,0,0,8,0]))).ct % 2 = 0 then none else some (FwSession.mk 1 1 10 0))), 1, false, (mbxFrame 0x0108 0 [5,0,0,0,0,0,8,0]), 5, 0x80000, by decide⟩,
    ⟨((benchMbx State.reset 1 ((mbxFrame 0x0108 0 [5,0,0,0,0,0,8,0]))).setSession (some (FwSession.mk (1 + 1) 1 10 0))), 1, true, (mbxFrame 0x0108 0 [5,0,0,0,0,0,8,0]), 5, 0x80000, by decide⟩,
    ⟨benchMbx State.reset 1 ((mbxFrame 0x0108 0 [5,0,0,0,1,0,8,0])), 1, true, (mbxFrame 0x0108 0 [5,0,0,0,1,0,8,0]), 5, 0x80001, by decide⟩,
    ⟨(({ (benchMbx State.reset 1 ((mbxFrame 0x0108 1 [0,0,0,0,1,2]))) with mem := [] }.eraseBytes (flashAddr ((fwRegion ((FwSession.mk 1 5 2 0)).region).1)) 64).setSession (some ((FwSession.mk 1 5 2 0)))), 1, true, (mbxFrame 0x0108 1 [0,0,0,0,1,2]), (FwSession.mk 1 5 2 0), by decide⟩,
    ⟨(({ (benchMbx State.reset 1 ((mbxFrame 0x0108 1 [0,0,0,0,1,2]))) with mem := [] }.eraseBytes (flashAddr ((fwRegion ((FwSession.mk 1 5 2 0)).region).1)) 64).setSession (some ((FwSession.mk 1 5 2 0)))), 1, false, (mbxFrame 0x0108 1 [0,0,0,0,1,2]), (FwSession.mk 1 5 2 0), by decide⟩,
    ⟨(({ (benchMbx State.reset 1 ((mbxFrame 0x0108 1 [0,0,0,0,1,2]))) with mem := [] }.eraseBytes (flashAddr ((fwRegion ((FwSession.mk 1 5 1 0)).region).1)) 64).setSession (some ((FwSession.mk 1 5 1 0)))), 1, true, (mbxFrame 0x0108 1 [0,0,0,0,1,2]), (FwSession.mk 1 5 1 0), by decide⟩,
    ⟨((benchMbx State.reset 1 ((mbxFrame 0x0108 1 [0,0,0,0,1,2]))).setSession none), 1, true, (mbxFrame 0x0108 1 [0,0,0,0,1,2]), by decide⟩,
    ⟨((benchMbx State.reset 1 ((mbxFrame 0x0108 2 []))).setSession (some ⟨1,0,2,0⟩)), 1, true, (mbxFrame 0x0108 2 []), ⟨1,0,2,0⟩, by decide⟩,
    ⟨((benchMbx State.reset 1 ((mbxFrame 0x0108 2 []))).setSession none), 1, true, (mbxFrame 0x0108 2 []), by decide⟩,
    ⟨((benchMbx State.reset 1 ((mbxFrame 0x0108 3 []))).setSession none), 1, (mbxFrame 0x0108 3 []), by decide⟩,
    ⟨((benchMbx State.reset 1 ((mbxFrame 0x0108 3 []))).setSession (some ⟨1,0,2,0⟩)), 1, (mbxFrame 0x0108 3 []), ⟨1,0,2,0⟩, by decide⟩,
    ⟨((benchMbx State.reset 1 ((mbxFrame 0x0109 0 [255,3,0,0]))).put F.CAL_STAT_COMMIT 0 false), 1, true, (mbxFrame 0x0109 0 [255,3,0,0]), 1023, by decide⟩,
    ⟨((benchMbx State.reset 1 ((mbxFrame 0x0109 0 [255,3,0,0]))).put F.CAL_STAT_COMMIT 0 false), 1, false, (mbxFrame 0x0109 0 [255,3,0,0]), 1023, by decide⟩,
    ⟨((benchMbx State.reset 1 ((mbxFrame 0x0109 0 [255,3,0,0]))).put F.CAL_STAT_COMMIT 0 true), 1, true, (mbxFrame 0x0109 0 [255,3,0,0]), 1023, by decide⟩,
    ⟨benchMbx State.reset 1 ((mbxFrame 0x0109 0 [0,4,0,0])), 1, true, (mbxFrame 0x0109 0 [0,4,0,0]), 1024, by decide⟩⟩

theorem hyps_PortEngineMailboxCommands :
  (∃ (s : State) (ch : Nat) (f : Frame) (m : Nat), (s.mbx.at ch).running = some f ∧ f.code = 0x0201
    ∧ word32 f.payload 0 = m ∧ s.maskFault ch m = 0) ∧
  (∃ (s : State) (ch : Nat) (f : Frame) (m : Nat), (s.mbx.at ch).running = some f ∧ f.code = 0x0201
    ∧ word32 f.payload 0 = m ∧ s.maskFault ch m ≠ 0) ∧
  (∃ (s : State) (ch : Nat) (f : Frame) (m k : Nat), (s.mbx.at ch).running = some f ∧ f.code = 0x0202
    ∧ word32 f.payload 0 = m ∧ byteAt f.payload 4 = k ∧ s.maskFault ch m = 0 ∧ (k = 15 ∨ (ch ≤ 2 ∧ s.hasUpstream k = true))) ∧
  (∃ (s : State) (ch : Nat) (f : Frame) (m k : Nat), (s.mbx.at ch).running = some f ∧ f.code = 0x0202
    ∧ word32 f.payload 0 = m ∧ byteAt f.payload 4 = k ∧ s.maskFault ch m = 0 ∧ 3 ≤ ch ∧ ch ≤ 5 ∧ k ≠ 15) ∧
  (∃ (s : State) (ch : Nat) (f : Frame) (m dest : Nat), (s.mbx.at ch).running = some f ∧ f.code = 0x0203
    ∧ word32 f.payload 0 = m ∧ byteAt f.payload 4 = dest ∧ s.maskFault ch m = 0 ∧ s.hasUpstream dest = true ∧ ch ≤ 2) ∧
  (∃ (s : State) (ch : Nat) (f : Frame) (m dest : Nat), (s.mbx.at ch).running = some f ∧ f.code = 0x0203
    ∧ word32 f.payload 0 = m ∧ byteAt f.payload 4 = dest ∧ s.maskFault ch m = 0 ∧ s.hasUpstream dest = true ∧ 3 ≤ ch
    ∧ ch ≤ 5 ∧ s.bit F.PART_PCTL_ACCEPT dest (ch - 2) = false) ∧
  (∃ (s : State) (ch : Nat) (f : Frame) (m : Nat), (s.mbx.at ch).running = some f ∧ f.code = 0x0204
    ∧ word32 f.payload 0 = m ∧ s.maskFault ch m = 0) ∧
  (∃ (s : State) (ch : Nat) (f : Frame) (m : Nat), (s.mbx.at ch).running = some f ∧ f.code = 0x0205
    ∧ word32 f.payload 0 = m ∧ s.maskFault ch m = 0) ∧
  (∃ (s : State) (ch : Nat) (f : Frame) (m : Nat), (s.mbx.at ch).running = some f ∧ f.code = 0x0206
    ∧ (byteAt f.payload 4).testBit 0 = false ∧ word32 f.payload 0 = m ∧ s.maskFault ch m = 0) ∧
  (∃ (s : State) (ch : Nat) (f : Frame) (m : Nat), (s.mbx.at ch).running = some f ∧ f.code = 0x0206
    ∧ (byteAt f.payload 4).testBit 0 = true ∧ word32 f.payload 0 = m ∧ s.maskFault ch m = 0) ∧
  (∃ (s : State) (ch : Nat) (f : Frame) (m : Nat), (s.mbx.at ch).running = some f ∧ f.code = 0x0207
    ∧ f.opt.testBit 0 = false ∧ word32 f.payload 0 = m ∧ s.maskFault ch m = 0) ∧
  (∃ (s : State) (ch : Nat) (f : Frame) (m : Nat), (s.mbx.at ch).running = some f ∧ f.code = 0x0207
    ∧ f.opt.testBit 0 = true ∧ word32 f.payload 0 = m ∧ s.maskFault ch m = 0) ∧
  (∃ (s : State) (ch : Nat) (f : Frame) (m : Nat), (s.mbx.at ch).running = some f ∧ f.code = 0x0207
    ∧ f.opt.testBit 0 = true ∧ word32 f.payload 0 = m ∧ s.maskFault ch m ≠ 0) ∧
  (∃ (s : State) (ch : Nat) (f : Frame) (p : Nat), (s.mbx.at ch).running = some f ∧ f.code = 0x0208 ∧ 1 ≤ p ∧ p ≤ 32
    ∧ word32 f.payload 0 = 2 ^ (p - 1) ∧ s.maskFault ch (2 ^ (p - 1)) = 0) :=
  ⟨⟨benchMbx State.reset 1 ((mbxFrame 0x0201 0 [6,0,0,0])), 1, (mbxFrame 0x0201 0 [6,0,0,0]), 6, by decide⟩,
    ⟨benchMbx State.reset 1 ((mbxFrame 0x0201 0 [0,0,0,0])), 1, (mbxFrame 0x0201 0 [0,0,0,0]), 0, by decide⟩,
    ⟨((benchPort (benchMbx State.reset 1 ((mbxFrame 0x0202 0 [6,0,0,0,15]))) 1 3 (if (benchMbx State.reset 1 ((mbxFrame 0x0202 0 [6,0,0,0,15]))).ct % 3 = 0 then .migrating else .enabled))), 1, (mbxFrame 0x0202 0 [6,0,0,0,15]), 6, 15, by decide⟩,
    ⟨({ benchPort (benchMbx State.reset 3 ((mbxFrame 0x0202 0 [4,0,0,0,1]))) 1 3 .enabled with mbx := [(3, { (default : Channel) with running := some ((mbxFrame 0x0202 0 [4,0,0,0,1])) })] }), 3, (mbxFrame 0x0202 0 [4,0,0,0,1]), 4, 1, by decide⟩,
    ⟨((benchPort (benchMbx State.reset 1 ((mbxFrame 0x0203 0 [4,0,0,0,0,1,7]))) 1 3 .enabled).put F.PART_PSTAT_HOST 0 true |>.put F.PART_PSTAT_ATTACHED 0 true), 1, (mbxFrame 0x0203 0 [4,0,0,0,0,1,7]), 4, 0, by decide⟩,
    ⟨({ benchPort (benchMbx State.reset 3 ((mbxFrame 0x0203 0 [4,0,0,0,0,1,7]))) 1 3 .enabled with mbx := [(3, { (default : Channel) with running := some ((mbxFrame 0x0203 0 [4,0,0,0,0,1,7])) })], migs := [] }.setFld F.PART_PCTL_ACCEPT 0 5), 3, (mbxFrame 0x0203 0 [4,0,0,0,0,1,7]), 4, 0, by decide⟩,
    ⟨benchMbx State.reset 1 ((mbxFrame 0x0204 0 [6,0,0,0])), 1, (mbxFrame 0x0204 0 [6,0,0,0]), 6, by decide⟩,
    ⟨benchMbx State.reset 1 ((mbxFrame 0x0205 0 [6,0,0,0])), 1, (mbxFrame 0x0205 0 [6,0,0,0]), 6, by decide⟩,
    ⟨benchMbx State.reset 1 ((mbxFrame 0x0206 0 [6,0,0,0,0])), 1, (mbxFrame 0x0206 0 [6,0,0,0,0]), 6, by decide⟩,
    ⟨benchMbx State.reset 1 ((mbxFrame 0x0206 0 [6,0,0,0,1])), 1, (mbxFrame 0x0206 0 [6,0,0,0,1]), 6, by decide⟩,
    ⟨({ benchPort (benchMbx State.reset 1 ((mbxFrame 0x0207 0 [4,0,0,0,5]))) 1 3 .quarantined with staged := [] }.setFld F.ADC_PV_VBUS 3 79), 1, (mbxFrame 0x0207 0 [4,0,0,0,5]), 4, by decide⟩,
    ⟨benchMbx State.reset 1 ((mbxFrame 0x0207 1 [6,0,0,0])), 1, (mbxFrame 0x0207 1 [6,0,0,0]), 6, by decide⟩,
    ⟨benchMbx State.reset 1 ((mbxFrame 0x0207 1 [0,0,0,0])), 1, (mbxFrame 0x0207 1 [0,0,0,0]), 0, by decide⟩,
    ⟨({ benchPort (benchMbx State.reset 1 ((mbxFrame 0x0208 0 [0,0,0,128,0x11,0,5,0,1,2,3,4,7]))) 1 32 .enabled with staged := [] }.put F.DPE_GLITCH_CTL_BUSY 32 ((benchMbx State.reset 1 ((mbxFrame 0x0208 0 [0,0,0,128,0x11,0,5,0,1,2,3,4,7]))).free % 3 = 0) |>.put F.DPE_GLITCH_CTL_ARMED 32 false |>.put F.DPE_CTL_ISOLATE 32 false |>.put F.DSW_PSTAT_OVHOLD 32 false |>.setFld F.PWR_PSTAT_STATE 32 5), 1, (mbxFrame 0x0208 0 [0,0,0,128,0x11,0,5,0,1,2,3,4,7]), 32, by decide⟩⟩

theorem hyps_PortSettingsMailboxCommands :
  (∃ (s : State) (ch : Nat) (f : Frame) (m v : Nat), (s.mbx.at ch).running = some f ∧ f.code = 0x0209
    ∧ word32 f.payload 0 = m ∧ byteAt f.payload 4 = v ∧ s.maskFault ch m = 0 ∧ v ≤ 1) ∧
  (∃ (s : State) (ch : Nat) (f : Frame) (m v : Nat), (s.mbx.at ch).running = some f ∧ f.code = 0x0209
    ∧ word32 f.payload 0 = m ∧ byteAt f.payload 4 = v ∧ s.maskFault ch m = 0 ∧ 1 < v) ∧
  (∃ (s : State) (ch : Nat) (f : Frame) (p : Nat), (s.mbx.at ch).running = some f ∧ f.code = 0x020A ∧ 1 ≤ p ∧ p ≤ 32
    ∧ word32 f.payload 0 = 2 ^ (p - 1) ∧ s.maskFault ch (2 ^ (p - 1)) = 0 ∧ s.portReady p = true
    ∧ (s.clearLatch p).isSome = true) ∧
  (∃ (s : State) (ch : Nat) (f : Frame) (p : Nat), (s.mbx.at ch).running = some f ∧ f.code = 0x020A ∧ 1 ≤ p ∧ p ≤ 32
    ∧ word32 f.payload 0 = 2 ^ (p - 1) ∧ s.maskFault ch (2 ^ (p - 1)) = 0 ∧ s.portReady p = true ∧ s.clearLatch p = none) ∧
  (∃ (s : State) (ch : Nat) (f : Frame) (p : Nat), (s.mbx.at ch).running = some f ∧ f.code = 0x020A ∧ 1 ≤ p ∧ p ≤ 32
    ∧ word32 f.payload 0 = 2 ^ (p - 1) ∧ s.maskFault ch (2 ^ (p - 1)) = 0 ∧ s.portReady p = false) ∧
  (∃ (s : State) (ch : Nat) (f : Frame) (p : Nat), (s.mbx.at ch).running = some f ∧ f.code = 0x020B ∧ 1 ≤ p ∧ p ≤ 32
    ∧ word32 f.payload 0 = 2 ^ (p - 1) ∧ s.maskFault ch (2 ^ (p - 1)) = 0 ∧ s.portReady p = true ∧ byteAt f.payload 12 = 0
    ∧ word32 f.payload 8 % 2 = 0) ∧
  (∃ (s : State) (ch : Nat) (f : Frame) (p : Nat), (s.mbx.at ch).running = some f ∧ f.code = 0x020B ∧ 1 ≤ p ∧ p ≤ 32
    ∧ word32 f.payload 0 = 2 ^ (p - 1) ∧ s.maskFault ch (2 ^ (p - 1)) = 0 ∧ s.portReady p = true
    ∧ byteAt f.payload 12 % 2 = 1 ∧ s.ccIn p [.disabled, .ccOvHold] = true) ∧
  (∃ (s : State) (ch : Nat) (f : Frame) (p : Nat), (s.mbx.at ch).running = some f ∧ f.code = 0x020B ∧ 1 ≤ p ∧ p ≤ 32
    ∧ word32 f.payload 0 = 2 ^ (p - 1) ∧ s.maskFault ch (2 ^ (p - 1)) = 0 ∧ s.portReady p = true ∧ byteAt f.payload 12 = 1
    ∧ word32 f.payload 8 = 0 ∧ s.ccIn p [.disabled, .ccOvHold] = false) ∧
  (∃ (s : State) (ch : Nat) (f : Frame) (m : Nat), (s.mbx.at ch).running = some f ∧ f.code = 0x020C
    ∧ word32 f.payload 0 = m ∧ s.maskFault ch m = 0 ∧ ((byteAt f.payload 6 ≤ 1 ∨ byteAt f.payload 6 = 0xFF))) ∧
  (∃ (s : State) (ch : Nat) (f : Frame) (m : Nat), (s.mbx.at ch).running = some f ∧ f.code = 0x020C
    ∧ word32 f.payload 0 = m ∧ s.maskFault ch m = 0 ∧ 1 < byteAt f.payload 6 ∧ byteAt f.payload 6 ≠ 0xFF) ∧
  (∃ (s : State) (ch : Nat) (f : Frame) (p a b c : Nat), (s.mbx.at ch).running = some f ∧ f.code = 0x020D
    ∧ f.payload = [p, a, b, c] ∧ s.fitted p = true ∧ a ≤ 31 ∧ b ≤ 63 ∧ c ≤ 63 ∧ s.needs Dom.fabric = true
    ∧ ((s.setFld F.TT_ALLOC_NPBUF p a |>.setFld F.TT_ALLOC_PRES p b).setFld F.TT_ALLOC_PMAX p c).reserved ≤ 1024) ∧
  (∃ (s : State) (ch : Nat) (f : Frame) (p a b c : Nat), (s.mbx.at ch).running = some f ∧ f.code = 0x020D
    ∧ f.payload = [p, a, b, c] ∧ s.fitted p = true ∧ a ≤ 31 ∧ b ≤ 63 ∧ c ≤ 63 ∧ s.needs Dom.fabric = true
    ∧ 1024 < ((s.setFld F.TT_ALLOC_NPBUF p a |>.setFld F.TT_ALLOC_PRES p b).setFld F.TT_ALLOC_PMAX p c).reserved) ∧
  (∃ (s : State) (ch : Nat) (f : Frame) (p a b c : Nat), (s.mbx.at ch).running = some f ∧ f.code = 0x020D
    ∧ f.payload = [p, a, b, c] ∧ s.fitted p = true ∧ a ≤ 31 ∧ b ≤ 63 ∧ c ≤ 63 ∧ s.needs Dom.fabric = false) ∧
  (∃ (s : State) (ch : Nat) (f : Frame) (p a b c : Nat), (s.mbx.at ch).running = some f ∧ f.code = 0x020D
    ∧ f.payload = [p, a, b, c] ∧ ((s.fitted p = false ∨ 31 < a ∨ 63 < b ∨ 63 < c))) :=
  ⟨⟨({ (benchMbx State.reset 1 ((mbxFrame 0x0209 0 [6,0,0,0,1]))) with staged := [] }), 1, (mbxFrame 0x0209 0 [6,0,0,0,1]), 6, 1, by decide⟩,
    ⟨({ (benchMbx State.reset 1 ((mbxFrame 0x0209 0 [6,0,0,0,2]))) with staged := [] }), 1, (mbxFrame 0x0209 0 [6,0,0,0,2]), 6, 2, by decide⟩,
    ⟨(((benchMbx State.reset 1 ((mbxFrame 0x020A 0 [1,0,0,0]))).setPwr 1 .latched).setFld F.PWR_PSTAT_CAUSE 1 (10 - (benchMbx State.reset 1 ((mbxFrame 0x020A 0 [1,0,0,0]))).ct % 2)), 1, (mbxFrame 0x020A 0 [1,0,0,0]), 1, by decide⟩,
    ⟨({ ((benchMbx State.reset 1 ((mbxFrame 0x020A 0 [1,0,0,0]))).setPwr 1 .latched).setFld F.PWR_PSTAT_CAUSE 1 10 with fc := { (benchMbx State.reset 1 ((mbxFrame 0x020A 0 [1,0,0,0]))).fc with sources := [((1 + currant 1) * 4096 + place8 1, { (default : FcSource) with st := .fault, react := 2 })] } }), 1, (mbxFrame 0x020A 0 [1,0,0,0]), 1, by decide⟩,
    ⟨((benchMbx State.reset 1 ((mbxFrame 0x020A 0 [0,0,0,128]))).setFld F.D2D_LSTAT_STATE (currant 32 + 1) 0), 1, (mbxFrame 0x020A 0 [0,0,0,128]), 32, by decide⟩,
    ⟨({ (benchMbx State.reset 1 ((mbxFrame 0x020B 0 [0,0,0,128,255,0,0,0,54,0,0,0,0]))) with staged := [] }), 1, (mbxFrame 0x020B 0 [0,0,0,128,255,0,0,0,54,0,0,0,0]), 32, by decide⟩,
    ⟨({ (benchMbx State.reset 1 ((mbxFrame 0x020B 0 [0,0,0,128,255,0,0,0,54,0,0,0,1]))) with staged := [] }.setCc 32 .disabled), 1, (mbxFrame 0x020B 0 [0,0,0,128,255,0,0,0,54,0,0,0,1]), 32, by decide⟩,
    ⟨({ (benchMbx State.reset 1 ((mbxFrame 0x020B 0 [0,0,0,128,255,0,0,0,0,0,0,0,1]))) with staged := [] }.setCc 32 .attachedSrc), 1, (mbxFrame 0x020B 0 [0,0,0,128,255,0,0,0,0,0,0,0,1]), 32, by decide⟩,
    ⟨benchMbx State.reset 1 ((mbxFrame 0x020C 0 [6,0,0,0,1,2,1])), 1, (mbxFrame 0x020C 0 [6,0,0,0,1,2,1]), 6, by decide⟩,
    ⟨benchMbx State.reset 1 ((mbxFrame 0x020C 0 [6,0,0,0,1,2,2])), 1, (mbxFrame 0x020C 0 [6,0,0,0,1,2,2]), 6, by decide⟩,
    ⟨({ (benchMbx State.reset 1 ((mbxFrame 0x020D 0 [32,31,63,0]))) with staged := [] }), 1, (mbxFrame 0x020D 0 [32,31,63,0]), 32, 31, 63, 0, by decide +kernel⟩,
    ⟨({ ((benchMbx State.reset 1 ((mbxFrame 0x020D 0 [32,31,63,0]))).each allPorts (fun u q => (u.setFld F.TT_ALLOC_NPBUF q 16 |>.setFld F.TT_ALLOC_PRES q 48).setFld F.TT_ALLOC_PMAX q 48)) with staged := [] }), 1, (mbxFrame 0x020D 0 [32,31,63,0]), 32, 31, 63, 0, by decide +kernel⟩,
    ⟨((benchMbx State.reset 1 ((mbxFrame 0x020D 0 [32,31,63,0]))).setFld F.PMU_DOMSTAT_ON 0 0), 1, (mbxFrame 0x020D 0 [32,31,63,0]), 32, 31, 63, 0, by decide +kernel⟩,
    ⟨({ (benchMbx State.reset 1 ((mbxFrame 0x020D 0 [33,31,63,0]))) with staged := [] }), 1, (mbxFrame 0x020D 0 [33,31,63,0]), 33, 31, 63, 0, by decide⟩⟩

theorem hyps_PolicyMailboxCommands :
  (∃ (s : State) (ch : Nat) (f : Frame) (m : Nat), (s.mbx.at ch).running = some f ∧ f.code = 0x0301
    ∧ f.opt.testBit 0 = false ∧ word32 f.payload 0 = m ∧ s.maskFault ch m = 0) ∧
  (∃ (s : State) (ch : Nat) (f : Frame) (m : Nat), (s.mbx.at ch).running = some f ∧ f.code = 0x0301
    ∧ f.opt.testBit 0 = false ∧ word32 f.payload 0 = m ∧ s.maskFault ch m ≠ 0) ∧
  (∃ (s : State) (ch : Nat) (f : Frame) (p : Nat), (s.mbx.at ch).running = some f ∧ f.code = 0x0301
    ∧ f.opt.testBit 0 = true ∧ (s.mbx.at ch).stage = 0 ∧ maskPorts (word32 f.payload 0) = [p]
    ∧ s.maskFault ch (word32 f.payload 0) = 0 ∧ s.portReady p = true ∧ s.pdLive p = true ∧ s.contracted p = true
    ∧ s.on F.TCPD_PDSTAT_PROLE p = true ∧ s.amsOn p = false) ∧
  (∃ (s : State) (ch : Nat) (f : Frame) (p : Nat), (s.mbx.at ch).running = some f ∧ f.code = 0x0301
    ∧ f.opt.testBit 0 = true ∧ (s.mbx.at ch).stage = 0 ∧ maskPorts (word32 f.payload 0) = [p]
    ∧ s.maskFault ch (word32 f.payload 0) = 0 ∧ s.portReady p = true ∧ s.pdLive p = true ∧ s.contracted p = true
    ∧ s.on F.TCPD_PDSTAT_PROLE p = true ∧ s.amsOn p = true) ∧
  (∃ (s : State) (ch : Nat) (f : Frame) (p : Nat), (s.mbx.at ch).running = some f ∧ f.code = 0x0301
    ∧ f.opt.testBit 0 = true ∧ (s.mbx.at ch).stage = 0 ∧ maskPorts (word32 f.payload 0) = [p]
    ∧ s.maskFault ch (word32 f.payload 0) = 0
    ∧ ((s.portReady p = false ∨ s.pdLive p = false ∨ s.contracted p = false ∨ s.on F.TCPD_PDSTAT_PROLE p = false))) ∧
  (∃ (s : State) (ch : Nat) (f : Frame) (p : Nat), (s.mbx.at ch).running = some f ∧ f.code = 0x0301
    ∧ f.opt.testBit 0 = true ∧ (s.mbx.at ch).stage ≠ 0 ∧ maskPorts (word32 f.payload 0) = [p] ∧ s.rightsLost ch p = 0
    ∧ (s.pd.at p).query = 2) ∧
  (∃ (s : State) (ch : Nat) (f : Frame) (p : Nat), (s.mbx.at ch).running = some f ∧ f.code = 0x0301
    ∧ f.opt.testBit 0 = true ∧ (s.mbx.at ch).stage ≠ 0 ∧ maskPorts (word32 f.payload 0) = [p] ∧ s.rightsLost ch p = 0
    ∧ (s.pd.at p).query = 3) ∧
  (∃ (s : State) (ch : Nat) (f : Frame) (p : Nat), (s.mbx.at ch).running = some f ∧ f.code = 0x0301
    ∧ f.opt.testBit 0 = true ∧ (s.mbx.at ch).stage ≠ 0 ∧ maskPorts (word32 f.payload 0) = [p] ∧ s.rightsLost ch p = 0
    ∧ (s.pd.at p).query = 0) ∧
  (∃ (s : State) (ch : Nat) (f : Frame) (p : Nat), (s.mbx.at ch).running = some f ∧ f.code = 0x0301
    ∧ f.opt.testBit 0 = true ∧ (s.mbx.at ch).stage ≠ 0 ∧ maskPorts (word32 f.payload 0) = [p] ∧ s.rightsLost ch p = 0
    ∧ (s.pd.at p).query = 1) ∧
  (∃ (s : State) (ch : Nat) (f : Frame) (p : Nat), (s.mbx.at ch).running = some f ∧ f.code = 0x0301
    ∧ f.opt.testBit 0 = true ∧ (s.mbx.at ch).stage ≠ 0 ∧ maskPorts (word32 f.payload 0) = [p] ∧ s.rightsLost ch p ≠ 0) ∧
  (∃ (s : State) (ch : Nat) (f : Frame) (m : Nat), (s.mbx.at ch).running = some f ∧ f.code = 0x0302
    ∧ word32 f.payload 0 = m ∧ s.maskFault ch m = 0) ∧
  (∃ (s : State) (ch : Nat) (f : Frame) (n : Nat), (s.mbx.at ch).running = some f ∧ f.code = 0x0303
    ∧ f.opt.testBit 0 = false ∧ byteAt f.payload 0 = n ∧ n ≤ 7) ∧
  (∃ (s : State) (ch : Nat) (f : Frame) (n : Nat), (s.mbx.at ch).running = some f ∧ f.code = 0x0303
    ∧ f.opt.testBit 0 = false ∧ byteAt f.payload 0 = n ∧ 7 < n) ∧
  (∃ (s : State) (ch : Nat) (f : Frame) (n : Nat) (l : List Nat), (s.mbx.at ch).running = some f ∧ f.code = 0x0303
    ∧ f.opt.testBit 0 = true ∧ byteAt f.payload 0 = n
    ∧ (List.range (byteAt f.payload 1)).map (fun i => word32 f.payload (4 + 4 * i)) = l ∧ n ≤ 7 ∧ l ≠ [] ∧ l.length ≤ 11
    ∧ profileGood l = true) ∧
  (∃ (s : State) (ch : Nat) (f : Frame) (n : Nat) (l : List Nat), (s.mbx.at ch).running = some f ∧ f.code = 0x0303
    ∧ f.opt.testBit 0 = true ∧ byteAt f.payload 0 = n
    ∧ (List.range (byteAt f.payload 1)).map (fun i => word32 f.payload (4 + 4 * i)) = l
    ∧ ((7 < n ∨ l = [] ∨ 11 < l.length ∨ profileGood l = false))) ∧
  (∃ (s : State) (ch : Nat) (f : Frame) (p : Nat), (s.mbx.at ch).running = some f ∧ f.code = 0x0304
    ∧ byteAt f.payload 1 = 0 ∧ byteAt f.payload 0 = p ∧ (s.mbx.at ch).stage = 0 ∧ s.namedFault ch p = 0
    ∧ s.portReady p = true ∧ s.pdLive p = true ∧ (s.prSwapSend p).isSome = true) ∧
  (∃ (s : State) (ch : Nat) (f : Frame) (p : Nat), (s.mbx.at ch).running = some f ∧ f.code = 0x0304
    ∧ byteAt f.payload 1 = 0 ∧ byteAt f.payload 0 = p ∧ (s.mbx.at ch).stage = 0 ∧ s.namedFault ch p = 0
    ∧ ((s.portReady p = false ∨ (s.prSwapSend p).isNone = true))) ∧
  (∃ (s : State) (ch : Nat) (f : Frame) (p : Nat), (s.mbx.at ch).running = some f ∧ f.code = 0x0304
    ∧ byteAt f.payload 1 = 0 ∧ byteAt f.payload 0 = p ∧ (s.mbx.at ch).stage = 0 ∧ s.namedFault ch p ≠ 0) ∧
  (∃ (s : State) (ch : Nat) (f : Frame) (p : Nat), (s.mbx.at ch).running = some f ∧ f.code = 0x0304
    ∧ byteAt f.payload 1 = 0 ∧ byteAt f.payload 0 = p ∧ (s.mbx.at ch).stage ≠ 0 ∧ s.rightsLost ch p = 0
    ∧ (s.pd.at p).swapEnd ≠ .pending) ∧
  (∃ (s : State) (ch : Nat) (f : Frame) (p : Nat), (s.mbx.at ch).running = some f ∧ f.code = 0x0304
    ∧ byteAt f.payload 1 = 0 ∧ byteAt f.payload 0 = p ∧ (s.mbx.at ch).stage ≠ 0 ∧ s.rightsLost ch p = 0
    ∧ (s.pd.at p).swapEnd = .pending) ∧
  (∃ (s : State) (ch : Nat) (f : Frame) (p : Nat), (s.mbx.at ch).running = some f ∧ f.code = 0x0304
    ∧ byteAt f.payload 1 = 1 ∧ byteAt f.payload 0 = p ∧ (s.mbx.at ch).stage = 0 ∧ s.namedFault ch p = 0
    ∧ s.portReady p = true ∧ s.pdLive p = true ∧ (s.vconnSwapSend p).isSome = true) ∧
  (∃ (s : State) (ch : Nat) (f : Frame) (p : Nat), (s.mbx.at ch).running = some f ∧ f.code = 0x0304
    ∧ byteAt f.payload 1 = 1 ∧ byteAt f.payload 0 = p ∧ (s.mbx.at ch).stage = 0 ∧ s.namedFault ch p = 0
    ∧ ((s.portReady p = false ∨ (s.vconnSwapSend p).isNone = true))) ∧
  (∃ (s : State) (ch : Nat) (f : Frame) (p : Nat), (s.mbx.at ch).running = some f ∧ f.code = 0x0304
    ∧ byteAt f.payload 1 = 1 ∧ byteAt f.payload 0 = p ∧ (s.mbx.at ch).stage = 0 ∧ s.namedFault ch p ≠ 0) ∧
  (∃ (s : State) (ch : Nat) (f : Frame) (p : Nat), (s.mbx.at ch).running = some f ∧ f.code = 0x0304
    ∧ byteAt f.payload 1 = 1 ∧ byteAt f.payload 0 = p ∧ (s.mbx.at ch).stage ≠ 0 ∧ s.rightsLost ch p = 0
    ∧ s.fitted p = true ∧ s.ownPort ch p = true ∧ (s.pd.at p).swapEnd ≠ .pending) ∧
  (∃ (s : State) (ch : Nat) (f : Frame) (p : Nat), (s.mbx.at ch).running = some f ∧ f.code = 0x0304
    ∧ byteAt f.payload 1 = 1 ∧ byteAt f.payload 0 = p ∧ (s.mbx.at ch).stage ≠ 0 ∧ s.rightsLost ch p = 0
    ∧ s.fitted p = true ∧ s.ownPort ch p = true ∧ (s.pd.at p).swapEnd = .pending) ∧
  (∃ (s : State) (ch : Nat) (f : Frame) (p : Nat), (s.mbx.at ch).running = some f ∧ f.code = 0x0305
    ∧ byteAt f.payload 1 = 0 ∧ byteAt f.payload 0 = p ∧ s.namedFault ch p = 0 ∧ s.portReady p = true ∧ s.pdLive p = true
    ∧ s.ccIn p [.attachedSrc, .attachedSnk] = true) ∧
  (∃ (s : State) (ch : Nat) (f : Frame) (p : Nat), (s.mbx.at ch).running = some f ∧ f.code = 0x0305
    ∧ byteAt f.payload 1 = 0 ∧ byteAt f.payload 0 = p ∧ s.namedFault ch p = 0
    ∧ ((s.portReady p = false ∨ s.pdLive p = false ∨ s.ccIn p [.attachedSrc, .attachedSnk] = false))) ∧
  (∃ (s : State) (ch : Nat) (f : Frame) (p : Nat), (s.mbx.at ch).running = some f ∧ f.code = 0x0305
    ∧ byteAt f.payload 1 = 0 ∧ byteAt f.payload 0 = p ∧ s.namedFault ch p ≠ 0) ∧
  (∃ (s : State) (ch : Nat) (f : Frame) (p : Nat), (s.mbx.at ch).running = some f ∧ f.code = 0x0305
    ∧ byteAt f.payload 1 = 1 ∧ byteAt f.payload 0 = p ∧ s.namedFault ch p = 0 ∧ s.portReady p = true ∧ s.pdLive p = true
    ∧ s.ccIn p [.attachedSrc, .attachedSnk] = true) ∧
  (∃ (s : State) (ch : Nat) (f : Frame) (p : Nat), (s.mbx.at ch).running = some f ∧ f.code = 0x0305
    ∧ byteAt f.payload 1 = 1 ∧ byteAt f.payload 0 = p ∧ s.namedFault ch p = 0
    ∧ ((s.portReady p = false ∨ s.pdLive p = false ∨ s.ccIn p [.attachedSrc, .attachedSnk] = false))) ∧
  (∃ (s : State) (ch : Nat) (f : Frame) (p : Nat), (s.mbx.at ch).running = some f ∧ f.code = 0x0305
    ∧ byteAt f.payload 1 = 1 ∧ byteAt f.payload 0 = p ∧ s.namedFault ch p ≠ 0) ∧
  (∃ (s : State) (ch : Nat) (f : Frame) (p : Nat), (s.mbx.at ch).running = some f ∧ f.code = 0x0305
    ∧ byteAt f.payload 1 = 2 ∧ byteAt f.payload 0 = p ∧ s.namedFault ch p = 0 ∧ s.on F.TCPD_PDSTAT_VCSRC p = true
    ∧ s.portReady p = true ∧ s.pdLive p = true ∧ s.ccIn p [.attachedSrc, .attachedSnk] = true) ∧
  (∃ (s : State) (ch : Nat) (f : Frame) (p : Nat), (s.mbx.at ch).running = some f ∧ f.code = 0x0305
    ∧ byteAt f.payload 1 = 2 ∧ byteAt f.payload 0 = p ∧ s.namedFault ch p = 0
    ∧ ((s.portReady p = false ∨ s.pdLive p = false ∨ s.ccIn p [.attachedSrc, .attachedSnk] = false ∨ s.on F.TCPD_PDSTAT_VCSRC p = false))) ∧
  (∃ (s : State) (ch : Nat) (f : Frame) (p : Nat), (s.mbx.at ch).running = some f ∧ f.code = 0x0305
    ∧ byteAt f.payload 1 = 2 ∧ byteAt f.payload 0 = p ∧ s.namedFault ch p ≠ 0) ∧
  (∃ (s : State) (ch : Nat) (f : Frame) (m : Nat), (s.mbx.at ch).running = some f ∧ f.code = 0x0306
    ∧ word32 f.payload 0 = m ∧ s.maskFault ch m = 0) ∧
  (∃ (s : State) (ch : Nat) (good : Bool) (f : Frame) (c slot flags : Nat), (s.mbx.at ch).running = some f
    ∧ f.code = 0x0307 ∧ byteAt f.payload 0 = c ∧ byteAt f.payload 1 = slot ∧ byteAt f.payload 2 = flags ∧ 1 ≤ c ∧ c ≤ 4
    ∧ ((slot ≤ 3 ∨ slot = 0xFF)) ∧ ((flags.testBit 0 = false ∨ s.needs Dom.service = true))
    ∧ ((flags.testBit 1 = false ∨ (s.on F.CAL_STAT_COMMIT 0 = false ∧ s.saveRuns = false ∧ good = true)))) ∧
  (∃ (s : State) (ch : Nat) (good : Bool) (f : Frame) (c slot flags : Nat), (s.mbx.at ch).running = some f
    ∧ f.code = 0x0307 ∧ byteAt f.payload 0 = c ∧ byteAt f.payload 1 = slot ∧ byteAt f.payload 2 = flags ∧ 1 ≤ c ∧ c ≤ 4
    ∧ ((slot ≤ 3 ∨ slot = 0xFF)) ∧ flags.testBit 0 = true ∧ s.needs Dom.service = false) ∧
  (∃ (s : State) (ch : Nat) (good : Bool) (f : Frame) (c slot flags : Nat), (s.mbx.at ch).running = some f
    ∧ f.code = 0x0307 ∧ byteAt f.payload 0 = c ∧ byteAt f.payload 1 = slot ∧ byteAt f.payload 2 = flags ∧ 1 ≤ c ∧ c ≤ 4
    ∧ ((slot ≤ 3 ∨ slot = 0xFF)) ∧ ((flags.testBit 0 = false ∨ s.needs Dom.service = true)) ∧ flags.testBit 1 = true
    ∧ ((s.on F.CAL_STAT_COMMIT 0 = true ∨ s.saveRuns = true))) ∧
  (∃ (s : State) (ch : Nat) (good : Bool) (f : Frame) (c slot flags : Nat), (s.mbx.at ch).running = some f
    ∧ f.code = 0x0307 ∧ byteAt f.payload 0 = c ∧ byteAt f.payload 1 = slot ∧ byteAt f.payload 2 = flags ∧ 1 ≤ c ∧ c ≤ 4
    ∧ ((slot ≤ 3 ∨ slot = 0xFF)) ∧ ((flags.testBit 0 = false ∨ s.needs Dom.service = true)) ∧ flags.testBit 1 = true
    ∧ s.on F.CAL_STAT_COMMIT 0 = false ∧ s.saveRuns = false ∧ good = false) ∧
  (∃ (s : State) (ch : Nat) (good : Bool) (f : Frame) (c slot flags : Nat), (s.mbx.at ch).running = some f
    ∧ f.code = 0x0307 ∧ byteAt f.payload 0 = c ∧ byteAt f.payload 1 = slot ∧ byteAt f.payload 2 = flags
    ∧ ((c = 0 ∨ 4 < c ∨ (3 < slot ∧ slot ≠ 0xFF)))) :=
  ⟨⟨benchMbx State.reset 1 ((mbxFrame 0x0301 0 [6,0,0,0])), 1, (mbxFrame 0x0301 0 [6,0,0,0]), 6, by decide⟩,
    ⟨benchMbx State.reset 1 ((mbxFrame 0x0301 0 [0,0,0,0])), 1, (mbxFrame 0x0301 0 [0,0,0,0]), 0, by decide⟩,
    ⟨({ benchPd (benchMbx State.reset 1 ((mbxFrame 0x0301 1 [0,0,0,128]))) 32 with mbx := (benchMbx State.reset 1 ((mbxFrame 0x0301 1 [0,0,0,128]))).mbx }.setFld F.TCPD_CONTRACT_OBJPOS 32 (1 + (benchMbx State.reset 1 ((mbxFrame 0x0301 1 [0,0,0,128]))).ct % 3)), 1, (mbxFrame 0x0301 1 [0,0,0,128]), 32, by decide⟩,
    ⟨({ benchPd (benchMbx State.reset 1 ((mbxFrame 0x0301 1 [0,0,0,128]))) 32 with mbx := (benchMbx State.reset 1 ((mbxFrame 0x0301 1 [0,0,0,128]))).mbx }.setFld F.TCPD_CONTRACT_OBJPOS 32 (1 + (benchMbx State.reset 1 ((mbxFrame 0x0301 1 [0,0,0,128]))).ct % 3) |>.put F.TCPD_PDSTAT_AMS 32 true), 1, (mbxFrame 0x0301 1 [0,0,0,128]), 32, by decide⟩,
    ⟨({ benchPd (benchMbx State.reset 1 ((mbxFrame 0x0301 1 [0,0,0,128]))) 32 with mbx := (benchMbx State.reset 1 ((mbxFrame 0x0301 1 [0,0,0,128]))).mbx }.setFld F.TCPD_CONTRACT_OBJPOS 32 (1 + (benchMbx State.reset 1 ((mbxFrame 0x0301 1 [0,0,0,128]))).ct % 3) |>.put F.TCPD_PDSTAT_PROLE 32 false), 1, (mbxFrame 0x0301 1 [0,0,0,128]), 32, by decide⟩,
    ⟨({ bench (benchMbx State.reset 1 ((mbxFrame 0x0301 1 [0,0,0,128]))) with mbx := (benchMbx State.reset 1 ((mbxFrame 0x0301 1 [0,0,0,128]))).mbx.upd 1 (fun c => { c with stage := 1 }), pd := [(32, { (default : PdPort) with query := 2, partnerSink := some [1, 2] })] }), 1, (mbxFrame 0x0301 1 [0,0,0,128]), 32, by decide⟩,
    ⟨({ bench (benchMbx State.reset 1 ((mbxFrame 0x0301 1 [0,0,0,128]))) with mbx := (benchMbx State.reset 1 ((mbxFrame 0x0301 1 [0,0,0,128]))).mbx.upd 1 (fun c => { c with stage := 1 }), pd := [(32, { (default : PdPort) with query := 3, partnerSink := some [1, 2] })] }), 1, (mbxFrame 0x0301 1 [0,0,0,128]), 32, by decide⟩,
    ⟨({ bench (benchMbx State.reset 1 ((mbxFrame 0x0301 1 [0,0,0,128]))) with mbx := (benchMbx State.reset 1 ((mbxFrame 0x0301 1 [0,0,0,128]))).mbx.upd 1 (fun c => { c with stage := 1 }), pd := [(32, { (default : PdPort) with query := 0, partnerSink := some [1, 2] })] }), 1, (mbxFrame 0x0301 1 [0,0,0,128]), 32, by decide⟩,
    ⟨({ bench (benchMbx State.reset 1 ((mbxFrame 0x0301 1 [0,0,0,128]))) with mbx := (benchMbx State.reset 1 ((mbxFrame 0x0301 1 [0,0,0,128]))).mbx.upd 1 (fun c => { c with stage := 1 }), pd := [(32, { (default : PdPort) with query := 1, partnerSink := some [1, 2] })] }), 1, (mbxFrame 0x0301 1 [0,0,0,128]), 32, by decide⟩,
    ⟨({ bench (benchMbx State.reset 3 ((mbxFrame 0x0301 1 [0,0,0,128]))) with mbx := [(3, { (default : Channel) with running := some ((mbxFrame 0x0301 1 [0,0,0,128])), stage := 1 })], pd := [(32, { (default : PdPort) with query := 1 })] }), 3, (mbxFrame 0x0301 1 [0,0,0,128]), 32, by decide⟩,
    ⟨benchMbx State.reset 1 ((mbxFrame 0x0302 0 [6,0,0,0,255,255,255,255,8,0,7,0])), 1, (mbxFrame 0x0302 0 [6,0,0,0,255,255,255,255,8,0,7,0]), 6, by decide⟩,
    ⟨benchMbx State.reset 1 ((mbxFrame 0x0303 0 [7])), 1, (mbxFrame 0x0303 0 [7]), 7, by decide⟩,
    ⟨benchMbx State.reset 1 ((mbxFrame 0x0303 0 [8])), 1, (mbxFrame 0x0303 0 [8]), 8, by decide⟩,
    ⟨benchMbx State.reset 1 ((mbxFrame 0x0303 1 [7,1,0,0,0,144,1,0])), 1, (mbxFrame 0x0303 1 [7,1,0,0,0,144,1,0]), 7, [0x19000], by decide⟩,
    ⟨benchMbx State.reset 1 ((mbxFrame 0x0303 1 [7,0,0,0])), 1, (mbxFrame 0x0303 1 [7,0,0,0]), 7, [], by decide⟩,
    ⟨({ benchPd (benchMbx State.reset 1 ((mbxFrame 0x0304 0 [32,0]))) 32 with mbx := (benchMbx State.reset 1 ((mbxFrame 0x0304 0 [32,0]))).mbx }.put F.TCPD_PDCFG_PRS_EN 32 true |>.setFld F.TCPD_CCCFG_ROLE 32 1 |>.put F.TCPD_PDSTAT_EPRMODE 32 false), 1, (mbxFrame 0x0304 0 [32,0]), 32, by decide⟩,
    ⟨({ benchPd (benchMbx State.reset 1 ((mbxFrame 0x0304 0 [32,0]))) 32 with mbx := (benchMbx State.reset 1 ((mbxFrame 0x0304 0 [32,0]))).mbx }.put F.TCPD_PDCFG_PRS_EN 32 false), 1, (mbxFrame 0x0304 0 [32,0]), 32, by decide⟩,
    ⟨benchMbx State.reset 1 ((mbxFrame 0x0304 0 [33,0])), 1, (mbxFrame 0x0304 0 [33,0]), 33, by decide⟩,
    ⟨({ bench (benchMbx State.reset 1 ((mbxFrame 0x0304 0 [32,0]))) with mbx := (benchMbx State.reset 1 ((mbxFrame 0x0304 0 [32,0]))).mbx.upd 1 (fun c => { c with stage := 1 }), pd := [(32, { (default : PdPort) with swapEnd := .wait })] }), 1, (mbxFrame 0x0304 0 [32,0]), 32, by decide⟩,
    ⟨({ bench (benchMbx State.reset 1 ((mbxFrame 0x0304 0 [32,0]))) with mbx := (benchMbx State.reset 1 ((mbxFrame 0x0304 0 [32,0]))).mbx.upd 1 (fun c => { c with stage := 1 }), pd := [(32, { (default : PdPort) with swapEnd := .pending })] }), 1, (mbxFrame 0x0304 0 [32,0]), 32, by decide⟩,
    ⟨({ benchPd (benchMbx State.reset 1 ((mbxFrame 0x0304 0 [32,1]))) 32 with mbx := (benchMbx State.reset 1 ((mbxFrame 0x0304 0 [32,1]))).mbx }.put F.TCPD_PDCFG_VCS_EN 32 true |>.put F.TCPD_PDSTAT_VCSRC 32 true), 1, (mbxFrame 0x0304 0 [32,1]), 32, by decide⟩,
    ⟨({ benchPd (benchMbx State.reset 1 ((mbxFrame 0x0304 0 [32,1]))) 32 with mbx := (benchMbx State.reset 1 ((mbxFrame 0x0304 0 [32,1]))).mbx }.put F.TCPD_PDCFG_VCS_EN 32 false), 1, (mbxFrame 0x0304 0 [32,1]), 32, by decide⟩,
    ⟨benchMbx State.reset 1 ((mbxFrame 0x0304 0 [33,1])), 1, (mbxFrame 0x0304 0 [33,1]), 33, by decide⟩,
    ⟨({ bench (benchMbx State.reset 1 ((mbxFrame 0x0304 0 [32,1]))) with mbx := (benchMbx State.reset 1 ((mbxFrame 0x0304 0 [32,1]))).mbx.upd 1 (fun c => { c with stage := 1 }), pd := [(32, { (default : PdPort) with swapEnd := .wait })] }), 1, (mbxFrame 0x0304 0 [32,1]), 32, by decide⟩,
    ⟨({ bench (benchMbx State.reset 1 ((mbxFrame 0x0304 0 [32,1]))) with mbx := (benchMbx State.reset 1 ((mbxFrame 0x0304 0 [32,1]))).mbx.upd 1 (fun c => { c with stage := 1 }), pd := [(32, { (default : PdPort) with swapEnd := .pending })] }), 1, (mbxFrame 0x0304 0 [32,1]), 32, by decide⟩,
    ⟨({ benchPd (benchMbx State.reset 1 ((mbxFrame 0x0305 0 [32,0]))) 32 with mbx := (benchMbx State.reset 1 ((mbxFrame 0x0305 0 [32,0]))).mbx }.setFld F.TCPD_CCSTAT_STATE 32 (4 + (benchMbx State.reset 1 ((mbxFrame 0x0305 0 [32,0]))).ct % 2)), 1, (mbxFrame 0x0305 0 [32,0]), 32, by decide⟩,
    ⟨(({ benchPd (benchMbx State.reset 1 ((mbxFrame 0x0305 0 [32,0]))) 32 with mbx := (benchMbx State.reset 1 ((mbxFrame 0x0305 0 [32,0]))).mbx }.put F.TCPD_PDSTAT_VCSRC 32 true).setCc 32 .disabled), 1, (mbxFrame 0x0305 0 [32,0]), 32, by decide⟩,
    ⟨benchMbx State.reset 1 ((mbxFrame 0x0305 0 [33,0])), 1, (mbxFrame 0x0305 0 [33,0]), 33, by decide⟩,
    ⟨({ benchPd (benchMbx State.reset 1 ((mbxFrame 0x0305 0 [32,1]))) 32 with mbx := (benchMbx State.reset 1 ((mbxFrame 0x0305 0 [32,1]))).mbx }.setFld F.TCPD_CCSTAT_STATE 32 (4 + (benchMbx State.reset 1 ((mbxFrame 0x0305 0 [32,1]))).ct % 2)), 1, (mbxFrame 0x0305 0 [32,1]), 32, by decide⟩,
    ⟨(({ benchPd (benchMbx State.reset 1 ((mbxFrame 0x0305 0 [32,1]))) 32 with mbx := (benchMbx State.reset 1 ((mbxFrame 0x0305 0 [32,1]))).mbx }.put F.TCPD_PDSTAT_VCSRC 32 true).setCc 32 .disabled), 1, (mbxFrame 0x0305 0 [32,1]), 32, by decide⟩,
    ⟨benchMbx State.reset 1 ((mbxFrame 0x0305 0 [33,1])), 1, (mbxFrame 0x0305 0 [33,1]), 33, by decide⟩,
    ⟨({ benchPd (benchMbx State.reset 1 ((mbxFrame 0x0305 0 [32,2]))) 32 with mbx := (benchMbx State.reset 1 ((mbxFrame 0x0305 0 [32,2]))).mbx }.put F.TCPD_PDSTAT_VCSRC 32 true), 1, (mbxFrame 0x0305 0 [32,2]), 32, by decide⟩,
    ⟨(({ benchPd (benchMbx State.reset 1 ((mbxFrame 0x0305 0 [32,2]))) 32 with mbx := (benchMbx State.reset 1 ((mbxFrame 0x0305 0 [32,2]))).mbx }.put F.TCPD_PDSTAT_VCSRC 32 true).setCc 32 .disabled), 1, (mbxFrame 0x0305 0 [32,2]), 32, by decide⟩,
    ⟨benchMbx State.reset 1 ((mbxFrame 0x0305 0 [33,2])), 1, (mbxFrame 0x0305 0 [33,2]), 33, by decide⟩,
    ⟨benchMbx State.reset 1 ((mbxFrame 0x0306 0 [6,0,0,0,1,2,3,4])), 1, (mbxFrame 0x0306 0 [6,0,0,0,1,2,3,4]), 6, by decide⟩,
    ⟨benchMbx State.reset 1 ((mbxFrame 0x0307 0 [4,3,2])), 1, true, (mbxFrame 0x0307 0 [4,3,2]), 4, 3, 2, by decide⟩,
    ⟨((benchMbx State.reset 1 ((mbxFrame 0x0307 0 [4,3,1]))).setFld F.PMU_DOMSTAT_ON 0 0), 1, true, (mbxFrame 0x0307 0 [4,3,1]), 4, 3, 1, by decide⟩,
    ⟨((benchMbx State.reset 1 ((mbxFrame 0x0307 0 [4,3,2]))).put F.CAL_STAT_COMMIT 0 true), 1, true, (mbxFrame 0x0307 0 [4,3,2]), 4, 3, 2, by decide⟩,
    ⟨benchMbx State.reset 1 ((mbxFrame 0x0307 0 [4,3,2])), 1, false, (mbxFrame 0x0307 0 [4,3,2]), 4, 3, 2, by decide⟩,
    ⟨benchMbx State.reset 1 ((mbxFrame 0x0307 0 [0,4,2])), 1, true, (mbxFrame 0x0307 0 [0,4,2]), 0, 4, 2, by decide⟩⟩

theorem hyps_PowerMailboxCommands :
  (∃ (s : State) (ch : Nat) (f : Frame), (s.mbx.at ch).running = some f ∧ f.code = 0x0401 ∧ s.linkUp 0 = true) ∧
  (∃ (s : State) (ch : Nat) (f : Frame), (s.mbx.at ch).running = some f ∧ f.code = 0x0401 ∧ s.linkUp 0 = false) ∧
  (∃ (s : State) (ch : Nat) (f : Frame), (s.mbx.at ch).running = some f ∧ f.code = 0x0402) ∧
  (∃ (s : State) (ch : Nat) (f : Frame), (s.mbx.at ch).running = some f ∧ f.code = 0x0403) ∧
  (∃ (s : State) (ch : Nat) (f : Frame) (m : Nat), (s.mbx.at ch).running = some f ∧ f.code = 0x0404
    ∧ word32 f.payload 0 = m ∧ s.maskFault ch m = 0) ∧
  (∃ (s : State) (ch : Nat) (f : Frame) (v m : Nat), (s.mbx.at ch).running = some f ∧ f.code = 0x0405
    ∧ byteAt f.payload 0 = v ∧ byteAt f.payload 1 = m ∧ s.entOn = true ∧ s.linkUp 0 = true ∧ v.testBit 3 = false) ∧
  (∃ (s : State) (ch : Nat) (f : Frame) (v m : Nat), (s.mbx.at ch).running = some f ∧ f.code = 0x0405
    ∧ byteAt f.payload 0 = v ∧ byteAt f.payload 1 = m ∧ s.entOn = true ∧ s.linkUp 0 = true ∧ v.testBit 3 = true
    ∧ m % 8 = 0 ∧ s.hsIs .latched = true ∧ s.hsTemp + 200 < s.hsTtrip) ∧
  (∃ (s : State) (ch : Nat) (f : Frame) (v m : Nat), (s.mbx.at ch).running = some f ∧ f.code = 0x0405
    ∧ byteAt f.payload 0 = v ∧ byteAt f.payload 1 = m ∧ s.entOn = true ∧ s.linkUp 0 = true ∧ v.testBit 3 = true
    ∧ m % 8 = 0 ∧ s.hsIs .latched = true ∧ s.hsTtrip ≤ s.hsTemp + 200) ∧
  (∃ (s : State) (ch : Nat) (f : Frame) (v m : Nat), (s.mbx.at ch).running = some f ∧ f.code = 0x0405
    ∧ byteAt f.payload 0 = v ∧ byteAt f.payload 1 = m ∧ s.entOn = true ∧ s.linkUp 0 = false) ∧
  (∃ (s : State) (ch : Nat) (f : Frame) (v m : Nat), (s.mbx.at ch).running = some f ∧ f.code = 0x0405
    ∧ byteAt f.payload 0 = v ∧ byteAt f.payload 1 = m ∧ s.entOn = false) ∧
  (∃ (s : State) (ch : Nat) (f : Frame) (m : Nat), (s.mbx.at ch).running = some f ∧ f.code = 0x0406
    ∧ word32 f.payload 0 = m ∧ s.maskFault ch m = 0) ∧
  (∃ (s : State) (ch : Nat) (f : Frame) (m : Nat), (s.mbx.at ch).running = some f ∧ f.code = 0x0406
    ∧ word32 f.payload 0 = m ∧ s.maskFault ch m ≠ 0) :=
  ⟨⟨benchMbx State.reset 1 ((mbxFrame 0x0401 0 [])), 1, (mbxFrame 0x0401 0 []), by decide⟩,
    ⟨((benchMbx State.reset 1 ((mbxFrame 0x0401 0 []))).setFld F.D2D_LSTAT_STATE 1 0), 1, (mbxFrame 0x0401 0 []), by decide⟩,
    ⟨benchMbx State.reset 1 ((mbxFrame 0x0402 0 [1,2,3,4,5,6,7,8,9,10,11,12])), 1, (mbxFrame 0x0402 0 [1,2,3,4,5,6,7,8,9,10,11,12]), by decide⟩,
    ⟨benchMbx State.reset 1 ((mbxFrame 0x0403 0 [1,2,3,4,5,6,7,8])), 1, (mbxFrame 0x0403 0 [1,2,3,4,5,6,7,8]), by decide⟩,
    ⟨benchMbx State.reset 1 ((mbxFrame 0x0404 0 [6,0,0,0,1,2,3,4,5,6,7,8,9,10,11,12,13,14,15,16])), 1, (mbxFrame 0x0404 0 [6,0,0,0,1,2,3,4,5,6,7,8,9,10,11,12,13,14,15,16]), 6, by decide⟩,
    ⟨({ (benchMbx State.reset 1 ((mbxFrame 0x0405 0 [7,7]))) with staged := [] }), 1, (mbxFrame 0x0405 0 [7,7]), 7, 7, by decide⟩,
    ⟨((benchMbx State.reset 1 ((mbxFrame 0x0405 0 [8,0]))).setHs .latched), 1, (mbxFrame 0x0405 0 [8,0]), 8, 0, by decide⟩,
    ⟨((benchMbx State.reset 1 ((mbxFrame 0x0405 0 [8,0]))).setHs .latched |>.setFld F.ENT_HSM_TEST 0 1500), 1, (mbxFrame 0x0405 0 [8,0]), 8, 0, by decide⟩,
    ⟨((benchMbx State.reset 1 ((mbxFrame 0x0405 0 [7,7]))).setFld F.D2D_LSTAT_STATE 1 0), 1, (mbxFrame 0x0405 0 [7,7]), 7, 7, by decide⟩,
    ⟨({ (benchMbx State.reset 1 ((mbxFrame 0x0405 0 [7,7]))) with power := { (benchMbx State.reset 1 ((mbxFrame 0x0405 0 [7,7]))).power with dormancy := .asleep } }), 1, (mbxFrame 0x0405 0 [7,7]), 7, 7, by decide⟩,
    ⟨benchMbx State.reset 1 ((mbxFrame 0x0406 0 [6,0,0,0])), 1, (mbxFrame 0x0406 0 [6,0,0,0]), 6, by decide⟩,
    ⟨benchMbx State.reset 1 ((mbxFrame 0x0406 0 [0,0,0,0])), 1, (mbxFrame 0x0406 0 [0,0,0,0]), 0, by decide⟩⟩

theorem hyps_TimeMailboxCommands :
  (∃ (s : State) (ch : Nat) (f : Frame), (s.mbx.at ch).running = some f ∧ f.code = 0x0501) ∧
  (∃ (s : State) (ch : Nat) (f : Frame) (v : Nat), (s.mbx.at ch).running = some f ∧ f.code = 0x0502
    ∧ ofLe (f.payload.take 8) = v ∧ s.upActive = false) ∧
  (∃ (s : State) (ch : Nat) (f : Frame) (v : Nat), (s.mbx.at ch).running = some f ∧ f.code = 0x0502
    ∧ ofLe (f.payload.take 8) = v ∧ s.upActive = true) ∧
  (∃ (s : State) (ch : Nat) (f : Frame) (w : List Nat) (i : Nat), (s.mbx.at ch).running = some f ∧ f.code = 0x0503
    ∧ addWords f.payload = w ∧ s.mayAdd ch w = true ∧ ((tatCode w ≠ 0xE ∨ s.hasUpstream (w.getD 5 0 % 4) = true))
    ∧ s.tatCheck (tatWords w) = 0 ∧ s.tatFree = some i) ∧
  (∃ (s : State) (ch : Nat) (f : Frame) (w : List Nat), (s.mbx.at ch).running = some f ∧ f.code = 0x0503
    ∧ addWords f.payload = w ∧ s.mayAdd ch w = true ∧ ((tatCode w ≠ 0xE ∨ s.hasUpstream (w.getD 5 0 % 4) = true))
    ∧ s.tatCheck (tatWords w) ≠ 0) ∧
  (∃ (s : State) (ch : Nat) (f : Frame) (w : List Nat), (s.mbx.at ch).running = some f ∧ f.code = 0x0503
    ∧ addWords f.payload = w ∧ s.mayAdd ch w = false) ∧
  (∃ (s : State) (ch : Nat) (f : Frame) (w : List Nat), (s.mbx.at ch).running = some f ∧ f.code = 0x0503
    ∧ addWords f.payload = w ∧ s.mayAdd ch w = true ∧ tatCode w = 0xE ∧ s.hasUpstream (w.getD 5 0 % 4) = false) ∧
  (∃ (s : State) (ch : Nat) (f : Frame) (i : Nat), (s.mbx.at ch).running = some f ∧ f.code = 0x0504 ∧ half f.payload 0 = i
    ∧ i ≤ 511 ∧ (ownerChannel ch = true ∨ (s.tat.at i).channel = some ch) ∧ (s.tat.at i).st = 1
    ∧ s.ct + s.lead < tatCt (s.tat.at i).words) ∧
  (∃ (s : State) (ch : Nat) (f : Frame) (i : Nat), (s.mbx.at ch).running = some f ∧ f.code = 0x0504 ∧ half f.payload 0 = i
    ∧ i ≤ 511 ∧ (ownerChannel ch = true ∨ (s.tat.at i).channel = some ch)
    ∧ (((s.tat.at i).st ≠ 1 ∨ tatCt (s.tat.at i).words ≤ s.ct + s.lead))) ∧
  (∃ (s : State) (ch : Nat) (f : Frame) (i : Nat), (s.mbx.at ch).running = some f ∧ f.code = 0x0504 ∧ half f.payload 0 = i
    ∧ i ≤ 511 ∧ ownerChannel ch = false ∧ (s.tat.at i).channel ≠ some ch) ∧
  (∃ (s : State) (ch : Nat) (f : Frame) (i : Nat), (s.mbx.at ch).running = some f ∧ f.code = 0x0504 ∧ half f.payload 0 = i
    ∧ 511 < i) ∧
  (∃ (s : State) (ch : Nat) (f : Frame) (i n : Nat), (s.mbx.at ch).running = some f ∧ f.code = 0x0505
    ∧ half f.payload 0 = i ∧ half f.payload 2 = n ∧ 1 ≤ n ∧ n ≤ 32 ∧ i + n ≤ 512) ∧
  (∃ (s : State) (ch : Nat) (f : Frame) (i n : Nat), (s.mbx.at ch).running = some f ∧ f.code = 0x0505
    ∧ half f.payload 0 = i ∧ half f.payload 2 = n ∧ ((n = 0 ∨ 32 < n ∨ 512 < i + n))) ∧
  (∃ (s : State) (ch : Nat) (f : Frame) (k n : Nat), (s.mbx.at ch).running = some f ∧ f.code = 0x0506
    ∧ byteAt f.payload 0 = k ∧ byteAt f.payload 1 = n ∧ s.hasUpstream k = true ∧ 1 ≤ n ∧ n ≤ 64) ∧
  (∃ (s : State) (ch : Nat) (f : Frame) (k n : Nat), (s.mbx.at ch).running = some f ∧ f.code = 0x0506
    ∧ byteAt f.payload 0 = k ∧ byteAt f.payload 1 = n ∧ ((s.hasUpstream k = false ∨ n = 0 ∨ 64 < n))) :=
  ⟨⟨((benchMbx State.reset 1 ((mbxFrame 0x0501 0 []))).setFld F.RTC_EPOCH_HI_EPOCH 0 5), 1, (mbxFrame 0x0501 0 []), by decide⟩,
    ⟨benchMbx State.reset 1 ((mbxFrame 0x0502 0 [1,0,0,0,0,0,0,0])), 1, (mbxFrame 0x0502 0 [1,0,0,0,0,0,0,0]), 1, by decide⟩,
    ⟨({ (benchMbx State.reset 1 ((mbxFrame 0x0502 0 [1,0,0,0,0,0,0,0]))).put F.CHORD_CFG_APEX 0 false |>.setFld F.CHORD_STAT_ACTIVEUP 0 0 |>.setFld F.CHORD_LSTAT_STATE 0 4 with chord := { (benchMbx State.reset 1 ((mbxFrame 0x0502 0 [1,0,0,0,0,0,0,0]))).chord with active := true } }), 1, (mbxFrame 0x0502 0 [1,0,0,0,0,0,0,0]), 1, by decide⟩,
    ⟨benchMbx State.reset 1 ((mbxFrame 0x0503 0 (([0,2^30,4,1,0,0,0]:List Nat).flatMap (le 4)))), 1, (mbxFrame 0x0503 0 (([0,2^30,4,1,0,0,0]:List Nat).flatMap (le 4))), [0,2^30,4,1,0,0,0], 0, by decide +kernel⟩,
    ⟨benchMbx State.reset 1 ((mbxFrame 0x0503 0 (([0,0,4,1,0,0,0]:List Nat).flatMap (le 4)))), 1, (mbxFrame 0x0503 0 (([0,0,4,1,0,0,0]:List Nat).flatMap (le 4))), [0,0,4,1,0,0,0], by decide⟩,
    ⟨({ bench (benchMbx State.reset 3 ((mbxFrame 0x0503 0 (([0,2^30,4,10,0,0,0]:List Nat).flatMap (le 4))))) with mbx := [(3, { (default : Channel) with running := some ((mbxFrame 0x0503 0 (([0,2^30,4,10,0,0,0]:List Nat).flatMap (le 4)))) })] }), 3, (mbxFrame 0x0503 0 (([0,2^30,4,10,0,0,0]:List Nat).flatMap (le 4))), [0,2^30,4,10,0,0,0], by decide⟩,
    ⟨((benchMbx State.reset 1 ((mbxFrame 0x0503 0 (([0,2^30,4,14,0,2,0]:List Nat).flatMap (le 4))))).setFld F.SYS_ID_DIES 0 0), 1, (mbxFrame 0x0503 0 (([0,2^30,4,14,0,2,0]:List Nat).flatMap (le 4))), [0,2^30,4,14,0,2,0], by decide⟩,
    ⟨({ (benchMbx State.reset 1 ((mbxFrame 0x0504 0 [3,0]))) with tat := [(3, { (default : TatEntry) with st := 1, words := [0, 2 ^ 30 * 1, 0, 0, 0, 0, 0] })] }), 1, (mbxFrame 0x0504 0 [3,0]), 3, by decide⟩,
    ⟨({ (benchMbx State.reset 1 ((mbxFrame 0x0504 0 [3,0]))) with tat := [(3, { (default : TatEntry) with st := 1 + (benchMbx State.reset 1 ((mbxFrame 0x0504 0 [3,0]))).free % 2, words := [0, 2 ^ 30 * 0, 0, 0, 0, 0, 0] })] }), 1, (mbxFrame 0x0504 0 [3,0]), 3, by decide⟩,
    ⟨({ bench (benchMbx State.reset 3 ((mbxFrame 0x0504 0 [3,0]))) with mbx := [(3, { (default : Channel) with running := some ((mbxFrame 0x0504 0 [3,0])) })], tat := [(3, { (default : TatEntry) with st := 1 })] }), 3, (mbxFrame 0x0504 0 [3,0]), 3, by decide⟩,
    ⟨benchMbx State.reset 1 ((mbxFrame 0x0504 0 [0,2])), 1, (mbxFrame 0x0504 0 [0,2]), 512, by decide⟩,
    ⟨benchMbx State.reset 1 ((mbxFrame 0x0505 0 [0,0,32,0])), 1, (mbxFrame 0x0505 0 [0,0,32,0]), 0, 32, by decide⟩,
    ⟨benchMbx State.reset 1 ((mbxFrame 0x0505 0 [0,0,33,0])), 1, (mbxFrame 0x0505 0 [0,0,33,0]), 0, 33, by decide⟩,
    ⟨((benchMbx State.reset 1 ((mbxFrame 0x0506 0 [0,64]))).writeBytes (sofAddr 0 3) [1, 2, 3, 4, 5, 6, 7, 8, 9, 10, 11, 12, 1, 14, 15, 16]), 1, (mbxFrame 0x0506 0 [0,64]), 0, 64, by decide⟩,
    ⟨benchMbx State.reset 1 ((mbxFrame 0x0506 0 [0,65])), 1, (mbxFrame 0x0506 0 [0,65]), 0, 65, by decide⟩⟩

theorem hyps_TraceMailboxCommands :
  (∃ (s : State) (ch : Nat) (f : Frame), (s.mbx.at ch).running = some f ∧ f.code = 0x0601 ∧ s.needs Dom.trace = true) ∧
  (∃ (s : State) (ch : Nat) (f : Frame), (s.mbx.at ch).running = some f ∧ f.code = 0x0601 ∧ s.needs Dom.trace = false) ∧
  (∃ (s : State) (ch : Nat) (f : Frame), (s.mbx.at ch).running = some f ∧ f.code = 0x0602 ∧ s.needs Dom.trace = true
    ∧ s.capturing = false) ∧
  (∃ (s : State) (ch : Nat) (f : Frame), (s.mbx.at ch).running = some f ∧ f.code = 0x0602 ∧ s.needs Dom.trace = true
    ∧ s.capturing = true) ∧
  (∃ (s : State) (ch : Nat) (f : Frame), (s.mbx.at ch).running = some f ∧ f.code = 0x0602 ∧ s.needs Dom.trace = false) ∧
  (∃ (s : State) (ch : Nat) (f : Frame), (s.mbx.at ch).running = some f ∧ f.code = 0x0603 ∧ byteAt f.payload 0 = 0
    ∧ ownerChannel ch = true ∧ s.needs Dom.trace = true) ∧
  (∃ (s : State) (ch : Nat) (f : Frame), (s.mbx.at ch).running = some f ∧ f.code = 0x0603 ∧ byteAt f.payload 0 = 0
    ∧ ownerChannel ch = true ∧ s.needs Dom.trace = false) ∧
  (∃ (s : State) (ch : Nat) (f : Frame), (s.mbx.at ch).running = some f ∧ f.code = 0x0603 ∧ byteAt f.payload 0 = 0
    ∧ ownerChannel ch = false) ∧
  (∃ (s : State) (ch : Nat) (f : Frame), (s.mbx.at ch).running = some f ∧ f.code = 0x0603 ∧ byteAt f.payload 0 = 1
    ∧ ownerChannel ch = true ∧ s.needs Dom.trace = true) ∧
  (∃ (s : State) (ch : Nat) (f : Frame), (s.mbx.at ch).running = some f ∧ f.code = 0x0603 ∧ byteAt f.payload 0 = 1
    ∧ ownerChannel ch = true ∧ s.needs Dom.trace = false) ∧
  (∃ (s : State) (ch : Nat) (f : Frame), (s.mbx.at ch).running = some f ∧ f.code = 0x0603 ∧ byteAt f.payload 0 = 1
    ∧ ownerChannel ch = false) ∧
  (∃ (s : State) (ch : Nat) (f : Frame), (s.mbx.at ch).running = some f ∧ f.code = 0x0603 ∧ byteAt f.payload 0 = 2
    ∧ ownerChannel ch = true ∧ s.needs Dom.trace = true ∧ s.fld F.TRC_STAT_STATE 0 = 2 ∧ s.trc.trigCt ≠ some s.ct) ∧
  (∃ (s : State) (ch : Nat) (f : Frame), (s.mbx.at ch).running = some f ∧ f.code = 0x0603 ∧ byteAt f.payload 0 = 2
    ∧ ownerChannel ch = true ∧ s.needs Dom.trace = true ∧ (s.fld F.TRC_STAT_STATE 0 ≠ 2 ∨ s.trc.trigCt = some s.ct)) ∧
  (∃ (s : State) (ch : Nat) (f : Frame), (s.mbx.at ch).running = some f ∧ f.code = 0x0603 ∧ byteAt f.payload 0 = 2
    ∧ ownerChannel ch = true ∧ s.needs Dom.trace = false) ∧
  (∃ (s : State) (ch : Nat) (f : Frame), (s.mbx.at ch).running = some f ∧ f.code = 0x0603 ∧ byteAt f.payload 0 = 2
    ∧ ownerChannel ch = false) ∧
  (∃ (s : State) (ch : Nat) (f : Frame), (s.mbx.at ch).running = some f ∧ f.code = 0x0603 ∧ byteAt f.payload 0 = 3
    ∧ ownerChannel ch = true ∧ s.needs Dom.trace = true ∧ s.capturing = false) ∧
  (∃ (s : State) (ch : Nat) (f : Frame), (s.mbx.at ch).running = some f ∧ f.code = 0x0603 ∧ byteAt f.payload 0 = 3
    ∧ ownerChannel ch = true ∧ s.needs Dom.trace = true ∧ s.capturing = true) ∧
  (∃ (s : State) (ch : Nat) (f : Frame), (s.mbx.at ch).running = some f ∧ f.code = 0x0603 ∧ byteAt f.payload 0 = 3
    ∧ ownerChannel ch = true ∧ s.needs Dom.trace = false) ∧
  (∃ (s : State) (ch : Nat) (f : Frame), (s.mbx.at ch).running = some f ∧ f.code = 0x0603 ∧ byteAt f.payload 0 = 3
    ∧ ownerChannel ch = false) ∧
  (∃ (s : State) (ch : Nat) (f : Frame), (s.mbx.at ch).running = some f ∧ f.code = 0x0603 ∧ byteAt f.payload 0 = 4
    ∧ s.needs Dom.trace = true) ∧
  (∃ (s : State) (ch : Nat) (f : Frame), (s.mbx.at ch).running = some f ∧ f.code = 0x0603 ∧ byteAt f.payload 0 = 4
    ∧ s.needs Dom.trace = false) ∧
  (∃ (s : State) (ch : Nat) (f : Frame), (s.mbx.at ch).running = some f ∧ f.code = 0x0603 ∧ 4 < byteAt f.payload 0
    ∧ ownerChannel ch = true) ∧
  (∃ (s : State) (ch : Nat) (f : Frame), (s.mbx.at ch).running = some f ∧ f.code = 0x0603 ∧ 4 < byteAt f.payload 0
    ∧ ownerChannel ch = false) ∧
  (∃ (s : State) (ch : Nat) (one : Nat) (two : Nat) (f : Frame) (keep most : Nat), (s.mbx.at ch).running = some f
    ∧ f.code = 0x0604 ∧ half f.payload 0 = keep ∧ half f.payload 2 = most ∧ 1 ≤ most ∧ most ≤ 1024
    ∧ s.needs Dom.trace = true ∧ s.fld F.TRC_EXP_DEST 0 = 5) ∧
  (∃ (s : State) (ch : Nat) (one : Nat) (two : Nat) (f : Frame) (keep most : Nat), (s.mbx.at ch).running = some f
    ∧ f.code = 0x0604 ∧ half f.payload 0 = keep ∧ half f.payload 2 = most ∧ 1 ≤ most ∧ most ≤ 1024
    ∧ ((s.needs Dom.trace = false ∨ s.fld F.TRC_EXP_DEST 0 ≠ 5))) ∧
  (∃ (s : State) (ch : Nat) (one : Nat) (two : Nat) (f : Frame) (keep most : Nat), (s.mbx.at ch).running = some f
    ∧ f.code = 0x0604 ∧ half f.payload 0 = keep ∧ half f.payload 2 = most ∧ ((most = 0 ∨ 1024 < most))) :=
  ⟨⟨((benchMbx State.reset 1 ((mbxFrame 0x0601 0 []))).setFld F.TRC_STAT_STATE 0 ((benchMbx State.reset 1 ((mbxFrame 0x0601 0 []))).free % 5) |>.putBit F.PMU_DOMSTAT_ON 0 Dom.trace true), 1, (mbxFrame 0x0601 0 []), by decide⟩,
    ⟨((benchMbx State.reset 1 ((mbxFrame 0x0601 0 []))).putBit F.PMU_DOMSTAT_ON 0 Dom.trace false), 1, (mbxFrame 0x0601 0 []), by decide⟩,
    ⟨((benchMbx State.reset 1 ((mbxFrame 0x0602 0 (List.replicate 60 7)))).setFld F.TRC_STAT_STATE 0 ((benchMbx State.reset 1 ((mbxFrame 0x0602 0 (List.replicate 60 7)))).free % 2)), 1, (mbxFrame 0x0602 0 (List.replicate 60 7)), by decide⟩,
    ⟨((benchMbx State.reset 1 ((mbxFrame 0x0602 0 (List.replicate 60 7)))).setFld F.TRC_STAT_STATE 0 2), 1, (mbxFrame 0x0602 0 (List.replicate 60 7)), by decide⟩,
    ⟨((benchMbx State.reset 1 ((mbxFrame 0x0602 0 (List.replicate 60 7)))).putBit F.PMU_DOMSTAT_ON 0 Dom.trace false), 1, (mbxFrame 0x0602 0 (List.replicate 60 7)), by decide⟩,
    ⟨((benchMbx State.reset 1 ((mbxFrame 0x0603 0 [0]))).setFld F.TRC_STAT_STATE 0 ((benchMbx State.reset 1 ((mbxFrame 0x0603 0 [0]))).free % 5) |>.putBit F.PMU_DOMSTAT_ON 0 Dom.trace true), 1, (mbxFrame 0x0603 0 [0]), by decide⟩,
    ⟨((benchMbx State.reset 1 ((mbxFrame 0x0603 0 [0]))).putBit F.PMU_DOMSTAT_ON 0 Dom.trace false), 1, (mbxFrame 0x0603 0 [0]), by decide⟩,
    ⟨({ bench (benchMbx State.reset 3 ((mbxFrame 0x0603 0 [0]))) with mbx := [(3, { (default : Channel) with running := some ((mbxFrame 0x0603 0 [0])) })] }), 3, (mbxFrame 0x0603 0 [0]), by decide⟩,
    ⟨((benchMbx State.reset 1 ((mbxFrame 0x0603 0 [1]))).setFld F.TRC_STAT_STATE 0 ((benchMbx State.reset 1 ((mbxFrame 0x0603 0 [1]))).free % 5) |>.putBit F.PMU_DOMSTAT_ON 0 Dom.trace true), 1, (mbxFrame 0x0603 0 [1]), by decide⟩,
    ⟨((benchMbx State.reset 1 ((mbxFrame 0x0603 0 [1]))).putBit F.PMU_DOMSTAT_ON 0 Dom.trace false), 1, (mbxFrame 0x0603 0 [1]), by decide⟩,
    ⟨({ bench (benchMbx State.reset 3 ((mbxFrame 0x0603 0 [1]))) with mbx := [(3, { (default : Channel) with running := some ((mbxFrame 0x0603 0 [1])) })] }), 3, (mbxFrame 0x0603 0 [1]), by decide⟩,
    ⟨((benchMbx State.reset 1 ((mbxFrame 0x0603 0 [2]))).setFld F.TRC_STAT_STATE 0 2 |>.putBit F.PMU_DOMSTAT_ON 0 Dom.trace true), 1, (mbxFrame 0x0603 0 [2]), by decide⟩,
    ⟨((benchMbx State.reset 1 ((mbxFrame 0x0603 0 [2]))).setFld F.TRC_STAT_STATE 0 1 |>.putBit F.PMU_DOMSTAT_ON 0 Dom.trace true), 1, (mbxFrame 0x0603 0 [2]), by decide⟩,
    ⟨((benchMbx State.reset 1 ((mbxFrame 0x0603 0 [2]))).putBit F.PMU_DOMSTAT_ON 0 Dom.trace false), 1, (mbxFrame 0x0603 0 [2]), by decide⟩,
    ⟨({ bench (benchMbx State.reset 3 ((mbxFrame 0x0603 0 [2]))) with mbx := [(3, { (default : Channel) with running := some ((mbxFrame 0x0603 0 [2])) })] }), 3, (mbxFrame 0x0603 0 [2]), by decide⟩,
    ⟨((benchMbx State.reset 1 ((mbxFrame 0x0603 0 [3]))).setFld F.TRC_STAT_STATE 0 (1 + (benchMbx State.reset 1 ((mbxFrame 0x0603 0 [3]))).free % 2 * 3) |>.putBit F.PMU_DOMSTAT_ON 0 Dom.trace true), 1, (mbxFrame 0x0603 0 [3]), by decide⟩,
    ⟨((benchMbx State.reset 1 ((mbxFrame 0x0603 0 [3]))).setFld F.TRC_STAT_STATE 0 2 |>.putBit F.PMU_DOMSTAT_ON 0 Dom.trace true), 1, (mbxFrame 0x0603 0 [3]), by decide⟩,
    ⟨((benchMbx State.reset 1 ((mbxFrame 0x0603 0 [3]))).putBit F.PMU_DOMSTAT_ON 0 Dom.trace false), 1, (mbxFrame 0x0603 0 [3]), by decide⟩,
    ⟨({ bench (benchMbx State.reset 3 ((mbxFrame 0x0603 0 [3]))) with mbx := [(3, { (default : Channel) with running := some ((mbxFrame 0x0603 0 [3])) })] }), 3, (mbxFrame 0x0603 0 [3]), by decide⟩,
    ⟨((benchMbx State.reset 1 ((mbxFrame 0x0603 0 [4,0,0,0,1,2,3,4]))).setFld F.TRC_STAT_STATE 0 2 |>.putBit F.PMU_DOMSTAT_ON 0 Dom.trace true), 1, (mbxFrame 0x0603 0 [4,0,0,0,1,2,3,4]), by decide⟩,
    ⟨((benchMbx State.reset 1 ((mbxFrame 0x0603 0 [4,0,0,0,1,2,3,4]))).putBit F.PMU_DOMSTAT_ON 0 Dom.trace false), 1, (mbxFrame 0x0603 0 [4,0,0,0,1,2,3,4]), by decide⟩,
    ⟨benchMbx State.reset 1 ((mbxFrame 0x0603 0 [5,0,0,0,1,2,3,4])), 1, (mbxFrame 0x0603 0 [5,0,0,0,1,2,3,4]), by decide⟩,
    ⟨({ bench (benchMbx State.reset 3 ((mbxFrame 0x0603 0 [5,0,0,0,1,2,3,4]))) with mbx := [(3, { (default : Channel) with running := some ((mbxFrame 0x0603 0 [5,0,0,0,1,2,3,4])) })] }), 3, (mbxFrame 0x0603 0 [5,0,0,0,1,2,3,4]), by decide⟩,
    ⟨((benchMbx State.reset 1 ((mbxFrame 0x0604 0 [0,0,0,4]))).setFld F.TRC_EXP_DEST 0 5 |>.updTrc (fun r => { r with wr := 0, rd := 0 })), 1, 0, 0, (mbxFrame 0x0604 0 [0,0,0,4]), 0, 1024, by decide⟩,
    ⟨((benchMbx State.reset 1 ((mbxFrame 0x0604 0 [0,0,0,4]))).setFld F.TRC_EXP_DEST 0 4), 1, 0, 0, (mbxFrame 0x0604 0 [0,0,0,4]), 0, 1024, by decide⟩,
    ⟨benchMbx State.reset 1 ((mbxFrame 0x0604 0 [0,0,1,4])), 1, 0, 0, (mbxFrame 0x0604 0 [0,0,1,4]), 0, 1025, by decide⟩⟩

theorem hyps_FaultMailboxCommands :
  (∃ (s : State) (ch : Nat) (f : Frame) (id : Nat), (s.mbx.at ch).running = some f ∧ f.code = 0x0701
    ∧ f.opt.testBit 0 = false ∧ half f.payload 0 = id ∧ fcDefined id = true) ∧
  (∃ (s : State) (ch : Nat) (f : Frame) (id : Nat), (s.mbx.at ch).running = some f ∧ f.code = 0x0701
    ∧ f.opt.testBit 0 = false ∧ half f.payload 0 = id ∧ fcDefined id = false) ∧
  (∃ (s : State) (ch : Nat) (f : Frame), (s.mbx.at ch).running = some f ∧ f.code = 0x0701 ∧ f.opt.testBit 0 = true) ∧
  (∃ (s : State) (ch : Nat) (f : Frame) (id w : Nat), (s.mbx.at ch).running = some f ∧ f.code = 0x0702
    ∧ half f.payload 0 = id ∧ word32 f.payload 4 = w ∧ fcDefined id = true) ∧
  (∃ (s : State) (ch : Nat) (f : Frame) (id w : Nat), (s.mbx.at ch).running = some f ∧ f.code = 0x0702
    ∧ half f.payload 0 = id ∧ word32 f.payload 4 = w ∧ fcDefined id = false) ∧
  (∃ (s : State) (ch : Nat) (f : Frame) (id : Nat), (s.mbx.at ch).running = some f ∧ f.code = 0x0703
    ∧ half f.payload 0 = 1 ∧ half f.payload 4 = id ∧ fcDefined id = true ∧ s.mayClear ch id = true ∧ s.fcLive id = true
    ∧ s.fcCause id = false) ∧
  (∃ (s : State) (ch : Nat) (f : Frame) (id : Nat), (s.mbx.at ch).running = some f ∧ f.code = 0x0703
    ∧ half f.payload 0 = 1 ∧ half f.payload 4 = id ∧ fcDefined id = true ∧ s.mayClear ch id = true ∧ s.fcLive id = true
    ∧ s.fcCause id = true) ∧
  (∃ (s : State) (ch : Nat) (f : Frame) (id : Nat), (s.mbx.at ch).running = some f ∧ f.code = 0x0703
    ∧ half f.payload 0 = 1 ∧ half f.payload 4 = id ∧ fcDefined id = true ∧ s.mayClear ch id = false) ∧
  (∃ (s : State) (ch : Nat) (f : Frame) (id : Nat), (s.mbx.at ch).running = some f ∧ f.code = 0x0703
    ∧ half f.payload 0 = 1 ∧ half f.payload 4 = id ∧ fcDefined id = false) ∧
  (∃ (s : State) (ch : Nat) (f : Frame) (id mode : Nat), (s.mbx.at ch).running = some f ∧ f.code = 0x0704
    ∧ half f.payload 0 = id ∧ byteAt f.payload 2 = mode ∧ mode ≤ 1 ∧ s.fcInjectable id = 0) ∧
  (∃ (s : State) (ch : Nat) (f : Frame) (id mode : Nat), (s.mbx.at ch).running = some f ∧ f.code = 0x0704
    ∧ half f.payload 0 = id ∧ byteAt f.payload 2 = mode ∧ mode ≤ 1 ∧ s.fcInjectable id ≠ 0) ∧
  (∃ (s : State) (ch : Nat) (f : Frame) (id mode : Nat), (s.mbx.at ch).running = some f ∧ f.code = 0x0704
    ∧ half f.payload 0 = id ∧ byteAt f.payload 2 = mode ∧ 1 < mode) ∧
  (∃ (s : State) (ch : Nat) (f : Frame), (s.mbx.at ch).running = some f ∧ f.code = 0x0705 ∧ s.on F.FC_ST_BUSY 0 = false) ∧
  (∃ (s : State) (ch : Nat) (f : Frame), (s.mbx.at ch).running = some f ∧ f.code = 0x0705 ∧ s.on F.FC_ST_BUSY 0 = true) ∧
  (∃ (s : State) (ch : Nat) (f : Frame), (s.mbx.at ch).running = some f ∧ f.code = 0x0706 ∧ (ch ≠ 6 ∨ f.mode ≠ 2)) ∧
  (∃ (s : State) (ch : Nat) (f : Frame) (i : ChordIn) (rest : List ChordIn), ch = 6 ∧ (s.mbx.at 6).running = some f
    ∧ f.code = 0x0706 ∧ f.mode = 2 ∧ s.chord.inbox = i :: rest ∧ i.mode = 2 ∧ f.flags.testBit 3 = false ∧ s.apex = true
    ∧ s.chord.gathered < 2048) ∧
  (∃ (s : State) (ch : Nat) (f : Frame) (i : ChordIn) (rest : List ChordIn), ch = 6 ∧ (s.mbx.at 6).running = some f
    ∧ f.code = 0x0706 ∧ f.mode = 2 ∧ s.chord.inbox = i :: rest ∧ i.mode = 2 ∧ f.flags.testBit 3 = false ∧ s.apex = true
    ∧ 2048 ≤ s.chord.gathered) ∧
  (∃ (s : State) (ch : Nat) (f : Frame) (i : ChordIn) (rest : List ChordIn), ch = 6 ∧ (s.mbx.at 6).running = some f
    ∧ f.code = 0x0706 ∧ f.mode = 2 ∧ s.chord.inbox = i :: rest ∧ i.mode = 2 ∧ f.flags.testBit 3 = false ∧ s.apex = false) ∧
  (∃ (s : State) (ch : Nat) (f : Frame) (i : ChordIn) (rest : List ChordIn), ch = 6 ∧ (s.mbx.at 6).running = some f
    ∧ f.code = 0x0706 ∧ f.mode = 2 ∧ s.chord.inbox = i :: rest ∧ i.mode = 2 ∧ f.flags.testBit 3 = true) ∧
  (∃ (s : State) (ch : Nat) (f : Frame) (a n : Nat), (s.mbx.at ch).running = some f ∧ f.code = 0x0707
    ∧ word32 f.payload 0 = a ∧ byteAt f.payload 4 = n ∧ 1 ≤ n ∧ n ≤ 32) ∧
  (∃ (s : State) (ch : Nat) (f : Frame) (a n : Nat), (s.mbx.at ch).running = some f ∧ f.code = 0x0707
    ∧ word32 f.payload 0 = a ∧ byteAt f.payload 4 = n ∧ ((n = 0 ∨ 32 < n))) :=
  ⟨⟨benchMbx State.reset 1 ((mbxFrame 0x0701 0 [64,16])), 1, (mbxFrame 0x0701 0 [64,16]), 0x1040, by decide⟩,
    ⟨benchMbx State.reset 1 ((mbxFrame 0x0701 0 [255,255])), 1, (mbxFrame 0x0701 0 [255,255]), 0xFFFF, by decide⟩,
    ⟨benchMbx State.reset 1 ((mbxFrame 0x0701 1 [])), 1, (mbxFrame 0x0701 1 []), by decide⟩,
    ⟨benchMbx State.reset 1 ((mbxFrame 0x0702 0 [64,16,1,0,5,6,7,8])), 1, (mbxFrame 0x0702 0 [64,16,1,0,5,6,7,8]), 0x1040, 0x08070605, by decide⟩,
    ⟨benchMbx State.reset 1 ((mbxFrame 0x0702 0 [255,255,1,0,5,6,7,8])), 1, (mbxFrame 0x0702 0 [255,255,1,0,5,6,7,8]), 0xFFFF, 0x08070605, by decide⟩,
    ⟨({ (benchMbx State.reset 1 ((mbxFrame 0x0703 0 [1,0,0,0,64,16]))) with fc := { (benchMbx State.reset 1 ((mbxFrame 0x0703 0 [1,0,0,0,64,16]))).fc with sources := [(0x1040, { (default : FcSource) with st := if (benchMbx State.reset 1 ((mbxFrame 0x0703 0 [1,0,0,0,64,16]))).ct % 2 = 0 then .fault else .minor, wire := false })] } }), 1, (mbxFrame 0x0703 0 [1,0,0,0,64,16]), 0x1040, by decide⟩,
    ⟨({ (benchMbx State.reset 1 ((mbxFrame 0x0703 0 [1,0,0,0,64,16]))) with fc := { (benchMbx State.reset 1 ((mbxFrame 0x0703 0 [1,0,0,0,64,16]))).fc with sources := [(0x1040, { (default : FcSource) with st := if (benchMbx State.reset 1 ((mbxFrame 0x0703 0 [1,0,0,0,64,16]))).ct % 2 = 0 then .fault else .minor, wire := true })] } }), 1, (mbxFrame 0x0703 0 [1,0,0,0,64,16]), 0x1040, by decide⟩,
    ⟨({ bench (benchMbx State.reset 3 ((mbxFrame 0x0703 0 [1,0,0,0,0,9]))) with mbx := [(3, { (default : Channel) with running := some ((mbxFrame 0x0703 0 [1,0,0,0,0,9])) })] }), 3, (mbxFrame 0x0703 0 [1,0,0,0,0,9]), 2304, by decide⟩,
    ⟨benchMbx State.reset 1 ((mbxFrame 0x0703 0 [1,0,0,0,255,255])), 1, (mbxFrame 0x0703 0 [1,0,0,0,255,255]), 0xFFFF, by decide⟩,
    ⟨({ (benchMbx State.reset 1 ((mbxFrame 0x0704 0 [64,16,1]))) with fc := { (benchMbx State.reset 1 ((mbxFrame 0x0704 0 [64,16,1]))).fc with sources := [] } }), 1, (mbxFrame 0x0704 0 [64,16,1]), 0x1040, 1, by decide⟩,
    ⟨benchMbx State.reset 1 ((mbxFrame 0x0704 0 [255,255,1])), 1, (mbxFrame 0x0704 0 [255,255,1]), 0xFFFF, 1, by decide⟩,
    ⟨benchMbx State.reset 1 ((mbxFrame 0x0704 0 [64,16,2])), 1, (mbxFrame 0x0704 0 [64,16,2]), 0x1040, 2, by decide⟩,
    ⟨((benchMbx State.reset 1 ((mbxFrame 0x0705 0 []))).put F.FC_ST_BUSY 0 false), 1, (mbxFrame 0x0705 0 []), by decide⟩,
    ⟨((benchMbx State.reset 1 ((mbxFrame 0x0705 0 []))).put F.FC_ST_BUSY 0 true), 1, (mbxFrame 0x0705 0 []), by decide⟩,
    ⟨benchMbx State.reset 1 ((mbxFrame 0x0706 0 [])), 1, (mbxFrame 0x0706 0 []), by decide⟩,
    ⟨{ ((benchMbx State.reset 6 ⟨0x0706,1,4,0,0,0,[]⟩).setFld F.CHORD_STAT_ADDR 0 3).put F.CHORD_CFG_APEX 0 true with chord := { State.reset.chord with inbox := [⟨7, 2, 2⟩], gathered := 2047, gatherLost := 0, out := [], merges := [{ (default : ChordMerge) with id := 7, mode := 2 }] } }, 6, ⟨0x0706,1,4,0,0,0,[]⟩, ⟨7,2,2⟩, [], by decide⟩,
    ⟨{ ((benchMbx State.reset 6 ⟨0x0706,1,4,0,0,0,[]⟩).setFld F.CHORD_STAT_ADDR 0 3).put F.CHORD_CFG_APEX 0 true with chord := { State.reset.chord with inbox := [⟨7, 2, 2⟩], gathered := 2048, gatherLost := 0, out := [], merges := [{ (default : ChordMerge) with id := 7, mode := 2 }] } }, 6, ⟨0x0706,1,4,0,0,0,[]⟩, ⟨7,2,2⟩, [], by decide⟩,
    ⟨{ ((benchMbx State.reset 6 ⟨0x0706,1,4,0,0,0,[]⟩).setFld F.CHORD_STAT_ADDR 0 3).put F.CHORD_CFG_APEX 0 false with chord := { State.reset.chord with inbox := [⟨7, 2, 2⟩], gathered := 0, gatherLost := 0, out := [], merges := [{ (default : ChordMerge) with id := 7, mode := 2 }] } }, 6, ⟨0x0706,1,4,0,0,0,[]⟩, ⟨7,2,2⟩, [], by decide⟩,
    ⟨{ ((benchMbx State.reset 6 ⟨0x0706,1,12,0,0,0,[]⟩).setFld F.CHORD_STAT_ADDR 0 3).put F.CHORD_CFG_APEX 0 (State.reset.ct % 2 = 0) with chord := { State.reset.chord with inbox := [⟨7, 2, 2⟩], gathered := 0, gatherLost := 0, out := [], merges := [{ (default : ChordMerge) with id := 7, mode := 2 }] } }, 6, ⟨0x0706,1,12,0,0,0,[]⟩, ⟨7,2,2⟩, [], by decide⟩,
    ⟨((benchMbx State.reset 1 ((mbxFrame 0x0707 0 [0,0,0,0,32]))).setFld F.LOG_WR_SEQ 0 ((benchMbx State.reset 1 ((mbxFrame 0x0707 0 [0,0,0,0,32]))).free % 4)), 1, (mbxFrame 0x0707 0 [0,0,0,0,32]), 0, 32, by decide⟩,
    ⟨((benchMbx State.reset 1 ((mbxFrame 0x0707 0 [0,0,0,0,33]))).setFld F.LOG_WR_SEQ 0 ((benchMbx State.reset 1 ((mbxFrame 0x0707 0 [0,0,0,0,33]))).free % 4)), 1, (mbxFrame 0x0707 0 [0,0,0,0,33]), 0, 33, by decide⟩⟩

theorem hyps_CalibrationRegisterAndChordMailboxCommands :
  (∃ (s : State) (ch : Nat) (f : Frame), (s.mbx.at ch).running = some f ∧ f.code = 0x0801 ∧ f.opt.testBit 0 = false) ∧
  (∃ (s : State) (ch : Nat) (f : Frame), (s.mbx.at ch).running = some f ∧ f.code = 0x0801 ∧ f.opt.testBit 0 = true) ∧
  (∃ (s : State) (ch : Nat) (f : Frame), (s.mbx.at ch).running = some f ∧ f.code = 0x0802 ∧ f.opt.testBit 1 = false
    ∧ f.opt.testBit 0 = false) ∧
  (∃ (s : State) (ch : Nat) (f : Frame), (s.mbx.at ch).running = some f ∧ f.code = 0x0802 ∧ f.opt.testBit 1 = false
    ∧ f.opt.testBit 0 = true) ∧
  (∃ (s : State) (ch : Nat) (f : Frame), (s.mbx.at ch).running = some f ∧ f.code = 0x0802 ∧ f.opt.testBit 1 = true) ∧
  (∃ (s : State) (ch : Nat) (f : Frame) (a n : Nat), (s.mbx.at ch).running = some f ∧ f.code = 0x0901
    ∧ word32 f.payload 0 = a ∧ half f.payload 4 = n ∧ 1 ≤ n ∧ n ≤ 256
    ∧ s.bit F.MPU_FREEZE_FROZEN 0 (if ch = 6 then 9 else 10) = false) ∧
  (∃ (s : State) (ch : Nat) (f : Frame) (a n : Nat), (s.mbx.at ch).running = some f ∧ f.code = 0x0901
    ∧ word32 f.payload 0 = a ∧ half f.payload 4 = n ∧ n = 1
    ∧ s.bit F.MPU_FREEZE_FROZEN 0 (if ch = 6 then 9 else 10) = false ∧ s.violates (if ch = 6 then 9 else 10) a 4 .load = 0
    ∧ 0x20000000 ≤ a ∧ a < 0x20040000) ∧
  (∃ (s : State) (ch : Nat) (f : Frame) (a n : Nat), (s.mbx.at ch).running = some f ∧ f.code = 0x0901
    ∧ word32 f.payload 0 = a ∧ half f.payload 4 = n ∧ 1 ≤ n ∧ n ≤ 256
    ∧ s.bit F.MPU_FREEZE_FROZEN 0 (if ch = 6 then 9 else 10) = false ∧ s.violates (if ch = 6 then 9 else 10) a 4 .load ≠ 0) ∧
  (∃ (s : State) (ch : Nat) (f : Frame) (a n : Nat), (s.mbx.at ch).running = some f ∧ f.code = 0x0901
    ∧ word32 f.payload 0 = a ∧ half f.payload 4 = n ∧ 1 ≤ n ∧ n ≤ 256
    ∧ s.bit F.MPU_FREEZE_FROZEN 0 (if ch = 6 then 9 else 10) = true) ∧
  (∃ (s : State) (ch : Nat) (f : Frame) (a n : Nat), (s.mbx.at ch).running = some f ∧ f.code = 0x0901
    ∧ word32 f.payload 0 = a ∧ half f.payload 4 = n ∧ ((n = 0 ∨ 256 < n))) ∧
  (∃ (s : State) (ch : Nat) (f : Frame) (a v : Nat), (s.mbx.at ch).running = some f ∧ f.code = 0x0902
    ∧ regPairs f.payload = [(a, v)] ∧ s.openRegWrite ch = 0 ∧ f.opt.testBit 0 = false
    ∧ s.bit F.MPU_FREEZE_FROZEN 0 (if ch = 6 then 9 else 10) = false
    ∧ s.violates (if ch = 6 then 9 else 10) a 4 .store = 0 ∧ 0x20000000 ≤ a ∧ a < 0x20040000) ∧
  (∃ (s : State) (ch : Nat) (f : Frame) (a v : Nat), (s.mbx.at ch).running = some f ∧ f.code = 0x0902
    ∧ regPairs f.payload = [(a, v)] ∧ s.openRegWrite ch = 0 ∧ f.opt.testBit 0 = false
    ∧ s.bit F.MPU_FREEZE_FROZEN 0 (if ch = 6 then 9 else 10) = false ∧ s.violates (if ch = 6 then 9 else 10) a 4 .store ≠ 0) ∧
  (∃ (s : State) (ch : Nat) (f : Frame) (a v : Nat), (s.mbx.at ch).running = some f ∧ f.code = 0x0902
    ∧ regPairs f.payload = [(a, v)] ∧ s.openRegWrite ch = 0 ∧ f.opt.testBit 0 = false
    ∧ s.bit F.MPU_FREEZE_FROZEN 0 (if ch = 6 then 9 else 10) = true) ∧
  (∃ (s : State) (ch : Nat) (f : Frame) (a b v w : Nat), (s.mbx.at ch).running = some f ∧ f.code = 0x0902
    ∧ regPairs f.payload = [(a, v), (b, w)] ∧ s.openRegWrite ch = 0) ∧
  (∃ (s : State) (ch : Nat) (f : Frame), (s.mbx.at ch).running = some f ∧ f.code = 0x0902
    ∧ ((half f.payload 0 = 0 ∨ 127 < half f.payload 0))) ∧
  (∃ (s : State) (ch : Nat) (f : Frame), (s.mbx.at ch).running = some f ∧ f.code = 0x0A01) ∧
  (∃ (s : State) (ch : Nat) (f : Frame) (w : Nat), (s.mbx.at ch).running = some f ∧ f.code = 0x0A02
    ∧ word32 f.payload 0 = w ∧ ((w.testBit 3 = false ∨ s.planBad (planRanges f.payload) = false))) ∧
  (∃ (s : State) (ch : Nat) (f : Frame) (w : Nat), (s.mbx.at ch).running = some f ∧ f.code = 0x0A02
    ∧ word32 f.payload 0 = w ∧ w.testBit 3 = true ∧ s.planBad (planRanges f.payload) = true) ∧
  (∃ (s : State) (ch : Nat) (f : Frame) (l : Nat), (s.mbx.at ch).running = some f ∧ f.code = 0x0A03
    ∧ byteAt f.payload 0 = l ∧ l ≤ 5 ∧ -32768 ≤ toInt 32 (word32 f.payload 4) ∧ toInt 32 (word32 f.payload 4) ≤ 32767) ∧
  (∃ (s : State) (ch : Nat) (f : Frame) (l : Nat), (s.mbx.at ch).running = some f ∧ f.code = 0x0A03
    ∧ byteAt f.payload 0 = l ∧ ((5 < l ∨ toInt 32 (word32 f.payload 4) < -32768 ∨ 32767 < toInt 32 (word32 f.payload 4)))) ∧
  (∃ (s : State) (ch : Nat) (f : Frame) (i n : Nat), (s.mbx.at ch).running = some f ∧ f.code = 0x0A04
    ∧ half f.payload 0 = i ∧ half f.payload 2 = n ∧ 1 ≤ n ∧ n ≤ 31 ∧ i + n ≤ 2048 ∧ s.apex = true) ∧
  (∃ (s : State) (ch : Nat) (f : Frame) (i n : Nat), (s.mbx.at ch).running = some f ∧ f.code = 0x0A04
    ∧ half f.payload 0 = i ∧ half f.payload 2 = n ∧ 1 ≤ n ∧ n ≤ 31 ∧ i + n ≤ 2048 ∧ s.apex = false) ∧
  (∃ (s : State) (ch : Nat) (f : Frame) (i n : Nat), (s.mbx.at ch).running = some f ∧ f.code = 0x0A04
    ∧ half f.payload 0 = i ∧ half f.payload 2 = n ∧ ((n = 0 ∨ 31 < n ∨ 2048 < i + n))) :=
  ⟨⟨benchMbx State.reset 1 ((mbxFrame 0x0801 0 [])), 1, (mbxFrame 0x0801 0 []), by decide⟩,
    ⟨benchMbx State.reset 1 ((mbxFrame 0x0801 1 [])), 1, (mbxFrame 0x0801 1 []), by decide⟩,
    ⟨benchMbx State.reset 1 ((mbxFrame 0x0802 0 [1,2])), 1, (mbxFrame 0x0802 0 [1,2]), by decide⟩,
    ⟨benchMbx State.reset 1 ((mbxFrame 0x0802 1 [1,2])), 1, (mbxFrame 0x0802 1 [1,2]), by decide⟩,
    ⟨((benchMbx State.reset 1 ((mbxFrame 0x0802 2 [])))), 1, (mbxFrame 0x0802 2 []), by decide⟩,
    ⟨(((((benchMbx State.reset 1 ((mbxFrame 0x0901 0 [0,1,0,32,2,0]))).writeBytes 0x20000100 [1, 2, 3, 4]).setFld F.MPU_FREEZE_FROZEN 0 0).setFld F.MPU_WBASE_BASE 160 0x20000).setFld F.MPU_WLIMIT_LIMIT 160 0x2003F |>.put F.MPU_WATTR_EN 160 true |>.put F.MPU_WATTR_R 160 true), 1, (mbxFrame 0x0901 0 [0,1,0,32,2,0]), 0x20000100, 2, by decide⟩,
    ⟨(((((benchMbx State.reset 1 ((mbxFrame 0x0901 0 [0,1,0,32,1,0]))).writeBytes 0x20000100 [1, 2, 3, 4]).setFld F.MPU_FREEZE_FROZEN 0 0).setFld F.MPU_WBASE_BASE 160 0x20000).setFld F.MPU_WLIMIT_LIMIT 160 0x2003F |>.put F.MPU_WATTR_EN 160 true |>.put F.MPU_WATTR_R 160 true), 1, (mbxFrame 0x0901 0 [0,1,0,32,1,0]), 0x20000100, 1, by decide⟩,
    ⟨(((((benchMbx State.reset 1 ((mbxFrame 0x0901 0 [0,1,0,32,1,0]))).writeBytes 0x20000100 [1, 2, 3, 4]).setFld F.MPU_FREEZE_FROZEN 0 0).setFld F.MPU_WBASE_BASE 160 0x20000).setFld F.MPU_WLIMIT_LIMIT 160 0x2003F |>.put F.MPU_WATTR_EN 160 true |>.put F.MPU_WATTR_R 160 false), 1, (mbxFrame 0x0901 0 [0,1,0,32,1,0]), 0x20000100, 1, by decide⟩,
    ⟨(((((benchMbx State.reset 1 ((mbxFrame 0x0901 0 [0,1,0,32,1,0]))).writeBytes 0x20000100 [1, 2, 3, 4]).setFld F.MPU_FREEZE_FROZEN 0 2047).setFld F.MPU_WBASE_BASE 160 0x20000).setFld F.MPU_WLIMIT_LIMIT 160 0x2003F |>.put F.MPU_WATTR_EN 160 true |>.put F.MPU_WATTR_R 160 true), 1, (mbxFrame 0x0901 0 [0,1,0,32,1,0]), 0x20000100, 1, by decide⟩,
    ⟨(((((benchMbx State.reset 1 ((mbxFrame 0x0901 0 [0,1,0,32,1,1]))).writeBytes 0x20000100 [1, 2, 3, 4]).setFld F.MPU_FREEZE_FROZEN 0 0).setFld F.MPU_WBASE_BASE 160 0x20000).setFld F.MPU_WLIMIT_LIMIT 160 0x2003F |>.put F.MPU_WATTR_EN 160 true |>.put F.MPU_WATTR_R 160 true), 1, (mbxFrame 0x0901 0 [0,1,0,32,1,1]), 0x20000100, 257, by decide⟩,
    ⟨((((benchMbx State.reset 1 ((mbxFrame 0x0902 0 [1,0,0,0,0,1,0,32,9,8,7,6]))).setFld F.MPU_FREEZE_FROZEN 0 0).setFld F.MPU_WBASE_BASE 160 0x20000).setFld F.MPU_WLIMIT_LIMIT 160 0x2003F |>.put F.MPU_WATTR_EN 160 true |>.put F.MPU_WATTR_W 160 true), 1, (mbxFrame 0x0902 0 [1,0,0,0,0,1,0,32,9,8,7,6]), 0x20000100, 0x06070809, by decide⟩,
    ⟨((((benchMbx State.reset 1 ((mbxFrame 0x0902 0 [1,0,0,0,0,1,0,32,9,8,7,6]))).setFld F.MPU_FREEZE_FROZEN 0 0).setFld F.MPU_WBASE_BASE 160 0x20000).setFld F.MPU_WLIMIT_LIMIT 160 0x2003F |>.put F.MPU_WATTR_EN 160 true |>.put F.MPU_WATTR_W 160 false), 1, (mbxFrame 0x0902 0 [1,0,0,0,0,1,0,32,9,8,7,6]), 0x20000100, 0x06070809, by decide⟩,
    ⟨((((benchMbx State.reset 1 ((mbxFrame 0x0902 0 [1,0,0,0,0,1,0,32,9,8,7,6]))).setFld F.MPU_FREEZE_FROZEN 0 2047).setFld F.MPU_WBASE_BASE 160 0x20000).setFld F.MPU_WLIMIT_LIMIT 160 0x2003F |>.put F.MPU_WATTR_EN 160 true |>.put F.MPU_WATTR_W 160 true), 1, (mbxFrame 0x0902 0 [1,0,0,0,0,1,0,32,9,8,7,6]), 0x20000100, 0x06070809, by decide⟩,
    ⟨benchMbx State.reset 1 ((mbxFrame 0x0902 1 [2,0,0,0,0,1,0,32,9,8,7,6,4,1,0,32,0,0,0,0])), 1, (mbxFrame 0x0902 1 [2,0,0,0,0,1,0,32,9,8,7,6,4,1,0,32,0,0,0,0]), 0x20000100, 0x20000104, 0x06070809, 0, by decide⟩,
    ⟨benchMbx State.reset 1 ((mbxFrame 0x0902 0 [0,0,0,0])), 1, (mbxFrame 0x0902 0 [0,0,0,0]), by decide⟩,
    ⟨benchMbx State.reset 1 ((mbxFrame 0x0A01 0 [])), 1, (mbxFrame 0x0A01 0 []), by decide⟩,
    ⟨((benchMbx State.reset 1 ((mbxFrame 0x0A02 0 [8,1,0,0,6,0,9,0,10,0,20,0,1,0,0,0,1,0,0,0,1,0,0,0,2,0,0,0]))).setFld F.CHORD_RANGE_LO 0 5 |>.setFld F.CHORD_RANGE_HI 0 100), 1, (mbxFrame 0x0A02 0 [8,1,0,0,6,0,9,0,10,0,20,0,1,0,0,0,1,0,0,0,1,0,0,0,2,0,0,0]), 264, by decide⟩,
    ⟨((benchMbx State.reset 1 ((mbxFrame 0x0A02 0 [8,1,0,0,4,0,9,0,10,0,20,0,1,0,0,0,1,0,0,0,1,0,0,0,2,0,0,0]))).setFld F.CHORD_RANGE_LO 0 5 |>.setFld F.CHORD_RANGE_HI 0 100), 1, (mbxFrame 0x0A02 0 [8,1,0,0,4,0,9,0,10,0,20,0,1,0,0,0,1,0,0,0,1,0,0,0,2,0,0,0]), 264, by decide⟩,
    ⟨benchMbx State.reset 1 ((mbxFrame 0x0A03 0 [5,1,0,0,255,127,0,0])), 1, (mbxFrame 0x0A03 0 [5,1,0,0,255,127,0,0]), 5, by decide⟩,
    ⟨benchMbx State.reset 1 ((mbxFrame 0x0A03 0 [6,1,0,0,255,127,0,0])), 1, (mbxFrame 0x0A03 0 [6,1,0,0,255,127,0,0]), 6, by decide⟩,
    ⟨((benchMbx State.reset 1 ((mbxFrame 0x0A04 0 [254,7,2,0]))).put F.CHORD_CFG_APEX 0 true), 1, (mbxFrame 0x0A04 0 [254,7,2,0]), 2046, 2, by decide⟩,
    ⟨((benchMbx State.reset 1 ((mbxFrame 0x0A04 0 [254,7,2,0]))).put F.CHORD_CFG_APEX 0 false), 1, (mbxFrame 0x0A04 0 [254,7,2,0]), 2046, 2, by decide⟩,
    ⟨benchMbx State.reset 1 ((mbxFrame 0x0A04 0 [254,7,3,0])), 1, (mbxFrame 0x0A04 0 [254,7,3,0]), 2046, 3, by decide⟩⟩

theorem hyps_PortRequestsActAtTheFrame :
  (∃ (s : State) (b : Boundary) (k : Nat) (hw : List HwChange) (p : Nat), b = .f ∧ k < 4 ∧ s.staged = []
    ∧ (s.parts.at k).requests = [.power p true] ∧ (s.owns k p = true → (s.dpe.at p).quarFresh = false) ∧ 1 ≤ p ∧ p ≤ 32) ∧
  (∃ (s : State) (b : Boundary) (k : Nat) (hw : List HwChange) (p : Nat), b = .f ∧ k < 4 ∧ s.staged = []
    ∧ (s.parts.at k).requests = [.power p false] ∧ (s.dpe.at p).quarFresh = false ∧ s.owns k p = true
    ∧ s.dpeIn p [.isolated, .quarantined] = false) ∧
  (∃ (s : State) (b : Boundary) (k : Nat) (hw : List HwChange) (p : Nat), b = .f ∧ k < 4 ∧ s.staged = []
    ∧ (s.parts.at k).requests = [.reset p] ∧ s.owns k p = true
    ∧ s.dpeIn p [.disabled, .enabled, .transmit, .suspended, .l1, .resuming, .sendEor] = true) ∧
  (∃ (s : State) (b : Boundary) (k : Nat) (hw : List HwChange) (p : Nat), b = .f ∧ k < 4 ∧ s.staged = []
    ∧ (s.parts.at k).requests = [.suspend p] ∧ s.owns k p = true ∧ s.dpeIn p [.enabled, .l1] = true) ∧
  (∃ (s : State) (b : Boundary) (k : Nat) (hw : List HwChange) (p : Nat), b = .f ∧ k < 4 ∧ s.staged = []
    ∧ (s.parts.at k).requests = [.resume p] ∧ s.owns k p = true ∧ s.dpeIs p .suspended = true) ∧
  (∃ (s : State) (b : Boundary) (k : Nat) (hw : List HwChange) (p : Nat), b = .f ∧ k < 4 ∧ s.staged = []
    ∧ (s.parts.at k).requests = [.disable p] ∧ s.owns k p = true ∧ s.dpeIn p [.enabled, .transmit] = true) ∧
  (∃ (s : State) (b : Boundary) (k : Nat) (hw : List HwChange) (p : Nat), b = .f ∧ k < 4 ∧ s.staged = []
    ∧ (s.parts.at k).requests = [.exitL1 p] ∧ s.owns k p = true ∧ s.dpeIs p .l1 = true) ∧
  (∃ (s : State) (b : Boundary) (k : Nat) (hw : List HwChange) (p sel : Nat), b = .f ∧ k < 4 ∧ s.staged = []
    ∧ (s.parts.at k).requests = [.test p sel] ∧ s.owns k p = true ∧ s.dpeIn p [.disconnected, .disabled, .suspended] = true) ∧
  (∃ (s : State) (b : Boundary) (k : Nat) (hw : List HwChange) (p : Nat), b = .f ∧ k < 4 ∧ s.staged = []
    ∧ (s.parts.at k).requests = [.reset p] ∧ p = 33 ∧ s.p33In k [.disabled, .enabled, .suspended] = true) ∧
  (∃ (s : State) (b : Boundary) (k : Nat) (hw : List HwChange) (p : Nat), b = .f ∧ k < 4 ∧ s.staged = []
    ∧ (s.parts.at k).requests = [.suspend p] ∧ p = 33 ∧ s.p33Is k .enabled = true) ∧
  (∃ (s : State) (b : Boundary) (k : Nat) (hw : List HwChange) (p : Nat), b = .f ∧ k < 4 ∧ s.staged = []
    ∧ (s.parts.at k).requests = [.resume p] ∧ p = 33 ∧ s.p33Is k .suspended = true) ∧
  (∃ (s : State) (b : Boundary) (k : Nat) (hw : List HwChange) (p : Nat), b = .f ∧ k < 4 ∧ s.staged = []
    ∧ (s.parts.at k).requests = [.disable p] ∧ p = 33 ∧ s.p33Is k .enabled = true) ∧
  (∃ (s : State) (b : Boundary) (k : Nat) (hw : List HwChange) (p : Nat), b = .f ∧ k < 4 ∧ s.staged = []
    ∧ (s.parts.at k).requests = [.power p false] ∧ p = 33) :=
  ⟨⟨((({ benchPort State.reset (0 % 4) 1 (.poweredOff) with staged := [] })).updPart (0 % 4) (fun e => { e with requests := [.power 1 true] })), .f, 0, [], 1, by decide⟩,
    ⟨((({ benchPort State.reset (0 % 4) 1 (.suspended) with staged := [] })).updPart (0 % 4) (fun e => { e with requests := [.power 1 false] })), .f, 0, [], 1, by decide⟩,
    ⟨((({ benchPort State.reset (0 % 4) 1 (if State.reset.free % 2 = 0 then .suspended else .enabled) with staged := [] })).updPart (0 % 4) (fun e => { e with requests := [.reset 1] })), .f, 0, [], 1, by decide⟩,
    ⟨((({ benchPort State.reset (0 % 4) 1 (if State.reset.free % 2 = 0 then .l1 else .enabled) with staged := [] })).updPart (0 % 4) (fun e => { e with requests := [.suspend 1] })), .f, 0, [], 1, by decide⟩,
    ⟨((({ benchPort State.reset (0 % 4) 1 (.suspended) with staged := [] })).updPart (0 % 4) (fun e => { e with requests := [.resume 1] })), .f, 0, [], 1, by decide⟩,
    ⟨((({ benchPort State.reset (0 % 4) 1 (if State.reset.free % 2 = 0 then .transmit else .enabled) with staged := [] })).updPart (0 % 4) (fun e => { e with requests := [.disable 1] })), .f, 0, [], 1, by decide⟩,
    ⟨((({ benchPort State.reset (0 % 4) 1 (.l1) with staged := [] })).updPart (0 % 4) (fun e => { e with requests := [.exitL1 1] })), .f, 0, [], 1, by decide⟩,
    ⟨((({ benchPort State.reset (1 % 4) 9 (.disabled) with staged := [] })).updPart (1 % 4) (fun e => { e with requests := [.test 9 5] })), .f, 1, [], 9, 5, by decide⟩,
    ⟨((({ benchPort State.reset (0 % 4) 33 (.enabled) with staged := [] }).setFld F.MF_STAT_PSTATE (0 % 4) 4).updPart (0 % 4) (fun e => { e with requests := [.reset 33] })), .f, 0, [], 33, by decide⟩,
    ⟨((({ benchPort State.reset (0 % 4) 33 (.enabled) with staged := [] }).setFld F.MF_STAT_PSTATE (0 % 4) 4).updPart (0 % 4) (fun e => { e with requests := [.suspend 33] })), .f, 0, [], 33, by decide⟩,
    ⟨((({ benchPort State.reset (0 % 4) 33 (.enabled) with staged := [] }).setP33 (0 % 4) .suspended).updPart (0 % 4) (fun e => { e with requests := [.resume 33] })), .f, 0, [], 33, by decide⟩,
    ⟨((({ benchPort State.reset (0 % 4) 33 (.enabled) with staged := [] }).setFld F.MF_STAT_PSTATE (0 % 4) 4).updPart (0 % 4) (fun e => { e with requests := [.disable 33] })), .f, 0, [], 33, by decide⟩,
    ⟨((({ benchPort State.reset (0 % 4) 33 (.enabled) with staged := [] }).setFld F.MF_STAT_PSTATE (0 % 4) 4).updPart (0 % 4) (fun e => { e with requests := [.power 33 false] })), .f, 0, [], 33, by decide⟩⟩

end Sys2Proof.Tests
end

section
/-! Which commands stop, and with which rule: every meaning is one state, gated by the rule of `Instr.openRule`. -/

namespace Sys2Proof.Machine

/-- A connect or disconnect that cannot act (no upstream side, or FABRIC off) is no unpredictable one: it goes on with the
state as it stands (log entry 2). -/
theorem execPort33ConnectApply_eq_orUnpredictable (k : Nat) (connect : Bool) (s : State) :
    ∃ t, execPort33ConnectApply k connect s = orUnpredictable ((Instr.port33ConnectApply k connect).openRule s) t := by
  by_cases acts : (s.hasUpstream k && s.domOn Dom.fabric) = true
  · refine ⟨(s.put F.MF_CTL_CONNECT k connect).p33Update k (s.on F.MF_CTL_CONNECT k && !connect), ?_⟩
    simp only [execPort33ConnectApply, Instr.openRule, acts, if_true, Bool.true_and]
  · rw [Bool.not_eq_true] at acts
    refine ⟨s, ?_⟩
    simp [execPort33ConnectApply, Instr.openRule, acts]

/-- The rows of log entry 10 answer through `orUnpredictable` with the rule that `Instr.openRule` names; the meaning of
every other row is a next state, whose rule is 0. -/
theorem exec_eq_orUnpredictable (c : Instr) (s : State) : ∃ t, exec c s = orUnpredictable (c.openRule s) t := by
  cases c with
  | registerWrite m a n data hw => exact ⟨s.masterStore hw m a n data, rfl⟩
  | aliasWrite v m a n data hw => exact ⟨s.masterStore hw m (a + v.offset) n data, rfl⟩
  | regWrite ch => exact ⟨_, rfl⟩
  | dmaStop d words => exact ⟨if d < 4 then s.dmaStop d words else s, rfl⟩
  | dmaEnd d => exact ⟨_, rfl⟩
  | stagedWriteApply b k hw => exact ⟨_, rfl⟩
  | port33ConnectApply k connect => exact execPort33ConnectApply_eq_orUnpredictable k connect s
  | voffWrite p b => exact ⟨s.voffWrite p b, rfl⟩
  | deadBatteryHandover => exact ⟨s.handedOver, rfl⟩
  | domainSwitchOn d => exact ⟨s.switchedOn d, rfl⟩
  | policyImageLoad core => exact ⟨s.imageLoaded core, rfl⟩
  | loaderGo core => exact ⟨s.loaderGone core, rfl⟩
  | loaderHalt core => exact ⟨s.loaderHalted core, rfl⟩
  | _ => exact ⟨_, rfl⟩

/-- No rule lists the command: it answers a next state. -/
theorem exec_next_of_openRule_eq_zero {c : Instr} {s : State} (free : c.openRule s = 0) : ∃ t, exec c s = .next t := by
  obtain ⟨t, ht⟩ := exec_eq_orUnpredictable c s
  exact ⟨t, by rw [ht, free, orUnpredictable_zero]⟩

/-- A rule lists the command: it stops with the rule's number. -/
theorem exec_fault_of_openRule_ne_zero {c : Instr} {s : State} (listed : c.openRule s ≠ 0) :
    exec c s = .fault (.unpredictable (c.openRule s)) := by
  obtain ⟨t, ht⟩ := exec_eq_orUnpredictable c s
  rw [ht, orUnpredictable_fault listed]

/-- Settles O7: every meaning is `orUnpredictable` at the command's own rule, and only the thirteen rows have one. -/
theorem onlyUnpredictableStoresStop : Obligations.OnlyUnpredictableStoresStop := by
  refine ⟨fun _ _ => exec_next_of_openRule_eq_zero, fun _ _ => exec_fault_of_openRule_ne_zero, fun c s listed => ?_⟩
  cases c with
  | registerWrite | aliasWrite | regWrite | dmaStop | dmaEnd | stagedWriteApply | port33ConnectApply | voffWrite
  | deadBatteryHandover | domainSwitchOn | policyImageLoad | loaderGo | loaderHalt => rfl
  | _ => exact absurd rfl listed

end Sys2Proof.Machine
end

section
/-! The frame of every command: its meaning reaches only zones of the state that `Instr.zones` lists for it, and never the
queue. -/

namespace Sys2Proof.Machine

/-- The mask that holds the bits of the zones listed, and no other. -/
def Zone.mask (zs : List Zone) : Nat := zs.foldr (fun z m => 2 ^ z.code ||| m) 0

theorem Zone.code_injective : Function.Injective Zone.code := by
  have apart : Zone.all.all (fun z => Zone.all.all (fun w => !(z.code == w.code) || z == w)) = true := by decide +kernel
  intro z w h
  simpa [h] using List.all_eq_true.mp (List.all_eq_true.mp apart z z.mem_all) w w.mem_all

theorem Zone.testBit_mask (zs : List Zone) (k : Nat) : (Zone.mask zs).testBit k = true ↔ ∃ z ∈ zs, z.code = k := by
  induction zs with
  | nil => simp [Zone.mask]
  | cons z zs ih => simp_all [Zone.mask, Nat.testBit_or, Nat.testBit_two_pow]

theorem Zone.testBit_mask_code {zs : List Zone} {z : Zone} (h : z ∉ zs) : (Zone.mask zs).testBit z.code = false := by
  rw [← Bool.not_eq_true, Zone.testBit_mask]
  rintro ⟨w, hw, same⟩
  exact h (Zone.code_injective same ▸ hw)

variable {zs : List Zone} {m : Nat} {s t : State} {o : Host.Outcome State Fault Refusal}

/-- Operations that reach listed zones alone change the state in those zones alone. -/
theorem Via.onlyIn_mask (d : Via (Zone.mask zs) s t) : s.OnlyIn zs t :=
  ⟨d.pending, fun z hz => d.same z (Zone.testBit_mask_code hz)⟩

/-- A mask within the one of the zones listed; by default the list is a row of `Instr.zones`. -/
theorem Via.within (d : Via m s t) (inside : Nat.land m (Zone.mask zs) = m := by dsimp only [Instr.zones]; decide +kernel) :
    Via (Zone.mask zs) s t := d.mono inside

/-- The next state that a meaning without stops answers. -/
theorem Via.of_exists (row : ∃ u, o = .next u ∧ Via m s u) (h : o = .next t) : Via m s t := by
  obtain ⟨u, hu, via⟩ := row
  obtain rfl : u = t := by simpa using hu.symm.trans h
  exact via

/-- What a command can do: writes within the zones that `Instr.zones` lists for its row. -/
theorem exec_via {c : Instr} (h : exec c s = .next t) : Via (Zone.mask c.zones) s t := by
  cases c with
  | powerOn => exact (Via.of_exists (execPowerOn_via ..) h).within
  | firmwareStart => exact (Via.of_exists (execFirmwareStart_via ..) h).within
  | pinReset => exact (Via.of_exists (execPinReset_via ..) h).within
  | brownout => exact (Via.of_exists (execBrownout_via ..) h).within
  | deadBatteryBoot => exact (Via.of_exists (execDeadBatteryBoot_via ..) h).within
  | deadBatteryHandover => exact (execDeadBatteryHandover_via _ _ h).within
  | deadBatteryLoss => exact (Via.of_exists (execDeadBatteryLoss_via ..) h).within
  | dormantEntryStep => exact (Via.of_exists (execDormantEntryStep_via ..) h).within
  | rtcAlarmReached => exact (Via.of_exists (execRtcAlarmReached_via ..) h).within
  | vbatLoss => exact (Via.of_exists (execVbatLoss_via ..) h).within
  | referenceLost => exact (Via.of_exists (execReferenceLost_via ..) h).within
  | clockLoss => exact (Via.of_exists (execClockLoss_via ..) h).within
  | pllLock => exact (Via.of_exists (execPllLock_via ..) h).within
  | recoveredReferenceSwitch => exact (Via.of_exists (execRecoveredReferenceSwitch_via ..) h).within
  | throttleStageChange => exact (Via.of_exists (execThrottleStageChange_via ..) h).within
  | thermalReset => exact (Via.of_exists (execThermalReset_via ..) h).within
  | currantDieTempStage => exact (Via.of_exists (execCurrantDieTempStage_via ..) h).within
  | domainSwitchOn => exact (execDomainSwitchOn_via _ _ _ h).within
  | domainSwitchOff => exact (Via.of_exists (execDomainSwitchOff_via ..) h).within
  | d2dFrameResend => exact (Via.of_exists (execD2dFrameResend_via ..) h).within
  | d2dLinkLost => exact (Via.of_exists (execD2dLinkLost_via ..) h).within
  | d2dLinkRetrained => exact (Via.of_exists (execD2dLinkRetrained_via ..) h).within
  | d2dLoss1ms => exact (Via.of_exists (execD2dLoss1ms_via ..) h).within
  | absentBlockAccess => exact (Via.of_exists (execAbsentBlockAccess_via ..) h).within
  | violation => exact (Via.of_exists (execViolation_via ..) h).within
  | core0Violation => exact (Via.of_exists (execCore0Violation_via ..) h).within
  | thaw => exact (Via.of_exists (execThaw_via ..) h).within
  | registerWrite => exact (execRegisterWrite_via _ _ _ _ _ _ _ h).within
  | aliasWrite => exact (execAliasWrite_via _ _ _ _ _ _ _ _ h).within
  | stagedWriteApply => exact (execStagedWriteApply_via _ _ _ _ _ h).within
  | holdRelease => exact (Via.of_exists (execHoldRelease_via ..) h).within
  | snapReq => exact (Via.of_exists (execSnapReq_via ..) h).within
  | snapCapture => exact (Via.of_exists (execSnapCapture_via ..) h).within
  | snapHiRead => exact (Via.of_exists (execSnapHiRead_via ..) h).within
  | epochTrackUpdate => exact (Via.of_exists (execEpochTrackUpdate_via ..) h).within
  | upstreamBusReset => exact (Via.of_exists (execUpstreamBusReset_via ..) h).within
  | upstreamDetach => exact (Via.of_exists (execUpstreamDetach_via ..) h).within
  | hostPresenceChange => exact (Via.of_exists (execHostPresenceChange_via ..) h).within
  | hsChirpHandshake => exact (Via.of_exists (execHsChirpHandshake_via ..) h).within
  | partitionSuspend => exact (Via.of_exists (execPartitionSuspend_via ..) h).within
  | hostResume => exact (Via.of_exists (execHostResume_via ..) h).within
  | sofReceived => exact (Via.of_exists (execSofReceived_via ..) h).within
  | getPortStatus => exact (Via.of_exists (execGetPortStatus_via ..) h).within
  | setPortPower => exact (Via.of_exists (execSetPortPower_via ..) h).within
  | clearPortPower => exact (Via.of_exists (execClearPortPower_via ..) h).within
  | setPortReset => exact (Via.of_exists (execSetPortReset_via ..) h).within
  | setPortSuspend => exact (Via.of_exists (execSetPortSuspend_via ..) h).within
  | clearPortSuspend => exact (Via.of_exists (execClearPortSuspend_via ..) h).within
  | clearPortEnable => exact (Via.of_exists (execClearPortEnable_via ..) h).within
  | setPortTest => exact (Via.of_exists (execSetPortTest_via ..) h).within
  | portIndicatorRequest => exact (Via.of_exists (execPortIndicatorRequest_via ..) h).within
  | clearPortChange => exact (Via.of_exists (execClearPortChange_via ..) h).within
  | setAndTestPortL1 => exact (Via.of_exists (execSetAndTestPortL1_via ..) h).within
  | clearPortL1 => exact (Via.of_exists (execClearPortL1_via ..) h).within
  | clearTtBuffer => exact (Via.of_exists (execClearTtBuffer_via ..) h).within
  | resetTt => exact (Via.of_exists (execResetTt_via ..) h).within
  | stopTt => exact (Via.of_exists (execStopTt_via ..) h).within
  | getTtState => exact (Via.of_exists (execGetTtState_via ..) h).within
  | setInterfaceAlt => exact (Via.of_exists (execSetInterfaceAlt_via ..) h).within
  | deviceConnect => exact (Via.of_exists (execDeviceConnect_via ..) h).within
  | deviceDisconnect => exact (Via.of_exists (execDeviceDisconnect_via ..) h).within
  | resetDriveEnd => exact (Via.of_exists (execResetDriveEnd_via ..) h).within
  | chirpDeviceK => exact (Via.of_exists (execChirpDeviceK_via ..) h).within
  | babbleOrLoa => exact (Via.of_exists (execBabbleOrLoa_via ..) h).within
  | lpmAck => exact (Via.of_exists (execLpmAck_via ..) h).within
  | deviceRemoteWake => exact (Via.of_exists (execDeviceRemoteWake_via ..) h).within
  | resumeDriveEnd => exact (Via.of_exists (execResumeDriveEnd_via ..) h).within
  | eorSent => exact (Via.of_exists (execEorSent_via ..) h).within
  | hostResumeEnd => exact (Via.of_exists (execHostResumeEnd_via ..) h).within
  | packetTransmit => exact (Via.of_exists (execPacketTransmit_via ..) h).within
  | switchSettleEnd => exact (Via.of_exists (execSwitchSettleEnd_via ..) h).within
  | isolationCauseChange => exact (Via.of_exists (execIsolationCauseChange_via ..) h).within
  | dataOvTrip => exact (Via.of_exists (execDataOvTrip_via ..) h).within
  | dataOvRelease => exact (Via.of_exists (execDataOvRelease_via ..) h).within
  | dswRearm => exact (Via.of_exists (execDswRearm_via ..) h).within
  | dpeIsolateWrite => exact (Via.of_exists (execDpeIsolateWrite_via ..) h).within
  | dpeQuarSet => exact (Via.of_exists (execDpeQuarSet_via ..) h).within
  | dpeQuarRelease => exact (Via.of_exists (execDpeQuarRelease_via ..) h).within
  | dswStgo => exact (Via.of_exists (execDswStgo_via ..) h).within
  | selftestEnd => exact (Via.of_exists (execSelftestEnd_via ..) h).within
  | glitchGo => exact (Via.of_exists (execGlitchGo_via ..) h).within
  | glitchPulseDue => exact (Via.of_exists (execGlitchPulseDue_via ..) h).within
  | chirpArmExpiry => exact (Via.of_exists (execChirpArmExpiry_via ..) h).within
  | assignWrite => exact (Via.of_exists (execAssignWrite_via ..) h).within
  | hardMove => exact (Via.of_exists (execHardMove_via ..) h).within
  | migctlGo => exact (Via.of_exists (execMigctlGo_via ..) h).within
  | migrationSourceBoundary => exact (Via.of_exists (execMigrationSourceBoundary_via ..) h).within
  | migrationDestBoundary => exact (Via.of_exists (execMigrationDestBoundary_via ..) h).within
  | keepaliveSof => exact (Via.of_exists (execKeepaliveSof_via ..) h).within
  | migrationDestReset => exact (Via.of_exists (execMigrationDestReset_via ..) h).within
  | migrationTimeout => exact (Via.of_exists (execMigrationTimeout_via ..) h).within
  | migrationAbort => exact (Via.of_exists (execMigrationAbort_via ..) h).within
  | ttFrameStart => exact (Via.of_exists (execTtFrameStart_via ..) h).within
  | ssplitNonperiodic => exact (Via.of_exists (execSsplitNonperiodic_via ..) h).within
  | csplitNonperiodic => exact (Via.of_exists (execCsplitNonperiodic_via ..) h).within
  | ssplitPeriodic => exact (Via.of_exists (execSsplitPeriodic_via ..) h).within
  | csplitPeriodic => exact (Via.of_exists (execCsplitPeriodic_via ..) h).within
  | badSplit => exact (Via.of_exists (execBadSplit_via ..) h).within
  | ttTransactionStart => exact (Via.of_exists (execTtTransactionStart_via ..) h).within
  | ttTransactionEnd => exact (Via.of_exists (execTtTransactionEnd_via ..) h).within
  | periodicContextRelease => exact (Via.of_exists (execPeriodicContextRelease_via ..) h).within
  | periodicAbandon => exact (Via.of_exists (execPeriodicAbandon_via ..) h).within
  | poolUncorrectable => exact (Via.of_exists (execPoolUncorrectable_via ..) h).within
  | port33ConnectApply => exact (execPort33ConnectApply_via _ _ _ _ h).within
  | port33ResetEnd => exact (Via.of_exists (execPort33ResetEnd_via ..) h).within
  | port33ResumeEnd => exact (Via.of_exists (execPort33ResumeEnd_via ..) h).within
  | port33RemoteWake => exact (Via.of_exists (execPort33RemoteWake_via ..) h).within
  | mfEp0Setup => exact (Via.of_exists (execMfEp0Setup_via ..) h).within
  | getDescriptorReady => exact (Via.of_exists (execGetDescriptorReady_via ..) h).within
  | controlAbandon => exact (Via.of_exists (execControlAbandon_via ..) h).within
  | ep1OutPacket => exact (Via.of_exists (execEp1OutPacket_via ..) h).within
  | ep1Ping => exact (Via.of_exists (execEp1Ping_via ..) h).within
  | ep1FrameComplete => exact (Via.of_exists (execEp1FrameComplete_via ..) h).within
  | ep2ResponseSent => exact (Via.of_exists (execEp2ResponseSent_via ..) h).within
  | ep3NoticePacket => exact (Via.of_exists (execEp3NoticePacket_via ..) h).within
  | noticeRaised => exact (Via.of_exists (execNoticeRaised_via ..) h).within
  | ep4TransferAck => exact (Via.of_exists (execEp4TransferAck_via ..) h).within
  | ccSample => exact (Via.of_exists (execCcSample_via ..) h).within
  | tccdebounceExpiry => exact (Via.of_exists (execTccdebounceExpiry_via ..) h).within
  | tpddebounceExpiry => exact (Via.of_exists (execTpddebounceExpiry_via ..) h).within
  | drpToggle => exact (Via.of_exists (execDrpToggle_via ..) h).within
  | sinkVbusLoss => exact (Via.of_exists (execSinkVbusLoss_via ..) h).within
  | errorRecoveryEnd => exact (Via.of_exists (execErrorRecoveryEnd_via ..) h).within
  | disabledCauseArises => exact (Via.of_exists (execDisabledCauseArises_via ..) h).within
  | disabledExit => exact (Via.of_exists (execDisabledExit_via ..) h).within
  | rpReevaluate => exact (Via.of_exists (execRpReevaluate_via ..) h).within
  | ccOvTrip => exact (Via.of_exists (execCcOvTrip_via ..) h).within
  | ccOvRelease => exact (Via.of_exists (execCcOvRelease_via ..) h).within
  | vconnTrip => exact (Via.of_exists (execVconnTrip_via ..) h).within
  | vconnApply => exact (Via.of_exists (execVconnApply_via ..) h).within
  | vcrearmWrite => exact (Via.of_exists (execVcrearmWrite_via ..) h).within
  | discoveryAttempt => exact (Via.of_exists (execDiscoveryAttempt_via ..) h).within
  | discgoWrite => exact (Via.of_exists (execDiscgoWrite_via ..) h).within
  | discoverIdentityAck => exact (Via.of_exists (execDiscoverIdentityAck_via ..) h).within
  | pdTransmit => exact (Via.of_exists (execPdTransmit_via ..) h).within
  | goodcrcTimeout => exact (Via.of_exists (execGoodcrcTimeout_via ..) h).within
  | pdMessageReceived => exact (Via.of_exists (execPdMessageReceived_via ..) h).within
  | rxRelease => exact (Via.of_exists (execRxRelease_via ..) h).within
  | sourceCapabilitiesSend => exact (Via.of_exists (execSourceCapabilitiesSend_via ..) h).within
  | sourceCapRepeat => exact (Via.of_exists (execSourceCapRepeat_via ..) h).within
  | senderResponseTimeout => exact (Via.of_exists (execSenderResponseTimeout_via ..) h).within
  | request => exact (Via.of_exists (execRequest_via ..) h).within
  | budgetFreedOffer => exact (Via.of_exists (execBudgetFreedOffer_via ..) h).within
  | transitionPsRdy => exact (Via.of_exists (execTransitionPsRdy_via ..) h).within
  | ppsTimeout => exact (Via.of_exists (execPpsTimeout_via ..) h).within
  | eprModeEnter => exact (Via.of_exists (execEprModeEnter_via ..) h).within
  | eprEntryCheck => exact (Via.of_exists (execEprEntryCheck_via ..) h).within
  | eprKeepalive => exact (Via.of_exists (execEprKeepalive_via ..) h).within
  | eprKeepaliveTimeout => exact (Via.of_exists (execEprKeepaliveTimeout_via ..) h).within
  | eprModeExit => exact (Via.of_exists (execEprModeExit_via ..) h).within
  | prSwapReceived => exact (Via.of_exists (execPrSwapReceived_via ..) h).within
  | swapSourceOff => exact (Via.of_exists (execSwapSourceOff_via ..) h).within
  | swapVsafe0 => exact (Via.of_exists (execSwapVsafe0_via ..) h).within
  | swapPartnerPsRdy => exact (Via.of_exists (execSwapPartnerPsRdy_via ..) h).within
  | swapTimeout => exact (Via.of_exists (execSwapTimeout_via ..) h).within
  | sinkToSourceVsafe5 => exact (Via.of_exists (execSinkToSourceVsafe5_via ..) h).within
  | vconnSwapReceived => exact (Via.of_exists (execVconnSwapReceived_via ..) h).within
  | drSwapReceived => exact (Via.of_exists (execDrSwapReceived_via ..) h).within
  | hardReset => exact (Via.of_exists (execHardReset_via ..) h).within
  | hardResetVbusOff => exact (Via.of_exists (execHardResetVbusOff_via ..) h).within
  | hardResetRecover => exact (Via.of_exists (execHardResetRecover_via ..) h).within
  | noResponseTimeout => exact (Via.of_exists (execNoResponseTimeout_via ..) h).within
  | holdResponderStart => exact (Via.of_exists (execHoldResponderStart_via ..) h).within
  | policyEngineStart => exact (Via.of_exists (execPolicyEngineStart_via ..) h).within
  | feed48Change => exact (Via.of_exists (execFeed48Change_via ..) h).within
  | vbusRequest => exact (Via.of_exists (execVbusRequest_via ..) h).within
  | softstartDone => exact (Via.of_exists (execSoftstartDone_via ..) h).within
  | gateFullyOn => exact (Via.of_exists (execGateFullyOn_via ..) h).within
  | tqualComplete => exact (Via.of_exists (execTqualComplete_via ..) h).within
  | limitEngage => exact (Via.of_exists (execLimitEngage_via ..) h).within
  | faultTimerExpiry => exact (Via.of_exists (execFaultTimerExpiry_via ..) h).within
  | fastTrip => exact (Via.of_exists (execFastTrip_via ..) h).within
  | overloadExhausted => exact (Via.of_exists (execOverloadExhausted_via ..) h).within
  | vbusOvervoltage => exact (Via.of_exists (execVbusOvervoltage_via ..) h).within
  | reverseCurrent => exact (Via.of_exists (execReverseCurrent_via ..) h).within
  | buckPeakFault => exact (Via.of_exists (execBuckPeakFault_via ..) h).within
  | vsetChange => exact (Via.of_exists (execVsetChange_via ..) h).within
  | transitionComplete => exact (Via.of_exists (execTransitionComplete_via ..) h).within
  | transitionTimeout => exact (Via.of_exists (execTransitionTimeout_via ..) h).within
  | ppsUndervoltage => exact (Via.of_exists (execPpsUndervoltage_via ..) h).within
  | fetThermalTrip => exact (Via.of_exists (execFetThermalTrip_via ..) h).within
  | ntcFault => exact (Via.of_exists (execNtcFault_via ..) h).within
  | thermalModelUpdate => exact (Via.of_exists (execThermalModelUpdate_via ..) h).within
  | retryStart => exact (Via.of_exists (execRetryStart_via ..) h).within
  | retryReload => exact (Via.of_exists (execRetryReload_via ..) h).within
  | dischargeDone => exact (Via.of_exists (execDischargeDone_via ..) h).within
  | dischargeTimeout => exact (Via.of_exists (execDischargeTimeout_via ..) h).within
  | clrlatch => exact (Via.of_exists (execClrlatch_via ..) h).within
  | voffWrite => exact (execVoffWrite_via _ _ _ _ h).within
  | sinkEntry => exact (Via.of_exists (execSinkEntry_via ..) h).within
  | sinkFault => exact (Via.of_exists (execSinkFault_via ..) h).within
  | vbrdUvOv => exact (Via.of_exists (execVbrdUvOv_via ..) h).within
  | fswStep => exact (Via.of_exists (execFswStep_via ..) h).within
  | feedReverseOff => exact (Via.of_exists (execFeedReverseOff_via ..) h).within
  | feedPresenceChange => exact (Via.of_exists (execFeedPresenceChange_via ..) h).within
  | seatQualified => exact (Via.of_exists (execSeatQualified_via ..) h).within
  | seatLoss => exact (Via.of_exists (execSeatLoss_via ..) h).within
  | hsGateOn => exact (Via.of_exists (execHsGateOn_via ..) h).within
  | hsQualDone => exact (Via.of_exists (execHsQualDone_via ..) h).within
  | hsLimitEngage => exact (Via.of_exists (execHsLimitEngage_via ..) h).within
  | hsFault => exact (Via.of_exists (execHsFault_via ..) h).within
  | hsRetry => exact (Via.of_exists (execHsRetry_via ..) h).within
  | hsUndervoltage => exact (Via.of_exists (execHsUndervoltage_via ..) h).within
  | hsUvRecover => exact (Via.of_exists (execHsUvRecover_via ..) h).within
  | surge => exact (Via.of_exists (execSurge_via ..) h).within
  | surgeEnd => exact (Via.of_exists (execSurgeEnd_via ..) h).within
  | hsClrlatch => exact (Via.of_exists (execHsClrlatch_via ..) h).within
  | hsRetryReload => exact (Via.of_exists (execHsRetryReload_via ..) h).within
  | entHctlWrite => exact (Via.of_exists (execEntHctlWrite_via ..) h).within
  | pgBrdFall => exact (Via.of_exists (execPgBrdFall_via ..) h).within
  | brdoffPortRelease => exact (Via.of_exists (execBrdoffPortRelease_via ..) h).within
  | sagStart => exact (Via.of_exists (execSagStart_via ..) h).within
  | sagRenegotiate => exact (Via.of_exists (execSagRenegotiate_via ..) h).within
  | sagEnd => exact (Via.of_exists (execSagEnd_via ..) h).within
  | pbrdAverage => exact (Via.of_exists (execPbrdAverage_via ..) h).within
  | shedVictim => exact (Via.of_exists (execShedVictim_via ..) h).within
  | shedRelease => exact (Via.of_exists (execShedRelease_via ..) h).within
  | reservationRelease => exact (Via.of_exists (execReservationRelease_via ..) h).within
  | chordSignalDetect => exact (Via.of_exists (execChordSignalDetect_via ..) h).within
  | chordTrained => exact (Via.of_exists (execChordTrained_via ..) h).within
  | chordIdent => exact (Via.of_exists (execChordIdent_via ..) h).within
  | chordIdentRetry => exact (Via.of_exists (execChordIdentRetry_via ..) h).within
  | chordMeasureDone => exact (Via.of_exists (execChordMeasureDone_via ..) h).within
  | chordLinkFail => exact (Via.of_exists (execChordLinkFail_via ..) h).within
  | marker => exact (Via.of_exists (execMarker_via ..) h).within
  | delayExchange => exact (Via.of_exists (execDelayExchange_via ..) h).within
  | ctCorrection => exact (Via.of_exists (execCtCorrection_via ..) h).within
  | chordLock => exact (Via.of_exists (execChordLock_via ..) h).within
  | apexLock => exact (Via.of_exists (execApexLock_via ..) h).within
  | holdoverStart => exact (Via.of_exists (execHoldoverStart_via ..) h).within
  | holdmaxExpiry => exact (Via.of_exists (execHoldmaxExpiry_via ..) h).within
  | failover => exact (Via.of_exists (execFailover_via ..) h).within
  | revert => exact (Via.of_exists (execRevert_via ..) h).within
  | adoptFrame => exact (Via.of_exists (execAdoptFrame_via ..) h).within
  | releaseFrame => exact (Via.of_exists (execReleaseFrame_via ..) h).within
  | rangeChange => exact (Via.of_exists (execRangeChange_via ..) h).within
  | chordCmdFrame => exact (Via.of_exists (execChordCmdFrame_via ..) h).within
  | chordAcceptTimeout => exact (Via.of_exists (execChordAcceptTimeout_via ..) h).within
  | chordCmdTimeout => exact (Via.of_exists (execChordCmdTimeout_via ..) h).within
  | chordResponse => exact (Via.of_exists (execChordResponse_via ..) h).within
  | broadcastMerge => exact (Via.of_exists (execBroadcastMerge_via ..) h).within
  | ctPpsEdge => exact (Via.of_exists (execCtPpsEdge_via ..) h).within
  | tatAdd => exact (Via.of_exists (execTatAdd_via ..) h).within
  | tatCancel => exact (Via.of_exists (execTatCancel_via ..) h).within
  | tatQueueLoad => exact (Via.of_exists (execTatQueueLoad_via ..) h).within
  | tatLaunch => exact (Via.of_exists (execTatLaunch_via ..) h).within
  | tatLateLaunch => exact (Via.of_exists (execTatLateLaunch_via ..) h).within
  | maskWindowEnd => exact (Via.of_exists (execMaskWindowEnd_via ..) h).within
  | entryFree => exact (Via.of_exists (execEntryFree_via ..) h).within
  | packetCapture => exact (Via.of_exists (execPacketCapture_via ..) h).within
  | dropRecordWrite => exact (Via.of_exists (execDropRecordWrite_via ..) h).within
  | traceTrigger => exact (Via.of_exists (execTraceTrigger_via ..) h).within
  | postTriggerDone => exact (Via.of_exists (execPostTriggerDone_via ..) h).within
  | traceMemoryFull => exact (Via.of_exists (execTraceMemoryFull_via ..) h).within
  | trcStart => exact (Via.of_exists (execTrcStart_via ..) h).within
  | trcStop => exact (Via.of_exists (execTrcStop_via ..) h).within
  | trcTrig => exact (Via.of_exists (execTrcTrig_via ..) h).within
  | trcClear => exact (Via.of_exists (execTrcClear_via ..) h).within
  | trcMarkWrite => exact (Via.of_exists (execTrcMarkWrite_via ..) h).within
  | scrubTick => exact (Via.of_exists (execScrubTick_via ..) h).within
  | traceUncorrectable => exact (Via.of_exists (execTraceUncorrectable_via ..) h).within
  | faultEvent => exact (Via.of_exists (execFaultEvent_via ..) h).within
  | faultWindowClose => exact (Via.of_exists (execFaultWindowClose_via ..) h).within
  | wireFault => exact (Via.of_exists (execWireFault_via ..) h).within
  | fcClr => exact (Via.of_exists (execFcClr_via ..) h).within
  | fcInjEvent => exact (Via.of_exists (execFcInjEvent_via ..) h).within
  | fcInjWire => exact (Via.of_exists (execFcInjWire_via ..) h).within
  | fcScfgWrite => exact (Via.of_exists (execFcScfgWrite_via ..) h).within
  | fcSelftestGo => exact (Via.of_exists (execFcSelftestGo_via ..) h).within
  | fcSelftestEnd => exact (Via.of_exists (execFcSelftestEnd_via ..) h).within
  | logRecordWrite => exact (Via.of_exists (execLogRecordWrite_via ..) h).within
  | logSubmit => exact (Via.of_exists (execLogSubmit_via ..) h).within
  | interruptEdge => exact (Via.of_exists (execInterruptEdge_via ..) h).within
  | interruptEntry => exact (Via.of_exists (execInterruptEntry_via ..) h).within
  | icComplete => exact (Via.of_exists (execIcComplete_via ..) h).within
  | moderationExpiry => exact (Via.of_exists (execModerationExpiry_via ..) h).within
  | icTimerWrite => exact (Via.of_exists (execIcTimerWrite_via ..) h).within
  | icTimerZero => exact (Via.of_exists (execIcTimerZero_via ..) h).within
  | icKick => exact (Via.of_exists (execIcKick_via ..) h).within
  | watchdogHalf => exact (Via.of_exists (execWatchdogHalf_via ..) h).within
  | watchdogExpiry => exact (Via.of_exists (execWatchdogExpiry_via ..) h).within
  | trapStackOverflow => exact (Via.of_exists (execTrapStackOverflow_via ..) h).within
  | tcmUncorrectable => exact (Via.of_exists (execTcmUncorrectable_via ..) h).within
  | corectlResetWrite => exact (Via.of_exists (execCorectlResetWrite_via ..) h).within
  | serviceCoreReset => exact (Via.of_exists (execServiceCoreReset_via ..) h).within
  | policyImageLoad => exact (execPolicyImageLoad_via _ _ _ h).within
  | loaderGo => exact (execLoaderGo_via _ _ _ h).within
  | loaderHalt => exact (execLoaderHalt_via _ _ _ h).within
  | dmaGo => exact (Via.of_exists (execDmaGo_via ..) h).within
  | dmaStop => exact (execDmaStop_via _ _ _ _ h).within
  | dmaEnd => exact (execDmaEnd_via _ _ _ h).within
  | qspiHashStart => exact (Via.of_exists (execQspiHashStart_via ..) h).within
  | qspiHashEnd => exact (Via.of_exists (execQspiHashEnd_via ..) h).within
  | qspiEraseSector => exact (Via.of_exists (execQspiEraseSector_via ..) h).within
  | qspiEraseBlock => exact (Via.of_exists (execQspiEraseBlock_via ..) h).within
  | qspiProgram => exact (Via.of_exists (execQspiProgram_via ..) h).within
  | qspiOpEnd => exact (Via.of_exists (execQspiOpEnd_via ..) h).within
  | nvmErase => exact (Via.of_exists (execNvmErase_via ..) h).within
  | nvmProgram => exact (Via.of_exists (execNvmProgram_via ..) h).within
  | nvmOpEnd => exact (Via.of_exists (execNvmOpEnd_via ..) h).within
  | calCommitEnd => exact (Via.of_exists (execCalCommitEnd_via ..) h).within
  | spiWrite => exact (Via.of_exists (execSpiWrite_via ..) h).within
  | spiStatus => exact (Via.of_exists (execSpiStatus_via ..) h).within
  | spiRead => exact (Via.of_exists (execSpiRead_via ..) h).within
  | spiBadOpcode => exact (Via.of_exists (execSpiBadOpcode_via ..) h).within
  | i2cWrite => exact (Via.of_exists (execI2cWrite_via ..) h).within
  | i2cStatus => exact (Via.of_exists (execI2cStatus_via ..) h).within
  | i2cRead => exact (Via.of_exists (execI2cRead_via ..) h).within
  | localMailboxGo => exact (Via.of_exists (execLocalMailboxGo_via ..) h).within
  | localMailboxAck => exact (Via.of_exists (execLocalMailboxAck_via ..) h).within
  | commandStart => exact (Via.of_exists (execCommandStart_via ..) h).within
  | portLockRelease => exact (Via.of_exists (execPortLockRelease_via ..) h).within
  | sysInfo => exact (Via.of_exists (execSysInfo_via ..) h).within
  | sysReset => exact (Via.of_exists (execSysReset_via ..) h).within
  | sysDormant => exact (Via.of_exists (execSysDormant_via ..) h).within
  | sysDomain => exact (Via.of_exists (execSysDomain_via ..) h).within
  | sysPart => exact (Via.of_exists (execSysPart_via ..) h).within
  | sysNotices => exact (Via.of_exists (execSysNotices_via ..) h).within
  | sysThaw => exact (Via.of_exists (execSysThaw_via ..) h).within
  | sysFwBegin => exact (Via.of_exists (execSysFwBegin_via ..) h).within
  | sysFwData => exact (Via.of_exists (execSysFwData_via ..) h).within
  | sysFwEnd => exact (Via.of_exists (execSysFwEnd_via ..) h).within
  | sysFwStatus => exact (Via.of_exists (execSysFwStatus_via ..) h).within
  | sysCfgSave => exact (Via.of_exists (execSysCfgSave_via ..) h).within
  | portStatus => exact (Via.of_exists (execPortStatus_via ..) h).within
  | portAssign => exact (Via.of_exists (execPortAssign_via ..) h).within
  | portMigrate => exact (Via.of_exists (execPortMigrate_via ..) h).within
  | portIsolate => exact (Via.of_exists (execPortIsolate_via ..) h).within
  | portRestore => exact (Via.of_exists (execPortRestore_via ..) h).within
  | portQuarantine => exact (Via.of_exists (execPortQuarantine_via ..) h).within
  | portQuarantineRelease => exact (Via.of_exists (execPortQuarantineRelease_via ..) h).within
  | portSelftest => exact (Via.of_exists (execPortSelftest_via ..) h).within
  | portSelftestResults => exact (Via.of_exists (execPortSelftestResults_via ..) h).within
  | portGlitch => exact (Via.of_exists (execPortGlitch_via ..) h).within
  | portVbus => exact (Via.of_exists (execPortVbus_via ..) h).within
  | portLatchclr => exact (Via.of_exists (execPortLatchclr_via ..) h).within
  | portCc => exact (Via.of_exists (execPortCc_via ..) h).within
  | portCfg => exact (Via.of_exists (execPortCfg_via ..) h).within
  | portTtalloc => exact (Via.of_exists (execPortTtalloc_via ..) h).within
  | pdStatus => exact (Via.of_exists (execPdStatus_via ..) h).within
  | pdStatusQuery => exact (Via.of_exists (execPdStatusQuery_via ..) h).within
  | pdCfg => exact (Via.of_exists (execPdCfg_via ..) h).within
  | pdProfileRead => exact (Via.of_exists (execPdProfileRead_via ..) h).within
  | pdProfileWrite => exact (Via.of_exists (execPdProfileWrite_via ..) h).within
  | pdSwapPr => exact (Via.of_exists (execPdSwapPr_via ..) h).within
  | pdSwapVconn => exact (Via.of_exists (execPdSwapVconn_via ..) h).within
  | pdResetSoft => exact (Via.of_exists (execPdResetSoft_via ..) h).within
  | pdResetHard => exact (Via.of_exists (execPdResetHard_via ..) h).within
  | pdResetCable => exact (Via.of_exists (execPdResetCable_via ..) h).within
  | pdSinkcfg => exact (Via.of_exists (execPdSinkcfg_via ..) h).within
  | pdSlot => exact (Via.of_exists (execPdSlot_via ..) h).within
  | pwrStatus => exact (Via.of_exists (execPwrStatus_via ..) h).within
  | pwrGovcfg => exact (Via.of_exists (execPwrGovcfg_via ..) h).within
  | pwrPrio => exact (Via.of_exists (execPwrPrio_via ..) h).within
  | pwrPortcfg => exact (Via.of_exists (execPwrPortcfg_via ..) h).within
  | pwrFeedctl => exact (Via.of_exists (execPwrFeedctl_via ..) h).within
  | pwrEnergy => exact (Via.of_exists (execPwrEnergy_via ..) h).within
  | timeGet => exact (Via.of_exists (execTimeGet_via ..) h).within
  | timeSet => exact (Via.of_exists (execTimeSet_via ..) h).within
  | timeAdd => exact (Via.of_exists (execTimeAdd_via ..) h).within
  | timeCancel => exact (Via.of_exists (execTimeCancel_via ..) h).within
  | timeList => exact (Via.of_exists (execTimeList_via ..) h).within
  | timeSof => exact (Via.of_exists (execTimeSof_via ..) h).within
  | traceStatus => exact (Via.of_exists (execTraceStatus_via ..) h).within
  | traceCfg => exact (Via.of_exists (execTraceCfg_via ..) h).within
  | traceCtlStart => exact (Via.of_exists (execTraceCtlStart_via ..) h).within
  | traceCtlStop => exact (Via.of_exists (execTraceCtlStop_via ..) h).within
  | traceCtlTrig => exact (Via.of_exists (execTraceCtlTrig_via ..) h).within
  | traceCtlClear => exact (Via.of_exists (execTraceCtlClear_via ..) h).within
  | traceCtlMark => exact (Via.of_exists (execTraceCtlMark_via ..) h).within
  | traceRead => exact (Via.of_exists (execTraceRead_via ..) h).within
  | faultStatus => exact (Via.of_exists (execFaultStatus_via ..) h).within
  | faultStatusList => exact (Via.of_exists (execFaultStatusList_via ..) h).within
  | faultCfg => exact (Via.of_exists (execFaultCfg_via ..) h).within
  | faultClear => exact (Via.of_exists (execFaultClear_via ..) h).within
  | faultInject => exact (Via.of_exists (execFaultInject_via ..) h).within
  | faultSelftest => exact (Via.of_exists (execFaultSelftest_via ..) h).within
  | faultSummary => exact (Via.of_exists (execFaultSummary_via ..) h).within
  | faultLog => exact (Via.of_exists (execFaultLog_via ..) h).within
  | calExport => exact (Via.of_exists (execCalExport_via ..) h).within
  | calWrite => exact (Via.of_exists (execCalWrite_via ..) h).within
  | calWriteCommit => exact (Via.of_exists (execCalWriteCommit_via ..) h).within
  | regRead => exact (Via.of_exists (execRegRead_via ..) h).within
  | regWrite => exact (execRegWrite_via _ _ _ h).within
  | chordStatus => exact (Via.of_exists (execChordStatus_via ..) h).within
  | chordCfg => exact (Via.of_exists (execChordCfg_via ..) h).within
  | chordLink => exact (Via.of_exists (execChordLink_via ..) h).within
  | chordGatherRead => exact (Via.of_exists (execChordGatherRead_via ..) h).within
  | gather => exact (Via.of_exists (execGather_via ..) h).within
  | bootRailsValid => exact (Via.of_exists (execBootRailsValid_via ..) h).within
  | sysRstNRelease => exact (Via.of_exists (execSysRstNRelease_via ..) h).within
  | railEnStep => exact (Via.of_exists (execRailEnStep_via ..) h).within
  | thermalResetRelease => exact (Via.of_exists (execThermalResetRelease_via ..) h).within
  | referenceReturn => exact (Via.of_exists (execReferenceReturn_via ..) h).within
  | railMonitorChange => exact (Via.of_exists (execRailMonitorChange_via ..) h).within
  | d2dLinkTrained => exact (Via.of_exists (execD2dLinkTrained_via ..) h).within
  | hubDeviceRequest => exact (Via.of_exists (execHubDeviceRequest_via ..) h).within
  | sinkRequestRetry => exact (Via.of_exists (execSinkRequestRetry_via ..) h).within
  | ovldxClear => exact (Via.of_exists (execOvldxClear_via ..) h).within
  | sramUncorrectable => exact (Via.of_exists (execSramUncorrectable_via ..) h).within
  | wireFaultEnd => exact (Via.of_exists (execWireFaultEnd_via ..) h).within
  | mret => exact (Via.of_exists (execMret_via ..) h).within
  | synchronousException => exact (Via.of_exists (execSynchronousException_via ..) h).within

/-- Settles O9: the zones outside the mask of the row are those that the list does not name. -/
theorem everyCommandKeepsWhatItDoesNotName : Obligations.EveryCommandKeepsWhatItDoesNotName :=
  fun _ _ _ h => (exec_via h).onlyIn_mask

/-- Settles O8: no operation reaches the queue. -/
theorem everyCommandKeepsTheQueue : Obligations.EveryCommandKeepsTheQueue :=
  fun _ _ _ h => (exec_via h).pending

/-- Settles O1: the queue decides what `step` runs, and a command in front is its second case. -/
theorem stepRunsTheFrontCommand : Obligations.StepRunsTheFrontCommand := by
  intro c rest s front
  simp only [step, front]

end Sys2Proof.Machine
end

section
/-! A thaw that R407 refuses: "a frozen master by R116, and each of those is refused while its source remains in FAULT". -/

namespace Sys2Proof.Machine

/-- A refused thaw changes nothing (R407). -/
theorem State.thaw_of_freezeHeld {s : State} {m : Nat} (held : s.freezeHeld m = true) : s.thaw m = s := by
  simp [State.thaw, held]

theorem State.each_thaw_of_freezeHeld {s : State} {l : List Nat} (held : ∀ m ∈ l, s.freezeHeld m = true) :
    s.each l State.thaw = s := by
  induction l with
  | nil => rfl
  | cons m l ih =>
    obtain ⟨first, rest⟩ := List.forall_mem_cons.mp held
    rw [State.each, List.foldl_cons, State.thaw_of_freezeHeld first]
    exact ih rest

/-- A THAW that names held masters alone changes nothing. -/
theorem exec_thaw_of_freezeHeld {s : State} {mask : Nat} (held : ∀ m, mask.testBit m = true → s.freezeHeld m = true) :
    exec (.thaw mask) s = .next s :=
  congrArg Host.Outcome.next (State.each_thaw_of_freezeHeld fun m hm => held m (List.mem_filter.mp hm).2)

/-- The part after reset with the violation source of master 9 set to freeze its master at the first event (REACT 4, R406). -/
def freezeOnViolation : State :=
  State.reset.updFc (quinceSource 0x03 9) (fun r => { r with written := true, n := 1, react := 4 })

/-- Master 9 stored where no window grants it, and the event of that violation took its source to FAULT. -/
def frozenInFault : State := (freezeOnViolation.violation 9 0 4 .store).fcNext 0

/-- VIOLATION and FAULT_EVENT lead to the state. -/
theorem frozenInFault_reached :
    ∃ s, exec (.violation 9 0 4 .store) freezeOnViolation = .next s ∧ exec .faultEvent s = .next frozenInFault :=
  ⟨_, rfl, rfl⟩

theorem frozenInFault_frozen : frozenInFault.bit F.MPU_FREEZE_FROZEN 0 9 = true := by decide

theorem frozenInFault_held : frozenInFault.freezeHeld 9 = true := by decide

/-- Refutes O20: its clause on THAW has no condition on the master's fault source, and while that source is in FAULT by a
freeze reaction R407 refuses the thaw: master 9 of `frozenInFault` stays frozen. -/
theorem not_domainLinkAndProtectionCommands : ¬ Obligations.DomainLinkAndProtectionCommands := by
  rintro ⟨-, -, -, -, -, -, -, -, -, -, thaws⟩
  obtain ⟨t, ran, thawed, -⟩ := thaws frozenInFault (2 ^ 9) 9 (by decide) (by decide) (by decide) frozenInFault_frozen
  have refused : exec (.thaw (2 ^ 9)) frozenInFault = .next frozenInFault := by
    refine exec_thaw_of_freezeHeld fun m named => ?_
    obtain rfl : 9 = m := by simpa only [Nat.testBit_two_pow, decide_eq_true_eq] using named
    exact frozenInFault_held
  have unchanged : frozenInFault = t := Host.Outcome.next.inj (refused.symm.trans ran)
  rw [← unchanged, frozenInFault_frozen] at thawed
  cases thawed

end Sys2Proof.Machine
end

section
/-! The rules of the operations that supply, reset and boot share: what each leaves in a field and in the power record
(R44, R46, R53, R54, R68 to R72). -/

namespace Sys2Proof.Machine

/-! ### Fields -/

theorem State.fld_ite (c : Prop) [Decidable c] (s t : State) (f : Field) (i : Nat) :
    (if c then s else t).fld f i = if c then s.fld f i else t.fld f i := apply_ite (State.fld · f i) c s t

theorem State.power_ite (c : Prop) [Decidable c] (s t : State) :
    (if c then s else t).power = if c then s.power else t.power := apply_ite State.power c s t

theorem State.power_ite_of {c : Prop} [Decidable c] {s t : State} {p : Power} (hs : s.power = p) (ht : t.power = p) :
    (if c then s else t).power = p := by
  rw [State.power_ite, hs, ht, ite_self]

@[simp] theorem State.fld_set_power (s : State) (p : Power) (f : Field) (i : Nat) :
    ({ s with power := p } : State).fld f i = s.fld f i := rfl

@[simp] theorem State.on_set_power (s : State) (p : Power) (f : Field) (i : Nat) :
    ({ s with power := p } : State).on f i = s.on f i := rfl

@[simp] theorem State.put_power (s : State) (f : Field) (i : Nat) (b : Bool) : (s.put f i b).power = s.power := rfl

theorem State.on_of_fld {s t : State} {f : Field} {i : Nat} (h : t.fld f i = s.fld f i) : t.on f i = s.on f i :=
  congrArg (fun v => decide (v ≠ 0)) h

theorem State.bit_of_fld {s t : State} {f : Field} {i : Nat} (h : t.fld f i = s.fld f i) (b : Nat) :
    t.bit f i b = s.bit f i b := congrArg (Nat.testBit · b) h

theorem State.fld_put_ne (s : State) {f g : Field} (i j : Nat) (b : Bool) (h : g.id ≠ f.id) :
    (s.put f i b).fld g j = s.fld g j := fld_setFld_ne s i j _ h

theorem State.on_setFld_ne (s : State) {f g : Field} (i j v : Nat) (h : g.id ≠ f.id) :
    (s.setFld f i v).on g j = s.on g j := State.on_of_fld (fld_setFld_ne s i j v h)

theorem State.on_put_self (s : State) {f : Field} (i : Nat) (b : Bool) (one : f.width = 1) : (s.put f i b).on f i = b := by
  simpa [State.on, State.put, one] using bit01_ne_zero b

/-- A bit written is read back. -/
theorem testBit_withBit (x b : Nat) (v : Bool) : (withBit x b v).testBit b = v := by
  have low : x % 2 ^ b < 2 ^ b := Nat.mod_lt _ (Nat.two_pow_pos b)
  have value : withBit x b v / 2 ^ b % 2 = if v then 1 else 0 := by
    have split : withBit x b v = x % 2 ^ b + 2 ^ b * ((if v then 1 else 0) + 2 * (x / 2 ^ (b + 1))) := by
      cases v <;> simp [withBit, pow_succ] <;> ring
    rw [split, Nat.add_mul_div_left _ _ (Nat.two_pow_pos b), Nat.div_eq_of_lt low]
    cases v <;> simp
  rw [Nat.testBit_eq_decide_div_mod_eq, value]
  cases v <;> rfl

theorem State.bit_setFld_self (s : State) {f : Field} {b : Nat} (i v : Nat) (fits : b < f.width) :
    (s.setFld f i v).bit f i b = v.testBit b := by
  simp [State.bit, Nat.testBit_mod_two_pow, fits]

theorem State.bit_putBit_self (s : State) {f : Field} {b : Nat} (i : Nat) (v : Bool) (fits : b < f.width) :
    (s.putBit f i b v).bit f i b = v := by
  rw [State.putBit, State.bit_setFld_self s i _ fits, testBit_withBit]

theorem State.each_power {g : State → Nat → State} (h : ∀ s n, (g s n).power = s.power) (s : State) (l : List Nat) :
    (s.each l g).power = s.power := by
  induction l generalizing s with
  | nil => rfl
  | cons n l ih => exact (ih (g s n)).trans (h s n)

/-- An operation that does not reach the power record leaves it. -/
theorem Via.power {m : Nat} {s t : State} (d : Via m s t) (h : m.testBit 30 = false) : t.power = s.power := d.same .power h

/-! ### Interrupts and rails -/

theorem State.irq_fld (s : State) {f : Field} (n i : Nat) (h : f.id ≠ F.IC_PEND_PEND.id) : (s.irq n).fld f i = s.fld f i := by
  unfold State.irq
  split
  · exact fld_setFld_ne s _ _ _ h
  · rfl

@[simp] theorem State.irq_power (s : State) (n : Nat) : (s.irq n).power = s.power := (State.irq_via s n).power rfl

theorem State.pends_irq_self (s : State) {n : Nat} (h : 0 < n ∧ n < 184) : (s.irq n).pends n = true := by
  rw [State.irq, if_pos h]
  exact State.bit_putBit_self s _ true (Nat.mod_lt n (by decide))

@[simp] theorem State.ppsSettle_fld (s : State) (f : Field) (i : Nat) : s.ppsSettle.fld f i = s.fld f i := by
  unfold State.ppsSettle
  split <;> rfl

@[simp] theorem State.setRail_power (s : State) (rail : Nat) (ok : Bool) : (s.setRail rail ok).power = s.power :=
  (State.setRail_via s rail ok).power (by decide)

theorem State.railOk_setRail_self (s : State) {rail : Nat} (ok : Bool) (h : rail ≤ 8) :
    (s.setRail rail ok).railOk rail = ok := by
  match rail with
  | 0 | 1 | 2 => exact State.on_put_self s 0 ok rfl
  | k + 3 =>
    have vio : (s.setRail (k + 3) ok).fld F.PMU_RAILSTAT_VIO_OK 0
        = (s.putBit F.PMU_RAILSTAT_VIO_OK 0 k ok).fld F.PMU_RAILSTAT_VIO_OK 0 := State.ppsSettle_fld ..
    exact (State.bit_of_fld vio k).trans (s.bit_putBit_self 0 ok (show k < 6 by omega))

theorem State.railOk_of_fld {s t : State} (rail : Nat)
    (h : ∀ f ∈ [F.PMU_RAILSTAT_VCORE_OK, F.PMU_RAILSTAT_VDD18_OK, F.PMU_RAILSTAT_VDD33_OK, F.PMU_RAILSTAT_VIO_OK],
      t.fld f 0 = s.fld f 0) : t.railOk rail = s.railOk rail := by
  simp only [List.forall_mem_cons] at h
  obtain ⟨vcore, vdd18, vdd33, vio, -⟩ := h
  match rail with
  | 0 => exact State.on_of_fld vcore
  | 1 => exact State.on_of_fld vdd18
  | 2 => exact State.on_of_fld vdd33
  | k + 3 => exact State.bit_of_fld vio k

/-! ### Part reset -/

theorem look_filter_of_kept {κ α : Type} [DecidableEq κ] (d : α) (q : κ → Bool) {k : κ} (kept : q k = true)
    (l : List (κ × α)) : look d k (l.filter (fun e => q e.1)) = look d k l := by
  induction l with
  | nil => rfl
  | cons e l ih =>
    by_cases here : e.1 = k
    · simp [look, here, kept]
    · by_cases other : q e.1 = true <;> simp [look, here, other, ih]

@[simp] theorem State.cutOps_power (s : State) : s.cutOps.power = s.power := (State.cutOps_via s).power (by decide)

@[simp] theorem State.cutOps_fld (s : State) (f : Field) (i : Nat) : s.cutOps.fld f i = s.fld f i :=
  (State.cutOps_via s).fld f i (by cases blockOf f.id <;> decide)

/-- PMU_RESET_CAUSE and PMU_RAILSTAT stand through every part reset (R70, R89). -/
theorem keptField_of_supply {cause fid : Nat}
    (h : fid / 32 = F.PMU_RESET_CAUSE_CAUSE.id / 32 ∨ fid / 32 = F.PMU_RAILSTAT_BOOT_OK.id / 32) :
    keptField cause fid = true := by
  rcases h with h | h <;> simp [keptField, h]

theorem State.cleared_fld (s : State) {cause : Nat} {f : Field} (i : Nat) (kept : keptField cause f.id = true) :
    (s.cleared cause).fld f i = s.fld f i := by
  have regs : (s.cleared cause).regs = s.cutOps.regs.filter (fun e => keptField cause e.1.1) := rfl
  rw [State.fld, regs, look_filter_of_kept _ (fun k : Nat × Nat => keptField cause k.1) kept]
  exact s.cutOps_fld f i

section
variable (s : State) (cause : Nat)
@[simp] theorem State.cleared_refHold : (s.cleared cause).power.refHold = false := rfl
@[simp] theorem State.cleared_rstN : (s.cleared cause).power.rstN = s.power.rstN := (congrArg Power.rstN s.cutOps_power :)
@[simp] theorem State.cleared_hot : (s.cleared cause).power.hot = s.power.hot := (congrArg Power.hot s.cutOps_power :)
@[simp] theorem State.cleared_dies : (s.cleared cause).power.dies = s.power.dies := (congrArg Power.dies s.cutOps_power :)
@[simp] theorem State.cleared_testEn : (s.cleared cause).power.testEn = s.power.testEn := (congrArg Power.testEn s.cutOps_power :)
@[simp] theorem State.cleared_sample : (s.cleared cause).power.sample = (s.power.sample || decide (cause < 6)) :=
  (congrArg (fun p : Power => p.sample || decide (cause < 6)) s.cutOps_power :)
end

/-- A reset cause reaches the power record by its age alone (R71). -/
theorem State.recordCause_power (s : State) (cause channel : Nat) :
    (s.recordCause cause channel).power = { s.power with resetAge := if s.causesMerge then s.power.resetAge else 0 } := by
  cases merges : s.causesMerge <;> simp [State.recordCause, merges, State.power_ite]

/-- Beside the age of the cause, only PMU_RESET_CAUSE changes (R71). -/
theorem State.recordCause_fld (s : State) (cause channel : Nat) {f : Field} (i : Nat)
    (other : f.id / 32 ≠ F.PMU_RESET_CAUSE_CAUSE.id / 32) : (s.recordCause cause channel).fld f i = s.fld f i := by
  have apart : ∀ g ∈ [F.PMU_RESET_CAUSE_SEEN, F.PMU_RESET_CAUSE_CAUSE, F.PMU_RESET_CAUSE_CHANNEL], f.id ≠ g.id := by
    simp only [List.forall_mem_cons]
    exact ⟨fun e => other (by rw [e]; rfl), fun e => other (by rw [e]), fun e => other (by rw [e]; rfl), by simp⟩
  simp only [List.forall_mem_cons] at apart
  obtain ⟨seen, first, chan, -⟩ := apart
  simp [State.recordCause, State.fld_ite, fld_setFld_ne, seen, first, chan]

/-- SEEN holds the cause (R71, R89). -/
theorem State.recordCause_seen (s : State) {cause : Nat} (channel : Nat) (low : 1 ≤ cause) (high : cause ≤ 11) :
    (s.recordCause cause channel).bit F.PMU_RESET_CAUSE_SEEN 0 (cause - 1) = true := by
  have value : ∃ v, (s.recordCause cause channel).fld F.PMU_RESET_CAUSE_SEEN 0 = Nat.lor v (2 ^ (cause - 1)) % 2 ^ 11 :=
    ⟨_, by simp (disch := decide) [State.recordCause, State.fld_ite, fld_setFld_ne]; rfl⟩
  obtain ⟨v, hv⟩ := value
  have inside : cause - 1 < 11 := by omega
  have set : (Nat.lor v (2 ^ (cause - 1))).testBit (cause - 1) = true := by
    rw [show Nat.lor v _ = v ||| 2 ^ (cause - 1) from rfl, Nat.testBit_or, Nat.testBit_two_pow_self, Bool.or_true]
  rw [State.bit, hv, Nat.testBit_mod_two_pow, set]
  simpa using inside

theorem State.resetTo_fld_recorded (s : State) {cause : Nat} (channel : Nat) {f : Field} (i : Nat)
    (kept : keptField cause f.id = true) (rails : f.id ≠ F.PMU_RAILSTAT_RAIL_EN.id) :
    (s.resetTo cause channel).fld f i = (s.recordCause cause channel).fld f i := by
  rw [State.resetTo, fld_setFld_ne _ _ _ _ rails, State.cleared_fld _ i kept]

/-- A field that the reset with this cause keeps (R70). -/
theorem State.resetTo_fld (s : State) {cause : Nat} (channel : Nat) {f : Field} (i : Nat) (kept : keptField cause f.id = true)
    (rails : f.id ≠ F.PMU_RAILSTAT_RAIL_EN.id) (other : f.id / 32 ≠ F.PMU_RESET_CAUSE_CAUSE.id / 32) :
    (s.resetTo cause channel).fld f i = s.fld f i :=
  (s.resetTo_fld_recorded channel i kept rails).trans (s.recordCause_fld cause channel i other)

theorem State.resetTo_power (s : State) (cause channel : Nat) :
    (s.resetTo cause channel).power = ((s.recordCause cause channel).cleared cause).power := rfl

theorem State.resetTo_seen (s : State) {cause : Nat} (channel : Nat) (low : 1 ≤ cause) (high : cause ≤ 11) :
    (s.resetTo cause channel).bit F.PMU_RESET_CAUSE_SEEN 0 (cause - 1) = true := by
  rw [← s.recordCause_seen channel low high]
  have kept : keptField cause F.PMU_RESET_CAUSE_SEEN.id = true := keptField_of_supply (.inl rfl)
  exact State.bit_of_fld (s.resetTo_fld_recorded channel 0 kept (by decide)) _

end Sys2Proof.Machine
end

section
/-! Strap sampling and the boot ROM: what they leave (R44 to R46, R72, R73, R78). -/

namespace Sys2Proof.Machine

/-- An operation may write the field: it lies in a block of the mask, or is listed. -/
def writable (m : Nat) (l : List Field) (g : Field) : Bool :=
  m.testBit (Zone.reg (blockOf g.id)).code || l.any (fun h => h.id == g.id)

/-- Of the fields, `t` differs from `s` in those of the blocks in the mask and in the listed ones at most. -/
def Alters (m : Nat) (l : List Field) (s t : State) : Prop := ∀ f i, writable m l f = false → t.fld f i = s.fld f i

variable {m : Nat} {l : List Field} {s t u : State}

theorem writable_of_id {f g : Field} (h : f.id = g.id) : writable m l f = writable m l g := by
  rw [writable, writable, h]

theorem Alters.refl (s : State) : Alters m l s s := fun _ _ _ => rfl

theorem Alters.trans (d : Alters m l s t) (e : Alters m l t u) : Alters m l s u :=
  fun f i h => (e f i h).trans (d f i h)

theorem Alters.setFld (d : Alters m l s t) {g : Field} {i v : Nat} (h : writable m l g = true := by decide) :
    Alters m l s (t.setFld g i v) := by
  intro f j outside
  refine (fld_setFld_ne t i j v fun same => ?_).trans (d f j outside)
  rw [writable_of_id same, h] at outside
  cases outside

theorem Alters.put (d : Alters m l s t) {g : Field} {i : Nat} {b : Bool} (h : writable m l g = true := by decide) :
    Alters m l s (t.put g i b) := d.setFld h

theorem Alters.setPower (d : Alters m l s t) {p : Power} : Alters m l s { t with power := p } := d

/-- An operation that reaches blocks of the mask alone. -/
theorem Alters.via {n : Nat} (d : Alters m l s t) (e : Via n t u)
    (h : Nat.land (Nat.land allRegs n) m = Nat.land allRegs n := by decide) : Alters m l s u := by
  intro f i outside
  refine (e.fld f i ?_).trans (d f i outside)
  rw [writable, Bool.or_eq_false_iff] at outside
  have block : allRegs.testBit (Zone.reg (blockOf f.id)).code = true := land_allRegs rfl _
  by_contra reached
  have both : (Nat.land allRegs n).testBit (Zone.reg (blockOf f.id)).code = true := by
    rw [show Nat.land allRegs n = allRegs &&& n from rfl, Nat.testBit_and, block]
    simpa using reached
  rw [testBit_mono h both] at outside
  cases outside.1

theorem Alters.mono {n : Nat} {k : List Field} (d : Alters m l s t) (blocks : Nat.land m n = m := by decide)
    (listed : l.all (writable n k) = true := by decide) : Alters n k s t := by
  intro f i outside
  refine d f i ?_
  by_contra written
  rw [Bool.not_eq_false, writable, Bool.or_eq_true, List.any_eq_true] at written
  obtain block | ⟨g, member, same⟩ := written
  · rw [writable, testBit_mono blocks block] at outside
    cases outside
  · rw [← writable_of_id (eq_of_beq same), List.all_eq_true.mp listed g member] at outside
    cases outside

theorem Alters.ite {c : Prop} [Decidable c] (d : Alters m l s t) (e : Alters m l s u) :
    Alters m l s (if c then t else u) := by
  split <;> assumption

theorem Alters.each {g : State → Nat → State} {xs : List Nat} (d : Alters m l s t) (h : ∀ s n, Alters m l s (g s n)) :
    Alters m l s (t.each xs g) := by
  induction xs generalizing t with
  | nil => exact d
  | cons n xs ih => exact ih (d.trans (h t n))

theorem Alters.on (d : Alters m l s t) (f : Field) (i : Nat) (outside : writable m l f = false := by decide) :
    t.on f i = s.on f i := State.on_of_fld (d f i outside)

/-- The registers that steps 2 to 4 of R72 write, beside those of the blocks in `romMask`. -/
def romWrites : List Field :=
  [F.PMU_CLKSTAT_XO_OK, F.SYS_BOOT_BOOT_STATUS, F.SYS_ID_DIES, F.SYS_SERIAL0_SERIAL, F.SYS_SERIAL1_SERIAL]

/-- D2D, DIE, TCPD, CHORD, QSPI and TGT, which the boot ROM writes (R72). -/
def romMask : Nat := 2 ^ 3 + 2 ^ 4 + 2 ^ 10 + 2 ^ 15 + 2 ^ 21 + 2 ^ 26

theorem State.romStart_alters (s : State) : Alters romMask romWrites s s.romStart := by
  unfold State.romStart
  extract_lets _ _ s₁ s₂ s₃ s₄ _ s₅ _ s₆ s₇ s₈
  have straps : Alters romMask romWrites s s₄ :=
    .setFld (.put (.via (.put (.setFld (.setFld (.put (.put (.refl s)))))) (State.apexRange_via _)))
  have latched : Alters romMask romWrites s s₅ := .via (.setPower straps) (State.readHostRp_via _)
  have found : Alters romMask romWrites s s₈ := .each (.setFld (.setFld (.setFld latched))) (fun s _ => .setFld (.refl s))
  clear_value s₅ s₈
  refine .ite (.setFld (.setPower latched)) ?_
  unfold State.drawNat
  dsimp -zeta only
  extract_lets s₉ s₁₀ s₁₁ s₁₂
  have flash : Alters romMask romWrites s s₁₁ := .setFld (.setFld (.put (.setFld (s := s) found)))
  have linked : Alters romMask romWrites s s₁₂ := .ite (.via flash (State.setD2d_via _ _ _)) flash
  exact .ite linked (.setFld (.setPower linked))

/-- The stage that the boot ROM reaches before PLL lock (R40, R72, R73): it halts under TEST_EN, and on a DIES value that R9 does
not allow. -/
abbrev romStage (testEn : Bool) (dies : Nat) : BootStage := if testEn || !diesValid dies then .halted else .rom

/-- The limit of the chain's draw after boot step 2, in mA (R77, R78). -/
def State.chainLimit (s : State) : Nat :=
  if s.on F.PMU_RAILSTAT_DB_ACTIVE 0 then (if 2 ≤ s.power.hostRp then 500 else 100) else s.power.inLimit

theorem State.readHostRp_power (s : State) : s.readHostRp.power = { s.power with inLimit := s.chainLimit } := by
  unfold State.readHostRp State.chainLimit
  split <;> rfl

theorem State.romStart_power (s : State) :
    s.romStart.power = { s.power with boot := romStage s.power.testEn s.power.dies, inLimit := s.chainLimit } := by
  unfold State.romStart
  extract_lets _ _ s₁ s₂ s₃ s₄ _ s₅ _ s₆ s₇ s₈
  have straps : Alters romMask romWrites s s₄ :=
    .setFld (.put (.via (.put (.setFld (.setFld (.put (.put (.refl s)))))) (State.apexRange_via _)))
  have held : s₄.power = s.power := (State.apexRange_via _).power (by decide)
  have limit : ({ s₄ with power := { s₄.power with boot := .rom } } : State).chainLimit = s.chainLimit := by
    simp only [State.chainLimit, State.on_set_power, straps.on F.PMU_RAILSTAT_DB_ACTIVE 0, held]
  have begun : s₅.power = { s.power with boot := .rom, inLimit := s.chainLimit } :=
    (State.readHostRp_power _).trans
      (congrArg₂ (fun (p : Power) n => { p with boot := .rom, inLimit := n }) held limit)
  clear_value s₅
  have found : s₈.power = s₅.power := by
    rw [show s₈ = s₇.each _ _ from rfl, State.each_power]
    · simp only [s₇, s₆, State.setFld_power]
    · exact fun _ _ => rfl
  clear_value s₈
  have stopped : ({ s₅.power with boot := .halted } : Power) = { s.power with boot := .halted, inLimit := s.chainLimit } :=
    congrArg (fun p : Power => { p with boot := .halted }) begun
  by_cases halts : s.power.testEn = true
  · rw [if_pos (by rw [begun]; exact halts), show romStage s.power.testEn s.power.dies = .halted by simp [halts]]
    exact stopped
  · rw [if_neg (by rw [begun]; exact halts)]
    unfold State.drawNat
    dsimp -zeta only
    extract_lets s₉ s₁₀ s₁₁ s₁₂
    have flash : s₁₁.power = s₅.power := found
    have linked : s₁₂.power = s₅.power :=
      State.power_ite_of (((State.setD2d_via s₁₁ 1 2).power (by decide)).trans flash) flash
    by_cases valid : diesValid s.power.dies = true
    · rw [if_pos (by rw [linked, begun]; exact valid), linked, begun,
        show romStage s.power.testEn s.power.dies = .rom by simp [halts, valid]]
    · rw [if_neg (by rw [linked, begun]; exact valid), show romStage s.power.testEn s.power.dies = .halted by simp [valid]]
      exact (congrArg (fun p : Power => { p with boot := .halted }) linked).trans stopped

end Sys2Proof.Machine
end

section
/-! The strap trigger, the start of the boot, and fresh supplies (R44, R46, R54, R60, R87). -/

namespace Sys2Proof.Machine

theorem State.bootSupplied_of_on {s t : State} (ok : t.on F.PMU_RAILSTAT_BOOT_OK 0 = s.on F.PMU_RAILSTAT_BOOT_OK 0)
    (db : t.on F.PMU_RAILSTAT_DB_ACTIVE 0 = s.on F.PMU_RAILSTAT_DB_ACTIVE 0) : t.bootSupplied = s.bootSupplied := by
  rw [State.bootSupplied, State.bootSupplied, ok, db]

theorem State.triggered_intro {s : State} (aon : s.power.aon = true) (supplied : s.bootSupplied = true)
    (pin : s.power.rstN = true) (idle : s.power.boot = .off) (awake : s.power.dormancy = .awake) : s.triggered = true := by
  simp [State.triggered, aon, supplied, pin, idle, awake]

theorem State.triggered_eq_false {s : State} (h : s.bootSupplied = false ∨ s.power.rstN = false) : s.triggered = false := by
  rcases h with h | h <;> simp [State.triggered, h]

/-! ### The boot on the strap word latched -/

theorem State.tryBoot_of_not_triggered {s : State} (h : s.triggered = false) : s.tryBoot = s := by
  simp [State.tryBoot, h]

theorem State.tryBoot_of_hot {s : State} (h : s.power.hot = true) : s.tryBoot = s := by
  simp [State.tryBoot, h]

theorem State.tryBoot_of_triggered {s : State} (trig : s.triggered = true) (latched : s.power.sample = false)
    (cool : s.power.hot = false) : s.tryBoot = s.romStart := by
  simp [State.tryBoot, trig, latched, cool]

theorem State.tryBoot_alters (s : State) : Alters romMask romWrites s s.tryBoot := .ite s.romStart_alters (.refl s)

/-! ### The boot at the strap trigger -/

/-- The straps and TEST_EN are sampled (R40, R44, R45). -/
def State.sampled (s : State) (samples : List Nat) (testEn : Bool) : State :=
  (({ s with power := { s.power with sample := false, testEn := testEn } }.setFld F.SYS_STRAP_STRAPS 0 (strapWord samples)).setFld
    F.SYS_STRAP_UNSTABLE 0 (strapUnstable samples))

section
variable {s : State} (samples : List Nat) (testEn : Bool)

theorem State.bootTry_of_not_triggered (h : s.triggered = false) : s.bootTry samples testEn = s := by
  rw [State.bootTry, State.latchStraps, h]
  exact State.tryBoot_of_not_triggered h

theorem State.bootTry_of_due (trig : s.triggered = true) (due : s.power.sample = true) :
    s.bootTry samples testEn = (s.sampled samples testEn).tryBoot := by
  rw [State.bootTry, State.latchStraps, trig, due]
  rfl

theorem State.sampled_alters : Alters 0 [F.SYS_STRAP_STRAPS, F.SYS_STRAP_UNSTABLE] s (s.sampled samples testEn) :=
  .setFld (.setFld (.setPower (.refl s)))

theorem State.sampled_straps : (s.sampled samples testEn).fld F.SYS_STRAP_STRAPS 0 = strapWord samples % 128 :=
  (fld_setFld_ne _ _ _ _ (by decide)).trans (fld_setFld_self _ _ _ _)

theorem State.sampled_chainLimit : (s.sampled samples testEn).chainLimit = s.chainLimit := by
  rw [State.chainLimit, State.chainLimit, (s.sampled_alters samples testEn).on F.PMU_RAILSTAT_DB_ACTIVE 0]
  rfl

theorem State.sampled_triggered : (s.sampled samples testEn).triggered = s.triggered := by
  have d := s.sampled_alters samples testEn
  rw [State.triggered, State.triggered, State.bootSupplied_of_on (d.on _ 0) (d.on _ 0)]
  rfl

/-- The boot ROM starts at the trigger (R44, R72). -/
theorem State.bootTry_power (trig : s.triggered = true) (due : s.power.sample = true) (cool : s.power.hot = false) :
    (s.bootTry samples testEn).power = { s.power with
      sample := false, testEn := testEn, boot := romStage testEn s.power.dies, inLimit := s.chainLimit } := by
  rw [State.bootTry_of_due samples testEn trig due,
    State.tryBoot_of_triggered ((s.sampled_triggered samples testEn).trans trig) rfl cool, State.romStart_power,
    s.sampled_chainLimit samples testEn]
  rfl

/-- A part held for its temperature does not start (R67). -/
theorem State.bootTry_power_of_hot (trig : s.triggered = true) (due : s.power.sample = true) (hot : s.power.hot = true) :
    (s.bootTry samples testEn).power = { s.power with sample := false, testEn := testEn } := by
  rw [State.bootTry_of_due samples testEn trig due, State.tryBoot_of_hot (s := s.sampled samples testEn) hot]
  rfl

theorem State.bootTry_straps (trig : s.triggered = true) (due : s.power.sample = true) :
    (s.bootTry samples testEn).fld F.SYS_STRAP_STRAPS 0 = strapWord samples % 128 := by
  rw [State.bootTry_of_due samples testEn trig due, State.tryBoot_alters _ F.SYS_STRAP_STRAPS 0 (by decide)]
  exact s.sampled_straps samples testEn

theorem State.bootTry_alters : Alters (romMask + 2 ^ 20) [F.PMU_CLKSTAT_XO_OK] s (s.bootTry samples testEn) := by
  have latched : Alters (romMask + 2 ^ 20) [F.PMU_CLKSTAT_XO_OK] s (s.latchStraps samples testEn) :=
    .ite (s.sampled_alters samples testEn).mono (.refl s)
  exact latched.trans (State.tryBoot_alters _).mono

end

/-! ### Valid rails and fresh supplies -/

/-- The fields that follow the BOOT rails (R53, R54). -/
def railWrites : List Field :=
  [F.PMU_RAILSTAT_VCORE_OK, F.PMU_RAILSTAT_VDD18_OK, F.PMU_RAILSTAT_VDD33_OK, F.PMU_RAILSTAT_BOOT_OK, F.PMU_RAILSTAT_VIO_OK,
    F.PMU_RAILSTAT_RAIL_EN]

theorem State.railsValid_alters (s : State) : Alters 0 railWrites s s.railsValid :=
  .setFld (.setFld (.put (.put (.put (.put (.refl s))))))

@[simp] theorem State.railsValid_power (s : State) : s.railsValid.power = s.power := rfl

theorem State.railsValid_ok (s : State) : s.railsValid.on F.PMU_RAILSTAT_BOOT_OK 0 = true :=
  (State.on_setFld_ne _ _ _ _ (by decide)).trans ((State.on_setFld_ne _ _ _ _ (by decide)).trans (State.on_put_self _ 0 true rfl))

theorem State.railsValid_supplied (s : State) : s.railsValid.bootSupplied = true := by
  rw [State.bootSupplied, s.railsValid_ok, Bool.true_or]

theorem State.aonFresh_power (s : State) (dies : Nat) (vbatLow : Bool) :
    (s.aonFresh dies vbatLow).power = { (default : Power) with
      aon := true, sample := true, rstN := s.power.rstN, dies := dies % 128, hot := s.power.hot, hostRp := s.power.hostRp
      gpio := s.power.gpio } := by
  rw [← s.cutOps_power]
  rfl

/-- No cause is recorded yet (R71). -/
theorem State.aonFresh_seen (s : State) (dies : Nat) (vbatLow : Bool) :
    (s.aonFresh dies vbatLow).fld F.PMU_RESET_CAUSE_SEEN 0 = 0 := by
  have blank : s.aonLost.fld F.PMU_RESET_CAUSE_SEEN 0 = 0 := rfl
  have filled : Alters 0 [F.PMU_RAILSTAT_RAIL_EN, F.PMU_CLKSTAT_RTCXO_OK, F.PMU_RAILSTAT_VBAT_OK, F.RTC_STATUS_VBAT_LOW]
      s.aonLost (s.aonFresh dies vbatLow) := .put (.put (.put (.setFld (.setPower (.refl s.aonLost)))))
  exact (filled _ 0 (by decide)).trans blank

theorem State.causesMerge_of_none {s : State} (none : s.fld F.PMU_RESET_CAUSE_SEEN 0 = 0) : s.causesMerge = false := by
  simp [State.causesMerge, none]

theorem State.recordCause_first (s : State) {cause : Nat} (channel : Nat) (none : s.fld F.PMU_RESET_CAUSE_SEEN 0 = 0)
    (fits : cause < 32) : (s.recordCause cause channel).fld F.PMU_RESET_CAUSE_CAUSE 0 = cause := by
  have alone := State.causesMerge_of_none none
  have written : (s.recordCause cause channel).fld F.PMU_RESET_CAUSE_CAUSE 0 = cause % 2 ^ 5 := by
    simp (disch := decide) [State.recordCause, alone, State.fld_ite, fld_setFld_ne]
    rfl
  exact written.trans (Nat.mod_eq_of_lt fits)

end Sys2Proof.Machine
end

section
/-! The supply and reset commands (R44, R46, R53 to R55, R64, R67, R68, R71, R84). -/

namespace Sys2Proof.Machine

section
variable {s : State} (dies : Nat) (samples : List Nat) (testEn vbatLow : Bool)

/-! ### POWER_ON -/

/-- AON and the BOOT rails stand, and the power-on cause is recorded (R54, R71). -/
def State.suppliedAnew (s : State) (dies : Nat) (vbatLow : Bool) : State :=
  ((s.aonFresh dies vbatLow).recordCause 1 0).railsValid

theorem State.suppliedAnew_power : (s.suppliedAnew dies vbatLow).power = { (default : Power) with
      aon := true, sample := true, rstN := s.power.rstN, dies := dies % 128, hot := s.power.hot
      hostRp := s.power.hostRp, gpio := s.power.gpio } := by
  rw [State.suppliedAnew, State.railsValid_power, State.recordCause_power, State.aonFresh_power,
    State.causesMerge_of_none (s.aonFresh_seen dies vbatLow)]
  rfl

theorem State.suppliedAnew_cause : (s.suppliedAnew dies vbatLow).fld F.PMU_RESET_CAUSE_CAUSE 0 = 1 :=
  (State.railsValid_alters _ _ 0 (by decide)).trans
    (State.recordCause_first _ 0 (s.aonFresh_seen dies vbatLow) (by decide))

theorem exec_powerOn (dark : s.power.aon = false) :
    exec (.powerOn dies samples testEn vbatLow) s = .next ((s.suppliedAnew dies vbatLow).bootTry samples testEn) := by
  change execPowerOn dies samples testEn vbatLow s = _
  rw [execPowerOn, dark]
  rfl

theorem powerOn_starts (dark : s.power.aon = false) (pin : s.power.rstN = true) (cool : s.power.hot = false) :
    Completes (.powerOn dies samples testEn vbatLow) s fun t =>
      t.power.aon = true ∧ t.power.dies = dies % 128 ∧ t.fld F.PMU_RESET_CAUSE_CAUSE 0 = 1
        ∧ t.fld F.SYS_STRAP_STRAPS 0 = strapWord samples % 128 ∧ t.power.boot = romStage testEn (dies % 128) := by
  have power := s.suppliedAnew_power dies vbatLow
  have trig : (s.suppliedAnew dies vbatLow).triggered = true :=
    State.triggered_intro (by rw [power]) (State.railsValid_supplied _) (by rw [power, pin]) (by rw [power]; rfl)
      (by rw [power]; rfl)
  have due : (s.suppliedAnew dies vbatLow).power.sample = true := by rw [power]
  have boots := State.bootTry_power samples testEn trig due (by rw [power, cool])
  refine ⟨_, exec_powerOn dies samples testEn vbatLow dark, ?_, ?_, ?_, State.bootTry_straps samples testEn trig due, ?_⟩
  · rw [boots, power]
  · rw [boots, power]
  · exact (State.bootTry_alters samples testEn _ 0 (by decide)).trans (s.suppliedAnew_cause dies vbatLow)
  · rw [boots, power]

theorem powerOn_held (dark : s.power.aon = false) (pin : s.power.rstN = false) :
    Completes (.powerOn dies samples testEn vbatLow) s fun t =>
      t.power.aon = true ∧ t.power.dies = dies % 128 ∧ t.fld F.PMU_RESET_CAUSE_CAUSE 0 = 1 ∧ t.power.boot = .off
        ∧ t.power.sample = true := by
  have power := s.suppliedAnew_power dies vbatLow
  have idle : (s.suppliedAnew dies vbatLow).triggered = false := State.triggered_eq_false (.inr (by rw [power, pin]))
  have runs : exec (.powerOn dies samples testEn vbatLow) s = .next (s.suppliedAnew dies vbatLow) := by
    rw [exec_powerOn dies samples testEn vbatLow dark, State.bootTry_of_not_triggered samples testEn idle]
  exact ⟨_, runs, by rw [power], by rw [power], s.suppliedAnew_cause dies vbatLow, by rw [power]; rfl, by rw [power]⟩

/-! ### BOOT_RAILS_VALID after a brownout -/

theorem exec_bootRailsValid (lit : s.power.aon = true) (fallen : s.bootSupplied = false) (awake : s.power.dormancy = .awake) :
    exec (.bootRailsValid samples testEn) s = .next (s.railsValid.bootTry samples testEn) := by
  change execBootRailsValid samples testEn s = _
  simp [execBootRailsValid, lit, fallen, awake]

theorem bootRailsValid_starts (lit : s.power.aon = true) (fallen : s.bootSupplied = false)
    (awake : s.power.dormancy = .awake) (idle : s.power.boot = .off) (pin : s.power.rstN = true)
    (cool : s.power.hot = false) (due : s.power.sample = true) :
    Completes (.bootRailsValid samples testEn) s fun t =>
      t.on F.PMU_RAILSTAT_BOOT_OK 0 = true ∧ t.fld F.SYS_STRAP_STRAPS 0 = strapWord samples % 128
        ∧ t.power.boot = romStage testEn s.power.dies := by
  have trig : s.railsValid.triggered = true := State.triggered_intro lit s.railsValid_supplied pin idle awake
  refine ⟨_, exec_bootRailsValid samples testEn lit fallen awake, ?_, State.bootTry_straps samples testEn trig due, ?_⟩
  · exact ((State.bootTry_alters samples testEn).on _ 0).trans s.railsValid_ok
  · exact congrArg Power.boot (State.bootTry_power samples testEn trig due cool)

theorem bootRailsValid_held (lit : s.power.aon = true) (fallen : s.bootSupplied = false)
    (awake : s.power.dormancy = .awake) (pin : s.power.rstN = false) :
    Completes (.bootRailsValid samples testEn) s fun t =>
      t.on F.PMU_RAILSTAT_BOOT_OK 0 = true ∧ t.power = s.power := by
  have idle : s.railsValid.triggered = false := State.triggered_eq_false (.inr pin)
  have runs : exec (.bootRailsValid samples testEn) s = .next s.railsValid := by
    rw [exec_bootRailsValid samples testEn lit fallen awake, State.bootTry_of_not_triggered samples testEn idle]
  exact ⟨_, runs, s.railsValid_ok, rfl⟩

/-! ### PIN_RESET and SYS_RST_N_RELEASE -/

/-- SYS_RST_N takes a level. -/
def State.withPin (s : State) (high : Bool) : State := { s with power := { s.power with rstN := high } }

theorem exec_pinReset (lit : s.power.aon = true) (supplied : s.bootSupplied = true) :
    exec .pinReset s = .next ((s.withPin false).resetTo 4 0) := by
  have aon : (s.withPin false).power.aon = true := lit
  have still : (s.withPin false).bootSupplied = true := supplied
  change Host.Outcome.next (if !(s.withPin false).power.aon then s.withPin false
    else if (s.withPin false).bootSupplied then (s.withPin false).resetTo 4 0 else (s.withPin false).joinCause 4) = _
  rw [aon, still]
  rfl

theorem pinReset_stops (lit : s.power.aon = true) (supplied : s.bootSupplied = true) :
    Completes .pinReset s fun t =>
      t.power.rstN = false ∧ t.power.boot = .off ∧ t.power.hot = s.power.hot ∧ t.bit F.PMU_RESET_CAUSE_SEEN 0 3 = true
        ∧ t.ct = 0 := by
  refine ⟨_, exec_pinReset lit supplied, ?_, rfl, ?_, State.resetTo_seen _ 0 (by decide) (by decide), rfl⟩
  · rw [State.resetTo_power, State.cleared_rstN, State.recordCause_power]
    rfl
  · rw [State.resetTo_power, State.cleared_hot, State.recordCause_power]
    rfl

theorem sysRstNRelease_latches (lit : s.power.aon = true) (supplied : s.bootSupplied = true) (idle : s.power.boot = .off)
    (awake : s.power.dormancy = .awake) (due : s.power.sample = true) :
    Completes (.sysRstNRelease samples testEn) s fun t =>
      t.power.rstN = true ∧ t.fld F.SYS_STRAP_STRAPS 0 = strapWord samples % 128
        ∧ t.power.boot = if s.power.hot then .off else romStage testEn s.power.dies := by
  have trig : (s.withPin true).triggered = true := State.triggered_intro lit supplied rfl idle awake
  have straps := State.bootTry_straps samples testEn trig due
  refine ⟨(s.withPin true).bootTry samples testEn, rfl, ?_⟩
  cases hot : s.power.hot with
  | true =>
    have held := State.bootTry_power_of_hot samples testEn trig due hot
    exact ⟨congrArg Power.rstN held, straps, (congrArg Power.boot held).trans idle⟩
  | false =>
    have boots := State.bootTry_power samples testEn trig due hot
    exact ⟨congrArg Power.rstN boots, straps, congrArg Power.boot boots⟩

end

/-! ### BROWNOUT -/

section
variable {s : State} {rail : Nat}

/-- A BOOT rail reads invalid and interrupt source 17 pends (R53). -/
def State.railLow (s : State) (rail : Nat) : State := ((s.setRail rail false).put F.PMU_RAILSTAT_BOOT_OK 0 false).irq 17

theorem exec_brownout (lit : s.power.aon = true) (boot : rail ≤ 8) (other : rail ≠ 7) (valid : s.railOk rail = true) :
    exec (.brownout rail) s =
      .next (if s.on F.PMU_RAILSTAT_BOOT_OK 0 then (s.railLow rail).resetTo 5 0 else s.railLow rail) := by
  change execBrownout rail s = _
  simp only [execBrownout, isBootRail, lit, valid, boot, other, decide_true, ne_eq, not_false_eq_true, Bool.and_self,
    if_true, State.railFalls, State.railLow]

theorem State.railLow_ok (s : State) (rail : Nat) : (s.railLow rail).on F.PMU_RAILSTAT_BOOT_OK 0 = false :=
  (State.on_of_fld (State.irq_fld _ _ _ (by decide))).trans (State.on_put_self _ 0 false rfl)

theorem State.railLow_railOk (s : State) (boot : rail ≤ 8) : (s.railLow rail).railOk rail = false := by
  have kept : ∀ f : Field, f.id ≠ F.PMU_RAILSTAT_BOOT_OK.id → f.id ≠ F.IC_PEND_PEND.id →
      (s.railLow rail).fld f 0 = (s.setRail rail false).fld f 0 :=
    fun f ok pend => (State.irq_fld _ _ _ pend).trans (State.fld_put_ne _ _ _ _ ok)
  refine (State.railOk_of_fld rail ?_).trans (s.railOk_setRail_self false boot)
  simp only [List.forall_mem_cons]
  exact ⟨kept _ (by decide) (by decide), kept _ (by decide) (by decide), kept _ (by decide) (by decide),
    kept _ (by decide) (by decide), by simp⟩

/-- What PMU_RAILSTAT sees of the board stands through a part reset (R70, R89). -/
theorem State.resetTo_railstat (s : State) (cause channel : Nat) {f : Field}
    (reg : f.id / 32 = F.PMU_RAILSTAT_BOOT_OK.id / 32) (rails : f.id ≠ F.PMU_RAILSTAT_RAIL_EN.id) :
    (s.resetTo cause channel).fld f 0 = s.fld f 0 :=
  s.resetTo_fld channel 0 (keptField_of_supply (.inr reg)) rails (by rw [reg]; decide)

theorem State.resetTo_railOk (s : State) (rail cause channel : Nat) :
    (s.resetTo cause channel).railOk rail = s.railOk rail := by
  refine State.railOk_of_fld rail ?_
  simp only [List.forall_mem_cons]
  exact ⟨s.resetTo_railstat _ _ rfl (by decide), s.resetTo_railstat _ _ rfl (by decide),
    s.resetTo_railstat _ _ rfl (by decide), s.resetTo_railstat _ _ rfl (by decide), by simp⟩

theorem brownout_resets (lit : s.power.aon = true) (all : s.on F.PMU_RAILSTAT_BOOT_OK 0 = true) (boot : rail ≤ 8)
    (other : rail ≠ 7) (valid : s.railOk rail = true) :
    Completes (.brownout rail) s fun t =>
      t.railOk rail = false ∧ t.power.boot = .off ∧ t.on F.PMU_RAILSTAT_BOOT_OK 0 = false
        ∧ t.bit F.PMU_RESET_CAUSE_SEEN 0 4 = true :=
  ⟨(s.railLow rail).resetTo 5 0, by rw [exec_brownout lit boot other valid, if_pos all],
    (State.resetTo_railOk _ _ _ _).trans (s.railLow_railOk boot), rfl,
    (State.on_of_fld (State.resetTo_railstat _ _ _ rfl (by decide))).trans (s.railLow_ok rail),
    State.resetTo_seen _ 0 (by decide) (by decide)⟩

theorem brownout_joins (lit : s.power.aon = true) (fallen : s.on F.PMU_RAILSTAT_BOOT_OK 0 = false) (boot : rail ≤ 8)
    (other : rail ≠ 7) (valid : s.railOk rail = true) :
    Completes (.brownout rail) s fun t => t.railOk rail = false ∧ t.pends 17 = true ∧ t.power = s.power :=
  ⟨s.railLow rail, by rw [exec_brownout lit boot other valid, if_neg (by rw [fallen]; decide)],
    s.railLow_railOk boot, State.pends_irq_self _ (by decide),
    by rw [State.railLow, State.irq_power, State.put_power, State.setRail_power]⟩

end

/-! ### Temperature, references, AON -/

section
variable {s : State}

/-- Tj stands above the reset temperature or below the release (R67). -/
def State.withHot (s : State) (hot : Bool) : State := { s with power := { s.power with hot := hot } }

theorem exec_thermalReset (lit : s.power.aon = true) (supplied : s.bootSupplied = true) :
    exec .thermalReset s = .next ((s.withHot true).resetTo 0xA 0) := by
  have aon : (s.withHot true).power.aon = true := lit
  have still : (s.withHot true).bootSupplied = true := supplied
  change Host.Outcome.next (if !(s.withHot true).power.aon then s.withHot true
    else if (s.withHot true).bootSupplied then (s.withHot true).resetTo 0xA 0 else (s.withHot true).joinCause 0xA) = _
  rw [aon, still]
  rfl

theorem thermalReset_stops (lit : s.power.aon = true) (supplied : s.bootSupplied = true) :
    Completes .thermalReset s fun t =>
      t.power.hot = true ∧ t.power.boot = .off ∧ t.bit F.PMU_RESET_CAUSE_SEEN 0 9 = true := by
  refine ⟨_, exec_thermalReset lit supplied, ?_, rfl, State.resetTo_seen _ 0 (by decide) (by decide)⟩
  rw [State.resetTo_power, State.cleared_hot, State.recordCause_power]
  rfl

theorem thermalResetRelease_boots (lit : s.power.aon = true) (supplied : s.bootSupplied = true)
    (pin : s.power.rstN = true) (idle : s.power.boot = .off) (awake : s.power.dormancy = .awake)
    (latched : s.power.sample = false) :
    Completes .thermalResetRelease s fun t =>
      t.power.hot = false ∧ t.power.boot = romStage s.power.testEn s.power.dies := by
  have boots : (s.withHot false).tryBoot = (s.withHot false).romStart :=
    State.tryBoot_of_triggered (State.triggered_intro lit supplied pin idle awake) latched rfl
  have power := (congrArg State.power boots).trans (State.romStart_power _)
  exact ⟨(s.withHot false).tryBoot, rfl, congrArg Power.hot power, congrArg Power.boot power⟩

theorem thermalResetRelease_held (h : s.bootSupplied = false ∨ s.power.rstN = false) :
    Completes .thermalResetRelease s fun t => t.power.hot = false ∧ t.power.boot = s.power.boot := by
  have idle : (s.withHot false).tryBoot = s.withHot false := State.tryBoot_of_not_triggered (State.triggered_eq_false h)
  exact ⟨(s.withHot false).tryBoot, rfl, congrArg (·.power.hot) idle, congrArg (·.power.boot) idle⟩

/-- A part reset of a supplied part that nothing holds boots on the strap word latched (R46). -/
theorem State.partReset_of_latched {cause channel : Nat} (late : 6 ≤ cause) (supplied : s.bootSupplied = true)
    (pin : s.power.rstN = true) (cool : s.power.hot = false) (latched : s.power.sample = false) :
    s.partReset cause channel = (s.resetTo cause channel).romStart := by
  have supply : (s.resetTo cause channel).bootSupplied = true :=
    (State.bootSupplied_of_on (State.on_of_fld (s.resetTo_railstat _ _ rfl (by decide)))
      (State.on_of_fld (s.resetTo_railstat _ _ rfl (by decide)))).trans supplied
  have high : (s.resetTo cause channel).power.rstN = true := by
    rw [State.resetTo_power, State.cleared_rstN, State.recordCause_power, pin]
  have reused : (s.resetTo cause channel).power.sample = false := by
    rw [State.resetTo_power, State.cleared_sample, State.recordCause_power, latched]
    simpa using late
  have cold : (s.resetTo cause channel).power.hot = false := by
    rw [State.resetTo_power, State.cleared_hot, State.recordCause_power, cool]
  exact State.tryBoot_of_triggered (State.triggered_intro rfl supply high rfl rfl) reused cold

theorem clockLoss_boots (held : s.power.refHold = true) (supplied : s.bootSupplied = true) (pin : s.power.rstN = true)
    (cool : s.power.hot = false) (latched : s.power.sample = false) :
    Completes .clockLoss s fun t =>
      t.power.refHold = false ∧ t.bit F.PMU_RESET_CAUSE_SEEN 0 10 = true
        ∧ t.power.boot = romStage s.power.testEn s.power.dies := by
  have runs : exec .clockLoss s = .next (s.resetTo 0xB 0).romStart := by
    change execClockLoss s = _
    rw [execClockLoss, if_pos held, State.partReset_of_latched (by decide) supplied pin cool latched]
  refine ⟨_, runs, ?_, ?_, ?_⟩
  · rw [State.romStart_power, State.resetTo_power, State.cleared_refHold]
  · rw [State.bit_of_fld (State.romStart_alters _ F.PMU_RESET_CAUSE_SEEN 0 (by decide))]
    exact s.resetTo_seen 0 (by decide) (by decide)
  · rw [State.romStart_power, State.resetTo_power, State.cleared_testEn, State.cleared_dies, State.recordCause_power]

theorem vbatLoss_dark (lit : s.power.aon = true) (vdd18 : s.on F.PMU_RAILSTAT_VDD18_OK 0 = false)
    (chain : s.on F.PMU_RAILSTAT_DB_ACTIVE 0 = false) :
    Completes .vbatLoss s fun t =>
      t.power.aon = false ∧ t.on F.RTC_STATUS_RTC_VALID 0 = false ∧ t.fld F.PMU_RAILSTAT_RAIL_EN 0 = 0 := by
  have runs : exec .vbatLoss s = .next s.aonLost := by
    change execVbatLoss s = _
    rw [execVbatLoss, lit, vdd18, chain]
    rfl
  exact ⟨_, runs, rfl, rfl, rfl⟩

end

/-- Settles O17: a clause per command and condition, each from what the boot ROM, the reset and the supplies leave. -/
theorem supplyAndResetCommands : Obligations.SupplyAndResetCommands :=
  ⟨fun _ dies samples testEn vbatLow => powerOn_starts dies samples testEn vbatLow,
    fun _ dies samples testEn vbatLow => powerOn_held dies samples testEn vbatLow,
    fun _ samples testEn => bootRailsValid_starts samples testEn,
    fun _ samples testEn => bootRailsValid_held samples testEn,
    fun _ => pinReset_stops,
    fun _ samples testEn => sysRstNRelease_latches samples testEn,
    fun _ _ => brownout_resets,
    fun _ _ => brownout_joins,
    fun _ => thermalReset_stops,
    fun _ => thermalResetRelease_boots,
    fun _ => thermalResetRelease_held,
    fun _ => clockLoss_boots,
    fun _ => vbatLoss_dark⟩

end Sys2Proof.Machine
end

section
/-! A hand-over that connects a management function over endpoint buffers that overlap: firmware logs it and continues the
bring-up from step 9 of R72 (R79), whatever the bring-up under the dead-battery chain has already applied. -/

namespace Sys2Proof.Machine

/-- Under the dead-battery chain firmware has finished its bring-up, which connects no management function but 0 (R77): FABRIC and
PORTS0 are on, Sloe is fitted, every policy core runs, and the connect of function 1 waits in firmware's copy.  Endpoints 0 and 1
of function 1 share the first 64-byte units of the buffer memory (R197). -/
def connectPending : State :=
  let s := { State.reset with
    power := { State.reset.power with aon := true, boot := .firmware, dies := 0x11, portsAsked := false, broughtUp := true }
    fwCopy := [((F.MF_CTL_CONNECT.id, 1), 1)]
    cores := [1, 2, 3, 4].map (fun c => (c, { (default : CoreHw) with stage := .running })) }
  let s := (s.put F.PMU_RAILSTAT_DB_ACTIVE 0 true).setFld F.SYS_ID_DIES 0 0x11
  let s := (s.setFld F.PMU_DOMCTL_PORTS 0 1).setFld F.PMU_DOMSTAT_ON 0 0x87
  (s.setFld F.MF_EPD_SIZE (epd 1 0) 2).setFld F.MF_EPD_SIZE (epd 1 1) 2

/-- The hand-over brings the part up anew, and function 1 connects over its two buffers (R72, step 14; R79, R213). -/
theorem connectPending_overlaps : overlapApplied connectPending connectPending.handedOver = true := by decide +kernel

/-- A connect over buffers that overlap stops the machine under R213 (log entry 10). -/
theorem exec_deadBatteryHandover_of_overlap {s : State} (overlaps : overlapApplied s s.handedOver = true) :
    exec .deadBatteryHandover s = .fault (.unpredictable 213) := by
  change orUnpredictable (if overlapApplied s s.handedOver then 213 else 0) s.handedOver = _
  rw [overlaps]
  rfl

/-- Refutes O18: its clause on DEAD_BATTERY_HANDOVER takes a bring-up that is done for one that connects nothing more.  The
hand-over starts the bring-up anew, function 1 of `connectPending` connects over buffers that overlap, and the command stops. -/
theorem not_bootAndDormantCommands : ¬ Obligations.BootAndDormantCommands := by
  rintro ⟨-, -, -, -, -, -, handover, -⟩
  obtain ⟨t, ran, -⟩ := handover connectPending (by decide) (.inl rfl)
  have stops := exec_deadBatteryHandover_of_overlap connectPending_overlaps
  cases ran.symm.trans stops

end Sys2Proof.Machine
end

section
/-! The reset cause register (R71). -/

namespace Sys2Proof.Machine

section
variable (s : State) (cause channel : Nat)

theorem State.recordCause_fld_seen : (s.recordCause cause channel).fld F.PMU_RESET_CAUSE_SEEN 0
    = Nat.lor (if s.causesMerge then s.fld F.PMU_RESET_CAUSE_SEEN 0 else 0) (2 ^ (cause - 1)) % 2 ^ 11 := by
  simp (disch := decide) [State.recordCause, State.fld_ite, fld_setFld_ne]
  rfl

theorem State.recordCause_fld_cause : (s.recordCause cause channel).fld F.PMU_RESET_CAUSE_CAUSE 0
    = (if s.causesMerge then min cause (s.fld F.PMU_RESET_CAUSE_CAUSE 0) else cause) % 2 ^ 5 := by
  simp (disch := decide) [State.recordCause, State.fld_ite, fld_setFld_ne]
  rfl

/-- PMU_RESET_CAUSE stands through the reset as it was recorded (R70, R89). -/
theorem State.resetTo_fld_seen : (s.resetTo cause channel).fld F.PMU_RESET_CAUSE_SEEN 0
    = Nat.lor (if s.causesMerge then s.fld F.PMU_RESET_CAUSE_SEEN 0 else 0) (2 ^ (cause - 1)) % 2 ^ 11 := by
  have kept : keptField cause F.PMU_RESET_CAUSE_SEEN.id = true := keptField_of_supply (.inl rfl)
  rw [s.resetTo_fld_recorded channel 0 kept (by decide), s.recordCause_fld_seen]

theorem State.resetTo_fld_cause : (s.resetTo cause channel).fld F.PMU_RESET_CAUSE_CAUSE 0
    = (if s.causesMerge then min cause (s.fld F.PMU_RESET_CAUSE_CAUSE 0) else cause) % 2 ^ 5 := by
  have kept : keptField cause F.PMU_RESET_CAUSE_CAUSE.id = true := keptField_of_supply (.inl rfl)
  rw [s.resetTo_fld_recorded channel 0 kept (by decide), s.recordCause_fld_cause]

end

variable {s : State}

theorem State.causesMerge_of_recent (recent : s.power.resetAge < 9600) (before : s.power.boot ≠ .firmware)
    (some : s.fld F.PMU_RESET_CAUSE_SEEN 0 ≠ 0) : s.causesMerge = true := by
  simp [State.causesMerge, recent, before, some]

theorem State.causesMerge_of_late (late : 9600 ≤ s.power.resetAge) : s.causesMerge = false := by
  simp [State.causesMerge, late]

/-- A cause's bit lies within SEEN. -/
theorem causeBit_lt {cause : Nat} (high : cause ≤ 11) : 2 ^ (cause - 1) < 2 ^ 11 :=
  Nat.pow_lt_pow_right (by decide) (by omega)

/-- Settles O15: the record is written as the reset begins, and PMU_RESET_CAUSE stands through it. -/
theorem resetCauseIsR71 : Obligations.ResetCauseIsR71 := by
  refine ⟨fun s c ch low high => ⟨s.resetTo_seen ch low high, rfl⟩, fun s c ch low high recent before some => ?_,
    fun s c ch low high late => ?_⟩
  · have merges := State.causesMerge_of_recent recent before some
    have small : min c (s.fld F.PMU_RESET_CAUSE_CAUSE 0) < 2 ^ 5 := lt_of_le_of_lt (min_le_left _ _) (by omega)
    rw [s.resetTo_fld_seen, s.resetTo_fld_cause, merges, if_pos rfl, if_pos rfl, Nat.mod_eq_of_lt small]
    exact ⟨rfl, rfl⟩
  · have alone := State.causesMerge_of_late late
    have bare : Nat.lor 0 (2 ^ (c - 1)) = 2 ^ (c - 1) := Nat.zero_or _
    have small : c < 2 ^ 5 := by omega
    rw [s.resetTo_fld_seen, s.resetTo_fld_cause, alone, if_neg (by decide), if_neg (by decide), bare,
      Nat.mod_eq_of_lt (causeBit_lt high), Nat.mod_eq_of_lt small]
    exact ⟨rfl, rfl⟩

end Sys2Proof.Machine
end

section
/-! The state after reset (R89, R90, R98; log entries 4 to 7). -/

namespace Sys2Proof.Machine

/-- A field that no register file lists reads its reset value. -/
theorem State.reset_fld (f : Field) (i : Nat) : State.reset.fld f i = resetAt f i := look_nil _ _

/-- Settles O3: no register and no byte is listed after reset. -/
theorem resetLeavesEveryRegisterAtItsResetValue : Obligations.ResetLeavesEveryRegisterAtItsResetValue :=
  ⟨rfl, rfl, rfl, State.reset_fld, fun a => look_nil _ a⟩

end Sys2Proof.Machine
end

section
/-! Settings that events leave alone: what software and mailbox commands set in PART, MF and MBX stands through every event on
a port and through every notice (R123, R128, R191, R204, R446). -/

namespace Sys2Proof.Machine

-- One proof at a time: a default argument `by decide` waits for the text before it, and each proof that waits takes a thread.
set_option Elab.async false

/-! ### What an operation alters, continued -/

section
variable {m : Nat} {l : List Field} {s t u : State}

theorem Alters.add (d : Alters m l s t) {g : Field} {i n : Nat} (h : writable m l g = true := by decide) :
    Alters m l s (t.add g i n) := d.setFld h

theorem Alters.incr (d : Alters m l s t) {g : Field} {i : Nat} (h : writable m l g = true := by decide) :
    Alters m l s (t.incr g i) := d.setFld h

theorem Alters.putBit (d : Alters m l s t) {g : Field} {i b : Nat} {v : Bool} (h : writable m l g = true := by decide) :
    Alters m l s (t.putBit g i b v) := d.setFld h

/-- Changes of records alter no field. -/
theorem Alters.records (d : Alters m l s t) (h : u.regs = t.regs := by rfl) : Alters m l s u :=
  fun f i outside => (fld_of_regs h f i).trans (d f i outside)

theorem Alters.foldl {α : Type} {g : State → α → State} {xs : List α} (d : Alters m l s t)
    (h : ∀ s x, Alters m l s (g s x)) : Alters m l s (xs.foldl g t) := by
  induction xs generalizing t with
  | nil => exact d
  | cons x xs ih => exact ih (d.trans (h t x))

end

/-- Every block but PART, MF and MBX. -/
def eventMask : Nat := allRegs - 2 ^ 5 - 2 ^ 9 - 2 ^ 25

/-- The fields of PART, MF and MBX that events write. -/
def eventWrites : List Field :=
  [F.PART_MIGBUSY_BUSY, F.PART_MIGCNT_DONE, F.PART_MIGCNT_ABORTED, F.PART_HOSTPWR_PWR, F.PART_PSTAT_HOST, F.PART_PSTAT_ATTACHED,
    F.PART_PSTAT_ADDR, F.PART_PSTAT_CONFIGURED, F.PART_PSTAT_TTALT, F.PART_PSTAT_SUSPENDED, F.PART_PSTAT_SPEED,
    F.PART_PCNT_DETACHES, F.PART_PCNT_UPRESETS, F.MF_STAT_ADDR, F.MF_STAT_PSTATE, F.MF_STAT_CONFIGURED, F.MF_STAT_RWE,
    F.MF_STAT_NOTPEND, F.MF_CNT0_FRAMES, F.MF_CNT0_FRAMEDROP, F.MF_CNT1_NOTDROP, F.MF_CNT2_RESETS, F.MF_CNT2_CTLABORT,
    F.MF_CNT3_RESPDROP, F.MBX_BCSTAT_NOTQ, F.MBX_BCSTAT_IRQ, F.MBX_BCCNT_NOTDROP]

/-- Of PART, MF and MBX, `t` differs from `s` in fields that events write at most. -/
abbrev KeepsSettings (s t : State) : Prop := Alters eventMask eventWrites s t

/-- An operation that reaches none of PART, MF and MBX. -/
theorem Via.keepsSettings {n : Nat} {s t : State} (d : Via n s t)
    (h : Nat.land (Nat.land allRegs n) eventMask = Nat.land allRegs n := by decide) : KeepsSettings s t :=
  Alters.via (.refl s) d h

variable (s : State) (p k n : Nat)

/-! ### Notices -/

theorem State.noticeTo_keepsSettings (typ data : Nat) : KeepsSettings s (s.noticeTo k typ data) :=
  .ite (.put (.records (t := if _ then s.incr F.MF_CNT1_NOTDROP k else s) (.ite (.incr (.refl s)) (.refl s)))) (.refl s)

theorem State.bcRefresh_keepsSettings : KeepsSettings s s.bcRefresh := .put (.setFld (.refl s))

theorem State.noticeBc_keepsSettings (typ data : Nat) : KeepsSettings s (s.noticeBc typ data) :=
  .ite (.trans (.records (t := if _ then s.incr F.MBX_BCCNT_NOTDROP 0 else s) (.ite (.incr (.refl s)) (.refl s)))
    (State.bcRefresh_keepsSettings _)) (.refl s)

theorem State.notice_keepsSettings (typ data : Nat) : KeepsSettings s (s.notice typ data) := by
  refine .trans ?_ (State.noticeBc_keepsSettings _ typ data)
  split
  · refine .trans ?_ (State.noticeTo_keepsSettings _ 0 typ data)
    exact .ite (s.noticeTo_keepsSettings _ typ data) (.refl s)
  · exact .each (.refl s) fun s k => s.noticeTo_keepsSettings k typ data

/-! ### Contracts and the CC logic -/

theorem State.contractEnd_keepsSettings : KeepsSettings s (s.contractEnd p) := by
  unfold State.contractEnd
  extract_lets _ s₁ s₂ s₃ s₄ s₅ s₆ s₇
  have cleared : KeepsSettings s s₃ := .setFld (.put (.put (.put (.setFld (.setFld (.setFld (.setFld (.refl s))))))))
  have forgotten : KeepsSettings s s₅ := .records cleared
  have noticed : KeepsSettings s s₆ := .ite (forgotten.trans (State.notice_keepsSettings _ _ _)) forgotten
  have counted : KeepsSettings s s₇ := .ite (noticed.via (State.rpEvaluate_via ..)) (noticed.via (State.govRefresh_via ..))
  exact .ite (.via (.via counted (State.vsetUpdate_via ..)) (State.levels_via ..)) counted

theorem State.voffSet_keepsSettings : KeepsSettings s (s.voffSet p) :=
  .ite (.trans (.via (.via (.put (.refl s)) (State.pwrUpdate_via ..)) (State.sinkOpen_via ..))
    (State.contractEnd_keepsSettings _ p)) (.refl s)

theorem State.voffWrite_keepsSettings (b : Bool) : KeepsSettings s (s.voffWrite p b) :=
  .ite (.ite (.trans (.via (.putBit (.refl s)) (State.brdoffEnd_via _)) (State.voffSet_keepsSettings _ p))
    (State.voffClear_via s p).keepsSettings) (.refl s)

theorem State.ccLeave_keepsSettings (c : Cc) : KeepsSettings s (s.ccLeave p c) := by
  unfold State.ccLeave
  extract_lets s₁ s₂ s₃ s₄
  have left : KeepsSettings s s₂ :=
    .put (.put (.setFld (.via (.via (.refl s) (State.setCc_via ..)) (State.vconnOff_via ..))))
  have ended : KeepsSettings s s₃ :=
    .trans (.via (.via left (State.rpOff_via ..)) (State.identityClear_via ..)) (State.contractEnd_keepsSettings _ p)
  have gone : KeepsSettings s s₄ := .via (.setFld ended) (State.connReset_via ..)
  exact .ite (.via (.via (.via gone (State.sinkOpen_via ..)) (State.pwrUpdate_via ..)) (State.govRefresh_via ..)) gone

theorem State.disableCore_keepsSettings : KeepsSettings s (s.disableCore p) :=
  .records (t := (s.ccLeave p .disabled).put F.TCPD_VCSTAT_VCFAULT p false) (.put (s.ccLeave_keepsSettings p .disabled))

theorem State.clearLatchCore_keepsSettings {t : State} (h : s.clearLatchCore p = some t) : KeepsSettings s t := by
  unfold State.clearLatchCore at h
  split at h
  · cases h
  · split at h
    · extract_lets s₁ s₂ at h
      have logged : KeepsSettings s s₂ :=
        .via (.via (.via (.setFld (.refl s)) (State.setPwr_via ..)) (State.logPort_via ..)) (State.refresh_via ..)
      cases h
      exact .ite logged (logged.trans (State.ccLeave_keepsSettings _ p .errorRecovery))
    · cases h
      exact .refl s

theorem State.leaveDisabled_keepsSettings : KeepsSettings s (s.leaveDisabled p) := by
  unfold State.leaveDisabled
  extract_lets s₁
  have left : KeepsSettings s s₁ := (State.unattached_via ..).keepsSettings
  refine .ite ?_ (.records left)
  split
  · next t h => exact .trans (.records left) (State.clearLatchCore_keepsSettings _ p h)
  · exact .via left (State.latchRefused_via ..)

theorem State.tryLeaveDisabled_keepsSettings : KeepsSettings s (s.tryLeaveDisabled p) :=
  .ite (s.leaveDisabled_keepsSettings p) (.refl s)

theorem State.sinkBlockUpdate_keepsSettings : KeepsSettings s (s.sinkBlockUpdate n) := by
  refine .each (.refl s) fun s p => .ite ?_ (.refl s)
  extract_lets b role s₁
  have blocked : KeepsSettings s s₁ := .putBit (.put (.refl s))
  exact .ite (.ite blocked (blocked.trans (State.disableCore_keepsSettings _ p)))
    (.ite (blocked.via (State.unattached_via ..)) (blocked.trans (State.tryLeaveDisabled_keepsSettings _ p)))

theorem State.releaseClaim_keepsSettings : KeepsSettings s (s.releaseClaim p) :=
  .ite (.trans (.put (.refl s)) (State.sinkBlockUpdate_keepsSettings _ _)) (.refl s)

theorem State.ccDisable_keepsSettings (b : Nat) : KeepsSettings s (s.ccDisable p b) := by
  refine .ite ?_ (.refl s)
  extract_lets s₁
  have caused : KeepsSettings s s₁ := .putBit (.refl s)
  refine .ite caused (.ite (.records caused) (caused.trans ?_))
  exact (State.disableCore_keepsSettings _ p).trans (State.releaseClaim_keepsSettings _ p)

theorem State.ccEnableCause_keepsSettings (b : Nat) : KeepsSettings s (s.ccEnableCause p b) :=
  .ite (.trans (.putBit (.refl s)) (State.tryLeaveDisabled_keepsSettings _ p)) (.refl s)

theorem State.setCcen_keepsSettings (b : Bool) : KeepsSettings s (s.setCcen p b) := by
  refine .ite ?_ (.refl s)
  extract_lets s₁
  have written : KeepsSettings s s₁ := .put (.refl s)
  exact .ite (written.trans (State.ccEnableCause_keepsSettings _ p 0)) (written.trans (State.ccDisable_keepsSettings _ p 0))

/-! ### The port engine -/

theorem State.setDpe_keepsSettings (d : Dpe) : KeepsSettings s (s.setDpe p d) := by
  unfold State.setDpe
  refine .ite (State.refresh_via ..).keepsSettings ?_
  extract_lets s₁ s₂ s₃
  have entered : KeepsSettings s s₂ := .setFld (.setFld (.refl s))
  have traced : KeepsSettings s s₃ := .ite (entered.via (State.traceForget_via ..)) entered
  exact .via (.trans (.via traced (State.irq_via ..)) (State.notice_keepsSettings _ _ _)) (State.refresh_via ..)

theorem State.enterDisconnected_keepsSettings : KeepsSettings s (s.enterDisconnected p) :=
  .trans (.via (State.noDevice_via s p).keepsSettings (State.updDpe_via ..)) (State.setDpe_keepsSettings _ p _)

theorem State.enterPoweredOff_keepsSettings : KeepsSettings s (s.enterPoweredOff p) :=
  .trans (.via (.via (State.noDevice_via s p).keepsSettings (State.ttCut_via ..)) (State.updDpe_via ..))
    (State.setDpe_keepsSettings _ p _)

theorem State.leaveHold_keepsSettings : KeepsSettings s (s.leaveHold p) :=
  .ite (s.enterDisconnected_keepsSettings p) (s.enterPoweredOff_keepsSettings p)

theorem State.isoUpdate_keepsSettings : KeepsSettings s (s.isoUpdate p) := by
  have shown : KeepsSettings s (s.refresh p) := (State.refresh_via ..).keepsSettings
  refine .ite shown (.ite (.ite shown ?_) (.ite (s.leaveHold_keepsSettings p) shown))
  extract_lets s₁ s₂ s₃
  have changed : KeepsSettings s s₁ := .ite (State.change_via ..).keepsSettings (.refl s)
  have cut : KeepsSettings s s₂ :=
    .via (.via (.incr (.via changed (State.ttCut_via ..))) (State.noDevice_via ..)) (State.updDpe_via ..)
  exact .trans (.via (.via cut (State.resetCut_via ..)) (State.logPort_via ..)) (State.setDpe_keepsSettings _ p _)

theorem State.isolate_keepsSettings (b : Bool) : KeepsSettings s (s.isolate p b) :=
  .ite (.trans (.put (.refl s)) (State.isoUpdate_keepsSettings _ p)) (.refl s)

/-! ### Timed actions that waited -/

theorem State.migStart_keepsSettings (dest : Nat) (keep : Bool) (timeout : Nat) :
    KeepsSettings s (s.migStart p dest keep timeout) := .via (.putBit (.refl s)) (State.updMig_via ..)

theorem State.paid_keepsSettings {f : State → State} (d : KeepsSettings s (f s)) : KeepsSettings s (s.paid p f) :=
  .via (.via d (State.spendCredit_via ..)) (State.govRefresh_via ..)

theorem State.actNow_keepsSettings (i : Nat) : KeepsSettings s (s.actNow i p) := by
  have given : KeepsSettings s (s.giveCredit i p) := (State.giveCredit_via ..).keepsSettings
  unfold State.actNow
  extract_lets w p0
  split
  · exact s.voffWrite_keepsSettings p true
  · refine given.trans (State.paid_keepsSettings _ p ?_)
    extract_lets s₁
    have on : KeepsSettings (s.giveCredit i p) s₁ := .via (State.voffWrite_keepsSettings _ p false) (State.updPwr_via ..)
    exact .ite (on.via (State.rpEvaluate_via ..)) on
  · exact s.isolate_keepsSettings p true
  · exact s.isolate_keepsSettings p false
  · exact s.setCcen_keepsSettings p false
  · exact given.trans (State.paid_keepsSettings _ p (State.setCcen_keepsSettings _ p true))
  · rename_i s₁ _ _
    have offered : KeepsSettings s s₁ := .via (.setFld given) (State.govRefresh_via ..)
    refine .ite ?_ (.ite ?_ offered)
    · exact .via (.incr (.via offered (State.updPd_via ..))) (State.logAction_via ..)
    · exact .via (.via (.via offered (State.hush_via ..)) (State.offerSent_via ..)) (pdSettle_via ..)
  · exact (State.glitchStart_via ..).keepsSettings
  · exact (State.stageSel_via ..).keepsSettings
  · exact s.migStart_keepsSettings p _ _ _
  · exact .refl s

theorem State.actLate_keepsSettings (i : Nat) : KeepsSettings s (s.actLate i p) := by
  unfold State.actLate
  extract_lets e s₁
  have taken : KeepsSettings s s₁ := (State.updTat_via ..).keepsSettings
  split
  · exact .via (taken.trans (State.actNow_keepsSettings _ p i)) (State.actuated_via ..)
  · exact .via (.via taken (State.suppress_via ..)) (State.logAction_via ..)

theorem State.lateActions_keepsSettings : KeepsSettings s s.lateActions :=
  .foldl (.refl s) fun s e => .each (.refl s) fun s p => s.actLate_keepsSettings p e.1

/-! ### Upstream events -/

theorem State.migDone_keepsSettings : KeepsSettings s (s.migDone p) :=
  .via (.via (.incr (.putBit (.via (.refl s) (State.updMig_via ..)))) (State.irq_via ..)) (State.logPort_via ..)

theorem State.migAbort_keepsSettings (cause : Nat) : KeepsSettings s (s.migAbort p cause) := by
  unfold State.migAbort
  extract_lets m s₁ s₂
  refine .ite ?_ (.refl s)
  have back : KeepsSettings s s₁ := .ite (State.takeBack_via ..).keepsSettings (.refl s)
  exact .via (.via (.incr (.putBit (.via back (State.updMig_via ..)))) (State.irq_via ..)) (State.logPort_via ..)

theorem State.migGiveBack_keepsSettings (cause : Nat) : KeepsSettings s (s.migGiveBack p cause) := by
  have aborted := s.migAbort_keepsSettings p cause
  exact .ite (aborted.trans (State.leaveHold_keepsSettings _ p)) (aborted.via (State.refresh_via ..))

theorem State.migUpstream_keepsSettings (detach : Bool) : KeepsSettings s (s.migUpstream k detach p) :=
  .ite (.ite (s.migDone_keepsSettings p) (.ite (s.migGiveBack_keepsSettings p 1) (.refl s))) (.refl s)

theorem State.portUpstream_keepsSettings : KeepsSettings s (s.portUpstream k p) := by
  unfold State.portUpstream
  extract_lets m s₁
  refine .ite ?_ (.refl s)
  have off : KeepsSettings s s₁ := .ite (State.refresh_via ..).keepsSettings (s.enterPoweredOff_keepsSettings p)
  exact .ite off (off.trans (State.ccDisable_keepsSettings _ p 2))

theorem State.ep1End_keepsSettings : KeepsSettings s (s.ep1End k) := by
  unfold State.ep1End
  extract_lets x s₁
  have counted : KeepsSettings s s₁ := .add (.via (.refl s) (State.updMf_via ..))
  exact .ite counted (.via (.incr counted) (State.irq_via ..))

theorem State.mfFlush_keepsSettings : KeepsSettings s (s.mfFlush k) := by
  unfold State.mfFlush
  extract_lets s₁ r s₂ s₃ s₄ s₅ s₆
  have ended : KeepsSettings s s₁ := s.ep1End_keepsSettings k
  have dropped : KeepsSettings s s₄ := .add (.add (.ite (.incr ended) ended))
  have flushed : KeepsSettings s s₆ :=
    .put (.put (.via (.via dropped (State.updMf_via ..)) (State.unplace_via ..)))
  exact .via (.incr flushed) (State.irq_via ..)

theorem State.controlAbandon_keepsSettings : KeepsSettings s (s.controlAbandon k) :=
  .ite (.refl s) (.incr (.via (.refl s) (State.updMf_via ..)))

theorem State.p33Off_keepsSettings : KeepsSettings s (s.p33Off k) := by
  have flushed := (s.controlAbandon_keepsSettings k).trans (State.mfFlush_keepsSettings _ k)
  exact .setFld (.via (.put (.setFld flushed)) (State.updMf_via ..))

theorem State.upstreamEvent_keepsSettings (detach : Bool) : KeepsSettings s (s.upstreamEvent k detach) := by
  unfold State.upstreamEvent
  extract_lets s₁ s₂ s₃ s₄ s₅ s₆ s₇ s₈ s₉
  have migrated : KeepsSettings s s₂ :=
    .each (State.ttClearPart_via ..).keepsSettings fun s p => s.migUpstream_keepsSettings p k detach
  have ports : KeepsSettings s s₄ := .each (.setFld migrated) fun s p => s.portUpstream_keepsSettings p k
  have plain : KeepsSettings s s₆ := .put (.put (.put (.setFld ports)))
  have off : KeepsSettings s s₈ := .trans (.via plain (State.updPart_via ..)) (State.p33Off_keepsSettings _ k)
  exact .via (.ite (.incr (.put off)) (.incr off)) (State.irq_via ..)

theorem State.presence_keepsSettings : KeepsSettings s (s.presence k) := by
  unfold State.presence
  extract_lets host att lostHost lostAtt changed s₁
  have shown : KeepsSettings s s₁ := .put (.put (.refl s))
  exact .ite (shown.trans (State.upstreamEvent_keepsSettings _ k true)) (.ite (shown.via (State.irq_via ..)) shown)

end Sys2Proof.Machine
end

section
/-! Pending interrupts: what events on a port's power leave pending (R384, R385; log entry 62). -/

namespace Sys2Proof.Machine

-- One proof at a time: a default argument `by decide` waits for the text before it, and each proof that waits takes a thread.
set_option Elab.async false

theorem testBit_withBit_ne (x : Nat) {b j : Nat} (v : Bool) (h : j ≠ b) : (withBit x b v).testBit j = x.testBit j := by
  have low : x % 2 ^ b < 2 ^ b := Nat.mod_lt _ (Nat.two_pow_pos b)
  have split : withBit x b v = 2 ^ b * ((if v then 1 else 0) + 2 * (x / 2 ^ (b + 1))) + x % 2 ^ b := by
    cases v <;> simp [withBit, pow_succ] <;> ring
  rw [split, Nat.testBit_two_pow_mul_add _ low]
  by_cases below : j < b
  · simp [Nat.testBit_mod_two_pow, below]
  · obtain ⟨n, rfl⟩ : ∃ n, j = n + (b + 1) := ⟨j - (b + 1), by omega⟩
    have shifted : ((if v then 1 else 0) + 2 * (x / 2 ^ (b + 1))) / 2 = x / 2 ^ (b + 1) := by
      cases v
      · simp
      · simp; omega
    rw [if_neg below, show n + (b + 1) - b = n + 1 by omega, Nat.testBit_succ, shifted, Nat.testBit_div_two_pow]

/-- Every interrupt that pends in `s` pends in `t`. -/
def KeepsPending (s t : State) : Prop := ∀ n, s.pends n = true → t.pends n = true

section
variable {s t u : State}

theorem KeepsPending.refl (s : State) : KeepsPending s s := fun _ h => h

theorem KeepsPending.trans (d : KeepsPending s t) (e : KeepsPending t u) : KeepsPending s u := fun n h => e n (d n h)

theorem KeepsPending.of_fld (h : ∀ i, t.fld F.IC_PEND_PEND i = s.fld F.IC_PEND_PEND i) : KeepsPending s t :=
  fun n pending => (State.bit_of_fld (h (n / 32)) _).trans pending

theorem KeepsPending.via {m : Nat} (d : KeepsPending s t) (e : Via m t u) (h : m.testBit 19 = false := by decide) :
    KeepsPending s u := d.trans (.of_fld fun i => e.fld F.IC_PEND_PEND i h)

theorem KeepsPending.setFld (d : KeepsPending s t) {g : Field} {i v : Nat} (h : F.IC_PEND_PEND.id ≠ g.id := by decide) :
    KeepsPending s (t.setFld g i v) := d.trans (.of_fld fun j => fld_setFld_ne t i j v h)

theorem KeepsPending.put (d : KeepsPending s t) {g : Field} {i : Nat} {b : Bool} (h : F.IC_PEND_PEND.id ≠ g.id := by decide) :
    KeepsPending s (t.put g i b) := d.setFld h

theorem KeepsPending.ite {c : Prop} [Decidable c] (d : KeepsPending s t) (e : KeepsPending s u) :
    KeepsPending s (if c then t else u) := by
  split <;> assumption

theorem KeepsPending.each {g : State → Nat → State} {xs : List Nat} (d : KeepsPending s t)
    (h : ∀ s n, KeepsPending s (g s n)) : KeepsPending s (t.each xs g) := by
  induction xs generalizing t with
  | nil => exact d
  | cons n xs ih => exact ih (d.trans (h t n))

/-- A further interrupt leaves the others pending. -/
theorem KeepsPending.irq (d : KeepsPending s t) (n : Nat) : KeepsPending s (t.irq n) := by
  refine d.trans fun j pending => ?_
  unfold State.irq
  split
  · by_cases word : j / 32 = n / 32
    · have place : j % 32 < F.IC_PEND_PEND.width := Nat.mod_lt _ (by decide)
      rw [State.pends, word, State.putBit, State.bit_setFld_self _ _ _ place]
      by_cases bit : j % 32 = n % 32
      · rw [bit, testBit_withBit]
      · rw [testBit_withBit_ne _ _ bit, ← word]
        exact pending
    · exact (State.bit_of_fld (fld_setFld_index t _ word) _).trans pending
  · exact pending

end

variable (s : State) (p : Nat)

theorem State.setPwr_keepsPending (d : Pwr) : KeepsPending s (s.setPwr p d) := by
  unfold State.setPwr
  extract_lets changed s₁ s₂ s₃ s₄ s₅ s₆
  have shown : KeepsPending s s₃ := .put (.put (.setFld (.refl s)))
  have limited : KeepsPending s s₄ := .ite shown (.put (.put shown))
  have gates : KeepsPending s s₅ := .via (.ite limited (.put limited)) (State.updPwr_via ..)
  have sink : KeepsPending s s₆ := .via gates (State.dischSink_via ..)
  exact .via (.ite (.via (.irq sink _) (State.updPwr_via ..)) sink) (State.levels_via ..)

theorem State.sinkOpen_keepsPending : KeepsPending s (s.sinkOpen p) := by
  unfold State.sinkOpen
  extract_lets s₁
  have opened : KeepsPending s s₁ := .setFld (.put (.put (.refl s)))
  exact .ite (opened.trans (State.setPwr_keepsPending _ p _)) opened

theorem State.govRefresh_keepsPending : KeepsPending s s.govRefresh := by
  unfold State.govRefresh
  refine .ite ?_ (.refl s)
  extract_lets total old s₁ s₂
  have counted : KeepsPending s s₁ := .setFld (.refl s)
  have pulsed : KeepsPending s s₂ := .ite (.irq counted 12) counted
  exact .each pulsed fun s p => .ite (.setFld (.refl s)) (.refl s)

theorem State.rpEvaluate_keepsPending : KeepsPending s (s.rpEvaluate p) := by
  unfold State.rpEvaluate
  extract_lets l s₁ s₂
  have presented : KeepsPending s s₂ := .setFld (.via (.refl s) (State.updGov_via ..))
  exact .trans (.ite (.setFld presented) presented) (State.govRefresh_keepsPending _)

theorem State.vsetUpdate_keepsPending : KeepsPending s (s.vsetUpdate p) := by
  unfold State.vsetUpdate
  extract_lets v ramps s₁
  refine .ite (.refl s) ?_
  have moved : KeepsPending s s₁ := .via (.refl s) (State.updPwr_via ..)
  exact .ite (moved.trans (State.setPwr_keepsPending _ p _)) moved

theorem State.contractEnd_keepsPending : KeepsPending s (s.contractEnd p) := by
  unfold State.contractEnd
  extract_lets _ s₁ s₂ s₃ s₄ s₅ s₆ s₇
  have cleared : KeepsPending s s₃ := .setFld (.put (.put (.put (.setFld (.setFld (.setFld (.setFld (.refl s))))))))
  have forgotten : KeepsPending s s₅ := .via (.via cleared (State.updPd_via ..)) (State.updGov_via ..)
  have noticed : KeepsPending s s₆ := .ite (.via forgotten (State.notice_via ..)) forgotten
  have counted : KeepsPending s s₇ :=
    .ite (noticed.trans (State.rpEvaluate_keepsPending _ p)) (noticed.trans (State.govRefresh_keepsPending _))
  exact .ite (.via (counted.trans (State.vsetUpdate_keepsPending _ p)) (State.levels_via ..)) counted

theorem State.hotOff_keepsPending : KeepsPending s (s.hotOff p) :=
  .ite ((s.setPwr_keepsPending p _).trans (State.contractEnd_keepsPending _ p))
    (.ite ((s.sinkOpen_keepsPending p).trans (State.contractEnd_keepsPending _ p)) (.refl s))

theorem State.traceHalt_keepsPending : KeepsPending s s.traceHalt :=
  .ite (.irq (.via (.setFld (.refl s)) (State.notice_via ..)) 158) (.refl s)

end Sys2Proof.Machine
end

section
/-! Clocks, epoch and temperatures (R63, R64, R67, R85, R86, R121, R484). -/

namespace Sys2Proof.Machine

-- One proof at a time: a default argument `by decide` waits for the text before it, and each proof that waits takes a thread.
set_option Elab.async false

theorem Via.ct {m : Nat} {s t : State} (d : Via m s t) (h : m.testBit 29 = false) : t.ct = s.ct := d.same .ct h

theorem State.on_put_ne (s : State) {f g : Field} (i j : Nat) (b : Bool) (h : g.id ≠ f.id) : (s.put f i b).on g j = s.on g j :=
  s.on_setFld_ne i j _ h

section
variable {s : State}

/-! ### References -/

/-- The field that tells whether a reference runs: the recovered one, or the 24 MHz source (R63). -/
def referenceOk (viaLink : Bool) : Field := if viaLink then F.PMU_CLKSTAT_REC_OK else F.PMU_CLKSTAT_XO_OK

theorem referenceOk_ne_refActive (viaLink : Bool) : F.PMU_CLKSTAT_REF_ACTIVE.id ≠ (referenceOk viaLink).id := by
  cases viaLink <;> decide

theorem referenceOk_not_ne (viaLink : Bool) : (referenceOk (!viaLink)).id ≠ (referenceOk viaLink).id := by
  cases viaLink <;> decide

theorem State.on_put_referenceOk (s : State) (viaLink b : Bool) :
    (s.put (referenceOk viaLink) 0 b).on (referenceOk viaLink) 0 = b := by
  cases viaLink <;> exact State.on_put_self s 0 b rfl

theorem State.takeReference_alters (s : State) (viaLink : Bool) :
    Alters (2 ^ 23) [F.PMU_CLKSTAT_REF_ACTIVE] s (s.takeReference viaLink) :=
  .via (.via (.put (.setPower (.refl s))) (State.logTime_via ..)) (State.raise_via ..)

theorem State.takeReference_referenceOk (s : State) (viaLink which : Bool) :
    (s.takeReference viaLink).on (referenceOk which) 0 = s.on (referenceOk which) 0 := by
  cases which <;> exact (s.takeReference_alters viaLink).on _ 0

theorem State.takeReference_refActive (s : State) (viaLink : Bool) :
    (s.takeReference viaLink).on F.PMU_CLKSTAT_REF_ACTIVE 0 = viaLink := by
  have recorded : ∀ u : State, ((u.logTime 4 (le 4 (bit01 viaLink))).raise (quinceSource 0x01 0) 0 0).fld
      F.PMU_CLKSTAT_REF_ACTIVE 0 = u.fld F.PMU_CLKSTAT_REF_ACTIVE 0 :=
    fun u => ((State.raise_via ..).fld _ 0 (by decide)).trans ((State.logTime_via ..).fld _ 0 (by decide))
  exact (State.on_of_fld (recorded _)).trans (State.on_put_self _ 0 viaLink rfl)

theorem State.takeReference_refHold (s : State) (viaLink : Bool) : (s.takeReference viaLink).power.refHold = false := by
  have recorded : ∀ u : State, ((u.logTime 4 (le 4 (bit01 viaLink))).raise (quinceSource 0x01 0) 0 0).power = u.power :=
    fun u => ((State.raise_via ..).power (by decide)).trans ((State.logTime_via ..).power (by decide))
  exact congrArg Power.refHold (recorded _)

theorem State.takeReference_ct (s : State) (viaLink : Bool) : (s.takeReference viaLink).ct = s.ct :=
  (State.takeReference_via s viaLink).ct (by decide)

/-- The PLL holds the frequency that it last had (R64). -/
def State.holdFrequency (s : State) : State := { s with power := { s.power with refHold := true } }

theorem exec_referenceLost {viaLink : Bool} (locked : s.on F.PMU_CLKSTAT_PLL_LOCK 0 = true) (steady : s.power.refHold = false)
    (active : s.on F.PMU_CLKSTAT_REF_ACTIVE 0 = viaLink) :
    exec .referenceLost s = .next (if s.on (referenceOk (!viaLink)) 0
      then (s.put (referenceOk viaLink) 0 false).takeReference (!viaLink)
      else (s.put (referenceOk viaLink) 0 false).holdFrequency) := by
  have other : (s.put (referenceOk viaLink) 0 false).on (referenceOk (!viaLink)) 0 = s.on (referenceOk (!viaLink)) 0 :=
    s.on_put_ne 0 0 false (referenceOk_not_ne viaLink)
  change execReferenceLost s = _
  simp only [execReferenceLost, locked, steady, active, Bool.not_false, Bool.and_self, if_true]
  rw [← other]
  cases viaLink <;> rfl

/-- The PLL moves to the other reference where that runs, else it holds; CT counts on (R64). -/
theorem referenceLost_moves {viaLink : Bool} (locked : s.on F.PMU_CLKSTAT_PLL_LOCK 0 = true)
    (steady : s.power.refHold = false) (active : s.on F.PMU_CLKSTAT_REF_ACTIVE 0 = viaLink) :
    Completes .referenceLost s fun t =>
      t.on (referenceOk viaLink) 0 = false ∧ t.power.refHold = !s.on (referenceOk (!viaLink)) 0
        ∧ t.on F.PMU_CLKSTAT_REF_ACTIVE 0 = (viaLink ^^ s.on (referenceOk (!viaLink)) 0) ∧ t.ct = s.ct := by
  refine ⟨_, exec_referenceLost locked steady active, ?_⟩
  cases other : s.on (referenceOk (!viaLink)) 0 with
  | true =>
    rw [if_pos rfl]
    exact ⟨(State.takeReference_referenceOk _ _ _).trans (s.on_put_referenceOk viaLink false),
      State.takeReference_refHold _ _, (State.takeReference_refActive _ _).trans (Bool.xor_true _).symm,
      State.takeReference_ct _ _⟩
  | false =>
    rw [if_neg (by decide)]
    exact ⟨s.on_put_referenceOk viaLink false, rfl,
      ((s.on_put_ne 0 0 false (referenceOk_ne_refActive viaLink)).trans active).trans (Bool.xor_false _).symm, rfl⟩

theorem exec_referenceReturn {viaLink : Bool} (boots : s.power.boot ≠ .off) (allowed : viaLink = false ∨ s.apex = false) :
    exec (.referenceReturn viaLink) s = .next (if s.power.refHold then (s.put (referenceOk viaLink) 0 true).takeReference viaLink
      else s.put (referenceOk viaLink) 0 true) := by
  have runs : (s.power.boot != .off && !(viaLink && s.apex)) = true := by
    rcases allowed with h | h <;> simp [boots, h]
  change execReferenceReturn viaLink s = _
  rw [execReferenceReturn, if_pos runs]
  rfl

/-- A reference that comes back runs, and ends a hold (R63, R64). -/
theorem referenceReturn_ends (viaLink : Bool) (boots : s.power.boot ≠ .off) (allowed : viaLink = false ∨ s.apex = false) :
    Completes (.referenceReturn viaLink) s fun t =>
      t.on (referenceOk viaLink) 0 = true ∧ t.power.refHold = false
        ∧ (s.power.refHold = true → t.on F.PMU_CLKSTAT_REF_ACTIVE 0 = viaLink)
        ∧ (s.power.refHold = false → t.on F.PMU_CLKSTAT_REF_ACTIVE 0 = s.on F.PMU_CLKSTAT_REF_ACTIVE 0) ∧ t.ct = s.ct := by
  refine ⟨_, exec_referenceReturn boots allowed, ?_⟩
  cases held : s.power.refHold with
  | true =>
    rw [if_pos rfl]
    exact ⟨(State.takeReference_referenceOk _ _ _).trans (s.on_put_referenceOk viaLink true),
      State.takeReference_refHold _ _, fun _ => State.takeReference_refActive _ _, fun h => absurd h (by decide),
      State.takeReference_ct _ _⟩
  | false =>
    rw [if_neg (by decide)]
    exact ⟨s.on_put_referenceOk viaLink true, held, fun h => absurd h (by decide),
      fun _ => s.on_put_ne 0 0 true (referenceOk_ne_refActive viaLink), rfl⟩

theorem recoveredReferenceSwitch_moves (locked : s.on F.PMU_CLKSTAT_PLL_LOCK 0 = true)
    (auto : s.on F.PMU_CLKCTL_AUTO 0 = true) (vertex : s.apex = false) (recovered : s.on F.PMU_CLKSTAT_REC_OK 0 = true)
    (up : s.upActive = true) :
    Completes .recoveredReferenceSwitch s fun t => t.on F.PMU_CLKSTAT_REF_ACTIVE 0 = true ∧ t.ct = s.ct := by
  refine ⟨s.put F.PMU_CLKSTAT_REF_ACTIVE 0 true, ?_, State.on_put_self s 0 true rfl, rfl⟩
  change execRecoveredReferenceSwitch s = _
  simp [execRecoveredReferenceSwitch, locked, auto, vertex, recovered, up]

/-! ### Epoch -/

/-- RTC_TRIM corrects the RTC's rate by less than half of it, and an RTC tick takes thousands of root-clock ticks (R90). -/
theorem State.rtcRate_pos (s : State) : 0 < s.rtcRate := by
  have bits : s.fld F.RTC_TRIM_TRIM 0 % 2 ^ 16 < 2 ^ 16 := Nat.mod_lt _ (by decide)
  unfold State.rtcRate toInt
  split <;> omega

theorem State.rtcRate_le (s : State) : s.rtcRate ≤ rtcUnit := by
  have bits : s.fld F.RTC_TRIM_TRIM 0 % 2 ^ 16 < 2 ^ 16 := Nat.mod_lt _ (by decide)
  unfold State.rtcRate toInt rtcUnit
  split <;> omega

/-- The root-clock ticks until the next RTC edge gather its unit, and less than another (R85). -/
theorem State.untilRtc_reaches (s : State) (within : s.power.rtcPart < rtcUnit) :
    (s.power.rtcPart + s.rtcRate * s.untilRtc 1) / rtcUnit = 1 := by
  have pos := s.rtcRate_pos
  have rate := s.rtcRate_le
  have ticks : s.untilRtc 1 = (rtcUnit - s.power.rtcPart + (s.rtcRate - 1)) / s.rtcRate := by rw [State.untilRtc, one_mul]
  have rounded := Nat.div_add_mod (rtcUnit - s.power.rtcPart + (s.rtcRate - 1)) s.rtcRate
  have rest := Nat.mod_lt (rtcUnit - s.power.rtcPart + (s.rtcRate - 1)) pos
  rw [ticks]
  exact Nat.div_eq_of_lt_le (by omega) (by omega)

theorem State.fld64_setFld64 (s : State) {lo hi : Field} (i v : Nat) (apart : lo.id ≠ hi.id) (low : lo.width = 32)
    (high : hi.width = 32) : (s.setFld64 lo hi i v).fld64 lo hi i = v % 2 ^ 64 := by
  rw [State.fld64, State.setFld64, fld_setFld_self, fld_setFld_ne _ _ _ _ apart, fld_setFld_self, low, high]
  omega

/-- The epoch with which R85 gives `ct` at an RTC count gives it back. -/
theorem seedCt_epoch {ct : Nat} (count : Nat) (small : ct < 2 ^ 64) :
    seedCt count ((ct + 2 ^ 64 - count * 234375 / 8 % 2 ^ 64) % 2 ^ 64) = ct := by
  rw [seedCt]
  omega

theorem epochTrackUpdate_tracks (lit : s.power.aon = true) (locked : s.sync = 2) (within : s.power.rtcPart < rtcUnit)
    (room : s.power.rtcCount < 2 ^ 48 - 1) :
    Completes .epochTrackUpdate s fun t =>
      t.power.rtcCount = s.power.rtcCount + 1 ∧ t.ct = (s.ct + s.untilRtc 1) % 2 ^ 64
        ∧ t.ct = seedCt t.power.rtcCount (t.fld64 F.RTC_EPOCH_LO_EPOCH F.RTC_EPOCH_HI_EPOCH 0) := by
  have runs : exec .epochTrackUpdate s = .next ((s.advance (s.untilRtc 1)).setFld64 F.RTC_EPOCH_LO_EPOCH F.RTC_EPOCH_HI_EPOCH 0
      (((s.advance (s.untilRtc 1)).ct + 2 ^ 64 - (s.advance (s.untilRtc 1)).power.rtcCount * 234375 / 8 % 2 ^ 64) % 2 ^ 64)) := by
    change execEpochTrackUpdate s = _
    rw [execEpochTrackUpdate, lit, locked]
    rfl
  have count : (s.advance (s.untilRtc 1)).power.rtcCount = s.power.rtcCount + 1 := by
    change (s.power.rtcCount + (s.power.rtcPart + s.rtcRate * s.untilRtc 1) / rtcUnit) % 2 ^ 48 = _
    rw [s.untilRtc_reaches within]
    exact Nat.mod_eq_of_lt (by omega)
  refine ⟨_, runs, count, rfl, ?_⟩
  rw [State.fld64_setFld64 _ _ _ (by decide) rfl rfl, Nat.mod_mod]
  exact (seedCt_epoch _ (Nat.mod_lt _ (by decide))).symm

/-! ### Temperatures -/

theorem State.domLeave_domstat (s : State) (d : Nat) {f : Field} (i : Nat) (pmu : blockOf f.id = .pmu) :
    (s.domLeave d).fld f i = s.fld f i := (s.domLeave_via d).fld f i (by rw [pmu]; decide)

/-- A domain that turns changes of PMU its CHANGING bit alone (R485). -/
theorem State.domTurn_alters (s : State) (d : Nat) : Alters (allRegs - 1) [F.PMU_DOMSTAT_CHANGING] s (s.domTurn d) := by
  refine .ite (.refl s) ?_
  extract_lets s₁
  have marked : Alters (allRegs - 1) [F.PMU_DOMSTAT_CHANGING] s s₁ := .putBit (.refl s)
  exact .ite (.via marked (State.domLeave_via ..)) marked

theorem State.domFollow_alters (s : State) (d : Nat) : Alters (allRegs - 1) [F.PMU_DOMSTAT_CHANGING] s (s.domFollow d) :=
  .each (s.domTurn_alters d) fun s d => s.domTurn_alters d

theorem State.domTurn_trace_keepsPending (s : State) : KeepsPending s (s.domTurn Dom.trace) := by
  refine .ite (.refl s) ?_
  extract_lets s₁
  have marked : KeepsPending s s₁ := .setFld (.refl s)
  exact .ite (marked.trans (State.traceHalt_keepsPending s₁)) marked

/-- A domain that is on and is not wanted changes (R65, R66). -/
theorem State.domTurn_changing (s : State) {d : Nat} (fits : d < 11) (on : s.domOn d = true) (unwanted : s.domWant d = false) :
    (s.domTurn d).domChanging d = true := by
  unfold State.domTurn
  cases changing : s.domChanging d with
  | true => simpa using changing
  | false =>
    have marked : (s.putBit F.PMU_DOMSTAT_CHANGING 0 d true).domChanging d = true := s.bit_putBit_self 0 true fits
    rw [if_neg (by rw [on, unwanted]; decide)]
    dsimp only
    split
    · exact (State.bit_of_fld (State.domLeave_domstat _ d 0 rfl) d).trans marked
    · exact marked

/-- Throttle stage 2 keeps TRACE off (R67). -/
theorem State.domWant_trace_of_throttled {s : State} (hot : s.fld F.PMU_CLKSTAT_THROTTLE 0 = 2) :
    s.domWant Dom.trace = false := by
  simp [State.domWant, hot]

/-- A throttle stage is shown, pended and logged (R67, R384, R415). -/
def State.throttled (s : State) (stage : Nat) : State :=
  ((s.setFld F.PMU_CLKSTAT_THROTTLE 0 stage).irq 16).logPower 9 (le 4 stage)

theorem State.throttled_fld (s : State) (stage : Nat) {f : Field} (i : Nat) (pmu : blockOf f.id = .pmu) :
    (s.throttled stage).fld f i = (s.setFld F.PMU_CLKSTAT_THROTTLE 0 stage).fld f i :=
  ((State.logPower_via ..).fld f i (by rw [pmu]; decide)).trans ((State.irq_via ..).fld f i (by rw [pmu]; decide))

theorem throttleStageChange_shows {stage : Nat} (boots : s.power.boot ≠ .off) (known : stage ≤ 2)
    (other : stage ≠ s.fld F.PMU_CLKSTAT_THROTTLE 0) :
    Completes (.throttleStageChange stage) s fun t =>
      t.fld F.PMU_CLKSTAT_THROTTLE 0 = stage ∧ t.pends 16 = true
        ∧ (stage = 2 → s.domOn Dom.trace = true → t.domChanging Dom.trace = true) := by
  have runs : exec (.throttleStageChange stage) s = .next ((s.throttled stage).domTurn Dom.trace) := by
    change execThrottleStageChange stage s = _
    rw [execThrottleStageChange, if_pos (by simp [boots, known, other])]
    rfl
  have shown : (s.throttled stage).fld F.PMU_CLKSTAT_THROTTLE 0 = stage :=
    (s.throttled_fld stage 0 rfl).trans ((fld_setFld_self ..).trans (Nat.mod_eq_of_lt (show stage < 4 by omega)))
  refine ⟨_, runs, ?_, ?_, ?_⟩
  · exact (State.domTurn_alters _ _ F.PMU_CLKSTAT_THROTTLE 0 (by decide)).trans shown
  · refine State.domTurn_trace_keepsPending _ 16 ?_
    have logged : KeepsPending ((s.setFld F.PMU_CLKSTAT_THROTTLE 0 stage).irq 16) (s.throttled stage) :=
      .via (.refl _) (State.logPower_via ..)
    exact logged 16 (State.pends_irq_self _ (by decide))
  · rintro rfl on
    have still : (s.throttled 2).domOn Dom.trace = true :=
      (State.bit_of_fld ((s.throttled_fld 2 0 rfl).trans (fld_setFld_ne _ _ _ _ (by decide))) _).trans on
    exact State.domTurn_changing _ (by decide) still (State.domWant_trace_of_throttled shown)

/-- The stage that DIE_STAT of a die shows (R121, R484). -/
def State.dieStage (s : State) (d : Nat) : Nat :=
  if s.on F.DIE_STAT_SHUTDOWN d then 2 else if s.on F.DIE_STAT_HOT d then 1 else 0

/-- The temperature and the stage of a die are shown (R121). -/
def State.dieShown (s : State) (d stage : Nat) (tdie : Int) : State :=
  ((s.setFld F.DIE_STAT_TDIE d (ofInt 16 tdie)).put F.DIE_STAT_HOT d (decide (1 ≤ stage))).put F.DIE_STAT_SHUTDOWN d
    (decide (stage = 2))

/-- The stages entered are counted and logged (R121, R415). -/
def State.dieCounted (s : State) (d stage was : Nat) (tdie : Int) : State :=
  let s := if was = 0 then s.incr F.DIE_CNT_HOTS d else s
  let s := if stage = 2 then s.incr F.DIE_CNT_SHUTDOWNS d else s
  s.logPower 10 ([d + 1, stage] ++ le 2 (ofInt 16 tdie))

/-- What a stage of a die makes the part do: a Currant's interrupt, and at SHUTDOWN its ports go off (R384, R484). -/
def State.dieActs (s : State) (d stage : Nat) : State :=
  if d = 4 then s
  else
    let s := s.irq (5 + d)
    if stage = 2 then s.each (portsOf d) State.hotOff else s

theorem exec_currantDieTempStage {d stage : Nat} (tdie : Int) (die : d < 5) (on : s.dieOn (d + 1) = true)
    (fitted : s.dieAbsent (d + 1) = false) (known : stage ≤ if d = 4 then 1 else 2) (other : stage ≠ s.dieStage d) :
    exec (.currantDieTempStage d stage tdie) s =
      .next (((s.dieShown d stage tdie).dieCounted d stage (s.dieStage d) tdie).dieActs d stage) := by
  have bounded : (if d = 4 then min 1 stage else min 2 stage) = stage := by split_ifs at known ⊢ <;> omega
  change execCurrantDieTempStage d stage tdie s = _
  unfold execCurrantDieTempStage
  rw [bounded]
  dsimp only
  rw [if_pos (by simp [die, on, fitted])]
  refine congrArg _ (if_neg ?_)
  exact other

theorem State.dieCounted_alters (s : State) (d stage was : Nat) (tdie : Int) :
    Alters (2 ^ 23) [F.DIE_CNT_HOTS, F.DIE_CNT_SHUTDOWNS] s (s.dieCounted d stage was tdie) := by
  unfold State.dieCounted
  extract_lets s₁ s₂
  have counted : Alters (2 ^ 23) [F.DIE_CNT_HOTS, F.DIE_CNT_SHUTDOWNS] s s₁ := .ite (.incr (.refl s)) (.refl s)
  exact .via (.ite (.incr counted) counted) (State.logPower_via ..)

/-- No block of the die status is reached (R121). -/
theorem State.dieActs_fld (s : State) (d stage : Nat) {f : Field} (i : Nat) (die : blockOf f.id = .die) :
    (s.dieActs d stage).fld f i = s.fld f i := by
  have acts : Alters (allRegs - 2 ^ 4) [] s (s.dieActs d stage) := by
    refine .ite (.refl s) ?_
    extract_lets s₁
    have pended : Alters (allRegs - 2 ^ 4) [] s s₁ := .via (.refl s) (State.irq_via ..)
    exact .ite (.each pended fun s p => .via (.refl s) (State.hotOff_via ..)) pended
  exact acts f i (by rw [writable, die]; rfl)

theorem State.dieActs_pends (s : State) {d : Nat} (stage : Nat) (currant : d < 4) : (s.dieActs d stage).pends (5 + d) = true := by
  have pended : (s.irq (5 + d)).pends (5 + d) = true := State.pends_irq_self s (by omega)
  have kept : KeepsPending (s.irq (5 + d)) (s.dieActs d stage) := by
    unfold State.dieActs
    rw [if_neg (by omega)]
    exact .ite (.each (.refl _) fun s p => s.hotOff_keepsPending p) (.refl _)
  exact kept _ pended

theorem currantDieTempStage_shows {d stage : Nat} (tdie : Int) (die : d < 5) (on : s.dieOn (d + 1) = true)
    (fitted : s.dieAbsent (d + 1) = false) (known : stage ≤ if d = 4 then 1 else 2) (other : stage ≠ s.dieStage d) :
    Completes (.currantDieTempStage d stage tdie) s fun t =>
      t.fld F.DIE_STAT_TDIE d = ofInt 16 tdie ∧ t.on F.DIE_STAT_HOT d = decide (1 ≤ stage)
        ∧ t.on F.DIE_STAT_SHUTDOWN d = decide (stage = 2) ∧ (d < 4 → t.pends (5 + d) = true) := by
  have kept : ∀ {f : Field}, blockOf f.id = .die → writable (2 ^ 23) [F.DIE_CNT_HOTS, F.DIE_CNT_SHUTDOWNS] f = false →
      (((s.dieShown d stage tdie).dieCounted d stage (s.dieStage d) tdie).dieActs d stage).fld f d
        = (s.dieShown d stage tdie).fld f d :=
    fun block other => (State.dieActs_fld _ d stage d block).trans (State.dieCounted_alters _ _ _ _ _ _ _ other)
  have bounded : ofInt 16 tdie < 2 ^ 16 := by unfold ofInt; omega
  refine ⟨_, exec_currantDieTempStage tdie die on fitted known other, ?_, ?_, ?_, fun currant =>
    State.dieActs_pends _ stage currant⟩
  · rw [kept rfl (by decide), State.dieShown, State.fld_put_ne _ _ _ _ (by decide), State.fld_put_ne _ _ _ _ (by decide),
      fld_setFld_self]
    exact Nat.mod_eq_of_lt bounded
  · rw [State.on_of_fld (kept rfl (by decide)), State.dieShown, State.on_put_ne _ _ _ _ (by decide)]
    exact State.on_put_self _ d _ rfl
  · rw [State.on_of_fld (kept rfl (by decide))]
    exact State.on_put_self _ d _ rfl

end

/-- Settles O19: a clause per command and condition, each from what the references, the RTC, the throttle and the dies leave. -/
theorem clockAndTemperatureCommands : Obligations.ClockAndTemperatureCommands := by
  refine ⟨fun s locked steady xo => ?_, fun s locked steady link => ?_, fun s viaLink boots allowed => ?_,
    fun s => recoveredReferenceSwitch_moves, fun s lit locked within room _ => epochTrackUpdate_tracks lit locked within room,
    fun s stage => throttleStageChange_shows, fun s d stage tdie => currantDieTempStage_shows tdie⟩
  · simpa only [referenceOk, Bool.not_false, Bool.false_xor, reduceIte, Bool.false_eq_true] using referenceLost_moves locked steady xo
  · simpa only [referenceOk, Bool.not_true, Bool.true_xor, reduceIte, Bool.false_eq_true] using referenceLost_moves locked steady link
  · exact referenceReturn_ends viaLink boots allowed

end Sys2Proof.Machine
end

section
/-! SYNC and steps of CT: what each changes (R324, R325, R331). -/

namespace Sys2Proof.Machine

-- One proof at a time: a default argument `by decide` waits for the text before it, and each proof that waits takes a thread.
set_option Elab.async false

theorem Via.chord {m : Nat} {s t : State} (d : Via m s t) (h : m.testBit 49 = false) : t.chord = s.chord := d.same .chord h

theorem Via.links {m : Nat} {s t : State} (d : Via m s t) (h : m.testBit 50 = false) : t.links = s.links := d.same .links h

theorem Via.staged {m : Nat} {s t : State} (d : Via m s t) (h : m.testBit 28 = false) : t.staged = s.staged := d.same .staged h

/-- MF, IC, LOG and MBX: the blocks in which interrupts, records and notices stand. -/
def reportMask : Nat := 2 ^ 9 + 2 ^ 19 + 2 ^ 23 + 2 ^ 25

variable (s : State)

/-! ### SYNC -/

theorem State.setSync_of_eq {s : State} {n : Nat} (h : s.sync = n) : s.setSync n = s := if_pos h

theorem State.setSync_alters (n : Nat) : Alters reportMask [F.CHORD_STAT_SYNC] s (s.setSync n) :=
  .ite (.refl s) (.via (.via (.via (.setFld (.via (.refl s) (State.syncLeft_via s))) (State.logTime_via ..)) (State.notice_via ..))
    (State.irq_via ..))

theorem State.setSync_sync {n : Nat} (code : n < 4) : (s.setSync n).sync = n := by
  unfold State.setSync
  split
  · assumption
  · have told : ∀ u : State, (((u.logTime 1 (le 4 n)).notice 7 n).irq 156).fld F.CHORD_STAT_SYNC 0 = u.fld F.CHORD_STAT_SYNC 0 :=
      fun u => ((State.irq_via ..).fld _ 0 (by decide)).trans
        (((State.notice_via ..).fld _ 0 (by decide)).trans ((State.logTime_via ..).fld _ 0 (by decide)))
    exact (told _).trans ((fld_setFld_self ..).trans (Nat.mod_eq_of_lt code))

theorem State.setSync_pends {n : Nat} (h : s.sync ≠ n) : (s.setSync n).pends 156 = true := by
  rw [State.setSync, if_neg h]
  exact State.pends_irq_self _ (by decide)

theorem State.setSync_chord (n : Nat) : (s.setSync n).chord = s.chord := (s.setSync_via n).chord (by decide)

theorem State.setSync_links (n : Nat) : (s.setSync n).links = s.links := (s.setSync_via n).links (by decide)

theorem State.setSync_power (n : Nat) : (s.setSync n).power = s.power := (s.setSync_via n).power (by decide)

/-! ### A step of CT -/

/-- The step itself: CT, and the stamps that follow it. -/
def State.ctMoved (n : Int) : State :=
  let ct := ofInt 64 ((s.ct : Int) + n)
  { s with ct := ct, power := { s.power with onSince := [] }, trc := s.trc.stepped ct }.updChord (fun c => { c with
    lastStepCt := ct, lastStep := n, slew := 0, ppsCt := c.ppsCt.map (fun x => ofInt 64 ((x : Int) + n)) })

/-- The step is counted, logged and pended. -/
def State.ctReported (sync ct : Nat) (n : Int) : State :=
  ((s.incr F.CHORD_CNT0_STEPS 0).logAs sync ct (blockId 0 0x18) 0x40 0 ([2, 0, 0, 0] ++ le 8 (ofInt 64 n))).irq 156

theorem State.ctStep_eq (sync : Nat) (n : Int) : s.ctStep sync n = (s.ctMoved n).ctReported sync (s.ctMoved n).ct n := rfl

theorem State.ctReported_via (sync ct : Nat) (n : Int) :
    Via (2 ^ 15 + 2 ^ 19 + 2 ^ 23 + 2 ^ 58) s (s.ctReported sync ct n) :=
  .then (State.irq_via ..) (by decide) (.then (State.logAs_via ..) (by decide) (.incr _ _ (by decide) (.refl s)))

theorem State.ctReported_steps (sync ct : Nat) (n : Int) :
    (s.ctReported sync ct n).fld F.CHORD_CNT0_STEPS 0 = (s.fld F.CHORD_CNT0_STEPS 0 + 1) % 2 ^ 16 :=
  ((State.irq_via ..).fld _ 0 (by decide)).trans (((State.logAs_via ..).fld _ 0 (by decide)).trans (fld_setFld_self ..))

section
variable (sync : Nat) (n : Int)

theorem State.ctStep_ct : (s.ctStep sync n).ct = ofInt 64 ((s.ct : Int) + n) :=
  ((s.ctMoved n).ctReported_via sync _ n).ct (by decide)

theorem State.ctStep_chord : (s.ctStep sync n).chord = (s.ctMoved n).chord := by
  rw [s.ctStep_eq sync n, ((s.ctMoved n).ctReported_via sync _ n).chord (by decide)]

theorem State.ctStep_steps :
    (s.ctStep sync n).fld F.CHORD_CNT0_STEPS 0 = (s.fld F.CHORD_CNT0_STEPS 0 + 1) % 2 ^ 16 := by
  rw [s.ctStep_eq sync n]
  exact ((s.ctMoved n).ctReported_steps sync _ n)

theorem State.ctStep_pends : (s.ctStep sync n).pends 156 = true := State.pends_irq_self _ (by decide)

end

end Sys2Proof.Machine
end

section
/-! Markers on up-links, delays, corrections and locks (R87, R88, R318, R321 to R325). -/

namespace Sys2Proof.Machine

-- One proof at a time: a default argument `by decide` waits for the text before it, and each proof that waits takes a thread.
set_option Elab.async false

theorem State.upActive_congr {s t : State}
    (flds : ∀ f ∈ [F.PMU_DOMSTAT_ON, F.CHORD_CFG_APEX, F.CHORD_STAT_ACTIVEUP], t.fld f 0 = s.fld f 0)
    (links : ∀ l, t.linkState l = s.linkState l) (active : t.chord.active = s.chord.active) : t.upActive = s.upActive := by
  simp only [List.forall_mem_cons] at flds
  obtain ⟨on, apex, up, -⟩ := flds
  simp only [State.upActive, State.chordOn, State.domOn, State.apex, State.activeUp, State.bit_of_fld on, State.on_of_fld apex,
    up, links, active]
  rfl

section
variable (s : State) (l sync depth mark localCt : Nat) (peerHold : Bool)

/-! ### Markers on up-links -/

/-- What a marker tells of its parent (R321, R328). -/
def State.markerHeard : State :=
  let s := (s.setFld F.CHORD_LSTAT_PEERSYNC l sync).setFld F.CHORD_LSTAT_PEERDEPTH l depth
  let delay : Int := (s.fld F.CHORD_LRTT_VALUE l + toInt 16 (s.fld F.CHORD_LCTL_ASYM l)) / 32
  let fresh := s.linkState l ≠ 3 ∧ (s.links.at l).firstOffset = none
  s.updLink l (fun r => { r with
    peerHold := peerHold
    firstOffset := if fresh then some ((mark : Int) + delay - (localCt : Int)) else r.firstOffset })

/-- The active parent's depth, and its SYNC once the part is locked (R318, R325, R327). -/
def State.parentFollowed : State :=
  let s := s.setFld F.CHORD_STAT_DEPTH 0 (depth + 1)
  if s.chord.locked ∧ sync ≠ 0 then
    let s := if s.on F.CHORD_STAT_HOLDOVER 0 then
        (s.put F.CHORD_STAT_HOLDOVER 0 false).updChord (fun c => { c with holdSince := none }) else s
    s.setSync (if sync = 1 then 1 else 2)
  else s

theorem State.markerHeard_alters :
    Alters 0 [F.CHORD_LSTAT_PEERSYNC, F.CHORD_LSTAT_PEERDEPTH] s (s.markerHeard l sync depth mark localCt peerHold) :=
  .via (.setFld (.setFld (.refl s))) (State.updLink_via ..)

theorem State.markerHeard_upActive : (s.markerHeard l sync depth mark localCt peerHold).upActive = s.upActive := by
  have d := s.markerHeard_alters l sync depth mark localCt peerHold
  refine State.upActive_congr ?_ (fun _ => d _ _ (by decide)) rfl
  simp only [List.forall_mem_cons]
  exact ⟨d _ 0 (by decide), d _ 0 (by decide), d _ 0 (by decide), by simp⟩

theorem State.markerHeard_activeUp : (s.markerHeard l sync depth mark localCt peerHold).activeUp = s.activeUp :=
  s.markerHeard_alters l sync depth mark localCt peerHold _ 0 (by decide)

theorem State.markerHeard_peerHold :
    ((s.markerHeard l sync depth mark localCt peerHold).links.at l).peerHold = peerHold := by
  simp [State.markerHeard]

theorem State.parentFollowed_alters :
    Alters reportMask [F.CHORD_STAT_SYNC, F.CHORD_STAT_DEPTH, F.CHORD_STAT_HOLDOVER] s (s.parentFollowed sync depth) := by
  unfold State.parentFollowed
  extract_lets s₁ s₂
  have deep : Alters reportMask [F.CHORD_STAT_SYNC, F.CHORD_STAT_DEPTH, F.CHORD_STAT_HOLDOVER] s s₁ := .setFld (.refl s)
  have back : Alters reportMask [F.CHORD_STAT_SYNC, F.CHORD_STAT_DEPTH, F.CHORD_STAT_HOLDOVER] s s₂ :=
    .ite (.via (.put deep) (State.updChord_via ..)) deep
  exact .ite (back.trans (State.setSync_alters _ _).mono) deep

theorem State.parentFollowed_links : (s.parentFollowed sync depth).links = s.links := by
  unfold State.parentFollowed
  extract_lets s₁ s₂
  have back : s₂.links = s.links := by
    dsimp only [s₂]
    split <;> rfl
  split
  · exact (State.setSync_links ..).trans back
  · rfl

end

section
variable {s : State} {l sync depth mark localCt : Nat} {peerHold : Bool}

theorem State.parentFollowed_of_locked (locked : s.chord.locked = true) (told : sync ≠ 0) (known : sync ≤ 2) (small : depth < 8) :
    (s.parentFollowed sync depth).sync = sync ∧ (s.parentFollowed sync depth).on F.CHORD_STAT_HOLDOVER 0 = false
      ∧ (s.parentFollowed sync depth).fld F.CHORD_STAT_DEPTH 0 = depth + 1 := by
  unfold State.parentFollowed
  extract_lets s₁ s₂
  have code : (if sync = 1 then 1 else 2) = sync := by split <;> omega
  have deep : s₁.fld F.CHORD_STAT_DEPTH 0 = depth + 1 :=
    (fld_setFld_self ..).trans (Nat.mod_eq_of_lt (show depth + 1 < 16 by omega))
  have back : s₂.fld F.CHORD_STAT_DEPTH 0 = depth + 1 ∧ s₂.on F.CHORD_STAT_HOLDOVER 0 = false := by
    dsimp only [s₂]
    split
    · exact ⟨(State.fld_put_ne s₁ (f := F.CHORD_STAT_HOLDOVER) 0 0 false (by decide)).trans deep, State.on_put_self s₁ 0 false rfl⟩
    · next off => exact ⟨deep, Bool.eq_false_of_not_eq_true off⟩
  rw [if_pos ⟨locked, told⟩, code]
  exact ⟨State.setSync_sync _ (by omega), ((State.setSync_alters _ _).on _ 0).trans back.2,
    (State.setSync_alters _ _ _ 0 (by decide)).trans back.1⟩

theorem State.parentFollowed_sync_of_none : (s.parentFollowed 0 depth).sync = s.sync := by
  rw [State.parentFollowed, if_neg (fun h => h.2 rfl)]
  exact fld_setFld_ne _ _ _ _ (by decide)

theorem exec_marker_up (on : s.chordOn = true) (up : l < 2) (trained : s.linkState l = 4 ∨ s.linkState l = 5)
    (small : depth < 8) :
    exec (.marker l sync depth mark localCt peerHold) s = .next
      (if s.upActive = true ∧ s.activeUp = l then (s.markerHeard l sync depth mark localCt peerHold).parentFollowed sync depth
        else s.markerHeard l sync depth mark localCt peerHold) := by
  have states : s.linkState l = 4 ∨ s.linkState l = 5 ∨ s.linkState l = 3 := by omega
  have shallow : ¬ 8 ≤ depth := by omega
  change execMarker l sync depth mark localCt peerHold s = _
  unfold execMarker
  rw [if_neg (by simp [on]; omega), if_neg (by omega), if_pos states, ← s.markerHeard_upActive l sync depth mark localCt peerHold,
    ← s.markerHeard_activeUp l sync depth mark localCt peerHold]
  extract_lets s₁ delay fresh s₂ s₃
  rw [if_neg (fun h => shallow h.1), if_neg shallow]
  rfl

theorem marker_up (on : s.chordOn = true) (up : l < 2) (trained : s.linkState l = 4 ∨ s.linkState l = 5) (known : sync ≤ 2)
    (small : depth < 8) :
    Completes (.marker l sync depth mark localCt peerHold) s fun t =>
      t.fld F.CHORD_LSTAT_PEERSYNC l = sync ∧ t.fld F.CHORD_LSTAT_PEERDEPTH l = depth
        ∧ (t.links.at l).peerHold = peerHold
        ∧ (s.upActive = true → s.activeUp = l → s.chord.locked = true → sync ≠ 0 →
          t.sync = sync ∧ t.on F.CHORD_STAT_HOLDOVER 0 = false ∧ t.fld F.CHORD_STAT_DEPTH 0 = depth + 1)
        ∧ (s.upActive = true → s.activeUp = l → s.chord.locked = true → sync = 0 → t.sync = s.sync) := by
  have heard := s.markerHeard_alters l sync depth mark localCt peerHold
  have peerSync : (s.markerHeard l sync depth mark localCt peerHold).fld F.CHORD_LSTAT_PEERSYNC l = sync :=
    (fld_setFld_ne _ _ _ _ (by decide)).trans ((fld_setFld_self ..).trans (Nat.mod_eq_of_lt (show sync < 4 by omega)))
  have peerDepth : (s.markerHeard l sync depth mark localCt peerHold).fld F.CHORD_LSTAT_PEERDEPTH l = depth :=
    (fld_setFld_self ..).trans (Nat.mod_eq_of_lt (show depth < 16 by omega))
  have hold := s.markerHeard_peerHold l sync depth mark localCt peerHold
  refine ⟨_, exec_marker_up on up trained small, ?_⟩
  split
  · next active =>
    have follows := State.parentFollowed_alters (s.markerHeard l sync depth mark localCt peerHold) sync depth
    refine ⟨(follows _ l (by decide)).trans peerSync, (follows _ l (by decide)).trans peerDepth,
      by rw [State.parentFollowed_links, hold], fun _ _ locked told => State.parentFollowed_of_locked locked told known small, ?_⟩
    rintro - - - rfl
    exact State.parentFollowed_sync_of_none.trans (heard _ 0 (by decide))
  · next idle =>
    exact ⟨peerSync, peerDepth, hold, fun act up => absurd ⟨act, up⟩ idle, fun act up => absurd ⟨act, up⟩ idle⟩

/-! ### Delays and corrections -/

theorem State.offsetsGone_alters (s : State) (l : Nat) : Alters 0 [F.CHORD_LOFFS_VALUE] s (s.offsetsGone l) :=
  .setFld (.via (.refl s) (State.updLink_via ..))

theorem State.offsetsGone_ct (s : State) (l : Nat) : (s.offsetsGone l).ct = s.ct := rfl

theorem State.offsetsGone_steps (s : State) (l : Nat) :
    (s.offsetsGone l).fld F.CHORD_CNT0_STEPS 0 = s.fld F.CHORD_CNT0_STEPS 0 := s.offsetsGone_alters l _ 0 (by decide)

theorem State.offsetsGone_pends (s : State) (l : Nat) : (s.offsetsGone l).pends 156 = s.pends 156 :=
  State.bit_of_fld (s.offsetsGone_alters l F.IC_PEND_PEND _ (by decide)) _

theorem delayExchange_averages (t1 t2 t3 t4 : Int) (on : s.chordOn = true) (up : l < 2)
    (trained : s.linkState l = 3 ∨ s.linkState l = 4 ∨ s.linkState l = 5) :
    Completes (.delayExchange l t1 t2 t3 t4) s fun t =>
      (t.links.at l).rtts = ((4 * ((t4 - t1) - (t3 - t2))) :: (s.links.at l).rtts).take 64
        ∧ t.fld F.CHORD_LRTT_VALUE l = ofInt 24 (average (t.links.at l).rtts)
        ∧ t.fld F.CHORD_LOFFS_VALUE l = ofInt 32 (average (t.links.at l).offs) := by
  have runs : (s.chordOn && decide (l < 2)
      && (decide (s.linkState l = 3) || decide (s.linkState l = 4) || decide (s.linkState l = 5))) = true := by
    simp [on, up, or_assoc, trained]
  have rtt : ∀ x : Int, ofInt 24 x < 2 ^ 32 := fun x => by unfold ofInt; omega
  have off : ∀ x : Int, ofInt 32 x < 2 ^ 32 := fun x => by unfold ofInt; omega
  refine ⟨_, congrArg Host.Outcome.next (if_pos runs), ?_, ?_, ?_⟩
  · simp [State.chordSend, State.chordHush]
  · exact (fld_setFld_ne _ _ _ _ (by decide)).trans ((fld_setFld_self ..).trans (Nat.mod_eq_of_lt (rtt _)))
  · exact (fld_setFld_self ..).trans (Nat.mod_eq_of_lt (off _))

theorem ctCorrection_slews (up : s.upActive = true) (follows : s.follows s.activeUp = true) (stepped : s.chord.stepped = true)
    (within : (toInt 32 (s.fld F.CHORD_LOFFS_VALUE s.activeUp)).natAbs ≤ 16 * max 1 (s.fld F.CHORD_CFG_STEPTHR 0)) :
    Completes .ctCorrection s fun t =>
      t.ct = s.ct ∧ t.chord.slew = toInt 32 (s.fld F.CHORD_LOFFS_VALUE s.activeUp) ∧ s.OnlyIn [.chord] t := by
  refine ⟨s.updChord (fun c => { c with slew := toInt 32 (s.fld F.CHORD_LOFFS_VALUE s.activeUp) }), ?_, rfl, rfl,
    (State.updChord_via ..).onlyIn _ (by decide)⟩
  change execCtCorrection s = _
  simp [execCtCorrection, up, follows, stepped, within]

theorem ctCorrection_steps (up : s.upActive = true) (follows : s.follows s.activeUp = true) (stepped : s.chord.stepped = true)
    (beyond : 16 * max 1 (s.fld F.CHORD_CFG_STEPTHR 0) < (toInt 32 (s.fld F.CHORD_LOFFS_VALUE s.activeUp)).natAbs) :
    Completes .ctCorrection s fun t =>
      t.ct = ofInt 64 ((s.ct : Int) + toInt 32 (s.fld F.CHORD_LOFFS_VALUE s.activeUp) / 16)
        ∧ t.fld F.CHORD_CNT0_STEPS 0 = (s.fld F.CHORD_CNT0_STEPS 0 + 1) % 2 ^ 16 ∧ t.pends 156 = true := by
  let n := toInt 32 (s.fld F.CHORD_LOFFS_VALUE s.activeUp) / 16
  refine ⟨(s.ctStep s.sync n).offsetsGone s.activeUp, ?_, ?_, ?_, ?_⟩
  · change execCtCorrection s = _
    simp [execCtCorrection, up, follows, stepped, Nat.not_le.mpr beyond, n]
  · rw [State.offsetsGone_ct, s.ctStep_ct]
  · rw [State.offsetsGone_steps, s.ctStep_steps]
  · rw [State.offsetsGone_pends, s.ctStep_pends]

theorem ctCorrection_first (n : Int) (up : s.upActive = true) (follows : s.follows s.activeUp = true)
    (unstepped : s.chord.stepped = false) (first : (s.links.at s.activeUp).firstOffset = some n) :
    Completes .ctCorrection s fun t =>
      t.ct = ofInt 64 ((s.ct : Int) + n) ∧ t.chord.stepped = true
        ∧ t.fld F.CHORD_CNT0_STEPS 0 = (s.fld F.CHORD_CNT0_STEPS 0 + 1) % 2 ^ 16 := by
  refine ⟨((s.ctStep 2 n).updChord (fun c => { c with stepped := true })).offsetsGone s.activeUp, ?_, ?_, rfl, ?_⟩
  · change execCtCorrection s = _
    simp [execCtCorrection, up, follows, unstepped, first]
  · rw [State.offsetsGone_ct, State.updChord_ct, s.ctStep_ct]
  · rw [State.offsetsGone_steps, (State.updChord_via ..).fld _ 0 (by decide), s.ctStep_steps]

end

end Sys2Proof.Machine
end

section
/-! Locks, holdover, failover, ranges and CT_PPS (R88, R319, R325, R327 to R331). -/

namespace Sys2Proof.Machine

-- One proof at a time: a default argument `by decide` waits for the text before it, and each proof that waits takes a thread.
set_option Elab.async false

variable {s : State}

/-! ### Locks and holdover -/

theorem chordLock_locks (up : s.upActive = true) (parent : s.fld F.CHORD_LSTAT_PEERSYNC s.activeUp = 2)
    (recovered : s.on F.PMU_CLKSTAT_REF_ACTIVE 0 = true) (stepped : s.chord.stepped = true)
    (near : (toInt 32 (s.fld F.CHORD_LOFFS_VALUE s.activeUp)).natAbs ≤ 128) :
    Completes .chordLock s fun t =>
      t.sync = 2 ∧ t.chord.locked = true ∧ t.power.everLocked = true
        ∧ (s.power.everLocked = false → t.on F.RTC_STATUS_RTC_VALID 0 = true) := by
  have runs : exec .chordLock s = .next (State.setSync (if s.power.everLocked then s.updChord (fun c => { c with locked := true })
      else State.put { s.updChord (fun c => { c with locked := true }) with power := { s.power with everLocked := true } }
        F.RTC_STATUS_RTC_VALID 0 true) 2) := by
    change execChordLock s = _
    rw [execChordLock, if_pos (by simp [up, parent, recovered, stepped, near])]
    rfl
  refine ⟨_, runs, State.setSync_sync _ (by decide), ?_, ?_, fun first => ?_⟩
  · rw [State.setSync_chord]
    split <;> rfl
  · rw [State.setSync_power]
    split
    · assumption
    · rfl
  · rw [first, if_neg (by decide)]
    exact (State.setSync_alters _ 2).on _ 0 |>.trans (State.on_put_self _ 0 true rfl)

theorem apexLock_locks (apex : s.apex = true) (steady : s.on F.PMU_CLKSTAT_PLL_LOCK 0 = true) :
    Completes .apexLock s fun t =>
      t.sync = 2 ∧ (s.sync ≠ 2 → t.pends 156 = true) ∧ (s.sync = 2 → t = s) := by
  refine ⟨s.setSync 2, ?_, s.setSync_sync (by decide), s.setSync_pends, State.setSync_of_eq⟩
  change execApexLock s = _
  rw [execApexLock, apex, steady]
  rfl

theorem holdoverStart_holds (on : s.chordOn = true) (vertex : s.apex = false) (ever : s.chord.everActive = true)
    (free : s.on F.CHORD_STAT_HOLDOVER 0 = false) (failed : s.chord.active = false) :
    Completes .holdoverStart s fun t =>
      t.on F.CHORD_STAT_HOLDOVER 0 = true
        ∧ t.on F.PMU_CLKSTAT_REF_ACTIVE 0 = (s.on F.PMU_CLKSTAT_REF_ACTIVE 0 && !s.on F.PMU_CLKCTL_AUTO 0)
        ∧ t.chord.holdSince = some s.ct ∧ t.sync = s.sync := by
  let held := s.put F.CHORD_STAT_HOLDOVER 0 true
  let referred := if s.on F.PMU_CLKCTL_AUTO 0 then held.put F.PMU_CLKSTAT_REF_ACTIVE 0 false else held
  have runs : exec .holdoverStart s = .next (referred.updChord (fun c => { c with holdSince := some s.ct, slew := 0 })) := by
    change execHoldoverStart s = _
    rw [execHoldoverStart, if_pos (by simp [on, vertex, ever, free, failed])]
    dsimp only [referred]
    rw [← s.on_put_ne (f := F.CHORD_STAT_HOLDOVER) (g := F.PMU_CLKCTL_AUTO) 0 0 true (by decide)]
    split <;> rfl
  have holds : held.on F.CHORD_STAT_HOLDOVER 0 = true := s.on_put_self 0 true rfl
  have active : held.on F.PMU_CLKSTAT_REF_ACTIVE 0 = s.on F.PMU_CLKSTAT_REF_ACTIVE 0 := s.on_put_ne 0 0 true (by decide)
  have refers : Alters 0 [F.PMU_CLKSTAT_REF_ACTIVE] held referred := .ite (.put (.refl _)) (.refl _)
  refine ⟨_, runs, (refers.on F.CHORD_STAT_HOLDOVER 0).trans holds, ?_, ?_, ?_⟩
  · change referred.on F.PMU_CLKSTAT_REF_ACTIVE 0 = _
    cases auto : s.on F.PMU_CLKCTL_AUTO 0 with
    | true =>
      rw [show referred = held.put F.PMU_CLKSTAT_REF_ACTIVE 0 false from if_pos auto, held.on_put_self 0 false rfl, Bool.not_true,
        Bool.and_false]
    | false =>
      rw [show referred = held from if_neg (by rw [auto]; decide), active, Bool.not_false, Bool.and_true]
  · rfl
  · exact (refers F.CHORD_STAT_SYNC 0 (by decide)).trans (fld_setFld_ne _ _ _ _ (by decide))

theorem holdmaxExpiry_estimates (holds : s.on F.CHORD_STAT_HOLDOVER 0 = true) (locked : s.sync = 2) :
    Completes .holdmaxExpiry s fun t =>
      t.sync = 1 ∧ t.pends 156 = true ∧ t.on F.CHORD_STAT_HOLDOVER 0 = true := by
  let u := s.updChord (fun c => { c with locked := c.locked && c.active })
  have runs : exec .holdmaxExpiry s = .next ((u.setSync 1).raise (0x18 * 64 + 8) 0 0) := by
    change execHoldmaxExpiry s = _
    rw [execHoldmaxExpiry, holds, locked]
    rfl
  have raised : Alters 0 [] (u.setSync 1) ((u.setSync 1).raise (0x18 * 64 + 8) 0 0) := .via (.refl _) (State.raise_via ..)
  have other : u.sync ≠ 1 := fun one => absurd (one.symm.trans locked) (by decide)
  refine ⟨_, runs, (raised F.CHORD_STAT_SYNC 0 (by decide)).trans (u.setSync_sync (by decide)), ?_, ?_⟩
  · exact (State.bit_of_fld (raised F.IC_PEND_PEND _ (by decide)) _).trans (u.setSync_pends other)
  · exact (raised.on F.CHORD_STAT_HOLDOVER 0).trans (((u.setSync_alters 1).on _ 0).trans holds)

/-! ### Failover -/

theorem State.setLink_alters (s : State) (l st : Nat) : Alters (2 ^ 0 + 2 ^ 19) [F.CHORD_LSTAT_STATE] s (s.setLink l st) :=
  .via (.via (.setFld (.refl s)) (State.recRefresh_via ..)) (State.irq_via ..)

theorem State.setLink_linkState (s : State) (l st k : Nat) :
    (s.setLink l st).linkState k = (s.setFld F.CHORD_LSTAT_STATE l st).linkState k :=
  ((State.irq_via ..).fld _ k (by decide)).trans ((State.recRefresh_via ..).fld _ k (by decide))

theorem State.setLink_linkState_self (s : State) (l : Nat) {st : Nat} (code : st < 8) : (s.setLink l st).linkState l = st :=
  (s.setLink_linkState l st l).trans ((fld_setFld_self ..).trans (Nat.mod_eq_of_lt code))

theorem State.setLink_linkState_other (s : State) {l k : Nat} (st : Nat) (other : k ≠ l) :
    (s.setLink l st).linkState k = s.linkState k :=
  (s.setLink_linkState l st k).trans (fld_setFld_index _ _ other)

section
variable (s : State) (l : Nat)

/-- The up-link in use until now, when it is still UP, gives its range back and stands by (R329). -/
def State.otherStandsBy : State :=
  if s.linkState (1 - l) = 4 then
    (s.chordSend (.release (1 - l) (s.fld F.CHORD_RANGE_LO 0) (s.fld F.CHORD_RANGE_HI 0))).setLink (1 - l) 5
  else s

/-- Link `l` is the active up-link (R328). -/
def State.upLinkChosen : State :=
  let s := ((s.setLink l 4).setFld F.CHORD_STAT_ACTIVEUP 0 l).setFld F.CHORD_STAT_DEPTH 0 (s.fld F.CHORD_LSTAT_PEERDEPTH l + 1)
  let s := s.updChord (fun c => { c with active := true, everActive := true, chosen := true, holdSince := none })
  s.put F.CHORD_STAT_HOLDOVER 0 false

/-- The reference follows, the range goes up on the new path, and the failover is counted, logged and noticed (R63, R329). -/
def State.failoverTold : State :=
  let s := if s.on F.PMU_CLKCTL_AUTO 0 && !s.apex then s.put F.PMU_CLKSTAT_REF_ACTIVE 0 true else s
  let s := if s.on F.CHORD_STAT_ADDRESSED 0 then
      s.chordSend (.adopt l (s.fld F.CHORD_RANGE_LO 0) (s.fld F.CHORD_RANGE_HI 0) 1) else s
  let s := (s.incr F.CHORD_CNT0_FAILOVERS 0).logTime 3 (le 4 l)
  (s.notice 7 (s.sync + 4)).irq 156

theorem State.failTo_eq : s.failTo l = ((s.otherStandsBy l).upLinkChosen l).failoverTold l := rfl

theorem State.otherStandsBy_alters : Alters (2 ^ 0 + 2 ^ 19) [F.CHORD_LSTAT_STATE] s (s.otherStandsBy l) :=
  .ite (.trans (.via (.refl s) (State.chordSend_via ..)) (State.setLink_alters _ _ _)) (.refl s)

theorem State.upLinkChosen_alters :
    Alters (2 ^ 0 + 2 ^ 19) [F.CHORD_LSTAT_STATE, F.CHORD_STAT_ACTIVEUP, F.CHORD_STAT_DEPTH, F.CHORD_STAT_HOLDOVER] s
      (s.upLinkChosen l) :=
  .put (.via (.setFld (.setFld (s.setLink_alters l 4).mono)) (State.updChord_via ..))

theorem State.failoverTold_alters :
    Alters reportMask [F.PMU_CLKSTAT_REF_ACTIVE, F.CHORD_CNT0_FAILOVERS] s (s.failoverTold l) := by
  unfold State.failoverTold
  extract_lets s₁ s₂ s₃
  have referred : Alters reportMask [F.PMU_CLKSTAT_REF_ACTIVE, F.CHORD_CNT0_FAILOVERS] s s₁ := .ite (.put (.refl s)) (.refl s)
  have offered : Alters reportMask [F.PMU_CLKSTAT_REF_ACTIVE, F.CHORD_CNT0_FAILOVERS] s s₂ :=
    .ite (referred.via (State.chordSend_via ..)) referred
  exact .via (.via (.via (.incr offered) (State.logTime_via ..)) (State.notice_via ..)) (State.irq_via ..)

theorem State.failoverTold_active : (s.failoverTold l).chord.active = s.chord.active := by
  unfold State.failoverTold
  extract_lets s₁ s₂ s₃
  have told : ((s₃.notice 7 (s₃.sync + 4)).irq 156).chord = s₂.chord :=
    ((State.irq_via ..).chord (by decide)).trans
      (((State.notice_via ..).chord (by decide)).trans ((State.logTime_via ..).chord (by decide)))
  have offered : s₂.chord.active = s₁.chord.active := by
    dsimp only [s₂]
    split <;> rfl
  have referred : s₁.chord = s.chord := by
    dsimp only [s₁]
    split <;> rfl
  rw [told, offered, referred]

theorem State.failoverTold_failovers :
    (s.failoverTold l).fld F.CHORD_CNT0_FAILOVERS 0 = (s.fld F.CHORD_CNT0_FAILOVERS 0 + 1) % 2 ^ 16 := by
  unfold State.failoverTold
  extract_lets s₁ s₂ s₃
  have told : ((s₃.notice 7 (s₃.sync + 4)).irq 156).fld F.CHORD_CNT0_FAILOVERS 0
      = (s₂.incr F.CHORD_CNT0_FAILOVERS 0).fld F.CHORD_CNT0_FAILOVERS 0 :=
    ((State.irq_via ..).fld _ 0 (by decide)).trans
      (((State.notice_via ..).fld _ 0 (by decide)).trans ((State.logTime_via ..).fld _ 0 (by decide)))
  have referred : Alters 0 [F.PMU_CLKSTAT_REF_ACTIVE] s s₁ := .ite (.put (.refl s)) (.refl s)
  have offered : Alters 0 [F.PMU_CLKSTAT_REF_ACTIVE] s s₂ := .ite (referred.via (State.chordSend_via ..)) referred
  rw [told, ← offered F.CHORD_CNT0_FAILOVERS 0 (by decide)]
  exact fld_setFld_self ..

variable {l}

theorem State.otherStandsBy_linkState (up : s.linkState (1 - l) = 4) :
    (s.otherStandsBy l).linkState (1 - l) = 5 := by
  rw [State.otherStandsBy, if_pos up]
  exact State.setLink_linkState_self _ _ (by decide)

theorem State.upLinkChosen_chooses (link : l ≤ 1) :
    (s.upLinkChosen l).activeUp = l ∧ (s.upLinkChosen l).linkState l = 4 ∧ (s.upLinkChosen l).on F.CHORD_STAT_HOLDOVER 0 = false
      ∧ (s.upLinkChosen l).fld F.CHORD_STAT_DEPTH 0 = (s.fld F.CHORD_LSTAT_PEERDEPTH l + 1) % 2 ^ 4
      ∧ (s.upLinkChosen l).chord.active = true := by
  unfold State.upLinkChosen
  extract_lets s₁ s₂
  have code : l % 2 ^ 1 = l := by omega
  have deep : s₁.fld F.CHORD_STAT_DEPTH 0 = (s.fld F.CHORD_LSTAT_PEERDEPTH l + 1) % 2 ^ 4 := fld_setFld_self ..
  have up : s₁.fld F.CHORD_STAT_ACTIVEUP 0 = l :=
    (fld_setFld_ne _ _ _ _ (by decide)).trans ((fld_setFld_self ..).trans code)
  have state : s₁.fld F.CHORD_LSTAT_STATE l = 4 :=
    (fld_setFld_ne _ _ _ _ (by decide)).trans ((fld_setFld_ne _ _ _ _ (by decide)).trans (s.setLink_linkState_self l (by decide)))
  have ended : ∀ (f : Field) (i : Nat), f.id ≠ F.CHORD_STAT_HOLDOVER.id →
      (s₂.put F.CHORD_STAT_HOLDOVER 0 false).fld f i = s₁.fld f i := fun f i other =>
    (State.fld_put_ne s₂ 0 i false other).trans (fld_of_regs (State.updChord_regs ..) f i)
  exact ⟨(ended _ 0 (by decide)).trans up, (ended _ l (by decide)).trans state, State.on_put_self _ 0 false rfl,
    (ended _ 0 (by decide)).trans deep, rfl⟩

theorem State.upLinkChosen_linkState_other {k : Nat} (other : k ≠ l) : (s.upLinkChosen l).linkState k = s.linkState k := by
  unfold State.upLinkChosen
  extract_lets s₁ s₂
  have state : s₁.fld F.CHORD_LSTAT_STATE k = s.linkState k :=
    (fld_setFld_ne _ _ _ _ (by decide)).trans
      ((fld_setFld_ne _ _ _ _ (by decide)).trans (s.setLink_linkState_other 4 other))
  exact (State.fld_put_ne s₂ 0 k false (by decide)).trans ((fld_of_regs (State.updChord_regs ..) _ k).trans state)

/-- What a failover to link `l` leaves (R328, R329). -/
theorem State.failTo_takes (link : l ≤ 1) :
    (s.failTo l).activeUp = l ∧ (s.failTo l).linkState l = 4 ∧ (s.failTo l).on F.CHORD_STAT_HOLDOVER 0 = false
      ∧ (s.failTo l).fld F.CHORD_STAT_DEPTH 0 = (s.fld F.CHORD_LSTAT_PEERDEPTH l + 1) % 2 ^ 4
      ∧ (s.failTo l).fld F.CHORD_CNT0_FAILOVERS 0 = (s.fld F.CHORD_CNT0_FAILOVERS 0 + 1) % 2 ^ 16
      ∧ (s.failTo l).chord.active = true ∧ (s.linkState (1 - l) = 4 → (s.failTo l).linkState (1 - l) = 5) := by
  rw [s.failTo_eq l]
  have stands := s.otherStandsBy_alters l
  have chosen := (s.otherStandsBy l).upLinkChosen_alters l
  have told := ((s.otherStandsBy l).upLinkChosen l).failoverTold_alters l
  obtain ⟨active, up, hold, depth, used⟩ := (s.otherStandsBy l).upLinkChosen_chooses link
  refine ⟨(told _ 0 (by decide)).trans active, (told _ l (by decide)).trans up, (told.on _ 0).trans hold, ?_, ?_, ?_, fun was => ?_⟩
  · rw [told _ 0 (by decide), depth, stands _ l (by decide)]
  · rw [State.failoverTold_failovers, chosen _ 0 (by decide), stands _ 0 (by decide)]
  · rw [State.failoverTold_active, used]
  · have apart : 1 - l ≠ l := by omega
    exact (told _ _ (by decide)).trans
      ((State.upLinkChosen_linkState_other _ apart).trans (s.otherStandsBy_linkState was))

end

theorem failover_takes (on : s.chordOn = true) (vertex : s.apex = false) (ever : s.chord.everActive = true)
    (auto : s.on F.CHORD_CFG_AUTOFAIL 0 = true) (holds : s.on F.CHORD_STAT_HOLDOVER 0 = true) (stands : s.linkState (1 - s.activeUp) = 5)
    (good : s.failoverOk (1 - s.activeUp) = true) :
    Completes .failover s fun t =>
      t.activeUp = 1 - s.activeUp ∧ t.linkState (1 - s.activeUp) = 4 ∧ t.on F.CHORD_STAT_HOLDOVER 0 = false
        ∧ t.fld F.CHORD_STAT_DEPTH 0 = (s.fld F.CHORD_LSTAT_PEERDEPTH (1 - s.activeUp) + 1) % 2 ^ 4
        ∧ t.fld F.CHORD_CNT0_FAILOVERS 0 = (s.fld F.CHORD_CNT0_FAILOVERS 0 + 1) % 2 ^ 16 ∧ t.chord.active = true := by
  have runs : exec .failover s = .next (s.chordHush.failTo (1 - s.activeUp)) := by
    change execFailover s = _
    unfold execFailover
    extract_lets l
    rw [if_pos (by simp [on, vertex, ever, holds]), if_pos (by simp [State.standsBy, auto, stands, good, l])]
  obtain ⟨active, up, hold, depth, count, used, -⟩ := s.chordHush.failTo_takes (Nat.sub_le 1 s.activeUp)
  exact ⟨_, runs, active, up, hold, depth, count, used⟩

theorem revert_takes (on : s.chordOn = true) (vertex : s.apex = false) (reverts : s.on F.CHORD_CFG_REVERT 0 = true)
    (second : s.activeUp = 1) (stands : s.linkState 0 = 5) (good : s.failoverOk 0 = true) :
    Completes .revert s fun t =>
      t.activeUp = 0 ∧ t.linkState 0 = 4 ∧ (s.linkState 1 = 4 → t.linkState 1 = 5)
        ∧ t.fld F.CHORD_CNT0_FAILOVERS 0 = (s.fld F.CHORD_CNT0_FAILOVERS 0 + 1) % 2 ^ 16 := by
  have runs : exec .revert s = .next (s.chordHush.failTo 0) := by
    change execRevert s = _
    rw [execRevert, if_pos (by simp [on, vertex, reverts, second, stands, good])]
  obtain ⟨active, up, -, -, count, -, other⟩ := s.chordHush.failTo_takes (Nat.zero_le 1)
  exact ⟨_, runs, active, up, other, count⟩

/-! ### Adoptions -/

section
variable (s : State) (j lo hi l : Nat)

/-- Adoption entry `j` holds a range behind link `l` (R329). -/
def State.adopted : State :=
  (((s.setFld F.CHORD_ADOPTA_LO j lo).setFld F.CHORD_ADOPTA_HI j hi).put F.CHORD_ADOPTB_VALID j true).setFld
    F.CHORD_ADOPTB_LINK j l

theorem State.adopted_alters :
    Alters 0 [F.CHORD_ADOPTA_LO, F.CHORD_ADOPTA_HI, F.CHORD_ADOPTB_VALID, F.CHORD_ADOPTB_LINK] s (s.adopted j lo hi l) :=
  .setFld (.put (.setFld (.setFld (.refl s))))

theorem State.adopted_upActive : (s.adopted j lo hi l).upActive = s.upActive := by
  have d := s.adopted_alters j lo hi l
  refine State.upActive_congr ?_ (fun _ => d _ _ (by decide)) rfl
  simp only [List.forall_mem_cons]
  exact ⟨d _ 0 (by decide), d _ 0 (by decide), d _ 0 (by decide), by simp⟩

theorem State.adopted_activeUp : (s.adopted j lo hi l).activeUp = s.activeUp := s.adopted_alters j lo hi l _ 0 (by decide)

variable {s lo hi l}

theorem State.adopted_entry (low : lo < 65536) (high : hi < 65536) (link : l < 6) :
    (s.adopted j lo hi l).on F.CHORD_ADOPTB_VALID j = true ∧ (s.adopted j lo hi l).fld F.CHORD_ADOPTA_LO j = lo
      ∧ (s.adopted j lo hi l).fld F.CHORD_ADOPTA_HI j = hi ∧ (s.adopted j lo hi l).fld F.CHORD_ADOPTB_LINK j = l := by
  refine ⟨(State.on_setFld_ne _ _ _ _ (by decide)).trans (State.on_put_self _ j true rfl), ?_, ?_, ?_⟩
  · refine (fld_setFld_ne _ _ _ _ (by decide)).trans ((State.fld_put_ne _ _ _ _ (by decide)).trans ?_)
    exact (fld_setFld_ne _ _ _ _ (by decide)).trans ((fld_setFld_self ..).trans (Nat.mod_eq_of_lt low))
  · refine (fld_setFld_ne _ _ _ _ (by decide)).trans ((State.fld_put_ne _ _ _ _ (by decide)).trans ?_)
    exact (fld_setFld_self ..).trans (Nat.mod_eq_of_lt high)
  · exact (fld_setFld_self ..).trans (Nat.mod_eq_of_lt (show l < 8 by omega))

end

theorem exec_adoptFrame {l lo hi hops j : Nat} (on : s.chordOn = true) (down : 2 ≤ l) (link : l < 6)
    (fresh : (List.range 16).find? (fun j => s.on F.CHORD_ADOPTB_VALID j && decide (s.fld F.CHORD_ADOPTA_LO j = lo)
      && decide (s.fld F.CHORD_ADOPTA_HI j = hi)) = none)
    (spare : (List.range 16).find? (fun j => !s.on F.CHORD_ADOPTB_VALID j) = some j) :
    exec (.adoptFrame l lo hi hops) s = .next
      (if (s.fld F.CHORD_RANGE_LO 0 ≤ lo ∧ hi ≤ s.fld F.CHORD_RANGE_HI 0) ∨ !s.upActive then s.chordHush.adopted j lo hi l
        else (s.chordHush.adopted j lo hi l).chordSend (.adopt s.activeUp lo hi (hops + 1))) := by
  have entered := s.chordHush.adopted_alters j lo hi l
  have active : (s.chordHush.adopted j lo hi l).upActive = s.upActive := s.chordHush.adopted_upActive j lo hi l
  have up : (s.chordHush.adopted j lo hi l).activeUp = s.activeUp := s.chordHush.adopted_activeUp j lo hi l
  have rangeLo : (s.chordHush.adopted j lo hi l).fld F.CHORD_RANGE_LO 0 = s.fld F.CHORD_RANGE_LO 0 := entered _ 0 (by decide)
  have rangeHi : (s.chordHush.adopted j lo hi l).fld F.CHORD_RANGE_HI 0 = s.fld F.CHORD_RANGE_HI 0 := entered _ 0 (by decide)
  change execAdoptFrame l lo hi hops s = _
  unfold execAdoptFrame
  rw [if_pos (by simp [on, down, link]), ← active, ← up, ← rangeLo, ← rangeHi]
  extract_lets s₁ same free
  have none : same = none := fresh
  have some : free = some j := spare
  rw [none, some]
  rfl

theorem adoptFrame_enters {l lo hi hops j : Nat} (on : s.chordOn = true) (down : 2 ≤ l) (link : l < 6) (low : lo < 65536)
    (high : hi < 65536)
    (fresh : (List.range 16).find? (fun j => s.on F.CHORD_ADOPTB_VALID j && decide (s.fld F.CHORD_ADOPTA_LO j = lo)
      && decide (s.fld F.CHORD_ADOPTA_HI j = hi)) = none)
    (spare : (List.range 16).find? (fun j => !s.on F.CHORD_ADOPTB_VALID j) = some j) :
    Completes (.adoptFrame l lo hi hops) s fun t =>
      t.on F.CHORD_ADOPTB_VALID j = true ∧ t.fld F.CHORD_ADOPTA_LO j = lo ∧ t.fld F.CHORD_ADOPTA_HI j = hi
        ∧ t.fld F.CHORD_ADOPTB_LINK j = l
        ∧ ((s.fld F.CHORD_RANGE_LO 0 ≤ lo ∧ hi ≤ s.fld F.CHORD_RANGE_HI 0) → t.chord.out = [])
        ∧ ((lo < s.fld F.CHORD_RANGE_LO 0 ∨ s.fld F.CHORD_RANGE_HI 0 < hi) → s.upActive = true →
          t.chord.out = [.adopt s.activeUp lo hi (hops + 1)]) := by
  obtain ⟨valid, first, last, behind⟩ := State.adopted_entry (s := s.chordHush) j low high link
  refine ⟨_, exec_adoptFrame on down link fresh spare, ?_⟩
  split
  · next within =>
    refine ⟨valid, first, last, behind, fun _ => rfl, fun outside up => ?_⟩
    rcases within with ⟨_, _⟩ | idle
    · omega
    · rw [up] at idle
      cases idle
  · next outside => exact ⟨valid, first, last, behind, fun within => absurd (.inl within) outside, fun _ _ => rfl⟩

/-- The entry itself, before RELEASE goes up. -/
def State.adoptionCleared (s : State) (j : Nat) : State :=
  (((s.setFld F.CHORD_ADOPTA_LO j 0).setFld F.CHORD_ADOPTA_HI j 0).put F.CHORD_ADOPTB_VALID j false).setFld F.CHORD_ADOPTB_LINK j 0

theorem State.adoptRemove_fld (s : State) (j : Nat) (f : Field) (i : Nat) :
    (s.adoptRemove j).fld f i = (s.adoptionCleared j).fld f i := by
  unfold State.adoptRemove
  extract_lets lo hi s₁ s₂
  split <;> rfl

theorem State.adoptRemove_other (s : State) {j k : Nat} (f : Field) (other : k ≠ j) : (s.adoptRemove j).fld f k = s.fld f k := by
  have apart : ∀ g : Field, ¬ (f.id = g.id ∧ k = j) := fun g h => other h.2
  refine (s.adoptRemove_fld j f k).trans ((fld_setFld_other _ _ _ _ (apart _)).trans ((fld_setFld_other _ _ _ _ (apart _)).trans ?_))
  exact (fld_setFld_other _ _ _ _ (apart _)).trans (fld_setFld_other _ _ _ _ (apart _))

theorem State.adoptRemove_entry (s : State) (j : Nat) :
    (s.adoptRemove j).on F.CHORD_ADOPTB_VALID j = false ∧ (s.adoptRemove j).fld F.CHORD_ADOPTA_HI j = 0 := by
  constructor
  · refine (State.on_of_fld (s.adoptRemove_fld j _ j)).trans ?_
    exact (State.on_setFld_ne _ _ _ _ (by decide)).trans (State.on_put_self _ j false rfl)
  · refine (s.adoptRemove_fld j _ j).trans ((fld_setFld_ne _ _ _ _ (by decide)).trans ?_)
    exact (State.fld_put_ne _ _ _ _ (by decide)).trans (fld_setFld_self ..)

theorem State.each_adoptRemove_kept (s : State) {xs : List Nat} {k : Nat} (f : Field) (out : k ∉ xs) :
    (s.each xs State.adoptRemove).fld f k = s.fld f k := by
  induction xs generalizing s with
  | nil => rfl
  | cons x xs ih =>
    rw [List.mem_cons, not_or] at out
    exact (ih (s.adoptRemove x) out.2).trans (s.adoptRemove_other f out.1)

theorem State.each_adoptRemove_gone (s : State) {xs : List Nat} {k : Nat} (listed : k ∈ xs) :
    (s.each xs State.adoptRemove).on F.CHORD_ADOPTB_VALID k = false ∧ (s.each xs State.adoptRemove).fld F.CHORD_ADOPTA_HI k = 0 := by
  induction xs generalizing s with
  | nil => cases listed
  | cons x xs ih =>
    by_cases later : k ∈ xs
    · exact ih (s.adoptRemove x) later
    · obtain rfl : k = x := (List.mem_cons.mp listed).resolve_right later
      obtain ⟨valid, last⟩ := s.adoptRemove_entry k
      exact ⟨(State.on_of_fld (State.each_adoptRemove_kept _ _ later)).trans valid,
        (State.each_adoptRemove_kept _ _ later).trans last⟩

theorem releaseFrame_removes {l lo hi j : Nat} (on : s.chordOn = true) (down : 2 ≤ l) (link : l < 6) (entry : j < 16)
    (adopted : s.adoptedOn l j = true) (first : s.fld F.CHORD_ADOPTA_LO j = lo) (last : s.fld F.CHORD_ADOPTA_HI j = hi) :
    Completes (.releaseFrame l lo hi) s fun t =>
      t.on F.CHORD_ADOPTB_VALID j = false ∧ t.fld F.CHORD_ADOPTA_HI j = 0
        ∧ (∀ k ∈ List.range 16, (s.adoptedOn l k = false ∨ s.fld F.CHORD_ADOPTA_LO k ≠ lo ∨ s.fld F.CHORD_ADOPTA_HI k ≠ hi) →
          t.on F.CHORD_ADOPTB_VALID k = s.on F.CHORD_ADOPTB_VALID k) := by
  let listed := (List.range 16).filter (fun j =>
    s.adoptedOn l j && decide (s.fld F.CHORD_ADOPTA_LO j = lo) && decide (s.fld F.CHORD_ADOPTA_HI j = hi))
  have runs : exec (.releaseFrame l lo hi) s = .next (s.chordHush.each listed State.adoptRemove) := by
    change execReleaseFrame l lo hi s = _
    rw [execReleaseFrame, if_pos (by simp [on, down, link])]
  have member : j ∈ listed := List.mem_filter.mpr ⟨List.mem_range.mpr entry, by simp [adopted, first, last]⟩
  obtain ⟨valid, top⟩ := s.chordHush.each_adoptRemove_gone member
  refine ⟨_, runs, valid, top, fun k _ other => ?_⟩
  refine State.on_of_fld (State.each_adoptRemove_kept s.chordHush _ fun member => ?_)
  have matched := (List.mem_filter.mp member).2
  simp only [Bool.and_eq_true, decide_eq_true_eq] at matched
  obtain ⟨⟨taken, low⟩, high⟩ := matched
  rcases other with free | below | above
  · rw [taken] at free
    cases free
  · exact below low
  · exact above high

/-! ### Ranges -/

section
variable (s : State) (lo hi d : Nat)

/-- The unit's own range and address (R319). -/
def State.ranged : State :=
  let ok := decide (lo ≤ hi)
  let s := (s.setFld F.CHORD_RANGE_LO 0 (if ok then lo else 0)).setFld F.CHORD_RANGE_HI 0 (if ok then hi else 0)
  (s.setFld F.CHORD_STAT_ADDR 0 (if ok then lo else 0)).put F.CHORD_STAT_ADDRESSED 0 ok

/-- What AUTO gives down-link `d` of a range (R319). -/
def State.downRange (lo hi : Nat) (s : State) (d : Nat) : State :=
  let q := (hi - lo) / 4
  let a := lo + 1 + d * q
  let b := if d = 3 then hi else lo + (d + 1) * q
  let empty := decide (b < a) || !s.on F.CHORD_STAT_ADDRESSED 0
  (s.setFld F.CHORD_DNRANGE_DNLO d (if empty then 0xFFFF else a)).setFld F.CHORD_DNRANGE_DNHI d (if empty then 0 else b)

theorem State.autoRanges_eq : s.autoRanges = if s.on F.CHORD_CFG_RANGEMODE 0 then s else
    s.each [0, 1, 2, 3] (State.downRange (s.fld F.CHORD_RANGE_LO 0) (s.fld F.CHORD_RANGE_HI 0)) := rfl

theorem State.downRange_alters :
    Alters 0 [F.CHORD_DNRANGE_DNLO, F.CHORD_DNRANGE_DNHI] s (State.downRange lo hi s d) := .setFld (.setFld (.refl s))

theorem State.autoRanges_alters : Alters 0 [F.CHORD_DNRANGE_DNLO, F.CHORD_DNRANGE_DNHI] s s.autoRanges := by
  rw [State.autoRanges_eq]
  exact .ite (.refl s) (.each (.refl s) fun s d => s.downRange_alters _ _ d)

theorem State.setRange_fld (f : Field) (i : Nat) (outside : writable 0 [F.CHORD_DNRANGE_DNLO, F.CHORD_DNRANGE_DNHI] f = false) :
    (s.setRange lo hi).fld f i = (s.ranged lo hi).fld f i :=
  have auto : Alters 0 [F.CHORD_DNRANGE_DNLO, F.CHORD_DNRANGE_DNHI] (s.ranged lo hi) (s.setRange lo hi) :=
    .via (State.autoRanges_alters _) (State.identAgain_via ..)
  auto f i outside

theorem State.ranged_rangeMode : (s.ranged lo hi).on F.CHORD_CFG_RANGEMODE 0 = s.on F.CHORD_CFG_RANGEMODE 0 :=
  have d : Alters 0 [F.CHORD_RANGE_LO, F.CHORD_RANGE_HI, F.CHORD_STAT_ADDR, F.CHORD_STAT_ADDRESSED] s (s.ranged lo hi) :=
    .put (.setFld (.setFld (.setFld (.refl s))))
  d.on _ 0

theorem State.ranged_fields (low : lo < 65536) (high : hi < 65536) :
    (s.ranged lo hi).fld F.CHORD_RANGE_LO 0 = (if lo ≤ hi then lo else 0)
      ∧ (s.ranged lo hi).fld F.CHORD_RANGE_HI 0 = (if lo ≤ hi then hi else 0)
      ∧ (s.ranged lo hi).fld F.CHORD_STAT_ADDR 0 = (if lo ≤ hi then lo else 0)
      ∧ (s.ranged lo hi).on F.CHORD_STAT_ADDRESSED 0 = decide (lo ≤ hi) := by
  have word : ∀ x, x < 65536 → (if decide (lo ≤ hi) = true then x else 0) % 2 ^ 16 = if lo ≤ hi then x else 0 := by
    intro x small
    simp only [decide_eq_true_eq]
    exact Nat.mod_eq_of_lt (by split <;> omega)
  refine ⟨?_, ?_, ?_, State.on_put_self _ 0 _ rfl⟩
  · refine (State.fld_put_ne _ 0 0 _ (by decide)).trans ((fld_setFld_ne _ _ _ _ (by decide)).trans ?_)
    exact (fld_setFld_ne _ _ _ _ (by decide)).trans ((fld_setFld_self ..).trans (word lo low))
  · refine (State.fld_put_ne _ 0 0 _ (by decide)).trans ((fld_setFld_ne _ _ _ _ (by decide)).trans ?_)
    exact (fld_setFld_self ..).trans (word hi high)
  · exact (State.fld_put_ne _ 0 0 _ (by decide)).trans ((fld_setFld_self ..).trans (word lo low))

variable {s lo hi d}

theorem State.downRange_other {k : Nat} (f : Field) (other : k ≠ d) : (State.downRange lo hi s d).fld f k = s.fld f k :=
  (fld_setFld_other _ _ _ _ fun h => other h.2).trans (fld_setFld_other _ _ _ _ fun h => other h.2)

theorem State.downRange_dnlo (addressed : s.on F.CHORD_STAT_ADDRESSED 0 = true) (room : lo + 4 ≤ hi) (high : hi < 65536) :
    (State.downRange lo hi s 0).fld F.CHORD_DNRANGE_DNLO 0 = lo + 1 := by
  refine (fld_setFld_ne _ _ _ _ (by decide)).trans ((fld_setFld_self ..).trans ?_)
  rw [if_neg (by simp [addressed]; omega)]
  exact (Nat.mod_eq_of_lt (show lo + 1 + 0 * _ < 65536 by omega)).trans (by omega)

theorem State.downRange_dnhi (addressed : s.on F.CHORD_STAT_ADDRESSED 0 = true) (room : lo + 4 ≤ hi) (high : hi < 65536) :
    (State.downRange lo hi s 3).fld F.CHORD_DNRANGE_DNHI 3 = hi := by
  refine (fld_setFld_self ..).trans ?_
  rw [if_neg (by simp [addressed]; omega), if_pos rfl]
  exact Nat.mod_eq_of_lt high

theorem State.autoRanges_split (auto : s.on F.CHORD_CFG_RANGEMODE 0 = false) (addressed : s.on F.CHORD_STAT_ADDRESSED 0 = true)
    (first : s.fld F.CHORD_RANGE_LO 0 = lo) (last : s.fld F.CHORD_RANGE_HI 0 = hi) (room : lo + 4 ≤ hi) (high : hi < 65536) :
    s.autoRanges.fld F.CHORD_DNRANGE_DNLO 0 = lo + 1 ∧ s.autoRanges.fld F.CHORD_DNRANGE_DNHI 3 = hi := by
  rw [State.autoRanges_eq, auto, if_neg (by decide), first, last]
  constructor
  · refine (State.downRange_other _ (by decide)).trans ((State.downRange_other _ (by decide)).trans ?_)
    exact (State.downRange_other _ (by decide)).trans (State.downRange_dnlo addressed room high)
  · refine State.downRange_dnhi ?_ room high
    exact ((State.downRange_alters _ lo hi 2).on _ 0).trans
      (((State.downRange_alters _ lo hi 1).on _ 0).trans (((s.downRange_alters lo hi 0).on _ 0).trans addressed))

end

theorem exec_rangeChange {lo hi : Nat} (vertex : s.apex = false) (low : lo < 65536) (high : hi < 65536) :
    exec (.rangeChange lo hi) s = .next (s.chordHush.setRange lo hi) := by
  change execRangeChange lo hi s = _
  rw [execRangeChange, vertex, Nat.mod_eq_of_lt low, Nat.mod_eq_of_lt high]
  rfl

theorem rangeChange_ranges {lo hi : Nat} (vertex : s.apex = false) (low : lo < 65536) (high : hi < 65536) (range : lo ≤ hi) :
    Completes (.rangeChange lo hi) s fun t =>
      t.fld F.CHORD_RANGE_LO 0 = lo ∧ t.fld F.CHORD_RANGE_HI 0 = hi ∧ t.fld F.CHORD_STAT_ADDR 0 = lo
        ∧ t.on F.CHORD_STAT_ADDRESSED 0 = true
        ∧ (s.on F.CHORD_CFG_RANGEMODE 0 = false → lo + 4 ≤ hi →
          t.fld F.CHORD_DNRANGE_DNLO 0 = lo + 1 ∧ t.fld F.CHORD_DNRANGE_DNHI 3 = hi) := by
  obtain ⟨first, last, address, addressed⟩ := s.chordHush.ranged_fields lo hi low high
  rw [if_pos range] at first last address
  rw [decide_eq_true range] at addressed
  refine ⟨_, exec_rangeChange vertex low high, ?_, ?_, ?_, ?_, fun auto room => ?_⟩
  · rw [State.setRange_fld _ _ _ _ _ (by decide), first]
  · rw [State.setRange_fld _ _ _ _ _ (by decide), last]
  · rw [State.setRange_fld _ _ _ _ _ (by decide), address]
  · exact (State.on_of_fld (State.setRange_fld _ _ _ _ _ (by decide))).trans addressed
  · have mode := (s.chordHush.ranged_rangeMode lo hi).trans auto
    obtain ⟨lowest, highest⟩ := State.autoRanges_split mode addressed first last room high
    exact ⟨((State.identAgain_via ..).fld _ 0 (by decide)).trans lowest,
      ((State.identAgain_via ..).fld _ 3 (by decide)).trans highest⟩

theorem rangeChange_empties {lo hi : Nat} (vertex : s.apex = false) (low : lo < 65536) (high : hi < 65536) (empty : hi < lo) :
    Completes (.rangeChange lo hi) s fun t =>
      t.on F.CHORD_STAT_ADDRESSED 0 = false ∧ t.fld F.CHORD_STAT_ADDR 0 = 0 ∧ t.fld F.CHORD_RANGE_LO 0 = 0
        ∧ t.fld F.CHORD_RANGE_HI 0 = 0 := by
  obtain ⟨first, last, address, addressed⟩ := s.chordHush.ranged_fields lo hi low high
  have none : ¬ lo ≤ hi := Nat.not_le.mpr empty
  rw [if_neg none] at first last address
  rw [decide_eq_false none] at addressed
  refine ⟨_, exec_rangeChange vertex low high, ?_, ?_, ?_, ?_⟩
  · exact (State.on_of_fld (State.setRange_fld _ _ _ _ _ (by decide))).trans addressed
  · rw [State.setRange_fld _ _ _ _ _ (by decide), address]
  · rw [State.setRange_fld _ _ _ _ _ (by decide), first]
  · rw [State.setRange_fld _ _ _ _ _ (by decide), last]

/-! ### CT_PPS -/

/-- The CT at which CT_PPS next rises: a multiple of a period, this tick's where it has not risen yet (R331). -/
def State.ppsNext (s : State) (period : Nat) : Nat :=
  if s.ct % period = 0 ∧ s.chord.ppsCt ≠ some s.ct then s.ct else (s.ct / period + 1) * period

theorem State.ppsNext_spec (s : State) {period : Nat} (pos : 0 < period) :
    s.ppsNext period % period = 0 ∧ s.ct ≤ s.ppsNext period ∧ s.ppsNext period ≤ s.ct + period := by
  have parts := Nat.div_add_mod s.ct period
  have rest := Nat.mod_lt s.ct pos
  unfold State.ppsNext
  split
  · next whole => exact ⟨whole.1, le_rfl, by omega⟩
  · rw [Nat.add_mul, Nat.one_mul, Nat.mul_comm (s.ct / period)]
    exact ⟨by simp, by omega, by omega⟩

theorem clamp_bounds {lo hi : Nat} (x : Nat) (range : lo ≤ hi) : lo ≤ clamp lo hi x ∧ clamp lo hi x ≤ hi := by
  unfold clamp
  split_ifs <;> omega

theorem ctPpsEdge_rises (driven : s.ppsDriven = true) (room : s.ct < 2 ^ 63) :
    Completes .ctPpsEdge s fun t =>
      t.chord.ppsCt = some t.ct ∧ t.ct % (960000 * clamp 1 1000 (s.fld F.CHORD_PPS_PERIOD 0)) = 0 ∧ s.ct ≤ t.ct
        ∧ t.ct ≤ s.ct + 960000 * clamp 1 1000 (s.fld F.CHORD_PPS_PERIOD 0) ∧ t.ppsLevel = true := by
  have bounds := clamp_bounds (s.fld F.CHORD_PPS_PERIOD 0) (show 1 ≤ 1000 by decide)
  generalize given : 960000 * clamp 1 1000 (s.fld F.CHORD_PPS_PERIOD 0) = period
  have runs : exec .ctPpsEdge s = .next ((s.advance (s.ppsNext period - s.ct)).updChord
      (fun c => { c with ppsCt := some (s.ppsNext period) })) := by
    rw [← given]
    change execCtPpsEdge s = _
    rw [execCtPpsEdge, driven]
    rfl
  obtain ⟨whole, ahead, near⟩ := s.ppsNext_spec (show 0 < period by omega)
  have arrives : ∀ f : ChordHw → ChordHw, ((s.advance (s.ppsNext period - s.ct)).updChord f).ct = s.ppsNext period := fun f =>
    (congrArg (· % 2 ^ 64) (Nat.add_sub_cancel' ahead)).trans (Nat.mod_eq_of_lt (by omega))
  refine ⟨_, runs, ?_, ?_, ?_, ?_, ?_⟩
  · rw [arrives]
    rfl
  · rw [arrives, whole]
  · rwa [arrives]
  · rwa [arrives]
  · unfold State.ppsLevel
    rw [arrives, Bool.and_eq_true]
    exact ⟨driven, decide_eq_true ⟨le_rfl, by omega⟩⟩

end Sys2Proof.Machine
end

section
/-! Markers on down-links: a microsecond begins, and a waiting step of CT happens (R101, R321, R456). -/

namespace Sys2Proof.Machine

-- One proof at a time: a default argument `by decide` waits for the text before it, and each proof that waits takes a thread.
set_option Elab.async false

variable {s : State}

/-! ### A waiting TIME_SET -/

theorem State.ctMoved_timeSet (s : State) (n : Int) : (s.ctMoved n).chord.timeSet = s.chord.timeSet := rfl

theorem State.ctMoved_out (s : State) (n : Int) : (s.ctMoved n).chord.out = s.chord.out := rfl

theorem State.markerDue_of_none (idle : s.chord.timeSet = none) : s.markerDue = s := by
  rw [State.markerDue, idle]

/-- Firmware rewrites the epoch (R456). -/
def State.epochWritten (s : State) (e : Nat) : State :=
  (s.setFld64 F.RTC_EPOCH_LO_EPOCH F.RTC_EPOCH_HI_EPOCH 0 e).put F.RTC_STATUS_RTC_VALID 0 true

/-- SYNC and the record that follow the new epoch (R456). -/
def State.epochTold (s : State) (e : Nat) : State := (if s.apex then s else s.setSync 1).logTime 5 (le 8 e)

theorem State.epochWritten_chord (s : State) (e : Nat) : (s.epochWritten e).chord = s.chord := rfl

theorem State.epochTold_chord (s : State) (e : Nat) : (s.epochTold e).chord = s.chord := by
  refine ((State.logTime_via ..).chord (by decide)).trans ?_
  split
  · rfl
  · exact s.setSync_chord 1

theorem State.markerDue_chord (s : State) : s.markerDue.chord.timeSet = none ∧ s.markerDue.chord.out = s.chord.out := by
  unfold State.markerDue
  split
  · next idle => exact ⟨idle, rfl⟩
  · next signed v waits =>
    extract_lets n s₁ e
    have moved : s₁.chord = ((s.updChord fun c => { c with timeSet := none }).ctMoved n).chord := State.ctStep_chord _ _ _
    have stepped : (s₁.epochWritten e).chord.timeSet = none ∧ (s₁.epochWritten e).chord.out = s.chord.out := by
      rw [State.epochWritten_chord, moved, State.ctMoved_timeSet, State.ctMoved_out]
      exact ⟨rfl, rfl⟩
    change ((s₁.epochWritten e).epochTold e).chord.timeSet = none ∧ ((s₁.epochWritten e).epochTold e).chord.out = s.chord.out
    rw [State.epochTold_chord]
    exact stepped

/-! ### What applied fields leave: the writes that wait, and a waiting TIME_SET -/

section
variable (s : State)

theorem State.each_timeSet {g : State → Nat → State} (h : ∀ s n, (g s n).chord.timeSet = s.chord.timeSet) (l : List Nat) :
    (s.each l g).chord.timeSet = s.chord.timeSet := by
  induction l generalizing s with
  | nil => rfl
  | cons n l ih => exact (ih (g s n)).trans (h s n)

theorem State.updChord_timeSet {f : ChordHw → ChordHw} (h : (f s.chord).timeSet = s.chord.timeSet) :
    (s.updChord f).chord.timeSet = s.chord.timeSet := h

theorem State.identAgain_timeSet (l : List Nat) : (s.identAgain l).chord.timeSet = s.chord.timeSet :=
  s.each_timeSet (g := State.sendIdent) (fun _ _ => rfl) _

theorem State.adoptRemove_timeSet (j : Nat) : (s.adoptRemove j).chord.timeSet = s.chord.timeSet := by
  unfold State.adoptRemove
  extract_lets lo hi s₁ s₂
  split <;> rfl

theorem State.linkFail_timeSet (l : Nat) : (s.linkFail l).chord.timeSet = s.chord.timeSet := by
  unfold State.linkFail
  split
  · rfl
  · extract_lets s₁ s₂ s₃ s₄
    have down : s₁.chord = s.chord :=
      ((State.raise_via ..).chord (by decide)).trans
        ((State.setFld_chord ..).trans ((State.setLink_via s l 0).chord (by decide)))
    have forgotten : s₃.chord = s₁.chord := by
      rw [(State.updLink_via ..).chord (by decide), State.setFld_chord, State.setFld_chord]
    have idle : s₄.chord.timeSet = s₃.chord.timeSet := by
      dsimp only [s₄]
      split
      · exact State.updChord_timeSet s₃ rfl
      · rfl
    refine (s₄.each_timeSet (fun s j => s.adoptRemove_timeSet j) _).trans (idle.trans ?_)
    exact congrArg ChordHw.timeSet (forgotten.trans down)

theorem State.linkEnable_timeSet (l : Nat) (b : Bool) : (s.linkEnable l b).chord.timeSet = s.chord.timeSet := by
  cases b
  · exact State.linkFail_timeSet _ l
  · rfl

theorem State.ppsSettle_timeSet : s.ppsSettle.chord.timeSet = s.chord.timeSet := by
  unfold State.ppsSettle
  split <;> rfl

theorem State.serviceApplied_timeSet (f : Field) (i v : Nat) : (s.serviceApplied f i v).chord.timeSet = s.chord.timeSet := by
  have other : ∀ {t : State} {m : Nat}, Via m s t → m.testBit 49 = false → t.chord.timeSet = s.chord.timeSet :=
    fun d h => congrArg ChordHw.timeSet (d.chord h)
  have hushed : s.chordHush.autoRanges.chord.timeSet = s.chord.timeSet :=
    (congrArg ChordHw.timeSet ((State.autoRanges_via s.chordHush).chord (by decide))).trans rfl
  unfold State.serviceApplied
  split_ifs
  · exact s.linkEnable_timeSet i _
  · exact (State.identAgain_timeSet _ _).trans hushed
  · exact State.identAgain_timeSet _ _
  · exact s.ppsSettle_timeSet
  · exact other (State.tatShow_via s) (by decide)
  · exact congrArg ChordHw.timeSet ((State.readyRefresh_via (s.putBit F.IC_PEND_PEND 0 0 false)).chord (by decide))
  · exact other (State.readyRefresh_via s) (by decide)
  · exact other (State.coreReset_via ..) (by decide)
  · exact other (State.updCore_via ..) (by decide)
  · exact other (State.fcApplied_via ..) (by decide)
  · rfl

theorem State.applied_timeSet (old : State) (f : Field) (i v : Nat) : (s.applied old f i v).chord.timeSet = s.chord.timeSet := by
  unfold State.applied
  extract_lets filter s₁
  have filtered : s₁.chord = s.chord := by
    dsimp only [s₁]
    split
    · exact (State.filterChanged_via ..).chord (by decide)
    · rfl
  have quince : (s₁.quinceApplied old f i v).chord = s₁.chord := (State.quinceApplied_via ..).chord (by decide)
  have port : ∀ u : State, (u.portApplied f i v).chord = u.chord := fun u => (State.portApplied_via ..).chord (by decide)
  rw [port, State.serviceApplied_timeSet, quince, filtered]

theorem State.applied_staged (old : State) (f : Field) (i v : Nat) : (s.applied old f i v).staged = s.staged := by
  unfold State.applied
  extract_lets filter s₁
  have filtered : s₁.staged = s.staged := by
    dsimp only [s₁]
    split
    · exact (State.filterChanged_via ..).staged (by decide)
    · rfl
  have quince : (s₁.quinceApplied old f i v).staged = s₁.staged := (State.quinceApplied_via ..).staged (by decide)
  have service : ∀ u : State, (u.serviceApplied f i v).staged = u.staged := fun u => (State.serviceApplied_via ..).staged (by decide)
  have port : ∀ u : State, (u.portApplied f i v).staged = u.staged := fun u => (State.portApplied_via ..).staged (by decide)
  rw [port, service, quince, filtered]

/-- A value that every step of a fold keeps. -/
theorem foldl_kept {α β : Type} {g : State → α → State} (view : State → β) (h : ∀ t x, view (g t x) = view t) (l : List α)
    (t : State) : view (l.foldl g t) = view t := by
  induction l generalizing t with
  | nil => rfl
  | cons x l ih => exact (ih (g t x)).trans (h t x)

variable (hw : List HwChange) (l : List Staged)

/-- One field of a group takes its value and is no longer pending. -/
def State.taken (t : State) (x : Staged) : State := (if s.ignores x.field x.index then t else t.takeWrite hw x).unstage x

theorem State.applyAll_eq : s.applyAll hw l =
    (l.filter (s.wins hw)).foldl (fun t x => t.applied s x.field x.index x.value) (l.foldl (s.taken hw) s) := rfl

theorem State.taken_chord (t : State) (x : Staged) : (s.taken hw t x).chord = t.chord := by
  have written : (if s.ignores x.field x.index then t else t.takeWrite hw x).chord = t.chord := by
    split
    · rfl
    · exact (State.takeWrite_via ..).chord (by decide)
  exact written

theorem State.taken_staged (t : State) (x : Staged) :
    (s.taken hw t x).staged = t.staged.filter (fun y => !(y.field.id == x.field.id && y.index == x.index)) := by
  have written : (if s.ignores x.field x.index then t else t.takeWrite hw x).staged = t.staged := by
    split
    · rfl
    · exact (State.takeWrite_via ..).staged (by decide)
  exact congrArg (List.filter _) written

theorem State.applyAll_timeSet : (s.applyAll hw l).chord.timeSet = s.chord.timeSet := by
  rw [s.applyAll_eq]
  have follows : ∀ (t : State) (x : Staged), (t.applied s x.field x.index x.value).chord.timeSet = t.chord.timeSet := fun t x =>
    t.applied_timeSet s x.field x.index x.value
  exact (foldl_kept (fun t => t.chord.timeSet) follows _ _).trans
    (congrArg ChordHw.timeSet (foldl_kept State.chord (s.taken_chord hw) l s))

/-- A write of a group is over for its field once the group has applied (R101). -/
theorem State.foldl_taken_staged {x : Staged} (t : State) (stands : x ∈ (l.foldl (s.taken hw) t).staged) :
    x ∈ t.staged ∧ ∀ y ∈ l, ¬ (x.field.id = y.field.id ∧ x.index = y.index) := by
  induction l generalizing t with
  | nil => exact ⟨stands, fun y none => absurd none List.not_mem_nil⟩
  | cons y l ih =>
    obtain ⟨later, apart⟩ := ih (s.taken hw t y) stands
    rw [s.taken_staged, List.mem_filter] at later
    obtain ⟨before, other⟩ := later
    refine ⟨before, List.forall_mem_cons.mpr ⟨?_, apart⟩⟩
    simpa [imp_iff_not_or] using other

theorem State.applyAll_staged {x : Staged} (stands : x ∈ (s.applyAll hw l).staged) :
    x ∈ s.staged ∧ ∀ y ∈ l, ¬ (x.field.id = y.field.id ∧ x.index = y.index) := by
  have follows : ∀ (t : State) (x : Staged), (t.applied s x.field x.index x.value).staged = t.staged := fun t x =>
    t.applied_staged s x.field x.index x.value
  rw [s.applyAll_eq, foldl_kept State.staged follows] at stands
  exact s.foldl_taken_staged hw l s stands

end

/-! ### A microsecond begins -/

/-- The countdowns and the watchdogs at a microsecond (R396). -/
def State.ticked (s : State) : State :=
  let s := s.each [0, 1, 2, 3, 4] State.timerTick
  if s.ct % 960000 = 0 then s.each [0, 1, 2, 3, 4] State.watchTick else s

theorem State.microsecond_eq (s : State) (hw : List HwChange) : s.microsecond hw = (s.markerWrites hw).ticked.markerDue := rfl

theorem State.each_via {m : Nat} {g : State → Nat → State} (h : ∀ s n, Via m s (g s n)) (s : State) (l : List Nat) :
    Via m s (s.each l g) := by
  induction l generalizing s with
  | nil => exact .refl s
  | cons n l ih => exact .trans (h s n) (ih (g s n))

theorem State.ticked_via (s : State) : Via (2 ^ 19) s s.ticked := by
  have timers : Via (2 ^ 19) s (s.each [0, 1, 2, 3, 4] State.timerTick) := State.each_via (fun s c => s.timerTick_via c) s _
  unfold State.ticked
  extract_lets s₁
  split
  · exact timers.trans (State.each_via (fun s c => s.watchTick_via c) s₁ _)
  · exact timers

theorem State.markerWrites_timeSet (s : State) (hw : List HwChange) : (s.markerWrites hw).chord.timeSet = s.chord.timeSet :=
  s.applyAll_timeSet hw _

theorem State.microsecond_of_idle (hw : List HwChange) (idle : s.chord.timeSet = none) :
    s.microsecond hw = (s.markerWrites hw).ticked := by
  have waits : (s.markerWrites hw).ticked.chord.timeSet = none := by
    rw [(State.ticked_via _).chord (by decide), State.markerWrites_timeSet, idle]
  rw [s.microsecond_eq hw, State.markerDue_of_none waits]

/-- What a microsecond that no TIME_SET awaits leaves: CT, and of the writes of code T those that a HOLD keeps (R101). -/
theorem State.microsecond_writes (hw : List HwChange) (idle : s.chord.timeSet = none) :
    (s.microsecond hw).chord.timeSet = none ∧ (s.microsecond hw).ct = s.ct
      ∧ ∀ x ∈ (s.microsecond hw).staged, x.field.applies = .t → (slotHome x.field.id x.index).any s.held' = true := by
  rw [State.microsecond_of_idle hw idle]
  have ticks := (s.markerWrites hw).ticked_via
  refine ⟨?_, ?_, fun x stands code => ?_⟩
  · rw [ticks.chord (by decide), State.markerWrites_timeSet, idle]
  · rw [ticks.ct (by decide), (s.markerWrites_via hw).ct (by decide)]
  · rw [ticks.staged (by decide)] at stands
    obtain ⟨before, apart⟩ := s.applyAll_staged hw _ stands
    by_contra free
    refine apart x (List.mem_filter.mpr ⟨before, ?_⟩) ⟨rfl, rfl⟩
    rw [decide_eq_true code, Bool.eq_false_of_not_eq_true free]
    rfl

/-! ### Markers on down-links -/

theorem State.held'_of_regs {s t : State} (h : t.regs = s.regs) : t.held' = s.held' := by
  funext block
  unfold State.held'
  split
  · next f j _ => exact State.on_of_fld (fld_of_regs h f j)
  · rfl

/-- CT has run on to the boundary of the marker (R321). -/
def State.markerTime (s : State) : State := s.chordHush.toMicrosecond ((960 - s.ct % 960) % 960) []

theorem State.markerTime_of_boundary (boundary : s.ct % 960 = 0) : s.markerTime = s.chordHush := by
  rw [State.markerTime, boundary, State.toMicrosecond, if_neg (by simp)]

theorem State.markerTime_within (runs : s.ctRuns = true) (within : s.ct % 960 ≠ 0) (idle : s.chord.timeSet = none) :
    s.markerTime.chord.timeSet = none ∧ s.markerTime.ct = (s.ct / 960 * 960 + 960) % 2 ^ 64
      ∧ ∀ x ∈ s.markerTime.staged, x.field.applies = .t → (slotHome x.field.id x.index).any s.held' = true := by
  have rest := Nat.mod_lt s.ct (show 0 < 960 by decide)
  have wait : (960 - s.ct % 960) % 960 = 960 - s.ct % 960 := Nat.mod_eq_of_lt (by omega)
  have ahead : s.ct + (960 - s.ct % 960) = s.ct / 960 * 960 + 960 := by omega
  have ticks : (s.chordHush.ctRuns && decide (0 < 960 - s.ct % 960)) = true := by
    rw [show s.chordHush.ctRuns = true from runs]
    exact decide_eq_true (by omega)
  have regs : (s.chordHush.advance (960 - s.ct % 960)).regs = s.regs := rfl
  rw [State.markerTime, wait, State.toMicrosecond, if_pos ticks, ← State.held'_of_regs regs, ← ahead]
  exact State.microsecond_writes [] idle

section
variable {l sync depth mark localCt : Nat} {peerHold : Bool}

theorem exec_marker_down (on : s.chordOn = true) (down : 2 ≤ l) (link : l < 6) :
    exec (.marker l sync depth mark localCt peerHold) s = .next (State.markerDue
      (if decide (2 ≤ s.markerTime.linkState l) then
        s.markerTime.chordSend (.marker l s.markerTime.sync (s.markerTime.fld F.CHORD_STAT_DEPTH 0) s.markerTime.ct)
      else s.markerTime)) := by
  change execMarker l sync depth mark localCt peerHold s = _
  rw [execMarker, if_neg (by simp [on]; omega), if_pos down]
  rfl

theorem marker_sends (on : s.chordOn = true) (down : 2 ≤ l) (link : l < 6) (trained : 2 ≤ s.linkState l)
    (boundary : s.ct % 960 = 0) :
    Completes (.marker l sync depth mark localCt peerHold) s fun t =>
      t.chord.out = [.marker l s.sync (s.fld F.CHORD_STAT_DEPTH 0) s.ct] ∧ t.chord.timeSet = none
        ∧ (s.chord.timeSet = none → t.ct = s.ct) := by
  let sent := s.chordHush.chordSend (.marker l s.sync (s.fld F.CHORD_STAT_DEPTH 0) s.ct)
  have runs : exec (.marker l sync depth mark localCt peerHold) s = .next sent.markerDue := by
    rw [exec_marker_down on down link, State.markerTime_of_boundary boundary,
      if_pos (decide_eq_true (show 2 ≤ s.chordHush.linkState l from trained))]
    rfl
  obtain ⟨due, out⟩ := sent.markerDue_chord
  refine ⟨_, runs, out, due, fun idle => ?_⟩
  rw [State.markerDue_of_none (show sent.chord.timeSet = none from idle)]
  rfl

theorem marker_begins (on : s.chordOn = true) (down : 2 ≤ l) (link : l < 6) (runs : s.ctRuns = true) (within : s.ct % 960 ≠ 0)
    (idle : s.chord.timeSet = none) :
    Completes (.marker l sync depth mark localCt peerHold) s fun t =>
      t.ct = (s.ct / 960 * 960 + 960) % 2 ^ 64
        ∧ (∀ x ∈ t.staged, x.field.applies = .t → (slotHome x.field.id x.index).any s.held' = true) := by
  obtain ⟨due, time, writes⟩ := State.markerTime_within runs within idle
  have sends : ∀ (u : State) (m : ChordOut), u.chord.timeSet = none → (u.chordSend m).markerDue = u.chordSend m := fun u m none =>
    State.markerDue_of_none (s := u.chordSend m) none
  refine ⟨_, exec_marker_down on down link, ?_⟩
  split
  · rw [sends _ _ due]
    exact ⟨time, writes⟩
  · rw [State.markerDue_of_none due]
    exact ⟨time, writes⟩

end

/-- Settles O41: a clause per command and condition, each from what a marker, a step of CT, a lock, a failover, an adoption, a
range and a pulse leave. -/
theorem chordTimeAndRangeCommands : Obligations.ChordTimeAndRangeCommands := by
  refine ⟨fun s l sync depth mark localCt peerHold => marker_up, fun s l sync depth mark localCt peerHold on down link trained _ =>
      marker_sends on down link trained, fun s l sync depth mark localCt peerHold => marker_begins,
    fun s l => delayExchange_averages, fun s => ctCorrection_slews, fun s => ctCorrection_steps, fun s => ctCorrection_first,
    fun s => chordLock_locks, fun s => apexLock_locks, fun s => holdoverStart_holds, fun s => holdmaxExpiry_estimates,
    fun s on vertex ever auto holds _ => failover_takes on vertex ever auto holds, fun s => revert_takes,
    fun s l lo hi hops j => adoptFrame_enters, fun s l lo hi j => releaseFrame_removes, fun s lo hi apex => ?_,
    fun s lo hi => rangeChange_ranges, fun s lo hi => rangeChange_empties, fun s => ctPpsEdge_rises⟩
  exact ⟨s, congrArg Host.Outcome.next (if_pos apex), rfl⟩

end Sys2Proof.Machine
end

section
/-! Writes that wait (R101, R102): which of them the timed actions that waited for a command leave (R140, R270). -/

namespace Sys2Proof.Machine

-- One proof at a time: a default argument `by decide` waits for the text before it, and each proof that waits takes a thread.
set_option Elab.async false

/-- The writes that wait stand, but for the choice of a load step (R270). -/
def KeepsWrites (s t : State) : Prop :=
  ∀ (f : Field) (i : Nat), f.id ≠ F.TCPD_SINKCFG_SEL.id → t.pendingWrite f i = s.pendingWrite f i

section
variable {s t u : State}

theorem State.pendingWrite_of_staged (h : t.staged = s.staged) (f : Field) (i : Nat) : t.pendingWrite f i = s.pendingWrite f i :=
  congrArg (fun l : List Staged => (l.find? (fun (x : Staged) => x.field.id == f.id && x.index == i)).map (fun x : Staged => x.value)) h

theorem KeepsWrites.refl (s : State) : KeepsWrites s s := fun _ _ _ => rfl

theorem KeepsWrites.trans (d : KeepsWrites s t) (e : KeepsWrites t u) : KeepsWrites s u :=
  fun f i other => (e f i other).trans (d f i other)

theorem KeepsWrites.via {m : Nat} (d : KeepsWrites s t) (e : Via m t u) (h : m.testBit 28 = false := by decide) :
    KeepsWrites s u := fun f i other => (State.pendingWrite_of_staged (e.staged h) f i).trans (d f i other)

/-- Changes of registers and of other records leave every write waiting. -/
theorem KeepsWrites.records (d : KeepsWrites s t) (h : u.staged = t.staged := by rfl) : KeepsWrites s u :=
  fun f i other => (State.pendingWrite_of_staged h f i).trans (d f i other)

theorem KeepsWrites.foldl {α : Type} {g : State → α → State} (h : ∀ s x, KeepsWrites s (g s x)) (l : List α) (s : State) :
    KeepsWrites s (l.foldl g s) := by
  induction l generalizing s with
  | nil => exact .refl s
  | cons x l ih => exact (h s x).trans (ih (g s x))

end

section
variable (s : State) (p : Nat)

theorem State.stageSel_keepsWrites (b : Bool) : KeepsWrites s (s.stageSel p b) := by
  intro f i other
  have last : ∀ x : Staged, x.field.id = F.TCPD_SINKCFG_SEL.id → (x.field.id == f.id && x.index == i) = false := by
    intro x sel
    rw [sel, beq_eq_false_iff_ne.mpr (Ne.symm other), Bool.false_and]
  unfold State.pendingWrite State.stageSel
  dsimp only
  rw [List.find?_append, List.find?_filter, List.find?_cons_of_neg (by rw [last _ rfl]; decide), List.find?_nil, Option.or_none]
  congr 2
  funext x
  by_cases sel : x.field.id = F.TCPD_SINKCFG_SEL.id
  · simp [last x sel]
  · cases (x.field.id == f.id && x.index == i) <;> simp [sel]

theorem State.paid_keepsWrites {f : State → State} (d : KeepsWrites s (f s)) : KeepsWrites s (s.paid p f) :=
  .via (.via d (State.spendCredit_via ..)) (State.govRefresh_via ..)

theorem State.actNow_keepsWrites (i : Nat) : KeepsWrites s (s.actNow i p) := by
  have given : KeepsWrites s (s.giveCredit i p) := .via (.refl s) (State.giveCredit_via ..)
  unfold State.actNow
  extract_lets w p0
  split
  · exact .via (.refl s) (State.voffWrite_via ..)
  · refine given.trans (State.paid_keepsWrites _ p ?_)
    extract_lets s₁
    have on : KeepsWrites (s.giveCredit i p) s₁ := .via (.via (.refl _) (State.voffWrite_via ..)) (State.updPwr_via ..)
    split
    · exact on.via (State.rpEvaluate_via ..)
    · exact on
  · exact .via (.refl s) (State.isolate_via ..)
  · exact .via (.refl s) (State.isolate_via ..)
  · exact .via (.refl s) (State.setCcen_via ..)
  · exact given.trans (State.paid_keepsWrites _ p (.via (.refl _) (State.setCcen_via ..)))
  · rename_i s₁ _ _
    have offered : KeepsWrites s s₁ :=
      .via (.records (t := s.giveCredit i p) (u := (s.giveCredit i p).setFld F.TCPD_PDCFG_PROFILE p _) given)
        (State.govRefresh_via ..)
    split
    · exact .via (.records offered) (State.logAction_via ..)
    split
    · exact .via (.via (.via offered (State.hush_via ..)) (State.offerSent_via ..)) (pdSettle_via ..)
    · exact offered
  · exact .via (.refl s) (State.glitchStart_via ..)
  · exact s.stageSel_keepsWrites p _
  · exact .via (.refl s) (State.migStart_via ..)
  · exact .refl s

theorem State.suppress_keepsWrites (w : List Nat) : KeepsWrites s (s.suppress w p) := by
  unfold State.suppress
  extract_lets s₁
  have counted : KeepsWrites s s₁ := .records (.refl s)
  split
  · exact counted.via (State.glitchSuppressed_via ..)
  · split
    · exact counted.trans (s₁.stageSel_keepsWrites p _)
    · exact counted
  · split
    · exact counted
    · exact counted.via (State.migRefused_via ..)
  · exact counted

theorem State.actLate_keepsWrites (i : Nat) : KeepsWrites s (s.actLate i p) := by
  unfold State.actLate
  extract_lets e s₁
  have taken : KeepsWrites s s₁ := .via (.refl s) (State.updTat_via ..)
  split
  · exact .via (taken.trans (State.actNow_keepsWrites _ p i)) (State.actuated_via ..)
  · exact .via (taken.trans (State.suppress_keepsWrites _ p _)) (State.logAction_via ..)

theorem State.lateActions_keepsWrites : KeepsWrites s s.lateActions := by
  refine .foldl (fun s e => ?_) _ s
  exact .foldl (g := fun s p => s.actLate e.1 p) (fun s p => s.actLate_keepsWrites p e.1) _ s

end

end Sys2Proof.Machine
end

section
/-! The end of a mailbox command (R430): the channel is free, the answer is the last of its host, and what else stands. -/

namespace Sys2Proof.Machine

-- One proof at a time: a default argument `by decide` waits for the text before it, and each proof that waits takes a thread.
set_option Elab.async false

/-! ### Placing the response -/

section
variable (s : State) (ch : Nat) (f : Frame)

theorem Via.mbx {m : Nat} {s t : State} (d : Via m s t) (h : m.testBit 54 = false) : t.mbx = s.mbx := d.same .mbx h

theorem Via.bcq {m : Nat} {s t : State} (d : Via m s t) (h : m.testBit 48 = false) : t.bcq = s.bcq := d.same .bcq h

theorem State.put_mbx (g : Field) (i : Nat) (b : Bool) : (s.put g i b).mbx = s.mbx := rfl

theorem State.writeBytes_mbx (a : Nat) (l : List Nat) : (s.writeBytes a l).mbx = s.mbx := by
  obtain ⟨x, written, -⟩ := writeBytes_eq s a l
  rw [written]

theorem State.writeBytes_regs (a : Nat) (l : List Nat) : (s.writeBytes a l).regs = s.regs := by
  obtain ⟨x, written, -⟩ := writeBytes_eq s a l
  rw [written]

/-- A refusal for lack of rights is counted (R466). -/
def State.deniedCounted : State := if f.status = Status.denied then s.incr F.MBX_CHCNT1_DENIED (chReg ch) else s

/-- The response goes to its channel (R430). -/
def State.responded : State :=
  if mfChannel ch then s.ep2Place (ch - 2) f.bytes
  else if ch = 6 then s.chordPlace f
  else if 7 ≤ ch then s.localPlace ch f
  else (s.updCh ch (fun c => { c with finished := c.finished ++ [f] })).chFill ch

theorem State.place_eq : s.place ch f = ((s.deniedCounted ch f).responded ch f).chRefresh ch := rfl

theorem State.deniedCounted_mbx : (s.deniedCounted ch f).mbx = s.mbx := by
  unfold State.deniedCounted
  split <;> rfl

theorem State.localPlace_running : ((s.localPlace ch f).mbx.at ch).running = (s.mbx.at ch).running := by
  unfold State.localPlace
  extract_lets c s₁
  split
  · simp [State.updCh, State.put_mbx]
  split
  · rw [(State.irq_via ..).mbx (by decide), State.put_mbx, State.put_mbx, State.writeBytes_mbx]
  · rfl

theorem State.responded_running : ((s.responded ch f).mbx.at ch).running = (s.mbx.at ch).running := by
  unfold State.responded
  split_ifs
  · rw [(State.ep2Place_via ..).mbx (by decide)]
  · rw [(State.chordPlace_via ..).mbx (by decide)]
  · exact s.localPlace_running ch f
  · simp [State.chFill, State.updCh]

theorem State.place_running : ((s.place ch f).mbx.at ch).running = (s.mbx.at ch).running := by
  rw [s.place_eq, (State.chRefresh_via ..).mbx (by decide), State.responded_running, State.deniedCounted_mbx]

variable {ch} in
/-- On a host channel the response is the last one (R430). -/
theorem State.place_lastReply (host : ch ≤ 1) : (s.place ch f).lastReply ch = some f := by
  have unmanaged : mfChannel ch = false := decide_eq_false (by omega)
  have queued : (s.deniedCounted ch f).responded ch f
      = ((s.deniedCounted ch f).updCh ch (fun c => { c with finished := c.finished ++ [f] })).chFill ch := by
    rw [State.responded, unmanaged, if_neg (by decide), if_neg (by omega), if_neg (by omega)]
  rw [State.lastReply, s.place_eq, (State.chRefresh_via ..).mbx (by decide), queued]
  simp [State.chFill, State.updCh]

end

/-! ### What the response leaves -/

/-- The fields of PART, MF and MBX that a response writes beside its count of refusals (R430, R434, R466). -/
def answerWrites : List Field :=
  [F.MBX_CHSTAT_RESPQ, F.MBX_CHSTAT_INQ, F.MBX_CHSTAT_EXEC, F.MBX_CHORDQ_OUTSTANDING, F.MBX_LCTL_BUSY, F.MBX_LCTL_RSPREADY]
    ++ eventWrites

section
variable (s : State) (ch : Nat) (f : Frame)

theorem State.ep2Fill_keepsSettings (k fuel : Nat) : KeepsSettings s (s.ep2Fill k fuel) := by
  induction fuel generalizing s with
  | zero => exact .refl s
  | succ n ih =>
    unfold State.ep2Fill
    extract_lets half
    split
    · exact .refl s
    · refine .ite (.trans (.trans ?_ (State.noticeTo_keepsSettings _ _ _ _)) (ih _)) (.refl s)
      exact .records (.via (.refl s) (State.epWrite_via ..))

theorem State.ep2Place_keepsSettings (k : Nat) (bytes : List Nat) : KeepsSettings s (s.ep2Place k bytes) :=
  .ite (.refl s) (.trans (.records (.refl s)) (State.ep2Fill_keepsSettings _ k 2))

theorem State.localPlace_alters : Alters eventMask answerWrites s (s.localPlace ch f) := by
  unfold State.localPlace
  extract_lets c s₁
  have written : Alters eventMask answerWrites s s₁ := .records (.refl s) (s.writeBytes_regs _ _)
  exact .ite (.via (.put (.refl s)) (State.updCh_via ..)) (.ite (.via (.put (.put written)) (State.irq_via ..)) (.refl s))

theorem State.responded_alters : Alters eventMask answerWrites s (s.responded ch f) :=
  .ite (s.ep2Place_keepsSettings _ _).mono
    (.ite (.via (.refl s) (State.chordPlace_via ..)) (.ite (s.localPlace_alters ch f) (.records (.refl s))))

theorem State.chRefresh_alters : Alters eventMask answerWrites s (s.chRefresh ch) := by
  unfold State.chRefresh
  extract_lets r n inq busy s₁ s₂
  have shown : Alters eventMask answerWrites s s₂ := .setFld (.put (.setFld (.setFld (.refl s))))
  exact .ite (.trans (.setFld (.setFld shown)) (State.bcRefresh_keepsSettings _).mono) shown

theorem State.place_alters : Alters eventMask (F.MBX_CHCNT1_DENIED :: answerWrites) s (s.place ch f) := by
  have counted : Alters eventMask (F.MBX_CHCNT1_DENIED :: answerWrites) s (s.deniedCounted ch f) := .ite (.incr (.refl s)) (.refl s)
  rw [s.place_eq]
  exact (counted.trans (State.responded_alters _ ch f).mono).trans (State.chRefresh_alters _ ch).mono

variable {f} in
theorem State.place_denied (denied : f.status = Status.denied) :
    (s.place ch f).fld F.MBX_CHCNT1_DENIED (chReg ch) = (s.fld F.MBX_CHCNT1_DENIED (chReg ch) + 1) % 2 ^ 16 := by
  rw [s.place_eq, State.chRefresh_alters _ ch _ _ (by decide), State.responded_alters _ ch f _ _ (by decide), State.deniedCounted,
    if_pos denied]
  exact fld_setFld_self ..

/-! ### The end of the command -/

/-- Channel `ch` is free, and the timed actions that waited act (R140, R430). -/
def State.commandEnded : State := (s.updCh ch (fun c => { c with running := none, ports := [], stage := 0 })).lateActions

theorem State.commandEnded_running : ((s.commandEnded ch).mbx.at ch).running = none := by
  rw [State.commandEnded, (State.lateActions_via _).mbx (by decide)]
  simp [State.updCh]

theorem State.commandEnded_keepsSettings : KeepsSettings s (s.commandEnded ch) :=
  .trans (.via (.refl s) (State.updCh_via ..)) (State.lateActions_keepsSettings _)

theorem State.commandEnded_reply (status retry : Nat) (payload : List Nat) :
    (s.commandEnded ch).reply f status retry payload = s.reply f status retry payload := by
  have address : (s.commandEnded ch).fld F.CHORD_STAT_ADDR 0 = s.fld F.CHORD_STAT_ADDR 0 :=
    ((State.lateActions_via _).fld _ 0 (by decide)).trans ((State.updCh_via ..).fld _ 0 (by decide))
  rw [State.reply, address, State.reply]

variable (r : Reply)

theorem State.finish_eq : s.finish ch f r = (s.commandEnded ch).place ch (s.reply f r.status r.retry r.payload) := by
  have payload : (if r.status = 0 ∨ r.payload ≠ [] then r.payload else []) = r.payload := by
    split
    · rfl
    · next empty => exact (not_not.mp (not_or.mp empty).2).symm
  rw [← s.commandEnded_reply ch f, State.finish, payload]
  rfl

theorem State.finish_running : ((s.finish ch f r).mbx.at ch).running = none := by
  rw [s.finish_eq, State.place_running, State.commandEnded_running]

variable {ch} in
theorem State.finish_lastReply (host : ch ≤ 1) :
    (s.finish ch f r).lastReply ch = some (s.reply f r.status r.retry r.payload) := by
  rw [s.finish_eq, State.place_lastReply _ _ host]

/-- A command is answered as the reply says, where its own effect leaves the unit's address (R430, R436). -/
theorem State.finish_answered {s s₁ : State} (address : s₁.fld F.CHORD_STAT_ADDR 0 = s.fld F.CHORD_STAT_ADDR 0) :
    s.Answered (s₁.finish ch f r) ch f r.status r.retry r.payload := by
  refine ⟨s₁.finish_running ch f r, fun host => (s₁.finish_lastReply f r host).trans ?_⟩
  rw [State.reply, address, State.reply]

theorem State.finish_alters : Alters eventMask (F.MBX_CHCNT1_DENIED :: answerWrites) s (s.finish ch f r) := by
  rw [s.finish_eq]
  exact (s.commandEnded_keepsSettings ch).mono.trans (State.place_alters _ ch _)

variable {ch r} in
theorem State.finish_denied (denied : r.status = Status.denied) :
    (s.finish ch f r).fld F.MBX_CHCNT1_DENIED (chReg ch) = (s.fld F.MBX_CHCNT1_DENIED (chReg ch) + 1) % 2 ^ 16 := by
  have answer : (s.reply f r.status r.retry r.payload).status = Status.denied := denied
  rw [s.finish_eq, State.place_denied _ _ answer, s.commandEnded_keepsSettings ch _ _ (by decide)]

theorem State.finish_keepsWrites : KeepsWrites s (s.finish ch f r) := by
  have ended : KeepsWrites s (s.commandEnded ch) :=
    .trans (.via (.refl s) (State.updCh_via ..)) (State.lateActions_keepsWrites _)
  rw [s.finish_eq]
  exact ended.via (State.place_via ..)

end

/-! ### Where no timed action waits -/

section
variable {s : State} (idle : s.NoneWaits)
include idle

theorem State.lateActions_of_noneWaits : s.lateActions = s := by
  have still : ∀ l : Tbl TatEntry, (∀ e ∈ l, e.2.later = []) → l.foldl (fun s e =>
      s.each (e.2.later.filter (fun p => !s.cmdPorts.contains p)) (fun s p => s.actLate e.1 p)) s = s := by
    intro l none
    induction l with
    | nil => rfl
    | cons e l ih =>
      obtain ⟨first, rest⟩ := List.forall_mem_cons.mp none
      rw [List.foldl_cons, first]
      exact ih rest
  exact still s.tat idle

variable (ch : Nat) (f : Frame) (r : Reply)

theorem State.finish_of_noneWaits : s.finish ch f r =
    (s.updCh ch (fun c => { c with running := none, ports := [], stage := 0 })).place ch (s.reply f r.status r.retry r.payload) := by
  rw [s.finish_eq, State.commandEnded, State.lateActions_of_noneWaits (show State.NoneWaits (State.updCh ..) from idle)]

theorem State.finish_staged : (s.finish ch f r).staged = s.staged := by
  rw [State.finish_of_noneWaits idle, (State.place_via ..).staged (by decide), (State.updCh_via ..).staged (by decide)]

theorem State.finish_bcq : (s.finish ch f r).bcq = s.bcq := by
  rw [State.finish_of_noneWaits idle, (State.place_via ..).bcq (by decide), (State.updCh_via ..).bcq (by decide)]

end

/-- A running command of the code whose effect gives a reply ends with it. -/
theorem State.command_answers {s s₁ : State} {ch code : Nat} {f : Frame} {run : State → Frame → State × Option Reply} {r : Reply}
    (runs : (s.mbx.at ch).running = some f) (coded : f.code = code) (answers : run s f = (s₁, some r)) :
    s.command ch code anyForm run = s₁.finish ch f r := by
  rw [State.command, runs]
  dsimp only
  rw [if_pos ⟨coded, rfl⟩, answers]

end Sys2Proof.Machine
end

section
/-! SYS_INFO, SYS_RESET, SYS_DORMANT and SYS_DOMAIN (R66, R80, R81, R446, R447). -/

namespace Sys2Proof.Machine

-- One proof at a time: a default argument `by decide` waits for the text before it, and each proof that waits takes a thread.
set_option Elab.async false

variable {s : State} {ch : Nat} {f : Frame}

/-! ### SYS_INFO and SYS_RESET -/

theorem State.sysInfo_length (s : State) : s.sysInfo.length = 64 := by
  have word : ∀ v, (le 2 v).length = 2 ∧ (le 4 v).length = 4 := fun v => ⟨rfl, rfl⟩
  simp [State.sysInfo, State.readBytes, word]

theorem sysInfo_answers (runs : (s.mbx.at ch).running = some f) (coded : f.code = 0x0101) :
    Completes (.sysInfo ch) s fun t =>
      s.Answered t ch f 0 0 s.sysInfo ∧ s.sysInfo.take 4 = [0x40, 0x32, 0xB1, s.fld F.SYS_BOOT_BOOT_STATUS 0]
        ∧ (s.sysInfo.drop 4).take 4 = le 4 (s.fld F.SYS_FWREL_RELEASE 0) ∧ s.sysInfo.length = 64 :=
  ⟨_, congrArg Host.Outcome.next (State.command_answers runs coded rfl), State.finish_answered ch f (Reply.give s.sysInfo) rfl,
    rfl, rfl, s.sysInfo_length⟩

theorem sysReset_waits (runs : (s.mbx.at ch).running = some f) (coded : f.code = 0x0102) (asked : f.opt % 2 = 1) :
    Completes (.sysReset ch) s fun t =>
      t.power.resetPending = some (min 7 ch) ∧ s.Answered t ch f 0 0 [] := by
  let s₁ : State := { s with power := { s.power with resetPending := some (chReg ch) } }
  have bit : f.opt.testBit 0 = true := by rw [Nat.testBit_zero, asked]; rfl
  refine ⟨s₁.finish ch f (Reply.of 0), congrArg Host.Outcome.next (State.command_answers runs coded (if_pos bit)), ?_,
    State.finish_answered ch f (Reply.of 0) rfl⟩
  rw [(State.finish_via ..).power (by decide)]
  rfl

theorem sysReset_refuses (runs : (s.mbx.at ch).running = some f) (coded : f.code = 0x0102) (unasked : f.opt % 2 = 0) :
    Completes (.sysReset ch) s fun t =>
      s.Answered t ch f Status.badArg 0 [] ∧ (s.NoneWaits → t.power = s.power) := by
  have bit : ¬ f.opt.testBit 0 = true := by rw [Nat.testBit_zero, unasked]; decide
  exact ⟨_, congrArg Host.Outcome.next (State.command_answers runs coded (if_neg bit)),
    State.finish_answered ch f (Reply.of Status.badArg) rfl, fun _ => (State.finish_via ..).power (by decide)⟩

/-! ### SYS_DORMANT -/

/-- A refused command leaves the power record (R430). -/
theorem State.finish_power (s : State) (r : Reply) : (s.finish ch f r).power = s.power :=
  (State.finish_via ..).power (by decide)

section
variable (runs : (s.mbx.at ch).running = some f) (coded : f.code = 0x0103)
include runs coded

theorem sysDormant_past (past : ofLe (f.payload.take 6) ≤ s.power.rtcCount) :
    Completes (.sysDormant ch) s fun t =>
      s.Answered t ch f Status.badArg 0 [] ∧ t.power.dormancy = s.power.dormancy :=
  ⟨_, congrArg Host.Outcome.next (State.command_answers runs coded (if_pos past)),
    State.finish_answered ch f (Reply.of Status.badArg) rfl, congrArg Power.dormancy (s.finish_power _)⟩

theorem sysDormant_busy (ahead : s.power.rtcCount < ofLe (f.payload.take 6)) (asleep : s.power.dormancy ≠ .awake) :
    Completes (.sysDormant ch) s fun t =>
      s.Answered t ch f Status.busy 0 [] ∧ t.power.dormancy = s.power.dormancy := by
  refine ⟨_, congrArg Host.Outcome.next (State.command_answers runs coded ((if_neg (Nat.not_le.mpr ahead)).trans (if_pos ?_))),
    State.finish_answered ch f (Reply.of Status.busy) rfl, congrArg Power.dormancy (s.finish_power _)⟩
  simpa using asleep

theorem sysDormant_state (ahead : s.power.rtcCount < ofLe (f.payload.take 6)) (awake : s.power.dormancy = .awake)
    (invalid : s.on F.RTC_STATUS_RTC_VALID 0 = false) (unforced : (byteAt f.payload 6).testBit 0 = false) :
    Completes (.sysDormant ch) s fun t =>
      s.Answered t ch f Status.state 0 [] ∧ t.power.dormancy = .awake := by
  refine ⟨_, congrArg Host.Outcome.next (State.command_answers runs coded
      ((if_neg (Nat.not_le.mpr ahead)).trans ((if_neg ?_).trans (if_pos ?_)))),
    State.finish_answered ch f (Reply.of Status.state) rfl, (congrArg Power.dormancy (s.finish_power _)).trans awake⟩
  · rw [awake]
    decide
  · rw [invalid, unforced]
    rfl

end

/-- The alarm is written and armed, and the part is about to sleep (R81, step 1). -/
def State.alarmArmed (s : State) (wake : Nat) : State :=
  let s := (s.setFld F.RTC_ALARM_LO_ALARM_LO 0 wake).setFld F.RTC_ALARM_HI_ALARM_HI 0 (wake / 2 ^ 32)
  let s := s.put F.RTC_ALARM_HI_ARM 0 true
  { s with power := { s.power with dormancy := .entering, alarmHeld := false } }

theorem State.alarmArmed_alarm (s : State) (wake : Nat) :
    (s.alarmArmed wake).fld F.RTC_ALARM_LO_ALARM_LO 0 = wake % 2 ^ 32
      ∧ (s.alarmArmed wake).fld F.RTC_ALARM_HI_ALARM_HI 0 = wake / 2 ^ 32 % 2 ^ 16
      ∧ (s.alarmArmed wake).on F.RTC_ALARM_HI_ARM 0 = true := by
  unfold State.alarmArmed
  extract_lets s₁ s₂
  have low : s₁.fld F.RTC_ALARM_LO_ALARM_LO 0 = wake % 2 ^ 32 :=
    (fld_setFld_ne _ _ _ _ (by decide)).trans (fld_setFld_self ..)
  have high : s₁.fld F.RTC_ALARM_HI_ALARM_HI 0 = wake / 2 ^ 32 % 2 ^ 16 := fld_setFld_self ..
  have armed : s₂.on F.RTC_ALARM_HI_ARM 0 = true := State.on_put_self _ 0 true rfl
  have kept : ∀ g : Field, g.id ≠ F.RTC_ALARM_HI_ARM.id → s₂.fld g 0 = s₁.fld g 0 := fun g other =>
    State.fld_put_ne s₁ 0 0 true other
  exact ⟨(kept _ (by decide)).trans low, (kept _ (by decide)).trans high, armed⟩

/-- Steps 2 and 3 of R81. -/
def State.leavesForDormant (s : State) : State :=
  let s := if s.upActive then s.chordHush.chordSend (.leave s.activeUp) else s
  let s := s.tatDiscard
  (s.each [2, 3, 4, 5, 6, 7, 8, 9, 10] (fun s d => s.setDomRequest d false)).domsFollow

theorem State.dormantBegins_eq (s : State) (wake : Nat) : s.dormantBegins wake = (s.alarmArmed wake).leavesForDormant := rfl

/-- Neither RTC nor the power record is reached (R81). -/
theorem State.leavesForDormant_via (s : State) : Via (allRegs - 2 ^ 1 + (2 ^ 59 - 2 ^ 31)) s s.leavesForDormant := by
  unfold State.leavesForDormant
  extract_lets s₁ s₂
  have told : Via (2 ^ 49) s s₁ := .ite _ ((State.chordHush_via s).trans (State.chordSend_via ..)) (.refl s)
  have requests : Via 1 s₂ (s₂.each [2, 3, 4, 5, 6, 7, 8, 9, 10] (fun s d => s.setDomRequest d false)) :=
    State.each_via (fun s d => s.setDomRequest_via d false) s₂ _
  exact .then (State.domsFollow_via _) (by decide) (.then requests (by decide)
    (.then (State.tatDiscard_via _) (by decide) (told.mono (by decide))))

theorem sysDormant_enters {wake : Nat} (runs : (s.mbx.at ch).running = some f) (coded : f.code = 0x0103)
    (given : ofLe (f.payload.take 6) = wake) (ahead : s.power.rtcCount < wake) (awake : s.power.dormancy = .awake)
    (allowed : s.on F.RTC_STATUS_RTC_VALID 0 = true ∨ (byteAt f.payload 6).testBit 0 = true) :
    Completes (.sysDormant ch) s fun t =>
      t.power.dormancy = .entering ∧ t.fld F.RTC_ALARM_LO_ALARM_LO 0 = wake % 2 ^ 32
        ∧ t.fld F.RTC_ALARM_HI_ALARM_HI 0 = wake / 2 ^ 32 % 2 ^ 16 ∧ t.on F.RTC_ALARM_HI_ARM 0 = true
        ∧ (t.mbx.at ch).running = none := by
  subst given
  have valid : ¬ (!s.on F.RTC_STATUS_RTC_VALID 0 && !(byteAt f.payload 6).testBit 0) = true := by
    rcases allowed with h | h <;> simp [h]
  have sleepless : ¬ (s.power.dormancy != .awake) = true := by rw [awake]; decide
  have kept : ∀ (u : State) (g : Field), blockOf g.id = .rtc →
      (u.leavesForDormant.finish ch f (Reply.of 0)).fld g 0 = u.fld g 0 := fun u g rtc =>
    ((State.finish_via ..).fld g 0 (by rw [rtc]; decide)).trans (u.leavesForDormant_via.fld g 0 (by rw [rtc]; decide))
  refine ⟨_, congrArg Host.Outcome.next (State.command_answers runs coded
    ((if_neg (Nat.not_le.mpr ahead)).trans ((if_neg sleepless).trans (if_neg valid)))), ?_⟩
  rw [State.dormantBegins_eq]
  refine ⟨?_, ?_, ?_, ?_, State.finish_running ..⟩
  · rw [State.finish_power, (State.leavesForDormant_via _).power (by decide)]
    rfl
  · exact (kept _ _ rfl).trans (s.alarmArmed_alarm _).1
  · exact (kept _ _ rfl).trans (s.alarmArmed_alarm _).2.1
  · exact (State.on_of_fld (kept _ _ rfl)).trans (s.alarmArmed_alarm _).2.2

/-! ### SYS_DOMAIN -/

/-- The request bit of a domain that has a field of its own in PMU_DOMCTL. -/
def requestField : Nat → Field
  | 2 => F.PMU_DOMCTL_FABRIC
  | 3 => F.PMU_DOMCTL_SERVICE
  | 4 => F.PMU_DOMCTL_CHORD
  | 5 => F.PMU_DOMCTL_TRACE
  | _ => F.PMU_DOMCTL_UPLINK

theorem requestField_spec : ∀ d ∈ [2, 3, 4, 5, 6], (requestField d).width = 1 ∧ (requestField d).id ≠ F.PMU_DOMCTL_PORTS.id
    ∧ ∀ e ∈ [2, 3, 4, 5, 6], e ≠ d → (requestField e).id ≠ (requestField d).id := by decide

section
variable (s : State) {d e : Nat} (b : Bool)

theorem State.setDomRequest_single (own : d ∈ [2, 3, 4, 5, 6]) : s.setDomRequest d b = s.put (requestField d) 0 b := by
  fin_cases own <;> rfl

theorem State.domRequested_single (own : d ∈ [2, 3, 4, 5, 6]) : s.domRequested d = s.on (requestField d) 0 := by
  fin_cases own <;> rfl

theorem State.setDomRequest_ports (die : d ∈ [7, 8, 9, 10]) : s.setDomRequest d b = s.putBit F.PMU_DOMCTL_PORTS 0 (d - 7) b := by
  fin_cases die <;> rfl

theorem State.domRequested_ports (die : d ∈ [7, 8, 9, 10]) : s.domRequested d = s.bit F.PMU_DOMCTL_PORTS 0 (d - 7) := by
  fin_cases die <;> rfl

/-- A domain of SYS_DOMAIN has a field of its own, or is the port domain of a Currant. -/
theorem domain_kinds (domain : d ∈ [2, 3, 4, 5, 6, 7, 8, 9, 10]) : d ∈ [2, 3, 4, 5, 6] ∨ d ∈ [7, 8, 9, 10] := by
  revert d
  decide

theorem State.bit_putBit_ne {g : Field} {j k : Nat} (i : Nat) (v : Bool) (fits : j < g.width) (other : j ≠ k) :
    (s.putBit g i k v).bit g i j = s.bit g i j := by
  rw [State.putBit, State.bit_setFld_self s i _ fits, testBit_withBit_ne _ _ other]
  rfl

theorem State.setDomRequest_self (domain : d ∈ [2, 3, 4, 5, 6, 7, 8, 9, 10]) : (s.setDomRequest d b).domRequested d = b := by
  rcases domain_kinds domain with own | die
  · rw [State.setDomRequest_single _ _ own, State.domRequested_single _ own, State.on_put_self _ _ _ (requestField_spec d own).1]
  · have low : d - 7 < 4 := by revert d; decide
    rw [State.setDomRequest_ports _ _ die, State.domRequested_ports _ die]
    exact s.bit_putBit_self 0 b low

theorem State.setDomRequest_other (domain : d ∈ [2, 3, 4, 5, 6, 7, 8, 9, 10]) (asked : e ∈ [2, 3, 4, 5, 6, 7, 8, 9, 10])
    (other : e ≠ d) : (s.setDomRequest d b).domRequested e = s.domRequested e := by
  rcases domain_kinds domain with own | die <;> rcases domain_kinds asked with alone | port
  · rw [State.setDomRequest_single _ _ own, State.domRequested_single _ alone, State.domRequested_single _ alone]
    exact s.on_put_ne 0 0 b ((requestField_spec d own).2.2 e alone other)
  · rw [State.setDomRequest_single _ _ own, State.domRequested_ports _ port, State.domRequested_ports _ port]
    exact State.bit_of_fld (s.fld_put_ne 0 0 b (Ne.symm (requestField_spec d own).2.1)) _
  · rw [State.setDomRequest_ports _ _ die, State.domRequested_single _ alone, State.domRequested_single _ alone]
    exact s.on_setFld_ne 0 0 _ (requestField_spec e alone).2.1
  · have apart : e - 7 ≠ d - 7 := by
      simp only [List.mem_cons, List.not_mem_nil, or_false] at die port
      omega
    rw [State.setDomRequest_ports _ _ die, State.domRequested_ports _ port, State.domRequested_ports _ port]
    exact s.bit_putBit_ne 0 b (show e - 7 < 4 by simp only [List.mem_cons, List.not_mem_nil, or_false] at port; omega) apart

/-- What the ON and OFF masks of SYS_DOMAIN make of a request. -/
def domainAsked (on off d : Nat) (was : Bool) : Bool := if on.testBit d then true else if off.testBit d then false else was

/-- A domain of SYS_DOMAIN is requested on or off as the masks say (R446). -/
def State.askDomain (on off : Nat) (s : State) (d : Nat) : State :=
  if on.testBit d then s.setDomRequest d true else if off.testBit d then s.setDomRequest d false else s

variable (on off : Nat)

theorem State.askDomain_domRequested (domain : d ∈ [2, 3, 4, 5, 6, 7, 8, 9, 10]) (asked : e ∈ [2, 3, 4, 5, 6, 7, 8, 9, 10]) :
    (State.askDomain on off s d).domRequested e = if e = d then domainAsked on off e (s.domRequested e) else s.domRequested e := by
  by_cases same : e = d
  · subst same
    rw [if_pos rfl]
    unfold State.askDomain domainAsked
    split
    · exact s.setDomRequest_self true domain
    split
    · exact s.setDomRequest_self false domain
    · rfl
  · rw [if_neg same]
    unfold State.askDomain
    split
    · exact s.setDomRequest_other true domain asked same
    split
    · exact s.setDomRequest_other false domain asked same
    · rfl

theorem domainAsked_again (was : Bool) : domainAsked on off d (domainAsked on off d was) = domainAsked on off d was := by
  unfold domainAsked
  split_ifs <;> rfl

theorem State.each_askDomain {l : List Nat} (domains : ∀ d ∈ l, d ∈ [2, 3, 4, 5, 6, 7, 8, 9, 10])
    (asked : e ∈ [2, 3, 4, 5, 6, 7, 8, 9, 10]) :
    (s.each l (State.askDomain on off)).domRequested e =
      if e ∈ l then domainAsked on off e (s.domRequested e) else s.domRequested e := by
  induction l generalizing s with
  | nil => rfl
  | cons d l ih =>
    obtain ⟨first, rest⟩ := List.forall_mem_cons.mp domains
    refine (ih (State.askDomain on off s d) rest).trans ?_
    rw [State.askDomain_domRequested s on off first asked]
    by_cases same : e = d
    · rw [if_pos same, if_pos (List.mem_cons.mpr (.inl same)), domainAsked_again, ite_self]
    · rw [if_neg same]
      exact if_congr (by simp [same]) rfl rfl

/-- The request bits of the domains in PMU_DOMCTL. -/
def requestFields : List Field :=
  [F.PMU_DOMCTL_FABRIC, F.PMU_DOMCTL_SERVICE, F.PMU_DOMCTL_CHORD, F.PMU_DOMCTL_TRACE, F.PMU_DOMCTL_UPLINK, F.PMU_DOMCTL_PORTS]

theorem State.domRequested_of_fld {s t : State} (d : Nat) (h : ∀ g ∈ requestFields, t.fld g 0 = s.fld g 0) :
    t.domRequested d = s.domRequested d := by
  unfold requestFields at h
  simp only [List.forall_mem_cons] at h
  obtain ⟨fabric, service, chord, trace, uplink, ports, -⟩ := h
  unfold State.domRequested
  rw [State.on_of_fld fabric, State.on_of_fld service, State.on_of_fld chord, State.on_of_fld trace, State.on_of_fld uplink,
    State.bit_of_fld ports]

/-- The domains follow their requests, which stand (R66). -/
theorem State.domsFollow_domRequested : s.domsFollow.domRequested d = s.domRequested d := by
  have follows : Alters (allRegs - 1) [F.PMU_DOMSTAT_CHANGING] s s.domsFollow := .each (.refl s) fun s d => s.domFollow_alters d
  have outside : ∀ g ∈ requestFields, writable (allRegs - 1) [F.PMU_DOMSTAT_CHANGING] g = false := by decide
  exact State.domRequested_of_fld d fun g request => follows g 0 (outside g request)

theorem State.finish_domRequested (r : Reply) : (s.finish ch f r).domRequested d = s.domRequested d := by
  have block : ∀ g ∈ requestFields, blockOf g.id = .pmu := by decide
  exact State.domRequested_of_fld d fun g request => (State.finish_via ..).fld g 0 (by rw [block g request]; decide)

end

section
variable {on off : Nat} (runs : (s.mbx.at ch).running = some f) (coded : f.code = 0x0104) (ons : half f.payload 0 = on)
  (offs : half f.payload 2 = off)
include runs coded ons offs

theorem sysDomain_follows (quartered : Nat.lor on off % 4 = 0) (known : Nat.lor on off < 2048) (apart : Nat.land on off = 0)
    (allowed : s.on F.PMU_RAILSTAT_DB_ACTIVE 0 = false ∨ Nat.lor on off < 8) :
    Completes (.sysDomain ch) s fun t =>
      s.Answered t ch f 0 0 (le 2 (s.fld F.PMU_DOMSTAT_ON 0))
        ∧ (∀ d ∈ ([2, 3, 4, 5, 6, 7, 8, 9, 10] : List Nat), t.domRequested d =
          (if on.testBit d then true else if off.testBit d then false else s.domRequested d)) := by
  subst ons offs
  have good : ¬ (Nat.lor (half f.payload 0) (half f.payload 2) % 4 ≠ 0 ∨ 2048 ≤ Nat.lor (half f.payload 0) (half f.payload 2)
      ∨ Nat.land (half f.payload 0) (half f.payload 2) ≠ 0) := by
    omega
  have permitted : ¬ (s.on F.PMU_RAILSTAT_DB_ACTIVE 0
      && decide (Nat.lor (half f.payload 0) (half f.payload 2) / 8 ≠ 0)) = true := by
    rcases allowed with h | h
    · simp [h]
    · rw [Nat.div_eq_of_lt h]
      simp
  let asked := s.each [2, 3, 4, 5, 6, 7, 8, 9, 10] (State.askDomain (half f.payload 0) (half f.payload 2))
  have asks : Via 1 s asked := State.each_via (fun s d => .ite _ (s.setDomRequest_via d true)
    (.ite _ (s.setDomRequest_via d false) (.refl s))) s _
  have address : asked.domsFollow.fld F.CHORD_STAT_ADDR 0 = s.fld F.CHORD_STAT_ADDR 0 :=
    ((State.domsFollow_via _).fld _ 0 (by decide)).trans (asks.fld _ 0 (by decide))
  refine ⟨asked.domsFollow.finish ch f (Reply.give (le 2 (s.fld F.PMU_DOMSTAT_ON 0))),
    congrArg Host.Outcome.next (State.command_answers runs coded ((if_neg good).trans (if_neg permitted))),
    State.finish_answered ch f _ address, fun d domain => ?_⟩
  rw [State.finish_domRequested, State.domsFollow_domRequested]
  exact (s.each_askDomain _ _ (fun _ h => h) domain).trans (if_pos domain)

theorem sysDomain_malformed (bad : Nat.lor on off % 4 ≠ 0 ∨ 2048 ≤ Nat.lor on off ∨ Nat.land on off ≠ 0) :
    Completes (.sysDomain ch) s fun t =>
      s.Answered t ch f Status.badArg 0 [] ∧ (s.NoneWaits → t.power = s.power) := by
  subst ons offs
  exact ⟨_, congrArg Host.Outcome.next (State.command_answers runs coded (if_pos bad)),
    State.finish_answered ch f (Reply.of Status.badArg) rfl, fun _ => s.finish_power _⟩

theorem sysDomain_deadBattery (quartered : Nat.lor on off % 4 = 0) (known : Nat.lor on off < 2048) (apart : Nat.land on off = 0)
    (dead : s.on F.PMU_RAILSTAT_DB_ACTIVE 0 = true) (beyond : 8 ≤ Nat.lor on off) :
    Completes (.sysDomain ch) s fun t =>
      s.Answered t ch f Status.state 0 [] ∧ (s.NoneWaits → t.power = s.power) := by
  subst ons offs
  have good : ¬ (Nat.lor (half f.payload 0) (half f.payload 2) % 4 ≠ 0 ∨ 2048 ≤ Nat.lor (half f.payload 0) (half f.payload 2)
      ∨ Nat.land (half f.payload 0) (half f.payload 2) ≠ 0) := by
    omega
  refine ⟨_, congrArg Host.Outcome.next (State.command_answers runs coded ((if_neg good).trans (if_pos ?_))),
    State.finish_answered ch f (Reply.of Status.state) rfl, fun _ => s.finish_power _⟩
  rw [dead, Bool.true_and]
  exact decide_eq_true (by omega)

end

end Sys2Proof.Machine
end

section
/-! SYS_NOTICES and SYS_THAW (R116, R434, R446). -/

namespace Sys2Proof.Machine

-- One proof at a time: a default argument `by decide` waits for the text before it, and each proof that waits takes a thread.
set_option Elab.async false

variable {s : State} {ch : Nat} {f : Frame}

/-! ### SYS_NOTICES -/

section
variable (s : State) (en most : Nat)

/-- The types of notice of the board controller, where the command names them (R434). -/
def State.noticesEnabled : State := if en = 0xFF then s else s.setFld F.MBX_CTL_BCNOTEN 0 en

/-- The first notices leave the queue of the board controller (R434). -/
def State.noticesTaken : State :=
  (State.bcRefresh { s with bcq := s.bcq.pop (s.bcq.items.take most).length s.ct s.sync }).add F.MBX_BCCNT_NOTICES 0
    (s.bcq.items.take most).length

theorem State.noticesEnabled_alters : Alters 0 [F.MBX_CTL_BCNOTEN] s (s.noticesEnabled en) := .ite (.refl s) (.setFld (.refl s))

theorem State.noticesEnabled_bcq : (s.noticesEnabled en).bcq = s.bcq := by
  unfold State.noticesEnabled
  split <;> rfl

theorem State.noticesEnabled_types (known : en < 128 ∨ en = 0xFF) :
    (s.noticesEnabled en).fld F.MBX_CTL_BCNOTEN 0 = if en = 0xFF then s.fld F.MBX_CTL_BCNOTEN 0 else en := by
  unfold State.noticesEnabled
  split
  · rfl
  · next named => exact (fld_setFld_self ..).trans (Nat.mod_eq_of_lt (known.resolve_right named))

theorem State.noticesTaken_alters :
    Alters 0 [F.MBX_BCSTAT_NOTQ, F.MBX_BCSTAT_IRQ, F.MBX_BCCNT_NOTICES] s (s.noticesTaken most) :=
  .add (.put (.setFld (.records (.refl s))))

theorem NoticeQ.pop_items (q : NoticeQ) (n ct sync : Nat) (complete : q.dropped = 0) :
    (q.pop n ct sync).items = q.items.drop n := by
  rw [NoticeQ.pop, NoticeQ.refill, if_neg (by rw [complete]; exact fun h => absurd h.1 (lt_irrefl 0))]

theorem State.noticesTaken_items (complete : s.bcq.dropped = 0) : (s.noticesTaken most).bcq.items = s.bcq.items.drop most := by
  refine (NoticeQ.pop_items s.bcq _ s.ct s.sync complete).trans ?_
  rw [List.length_take]
  rcases le_total most s.bcq.items.length with within | beyond
  · rw [min_eq_left within]
  · rw [min_eq_right beyond, List.drop_length, List.drop_of_length_le beyond]

end

section
variable (runs : (s.mbx.at ch).running = some f) (coded : f.code = 0x0106)
include runs coded

theorem sysNotices_reads (known : byteAt f.payload 0 < 128 ∨ byteAt f.payload 0 = 0xFF) (few : byteAt f.payload 1 ≤ 32) :
    Completes (.sysNotices ch) s fun t =>
      s.Answered t ch f 0 0 ((s.bcq.items.take (byteAt f.payload 1)).flatMap noticeBytes)
        ∧ t.fld F.MBX_CTL_BCNOTEN 0 = (if byteAt f.payload 0 = 0xFF then s.fld F.MBX_CTL_BCNOTEN 0 else byteAt f.payload 0)
        ∧ (s.NoneWaits → s.bcq.dropped = 0 → t.bcq.items = s.bcq.items.drop (byteAt f.payload 1)) := by
  let s₁ := s.noticesEnabled (byteAt f.payload 0)
  let s₂ := s₁.noticesTaken (byteAt f.payload 1)
  have enabled := s.noticesEnabled_alters (byteAt f.payload 0)
  have taken := s₁.noticesTaken_alters (byteAt f.payload 1)
  have queue : s₁.bcq = s.bcq := s.noticesEnabled_bcq _
  have good : ¬ ((128 ≤ byteAt f.payload 0 ∧ byteAt f.payload 0 ≠ 0xFF) ∨ 32 < byteAt f.payload 1) := by omega
  refine ⟨s₂.finish ch f (Reply.give ((s₁.bcq.items.take (byteAt f.payload 1)).flatMap noticeBytes)),
    congrArg Host.Outcome.next (State.command_answers runs coded (if_neg good)), ?_, ?_, fun idle complete => ?_⟩
  · rw [← queue]
    exact State.finish_answered ch f _ ((taken _ 0 (by decide)).trans (enabled _ 0 (by decide)))
  · rw [State.finish_alters s₂ ch f _ _ _ (by decide), taken _ 0 (by decide)]
    exact s.noticesEnabled_types _ known
  · have idle' : s₂.NoneWaits := by
      have tat : s₂.tat = s.tat := by
        dsimp only [s₂, s₁, State.noticesEnabled]
        split <;> rfl
      intro e waits
      exact idle e (tat ▸ waits)
    rw [State.finish_bcq idle', ← queue]
    exact s₁.noticesTaken_items _ (by rw [queue, complete])

theorem sysNotices_malformed (bad : (128 ≤ byteAt f.payload 0 ∧ byteAt f.payload 0 ≠ 0xFF) ∨ 32 < byteAt f.payload 1) :
    Completes (.sysNotices ch) s fun t =>
      s.Answered t ch f Status.badArg 0 [] ∧ t.fld F.MBX_CTL_BCNOTEN 0 = s.fld F.MBX_CTL_BCNOTEN 0
        ∧ (s.NoneWaits → t.bcq = s.bcq) :=
  ⟨_, congrArg Host.Outcome.next (State.command_answers runs coded (if_pos bad)),
    State.finish_answered ch f (Reply.of Status.badArg) rfl, State.finish_alters s ch f _ _ _ (by decide),
    fun idle => State.finish_bcq idle ..⟩

end

/-! ### SYS_THAW -/

theorem State.thaw_frozen {s : State} {m : Nat} (low : 1 ≤ m) (high : m ≤ 10) (frozen : s.bit F.MPU_FREEZE_FROZEN 0 m = true)
    (free : s.freezeHeld m = false) (plain : m < 5 ∨ 8 < m) : (s.thaw m).bit F.MPU_FREEZE_FROZEN 0 m = false := by
  have thawed : s.thaw m = (s.unfreeze m).absentAccess (((homeAt (Tbl.at s.frozen m).addr).map (·.die)).getD 0) := by
    rw [State.thaw, if_pos ⟨low, high, frozen, free⟩]
    exact if_neg fun h => by omega
  rw [thawed]
  exact (State.bit_of_fld ((State.absentAccess_via ..).fld _ 0 (by decide)) m).trans
    (s.bit_putBit_self 0 false (show m < 11 by omega))

section
variable {m : Nat} (runs : (s.mbx.at ch).running = some f) (coded : f.code = 0x0107) (named : byteAt f.payload 0 = m)
include runs coded named

theorem sysThaw_thaws (low : 1 ≤ m) (high : m ≤ 10) (frozen : s.bit F.MPU_FREEZE_FROZEN 0 m = true)
    (free : s.freezeHeld m = false) :
    Completes (.sysThaw ch) s fun t =>
      (t.mbx.at ch).running = none ∧ (ch ≤ 1 → (t.lastReply ch).map (·.status) = some 0)
        ∧ ((m < 5 ∨ 8 < m) → t.bit F.MPU_FREEZE_FROZEN 0 m = false) := by
  subst named
  have master : ¬ (byteAt f.payload 0 = 0 ∨ 10 < byteAt f.payload 0) := by omega
  have allowed : (s.bit F.MPU_FREEZE_FROZEN 0 (byteAt f.payload 0) && !s.freezeHeld (byteAt f.payload 0)) = true := by
    rw [frozen, free]
    rfl
  refine ⟨(s.thaw (byteAt f.payload 0)).finish ch f (Reply.of 0),
    congrArg Host.Outcome.next (State.command_answers runs coded ((if_neg master).trans (if_pos allowed))),
    State.finish_running .., fun host => ?_, fun plain => ?_⟩
  · rw [State.finish_lastReply _ _ _ host]
    rfl
  · exact (State.bit_of_fld ((State.finish_via ..).fld _ 0 (by decide)) _).trans (State.thaw_frozen low high frozen free plain)

theorem sysThaw_malformed (none : m = 0 ∨ 10 < m) :
    Completes (.sysThaw ch) s fun t =>
      s.Answered t ch f Status.badArg 0 [] ∧ t.fld F.MPU_FREEZE_FROZEN 0 = s.fld F.MPU_FREEZE_FROZEN 0 := by
  subst named
  exact ⟨_, congrArg Host.Outcome.next (State.command_answers runs coded (if_pos none)),
    State.finish_answered ch f (Reply.of Status.badArg) rfl, (State.finish_via ..).fld _ 0 (by decide)⟩

theorem sysThaw_state (low : 1 ≤ m) (high : m ≤ 10)
    (held : s.bit F.MPU_FREEZE_FROZEN 0 m = false ∨ s.freezeHeld m = true) :
    Completes (.sysThaw ch) s fun t =>
      s.Answered t ch f Status.state 0 [] ∧ t.fld F.MPU_FREEZE_FROZEN 0 = s.fld F.MPU_FREEZE_FROZEN 0 := by
  subst named
  have master : ¬ (byteAt f.payload 0 = 0 ∨ 10 < byteAt f.payload 0) := by omega
  have barred : ¬ (s.bit F.MPU_FREEZE_FROZEN 0 (byteAt f.payload 0) && !s.freezeHeld (byteAt f.payload 0)) = true := by
    rcases held with h | h <;> simp [h]
  exact ⟨_, congrArg Host.Outcome.next (State.command_answers runs coded ((if_neg master).trans (if_neg barred))),
    State.finish_answered ch f (Reply.of Status.state) rfl, (State.finish_via ..).fld _ 0 (by decide)⟩

end

end Sys2Proof.Machine
end

section
/-! SYS_PART (R101, R103, R446): the settings of a partition that firmware writes. -/

namespace Sys2Proof.Machine

-- One proof at a time: a default argument `by decide` waits for the text before it, and each proof that waits takes a thread.
set_option Elab.async false

/-! ### Groups of writes, a field at most once each -/

/-- The writes are of fields that differ. -/
abbrev FieldsApart (l : List Staged) : Prop := l.Pairwise fun x y => y.field.id ≠ x.field.id

section
variable {β : Type} {g : State → Staged → State} {view : State → β} {stands : State → Prop} {l : List Staged}

theorem foldl_kept_of_mem (inv : ∀ t, ∀ y ∈ l, stands t → stands (g t y))
    (keeps : ∀ t, ∀ y ∈ l, stands t → view (g t y) = view t) {t : State} (start : stands t) : view (l.foldl g t) = view t := by
  induction l generalizing t with
  | nil => rfl
  | cons y l ih =>
    exact (ih (fun t z later => inv t z (.tail _ later)) (fun t z later => keeps t z (.tail _ later))
      (inv t y (.head _) start)).trans (keeps t y (.head _) start)

/-- What a fold over writes of different fields makes of the field of one of them: what that write makes of it. -/
theorem foldl_written {x : Staged} {v : β} (apart : FieldsApart l) (inv : ∀ t, ∀ y ∈ l, stands t → stands (g t y))
    (sets : ∀ t, stands t → view (g t x) = v) (keeps : ∀ t, ∀ y ∈ l, y.field.id ≠ x.field.id → stands t → view (g t y) = view t)
    (member : x ∈ l) {t : State} (start : stands t) : view (l.foldl g t) = v := by
  induction l generalizing t with
  | nil => cases member
  | cons y l ih =>
    obtain ⟨first, rest⟩ := List.pairwise_cons.mp apart
    have later : ∀ t, ∀ z ∈ l, stands t → stands (g t z) := fun t z tail => inv t z (.tail _ tail)
    rcases List.mem_cons.mp member with rfl | tail
    · refine (foldl_kept_of_mem later (fun t z tail => keeps t z (.tail _ tail) (first z tail)) (inv t x (.head _) start)).trans ?_
      exact sets t start
    · exact ih rest later (fun t z tail => keeps t z (.tail _ tail)) tail (inv t y (.head _) start)

end

/-! ### The fields of SYS_PART -/

/-- The fields that SYS_PART writes (R446). -/
def partFields : List Field :=
  [F.PART_PCTL_PULLUP, F.PART_PCTL_VBUS_HOLD, F.PART_PCTL_ACCEPT, F.MF_CTL_CONNECT, F.MF_CTL_SOFMODE, F.MF_CTL_NOTEN]

/-- No rule but that of an absent upstream port ignores a write of a field of SYS_PART. -/
theorem partFields_plain : ∀ g ∈ partFields, portWindow g = false ∧ g.id / 32 ≠ F.MF_EPD_START.id / 32
    ∧ g.id ≠ F.MPU_WBASE_BASE.id ∧ g.id ≠ F.MPU_WLIMIT_LIMIT.id ∧ g.id / 32 ≠ F.MPU_WATTR_LOCK.id / 32
    ∧ g.id / 32 ≠ F.CHORD_DNRANGE_DNLO.id / 32 ∧ g.id ≠ F.IC_CORECTL_RESET.id ∧ g.id ≠ F.IC_SRC_PRIO.id
    ∧ g.id / 32 ≠ F.TGT_CNT0_BADOPS.id / 32 ∧ g.id / 32 ≠ F.TGT_CNT1_CUTREADS.id / 32 := by decide

/-- The write of a field of SYS_PART sets it, and nothing else: no hardware change rivals it. -/
theorem partFields_written : ∀ g ∈ partFields, g.id ≠ F.RTC_EPOCH_LO_EPOCH.id ∧ g.id ≠ F.RTC_EPOCH_HI_EPOCH.id
    ∧ actsItself g = false ∧ g.id / 32 ≠ F.PART_ASSIGN_PORT0.id / 32 := by decide

section
variable {s : State} {k : Nat} {g : Field}

theorem State.hasUpstream_lt (up : s.hasUpstream k = true) : k < 4 := by
  unfold State.hasUpstream at up
  simp only [Bool.or_eq_true, decide_eq_true_eq, Bool.and_eq_true] at up
  omega

theorem State.hasUpstream_of_dies {s t : State} (h : t.dies = s.dies) (k : Nat) : t.hasUpstream k = s.hasUpstream k := by
  rw [State.hasUpstream, State.sloe, h]
  rfl

theorem State.ignores_partField (listed : g ∈ partFields) (up : s.hasUpstream k = true) : s.ignores g k = false := by
  obtain ⟨window, epd, base, limit, lock, ranges, reset, prio, badOps, cutReads⟩ := partFields_plain g listed
  have within : ¬ 33 ≤ k := by have := State.hasUpstream_lt up; omega
  simp [State.ignores, State.absentSlot, up, window, epd, base, limit, lock, ranges, reset, prio, badOps, cutReads, within]

variable (s) in
theorem State.takeWrite_partField {x : Staged} (listed : x.field ∈ partFields) :
    s.takeWrite [] x = s.setFld x.field x.index x.value := by
  obtain ⟨low, high, plain, -⟩ := partFields_written x.field listed
  have alone : s.rival [] x.field x.index = none := by
    rw [State.rival, if_neg (fun h => h.2.elim low high)]
    rfl
  rw [State.takeWrite, alone]
  exact if_neg (by rw [plain]; decide)

variable (s) in
theorem State.stageOne_partField {x : Staged} (listed : x.field ∈ partFields) :
    s.stageOne x = { s.unstage x with staged := (s.unstage x).staged ++ [x] } := by
  have plain : s.openNibble x = (x, s) := if_neg fun h => (partFields_written x.field listed).2.2.2 h.1
  rw [State.stageOne, plain]

end

/-! ### Writes that wait -/

section
variable (s : State) {x : Staged} {g : Field} {i : Nat}

theorem State.unstage_pendingWrite_self : (s.unstage x).pendingWrite x.field x.index = none := by
  have gone : (s.unstage x).staged.find? (fun y => y.field.id == x.field.id && y.index == x.index) = none := by
    rw [List.find?_eq_none]
    intro y stands
    have apart := (List.mem_filter.mp stands).2
    simpa [imp_iff_not_or] using apart
  rw [State.pendingWrite, gone]
  rfl

theorem State.unstage_pendingWrite_other (other : x.field.id ≠ g.id) : (s.unstage x).pendingWrite g i = s.pendingWrite g i := by
  unfold State.pendingWrite State.unstage
  dsimp only
  rw [List.find?_filter]
  congr 2
  funext y
  cases picked : (y.field.id == g.id && y.index == i) with
  | false => simp
  | true =>
    rw [Bool.and_eq_true, beq_iff_eq] at picked
    simp [picked.1, Ne.symm other]

/-- A write that waits behind the others. -/
def State.queuedWrite (s : State) (x : Staged) : State := { s with staged := s.staged ++ [x] }

theorem State.queuedWrite_self (free : s.pendingWrite x.field x.index = none) :
    (s.queuedWrite x).pendingWrite x.field x.index = some x.value := by
  have none : s.staged.find? (fun y => y.field.id == x.field.id && y.index == x.index) = none := by
    simpa [State.pendingWrite] using free
  unfold State.pendingWrite State.queuedWrite
  dsimp only
  rw [List.find?_append, none]
  simp

theorem State.queuedWrite_other (other : x.field.id ≠ g.id) : (s.queuedWrite x).pendingWrite g i = s.pendingWrite g i := by
  unfold State.pendingWrite State.queuedWrite
  dsimp only
  rw [List.find?_append, List.find?_cons_of_neg (by simp [other]), List.find?_nil, Option.or_none]

end

section
variable {s : State} {k : Nat} {l : List Staged} {x : Staged} (apart : FieldsApart l)
  (listed : ∀ y ∈ l, y.field ∈ partFields ∧ y.index = k) (up : s.hasUpstream k = true)
include apart listed up

theorem State.stageAll_pendingWrite (member : x ∈ l) : (s.stageAll l).pendingWrite x.field k = some x.value := by
  have staged : ∀ (t : State), ∀ y ∈ l, t.hasUpstream k = true →
      (if t.ignores y.field y.index then t else t.stageOne y) = (t.unstage y).queuedWrite y := by
    intro t y member up
    obtain ⟨field, rfl⟩ := listed y member
    rw [State.ignores_partField field up, if_neg (by decide), t.stageOne_partField field]
    rfl
  refine foldl_written (view := fun t => t.pendingWrite x.field k) (stands := fun t => t.hasUpstream k = true) apart ?_ ?_ ?_
    member up
  · intro t y member up
    rw [staged t y member up]
    exact (State.hasUpstream_of_dies rfl k).trans up
  · intro t up
    obtain ⟨-, rfl⟩ := listed x member
    rw [staged t x member up]
    exact State.queuedWrite_self _ (t.unstage_pendingWrite_self)
  · intro t y member other up
    rw [staged t y member up, State.queuedWrite_other _ other, t.unstage_pendingWrite_other other]

/-! ### Writes that apply at once -/

omit apart in
theorem State.taken_partField (t : State) {y : Staged} (member : y ∈ l) :
    s.taken [] t y = (t.setFld y.field y.index y.value).unstage y := by
  obtain ⟨field, rfl⟩ := listed y member
  rw [State.taken, State.ignores_partField field up, if_neg (by decide), t.takeWrite_partField field]

theorem State.foldl_taken_fld (member : x ∈ l) (t : State) :
    (l.foldl (s.taken []) t).fld x.field k = x.value % 2 ^ x.field.width := by
  refine foldl_written (view := fun t => t.fld x.field k) (stands := fun _ => True) apart (fun _ _ _ _ => trivial) ?_ ?_ member
    trivial
  · intro t _
    obtain ⟨-, rfl⟩ := listed x member
    rw [State.taken_partField listed up t member]
    exact fld_setFld_self ..
  · intro t y member other _
    rw [State.taken_partField listed up t member]
    exact fld_setFld_ne _ _ _ _ (Ne.symm other)

omit apart in
theorem State.foldl_taken_pendingWrite (member : x ∈ l) (t : State) :
    (l.foldl (s.taken []) t).pendingWrite x.field k = none := by
  obtain ⟨-, rfl⟩ := listed x member
  have gone : (l.foldl (s.taken []) t).staged.find? (fun y => y.field.id == x.field.id && y.index == x.index) = none := by
    rw [List.find?_eq_none]
    intro y stands
    have ended := (s.foldl_taken_staged [] l t stands).2 x member
    simpa [imp_iff_not_or, not_and_or] using ended
  rw [State.pendingWrite, gone]
  rfl

omit apart in
theorem State.foldl_taken_pendingWrite_other {g : Field} (other : ∀ y ∈ l, y.field.id ≠ g.id) (t : State) :
    (l.foldl (s.taken []) t).pendingWrite g k = t.pendingWrite g k :=
  foldl_kept_of_mem (view := fun t => t.pendingWrite g k) (stands := fun _ => True) (fun _ _ _ _ => trivial)
    (fun t y member _ => by
      rw [State.taken_partField listed up t member, State.unstage_pendingWrite_other _ (other y member)]
      rfl) trivial

end

/-- What follows a field of SYS_PART that applies at once leaves its settings (R123, R135): PULLUP changes the presence. -/
theorem State.applied_partField (s old : State) {g : Field} (i v : Nat) (listed : g ∈ partFields) (instant : g.applies = .i) :
    KeepsSettings s (s.applied old g i v) := by
  have presence : s.applied old F.PART_PCTL_PULLUP i v = s.presence i := rfl
  simp only [partFields, List.mem_cons, List.not_mem_nil, or_false] at listed
  rcases listed with rfl | rfl | rfl | rfl | rfl | rfl
  · rw [presence]
    exact s.presence_keepsSettings i
  · cases instant
  · exact .refl s
  · cases instant
  · exact .refl s
  · exact .refl s

theorem partFields_settings : ∀ g ∈ partFields, writable eventMask eventWrites g = false
    ∧ writable eventMask (F.MBX_CHCNT1_DENIED :: answerWrites) g = false ∧ g.id ≠ F.TCPD_SINKCFG_SEL.id := by decide

section
variable {s : State} {k : Nat} {l : List Staged} {x : Staged} (apart : FieldsApart l)
  (listed : ∀ y ∈ l, y.field ∈ partFields ∧ y.index = k) (up : s.hasUpstream k = true)
include apart listed up

theorem State.applyAll_fld (instant : ∀ y ∈ l, y.field.applies = .i) (member : x ∈ l) :
    (s.applyAll [] l).fld x.field k = x.value % 2 ^ x.field.width := by
  have setting := (partFields_settings x.field (listed x member).1).1
  rw [s.applyAll_eq, ← State.foldl_taken_fld apart listed up member s]
  refine foldl_kept_of_mem (view := fun t => t.fld x.field k) (stands := fun _ => True) (fun _ _ _ _ => trivial) ?_ trivial
  intro t y won _
  have written := List.mem_of_mem_filter won
  exact t.applied_partField s _ _ (listed y written).1 (instant y written) x.field k setting

omit apart listed up in
theorem State.applyAll_pendingWrite_eq (g : Field) :
    (s.applyAll [] l).pendingWrite g k = (l.foldl (s.taken []) s).pendingWrite g k := by
  have follows : ∀ (t : State) (x : Staged), (t.applied s x.field x.index x.value).staged = t.staged := fun t x =>
    t.applied_staged s x.field x.index x.value
  rw [s.applyAll_eq]
  exact State.pendingWrite_of_staged (foldl_kept State.staged follows _ _) g k

/-! ### Firmware's writes -/

omit apart listed up in
theorem partFields_applies : ∀ g ∈ partFields, ∀ h ∈ partFields, g.id = h.id → g.applies = h.applies := by decide

/-- A field that applies at once reads what firmware wrote (R101). -/
theorem State.fwWrite_instant (member : x ∈ l) (instant : x.field.applies = .i) :
    (s.fwWrite l).stagedFld x.field k = x.value % 2 ^ x.field.width := by
  let waiting := l.filter (fun x => x.field.applies != .i)
  let now := l.filter (fun x => x.field.applies == .i)
  have dies : (s.stageAll waiting).dies = s.dies := (State.stageAll_via ..).fld _ 0 (by decide)
  have upstream : (s.stageAll waiting).hasUpstream k = true := (State.hasUpstream_of_dies dies k).trans up
  have nowListed : ∀ y ∈ now, y.field ∈ partFields ∧ y.index = k := fun y h => listed y (List.mem_of_mem_filter h)
  have nowInstant : ∀ y ∈ now, y.field.applies = .i := fun y h => beq_iff_eq.mp (List.mem_filter.mp h).2
  have chosen : x ∈ now := List.mem_filter.mpr ⟨member, beq_iff_eq.mpr instant⟩
  have ended : ((s.stageAll waiting).applyAll [] now).pendingWrite x.field k = none := by
    rw [State.applyAll_pendingWrite_eq, State.foldl_taken_pendingWrite nowListed upstream chosen]
  have value := State.applyAll_fld (apart.filter _) nowListed upstream nowInstant chosen
  change ((s.stageAll waiting).applyAll [] now).stagedFld x.field k = _
  rw [State.stagedFld, ended, value]
  rfl

/-- A field that applies at its boundary waits with what firmware wrote (R102, R103). -/
theorem State.fwWrite_waiting (member : x ∈ l) (waits : x.field.applies ≠ .i) : (s.fwWrite l).stagedFld x.field k = x.value := by
  let waiting := l.filter (fun x => x.field.applies != .i)
  let now := l.filter (fun x => x.field.applies == .i)
  have dies : (s.stageAll waiting).dies = s.dies := (State.stageAll_via ..).fld _ 0 (by decide)
  have upstream : (s.stageAll waiting).hasUpstream k = true := (State.hasUpstream_of_dies dies k).trans up
  have nowListed : ∀ y ∈ now, y.field ∈ partFields ∧ y.index = k := fun y h => listed y (List.mem_of_mem_filter h)
  have queued : ∀ y ∈ waiting, y.field ∈ partFields ∧ y.index = k := fun y h => listed y (List.mem_of_mem_filter h)
  have chosen : x ∈ waiting := List.mem_filter.mpr ⟨member, bne_iff_ne.mpr waits⟩
  have others : ∀ y ∈ now, y.field.id ≠ x.field.id := fun y h same =>
    waits ((partFields_applies _ (queued x chosen).1 _ (nowListed y h).1 same.symm).trans (beq_iff_eq.mp (List.mem_filter.mp h).2))
  have stands : ((s.stageAll waiting).applyAll [] now).pendingWrite x.field k = some x.value := by
    rw [State.applyAll_pendingWrite_eq, State.foldl_taken_pendingWrite_other nowListed upstream others,
      State.stageAll_pendingWrite (apart.filter _) queued up chosen]
  change ((s.stageAll waiting).applyAll [] now).stagedFld x.field k = _
  rw [State.stagedFld, stands]
  rfl

end

/-! ### SYS_PART -/

/-- The bits of the WRITE mask, with the field that each writes and its value. -/
def partTable (p : List Nat) : List (Nat × Field × Nat) :=
  [(0, F.PART_PCTL_PULLUP, byteAt p 2 % 2), (1, F.PART_PCTL_VBUS_HOLD, byteAt p 2 / 2 % 2), (2, F.PART_PCTL_ACCEPT, byteAt p 3),
    (3, F.MF_CTL_CONNECT, byteAt p 2 / 8 % 2), (4, F.MF_CTL_SOFMODE, byteAt p 4), (5, F.MF_CTL_NOTEN, byteAt p 5)]

section
variable (k : Nat) (p : List Nat)

theorem partWrites_eq : partWrites k p =
    (partTable p).filterMap (fun e => if (byteAt p 1).testBit e.1 then some ⟨e.2.1, k, e.2.2⟩ else none) := rfl

theorem partTable_fields : (partTable p).map (·.2.1) = partFields := rfl

theorem mem_partWrites {y : Staged} : y ∈ partWrites k p ↔
    ∃ e ∈ partTable p, (byteAt p 1).testBit e.1 = true ∧ (⟨e.2.1, k, e.2.2⟩ : Staged) = y := by
  simp only [partWrites_eq, List.mem_filterMap, Option.ite_none_right_eq_some, Option.some.injEq]

theorem partWrites_listed : ∀ y ∈ partWrites k p, y.field ∈ partFields ∧ y.index = k := by
  intro y member
  obtain ⟨e, row, -, rfl⟩ := (mem_partWrites k p).mp member
  exact ⟨partTable_fields p ▸ List.mem_map_of_mem row, rfl⟩

theorem partFields_apart : partFields.Pairwise fun g h => h.id ≠ g.id := by decide

theorem partWrites_apart : FieldsApart (partWrites k p) := by
  have rows : (partTable p).Pairwise fun d e => e.2.1.id ≠ d.2.1.id := List.pairwise_map.mp (partTable_fields p ▸ partFields_apart)
  unfold FieldsApart
  rw [partWrites_eq]
  refine rows.filterMap _ fun d e apart x hx y hy => ?_
  simp only [Option.ite_none_right_eq_some, Option.some.injEq] at hx hy
  rw [← hx.2, ← hy.2]
  exact apart

variable {k p} {s : State} {b : Nat} {g : Field} {v : Nat}

theorem State.fwWrite_partWrites_instant (up : s.hasUpstream k = true) (row : (b, g, v) ∈ partTable p)
    (instant : g.applies = .i) (fits : v < 2 ^ g.width) (named : (byteAt p 1).testBit b = true) :
    (s.fwWrite (partWrites k p)).stagedFld g k = v := by
  have member : (⟨g, k, v⟩ : Staged) ∈ partWrites k p := (mem_partWrites k p).mpr ⟨_, row, named, rfl⟩
  exact (State.fwWrite_instant (partWrites_apart k p) (partWrites_listed k p) up member instant).trans (Nat.mod_eq_of_lt fits)

theorem State.fwWrite_partWrites_waiting (up : s.hasUpstream k = true) (row : (b, g, v) ∈ partTable p)
    (waits : g.applies ≠ .i) (named : (byteAt p 1).testBit b = true) :
    (s.fwWrite (partWrites k p)).stagedFld g k = v := by
  have member : (⟨g, k, v⟩ : Staged) ∈ partWrites k p := (mem_partWrites k p).mpr ⟨_, row, named, rfl⟩
  exact State.fwWrite_waiting (partWrites_apart k p) (partWrites_listed k p) up member waits

theorem partWrites_of_unnamed (none : byteAt p 1 % 64 = 0) : partWrites k p = [] := by
  have unnamed : ∀ b < 6, (byteAt p 1).testBit b = false := by
    intro b low
    have bits : (byteAt p 1 % 2 ^ 6).testBit b = false := by rw [show byteAt p 1 % 2 ^ 6 = 0 from none, Nat.zero_testBit]
    rwa [Nat.testBit_mod_two_pow, decide_eq_true low, Bool.true_and] at bits
  have rows : ∀ e ∈ partTable p, e.1 < 6 := by
    simp [partTable]
  rw [partWrites_eq, List.filterMap_eq_nil_iff]
  intro e row
  rw [unnamed e.1 (rows e row)]
  rfl

end

/-- The registers that SYS_PART answers (R446). -/
def State.partAnswer (s : State) (k : Nat) : List Nat :=
  s.reg4 F.PART_PCTL_PULLUP k ++ s.reg4 F.PART_PSTAT_HOST k ++ s.reg4 F.MF_CTL_CONNECT k ++ s.reg4 F.MF_STAT_PSTATE k

/-- A setting of SYS_PART stands through the end of the command (R430). -/
theorem State.finish_stagedFld {g : Field} (s : State) (ch : Nat) (f : Frame) (r : Reply) (k : Nat) (listed : g ∈ partFields) :
    (s.finish ch f r).stagedFld g k = s.stagedFld g k := by
  obtain ⟨-, setting, other⟩ := partFields_settings g listed
  rw [State.stagedFld, s.finish_keepsWrites ch f r g k other, s.finish_alters ch f r g k setting, State.stagedFld]

section
variable {s : State} {ch k : Nat} {f : Frame} (runs : (s.mbx.at ch).running = some f) (coded : f.code = 0x0105)
  (part : byteAt f.payload 0 = k) (up : s.hasUpstream k = true)
include runs coded part up

theorem sysPart_writes {m : Nat} (named : byteAt f.payload 1 = m) (free : ch < 3) (lit : s.needs Dom.fabric = true)
    (accept : byteAt f.payload 3 < 16) (mode : byteAt f.payload 4 < 4) (types : byteAt f.payload 5 < 128) :
    Completes (.sysPart ch) s fun t =>
      (t.mbx.at ch).running = none ∧ (m.testBit 0 = true → t.stagedFld F.PART_PCTL_PULLUP k = byteAt f.payload 2 % 2)
        ∧ (m.testBit 1 = true → t.stagedFld F.PART_PCTL_VBUS_HOLD k = byteAt f.payload 2 / 2 % 2)
        ∧ (m.testBit 2 = true → t.stagedFld F.PART_PCTL_ACCEPT k = byteAt f.payload 3)
        ∧ (m.testBit 3 = true → t.stagedFld F.MF_CTL_CONNECT k = byteAt f.payload 2 / 8 % 2)
        ∧ (m.testBit 4 = true → t.stagedFld F.MF_CTL_SOFMODE k = byteAt f.payload 4)
        ∧ (m.testBit 5 = true → t.stagedFld F.MF_CTL_NOTEN k = byteAt f.payload 5)
        ∧ (m % 64 = 0 →
          s.Answered t ch f 0 0 (s.reg4 F.PART_PCTL_PULLUP k ++ s.reg4 F.PART_PSTAT_HOST k ++ s.reg4 F.MF_CTL_CONNECT k
            ++ s.reg4 F.MF_STAT_PSTATE k)) := by
  subst part named
  let k := byteAt f.payload 0
  let s₁ := s.fwWrite (partWrites k f.payload)
  have unrestricted : restrictedPart ch = none := if_neg (by omega)
  have within : ¬ (!s.hasUpstream k || partBad f.payload) = true := by
    simp [k, up, partBad, Nat.not_le.mpr accept, Nat.not_le.mpr mode, Nat.not_le.mpr types]
  have on : ¬ (!s.needs Dom.fabric) = true := by rw [lit]; decide
  have answers : exec (.sysPart ch) s = .next (s₁.finish ch f (Reply.give (s₁.partAnswer k))) := by
    refine congrArg Host.Outcome.next (State.command_answers runs coded ?_)
    rw [unrestricted]
    exact (if_neg Bool.false_ne_true).trans ((if_neg within).trans (if_neg on))
  have kept : ∀ g ∈ partFields, (s₁.finish ch f (Reply.give (s₁.partAnswer k))).stagedFld g k = s₁.stagedFld g k := fun g listed =>
    s₁.finish_stagedFld ch f _ k listed
  have one : ∀ n, n % 2 < 2 := fun n => Nat.mod_lt _ (by decide)
  refine ⟨_, answers, State.finish_running .., fun bit => ?_, fun bit => ?_, fun bit => ?_, fun bit => ?_, fun bit => ?_,
    fun bit => ?_, fun none => ?_⟩
  · exact (kept _ (by simp [partFields])).trans (State.fwWrite_partWrites_instant up (by simp [partTable]) rfl (one _) bit)
  · exact (kept _ (by simp [partFields])).trans (State.fwWrite_partWrites_waiting up (by simp [partTable]) (by decide) bit)
  · exact (kept _ (by simp [partFields])).trans (State.fwWrite_partWrites_instant up (by simp [partTable]) rfl accept bit)
  · exact (kept _ (by simp [partFields])).trans (State.fwWrite_partWrites_waiting up (by simp [partTable]) (by decide) bit)
  · exact (kept _ (by simp [partFields])).trans (State.fwWrite_partWrites_instant up (by simp [partTable]) rfl mode bit)
  · exact (kept _ (by simp [partFields])).trans (State.fwWrite_partWrites_instant up (by simp [partTable]) rfl types bit)
  · have still : s₁ = s := by
      dsimp only [s₁]
      rw [partWrites_of_unnamed none]
      rfl
    rw [still]
    exact State.finish_answered ch f (Reply.give (s.partAnswer k)) rfl

theorem sysPart_denied {j : Nat} (restricted : ch = 2 + j) (low : 1 ≤ j) (high : j ≤ 3)
    (barred : k ≠ j ∨ byteAt f.payload 1 ≠ 0) :
    Completes (.sysPart ch) s fun t =>
      (t.mbx.at ch).running = none ∧ t.fld F.MBX_CHCNT1_DENIED ch = (s.fld F.MBX_CHCNT1_DENIED ch + 1) % 2 ^ 16
        ∧ (s.NoneWaits → t.hw = s.hw ∧ t.staged = s.staged) := by
  subst part
  have own : restrictedPart ch = some j := by
    rw [restrictedPart, if_pos (by omega), restricted, Nat.add_sub_cancel_left]
  have refused : ((restrictedPart ch).any (fun j => (decide (j ≠ byteAt f.payload 0) && s.hasUpstream (byteAt f.payload 0))
      || decide (byteAt f.payload 1 ≠ 0))) = true := by
    rw [own, up]
    rcases barred with other | writes
    · simp [Ne.symm other]
    · simp [writes]
  have channel : chReg ch = ch := Nat.min_eq_right (by omega)
  have denied := s.finish_denied (ch := ch) f (r := Reply.of Status.denied) rfl
  rw [channel] at denied
  exact ⟨_, congrArg Host.Outcome.next (State.command_answers runs coded (if_pos refused)), State.finish_running .., denied,
    fun idle => ⟨(State.finish_via ..).same .hw (by decide), State.finish_staged idle ..⟩⟩

end

/-- Settles O50: a clause per command and answer, each from what the command's own effect and the end of a command leave. -/
theorem systemMailboxCommands : Obligations.SystemMailboxCommands := by
  refine ⟨fun s ch f => sysInfo_answers, fun s ch f => sysReset_waits, fun s ch f => sysReset_refuses, fun s ch f => sysDormant_past,
    fun s ch f => sysDormant_busy, fun s ch f => sysDormant_state, fun s ch f wake => sysDormant_enters,
    fun s ch f on off => sysDomain_follows, fun s ch f on off => sysDomain_malformed, fun s ch f on off => sysDomain_deadBattery,
    fun s ch f k m runs coded part named up => sysPart_writes runs coded part up named, fun s ch f k j runs coded part up => sysPart_denied runs coded part up,
    fun s ch f => sysNotices_reads, fun s ch f => sysNotices_malformed, fun s ch f m => sysThaw_thaws,
    fun s ch f m => sysThaw_malformed, fun s ch f m => sysThaw_state⟩

end Sys2Proof.Machine
end

section
/-! The canonical form of registers and memory (log entry 7): the part has it after reset, and every step keeps it. -/

namespace Sys2Proof.Machine

/-- What a command can do are writes, erasures and drops that keep the form (`Via`). -/
theorem exec_canonical {c : Instr} {s t : State} (form : s.Canonical) (h : exec c s = .next t) : t.Canonical :=
  (exec_via h).canonical form

/-- The form speaks of registers and memory alone, not of the queue. -/
theorem State.Canonical.set_pending {s : State} (form : s.Canonical) (rest : List Instr) :
    { s with pending := rest }.Canonical := form

/-- Settles O5: an empty queue leaves the block to itself, any other runs the command in front; either goes by writes that
keep the form. -/
theorem everyStepKeepsTheCanonicalForm : Obligations.EveryStepKeepsTheCanonicalForm := by
  intro s t form h
  cases queue : s.pending with
  | nil =>
    obtain rfl : s.idle = t := by simpa only [step, queue, Host.Outcome.next.injEq] using h
    exact s.idle_via.canonical form
  | cons c rest =>
    rw [stepRunsTheFrontCommand c rest s queue] at h
    exact exec_canonical (form.set_pending rest) h

/-- Settles O4: no register and no byte is listed after reset, and empty maps have the form. -/
theorem resetIsCanonical : Obligations.ResetIsCanonical := ⟨rfl, rfl⟩

end Sys2Proof.Machine
end

section
/-! Stores whose results the spec leaves open (R118): the rule that lists a store to a range of memory, to a field, and to a
register that holds a listed field. -/

namespace Sys2Proof.Machine

/-! ### Ranges of memory (R189, R213, R370, R423) -/

/-- A range of addresses that no block of R93 and R94 takes, and every byte of which one rule lists. -/
structure ListedRange (s : State) (m lo hi rule : Nat) : Prop where
  memory : 0x20000000 ≤ lo ∧ hi ≤ 0x20200000
  listed : ∀ a, lo ≤ a → a < hi → s.openByte m a = rule
  stops : rule ≠ 0

theorem homeAt_sram {a : Nat} (low : 0x10000000 ≤ a) (high : a < 0x20200000) : homeAt a = none := by
  unfold homeAt
  repeat rw [if_neg (by omega)]

theorem State.absentAt_sram (s : State) {a : Nat} (low : 0x10000000 ≤ a) (high : a < 0x20200000) : s.absentAt a = none := by
  rw [State.absentAt, homeAt_sram low high]
  exact if_neg (by omega)

theorem foldl_max_replicate (r n : Nat) (some : 1 ≤ n) : (List.replicate n r).foldl max 0 = r := by
  obtain ⟨n, rfl⟩ := Nat.exists_eq_add_of_le' some
  induction n with
  | zero => simp
  | succ n ih => rw [List.replicate_succ', List.foldl_append, ih (by omega)]; simp

section
variable {s : State} {m a n data : Nat}

/-- A store that is made is judged by `State.openStore`. -/
theorem State.openCase_of_permitted (master : m ≤ 10) (free : s.bit F.MPU_FREEZE_FROZEN 0 m = false)
    (passes : s.violates m a n .store = 0) (there : s.absentAt a = none) : s.openCase m a n data = s.openStore m a n data := by
  rw [State.openCase, if_neg]
  simp [free, passes, there, Nat.not_lt.mpr master]

theorem State.openStore_range {lo hi rule : Nat} (range : ListedRange s m lo hi rule) (some : 1 ≤ n) (low : lo ≤ a)
    (high : a + n ≤ hi) : s.openStore m a n data = rule := by
  obtain ⟨⟨above, below⟩, listed, -⟩ := range
  have bytes : (List.range n).map (fun j => s.openByte m (a + j)) = List.replicate n rule := by
    rw [List.eq_replicate_iff]
    refine ⟨by simp, fun r hr => ?_⟩
    obtain ⟨j, hj, rfl⟩ := List.mem_map.mp hr
    exact listed _ (by omega) (by have := List.mem_range.mp hj; omega)
  rw [State.openStore, homeAt_sram (by omega) (by omega)]
  exact bytes ▸ foldl_max_replicate rule n some

/-- REGISTER_WRITE answers the store, gated by the rule that lists it (R98, R118). -/
theorem exec_registerWrite {hw : List HwChange} :
    exec (.registerWrite m a n data hw) s = orUnpredictable (s.openCase m a n data) (s.masterStore hw m a n data) := rfl

/-- A permitted store into a listed range stops under the range's rule. -/
theorem registerWrite_listed {lo hi rule : Nat} {hw : List HwChange} (range : ListedRange s m lo hi rule) (master : m ≤ 10)
    (free : s.bit F.MPU_FREEZE_FROZEN 0 m = false) (passes : s.violates m a n .store = 0) (some : 1 ≤ n) (low : lo ≤ a)
    (high : a + n ≤ hi) : exec (.registerWrite m a n data hw) s = .fault (.unpredictable rule) := by
  have rule_eq : s.openCase m a n data = rule := by
    obtain ⟨above, below⟩ := range.memory
    rw [State.openCase_of_permitted master free passes (s.absentAt_sram (by omega) (by omega)),
      State.openStore_range range some low high]
  rw [exec_registerWrite, rule_eq, orUnpredictable_fault range.stops]

end

theorem State.logRing_listed (s : State) (m : Nat) : ListedRange s m 0x20047000 0x20087000 423 where
  memory := by decide
  listed a low high := if_pos ⟨low, high⟩
  stops := by decide

theorem State.traceRing_listed (s : State) (m : Nat) : ListedRange s m 0x20087000 0x200C7000 370 where
  memory := by decide
  listed a low high := by
    rw [State.openByte, if_neg (by omega), if_pos ⟨low, high⟩]
  stops := by decide

theorem State.sofRings_listed (s : State) (m : Nat) : ListedRange s m 0x200D7000 0x200D8000 213 where
  memory := by decide
  listed a low high := by
    rw [State.openByte, if_neg (by omega), if_neg (by omega), if_pos ⟨low, high⟩]
  stops := by decide

/-- The buffers of endpoints lie below the pool. -/
theorem State.contextPool_listed (s : State) (m : Nat) : ListedRange s m 0x200F8000 0x20200000 189 where
  memory := by decide
  listed a low high := by
    have outside : s.inEndpoint m a = false := by
      rw [State.inEndpoint, decide_eq_false (by omega), Bool.false_and]
    rw [State.openByte, if_neg (by omega), if_neg (by omega), if_neg (by omega), outside, if_neg Bool.false_ne_true,
      if_pos ⟨low, high⟩]
  stops := by decide

/-! ### Fields of the Quince blocks (R169, R213) -/

section
variable {s : State} {i : Nat}

theorem State.openQuince_glitch (v : Nat) (runs : s.on F.DPE_GLITCH_CTL_BUSY i = true ∨ s.on F.DPE_GLITCH_CTL_ARMED i = true) :
    s.openQuince F.DPE_GLITCH_CFG_LEN i v = 169 ∧ s.openQuince F.DPE_GLITCH_GAP_GAP i v = 169 :=
  have rule : (if s.on F.DPE_GLITCH_CTL_BUSY i || s.on F.DPE_GLITCH_CTL_ARMED i then 169 else 0) = 169 :=
    if_pos ((Bool.or_eq_true _ _).mpr runs)
  ⟨rule, rule⟩

theorem State.openQuince_migrating (v : Nat) (moves : s.dpeIs i .migrating = true) :
    s.openQuince F.DPE_TIMING_RSTLEN i v = 169 ∧ s.openQuince F.DPE_CTL_LPM_EN i v = 169 :=
  have rule : (if s.dpeIs i .migrating || ((s.migs.at i).active && decide (2 ≤ (s.migs.at i).step)) then 169 else 0) = 169 :=
    if_pos (by rw [moves, Bool.true_or])
  ⟨rule, rule⟩

theorem State.openQuince_selftest (v : Nat) (runs : s.on F.DSW_PSTAT_STBUSY i = true) :
    s.openQuince F.DSW_PCTL_TESTS i v = 169 :=
  if_pos (c := s.on F.DSW_PSTAT_STBUSY i = true) runs

theorem State.openQuince_descriptors (v : Nat) (connected : s.on F.MF_CTL_CONNECT (i / 5) = true) :
    s.openQuince F.MF_EPD_SIZE i v = 213 :=
  if_pos (c := s.on F.MF_CTL_CONNECT (i / 5) = true) connected

end

/-! ### Fields of a Currant (R239, R271, R314) -/

section
variable {s : State} {m i : Nat}

theorem State.openPort_policy (v : Nat) (foreign : m ≠ policyCore i) (runs : s.policyRuns i = true) :
    s.openPort m F.TCPD_CCTIM_TDRP i v = 239 ∧ s.openPort m F.TCPD_PDCFG_PROFILE i v = 239
      ∧ s.openPort m F.TCPD_CCCFG_RPLVL i v = 239 := by
  have rule : (true && decide (m ≠ policyCore i) && s.policyRuns i) = true := by simp [foreign, runs]
  exact ⟨if_pos rule, if_pos rule, if_pos rule⟩

theorem State.openPort_transmitting (v : Nat) (own : m = policyCore i) (busy : s.on F.TCPD_TXCTL_BUSY i = true) :
    s.openPort m F.TCPD_TXHDR_HDR i v = 271 := by
  have kept : ¬ (true && decide (m ≠ policyCore i) && s.policyRuns i) = true := by simp [own]
  exact (if_neg kept).trans (if_pos (c := s.on F.TCPD_TXCTL_BUSY i = true) busy)

theorem State.openPort_voff (off : s.bit F.GOV_BRDOFF_PORTS 0 (i - 1) = true) :
    s.openPort m F.PWR_PCTL_VOFF i 0 = 314 ∧ s.openPort m F.PWR_PCTL_VOFF i 1 = 0 :=
  ⟨if_pos (c := F.PWR_PCTL_VOFF.id = F.PWR_PCTL_VOFF.id ∧ 0 = 0 ∧ s.bit F.GOV_BRDOFF_PORTS 0 (i - 1) = true)
    ⟨rfl, rfl, off⟩, rfl⟩

end

/-! ### Fields of the service blocks (R347, R370, R395, R423) -/

section
variable {s : State} (hold : Bool) (i : Nat)

theorem State.openService_tat (busy : s.on F.TAT_STAT_BUSY 0 = true) :
    s.openService hold F.TAT_NEW_WORD i = 347 ∧ s.openService hold F.TAT_CMD_ADD i = 347 :=
  ⟨if_pos (c := s.on F.TAT_STAT_BUSY 0 = true) busy, if_pos (c := s.on F.TAT_STAT_BUSY 0 = true) busy⟩

theorem State.openService_capture (runs : s.capturing = true) :
    s.openService hold F.TRC_CFG_MEM i = 370 ∧ s.openService hold F.TRC_CFG_MODE i = 370
      ∧ s.openService hold F.TRC_CFG_SNAPLEN i = 0 :=
  ⟨if_pos (c := s.capturing = true) runs, if_pos (c := s.capturing = true) runs, rfl⟩

theorem State.openService_dma (busy : s.on F.SYS_DMASTAT_BUSY i = true) : s.openService hold F.SYS_DMASRC_ADDR i = 395 :=
  if_pos (c := s.on F.SYS_DMASTAT_BUSY i = true) busy

theorem State.openService_flash (busy : s.on F.QSPI_STAT_OPBUSY 0 = true) : s.openService hold F.QSPI_OPADDR_ADDR i = 395 :=
  if_pos (c := s.on F.QSPI_STAT_OPBUSY 0 = true) busy

theorem State.openService_submit (busy : s.on F.LOG_STAT_SUBBUSY 0 = true) : s.openService hold F.LOG_SUB_WORD i = 423 :=
  if_pos (c := s.on F.LOG_STAT_SUBBUSY 0 = true) busy

theorem State.openService_logWrite (on : s.on F.LOG_CFG_EN 0 = true) : s.openService hold F.LOG_WR_SEQ i = 423 :=
  if_pos (c := s.on F.LOG_CFG_EN 0 = true) on

end

/-! ### Registers -/

theorem le_foldl_max {l : List Nat} {x start : Nat} (reached : x ≤ start ∨ x ∈ l) : x ≤ l.foldl max start := by
  induction l generalizing start with
  | nil => simpa using reached
  | cons y l ih =>
    refine ih ?_
    rcases reached with low | member
    · exact .inl (low.trans (Nat.le_max_left ..))
    · rcases List.mem_cons.mp member with rfl | rest
      · exact .inl (Nat.le_max_right ..)
      · exact .inr rest

section
variable {s : State} {m i w mask : Nat} {h : Home} {r : RegDef} {f : Field}

/-- A write through the normal view that reaches a bit of a writable field gives the field a value. -/
theorem State.mem_touched_normal (listed : f ∈ r.fields) (writes : f.access = .rw) (reached : mask / 2 ^ f.lo % 2 ^ f.width ≠ 0) :
    (⟨f, i, (viewed 0 (s.base f i) (w / 2 ^ f.lo) (mask / 2 ^ f.lo) f.width).getD 0⟩ : Staged) ∈ s.touched r i 0 w mask := by
  refine List.mem_filterMap.mpr ⟨f, listed, ?_⟩
  rw [if_pos writes]
  simp only [viewed, if_true, if_neg reached, Option.map_some, Option.getD_some]

/-- A write to a register meets the rule that lists a field it reaches. -/
theorem State.openReg_of_field (listed : f ∈ r.fields) (writes : f.access = .rw) (reached : mask / 2 ^ f.lo % 2 ^ f.width ≠ 0)
    (taken : s.ignores f i = false)
    (rule : ∃ v, max (s.openQuince f i v) (max (s.openPort m f i v) (s.openService (s.held' h) f i)) ≠ 0
      ∧ v = (viewed 0 (s.base f i) (Nat.land w mask / 2 ^ f.lo) (mask / 2 ^ f.lo) f.width).getD 0) :
    s.openReg m h r i 0 w mask ≠ 0 := by
  obtain ⟨v, rule, rfl⟩ := rule
  refine (Nat.lt_of_lt_of_le (Nat.pos_of_ne_zero rule) (le_foldl_max (.inr ?_))).ne'
  refine List.mem_map.mpr ⟨_, List.mem_append_left _ (State.mem_touched_normal listed writes reached), ?_⟩
  exact if_neg (by rw [taken]; exact Bool.false_ne_true)

end

/-- Settles O16: each range of memory and each listed field has its rule, and a register that holds such a field passes it on. -/
theorem unpredictableStoresStop : Obligations.UnpredictableStoresStop := by
  refine ⟨fun s m a n data hw master free passes some few => ?_, fun s i v => ?_, fun s m i v => ?_, fun s hold i => ?_,
    fun s m i h r w mask f listed writes reached taken rule => State.openReg_of_field listed writes reached taken rule⟩
  · exact ⟨registerWrite_listed (s.logRing_listed m) master free passes some,
      registerWrite_listed (s.traceRing_listed m) master free passes some,
      registerWrite_listed (s.sofRings_listed m) master free passes some,
      registerWrite_listed (s.contextPool_listed m) master free passes some⟩
  · exact ⟨State.openQuince_glitch v, State.openQuince_migrating v, rfl, State.openQuince_selftest v,
      State.openQuince_descriptors v⟩
  · exact ⟨State.openPort_policy v, State.openPort_transmitting v, State.openPort_voff⟩
  · exact ⟨State.openService_tat hold i, State.openService_capture hold i, State.openService_dma hold i,
      State.openService_flash hold i, State.openService_submit hold i, State.openService_logWrite hold i⟩

end Sys2Proof.Machine
end

section
/-! What the events of a port leave of its engine: of PART they write the marks of migrations alone, and of DPE the fields
that show the engine's state (R128, R138, R146, R148). -/

namespace Sys2Proof.Machine

-- One proof at a time: a default argument `by decide` waits for the text before it, and each proof that waits takes a thread.
set_option Elab.async false

/-- Every block but PART and DPE. -/
def engineMask : Nat := allRegs - 2 ^ 5 - 2 ^ 6

/-- The fields of PART and DPE that follow a port's state. -/
def statusWrites : List Field :=
  [F.PART_MIGBUSY_BUSY, F.PART_MIGCNT_DONE, F.DPE_STATE_PART, F.DPE_STATE_LOGPWR, F.DPE_STATE_ISO_CAUSE, F.DPE_STATE_SWCLOSED,
    F.DPE_PORTSTAT_CHANGE, F.DPE_PORTSTAT_STATUS]

/-- Of PART and DPE, `t` differs from `s` in fields that follow a port's state at most. -/
abbrev KeepsEngine (s t : State) : Prop := Alters engineMask statusWrites s t

/-- An operation that reaches neither PART nor DPE. -/
theorem Via.keepsEngine {n : Nat} {s t : State} (d : Via n s t)
    (h : Nat.land (Nat.land allRegs n) engineMask = Nat.land allRegs n := by decide) : KeepsEngine s t :=
  Alters.via (.refl s) d h

section
variable {s t : State}

theorem KeepsEngine.dpeIs (kept : KeepsEngine s t) (p : Nat) (d : Dpe) : t.dpeIs p d = s.dpeIs p d := by
  rw [State.dpeIs, State.dpeIs, kept F.DPE_STATE_STATE p (by decide)]

theorem State.dpeIn_of_fld {p : Nat} (same : t.fld F.DPE_STATE_STATE p = s.fld F.DPE_STATE_STATE p) (l : List Dpe) :
    t.dpeIn p l = s.dpeIn p l := by
  unfold State.dpeIn State.dpeIs
  rw [same]

theorem KeepsEngine.hostPower (kept : KeepsEngine s t) (k b : Nat) :
    t.bit F.PART_HOSTPWR_PWR k b = s.bit F.PART_HOSTPWR_PWR k b :=
  State.bit_of_fld (kept F.PART_HOSTPWR_PWR k (by decide)) b

end

variable (s : State) (p k n : Nat)

theorem State.refresh_keepsEngine : KeepsEngine s (s.refresh p) := by
  unfold State.refresh
  extract_lets s₁ s₂ s₃ s₄ s₅ s₆
  have switched : KeepsEngine s s₁ := .put (.refl s)
  have shown : KeepsEngine s s₅ := .put (.setFld (.put (.setFld switched)))
  exact .ite (.setFld (.ite shown (.setFld shown))) switched

/-! ### The CC logic -/

theorem State.clearLatchCore_keepsEngine {t : State} (h : s.clearLatchCore p = some t) : KeepsEngine s t := by
  unfold State.clearLatchCore at h
  split at h
  · cases h
  · split at h
    · extract_lets s₁ s₂ at h
      have logged : KeepsEngine s s₂ :=
        .trans (.via (.via (.setFld (.refl s)) (State.setPwr_via ..)) (State.logPort_via ..)) (State.refresh_keepsEngine _ p)
      cases h
      exact .ite logged (logged.via (State.recoverCore_via ..))
    · cases h
      exact .refl s

theorem State.leaveDisabled_keepsEngine : KeepsEngine s (s.leaveDisabled p) := by
  unfold State.leaveDisabled
  extract_lets s₁
  have left : KeepsEngine s s₁ := (State.unattached_via ..).keepsEngine
  refine .ite ?_ (.records left)
  split
  · next t h => exact .trans (.records left) (State.clearLatchCore_keepsEngine _ p h)
  · exact .via left (State.latchRefused_via ..)

theorem State.tryLeaveDisabled_keepsEngine : KeepsEngine s (s.tryLeaveDisabled p) :=
  .ite (s.leaveDisabled_keepsEngine p) (.refl s)

theorem State.sinkBlockUpdate_keepsEngine : KeepsEngine s (s.sinkBlockUpdate n) := by
  refine .each (.refl s) fun s p => .ite ?_ (.refl s)
  extract_lets b role s₁
  have blocked : KeepsEngine s s₁ := .putBit (.put (.refl s))
  exact .ite (.ite blocked (blocked.via (State.disableCore_via ..)))
    (.ite (blocked.via (State.unattached_via ..)) (blocked.trans (State.tryLeaveDisabled_keepsEngine _ p)))

theorem State.disable_keepsEngine : KeepsEngine s (s.disable p) := by
  have disabled : KeepsEngine s (s.disableCore p) := (State.disableCore_via ..).keepsEngine
  exact .ite (.trans (.put disabled) (State.sinkBlockUpdate_keepsEngine _ _)) disabled

theorem State.ccDisable_keepsEngine (b : Nat) : KeepsEngine s (s.ccDisable p b) := by
  refine .ite ?_ (.refl s)
  extract_lets s₁
  have caused : KeepsEngine s s₁ := .putBit (.refl s)
  exact .ite caused (.ite (.records caused) (caused.trans (State.disable_keepsEngine _ p)))

/-! ### Migrations -/

theorem State.migDone_keepsEngine : KeepsEngine s (s.migDone p) :=
  .via (.via (.incr (.putBit (.via (.refl s) (State.updMig_via ..)))) (State.irq_via ..)) (State.logPort_via ..)

/-! ### The engine's state -/

/-- STATE, and PREV where it changes, as the engine enters a state (R146). -/
def State.stateWritten (d : Dpe) : State :=
  if s.dpeIs p d then s
  else (s.setFld F.DPE_STATE_PREV p (s.fld F.DPE_STATE_STATE p)).setFld F.DPE_STATE_STATE p d.code

/-- What follows the new state is shown in the fields that follow it. -/
theorem State.setDpe_keepsEngine (d : Dpe) : KeepsEngine (s.stateWritten p d) (s.setDpe p d) := by
  unfold State.setDpe State.stateWritten
  split
  · exact s.refresh_keepsEngine p
  · extract_lets s₁ s₂ s₃
    have traced : KeepsEngine s₂ s₃ := .ite (State.traceForget_via ..).keepsEngine (.refl s₂)
    exact .trans (.via (.via traced (State.irq_via ..)) (State.notice_via ..)) (State.refresh_keepsEngine _ p)

/-- The engine is in the state that it enters (R146). -/
theorem State.setDpe_dpeIs (d : Dpe) : (s.setDpe p d).dpeIs p d = true := by
  rw [(s.setDpe_keepsEngine p d).dpeIs, State.stateWritten]
  split
  · assumption
  · rw [State.dpeIs, fld_setFld_self, decide_eq_true_eq]
    cases d <;> rfl

/-- A change of the engine's state leaves the speed of its device. -/
theorem State.setDpe_speed (d : Dpe) : (s.setDpe p d).fld F.DPE_STATE_SPEED p = s.fld F.DPE_STATE_SPEED p := by
  rw [s.setDpe_keepsEngine p d F.DPE_STATE_SPEED p (by decide), State.stateWritten, State.fld_ite,
    fld_setFld_ne _ _ _ _ (by decide), fld_setFld_ne _ _ _ _ (by decide), ite_self]

end Sys2Proof.Machine
end

section
/-! Requests of hosts at the F boundary of their partition (R128, R136, R148, R150, R153, R154, R193). -/

namespace Sys2Proof.Machine

-- One proof at a time: a default argument `by decide` waits for the text before it, and each proof that waits takes a thread.
set_option Elab.async false

/-! ### The boundary -/

/-- The records of a boundary's end: `t` differs from `u` in `quarFresh` alone. -/
structure Settled (u t : State) : Prop where
  regs : t.regs = u.regs
  parts : t.parts = u.parts
  fromL1 : ∀ p, (t.dpe.at p).fromL1 = (u.dpe.at p).fromL1
  testMode : ∀ p, (t.dpe.at p).testMode = (u.dpe.at p).testMode

theorem Settled.refl (u : State) : Settled u u := ⟨rfl, rfl, fun _ => rfl, fun _ => rfl⟩

theorem Settled.trans {u t v : State} (d : Settled u t) (e : Settled t v) : Settled u v :=
  ⟨e.regs.trans d.regs, e.parts.trans d.parts, fun p => (e.fromL1 p).trans (d.fromL1 p),
    fun p => (e.testMode p).trans (d.testMode p)⟩

theorem State.quarSettles_settled (u : State) (q : Nat) : Settled u (u.quarSettles q) where
  regs := rfl
  parts := rfl
  fromL1 p := by
    by_cases same : p = q
    · subst same; simp [State.quarSettles, State.updDpe]
    · simp [State.quarSettles, State.updDpe, Tbl.at_upd_ne _ _ same]
  testMode p := by
    by_cases same : p = q
    · subst same; simp [State.quarSettles, State.updDpe]
    · simp [State.quarSettles, State.updDpe, Tbl.at_upd_ne _ _ same]

theorem State.each_quarSettles (u : State) (l : List Nat) : Settled u (u.each l State.quarSettles) := by
  induction l generalizing u with
  | nil => exact .refl u
  | cons q l ih => exact (u.quarSettles_settled q).trans (ih _)

section
variable {u t : State} (same : Settled u t)
include same

theorem Settled.fld (f : Field) (i : Nat) : t.fld f i = u.fld f i := fld_of_regs same.regs f i

theorem Settled.bit (f : Field) (i b : Nat) : t.bit f i b = u.bit f i b := State.bit_of_fld (same.fld f i) b

theorem Settled.dpeIs (p : Nat) (d : Dpe) : t.dpeIs p d = u.dpeIs p d := by rw [State.dpeIs, State.dpeIs, same.fld]

theorem Settled.p33Is (k : Nat) (d : Dpe) : t.p33Is k d = u.p33Is k d := by rw [State.p33Is, State.p33Is, same.fld]

end

/-- The state whose requests of partition `k` the boundary has taken. -/
def State.requestsTaken (s : State) (k : Nat) : State := s.updPart k (fun e => { e with requests := [], freshK := false })

theorem State.requestsTaken_none (s : State) (k : Nat) : ((s.requestsTaken k).parts.at k).requests = [] := by
  simp [State.requestsTaken, State.updPart]

theorem overlapApplied_self (s : State) : overlapApplied s s = false := by
  simp [overlapApplied]

variable {s : State} {k p : Nat} {hw : List HwChange}

/-- A boundary at which no write waits is the requests' alone. -/
theorem exec_frameBoundary (low : k < 4) (idle : s.staged = []) :
    exec (.stagedWriteApply .f k hw) s = .next (s.frameBoundary k) := by
  have none : s.staged.filter (fun x => s.inScope .f k x && !(slotHome x.field.id x.index).any s.held') = [] := by
    rw [idle]; rfl
  show execStagedWriteApply .f k hw s = _
  simp only [execStagedWriteApply, none]
  simp [State.applyAll, overlapApplied_self, State.roleMoved, low, show (Boundary.f == Boundary.t) = false from rfl]

/-- The one request that waits acts on the state that the boundary finds. -/
theorem completes_request {r : HubReq} {q : State → Prop} (low : k < 4) (idle : s.staged = [])
    (asked : (s.parts.at k).requests = [r]) (none : (((s.requestsTaken k).hubRequest k r).parts.at k).requests = [])
    (holds : ∀ t, Settled ((s.requestsTaken k).hubRequest k r) t → q t) :
    Completes (.stagedWriteApply .f k hw) s fun t => (t.parts.at k).requests = [] ∧ q t := by
  have boundary : s.frameBoundary k = ((s.requestsTaken k).hubRequest k r).each
      (allPorts.filter fun p => decide (((s.requestsTaken k).hubRequest k r).partOf p = k)
        && (((s.requestsTaken k).hubRequest k r).dpe.at p).quarFresh) State.quarSettles := by
    rw [State.frameBoundary, asked]; rfl
  have same := boundary ▸ State.each_quarSettles ..
  exact ⟨_, exec_frameBoundary low idle, same.parts ▸ none, holds _ same⟩

/-- A request whose meaning reaches no record of a partition, on the state that the boundary finds. -/
theorem completes_request_of_via {r : HubReq} {q : State → Prop} {m : Nat} {u : State} (low : k < 4) (idle : s.staged = [])
    (asked : (s.parts.at k).requests = [r]) (acts : (s.requestsTaken k).hubRequest k r = u) (d : Via m (s.requestsTaken k) u)
    (holds : ∀ t, Settled u t → q t) (outside : m.testBit 35 = false := by decide) :
    Completes (.stagedWriteApply .f k hw) s fun t => (t.parts.at k).requests = [] ∧ q t := by
  subst acts
  refine completes_request low idle asked ?_ holds
  have parts : ((s.requestsTaken k).hubRequest k r).parts = (s.requestsTaken k).parts := d.same .parts outside
  rw [parts, s.requestsTaken_none]

/-! ### Logical power (R128, R136) -/

/-- A port answers to its partition alone, and is one of those fitted. -/
theorem State.owns_port (owns : s.owns k p = true) : 1 ≤ p ∧ p ≤ 32 := by
  simp only [State.owns, State.fitted, Bool.and_eq_true, decide_eq_true_eq] at owns
  exact owns.1.1.2.1

theorem State.hubRequest_power {on : Bool} (port : p ≠ 33) (settled : s.owns k p = true → (s.dpe.at p).quarFresh = false) :
    s.hubRequest k (.power p on) = s.portPower k p on := by
  have met : (s.owns k p && (s.dpe.at p).quarFresh) = false := by
    cases owns : s.owns k p
    · rfl
    · rw [settled owns]; rfl
  simp only [State.hubRequest, if_neg port, met, Bool.false_eq_true, if_false]

theorem State.portPower_hostPower_on (s : State) (k : Nat) (low : 1 ≤ p) (high : p ≤ 32) :
    (s.portPower k p true).bit F.PART_HOSTPWR_PWR k (p - 1) = true := by
  unfold State.portPower
  extract_lets s₁ s₂ s₃
  have set : s₁.bit F.PART_HOSTPWR_PWR k (p - 1) = true := s.bit_putBit_self k true (show p - 1 < 32 by omega)
  have enabled : ((s₁.ccEnableCause p 2).tryPowerUp p).bit F.PART_HOSTPWR_PWR k (p - 1) = true := by
    rw [State.bit_of_fld ((State.tryPowerUp_via ..).fld F.PART_HOSTPWR_PWR k (by decide)),
      State.bit_of_fld ((State.ccEnableCause_via ..).fld F.PART_HOSTPWR_PWR k (by decide)), set]
  split
  · exact set
  · exact enabled

theorem assignField_reset : ∀ p, (assignField p).id ≠ F.PART_HOSTPWR_PWR.id ∧ (assignField p).id ≠ F.SYS_ID_DIES.id := by
  intro p
  unfold assignField
  split <;> decide

theorem State.owns_putBit_hostPower (s : State) (k p j b : Nat) (v : Bool) :
    (s.putBit F.PART_HOSTPWR_PWR j b v).owns k p = s.owns k p := by
  have dies : (s.putBit F.PART_HOSTPWR_PWR j b v).fitted p = s.fitted p := by
    simp only [State.fitted, State.currantFitted, State.dies, State.putBit,
      fld_setFld_ne s j 0 _ (show F.SYS_ID_DIES.id ≠ F.PART_HOSTPWR_PWR.id by decide)]
  have part : (s.putBit F.PART_HOSTPWR_PWR j b v).partOf p = s.partOf p :=
    fld_setFld_ne s j _ _ (assignField_reset p).1
  rw [State.owns, State.owns, dies, part]
  rfl

/-- Logical power cleared takes the engine to Powered-off, whatever migration of the port it ends (R141, R148). -/
theorem State.portPower_off (owns : s.owns k p = true) (free : s.dpeIn p [.isolated, .quarantined] = false) :
    (s.portPower k p false).bit F.PART_HOSTPWR_PWR k (p - 1) = false ∧ (s.portPower k p false).dpeIs p .poweredOff = true := by
  obtain ⟨low, high⟩ := s.owns_port owns
  unfold State.portPower
  extract_lets s₁ s₂ s₃
  have own : (!s₁.owns k p) = false := by rw [State.owns_putBit_hostPower, owns]; rfl
  rw [own, if_neg Bool.false_ne_true, if_neg Bool.false_ne_true]
  have cleared : s₁.bit F.PART_HOSTPWR_PWR k (p - 1) = false := s.bit_putBit_self k false (show p - 1 < 32 by omega)
  have ended : KeepsEngine s₁ s₂ := .ite (s₁.migDone_keepsEngine p) (.refl s₁)
  have free₂ : s₂.dpeIn p [.isolated, .quarantined] = false := by
    have still : s₁.fld F.DPE_STATE_STATE p = s.fld F.DPE_STATE_STATE p := fld_setFld_ne s k p _ (by decide)
    rw [State.dpeIn_of_fld (ended F.DPE_STATE_STATE p (by decide)), State.dpeIn_of_fld still, free]
  have entered : s₃ = s₂.enterPoweredOff p := if_neg (by rw [free₂]; exact Bool.false_ne_true)
  have kept : KeepsEngine s₃ (if s₃.on F.PART_PCTL_VBUS_HOLD k = true then s₃ else s₃.ccDisable p 2) :=
    .ite (.refl s₃) (s₃.ccDisable_keepsEngine p 2)
  refine ⟨?_, ?_⟩
  · rw [kept.hostPower, entered, State.bit_of_fld ((State.enterPoweredOff_via ..).fld F.PART_HOSTPWR_PWR k (by decide)),
      ended.hostPower, cleared]
  · rw [kept.dpeIs, entered]
    exact State.setDpe_dpeIs ..

/-! ### Requests on a port (R148, R150, R153, R154) -/

section
variable {s : State} {k p : Nat} (owns : s.owns k p = true)
include owns

theorem State.not_port33_of_owns : p ≠ 33 := by
  have := s.owns_port owns
  omega

theorem State.hubRequest_reset : s.hubRequest k (.reset p) = s.portReset p := by
  simp only [State.hubRequest, if_neg (State.not_port33_of_owns owns), if_pos owns]

theorem State.hubRequest_suspend (able : s.dpeIn p [.enabled, .l1] = true) :
    s.hubRequest k (.suspend p) = s.setDpe p .suspended := by
  have idle : s.dpeIs p .transmit = false := by
    simp only [State.dpeIn, State.dpeIs, List.any_cons, List.any_nil, Bool.or_false, Bool.or_eq_true, decide_eq_true_eq] at able
    rw [State.dpeIs, decide_eq_false_iff_not]
    rcases able with h | h <;> rw [h] <;> decide
  simp only [State.hubRequest, if_neg (State.not_port33_of_owns owns), owns, idle, able, Bool.not_true, Bool.false_eq_true,
    if_false, if_true]

theorem State.hubRequest_resume (able : s.dpeIs p .suspended = true) :
    s.hubRequest k (.resume p) = (s.updDpe p fun r => { r with fromL1 := false }).setDpe p .resuming := by
  simp only [State.hubRequest, if_neg (State.not_port33_of_owns owns), owns, able, Bool.and_self, if_true]

theorem State.hubRequest_disable (able : s.dpeIn p [.enabled, .transmit] = true) :
    s.hubRequest k (.disable p) = s.setDpe p .disabled := by
  simp only [State.hubRequest, if_neg (State.not_port33_of_owns owns), owns, able, Bool.and_self, if_true]

theorem State.hubRequest_exitL1 (able : s.dpeIs p .l1 = true) :
    s.hubRequest k (.exitL1 p) = (s.updDpe p fun r => { r with fromL1 := true }).setDpe p .resuming := by
  simp only [State.hubRequest, owns, able, Bool.and_self, if_true]

theorem State.hubRequest_test (selector : Nat) : s.hubRequest k (.test p selector) = s.portTest p selector := by
  simp only [State.hubRequest, if_pos owns]

end

/-- A reset that acts takes the engine to Resetting (R148, R150). -/
theorem State.portReset_dpeIs
    (able : s.dpeIn p [.disabled, .enabled, .transmit, .suspended, .l1, .resuming, .sendEor] = true) :
    (s.portReset p).dpeIs p .resetting = true := by
  unfold State.portReset
  extract_lets waiting s₁
  rw [able, Bool.true_or, if_pos rfl]
  exact State.setDpe_dpeIs ..

/-- A test that acts takes the engine to Test with its selector; Test_Force_Enable runs at high speed (R154). -/
theorem State.portTest_enters {selector : Nat} (able : s.dpeIn p [.disconnected, .disabled, .suspended] = true) :
    (s.portTest p selector).dpeIs p .test = true ∧ ((s.portTest p selector).dpe.at p).testMode = selector
      ∧ (s.portTest p selector).fld F.DPE_STATE_SPEED p = if selector = 5 then 3 else s.fld F.DPE_STATE_SPEED p := by
  unfold State.portTest
  extract_lets s₁
  rw [if_pos able]
  refine ⟨State.setDpe_dpeIs .., ?_, ?_⟩
  · have record : ((if selector = 5 then s₁.setFld F.DPE_STATE_SPEED p 3 else s₁).setDpe p .test).dpe = s₁.dpe := by
      rw [(State.setDpe_via ..).same .dpe (by decide)]
      split <;> rfl
    rw [record]
    simp [s₁, State.updDpe]
  · rw [State.setDpe_speed, State.fld_ite, fld_setFld_self]
    rfl

/-- A port in a state entered after its record was written holds that record. -/
theorem State.setDpe_dpe (s : State) (p : Nat) (d : Dpe) : (s.setDpe p d).dpe = s.dpe := (State.setDpe_via ..).same .dpe (by decide)

theorem State.resumes_enters (s : State) (p : Nat) (b : Bool) :
    ((s.updDpe p fun r => { r with fromL1 := b }).setDpe p .resuming).dpeIs p .resuming = true
      ∧ (((s.updDpe p fun r => { r with fromL1 := b }).setDpe p .resuming).dpe.at p).fromL1 = b :=
  ⟨State.setDpe_dpeIs .., by rw [State.setDpe_dpe]; simp [State.updDpe]⟩

theorem State.resumes_via (s : State) (p : Nat) (b : Bool) :
    Via (9289773777158848 + 2 ^ 37) s ((s.updDpe p fun r => { r with fromL1 := b }).setDpe p .resuming) :=
  .then (State.setDpe_via ..) (by decide) (.then (State.updDpe_via ..) (by decide) (.refl s))

/-! ### Requests on port 33 (R193) -/

theorem State.setP33_p33Is (s : State) (k : Nat) (d : Dpe) : (s.setP33 k d).p33Is k d = true := by
  rw [State.p33Is, State.setP33, fld_setFld_self, decide_eq_true_eq]
  cases d <;> rfl

theorem State.hubRequest_reset33 (able : s.p33In k [.disabled, .enabled, .suspended] = true) :
    s.hubRequest k (.reset 33) = (s.mfReset k).setP33 k .resetting := by
  have listed : s.p33In k [.disabled, .resetting, .enabled, .suspended, .resuming] = true := by
    simp only [State.p33In, List.any_cons, List.any_nil, Bool.or_false, Bool.or_eq_true] at able ⊢
    tauto
  exact if_pos listed

theorem State.hubRequest_disable33 (able : s.p33Is k .enabled = true) :
    s.hubRequest k (.disable 33) = (s.setP33 k .disabled).updMf k fun r => { r with waking := false } := by
  have listed : s.p33In k [.enabled, .suspended, .resuming] = true := by simp [State.p33In, able]
  exact if_pos listed

theorem State.mfReset_address (s : State) (k : Nat) : (s.mfReset k).fld F.MF_STAT_ADDR k = 0 := by
  unfold State.mfReset
  extract_lets s₁ s₂
  have written : s₂.fld F.MF_STAT_ADDR k = 0 := by
    rw [State.fld_put_ne _ _ _ _ (by decide), fld_setFld_self, Nat.zero_mod]
  exact written

/-- Settles O60: the boundary hands the one request that waits to its port, and each request enters the state its rule names. -/
theorem portRequestsActAtTheFrame : Obligations.PortRequestsActAtTheFrame := by
  refine ⟨?_, ?_, ?_, ?_, ?_, ?_, ?_, ?_, ?_, ?_, ?_, ?_, ?_⟩
  · rintro s _ k hw p rfl low idle asked settled first last
    refine completes_request_of_via low idle asked (State.hubRequest_power (by omega) settled)
      (State.portPower_via ..) fun t same => ?_
    exact (same.bit ..).trans (State.portPower_hostPower_on _ k first last)
  · rintro s _ k hw p rfl low idle asked settled owns free
    refine completes_request_of_via low idle asked (State.hubRequest_power (State.not_port33_of_owns owns) fun _ => settled)
      (State.portPower_via ..) fun t same => ?_
    obtain ⟨unpowered, off⟩ := (s.requestsTaken k).portPower_off owns free
    exact ⟨(same.bit ..).trans unpowered, (same.dpeIs ..).trans off⟩
  · rintro s _ k hw p rfl low idle asked owns able
    exact completes_request_of_via low idle asked (State.hubRequest_reset owns) (State.portReset_via ..) fun t same =>
      (same.dpeIs ..).trans (State.portReset_dpeIs able)
  · rintro s _ k hw p rfl low idle asked owns able
    exact completes_request_of_via low idle asked (State.hubRequest_suspend owns able) (State.setDpe_via ..) fun t same =>
      (same.dpeIs ..).trans (State.setDpe_dpeIs ..)
  · rintro s _ k hw p rfl low idle asked owns able
    refine completes_request_of_via low idle asked (State.hubRequest_resume owns able) (State.resumes_via ..) fun t same => ?_
    obtain ⟨resumes, record⟩ := (s.requestsTaken k).resumes_enters p false
    exact ⟨(same.dpeIs ..).trans resumes, (same.fromL1 p).trans record⟩
  · rintro s _ k hw p rfl low idle asked owns able
    exact completes_request_of_via low idle asked (State.hubRequest_disable owns able) (State.setDpe_via ..) fun t same =>
      (same.dpeIs ..).trans (State.setDpe_dpeIs ..)
  · rintro s _ k hw p rfl low idle asked owns able
    refine completes_request_of_via low idle asked (State.hubRequest_exitL1 owns able) (State.resumes_via ..) fun t same => ?_
    obtain ⟨resumes, record⟩ := (s.requestsTaken k).resumes_enters p true
    exact ⟨(same.dpeIs ..).trans resumes, (same.fromL1 p).trans record⟩
  · rintro s _ k hw p selector rfl low idle asked owns able
    refine completes_request_of_via low idle asked (State.hubRequest_test (s := s.requestsTaken k) owns selector)
      (State.portTest_via ..) fun t same => ?_
    obtain ⟨enters, mode, speed⟩ := (s.requestsTaken k).portTest_enters able
    exact ⟨(same.dpeIs ..).trans enters, (same.testMode p).trans mode, (same.fld ..).trans speed⟩
  · rintro s _ k hw _ rfl low idle asked rfl able
    refine completes_request_of_via low idle asked (State.hubRequest_reset33 able)
      (.then (State.setP33_via ..) (by decide) (State.mfReset_via ..)) fun t same => ?_
    refine ⟨(same.p33Is ..).trans (State.setP33_p33Is ..), (same.fld ..).trans ?_⟩
    exact (fld_setFld_ne _ _ _ _ (by decide)).trans (State.mfReset_address ..)
  · rintro s _ k hw _ rfl low idle asked rfl able
    exact completes_request_of_via low idle asked (if_pos able) (State.setP33_via ..) fun t same =>
      (same.p33Is ..).trans (State.setP33_p33Is ..)
  · rintro s _ k hw _ rfl low idle asked rfl able
    exact completes_request_of_via low idle asked (if_pos able) (State.setP33_via ..) fun t same =>
      (same.p33Is ..).trans (State.setP33_p33Is ..)
  · rintro s _ k hw _ rfl low idle asked rfl able
    exact completes_request_of_via low idle asked (State.hubRequest_disable33 able)
      (Via.then (n := 1099511627776) (m := 512 + 1099511627776) (State.updMf_via ..) (by decide) (.mono (by decide) (State.setP33_via ..)))
      fun t same => (same.p33Is ..).trans ((s.requestsTaken k).setP33_p33Is k .disabled)
  · rintro s _ k hw _ rfl low idle asked rfl
    have parts : ((s.requestsTaken k).hubRequest k (.power 33 false)).parts
        = ((s.requestsTaken k).updPart k fun e => { e with power33 := false }).parts := (State.p33Off_via ..).same .parts (by decide)
    refine completes_request low idle asked ?_ fun t same => ⟨?_, (same.p33Is ..).trans (State.setP33_p33Is ..)⟩
    · rw [parts]
      simp [State.updPart, State.requestsTaken]
    · rw [same.parts, parts]
      simp [State.updPart]

end Sys2Proof.Machine
end

section
/-! Stores to memory, and stores that are violations (R92, R98, R113 to R115). -/

namespace Sys2Proof.Machine

-- One proof at a time: a default argument `by decide` waits for the text before it, and each proof that waits takes a thread.
set_option Elab.async false

/-! ### Bytes written -/

theorem readByte_writeBytes_of_lt (s : State) {a b : Nat} (l : List Nat) (h : b < a) :
    readByte (s.writeBytes a l).mem b = readByte s.mem b := by
  obtain ⟨x, written, -, below⟩ := writeBytes_eq s a l
  rw [written]
  exact below b h

theorem readByte_writeBytes_of_le (s : State) {a b : Nat} (l : List Nat) (h : a + l.length ≤ b) :
    readByte (s.writeBytes a l).mem b = readByte s.mem b := by
  induction l generalizing s a with
  | nil => rfl
  | cons v l ih =>
    rw [List.length_cons] at h
    rw [State.writeBytes, ih _ (by omega)]
    exact readByte_writeByte_ne _ _ (by omega)

theorem readByte_writeBytes (s : State) (a : Nat) (l : List Nat) {j : Nat} (h : j < l.length) :
    readByte (s.writeBytes a l).mem (a + j) = BitVec.ofNat 8 l[j] := by
  induction l generalizing s a j with
  | nil => exact absurd h (Nat.not_lt_zero j)
  | cons v l ih =>
    cases j with
    | zero => exact (readByte_writeBytes_of_lt _ l (Nat.lt_succ_self a)).trans (readByte_writeByte_self ..)
    | succ j =>
      rw [State.writeBytes, show a + (j + 1) = a + 1 + j by omega]
      exact ih _ _ (by simpa using h)

@[simp] theorem length_le (n v : Nat) : (le n v).length = n := by
  induction n generalizing v with
  | zero => rfl
  | succ n ih => rw [le, List.length_cons, ih]

theorem getElem_le (n v : Nat) {j : Nat} (h : j < (le n v).length) : (le n v)[j] = v / 256 ^ j % 256 := by
  induction n generalizing v j with
  | zero => exact absurd h (Nat.not_lt_zero j)
  | succ n ih =>
    cases j with
    | zero => simp [le]
    | succ j =>
      simp only [le, List.getElem_cons_succ]
      rw [ih, Nat.div_div_eq_div_mul, pow_succ']

/-- Each byte of a number lands at its own address (R100). -/
theorem readByte_writeBytes_le (s : State) (a n v : Nat) {j : Nat} (h : j < n) :
    readByte (s.writeBytes a (le n v)).mem (a + j) = BitVec.ofNat 8 (v / 256 ^ j) := by
  rw [readByte_writeBytes s a _ (by rwa [length_le]), getElem_le]
  exact BitVec.eq_of_toNat_eq (by simp)

/-! ### A permitted store -/

/-- A store that master `m` makes: it is not frozen, no check stops the store, and the block is there (R111, R114, R115). -/
structure Permitted (s : State) (m a n : Nat) : Prop where
  master : m ≤ 10
  free : s.bit F.MPU_FREEZE_FROZEN 0 m = false
  passes : s.violates m a n .store = 0
  there : s.absentAt a = none

section
variable {s : State} {m a n data : Nat} {hw : List HwChange}

theorem Permitted.openCase (made : Permitted s m a n) : s.openCase m a n data = s.openStore m a n data :=
  State.openCase_of_permitted made.master made.free made.passes made.there

theorem Permitted.masterStore (made : Permitted s m a n) : s.masterStore hw m a n data = s.store hw m a n data := by
  have goes : ¬ (10 < m ∨ s.bit F.MPU_FREEZE_FROZEN 0 m = true) := by simp [made.free, made.master]
  simp only [State.masterStore, if_neg goes, made.passes, made.there, ne_eq, not_true_eq_false, if_false]

/-- A permitted store that no rule lists answers the state it stores to. -/
theorem Permitted.exec (made : Permitted s m a n) (free : s.openStore m a n data = 0) :
    exec (.registerWrite m a n data hw) s = .next (s.store hw m a n data) := by
  rw [exec_registerWrite, made.openCase, free, made.masterStore, orUnpredictable_zero]

theorem State.store_sram (low : 0x20000000 ≤ a) (high : a < 0x20200000) :
    s.store hw m a n data = s.writeBytes a (le n data) := by
  rw [State.store, State.storeWith, homeAt_sram (by omega) high]
  simp only
  rw [if_neg (by omega), if_pos ⟨low, high⟩]

theorem State.store_tcm (low : 0x10000000 ≤ a) (high : a < 0x10080000) :
    s.store hw m a n data = s.writeBytes (tcmAddr m (a - 0x10000000)) (le n data) := by
  rw [State.store, State.storeWith, homeAt_sram low (by omega)]
  simp only
  rw [if_pos ⟨low, high⟩]

end

/-- What a write of `n` bytes of `data` from `a` on leaves: those bytes, and everything else as it was. -/
structure BytesWritten (s t : State) (a n data : Nat) : Prop where
  inside : ∀ j, j < n → readByte t.mem (a + j) = BitVec.ofNat 8 (data / 256 ^ j)
  outside : ∀ b, b < a ∨ a + n ≤ b → readByte t.mem b = readByte s.mem b
  frame : s.OnlyIn [.mem] t
  regs : t.regs = s.regs

theorem State.bytesWritten (s : State) (a n data : Nat) (above : 0x08001000 ≤ a) :
    BytesWritten s (s.writeBytes a (le n data)) a n data where
  inside j h := readByte_writeBytes_le s a n data h
  outside b h := by
    rcases h with below | beyond
    · exact readByte_writeBytes_of_lt s _ below
    · exact readByte_writeBytes_of_le s _ (by rwa [length_le])
  frame := Via.onlyIn_mask (.write a _ (by decide) above (.refl s))
  regs := s.writeBytes_regs a _

/-! ### Violations (R115) -/

/-- Memory after an operation that does not reach it. -/
theorem Via.mem {m : Nat} {s t : State} (d : Via m s t) (h : m.testBit 27 = false) : t.mem = s.mem := by
  induction d with
  | refl => rfl
  | setFld f i v _ _ ih => exact ih
  | write a l hb _ _ _ => rw [h] at hb; cases hb
  | keepMem q hb _ _ _ => rw [h] at hb; cases hb
  | keepRegs q _ _ ih => exact ih
  | records u _ _ same _ _ ih => exact same.trans ih

/-- The registers of MPU that a violation writes beside its address. -/
def violationWrites : List Field :=
  [F.MPU_VIOL_INFO_MASTER, F.MPU_VIOL_INFO_REASON, F.MPU_VIOL_INFO_ACCESS, F.MPU_VIOL_INFO_VALID, F.MPU_VIOL_INFO_WIDTH,
    F.MPU_VIOL_COUNT_COUNT]

section
variable (s : State) {m : Nat} (a n : Nat) (k : Acc)

theorem State.recordViolation_alters (m reason : Nat) :
    Alters (allRegs - 2 ^ 2) violationWrites (s.setFld F.MPU_VIOL_ADDR_ADDR 0 a) (s.recordViolation m a n k reason) := by
  unfold State.recordViolation
  extract_lets s₁ s₂ s₃ s₄ s₅
  have told : Alters (allRegs - 2 ^ 2) violationWrites s₁ s₄ := .setFld (.put (.put (.setFld (.setFld (.refl s₁)))))
  exact .via (.via (.incr told) (State.irq_via ..)) (State.raise_via ..)

/-- Freezing a master sets its bit, and of MPU nothing else. -/
theorem State.freeze_keeps (low : 1 ≤ m) (high : m ≤ 10) :
    Alters (allRegs - 2 ^ 2) [] (s.putBit F.MPU_FREEZE_FROZEN 0 m true) (s.freeze m) := by
  unfold State.freeze
  rw [if_pos ⟨low, high⟩]
  extract_lets s₁ s₂
  have stopped : Alters (allRegs - 2 ^ 2) [] s₁ s₂ := .ite (.put (.refl s₁)) (.refl s₁)
  exact .ite (stopped.via (State.policyStops_via ..)) stopped

/-- The record of a violation and the freeze of its master (R115). -/
theorem State.violation_frozen (low : 1 ≤ m) (high : m ≤ 10) (free : s.bit F.MPU_FREEZE_FROZEN 0 m = false)
    (caught : s.violates m a n k ≠ 0) :
    (s.violation m a n k).bit F.MPU_FREEZE_FROZEN 0 m = true ∧ (s.violation m a n k).fld F.MPU_VIOL_ADDR_ADDR 0 = a % 2 ^ 32 := by
  unfold State.violation
  extract_lets reason s₁
  rw [if_pos (by simp [low, high, free, reason, caught])]
  have kept := (s.recordViolation m a n k (reason - 1)).freeze_keeps low high
  refine ⟨?_, ?_⟩
  · exact (State.bit_of_fld (kept F.MPU_FREEZE_FROZEN 0 (by decide)) m).trans
      (State.bit_putBit_self _ 0 true (show m < 11 by omega))
  · refine (kept F.MPU_VIOL_ADDR_ADDR 0 (by decide)).trans ?_
    refine (fld_setFld_ne _ 0 0 _ (by decide)).trans ?_
    exact (s.recordViolation_alters a n k m _ F.MPU_VIOL_ADDR_ADDR 0 (by decide)).trans (fld_setFld_self ..)

theorem registerWrite_violates {data : Nat} {hw : List HwChange} (low : 1 ≤ m) (high : m ≤ 10)
    (free : s.bit F.MPU_FREEZE_FROZEN 0 m = false) (caught : s.violates m a n .store ≠ 0) :
    exec (.registerWrite m a n data hw) s = .next (s.violation m a n .store) := by
  have unlisted : s.openCase m a n data = 0 := if_pos (.inr (.inr (.inl caught)))
  have goes : ¬ (10 < m ∨ s.bit F.MPU_FREEZE_FROZEN 0 m = true) := by simp [free, high]
  have other : m ≠ 0 := by omega
  rw [exec_registerWrite, unlisted, orUnpredictable_zero]
  simp only [State.masterStore, if_neg goes, if_pos caught, if_neg other]

end

end Sys2Proof.Machine
end

section
/-! Stores to registers (R95, R96, R98, R101 to R103, R105): what one written field of a register without commands leaves. -/

namespace Sys2Proof.Machine

-- One proof at a time: a default argument `by decide` waits for the text before it, and each proof that waits takes a thread.
set_option Elab.async false

/-! ### Fields that take what is written -/

/-- No rule ignores a write of the field, whatever its copy: it lies in no window of a port, a partition or a function, and is no
fixed, locked or automatic field (see `State.ignores`). -/
def alwaysTaken (f : Field) : Bool :=
  !portWindow f && !partWindow f && !decide (F.MF_CTL_CONNECT.id / 32 ≤ f.id / 32 ∧ f.id / 32 ≤ F.MF_CNT3_NYETS.id / 32)
    && !decide (f.id / 32 = F.MF_EPD_START.id / 32) && !fixedUpstream.any (fun x => x.id == f.id)
    && !(f.id == F.MPU_WBASE_BASE.id || f.id == F.MPU_WLIMIT_LIMIT.id || f.id / 32 == F.MPU_WATTR_LOCK.id / 32)
    && !(f.id / 32 == F.CHORD_DNRANGE_DNLO.id / 32) && !(f.id == F.IC_CORECTL_RESET.id) && !(f.id == F.IC_SRC_PRIO.id)
    && !(f.id / 32 == F.TGT_CNT0_BADOPS.id / 32 || f.id / 32 == F.TGT_CNT1_CUTREADS.id / 32)

/-- A field of software alone: a write that is taken sets it and does nothing else, and no hardware change rivals it (R99). -/
def plainField (f : Field) : Bool :=
  alwaysTaken f && decide (f.cls = .software) && !actsItself f && !decide (f.id = F.IC_PEND_PEND.id)
    && !decide (f.id / 32 = F.PART_ASSIGN_PORT0.id / 32)

section
variable {f : Field} (plain : plainField f = true) (s : State) (i : Nat)
include plain

theorem plainField_cases : alwaysTaken f = true ∧ f.cls = .software ∧ actsItself f = false ∧ f.id ≠ F.IC_PEND_PEND.id
    ∧ f.id / 32 ≠ F.PART_ASSIGN_PORT0.id / 32 := by
  simpa [plainField, and_assoc] using plain

theorem State.absentSlot_of_plain : s.absentSlot f i = false := by
  have taken := (plainField_cases plain).1
  simp only [alwaysTaken, Bool.and_eq_true, Bool.not_eq_true'] at taken
  simp only [State.absentSlot, taken, Bool.false_and, Bool.or_false]

theorem State.ignores_of_plain : s.ignores f i = false := by
  have present := s.absentSlot_of_plain plain i
  have taken := (plainField_cases plain).1
  simp only [alwaysTaken, Bool.and_eq_true, Bool.not_eq_true'] at taken
  simp only [State.ignores, present, taken, Bool.false_and, Bool.and_false, Bool.or_false]

theorem State.wins_of_plain (hw : List HwChange) (v : Nat) : s.wins hw ⟨f, i, v⟩ = true := by
  have own : f.cls ≠ .hwChange := by rw [(plainField_cases plain).2.1]; decide
  simp [State.wins, s.ignores_of_plain plain i, own]

theorem State.takeWrite_of_plain (hw : List HwChange) (v : Nat) : s.takeWrite hw ⟨f, i, v⟩ = s.setFld f i v := by
  obtain ⟨-, software, passive, noEdge, -⟩ := plainField_cases plain
  unfold State.takeWrite
  dsimp only
  split
  · rw [if_neg noEdge, if_neg (by rw [software]; decide), if_neg (by rw [software]; decide)]
  · rw [if_neg (by rw [passive]; decide)]

theorem State.stageOne_of_plain (v : Nat) : s.stageOne ⟨f, i, v⟩ = (s.unstage ⟨f, i, v⟩).queuedWrite ⟨f, i, v⟩ := by
  have itself : s.openNibble ⟨f, i, v⟩ = (⟨f, i, v⟩, s) := if_neg fun h => (plainField_cases plain).2.2.2.2 h.1
  rw [State.stageOne, itself]
  rfl

theorem State.taken_of_plain (hw : List HwChange) (t : State) (v : Nat) :
    s.taken hw t ⟨f, i, v⟩ = (t.setFld f i v).unstage ⟨f, i, v⟩ := by
  rw [State.taken, s.ignores_of_plain plain i, if_neg Bool.false_ne_true, t.takeWrite_of_plain plain]

/-- One plain field applies: it takes its value, waits no more, and what follows from it comes about. -/
theorem State.applyAll_of_plain (hw : List HwChange) (v : Nat) :
    s.applyAll hw [⟨f, i, v⟩] = ((s.setFld f i v).unstage ⟨f, i, v⟩).applied s f i v := by
  rw [s.applyAll_eq, List.filter_cons_of_pos (s.wins_of_plain plain i hw v), ← s.taken_of_plain plain i hw s v]
  rfl

end

/-! ### One access -/

section
variable (s : State) (stop : State → Nat → State) (hw : List HwChange) {h : Home} {r : RegDef} {i view w mask : Nat} {x : Staged}

/-- A register without WO fields has no commands. -/
theorem State.strobes_of_quiet (quiet : ∀ f ∈ r.fields, f.access ≠ .wo) : s.strobes stop r i view w = s := by
  have passive : ∀ l : List Field, (∀ f ∈ l, f.access ≠ .wo) → l.foldl (fun s f =>
      let v := w / 2 ^ f.lo % 2 ^ f.width
      if f.access = .wo ∧ (v ≠ 0 ∨ (view = 0 ∧ f.id = F.TRC_MARK_VALUE.id)) then s.strobe stop f i v w else s) s = s := by
    intro l none
    induction l with
    | nil => rfl
    | cons f l ih =>
      obtain ⟨first, rest⟩ := List.forall_mem_cons.mp none
      rw [List.foldl_cons]
      simp only [first, false_and, if_false]
      exact ih rest
  unfold State.strobes
  split
  · exact passive _ fun f member => quiet f (List.mem_reverse.mp member)
  · rfl

theorem State.held'_of_fld {s t : State} (same : ∀ f j, holdSlot h = some (f, j) → t.fld f j = s.fld f j) :
    t.held' h = s.held' h := by
  unfold State.held'
  split
  · next f j slot => exact State.on_of_fld (same f j slot)
  · rfl

variable (quiet : ∀ f ∈ r.fields, f.access ≠ .wo)
include quiet

/-- A write that reaches no field changes nothing. -/
theorem State.writeReg_of_none (none : s.touched r i view (Nat.land w mask) mask = []) :
    s.writeReg stop hw h r i view w mask = s := by
  unfold State.writeReg
  extract_lets w' l hold now s₁ s₂
  have still : s₁ = s := by
    simp only [s₁, now, l, w', none]
    rfl
  have kept : s₂ = s := by
    simp only [s₂, still, hold, Bool.and_not_self, Bool.false_eq_true, if_false]
  rw [kept, s.strobes_of_quiet stop quiet]

/-- A field that applies as the write arrives takes its value, and nothing else follows for a plain field. -/
theorem State.writeReg_of_instant {f : Field} {v : Nat} (plain : plainField f = true)
    (one : s.touched r i view (Nat.land w mask) mask = [⟨f, i, v⟩]) (instant : f.applies = .i) (unpaired : f.paired = false)
    (inert : ∀ t : State, t.applied s f i v = t) (apart : ∀ g j, holdSlot h = some (g, j) → g.id ≠ f.id) :
    s.writeReg stop hw h r i view w mask = (s.setFld f i v).unstage ⟨f, i, v⟩ := by
  unfold State.writeReg
  extract_lets w' l hold now s₁ s₂
  have arrives : atOnce hold f = true := by simp [atOnce, instant, unpaired]
  have written : s₁ = (s.setFld f i v).unstage ⟨f, i, v⟩ := by
    have chosen : now = [⟨f, i, v⟩] := by simp only [now, l, w', one, List.filter_cons, arrives, if_true, List.filter_nil]
    have waiting : l.filter (fun x => !atOnce hold x.field) = [] := by
      simp only [l, w', one, List.filter_cons, arrives, Bool.not_true, Bool.false_eq_true, if_false, List.filter_nil]
    simp only [s₁, chosen, waiting]
    exact (s.applyAll_of_plain plain i hw v).trans (inert _)
  have held : s₁.held' h = hold := by
    rw [written]
    exact State.held'_of_fld fun g j slot => fld_setFld_ne s i j v (apart g j slot)
  have kept : s₂ = s₁ := by
    simp only [s₂, held, Bool.and_not_self, Bool.false_eq_true, if_false]
  rw [kept, written, State.strobes_of_quiet _ stop quiet]

/-- A field that applies at a boundary waits, in place of an earlier write of it (R102). -/
theorem State.writeReg_of_waiting {f : Field} {v : Nat} (plain : plainField f = true)
    (one : s.touched r i view (Nat.land w mask) mask = [⟨f, i, v⟩]) (waits : f.applies ≠ .i) :
    s.writeReg stop hw h r i view w mask = (s.unstage ⟨f, i, v⟩).queuedWrite ⟨f, i, v⟩ := by
  unfold State.writeReg
  extract_lets w' l hold now s₁ s₂
  have later : atOnce hold f = false := by simp [atOnce, waits]
  have queued : s₁ = (s.unstage ⟨f, i, v⟩).queuedWrite ⟨f, i, v⟩ := by
    have chosen : now = [] := by
      simp only [now, l, w', one, List.filter_cons, later, Bool.false_eq_true, if_false, List.filter_nil]
    have waiting : l.filter (fun x => !atOnce hold x.field) = [⟨f, i, v⟩] := by
      simp only [l, w', one, List.filter_cons, later, Bool.not_false, if_true, List.filter_nil]
    simp only [s₁, chosen, waiting]
    change (if s.ignores f i then s else s.stageOne ⟨f, i, v⟩) = _
    rw [s.ignores_of_plain plain i, if_neg Bool.false_ne_true, s.stageOne_of_plain plain]
  have kept : s₂ = s₁ := by
    have held : s₁.held' h = hold := by rw [queued]; rfl
    simp only [s₂, held, Bool.and_not_self, Bool.false_eq_true, if_false]
  rw [kept, queued, State.strobes_of_quiet _ stop quiet]

end

/-- A store lands in a register: the block and the view of its address, the register and its copy. -/
structure Reaches (m a : Nat) (h : Home) (view : Nat) (r : RegDef) (i : Nat) : Prop where
  home : homeAt a = some h
  unbarred : shutTo m h a = false
  view : viewOf h a = view
  reg : regAt h (normalAddr h (a / 4 * 4)) = some (r, i)
  unbanked : bankOf m r i = i

section
variable {s : State} {hw : List HwChange} {m a n data view i : Nat} {h : Home} {r : RegDef} (reaches : Reaches m a h view r i)
include reaches

theorem Reaches.openStore : s.openStore m a n data
    = s.openReg m h r i view (data % 2 ^ (8 * n) * 2 ^ (8 * (a % 4))) (laneMask a n) := by
  obtain ⟨home, unbarred, rfl, reg, unbanked⟩ := reaches
  simp only [State.openStore, home, unbarred, reg, unbanked, Bool.false_eq_true, if_false]

theorem Reaches.store : s.store hw m a n data
    = s.writeReg State.dmaStopFree hw h r i view (data % 2 ^ (8 * n) * 2 ^ (8 * (a % 4))) (laneMask a n) := by
  obtain ⟨home, unbarred, rfl, reg, unbanked⟩ := reaches
  simp only [State.store, State.storeWith, home, unbarred, reg, unbanked, Bool.false_eq_true, if_false]

theorem Reaches.there (present : s.homeGone h = false) : s.absentAt a = none := by
  simp only [State.absentAt, reaches.home, present, Bool.false_eq_true, if_false]

end

/-- Only the surge levels, the ranges of PLAN and the range mode have values that are unpredictable together (R314, R347). -/
def apartRegister (f : Field) : Bool :=
  !decide (f.id / 32 = F.ENT_SURGE_VCLAMP.id / 32) && !decide (f.id / 32 = F.CHORD_DNRANGE_DNLO.id / 32)
    && !decide (f.id / 32 = F.CHORD_CFG_RANGEMODE.id / 32)

theorem State.openTogether_of_apart (s : State) {l : List Staged} (apart : ∀ x ∈ l, apartRegister x.field = true) :
    s.openTogether l = 0 := by
  have untouched : ∀ g ∈ [F.ENT_SURGE_VCLAMP, F.CHORD_DNRANGE_DNLO, F.CHORD_CFG_RANGEMODE],
      l.any (fun x => decide (x.field.id / 32 = g.id / 32)) = false := by
    intro g listed
    refine List.any_eq_false.mpr fun x member => ?_
    have other := apart x member
    simp only [apartRegister, Bool.and_eq_true, Bool.not_eq_true', decide_eq_false_iff_not] at other
    obtain ⟨⟨surge, range⟩, mode⟩ := other
    simp only [List.mem_cons, List.not_mem_nil, or_false] at listed
    rw [decide_eq_true_eq]
    rcases listed with rfl | rfl | rfl
    · exact surge
    · exact range
    · exact mode
  simp only [State.openTogether, untouched F.ENT_SURGE_VCLAMP (by simp), untouched F.CHORD_DNRANGE_DNLO (by simp),
    untouched F.CHORD_CFG_RANGEMODE (by simp), Bool.false_eq_true, false_and, Bool.or_self, Bool.false_and, if_false]

section
variable {s : State} {m i view w mask : Nat} {h : Home} {r : RegDef} (quiet : ∀ f ∈ r.fields, f.access ≠ .wo)
include quiet

/-- A write to a register without commands meets the rules of the fields that it reaches. -/
theorem State.openReg_of_quiet {l : List Staged} (reached : s.touched r i view (Nat.land w mask) mask = l)
    (apart : ∀ x ∈ l, apartRegister x.field = true) (free : ∀ x ∈ l, s.openQuince x.field x.index x.value = 0
      ∧ s.openPort m x.field x.index x.value = 0 ∧ s.openService (s.held' h) x.field x.index = 0) :
    s.openReg m h r i view w mask = 0 := by
  have acts : (if view = 0 ∨ view = 1 then (r.fields.filter (fun f => decide (f.access = .wo)
      && decide (Nat.land w mask / 2 ^ f.lo % 2 ^ f.width ≠ 0))).map (fun f => (⟨f, i, 1⟩ : Staged)) else []) = [] := by
    have none : r.fields.filter (fun f => decide (f.access = .wo)
        && decide (Nat.land w mask / 2 ^ f.lo % 2 ^ f.width ≠ 0)) = [] :=
      List.filter_eq_nil_iff.mpr fun f member => by simp [quiet f member]
    rw [none]
    split <;> rfl
  unfold State.openReg
  extract_lets w' l' acts' one
  have reached' : l' = l := reached
  have acts'_nil : acts' = [] := acts
  rw [reached', acts'_nil, List.append_nil, s.openTogether_of_apart apart]
  have zero : ∀ n ∈ l.map one, n = 0 := by
    intro n member
    obtain ⟨x, hx, rfl⟩ := List.mem_map.mp member
    obtain ⟨quince, port, service⟩ := free x hx
    simp [one, quince, port, service]
  rw [List.eq_replicate_of_mem zero]
  cases (l.map one).length with
  | zero => rfl
  | succ n => exact foldl_max_replicate 0 (n + 1) (by omega)

end

end Sys2Proof.Machine
end

section
/-! Stores to the page buffer of the flash controller, which take at once and by view, and to the voltage of a port, which wait
for its power control period (R96, R101 to R103). -/

namespace Sys2Proof.Machine

-- One proof at a time: a default argument `by decide` waits for the text before it, and each proof that waits takes a thread.
set_option Elab.async false

/-! ### Words and views -/

/-- A plain field that the part does not compute reads what waits for it, or what it holds (R103). -/
theorem State.shown_of_plain (s : State) {f : Field} {i : Nat} (plain : plainField f = true) (stored : s.derived f i = none)
    (writes : f.access = .rw) : s.shown f i = s.stagedFld f i := by
  have own : f.cls ≠ .hwChange := by rw [(plainField_cases plain).2.1]; decide
  simp [State.shown, s.absentSlot_of_plain plain i, stored, writes, own]

theorem land_mask (x n : Nat) : Nat.land x (2 ^ n - 1) = x % 2 ^ n := Nat.and_two_pow_sub_one_eq_mod x n

theorem xor_mask {x n : Nat} (h : x < 2 ^ n) : Nat.xor x (2 ^ n - 1) = 2 ^ n - 1 - x := by
  refine Nat.eq_of_testBit_eq fun b => ?_
  have flipped : (x ^^^ (2 ^ n - 1)).testBit b = (2 ^ n - (x + 1)).testBit b := by
    rw [Nat.testBit_xor, Nat.testBit_two_pow_sub_one, Nat.testBit_two_pow_sub_succ h]
    by_cases low : b < n
    · simp [low]
    · simp [low, Nat.testBit_lt_two_pow (h.trans_le (Nat.pow_le_pow_right (by decide) (Nat.le_of_not_lt low)))]
  exact flipped.trans (congrArg (Nat.testBit · b) (by omega))

/-- What a write of every bit of a field gives it, through the normal view: the bits written (R95). -/
theorem viewed_normal (old w : Nat) {mask n : Nat} (wide : n ≠ 0) (full : mask % 2 ^ n = 2 ^ n - 1) :
    viewed 0 old w mask n = some (w % 2 ^ n) := by
  have two : 2 ≤ 2 ^ n := Nat.le_self_pow wide 2
  have bits : Nat.land (w % 2 ^ n) (2 ^ n - 1) = w % 2 ^ n := by rw [land_mask, Nat.mod_mod]
  have rest : Nat.xor (2 ^ n - 1) (2 ^ n - 1) = 0 := Nat.xor_self _
  have kept : Nat.land old 0 = 0 := Nat.and_zero old
  have whole : Nat.lor (w % 2 ^ n) 0 = w % 2 ^ n := Nat.or_zero _
  simp only [viewed, full, if_true, if_neg (show 2 ^ n - 1 ≠ 0 by omega), bits, rest, kept, whole]

/-- The view's number in the address (R95). -/
def AliasView.code : AliasView → Nat
  | .set => 1
  | .clr => 2
  | .tgl => 3

/-- What a view makes of the bits of a field and of those written (R96). -/
def AliasView.apply (v : AliasView) (old t : Nat) : Nat :=
  match v with
  | .set => Nat.lor old t
  | .clr => Nat.land old (2 ^ 32 - 1 - t)
  | .tgl => Nat.xor old t

theorem AliasView.apply_zero (v : AliasView) {old : Nat} (fits : old < 2 ^ 32) : v.apply old 0 = old := by
  cases v with
  | set => exact Nat.or_zero old
  | clr => exact (land_mask old 32).trans (Nat.mod_eq_of_lt fits)
  | tgl => exact Nat.xor_zero old

theorem AliasView.apply_lt (v : AliasView) {old t : Nat} (fits : old < 2 ^ 32) (bits : t < 2 ^ 32) : v.apply old t < 2 ^ 32 := by
  cases v with
  | set => exact Nat.or_lt_two_pow fits bits
  | clr => exact Nat.and_lt_two_pow old (by omega)
  | tgl => exact Nat.xor_lt_two_pow fits bits

/-- A view takes nothing from a write of no bit, and else what it makes of the bits written. -/
theorem viewed_alias (v : AliasView) (old : Nat) {w : Nat} (bits : w < 2 ^ 32) :
    viewed v.code old w (2 ^ 32 - 1) 32 = if w = 0 then none else some (v.apply old w) := by
  have whole : Nat.land (w % 2 ^ 32) ((2 ^ 32 - 1) % 2 ^ 32) = w := by
    rw [Nat.mod_eq_of_lt bits, Nat.mod_eq_of_lt (by decide), land_mask, Nat.mod_eq_of_lt bits]
  have flipped : Nat.xor w (2 ^ 32 - 1) = 2 ^ 32 - 1 - w := xor_mask bits
  cases v <;> simp only [viewed, AliasView.code, AliasView.apply, whole, flipped,
    if_neg (show (1 : Nat) ≠ 0 by decide), if_neg (show (2 : Nat) ≠ 0 by decide), if_neg (show (3 : Nat) ≠ 0 by decide)]

/-! ### The page buffer -/

/-- The block of the flash controller (R93). -/
def flashHome : Home := ⟨.qspi, 0, 1, 0x400A0000⟩

/-- The words of the page buffer (R398). -/
def pageBuffer : RegDef := ⟨303, .qspi, [⟨0x400A0100, 1, 0x0, 64, 0x4, 0⟩], [F.QSPI_PBUF_DATA]⟩

theorem pageBuffer_quiet : ∀ f ∈ pageBuffer.fields, f.access ≠ .wo := by decide

theorem pageBuffer_place : ∀ view < 4, ∀ j < 64, homeAt (0x400A0100 + 4 * j + 0x1000 * view) = some flashHome
    ∧ viewOf flashHome (0x400A0100 + 4 * j + 0x1000 * view) = view
    ∧ regAt flashHome (normalAddr flashHome ((0x400A0100 + 4 * j + 0x1000 * view) / 4 * 4)) = some (pageBuffer, j) := by
  decide +kernel

theorem pageBuffer_reaches (m : Nat) {view j : Nat} (known : view < 4) (within : j < 64) :
    Reaches m (0x400A0100 + 4 * j + 0x1000 * view) flashHome view pageBuffer j := by
  obtain ⟨home, view, reg⟩ := pageBuffer_place view known j within
  exact ⟨home, rfl, view, reg, rfl⟩

section
variable {s : State} {m a data view j : Nat} {hw : List HwChange}

theorem State.touched_pageBuffer (w mask : Nat) : s.touched pageBuffer j view w mask
    = ((viewed view (s.base F.QSPI_PBUF_DATA j) w mask 32).map fun v => (⟨F.QSPI_PBUF_DATA, j, v⟩ : Staged)).toList := by
  have one : s.touched pageBuffer j view w mask = [F.QSPI_PBUF_DATA].filterMap fun f => if f.access = .rw then
      (viewed view (s.base f j) (w / 2 ^ f.lo) (mask / 2 ^ f.lo) f.width).map fun v => (⟨f, j, v⟩ : Staged) else none := rfl
  rw [one, List.filterMap_cons, List.filterMap_nil]
  have bits : ∀ x : Nat, x / 2 ^ F.QSPI_PBUF_DATA.lo = x := fun x => Nat.div_one x
  simp only [bits, show F.QSPI_PBUF_DATA.access = .rw from rfl, if_true, show F.QSPI_PBUF_DATA.width = 32 from rfl]
  cases viewed view (s.base F.QSPI_PBUF_DATA j) w mask 32 <;> rfl

/-- While no operation runs, no rule lists a write of the page buffer (R395). -/
theorem State.openReg_pageBuffer (idle : s.on F.QSPI_STAT_OPBUSY 0 = false) (w mask : Nat) :
    s.openReg m flashHome pageBuffer j view w mask = 0 := by
  have free : ∀ (hold : Bool) (i : Nat), s.openService hold F.QSPI_PBUF_DATA i = 0 := fun hold i =>
    if_neg (c := s.on F.QSPI_STAT_OPBUSY 0 = true) (by rw [idle]; exact Bool.false_ne_true)
  have quince : ∀ i v, s.openQuince F.QSPI_PBUF_DATA i v = 0 := fun _ _ => rfl
  have apart : apartRegister F.QSPI_PBUF_DATA = true := by decide
  have port : ∀ i v, s.openPort m F.QSPI_PBUF_DATA i v = 0 := fun _ _ => rfl
  refine State.openReg_of_quiet pageBuffer_quiet (s.touched_pageBuffer _ _) (fun x member => ?_) fun x member => ?_
  all_goals obtain ⟨v, -, rfl⟩ := Option.map_eq_some_iff.mp (Option.mem_toList.mp member)
  · exact apart
  · exact ⟨quince _ _, port _ _, free _ _⟩

/-- A store to a word of the page buffer, through any view, completes (R98). -/
theorem Permitted.store_pageBuffer (made : Permitted s m a 4) (known : view < 4) (within : j < 64)
    (word : a = 0x400A0100 + 4 * j + 0x1000 * view) (idle : s.on F.QSPI_STAT_OPBUSY 0 = false) :
    s.openCase m a 4 data = 0 ∧ s.masterStore hw m a 4 data
      = s.writeReg State.dmaStopFree hw flashHome pageBuffer j view (data % 2 ^ 32) (2 ^ 32 - 1) := by
  have reaches : Reaches m a flashHome view pageBuffer j := word ▸ pageBuffer_reaches m known within
  have aligned : a % 4 = 0 := by omega
  have lanes : laneMask a 4 = 2 ^ 32 - 1 := by rw [laneMask, aligned]; rfl
  have bits : data % 2 ^ (8 * 4) * 2 ^ (8 * (a % 4)) = data % 2 ^ 32 := by rw [aligned]; exact Nat.mul_one _
  refine ⟨?_, ?_⟩
  · rw [made.openCase, reaches.openStore, State.openReg_pageBuffer idle]
  · rw [made.masterStore, reaches.store, lanes, bits]

/-- The word takes the value that the write gives it. -/
theorem State.writeReg_pageBuffer {w mask v : Nat}
    (given : viewed view (s.base F.QSPI_PBUF_DATA j) (Nat.land w mask) mask 32 = some v) :
    s.writeReg State.dmaStopFree hw flashHome pageBuffer j view w mask
      = (s.setFld F.QSPI_PBUF_DATA j v).unstage ⟨F.QSPI_PBUF_DATA, j, v⟩ := by
  have one : s.touched pageBuffer j view (Nat.land w mask) mask = [⟨F.QSPI_PBUF_DATA, j, v⟩] := by
    rw [State.touched_pageBuffer, given]; rfl
  refine State.writeReg_of_instant s _ hw pageBuffer_quiet (by decide) one rfl rfl (fun _ => rfl) fun g i slot => ?_
  have hold : holdSlot flashHome = some (F.QSPI_STAGE_HOLD, 0) := by decide +kernel
  obtain ⟨rfl, -⟩ := Prod.mk.inj (Option.some.inj (hold.symm.trans slot))
  decide

theorem State.base_pageBuffer (free : s.pendingWrite F.QSPI_PBUF_DATA j = none) :
    s.base F.QSPI_PBUF_DATA j = s.fld F.QSPI_PBUF_DATA j := by
  rw [State.base, free, Option.getD_none, State.shown_of_plain s (by decide) rfl rfl, State.stagedFld, free, Option.getD_none]

end

/-! ### The voltage of a port -/

/-- The power block of the Currant of port `p` (R94). -/
def powerHome (p : Nat) : Home := ⟨.pwr, 1 + currant p, Dom.ports (currant p), 0x50010000 + 0x1000000 * currant p⟩

/-- The voltage register of the ports (R296). -/
def voltage : RegDef :=
  ⟨134, .pwr, [⟨0x50010100, 4, 0x1000000, 8, 0x40, 1⟩], [F.PWR_VSET_SLEW, F.PWR_VSET_TSETTLE, F.PWR_VSET_VSET]⟩

theorem voltage_quiet : ∀ f ∈ voltage.fields, f.access ≠ .wo := by decide

/-- The address of port `p`'s voltage. -/
def voltageAddr (p : Nat) : Nat := 0x50010100 + 0x1000000 * currant p + 0x40 * place8 p

theorem voltage_place : ∀ q < 32, homeAt (voltageAddr (q + 1)) = some (powerHome (q + 1))
    ∧ viewOf (powerHome (q + 1)) (voltageAddr (q + 1)) = 0
    ∧ regAt (powerHome (q + 1)) (normalAddr (powerHome (q + 1)) (voltageAddr (q + 1) / 4 * 4)) = some (voltage, q + 1)
    ∧ slotHome F.PWR_VSET_VSET.id (q + 1) = some (powerHome (q + 1))
    ∧ holdSlot (powerHome (q + 1)) = some (F.PWR_STAGE_HOLD, currant (q + 1)) := by
  decide +kernel

theorem voltage_reaches (m : Nat) {p : Nat} (low : 1 ≤ p) (high : p ≤ 32) :
    Reaches m (voltageAddr p) (powerHome p) 0 voltage p := by
  obtain ⟨q, rfl⟩ := Nat.exists_eq_add_of_le' low
  obtain ⟨home, view, reg, -⟩ := voltage_place q (by omega)
  exact ⟨home, rfl, view, reg, rfl⟩

section
variable {s : State} {m p data : Nat} {hw : List HwChange}

/-- A half word reaches the voltage, and neither the settle time nor the slew. -/
theorem State.touched_voltage : s.touched voltage p 0 (Nat.land (data % 2 ^ 16) (2 ^ 16 - 1)) (2 ^ 16 - 1)
    = [⟨F.PWR_VSET_VSET, p, data % 2 ^ 13⟩] := by
  have one : ∀ w mask, s.touched voltage p 0 w mask = [F.PWR_VSET_SLEW, F.PWR_VSET_TSETTLE, F.PWR_VSET_VSET].filterMap fun f =>
      if f.access = .rw then (viewed 0 (s.base f p) (w / 2 ^ f.lo) (mask / 2 ^ f.lo) f.width).map fun v => (⟨f, p, v⟩ : Staged)
      else none := fun _ _ => rfl
  have slew : ∀ old w, viewed 0 old w ((2 ^ 16 - 1) / 2 ^ F.PWR_VSET_SLEW.lo) F.PWR_VSET_SLEW.width = none := fun _ _ => rfl
  have settle : ∀ old w, viewed 0 old w ((2 ^ 16 - 1) / 2 ^ F.PWR_VSET_TSETTLE.lo) F.PWR_VSET_TSETTLE.width = none :=
    fun _ _ => rfl
  have value : ∀ old, viewed 0 old (Nat.land (data % 2 ^ 16) (2 ^ 16 - 1) / 2 ^ F.PWR_VSET_VSET.lo)
      ((2 ^ 16 - 1) / 2 ^ F.PWR_VSET_VSET.lo) F.PWR_VSET_VSET.width = some (data % 2 ^ 13) := by
    intro old
    refine (viewed_normal old _ (by decide) (by decide)).trans (congrArg some ?_)
    rw [land_mask, Nat.mod_mod]
    change data % 2 ^ 16 / 1 % 2 ^ 13 = _
    rw [Nat.div_one, Nat.mod_mod_of_dvd _ (by decide)]
  have writes : ∀ f ∈ voltage.fields, f.access = .rw := by decide
  simp only [one, List.filterMap_cons, List.filterMap_nil, writes F.PWR_VSET_SLEW (by decide),
    writes F.PWR_VSET_TSETTLE (by decide), writes F.PWR_VSET_VSET (by decide), if_true, slew, settle, value, Option.map_none,
    Option.map_some]

theorem registerWrite_voltage (made : Permitted s m (voltageAddr p) 2) (low : 1 ≤ p) (high : p ≤ 32) :
    exec (.registerWrite m (voltageAddr p) 2 data hw) s
      = .next ((s.unstage ⟨F.PWR_VSET_VSET, p, data % 2 ^ 13⟩).queuedWrite ⟨F.PWR_VSET_VSET, p, data % 2 ^ 13⟩) := by
  have reaches := voltage_reaches m low high
  have aligned : voltageAddr p % 4 = 0 := by unfold voltageAddr; omega
  have lanes : laneMask (voltageAddr p) 2 = 2 ^ 16 - 1 := by rw [laneMask, aligned]; rfl
  have bits : data % 2 ^ (8 * 2) * 2 ^ (8 * (voltageAddr p % 4)) = data % 2 ^ 16 := by rw [aligned]; exact Nat.mul_one _
  have free : s.openStore m (voltageAddr p) 2 data = 0 := by
    rw [reaches.openStore, lanes, bits]
    have quince : ∀ i v, s.openQuince F.PWR_VSET_VSET i v = 0 := fun _ _ => rfl
    have apart : apartRegister F.PWR_VSET_VSET = true := by decide
    have port : ∀ i v, s.openPort m F.PWR_VSET_VSET i v = 0 := fun _ _ => rfl
    have service : ∀ hold i, s.openService hold F.PWR_VSET_VSET i = 0 := fun _ _ => rfl
    refine State.openReg_of_quiet voltage_quiet s.touched_voltage (fun x member => ?_) fun x member => ?_
    all_goals obtain rfl := List.mem_singleton.mp member
    · exact apart
    · exact ⟨quince _ _, port _ _, service _ _⟩
  rw [made.exec free, reaches.store, lanes, bits]
  exact congrArg _ (State.writeReg_of_waiting s _ hw voltage_quiet (by decide) s.touched_voltage (by decide))

end

end Sys2Proof.Machine
end

section
/-! Boundaries, HOLD and snapshots (R101, R105, R110), and the commands of registers. -/

namespace Sys2Proof.Machine

-- One proof at a time: a default argument `by decide` waits for the text before it, and each proof that waits takes a thread.
set_option Elab.async false

/-! ### A voltage applies at its power control period (R101, R274) -/

/-- The fields that a new stage state and its levels write. -/
def stageWrites : List Field :=
  [F.PWR_PSTAT_STATE, F.PWR_PSTAT_PG, F.PWR_PSTAT_GATEON, F.PWR_PSTAT_LIMIT, F.PWR_PSTAT_CL, F.PWR_PSTAT_DROPOUT,
    F.PWR_LEVELS_ICLAMP, F.PWR_LEVELS_ILIM_EFF, F.PWR_LEVELS_IPK, F.PWR_LEVELS_IFT]

/-- Of the power stages, `t` differs from `s` in the fields of state and levels at most. -/
abbrev KeepsStage (s t : State) : Prop := Alters (allRegs - 2 ^ 11) stageWrites s t

section
variable (s : State) (p : Nat)

theorem State.levels_keepsStage : KeepsStage s (s.levels p) := by
  unfold State.levels
  extract_lets c lim base s₁ s₂
  exact .ite (.setFld (.setFld (.setFld (.setFld (.refl s))))) (.refl s)

theorem State.setPwr_keepsStage (d : Pwr) : KeepsStage s (s.setPwr p d) := by
  unfold State.setPwr
  extract_lets changed s₁ s₂ s₃ s₄ s₅ s₆
  have entered : KeepsStage s s₃ := .put (.put (.setFld (.refl s)))
  have limited : KeepsStage s s₄ := .ite entered (.put (.put entered))
  have stage : KeepsStage s s₅ := .via (.ite limited (.put limited)) (State.updPwr_via ..)
  have sunk : KeepsStage s s₆ := .via stage (State.dischSink_via ..)
  exact .trans (.ite (.via (.via sunk (State.irq_via ..)) (State.updPwr_via ..)) sunk) (State.levels_keepsStage _ p)

theorem State.vsetUpdate_keepsStage : KeepsStage s (s.vsetUpdate p) := by
  unfold State.vsetUpdate
  extract_lets v ramps s₁
  have updated : KeepsStage s s₁ := .via (.refl s) (State.updPwr_via ..)
  exact .ite (.refl s) (.ite (updated.trans (State.setPwr_keepsStage _ p _)) updated)

end

section
variable {s : State} {p v k : Nat} {hw : List HwChange}

theorem overlapApplied_of_fld {s t : State} (same : ∀ k, t.fld F.MF_CTL_CONNECT k = s.fld F.MF_CTL_CONNECT k) :
    overlapApplied s t = false := by
  have on : ∀ k, t.on F.MF_CTL_CONNECT k = s.on F.MF_CTL_CONNECT k := fun k => State.on_of_fld (same k)
  simp [overlapApplied, on]

/-- At a power control period the writes in its scope apply, but for blocks on HOLD. -/
theorem exec_periodBoundary {l : List Staged}
    (chosen : s.staged.filter (fun x => s.inScope .p k x && !(slotHome x.field.id x.index).any s.held') = l)
    (connects : ∀ k, (s.applyAll hw l).fld F.MF_CTL_CONNECT k = s.fld F.MF_CTL_CONNECT k)
    (roles : ∀ x ∈ l, x.field.id ≠ F.TCPD_CCCFG_ROLE.id) :
    exec (.stagedWriteApply .p k hw) s = .next (s.applyAll hw l) := by
  have still : s.roleMoved l = false := List.any_eq_false.mpr fun x member => by simp [roles x member]
  show execStagedWriteApply .p k hw s = _
  simp only [execStagedWriteApply, chosen, show (Boundary.p == Boundary.t) = false from rfl,
    show (Boundary.p == Boundary.f) = false from rfl, overlapApplied_of_fld connects, still, Bool.false_and, Bool.false_eq_true,
    if_false, orUnpredictable_zero]

/-- Whether the waiting voltage of port `p` is in the scope of Currant `k`'s period, and its block not on HOLD. -/
theorem State.voltage_chosen (low : 1 ≤ p) (high : p ≤ 32) (waits : s.staged = [⟨F.PWR_VSET_VSET, p, v⟩]) :
    s.staged.filter (fun x => s.inScope .p k x && !(slotHome x.field.id x.index).any s.held')
      = if currant p = k ∧ s.on F.PWR_STAGE_HOLD (currant p) = false then [⟨F.PWR_VSET_VSET, p, v⟩] else [] := by
  obtain ⟨q, rfl⟩ := Nat.exists_eq_add_of_le' low
  obtain ⟨-, -, -, home, hold⟩ := voltage_place q (by omega)
  have held : s.held' (powerHome (q + 1)) = s.on F.PWR_STAGE_HOLD (currant (q + 1)) := by rw [State.held', hold]
  have scope : powerScope ⟨F.PWR_VSET_VSET, q + 1, v⟩ = currant (q + 1) := by
    simp only [powerScope, home]
    exact Nat.add_sub_cancel_left ..
  have due : s.inScope .p k ⟨F.PWR_VSET_VSET, q + 1, v⟩ = decide (currant (q + 1) = k) := by
    simp only [State.inScope, scope]
    exact Bool.true_and _
  rw [waits, List.filter_cons, List.filter_nil]
  simp only [due, home, Option.any_some, held]
  by_cases own : currant (q + 1) = k <;> cases s.on F.PWR_STAGE_HOLD (currant (q + 1)) <;> simp [own]

/-- A voltage that applies is the one written (R101, R103). -/
theorem State.applyAll_voltage (waits : s.staged = [⟨F.PWR_VSET_VSET, p, v⟩]) :
    (s.applyAll hw [⟨F.PWR_VSET_VSET, p, v⟩]).fld F.PWR_VSET_VSET p = v % 2 ^ 13
      ∧ (s.applyAll hw [⟨F.PWR_VSET_VSET, p, v⟩]).staged = []
      ∧ ∀ k, (s.applyAll hw [⟨F.PWR_VSET_VSET, p, v⟩]).fld F.MF_CTL_CONNECT k = s.fld F.MF_CTL_CONNECT k := by
  have follows : s.applyAll hw [⟨F.PWR_VSET_VSET, p, v⟩]
      = ((s.setFld F.PWR_VSET_VSET p v).unstage ⟨F.PWR_VSET_VSET, p, v⟩).vsetUpdate p :=
    (s.applyAll_of_plain (by decide) p hw v).trans rfl
  rw [follows]
  refine ⟨?_, ?_, fun k => ?_⟩
  · exact (State.vsetUpdate_keepsStage _ p F.PWR_VSET_VSET p (by decide)).trans (fld_setFld_self ..)
  · refine ((State.vsetUpdate_via ..).same .staged (by decide)).trans ?_
    simp [State.unstage, waits]
  · exact ((State.vsetUpdate_via ..).fld F.MF_CTL_CONNECT k (by decide)).trans (fld_setFld_ne s p k v (by decide))

end

/-! ### HOLD (R105) -/

section
variable {s : State} {blk : Block} {j : Nat} {hw : List HwChange} {f : Field} {h : Home}

theorem exec_holdRelease (stage : stageOf blk = some f) (home : slotHome f.id j = some h) (held : s.on f j = true) :
    exec (.holdRelease blk j hw) s = .next ((s.put f j false).holdReleased hw h) := by
  show execHoldRelease blk j hw s = _
  simp only [execHoldRelease, stage, home, held, if_true]

theorem State.on_put_false (s : State) (f : Field) (i : Nat) : (s.put f i false).on f i = false := by
  simp [State.on, State.put, bit01]

/-- Nothing of the block waits: its HOLD ends alone. -/
theorem State.holdReleased_of_none (none : ∀ x ∈ s.staged, ((slotHome x.field.id x.index).any (·.base == h.base)) = false) :
    s.holdReleased hw h = s := by
  have idle : s.staged.filter (fun x => decide (x.field.applies = .i)
      && ((slotHome x.field.id x.index).any (·.base == h.base))) = [] :=
    List.filter_eq_nil_iff.mpr fun x member => by simp [none x member]
  rw [State.holdReleased, idle]
  rfl

end

/-- The block of the real-time clock (R93). -/
def clockHome : Home := ⟨.rtc, 0, 0, 0x40008000⟩

section
variable {s : State} {v w : Nat} {hw : List HwChange}

/-- An alarm that is not armed does nothing (R83). -/
theorem State.alarmApplied_unarmed (unarmed : s.on F.RTC_ALARM_HI_ARM 0 = false) : s.alarmApplied = s := by
  rw [State.alarmApplied, unarmed, Bool.false_and, if_neg Bool.false_ne_true]

/-- The two halves of the alarm as they apply on one edge. -/
def State.alarmWritten (s : State) (v w : Nat) : State :=
  (((s.setFld F.RTC_ALARM_LO_ALARM_LO 0 v).unstage ⟨F.RTC_ALARM_LO_ALARM_LO, 0, v⟩).setFld F.RTC_ALARM_HI_ALARM_HI 0 w).unstage
    ⟨F.RTC_ALARM_HI_ALARM_HI, 0, w⟩

theorem State.alarmWritten_fld_other (s : State) (v w : Nat) {g : Field} (i : Nat) (lo : g.id ≠ F.RTC_ALARM_LO_ALARM_LO.id)
    (hi : g.id ≠ F.RTC_ALARM_HI_ALARM_HI.id) : (s.alarmWritten v w).fld g i = s.fld g i :=
  (fld_setFld_ne _ 0 i w hi).trans (fld_setFld_ne s 0 i v lo)

/-- What follows either half of the alarm (R83). -/
theorem State.applied_alarm (t : State) (i : Nat) : t.applied s F.RTC_ALARM_LO_ALARM_LO i v = t.alarmApplied
    ∧ t.applied s F.RTC_ALARM_HI_ALARM_HI i w = t.alarmApplied :=
  ⟨rfl, rfl⟩

/-- The alarm's halves apply together when the clock's HOLD ends (R105). -/
theorem State.holdReleased_alarm (unarmed : s.on F.RTC_ALARM_HI_ARM 0 = false)
    (waits : s.staged = [⟨F.RTC_ALARM_LO_ALARM_LO, 0, v⟩, ⟨F.RTC_ALARM_HI_ALARM_HI, 0, w⟩]) :
    s.holdReleased hw clockHome = s.alarmWritten v w := by
  have homes : slotHome F.RTC_ALARM_LO_ALARM_LO.id 0 = some clockHome ∧ slotHome F.RTC_ALARM_HI_ALARM_HI.id 0 = some clockHome := by
    decide +kernel
  have chosen : s.staged.filter (fun x => decide (x.field.applies = .i)
      && ((slotHome x.field.id x.index).any (·.base == clockHome.base))) = s.staged := by
    rw [waits]
    simp only [List.filter_cons, List.filter_nil, homes.1, homes.2]
    rfl
  have quiet : (s.alarmWritten v w).on F.RTC_ALARM_HI_ARM 0 = false :=
    (State.on_of_fld (s.alarmWritten_fld_other v w 0 (by decide) (by decide))).trans unarmed
  rw [State.holdReleased, chosen, waits, s.applyAll_eq,
    List.filter_cons_of_pos (s.wins_of_plain (by decide) 0 hw v), List.filter_cons_of_pos (s.wins_of_plain (by decide) 0 hw w)]
  have taken : [(⟨F.RTC_ALARM_LO_ALARM_LO, 0, v⟩ : Staged), ⟨F.RTC_ALARM_HI_ALARM_HI, 0, w⟩].foldl (s.taken hw) s
      = s.alarmWritten v w := by
    simp only [List.foldl_cons, List.foldl_nil]
    rw [s.taken_of_plain (by decide) 0 hw s v, s.taken_of_plain (by decide) 0 hw _ w]
    rfl
  rw [List.filter_nil, taken, List.foldl_cons, List.foldl_cons, List.foldl_nil]
  rw [(State.applied_alarm (w := w) _ 0).1, (State.applied_alarm (v := v) _ 0).2,
    State.alarmApplied_unarmed quiet, State.alarmApplied_unarmed quiet]

end

/-! ### Snapshots (R110) -/

theorem snapFields_widths (k : Nat) : (snapFields k).1.width = 1 ∧ (snapFields k).2.2.1.width = 32
    ∧ (snapFields k).2.2.2.1.width = 32 := by
  unfold snapFields
  split <;> (dsimp only; decide)

theorem snapFields_apart (k : Nat) : (snapFields k).2.2.1.id ≠ (snapFields k).2.2.2.1.id
    ∧ (snapFields k).2.2.1.id ≠ (snapFields k).1.id ∧ (snapFields k).2.2.2.1.id ≠ (snapFields k).1.id
    ∧ F.PMU_DOMSTAT_ON.id ≠ (snapFields k).2.1.id ∧ F.SYS_ID_DIES.id ≠ (snapFields k).2.1.id := by
  unfold snapFields
  split <;> (dsimp only; decide)

section
variable (s : State) (k : Nat)

theorem State.snapTake_pending : ((s.snapTake k).snaps.at k).pending = false := by
  change ((Tbl.put s.snaps k ⟨s.snapValue k (Tbl.at s.snaps k).sel % 2 ^ 64, false, 0⟩).at k).pending = false
  rw [Tbl.at_put_self]

theorem State.snapTake_valid : (s.snapTake k).on (snapFields k).1 (snapFields k).2.2.2.2 = true :=
  State.on_put_self _ _ true (snapFields_widths k).1

/-- The two halves hold the value that SEL names. -/
theorem State.snapTake_value : (s.snapTake k).fld64 (snapFields k).2.2.1 (snapFields k).2.2.2.1 (snapFields k).2.2.2.2
    = s.snapValue k (s.snaps.at k).sel % 2 ^ 64 := by
  obtain ⟨-, lo, hi⟩ := snapFields_widths k
  obtain ⟨halves, low, high, -⟩ := snapFields_apart k
  unfold State.snapTake
  extract_lets x f v s₁
  rw [State.fld64, State.fld_put_ne _ _ _ _ low, State.fld_put_ne _ _ _ _ high, fld_setFld_self, fld_setFld_ne _ _ _ _ halves,
    fld_setFld_self]
  have fits : v < 2 ^ 64 := Nat.mod_lt _ (by decide)
  rw [lo, hi, Nat.mod_mod, Nat.mod_eq_of_lt (show v / 2 ^ 32 < 2 ^ 32 by omega)]
  exact Nat.mod_add_div v (2 ^ 32)

variable {s k}

theorem State.snapOn_setFld_sel (v : Nat) :
    (s.setFld (snapFields k).2.1 (snapFields k).2.2.2.2 v).snapOn k = s.snapOn k := by
  obtain ⟨-, -, -, on, dies⟩ := snapFields_apart k
  simp only [State.snapOn, State.traceOn, State.currantFitted, State.dies, State.domOn, State.bit,
    fld_setFld_ne _ _ _ _ on, fld_setFld_ne _ _ _ _ dies, State.setFld_power]

/-- A request that none precedes is recorded with its SEL. -/
theorem State.snapReq_eq (lit : s.snapOn k = true) (free : (s.snaps.at k).pending = false) :
    s.snapReq k = (let t := { s with snaps := Tbl.upd s.snaps k fun x => { x with
      pending := true, sel := s.fld (snapFields k).2.1 (snapFields k).2.2.2.2 } }
      if k = 2 ∨ k = 3 then t.snapTake k else t) := by
  simp only [State.snapReq, lit, free, Bool.not_false, Bool.and_self, if_true]

end

end Sys2Proof.Machine
end

section
/-! The commands of registers, clause by clause (R92 to R115): each kind of store, the boundaries, HOLD and the snapshots. -/

namespace Sys2Proof.Machine

-- One proof at a time: a default argument `by decide` waits for the text before it, and each proof that waits takes a thread.
set_option Elab.async false

section
variable {s : State} {m a n data : Nat} {hw : List HwChange}

/-- A permitted store to shared SRAM writes its bytes (R92, R98). -/
theorem registerWrite_sram (made : Permitted s m a n) (low : 0x20000000 ≤ a) (high : a < 0x20200000)
    (free : s.openCase m a n data = 0) :
    exec (.registerWrite m a n data hw) s = .next (s.writeBytes a (le n data)) := by
  rw [made.exec (made.openCase ▸ free), State.store_sram low high]

/-- A permitted store of a core to its own TCM writes its bytes there (R92, R98). -/
theorem registerWrite_tcm (made : Permitted s m a n) (low : 0x10000000 ≤ a) (high : a < 0x10080000)
    (free : s.openCase m a n data = 0) :
    exec (.registerWrite m a n data hw) s = .next (s.writeBytes (tcmAddr m (a - 0x10000000)) (le n data)) := by
  rw [made.exec (made.openCase ▸ free), State.store_tcm low high]

end

/-! ### The page buffer -/

section
variable {s : State} {m data j : Nat} {hw : List HwChange}

/-- The word of the page buffer takes what is stored to it (R96, R101). -/
theorem registerWrite_pageBuffer (made : Permitted s m (0x400A0100 + 4 * j) 4) (within : j < 64)
    (idle : s.on F.QSPI_STAT_OPBUSY 0 = false) :
    exec (.registerWrite m (0x400A0100 + 4 * j) 4 data hw) s
      = .next ((s.setFld F.QSPI_PBUF_DATA j (data % 2 ^ 32)).unstage ⟨F.QSPI_PBUF_DATA, j, data % 2 ^ 32⟩) := by
  obtain ⟨free, stored⟩ := made.store_pageBuffer (data := data) (hw := hw) (view := 0) (by decide) within rfl idle
  have given : viewed 0 (s.base F.QSPI_PBUF_DATA j) (Nat.land (data % 2 ^ 32) (2 ^ 32 - 1)) (2 ^ 32 - 1) 32
      = some (data % 2 ^ 32) := by
    rw [land_mask, viewed_normal _ _ (by decide) (by decide), Nat.mod_mod, Nat.mod_mod]
  rw [exec_registerWrite, free, orUnpredictable_zero, stored, State.writeReg_pageBuffer given]

theorem AliasView.offset_eq (v : AliasView) : v.offset = 0x1000 * v.code := by cases v <;> rfl

theorem AliasView.code_lt (v : AliasView) : v.code < 4 := by cases v <;> decide

/-- Through a view other than the normal one the word takes what the view makes of it (R95, R96). -/
theorem aliasWrite_pageBuffer (v : AliasView) (made : Permitted s m (0x400A0100 + 4 * j + v.offset) 4) (within : j < 64)
    (idle : s.on F.QSPI_STAT_OPBUSY 0 = false) (free : s.pendingWrite F.QSPI_PBUF_DATA j = none)
    (fits : s.fld F.QSPI_PBUF_DATA j < 2 ^ 32) :
    Completes (.aliasWrite v m (0x400A0100 + 4 * j) 4 data hw) s fun t =>
      t.fld F.QSPI_PBUF_DATA j = v.apply (s.fld F.QSPI_PBUF_DATA j) (data % 2 ^ 32) := by
  obtain ⟨unlisted, stored⟩ := made.store_pageBuffer (data := data) (hw := hw) v.code_lt within (v.offset_eq ▸ rfl) idle
  have answers : exec (.aliasWrite v m (0x400A0100 + 4 * j) 4 data hw) s = .next
      (s.writeReg State.dmaStopFree hw flashHome pageBuffer j v.code (data % 2 ^ 32) (2 ^ 32 - 1)) := by
    change orUnpredictable _ _ = _
    rw [unlisted, orUnpredictable_zero, stored]
  refine ⟨_, answers, ?_⟩
  have bits : data % 2 ^ 32 < 2 ^ 32 := Nat.mod_lt _ (by decide)
  have word : Nat.land (data % 2 ^ 32) (2 ^ 32 - 1) = data % 2 ^ 32 := by rw [land_mask, Nat.mod_mod]
  have given := viewed_alias v (s.base F.QSPI_PBUF_DATA j) bits
  rw [State.base_pageBuffer free] at given
  by_cases none : data % 2 ^ 32 = 0
  · have untouched : s.touched pageBuffer j v.code (Nat.land (data % 2 ^ 32) (2 ^ 32 - 1)) (2 ^ 32 - 1) = [] := by
      rw [State.touched_pageBuffer, word, State.base_pageBuffer free, given, if_pos none]
      rfl
    rw [State.writeReg_of_none s _ hw pageBuffer_quiet untouched, none, v.apply_zero fits]
  · rw [if_neg none] at given
    rw [State.writeReg_pageBuffer (v := v.apply (s.fld F.QSPI_PBUF_DATA j) (data % 2 ^ 32))
      (by rw [word, State.base_pageBuffer free, given])]
    exact (fld_setFld_self ..).trans (Nat.mod_eq_of_lt (v.apply_lt fits bits))

end

/-! ### The voltage of a port -/

section
variable (s : State) {p v : Nat}

/-- A voltage that waits is the one that a read shows (R103). -/
theorem State.voltage_waits :
    let t := (s.unstage ⟨F.PWR_VSET_VSET, p, v⟩).queuedWrite ⟨F.PWR_VSET_VSET, p, v⟩
    t.pendingWrite F.PWR_VSET_VSET p = some v ∧ t.shown F.PWR_VSET_VSET p = v ∧ s.OnlyIn [.staged] t := by
  intro t
  have waits : t.pendingWrite F.PWR_VSET_VSET p = some v :=
    State.queuedWrite_self (x := ⟨F.PWR_VSET_VSET, p, v⟩) _ (s.unstage_pendingWrite_self)
  refine ⟨waits, ?_, Via.onlyIn_mask (.set_staged _ (by decide) (.set_staged _ (by decide) (.refl s)))⟩
  rw [State.shown_of_plain t (by decide) rfl rfl, State.stagedFld, waits]
  rfl

end

/-! ### Snapshots -/

section
variable {s : State} {k sel : Nat}

/-- The snapshot that a request records: pending, with the SEL that it wrote. -/
def State.snapAsked (s : State) (k sel : Nat) : State :=
  let t := s.setFld (snapFields k).2.1 (snapFields k).2.2.2.2 sel
  { t with snaps := Tbl.upd s.snaps k fun x => { x with
    pending := true, sel := t.fld (snapFields k).2.1 (snapFields k).2.2.2.2 } }

theorem State.snapAsked_snap (s : State) (k sel : Nat) : ((s.snapAsked k sel).snaps.at k).pending = true
    ∧ ((s.snapAsked k sel).snaps.at k).sel = sel % 2 ^ (snapFields k).2.1.width := by
  unfold State.snapAsked
  simp only [Tbl.at_upd_self, fld_setFld_self, and_self]

/-- A request that none precedes is recorded; CHORD and TRC capture on its edge (R110). -/
theorem exec_snapReq (lit : s.snapOn k = true) (free : (s.snaps.at k).pending = false) :
    exec (.snapReq k sel) s
      = .next (if k = 2 ∨ k = 3 then (s.snapAsked k sel).snapTake k else s.snapAsked k sel) := by
  show execSnapReq k sel s = _
  rw [execSnapReq, if_pos lit, State.snapReq_eq ((State.snapOn_setFld_sel sel).trans lit) free]
  rfl

/-- The state in which a pending capture is made: that of RTC waits for the clock's next edge (R110). -/
def State.captureAt (s : State) (k : Nat) : State := if k = 0 then s.advance (s.untilRtc 1) else s

theorem exec_snapCapture (lit : s.snapOn k = true) (waits : (s.snaps.at k).pending = true) :
    exec (.snapCapture k) s = .next ((s.captureAt k).snapTake k) := by
  show execSnapCapture k s = _
  rw [execSnapCapture, lit, waits]
  rfl

theorem exec_snapHiRead (lit : s.snapOn k = true) :
    exec (.snapHiRead k) s = .next (s.put (snapFields k).1 (snapFields k).2.2.2.2 false) := by
  show execSnapHiRead k s = _
  rw [execSnapHiRead, State.snapRead, if_pos lit]

end

/-- Settles O21: a store writes its bytes, takes at once, waits or freezes its master by the register it reaches, and what waits
applies at its boundary or with HOLD. -/
theorem registerCommands : Obligations.RegisterCommands := by
  unfold Obligations.RegisterCommands
  refine ⟨?sram, ?tcm, ?violating, ?pageBuffer, ?aliased, ?voltage, ?period, ?otherPeriod, ?hold, ?clockHold, ?ask, ?askNow,
    ?capture, ?readHi⟩
  case sram =>
    intro s m a n data hw master free passes low high unlisted
    have made : Permitted s m a n := ⟨master, free, passes, s.absentAt_sram (by omega) high⟩
    obtain ⟨inside, outside, frame, regs⟩ := s.bytesWritten a n data (by omega)
    exact ⟨_, registerWrite_sram made low high unlisted, inside, outside, frame, regs,
      fun j member => inside j (List.mem_range.mp member), outside _ (.inr le_rfl), outside _ (.inl (by omega))⟩
  case tcm =>
    intro s m a n data hw master free passes low high unlisted
    have made : Permitted s m a n := ⟨by omega, free, passes, s.absentAt_sram low (by omega)⟩
    obtain ⟨inside, outside, frame, regs⟩ := s.bytesWritten (tcmAddr m (a - 0x10000000)) n data (by unfold tcmAddr; omega)
    exact ⟨_, registerWrite_tcm made low high unlisted, inside, outside, frame, regs,
      fun j member => inside j (List.mem_range.mp member)⟩
  case violating =>
    intro s m a n data hw low high free caught
    obtain ⟨frozen, told⟩ := s.violation_frozen a n .store low high free caught
    exact ⟨_, registerWrite_violates s a n low high free caught, frozen, (State.violation_via ..).mem (by decide), told⟩
  case pageBuffer =>
    rintro s m _ _ data hw j master within rfl idle rfl free passes
    have there : s.absentAt (0x400A0100 + 4 * j) = none := (pageBuffer_reaches m (view := 0) (by decide) within).there rfl
    exact ⟨_, registerWrite_pageBuffer ⟨master, free, passes, there⟩ within idle, (fld_setFld_self ..).trans (Nat.mod_mod ..),
      fun i other => fld_setFld_index s _ other, fld_setFld_index s _ (by omega), rfl⟩
  case aliased =>
    rintro s v m _ _ data hw j master within rfl idle rfl free passes waits fits
    have there : s.absentAt (0x400A0100 + 4 * j + v.offset) = none :=
      v.offset_eq ▸ (pageBuffer_reaches m v.code_lt within).there rfl
    exact aliasWrite_pageBuffer v ⟨master, free, passes, there⟩ within idle waits fits
  case voltage =>
    rintro s m _ _ data hw p master low high rfl rfl free passes there
    exact ⟨_, registerWrite_voltage ⟨master, free, passes, there⟩ low high, rfl, s.voltage_waits⟩
  case period =>
    rintro s _ _ hw p v low high - rfl rfl waits running -
    have chosen := (s.voltage_chosen (k := currant p) low high waits).trans (if_pos ⟨rfl, running⟩)
    obtain ⟨value, none, connects⟩ := s.applyAll_voltage (hw := hw) waits
    exact ⟨_, exec_periodBoundary chosen connects (by simp; decide), value, none⟩
  case otherPeriod =>
    rintro s _ k hw p v low high rfl waits apart
    have chosen := (s.voltage_chosen (k := k) low high waits).trans (if_neg fun ⟨own, running⟩ => by
      subst own
      exact apart.elim (· rfl) fun held => by rw [running] at held; cases held)
    exact ⟨_, exec_periodBoundary (hw := hw) chosen (fun _ => rfl) (by simp), rfl⟩
  case hold =>
    intro s blk j hw f h stage home held none
    refine ⟨_, exec_holdRelease stage home held, ?_⟩
    rw [State.holdReleased_of_none (s := s.put f j false) none]
    exact ⟨s.on_put_false f j, rfl⟩
  case clockHold =>
    rintro s _ _ hw v w rfl rfl - held unarmed waits -
    have home : slotHome F.RTC_STAGE_HOLD.id 0 = some clockHome := by decide +kernel
    have quiet : (s.put F.RTC_STAGE_HOLD 0 false).on F.RTC_ALARM_HI_ARM 0 = false :=
      (State.on_of_fld (fld_setFld_ne s 0 0 _ (by decide))).trans unarmed
    refine ⟨_, exec_holdRelease (f := F.RTC_STAGE_HOLD) rfl home held, ?_⟩
    rw [State.holdReleased_alarm quiet waits]
    refine ⟨?_, ?_, ?_, ?_⟩
    · exact (State.on_of_fld (State.alarmWritten_fld_other _ v w 0 (by decide) (by decide))).trans (s.on_put_false _ 0)
    · exact (fld_setFld_ne _ 0 0 w (by decide)).trans (fld_setFld_self ..)
    · exact fld_setFld_self ..
    · simp [State.alarmWritten, State.unstage, State.put, waits]
  case ask =>
    intro s k sel lit free _ two three
    refine ⟨_, exec_snapReq lit free, ?_⟩
    rw [if_neg (by omega)]
    exact s.snapAsked_snap k sel
  case askNow =>
    intro s k sel lit free now
    refine ⟨_, exec_snapReq lit free, ?_⟩
    rw [if_pos now]
    exact ⟨State.snapTake_pending .., State.snapTake_valid ..⟩
  case capture =>
    intro s k lit waits _
    refine ⟨_, exec_snapCapture lit waits, State.snapTake_pending .., State.snapTake_valid .., fun other => ?_⟩
    rw [State.snapTake_value, State.captureAt, if_neg other]
  case readHi =>
    intro s k lit _
    exact ⟨_, exec_snapHiRead lit, s.on_put_false _ _, rfl⟩

end Sys2Proof.Machine
end

section
/-! Requests of a host to a port of its hub as they arrive (R128, R148, R152 to R154, R193): the answer on the bus, and what
waits for the F boundary. -/

namespace Sys2Proof.Machine

variable {s : State} {k p : Nat}

/-! ### A request that waits -/

/-- The request waits for the F boundary, and the host has the answer (R128, R148). -/
def State.requested (s : State) (k : Nat) (r : HubReq) (a : BusAnswer) : State := (s.ask k r).answer k a

theorem State.requested_requests (s : State) (k : Nat) (r : HubReq) (a : BusAnswer) :
    ((s.requested k r a).parts.at k).requests = (s.parts.at k).requests ++ [r] := by
  simp [State.requested, State.ask, State.updPart, State.answer]

theorem State.requested_answer (s : State) (k : Nat) (r : HubReq) (a : BusAnswer) :
    ((s.requested k r a).parts.at k).answer = a := by
  simp [State.requested, State.answer]

theorem State.answer_answer (s : State) (k : Nat) (a : BusAnswer) : ((s.answer k a).parts.at k).answer = a := by
  simp [State.answer]

/-! ### Requests that change a port (R128, R148) -/

section
variable (up : s.hubUp k = true)
include up

theorem State.portRequest_requested (r : HubReq) (low : 1 ≤ p) (high : p ≤ 33) (free : s.testBlocks k p = false) :
    s.portRequest k p r = s.requested k r .ack := by
  have exists_ : ¬ (p = 0 ∨ 33 < p) := by omega
  have unbarred : ¬ ((p = 33 ∨ s.owns k p = true) ∧ s.testBlocks k p = true) := by simp [free]
  rw [State.portRequest, if_pos up, if_neg exists_, if_neg unbarred]
  rfl

theorem State.portRequest_absent (r : HubReq) (absent : p = 0 ∨ 33 < p) : s.portRequest k p r = s.answer k .stall := by
  rw [State.portRequest, if_pos up, if_pos absent]

theorem State.portRequest_barred (r : HubReq) (owns : s.owns k p = true) (barred : s.testBlocks k p = true) :
    s.portRequest k p r = s.answer k .stall := by
  have := s.owns_port owns
  rw [State.portRequest, if_pos up, if_neg (by omega), if_pos ⟨.inr owns, barred⟩]

variable {c : Instr} {r : HubReq} (runs : exec c s = .next (s.portRequest k p r))
include runs

theorem completes_portRequest_requested (low : 1 ≤ p) (high : p ≤ 33) (free : s.testBlocks k p = false) :
    Completes c s fun t =>
      (t.parts.at k).requests = (s.parts.at k).requests ++ [r] ∧ (t.parts.at k).answer = .ack ∧ t.regs = s.regs := by
  rw [State.portRequest_requested up r low high free] at runs
  exact ⟨_, runs, State.requested_requests .., State.requested_answer .., rfl⟩

theorem completes_portRequest_stall :
    Completes c s fun t =>
      (p = 0 ∨ 33 < p → t = s.answer k .stall) ∧ (s.owns k p = true → s.testBlocks k p = true → t = s.answer k .stall) :=
  ⟨_, runs, State.portRequest_absent up r, State.portRequest_barred up r⟩

end

/-! ### Test modes (R154) -/

theorem setPortTest_asked {selector : Nat} (up : s.hubUp k = true) (owns : s.owns k p = true)
    (allowed : s.testAllowed k p selector = true) :
    Completes (.setPortTest k p selector) s fun t =>
      (t.parts.at k).requests = (s.parts.at k).requests ++ [.test p selector] ∧ (t.parts.at k).answer = .ack
        ∧ t.regs = s.regs := by
  have port := s.owns_port owns
  have runs : exec (.setPortTest k p selector) s = .next (s.requested k (.test p selector) .ack) := by
    refine congrArg Host.Outcome.next ?_
    rw [if_pos up, if_neg (by omega), if_pos owns, if_pos allowed]
    rfl
  exact ⟨_, runs, State.requested_requests .., State.requested_answer .., rfl⟩

theorem setPortTest_refused {selector : Nat} (up : s.hubUp k = true) :
    Completes (.setPortTest k p selector) s fun t =>
      (s.owns k p = true → s.testAllowed k p selector = false → t = s.answer k .stall)
        ∧ (s.owns k p = false → 1 ≤ p → p ≤ 33 → t = s.answer k .ack) ∧ ((p = 0 ∨ 33 < p) → t = s.answer k .stall) := by
  refine ⟨_, congrArg Host.Outcome.next (if_pos up), fun owns barred => ?_, fun other low high => ?_, fun absent => ?_⟩
  · have port := s.owns_port owns
    rw [if_neg (by omega), if_pos owns, if_neg (by rw [barred]; decide)]
  · rw [if_neg (by omega), if_neg (by rw [other]; decide)]
  · rw [if_pos absent]

/-! ### SetAndTest(PORT_L1) (R152) -/

/-- The port enters L1 with what the token carried (R152). -/
def State.l1Entered (s : State) (p besl addr : Nat) (rwe : Bool) : State :=
  (((s.setFld F.DPE_LPM_BESL p besl).setFld F.DPE_LPM_ADDR p addr).put F.DPE_LPM_RWE p rwe).setDpe p .l1

theorem State.stateWritten_fld (s : State) (p : Nat) (d : Dpe) {f : Field} (i : Nat)
    (other : f.id ≠ F.DPE_STATE_PREV.id ∧ f.id ≠ F.DPE_STATE_STATE.id) : (s.stateWritten p d).fld f i = s.fld f i := by
  unfold State.stateWritten
  split
  · rfl
  · rw [fld_setFld_ne _ _ _ _ other.2, fld_setFld_ne _ _ _ _ other.1]

/-- A field that does not follow a port's state stands through a change of the state (R146). -/
theorem State.setDpe_fld (s : State) (p : Nat) (d : Dpe) {f : Field} (i : Nat)
    (outside : writable engineMask statusWrites f = false := by decide)
    (other : f.id ≠ F.DPE_STATE_PREV.id ∧ f.id ≠ F.DPE_STATE_STATE.id := by decide) :
    (s.setDpe p d).fld f i = s.fld f i :=
  (s.setDpe_keepsEngine p d f i outside).trans (s.stateWritten_fld p d i other)

theorem State.l1Entered_token (s : State) (p besl addr : Nat) (rwe : Bool) :
    (s.l1Entered p besl addr rwe).dpeIs p .l1 = true ∧ (s.l1Entered p besl addr rwe).fld F.DPE_LPM_BESL p = besl % 16
      ∧ (s.l1Entered p besl addr rwe).fld F.DPE_LPM_ADDR p = addr % 128
      ∧ (s.l1Entered p besl addr rwe).on F.DPE_LPM_RWE p = rwe := by
  unfold State.l1Entered
  refine ⟨State.setDpe_dpeIs .., ?_, ?_, ?_⟩
  · rw [State.setDpe_fld, State.fld_put_ne _ _ _ _ (by decide), fld_setFld_ne _ _ _ _ (by decide)]
    exact fld_setFld_self ..
  · rw [State.setDpe_fld, State.fld_put_ne _ _ _ _ (by decide)]
    exact fld_setFld_self ..
  · rw [State.on_of_fld (State.setDpe_fld ..)]
    exact State.on_put_self _ p rwe rfl

section
variable {besl addr : Nat} {rwe : Bool} {h : Handshake} (up : s.hubUp k = true)
include up

theorem setAndTestPortL1_enters (owns : s.owns k p = true) (free : s.testBlocks k p = false) (able : s.dpeIs p .enabled = true)
    (lpm : s.on F.DPE_CTL_LPM_EN p = true) (ack : h = .ack) :
    Completes (.setAndTestPortL1 k p besl addr rwe h) s fun t =>
      t.dpeIs p .l1 = true ∧ t.fld F.DPE_LPM_BESL p = besl % 16 ∧ t.fld F.DPE_LPM_ADDR p = addr % 128
        ∧ t.on F.DPE_LPM_RWE p = rwe ∧ (t.parts.at k).answer = .ack := by
  subst ack
  have runs : exec (.setAndTestPortL1 k p besl addr rwe .ack) s = .next ((s.l1Entered p besl addr rwe).answer k .ack) := by
    refine congrArg Host.Outcome.next ?_
    rw [if_pos up, if_neg (State.not_port33_of_owns owns), if_pos owns, if_neg (by rw [free]; decide), able, if_pos (by rfl),
      if_pos lpm]
    rfl
  obtain ⟨l1, beslHeld, addrHeld, rweHeld⟩ := s.l1Entered_token p besl addr rwe
  exact ⟨_, runs, l1, beslHeld, addrHeld, rweHeld, State.answer_answer ..⟩

theorem setAndTestPortL1_answers :
    Completes (.setAndTestPortL1 k p besl addr rwe h) s fun t =>
      (s.owns k p = true → s.testBlocks k p = false → h ≠ .ack → t = s.answer k h.answer)
        ∧ (s.owns k p = true → s.testBlocks k p = true → t = s.answer k .stall)
        ∧ (s.owns k p = false → 1 ≤ p → p ≤ 32 → t = s.answer k .ack) ∧ ((p = 0 ∨ 32 < p) → t = s.answer k .stall) := by
  refine ⟨_, congrArg Host.Outcome.next (if_pos up), fun owns free other => ?_, fun owns barred => ?_, fun other low high => ?_,
    fun absent => ?_⟩
  · have token : (s.dpeIs p .enabled && h == .ack) = false := by rw [beq_eq_false_iff_ne.mpr other, Bool.and_false]
    rw [if_neg (State.not_port33_of_owns owns), if_pos owns, if_neg (by rw [free]; decide), token]
    rfl
  · rw [if_neg (State.not_port33_of_owns owns), if_pos owns, if_pos barred]
  · rw [if_neg (by omega), if_neg (by rw [other]; decide), if_pos ⟨low, high⟩]
  · by_cases last : p = 33
    · rw [if_pos last]
    · have other : ¬ s.owns k p = true := fun owns => by have := s.owns_port owns; omega
      rw [if_neg last, if_neg other, if_neg (by omega)]

end

/-- Settles O23: a port request is one operation, which asks or stalls; test modes and SetAndTest judge the port themselves. -/
theorem hubPortRequestCommands : Obligations.HubPortRequestCommands :=
  ⟨fun _ _ _ up => completes_portRequest_requested up rfl, fun _ _ _ up => completes_portRequest_stall up rfl,
    fun _ _ _ up => completes_portRequest_requested up rfl, fun _ _ _ up => completes_portRequest_stall up rfl,
    fun _ _ _ up => completes_portRequest_requested up rfl, fun _ _ _ up => completes_portRequest_stall up rfl,
    fun _ _ _ up => completes_portRequest_requested up rfl, fun _ _ _ up => completes_portRequest_stall up rfl,
    fun _ _ _ up => completes_portRequest_requested up rfl, fun _ _ _ up => completes_portRequest_stall up rfl,
    fun _ _ _ up => completes_portRequest_requested up rfl, fun _ _ _ up => completes_portRequest_stall up rfl,
    fun _ _ _ up => completes_portRequest_requested up rfl, fun _ _ _ up => completes_portRequest_stall up rfl,
    fun _ _ _ _ => setPortTest_asked, fun _ _ _ _ => setPortTest_refused,
    fun _ _ _ _ _ _ _ => setAndTestPortL1_enters, fun _ _ _ _ _ _ _ => setAndTestPortL1_answers⟩

end Sys2Proof.Machine
end

section
/-! Requests to translators, periodic ends and the pool's memory (R173, R181 to R188): which contexts they release, what they
count, and what they leave. -/

namespace Sys2Proof.Machine

-- One proof at a time: a default argument `by decide` waits for the text before it, and each proof that waits takes a thread.
set_option Elab.async false

variable {s : State} {k p : Nat}

/-- A nibble of PART_ASSIGN is a field of no other register (R145). -/
theorem assignField_ne (p : Nat) {f : Field} (other : f.id / 32 ≠ F.PART_ASSIGN_PORT0.id / 32 := by decide) :
    (assignField p).id ≠ f.id := by
  have register : (assignField p).id / 32 = F.PART_ASSIGN_PORT0.id / 32 := by
    unfold assignField
    split <;> rfl
  exact fun same => other (by rw [← same, register])

/-! ### Contexts that are released -/

/-- The fields of TT that follow the contexts held (R190). -/
def ttStatus : List Field :=
  [F.TT_PSTAT_PUSE, F.TT_PSTAT_NPUSE, F.TT_PPEAK_PPEAK, F.TT_PPEAK_NPPEAK, F.TT_POOLUSE_PUSE, F.TT_POOLUSE_NPUSE,
    F.TT_POOL_RESERVED, F.TT_POOL_FREE, F.TT_POOLLOW_LOW]

theorem State.ttRefresh_alters (s : State) (p : Nat) : Alters 0 ttStatus s (s.ttRefresh p) := by
  unfold State.ttRefresh
  extract_lets s₁ s₂ s₃ s₄ s₅ s₆ s₇ s₈
  have used : Alters 0 ttStatus s s₂ := .setFld (.setFld (.refl s))
  have peaks : Alters 0 ttStatus s s₄ := .ite (.setFld (.ite (.setFld used) used)) (.ite (.setFld used) used)
  have pool : Alters 0 ttStatus s s₈ := .setFld (.setFld (.setFld (.setFld peaks)))
  exact .ite (.setFld pool) pool

theorem State.incr_pool (s : State) (f : Field) (i : Nat) : (s.incr f i).pool = s.pool := rfl

theorem State.incr_fld_self (s : State) (f : Field) (i : Nat) : (s.incr f i).fld f i = (s.fld f i + 1) % 2 ^ f.width :=
  fld_setFld_self ..

theorem State.ttEndStop_held (s : State) (q p : Nat) : (s.ttEndStop q).held p = s.held p := rfl

theorem State.ttEndStop_on_self (s : State) (p : Nat) : (s.ttEndStop p).on F.TT_PSTAT_STOPPED p = false :=
  State.on_put_self s p false rfl

theorem State.ttEndStop_fld_ne (s : State) {q p : Nat} (other : p ≠ q) :
    (s.ttEndStop q).fld F.TT_PSTAT_STOPPED p = s.fld F.TT_PSTAT_STOPPED p := fld_setFld_index _ _ other

theorem State.ttRefresh_pool (s : State) (p : Nat) : (s.ttRefresh p).pool = s.pool :=
  (State.ttRefresh_via s p).same .pool (by decide)

theorem State.dropContext_contexts (s : State) (p n : Nat) :
    (s.dropContext p n).pool.contexts = s.pool.contexts.filter (fun d => d.arrival != n) := by
  rw [State.dropContext, State.ttRefresh_pool]
  rfl

theorem State.dropContext_alters (s : State) (p n : Nat) : Alters 0 ttStatus s (s.dropContext p n) :=
  .trans (t := s.setContexts _) (.records (t := s) (.refl s)) (State.ttRefresh_alters _ p)

/-- A context changed keeps its arrival number where the change does. -/
theorem State.updContext_changed {f : Context → Context} {n : Nat} {q : Context → Prop} (_ : ∀ c, (f c).arrival = c.arrival)
    (changed : ∀ c, q (f c)) : ∀ d ∈ (s.updContext n f).pool.contexts, d.arrival = n → q d := by
  intro d member arrival
  obtain ⟨c, -, rfl⟩ := List.mem_map.mp member
  by_cases chosen : c.arrival = n
  · rw [if_pos (beq_iff_eq.mpr chosen)]
    exact changed c
  · rw [if_neg (by simpa using chosen)] at arrival
    exact absurd arrival chosen

theorem periodicContextRelease_drops {addr ep : Nat} {dirIn iso : Bool} {c : Context}
    (found : s.pool.contexts.find? (fun c => c.is p addr ep dirIn (if iso then .iso else .interrupt)) = some c) :
    Completes (.periodicContextRelease p addr ep dirIn iso) s fun t =>
      (t.pool.contexts = s.pool.contexts.filter (fun d => d.arrival != c.arrival)) ∧ s.OnlyIn [.reg .tt, .pool] t := by
  have runs : exec (.periodicContextRelease p addr ep dirIn iso) s = .next (s.dropContext p c.arrival) := by
    refine congrArg Host.Outcome.next ?_
    rw [found]
  exact ⟨_, runs, s.dropContext_contexts .., (State.dropContext_via ..).onlyIn _ (by decide)⟩

theorem periodicAbandon_abandons {addr ep : Nat} {dirIn iso : Bool} {c : Context}
    (found : s.pool.contexts.find? (fun c => c.is p addr ep dirIn (if iso then .iso else .interrupt) && c.st == .queued) = some c) :
    Completes (.periodicAbandon p addr ep dirIn iso) s fun t =>
      t.fld F.TT_PCNT1_ABANDON p = (s.fld F.TT_PCNT1_ABANDON p + 1) % 2 ^ 16
        ∧ (iso = true → dirIn = false → t.pool.contexts = s.pool.contexts.filter (fun d => d.arrival != c.arrival))
        ∧ ((iso = false ∨ dirIn = true) → ∀ d ∈ t.pool.contexts, d.arrival = c.arrival → d.st = .abandoned) := by
  let s₁ := s.incr F.TT_PCNT1_ABANDON p
  have counted : s₁.fld F.TT_PCNT1_ABANDON p = (s.fld F.TT_PCNT1_ABANDON p + 1) % 2 ^ 16 := fld_setFld_self ..
  by_cases dropped : iso = true ∧ dirIn = false
  · have runs : exec (.periodicAbandon p addr ep dirIn iso) s = .next (s₁.dropContext p c.arrival) := by
      refine congrArg Host.Outcome.next ?_
      rw [found]
      exact if_pos (by rw [dropped.1, dropped.2]; rfl)
    refine ⟨_, runs, ?_, fun _ _ => s₁.dropContext_contexts .., fun other => ?_⟩
    · rw [s₁.dropContext_alters _ _ _ _ (by decide), counted]
    · rw [dropped.1, dropped.2] at other
      simp at other
  · have runs : exec (.periodicAbandon p addr ep dirIn iso) s
        = .next (s₁.updContext c.arrival fun c => { c with st := .abandoned }) := by
      refine congrArg Host.Outcome.next ?_
      rw [found]
      exact if_neg (by simpa using dropped)
    exact ⟨_, runs, counted, fun isoc out => absurd ⟨isoc, out⟩ dropped,
      fun _ => State.updContext_changed (fun _ => rfl) fun _ => rfl⟩

/-! ### Uncorrectable errors in the pool (R188) -/

/-- The error is counted and raised (R188). -/
def State.poolErrorSeen (s : State) (n : Nat) : State :=
  ((s.incr F.TT_ECC_UNCORR 0).irq 134).raise 0x0400 (0x200F8000 + 1056 * (n % 1024)) 0

/-- The packet of a context lost is cut where it goes out on the wire (R188). -/
def State.packetCut (s : State) (c : Context) : State :=
  if c.st == .onWire && !c.dirIn then
    (s.put F.TT_PSTAT_WIRE c.port false).updTt c.port (fun r => { r with badCrcs := r.badCrcs + 1 }) else s

/-- The complete-split of a context lost that is not periodic is still to come (R188). -/
def State.splitLost (s : State) (c : Context) : State :=
  if c.periodic then s else { s with pool := { s.pool with lost := s.pool.lost ++ [c] } }

/-- The context that an error hit is dropped and counted, its packet cut, and its complete-split still to come (R188). -/
def State.contextLost (s : State) (c : Context) : State :=
  (((s.dropContext c.port c.arrival).incr F.TT_PCNT2_ERRS c.port).packetCut c).splitLost c

theorem poolUncorrectable_hits {n : Nat} {c : Context} (found : s.pool.contexts.find? (fun c => c.slot == n % 1024) = some c) :
    exec (.poolUncorrectable n) s = .next ((s.poolErrorSeen n).contextLost c) := by
  have same : (s.poolErrorSeen n).pool = s.pool :=
    ((State.raise_via ..).same .pool (by decide)).trans ((State.irq_via ..).same .pool (by decide))
  refine congrArg Host.Outcome.next ?_
  change (match (s.poolErrorSeen n).pool.contexts.find? (fun c => c.slot == n % 1024) with
    | some c => (s.poolErrorSeen n).contextLost c
    | none => s.poolErrorSeen n) = _
  rw [same, found]

theorem poolUncorrectable_misses {n : Nat} (missed : s.pool.contexts.find? (fun c => c.slot == n % 1024) = none) :
    exec (.poolUncorrectable n) s = .next (s.poolErrorSeen n) := by
  have same : (s.poolErrorSeen n).pool = s.pool :=
    ((State.raise_via ..).same .pool (by decide)).trans ((State.irq_via ..).same .pool (by decide))
  refine congrArg Host.Outcome.next ?_
  change (match (s.poolErrorSeen n).pool.contexts.find? (fun c => c.slot == n % 1024) with
    | some c => (s.poolErrorSeen n).contextLost c
    | none => s.poolErrorSeen n) = _
  rw [same, missed]

theorem State.poolErrorSeen_pool (s : State) (n : Nat) : (s.poolErrorSeen n).pool = s.pool :=
  ((State.raise_via ..).same .pool (by decide)).trans ((State.irq_via ..).same .pool (by decide))

theorem State.poolErrorSeen_fld (s : State) (n : Nat) {f : Field} (i : Nat) (pend : f.id ≠ F.IC_PEND_PEND.id) :
    (s.poolErrorSeen n).fld f i = (s.incr F.TT_ECC_UNCORR 0).fld f i :=
  ((State.raise_via ..).fld f i (by cases blockOf f.id <;> decide)).trans (State.irq_fld _ _ _ pend)

theorem State.poolErrorSeen_counts (s : State) (n : Nat) :
    (s.poolErrorSeen n).fld F.TT_ECC_UNCORR 0 = (s.fld F.TT_ECC_UNCORR 0 + 1) % 2 ^ 16
      ∧ (s.poolErrorSeen n).pends 134 = true := by
  refine ⟨(s.poolErrorSeen_fld n 0 (by decide)).trans (fld_setFld_self ..), ?_⟩
  exact (State.bit_of_fld ((State.raise_via ..).fld F.IC_PEND_PEND _ (by decide)) _).trans (State.pends_irq_self _ (by decide))

theorem State.packetCut_alters (s : State) (c : Context) : Alters 0 [F.TT_PSTAT_WIRE] s (s.packetCut c) :=
  .ite (.via (.put (.refl s)) (State.updTt_via ..)) (.refl s)

theorem State.packetCut_pool (s : State) (c : Context) : (s.packetCut c).pool = s.pool := by
  unfold State.packetCut
  split <;> rfl

theorem State.splitLost_regs (s : State) (c : Context) : (s.splitLost c).regs = s.regs := by
  unfold State.splitLost
  split <;> rfl

theorem State.splitLost_contexts (s : State) (c : Context) : (s.splitLost c).pool.contexts = s.pool.contexts := by
  unfold State.splitLost
  split <;> rfl

theorem State.contextLost_alters (s : State) (c : Context) :
    Alters 0 [F.TT_PSTAT_WIRE] ((s.dropContext c.port c.arrival).incr F.TT_PCNT2_ERRS c.port) (s.contextLost c) :=
  fun f i outside => (fld_of_regs (State.splitLost_regs _ c) f i).trans (State.packetCut_alters _ c f i outside)

theorem State.contextLost_contexts (s : State) (c : Context) :
    (s.contextLost c).pool.contexts = s.pool.contexts.filter (fun d => d.arrival != c.arrival) := by
  rw [State.contextLost, State.splitLost_contexts, State.packetCut_pool, State.incr_pool, State.dropContext_contexts]

theorem State.contextLost_counts (s : State) (c : Context) :
    (s.contextLost c).fld F.TT_PCNT2_ERRS c.port = (s.fld F.TT_PCNT2_ERRS c.port + 1) % 2 ^ 16 := by
  have dropped := s.dropContext_alters c.port c.arrival F.TT_PCNT2_ERRS c.port (by decide)
  rw [s.contextLost_alters c _ _ (by decide), State.incr_fld_self, dropped]
  exact congrArg (fun w => (s.fld F.TT_PCNT2_ERRS c.port + 1) % 2 ^ w) rfl

/-- Of the fields that are no translator's, all stand. -/
theorem State.contextLost_fld (s : State) (c : Context) {f : Field} (i : Nat)
    (outside : writable 0 (F.TT_PCNT2_ERRS :: F.TT_PSTAT_WIRE :: ttStatus) f = false := by decide) :
    (s.contextLost c).fld f i = s.fld f i := by
  have dropped : Alters 0 (F.TT_PCNT2_ERRS :: F.TT_PSTAT_WIRE :: ttStatus) s (s.dropContext c.port c.arrival) :=
    (s.dropContext_alters c.port c.arrival).mono
  have counted := dropped.incr (g := F.TT_PCNT2_ERRS) (i := c.port)
  exact (counted.trans (s.contextLost_alters c).mono) f i outside

theorem poolUncorrectable_drops {n : Nat} {c : Context} (found : s.pool.contexts.find? (fun c => c.slot == n % 1024) = some c) :
    Completes (.poolUncorrectable n) s fun t =>
      t.fld F.TT_ECC_UNCORR 0 = (s.fld F.TT_ECC_UNCORR 0 + 1) % 2 ^ 16 ∧ t.pends 134 = true
        ∧ (t.pool.contexts = s.pool.contexts.filter (fun d => d.arrival != c.arrival))
        ∧ t.fld F.TT_PCNT2_ERRS c.port = (s.fld F.TT_PCNT2_ERRS c.port + 1) % 2 ^ 16 := by
  obtain ⟨counted, pending⟩ := s.poolErrorSeen_counts n
  refine ⟨_, poolUncorrectable_hits found, (State.contextLost_fld ..).trans counted, ?_, ?_, ?_⟩
  · exact (State.bit_of_fld (State.contextLost_fld ..) _).trans pending
  · rw [State.contextLost_contexts, s.poolErrorSeen_pool]
  · rw [State.contextLost_counts, s.poolErrorSeen_fld n _ (by decide)]
    exact congrArg (fun v => (v + 1) % 2 ^ 16) (fld_setFld_ne _ _ _ _ (by decide))

theorem poolUncorrectable_counts (s : State) (n : Nat) :
    Completes (.poolUncorrectable n) s fun t =>
      t.fld F.TT_ECC_UNCORR 0 = (s.fld F.TT_ECC_UNCORR 0 + 1) % 2 ^ 16 ∧ t.pends 134 = true
        ∧ (s.pool.contexts.find? (fun c => c.slot == n % 1024) = none → t.pool = s.pool) := by
  cases found : s.pool.contexts.find? (fun c => c.slot == n % 1024) with
  | some c =>
    obtain ⟨t, runs, counted, pending, -⟩ := poolUncorrectable_drops found
    exact ⟨t, runs, counted, pending, nofun⟩
  | none =>
    obtain ⟨counted, pending⟩ := s.poolErrorSeen_counts n
    exact ⟨_, poolUncorrectable_misses found, counted, pending, fun _ => s.poolErrorSeen_pool n⟩

/-! ### Requests as they arrive (R128, R173, R186) -/

section
variable (up : s.hubUp k = true)
include up

theorem State.ttAsk_requested {tt : Nat} (r : HubReq) (served : s.ttTargets k tt ≠ none) : s.ttAsk k tt r = s.requested k r .ack := by
  rw [State.ttAsk, if_pos up, if_pos (Option.isSome_iff_ne_none.mpr served)]
  rfl

theorem State.ttAsk_stall {tt : Nat} (r : HubReq) (none : s.ttTargets k tt = none) : s.ttAsk k tt r = s.answer k .stall := by
  rw [State.ttAsk, if_pos up, none]
  rfl

theorem completes_ttAsk_requested {c : Instr} {tt : Nat} {r : HubReq} (runs : exec c s = .next (s.ttAsk k tt r))
    (served : s.ttTargets k tt ≠ none) :
    Completes c s fun t =>
      (t.parts.at k).requests = (s.parts.at k).requests ++ [r] ∧ (t.parts.at k).answer = .ack ∧ t.regs = s.regs := by
  rw [State.ttAsk_requested up r served] at runs
  exact ⟨_, runs, State.requested_requests .., State.requested_answer .., rfl⟩

theorem completes_ttAsk_stall {c : Instr} {tt : Nat} {r : HubReq} (runs : exec c s = .next (s.ttAsk k tt r))
    (none : s.ttTargets k tt = none) : Completes c s fun t => t = s.answer k .stall :=
  ⟨_, runs, State.ttAsk_stall up r none⟩

theorem getTtState_waits (tt flags len : Nat) :
    Completes (.getTtState k tt flags len) s fun t =>
      (t.parts.at k).requests = (s.parts.at k).requests ++ [.ttState tt flags len] ∧ (t.parts.at k).answer = .nak
        ∧ s.OnlyIn [.parts] t := by
  have runs : exec (.getTtState k tt flags len) s = .next (s.requested k (.ttState tt flags len) .nak) :=
    congrArg Host.Outcome.next (if_pos up)
  have only : Via (2 ^ 35) s (s.requested k (.ttState tt flags len) .nak) := (State.ask_via ..).trans (State.answer_via ..)
  exact ⟨_, runs, State.requested_requests .., State.requested_answer .., only.onlyIn _ (by decide)⟩

theorem setInterfaceAlt_waits {alt : Nat} (present : alt = 0 ∨ (alt = 1 ∧ s.on F.PART_PSTAT_SPEED k = true)) :
    Completes (.setInterfaceAlt k alt) s fun t =>
      (t.parts.at k).requests = (s.parts.at k).requests ++ [.alternate alt] ∧ (t.parts.at k).answer = .ack := by
  have runs : exec (.setInterfaceAlt k alt) s = .next (s.requested k (.alternate alt) .ack) :=
    congrArg Host.Outcome.next ((if_pos up).trans (if_pos present))
  exact ⟨_, runs, State.requested_requests .., State.requested_answer ..⟩

theorem setInterfaceAlt_stalls {alt : Nat} (absent : 2 ≤ alt ∨ (alt = 1 ∧ s.on F.PART_PSTAT_SPEED k = false)) :
    Completes (.setInterfaceAlt k alt) s fun t => t = s.answer k .stall := by
  have barred : ¬ (alt = 0 ∨ (alt = 1 ∧ s.on F.PART_PSTAT_SPEED k = true)) := by
    rintro (rfl | ⟨rfl, fast⟩)
    · omega
    · rcases absent with many | ⟨-, slow⟩
      · omega
      · rw [fast] at slow
        cases slow
  exact ⟨_, congrArg Host.Outcome.next ((if_pos up).trans (if_neg barred)), rfl⟩

end

/-! ### GET_TT_STATE at the boundary (R187) -/

theorem State.ttRequest_state {tt flags len : Nat} {l : List Nat} (targets : s.ttTargets k tt = some l) (some_ : l ≠ [])
    (plain : flags = 0) (stopped : l.all (fun p => s.on F.TT_PSTAT_STOPPED p) = true) :
    s.ttRequest k (.ttState tt flags len) = s.answer k (.data 1 ((s.ttStateBytes k l).take len)) := by
  have other : ¬ (l = [] ∧ s.on F.PART_PSTAT_TTALT k = true) := fun h => some_ h.1
  have allowed : ¬ (flags ≠ 0 ∨ l.all (fun p => s.on F.TT_PSTAT_STOPPED p) = false) := by simp [plain, stopped]
  simp only [State.ttRequest, targets]
  rw [if_neg other, if_neg allowed]

theorem State.ttRequest_state_stall {tt flags len : Nat}
    (refused : s.ttTargets k tt = none ∨ (flags ≠ 0 ∧ s.ttTargets k tt ≠ some [])) :
    s.ttRequest k (.ttState tt flags len) = s.answer k .stall := by
  cases targets : s.ttTargets k tt with
  | none => simp only [State.ttRequest, targets]
  | some l =>
    rw [targets] at refused
    obtain ⟨flagged, some_⟩ := refused.resolve_left nofun
    have other : ¬ (l = [] ∧ s.on F.PART_PSTAT_TTALT k = true) := fun h => some_ (congrArg some h.1)
    simp only [State.ttRequest, targets]
    rw [if_neg other, if_pos (.inl flagged)]

/-! ### Translators at the boundary (R184, R186) -/

/-- What no step undoes stands after each of them. -/
theorem State.each_invariant {q : State → Prop} {g : State → Nat → State} (keeps : ∀ s n, q s → q (g s n)) {s : State}
    (l : List Nat) (start : q s) : q (s.each l g) := by
  induction l generalizing s with
  | nil => exact start
  | cons n l ih => exact ih (keeps s n start)

/-- What each number of a list brings about for `p`, once `p` is met, and no other number undoes. -/
theorem State.each_establishes {before after : State → Prop} {g : State → Nat → State} {l : List Nat}
    (acts : ∀ s, before s → after (g s p)) (waits : ∀ s q, q ≠ p → before s → before (g s q))
    (keeps : ∀ s q, after s → after (g s q)) (member : p ∈ l) {s : State} (start : before s) : after (s.each l g) := by
  induction l generalizing s with
  | nil => cases member
  | cons q l ih =>
    by_cases here : q = p
    · subst here
      exact State.each_invariant keeps l (acts s start)
    · exact ih (List.mem_of_ne_of_mem (Ne.symm here) member) (waits s q here start)

/-- The translator of port `p` holds nothing and is not stopped. -/
def State.ttFresh (s : State) (p : Nat) : Prop := s.held p = [] ∧ s.on F.TT_PSTAT_STOPPED p = false

theorem State.ttClear_alters (s : State) (p : Nat) : Alters 0 (F.TT_PCNT1_CLEARS :: ttStatus) s (s.ttClear p) := by
  unfold State.ttClear
  extract_lets n pool s₁
  have dropped : Alters 0 (F.TT_PCNT1_CLEARS :: ttStatus) s s₁ := .records (t := s) (.refl s)
  exact (dropped.add (g := F.TT_PCNT1_CLEARS)).trans (State.ttRefresh_alters _ p).mono

theorem State.ttClear_held (s : State) (q p : Nat) : (s.ttClear q).held p = (s.held p).filter (fun c => c.port != q) := by
  have cleared : (s.ttClear q).pool.contexts = s.pool.contexts.filter (fun c => c.port != q) := by
    rw [State.ttClear, State.ttRefresh_pool]
    rfl
  rw [State.held, State.held, cleared, List.filter_filter, List.filter_filter]
  exact List.filter_congr fun c _ => Bool.and_comm ..

theorem State.ttClear_held_self (s : State) (p : Nat) : (s.ttClear p).held p = [] := by
  rw [s.ttClear_held, State.held, List.filter_filter, List.filter_eq_nil_iff]
  simp

/-- A translator reset is fresh (R184). -/
theorem State.ttReset_fresh (s : State) (p : Nat) : ((s.ttClear p).ttEndStop p).ttFresh p :=
  ⟨(State.ttEndStop_held ..).trans (s.ttClear_held_self p), State.ttEndStop_on_self ..⟩

theorem State.ttReset_keepsFresh (s : State) (q : Nat) (fresh : s.ttFresh p) : ((s.ttClear q).ttEndStop q).ttFresh p := by
  by_cases same : p = q
  · exact same ▸ s.ttReset_fresh p
  · obtain ⟨empty, runs⟩ := fresh
    refine ⟨by rw [State.ttEndStop_held, s.ttClear_held, empty, List.filter_nil], ?_⟩
    have stopped := (State.ttEndStop_fld_ne (s.ttClear q) same).trans (s.ttClear_alters q _ p (by decide))
    exact (State.on_of_fld stopped).trans runs

theorem State.ttClearPart_fresh (s : State) (k : Nat) (member : p ∈ s.portsOfPart k) : (s.ttClearPart k).ttFresh p :=
  State.each_establishes (before := fun _ => True) (after := fun s => s.ttFresh p)
    (g := fun s q => (s.ttClear q).ttEndStop q) (fun s _ => s.ttReset_fresh p) (fun _ _ _ _ => trivial)
    (fun s q => s.ttReset_keepsFresh q) member trivial

/-- The one request that waits acts on translators, and the boundary's end changes records of engines alone. -/
theorem completes_ttRequest {r : HubReq} {hw : List HwChange} {q : State → Prop} {u : State} (low : k < 4) (idle : s.staged = [])
    (waits : (s.parts.at k).requests = [r]) (acts : (s.requestsTaken k).hubRequest k r = u)
    (reaches : Via (2 ^ 5 + 2 ^ 8 + 2 ^ 38) (s.requestsTaken k) u) (holds : ∀ t, Via (2 ^ 37) u t → q t) :
    Completes (.stagedWriteApply .f k hw) s fun t => (t.parts.at k).requests = [] ∧ q t := by
  have boundary : s.frameBoundary k = u.each
      (allPorts.filter fun p => decide (u.partOf p = k) && (u.dpe.at p).quarFresh) State.quarSettles := by
    rw [State.frameBoundary, waits, ← acts]
    rfl
  have ends : Via (2 ^ 37) u (s.frameBoundary k) := boundary ▸ State.each_via State.quarSettles_via u _
  have none : (u.parts.at k).requests = [] := by rw [reaches.same .parts (by decide), s.requestsTaken_none]
  exact ⟨_, exec_frameBoundary low idle, by rw [ends.same .parts (by decide), none], holds _ ends⟩

section
variable {hw : List HwChange} {tt : Nat} (low : k < 4) (idle : s.staged = []) (targets : s.ttTargets k tt = some [p])
include low idle targets

theorem ttBuffer_releases {addr ep : Nat} {dirIn : Bool} {typ : SplitType} {c : Context}
    (waits : (s.parts.at k).requests = [.ttBuffer tt addr ep dirIn typ]) (plain : typ = .control ∨ typ = .bulk)
    (found : s.pool.contexts.find? (fun c => c.is p addr ep dirIn typ) = some c) :
    Completes (.stagedWriteApply .f k hw) s fun t =>
      (t.parts.at k).requests = [] ∧ (t.pool.contexts = s.pool.contexts.filter (fun d => d.arrival != c.arrival))
        ∧ t.fld F.TT_PCNT1_CLEARS p = (s.fld F.TT_PCNT1_CLEARS p + 1) % 2 ^ 16 := by
  let s₁ := s.requestsTaken k
  have periodic : (typ == .iso || typ == .interrupt) = false := by
    rcases plain with rfl | rfl <;> rfl
  have acts : s₁.hubRequest k (.ttBuffer tt addr ep dirIn typ) = (s₁.dropContext p c.arrival).incr F.TT_PCNT1_CLEARS p := by
    have chosen : s₁.pool.contexts.find? (fun c => c.is p addr ep dirIn typ) = some c := found
    have given : s₁.ttTargets k tt = some [p] := targets
    simp only [State.hubRequest, State.ttRequest, periodic, given, Option.getD_some, State.each, List.foldl_cons, List.foldl_nil,
      chosen]
    exact if_neg Bool.false_ne_true
  have reaches : Via (2 ^ 5 + 2 ^ 8 + 2 ^ 38) s₁ ((s₁.dropContext p c.arrival).incr F.TT_PCNT1_CLEARS p) :=
    .setFld _ _ _ (by decide) (.mono (by decide) (State.dropContext_via ..))
  refine completes_ttRequest low idle waits acts reaches fun t ends => ⟨?_, ?_⟩
  · rw [ends.same .pool (by decide), State.incr_pool]
    exact s₁.dropContext_contexts p c.arrival
  · have dropped := s₁.dropContext_alters p c.arrival F.TT_PCNT1_CLEARS p (by decide)
    rw [ends.fld _ _ (by decide), State.incr_fld_self, dropped]
    exact congrArg (fun w => (s.fld F.TT_PCNT1_CLEARS p + 1) % 2 ^ w) rfl

theorem ttReset_restarts (waits : (s.parts.at k).requests = [.ttReset tt]) :
    Completes (.stagedWriteApply .f k hw) s fun t =>
      (t.parts.at k).requests = [] ∧ t.on F.TT_PSTAT_STOPPED p = false ∧ t.held p = [] := by
  let s₁ := s.requestsTaken k
  have acts : s₁.hubRequest k (.ttReset tt) = (s₁.ttClear p).ttEndStop p := by
    have given : s₁.ttTargets k tt = some [p] := targets
    simp only [State.hubRequest, State.ttRequest, given, Option.getD_some, State.each, List.foldl_cons, List.foldl_nil]
  have reaches : Via (2 ^ 5 + 2 ^ 8 + 2 ^ 38) s₁ ((s₁.ttClear p).ttEndStop p) :=
    .then (State.ttEndStop_via ..) (by decide) (.mono (by decide) (State.ttClear_via ..))
  obtain ⟨none, runs⟩ := s₁.ttReset_fresh p
  refine completes_ttRequest low idle waits acts reaches fun t ends => ⟨?_, ?_⟩
  · rw [State.on_of_fld (ends.fld _ _ (by decide)), runs]
  · rw [State.held, ends.same .pool (by decide)]
    exact none

theorem ttStop_stops (waits : (s.parts.at k).requests = [.ttStop tt]) :
    Completes (.stagedWriteApply .f k hw) s fun t => (t.parts.at k).requests = [] ∧ t.on F.TT_PSTAT_STOPPED p = true := by
  let s₁ := s.requestsTaken k
  have acts : s₁.hubRequest k (.ttStop tt) = s₁.put F.TT_PSTAT_STOPPED p true := by
    have given : s₁.ttTargets k tt = some [p] := targets
    simp only [State.hubRequest, State.ttRequest, given, Option.getD_some, State.each, List.foldl_cons, List.foldl_nil]
  refine completes_ttRequest low idle waits acts (.setFld _ _ _ (by decide) (.refl _)) fun t ends => ?_
  rw [State.on_of_fld (ends.fld _ _ (by decide)), State.on_put_self s₁ p true rfl]

end

theorem alternate_switches {hw : List HwChange} {alt : Nat} (low : k < 4) (idle : s.staged = [])
    (waits : (s.parts.at k).requests = [.alternate alt]) (present : alt ≤ 1) (other : s.fld F.PART_PSTAT_TTALT k ≠ alt) :
    Completes (.stagedWriteApply .f k hw) s fun t =>
      (t.parts.at k).requests = [] ∧ t.fld F.PART_PSTAT_TTALT k = alt
        ∧ (∀ p ∈ s.portsOfPart k, t.held p = [] ∧ t.on F.TT_PSTAT_STOPPED p = false) := by
  let s₁ := s.requestsTaken k
  let s₂ := s₁.setFld F.PART_PSTAT_TTALT k alt
  have acts : s₁.hubRequest k (.alternate alt) = s₂.ttClearPart k := if_neg other
  have reaches : Via (2 ^ 5 + 2 ^ 8 + 2 ^ 38) s₁ (s₂.ttClearPart k) :=
    .then (State.ttClearPart_via ..) (by decide) (.setFld _ _ _ (by decide) (.refl _))
  have ports : s₂.portsOfPart k = s.portsOfPart k := by
    have part : ∀ p, s₂.partOf p = s.partOf p := fun p => fld_setFld_ne s₁ k _ alt (assignField_ne p)
    simp only [State.portsOfPart, part]
  refine completes_ttRequest low idle waits acts reaches fun t ends => ⟨?_, fun p member => ?_⟩
  · rw [ends.fld _ _ (by decide), (State.ttClearPart_via ..).fld _ _ (by decide)]
    exact (fld_setFld_self ..).trans (Nat.mod_eq_of_lt (show alt < 2 by omega))
  · obtain ⟨none, runs⟩ := s₂.ttClearPart_fresh k (ports ▸ member)
    exact ⟨by rw [State.held, ends.same .pool (by decide)]; exact none, by rw [State.on_of_fld (ends.fld _ _ (by decide)), runs]⟩

/-- Settles O28: contexts are released by arrival number, requests wait as they come, and the boundary hands the one that waits
to the translators it addresses. -/
theorem translatorRequestCommands : Obligations.TranslatorRequestCommands := by
  refine ⟨fun _ _ _ _ _ _ _ => periodicContextRelease_drops, fun _ _ _ _ _ _ _ => periodicAbandon_abandons,
    fun _ _ _ => poolUncorrectable_drops, poolUncorrectable_counts,
    fun _ _ _ _ _ _ _ up => completes_ttAsk_requested up rfl, fun _ _ _ _ _ _ _ up => completes_ttAsk_stall up rfl,
    fun _ _ _ up => completes_ttAsk_requested up rfl, fun _ _ _ up => completes_ttAsk_stall up rfl,
    fun _ _ _ up => completes_ttAsk_requested up rfl, fun _ _ _ up => completes_ttAsk_stall up rfl,
    fun _ _ tt flags len _ up => getTtState_waits up tt flags len, fun _ _ _ _ _ _ => State.ttRequest_state,
    fun _ _ _ _ _ => State.ttRequest_state_stall, fun _ _ _ up present => setInterfaceAlt_waits up present, fun _ _ _ up absent => setInterfaceAlt_stalls up absent,
    ?_, ?_, ?_, ?_⟩
  · rintro s _ k hw tt p addr ep dirIn typ c rfl low idle waits targets plain found
    exact ttBuffer_releases low idle targets waits plain found
  · rintro s _ k hw tt p rfl low idle waits targets
    exact ttReset_restarts low idle targets waits
  · rintro s _ k hw tt p rfl low idle waits targets
    exact ttStop_stops low idle targets waits
  · rintro s _ k hw alt rfl low idle waits present other
    exact alternate_switches low idle waits present other

end Sys2Proof.Machine
end

section
/-! PORT_GLITCH with a window byte that no octet holds (R450): the statement reads the byte of the payload, which a frame of the
model does not bound, where DPE_GLITCH_CTL.WIN holds eight bits. -/

namespace Sys2Proof.Machine

/-- PORT_GLITCH for port 1 (R450): an SE0 glitch of TYPE 1, GAP 0, and the window 256. -/
def wideFrame : Frame := ⟨0x0208, 0, 0, 0, 0, 0, [1, 0, 0, 0, 1, 0, 0, 0, 0, 0, 0, 0, 256]⟩

/-- The part with Currant 0 fitted and linked, FABRIC and PORTS0 on and port 1 in Enabled, at which channel 0 runs the frame. -/
def wideWindow : State :=
  let s := (State.reset.setFld F.SYS_ID_DIES 0 1).setFld F.D2D_LSTAT_STATE 1 3
  let s := (s.putBit F.PMU_DOMSTAT_ON 0 Dom.fabric true).putBit F.PMU_DOMSTAT_ON 0 (Dom.ports 0) true
  (s.setFld F.DPE_STATE_STATE 1 Dpe.enabled.code).updCh 0 (fun c => { c with running := some wideFrame })

/-- What PORT_GLITCH leaves there. -/
def windowCut : State :=
  wideWindow.command 0 0x0208 anyForm fun s f =>
    s.fabricCommand 0 f (State.glitchCmd (word32 f.payload 4) (word32 f.payload 8) (byteAt f.payload 12))

theorem exec_wideWindow : exec (.portGlitch 0) wideWindow = .next windowCut := rfl

theorem wideWindow_passes : wideWindow.maskFault 0 (2 ^ (1 - 1)) = 0 := by decide

theorem wideWindow_ready : wideWindow.portReady 1 = true := by decide

theorem wideWindow_fabric : wideWindow.needs Dom.fabric = true := by decide

theorem wideWindow_admits : wideWindow.glitchBarred 1 (word32 wideFrame.payload 4) = false := by decide

theorem wideWindow_noneWaits : wideWindow.NoneWaits := fun _ waiting => nomatch waiting

/-- The glitch starts, and the ninth bit of the window is cut off. -/
theorem windowCut_started :
    windowCut.on F.DPE_GLITCH_CTL_BUSY 1 = true ∧ windowCut.fld F.DPE_GLITCH_CTL_WIN 1 = 0 := by decide

/-- Refutes O52: its clause on PORT_GLITCH has WIN stand as byte 12 of the payload without a bound on that byte, and at
`wideWindow`, where it is 256, the field of eight bits stands at 0. -/
theorem not_portEngineMailboxCommands : ¬ Obligations.PortEngineMailboxCommands := by
  rintro ⟨-, -, -, -, -, -, -, -, -, -, -, -, -, glitch⟩
  obtain ⟨t, ran, -, -, written, -⟩ :=
    glitch wideWindow 0 wideFrame 1 rfl rfl (by decide) (by decide) (by decide) wideWindow_passes
  obtain ⟨window, -⟩ := written wideWindow_noneWaits wideWindow_ready wideWindow_fabric wideWindow_admits
  have same : windowCut = t := Host.Outcome.next.inj (exec_wideWindow.symm.trans ran)
  obtain ⟨-, cut⟩ := windowCut_started
  rw [← same, cut] at window
  exact absurd window (by decide)

end Sys2Proof.Machine
end

section
/-! Events at an upstream port (R123, R124, R133, R135, R151) and the requests to the hub itself (R125 to R128). -/

namespace Sys2Proof.Machine

-- One proof at a time: a default argument `by decide` waits for the text before it, and each proof that waits takes a thread.
set_option Elab.async false

variable {s : State} {k : Nat}

/-! ### What a port takes with it

The ports of a partition and the migrations into it end with its host. Of PART these write the record of migrations alone. -/

/-- Every block but PART. -/
def hubMask : Nat := allRegs - 2 ^ 5

/-- The fields of PART that the end of a migration writes. -/
def migrationWrites : List Field := [F.PART_MIGBUSY_BUSY, F.PART_MIGCNT_DONE, F.PART_MIGCNT_ABORTED]

/-- Of PART, `t` differs from `s` in the record of migrations at most. -/
abbrev KeepsHub (s t : State) : Prop := Alters hubMask migrationWrites s t

theorem Via.keepsHub {n : Nat} {s t : State} (d : Via n s t)
    (h : Nat.land (Nat.land allRegs n) hubMask = Nat.land allRegs n := by decide) : KeepsHub s t :=
  Alters.via (.refl s) d h

theorem State.migAbort_keepsHub (s : State) (p cause : Nat) : KeepsHub s (s.migAbort p cause) := by
  unfold State.migAbort
  extract_lets m s₁ s₂
  split
  · have back : KeepsHub s s₁ := .ite (State.takeBack_via ..).keepsHub (.refl s)
    have ended : KeepsHub s s₂ := .putBit (.via back (State.updMig_via ..))
    exact .via (.via (.incr ended) (State.irq_via ..)) (State.logPort_via ..)
  · exact .refl s

theorem State.migGiveBack_keepsHub (s : State) (p cause : Nat) : KeepsHub s (s.migGiveBack p cause) := by
  unfold State.migGiveBack
  extract_lets s₁
  have ended : KeepsHub s s₁ := s.migAbort_keepsHub p cause
  exact .ite (.via ended (State.leaveHold_via ..)) (.via ended (State.refresh_via ..))

theorem State.migUpstream_keepsHub (s : State) (k p : Nat) (detach : Bool) : KeepsHub s (s.migUpstream k detach p) :=
  .ite (.ite (s.migDone_keepsEngine p).mono (.ite (s.migGiveBack_keepsHub p 1) (.refl s))) (.refl s)

theorem State.portUpstream_keepsHub (s : State) (k p : Nat) : KeepsHub s (s.portUpstream k p) := by
  unfold State.portUpstream
  extract_lets m s₁
  split
  · have off : KeepsHub s s₁ := .ite (State.refresh_via ..).keepsHub (State.enterPoweredOff_via ..).keepsHub
    exact .ite off (off.trans (State.ccDisable_keepsEngine s₁ p 2).mono)
  · exact .refl s

/-! ### VBUS of the host -/

/-- VBUS of every host stands as it does in `v` (R123). -/
def State.HostsAs (v : Nat → Bool) (s : State) : Prop := ∀ j, (s.parts.at j).hostVbus = v j

theorem State.HostsAs.of_parts {v : Nat → Bool} {t : State} (same : t.parts = s.parts) (h : s.HostsAs v) : t.HostsAs v :=
  fun j => by rw [same, h j]

theorem State.HostsAs.setFld {v : Nat → Bool} (h : s.HostsAs v) (f : Field) (i x : Nat) : (s.setFld f i x).HostsAs v := h

/-- A change of a partition's record that leaves VBUS of its host. -/
theorem State.HostsAs.updPart {v : Nat → Bool} (h : s.HostsAs v) (k : Nat) {f : Partition → Partition}
    (keeps : ∀ r, (f r).hostVbus = r.hostVbus) : (s.updPart k f).HostsAs v := by
  intro j
  by_cases same : j = k
  · subst same
    rw [State.updPart, Tbl.at_upd_self, keeps, h]
  · rw [State.updPart, Tbl.at_upd_ne _ _ same, h]

theorem State.HostsAs.takeBack {v : Nat → Bool} (h : s.HostsAs v) (p k : Nat) : (s.takeBack p k).HostsAs v := by
  unfold State.takeBack
  split
  · exact State.HostsAs.updPart (s := s.putBit F.DPE_PORTSTAT_CHANGE p cConnection true) h k fun _ => rfl
  · exact h

theorem State.HostsAs.migAbort {v : Nat → Bool} (h : s.HostsAs v) (p cause : Nat) : (s.migAbort p cause).HostsAs v := by
  unfold State.migAbort
  extract_lets m s₁ s₂
  split
  · have back : s₁.HostsAs v := by
      unfold s₁
      split
      · exact h.takeBack p _
      · exact h
    have counted : ((s₂.incr F.PART_MIGCNT_ABORTED 0).irq 132).HostsAs v :=
      back.of_parts ((State.irq_via ..).same .parts (by decide))
    exact counted.of_parts ((State.logPort_via ..).same .parts (by decide))
  · exact h

theorem State.HostsAs.migUpstream {v : Nat → Bool} (h : s.HostsAs v) (k p : Nat) (detach : Bool) :
    (s.migUpstream k detach p).HostsAs v := by
  unfold State.migUpstream State.migGiveBack
  extract_lets m s₁
  have ended : s₁.HostsAs v := h.migAbort p 1
  repeat' split
  · exact h.of_parts ((State.migDone_via ..).same .parts (by decide))
  · exact ended.of_parts ((State.leaveHold_via ..).same .parts (by decide))
  · exact ended.of_parts ((State.refresh_via ..).same .parts (by decide))
  · exact h
  · exact h

/-! ### An upstream event (R135) -/

/-- The translators, the migrations into the partition and its ports end with the host. -/
def State.hostLost (s : State) (k : Nat) (detach : Bool) : State :=
  (((s.ttClearPart k).each allPorts fun s p => s.migUpstream k detach p).setFld F.PART_HOSTPWR_PWR k 0).each allPorts
    fun s p => s.portUpstream k p

/-- The record of a partition whose host is lost or resets it (R135). -/
def Partition.unhosted (r : Partition) : Partition :=
  { r with
    remoteWake := false, localPowerChange := false, resuming := false, wakeUp := false, power33 := false, requests := []
    freshK := false }

/-- What the host set up is cleared (R135). -/
def State.hubCleared (s : State) (k : Nat) : State :=
  ((((((s.setFld F.PART_PSTAT_ADDR k 0).put F.PART_PSTAT_CONFIGURED k false).put F.PART_PSTAT_TTALT k false).put
    F.PART_PSTAT_SUSPENDED k false).updPart k Partition.unhosted).p33Off k)

/-- The event counts, and a detach ends high speed (R135). -/
def State.eventCounted (s : State) (k : Nat) (detach : Bool) : State :=
  if detach then (s.put F.PART_PSTAT_SPEED k false).incr F.PART_PCNT_DETACHES k else s.incr F.PART_PCNT_UPRESETS k

theorem State.upstreamEvent_eq (s : State) (k : Nat) (detach : Bool) :
    s.upstreamEvent k detach = (((s.hostLost k detach).hubCleared k).eventCounted k detach).irq (128 + k) := by
  unfold State.upstreamEvent State.hostLost State.hubCleared State.eventCounted
  rfl

theorem State.hostLost_alters (s : State) (k : Nat) (detach : Bool) :
    Alters hubMask (F.PART_HOSTPWR_PWR :: migrationWrites) s (s.hostLost k detach) := by
  have ended : KeepsHub s ((s.ttClearPart k).each allPorts fun s p => s.migUpstream k detach p) :=
    .each (State.ttClearPart_via ..).keepsHub fun s p => s.migUpstream_keepsHub k p detach
  exact .each (.setFld ended.mono) fun s p => (s.portUpstream_keepsHub k p).mono

theorem State.hostLost_hostPwr (s : State) (k : Nat) (detach : Bool) : (s.hostLost k detach).fld F.PART_HOSTPWR_PWR k = 0 := by
  have last (u : State) : KeepsHub u (u.each allPorts fun s p => s.portUpstream k p) :=
    .each (.refl u) fun s p => s.portUpstream_keepsHub k p
  rw [State.hostLost, last _ _ _ (by decide)]
  exact (fld_setFld_self ..).trans (Nat.zero_mod _)

theorem State.hostLost_hostsAs (s : State) (k : Nat) (detach : Bool) {v : Nat → Bool} (h : s.HostsAs v) :
    (s.hostLost k detach).HostsAs v := by
  have cleared : (s.ttClearPart k).HostsAs v := h.of_parts ((State.ttClearPart_via ..).same .parts (by decide))
  have ended : ((s.ttClearPart k).each allPorts fun s p => s.migUpstream k detach p).HostsAs v :=
    State.each_invariant (q := State.HostsAs v) (fun s p h => h.migUpstream k p detach) _ cleared
  exact State.each_invariant (q := State.HostsAs v)
    (fun s p h => h.of_parts ((State.portUpstream_via s k p).same .parts (by decide))) _ (ended.setFld F.PART_HOSTPWR_PWR k 0)

/-- What an upstream event clears of a partition's registers and record (R135). -/
def hubWrites : List Field := [F.PART_PSTAT_ADDR, F.PART_PSTAT_CONFIGURED, F.PART_PSTAT_TTALT, F.PART_PSTAT_SUSPENDED]

theorem State.hubCleared_alters (s : State) (k : Nat) : Alters hubMask hubWrites s (s.hubCleared k) := by
  have cleared : Alters hubMask hubWrites s ((((s.setFld F.PART_PSTAT_ADDR k 0).put F.PART_PSTAT_CONFIGURED k false).put
      F.PART_PSTAT_TTALT k false).put F.PART_PSTAT_SUSPENDED k false) := .put (.put (.put (.setFld (.refl s))))
  exact .via (.via cleared (State.updPart_via ..)) (State.p33Off_via ..)

theorem State.hubCleared_fld (s : State) (k : Nat) {f : Field} (listed : f ∈ hubWrites) : (s.hubCleared k).fld f k = 0 := by
  have last : KeepsHub ((((s.setFld F.PART_PSTAT_ADDR k 0).put F.PART_PSTAT_CONFIGURED k false).put
      F.PART_PSTAT_TTALT k false).put F.PART_PSTAT_SUSPENDED k false) (s.hubCleared k) :=
    .via (State.updPart_via ..).keepsHub (State.p33Off_via ..)
  simp only [hubWrites, List.mem_cons, List.not_mem_nil, or_false] at listed
  obtain rfl | rfl | rfl | rfl := listed <;> rw [last _ _ (by decide)]
  · rw [State.fld_put_ne _ _ _ _ (by decide), State.fld_put_ne _ _ _ _ (by decide), State.fld_put_ne _ _ _ _ (by decide)]
    exact fld_setFld_self ..
  · rw [State.fld_put_ne _ _ _ _ (by decide), State.fld_put_ne _ _ _ _ (by decide)]
    exact fld_setFld_self ..
  · rw [State.fld_put_ne _ _ _ _ (by decide)]
    exact fld_setFld_self ..
  · exact fld_setFld_self ..

theorem State.eventCounted_alters (s : State) (k : Nat) (detach : Bool) :
    Alters 0 [F.PART_PSTAT_SPEED, F.PART_PCNT_DETACHES, F.PART_PCNT_UPRESETS] s (s.eventCounted k detach) :=
  .ite (.incr (.put (.refl s))) (.incr (.refl s))

theorem State.eventCounted_parts (s : State) (k : Nat) (detach : Bool) : (s.eventCounted k detach).parts = s.parts := by
  unfold State.eventCounted
  split <;> rfl

/-- An upstream event leaves the other fields of PART (R135). -/
theorem State.upstreamEvent_alters (s : State) (k : Nat) (detach : Bool) :
    Alters hubMask ([F.PART_PSTAT_SPEED, F.PART_PCNT_DETACHES, F.PART_PCNT_UPRESETS, F.PART_HOSTPWR_PWR] ++ migrationWrites
      ++ hubWrites) s (s.upstreamEvent k detach) := by
  rw [State.upstreamEvent_eq]
  exact .via (((s.hostLost_alters k detach).mono.trans (State.hubCleared_alters _ k).mono).trans
    (State.eventCounted_alters _ k detach).mono) (State.irq_via ..)

/-- What stands at the end of the clearing stands after the event, but for what counts. -/
theorem State.upstreamEvent_fld (s : State) (k : Nat) (detach : Bool) {f : Field} (i : Nat)
    (outside : writable (2 ^ 19) [F.PART_PSTAT_SPEED, F.PART_PCNT_DETACHES, F.PART_PCNT_UPRESETS] f = false := by decide) :
    (s.upstreamEvent k detach).fld f i = ((s.hostLost k detach).hubCleared k).fld f i := by
  rw [State.upstreamEvent_eq]
  have counted : Alters (2 ^ 19) [F.PART_PSTAT_SPEED, F.PART_PCNT_DETACHES, F.PART_PCNT_UPRESETS] ((s.hostLost k detach).hubCleared k)
      (((s.hostLost k detach).hubCleared k).eventCounted k detach) := (State.eventCounted_alters _ k detach).mono
  exact counted.via (State.irq_via _ (128 + k)) (by decide) f i outside

theorem State.upstreamEvent_clears (s : State) (k : Nat) (detach : Bool) :
    (s.upstreamEvent k detach).fld F.PART_PSTAT_ADDR k = 0 ∧ (s.upstreamEvent k detach).on F.PART_PSTAT_CONFIGURED k = false
      ∧ (s.upstreamEvent k detach).on F.PART_PSTAT_SUSPENDED k = false
      ∧ (s.upstreamEvent k detach).fld F.PART_HOSTPWR_PWR k = 0 := by
  have cleared {f : Field} (listed : f ∈ hubWrites) : ((s.hostLost k detach).hubCleared k).fld f k = 0 :=
    State.hubCleared_fld _ k listed
  refine ⟨?_, ?_, ?_, ?_⟩
  · rw [s.upstreamEvent_fld k detach k, cleared (by decide)]
  · rw [State.on_of_fld (s.upstreamEvent_fld k detach k), State.on, cleared (by decide)]
    rfl
  · rw [State.on_of_fld (s.upstreamEvent_fld k detach k), State.on, cleared (by decide)]
    rfl
  · rw [s.upstreamEvent_fld k detach k, State.hubCleared_alters _ k _ _ (by decide), s.hostLost_hostPwr]

theorem State.upstreamEvent_pends (s : State) (detach : Bool) (low : k < 4) : (s.upstreamEvent k detach).pends (128 + k) = true :=
  State.pends_irq_self _ (by omega)

theorem State.upstreamEvent_hostsAs (s : State) (k : Nat) (detach : Bool) {v : Nat → Bool} (h : s.HostsAs v) :
    (s.upstreamEvent k detach).HostsAs v := by
  have lost := s.hostLost_hostsAs k detach h
  have record : ((((((s.hostLost k detach).setFld F.PART_PSTAT_ADDR k 0).put F.PART_PSTAT_CONFIGURED k false).put
      F.PART_PSTAT_TTALT k false).put F.PART_PSTAT_SUSPENDED k false).updPart k Partition.unhosted).HostsAs v :=
    ((((lost.setFld _ _ _).setFld _ _ _).setFld _ _ _).setFld _ _ _).updPart k fun _ => rfl
  have cleared : ((s.hostLost k detach).hubCleared k).HostsAs v :=
    record.of_parts ((State.p33Off_via ..).same .parts (by decide))
  have counted : (((s.hostLost k detach).hubCleared k).eventCounted k detach).HostsAs v :=
    cleared.of_parts (State.eventCounted_parts ..)
  rw [State.upstreamEvent_eq]
  exact counted.of_parts ((State.irq_via ..).same .parts (by decide))

/-- A count of upstream events goes up from what stood before the event (R135). -/
theorem State.hubCleared_count (s : State) (k : Nat) (detach : Bool) {f : Field}
    (outside : writable hubMask (F.PART_HOSTPWR_PWR :: migrationWrites ++ hubWrites) f = false := by decide) :
    ((s.hostLost k detach).hubCleared k).fld f k = s.fld f k := by
  have lost : Alters hubMask (F.PART_HOSTPWR_PWR :: migrationWrites ++ hubWrites) s (s.hostLost k detach) :=
    (s.hostLost_alters k detach).mono
  exact (lost.trans (State.hubCleared_alters _ k).mono) f k outside

theorem State.upstreamEvent_resets (s : State) (k : Nat) :
    (s.upstreamEvent k false).fld F.PART_PCNT_UPRESETS k = (s.fld F.PART_PCNT_UPRESETS k + 1) % 2 ^ 16 := by
  rw [State.upstreamEvent_eq, (State.irq_via ..).fld _ _ (by decide), State.eventCounted, if_neg Bool.false_ne_true,
    State.incr_fld_self, s.hubCleared_count k false]
  exact congrArg (fun w => (s.fld F.PART_PCNT_UPRESETS k + 1) % 2 ^ w) rfl

theorem State.upstreamEvent_detaches (s : State) (k : Nat) :
    (s.upstreamEvent k true).fld F.PART_PCNT_DETACHES k = (s.fld F.PART_PCNT_DETACHES k + 1) % 2 ^ 16 := by
  rw [State.upstreamEvent_eq, (State.irq_via ..).fld _ _ (by decide), State.eventCounted, if_pos rfl,
    State.incr_fld_self, State.fld_put_ne _ _ _ _ (by decide), s.hubCleared_count k true]
  exact congrArg (fun w => (s.fld F.PART_PCNT_DETACHES k + 1) % 2 ^ w) rfl

end Sys2Proof.Machine
end

section
/-! Presence of hosts, suspend and resume (R123, R124, R133, R151), and the requests to the hub itself (R125 to R128). -/

namespace Sys2Proof.Machine

-- One proof at a time: a default argument `by decide` waits for the text before it, and each proof that waits takes a thread.
set_option Elab.async false

variable {s : State} {k p : Nat}

theorem State.updPart_self (s : State) (k : Nat) (f : Partition → Partition) :
    (s.updPart k f).parts.at k = f (s.parts.at k) := Tbl.at_upd_self ..

/-! ### HOST and the pull-up (R123, R133) -/

/-- The pull-up of partition `k` as its conditions give it. -/
def State.pulledUp (s : State) (k : Nat) : Bool := s.hostPresent k && s.on F.PART_PCTL_PULLUP k

/-- HOST and ATTACHED as their conditions give them. -/
def State.presenceShown (s : State) (k : Nat) : State :=
  (s.put F.PART_PSTAT_HOST k (s.hostPresent k)).put F.PART_PSTAT_ATTACHED k (s.pulledUp k)

theorem State.presence_cases (s : State) (k : Nat) :
    s.presence k = (s.presenceShown k).upstreamEvent k true ∨ s.presence k = (s.presenceShown k).irq (128 + k)
      ∨ s.presence k = s.presenceShown k := by
  unfold State.presence
  extract_lets host att lostHost lostAtt changed s₁
  split
  · exact .inl rfl
  · split
    · exact .inr (.inl rfl)
    · exact .inr (.inr rfl)

/-- The loss of the pull-up is a detach (R135). -/
theorem State.presence_detach (attached : s.on F.PART_PSTAT_ATTACHED k = true) (gone : s.hostPresent k = false) :
    s.presence k = (s.presenceShown k).upstreamEvent k true := by
  refine if_pos ?_
  simp [attached, gone]

/-- What neither an upstream event nor an interrupt writes stands as shown. -/
theorem State.presence_fld (s : State) (k : Nat) {f : Field} (i : Nat)
    (event : writable hubMask ([F.PART_PSTAT_SPEED, F.PART_PCNT_DETACHES, F.PART_PCNT_UPRESETS, F.PART_HOSTPWR_PWR]
      ++ migrationWrites ++ hubWrites) f = false := by decide)
    (quiet : (2 ^ 19).testBit (Zone.reg (blockOf f.id)).code = false := by decide) :
    (s.presence k).fld f i = (s.presenceShown k).fld f i := by
  obtain detached | raised | still := s.presence_cases k
  · rw [detached, State.upstreamEvent_alters _ k true f i event]
  · rw [raised, (State.irq_via ..).fld f i quiet]
  · rw [still]

theorem State.presenceShown_on (s : State) (k : Nat) :
    (s.presenceShown k).on F.PART_PSTAT_HOST k = s.hostPresent k
      ∧ (s.presenceShown k).on F.PART_PSTAT_ATTACHED k = s.pulledUp k := by
  refine ⟨(State.on_of_fld (State.fld_put_ne _ _ _ _ (by decide))).trans (State.on_put_self _ _ _ rfl), State.on_put_self _ _ _ rfl⟩

theorem State.presence_on (s : State) (k : Nat) :
    (s.presence k).on F.PART_PSTAT_HOST k = s.hostPresent k ∧ (s.presence k).on F.PART_PSTAT_ATTACHED k = s.pulledUp k := by
  obtain ⟨host, att⟩ := s.presenceShown_on k
  exact ⟨(State.on_of_fld (s.presence_fld k k)).trans host, (State.on_of_fld (s.presence_fld k k)).trans att⟩

theorem State.presence_hostsAs (s : State) (k : Nat) {v : Nat → Bool} (h : s.HostsAs v) : (s.presence k).HostsAs v := by
  have shown : (s.presenceShown k).HostsAs v := (h.setFld _ _ _).setFld _ _ _
  obtain detached | raised | still := s.presence_cases k
  · exact detached ▸ State.upstreamEvent_hostsAs _ k true shown
  · exact raised ▸ shown.of_parts ((State.irq_via ..).same .parts (by decide))
  · exact still ▸ shown

/-- VBUS of the host of partition `k` becomes `vbus`. -/
def State.hostVbusSet (s : State) (k : Nat) (vbus : Bool) : State := s.updPart k fun r => { r with hostVbus := vbus }

theorem State.hostVbusSet_self (s : State) (k : Nat) (vbus : Bool) : ((s.hostVbusSet k vbus).parts.at k).hostVbus = vbus :=
  (congrArg Partition.hostVbus (s.updPart_self k _)).trans rfl

theorem State.hostVbusSet_present (s : State) (k : Nat) (vbus : Bool) :
    (s.hostVbusSet k vbus).hostPresent k = (s.hasUpstream k && s.domOn Dom.fabric && (decide (k = 0) || s.domOn Dom.uplink)
      && s.ccIs (33 + k) .attachedSnk && vbus) := by
  rw [State.hostPresent, s.hostVbusSet_self]
  rfl

theorem hostPresenceChange_shows (vbus : Bool) (low : k < 4) :
    Completes (.hostPresenceChange k vbus) s fun t =>
      (t.parts.at k).hostVbus = vbus
        ∧ t.on F.PART_PSTAT_HOST k = (s.hasUpstream k && s.domOn Dom.fabric && (decide (k = 0) || s.domOn Dom.uplink)
          && s.ccIs (33 + k) .attachedSnk && vbus)
        ∧ t.on F.PART_PSTAT_ATTACHED k = (t.on F.PART_PSTAT_HOST k && s.on F.PART_PCTL_PULLUP k) := by
  obtain ⟨host, att⟩ := (s.hostVbusSet k vbus).presence_on k
  refine ⟨(s.hostVbusSet k vbus).presence k, congrArg Host.Outcome.next (if_pos low), ?_, host.trans (s.hostVbusSet_present k vbus), ?_⟩
  · exact (State.presence_hostsAs _ k (fun _ => rfl) k).trans (s.hostVbusSet_self k vbus)
  · rw [att, host]
    rfl

/-! ### The resume of a host (R151) -/

/-- An Enabled port drives the resume of its host (R151). -/
def State.resumeDriven (s : State) (p : Nat) : State :=
  if s.dpeIs p .enabled then (s.updDpe p (fun r => { r with driving := true })).setDpe p .transmit else s

/-- Port `p` drives K for its host. -/
def State.drives (s : State) (p : Nat) : Prop := s.dpeIs p .transmit = true ∧ (s.dpe.at p).driving = true

theorem State.dpeIs_unique {d e : Dpe} (is : s.dpeIs p d = true) (other : d ≠ e) : s.dpeIs p e = false := by
  rw [State.dpeIs, decide_eq_true_eq] at is
  rw [State.dpeIs, is, decide_eq_false_iff_not]
  revert other
  cases d <;> cases e <;> simp [Dpe.code]

theorem State.setDpe_dpeIs_ne (s : State) {p q : Nat} (d e : Dpe) (other : p ≠ q) : (s.setDpe q d).dpeIs p e = s.dpeIs p e := by
  have state : (s.setDpe q d).fld F.DPE_STATE_STATE p = s.fld F.DPE_STATE_STATE p := by
    rw [s.setDpe_keepsEngine q d F.DPE_STATE_STATE p (by decide), State.stateWritten, State.fld_ite,
      fld_setFld_index _ _ other, fld_setFld_ne _ _ _ _ (by decide), ite_self]
  rw [State.dpeIs, state]
  rfl

theorem State.resumeDriven_drives (s : State) (able : s.dpeIs p .enabled = true) : (s.resumeDriven p).drives p := by
  rw [State.resumeDriven, if_pos able]
  exact ⟨State.setDpe_dpeIs .., by rw [State.setDpe_dpe, State.updDpe, Tbl.at_upd_self]⟩

/-- The resume at another port leaves the state and the record of port `p`. -/
theorem State.resumeDriven_other (s : State) {p q : Nat} (other : p ≠ q) (d : Dpe) :
    (s.resumeDriven q).dpeIs p d = s.dpeIs p d ∧ (s.resumeDriven q).dpe.at p = s.dpe.at p := by
  unfold State.resumeDriven
  split
  · exact ⟨State.setDpe_dpeIs_ne _ _ d other, by rw [State.setDpe_dpe, State.updDpe, Tbl.at_upd_ne _ _ other]⟩
  · exact ⟨rfl, rfl⟩

theorem State.resumeDriven_keepsDriving (s : State) (q : Nat) (driven : s.drives p) : (s.resumeDriven q).drives p := by
  obtain ⟨transmits, driving⟩ := driven
  by_cases same : p = q
  · subst same
    have still : s.resumeDriven p = s := if_neg (by rw [State.dpeIs_unique transmits (by decide)]; exact Bool.false_ne_true)
    rw [still]
    exact ⟨transmits, driving⟩
  · obtain ⟨state, record⟩ := s.resumeDriven_other same .transmit
    exact ⟨state.trans transmits, by rw [record, driving]⟩

/-- What the resume at a port reaches. -/
def resumeMask : Nat := 9289773777158848 ||| 2 ^ 37

theorem State.resumeDriven_via (s : State) (p : Nat) : Via resumeMask s (s.resumeDriven p) := by
  unfold State.resumeDriven
  split
  · exact .then (State.setDpe_via ..) (by decide) (.mono (by decide) (State.updDpe_via ..))
  · exact .refl s

/-- A port at the end of its host's resume (R148). -/
def State.resumeEnded (s : State) (p : Nat) : State :=
  if s.dpeIs p .restartS then (s.updDpe p (fun r => { r with fromL1 := false })).setDpe p .resuming
  else if s.dpeIs p .restartE then s.setDpe p .enabled
  else if s.dpeIs p .transmit && (s.dpe.at p).driving then
    (s.updDpe p (fun r => { r with driving := false })).setDpe p .enabled
  else s

theorem State.resumeEnded_via (s : State) (p : Nat) : Via resumeMask s (s.resumeEnded p) := by
  unfold State.resumeEnded
  repeat' split
  · exact .then (State.setDpe_via ..) (by decide) (.mono (by decide) (State.updDpe_via ..))
  · exact .mono (by decide) (State.setDpe_via ..)
  · exact .then (State.setDpe_via ..) (by decide) (.mono (by decide) (State.updDpe_via ..))
  · exact .refl s

/-- Port 33 at the end of its host's resume (R193). -/
def State.resumeEnded33 (s : State) (k : Nat) : State :=
  if s.p33Is k .resuming then (s.setP33 k .enabled).change33 k cSuspend else s

theorem State.resumeEnded33_alters (s : State) (k : Nat) : Alters 0 [F.MF_STAT_PSTATE] s (s.resumeEnded33 k) :=
  .ite (.via (.setFld (.refl s)) (State.change33_via ..)) (.refl s)

theorem State.resumeEnded33_record (s : State) (k : Nat) :
    ((s.resumeEnded33 k).parts.at k).resuming = (s.parts.at k).resuming
      ∧ ((s.resumeEnded33 k).parts.at k).wakeUp = (s.parts.at k).wakeUp := by
  unfold State.resumeEnded33
  split
  · simp only [State.change33, Tbl.at_upd_self]
    exact ⟨rfl, rfl⟩
  · exact ⟨rfl, rfl⟩

/-- The hub, its ports and port 33 at the end of the resume (R148, R193). -/
def State.hostResumed (s : State) (k : Nat) : State :=
  let s := (s.updPart k (fun r => { r with resuming := false, wakeUp := false })).put F.PART_PSTAT_SUSPENDED k false
  ((s.each (s.portsOfPart k) State.resumeEnded).resumeEnded33 k).updMf k (fun r => { r with waking := false })

theorem State.hostResumed_ends (s : State) (k : Nat) :
    (s.hostResumed k).on F.PART_PSTAT_SUSPENDED k = false ∧ ((s.hostResumed k).parts.at k).resuming = false
      ∧ ((s.hostResumed k).parts.at k).wakeUp = false := by
  unfold State.hostResumed
  extract_lets s₁
  let s₂ := s₁.each (s₁.portsOfPart k) State.resumeEnded
  have ports : Via resumeMask s₁ s₂ := State.each_via State.resumeEnded_via s₁ _
  have record : s₂.parts.at k = { s.parts.at k with resuming := false, wakeUp := false } := by
    rw [ports.same .parts (by decide)]
    exact s.updPart_self k fun r => { r with resuming := false, wakeUp := false }
  obtain ⟨resuming, wake⟩ := s₂.resumeEnded33_record k
  refine ⟨?_, ?_, ?_⟩
  · refine (State.on_of_fld ((State.updMf_via ..).fld _ _ (by decide))).trans ?_
    rw [(s₂.resumeEnded33_alters k).on _ _, State.on_of_fld (ports.fld _ _ (by decide))]
    exact State.on_put_self _ k false rfl
  · rw [(State.updMf_via ..).same .parts (by decide), resuming, record]
  · rw [(State.updMf_via ..).same .parts (by decide), wake, record]

/-! ### Events at the upstream port (R124, R135) -/

section
variable (up : s.hubUp k = true)
include up

theorem State.hubUp_low : k < 4 := by
  simpa using (Bool.and_eq_true_iff.mp up).1

theorem State.hubUp_attached : s.on F.PART_PSTAT_ATTACHED k = true := (Bool.and_eq_true_iff.mp up).2

theorem upstreamBusReset_clears :
    Completes (.upstreamBusReset k) s fun t =>
      t.fld F.PART_PSTAT_ADDR k = 0 ∧ t.on F.PART_PSTAT_CONFIGURED k = false ∧ t.on F.PART_PSTAT_SUSPENDED k = false
        ∧ t.fld F.PART_HOSTPWR_PWR k = 0 ∧ t.fld F.PART_PCNT_UPRESETS k = (s.fld F.PART_PCNT_UPRESETS k + 1) % 2 ^ 16
        ∧ t.on F.PART_PSTAT_ATTACHED k = true ∧ t.pends (128 + k) = true := by
  obtain ⟨addr, configured, suspended, power⟩ := s.upstreamEvent_clears k false
  exact ⟨_, congrArg Host.Outcome.next (if_pos up), addr, configured, suspended, power, s.upstreamEvent_resets k,
    ((s.upstreamEvent_alters k false).on _ _).trans (State.hubUp_attached up), s.upstreamEvent_pends false (State.hubUp_low up)⟩

theorem upstreamDetach_detaches :
    Completes (.upstreamDetach k) s fun t =>
      (t.parts.at k).hostVbus = false ∧ t.on F.PART_PSTAT_HOST k = false ∧ t.on F.PART_PSTAT_ATTACHED k = false
        ∧ t.fld F.PART_HOSTPWR_PWR k = 0 ∧ t.fld F.PART_PSTAT_ADDR k = 0
        ∧ t.fld F.PART_PCNT_DETACHES k = (s.fld F.PART_PCNT_DETACHES k + 1) % 2 ^ 16 ∧ t.pends (128 + k) = true := by
  let s₁ := s.hostVbusSet k false
  have gone : s₁.hostPresent k = false := by rw [s.hostVbusSet_present, Bool.and_false]
  have detached : s₁.presence k = (s₁.presenceShown k).upstreamEvent k true :=
    State.presence_detach (State.hubUp_attached up) gone
  obtain ⟨host, att⟩ := s₁.presence_on k
  obtain ⟨addr, -, -, power⟩ := (s₁.presenceShown k).upstreamEvent_clears k true
  have count : (s₁.presenceShown k).fld F.PART_PCNT_DETACHES k = s.fld F.PART_PCNT_DETACHES k :=
    (State.fld_put_ne _ _ _ _ (by decide)).trans (State.fld_put_ne s₁ _ _ _ (by decide))
  refine ⟨s₁.presence k, congrArg Host.Outcome.next (if_pos (State.hubUp_low up)), ?_, host.trans gone, ?_, ?_, ?_, ?_, ?_⟩
  · exact (s₁.presence_hostsAs k (fun _ => rfl) k).trans (s.hostVbusSet_self k false)
  · rw [att, State.pulledUp, gone, Bool.false_and]
  · rw [detached, power]
  · rw [detached, addr]
  · rw [detached, State.upstreamEvent_detaches, count]
  · rw [detached, State.upstreamEvent_pends _ true (State.hubUp_low up)]

theorem hsChirpHandshake_shows (completed : Bool) :
    Completes (.hsChirpHandshake k completed) s fun t => t.on F.PART_PSTAT_SPEED k = completed ∧ s.OnlyIn [.reg .part] t := by
  have only : Via (2 ^ 5) s (s.put F.PART_PSTAT_SPEED k completed) := .setFld _ _ _ (by decide) (.refl s)
  exact ⟨_, congrArg Host.Outcome.next (if_pos up), State.on_put_self s k completed rfl, only.onlyIn _ (by decide)⟩

/-! ### Suspend and resume (R151) -/

theorem partitionSuspend_suspends :
    Completes (.partitionSuspend k) s fun t =>
      t.on F.PART_PSTAT_SUSPENDED k = true ∧ t.pends (128 + k) = true
        ∧ (∀ p, t.fld F.DPE_STATE_STATE p = s.fld F.DPE_STATE_STATE p) := by
  have low := State.hubUp_low up
  refine ⟨_, congrArg Host.Outcome.next (if_pos up), ?_, State.pends_irq_self _ (by omega), fun p => ?_⟩
  · rw [State.on_of_fld ((State.irq_via ..).fld _ _ (by decide)), State.on_put_self s k true rfl]
  · rw [(State.irq_via ..).fld _ _ (by decide), State.fld_put_ne s _ _ _ (by decide)]

theorem hostResume_drives (suspended : s.on F.PART_PSTAT_SUSPENDED k = true) (member : p ∈ s.portsOfPart k)
    (able : s.dpeIs p .enabled = true) :
    Completes (.hostResume k) s fun t =>
      (t.parts.at k).resuming = true ∧ t.dpeIs p .transmit = true ∧ (t.dpe.at p).driving = true
        ∧ t.on F.PART_PSTAT_SUSPENDED k = true := by
  let s₁ := s.updPart k (fun r => { r with resuming := true, freshK := true })
  have driven : (s₁.each (s.portsOfPart k) State.resumeDriven).drives p :=
    State.each_establishes (before := fun s => s.dpeIs p .enabled = true) (after := fun s => s.drives p)
      (fun s => s.resumeDriven_drives) (fun s q other able => (s.resumeDriven_other (Ne.symm other) _).1.trans able)
      (fun s q => s.resumeDriven_keepsDriving q) member able
  have ports : Via resumeMask s₁ (s₁.each (s.portsOfPart k) State.resumeDriven) := State.each_via State.resumeDriven_via s₁ _
  refine ⟨s₁.each (s.portsOfPart k) State.resumeDriven, congrArg Host.Outcome.next (if_pos (by rw [up, suspended]; rfl)), ?_,
    driven.1, driven.2, ?_⟩
  · rw [ports.same .parts (by decide), State.updPart_self]
  · exact (State.on_of_fld (ports.fld _ _ (by decide))).trans suspended

theorem hostResumeEnd_ends (suspended : s.on F.PART_PSTAT_SUSPENDED k = true) :
    Completes (.hostResumeEnd k) s fun t =>
      t.on F.PART_PSTAT_SUSPENDED k = false ∧ (t.parts.at k).resuming = false ∧ (t.parts.at k).wakeUp = false
        ∧ t.pends (128 + k) = true := by
  have low := State.hubUp_low up
  have runs : exec (.hostResumeEnd k) s = .next ((s.hostResumed k).irq (128 + k)) :=
    congrArg Host.Outcome.next (if_pos (by rw [up, suspended]; rfl))
  obtain ⟨shown, resuming, wake⟩ := s.hostResumed_ends k
  refine ⟨_, runs, ?_, ?_, ?_, State.pends_irq_self _ (by omega)⟩
  · rw [State.on_of_fld ((State.irq_via ..).fld _ _ (by decide)), shown]
  · rw [(State.irq_via ..).same .parts (by decide), resuming]
  · rw [(State.irq_via ..).same .parts (by decide), wake]

end

/-! ### Requests to the hub itself (R125 to R127) -/

section
variable {requestType request value length : Nat} (up : s.hubUp k = true)
include up

theorem hubDeviceRequest_setAddress :
    Completes (.hubDeviceRequest k 0 5 value length) s fun t =>
      t.fld F.PART_PSTAT_ADDR k = value % 128 ∧ (t.parts.at k).answer = .ack := by
  refine ⟨(s.setFld F.PART_PSTAT_ADDR k (value % 128)).answer k .ack, ?_, ?_, State.answer_answer ..⟩
  · exact congrArg Host.Outcome.next ((if_neg (by simp [up])).trans (if_pos ⟨rfl, rfl⟩))
  · exact (fld_setFld_self ..).trans (Nat.mod_mod _ _)

/-- Where the charging current of the hub follows its configuration (R125). -/
def State.configLimit (s : State) (k value : Nat) : State :=
  if k = 0 ∧ value = 1 ∧ s.power.inLimit ≠ 0 then { s with power := { s.power with inLimit := 500 } } else s

omit up in
theorem State.configLimit_power (s : State) (k value : Nat) :
    (s.configLimit k value).power.inLimit = if k = 0 ∧ value = 1 ∧ s.power.inLimit ≠ 0 then 500 else s.power.inLimit := by
  unfold State.configLimit
  split <;> rfl

theorem hubDeviceRequest_setConfiguration (low : value ≤ 1) :
    Completes (.hubDeviceRequest k 0 9 value length) s fun t =>
      t.fld F.PART_PSTAT_CONFIGURED k = value ∧ (t.parts.at k).answer = .ack
        ∧ (t.power.inLimit = if k = 0 ∧ value = 1 ∧ s.power.inLimit ≠ 0 then 500 else s.power.inLimit) := by
  refine ⟨((s.configLimit k value).setFld F.PART_PSTAT_CONFIGURED k value).answer k .ack, ?_, ?_, State.answer_answer ..,
    s.configLimit_power k value⟩
  · exact congrArg Host.Outcome.next (((if_neg (by simp [up])).trans (if_neg (by simp))).trans (if_pos ⟨rfl, rfl, low⟩))
  · exact (fld_setFld_self ..).trans (Nat.mod_eq_of_lt (show value < 2 by omega))

theorem hubDeviceRequest_remoteWake (feature : request = 3 ∨ request = 1) :
    Completes (.hubDeviceRequest k 0 request 1 length) s fun t =>
      (t.parts.at k).remoteWake = decide (request = 3) ∧ (t.parts.at k).answer = .ack := by
  refine ⟨(s.updPart k (fun r => { r with remoteWake := decide (request = 3) })).answer k .ack, ?_, ?_, State.answer_answer ..⟩
  · refine congrArg Host.Outcome.next ?_
    obtain rfl | rfl := feature <;> simp [up]
  · simp only [State.answer, State.updPart, Tbl.at_upd_self]

theorem hubDeviceRequest_descriptor (kind : requestType = 0x80 ∨ requestType = 0xA0)
    (named : value = if requestType = 0x80 then 0x0100 else 0x2900) :
    Completes (.hubDeviceRequest k requestType 6 value length) s fun t =>
      (t.parts.at k).answer = .data 1 ((if requestType = 0x80 then s.hubDevice k else hubDescriptor).take length)
        ∧ t.regs = s.regs := by
  refine ⟨s.answer k (.data 1 ((if requestType = 0x80 then s.hubDevice k else hubDescriptor).take length)), ?_,
    State.answer_answer .., rfl⟩
  refine congrArg Host.Outcome.next ?_
  obtain rfl | rfl := kind <;> subst named <;> simp [up]

theorem hubDeviceRequest_localPower :
    Completes (.hubDeviceRequest k 0x20 1 0 length) s fun t =>
      (t.parts.at k).localPowerChange = false ∧ (t.parts.at k).answer = .ack := by
  refine ⟨(s.updPart k (fun r => { r with localPowerChange := false })).answer k .ack, ?_, ?_, State.answer_answer ..⟩
  · exact congrArg Host.Outcome.next (by simp [up])
  · simp only [State.answer, State.updPart, Tbl.at_upd_self]

/-! ### Requests about a port (R128) -/

theorem getPortStatus_own (owns : s.owns k p = true) :
    exec (.getPortStatus k p) s
      = .next (s.answer k (.data 1 (le 2 (s.wPortStatus p) ++ le 2 (s.fld F.DPE_PORTSTAT_CHANGE p)))) := by
  have port := State.owns_port owns
  exact congrArg Host.Outcome.next (((if_pos up).trans (if_neg (by omega))).trans (if_pos owns))

theorem getPortStatus_other (owns : s.owns k p = false) :
    Completes (.getPortStatus k p) s fun t =>
      (p = 33 → t = s.answer k (.data 1 (le 2 (s.status33 k) ++ le 2 (s.parts.at k).change33)))
        ∧ (1 ≤ p → p ≤ 32 → t = s.answer k (.data 1 ([0, 0] ++ le 2 (bit01 ((s.parts.at k).leftChange.testBit (p - 1))))))
        ∧ ((p = 0 ∨ 33 < p) → t = s.answer k .stall) := by
  have lacks : ¬ s.owns k p = true := by simp [owns]
  refine ⟨_, congrArg Host.Outcome.next (if_pos up), fun port => if_pos port, fun least most => ?_, fun none => ?_⟩
  · exact ((if_neg (by omega)).trans (if_neg lacks)).trans (if_pos ⟨least, most⟩)
  · exact ((if_neg (by omega)).trans (if_neg lacks)).trans (if_neg (by omega))

theorem portIndicatorRequest_stalls : exec (.portIndicatorRequest k) s = .next (s.answer k .stall) :=
  congrArg Host.Outcome.next (if_pos up)

omit up in
/-- The change bits of an assigned port stand as what follows its state is shown (R155, R170). -/
theorem State.refresh_change (s : State) (p : Nat) (assigned : s.partOf p < 4) :
    (s.refresh p).fld F.DPE_PORTSTAT_CHANGE p = s.fld F.DPE_PORTSTAT_CHANGE p := by
  let shown : List Field := [F.DSW_PSTAT_SW, F.DPE_STATE_PART, F.DPE_STATE_LOGPWR, F.DPE_STATE_ISO_CAUSE, F.DPE_STATE_SWCLOSED,
    F.DPE_PORTSTAT_STATUS]
  suffices kept : Alters 0 shown s (s.refresh p) from kept _ _ (by decide)
  unfold State.refresh
  extract_lets s₁ s₂ s₃ s₄ s₅ s₆
  have switch : Alters 0 shown s s₁ := .put (.refl s)
  have follow : Alters 0 shown s s₅ := .put (.setFld (.put (.setFld switch)))
  have part : s₅.partOf p = s.partOf p := by
    refine follow _ _ ?_
    unfold assignField
    split <;> rfl
  have still : s₆ = s₅ := if_pos (by rwa [part])
  exact .ite (.setFld (still ▸ follow)) switch

omit up in
theorem State.owns_partOf (owns : s.owns k p = true) : s.partOf p < 4 := by
  simp only [State.owns, Bool.and_eq_true, decide_eq_true_eq] at owns
  omega

omit up in
/-- A bit cleared reads 0 at any place, inside the field or not. -/
theorem State.bit_putBit_clear (s : State) (f : Field) (i b : Nat) : (s.putBit f i b false).bit f i b = false := by
  rw [State.putBit, State.bit, fld_setFld_self, Nat.testBit_mod_two_pow, testBit_withBit, Bool.and_false]

theorem clearPortChange_own {b : Nat} (owns : s.owns k p = true) :
    Completes (.clearPortChange k p b) s fun t =>
      t.bit F.DPE_PORTSTAT_CHANGE p b = false ∧ (t.parts.at k).answer = .ack := by
  have port := State.owns_port owns
  refine ⟨((s.putBit F.DPE_PORTSTAT_CHANGE p b false).refresh p).answer k .ack, ?_, ?_, State.answer_answer ..⟩
  · exact congrArg Host.Outcome.next (((if_pos up).trans (if_neg (by omega))).trans (if_pos owns))
  · have part : (s.putBit F.DPE_PORTSTAT_CHANGE p b false).partOf p = s.partOf p := fld_setFld_ne s p _ _ (assignField_ne p)
    have shown := (s.putBit F.DPE_PORTSTAT_CHANGE p b false).refresh_change p (part ▸ State.owns_partOf owns)
    exact (State.bit_of_fld shown b).trans (s.bit_putBit_clear _ p b)

theorem clearPortChange_other {b : Nat} (owns : s.owns k p = false) :
    Completes (.clearPortChange k p b) s fun t =>
      (p = 33 → (t.parts.at k).change33 = withBit (s.parts.at k).change33 b false ∧ (t.parts.at k).answer = .ack)
        ∧ (1 ≤ p → p ≤ 32 → b = cConnection →
          (t.parts.at k).leftChange = withBit (s.parts.at k).leftChange (p - 1) false ∧ (t.parts.at k).answer = .ack)
        ∧ ((p = 0 ∨ 33 < p) → t = s.answer k .stall) := by
  have lacks : ¬ s.owns k p = true := by simp [owns]
  refine ⟨_, congrArg Host.Outcome.next (if_pos up), fun port => ?_, fun least most connection => ?_, fun none => ?_⟩
  · rw [if_pos port]
    simp [State.answer, State.updPart]
  · rw [if_neg (by omega), if_neg lacks, if_pos ⟨least, most⟩]
    simp [State.answer, State.updPart, connection]
  · rw [if_neg (by omega), if_neg lacks, if_neg (by omega)]

end

/-- Settles O22: an upstream event clears what the host set up, and each request to the hub is answered as it comes. -/
theorem upstreamAndHubCommands : Obligations.UpstreamAndHubCommands := by
  refine ⟨fun _ _ => upstreamBusReset_clears, fun _ _ => upstreamDetach_detaches, fun _ _ => hostPresenceChange_shows,
    fun _ _ completed up => hsChirpHandshake_shows up completed, fun _ _ => partitionSuspend_suspends,
    fun _ _ _ => hostResume_drives, fun _ _ => hostResumeEnd_ends, ?_, ?_, ?_, ?_, ?_,
    fun _ _ _ up owns => ⟨_, getPortStatus_own up owns, rfl, State.answer_answer ..⟩, fun _ _ _ => getPortStatus_other,
    fun _ _ up => ⟨_, portIndicatorRequest_stalls up, rfl⟩, fun _ _ _ _ up owns => clearPortChange_own up owns,
    fun _ _ _ _ up owns => clearPortChange_other up owns⟩
  · rintro s k _ _ value length up rfl rfl
    exact hubDeviceRequest_setAddress up
  · rintro s k _ _ value length up rfl rfl low
    exact hubDeviceRequest_setConfiguration up low
  · rintro s k _ request _ length up rfl feature rfl
    exact hubDeviceRequest_remoteWake up feature
  · rintro s k requestType _ value length up kind rfl named
    exact hubDeviceRequest_descriptor up kind named
  · rintro s k _ _ _ length up rfl rfl rfl
    exact hubDeviceRequest_localPower up

end Sys2Proof.Machine
end

section
/-! Assignment (R130 to R132) and migration of ports (R137 to R141): the partition, the record of the migration, the change bits
and the engine's state. -/

namespace Sys2Proof.Machine

-- One proof at a time: a default argument `by decide` waits for the text before it, and each proof that waits takes a thread.
set_option Elab.async false

variable {s t : State} {k p v : Nat}

/-! ### The partition of a port -/

/-- An operation that reaches no register of PART leaves the assignments. -/
theorem Via.partOf {m : Nat} (d : Via m s t) (p : Nat)
    (h : m.testBit (Zone.reg (blockOf F.PART_ASSIGN_PORT0.id)).code = false := by decide) : t.partOf p = s.partOf p :=
  d.fld _ _ (by rwa [assignField_block])

/-- A write to a register other than PART_ASSIGN leaves the assignments (R145). -/
theorem State.setFld_partOf (s : State) (f : Field) (i v p : Nat) (other : f.id / 32 ≠ F.PART_ASSIGN_PORT0.id / 32 := by decide) :
    (s.setFld f i v).partOf p = s.partOf p := fld_setFld_ne s i _ v (assignField_ne p other)

theorem State.setPart_partOf (s : State) (p : Nat) (low : v < 16) : (s.setPart p v).partOf p = v := by
  refine (fld_setFld_self ..).trans (Nat.mod_eq_of_lt ?_)
  have width : (assignField p).width = 4 := by
    unfold assignField
    split <;> rfl
  rw [width]
  exact low

/-! ### Change bits (R128) -/

/-- Change bits that are clear stay clear as what follows the engine's state is shown. -/
theorem State.refresh_noChange (clear : s.fld F.DPE_PORTSTAT_CHANGE p = 0) : (s.refresh p).fld F.DPE_PORTSTAT_CHANGE p = 0 := by
  by_cases assigned : s.partOf p < 4
  · rw [s.refresh_change p assigned, clear]
  · unfold State.refresh
    extract_lets s₁ s₂ s₃ s₄ s₅ s₆
    have kept : Alters 0 [F.DSW_PSTAT_SW, F.DPE_STATE_PART, F.DPE_STATE_LOGPWR, F.DPE_STATE_ISO_CAUSE, F.DPE_STATE_SWCLOSED] s s₅ :=
      .put (.setFld (.put (.setFld (.put (.refl s)))))
    have still : s₅.fld F.DPE_PORTSTAT_CHANGE p = 0 := (kept _ _ (by decide)).trans clear
    have cleared : s₆.fld F.DPE_PORTSTAT_CHANGE p = 0 := by
      unfold s₆
      split
      · exact still
      · exact (fld_setFld_self ..).trans (Nat.zero_mod _)
    split
    · exact (fld_setFld_ne s₆ _ _ _ (by decide)).trans cleared
    · exact (State.fld_put_ne s _ _ _ (by decide)).trans clear

theorem State.setDpe_noChange (d : Dpe) (clear : s.fld F.DPE_PORTSTAT_CHANGE p = 0) :
    (s.setDpe p d).fld F.DPE_PORTSTAT_CHANGE p = 0 := by
  unfold State.setDpe
  split
  · exact State.refresh_noChange clear
  · extract_lets s₁ s₂ s₃
    have written : Alters (2 ^ 9 + 2 ^ 19 + 2 ^ 25) [F.DPE_STATE_PREV, F.DPE_STATE_STATE] s s₂ := .setFld (.setFld (.refl s))
    have traced : Alters (2 ^ 9 + 2 ^ 19 + 2 ^ 25) [F.DPE_STATE_PREV, F.DPE_STATE_STATE] s s₃ :=
      .ite (.via written (State.traceForget_via ..)) written
    have told := (traced.via (State.irq_via s₃ (95 + p))).via (State.notice_via _ 2 (p + 256 * d.code))
    exact State.refresh_noChange ((told _ _ (by decide)).trans clear)

theorem State.enterPoweredOff_noChange (clear : s.fld F.DPE_PORTSTAT_CHANGE p = 0) :
    (s.enterPoweredOff p).fld F.DPE_PORTSTAT_CHANGE p = 0 := by
  have seen : Alters (2 ^ 8) [F.DPE_STATE_SPEED, F.DPE_STATE_DEV] s (s.noDevice p) := .put (.setFld (.refl s))
  have cut := seen.via (State.ttCut_via _ p)
  exact State.setDpe_noChange _ ((cut.via (State.updDpe_via ..) (by decide) _ _ (by decide)).trans clear)

theorem State.enterDisconnected_noChange (clear : s.fld F.DPE_PORTSTAT_CHANGE p = 0) :
    (s.enterDisconnected p).fld F.DPE_PORTSTAT_CHANGE p = 0 := by
  have seen : Alters 0 [F.DPE_STATE_SPEED, F.DPE_STATE_DEV] s (s.noDevice p) := .put (.setFld (.refl s))
  exact State.setDpe_noChange _ ((seen.via (State.updDpe_via ..) (by decide) _ _ (by decide)).trans clear)

theorem State.leaveHold_noChange (clear : s.fld F.DPE_PORTSTAT_CHANGE p = 0) :
    (s.leaveHold p).fld F.DPE_PORTSTAT_CHANGE p = 0 := by
  unfold State.leaveHold
  split
  · exact State.enterDisconnected_noChange clear
  · exact State.enterPoweredOff_noChange clear

/-! ### The hand-over of a port (R128, R131) -/

theorem State.takeBack_kept (none : (s.parts.at k).leftChange.testBit (p - 1) = false) : s.takeBack p k = s :=
  if_neg (by rw [none, Bool.and_false]; exact Bool.false_ne_true)

theorem State.handOver_partOf (s : State) (p : Nat) (low : k < 16) : (s.handOver p k).partOf p = k := by
  rw [State.handOver, (State.takeBack_via ..).partOf, State.setFld_partOf _ _ _ _ _ (by decide), State.setPart_partOf _ _ low]

theorem State.handOver_noChange (none : (s.parts.at k).leftChange.testBit (p - 1) = false) :
    (s.handOver p k).fld F.DPE_PORTSTAT_CHANGE p = 0 := by
  rw [State.handOver, State.takeBack_kept (s := (s.setPart p k).setFld F.DPE_PORTSTAT_CHANGE p 0) none]
  exact (fld_setFld_self ..).trans (Nat.zero_mod _)

/-- The record of another partition stands. -/
theorem State.takeBack_parts_ne (s : State) (p : Nat) {j : Nat} (other : j ≠ k) : (s.takeBack p k).parts.at j = s.parts.at j := by
  unfold State.takeBack
  split
  · dsimp only
    rw [Tbl.at_upd_ne _ _ other]
  · rfl

theorem State.handOver_parts_ne (s : State) (p : Nat) {j : Nat} (other : j ≠ k) : (s.handOver p k).parts.at j = s.parts.at j :=
  State.takeBack_parts_ne _ p other

/-- A port comes with its engine's state. -/
theorem State.handOver_dpeIs (s : State) (p k : Nat) (d : Dpe) : (s.handOver p k).dpeIs p d = s.dpeIs p d := by
  let s₁ := (s.setPart p k).setFld F.DPE_PORTSTAT_CHANGE p 0
  have kept : Alters 0 [F.DPE_PORTSTAT_CHANGE] s₁ (s₁.takeBack p k) :=
    .ite (.records (t := s₁.putBit F.DPE_PORTSTAT_CHANGE p cConnection true) (.putBit (.refl s₁))) (.refl s₁)
  have state : (s.handOver p k).fld F.DPE_STATE_STATE p = s.fld F.DPE_STATE_STATE p := by
    rw [State.handOver, kept _ _ (by decide), fld_setFld_ne _ _ _ _ (by decide)]
    exact fld_setFld_ne s _ _ _ fun same => assignField_ne p (by decide) same.symm
  rw [State.dpeIs, State.dpeIs, state]

theorem State.handOver_dpeIn (s : State) (p k : Nat) (l : List Dpe) : (s.handOver p k).dpeIn p l = s.dpeIn p l :=
  congrArg l.any (funext fun d => s.handOver_dpeIs p k d)

/-! ### Assignment (R130 to R132) -/

theorem State.assignValue_low (s : State) (v : Nat) : s.assignValue v < 16 := by
  unfold State.assignValue
  split <;> omega

/-- The value written, where it names a partition that the part has (R145). -/
theorem State.assignValue_of_lt (low : s.assignValue v < 4) : s.assignValue v = v := by
  unfold State.assignValue at low ⊢
  split
  · rfl
  · next absent => rw [if_neg absent] at low; omega

/-- The disconnect of a port in use stays pending in the partition `k` that it leaves (R128). -/
def State.leftPending (s : State) (k p : Nat) : State :=
  if s.connected p then s.updPart k (fun r => { r with leftChange := withBit r.leftChange (p - 1) true }) else s

theorem State.leftPending_via (s : State) (k p : Nat) : Via (2 ^ 35) s (s.leftPending k p) := by
  unfold State.leftPending
  split
  · exact State.updPart_via ..
  · exact .refl s

theorem State.leftPending_bit (connected : s.connected p = true) :
    ((s.leftPending k p).parts.at k).leftChange.testBit (p - 1) = true := by
  rw [State.leftPending, if_pos connected, State.updPart_self]
  exact testBit_withBit _ _ _

theorem State.leftPending_parts_ne (s : State) (p : Nat) {j : Nat} (other : j ≠ k) :
    (s.leftPending k p).parts.at j = s.parts.at j := by
  unfold State.leftPending
  split
  · rw [State.updPart, Tbl.at_upd_ne _ _ other]
  · rfl

/-- What a port leaves behind in the partition that loses it to partition `v` (R131, R132). -/
def State.departs (s : State) (p v : Nat) : State :=
  if s.partOf p < 4 ∧ v < 4 then (s.leftPending (s.partOf p) p).ttClear p else s

theorem State.departs_parts_ne (s : State) (p v : Nat) {j : Nat} (other : j ≠ s.partOf p) :
    (s.departs p v).parts.at j = s.parts.at j := by
  unfold State.departs
  split
  · rw [(State.ttClear_via ..).same .parts (by decide), State.leftPending_parts_ne _ _ other]
  · rfl

/-- The engine of a port that has come to partition `v` (R148). -/
def State.arrives (s : State) (p v : Nat) : State :=
  if s.dpeIn p [.isolated, .quarantined] then s.refresh p
  else if v = 15 then s.enterPoweredOff p
  else s.leaveHold p

/-- What the engine of a port that comes or goes reaches. -/
def arriveMask : Nat := 9290735849833408

theorem State.arrives_via (s : State) (p v : Nat) : Via arriveMask s (s.arrives p v) := by
  unfold State.arrives
  repeat' split
  · exact .mono (by decide) (State.refresh_via ..)
  · exact State.enterPoweredOff_via ..
  · exact State.leaveHold_via ..

theorem State.arrives_noChange (v : Nat) (clear : s.fld F.DPE_PORTSTAT_CHANGE p = 0) :
    (s.arrives p v).fld F.DPE_PORTSTAT_CHANGE p = 0 := by
  unfold State.arrives
  repeat' split
  · exact State.refresh_noChange clear
  · exact State.enterPoweredOff_noChange clear
  · exact State.leaveHold_noChange clear

theorem State.assignTo_eq (other : s.partOf p ≠ v) : s.assignTo p v = ((s.departs p v).handOver p v).arrives p v :=
  if_neg (Ne.symm other)

theorem State.assignTo_same (s : State) (p : Nat) : s.assignTo p (s.partOf p) = s := if_pos rfl

theorem State.assignTo_partOf (s : State) (p : Nat) (low : v < 16) : (s.assignTo p v).partOf p = v := by
  by_cases same : s.partOf p = v
  · subst same
    rw [s.assignTo_same]
  · rw [State.assignTo_eq same, (State.arrives_via ..).partOf, State.handOver_partOf _ _ low]

theorem State.assignTo_noChange (other : s.partOf p ≠ v) (none : (s.parts.at v).leftChange.testBit (p - 1) = false) :
    (s.assignTo p v).fld F.DPE_PORTSTAT_CHANGE p = 0 := by
  rw [State.assignTo_eq other]
  exact State.arrives_noChange v (State.handOver_noChange (by rwa [s.departs_parts_ne p v (Ne.symm other)]))

/-- A port taken from its partition is Powered-off (R130, R148). -/
theorem State.assignTo_none (other : s.partOf p ≠ 15) (held : s.dpeIn p [.isolated, .quarantined] = false) :
    (s.assignTo p 15).dpeIs p .poweredOff = true := by
  have stays : s.departs p 15 = s := if_neg (by omega)
  rw [State.assignTo_eq other, stays, State.arrives,
    if_neg (by rw [State.handOver_dpeIn, held]; exact Bool.false_ne_true), if_pos rfl]
  exact State.setDpe_dpeIs ..

theorem State.assignTo_leaves (other : s.partOf p ≠ v) (from_ : s.partOf p < 4) (into : v < 4) (connected : s.connected p = true) :
    ((s.assignTo p v).parts.at (s.partOf p)).leftChange.testBit (p - 1) = true := by
  rw [State.assignTo_eq other, (State.arrives_via ..).same .parts (by decide), State.handOver_parts_ne _ _ other, State.departs,
    if_pos ⟨from_, into⟩, (State.ttClear_via ..).same .parts (by decide)]
  exact State.leftPending_bit connected

section
variable (fitted : s.fitted p = true) (idle : s.bit F.PART_MIGBUSY_BUSY 0 (p - 1) = false)
include fitted idle

theorem State.assign_eq (v : Nat) : s.assign p v = s.assignTo p (s.assignValue v) := by
  rw [State.assign, fitted, idle]
  rfl

theorem assignWrite_assigns (v : Nat) :
    Completes (.assignWrite p v) s fun t =>
      t.partOf p = s.assignValue v
        ∧ (s.partOf p ≠ s.assignValue v → (s.parts.at (s.assignValue v)).leftChange.testBit (p - 1) = false →
          t.fld F.DPE_PORTSTAT_CHANGE p = 0)
        ∧ (s.partOf p ≠ 15 → s.assignValue v = 15 → s.dpeIn p [.isolated, .quarantined] = false →
          t.dpeIs p .poweredOff = true)
        ∧ (s.partOf p = s.assignValue v → t = s) := by
  refine ⟨s.assignTo p (s.assignValue v), congrArg Host.Outcome.next (State.assign_eq fitted idle v),
    s.assignTo_partOf p (s.assignValue_low v), State.assignTo_noChange, fun other none held => ?_, fun same => ?_⟩
  · rw [none]
    exact State.assignTo_none other held
  · rw [← same, s.assignTo_same]

theorem hardMove_moves (from_ : s.partOf p < 4) (into : s.assignValue v < 4) (other : s.partOf p ≠ v) :
    Completes (.hardMove p v) s fun t =>
      t.partOf p = v ∧ (s.connected p = true → (t.parts.at (s.partOf p)).leftChange.testBit (p - 1) = true) := by
  have runs : exec (.hardMove p v) s = .next (s.assign p v) := congrArg Host.Outcome.next (if_pos ⟨from_, into, other⟩)
  have value : s.assignValue v = v := State.assignValue_of_lt into
  rw [State.assign_eq fitted idle, value] at runs
  exact ⟨_, runs, s.assignTo_partOf p (by omega), State.assignTo_leaves other from_ (value ▸ into)⟩

end

end Sys2Proof.Machine
end

section
/-! The steps of a migration (R137 to R141): MIGCTL.GO, the boundaries of source and destination, the device's reset, the
timeout and the abort. -/

namespace Sys2Proof.Machine

-- One proof at a time: a default argument `by decide` waits for the text before it, and each proof that waits takes a thread.
set_option Elab.async false

variable {s : State} {k p : Nat}

/-! ### The record of a migration -/

theorem State.updMig_self (s : State) (p : Nat) (f : Migration → Migration) : (s.updMig p f).migs.at p = f (s.migs.at p) :=
  Tbl.at_upd_self ..

/-- The migration of port `p` has ended, and MIGBUSY says so (R138, R141). -/
def State.migIdle (s : State) (p : Nat) : Prop := (s.migs.at p).active = false ∧ s.bit F.PART_MIGBUSY_BUSY 0 (p - 1) = false

/-- The end of a migration reaches neither its record nor PART after these are written. -/
theorem State.migIdle_of_via {m : Nat} {t : State} (idle : s.migIdle p) (d : Via m s t)
    (part : m.testBit (Zone.reg (blockOf F.PART_MIGBUSY_BUSY.id)).code = false := by decide) (record : m.testBit 36 = false := by decide) : t.migIdle p := by
  obtain ⟨inactive, busy⟩ := idle
  exact ⟨by rw [d.same .migs record, inactive], (State.bit_of_fld (d.fld _ _ part) _).trans busy⟩

/-- The record is dropped and MIGBUSY clears. -/
def State.migDropped (s : State) (p : Nat) : State := (s.updMig p (fun _ => default)).putBit F.PART_MIGBUSY_BUSY 0 (p - 1) false

theorem State.migDropped_idle (s : State) (p : Nat) : (s.migDropped p).migIdle p :=
  ⟨congrArg Migration.active (s.updMig_self p fun _ => default), State.bit_putBit_clear _ _ 0 (p - 1)⟩

theorem State.migDone_eq (s : State) (p : Nat) :
    s.migDone p = (((s.migDropped p).incr F.PART_MIGCNT_DONE 0).irq 132).logPort p 1 0 := rfl

theorem State.migDone_idle (s : State) (p : Nat) : (s.migDone p).migIdle p := by
  obtain ⟨inactive, busy⟩ := s.migDropped_idle p
  have counted : ((s.migDropped p).incr F.PART_MIGCNT_DONE 0).migIdle p :=
    ⟨inactive, (State.bit_of_fld (fld_setFld_ne _ 0 0 _ (by decide)) _).trans busy⟩
  rw [State.migDone_eq]
  exact State.migIdle_of_via (State.migIdle_of_via counted (State.irq_via ..)) (State.logPort_via ..)

theorem State.migDone_counts (s : State) (p : Nat) :
    (s.migDone p).fld F.PART_MIGCNT_DONE 0 = (s.fld F.PART_MIGCNT_DONE 0 + 1) % 2 ^ 16 := by
  rw [State.migDone_eq, (State.logPort_via ..).fld _ _ (by decide), (State.irq_via ..).fld _ _ (by decide), State.incr_fld_self]
  exact congrArg (fun n => (n + 1) % 2 ^ 16) (fld_setFld_ne _ 0 0 _ (by decide))

theorem State.migDone_partOf (s : State) (p q : Nat) : (s.migDone p).partOf q = s.partOf q := by
  rw [State.migDone_eq, (State.logPort_via ..).partOf, (State.irq_via ..).partOf]
  exact (State.setFld_partOf _ F.PART_MIGCNT_DONE 0 _ q).trans (State.setFld_partOf _ F.PART_MIGBUSY_BUSY 0 _ q)

/-! ### MIGCTL.GO (R137) -/

theorem maskPorts_single (least : 1 ≤ p) (most : p ≤ 32) : maskPorts (2 ^ (p - 1)) = [p] := by
  interval_cases p <;> decide

theorem exec_migctlGo_single (least : 1 ≤ p) (most : p ≤ 32) (mask : s.fld F.PART_MIGMASK_MASK 0 = 2 ^ (p - 1)) :
    exec .migctlGo s = .next (if s.migRefusal p (s.fld F.PART_MIGCTL_DEST 0) = 0 then
      s.migStart p (s.fld F.PART_MIGCTL_DEST 0) (s.on F.PART_MIGCTL_KEEPALIVE 0) (s.fld F.PART_MIGCTL_TIMEOUT 0)
    else (s.incr F.PART_MIGREFUSE_COUNT 0).migRefused p (s.migRefusal p (s.fld F.PART_MIGCTL_DEST 0))) := by
  refine congrArg Host.Outcome.next ?_
  rw [State.migGo, mask, maskPorts_single least most]
  rfl

theorem migctlGo_accepts (least : 1 ≤ p) (most : p ≤ 32) (mask : s.fld F.PART_MIGMASK_MASK 0 = 2 ^ (p - 1))
    (accepted : s.migRefusal p (s.fld F.PART_MIGCTL_DEST 0) = 0) :
    Completes .migctlGo s fun t =>
      t.bit F.PART_MIGBUSY_BUSY 0 (p - 1) = true
        ∧ t.migs.at p = ⟨true, s.partOf p, s.fld F.PART_MIGCTL_DEST 0, s.on F.PART_MIGCTL_KEEPALIVE 0, false, 0, .none,
          clamp 1 100 (s.fld F.PART_MIGCTL_TIMEOUT 0), 1⟩
        ∧ t.partOf p = s.partOf p := by
  have part : (s.putBit F.PART_MIGBUSY_BUSY 0 (p - 1) true).partOf p = s.partOf p := s.setFld_partOf _ _ _ p
  refine ⟨_, (exec_migctlGo_single least most mask).trans (congrArg _ (if_pos accepted)), ?_, ?_, part⟩
  · exact State.bit_putBit_self s 0 true (show p - 1 < 32 by omega)
  · rw [State.migStart, State.updMig_self]

theorem migctlGo_refuses (least : 1 ≤ p) (most : p ≤ 32) (mask : s.fld F.PART_MIGMASK_MASK 0 = 2 ^ (p - 1))
    (refused : s.migRefusal p (s.fld F.PART_MIGCTL_DEST 0) ≠ 0) :
    Completes .migctlGo s fun t =>
      t.fld F.PART_MIGREFUSE_COUNT 0 = (s.fld F.PART_MIGREFUSE_COUNT 0 + 1) % 2 ^ 16 ∧ t.pends 132 = true
        ∧ t.migs = s.migs := by
  refine ⟨_, (exec_migctlGo_single least most mask).trans (congrArg _ (if_neg refused)), ?_, State.pends_irq_self _ (by decide), ?_⟩
  · rw [State.migRefused, (State.irq_via ..).fld _ _ (by decide), (State.logPort_via ..).fld _ _ (by decide), State.incr_fld_self]
    exact congrArg (fun w => (s.fld F.PART_MIGREFUSE_COUNT 0 + 1) % 2 ^ w) rfl
  · rw [State.migRefused, (State.irq_via ..).same .migs (by decide), (State.logPort_via ..).same .migs (by decide)]
    rfl

/-! ### The boundary of the source (R138 step 2) -/

/-- A boundary at which no request waits changes engines' records alone. -/
theorem State.frameBoundary_settled (none : (s.parts.at k).requests = []) : Settled (s.requestsTaken k) (s.frameBoundary k) := by
  rw [State.frameBoundary, none]
  exact State.each_quarSettles ..

theorem State.frameBoundary_quiet (none : (s.parts.at k).requests = []) : Via (2 ^ 37) (s.requestsTaken k) (s.frameBoundary k) := by
  rw [State.frameBoundary, none]
  exact State.each_via State.quarSettles_via _ _

theorem State.frameBoundary_regs (none : (s.parts.at k).requests = []) : (s.frameBoundary k).regs = s.regs :=
  (State.frameBoundary_settled none).regs

theorem State.frameBoundary_migs (none : (s.parts.at k).requests = []) : (s.frameBoundary k).migs = s.migs :=
  (State.frameBoundary_quiet none).same .migs (by decide)

/-- Whether a device is connected is told by the registers, the migration and the test mode (R146). -/
theorem State.connected_congr {t : State} (regs : t.regs = s.regs) (migs : t.migs = s.migs)
    (mode : (t.dpe.at p).testMode = (s.dpe.at p).testMode) : t.connected p = s.connected p := by
  have fields : ∀ f i, t.fld f i = s.fld f i := fld_of_regs regs
  have engine : t.dpeIs p = s.dpeIs p := funext fun d => by rw [State.dpeIs, State.dpeIs, fields]
  simp only [State.connected, State.wPortStatus, State.partOf, State.portsOn, State.domOn, State.bit, State.midway, State.dpeIn,
    State.on, State.logPwr, State.logPwrIn, State.pwrIs, engine, fields, migs, mode]
  congr!

theorem State.frameBoundary_connected (none : (s.parts.at k).requests = []) : (s.frameBoundary k).connected p = s.connected p :=
  State.connected_congr (State.frameBoundary_regs none) (State.frameBoundary_migs none)
    ((State.frameBoundary_settled none).testMode p)

theorem State.dpeIn_of_regs {t : State} (regs : t.regs = s.regs) (p : Nat) (l : List Dpe) : t.dpeIn p l = s.dpeIn p l :=
  State.dpeIn_of_fld (fld_of_regs regs ..) l

/-- A port in use leaves its partition for the time of its migration (R138). -/
def State.midMove (s : State) (k p : Nat) : State :=
  let keep := (s.migs.at p).wantKeepalive && s.dpeIn p [.enabled, .transmit]
  let s := ((s.leftPending k p).ttClear p).updDpe p (fun r => { r with driving := false, corrupt := 0 })
  ((s.updMig p (fun r => { r with step := 2, keepalive := keep })).setFld F.DPE_PORTSTAT_CHANGE p 0).setDpe p .migrating

theorem State.midMove_record (s : State) (k p : Nat) :
    (s.midMove k p).migs.at p = { s.migs.at p with
      step := 2, keepalive := (s.migs.at p).wantKeepalive && s.dpeIn p [.enabled, .transmit] } := by
  unfold State.midMove
  extract_lets keep s₁
  have before : s₁.migs = s.migs := by
    rw [(State.updDpe_via ..).same .migs (by decide), (State.ttClear_via ..).same .migs (by decide),
      (State.leftPending_via ..).same .migs (by decide)]
  clear_value s₁
  rw [(State.setDpe_via ..).same .migs (by decide), State.setFld_migs, State.updMig_self, before]

theorem State.midMove_noChange (s : State) (k p : Nat) : (s.midMove k p).fld F.DPE_PORTSTAT_CHANGE p = 0 :=
  State.setDpe_noChange _ ((fld_setFld_self ..).trans (Nat.zero_mod _))

theorem State.midMove_left (connected : s.connected p = true) :
    ((s.midMove k p).parts.at k).leftChange.testBit (p - 1) = true := by
  unfold State.midMove
  extract_lets keep s₁
  have before : s₁.parts = (s.leftPending k p).parts := by
    rw [(State.updDpe_via ..).same .parts (by decide), (State.ttClear_via ..).same .parts (by decide)]
  clear_value s₁
  rw [(State.setDpe_via ..).same .parts (by decide)]
  exact (congrArg (fun t : Tbl Partition => (t.at k).leftChange.testBit (p - 1)) before).trans (State.leftPending_bit connected)

section
variable (active : (s.migs.at p).active = true) (first : (s.migs.at p).step = 1)
  (none : (s.parts.at (s.partOf p)).requests = [])
include active first none

theorem migrationSourceBoundary_moves (inUse : s.dpeIn p deviceStates = true) :
    Completes (.migrationSourceBoundary p) s fun t =>
      (t.migs.at p).step = 2
        ∧ (t.migs.at p).keepalive = ((s.migs.at p).wantKeepalive && s.dpeIn p [.enabled, .transmit])
        ∧ t.fld F.DPE_PORTSTAT_CHANGE p = 0 ∧ t.dpeIs p .migrating = true
        ∧ (s.connected p = true → s.partOf p < 4 → (t.parts.at (s.partOf p)).leftChange.testBit (p - 1) = true) := by
  let s₁ := s.frameBoundary (s.partOf p)
  have regs : s₁.regs = s.regs := State.frameBoundary_regs none
  have runs : exec (.migrationSourceBoundary p) s = .next (s₁.midMove (s.partOf p) p) :=
    congrArg Host.Outcome.next ((if_pos (by rw [active, first]; rfl)).trans
      (if_pos (by rw [State.dpeIn_of_regs regs, inUse])))
  have record := s₁.midMove_record (s.partOf p) p
  refine ⟨_, runs, by rw [record], ?_, s₁.midMove_noChange .., State.setDpe_dpeIs .., fun connected _ => State.midMove_left ?_⟩
  · rw [record, State.dpeIn_of_regs regs, State.frameBoundary_migs none]
  · rw [State.frameBoundary_connected none, connected]

theorem migrationSourceBoundary_rests (atRest : s.dpeIn p [.poweredOff, .disconnected, .isolated] = true) :
    Completes (.migrationSourceBoundary p) s fun t =>
      (t.migs.at p).step = 2 ∧ t.fld F.DPE_PORTSTAT_CHANGE p = 0
        ∧ t.fld F.DPE_STATE_STATE p = s.fld F.DPE_STATE_STATE p := by
  let s₁ := s.frameBoundary (s.partOf p)
  have regs : s₁.regs = s.regs := State.frameBoundary_regs none
  have noDevice : s₁.dpeIn p deviceStates = false := by
    rw [State.dpeIn_of_regs regs]
    simp only [State.dpeIn, State.dpeIs, List.any_cons, List.any_nil, Bool.or_eq_true, decide_eq_true_eq, Bool.or_false] at atRest
    obtain state | state | state := atRest <;> simp [State.dpeIn, State.dpeIs, deviceStates, Dpe.code, state]
  let s₂ := (s₁.updMig p (fun r => { r with step := 2 })).setFld F.DPE_PORTSTAT_CHANGE p 0
  have runs : exec (.migrationSourceBoundary p) s = .next (s₂.refresh p) :=
    congrArg Host.Outcome.next ((if_pos (by rw [active, first]; rfl)).trans
      (if_neg (by rw [noDevice]; exact Bool.false_ne_true)))
  refine ⟨_, runs, ?_, State.refresh_noChange ((fld_setFld_self ..).trans (Nat.zero_mod _)), ?_⟩
  · rw [(State.refresh_via ..).same .migs (by decide), State.setFld_migs, State.updMig_self]
  · rw [s₂.refresh_keepsEngine p _ _ (by decide)]
    exact (fld_setFld_ne _ p p 0 (by decide)).trans (fld_of_regs regs ..)

end

end Sys2Proof.Machine
end

section
/-! The later steps of a migration (R138 to R141): the boundary of the destination, the keep-alive, the device's reset, the
timeout and the abort. -/

namespace Sys2Proof.Machine

-- One proof at a time: a default argument `by decide` waits for the text before it, and each proof that waits takes a thread.
set_option Elab.async false

variable {s : State} {k p : Nat}

/-! ### The boundary of the destination (R138 steps 3 and 4) -/

/-- Port `p` has come to partition `k`, whose host is to reset its device (R138 step 3). -/
def State.arrived (s : State) (k p : Nat) : State :=
  ((s.frameBoundary k).handOver p k).updMig p (fun r => { r with step := 4 })

/-- A port that its new host cannot reset ends its migration where it stands (R138 step 3, R148). -/
def State.arrivedIdle (s : State) (p : Nat) : State :=
  if s.dpeIn p [.isolated, .quarantined, .test] then s.refresh p
  else if s.live p && s.isoCause p && s.dpeIs p .migrating then s.setDpe p .isolated
  else if s.dpeIs p .disconnected && s.logPwr p then s.refresh p
  else s.leaveHold p

theorem State.arrivedIdle_via (s : State) (p : Nat) : Via arriveMask s (s.arrivedIdle p) := by
  unfold State.arrivedIdle
  repeat' split
  · exact .mono (by decide) (State.refresh_via ..)
  · exact .mono (by decide) (State.setDpe_via ..)
  · exact .mono (by decide) (State.refresh_via ..)
  · exact State.leaveHold_via ..

/-- The port is to be reset by its new host: it is live and powered, holds a device, and nothing isolates it (R138). -/
def State.resettable (s : State) (p : Nat) : Bool :=
  s.dpeIs p .migrating && s.live p && s.logPwr p && s.on F.DPE_STATE_DEV p && !s.isoCause p

theorem exec_migrationDestBoundary (active : (s.migs.at p).active = true) (second : (s.migs.at p).step = 2) :
    exec (.migrationDestBoundary p) s = .next (if (s.arrived (s.migs.at p).dest p).resettable p = true then
      ((s.arrived (s.migs.at p).dest p).change p cConnection).refresh p
    else (((s.arrived (s.migs.at p).dest p).updMig p (fun r => { r with keepalive := false })).arrivedIdle p).migDone p) :=
  congrArg Host.Outcome.next (if_pos (by rw [active, second]; rfl))

/-- The hand-over of a port writes PART_ASSIGN and its change bits alone. -/
theorem State.handOver_fld (s : State) (p k : Nat) {f : Field} (i : Nat)
    (assign : f.id / 32 ≠ F.PART_ASSIGN_PORT0.id / 32 := by decide) (change : f.id ≠ F.DPE_PORTSTAT_CHANGE.id := by decide) :
    (s.handOver p k).fld f i = s.fld f i := by
  let s₁ := (s.setPart p k).setFld F.DPE_PORTSTAT_CHANGE p 0
  have back : (s₁.takeBack p k).fld f i = s₁.fld f i := by
    unfold State.takeBack
    split
    · exact fld_setFld_ne s₁ _ _ _ change
    · rfl
  rw [State.handOver, back, fld_setFld_ne _ _ _ _ change]
  exact fld_setFld_ne s _ _ _ fun same => assignField_ne p (Ne.symm (fun e => assign e.symm)) same.symm

theorem State.handOver_migs (s : State) (p k : Nat) : (s.handOver p k).migs = s.migs := by
  rw [State.handOver, (State.takeBack_via ..).same .migs (by decide)]
  rfl

section
variable (none : (s.parts.at k).requests = [])
include none

theorem State.arrived_fld (p : Nat) {f : Field} (i : Nat) (assign : f.id / 32 ≠ F.PART_ASSIGN_PORT0.id / 32 := by decide)
    (change : f.id ≠ F.DPE_PORTSTAT_CHANGE.id := by decide) : (s.arrived k p).fld f i = s.fld f i :=
  (State.handOver_fld (s.frameBoundary k) p k i assign change).trans (fld_of_regs (State.frameBoundary_regs none) f i)

theorem State.arrived_dpeIs (p : Nat) (d : Dpe) : (s.arrived k p).dpeIs p d = s.dpeIs p d := by
  rw [State.dpeIs, State.arrived_fld none p p]
  rfl

theorem State.arrived_record (p : Nat) : (s.arrived k p).migs.at p = { s.migs.at p with step := 4 } := by
  rw [State.arrived, State.updMig_self, State.handOver_migs, State.frameBoundary_migs none]

end

theorem State.arrived_partOf (s : State) (p : Nat) (low : k < 4) : (s.arrived k p).partOf p = k :=
  State.handOver_partOf _ p (by omega)

section
variable (active : (s.migs.at p).active = true) (second : (s.migs.at p).step = 2) (low : (s.migs.at p).dest < 4)
  (none : (s.parts.at (s.migs.at p).dest).requests = [])
include active second low none

theorem migrationDestBoundary_arrives (migrating : s.dpeIs p .migrating = true) (live : s.live p = true)
    (device : s.on F.DPE_STATE_DEV p = true) (free : s.isoCause p = false)
    (power : s.bit F.PART_HOSTPWR_PWR (s.migs.at p).dest (p - 1) = true) :
    Completes (.migrationDestBoundary p) s fun t =>
      t.partOf p = (s.migs.at p).dest ∧ (t.migs.at p).step = 4 ∧ t.dpeIs p .migrating = true
        ∧ t.bit F.DPE_PORTSTAT_CHANGE p cConnection = true := by
  let s₁ := s.arrived (s.migs.at p).dest p
  have part : s₁.partOf p = (s.migs.at p).dest := s.arrived_partOf p low
  have still : s₁.dpeIs p .migrating = true := (State.arrived_dpeIs none p _).trans migrating
  have resettable : s₁.resettable p = true := by
    have dies : s₁.dies = s.dies := State.arrived_fld none p 0
    have on : s₁.domOn (Dom.ports (currant p)) = s.domOn (Dom.ports (currant p)) :=
      State.bit_of_fld (State.arrived_fld none p 0) _
    have lives : s₁.live p = s.live p := by
      simp only [State.live, State.fitted, State.currantFitted, State.portsOn, dies, on]
    have powered : s₁.logPwr p = true := by
      rw [State.logPwr, State.logPwrIn, part, State.bit_of_fld (State.arrived_fld none p _), power, Bool.and_true]
      exact decide_eq_true low
    have seen : s₁.on F.DPE_STATE_DEV p = true := (State.on_of_fld (State.arrived_fld none p p)).trans device
    have unbound : s₁.isoCause p = s.isoCause p :=
      congrArg₂ or (State.on_of_fld (State.arrived_fld none p p)) (State.on_of_fld (State.arrived_fld none p p))
    rw [State.resettable, still, lives, live, powered, seen, unbound, free]
    rfl
  have shown : s₁.change p cConnection = s₁.putBit F.DPE_PORTSTAT_CHANGE p cConnection true := if_pos (by rwa [part])
  refine ⟨_, (exec_migrationDestBoundary active second).trans (congrArg _ (if_pos resettable)), ?_, ?_, ?_, ?_⟩
  · rw [(State.refresh_via ..).partOf, shown]
    exact (s₁.setFld_partOf _ p _ p).trans part
  · rw [(State.refresh_via ..).same .migs (by decide), shown]
    exact congrArg Migration.step (State.arrived_record none p)
  · rw [State.dpeIs, State.refresh_keepsEngine _ p _ _ (by decide), shown, State.putBit, fld_setFld_ne _ _ _ _ (by decide)]
    exact still
  · have assigned : (s₁.putBit F.DPE_PORTSTAT_CHANGE p cConnection true).partOf p < 4 := by
      rw [State.putBit, s₁.setFld_partOf _ _ _ _ (by decide), part]
      exact low
    rw [shown, State.bit_of_fld (State.refresh_change _ p assigned)]
    exact State.bit_putBit_self s₁ p true (by decide)

theorem migrationDestBoundary_ends (other : s.dpeIs p .migrating = false) :
    Completes (.migrationDestBoundary p) s fun t =>
      t.partOf p = (s.migs.at p).dest ∧ (t.migs.at p).active = false ∧ t.bit F.PART_MIGBUSY_BUSY 0 (p - 1) = false
        ∧ t.fld F.PART_MIGCNT_DONE 0 = (s.fld F.PART_MIGCNT_DONE 0 + 1) % 2 ^ 16 := by
  let s₁ := s.arrived (s.migs.at p).dest p
  let s₂ := s₁.updMig p (fun r => { r with keepalive := false })
  have still : s₁.dpeIs p .migrating = false := (State.arrived_dpeIs none p _).trans other
  have held : ¬ s₁.resettable p = true := by
    rw [State.resettable, still, Bool.false_and, Bool.false_and, Bool.false_and, Bool.false_and]
    exact Bool.false_ne_true
  have part : (s₂.arrivedIdle p).partOf p = (s.migs.at p).dest :=
    ((State.arrivedIdle_via ..).partOf p).trans (s.arrived_partOf p low)
  have count : (s₂.arrivedIdle p).fld F.PART_MIGCNT_DONE 0 = s.fld F.PART_MIGCNT_DONE 0 :=
    ((State.arrivedIdle_via ..).fld _ _ (by decide)).trans (State.arrived_fld none p 0)
  obtain ⟨inactive, busy⟩ := (s₂.arrivedIdle p).migDone_idle p
  refine ⟨_, (exec_migrationDestBoundary active second).trans (congrArg _ (if_neg held)), ?_, inactive, busy, ?_⟩
  · rw [State.migDone_partOf]
    exact part
  · rw [State.migDone_counts]
    exact congrArg (fun n => (n + 1) % 2 ^ 16) count

end

/-! ### While the device waits for its reset (R138 steps 5 and 6, R139) -/

section
variable (active : (s.migs.at p).active = true)
include active

theorem keepaliveSof_sends (alive : (s.migs.at p).keepalive = true) :
    Completes (.keepaliveSof p) s fun t => (t.migs.at p).sent = (s.migs.at p).sent + 1 ∧ s.OnlyIn [.migs] t := by
  refine ⟨_, congrArg Host.Outcome.next (if_pos (by rw [active, alive]; rfl)), ?_, (State.updMig_via ..).onlyIn _ (by decide)⟩
  rw [State.updMig_self]

section
variable (fourth : (s.migs.at p).step = 4)
include fourth

theorem migrationDestReset_resets (migrating : s.dpeIs p .migrating = true) :
    Completes (.migrationDestReset p) s fun t =>
      (t.migs.at p).step = 5 ∧ (t.migs.at p).keepalive = false ∧ t.dpeIs p .resetting = true := by
  let s₁ := s.updMig p (fun r => { r with step := 5, keepalive := false })
  have waiting : ((s.migs.at p).active && decide ((s.migs.at p).step = 4)) = true := by rw [active, fourth]; rfl
  have resets : s.portReset p = s₁.startReset p := by
    unfold State.portReset
    extract_lets waits s₂
    rw [if_pos (by rw [show waits = true from waiting, migrating]; simp)]
    exact congrArg (State.startReset · p) (if_pos waiting)
  have record : (s₁.startReset p).migs.at p = { s.migs.at p with step := 5, keepalive := false } := by
    rw [(State.startReset_via ..).same .migs (by decide), State.updMig_self]
  refine ⟨_, congrArg Host.Outcome.next ((if_pos waiting).trans resets), ?_, ?_, State.setDpe_dpeIs ..⟩
  · rw [record]
  · rw [record]

theorem migrationTimeout_ends :
    Completes (.migrationTimeout p) s fun t =>
      (t.migs.at p).active = false ∧ t.bit F.PART_MIGBUSY_BUSY 0 (p - 1) = false
        ∧ t.fld F.PART_MIGCNT_DONE 0 = (s.fld F.PART_MIGCNT_DONE 0 + 1) % 2 ^ 16
        ∧ (s.dpeIs p .migrating = true → t.dpeIs p .disabled = true) := by
  let s₁ := if s.dpeIs p .migrating then s.setDpe p .disabled else s
  obtain ⟨inactive, busy⟩ := s₁.migDone_idle p
  have count : s₁.fld F.PART_MIGCNT_DONE 0 = s.fld F.PART_MIGCNT_DONE 0 := by
    unfold s₁
    split
    · exact (State.setDpe_via ..).fld _ _ (by decide)
    · rfl
  refine ⟨_, congrArg Host.Outcome.next (if_pos (by rw [active, fourth]; rfl)), inactive, busy, ?_, fun migrating => ?_⟩
  · exact (s₁.migDone_counts p).trans (congrArg (fun n => (n + 1) % 2 ^ 16) count)
  · have disabled : s₁.dpeIs p .disabled = true := by
      rw [show s₁ = s.setDpe p .disabled from if_pos migrating]
      exact State.setDpe_dpeIs ..
    exact (congrArg (decide <| · = _) ((State.migDone_via ..).fld _ _ (by decide))).trans disabled

end

/-! ### The abort (R141) -/

/-- The port is its source's own again where it had left it (R141). -/
def State.backToSource (s : State) (p : Nat) : State :=
  if (s.migs.at p).step = 2 then s.takeBack p (s.partOf p) else s

omit active in
theorem State.backToSource_via (s : State) (p : Nat) : Via (2 ^ 6 + 2 ^ 35) s (s.backToSource p) := by
  unfold State.backToSource
  split
  · exact State.takeBack_via ..
  · exact .refl s

theorem State.migAbort_eq (cause : Nat) :
    s.migAbort p cause = ((((s.backToSource p).migDropped p).incr F.PART_MIGCNT_ABORTED 0).irq 132).logPort p 2
      (Config.caseCode 141 cause) := if_pos active

/-- The port goes where its state sends it once its migration is aborted (R141). -/
def State.givenBack (s : State) (p : Nat) : State := if s.dpeIs p .migrating then s.leaveHold p else s.refresh p

omit active in
theorem State.givenBack_via (s : State) (p : Nat) : Via arriveMask s (s.givenBack p) := by
  unfold State.givenBack
  split
  · exact State.leaveHold_via ..
  · exact .mono (by decide) (State.refresh_via ..)

omit active in
theorem State.setDpe_keepsPending (s : State) (p : Nat) (d : Dpe) : KeepsPending s (s.setDpe p d) := by
  unfold State.setDpe
  split
  · exact .via (.refl s) (State.refresh_via ..)
  · extract_lets s₁ s₂ s₃
    have written : KeepsPending s s₂ := .setFld (.setFld (.refl s))
    have traced : KeepsPending s s₃ := .ite (.via written (State.traceForget_via ..)) written
    exact .via (.via (.irq traced _) (State.notice_via ..)) (State.refresh_via ..)

omit active in
theorem State.leaveHold_keepsPending (s : State) (p : Nat) : KeepsPending s (s.leaveHold p) := by
  have unseen : KeepsPending s (s.noDevice p) := .put (.setFld (.refl s))
  refine .ite ?_ ?_
  · exact (unseen.via (State.updDpe_via ..)).trans (State.setDpe_keepsPending _ p _)
  · exact ((unseen.via (State.ttCut_via ..)).via (State.updDpe_via ..)).trans (State.setDpe_keepsPending _ p _)

omit active in
theorem State.givenBack_keepsPending (s : State) (p : Nat) : KeepsPending s (s.givenBack p) :=
  .ite (s.leaveHold_keepsPending p) (.via (.refl s) (State.refresh_via ..))

theorem State.migAbort_ends (cause : Nat) :
    (s.migAbort p cause).migIdle p
      ∧ (s.migAbort p cause).fld F.PART_MIGCNT_ABORTED 0 = (s.fld F.PART_MIGCNT_ABORTED 0 + 1) % 2 ^ 16
      ∧ (s.migAbort p cause).partOf p = s.partOf p ∧ (s.migAbort p cause).pends 132 = true := by
  let s₁ := (s.backToSource p).migDropped p
  have kept : Alters (2 ^ 6) [F.PART_MIGBUSY_BUSY] s s₁ :=
    .putBit (.via (.via (.refl s) (State.backToSource_via ..)) (State.updMig_via ..))
  have count : s₁.fld F.PART_MIGCNT_ABORTED 0 = s.fld F.PART_MIGCNT_ABORTED 0 := kept _ _ (by decide)
  have part : s₁.partOf p = s.partOf p := (State.setFld_partOf ..).trans ((State.backToSource_via ..).partOf p)
  obtain ⟨inactive, busy⟩ := (s.backToSource p).migDropped_idle p
  have counted : (s₁.incr F.PART_MIGCNT_ABORTED 0).migIdle p :=
    ⟨inactive, (State.bit_of_fld (fld_setFld_ne _ 0 0 _ (by decide)) _).trans busy⟩
  rw [State.migAbort_eq active]
  refine ⟨State.migIdle_of_via (State.migIdle_of_via counted (State.irq_via ..)) (State.logPort_via ..), ?_, ?_, ?_⟩
  · rw [(State.logPort_via ..).fld _ _ (by decide), (State.irq_via ..).fld _ _ (by decide), State.incr_fld_self]
    exact congrArg (fun n => (n + 1) % 2 ^ 16) count
  · rw [(State.logPort_via ..).partOf, (State.irq_via ..).partOf]
    exact (State.setFld_partOf ..).trans part
  · exact (State.bit_of_fld ((State.logPort_via ..).fld F.IC_PEND_PEND _ (by decide)) _).trans
      (State.pends_irq_self _ (by decide))

theorem migrationAbort_aborts {cause : Nat}
    (stands : (cause = 1 ∧ (s.migs.at p).step < 3 ∧ s.on F.PART_PSTAT_ATTACHED (s.migs.at p).dest = false)
      ∨ (cause = 2 ∧ s.dpeIs p .quarantined = true) ∨ (cause = 3 ∧ s.pwrIs p .latched = true)) :
    Completes (.migrationAbort p cause) s fun t =>
      (t.migs.at p).active = false ∧ t.bit F.PART_MIGBUSY_BUSY 0 (p - 1) = false
        ∧ t.fld F.PART_MIGCNT_ABORTED 0 = (s.fld F.PART_MIGCNT_ABORTED 0 + 1) % 2 ^ 16 ∧ t.partOf p = s.partOf p
        ∧ t.pends 132 = true := by
  have runs : exec (.migrationAbort p cause) s = .next ((s.migAbort p cause).givenBack p) := by
    refine congrArg Host.Outcome.next (if_pos ?_)
    obtain ⟨rfl, early, gone⟩ | ⟨rfl, quarantined⟩ | ⟨rfl, latched⟩ := stands
    · simp [active, early, gone]
    · simp [active, quarantined]
    · simp [active, latched]
  obtain ⟨idle, count, part, pending⟩ := State.migAbort_ends active cause
  have back : Via arriveMask (s.migAbort p cause) ((s.migAbort p cause).givenBack p) := State.givenBack_via ..
  obtain ⟨inactive, busy⟩ := State.migIdle_of_via idle back
  exact ⟨_, runs, inactive, busy, (back.fld _ _ (by decide)).trans count, (back.partOf p).trans part,
    State.givenBack_keepsPending _ p 132 pending⟩

end

/-- Settles O24: a port that changes its partition is handed over, and each step of a migration writes the record that the next
one reads. -/
theorem assignmentAndMigrationCommands : Obligations.AssignmentAndMigrationCommands :=
  ⟨fun _ _ v fitted idle => assignWrite_assigns fitted idle v, fun _ _ _ => hardMove_moves, fun _ _ => migctlGo_accepts,
    fun _ _ => migctlGo_refuses, fun _ _ => migrationSourceBoundary_moves, fun _ _ => migrationSourceBoundary_rests,
    fun _ _ => migrationDestBoundary_arrives, fun _ _ => migrationDestBoundary_ends, fun _ _ => keepaliveSof_sends,
    fun _ _ => migrationDestReset_resets, fun _ _ => migrationTimeout_ends, fun _ _ _ active stands => migrationAbort_aborts active stands⟩

end Sys2Proof.Machine
end

section
/-! Mailbox commands (R430, R439, R441): a command of one form, what stands through its end, and a mask command whose ports are
judged one by one. -/

namespace Sys2Proof.Machine

-- One proof at a time: a default argument `by decide` waits for the text before it, and each proof that waits takes a thread.
set_option Elab.async false

/-! ### A command of one form -/

section
variable {s s₁ : State} {ch code : Nat} {f : Frame} {form : Frame → Bool} {run : State → Frame → State × Option Reply} {r : Reply}
  (runs : (s.mbx.at ch).running = some f) (coded : f.code = code) (formed : form f = true)
include runs coded formed

theorem State.command_eq : s.command ch code form run
    = match (run s f).2 with
      | some r => (run s f).1.finish ch f r
      | none => (run s f).1 := by
  rw [State.command, runs]
  exact if_pos ⟨coded, formed⟩

theorem State.command_ends (answers : run s f = (s₁, some r)) : s.command ch code form run = s₁.finish ch f r := by
  rw [State.command_eq runs coded formed, answers]

theorem State.command_goesOn (goes : run s f = (s₁, none)) : s.command ch code form run = s₁ := by
  rw [State.command_eq runs coded formed, goes]

end

/-! ### What stands through the end of a command -/

/-- What a response reaches on its channel (R430). -/
def placeMask : Nat := 2 ^ 9 + 2 ^ 19 + 2 ^ 25 + 2 ^ 26 + 2 ^ 27 + 2 ^ 40 + 2 ^ 49 + 2 ^ 54

theorem State.chordPlace_within (s : State) (f : Frame) : Via placeMask s (s.chordPlace f) := by
  unfold State.chordPlace
  split
  · exact .refl s
  · next i rest _ =>
    extract_lets s₁
    have taken : Via placeMask s s₁ := .mono (by decide) (State.updChord_via ..)
    split
    · exact .then (State.chordSend_via ..) (by decide) taken
    · exact .then (State.updMerge_via ..) (by decide) taken

theorem State.responded_within (s : State) (ch : Nat) (f : Frame) : Via placeMask s (s.responded ch f) := by
  unfold State.responded
  repeat' split
  · exact .mono (by decide) (State.ep2Place_via ..)
  · exact s.chordPlace_within f
  · exact .mono (by decide) (State.localPlace_via ..)
  · exact .then (State.chFill_via ..) (by decide) (.mono (by decide) (State.updCh_via ..))

/-- A response reaches its channel, and of the port's records nothing. -/
theorem State.place_within (s : State) (ch : Nat) (f : Frame) : Via placeMask s (s.place ch f) := by
  have counted : Via placeMask s (s.deniedCounted ch f) := by
    unfold State.deniedCounted
    split
    · exact .setFld _ _ _ (by decide) (.refl s)
    · exact .refl s
  rw [State.place_eq]
  exact .then (State.chRefresh_via ..) (by decide) (counted.trans (State.responded_within _ ch f))

section
variable {s : State} (idle : s.NoneWaits) (ch : Nat) (f : Frame) (r : Reply)
include idle

/-- Where no timed action waits, the end of a command reaches its channel alone. -/
theorem State.finish_within : Via placeMask s (s.finish ch f r) := by
  rw [State.finish_of_noneWaits idle]
  exact .trans (.mono (by decide) (State.updCh_via ..)) (State.place_within _ ch _)

theorem State.finish_pd : (s.finish ch f r).pd = s.pd := (State.finish_within idle ch f r).same .pd (by decide)

end

/-! ### A mask command (R441) -/

/-- The status of a port that takes the action of a mask command, or does not. -/
def portStatus (took : Nat → Bool) (p : Nat) : Nat := if took p then Status.ok else Status.state

section
variable {took : Nat → Bool} {act : State → Nat → Nat × State} {q : State → Prop} {l : List Nat}
  (keeps : ∀ s, ∀ p ∈ l, q s → q (act s p).2)
include keeps

theorem State.eachPort_invariant {s : State} (start : q s) : q (s.eachPort act l).1 := by
  induction l generalizing s with
  | nil => exact start
  | cons p l ih => exact ih (fun s p later => keeps s p (.tail _ later)) (keeps s p (.head _) start)

/-- What the action on one port of a mask brings about stands after the last, where no action undoes it. -/
theorem State.eachPort_establishes {after : State → Prop} {p : Nat} (acts : ∀ s, q s → after (act s p).2)
    (stands : ∀ s, ∀ n ∈ l, q s → after s → after (act s n).2) (member : p ∈ l) {s : State} (start : q s) :
    after (s.eachPort act l).1 := by
  induction l generalizing s with
  | nil => cases member
  | cons n l ih =>
    have later : ∀ s, ∀ p ∈ l, q s → q (act s p).2 := fun s p tail => keeps s p (.tail _ tail)
    by_cases here : n = p
    · subst here
      have both : ∀ s, ∀ m ∈ l, q s ∧ after s → q (act s m).2 ∧ after (act s m).2 := fun s m tail held =>
        ⟨later s m tail held.1, stands s m (.tail _ tail) held.1 held.2⟩
      exact (State.eachPort_invariant both ⟨keeps s n (.head _) start, acts s start⟩).2
    · exact ih later (fun s n tail => stands s n (.tail _ tail)) (List.mem_of_ne_of_mem (Ne.symm here) member)
        (keeps s n (.head _) start)

variable (judges : ∀ s, ∀ p ∈ l, q s → (act s p).1 = portStatus took p)
include judges

theorem State.eachPort_statuses {s : State} (start : q s) : (s.eachPort act l).2 = l.map fun p => (p, portStatus took p) := by
  induction l generalizing s with
  | nil => rfl
  | cons p l ih =>
    rw [List.map_cons, ← judges s p (.head _) start, ← ih (fun s p later => keeps s p (.tail _ later))
      (fun s p later => judges s p (.tail _ later)) (keeps s p (.head _) start)]
    rfl

end

theorem look_map (took : Nat → Bool) (d p : Nat) (l : List Nat) :
    look d p (l.map fun p => (p, portStatus took p)) = if l.contains p then portStatus took p else d := by
  induction l with
  | nil => rfl
  | cons q l ih =>
    by_cases same : q = p
    · subst same
      simp [look]
    · simp [look, ih, same, Ne.symm same]

/-- The status of the command: OK where a port took the action, else that of the lowest port (R441). -/
theorem maskStatus_eq (took : Nat → Bool) {l : List Nat} (some_ : l ≠ []) :
    (if (l.map fun p => (p, portStatus took p)).any (fun e => decide (e.2 = 0)) then 0
      else ((l.map fun p => (p, portStatus took p)).headD (0, 0)).2) = if l.any took then Status.ok else Status.state := by
  have ok : ∀ p, decide (portStatus took p = 0) = took p := by
    intro p
    unfold portStatus
    cases took p <;> rfl
  have all : (l.map fun p => (p, portStatus took p)).any (fun e => decide (e.2 = 0)) = l.any took := by
    rw [List.any_map]
    exact congrArg l.any (funext ok)
  rw [all]
  by_cases taken : l.any took = true
  · rw [if_pos taken, if_pos taken]
    rfl
  · obtain ⟨p, rest, rfl⟩ := List.exists_cons_of_ne_nil some_
    have first : took p = false := by
      rw [List.any_cons, Bool.or_eq_true, not_or] at taken
      exact Bool.eq_false_of_not_eq_true taken.1
    rw [if_neg taken, if_neg taken]
    simp [portStatus, first]

theorem maskPorts_ne_nil {s : State} {ch m : Nat} (passes : s.maskFault ch m = 0) : maskPorts m ≠ [] := by
  intro none
  simp [State.maskFault, none, Status.badArg] at passes

/-- A mask command that passes answers each port as it was judged (R441). -/
theorem State.maskCommand_eq {s : State} {ch m : Nat} {f : Frame} {act : State → Nat → Nat × State} {took : Nat → Bool}
    {q : State → Prop} (named : word32 f.payload 0 = m) (passes : s.maskFault ch m = 0)
    (keeps : ∀ s, ∀ p ∈ maskPorts m, q s → q (whenReady act s p).2)
    (judges : ∀ s, ∀ p ∈ maskPorts m, q s → (whenReady act s p).1 = portStatus took p) (start : q s) :
    s.maskCommand ch f act
      = ((s.eachPort (whenReady act) (maskPorts m)).1, some ⟨(maskAnswer m took).1, 0, (maskAnswer m took).2⟩) := by
  have statuses := State.eachPort_statuses keeps judges start
  unfold State.maskCommand State.maskJudge
  extract_lets m' bad x st
  have same : m' = m := named
  have none : ¬ bad ≠ 0 := by
    rw [not_not, show bad = s.maskFault ch m' from rfl, same, passes]
  have ports : x = s.eachPort (whenReady act) (maskPorts m) := congrArg (fun m => s.eachPort (whenReady act) (maskPorts m)) same
  have status : st = (maskAnswer m took).1 := by
    unfold st
    rw [ports, statuses, maskStatus_eq took (maskPorts_ne_nil passes)]
    rfl
  have array : resultArray x.2 = (maskAnswer m took).2 := by
    rw [ports, statuses]
    exact congrArg (List.flatMap · allPorts) (funext fun p => congrArg (le 2) (look_map took 0xFFFF p (maskPorts m)))
  rw [if_neg none, status, array, ports]

end Sys2Proof.Machine
end

section
/-! PD commands that read or are refused (R441, R442, R452, R453), and how a PD_STATUS with QUERY and a swap end. -/

namespace Sys2Proof.Machine

-- One proof at a time: a default argument `by decide` waits for the text before it, and each proof that waits takes a thread.
set_option Elab.async false

variable {s : State} {ch p : Nat} {f : Frame}

/-! ### Answers of a command -/

section
variable {c : Instr} {code : Nat} {form : Frame → Bool} {run : State → Frame → State × Option Reply}
  (exec_eq : exec c s = .next (s.command ch code form run)) (runs : (s.mbx.at ch).running = some f) (coded : f.code = code)
  (formed : form f = true)
include exec_eq runs coded formed

/-- A command whose effect leaves the unit's address is answered as its reply says. -/
theorem completes_replies {s₁ : State} {r : Reply} (answers : run s f = (s₁, some r))
    (address : s₁.fld F.CHORD_STAT_ADDR 0 = s.fld F.CHORD_STAT_ADDR 0) :
    Completes c s fun t => s.Answered t ch f r.status r.retry r.payload ∧ t = s₁.finish ch f r :=
  ⟨_, exec_eq.trans (congrArg _ (State.command_ends runs coded formed answers)), State.finish_answered ch f r address, rfl⟩

theorem completes_gives {l : List Nat} (gives : run s f = s.give l) :
    Completes c s fun t => s.Answered t ch f 0 0 l := by
  obtain ⟨t, runs, answered, -⟩ := completes_replies exec_eq runs coded formed gives rfl
  exact ⟨t, runs, answered⟩

/-- A refusal changes no record of ports, of cores and of profiles. -/
theorem completes_refused {status : Nat} (refuses : run s f = s.refuse status) :
    Completes c s fun t => s.Answered t ch f status 0 [] ∧ (s.NoneWaits → t.pd = s.pd) ∧ t.cores = s.cores
      ∧ t.profiles = s.profiles := by
  obtain ⟨t, runs, answered, rfl⟩ := completes_replies exec_eq runs coded formed refuses rfl
  exact ⟨_, runs, answered, fun idle => State.finish_pd idle .., (State.finish_via ..).same .cores (by decide),
    (State.finish_via ..).same .profiles (by decide)⟩

theorem completes_refuses {status : Nat} (refuses : run s f = s.refuse status) :
    Completes c s fun t => s.Answered t ch f status 0 [] := by
  obtain ⟨t, runs, answered, -⟩ := completes_refused exec_eq runs coded formed refuses
  exact ⟨t, runs, answered⟩

theorem completes_waits (waits : run s f = (s, none)) : Completes c s fun t => t = s :=
  ⟨s, exec_eq.trans (congrArg _ (State.command_goesOn runs coded formed waits)), rfl⟩

end

/-- What PD_STATUS with QUERY does, from its start to its end (R452). -/
def pdQueryRun (ch : Nat) (s : State) (f : Frame) : State × Option Reply :=
  if (s.mbx.at ch).stage = 0 then s.querySend ch f
  else
    let p := (maskPorts (word32 f.payload 0)).headD 0
    if s.rightsLost ch p ≠ 0 then (s.updPd p (fun r => { r with query := 0 })).refuse (s.rightsLost ch p) else s.queryEnd p

theorem exec_pdStatusQuery : exec (.pdStatusQuery ch) s = .next (s.command ch 0x0301 (opt0 true) (pdQueryRun ch)) := rfl

theorem opt0_of_testBit {b : Bool} (opt : f.opt.testBit 0 = b) : opt0 b f = true := beq_iff_eq.mpr opt

section
variable (runs : (s.mbx.at ch).running = some f)
include runs

/-! ### PD_STATUS -/

section
variable (coded : f.code = 0x0301)
include coded

section
variable {m : Nat} (plain : f.opt.testBit 0 = false) (named : word32 f.payload 0 = m)
include plain named

theorem pdStatus_answers (passes : s.maskFault ch m = 0) :
    Completes (.pdStatus ch) s fun t => s.Answered t ch f 0 0 ((maskPorts m).flatMap s.pdRecord) := by
  subst named
  let words := (maskPorts (word32 f.payload 0)).flatMap pdWords
  have answers : s.maskRead ch f pdWords = (s.readsCounted words, some (Reply.give (s.regs4 words))) :=
    if_neg (not_not.mpr passes)
  obtain ⟨t, ran, answered, -⟩ := completes_replies (c := .pdStatus ch) rfl runs coded (opt0_of_testBit plain) answers
    ((State.readsCounted_via ..).fld _ _ (by decide))
  have records : s.regs4 words = (maskPorts (word32 f.payload 0)).flatMap s.pdRecord := List.flatMap_assoc
  exact ⟨t, ran, records ▸ answered⟩

theorem pdStatus_refuses (fails : s.maskFault ch m ≠ 0) :
    Completes (.pdStatus ch) s fun t => s.Answered t ch f (s.maskFault ch m) 0 [] := by
  subst named
  exact completes_refuses rfl runs coded (opt0_of_testBit plain) (if_pos fails)

end

/-! ### PD_STATUS with QUERY, as it ends -/

section
variable (asks : f.opt.testBit 0 = true) (named : maskPorts (word32 f.payload 0) = [p])
include asks named

section
variable (fresh : (s.mbx.at ch).stage = 0) (passes : s.maskFault ch (word32 f.payload 0) = 0)
include fresh passes

omit runs coded asks in
/-- The query is sent, waits for the AMS under way, or is refused by what the port's state admits (R265, R452). -/
theorem querySend_eq {t : State × Option Reply}
    (judged : (if !s.portReady p || !s.pdLive p || !s.contracted p || !s.on F.TCPD_PDSTAT_PROLE p then s.refuse Status.state
      else if s.amsOn p then (s, none)
      else ((pdSettle p ((((s.hush p).send p .getSinkCap).put F.TCPD_PDSTAT_AMS p true).updPd p
        (fun r => { r with query := 1, ownAms := true }))).waits ch, none)) = t) :
    pdQueryRun ch s f = t := by
  rw [pdQueryRun, if_pos fresh, State.querySend, named, passes]
  exact judged

theorem pdStatusQuery_barred
    (barred : s.portReady p = false ∨ s.pdLive p = false ∨ s.contracted p = false ∨ s.on F.TCPD_PDSTAT_PROLE p = false) :
    Completes (.pdStatusQuery ch) s fun t => s.Answered t ch f Status.state 0 [] := by
  refine completes_refuses exec_pdStatusQuery runs coded (opt0_of_testBit asks) (querySend_eq named fresh passes (if_pos ?_))
  obtain off | off | off | off := barred <;> simp [off]

section
variable (ready : s.portReady p = true) (live : s.pdLive p = true) (contracted : s.contracted p = true)
  (source : s.on F.TCPD_PDSTAT_PROLE p = true)
include ready live contracted source

theorem pdStatusQuery_holds (busy : s.amsOn p = true) : Completes (.pdStatusQuery ch) s fun t => t = s := by
  refine completes_waits exec_pdStatusQuery runs coded (opt0_of_testBit asks) (querySend_eq named fresh passes ?_)
  simp [ready, live, contracted, source, busy]

theorem exec_pdStatusQuery_sends (free : s.amsOn p = false) :
    exec (.pdStatusQuery ch) s = .next ((pdSettle p ((((s.hush p).send p .getSinkCap).put F.TCPD_PDSTAT_AMS p true).updPd p
      (fun r => { r with query := 1, ownAms := true }))).waits ch) := by
  refine congrArg Host.Outcome.next (State.command_goesOn runs coded (opt0_of_testBit asks) (querySend_eq named fresh passes ?_))
  simp [ready, live, contracted, source, free]

end

end

section
variable (under : (s.mbx.at ch).stage ≠ 0)
include under

theorem pdStatusQuery_lost (lost : s.rightsLost ch p ≠ 0) :
    Completes (.pdStatusQuery ch) s fun t => s.Answered t ch f (s.rightsLost ch p) 0 [] := by
  have answers : pdQueryRun ch s f = (s.updPd p (fun r => { r with query := 0 }), some (Reply.of (s.rightsLost ch p))) := by
    rw [pdQueryRun, if_neg under, named]
    exact if_pos lost
  obtain ⟨t, ran, answered, -⟩ := completes_replies exec_pdStatusQuery runs coded (opt0_of_testBit asks) answers rfl
  exact ⟨t, ran, answered⟩

section
variable (kept : s.rightsLost ch p = 0)
include kept

omit runs coded asks in
theorem queryEnd_eq : pdQueryRun ch s f = s.queryEnd p := by
  rw [pdQueryRun, if_neg under, named]
  exact if_neg (not_not.mpr kept)

/-- A query that has ended is answered, and is forgotten. -/
theorem pdStatusQuery_ends {r : Reply} (ended : s.queryEnd p = (s.updPd p (fun r => { r with query := 0 }), some r)) :
    Completes (.pdStatusQuery ch) s fun t =>
      s.Answered t ch f r.status r.retry r.payload ∧ (s.NoneWaits → (t.pd.at p).query = 0) := by
  obtain ⟨t, ran, answered, rfl⟩ := completes_replies exec_pdStatusQuery runs coded (opt0_of_testBit asks)
    ((queryEnd_eq named under kept).trans ended) rfl
  refine ⟨_, ran, answered, fun idle => ?_⟩
  rw [State.finish_pd (show State.NoneWaits (State.updPd ..) from idle), State.updPd, Tbl.at_upd_self]

theorem pdStatusQuery_answered (gone : (s.pd.at p).query = 2) :
    Completes (.pdStatusQuery ch) s fun t =>
      s.Answered t ch f 0 0 (s.pdRecord p ++ le 4 ((s.pd.at p).partnerSink.getD []).length
          ++ ((s.pd.at p).partnerSink.getD []).flatMap (le 4))
        ∧ (s.NoneWaits → (t.pd.at p).query = 0) :=
  pdStatusQuery_ends runs coded asks named under kept (by rw [State.queryEnd, gone]; rfl)

theorem pdStatusQuery_empty (gone : (s.pd.at p).query = 3) :
    Completes (.pdStatusQuery ch) s fun t => s.Answered t ch f 0 0 (s.pdRecord p ++ le 4 0) := by
  obtain ⟨t, ran, answered, -⟩ := pdStatusQuery_ends runs coded asks named under kept (by rw [State.queryEnd, gone]; rfl)
  exact ⟨t, ran, answered⟩

theorem pdStatusQuery_silent (gone : (s.pd.at p).query = 0) :
    Completes (.pdStatusQuery ch) s fun t => s.Answered t ch f Status.timeout 0 [] := by
  obtain ⟨t, ran, answered, -⟩ := pdStatusQuery_ends runs coded asks named under kept (by rw [State.queryEnd, gone]; rfl)
  exact ⟨t, ran, answered⟩

theorem pdStatusQuery_waits (pending : (s.pd.at p).query = 1) : Completes (.pdStatusQuery ch) s fun t => t = s :=
  completes_waits exec_pdStatusQuery runs coded (opt0_of_testBit asks)
    ((queryEnd_eq named under kept).trans (by rw [State.queryEnd, pending]; rfl))

end

end

end

end

/-! ### PD_PROFILE -/

omit runs in
/-- The ports that use a profile offer it anew, and the profiles stand (R267). -/
theorem State.offered_profiles (s : State) (l : List Nat) : (s.each l State.offerAnew).profiles = s.profiles :=
  (State.each_via State.offerAnew_via s l).same .profiles (by decide)

section
variable {n : Nat} (coded : f.code = 0x0303) (named : byteAt f.payload 0 = n)
include coded named

section
variable (plain : f.opt.testBit 0 = false)
include plain

theorem pdProfileRead_answers (low : n ≤ 7) :
    Completes (.pdProfileRead ch) s fun t =>
      s.Answered t ch f 0 0 ([n, (s.profiles.at n).length, 0, 0] ++ (s.profiles.at n).flatMap (le 4)) := by
  subst named
  exact completes_gives rfl runs coded (opt0_of_testBit plain) (if_neg (Nat.not_lt.mpr low))

theorem pdProfileRead_refuses (high : 7 < n) :
    Completes (.pdProfileRead ch) s fun t => s.Answered t ch f Status.badArg 0 [] := by
  subst named
  exact completes_refuses rfl runs coded (opt0_of_testBit plain) (if_pos high)

end

section
variable {l : List Nat} (writes : f.opt.testBit 0 = true)
  (objects : (List.range (byteAt f.payload 1)).map (fun i => word32 f.payload (4 + 4 * i)) = l)
include writes objects

omit runs coded named writes in
theorem profileCount_eq : byteAt f.payload 1 = l.length := by
  rw [← objects, List.length_map, List.length_range]

theorem pdProfileWrite_refuses (wrong : 7 < n ∨ l = [] ∨ 11 < l.length ∨ profileGood l = false) :
    Completes (.pdProfileWrite ch) s fun t => s.Answered t ch f Status.badArg 0 [] ∧ t.profiles = s.profiles := by
  have count := profileCount_eq (f := f) objects
  subst named
  have bad : 7 < byteAt f.payload 0 ∨ byteAt f.payload 1 = 0 ∨ 11 < byteAt f.payload 1
      ∨ profileGood ((List.range (byteAt f.payload 1)).map fun i => word32 f.payload (4 + 4 * i)) = false := by
    rw [objects, count]
    exact wrong.imp_right (Or.imp_left fun none => by rw [none]; rfl)
  obtain ⟨t, ran, answered, -, -, profiles⟩ :=
    completes_refused (c := .pdProfileWrite ch) rfl runs coded (opt0_of_testBit writes) (if_pos bad)
  exact ⟨t, ran, answered, profiles⟩

theorem pdProfileWrite_stores (low : n ≤ 7) (some_ : l ≠ []) (short : l.length ≤ 11) (good : profileGood l = true) :
    Completes (.pdProfileWrite ch) s fun t =>
      t.profiles.at n = l ∧ (∀ k ∈ List.range 8, k ≠ n → t.profiles.at k = s.profiles.at k)
        ∧ (t.mbx.at ch).running = none ∧ (ch ≤ 1 → (t.lastReply ch).map (·.status) = some 0) := by
  have count := profileCount_eq (f := f) objects
  subst named objects
  let l := (List.range (byteAt f.payload 1)).map fun i => word32 f.payload (4 + 4 * i)
  let s₁ : State := { s with profiles := s.profiles.put (byteAt f.payload 0) l }
  let s₂ := s₁.each (s₁.profileUsers (byteAt f.payload 0)) State.offerAnew
  have fine : ¬ (7 < byteAt f.payload 0 ∨ byteAt f.payload 1 = 0 ∨ 11 < byteAt f.payload 1 ∨ profileGood l = false) := by
    rintro (high | none | long | bad)
    · omega
    · exact some_ (List.eq_nil_of_length_eq_zero (by omega))
    · omega
    · rw [show profileGood l = true from good] at bad
      cases bad
  obtain ⟨t, ran, ⟨ended, reply⟩, rfl⟩ := completes_replies (c := .pdProfileWrite ch) rfl runs coded (opt0_of_testBit writes)
    (show _ = (s₂, some (Reply.of 0)) from if_neg fine) (((State.each_via State.offerAnew_via s₁ _).fld _ _ (by decide)).trans rfl)
  have profiles : (s₂.finish ch f (Reply.of 0)).profiles = s.profiles.put (byteAt f.payload 0) l :=
    ((State.finish_via ..).same .profiles (by decide)).trans (State.offered_profiles s₁ _)
  refine ⟨_, ran, ?_, fun k _ other => ?_, ended, fun host => ?_⟩
  · rw [profiles, Tbl.at_put_self]
  · rw [profiles, Tbl.at_put_ne _ _ other]
  · rw [reply host]
    rfl

end

end

end

end Sys2Proof.Machine
end

section
/-! PD_CFG and PD_SINKCFG (R105, R107, R452): settings of a port that wait for their boundary. -/

namespace Sys2Proof.Machine

-- One proof at a time: a default argument `by decide` waits for the text before it, and each proof that waits takes a thread.
set_option Elab.async false

/-! ### The word that a command writes -/

section
variable {s : State} {r : RegDef} {i w mask : Nat} {f : Field}

/-- A field no bit of which a write names is left (R95). -/
theorem viewed_unnamed {old w mask width : Nat} (none : mask % 2 ^ width = 0) : viewed 0 old w mask width = .none := by
  simp [viewed, none]

theorem State.mem_touched {x : Staged} : x ∈ s.touched r i 0 w mask ↔ ∃ f ∈ r.fields, f.access = .rw
    ∧ (viewed 0 (s.base f i) (w / 2 ^ f.lo) (mask / 2 ^ f.lo) f.width).map (fun v => (⟨f, i, v⟩ : Staged)) = some x := by
  simp only [State.touched, List.mem_filterMap, Option.ite_none_right_eq_some]

theorem State.touched_field {x : Staged} (member : x ∈ s.touched r i 0 w mask) : x.field ∈ r.fields ∧ x.index = i := by
  obtain ⟨f, listed, -, taken⟩ := State.mem_touched.mp member
  obtain ⟨v, -, rfl⟩ := Option.map_eq_some_iff.mp taken
  exact ⟨listed, rfl⟩

theorem State.touched_unnamed {x : Staged} (bare : ∀ g ∈ r.fields, g.id = f.id → mask / 2 ^ g.lo % 2 ^ g.width = 0)
    (member : x ∈ s.touched r i 0 w mask) : x.field.id ≠ f.id := by
  obtain ⟨g, listed, -, taken⟩ := State.mem_touched.mp member
  obtain ⟨v, named, rfl⟩ := Option.map_eq_some_iff.mp taken
  intro same
  rw [viewed_unnamed (bare g listed same)] at named
  cases named

variable (whole : mask / 2 ^ f.lo % 2 ^ f.width = 2 ^ f.width - 1) (wide : 0 < f.width)
include whole wide

theorem State.touched_whole (listed : f ∈ r.fields) (writable : f.access = .rw) :
    (⟨f, i, w / 2 ^ f.lo % 2 ^ f.width⟩ : Staged) ∈ s.touched r i 0 w mask :=
  State.mem_touched.mpr ⟨f, listed, writable, by rw [viewed_normal _ _ (Nat.pos_iff_ne_zero.mp wide) whole]; rfl⟩

theorem State.touched_value {x : Staged} (member : x ∈ s.touched r i 0 w mask) (same : x.field = f) :
    x.value = w / 2 ^ f.lo % 2 ^ f.width := by
  obtain ⟨g, -, -, taken⟩ := State.mem_touched.mp member
  obtain ⟨v, named, rfl⟩ := Option.map_eq_some_iff.mp taken
  obtain rfl : g = f := same
  rw [viewed_normal _ _ (Nat.pos_iff_ne_zero.mp wide) whole] at named
  exact (Option.some.inj named).symm

end

/-! ### Settings of a port -/

/-- The fields of TCPD_PDCFG. -/
def pdSettings : List Field :=
  [F.TCPD_PDCFG_PROFILE, F.TCPD_PDCFG_EPR_EN, F.TCPD_PDCFG_PPS_EN, F.TCPD_PDCFG_PRS_EN, F.TCPD_PDCFG_VCS_EN, F.TCPD_PDCFG_PD_EN]

/-- The fields of TCPD_SINKCFG. -/
def sinkSettings : List Field :=
  [F.TCPD_SINKCFG_PDMAX, F.TCPD_SINKCFG_ISET_B, F.TCPD_SINKCFG_ISET_A, F.TCPD_SINKCFG_SEL, F.TCPD_SINKCFG_MODE]

/-- No rule ignores a write of these fields for a downstream port. -/
theorem settings_plain : ∀ g ∈ pdSettings ++ sinkSettings, portWindow g = false ∧ partWindow g = false
    ∧ ¬ (F.MF_CTL_CONNECT.id / 32 ≤ g.id / 32 ∧ g.id / 32 ≤ F.MF_CNT3_NYETS.id / 32) ∧ g.id / 32 ≠ F.MF_EPD_START.id / 32
    ∧ g.id ≠ F.MPU_WBASE_BASE.id ∧ g.id ≠ F.MPU_WLIMIT_LIMIT.id ∧ g.id / 32 ≠ F.MPU_WATTR_LOCK.id / 32
    ∧ g.id / 32 ≠ F.CHORD_DNRANGE_DNLO.id / 32 ∧ g.id ≠ F.IC_CORECTL_RESET.id ∧ g.id ≠ F.IC_SRC_PRIO.id
    ∧ g.id / 32 ≠ F.TGT_CNT0_BADOPS.id / 32 ∧ g.id / 32 ≠ F.TGT_CNT1_CUTREADS.id / 32 := by decide

/-- Each of these fields waits for its boundary with the value written. -/
theorem settings_wait : ∀ g ∈ pdSettings ++ sinkSettings, g.id / 32 ≠ F.PART_ASSIGN_PORT0.id / 32 ∧ g.applies ≠ .i := by decide

theorem settings_apart : ∀ g ∈ pdSettings ++ sinkSettings, ∀ h ∈ pdSettings ++ sinkSettings, g.id = h.id → g = h := by decide

/-- A write to a field that waits, in place of an earlier one (R102). -/
def State.restaged (s : State) (x : Staged) : State := (s.unstage x).queuedWrite x

section
variable {s : State} {p : Nat} {l : List Staged} {g : Field}

theorem State.ignores_setting (listed : g ∈ pdSettings ++ sinkSettings) (low : p ≤ 32) : s.ignores g p = false := by
  obtain ⟨window, part, mf, epd, base, limit, lock, ranges, reset, prio, badOps, cutReads⟩ := settings_plain g listed
  have within : ¬ 33 ≤ p := by omega
  have absent : s.absentSlot g p = false := by
    rw [State.absentSlot, window, part, decide_eq_false mf, decide_eq_false epd]
    rfl
  simp [State.ignores, absent, base, limit, lock, ranges, reset, prio, badOps, cutReads, within]

theorem State.stageAll_settings (listed : ∀ y ∈ l, y.field ∈ pdSettings ++ sinkSettings ∧ y.index = p) (low : p ≤ 32) :
    s.stageAll l = l.foldl State.restaged s := by
  have each : ∀ (t : State), ∀ y ∈ l, (if t.ignores y.field y.index then t else t.stageOne y) = t.restaged y := by
    intro t y member
    obtain ⟨field, rfl⟩ := listed y member
    have plain : t.openNibble y = (y, t) := if_neg fun h => (settings_wait y.field field).1 h.1
    rw [State.ignores_setting field low, if_neg (by decide), State.stageOne, plain]
    rfl
  unfold State.stageAll
  clear listed
  induction l generalizing s with
  | nil => rfl
  | cons y l ih =>
    rw [List.foldl_cons, List.foldl_cons, each s y (.head _)]
    exact ih fun t z later => each t z (.tail _ later)

/-- Settings all wait. -/
theorem State.fwWrite_settings (listed : ∀ y ∈ l, y.field ∈ pdSettings ++ sinkSettings ∧ y.index = p) (low : p ≤ 32) :
    s.fwWrite l = l.foldl State.restaged s := by
  have waits : ∀ y ∈ l, y.field.applies ≠ .i := fun y member => (settings_wait y.field (listed y member).1).2
  have now : l.filter (fun x => x.field.applies == .i) = [] :=
    List.filter_eq_nil_iff.mpr fun y member => by simpa using waits y member
  have later : l.filter (fun x => x.field.applies != .i) = l :=
    List.filter_eq_self.mpr fun y member => by simpa using waits y member
  rw [State.fwWrite, now, later, State.stageAll_settings listed low]
  rfl

end

/-! ### A value that waits -/

/-- A value waits for a field, for another time than the next microsecond. -/
def State.Waiting (g : Field) (p v : Nat) (s : State) : Prop :=
  s.pendingWrite g p = some v ∧ ∀ y ∈ s.staged, y.field.id = g.id → y.index = p → y.field.applies ≠ .i

section
variable {s : State} {x : Staged} {g : Field} {p v : Nat}

theorem State.restaged_pendingWrite_other (other : ¬ (x.field.id = g.id ∧ x.index = p)) :
    (s.restaged x).pendingWrite g p = s.pendingWrite g p := by
  have kept : ∀ y : Staged, (y.field.id == g.id && y.index == p) = true
      → (!(y.field.id == x.field.id && y.index == x.index)) = true := by
    intro y picked
    rw [Bool.and_eq_true, beq_iff_eq, beq_iff_eq] at picked
    rw [picked.1, picked.2, Bool.not_eq_true', Bool.eq_false_iff]
    intro same
    rw [Bool.and_eq_true, beq_iff_eq, beq_iff_eq] at same
    exact other ⟨same.1.symm, same.2.symm⟩
  unfold State.pendingWrite State.restaged State.queuedWrite State.unstage
  dsimp only
  rw [List.find?_append, List.find?_cons_of_neg (by simpa using fun h i => other ⟨h, i⟩), List.find?_nil, Option.or_none,
    List.find?_filter]
  congr 2
  funext y
  cases picked : (y.field.id == g.id && y.index == p) with
  | false => simp
  | true => simp [kept y picked]

theorem State.Waiting.restaged_other (waits : s.Waiting g p v) (other : ¬ (x.field.id = g.id ∧ x.index = p)) :
    (s.restaged x).Waiting g p v := by
  refine ⟨(State.restaged_pendingWrite_other other).trans waits.1, fun y stands field index => ?_⟩
  rcases List.mem_append.mp (show y ∈ (s.unstage x).staged ++ [x] from stands) with before | new
  · exact waits.2 y (List.mem_filter.mp before).1 field index
  · obtain rfl := List.mem_singleton.mp new
    exact absurd ⟨field, index⟩ other

theorem State.restaged_waiting (s : State) (later : x.field.applies ≠ .i) : (s.restaged x).Waiting x.field x.index x.value := by
  refine ⟨State.queuedWrite_self _ s.unstage_pendingWrite_self, fun y stands field index => ?_⟩
  rcases List.mem_append.mp (show y ∈ (s.unstage x).staged ++ [x] from stands) with before | new
  · have apart := (List.mem_filter.mp before).2
    simp [field, index] at apart
  · obtain rfl := List.mem_singleton.mp new
    exact later

theorem State.Waiting.of_staged {t : State} (waits : s.Waiting g p v) (same : t.staged = s.staged) : t.Waiting g p v :=
  ⟨(State.pendingWrite_of_staged same g p).trans waits.1, fun y stands => waits.2 y (same ▸ stands)⟩

/-- A value that waits for its boundary is no part of what HOLD held back (R105). -/
theorem State.Waiting.holdReleased (waits : s.Waiting g p v) (h : Home) : (s.holdReleased [] h).Waiting g p v := by
  let l := s.staged.filter fun x => decide (x.field.applies = .i) && ((slotHome x.field.id x.index).any (·.base == h.base))
  have apart : ∀ y ∈ l, ¬ (y.field.id = g.id ∧ y.index = p) := by
    intro y member same
    obtain ⟨stands, held⟩ := List.mem_filter.mp member
    rw [Bool.and_eq_true, decide_eq_true_eq] at held
    exact waits.2 y stands same.1 same.2 held.1
  have follows : ∀ (t : State) (x : Staged), (t.applied s x.field x.index x.value).staged = t.staged := fun t x =>
    t.applied_staged s x.field x.index x.value
  have taken : ∀ l : List Staged, (∀ y ∈ l, ¬ (y.field.id = g.id ∧ y.index = p)) → ∀ t : State, t.Waiting g p v →
      (l.foldl (s.taken []) t).Waiting g p v := by
    intro l
    induction l with
    | nil => exact fun _ t waits => waits
    | cons y l ih =>
      intro apart t waits
      refine ih (fun z later => apart z (.tail _ later)) _ ?_
      have staged := s.taken_staged [] t y
      have first := apart y (.head _)
      refine ⟨?_, fun z stands => waits.2 z (List.mem_filter.mp (staged ▸ stands)).1⟩
      rw [← waits.1]
      have queued := State.restaged_pendingWrite_other (s := t) first
      rw [State.restaged, State.pendingWrite, State.queuedWrite, List.find?_append,
        List.find?_cons_of_neg (by simpa using fun h i => first ⟨h, i⟩), List.find?_nil, Option.or_none] at queued
      rw [State.pendingWrite, staged]
      exact queued
  exact (taken l apart s waits).of_staged (foldl_kept State.staged follows _ _)

end

theorem foldl_establishes {α β : Type} {g : α → β → α} {after : α → Prop} {x : β} {l : List β} (sets : ∀ t, after (g t x))
    (keeps : ∀ t, ∀ y ∈ l, after t → after (g t y)) (member : x ∈ l) (t : α) : after (l.foldl g t) := by
  have rest : ∀ l : List β, (∀ t, ∀ y ∈ l, after t → after (g t y)) → ∀ t, after t → after (l.foldl g t) := by
    intro l
    induction l with
    | nil => exact fun _ t stands => stands
    | cons y l ih => exact fun keeps t stands => ih (fun t z later => keeps t z (.tail _ later)) _ (keeps t y (.head _) stands)
  induction l generalizing t with
  | nil => cases member
  | cons y l ih =>
    rcases List.mem_cons.mp member with rfl | tail
    · exact rest l (fun t z later => keeps t z (.tail _ later)) _ (sets t)
    · exact ih (fun t z later => keeps t z (.tail _ later)) tail _

end Sys2Proof.Machine
end

section
/-! PD_CFG and PD_SINKCFG as they run over the ports of their mask (R105, R107, R452). -/

namespace Sys2Proof.Machine

-- One proof at a time: a default argument `by decide` waits for the text before it, and each proof that waits takes a thread.
set_option Elab.async false

/-! ### What the readiness of a port and the answer rest on -/

/-- The fields that say whether a port can take an action (R441), and the unit's address in the answer (R436). -/
def readyFields : List Field := [F.PMU_DOMSTAT_ON, F.PMU_DOMSTAT_CHANGING, F.D2D_LSTAT_STATE, F.CHORD_STAT_ADDR]

/-- These fields stand. -/
def KeepsReady (s t : State) : Prop := ∀ g ∈ readyFields, ∀ i, t.fld g i = s.fld g i

section
variable {s t u : State}

theorem KeepsReady.refl (s : State) : KeepsReady s s := fun _ _ _ => rfl

theorem KeepsReady.trans (d : KeepsReady s t) (e : KeepsReady t u) : KeepsReady s u :=
  fun g listed i => (e g listed i).trans (d g listed i)

theorem KeepsReady.of_regs (h : t.regs = s.regs) : KeepsReady s t := fun g _ i => fld_of_regs h g i

theorem KeepsReady.setFld (s : State) {f : Field} (i v : Nat) (other : ∀ g ∈ readyFields, g.id ≠ f.id) :
    KeepsReady s (s.setFld f i v) := fun g listed j => fld_setFld_ne s i j v (other g listed)

theorem KeepsReady.of_via {m : Nat} (d : Via m s t)
    (h : m.testBit 0 = false ∧ m.testBit 3 = false ∧ m.testBit 15 = false) : KeepsReady s t := by
  obtain ⟨pmu, d2d, chord⟩ := h
  intro g listed i
  simp only [readyFields, List.mem_cons, List.not_mem_nil, or_false] at listed
  rcases listed with rfl | rfl | rfl | rfl
  · exact d.fld _ i pmu
  · exact d.fld _ i pmu
  · exact d.fld _ i d2d
  · exact d.fld _ i chord

theorem KeepsReady.address (d : KeepsReady s t) : t.fld F.CHORD_STAT_ADDR 0 = s.fld F.CHORD_STAT_ADDR 0 :=
  d _ (by decide) 0

theorem KeepsReady.portReady (d : KeepsReady s t) (p : Nat) : t.portReady p = s.portReady p := by
  have on : t.portsOn p = s.portsOn p := State.bit_of_fld (d F.PMU_DOMSTAT_ON (by decide) 0) _
  have changing : t.domChanging (Dom.ports (currant p)) = s.domChanging (Dom.ports (currant p)) :=
    State.bit_of_fld (d F.PMU_DOMSTAT_CHANGING (by decide) 0) _
  have up : t.linkUp (currant p) = s.linkUp (currant p) :=
    congrArg (fun v => decide (v = 3)) (d F.D2D_LSTAT_STATE (by decide) (currant p + 1))
  rw [State.portReady, on, changing, up, State.portReady]

theorem KeepsReady.status (d : KeepsReady s t) {act : State → Nat → Nat × State} {p : Nat} (takes : (act t p).1 = Status.ok) :
    (whenReady act t p).1 = portStatus s.portReady p := by
  rw [whenReady, portStatus, d.portReady p]
  split
  · exact takes
  · rfl

theorem whenReady_keeps {q : State → Prop} {act : State → Nat → Nat × State} {p : Nat} (acts : q (act s p).2) (start : q s) :
    q (whenReady act s p).2 := by
  unfold whenReady
  split <;> assumption

end

/-! ### Writes of a word of settings -/

section
variable {s : State} {r : RegDef} {f g : Field} {p n w mask v : Nat} (reg : regDefOf f.id = some r)
  (fields : ∀ h ∈ r.fields, h ∈ pdSettings ++ sinkSettings)
include reg

theorem State.wordWrites_eq : s.wordWrites f p w mask = s.touched r p 0 w mask := by
  rw [State.wordWrites, reg]

include fields

theorem State.wordWrites_listed : ∀ y ∈ s.wordWrites f p w mask, y.field ∈ pdSettings ++ sinkSettings ∧ y.index = p := by
  intro y member
  obtain ⟨field, index⟩ := State.touched_field (State.wordWrites_eq reg ▸ member)
  exact ⟨fields _ field, index⟩

section
variable (low : n ≤ 32)
include low

theorem State.fwWrite_wordWrites : s.fwWrite (s.wordWrites f n w mask) = (s.wordWrites f n w mask).foldl State.restaged s :=
  State.fwWrite_settings (State.wordWrites_listed reg fields) low

theorem State.fwWrite_wordWrites_regs : (s.fwWrite (s.wordWrites f n w mask)).regs = s.regs
    ∧ (s.fwWrite (s.wordWrites f n w mask)).tat = s.tat := by
  rw [State.fwWrite_wordWrites reg fields low]
  exact ⟨foldl_kept (g := State.restaged) State.regs (fun _ _ => rfl) _ _,
    foldl_kept (g := State.restaged) State.tat (fun _ _ => rfl) _ _⟩

/-- A field none of whose bits the command names waits as before. -/
theorem State.fwWrite_unnamed (bare : ∀ h ∈ r.fields, h.id = g.id → mask / 2 ^ h.lo % 2 ^ h.width = 0) :
    (s.fwWrite (s.wordWrites f n w mask)).pendingWrite g p = s.pendingWrite g p := by
  rw [State.fwWrite_wordWrites reg fields low]
  refine foldl_kept_of_mem (view := fun t => t.pendingWrite g p) (stands := fun _ => True) (fun _ _ _ _ => trivial) ?_ trivial
  intro t y member _
  exact State.restaged_pendingWrite_other fun same =>
    State.touched_unnamed bare (State.wordWrites_eq reg ▸ member) same.1

section
variable (listed : g ∈ r.fields) (wide : 0 < g.width) (whole : mask / 2 ^ g.lo % 2 ^ g.width = 2 ^ g.width - 1)
include listed wide whole

omit low in
theorem State.restaged_waits (t : State) {y : Staged} (member : y ∈ s.wordWrites f p w mask) (here : y.field = g) :
    (t.restaged y).Waiting g p (w / 2 ^ g.lo % 2 ^ g.width) := by
  subst here
  obtain ⟨-, rfl⟩ := State.wordWrites_listed reg fields y member
  rw [← State.touched_value whole wide (State.wordWrites_eq reg ▸ member) rfl]
  exact t.restaged_waiting (settings_wait _ (fields _ listed)).2

omit low in
/-- A value that the command gives a field waits after each of its writes. -/
theorem State.restaged_keeps {t : State} {y : Staged} (member : y ∈ s.wordWrites f n w mask)
    (waits : t.Waiting g p (w / 2 ^ g.lo % 2 ^ g.width)) : (t.restaged y).Waiting g p (w / 2 ^ g.lo % 2 ^ g.width) := by
  obtain ⟨field, index⟩ := State.wordWrites_listed reg fields y member
  by_cases same : y.field.id = g.id ∧ y.index = p
  · obtain rfl : n = p := index.symm.trans same.2
    exact State.restaged_waits reg fields listed wide whole t member (settings_apart _ field _ (fields _ listed) same.1)
  · exact waits.restaged_other same

theorem State.fwWrite_keeps (waits : s.Waiting g p (w / 2 ^ g.lo % 2 ^ g.width)) :
    (s.fwWrite (s.wordWrites f n w mask)).Waiting g p (w / 2 ^ g.lo % 2 ^ g.width) := by
  rw [State.fwWrite_wordWrites reg fields low]
  exact List.foldlRecOn _ _ waits fun t waits y member =>
    State.restaged_keeps reg fields listed wide whole member waits

theorem State.fwWrite_waits (writes : g.access = .rw) :
    (s.fwWrite (s.wordWrites f n w mask)).Waiting g n (w / 2 ^ g.lo % 2 ^ g.width) := by
  have member : (⟨g, n, w / 2 ^ g.lo % 2 ^ g.width⟩ : Staged) ∈ s.wordWrites f n w mask := by
    rw [State.wordWrites_eq reg]
    exact State.touched_whole whole wide listed writes
  rw [State.fwWrite_wordWrites reg fields low]
  exact foldl_establishes (fun t => State.restaged_waits reg fields listed wide whole t member rfl)
    (fun t y named waits => State.restaged_keeps reg fields listed wide whole named waits) member s

end

end

end

theorem low_of_member {m p : Nat} (member : p ∈ maskPorts m) : 1 ≤ p ∧ p ≤ 32 := by
  have port := (List.mem_filter.mp member).1
  simp only [allPorts, List.mem_map, List.mem_range] at port
  omega

/-! ### PD_CFG -/

theorem pdcfg_register : ∃ r, regDefOf F.TCPD_PDCFG_PD_EN.id = some r ∧ r.fields = pdSettings := ⟨_, rfl, rfl⟩

/-- What PD_CFG does on a port (R452). -/
def pdCfgAct (w mask : Nat) (s : State) (p : Nat) : Nat × State := (0, s.fwWrite (s.wordWrites F.TCPD_PDCFG_PD_EN p w mask))

section
variable {s t : State} {ch m p v : Nat} {f : Frame} {w mask : Nat}

/-- Neither registers nor timed actions change. -/
def KeepsRegs (s t : State) : Prop := t.regs = s.regs ∧ t.tat = s.tat

theorem KeepsRegs.ready (d : KeepsRegs s t) : KeepsReady s t := .of_regs d.1

theorem pdCfgAct_keeps (member : p ∈ maskPorts m) (start : KeepsRegs s t) :
    KeepsRegs s (whenReady (pdCfgAct w mask) t p).2 := by
  obtain ⟨r, reg, fields⟩ := pdcfg_register
  have listed : ∀ h ∈ r.fields, h ∈ pdSettings ++ sinkSettings := fun h there =>
    List.mem_append_left _ (fields ▸ there)
  refine whenReady_keeps ?_ start
  obtain ⟨regs, tat⟩ := State.fwWrite_wordWrites_regs (s := t) (w := w) (mask := mask) reg listed (low_of_member member).2
  exact ⟨regs.trans start.1, tat.trans start.2⟩

/-- The state that PD_CFG leaves to its answer. -/
def State.pdCfgDone (s : State) (f : Frame) : State :=
  (s.eachPort (whenReady (pdCfgAct (word32 f.payload 4) (word32 f.payload 8))) (maskPorts (word32 f.payload 0))).1

theorem State.pdCfgDone_keeps : KeepsRegs s (s.pdCfgDone f) :=
  State.eachPort_invariant (fun _ _ member start => pdCfgAct_keeps member start) ⟨rfl, rfl⟩

theorem exec_pdCfg (runs : (s.mbx.at ch).running = some f) (coded : f.code = 0x0302) (named : word32 f.payload 0 = m)
    (passes : s.maskFault ch m = 0) :
    exec (.pdCfg ch) s
      = .next ((s.pdCfgDone f).finish ch f ⟨(maskAnswer m s.portReady).1, 0, (maskAnswer m s.portReady).2⟩) := by
  subst named
  exact congrArg Host.Outcome.next (State.command_ends runs coded rfl
    (State.maskCommand_eq (act := pdCfgAct (word32 f.payload 4) (word32 f.payload 8)) (q := KeepsRegs s) rfl passes
      (fun _ _ member start => pdCfgAct_keeps member start) (fun _ _ _ start => start.ready.status rfl) ⟨rfl, rfl⟩))

/-- A field that the word names whole waits with its value on each port that took the command. -/
theorem State.pdCfgDone_waits {g : Field} (listed : g ∈ pdSettings) (wide : 0 < g.width) (writes : g.access = .rw)
    (whole : word32 f.payload 8 / 2 ^ g.lo % 2 ^ g.width = 2 ^ g.width - 1) (member : p ∈ maskPorts (word32 f.payload 0))
    (ready : s.portReady p = true) : (s.pdCfgDone f).Waiting g p (word32 f.payload 4 / 2 ^ g.lo % 2 ^ g.width) := by
  obtain ⟨r, reg, fields⟩ := pdcfg_register
  have settings : ∀ h ∈ r.fields, h ∈ pdSettings ++ sinkSettings := fun h there =>
    List.mem_append_left _ (fields ▸ there)
  refine State.eachPort_establishes (q := KeepsRegs s) (fun _ _ member start => pdCfgAct_keeps member start) ?_ ?_ member ⟨rfl, rfl⟩
  · intro t start
    rw [whenReady, start.ready.portReady, if_pos ready]
    exact State.fwWrite_waits reg settings (low_of_member member).2 (fields ▸ listed) wide whole writes
  · intro t n other _ waits
    refine whenReady_keeps ?_ waits
    exact State.fwWrite_keeps reg settings (low_of_member other).2 (fields ▸ listed) wide whole waits

theorem State.pdCfgDone_unnamed {g : Field}
    (bare : ∀ h ∈ pdSettings, h.id = g.id → word32 f.payload 8 / 2 ^ h.lo % 2 ^ h.width = 0) :
    (s.pdCfgDone f).pendingWrite g p = s.pendingWrite g p := by
  obtain ⟨r, reg, fields⟩ := pdcfg_register
  have settings : ∀ h ∈ r.fields, h ∈ pdSettings ++ sinkSettings := fun h there =>
    List.mem_append_left _ (fields ▸ there)
  refine State.eachPort_invariant (q := fun t => t.pendingWrite g p = s.pendingWrite g p) (fun t n member start => ?_) rfl
  refine whenReady_keeps (q := fun t => t.pendingWrite g p = s.pendingWrite g p) ?_ start
  exact (State.fwWrite_unnamed reg settings (low_of_member member).2 (fields ▸ bare)).trans start

theorem State.finish_waiting {g : Field} {r : Reply} (waits : s.Waiting g p v) (other : g.id ≠ F.TCPD_SINKCFG_SEL.id) :
    (s.finish ch f r).stagedFld g p = v := by
  rw [State.stagedFld, s.finish_keepsWrites ch f r g p other, waits.1]
  rfl

theorem bit_eq_of_testBit {x b : Nat} {y : Bool} (h : x.testBit b = y) : x / 2 ^ b % 2 = bit01 y := by
  rw [Nat.testBit_eq_decide_div_mod_eq] at h
  subst h
  unfold bit01
  split <;> simp_all

theorem pdCfg_settings (runs : (s.mbx.at ch).running = some f) (coded : f.code = 0x0302) (named : word32 f.payload 0 = m)
    (passes : s.maskFault ch m = 0) :
    Completes (.pdCfg ch) s fun t =>
      (s.NoneWaits → ∀ p ∈ maskPorts m, s.portReady p = true → (word32 f.payload 8).testBit 3 = true →
        t.stagedFld F.TCPD_PDCFG_PRS_EN p = word32 f.payload 4 / 8 % 2)
        ∧ (s.NoneWaits → ∀ p ∈ maskPorts m, s.portReady p = true → word32 f.payload 8 / 65536 % 8 = 7 →
          t.stagedFld F.TCPD_PDCFG_PROFILE p = word32 f.payload 4 / 65536 % 8)
        ∧ (s.NoneWaits → ∀ p ∈ maskPorts m, (word32 f.payload 8).testBit 0 = false →
          t.stagedFld F.TCPD_PDCFG_PD_EN p = s.stagedFld F.TCPD_PDCFG_PD_EN p)
        ∧ s.Answered t ch f (maskAnswer m s.portReady).1 0 (maskAnswer m s.portReady).2 := by
  refine ⟨_, exec_pdCfg runs coded named passes, fun _ p member ready bit => ?_, fun _ p member ready whole => ?_,
    fun idle p _ bit => ?_, State.finish_answered _ _ _ State.pdCfgDone_keeps.ready.address⟩
  · subst named
    exact State.finish_waiting (State.pdCfgDone_waits (by decide) (by decide) rfl (bit_eq_of_testBit bit) member ready) (by decide)
  · subst named
    exact State.finish_waiting (State.pdCfgDone_waits (by decide) (by decide) rfl whole member ready) (by decide)
  · obtain ⟨regs, tat⟩ := State.pdCfgDone_keeps (s := s) (f := f)
    have quiet : (s.pdCfgDone f).NoneWaits := by rw [State.NoneWaits, tat]; exact idle
    have bare : ∀ h ∈ pdSettings, h.id = F.TCPD_PDCFG_PD_EN.id → word32 f.payload 8 / 2 ^ h.lo % 2 ^ h.width = 0 := by
      intro h listed same
      obtain rfl : h = F.TCPD_PDCFG_PD_EN := settings_apart h (List.mem_append_left _ listed) _ (by decide) same
      exact bit_eq_of_testBit bit
    rw [State.stagedFld, State.finish_keepsWrites _ ch f _ _ p (by decide), State.pdCfgDone_unnamed bare,
      (State.finish_within quiet ch f _).fld _ p (by decide), fld_of_regs regs, State.stagedFld]

end

end Sys2Proof.Machine
end

section
/-! PD_SINKCFG (R105, R107, R452): a group of settings under the HOLD of its block. -/

namespace Sys2Proof.Machine

-- One proof at a time: a default argument `by decide` waits for the text before it, and each proof that waits takes a thread.
set_option Elab.async false

/-! ### The blocks TCPD of the Currants (R94) -/

/-- The base of the TCPD block of a Currant. -/
abbrev TcpdBase (b : Nat) : Prop := 0x50000000 ≤ b ∧ b < 0x54000000 ∧ b % 0x1000000 = 0

/-- Every copy of a place lies outside the TCPD blocks of the Currants. -/
def placeApart (l : Place) : Bool :=
  decide (l.base + l.n1 * l.s1 + l.n2 * l.s2 < 0x50000000) || decide (0x54000000 ≤ l.base)
    || decide (l.s1 % 0x1000000 = 0 ∧ 0x4000 ≤ l.base % 0x1000000 ∧ l.base % 0x1000000 + l.n2 * l.s2 < 0x1000000)

theorem places_apart : ∀ r ∈ RegMap.all, blockOf (32 * r.reg) = .tcpd ∨ ∀ l ∈ r.places, placeApart l = true := by
  decide +kernel

theorem placeAddr_bounds {l : Place} {i a : Nat} (named : placeAddr l i = some a) :
    ∃ j k, j < l.n1 ∧ k < l.n2 ∧ a = l.base + j * l.s1 + k * l.s2 := by
  unfold placeAddr at named
  split at named
  · next within =>
    have some_ : 0 < l.n2 := Nat.pos_of_ne_zero fun none => by rw [none, Nat.mul_zero] at within; omega
    refine ⟨(i - l.first) / l.n2, (i - l.first) % l.n2, ?_, Nat.mod_lt _ some_, (Option.some.inj named).symm⟩
    exact (Nat.div_lt_iff_lt_mul some_).mpr (by omega)
  · cases named

theorem homeAt_base {a : Nat} {h : Home} (named : homeAt a = some h) (base : TcpdBase h.base) :
    h.base = a / 0x4000 * 0x4000 := by
  obtain ⟨above, below, -⟩ := base
  unfold homeAt at named
  split at named
  · obtain ⟨e, -, rfl⟩ := Option.map_eq_some_iff.mp named
    rfl
  split at named
  · obtain rfl := Option.some.inj named
    exact absurd above (by decide)
  split at named
  · dsimp only at named
    split at named
    · obtain ⟨e, -, rfl⟩ := Option.map_eq_some_iff.mp named
      rfl
    · cases named
  split at named
  · obtain rfl := Option.some.inj named
    exact absurd below (by decide)
  split at named
  · obtain rfl := Option.some.inj named
    exact absurd below (by decide)
  split at named
  · obtain rfl := Option.some.inj named
    rfl
  · cases named

theorem placeApart_base {l : Place} {i a : Nat} {h : Home} (apart : placeApart l = true) (named : placeAddr l i = some a)
    (home : homeAt a = some h) : ¬ TcpdBase h.base := by
  obtain ⟨j, k, low, narrow, rfl⟩ := placeAddr_bounds named
  intro base
  have page := homeAt_base home base
  obtain ⟨above, below, whole⟩ := base
  have rows : j * l.s1 + l.s1 ≤ l.n1 * l.s1 := by
    rw [← Nat.succ_mul]
    exact Nat.mul_le_mul_right _ low
  have columns : k * l.s2 + l.s2 ≤ l.n2 * l.s2 := by
    rw [← Nat.succ_mul]
    exact Nat.mul_le_mul_right _ narrow
  simp only [placeApart, Bool.or_eq_true, decide_eq_true_eq] at apart
  rcases apart with (before | after) | ⟨stride, past, within⟩
  · omega
  · omega
  · obtain ⟨c, each⟩ := Nat.dvd_of_mod_eq_zero stride
    have stepped : j * l.s1 = 0x1000000 * (j * c) := by rw [each]; ring
    omega

/-- A field whose copy lies in the TCPD block of a Currant is a field of that block. -/
theorem slotHome_tcpd {id i : Nat} {h : Home} (home : slotHome id i = some h) (base : TcpdBase h.base) : blockOf id = .tcpd := by
  obtain ⟨a, address, here⟩ := Option.bind_eq_some_iff.mp home
  obtain ⟨r, found, copy⟩ := Option.bind_eq_some_iff.mp address
  obtain ⟨l, listed, named⟩ := List.exists_of_findSome?_eq_some copy
  have number : r.reg = id / 32 := by simpa using List.find?_some (p := fun r : RegDef => r.reg == id / 32) found
  have block : blockOf (32 * r.reg) = blockOf id := by
    unfold blockOf
    rw [number, Nat.mul_div_cancel_left _ (by decide)]
  rcases places_apart r (List.mem_of_find?_eq_some found) with own | apart
  · exact block ▸ own
  · exact absurd base (placeApart_base (apart l listed) named here)

theorem sinkcfg_homes : ∀ g ∈ sinkSettings, ∀ p < 33, 1 ≤ p →
    (slotHome g.id p).all (fun h => decide (TcpdBase h.base)) = true := by
  decide +kernel

/-! ### What a field of a TCPD block makes the part do -/

section
variable {s : State} {f : Field} (own : blockOf f.id = .tcpd)
include own

theorem id_ne_of_tcpd {g : Field} (other : blockOf g.id ≠ .tcpd) : f.id ≠ g.id ∧ f.id / 32 ≠ g.id / 32 := by
  refine ⟨fun same => other (same ▸ own), fun same => other ?_⟩
  rw [← own]
  unfold blockOf
  rw [same]

/-- A field of a TCPD block makes no block of Quince but those of its port act. -/
theorem State.quinceApplied_of_tcpd (s old : State) (i v : Nat) : s.quinceApplied old f i v = s := by
  have away : ∀ g : Field, blockOf g.id ≠ .tcpd → f.id ≠ g.id ∧ f.id / 32 ≠ g.id / 32 := fun _ => id_ne_of_tcpd own
  simp only [State.quinceApplied, away F.PMU_DOMCTL_PORTS (by decide), away F.PMU_RAILCTL_EN2 (by decide),
    away F.PMU_CLKCTL_AUTO (by decide), away F.RTC_ALARM_HI_ARM (by decide), away F.RTC_ALARM_HI_ALARM_HI (by decide),
    away F.RTC_ALARM_LO_ALARM_LO (by decide), away F.PART_PCTL_PULLUP (by decide), away F.PART_ASSIGN_PORT0 (by decide),
    away F.DPE_CTL_ISOLATE (by decide), away F.DPE_CTL_QUAR (by decide), away F.TT_ALLOC_PMAX (by decide),
    away F.TT_PPEAK_PPEAK (by decide), away F.TT_POOLLOW_LOW (by decide), away F.MF_CTL_CONNECT (by decide),
    away F.MF_EPD_START (by decide), or_self, if_false]

theorem State.serviceApplied_of_tcpd (s : State) (i v : Nat) : s.serviceApplied f i v = s := by
  have away : ∀ g : Field, blockOf g.id ≠ .tcpd → f.id ≠ g.id ∧ f.id / 32 ≠ g.id / 32 := fun _ => id_ne_of_tcpd own
  simp only [State.serviceApplied, away F.CHORD_LCTL_EN (by decide), away F.CHORD_CFG_RANGEMODE (by decide),
    away F.CHORD_DNRANGE_DNLO (by decide), away F.CHORD_PPS_EN (by decide), away F.TAT_RDSEL_INDEX (by decide),
    away F.IC_PEND_PEND (by decide), away F.IC_CORECTL_RESET (by decide), away F.IC_CORECTL_WDTMO (by decide),
    away F.FC_SCFG_N (by decide), away F.FC_SCNT_EVENTS (by decide), or_self, if_false]

theorem State.applied_tcpd_ready (s old : State) (i v : Nat) : KeepsReady s (s.applied old f i v) := by
  unfold State.applied
  extract_lets filter s₁
  have filtered : KeepsReady s s₁ := by
    dsimp only [s₁]
    split
    · exact .of_via (State.filterChanged_via ..) (by decide)
    · exact .refl s
  rw [State.quinceApplied_of_tcpd own, State.serviceApplied_of_tcpd own]
  exact filtered.trans (.of_via (State.portApplied_via ..) (by decide))

theorem readyFields_apart : ∀ g ∈ readyFields, g.id ≠ f.id := fun g listed =>
  Ne.symm (id_ne_of_tcpd own ((by decide : ∀ g ∈ readyFields, blockOf g.id ≠ .tcpd) g listed)).1

theorem State.takeWrite_tcpd_ready (s : State) (i v : Nat) : KeepsReady s (s.takeWrite [] ⟨f, i, v⟩) := by
  have away : ∀ g : Field, blockOf g.id ≠ .tcpd → f.id ≠ g.id ∧ f.id / 32 ≠ g.id / 32 := fun _ => id_ne_of_tcpd own
  have alone : s.rival [] f i = none := by
    simp only [State.rival, away F.RTC_EPOCH_LO_EPOCH (by decide), away F.RTC_EPOCH_HI_EPOCH (by decide), or_self, and_false,
      if_false]
    rfl
  rw [State.takeWrite, alone]
  dsimp only
  split
  · exact .refl s
  · exact .setFld s i v (readyFields_apart own)

end

/-! ### HOLD released -/

/-- No HOLD bit is one of the fields that readiness rests on. -/
theorem holdSlot_apart {h : Home} {f : Field} {j : Nat} (slot : holdSlot h = some (f, j)) : ∀ g ∈ readyFields, g.id ≠ f.id := by
  have every : ∀ b : Block, ∀ f, stageOf b = some f → ∀ g ∈ readyFields, g.id ≠ f.id := by
    intro b f named
    cases b <;> cases named <;> decide
  obtain ⟨e, named, found⟩ := Option.bind_eq_some_iff.mp slot
  obtain ⟨k, -, same⟩ := Option.map_eq_some_iff.mp found
  cases same
  exact every _ _ named

theorem State.holdReleased_ready (s : State) {h : Home} (base : TcpdBase h.base) : KeepsReady s (s.holdReleased [] h) := by
  let l := s.staged.filter fun x => decide (x.field.applies = .i) && ((slotHome x.field.id x.index).any (·.base == h.base))
  have own : ∀ x ∈ l, blockOf x.field.id = .tcpd := by
    intro x member
    have here := (List.mem_filter.mp member).2
    rw [Bool.and_eq_true, Option.any_eq_true] at here
    obtain ⟨-, k, home, same⟩ := here
    exact slotHome_tcpd home (beq_iff_eq.mp same ▸ base)
  have taken : KeepsReady s (l.foldl (s.taken []) s) := by
    refine List.foldlRecOn _ _ (.refl s) fun t start x member => start.trans ?_
    unfold State.taken
    split
    · exact .of_regs rfl
    · exact (t.takeWrite_tcpd_ready (own x member) x.index x.value).trans (.of_regs rfl)
  show KeepsReady s (s.applyAll [] l)
  rw [s.applyAll_eq]
  exact List.foldlRecOn _ _ taken fun t start x member =>
    start.trans (t.applied_tcpd_ready (own x (List.mem_of_mem_filter member)) s x.index x.value)

/-- A group of settings of a port waits, and the HOLD of its block ends (R105, R107). -/
theorem State.fwGroup_cases {P : State → Prop} {s : State} {l : List Staged} (waits : P (s.fwWrite l))
    (released : ∀ x ∈ l, ∀ h f j, slotHome x.field.id x.index = some h → holdSlot h = some (f, j) →
      P (((s.fwWrite l).put f j false).holdReleased [] h)) : P (s.fwGroup l) := by
  unfold State.fwGroup
  extract_lets t
  split
  · exact waits
  · next x rest =>
    split
    · next h home =>
      split
      · next f j slot =>
        split
        · exact released x (.head _) h f j home slot
        · exact waits
      · exact waits
    · exact waits

/-! ### PD_SINKCFG -/

theorem sinkcfg_register : ∃ r, regDefOf F.TCPD_SINKCFG_MODE.id = some r ∧ r.fields = sinkSettings := ⟨_, rfl, rfl⟩

theorem sinkcfg_home {g : Field} {p : Nat} {h : Home} (listed : g ∈ sinkSettings) (port : 1 ≤ p ∧ p ≤ 32)
    (home : slotHome g.id p = some h) : TcpdBase h.base := by
  have based := sinkcfg_homes g listed p (by omega) port.1
  rw [home] at based
  exact of_decide_eq_true based

/-- What PD_SINKCFG does on a port (R452). -/
def pdSinkcfgAct (w : Nat) (s : State) (p : Nat) : Nat × State := (0, s.fwGroup (s.wordWrites F.TCPD_SINKCFG_MODE p w fullWord))

section
variable {s t : State} {ch m p n : Nat} {f : Frame} {w : Nat}

theorem sinkcfg_write_home {x : Staged} {h : Home} (port : 1 ≤ p ∧ p ≤ 32)
    (member : x ∈ s.wordWrites F.TCPD_SINKCFG_MODE p w fullWord) (home : slotHome x.field.id x.index = some h) :
    TcpdBase h.base := by
  obtain ⟨r, reg, fields⟩ := sinkcfg_register
  obtain ⟨field, rfl⟩ := State.touched_field (State.wordWrites_eq reg ▸ member)
  exact sinkcfg_home (fields ▸ field) port home

theorem pdSinkcfgAct_ready (s : State) (port : 1 ≤ p ∧ p ≤ 32) : KeepsReady s (pdSinkcfgAct w s p).2 := by
  obtain ⟨r, reg, fields⟩ := sinkcfg_register
  have settings : ∀ h ∈ r.fields, h ∈ pdSettings ++ sinkSettings := fun h there => List.mem_append_right _ (fields ▸ there)
  have waits : KeepsReady s (s.fwWrite (s.wordWrites F.TCPD_SINKCFG_MODE p w fullWord)) :=
    .of_regs (State.fwWrite_wordWrites_regs reg settings port.2).1
  refine State.fwGroup_cases waits fun x member h f j home slot => (waits.trans ?_).trans
    (State.holdReleased_ready _ (sinkcfg_write_home port member home))
  exact .setFld _ j _ (holdSlot_apart slot)

theorem State.Waiting.put_false {g : Field} {v : Nat} (waits : s.Waiting g p v) (e : Field) (j : Nat) :
    (s.put e j false).Waiting g p v := waits.of_staged rfl

section
variable {g : Field} (listed : g ∈ sinkSettings) (wide : 0 < g.width)
  (whole : fullWord / 2 ^ g.lo % 2 ^ g.width = 2 ^ g.width - 1) (port : n ≤ 32)
include listed wide whole port

theorem pdSinkcfgAct_waits (writes : g.access = .rw) (s : State) :
    (pdSinkcfgAct w s n).2.Waiting g n (w / 2 ^ g.lo % 2 ^ g.width) := by
  obtain ⟨r, reg, fields⟩ := sinkcfg_register
  have settings : ∀ h ∈ r.fields, h ∈ pdSettings ++ sinkSettings := fun h there => List.mem_append_right _ (fields ▸ there)
  have waits := State.fwWrite_waits (s := s) (w := w) (mask := fullWord) reg settings port (fields ▸ listed) wide whole writes
  exact State.fwGroup_cases (P := State.Waiting g n (w / 2 ^ g.lo % 2 ^ g.width)) waits fun _ _ h f j _ _ =>
    (waits.put_false f j).holdReleased h

theorem pdSinkcfgAct_keeps (stands : s.Waiting g p (w / 2 ^ g.lo % 2 ^ g.width)) :
    (pdSinkcfgAct w s n).2.Waiting g p (w / 2 ^ g.lo % 2 ^ g.width) := by
  obtain ⟨r, reg, fields⟩ := sinkcfg_register
  have settings : ∀ h ∈ r.fields, h ∈ pdSettings ++ sinkSettings := fun h there => List.mem_append_right _ (fields ▸ there)
  have waits := State.fwWrite_keeps (s := s) (w := w) (mask := fullWord) reg settings port (fields ▸ listed) wide whole stands
  exact State.fwGroup_cases (P := State.Waiting g p (w / 2 ^ g.lo % 2 ^ g.width)) waits fun _ _ h f j _ _ =>
    (waits.put_false f j).holdReleased h

end

/-- The state that PD_SINKCFG leaves to its answer. -/
def State.pdSinkcfgDone (s : State) (f : Frame) : State :=
  (s.eachPort (whenReady (pdSinkcfgAct (word32 f.payload 4))) (maskPorts (word32 f.payload 0))).1

theorem pdSinkcfg_ready (member : p ∈ maskPorts m) (start : KeepsReady s t) :
    KeepsReady s (whenReady (pdSinkcfgAct w) t p).2 :=
  whenReady_keeps (start.trans (pdSinkcfgAct_ready t (low_of_member member))) start

theorem State.pdSinkcfgDone_waits {g : Field} (listed : g ∈ sinkSettings) (wide : 0 < g.width) (writes : g.access = .rw)
    (whole : fullWord / 2 ^ g.lo % 2 ^ g.width = 2 ^ g.width - 1) (member : p ∈ maskPorts (word32 f.payload 0))
    (ready : s.portReady p = true) : (s.pdSinkcfgDone f).Waiting g p (word32 f.payload 4 / 2 ^ g.lo % 2 ^ g.width) := by
  refine State.eachPort_establishes (q := KeepsReady s) (fun _ _ member start => pdSinkcfg_ready member start) ?_ ?_ member
    (.refl s)
  · intro t start
    rw [whenReady, start.portReady, if_pos ready]
    exact pdSinkcfgAct_waits listed wide whole (low_of_member member).2 writes t
  · intro t n other _ waits
    exact whenReady_keeps (pdSinkcfgAct_keeps listed wide whole (low_of_member other).2 waits) waits

theorem exec_pdSinkcfg (runs : (s.mbx.at ch).running = some f) (coded : f.code = 0x0306) (named : word32 f.payload 0 = m)
    (passes : s.maskFault ch m = 0) :
    exec (.pdSinkcfg ch) s
      = .next ((s.pdSinkcfgDone f).finish ch f ⟨(maskAnswer m s.portReady).1, 0, (maskAnswer m s.portReady).2⟩) := by
  subst named
  exact congrArg Host.Outcome.next (State.command_ends runs coded rfl
    (State.maskCommand_eq (act := pdSinkcfgAct (word32 f.payload 4)) (q := KeepsReady s) rfl passes
      (fun _ _ member start => pdSinkcfg_ready member start) (fun _ _ _ start => start.status rfl) (.refl s)))

theorem ofLe_lt (l : List Nat) : ofLe l < 256 ^ l.length := by
  induction l with
  | nil => decide
  | cons b l ih =>
    rw [ofLe, List.length_cons, Nat.pow_succ]
    omega

theorem word32_lt (l : List Nat) (o : Nat) : word32 l o < 2 ^ 32 := by
  have short : ((l.drop o).take 4).length ≤ 4 := List.length_take_le ..
  exact (ofLe_lt _).trans_le (Nat.pow_le_pow_right (by decide) short)

theorem pdSinkcfg_settings (runs : (s.mbx.at ch).running = some f) (coded : f.code = 0x0306) (named : word32 f.payload 0 = m)
    (passes : s.maskFault ch m = 0) :
    Completes (.pdSinkcfg ch) s fun t =>
      s.Answered t ch f (maskAnswer m s.portReady).1 0 (maskAnswer m s.portReady).2
        ∧ (s.NoneWaits → ∀ p ∈ maskPorts m, s.portReady p = true →
          t.stagedFld F.TCPD_SINKCFG_MODE p = word32 f.payload 4 / 2 % 2
          ∧ t.stagedFld F.TCPD_SINKCFG_ISET_A p = word32 f.payload 4 / 256 % 256
          ∧ t.stagedFld F.TCPD_SINKCFG_PDMAX p = word32 f.payload 4 / 2 ^ 26) := by
  have kept : KeepsReady s (s.pdSinkcfgDone f) :=
    State.eachPort_invariant (fun _ _ member start => pdSinkcfg_ready member start) (.refl s)
  refine ⟨_, exec_pdSinkcfg runs coded named passes, State.finish_answered _ _ _ kept.address, fun _ p member ready => ?_⟩
  subst named
  refine ⟨State.finish_waiting (State.pdSinkcfgDone_waits (by decide) (by decide) rfl (by decide) member ready) (by decide),
    State.finish_waiting (State.pdSinkcfgDone_waits (by decide) (by decide) rfl (by decide) member ready) (by decide), ?_⟩
  refine (State.finish_waiting (State.pdSinkcfgDone_waits (g := F.TCPD_SINKCFG_PDMAX) (by decide) (by decide) rfl (by decide)
    member ready) (by decide)).trans (Nat.mod_eq_of_lt ?_)
  have := word32_lt f.payload 4
  show word32 f.payload 4 / 2 ^ 26 < 2 ^ 6
  omega

end

end Sys2Proof.Machine
end

section
/-! What a Hard Reset, a claim and the end of a core's services leave: the messages on their way, the count of Hard Resets, and
the RESET bits of the cores (R245, R259, R266, R383). -/

namespace Sys2Proof.Machine

-- One proof at a time: a default argument `by decide` waits for the text before it, and each proof that waits takes a thread.
set_option Elab.async false

/-! ### The relation -/

/-- The RESET bit of each core stands. -/
def KeepsHeld (s t : State) : Prop := ∀ i, t.fld F.IC_CORECTL_RESET i = s.fld F.IC_CORECTL_RESET i

/-- The messages on their way to a partner, the counts of Hard Resets and the RESET bits of the cores stand. -/
structure KeepsResets (s t : State) : Prop where
  held : KeepsHeld s t
  counted : ∀ i, t.fld F.TCPD_PDCNT1_HRESETS i = s.fld F.TCPD_PDCNT1_HRESETS i
  out : ∀ q, (t.pd.at q).out = (s.pd.at q).out

section
variable {s t u : State} {m : Nat}

theorem KeepsHeld.refl (s : State) : KeepsHeld s s := fun _ => rfl

theorem KeepsHeld.trans (d : KeepsHeld s t) (e : KeepsHeld t u) : KeepsHeld s u := fun i => (e i).trans (d i)

theorem KeepsHeld.via (d : KeepsHeld s t) (e : Via m t u) (h : m.testBit 19 = false := by decide) : KeepsHeld s u :=
  d.trans fun i => e.fld F.IC_CORECTL_RESET i h

theorem KeepsHeld.setFld (d : KeepsHeld s t) {g : Field} {i v : Nat} (h : F.IC_CORECTL_RESET.id ≠ g.id := by decide) :
    KeepsHeld s (t.setFld g i v) := d.trans fun j => fld_setFld_ne t i j v h

theorem KeepsHeld.put (d : KeepsHeld s t) {g : Field} {i : Nat} {b : Bool} (h : F.IC_CORECTL_RESET.id ≠ g.id := by decide) :
    KeepsHeld s (t.put g i b) := d.setFld h

theorem KeepsHeld.putBit (d : KeepsHeld s t) {g : Field} {i n : Nat} {b : Bool}
    (h : F.IC_CORECTL_RESET.id ≠ g.id := by decide) : KeepsHeld s (t.putBit g i n b) := d.setFld h

theorem KeepsHeld.incr (d : KeepsHeld s t) {g : Field} {i : Nat} (h : F.IC_CORECTL_RESET.id ≠ g.id := by decide) :
    KeepsHeld s (t.incr g i) := d.setFld h

theorem KeepsHeld.irq (d : KeepsHeld s t) (n : Nat) : KeepsHeld s (t.irq n) := d.trans fun i => t.irq_fld n i (by decide)

theorem KeepsHeld.ite {c : Prop} [Decidable c] (d : KeepsHeld s t) (e : KeepsHeld s u) : KeepsHeld s (if c then t else u) := by
  split <;> assumption

theorem KeepsHeld.each {g : State → Nat → State} {xs : List Nat} (d : KeepsHeld s t) (h : ∀ s n, KeepsHeld s (g s n)) :
    KeepsHeld s (t.each xs g) := by
  induction xs generalizing t with
  | nil => exact d
  | cons n xs ih => exact ih (d.trans (h t n))

theorem KeepsResets.refl (s : State) : KeepsResets s s := ⟨.refl s, fun _ => rfl, fun _ => rfl⟩

theorem KeepsResets.trans (d : KeepsResets s t) (e : KeepsResets t u) : KeepsResets s u :=
  ⟨d.held.trans e.held, fun i => (e.counted i).trans (d.counted i), fun q => (e.out q).trans (d.out q)⟩

theorem KeepsResets.of_via (e : Via m s t) (h : m.testBit 10 = false ∧ m.testBit 19 = false ∧ m.testBit 42 = false := by decide) :
    KeepsResets s t :=
  ⟨fun i => e.fld _ i h.2.1, fun i => e.fld _ i h.1, fun q => congrArg (fun l : Tbl PdPort => (l.at q).out) (e.same .pd h.2.2)⟩

theorem KeepsResets.via (d : KeepsResets s t) (e : Via m t u)
    (h : m.testBit 10 = false ∧ m.testBit 19 = false ∧ m.testBit 42 = false := by decide) : KeepsResets s u :=
  d.trans (.of_via e h)

theorem KeepsResets.setFld (d : KeepsResets s t) {g : Field} {i v : Nat}
    (h : F.IC_CORECTL_RESET.id ≠ g.id ∧ F.TCPD_PDCNT1_HRESETS.id ≠ g.id := by decide) : KeepsResets s (t.setFld g i v) :=
  d.trans ⟨fun j => fld_setFld_ne t i j v h.1, fun j => fld_setFld_ne t i j v h.2, fun _ => rfl⟩

theorem KeepsResets.put (d : KeepsResets s t) {g : Field} {i : Nat} {b : Bool}
    (h : F.IC_CORECTL_RESET.id ≠ g.id ∧ F.TCPD_PDCNT1_HRESETS.id ≠ g.id := by decide) : KeepsResets s (t.put g i b) := d.setFld h

theorem KeepsResets.putBit (d : KeepsResets s t) {g : Field} {i n : Nat} {b : Bool}
    (h : F.IC_CORECTL_RESET.id ≠ g.id ∧ F.TCPD_PDCNT1_HRESETS.id ≠ g.id := by decide) : KeepsResets s (t.putBit g i n b) :=
  d.setFld h

theorem KeepsResets.incr (d : KeepsResets s t) {g : Field} {i : Nat}
    (h : F.IC_CORECTL_RESET.id ≠ g.id ∧ F.TCPD_PDCNT1_HRESETS.id ≠ g.id := by decide) : KeepsResets s (t.incr g i) := d.setFld h

theorem KeepsResets.irq (d : KeepsResets s t) (n : Nat) : KeepsResets s (t.irq n) :=
  d.trans ⟨fun i => t.irq_fld n i (by decide), fun i => t.irq_fld n i (by decide),
    fun q => congrArg (fun l : Tbl PdPort => (l.at q).out) ((State.irq_via t n).same .pd (by decide))⟩

theorem State.updPd_out (s : State) (p q : Nat) {f : PdPort → PdPort} (h : ∀ r, (f r).out = r.out) :
    ((s.updPd p f).pd.at q).out = (s.pd.at q).out := by
  rw [State.updPd]
  dsimp only
  by_cases here : q = p
  · rw [here, Tbl.at_upd_self]
    exact h _
  · rw [Tbl.at_upd_ne _ _ here]

theorem KeepsResets.updPd (d : KeepsResets s t) {p : Nat} {f : PdPort → PdPort} (h : ∀ r, (f r).out = r.out := by intro r; rfl) :
    KeepsResets s (t.updPd p f) :=
  d.trans ⟨fun _ => rfl, fun _ => rfl, fun q => t.updPd_out p q h⟩

theorem KeepsResets.ite {c : Prop} [Decidable c] (d : KeepsResets s t) (e : KeepsResets s u) :
    KeepsResets s (if c then t else u) := by
  split <;> assumption

theorem KeepsResets.each {g : State → Nat → State} {xs : List Nat} (d : KeepsResets s t) (h : ∀ s n, KeepsResets s (g s n)) :
    KeepsResets s (t.each xs g) := by
  induction xs generalizing t with
  | nil => exact d
  | cons n xs ih => exact ih (d.trans (h t n))

end

variable (s : State) (p n : Nat)

/-! ### Power and contracts -/

theorem State.setPwr_keepsResets (d : Pwr) : KeepsResets s (s.setPwr p d) := by
  unfold State.setPwr
  extract_lets changed s₁ s₂ s₃ s₄ s₅ s₆
  have shown : KeepsResets s s₃ := .put (.put (.setFld (.refl s)))
  have limited : KeepsResets s s₄ := .ite shown (.put (.put shown))
  have gates : KeepsResets s s₅ := .via (.ite limited (.put limited)) (State.updPwr_via ..)
  have sink : KeepsResets s s₆ := .via gates (State.dischSink_via ..)
  exact .via (.ite (.via (.irq sink _) (State.updPwr_via ..)) sink) (State.levels_via ..)

theorem State.sinkOpen_keepsResets : KeepsResets s (s.sinkOpen p) := by
  unfold State.sinkOpen
  extract_lets s₁
  have opened : KeepsResets s s₁ := .setFld (.put (.put (.refl s)))
  exact .ite (opened.trans (State.setPwr_keepsResets _ p _)) opened

theorem State.govRefresh_keepsResets : KeepsResets s s.govRefresh := by
  unfold State.govRefresh
  refine .ite ?_ (.refl s)
  extract_lets total old s₁ s₂
  have counted : KeepsResets s s₁ := .setFld (.refl s)
  have pulsed : KeepsResets s s₂ := .ite (.irq counted 12) counted
  exact .each pulsed fun s p => .ite (.setFld (.refl s)) (.refl s)

theorem State.rpEvaluate_keepsResets : KeepsResets s (s.rpEvaluate p) := by
  unfold State.rpEvaluate
  extract_lets l s₁ s₂
  have presented : KeepsResets s s₂ := .setFld (.via (.refl s) (State.updGov_via ..))
  exact .trans (.ite (.incr presented) presented) (State.govRefresh_keepsResets _)

theorem State.vsetUpdate_keepsResets : KeepsResets s (s.vsetUpdate p) := by
  unfold State.vsetUpdate
  extract_lets v ramps s₁
  refine .ite (.refl s) ?_
  have moved : KeepsResets s s₁ := .via (.refl s) (State.updPwr_via ..)
  exact .ite (moved.trans (State.setPwr_keepsResets _ p _)) moved

theorem State.pwrUpdate_keepsResets : KeepsResets s (s.pwrUpdate p) :=
  .ite (s.setPwr_keepsResets p _) (.ite (s.setPwr_keepsResets p _) (.of_via (State.levels_via ..)))

theorem State.contractEnd_keepsResets : KeepsResets s (s.contractEnd p) := by
  unfold State.contractEnd
  extract_lets _ s₁ s₂ s₃ s₄ s₅ s₆ s₇
  have cleared : KeepsResets s s₃ := .setFld (.put (.put (.put (.setFld (.setFld (.setFld (.setFld (.refl s))))))))
  have forgotten : KeepsResets s s₅ := .via (.updPd cleared) (State.updGov_via ..)
  have noticed : KeepsResets s s₆ := .ite (.via forgotten (State.notice_via ..)) forgotten
  have counted : KeepsResets s s₇ :=
    .ite (noticed.trans (State.rpEvaluate_keepsResets _ p)) (noticed.trans (State.govRefresh_keepsResets _))
  exact .ite (.via (counted.trans (State.vsetUpdate_keepsResets _ p)) (State.levels_via ..)) counted

/-! ### The CC logic -/

theorem State.setCc_keepsResets (c : Cc) : KeepsResets s (s.setCc p c) := .ite (.refl s) (.irq (.setFld (.refl s)) _)

theorem State.vconnOff_keepsResets : KeepsResets s (s.vconnOff p) :=
  .via (.put (.put (.setFld (.put (.refl s))))) (State.updCc_via ..)

theorem State.rpOff_keepsResets : KeepsResets s (s.rpOff p) := .via (.setFld (.refl s)) (State.updGov_via ..)

theorem State.identityClear_keepsResets : KeepsResets s (s.identityClear p) := by
  unfold State.identityClear
  extract_lets s₁ s₂ s₃ s₄ s₅
  have noticed : KeepsResets s s₁ := .ite (.irq (.refl s) _) (.refl s)
  have cleared : KeepsResets s s₃ := .setFld (.setFld (.setFld (.setFld (.setFld (.setFld noticed)))))
  have gone : KeepsResets s s₅ := .setFld (.setFld (.setFld (.setFld (.setFld cleared))))
  exact .via gone (State.updCc_via ..)

theorem State.connReset_keepsResets : KeepsResets s (s.connReset p) := by
  unfold State.connReset
  extract_lets s₁ s₂ s₃ s₄
  have cleared : KeepsResets s s₂ := .put (.put (.put (.put (.put (.setFld (.refl s))))))
  have forgotten : KeepsResets s s₃ := .updPd cleared
  exact .via (.via forgotten (State.updPwr_via ..)) (State.updCc_via ..)

theorem State.unattached_keepsResets (snk : Bool) : KeepsResets s (s.unattached p snk) :=
  .via (.ite ((s.setCc_keepsResets p _).trans (State.rpOff_keepsResets _ p))
    ((s.setCc_keepsResets p _).trans (State.rpEvaluate_keepsResets _ p))) (State.levels_via ..)

theorem State.ccLeave_keepsResets (c : Cc) : KeepsResets s (s.ccLeave p c) := by
  unfold State.ccLeave
  extract_lets s₁ s₂ s₃ s₄
  have left : KeepsResets s s₂ := .put (.put (.setFld ((s.setCc_keepsResets p c).trans (State.vconnOff_keepsResets _ p))))
  have ended : KeepsResets s s₃ := (left.trans (State.rpOff_keepsResets _ p)).trans
    ((State.identityClear_keepsResets _ p).trans (State.contractEnd_keepsResets _ p))
  have gone : KeepsResets s s₄ := .trans (.setFld ended) (State.connReset_keepsResets _ p)
  exact .ite (gone.trans ((State.sinkOpen_keepsResets _ p).trans
    ((State.pwrUpdate_keepsResets _ p).trans (State.govRefresh_keepsResets _)))) gone

theorem State.disableCore_keepsResets : KeepsResets s (s.disableCore p) :=
  .via (.put (s.ccLeave_keepsResets p .disabled)) (State.updCc_via ..)

theorem State.clearLatchCore_keepsResets {t : State} (h : s.clearLatchCore p = some t) : KeepsResets s t := by
  unfold State.clearLatchCore at h
  split at h
  · cases h
  · split at h
    · extract_lets s₁ s₂ at h
      have logged : KeepsResets s s₂ := .via (.via (.trans (.setFld (.refl s)) (State.setPwr_keepsResets _ p _))
        (State.logPort_via ..)) (State.refresh_via ..)
      cases h
      exact .ite logged (logged.trans (State.ccLeave_keepsResets _ p .errorRecovery))
    · cases h
      exact .refl s

theorem State.leaveDisabled_keepsResets : KeepsResets s (s.leaveDisabled p) := by
  unfold State.leaveDisabled
  extract_lets s₁
  have left : KeepsResets s (s₁.updCc p fun r => { r with hostOff := false }) :=
    .via (State.unattached_keepsResets ..) (State.updCc_via ..)
  refine .ite ?_ left
  split
  · next t h => exact left.trans (State.clearLatchCore_keepsResets _ p h)
  · exact .via (State.unattached_keepsResets ..) (State.latchRefused_via ..)

theorem State.tryLeaveDisabled_keepsResets : KeepsResets s (s.tryLeaveDisabled p) :=
  .ite (s.leaveDisabled_keepsResets p) (.refl s)

theorem State.sinkBlockUpdate_keepsResets : KeepsResets s (s.sinkBlockUpdate n) := by
  refine .each (.refl s) fun s p => .ite ?_ (.refl s)
  extract_lets b role s₁
  have blocked : KeepsResets s s₁ := .putBit (.put (.refl s))
  exact .ite (.ite blocked (blocked.trans (State.disableCore_keepsResets _ p)))
    (.ite (blocked.trans (State.unattached_keepsResets _ p _)) (blocked.trans (State.tryLeaveDisabled_keepsResets _ p)))

theorem State.takeClaim_keepsResets : KeepsResets s (s.takeClaim p) :=
  .trans (.put (.refl s)) (State.sinkBlockUpdate_keepsResets _ _)

theorem State.releaseClaim_keepsResets : KeepsResets s (s.releaseClaim p) :=
  .ite (.trans (.put (.refl s)) (State.sinkBlockUpdate_keepsResets _ _)) (.refl s)

/-! ### The end of a core's services -/

theorem State.swapDropped_keepsResets (e : SwapEnd) : KeepsResets s (s.swapDropped p e) := by
  unfold State.swapDropped
  extract_lets s₁
  have released : KeepsResets s s₁ := .ite (s.releaseClaim_keepsResets p) (.refl s)
  exact .put (.put (.updPd released))

theorem State.holdStart_keepsResets : KeepsResets s (s.holdStart p) := by
  unfold State.holdStart
  refine .ite ?_ (.refl s)
  extract_lets dropped s₁ s₂ s₃ s₄ s₅ s₆
  have stopped : KeepsResets s s₂ := .updPd (.put (.put (.refl s)))
  have ended : KeepsResets s s₃ := stopped.trans (State.swapDropped_keepsResets _ p _)
  have paid : KeepsResets s s₅ := .setFld (.via ended (State.updGov_via ..))
  exact .via (.ite (paid.trans ((State.vsetUpdate_keepsResets _ p).trans (State.govRefresh_keepsResets _))) ended)
    (State.logPort_via ..)

theorem State.policyStops_keepsResets (c : Nat) : KeepsResets s (s.policyStops c) :=
  .each (.refl s) fun s p => s.holdStart_keepsResets p

end Sys2Proof.Machine
end

section
/-! PD_SWAP and the start of PD_STATUS with QUERY (R260, R263 to R265, R452): a message goes to the partner, and the command waits. -/

namespace Sys2Proof.Machine

-- One proof at a time: a default argument `by decide` waits for the text before it, and each proof that waits takes a thread.
set_option Elab.async false

/-! ### Messages -/

section
variable {s t : State} {ch p q : Nat} {f : Frame}

theorem State.updPd_self (s : State) (p : Nat) (f : PdPort → PdPort) : (s.updPd p f).pd.at p = f (s.pd.at p) := by
  rw [State.updPd, Tbl.at_upd_self]

theorem State.updPd_on (s : State) (p : Nat) (f : PdPort → PdPort) (g : Field) (i : Nat) : (s.updPd p f).on g i = s.on g i := rfl

theorem State.hush_out (s : State) (p : Nat) : ((s.hush p).pd.at p).out = [] := by
  rw [State.hush, State.updPd_self]

theorem State.send_out (s : State) (p : Nat) (m : PdMsg) : ((s.send p m).pd.at p).out = (s.pd.at p).out ++ [m] := by
  rw [State.send, State.updPd_self]

/-- What was sent before is no part of what keeps an AMS under way. -/
theorem State.hush_amsOn (s : State) (p q : Nat) : (s.hush p).amsOn q = s.amsOn q := by
  have held : (s.hush p).amsHeld q = s.amsHeld q := by
    by_cases here : q = p
    · subst here
      rw [State.amsHeld, State.hush, State.updPd_self, State.amsHeld]
    · have other : (s.hush p).pd.at q = s.pd.at q := by
        rw [State.hush, State.updPd]
        dsimp only
        rw [Tbl.at_upd_ne _ _ here]
      rw [State.amsHeld, other, State.amsHeld]
  exact congrArg (s.on F.TCPD_PDSTAT_AMS q || ·) held

/-! ### What settles while an AMS is under way -/

theorem State.amsOn_of_on (ams : s.on F.TCPD_PDSTAT_AMS p = true) : s.amsOn p = true := by
  rw [State.amsOn, ams, Bool.true_or]

/-- While an AMS is under way nothing goes to the partner but Rp's level (R250, R265). -/
theorem pdSettle_of_ams (busy : s.amsOn p = true) : pdSettle p s = if s.pdLive p then s.sinkTx p else s := by
  have quiet : s.identityDue p = false := by
    rw [State.identityDue, busy]
    simp
  unfold pdSettle
  simp only [busy, quiet, Bool.not_true, Bool.and_false, Bool.false_eq_true, if_false, if_true]

theorem pdSettle_via_of_ams (busy : s.amsOn p = true) : Via 1024 s (pdSettle p s) := by
  rw [pdSettle_of_ams busy]
  exact .ite _ (State.sinkTx_via ..) (.refl s)

theorem pdSettle_on_ams (ams : s.on F.TCPD_PDSTAT_AMS p = true) : (pdSettle p s).on F.TCPD_PDSTAT_AMS p = true := by
  rw [pdSettle_of_ams (State.amsOn_of_on ams)]
  split
  · unfold State.sinkTx
    split
    · exact (State.on_of_fld (fld_setFld_ne s p p _ (by decide))).trans ams
    · exact ams
  · exact ams

/-! ### A command that waits -/

theorem State.waits_stage (s : State) (ch : Nat) : ((s.waits ch).mbx.at ch).stage = 1 := by
  rw [State.waits, State.updCh, Tbl.at_upd_self]

theorem State.waits_running (s : State) (ch : Nat) : ((s.waits ch).mbx.at ch).running = (s.mbx.at ch).running := by
  rw [State.waits, State.updCh, Tbl.at_upd_self]

/-- A message was sent under an AMS of this port: what settles next and the command's wait leave the port's record. -/
theorem settled_waits (ams : t.on F.TCPD_PDSTAT_AMS p = true) (channels : t.mbx = s.mbx)
    (runs : (s.mbx.at ch).running = some f) :
    ((pdSettle p t).waits ch).pd = t.pd ∧ ((pdSettle p t).waits ch).on F.TCPD_PDSTAT_AMS p = true
      ∧ (((pdSettle p t).waits ch).mbx.at ch).stage = 1 ∧ (((pdSettle p t).waits ch).mbx.at ch).running = some f := by
  have settled := pdSettle_via_of_ams (State.amsOn_of_on ams)
  refine ⟨settled.same .pd (by decide), pdSettle_on_ams ams, State.waits_stage .., ?_⟩
  rw [State.waits_running, settled.mbx (by decide), channels, runs]

end

/-! ### PD_STATUS with QUERY, as it starts -/

/-- Get_Sink_Cap has been sent (R265). -/
def State.querySent (s : State) (p : Nat) : State :=
  (((s.hush p).send p .getSinkCap).put F.TCPD_PDSTAT_AMS p true).updPd p fun r => { r with query := 1, ownAms := true }

section
variable (s : State) (p : Nat)

theorem State.querySent_ams : (s.querySent p).on F.TCPD_PDSTAT_AMS p = true := by
  rw [State.querySent, State.updPd_on, State.on_put_self _ _ _ rfl]

theorem State.querySent_mbx : (s.querySent p).mbx = s.mbx := by
  have sent : ((s.hush p).send p .getSinkCap).mbx = s.mbx :=
    ((State.send_via ..).mbx (by decide)).trans ((State.hush_via s p).mbx (by decide))
  rw [State.querySent, State.updPd_mbx, State.put_mbx, sent]

theorem State.querySent_record : ((s.querySent p).pd.at p).out = [.getSinkCap] ∧ ((s.querySent p).pd.at p).query = 1 := by
  rw [State.querySent, State.updPd_self]
  refine ⟨?_, rfl⟩
  dsimp only
  rw [State.put, State.setFld_pd, State.send_out, State.hush_out, List.nil_append]

end

section
variable {s : State} {ch p : Nat} {f : Frame} (runs : (s.mbx.at ch).running = some f) (coded : f.code = 0x0301)
  (asks : f.opt.testBit 0 = true) (named : maskPorts (word32 f.payload 0) = [p]) (fresh : (s.mbx.at ch).stage = 0)
  (passes : s.maskFault ch (word32 f.payload 0) = 0)
include runs coded asks named fresh passes

theorem pdStatusQuery_sends (ready : s.portReady p = true) (live : s.pdLive p = true) (contracted : s.contracted p = true)
    (source : s.on F.TCPD_PDSTAT_PROLE p = true) (free : s.amsOn p = false) :
    Completes (.pdStatusQuery ch) s fun t =>
      (t.pd.at p).out = [.getSinkCap] ∧ (t.pd.at p).query = 1 ∧ (t.mbx.at ch).stage = 1
        ∧ (t.mbx.at ch).running = some f ∧ t.on F.TCPD_PDSTAT_AMS p = true := by
  obtain ⟨record, on, stage, running⟩ := settled_waits (s.querySent_ams p) (s.querySent_mbx p) runs
  refine ⟨_, exec_pdStatusQuery_sends runs coded asks named fresh passes ready live contracted source free, ?_, ?_, stage,
    running, on⟩
  · exact (congrArg (fun l : Tbl PdPort => (l.at p).out) record).trans (s.querySent_record p).1
  · exact (congrArg (fun l : Tbl PdPort => (l.at p).query) record).trans (s.querySent_record p).2

end

/-! ### A swap -/

/-- A swap's message has been sent: what stands then (R260, R264). -/
structure SwapSent (s t : State) (p : Nat) (m : PdMsg) (w : Swap) : Prop where
  out : (t.pd.at p).out = [m]
  swap : (t.pd.at p).swap = w
  pending : (t.pd.at p).swapEnd = .pending
  ams : t.on F.TCPD_PDSTAT_AMS p = true
  channels : t.mbx = s.mbx

section
variable {s : State} {p : Nat}

theorem swapSent_intro {t : State} {m : PdMsg} {w : Swap} (none : (t.pd.at p).out = []) (channels : t.mbx = s.mbx) :
    SwapSent s (((t.put F.TCPD_PDSTAT_AMS p true).updPd p fun r =>
      { r with swap := w, swapEnd := .pending, ownAms := true }).send p m) p m w where
  out := (State.send_out ..).trans (by rw [State.updPd_self]; exact congrArg (· ++ [m]) none)
  swap := by rw [State.send, State.updPd_self, State.updPd_self]
  pending := by rw [State.send, State.updPd_self, State.updPd_self]
  ams := State.on_put_self (f := F.TCPD_PDSTAT_AMS) t p true rfl
  channels := channels

/-- What lets a port start PR_Swap (R260, R263). -/
def State.prSwapReady (s : State) (p : Nat) : Bool :=
  s.policyOn p && (if s.on F.TCPD_PDSTAT_PROLE p then s.ccIs p .attachedSrc && s.prSwapAnswer p [] == 0
    else s.ccIs p .attachedSnk && !s.amsOn p && s.sinkTxOk p)

/-- The state in which PR_Swap goes out: a source has taken its claim (R260). -/
def State.prSwapClaimed (s : State) (p : Nat) : State := if s.on F.TCPD_PDSTAT_PROLE p then s.takeClaim p else s

theorem State.prSwapSend_eq (s : State) (p : Nat) : s.prSwapSend p = if s.prSwapReady p then
    some ((((s.prSwapClaimed p).put F.TCPD_PDSTAT_AMS p true).updPd p fun r =>
      { r with swap := .prSent, swapEnd := .pending, ownAms := true }).send p .prSwap) else none := rfl

theorem State.hush_prSwapReady (s : State) (p : Nat) : (s.hush p).prSwapReady p = s.prSwapReady p := by
  have answer : (s.hush p).prSwapAnswer p [] = s.prSwapAnswer p [] := by
    unfold State.prSwapAnswer
    rw [s.hush_amsOn p]
    rfl
  unfold State.prSwapReady
  rw [answer, s.hush_amsOn p]
  rfl

theorem State.prSwapSend_isSome (s : State) (p : Nat) : (s.prSwapSend p).isSome = s.prSwapReady p := by
  rw [State.prSwapSend_eq]
  by_cases ready : s.prSwapReady p = true
  · rw [if_pos ready, Option.isSome_some, ready]
  · rw [if_neg ready, Option.isSome_none, Bool.eq_false_of_not_eq_true ready]

theorem State.prSwapSend_hush_isSome (s : State) (p : Nat) : ((s.hush p).prSwapSend p).isSome = (s.prSwapSend p).isSome := by
  rw [State.prSwapSend_isSome, State.prSwapSend_isSome, s.hush_prSwapReady p]

theorem prSwapSend_sent (sends : (s.prSwapSend p).isSome = true) :
    ∃ t, (s.hush p).prSwapSend p = some t ∧ SwapSent s t p .prSwap .prSent := by
  rw [State.prSwapSend_isSome, ← s.hush_prSwapReady p] at sends
  rw [State.prSwapSend_eq, if_pos sends]
  refine ⟨_, rfl, swapSent_intro ?_ ?_⟩
  · unfold State.prSwapClaimed
    split
    · exact ((State.takeClaim_keepsResets (s.hush p) p).out p).trans (s.hush_out p)
    · exact s.hush_out p
  · unfold State.prSwapClaimed
    split
    · exact (State.takeClaim_via ..).mbx (by decide)
    · rfl

/-- What lets a port start VCONN_Swap (R264). -/
def State.vconnSwapReady (s : State) (p : Nat) : Bool :=
  s.policyOn p && s.ccIn p [.attachedSrc, .attachedSnk] && !s.amsOn p && s.on F.TCPD_PDCFG_VCS_EN p
    && (s.on F.TCPD_PDSTAT_VCSRC p || s.vconnAllowed p) && s.sinkTxOk p

theorem State.vconnSwapSend_eq (s : State) (p : Nat) : s.vconnSwapSend p = if s.vconnSwapReady p then
    some (((s.put F.TCPD_PDSTAT_AMS p true).updPd p fun r =>
      { r with swap := .vconnSent, swapEnd := .pending, ownAms := true }).send p .vconnSwap) else none := rfl

theorem State.hush_vconnSwapReady (s : State) (p : Nat) : (s.hush p).vconnSwapReady p = s.vconnSwapReady p := by
  unfold State.vconnSwapReady
  rw [s.hush_amsOn p]
  rfl

theorem State.vconnSwapSend_isSome (s : State) (p : Nat) : (s.vconnSwapSend p).isSome = s.vconnSwapReady p := by
  rw [State.vconnSwapSend_eq]
  by_cases ready : s.vconnSwapReady p = true
  · rw [if_pos ready, Option.isSome_some, ready]
  · rw [if_neg ready, Option.isSome_none, Bool.eq_false_of_not_eq_true ready]

theorem State.vconnSwapSend_hush_isSome (s : State) (p : Nat) : ((s.hush p).vconnSwapSend p).isSome = (s.vconnSwapSend p).isSome := by
  rw [State.vconnSwapSend_isSome, State.vconnSwapSend_isSome, s.hush_vconnSwapReady p]

theorem vconnSwapSend_sent (sends : (s.vconnSwapSend p).isSome = true) :
    ∃ t, (s.hush p).vconnSwapSend p = some t ∧ SwapSent s t p .vconnSwap .vconnSent := by
  rw [State.vconnSwapSend_isSome, ← s.hush_vconnSwapReady p] at sends
  rw [State.vconnSwapSend_eq, if_pos sends]
  exact ⟨_, rfl, swapSent_intro (s.hush_out p) rfl⟩

end

/-! ### PD_SWAP -/

section
variable {s : State} {ch p code : Nat} {f : Frame} {c : Instr} {form : Frame → Bool} {run : State → Frame → State × Option Reply}
  {go : State → Nat → Option State} (exec_eq : exec c s = .next (s.command ch code form run))
  (runs : (s.mbx.at ch).running = some f) (coded : f.code = code) (formed : form f = true) (acts : run s f = s.swapCmd ch p go)
include exec_eq runs coded formed acts

section
variable (fresh : (s.mbx.at ch).stage = 0)
include fresh

theorem swap_faults (fault : s.namedFault ch p ≠ 0) :
    Completes c s fun t => s.Answered t ch f (s.namedFault ch p) 0 [] ∧ (s.NoneWaits → t.pd = s.pd) := by
  obtain ⟨t, ran, answered, record, -⟩ :=
    completes_refused exec_eq runs coded formed (acts.trans ((if_pos fresh).trans (if_pos fault)))
  exact ⟨t, ran, answered, record⟩

section
variable (free : s.namedFault ch p = 0)
include free

theorem swap_sends {m : PdMsg} {w : Swap} (ready : s.portReady p = true)
    (sends : ∃ t, go (s.hush p) p = some t ∧ SwapSent s t p m w) :
    Completes c s fun t =>
      (t.pd.at p).out = [m] ∧ (t.pd.at p).swap = w ∧ (t.pd.at p).swapEnd = .pending
        ∧ t.on F.TCPD_PDSTAT_AMS p = true ∧ (t.mbx.at ch).stage = 1 ∧ (t.mbx.at ch).running = some f := by
  obtain ⟨t, gone, sent⟩ := sends
  have goes : run s f = ((pdSettle p t).waits ch, none) := by
    rw [acts, State.swapCmd, if_pos fresh, if_neg (not_not.mpr free), if_pos ready, gone]
  obtain ⟨record, ams, stage, running⟩ := settled_waits sent.ams sent.channels runs
  refine ⟨_, exec_eq.trans (congrArg _ (State.command_goesOn runs coded formed goes)), ?_, ?_, ?_, ams, stage, running⟩
  · rw [record, sent.out]
  · rw [record, sent.swap]
  · rw [record, sent.pending]

theorem swap_bars (barred : s.portReady p = false ∨ (go (s.hush p) p).isNone = true) :
    Completes c s fun t =>
      s.Answered t ch f Status.state 0 [] ∧ (s.NoneWaits → (t.pd.at p).out = (s.pd.at p).out) := by
  have refuses : run s f = s.refuse Status.state := by
    rw [acts, State.swapCmd, if_pos fresh, if_neg (not_not.mpr free)]
    by_cases ready : s.portReady p = true
    · have stays : go (s.hush p) p = none := by
        rcases barred with off | none
        · rw [off] at ready
          cases ready
        · exact Option.isNone_iff_eq_none.mp none
      rw [if_pos ready, stays]
    · rw [if_neg ready]
  obtain ⟨t, ran, answered, record, -⟩ := completes_refused exec_eq runs coded formed refuses
  exact ⟨t, ran, answered, fun idle => by rw [record idle]⟩

end

end

section
variable (under : (s.mbx.at ch).stage ≠ 0) (kept : s.rightsLost ch p = 0)
include under kept

theorem swap_ends (ended : (s.pd.at p).swapEnd ≠ .pending) :
    Completes c s fun t => s.Answered t ch f 0 0 [(s.pd.at p).swapEnd.code] :=
  completes_gives exec_eq runs coded formed
    (acts.trans ((if_neg under).trans ((if_neg (not_not.mpr kept)).trans (if_neg ended))))

theorem swap_holds (pending : (s.pd.at p).swapEnd = .pending) : Completes c s fun t => t = s :=
  completes_waits exec_eq runs coded formed
    (acts.trans ((if_neg under).trans ((if_neg (not_not.mpr kept)).trans (if_pos pending))))

end

end

section
variable {s : State} {ch p : Nat} {f : Frame}

/-- What PD_SWAP with selector 1 or more does (R264, R452). -/
def pdSwapVconnRun (ch : Nat) (s : State) (f : Frame) : State × Option Reply :=
  let bad := s.namedFault ch (byteAt f.payload 0)
  if bad = 0 ∧ 1 < byteAt f.payload 1 then s.refuse Status.badArg else s.swapCmd ch (byteAt f.payload 0) State.vconnSwapSend

theorem pdSwapVconnRun_eq (selects : byteAt f.payload 1 = 1) (named : byteAt f.payload 0 = p) :
    pdSwapVconnRun ch s f = s.swapCmd ch p State.vconnSwapSend := by
  subst named
  exact if_neg fun h => absurd h.2 (by omega)

theorem exec_pdSwapVconn :
    exec (.pdSwapVconn ch) s = .next (s.command ch 0x0304 (fun f => byteAt f.payload 1 != 0) (pdSwapVconnRun ch)) := rfl

/-- What PD_SWAP with selector 0 does (R260, R452). -/
def pdSwapPrRun (ch : Nat) (s : State) (f : Frame) : State × Option Reply := s.swapCmd ch (byteAt f.payload 0) State.prSwapSend

theorem pdSwapPrRun_eq (named : byteAt f.payload 0 = p) : pdSwapPrRun ch s f = s.swapCmd ch p State.prSwapSend := by
  subst named
  rfl

theorem exec_pdSwapPr :
    exec (.pdSwapPr ch) s = .next (s.command ch 0x0304 (fun f => byteAt f.payload 1 == 0) (pdSwapPrRun ch)) := rfl

end

end Sys2Proof.Machine
end

section
/-! PD_RESET (R233, R247, R266, R452): Soft Reset, Hard Reset and Cable Reset. -/

namespace Sys2Proof.Machine

-- One proof at a time: a default argument `by decide` waits for the text before it, and each proof that waits takes a thread.
set_option Elab.async false

/-! ### What a reset sends -/

section
variable (s : State) (p : Nat)

theorem State.send_fld (m : PdMsg) (g : Field) (i : Nat) : (s.send p m).fld g i = s.fld g i := rfl

/-- A Hard Reset counts itself, sends its signal, and leaves both (R266). -/
theorem State.hardReset_keeps :
    KeepsResets (((s.incr F.TCPD_PDCNT1_HRESETS p).updPd p fun r => { r with hardResets := r.hardResets + 1 }).send p .hardReset)
      (s.hardReset p true) := by
  unfold State.hardReset
  extract_lets s₁ s₂ s₃ s₄ s₅ paid s₆ s₇ s₈ s₉ s₁₀ off s₁₁ s₁₂ s₁₃
  have sent : s₂ = (s₁.updPd p fun r => { r with hardResets := r.hardResets + 1 }).send p .hardReset := if_pos rfl
  rw [← sent]
  have forgotten : KeepsResets s₂ s₄ := .setFld (.put (.updPd (.refl s₂)))
  clear_value s₂
  have opened : KeepsResets s₂ s₅ :=
    .ite (.trans (.via forgotten (State.updPwr_via ..)) (State.sinkOpen_keepsResets _ p)) forgotten
  refine .ite (opened.trans (State.contractEnd_keepsResets _ p)) ?_
  have cleared : KeepsResets s₂ s₆ := .via (opened.trans ((State.releaseClaim_keepsResets _ p).trans
    ((State.vconnOff_keepsResets _ p).trans (State.identityClear_keepsResets _ p)))) (State.updCc_via ..)
  have source : KeepsResets s₂ s₈ := .put (.put (.ite (cleared.trans (State.setCc_keepsResets _ p _)) cleared))
  have ended : KeepsResets s₂ s₉ := source.trans (State.contractEnd_keepsResets _ p)
  have presented : KeepsResets s₂ s₁₀ := .ite (ended.trans (State.rpEvaluate_keepsResets _ p)) ended
  have granted : KeepsResets s₂ s₁₁ :=
    .ite presented (.trans (.via presented (State.updGov_via ..)) (State.govRefresh_keepsResets _))
  have stepped : KeepsResets s₂ s₁₂ := .updPd granted
  have timed : KeepsResets s₂ s₁₃ := .ite (.via stepped (State.updPwr_via ..)) stepped
  exact .trans (.put timed) (State.pwrUpdate_keepsResets _ p)

theorem State.hardReset_counted :
    (s.hardReset p true).fld F.TCPD_PDCNT1_HRESETS p = (s.fld F.TCPD_PDCNT1_HRESETS p + 1) % 2 ^ 16 := by
  rw [(s.hardReset_keeps p).counted, State.send_fld, State.updPd_fld, State.incr_fld_self]
  rfl

theorem State.hardReset_out : ((s.hardReset p true).pd.at p).out = (s.pd.at p).out ++ [.hardReset] := by
  rw [(s.hardReset_keeps p).out, State.send_out, State.updPd_self]
  rfl

theorem State.softReset_counted :
    (s.softReset p).fld F.TCPD_PDCNT1_SRESETS p = (s.fld F.TCPD_PDCNT1_SRESETS p + 1) % 2 ^ 16 := by
  rw [State.softReset, State.send_fld, State.ownBegin, State.fld_put_ne _ _ _ _ (by decide), State.updPd_fld, State.updPd_fld,
    State.incr_fld_self]
  rfl

theorem State.softReset_out : ((s.softReset p).pd.at p).out = (s.pd.at p).out ++ [.softReset] := by
  rw [State.softReset, State.send_out, State.ownBegin, State.put, State.setFld_pd, State.updPd_self, State.updPd_self]
  rfl

end

/-! ### What follows a Cable Reset -/

/-- No message that waits is dropped, the cable's identity stays as it is, and no more timed actions wait. -/
structure SendsOn (s t : State) : Prop where
  out : ∀ q, ∀ m ∈ (s.pd.at q).out, m ∈ (t.pd.at q).out
  cable : ∀ i, t.fld F.TCPD_CABLE_VALID i = s.fld F.TCPD_CABLE_VALID i
  idle : s.NoneWaits → t.NoneWaits

section
variable {s t u : State} {m : Nat}

theorem SendsOn.refl (s : State) : SendsOn s s := ⟨fun _ _ h => h, fun _ => rfl, id⟩

theorem SendsOn.trans (d : SendsOn s t) (e : SendsOn t u) : SendsOn s u :=
  ⟨fun q m h => e.out q m (d.out q m h), fun i => (e.cable i).trans (d.cable i), e.idle ∘ d.idle⟩

theorem SendsOn.via (d : SendsOn s t) (e : Via m t u)
    (h : m.testBit 10 = false ∧ m.testBit 42 = false ∧ m.testBit 51 = false := by decide) : SendsOn s u :=
  d.trans ⟨fun _ _ h' => by rw [e.same .pd h.2.1]; exact h', fun i => e.fld _ i h.1, fun idle => by
    rw [State.NoneWaits, e.same .tat h.2.2]; exact idle⟩

theorem SendsOn.setFld (d : SendsOn s t) {g : Field} {i v : Nat} (h : F.TCPD_CABLE_VALID.id ≠ g.id := by decide) :
    SendsOn s (t.setFld g i v) := d.trans ⟨fun _ _ h => h, fun j => fld_setFld_ne t i j v h, id⟩

theorem SendsOn.put (d : SendsOn s t) {g : Field} {i : Nat} {b : Bool} (h : F.TCPD_CABLE_VALID.id ≠ g.id := by decide) :
    SendsOn s (t.put g i b) := d.setFld h

theorem SendsOn.updPd (d : SendsOn s t) {p : Nat} {f : PdPort → PdPort} (h : ∀ r, (f r).out = r.out := by intro r; rfl) :
    SendsOn s (t.updPd p f) :=
  d.trans ⟨fun q m there => by rw [t.updPd_out p q h]; exact there, fun _ => rfl, id⟩

theorem SendsOn.send (d : SendsOn s t) (p : Nat) (n : PdMsg) : SendsOn s (t.send p n) := by
  refine d.trans ⟨fun q m there => ?_, fun _ => rfl, id⟩
  by_cases here : q = p
  · subst here
    rw [State.send_out]
    exact List.mem_append_left _ there
  · rw [State.send, State.updPd]
    dsimp only
    rw [Tbl.at_upd_ne _ _ here]
    exact there

theorem SendsOn.ite {c : Prop} [Decidable c] (d : SendsOn s t) (e : SendsOn s u) : SendsOn s (if c then t else u) := by
  split <;> assumption

/-- A port that has acted is no longer awaited: nothing waits for it anew. -/
theorem SendsOn.actuated (d : SendsOn s t) (p c : Nat) : SendsOn s (t.actuated p c) := by
  refine d.trans ⟨fun _ _ h => h, fun _ => rfl, fun idle e member => ?_⟩
  obtain ⟨x, stands, rfl⟩ := List.mem_map.mp member
  split
  · exact idle x stands
  · exact idle x stands

end

section
variable (s : State) (p : Nat)

theorem State.offer_sendsOn : SendsOn s (s.offer p) := by
  unfold State.offer
  extract_lets spr s₁
  refine .ite ?_ (.ite (.refl s) (.send (.updPd (.refl s)) p _))
  have left : SendsOn s s₁ := .ite (.updPd (.refl s)) (.refl s)
  exact .ite left (.updPd (.send (.updPd left) p _))

theorem State.offerSent_sendsOn : SendsOn s (s.offerSent p true) := by
  have offered := s.offer_sendsOn p
  unfold State.offerSent
  extract_lets s₁ n
  exact .ite (.ite offered (.put (.updPd offered))) (.ite offered (.updPd offered))

theorem pdSettle_sendsOn : SendsOn s (pdSettle p s) := by
  unfold pdSettle
  refine .ite ?_ (.refl s)
  extract_lets s₁ s₂ s₃
  have offered : SendsOn s s₁ := .ite (.actuated (s.offerSent_sendsOn p) p 7) (.refl s)
  have asked : SendsOn s s₂ := .ite (.send (.put (.updPd (.updPd offered))) p _) offered
  have owned : SendsOn s s₃ := .ite asked (.updPd asked)
  exact .ite (.setFld owned) owned

theorem State.ceilingFell_sendsOn : SendsOn s (s.ceilingFell p) := by
  unfold State.ceilingFell
  extract_lets s₁ s₂
  have shown : SendsOn s s₁ := .via (.refl s) (State.levels_via ..)
  have left : SendsOn s s₂ := .ite (.send (.updPd shown) p _) shown
  exact .ite (.updPd left) left

/-- The state in which a Cable Reset has been sent and its effects have settled (R233). -/
def State.cableReset (s : State) (p : Nat) : State := pdSettle p (((s.identityClear p).send p .cableReset).ceilingFell p)

theorem State.cableReset_sendsOn : SendsOn ((s.identityClear p).send p .cableReset) (s.cableReset p) :=
  (State.ceilingFell_sendsOn _ p).trans (pdSettle_sendsOn _ p)

theorem State.cableReset_out : .cableReset ∈ ((s.cableReset p).pd.at p).out := by
  refine (s.cableReset_sendsOn p).out p _ ?_
  rw [State.send_out]
  exact List.mem_append_right _ (List.mem_singleton_self _)

theorem State.identityClear_invalid : (s.identityClear p).fld F.TCPD_CABLE_VALID p = 0 := by
  unfold State.identityClear
  extract_lets s₁ s₂ s₃ s₄ s₅
  clear_value s₄
  rw [State.updCc_fld]
  exact fld_setFld_self (s₄.setFld F.TCPD_CABLE_BUSY p 0) F.TCPD_CABLE_VALID p 0

theorem State.cableReset_invalid : (s.cableReset p).on F.TCPD_CABLE_VALID p = false := by
  rw [State.on, (s.cableReset_sendsOn p).cable, State.send_fld, s.identityClear_invalid p]
  rfl

theorem State.cableReset_idle (idle : s.NoneWaits) : (s.cableReset p).NoneWaits := by
  refine (s.cableReset_sendsOn p).idle ?_
  have record : ((s.identityClear p).send p .cableReset).tat = s.tat :=
    ((State.send_via ..).same .tat (by decide)).trans ((State.identityClear_via s p).same .tat (by decide))
  rw [State.NoneWaits, record]
  exact idle

end

/-! ### The commands -/

section
variable {s : State} {ch p code : Nat} {f : Frame} {c : Instr} {form : Frame → Bool} {run : State → Frame → State × Option Reply}
  {go : State → State} (exec_eq : exec c s = .next (s.command ch code form run))
  (runs : (s.mbx.at ch).running = some f) (coded : f.code = code) (formed : form f = true)
include exec_eq runs coded formed

theorem completes_bars {status : Nat} (refuses : run s f = s.refuse status) :
    Completes c s fun t => s.Answered t ch f status 0 [] ∧ (s.NoneWaits → t.pd = s.pd) := by
  obtain ⟨t, ran, answered, record, -⟩ := completes_refused exec_eq runs coded formed refuses
  exact ⟨t, ran, answered, record⟩

variable (acts : run s f = s.resetCmd ch p go)
include acts

theorem reset_faults (fault : s.namedFault ch p ≠ 0) :
    Completes c s fun t => s.Answered t ch f (s.namedFault ch p) 0 [] ∧ (s.NoneWaits → t.pd = s.pd) :=
  completes_bars exec_eq runs coded formed (acts.trans (if_pos fault))

section
variable (free : s.namedFault ch p = 0)
include free

theorem reset_bars
    (barred : s.portReady p = false ∨ s.pdLive p = false ∨ s.ccIn p [.attachedSrc, .attachedSnk] = false) :
    Completes c s fun t => s.Answered t ch f Status.state 0 [] ∧ (s.NoneWaits → t.pd = s.pd) := by
  refine completes_bars exec_eq runs coded formed (acts.trans ((if_neg (not_not.mpr free)).trans (if_neg ?_)))
  rcases barred with off | off | off <;> simp [off]

/-- A reset that is sent: what stands before the command's end stands after it. -/
theorem reset_sends (ready : s.portReady p = true) (live : s.pdLive p = true)
    (attached : s.ccIn p [.attachedSrc, .attachedSnk] = true)
    (address : (go (s.hush p)).fld F.CHORD_STAT_ADDR 0 = s.fld F.CHORD_STAT_ADDR 0)
    (quiet : s.NoneWaits → (go (s.hush p)).NoneWaits) :
    Completes c s fun t => s.Answered t ch f 0 0 [] ∧ (s.NoneWaits → Via placeMask (go (s.hush p)) t) := by
  have answers : run s f = (go (s.hush p), some (Reply.of 0)) := by
    refine acts.trans ((if_neg (not_not.mpr free)).trans (if_pos ?_))
    rw [ready, live, attached]
    rfl
  obtain ⟨t, ran, answered, rfl⟩ := completes_replies exec_eq runs coded formed answers address
  exact ⟨_, ran, answered, fun idle => State.finish_within (quiet idle) ch f _⟩

end

end

end Sys2Proof.Machine
end

section
/-! The RESET bits of the cores (R245, R383): what the end of a command and a restart leave of them. -/

namespace Sys2Proof.Machine

-- One proof at a time: a default argument `by decide` waits for the text before it, and each proof that waits takes a thread.
set_option Elab.async false

variable (s : State) (p ch : Nat) (f : Frame)

/-! ### Power and the CC logic -/

theorem State.voffSet_keepsHeld : KeepsHeld s (s.voffSet p) :=
  .ite (.trans (.put (.refl s)) ((State.pwrUpdate_keepsResets _ p).held.trans
    ((State.sinkOpen_keepsResets _ p).held.trans (State.contractEnd_keepsResets _ p).held))) (.refl s)

theorem State.voffWrite_keepsHeld (b : Bool) : KeepsHeld s (s.voffWrite p b) :=
  .ite (.ite (.trans (.via (.putBit (.refl s)) (State.brdoffEnd_via _)) (State.voffSet_keepsHeld _ p))
    (.via (.refl s) (State.voffClear_via s p))) (.refl s)

theorem State.disable_keepsHeld : KeepsHeld s (s.disable p) :=
  (s.disableCore_keepsResets p).held.trans (State.releaseClaim_keepsResets _ p).held

theorem State.setCcen_keepsHeld (b : Bool) : KeepsHeld s (s.setCcen p b) := by
  refine .ite ?_ (.refl s)
  extract_lets s₁
  have written : KeepsHeld s s₁ := .put (.refl s)
  refine .ite (.ite ?_ written) (.ite ?_ written)
  · exact (written.putBit).trans (State.tryLeaveDisabled_keepsResets _ p).held
  · exact .ite written.putBit (.ite (written.putBit.via (State.updCc_via ..)) (written.putBit.trans (State.disable_keepsHeld _ p)))

/-! ### The port engine -/

theorem State.setDpe_keepsHeld (d : Dpe) : KeepsHeld s (s.setDpe p d) := by
  unfold State.setDpe
  refine .ite (.via (.refl s) (State.refresh_via ..)) ?_
  extract_lets s₁ s₂ s₃
  have entered : KeepsHeld s s₂ := .setFld (.setFld (.refl s))
  have traced : KeepsHeld s s₃ := .ite (entered.via (State.traceForget_via ..)) entered
  exact .via (.via (.irq traced _) (State.notice_via ..)) (State.refresh_via ..)

theorem State.leaveHold_keepsHeld : KeepsHeld s (s.leaveHold p) :=
  .ite (.trans (.via (.via (.refl s) (State.noDevice_via s p)) (State.updDpe_via ..)) (State.setDpe_keepsHeld _ p _))
    (.trans (.via (.via (.via (.refl s) (State.noDevice_via s p)) (State.ttCut_via ..)) (State.updDpe_via ..))
      (State.setDpe_keepsHeld _ p _))

theorem State.isoUpdate_keepsHeld : KeepsHeld s (s.isoUpdate p) := by
  have shown : KeepsHeld s (s.refresh p) := .via (.refl s) (State.refresh_via ..)
  refine .ite shown (.ite (.ite shown ?_) (.ite (s.leaveHold_keepsHeld p) shown))
  extract_lets s₁ s₂ s₃
  have changed : KeepsHeld s s₁ := .ite (.via (.refl s) (State.change_via ..)) (.refl s)
  have cut : KeepsHeld s s₂ :=
    .via (.via (.incr (.via changed (State.ttCut_via ..))) (State.noDevice_via ..)) (State.updDpe_via ..)
  exact .trans (.via (.via cut (State.resetCut_via ..)) (State.logPort_via ..)) (State.setDpe_keepsHeld _ p _)

theorem State.isolate_keepsHeld (b : Bool) : KeepsHeld s (s.isolate p b) :=
  .ite (.trans (.put (.refl s)) (State.isoUpdate_keepsHeld _ p)) (.refl s)

/-! ### Timed actions that waited -/

theorem State.paid_keepsHeld {f : State → State} (d : KeepsHeld s (f s)) : KeepsHeld s (s.paid p f) :=
  .trans (.via d (State.spendCredit_via ..)) (State.govRefresh_keepsResets _).held

theorem State.actNow_keepsHeld (i : Nat) : KeepsHeld s (s.actNow i p) := by
  have given : KeepsHeld s (s.giveCredit i p) := .via (.refl s) (State.giveCredit_via ..)
  unfold State.actNow
  extract_lets w p0
  split
  · exact s.voffWrite_keepsHeld p true
  · refine given.trans (State.paid_keepsHeld _ p ?_)
    extract_lets s₁
    have on : KeepsHeld (s.giveCredit i p) s₁ := .via (State.voffWrite_keepsHeld _ p false) (State.updPwr_via ..)
    exact .ite (on.trans (State.rpEvaluate_keepsResets _ p).held) on
  · exact s.isolate_keepsHeld p true
  · exact s.isolate_keepsHeld p false
  · exact s.setCcen_keepsHeld p false
  · exact given.trans (State.paid_keepsHeld _ p (State.setCcen_keepsHeld _ p true))
  · rename_i s₁ _ _
    have offered : KeepsHeld s s₁ := .trans (.setFld given) (State.govRefresh_keepsResets _).held
    refine .ite ?_ (.ite ?_ offered)
    · exact .via (.incr (.via offered (State.updPd_via ..))) (State.logAction_via ..)
    · exact .via (.via (.via offered (State.hush_via ..)) (State.offerSent_via ..)) (pdSettle_via ..)
  · exact .via (.refl s) (State.glitchStart_via ..)
  · exact .via (.refl s) (State.stageSel_via ..)
  · exact .via (.refl s) (State.migStart_via ..)
  · exact .refl s

theorem State.suppress_keepsHeld (w : List Nat) : KeepsHeld s (s.suppress w p) := by
  unfold State.suppress
  extract_lets s₁
  have counted : KeepsHeld s s₁ := .incr (.refl s)
  split
  · exact .via counted (State.glitchSuppressed_via ..)
  · exact .ite (.via counted (State.stageSel_via ..)) counted
  · exact .ite counted (.irq (.via counted (State.logPort_via ..)) _)
  · exact counted

theorem State.actLate_keepsHeld (i : Nat) : KeepsHeld s (s.actLate i p) := by
  unfold State.actLate
  extract_lets e s₁
  have taken : KeepsHeld s s₁ := .via (.refl s) (State.updTat_via ..)
  split
  · exact .via (taken.trans (State.actNow_keepsHeld _ p i)) (State.actuated_via ..)
  · exact .via (taken.trans (State.suppress_keepsHeld _ p _)) (State.logAction_via ..)

theorem State.lateActions_keepsHeld : KeepsHeld s s.lateActions := by
  unfold State.lateActions
  exact List.foldlRecOn _ _ (.refl s) fun t kept e _ => kept.trans (.each (.refl t) fun s p => s.actLate_keepsHeld p e.1)

/-! ### The response -/

theorem KeepsHeld.of_regs {s t : State} (h : t.regs = s.regs) : KeepsHeld s t := fun i => fld_of_regs h _ i

theorem State.responded_keepsHeld : KeepsHeld s (s.responded ch f) := by
  have placed : KeepsHeld s (s.localPlace ch f) := by
    unfold State.localPlace
    extract_lets c s₁
    have written : KeepsHeld s s₁ := .of_regs (s.writeBytes_regs _ _)
    exact .ite (.via (.put (.refl s)) (State.updCh_via ..)) (.ite (.irq (.put (.put written)) _) (.refl s))
  exact .ite (.via (.refl s) (State.ep2Place_via ..)) (.ite (.via (.refl s) (State.chordPlace_via ..))
    (.ite placed (.via (.via (.refl s) (State.updCh_via ..)) (State.chFill_via ..))))

theorem State.place_keepsHeld : KeepsHeld s (s.place ch f) := by
  have counted : KeepsHeld s (s.deniedCounted ch f) := .ite (.incr (.refl s)) (.refl s)
  rw [State.place_eq]
  exact .via (counted.trans (State.responded_keepsHeld _ ch f)) (State.chRefresh_via ..)

theorem State.finish_keepsHeld (r : Reply) : KeepsHeld s (s.finish ch f r) := by
  have ended : KeepsHeld s (s.commandEnded ch) := .trans (.via (.refl s) (State.updCh_via ..)) (State.lateActions_keepsHeld _)
  rw [State.finish_eq]
  exact ended.trans (State.place_keepsHeld _ ch _)

/-! ### A restart -/

theorem stackSlot_apart (i : Nat) : F.IC_CORECTL_RESET.id ≠ (stackSlots.getD i F.IC_STACK0_SLOT0).id := by
  have all : ∀ g ∈ stackSlots, F.IC_CORECTL_RESET.id ≠ g.id := by decide
  by_cases within : i < stackSlots.length
  · rw [List.getD_eq_getElem _ _ within]
    exact all _ (List.getElem_mem within)
  · rw [List.getD_eq_default _ _ (Nat.le_of_not_lt within)]
    decide

theorem State.levelShow_keepsHeld (c : Nat) : KeepsHeld s (s.levelShow c) :=
  .each (.setFld (.refl s)) fun s i => .setFld (.refl s) (stackSlot_apart i)

theorem State.writeBytes_cores (a : Nat) (l : List Nat) : (s.writeBytes a l).cores = s.cores := by
  induction l generalizing s a with
  | nil => rfl
  | cons b l ih => exact ih _ _

/-- What a core keeps through a restart of its services, and what it loses (R383). -/
def CoreHw.restarted (r : CoreHw) : CoreHw :=
  { r with mie := false, mpie := false, mepc := 0, mcause := 0, traps := [], levels := [], stage := .off }

section
variable {s : State} {c : Nat} (low : 1 ≤ c) (high : c ≤ 4) (why : Nat)
include low high

/-- A service core is held in reset, and its record restarts (R383). -/
theorem State.serviceReset_core :
    (s.serviceReset c why).cores.at c = (s.cores.at c).restarted ∧ (s.serviceReset c why).on F.IC_CORECTL_RESET c = true := by
  unfold State.serviceReset
  rw [if_pos ⟨low, high⟩]
  extract_lets s₁ s₂ s₃ s₄ s₅ s₆
  have held : s₁.on F.IC_CORECTL_RESET c = true := by
    dsimp only [s₁]
    rw [State.on_put_ne _ _ _ _ (by decide), State.on_put_ne _ _ _ _ (by decide), State.on_put_self _ _ _ rfl]
  have cores : s₁.cores = s.cores := rfl
  clear_value s₁
  have record : s₂.cores.at c = (s.cores.at c).restarted := by
    dsimp only [s₂, State.updCore]
    rw [Tbl.at_upd_self, cores]
    rfl
  have kept : KeepsHeld s₁ s₂ := .refl s₁
  clear_value s₂
  have cleared : KeepsHeld s₂ s₃ := .setFld (.setFld (.setFld (.refl s₂)))
  have plain : s₃.cores = s₂.cores := rfl
  clear_value s₃
  have shown : KeepsHeld s₃ s₄ := .via (State.levelShow_keepsHeld s₃ c) (State.unfreeze_via ..)
  have written : KeepsHeld s₄ s₅ := .of_regs ((State.writeBytes_regs ..).trans (State.writeBytes_regs ..))
  have stands : s₅.cores = s₃.cores :=
    (State.writeBytes_cores ..).trans ((State.writeBytes_cores ..).trans
      (((State.unfreeze_via ..).same .cores (by decide)).trans ((State.levelShow_via ..).same .cores (by decide))))
  clear_value s₅
  have orphan : s₆.cores = s₅.cores ∧ KeepsHeld s₅ s₆ := by
    dsimp only [s₆]
    split
    · exact ⟨rfl, .refl s₅⟩
    · exact ⟨rfl, .refl s₅⟩
  clear_value s₆
  constructor
  · have last : ((s₆.policyStops c).logSystem 5 (le 4 c ++ le 4 (Config.caseCode 383 why))).cores = s₆.cores :=
      ((State.logSystem_via ..).same .cores (by decide)).trans ((State.policyStops_via ..).same .cores (by decide))
    rw [last, orphan.1, stands, plain, record]
  · have tail : KeepsHeld s₁ ((s₆.policyStops c).logSystem 5 (le 4 c ++ le 4 (Config.caseCode 383 why))) :=
      .via ((kept.trans (cleared.trans (shown.trans (written.trans orphan.2)))).trans (State.policyStops_keepsResets _ c).held)
        (State.logSystem_via ..)
    exact (State.on_of_fld (tail c)).trans held

end

end Sys2Proof.Machine
end

section
/-! PD_RESET and PD_SLOT, clause by clause, and what O54 says of the PD commands (R233, R245, R247, R266, R452). -/

namespace Sys2Proof.Machine

-- One proof at a time: a default argument `by decide` waits for the text before it, and each proof that waits takes a thread.
set_option Elab.async false

/-! ### PD_RESET -/

theorem State.hush_fld (s : State) (p : Nat) (g : Field) (i : Nat) : (s.hush p).fld g i = s.fld g i := rfl

theorem State.hush_tat (s : State) (p : Nat) : (s.hush p).tat = s.tat := rfl

/-- What PD_RESET with selector 0 does (R247). -/
def pdResetSoftRun (ch : Nat) (s : State) (f : Frame) : State × Option Reply :=
  s.resetCmd ch (byteAt f.payload 0) fun s => s.softReset (byteAt f.payload 0)

/-- What PD_RESET with selector 1 does (R266). -/
def pdResetHardRun (ch : Nat) (s : State) (f : Frame) : State × Option Reply :=
  s.resetCmd ch (byteAt f.payload 0) fun s => s.hardReset (byteAt f.payload 0) true

/-- What PD_RESET with selector 2 or more does (R233). -/
def pdResetCableRun (ch : Nat) (s : State) (f : Frame) : State × Option Reply :=
  let p := byteAt f.payload 0
  let bad := s.namedFault ch p
  if bad ≠ 0 then s.refuse bad
  else if 2 < byteAt f.payload 1 then s.refuse Status.badArg
  else if s.on F.TCPD_PDSTAT_VCSRC p then s.resetCmd ch p fun s => s.cableReset p
  else s.refuse Status.state

section
variable {s : State} {ch p : Nat} {f : Frame}

theorem exec_pdResetSoft :
    exec (.pdResetSoft ch) s = .next (s.command ch 0x0305 (fun f => byteAt f.payload 1 == 0) (pdResetSoftRun ch)) := rfl

theorem exec_pdResetHard :
    exec (.pdResetHard ch) s = .next (s.command ch 0x0305 (fun f => byteAt f.payload 1 == 1) (pdResetHardRun ch)) := rfl

theorem exec_pdResetCable :
    exec (.pdResetCable ch) s = .next (s.command ch 0x0305 (fun f => decide (2 ≤ byteAt f.payload 1)) (pdResetCableRun ch)) := rfl

theorem pdResetSoftRun_eq (named : byteAt f.payload 0 = p) :
    pdResetSoftRun ch s f = s.resetCmd ch p fun s => s.softReset p := by
  subst named
  rfl

theorem pdResetHardRun_eq (named : byteAt f.payload 0 = p) :
    pdResetHardRun ch s f = s.resetCmd ch p fun s => s.hardReset p true := by
  subst named
  rfl

end

section
variable {s : State} {ch p : Nat} {f : Frame} (runs : (s.mbx.at ch).running = some f) (coded : f.code = 0x0305)
  (named : byteAt f.payload 0 = p)
include runs coded named

theorem pdResetSoft_sends (selects : byteAt f.payload 1 = 0) (free : s.namedFault ch p = 0) (ready : s.portReady p = true)
    (live : s.pdLive p = true) (attached : s.ccIn p [.attachedSrc, .attachedSnk] = true) :
    Completes (.pdResetSoft ch) s fun t =>
      s.Answered t ch f 0 0 [] ∧ (s.NoneWaits → (t.pd.at p).out = [.softReset])
        ∧ (s.NoneWaits → t.fld F.TCPD_PDCNT1_SRESETS p = (s.fld F.TCPD_PDCNT1_SRESETS p + 1) % 2 ^ 16) := by
  have reset := State.softReset_via (s.hush p) p
  have address : ((s.hush p).softReset p).fld F.CHORD_STAT_ADDR 0 = s.fld F.CHORD_STAT_ADDR 0 :=
    (reset.fld _ _ (by decide)).trans (s.hush_fld p _ _)
  have quiet : s.NoneWaits → ((s.hush p).softReset p).NoneWaits := fun idle => by
    rw [State.NoneWaits, reset.same .tat (by decide), s.hush_tat p]
    exact idle
  obtain ⟨t, ran, answered, kept⟩ := reset_sends exec_pdResetSoft runs coded (beq_iff_eq.mpr selects) (pdResetSoftRun_eq named)
    free ready live attached address quiet
  refine ⟨t, ran, answered, fun idle => ?_, fun idle => ?_⟩
  · rw [(kept idle).same .pd (by decide), State.softReset_out, State.hush_out, List.nil_append]
  · rw [(kept idle).fld _ _ (by decide), State.softReset_counted, State.hush_fld]

theorem pdResetHard_sends (selects : byteAt f.payload 1 = 1) (free : s.namedFault ch p = 0) (ready : s.portReady p = true)
    (live : s.pdLive p = true) (attached : s.ccIn p [.attachedSrc, .attachedSnk] = true) :
    Completes (.pdResetHard ch) s fun t =>
      s.Answered t ch f 0 0 [] ∧ (s.NoneWaits → (t.pd.at p).out.head? = some .hardReset)
        ∧ (s.NoneWaits → t.fld F.TCPD_PDCNT1_HRESETS p = (s.fld F.TCPD_PDCNT1_HRESETS p + 1) % 2 ^ 16) := by
  have reset := State.hardReset_via (s.hush p) p true
  have address : ((s.hush p).hardReset p true).fld F.CHORD_STAT_ADDR 0 = s.fld F.CHORD_STAT_ADDR 0 :=
    (reset.fld _ _ (by decide)).trans (s.hush_fld p _ _)
  have quiet : s.NoneWaits → ((s.hush p).hardReset p true).NoneWaits := fun idle => by
    rw [State.NoneWaits, reset.same .tat (by decide), s.hush_tat p]
    exact idle
  obtain ⟨t, ran, answered, kept⟩ := reset_sends exec_pdResetHard runs coded (beq_iff_eq.mpr selects) (pdResetHardRun_eq named)
    free ready live attached address quiet
  refine ⟨t, ran, answered, fun idle => ?_, fun idle => ?_⟩
  · rw [(kept idle).same .pd (by decide), State.hardReset_out, State.hush_out, List.nil_append, List.head?_cons]
  · rw [(kept idle).fld _ _ (by decide), State.hardReset_counted, State.hush_fld]

section
variable (selects : byteAt f.payload 1 = 2)
include selects

omit runs coded in
theorem pdResetCableRun_eq (free : s.namedFault ch p = 0) (source : s.on F.TCPD_PDSTAT_VCSRC p = true) :
    pdResetCableRun ch s f = s.resetCmd ch p fun s => s.cableReset p := by
  subst named
  exact (if_neg (not_not.mpr free)).trans ((if_neg (by omega)).trans (if_pos source))

theorem pdResetCable_faults (fault : s.namedFault ch p ≠ 0) :
    Completes (.pdResetCable ch) s fun t => s.Answered t ch f (s.namedFault ch p) 0 [] ∧ (s.NoneWaits → t.pd = s.pd) := by
  subst named
  exact completes_bars exec_pdResetCable runs coded (decide_eq_true (Nat.le_of_eq selects.symm)) (if_pos fault)

section
variable (free : s.namedFault ch p = 0)
include free

theorem pdResetCable_bars (barred : s.portReady p = false ∨ s.pdLive p = false
      ∨ s.ccIn p [.attachedSrc, .attachedSnk] = false ∨ s.on F.TCPD_PDSTAT_VCSRC p = false) :
    Completes (.pdResetCable ch) s fun t => s.Answered t ch f Status.state 0 [] ∧ (s.NoneWaits → t.pd = s.pd) := by
  have formed : decide (2 ≤ byteAt f.payload 1) = true := decide_eq_true (Nat.le_of_eq selects.symm)
  by_cases source : s.on F.TCPD_PDSTAT_VCSRC p = true
  · refine reset_bars exec_pdResetCable runs coded formed (pdResetCableRun_eq named selects free source) free ?_
    rcases barred with off | off | off | off
    · exact .inl off
    · exact .inr (.inl off)
    · exact .inr (.inr off)
    · rw [source] at off
      cases off
  · subst named
    exact completes_bars exec_pdResetCable runs coded formed
      ((if_neg (not_not.mpr free)).trans ((if_neg (by omega)).trans (if_neg source)))

theorem pdResetCable_sends (source : s.on F.TCPD_PDSTAT_VCSRC p = true) (ready : s.portReady p = true)
    (live : s.pdLive p = true) (attached : s.ccIn p [.attachedSrc, .attachedSnk] = true) :
    Completes (.pdResetCable ch) s fun t =>
      s.Answered t ch f 0 0 [] ∧ (s.NoneWaits → .cableReset ∈ (t.pd.at p).out)
        ∧ (s.NoneWaits → t.on F.TCPD_CABLE_VALID p = false) := by
  have sent : ((s.hush p).cableReset p).fld F.CHORD_STAT_ADDR 0 = s.fld F.CHORD_STAT_ADDR 0 :=
    ((pdSettle_via ..).fld _ _ (by decide)).trans (((State.ceilingFell_via ..).fld _ _ (by decide)).trans
      (((State.send_via ..).fld _ _ (by decide)).trans (((State.identityClear_via ..).fld _ _ (by decide)).trans
        (s.hush_fld p _ _))))
  have quiet : s.NoneWaits → ((s.hush p).cableReset p).NoneWaits := fun idle => State.cableReset_idle _ p idle
  obtain ⟨t, ran, answered, kept⟩ := reset_sends exec_pdResetCable runs coded (decide_eq_true (Nat.le_of_eq selects.symm))
    (pdResetCableRun_eq named selects free source) free ready live attached sent quiet
  refine ⟨t, ran, answered, fun idle => ?_, fun idle => ?_⟩
  · rw [(kept idle).same .pd (by decide)]
    exact State.cableReset_out ..
  · exact (State.on_of_fld ((kept idle).fld _ _ (by decide))).trans (State.cableReset_invalid ..)

end

end

end

/-! ### PD_SLOT -/

section
variable (s : State) (c slot flags : Nat)

/-- The number under which a slot is selected (R245). -/
def slotNumber : Nat := if slot = 0xFF then 0 else slot + 1

/-- A core's slot is selected (R245). -/
def State.slotSelected : State := s.updCore c fun r => { r with selected := slotNumber slot }

/-- The selection is saved where FLAGS ask for it (R446). -/
def State.slotSaved : State := if flags.testBit 1 then (s.slotSelected c slot).saveAreas 32 else s.slotSelected c slot

/-- The core restarts on its slot where FLAGS ask for it (R245). -/
def State.slotTaken : State :=
  if flags.testBit 0 then (s.slotSaved c slot flags).serviceReset c 3 else s.slotSaved c slot flags

/-- What PD_SLOT does (R245, R452). -/
def pdSlotRun (good : Bool) (s : State) (f : Frame) : State × Option Reply :=
  let c := byteAt f.payload 0
  let slot := byteAt f.payload 1
  let flags := byteAt f.payload 2
  if c = 0 ∨ 4 < c ∨ (3 < slot ∧ slot ≠ 0xFF) then s.refuse Status.badArg
  else if flags.testBit 0 && !s.needs Dom.service then s.refuse Status.state
  else if flags.testBit 1 && (s.on F.CAL_STAT_COMMIT 0 || s.saveRuns) then s.refuse Status.busy
  else if flags.testBit 1 && !good then s.refuse Status.hwFault
  else (s.slotTaken c slot flags).give [((s.slotTaken c slot flags).cores.at c).checked]

theorem exec_pdSlot (ch : Nat) (good : Bool) :
    exec (.pdSlot ch good) s = .next (s.command ch 0x0307 anyForm (pdSlotRun good)) := rfl

/-- The save of area 5 holds the selections (R446). -/
theorem State.saveAreas_policy : (s.saveAreas 32).hw.saved.areas.testBit 5 = true
    ∧ (s.saveAreas 32).hw.saved.policy = [1, 2, 3, 4].map fun c => (c, (s.cores.at c).selected) := by
  refine ⟨?_, rfl⟩
  show (Nat.lor s.hw.saved.areas 32).testBit 5 = true
  exact (Nat.testBit_or ..).trans (Bool.or_true _)

theorem State.saveAreas_cores (areas : Nat) : (s.saveAreas areas).cores = s.cores := (State.saveAreas_via ..).same .cores (by decide)

variable {c} in
theorem find_policy (low : 1 ≤ c) (high : c ≤ 4) (g : Nat → Nat) :
    ([1, 2, 3, 4].map fun c => (c, g c)).find? (fun e => e.1 == c) = some (c, g c) := by
  obtain rfl | rfl | rfl | rfl : c = 1 ∨ c = 2 ∨ c = 3 ∨ c = 4 := by omega
  · rfl
  · rfl
  · rfl
  · rfl

theorem State.slotSelected_core : (s.slotSelected c slot).cores.at c = { s.cores.at c with selected := slotNumber slot } := by
  rw [State.slotSelected, State.updCore]
  dsimp only
  rw [Tbl.at_upd_self]

theorem State.slotSaved_core : (s.slotSaved c slot flags).cores.at c = { s.cores.at c with selected := slotNumber slot } := by
  unfold State.slotSaved
  split
  · rw [State.saveAreas_cores, State.slotSelected_core]
  · exact s.slotSelected_core c slot

variable {c} (low : 1 ≤ c) (high : c ≤ 4)

theorem State.slotTaken_hw : (s.slotTaken c slot flags).hw = (s.slotSaved c slot flags).hw := by
  unfold State.slotTaken
  split
  · exact (State.serviceReset_via ..).same .hw (by decide)
  · rfl

theorem State.slotTaken_unsaved (plain : flags.testBit 1 = false) : (s.slotTaken c slot flags).hw.saved = s.hw.saved := by
  rw [State.slotTaken_hw, State.slotSaved, plain]
  rfl

theorem State.slotTaken_address : (s.slotTaken c slot flags).fld F.CHORD_STAT_ADDR 0 = s.fld F.CHORD_STAT_ADDR 0 := by
  have saved : (s.slotSaved c slot flags).fld F.CHORD_STAT_ADDR 0 = s.fld F.CHORD_STAT_ADDR 0 := by
    unfold State.slotSaved
    split
    · exact (State.saveAreas_via ..).fld _ _ (by decide)
    · rfl
  unfold State.slotTaken
  split
  · exact ((State.serviceReset_via ..).fld _ _ (by decide)).trans saved
  · exact saved

include low high

theorem State.slotTaken_saved (saves : flags.testBit 1 = true) : (s.slotTaken c slot flags).hw.saved.areas.testBit 5 = true
    ∧ (s.slotTaken c slot flags).hw.saved.policy.find? (fun e => e.1 == c) = some (c, slotNumber slot) := by
  obtain ⟨areas, policy⟩ := (s.slotSelected c slot).saveAreas_policy
  rw [State.slotTaken_hw, State.slotSaved, if_pos saves]
  refine ⟨areas, ?_⟩
  rw [policy, find_policy low high fun k => ((s.slotSelected c slot).cores.at k).selected, State.slotSelected_core]

theorem State.slotTaken_core : ((s.slotTaken c slot flags).cores.at c).selected = slotNumber slot
    ∧ ((s.slotTaken c slot flags).cores.at c).checked = (s.cores.at c).checked := by
  unfold State.slotTaken
  split
  · rw [(State.serviceReset_core low high 3).1, State.slotSaved_core]
    exact ⟨rfl, rfl⟩
  · rw [State.slotSaved_core]
    exact ⟨rfl, rfl⟩

theorem State.slotTaken_restarted (restarts : flags.testBit 0 = true) :
    ((s.slotTaken c slot flags).cores.at c).stage = .off ∧ (s.slotTaken c slot flags).on F.IC_CORECTL_RESET c = true := by
  obtain ⟨core, held⟩ := State.serviceReset_core (s := s.slotSaved c slot flags) low high 3
  rw [State.slotTaken, if_pos restarts]
  exact ⟨congrArg CoreHw.stage core, held⟩

end

section
variable {s : State} {ch c slot flags : Nat} {good : Bool} {f : Frame} (runs : (s.mbx.at ch).running = some f)
  (coded : f.code = 0x0307) (core : byteAt f.payload 0 = c) (chosen : byteAt f.payload 1 = slot)
  (flagged : byteAt f.payload 2 = flags)
include runs coded core chosen flagged

omit flagged in
theorem pdSlot_malformed (wrong : c = 0 ∨ 4 < c ∨ (3 < slot ∧ slot ≠ 0xFF)) :
    Completes (.pdSlot ch good) s fun t => s.Answered t ch f Status.badArg 0 [] ∧ t.cores = s.cores := by
  subst core chosen
  obtain ⟨t, ran, answered, -, cores, -⟩ := completes_refused (exec_pdSlot s ch good) runs coded rfl (if_pos wrong)
  exact ⟨t, ran, answered, cores⟩

section
variable (low : 1 ≤ c) (high : c ≤ 4) (exists_ : slot ≤ 3 ∨ slot = 0xFF)
include low high exists_

omit runs coded in
/-- The arguments are right: what the state says decides. -/
theorem pdSlotRun_eq : pdSlotRun good s f
    = if flags.testBit 0 && !s.needs Dom.service then s.refuse Status.state
      else if flags.testBit 1 && (s.on F.CAL_STAT_COMMIT 0 || s.saveRuns) then s.refuse Status.busy
      else if flags.testBit 1 && !good then s.refuse Status.hwFault
      else (s.slotTaken c slot flags).give [((s.slotTaken c slot flags).cores.at c).checked] := by
  subst core chosen flagged
  exact if_neg (by omega)

theorem pdSlot_off (restarts : flags.testBit 0 = true) (off : s.needs Dom.service = false) :
    Completes (.pdSlot ch good) s fun t => s.Answered t ch f Status.state 0 [] ∧ t.cores = s.cores := by
  obtain ⟨t, ran, answered, -, cores, -⟩ := completes_refused (exec_pdSlot s ch good) runs coded rfl
    ((pdSlotRun_eq core chosen flagged low high exists_).trans (if_pos (by rw [restarts, off]; rfl)))
  exact ⟨t, ran, answered, cores⟩

section
variable (lit : flags.testBit 0 = false ∨ s.needs Dom.service = true)
include lit

omit runs coded core chosen flagged low high exists_ in
theorem service_stands : ¬ (flags.testBit 0 && !s.needs Dom.service) = true := by
  rcases lit with plain | on
  · rw [plain]
    exact Bool.false_ne_true
  · rw [on, Bool.not_true, Bool.and_false]
    exact Bool.false_ne_true

theorem pdSlot_busy (saves : flags.testBit 1 = true) (busy : s.on F.CAL_STAT_COMMIT 0 = true ∨ s.saveRuns = true) :
    Completes (.pdSlot ch good) s fun t => s.Answered t ch f Status.busy 0 [] ∧ t.cores = s.cores := by
  have runs_ : (flags.testBit 1 && (s.on F.CAL_STAT_COMMIT 0 || s.saveRuns)) = true := by
    rw [saves, Bool.true_and, Bool.or_eq_true]
    exact busy
  obtain ⟨t, ran, answered, -, cores, -⟩ := completes_refused (exec_pdSlot s ch good) runs coded rfl
    ((pdSlotRun_eq core chosen flagged low high exists_).trans ((if_neg (service_stands lit)).trans (if_pos runs_)))
  exact ⟨t, ran, answered, cores⟩

theorem pdSlot_broken (saves : flags.testBit 1 = true) (free : s.on F.CAL_STAT_COMMIT 0 = false) (single : s.saveRuns = false)
    (broken : good = false) :
    Completes (.pdSlot ch good) s fun t => s.Answered t ch f Status.hwFault 0 [] ∧ t.cores = s.cores := by
  have idle : ¬ (flags.testBit 1 && (s.on F.CAL_STAT_COMMIT 0 || s.saveRuns)) = true := by
    rw [free, single, Bool.or_false, Bool.and_false]
    exact Bool.false_ne_true
  have bad : (flags.testBit 1 && !good) = true := by rw [saves, broken]; rfl
  obtain ⟨t, ran, answered, -, cores, -⟩ := completes_refused (exec_pdSlot s ch good) runs coded rfl
    ((pdSlotRun_eq core chosen flagged low high exists_).trans
      ((if_neg (service_stands lit)).trans ((if_neg idle).trans (if_pos bad))))
  exact ⟨t, ran, answered, cores⟩

theorem pdSlot_selects (saving : flags.testBit 1 = false ∨ (s.on F.CAL_STAT_COMMIT 0 = false ∧ s.saveRuns = false ∧ good = true)) :
    Completes (.pdSlot ch good) s fun t =>
      (t.cores.at c).selected = (if slot = 0xFF then 0 else slot + 1) ∧ s.Answered t ch f 0 0 [(s.cores.at c).checked]
        ∧ (flags.testBit 1 = true →
          t.hw.saved.areas.testBit 5 = true
          ∧ t.hw.saved.policy.find? (fun e => e.1 == c) = some (c, if slot = 0xFF then 0 else slot + 1))
        ∧ (flags.testBit 1 = false → t.hw.saved = s.hw.saved)
        ∧ (flags.testBit 0 = true → (t.cores.at c).stage = .off ∧ t.on F.IC_CORECTL_RESET c = true) := by
  have idle : ¬ (flags.testBit 1 && (s.on F.CAL_STAT_COMMIT 0 || s.saveRuns)) = true := by
    rcases saving with plain | ⟨free, single, -⟩
    · rw [plain]
      exact Bool.false_ne_true
    · rw [free, single, Bool.or_false, Bool.and_false]
      exact Bool.false_ne_true
  have kept : ¬ (flags.testBit 1 && !good) = true := by
    rcases saving with plain | ⟨-, -, fine⟩
    · rw [plain]
      exact Bool.false_ne_true
    · rw [fine, Bool.not_true, Bool.and_false]
      exact Bool.false_ne_true
  have answers := (pdSlotRun_eq (good := good) (s := s) core chosen flagged low high exists_).trans
    ((if_neg (service_stands lit)).trans ((if_neg idle).trans (if_neg kept)))
  obtain ⟨selected, checked⟩ := s.slotTaken_core slot flags low high
  obtain ⟨t, ran, answered, rfl⟩ := completes_replies (exec_pdSlot s ch good) runs coded rfl answers
    (s.slotTaken_address slot flags)
  have cores := (State.finish_via (s.slotTaken c slot flags) ch f (Reply.give [((s.slotTaken c slot flags).cores.at c).checked])).same
    .cores (by decide)
  have hw := (State.finish_via (s.slotTaken c slot flags) ch f (Reply.give [((s.slotTaken c slot flags).cores.at c).checked])).same
    .hw (by decide)
  refine ⟨_, ran, ?_, ?_, fun saves => ?_, fun plain => ?_, fun restarts => ?_⟩
  · rw [cores]
    exact selected
  · rw [← checked]
    exact answered
  · rw [hw]
    exact s.slotTaken_saved slot flags low high saves
  · rw [hw]
    exact s.slotTaken_unsaved slot flags plain
  · obtain ⟨off, held⟩ := s.slotTaken_restarted slot flags low high restarts
    rw [cores]
    exact ⟨off, (State.on_of_fld (State.finish_keepsHeld _ ch f _ c)).trans held⟩

end

end

end

/-! ### The PD commands -/

theorem State.prSwapSend_hush_isNone {s : State} {p : Nat} (none : (s.prSwapSend p).isNone = true) :
    ((s.hush p).prSwapSend p).isNone = true := by
  rw [← Option.not_isSome, s.prSwapSend_hush_isSome p, Option.not_isSome]
  exact none

theorem State.vconnSwapSend_hush_isNone {s : State} {p : Nat} (none : (s.vconnSwapSend p).isNone = true) :
    ((s.hush p).vconnSwapSend p).isNone = true := by
  rw [← Option.not_isSome, s.vconnSwapSend_hush_isSome p, Option.not_isSome]
  exact none

theorem first_selector {f : Frame} (selects : byteAt f.payload 1 = 0) : (byteAt f.payload 1 == 0) = true := beq_iff_eq.mpr selects

theorem second_selector {f : Frame} (selects : byteAt f.payload 1 = 1) : (byteAt f.payload 1 != 0) = true := by
  rw [selects]
  rfl

/-- Settles O54: a clause per command and answer, each from what the command's own effect and the end of a command leave. -/
theorem policyMailboxCommands : Obligations.PolicyMailboxCommands := by
  refine ⟨fun s ch f m runs coded => pdStatus_answers runs coded, fun s ch f m runs coded => pdStatus_refuses runs coded,
    fun s ch f p runs coded asks fresh named passes => pdStatusQuery_sends runs coded asks named fresh passes,
    fun s ch f p runs coded asks fresh named passes => pdStatusQuery_holds runs coded asks named fresh passes,
    fun s ch f p runs coded asks fresh named passes => pdStatusQuery_barred runs coded asks named fresh passes,
    fun s ch f p runs coded asks under named => pdStatusQuery_answered runs coded asks named under,
    fun s ch f p runs coded asks under named => pdStatusQuery_empty runs coded asks named under,
    fun s ch f p runs coded asks under named => pdStatusQuery_silent runs coded asks named under,
    fun s ch f p runs coded asks under named => pdStatusQuery_waits runs coded asks named under,
    fun s ch f p runs coded asks under named => pdStatusQuery_lost runs coded asks named under,
    fun s ch f m => pdCfg_settings,
    fun s ch f n runs coded plain named => pdProfileRead_answers runs coded named plain,
    fun s ch f n runs coded plain named => pdProfileRead_refuses runs coded named plain,
    fun s ch f n l runs coded writes named => pdProfileWrite_stores runs coded named writes,
    fun s ch f n l runs coded writes named => pdProfileWrite_refuses runs coded named writes,
    ?swapPr, ?swapPrBars, ?swapPrFaults, ?swapPrEnds, ?swapPrHolds, ?swapVconn, ?swapVconnBars, ?swapVconnFaults, ?swapVconnEnds,
    ?swapVconnHolds, fun s ch f p runs coded selects named => pdResetSoft_sends runs coded named selects, ?softBars, ?softFaults,
    fun s ch f p runs coded selects named => pdResetHard_sends runs coded named selects, ?hardBars, ?hardFaults,
    fun s ch f p runs coded selects named => pdResetCable_sends runs coded named selects,
    fun s ch f p runs coded selects named => pdResetCable_bars runs coded named selects,
    fun s ch f p runs coded selects named => pdResetCable_faults runs coded named selects, fun s ch f m => pdSinkcfg_settings,
    fun s ch good f c slot flags => pdSlot_selects, fun s ch good f c slot flags => pdSlot_off,
    fun s ch good f c slot flags => pdSlot_busy, fun s ch good f c slot flags => pdSlot_broken,
    fun s ch good f c slot flags runs coded core chosen _ => pdSlot_malformed runs coded core chosen⟩
  case swapPr =>
    exact fun s ch f p runs coded selects named fresh free ready _ sends =>
      swap_sends exec_pdSwapPr runs coded (first_selector selects) (pdSwapPrRun_eq named) fresh free ready (prSwapSend_sent sends)
  case swapPrBars =>
    exact fun s ch f p runs coded selects named fresh free barred =>
      swap_bars exec_pdSwapPr runs coded (first_selector selects) (pdSwapPrRun_eq named) fresh free
        (barred.imp_right State.prSwapSend_hush_isNone)
  case swapPrFaults =>
    exact fun s ch f p runs coded selects named fresh =>
      swap_faults exec_pdSwapPr runs coded (first_selector selects) (pdSwapPrRun_eq named) fresh
  case swapPrEnds =>
    exact fun s ch f p runs coded selects named under =>
      swap_ends exec_pdSwapPr runs coded (first_selector selects) (pdSwapPrRun_eq named) under
  case swapPrHolds =>
    exact fun s ch f p runs coded selects named under =>
      swap_holds exec_pdSwapPr runs coded (first_selector selects) (pdSwapPrRun_eq named) under
  case swapVconn =>
    exact fun s ch f p runs coded selects named fresh free ready _ sends =>
      swap_sends exec_pdSwapVconn runs coded (second_selector selects) (pdSwapVconnRun_eq selects named) fresh free ready
        (vconnSwapSend_sent sends)
  case swapVconnBars =>
    exact fun s ch f p runs coded selects named fresh free barred =>
      swap_bars exec_pdSwapVconn runs coded (second_selector selects) (pdSwapVconnRun_eq selects named) fresh free
        (barred.imp_right State.vconnSwapSend_hush_isNone)
  case swapVconnFaults =>
    exact fun s ch f p runs coded selects named fresh =>
      swap_faults exec_pdSwapVconn runs coded (second_selector selects) (pdSwapVconnRun_eq selects named) fresh
  case swapVconnEnds =>
    exact fun s ch f p runs coded selects named under kept _ _ =>
      swap_ends exec_pdSwapVconn runs coded (second_selector selects) (pdSwapVconnRun_eq selects named) under kept
  case swapVconnHolds =>
    exact fun s ch f p runs coded selects named under kept _ _ =>
      swap_holds exec_pdSwapVconn runs coded (second_selector selects) (pdSwapVconnRun_eq selects named) under kept
  case softBars =>
    exact fun s ch f p runs coded selects named =>
      reset_bars exec_pdResetSoft runs coded (first_selector selects) (pdResetSoftRun_eq named)
  case softFaults =>
    exact fun s ch f p runs coded selects named =>
      reset_faults exec_pdResetSoft runs coded (first_selector selects) (pdResetSoftRun_eq named)
  case hardBars =>
    exact fun s ch f p runs coded selects named =>
      reset_bars exec_pdResetHard runs coded (beq_iff_eq.mpr selects) (pdResetHardRun_eq named)
  case hardFaults =>
    exact fun s ch f p runs coded selects named =>
      reset_faults exec_pdResetHard runs coded (beq_iff_eq.mpr selects) (pdResetHardRun_eq named)

end Sys2Proof.Machine
end

section
/-! A self-test that measures more leakage than DSW_STMEAS.LEAK can hold (R164, R171): the field has eight bits, in 10 nA, and the
model judges the isolation criterion by the field, where the statement, as R164, judges the measured value itself. -/

namespace Sys2Proof.Machine

/-- Port 1 in Quarantined with its Currant on and VBUS at 0 V; TESTS selects loopback and isolation. -/
def quarantinedPort : State :=
  let s := (State.reset.setFld F.SYS_ID_DIES 0 1).putBit F.PMU_DOMSTAT_ON 0 (Dom.ports 0) true
  (s.setFld F.DPE_STATE_STATE 1 Dpe.quarantined.code).setFld F.DSW_PCTL_TESTS 1 3

/-- Its self-test in step 2, the loopback. -/
def underSelfTest : State := quarantinedPort.selfTestStart 1

/-- DSW_STGO leads to the state. -/
theorem underSelfTest_reached : exec (.dswStgo 1) quarantinedPort = .next underSelfTest :=
  congrArg Host.Outcome.next (if_pos (by decide))

theorem underSelfTest_runs :
    underSelfTest.on F.DSW_PSTAT_STBUSY 1 = true ∧ (underSelfTest.dpe.at 1).stStep = 2
      ∧ (underSelfTest.dpe.at 1).stTests.testBit 1 = true := by decide

/-- The Currant measures 256 units of 10 nA, which is 2.56 µA, and 8 Ω. -/
def leakyMeasure : SelfTest := ⟨0, 256, 80, 0, 0, false, 5⟩

/-- What SELFTEST_END leaves. -/
def leakyResult : State :=
  let s := underSelfTest.each [2, 3, 4, 5] fun s _ =>
    if (s.dpe.at 1).stStep ≤ leakyMeasure.upTo then s.selfTestAdvance 1 leakyMeasure else s
  s.selfTestCheck 1

theorem exec_leakyMeasure : exec (.selftestEnd 1 leakyMeasure) underSelfTest = .next leakyResult :=
  congrArg Host.Outcome.next (if_pos underSelfTest_runs.1)

/-- The ninth bit of the leakage is cut off, and the isolation test passes. -/
theorem leakyResult_passes : leakyResult.fld F.DSW_STMEAS_LEAK 1 = 0 ∧ leakyResult.fld F.DSW_STRES_ISO 1 = 1 := by decide

/-- Refutes O26: its clause on the last step of SELFTEST_END admits leakages of 16 bits, and the model cuts them to the eight of
DSW_STMEAS.LEAK before it judges them.  At `leakyMeasure` the statement has ISO fail, and ISO of `leakyResult` reads a pass. -/
theorem not_isolationQuarantineAndGlitchCommands : ¬ Obligations.IsolationQuarantineAndGlitchCommands := by
  rintro ⟨-, -, -, -, -, -, -, -, -, -, ends, -⟩
  obtain ⟨busy, second, selected⟩ := underSelfTest_runs
  obtain ⟨t, ran, -, -, isolation, -⟩ := ends underSelfTest 1 leakyMeasure busy second (by decide) (by decide)
  have same : leakyResult = t := Host.Outcome.next.inj (exec_leakyMeasure.symm.trans ran)
  have failed : leakyResult.fld F.DSW_STRES_ISO 1 = 2 := same ▸ isolation selected
  rw [leakyResult_passes.2] at failed
  exact absurd failed (by decide)

end Sys2Proof.Machine
end

section
/-! What the entry of a state leaves: the counters and settings of the engine, the change bits of an assigned port, and the
port's interrupt (R146, R148, R384). -/

namespace Sys2Proof.Machine

-- One proof at a time: a default argument `by decide` waits for the text before it, and each proof that waits takes a thread.
set_option Elab.async false

variable {s : State} {p b : Nat}

/-- The fields of PART and DPE that the entry of a state writes. -/
def entryWrites : List Field := F.DPE_STATE_PREV :: F.DPE_STATE_STATE :: statusWrites

theorem State.setDpe_alters (s : State) (p : Nat) (d : Dpe) : Alters engineMask entryWrites s (s.setDpe p d) := by
  have written : Alters engineMask entryWrites s (s.stateWritten p d) := .ite (.refl s) (.setFld (.setFld (.refl s)))
  exact written.trans (s.setDpe_keepsEngine p d).mono

/-- The change bits of an assigned port stand. -/
theorem State.setDpe_change (d : Dpe) (assigned : s.partOf p < 4) :
    (s.setDpe p d).fld F.DPE_PORTSTAT_CHANGE p = s.fld F.DPE_PORTSTAT_CHANGE p := by
  unfold State.setDpe
  split
  · exact s.refresh_change p assigned
  · extract_lets s₁ s₂ s₃
    have written : Alters (2 ^ 9 + 2 ^ 19 + 2 ^ 25) [F.DPE_STATE_PREV, F.DPE_STATE_STATE] s s₂ := .setFld (.setFld (.refl s))
    have traced : Alters (2 ^ 9 + 2 ^ 19 + 2 ^ 25) [F.DPE_STATE_PREV, F.DPE_STATE_STATE] s s₃ :=
      .ite (.via written (State.traceForget_via ..)) written
    have told := (traced.via (State.irq_via s₃ (95 + p))).via (State.notice_via _ 2 (p + 256 * d.code))
    have part : ((s₃.irq (95 + p)).notice 2 (p + 256 * d.code)).partOf p = s.partOf p := by
      refine told _ _ ?_
      unfold assignField
      split <;> decide
    exact (State.refresh_change _ p (by rwa [part])).trans (told _ _ (by decide))

/-- A state newly entered pends the interrupt of the port. -/
theorem State.setDpe_pends {d : Dpe} (entered : s.dpeIs p d = false) (port : 95 + p < 184) :
    (s.setDpe p d).pends (95 + p) = true := by
  rw [State.setDpe, if_neg (by rw [entered]; exact Bool.false_ne_true)]
  extract_lets s₁ s₂ s₃
  have told : KeepsPending (s₃.irq (95 + p)) (((s₃.irq (95 + p)).notice 2 (p + 256 * d.code)).refresh p) :=
    .via (.via (.refl _) (State.notice_via ..)) (State.refresh_via ..)
  exact told _ (State.pends_irq_self _ ⟨by omega, port⟩)

/-! ### Events that set a change bit and count -/

/-- The event of change bit `b` has happened, and counter `c` of the port counts it (R128, R170). -/
def State.noted (s : State) (p b : Nat) (c : Field) : State := (s.change p b).incr c p

theorem State.change_alters (s : State) (p b : Nat) : Alters 0 [F.DPE_PORTSTAT_CHANGE] s (s.change p b) :=
  .ite (.putBit (.refl s)) (.refl s)

theorem State.change_bit (assigned : s.partOf p < 4) (fits : b < 16) : (s.change p b).bit F.DPE_PORTSTAT_CHANGE p b = true := by
  rw [State.change, if_pos assigned]
  exact State.bit_putBit_self s p true fits

theorem State.change_partOf (s : State) (p b q : Nat) : (s.change p b).partOf q = s.partOf q := (State.change_via ..).partOf q

theorem State.noted_via (s : State) (p b : Nat) {c : Field} (engine : blockOf c.id = .dpe := by decide) :
    Via (2 ^ 6) s (s.noted p b c) := .setFld _ _ _ (by rw [engine]; decide) (State.change_via ..)

theorem State.noted_alters (s : State) (p b : Nat) (c : Field) : Alters 0 [F.DPE_PORTSTAT_CHANGE, c] s (s.noted p b c) :=
  .setFld (.ite (.putBit (.refl s) (by simp [writable])) (.refl s)) (by simp [writable])

theorem State.noted_counts {c : Field} (s : State) (p b : Nat) (other : writable 0 [F.DPE_PORTSTAT_CHANGE] c = false := by decide) :
    (s.noted p b c).fld c p = (s.fld c p + 1) % 2 ^ c.width := by
  rw [State.noted, State.incr_fld_self, s.change_alters p b c p other]

/-- The event takes the engine to another state, and the count stands. -/
theorem State.noted_entry_counts {c : Field} (s : State) (p b : Nat) (d : Dpe)
    (other : writable 0 [F.DPE_PORTSTAT_CHANGE] c = false := by decide)
    (stands : writable engineMask entryWrites c = false := by decide) :
    ((s.noted p b c).setDpe p d).fld c p = (s.fld c p + 1) % 2 ^ c.width :=
  (State.setDpe_alters _ p d c p stands).trans (s.noted_counts p b other)

/-- The event takes the engine to another state, and the change bit of an assigned port reads 1. -/
theorem State.noted_entry_bit {c : Field} (d : Dpe) (assigned : s.partOf p < 4) (fits : b < 16)
    (engine : blockOf c.id = .dpe := by decide) (other : F.DPE_PORTSTAT_CHANGE.id ≠ c.id := by decide) :
    ((s.noted p b c).setDpe p d).bit F.DPE_PORTSTAT_CHANGE p b = true := by
  have part : (s.noted p b c).partOf p = s.partOf p := (s.noted_via p b engine).partOf p
  rw [State.bit_of_fld (State.setDpe_change d (by rwa [part])), State.noted, State.incr, State.add,
    State.bit_of_fld (fld_setFld_ne _ _ _ _ other), State.change_bit assigned fits]

/-! ### The device -/

theorem State.noDevice_alters (s : State) (p : Nat) : Alters 0 [F.DPE_STATE_SPEED, F.DPE_STATE_DEV] s (s.noDevice p) :=
  .put (.setFld (.refl s))

theorem State.noDevice_speed (s : State) (p : Nat) : (s.noDevice p).fld F.DPE_STATE_SPEED p = 0 :=
  (State.fld_put_ne _ _ _ _ (by decide)).trans ((fld_setFld_self ..).trans (Nat.zero_mod _))

theorem State.noDevice_device (s : State) (p : Nat) : (s.noDevice p).on F.DPE_STATE_DEV p = false := State.on_put_self _ p false rfl

theorem State.updDpe_self (s : State) (p : Nat) (f : DpePort → DpePort) : (s.updDpe p f).dpe.at p = f (s.dpe.at p) :=
  Tbl.at_upd_self ..

end Sys2Proof.Machine
end

section
/-! The events of the bus on a port (R148 to R153): connects, resets and chirps, babble, LPM tokens, wakes and resumes, packets. -/

namespace Sys2Proof.Machine

-- One proof at a time: a default argument `by decide` waits for the text before it, and each proof that waits takes a thread.
set_option Elab.async false

variable {s : State} {p : Nat}

/-! ### Connects and disconnects (R148, R149) -/

/-- A device is seen on the port, at low or at full speed. -/
def State.deviceSeen (s : State) (p : Nat) (low : Bool) : State :=
  (s.setFld F.DPE_STATE_SPEED p (if low then 1 else 2)).put F.DPE_STATE_DEV p true

theorem State.deviceSeen_alters (s : State) (p : Nat) (low : Bool) :
    Alters 0 [F.DPE_STATE_SPEED, F.DPE_STATE_DEV] s (s.deviceSeen p low) := .put (.setFld (.refl s))

theorem State.deviceSeen_speed (s : State) (p : Nat) (low : Bool) :
    (s.deviceSeen p low).fld F.DPE_STATE_SPEED p = if low then 1 else 2 := by
  rw [State.deviceSeen, State.fld_put_ne _ _ _ _ (by decide), fld_setFld_self]
  cases low <;> rfl

theorem deviceConnect_connects (low : Bool) (waits : s.dpeIs p .disconnected = true) (closed : s.switchClosed p = true)
    (settled : (s.dpe.at p).settling = false) :
    Completes (.deviceConnect p low) s fun t =>
      t.dpeIs p .disabled = true ∧ (t.fld F.DPE_STATE_SPEED p = if low then 1 else 2) ∧ t.on F.DPE_STATE_DEV p = true
        ∧ t.fld F.DPE_CNT0_CONNECTS p = (s.fld F.DPE_CNT0_CONNECTS p + 1) % 2 ^ 16
        ∧ (1 ≤ p → p ≤ 32 → t.pends (95 + p) = true) := by
  let s₁ := s.deviceSeen p low
  let s₂ := s₁.noted p cConnection F.DPE_CNT0_CONNECTS
  have runs : exec (.deviceConnect p low) s = .next (s₂.setDpe p .disabled) :=
    congrArg Host.Outcome.next (if_pos (by rw [waits, closed, settled]; rfl))
  have noted : Alters 0 [F.DPE_PORTSTAT_CHANGE, F.DPE_CNT0_CONNECTS] s₁ s₂ := s₁.noted_alters p _ _
  have seen := s.deviceSeen_alters p low
  have state : s₂.dpeIs p .disabled = false := by
    rw [State.dpeIs, noted _ _ (by decide), seen _ _ (by decide)]
    exact State.dpeIs_unique waits (by decide)
  refine ⟨_, runs, State.setDpe_dpeIs .., ?_, ?_, ?_, fun _ _ => State.setDpe_pends state (by omega)⟩
  · rw [State.setDpe_speed, noted _ _ (by decide), s.deviceSeen_speed]
  · rw [(s₂.setDpe_alters p _).on _ _, noted.on _ _]
    exact State.on_put_self _ p true rfl
  · rw [s₁.noted_entry_counts p cConnection, seen _ _ (by decide)]
    rfl

/-- The device of a port has gone, and its transactions are dropped (R148, R149). -/
def State.deviceGone (s : State) (p : Nat) : State :=
  (((s.noted p cConnection F.DPE_CNT0_DISCONNECTS).ttClear p).noDevice p).setDpe p .disconnected

theorem deviceDisconnect_disconnects (heard : s.se0Ignored p = false)
    (inUse : s.dpeIn p [.disabled, .enabled, .transmit, .suspended, .restartS, .restartE, .l1] = true) :
    Completes (.deviceDisconnect p) s fun t =>
      t.dpeIs p .disconnected = true ∧ t.fld F.DPE_STATE_SPEED p = 0 ∧ t.on F.DPE_STATE_DEV p = false
        ∧ t.fld F.DPE_CNT0_DISCONNECTS p = (s.fld F.DPE_CNT0_DISCONNECTS p + 1) % 2 ^ 16 := by
  have runs : exec (.deviceDisconnect p) s = .next (s.deviceGone p) :=
    congrArg Host.Outcome.next ((if_neg (by rw [heard]; exact Bool.false_ne_true)).trans (if_pos inUse))
  refine ⟨_, runs, State.setDpe_dpeIs .., ?_, ?_, ?_⟩
  · exact (State.setDpe_speed ..).trans (State.noDevice_speed ..)
  · exact ((State.setDpe_alters _ p _).on _ _).trans (State.noDevice_device ..)
  · rw [State.deviceGone, State.setDpe_alters _ p _ _ _ (by decide), State.noDevice_alters _ p _ _ (by decide),
      (State.ttClear_via ..).fld _ _ (by decide), s.noted_counts]
    rfl

/-- The device of a migrating port has gone: the keep-alive ends, and from step 4 on the port is Disconnected (R138, R141). -/
def State.movingDeviceGone (s : State) (p : Nat) : State := (s.noDevice p).updMig p fun r => { r with keepalive := false }

theorem exec_deviceDisconnect_migrating (heard : s.se0Ignored p = false) (migrating : s.dpeIs p .migrating = true) :
    exec (.deviceDisconnect p) s = .next (if 4 ≤ (s.migs.at p).step then
      ((s.movingDeviceGone p).noted p cConnection F.DPE_CNT0_DISCONNECTS).setDpe p .disconnected else s.movingDeviceGone p) := by
  have inUse : s.dpeIn p [.disabled, .enabled, .transmit, .suspended, .restartS, .restartE, .l1] = false := by
    simp [State.dpeIn, State.dpeIs_unique migrating]
  have step : ((s.movingDeviceGone p).migs.at p).step = (s.migs.at p).step := by
    rw [State.movingDeviceGone, State.updMig_self]
    rfl
  rw [← step]
  exact congrArg Host.Outcome.next (((if_neg (by rw [heard]; exact Bool.false_ne_true)).trans
    (if_neg (by rw [inUse]; exact Bool.false_ne_true))).trans (if_pos migrating))

theorem deviceDisconnect_migrating (heard : s.se0Ignored p = false) (migrating : s.dpeIs p .migrating = true) :
    Completes (.deviceDisconnect p) s fun t =>
      t.on F.DPE_STATE_DEV p = false ∧ (t.migs.at p).keepalive = false
        ∧ ((s.migs.at p).step < 4 → t.dpeIs p .migrating = true)
        ∧ (4 ≤ (s.migs.at p).step → t.dpeIs p .disconnected = true) := by
  let s₁ := s.movingDeviceGone p
  let s₂ := s₁.noted p cConnection F.DPE_CNT0_DISCONNECTS
  have gone : s₁.on F.DPE_STATE_DEV p = false := s.noDevice_device p
  have silent : (s₁.migs.at p).keepalive = false := congrArg Migration.keepalive (State.updMig_self ..)
  refine ⟨_, exec_deviceDisconnect_migrating heard migrating, ?_⟩
  split
  · next late =>
    refine ⟨?_, ?_, fun early => absurd late (by omega), fun _ => State.setDpe_dpeIs ..⟩
    · exact ((State.setDpe_alters s₂ p _).on _ _).trans (((s₁.noted_alters p _ _).on _ _).trans gone)
    · rw [(State.setDpe_via ..).same .migs (by decide), (State.noted_via ..).same .migs (by decide)]
      exact silent
  · next early =>
    refine ⟨gone, silent, fun _ => ?_, fun late => absurd late early⟩
    have state : s₁.fld F.DPE_STATE_STATE p = s.fld F.DPE_STATE_STATE p := s.noDevice_alters p _ _ (by decide)
    rw [State.dpeIs, state]
    exact migrating

/-! ### Resets and chirps (R148, R150, R167) -/

/-- A reset ends at high speed: the partition runs at it, and the device's chirp was heard whole (R150). -/
def State.chirpedThrough (s : State) (p : Nat) (completed : Bool) : Bool :=
  s.on F.PART_PSTAT_SPEED (s.partOf p) && (s.dpe.at p).chirped && completed && decide ((s.dpe.at p).corrupt ≠ 2)
    && decide (s.fld F.DPE_STATE_SPEED p ≠ 1)

/-- The speed that a reset finds; a device at low speed stays there (R150). -/
def State.speedFound (s : State) (p : Nat) (completed : Bool) : State :=
  if s.fld F.DPE_STATE_SPEED p = 1 then s else s.setFld F.DPE_STATE_SPEED p (if s.chirpedThrough p completed then 3 else 2)

theorem State.speedFound_speed (s : State) (p : Nat) (completed : Bool) :
    (s.speedFound p completed).fld F.DPE_STATE_SPEED p
      = if s.fld F.DPE_STATE_SPEED p = 1 then 1 else if s.chirpedThrough p completed then 3 else 2 := by
  unfold State.speedFound
  split
  · assumption
  · rw [fld_setFld_self]
    split <;> rfl

/-- The engine is Enabled after its reset (R148). -/
def State.resetDriven (s : State) (p : Nat) (completed : Bool) : State :=
  (((s.speedFound p completed).updDpe p fun r => { r with corrupt := 0, chirped := false }).noted p cReset
    F.DPE_CNT1_RESETS).setDpe p .enabled

/-- The trace engine and a migration that waits for the reset learn of it (R138, R351). -/
def State.resetTold (s : State) (p : Nat) : State :=
  let s := s.resetDone (s.partOf p) p
  if (s.migs.at p).active && decide ((s.migs.at p).step = 5) then s.migDone p else s

theorem State.resetTold_keepsEngine (s : State) (p : Nat) : KeepsEngine s (s.resetTold p) := by
  unfold State.resetTold
  extract_lets s₁
  have done : KeepsEngine s s₁ := .records (.refl s)
  exact .ite (done.trans (s₁.migDone_keepsEngine p)) done

theorem resetDriveEnd_enables (completed : Bool) (resetting : s.dpeIs p .resetting = true) :
    Completes (.resetDriveEnd p completed) s fun t =>
      t.dpeIs p .enabled = true ∧ t.fld F.DPE_CNT1_RESETS p = (s.fld F.DPE_CNT1_RESETS p + 1) % 2 ^ 16
        ∧ (s.fld F.DPE_STATE_SPEED p = 1 → t.fld F.DPE_STATE_SPEED p = 1)
        ∧ (s.fld F.DPE_STATE_SPEED p ≠ 1 → s.on F.PART_PSTAT_SPEED (s.partOf p) = true → (s.dpe.at p).chirped = true →
          completed = true → (s.dpe.at p).corrupt ≠ 2 → t.fld F.DPE_STATE_SPEED p = 3)
        ∧ (s.fld F.DPE_STATE_SPEED p ≠ 1 → ((s.dpe.at p).chirped = false ∨ completed = false) →
          t.fld F.DPE_STATE_SPEED p = 2) := by
  have told := (s.resetDriven p completed).resetTold_keepsEngine p
  have speed : ((s.resetDriven p completed).resetTold p).fld F.DPE_STATE_SPEED p
      = if s.fld F.DPE_STATE_SPEED p = 1 then 1 else if s.chirpedThrough p completed then 3 else 2 := by
    rw [told _ _ (by decide), State.resetDriven, State.setDpe_speed, State.noted_alters _ _ _ _ _ _ (by decide),
      State.updDpe_fld, s.speedFound_speed]
  refine ⟨(s.resetDriven p completed).resetTold p, congrArg Host.Outcome.next (if_pos resetting), ?_, ?_, fun slow => ?_,
    fun fast partition chirped whole clean => ?_, fun fast silent => ?_⟩
  · exact (told.dpeIs p _).trans (State.setDpe_dpeIs ..)
  · have count : (s.speedFound p completed).fld F.DPE_CNT1_RESETS p = s.fld F.DPE_CNT1_RESETS p := by
      unfold State.speedFound
      split
      · rfl
      · exact fld_setFld_ne s _ _ _ (by decide)
    rw [told _ _ (by decide), State.resetDriven, State.noted_entry_counts, State.updDpe_fld, count]
    rfl
  · rw [speed, if_pos slow]
  · rw [speed, if_neg fast, if_pos (by simp [State.chirpedThrough, partition, chirped, whole, clean, fast])]
  · have cut : s.chirpedThrough p completed = false := by
      obtain silent | broken := silent
      · simp [State.chirpedThrough, silent]
      · simp [State.chirpedThrough, broken]
    rw [speed, if_neg fast, cut]
    rfl

/-- A glitch that corrupts the chirp counts at the first K heard (R167). -/
def State.chirpCounted (s : State) (p : Nat) : State :=
  if (s.dpe.at p).corrupt ≠ 0 && !(s.dpe.at p).chirped then s.incr F.DPE_CNT3_GLITCHES p else s

theorem chirpDeviceK_chirps {microseconds : Nat} (resetting : s.dpeIs p .resetting = true)
    (partition : s.on F.PART_PSTAT_SPEED (s.partOf p) = true) (fast : s.fld F.DPE_STATE_SPEED p ≠ 1)
    (least : 1000 ≤ microseconds) (most : microseconds ≤ 7000) :
    Completes (.chirpDeviceK p microseconds) s fun t =>
      (t.dpe.at p).chirped = true
        ∧ t.fld F.DPE_CNT3_GLITCHES p = (if (s.dpe.at p).corrupt ≠ 0
          ∧ (s.dpe.at p).chirped = false then (s.fld F.DPE_CNT3_GLITCHES p + 1) % 2 ^ 16 else s.fld F.DPE_CNT3_GLITCHES p)
        ∧ (((s.dpe.at p).corrupt = 0 ∨ (s.dpe.at p).chirped = true) → s.OnlyIn [.dpe] t) := by
  have heard : (s.dpeIs p .resetting && s.on F.PART_PSTAT_SPEED (s.partOf p) && decide (s.fld F.DPE_STATE_SPEED p ≠ 1)
      && decide (1000 ≤ microseconds ∧ microseconds ≤ 7000)) = true := by
    simp [resetting, partition, fast, least, most]
  refine ⟨(s.chirpCounted p).updDpe p (fun r => { r with chirped := true }), congrArg Host.Outcome.next (if_pos heard), ?_, ?_,
    fun quiet => ?_⟩
  · rw [State.updDpe_self]
  · rw [State.updDpe_fld, State.chirpCounted, State.fld_ite, State.incr_fld_self]
    simp only [ne_eq, decide_not, Bool.and_eq_true, Bool.not_eq_true', decide_eq_false_iff_not]
    rfl
  · have plain : s.chirpCounted p = s := if_neg (by obtain h | h := quiet <;> simp [h])
    rw [plain]
    exact (State.updDpe_via ..).onlyIn _ (by decide)

/-! ### Babble and LPM (R148, R152) -/

theorem babbleOrLoa_disables (inUse : s.dpeIn p [.enabled, .transmit] = true) :
    Completes (.babbleOrLoa p) s fun t =>
      t.dpeIs p .disabled = true ∧ t.fld F.DPE_CNT1_DISABLES p = (s.fld F.DPE_CNT1_DISABLES p + 1) % 2 ^ 16
        ∧ (s.partOf p < 4 → t.bit F.DPE_PORTSTAT_CHANGE p cEnable = true) :=
  ⟨(s.noted p cEnable F.DPE_CNT1_DISABLES).setDpe p .disabled, congrArg Host.Outcome.next (if_pos inUse), State.setDpe_dpeIs ..,
    s.noted_entry_counts p cEnable .disabled, fun assigned => State.noted_entry_bit _ assigned (by decide)⟩

theorem lpmAck_enters (besl addr : Nat) (rwe : Bool) (enabled : s.dpeIs p .enabled = true) (lpm : s.on F.DPE_CTL_LPM_EN p = true) :
    Completes (.lpmAck p besl addr rwe) s fun t =>
      t.dpeIs p .l1 = true ∧ t.fld F.DPE_LPM_BESL p = besl % 16 ∧ t.fld F.DPE_LPM_ADDR p = addr % 128
        ∧ t.on F.DPE_LPM_RWE p = rwe := by
  let s₁ := ((s.setFld F.DPE_LPM_BESL p besl).setFld F.DPE_LPM_ADDR p addr).put F.DPE_LPM_RWE p rwe
  have entered := s₁.setDpe_alters p .l1
  refine ⟨s₁.setDpe p .l1, congrArg Host.Outcome.next (if_pos (by rw [enabled, lpm]; rfl)), State.setDpe_dpeIs .., ?_, ?_, ?_⟩
  · rw [entered _ _ (by decide), State.fld_put_ne _ _ _ _ (by decide), fld_setFld_ne _ _ _ _ (by decide), fld_setFld_self]
    rfl
  · rw [entered _ _ (by decide), State.fld_put_ne _ _ _ _ (by decide), fld_setFld_self]
    rfl
  · exact (entered.on _ _).trans (State.on_put_self _ p rwe rfl)

/-! ### Wakes and resumes (R148, R153) -/

/-- The host's resume came first and absorbs the wake: nothing goes upstream. -/
theorem State.wakeUp_absorbed (s : State) (p : Nat) (d : Dpe) :
    (s.wakeUp p true d).dpeIs p d = true ∧ (s.wakeUp p true d).parts = s.parts
      ∧ (s.wakeUp p true d).fld F.DPE_CNT2_ABSORBED p = (s.fld F.DPE_CNT2_ABSORBED p + 1) % 2 ^ 16 := by
  refine ⟨State.setDpe_dpeIs .., (State.setDpe_via ..).same .parts (by decide), ?_⟩
  exact (State.setDpe_alters _ p d _ _ (by decide)).trans (State.incr_fld_self ..)

/-- The port wakes its host, upstream. -/
theorem State.wakeUp_signals (s : State) (p : Nat) (d : Dpe) :
    (s.wakeUp p false d).dpeIs p d = true ∧ ((s.wakeUp p false d).parts.at (s.partOf p)).wakeUp = true
      ∧ (s.wakeUp p false d).fld F.DPE_CNT2_REMWAKES p = (s.fld F.DPE_CNT2_REMWAKES p + 1) % 2 ^ 16 := by
  refine ⟨State.setDpe_dpeIs .., ?_, (State.setDpe_alters _ p d _ _ (by decide)).trans (State.incr_fld_self ..)⟩
  have record : (s.wakeUp p false d).parts = s.parts.upd (s.partOf p) fun r => { r with wakeUp := true } :=
    (State.setDpe_via ..).same .parts (by decide)
  rw [record, Tbl.at_upd_self]

/-- The wake of a suspended port, or of one in its partition's suspend, that no request of the host met (R153). -/
theorem exec_deviceRemoteWake_woken (hostToo : Bool) (state : s.dpeIs p .suspended = true ∨ s.dpeIs p .enabled = true)
    (free : s.requestWaits p (.resume p) = false) (suspended : s.on F.PART_PSTAT_SUSPENDED (s.partOf p) = true)
    (armed : (s.parts.at (s.partOf p)).remoteWake = true) :
    exec (.deviceRemoteWake p hostToo) s = .next (s.wakeUp p (hostToo || (s.parts.at (s.partOf p)).freshK)
      (if s.dpeIs p .suspended then .restartS else .restartE)) := by
  refine congrArg Host.Outcome.next ?_
  obtain rests | enabled := state
  · simp [rests, free, suspended, armed]
  · simp [State.dpeIs_unique enabled (show Dpe.enabled ≠ .suspended by decide), suspended, armed, enabled]

theorem deviceRemoteWake_signals {hostToo : Bool} (rests : s.dpeIs p .suspended = true)
    (free : s.requestWaits p (.resume p) = false) (suspended : s.on F.PART_PSTAT_SUSPENDED (s.partOf p) = true)
    (armed : (s.parts.at (s.partOf p)).remoteWake = true) (alone : hostToo = false)
    (quiet : (s.parts.at (s.partOf p)).freshK = false) :
    Completes (.deviceRemoteWake p hostToo) s fun t =>
      t.dpeIs p .restartS = true ∧ (t.parts.at (s.partOf p)).wakeUp = true
        ∧ t.fld F.DPE_CNT2_REMWAKES p = (s.fld F.DPE_CNT2_REMWAKES p + 1) % 2 ^ 16 := by
  subst alone
  have runs := exec_deviceRemoteWake_woken false (.inl rests) free suspended armed
  rw [quiet, rests] at runs
  exact ⟨_, runs, s.wakeUp_signals p .restartS⟩

theorem deviceRemoteWake_absorbed {hostToo : Bool} (state : s.dpeIs p .suspended = true ∨ s.dpeIs p .enabled = true)
    (free : s.requestWaits p (.resume p) = false) (suspended : s.on F.PART_PSTAT_SUSPENDED (s.partOf p) = true)
    (armed : (s.parts.at (s.partOf p)).remoteWake = true)
    (host : hostToo = true ∨ (s.parts.at (s.partOf p)).freshK = true) :
    Completes (.deviceRemoteWake p hostToo) s fun t =>
      t.dpeIs p (if s.dpeIs p .suspended then .restartS else .restartE) = true
        ∧ (t.parts.at (s.partOf p)).wakeUp = (s.parts.at (s.partOf p)).wakeUp
        ∧ t.fld F.DPE_CNT2_ABSORBED p = (s.fld F.DPE_CNT2_ABSORBED p + 1) % 2 ^ 16 := by
  have runs := exec_deviceRemoteWake_woken hostToo state free suspended armed
  rw [Bool.or_eq_true_iff.mpr host] at runs
  obtain ⟨entered, parts, count⟩ := s.wakeUp_absorbed p (if s.dpeIs p .suspended then .restartS else .restartE)
  exact ⟨_, runs, entered, by rw [parts], count⟩

theorem deviceRemoteWake_resumes (hostToo : Bool) (rests : s.dpeIs p .suspended = true)
    (free : s.requestWaits p (.resume p) = false) (awake : s.on F.PART_PSTAT_SUSPENDED (s.partOf p) = false) :
    Completes (.deviceRemoteWake p hostToo) s fun t =>
      t.dpeIs p .resuming = true ∧ t.fld F.DPE_CNT2_REMWAKES p = (s.fld F.DPE_CNT2_REMWAKES p + 1) % 2 ^ 16 := by
  refine ⟨((s.incr F.DPE_CNT2_REMWAKES p).updDpe p (fun r => { r with fromL1 := false })).setDpe p .resuming,
    congrArg Host.Outcome.next (by simp [rests, free, awake]), State.setDpe_dpeIs .., ?_⟩
  exact (State.setDpe_alters _ p _ _ _ (by decide)).trans (State.incr_fld_self ..)

theorem deviceRemoteWake_leavesL1 (hostToo : Bool) (sleeps : s.dpeIs p .l1 = true) (armed : s.on F.DPE_LPM_RWE p = true)
    (free : s.requestWaits p (.exitL1 p) = false) :
    Completes (.deviceRemoteWake p hostToo) s fun t => t.dpeIs p .resuming = true ∧ (t.dpe.at p).fromL1 = true := by
  have rests := State.dpeIs_unique sleeps (show Dpe.l1 ≠ .suspended by decide)
  have enabled := State.dpeIs_unique sleeps (show Dpe.l1 ≠ .enabled by decide)
  have transmits := State.dpeIs_unique sleeps (show Dpe.l1 ≠ .transmit by decide)
  refine ⟨_, congrArg Host.Outcome.next ((if_neg (by rw [rests]; exact Bool.false_ne_true)).trans
    ((if_neg (by simp [enabled, transmits])).trans ((if_pos (by rw [sleeps, armed]; rfl)).trans
      (if_neg (by rw [free]; exact Bool.false_ne_true))))), State.setDpe_dpeIs .., ?_⟩
  rw [State.setDpe_dpe, State.updDpe_self]

theorem resumeDriveEnd_sends (resuming : s.dpeIs p .resuming = true) :
    Completes (.resumeDriveEnd p) s fun t => t.dpeIs p .sendEor = true :=
  ⟨_, congrArg Host.Outcome.next (if_pos resuming), State.setDpe_dpeIs ..⟩

theorem eorSent_enables (sends : s.dpeIs p .sendEor = true) :
    Completes (.eorSent p) s fun t =>
      t.dpeIs p .enabled = true
        ∧ (s.partOf p < 4 → t.bit F.DPE_PORTSTAT_CHANGE p (if (s.dpe.at p).fromL1 then cL1 else cSuspend) = true) := by
  let b := if (s.dpe.at p).fromL1 then cL1 else cSuspend
  let s₁ := (s.change p b).updDpe p fun r => { r with fromL1 := false }
  refine ⟨s₁.setDpe p .enabled, congrArg Host.Outcome.next (if_pos sends), State.setDpe_dpeIs .., fun assigned => ?_⟩
  have fits : b < 16 := by unfold b; split <;> decide
  have part : s₁.partOf p < 4 := (s.change_partOf p b p).trans_lt assigned
  exact (State.bit_of_fld (State.setDpe_change .enabled part) b).trans (State.change_bit assigned fits)

/-! ### Packets and the switch (R148, R149, R151) -/

theorem packetTransmit_ends {eop : Bool} (ends : eop = true) (transmits : s.dpeIs p .transmit = true)
    (packet : (s.dpe.at p).driving = false) :
    Completes (.packetTransmit p eop) s fun t => t.dpeIs p .enabled = true :=
  ⟨_, congrArg Host.Outcome.next ((if_pos ends).trans (if_pos (by rw [transmits, packet]; rfl))), State.setDpe_dpeIs ..⟩

theorem packetTransmit_starts {eop : Bool} (starts : eop = false) (enabled : s.dpeIs p .enabled = true)
    (awake : s.on F.PART_PSTAT_SUSPENDED (s.partOf p) = false) :
    Completes (.packetTransmit p eop) s fun t => t.dpeIs p .transmit = true :=
  ⟨_, congrArg Host.Outcome.next ((if_neg (by rw [starts]; exact Bool.false_ne_true)).trans
    (if_pos (by rw [enabled, awake]; rfl))), State.setDpe_dpeIs ..⟩

theorem switchSettleEnd_settles :
    Completes (.switchSettleEnd p) s fun t => (t.dpe.at p).settling = false ∧ s.OnlyIn [.dpe] t :=
  ⟨_, rfl, congrArg DpePort.settling (s.updDpe_self p _), (State.updDpe_via ..).onlyIn _ (by decide)⟩

/-- Settles O25: each event of the bus takes the engine to the state that its rule names, and sets the change bit and the counter
of that event. -/
theorem portEngineCommands : Obligations.PortEngineCommands :=
  ⟨fun _ _ => deviceConnect_connects, fun _ _ => deviceDisconnect_disconnects, fun _ _ => deviceDisconnect_migrating,
    fun _ _ => resetDriveEnd_enables, fun _ _ _ => chirpDeviceK_chirps, fun _ _ => babbleOrLoa_disables,
    fun _ _ => lpmAck_enters, fun _ _ _ => deviceRemoteWake_signals, fun _ _ _ => deviceRemoteWake_absorbed,
    fun _ _ => deviceRemoteWake_resumes, fun _ _ => deviceRemoteWake_leavesL1, fun _ _ => resumeDriveEnd_sends,
    fun _ _ => eorSent_enables, fun _ _ _ => packetTransmit_ends, fun _ _ _ => packetTransmit_starts,
    fun _ _ => switchSettleEnd_settles⟩

end Sys2Proof.Machine
end

section
/-! PORT_CC that asks for ErrorRecovery on a sink port while another port of the Currant claims the sink path too (R217, R222,
R223, R450): the release of the port's own claim finds the other's, and SINKBLOCK disables the port. -/

namespace Sys2Proof.Machine

/-- PORT_CC for port 1 (R450): no setting is written, and ACT asks for ErrorRecovery. -/
def recoveryFrame : Frame := ⟨0x020B, 0, 0, 0, 0, 0, [1, 0, 0, 0, 0, 0, 0, 0, 0, 0, 0, 0, 1]⟩

/-- The part of `wideWindow` at which channel 0 runs this frame: port 1, of ROLE sink, is in Attached.SNK, and ports 1 and 2 both
claim the sink path of Currant 0. -/
def claimedTwice : State :=
  let s := (wideWindow.setFld F.TCPD_CCCFG_ROLE 1 2).setFld F.TCPD_CCSTAT_STATE 1 Cc.attachedSnk.code
  let s := (s.put F.TCPD_CCSTAT_SINKCLAIM 1 true).put F.TCPD_CCSTAT_SINKCLAIM 2 true
  s.updCh 0 (fun c => { c with running := some recoveryFrame })

/-- What PORT_CC leaves there. -/
def sinkBlocked : State :=
  claimedTwice.command 0 0x020B anyForm fun s f =>
    s.maskCommand 0 f (State.ccCmd (word32 f.payload 4) (word32 f.payload 8) (byteAt f.payload 12))

theorem exec_claimedTwice : exec (.portCc 0) claimedTwice = .next sinkBlocked := rfl

theorem claimedTwice_passes : claimedTwice.maskFault 0 (2 ^ (1 - 1)) = 0 := by decide

/-- Port 1 takes the action: it is ready, and in neither of the states that refuse ErrorRecovery. -/
theorem claimedTwice_takes :
    claimedTwice.portReady 1 = true ∧ claimedTwice.ccIn 1 [.disabled, .ccOvHold] = false := by decide

theorem claimedTwice_noneWaits : claimedTwice.NoneWaits := fun _ waiting => nomatch waiting

/-- Port 2 still claims the sink path, so that port 1 ends in Disabled (R217, R222). -/
theorem sinkBlocked_disabled : sinkBlocked.fld F.TCPD_CCSTAT_STATE 1 = Cc.disabled.code := by decide +kernel

/-- Refutes O53: its clause on ErrorRecovery by PORT_CC does not say that no other port claims the sink path, and at
`claimedTwice` the port that recovers is disabled by the claim of its neighbour. -/
theorem not_portSettingsMailboxCommands : ¬ Obligations.PortSettingsMailboxCommands := by
  rintro ⟨-, -, -, -, -, -, -, recovery, -⟩
  obtain ⟨ready, free⟩ := claimedTwice_takes
  obtain ⟨t, ran, -, recovers⟩ := recovery claimedTwice 0 recoveryFrame 1 rfl rfl (by decide) (by decide) (by decide)
    claimedTwice_passes ready rfl rfl free
  have same : sinkBlocked = t := Host.Outcome.next.inj (exec_claimedTwice.symm.trans ran)
  have entered : sinkBlocked.fld F.TCPD_CCSTAT_STATE 1 = Cc.errorRecovery.code :=
    of_decide_eq_true (same ▸ recovers claimedTwice_noneWaits)
  rw [sinkBlocked_disabled] at entered
  exact absurd entered (by decide)

end Sys2Proof.Machine
end

section
/-! What a translator does with the contexts it holds (R175, R177, R180, R183): a context taken, a piece joined, a context
changed or dropped, and what each leaves of the pool and of the registers. -/

namespace Sys2Proof.Machine

-- One proof at a time: a default argument `by decide` waits for the text before it, and each proof that waits takes a thread.
set_option Elab.async false

variable {s : State} {k p n : Nat} {c : Context} {a : BusAnswer} {f : Context → Context}

/-! ### A context taken (R175) -/

theorem State.slotWrite_pool (s : State) (n o : Nat) (bytes : List Nat) : (s.slotWrite n o bytes).pool = s.pool :=
  (State.slotWrite_via ..).same .pool (by decide)

theorem State.slotWrite_regs (s : State) (n o : Nat) (bytes : List Nat) : (s.slotWrite n o bytes).regs = s.regs :=
  State.writeBytes_regs ..

/-- The context as the pool takes it: with the next arrival number, in the lowest free slot. -/
def State.placed (s : State) (c : Context) : Context := { c with arrival := s.pool.arrivals, slot := s.pool.freeSlot }

theorem State.answer_npuse (s : State) (k p : Nat) (a : BusAnswer) : (s.answer k a).npuse p = s.npuse p := rfl

theorem State.answer_puse (s : State) (k p : Nat) (a : BusAnswer) : (s.answer k a).puse p = s.puse p := rfl

theorem State.takeContext_pool (s : State) (c : Context) : (s.takeContext c).pool =
    { s.pool with
      contexts := s.pool.contexts ++ [s.placed c]
      arrivals := s.pool.arrivals + 1
      lost := s.pool.lost.filter (fun d => !d.is c.port c.addr c.ep c.dirIn c.typ) } := by
  rw [State.takeContext, State.ttRefresh_pool]
  dsimp only
  rw [State.slotWrite_pool, State.placed]

theorem State.takeContext_arrivals (s : State) (c : Context) : (s.takeContext c).pool.arrivals = s.pool.arrivals + 1 := by
  rw [State.takeContext_pool]

theorem State.takeContext_held (s : State) (c : Context) (own : c.port = p) :
    (s.takeContext c).held p = s.held p ++ [s.placed c] := by
  have kept : [s.placed c].filter (fun c => c.port == p) = [s.placed c] :=
    List.filter_cons_of_pos (beq_iff_eq.mpr (show (s.placed c).port = p from own))
  rw [State.held, State.takeContext_pool, List.filter_append, kept, State.held]

/-- A context that is not periodic is one more of its port's. -/
theorem State.takeContext_npuse (own : c.port = p) (plain : c.periodic = false) :
    (s.takeContext c).npuse p = s.npuse p + 1 := by
  have counted : [s.placed c].filter (fun c => !c.periodic) = [s.placed c] :=
    List.filter_cons_of_pos (congrArg Bool.not (show (s.placed c).periodic = false from plain))
  rw [State.npuse, s.takeContext_held c own, List.filter_append, counted, List.length_append, List.length_singleton,
    State.npuse]

/-- A periodic context is one more of its port's. -/
theorem State.takeContext_puse (own : c.port = p) (periodic : c.periodic = true) :
    (s.takeContext c).puse p = s.puse p + 1 := by
  have counted : [s.placed c].filter Context.periodic = [s.placed c] :=
    List.filter_cons_of_pos (show (s.placed c).periodic = true from periodic)
  rw [State.puse, s.takeContext_held c own, List.filter_append, counted, List.length_append, List.length_singleton, State.puse]

/-! ### A piece joined (R181) -/

theorem State.joinPiece_regs (s : State) (p addr ep : Nat) (bytes : List Nat) : (s.joinPiece p addr ep bytes).regs = s.regs := by
  unfold State.joinPiece
  extract_lets l t
  exact List.foldlRecOn l _ (motive := fun t : State => t.regs = s.regs) rfl fun _ same _ _ => (State.slotWrite_regs ..).trans same

theorem State.joinPiece_contexts (s : State) (p addr ep : Nat) (bytes : List Nat) : (s.joinPiece p addr ep bytes).pool.contexts
    = s.pool.contexts.map (fun d => if d.is p addr ep false .iso then { d with bytes := d.bytes ++ bytes } else d) := by
  unfold State.joinPiece
  extract_lets l t
  have same : t.pool = s.pool :=
    List.foldlRecOn l _ (motive := fun t : State => t.pool = s.pool) rfl fun _ same _ _ => (State.slotWrite_pool ..).trans same
  rw [← same]
  rfl

/-! ### A context changed or dropped -/

/-- The contexts of other arrival numbers stand. -/
theorem State.updContext_others (s : State) (n : Nat) (keeps : ∀ c, (f c).arrival = c.arrival) :
    (s.updContext n f).pool.contexts.filter (fun d => d.arrival != n) = s.pool.contexts.filter (fun d => d.arrival != n) := by
  have arrival : ∀ c : Context, (if c.arrival == n then f c else c).arrival = c.arrival := by
    intro c
    split
    · exact keeps c
    · rfl
  show (s.pool.contexts.map fun c => if c.arrival == n then f c else c).filter _ = _
  rw [List.filter_map, List.filter_congr (q := fun d => d.arrival != n) fun c _ => by simp only [Function.comp, arrival]]
  refine (List.map_congr_left fun c member => ?_).trans (List.map_id _)
  rw [if_neg (by simpa using (List.mem_filter.mp member).2)]
  rfl

/-- The result of a context is returned: the context is released and counted. -/
def State.contextReturned (s : State) (k p : Nat) (c : Context) (g : Field) (a : BusAnswer) : State :=
  ((s.dropContext p c.arrival).incr g p).answer k a

theorem State.contextReturned_contexts (s : State) (k p : Nat) (c : Context) (g : Field) (a : BusAnswer) :
    (s.contextReturned k p c g a).pool.contexts = s.pool.contexts.filter (fun d => d.arrival != c.arrival) := by
  rw [State.contextReturned, State.answer_pool, State.incr_pool, State.dropContext_contexts]

theorem State.contextReturned_answer (s : State) (k p : Nat) (c : Context) (g : Field) (a : BusAnswer) :
    ((s.contextReturned k p c g a).parts.at k).answer = a := State.answer_answer ..

theorem State.contextReturned_counts (s : State) (k p : Nat) (c : Context) (g : Field) (a : BusAnswer)
    (count : writable 0 ttStatus g = false := by decide) :
    (s.contextReturned k p c g a).fld g p = (s.fld g p + 1) % 2 ^ g.width := by
  rw [State.contextReturned, State.answer_fld, State.incr_fld_self, s.dropContext_alters p c.arrival g p count]

/-! ### Split transactions that are not periodic (R177, R180, R186) -/

section
variable {addr ep : Nat} {dirIn control : Bool} (serves : s.ttServes k p = true)
include serves

theorem ssplitNonperiodic_takes (bytes : List Nat)
    (fresh : s.pool.contexts.any (fun c => c.is p addr ep dirIn (if control then .control else .bulk)) = false)
    (runs : s.on F.TT_PSTAT_STOPPED p = false) (room : s.npuse p < s.npbuf p) (free : s.poolFull = false) :
    Completes (.ssplitNonperiodic k p addr ep dirIn control bytes) s fun t =>
      (t.parts.at k).answer = .ack ∧ t.npuse p = s.npuse p + 1 ∧ t.pool.arrivals = s.pool.arrivals + 1 := by
  let c := newContext p addr ep dirIn (if control then .control else .bulk) 0 bytes
  have takes : exec (.ssplitNonperiodic k p addr ep dirIn control bytes) s = .next ((s.takeContext c).answer k .ack) := by
    refine congrArg Host.Outcome.next ?_
    rw [serves, fresh, runs, free, decide_eq_false (Nat.not_le.mpr room)]
    rfl
  have plain : c.periodic = false := by cases control <;> rfl
  refine ⟨_, takes, State.answer_answer .., ?_, ?_⟩
  · rw [State.answer_npuse, State.takeContext_npuse (p := p) rfl plain]
  · rw [State.answer_pool, s.takeContext_arrivals]

theorem ssplitNonperiodic_refuses (bytes : List Nat)
    (fresh : s.pool.contexts.any (fun c => c.is p addr ep dirIn (if control then .control else .bulk)) = false)
    (barred : s.on F.TT_PSTAT_STOPPED p = true ∨ s.npbuf p ≤ s.npuse p) :
    Completes (.ssplitNonperiodic k p addr ep dirIn control bytes) s fun t =>
      (t.parts.at k).answer = .nak ∧ t.fld F.TT_PCNT0_NREFUSE p = (s.fld F.TT_PCNT0_NREFUSE p + 1) % 2 ^ 16
        ∧ t.pool = s.pool := by
  have refused : (s.on F.TT_PSTAT_STOPPED p || decide (s.npbuf p ≤ s.npuse p) || s.poolFull) = true := by
    rw [Bool.or_eq_true, Bool.or_eq_true, decide_eq_true_eq]
    exact .inl barred
  have refuses : exec (.ssplitNonperiodic k p addr ep dirIn control bytes) s
      = .next ((s.incr F.TT_PCNT0_NREFUSE p).answer k .nak) := by
    refine congrArg Host.Outcome.next ?_
    rw [serves, fresh, refused]
    rfl
  exact ⟨_, refuses, State.answer_answer .., s.incr_fld_self .., rfl⟩

theorem ssplitNonperiodic_repeats (bytes : List Nat)
    (held : s.pool.contexts.any (fun c => c.is p addr ep dirIn (if control then .control else .bulk)) = true) :
    Completes (.ssplitNonperiodic k p addr ep dirIn control bytes) s fun t => t = s.answer k .ack := by
  have repeats : exec (.ssplitNonperiodic k p addr ep dirIn control bytes) s = .next (s.answer k .ack) := by
    refine congrArg Host.Outcome.next ?_
    rw [serves, held]
    rfl
  exact ⟨_, repeats, rfl⟩

section
variable (found : s.pool.contexts.find? (fun c => c.is p addr ep dirIn (if control then .control else .bulk)) = some c)
include found

theorem csplitNonperiodic_returns (ended : c.st = .done ∨ c.st = .busError) :
    Completes (.csplitNonperiodic k p addr ep dirIn control) s fun t =>
      ((t.parts.at k).answer = if c.st = .done then c.reply else .none)
        ∧ (t.pool.contexts = s.pool.contexts.filter (fun d => d.arrival != c.arrival))
        ∧ (c.st = .done → t.fld F.TT_PCNT2_DONE p = (s.fld F.TT_PCNT2_DONE p + 1) % 2 ^ 16)
        ∧ (c.st = .busError → t.fld F.TT_PCNT2_ERRS p = (s.fld F.TT_PCNT2_ERRS p + 1) % 2 ^ 16) := by
  obtain done | failed := ended
  · have returns : exec (.csplitNonperiodic k p addr ep dirIn control) s
        = .next (s.contextReturned k p c F.TT_PCNT2_DONE c.reply) := by
      refine congrArg Host.Outcome.next ?_
      rw [serves, found]
      simp only [done, Bool.not_true, Bool.false_eq_true, if_false, State.contextReturned]
    refine ⟨_, returns, ?_, State.contextReturned_contexts .., fun _ => State.contextReturned_counts .., fun failed => ?_⟩
    · rw [if_pos done, State.contextReturned_answer]
    · rw [done] at failed
      cases failed
  · have returns : exec (.csplitNonperiodic k p addr ep dirIn control) s
        = .next (s.contextReturned k p c F.TT_PCNT2_ERRS .none) := by
      refine congrArg Host.Outcome.next ?_
      rw [serves, found]
      simp only [failed, Bool.not_true, Bool.false_eq_true, if_false, State.contextReturned]
    have other : c.st ≠ .done := by
      rw [failed]
      nofun
    refine ⟨_, returns, ?_, State.contextReturned_contexts .., fun done => absurd done other,
      fun _ => State.contextReturned_counts ..⟩
    rw [if_neg other, State.contextReturned_answer]

theorem csplitNonperiodic_waits (pending : c.st = .queued ∨ c.st = .onWire ∨ c.st = .abandoned) :
    Completes (.csplitNonperiodic k p addr ep dirIn control) s fun t => t = s.answer k .nyet := by
  have waits : exec (.csplitNonperiodic k p addr ep dirIn control) s = .next (s.answer k .nyet) := by
    refine congrArg Host.Outcome.next ?_
    rw [serves, found]
    obtain st | st | st := pending <;> simp only [st, Bool.not_true, Bool.false_eq_true, if_false]
  exact ⟨_, waits, rfl⟩

end

section
variable (unmatched : s.pool.contexts.find? (fun c => c.is p addr ep dirIn (if control then .control else .bulk)) = none)
include unmatched

theorem csplitNonperiodic_naks
    (none : s.pool.lost.any (fun c => c.is p addr ep dirIn (if control then .control else .bulk)) = false) :
    Completes (.csplitNonperiodic k p addr ep dirIn control) s fun t => t = s.answer k .nak := by
  have naks : exec (.csplitNonperiodic k p addr ep dirIn control) s = .next (s.answer k .nak) := by
    refine congrArg Host.Outcome.next ?_
    rw [serves, unmatched, none]
    rfl
  exact ⟨_, naks, rfl⟩

theorem csplitNonperiodic_silent
    (lost : s.pool.lost.any (fun c => c.is p addr ep dirIn (if control then .control else .bulk)) = true) :
    Completes (.csplitNonperiodic k p addr ep dirIn control) s fun t =>
      (t.parts.at k).answer = .none ∧ t.pool.contexts = s.pool.contexts := by
  let typ : SplitType := if control then .control else .bulk
  let s₁ : State := { s with pool := { s.pool with lost := s.pool.lost.filter (fun c => !c.is p addr ep dirIn typ) } }
  have silent : exec (.csplitNonperiodic k p addr ep dirIn control) s = .next (s₁.answer k .none) := by
    refine congrArg Host.Outcome.next ?_
    rw [serves, unmatched, lost]
    rfl
  exact ⟨_, silent, State.answer_answer .., rfl⟩

end

end

end Sys2Proof.Machine
end

section
/-! Periodic split transactions (R177, R178, R181, R183, R186): a start-split takes a context of the port's reservation or of the
shared part, or is refused, and a complete-split returns what has come. -/

namespace Sys2Proof.Machine

-- One proof at a time: a default argument `by decide` waits for the text before it, and each proof that waits takes a thread.
set_option Elab.async false

variable {s : State} {k p n addr ep : Nat} {dirIn iso : Bool} {c : Context} {a : BusAnswer}

/-! ### A start-split -/

/-- A periodic start-split is refused, for want of a context of the pool where `empty` (R178, R186). -/
def State.splitRefused (s : State) (p : Nat) (empty : Bool) : State :=
  let s := s.incr F.TT_PCNT0_PREFUSE p
  if empty then (s.incr F.TT_POOLCNT_EMPTY 0).irq 133 else s

theorem State.splitRefused_true (s : State) (p : Nat) :
    s.splitRefused p true = ((s.incr F.TT_PCNT0_PREFUSE p).incr F.TT_POOLCNT_EMPTY 0).irq 133 := rfl

theorem State.splitRefused_pool (s : State) (p : Nat) (empty : Bool) : (s.splitRefused p empty).pool = s.pool := by
  cases empty
  · rfl
  · rw [State.splitRefused_true, (State.irq_via ..).same .pool (by decide), State.incr_pool, State.incr_pool]

theorem State.splitRefused_counts (s : State) (p : Nat) (empty : Bool) :
    (s.splitRefused p empty).fld F.TT_PCNT0_PREFUSE p = (s.fld F.TT_PCNT0_PREFUSE p + 1) % 2 ^ 16 := by
  have counted : (s.incr F.TT_PCNT0_PREFUSE p).fld F.TT_PCNT0_PREFUSE p = (s.fld F.TT_PCNT0_PREFUSE p + 1) % 2 ^ 16 :=
    s.incr_fld_self ..
  cases empty
  · exact counted
  · rw [State.splitRefused_true, State.irq_fld _ _ _ (by decide), State.incr, State.add, fld_setFld_ne _ _ _ _ (by decide),
      counted]

theorem State.splitRefused_empty (s : State) (p : Nat) :
    (s.splitRefused p true).fld F.TT_POOLCNT_EMPTY 0 = (s.fld F.TT_POOLCNT_EMPTY 0 + 1) % 2 ^ 16
      ∧ (s.splitRefused p true).pends 133 = true := by
  have before : (s.incr F.TT_PCNT0_PREFUSE p).fld F.TT_POOLCNT_EMPTY 0 = s.fld F.TT_POOLCNT_EMPTY 0 :=
    fld_setFld_ne _ _ _ _ (by decide)
  refine ⟨?_, State.pends_irq_self _ (by decide)⟩
  rw [State.splitRefused_true, State.irq_fld _ _ _ (by decide), State.incr_fld_self, before]
  rfl

/-- The context that a periodic start-split asks for. -/
def periodicContext (p addr ep : Nat) (dirIn iso : Bool) (due : Nat) (bytes : List Nat) (shared : Bool) : Context :=
  { newContext p addr ep dirIn (if iso then .iso else .interrupt) due bytes with shared }

theorem periodicContext_periodic (p addr ep : Nat) (dirIn iso : Bool) (due : Nat) (bytes : List Nat) (shared : Bool) :
    (periodicContext p addr ep dirIn iso due bytes shared).periodic = true := by
  cases iso <;> rfl

/-- A tie for the last free shared context goes to one of the partitions that ask (R178). -/
def State.tieDecided (s : State) (k w : Nat) : State :=
  { s with pool := { s.pool with lastWinner := w, tieOpen := decide (w ≠ k) } }

/-- A context is drawn from the reservation of its port, or from what is free of the shared part, or the draw is refused (R177,
R178): `own` asks for the one, `shared` for the other. -/
def State.draw (s : State) (k p : Nat) (own shared : Context) (rivals : List Nat) : State :=
  if s.poolFull then s.splitRefused p true
  else if ((s.held p).filter (fun d => d.periodic && !d.shared)).length < s.pres p then s.takeContext own
  else if s.sharedFree = 0 then s.splitRefused p true
  else if s.sharedFree = 1 ∧ rivals ≠ [] then
    let w := if s.pool.tieOpen && (k :: rivals).contains s.pool.lastWinner then s.pool.lastWinner
      else tieWinner s.pool.lastWinner (k :: rivals)
    if w = k then (s.tieDecided k w).takeContext shared else (s.tieDecided k w).splitRefused p true
  else State.takeContext { s with pool := { s.pool with tieOpen := false } } shared

section
variable {own shared : Context} {rivals : List Nat}

/-- A draw that the reservation or the shared part can meet takes a context. -/
theorem State.draw_takes (ownPort : own.port = p) (ownPeriodic : own.periodic = true) (sharedPort : shared.port = p)
    (sharedPeriodic : shared.periodic = true) (free : s.poolFull = false)
    (met : ((s.held p).filter (fun d => d.periodic && !d.shared)).length < s.pres p ∨ 2 ≤ s.sharedFree
      ∨ (s.sharedFree = 1 ∧ rivals = [])) :
    (s.draw k p own shared rivals).puse p = s.puse p + 1
      ∧ (s.draw k p own shared rivals).pool.arrivals = s.pool.arrivals + 1 := by
  unfold State.draw
  rw [free, if_neg Bool.false_ne_true]
  by_cases reserved : ((s.held p).filter (fun d => d.periodic && !d.shared)).length < s.pres p
  · rw [if_pos reserved]
    exact ⟨State.takeContext_puse ownPort ownPeriodic, State.takeContext_arrivals ..⟩
  · have some_ : s.sharedFree ≠ 0 := by omega
    have alone : ¬ (s.sharedFree = 1 ∧ rivals ≠ []) := by
      rintro ⟨one, asked⟩
      rcases met with own | many | ⟨-, none⟩
      · exact reserved own
      · omega
      · exact asked none
    rw [if_neg reserved, if_neg some_, if_neg alone]
    exact ⟨State.takeContext_puse sharedPort sharedPeriodic, State.takeContext_arrivals ..⟩

section
variable (spent : s.pres p ≤ ((s.held p).filter (fun d => d.periodic && !d.shared)).length)
include spent

/-- With the reservation spent and nothing free of the shared part, the draw is refused. -/
theorem State.draw_empty (none : s.sharedFree = 0) : s.draw k p own shared rivals = s.splitRefused p true := by
  rw [State.draw, if_neg (Nat.not_lt.mpr spent), if_pos none, ite_self]

/-- The last free shared context goes round robin to one of the partitions that ask on the same cycle (R178). -/
theorem State.draw_ties (free : s.poolFull = false) (one : s.sharedFree = 1) (asked : rivals ≠ [])
    (first : s.pool.tieOpen = false) :
    s.draw k p own shared rivals
      = let w := tieWinner s.pool.lastWinner (k :: rivals)
        if w = k then (s.tieDecided k w).takeContext shared else (s.tieDecided k w).splitRefused p true := by
  have some_ : s.sharedFree ≠ 0 := by omega
  rw [State.draw, free, if_neg Bool.false_ne_true, if_neg (Nat.not_lt.mpr spent), if_neg some_, if_pos ⟨one, asked⟩, first]
  rfl

end

end

section
variable {more : Bool} {rivals : List Nat} (serves : s.ttServes k p = true) (due : Nat) (bytes : List Nat)
include serves

theorem ssplitPeriodic_refuses
    (barred : s.on F.TT_PSTAT_STOPPED p = true ∨ (s.pmax p ≤ s.puse p ∧ (iso && !dirIn && more) = false)) :
    Completes (.ssplitPeriodic k p addr ep dirIn iso more due bytes rivals) s fun t =>
      (t.parts.at k).answer = .none ∧ t.pool = s.pool
        ∧ t.fld F.TT_PCNT0_PREFUSE p = (s.fld F.TT_PCNT0_PREFUSE p + 1) % 2 ^ 16 := by
  have refuses : exec (.ssplitPeriodic k p addr ep dirIn iso more due bytes rivals) s
      = .next ((s.splitRefused p false).answer k .none) := by
    refine congrArg Host.Outcome.next ?_
    obtain stopped | ⟨used, whole⟩ := barred
    · cases iso && !dirIn && more <;> rw [serves, stopped] <;> rfl
    · cases stopped : s.on F.TT_PSTAT_STOPPED p <;> rw [serves, whole]
      · rw [if_pos used]; rfl
      · rfl
  exact ⟨_, refuses, State.answer_answer .., State.splitRefused_pool .., State.splitRefused_counts ..⟩

theorem ssplitPeriodic_joins (piece : (iso && !dirIn && more) = true) (runs : s.on F.TT_PSTAT_STOPPED p = false) :
    Completes (.ssplitPeriodic k p addr ep dirIn iso more due bytes rivals) s fun t =>
      (t.parts.at k).answer = .none ∧ t.regs = s.regs
        ∧ (t.pool.contexts = s.pool.contexts.map (fun d => if d.is p addr ep false .iso then { d with bytes := d.bytes ++ bytes } else d)) := by
  have joins : exec (.ssplitPeriodic k p addr ep dirIn iso more due bytes rivals) s
      = .next ((s.joinPiece p addr ep bytes).answer k .none) := by
    refine congrArg Host.Outcome.next ?_
    rw [serves, piece, runs]
    rfl
  exact ⟨_, joins, State.answer_answer .., s.joinPiece_regs .., s.joinPiece_contexts ..⟩

section
variable (whole : (iso && !dirIn && more) = false) (runs : s.on F.TT_PSTAT_STOPPED p = false) (room : s.puse p < s.pmax p)
include whole runs room

/-- Of a running translator with room for a context of its port, a start-split draws on the pool (R177, R178). -/
theorem exec_ssplitPeriodic :
    exec (.ssplitPeriodic k p addr ep dirIn iso more due bytes rivals) s
      = .next ((s.draw k p (periodicContext p addr ep dirIn iso due bytes false)
          (periodicContext p addr ep dirIn iso due bytes true) rivals).answer k .none) := by
  refine congrArg Host.Outcome.next ?_
  rw [serves, whole, runs, if_neg (Nat.not_le.mpr room)]
  rfl

theorem ssplitPeriodic_takes (free : s.poolFull = false)
    (met : ((s.held p).filter (fun d => d.periodic && !d.shared)).length < s.pres p ∨ 2 ≤ s.sharedFree
      ∨ (s.sharedFree = 1 ∧ rivals = [])) :
    Completes (.ssplitPeriodic k p addr ep dirIn iso more due bytes rivals) s fun t =>
      (t.parts.at k).answer = .none ∧ t.puse p = s.puse p + 1 ∧ t.pool.arrivals = s.pool.arrivals + 1 := by
  obtain ⟨used, arrived⟩ := State.draw_takes (s := s) (k := k) (p := p) (rivals := rivals)
    (own := periodicContext p addr ep dirIn iso due bytes false) (shared := periodicContext p addr ep dirIn iso due bytes true)
    rfl (periodicContext_periodic ..) rfl (periodicContext_periodic ..) free met
  exact ⟨_, exec_ssplitPeriodic serves due bytes whole runs room, State.answer_answer .., used, arrived⟩

section
variable (spent : s.pres p ≤ ((s.held p).filter (fun d => d.periodic && !d.shared)).length)
include spent

theorem ssplitPeriodic_findsNone (none : s.sharedFree = 0) :
    Completes (.ssplitPeriodic k p addr ep dirIn iso more due bytes rivals) s fun t =>
      (t.parts.at k).answer = .none ∧ t.pool = s.pool
        ∧ t.fld F.TT_PCNT0_PREFUSE p = (s.fld F.TT_PCNT0_PREFUSE p + 1) % 2 ^ 16
        ∧ t.fld F.TT_POOLCNT_EMPTY 0 = (s.fld F.TT_POOLCNT_EMPTY 0 + 1) % 2 ^ 16 ∧ t.pends 133 = true := by
  have refuses := exec_ssplitPeriodic serves (rivals := rivals) (addr := addr) (ep := ep) due bytes whole runs room
  rw [State.draw_empty spent none] at refuses
  exact ⟨_, refuses, State.answer_answer .., s.splitRefused_pool p true, s.splitRefused_counts p true, s.splitRefused_empty p⟩

theorem ssplitPeriodic_ties (free : s.poolFull = false) (one : s.sharedFree = 1) (asked : rivals ≠ [])
    (first : s.pool.tieOpen = false) :
    Completes (.ssplitPeriodic k p addr ep dirIn iso more due bytes rivals) s fun t =>
      (t.parts.at k).answer = .none ∧ t.pool.lastWinner = tieWinner s.pool.lastWinner (k :: rivals)
        ∧ (tieWinner s.pool.lastWinner (k :: rivals) = k → t.puse p = s.puse p + 1)
        ∧ (tieWinner s.pool.lastWinner (k :: rivals) ≠ k →
          t.pool.contexts = s.pool.contexts ∧ t.fld F.TT_PCNT0_PREFUSE p = (s.fld F.TT_PCNT0_PREFUSE p + 1) % 2 ^ 16
          ∧ t.fld F.TT_POOLCNT_EMPTY 0 = (s.fld F.TT_POOLCNT_EMPTY 0 + 1) % 2 ^ 16) := by
  have draws := exec_ssplitPeriodic serves (rivals := rivals) (addr := addr) (ep := ep) due bytes whole runs room
  rw [State.draw_ties spent free one asked first] at draws
  dsimp only at draws
  let decided := s.tieDecided k (tieWinner s.pool.lastWinner (k :: rivals))
  by_cases won : tieWinner s.pool.lastWinner (k :: rivals) = k
  · rw [if_pos won] at draws
    refine ⟨_, draws, State.answer_answer .., ?_, fun _ => ?_, fun lost => absurd won lost⟩
    · rw [State.answer_pool, State.takeContext_pool]
      rfl
    · exact (State.answer_puse ..).trans (State.takeContext_puse (s := decided) rfl (periodicContext_periodic ..))
  · rw [if_neg won] at draws
    have pool : (decided.splitRefused p true).pool = decided.pool := State.splitRefused_pool ..
    have contexts : (decided.splitRefused p true).pool.contexts = s.pool.contexts := (congrArg Pool.contexts pool).trans rfl
    obtain ⟨empty, -⟩ := decided.splitRefused_empty p
    exact ⟨_, draws, State.answer_answer .., congrArg Pool.lastWinner pool, fun wins => absurd wins won,
      fun _ => ⟨contexts, decided.splitRefused_counts p true, empty⟩⟩

end

end

end

end Sys2Proof.Machine
end

section
/-! A complete-split of a periodic context (R183): what it returns, and the answer that a repeat of it gets. -/

namespace Sys2Proof.Machine

-- One proof at a time: a default argument `by decide` waits for the text before it, and each proof that waits takes a thread.
set_option Elab.async false

variable {s : State} {k p n addr ep : Nat} {dirIn iso again : Bool} {came : List Nat} {c : Context} {a : BusAnswer}
  {f : Context → Context}

/-! ### A context answered -/

/-- A context is changed, and keeps the answer that goes out for it. -/
def State.answered (s : State) (k : Nat) (c : Context) (a : BusAnswer) (f : Context → Context) : State :=
  (s.updContext c.arrival fun d => { f d with answered := some a }).answer k a

theorem State.answered_answer (s : State) (k : Nat) (c : Context) (a : BusAnswer) (f : Context → Context) :
    ((s.answered k c a f).parts.at k).answer = a := State.answer_answer ..

theorem State.answered_fld (s : State) (k : Nat) (c : Context) (a : BusAnswer) (f : Context → Context) (g : Field) (i : Nat) :
    (s.answered k c a f).fld g i = s.fld g i := rfl

theorem State.answered_keeps (keeps : ∀ d, (f d).arrival = d.arrival) :
    ∀ d ∈ (s.answered k c a f).pool.contexts, d.arrival = c.arrival → d.answered = some a :=
  State.updContext_changed keeps fun _ => rfl

/-- An answer that returns what was held leaves of the context these bytes. -/
def Context.left (bytes : List Nat) (c : Context) : Context := { c with bytes }

/-- A piece of a packet on the wire is returned (R183). -/
def Context.giving (n : Nat) (c : Context) : Context := { c with given := c.given + n }

/-! ### What a complete-split returns -/

/-- The answer for a transaction that has ended on the bus. -/
def Context.outcome (c : Context) (iso : Bool) : BusAnswer :=
  if c.result < 3 then c.reply
  else if 188 < c.bytes.length then .mdata (c.bytes.take 188) else .data (if iso then 0 else c.result - 3) c.bytes

/-- A transaction that has ended on the bus returns its result, in pieces of 188 bytes, and counts with the last. -/
def State.returned (s : State) (k p : Nat) (iso : Bool) (c : Context) : State :=
  if c.result < 3 ∨ c.bytes.length ≤ 188 then (s.incr F.TT_PCNT2_DONE p).answered k c (c.outcome iso) (Context.left [])
  else s.answered k c (c.outcome iso) (Context.left (c.bytes.drop 188))

theorem State.returned_eq (s : State) (k p : Nat) (iso : Bool) (c : Context) :
    (if 3 ≤ c.result then
      if 188 < c.bytes.length then s.answered k c (.mdata (c.bytes.take 188)) (Context.left (c.bytes.drop 188))
      else (s.incr F.TT_PCNT2_DONE p).answered k c (.data (if iso then 0 else c.result - 3) c.bytes) (Context.left [])
    else (s.incr F.TT_PCNT2_DONE p).answered k c c.reply (Context.left [])) = s.returned k p iso c := by
  unfold State.returned Context.outcome
  by_cases data : 3 ≤ c.result
  · have ends : ¬ c.result < 3 := Nat.not_lt.mpr data
    by_cases long : 188 < c.bytes.length
    · have more : ¬ (c.result < 3 ∨ c.bytes.length ≤ 188) := by omega
      rw [if_pos data, if_pos long, if_neg more, if_neg ends, if_pos long]
    · have last : c.result < 3 ∨ c.bytes.length ≤ 188 := .inr (Nat.not_lt.mp long)
      rw [if_pos data, if_neg long, if_pos last, if_neg ends, if_neg long]
  · have plain : c.result < 3 := Nat.not_le.mp data
    rw [if_neg data, if_pos (.inl plain), if_pos plain]

theorem State.returned_answer (s : State) (k p : Nat) (iso : Bool) (c : Context) :
    ((s.returned k p iso c).parts.at k).answer = c.outcome iso := by
  unfold State.returned
  split
  · exact State.answered_answer ..
  · exact State.answered_answer ..

/-- What a complete-split leaves that is not a repeat: the state of its context decides (R183). -/
def State.splitCompleted (s : State) (k p : Nat) (dirIn iso : Bool) (came : List Nat) (c : Context) : State :=
  match c.st with
  | .done => s.returned k p iso c
  | .busError => (s.incr F.TT_PCNT2_ERRS p).answered k c .err (Context.left [])
  | .abandoned => s.answered k c .err (Context.left [])
  | .onWire =>
    if dirIn = false ∨ came = [] then s.answered k c .nyet (Context.left c.bytes)
    else (s.slotWrite c.slot c.given came).answered k c (.mdata (came.take 188)) (Context.giving (came.take 188).length)
  | .queued => s.answered k c .nyet (Context.left c.bytes)

/-- The answer that goes out stays with the context (R183). -/
theorem State.splitCompleted_keeps (s : State) (k p : Nat) (dirIn iso : Bool) (came : List Nat) (c : Context) :
    ∀ d ∈ (s.splitCompleted k p dirIn iso came c).pool.contexts, d.arrival = c.arrival →
      d.answered = some ((s.splitCompleted k p dirIn iso came c).parts.at k).answer := by
  unfold State.splitCompleted State.returned
  repeat' split
  all_goals
    rw [State.answered_answer]
    exact State.answered_keeps fun _ => rfl

section
variable (serves : s.ttServes k p = true)
include serves

theorem csplitPeriodic_unmatched (again : Bool) (came : List Nat)
    (none : s.pool.contexts.find? (fun c => c.is p addr ep dirIn (if iso then .iso else .interrupt)) = none) :
    Completes (.csplitPeriodic k p addr ep dirIn iso again came) s fun t => t = s.answer k .err := by
  have runs : exec (.csplitPeriodic k p addr ep dirIn iso again came) s = .next (s.answer k .err) := by
    refine congrArg Host.Outcome.next ?_
    rw [serves, none]
    rfl
  exact ⟨_, runs, rfl⟩

section
variable (found : s.pool.contexts.find? (fun c => c.is p addr ep dirIn (if iso then .iso else .interrupt)) = some c)
include found

theorem csplitPeriodic_repeats (came : List Nat) (repeated : again = true) (before : c.answered = some a) :
    Completes (.csplitPeriodic k p addr ep dirIn iso again came) s fun t => t = s.answer k a := by
  have runs : exec (.csplitPeriodic k p addr ep dirIn iso again came) s = .next (s.answer k a) := by
    refine congrArg Host.Outcome.next ?_
    rw [serves, found]
    dsimp only
    rw [repeated, before]
    rfl
  exact ⟨_, runs, rfl⟩

variable (first : again = false ∨ c.answered = none)
include first

theorem exec_csplitPeriodic : exec (.csplitPeriodic k p addr ep dirIn iso again came) s
    = .next (s.splitCompleted k p dirIn iso came c) := by
  refine congrArg Host.Outcome.next ?_
  rw [serves, found]
  dsimp only
  rw [if_neg (by decide)]
  split
  · next a repeated before =>
    rw [before] at first
    simp at first
  · unfold State.splitCompleted
    cases st : c.st
    case done => exact State.returned_eq ..
    all_goals rfl

theorem csplitPeriodic_returns (ended : c.st = .done) :
    Completes (.csplitPeriodic k p addr ep dirIn iso again came) s fun t =>
      ((t.parts.at k).answer = if c.result < 3 then c.reply else if 188 < c.bytes.length then .mdata (c.bytes.take 188) else .data (if iso then 0 else c.result - 3) c.bytes)
        ∧ (∀ d ∈ t.pool.contexts, d.arrival = c.arrival → d.answered = some (t.parts.at k).answer)
        ∧ ((c.result < 3 ∨ c.bytes.length ≤ 188) → t.fld F.TT_PCNT2_DONE p = (s.fld F.TT_PCNT2_DONE p + 1) % 2 ^ 16) := by
  have gives : s.splitCompleted k p dirIn iso came c = s.returned k p iso c := by rw [State.splitCompleted, ended]
  refine ⟨_, exec_csplitPeriodic serves found first, ?_, s.splitCompleted_keeps k p dirIn iso came c, fun last => ?_⟩
  · rw [gives, State.returned_answer]
    rfl
  · rw [gives, State.returned, if_pos last, State.answered_fld]
    exact s.incr_fld_self ..

theorem csplitPeriodic_gives (sending : c.st = .onWire) (inward : dirIn = true) (some_ : came ≠ []) :
    Completes (.csplitPeriodic k p addr ep dirIn iso again came) s fun t =>
      (t.parts.at k).answer = .mdata (came.take 188)
        ∧ (∀ d ∈ t.pool.contexts, d.arrival = c.arrival → d.answered = some (.mdata (came.take 188))) := by
  have waits : ¬ (dirIn = false ∨ came = []) := by simp [inward, some_]
  have answer : ((s.splitCompleted k p dirIn iso came c).parts.at k).answer = .mdata (came.take 188) := by
    simp only [State.splitCompleted, sending, if_neg waits, State.answered_answer]
  exact ⟨_, exec_csplitPeriodic serves found first, answer, answer ▸ s.splitCompleted_keeps k p dirIn iso came c⟩

theorem csplitPeriodic_answers :
    Completes (.csplitPeriodic k p addr ep dirIn iso again came) s fun t =>
      (c.st = .queued → (t.parts.at k).answer = .nyet ∧ t.regs = s.regs)
        ∧ (c.st = .onWire → (dirIn = false ∨ came = []) → (t.parts.at k).answer = .nyet ∧ t.regs = s.regs)
        ∧ (∀ d ∈ t.pool.contexts, d.arrival = c.arrival → d.answered = some (t.parts.at k).answer)
        ∧ (c.st = .abandoned → (t.parts.at k).answer = .err)
        ∧ (c.st = .busError →
          (t.parts.at k).answer = .err ∧ t.fld F.TT_PCNT2_ERRS p = (s.fld F.TT_PCNT2_ERRS p + 1) % 2 ^ 16) := by
  refine ⟨_, exec_csplitPeriodic serves found first, fun queued => ?_, fun sending nothing => ?_, s.splitCompleted_keeps k p dirIn iso came c,
    fun abandoned => ?_, fun failed => ?_⟩
  · simp only [State.splitCompleted, queued]
    exact ⟨State.answered_answer .., rfl⟩
  · simp only [State.splitCompleted, sending, if_pos nothing]
    exact ⟨State.answered_answer .., rfl⟩
  · simp only [State.splitCompleted, abandoned]
    exact State.answered_answer ..
  · simp only [State.splitCompleted, failed]
    exact ⟨State.answered_answer .., (State.answered_fld ..).trans (s.incr_fld_self ..)⟩

end

end

end Sys2Proof.Machine
end

section
/-! What a translator does on the wire (R172, R174, R179, R181, R188): tokens for ports that are not served, the start of a frame,
and the start and the end of a transaction. -/

namespace Sys2Proof.Machine

-- One proof at a time: a default argument `by decide` waits for the text before it, and each proof that waits takes a thread.
set_option Elab.async false

variable {s : State} {k p : Nat} {c : Context}

/-! ### Tokens for ports that are not served (R174) -/

theorem badSplit_counts (low : k < 4) (unserved : s.ttServes k p = false) :
    Completes (.badSplit k p) s fun t =>
      (t.parts.at k).answer = .none ∧ t.fld F.TT_BADSPLIT_COUNT k = (s.fld F.TT_BADSPLIT_COUNT k + 1) % 2 ^ 16
        ∧ t.pool = s.pool := by
  have counts : exec (.badSplit k p) s = .next (s.badSplit k) := by
    refine congrArg Host.Outcome.next ?_
    rw [decide_eq_true low, unserved]
    rfl
  exact ⟨_, counts, State.answer_answer .., (State.answer_fld ..).trans (s.incr_fld_self ..), rfl⟩

/-! ### The start of a frame (R172) -/

theorem State.updTt_self (s : State) (p : Nat) (g : TtPort → TtPort) : (s.updTt p g).tt.at p = g (s.tt.at p) :=
  Tbl.at_upd_self ..

section
variable (serves : s.ttServes (s.partOf p) p = true) (awake : s.on F.PART_PSTAT_SUSPENDED (s.partOf p) = false)
include serves awake

theorem ttFrameStart_sendsSof (full : s.fld F.DPE_STATE_SPEED p = 2) :
    Completes (.ttFrameStart p) s fun t =>
      (t.tt.at p).sofs = (s.tt.at p).sofs + 1 ∧ (t.tt.at p).frame = s.fld F.PART_FRAME_FRAME (s.partOf p)
        ∧ s.OnlyIn [.tt] t := by
  have sends : exec (.ttFrameStart p) s = .next (s.updTt p fun r =>
      { r with sofs := r.sofs + 1, frame := s.fld F.PART_FRAME_FRAME (s.partOf p) }) := by
    refine congrArg Host.Outcome.next ?_
    rw [serves, awake, full]
    rfl
  refine ⟨_, sends, ?_, ?_, (State.updTt_via ..).onlyIn _ (by decide)⟩
  · rw [State.updTt_self]
  · rw [State.updTt_self]

theorem ttFrameStart_keepsAlive (low : s.fld F.DPE_STATE_SPEED p = 1) :
    Completes (.ttFrameStart p) s fun t =>
      (t.tt.at p).eops = (s.tt.at p).eops + 1 ∧ (t.tt.at p).frame = (s.tt.at p).frame ∧ s.OnlyIn [.tt] t := by
  have sends : exec (.ttFrameStart p) s = .next (s.updTt p fun r => { r with eops := r.eops + 1 }) := by
    refine congrArg Host.Outcome.next ?_
    rw [serves, awake, low]
    rfl
  refine ⟨_, sends, ?_, ?_, (State.updTt_via ..).onlyIn _ (by decide)⟩
  · rw [State.updTt_self]
  · rw [State.updTt_self]

end

/-! ### The start of a transaction (R179, R188) -/

/-- Whether a translator serves its port rests on the assignment, the speeds and the engine's state. -/
theorem State.ttServes_add (s : State) (n : Nat) (k p : Nat) :
    (s.add F.TT_ECC_CORR 0 n).ttServes k p = s.ttServes k p := by
  have kept : ∀ {g : Field} (i : Nat), g.id ≠ F.TT_ECC_CORR.id → (s.add F.TT_ECC_CORR 0 n).fld g i = s.fld g i :=
    fun i other => fld_setFld_ne s 0 i _ other
  have part : (s.add F.TT_ECC_CORR 0 n).partOf p = s.partOf p := kept _ (assignField_ne p)
  rw [State.ttServes, State.ttServes, part, State.on_of_fld (kept _ (by decide)), State.dpeIn_of_fld (kept _ (by decide))]

theorem ttTransactionStart_starts {uframe corrected : Nat} {beforeEof1 npFits : Bool}
    (serves : s.ttServes (s.partOf p) p = true) (early : beforeEof1 = true) (runs : s.on F.TT_PSTAT_STOPPED p = false)
    (free : s.on F.TT_PSTAT_WIRE p = false) (awake : s.on F.PART_PSTAT_SUSPENDED (s.partOf p) = false)
    (next : s.nextContext p uframe npFits = some c) :
    Completes (.ttTransactionStart p uframe beforeEof1 npFits corrected) s fun t =>
      t.on F.TT_PSTAT_WIRE p = true ∧ t.fld F.TT_ECC_CORR 0 = (s.fld F.TT_ECC_CORR 0 + corrected) % 2 ^ 16
        ∧ (∀ d ∈ t.pool.contexts, d.arrival = c.arrival → d.st = .onWire)
        ∧ (t.pool.contexts.filter (fun d => d.arrival != c.arrival) = s.pool.contexts.filter (fun d => d.arrival != c.arrival)) := by
  let s₁ := s.add F.TT_ECC_CORR 0 corrected
  have kept : ∀ {g : Field} (i : Nat), g.id ≠ F.TT_ECC_CORR.id → s₁.on g i = s.on g i := fun i other =>
    State.on_of_fld (fld_setFld_ne s 0 i _ other)
  have part : s₁.partOf p = s.partOf p := fld_setFld_ne s 0 _ _ (assignField_ne p)
  have starts : exec (.ttTransactionStart p uframe beforeEof1 npFits corrected) s
      = .next ((s₁.updContext c.arrival fun d => { d with st := .onWire }).put F.TT_PSTAT_WIRE p true) := by
    have chosen : s₁.nextContext p uframe npFits = some c := next
    refine congrArg Host.Outcome.next ?_
    show (if s₁.ttServes (s₁.partOf p) p && beforeEof1 && !s₁.on F.TT_PSTAT_STOPPED p && !s₁.on F.TT_PSTAT_WIRE p
        && !s₁.on F.PART_PSTAT_SUSPENDED (s₁.partOf p) then _ else _) = _
    rw [part, State.ttServes_add, serves, early, kept _ (by decide), runs, kept _ (by decide), free, kept _ (by decide), awake,
      chosen]
    rfl
  refine ⟨_, starts, State.on_put_self _ p true rfl, ?_, State.updContext_changed (fun _ => rfl) fun _ => rfl,
    s₁.updContext_others c.arrival fun _ => rfl⟩
  exact (State.fld_put_ne _ _ _ _ (by decide)).trans (fld_setFld_self ..)

/-! ### The end of a transaction (R179, R181) -/

/-- The device has answered: IN data that is not isochronous gets an ACK, and what came in goes to the pool. -/
def State.deviceAnswered (s : State) (p result : Nat) (bytes : List Nat) (c : Context) : State :=
  let s := if c.dirIn && c.typ != .iso && decide (3 ≤ result) then s.updTt p (fun r => { r with acks := r.acks + 1 }) else s
  if c.dirIn then s.slotWrite c.slot 0 bytes else s

theorem State.deviceAnswered_regs (s : State) (p result : Nat) (bytes : List Nat) (c : Context) :
    (s.deviceAnswered p result bytes c).regs = s.regs := by
  unfold State.deviceAnswered
  extract_lets s₁
  have acked : s₁.regs = s.regs := by
    unfold s₁
    split <;> rfl
  split
  · exact (State.slotWrite_regs ..).trans acked
  · exact acked

/-- A transaction that has ended leaves the wire, and its context what came of it. -/
def State.transactionEnded (s : State) (p result : Nat) (bytes : List Nat) (busError : Bool) (c : Context) : State :=
  if c.typ == .iso && !c.dirIn then s.dropContext p c.arrival
  else if busError then s.updContext c.arrival (fun d => { d with st := .busError })
  else (s.deviceAnswered p result bytes c).updContext c.arrival
    (fun d => { d with st := .done, result := min result 4, bytes := bytes.drop c.given })

theorem State.transactionEnded_wire (s : State) (p result : Nat) (bytes : List Nat) (busError : Bool) (c : Context) :
    (s.transactionEnded p result bytes busError c).fld F.TT_PSTAT_WIRE p = s.fld F.TT_PSTAT_WIRE p := by
  unfold State.transactionEnded
  split
  · exact s.dropContext_alters _ _ _ _ (by decide)
  · split
    · rfl
    · exact fld_of_regs (s.deviceAnswered_regs ..) _ _

theorem ttTransactionEnd_ends {result : Nat} {bytes : List Nat} {busError : Bool} (sending : s.on F.TT_PSTAT_WIRE p = true)
    (found : (s.held p).find? (fun c => c.st == .onWire) = some c) :
    Completes (.ttTransactionEnd p result bytes busError) s fun t =>
      t.on F.TT_PSTAT_WIRE p = false ∧ (c.typ = .iso → c.dirIn = false → ∀ d ∈ t.pool.contexts, d.arrival ≠ c.arrival)
        ∧ ((c.typ ≠ .iso ∨ c.dirIn = true) → busError = true → ∀ d ∈ t.pool.contexts, d.arrival = c.arrival →
          d.st = .busError)
        ∧ ((c.typ ≠ .iso ∨ c.dirIn = true) → busError = false → ∀ d ∈ t.pool.contexts, d.arrival = c.arrival →
          d.st = .done ∧ d.result = min result 4 ∧ d.bytes = bytes.drop c.given) := by
  let s₁ := s.put F.TT_PSTAT_WIRE p false
  have ends : exec (.ttTransactionEnd p result bytes busError) s = .next (s₁.transactionEnded p result bytes busError c) := by
    have chosen : (s₁.held p).find? (fun c => c.st == .onWire) = some c := found
    refine congrArg Host.Outcome.next ((if_pos sending).trans ?_)
    dsimp only
    rw [chosen]
    rfl
  have stays : (c.typ ≠ .iso ∨ c.dirIn = true) → ¬ (c.typ == .iso && !c.dirIn) = true := by
    rintro (other | inward)
    · simp [other]
    · simp [inward]
  refine ⟨_, ends, ?_, fun iso out => ?_, fun other failed => ?_, fun other answered => ?_⟩
  · exact (State.on_of_fld (s₁.transactionEnded_wire ..)).trans (State.on_put_false ..)
  · have drops : s₁.transactionEnded p result bytes busError c = s₁.dropContext p c.arrival :=
      if_pos (by rw [iso, out]; rfl)
    rw [drops, State.dropContext_contexts]
    intro d member
    simpa using (List.mem_filter.mp member).2
  · have fails : s₁.transactionEnded p result bytes busError c = s₁.updContext c.arrival (fun d => { d with st := .busError }) :=
      (if_neg (stays other)).trans (if_pos failed)
    rw [fails]
    exact State.updContext_changed (fun _ => rfl) fun _ => rfl
  · have finishes : s₁.transactionEnded p result bytes busError c = (s₁.deviceAnswered p result bytes c).updContext c.arrival
        (fun d => { d with st := .done, result := min result 4, bytes := bytes.drop c.given }) :=
      (if_neg (stays other)).trans (if_neg (by rw [answered]; exact Bool.false_ne_true))
    rw [finishes]
    exact State.updContext_changed (fun _ => rfl) fun _ => ⟨rfl, rfl, rfl⟩

/-- Settles O27: each split token is answered by the context that it names or by what is free of the pool, and each transaction
takes its context onto the wire and leaves it the result. -/
theorem splitTransactionCommands : Obligations.SplitTransactionCommands :=
  ⟨fun _ _ _ _ _ _ _ bytes serves => ssplitNonperiodic_takes serves bytes,
    fun _ _ _ _ _ _ _ bytes serves => ssplitNonperiodic_refuses serves bytes,
    fun _ _ _ _ _ _ _ bytes serves => ssplitNonperiodic_repeats serves bytes,
    fun _ _ _ _ _ _ _ _ => csplitNonperiodic_returns, fun _ _ _ _ _ _ _ _ => csplitNonperiodic_waits,
    fun _ _ _ _ _ _ _ => csplitNonperiodic_naks,
    fun _ _ _ _ _ _ _ _ due bytes _ serves => ssplitPeriodic_takes serves due bytes,
    fun _ _ _ _ _ _ _ _ due bytes _ serves => ssplitPeriodic_refuses serves due bytes,
    fun _ _ _ _ _ _ _ _ due bytes _ serves => ssplitPeriodic_findsNone serves due bytes,
    fun _ _ _ _ _ _ _ => csplitNonperiodic_silent,
    fun _ _ _ _ _ _ _ _ due bytes _ serves => ssplitPeriodic_joins serves due bytes,
    fun _ _ _ _ _ _ _ _ due bytes _ serves whole runs room free spent =>
      ssplitPeriodic_ties serves due bytes whole runs room spent free,
    fun _ _ _ _ _ _ _ _ _ _ => csplitPeriodic_returns, fun _ _ _ _ _ _ _ _ _ _ => csplitPeriodic_gives,
    fun _ _ _ _ _ _ _ _ _ _ => csplitPeriodic_answers,
    fun _ _ _ _ _ _ _ _ came _ _ serves found => csplitPeriodic_repeats serves found came,
    fun _ _ _ _ _ _ _ again came serves => csplitPeriodic_unmatched serves again came, fun _ _ _ => badSplit_counts,
    fun _ _ => ttFrameStart_sendsSof, fun _ _ => ttFrameStart_keepsAlive, fun _ _ _ _ _ _ _ => ttTransactionStart_starts,
    fun _ _ _ _ _ _ => ttTransactionEnd_ends⟩

end Sys2Proof.Machine
end
